-- ==== Sys2Proof/Word.lean ====
section
/-! DEFINITION. The word types of the SL192 (R5, R6): a word is 16 bits, a dword 32, bit 15 of a word its most
significant bit. Everything else about words stands in Machine/Bits.lean, where it can be mended. -/

namespace Sys2Proof

/-- A word, R5. -/
abbrev Word := BitVec 16

/-- A dword, R5. -/
abbrev DWord := BitVec 32

/-- One byte of a local address space (R28 counts addresses in bytes). -/
abbrev Byte := BitVec 8

/-- A word of a number, for register values that the manual gives as numbers. -/
abbrev wd (n : Nat) : Word := BitVec.ofNat 16 n

end Sys2Proof
end

