-- ==== Sys2Proof/Names.lean ====
section
/-! DEFINITION. The sets of names that commands carry as operands and that State holds: ports, rings, cores,
message types. Each has an index, which is its place in the vectors of State. -/

namespace Sys2Proof

/-- A ring link port (R33). -/
inductive Port where
  | west | east
  deriving DecidableEq, Repr

/-- West is 0 and east is 1 (R569: 0x000 west, 0x001 east). -/
def Port.ix : Port → Fin 2
  | .west => 0
  | .east => 1

/-- The other port of the node. -/
def Port.other : Port → Port
  | .west => .east
  | .east => .west

/-- A ring (R33): A enters at the west port, B at the east port. -/
inductive Ring where
  | a | b
  deriving DecidableEq, Repr

def Ring.ix : Ring → Fin 2
  | .a => 0
  | .b => 1

def Ring.other : Ring → Ring
  | .a => .b
  | .b => .a

/-- The port at which a ring enters the node (R33). -/
def Ring.inPort : Ring → Port
  | .a => .west
  | .b => .east

/-- The port at which a ring leaves the node (R33). -/
def Ring.outPort : Ring → Port
  | .a => .east
  | .b => .west

/-- The ring whose words a port receives (R33). -/
def Port.inRing : Port → Ring
  | .west => .a
  | .east => .b

/-- The ring whose words a port sends (R33). -/
def Port.outRing : Port → Ring
  | .west => .b
  | .east => .a

/-- A hub core (R394). -/
inductive Core where
  | c0 | c1
  deriving DecidableEq, Repr

def Core.ix : Core → Fin 2
  | .c0 => 0
  | .c1 => 1

def Core.other : Core → Core
  | .c0 => .c1
  | .c1 => .c0

/-- A direction of the isolation barrier (R14). -/
inductive BarDir where
  | hf | fh
  deriving DecidableEq, Repr

def BarDir.ix : BarDir → Fin 2
  | .hf => 0
  | .fh => 1

/-- The nine crossing messages of R14. -/
inductive BarType where
  | claim | faultReport | timeSync | imageOut | imageIn | signal | regAccess | chunk | debugMsg
  deriving DecidableEq, Repr

/-- The rank of R14, less one: 0 is the highest. -/
def BarType.rank : BarType → Fin 9
  | .claim => 0
  | .faultReport => 1
  | .timeSync => 2
  | .imageOut => 3
  | .imageIn => 4
  | .signal => 5
  | .regAccess => 6
  | .chunk => 7
  | .debugMsg => 8

/-- An initiator path of R493. -/
inductive Path where
  | qspi | envelope | bridge | service | debugPort
  deriving DecidableEq, Repr

/-- The code of R493, which HUB_PATH returns. -/
def Path.code : Path → Nat
  | .qspi => 0
  | .envelope => 1
  | .bridge => 2
  | .service => 3
  | .debugPort => 4

/-- A host uplink (R469). -/
inductive Uplink where
  | ten | one
  deriving DecidableEq, Repr

def Uplink.ix : Uplink → Fin 2
  | .ten => 0
  | .one => 1

end Sys2Proof
end

