-- ==== Sys2Proof/Machine/Bits.lean ====
section
/-! DEFINITION. Bit fields, saturating counts, big-endian packing, the CRCs of the manual and the updates of the
fixed arrays of State. -/

namespace Sys2Proof

/-- The field [hi:lo] of a word, R6. -/
def fld (w : Word) (hi lo : Nat) : Nat := (w.toNat >>> lo) % 2 ^ (hi + 1 - lo)

/-- Bit i of a word, R6. -/
def bitOf (w : Word) (i : Nat) : Bool := w.getLsbD i

/-- One bit as a number. -/
def b2n (b : Bool) : Nat := if b then 1 else 0

/-- The bit i, set or clear, as a word. -/
def bitW (b : Bool) (i : Nat) : Word := wd (b2n b <<< i)

/-- A number placed in field [hi:lo] of a word that is 0 elsewhere; bits beyond the field are cut off. -/
def putFld (n hi lo : Nat) : Word := wd ((n % 2 ^ (hi + 1 - lo)) <<< lo)

/-- A count that saturates at `top`. -/
def satAdd (top n k : Nat) : Nat := min top (n + k)

/-- A register counter saturates at 0xFFFF (R32 and every counter of the register blocks). -/
def bumpW (w : Word) (k : Nat) : Word := wd (satAdd 0xFFFF w.toNat k)

/-- A signed value saturated to 16 bits, for the registers the manual calls saturating. -/
def satInt16 (i : Int) : Word := BitVec.ofInt 16 (max (-32768) (min 32767 i))

/-- A limit register in which 0 acts as 1. -/
def atLeastOne (n : Nat) : Nat := if n = 0 then 1 else n

/-- Words, most significant first, as one number (R5). -/
def ofWords : List Word → Nat
  | [] => 0
  | w :: t => w.toNat * 2 ^ (16 * t.length) + ofWords t

/-- The k low words of a number, most significant first (R5). -/
def toWords : Nat → Nat → List Word
  | 0, _ => []
  | k + 1, n => wd (n >>> (16 * k)) :: toWords k n

/-- Signed difference of two counts modulo 2^32, as cycle numbers are compared. -/
def diff32 (x y : DWord) : Int := (x - y).toInt

/-- One bit of a CRC register of `w` bits, most significant bit first: shift in the bit `b`, and where the bit that
leaves differs from 0 add the polynomial. -/
def crcBit (w poly : Nat) (r : Nat) (b : Bool) : Nat :=
  let out := r.testBit (w - 1) != b
  let r' := (r * 2) % 2 ^ w
  if out then r' ^^^ poly else r'

/-- A CRC over the bits of one word, bit 15 first. -/
def crcWord (w poly : Nat) (r : Nat) (x : Word) : Nat :=
  (List.range 16).foldl (fun r i => crcBit w poly r (x.getLsbD (15 - i))) r

/-- A CRC over words, most significant bit of each first, from a start value. -/
def crcWords (w poly init : Nat) (l : List Word) : Nat := l.foldl (crcWord w poly) init

/-- One place of a fixed array of State. -/
def vget {α : Type} {n : Nat} (v : Vector α n) (i : Fin n) : α := v[i.val]

/-- A fixed array of State with one place changed. -/
def vset {α : Type} {n : Nat} (v : Vector α n) (i : Fin n) (x : α) : Vector α n := v.set i.val x i.isLt

/-- A fixed array of State with one place changed by a function of its content. -/
def vupd {α : Type} {n : Nat} (v : Vector α n) (i : Fin n) (f : α → α) : Vector α n := vset v i (f (vget v i))

/-- A number below n as a place of an array of n, where it is one. -/
def place? (n k : Nat) : Option (Fin n) := if h : k < n then some ⟨k, h⟩ else none

end Sys2Proof
end

