-- ==== Sys2Proof/Machine/LinkTypes.lean ====
section
/-! DEFINITION. The plain data of a ring link port (R33-R61) and of the words on its lanes. -/

namespace Sys2Proof

/-- The port states of R44. -/
inductive LinkState where
  | down | training | sync | up | degraded
  deriving DecidableEq, Repr

def LinkState.code : LinkState → Nat
  | .down => 0
  | .training => 1
  | .sync => 2
  | .up => 3
  | .degraded => 4

/-- A port carries ring traffic only in UP and DEGRADED (R44). -/
def LinkState.carries : LinkState → Bool
  | .up | .degraded => true
  | _ => false

/-- A word on the ring (R35). -/
inductive RingWord where
  | data (w : Word)
  | idle
  | cm
  | sb (v : Byte)
  | ieOpen
  | ieClose
  | ls (status : Byte)
  | echoReq (tag : Byte)
  | echoRsp (tag : Byte)
  | wake (reason : Byte)
  | err
  deriving DecidableEq, Repr

/-- A code group of a lane: ten bits of the 8b/10b line code (R34). -/
abbrev Code := BitVec 10

/-- Where a transmitter takes its frequency from (R39): the prompter's own time reference, the receive lanes of a port, REFCLK_R. -/
inductive FreqSource where
  | own
  | lanes (p : Port)
  | refclk
  deriving DecidableEq, Repr

/-- What a transmitter sends (R44, R48): electrical idle, the training pattern, IDLE with LS, or ring traffic. -/
inductive Sends where
  | electricalIdle | training | idleLs | traffic
  deriving DecidableEq, Repr

/-- How a receive lane fails (R39, R46, R56): its signal or CDR lock is lost, the module reports loss of signal, or its rate differs
from REFCLK_R by so many parts in 10^9. -/
inductive LaneLoss where
  | signal
  | module
  | rate (ppb : Int)
  deriving DecidableEq, Repr

/-- One receive lane (R50-R53). -/
structure Lane where
  locked : Bool
  trained : Bool
  inverted : Bool
  /-- running disparity of the receiver, positive where true (R34) -/
  rd : Bool
  /-- lane number the far TSID names -/
  number : Nat
  /-- state of the far receiver on this lane: 0 not locked, 1 locked, 2 trained -/
  far : Nat
  eye : BitVec 8
  /-- since when the eye has stayed below LNK_DEG_THR.EYE -/
  eyeLow : Option Nat
  /-- continuous-time coefficient and five decision-feedback taps, in steps (R51) -/
  coef : Vector Int 6
  /-- instant of the last step of each coefficient -/
  stepAt : Vector (Option Nat) 6
  deriving DecidableEq, Repr

def Lane.init : Lane := ⟨false, false, false, false, 0, 0, 0, none, Vector.replicate 6 0, Vector.replicate 6 none⟩

/-- A ring link port. -/
structure LinkPort where
  state : LinkState
  /-- held by flap damping (R48) -/
  held : Bool
  holdUntil : Nat
  /-- seconds of the last hold-off, and the instant it ended -/
  holdLen : Nat
  holdEnd : Option Nat
  /-- entries to DOWN from UP or DEGRADED that damping counts -/
  downs : List Nat
  /-- waiting out 1 s after a wrong-side connection (R54) -/
  sideWait : Bool
  /-- held DOWN by the PORT reaction (R419) -/
  faultHeld : Bool
  /-- instant it entered TRAINING, or a RETRAIN there (R44, R60) -/
  trainAt : Nat
  far : Nat
  farSide : Bool
  lanes : Vector Lane 2
  swapped : Bool
  skew : Nat
  skewLate : Bool
  fill : Nat
  /-- tag of the next ECHO_REQ (R38) -/
  tag : BitVec 8
  /-- the last ECHO_REQ received and not yet answered: tag and arrival in ring time (R38) -/
  echoDue : Option (Byte × Nat)
  /-- an ECHO_RSP whose data words are arriving: its tag and the words so far, none for one in error (R35) -/
  echoIn : Option (Byte × List (Option Word))
  trCause : Nat
  /-- LNK_x_CFG as taken at the last entry to TRAINING (R61) -/
  cfg : Word
  /-- instants of word errors, newest first, for R47 and R44 -/
  werrs : List Nat
  /-- consecutive far LS words showing SYNC, UP or DEGRADED -/
  lsRun : Nat
  /-- reception has been IDLE only since this instant (R51) -/
  idleSince : Option Nat
  /-- the cue sequencer uses the port: a marker has passed since UP (R44) -/
  inUse : Bool
  deriving DecidableEq, Repr

def LinkPort.init : LinkPort where
  state := .down
  held := false
  holdUntil := 0
  holdLen := 0
  holdEnd := none
  downs := []
  sideWait := false
  faultHeld := false
  trainAt := 0
  far := 0
  farSide := false
  lanes := Vector.replicate 2 .init
  swapped := false
  skew := 0
  skewLate := false
  fill := 8
  tag := 0
  echoDue := none
  echoIn := none
  trCause := 0
  cfg := 0
  werrs := []
  lsRun := 0
  idleSince := none
  inUse := false

/-- The word that the characters of lane 0 and lane 1 form (R35), each K or D with its byte; none where the table allows no such
combination (R37). -/
def classify (c0 c1 : Bool × Byte) : Option RingWord :=
  match c0.1, c1.1 with
  | false, false => some (.data (c0.2 ++ c1.2))
  | true, true =>
    if c0.2 = 0xBC ∧ c1.2 = 0xBC then some .idle
    else if c0.2 = 0x3C ∧ c1.2 = 0x3C then some .cm
    else if c0.2 = 0xFE ∧ c1.2 = 0xFE then some .err
    else none
  | true, false =>
    if c0.2 = 0x5C then (if c1.2 = 1 ∨ c1.2 = 2 then some (.sb c1.2) else none)
    else if c0.2 = 0xDC then
      (if c1.2 = 1 then some .ieOpen else if c1.2 = 2 then some .ieClose else none)
    else if c0.2 = 0x7C then some (.ls c1.2)
    else if c0.2 = 0xF7 then some (.echoReq c1.2)
    else if c0.2 = 0xFD then some (.echoRsp c1.2)
    else if c0.2 = 0x9C then some (.wake c1.2)
    else none
  | false, true => none

/-- The hop-local words, which a node consumes and never forwards (R36). -/
def RingWord.hopLocal : RingWord → Bool
  | .sb v => decide (v = 2)
  | .ls _ | .echoReq _ | .echoRsp _ => true
  | _ => false

end Sys2Proof
end

