-- ==== Sys2Proof/Machine/SwitchTypes.lean ====
section
/-! DEFINITION. The plain data of event frames, the event streams and the switch (R142-R171). -/

namespace Sys2Proof

/-- An event frame: four header words and the payload (R142, R143). The CRC is not stored: a frame's CRC is that of its
content unless `crcOk` says it failed its check as received. -/
structure Frame where
  w0 : Word
  w1 : Word
  w2 : Word
  w3 : Word
  payload : List Word
  crcOk : Bool
  deriving DecidableEq, Repr

/-- CLASS: 0 URGENT, 1 CONTROL, 2 NORMAL, 3 BULK (R143). -/
def Frame.cls (f : Frame) : Nat := fld f.w0 15 14
def Frame.ringB (f : Frame) : Bool := bitOf f.w0 13
def Frame.pass (f : Frame) : Bool := bitOf f.w0 12
def Frame.ref (f : Frame) : Bool := bitOf f.w0 11
def Frame.type (f : Frame) : Nat := fld f.w0 10 8
def Frame.sub (f : Frame) : Nat := fld f.w0 7 0
def Frame.dring (f : Frame) : Nat := fld f.w1 15 12
def Frame.dnode (f : Frame) : Nat := fld f.w1 11 0
def Frame.sring (f : Frame) : Nat := fld f.w2 15 12
def Frame.snode (f : Frame) : Nat := fld f.w2 11 0
def Frame.tag (f : Frame) : Nat := fld f.w3 15 10
def Frame.len (f : Frame) : Nat := fld f.w3 9 0

/-- A frame with REF set or clear. -/
def Frame.setRef (f : Frame) (b : Bool) : Frame := { f with w0 := (f.w0 &&& 0xF7FF) ||| bitW b 11 }

/-- A frame with PASS set or clear. -/
def Frame.setPass (f : Frame) (b : Bool) : Frame := { f with w0 := (f.w0 &&& 0xEFFF) ||| bitW b 12 }

/-- A frame with the RING bit of the ring it is inserted on. -/
def Frame.setRing (f : Frame) (b : Bool) : Frame := { f with w0 := (f.w0 &&& 0xDFFF) ||| bitW b 13 }

/-- The words of a frame before its CRC. -/
def Frame.body (f : Frame) : List Word := [f.w0, f.w1, f.w2, f.w3] ++ f.payload

/-- The CRC-32 of R69's parameters over the header and the payload (R144). -/
def Frame.crc (f : Frame) : Nat := crcWords 32 0x04C11DB7 0xFFFFFFFF f.body ^^^ 0xFFFFFFFF

/-- All words of a frame, with its CRC, most significant word first (R142). -/
def Frame.words (f : Frame) : List Word := f.body ++ toWords 2 f.crc

/-- The CRC of a frame as its source made it, without the marks of a ring (R148, R149). -/
def Frame.plainCrc (f : Frame) : Nat := (((f.setRef false).setPass false).setRing false).crc

/-- Words a frame occupies: header, payload and CRC. -/
def Frame.size (f : Frame) : Nat := 6 + f.payload.length

/-- Cells of 64 bytes a frame occupies (R161). -/
def Frame.cells (f : Frame) : Nat := (2 * f.size + 63) / 64

/-- A frame of this node: class, type, SUB, destination word, source word, TAG, payload. -/
def Frame.mk' (cls type sub : Nat) (dest src : Word) (tag : Nat) (payload : List Word) : Frame where
  w0 := putFld cls 15 14 ||| putFld type 10 8 ||| putFld sub 7 0
  w1 := dest
  w2 := src
  w3 := putFld tag 15 10 ||| putFld payload.length 9 0
  payload := payload
  crcOk := true

/-- Where a queued frame comes from, for the completions of R214: the transaction's endpoint and sequence number. -/
structure Origin where
  ep : Nat
  tag : Nat
  seq : Nat
  op : Nat
  deriving DecidableEq, Repr

/-- A frame in the switch. -/
structure QEntry where
  frame : Frame
  /-- input port it came from; 20 for a notice of this node, which no port brings -/
  input : Nat
  /-- instant of its first word in (R168) -/
  since : Nat
  /-- refusals so far (R149) -/
  refusals : Nat
  origin : Option Origin
  /-- joints crossed (R197) -/
  joints : Nat
  deriving DecidableEq, Repr

/-- A flow and the ring it is pinned to (R165, R166). -/
structure Flow where
  ep : Nat
  dest : Word
  cls : Nat
  ring : Ring
  /-- moved from its choice under R165 -/
  repinned : Bool
  /-- cycle of the last frame that waited, and of the END notice (R166) -/
  lastCycle : DWord
  endCycle : Option DWord
  deriving DecidableEq, Repr

/-- A retirement: what becomes of a frame that leaves the switch otherwise than through an output. -/
inductive Retire where
  | noDest | aged | portDown | refused | ecc | size | noRoute
  deriving DecidableEq, Repr

/-- The status code of R206 of a retirement. -/
def Retire.status : Retire → Nat
  | .size => 1
  | .noDest => 3
  | .noRoute => 5
  | .portDown => 6
  | .aged => 7
  | .refused => 8
  | .ecc => 9

/-- A unit the lead has sent that waits for the understudy's counterpart (R402). -/
structure CompareUnit where
  stage : Nat
  at_ : Nat
  deriving DecidableEq, Repr

structure SwitchState where
  /-- 80 queues, by 4 x port + class -/
  queues : Vector (List QEntry) 80
  /-- inputs back-pressured, with the queue of the frame that waits -/
  bp : Vector (Option Nat) 20
  /-- ports a PORT_DOWN has taken down that no other unit keeps down: the service engine's (R160) -/
  down : Vector Bool 20
  /-- ports held down by the PORT reaction -/
  faultHeld : Vector Bool 20
  /-- words sent by NORMAL and by BULK while both wait, for the ratio of R162, per output -/
  share : Vector (Nat × Nat) 20
  flows : List Flow
  /-- frames counted toward the next sample (R169) -/
  sampleCount : Nat
  /-- instants of single-bit corrections of the last second (source 0x049) -/
  eccTimes : List Nat
  compares : List CompareUnit
  /-- inputs above a cut quota (R164) -/
  cut : Vector Bool 20
  /-- refusals of this node's frames that are on a ring: the ring, the frame's CRC before its marks, the refusals so far (R149) -/
  refs : List (Ring × Nat × Nat)
  /-- breaks announced by line-head notices: the ring and its line head (R88, R166) -/
  breaks : List (Ring × Nat)
  deriving DecidableEq, Repr

def SwitchState.init : SwitchState where
  queues := Vector.replicate 80 []
  bp := Vector.replicate 20 none
  down := Vector.replicate 20 false
  faultHeld := Vector.replicate 20 false
  share := Vector.replicate 20 (0, 0)
  flows := []
  sampleCount := 0
  eccTimes := []
  compares := []
  cut := Vector.replicate 20 false
  refs := []
  breaks := []

/-- A frame whose words are passing the node. -/
structure Passing where
  /-- words still to come, CRC included -/
  left : Nat
  /-- IDLE is sent in place of its words -/
  strip : Bool
  cls : Nat
  /-- the words still to leave, in order, where they may differ from those received: REF or PASS with the CRC (R144), the
  words of a roll page (R182); none is a word sent as received, and words past the end are sent as received -/
  subst : List (Option RingWord)
  deriving DecidableEq, Repr

/-- A frame this node has delivered, as it recognises it (R148), and the cycle in which it did. -/
structure Deliv where
  snode : Nat
  tag : Nat
  crc : Nat
  cycle : DWord
  deriving DecidableEq, Repr

/-- A frame of the node's own that is leaving, with its words still to leave, those of an interjection between IE_OPEN and IE_CLOSE
(R153, R156). -/
structure Outgoing where
  entry : QEntry
  words : List RingWord
  deriving DecidableEq, Repr

/-- What is left of it as ERR words (R409, R430); the words around an interjection stay. -/
def Outgoing.cut (o : Outgoing) : Outgoing := { o with words := o.words.map fun w => if w = .ieOpen ∨ w = .ieClose then w else .err }

/-- No word of it has left yet. -/
def Outgoing.whole (o : Outgoing) : Bool := decide (o.entry.frame.size ≤ o.words.length)

/-- The event stream of one ring at this node (R146-R158). -/
structure EventStream where
  frame : Option Passing
  inter : Option Passing
  /-- an IE_OPEN has been received and the interjected header is due -/
  interDue : Bool
  /-- in the event region of the received stream cycle -/
  open_ : Bool
  /-- hop-band words still to be received and consumed (R36, R38) -/
  band : Nat
  /-- the node has sent its own hop band: until the next marker it sends IDLE (R67) -/
  ended : Bool
  /-- insertion buffer, oldest first (R153), each word with the class of the passing frame that goes on after it; class 0
  also inside an interjection -/
  buffer : List (RingWord × Option Nat)
  /-- class of the passing frame that goes on after the word last sent -/
  inside : Option Nat
  /-- words inserted in this stream cycle, and debt carried into it (R154) -/
  used : Nat
  debt : Nat
  /-- transit store of the active prompter, oldest first (R151), as `buffer` -/
  store : List (RingWord × Option Nat)
  /-- own frames that are leaving: the one whose words go now, before those it interrupts or goes ahead of -/
  sending : List Outgoing
  /-- where the node drives the outgoing stream itself: the instant up to which its word times are used -/
  outAt : Nat
  /-- frames delivered lately (R148) -/
  delivered : List Deliv
  /-- words sent by the last command that sent words on this ring, in order -/
  tx : List RingWord
  /-- the same words as lane 0 and lane 1 carry them, and the running disparities of the two lanes after them (R34) -/
  line : List (Code × Code)
  txRd : Bool × Bool
  deriving DecidableEq, Repr

def EventStream.init : EventStream where
  frame := none
  inter := none
  interDue := false
  open_ := false
  band := 0
  ended := false
  buffer := []
  inside := none
  used := 0
  debt := 0
  store := []
  sending := []
  outAt := 0
  delivered := []
  tx := []
  line := []
  txRd := (false, false)

end Sys2Proof
end

