-- ==== Sys2Proof/Machine/BridgeTypes.lean ====
section
/-! DEFINITION. The plain data of transactions, the bridge and the signals (R201-R235). -/

namespace Sys2Proof

/-- The operations of R205. -/
inductive TxnOp where
  | rd | wr | pwr | gwr | lrd | lwr | semacq | semrel | stg | commit | abort | sig | cancel | rsp | range | reserved
  deriving DecidableEq, Repr

def TxnOp.code : TxnOp → Nat
  | .rd => 0
  | .wr => 1
  | .pwr => 2
  | .gwr => 3
  | .lrd => 4
  | .lwr => 5
  | .semacq => 6
  | .semrel => 7
  | .stg => 8
  | .commit => 9
  | .abort => 0xA
  | .sig => 0xB
  | .cancel => 0xC
  | .rsp => 0xD
  | .range => 0xE
  | .reserved => 0xF

def TxnOp.ofCode (n : Nat) : TxnOp :=
  match n with
  | 0 => .rd
  | 1 => .wr
  | 2 => .pwr
  | 3 => .gwr
  | 4 => .lrd
  | 5 => .lwr
  | 6 => .semacq
  | 7 => .semrel
  | 8 => .stg
  | 9 => .commit
  | 10 => .abort
  | 11 => .sig
  | 12 => .cancel
  | 13 => .rsp
  | 14 => .range
  | _ => .reserved

/-- Posted requests, COMMIT, ABORT, CANCEL and signals draw no response (R205). -/
def TxnOp.posted : TxnOp → Bool
  | .pwr | .commit | .abort | .sig | .cancel => true
  | _ => false

/-- The statuses of R206. -/
abbrev stOK : Nat := 0x00
abbrev stSIZE : Nat := 0x01
abbrev stUNMAPPED : Nat := 0x02
abbrev stNO_DEST : Nat := 0x03
abbrev stBAD_DEST : Nat := 0x04
abbrev stNO_ROUTE : Nat := 0x05
abbrev stPORT_DOWN : Nat := 0x06
abbrev stAGED : Nat := 0x07
abbrev stREFUSED : Nat := 0x08
abbrev stECC : Nat := 0x09
abbrev stTIMEOUT : Nat := 0x0A
abbrev stLOCK_TIMEOUT : Nat := 0x0B
abbrev stLOCK_MODE : Nat := 0x0C
abbrev stSEM_BUSY : Nat := 0x0D
abbrev stNOT_OWNER : Nat := 0x0E
abbrev stBAD_OP : Nat := 0x0F
abbrev stWRITER : Nat := 0x10
abbrev stSTG_ADDR : Nat := 0x11
abbrev stSTG_FULL : Nat := 0x12
abbrev stSTG_LATE : Nat := 0x13
abbrev stSTG_ABORT : Nat := 0x14
abbrev stPARTIAL : Nat := 0x15

/-- Who issued a request: its ring, node and endpoint (R225, R229). -/
structure Issuer where
  ring : Nat
  node : Nat
  ep : Nat
  deriving DecidableEq, Repr

/-- A request as a target receives it (R204, R205). -/
structure Request where
  src : Issuer
  tag : Nat
  seq : Nat
  /-- class of its frame -/
  cls : Nat
  burst : Bool
  /-- LEN: data words less one -/
  len : Nat
  cg : Bool
  cell : Nat
  addr : Nat
  /-- SET and commit cycle of STG, COMMIT and ABORT -/
  set : Nat
  cycle : DWord
  data : List Word
  deriving DecidableEq, Repr

/-- Who sent an envelope: the address, port and sequence by which repeats are known (R474). -/
structure EnvKey where
  uplink : Uplink
  mac : Nat
  ip : Nat
  port : Nat
  seq : Word
  deriving DecidableEq, Repr

/-- Through what a requester handed the bridge a descriptor, and takes its completion. -/
inductive ReqVia where
  | plain
  /-- a TXN conduit (R250) -/
  | conduit (cluster q : Nat)
  /-- item of an envelope (R474) -/
  | envelope (key : EnvKey) (item : Nat)
  /-- the debug access port (R508) -/
  | dap
  deriving DecidableEq, Repr

/-- A descriptor a local requester hands the bridge (R204). -/
structure Descriptor where
  ep : Nat
  op : TxnOp
  dring : Nat
  dnode : Nat
  /-- node count of a RANGE; of a forwarded signal, its entry plus one -/
  count : Nat
  burst : Bool
  len : Nat
  cg : Bool
  cell : Nat
  addr : Nat
  set : Nat
  cycle : DWord
  data : List Word
  deriving DecidableEq, Repr

/-- A response of a target: status and data (R205). -/
structure Response where
  status : Nat
  data : List Word
  deriving DecidableEq, Repr

/-- A completion returned to a requester: endpoint, tag, sequence number, status, data words. -/
structure Completion where
  ep : Nat
  tag : Nat
  seq : Nat
  op : TxnOp
  status : Nat
  data : List Word
  deriving DecidableEq, Repr

/-- An answer of one member of a GWR or one node of a RANGE. -/
structure Answer where
  node : Nat
  status : Nat
  deriving DecidableEq, Repr

/-- A request this node has open (R202, R210). -/
structure OpenReq where
  desc : Descriptor
  tag : Nat
  seq : Nat
  attempts : Nat
  /-- nodes whose answers are expected, for GWR and RANGE -/
  expected : List Nat
  answers : List Answer
  via : ReqVia
  deriving DecidableEq, Repr

/-- A descriptor that waits for a tag or for the pacing window (R202, R203). -/
structure HeldReq where
  desc : Descriptor
  via : ReqVia
  deriving DecidableEq, Repr

/-- An endpoint (R202, R203). -/
structure Endpoint where
  seq : Word
  /-- descriptors held for a tag or by pacing (R202, R203) -/
  held : List HeldReq
  ploss : Bool
  /-- instants of issue inside the pacing window (R203) -/
  window : List Nat
  /-- a signal held until posted requests have left (R218) -/
  heldSigs : List Descriptor
  /-- posted requests issued and not yet gone from the node, by destination -/
  posted : List Word
  /-- cycle of the last posted request or signal, by destination and ring (R219) -/
  recent : List (Word × Ring × DWord)
  deriving DecidableEq, Repr

def Endpoint.init : Endpoint := ⟨0, [], false, [], [], [], []⟩

/-- An entry of the duplicate filter (R215). -/
structure DupEntry where
  src : Issuer
  tag : Nat
  seq : Nat
  /-- the response, once there is one; none while under way or where none is due -/
  response : Option Response
  done : Bool
  /-- a CANCEL reached it while it was under way, or before it came (R212) -/
  cancelled : Bool
  op : TxnOp
  deriving DecidableEq, Repr

/-- A far-error log entry (R213). -/
structure FarError where
  cancelled : Bool
  op : TxnOp
  status : Nat
  src : Issuer
  tag : Nat
  seq : Nat
  addr : Nat
  deriving DecidableEq, Repr

/-- A semaphore cell (R225). -/
structure SemCell where
  owner : Option Issuer
  at_ : Nat
  deriving DecidableEq, Repr

/-- A far lock (R223). -/
structure FarLock where
  owner : Issuer
  addr : Nat
  len : Nat
  /-- instant of the execution of its LRD (R224) -/
  since : Nat
  deriving DecidableEq, Repr

/-- A staged write at a target (R229). -/
structure Staged where
  src : Issuer
  set : Nat
  cycle : DWord
  addr : Nat
  data : List Word
  committed : Bool
  deriving DecidableEq, Repr

/-- A staging set this node has open as requester (R229, R230). -/
structure OpenSet where
  ep : Nat
  set : Nat
  cycle : DWord
  open_ : Nat
  /-- first failing node and status -/
  failed : Option (Nat × Nat)
  /-- COMMIT has been asked for, and who takes its completion -/
  closing : Option ReqVia
  deriving DecidableEq, Repr

/-- A signal in the inbox (R220). -/
structure SigEntry where
  src : Issuer
  num : Nat
  d0 : Word
  d1 : Word
  deriving DecidableEq, Repr

/-- A request waiting in a target buffer because the target is locked or must keep order (R216, R223). -/
structure Waiting where
  op : TxnOp
  req : Request
  deriving DecidableEq, Repr

/-- Who takes the outcome of an access to the local address space. -/
inductive AccessFor where
  /-- nobody: a posted request, or a write of no further interest -/
  | none
  /-- the source of a request this bridge serves -/
  | bridge (w : Waiting)
  /-- word `index` of a QSPI frame (R481) -/
  | qspi (index : Nat)
  /-- the debug access port (R508) -/
  | dap
  deriving DecidableEq, Repr

/-- An access to the local address space (R28, R207): a read of `count` words, or a write. -/
structure LocalAccess where
  path : Path
  who : AccessFor
  addr : Nat
  count : Nat
  burst : Bool
  write : Option (List Word)
  deriving DecidableEq, Repr

/-- An access that waits for the responses of the field die: messages still to be answered, status and data so far. -/
structure FieldWait where
  id : Nat
  who : AccessFor
  left : Nat
  status : Nat
  data : List Word
  deriving DecidableEq, Repr

structure BridgeState where
  eps : Vector Endpoint 32
  opens : List OpenReq
  dups : List DupEntry
  ferr : List FarError
  cells : Vector SemCell 16
  lock : Option FarLock
  waiting : List Waiting
  staged : List Staged
  sets : List OpenSet
  inbox : List SigEntry
  /-- completions for requesters that hold none of their own: the service engine and endpoint 5 -/
  completions : List Completion
  /-- entries whose source's present 1 draws no SIG any more: it has drawn one, or was there when the entry was written (R221) -/
  fwdSeen : Vector Bool 8
  /-- accesses that wait for the field die, and the next access number -/
  fieldWaits : List FieldWait
  nextAccess : Nat
  /-- accesses of local initiators that wait while the target is locked (R223), oldest first -/
  blocked : List LocalAccess
  deriving DecidableEq, Repr

def BridgeState.init : BridgeState where
  eps := Vector.replicate 32 .init
  opens := []
  dups := []
  ferr := []
  cells := Vector.replicate 16 ⟨none, 0⟩
  lock := none
  waiting := []
  staged := []
  sets := []
  inbox := []
  completions := []
  fwdSeen := Vector.replicate 8 false
  fieldWaits := []
  nextAccess := 0
  blocked := []

end Sys2Proof
end

