-- ==== Sys2Proof/Machine/TimeTypes.lean ====
section
/-! DEFINITION. The plain data of the timekeepers, the delay measurement, the time domains (R108-R129), the cue pulse
units (R130-R133) and the edge-stamp FIFOs (R134, R135).

All instants are counted in TICKS of 1/1,638,400 ns, in which 2^-16 ns, 3.2 ns, 10 ps and 1/512 ns are whole. -/

namespace Sys2Proof

/-- Ticks in a nanosecond. -/
abbrev nsT : Nat := 1638400

/-- Ticks in a word time of 3.2 ns (R34). -/
abbrev wordT : Nat := 5242880

abbrev usT : Nat := 1000 * nsT
abbrev msT : Nat := 1000000 * nsT
abbrev secT : Nat := 1000000000 * nsT

/-- The seconds, nanoseconds and 2^-16 ns fraction of a ring time in ticks (R108). -/
def secOf (t : Int) : Nat := (t / secT).toNat
def nsOf (t : Int) : Nat := ((t % secT) / nsT).toNat
def fracOf (t : Int) : Nat := (((t % nsT) * 65536) / nsT).toNat

/-- A ring time from seconds and nanoseconds. -/
def ringOf (sec ns : Nat) : Int := (sec * secT + ns * nsT : Nat)

/-- The last delay report from an upstream neighbour (R111). Times in 1/256 ns. -/
structure DelayRep where
  valid : Bool
  lh : Bool
  hops : Nat
  phi : Nat
  x : Int
  n : Nat
  /-- cycle in which it arrived -/
  cycle : DWord
  deriving DecidableEq, Repr

/-- Echo measurement of one port (R112). Results in ticks, newest first, at most 64. -/
structure EchoState where
  results : List Int
  /-- unanswered requests: tag, transmit stamp, cycle sent -/
  open_ : List (Byte × Int × DWord)
  deriving DecidableEq, Repr

def EchoState.init : EchoState := ⟨[], []⟩

/-- Delay and phase of one ring (R113-R115). -/
structure RingTime where
  report : Option DelayRep
  /-- last phase error in ticks -/
  err : Int
  /-- receive stamp to transmit stamp of the last CM word (R111), in ticks -/
  transit : Int
  /-- loop closure (1/16 ns register TIM_CLOSE) and loop delay, in ticks, at the active prompter -/
  closure : Int
  loop : Int
  /-- marker arrival of the active prompter's own marker, in ticks after its sending -/
  ranged : Bool
  /-- nominal phase P of the active prompter on this ring, in ticks (R92) -/
  nominal : Int
  /-- cycle of the last delay report sent on this ring (R111) -/
  sentAt : Option DWord
  /-- instant of the last slip of the ring's receive port, as reported to the timekeeper (R41) -/
  slipAt : Option Nat
  deriving DecidableEq, Repr

def RingTime.init : RingTime := ⟨none, 0, 0, 0, 0, false, 0, none, none⟩

/-- A time notice kept for the offset of the domains (R122, R123). -/
structure TimeNote where
  cycle : DWord
  /-- S of that cycle in the sender's domain, in ticks -/
  s : Int
  rate : Int
  /-- the node's own count at that cycle, to carry it -/
  ownS : Int
  hold : Bool
  ptp : Bool
  deriving DecidableEq, Repr

structure TimeState where
  /-- ring time minus local instant, in ticks -/
  ofs : Int
  /-- the node's domain: B (R110) -/
  dom : Bool
  /-- S of the current cycle, in ring time; `sCycle` is the cycle -/
  s : Int
  sCycle : DWord
  sValid : Bool
  /-- cycles with the sum of the lengths the node has counted up to each, SLEW included, newest first (R123) -/
  counts : List (DWord × Int)
  /-- local instant at which a prompter's own domain reads 0 (R122, R538) -/
  ownZero : Option Int
  locked : Bool
  everLocked : Bool
  okRun : Nat
  badRun : Nat
  /-- discipline ring of the last marker -/
  src : Option Ring
  /-- consecutive cycles without a usable marker (R126) -/
  missRun : Nat
  /-- the last cycle of which R126 has judged whether it passed without a usable marker -/
  passed : Option DWord
  /-- the cycles whose sample, latch and flip instants came last (R76, R116) -/
  instDone : Vector (Option DWord) 3
  hold : Bool
  gap : Bool
  /-- gap values until locked after a step (R116) -/
  stepGap : Bool
  /-- a latch instant has come since one of the two was set: outputs are at their gap values -/
  gapTaken : Bool
  settle : Nat
  /-- step due at the next cycle boundary (R116) -/
  stepDue : Option Int
  xRun : Nat
  rings : Vector RingTime 2
  echo : Vector EchoState 2
  /-- offset of domain B from domain A in ticks, its rate in 0.01 ppb, and the instant it was formed -/
  ofsBA : Int
  ofsRate : Int
  ofsAt : Nat
  ofsValid : Bool
  noteA : Option TimeNote
  noteB : Option TimeNote
  /-- cycle of the last time notice this node sent (R122) -/
  noticeAt : Option DWord
  /-- this prompter began at PTP time or 0; its own domain's offset against the ring (R122) -/
  ptpFar : Bool
  ptpLost : Bool
  /-- field-side timekeeper: ring time minus local instant, domain, holdover (R14, R121) -/
  fofs : Int
  fdom : Bool
  fhold : Bool
  /-- instants the field side knows: sample, latch and flip, in ring time (R14) -/
  fsmp : Int
  flat : Int
  fflp : Int
  deriving DecidableEq, Repr

def TimeState.init : TimeState where
  ofs := 0
  dom := false
  s := 0
  sCycle := 0
  sValid := false
  counts := []
  ownZero := none
  locked := false
  everLocked := false
  okRun := 0
  badRun := 0
  src := none
  missRun := 0
  passed := none
  instDone := Vector.replicate 3 none
  hold := false
  gap := false
  stepGap := false
  gapTaken := false
  settle := 0
  stepDue := none
  xRun := 0
  rings := Vector.replicate 2 .init
  echo := Vector.replicate 2 .init
  ofsBA := 0
  ofsRate := 0
  ofsAt := 0
  ofsValid := false
  noteA := none
  noteB := none
  noticeAt := none
  ptpFar := false
  ptpLost := false
  fofs := 0
  fdom := false
  fhold := false
  fsmp := 0
  flat := 0
  fflp := 0

/-- A cue pulse program (R131): times in ns but T in ticks of ring time. -/
structure PulseProg where
  t : Int
  width : Nat
  period : Nat
  count : Nat
  periodic : Bool
  /-- POL: 1 is a low pulse -/
  low : Bool
  pin : Nat
  /-- pulses produced or skipped -/
  done : Nat
  deriving DecidableEq, Repr

/-- A cue pulse unit (R130-R133). -/
structure PulseUnit where
  prog : Option PulseProg
  /-- a pulse is under way: pin and polarity it drives -/
  active : Option (Nat × Bool)
  lastLow : Bool
  late : Bool
  conv : Bool
  refused : Bool
  deriving DecidableEq, Repr

def PulseUnit.init : PulseUnit := ⟨none, none, false, false, false, false⟩

/-- An edge stamp (R135). -/
structure EdgeStamp where
  dom : Bool
  hold : Bool
  rising : Bool
  ovf : Bool
  pin : Nat
  time : Int
  deriving DecidableEq, Repr

/-- The edge-stamp FIFO of a cluster: entries oldest first, and whether stamps were lost since the last one. -/
structure EdgeFifo where
  entries : List EdgeStamp
  lostSince : Bool
  deriving DecidableEq, Repr

def EdgeFifo.init : EdgeFifo := ⟨[], false⟩

end Sys2Proof
end

