-- ==== Sys2Proof/Machine/CanTypes.lean ====
section
/-! DEFINITION. The plain data of the CAN FD controllers (R341-R364). -/

namespace Sys2Proof

/-- CAN_STAT.STATE (R364). -/
inductive CanPhase where
  | off | integrating | active | passive | busOff | recovering | gap
  deriving DecidableEq, Repr

def CanPhase.code : CanPhase → Nat
  | .off => 0
  | .integrating => 1
  | .active => 2
  | .passive => 3
  | .busOff => 4
  | .recovering => 5
  | .gap => 6

/-- A transmit record (R347): words 0-3 and its data words. -/
structure CanTx where
  w0 : Word
  w1 : Word
  w2 : Word
  w3 : Word
  data : List Word
  deriving DecidableEq, Repr

/-- A receive or transmit entry (R347): words 0-3, the stamp of words 4-7, the data words. -/
structure CanEntry where
  w0 : Word
  w1 : Word
  w2 : Word
  w3 : Word
  stamp : List Word
  data : List Word
  deriving DecidableEq, Repr

/-- The words of an entry, as the CAN service sends them (R353). -/
def CanEntry.words (e : CanEntry) : List Word := [e.w0, e.w1, e.w2, e.w3] ++ e.stamp ++ e.data

/-- The kinds of protocol error of CAN_LEC (R364). -/
inductive CanErr where
  | stuff | form | ack | bit1 | bit0 | crc | tdc
  deriving DecidableEq, Repr

def CanErr.code : CanErr → Nat
  | .stuff => 1
  | .form => 2
  | .ack => 3
  | .bit1 => 4
  | .bit0 => 5
  | .crc => 6
  | .tdc => 7

structure CanCtl where
  phase : CanPhase
  /-- configuration in force since the last enable: CTRL, PINS, NBT_H, NBT_L, DBT_H, DBT_L, TDC (R346) -/
  conf : List Word
  cfgErr : Bool
  /-- TEC and REC (R357) -/
  txErr : Nat
  rxErr : Nat
  recSeq : Nat
  waitRec : Bool
  /-- held disabled by the PORT reaction (R419, R420) -/
  faultHeld : Bool
  tx : List CanTx
  /-- the head entry is under transmission -/
  txBusy : Bool
  /-- the head is removed when its attempt fails (R355) -/
  flushHead : Bool
  rx : List CanEntry
  /-- entries were lost since the last one stored -/
  lost : Bool
  spot : List CanEntry
  lec : CanErr
  lecSeen : Bool
  lecData : Bool
  /-- entries handed to the CAN service directly: transmit entries under FWD (R356) -/
  fwd : List CanEntry
  /-- data words still to read through CAN_RX_DATA, by path (R352) -/
  dataPort : Vector (List Word) 5
  /-- data words staged through CAN_TX_DATA, by path (R354) -/
  txData : Vector (List Word) 5
  deriving DecidableEq, Repr

def CanCtl.init : CanCtl where
  phase := .off
  conf := []
  cfgErr := false
  txErr := 0
  rxErr := 0
  recSeq := 0
  waitRec := false
  faultHeld := false
  tx := []
  txBusy := false
  flushHead := false
  rx := []
  lost := false
  spot := []
  lec := .stuff
  lecSeen := false
  lecData := false
  fwd := []
  dataPort := Vector.replicate 5 []
  txData := Vector.replicate 5 []

end Sys2Proof
end

