-- ==== Sys2Proof/Machine/Sources.lean ====
section
/-! DEFINITION. The fault sources of R416 and R569: identifiers, default classes, scope, which name a logical engine,
which have a checker that injection can select, and which report from the field side. -/

namespace Sys2Proof

namespace Src

/-- Entry to DOWN from UP or DEGRADED (R49). -/
abbrev linkDown (p : Port) : Nat := 0x000 + p.ix.val
abbrev linkOverrun (p : Port) : Nat := 0x002 + p.ix.val
abbrev linkSide (p : Port) : Nat := 0x004 + p.ix.val
abbrev linkDegraded (p : Port) : Nat := 0x006 + p.ix.val
abbrev linkTrainFail (p : Port) : Nat := 0x008 + p.ix.val
abbrev guardBlock : Nat := 0x010
abbrev guardTable : Nat := 0x011
abbrev guardClosed : Nat := 0x012
abbrev wingCollision : Nat := 0x018
abbrev sceneVeto : Nat := 0x019
abbrev cueLate : Nat := 0x01A
abbrev lineHead : Nat := 0x01B
abbrev takeover : Nat := 0x01C
abbrev phaseAdopted : Nat := 0x01D
abbrev sceneMismatch : Nat := 0x01E
abbrev relayShort : Nat := 0x01F
abbrev noSheet : Nat := 0x020
abbrev echoMiss : Nat := 0x030
abbrev offsetStale : Nat := 0x031
abbrev pulseLate : Nat := 0x032
abbrev edgeLoss : Nat := 0x033
abbrev holdoverEntry : Nat := 0x034
abbrev timeStep : Nat := 0x035
abbrev crossCheck : Nat := 0x036
abbrev domainStale : Nat := 0x037
abbrev ptpLost : Nat := 0x038
abbrev ptpFar : Nat := 0x039
abbrev holdoverLimit : Nat := 0x03A
abbrev misframe : Nat := 0x040
abbrev badHeader : Nat := 0x041
abbrev frameCrc : Nat := 0x042
abbrev frameRefSet : Nat := 0x043
abbrev retNoDest : Nat := 0x044
abbrev retAged : Nat := 0x045
abbrev sampleSkipped : Nat := 0x046
abbrev retPortDown : Nat := 0x047
abbrev retRefused : Nat := 0x048
abbrev switchEccCorrected : Nat := 0x049
abbrev switchEccFatal : Nat := 0x04A
abbrev rollPageAgain : Nat := 0x050
abbrev numberChange : Nat := 0x051
abbrev exitChange : Nat := 0x052
abbrev partialRollCall : Nat := 0x053
abbrev duplicateNumber : Nat := 0x054
abbrev nodesUncast : Nat := 0x055
abbrev fetchFailed : Nat := 0x056
abbrev noRoute : Nat := 0x057
abbrev lateResponse : Nat := 0x060
abbrev duplicateServed : Nat := 0x061
abbrev farError : Nat := 0x062
abbrev farLockTimeout : Nat := 0x063
abbrev cellTimeout : Nat := 0x064
abbrev requestTimeout : Nat := 0x065
abbrev dupEvict : Nat := 0x066
abbrev setAborted : Nat := 0x067
abbrev postedLost : Nat := 0x068
abbrev postedRepin : Nat := 0x069
abbrev orphanSet : Nat := 0x06A
abbrev farErrorFull : Nat := 0x06B
abbrev slotCheckFail : Nat := 0x070
abbrev apertureOverrun : Nat := 0x071
abbrev keptNotFitting : Nat := 0x072
abbrev wear : Nat := 0x073
abbrev liveSlotFail : Nat := 0x074
abbrev scrubFail : Nat := 0x075
abbrev updateAbandoned : Nat := 0x076
abbrev baseConfig : Nat := 0x077
abbrev journalHead : Nat := 0x078
abbrev comparator : Nat := 0x080
abbrev equalClaims : Nat := 0x081
abbrev noCore : Nat := 0x082
abbrev noCoreAtStart : Nat := 0x083
abbrev claimMissing : Nat := 0x084
abbrev switchover : Nat := 0x088
abbrev swapCollision : Nat := 0x089
abbrev swapRefused : Nat := 0x08A
abbrev rejoinFailed : Nat := 0x08B
abbrev rejoinLimit : Nat := 0x08C
abbrev coreMarginWarn : Nat := 0x08D
abbrev coreMarginCrit : Nat := 0x08E
abbrev barrierTimeoutHost : Nat := 0x090
abbrev barrierRetrainHost : Nat := 0x091
abbrev barrierDownFH : Nat := 0x092
abbrev laneReplacedFH : Nat := 0x093
abbrev spareLostFH : Nat := 0x094
abbrev barrierTimeoutField : Nat := 0x098
abbrev barrierRetrainField : Nat := 0x099
abbrev barrierDownHF : Nat := 0x09A
abbrev laneReplacedHF : Nat := 0x09B
abbrev spareLostHF : Nat := 0x09C
abbrev imageIncomplete : Nat := 0x09D
abbrev hubParity : Nat := 0x0A0
abbrev guardedFail : Nat := 0x0A1
abbrev fieldParity : Nat := 0x0A2
abbrev uplinkLost (u : Uplink) : Nat := 0x0B0 + u.ix.val
abbrev datagram : Nat := 0x0B2
abbrev qspiReject : Nat := 0x0B3
abbrev wakeLogLost : Nat := 0x0B4
abbrev ptpUnlocked : Nat := 0x0B5
abbrev lockBroken : Nat := 0x0C0
abbrev traceLost : Nat := 0x0C1
abbrev scanHolds : Nat := 0x0C2
abbrev warmRestart : Nat := 0x0C3
/-- Events 0x0-0xF of cluster n (R569, C = 0x100 + 16n). -/
abbrev clu (n e : Nat) : Nat := 0x100 + 16 * n + e
/-- Traps of cluster n (R569, T = 0x200 + 16n). -/
abbrev trap (n e : Nat) : Nat := 0x200 + 16 * n + e
abbrev toggleLimit : Nat := 0x1C0
abbrev adcLimit : Nat := 0x1C1
abbrev adcStuck : Nat := 0x1C2
abbrev adcOver : Nat := 0x1C3
abbrev adcStarved : Nat := 0x1C4
abbrev feed (f : Nat) : Nat := 0x1F0 + f
abbrev shareBand : Nat := 0x1F2
abbrev handover : Nat := 0x1F3
abbrev holdupNotReady : Nat := 0x1F4
abbrev efTrip : Nat := 0x1F5
abbrev efLock : Nat := 0x1F6
abbrev efDiode : Nat := 0x1F7
abbrev curtainFall : Nat := 0x1F8
abbrev powerLink : Nat := 0x1F9
abbrev exitSkipped : Nat := 0x1FA
abbrev persistRefused : Nat := 0x1FB
/-- Events of CAN controller c (R569, K = 0x2C0 + 8c). -/
abbrev can (c e : Nat) : Nat := 0x2C0 + 8 * c + e
abbrev collectorCheck : Nat := 0x3FF

end Src

/-- The classes of R418. -/
inductive FltClass where
  | note | minor | major | grave
  deriving DecidableEq, Repr

def FltClass.code : FltClass → Nat
  | .note => 0
  | .minor => 1
  | .major => 2
  | .grave => 3

def FltClass.ofCode (n : Nat) : FltClass :=
  match n with
  | 0 => .note
  | 1 => .minor
  | 2 => .major
  | _ => .grave

/-- MINOR sources of R569 below 0x100 and in the pin, ADC and power groups. -/
def minorSources : List Nat :=
  [0x000, 0x001, 0x002, 0x003, 0x004, 0x005, 0x01B, 0x01C, 0x01D, 0x01E, 0x034, 0x035, 0x036, 0x037, 0x038, 0x039] ++
  [0x047, 0x048, 0x049, 0x053, 0x054, 0x055, 0x056, 0x057, 0x068, 0x069, 0x06A, 0x06B, 0x074, 0x075, 0x076, 0x077] ++
  [0x084, 0x088, 0x08B, 0x08D, 0x090, 0x093, 0x094, 0x098, 0x09B, 0x09C, 0x09D, 0x0B0, 0x0B1, 0x0B5, 0x0C2, 0x0C3] ++
  [0x1C0, 0x1C4, 0x1F0, 0x1F1, 0x1F3, 0x1F4, 0x1F5, 0x1F7]

/-- MAJOR sources of R569 outside the cluster groups. -/
def majorSources : List Nat :=
  [0x011, 0x01F, 0x020, 0x03A, 0x04A, 0x078, 0x081, 0x08C, 0x08E, 0x091, 0x099, 0x0A0, 0x0A2, 0x1F6, 0x1F9]

/-- GRAVE sources of R569. -/
def graveSources : List Nat := [0x012, 0x082, 0x083, 0x092, 0x09A, 0x1F8]

/-- The default class of a source (R416, R569); a source that no table names is NOTE. -/
def srcClass (s : Nat) : FltClass :=
  if 0x100 ≤ s ∧ s < 0x1C0 then
    let e := s % 16
    if e ≤ 6 then .note else if e = 7 ∨ e = 8 ∨ e = 0xE then .minor else .major
  else if 0x200 ≤ s ∧ s < 0x2C0 then
    (if s % 16 = 5 ∨ s % 16 = 0xA then .major else .note)
  else if 0x2C0 ≤ s ∧ s < 0x2E0 then (if s % 8 = 6 then .minor else .note)
  else if graveSources.contains s then .grave
  else if majorSources.contains s then .major
  else if minorSources.contains s then .minor
  else .note

/-- Core-local sources report only to the collector of their own core (R416, R417). -/
def srcLocal (s : Nat) : Bool :=
  (decide (0x018 ≤ s) && decide (s ≤ 0x02F)) || (decide (0x040 ≤ s) && decide (s ≤ 0x06F)) ||
  (decide (0x088 ≤ s) && decide (s ≤ 0x08F)) ||
  (decide (0x0A0 ≤ s) && decide (s ≤ 0x0AF) && decide (s ≠ 0x0A2)) || decide (s = 0x3FF)

/-- Sources whose events arise on the field die or the power die, and reach the collectors as FAULT_REPORT messages
(R417; the pulse and stamp units stand on the field die, R12). -/
def srcField (s : Nat) : Bool :=
  decide (s = 0x032) || decide (s = 0x033) || decide (s = 0x084) || (decide (0x098 ≤ s) && decide (s ≤ 0x09F)) ||
  decide (s = 0x0A2) || (decide (0x100 ≤ s) && decide (s ≤ 0x2DF))

/-- Sources whose DETAIL names a logical engine (R569, column Engine). -/
def srcEngine (s : Nat) : Bool :=
  (decide (0x100 ≤ s) && decide (s < 0x1C0) && [2, 3, 4, 6, 0xB, 0xC].contains (s % 16)) ||
  (decide (0x200 ≤ s) && decide (s < 0x2C0) && [1, 2, 3, 4, 5, 6, 7, 9, 0xA].contains (s % 16))

/-- Sources with a checker that injection can select (R569, column Checker). -/
def srcChecker (s : Nat) : Bool :=
  [0x011, 0x042, 0x049, 0x04A, 0x078, 0x093, 0x09B, 0x0A0, 0x0A2, 0x0B2, 0x0B3, 0x3FF].contains s ||
  (decide (0x100 ≤ s) && decide (s < 0x1C0) && decide (s % 16 = 0xC)) ||
  (decide (0x200 ≤ s) && decide (s < 0x2C0) && decide (s % 16 = 5))

/-- The default reaction of a source (R419): DEMOTE_SELF for a critical core margin, DEMOTE_U for the comparator. -/
def srcReact (s : Nat) : Nat :=
  if s = Src.coreMarginCrit then 1 else if s = Src.comparator then 2 else 0

/-- FLT_SRC_CFG of a source as R416 and R419 give it: class, no escalation class, reaction, LOCAL. -/
def srcCfgDefault (s : Nat) : Word :=
  putFld (srcClass s).code 15 14 ||| putFld (srcReact s) 11 8 ||| bitW (srcLocal s) 7

end Sys2Proof
end

