-- ==== Sys2Proof/Machine/CoreTypes.lean ====
section
/-! DEFINITION. The plain data of the barrier (R14-R20), the margin monitors (R26, R27), the fault collectors
(R417-R428), the trace buffers (R516) and the initiator paths (R493, R499). -/

namespace Sys2Proof

/-- What the host side announces of its modes, since no other signal crosses (R14): the dark-node state (R430), a marker with INTM 1
(R485), that outputs are to take their gap values (R116, R127), and that the timekeeper is locked and due no step. -/
structure FieldModes where
  dark : Bool
  intm : Bool
  gap : Bool
  locked : Bool
  deriving DecidableEq, Repr

def FieldModes.init : FieldModes := ⟨false, false, false, false⟩

/-- What a crossing message carries (R14), as its receiver uses it. -/
inductive BarPayload where
  /-- a core's claim number (R395) -/
  | claim (core : Core) (value : Nat)
  /-- source, DETAIL, count of reports and ring time of the first of them (R417); `inj` marks an injected report -/
  | faultReport (src detail count time : Nat) (inj dry : Bool)
  /-- ring time as its distance from the local instant, its domain, whether it is in holdover, and the coming sample, latch and
  flip instants in ring time (R14, R121) -/
  | timeSync (offset : Int) (dom hold : Bool) (smp lat flp : Int)
  /-- output image words of a core for a cluster's image instant of a cycle: from window word `addr` (R253, R254) -/
  | imageOut (core : Core) (cluster : Nat) (cycle : DWord) (addr : Nat) (words : List Word)
  /-- the pin image word of a core for a cluster's latch instant of a cycle (R256) -/
  | pinImage (core : Core) (cluster : Nat) (cycle : DWord) (word : Word)
  /-- words for the publish area from word `addr` (R253, R255) -/
  | publish (addr : Nat) (words : List Word)
  /-- words of the field snapshot from word `addr` (R312) -/
  | snapshot (addr : Nat) (words : List Word)
  /-- an entry of a cluster's edge-stamp FIFO (R14, R135) -/
  | stamp (cluster : Nat) (words : List Word)
  /-- a reason of R488 that has arisen at the field side: 3 or 4 -/
  | wake (reason : Nat)
  /-- conduit words: cluster, conduit, whether it is the first of an item (R247) -/
  | conduit (cluster conduit : Nat) (words : List Word)
  /-- field events announced to the hub cores: SIG_PEND_L and SIG_PEND_C (R14, R222, R252) -/
  | event (pendL pendC : Word)
  /-- the host side's modes announced to the field die (R14; notes/assumptions/123.md) -/
  | modes (m : FieldModes)
  /-- an access of a path to field registers or cluster memories from byte address `addr`: a write of words, or a read of
  `count` words; `single` is a single-word access; `id` names the waiting access (R495, R497) -/
  | regAccess (id : Nat) (path : Path) (addr count : Nat) (write : Option (List Word)) (single : Bool)
  /-- the response to it: its status and data (R495) -/
  | regResponse (id status : Nat) (data : List Word)
  /-- words of a section of the stagebook of a slot for the field side (R390): its tag, the slot, whether it is staged for an
  update, and whether these are the first and the last words of the section -/
  | chunk (tag : Nat) (slot staged first last : Bool) (words : List Word)
  /-- field boundary chain service (R506): refresh request, levels or the register to drive -/
  | chain (words : List Word)
  deriving DecidableEq, Repr

structure BarMsg where
  type : BarType
  body : BarPayload
  deriving DecidableEq, Repr

/-- A message that waits, with the higher-ranked types that have started one message ahead of it (R17). -/
structure BarReady where
  msg : BarMsg
  passed : List BarType
  deriving DecidableEq, Repr

/-- The receiver's answer that is on its way back (R15). -/
inductive BarAnswer where
  | none | ack | nack
  deriving DecidableEq, Repr

/-- A message that has been sent and is not yet acknowledged. -/
structure BarFlight where
  msg : BarMsg
  seq : BitVec 8
  /-- the instant of its first sending, or of its sending after its last timeout (R20) -/
  sentAt : Nat
  timeouts : Nat
  /-- on the lanes now -/
  onWire : Bool
  /-- accepted by the far end -/
  accepted : Bool
  answer : BarAnswer
  /-- to be sent again (R16) -/
  again : Bool
  deriving DecidableEq, Repr

/-- One direction of the barrier. -/
structure BarDirState where
  ready : List BarReady
  flight : List BarFlight
  /-- next sequence number of each type, by rank -/
  nextSeq : Vector (BitVec 8) 9
  /-- sequence number the far end expects next, by rank -/
  expected : Vector (BitVec 8) 9
  trained : Bool
  retraining : Bool
  /-- lanes judged failed (FLD_BAR_LHF, FLD_BAR_LFH) -/
  failed : BitVec 10
  /-- lanes that carry traffic; 0-7 at start (R32) -/
  active : BitVec 10
  /-- failed active lanes that wait for a spare, oldest first -/
  toReplace : List Nat
  deriving DecidableEq, Repr

def BarDirState.init : BarDirState where
  ready := []
  flight := []
  nextSeq := Vector.replicate 9 0
  expected := Vector.replicate 9 0
  trained := false
  retraining := false
  failed := 0
  active := 0x0FF
  toReplace := []

/-- One threshold of a margin monitor (R27). -/
structure MarginLimit where
  /-- consecutive measurements below -/
  run : Nat
  /-- may report -/
  armed : Bool
  /-- since when the margin has stayed 1.0 % above -/
  aboveSince : Option Nat
  deriving DecidableEq, Repr

def MarginLimit.init : MarginLimit := ⟨0, true, none⟩

/-- A speed-margin monitor (R26, R32). -/
structure Margin where
  live : BitVec 8
  low : BitVec 8
  /-- the next measurement sets the minimum -/
  restart : Bool
  warn : MarginLimit
  crit : MarginLimit
  deriving DecidableEq, Repr

def Margin.init : Margin := ⟨0x7F, 0x7F, false, .init, .init⟩

/-- A report on its way to a collector. -/
structure Report where
  src : Nat
  detail : Nat
  /-- ring time of the (first) report -/
  time : Nat
  inj : Bool
  dry : Bool
  deriving DecidableEq, Repr

/-- A field-side source with undelivered reports (R417). -/
structure Backlog where
  src : Nat
  detail : Nat
  time : Nat
  count : Nat
  /-- the report was caused by an injection, with DRY (R434, R435) -/
  inj : Bool
  dry : Bool
  deriving DecidableEq, Repr

/-- A record of the fault log (R423); `id` tells records apart inside the model. -/
structure FltRecord where
  id : Nat
  cls : FltClass
  esc : Bool
  inj : Bool
  src : Nat
  time : Nat
  merges : Nat
  lastSrc : Nat
  react : Nat
  detail : Nat
  deriving DecidableEq, Repr

/-- A report whose effects wait for the end of handling (R424): its event where it was merged, and its reaction. -/
structure Reaction where
  src : Nat
  cls : FltClass
  merged : Bool
  /-- reaction code of R419, 0 for none -/
  code : Nat
  detail : Nat
  deriving DecidableEq, Repr

/-- What a collector holds for one source. -/
structure SrcState where
  src : Nat
  /-- ring times of the last reports, newest first (R422) -/
  times : List Nat
  /-- instant of the last MINOR, MAJOR or GRAVE report (R426) -/
  last : Nat
  held : Bool
  /-- held under POWER (R427, R428) -/
  power : Bool
  limit : Bool
  /-- DETAIL of the report whose reaction holds the resource -/
  heldDetail : Nat
  /-- instants of its recoveries (R427) -/
  recoveries : List Nat
  deriving DecidableEq, Repr

/-- A fault collector (R417-R428). -/
structure Collector where
  inbox : List Report
  log : List FltRecord
  ovf : Bool
  nextId : Nat
  /-- the record being handled, with the reactions merged reports wait to issue (R424) -/
  handling : Option Nat
  waiting : List Reaction
  srcs : List SrcState
  /-- source armed by injection: (source, CONT, DRY) -/
  inject : Option (Nat × Bool × Bool)
  deriving DecidableEq, Repr

def Collector.init : Collector := ⟨[], [], false, 0, none, [], [], none⟩

/-- The dark-node latch and FLT_SELF (R428-R430). -/
structure DarkLatch where
  dark : Bool
  /-- the state exits by POWER only: a self-fault or the recovery limit (R425, R427) -/
  power : Bool
  /-- the source that led to it -/
  src : Nat
  selfSet : Bool
  selfCause : Nat
  selfCore : Nat
  recLimit : Bool
  /-- instants of the recoveries of the last 24 hours (R427) -/
  recoveries : List Nat
  /-- instant of the last MAJOR or GRAVE report at either collector (R426) -/
  lastMajor : Nat
  /-- ports held DOWN while dark (R431) -/
  heldPorts : Vector Bool 2
  /-- the node was the active prompter when it went dark and sends IDLE on the ring until another generator's marker (R431) -/
  idleRing : Vector Bool 2
  /-- insertion stays closed until the next accepted marker after the exit (R433) -/
  reopen : Bool
  /-- outputs stay at rank 2 until the first latch instant after the exit (R433) -/
  outHold : Bool
  deriving DecidableEq, Repr

def DarkLatch.init : DarkLatch :=
  ⟨false, false, 0, false, 0, 0, false, [], 0, Vector.replicate 2 false, Vector.replicate 2 false, false, false⟩

/-- An entry of a trace buffer (R516). -/
structure TraceEntry where
  kind : Nat
  src : Nat
  detail : Nat
  dom : Bool
  time : Nat
  deriving DecidableEq, Repr

/-- A trace buffer (R516, R518): entries oldest first. -/
structure TraceBuf where
  entries : List TraceEntry
  ovf : Bool
  /-- 0x0C1 reported since the buffer was last cleared or read empty -/
  told : Bool
  deriving DecidableEq, Repr

def TraceBuf.init : TraceBuf := ⟨[], false, false⟩

/-- An armed guarded sequence of a path (R499, R500). -/
structure Guarded where
  addr : Nat
  value : Word
  at_ : Nat
  deriving DecidableEq, Repr

/-- What an initiator path holds besides its `_SEL` registers (R493): its armed sequence, one hub-side and one
field-side, since each side judges its own (R502). -/
structure PathState where
  hub : Option Guarded
  field : Option Guarded
  deriving DecidableEq, Repr

def PathState.init : PathState := ⟨none, none⟩

end Sys2Proof
end

