-- ==== Sys2Proof/Machine/EngTypes.lean ====
section
/-! DEFINITION. The instructions of a port engine (R279-R294) as data, and the state of a logical engine (R275), of a
pacer (R243-R245) and of a conduit (R247-R251). -/

namespace Sys2Proof

/-- The functions of major 0x1 (R282), in the order of their codes. -/
inductive AluFn where
  | add | sub | adc | sbc | and | or | xor | shl | shr | sar | rol | ror | mov | cmp | mull | mulh
  deriving DecidableEq, Repr

/-- The bit operations of major 0x5 (R284). -/
inductive BitFn where
  | set | clr | tgl | tst
  deriving DecidableEq, Repr

/-- A port engine instruction (R279). -/
inductive EngOp where
  | nop
  | halt
  | wait (kind index : Nat)
  | trap (nn : Byte)
  | ret
  | retT
  | lock
  | unlock
  | sync
  | alu (f : AluFn) (rd rs : Fin 16)
  | addi (rd : Fin 16) (imm : Byte)
  | cmpi (rd : Fin 16) (imm : Byte)
  | movi (rd : Fin 16) (imm : Byte)
  | bit (f : BitFn) (rd : Fin 16) (b : Fin 16)
  | ld (rd rs : Fin 16) (off : Nat)
  | st (rd rs : Fin 16) (off : Nat)
  | limm (rd : Fin 16) (imm : Word)
  | ldf (rd rs : Fin 16) (imm : Word)
  | stf (rd rs : Fin 16) (imm : Word)
  | lda (rd : Fin 16) (imm : Word)
  | sta (rd : Fin 16) (imm : Word)
  | bcc (cond : Nat) (off : Byte)
  | jmp (target : BitVec 12)
  | call (target : BitVec 12)
  | pinrd (rd : Fin 16) (p : Nat)
  | pinwr (rd : Fin 16) (p : Nat)
  | pindir (rd : Fin 16) (p : Nat)
  | sho (rd : Fin 16) (p : Fin 16)
  | shoN (rd : Fin 16) (p : Fin 16)
  | shi (rd : Fin 16) (p : Fin 16)
  | shiN (rd : Fin 16) (p : Fin 16)
  | pacePer (rd : Fin 16) (p : Fin 16)
  | paceCnt (rd : Fin 16) (p : Fin 16)
  | paceRd (rd : Fin 16) (p : Fin 16)
  | paceSt (rd : Fin 16) (p : Fin 16)
  | edge (rd : Fin 16)
  | send (rd : Fin 16) (q : Fin 16)
  | recv (rd : Fin 16) (q : Fin 16)
  | peek (rd : Fin 16) (q : Fin 16)
  | poll (rd : Fin 16) (q : Fin 16)
  | tstamp (rd : Fin 16)
  | twait (rs : Fin 16)
  | tcmp (rs : Fin 16)
  /-- major 0xF or a reserved encoding, one or two words long -/
  | illegal (twoWords : Bool)
  deriving DecidableEq, Repr

/-- The words an instruction takes in code memory (R279). -/
def EngOp.size : EngOp → Nat
  | .limm .. | .ldf .. | .stf .. | .lda .. | .sta .. | .illegal true => 2
  | _ => 1

/-- What a logical engine is doing. -/
inductive RunState where
  /-- not bound: the section binds none, or the cluster is offline -/
  | off
  | running
  | halted
  /-- shed under R270 -/
  | shed
  deriving DecidableEq, Repr

/-- A logical engine (R275). -/
structure Engine where
  run : RunState
  /-- DBG_ENG_STAT.CAUSE: 0 none, 1 debug, 2 breakpoint, 3 HALT or second trap -/
  haltCause : Nat
  bpHit : Bool
  /-- the halted engine issues one instruction and halts again (R511) -/
  stepping : Bool
  /-- a halt waits for UNLOCK (R511) or for the end of a migration (R515): the cause it will show -/
  haltPending : Option Nat
  phys : Option (Fin 16)
  regs : Vector Word 16
  z : Bool
  n : Bool
  c : Bool
  v : Bool
  pc : BitVec 12
  ta : Bool
  /-- instructions since LOCK, while this engine holds the lock (R290) -/
  lockCount : Nat
  rise : BitVec 12
  fall : BitVec 12
  /-- the WAIT, RECV or TWAIT under way, dark (R261) -/
  dark : Option EngOp
  /-- T of a TWAIT under way, in ring time ticks of the field side -/
  wakeAt : Int
  /-- the instant a WAIT of kind 7 waits for has occurred -/
  instSeen : Bool
  /-- a stalled instruction, not yet completed (R292, R293) -/
  stall : Option EngOp
  /-- a first watchdog expiry without a restart since (R262) -/
  wdFirst : Bool
  /-- a WDOG trap waits for an instruction boundary (R300) -/
  wdTrap : Bool
  /-- SYNC executed since the last sample instant (R263) -/
  synced : Bool
  /-- at a safe point (R267): its last instruction was a SYNC, or it is dark, with no LOCK held -/
  safe : Bool
  /-- stopped by intermission (R485) -/
  intm : Bool
  deriving DecidableEq, Repr

/-- R276: an engine as it is before it is bound. -/
def Engine.init : Engine where
  run := .off
  haltCause := 0
  bpHit := false
  stepping := false
  haltPending := none
  phys := none
  regs := Vector.replicate 16 0
  z := false
  n := false
  c := false
  v := false
  pc := 0
  ta := false
  lockCount := 0
  rise := 0
  fall := 0
  dark := none
  wakeAt := 0
  instSeen := false
  stall := none
  wdFirst := false
  wdTrap := false
  synced := true
  safe := false
  intm := false

/-- A pacer: its eight words and its shift unit (R243-R245). -/
structure Pacer where
  cfg : Word
  pins : Word
  per : BitVec 32
  cnt : BitVec 32
  /-- CNT_L as latched by the last read of CNT_H -/
  cntL : Word
  /-- a PER or CNT of PWM mode that waits for the next period boundary -/
  nextPer : Option (BitVec 32)
  nextCnt : Option (BitVec 32)
  ovr : Bool
  und : Bool
  qerr : Bool
  ferr : Bool
  tx : Option Word
  rx : Option Word
  /-- instant at which mode or period was last set: origin of the tick grid -/
  grid : Nat
  /-- number of the next tick of that grid -/
  nextTick : Nat
  /-- bits still to shift, next one first; none while the shift register is empty -/
  out : Option (List Bool)
  /-- bits shifted in, first one first -/
  inp : List Bool
  /-- async reception: bits still to sample after a start edge, stop bits included -/
  rxLeft : Option Nat
  /-- instant of the start edge -/
  rxStart : Nat
  dataOut : Bool
  clkOut : Bool
  /-- instants of the last edge on IN_A, on IN_B and on IN_X -/
  lastA : Option Nat
  lastB : Option Nat
  lastX : Option Nat
  deriving DecidableEq, Repr

/-- R245: the values at reset. -/
def Pacer.init : Pacer where
  cfg := 0
  pins := 0xFFF0
  per := 0
  cnt := 0
  cntL := 0
  nextPer := none
  nextCnt := none
  ovr := false
  und := false
  qerr := false
  ferr := false
  tx := none
  rx := none
  grid := 0
  nextTick := 0
  out := none
  inp := []
  rxLeft := none
  rxStart := 0
  dataOut := false
  clkOut := false
  lastA := none
  lastB := none
  lastX := none

/-- The instants at which a pacer acts (R243, R244): a tick of its grid (in PWM mode a period boundary), or an instant
between ticks: the centre of a bit in asynchronous reception, the end of the high time in PWM mode. -/
inductive PacerBeat where
  | tick | mid
  deriving DecidableEq, Repr

/-- A conduit (R247-R251). -/
structure Conduit where
  out : List Word
  inw : List Word
  trunc : Bool
  tmo : Bool
  /-- words that the hub has taken over from the outward queue and that complete no item yet, oldest first -/
  asm : List Word
  /-- outward words still to discard: on their way to the hub when their item was ended, or payload of a discarded header
  (R248, R251) -/
  skip : Nat
  /-- items at the hub that wait for room in the inward queue, oldest first -/
  hubIn : List (List Word)
  /-- the first word of the oldest of them has entered the queue (R251) -/
  inPart : Bool
  deriving DecidableEq, Repr

def Conduit.init : Conduit := ⟨[], [], false, false, [], 0, [], false⟩

end Sys2Proof
end

