-- ==== Sys2Proof/Machine/ClusterTypes.lean ====
section
/-! DEFINITION. The plain data of clusters (R236-R274), field pins and ADCs (R302-R319), with what a CLUn section of a
stagebook configures. -/

namespace Sys2Proof

/-- Kinds of a region (R253). -/
inductive RegionKind where
  | unused | inn | out | snap
  deriving DecidableEq, Repr

def RegionKind.code : RegionKind → Nat
  | .unused => 0
  | .inn => 1
  | .out => 2
  | .snap => 3

/-- A region of the process-image window (R253). -/
structure Region where
  kind : RegionKind
  /-- IN only: the publish send bank and not the subscribe area -/
  send : Bool
  owner : Nat
  win : Nat
  len : Nat
  hub : Nat
  deriving DecidableEq, Repr

/-- A logical engine as the section binds it (R239). -/
structure EngineCfg where
  rank : Nat
  norot : Bool
  ep : Nat
  code : List Word
  data : List Word
  deriving DecidableEq, Repr

/-- A pin as the section sets it (R241, R303). -/
structure PinCfg where
  cfg : Word
  flt : Word
  src : Nat
  index : Nat
  deriving DecidableEq, Repr

/-- A CLUn section (R236, R369). -/
structure ClusterCfg where
  /-- CRC of the section, by which an update tells a changed cluster (R390) -/
  crc : DWord
  engines : List EngineCfg
  /-- pins 0-11 -/
  pins : List PinCfg
  /-- owner of each pacer -/
  pacers : List (Option Nat)
  /-- mode (TXN) and owner of each conduit -/
  conduits : List (Option (Bool × Nat))
  /-- owner of each cue pulse unit of the cluster (R246) -/
  units : List (Option Nat)
  regions : List Region
  pimg : Option Nat
  /-- codes of slots 0-15 (R313) -/
  sched : List Nat
  /-- ADC_CH_CFG.AVG of the two channels -/
  avg : List Nat
  shared : List Word
  deriving DecidableEq, Repr

/-- A physical engine (R236, R264, R265). -/
structure PhysEngine where
  retired : Bool
  suspect : Bool
  /-- spare rows used in code and in data memory -/
  codeRows : Nat
  dataRows : Nat
  /-- self-test is due or running -/
  testing : Bool
  deriving DecidableEq, Repr

def PhysEngine.init : PhysEngine := ⟨false, false, 0, 0, false⟩

/-- CLU_LAST_MIG.CAUSE. -/
inductive MigCause where
  | rotation | failure | command
  deriving DecidableEq, Repr

def MigCause.code : MigCause → Nat
  | .rotation => 0
  | .failure => 1
  | .command => 2

/-- A migration pending or under way (R267). -/
structure Migration where
  leng : Fin 14
  from_ : Fin 16
  target : Fin 16
  cause : MigCause
  stopped : Bool
  deriving DecidableEq, Repr

/-- A field pin (R302-R309). -/
structure Pin where
  /-- level at the ball -/
  raw : Bool
  filt : Bool
  /-- level the filter holds; `filt` differs from it only while the pin is toggle-limited (R306) -/
  inner : Bool
  /-- instant of the last change of the raw level that is no part of a pair less than 5 ns apart (R134) -/
  changed : Nat
  /-- the instant and the stamp before that change, which a pair brings back (R134) -/
  before : Nat × Option EdgeStamp
  /-- stamp taken at the last change, for entry when the filter accepts it (R134) -/
  stamp : Option EdgeStamp
  /-- instants of accepted changes of the last 1 ms, newest first (R306) -/
  accepted : List Nat
  limited : Bool
  /-- changes the filter would have accepted in the present window of the limited state -/
  windowCount : Nat
  /-- rank of R308 that governs the output -/
  rank : Nat
  /-- level and drive the pin had before the conditions now in force, for HOLD -/
  held : Bool × Bool
  /-- latch and drive enable of an SRC 1 pin (R291) -/
  latch : Bool
  drive : Bool
  /-- pin image bit applied at the last latch instant (R256) -/
  image : Bool
  /-- level and drive at the ball -/
  out : Bool × Bool
  deriving DecidableEq, Repr

def Pin.init : Pin where
  raw := false
  filt := false
  inner := false
  changed := 0
  before := (0, none)
  stamp := none
  accepted := []
  limited := false
  windowCount := 0
  rank := 1
  held := (false, false)
  latch := false
  drive := true
  image := false
  out := (false, false)

/-- An analog channel (R312-R319). -/
structure AdcChan where
  /-- newest results available, newest first, at most 16: raw value and instant of acquisition -/
  results : List (Word × Nat)
  /-- acquired and not yet available -/
  waiting : Option (Word × Nat × Bool)
  ovr : Bool
  low : Bool
  high : Bool
  lowRun : Nat
  lowClr : Nat
  highRun : Nat
  highClr : Nat
  stuck : Bool
  stuckFirst : Option Word
  deriving DecidableEq, Repr

def AdcChan.init : AdcChan where
  results := []
  waiting := none
  ovr := false
  low := false
  high := false
  lowRun := 0
  lowClr := 0
  highRun := 0
  highClr := 0
  stuck := false
  stuckFirst := none

/-- A cluster ADC (R313-R317). -/
structure Adc where
  chans : Vector AdcChan 2
  /-- ring time ticks from a whole microsecond to the slot instants -/
  grid : Int
  /-- calibration steps done in the present round -/
  calStep : Nat
  calibrated : Bool
  starved : Bool
  deriving DecidableEq, Repr

def Adc.init : Adc := ⟨Vector.replicate 2 .init, 0, 0, false, false⟩

/-- Words staged in a pulse window (R246): words +0 to +11, and whether +2 or +3 was written since the last ARM. -/
structure PulseWindow where
  words : Vector Word 12
  upper : Bool
  deriving DecidableEq, Repr

def PulseWindow.init : PulseWindow := ⟨Vector.replicate 12 0, false⟩

/-- A cluster. -/
structure Cluster where
  cfg : Option ClusterCfg
  online : Bool
  /-- offline was taken or is being left: pins stay at rank 3 until a latch instant -/
  offHold : Bool
  /-- self-test runs and binding follows it (R239) -/
  binding : Bool
  engines : Vector Engine 14
  phys : Vector PhysEngine 16
  pacers : Vector Pacer 16
  conduits : Vector Conduit 16
  windows : Vector PulseWindow 2
  /-- holder of the cluster lock (R259) -/
  lock : Option (Fin 14)
  /-- LOCK_BROKEN: the engine a forced halt stopped (R512) -/
  broken : Option (Fin 14)
  mig : Option Migration
  /-- engines whose failure waits for the migration under way (R265, R267) -/
  failed : List (Fin 14)
  lastMig : Word
  /-- last physical engine a rotation looked at -/
  rotated : Nat
  /-- pins of a shed engine stay at rank 5 until a latch instant: logical engines -/
  shedHold : BitVec 14
  /-- window words received from each core for an image instant, with its cycle, by window word -/
  inStage : Vector (List (DWord × Nat × Word)) 2
  /-- pin image word received from each core for a latch instant, with its cycle (R256) -/
  pimgStage : Vector (Option (DWord × Word)) 2
  /-- the image was incomplete at the last latch instant (R21) -/
  imgGap : Bool
  adc : Adc
  deriving DecidableEq, Repr

def Cluster.init : Cluster where
  cfg := none
  online := false
  offHold := false
  binding := false
  engines := Vector.replicate 14 .init
  phys := Vector.replicate 16 .init
  pacers := Vector.replicate 16 .init
  conduits := Vector.replicate 16 .init
  windows := Vector.replicate 2 .init
  lock := none
  broken := none
  mig := none
  failed := []
  lastMig := 0
  rotated := 15
  shedHold := 0
  inStage := Vector.replicate 2 []
  pimgStage := Vector.replicate 2 none
  imgGap := false
  adc := .init

end Sys2Proof
end

