-- ==== Sys2Proof/Machine/CueTypes.lean ====
section
/-! DEFINITION. The plain data of the cue sequencer and the guardian (R62-R107). -/

namespace Sys2Proof

/-- An entry of the cue table (R70, R105). -/
structure CueEntry where
  /-- place in the cue table, 0-2,047 -/
  ix : Nat
  owned : Bool
  /-- 0 unused, 1 split ring A, 2 split ring B, 3 mirrored -/
  mode : Nat
  /-- d - 1 -/
  depth : Nat
  carry : Bool
  /-- words, CRC included -/
  len : Nat
  /-- position on ring A and on ring B; 0 if none -/
  posA : Nat
  posB : Nat
  limit : Nat
  /-- CROSS bits of CUE_ENT_XL -/
  cross : Nat
  id : Nat
  /-- first word in the publish or subscribe area -/
  addr : Nat
  /-- for a wing slot: its place in the wing list -/
  wing : Option Nat
  /-- for a subscribed wing slot: the node followed (R95) -/
  follow : Nat
  deriving DecidableEq, Repr

/-- An entry of a prompter's relay map (R70, R72). -/
structure RelayEntry where
  ring : Ring
  pos : Nat
  len : Nat
  id : Nat
  wing : Bool
  carry : Bool
  deriving DecidableEq, Repr

/-- The kinds of GRD_ENT_CFG.KIND. -/
inductive GuardKind where
  | owned | relay | wingClosed | wingClaiming | wingOpen
  deriving DecidableEq, Repr

def GuardKind.code : GuardKind → Nat
  | .owned => 0
  | .relay => 1
  | .wingClosed => 2
  | .wingClaiming => 3
  | .wingOpen => 4

/-- An entry of the guardian table (R82). -/
structure GuardEntry where
  ring : Ring
  pos : Nat
  len : Nat
  kind : GuardKind
  deriving DecidableEq, Repr

/-- A cue sheet, as the CUE and GUARD sections of a stagebook load it (R369). -/
structure CueSheet where
  /-- CUE_LENQ (R62) -/
  lenq : Nat
  /-- E (R63) -/
  evpos : Nat
  id : Nat
  /-- T_SMP, T_LAT and T_FLP in ns (R76) -/
  tSmp : Nat
  tLat : Nat
  tFlp : Nat
  entries : List CueEntry
  relay : List RelayEntry
  guard : List GuardEntry
  /-- CRC-32 of the guardian table and relay map as their TABLE items load them (R85) -/
  tcrc : DWord
  /-- relay delays m: ring A and B under prompter A, ring A and B under prompter B (CUE_RELAY) -/
  maa : Nat
  mab : Nat
  mba : Nat
  mbb : Nat
  /-- node number and claim of prompters A and B (R90) -/
  nodeA : Nat
  claimA : Nat
  nodeB : Nat
  claimB : Nat
  deriving DecidableEq, Repr

/-- R62: the length of cycle k in steps of 8 words. -/
def cycleSteps (lenq k : Nat) : Nat :=
  let q := lenq / 4
  let r := lenq % 4
  let j := k % 4
  q + ((j + 1) * r) / 4 - (j * r) / 4

/-- The shortest cycle of a sheet in words (R62). -/
def shortestWords (c : CueSheet) : Nat := 8 * (c.lenq / 4)

/-- The limits that a CUE or GUARD section breaks only when it is invalid: CUE_LENQ (R62), E (R64) and the tables' sizes (R70). -/
def CueSheet.valid (c : CueSheet) : Bool :=
  decide (4000 ≤ c.lenq) && decide (c.lenq ≤ 4187500) &&
  decide (4 ≤ c.evpos) && decide (c.evpos ≤ 65535) && decide (c.evpos + 73 ≤ shortestWords c) &&
  decide (c.entries.length ≤ 2048) && decide (c.guard.length ≤ 512) && decide (c.relay.length ≤ 1024)

/-- What the marker's third word says (R65). -/
structure MarkerFlags where
  dom : Bool
  lh : Bool
  bank : Bool
  hold : Bool
  intm : Bool
  slew : Nat
  deriving DecidableEq, Repr

def MarkerFlags.init : MarkerFlags := ⟨false, false, false, false, false, 0⟩

/-- What a node tracks of the markers of one ring (R66, R570). -/
structure RingTrack where
  /-- a marker has been accepted since the start (or since the port last reached UP, for `fresh`) -/
  seen : Bool
  cycle : DWord
  flags : MarkerFlags
  /-- instant at which the CM word of the last accepted marker arrived -/
  at_ : Nat
  /-- off-phase position of the last marker that was flywheeled over (R66) -/
  candidate : Option Int
  /-- cycles with their lengths in words as the ring shows them, newest first (R570) -/
  measured : List (DWord × Nat)
  measuredE : Nat
  /-- the last cycle was flywheeled over (R66, R115) -/
  flying : Bool
  /-- the cycle whose acceptance window closed last (R126) -/
  closed : Option DWord
  /-- cycles for which markers are still not used for discipline (R115) -/
  unusable : Nat
  /-- the cycle of the last marker usable for discipline -/
  usableAt : Option DWord
  deriving DecidableEq, Repr

def RingTrack.init : RingTrack := ⟨false, 0, .init, 0, none, [], 0, false, none, 0, none⟩

/-- A landing buffer (R79): the publication it is for, and the payload when a copy has landed. -/
structure Landing where
  entry : Nat
  pub : DWord
  data : Option (List Word)
  ring : Ring
  copies : Nat
  deriving DecidableEq, Repr

/-- A copy that has passed its check and is not yet usable (R79). -/
structure CopyArrived where
  entry : Nat
  ring : Ring
  pub : DWord
  payload : List Word
  deriving DecidableEq, Repr

/-- The status word of a subscription (R81). -/
structure SubStatus where
  entry : Nat
  valid : Bool
  single : Bool
  ring : Bool
  age : Nat
  deriving DecidableEq, Repr

/-- A relayed copy that waits for its stream cycle (R72). -/
structure RelayCopy where
  ring : Ring
  pos : Nat
  due : DWord
  words : List RingWord
  deriving DecidableEq, Repr

/-- CUE_WING.STATE. -/
inductive WingPhase where
  | none | listening | claiming | backoff | owned | waiting
  deriving DecidableEq, Repr

def WingPhase.code : WingPhase → Nat
  | .none => 0
  | .listening => 1
  | .claiming => 2
  | .backoff => 3
  | .owned => 4
  | .waiting => 5

structure WingState where
  phase : WingPhase
  backoff : Nat
  slot : Nat
  /-- consecutive cycles in which the owner word arrived as IDLE on each ring -/
  idleRuns : Vector Nat 2
  /-- first cycle of insertion (step 2) -/
  claimCycle : DWord
  /-- passed checks of step 3 on each ring -/
  checks : Vector Nat 2
  /-- back-off register (R97) -/
  lfsr : BitVec 16
  /-- stream cycle from which the full cue goes out in an owned slot (R96) -/
  fullFrom : DWord
  deriving DecidableEq, Repr

def WingState.init : WingState := ⟨.none, 0, 0, Vector.replicate 2 0, 0, Vector.replicate 2 0, 0, 0⟩

/-- A scene change (R99-R103). -/
structure SceneState where
  /-- a scene is announced or armed: target cycle and sheet identifier -/
  target : Option (DWord × Nat)
  /-- this node armed it -/
  armed : Bool
  vetoed : Bool
  vsent : Bool
  /-- the node had not confirmed by cycle C - 16 (R100) -/
  unconfirmed : Bool
  /-- this prompter cancels by veto (R103) -/
  cancelVeto : Bool
  deriving DecidableEq, Repr

def SceneState.init : SceneState := ⟨none, false, false, false, false, false⟩

/-- The guardian (R82-R85). -/
structure GuardState where
  /-- timed insertion is open (GRD_STAT.OPEN) -/
  open_ : Bool
  tblerr : Bool
  /-- all insertion but hop-local words is closed, from a mismatch to the marker after a good check (R85) -/
  shut : Bool
  /-- reloads that have failed, with the instant of the first -/
  fails : List Nat
  /-- closed until the next reset (R85) -/
  dead : Bool
  /-- a reload waits for its check -/
  reloaded : Bool
  /-- kinds of guardian entries that differ from the sheet's, by place (wing slots) -/
  kinds : List (Nat × GuardKind)
  /-- kinds that take effect at the next marker on the ring (R84) -/
  next : List (Nat × GuardKind)
  deriving DecidableEq, Repr

def GuardState.init : GuardState := ⟨false, false, false, [], false, false, [], []⟩

/-- Prompter state of a named prompter (R90-R94). -/
structure PrompterState where
  active : Bool
  listening : Bool
  /-- a marker has been heard while listening -/
  heard : Bool
  /-- claim of the other prompter's last notice (CUE_PEER), and its node -/
  peer : Nat
  /-- it loses and yields at the next cycle boundary (R93) -/
  yield_ : Bool
  /-- requested cycle (R94): received by the active one, or sent by this standby -/
  request : Option DWord
  /-- slews left after a takeover (R92) -/
  slews : Nat
  /-- cycles since this node's first time notice, for its first REQUEST (R538) -/
  noticed : Option DWord
  deriving DecidableEq, Repr

def PrompterState.init : PrompterState := ⟨false, false, false, 0, false, none, 0, none⟩

/-- The line-head role on one ring (R86-R89). -/
structure LineHead where
  head : Bool
  endOfLine : Bool
  /-- its first marker has been sent -/
  started : Bool
  /-- cycle of its next generated marker -/
  nextCycle : DWord
  /-- difference in words between its own marker and the received one, during handover -/
  handover : Option Int
  /-- it forwards from the next cycle boundary -/
  forwardNext : Bool
  /-- cycle of its last line-head notice -/
  noticeAt : Option DWord
  /-- instant of the CM word of the last marker the node generated on the ring, as line head or prompter, and its cycle -/
  sentAt : Nat
  sentCycle : DWord
  /-- the flags of that marker, and the cycle whose SB 0x01 the node has sent (R63, R65) -/
  sentFlags : MarkerFlags
  sbCycle : Option DWord
  deriving DecidableEq, Repr

def LineHead.init : LineHead := ⟨false, false, false, 0, none, false, none, 0, 0, .init, none⟩

structure CueState where
  /-- the two banks of sheets (R101) -/
  banks : Vector (Option CueSheet) 2
  /-- the sheet of the stagebook that was loaded stands in the bank the first accepted marker named (R388) -/
  placed : Bool
  /-- bank in force -/
  bank : Bool
  /-- a stagebook with a CUE section is in force -/
  track : Vector RingTrack 2
  lines : Vector LineHead 2
  /-- cycle number of the last accepted marker on either ring (CUE_CYC) -/
  cycle : DWord
  flags : MarkerFlags
  /-- stream phase lag in words (CUE_PHASE) -/
  phase : Nat
  /-- the publish area's fill bank is bank 1 -/
  fill : Bool
  landings : List Landing
  arrived : List CopyArrived
  status : List SubStatus
  relays : List RelayCopy
  wing : WingState
  scene : SceneState
  guard : GuardState
  prompter : PrompterState
  /-- cycles since a port was last DOWN or a START notice arrived, saturating at 16 (R96) -/
  calm : Nat
  /-- LH reported as NOSHEET: the bank named is not held -/
  noSheet : Bool
  /-- first cycle of the sheet in force after a scene change (R102) -/
  sceneCycle : Option DWord
  deriving DecidableEq, Repr

def CueState.init : CueState where
  banks := Vector.replicate 2 none
  placed := false
  bank := false
  track := Vector.replicate 2 .init
  lines := Vector.replicate 2 .init
  cycle := 0
  flags := .init
  phase := 0
  fill := false
  landings := []
  arrived := []
  status := []
  relays := []
  wing := .init
  scene := .init
  guard := .init
  prompter := .init
  calm := 0
  noSheet := false
  sceneCycle := none

end Sys2Proof
end

