-- ==== Sys2Proof/Machine/FabTypes.lean ====
section
/-! DEFINITION. The plain data of discovery, casting, fetching and routing (R174-R197). -/

namespace Sys2Proof

/-- A cast entry of the CAST section: a number bound to a unique ID or to a position (R185). -/
structure CastEntry where
  node : Nat
  uid : Option (List Word)
  pos : Nat
  deriving DecidableEq, Repr

/-- The CAST section (R185, R195). -/
structure CastTables where
  ring : Nat
  /-- node number it was compiled for -/
  node : Nat
  size : Nat
  posB : Nat
  entries : List CastEntry
  /-- group number and its members in rising order -/
  groups : List (Nat × List Nat)
  /-- for each ring: ring, primary exit, alternate exit or 0 -/
  routes : List (Nat × Nat × Nat)
  jointEn : Bool
  /-- FAB_JOINT.PORT: 0 the 10G uplink, 1 the 1G uplink -/
  jointPort : Bool
  jointPeer : Nat
  deriving DecidableEq, Repr

/-- A place of the destination table (R190). -/
structure Dest where
  node : Nat
  ha : Nat
  hb : Nat
  /-- named in the roll call under way -/
  fresh : Bool
  deriving DecidableEq, Repr

/-- What a roll page said of a node (R181). -/
structure Seen where
  uid : List Word
  node : Nat
  haveSb : Bool
  keepW : Bool
  keepE : Bool
  source : Nat
  ha : Nat
  hb : Nat
  gen : Word
  deriving DecidableEq, Repr

/-- One ring of a running roll call (R184). -/
structure RollRing where
  page : Nat
  /-- last page that has returned -/
  last : Nat
  /-- cycle in which the page was last sent; resent once -/
  sentAt : DWord
  resent : Bool
  ended : Bool
  deriving DecidableEq, Repr

structure CastOut where
  seen : Seen
  given : Nat
  anchor : Bool
  deriving DecidableEq, Repr

/-- FAB_FETCH_STAT.SRC and STATE, and the progress of a fetch (R193, R194). -/
structure FetchState where
  /-- 0 none, 1 west, 2 east, 3 prompter -/
  src : Nat
  /-- 0 idle, 1 waiting, 2 receiving, 3 failed and waiting 1 s -/
  state : Nat
  rounds : Nat
  frames : Nat
  offset : Nat
  /-- words received -/
  words : List Word
  /-- the number asked for -/
  node : Nat
  /-- a kept copy for the neighbour of this port is fetched, not the node's own (R192) -/
  keep : Option Port
  deriving DecidableEq, Repr

def FetchState.init : FetchState := ⟨0, 0, 0, 0, 0, [], 0, none⟩

/-- A kept copy of a neighbour's stagebook (R192, R380). -/
structure KeptCopy where
  node : Nat
  gen : Word
  words : List Word
  placed : Bool
  deriving DecidableEq, Repr

structure FabState where
  node : Nat
  /-- FAB_STAT.CAST: the node holds a number given since the start -/
  cast : Bool
  /-- FAB_STAT.SRC: 0 none, 1 ID, 2 position, 3 retained -/
  src : Nat
  /-- number to adopt at the next cycle boundary, with DROP and ANCHOR (R189) -/
  adopt : Option (Nat × Bool × Bool)
  tables : Option CastTables
  /-- ring and number of the active prompter as the last roll page named them, for a node that holds no CAST section (R181, R193) -/
  ringHeard : Option Nat
  prompterHeard : Nat
  /-- a cast notice has given the node the number its CAST section was compiled for, or it is a listening named
  prompter (R535) -/
  castOk : Bool
  loop : Nat
  hA : Nat
  hB : Nat
  pos : Option Nat
  posFixed : Bool
  dests : List Dest
  /-- roll call: running, number, per ring -/
  rolling : Bool
  rollNum : Word
  rolls : Vector RollRing 2
  seen : List Seen
  lastSeen : Nat
  uncast : Nat
  /-- cast notices still to send -/
  castQueue : List CastOut
  /-- cycles at which roll calls fall due (R180) -/
  rollDue : List DWord
  rollClosed : Option DWord
  partial_ : Bool
  fetch : FetchState
  keptW : Option KeptCopy
  keptE : Option KeptCopy
  /-- neighbours whose cast notice showed a copy to be due while a fetch ran, and their numbers (R192) -/
  keepDue : List (Port × Nat)
  /-- neighbours' numbers, west and east, from their positions -/
  west : Nat
  east : Nat
  /-- last route notices: exit node, bitmap, cycle (R196) -/
  notices : List (Nat × Word × DWord)
  /-- bitmap of the peer joint's last notice across the uplink, and its cycle -/
  peerRings : Option (Word × DWord)
  /-- exit in use for each ring: 0 none, 1 primary, 2 alternate -/
  use : Vector Nat 16
  /-- the last route notice sent: bitmap and cycle -/
  sentRoute : Option (Word × DWord)
  deriving DecidableEq, Repr

def FabState.init : FabState where
  node := 0
  cast := false
  src := 0
  adopt := none
  tables := none
  ringHeard := none
  prompterHeard := 0
  castOk := false
  loop := 0
  hA := 0
  hB := 0
  pos := none
  posFixed := false
  dests := []
  rolling := false
  rollNum := 0
  rolls := Vector.replicate 2 ⟨0, 0, 0, false, false⟩
  seen := []
  lastSeen := 0
  uncast := 0
  castQueue := []
  rollDue := []
  rollClosed := none
  partial_ := false
  fetch := .init
  keptW := none
  keptE := none
  keepDue := []
  west := 0
  east := 0
  notices := []
  peerRings := none
  use := Vector.replicate 16 0
  sentRoute := none

end Sys2Proof
end

