-- ==== Sys2Proof/Machine/StoreTypes.lean ====
section
/-! DEFINITION. The plain data of the retained store, the journal and the loader (R365-R393), with the content of a
stagebook as its sections load it. -/

namespace Sys2Proof

/-- A REG item (R370): the register's canonical local byte address, its selector, the value. -/
structure RegItem where
  addr : Nat
  sel : Nat
  value : Word
  deriving DecidableEq, Repr

/-- What the sections of a stagebook say (R369, R370). -/
structure Stagebook where
  gen : DWord
  signed : Bool
  cast : CastTables
  sheet : CueSheet
  /-- CRCs of the CUE and GUARD sections (R389) -/
  cueCrc : DWord
  guardCrc : DWord
  /-- REG items of all sections, in tag order -/
  regs : List RegItem
  /-- LU_HW: publish word of the health word (R412) -/
  health : Option Nat
  /-- the CMP section: first publish word of the input image (R527); none without the section -/
  cmp : Option Nat
  /-- cluster number and section -/
  clusters : List (Nat × ClusterCfg)
  deriving DecidableEq, Repr

/-- The slot states of R375. -/
inductive SlotState where
  | empty | open_ | checking | bad | valid | live | kept
  deriving DecidableEq, Repr

def SlotState.code : SlotState → Nat
  | .empty => 0
  | .open_ => 1
  | .checking => 2
  | .bad => 3
  | .valid => 4
  | .live => 5
  | .kept => 6

/-- A slot (R375). -/
structure Slot where
  state : SlotState
  cause : Nat
  two : Bool
  /-- what its words spell, once a check has read them -/
  content : Option Stagebook
  deriving DecidableEq, Repr

def Slot.init : Slot := ⟨.empty, 0, false, none⟩

/-- A journal record (R383). -/
inductive JrnBody where
  /-- register (canonical address), selector, value, base -/
  | field (addr sel : Nat) (value base : Word)
  /-- slot B?, state code, FORCE, sheet identifier -/
  | slot (b : Bool) (state : Nat) (force : Bool) (sheet : Nat)
  deriving DecidableEq, Repr

/-- The journal (R383-R387). -/
structure Journal where
  /-- live records, oldest first: body and word index in the record area -/
  live : List (JrnBody × Nat)
  /-- the record being written: body and whether it is a compaction copy -/
  writing : Option (JrnBody × Bool)
  /-- records that wait for the one under way, oldest first; the register of a FIELD record takes its value as the record
  begins (R384) -/
  held : List JrnBody
  seq : DWord
  /-- word index of the next record -/
  pos : Nat
  compacting : Bool
  /-- sheet of the newest SLOT record with FORCE set (R378) -/
  forced : Option Nat
  deriving DecidableEq, Repr

def Journal.init : Journal := ⟨[], none, [], 0, 0, false, none⟩

/-- RST_CMD_STAT (R393). -/
structure CmdStat where
  state : Nat
  last : Nat
  refuse : Nat
  deriving DecidableEq, Repr

structure StoreState where
  slots : Vector Slot 2
  /-- the slot in force: false A, true B -/
  force : Option Bool
  base : Bool
  /-- the start-up scan has run since reset -/
  scanned : Bool
  /-- a stagebook or the base configuration has been applied since reset -/
  applied : Bool
  /-- REG items of the stagebook in force (R11) -/
  items : List RegItem
  jrn : Journal
  cmd : CmdStat
  /-- hitless update: slot and step 1-5 (R390) -/
  upd : Option (Bool × Nat)
  /-- the PWR section, or the base configuration, has been applied since the last start -/
  pwrApplied : Bool
  /-- sections staged at the field side, by tag -/
  staged : List Nat
  /-- words of the section that STAGEBOOK_CHUNK messages are bringing to the field side -/
  incoming : List Word
  /-- SHEET is running for a slot (R388) -/
  sheet : Option Bool
  /-- the sheet of this slot is in the inactive bank -/
  sheetSlot : Option Bool
  fuse : Bool
  /-- key slot states (R373) -/
  keys : Vector Nat 4
  /-- repair map: copy in use and its sequence number (R387) -/
  repairCopy : Bool
  repairSeq : DWord
  /-- records the journal has written in the life of the part: the writes of the head cells (R366, R385) -/
  worn : Nat
  deriving DecidableEq, Repr

def StoreState.init : StoreState where
  slots := Vector.replicate 2 .init
  force := none
  base := false
  scanned := false
  applied := false
  items := []
  jrn := .init
  cmd := ⟨0, 0, 0⟩
  upd := none
  pwrApplied := false
  staged := []
  incoming := []
  sheet := none
  sheetSlot := none
  fuse := false
  keys := #v[1, 0, 0, 0]
  repairCopy := false
  repairSeq := 0
  worn := 0

end Sys2Proof
end

