-- ==== Sys2Proof/Machine/NodeTypes.lean ====
section
/-! DEFINITION. The plain data of the lead and understudy cores (R394-R415), of the power die (R439-R468), of the host
ports and intermission (R469-R492), of the debug port (R505-R515), of Ramuth compatibility mode (R524-R532) and of
reset. -/

namespace Sys2Proof

/-- A claim value (R398). -/
inductive Claim where
  | c0 | c4 | c8 | c12
  deriving DecidableEq, Repr

def Claim.value : Claim → Nat
  | .c0 => 0
  | .c4 => 4
  | .c8 => 8
  | .c12 => 12

/-- The claim of a value a CLAIM message carries. -/
def Claim.ofValue (n : Nat) : Claim :=
  if n = 12 then .c12 else if n = 8 then .c8 else if n = 4 then .c4 else .c0

/-- What a core at claim 0 or 4 is doing (LU_STAT.RSYNC). -/
inductive CorePhase where
  | idle | selfTest | copying | finishing
  deriving DecidableEq, Repr

def CorePhase.code : CorePhase → Nat
  | .idle => 0
  | .selfTest => 1
  | .copying => 2
  | .finishing => 3

/-- Why a core leaves a role, LU_HIST_W0.CAUSE. -/
inductive ClaimCause where
  | start | beatLoss | fault | margin | command | swap | rejoinStep | rejoinFailed | equal | update | raise
  deriving DecidableEq, Repr

def ClaimCause.code : ClaimCause → Nat
  | .start => 0
  | .beatLoss => 1
  | .fault => 2
  | .margin => 3
  | .command => 4
  | .swap => 5
  | .rejoinStep => 6
  | .rejoinFailed => 7
  | .equal => 8
  | .update => 9
  | .raise => 10

/-- An entry of the claim history (R415). -/
structure HistEntry where
  core : Core
  old : Claim
  new : Claim
  cause : ClaimCause
  time : Int
  deriving DecidableEq, Repr

structure CoreState where
  claim : Claim
  /-- claim as the field die takes it from the last CLAIM message (R396) -/
  fieldClaim : Claim
  /-- a beat reached the keeper within the last 200 ns -/
  beat : Bool
  phase : CorePhase
  /-- instants of rejoins begun in the last hour -/
  rejoins : List Nat
  margin : Margin
  deriving DecidableEq, Repr

def CoreState.init : CoreState := ⟨.c0, .c0, false, .idle, [], .init⟩

structure LeadState where
  cores : Vector CoreState 2
  /-- a core has held 12 since the last start (R400) -/
  everLead : Bool
  hist : List HistEntry
  histLost : Bool
  /-- equal claims are in force -/
  equal : Bool
  /-- a start under R401 is under way: no core has taken claim 12 yet -/
  starting : Bool
  /-- what the self-tests of this start have shown -/
  tested : Vector (Option Bool) 2
  /-- a planned swap that has been accepted and waits for a latch instant: who asked, when, and for what -/
  swapDue : Option (Core × Nat × ClaimCause)
  /-- a demotion of the former lead follows the swap (R405) -/
  demoteAfter : Bool
  /-- cycle in which two swap requests met (R411) -/
  swapColl : Option DWord
  /-- health word bits that cover the time since the previous one (R412) -/
  mismSince : Bool
  migSince : Bool
  swoCount : Nat
  deriving DecidableEq, Repr

def LeadState.init : LeadState where
  cores := Vector.replicate 2 .init
  everLead := false
  hist := []
  histLost := false
  equal := false
  starting := true
  tested := Vector.replicate 2 none
  swapDue := none
  demoteAfter := false
  swapColl := none
  mismSince := false
  migSince := false
  swoCount := 0

/-- The feed states of R440. -/
inductive FeedPhase where
  | absent | low | ok | good | above
  deriving DecidableEq, Repr

def FeedPhase.code : FeedPhase → Nat
  | .absent => 0
  | .low => 1
  | .ok => 2
  | .good => 3
  | .above => 4

/-- A feed: voltage in 10 mV, current in 10 mA, toward VPWR positive. -/
structure Feed where
  phase : FeedPhase
  volts : Nat
  amps : Int
  /-- instant it entered its state -/
  since : Nat
  /-- its path has been turned on since the start of the power die -/
  on : Bool
  /-- its path is closed: it conducts -/
  closed : Bool
  /-- opened by OVER (R441) -/
  ovp : Bool
  deriving DecidableEq, Repr

def Feed.init : Feed := ⟨.absent, 0, 0, 0, false, false, false⟩

/-- The power path states of R443. -/
inductive PathPhase where
  | feed | handover | holdup | return_
  deriving DecidableEq, Repr

def PathPhase.code : PathPhase → Nat
  | .feed => 0
  | .handover => 1
  | .holdup => 2
  | .return_ => 3

/-- The e-fuse states of R454. -/
inductive FusePhase where
  | off | wait | ramp | on | tripped | locked | held
  deriving DecidableEq, Repr

def FusePhase.code : FusePhase → Nat
  | .off => 0
  | .wait => 1
  | .ramp => 2
  | .on => 3
  | .tripped => 4
  | .locked => 5
  | .held => 6

/-- An exact fraction in lowest terms, its denominator not 0: the accumulator and the temperatures of an e-fuse channel
are computed as R456 and R458 write them (notes/assumptions/44.md). -/
structure Frac where
  num : Int
  den : Nat
  deriving DecidableEq, Repr

/-- An e-fuse channel (R454-R460). Currents in 10 mA, temperatures in degrees Celsius, rises in K. -/
structure Fuse where
  phase : FusePhase
  cause : Nat
  retries : Nat
  amps : Nat
  /-- A of R456 -/
  acc : Frac
  /-- d of R458 -/
  poles : Vector Frac 3
  /-- t_model, once the model has run -/
  model : Option Frac
  /-- diode reading, 0.5 K -/
  diode : Option Int
  /-- a retry waits until the overrides end (R465) -/
  retryDue : Bool
  /-- the retry delay has ended and the model is still too hot (R460) -/
  delayDone : Bool
  /-- since when every diode reading has differed from the model by more than 15 K, and whether that is reported -/
  diffSince : Option Nat
  diffTold : Bool
  diodeBad : Bool
  deriving DecidableEq, Repr

def Fuse.init : Fuse :=
  ⟨.off, 0, 0, 0, ⟨0, 1⟩, Vector.replicate 3 ⟨0, 1⟩, none, none, false, false, none, false, false⟩

structure PowerState where
  feeds : Vector Feed 2
  path : PathPhase
  /-- the 2 ms dwell of FEED or HOLDUP runs (R444) -/
  dwell : Bool
  huVolts : Nat
  vpwr : Nat
  temp : Int
  share : Nat
  sharing : Bool
  link : Bool
  started : Bool
  /-- the PWR section, or the base configuration, has been applied since the last reset -/
  sectioned : Bool
  /-- the hand-over condition, or the return condition, was met during the dwell -/
  handoverDue : Bool
  returnDue : Bool
  cfStep : Nat
  cfCause : Nat
  cfSkip : Bool
  cfStat : Word
  /-- the power cycle of R451 is under way -/
  cycling : Bool
  /-- the sixteen e-fuse channels (R454) -/
  fuses : Vector Fuse 16
  /-- the dark-node state and intermission as the power die last heard of them over its link (R461, R464) -/
  heardDark : Bool
  heardIntm : Bool
  /-- register writes to blocks 22 and 23 that wait for the link (R464), oldest first -/
  linkWrites : List (Path × Nat × Word)
  deriving DecidableEq, Repr

def PowerState.init : PowerState where
  feeds := Vector.replicate 2 .init
  path := .feed
  dwell := false
  huVolts := 0
  vpwr := 0
  temp := 0
  share := 0
  sharing := false
  link := false
  started := false
  sectioned := false
  handoverDue := false
  returnDue := false
  cfStep := 0
  cfCause := 0
  cfSkip := false
  cfStat := 0
  cycling := false
  fuses := Vector.replicate 16 .init
  heardDark := false
  heardIntm := false
  linkWrites := []

/-- An entry of the wake log (R489). -/
structure WakeEntry where
  ring : Bool
  reason : Byte
  cycle : Word
  deriving DecidableEq, Repr

/-- HST_INTM_STAT.STATE. -/
inductive IntmPhase where
  | running | pending | inside | resuming
  deriving DecidableEq, Repr

def IntmPhase.code : IntmPhase → Nat
  | .running => 0
  | .pending => 1
  | .inside => 2
  | .resuming => 3

/-- What has become of an item of an envelope: its completion is still to come, it draws none, or it has come. -/
inductive EnvItem where
  | waits
  | silent
  | done (c : Completion)
  deriving DecidableEq, Repr

/-- Where a frame of an uplink comes from: its MAC address, its VLAN tags, and for UDP its IPv4 address and port (R472). -/
structure EthPeer where
  mac : BitVec 48
  tags : List Word
  udp : Option (DWord × Word)
  deriving DecidableEq, Repr

/-- An Ethernet frame an uplink has sent: destination MAC address (none where the manual names none), VLAN tags, IPv4 address
and UDP port of a UDP datagram, EtherType, and payload words, for UDP those of the datagram. -/
structure EthFrame where
  mac : Option (BitVec 48)
  tags : List Word
  udp : Option (DWord × Word)
  ether : Word
  words : List Word
  deriving DecidableEq, Repr

/-- An envelope under way or answered (R474), its items in order. -/
structure EnvEntry where
  key : EnvKey
  peer : EthPeer
  items : List EnvItem
  done : Bool
  /-- instant of its response -/
  at_ : Nat
  deriving DecidableEq, Repr

/-- What the Ethernet transmitters have been given to send, and the PAUSE state (R471). -/
structure UplinkState where
  up : Bool
  speed : Nat
  /-- a received PAUSE holds the transmitter until this instant -/
  pausedTo : Nat
  /-- a PAUSE with quanta other than 0 was the last sent -/
  pausing : Bool
  /-- Ethernet frames sent, newest first -/
  sent : List EthFrame
  deriving DecidableEq, Repr

def UplinkState.init : UplinkState := ⟨false, 0, 0, false, []⟩

structure HostState where
  ups : Vector UplinkState 2
  envs : List EnvEntry
  ptpLock : Bool
  ptpTwoStep : Bool
  ptpOfs : Int
  ptpRun : Nat
  /-- instant of the last usable Sync -/
  ptpAt : Nat
  /-- how far the frequency stands from the unslewed one, in ppb (R129) -/
  ptpFreq : Int
  qsResult : Nat
  qsStatus : Nat
  /-- words the last READ or FETCH frame returned -/
  qsOut : List Word
  /-- words of the last READ or WRITE frame whose accesses are not complete -/
  qsLeft : Nat
  /-- the status word shifted out during the last command word (R481) -/
  qsShown : Word
  /-- command and address words of the last READ or FETCH frame that asked for a CRC byte (R481) -/
  qsCover : Option (List Word)
  /-- completion words that wait for FETCH (R481) -/
  qsFetch : List Word
  intm : IntmPhase
  /-- cycle from which the prompter's markers carry INTM 1 -/
  intmFrom : Option DWord
  intmClear : Bool
  intmRef : Bool
  intmSent : Bool
  intmCause : Nat
  /-- pins stay at rank 4 until the first latch instant after resume -/
  intmHold : Bool
  /-- reasons that have arisen in this intermission, in order of arrival -/
  reasons : List Nat
  /-- reasons sent, for the signals of R488 -/
  sentReasons : List Nat
  wake : List WakeEntry
  /-- WAKE words of the sequence now arriving on each ring -/
  wakeWords : Vector (List Byte) 2
  /-- library requests forwarded and not yet answered: requester's node and number asked for (R477) -/
  library : List (Nat × Nat)
  deriving DecidableEq, Repr

def HostState.init : HostState where
  ups := Vector.replicate 2 .init
  envs := []
  ptpLock := false
  ptpTwoStep := false
  ptpOfs := 0
  ptpRun := 0
  ptpAt := 0
  ptpFreq := 0
  qsResult := 0
  qsStatus := 0
  qsOut := []
  qsLeft := 0
  qsShown := 0
  qsCover := none
  qsFetch := []
  intm := .running
  intmFrom := none
  intmClear := false
  intmRef := false
  intmSent := false
  intmCause := 0
  intmHold := false
  reasons := []
  sentReasons := []
  wake := []
  wakeWords := Vector.replicate 2 []
  library := []

/-- The instructions of R505. -/
inductive TapInstr where
  | extest | idcode | sample | highz | clamp | fsample | fextest | dap | bypass
  deriving DecidableEq, Repr

structure DebugState where
  tap : TapInstr
  /-- DAP: STATE of R508, status, address of the last request, read data -/
  dap : Nat
  /-- an access of the port is under way -/
  dapBusy : Bool
  dapStatus : Nat
  dapAddr : Nat
  dapData : Word
  /-- levels preloaded into the host chain and into the field chain, and the shadow of the field chain -/
  hostChain : List Bool
  fieldChain : List Bool
  fieldShadow : List Bool
  deriving DecidableEq, Repr

def DebugState.init : DebugState := ⟨.idcode, 3, false, 0, 0, 0, [], [], []⟩

/-- Ramuth compatibility mode (R524-R532). -/
structure CmpState where
  /-- first publish word of the input image, while the mode is enabled -/
  inpub : Option Nat
  numref : Bool
  /-- a committed image in the fill bank waits for its flip -/
  pend : Bool
  /-- a committed image in the send bank waits for its latch instant -/
  flipped : Bool
  deriving DecidableEq, Repr

def CmpState.init : CmpState := ⟨none, false, false, false⟩

/-- Reset and start (R463, R503, R533). -/
structure StartState where
  /-- the side is held in reset -/
  hostReset : Bool
  fieldReset : Bool
  resetLow : Bool
  /-- HUB_RST_CAUSE.CAUSE -/
  cause : Nat
  /-- a warm restart runs until the stagebook is applied -/
  warm : Bool
  /-- BYPASS_N is driven low (R58) -/
  bypassLow : Bool
  /-- the LNK section, or the base configuration, has been applied since reset (R58) -/
  lnkApplied : Bool
  /-- the field side was reset alone: PWR and CLUn sections are to be sent again (R567) -/
  resend : Bool
  /-- a latch instant has occurred since reset (R308) -/
  latched : Bool
  deriving DecidableEq, Repr

def StartState.init : StartState where
  hostReset := false
  fieldReset := false
  resetLow := false
  cause := 0
  warm := false
  bypassLow := true
  lnkApplied := false
  resend := false
  latched := false

end Sys2Proof
end

