-- ==== Sys2Proof/Syntax.lean ====
section
/-! DEFINITION. The commands of the block: one constructor per row of the spec's table of commands, with the row's
operands. What a command's operands carry that the block cannot compute (a measured value, a verdict of a check on
received words, what another node or a pin presents) is the environment's; `t` is the instant of the command in ticks
(Machine/TimeTypes.lean). -/

namespace Sys2Proof

/-- An instant, and what PTP time reads at it (R129). -/
structure PtpInstant where
  t : Nat
  ptp : Int
  deriving DecidableEq, Repr

/-- What the scrub of one slot finds (R366, R382): an uncorrectable error, and single-bit errors it corrects. -/
structure SlotScrub where
  bad : Bool
  corrected : Nat
  deriving DecidableEq, Repr

/-- A command (one row of the table each). -/
inductive Instr where
  /-- BARRIER_SEND (R17): A crossing message becomes ready at one end of the barrier and the sender starts the highest-ranked ready message at the next message boundary. -/
  | barrierSend (d : BarDir) (t : Nat)
  /-- CLAIM (R396): A CLAIM message from a core's claim keeper reaches the field die, which takes that core's claim for its output stages. -/
  | claim (crc : Word) (t : Nat)
  /-- FAULT_REPORT (R417): A FAULT_REPORT message from the field die reaches the ring die and is handed to both fault collectors. -/
  | faultReport (crc : Word) (t : Nat)
  /-- TIME_SYNC (R14): A TIME_SYNC message gives the field-side timekeeper ring time and the coming sample, latch and flip instants. -/
  | timeSync (crc : Word) (t : Nat)
  /-- IMAGE_OUT (R21): An IMAGE_OUT message delivers output image words from a named hub core to the field output stages. -/
  | imageOut (crc : Word) (t : Nat)
  /-- IMAGE_IN (R253): An IMAGE_IN message delivers input image, snapshot, stamp or OUT-region words to a hub core. -/
  | imageIn (crc : Word) (t : Nat)
  /-- SIGNAL (R247): A SIGNAL message crosses the barrier carrying an event announcement or up to 15 conduit words. -/
  | signal (d : BarDir) (crc : Word) (t : Nat)
  /-- REG_ACCESS (R495): A REG_ACCESS message performs a field register read or write for a hub core, or returns its response. -/
  | regAccess (d : BarDir) (crc : Word) (t : Nat)
  /-- STAGEBOOK_CHUNK (R390): A STAGEBOOK_CHUNK message delivers a field-side stagebook section, whose CRC the field die checks and holds staged or applies. -/
  | stagebookChunk (crc upset : Word) (t : Nat)
  /-- DEBUG (R506): A DEBUG message carries debug traffic, such as field boundary chain service, across the barrier. -/
  | debugMsg (d : BarDir) (crc : Word) (t : Nat)
  /-- LINK_ACK (R15): A link-level acknowledgement reaches the sender, which counts the message delivered. -/
  | linkAck (d : BarDir) (ty : BarType) (t : Nat)
  /-- NEGATIVE_ACK (R16): A negative acknowledgement reaches the sender of a message discarded for bad CRC or unexpected sequence number. -/
  | negativeAck (d : BarDir) (ty : BarType) (t : Nat)
  /-- MESSAGE_RESEND (R16): A negatively acknowledged or unacknowledged barrier message is sent again. -/
  | messageResend (d : BarDir) (ty : BarType) (t : Nat)
  /-- MESSAGE_TIMEOUT (R20): A barrier message is not acknowledged within 1 us of its first sending; the sender reports, resynchronises and resends. -/
  | messageTimeout (d : BarDir) (ty : BarType) (t : Nat)
  /-- BARRIER_RETRAIN_DONE (R20): Retraining of a barrier direction completes and the direction carries messages again. -/
  | barrierRetrainDone (d : BarDir) (t : Nat)
  /-- LANE_FAILED (R18): The receiving end judges a barrier lane failed after 16 CRC errors in 1 ms or loss of lane lock. -/
  | laneFailed (d : BarDir) (lane : Fin 10) (t : Nat)
  /-- LANE_REPLACED (R18): A spare lane replaces a failed barrier lane and in-flight messages are resent. -/
  | laneReplaced (d : BarDir) (t : Nat)
  /-- SPARE_LANE_LOST (R18): An unused spare barrier lane loses lock and is marked failed. -/
  | spareLaneLost (d : BarDir) (lane : Fin 10) (t : Nat)
  /-- BARRIER_TRAIN_TIMEOUT (R463): The barrier has not trained within 100 ms of reset release and the GRAVE fault of R19 is raised. -/
  | barrierTrainTimeout (t : Nat)
  /-- SAMPLE_INSTANT (R76): The sample instant of a cycle occurs and the field inputs are captured into the snapshot. -/
  | sampleInstant (t : Nat)
  /-- SNAP_REFRESH (R253): 200 ns after the sample instant all SNAP regions of the clusters are refreshed together. -/
  | snapRefresh (t : Nat)
  /-- LATCH_INSTANT (R76): The latch instant occurs: field output stages apply staged outputs and subscription copies are delivered. -/
  | latchInstant (t : Nat)
  /-- FLIP_INSTANT (R77): The flip instant occurs: publish banks swap and subscription landing buffers turn over. -/
  | flipInstant (t : Nat)
  /-- IMAGE_INSTANT (R254): At latch plus CLU_IMG_DLY all IN regions of a cluster change together, or keep their content when a word is late. -/
  | imageInstant (n : Fin 12) (t : Nat)
  /-- MARGIN_MEASURE (R26): A speed-margin monitor measures its block's margin, as it does every 1 us. -/
  | marginMeasure (block : Fin 14) (code : BitVec 8) (t : Nat)
  /-- FLD_MGN_CLR (R32): A write to FLD_MGN_CLR makes a cluster's minimum margin restart from its next measurement. -/
  | fldMgnClr (v : Word) (t : Nat)
  /-- LU_MGN_CLR (R415): A write to LU_MGN_CLR makes a core's minimum margin restart from its next measurement. -/
  | luMgnClr (v : Word) (t : Nat)
  /-- WORD_RECEIVE (R37): A ring word arrives on a port's lane pair and is forwarded, replaced or consumed. -/
  | wordReceive (p : Port) (g0 : Code) (g1 : Code) (t : Nat)
  /-- ERR_RECEIVE (R37): An ERR word is received, counted in LNK_x_ERRIN and forwarded unchanged. -/
  | errReceive (p : Port) (t : Nat)
  /-- LS_RECEIVE (R44): An LS word from the neighbour gives the far port state, which may advance or drop the local port. -/
  | lsReceive (p : Port) (status : Byte) (t : Nat)
  /-- TSID_RECEIVE (R50): A training pattern block with its TSID arrives, giving the far lane state, lane number and side. -/
  | tsidReceive (p : Port) (lane : Fin 2) (east : Bool) (number : Fin 2) (far : Fin 4) (inverted : Bool) (t : Nat)
  /-- WRONG_SIDE_RETRY (R54): One second after a wrong-side connection the port tries again. -/
  | wrongSideRetry (p : Port) (t : Nat)
  /-- ECHO_REQ_RECEIVE (R38): An ECHO_REQ arrives and its arrival instant is kept for the next hop-band answer. -/
  | echoReqReceive (p : Port) (tag : Byte) (t : Nat)
  /-- ECHO_RSP_RECEIVE (R112): An ECHO_RSP arrives and its result enters the port's echo mean. -/
  | echoRspReceive (p : Port) (tag : Byte) (w1 : Word) (w2 : Word) (w3 : Word) (t : Nat)
  /-- ECHO_TIMEOUT (R112): An ECHO_REQ draws no matching ECHO_RSP within 4 cycles and is counted as a miss. -/
  | echoTimeout (p : Port) (tag : Byte) (t : Nat)
  /-- SB_RECEIVE (R63): An SB word marks the start of the event region or of the hop band. -/
  | sbReceive (p : Port) (hop : Bool) (t : Nat)
  /-- IE_OPEN (R157): An IE_OPEN word begins the parse of an interjected URGENT frame. -/
  | ieOpen (p : Port) (t : Nat)
  /-- IE_CLOSE (R157): An IE_CLOSE word ends an interjection and the interrupted frame's count resumes. -/
  | ieClose (p : Port) (t : Nat)
  /-- HOP_BAND (R38): The hop band of a cycle begins and each transmitting port sends SB, LS, ECHO_REQ and ECHO_RSP. -/
  | hopBand (p : Port) (fill : Nat) (tableOk : Bool) (t : Nat)
  /-- HOP_BAND_IDLE (R38): A port that is UP with no cycle sends its hop-band words every 4,096 word times. -/
  | hopBandIdle (p : Port) (fill : Nat) (t : Nat)
  /-- GUARD_RELOAD (R85): A guardian reload from the active stagebook completes; after three failures within 1 s the guardian stays closed. -/
  | guardReload (t : Nat)
  /-- EB_OVERRUN (R42): The elastic buffer fill reaches 0 or 16 and the port reports and goes DOWN. -/
  | ebOverrun (p : Port) (full : Bool) (t : Nat)
  /-- TRAINING_ENTRY (R44): After signal and CDR lock on both lanes for 10 us a DOWN port enters TRAINING. -/
  | trainingEntry (p : Port) (t : Nat)
  /-- TRAINING_DONE (R44): Both local lanes and the far TSID show trained and the port enters SYNC. -/
  | trainingDone (p : Port) (t : Nat)
  /-- TRAINING_TIMEOUT (R44): A port has spent 4 ms in TRAINING and returns to DOWN as a training failure. -/
  | trainingTimeout (p : Port) (t : Nat)
  /-- SYNC_DONE (R44): The lanes are deskewed and four far LS words qualify, so the port enters UP. -/
  | syncDone (p : Port) (skew : Nat) (late1 : Bool) (t : Nat)
  /-- SYNC_TIMEOUT (R44): A port has spent 100 us in SYNC and returns to DOWN. -/
  | syncTimeout (p : Port) (t : Nat)
  /-- LOSS_OF_SIGNAL (R46): Loss of signal or CDR lock on a receive lane moves the port to DOWN within 2 us. -/
  | lossOfSignal (p : Port) (lane : Fin 2) (loss : LaneLoss) (t : Nat)
  /-- DEGRADE_ENTRY (R47): Word errors in a 1 ms window, or eye height low for 10 ms, move an UP port to DEGRADED. -/
  | degradeEntry (p : Port) (t : Nat)
  /-- DEGRADED_EXIT (R44): A DEGRADED port with neither condition for 100 ms returns to UP. -/
  | degradedExit (p : Port) (t : Nat)
  /-- DEGRADED_RETRAIN (R44): A port in DEGRADED for 1 s with RETRAIN_DEG at 1 goes DOWN and trains. -/
  | degradedRetrain (p : Port) (t : Nat)
  /-- HOLD_OFF_END (R48): A flap-damping hold-off expires and the port returns to normal DOWN behaviour. -/
  | holdOffEnd (p : Port) (t : Nat)
  /-- EYE_UPDATE (R51): The eye height of each lane is updated every 1 ms. -/
  | eyeUpdate (p : Port) (e0 : Byte) (e1 : Byte) (t : Nat)
  /-- EQ_ADAPT (R51): An equalizer coefficient adapts by at most one step in each 1 us on received words. -/
  | eqAdapt (p : Port) (lane : Fin 2) (k : Fin 6) (up : Bool) (t : Nat)
  /-- RETRAIN (R60): LNK_x_CMD.RETRAIN makes the port enter DOWN and train. -/
  | retrain (p : Port) (t : Nat)
  /-- CLRHOLD (R60): LNK_x_CMD.CLRHOLD ends any hold-off and restarts the damping count. -/
  | clrhold (p : Port) (t : Nat)
  /-- LNK_PORT_DISABLE (R60): LNK_CTRL disables a port, which goes DOWN at once with electrical idle. -/
  | lnkPortDisable (p : Port) (t : Nat)
  /-- LNK_PORT_ENABLE (R44): LNK_CTRL enables a port, which may then leave DOWN for TRAINING. -/
  | lnkPortEnable (p : Port) (t : Nat)
  /-- MARKER_RECEIVE (R66): A curtain marker arrives and is accepted, counted or flywheeled, driving discipline and cycle state. -/
  | markerReceive (r : Ring) (w1 : Word) (w2 : Word) (w3 : Word) (slew : Int) (transit : Int) (t : Nat)
  /-- MARKER_WINDOW_CLOSE (R66): The acceptance window of an expected marker closes without an acceptable marker and the node flywheels. -/
  | markerWindowClose (r : Ring) (t : Nat)
  /-- MARKER_SEND (R71): A marker generator sends the curtain marker that starts its next cycle. -/
  | markerSend (r : Ring) (t : Nat)
  /-- CUE_PASSAGE (R77): An owned cue passage reaches the insertion point and its payload is read from the send bank. -/
  | cuePassage (r : Ring) (ix : Nat) (t : Nat)
  /-- CUE_COPY_RECEIVE (R79): A copy of a subscribed cue has passed, is checked and is written to its landing buffer or discarded. -/
  | cueCopyReceive (r : Ring) (pos : Nat) (ws : List RingWord) (t : Nat)
  /-- COPY_USABLE (R79): A received copy becomes usable 500 ns after its last word and is judged early, in time or late. -/
  | copyUsable (r : Ring) (ix : Nat) (t : Nat)
  /-- RELAY_SEND (R72): The active prompter sends a relayed cue copy m cycles later, or IDLE when it failed. -/
  | relaySend (r : Ring) (pos : Nat) (t : Nat)
  /-- LINE_HEAD_MARKER (R87): A new line head sends its first generated marker with LH 1. -/
  | lineHeadMarker (r : Ring) (t : Nat)
  /-- LINE_HEAD_NOTICE_SEND (R88): A line head sends its line-head notice in its first event region and every 64 cycles. -/
  | lineHeadNoticeSend (r : Ring) (t : Nat)
  /-- LINE_HEAD_NOTICE (R166): A line-head notice with START or END is delivered and drives re-pinning and roll calls. -/
  | lineHeadNotice (payload : List Word) (t : Nat)
  /-- PROMPTER_LISTEN (R90): A named prompter whose conditions hold starts to listen on both rings and holds its compiled number. -/
  | prompterListen (w : PtpInstant)
  /-- PROMPTER_BEGIN (R90): The listening period ends; a prompter that heard no marker begins, otherwise stands by. -/
  | prompterBegin (ptp : Int) (t : Nat)
  /-- PROMPTER_NOTICE_SEND (R91): A prompter sends its prompter notice every cycle when active or every 16 cycles on standby. -/
  | prompterNoticeSend (t : Nat)
  /-- PROMPTER_NOTICE (R93): A prompter notice is delivered and decides between two active prompters or carries a request. -/
  | prompterNotice (payload : List Word) (t : Nat)
  /-- TAKEOVER (R92): Prompter A's marker is missing 200 ns after its expected instant and standby B takes over. -/
  | takeover (t : Nat)
  /-- YIELD (R93): A losing prompter stops ending and relaying at the next cycle boundary and forwards. -/
  | yield (t : Nat)
  /-- WING_CLAIM_START (R96): A late-comer with no recent break begins listening for a free wing slot. -/
  | wingClaimStart (t : Nat)
  /-- WING_BACKOFF_END (R97): A wing claim back-off ends and the claim begins again at the listening step. -/
  | wingBackoffEnd (t : Nat)
  /-- SCENE_ARM (R99): CUE_SCN_CTRL.ARM at the active prompter starts a scene change for cycle C. -/
  | sceneArm (t : Nat)
  /-- SCENE_CANCEL (R103): CUE_SCN_CTRL.CANCEL at the active prompter cancels a pending scene change according to its cycle. -/
  | sceneCancel (t : Nat)
  /-- SCENE_NOTICE_SEND (R99): The prompter sends a scene notice in each cycle up to C - 17. -/
  | sceneNoticeSend (t : Nat)
  /-- SCENE_NOTICE (R100): A scene notice is delivered and the node confirms when its inactive bank holds the sheet. -/
  | sceneNotice (payload : List Word) (t : Nat)
  /-- VETO_SEND (R100): A node that has not confirmed sends a veto in each of cycles C - 16 to C - 9. -/
  | vetoSend (t : Nat)
  /-- VETO (R101): A veto is delivered and makes marker generators keep the old bank at C. -/
  | veto (payload : List Word) (t : Nat)
  /-- DELAY_REPORT_SEND (R111): A node sends its delay report to a neighbour on a VALID change and every 16 cycles. -/
  | delayReportSend (r : Ring) (t : Nat)
  /-- DELAY_REPORT (R113): A delay report from the upstream neighbour updates the cable estimate and marker delay. -/
  | delayReport (payload : List Word) (t : Nat)
  /-- DELAY_REPORT_STALE (R432): No upstream delay report for 64 cycles makes the node treat it as VALID 0 and leave ranging. -/
  | delayReportStale (r : Ring) (t : Nat)
  /-- TIMEKEEPER_STEP (R116): A phase error above 1 us steps the timekeeper at the next cycle boundary. -/
  | timekeeperStep (t : Nat)
  /-- LOOP_CLOSURE (R120): The active prompter updates the loop closure of each ring every 16 cycles. -/
  | loopClosure (r : Ring) (t : Nat)
  /-- TIME_NOTICE_SEND (R122): A prompter sends its time notice every 8 cycles. -/
  | timeNoticeSend (rate : Int) (w : PtpInstant)
  /-- TIME_NOTICE (R123): A time notice is delivered and updates the offset of domain B from domain A. -/
  | timeNotice (payload : List Word) (t : Nat)
  /-- OFFSET_STALE (R123): No standby notice for 64 cycles clears OFS_VALID. -/
  | offsetStale (t : Nat)
  /-- DOMAIN_SETTLE_END (R124): The 16 cycles of domain settle end and discipline resumes on the new prompter. -/
  | domainSettleEnd (t : Nat)
  /-- HOLDOVER_LIMIT (R127): Holdover has lasted TIM_HOLD_LIM and outputs take gap values with a MAJOR fault. -/
  | holdoverLimit (t : Nat)
  /-- PTP_WAIT_EXPIRE (R129): A PTP-disciplined prompter's wait for lock ends and it begins at PTP time or 0. -/
  | ptpWaitExpire (t : Nat)
  /-- PU_ARM (R131): ARM programs a cue pulse unit from staged values, or is refused. -/
  | puArm (path : Path) (u : Fin 24) (t : Nat)
  /-- PU_STOP (R133): STOP ends a cue pulse unit's program after any pulse under way. -/
  | puStop (u : Fin 24) (t : Nat)
  /-- PULSE_LEADING_EDGE (R131): A cue pulse unit drives the leading edge of a pulse at its programmed ring time. -/
  | pulseLeadingEdge (u : Fin 24) (t : Nat)
  /-- PULSE_TRAILING_EDGE (R131): A cue pulse unit ends a pulse after width W. -/
  | pulseTrailingEdge (u : Fin 24) (t : Nat)
  /-- ES_POP (R136): A host read of PLS_ES_n_W0 pops an edge-stamp entry and latches its words. -/
  | esPop (path : Path) (n : Fin 12) (t : Nat)
  /-- TIM_SEC_H_READ (R137): A read of TIM_SEC_H latches the rest of ring time for the path. -/
  | timSecHRead (path : Path) (t : Nat)
  /-- TIM_OFS_SEC_H_READ (R137): A read of TIM_OFS_SEC_H latches the other offset registers for the path. -/
  | timOfsSecHRead (path : Path) (t : Nat)
  /-- CUE_CYC_H_READ (R105): A read of CUE_CYC_H or an instant's _H register latches its _L register. -/
  | cueCycHRead (path : Path) (which : Fin 4) (t : Nat)
  /-- FRAME_HEADER (R148): An event frame header reaches a node, which decides to deliver, forward, strip or refuse it. -/
  | frameHeader (r : Ring) (f : Frame) (interjected : Bool) (t : Nat)
  /-- FRAME_INSERT (R153): A node starts a frame of its own at a frame boundary with its insertion buffer empty. -/
  | frameInsert (r : Ring) (single : Bool) (double : Bool) (t : Nat)
  /-- INTERJECT (R156): An URGENT frame is sent at the next word boundary, wrapped in IE_OPEN and IE_CLOSE inside a passing frame. -/
  | interject (r : Ring) (single : Bool) (double : Bool) (t : Nat)
  /-- SWITCH_INPUT (R163): A frame enters a switch input port and is queued, or the input is back-pressured. -/
  | switchInput (i : Fin 20) (ep : Fin 32) (f : Frame) (t : Nat)
  /-- INPUT_RESUME (R163): A back-pressured input falls below quota and limit and the switch accepts its words again. -/
  | inputResume (i : Fin 20) (t : Nat)
  /-- SWITCH_OUTPUT (R162): An output port serves its class queues and sends the next frame. -/
  | switchOutput (p : Fin 20) (single : Bool) (double : Bool) (agree : Option Bool) (t : Nat)
  /-- COMPARE_TIMEOUT (R402): No understudy counterpart arrives within 10 us of the lead's unit and a mismatch is counted. -/
  | compareTimeout (t : Nat)
  /-- AGE_SWEEP (R168): The switch sweeps every 100 us and retires frames past their age limit. -/
  | ageSweep (t : Nat)
  /-- REPIN (R166): Flows whose ring no longer reaches their destination move to the other ring within 3 cycles. -/
  | repin (r : Ring) (t : Nat)
  /-- REPIN_RETURN (R166): After an END notice a flow returns to its normal ring once idle 4 cycles or after 64 cycles. -/
  | repinReturn (t : Nat)
  /-- PORT_DOWN (R167): A switch port goes down, flushing its queues and retiring transactions PORT_DOWN. -/
  | portDown (p : Fin 20) (t : Nat)
  /-- RC_START (R180): FAB_RC_CTRL.START at the active prompter starts a roll call. -/
  | rcStart (t : Nat)
  /-- ROLL_CALL_DUE (R180): A roll call falls due by period or 16 cycles after beginning or an END notice. -/
  | rollCallDue (t : Nat)
  /-- ROLL_PAGE (R182): A roll page passes a node, which adds its hop count and fills its entry. -/
  | rollPage (r : Ring) (f : Frame) (t : Nat)
  /-- PAGE_RETURN (R184): A roll page returns to the prompter, which sends the next page or ends the ring. -/
  | pageReturn (payload : List Word) (crcOk : Bool) (t : Nat)
  /-- PAGE_TIMEOUT (R184): A roll page has not returned within 16 cycles and is sent again or the roll call closes partial. -/
  | pageTimeout (r : Ring) (t : Nat)
  /-- CAST_NOTICE_SEND (R189): The prompter sends a cast notice for a node seen, in hop order. -/
  | castNoticeSend (t : Nat)
  /-- CAST_NOTICE (R189): A cast notice is delivered and updates the destination table or the node's number. -/
  | castNotice (payload : List Word) (t : Nat)
  /-- NUMBER_ADOPT (R189): A node adopts the number of its cast notice at the next cycle boundary. -/
  | numberAdopt (t : Nat)
  /-- FETCH_START (R193): A node without a valid or matching stagebook starts a fetch from the west neighbour. -/
  | fetchStart (t : Nat)
  /-- FETCH_REQUEST (R193): A fetch request is delivered to a source, which sends fetch data and fetch end. -/
  | fetchRequest (requester : Fin 4096) (payload : List Word) (t : Nat)
  /-- FETCH_DATA (R194): A fetch data frame delivers stagebook words at an offset to the fetching node. -/
  | fetchData (source : Fin 4096) (payload : List Word) (t : Nat)
  /-- FETCH_END (R194): Fetch end arrives and the node checks and loads the stagebook or moves to the next source. -/
  | fetchEnd (source : Fin 4096) (status : Word) (total : DWord) (content : Option Stagebook) (t : Nat)
  /-- FETCH_TIMEOUT (R194): No frame from the current source within FAB_FETCH_TMO moves the fetch to the next source. -/
  | fetchTimeout (t : Nat)
  /-- FETCH_ROUND_WAIT (R194): One second after all sources failed the fetch begins again with the west neighbour. -/
  | fetchRoundWait (t : Nat)
  /-- FETCH_RESTART (R198): FAB_FETCH_CTRL.RESTART ends any fetch and begins again with the west neighbour. -/
  | fetchRestart (t : Nat)
  /-- ROUTE_NOTICE_SEND (R196): A joint sends its route notice every 64 cycles and on a change. -/
  | routeNoticeSend (t : Nat)
  /-- ROUTE_NOTICE (R196): A route notice is delivered and may change the exit used for a ring. -/
  | routeNotice (payload : List Word) (across : Bool) (t : Nat)
  /-- ROUTE_EXPIRE (R196): An exit's route notice ages past 256 cycles and the node changes exit or refuses NO_ROUTE. -/
  | routeExpire (t : Nat)
  /-- REQUEST_ISSUE (R202): A requester hands the bridge a descriptor, which is judged, tagged and issued. -/
  | requestIssue (d : Descriptor) (t : Nat)
  /-- RD (R205): A target performs an RD request and responds with data. -/
  | rd (q : Request) (t : Nat)
  /-- WR (R205): A target performs a WR request and responds with status. -/
  | wr (q : Request) (t : Nat)
  /-- PWR (R205): A target performs a posted write. -/
  | pwr (q : Request) (t : Nat)
  /-- GWR (R226): A group member performs a group write and responds. -/
  | gwr (q : Request) (t : Nat)
  /-- LRD (R223): A target performs a locked read and locks its address space to the source endpoint. -/
  | lrd (q : Request) (t : Nat)
  /-- LWR (R224): A target performs the locked write from the lock holder and unlocks. -/
  | lwr (q : Request) (t : Nat)
  /-- SEMACQ (R225): A target tries to take a semaphore cell for the issuer. -/
  | semacq (q : Request) (t : Nat)
  /-- SEMREL (R225): A target frees a semaphore cell held by the issuer. -/
  | semrel (q : Request) (t : Nat)
  /-- STG (R229): A target holds a staged write of a set for commit at cycle C. -/
  | stg (q : Request) (t : Nat)
  /-- COMMIT (R231): A COMMIT broadcast marks a staging set for writing at the latch of cycle C. -/
  | commit (q : Request) (t : Nat)
  /-- ABORT (R231): An ABORT broadcast discards a staging set. -/
  | abort (q : Request) (t : Nat)
  /-- SIG (R220): A delivered SIG enters the target's signal inbox. -/
  | sig (q : Request) (t : Nat)
  /-- CANCEL (R212): A target handles a CANCEL according to the state of the cancelled request. -/
  | cancel (q : Request) (t : Nat)
  /-- RSP (R210): A response reaches the requester's bridge and completes its open request, or is late. -/
  | rsp (ep : Fin 32) (tag : Fin 64) (seq : Word) (node : Fin 4096) (status : Fin 64) (data : List Word) (t : Nat)
  /-- RANGE (R227): A RANGE descriptor sends one WR to each node of a range under one tag. -/
  | range (d : Descriptor) (t : Nat)
  /-- TXN_TIMEOUT (R211): A transaction timeout expires and the bridge reissues or returns TIMEOUT and sends CANCEL. -/
  | txnTimeout (ep : Fin 32) (tag : Fin 64) (seq : Word) (t : Nat)
  /-- LOCK_RELEASE_TIMEOUT (R224): A far lock held for 50 us is released. -/
  | lockReleaseTimeout (t : Nat)
  /-- CELL_TIMEOUT (R225): A semaphore cell held for 200 us is freed. -/
  | cellTimeout (k : Fin 16) (t : Nat)
  /-- SEM_REL (R225): BRG_SEM_CTRL.REL frees the selected semaphore cell. -/
  | semRel (k : Fin 16) (t : Nat)
  /-- DUP_ENTRY_EXPIRE (R215): A duplicate filter entry leaves after BRG_DUP_WIN. -/
  | dupEntryExpire (ring : Fin 16) (node : Fin 4096) (ep : Fin 32) (tag : Fin 64) (seq : Word) (t : Nat)
  /-- PACING_RELEASE (R203): A paced endpoint's oldest request leaves the window and a held request is issued. -/
  | pacingRelease (ep : Fin 32) (t : Nat)
  /-- COMMIT_DESCRIPTOR (R230): A requester closes a staging set with a COMMIT descriptor and the bridge waits for its STGs. -/
  | commitDescriptor (d : Descriptor) (t : Nat)
  /-- SET_CLOSE (R230): Every STG of a set has completed and the bridge sends COMMIT or ABORT. -/
  | setClose (ep : Fin 32) (set : Byte) (t : Nat)
  /-- SIGNAL_RELEASE (R218): Earlier posted requests have left the node and the held signal is sent. -/
  | signalRelease (ep : Fin 32) (t : Nat)
  /-- SIG_FORWARD (R221): An enabled forwarding entry's source bit rises and a SIG is issued from endpoint 5. -/
  | sigForward (i : Fin 8) (t : Nat)
  /-- SIG_RX_POP (R220): A read of SIG_RX_W0 pops an inbox entry and latches its words. -/
  | sigRxPop (path : Path) (t : Nat)
  /-- FERR_POP (R213): A read of BRG_FERR_W0 pops a far-error log entry. -/
  | ferrPop (path : Path) (t : Nat)
  /-- SELF_TEST_DONE (R264): Built-in self-test of a physical engine completes, repairing rows or retiring the engine. -/
  | selfTestDone (n : Fin 12) (p : Fin 16) (codeFails : Nat) (dataFails : Nat) (other : Bool) (t : Nat)
  /-- CLUSTER_BIND (R239): After start self-test the scheduler binds logical engines to working physical engines. -/
  | clusterBind (n : Fin 12) (t : Nat)
  /-- ROTATION_DUE (R266): The rotation period expires and a logical engine is chosen for migration. -/
  | rotationDue (n : Fin 12) (t : Nat)
  /-- MIGRATION_STOP (R267): The source engine reaches a safe point and stops, and its state is copied. -/
  | migrationStop (n : Fin 12) (t : Nat)
  /-- MIGRATION_FORCE (R269): No safe point within CLU_MIG_WAIT forces the stop, or abandons a rotation. -/
  | migrationForce (n : Fin 12) (t : Nat)
  /-- MIGRATION_RESUME (R267): The copy completes, the crossbar moves and the target resumes the logical engine. -/
  | migrationResume (n : Fin 12) (t : Nat)
  /-- CLU_MIGRATE (R267): CLU_CMD.MIGRATE starts a migration of the named logical engine. -/
  | cluMigrate (n : Fin 12) (e : Fin 14) (t : Nat)
  /-- CLU_RESTART (R262): CLU_CMD.RESTART restarts the named logical engine without a fault. -/
  | cluRestart (n : Fin 12) (e : Fin 14) (t : Nat)
  /-- CLU_OFFLINE (R271): CLU_CMD.OFFLINE halts every engine of the cluster and takes its port down. -/
  | cluOffline (n : Fin 12) (t : Nat)
  /-- CLU_ONLINE (R271): CLU_CMD.ONLINE reloads the CLUn section and binds and starts the engines. -/
  | cluOnline (n : Fin 12) (t : Nat)
  /-- WATCHDOG_EXPIRE (R262): An engine watchdog expires, trapping WDOG or on a second expiry restarting the engine. -/
  | watchdogExpire (n : Fin 12) (e : Fin 14) (t : Nat)
  /-- DEADLINE_MISS (R263): An engine has not executed SYNC within CLU_ENG_DL after the sample instant. -/
  | deadlineMiss (n : Fin 12) (e : Fin 14) (t : Nat)
  /-- CONDUIT_TIMEOUT (R251): The next word of a conduit item does not follow within CLU_CDT_TMO and the item is ended. -/
  | conduitTimeout (n : Fin 12) (q : Fin 16) (outward : Bool) (t : Nat)
  /-- CONDUIT_FRAME (R248): A FRAME conduit completes a frame header and payload, which the hub sends as a DATA frame. -/
  | conduitFrame (n : Fin 12) (q : Fin 16) (t : Nat)
  /-- CONDUIT_DESCRIPTOR (R250): A TXN conduit completes a request descriptor, which the bridge issues. -/
  | conduitDescriptor (n : Fin 12) (q : Fin 16) (t : Nat)
  /-- PACER_TICK (R243): A pacer tick occurs and the pacer shifts, samples or toggles its outputs. -/
  | pacerTick (n : Fin 12) (p : Fin 16) (b : PacerBeat) (t : Nat)
  /-- ENGINE_WAKE (R261): The condition of a WAIT, RECV or TWAIT is met and the dark engine issues its next instruction. -/
  | engineWake (n : Fin 12) (e : Fin 14) (t : Nat)
  /-- STALL_END (R292): A stalled SEND, SHO, SHI, LOCK or pacer DATA access finds room, data or the lock and completes. -/
  | stallEnd (n : Fin 12) (e : Fin 14) (t : Nat)
  /-- NOP (R288): NOP does nothing. -/
  | nop (n : Fin 12) (e : Fin 14) (t : Nat)
  /-- HALT (R288): HALT halts the logical engine and raises a NOTE fault. -/
  | halt (n : Fin 12) (e : Fin 14) (t : Nat)
  /-- WAIT (R289): WAIT completes at once or goes dark until its edge, queue, pacer, FIFO or instant condition holds. -/
  | wait (n : Fin 12) (e : Fin 14) (kind : Fin 16) (index : Fin 16) (t : Nat)
  /-- TRAP (R288): TRAP takes a software trap with its number. -/
  | trap (n : Fin 12) (e : Fin 14) (nn : Byte) (t : Nat)
  /-- RET (R287): RET sets PC from w15. -/
  | ret (n : Fin 12) (e : Fin 14) (t : Nat)
  /-- RET_T (R298): RET T restores flags and PC from the trap record and clears TA. -/
  | retT (n : Fin 12) (e : Fin 14) (t : Nat)
  /-- LOCK (R290): LOCK takes the cluster lock or stalls until it is free. -/
  | lock (n : Fin 12) (e : Fin 14) (t : Nat)
  /-- UNLOCK (R288): UNLOCK releases the cluster lock. -/
  | unlock (n : Fin 12) (e : Fin 14) (t : Nat)
  /-- SYNC (R288): SYNC restarts the watchdog, meets the deadline and waits for earlier stores. -/
  | sync (n : Fin 12) (e : Fin 14) (t : Nat)
  /-- ADD (R282): ADD adds rs to rd. -/
  | add (n : Fin 12) (e : Fin 14) (rd : Fin 16) (rs : Fin 16) (t : Nat)
  /-- SUB (R282): SUB subtracts rs from rd. -/
  | sub (n : Fin 12) (e : Fin 14) (rd : Fin 16) (rs : Fin 16) (t : Nat)
  /-- ADC (R282): ADC adds rs and C to rd. -/
  | adc (n : Fin 12) (e : Fin 14) (rd : Fin 16) (rs : Fin 16) (t : Nat)
  /-- SBC (R282): SBC subtracts rs and the borrow from rd. -/
  | sbc (n : Fin 12) (e : Fin 14) (rd : Fin 16) (rs : Fin 16) (t : Nat)
  /-- AND (R282): AND ands rs into rd. -/
  | and (n : Fin 12) (e : Fin 14) (rd : Fin 16) (rs : Fin 16) (t : Nat)
  /-- OR (R282): OR ors rs into rd. -/
  | or (n : Fin 12) (e : Fin 14) (rd : Fin 16) (rs : Fin 16) (t : Nat)
  /-- XOR (R282): XOR xors rs into rd. -/
  | xor (n : Fin 12) (e : Fin 14) (rd : Fin 16) (rs : Fin 16) (t : Nat)
  /-- SHL (R282): SHL shifts rd left. -/
  | shl (n : Fin 12) (e : Fin 14) (rd : Fin 16) (rs : Fin 16) (t : Nat)
  /-- SHR (R282): SHR shifts rd right logically. -/
  | shr (n : Fin 12) (e : Fin 14) (rd : Fin 16) (rs : Fin 16) (t : Nat)
  /-- SAR (R282): SAR shifts rd right arithmetically. -/
  | sar (n : Fin 12) (e : Fin 14) (rd : Fin 16) (rs : Fin 16) (t : Nat)
  /-- ROL (R282): ROL rotates rd left. -/
  | rol (n : Fin 12) (e : Fin 14) (rd : Fin 16) (rs : Fin 16) (t : Nat)
  /-- ROR (R282): ROR rotates rd right. -/
  | ror (n : Fin 12) (e : Fin 14) (rd : Fin 16) (rs : Fin 16) (t : Nat)
  /-- MOV (R282): MOV copies rs into rd. -/
  | mov (n : Fin 12) (e : Fin 14) (rd : Fin 16) (rs : Fin 16) (t : Nat)
  /-- CMP (R282): CMP compares rd with rs and sets flags. -/
  | cmp (n : Fin 12) (e : Fin 14) (rd : Fin 16) (rs : Fin 16) (t : Nat)
  /-- MULL (R282): MULL stores the low word of rd times rs. -/
  | mull (n : Fin 12) (e : Fin 14) (rd : Fin 16) (rs : Fin 16) (t : Nat)
  /-- MULH (R282): MULH stores the high word of the signed product. -/
  | mulh (n : Fin 12) (e : Fin 14) (rd : Fin 16) (rs : Fin 16) (t : Nat)
  /-- ADDI (R283): ADDI adds a sign-extended immediate to rd. -/
  | addi (n : Fin 12) (e : Fin 14) (rd : Fin 16) (imm : Byte) (t : Nat)
  /-- CMPI (R283): CMPI compares rd with a sign-extended immediate. -/
  | cmpi (n : Fin 12) (e : Fin 14) (rd : Fin 16) (imm : Byte) (t : Nat)
  /-- MOVI (R283): MOVI loads a zero-extended immediate. -/
  | movi (n : Fin 12) (e : Fin 14) (rd : Fin 16) (imm : Byte) (t : Nat)
  /-- BSET (R284): BSET sets a bit of rd. -/
  | bset (n : Fin 12) (e : Fin 14) (rd : Fin 16) (b : Fin 16) (t : Nat)
  /-- BCLR (R284): BCLR clears a bit of rd. -/
  | bclr (n : Fin 12) (e : Fin 14) (rd : Fin 16) (b : Fin 16) (t : Nat)
  /-- BTGL (R284): BTGL inverts a bit of rd. -/
  | btgl (n : Fin 12) (e : Fin 14) (rd : Fin 16) (b : Fin 16) (t : Nat)
  /-- BTST (R284): BTST tests a bit of rd. -/
  | btst (n : Fin 12) (e : Fin 14) (rd : Fin 16) (b : Fin 16) (t : Nat)
  /-- LD (R285): LD loads a word at rs plus offset. -/
  | ld (n : Fin 12) (e : Fin 14) (rd : Fin 16) (rs : Fin 16) (off : Fin 16) (t : Nat)
  /-- ST (R285): ST stores rd at rs plus offset. -/
  | st (n : Fin 12) (e : Fin 14) (rd : Fin 16) (rs : Fin 16) (off : Fin 16) (t : Nat)
  /-- LIMM (R285): LIMM loads a 16-bit immediate. -/
  | limm (n : Fin 12) (e : Fin 14) (rd : Fin 16) (imm : Word) (t : Nat)
  /-- LDF (R285): LDF loads a word at rs plus imm16. -/
  | ldf (n : Fin 12) (e : Fin 14) (rd : Fin 16) (rs : Fin 16) (imm : Word) (t : Nat)
  /-- STF (R285): STF stores rd at rs plus imm16. -/
  | stf (n : Fin 12) (e : Fin 14) (rd : Fin 16) (rs : Fin 16) (imm : Word) (t : Nat)
  /-- LDA (R285): LDA loads a word at imm16. -/
  | lda (n : Fin 12) (e : Fin 14) (rd : Fin 16) (imm : Word) (t : Nat)
  /-- STA (R285): STA stores rd at imm16. -/
  | sta (n : Fin 12) (e : Fin 14) (rd : Fin 16) (imm : Word) (t : Nat)
  /-- BCC (R287): Bcc branches by a signed offset when its condition holds. -/
  | bcc (n : Fin 12) (e : Fin 14) (cond : Fin 16) (off : Byte) (t : Nat)
  /-- JMP (R287): JMP jumps to an even code address. -/
  | jmp (n : Fin 12) (e : Fin 14) (half : BitVec 11) (t : Nat)
  /-- CALL (R287): CALL jumps and writes the return address to w15. -/
  | call (n : Fin 12) (e : Fin 14) (half : BitVec 11) (t : Nat)
  /-- ILLEGAL_INSTRUCTION (R279): An instruction of major 0xF or a reserved encoding traps ILLEGAL. -/
  | illegalInstruction (n : Fin 12) (e : Fin 14) (twoWords : Bool) (t : Nat)
  /-- PINRD (R291): PINRD reads a pin's filtered level or all twelve. -/
  | pinrd (n : Fin 12) (e : Fin 14) (rd : Fin 16) (p : Fin 16) (t : Nat)
  /-- PINWR (R291): PINWR sets the output latch of the engine's pins. -/
  | pinwr (n : Fin 12) (e : Fin 14) (rd : Fin 16) (p : Fin 16) (t : Nat)
  /-- PINDIR (R291): PINDIR sets the drive enable of the engine's pins. -/
  | pindir (n : Fin 12) (e : Fin 14) (rd : Fin 16) (p : Fin 16) (t : Nat)
  /-- SHO (R292): SHO pushes a word into a pacer's transmit buffer, stalling while full. -/
  | sho (n : Fin 12) (e : Fin 14) (rd : Fin 16) (p : Fin 16) (t : Nat)
  /-- SHO_N (R292): SHO.N pushes a word if the transmit buffer has room. -/
  | shoN (n : Fin 12) (e : Fin 14) (rd : Fin 16) (p : Fin 16) (t : Nat)
  /-- SHI (R292): SHI takes a word from a pacer's receive buffer, stalling while empty. -/
  | shi (n : Fin 12) (e : Fin 14) (rd : Fin 16) (p : Fin 16) (t : Nat)
  /-- SHI_N (R292): SHI.N takes a word if one is held. -/
  | shiN (n : Fin 12) (e : Fin 14) (rd : Fin 16) (p : Fin 16) (t : Nat)
  /-- PACE_PER (R292): PACE.PER writes a pacer's period. -/
  | pacePer (n : Fin 12) (e : Fin 14) (rd : Fin 16) (p : Fin 16) (t : Nat)
  /-- PACE_CNT (R292): PACE.CNT writes a pacer's count. -/
  | paceCnt (n : Fin 12) (e : Fin 14) (rd : Fin 16) (p : Fin 16) (t : Nat)
  /-- PACE_RD (R292): PACE.RD reads a pacer's count from one instant. -/
  | paceRd (n : Fin 12) (e : Fin 14) (rd : Fin 16) (p : Fin 16) (t : Nat)
  /-- PACE_ST (R292): PACE.ST reads and clears a pacer's status events. -/
  | paceSt (n : Fin 12) (e : Fin 14) (rd : Fin 16) (p : Fin 16) (t : Nat)
  /-- EDGE (R292): EDGE pops the cluster edge-stamp FIFO into four registers. -/
  | edge (n : Fin 12) (e : Fin 14) (rd : Fin 16) (t : Nat)
  /-- SEND (R293): SEND pushes a word into a conduit's outward queue. -/
  | send (n : Fin 12) (e : Fin 14) (rd : Fin 16) (q : Fin 16) (t : Nat)
  /-- RECV (R293): RECV pops an inward word or goes dark while empty. -/
  | recv (n : Fin 12) (e : Fin 14) (rd : Fin 16) (q : Fin 16) (t : Nat)
  /-- PEEK (R293): PEEK reads the head inward word without popping. -/
  | peek (n : Fin 12) (e : Fin 14) (rd : Fin 16) (q : Fin 16) (t : Nat)
  /-- POLL (R293): POLL pops an inward word if present, without waiting. -/
  | poll (n : Fin 12) (e : Fin 14) (rd : Fin 16) (q : Fin 16) (t : Nat)
  /-- TSTAMP (R294): TSTAMP reads ring time into four registers. -/
  | tstamp (n : Fin 12) (e : Fin 14) (rd : Fin 16) (t : Nat)
  /-- TWAIT (R295): TWAIT completes at once or goes dark until ring time reaches T. -/
  | twait (n : Fin 12) (e : Fin 14) (rs : Fin 16) (t : Nat)
  /-- TCMP (R294): TCMP compares T with the present ring time. -/
  | tcmp (n : Fin 12) (e : Fin 14) (rs : Fin 16) (t : Nat)
  /-- PIN_RAW_CHANGE (R134): The raw level at a field pin ball changes and the edge is stamped and filter timing starts. -/
  | pinRawChange (k : Fin 144) (level : Bool) (t : Nat)
  /-- FILTER_ACCEPT (R305): A new raw level has held for the filter time and the filtered level changes. -/
  | filterAccept (k : Fin 144) (t : Nat)
  /-- TOGGLE_WINDOW_END (R306): A 1 ms window of a toggle-limited pin ends and the pin may leave the state. -/
  | toggleWindowEnd (k : Fin 144) (t : Nat)
  /-- ADC_SLOT (R313): An ADC slot instant occurs and the ADC converts a channel or performs a calibration step. -/
  | adcSlot (n : Fin 12) (input : Int) (t : Nat)
  /-- ADC_RESULT (R314): A conversion result becomes available 700 ns after its slot. -/
  | adcResult (n : Fin 12) (c : Fin 2) (t : Nat)
  /-- STUCK_WINDOW_END (R319): A stuck-detector period ends with every conversion in band and STUCK is set. -/
  | stuckWindowEnd (n : Fin 12) (c : Fin 2) (t : Nat)
  /-- CAN_ENABLE (R346): CAN_CTRL.EN written to 1 applies configuration and starts integration, or sets CFGERR. -/
  | canEnable (c : Fin 4) (t : Nat)
  /-- CAN_DISABLE (R346): CAN_CTRL.EN written to 0 stops the controller at once. -/
  | canDisable (c : Fin 4) (t : Nat)
  /-- CAN_INTEGRATED (R346): The controller has seen 11 recessive bits and takes part on the bus. -/
  | canIntegrated (c : Fin 4) (t : Nat)
  /-- CAN_FRAME_RECEIVE (R349): A received frame is validated, stamped and sorted by the acceptance filters. -/
  | canFrameReceive (c : Fin 4) (w0 : Word) (w1 : Word) (w2 : Word) (data : List Word) (sof : Nat) (t : Nat)
  /-- CAN_FRAME_SENT (R355): The head frame reaches the end of its EOF and counts as sent. -/
  | canFrameSent (c : Fin 4) (sof : Nat) (delay : Nat) (t : Nat)
  /-- CAN_ARBITRATION_LOST (R355): The head frame loses arbitration and is retransmitted later. -/
  | canArbitrationLost (c : Fin 4) (t : Nat)
  /-- CAN_PROTOCOL_ERROR (R357): The controller detects a protocol error and updates TEC, REC and its state. -/
  | canProtocolError (c : Fin 4) (kind : CanErr) (dataPhase : Bool) (own : Bool) (special : Bool) (t : Nat)
  /-- CAN_RECOVERY_DONE (R358): 128 recessive sequences end bus-off recovery. -/
  | canRecoveryDone (c : Fin 4) (t : Nat)
  /-- TXFLUSH (R355): CAN_CMD.TXFLUSH removes every transmit entry not under transmission. -/
  | txflush (c : Fin 4) (t : Nat)
  /-- RECOVER (R358): CAN_CMD.RECOVER starts bus-off recovery. -/
  | recover (c : Fin 4) (t : Nat)
  /-- CAN_TX_PUSH (R354): A write to CAN_TX_PUSH queues the staged record or refuses it. -/
  | canTxPush (path : Path) (c : Fin 4) (t : Nat)
  /-- CAN_TX_DATA (R354): A write to CAN_TX_DATA appends a data word to the staged record. -/
  | canTxData (path : Path) (c : Fin 4) (v : Word) (t : Nat)
  /-- CAN_RX_POP (R352): A read of CAN_RX_POP pops a receive FIFO entry and latches it. -/
  | canRxPop (path : Path) (c : Fin 4) (t : Nat)
  /-- CAN_SP_POP (R352): A read of CAN_SP_POP pops a spotlight entry and latches it. -/
  | canSpPop (path : Path) (c : Fin 4) (t : Nat)
  /-- CAN_RX_DATA (R352): A read of CAN_RX_DATA returns the next latched data word. -/
  | canRxData (path : Path) (c : Fin 4) (t : Nat)
  /-- CAN_FORWARD (R353): The CAN service sends a buffered entry as a DATA frame when port 7 has room. -/
  | canForward (c : Fin 4) (t : Nat)
  /-- SLOT_OPEN (R376): RST_CMD OPEN opens a slot for writing through the aperture. -/
  | slotOpen (path : Path) (b : Bool) (t : Nat)
  /-- WP_DATA (R376): A write to the aperture stores words at the write port offset. -/
  | wpData (i : Fin 32) (v : Word) (t : Nat)
  /-- SLOT_CLOSE (R376): RST_CMD CLOSE closes a slot and starts its check. -/
  | slotClose (path : Path) (b : Bool) (t : Nat)
  /-- SLOT_CHECK_DONE (R372): A slot check completes and the slot becomes VALID or BAD. -/
  | slotCheckDone (b : Bool) (content : Option Stagebook) (ecc : Bool) (t : Nat)
  /-- PROMOTE (R377): RST_CMD PROMOTE makes a VALID slot LIVE and records it in force. -/
  | promote (path : Path) (b : Bool) (t : Nat)
  /-- UPDATE (R389): RST_CMD UPDATE starts a hitless update, or is refused. -/
  | update (path : Path) (b : Bool) (t : Nat)
  /-- SHEET (R388): RST_CMD SHEET places a slot's cue sheet in the inactive bank. -/
  | sheet (path : Path) (b : Bool) (t : Nat)
  /-- SHEET_LOADED (R388): The new sheet is placed in the inactive bank and the node has confirmed. -/
  | sheetLoaded (t : Nat)
  /-- ABANDON (R376): RST_CMD ABANDON returns a slot not in force to EMPTY. -/
  | abandon (path : Path) (b : Bool) (t : Nat)
  /-- KEYWR (R374): KEYWR writes an owner key slot from an OPEN slot. -/
  | keywr (path : Path) (b : Bool) (t : Nat)
  /-- KEYREV (R374): KEYREV revokes the selected key slot. -/
  | keyrev (path : Path) (t : Nat)
  /-- FUSE (R374): FUSE blows the secure-boot fuse of an SL192-FA. -/
  | fuse (path : Path) (t : Nat)
  /-- BADCMD (R393): An undefined RST_CMD code is refused as BADCMD. -/
  | badcmd (path : Path) (code : Fin 16) (t : Nat)
  /-- SCRUB (R382): Every 10 minutes the loader checks each slot in the background. -/
  | scrub (a b : SlotScrub) (t : Nat)
  /-- JOURNAL_RECORD (R384): A write to a persistent register begins a journal record, or is held until the current record commits. -/
  | journalRecord (path : Path) (addr : BitVec 17) (v : Word) (t : Nat)
  /-- JOURNAL_COMMIT (R385): A journal record's commit word and head cells are written. -/
  | journalCommit (t : Nat)
  /-- COMPACTION_COPY (R387): The journal copies the oldest live record forward between writes. -/
  | compactionCopy (t : Nat)
  /-- KEPT_COPY_WRITE (R380): A due kept copy is written into the slot not in force once it qualifies. -/
  | keptCopyWrite (t : Nat)
  /-- UPDATE_RESYNC_DONE (R390): A core applying an update's sections finishes resynchronising and returns to claim 8. -/
  | updateResyncDone (c : Core) (t : Nat)
  /-- UPDATE_SWAP (R390): At a latch instant the cores swap roles and the field die applies the staged sections. -/
  | updateSwap (t : Nat)
  /-- STAGEBOOK_APPLY (R369): The loader applies the selected stagebook's sections, or the base configuration, in tag order. -/
  | stagebookApply (t : Nat)
  /-- JOURNAL_SCAN_DONE (R386): The start-up journal scan finds the newest records and slot states. -/
  | journalScanDone (headBad : Bool) (t : Nat)
  /-- CLAIM_BEAT (R395): A core's beat reaches its claim keeper. -/
  | claimBeat (c : Core) (t : Nat)
  /-- BEAT_LOSS (R395): A core's beat has been absent 200 ns and its keeper sets its claim to 0. -/
  | beatLoss (c : Core) (t : Nat)
  /-- CLAIM_REFRESH (R395): A keeper resends its CLAIM message every 10 us. -/
  | claimRefresh (c : Core) (t : Nat)
  /-- CLAIM_MISSING (R396): No CLAIM message from a keeper for 30 us makes the field die take that claim as 0. -/
  | claimMissing (c : Core) (t : Nat)
  /-- EQUAL_CLAIMS (R400): Equal claims of 8 or 12 held for 200 ns set core 1 to 0. -/
  | equalClaims (t : Nat)
  /-- NO_CORE (R400): 2 us with no core accepted at the ring-die comparators raises GRAVE. -/
  | noCore (t : Nat)
  /-- CORE_SELF_TEST_DONE (R401): A core's self-test completes and it takes claim 12 or begins rejoining. -/
  | coreSelfTestDone (c : Core) (pass : Bool) (t : Nat)
  /-- LU_DEMOTE (R405): LU_CMD.DEMOTE demotes the named core, after a planned swap if it is lead. -/
  | luDemote (c : Core) (t : Nat)
  /-- LU_SWAP (R410): LU_CMD.SWAP makes the lead request a planned swap. -/
  | luSwap (t : Nat)
  /-- LU_REJOIN (R406): LU_CMD.REJOIN starts one rejoin of a core at 0. -/
  | luRejoin (c : Core) (t : Nat)
  /-- REJOIN_COPY_DONE (R405): The rejoining core finishes copying the lead's state and waits for a flip instant. -/
  | rejoinCopyDone (c : Core) (t : Nat)
  /-- REJOIN_FINISH (R405): At a flip instant the rejoining core takes the last changes and sets claim 8. -/
  | rejoinFinish (c : Core) (t : Nat)
  /-- RSYNC_TIMEOUT (R406): A rejoin not complete within LU_RSYNC_TMO fails and the core returns to 0. -/
  | rsyncTimeout (c : Core) (t : Nat)
  /-- SWITCHOVER (R408): The understudy sees the lead's claim drop and raises its claim to 12. -/
  | switchover (c : Core) (t : Nat)
  /-- SWAP_STEP (R410): Just after a latch instant an accepted swap exchanges the claims of the cores. -/
  | swapStep (t : Nat)
  /-- COLLECTOR_REPORT (R418): A fault collector receives a report and counts, escalates, records and reacts by class. -/
  | collectorReport (c : Core) (t : Nat)
  /-- HANDLING_END (R424): Handling of a record ends and merged reactions are issued in order. -/
  | handlingEnd (c : Core) (t : Nat)
  /-- QUIET_PERIOD_MAJOR (R426): A held source's quiet period ends and its resource returns, within the recovery limit. -/
  | quietPeriodMajor (src : Fin 1024) (t : Nat)
  /-- QUIET_PERIOD_GRAVE (R426): The GRAVE quiet period ends under AUTO and the node leaves the dark-node state. -/
  | quietPeriodGrave (t : Nat)
  /-- COLLECTOR_SELF_FAULT (R429): A collector parity, ECC or state-copy error sets the dark-node latch directly. -/
  | collectorSelfFault (c : Core) (cause : Fin 3) (t : Nat)
  /-- FAULT_BACKLOG_SEND (R417): The field die sends pending field-side reports once the field-to-host direction carries messages again. -/
  | faultBacklogSend (t : Nat)
  /-- FLT_LOG_POP (R423): A read of FLT_LOG_W0 pops a fault record. -/
  | fltLogPop (path : Path) (t : Nat)
  /-- LU_HIST_POP (R415): A read of LU_HIST_W0 pops a claim history entry. -/
  | luHistPop (path : Path) (t : Nat)
  /-- FLT_INJ_ARM (R434): FLT_INJ.ARM arms hub-side fault injection for the selected checker. -/
  | fltInjArm (v : Word) (t : Nat)
  /-- FI_ARM (R434): FI_CTRL.ARM arms field-side fault injection for the selected checker. -/
  | fiArm (v : Word) (t : Nat)
  /-- POWER_MEASURE (R440): The power die measures feeds, store and VPWR every 2 us and judges feed states. -/
  | powerMeasure (va : Word) (vb : Word) (vh : Word) (vp : Word) (ia : Word) (ib : Word) (temp : Word) (t : Nat)
  /-- OVP_RECLOSE (R441): A feed below V_ovp - 1 V for 20 ms has its path closed again. -/
  | ovpReclose (i : Fin 2) (t : Nat)
  /-- SHARE_ALARM (R442): Shares outside the band for 1 s report a NOTE fault. -/
  | shareAlarm (t : Nat)
  /-- HANDOVER (R443): No feed OK or GOOD for 50 us starts hand-over to the hold-up store. -/
  | handover (t : Nat)
  /-- HOLDUP_ENTRY (R443): The hand-over completes and the path enters HOLDUP. -/
  | holdupEntry (t : Nat)
  /-- RETURN (R443): A feed GOOD for 20 ms starts the return from HOLDUP. -/
  | returnPath (t : Nat)
  /-- FEED_ENTRY (R443): The return completes and the path enters FEED. -/
  | feedEntry (t : Nat)
  /-- DWELL_END (R444): The 2 ms dwell of FEED or HOLDUP ends and a pending transition may start. -/
  | dwellEnd (t : Nat)
  /-- HU_NOT_READY (R447): The hold-up store not ready for 1 s reports a MINOR fault. -/
  | huNotReady (t : Nat)
  /-- POWER_DIE_START (R446): An input above 9 V starts the power die, which closes GOOD feed paths and enters FEED. -/
  | powerDieStart (t : Nat)
  /-- CURTAIN_FALL_START (R448): HOLDUP lasting RIDE, or feed loss without hold-up, begins curtain fall. -/
  | curtainFallStart (t : Nat)
  /-- CURTAIN (R448): PWR_CMD.CURTAIN begins curtain fall with cause 3. -/
  | curtain (t : Nat)
  /-- JOURNAL_FLUSH_DONE (R449): The curtain-fall journal flush completes and the exit notice is sent. -/
  | journalFlushDone (t : Nat)
  /-- EXIT_NOTICE_SENT (R449): The exit notice leaves on both rings, or 2 ms pass, and BYPASS_N is driven low. -/
  | exitNoticeSent (skipped : Bool) (t : Nat)
  /-- CURTAIN_SETTLE_END (R449): Both ports DOWN or SETTLE elapses, and source 0x1F8 reports GRAVE. -/
  | curtainSettleEnd (t : Nat)
  /-- CF_POWER_CYCLE (R451): After curtain fall a feed GOOD for 20 ms makes the power die open every path for 200 ms. -/
  | cfPowerCycle (t : Nat)
  /-- CF_RESTART (R451): The 200 ms power cycle ends and the power die starts as at power-on. -/
  | cfRestart (t : Nat)
  /-- EF_MEASURE (R454): Each e-fuse channel measures its current every 10 us and updates its curve accumulator and thermal model. -/
  | efMeasure (c : Fin 16) (amps : Word) (t : Nat)
  /-- EF_INST_TRIP (R457): The shunt comparator trips the channel within 2 us at the instant level. -/
  | efInstTrip (c : Fin 16) (t : Nat)
  /-- EF_RAMP_DONE (R459): The channel output comes within 1 V of VPWR and the channel enters ON. -/
  | efRampDone (c : Fin 16) (t : Nat)
  /-- EF_RAMP_TIMEOUT (R459): A ramp not complete within its limit trips with cause RAMP. -/
  | efRampTimeout (c : Fin 16) (t : Nat)
  /-- EF_RETRY (R460): The retry delay after a trip ends and the channel ramps again or locks. -/
  | efRetry (c : Fin 16) (t : Nat)
  /-- EF_RETRY_COUNT_RESTART (R460): 10 s unbroken in ON restarts the retry count. -/
  | efRetryCountRestart (c : Fin 16) (t : Nat)
  /-- EF_START_TURN (R454): A waiting channel's 2 ms start turn comes and it enters RAMP. -/
  | efStartTurn (c : Fin 16) (t : Nat)
  /-- EF_DIODE_READ (R458): The sense diode is read every 10 ms and compared with the model. -/
  | efDiodeRead (c : Fin 16) (valid : Bool) (reading : Word) (t : Nat)
  /-- EF_ON_WRITE (R454): A write to PWR_EF_ON commands channels on or off. -/
  | efOnWrite (path : Path) (v : Word) (t : Nat)
  /-- EF_RESET (R460): PWR_EF_RESET ends the lockout of a channel. -/
  | efReset (v : Word) (t : Nat)
  /-- PD_LINK_LOST (R464): No message on the power die link for 100 us reports MAJOR. -/
  | pdLinkLost (t : Nat)
  /-- ETH_FRAME_RECEIVE (R470): An uplink receives a frame and discards it or passes it on by kind. -/
  | ethFrameReceive (u : Uplink) (addressed : Bool) (fcsOk : Bool) (bytes : Word) (kind : Fin 4) (t : Nat)
  /-- ARP_REQUEST (R470): An ARP request for HST_IP is answered. -/
  | arpRequest (u : Uplink) (ip : DWord) (mac : BitVec 48) (senderIp : DWord) (t : Nat)
  /-- ENVELOPE_REQUEST (R474): A REQUEST envelope is checked and its items issued as transactions, or NAKed. -/
  | envelopeRequest (u : Uplink) (p : EthPeer) (low : Option (Fin 4)) (lengths : Bool) (ws : List Word) (t : Nat)
  /-- ENVELOPE_RESPONSE (R474): Every item completion has arrived and the parser returns the RESPONSE envelope. -/
  | envelopeResponse (u : Uplink) (t : Nat)
  /-- ENVELOPE_RELAY (R476): A RELAY envelope on a joining uplink is inserted on the ring or sent on to another exit. -/
  | envelopeRelay (u : Uplink) (p : EthPeer) (low : Option (Fin 4)) (lengths : Bool) (ws : List Word) (t : Nat)
  /-- ENVELOPE_LIBRARY (R477): A LIBRARY envelope from the library host is passed to the fetching node. -/
  | envelopeLibrary (u : Uplink) (p : EthPeer) (low : Option (Fin 4)) (lengths : Bool) (ws : List Word) (t : Nat)
  /-- PAUSE_SEND (R471): A back-pressured uplink sends PAUSE every 1 ms, and quanta 0 when it ends. -/
  | pauseSend (u : Uplink) (t : Nat)
  /-- PAUSE_RECEIVE (R471): A received PAUSE frame holds the uplink transmitter. -/
  | pauseReceive (u : Uplink) (quanta : Word) (t : Nat)
  /-- UPLINK_LINK_CHANGE (R491): An uplink gains or loses link. -/
  | uplinkLinkChange (u : Uplink) (up : Bool) (speed : Fin 3) (t : Nat)
  /-- PTP_SYNC (R479): A PTP Sync is stamped and updates the slave offset and lock. -/
  | ptpSync (u : Uplink) (domain : Byte) (l2 : Bool) (two : Bool) (offset : DWord) (slew : Int) (t : Nat)
  /-- PTP_SYNC_TIMEOUT (R479): Eight Sync intervals without a usable Sync unlock the slave. -/
  | ptpSyncTimeout (t : Nat)
  /-- QSPI_WRITE (R481): A QSPI WRITE frame writes consecutive words when it ends correctly. -/
  | qspiWrite (cmd : Word) (addr : DWord) (ws : List Word) (crc : Byte) (e : Fin 4) (t : Nat)
  /-- QSPI_READ (R481): A QSPI READ frame reads consecutive words, side effects applied at correct end. -/
  | qspiRead (cmd : Word) (addr : DWord) (late : Bool) (e : Fin 4) (t : Nat)
  /-- QSPI_SUBMIT (R481): A QSPI SUBMIT frame hands descriptor words to endpoint 0. -/
  | qspiSubmit (cmd : Word) (ws : List Word) (crc : Byte) (e : Fin 4) (t : Nat)
  /-- QSPI_FETCH (R481): A QSPI FETCH frame returns the next completion words. -/
  | qspiFetch (cmd : Word) (late : Bool) (e : Fin 4) (t : Nat)
  /-- INTM_ENTER (R483): HST_INTM.ENTER at the active prompter starts intermission two cycles on. -/
  | intmEnter (t : Nat)
  /-- INTM_RESUME (R486): HST_INTM.RESUME at the active prompter ends intermission from its next marker. -/
  | intmResume (t : Nat)
  /-- INTM_WAKE (R488): HST_INTM.WAKE raises local wake reason 0x02. -/
  | intmWake (t : Nat)
  /-- WAKE_SEQUENCE_SEND (R488): A node in intermission sends a WAKE sequence for an enabled reason in each event region. -/
  | wakeSequenceSend (r : Ring) (reason : Fin 6) (t : Nat)
  /-- WAKE_RECEIVE (R489): A WAKE sequence arrives, is logged and at the prompter ends intermission. -/
  | wakeReceive (r : Ring) (b0 : Byte) (b1 : Byte) (b2 : Byte) (t : Nat)
  /-- WAKE_LOG_POP (R489): A read of HST_WAKE_W0 pops a wake log entry. -/
  | wakeLogPop (path : Path) (t : Nat)
  /-- REGISTER_WRITE (R496): A write to a register with no row of its own sets its fields. -/
  | registerWrite (path : Path) (addr : BitVec 17) (v : Word) (t : Nat)
  /-- GUARDED_VALUE_WRITE (R499): A single-word write to a WG register arms a guarded sequence. -/
  | guardedValueWrite (path : Path) (addr : BitVec 17) (v : Word) (single : Bool) (t : Nat)
  /-- TWIN_WRITE (R499): A twin write completes or fails a guarded sequence. -/
  | twinWrite (path : Path) (addr : BitVec 17) (v : Word) (single : Bool) (t : Nat)
  /-- GUARD_LATE (R501): No twin write within 2 us fails the sequence with cause LATE. -/
  | guardLate (path : Path) (field : Bool) (t : Nat)
  /-- PARITY_SCRUB (R498): The scrubber checks every configuration register every 100 us and rewrites a mismatch. -/
  | parityScrub (found : Option (BitVec 17 × Word × Bool)) (t : Nat)
  /-- POWER_ON_RESET (R503): VDD_R falls below its reset level and the node resets with latches cleared. -/
  | powerOnReset (t : Nat)
  /-- RESET_N_ASSERT (R503): RESET_N low for at least 1 us resets the node. -/
  | resetNAssert (t : Nat)
  /-- RESET_RELEASE (R463): A side's rails and RESET_N have been good for 1 ms and the side leaves reset. -/
  | resetRelease (field : Bool) (t : Nat)
  /-- WARM (R503): HUB_RESET.WARM starts a warm restart with links kept UP. -/
  | warm (t : Nat)
  /-- LREAD (R508): A DAP LREAD reads the node's local space through path 4. -/
  | lread (addr : DWord) (t : Nat)
  /-- LWRITE (R508): A DAP LWRITE writes the node's local space through path 4. -/
  | lwrite (addr : DWord) (v : Word) (t : Nat)
  /-- GREAD (R508): A DAP GREAD issues a one-word RD from endpoint 4. -/
  | gread (addr : BitVec 48) (t : Nat)
  /-- GWRITE (R508): A DAP GWRITE issues a one-word WR from endpoint 4. -/
  | gwrite (addr : BitVec 48) (v : Word) (t : Nat)
  /-- DAP_TIMEOUT (R508): A DAP access not complete in 10 ms completes with TIMEOUT. -/
  | dapTimeout (t : Nat)
  /-- EXTEST (R507): EXTEST drives the host chain balls while SCANEN is 1. -/
  | extest (levels : List Bool) (t : Nat)
  /-- IDCODE (R505): IDCODE selects the 32-bit identity register. -/
  | idcode (t : Nat)
  /-- SAMPLE_PRELOAD (R505): SAMPLE/PRELOAD samples and preloads the host chain. -/
  | samplePreload (levels : List Bool) (t : Nat)
  /-- HIGHZ (R507): HIGHZ floats the host chain outputs while SCANEN is 1. -/
  | highz (t : Nat)
  /-- CLAMP (R507): CLAMP holds the host chain outputs while SCANEN is 1. -/
  | clamp (t : Nat)
  /-- FSAMPLE (R506): FSAMPLE samples the field chain shadow. -/
  | fsample (levels : List Bool) (t : Nat)
  /-- FEXTEST (R507): FEXTEST drives the field pins from the boundary register while SCANEN is 1. -/
  | fextest (levels : List Bool) (t : Nat)
  /-- DAP (R508): The DAP instruction selects the 72-bit debug access register. -/
  | dap (t : Nat)
  /-- BYPASS (R505): BYPASS selects the bypass register. -/
  | bypass (t : Nat)
  /-- TAP_RESET (R505): JT_TRST_N resets the TAP to Test-Logic-Reset. -/
  | tapReset (t : Nat)
  /-- FIELD_CHAIN_REFRESH (R506): The field chain shadow refreshes its levels every 5 us. -/
  | fieldChainRefresh (t : Nat)
  /-- DBG_HALT (R511): Debug HALT halts the selected engine, deferred under LOCK. -/
  | dbgHalt (n : Fin 12) (e : Fin 14) (t : Nat)
  /-- DBG_FORCE (R511): Debug FORCE halts the engine and breaks any LOCK. -/
  | dbgForce (n : Fin 12) (e : Fin 14) (t : Nat)
  /-- DBG_STEP (R511): Debug STEP issues one instruction of a halted engine. -/
  | dbgStep (n : Fin 12) (e : Fin 14) (t : Nat)
  /-- DBG_RESUME (R511): Debug RESUME continues a halted engine from its PC. -/
  | dbgResume (n : Fin 12) (e : Fin 14) (t : Nat)
  /-- CLRBRK (R511): CLRBRK clears LOCK_BROKEN. -/
  | clrbrk (n : Fin 12) (t : Nat)
  /-- DBG_ENG_REG (R515): An access to DBG_ENG_REG reads or writes a halted engine's register. -/
  | dbgEngReg (path : Path) (write : Option Word) (t : Nat)
  /-- DBG_TRC_POP (R518): A read of DBG_TRC_W0 pops a trace entry. -/
  | dbgTrcPop (path : Path) (t : Nat)
  /-- DBG_TRC_CLR (R523): A write to DBG_TRC_CLR empties trace buffers. -/
  | dbgTrcClr (v : Word) (t : Nat)
  /-- CMP_R_COMMIT (R528): A write to CMP_R_COMMIT copies the staged outputs into the pin image words. -/
  | cmpRCommit (t : Nat)
  /-- CMP_R_OUT_WRITE (R528): A write to CMP_R_OUTi stages an output byte. -/
  | cmpROutWrite (i : Fin 6) (v : Word) (t : Nat)
  /-- CMP_R_IN0_READ (R526): A read of CMP_R_IN0 latches the other input bytes for the path. -/
  | cmpRIn0Read (path : Path) (t : Nat)
  /-- CMP_R_STATUS_READ (R530): A read of CMP_R_STATUS returns and clears its bits. -/
  | cmpRStatusRead (path : Path) (t : Nat)
  /-- FIELD_SIDE_RESET (R567): A field-side rail falls below its reset level for 2 us or longer while the host side runs, and the field side resets to R304 with its pins undriven. -/
  | fieldSideReset (t : Nat)
  /-- BARRIER_TRAINING_DONE (R533): The barrier first trains after reset release, or after a field-side reset, and FLD_BAR_STAT.UP becomes 1, so the field sections can be applied. -/
  | barrierTrainingDone (t : Nat)
  /-- PD_LINK_RESTORED (R464): The internal link between the field die and the power die carries messages again, PWR_STAT.LINK returns to 1, and waiting register writes to blocks 22 and 23 proceed. -/
  | pdLinkRestored (t : Nat)
  /-- LIBRARY_REPLY_TIMEOUT (R477): At the active prompter, a LIBRARY request draws no reply from the library host within FAB_FETCH_TMO, and the prompter answers the requester with fetch end status 1. -/
  | libraryReplyTimeout (t : Nat)
  /-- INTM_SAFE_POINT_WAIT (R485): An engine that has reached no safe point within CLU_MIG_WAIT after intermission entry stops at its next instruction boundary and stays dark. -/
  | intmSafePointWait (n : Fin 12) (e : Fin 14) (t : Nat)
  deriving DecidableEq, Repr

end Sys2Proof
end

