-- ==== Sys2Proof/Decode.lean ====
section
/-! DEFINITION. The commands that words spell: the spec's table of commands gives no row any bits, so no word spells one. -/

namespace Sys2Proof

/-- No row of the table of commands has bits, so a word spells no command. -/
def decodeTableWord (_nbits _w : Nat) : Option Instr := none

end Sys2Proof
end

