-- ==== Sys2Proof/Machine/Coding.lean ====
section
/-! DEFINITION. The line code of the ring lanes (R34, R37): 8b/10b characters with the running disparity of each lane, the lane
order and polarity of a port (R52), and the training pattern (R50). The manual names the code and does not print its tables:
they are those every 8b/10b lane uses (notes/assumptions/117.md). A code group is written abcdei fghj, a its bit 9. -/

namespace Sys2Proof

/-- Six bits of a code group for the low five bits of a data character at negative running disparity. -/
def five6 : List (BitVec 6) :=
  [0b100111, 0b011101, 0b101101, 0b110001, 0b110101, 0b101001, 0b011001, 0b111000,
   0b111001, 0b100101, 0b010101, 0b110100, 0b001101, 0b101100, 0b011100, 0b010111] ++
  [0b011011, 0b100011, 0b010011, 0b110010, 0b001011, 0b101010, 0b011010, 0b111010,
   0b110011, 0b100110, 0b010110, 0b110110, 0b001110, 0b101110, 0b011110, 0b101011]

/-- Four bits for the high three bits at negative running disparity; the last is the other form of 7. -/
def three4 : List (BitVec 4) := [0b1011, 0b1001, 0b0101, 0b1100, 0b1101, 0b1010, 0b0110, 0b1110, 0b0111]

/-- The twelve K-characters and their code groups at negative running disparity. -/
def kGroups : List (Byte × Code) :=
  [(0x1C, 0b0011110100), (0x3C, 0b0011111001), (0x5C, 0b0011110101), (0x7C, 0b0011110011),
   (0x9C, 0b0011110010), (0xBC, 0b0011111010), (0xDC, 0b0011110110), (0xFC, 0b0011111000),
   (0xF7, 0b1110101000), (0xFB, 0b1101101000), (0xFD, 0b1011101000), (0xFE, 0b0111101000)]

/-- Ones among the low n bits. -/
def ones {w : Nat} (n : Nat) (x : BitVec w) : Nat := ((List.range n).filter x.getLsbD).length

/-- The running disparity after six bits: positive where true. -/
def after6 (rd : Bool) (x : BitVec 6) : Bool :=
  if x = 0b000111 then true else if x = 0b111000 then false
  else if ones 6 x > 3 then true else if ones 6 x < 3 then false else rd

/-- The running disparity after four bits. -/
def after4 (rd : Bool) (x : BitVec 4) : Bool :=
  if x = 0b0011 then true else if x = 0b1100 then false
  else if ones 4 x > 2 then true else if ones 4 x < 2 then false else rd

/-- The running disparity after a code group. -/
def afterCode (rd : Bool) (g : Code) : Bool := after4 (after6 rd (g.extractLsb' 4 6)) (g.extractLsb' 0 4)

/-- The six bits of a data character at a running disparity: complemented at positive where they are unbalanced, and for 7. -/
def put6 (rd : Bool) (x : Nat) : BitVec 6 :=
  let c := (five6[x]?).getD 0
  if rd && (decide (ones 6 c ≠ 3) || decide (x = 7)) then ~~~c else c

/-- The four bits after them: the other form of 7 where a run of five equal bits would arise. -/
def put4 (rd : Bool) (x y : Nat) : BitVec 4 :=
  let other := decide (y = 7) && (if rd then [11, 13, 14].contains x else [17, 18, 20].contains x)
  let c := (three4[if other then 8 else y]?).getD 0
  if rd && (decide (ones 4 c ≠ 2) || decide (y = 3)) then ~~~c else c

/-- The code group of a character at a running disparity. -/
def encodeChar (rd : Bool) (k : Bool) (b : Byte) : Code :=
  if k then
    let g := ((kGroups.find? fun x => decide (x.1 = b)).map (·.2)).getD 0
    if rd then ~~~g else g
  else
    let x := b.toNat % 32
    let six := put6 rd x
    six ++ put4 (after6 rd six) x (b.toNat / 32)

/-- The character a code group stands for at a running disparity; no character where the group is invalid there, which takes in a
disparity error (R37). -/
def decodeChar (rd : Bool) (g : Code) : Option (Bool × Byte) :=
  match kGroups.find? fun x => decide (encodeChar rd true x.1 = g) with
  | some x => some (true, x.1)
  | none =>
    let six := g.extractLsb' 4 6
    match (List.range 32).find? fun x => decide (put6 rd x = six) with
    | none => none
    | some x => ((List.range 8).find? fun y => decide (put4 (after6 rd six) x y = g.extractLsb' 0 4)).map
        fun y => (false, BitVec.ofNat 8 (32 * y + x))

/-- The characters of a word, lane 0 first (R34, R35). -/
def RingWord.chars : RingWord → (Bool × Byte) × (Bool × Byte)
  | .data w => ((false, w.extractLsb' 8 8), (false, w.extractLsb' 0 8))
  | .idle => ((true, 0xBC), (true, 0xBC))
  | .cm => ((true, 0x3C), (true, 0x3C))
  | .sb v => ((true, 0x5C), (false, v))
  | .ieOpen => ((true, 0xDC), (false, 1))
  | .ieClose => ((true, 0xDC), (false, 2))
  | .ls b => ((true, 0x7C), (false, b))
  | .echoReq b => ((true, 0xF7), (false, b))
  | .echoRsp b => ((true, 0xFD), (false, b))
  | .wake b => ((true, 0x9C), (false, b))
  | .err => ((true, 0xFE), (true, 0xFE))

/-- A code group as a lane of one polarity carries it (R52). -/
def polar (inv : Bool) (g : Code) : Code := if inv then ~~~g else g

/-- The word that two code groups on the receive lanes of a port form, with lane order and polarity restored (R34, R37, R52), and the
port with the running disparities after them. None is a word error. -/
def arrive (l : LinkPort) (g0 g1 : Code) : Option RingWord × LinkPort :=
  let rd (i : Fin 2) : Bool := (vget l.lanes i).rd
  let h0 := polar (vget l.lanes 0).inverted g0
  let h1 := polar (vget l.lanes 1).inverted g1
  let x0 := decodeChar (rd 0) h0
  let x1 := decodeChar (rd 1) h1
  let lanes := vupd (vupd l.lanes 0 fun x => { x with rd := afterCode (rd 0) h0 }) 1 fun x => { x with rd := afterCode (rd 1) h1 }
  let w := match x0, x1 with
    | some a, some b => if l.swapped then classify b a else classify a b
    | _, _ => none
  (w, { l with lanes := lanes })

/-- Words as the transmit lanes carry them, each lane with its own running disparity and the polarity of TXPOL (R34, R52), and the
disparities after them. -/
def lineCode (cfg : Word) : Bool × Bool → List RingWord → List (Code × Code) × (Bool × Bool)
  | rd, [] => ([], rd)
  | rd, w :: t =>
    let (a, b) := w.chars
    let g0 := encodeChar rd.1 a.1 a.2
    let g1 := encodeChar rd.2 b.1 b.2
    let (gs, out) := lineCode cfg (afterCode rd.1 g0, afterCode rd.2 g1) t
    ((polar (bitOf cfg 14) g0, polar (bitOf cfg 15) g1) :: gs, out)

/-! The training pattern (R50). -/

/-- One step of the PRBS-7 generator x^7 + x^6 + 1: its state, and the bit it gives. -/
def prbsStep (x : BitVec 7) : BitVec 7 × Bool :=
  let b := x.getLsbD 6 != x.getLsbD 5
  (x.setWidth 6 ++ BitVec.ofBool b, b)

/-- Eight bits of it as a byte, first bit highest. -/
def prbsByte (x : BitVec 7) : BitVec 7 × Byte :=
  (List.range 8).foldl (fun (y : BitVec 7 × Byte) _ =>
    let (z, b) := prbsStep y.1
    (z, y.2.setWidth 7 ++ BitVec.ofBool b)) (x, 0)

/-- The next n bytes. -/
def prbsBytes : Nat → BitVec 7 → List Byte
  | 0, _ => []
  | n + 1, x =>
    let (y, b) := prbsByte x
    b :: prbsBytes n y

/-- The generator a number of bytes on: it repeats after 127 bits. -/
def prbsAfter (bytes : Nat) (x : BitVec 7) : BitVec 7 :=
  (List.range (8 * bytes % 127)).foldl (fun y _ => (prbsStep y).1) x

/-- The state a lane's receiver shows: 0 not locked, 1 locked, 2 trained (R50). -/
def Lane.shows (l : Lane) : Nat := if l.trained then 2 else if l.locked then 1 else 0

/-- The TSID byte a port sends on a lane (R50). -/
def tsidByte (p : Port) (lane : Fin 2) (l : Lane) : Byte :=
  BitVec.ofNat 8 (p.ix.val * 128 + lane.val * 64 + l.shows * 16)

/-- Block n of the training pattern on a lane (R50): K28.5, the TSID character and 14 characters of the generator, which runs on
across blocks. Its start is not given (notes/assumptions/118.md). -/
def trainingBlock (p : Port) (lane : Fin 2) (l : Lane) (n : Nat) : List (Bool × Byte) :=
  (true, 0xBC) :: (false, tsidByte p lane l) :: (prbsBytes 14 (prbsAfter (14 * n) 0x7F)).map (false, ·)

end Sys2Proof
end

