-- ==== Sys2Proof/Config.lean ====
section
/-! DEFINITION. What one part has of its own (factory data, the ordering code) and the free values: constants with no
body, of which nothing can be proved but what the manual states. -/

namespace Sys2Proof

/-- Word i of the 64-bit unique ID, word 0 most significant (R178). Written at production test. -/
opaque Config.uniqueId : Nat → Word

/-- The ordering code (R2): true for an SL192-FS. -/
opaque Config.orderFS : Bool

/-- Words 0x008-0x02D and the CRC word 0x3FF of the factory block (R571): ADC coefficients and speed-margin budgets of
this part. -/
opaque Config.factoryWord : Nat → Word

/-- Word i of key slot 0, the vendor's public key (R373). -/
opaque Config.vendorKey : Nat → Word

/-- The start value of equalizer coefficient k, of the continuous-time equalizer where k is 0, in steps: for optical medium where
`optical` (R51, R61). The manual gives no numbers. -/
opaque Config.eqStart : (optical : Bool) → (k : Nat) → Int

/-- A value the manual leaves open, a fresh one for each count of State.freeCtr (notes/assumptions/4.md). -/
opaque Config.freeValue : Nat → Word

end Sys2Proof
end

