-- ==== Sys2Proof/Machine/Regs.lean ====
section
/-! DEFINITION. The register blocks: where each register stands (its canonical local byte address, R494 and R495),
how its fields are written (R7, R10) and what it restores (R11 and the Restore columns of R32, R61, R105, R107, R140,
R141, R173, R200, R234, R235, R274, R339, R340, R364, R393, R415, R437, R438, R467, R468, R492, R522, R523, R532).
A register is named as the manual names it; an array of registers, a block that stands several times and a pair of
port registers take their number as an argument. -/

namespace Sys2Proof

/-- How the copy of a register that an access reaches is chosen (the `_SEL` registers and R493). -/
inductive SelKind where
  /-- one register -/
  | one
  /-- held separately for each initiator path (R493) -/
  | path
  /-- each hub core's collector holds its own (R437) -/
  | core
  /-- by the field of a `_SEL` register: the switch port of SWQ_SEL -/
  | port
  /-- the switch queue of SWQ_SEL, 4 x port + class -/
  | queue
  | endpoint | forwarding | source | sourceCore | breakpoint | buffer | engine | channel | adc | unit | filter | fuse
  deriving DecidableEq, Repr

/-- One row of a block's register table: `count` registers, `stride` apart, from page offset `off`. -/
structure RegRow where
  off : Nat
  count : Nat
  stride : Nat
  /-- bits a write sets (RW and WG fields) -/
  rw : Nat
  /-- the RW bits change only through a guarded sequence (WG, R499) -/
  guarded : Bool
  /-- bits a write of 1 clears (W1C) -/
  w1c : Nat
  /-- bits a read clears (RC) -/
  rc : Nat
  /-- restore value P: journalled (R11) -/
  persistent : Bool
  /-- value after reset with an empty journal and no stagebook -/
  restore : Nat
  sel : SelKind
  deriving DecidableEq, Repr

abbrev HUB_ID : Nat := 0x0
abbrev HUB_PART : Nat := 0x2
abbrev HUB_CODE : Nat := 0x4
abbrev HUB_PATH : Nat := 0x6
abbrev HUB_RESET : Nat := 0x8
abbrev HUB_RST_CAUSE : Nat := 0xA
abbrev HUB_WARMC : Nat := 0xC
abbrev HUB_PAR_ERR : Nat := 0xE
abbrev HUB_PAR_LAST : Nat := 0x10
abbrev HUB_GW_STAT : Nat := 0x12
abbrev HUB_GW_LAST : Nat := 0x14
abbrev HUB_GW_FAIL : Nat := 0x16
abbrev LNK_CTRL : Nat := 0x400
abbrev LNK_STATE : Nat := 0x402
abbrev LNK_EVT : Nat := 0x404
abbrev LNK_BYP : Nat := 0x406
abbrev LNK_DEG_THR : Nat := 0x408
abbrev LNK_CFG (p : Port) : Nat := 0x420 + 0x20 * p.ix.val
abbrev LNK_STAT (p : Port) : Nat := 0x422 + 0x20 * p.ix.val
abbrev LNK_EYE (p : Port) : Nat := 0x424 + 0x20 * p.ix.val
abbrev LNK_EB (p : Port) : Nat := 0x426 + 0x20 * p.ix.val
abbrev LNK_SKEW (p : Port) : Nat := 0x428 + 0x20 * p.ix.val
abbrev LNK_WERR (p : Port) : Nat := 0x42A + 0x20 * p.ix.val
abbrev LNK_ERRIN (p : Port) : Nat := 0x42C + 0x20 * p.ix.val
abbrev LNK_SLIP (p : Port) : Nat := 0x42E + 0x20 * p.ix.val
abbrev LNK_DOWNS (p : Port) : Nat := 0x430 + 0x20 * p.ix.val
abbrev LNK_TRF (p : Port) : Nat := 0x432 + 0x20 * p.ix.val
abbrev LNK_CMD (p : Port) : Nat := 0x434 + 0x20 * p.ix.val
abbrev LNK_HOLD (p : Port) : Nat := 0x436 + 0x20 * p.ix.val
abbrev CUE_ROLE : Nat := 0x800
abbrev CUE_CYC_H : Nat := 0x802
abbrev CUE_CYC_L : Nat := 0x804
abbrev CUE_LENQ_H : Nat := 0x806
abbrev CUE_LENQ_L : Nat := 0x808
abbrev CUE_EVPOS : Nat := 0x80A
abbrev CUE_PHASE : Nat := 0x80C
abbrev CUE_CLAIM : Nat := 0x80E
abbrev CUE_PEER : Nat := 0x810
abbrev CUE_RELAY : Nat := 0x812
abbrev CUE_EVT : Nat := 0x814
abbrev CUE_IRQ_EN : Nat := 0x816
abbrev CUE_CM_ERR : Nat := 0x818
abbrev CUE_CM_MISS : Nat := 0x81A
abbrev CUE_CRCERR : Nat := 0x81C
abbrev CUE_SINGLE : Nat := 0x81E
abbrev CUE_TAKEA : Nat := 0x820
abbrev CUE_TAKEB : Nat := 0x822
abbrev CUE_LATE : Nat := 0x824
abbrev CUE_SCN_CTRL : Nat := 0x826
abbrev CUE_SCN_CYC_H : Nat := 0x828
abbrev CUE_SCN_CYC_L : Nat := 0x82A
abbrev CUE_SCN_ID : Nat := 0x82C
abbrev CUE_SCN_STAT : Nat := 0x82E
abbrev CUE_SHEET : Nat := 0x830
abbrev CUE_SHEET_ALT : Nat := 0x832
abbrev CUE_T_SMP_H : Nat := 0x834
abbrev CUE_T_SMP_L : Nat := 0x836
abbrev CUE_T_LAT_H : Nat := 0x838
abbrev CUE_T_LAT_L : Nat := 0x83A
abbrev CUE_T_FLP_H : Nat := 0x83C
abbrev CUE_T_FLP_L : Nat := 0x83E
abbrev CUE_WING : Nat := 0x840
abbrev CUE_WING_COLL : Nat := 0x842
abbrev CUE_ENT_SEL : Nat := 0x844
abbrev CUE_ENT_CFG : Nat := 0x846
abbrev CUE_ENT_POSA : Nat := 0x848
abbrev CUE_ENT_POSB : Nat := 0x84A
abbrev CUE_ENT_XL : Nat := 0x84C
abbrev CUE_ENT_ID : Nat := 0x84E
abbrev GRD_STAT : Nat := 0xC00
abbrev GRD_TCRC_H : Nat := 0xC02
abbrev GRD_TCRC_L : Nat := 0xC04
abbrev GRD_BLOCK : Nat := 0xC06
abbrev GRD_BLOCK_X : Nat := 0xC08
abbrev GRD_LAST_POS : Nat := 0xC0A
abbrev GRD_LAST_INFO : Nat := 0xC0C
abbrev GRD_RELOADS : Nat := 0xC0E
abbrev GRD_ENT_SEL : Nat := 0xC10
abbrev GRD_ENT_POS : Nat := 0xC12
abbrev GRD_ENT_CFG : Nat := 0xC14
abbrev TIM_STAT : Nat := 0x1000
abbrev TIM_EVT : Nat := 0x1002
abbrev TIM_IRQ_EN : Nat := 0x1004
abbrev TIM_CFG : Nat := 0x1006
abbrev TIM_SEC_H : Nat := 0x1008
abbrev TIM_SEC_M : Nat := 0x100A
abbrev TIM_SEC_L : Nat := 0x100C
abbrev TIM_NS_H : Nat := 0x100E
abbrev TIM_NS_L : Nat := 0x1010
abbrev TIM_FRAC : Nat := 0x1012
abbrev TIM_OFS_SEC_H : Nat := 0x1014
abbrev TIM_OFS_SEC_M : Nat := 0x1016
abbrev TIM_OFS_SEC_L : Nat := 0x1018
abbrev TIM_OFS_NS_H : Nat := 0x101A
abbrev TIM_OFS_NS_L : Nat := 0x101C
abbrev TIM_OFS_RATE_H : Nat := 0x101E
abbrev TIM_OFS_RATE_L : Nat := 0x1020
abbrev TIM_MA_H : Nat := 0x1022
abbrev TIM_MA_L : Nat := 0x1024
abbrev TIM_MB_H : Nat := 0x1026
abbrev TIM_MB_L : Nat := 0x1028
abbrev TIM_ERR_A : Nat := 0x102A
abbrev TIM_ERR_B : Nat := 0x102C
abbrev TIM_HOPS_A : Nat := 0x102E
abbrev TIM_HOPS_B : Nat := 0x1030
abbrev TIM_ASYM_W : Nat := 0x1032
abbrev TIM_ASYM_E : Nat := 0x1034
abbrev TIM_CBL_W_H : Nat := 0x1036
abbrev TIM_CBL_W_L : Nat := 0x1038
abbrev TIM_CBL_E_H : Nat := 0x103A
abbrev TIM_CBL_E_L : Nat := 0x103C
abbrev TIM_CLOSE_A : Nat := 0x103E
abbrev TIM_CLOSE_B : Nat := 0x1040
abbrev TIM_LOOP_A_H : Nat := 0x1042
abbrev TIM_LOOP_A_L : Nat := 0x1044
abbrev TIM_LOOP_B_H : Nat := 0x1046
abbrev TIM_LOOP_B_L : Nat := 0x1048
abbrev TIM_HOLD_LIM : Nat := 0x104A
abbrev TIM_LOCK_WIN : Nat := 0x104C
abbrev TIM_XCHK : Nat := 0x104E
abbrev TIM_PTP_WAIT : Nat := 0x1050
abbrev TIM_HOLD_CNT : Nat := 0x1052
abbrev TIM_STEPS : Nat := 0x1054
abbrev TIM_DOMSW : Nat := 0x1056
abbrev TIM_ECHO_MISS : Nat := 0x1058
abbrev SWQ_CTRL : Nat := 0x1400
abbrev SWQ_EVT : Nat := 0x1402
abbrev SWQ_IRQ_EN : Nat := 0x1404
abbrev SWQ_FREE : Nat := 0x1406
abbrev SWQ_AGE_LIM : Nat := 0x1408
abbrev SWQ_ALLOW_A : Nat := 0x140A
abbrev SWQ_ALLOW_B : Nat := 0x140C
abbrev SWQ_URG_RES : Nat := 0x140E
abbrev SWQ_SMP_CFG : Nat := 0x1410
abbrev SWQ_SMP_N : Nat := 0x1412
abbrev SWQ_SEL : Nat := 0x1414
abbrev SWQ_QUOTA : Nat := 0x1416
abbrev SWQ_USE : Nat := 0x1418
abbrev SWQ_QLIM : Nat := 0x141A
abbrev SWQ_QDEP : Nat := 0x141C
abbrev SWQ_BP_H : Nat := 0x141E
abbrev SWQ_BP_L : Nat := 0x1420
abbrev SWQ_QCUT_H : Nat := 0x1422
abbrev SWQ_QCUT_L : Nat := 0x1424
abbrev SWQ_IBUF : Nat := 0x1426
abbrev SWQ_TSTORE_A : Nat := 0x1428
abbrev SWQ_TSTORE_B : Nat := 0x142A
abbrev SWQ_ECC_C : Nat := 0x142C
abbrev SWQ_ECC_U : Nat := 0x142E
abbrev SWQ_AGED : Nat := 0x1430
abbrev SWQ_PDOWN : Nat := 0x1432
abbrev SWQ_REFUSED : Nat := 0x1434
abbrev SWQ_REFSET : Nat := 0x1436
abbrev SWQ_NODEST : Nat := 0x1438
abbrev SWQ_EV_CRC : Nat := 0x143A
abbrev SWQ_MISFRAME : Nat := 0x143C
abbrev SWQ_BADHDR : Nat := 0x143E
abbrev SWQ_PASS_STRIP : Nat := 0x1440
abbrev SWQ_REPIN : Nat := 0x1442
abbrev SWQ_SMP_MISS : Nat := 0x1444
abbrev FAB_STAT : Nat := 0x1800
abbrev FAB_EVT : Nat := 0x1802
abbrev FAB_IRQ_EN : Nat := 0x1804
abbrev FAB_NODE : Nat := 0x1806
abbrev FAB_RING : Nat := 0x1808
abbrev FAB_POS : Nat := 0x180A
abbrev FAB_LOOP : Nat := 0x180C
abbrev FAB_RC_HA : Nat := 0x180E
abbrev FAB_RC_HB : Nat := 0x1810
abbrev FAB_RC_CTRL : Nat := 0x1812
abbrev FAB_RC_PER : Nat := 0x1814
abbrev FAB_RC_STAT : Nat := 0x1816
abbrev FAB_RC_NUM : Nat := 0x1818
abbrev FAB_RC_SEEN : Nat := 0x181A
abbrev FAB_UNCAST : Nat := 0x181C
abbrev FAB_UID_0 : Nat := 0x181E
abbrev FAB_UID_1 : Nat := 0x1820
abbrev FAB_UID_2 : Nat := 0x1822
abbrev FAB_UID_3 : Nat := 0x1824
abbrev FAB_DEST_SEL : Nat := 0x1826
abbrev FAB_DEST_HA : Nat := 0x1828
abbrev FAB_DEST_HB : Nat := 0x182A
abbrev FAB_RT_SEL : Nat := 0x182C
abbrev FAB_RT_PRI : Nat := 0x182E
abbrev FAB_RT_ALT : Nat := 0x1830
abbrev FAB_RT_STAT : Nat := 0x1832
abbrev FAB_JOINT : Nat := 0x1834
abbrev FAB_ADV : Nat := 0x1836
abbrev FAB_GRP_SEL : Nat := 0x1838
abbrev FAB_GRP_MEM : Nat := 0x183A
abbrev FAB_FETCH_CTRL : Nat := 0x183C
abbrev FAB_FETCH_STAT : Nat := 0x183E
abbrev FAB_FETCH_TMO : Nat := 0x1840
abbrev FAB_DUP : Nat := 0x1842
abbrev FAB_NUMCHG : Nat := 0x1844
abbrev FAB_NOROUTE : Nat := 0x1846
abbrev BRG_CTRL : Nat := 0x1C00
abbrev BRG_STAT : Nat := 0x1C02
abbrev BRG_EVT : Nat := 0x1C04
abbrev BRG_IRQ_EN : Nat := 0x1C06
abbrev BRG_DUP_WIN : Nat := 0x1C08
abbrev BRG_STG_GUARD : Nat := 0x1C0A
abbrev BRG_EP_SEL : Nat := 0x1C0C
abbrev BRG_EP_CFG : Nat := 0x1C0E
abbrev BRG_EP_STAT : Nat := 0x1C10
abbrev BRG_EP_SEQ : Nat := 0x1C12
abbrev BRG_EP_TMOC : Nat := 0x1C14
abbrev BRG_SEM_SEL : Nat := 0x1C16
abbrev BRG_SEM_OWN_N : Nat := 0x1C18
abbrev BRG_SEM_OWN_E : Nat := 0x1C1A
abbrev BRG_SEM_CTRL : Nat := 0x1C1C
abbrev BRG_FERR_LVL : Nat := 0x1C1E
abbrev BRG_FERR_W0 : Nat := 0x1C20
abbrev BRG_FERR_W1 : Nat := 0x1C22
abbrev BRG_FERR_W2 : Nat := 0x1C24
abbrev BRG_FERR_W3 : Nat := 0x1C26
abbrev BRG_FERR_W4 : Nat := 0x1C28
abbrev BRG_FERR_W5 : Nat := 0x1C2A
abbrev BRG_LATE_RSP : Nat := 0x1C2C
abbrev BRG_DUPS : Nat := 0x1C2E
abbrev BRG_DUP_EVICT : Nat := 0x1C30
abbrev BRG_LOCK_TMO : Nat := 0x1C32
abbrev BRG_SEM_TMO : Nat := 0x1C34
abbrev BRG_STG_ORPHAN : Nat := 0x1C36
abbrev BRG_PRET : Nat := 0x1C38
abbrev BRG_FERR_LOST : Nat := 0x1C3A
abbrev LU_CTRL : Nat := 0x2000
abbrev LU_STAT : Nat := 0x2002
abbrev LU_EVT : Nat := 0x2004
abbrev LU_IRQ_EN : Nat := 0x2006
abbrev LU_CMD : Nat := 0x2008
abbrev LU_VIEW : Nat := 0x200A
abbrev LU_MGN_THR : Nat := 0x200C
abbrev LU_MGN_C0 : Nat := 0x200E
abbrev LU_MGN_C1 : Nat := 0x2010
abbrev LU_MGN_CLR : Nat := 0x2012
abbrev LU_HW : Nat := 0x2014
abbrev LU_HW_LAST : Nat := 0x2016
abbrev LU_NOSPARE : Nat := 0x2018
abbrev LU_HIST_LVL : Nat := 0x201A
abbrev LU_HIST_W0 : Nat := 0x201C
abbrev LU_HIST_W1 : Nat := 0x201E
abbrev LU_HIST_W2 : Nat := 0x2020
abbrev LU_HIST_W3 : Nat := 0x2022
abbrev LU_REJ_CNT : Nat := 0x2024
abbrev LU_SWO : Nat := 0x2026
abbrev LU_SWAPS : Nat := 0x2028
abbrev LU_SWAP_COLL : Nat := 0x202A
abbrev LU_MISM_R : Nat := 0x202C
abbrev LU_MISM_F : Nat := 0x202E
abbrev LU_MISM_E : Nat := 0x2030
abbrev LU_EQ : Nat := 0x2032
abbrev LU_RSYNC_FAIL : Nat := 0x2034
abbrev LU_TALLY : Nat := 0x2036
abbrev LU_RSYNC_TMO : Nat := 0x2038
abbrev FLT_CTRL : Nat := 0x2400
abbrev FLT_STAT : Nat := 0x2402
abbrev FLT_EVT : Nat := 0x2404
abbrev FLT_IRQ_EN : Nat := 0x2406
abbrev FLT_SRC_SEL : Nat := 0x2408
abbrev FLT_SRC_CFG : Nat := 0x240A
abbrev FLT_SRC_ESC : Nat := 0x240C
abbrev FLT_SRC_WIN : Nat := 0x240E
abbrev FLT_SRC_CNT : Nat := 0x2410
abbrev FLT_SRC_STAT : Nat := 0x2412
abbrev FLT_QUIET_M : Nat := 0x2414
abbrev FLT_QUIET_G : Nat := 0x2416
abbrev FLT_REC_G : Nat := 0x2418
abbrev FLT_LOG_LVL : Nat := 0x241A
abbrev FLT_LOG_W0 : Nat := 0x241C
abbrev FLT_LOG_W1 : Nat := 0x241E
abbrev FLT_LOG_W2 : Nat := 0x2420
abbrev FLT_LOG_W3 : Nat := 0x2422
abbrev FLT_LOG_W4 : Nat := 0x2424
abbrev FLT_LOG_W5 : Nat := 0x2426
abbrev FLT_NOTE : Nat := 0x2428
abbrev FLT_MINOR : Nat := 0x242A
abbrev FLT_MAJOR : Nat := 0x242C
abbrev FLT_GRAVE : Nat := 0x242E
abbrev FLT_MERGED : Nat := 0x2430
abbrev FLT_INJ : Nat := 0x2432
abbrev FLT_INJ_SEL : Nat := 0x2434
abbrev FLT_INJ_CNT : Nat := 0x2436
abbrev FLT_SELF : Nat := 0x2438
abbrev RST_CTRL : Nat := 0x2800
abbrev RST_STAT : Nat := 0x2802
abbrev RST_EVT : Nat := 0x2804
abbrev RST_IRQ_EN : Nat := 0x2806
abbrev RST_CMD : Nat := 0x2808
abbrev RST_CMD_STAT : Nat := 0x280A
abbrev RST_SLOT_A : Nat := 0x280C
abbrev RST_SLOT_B : Nat := 0x280E
abbrev RST_GEN_A_H : Nat := 0x2810
abbrev RST_GEN_A_L : Nat := 0x2812
abbrev RST_GEN_B_H : Nat := 0x2814
abbrev RST_GEN_B_L : Nat := 0x2816
abbrev RST_SHEET_A : Nat := 0x2818
abbrev RST_SHEET_B : Nat := 0x281A
abbrev RST_WP_ADDR_H : Nat := 0x281C
abbrev RST_WP_ADDR_L : Nat := 0x281E
abbrev RST_JRN_STAT : Nat := 0x2820
abbrev RST_JRN_SEQ : Nat := 0x2822
abbrev RST_JRN_LIVE : Nat := 0x2824
abbrev RST_WEAR : Nat := 0x2826
abbrev RST_JRN_CNT : Nat := 0x2828
abbrev RST_SCRUB_ERR : Nat := 0x282A
abbrev RST_ECC_C : Nat := 0x282C
abbrev RST_KEY_SEL : Nat := 0x282E
abbrev RST_KEY_STAT : Nat := 0x2830
abbrev RST_WP_DATA (i : Nat) : Nat := 0x2840 + 2 * i
abbrev HST_CTRL : Nat := 0x2C00
abbrev HST_STAT : Nat := 0x2C02
abbrev HST_EVT : Nat := 0x2C04
abbrev HST_IRQ_EN : Nat := 0x2C06
abbrev HST_MAC_H : Nat := 0x2C08
abbrev HST_MAC_M : Nat := 0x2C0A
abbrev HST_MAC_L : Nat := 0x2C0C
abbrev HST_IP_H : Nat := 0x2C0E
abbrev HST_IP_L : Nat := 0x2C10
abbrev HST_UDP : Nat := 0x2C12
abbrev HST_ETYPE : Nat := 0x2C14
abbrev HST_LIB_IP_H : Nat := 0x2C16
abbrev HST_LIB_IP_L : Nat := 0x2C18
abbrev HST_LIB_UDP : Nat := 0x2C1A
abbrev HST_PTP : Nat := 0x2C1C
abbrev HST_PTP_STAT : Nat := 0x2C1E
abbrev HST_PTP_OFS : Nat := 0x2C20
abbrev HST_QS_CFG : Nat := 0x2C22
abbrev HST_QS_STAT : Nat := 0x2C24
abbrev HST_INTM : Nat := 0x2C26
abbrev HST_INTM_STAT : Nat := 0x2C28
abbrev HST_WAKE_EN : Nat := 0x2C2A
abbrev HST_WAKE_CLU : Nat := 0x2C2C
abbrev HST_WAKE_SIG : Nat := 0x2C2E
abbrev HST_WAKE_LVL : Nat := 0x2C30
abbrev HST_WAKE_W0 : Nat := 0x2C32
abbrev HST_WAKE_W1 : Nat := 0x2C34
abbrev HST_WAKE_W2 : Nat := 0x2C36
abbrev HST_10_BAD : Nat := 0x2C38
abbrev HST_1_BAD : Nat := 0x2C3A
abbrev HST_10_DROP : Nat := 0x2C3C
abbrev HST_1_DROP : Nat := 0x2C3E
abbrev HST_NAK : Nat := 0x2C40
abbrev HST_DUPENV : Nat := 0x2C42
abbrev HST_QS_ERR : Nat := 0x2C44
abbrev HST_LASTERR : Nat := 0x2C46
abbrev HST_WAKE_LOST : Nat := 0x2C48
abbrev DBG_CTRL : Nat := 0x3000
abbrev DBG_STAT : Nat := 0x3002
abbrev DBG_EVT : Nat := 0x3004
abbrev DBG_IRQ_EN : Nat := 0x3006
abbrev DBG_ENG_SEL : Nat := 0x3008
abbrev DBG_ENG_CMD : Nat := 0x300A
abbrev DBG_ENG_STAT : Nat := 0x300C
abbrev DBG_ENG_REGSEL : Nat := 0x300E
abbrev DBG_ENG_REG : Nat := 0x3010
abbrev DBG_BP_SEL : Nat := 0x3012
abbrev DBG_BP_ENG : Nat := 0x3014
abbrev DBG_BP_PC : Nat := 0x3016
abbrev DBG_TRC_SEL : Nat := 0x3020
abbrev DBG_TRC_MASK : Nat := 0x3022
abbrev DBG_TRC_LVL : Nat := 0x3024
abbrev DBG_TRC_W0 : Nat := 0x3026
abbrev DBG_TRC_W1 : Nat := 0x3028
abbrev DBG_TRC_W2 : Nat := 0x302A
abbrev DBG_TRC_W3 : Nat := 0x302C
abbrev DBG_TRC_LOST : Nat := 0x302E
abbrev DBG_TRC_CLR : Nat := 0x3030
abbrev SIG_CTRL : Nat := 0x3400
abbrev SIG_PEND_H : Nat := 0x3402
abbrev SIG_PEND_L : Nat := 0x3404
abbrev SIG_PEND_C : Nat := 0x3406
abbrev SIG_EN_H : Nat := 0x3408
abbrev SIG_EN_L : Nat := 0x340A
abbrev SIG_EN_C : Nat := 0x340C
abbrev SIG_RX_LVL : Nat := 0x340E
abbrev SIG_RX_W0 : Nat := 0x3410
abbrev SIG_RX_W1 : Nat := 0x3412
abbrev SIG_RX_W2 : Nat := 0x3414
abbrev SIG_RX_W3 : Nat := 0x3416
abbrev SIG_RX_W4 : Nat := 0x3418
abbrev SIG_FWD_SEL : Nat := 0x341A
abbrev SIG_FWD_SRC : Nat := 0x341C
abbrev SIG_FWD_DST : Nat := 0x341E
abbrev SIG_FWD_NUM : Nat := 0x3420
abbrev CMP_R_ID : Nat := 0x3800
abbrev CMP_R_STATUS : Nat := 0x3802
abbrev CMP_R_NODE : Nat := 0x3804
abbrev CMP_R_CYCLE_L : Nat := 0x3806
abbrev CMP_R_CYCLE_H : Nat := 0x3808
abbrev CMP_R_COMMIT : Nat := 0x380A
abbrev CMP_R_CYCNT : Nat := 0x380C
abbrev CMP_R_ERRCNT : Nat := 0x380E
abbrev CMP_R_IN (i : Nat) : Nat := 0x3810 + 2 * i
abbrev CMP_R_OUT (i : Nat) : Nat := 0x3820 + 2 * i
abbrev CMP_R_ACT (i : Nat) : Nat := 0x3830 + 2 * i
abbrev CMP_CTRL : Nat := 0x3880
abbrev CMP_STAT : Nat := 0x3882
abbrev CMP_EVT : Nat := 0x3884
abbrev CMP_IRQ_EN : Nat := 0x3886
abbrev CMP_COMMITS : Nat := 0x3888
abbrev CMP_INPUB : Nat := 0x388A
abbrev FLD_ID : Nat := 0x10000
abbrev FLD_BAR_STAT : Nat := 0x10002
abbrev FLD_BAR_LHF : Nat := 0x10004
abbrev FLD_BAR_LFH : Nat := 0x10006
abbrev FLD_BAR_CRC : Nat := 0x10008
abbrev FLD_BAR_RETRY : Nat := 0x1000A
abbrev FLD_BAR_TMO : Nat := 0x1000C
abbrev FLD_MGN_THR : Nat := 0x1000E
abbrev FLD_MGN_STAT : Nat := 0x10010
abbrev FLD_MGN_C (i : Nat) : Nat := 0x10012 + 2 * i
abbrev FLD_MGN_CLR : Nat := 0x1002A
abbrev PIN_CFG (n : Nat) (i : Nat) : Nat := 0x10400 + 0x400 * n + 4 * i
abbrev PIN_FLT (n : Nat) (i : Nat) : Nat := 0x10402 + 0x400 * n + 4 * i
abbrev PIN_LVL (n : Nat) (i : Nat) : Nat := 0x104C0 + 0x400 * n + 2 * i
abbrev PIN_GAPS (n : Nat) (i : Nat) : Nat := 0x104C6 + 0x400 * n + 2 * i
abbrev PIN_TGL (n : Nat) (i : Nat) : Nat := 0x104CC + 0x400 * n + 2 * i
abbrev PIN_EVT (n : Nat) : Nat := 0x104D2 + 0x400 * n
abbrev PIN_IRQ_EN (n : Nat) : Nat := 0x104D4 + 0x400 * n
abbrev PIN_TGLC (n : Nat) : Nat := 0x104D6 + 0x400 * n
abbrev CLU_CTRL (n : Nat) : Nat := 0x11000 + 0x400 * n
abbrev CLU_STAT (n : Nat) : Nat := 0x11002 + 0x400 * n
abbrev CLU_EVT (n : Nat) : Nat := 0x11004 + 0x400 * n
abbrev CLU_IRQ_EN (n : Nat) : Nat := 0x11006 + 0x400 * n
abbrev CLU_CMD (n : Nat) : Nat := 0x11008 + 0x400 * n
abbrev CLU_ESIG (n : Nat) : Nat := 0x1100A + 0x400 * n
abbrev CLU_MAP_SEL (n : Nat) : Nat := 0x1100C + 0x400 * n
abbrev CLU_MAP (n : Nat) : Nat := 0x1100E + 0x400 * n
abbrev CLU_ENG_CFG (n : Nat) : Nat := 0x11010 + 0x400 * n
abbrev CLU_ENG_WDOG (n : Nat) : Nat := 0x11012 + 0x400 * n
abbrev CLU_ENG_DL (n : Nat) : Nat := 0x11014 + 0x400 * n
abbrev CLU_PHY_RET (n : Nat) : Nat := 0x11016 + 0x400 * n
abbrev CLU_PAC_OWN (n : Nat) (i : Nat) : Nat := 0x11018 + 0x400 * n + 2 * i
abbrev CLU_CDT_SEL (n : Nat) : Nat := 0x11020 + 0x400 * n
abbrev CLU_CDT_CFG (n : Nat) : Nat := 0x11022 + 0x400 * n
abbrev CLU_CDT_LVL (n : Nat) : Nat := 0x11024 + 0x400 * n
abbrev CLU_CDT_TMO (n : Nat) : Nat := 0x11026 + 0x400 * n
abbrev CLU_RGN_SEL (n : Nat) : Nat := 0x11028 + 0x400 * n
abbrev CLU_RGN_CFG (n : Nat) : Nat := 0x1102A + 0x400 * n
abbrev CLU_RGN_WIN (n : Nat) : Nat := 0x1102C + 0x400 * n
abbrev CLU_RGN_LEN (n : Nat) : Nat := 0x1102E + 0x400 * n
abbrev CLU_RGN_HUB (n : Nat) : Nat := 0x11030 + 0x400 * n
abbrev CLU_PIMG (n : Nat) : Nat := 0x11032 + 0x400 * n
abbrev CLU_IMG_DLY (n : Nat) : Nat := 0x11034 + 0x400 * n
abbrev CLU_ROT_PER (n : Nat) : Nat := 0x11036 + 0x400 * n
abbrev CLU_MIG_WAIT (n : Nat) : Nat := 0x11038 + 0x400 * n
abbrev CLU_LAST_MIG (n : Nat) : Nat := 0x1103A + 0x400 * n
abbrev CLU_MIGS (n : Nat) : Nat := 0x1103C + 0x400 * n
abbrev CLU_FORCED (n : Nat) : Nat := 0x1103E + 0x400 * n
abbrev CLU_WDOGC (n : Nat) : Nat := 0x11040 + 0x400 * n
abbrev CLU_DLMISS (n : Nat) : Nat := 0x11042 + 0x400 * n
abbrev CLU_WRITERC (n : Nat) : Nat := 0x11044 + 0x400 * n
abbrev CLU_CDT_TMOC (n : Nat) : Nat := 0x11046 + 0x400 * n
abbrev CLU_CDT_DROP (n : Nat) : Nat := 0x11048 + 0x400 * n
abbrev CLU_ECC_C (n : Nat) : Nat := 0x1104A + 0x400 * n
abbrev CLU_ECC_U (n : Nat) : Nat := 0x1104C + 0x400 * n
abbrev CLU_IMGLATE (n : Nat) : Nat := 0x1104E + 0x400 * n
abbrev CLU_XB_SEL (n : Nat) : Nat := 0x11050 + 0x400 * n
abbrev CLU_XB_CFG (n : Nat) : Nat := 0x11052 + 0x400 * n
abbrev ADC_EVT : Nat := 0x14000
abbrev ADC_IRQ_EN : Nat := 0x14002
abbrev ADC_CAL : Nat := 0x14004
abbrev ADC_STARVED : Nat := 0x14006
abbrev ADC_GRID : Nat := 0x14008
abbrev ADC_SEL : Nat := 0x1400A
abbrev ADC_SCHED_H : Nat := 0x1400C
abbrev ADC_SCHED_L : Nat := 0x1400E
abbrev ADC_CH_CFG : Nat := 0x14010
abbrev ADC_LIM_LO : Nat := 0x14012
abbrev ADC_LIM_HI : Nat := 0x14014
abbrev ADC_STUCK : Nat := 0x14016
abbrev ADC_VAL : Nat := 0x14018
abbrev ADC_STAT : Nat := 0x1401A
abbrev ADC_LIMC : Nat := 0x1401C
abbrev ADC_STUCKC : Nat := 0x1401E
abbrev ADC_OVRC : Nat := 0x14020
abbrev ADC_CALR : Nat := 0x14022
abbrev PLS_EVT : Nat := 0x14400
abbrev PLS_IRQ_EN : Nat := 0x14402
abbrev PLS_PU_SEL : Nat := 0x14404
abbrev PLS_PU_CTRL : Nat := 0x14406
abbrev PLS_PU_STAT : Nat := 0x14408
abbrev PLS_PU_T_SEC_H : Nat := 0x1440A
abbrev PLS_PU_T_SEC_M : Nat := 0x1440C
abbrev PLS_PU_T_SEC_L : Nat := 0x1440E
abbrev PLS_PU_T_NS_H : Nat := 0x14410
abbrev PLS_PU_T_NS_L : Nat := 0x14412
abbrev PLS_PU_WID_H : Nat := 0x14414
abbrev PLS_PU_WID_L : Nat := 0x14416
abbrev PLS_PU_PER_H : Nat := 0x14418
abbrev PLS_PU_PER_L : Nat := 0x1441A
abbrev PLS_PU_CNT : Nat := 0x1441C
abbrev PLS_PU_SKIP : Nat := 0x1441E
abbrev PLS_ES_LVL (i : Nat) : Nat := 0x14420 + 2 * i
abbrev PLS_ES_RISE (i : Nat) : Nat := 0x14440 + 2 * i
abbrev PLS_ES_FALL (i : Nat) : Nat := 0x14460 + 2 * i
abbrev PLS_ES_W0 (i : Nat) : Nat := 0x14480 + 8 * i
abbrev PLS_ES_W1 (i : Nat) : Nat := 0x14482 + 8 * i
abbrev PLS_ES_W2 (i : Nat) : Nat := 0x14484 + 8 * i
abbrev PLS_ES_W3 (i : Nat) : Nat := 0x14486 + 8 * i
abbrev CAN_CTRL (n : Nat) : Nat := 0x14800 + 0x400 * n
abbrev CAN_STAT (n : Nat) : Nat := 0x14802 + 0x400 * n
abbrev CAN_EVT (n : Nat) : Nat := 0x14804 + 0x400 * n
abbrev CAN_IRQ_EN (n : Nat) : Nat := 0x14806 + 0x400 * n
abbrev CAN_CMD (n : Nat) : Nat := 0x14808 + 0x400 * n
abbrev CAN_PINS (n : Nat) : Nat := 0x1480A + 0x400 * n
abbrev CAN_NBT_H (n : Nat) : Nat := 0x1480C + 0x400 * n
abbrev CAN_NBT_L (n : Nat) : Nat := 0x1480E + 0x400 * n
abbrev CAN_DBT_H (n : Nat) : Nat := 0x14810 + 0x400 * n
abbrev CAN_DBT_L (n : Nat) : Nat := 0x14812 + 0x400 * n
abbrev CAN_TDC (n : Nat) : Nat := 0x14814 + 0x400 * n
abbrev CAN_ERRC (n : Nat) : Nat := 0x14816 + 0x400 * n
abbrev CAN_FWD_DST (n : Nat) : Nat := 0x14818 + 0x400 * n
abbrev CAN_FWD_SUB (n : Nat) : Nat := 0x1481A + 0x400 * n
abbrev CAN_RX_LVL (n : Nat) : Nat := 0x1481C + 0x400 * n
abbrev CAN_TX_LVL (n : Nat) : Nat := 0x1481E + 0x400 * n
abbrev CAN_FLT_SEL (n : Nat) : Nat := 0x14820 + 0x400 * n
abbrev CAN_FLT_CFG (n : Nat) : Nat := 0x14822 + 0x400 * n
abbrev CAN_FLT_ID_H (n : Nat) : Nat := 0x14824 + 0x400 * n
abbrev CAN_FLT_ID_L (n : Nat) : Nat := 0x14826 + 0x400 * n
abbrev CAN_FLT_MSK_H (n : Nat) : Nat := 0x14828 + 0x400 * n
abbrev CAN_FLT_MSK_L (n : Nat) : Nat := 0x1482A + 0x400 * n
abbrev CAN_LEC (n : Nat) : Nat := 0x1482C + 0x400 * n
abbrev CAN_RXLOST (n : Nat) : Nat := 0x1482E + 0x400 * n
abbrev CAN_SPFULL (n : Nat) : Nat := 0x14830 + 0x400 * n
abbrev CAN_TXREF (n : Nat) : Nat := 0x14832 + 0x400 * n
abbrev CAN_BOFFC (n : Nat) : Nat := 0x14834 + 0x400 * n
abbrev CAN_ERRCNT (n : Nat) : Nat := 0x14836 + 0x400 * n
abbrev CAN_TXOK (n : Nat) : Nat := 0x14838 + 0x400 * n
abbrev CAN_RXOK (n : Nat) : Nat := 0x1483A + 0x400 * n
abbrev CAN_GAPABT (n : Nat) : Nat := 0x1483C + 0x400 * n
abbrev CAN_TDCV (n : Nat) : Nat := 0x1483E + 0x400 * n
abbrev CAN_RX_POP (n : Nat) : Nat := 0x14840 + 0x400 * n
abbrev CAN_SP_POP (n : Nat) : Nat := 0x14842 + 0x400 * n
abbrev CAN_RX_W (n : Nat) (i : Nat) : Nat := 0x14844 + 0x400 * n + 2 * i
abbrev CAN_RX_DATA (n : Nat) : Nat := 0x14852 + 0x400 * n
abbrev CAN_TX_W (n : Nat) (i : Nat) : Nat := 0x14854 + 0x400 * n + 2 * i
abbrev CAN_TX_DATA (n : Nat) : Nat := 0x1485C + 0x400 * n
abbrev CAN_TX_PUSH (n : Nat) : Nat := 0x1485E + 0x400 * n
abbrev PWR_CTRL : Nat := 0x15800
abbrev PWR_STAT : Nat := 0x15802
abbrev PWR_EVT : Nat := 0x15804
abbrev PWR_IRQ_EN : Nat := 0x15806
abbrev PWR_FDA_V : Nat := 0x15808
abbrev PWR_FDB_V : Nat := 0x1580A
abbrev PWR_HU_V : Nat := 0x1580C
abbrev PWR_VPWR_V : Nat := 0x1580E
abbrev PWR_FDA_I : Nat := 0x15810
abbrev PWR_FDB_I : Nat := 0x15812
abbrev PWR_VFAIL : Nat := 0x15814
abbrev PWR_VGOOD : Nat := 0x15816
abbrev PWR_VOVP : Nat := 0x15818
abbrev PWR_HU_READY : Nat := 0x1581A
abbrev PWR_SHUNT_A : Nat := 0x1581C
abbrev PWR_SHUNT_B : Nat := 0x1581E
abbrev PWR_SHARE_FS : Nat := 0x15820
abbrev PWR_SHARE : Nat := 0x15822
abbrev PWR_CF_CFG : Nat := 0x15824
abbrev PWR_CF_SIG : Nat := 0x15826
abbrev PWR_CF_STAT : Nat := 0x15828
abbrev PWR_CMD : Nat := 0x1582A
abbrev PWR_TEMP : Nat := 0x1582C
abbrev PWR_HANDOVERS : Nat := 0x1582E
abbrev PWR_RETURNS : Nat := 0x15830
abbrev PWR_CF_NOTP : Nat := 0x15832
abbrev PWR_EF_SEL : Nat := 0x15C00
abbrev PWR_EF_CFG : Nat := 0x15C02
abbrev PWR_EF_STAT : Nat := 0x15C04
abbrev PWR_EF_I : Nat := 0x15C06
abbrev PWR_EF_SHUNT : Nat := 0x15C08
abbrev PWR_EF_INST : Nat := 0x15C0A
abbrev PWR_EF_CUR (i : Nat) : Nat := 0x15C0C + 4 * i
abbrev PWR_EF_TIM (i : Nat) : Nat := 0x15C0E + 4 * i
abbrev PWR_EF_TLIM : Nat := 0x15C2C
abbrev PWR_EF_RAMP : Nat := 0x15C2E
abbrev PWR_EF_RETRY : Nat := 0x15C30
abbrev PWR_EF_RDS : Nat := 0x15C32
abbrev PWR_EF_TC : Nat := 0x15C34
abbrev PWR_EF_ZTH (i : Nat) : Nat := 0x15C36 + 2 * i
abbrev PWR_EF_TAU (i : Nat) : Nat := 0x15C3C + 2 * i
abbrev PWR_EF_TOFS : Nat := 0x15C42
abbrev PWR_EF_TMOD : Nat := 0x15C44
abbrev PWR_EF_TDIO : Nat := 0x15C46
abbrev PWR_EF_ACC : Nat := 0x15C48
abbrev PWR_EF_TRIPS : Nat := 0x15C4A
abbrev PWR_EF_ON : Nat := 0x15C60
abbrev PWR_EF_RESET : Nat := 0x15C62
abbrev PWR_EF_LOCK : Nat := 0x15C64
abbrev PWR_EF_LIVE : Nat := 0x15C66
abbrev PWR_EF_EVT : Nat := 0x15C68
abbrev PWR_EF_IRQ_EN : Nat := 0x15C6A
abbrev FI_CTRL : Nat := 0x16000
abbrev FI_SEL : Nat := 0x16002
abbrev FI_STAT : Nat := 0x16004
abbrev FI_CNT : Nat := 0x16006
abbrev FI_IRQ_EN : Nat := 0x16008

/-- Block HUB, R522, piece 1. -/
def rowsHUB0 : List RegRow :=
  [⟨0x00, 1, 2, 0x0000, false, 0x0000, 0x0000, false, 0x52B1, .one⟩,
   ⟨0x02, 1, 2, 0x0000, false, 0x0000, 0x0000, false, 0x5C19, .one⟩,
   ⟨0x04, 1, 2, 0x0000, false, 0x0000, 0x0000, false, 0x0000, .one⟩,
   ⟨0x06, 1, 2, 0x0000, false, 0x0000, 0x0000, false, 0x0000, .one⟩,
   ⟨0x08, 1, 2, 0x8000, true, 0x0000, 0x0000, false, 0x0000, .one⟩,
   ⟨0x0A, 1, 2, 0x0000, false, 0x0000, 0x0000, false, 0x0000, .one⟩,
   ⟨0x0C, 1, 2, 0x0000, false, 0x0000, 0xFFFF, false, 0x0000, .one⟩,
   ⟨0x0E, 1, 2, 0x0000, false, 0x0000, 0xFFFF, false, 0x0000, .one⟩,
   ⟨0x10, 1, 2, 0x0000, false, 0x0000, 0x0000, false, 0x0000, .one⟩,
   ⟨0x12, 1, 2, 0x0000, false, 0x0000, 0x0000, false, 0x0000, .one⟩,
   ⟨0x14, 1, 2, 0x0000, false, 0x0000, 0x0000, false, 0x0000, .one⟩,
   ⟨0x16, 1, 2, 0x0000, false, 0x0000, 0xFFFF, false, 0x0000, .one⟩]

/-- Block HUB, R522. -/
def rowsHUB : List RegRow := rowsHUB0

/-- Block LNK, R61, piece 1. -/
def rowsLNK0 : List RegRow :=
  [⟨0x00, 1, 2, 0xFF00, true, 0x0000, 0x0000, true, 0xD400, .one⟩,
   ⟨0x02, 1, 2, 0x0000, false, 0x0000, 0x0000, false, 0x0000, .one⟩,
   ⟨0x04, 1, 2, 0x0000, false, 0xFCFC, 0x0000, false, 0x0000, .one⟩,
   ⟨0x06, 1, 2, 0xC000, true, 0x0000, 0x0000, true, 0x2000, .one⟩,
   ⟨0x08, 1, 2, 0xFFFF, true, 0x0000, 0x0000, true, 0x0430, .one⟩,
   ⟨0x20, 2, 32, 0xFF80, true, 0x0000, 0x0000, true, 0x0C00, .one⟩,
   ⟨0x22, 2, 32, 0x0000, false, 0x0000, 0x0000, false, 0x0000, .one⟩,
   ⟨0x24, 2, 32, 0x0000, false, 0x0000, 0x0000, false, 0x0000, .one⟩,
   ⟨0x26, 2, 32, 0x0000, false, 0x0000, 0x0000, false, 0x0800, .one⟩,
   ⟨0x28, 2, 32, 0x0000, false, 0x0000, 0x0000, false, 0x0000, .one⟩,
   ⟨0x2A, 2, 32, 0x0000, false, 0x0000, 0xFFFF, false, 0x0000, .one⟩,
   ⟨0x2C, 2, 32, 0x0000, false, 0x0000, 0xFFFF, false, 0x0000, .one⟩,
   ⟨0x2E, 2, 32, 0x0000, false, 0x0000, 0xFFFF, false, 0x0000, .one⟩,
   ⟨0x30, 2, 32, 0x0000, false, 0x0000, 0xFFFF, false, 0x0000, .one⟩,
   ⟨0x32, 2, 32, 0x0000, false, 0x0000, 0xFFFF, false, 0x0000, .one⟩,
   ⟨0x34, 2, 32, 0x0000, false, 0x0000, 0x0000, false, 0x0000, .one⟩,
   ⟨0x36, 2, 32, 0x0000, false, 0x0000, 0x0000, false, 0x0000, .one⟩]

/-- Block LNK, R61. -/
def rowsLNK : List RegRow := rowsLNK0

/-- Block CUE, R105, piece 1. -/
def rowsCUE0 : List RegRow :=
  [⟨0x00, 1, 2, 0x0000, false, 0x0000, 0x0000, false, 0x0000, .one⟩,
   ⟨0x02, 1, 2, 0x0000, false, 0x0000, 0x0000, false, 0x0000, .one⟩,
   ⟨0x04, 1, 2, 0x0000, false, 0x0000, 0x0000, false, 0x0000, .path⟩,
   ⟨0x06, 1, 2, 0x0000, false, 0x0000, 0x0000, false, 0x0000, .one⟩,
   ⟨0x08, 1, 2, 0x0000, false, 0x0000, 0x0000, false, 0x0000, .one⟩,
   ⟨0x0A, 1, 2, 0x0000, false, 0x0000, 0x0000, false, 0x0000, .one⟩,
   ⟨0x0C, 1, 2, 0x0000, false, 0x0000, 0x0000, false, 0x0000, .one⟩,
   ⟨0x0E, 1, 2, 0x0000, false, 0x0000, 0x0000, false, 0x0000, .one⟩,
   ⟨0x10, 1, 2, 0x0000, false, 0x0000, 0x0000, false, 0x0000, .one⟩,
   ⟨0x12, 1, 2, 0x0000, false, 0x0000, 0x0000, false, 0x0000, .one⟩,
   ⟨0x14, 1, 2, 0x0000, false, 0xFFF0, 0x0000, false, 0x0000, .one⟩,
   ⟨0x16, 1, 2, 0xFFF0, false, 0x0000, 0x0000, true, 0x0000, .one⟩,
   ⟨0x18, 1, 2, 0x0000, false, 0x0000, 0xFFFF, false, 0x0000, .one⟩,
   ⟨0x1A, 1, 2, 0x0000, false, 0x0000, 0xFFFF, false, 0x0000, .one⟩,
   ⟨0x1C, 1, 2, 0x0000, false, 0x0000, 0xFFFF, false, 0x0000, .one⟩,
   ⟨0x1E, 1, 2, 0x0000, false, 0x0000, 0xFFFF, false, 0x0000, .one⟩,
   ⟨0x20, 1, 2, 0x0000, false, 0x0000, 0xFFFF, false, 0x0000, .one⟩,
   ⟨0x22, 1, 2, 0x0000, false, 0x0000, 0xFFFF, false, 0x0000, .one⟩,
   ⟨0x24, 1, 2, 0x0000, false, 0x0000, 0xFFFF, false, 0x0000, .one⟩,
   ⟨0x26, 1, 2, 0xC000, true, 0x0000, 0x0000, false, 0x0000, .one⟩]

/-- Block CUE, R105, piece 2. -/
def rowsCUE1 : List RegRow :=
  [⟨0x28, 1, 2, 0xFFFF, true, 0x0000, 0x0000, false, 0x0000, .one⟩,
   ⟨0x2A, 1, 2, 0xFFFF, true, 0x0000, 0x0000, false, 0x0000, .one⟩,
   ⟨0x2C, 1, 2, 0xFFFF, true, 0x0000, 0x0000, false, 0x0000, .one⟩,
   ⟨0x2E, 1, 2, 0x0000, false, 0x0000, 0x0000, false, 0x0000, .one⟩,
   ⟨0x30, 1, 2, 0x0000, false, 0x0000, 0x0000, false, 0x0000, .one⟩,
   ⟨0x32, 1, 2, 0x0000, false, 0x0000, 0x0000, false, 0x0000, .one⟩,
   ⟨0x34, 1, 2, 0x0000, false, 0x0000, 0x0000, false, 0x0000, .one⟩,
   ⟨0x36, 1, 2, 0x0000, false, 0x0000, 0x0000, false, 0x0000, .path⟩,
   ⟨0x38, 1, 2, 0x0000, false, 0x0000, 0x0000, false, 0x0000, .one⟩,
   ⟨0x3A, 1, 2, 0x0000, false, 0x0000, 0x0000, false, 0x0000, .path⟩,
   ⟨0x3C, 1, 2, 0x0000, false, 0x0000, 0x0000, false, 0x0000, .one⟩,
   ⟨0x3E, 1, 2, 0x0000, false, 0x0000, 0x0000, false, 0x0000, .path⟩,
   ⟨0x40, 1, 2, 0x0000, false, 0x0000, 0x0000, false, 0x0000, .one⟩,
   ⟨0x42, 1, 2, 0x0000, false, 0x0000, 0xFFFF, false, 0x0000, .one⟩,
   ⟨0x44, 1, 2, 0x07FF, false, 0x0000, 0x0000, false, 0x0000, .path⟩,
   ⟨0x46, 1, 2, 0x0000, false, 0x0000, 0x0000, false, 0x0000, .one⟩,
   ⟨0x48, 1, 2, 0x0000, false, 0x0000, 0x0000, false, 0x0000, .one⟩,
   ⟨0x4A, 1, 2, 0x0000, false, 0x0000, 0x0000, false, 0x0000, .one⟩,
   ⟨0x4C, 1, 2, 0x0000, false, 0x0000, 0x0000, false, 0x0000, .one⟩,
   ⟨0x4E, 1, 2, 0x0000, false, 0x0000, 0x0000, false, 0x0000, .one⟩]

/-- Block CUE, R105. -/
def rowsCUE : List RegRow := rowsCUE0 ++ rowsCUE1

/-- Block GRD, R107, piece 1. -/
def rowsGRD0 : List RegRow :=
  [⟨0x00, 1, 2, 0x0000, false, 0x0000, 0x0000, false, 0x0000, .one⟩,
   ⟨0x02, 1, 2, 0x0000, false, 0x0000, 0x0000, false, 0x0000, .one⟩,
   ⟨0x04, 1, 2, 0x0000, false, 0x0000, 0x0000, false, 0x0000, .one⟩,
   ⟨0x06, 1, 2, 0x0000, false, 0x0000, 0xFFFF, false, 0x0000, .one⟩,
   ⟨0x08, 1, 2, 0x0000, false, 0x0000, 0xFFFF, false, 0x0000, .one⟩,
   ⟨0x0A, 1, 2, 0x0000, false, 0x0000, 0x0000, false, 0x0000, .one⟩,
   ⟨0x0C, 1, 2, 0x0000, false, 0x0000, 0x0000, false, 0x0000, .one⟩,
   ⟨0x0E, 1, 2, 0x0000, false, 0x0000, 0xFFFF, false, 0x0000, .one⟩,
   ⟨0x10, 1, 2, 0x07FF, false, 0x0000, 0x0000, false, 0x0000, .path⟩,
   ⟨0x12, 1, 2, 0x0000, false, 0x0000, 0x0000, false, 0x0000, .one⟩,
   ⟨0x14, 1, 2, 0x0000, false, 0x0000, 0x0000, false, 0x0000, .one⟩]

/-- Block GRD, R107. -/
def rowsGRD : List RegRow := rowsGRD0

/-- Block TIM, R140, piece 1. -/
def rowsTIM0 : List RegRow :=
  [⟨0x00, 1, 2, 0x0000, false, 0x0000, 0x0000, false, 0x0000, .one⟩,
   ⟨0x02, 1, 2, 0x0000, false, 0xFFE0, 0x0000, false, 0x0000, .one⟩,
   ⟨0x04, 1, 2, 0xFFE0, false, 0x0000, 0x0000, true, 0x0000, .one⟩,
   ⟨0x06, 1, 2, 0xF000, true, 0x0000, 0x0000, true, 0x0000, .one⟩,
   ⟨0x08, 1, 2, 0x0000, false, 0x0000, 0x0000, false, 0x0000, .one⟩,
   ⟨0x0A, 1, 2, 0x0000, false, 0x0000, 0x0000, false, 0x0000, .path⟩,
   ⟨0x0C, 1, 2, 0x0000, false, 0x0000, 0x0000, false, 0x0000, .path⟩,
   ⟨0x0E, 1, 2, 0x0000, false, 0x0000, 0x0000, false, 0x0000, .path⟩,
   ⟨0x10, 1, 2, 0x0000, false, 0x0000, 0x0000, false, 0x0000, .path⟩,
   ⟨0x12, 1, 2, 0x0000, false, 0x0000, 0x0000, false, 0x0000, .path⟩,
   ⟨0x14, 1, 2, 0x0000, false, 0x0000, 0x0000, false, 0x0000, .one⟩,
   ⟨0x16, 1, 2, 0x0000, false, 0x0000, 0x0000, false, 0x0000, .path⟩,
   ⟨0x18, 1, 2, 0x0000, false, 0x0000, 0x0000, false, 0x0000, .path⟩,
   ⟨0x1A, 1, 2, 0x0000, false, 0x0000, 0x0000, false, 0x0000, .path⟩,
   ⟨0x1C, 1, 2, 0x0000, false, 0x0000, 0x0000, false, 0x0000, .path⟩,
   ⟨0x1E, 1, 2, 0x0000, false, 0x0000, 0x0000, false, 0x0000, .path⟩,
   ⟨0x20, 1, 2, 0x0000, false, 0x0000, 0x0000, false, 0x0000, .path⟩,
   ⟨0x22, 1, 2, 0x0000, false, 0x0000, 0x0000, false, 0x0000, .one⟩,
   ⟨0x24, 1, 2, 0x0000, false, 0x0000, 0x0000, false, 0x0000, .one⟩,
   ⟨0x26, 1, 2, 0x0000, false, 0x0000, 0x0000, false, 0x0000, .one⟩]

/-- Block TIM, R140, piece 2. -/
def rowsTIM1 : List RegRow :=
  [⟨0x28, 1, 2, 0x0000, false, 0x0000, 0x0000, false, 0x0000, .one⟩,
   ⟨0x2A, 1, 2, 0x0000, false, 0x0000, 0x0000, false, 0x0000, .one⟩,
   ⟨0x2C, 1, 2, 0x0000, false, 0x0000, 0x0000, false, 0x0000, .one⟩,
   ⟨0x2E, 1, 2, 0x0000, false, 0x0000, 0x0000, false, 0x0000, .one⟩,
   ⟨0x30, 1, 2, 0x0000, false, 0x0000, 0x0000, false, 0x0000, .one⟩,
   ⟨0x32, 1, 2, 0xFFFF, true, 0x0000, 0x0000, true, 0x0000, .one⟩,
   ⟨0x34, 1, 2, 0xFFFF, true, 0x0000, 0x0000, true, 0x0000, .one⟩,
   ⟨0x36, 1, 2, 0x0000, false, 0x0000, 0x0000, false, 0x0000, .one⟩,
   ⟨0x38, 1, 2, 0x0000, false, 0x0000, 0x0000, false, 0x0000, .one⟩,
   ⟨0x3A, 1, 2, 0x0000, false, 0x0000, 0x0000, false, 0x0000, .one⟩,
   ⟨0x3C, 1, 2, 0x0000, false, 0x0000, 0x0000, false, 0x0000, .one⟩,
   ⟨0x3E, 1, 2, 0x0000, false, 0x0000, 0x0000, false, 0x0000, .one⟩,
   ⟨0x40, 1, 2, 0x0000, false, 0x0000, 0x0000, false, 0x0000, .one⟩,
   ⟨0x42, 1, 2, 0x0000, false, 0x0000, 0x0000, false, 0x0000, .one⟩,
   ⟨0x44, 1, 2, 0x0000, false, 0x0000, 0x0000, false, 0x0000, .one⟩,
   ⟨0x46, 1, 2, 0x0000, false, 0x0000, 0x0000, false, 0x0000, .one⟩,
   ⟨0x48, 1, 2, 0x0000, false, 0x0000, 0x0000, false, 0x0000, .one⟩,
   ⟨0x4A, 1, 2, 0xFFFF, true, 0x0000, 0x0000, true, 0x0032, .one⟩,
   ⟨0x4C, 1, 2, 0xFFFF, true, 0x0000, 0x0000, true, 0x0014, .one⟩,
   ⟨0x4E, 1, 2, 0xFFFF, true, 0x0000, 0x0000, true, 0x0064, .one⟩]

/-- Block TIM, R140, piece 3. -/
def rowsTIM2 : List RegRow :=
  [⟨0x50, 1, 2, 0x00FF, true, 0x0000, 0x0000, true, 0x000A, .one⟩,
   ⟨0x52, 1, 2, 0x0000, false, 0x0000, 0xFFFF, false, 0x0000, .one⟩,
   ⟨0x54, 1, 2, 0x0000, false, 0x0000, 0xFFFF, false, 0x0000, .one⟩,
   ⟨0x56, 1, 2, 0x0000, false, 0x0000, 0xFFFF, false, 0x0000, .one⟩,
   ⟨0x58, 1, 2, 0x0000, false, 0x0000, 0xFFFF, false, 0x0000, .one⟩]

/-- Block TIM, R140. -/
def rowsTIM : List RegRow := rowsTIM0 ++ rowsTIM1 ++ rowsTIM2

/-- Block SWQ, R173, piece 1. -/
def rowsSWQ0 : List RegRow :=
  [⟨0x00, 1, 2, 0xC000, true, 0x0000, 0x0000, true, 0x4000, .one⟩,
   ⟨0x02, 1, 2, 0x0000, false, 0xFE00, 0x0000, false, 0x0000, .one⟩,
   ⟨0x04, 1, 2, 0xFE00, false, 0x0000, 0x0000, true, 0x0000, .one⟩,
   ⟨0x06, 1, 2, 0x0000, false, 0x0000, 0x0000, false, 0x2000, .one⟩,
   ⟨0x08, 1, 2, 0xFFFF, true, 0x0000, 0x0000, true, 0x000A, .one⟩,
   ⟨0x0A, 1, 2, 0xFFFF, true, 0x0000, 0x0000, true, 0x0100, .one⟩,
   ⟨0x0C, 1, 2, 0xFFFF, true, 0x0000, 0x0000, true, 0x0100, .one⟩,
   ⟨0x0E, 1, 2, 0x07FF, true, 0x0000, 0x0000, true, 0x0050, .one⟩,
   ⟨0x10, 1, 2, 0xFC00, true, 0x0000, 0x0000, true, 0x0000, .one⟩,
   ⟨0x12, 1, 2, 0xFFFF, true, 0x0000, 0x0000, true, 0x0000, .one⟩,
   ⟨0x14, 1, 2, 0xFE00, false, 0x0000, 0x0000, false, 0x0000, .path⟩,
   ⟨0x16, 1, 2, 0x3FFF, true, 0x0000, 0x0000, true, 0x0400, .port⟩,
   ⟨0x18, 1, 2, 0x0000, false, 0x0000, 0x0000, false, 0x0000, .one⟩,
   ⟨0x1A, 1, 2, 0x3FFF, true, 0x0000, 0x0000, true, 0x0200, .queue⟩,
   ⟨0x1C, 1, 2, 0x0000, false, 0x0000, 0x0000, false, 0x0000, .one⟩,
   ⟨0x1E, 1, 2, 0x0000, false, 0x0000, 0x0000, false, 0x0000, .one⟩,
   ⟨0x20, 1, 2, 0x0000, false, 0x0000, 0x0000, false, 0x0000, .one⟩,
   ⟨0x22, 1, 2, 0x0000, false, 0x0000, 0x0000, false, 0x0000, .one⟩,
   ⟨0x24, 1, 2, 0x0000, false, 0x0000, 0x0000, false, 0x0000, .one⟩,
   ⟨0x26, 1, 2, 0x0000, false, 0x0000, 0x0000, false, 0x0000, .one⟩]

/-- Block SWQ, R173, piece 2. -/
def rowsSWQ1 : List RegRow :=
  [⟨0x28, 1, 2, 0x0000, false, 0x0000, 0x0000, false, 0x0000, .one⟩,
   ⟨0x2A, 1, 2, 0x0000, false, 0x0000, 0x0000, false, 0x0000, .one⟩,
   ⟨0x2C, 1, 2, 0x0000, false, 0x0000, 0xFFFF, false, 0x0000, .one⟩,
   ⟨0x2E, 1, 2, 0x0000, false, 0x0000, 0xFFFF, false, 0x0000, .one⟩,
   ⟨0x30, 1, 2, 0x0000, false, 0x0000, 0xFFFF, false, 0x0000, .one⟩,
   ⟨0x32, 1, 2, 0x0000, false, 0x0000, 0xFFFF, false, 0x0000, .one⟩,
   ⟨0x34, 1, 2, 0x0000, false, 0x0000, 0xFFFF, false, 0x0000, .one⟩,
   ⟨0x36, 1, 2, 0x0000, false, 0x0000, 0xFFFF, false, 0x0000, .one⟩,
   ⟨0x38, 1, 2, 0x0000, false, 0x0000, 0xFFFF, false, 0x0000, .one⟩,
   ⟨0x3A, 1, 2, 0x0000, false, 0x0000, 0xFFFF, false, 0x0000, .one⟩,
   ⟨0x3C, 1, 2, 0x0000, false, 0x0000, 0xFFFF, false, 0x0000, .one⟩,
   ⟨0x3E, 1, 2, 0x0000, false, 0x0000, 0xFFFF, false, 0x0000, .one⟩,
   ⟨0x40, 1, 2, 0x0000, false, 0x0000, 0xFFFF, false, 0x0000, .one⟩,
   ⟨0x42, 1, 2, 0x0000, false, 0x0000, 0xFFFF, false, 0x0000, .one⟩,
   ⟨0x44, 1, 2, 0x0000, false, 0x0000, 0xFFFF, false, 0x0000, .one⟩]

/-- Block SWQ, R173. -/
def rowsSWQ : List RegRow := rowsSWQ0 ++ rowsSWQ1

/-- Block FAB, R200, piece 1. -/
def rowsFAB0 : List RegRow :=
  [⟨0x00, 1, 2, 0x0000, false, 0x0000, 0x0000, false, 0x0000, .one⟩,
   ⟨0x02, 1, 2, 0x0000, false, 0xFFC0, 0x0000, false, 0x0000, .one⟩,
   ⟨0x04, 1, 2, 0xFFC0, false, 0x0000, 0x0000, true, 0x0000, .one⟩,
   ⟨0x06, 1, 2, 0x0000, false, 0x0000, 0x0000, true, 0x0000, .one⟩,
   ⟨0x08, 1, 2, 0x0000, false, 0x0000, 0x0000, false, 0x0000, .one⟩,
   ⟨0x0A, 1, 2, 0x0000, false, 0x0000, 0x0000, false, 0x0000, .one⟩,
   ⟨0x0C, 1, 2, 0x0000, false, 0x0000, 0x0000, false, 0x0000, .one⟩,
   ⟨0x0E, 1, 2, 0x0000, false, 0x0000, 0x0000, false, 0x0000, .one⟩,
   ⟨0x10, 1, 2, 0x0000, false, 0x0000, 0x0000, false, 0x0000, .one⟩,
   ⟨0x12, 1, 2, 0x8000, true, 0x0000, 0x0000, false, 0x0000, .one⟩,
   ⟨0x14, 1, 2, 0xFFFF, true, 0x0000, 0x0000, true, 0x1000, .one⟩,
   ⟨0x16, 1, 2, 0x0000, false, 0x0000, 0x0000, false, 0x0000, .one⟩,
   ⟨0x18, 1, 2, 0x0000, false, 0x0000, 0x0000, false, 0x0000, .one⟩,
   ⟨0x1A, 1, 2, 0x0000, false, 0x0000, 0x0000, false, 0x0000, .one⟩,
   ⟨0x1C, 1, 2, 0x0000, false, 0x0000, 0x0000, false, 0x0000, .one⟩,
   ⟨0x1E, 1, 2, 0x0000, false, 0x0000, 0x0000, false, 0x0000, .one⟩,
   ⟨0x20, 1, 2, 0x0000, false, 0x0000, 0x0000, false, 0x0000, .one⟩,
   ⟨0x22, 1, 2, 0x0000, false, 0x0000, 0x0000, false, 0x0000, .one⟩,
   ⟨0x24, 1, 2, 0x0000, false, 0x0000, 0x0000, false, 0x0000, .one⟩,
   ⟨0x26, 1, 2, 0x0FFF, false, 0x0000, 0x0000, false, 0x0000, .path⟩]

/-- Block FAB, R200, piece 2. -/
def rowsFAB1 : List RegRow :=
  [⟨0x28, 1, 2, 0x0000, false, 0x0000, 0x0000, false, 0x0000, .one⟩,
   ⟨0x2A, 1, 2, 0x0000, false, 0x0000, 0x0000, false, 0x0000, .one⟩,
   ⟨0x2C, 1, 2, 0x000F, false, 0x0000, 0x0000, false, 0x0000, .path⟩,
   ⟨0x2E, 1, 2, 0x0000, false, 0x0000, 0x0000, false, 0x0000, .one⟩,
   ⟨0x30, 1, 2, 0x0000, false, 0x0000, 0x0000, false, 0x0000, .one⟩,
   ⟨0x32, 1, 2, 0x0000, false, 0x0000, 0x0000, false, 0x0000, .one⟩,
   ⟨0x34, 1, 2, 0x0000, false, 0x0000, 0x0000, false, 0x0000, .one⟩,
   ⟨0x36, 1, 2, 0x0000, false, 0x0000, 0x0000, false, 0x0000, .one⟩,
   ⟨0x38, 1, 2, 0x007F, false, 0x0000, 0x0000, false, 0x0000, .path⟩,
   ⟨0x3A, 1, 2, 0x0000, false, 0x0000, 0x0000, false, 0x0000, .one⟩,
   ⟨0x3C, 1, 2, 0xE000, true, 0x0000, 0x0000, true, 0x0000, .one⟩,
   ⟨0x3E, 1, 2, 0x0000, false, 0x0000, 0x0000, false, 0x0000, .one⟩,
   ⟨0x40, 1, 2, 0xFFFF, true, 0x0000, 0x0000, true, 0x0064, .one⟩,
   ⟨0x42, 1, 2, 0x0000, false, 0x0000, 0xFFFF, false, 0x0000, .one⟩,
   ⟨0x44, 1, 2, 0x0000, false, 0x0000, 0xFFFF, false, 0x0000, .one⟩,
   ⟨0x46, 1, 2, 0x0000, false, 0x0000, 0xFFFF, false, 0x0000, .one⟩]

/-- Block FAB, R200. -/
def rowsFAB : List RegRow := rowsFAB0 ++ rowsFAB1

/-- Block BRG, R234, piece 1. -/
def rowsBRG0 : List RegRow :=
  [⟨0x00, 1, 2, 0xC000, true, 0x0000, 0x0000, true, 0xC000, .one⟩,
   ⟨0x02, 1, 2, 0x0000, false, 0x0000, 0x0000, false, 0x0000, .one⟩,
   ⟨0x04, 1, 2, 0x0000, false, 0xFF80, 0x0000, false, 0x0000, .one⟩,
   ⟨0x06, 1, 2, 0xFF80, false, 0x0000, 0x0000, true, 0x0000, .one⟩,
   ⟨0x08, 1, 2, 0xFFFF, true, 0x0000, 0x0000, true, 0x0032, .one⟩,
   ⟨0x0A, 1, 2, 0xFFFF, true, 0x0000, 0x0000, true, 0x0064, .one⟩,
   ⟨0x0C, 1, 2, 0x001F, false, 0x0000, 0x0000, false, 0x0000, .path⟩,
   ⟨0x0E, 1, 2, 0xF3FF, true, 0x0000, 0x0000, true, 0x8064, .endpoint⟩,
   ⟨0x10, 1, 2, 0x0000, false, 0x0000, 0x0000, false, 0x0000, .one⟩,
   ⟨0x12, 1, 2, 0x0000, false, 0x0000, 0x0000, false, 0x0000, .one⟩,
   ⟨0x14, 1, 2, 0x0000, false, 0x0000, 0xFFFF, false, 0x0000, .endpoint⟩,
   ⟨0x16, 1, 2, 0x000F, false, 0x0000, 0x0000, false, 0x0000, .path⟩,
   ⟨0x18, 1, 2, 0x0000, false, 0x0000, 0x0000, false, 0x0000, .one⟩,
   ⟨0x1A, 1, 2, 0x0000, false, 0x0000, 0x0000, false, 0x0000, .one⟩,
   ⟨0x1C, 1, 2, 0x8000, true, 0x0000, 0x0000, false, 0x0000, .one⟩,
   ⟨0x1E, 1, 2, 0x0000, false, 0x0000, 0x0000, false, 0x0000, .one⟩,
   ⟨0x20, 1, 2, 0x0000, false, 0x0000, 0xFFFF, false, 0x0000, .one⟩,
   ⟨0x22, 1, 2, 0x0000, false, 0x0000, 0x0000, false, 0x0000, .path⟩,
   ⟨0x24, 1, 2, 0x0000, false, 0x0000, 0x0000, false, 0x0000, .path⟩,
   ⟨0x26, 1, 2, 0x0000, false, 0x0000, 0x0000, false, 0x0000, .path⟩]

/-- Block BRG, R234, piece 2. -/
def rowsBRG1 : List RegRow :=
  [⟨0x28, 1, 2, 0x0000, false, 0x0000, 0x0000, false, 0x0000, .path⟩,
   ⟨0x2A, 1, 2, 0x0000, false, 0x0000, 0x0000, false, 0x0000, .path⟩,
   ⟨0x2C, 1, 2, 0x0000, false, 0x0000, 0xFFFF, false, 0x0000, .one⟩,
   ⟨0x2E, 1, 2, 0x0000, false, 0x0000, 0xFFFF, false, 0x0000, .one⟩,
   ⟨0x30, 1, 2, 0x0000, false, 0x0000, 0xFFFF, false, 0x0000, .one⟩,
   ⟨0x32, 1, 2, 0x0000, false, 0x0000, 0xFFFF, false, 0x0000, .one⟩,
   ⟨0x34, 1, 2, 0x0000, false, 0x0000, 0xFFFF, false, 0x0000, .one⟩,
   ⟨0x36, 1, 2, 0x0000, false, 0x0000, 0xFFFF, false, 0x0000, .one⟩,
   ⟨0x38, 1, 2, 0x0000, false, 0x0000, 0xFFFF, false, 0x0000, .one⟩,
   ⟨0x3A, 1, 2, 0x0000, false, 0x0000, 0xFFFF, false, 0x0000, .one⟩]

/-- Block BRG, R234. -/
def rowsBRG : List RegRow := rowsBRG0 ++ rowsBRG1

/-- Block LU, R415, piece 1. -/
def rowsLU0 : List RegRow :=
  [⟨0x00, 1, 2, 0xEF00, true, 0x0000, 0x0000, true, 0xA300, .one⟩,
   ⟨0x02, 1, 2, 0x0000, false, 0x0000, 0x0000, false, 0x0000, .one⟩,
   ⟨0x04, 1, 2, 0x0000, false, 0xFFF8, 0x0000, false, 0x0000, .one⟩,
   ⟨0x06, 1, 2, 0xFFF8, false, 0x0000, 0x0000, true, 0x0000, .one⟩,
   ⟨0x08, 1, 2, 0xE001, true, 0x0000, 0x0000, false, 0x0000, .one⟩,
   ⟨0x0A, 1, 2, 0xC000, false, 0x0000, 0x0000, false, 0x0000, .path⟩,
   ⟨0x0C, 1, 2, 0xFFFF, true, 0x0000, 0x0000, true, 0x0802, .one⟩,
   ⟨0x0E, 1, 2, 0x0000, false, 0x0000, 0x0000, false, 0x7F7F, .one⟩,
   ⟨0x10, 1, 2, 0x0000, false, 0x0000, 0x0000, false, 0x7F7F, .one⟩,
   ⟨0x12, 1, 2, 0x0000, false, 0x0000, 0x0000, false, 0x0000, .one⟩,
   ⟨0x14, 1, 2, 0x0000, false, 0x0000, 0x0000, false, 0x0000, .one⟩,
   ⟨0x16, 1, 2, 0x0000, false, 0x0000, 0x0000, false, 0x0000, .one⟩,
   ⟨0x18, 1, 2, 0x0000, false, 0x0000, 0x0000, false, 0x0000, .one⟩,
   ⟨0x1A, 1, 2, 0x0000, false, 0x0000, 0x0000, false, 0x0000, .one⟩,
   ⟨0x1C, 1, 2, 0x0000, false, 0x0000, 0xFFFF, false, 0x0000, .one⟩,
   ⟨0x1E, 1, 2, 0x0000, false, 0x0000, 0x0000, false, 0x0000, .path⟩,
   ⟨0x20, 1, 2, 0x0000, false, 0x0000, 0x0000, false, 0x0000, .path⟩,
   ⟨0x22, 1, 2, 0x0000, false, 0x0000, 0x0000, false, 0x0000, .path⟩,
   ⟨0x24, 1, 2, 0x0000, false, 0x0000, 0x0000, false, 0x0000, .one⟩,
   ⟨0x26, 1, 2, 0x0000, false, 0x0000, 0xFFFF, false, 0x0000, .one⟩]

/-- Block LU, R415, piece 2. -/
def rowsLU1 : List RegRow :=
  [⟨0x28, 1, 2, 0x0000, false, 0x0000, 0xFFFF, false, 0x0000, .one⟩,
   ⟨0x2A, 1, 2, 0x0000, false, 0x0000, 0xFFFF, false, 0x0000, .one⟩,
   ⟨0x2C, 1, 2, 0x0000, false, 0x0000, 0xFFFF, false, 0x0000, .one⟩,
   ⟨0x2E, 1, 2, 0x0000, false, 0x0000, 0xFFFF, false, 0x0000, .one⟩,
   ⟨0x30, 1, 2, 0x0000, false, 0x0000, 0xFFFF, false, 0x0000, .one⟩,
   ⟨0x32, 1, 2, 0x0000, false, 0x0000, 0xFFFF, false, 0x0000, .one⟩,
   ⟨0x34, 1, 2, 0x0000, false, 0x0000, 0xFFFF, false, 0x0000, .one⟩,
   ⟨0x36, 1, 2, 0x8000, false, 0x0000, 0x0000, false, 0x0000, .one⟩,
   ⟨0x38, 1, 2, 0xFFFF, true, 0x0000, 0x0000, true, 0x0032, .one⟩]

/-- Block LU, R415. -/
def rowsLU : List RegRow := rowsLU0 ++ rowsLU1

/-- Block FLT, R437, piece 1. -/
def rowsFLT0 : List RegRow :=
  [⟨0x00, 1, 2, 0xCFF0, true, 0x0000, 0x0000, true, 0x4820, .one⟩,
   ⟨0x02, 1, 2, 0x0000, false, 0x0000, 0x0000, false, 0x0000, .one⟩,
   ⟨0x04, 1, 2, 0x0000, false, 0xFF80, 0x0000, false, 0x0000, .core⟩,
   ⟨0x06, 1, 2, 0xFF80, false, 0x0000, 0x0000, true, 0x0000, .one⟩,
   ⟨0x08, 1, 2, 0x03FF, false, 0x0000, 0x0000, false, 0x0000, .path⟩,
   ⟨0x0A, 1, 2, 0xFF00, true, 0x0000, 0x0000, true, 0x0000, .source⟩,
   ⟨0x0C, 1, 2, 0x00FF, true, 0x0000, 0x0000, true, 0x0000, .source⟩,
   ⟨0x0E, 1, 2, 0xFFFF, true, 0x0000, 0x0000, true, 0x03E8, .source⟩,
   ⟨0x10, 1, 2, 0x0000, false, 0x0000, 0xFFFF, false, 0x0000, .sourceCore⟩,
   ⟨0x12, 1, 2, 0x0000, false, 0x0000, 0x0000, false, 0x0000, .one⟩,
   ⟨0x14, 1, 2, 0xFFFF, true, 0x0000, 0x0000, true, 0x03E8, .one⟩,
   ⟨0x16, 1, 2, 0xFFFF, true, 0x0000, 0x0000, true, 0x003C, .one⟩,
   ⟨0x18, 1, 2, 0x0000, false, 0x0000, 0x0000, false, 0x0000, .one⟩,
   ⟨0x1A, 1, 2, 0x0000, false, 0x0000, 0x0000, false, 0x0000, .one⟩,
   ⟨0x1C, 1, 2, 0x0000, false, 0x0000, 0xFFFF, false, 0x0000, .one⟩,
   ⟨0x1E, 1, 2, 0x0000, false, 0x0000, 0x0000, false, 0x0000, .path⟩,
   ⟨0x20, 1, 2, 0x0000, false, 0x0000, 0x0000, false, 0x0000, .path⟩,
   ⟨0x22, 1, 2, 0x0000, false, 0x0000, 0x0000, false, 0x0000, .path⟩,
   ⟨0x24, 1, 2, 0x0000, false, 0x0000, 0x0000, false, 0x0000, .path⟩,
   ⟨0x26, 1, 2, 0x0000, false, 0x0000, 0x0000, false, 0x0000, .path⟩]

/-- Block FLT, R437, piece 2. -/
def rowsFLT1 : List RegRow :=
  [⟨0x28, 1, 2, 0x0000, false, 0x0000, 0xFFFF, false, 0x0000, .core⟩,
   ⟨0x2A, 1, 2, 0x0000, false, 0x0000, 0xFFFF, false, 0x0000, .core⟩,
   ⟨0x2C, 1, 2, 0x0000, false, 0x0000, 0xFFFF, false, 0x0000, .core⟩,
   ⟨0x2E, 1, 2, 0x0000, false, 0x0000, 0xFFFF, false, 0x0000, .core⟩,
   ⟨0x30, 1, 2, 0x0000, false, 0x0000, 0xFFFF, false, 0x0000, .core⟩,
   ⟨0x32, 1, 2, 0xF000, true, 0x0000, 0x0000, false, 0x0000, .one⟩,
   ⟨0x34, 1, 2, 0x03FF, true, 0x0000, 0x0000, false, 0x0000, .one⟩,
   ⟨0x36, 1, 2, 0x0000, false, 0x0000, 0xFFFF, false, 0x0000, .core⟩,
   ⟨0x38, 1, 2, 0x0000, false, 0x0000, 0x0000, false, 0x0000, .one⟩]

/-- Block FLT, R437. -/
def rowsFLT : List RegRow := rowsFLT0 ++ rowsFLT1

/-- Block RST, R393, piece 1. -/
def rowsRST0 : List RegRow :=
  [⟨0x00, 1, 2, 0x8000, true, 0x0000, 0x0000, true, 0x8000, .one⟩,
   ⟨0x02, 1, 2, 0x0000, false, 0x0000, 0x0000, false, 0x0000, .one⟩,
   ⟨0x04, 1, 2, 0x0000, false, 0xFFE0, 0x0000, false, 0x0000, .one⟩,
   ⟨0x06, 1, 2, 0xFFE0, false, 0x0000, 0x0000, true, 0x0000, .one⟩,
   ⟨0x08, 1, 2, 0xF001, true, 0x0000, 0x0000, false, 0x0000, .one⟩,
   ⟨0x0A, 1, 2, 0x0000, false, 0x0000, 0x0000, false, 0x0000, .one⟩,
   ⟨0x0C, 1, 2, 0x0000, false, 0x0000, 0x0000, false, 0x0000, .one⟩,
   ⟨0x0E, 1, 2, 0x0000, false, 0x0000, 0x0000, false, 0x0000, .one⟩,
   ⟨0x10, 1, 2, 0x0000, false, 0x0000, 0x0000, false, 0x0000, .one⟩,
   ⟨0x12, 1, 2, 0x0000, false, 0x0000, 0x0000, false, 0x0000, .one⟩,
   ⟨0x14, 1, 2, 0x0000, false, 0x0000, 0x0000, false, 0x0000, .one⟩,
   ⟨0x16, 1, 2, 0x0000, false, 0x0000, 0x0000, false, 0x0000, .one⟩,
   ⟨0x18, 1, 2, 0x0000, false, 0x0000, 0x0000, false, 0x0000, .one⟩,
   ⟨0x1A, 1, 2, 0x0000, false, 0x0000, 0x0000, false, 0x0000, .one⟩,
   ⟨0x1C, 1, 2, 0x0001, false, 0x0000, 0x0000, false, 0x0000, .one⟩,
   ⟨0x1E, 1, 2, 0xFFFF, false, 0x0000, 0x0000, false, 0x0000, .one⟩,
   ⟨0x20, 1, 2, 0x0000, false, 0x0000, 0x0000, false, 0x0000, .one⟩,
   ⟨0x22, 1, 2, 0x0000, false, 0x0000, 0x0000, false, 0x0000, .one⟩,
   ⟨0x24, 1, 2, 0x0000, false, 0x0000, 0x0000, false, 0x0000, .one⟩,
   ⟨0x26, 1, 2, 0x0000, false, 0x0000, 0x0000, false, 0x0000, .one⟩]

/-- Block RST, R393, piece 2. -/
def rowsRST1 : List RegRow :=
  [⟨0x28, 1, 2, 0x0000, false, 0x0000, 0xFFFF, false, 0x0000, .one⟩,
   ⟨0x2A, 1, 2, 0x0000, false, 0x0000, 0xFFFF, false, 0x0000, .one⟩,
   ⟨0x2C, 1, 2, 0x0000, false, 0x0000, 0xFFFF, false, 0x0000, .one⟩,
   ⟨0x2E, 1, 2, 0x0003, false, 0x0000, 0x0000, false, 0x0000, .path⟩,
   ⟨0x30, 1, 2, 0x0000, false, 0x0000, 0x0000, false, 0x0000, .one⟩,
   ⟨0x40, 32, 2, 0x0000, false, 0x0000, 0x0000, false, 0x0000, .one⟩]

/-- Block RST, R393. -/
def rowsRST : List RegRow := rowsRST0 ++ rowsRST1

/-- Block HST, R492, piece 1. -/
def rowsHST0 : List RegRow :=
  [⟨0x00, 1, 2, 0xF800, true, 0x0000, 0x0000, true, 0xD800, .one⟩,
   ⟨0x02, 1, 2, 0x0000, false, 0x0000, 0x0000, false, 0x0000, .one⟩,
   ⟨0x04, 1, 2, 0x0000, false, 0xFC00, 0x0000, false, 0x0000, .one⟩,
   ⟨0x06, 1, 2, 0xFC00, false, 0x0000, 0x0000, true, 0x0000, .one⟩,
   ⟨0x08, 1, 2, 0xFFFF, true, 0x0000, 0x0000, true, 0x0000, .one⟩,
   ⟨0x0A, 1, 2, 0xFFFF, true, 0x0000, 0x0000, true, 0x0000, .one⟩,
   ⟨0x0C, 1, 2, 0xFFFF, true, 0x0000, 0x0000, true, 0x0000, .one⟩,
   ⟨0x0E, 1, 2, 0xFFFF, true, 0x0000, 0x0000, true, 0x0000, .one⟩,
   ⟨0x10, 1, 2, 0xFFFF, true, 0x0000, 0x0000, true, 0x0000, .one⟩,
   ⟨0x12, 1, 2, 0xFFFF, true, 0x0000, 0x0000, true, 0x5C19, .one⟩,
   ⟨0x14, 1, 2, 0xFFFF, true, 0x0000, 0x0000, true, 0x88B5, .one⟩,
   ⟨0x16, 1, 2, 0xFFFF, true, 0x0000, 0x0000, true, 0x0000, .one⟩,
   ⟨0x18, 1, 2, 0xFFFF, true, 0x0000, 0x0000, true, 0x0000, .one⟩,
   ⟨0x1A, 1, 2, 0xFFFF, true, 0x0000, 0x0000, true, 0x5C19, .one⟩,
   ⟨0x1C, 1, 2, 0xFFC0, true, 0x0000, 0x0000, true, 0x0000, .one⟩,
   ⟨0x1E, 1, 2, 0x0000, false, 0x0000, 0x0000, false, 0x0000, .one⟩,
   ⟨0x20, 1, 2, 0x0000, false, 0x0000, 0x0000, false, 0x0000, .one⟩,
   ⟨0x22, 1, 2, 0xE03F, true, 0x0000, 0x0000, true, 0x0010, .one⟩,
   ⟨0x24, 1, 2, 0x0000, false, 0x0000, 0x0000, false, 0x0000, .one⟩,
   ⟨0x26, 1, 2, 0xE000, true, 0x0000, 0x0000, false, 0x0000, .one⟩]

/-- Block HST, R492, piece 2. -/
def rowsHST1 : List RegRow :=
  [⟨0x28, 1, 2, 0x0000, false, 0x0000, 0x0000, false, 0x0000, .one⟩,
   ⟨0x2A, 1, 2, 0x001F, true, 0x0000, 0x0000, true, 0x001F, .one⟩,
   ⟨0x2C, 1, 2, 0x0FFF, true, 0x0000, 0x0000, true, 0x0000, .one⟩,
   ⟨0x2E, 1, 2, 0x00FF, true, 0x0000, 0x0000, true, 0x00FD, .one⟩,
   ⟨0x30, 1, 2, 0x0000, false, 0x0000, 0x0000, false, 0x0000, .one⟩,
   ⟨0x32, 1, 2, 0x0000, false, 0x0000, 0xFFFF, false, 0x0000, .one⟩,
   ⟨0x34, 1, 2, 0x0000, false, 0x0000, 0x0000, false, 0x0000, .path⟩,
   ⟨0x36, 1, 2, 0x0000, false, 0x0000, 0x0000, false, 0x0000, .path⟩,
   ⟨0x38, 1, 2, 0x0000, false, 0x0000, 0xFFFF, false, 0x0000, .one⟩,
   ⟨0x3A, 1, 2, 0x0000, false, 0x0000, 0xFFFF, false, 0x0000, .one⟩,
   ⟨0x3C, 1, 2, 0x0000, false, 0x0000, 0xFFFF, false, 0x0000, .one⟩,
   ⟨0x3E, 1, 2, 0x0000, false, 0x0000, 0xFFFF, false, 0x0000, .one⟩,
   ⟨0x40, 1, 2, 0x0000, false, 0x0000, 0xFFFF, false, 0x0000, .one⟩,
   ⟨0x42, 1, 2, 0x0000, false, 0x0000, 0xFFFF, false, 0x0000, .one⟩,
   ⟨0x44, 1, 2, 0x0000, false, 0x0000, 0xFFFF, false, 0x0000, .one⟩,
   ⟨0x46, 1, 2, 0x0000, false, 0x0000, 0x0000, false, 0x0000, .one⟩,
   ⟨0x48, 1, 2, 0x0000, false, 0x0000, 0xFFFF, false, 0x0000, .one⟩]

/-- Block HST, R492. -/
def rowsHST : List RegRow := rowsHST0 ++ rowsHST1

/-- Block DBG, R523, piece 1. -/
def rowsDBG0 : List RegRow :=
  [⟨0x00, 1, 2, 0xF800, true, 0x0000, 0x0000, true, 0xF000, .one⟩,
   ⟨0x02, 1, 2, 0x0000, false, 0x0000, 0x0000, false, 0x3000, .one⟩,
   ⟨0x04, 1, 2, 0x0000, false, 0xF800, 0x0000, false, 0x0000, .one⟩,
   ⟨0x06, 1, 2, 0xF800, false, 0x0000, 0x0000, true, 0x0000, .one⟩,
   ⟨0x08, 1, 2, 0x0F0F, false, 0x0000, 0x0000, false, 0x0000, .path⟩,
   ⟨0x0A, 1, 2, 0x0000, false, 0x0000, 0x0000, false, 0x0000, .one⟩,
   ⟨0x0C, 1, 2, 0x0000, false, 0x0000, 0x0000, false, 0x0000, .one⟩,
   ⟨0x0E, 1, 2, 0x001F, false, 0x0000, 0x0000, false, 0x0000, .path⟩,
   ⟨0x10, 1, 2, 0xFFFF, false, 0x0000, 0x0000, false, 0x0000, .one⟩,
   ⟨0x12, 1, 2, 0x0003, false, 0x0000, 0x0000, false, 0x0000, .path⟩,
   ⟨0x14, 1, 2, 0x800F, false, 0x0000, 0x0000, false, 0x0000, .breakpoint⟩,
   ⟨0x16, 1, 2, 0x0FFF, false, 0x0000, 0x0000, false, 0x0000, .breakpoint⟩,
   ⟨0x20, 1, 2, 0x000F, false, 0x0000, 0x0000, false, 0x0000, .path⟩,
   ⟨0x22, 1, 2, 0xFFFF, false, 0x0000, 0x0000, true, 0xFC00, .buffer⟩,
   ⟨0x24, 1, 2, 0x0000, false, 0x0000, 0x0000, false, 0x0000, .one⟩,
   ⟨0x26, 1, 2, 0x0000, false, 0x0000, 0xFFFF, false, 0x0000, .one⟩,
   ⟨0x28, 1, 2, 0x0000, false, 0x0000, 0x0000, false, 0x0000, .path⟩,
   ⟨0x2A, 1, 2, 0x0000, false, 0x0000, 0x0000, false, 0x0000, .path⟩,
   ⟨0x2C, 1, 2, 0x0000, false, 0x0000, 0x0000, false, 0x0000, .path⟩,
   ⟨0x2E, 1, 2, 0x0000, false, 0x0000, 0xFFFF, false, 0x0000, .one⟩]

/-- Block DBG, R523, piece 2. -/
def rowsDBG1 : List RegRow :=
  [⟨0x30, 1, 2, 0x0000, false, 0x0000, 0x0000, false, 0x0000, .one⟩]

/-- Block DBG, R523. -/
def rowsDBG : List RegRow := rowsDBG0 ++ rowsDBG1

/-- Block SIG, R235, piece 1. -/
def rowsSIG0 : List RegRow :=
  [⟨0x00, 1, 2, 0x8000, true, 0x0000, 0x0000, true, 0x0000, .one⟩,
   ⟨0x02, 1, 2, 0x0000, false, 0x0000, 0x0000, false, 0x0000, .one⟩,
   ⟨0x04, 1, 2, 0x0000, false, 0x0000, 0x0000, false, 0x0000, .one⟩,
   ⟨0x06, 1, 2, 0x0000, false, 0x0000, 0x0000, false, 0x0000, .one⟩,
   ⟨0x08, 1, 2, 0xFFF8, false, 0x0000, 0x0000, true, 0x0000, .one⟩,
   ⟨0x0A, 1, 2, 0xFFC0, false, 0x0000, 0x0000, true, 0x0000, .one⟩,
   ⟨0x0C, 1, 2, 0x0FFF, false, 0x0000, 0x0000, true, 0x0000, .one⟩,
   ⟨0x0E, 1, 2, 0x0000, false, 0x0000, 0x0000, false, 0x0000, .one⟩,
   ⟨0x10, 1, 2, 0x0000, false, 0x0000, 0xFFFF, false, 0x0000, .one⟩,
   ⟨0x12, 1, 2, 0x0000, false, 0x0000, 0x0000, false, 0x0000, .path⟩,
   ⟨0x14, 1, 2, 0x0000, false, 0x0000, 0x0000, false, 0x0000, .path⟩,
   ⟨0x16, 1, 2, 0x0000, false, 0x0000, 0x0000, false, 0x0000, .path⟩,
   ⟨0x18, 1, 2, 0x0000, false, 0x0000, 0x0000, false, 0x0000, .path⟩,
   ⟨0x1A, 1, 2, 0x0007, false, 0x0000, 0x0000, false, 0x0000, .path⟩,
   ⟨0x1C, 1, 2, 0x803F, true, 0x0000, 0x0000, true, 0x0000, .forwarding⟩,
   ⟨0x1E, 1, 2, 0xFFFF, true, 0x0000, 0x0000, true, 0x0000, .forwarding⟩,
   ⟨0x20, 1, 2, 0xC0FF, true, 0x0000, 0x0000, true, 0x4000, .forwarding⟩]

/-- Block SIG, R235. -/
def rowsSIG : List RegRow := rowsSIG0

/-- Block CMP, R532, piece 1. -/
def rowsCMP0 : List RegRow :=
  [⟨0x00, 1, 2, 0x0000, false, 0x0000, 0x0000, false, 0x0048, .one⟩,
   ⟨0x02, 1, 2, 0x0000, false, 0x0000, 0x00F8, false, 0x0000, .one⟩,
   ⟨0x04, 1, 2, 0x0000, false, 0x0000, 0x0000, false, 0x0000, .one⟩,
   ⟨0x06, 1, 2, 0x0000, false, 0x0000, 0x0000, false, 0x0000, .one⟩,
   ⟨0x08, 1, 2, 0x0000, false, 0x0000, 0x0000, false, 0x0000, .one⟩,
   ⟨0x0A, 1, 2, 0x0000, false, 0x0000, 0x0000, false, 0x0000, .one⟩,
   ⟨0x0C, 1, 2, 0x0000, false, 0x0000, 0x0000, false, 0x0000, .one⟩,
   ⟨0x0E, 1, 2, 0x0000, false, 0x0000, 0xFFFF, false, 0x0000, .one⟩,
   ⟨0x10, 6, 2, 0x0000, false, 0x0000, 0x0000, false, 0x0000, .path⟩,
   ⟨0x20, 6, 2, 0x00FF, false, 0x0000, 0x0000, false, 0x0000, .one⟩,
   ⟨0x30, 6, 2, 0x0000, false, 0x0000, 0x0000, false, 0x0000, .one⟩,
   ⟨0x80, 1, 2, 0x0000, false, 0x0000, 0x0000, false, 0x0000, .one⟩,
   ⟨0x82, 1, 2, 0x0000, false, 0x0000, 0x0000, false, 0x0000, .one⟩,
   ⟨0x84, 1, 2, 0x0000, false, 0xE000, 0x0000, false, 0x0000, .one⟩,
   ⟨0x86, 1, 2, 0xE000, false, 0x0000, 0x0000, true, 0x0000, .one⟩,
   ⟨0x88, 1, 2, 0x0000, false, 0x0000, 0xFFFF, false, 0x0000, .one⟩,
   ⟨0x8A, 1, 2, 0x0000, false, 0x0000, 0x0000, false, 0x0000, .one⟩]

/-- Block CMP, R532. -/
def rowsCMP : List RegRow := rowsCMP0

/-- Block FLD, R32, piece 1. -/
def rowsFLD0 : List RegRow :=
  [⟨0x00, 1, 2, 0x0000, false, 0x0000, 0x0000, false, 0x46B1, .one⟩,
   ⟨0x02, 1, 2, 0x0000, false, 0x0000, 0x0000, false, 0x0000, .one⟩,
   ⟨0x04, 1, 2, 0x0000, false, 0x0000, 0x0000, false, 0x0000, .one⟩,
   ⟨0x06, 1, 2, 0x0000, false, 0x0000, 0x0000, false, 0x0000, .one⟩,
   ⟨0x08, 1, 2, 0x0000, false, 0x0000, 0xFFFF, false, 0x0000, .one⟩,
   ⟨0x0A, 1, 2, 0x0000, false, 0x0000, 0xFFFF, false, 0x0000, .one⟩,
   ⟨0x0C, 1, 2, 0x0000, false, 0x0000, 0xFFFF, false, 0x0000, .one⟩,
   ⟨0x0E, 1, 2, 0xFFFF, true, 0x0000, 0x0000, true, 0x0802, .one⟩,
   ⟨0x10, 1, 2, 0x0000, false, 0x0000, 0x0000, false, 0x0000, .one⟩,
   ⟨0x12, 12, 2, 0x0000, false, 0x0000, 0x0000, false, 0x7F7F, .one⟩,
   ⟨0x2A, 1, 2, 0x0000, false, 0x0000, 0x0000, false, 0x0000, .one⟩]

/-- Block FLD, R32. -/
def rowsFLD : List RegRow := rowsFLD0

/-- Block PIN, R339, piece 1. -/
def rowsPIN0 : List RegRow :=
  [⟨0x00, 48, 4, 0x0000, false, 0x0000, 0x0000, false, 0x0000, .one⟩,
   ⟨0x02, 48, 4, 0x0000, false, 0x0000, 0x0000, false, 0x0000, .one⟩,
   ⟨0xC0, 3, 2, 0x0000, false, 0x0000, 0x0000, false, 0x0000, .one⟩,
   ⟨0xC6, 3, 2, 0x0000, false, 0x0000, 0x0000, false, 0xFFFF, .one⟩,
   ⟨0xCC, 3, 2, 0x0000, false, 0x0000, 0x0000, false, 0x0000, .one⟩,
   ⟨0xD2, 1, 2, 0x0000, false, 0xF000, 0x0000, false, 0x0000, .one⟩,
   ⟨0xD4, 1, 2, 0xF000, false, 0x0000, 0x0000, true, 0x0000, .one⟩,
   ⟨0xD6, 1, 2, 0x0000, false, 0x0000, 0xFFFF, false, 0x0000, .one⟩]

/-- Block PIN, R339. -/
def rowsPIN : List RegRow := rowsPIN0

/-- Block CLU, R274, piece 1. -/
def rowsCLU0 : List RegRow :=
  [⟨0x00, 1, 2, 0xC000, true, 0x0000, 0x0000, true, 0x8000, .one⟩,
   ⟨0x02, 1, 2, 0x0000, false, 0x0000, 0x0000, false, 0x0000, .one⟩,
   ⟨0x04, 1, 2, 0x0000, false, 0xFFFF, 0x0000, false, 0x0000, .one⟩,
   ⟨0x06, 1, 2, 0xFFFF, false, 0x0000, 0x0000, true, 0x0000, .one⟩,
   ⟨0x08, 1, 2, 0x0000, false, 0x0000, 0x0000, false, 0x0000, .one⟩,
   ⟨0x0A, 1, 2, 0x0000, false, 0x3FFF, 0x0000, false, 0x0000, .one⟩,
   ⟨0x0C, 1, 2, 0x000F, false, 0x0000, 0x0000, false, 0x0000, .path⟩,
   ⟨0x0E, 1, 2, 0x0000, false, 0x0000, 0x0000, false, 0x0000, .one⟩,
   ⟨0x10, 1, 2, 0x0000, false, 0x0000, 0x0000, false, 0x0000, .one⟩,
   ⟨0x12, 1, 2, 0x83FF, true, 0x0000, 0x0000, true, 0x8064, .engine⟩,
   ⟨0x14, 1, 2, 0xFFFF, true, 0x0000, 0x0000, true, 0x0000, .engine⟩,
   ⟨0x16, 1, 2, 0x0000, false, 0x0000, 0x0000, false, 0x0000, .one⟩,
   ⟨0x18, 4, 2, 0x0000, false, 0x0000, 0x0000, false, 0xFFFF, .one⟩,
   ⟨0x20, 1, 2, 0x000F, false, 0x0000, 0x0000, false, 0x0000, .path⟩,
   ⟨0x22, 1, 2, 0x0000, false, 0x0000, 0x0000, false, 0x0000, .one⟩,
   ⟨0x24, 1, 2, 0x0000, false, 0x0000, 0x0000, false, 0x0000, .one⟩,
   ⟨0x26, 1, 2, 0xFFFF, true, 0x0000, 0x0000, true, 0x0064, .one⟩,
   ⟨0x28, 1, 2, 0x000F, false, 0x0000, 0x0000, false, 0x0000, .path⟩,
   ⟨0x2A, 1, 2, 0x0000, false, 0x0000, 0x0000, false, 0x0000, .one⟩,
   ⟨0x2C, 1, 2, 0x0000, false, 0x0000, 0x0000, false, 0x0000, .one⟩]

/-- Block CLU, R274, piece 2. -/
def rowsCLU1 : List RegRow :=
  [⟨0x2E, 1, 2, 0x0000, false, 0x0000, 0x0000, false, 0x0000, .one⟩,
   ⟨0x30, 1, 2, 0x0000, false, 0x0000, 0x0000, false, 0x0000, .one⟩,
   ⟨0x32, 1, 2, 0x0000, false, 0x0000, 0x0000, false, 0x0000, .one⟩,
   ⟨0x34, 1, 2, 0xFFFF, true, 0x0000, 0x0000, true, 0x0005, .one⟩,
   ⟨0x36, 1, 2, 0xFFFF, true, 0x0000, 0x0000, true, 0x003C, .one⟩,
   ⟨0x38, 1, 2, 0xFFFF, true, 0x0000, 0x0000, true, 0x03E8, .one⟩,
   ⟨0x3A, 1, 2, 0x0000, false, 0x0000, 0x0000, false, 0x0000, .one⟩,
   ⟨0x3C, 1, 2, 0x0000, false, 0x0000, 0xFFFF, false, 0x0000, .one⟩,
   ⟨0x3E, 1, 2, 0x0000, false, 0x0000, 0xFFFF, false, 0x0000, .one⟩,
   ⟨0x40, 1, 2, 0x0000, false, 0x0000, 0xFFFF, false, 0x0000, .one⟩,
   ⟨0x42, 1, 2, 0x0000, false, 0x0000, 0xFFFF, false, 0x0000, .one⟩,
   ⟨0x44, 1, 2, 0x0000, false, 0x0000, 0xFFFF, false, 0x0000, .one⟩,
   ⟨0x46, 1, 2, 0x0000, false, 0x0000, 0xFFFF, false, 0x0000, .one⟩,
   ⟨0x48, 1, 2, 0x0000, false, 0x0000, 0xFFFF, false, 0x0000, .one⟩,
   ⟨0x4A, 1, 2, 0x0000, false, 0x0000, 0xFFFF, false, 0x0000, .one⟩,
   ⟨0x4C, 1, 2, 0x0000, false, 0x0000, 0xFFFF, false, 0x0000, .one⟩,
   ⟨0x4E, 1, 2, 0x0000, false, 0x0000, 0xFFFF, false, 0x0000, .one⟩,
   ⟨0x50, 1, 2, 0x000F, false, 0x0000, 0x0000, false, 0x0000, .path⟩,
   ⟨0x52, 1, 2, 0x0000, false, 0x0000, 0x0000, false, 0x0000, .one⟩]

/-- Block CLU, R274. -/
def rowsCLU : List RegRow := rowsCLU0 ++ rowsCLU1

/-- Block ADC, R340, piece 1. -/
def rowsADC0 : List RegRow :=
  [⟨0x00, 1, 2, 0x0000, false, 0xF800, 0x0000, false, 0x0000, .one⟩,
   ⟨0x02, 1, 2, 0xF800, false, 0x0000, 0x0000, true, 0x0000, .one⟩,
   ⟨0x04, 1, 2, 0x0000, false, 0x0000, 0x0000, false, 0x0000, .one⟩,
   ⟨0x06, 1, 2, 0x0000, false, 0x0000, 0x0000, false, 0x0000, .one⟩,
   ⟨0x08, 1, 2, 0x0000, false, 0x0000, 0x0000, false, 0x0000, .one⟩,
   ⟨0x0A, 1, 2, 0x001F, false, 0x0000, 0x0000, false, 0x0000, .path⟩,
   ⟨0x0C, 1, 2, 0x0000, false, 0x0000, 0x0000, false, 0x0000, .one⟩,
   ⟨0x0E, 1, 2, 0x0000, false, 0x0000, 0x0000, false, 0x0000, .one⟩,
   ⟨0x10, 1, 2, 0x0000, false, 0x0000, 0x0000, false, 0x0000, .one⟩,
   ⟨0x12, 1, 2, 0xFFFF, true, 0x0000, 0x0000, true, 0x0000, .channel⟩,
   ⟨0x14, 1, 2, 0xFFFF, true, 0x0000, 0x0000, true, 0xFFFF, .channel⟩,
   ⟨0x16, 1, 2, 0xFFFF, true, 0x0000, 0x0000, true, 0x0000, .channel⟩,
   ⟨0x18, 1, 2, 0x0000, false, 0x0000, 0x0000, false, 0x0000, .one⟩,
   ⟨0x1A, 1, 2, 0x0000, false, 0x0000, 0x0000, false, 0x0600, .one⟩,
   ⟨0x1C, 1, 2, 0x0000, false, 0x0000, 0xFFFF, false, 0x0000, .channel⟩,
   ⟨0x1E, 1, 2, 0x0000, false, 0x0000, 0xFFFF, false, 0x0000, .channel⟩,
   ⟨0x20, 1, 2, 0x0000, false, 0x0000, 0xFFFF, false, 0x0000, .channel⟩,
   ⟨0x22, 1, 2, 0x0000, false, 0x0000, 0xFFFF, false, 0x0000, .adc⟩]

/-- Block ADC, R340. -/
def rowsADC : List RegRow := rowsADC0

/-- Block PLS, R141, piece 1. -/
def rowsPLS0 : List RegRow :=
  [⟨0x00, 1, 2, 0x0000, false, 0xCFFF, 0x0000, false, 0x0000, .one⟩,
   ⟨0x02, 1, 2, 0xCFFF, false, 0x0000, 0x0000, true, 0x0000, .one⟩,
   ⟨0x04, 1, 2, 0x001F, false, 0x0000, 0x0000, false, 0x0000, .path⟩,
   ⟨0x06, 1, 2, 0x380F, false, 0x0000, 0x0000, false, 0x0000, .path⟩,
   ⟨0x08, 1, 2, 0x0000, false, 0x0000, 0x0000, false, 0x0000, .one⟩,
   ⟨0x0A, 1, 2, 0xFFFF, false, 0x0000, 0x0000, false, 0x0000, .path⟩,
   ⟨0x0C, 1, 2, 0xFFFF, false, 0x0000, 0x0000, false, 0x0000, .path⟩,
   ⟨0x0E, 1, 2, 0xFFFF, false, 0x0000, 0x0000, false, 0x0000, .path⟩,
   ⟨0x10, 1, 2, 0xFFFF, false, 0x0000, 0x0000, false, 0x0000, .path⟩,
   ⟨0x12, 1, 2, 0xFFFF, false, 0x0000, 0x0000, false, 0x0000, .path⟩,
   ⟨0x14, 1, 2, 0xFFFF, false, 0x0000, 0x0000, false, 0x0000, .path⟩,
   ⟨0x16, 1, 2, 0xFFFF, false, 0x0000, 0x0000, false, 0x0000, .path⟩,
   ⟨0x18, 1, 2, 0xFFFF, false, 0x0000, 0x0000, false, 0x0000, .path⟩,
   ⟨0x1A, 1, 2, 0xFFFF, false, 0x0000, 0x0000, false, 0x0000, .path⟩,
   ⟨0x1C, 1, 2, 0xFFFF, false, 0x0000, 0x0000, false, 0x0000, .path⟩,
   ⟨0x1E, 1, 2, 0x0000, false, 0x0000, 0xFFFF, false, 0x0000, .unit⟩,
   ⟨0x20, 12, 2, 0x0000, false, 0x0000, 0xFF00, false, 0x0000, .one⟩,
   ⟨0x40, 12, 2, 0x0FFF, false, 0x0000, 0x0000, true, 0x0000, .one⟩,
   ⟨0x60, 12, 2, 0x0FFF, false, 0x0000, 0x0000, true, 0x0000, .one⟩,
   ⟨0x80, 12, 8, 0x0000, false, 0x0000, 0xFFFF, false, 0x0000, .one⟩]

/-- Block PLS, R141, piece 2. -/
def rowsPLS1 : List RegRow :=
  [⟨0x82, 12, 8, 0x0000, false, 0x0000, 0x0000, false, 0x0000, .path⟩,
   ⟨0x84, 12, 8, 0x0000, false, 0x0000, 0x0000, false, 0x0000, .path⟩,
   ⟨0x86, 12, 8, 0x0000, false, 0x0000, 0x0000, false, 0x0000, .path⟩]

/-- Block PLS, R141. -/
def rowsPLS : List RegRow := rowsPLS0 ++ rowsPLS1

/-- Block CAN, R364, piece 1. -/
def rowsCAN0 : List RegRow :=
  [⟨0x00, 1, 2, 0xFF00, true, 0x0000, 0x0000, true, 0x3E00, .one⟩,
   ⟨0x02, 1, 2, 0x0000, false, 0x0000, 0x0000, false, 0x0000, .one⟩,
   ⟨0x04, 1, 2, 0x0000, false, 0xFFFC, 0x0000, false, 0x0000, .one⟩,
   ⟨0x06, 1, 2, 0xFFFC, false, 0x0000, 0x0000, true, 0x0000, .one⟩,
   ⟨0x08, 1, 2, 0x0000, false, 0x0000, 0x0000, false, 0x0000, .one⟩,
   ⟨0x0A, 1, 2, 0x0F0F, true, 0x0000, 0x0000, true, 0x000F, .one⟩,
   ⟨0x0C, 1, 2, 0xFFFF, true, 0x0000, 0x0000, true, 0x4E01, .one⟩,
   ⟨0x0E, 1, 2, 0xFF7F, true, 0x0000, 0x0000, true, 0x9E27, .one⟩,
   ⟨0x10, 1, 2, 0x0F1F, true, 0x0000, 0x0000, true, 0x0403, .one⟩,
   ⟨0x12, 1, 2, 0x1F0F, true, 0x0000, 0x0000, true, 0x1204, .one⟩,
   ⟨0x14, 1, 2, 0x807F, true, 0x0000, 0x0000, true, 0x0000, .one⟩,
   ⟨0x16, 1, 2, 0x0000, false, 0x0000, 0x0000, false, 0x0000, .one⟩,
   ⟨0x18, 1, 2, 0xFFFF, true, 0x0000, 0x0000, true, 0x0000, .one⟩,
   ⟨0x1A, 1, 2, 0xE0FF, true, 0x0000, 0x0000, true, 0xA000, .one⟩,
   ⟨0x1C, 1, 2, 0x0000, false, 0x0000, 0x0000, false, 0x0000, .one⟩,
   ⟨0x1E, 1, 2, 0x0000, false, 0x0000, 0x0000, false, 0x0000, .one⟩,
   ⟨0x20, 1, 2, 0x001F, false, 0x0000, 0x0000, false, 0x0000, .path⟩,
   ⟨0x22, 1, 2, 0xFC00, true, 0x0000, 0x0000, true, 0x0000, .filter⟩,
   ⟨0x24, 1, 2, 0x1FFF, true, 0x0000, 0x0000, true, 0x0000, .filter⟩,
   ⟨0x26, 1, 2, 0xFFFF, true, 0x0000, 0x0000, true, 0x0000, .filter⟩]

/-- Block CAN, R364, piece 2. -/
def rowsCAN1 : List RegRow :=
  [⟨0x28, 1, 2, 0x1FFF, true, 0x0000, 0x0000, true, 0x0000, .filter⟩,
   ⟨0x2A, 1, 2, 0xFFFF, true, 0x0000, 0x0000, true, 0x0000, .filter⟩,
   ⟨0x2C, 1, 2, 0x0000, false, 0x0000, 0x0000, false, 0x0000, .one⟩,
   ⟨0x2E, 1, 2, 0x0000, false, 0x0000, 0xFFFF, false, 0x0000, .one⟩,
   ⟨0x30, 1, 2, 0x0000, false, 0x0000, 0xFFFF, false, 0x0000, .one⟩,
   ⟨0x32, 1, 2, 0x0000, false, 0x0000, 0xFFFF, false, 0x0000, .one⟩,
   ⟨0x34, 1, 2, 0x0000, false, 0x0000, 0xFFFF, false, 0x0000, .one⟩,
   ⟨0x36, 1, 2, 0x0000, false, 0x0000, 0xFFFF, false, 0x0000, .one⟩,
   ⟨0x38, 1, 2, 0x0000, false, 0x0000, 0xFFFF, false, 0x0000, .one⟩,
   ⟨0x3A, 1, 2, 0x0000, false, 0x0000, 0xFFFF, false, 0x0000, .one⟩,
   ⟨0x3C, 1, 2, 0x0000, false, 0x0000, 0xFFFF, false, 0x0000, .one⟩,
   ⟨0x3E, 1, 2, 0x0000, false, 0x0000, 0x0000, false, 0x0000, .one⟩,
   ⟨0x40, 1, 2, 0x0000, false, 0x0000, 0xFFFF, false, 0x0000, .one⟩,
   ⟨0x42, 1, 2, 0x0000, false, 0x0000, 0xFFFF, false, 0x0000, .one⟩,
   ⟨0x44, 7, 2, 0x0000, false, 0x0000, 0x0000, false, 0x0000, .path⟩,
   ⟨0x52, 1, 2, 0x0000, false, 0x0000, 0xFFFF, false, 0x0000, .one⟩,
   ⟨0x54, 4, 2, 0xFFFF, false, 0x0000, 0x0000, false, 0x0000, .path⟩,
   ⟨0x5C, 1, 2, 0x0000, false, 0x0000, 0x0000, false, 0x0000, .one⟩,
   ⟨0x5E, 1, 2, 0x0000, false, 0x0000, 0x0000, false, 0x0000, .one⟩]

/-- Block CAN, R364. -/
def rowsCAN : List RegRow := rowsCAN0 ++ rowsCAN1

/-- Block PWR, R467, piece 1. -/
def rowsPWR0 : List RegRow :=
  [⟨0x00, 1, 2, 0xC000, true, 0x0000, 0x0000, true, 0xC000, .one⟩,
   ⟨0x02, 1, 2, 0x0000, false, 0x0000, 0x0000, false, 0x0000, .one⟩,
   ⟨0x04, 1, 2, 0x0000, false, 0xFFC0, 0x0000, false, 0x0000, .one⟩,
   ⟨0x06, 1, 2, 0xFFC0, false, 0x0000, 0x0000, true, 0x0000, .one⟩,
   ⟨0x08, 1, 2, 0x0000, false, 0x0000, 0x0000, false, 0x0000, .one⟩,
   ⟨0x0A, 1, 2, 0x0000, false, 0x0000, 0x0000, false, 0x0000, .one⟩,
   ⟨0x0C, 1, 2, 0x0000, false, 0x0000, 0x0000, false, 0x0000, .one⟩,
   ⟨0x0E, 1, 2, 0x0000, false, 0x0000, 0x0000, false, 0x0000, .one⟩,
   ⟨0x10, 1, 2, 0x0000, false, 0x0000, 0x0000, false, 0x0000, .one⟩,
   ⟨0x12, 1, 2, 0x0000, false, 0x0000, 0x0000, false, 0x0000, .one⟩,
   ⟨0x14, 1, 2, 0xFFFF, true, 0x0000, 0x0000, true, 0x0708, .one⟩,
   ⟨0x16, 1, 2, 0xFFFF, true, 0x0000, 0x0000, true, 0x07D0, .one⟩,
   ⟨0x18, 1, 2, 0xFFFF, true, 0x0000, 0x0000, true, 0x0CE4, .one⟩,
   ⟨0x1A, 1, 2, 0xFFFF, true, 0x0000, 0x0000, true, 0x07D0, .one⟩,
   ⟨0x1C, 1, 2, 0xFFFF, true, 0x0000, 0x0000, true, 0x1388, .one⟩,
   ⟨0x1E, 1, 2, 0xFFFF, true, 0x0000, 0x0000, true, 0x1388, .one⟩,
   ⟨0x20, 1, 2, 0xFFFF, true, 0x0000, 0x0000, true, 0x03E8, .one⟩,
   ⟨0x22, 1, 2, 0x0000, false, 0x0000, 0x0000, false, 0x0000, .one⟩,
   ⟨0x24, 1, 2, 0xFFFF, true, 0x0000, 0x0000, true, 0x000A, .one⟩,
   ⟨0x26, 1, 2, 0x00FF, true, 0x0000, 0x0000, true, 0x00FE, .one⟩]

/-- Block PWR, R467, piece 2. -/
def rowsPWR1 : List RegRow :=
  [⟨0x28, 1, 2, 0x0000, false, 0x0000, 0x0000, false, 0x0000, .one⟩,
   ⟨0x2A, 1, 2, 0x8000, true, 0x0000, 0x0000, false, 0x0000, .one⟩,
   ⟨0x2C, 1, 2, 0x0000, false, 0x0000, 0x0000, false, 0x0000, .one⟩,
   ⟨0x2E, 1, 2, 0x0000, false, 0x0000, 0xFFFF, false, 0x0000, .one⟩,
   ⟨0x30, 1, 2, 0x0000, false, 0x0000, 0xFFFF, false, 0x0000, .one⟩,
   ⟨0x32, 1, 2, 0x0000, false, 0x0000, 0xFFFF, false, 0x0000, .one⟩]

/-- Block PWR, R467. -/
def rowsPWR : List RegRow := rowsPWR0 ++ rowsPWR1

/-- Block EF, R468, piece 1. -/
def rowsEF0 : List RegRow :=
  [⟨0x00, 1, 2, 0x000F, false, 0x0000, 0x0000, false, 0x0000, .path⟩,
   ⟨0x02, 1, 2, 0xF000, true, 0x0000, 0x0000, true, 0xA000, .fuse⟩,
   ⟨0x04, 1, 2, 0x0000, false, 0x0000, 0x0000, false, 0x0000, .one⟩,
   ⟨0x06, 1, 2, 0x0000, false, 0x0000, 0x0000, false, 0x0000, .one⟩,
   ⟨0x08, 1, 2, 0xFFFF, true, 0x0000, 0x0000, true, 0x1388, .fuse⟩,
   ⟨0x0A, 1, 2, 0xFFFF, true, 0x0000, 0x0000, true, 0x07D0, .fuse⟩,
   ⟨0x0C, 8, 4, 0xFFFF, true, 0x0000, 0x0000, true, 0x0000, .fuse⟩,
   ⟨0x0E, 8, 4, 0xFFFF, true, 0x0000, 0x0000, true, 0x0000, .fuse⟩,
   ⟨0x2C, 1, 2, 0xFFFF, true, 0x0000, 0x0000, true, 0x0096, .fuse⟩,
   ⟨0x2E, 1, 2, 0xFFFF, true, 0x0000, 0x0000, true, 0x3232, .fuse⟩,
   ⟨0x30, 1, 2, 0xFFFF, true, 0x0000, 0x0000, true, 0x3064, .fuse⟩,
   ⟨0x32, 1, 2, 0xFFFF, true, 0x0000, 0x0000, true, 0x00C8, .fuse⟩,
   ⟨0x34, 1, 2, 0xFFFF, true, 0x0000, 0x0000, true, 0x0028, .fuse⟩,
   ⟨0x36, 3, 2, 0xFFFF, true, 0x0000, 0x0000, true, 0x0000, .fuse⟩,
   ⟨0x3C, 3, 2, 0xFFFF, true, 0x0000, 0x0000, true, 0x0000, .fuse⟩,
   ⟨0x42, 1, 2, 0xFFFF, true, 0x0000, 0x0000, true, 0x0000, .fuse⟩,
   ⟨0x44, 1, 2, 0x0000, false, 0x0000, 0x0000, false, 0x0000, .one⟩,
   ⟨0x46, 1, 2, 0x0000, false, 0x0000, 0x0000, false, 0x8000, .one⟩,
   ⟨0x48, 1, 2, 0x0000, false, 0x0000, 0x0000, false, 0x0000, .one⟩,
   ⟨0x4A, 1, 2, 0x0000, false, 0x0000, 0xFFFF, false, 0x0000, .fuse⟩]

/-- Block EF, R468, piece 2. -/
def rowsEF1 : List RegRow :=
  [⟨0x60, 1, 2, 0xFFFF, true, 0x0000, 0x0000, true, 0x0000, .one⟩,
   ⟨0x62, 1, 2, 0x0000, false, 0x0000, 0x0000, false, 0x0000, .one⟩,
   ⟨0x64, 1, 2, 0x0000, false, 0x0000, 0x0000, false, 0x0000, .one⟩,
   ⟨0x66, 1, 2, 0x0000, false, 0x0000, 0x0000, false, 0x0000, .one⟩,
   ⟨0x68, 1, 2, 0x0000, false, 0xF000, 0x0000, false, 0x0000, .one⟩,
   ⟨0x6A, 1, 2, 0xF000, false, 0x0000, 0x0000, true, 0x0000, .one⟩]

/-- Block EF, R468. -/
def rowsEF : List RegRow := rowsEF0 ++ rowsEF1

/-- Block FI, R438, piece 1. -/
def rowsFI0 : List RegRow :=
  [⟨0x00, 1, 2, 0xE000, true, 0x0000, 0x0000, false, 0x0000, .one⟩,
   ⟨0x02, 1, 2, 0x03FF, true, 0x0000, 0x0000, false, 0x0000, .one⟩,
   ⟨0x04, 1, 2, 0x0000, false, 0x0000, 0x0000, false, 0x0000, .one⟩,
   ⟨0x06, 1, 2, 0x0000, false, 0x0000, 0xFFFF, false, 0x0000, .one⟩,
   ⟨0x08, 1, 2, 0x8000, false, 0x0000, 0x0000, false, 0x0000, .one⟩]

/-- Block FI, R438. -/
def rowsFI : List RegRow := rowsFI0

/-- The block a canonical address lies in: hub blocks 0-14 by bits [13:10], field blocks 0-24 by bits [15:10]. -/
def blockRows (a : Nat) : List RegRow :=
  match a / 0x400 with

  | 0 => rowsHUB
  | 1 => rowsLNK
  | 2 => rowsCUE
  | 3 => rowsGRD
  | 4 => rowsTIM
  | 5 => rowsSWQ
  | 6 => rowsFAB
  | 7 => rowsBRG
  | 8 => rowsLU
  | 9 => rowsFLT
  | 10 => rowsRST
  | 11 => rowsHST
  | 12 => rowsDBG
  | 13 => rowsSIG
  | 14 => rowsCMP
  | 64 => rowsFLD
  | 65 | 66 | 67 => rowsPIN
  | 68 | 69 | 70 | 71 | 72 | 73 | 74 | 75 | 76 | 77 | 78 | 79 => rowsCLU
  | 80 => rowsADC
  | 81 => rowsPLS
  | 82 | 83 | 84 | 85 => rowsCAN
  | 86 => rowsPWR
  | 87 => rowsEF
  | 88 => rowsFI
  | _ => []

/-- The number of a block among the blocks of its kind: cluster, CAN controller or PIN block number. -/
def blockIndex (a : Nat) : Nat :=
  let b := a / 0x400
  if 65 ≤ b && b ≤ 67 then b - 65 else if 68 ≤ b && b ≤ 79 then b - 68 else if 82 ≤ b && b ≤ 85 then b - 82 else 0

/-- Does a row list page offset o? -/
def RegRow.lists (r : RegRow) (o : Nat) : Bool :=
  decide (r.off ≤ o) && decide (o < r.off + r.count * r.stride) && decide ((o - r.off) % r.stride = 0)

/-- The row of a canonical address; none where the block's table lists no register there (R496). -/
def regRow? (a : Nat) : Option RegRow := (blockRows a).find? (·.lists (a % 0x400))

/-- R494: the hub space ignores bits [15:14] and block 15 is an alias of block 14; R495: field blocks 25-31 are
aliases of 17-23 and 32-63 of 0-31; R496: bits [9:8] are ignored in every block. Bit 0 is ignored, since bits [7:1]
select the register. -/
def canonReg (a : Nat) : Nat :=
  let page := a % 0x100 / 2 * 2
  if a < 0x10000 then
    let b := a / 0x400 % 16
    (if b = 15 then 14 else b) * 0x400 + page
  else
    let b := a / 0x400 % 64 % 32
    0x10000 + (if 25 ≤ b then b - 8 else b) * 0x400 + page

/-- The key of a register in the register file: its canonical address and the copy selected. -/
def regKey (a sel : Nat) : Nat := a * 65536 + sel

/-- The values of R11 that are not one number for every copy of a register: FLT_SRC_CFG takes its source's defaults
(R416, R419), HST_MAC holds 0x02 and the low 40 bits of the unique ID (R492), ports 0 and 1 have a quota of 2,048 cells
(R173), PWR_EF_CUR and PWR_EF_TIM have two default points (R468), and PWR_CF_CFG.SETTLE is 10 (R467). -/
def regRestoreSpecial (a sel : Nat) : Option Word :=
  if a = FLT_SRC_CFG then some (srcCfgDefault sel)
  else if a = HST_MAC_H then some (wd 0x0200 ||| wd ((Config.uniqueId 1).toNat % 256))
  else if a = HST_MAC_M then some (Config.uniqueId 2)
  else if a = HST_MAC_L then some (Config.uniqueId 3)
  else if a = SWQ_QUOTA then some (if sel ≤ 1 then wd 2048 else wd 1024)
  else if a = PWR_EF_CUR 0 then some (wd 500)
  else if a = PWR_EF_CUR 1 then some (wd 1000)
  else if a = PWR_EF_TIM 0 then some (wd 1000)
  else if a = PWR_EF_TIM 1 then some (wd 100)
  else none

/-- What a register that nothing has written reads as: its Restore value, R11. -/
def regRestore (k : Nat) : Word :=
  let a := k / 65536
  match regRestoreSpecial a (k % 65536) with
  | some v => v
  | none => match regRow? a with
    | some r => wd r.restore
    | none => 0

end Sys2Proof
end

