-- ==== Sys2Proof/Machine/Sparse.lean ====
section
/-! DEFINITION. Sparse maps: lists of (key, value) pairs in ONE canonical form, keys strictly rising and no entry
equal to what an unlisted key reads as. The memory and the register file of State are kept so, and equal contents are
therefore equal data. Reading and writing rest on the first entry of a key alone, so that what is written is read also in a
list that is not in that form. -/

namespace Sys2Proof

/-- What key k reads as; `dflt` says what an unlisted key reads as. -/
def sparseGet {α : Type} (dflt : Nat → α) : List (Nat × α) → Nat → α
  | [], k => dflt k
  | (j, v) :: t, k => if k = j then v else sparseGet dflt t k

/-- The map with key k set to v; writing what an unlisted key reads as removes the entry. -/
def sparseSet {α : Type} [DecidableEq α] (dflt : Nat → α) : List (Nat × α) → Nat → α → List (Nat × α)
  | [], k, v => if v = dflt k then [] else [(k, v)]
  | (j, w) :: t, k, v =>
    if j = k then sparseSet dflt t k v
    else if k < j then
      let rest := (j, w) :: t.filter fun x => decide (x.1 ≠ k)
      if v = dflt k then rest else (k, v) :: rest
    else (j, w) :: sparseSet dflt t k v

/-- The canonical form: keys strictly rising, no entry at its default. -/
def sparseWf {α : Type} [DecidableEq α] (dflt : Nat → α) : List (Nat × α) → Bool
  | [] => true
  | (j, v) :: t =>
    decide (v ≠ dflt j) && (match t with | [] => true | (k, _) :: _ => decide (j < k)) && sparseWf dflt t

end Sys2Proof
end

