-- ==== Sys2Proof/Machine/State.lean ====
section
/-! DEFINITION. The state of the SL192 as a block: every register, memory, queue, mode and pin the manual gives it, as
plain data, the queue of commands that wait, and the machine right after a power-on reset. -/

namespace Sys2Proof

namespace Machine

/-- Why a step stops in a fault. Safe: the machine stops where the hardware may go on. -/
inductive Fault where
  /-- raised by no meaning of this model: every command the manual gives an effect has one, and every open value is a
  free value -/
  | neverRaised
  deriving DecidableEq, Repr

/-- Why a step is refused. Safe: a refusal proves nothing of the hardware. -/
inductive Refusal where
  /-- raised by an arm of Dispatch that gives its command no meaning yet; the string is the row's mnemonic -/
  | notModelled (mnemonic : String)
  deriving DecidableEq, Repr

/-- The state of the block. -/
structure State where
  /-- the latest instant a command has named, in ticks -/
  now : Nat
  /-- the model's own: free values used so far (notes/assumptions/4.md) -/
  freeCtr : Nat
  /-- commands that wait, first in, first out -/
  pending : List Instr
  /-- registers that hold their own value, by key; an unlisted register reads as its Restore value -/
  regs : List (Nat × Word)
  /-- memories, by byte address, in canonical form -/
  mem : List Host.Cell
  /-- byte addresses of memory words that hold an uncorrectable error (R265), rising -/
  marks : List Nat
  start : StartState
  paths : Vector PathState 5
  /-- barrier directions -/
  bar : Vector BarDirState 2
  /-- margin monitors of the clusters (R26); those of the cores are in `lead` -/
  margins : Vector Margin 12
  links : Vector LinkPort 2
  cue : CueState
  time : TimeState
  pulses : Vector PulseUnit 24
  edges : Vector EdgeFifo 12
  sw : SwitchState
  streams : Vector EventStream 2
  fab : FabState
  brg : BridgeState
  clusters : Vector Cluster 12
  pins : Vector Pin 144
  cans : Vector CanCtl 4
  /-- the field snapshot as last captured at the field die, words 0x000-0x1BF (R312) -/
  snap : List Word
  store : StoreState
  lead : LeadState
  flts : Vector Collector 2
  dark : DarkLatch
  /-- field-side reports that have not crossed (R417) -/
  backlog : List Backlog
  /-- a field-side checker armed by FI_CTRL: source, CONT, DRY (R434) -/
  fieldInj : Option (Nat × Bool × Bool)
  power : PowerState
  host : HostState
  dbg : DebugState
  cmp : CmpState
  traces : Vector TraceBuf 14
  /-- rank 6 of R308 holds until a latch instant accepts a core -/
  claimGap : Bool
  /-- rank 7 of R308 holds -/
  timeGap : Bool
  /-- SIG_PEND_L and SIG_PEND_C as last announced to the hub (R222), and as the field die last made them ready -/
  heard : Word × Word
  told : Word × Word
  /-- the host side's modes as the field die has been told, and as the host die last made them ready (R14) -/
  fmodes : FieldModes
  modesTold : FieldModes
  /-- the field die is in intermission: from a latch instant on (R485) -/
  fintm : Bool
  deriving DecidableEq, Repr

/-- What a meaning answers. -/
abbrev Out := Host.Outcome State Fault Refusal

/-- The block right after a power-on reset, both sides released from it (R463, R503): every register at its Restore
value, memory with nothing listed, ports DOWN, the barrier untrained, pins at rank 1, e-fuse channels off, no core with a
claim, the queue empty. -/
def State.reset : State where
  now := 0
  freeCtr := 0
  pending := []
  regs := []
  mem := []
  marks := []
  start := .init
  paths := Vector.replicate 5 .init
  bar := Vector.replicate 2 .init
  margins := Vector.replicate 12 .init
  links := Vector.replicate 2 .init
  cue := .init
  time := .init
  pulses := Vector.replicate 24 .init
  edges := Vector.replicate 12 .init
  sw := .init
  streams := Vector.replicate 2 .init
  fab := .init
  brg := .init
  clusters := Vector.replicate 12 .init
  pins := Vector.replicate 144 .init
  cans := Vector.replicate 4 .init
  snap := []
  store := .init
  lead := .init
  flts := Vector.replicate 2 .init
  dark := .init
  backlog := []
  fieldInj := none
  power := .init
  host := .init
  dbg := .init
  cmp := .init
  traces := Vector.replicate 14 .init
  claimGap := true
  timeGap := true
  heard := (0, 0)
  told := (0, 0)
  fmodes := .init
  modesTold := .init
  fintm := false

end Machine

end Sys2Proof
end

