-- ==== Sys2Proof/Machine/Ops.lean ====
section
/-! DEFINITION. The named operations over registers, memory, time, the barrier's ready queues, fault reports and trace
buffers, on which every meaning rests. -/

namespace Sys2Proof.Machine

/-- What an unlisted byte of memory reads as: 0, but for the factory block and the vendor's key slot of the retained
store, which are written at production test (R365, R373, R571). That RAM reads 0 after power-on is a DESIGN CHOICE
(notes/assumptions/2.md). -/
def memDefault (a : Nat) : Byte :=
  if a < 0x878000 ∨ 0x878908 ≤ a then 0
  else
    let w := (a - 0x878000) / 2
    let v : Word :=
      if w < 4 then Config.uniqueId w
      else if w = 4 then 0x5C19
      else if w = 5 then 0x52B1
      else if w = 6 then 0x46B1
      else if w = 7 then bitW Config.orderFS 15
      else if w < 0x2E then Config.factoryWord w
      else if w = 0x3FF then Config.factoryWord w
      else if 0x400 ≤ w ∧ w < 0x420 then Config.vendorKey (w - 0x400)
      else if w = 0x480 then 1
      else 0
    if a % 2 = 0 then v.extractLsb' 8 8 else v.extractLsb' 0 8

/-- What key a of the register file reads as when unlisted. -/
abbrev regDefault : Nat → Word := regRestore

/-- The register file is in canonical form. -/
def regsWf (s : State) : Bool := sparseWf regDefault s.regs

/-- The memory is in canonical form: addresses strictly rising, no byte listed that reads so unlisted. -/
def Memory.wf (m : List Host.Cell) : Bool := sparseWf memDefault m

/-- The stored value of a register copy. -/
def State.regSel (s : State) (a sel : Nat) : Word := sparseGet regDefault s.regs (regKey a sel)

/-- The stored value of a register that has one copy. -/
def State.reg (s : State) (a : Nat) : Word := s.regSel a 0

def State.setRegSel (s : State) (a sel : Nat) (v : Word) : State :=
  { s with regs := sparseSet regDefault s.regs (regKey a sel) v }

def State.setReg (s : State) (a : Nat) (v : Word) : State := s.setRegSel a 0 v

/-- The target is locked, and an access of this path waits until it is unlocked (R223). -/
def State.lockedOut (s : State) (path : Path) : Bool := s.brg.lock.isSome && decide (path ≠ .debugPort)
def State.waitLocal (s : State) (path : Path) (addr count : Nat) (write : Option (List Word)) : State :=
  { s with brg := { s.brg with blocked := s.brg.blocked ++ [⟨path, .none, addr, count, false, write⟩] } }

/-- A single access of a local initiator that a row names, with what it does: it waits while the target is locked (R223). -/
def State.throughLock (s : State) (path : Path) (addr : Nat) (write : Option Word) (f : State → State) : State :=
  if s.lockedOut path then s.waitLocal path addr 1 (write.map fun v => [v]) else f s

/-- A field of a stored register. -/
def State.fld (s : State) (a hi lo : Nat) : Nat := Sys2Proof.fld (s.reg a) hi lo

/-- A bit of a stored register. -/
def State.bit (s : State) (a i : Nat) : Bool := bitOf (s.reg a) i

/-- The blocks whose counters each core has for itself (R394), but for the fault collectors', which hold both cores' registers. -/
def twinCounted (a : Nat) : Bool := decide (a < 0x10000) && [2, 5, 6, 7, 11, 13, 14].contains (a / 0x400)

/-- Where a core's copy of such a counter stands among the register's copies. -/
def twinSel : Core → Nat
  | .c0 => 0
  | .c1 => 0x8000

/-- Core 1's copy of a counter counts with core 0's (R394). -/
def State.countTwin (s : State) (a sel k : Nat) : State :=
  { s with regs :=
      if twinCounted a then sparseSet regDefault s.regs (regKey a (sel + twinSel .c1)) (bumpW (s.regSel a (sel + twinSel .c1)) k)
      else s.regs }

/-- A counter register counts, saturating at 0xFFFF. -/
def State.countSel (s : State) (a sel k : Nat) : State := (s.setRegSel a sel (bumpW (s.regSel a sel) k)).countTwin a sel k

def State.bump (s : State) (a : Nat) : State := s.countSel a 0 1

def State.bumpSel (s : State) (a sel : Nat) : State := s.countSel a sel 1

/-- An event bit is set (W1C bits stay set until written, R8). -/
def State.evt (s : State) (a i : Nat) : State := s.setReg a (s.reg a ||| bitW true i)

/-- Bits of a stored register are set or cleared. -/
def State.putBit (s : State) (a i : Nat) (b : Bool) : State :=
  s.setReg a ((s.reg a &&& ~~~ bitW true i) ||| bitW b i)

/-- A command names its instant; time does not run backwards. -/
def State.at (s : State) (t : Nat) : State := { s with now := max s.now t }

/-- Ring time at the hub and at the field side (R108, R121). -/
def State.ring (s : State) : Int := s.now + s.time.ofs
def State.fring (s : State) : Int := s.now + s.time.fofs

/-- A free value (notes/assumptions/4.md). -/
def State.free (s : State) : Word := Config.freeValue s.freeCtr
def State.usedFree (s : State) : State := { s with freeCtr := s.freeCtr + 1 }

/-- One byte of memory. -/
def State.byte (s : State) (a : Nat) : Byte := sparseGet memDefault s.mem a
def State.setByte (s : State) (a : Nat) (v : Byte) : State := { s with mem := sparseSet memDefault s.mem a v }

/-- One word of memory, its bits [15:8] at the lower byte address (R5; notes/assumptions/3.md). -/
def State.word (s : State) (a : Nat) : Word := s.byte a ++ s.byte (a + 1)
def State.setWord (s : State) (a : Nat) (v : Word) : State :=
  (s.setByte a (v.extractLsb' 8 8)).setByte (a + 1) (v.extractLsb' 0 8)

/-- Consecutive words of memory. -/
def State.words (s : State) (a : Nat) : Nat → List Word
  | 0 => []
  | n + 1 => s.word a :: s.words (a + 2) n
def State.setWords (s : State) (a : Nat) : List Word → State
  | [] => s
  | v :: t => (s.setWord a v).setWords (a + 2) t

/-- A run of words set to one value. -/
def State.fillWords (s : State) (a : Nat) : Nat → Word → State
  | 0, _ => s
  | n + 1, v => (s.setWord a v).fillWords (a + 2) n v

/-- Byte addresses of the memories (R28, R29, R365). Window memory and the publish banks have no local address of their
own: they stand above 2^32. -/
def sharedBase (n : Nat) : Nat := 0x100000 + n * 0x40000
def dataBase (n e : Nat) : Nat := 0x108000 + n * 0x40000 + e * 0x800
def codeBase (n e : Nat) : Nat := 0x110000 + n * 0x40000 + e * 0x2000
def windowBase (n : Nat) : Nat := 0x100000000 + n * 0x10000
def pubBase (bank : Bool) : Nat := 0x200000000 + b2n bank * 0x10000
def subBase : Nat := 0x410000
def snapBase : Nat := 0x420000
def storeBase : Nat := 0x800000
def slotBase (b : Bool) : Nat := storeBase + b2n b * 0x30000

/-- Words of the publish area in the fill bank and in the send bank (R77). -/
def State.fillWord (s : State) (w : Nat) : Word := s.word (pubBase s.cue.fill + 2 * w)
def State.setFillWord (s : State) (w : Nat) (v : Word) : State := s.setWord (pubBase s.cue.fill + 2 * w) v
def State.sendWord (s : State) (w : Nat) : Word := s.word (pubBase (!s.cue.fill) + 2 * w)

/-- A cluster, an engine, a pin and their updates. -/
def State.cl (s : State) (n : Fin 12) : Cluster := vget s.clusters n
def State.updCl (s : State) (n : Fin 12) (f : Cluster → Cluster) : State := { s with clusters := vupd s.clusters n f }
def State.eng (s : State) (n : Fin 12) (e : Fin 14) : Engine := vget (s.cl n).engines e
def State.updEng (s : State) (n : Fin 12) (e : Fin 14) (f : Engine → Engine) : State :=
  s.updCl n fun c => { c with engines := vupd c.engines e f }
def State.pacer (s : State) (n : Fin 12) (p : Fin 16) : Pacer := vget (s.cl n).pacers p
def State.updPacer (s : State) (n : Fin 12) (p : Fin 16) (f : Pacer → Pacer) : State :=
  s.updCl n fun c => { c with pacers := vupd c.pacers p f }
def State.conduit (s : State) (n : Fin 12) (q : Fin 16) : Conduit := vget (s.cl n).conduits q
def State.updConduit (s : State) (n : Fin 12) (q : Fin 16) (f : Conduit → Conduit) : State :=
  s.updCl n fun c => { c with conduits := vupd c.conduits q f }
def State.pin (s : State) (k : Fin 144) : Pin := vget s.pins k
def State.updPin (s : State) (k : Fin 144) (f : Pin → Pin) : State := { s with pins := vupd s.pins k f }
/-- Pin j of cluster n (R302). -/
def pinOf (n : Fin 12) (j : Fin 12) : Fin 144 := ⟨12 * n.val + j.val, by omega⟩
def pinCluster (k : Fin 144) : Fin 12 := ⟨k.val / 12, by omega⟩
def pinLocal (k : Fin 144) : Fin 12 := ⟨k.val % 12, by omega⟩

/-- The setting of a pin by the section of its cluster, none while there is no section (R303). -/
def State.pinCfg (s : State) (k : Fin 144) : Option PinCfg :=
  match (s.cl (pinCluster k)).cfg with
  | none => none
  | some c => c.pins[(pinLocal k).val]?

def State.bdir (s : State) (d : BarDir) : BarDirState := vget s.bar d.ix
def State.updBar (s : State) (d : BarDir) (f : BarDirState → BarDirState) : State := { s with bar := vupd s.bar d.ix f }
def State.link (s : State) (p : Port) : LinkPort := vget s.links p.ix
def State.updLink (s : State) (p : Port) (f : LinkPort → LinkPort) : State := { s with links := vupd s.links p.ix f }
def State.stream (s : State) (r : Ring) : EventStream := vget s.streams r.ix
def State.updStream (s : State) (r : Ring) (f : EventStream → EventStream) : State :=
  { s with streams := vupd s.streams r.ix f }
def State.can (s : State) (c : Fin 4) : CanCtl := vget s.cans c
def State.updCan (s : State) (c : Fin 4) (f : CanCtl → CanCtl) : State := { s with cans := vupd s.cans c f }
def State.core (s : State) (c : Core) : CoreState := vget s.lead.cores c.ix
def State.updCore (s : State) (c : Core) (f : CoreState → CoreState) : State :=
  { s with lead := { s.lead with cores := vupd s.lead.cores c.ix f } }
def State.updFlt (s : State) (c : Core) (f : Collector → Collector) : State := { s with flts := vupd s.flts c.ix f }
def State.updCue (s : State) (f : CueState → CueState) : State := { s with cue := f s.cue }
def State.updTime (s : State) (f : TimeState → TimeState) : State := { s with time := f s.time }
def State.updSw (s : State) (f : SwitchState → SwitchState) : State := { s with sw := f s.sw }
def State.updFab (s : State) (f : FabState → FabState) : State := { s with fab := f s.fab }
def State.updBrg (s : State) (f : BridgeState → BridgeState) : State := { s with brg := f s.brg }
def State.updStore (s : State) (f : StoreState → StoreState) : State := { s with store := f s.store }
def State.updLead (s : State) (f : LeadState → LeadState) : State := { s with lead := f s.lead }
def State.updPower (s : State) (f : PowerState → PowerState) : State := { s with power := f s.power }
def State.updHost (s : State) (f : HostState → HostState) : State := { s with host := f s.host }
def State.updDbg (s : State) (f : DebugState → DebugState) : State := { s with dbg := f s.dbg }
def State.updDark (s : State) (f : DarkLatch → DarkLatch) : State := { s with dark := f s.dark }

/-- The core whose claim is the higher of 8 and 12 (R399). -/
def acceptedOf (a b : Claim) : Option Core :=
  if a.value ≥ 8 ∧ a.value > b.value then some .c0
  else if b.value ≥ 8 ∧ b.value > a.value then some .c1
  else none

/-- The core the ring-die comparators accept, and the core the field stages accept (R396, R399). -/
def State.accepted (s : State) : Option Core := acceptedOf (s.core .c0).claim (s.core .c1).claim
def State.fieldAccepted (s : State) : Option Core := acceptedOf (s.core .c0).fieldClaim (s.core .c1).fieldClaim

/-- The core that holds claim 12 (R398). -/
def State.lead? (s : State) : Option Core :=
  if (s.core .c0).claim = .c12 then some .c0 else if (s.core .c1).claim = .c12 then some .c1 else none

/-- A direction of the barrier carries messages (R20, FLD_BAR_STAT). -/
def barCarries (b : BarDirState) : Bool := b.trained && !b.retraining

/-- Messages pass now: trained, not retraining, no lane being replaced. -/
def barPasses (b : BarDirState) : Bool := barCarries b && b.toReplace.isEmpty

/-- A message becomes ready at an end of the barrier (R17). -/
def State.barReady (s : State) (d : BarDir) (ty : BarType) (body : BarPayload) : State :=
  s.updBar d fun b => { b with ready := b.ready ++ [⟨⟨ty, body⟩, []⟩] }

/-- A report joins a source's undelivered reports at the field die (R417). -/
def addBacklog (src detail time : Nat) (inj dry : Bool) : List Backlog → List Backlog
  | [] => [⟨src, detail, time, 1, inj, dry⟩]
  | b :: t =>
    if b.src = src ∧ b.inj = inj ∧ b.dry = dry then { b with count := satAdd 255 b.count 1 } :: t
    else b :: addBacklog src detail time inj dry t

/-- A report to the collector of one core (R417). -/
def State.raiseCore (s : State) (c : Core) (src detail : Nat) : State :=
  s.updFlt c fun f => { f with inbox := f.inbox ++ [⟨src, detail, s.ring.toNat, false, false⟩] }

/-- A report of a source: to both collectors, or from the field die as a FAULT_REPORT message, or into the backlog
while the direction does not carry messages (R417). What both cores compute, both report; the model keeps it once. -/
def State.raise (s : State) (src detail : Nat) : State :=
  if srcField src then
    if barCarries (s.bdir .fh) then s.barReady .fh .faultReport (.faultReport src detail 1 s.fring.toNat false false)
    else { s with backlog := addBacklog src detail s.fring.toNat false false s.backlog }
  else (s.raiseCore .c0 src detail).raiseCore .c1 src detail

/-- The mask bit of a trace kind; none for the kinds that are always entered (R516). -/
def traceMask (kind : Nat) : Option Nat :=
  if kind = 1 ∨ kind = 2 then some 15
  else if kind = 3 then some 14
  else if kind = 4 ∨ kind = 5 then some 13
  else if kind = 6 ∨ kind = 7 ∨ kind = 8 then some 12
  else if kind = 0x14 ∨ kind = 0x15 then some 11
  else if kind = 0x16 then some 10
  else none

/-- Entries a trace buffer holds (R516). -/
def traceCap (i : Fin 14) : Nat := if i.val < 12 then 256 else 512

/-- A happening enters a trace buffer (R516-R518). -/
def State.trace (s : State) (i : Fin 14) (kind src detail : Nat) : State :=
  let admitted := match traceMask kind with
    | none => true
    | some b => bitOf (s.regSel DBG_TRC_MASK i.val) b
  if !(s.bit DBG_CTRL 12 && admitted) then s
  else
    let b := vget s.traces i
    let e : TraceEntry := ⟨kind, src % 16, detail % 16, s.time.dom, (if i.val < 12 then s.fring else s.ring).toNat⟩
    if b.entries.length < traceCap i then
      { s with traces := vset s.traces i { b with entries := b.entries ++ [e] } }
    else
      let kept := if s.bit DBG_CTRL 11 then b.entries else b.entries.tail ++ [e]
      let s1 := { s with traces := vset s.traces i { b with entries := kept, ovf := true, told := true } }
      let s2 := (s1.bump DBG_TRC_LOST).evt DBG_EVT 12
      if b.told then s2 else s2.raise Src.traceLost i.val

/-- The trace buffers of a cluster and of a core. -/
def clTrace (n : Fin 12) : Fin 14 := ⟨n.val, by omega⟩
def coreTrace (c : Core) : Fin 14 := ⟨12 + c.ix.val, by omega⟩

/-- A happening entered in every buffer (R516). -/
def State.traceAll (s : State) (kind : Nat) : State :=
  (List.finRange 14).foldl (fun s i => s.trace i kind 0 0) s

/-- A function for each of a list of things, in order. -/
def State.each {α : Type} (s : State) (l : List α) (f : State → α → State) : State := l.foldl f s

/-- A change made only where a condition holds. -/
def State.when (s : State) (b : Bool) (f : State → State) : State := if b then f s else s

/-- The ring passes on the dark-forwarding path: in the dark-node state, and in a warm restart until the stagebook is applied
(R431, R503, R504). -/
def State.darkPath (s : State) : Bool := s.dark.dark || s.start.warm

/-- What a frame or word addressed to the node does: the dark-forwarding path delivers nothing (R431). -/
def State.delivered (s : State) (f : State → State) : State := if s.darkPath then s else f s

/-- The cycle the node is in, by markers or flywheeling (R66). -/
def State.present (s : State) : DWord := s.time.sCycle

/-- A wake reason arises (R488): kept in intermission where HST_WAKE_EN enables it. -/
def State.wakeReason (s : State) (k : Nat) : State :=
  if s.host.intm = .inside ∧ s.bit HST_WAKE_EN (k - 1) ∧ !s.host.reasons.contains k then
    s.updHost fun h => { h with reasons := h.reasons ++ [k] }
  else s

/-- A bit of the Ramuth STATUS register, which is in use only in Ramuth mode (R524, R530, R532). -/
def State.cmpStatus (s : State) (b : Nat) : State :=
  let go (s : State) (c : Core) : State :=
    s.setRegSel CMP_R_STATUS (twinSel c) (s.regSel CMP_R_STATUS (twinSel c) ||| bitW true b)
  if s.cmp.inpub.isSome then go (go s .c0) .c1 else s

/-- The Ramuth error count, which saturates at 255 (R530, R532). -/
def State.cmpError (s : State) : State :=
  let go (s : State) (c : Core) : State :=
    s.setRegSel CMP_R_ERRCNT (twinSel c) (wd (satAdd 255 (s.regSel CMP_R_ERRCNT (twinSel c)).toNat 1))
  if s.cmp.inpub.isSome then go (go s .c0) .c1 else s

/-- The node carries out commands of its own ports: it is out of reset (R503). -/
def State.awake (s : State) : Bool := !s.start.hostReset

end Sys2Proof.Machine
end

