-- ==== Sys2Proof/Machine/Cycles.lean ====
section
/-! DEFINITION. The sheets a node holds and the one that governs a cycle (R101), the node's roles as a generator of a stream (R71,
R87), cycle lengths and positions (R62, R63, R66, R570), and the SB word of a generated stream (R63). -/

namespace Sys2Proof.Machine

/-- The active prompter of this ring, which a roll call starts from and does not count. -/
def State.prompting (s : State) : Bool := s.cue.prompter.active

def bankIx (b : Bool) : Fin 2 := if b then 1 else 0
def State.sheetAt (s : State) (b : Bool) : Option CueSheet := vget s.cue.banks (bankIx b)

/-- The sheet in force (R101); none while the bank named holds none. -/
def State.sheet (s : State) : Option CueSheet := s.sheetAt s.cue.bank

/-- The sheet whose instants and subscriptions run on (R76, R86, R101): the one in force, or while a node does not hold the sheet
named, the one it last had. -/
def State.runSheet (s : State) : Option CueSheet := match s.sheet with
  | some c => some c
  | none => if s.cue.noSheet then s.sheetAt (!s.cue.bank) else none

/-- The number the CAST section was compiled for (R90, R189). -/
def State.compiled (s : State) : Nat := match s.fab.tables with | none => 0 | some t => t.node

/-- The node is named prompter A, or B, by the sheet in force (R90). -/
def namedA (s : State) : Bool := match s.sheet with
  | none => false
  | some c => decide (c.nodeA ≠ 0) && decide (c.nodeA = s.compiled)
def namedB (s : State) : Bool := match s.sheet with
  | none => false
  | some c => decide (c.nodeB ≠ 0) && decide (c.nodeB = s.compiled)

/-- The node's own claim (CUE_CLAIM). -/
def ownClaim (s : State) : Nat := match s.sheet with
  | none => 0
  | some c => if namedA s then c.claimA else if namedB s then c.claimB else 0

def State.lineOf (s : State) (r : Ring) : LineHead := vget s.cue.lines r.ix
def State.updLine (s : State) (r : Ring) (f : LineHead → LineHead) : State :=
  s.updCue fun c => { c with lines := vupd c.lines r.ix f }
def State.trackOf (s : State) (r : Ring) : RingTrack := vget s.cue.track r.ix
def State.updTrack (s : State) (r : Ring) (f : RingTrack → RingTrack) : State :=
  s.updCue fun c => { c with track := vupd c.track r.ix f }

/-- The node generates the stream of a ring: as active prompter, or as line head that has sent its first marker (R71,
R87). -/
def generates (s : State) (r : Ring) : Bool := s.prompting || ((s.lineOf r).head && (s.lineOf r).started)

/-- The node sets the word times of a ring's outgoing stream itself: it generates the stream, or continues the ring as line head before its
first marker (R87). -/
def drives (s : State) (r : Ring) : Bool := s.prompting || ((s.lineOf r).head && ((s.lineOf r).started || (s.trackOf r).seen))

/-- The flags of the marker of a ring's present stream cycle (R65): as sent where the node generates it, else as last accepted. -/
def refFlags (s : State) (r : Ring) : MarkerFlags := if generates s r then (s.lineOf r).sentFlags else (s.trackOf r).flags

/-- The sheet that governs the present stream cycle of a ring: the one its marker's BANK names (R101). -/
def State.ringSheet (s : State) (r : Ring) : Option CueSheet :=
  if s.cue.placed && (generates s r || (s.trackOf r).seen) then s.sheetAt (refFlags s r).bank else s.sheet

/-- The words of a cycle of 10 ms (R484). -/
def intmWords : Nat := 3125000

/-- The length of a cycle as the ring showed it (R570). -/
def shownWords (t : RingTrack) (k : DWord) : Option Nat := (t.measured.find? fun x => decide (x.1 = k)).map (·.2)

/-- The length of a cycle in words before SLEW: by CUE_LENQ (R62), or by the fourth cycle before it as the ring showed it
(R570; notes/assumptions/13.md); none while that has not been measured. -/
def baseWords (s : State) (r : Ring) (k : DWord) : Option Nat :=
  match s.ringSheet r with
  | some c => some (8 * cycleSteps c.lenq k.toNat)
  | none => shownWords (s.trackOf r) (k - 4)

/-- The length of the cycle whose marker had these flags (R62, R65, R66, R484). -/
def cycleWords (s : State) (r : Ring) (k : DWord) (f : MarkerFlags) : Option Nat :=
  if f.intm then some intmWords
  else match baseWords s r k with
    | none => none
    | some n => some (if f.slew = 1 then n - 8 else if f.slew = 2 then n + 8 else n)

/-- E of the sheet that governs the stream cycle, or as measured (R63, R570). -/
def eventStart (s : State) (r : Ring) : Nat :=
  match s.ringSheet r with
  | some c => c.evpos
  | none => (s.trackOf r).measuredE

/-- Where the next marker is expected (R66), as an instant. -/
def expectedAt (s : State) (r : Ring) : Option Nat :=
  let t := s.trackOf r
  if !t.seen then none
  else match cycleWords s r t.cycle t.flags with
    | none => none
    | some n => some (t.at_ + n * wordT)

/-- The instant of position 0 of the outgoing stream cycle, and its cycle (R66, R84, R87). -/
def refAt (s : State) (r : Ring) : Nat := if generates s r then (s.lineOf r).sentAt else (s.trackOf r).at_
def refCycle (s : State) (r : Ring) : DWord := if generates s r then (s.lineOf r).sentCycle else (s.trackOf r).cycle

/-- The present position of a ring's stream. -/
def positionOf (s : State) (r : Ring) : Nat := (s.now - refAt s r) / wordT

/-- The event region of the outgoing stream, as the instants of its first word and of its end: by position where the node generates the
stream, else from the SB word until the node's own hop band (R63, R67). -/
def eventSpan (s : State) (r : Ring) : Option (Nat × Nat) :=
  if generates s r then
    match cycleWords s r (refCycle s r) (refFlags s r) with
    | none => none
    | some n => some (refAt s r + (eventStart s r + 1) * wordT, refAt s r + (n - 8) * wordT)
  else if (s.stream r).open_ && !(s.stream r).ended then some (0, s.now + wordT)
  else none

/-- The event region of the outgoing stream is open on a ring. -/
def eventOpen (s : State) (r : Ring) : Bool := match eventSpan s r with
  | none => false
  | some (a, b) => decide (a ≤ s.now) && decide (s.now < b)

/-- Four cycles in a row have been measured (R570). -/
def fourShown (t : RingTrack) : Bool := [1, 2, 3, 4].all fun i => (shownWords t (t.cycle - BitVec.ofNat 32 i)).isSome

/-- The node runs cycles on a ring (R38, R87, R570): it drives its stream, or a marker has been accepted since the port reached
UP, and it knows their length. -/
def runsCycle (s : State) (r : Ring) : Bool :=
  drives s r || ((s.link r.inPort).inUse && (s.sheet.isSome || fourShown (s.trackOf r)))

/-- The guardian keeps all insertion closed but hop-local words (R85). -/
def guardShut (s : State) : Bool := s.cue.guard.shut || s.cue.guard.dead

/-- A core's words reach the insertion path: the multiplexer passes the accepted core's (R82, R396, R399); no insertion in
the dark-node state, nor after it until a marker is accepted (R430, R433). -/
def inserter (s : State) : Option Core := if s.darkPath || s.dark.reopen then none else s.accepted

/-- Regions of GRD_LAST_INFO (R107). -/
abbrev rgMarker : Nat := 0
abbrev rgTimed : Nat := 1
abbrev rgSB : Nat := 2
abbrev rgEvent : Nat := 3
abbrev rgHop : Nat := 4

/-- A blocked attempt (R83): counted, recorded, one NOTE fault with ring and region. -/
def guardBlock (s : State) (r : Ring) (region pos : Nat) (c : Core) : State :=
  let s1 := if region = rgTimed then s.bump GRD_BLOCK else s.bump GRD_BLOCK_X
  let info := bitW (decide (r = .b)) 15 ||| putFld region 14 12 ||| bitW (decide (c = .c1)) 11
  ((s1.setReg GRD_LAST_POS (wd pos)).setReg GRD_LAST_INFO info).raise Src.guardBlock (r.ix.val * 8 + region)

/-- The SB word with value 0x01 is due on a ring: the node generates the stream, the position has come, and the word has not been sent
in this stream cycle (R63). -/
def sbDue (s : State) (r : Ring) : Bool :=
  generates s r && decide ((s.lineOf r).sbCycle ≠ some (refCycle s r)) && decide (eventStart s r ≤ positionOf s r) &&
  (inserter s).isSome

/-! What a transmitter sends (R39, R44, R48, R50, R60). -/

/-- LNK_CTRL enables the port. -/
def portEnabled (s : State) (p : Port) : Bool := s.bit LNK_CTRL (match p with | .west => 15 | .east => 14)

/-- The port is held in DOWN: by flap damping (R48), the PORT reaction (R420) or the dark-node state (R431). -/
def portHeld (s : State) (p : Port) : Bool := (s.link p).held || (s.link p).faultHeld || vget s.dark.heldPorts p.ix

/-- What the transmitter of a port sends, by the port's state (R44). -/
def portSends (s : State) (p : Port) : Sends :=
  match (s.link p).state with
  | .up | .degraded => .traffic
  | .sync => .idleLs
  | .training => .training
  | .down => if !portEnabled s p || portHeld s p then .electricalIdle else .training

/-- A receive lane of the port is locked. -/
def portLocked (s : State) (p : Port) : Bool := (s.link p).lanes.toList.any (·.locked)

/-- The source of a port's transmit frequency, by the node's role for the ring that leaves there (R39): the active prompter's own
reference, the same ring's receive lanes, or the other ring's at a line head; where those have no lock the lanes of the other
port, and REFCLK_R where no lane has (notes/assumptions/120.md). -/
def txSource (s : State) (p : Port) : FreqSource :=
  let r := p.outRing
  let first := if (s.lineOf r).head then r.outPort else r.inPort
  let second := if (s.lineOf r).head then r.inPort else r.outPort
  if s.prompting then .own
  else if portLocked s first then .lanes first
  else if portLocked s second then .lanes second
  else .refclk

/-- A source this far from REFCLK_R, in parts in 10^9, is a loss of lock (R39). -/
def outOfRange (ppb : Int) : Bool := decide (100000 < ppb.natAbs)

/-- The LS byte of a port (R35). -/
def lsByte (s : State) (p : Port) : Byte :=
  BitVec.ofNat 8 ((s.link p).state.code * 32 + p.ix.val * 16)

/-- Characters of a lane as code groups. -/
def laneCode (inv : Bool) : Bool → List (Bool × Byte) → List Code × Bool
  | rd, [] => ([], rd)
  | rd, c :: t =>
    let g := encodeChar rd c.1 c.2
    let (gs, out) := laneCode inv (afterCode rd g) t
    (polar inv g :: gs, out)

/-- The sixteen word times that a port repeats while it carries no traffic, on its two lanes: a block of the training pattern (R50), IDLE
with LS every 16th word in SYNC (R44), nothing in electrical idle. The block of the pattern is the one of the present instant. -/
def portPattern (s : State) (p : Port) : List (Code × Code) × (Bool × Bool) :=
  let l := s.link p
  let rd := (s.stream p.outRing).txRd
  match portSends s p with
  | .training =>
    let n := s.now / (16 * wordT)
    let (a, x) := laneCode (bitOf l.cfg 14) rd.1 (trainingBlock p 0 (vget l.lanes 0) n)
    let (b, y) := laneCode (bitOf l.cfg 15) rd.2 (trainingBlock p 1 (vget l.lanes 1) n)
    (a.zip b, (x, y))
  | .idleLs => lineCode l.cfg rd (.ls (lsByte s p) :: List.replicate 15 .idle)
  | _ => ([], rd)

/-- The node sends words of its own or forwarded words on a ring, as the lanes carry them. A port that carries no traffic sends none of
them: its lanes carry the pattern of its state (R34, R44, R86). -/
def sendWords (s : State) (r : Ring) (ws : List RingWord) : State :=
  let p := r.outPort
  let carries := (s.link p).state.carries
  let (codes, rd) := if carries then lineCode (s.link p).cfg (s.stream r).txRd ws else portPattern s p
  s.updStream r fun x => { x with tx := if carries then ws else [], line := codes, txRd := rd }

/-- Words that leave behind those the same command has sent. -/
def sendMore (s : State) (r : Ring) (ws : List RingWord) : State :=
  let p := r.outPort
  if (s.link p).state.carries then
    let (codes, rd) := lineCode (s.link p).cfg (s.stream r).txRd ws
    s.updStream r fun x => { x with tx := x.tx ++ ws, line := x.line ++ codes, txRd := rd }
  else s

/-- The word of the outgoing event stream that is first in line, and the stream after it: own frames that are leaving, the transit store,
the insertion buffer (R151-R153, R156). -/
def nextWord (x : EventStream) : Option (RingWord × EventStream) :=
  match x.sending with
  | o :: rest => match o.words with
    | w :: t => some (w, { x with sending := if t.isEmpty then rest else { o with words := t } :: rest })
    | [] => none
  | [] => match x.store with
    | b :: t => some (b.1, { x with store := t, inside := b.2 })
    | [] => match x.buffer with
      | b :: t => some (b.1, { x with buffer := t, inside := b.2 })
      | [] => none

/-- At most n words of it. -/
def nextWords : Nat → EventStream → List RingWord × EventStream
  | 0, x => ([], x)
  | n + 1, x => match nextWord x with
    | none => ([], x)
    | some (w, y) =>
      let (ws, z) := nextWords n y
      (w :: ws, z)

/-- Where the node drives the stream itself, the words that have left it by now: one in each word time of the event region (R71, R87,
R151). -/
def dueWords (s : State) (r : Ring) : List RingWord × EventStream :=
  let x := s.stream r
  match eventSpan s r with
  | none => ([], x)
  | some (a, b) =>
    let from_ := max x.outAt a
    let n := (min (s.now + wordT) b - from_) / wordT
    if drives s r then
      let (ws, y) := nextWords n x
      (ws, { y with outAt := from_ + n * wordT })
    else ([], x)

/-- Words of the event region or after it leave on a ring. Where the node drives the stream, those go before them whose word times have come;
at a generator the SB word that opens the region, which has no row of its own, leaves with the first of them (R63, R71, R87;
notes/assumptions/119.md). -/
def sendEvent (s0 : State) (r : Ring) (ws0 : List RingWord) : State :=
  let (due, x) := dueWords s0 r
  let s := s0.updStream r fun _ => x
  let ws := due ++ ws0
  if sbDue s r then
    let s1 := s.updLine r fun l => { l with sbCycle := some (refCycle s r) }
    if guardShut s then guardBlock (sendWords s1 r ws) r rgSB (eventStart s r) ((inserter s).getD .c0)
    else sendWords s1 r (.sb 1 :: ws)
  else sendWords s r ws

end Sys2Proof.Machine
end

