-- ==== Sys2Proof/Machine/Settle.lean ====
section
/-! DEFINITION. What follows at once from every change of State: the rank and the output of each field pin (R302-R311),
the CAN controllers whose transmit pin enters or leaves a gap (R361), the e-fuse channels and their overrides (R454, R461), BYPASS_N (R58) and the announcement of field events to the hub (R222). Every meaning ends with it. -/

namespace Sys2Proof.Machine

/-- TYPE, PULL, GAP and INTM of PIN_CFG, its flags and its toggle code (R339). -/
def pinType (c : PinCfg) : Nat := fld c.cfg 15 14
def pinGapCode (c : PinCfg) : Nat := fld c.cfg 11 10
def pinIntmCode (c : PinCfg) : Nat := fld c.cfg 9 8
def pinActLow (c : PinCfg) : Bool := bitOf c.cfg 7
def pinToggle (c : PinCfg) : Nat := fld c.cfg 5 2
def pinLine (c : PinCfg) : Bool := bitOf c.cfg 1

/-- GOVERNED pins (R308). -/
def pinGoverned (c : PinCfg) : Bool := !pinLine c || decide (c.src = 6)

/-- A pin with SRC 0 or TYPE analog is never driven (R307). -/
def pinDriven (c : PinCfg) : Bool := decide (c.src ≠ 0) && decide (pinType c ≠ 2)

/-- The logical engine a pin's source belongs to, for SRC 1, 2 and 3 (R308 rank 5). -/
def pinEngine (cl : Cluster) (c : PinCfg) : Option Nat :=
  if c.src = 1 then some c.index
  else if c.src = 2 ∨ c.src = 3 then
    match cl.cfg with
    | none => none
    | some g => (g.pacers[c.index]?).getD none
  else none

/-- The engine is shed, or its pins wait for a latch instant after it (R308 rank 5). -/
def engineShed (cl : Cluster) (e : Nat) : Bool :=
  match place? 14 e with
  | none => false
  | some i => decide ((vget cl.engines i).run = .shed) || cl.shedHold.getLsbD e

/-- The boundary register holds the field pins (R507). -/
def State.fextest (s : State) : Bool := decide (s.dbg.tap = .fextest) && s.bit DBG_CTRL 13

/-- The rank of R308 that governs a pin. A pin that is never driven is in no rank once its section is applied. -/
def pinRank (s : State) (k : Fin 144) : Nat :=
  let cl := s.cl (pinCluster k)
  match s.pinCfg k with
  | none => 1
  | some c =>
    if s.start.fieldReset then 1
    else if !pinDriven c then 9
    else if s.fmodes.dark || s.dark.outHold || s.fextest then 2
    else if cl.offHold then 3
    else if s.fintm || s.host.intmHold then 4
    else if (match pinEngine cl c with | none => false | some e => engineShed cl e) then 5
    else if pinGoverned c && (s.fieldAccepted.isNone || s.claimGap) then 6
    else if pinGoverned c && s.timeGap then 7
    else if decide (c.src = 6) && cl.imgGap then 8
    else 9

/-- A cue pulse unit of a cluster. -/
def unitOf (n : Fin 12) (i : Nat) : Fin 24 := ⟨2 * n.val + i % 2, by omega⟩

/-- The level a cue pulse unit drives on local pin j: the active level of a pulse under way on that pin, else the inactive
level of the last POL (R130). -/
def unitLevel (u : PulseUnit) (j : Nat) : Bool :=
  let low := match u.prog with
    | some p => p.low
    | none => u.lastLow
  match u.active with
  | some (pin, l) => if pin = j then !l else low
  | none => low

/-- Level and drive of a pin's source (R241, R307). The bits of a CAN frame are not modelled: its pin is recessive. -/
def sourceOut (s : State) (k : Fin 144) (c : PinCfg) : Bool × Bool :=
  let cl := s.cl (pinCluster k)
  let p := s.pin k
  match c.src with
  | 1 => (p.latch, p.drive)
  | 2 => match place? 16 c.index with
    | some i => ((vget cl.pacers i).dataOut, true)
    | none => (false, false)
  | 3 => match place? 16 c.index with
    | some i => ((vget cl.pacers i).clkOut, true)
    | none => (false, false)
  | 4 => (unitLevel (vget s.pulses (unitOf (pinCluster k) c.index)) (pinLocal k).val, true)
  | 5 => (true, true)
  | 6 => (p.image, true)
  | _ => (false, false)

/-- An open-drain pin sinks for low and releases for high (R303). -/
def openDrain (c : PinCfg) (o : Bool × Bool) : Bool × Bool :=
  if pinType c = 1 then (o.1, o.2 && !o.1) else o

/-- The gap value of a code (R309). -/
def gapOut (c : PinCfg) (code : Nat) (held : Bool × Bool) : Bool × Bool :=
  match code with
  | 0 => held
  | 1 => openDrain c (pinActLow c, true)
  | 2 => openDrain c (!pinActLow c, true)
  | _ => (false, false)

/-- What a pin puts on its ball, given its rank and the output held for HOLD (R308, R309, R311). -/
def pinOut (s : State) (k : Fin 144) (rank : Nat) (held : Bool × Bool) : Bool × Bool :=
  match s.pinCfg k with
  | none => (false, false)
  | some c =>
    if rank = 1 ∨ !pinDriven c then (false, false)
    else if rank = 9 then openDrain c (sourceOut s k c)
    else if s.fextest then ((s.dbg.fieldChain[k.val]?).getD false, true)
    else if rank = 4 then gapOut c (pinIntmCode c) held
    else gapOut c (if s.cmp.inpub.isSome then 0 else pinGapCode c) held

/-- One pin after a change of State. -/
def settlePin (s : State) (k : Fin 144) : Pin :=
  let p := s.pin k
  let r := pinRank s k
  let held := if p.rank = 9 ∧ r ≠ 9 then p.out else p.held
  { p with rank := r, held := held, out := pinOut s k r held }

/-- The holds of one cluster while there has been no latch instant: offline ends when the cluster is online, shed when the
engine is bound again. -/
def releaseCluster (c : Cluster) : Cluster := { c with offHold := c.offHold && !c.online, shedHold := 0 }

/-- Gap conditions that last until a latch instant end with their condition while there has been no latch instant since
reset (R308). -/
def settleHolds (s : State) : State :=
  let firstLock := !s.start.latched && s.fmodes.locked
  { s with
    claimGap := s.fieldAccepted.isNone || (s.claimGap && s.start.latched)
    timeGap := s.timeGap && !firstLock
    clusters := if s.start.latched then s.clusters else s.clusters.map releaseCluster
    dark := { s.dark with outHold := s.dark.outHold && s.start.latched }
    host := { s.host with intmHold := s.host.intmHold && s.start.latched } }

/-- PIN_EVT of one block of 48 pins: GAP_IN for a pin that entered ranks 2-8, GAP_OUT for one that returned to its
source (R339). -/
def gapEvents (old new : State) (b : Fin 3) : State → State := fun s =>
  let ks := (List.range 48).filterMap fun j => place? 144 (48 * b.val + j)
  let inside (r : Nat) : Bool := decide (2 ≤ r) && decide (r ≤ 8)
  let entered := ks.any fun k => inside (new.pin k).rank && !inside (old.pin k).rank
  let left := ks.any fun k => decide ((new.pin k).rank = 9) && decide ((old.pin k).rank ≠ 9) &&
    (match new.pinCfg k with | none => false | some c => pinDriven c)
  let s := if entered then s.evt (PIN_EVT b.val) 13 else s
  if left then s.evt (PIN_EVT b.val) 12 else s

/-- Every pin takes the rank R308 gives it and the output that rank gives. -/
def settlePins (s : State) : State :=
  let s1 := { s with pins := Vector.ofFn fun k => settlePin s k }
  gapEvents s s1 0 (gapEvents s s1 1 (gapEvents s s1 2 s1))

/-- The transmit pin of CAN controller c: a pin with SRC 5 and INDEX c of the cluster CAN_PINS named at enable (R342). -/
def canTxPin (s : State) (c : Fin 4) : Option (Fin 144) :=
  let pins := ((s.can c).conf[1]?).getD (s.reg (CAN_PINS c.val))
  match place? 12 (fld pins 11 8) with
  | none => none
  | some n => ((List.finRange 12).map (pinOf n)).find? fun k =>
      match s.pinCfg k with
      | none => false
      | some g => decide (g.src = 5) && decide (g.index = c.val)

/-- R361: the transmit pin is in a rank other than 9; a controller without a transmit pin is not in a gap. -/
def canGap (s : State) (c : Fin 4) : Bool :=
  match canTxPin s c with
  | none => false
  | some k => decide ((s.pin k).rank ≠ 9)

/-- CAN_GAP_ABORT (R361): the controller stops driving and abandons the frame, which stays at the head; when the pin is
back at rank 9 it integrates. -/
def settleCan (s : State) (c : Fin 4) : State :=
  let x := s.can c
  if x.phase = .off then s
  else if canGap s c then
    if x.phase = .gap then s
    else
      let s1 := s.updCan c fun x => { x with phase := .gap, txBusy := false }
      let s2 := (if x.txBusy then s1.bump (CAN_GAPABT c.val) else s1).evt (CAN_EVT c.val) 2
      s2.raise (Src.can c.val 4) c.val
  else if x.phase = .gap then s.updCan c fun x => { x with phase := .integrating }
  else s

/-- An enabled event of a block: an event register masked by its IRQ_EN register (R222). -/
def State.pend (s : State) (evt en : Nat) : Bool := decide (s.reg evt &&& s.reg en ≠ 0)

/-- The spotlight buffer's own signal (R351) and the events of a CAN controller. -/
def canPend (s : State) (c : Fin 4) : Bool :=
  s.pend (CAN_EVT c.val) (CAN_IRQ_EN c.val) || (s.bit (CAN_CTRL c.val) 9 && !(s.can c).spot.isEmpty)

/-- SIG_PEND_L as the field die sees it (R235). -/
def livePendL (s : State) : Word :=
  bitW (s.pend PLS_EVT PLS_IRQ_EN) 15 ||| bitW (canPend s 0) 14 ||| bitW (canPend s 1) 13 ||| bitW (canPend s 2) 12 |||
  bitW (canPend s 3) 11 ||| bitW (s.pend PWR_EVT PWR_IRQ_EN || s.pend PWR_EF_EVT PWR_EF_IRQ_EN) 10 |||
  bitW (s.pend ADC_EVT ADC_IRQ_EN) 9 ||| bitW ((List.range 12).any fun n => s.pend (CLU_EVT n) (CLU_IRQ_EN n)) 8 |||
  bitW ((List.range 3).any fun b => s.pend (PIN_EVT b) (PIN_IRQ_EN b)) 7 |||
  bitW (s.pend FI_STAT FI_IRQ_EN) 6

/-- SIG_PEND_C as the field die sees it: the OR of CLU_ESIG of each cluster (R252). -/
def livePendC (s : State) : Word :=
  (List.range 12).foldl (fun w n => w ||| bitW (decide (s.reg (CLU_ESIG n) ≠ 0)) n) 0

/-- The hub core whose own registers an access sees where both cores hold them: the accepted one, else core 0 (R437). -/
def hubCore (s : State) : Core := s.accepted.getD .c0

/-- SIG_PEND_H (R222, R235). -/
def pendH (s : State) : Word :=
  bitW (decide (s.reg LNK_EVT ≠ 0)) 15 ||| bitW (s.pend CUE_EVT CUE_IRQ_EN) 14 ||| bitW (s.pend TIM_EVT TIM_IRQ_EN) 13 |||
  bitW (s.pend SWQ_EVT SWQ_IRQ_EN) 12 ||| bitW (s.pend FAB_EVT FAB_IRQ_EN) 11 ||| bitW (s.pend BRG_EVT BRG_IRQ_EN) 10 |||
  bitW (s.pend LU_EVT LU_IRQ_EN) 9 |||
  bitW (decide (s.regSel FLT_EVT (hubCore s).ix.val &&& s.reg FLT_IRQ_EN ≠ 0)) 8 |||
  bitW (s.pend RST_EVT RST_IRQ_EN) 7 ||| bitW (s.pend HST_EVT HST_IRQ_EN) 6 ||| bitW (s.pend DBG_EVT DBG_IRQ_EN) 5 |||
  bitW (!s.brg.inbox.isEmpty) 4 ||| bitW (s.pend CMP_EVT CMP_IRQ_EN) 3

/-- HUB_IRQ_N is asserted (R222). -/
def irqAsserted (s : State) : Bool :=
  s.bit SIG_CTRL 15 &&
  (decide (pendH s &&& s.reg SIG_EN_H ≠ 0) || decide (s.heard.1 &&& s.reg SIG_EN_L ≠ 0) ||
   decide (s.heard.2 &&& s.reg SIG_EN_C ≠ 0))

/-- The source bit an entry of the signal forwarder names (R221, R235). -/
def fwdSource (s : State) (cfg : Word) : Bool :=
  let i := fld cfg 5 0
  if i < 16 then bitOf (pendH s) i
  else if i < 32 then bitOf s.heard.1 (i - 16)
  else if i < 44 then bitOf s.heard.2 (i - 32)
  else false

/-- A change of the field events becomes ready as a SIGNAL message (R14, R222). -/
def settleSignals (s : State) : State :=
  let live := (livePendL s, livePendC s)
  if live = s.told then s
  else { s.barReady .fh .signal (.event live.1 live.2) with told := live }

/-- The modes the host die has to tell the field die (R14, R116, R127, R430, R485). -/
def liveModes (s : State) : FieldModes where
  dark := s.dark.dark
  intm := decide (s.host.intm = .inside) || (decide (s.host.intm = .pending) && s.cue.flags.intm)
  gap := s.time.gap || s.time.stepGap
  locked := s.time.locked && s.time.stepDue.isNone && !s.time.hold

/-- A change of the modes becomes ready as a SIGNAL message (R14). -/
def settleModes (s : State) : State :=
  if liveModes s = s.modesTold then s
  else { s.barReady .hf .signal (.modes (liveModes s)) with modesTold := liveModes s }

/-- The node is ranged on a ring (R114): its receive port up, 16 echo exchanges in its own echo result, and the last report
from upstream VALID; not as active prompter, nor as line head of the ring. -/
def ranged (s : State) (r : Ring) : Bool :=
  (s.link r.inPort).state.carries && decide ((vget s.time.echo r.inPort.ix).results.length ≥ 16) &&
  (match (vget s.time.rings r.ix).report with | none => false | some x => x.valid) &&
  !s.cue.prompter.active && !(vget s.cue.lines r.ix).head

/-- Chain hops by a ring: those of the upstream report (R111). -/
def chainHops (s : State) (r : Ring) : Nat := match (vget s.time.rings r.ix).report with | none => 0 | some x => x.hops

/-- The ring may be used for discipline: it is ranged, and TIM_CFG.RING does not name the other one (R115). -/
def mayDiscipline (s : State) (r : Ring) : Bool :=
  ranged s r && (match s.fld TIM_CFG 13 12 with | 1 => decide (r = .a) | 2 => decide (r = .b) | _ => true)

/-- The discipline ring (R115): of the rings that may be used the one with fewer chain hops, ring A on a tie. DESIGN CHOICE: the chosen ring
becomes unusable when the node ceases to be ranged on it or TIM_CFG.RING names the other, and by nothing else
(notes/assumptions/126.md). -/
def discRing (s : State) : Option Ring :=
  match mayDiscipline s .a, mayDiscipline s .b with
  | true, true => if chainHops s .a ≤ chainHops s .b then some .a else some .b
  | true, false => some .a
  | false, true => some .b
  | false, false => none

/-- TIM_EVT.RANGED and UNRANGED where a ring becomes or ceases to be ranged (R114). -/
def settleRange (r : Ring) (s : State) : State :=
  let x := vget s.time.rings r.ix
  let now := ranged s r
  if now = x.ranged then s
  else ({ s with time := { s.time with rings := vset s.time.rings r.ix { x with ranged := now } } }).evt TIM_EVT
    (if now then 9 else 8)

/-- The active prompter is locked; a node without a discipline ring is not (R117). -/
def settleLock (s : State) : State :=
  let ok := s.cue.prompter.active || (s.time.locked && (discRing s).isSome)
  { s with time := { s.time with locked := ok, everLocked := s.time.everLocked || s.cue.prompter.active } }

/-- A forwarding entry whose source bit has fallen may send again at its next rise (R221). -/
def settleFwd (s : State) : State :=
  let up (i : Fin 8) : Bool :=
    let c := s.regSel SIG_FWD_SRC i.val
    fwdSource s c
  let off (i : Fin 8) : Bool := !bitOf (s.regSel SIG_FWD_SRC i.val) 15
  { s with brg := { s.brg with fwdSeen := Vector.ofFn fun i => (vget s.brg.fwdSeen i || off i) && up i } }

/-- An override of R461 keeps an e-fuse channel off: DARK and INTM as the power die has heard them, HU while the power
path is not in FEED. -/
def fuseHeld (s : State) (c : Nat) : Bool :=
  let cfg := s.regSel PWR_EF_CFG c
  (bitOf cfg 15 && s.power.heardDark) || (bitOf cfg 14 && s.power.heardIntm) || (bitOf cfg 13 && decide (s.power.path ≠ .feed))

/-- PWR_EF_ON commands a channel on; before the PWR section is applied every channel is off (R446, R454). -/
def fuseOn (s : State) (c : Nat) : Bool := s.power.sectioned && s.power.started && s.bit PWR_EF_ON c

/-- What a channel does on its command and its overrides (R454, R460, R461, R465), and whether it is newly due to start.
A is cleared when it turns off (R456); a lockout outlasts an override. -/
def fuseFollow (s : State) (c : Nat) (f : Fuse) : Fuse × Bool :=
  let on := fuseOn s c
  let off : Fuse := { f with phase := .off, acc := ⟨0, 1⟩, retryDue := false, delayDone := false }
  if !s.power.sectioned || !s.power.started then (off, false)
  else if f.phase = .locked then (f, false)
  else if fuseHeld s c then
    ({ f with phase := .held, acc := ⟨0, 1⟩, retryDue := on && (f.retryDue || decide (f.phase = .tripped)) }, false)
  else if !on then (off, false)
  else match f.phase with
    | .held => if f.retryDue then ({ f with phase := .tripped, retryDue := false }, false) else ({ f with phase := .wait }, true)
    | .off => ({ f with phase := .wait }, true)
    | _ => (f, false)

/-- The channels follow; of those due at one instant the lowest ramps at once, the others wait their turn (R454). -/
def settleFuses (s : State) : State :=
  let p := s.power
  let p1 := if p.link then { p with heardDark := s.fmodes.dark || s.dark.outHold, heardIntm := s.fintm } else p
  let s1 := { s with power := p1 }
  let next := Vector.ofFn fun c : Fin 16 => fuseFollow s1 c.val (vget p.fuses c)
  let first := (List.finRange 16).find? fun c => (vget next c).2
  let fuse (c : Fin 16) : Fuse :=
    let f := (vget next c).1
    if first = some c then { f with phase := .ramp } else f
  { s with power := { p1 with fuses := Vector.ofFn fuse } }

/-- BYPASS_N (R58). -/
def bypassLow (s : State) : Bool :=
  if 3 ≤ s.power.cfStep ∨ s.start.resetLow then true
  else if !s.start.lnkApplied then !s.start.warm || s.start.bypassLow
  else if s.dark.dark then s.start.bypassLow
  else s.bit LNK_BYP 15 && s.bit LNK_BYP 14
def settleBypass (s : State) : State := { s with start := { s.start with bypassLow := bypassLow s } }

/-- Everything that follows at once from a change of State. -/
def settle (s : State) : State :=
  let s1 := settleBypass <| settleFuses (settleHolds (settleLock (settleRange .b (settleRange .a s))))
  let s2 := settleSignals ((List.finRange 4).foldl settleCan (settlePins (settleModes s1)))
  settleFwd s2

/-- The answer of a meaning: the next state. -/
def done (s : State) : Out := .next (settle s)

end Sys2Proof.Machine
end

