-- ==== Sys2Proof/Machine/Pulses.lean ====
section
/-! DEFINITION. Cue pulse units (R130-R133, R141, R246) and the edge-stamp FIFOs (R134-R136). -/

namespace Sys2Proof.Machine

/-- The offset of domain B from domain A as extrapolated to this instant (R123, R124); its rate is in 0.01 ppb. -/
def State.domOfs (s : State) : Int :=
  s.time.ofsBA + s.time.ofsRate * ((s.now : Int) - s.time.ofsAt) / 100000000000

/-- A ring time of domain `dom` in the field side's present domain (R124, R133). -/
def State.toFieldDomain (s : State) (dom : Bool) (t : Int) : Int :=
  if dom = s.time.fdom then t
  else if s.time.fdom then t + s.domOfs else t - s.domOfs

/-- The seconds whose low 16 bits are `low` and that lie from 32,768 before to 32,767 after the present (R246, R295). -/
def nearSec (cur low : Nat) : Nat :=
  let d := (low + 65536 - cur % 65536) % 65536
  if d < 32768 then cur + d else cur + d - 65536

/-- What an ARM programs: the CTRL word, T, W, P and CNT (R131, R141, R246). -/
structure PulseReq where
  ctrl : Word
  sec : Nat
  ns : Nat
  width : Nat
  period : Nat
  count : Nat
  deriving DecidableEq, Repr

/-- The cluster of unit u and the owner its section gives the unit (R246). -/
def unitCluster (u : Fin 24) : Fin 12 := ⟨u.val / 2, by omega⟩
def unitOwner (s : State) (u : Fin 24) : Option Nat :=
  match (s.cl (unitCluster u)).cfg with
  | none => none
  | some c => (c.units[u.val % 2]?).getD none

/-- The crossbar routes unit u to local pin j of its cluster: SRC 4 with INDEX u mod 2 (R130). -/
def unitRouted (s : State) (u : Fin 24) (j : Nat) : Bool :=
  match (s.cl (unitCluster u)).cfg with
  | none => false
  | some c => match c.pins[j]? with
    | none => false
    | some p => decide (p.src = 4) && decide (p.index = u.val % 2)

/-- The ARMs that R130 and R131 refuse. -/
def armRefused (s : State) (u : Fin 24) (r : PulseReq) : Bool :=
  let pin := fld r.ctrl 3 0
  decide (r.width < 8) || (bitOf r.ctrl 13 && decide (r.period < r.width + 8)) || decide (r.ns > 999999999) ||
  (decide (pin < 12) && !unitRouted s u pin)

def State.updPu (s : State) (u : Fin 24) (f : PulseUnit → PulseUnit) : State := { s with pulses := vupd s.pulses u f }

/-- Pulses of a train from T on that lie less than 200 ns after the instant `from_` (R132, R133). -/
def latePulses (t from_ : Int) (period done_ : Nat) : Nat :=
  let lim := from_ + 200 * nsT
  let next := t + (done_ * period * nsT : Nat)
  if next ≥ lim then 0
  else if period = 0 then 0
  else ((lim - next + (period * nsT : Nat) - 1) / (period * nsT : Nat)).toNat

/-- A program whose first pulses are late: a single pulse is not produced, a train skips them (R132). Answers the program
left and the pulses skipped. -/
def skipLate (p : PulseProg) (from_ : Int) : Option PulseProg × Nat :=
  if !p.periodic then (if p.t < from_ + 200 * nsT then (none, 0) else (some p, 0))
  else
    let k := latePulses p.t from_ p.period p.done
    let left := if p.count ≠ 0 ∧ p.done + k ≥ p.count then none else some { p with done := p.done + k }
    (left, if p.count ≠ 0 then min k (p.count - p.done) else k)

/-- PULSE_LATE (R132): STAT.LATE, PLS_EVT.PU_LATE, the skipped pulses counted, a NOTE fault. -/
def pulseLate (s : State) (u : Fin 24) (skipped : Nat) : State :=
  (((s.updPu u fun x => { x with late := true }).countSel PLS_PU_SKIP u.val skipped).evt PLS_EVT 15).raise
    Src.pulseLate u.val

/-- ARM (R130-R133): a refused ARM leaves the unit as it was; else it replaces the unit's program at once. -/
def puArm (s : State) (u : Fin 24) (r : PulseReq) : State :=
  if armRefused s u r then s.updPu u fun x => { x with refused := true }
  else
    let conv := bitOf r.ctrl 11 != s.time.fdom
    let low := bitOf r.ctrl 12
    let p : PulseProg :=
      ⟨s.toFieldDomain (bitOf r.ctrl 11) (ringOf r.sec r.ns), r.width, r.period, r.count, bitOf r.ctrl 13, low,
        fld r.ctrl 3 0, 0⟩
    let isLate := decide (p.t < s.fring + 200 * nsT)
    let (left, skipped) := skipLate p s.fring
    let s1 := s.updPu u fun x => { x with prog := left, lastLow := low, late := false, conv := conv, refused := false }
    let s2 := if conv then s1.evt PLS_EVT 14 else s1
    if isLate then pulseLate s2 u skipped else s2

/-- STOP: the program ends, a pulse under way completes (R133). -/
def puStop (s : State) (u : Fin 24) : State :=
  s.updPu u fun x => { x with prog := none }

/-- The staging registers of a path (R141). -/
def pathReq (s : State) (path : Nat) (ctrl : Word) : PulseReq where
  ctrl := ctrl
  sec := ofWords [s.regSel PLS_PU_T_SEC_H path, s.regSel PLS_PU_T_SEC_M path, s.regSel PLS_PU_T_SEC_L path]
  ns := ofWords [s.regSel PLS_PU_T_NS_H path, s.regSel PLS_PU_T_NS_L path]
  width := ofWords [s.regSel PLS_PU_WID_H path, s.regSel PLS_PU_WID_L path]
  period := ofWords [s.regSel PLS_PU_PER_H path, s.regSel PLS_PU_PER_L path]
  count := (s.regSel PLS_PU_CNT path).toNat

/-- A host write of PLS_PU_CTRL: the fields are staged for the path, then ARM or STOP acts on the path's unit, and both
together are a STOP; a unit bound to an engine ignores them with REFUSED (R141, R246). -/
def puCtrlWrite (s : State) (path : Nat) (v : Word) : State :=
  match place? 24 (fld (s.regSel PLS_PU_SEL path) 4 0) with
  | none => s
  | some u =>
    let s1 := s.setRegSel PLS_PU_CTRL path (v &&& 0x380F)
    if !(bitOf v 15 || bitOf v 14) then s1
    else if (unitOwner s1 u).isSome then s1.updPu u fun x => { x with refused := true }
    else if bitOf v 14 then puStop s1 u
    else puArm s1 u (pathReq s1 path (v &&& 0x380F))

/-- PLS_PU_STAT (R141). -/
def puStat (x : PulseUnit) : Word :=
  bitW x.prog.isSome 15 ||| bitW x.late 14 ||| bitW x.active.isSome 13 ||| bitW x.conv 12 ||| bitW x.refused 11

/-- The program has a pulse still to produce. -/
def pulseDue (p : PulseProg) : Bool :=
  if p.periodic then decide (p.count = 0) || decide (p.done < p.count) else decide (p.done = 0)

/-- Row PU_ARM: an ARM of unit u by a path, with the values it has staged (R131). -/
def execPuArm (path : Path) (u : Fin 24) (t : Nat) (s : State) : Out :=
  let s1 := s.at t
  done (if (unitOwner s1 u).isSome then s1.updPu u fun x => { x with refused := true }
    else puArm s1 u (pathReq s1 path.code (s1.regSel PLS_PU_CTRL path.code &&& 0x380F)))

/-- Row PU_STOP (R133, R246). -/
def execPuStop (u : Fin 24) (t : Nat) (s : State) : Out :=
  let s1 := s.at t
  done (if (unitOwner s1 u).isSome then s1.updPu u fun x => { x with refused := true } else puStop s1 u)

/-- Row PULSE_LEADING_EDGE (R131): the unit drives the leading edge of its next pulse. -/
def execPulseLeadingEdge (u : Fin 24) (t : Nat) (s : State) : Out :=
  let s1 := s.at t
  let x := vget s1.pulses u
  done (match x.prog, x.active with
    | some p, none =>
      if pulseDue p then s1.updPu u fun x => { x with active := some (p.pin, p.low), prog := some { p with done := p.done + 1 } }
      else s1
    | _, _ => s1)

/-- Row PULSE_TRAILING_EDGE (R131): the pulse ends after W; the program ends with its last pulse. -/
def execPulseTrailingEdge (u : Fin 24) (t : Nat) (s : State) : Out :=
  let s1 := s.at t
  let x := vget s1.pulses u
  done (match x.active with
    | none => s1
    | some _ => s1.updPu u fun x =>
      { x with active := none, prog := match x.prog with
        | some p => if pulseDue p then some p else none
        | none => none })

/-- The programs of all units after a forward step of the timekeeper, measured from the instant of the step; the second
clause of R133 holds by itself, since pulses produced are counted. -/
def pulsesStep (s : State) : State :=
  s.each (List.finRange 24) fun s u =>
    match (vget s.pulses u).prog with
    | none => s
    | some p =>
      let next := p.t + (p.done * p.period * nsT : Nat)
      if next ≥ s.fring ∨ !pulseDue p then s
      else
        let (left, k) := skipLate p s.fring
        pulseLate (s.updPu u fun x => { x with prog := left }) u k

/-- The programs of all units re-expressed at a domain switch by `d` (R124, R133). -/
def pulsesConvert (s : State) (d : Int) : State :=
  s.each (List.finRange 24) fun s u =>
    match (vget s.pulses u).prog with
    | none => s
    | some p => (s.updPu u fun x => { x with prog := some { p with t := p.t + d }, conv := true }).evt PLS_EVT 14

/-- Cluster n's FIFO. -/
def State.fifo (s : State) (n : Fin 12) : EdgeFifo := vget s.edges n
def State.updFifo (s : State) (n : Fin 12) (f : EdgeFifo → EdgeFifo) : State := { s with edges := vupd s.edges n f }

/-- A stamp is discarded or unresolved: LOST counts, saturating at 255 (R134, R135). -/
def countLost (s : State) (n : Fin 12) : State :=
  let v := s.reg (PLS_ES_LVL n.val)
  s.setReg (PLS_ES_LVL n.val) (putFld (satAdd 255 (fld v 15 8) 1) 15 8)

/-- The four words of an entry (R135). -/
def stampWords (e : EdgeStamp) : List Word :=
  let ns := nsOf e.time
  [bitW e.dom 15 ||| bitW e.hold 14 ||| bitW e.rising 13 ||| bitW e.ovf 12 ||| putFld e.pin 3 0,
   wd (secOf e.time), wd (ns / 65536), wd ns]

/-- A stamp enters the cluster's FIFO of 64 entries, or is discarded and counted (R134, R135). -/
def stampEnter (s : State) (n : Fin 12) (e : EdgeStamp) : State :=
  let f := s.fifo n
  if f.entries.length < 64 then
    let s1 := s.updFifo n fun f => { entries := f.entries ++ [{ e with ovf := f.lostSince }], lostSince := false }
    s1.barReady .fh .imageIn (.stamp n.val (stampWords { e with ovf := f.lostSince }))
  else ((countLost (s.updFifo n fun f => { f with lostSince := true }) n).evt PLS_EVT n.val).raise Src.edgeLoss n.val

/-- A pop of a FIFO: the words of the head entry, or EMPTY and zeros (R135, R136). -/
def fifoPop (s : State) (n : Fin 12) : List Word × State :=
  match (s.fifo n).entries with
  | [] => ([bitW true 11, 0, 0, 0], s)
  | e :: t => (stampWords e, s.updFifo n fun f => { f with entries := t })

end Sys2Proof.Machine
end

