-- ==== Sys2Proof/Machine/ClusterOps.lean ====
section
/-! DEFINITION. The operations of a cluster's scheduler that instructions, faults and commands share: memory words with
their ECC marks (R265), spares and binding (R239), start and restart (R262, R276), halting, the lock (R259), beginning a
migration (R267-R270) and shedding. -/

namespace Sys2Proof.Machine

/-- A word carries the mark of an uncorrectable error (R265). -/
def State.marked (s : State) (a : Nat) : Bool := s.marks.contains a

/-- A store of a whole word writes fresh check bits and clears the mark (R265). -/
def State.storeWord (s : State) (a : Nat) (v : Word) : State :=
  { s.setWord a v with marks := s.marks.filter (· ≠ a) }

/-- A copied word keeps its mark (R265). -/
def State.copyWord (s : State) (src dst : Nat) : State :=
  let s1 := s.storeWord dst (s.word src)
  if s.marked src then { s1 with marks := s1.marks ++ [dst] } else s1

def State.storeWords (s : State) (a : Nat) : List Word → State
  | [] => s
  | v :: t => (s.storeWord a v).storeWords (a + 2) t

/-- CLU_EVT bits (R274). -/
abbrev cluMIG : Nat := 15
abbrev cluFORCED : Nat := 14
abbrev cluRETIRE : Nat := 13
abbrev cluREPAIR : Nat := 12
abbrev cluSHED : Nat := 11
abbrev cluNOSPARE : Nat := 10
abbrev cluWDOG : Nat := 9
abbrev cluWDRESTART : Nat := 8
abbrev cluDLMISS : Nat := 7
abbrev cluWRITER : Nat := 6
abbrev cluCDT_TMO : Nat := 5
abbrev cluCDT_DROP : Nat := 4
abbrev cluIMGLATE : Nat := 3
abbrev cluECC_U : Nat := 2
abbrev cluOFFLINE : Nat := 1
abbrev cluPACER : Nat := 0

def State.cluEvt (s : State) (n : Fin 12) (b : Nat) : State := s.evt (CLU_EVT n.val) b

/-- A cluster fault: entry e of R569's cluster group, with DETAIL. -/
def State.cluRaise (s : State) (n : Fin 12) (e detail : Nat) : State := s.raise (Src.clu n.val e) detail

/-- What the section says of logical engine e (R239). -/
def engCfg (c : Cluster) (e : Fin 14) : Option EngineCfg :=
  match c.cfg with
  | none => none
  | some g => g.engines[e.val]?

def engRank (c : Cluster) (e : Fin 14) : Nat := match engCfg c e with | none => 16 | some g => g.rank

/-- Logical engine bound to a physical engine. -/
def boundTo (c : Cluster) (p : Fin 16) : Option (Fin 14) :=
  (List.finRange 14).find? fun e => decide ((vget c.engines e).phys = some p)

/-- A working physical engine: not retired (R239). -/
def working (c : Cluster) (p : Fin 16) : Bool := !(vget c.phys p).retired

/-- A working spare: working, unbound, neither suspect nor under self-test (R267). -/
def isSpare (c : Cluster) (p : Fin 16) : Bool :=
  let x := vget c.phys p
  working c p && (boundTo c p).isNone && !x.suspect && !x.testing

def spare? (c : Cluster) : Option (Fin 16) := (List.finRange 16).find? (isSpare c)

def workingCount (c : Cluster) : Nat := ((List.finRange 16).filter (working c)).length
def spareCount (c : Cluster) : Nat :=
  ((List.finRange 16).filter fun p => working c p && (boundTo c p).isNone).length
def boundCount (c : Cluster) : Nat := ((List.finRange 14).filter fun e => (vget c.engines e).phys.isSome).length

/-- The lock of a cluster leaves its holder (R259). -/
def releaseLock (s : State) (n : Fin 12) (e : Fin 14) : State :=
  let s1 := s.updEng n e fun x => { x with lockCount := 0 }
  if (s.cl n).lock = some e then s1.updCl n fun c => { c with lock := none } else s1

/-- The logical engine halts (R288, R511): CLU_MAP.RUN 0, DETAIL of the trace entry its cause. -/
def haltEngine (s : State) (n : Fin 12) (e : Fin 14) (cause : Nat) : State :=
  (s.updEng n e fun x => { x with run := .halted, haltCause := cause, haltPending := none, stepping := false }).trace
    (clTrace n) 4 e.val cause

/-- Registers, flags, PC, TA, lock and edge latches cleared (R262, R276). -/
def clearEngine (x : Engine) : Engine := { Engine.init with phys := x.phys, run := .running, synced := x.synced }

/-- A restart (R262, R276): data memory, pacers, conduits and pin latches keep; any LOCK is released. -/
def restartEngine (s : State) (n : Fin 12) (e : Fin 14) : State :=
  let s1 := (releaseLock s n e).updEng n e clearEngine
  if (s.cl n).broken = some e then s1.updCl n fun c => { c with broken := none } else s1

/-- The drive enable of each SRC 1 pin of the engine is 1 at a start (R276). -/
def enablePins (s : State) (n : Fin 12) (e : Fin 14) : State :=
  s.each (List.finRange 12) fun s j =>
    match s.pinCfg (pinOf n j) with
    | some c => if c.src = 1 ∧ c.index = e.val then s.updPin (pinOf n j) fun p => { p with drive := true } else s
    | none => s

/-- A logical engine bound to a physical engine and started: its code and the image of its data memory loaded (R239,
R276). -/
def startEngine (s : State) (n : Fin 12) (e : Fin 14) (p : Fin 16) : State :=
  match engCfg (s.cl n) e with
  | none => s
  | some g =>
    let s1 := s.updEng n e fun _ => { Engine.init with phys := some p, run := .running }
    let s2 := s1.fillWords (dataBase n.val p.val) 1024 0
    let keep (a : Nat) : Bool := decide (a < dataBase n.val p.val) || decide (a ≥ dataBase n.val p.val + 0x800)
    let s3 := { s2 with marks := s2.marks.filter keep }
    let s4 := (s3.storeWords (dataBase n.val p.val) (g.data.take 1024)).storeWords (codeBase n.val p.val) (g.code.take 4096)
    enablePins s4 n e

/-- The pacers and the conduits a logical engine owns. -/
def ownedPacers (c : Cluster) (e : Fin 14) : List (Fin 16) :=
  (List.finRange 16).filter fun p => match c.cfg with
    | none => false
    | some g => decide ((g.pacers[p.val]?).getD none = some e.val)
def ownedConduits (c : Cluster) (e : Fin 14) : List (Fin 16) :=
  (List.finRange 16).filter fun q => match c.cfg with
    | none => false
    | some g => match (g.conduits[q.val]?).getD none with
      | none => false
      | some (_, o) => decide (o = e.val)

/-- A pacer stops: its mode is 0 and its shift unit empty (R243, R270). -/
def stopPacer (p : Pacer) : Pacer :=
  { p with cfg := p.cfg &&& 0x3FFF, out := none, inp := [], rxLeft := none, nextPer := none, nextCnt := none }

/-- SHED (R270): the engine is halted and leaves its physical engine, its pacers stop, its conduits are flushed. -/
def shedEngine (s : State) (n : Fin 12) (e : Fin 14) : State :=
  let c := s.cl n
  let s1 := (releaseLock s n e).updEng n e fun x => { x with run := .shed, phys := none, dark := none, stall := none }
  let s2 := s1.each (ownedPacers c e) fun s p => s.updPacer n p stopPacer
  let s3 := s2.each (ownedConduits c e) fun s q => s.updConduit n q fun _ => Conduit.init
  let s4 := s3.updCl n fun c => { c with shedHold := c.shedHold ||| BitVec.ofNat 14 (2 ^ e.val) }
  ((s4.cluEvt n cluSHED).cluRaise n 0x9 e.val).trace (clTrace n) 7 e.val 0

/-- The lowest-ranked logical engine bound with a rank lower than the one given (R270); of equal ranks the highest
number. -/
def shedVictim (c : Cluster) (rank : Nat) : Option (Fin 14) :=
  (List.finRange 14).foldl (fun best e =>
    if (vget c.engines e).phys.isSome ∧ engRank c e > rank then
      match best with
      | none => some e
      | some b => if engRank c e ≥ engRank c b then some e else some b
    else best) none

/-- Step 1 of R267 with its target chosen: CLU_MAP.MOVE is set and the code is copied. -/
def migTo (s : State) (n : Fin 12) (e : Fin 14) (from_ into : Fin 16) (cause : MigCause) : State :=
  let s1 := s.updCl n fun c => { c with mig := some ⟨e, from_, into, cause, false⟩ }
  (List.range 4096).foldl (fun s w => s.copyWord (codeBase n.val from_.val + 2 * w) (codeBase n.val into.val + 2 * w)) s1

/-- A migration of a logical engine begins, where the cluster has none under way; a failure takes over a pending
rotation of the same engine (R272) or waits for another engine's migration, sheds where there is no spare, or sets NOSPARE (R270). Rotation and command need
HOLDMAP at 0 (R240). -/
def migBegin (s : State) (n : Fin 12) (e : Fin 14) (cause : MigCause) : State :=
  let c := s.cl n
  match (vget c.engines e).phys with
  | none => s
  | some p =>
    match c.mig with
    | some m =>
      if cause ≠ .failure then s
      else if m.leng = e then (if m.stopped then s else s.updCl n fun c => { c with mig := some { m with cause := .failure } })
      else s.updCl n fun c => { c with failed := if c.failed.contains e then c.failed else c.failed ++ [e] }
    | none =>
      if cause ≠ .failure ∧ s.bit (CLU_CTRL n.val) 14 then s
      else match spare? c with
        | some t => migTo s n e p t cause
        | none =>
          if cause ≠ .failure then s
          else match shedVictim c (engRank c e) with
            | none => (s.cluEvt n cluNOSPARE).cluRaise n 0xA e.val
            | some v => match (vget c.engines v).phys with
              | none => s
              | some q => migTo (shedEngine s n v) n e p q cause

/-- A shed engine is bound again when a spare becomes available: the highest-ranked first (R239, R270). -/
def rebindShed (s : State) (n : Fin 12) : State :=
  let c := s.cl n
  match spare? c with
  | none => s
  | some p =>
    let best := (List.finRange 14).foldl (fun (b : Option (Fin 14)) e =>
      if (vget c.engines e).run = .shed then
        match b with
        | none => some e
        | some x => if engRank c e < engRank c x then some e else some x
      else b) none
    match best with
    | none => s
    | some e => startEngine s n e p

/-- An uncorrectable error met by an engine's access (R265): counted, the physical engine suspect, and its logical engine
migrates with cause failure. The trap is the access's own. -/
def eccEngine (s : State) (n : Fin 12) (e : Fin 14) : State :=
  let s1 := (s.bump (CLU_ECC_U n.val)).cluEvt n cluECC_U
  match (s.eng n e).phys with
  | none => s1
  | some p => migBegin (s1.updCl n fun c => { c with phys := vupd c.phys p fun x => { x with suspect := true } }) n e .failure

/-- A write that R238 or R257 rejects: counted, reported, and for a window word CLU_EVT.WRITER. -/
def writerReject (s : State) (n : Fin 12) (e : Fin 14) (window : Bool) : State :=
  let s1 := (s.bump (CLU_WRITERC n.val)).cluRaise n 0x3 e.val
  if window then s1.cluEvt n cluWRITER else s1

/-- The owner the section gives a pacer. -/
def pacerOwner (c : Cluster) (p : Fin 16) : Option Nat :=
  match c.cfg with
  | none => none
  | some g => (g.pacers[p.val]?).getD none

/-- Mode (TXN) and owner the section gives a conduit. -/
def conduitCfg (c : Cluster) (q : Fin 16) : Option (Bool × Nat) :=
  match c.cfg with
  | none => none
  | some g => (g.conduits[q.val]?).getD none

/-- A pacer status event is set (R245): CLU_EVT.PACER and a report naming pacer and owner. -/
def pacerEvent (s : State) (n : Fin 12) (p : Fin 16) : State :=
  (s.cluEvt n cluPACER).cluRaise n 0x6 (p.val * 16 + ((pacerOwner (s.cl n) p).getD 15))

/-- The region a window word lies in (R253). -/
def regionOf (c : Cluster) (w : Nat) : Option Region :=
  match c.cfg with
  | none => none
  | some g => g.regions.find? fun r => decide (r.kind ≠ .unused) && decide (r.win ≤ w) && decide (w < r.win + r.len)

/-- The watchdog restarts (R262). -/
def kickDog (x : Engine) : Engine := { x with wdFirst := false, wdTrap := false }

/-- A word is pushed outward into a conduit and a SIGNAL message becomes ready to carry it (R247, R293). -/
def conduitPush (s : State) (n : Fin 12) (q : Fin 16) (w : Word) : State :=
  (s.updConduit n q fun c => { c with out := c.out ++ [w] }).barReady .fh .signal
    (.conduit n.val q.val [])

/-- An inward word is popped, which makes room for words that wait at the hub (R247). -/
def conduitPop (s : State) (n : Fin 12) (q : Fin 16) : State :=
  let s1 := s.updConduit n q fun c => { c with inw := c.inw.tail }
  if (s.conduit n q).hubIn.isEmpty then s1 else s1.barReady .hf .signal (.conduit n.val q.val [])

/-- All 12 filtered levels of a cluster (R237). -/
def pinLevels (s : State) (n : Fin 12) : Word :=
  (List.finRange 12).foldl (fun w j => w ||| bitW (s.pin (pinOf n j)).filt j.val) 0

end Sys2Proof.Machine
end

