-- ==== Sys2Proof/Machine/Links.lean ====
section
/-! DEFINITION. The link ports (R33-R61): port states, flap damping, degradation, training, the hop band's words, and the
roles a port's fall gives the node (R86). -/

namespace Sys2Proof.Machine

/-- LNK_EVT bit i of a port: 7 DOWN, 6 UP, 5 DEG, 4 TRF, 3 SIDE, 2 OVR (R61). -/
def State.linkEvt (s : State) (p : Port) (i : Nat) : State :=
  s.evt LNK_EVT (i + match p with | .west => 8 | .east => 0)

/-- The word errors of the last 1 ms (R47). -/
def werrs1ms (s : State) (p : Port) : Nat := ((s.link p).werrs.filter fun t => decide (s.now < t + msT)).length

/-- The eye threshold and the word error threshold of LNK_DEG_THR, 0 disabling each (R47). -/
def degraded? (s : State) (p : Port) : Bool :=
  let w := s.fld LNK_DEG_THR 15 8
  let e := s.fld LNK_DEG_THR 7 0
  (decide (w ≠ 0) && decide (werrs1ms s p ≥ w)) ||
  (decide (e ≠ 0) && (s.link p).lanes.toList.any fun l => match l.eyeLow with
    | none => false
    | some t => decide (t + 10 * msT ≤ s.now))

/-- The node is line head of a ring while only the ring's receive port is not carrying traffic, and end of line while
only its transmit port is not (R86). -/
def headWanted (s : State) (r : Ring) : Bool := !(s.link r.inPort).state.carries && (s.link r.outPort).state.carries
def endWanted (s : State) (r : Ring) : Bool := (s.link r.inPort).state.carries && !(s.link r.outPort).state.carries

/-- A marker has been accepted since the start on some ring. -/
def anyMarker (s : State) : Bool := s.cue.track.toList.any (·.seen)

/-- The event frame that a ring was bringing in ends with ERR words up to its LEN (R152): behind the node's own frames that are leaving and
the words in the insertion buffer, which the line head sends in its word times, or behind the transit store of the active prompter.
An interjection in it is not resumed, and no IE_CLOSE is made for it: DESIGN CHOICE, the rule speaks of the carrier's LEN alone
(notes/assumptions/121.md). -/
def cutStream (s : State) (r : Ring) : State :=
  let st := s.stream r
  let errs : List RingWord := match st.frame with
    | none => []
    | some p => if p.strip then [] else List.replicate p.left .err
  let tail := errs.zipIdx.map fun e => (e.1, if e.2 + 1 < errs.length then st.frame.map (·.cls) else none)
  s.updStream r fun x =>
    { x with frame := none, inter := none, interDue := false, band := 0
             store := if s.prompting || !x.store.isEmpty then x.store ++ tail else x.store
             buffer := if s.prompting || !x.store.isEmpty then x.buffer else x.buffer ++ tail
             outAt := max x.outAt s.now }

/-- A line-head role begins (R86-R88): CUE_EVT.LH and a MINOR fault once the node has followed a marker. Beginning ends a
handover. -/
def headBegin (s : State) (r : Ring) : State :=
  let s1 := s.updLine r fun l =>
    { l with head := true, started := false, handover := none, forwardNext := false, noticeAt := none
             nextCycle := (s.trackOf r).cycle + 1 }
  if anyMarker s then (s1.evt CUE_EVT 15).raise Src.lineHead r.ix.val else s1

/-- The line roles follow the port states (R86). A head keeps its role while its receive port is up until the handover of
R89 ends it; it is cut off where its transmit port falls too. -/
def lineRole (s : State) (r : Ring) : State :=
  let l := s.lineOf r
  let s1 := s.updLine r fun l => { l with endOfLine := endWanted s r }
  if headWanted s r then
    (if l.head then s1.updLine r fun l => { l with handover := none, forwardNext := false } else headBegin s1 r)
  else if !(s.link r.outPort).state.carries then s1.updLine r fun l => { l with head := false, started := false }
  else s1

def lineRoles (s : State) : State := lineRole (lineRole s .a) .b

/-- A wing claim returns to waiting when a port goes DOWN (R97); sixteen cycles without a break are counted anew (R96). -/
def wingBreak (s : State) : State :=
  s.updCue fun c => { c with
    calm := 0
    wing := match c.wing.phase with
      | .listening | .claiming | .backoff => { c.wing with phase := .waiting, idleRuns := Vector.replicate 2 0, checks := Vector.replicate 2 0 }
      | _ => c.wing }

/-- Flap damping (R48): the entries to DOWN of the last 10 s, and the hold-off they start. -/
def damp (s : State) (p : Port) : State :=
  if !s.bit LNK_CTRL 12 then s
  else
    let n := max 2 (s.fld LNK_CTRL 11 8)
    let recent := ((s.link p).downs.filter fun t => decide (s.now < t + 10 * secT)) ++ [s.now]
    let s1 := s.updLink p fun l => { l with downs := recent }
    if recent.length < n then s1
    else
      let l := s.link p
      let len := match l.holdEnd with
        | none => 1
        | some e => if s.now ≤ e + 600 * secT then min 64 (2 * l.holdLen) else 1
      s1.updLink p fun l => { l with held := true, holdLen := len, holdUntil := s.now + len * secT }

/-- The port leaves its state for DOWN (R44-R48, R86, R97). -/
def portDown (s : State) (p : Port) : State :=
  let l := s.link p
  let s1 := s.updLink p fun l =>
    { l with state := .down, lsRun := 0, werrs := [], inUse := false, echoDue := none,
             lanes := l.lanes.map fun x => { x with trained := false, far := 0, eyeLow := none } }
  if !l.state.carries then s1
  else
    let s2 := ((s1.bump (LNK_DOWNS p)).linkEvt p 7).raise (Src.linkDown p) p.ix.val
    wingBreak (lineRoles (damp (cutStream s2 p.inRing) p))

/-- A training failure with its cause (R49, R61). -/
def trainFail (s : State) (p : Port) (cause : Nat) : State :=
  portDown ((((s.bump (LNK_TRF p)).linkEvt p 4).raise (Src.linkTrainFail p) p.ix.val).updLink p fun l => { l with trCause := cause }) p

/-- A TSID or LS names the port's own side (R54). DESIGN CHOICE: it is no training failure, so LNK_x_TRF does not count it and xTRF is not
set, though TRCAUSE holds it: R54 names xSIDE and TRCAUSE alone (notes/assumptions/11.md). -/
def wrongSide (s : State) (p : Port) : State :=
  portDown (((s.linkEvt p 3).raise (Src.linkSide p) p.ix.val).updLink p fun l => { l with trCause := 2, sideWait := true }) p

/-- The port enters UP (R44). -/
def portUp (s : State) (p : Port) : State :=
  let s1 := (s.updLink p fun l => { l with state := .up, inUse := false, werrs := [], fill := 8 }).linkEvt p 6
  lineRoles s1

/-- A word error (R37, R44): counted, and 256 within 1 ms take a DEGRADED port DOWN. -/
def wordError (s : State) (p : Port) : State :=
  let s1 := (s.bump (LNK_WERR p)).updLink p fun l =>
    { l with werrs := (s.now :: l.werrs.filter fun t => decide (s.now < t + msT)).take 256 }
  if (s.link p).state = .degraded ∧ werrs1ms s1 p ≥ 256 then portDown s1 p else s1

/-- An LS word arrives (R35, R44, R54, R60). Codes 5-7 name no state. -/
def lsReceive (s : State) (p : Port) (status : Byte) : State :=
  let code := status.toNat / 32
  let side := status.getLsbD 4
  let s1 := s.updLink p fun l => { l with far := code, farSide := side }
  if side = decide (p = .east) then wrongSide s1 p
  else match (s.link p).state with
    | .up | .degraded => if code ≤ 2 then portDown s1 p else s1
    | .sync => s1.updLink p fun l => { l with lsRun := if 2 ≤ code ∧ code ≤ 4 then l.lsRun + 1 else 0 }
    | _ => s1

/-- A training block arrives on a lane (R50, R52, R54): the lane it names, the far receiver's state on it, its side and
whether its K28.5 is inverted. -/
def tsidReceive (s : State) (p : Port) (lane : Fin 2) (east : Bool) (number farState : Nat) (inverted : Bool) : State :=
  let s1 := s.updLink p fun l =>
    let cfg := l.cfg
    let lanes := vupd l.lanes lane fun x =>
      { x with locked := true, number := number % 2, far := farState
               inverted := if bitOf cfg 11 then inverted else bitOf cfg (12 + lane.val) }
    { l with lanes := lanes, farSide := east
             swapped := if bitOf cfg 10 then decide (number % 2 ≠ lane.val) else bitOf cfg 9
             far := if lanes.toList.all fun x => decide (x.far ≥ 1) then 1 else 0 }
  if east = decide (p = .east) then
    (if (s.link p).sideWait then s1 else wrongSide s1 p)
  else match (s.link p).state with
    | .down | .training => s1
    | _ => portDown s1 p

/-- The equalizers of a port at their start values for the medium (R51, R61). -/
def eqBegin (l : LinkPort) : Vector Lane 2 :=
  l.lanes.map fun x => { x with trained := false, coef := Vector.ofFn fun k : Fin 6 => Config.eqStart (bitOf l.cfg 8) k.val }

/-- The equalizers of a port as they come out of training: the manual does not give the values (R51). -/
def eqTrained (s : State) (p : Port) : State :=
  (List.finRange 12).foldl (fun s i =>
    (s.updLink p fun l => { l with lanes := vupd l.lanes ⟨i.val / 6, by omega⟩ fun x =>
      { x with trained := true, coef := vset x.coef ⟨i.val % 6, by omega⟩ (s.free.toInt) } }).usedFree) s

/-- DOWN is left for TRAINING (R44, R51, R54, R61, R431, R533): the LNK section applied, enabled, not held by damping, fault, wrong side or
the dark-node state. -/
def trainingEntry (s : State) (p : Port) : State :=
  let l := s.link p
  if s.start.lnkApplied && l.state = .down && portEnabled s p && !portHeld s p && !l.sideWait then
    let s1 := s.updLink p fun l => { l with state := .training, trainAt := s.now, cfg := s.reg (LNK_CFG p) }
    s1.updLink p fun l => { l with lanes := (eqBegin l).map fun x => { x with locked := true } }
  else s

/-- The local lanes are trained; the far TSID must show trained on both (R44), and two lanes of one number are a failure
(R53). -/
def trainingDone (s : State) (p : Port) : State :=
  let l := s.link p
  if l.state ≠ .training then s
  else if (vget l.lanes 0).number = (vget l.lanes 1).number then trainFail s p 4
  else if l.lanes.toList.all fun x => decide (x.far = 2) then
    (eqTrained s p).updLink p fun l => { l with state := .sync, lsRun := 0 }
  else s

/-- The lanes are aligned with a skew of so many characters (R44, R53, R60). -/
def syncDone (s : State) (p : Port) (skew : Nat) (late1 : Bool) : State :=
  let l := s.link p
  if l.state ≠ .sync then s
  else if skew > 8 then trainFail s p 3
  else
    let s1 := s.updLink p fun l => { l with skew := skew, skewLate := late1 }
    if l.far = 0 then portDown (s1.bump (LNK_DOWNS p)) p
    else if l.lsRun ≥ 4 then portUp s1 p
    else s1

/-- RETRAIN (R60, R61): in TRAINING the training and its 4 ms start anew. -/
def retrain (s : State) (p : Port) : State :=
  if portHeld s p || !portEnabled s p then s
  else if (s.link p).state = .training then
    s.updLink p fun l => { l with trainAt := s.now, lanes := (eqBegin l).map fun x => { x with far := 0 } }
  else portDown s p

/-- CLRHOLD (R61). -/
def clrhold (s : State) (p : Port) : State :=
  s.updLink p fun l => { l with held := false, downs := [], holdEnd := if l.held then some s.now else l.holdEnd }

/-- A write to LNK_x_CMD (R60, R61). -/
def lnkCmd (s : State) (p : Port) (v : Word) : State :=
  let s1 := if bitOf v 14 then clrhold s p else s
  if bitOf v 15 then retrain s1 p else s1

/-- A change of the port enables by a write to LNK_CTRL (R44, R60). -/
def portEnables (old : Word) (s : State) : State :=
  let go (s : State) (p : Port) (i : Nat) : State := if bitOf old i && !s.bit LNK_CTRL i then portDown s p else s
  go (go s .west 15) .east 14

/-- The eight words of the hop band of a transmitting port (R38): the ECHO_RSP answers the last ECHO_REQ received on the
port. -/
def hopWords (s : State) (p : Port) : List RingWord :=
  let l := s.link p
  let echo : List RingWord := match l.echoDue with
    | none => List.replicate 4 .idle
    | some (tag, at_) =>
      let ns := nsOf at_
      [.echoRsp tag, .data (wd (ns / 65536)), .data (wd ns), .data (wd (fracOf at_))]
  [.sb 2, .ls (lsByte s p), .echoReq l.tag] ++ echo ++ [.idle]

/-- A port sends its hop-band words (R38): its request, the third of them, is stamped as it leaves (R112), the tag rises, the request it
answers is done. -/
def hopSend (s : State) (p : Port) : State :=
  let l := s.link p
  let s1 := sendEvent s p.outRing (hopWords s p)
  let s2 := s1.updTime fun t =>
    { t with echo := vupd t.echo p.ix fun e => { e with open_ := e.open_ ++ [(l.tag, s.ring + (2 * wordT : Nat), s.present)] } }
  s2.updLink p fun l => { l with tag := l.tag + 1, echoDue := none }

/-- The elastic buffer's fill reaches 0 or 16 (R42). The word in it leaves as ERR: it is the first of the ERR words that end a frame passing
through (R152), and a word of its own otherwise. -/
def ebOverrun (s : State) (p : Port) : State :=
  let r := p.inRing
  let x := s.stream r
  let s1 := portDown ((s.linkEvt p 2).raise (Src.linkOverrun p) p.ix.val) p
  if x.frame.any fun f => !f.strip then s1
  else if s.prompting then s1.updStream r fun y => if x.open_ then { y with store := y.store ++ [(.err, none)] } else y
  else if x.buffer.isEmpty && x.store.isEmpty && x.sending.isEmpty then sendMore s1 r [.err]
  else s1.updStream r fun y => { y with buffer := y.buffer ++ [(.err, none)] }

/-- A slip (R40, R41): counted, and reported with its instant to the ring-side timekeeper. -/
def slip (s : State) (p : Port) (fill : Nat) : State :=
  let s1 := (s.bump (LNK_SLIP p)).updLink p fun l => { l with fill := fill }
  s1.updTime fun t => { t with rings := vupd t.rings p.inRing.ix fun x => { x with slipAt := some s.now } }

/-- The slip of R40 in a hop band, from the fill at its start; an overrun wins (R60). -/
def ebSlip (s : State) (p : Port) (fill : Nat) : State :=
  if fill = 0 ∨ fill ≥ 16 then ebOverrun (s.updLink p fun l => { l with fill := min fill 16 }) p
  else if fill < 2 then slip s p (fill + 1)
  else if fill > 14 then slip s p (fill - 1)
  else s.updLink p fun l => { l with fill := fill }

/-- An ECHO_RSP arrives (R35, R112): its nanoseconds and fraction less the transmit stamp of the request of its tag, taken
within half a second, enter the last 64 results. -/
def echoResult (s : State) (p : Port) (tag : Byte) (w1 w2 w3 : Word) : State :=
  let e := vget s.time.echo p.ix
  match e.open_.find? fun x => decide (x.1 = tag) with
  | none => s
  | some (_, sent, c) =>
    let t2 : Int := (ofWords [w1, w2] * nsT + w3.toNat * nsT / 65536 : Nat)
    let d := (t2 - sent) % (secT : Int)
    let x := if d ≥ (secT : Int) / 2 then d - secT else d
    s.updTime fun t => { t with echo := vupd t.echo p.ix fun e =>
      { results := (x :: e.results).take 64, open_ := e.open_.filter fun y => decide (y ≠ (tag, sent, c)) } }

/-- An ECHO_REQ draws no answer within 4 cycles (R112). -/
def echoMiss (s : State) (p : Port) (tag : Byte) : State :=
  let e := vget s.time.echo p.ix
  if !e.open_.any fun x => decide (x.1 = tag) then s
  else ((s.updTime fun t => { t with echo := vupd t.echo p.ix fun e =>
    { e with open_ := e.open_.filter fun x => decide (x.1 ≠ tag) } }).bump TIM_ECHO_MISS).raise Src.echoMiss p.ix.val

/-- One coefficient of a lane moves by a step (R51): at most one step in 1 µs, none after 1 µs of IDLE alone. -/
def eqAdapt (s : State) (p : Port) (lane : Fin 2) (k : Fin 6) (up : Bool) : State :=
  let l := s.link p
  let x := vget l.lanes lane
  let idle := match l.idleSince with
    | none => false
    | some t => decide (t + usT ≤ s.now)
  let early := match vget x.stepAt k with
    | none => false
    | some t => decide (s.now < t + usT)
  if l.state = .down || l.state = .training || idle || early then s
  else s.updLink p fun l => { l with lanes := vupd l.lanes lane fun x =>
    { x with coef := vupd x.coef k fun c => if up then c + 1 else c - 1, stepAt := vset x.stepAt k (some s.now) } }

/-- The eye heights of a port (R47, R51). -/
def eyeUpdate (s : State) (p : Port) (e0 e1 : Byte) : State :=
  let thr := s.fld LNK_DEG_THR 7 0
  let f (e : Byte) (x : Lane) : Lane :=
    { x with eye := e, eyeLow := if e.toNat < thr then (match x.eyeLow with | none => some s.now | some t => some t) else none }
  s.updLink p fun l => { l with lanes := vupd (vupd l.lanes 0 (f e0)) 1 (f e1) }

/-- Row ERR_RECEIVE (R37): counted, and forwarded unchanged. -/
def errReceive (s : State) (p : Port) : State := s.bump (LNK_ERRIN p)

/-- Hop-band words of a port that have arrived and been consumed (R36, R38). -/
def consume (s : State) (p : Port) (n : Nat) : State := s.updStream p.inRing fun x => { x with band := x.band - n }

/-- An ECHO_REQ arrives (R38, R60): its arrival in ring time is kept for the next hop band; a newer request replaces one not yet
answered. -/
def echoAsked (s : State) (p : Port) (tag : Byte) : State := s.updLink p fun l => { l with echoDue := some (tag, s.ring.toNat) }

/-- A word after an ECHO_RSP arrives (R35): with the third the result is complete. One in error spoils it (R37). -/
def echoData (s : State) (p : Port) (w : Option Word) : State :=
  match (s.link p).echoIn with
  | none => s
  | some (tag, ws) =>
    let got := ws ++ [w]
    if got.length < 3 then s.updLink p fun l => { l with echoIn := some (tag, got) }
    else
      let s1 := s.updLink p fun l => { l with echoIn := none }
      match got with
      | [some a, some b, some c] => echoResult s1 p tag a b c
      | _ => s1

/-- Row LS_RECEIVE (R44, R45, R54, R60). -/
def execLsReceive (p : Port) (status : Byte) (t : Nat) (s : State) : Out := done (lsReceive (consume (s.at t) p 1) p status)

/-- Row TSID_RECEIVE (R50, R52, R54). -/
def execTsidReceive (p : Port) (lane : Fin 2) (east : Bool) (number : Fin 2) (far : Fin 4) (inverted : Bool) (t : Nat)
    (s : State) : Out :=
  done (tsidReceive (s.at t) p lane east number.val far.val inverted)

/-- Row WRONG_SIDE_RETRY (R54). -/
def execWrongSideRetry (p : Port) (t : Nat) (s : State) : Out :=
  done ((s.at t).updLink p fun l => { l with sideWait := false })

/-- Row ECHO_REQ_RECEIVE (R38, R60). -/
def execEchoReqReceive (p : Port) (tag : Byte) (t : Nat) (s : State) : Out :=
  let s1 := s.at t
  done (if (s1.link p).state.carries then echoAsked (consume s1 p 1) p tag else s1)

/-- Row ECHO_RSP_RECEIVE (R112). -/
def execEchoRspReceive (p : Port) (tag : Byte) (w1 w2 w3 : Word) (t : Nat) (s : State) : Out :=
  done (echoResult (consume (s.at t) p 4) p tag w1 w2 w3)

/-- Row ECHO_TIMEOUT (R112). -/
def execEchoTimeout (p : Port) (tag : Byte) (t : Nat) (s : State) : Out := done (echoMiss (s.at t) p tag)

/-- Row EB_OVERRUN (R42). -/
def execEbOverrun (p : Port) (full : Bool) (t : Nat) (s : State) : Out :=
  let s1 := s.at t
  done (if (s1.link p).state.carries then ebOverrun (s1.updLink p fun l => { l with fill := if full then 16 else 0 }) p else s1)

/-- Row TRAINING_ENTRY (R44). -/
def execTrainingEntry (p : Port) (t : Nat) (s : State) : Out := done (trainingEntry (s.at t) p)

/-- Row TRAINING_DONE (R44, R53). -/
def execTrainingDone (p : Port) (t : Nat) (s : State) : Out := done (trainingDone (s.at t) p)

/-- Row TRAINING_TIMEOUT (R44, R60): 4 ms in TRAINING, counted anew by a RETRAIN. -/
def execTrainingTimeout (p : Port) (t : Nat) (s : State) : Out :=
  let s1 := s.at t
  done (if (s1.link p).state = .training ∧ (s1.link p).trainAt + 4 * msT ≤ s1.now then trainFail s1 p 1 else s1)

/-- Row SYNC_DONE (R44, R53, R60). -/
def execSyncDone (p : Port) (skew : Nat) (late1 : Bool) (t : Nat) (s : State) : Out := done (syncDone (s.at t) p skew late1)

/-- Row SYNC_TIMEOUT (R44, R61): TRCAUSE SYNC_TIMEOUT, a training failure (notes/assumptions/11.md). -/
def execSyncTimeout (p : Port) (t : Nat) (s : State) : Out :=
  let s1 := s.at t
  done (if (s1.link p).state = .sync then trainFail s1 p 5 else s1)

/-- What counts as loss of signal or lock at a port: a source out of range (R39), the module's output where LOS_EN takes it (R56). -/
def isLoss (l : LinkPort) : LaneLoss → Bool
  | .signal => true
  | .module => bitOf l.cfg 7
  | .rate ppb => outOfRange ppb

/-- Row LOSS_OF_SIGNAL (R39, R45, R46, R56). -/
def execLossOfSignal (p : Port) (lane : Fin 2) (loss : LaneLoss) (t : Nat) (s : State) : Out :=
  let s1 := s.at t
  done (if isLoss (s1.link p) loss then
      portDown (s1.updLink p fun l => { l with lanes := vupd l.lanes lane fun x => { x with locked := false } }) p
    else s1)

/-- Row DEGRADE_ENTRY (R47). -/
def execDegradeEntry (p : Port) (t : Nat) (s : State) : Out :=
  let s1 := s.at t
  done (if (s1.link p).state = .up ∧ degraded? s1 p then
    ((s1.updLink p fun l => { l with state := .degraded }).linkEvt p 5).raise (Src.linkDegraded p) p.ix.val
  else s1)

/-- Row DEGRADED_EXIT (R44): 100 ms with neither condition. -/
def execDegradedExit (p : Port) (t : Nat) (s : State) : Out :=
  let s1 := s.at t
  done (if (s1.link p).state = .degraded ∧ !degraded? s1 p then (s1.updLink p fun l => { l with state := .up }).linkEvt p 6
    else s1)

/-- Row DEGRADED_RETRAIN (R44, R47). -/
def execDegradedRetrain (p : Port) (t : Nat) (s : State) : Out :=
  let s1 := s.at t
  done (if (s1.link p).state = .degraded ∧ s1.bit LNK_CTRL 13 then portDown s1 p else s1)

/-- Row HOLD_OFF_END (R48). -/
def execHoldOffEnd (p : Port) (t : Nat) (s : State) : Out :=
  let s1 := s.at t
  done (if (s1.link p).held then s1.updLink p fun l => { l with held := false, holdEnd := some s1.now } else s1)

/-- Row EYE_UPDATE (R51). -/
def execEyeUpdate (p : Port) (e0 e1 : Byte) (t : Nat) (s : State) : Out := done (eyeUpdate (s.at t) p e0 e1)

/-- Row EQ_ADAPT (R51). -/
def execEqAdapt (p : Port) (lane : Fin 2) (k : Fin 6) (up : Bool) (t : Nat) (s : State) : Out :=
  done (eqAdapt (s.at t) p lane k up)

/-- Row RETRAIN (R60, R61). -/
def execRetrain (p : Port) (t : Nat) (s : State) : Out := done (retrain (s.at t) p)

/-- Row CLRHOLD (R61). -/
def execClrhold (p : Port) (t : Nat) (s : State) : Out := done (clrhold (s.at t) p)

/-- Row LNK_PORT_DISABLE (R44, R60): the enable bit of LNK_CTRL is cleared and the port is DOWN at once. -/
def execLnkPortDisable (p : Port) (t : Nat) (s : State) : Out :=
  let s1 := (s.at t).putBit LNK_CTRL (match p with | .west => 15 | .east => 14) false
  done (portDown s1 p)

/-- Row LNK_PORT_ENABLE (R44). -/
def execLnkPortEnable (p : Port) (t : Nat) (s : State) : Out :=
  done ((s.at t).putBit LNK_CTRL (match p with | .west => 15 | .east => 14) true)

/-- LNK_STATE (R61). -/
def lnkState (s : State) : Word :=
  bitW (s.link .west).held 15 ||| putFld (s.link .west).state.code 10 8 ||| bitW (s.link .east).held 7 |||
  putFld (s.link .east).state.code 2 0

/-- LNK_x_STAT (R61). -/
def lnkStat (s : State) (p : Port) : Word :=
  let l := s.link p
  bitW (vget l.lanes 1).inverted 15 ||| bitW (vget l.lanes 0).inverted 14 ||| bitW l.swapped 13 ||| putFld l.far 12 10 |||
  bitW l.farSide 9 ||| bitW (vget l.lanes 0).locked 8 ||| bitW (vget l.lanes 1).locked 7 ||| putFld l.trCause 6 4

/-- LNK_x_EYE, LNK_x_EB, LNK_x_SKEW and LNK_x_HOLD (R61). -/
def lnkEye (s : State) (p : Port) : Word := (vget (s.link p).lanes 0).eye ++ (vget (s.link p).lanes 1).eye
def lnkEb (s : State) (p : Port) : Word := putFld (s.link p).fill 15 8
def lnkSkew (s : State) (p : Port) : Word := bitW (s.link p).skewLate 15 ||| putFld (s.link p).skew 3 0
def lnkHold (s : State) (p : Port) : Word :=
  if (s.link p).held then wd (((s.link p).holdUntil - s.now + 10 * msT - 1) / (10 * msT)) else 0

end Sys2Proof.Machine
end

