-- ==== Sys2Proof/Machine/Flags.lean ====
section
/-! DEFINITION. The results and flags of the arithmetic, logic and bit instructions of a port engine, and its conditions
(R280-R284). -/

namespace Sys2Proof.Machine

/-- A result with the four flags after it. -/
structure AluOut where
  val : Word
  z : Bool
  n : Bool
  c : Bool
  v : Bool
  deriving DecidableEq, Repr

/-- Z and N of a result (R282). -/
def flagZ (w : Word) : Bool := decide (w = 0)
def flagN (w : Word) : Bool := bitOf w 15

/-- A signed number outside 16 bits (R280: V is 1 when the result taken as a signed number is wrong). -/
def flagV (i : Int) : Bool := decide (i < -32768) || decide (i > 32767)

/-- a + b + c, with C the carry out of bit 15 (R280). -/
def addOut (a b : Word) (c : Bool) : AluOut :=
  let r := wd (a.toNat + b.toNat + b2n c)
  ⟨r, flagZ r, flagN r, decide (a.toNat + b.toNat + b2n c ≥ 65536), flagV (a.toInt + b.toInt + b2n c)⟩

/-- a - b - borrow, with C 1 when no borrow occurs (R280). -/
def subOut (a b : Word) (borrow : Bool) : AluOut :=
  let r := wd (a.toNat + 65536 * 2 - b.toNat - b2n borrow)
  ⟨r, flagZ r, flagN r, decide (a.toNat ≥ b.toNat + b2n borrow), flagV (a.toInt - b.toInt - b2n borrow)⟩

/-- A logical result: C unchanged, V 0 (R282). -/
def logicOut (r : Word) (c : Bool) : AluOut := ⟨r, flagZ r, flagN r, c, false⟩

/-- The functions of major 0x1 (R282): the result, and the flags given C and V before. -/
def aluOut (f : AluFn) (a b : Word) (c v : Bool) : AluOut :=
  let k := fld b 3 0
  match f with
  | .add => addOut a b false
  | .sub => subOut a b false
  | .adc => addOut a b c
  | .sbc => subOut a b (!c)
  | .and => logicOut (a &&& b) c
  | .or => logicOut (a ||| b) c
  | .xor => logicOut (a ^^^ b) c
  | .shl => logicOut (a <<< k) (if k = 0 then c else bitOf a (16 - k))
  | .shr => logicOut (a >>> k) (if k = 0 then c else bitOf a (k - 1))
  | .sar => logicOut (a.sshiftRight k) (if k = 0 then c else bitOf a (k - 1))
  | .rol => let r := a.rotateLeft k
            logicOut r (if k = 0 then c else bitOf r 0)
  | .ror => let r := a.rotateRight k
            logicOut r (if k = 0 then c else bitOf r 15)
  | .mov => ⟨b, flagZ b, flagN b, c, v⟩
  | .cmp => subOut a b false
  | .mull =>
    let r := wd (a.toNat * b.toNat)
    ⟨r, flagZ r, flagN r, decide (a.toNat * b.toNat > 0xFFFF), flagV (a.toInt * b.toInt)⟩
  | .mulh =>
    let r := BitVec.ofInt 16 (a.toInt * b.toInt / 65536)
    ⟨r, flagZ r, flagN r, false, false⟩

/-- CMP discards its result (R282). -/
def aluWrites (f : AluFn) : Bool := decide (f ≠ .cmp)

/-- The bit instructions (R284): the new value of rd, and Z. -/
def bitOut (f : BitFn) (a : Word) (b : Fin 16) : Word × Bool :=
  let z := !bitOf a b.val
  match f with
  | .set => (a ||| bitW true b.val, z)
  | .clr => (a &&& ~~~ bitW true b.val, z)
  | .tgl => (a ^^^ bitW true b.val, z)
  | .tst => (a, z)

/-- A condition of Bcc (R281); code 0xF is reserved. -/
def condHolds (code : Nat) (z n c v : Bool) : Bool :=
  match code with
  | 0 => z
  | 1 => !z
  | 2 => c
  | 3 => !c
  | 4 => n
  | 5 => !n
  | 6 => v
  | 7 => !v
  | 8 => c && !z
  | 9 => !c || z
  | 10 => n == v
  | 11 => n != v
  | 12 => !z && (n == v)
  | 13 => z || (n != v)
  | 14 => true
  | _ => false

end Sys2Proof.Machine
end

