-- ==== Sys2Proof/Machine/Inject.lean ====
section
/-! DEFINITION. Fault injection as a checker meets it (R434, R435): whether its check bits are inverted at this check, and
the report that then carries INJ. -/

namespace Sys2Proof.Machine

/-- The core whose collector has armed a hub-side source, with CONT and DRY. A shared source is armed in both. -/
def hubArmed (s : State) (src : Nat) : Option (Core × Bool × Bool) :=
  [Core.c0, Core.c1].findSome? fun c => match (vget s.flts c.ix).inject with
    | some (x, cont, dry) => if x = src then some (c, cont, dry) else none
    | none => none

/-- One collector's part in an inverted check: FLT_INJ_CNT counts, and ONCE disarms (R434). -/
def injectUsed (src : Nat) (s : State) (c : Core) : State :=
  match (vget s.flts c.ix).inject with
  | some (x, cont, _) =>
    if x ≠ src then s
    else
      let s1 := s.bumpSel FLT_INJ_CNT c.ix.val
      if cont then s1 else (s1.updFlt c fun f => { f with inject := none }).putBit FLT_INJ 15 false
  | none => s

/-- A check by the checker of a hub-side source (R434): none, or the core and DRY of the injection that inverts it. -/
def hubCheck (s : State) (src : Nat) : Option (Core × Bool) × State :=
  match hubArmed s src with
  | none => (none, s)
  | some (c, _, dry) => (some (c, dry), injectUsed src (injectUsed src s .c0) .c1)

/-- A check by the checker of a field-side source (R434, R438). -/
def fieldCheck (s : State) (src : Nat) : Option Bool × State :=
  match s.fieldInj with
  | none => (none, s)
  | some (x, cont, dry) =>
    if x ≠ src then (none, s)
    else
      let s1 := s.bump FI_CNT
      (some dry, if cont then s1 else ({ s1 with fieldInj := none }.putBit FI_CTRL 15 false).putBit FI_STAT 15 true)

/-- A report that an injection causes, to one core's collector. -/
def injectedTo (s : State) (c : Core) (src detail : Nat) (dry : Bool) : State :=
  s.updFlt c fun f => { f with inbox := f.inbox ++ [⟨src, detail, s.ring.toNat, true, dry⟩] }

/-- The report of a hub-side check that failed: a real one, or an injected one, which for a core-local source goes to its
core (R417, R434). -/
def raiseHub (s : State) (src detail : Nat) (inj : Option (Core × Bool)) : State :=
  match inj with
  | none => s.raise src detail
  | some (c, dry) =>
    if srcLocal src then injectedTo s c src detail dry
    else injectedTo (injectedTo s .c0 src detail dry) .c1 src detail dry

/-- The report of a field-side check that failed (R417, R434). -/
def raiseField (s : State) (src detail : Nat) (inj : Option Bool) : State :=
  match inj with
  | none => s.raise src detail
  | some dry =>
    if barCarries (s.bdir .fh) then s.barReady .fh .faultReport (.faultReport src detail 1 s.fring.toNat true dry)
    else { s with backlog := addBacklog src detail s.fring.toNat true dry s.backlog }

end Sys2Proof.Machine
end

