-- ==== Sys2Proof/Machine/Operands.lean ====
section
/-! DEFINITION. The operand forms of port engine instructions: the data address space a logical engine sees (R237), the
operands an encoding admits (R279, R281, R289, R291, R292, R294), and the decoding of an instruction's words (R279). -/

namespace Sys2Proof.Machine

/-- Where a word address of an engine leads (R237). -/
inductive EngAddr where
  | data (w : Nat)
  | shared (w : Nat)
  | window (w : Nat)
  | pin (j : Fin 12)
  | pins
  | pacer (p : Fin 16) (w : Nat)
  | unit (i : Nat) (w : Nat)
  | conduit (q : Fin 16) (w : Nat)
  | esig
  | wdog
  | number
  /-- an address the table does not list (R238) -/
  | unlisted
  deriving DecidableEq, Repr

/-- The table of R237. -/
def engAddr (a : Word) : EngAddr :=
  let n := a.toNat
  if n < 0x400 then .data n
  else if 0x8000 ≤ n ∧ n < 0xC000 then .shared (n - 0x8000)
  else if 0xC000 ≤ n ∧ n < 0xE000 then .window (n - 0xC000)
  else if h : 0xF000 ≤ n ∧ n < 0xF00C then .pin ⟨n - 0xF000, by omega⟩
  else if n = 0xF00C then .pins
  else if h : 0xF020 ≤ n ∧ n < 0xF0A0 then .pacer ⟨(n - 0xF020) / 8, by omega⟩ ((n - 0xF020) % 8)
  else if 0xF0A0 ≤ n ∧ n < 0xF0C0 then .unit ((n - 0xF0A0) / 16) ((n - 0xF0A0) % 16)
  else if h : 0xF100 ≤ n ∧ n < 0xF140 then .conduit ⟨(n - 0xF100) / 4, by omega⟩ ((n - 0xF100) % 4)
  else if n = 0xF140 then .esig
  else if n = 0xF141 then .wdog
  else if n = 0xF142 then .number
  else .unlisted

/-- The operand of WAIT is one R289 lists. -/
def waitListed (kind index : Nat) : Bool :=
  match kind with
  | 0 | 1 | 2 | 0xE => decide (index < 12)
  | 3 | 4 | 5 => decide (index < 16)
  | 6 => decide (index = 0)
  | 7 => decide (index < 4)
  | _ => false

/-- The instruction is not one that R279 makes ILLEGAL. -/
def engLegal : EngOp → Bool
  | .wait k i => waitListed k i
  | .ld _ _ off | .st _ _ off => decide (off < 16)
  | .bcc c _ => decide (c < 15)
  | .jmp t | .call t => decide (t.getLsbD 0 = false)
  | .pinrd _ p | .pinwr _ p | .pindir _ p => decide (p ≤ 12)
  | .pacePer rd _ | .paceCnt rd _ | .paceRd rd _ => decide (rd.val ≤ 14)
  | .edge rd | .tstamp rd => decide (rd.val ≤ 12)
  | .twait rs | .tcmp rs => decide (rs.val ≤ 13)
  | .illegal _ => false
  | _ => true

/-- A number below 16 as a register number. -/
def reg4 (n : Nat) : Fin 16 := ⟨n % 16, by omega⟩

/-- The function of a code of major 0x1 (R282). -/
def aluFn (n : Nat) : AluFn :=
  match n with
  | 0 => .add
  | 1 => .sub
  | 2 => .adc
  | 3 => .sbc
  | 4 => .and
  | 5 => .or
  | 6 => .xor
  | 7 => .shl
  | 8 => .shr
  | 9 => .sar
  | 10 => .rol
  | 11 => .ror
  | 12 => .mov
  | 13 => .cmp
  | 14 => .mull
  | _ => .mulh

/-- The instruction that a code word and the word after it spell (R279-R294); a reserved encoding is `illegal`. -/
def engDecode (w w2 : Word) : EngOp :=
  let rd := reg4 (fld w 11 8)
  let rs := reg4 (fld w 7 4)
  let lo := reg4 (fld w 3 0)
  let op := fld w 7 6
  let var := fld w 5 4
  match fld w 15 12 with
  | 0x0 => match fld w 11 8 with
    | 0 => if fld w 7 0 = 0 then .nop else .illegal false
    | 1 => if fld w 7 0 = 0 then .halt else .illegal false
    | 2 => .wait (fld w 7 4) (fld w 3 0)
    | 3 => .trap (w.extractLsb' 0 8)
    | 4 => if fld w 7 0 = 0 then .ret else if fld w 7 0 = 1 then .retT else .illegal false
    | 5 => if fld w 7 0 = 0 then .lock else .illegal false
    | 6 => if fld w 7 0 = 0 then .unlock else .illegal false
    | 7 => if fld w 7 0 = 0 then .sync else .illegal false
    | _ => .illegal false
  | 0x1 => .alu (aluFn (fld w 3 0)) rd rs
  | 0x2 => .addi rd (w.extractLsb' 0 8)
  | 0x3 => .cmpi rd (w.extractLsb' 0 8)
  | 0x4 => .movi rd (w.extractLsb' 0 8)
  | 0x5 =>
    if var ≠ 0 then .illegal false
    else .bit (match op with | 0 => .set | 1 => .clr | 2 => .tgl | _ => .tst) rd lo
  | 0x6 => .ld rd rs (fld w 3 0)
  | 0x7 => .st rd rs (fld w 3 0)
  | 0x8 => .bcc (fld w 11 8) (w.extractLsb' 0 8)
  | 0x9 =>
    let t := BitVec.ofNat 12 (fld w 10 0 * 2)
    if bitOf w 11 then .call t else .jmp t
  | 0xA => match fld w 3 0 with
    | 0 => if fld w 7 4 = 0 then .limm rd w2 else .illegal true
    | 1 => .ldf rd rs w2
    | 2 => .stf rd rs w2
    | 3 => if fld w 7 4 = 0 then .lda rd w2 else .illegal true
    | 4 => if fld w 7 4 = 0 then .sta rd w2 else .illegal true
    | _ => .illegal true
  | 0xB =>
    if var ≠ 0 then .illegal false
    else match op with
      | 0 => .pinrd rd (fld w 3 0)
      | 1 => .pinwr rd (fld w 3 0)
      | 2 => .pindir rd (fld w 3 0)
      | _ => .illegal false
  | 0xC => match op, var with
    | 0, 0 => .sho rd lo
    | 0, 1 => .shoN rd lo
    | 1, 0 => .shi rd lo
    | 1, 1 => .shiN rd lo
    | 2, 0 => .pacePer rd lo
    | 2, 1 => .paceCnt rd lo
    | 2, 2 => .paceRd rd lo
    | 2, 3 => .paceSt rd lo
    | 3, 0 => if fld w 3 0 = 0 then .edge rd else .illegal false
    | _, _ => .illegal false
  | 0xD =>
    if var ≠ 0 then .illegal false
    else match op with
      | 0 => .send rd lo
      | 1 => .recv rd lo
      | 2 => .peek rd lo
      | _ => .poll rd lo
  | 0xE =>
    if var ≠ 0 ∨ fld w 3 0 ≠ 0 then .illegal false
    else match op with
      | 0 => .tstamp rd
      | 1 => .twait rd
      | 2 => .tcmp rd
      | _ => .illegal false
  | _ => .illegal false

end Sys2Proof.Machine
end

