-- ==== Sys2Proof/Machine/EngineOps.lean ====
section
/-! DEFINITION. The issue of one port engine instruction: its loads and stores (R237, R238, R245, R246, R253, R257), its
effect (R282-R295), traps (R297-R300), the lock (R290), breakpoints and deferred halts (R511-R514). -/

namespace Sys2Proof.Machine

/-- What a load or a store of an engine comes to. -/
inductive EngAcc where
  | val (v : Word) (s : State)
  | trap (cause : Nat) (s : State)
  /-- it waits (R245, R258, R293) -/
  | stall

/-- What an instruction comes to. -/
inductive EngStep where
  | go (s : State)
  | trap (cause : Nat) (nn : Byte) (s : State)
  | dark (s : State)
  | stall

/-- The trap causes of R297. -/
abbrev trapILLEGAL : Nat := 1
abbrev trapADDR : Nat := 2
abbrev trapLOCK : Nat := 3
abbrev trapWDOG : Nat := 4
abbrev trapECC : Nat := 5
abbrev trapMODE : Nat := 6
abbrev trapTIME : Nat := 7
abbrev trapSOFT : Nat := 8

/-- Another engine holds the cluster lock (R290). -/
def lockedOut (s : State) (n : Fin 12) (e : Fin 14) : Bool :=
  match (s.cl n).lock with
  | none => false
  | some h => decide (h ≠ e)

def holdsLock (s : State) (n : Fin 12) (e : Fin 14) : Bool := decide ((s.cl n).lock = some e)

/-- STAT of a pacer (R245). -/
def pacerStat (p : Pacer) : Word :=
  bitW p.tx.isNone 15 ||| bitW p.rx.isSome 14 ||| bitW p.out.isSome 13 ||| bitW p.ovr 12 ||| bitW p.und 11 |||
  bitW p.qerr 10 ||| bitW p.ferr 9

/-- A read of STAT by the owner clears its events (R245). -/
def clearPacerStat (p : Pacer) : Pacer := { p with ovr := false, und := false, qerr := false, ferr := false }

def pacerMode (p : Pacer) : Nat := fld p.cfg 15 14

/-- A new period: at the next period boundary in PWM mode, else at once, from which the tick grid counts (R244). -/
def setPer (now : Nat) (v : BitVec 32) (p : Pacer) : Pacer :=
  if pacerMode p = 3 then { p with nextPer := some v } else { p with per := v, grid := now, nextTick := 0 }

/-- A new count or high time: at the next period boundary in PWM mode, else at once (R244). -/
def setCnt (v : BitVec 32) (p : Pacer) : Pacer :=
  if pacerMode p = 3 then { p with nextCnt := some v } else { p with cnt := v }

/-- The line level a pacer holds while it shifts nothing: the clock's idle level, the async line at 1 (R244). -/
def idlePacer (p : Pacer) : Pacer :=
  if pacerMode p = 1 then
    { p with clkOut := bitOf p.cfg 6, dataOut := if fld p.cfg 13 12 = 2 then true else p.dataOut }
  else p

/-- Bits of a word in the order in which they are shifted (R244, R245). -/
def shiftBits (cfg v : Word) : List Bool :=
  let n := fld cfg 11 8 + 1
  let l := (List.range n).map fun i => bitOf v i
  if bitOf cfg 7 then l else l.reverse

/-- A word enters the shift register (R244): asynchronous with its start and stop bits; a synchronous pacer with CPHA 0
puts out its first bit. -/
def loadShift (v : Word) (x : Pacer) : Pacer :=
  let bits := shiftBits x.cfg v
  if fld x.cfg 13 12 = 2 then
    { x with out := some ([false] ++ bits ++ (if bitOf x.cfg 6 then [true, true] else [true])) }
  else { x with out := some bits, dataOut := if bitOf x.cfg 5 then x.dataOut else (bits.head?).getD true }

/-- A word enters the transmit buffer, from which an empty shift register of SHIFT mode takes it (R244, R245). -/
def txPut (v : Word) (x : Pacer) : Pacer :=
  if pacerMode x = 1 ∧ x.out.isNone then loadShift v x else { x with tx := some v }

/-- A load from a pacer word by its owner (R245). -/
def pacerLoad (s : State) (n : Fin 12) (p : Fin 16) (w : Nat) : EngAcc :=
  let x := s.pacer n p
  match w with
  | 0 => .val x.cfg s
  | 1 => .val x.pins s
  | 2 => .val (x.per.extractLsb' 16 16) s
  | 3 => .val (x.per.extractLsb' 0 16) s
  | 4 => .val (pacerStat x) (s.updPacer n p clearPacerStat)
  | 5 => match x.rx with
    | none => .stall
    | some v => .val v (s.updPacer n p fun x => { x with rx := none })
  | 6 => .val (x.cnt.extractLsb' 16 16) (s.updPacer n p fun x => { x with cntL := x.cnt.extractLsb' 0 16 })
  | _ => .val x.cntL s

/-- A store to a pacer word by its owner (R245). -/
def pacerStore (s : State) (n : Fin 12) (p : Fin 16) (w : Nat) (v : Word) : EngAcc :=
  let x := s.pacer n p
  let per := x.nextPer.getD x.per
  let cnt := x.nextCnt.getD x.cnt
  let lo (d : BitVec 32) : Word := d.extractLsb' 0 16
  let hi (d : BitVec 32) : Word := d.extractLsb' 16 16
  match w with
  | 0 =>
    .val 0 (s.updPacer n p fun x =>
      let y := { x with cfg := v &&& 0xFFE0 }
      if fld v 15 14 = pacerMode x then y else idlePacer { stopPacer y with cfg := v &&& 0xFFE0, grid := s.now, nextTick := 0 })
  | 1 => .val 0 (s.updPacer n p fun x => { x with pins := v &&& 0xFFF0 })
  | 2 => .val 0 (s.updPacer n p (setPer s.now (v ++ lo per)))
  | 3 => .val 0 (s.updPacer n p (setPer s.now (hi per ++ v)))
  | 5 => if x.tx.isSome then .stall else .val 0 (s.updPacer n p (txPut v))
  | 6 => .val 0 (s.updPacer n p (setCnt (v ++ lo cnt)))
  | 7 => .val 0 (s.updPacer n p (setCnt (hi cnt ++ v)))
  | _ => .val 0 s

/-- A load from a word of a pulse window (R246). -/
def unitLoad (s : State) (n : Fin 12) (i w : Nat) : EngAcc :=
  let u := unitOf n i
  let win := vget (s.cl n).windows ⟨i % 2, by omega⟩
  if w = 1 then .val (puStat (vget s.pulses u)) s
  else if w = 12 then .val (s.regSel PLS_PU_SKIP u.val) (s.setRegSel PLS_PU_SKIP u.val 0)
  else match place? 12 w with
    | some k => .val (vget win.words k) s
    | none => .val 0 s

/-- What an ARM through a pulse window programs: T's upper seconds near the present where they have not been written
since the last ARM (R246). -/
def windowReq (s : State) (win : PulseWindow) (ctrl : Word) : PulseReq :=
  let w (k : Fin 12) : Word := vget win.words k
  { ctrl := ctrl
    sec := if win.upper then ofWords [w 2, w 3, w 4] else nearSec (secOf s.fring) (w 4).toNat
    ns := ofWords [w 5, w 6]
    width := ofWords [w 7, w 8]
    period := ofWords [w 9, w 10]
    count := (w 11).toNat }

/-- A store to a word of a pulse window (R246). -/
def unitStore (s : State) (n : Fin 12) (i w : Nat) (v : Word) : State :=
  let ix : Fin 2 := ⟨i % 2, by omega⟩
  let upd (f : PulseWindow → PulseWindow) (s : State) : State := s.updCl n fun c => { c with windows := vupd c.windows ix f }
  if w = 0 then
    let s1 := upd (fun x => { x with words := vset x.words 0 (v &&& 0x380F) }) s
    if bitOf v 14 then puStop s1 (unitOf n i)
    else if bitOf v 15 then
      upd (fun x => { x with upper := false })
        (puArm s1 (unitOf n i) (windowReq s1 (vget (s1.cl n).windows ix) (v &&& 0x380F)))
    else s1
  else if 2 ≤ w then
    match place? 12 w with
    | some k => upd (fun x => { words := vset x.words k v, upper := x.upper || decide (w ≤ 3) }) s
    | none => s
  else s

/-- STAT of a conduit (R251). -/
def conduitStat (c : Conduit) : Word :=
  bitW c.trunc 15 ||| bitW c.tmo 14 ||| putFld c.out.length 11 8 ||| putFld c.inw.length 3 0

/-- The pacer, conduit or unit belongs to this engine; the section may bind each to one engine or none. -/
def ownsPacer (s : State) (n : Fin 12) (e : Fin 14) (p : Fin 16) : Bool := decide (pacerOwner (s.cl n) p = some e.val)
def ownsConduit (s : State) (n : Fin 12) (e : Fin 14) (q : Fin 16) : Bool :=
  match conduitCfg (s.cl n) q with
  | none => false
  | some (_, o) => decide (o = e.val)
def ownsUnit (s : State) (n : Fin 12) (e : Fin 14) (i : Nat) : Bool := decide (unitOwner s (unitOf n i) = some e.val)

/-- The MEM_ECC checker of a cluster is armed by FI_CTRL (R434): the next word it checks seems in error. -/
def eccArmed (s : State) (n : Fin 12) : Bool := match s.fieldInj with
  | none => false
  | some (x, _) => decide (x = Src.trap n.val trapECC)

/-- A word of memory, or MEM_ECC where it carries the mark (R265). -/
def memLoad (s : State) (n : Fin 12) (e : Fin 14) (a : Nat) : EngAcc :=
  if s.marked a || eccArmed s n then .trap trapECC (eccEngine s n e) else .val (s.word a) s

/-- A load of an engine (R237, R238, R285). -/
def engLoad (s : State) (n : Fin 12) (e : Fin 14) (a : Word) : EngAcc :=
  match engAddr a with
  | .data w => match (s.eng n e).phys with
    | none => .trap trapADDR s
    | some p => memLoad s n e (dataBase n.val p.val + 2 * w)
  | .shared w => if lockedOut s n e then .stall else memLoad s n e (sharedBase n.val + 2 * w)
  | .window w => match regionOf (s.cl n) w with
    | none => .val 0 s
    | some _ => .val (s.word (windowBase n.val + 2 * w)) s
  | .pin j => .val (bitW (s.pin (pinOf n j)).filt 0) s
  | .pins => .val (pinLevels s n) s
  | .pacer p w => if ownsPacer s n e p then pacerLoad s n p w else .trap trapADDR s
  | .unit i w => if ownsUnit s n e i then unitLoad s n i w else .trap trapADDR s
  | .conduit q w =>
    if !ownsConduit s n e q then .trap trapADDR s
    else match w with
      | 0 => match (s.conduit n q).inw with
        | [] => .stall
        | v :: _ => .val v (conduitPop s n q)
      | 1 => .val (conduitStat (s.conduit n q)) (s.updConduit n q fun c => { c with trunc := false, tmo := false })
      | _ => .val 0 s
  | .esig | .wdog => .val 0 s
  | .number => .val (bitW (s.cl n).broken.isSome 15 ||| putFld e.val 3 0) s
  | .unlisted => .trap trapADDR s

/-- The latch or drive enable of a pin, written by the engine whose pin port is its source; another engine's write is
ignored and counted (R238, R291). -/
def pinWrite (s : State) (n : Fin 12) (e : Fin 14) (j : Fin 12) (f : Pin → Pin) : State :=
  match s.pinCfg (pinOf n j) with
  | some c => if c.src = 1 ∧ c.index = e.val then s.updPin (pinOf n j) f else writerReject s n e false
  | none => writerReject s n e false

/-- A store to a window word (R253, R255, R257): an OUT word of this engine reaches the fill banks as IMAGE_IN. -/
def windowStore (s : State) (n : Fin 12) (e : Fin 14) (w : Nat) (v : Word) : State :=
  match regionOf (s.cl n) w with
  | none => s
  | some r =>
    if r.kind = .out ∧ r.owner = e.val then
      (s.setWord (windowBase n.val + 2 * w) v).barReady .fh .imageIn (.publish (r.hub + (w - r.win)) [v])
    else writerReject s n e true

/-- A store of an engine (R237, R238, R285). -/
def engStore (s : State) (n : Fin 12) (e : Fin 14) (a v : Word) : EngAcc :=
  match engAddr a with
  | .data w => match (s.eng n e).phys with
    | none => .trap trapADDR s
    | some p => .val 0 (s.storeWord (dataBase n.val p.val + 2 * w) v)
  | .shared w => if lockedOut s n e then .stall else .val 0 (s.storeWord (sharedBase n.val + 2 * w) v)
  | .window w => .val 0 (windowStore s n e w v)
  | .pin j => .val 0 (pinWrite s n e j fun p => { p with latch := bitOf v 0 })
  | .pins => .val 0 s
  | .pacer p w => if ownsPacer s n e p then pacerStore s n p w v else .trap trapADDR s
  | .unit i w => if ownsUnit s n e i then .val 0 (unitStore s n i w v) else .trap trapADDR s
  | .conduit q w =>
    if !ownsConduit s n e q then .trap trapADDR s
    else if w = 0 then
      (if (s.conduit n q).out.length ≥ 8 then .stall else .val 0 (conduitPush s n q v))
    else .val 0 s
  | .esig => .val 0 (if bitOf v 0 then s.evt (CLU_ESIG n.val) e.val else s)
  | .wdog => .val 0 (s.updEng n e kickDog)
  | .number => .val 0 s
  | .unlisted => .trap trapADDR s

def setR (s : State) (n : Fin 12) (e : Fin 14) (r : Fin 16) (v : Word) : State :=
  s.updEng n e fun x => { x with regs := vset x.regs r v }

def getR (s : State) (n : Fin 12) (e : Fin 14) (r : Fin 16) : Word := vget (s.eng n e).regs r

/-- The four flags set. -/
def setFlags (s : State) (n : Fin 12) (e : Fin 14) (o : AluOut) : State :=
  s.updEng n e fun x => { x with z := o.z, n := o.n, c := o.c, v := o.v }

def setZ (s : State) (n : Fin 12) (e : Fin 14) (b : Bool) : State := s.updEng n e fun x => { x with z := b }
def setC (s : State) (n : Fin 12) (e : Fin 14) (b : Bool) : State := s.updEng n e fun x => { x with c := b }

/-- An 8-bit immediate, sign-extended. -/
def sext8 (b : Byte) : Word := b.signExtend 16

/-- A load into rd, or a store from rd, as an instruction's outcome. -/
def loadStep (n : Fin 12) (e : Fin 14) (rd : Fin 16) (a : EngAcc) : EngStep :=
  match a with
  | .val v s => .go (setR s n e rd v)
  | .trap c s => .trap c 0 s
  | .stall => .stall
def storeStep (a : EngAcc) : EngStep :=
  match a with
  | .val _ s => .go s
  | .trap c s => .trap c 0 s
  | .stall => .stall

/-- The edge latches a WAIT of kind 0, 1 or 2 looks at, and after it has cleared them (R289). -/
def edgeLatched (x : Engine) (kind : Nat) (p : Nat) : Bool :=
  (decide (kind ≠ 1) && x.rise.getLsbD p) || (decide (kind ≠ 0) && x.fall.getLsbD p)
def clearLatches (kind p : Nat) (x : Engine) : Engine :=
  let m : BitVec 12 := ~~~ BitVec.ofNat 12 (2 ^ p)
  { x with rise := if kind = 1 then x.rise else x.rise &&& m, fall := if kind = 0 then x.fall else x.fall &&& m }

/-- The condition of a WAIT holds (R289); the instants are noted while the engine waits. -/
def waitHolds (s : State) (n : Fin 12) (e : Fin 14) (kind i : Nat) : Bool :=
  let x := s.eng n e
  match kind with
  | 0 | 1 | 2 => edgeLatched x kind i
  | 3 => !(s.conduit n (reg4 i)).inw.isEmpty
  | 4 => (s.pacer n (reg4 i)).rx.isSome
  | 5 => (s.pacer n (reg4 i)).tx.isNone
  | 6 => !(s.fifo n).entries.isEmpty
  | 7 => x.instSeen
  | _ => true

/-- A WAIT that completes: it clears the latches it waited on; Z tells whether it went dark (R289). -/
def waitDone (s : State) (n : Fin 12) (e : Fin 14) (kind i : Nat) (z : Bool) : State :=
  s.updEng n e fun x =>
    let y := if kind ≤ 2 then clearLatches kind i x else if kind = 0xE then clearLatches 2 i x else x
    { y with z := z, instSeen := false }

/-- A conduit or pacer of a WAIT is bound to the engine (R289). -/
def waitBound (s : State) (n : Fin 12) (e : Fin 14) (kind i : Nat) : Bool :=
  match kind with
  | 3 => ownsConduit s n e (reg4 i)
  | 4 | 5 => ownsPacer s n e (reg4 i)
  | _ => true

/-- T of TWAIT and TCMP (R295); none where the nanoseconds exceed 999,999,999. -/
def timeOperand (s : State) (n : Fin 12) (e : Fin 14) (r : Fin 16) : Option Int :=
  let ns := ofWords [getR s n e (r + 1), getR s n e (r + 2)]
  if ns > 999999999 then none
  else some (ringOf (nearSec (secOf s.fring) (getR s n e r).toNat) ns)

/-- Ring time to the nanosecond (R294). -/
def nsFloor (t : Int) : Int := t / nsT

/-- The effect of a legal instruction (R282-R295), the program counter already at the next one. -/
def engDo (s : State) (n : Fin 12) (e : Fin 14) (op : EngOp) : EngStep :=
  let x := s.eng n e
  let r (i : Fin 16) : Word := getR s n e i
  match op with
  | .nop => .go s
  | .halt =>
    if holdsLock s n e then .stall
    else .go ((haltEngine s n e 3).raise (Src.trap n.val 9) e.val)
  | .wait k i =>
    if !waitBound s n e k i then .trap trapADDR 0 s
    else if k = 7 then .dark (s.updEng n e fun x => { x with instSeen := false })
    else if waitHolds s n e k i then .go (waitDone s n e k i true)
    else .dark s
  | .trap nn => .trap trapSOFT nn s
  | .ret => .go (s.updEng n e fun x => { x with pc := (r 15).extractLsb' 0 12 })
  | .retT =>
    if !x.ta then .trap trapILLEGAL 0 s
    else match x.phys with
      | none => .go s
      | some p =>
        let f := s.word (dataBase n.val p.val + 2 * 0x3FD)
        let pc := s.word (dataBase n.val p.val + 2 * 0x3FF)
        .go (s.updEng n e fun x => { x with z := bitOf f 3, n := bitOf f 2, c := bitOf f 1, v := bitOf f 0,
                                            pc := pc.extractLsb' 0 12, ta := false })
  | .lock =>
    if lockedOut s n e then .stall
    else if holdsLock s n e then .go s
    else .go ((s.updCl n fun c => { c with lock := some e }).updEng n e fun x => { x with lockCount := 0 })
  | .unlock => .go (releaseLock s n e)
  | .sync => .go (s.updEng n e fun x => { kickDog x with synced := true, safe := !holdsLock s n e })
  | .alu f rd rs =>
    let o := aluOut f (r rd) (r rs) x.c x.v
    .go (setFlags (if aluWrites f then setR s n e rd o.val else s) n e o)
  | .addi rd imm =>
    let o := addOut (r rd) (sext8 imm) false
    .go (setFlags (setR s n e rd o.val) n e o)
  | .cmpi rd imm => .go (setFlags s n e (subOut (r rd) (sext8 imm) false))
  | .movi rd imm => .go (setR s n e rd (imm.setWidth 16))
  | .bit f rd b =>
    let (v, z) := bitOut f (r rd) b
    .go (setZ (setR s n e rd v) n e z)
  | .ld rd rs off => loadStep n e rd (engLoad s n e (r rs + wd off))
  | .st rd rs off => storeStep (engStore s n e (r rs + wd off) (r rd))
  | .limm rd imm => .go (setR s n e rd imm)
  | .ldf rd rs imm => loadStep n e rd (engLoad s n e (r rs + imm))
  | .stf rd rs imm => storeStep (engStore s n e (r rs + imm) (r rd))
  | .lda rd imm => loadStep n e rd (engLoad s n e imm)
  | .sta rd imm => storeStep (engStore s n e imm (r rd))
  | .bcc c off =>
    if condHolds c x.z x.n x.c x.v then .go (s.updEng n e fun x => { x with pc := x.pc + off.signExtend 12 }) else .go s
  | .jmp t => .go (s.updEng n e fun x => { x with pc := t })
  | .call t => .go ((setR s n e 15 (x.pc.setWidth 16)).updEng n e fun x => { x with pc := t })
  | .pinrd rd p =>
    let v := match place? 12 p with
      | some j => bitW (s.pin (pinOf n j)).filt 0
      | none => pinLevels s n
    .go (setZ (setR s n e rd v) n e (flagZ v))
  | .pinwr rd p => match place? 12 p with
    | some j => .go (pinWrite s n e j fun q => { q with latch := bitOf (r rd) 0 })
    | none => .go (s.each (List.finRange 12) fun s j => match s.pinCfg (pinOf n j) with
      | some c => if c.src = 1 ∧ c.index = e.val then s.updPin (pinOf n j) fun q => { q with latch := bitOf (r rd) j.val } else s
      | none => s)
  | .pindir rd p => match place? 12 p with
    | some j => .go (pinWrite s n e j fun q => { q with drive := bitOf (r rd) 0 })
    | none => .go (s.each (List.finRange 12) fun s j => match s.pinCfg (pinOf n j) with
      | some c => if c.src = 1 ∧ c.index = e.val then s.updPin (pinOf n j) fun q => { q with drive := bitOf (r rd) j.val } else s
      | none => s)
  | .sho rd p =>
    if !ownsPacer s n e p then .trap trapADDR 0 s
    else if pacerMode (s.pacer n p) ≠ 1 then .trap trapMODE 0 s
    else if (s.pacer n p).tx.isSome then .stall
    else .go (s.updPacer n p (txPut (r rd)))
  | .shoN rd p =>
    if !ownsPacer s n e p then .trap trapADDR 0 s
    else if pacerMode (s.pacer n p) ≠ 1 then .trap trapMODE 0 s
    else if (s.pacer n p).tx.isSome then .go (setC s n e false)
    else .go (setC (s.updPacer n p (txPut (r rd))) n e true)
  | .shi rd p =>
    if !ownsPacer s n e p then .trap trapADDR 0 s
    else if pacerMode (s.pacer n p) ≠ 1 then .trap trapMODE 0 s
    else match (s.pacer n p).rx with
      | none => .stall
      | some v => .go (setR (s.updPacer n p fun y => { y with rx := none }) n e rd v)
  | .shiN rd p =>
    if !ownsPacer s n e p then .trap trapADDR 0 s
    else if pacerMode (s.pacer n p) ≠ 1 then .trap trapMODE 0 s
    else match (s.pacer n p).rx with
      | none => .go (setC s n e false)
      | some v => .go (setC (setR (s.updPacer n p fun y => { y with rx := none }) n e rd v) n e true)
  | .pacePer rd p =>
    if !ownsPacer s n e p then .trap trapADDR 0 s
    else .go (s.updPacer n p (setPer s.now (r rd ++ r (rd + 1))))
  | .paceCnt rd p =>
    if !ownsPacer s n e p then .trap trapADDR 0 s
    else .go (s.updPacer n p (setCnt (r rd ++ r (rd + 1))))
  | .paceRd rd p =>
    if !ownsPacer s n e p then .trap trapADDR 0 s
    else
      let c := (s.pacer n p).cnt
      .go (setZ (setR (setR s n e rd (c.extractLsb' 16 16)) n e (rd + 1) (c.extractLsb' 0 16)) n e (decide (c = 0)))
  | .paceSt rd p =>
    if !ownsPacer s n e p then .trap trapADDR 0 s
    else .go (setR (s.updPacer n p clearPacerStat) n e rd (pacerStat (s.pacer n p)))
  | .edge rd =>
    let (ws, s1) := fifoPop s n
    let w (i : Nat) : Word := (ws[i]?).getD 0
    .go (setZ (setR (setR (setR (setR s1 n e rd (w 0)) n e (rd + 1) (w 1)) n e (rd + 2) (w 2)) n e (rd + 3) (w 3)) n e
      (s.fifo n).entries.isEmpty)
  | .send rd q =>
    if !ownsConduit s n e q then .trap trapADDR 0 s
    else if (s.conduit n q).out.length ≥ 8 then .stall
    else .go (conduitPush s n q (r rd))
  | .recv rd q =>
    if !ownsConduit s n e q then .trap trapADDR 0 s
    else match (s.conduit n q).inw with
      | [] => .dark s
      | v :: _ => .go (setR (conduitPop s n q) n e rd v)
  | .peek rd q =>
    if !ownsConduit s n e q then .trap trapADDR 0 s
    else match (s.conduit n q).inw with
      | [] => .go (setC s n e false)
      | v :: _ => .go (setC (setR s n e rd v) n e true)
  | .poll rd q =>
    if !ownsConduit s n e q then .trap trapADDR 0 s
    else match (s.conduit n q).inw with
      | [] => .go (setC s n e false)
      | v :: _ => .go (setC (setR (conduitPop s n q) n e rd v) n e true)
  | .tstamp rd =>
    let ns := nsOf s.fring
    .go (setR (setR (setR (setR s n e rd (bitW s.time.fdom 15 ||| bitW s.time.fhold 14)) n e (rd + 1) (wd (secOf s.fring)))
      n e (rd + 2) (wd (ns / 65536))) n e (rd + 3) (wd ns))
  | .twait rs => match timeOperand s n e rs with
    | none => .trap trapTIME 0 s
    | some t => if t ≤ s.fring then .go (setC s n e true)
                else .dark (s.updEng n e fun x => { x with c := false, wakeAt := t })
  | .tcmp rs => match timeOperand s n e rs with
    | none => .trap trapTIME 0 s
    | some t => .go (s.updEng n e fun x =>
        { x with c := decide (nsFloor t ≤ nsFloor s.fring), z := decide (nsFloor t = nsFloor s.fring), n := false, v := false })
  | .illegal _ => .trap trapILLEGAL 0 s

/-- A halt of the debug port (cause 1) or of a breakpoint (cause 2) takes place (R511, R514). -/
def debugHalt (s : State) (n : Fin 12) (e : Fin 14) (cause : Nat) : State :=
  let s1 := haltEngine s n e cause
  if cause = 2 then (s1.updEng n e fun x => { x with bpHit := true }).evt DBG_EVT 13 else s1.evt DBG_EVT 15

/-- A deferred halt takes place once the engine holds no LOCK (R511, R514); a step ends halted (R511). -/
def afterInstr (s : State) (n : Fin 12) (e : Fin 14) : State :=
  let x := s.eng n e
  if x.run ≠ .running then s
  else match x.haltPending with
    | some c => if holdsLock s n e then s else debugHalt s n e c
    | none =>
      if x.stepping ∧ x.dark.isNone ∧ x.stall.isNone then debugHalt s n e 1 else s

/-- The report of a trap; that of MEM_ECC may come of an injection (R297, R434). -/
def trapReport (s : State) (n : Fin 12) (e : Fin 14) (cause : Nat) : State :=
  let src := Src.trap n.val cause
  if cause = trapSOFT then s
  else if cause = trapECC then
    let (inj, s1) := fieldCheck s src
    raiseField s1 src e.val inj
  else s.raise src e.val

/-- TRAP_ENTRY (R297), or the halt of a second trap (R299). -/
def engTrap (s : State) (n : Fin 12) (e : Fin 14) (cause : Nat) (nn : Byte) (tpc : BitVec 12) : State :=
  let x := s.eng n e
  if x.ta ∧ cause ≠ trapWDOG then
    let s1 := (releaseLock s n e).updEng n e fun x => { x with pc := tpc }
    (haltEngine s1 n e 3).raise (Src.trap n.val 0xA) e.val
  else match x.phys with
    | none => s
    | some p =>
      let b := dataBase n.val p.val
      let s1 := s.storeWord (b + 2 * 0x3FF) (tpc.setWidth 16)
      let s2 := s1.storeWord (b + 2 * 0x3FE) (putFld cause 15 8 ||| nn.setWidth 16)
      let s3 := s2.storeWord (b + 2 * 0x3FD) (bitW x.z 3 ||| bitW x.n 2 ||| bitW x.c 1 ||| bitW x.v 0)
      let s4 := (releaseLock s3 n e).updEng n e fun x => { x with ta := true, pc := 1, wdTrap := false }
      afterInstr ((trapReport s4 n e cause).trace (clTrace n) 3 e.val cause) n e

/-- A safe point in intermission (R267, R485): an engine that holds no LOCK stops there. -/
def intmStop (s : State) (n : Fin 12) (e : Fin 14) : State :=
  if s.fintm ∧ !holdsLock s n e then s.updEng n e fun x => { x with intm := true } else s

/-- The engine goes dark (R261). -/
def goDark (s : State) (n : Fin 12) (e : Fin 14) (op : EngOp) : State :=
  let d := match op with | .recv .. => 1 | .twait .. => 2 | _ => 0
  intmStop ((s.updEng n e fun x => { x with dark := some op, safe := true }).trace (clTrace n) 1 e.val d) n e

/-- The program counter of the next instruction, and one more instruction under the lock (R278, R290). -/
def advance (s : State) (n : Fin 12) (e : Fin 14) (op : EngOp) : State :=
  let held := holdsLock s n e
  s.updEng n e fun x =>
    { x with pc := x.pc + BitVec.ofNat 12 op.size, bpHit := false, safe := false, lockCount := if held then x.lockCount + 1 else x.lockCount }

/-- One instruction issues: ILLEGAL before LOCK_OVERRUN before its other causes (R300); one that would wait under the
lock traps LOCK_OVERRUN and is not performed (R290). -/
def issueCore (s : State) (n : Fin 12) (e : Fin 14) (op : EngOp) : State :=
  let x := s.eng n e
  if !engLegal op || (decide (op = .retT) && !x.ta) then engTrap s n e trapILLEGAL 0 x.pc
  else if holdsLock s n e ∧ x.lockCount ≥ 32 then engTrap s n e trapLOCK 0 x.pc
  else
    let s1 := advance s n e op
    match engDo s1 n e op with
    | .go s2 => if op = .sync then intmStop (afterInstr s2 n e) n e else afterInstr s2 n e
    | .trap c nn s2 => engTrap s2 n e c nn (if c = trapSOFT then (s1.eng n e).pc else x.pc)
    | .dark s2 => if holdsLock s n e then engTrap s1 n e trapLOCK 0 x.pc else goDark s2 n e op
    | .stall =>
      if holdsLock s n e then engTrap s1 n e trapLOCK 0 x.pc
      else s1.updEng n e fun x => { x with stall := some op }

/-- The engine is stopped for its migration (R267). -/
def migStopped (s : State) (n : Fin 12) (e : Fin 14) : Bool :=
  match (s.cl n).mig with
  | none => false
  | some m => decide (m.leng = e) && m.stopped

/-- The engine issues instructions now. -/
def canIssue (s : State) (n : Fin 12) (e : Fin 14) : Bool :=
  let x := s.eng n e
  decide (x.run = .running) && x.phys.isSome && x.dark.isNone && x.stall.isNone && !x.intm && !migStopped s n e

/-- An enabled breakpoint of the cluster stands at the engine's PC (R514); its four registers are kept under selector
4n + i. -/
def atBreakpoint (s : State) (n : Fin 12) (e : Fin 14) : Bool :=
  (List.range 4).any fun i =>
    let b := s.regSel DBG_BP_ENG (4 * n.val + i)
    bitOf b 15 && decide (fld b 3 0 = e.val) && decide (fld (s.regSel DBG_BP_PC (4 * n.val + i)) 11 0 = (s.eng n e).pc.toNat)

/-- The issue of an instruction by a logical engine: a pending WDOG trap is taken first (R300), then a breakpoint halts
before the issue, deferred under LOCK (R514), then the instruction issues. -/
def engIssue (s : State) (n : Fin 12) (e : Fin 14) (op : EngOp) : State :=
  let x := s.eng n e
  if !canIssue s n e then s
  else if x.wdTrap then engTrap s n e trapWDOG 0 x.pc
  else if atBreakpoint s n e ∧ !x.bpHit then
    if holdsLock s n e then
      issueCore (s.updEng n e fun x => { x with haltPending := some (x.haltPending.getD 2) }) n e op
    else debugHalt s n e 2
  else issueCore s n e op

/-- An instant of R289's kind 7 occurs: 0 sample, 1 latch, 2 flip, 3 image. -/
def noteInstant (s : State) (n : Fin 12) (i : Nat) : State :=
  s.updCl n fun c => { c with engines := c.engines.map fun x =>
    match x.dark with
    | some (.wait 7 j) => if j = i then { x with instSeen := true } else x
    | _ => x }

def noteInstantAll (s : State) (i : Nat) : State := s.each (List.finRange 12) fun s n => noteInstant s n i

/-- The condition of a dark engine holds (R261, R289, R293, R295). -/
def darkHolds (s : State) (n : Fin 12) (e : Fin 14) (op : EngOp) : Bool :=
  match op with
  | .wait k i => waitHolds s n e k i
  | .recv _ q => !(s.conduit n q).inw.isEmpty
  | .twait _ => decide ((s.eng n e).wakeAt ≤ s.fring)
  | _ => true

/-- A dark engine's instruction completes and the engine issues again (R261). -/
def engWake (s : State) (n : Fin 12) (e : Fin 14) : State :=
  let x := s.eng n e
  match x.dark with
  | none => s
  | some op =>
    if x.run ≠ .running ∨ x.intm ∨ migStopped s n e ∨ !darkHolds s n e op then s
    else
      let s1 := s.updEng n e fun x => { x with dark := none }
      let s2 := match op with
        | .wait k i => (waitDone s1 n e k i false).trace (clTrace n) 2 e.val 0
        | .recv rd q =>
          (setR (conduitPop s1 n q) n e rd (((s.conduit n q).inw.head?).getD 0)).trace (clTrace n) 2 e.val 1
        | _ => s1.trace (clTrace n) 2 e.val 2
      afterInstr s2 n e

/-- A stalled instruction finds room, data or the lock and completes (R290, R292, R293). -/
def stallEnd (s : State) (n : Fin 12) (e : Fin 14) : State :=
  let x := s.eng n e
  match x.stall with
  | none => s
  | some op =>
    if x.run ≠ .running ∨ x.intm ∨ migStopped s n e then s
    else match engDo (s.updEng n e fun x => { x with stall := none }) n e op with
      | .go s1 => afterInstr s1 n e
      | .trap c nn s1 => engTrap s1 n e c nn (x.pc - BitVec.ofNat 12 op.size)
      | _ => s

end Sys2Proof.Machine
end

