-- ==== Sys2Proof/Machine/Requests.lean ====
section
/-! DEFINITION. The requester's side of the bridge that other units call: completions and how they reach a requester
(R205, R206, R228, R250, R474, R481), the end of an open request, and what becomes of a request whose frame leaves the
switch otherwise than through an output (R214). -/

namespace Sys2Proof.Machine

/-- The node's ring number and its own word of source or destination (R143, R174, R200). -/
def State.ringNo (s : State) : Nat := match s.fab.tables with | none => s.fab.ringHeard.getD 0 | some t => t.ring

/-- The node knows its ring: by the CAST section, or from the source of the last roll page while it holds none (R181, R193;
notes/assumptions/134.md). -/
def State.ringKnown (s : State) : Bool := s.fab.tables.isSome || s.fab.ringHeard.isSome
def State.srcWord (s : State) : Word := putFld s.ringNo 15 12 ||| putFld s.fab.node 11 0

/-- BRG_EVT bits (R234). -/
abbrev brgFERR : Nat := 15
abbrev brgLATE_RSP : Nat := 14
abbrev brgLOCK_TMO : Nat := 13
abbrev brgSEM_TMO : Nat := 12
abbrev brgSTG_ABORT : Nat := 11
abbrev brgSTG_ORPHAN : Nat := 10
abbrev brgPLOSS : Nat := 9
abbrev brgDUP_EVICT : Nat := 8
abbrev brgTIMEOUT : Nat := 7

/-- Word 0 of a response payload: OP RSP, DATA, LEN and STATUS (R204). -/
def rspWord0 (status : Nat) (data : List Word) : Word :=
  putFld 0xD 15 12 ||| bitW (!data.isEmpty) 11 ||| putFld (data.length - 1) 10 6 ||| putFld status 5 0

/-- A completion in the form of R250: the RSP payload. -/
def completionWords (c : Completion) : List Word := rspWord0 c.status c.data :: wd c.seq :: c.data

/-- Completion words queued for a conduit's inward queue at the hub (R250). -/
def conduitDeliver (s : State) (n : Fin 12) (q : Fin 16) (ws : List Word) : State :=
  (s.updConduit n q fun c => { c with hubIn := c.hubIn ++ [ws] }).barReady .hf .signal (.conduit n.val q.val [])

/-- An item of an envelope has its completion (R474). -/
def setEnvItem (l : List EnvItem) (i : Nat) (c : Completion) : List EnvItem := l.set i (.done c)

/-- A completion reaches its requester: the QSPI FETCH queue, the envelope, the debug port, the conduit, or the service
engine's list (R201, R250, R474, R481, R508). -/
def giveCompletion (s : State) (via : ReqVia) (c : Completion) : State :=
  match via with
  | .conduit n q =>
    match place? 12 n, place? 16 q with
    | some n, some q => conduitDeliver s n q (completionWords c)
    | _, _ => s
  | .envelope key i => s.updHost fun h =>
      { h with envs := h.envs.map fun e => if e.key = key then { e with items := setEnvItem e.items i c } else e }
  | .dap => if s.dbg.dapBusy then s.updDbg fun d =>
      { d with dap := 0, dapBusy := false, dapStatus := c.status, dapData := (c.data.head?).getD 0 } else s
  | .plain =>
    if c.ep = 0 then s.updHost fun h => { h with qsFetch := h.qsFetch ++ completionWords c }
    else s.updBrg fun b => { b with completions := b.completions ++ [c] }

/-- The open request of an endpoint, tag and sequence number (R210). -/
def openFind (s : State) (ep tag seq : Nat) : Option OpenReq :=
  s.brg.opens.find? fun o => decide (o.desc.ep = ep) && decide (o.tag = tag) && decide (o.seq = seq)

/-- A staged write of a set has completed (R230). -/
def setDone (o : OpenReq) (status : Nat) (x : OpenSet) : OpenSet :=
  if o.desc.op = .stg ∧ x.ep = o.desc.ep ∧ x.set = o.desc.set then
    { x with open_ := x.open_ - 1
             failed := if status ≠ stOK ∧ x.failed.isNone then some (o.desc.dnode, status) else x.failed }
  else x

/-- An open request ends: its tag is free and its completion goes to the requester (R202). -/
def openEnd (s : State) (o : OpenReq) (status : Nat) (data : List Word) : State :=
  giveCompletion (s.updBrg fun b => { b with opens := b.opens.filter (· ≠ o), sets := b.sets.map (setDone o status) }) o.via
    ⟨o.desc.ep, o.tag, o.seq, o.desc.op, status, data⟩

/-- An endpoint is marked with a possible loss of posted requests by a re-pin (R219). -/
def posLoss (s : State) (ep : Nat) : State :=
  match place? 32 ep with
  | none => s
  | some i => (s.updBrg fun b => { b with eps := vupd b.eps i fun e => { e with ploss := true } }).evt BRG_EVT brgPLOSS

/-- A posted request or signal to a destination has left the node (R218). -/
def postedGone (s : State) (ep : Nat) (dest : Word) : State :=
  match place? 32 ep with
  | none => s
  | some i => s.updBrg fun b => { b with eps := vupd b.eps i fun e => { e with posted := e.posted.erase dest } }

/-- The operations whose loss at the source counts as a posted request or signal (R214). -/
def lostPosted (op : TxnOp) : Bool := op.posted

/-- The node's own hop counts and those of a node, by the destination table (R190). -/
def destOf (s : State) (d : Nat) : Option Dest := s.fab.dests.find? fun x => decide (x.node = d)

/-- The status of a node that has not answered when a RANGE or GWR ends (R227, R228). DEDUCED: which nodes are cast this node knows for its
own ring alone, so a silent node of another ring counts as TIMEOUT (notes/assumptions/135.md). -/
def silentStatus (s : State) (o : OpenReq) (n : Nat) : Nat :=
  if o.desc.op = .range ∧ o.desc.dring = s.ringNo ∧ (destOf s n).isNone ∧ n ≠ s.fab.node then stNO_DEST else stTIMEOUT

/-- The status node n gave, or the one its silence stands for. -/
def answerStatus (s : State) (o : OpenReq) (n : Nat) : Nat :=
  match o.answers.find? fun a => decide (a.node = n) with
  | none => silentStatus s o n
  | some a => a.status

/-- The payload of R228 from the answers collected. -/
def groupResult (s : State) (o : OpenReq) : Nat × List Word :=
  let known := !o.expected.isEmpty
  let nodes : List Nat := if known then o.expected else o.answers.map (·.node)
  let okCount := (nodes.filter fun (n : Nat) => decide (answerStatus s o n = stOK)).length
  let firstBad := nodes.foldl (fun (m : Option Nat) n =>
    if answerStatus s o n = stOK then m else match m with | none => some n | some k => some (min k n)) none
  let status := if o.answers.isEmpty then stTIMEOUT else if okCount = nodes.length then stOK else stPARTIAL
  let bits (from_ : Nat) : Word := (List.range 16).foldl (fun w i =>
    match nodes[from_ + i]? with
    | none => w
    | some n => if nodes.length ≤ 32 ∧ known ∧ answerStatus s o n = stOK then w ||| bitW true (15 - i) else w) 0
  (status, [bits 0, bits 16, wd o.expected.length, wd okCount, wd (firstBad.getD 0),
    match firstBad with | none => 0 | some n => putFld (answerStatus s o n) 5 0])

/-- An answer of one member or node of a GWR or RANGE joins those it has; with the last one expected the request ends (R226-R228). -/
def answerAdd (s : State) (o : OpenReq) (node status : Nat) : State :=
  let o1 : OpenReq :=
    if o.answers.any (fun a => decide (a.node = node)) then o else { o with answers := o.answers ++ [⟨node, status⟩] }
  let s1 := s.updBrg fun b => { b with opens := b.opens.map fun x => if x = o then o1 else x }
  if !o1.expected.isEmpty ∧ o1.expected.all fun n => o1.answers.any fun a => decide (a.node = n) then
    let (st, ws) := groupResult s1 o1
    openEnd s1 o1 st ws
  else s1

/-- A response reaches the requester's bridge (R210, R226-R228). -/
def answerTo (s : State) (ep tag seq node status : Nat) (data : List Word) : State :=
  match openFind s ep tag seq with
  | none => ((s.bump BRG_LATE_RSP).evt BRG_EVT brgLATE_RSP).raise Src.lateResponse ep
  | some o =>
    if o.desc.op = .gwr ∨ o.desc.op = .range then answerAdd s o node status
    else openEnd s o status data

/-! The duplicate filter (R215). -/

/-- An entry is keyed by source, tag and sequence number. -/
def isKey (src : Issuer) (tag seq : Nat) (d : DupEntry) : Bool :=
  decide (d.src = src) && decide (d.tag = tag) && decide (d.seq = seq)
def dupFind (s : State) (src : Issuer) (tag seq : Nat) : Option DupEntry := s.brg.dups.find? (isKey src tag seq)

/-- An entry joins the filter; a full filter evicts its oldest. -/
def dupAdd (s : State) (d : DupEntry) : State :=
  if s.brg.dups.length < 512 then s.updBrg fun b => { b with dups := b.dups ++ [d] }
  else (((s.updBrg fun b => { b with dups := b.dups.tail ++ [d] }).bump BRG_DUP_EVICT).evt BRG_EVT brgDUP_EVICT).raise Src.dupEvict 0

/-- An entry changes. -/
def dupUpdate (s : State) (src : Issuer) (tag seq : Nat) (f : DupEntry → DupEntry) : State :=
  s.updBrg fun b => { b with dups := b.dups.map fun d => if isKey src tag seq d then f d else d }

/-- A request that a target already has (R215): counted; it draws the stored response again, once there is one. -/
def duplicateOf (reply : State → Request → Response → State) (s : State) (q : Request) (d : DupEntry) : State :=
  let s1 := (s.bump BRG_DUPS).raise Src.duplicateServed q.src.ep
  match d.response with
  | some r => if d.done then reply s1 q r else s1
  | none => s1

/-- A request is received by a target (R215, R216): it enters the filter and its buffer, unless it is a duplicate. -/
def receiveRequest (reply : State → Request → Response → State) (s : State) (w : Waiting) : State :=
  let q := w.req
  match dupFind s q.src q.tag q.seq with
  | some d => duplicateOf reply s q d
  | none => (dupAdd s ⟨q.src, q.tag, q.seq, none, false, false, w.op⟩).updBrg fun b => { b with waiting := b.waiting ++ [w] }

/-- The node's own requester takes a response at once (R209). -/
def replyOwn (s : State) (q : Request) (r : Response) : State := answerTo s q.src.ep q.tag q.seq s.fab.node r.status r.data

/-- R214: the frame of a request is retired at its source. A non-posted request completes with the status; a posted
request or signal is counted and its loss reported. DEDUCED: a RANGE has one frame for each node, so a retirement is that node's answer, and
the RANGE goes on for the others (notes/assumptions/133.md). -/
def requestRetired (s : State) (o : Origin) (dest : Word) (status : Nat) : State :=
  let op := TxnOp.ofCode o.op
  if op = .rsp then s
  else if lostPosted op then
    (((postedGone s o.ep dest).bump BRG_PRET).evt BRG_EVT brgPLOSS).raise Src.postedLost o.ep
  else match openFind s o.ep o.tag o.seq with
    | none => s
    | some r =>
      if r.desc.op = .range then answerAdd s r (fld dest 11 0) status
      else openEnd s r status (if r.desc.op = .gwr then (groupResult s r).2 else [])

end Sys2Proof.Machine
end

