-- ==== Sys2Proof/Machine/SwitchOps.lean ====
section
/-! DEFINITION. The operations of the switch core that other units share: ports (R160, R167), cells, queues, quotas and
limits (R161-R164), the choice of a ring (R165, R190), re-pinning (R166, R219), retirement (R214) and the sending of
frames and notices. -/

namespace Sys2Proof.Machine

/-- Hops to node d on ring A, while L is known (R190). -/
def hopsA (s : State) (d : Nat) : Option Nat :=
  match destOf s d with
  | none => none
  | some x => if s.fab.loop = 0 then none else some ((x.ha + s.fab.loop - s.fab.hA % s.fab.loop) % s.fab.loop)

def hopsOn (s : State) (r : Ring) (d : Nat) : Option Nat :=
  match hopsA s d with
  | none => none
  | some h => some (match r with | .a => h | .b => s.fab.loop - h)

/-- A port of the switch is down (R160). -/
def portOff (s : State) (p : Fin 20) : Bool :=
  vget s.sw.faultHeld p || vget s.sw.down p ||
  (match p.val with
    | 0 => !(s.link .east).state.carries
    | 1 => !(s.link .west).state.carries
    | 2 => !((vget s.host.ups 0).up && s.bit HST_CTRL 15)
    | 3 => !((vget s.host.ups 1).up && s.bit HST_CTRL 14)
    | 4 => !s.bit HST_CTRL 12
    | 5 => false
    | 6 => false
    | 7 => s.cans.toList.all fun c => decide (c.phase = .off)
    | k => match place? 12 (k - 8) with
      | none => true
      | some n => !(s.cl n).online)

/-- The switch port of a ring's insertion queue (R160). -/
def ringPort (r : Ring) : Fin 20 := match r with | .a => 0 | .b => 1

/-- A ring reaches a node of the own ring: its port is up and no announced break lies before the node (R165, R166). A
break before a node of unknown place counts. -/
def reaches (s : State) (r : Ring) (d : Nat) : Bool :=
  !portOff s (ringPort r) && s.sw.breaks.all fun b =>
    decide (b.1 ≠ r) || (match hopsOn s r b.2, hopsOn s r d with
      | some hb, some hd => decide (hd < hb)
      | _, _ => false)

/-- The hash of R165: bit 0 clear picks ring A. -/
def flowHash (s : State) (ep cls : Nat) (dest : Word) : Ring :=
  let h := crcWords 16 0x1021 0xFFFF [putFld cls 15 14 ||| putFld ep 4 0, dest, wd s.fab.node]
  if h % 2 = 0 then .a else .b

/-- The ring with fewer hops, ring A on equal counts; while L is unknown, the ring on which both nodes were reached, and
ring A otherwise (R165, R190). -/
def ringByHops (s : State) (d : Nat) : Ring :=
  match destOf s d with
  | none => .a
  | some x =>
    match hopsA s d with
    | some h => if h ≤ s.fab.loop - h then .a else .b
    | none =>
      let ownA := s.prompting || decide (s.fab.hA ≠ 0)
      let ownB := s.prompting || decide (s.fab.hB ≠ 0)
      if ownA && decide (x.ha ≠ 0) then .a
      else if ownB && decide (x.hb ≠ 0) then .b
      else .a

/-- The exit in use for a foreign ring (R196). -/
def exitNode (s : State) (ring : Nat) : Option Nat :=
  match s.fab.tables, place? 16 ring with
  | some t, some i =>
    match t.routes.find? fun x => decide (x.1 = ring) with
    | none => none
    | some (_, pri, alt) => match vget s.fab.use i with
      | 1 => some pri
      | 2 => some alt
      | _ => none
  | _, _ => none

/-- The node on the own ring to which a destination word leads: itself, or the exit for its ring. -/
def ringTarget (s : State) (dest : Word) : Option Nat :=
  let r := fld dest 15 12
  if r = s.ringNo then some (fld dest 11 0) else exitNode s r

/-- The choice of R165 for a flow that is not pinned. -/
def freshRing (s : State) (ep cls : Nat) (dest : Word) : Ring :=
  let d := (ringTarget s dest).getD 0
  let both := reaches s .a d && reaches s .b d
  let r := if s.bit SWQ_CTRL 15 && both then flowHash s ep cls dest else ringByHops s d
  if !reaches s r d && reaches s r.other d then r.other else r

def flowOf (s : State) (ep cls : Nat) (dest : Word) : Option Flow :=
  s.sw.flows.find? fun f => decide (f.ep = ep) && decide (f.dest = dest) && decide (f.cls = cls)

/-- The ring of a flow, which it keeps (R165); a frame that waits is noted (R166). -/
def pinFlow (s : State) (ep cls : Nat) (dest : Word) : Ring × State :=
  match flowOf s ep cls dest with
  | some f =>
    (f.ring, s.updSw fun w => { w with flows := w.flows.map fun g => if g = f then { g with lastCycle := s.present } else g })
  | none =>
    let r := freshRing s ep cls dest
    (r, s.updSw fun w => { w with flows := w.flows ++ [⟨ep, dest, cls, r, false, s.present, none⟩] })

/-- Queue 4 x port + class (R162). -/
def queueIx (p : Fin 20) (cls : Nat) : Fin 80 := ⟨4 * p.val + cls % 4, by omega⟩
def State.queue (s : State) (p : Fin 20) (cls : Nat) : List QEntry := vget s.sw.queues (queueIx p cls)
def State.updQueue (s : State) (p : Fin 20) (cls : Nat) (f : List QEntry → List QEntry) : State :=
  s.updSw fun w => { w with queues := vupd w.queues (queueIx p cls) f }

def cellsOf (l : List QEntry) : Nat := l.foldl (fun n e => n + e.frame.cells) 0
def allEntries (s : State) : List QEntry := s.sw.queues.toList.foldr (· ++ ·) []

/-- Cells in use, free, held by an input, and in a queue (R161, R163, R173). Two are reserved for the response of each open request (R216).
DESIGN CHOICE: a notice of this node, which comes by no input and has no sender that could wait, holds none (notes/assumptions/136.md). -/
def usedCells (s : State) : Nat := cellsOf ((allEntries s).filter fun e => decide (e.input ≠ 20)) + 2 * s.brg.opens.length
def freeCells (s : State) : Nat := 8192 - usedCells s
def inputUse (s : State) (i : Nat) : Nat := cellsOf ((allEntries s).filter fun e => decide (e.input = i))
def quota (s : State) (i : Nat) : Nat := fld (s.regSel SWQ_QUOTA i) 13 0
def qlim (s : State) (p : Fin 20) (cls : Nat) : Nat := fld (s.regSel SWQ_QLIM (queueIx p cls).val) 13 0

/-- The allowance of a ring, and the URGENT reserve (R154). -/
def allowance (s : State) (r : Ring) : Nat := (s.reg (match r with | .a => SWQ_ALLOW_A | .b => SWQ_ALLOW_B)).toNat
def urgReserve (s : State) : Nat := min 1024 (s.fld SWQ_URG_RES 10 0)

/-- A frame of n words may start (R154). -/
def mayStart (s : State) (r : Ring) (cls n : Nat) : Bool :=
  let x := s.stream r
  let a := allowance s r
  decide (x.used + n ≤ a) || (decide (cls = 0) && decide (x.used + n ≤ a + urgReserve s)) ||
  (decide (a < n) && decide (x.used = 0) && decide (x.debt = 0))

/-- The frame at the head of a queue of a ring port waits for allowance: the queue is back-pressured (R154). -/
def awaits (s : State) (p : Fin 20) (cls : Nat) : Bool :=
  match s.queue p cls with
  | [] => false
  | e :: _ => match p.val with
    | 0 => !mayStart s .a cls e.frame.size
    | 1 => !mayStart s .b cls e.frame.size
    | _ => false

/-- The switch has room for a frame from an input for a queue (R154, R163). -/
def roomFor (s : State) (i : Nat) (p : Fin 20) (f : Frame) : Bool :=
  decide (inputUse s i < quota s i) && decide (cellsOf (s.queue p f.cls) < qlim s p f.cls) &&
  decide (f.cells ≤ freeCells s) && !awaits s p f.cls

/-- An input is back-pressured (R163, R164): a frame of it waits, or it is above a cut quota. -/
def pressed (s : State) (i : Fin 20) : Bool := (vget s.sw.bp i).isSome || (vget s.sw.cut i && decide (2 ≤ i.val))

/-- The requests of a kind that the target's buffers of R216 hold, those on their way through the switch included. -/
def txnKind (op : TxnOp) : Nat := match op with
  | .sig => 2
  | .pwr | .commit | .abort | .cancel => 0
  | _ => 1
def frameOp (f : Frame) : TxnOp := TxnOp.ofCode (fld ((f.payload.head?).getD 0) 15 12)
def txnHeld (s : State) (k : Nat) : Nat :=
  (s.brg.waiting.filter fun w => decide (w.op ≠ .rsp) && decide (txnKind w.op = k)).length +
  ((List.range 4).foldl (fun n c => n + ((s.queue 6 c).filter fun e =>
    decide (e.frame.type = 0) && decide (frameOp e.frame ≠ .rsp) && decide (txnKind (frameOp e.frame) = k)).length) 0)
def txnLimit (k : Nat) : Nat := if k = 2 then 16 else 32

/-- Cut quotas show until the use falls below them (R164). -/
def recut (s : State) : State :=
  s.updSw fun w => { w with cut := Vector.ofFn fun i => vget w.cut i && decide (quota s i.val ≤ inputUse s i.val) }

/-- A write to SWQ_QUOTA (R164): below the cells held, the input's QCUT bit is set, with the event. -/
def quotaWritten (s : State) (i : Fin 20) : State :=
  if quota s i.val < inputUse s i.val then
    (s.updSw fun w => { w with cut := vset w.cut i true }).evt SWQ_EVT 14
  else recut s

/-- An entry joins its class queue of a port, at the tail or, after a refusal, at the head (R149, R162); NOCELL when the
last cell is taken. -/
def enqueue (s : State) (p : Fin 20) (e : QEntry) (front : Bool) : State :=
  let s1 := s.updQueue p e.frame.cls fun q => if front then e :: q else q ++ [e]
  if freeCells s1 = 0 then s1.evt SWQ_EVT 9 else s1

/-- What a retirement counts and reports, and the end of its transaction (R149, R161, R167, R168, R197, R214). -/
def retire (s : State) (e : QEntry) (why : Retire) (port : Nat) : State :=
  let s1 := match why with
    | .noDest => (s.bump SWQ_NODEST).raise Src.retNoDest port
    | .aged => ((s.bump SWQ_AGED).evt SWQ_EVT 10).raise Src.retAged port
    | .portDown => (s.bump SWQ_PDOWN).raise Src.retPortDown port
    | .refused => ((s.bump SWQ_REFUSED).evt SWQ_EVT 12).raise Src.retRefused port
    | .ecc => s
    | .size => (s.bump SWQ_BADHDR).raise Src.badHeader port
    | .noRoute => ((s.bump FAB_NOROUTE).evt FAB_EVT 6).raise Src.noRoute e.frame.dring
  match e.origin with
  | none => s1
  | some o => requestRetired s1 o e.frame.w1 why.status

def retireAll (s : State) (l : List QEntry) (why : Retire) (port : Nat) : State := s.each l fun s e => retire s e why port

/-- A frame for an output port: retired SIZE where it is an URGENT frame of more than 32 payload words (R142), PORT_DOWN where the port is
down (R167), or NO_ROUTE where it has come round the ring to cross the joint there (R198). -/
def submit (s : State) (p : Fin 20) (e : QEntry) : State :=
  if e.frame.cls = 0 ∧ e.frame.payload.length > 32 then retire s e .size p.val
  else if portOff s p then
    retire s e (if e.input < 2 ∧ s.ringKnown = true ∧ e.frame.dring ≠ s.ringNo then .noRoute else .portDown) p.val
  else enqueue s p e false

/-- Group or broadcast (R174). -/
def multi (dnode : Nat) : Bool := decide (4000 ≤ dnode)

/-- A group or broadcast frame of the own ring: it goes on both rings, one copy each (R165). -/
def bothRings (s : State) (f : Frame) : Bool := multi f.dnode && decide (f.dring = s.ringNo)

/-- Its copy on the other ring stands for an entry: it has not been refused and queued again (R150). -/
def hasTwin (s : State) (e : QEntry) : Bool := bothRings s e.frame && decide (e.refusals = 0)

/-- The switch port of the joining uplink (R195). -/
def jointPort (s : State) : Fin 20 :=
  match s.fab.tables with
  | none => 2
  | some t => if t.jointPort then 3 else 2

/-- A frame of this node goes toward its destination: both rings for a group or broadcast of the own ring, the joint's
uplink where this node is the exit, else the ring of its flow (R165, R195). A frame for a ring without an exit in use is
retired NO_ROUTE. -/
def sendFrame (s : State) (input ep : Nat) (f : Frame) (origin : Option Origin) (joints : Nat) : State :=
  let e : QEntry := ⟨f, input, s.now, 0, origin, joints⟩
  if bothRings s f then submit (submit s 0 e) 1 e
  else match ringTarget s f.w1 with
    | none => retire s e .noRoute input
    | some d =>
      if f.dring ≠ s.ringNo ∧ d = s.fab.node then submit s (jointPort s) e
      else
        let (r, s1) := pinFlow s ep f.cls f.w1
        submit s1 (ringPort r) e

/-- The output ports to which sendFrame brings a frame, while nothing retires it. -/
def sendPorts (s : State) (ep : Nat) (f : Frame) : List (Fin 20) :=
  if bothRings s f then [0, 1]
  else match ringTarget s f.w1 with
    | none => []
    | some d =>
      if f.dring ≠ s.ringNo ∧ d = s.fab.node then [jointPort s]
      else match flowOf s ep f.cls f.w1 with
        | some x => [ringPort x.ring]
        | none => [ringPort (freshRing s ep f.cls f.w1)]

/-- A notice of this node on one ring, and on both rings (R145); a node that holds no number inserts nothing (R176). -/
def noticeOn (s : State) (r : Ring) (f : Frame) : State :=
  if s.fab.node = 0 then s else submit s (ringPort r) ⟨f, 20, s.now, 0, none, 0⟩
def broadcast (s : State) (cls sub : Nat) (payload : List Word) : State :=
  let f := Frame.mk' cls 1 sub (putFld s.ringNo 15 12 ||| wd 4095) s.srcWord 0 payload
  noticeOn (noticeOn s .a f) .b f

/-- A frame to a node of the own ring that is not a transaction: a fetch or a CAN or conduit frame. -/
def sendTo (s : State) (input cls type sub node : Nat) (payload : List Word) : State :=
  if s.fab.node = 0 then s
  else sendFrame s input 0 (Frame.mk' cls type sub (putFld s.ringNo 15 12 ||| putFld node 11 0) s.srcWord 0 payload) none 0

/-- Endpoints whose requester sits at a switch port (R160, R201). -/
def portEndpoint (s : State) (p : Fin 20) (ep : Nat) : Bool :=
  match p.val with
  | 2 => decide (ep = 1)
  | 3 => decide (ep = 2)
  | 4 => decide (ep = 0)
  | 5 => decide (ep = 3)
  | k => match place? 12 (k - 8) with
    | none => false
    | some n => decide (8 ≤ k) && (match (s.cl n).cfg with
      | none => false
      | some g => decide (8 ≤ ep) && g.engines.any fun x => decide (x.ep = ep))

/-- Frames waiting at a ring port move to the other ring, in order, at the tail of the queue of their class (R166). -/
def moveQueue (s : State) (r : Ring) (keep : QEntry → Bool) (cls : Nat) : State :=
  let q := s.queue (ringPort r) cls
  let go := q.filter fun e => !keep e
  (s.updQueue (ringPort r) cls fun _ => q.filter keep).updQueue (ringPort r.other) cls fun q => q ++ go

/-- A flow loses its ring (R166): it is pinned to the other one; endpoints that sent a posted request or signal on it
within the last 4 cycles are marked (R219). -/
def repinFlow (s : State) (f : Flow) : State :=
  let s1 := (s.updSw fun w => { w with flows := w.flows.map fun g =>
      if g = f then { g with ring := f.ring.other, repinned := true, endCycle := none } else g }).bump SWQ_REPIN
  let hit := match place? 32 f.ep with
    | none => false
    | some i => (vget s.brg.eps i).recent.any fun x =>
        decide (x.1 = f.dest) && decide (x.2.1 = f.ring) && decide ((s.present - x.2.2).toNat ≤ 4)
  if hit then (posLoss s1 f.ep).raise Src.postedRepin f.ep else s1

/-- Every flow on ring r that no longer reaches its destination moves to the other ring, if that one does (R166). -/
def repinRing (s : State) (r : Ring) : State :=
  let lost (d : Word) : Bool :=
    let t := (ringTarget s d).getD 0
    !reaches s r t && reaches s r.other t
  let fs := s.sw.flows.filter fun f => decide (f.ring = r) && lost f.dest
  let off := portOff s (ringPort r) && !portOff s (ringPort r.other)
  let moves (e : QEntry) : Bool := if bothRings s e.frame then off && !hasTwin s e else lost e.frame.w1
  let s1 := s.each (List.range 4) fun s c => moveQueue s r (fun e => !moves e) c
  let s2 := s1.each fs repinFlow
  if fs.isEmpty then s2 else s2.evt SWQ_EVT 13

/-- A switch port goes down (R167): the frames the other ring can carry move, the rest are retired PORT_DOWN, and the open
requests of the requesters behind the port complete PORT_DOWN. DESIGN CHOICE: a group or broadcast frame whose copy waits on the other ring,
or has left on it, leaves the queue without a retirement: the other ring carries it already (notes/assumptions/132.md). -/
def portFlush (s : State) (p : Fin 20) : State :=
  let s0 := s.evt SWQ_EVT 15
  let s1 := match p.val with
    | 0 => repinRing s0 .a
    | 1 => repinRing s0 .b
    | _ => s0
  let other := decide (p.val < 2) && !portOff s (if p.val = 0 then 1 else 0)
  let s2 := s1.each (List.range 4) fun s c =>
    (s1.queue p c).foldl (fun s e =>
      if other && hasTwin s1 e then
        (match e.origin with
          | none => s
          | some o => postedGone s o.ep e.frame.w1)
      else retire s e .portDown p.val) (s.updQueue p c fun _ => [])
  let s3 := s2.each (s2.brg.opens.filter fun o => portEndpoint s2 p o.desc.ep) fun s o => openEnd s o stPORT_DOWN []
  recut s3

end Sys2Proof.Machine
end

