-- ==== Sys2Proof/Machine/CueOps.lean ====
section
/-! DEFINITION. What the cue sequencer, the timekeeper and the event stream share: the sheet in force, cycle lengths and
positions (R62, R63, R66, R570), the marker's words (R65), the conditions of insertion (R82, R535) and blocked attempts
(R83). -/

namespace Sys2Proof.Machine

/-- The CRC-8 of R65, over five bytes. -/
def markerCrc (w1 w2 w3 : Word) : Nat :=
  let byte (r : Nat) (b : Nat) : Nat := (List.range 8).foldl (fun r i => crcBit 8 0x07 r (b.testBit (7 - i))) r
  [w1.toNat / 256, w1.toNat % 256, w2.toNat / 256, w2.toNat % 256, w3.toNat / 256].foldl byte 0xFF

def markerOk (w1 w2 w3 : Word) : Bool := decide (markerCrc w1 w2 w3 = w3.toNat % 256)

/-- The flags of a marker's third word (R65). -/
def markerFlags (w3 : Word) : MarkerFlags :=
  ⟨bitOf w3 15, bitOf w3 14, bitOf w3 13, bitOf w3 12, bitOf w3 11, fld w3 10 9⟩

/-- The words of a marker (R65). -/
def markerWords (k : DWord) (f : MarkerFlags) : List RingWord :=
  let w1 := wd (k.toNat / 65536)
  let w2 := wd k.toNat
  let w3 := bitW f.dom 15 ||| bitW f.lh 14 ||| bitW f.bank 13 ||| bitW f.hold 12 ||| bitW f.intm 11 ||| putFld f.slew 10 9
  [.cm, .data w1, .data w2, .data (w3 ||| putFld (markerCrc w1 w2 w3) 7 0)]

/-- The conditions of R535 for timed insertion to open, at a marker whose bank's sheet is held. -/
def mayOpen (s : State) : Bool :=
  s.store.force.isSome && !s.store.base && s.sheet.isSome && s.lead?.isSome && s.fab.castOk && s.time.everLocked

/-- The conditions that close timed insertion at the next marker (R535, R85, R101), and the dark-node state (R430). -/
def mustClose (s : State) : Bool :=
  s.dark.dark || s.sheet.isNone || s.cue.guard.tblerr || s.cue.guard.dead || decide (s.fab.node ≠ s.compiled)

/-- The kind a guardian entry has now: the sheet's, or as a wing claim has changed it (R84, R96). -/
def kindOf (s : State) (i : Nat) (g : GuardEntry) : GuardKind :=
  match s.cue.guard.kinds.find? fun x => decide (x.1 = i) with
  | none => g.kind
  | some x => x.2

/-- A guardian entry of the node covers a position on a ring: its own cue, an open wing slot, a slot it claims, or a relayed position at
the active prompter (R82, R96). -/
def guardCovers (s : State) (r : Ring) (pos : Nat) : Bool :=
  match s.ringSheet r with
  | none => false
  | some c => (s.prompting && c.relay.any fun g => decide (g.ring = r) && decide (g.pos ≤ pos) && decide (pos < g.pos + g.len)) ||
    c.guard.zipIdx.any fun (g, i) =>
      decide (g.ring = r) && decide (g.pos ≤ pos) && decide (pos < g.pos + g.len) &&
      (match kindOf s i g with
        | .owned | .wingOpen => true
        | .wingClaiming => true
        | .relay => s.prompting
        | .wingClosed => false)

/-- The guardian admits a word of the timed region (R82, R85). -/
def guardAdmits (s : State) (r : Ring) (pos : Nat) : Bool := s.cue.guard.open_ && !guardShut s && guardCovers s r pos

/-- The unbroken runs of positions that a condition does not hold for, by their first position (R83). -/
def blockedRuns (ok : Nat → Bool) (pos len : Nat) : List Nat :=
  ((List.range len).map (pos + ·)).filter fun i => !ok i && (decide (i = pos) || ok (i - 1))

/-- A timed run reaches the guardian (R82, R83): the words it admits leave, each unbroken run of words it blocks is one attempt. -/
def timedInsert (s : State) (r : Ring) (pos : Nat) (ws : List RingWord) (c : Core) : State :=
  let ok := guardAdmits s r
  let s1 := sendWords s r ((ws.zipIdx.filter fun x => ok (pos + x.2)).map (·.1))
  s1.each (blockedRuns ok pos ws.length) fun s i => guardBlock s r rgTimed i c

/-- The prompter whose domain a stream cycle has, and m on a ring under it (R70, R78). -/
def relayM (c : CueSheet) (dom : Bool) (r : Ring) : Nat :=
  match dom, r with
  | false, .a => c.maa
  | false, .b => c.mab
  | true, .a => c.mba
  | true, .b => c.mbb

/-- The CRC of a cue (R68, R69) over the seed, the identifier and the payload. -/
def cueCrc (len : Nat) (cycle : DWord) (id : Nat) (payload : List Word) : List Word :=
  let ws := wd cycle.toNat :: wd id :: payload
  if len ≤ 32 then [wd (crcWords 16 0x1021 0xFFFF ws)]
  else toWords 2 (crcWords 32 0x04C11DB7 0xFFFFFFFF ws ^^^ 0xFFFFFFFF)

/-- Words of CRC in a cue (R68). -/
def cueCrcLen (len : Nat) : Nat := if len ≤ 32 then 1 else 2

/-- A cue's words as its owner sends them (R68, R69). -/
def cueWords (len : Nat) (cycle : DWord) (id : Nat) (payload : List Word) : List Word := payload ++ cueCrc len cycle id payload

/-- A received copy is all data words and passes its check with this seed (R69). -/
def copyPayload (len : Nat) (cycle : DWord) (id : Nat) (ws : List RingWord) : Option (List Word) :=
  let ds := ws.filterMap fun w => match w with | .data x => some x | _ => none
  let n := len - cueCrcLen len
  if ds.length = len ∧ ws.length = len ∧ ds.drop n = cueCrc len cycle id (ds.take n) then some (ds.take n) else none

/-- The payload of a notice as words of a cycle number. -/
def cycleW (k : DWord) : List Word := [wd (k.toNat / 65536), wd k.toNat]
def wCycle (p : List Word) (i : Nat) : DWord := (p[i]?).getD 0 ++ (p[i + 1]?).getD 0
def wAt (p : List Word) (i : Nat) : Word := (p[i]?).getD 0

end Sys2Proof.Machine
end

