-- ==== Sys2Proof/Machine/TimeOps.lean ====
section
/-! DEFINITION. Ring time (R108-R129): the nominal cycle starts, the marker delay, discipline and lock, steps, the domain
switch, holdover, and the field side's copy. -/

namespace Sys2Proof.Machine

def State.ringT (s : State) (r : Ring) : RingTime := vget s.time.rings r.ix
def State.updRingT (s : State) (r : Ring) (f : RingTime → RingTime) : State :=
  s.updTime fun t => { t with rings := vupd t.rings r.ix f }

/-- The length of cycle k as S_k counts it (R62, R484, R570), in ticks; `intm` is the INTM bit of its marker. -/
def lenTicks (s : State) (k : DWord) (intm : Bool) : Int :=
  if intm then intmWords * wordT
  else match baseWords s .a k, baseWords s .b k with
    | some n, _ => n * wordT
    | none, some n => n * wordT
    | none, none => 0

/-- The lengths of n cycles from cycle k on; any four in a row sum alike (R62). -/
def lenSum (s : State) (k : DWord) (n : Nat) (intm : Bool) : Int :=
  let sum (m : Nat) : Int := (List.range m).foldl (fun x i => x + lenTicks s (k + BitVec.ofNat 32 i) intm) 0
  sum (n % 4) + (n / 4 : Nat) * sum 4

/-- S of cycle k, counted from the present one (R76). -/
def sOf (s : State) (k : DWord) : Int :=
  let d := diff32 k s.time.sCycle
  if 0 ≤ d then s.time.s + lenSum s s.time.sCycle d.toNat s.cue.flags.intm
  else s.time.s - lenSum s k (-d).toNat false

/-- The node's cycle boundary (R76): S moves on to cycle k by the nominal lengths, and a cycle number that does not follow
on starts one length later. `counted` is the length the ending cycle had, SLEW included (R123). -/
def advanceS (s : State) (k : DWord) (counted : Int) : State :=
  let n := (k - s.time.sCycle).toNat
  let s1 := s.updTime fun t =>
    let last := match t.counts with | [] => 0 | x :: _ => x.2
    { t with counts := ((k, last + counted) :: t.counts).take 128 }
  if n = 0 then s
  else if !s.time.sValid then s1.updTime fun t => { t with sCycle := k }
  else if n ≤ 64 then s1.updTime fun t => { t with s := sOf s k, sCycle := k }
  else s1.updTime fun t =>
    { t with s := t.s + lenTicks s t.sCycle s.cue.flags.intm, sCycle := k, instDone := Vector.replicate 3 none, passed := none }

/-- The echo mean of a port in ticks (R112). -/
def echoMean (s : State) (p : Port) : Int :=
  let l := (vget s.time.echo p.ix).results
  if l.isEmpty then 0 else l.foldl (· + ·) 0 / (l.length : Int)

/-- f_hat of the span on a port (R113), in ticks: X of the neighbour in 1/256 ns, the asymmetry in 10 ps. -/
def fHat (s : State) (p : Port) : Int :=
  let asym := (s.reg (match p with | .west => TIM_ASYM_W | .east => TIM_ASYM_E)).toInt
  match (s.ringT p.inRing).report with
  | none => 0
  | some x => (x.x * 6400 + echoMean s p + asym * 16384) / 2

/-- M of a ring (R113), in ticks. -/
def markerDelay (s : State) (r : Ring) : Int :=
  match (s.ringT r).report with
  | none => 0
  | some x => x.phi * 6400 + fHat s r.inPort

/-- TIM_LOCK_WIN and TIM_HOLD_LIM as they act (R140). -/
def lockWin (s : State) : Int := (max 1 (min 1000 (s.reg TIM_LOCK_WIN).toNat) * nsT : Nat)
def holdLim (s : State) : Nat := atLeastOne (s.reg TIM_HOLD_LIM).toNat * msT

/-- A slew of the timekeeper by d within the bounds of R116, against the error e: no more than 2 ns and 5 ppm of the
elapsed cycle, and never past 0. -/
def clampSlew (s : State) (e d : Int) : Int :=
  let lim := min (2 * nsT : Int) (lenTicks s s.time.sCycle s.cue.flags.intm * 5 / 1000000)
  let m := min lim (max e (-e))
  if e ≥ 0 then max (-m) (min 0 d) else min m (max 0 d)

/-- The coming instants of the cycle in ring time (R14, R76). -/
def instantsOf (s : State) (k : DWord) : Int × Int × Int :=
  match s.sheet with
  | none => (sOf s k, sOf s k, sOf s k)
  | some c => (sOf s k + c.tSmp * nsT, sOf s k + c.tLat * nsT, sOf s k + c.tFlp * nsT)

/-- The first of two instants that is still to come. -/
def coming (s : State) (x y : Int) : Int := if s.ring < x then x else y

/-- A TIME_SYNC message becomes ready with ring time and the coming instants (R14). -/
def timeSyncReady (s : State) : State :=
  let (a, b, c) := instantsOf s s.time.sCycle
  let (a', b', c') := instantsOf s (s.time.sCycle + 1)
  s.barReady .hf .timeSync (.timeSync s.time.ofs s.time.dom s.time.hold (coming s a a') (coming s b b') (coming s c c'))

/-- The timekeeper of the ring side moves by d. -/
def moveTime (s : State) (d : Int) : State := s.updTime fun t => { t with ofs := t.ofs + d }

/-- The slots of the ADCs keep their physical instants and numbers while ring time moves by d (R315). -/
def gridsKeep (s : State) (d : Int) : State :=
  { s with clusters := s.clusters.map fun c => { c with adc := { c.adc with grid := c.adc.grid + d } } }

/-- Engine time waits under way move with a domain switch (R124). -/
def waitsConvert (s : State) (d : Int) : State :=
  { s with clusters := s.clusters.map fun c => { c with engines := c.engines.map fun x =>
      match x.dark with
      | some (.twait _) => { x with wakeAt := x.wakeAt + d }
      | _ => x } }

/-- TIME_SYNC reaches the field die (R14, R121): its timekeeper takes ring time, domain and holdover. With another domain every armed time
compare is re-expressed (R124, R133); over a forward step the pulses it passes are late (R133). -/
def timeArrives (s : State) (ofs : Int) (dom hold : Bool) (smp lat flp : Int) : State :=
  let d := ofs - s.time.fofs
  let s1 := s.updTime fun t => { t with fofs := ofs, fdom := dom, fhold := hold, fsmp := smp, flat := lat, fflp := flp }
  if dom ≠ s.time.fdom then gridsKeep (waitsConvert (pulsesConvert s1 d) d) d
  else if d > (usT : Int) then pulsesStep (gridsKeep s1 d)
  else if d < -(usT : Int) then gridsKeep s1 d
  else s1

/-- A step of the timekeeper (R116): counted and reported unless it belongs to acquisition (R117). -/
def stepTime (s : State) (d : Int) (acquire : Bool) : State :=
  let s1 := (moveTime s d).updTime fun t => { t with stepDue := none }
  let s2 := if acquire then s1 else ((s1.bump TIM_STEPS).evt TIM_EVT 11).raise Src.timeStep 0
  timeSyncReady s2

/-- The correction of R116 for an error e: slewed up to 1 µs, else re-acquired by a step at the next cycle boundary, or at
once before the first lock (R117). -/
def correct (s : State) (e slew : Int) : State :=
  if max e (-e) ≤ (usT : Int) then moveTime s (clampSlew s e slew)
  else if !s.time.everLocked then stepTime s (-e) true
  else s.updTime fun t => { t with stepDue := some (-e), stepGap := true, gapTaken := false }

/-- Lock and its loss over consecutive usable markers (R117). -/
def judgeLock (s : State) (e : Int) : State :=
  let a := max e (-e)
  let w := lockWin s
  s.updTime fun t =>
    let ok := if a ≤ w then min 4 (t.okRun + 1) else 0
    let bad := if a ≥ 2 * w then min 4 (t.badRun + 1) else 0
    let l := if ok ≥ 4 then true else if bad ≥ 4 then false else t.locked
    { t with okRun := ok, badRun := bad, locked := l, everLocked := t.everLocked || l }

/-- The cross-check of R118, at a usable marker. -/
def crossCheck (s : State) : State :=
  let lim : Int := ((s.reg TIM_XCHK).toNat * nsT : Nat)
  let d := (s.ringT .a).err - (s.ringT .b).err
  if !(ranged s .a && ranged s .b) || decide (lim = 0) || decide (max d (-d) ≤ lim) then s.updTime fun t => { t with xRun := 0 }
  else
    let s1 := s.updTime fun t => { t with xRun := min 17 (t.xRun + 1) }
    if s1.time.xRun = 16 then (s1.evt TIM_EVT 10).raise Src.crossCheck 0 else s1

/-- The phase error of an accepted marker of cycle k on a ring on which the node is ranged (R115). -/
def phaseError (s : State) (r : Ring) (k : DWord) : State :=
  if s.time.sValid && ranged s r then
    let e := s.ring - sOf s k - markerDelay s r
    s.updRingT r fun x => { x with err := e }
  else s

/-- A usable marker on a ring, whose phase error has been formed (R115-R118, R127): it ends holdover, and where its ring is the discipline
ring it corrects the timekeeper. -/
def discipline (s : State) (r : Ring) (slew : Int) : State :=
  let s1 := crossCheck s
  let s2 := if s1.time.hold then (s1.updTime fun t => { t with hold := false, missRun := 0 }).evt TIM_EVT 14 else s1
  if discRing s2 ≠ some r then s2
  else
    let e := (s2.ringT r).err
    correct (judgeLock (s2.updTime fun t => { t with src := some r }) e) e slew

/-- Holdover entry (R126). -/
def holdoverIn (s : State) : State :=
  timeSyncReady ((((s.updTime fun t => { t with hold := true }).evt TIM_EVT 15).bump TIM_HOLD_CNT).raise Src.holdoverEntry 0)

/-- Markers are expected on a ring (R66, R126). -/
def expects (s : State) (r : Ring) : Bool := (s.trackOf r).seen && (s.link r.inPort).state.carries

/-- The last cycle whose acceptance window has closed on every ring that expects markers (R126; notes/assumptions/21.md). -/
def lastClosed (s : State) : Option DWord :=
  match expects s .a, expects s .b, (s.trackOf .a).closed, (s.trackOf .b).closed with
  | true, true, some a, some b => if diff32 a b ≤ 0 then some a else some b
  | true, false, a, _ => a
  | false, true, _, b => b
  | _, _, _, _ => none

/-- A marker of cycle k, or of a later one, was usable on the ring. -/
def usedOn (s : State) (r : Ring) (k : DWord) : Bool := match (s.trackOf r).usableAt with
  | none => false
  | some u => decide (0 ≤ diff32 u k)

/-- When the last acceptance window of a cycle has closed (R126): three cycles in a row without a usable marker are holdover. Cycles of
domain settle do not count. -/
def cyclePassed (s : State) : State :=
  match lastClosed s with
  | none => s
  | some k =>
    let old := match s.time.passed with
      | none => false
      | some p => decide (-64 ≤ diff32 k p) && decide (diff32 k p ≤ 0)
    if old then s
    else
      let s1 := s.updTime fun t => { t with passed := some k }
      if s.prompting || decide (s.time.settle ≠ 0) then s1
      else if usedOn s .a k || usedOn s .b k then s1.updTime fun t => { t with missRun := 0 }
      else
        let s2 := s1.updTime fun t => { t with missRun := min 3 (t.missRun + 1) }
        if s2.time.missRun ≥ 3 && !s2.time.hold then holdoverIn s2 else s2

/-- The acceptance window of a ring's present marker closes (R66, R126). -/
def closeWindow (s : State) (r : Ring) : State :=
  cyclePassed (s.updTrack r fun t => { t with closed := some t.cycle })

/-- The switch of time domain (R124, R125): ring time and S are re-expressed; the field die follows with the TIME_SYNC message. DESIGN
CHOICE: a step that was due at the next cycle boundary is dropped, its error belonging to the old domain
(notes/assumptions/124.md). -/
def domainSwitch (s : State) (dom : Bool) : State :=
  if dom = s.time.dom then s
  else
    let d := if dom then s.domOfs else -s.domOfs
    let s1 := s.updTime fun t => { t with dom := dom, ofs := t.ofs + d, s := t.s + d, settle := 16, stepDue := none }
    let s2 := (s1.evt TIM_EVT 12).bump TIM_DOMSW
    timeSyncReady (if s.time.ofsValid then s2 else s2.raise Src.domainStale 0)

/-- The count of the node at a cycle (R123). -/
def countAt (s : State) (k : DWord) : Option Int := (s.time.counts.find? fun x => decide (x.1 = k)).map (·.2)

/-- The offset of domain B from domain A from the last notice of each (R123). -/
def formOffset (s : State) : State :=
  match s.time.noteA, s.time.noteB with
  | some a, some b => s.updTime fun t =>
      { t with ofsBA := (b.s - b.ownS) - (a.s - a.ownS), ofsRate := b.rate - a.rate, ofsAt := s.now }
  | _, _ => s

/-- Whole seconds as 48 bits, a time before 0 in two's complement (R108, R122; notes/assumptions/125.md), and back. -/
def secWords (t : Int) : List Word := toWords 3 ((t / secT) % 281474976710656).toNat
def timeOf (ws : List Word) : Int :=
  let n : Int := ofWords (ws.take 3)
  (if n < 140737488355328 then n else n - 281474976710656) * secT + ofWords (ws.drop 3) * nsT

/-- A time notice is kept and the offset formed from it (R122, R123): from the air, or the node's own as it sends it. -/
def keepNotice (s : State) (p : List Word) : State :=
  let w := wAt p 0
  let k := wCycle p 1
  let rate := (wAt p 8 ++ wAt p 9 : DWord).toInt
  let own := (countAt s k).getD (match s.time.counts with | [] => 0 | x :: _ => x.2)
  let note : TimeNote := ⟨k, timeOf ((p.drop 3).take 5), rate, own, bitOf w 12, bitOf w 13⟩
  let s1 := formOffset (s.updTime fun t => if bitOf w 14 then { t with noteB := some note } else { t with noteA := some note })
  if bitOf w 15 then s1 else s1.updTime fun t => { t with ofsValid := t.noteA.isSome && t.noteB.isSome }

/-- A time notice arrives (R122, R123); a node that has never been locked takes S from the active prompter's (R117). -/
def timeNotice (s : State) (p : List Word) : State :=
  let k := wCycle p 1
  let s1 := keepNotice s p
  if !bitOf (wAt p 0) 15 || s.prompting || s.time.everLocked then s1
  else
    let s2 := s1.updTime fun t => { t with s := timeOf ((p.drop 3).take 5), sCycle := k, sValid := true }
    let n := (s.cue.cycle - k).toNat
    if n ≤ 64 then s2.updTime fun t => { t with s := sOf s2 s.cue.cycle, sCycle := s.cue.cycle } else s2

/-- The prompter's own domain (R122): A's is A, B's is B. -/
def ownDom (s : State) : Bool := namedB s

/-- S of a cycle in this prompter's own domain (R122). -/
def ownSOf (s : State) (k : DWord) : Int :=
  if s.time.dom = ownDom s then sOf s k
  else match s.time.ownZero with
    | some z => sOf s k - s.time.ofs - z
    | none => 0

/-- A saturated signed 32-bit value. -/
def satInt32 (i : Int) : DWord := BitVec.ofInt 32 (max (-2147483648) (min 2147483647 i))

/-- This prompter's domain is locked to PTP (R129). -/
def ptpLocked (s : State) : Bool := (namedA s || namedB s) && s.bit TIM_CFG 15 && s.host.ptpLock

/-- The time notice of this prompter (R122); a domain that is not PTP-disciplined has rate 0. -/
def timeNoticeWords (s : State) (rate : Int) : List Word :=
  let sk := ownSOf s s.time.sCycle
  let r := satInt32 (if s.bit TIM_CFG 15 then rate else 0)
  [bitW s.prompting 15 ||| bitW (ownDom s) 14 ||| bitW (ptpLocked s) 13 ||| bitW (s.time.hold || s.time.ptpLost) 12 |||
    putFld s.fab.node 11 0] ++ cycleW s.time.sCycle ++ secWords sk ++ toWords 2 (nsOf sk) ++ toWords 2 r.toNat

/-- The delay report of a ring (R111). -/
def delayReportWords (s : State) (r : Ring) : List Word :=
  let l := s.lineOf r
  let valid := s.prompting || (if l.head then s.time.locked else ranged s r)
  let hops := if s.prompting then 1
    else if l.head then (match discRing s with | some d => chainHops s d + 1 | none => 0)
    else chainHops s r + 1
  let phi : Int := if s.prompting then (s.ringT r).nominal
    else if l.head then (l.sentAt : Int) + s.time.ofs - sOf s l.sentCycle
    else markerDelay s r + (s.ringT r).transit
  let x := satInt32 (echoMean s r.outPort / 6400)
  [bitW (decide (r = .b)) 15 ||| bitW valid 14 ||| bitW l.head 13 ||| putFld hops 11 0] ++
    toWords 2 (phi / 6400).toNat ++ toWords 2 x.toNat ++ [putFld (vget s.time.echo r.outPort.ix).results.length 6 0]

/-- A delay report from the upstream neighbour of a ring (R111, R113, R119): one with VALID 0 ends the ranging alone, since each VALID
report enters f_hat and M_r. -/
def delayReport (s : State) (p : List Word) : State :=
  let r : Ring := if bitOf (wAt p 0) 15 then .b else .a
  let rep : DelayRep := ⟨bitOf (wAt p 0) 14, bitOf (wAt p 0) 13, fld (wAt p 0) 11 0, ofWords [wAt p 1, wAt p 2],
    (wAt p 3 ++ wAt p 4 : DWord).toInt, fld (wAt p 5) 6 0, s.present⟩
  if !(s.link r.inPort).state.carries then s
  else if rep.valid then s.updRingT r fun x => { x with report := some rep }
  else s.updRingT r fun x => { x with report := x.report.map fun y => { y with valid := false, cycle := s.present } }

/-- The loop closure of a ring at the active prompter (R120), and the relay's time (R73). -/
def loopClosure (s : State) (r : Ring) : State :=
  let x := s.ringT r
  if !s.prompting || x.report.isNone || decide (x.loop = 0) then s
  else
    let s1 := s.updRingT r fun x => { x with closure := x.loop + x.nominal - markerDelay s r }
    match s.sheet with
    | none => s1
    | some c =>
      if x.loop + (usT : Int) > (relayM c (ownDom s) r * shortestWords c * wordT : Nat) then s1.raise Src.relayShort r.ix.val
      else s1

/-- A stamp's domain and holdover bits now (R110). -/
def stampBits (s : State) : Word := bitW s.time.dom 15 ||| bitW s.time.hold 14

/-- The seven words of a full stamp (R110). -/
def fullStamp (s : State) : List Word :=
  [stampBits s] ++ toWords 3 (secOf s.ring) ++ toWords 2 (nsOf s.ring) ++ [wd (fracOf s.ring)]

end Sys2Proof.Machine
end

