-- ==== Sys2Proof/Machine/Time.lean ====
section
/-! DEFINITION. The commands of ring time (R111-R129) and the reads that latch it (R105, R135-R137), with the TIM block's
shown values (R140). -/

namespace Sys2Proof.Machine

/-- The reads of a path are quiet (R9, R510). -/
def quiet (s : State) (path : Path) : Bool := decide (path = .debugPort) && s.bit DBG_CTRL 15

/-- The core that serves the duplicated registers to a path (R397, R437). -/
def viewCore (s : State) (path : Path) : Core :=
  let v := s.regSel LU_VIEW path.code
  if bitOf v 15 then (if bitOf v 14 then .c1 else .c0) else hubCore s

/-- The path views a core at claim 0: its duplicated blocks read 0 (R397). -/
def viewBlank (s : State) (path : Path) : Bool :=
  bitOf (s.regSel LU_VIEW path.code) 15 && decide ((s.core (viewCore s path)).claim = .c0)

/-- Registers latched for a path by a read (R137). -/
def latchRegs (s : State) (path : Path) : List (Nat × Word) → State
  | [] => s
  | (a, v) :: t => latchRegs (s.setRegSel a path.code v) path t

/-- A delay report is sent on a ring to the neighbour it leads to (R111). -/
def delayReportSend (s : State) (r : Ring) : State :=
  let n := match r with | .a => s.fab.east | .b => s.fab.west
  if n = 0 then s
  else
    let ws := delayReportWords s r
    let f := Frame.mk' 1 1 6 (putFld s.ringNo 15 12 ||| putFld n 11 0) s.srcWord 0 ws
    (noticeOn s r f).updRingT r fun x => { x with sentAt := some s.present }

/-- Row DELAY_REPORT_SEND (R111). -/
def execDelayReportSend (r : Ring) (t : Nat) (s : State) : Out := done (delayReportSend (s.at t) r)

/-- Row DELAY_REPORT (R111, R113, R119): the payload of a report delivered to this node. -/
def execDelayReport (payload : List Word) (t : Nat) (s : State) : Out := done (delayReport (s.at t) payload)

/-- Row DELAY_REPORT_STALE: the upstream report of a ring counts as VALID 0 (R114). -/
def execDelayReportStale (r : Ring) (t : Nat) (s : State) : Out :=
  done ((s.at t).updRingT r fun x => { x with report := x.report.map fun y => { y with valid := false } })

/-- Row LOOP_CLOSURE (R73, R120). -/
def execLoopClosure (r : Ring) (t : Nat) (s : State) : Out := done (loopClosure (s.at t) r)

/-- A prompter's own domain begins (R109, R122, R129): at PTP time with its slave locked, else at 0; one to be disciplined by PTP waits for
the lock as long as it may. -/
def domainBegin (s : State) (ptp : Int) (waited : Bool) : State :=
  let zero : Option Int :=
    if !s.bit TIM_CFG 15 then some s.now
    else if s.host.ptpLock then some ((s.now : Int) - ptp)
    else if waited then some s.now
    else none
  if s.time.ownZero.isSome then s else s.updTime fun x => { x with ownZero := zero }

/-- Row TIME_NOTICE_SEND (R122, R129, R538): a prompter's notice to all; the first notice of a standby prompter A begins domain A.
`rate` is the measured rate of a PTP-disciplined domain in 0.01 ppb. -/
def execTimeNoticeSend (rate : Int) (w : PtpInstant) (s : State) : Out :=
  let s1 := s.at w.t
  done (if !(namedA s1 || namedB s1) then s1
    else
      let s2 := domainBegin s1 w.ptp false
      if s2.time.ownZero.isNone then s2
      else
        let s3 := s2.updCue fun c => { c with prompter := { c.prompter with
          noticed := match c.prompter.noticed with | some k => some k | none => some s1.present } }
        let ws := timeNoticeWords s3 rate
        (keepNotice (broadcast s3 1 5 ws) ws).updTime fun x => { x with noticeAt := some s1.present })

/-- Row TIME_NOTICE (R122, R123, R117). -/
def execTimeNotice (payload : List Word) (t : Nat) (s : State) : Out :=
  done ((s.at t).delivered fun s => timeNotice s payload)

/-- Row OFFSET_STALE (R123). -/
def execOffsetStale (t : Nat) (s : State) : Out :=
  let s1 := s.at t
  done (if s1.time.ofsValid then
    ((s1.updTime fun x => { x with ofsValid := false }).evt TIM_EVT 7).raise Src.offsetStale 0 else s1)

/-- Row DOMAIN_SETTLE_END (R124). -/
def execDomainSettleEnd (t : Nat) (s : State) : Out := done ((s.at t).updTime fun x => { x with settle := 0 })

/-- Row HOLDOVER_LIMIT (R127): outputs take their gap values from the next latch instant. -/
def execHoldoverLimit (t : Nat) (s : State) : Out :=
  let s1 := s.at t
  done (if s1.time.hold && !s1.time.gap then
    ((s1.updTime fun x => { x with gap := true, gapTaken := false }).evt TIM_EVT 13).raise Src.holdoverLimit 0 else s1)

/-- TIM_SEC_H and what its read latches (R137). -/
def secHWords (t : Int) : List Word := toWords 3 (secOf t) ++ toWords 2 (nsOf t) ++ [wd (fracOf t)]
def timSecHRead (s : State) (path : Path) : Word × State :=
  let ws := secHWords s.ring
  (wAt ws 0, latchRegs s path [(TIM_SEC_M, wAt ws 1), (TIM_SEC_L, wAt ws 2), (TIM_NS_H, wAt ws 3), (TIM_NS_L, wAt ws 4),
    (TIM_FRAC, wAt ws 5)])

/-- Row TIM_SEC_H_READ (R137). -/
def execTimSecHRead (path : Path) (t : Nat) (s : State) : Out :=
  done ((s.at t).throughLock path TIM_SEC_H none fun s => (timSecHRead s path).2)

/-- TIM_OFS_SEC_H and what its read latches (R137, R140): signed seconds, nanoseconds added to them, the rate. -/
def timOfsSecHRead (s : State) (path : Path) : Word × State :=
  let o := s.domOfs
  let sec := secWords o
  let ns := ((o % secT) / nsT).toNat
  let rate := toWords 2 (satInt32 s.time.ofsRate).toNat
  (wAt sec 0, latchRegs s path [(TIM_OFS_SEC_M, wAt sec 1), (TIM_OFS_SEC_L, wAt sec 2), (TIM_OFS_NS_H, wd (ns / 65536)),
    (TIM_OFS_NS_L, wd ns), (TIM_OFS_RATE_H, wAt rate 0), (TIM_OFS_RATE_L, wAt rate 1)])

/-- Row TIM_OFS_SEC_H_READ (R137). -/
def execTimOfsSecHRead (path : Path) (t : Nat) (s : State) : Out :=
  done ((s.at t).throughLock path TIM_OFS_SEC_H none fun s => (timOfsSecHRead s path).2)

/-- The registers whose read of the high word latches the low word (R105): CUE_CYC and the three instants. -/
inductive CueLatch where
  | cyc | smp | lat | flp
  deriving DecidableEq, Repr

def instNs (s : State) (k : CueLatch) : Nat :=
  match s.sheet with
  | none => 0
  | some c => match k with
    | .cyc => 0
    | .smp => c.tSmp
    | .lat => c.tLat
    | .flp => c.tFlp

def cueLatchRead (s : State) (path : Path) (k : CueLatch) : Word × State :=
  let v : Nat := match k with | .cyc => s.cue.cycle.toNat | k => instNs s k
  let a := match k with | .cyc => CUE_CYC_L | .smp => CUE_T_SMP_L | .lat => CUE_T_LAT_L | .flp => CUE_T_FLP_L
  (wd (v / 65536), latchRegs s path [(a, wd v)])

/-- The high words that latch: 0 CUE_CYC_H, 1 CUE_T_SMP_H, 2 CUE_T_LAT_H, 3 CUE_T_FLP_H. -/
def cueLatchOf (i : Fin 4) : CueLatch := match i with | 0 => .cyc | 1 => .smp | 2 => .lat | 3 => .flp

/-- Row CUE_CYC_H_READ (R105). -/
def execCueCycHRead (path : Path) (which : Fin 4) (t : Nat) (s : State) : Out :=
  let a := match which with | 0 => CUE_CYC_H | 1 => CUE_T_SMP_H | 2 => CUE_T_LAT_H | 3 => CUE_T_FLP_H
  done ((s.at t).throughLock path a none fun s => if viewBlank s path then s else (cueLatchRead s path (cueLatchOf which)).2)

/-- A read of PLS_ES_n_W0 (R135, R136): it pops the entry and latches the other words; a quiet read pops nothing. -/
def esPop (s : State) (path : Path) (n : Fin 12) : Word × State :=
  let (ws, s1) := fifoPop s n
  let s2 := if quiet s path then s else s1
  (wAt ws 0, latchRegs s2 path [(PLS_ES_W1 n.val, wAt ws 1), (PLS_ES_W2 n.val, wAt ws 2), (PLS_ES_W3 n.val, wAt ws 3)])

/-- Row ES_POP (R136). -/
def execEsPop (path : Path) (n : Fin 12) (t : Nat) (s : State) : Out :=
  done ((s.at t).throughLock path (PLS_ES_W0 n.val) none fun s => (esPop s path n).2)

/-- TIM_STAT (R140). -/
def timStat (s : State) : Word :=
  let t := s.time
  let src := if s.prompting then 3 else match t.src, discRing s with
    | some .a, some _ => 1
    | some .b, some _ => 2
    | _, _ => 0
  bitW t.dom 15 ||| bitW t.hold 14 ||| bitW s.cue.flags.hold 13 ||| bitW t.locked 12 ||| bitW (ranged s .a) 11 |||
  bitW (ranged s .b) 10 ||| putFld src 9 8 ||| bitW t.ofsValid 7 ||| bitW t.gap 6 ||| bitW (decide (t.settle ≠ 0)) 5 |||
  bitW (ptpLocked s) 4

/-- TIM_M, TIM_CBL, TIM_LOOP, TIM_HOPS, TIM_ERR and TIM_CLOSE of a ring or port (R140). -/
def timM (s : State) (r : Ring) : Nat := (markerDelay s r / 6400).toNat
def timCbl (s : State) (p : Port) : Nat := (fHat s p / 6400).toNat
def timLoop (s : State) (r : Ring) : Nat := if s.prompting then ((s.ringT r).loop / nsT).toNat else 0
def timHops (s : State) (r : Ring) : Word := if ranged s r then putFld (chainHops s r) 11 0 else 0
def timErr (s : State) (r : Ring) : Word := satInt16 ((s.ringT r).err / (nsT / 16 : Nat))
def timClose (s : State) (r : Ring) : Word := if s.prompting then satInt16 ((s.ringT r).closure / (nsT / 16 : Nat)) else 0

end Sys2Proof.Machine
end

