-- ==== Sys2Proof/Machine/Compat.lean ====
section
/-! DEFINITION. Ramuth compatibility mode (R524-R532): the image packing, the staged outputs and COMMIT, and the RM-48
registers. -/

namespace Sys2Proof.Machine

/-- CMP_EVT bits (R532). -/
abbrev cmpCOMMIT : Nat := 15
abbrev cmpNUMREF : Nat := 14
abbrev cmpWRITER : Nat := 13

/-- The mode is enabled (R524). -/
def cmpOn (s : State) : Bool := s.cmp.inpub.isSome

/-- Byte i of a Ramuth stream (R527). -/
def streamByte (f : Nat → Bool) (i : Nat) : Word := (List.range 8).foldl (fun w k => w ||| bitW (f (8 * i + k)) k) 0

/-- Bit p of the input stream: the level of pin p in the hub's copy of the snapshot (R312, R527). -/
def cmpInBit (s : State) (p : Nat) : Bool := bitOf (s.word (snapBase + 2 * (p / 12))) (p % 12)

/-- CMP_R_INi and the words of the input image. -/
def cmpIn (s : State) (i : Nat) : Word := streamByte (cmpInBit s) i
def cmpImage (s : State) : List Word :=
  (List.range 3).map fun w => putFld (cmpIn s (2 * w)).toNat 15 8 ||| putFld (cmpIn s (2 * w + 1)).toNat 7 0

/-- CMP_INPUT_IMAGE (R527): the snapshot has reached the hub, and its stream goes into the publish area. -/
def cmpInputImage (s : State) : State :=
  match s.cmp.inpub with
  | none => s
  | some w => s.setWords (pubBase s.cue.fill + 2 * w) (cmpImage s)

/-- The pin image word of a cluster 0-3 (R256, R528). -/
def cmpPimg (s : State) (n : Fin 12) : Option Nat :=
  if n.val < 4 then (s.cl n).cfg.bind (·.pimg) else none

/-- A publish word that only COMMIT writes while the mode is enabled (R529). -/
def cmpHolds (s : State) (w : Nat) : Bool :=
  cmpOn s && (List.finRange 12).any fun n => decide (cmpPimg s n = some w)

/-- Bit p of the output stream, as staged in CMP_R_OUTi (R528). -/
def cmpOutBit (s : State) (p : Nat) : Bool := bitOf (s.reg (CMP_R_OUT (p / 8))) (p % 8)

/-- The pin image word of cluster n that the staged stream spells (R528). -/
def cmpOutWord (s : State) (n : Nat) : Word := (List.range 12).foldl (fun w j => w ||| bitW (cmpOutBit s (12 * n + j)) j) 0

/-- A write to CMP_R_COMMIT (R528): the staged outputs go into the fill bank as one unit. -/
def cmpCommit (s : State) : State :=
  if !cmpOn s then s
  else
    let put (s : State) (n : Fin 12) : State := match cmpPimg s n with
      | none => s
      | some w => s.setFillWord w (cmpOutWord s n.val)
    let s1 := (s.each (List.finRange 12) put).bump CMP_COMMITS
    { s1 with cmp := { s1.cmp with pend := true } }

/-- A write to CMP_R_OUTi (R528). -/
def cmpStage (s : State) (i : Nat) (v : Word) : State := if cmpOn s then s.setReg (CMP_R_OUT i) (v &&& 0x00FF) else s

/-- A read of CMP_R_IN0 latches the other bytes for the path (R526). -/
def cmpIn0Read (s : State) (path : Path) : Word × State :=
  if !cmpOn s then (0, s)
  else (cmpIn s 0, latchRegs s path ((List.range 5).map fun i => (CMP_R_IN (i + 1), cmpIn s (i + 1))))

/-- CMP_R_ACTi (R529): the image that the output stages applied last. -/
def cmpAct (s : State) (i : Nat) : Word := streamByte (fun p => match place? 144 p with | none => false | some k => (s.pin k).image) i

/-- A flip instant (R530, R528). -/
def cmpFlip (s : State) : State :=
  let s1 := s.cmpStatus 7
  if s1.cmp.pend then { s1 with cmp := { s1.cmp with pend := false, flipped := true } } else s1

/-- A latch instant (R529, R530): the committed image is applied where a core is accepted and the pins have left their gap
and intermission states (R531); a pin of clusters 0-3 that holds its level sets GAP. -/
def cmpLatch (s : State) : State :=
  if !cmpOn s then s
  else
    let ranks := (List.finRange 48).map fun k => (s.pin ⟨k.val, by omega⟩).rank
    let held := ranks.any fun r => decide (2 ≤ r) && decide (r ≤ 8)
    let s1 := if held then s.cmpStatus 5 else s
    if s1.cmp.flipped ∧ !held then
      let s2 := (s1.cmpStatus 6).evt CMP_EVT cmpCOMMIT
      { s2 with cmp := { s2.cmp with flipped := false } }
    else s1

/-- What the block shows (R532). -/
def cmpCycle (s : State) : Nat := match s.sheet with | none => 0 | some c => c.lenq / 15625
def cmpStat (s : State) : Word := bitW (s.cmp.pend || s.cmp.flipped) 15 ||| bitW s.cmp.numref 14
def cmpInpub (s : State) : Word := match s.cmp.inpub with | none => 0 | some w => putFld w 13 0

/-- Row CMP_R_COMMIT (R528, R532). -/
def execCmpRCommit (t : Nat) (s : State) : Out := done (cmpCommit (s.at t))

/-- Row CMP_R_OUT_WRITE (R528): the byte's number and the word written. -/
def execCmpROutWrite (i : Fin 6) (v : Word) (t : Nat) (s : State) : Out := done (cmpStage (s.at t) i.val v)

/-- Row CMP_R_IN0_READ (R526). -/
def execCmpRIn0Read (path : Path) (t : Nat) (s : State) : Out :=
  done ((s.at t).throughLock path (CMP_R_IN 0) none fun s => if viewBlank s path then s else (cmpIn0Read s path).2)

/-- Row CMP_R_STATUS_READ (R530, R510). -/
def execCmpRStatusRead (path : Path) (t : Nat) (s : State) : Out :=
  done ((s.at t).throughLock path CMP_R_STATUS none fun s =>
    if quiet s path || viewBlank s path then s else s.setRegSel CMP_R_STATUS (twinSel (viewCore s path)) 0)

end Sys2Proof.Machine
end

