-- ==== Sys2Proof/Machine/Pacers.lean ====
section
/-! DEFINITION. What a pacer does by itself (R243-R245): ticks, the edges of its input pins, reception, counting. -/

namespace Sys2Proof.Machine

/-- 1/256 ns, the unit of PER and CNT (R243), in ticks of time. -/
abbrev pacerT : Nat := nsT / 256

/-- SUB of a mode; an undefined code acts as 0 (R245). -/
def pacerSub (x : Pacer) : Nat :=
  let k := fld x.cfg 13 12
  match pacerMode x with
  | 1 => if k ≤ 2 then k else 0
  | 2 => if k ≤ 1 then k else 0
  | _ => 0

/-- The tick period: at least 10 ns, in async at least 80 ns (R243, R244). -/
def perTicks (x : Pacer) : Nat :=
  max x.per.toNat (if pacerMode x = 1 ∧ pacerSub x = 2 then 80 * 256 else 10 * 256) * pacerT

/-- The instant is the computed one to within 2 ns (R243). -/
def pacerNear (now at_ : Nat) : Bool := decide (at_ ≤ now + 2 * nsT) && decide (now ≤ at_ + 2 * nsT)

/-- The tick of the grid that falls at this instant and has not been taken (R243, R244). -/
def tickDue (now : Nat) (x : Pacer) : Option Nat :=
  let m := (now - x.grid + 2 * nsT) / perTicks x
  if x.nextTick ≤ m ∧ pacerNear now (x.grid + m * perTicks x) then some m else none

/-- The pins IN_A, IN_B and IN_X name, and their levels: an input set to none reads 1 (R245, R326). -/
def inPin (x : Pacer) (hi : Nat) : Nat := fld x.pins hi (hi - 3)
def inLevel (s : State) (n : Fin 12) (x : Pacer) (hi : Nat) : Bool :=
  match place? 12 (inPin x hi) with
  | none => true
  | some j => (s.pin (pinOf n j)).filt

/-- The pacer's state changes; each status event that is newly set reports (R245). -/
def pacerTo (s : State) (n : Fin 12) (p : Fin 16) (y : Pacer) : State :=
  let x := s.pacer n p
  let s1 := s.updPacer n p fun _ => y
  let fresh := (y.ovr && !x.ovr) || (y.und && !x.und) || (y.qerr && !x.qerr) || (y.ferr && !x.ferr)
  if fresh then pacerEvent s1 n p else s1

/-- The word that bits received in shifting order spell. -/
def bitsWord (cfg : Word) (bits : List Bool) : Word :=
  let l := if bitOf cfg 7 then bits.reverse else bits
  wd (l.foldl (fun n b => 2 * n + b2n b) 0)

/-- A received word goes to the receive buffer, or is discarded with OVR (R244). -/
def rxPut (w : Word) (x : Pacer) : Pacer := if x.rx.isSome then { x with ovr := true } else { x with rx := some w }

/-- The shift register is empty: it takes the word of the transmit buffer, if there is one (R244). -/
def refill (x : Pacer) : Pacer :=
  match x.tx with
  | some v => loadShift v { x with tx := none }
  | none => { x with out := none, dataOut := if pacerSub x = 0 then x.dataOut else true }

/-- A word has been shifted whole: out goes the next, in goes what was received (R244). -/
def wordDone (x : Pacer) : Pacer := refill (rxPut (bitsWord x.cfg x.inp) { x with inp := [] })

/-- The next bit leaves the shift register on the second edge of its clock; the last one ends the word. -/
def bitDone (x : Pacer) : Pacer :=
  match x.out with
  | some (_ :: b :: t) => { x with out := some (b :: t), dataOut := if bitOf x.cfg 5 then x.dataOut else b }
  | some _ => wordDone x
  | none => x

/-- One clock edge of a synchronous transfer, with the level of the data input (R244, R245): CPHA 0 samples on the first
edge and moves on at the second, CPHA 1 puts out on the first and samples on the second. -/
def clockEdge (first level : Bool) (x : Pacer) : Pacer :=
  let late := bitOf x.cfg 5
  if first then
    if late then { x with dataOut := match x.out with | some (b :: _) => b | _ => x.dataOut }
    else { x with inp := x.inp ++ [level] }
  else if late then bitDone { x with inp := x.inp ++ [level] }
  else bitDone x

/-- A tick of a synchronous master: the clock toggles while a word is being shifted; else it rests at its idle level. -/
def masterTick (level : Bool) (x : Pacer) : Pacer :=
  let y := if x.out.isNone then refill x else x
  if y.out.isNone then { y with clkOut := bitOf y.cfg 6 }
  else
    let first := y.clkOut == bitOf y.cfg 6
    clockEdge first level { y with clkOut := !y.clkOut }

/-- A tick of an asynchronous transmitter: the next bit, start bit first; the line at 1 when there is none. -/
def asyncTick (x : Pacer) : Pacer :=
  let y := match x.out with
    | some [] => refill x
    | none => refill x
    | some _ => x
  match y.out with
  | some (b :: t) => { y with out := some t, dataOut := b }
  | _ => { y with dataOut := true }

/-- The stop bits of asynchronous frames (R244). -/
def stopBits (x : Pacer) : Nat := if bitOf x.cfg 6 then 2 else 1

/-- The centre of the next bit to be sampled in asynchronous reception, counted from the start edge (R244). -/
def sampleAt (x : Pacer) : Nat :=
  let done_ := fld x.cfg 11 8 + 1 + stopBits x - x.rxLeft.getD 0
  x.rxStart + (done_ + 1) * perTicks x + perTicks x / 2

/-- The centre of a bit in asynchronous reception (R244): data bits, then stop bits; a low one sets FERR and the word is
still stored. -/
def asyncSample (level : Bool) (x : Pacer) : Pacer :=
  match x.rxLeft with
  | none => x
  | some 0 => { x with rxLeft := none }
  | some (k + 1) =>
    let y := if k + 1 > stopBits x then { x with inp := x.inp ++ [level] } else { x with ferr := x.ferr || !level }
    if k = 0 then rxPut (bitsWord y.cfg y.inp) { y with inp := [], rxLeft := none } else { y with rxLeft := some k }

/-- A PWM period begins with tick m: PER and CNT that wait take effect, and the output is high for CNT (R244). -/
def pwmStart (m : Nat) (x : Pacer) : Pacer :=
  let cnt := x.nextCnt.getD x.cnt
  let y := { x with cnt := cnt, nextCnt := none, dataOut := decide (cnt ≠ 0) }
  match x.nextPer with
  | none => y
  | some v => { y with per := v, nextPer := none, grid := x.grid + m * perTicks x, nextTick := 1 }

/-- The high time of a PWM period ends, unless CNT covers the period. -/
def pwmLow (x : Pacer) : Pacer := if x.cnt.toNat ≥ x.per.toNat then x else { x with dataOut := false }

/-- PACER_TICK (R243, R244): a tick of the grid, the centre of a bit or the end of a high time, at its instant. -/
def pacerBeat (s : State) (n : Fin 12) (p : Fin 16) (b : PacerBeat) : State :=
  let x := s.pacer n p
  let level := inLevel s n x 15
  match b, tickDue s.now x with
  | .tick, none => s
  | .tick, some m =>
    let y := { x with nextTick := m + 1 }
    (match pacerMode x, pacerSub x with
    | 1, 0 => pacerTo s n p (masterTick level y)
    | 1, 2 => pacerTo s n p (asyncTick y)
    | 3, _ => pacerTo s n p (pwmStart m y)
    | _, _ => s)
  | .mid, _ => match pacerMode x, pacerSub x with
    | 1, 2 => if pacerNear s.now (sampleAt x) then pacerTo s n p (asyncSample level x) else s
    | 3, _ =>
      if 1 ≤ x.nextTick ∧ pacerNear s.now (x.grid + (x.nextTick - 1) * perTicks x + x.cnt.toNat * pacerT) then pacerTo s n p (pwmLow x) else s
    | _, _ => s

/-- An edge comes within 20 ns of an earlier one (R244; notes/assumptions/36.md). -/
def near20 (now : Nat) (last : Option Nat) : Bool := match last with | none => false | some t => decide (now < t + 20 * nsT)

/-- One count up or down. -/
def countBy (up : Bool) (x : Pacer) : Pacer := { x with cnt := if up then x.cnt + 1 else x.cnt - 1 }

/-- QUAD / 0 at an edge of IN_A or of IN_B (R244): up when A leads B. -/
def quadEdge (now : Nat) (onA rising other : Bool) (x : Pacer) : Pacer :=
  let bad := near20 now x.lastA || near20 now x.lastB
  let y := if onA then { x with lastA := some now } else { x with lastB := some now }
  if bad then { y with qerr := true } else countBy (if onA then rising != other else rising == other) y

/-- QUAD / 1 at an edge of IN_A: rising edges count, by the level of IN_B (R244). -/
def pulseEdge (now : Nat) (rising other : Bool) (x : Pacer) : Pacer :=
  let y := { x with lastA := some now }
  if near20 now x.lastA then { y with qerr := true } else if rising then countBy other y else y

/-- An edge of the clock of a synchronous slave (R244): a word that is wanted and not there is shifted as 1s, with UND. -/
def slaveEdge (now : Nat) (rising level : Bool) (x : Pacer) : Pacer :=
  let y := { x with lastX := some now }
  if near20 now x.lastX then { y with qerr := true }
  else
    let first := rising != bitOf y.cfg 6
    let z := if first && y.out.isNone then
        (if y.tx.isSome then refill y else loadShift 0xFFFF { y with und := true })
      else y
    if z.out.isNone then z else clockEdge first level z

/-- A change of the filtered level of pin j reaches one pacer (R241, R244). -/
def pacerInput (s : State) (n : Fin 12) (j : Fin 12) (rising : Bool) (p : Fin 16) : State :=
  let x := s.pacer n p
  let a := decide (inPin x 15 = j.val)
  let b := decide (inPin x 11 = j.val)
  match pacerMode x, pacerSub x with
  | 2, 0 =>
    if a then pacerTo s n p (quadEdge s.now true rising (inLevel s n x 11) x)
    else if b then pacerTo s n p (quadEdge s.now false rising (inLevel s n x 15) x)
    else s
  | 2, 1 => if a then pacerTo s n p (pulseEdge s.now rising (inLevel s n x 11) x) else s
  | 1, 1 => if inPin x 7 = j.val then pacerTo s n p (slaveEdge s.now rising (inLevel s n x 15) x) else s
  | 1, 2 =>
    if a && !rising && x.rxLeft.isNone then
      s.updPacer n p fun x => { x with rxLeft := some (fld x.cfg 11 8 + 1 + stopBits x), rxStart := s.now, inp := [] }
    else s
  | _, _ => s

/-- A change of a filtered level reaches every pacer of the cluster. -/
def pacerInputs (s : State) (n : Fin 12) (j : Fin 12) (rising : Bool) : State :=
  s.each (List.finRange 16) fun s p => pacerInput s n j rising p

/-- Row PACER_TICK (R243, R244). -/
def execPacerTick (n : Fin 12) (p : Fin 16) (b : PacerBeat) (t : Nat) (s : State) : Out := done (pacerBeat (s.at t) n p b)

end Sys2Proof.Machine
end

