-- ==== Sys2Proof/Machine/Pins.lean ====
section
/-! DEFINITION. The input path of a field pin (R134, R305, R306), the cluster ADCs (R313-R319) and the field snapshot
(R312), with what the PIN and ADC blocks show (R339, R340). -/

namespace Sys2Proof.Machine

/-- The pin stamps its rising or its falling edges (R134). -/
def stamps (s : State) (k : Fin 144) (rising : Bool) : Bool :=
  let n := (pinCluster k).val
  bitOf (s.reg (if rising then PLS_ES_RISE n else PLS_ES_FALL n)) (pinLocal k).val

/-- The edge as it is stamped at the ball (R134, R135). -/
def edgeAt (s : State) (k : Fin 144) (rising : Bool) : EdgeStamp :=
  ⟨s.time.fdom, s.time.fhold, rising, false, (pinLocal k).val, s.fring⟩

/-- The raw level at a ball changes (R134, R305): the edge is stamped, the filter starts anew; two edges less than 5 ns
apart are a pair that changes nothing, a change that waits in the filter waits on, and counts as lost on a pin that stamps either of
them. -/
def rawChange (s : State) (k : Fin 144) (level : Bool) : State :=
  let p := s.pin k
  if p.raw = level then s
  else
    if s.now < p.changed + 5 * nsT then
      let s1 := s.updPin k fun p => { p with raw := level, changed := p.before.1, stamp := p.before.2 }
      if stamps s k true || stamps s k false then countLost s1 (pinCluster k) else s1
    else s.updPin k fun p => { p with raw := level, changed := s.now, before := (p.changed, p.stamp), stamp := some (edgeAt s k level) }

/-- F x 10 ns, or 5 ns where F is 0, in ticks (R305). -/
def filterTime (s : State) (k : Fin 144) : Nat :=
  match s.pinCfg k with
  | none => 5 * nsT
  | some c => if c.flt = 0 then 5 * nsT else c.flt.toNat * 10 * nsT

/-- Every engine of the cluster has the edge latch of the pin set (R289). -/
def setLatches (s : State) (n : Fin 12) (j : Fin 12) (rising : Bool) : State :=
  let m : BitVec 12 := BitVec.ofNat 12 (2 ^ j.val)
  s.updCl n fun c => { c with engines := c.engines.map fun x =>
    if rising then { x with rise := x.rise ||| m } else { x with fall := x.fall ||| m } }

/-- Accepted changes of the last 1 ms, this one included (R306). -/
def recentChanges (s : State) (p : Pin) : List Nat := s.now :: p.accepted.filter fun t => decide (s.now < t + msT)

/-- PIN_EVT and its neighbours stand in the block of 48 pins that holds the pin (R339). -/
def pinBlock (k : Fin 144) : Nat := k.val / 48

/-- The pin enters the toggle-limited state (R306). -/
def limitEntry (s : State) (k : Fin 144) : State :=
  let s1 := s.updPin k fun p => { p with limited := true, windowCount := 1, inner := p.raw }
  ((s1.evt (PIN_EVT (pinBlock k)) 15).bump (PIN_TGLC (pinBlock k))).raise Src.toggleLimit k.val

/-- The filter's change is accepted: level, edge latches, stamp, pacers (R134, R241, R289, R305). -/
def acceptChange (s : State) (k : Fin 144) (level : Bool) : State :=
  let n := pinCluster k
  let p := s.pin k
  let s1 := s.updPin k fun p => { p with filt := level, inner := level, stamp := none }
  let s2 := setLatches s1 n (pinLocal k) level
  let s3 := match p.stamp with
    | none => s2
    | some e => if stamps s k level then stampEnter s2 n e else s2
  pacerInputs s3 n (pinLocal k) level

/-- FILTER_ACCEPT (R305, R306): a raw level that has held for the filter time, within 2 ns, is accepted, unless the pin is
toggle-limited or becomes so by it. -/
def filterAccept (s : State) (k : Fin 144) : State :=
  let p := s.pin k
  if p.raw = p.inner ∨ s.now + 2 * nsT < p.changed + filterTime s k then s
  else if p.limited then s.updPin k fun p => { p with inner := p.raw, windowCount := p.windowCount + 1 }
  else match s.pinCfg k with
    | none => acceptChange s k p.raw
    | some c =>
      if pinToggle c = 0 then acceptChange s k p.raw
      else
        let l := recentChanges s p
        if l.length > 2 ^ (pinToggle c + 2) then limitEntry s k
        else acceptChange (s.updPin k fun p => { p with accepted := l }) k p.raw

/-- TOGGLE_WINDOW_END (R306): the pin leaves the state after a window with at most half the limit. -/
def toggleWindow (s : State) (k : Fin 144) : State :=
  let p := s.pin k
  if !p.limited then s
  else
    let t := match s.pinCfg k with | none => 0 | some c => pinToggle c
    if t = 0 ∨ p.windowCount ≤ 2 ^ (t + 1) then
      let s1 := s.updPin k fun p => { p with limited := false, windowCount := 0, accepted := [], filt := p.inner }
      let s2 := if p.filt = p.inner then s1 else pacerInputs s1 (pinCluster k) (pinLocal k) p.inner
      s2.evt (PIN_EVT (pinBlock k)) 14
    else s.updPin k fun p => { p with windowCount := 0 }

/-- Row PIN_RAW_CHANGE (R134, R305). -/
def execPinRawChange (k : Fin 144) (level : Bool) (t : Nat) (s : State) : Out := done (rawChange (s.at t) k level)

/-- Row FILTER_ACCEPT (R134, R289, R305, R306). -/
def execFilterAccept (k : Fin 144) (t : Nat) (s : State) : Out := done (filterAccept (s.at t) k)

/-- Row TOGGLE_WINDOW_END (R306). -/
def execToggleWindowEnd (k : Fin 144) (t : Nat) (s : State) : Out := done (toggleWindow (s.at t) k)

/-! ADCs. -/

def State.adc (s : State) (n : Fin 12) : Adc := (s.cl n).adc
def State.updAdc (s : State) (n : Fin 12) (f : Adc → Adc) : State := s.updCl n fun c => { c with adc := f c.adc }
def State.chan (s : State) (n : Fin 12) (c : Fin 2) : AdcChan := vget (s.adc n).chans c
def State.updChan (s : State) (n : Fin 12) (c : Fin 2) (f : AdcChan → AdcChan) : State :=
  s.updAdc n fun a => { a with chans := vupd a.chans c f }

/-- Channel number 0-23 (R302). -/
def chanNo (n : Fin 12) (c : Fin 2) : Nat := 2 * n.val + c.val

/-- The pin of a channel has TYPE analog (R302, R303). -/
def analogPin (s : State) (n : Fin 12) (c : Fin 2) : Bool :=
  match s.pinCfg (pinOf n ⟨10 + c.val, by omega⟩) with
  | none => false
  | some g => decide (pinType g = 2)

/-- The code of slot i of the schedule (R313): 1 and 2 name a channel whose pin is analog, anything else is free. -/
def slotChan (s : State) (n : Fin 12) (i : Nat) : Option (Fin 2) :=
  let code := match (s.cl n).cfg with | none => 0 | some g => (g.sched[i]?).getD 0
  if code = 1 ∧ analogPin s n 0 then some 0 else if code = 2 ∧ analogPin s n 1 then some 1 else none

/-- Slots of a channel in a frame, and whether the schedule has a free slot (R313, R317). -/
def chanSlots (s : State) (n : Fin 12) (c : Fin 2) : Nat :=
  ((List.range 16).filter fun i => decide (slotChan s n i = some c)).length
def freeSlot (s : State) (n : Fin 12) : Bool := (List.range 16).any fun i => (slotChan s n i).isNone

/-- The slot index at this instant: the microsecond count of ring time that the grid gives, modulo 16 (R313, R315). -/
def slotNow (s : State) (n : Fin 12) : Nat :=
  ((s.fring - (s.adc n).grid + (usT / 2 : Nat)) / (usT : Nat) % 16).toNat

/-- One calibration step; a round is 64 (R316). -/
def calStep (s : State) (n : Fin 12) : State :=
  let a := s.adc n
  if a.calStep + 1 < 64 then s.updAdc n fun a => { a with calStep := a.calStep + 1 }
  else
    let s1 := (s.updAdc n fun a => { a with calStep := 0, calibrated := true }).bumpSel ADC_CALR n.val
    if a.calibrated then s1 else s1.evt ADC_EVT 11

/-- ADC_SLOT (R313, R314, R316): the input is acquired, in codes of full scale, or a free slot calibrates. -/
def adcSlot (s : State) (n : Fin 12) (input : Int) : State :=
  if (s.cl n).cfg.isNone then s
  else match slotChan s n (slotNow s n) with
    | none => calStep s n
    | some c =>
      let v := wd (max 0 (min 65535 input)).toNat
      s.updChan n c fun x => { x with waiting := some (v, s.now, decide (input ≥ 65535)) }

/-- LOW or HIGH is set (R318). -/
def limitSet (s : State) (n : Fin 12) (c : Fin 2) : State :=
  ((s.bumpSel ADC_LIMC (chanNo n c)).evt ADC_EVT 15).raise Src.adcLimit (chanNo n c)

/-- A run of consecutive conversions (R318): `beyond` counts toward setting, otherwise toward clearing; the third one acts.
Answers flag, the two runs, and whether the flag was set now. -/
def limitRun (flag : Bool) (run clr : Nat) (beyond : Bool) : Bool × Nat × Nat × Bool :=
  if beyond then (flag || decide (run + 1 ≥ 3), min 3 (run + 1), 0, !flag && decide (run + 1 ≥ 3))
  else (flag && !decide (clr + 1 ≥ 3), 0, min 3 (clr + 1), false)

/-- The limits judge a raw conversion (R318). -/
def judgeLimits (s : State) (n : Fin 12) (c : Fin 2) (v : Word) : State :=
  let x := s.chan n c
  let i := chanNo n c
  let (lo, lr, lc, ls) := limitRun x.low x.lowRun x.lowClr (decide (v.toNat < (s.regSel ADC_LIM_LO i).toNat))
  let (hi, hr, hc, hs) := limitRun x.high x.highRun x.highClr (decide (v.toNat > (s.regSel ADC_LIM_HI i).toNat))
  let s1 := s.updChan n c fun x =>
    { x with low := lo, lowRun := lr, lowClr := lc, high := hi, highRun := hr, highClr := hc }
  let s2 := if ls then limitSet s1 n c else s1
  if hs then limitSet s2 n c else s2

/-- WIN and BAND of a channel; the detector runs with neither 0 (R319). -/
def stuckWin (s : State) (n : Fin 12) (c : Fin 2) : Nat := fld (s.regSel ADC_STUCK (chanNo n c)) 15 8
def stuckBand (s : State) (n : Fin 12) (c : Fin 2) : Nat := fld (s.regSel ADC_STUCK (chanNo n c)) 7 0
def stuckOn (s : State) (n : Fin 12) (c : Fin 2) : Bool := decide (stuckWin s n c ≠ 0) && decide (stuckBand s n c ≠ 0)

/-- The stuck detector takes a conversion (R319): the first one outside the band clears STUCK and starts a new period. -/
def judgeStuck (s : State) (n : Fin 12) (c : Fin 2) (v : Word) : State :=
  if !stuckOn s n c then s.updChan n c fun x => { x with stuck := false, stuckFirst := none }
  else s.updChan n c fun x => match x.stuckFirst with
    | none => { x with stuckFirst := some v }
    | some f =>
      if (v.toNat : Int) - f.toNat ≤ stuckBand s n c ∧ (f.toNat : Int) - v.toNat ≤ stuckBand s n c then x
      else { x with stuck := false, stuckFirst := some v }

/-- ADC_RESULT (R314, R318, R319): the conversion becomes available. -/
def adcResult (s : State) (n : Fin 12) (c : Fin 2) : State :=
  match (s.chan n c).waiting with
  | none => s
  | some (v, at_, excess) =>
    let s1 := s.updChan n c fun x =>
      { x with results := (v, at_) :: x.results.take 15, waiting := none, ovr := excess }
    let s2 := if excess then ((s1.bumpSel ADC_OVRC (chanNo n c)).evt ADC_EVT 13).raise Src.adcOver (chanNo n c) else s1
    judgeStuck (judgeLimits s2 n c v) n c v

/-- STUCK_WINDOW_END (R319): a period without a conversion outside the band. -/
def stuckWindow (s : State) (n : Fin 12) (c : Fin 2) : State :=
  let x := s.chan n c
  if !stuckOn s n c || x.stuckFirst.isNone then s
  else
    let s1 := s.updChan n c fun x => { x with stuck := true, stuckFirst := none }
    if x.stuck then s1
    else ((s1.bumpSel ADC_STUCKC (chanNo n c)).evt ADC_EVT 14).raise Src.adcStuck (chanNo n c)

/-- Row ADC_SLOT (R313, R314, R316): `input` is the voltage at the pin in codes. -/
def execAdcSlot (n : Fin 12) (input : Int) (t : Nat) (s : State) : Out := done (adcSlot (s.at t) n input)

/-- Row ADC_RESULT (R314, R318, R319). -/
def execAdcResult (n : Fin 12) (c : Fin 2) (t : Nat) (s : State) : Out := done (adcResult (s.at t) n c)

/-- Row STUCK_WINDOW_END (R319). -/
def execStuckWindowEnd (n : Fin 12) (c : Fin 2) (t : Nat) (s : State) : Out := done (stuckWindow (s.at t) n c)

/-- A of a channel (R340). -/
def adcAvg (s : State) (n : Fin 12) (c : Fin 2) : Nat :=
  match (s.cl n).cfg with | none => 0 | some g => min 4 ((g.avg[c.val]?).getD 0)

/-- The snapshot value: the mean of the newest 2^A results, halves rounded up (R314); 0 while there is none
(notes/assumptions/37.md). -/
def adcValue (s : State) (n : Fin 12) (c : Fin 2) : Word :=
  let l := ((s.chan n c).results.take (2 ^ adcAvg s n c)).map fun x => x.1.toNat
  let m := l.length
  if m = 0 then 0 else wd ((2 * l.foldl (· + ·) 0 + m) / (2 * m))

/-- Bits [15:8] of the analog status word (R312). -/
def adcFlags (s : State) (n : Fin 12) (c : Fin 2) : Word :=
  let x := s.chan n c
  let noSlot := decide (chanSlots s n c = 0) || x.results.isEmpty
  bitW (!(x.low || x.high || x.stuck || x.ovr || noSlot)) 15 ||| bitW x.low 14 ||| bitW x.high 13 ||| bitW x.stuck 12 |||
  bitW x.ovr 11 ||| bitW (!(s.adc n).calibrated) 10 ||| bitW noSlot 9

/-- AGE: whole microseconds from the acquisition to this instant (R312). -/
def adcAge (s : State) (n : Fin 12) (c : Fin 2) : Nat :=
  match (s.chan n c).results with | [] => 255 | (_, t) :: _ => min 255 ((s.now - t) / usT)

/-- The field state word of the snapshot (R312). -/
def fieldState (s : State) : Word :=
  let noclaim := s.fieldAccepted.isNone || s.claimGap
  bitW (noclaim || s.timeGap) 15 ||| bitW noclaim 14 ||| bitW s.timeGap 13 |||
  bitW (s.fintm || s.host.intmHold) 12

/-- The words of the field snapshot from 0x000 to 0x1BF, as captured at this instant (R312). -/
def snapWords (s : State) : List Word :=
  let cs := List.finRange 12
  let chans : List (Fin 12 × Fin 2) := cs.foldr (fun n l => (n, 0) :: (n, 1) :: l) []
  let counts : List Word := cs.foldr (fun n l =>
    ((List.finRange 16).foldr (fun p l => let c := (s.pacer n p).cnt
                                          c.extractLsb' 16 16 :: c.extractLsb' 0 16 :: l) []) ++ l) []
  (cs.map fun n => pinLevels s n) ++ [fieldState s, 0, 0, 0] ++
  (chans.map fun x => adcValue s x.1 x.2) ++ (chans.map fun x => adcFlags s x.1 x.2 ||| putFld (adcAge s x.1 x.2) 7 0) ++ counts

/-! What the PIN and ADC blocks show (R339, R340). -/

/-- One word of a vector register: a bit of each of 16 pins. -/
def pinVector (b w : Nat) (f : Fin 144 → Bool) : Word :=
  (List.range 16).foldl (fun x i => match place? 144 (48 * b + 16 * w + i) with
    | none => x
    | some k => x ||| bitW (f k) i) 0
def pinLvl (s : State) (b w : Nat) : Word := pinVector b w fun k => (s.pin k).filt
def pinGaps (s : State) (b w : Nat) : Word := pinVector b w fun k => decide ((s.pin k).rank ≤ 8)
def pinTgl (s : State) (b w : Nat) : Word := pinVector b w fun k => (s.pin k).limited
def pinCfgWord (s : State) (b j : Nat) : Word := match place? 144 (48 * b + j) with
  | none => 0
  | some k => match s.pinCfg k with | none => 0 | some c => c.cfg
def pinFltWord (s : State) (b j : Nat) : Word := match place? 144 (48 * b + j) with
  | none => 0
  | some k => match s.pinCfg k with | none => 0 | some c => c.flt

def adcMask (f : Fin 12 → Bool) : Word := (List.finRange 12).foldl (fun w n => w ||| bitW (f n) n.val) 0
def adcCal (s : State) : Word := adcMask fun n => (s.adc n).calibrated
def adcStarved (s : State) : Word := adcMask fun n => (s.adc n).starved
def adcGrid (s : State) (n : Fin 12) : Word := wd (((s.adc n).grid % (usT : Nat)) / nsT).toNat
def adcSched (s : State) (n : Fin 12) (high : Bool) : Word :=
  let l := match (s.cl n).cfg with | none => [] | some g => g.sched
  wd ((List.range 8).foldl (fun x i => x + ((l[i + if high then 8 else 0]?).getD 0 % 4) * 4 ^ i) 0)
def adcChCfg (s : State) (n : Fin 12) (c : Fin 2) : Word :=
  let k := chanSlots s n c
  bitW (decide (k ≠ 0)) 15 ||| putFld (adcAvg s n c) 6 4 ||| putFld (k - 1) 3 0
def adcVal (s : State) (n : Fin 12) (c : Fin 2) : Word := match (s.chan n c).results with | [] => 0 | (v, _) :: _ => v

end Sys2Proof.Machine
end

