-- ==== Sys2Proof/Machine/Issue.lean ====
section
/-! DEFINITION. The requester's side of the bridge: descriptors (R204), their judgement (R175, R176, R205-R208, R226,
R227, R229), tags, sequence numbers and pacing (R202, R203), the issue of frames, responses and their collection (R210,
R226-R228), and the requests of the node's own units. -/

namespace Sys2Proof.Machine

/-- The operations that carry an address and data words counted by LEN (R204, R205). -/
def TxnOpHasAddr (op : TxnOp) : Bool :=
  match op with
  | .rd | .wr | .pwr | .gwr | .lrd | .lwr | .stg | .range => true
  | _ => false

/-- The operations whose payload carries LEN + 1 data words. -/
def TxnOpHasData (op : TxnOp) : Bool :=
  match op with
  | .wr | .pwr | .gwr | .lwr | .stg | .range => true
  | _ => false

/-- What a TXN payload spells (R204, R205). In SIG, `set` is the signal number and `data` its two words; in CANCEL, `set`
is the sequence number of the cancelled request. -/
structure TxnFields where
  op : TxnOp
  burst : Bool
  len : Nat
  cg : Bool
  cell : Nat
  seq : Nat
  addr : Nat
  set : Nat
  cycle : DWord
  data : List Word
  deriving DecidableEq, Repr

/-- Word 0 of a request payload (R204). -/
def reqWord0 (op : TxnOp) (burst : Bool) (len : Nat) (cg : Bool) (cell : Nat) : Word :=
  putFld op.code 15 12 ||| bitW burst 11 ||| putFld len 10 6 ||| bitW cg 5 ||| putFld cell 3 0

/-- The payload of a request (R204, R205); a RANGE travels as WR. -/
def txnWords (f : TxnFields) : List Word :=
  let op := if f.op = .range then .wr else f.op
  let head := [reqWord0 op f.burst f.len f.cg f.cell, wd f.seq]
  match f.op with
  | .rd | .lrd => head ++ toWords 2 f.addr
  | .wr | .pwr | .gwr | .lwr | .range => head ++ toWords 2 f.addr ++ f.data
  | .semacq | .semrel => head ++ [0, 0]
  | .stg => head ++ toWords 2 f.addr ++ [putFld f.set 15 8] ++ toWords 2 f.cycle.toNat ++ f.data
  | .commit | .abort => head ++ [putFld f.set 15 8] ++ toWords 2 f.cycle.toNat
  | .sig => head ++ [putFld f.set 7 0] ++ f.data
  | .cancel => head ++ [wd f.set]
  | _ => head

/-- The payload words of a request, word by word (R204, R205). -/
def txnFields (p : List Word) : TxnFields :=
  let w (i : Nat) : Word := (p[i]?).getD 0
  let op := TxnOp.ofCode (fld (w 0) 15 12)
  let cyc (i : Nat) : DWord := w i ++ w (i + 1)
  { op := op, burst := bitOf (w 0) 11, len := fld (w 0) 10 6, cg := bitOf (w 0) 5, cell := fld (w 0) 3 0,
    seq := (w 1).toNat
    addr := if TxnOpHasAddr op then ofWords [w 2, w 3] else 0
    set := match op with
      | .stg => fld (w 4) 15 8
      | .commit | .abort => fld (w 2) 15 8
      | .sig => fld (w 2) 7 0
      | .cancel => (w 2).toNat
      | _ => 0
    cycle := match op with
      | .stg => cyc 5
      | .commit | .abort => cyc 3
      | _ => 0
    data := match op with
      | .stg => p.drop 7
      | .sig => p.drop 3
      | _ => if TxnOpHasData op then p.drop 4 else [] }

/-- A descriptor from its words: the destination, for RANGE the node count, then the payload (R204). The sequence number of
a descriptor is written as 0, so that OP in its third word tells a RANGE. -/
def parseDescriptor (ep : Nat) (ws : List Word) : Descriptor :=
  let dest := (ws[0]?).getD 0
  let rest := ws.drop 1
  let range := decide (fld ((rest[1]?).getD 0) 15 12 = 0xE)
  let f := txnFields (if range then rest.drop 1 else rest)
  { ep := ep, op := f.op, dring := fld dest 15 12, dnode := fld dest 11 0
    count := if range then ((rest[0]?).getD 0).toNat else 0
    burst := f.burst, len := f.len, cg := f.cg, cell := f.cell, addr := f.addr, set := f.set, cycle := f.cycle, data := f.data }

/-- R207, R208: size and alignment not allowed. -/
def sizeBad (op : TxnOp) (burst cg : Bool) (len addr : Nat) : Bool :=
  TxnOpHasAddr op &&
  (decide (addr % 2 = 1) ||
   (if burst then decide (addr % 64 + 2 * (len + 1) > 64)
    else decide (len + 1 ≠ 1 ∧ len + 1 ≠ 2 ∧ len + 1 ≠ 4) || decide (addr % (2 * (len + 1)) ≠ 0)) ||
   (burst && (cg || decide (op = .lrd) || decide (op = .lwr))))

/-- The CG bit is allowed on RD and WR only, and the reserved operation and RSP are no request (R205, R206). -/
def opBad (op : TxnOp) (cg : Bool) : Bool :=
  decide (op = .reserved) || decide (op = .rsp) || (cg && decide (op ≠ .rd) && decide (op ≠ .wr))

/-- The operations a group or broadcast destination allows (R175, R226); GWR needs a group. DEDUCED: COMMIT, ABORT and CANCEL, which R205
puts in the class of posted writes, count with them (notes/assumptions/137.md). -/
def destBad (d : Descriptor) : Bool :=
  match d.op with
  | .range => decide (d.count = 0 ∨ d.count > 3999 ∨ d.dnode + d.count - 1 > 3999)
  | .gwr => decide (d.dnode < 4000 ∨ d.dnode = 4095)
  | .pwr | .sig | .commit | .abort | .cancel => false
  | _ => multi d.dnode

/-- The open sets of an endpoint (R229). -/
def setsOf (s : State) (ep : Nat) : List OpenSet := s.brg.sets.filter fun x => decide (x.ep = ep)
def setOpen (s : State) (ep set : Nat) : Option OpenSet := (setsOf s ep).find? fun x => decide (x.set = set)

/-- The status a descriptor draws before issue, if any (R175, R176, R205-R208, R226, R227, R229). -/
def judge (s : State) (d : Descriptor) : Option Nat :=
  if opBad d.op d.cg then some stBAD_OP
  else if sizeBad d.op d.burst d.cg d.len d.addr then some stSIZE
  else if s.fab.node = 0 ∨ d.dnode = 0 then some stNO_DEST
  else if destBad d then some stBAD_DEST
  else if d.op = .stg ∧ d.dring ≠ s.ringNo then some stSTG_ADDR
  else if d.dring ≠ s.ringNo ∧ (exitNode s d.dring).isNone then some stNO_ROUTE
  else if d.op = .stg ∧ (setOpen s d.ep d.set).isNone ∧ (setsOf s d.ep).length ≥ 4 then some stSTG_FULL
  else none

/-- A status produced before issue goes to the requester of a non-posted request (R206, R250). -/
def localStatus (s : State) (d : Descriptor) (via : ReqVia) (st : Nat) : State :=
  let s1 := if st = stNO_ROUTE then ((s.bump FAB_NOROUTE).evt FAB_EVT 6).raise Src.noRoute d.dring else s
  if d.op.posted then s1
  else
    let seq := match place? 32 d.ep with
      | none => 0
      | some i => (vget s.brg.eps i).seq.toNat
    giveCompletion s1 via ⟨d.ep, 0, seq, d.op, st, []⟩

/-- The class of an endpoint's requests: CONTROL where URGENT is set and the payload is longer than 32 words (R234). -/
def epClass (s : State) (ep len : Nat) : Nat :=
  let c := fld (s.regSel BRG_EP_CFG ep) 15 14
  if c = 0 ∧ len > 32 then 1 else c

/-- The class of a request: a forwarded signal has its entry's (R235), COMMIT and ABORT are URGENT (R230). -/
def reqClass (s : State) (d : Descriptor) (len : Nat) : Nat :=
  match d.op with
  | .commit | .abort => 0
  | _ => if d.ep = 5 then fld (wd d.cell) 1 0 else epClass s d.ep len

/-- Tags an endpoint holds, and its lowest free tag (R202). -/
def tagsHeld (s : State) (ep : Nat) : List Nat := (s.brg.opens.filter fun o => decide (o.desc.ep = ep)).map (·.tag)
def freeTag (s : State) (ep : Nat) : Option Nat :=
  let held := tagsHeld s ep
  (List.range 64).find? fun t => !held.contains t

/-- BRG_DUP_WIN in ticks (R203, R215, R234). -/
def dupWin (s : State) : Nat := max 1 (min 1000 (s.reg BRG_DUP_WIN).toNat) * msT

/-- Requests issued inside the pacing window (R203). -/
def windowOf (s : State) (e : Endpoint) : List Nat := e.window.filter fun t => decide (s.now < t + dupWin s)

/-- The fields of a descriptor with its sequence number. -/
def descFields (d : Descriptor) (seq : Nat) : TxnFields :=
  ⟨d.op, d.burst, d.len, d.cg, if d.op = .sig ∨ d.op = .cancel then 0 else d.cell, seq, d.addr, d.set, d.cycle, d.data⟩

def descDest (d : Descriptor) : Word := putFld d.dring 15 12 ||| putFld d.dnode 11 0

/-- The request as this node's own bridge serves it (R209). -/
def localRequest (s : State) (d : Descriptor) (tag seq cls : Nat) : Waiting :=
  ⟨if d.op = .range then .wr else d.op,
   ⟨⟨s.ringNo, s.fab.node, d.ep⟩, tag, seq, cls, d.burst, d.len, d.cg, d.cell, d.addr, d.set, d.cycle, d.data⟩⟩

/-- The TXN frame of a request to one node. -/
def requestFrame (s : State) (d : Descriptor) (node tag seq : Nat) : Frame :=
  let payload := txnWords (descFields d seq)
  Frame.mk' (reqClass s d payload.length) 0 d.ep (putFld d.dring 15 12 ||| putFld node 11 0) s.srcWord tag payload

/-- A posted request of an endpoint counts as posted until the copies of its frame have left the node (R218). -/
def postedAdd (s : State) (ep : Nat) (f : Frame) : State :=
  let copies := List.replicate (if bothRings s f then 2 else 1) f.w1
  match place? 32 ep with
  | none => s
  | some i => s.updBrg fun b => { b with eps := vupd b.eps i fun e => { e with posted := e.posted ++ copies } }

/-- The request goes to one node: into the local bridge's buffers where that is this node (R209), else as a TXN frame. A signal takes the
ring of the last posted request to its destination (R218). -/
def sendRequest (s : State) (d : Descriptor) (node tag seq : Nat) : State :=
  let f := requestFrame s d node tag seq
  if d.dring = s.ringNo ∧ node = s.fab.node then receiveRequest replyOwn s (localRequest s d tag seq f.cls)
  else
    let dest := f.w1
    let o : Origin := ⟨d.ep, tag, seq, d.op.code⟩
    let s1 := if d.op.posted then postedAdd s d.ep f else s
    if d.op = .sig ∧ d.dring = s.ringNo ∧ !multi node then
      let last : Option (Word × Ring × DWord) := match place? 32 d.ep with
        | none => none
        | some i => ((vget s.brg.eps i).recent.filter fun (x : Word × Ring × DWord) => decide (x.1 = dest)).getLast?
      match last with
      | some (_, (r : Ring), _) =>
        if reaches s r node then submit s1 (ringPort r) ⟨f, 6, s.now, 0, some o, 0⟩ else sendFrame s1 6 d.ep f (some o) 0
      | none => sendFrame s1 6 d.ep f (some o) 0
    else sendFrame s1 6 d.ep f (some o) 0

/-- Members of a group of the own ring, in rising order (R226). -/
def groupMembers (s : State) (g : Nat) : List Nat :=
  match s.fab.tables with
  | none => []
  | some t => match t.groups.find? fun x => decide (x.1 = g) with
    | none => []
    | some x => x.2

/-- The nodes whose answers a request waits for, where there are several (R226, R227). -/
def expectedOf (s : State) (d : Descriptor) : List Nat :=
  match d.op with
  | .gwr => if d.dring = s.ringNo then groupMembers s d.dnode else []
  | .range => (List.range d.count).map (d.dnode + ·)
  | _ => []

/-- All frames of a request, first issue or reissue (R211, R226, R227). -/
def sendFrames (s : State) (d : Descriptor) (tag seq : Nat) : State :=
  match d.op with
  | .range => s.each (expectedOf s d) fun s n => sendRequest s d n tag seq
  | .gwr =>
    let s1 := sendRequest s d d.dnode tag seq
    if (expectedOf s d).contains s.fab.node then receiveRequest replyOwn s1 (localRequest s d tag seq (reqClass s d 0)) else s1
  | _ => sendRequest s d d.dnode tag seq

/-- The endpoint numbers the request it issues now (R203). -/
def takeSeq (s : State) (i : Fin 32) : Nat × State :=
  ((vget s.brg.eps i).seq.toNat,
   s.updBrg fun b => { b with eps := vupd b.eps i fun e => { e with seq := e.seq + 1, window := windowOf s e ++ [s.now] } })

/-- A set of staged writes gains one (R229). -/
def setGrow (l : List OpenSet) (d : Descriptor) : List OpenSet :=
  if l.any fun x => decide (x.ep = d.ep) && decide (x.set = d.set) then
    l.map fun x => if x.ep = d.ep ∧ x.set = d.set then { x with open_ := x.open_ + 1 } else x
  else l ++ [⟨d.ep, d.set, d.cycle, 1, none, none⟩]

/-- The request is issued: its sequence number, its tag where it is not posted, its frames (R202, R203). A CANCEL carries the tag of the
request it cancels, which its descriptor has in `cell`. -/
def issueNow (s : State) (i : Fin 32) (d : Descriptor) (via : ReqVia) : State :=
  let (seq, s1) := takeSeq s i
  if d.op.posted then sendFrames s1 d (if d.op = .cancel then d.cell else 0) seq
  else match freeTag s d.ep with
    | none => s
    | some tag =>
      let o : OpenReq := ⟨d, tag, seq, 0, expectedOf s d, [], via⟩
      sendFrames (s1.updBrg fun b => { b with opens := b.opens ++ [o] }) d tag seq

/-- The endpoint has issued all it may within BRG_DUP_WIN (R203). -/
def windowFull (s : State) (i : Fin 32) : Bool := decide ((windowOf s (vget s.brg.eps i)).length ≥ 65535)

/-- The request is one of those this node's own bridge serves (R209, R226, R227). -/
def isLocal (s : State) (d : Descriptor) : Bool :=
  decide (d.dring = s.ringNo) && (decide (d.dnode = s.fab.node) || (expectedOf s d).contains s.fab.node)

/-- Its buffer is full (R216). -/
def localFull (s : State) (d : Descriptor) : Bool :=
  isLocal s d && decide (txnLimit (txnKind d.op) ≤ txnHeld s (txnKind d.op))

/-- The switch takes no frame of it from the bridge now (R163). A RANGE is judged by its first frame. -/
def bridgeShut (s : State) (d : Descriptor) : Bool :=
  let f := requestFrame s d d.dnode 0 0
  !(decide (d.dring = s.ringNo) && decide (d.dnode = s.fab.node)) &&
  (pressed s 6 || (sendPorts s d.ep f).any fun p => !portOff s p && !roomFor s 6 p f)

/-- The endpoint must hold a request back: for want of a tag, by pacing, or for want of room (R163, R202, R203, R216). -/
def mustHold (s : State) (i : Fin 32) (d : Descriptor) : Bool :=
  windowFull s i || (decide (d.op ≠ .cancel) && (freeTag s d.ep).isNone) || localFull s d || bridgeShut s d

/-- A request is held back; where the switch is the cause, it back-pressures the bridge (R163). -/
def holdBack (s : State) (i : Fin 32) (d : Descriptor) (via : ReqVia) : State :=
  let s1 := s.updBrg fun b => { b with eps := vupd b.eps i fun e => { e with held := e.held ++ [⟨d, via⟩] } }
  if bridgeShut s d && !pressed s 6 then
    s1.updSw fun w => { w with bp := vset w.bp 6 (((sendPorts s d.ep (requestFrame s d d.dnode 0 0)).head?).map fun p =>
      (queueIx p (requestFrame s d d.dnode 0 0).cls).val) }
  else s1

/-- Earlier posted requests of the endpoint to the signal's destination have not left (R218). -/
def sigMustWait (s : State) (i : Fin 32) (d : Descriptor) : Bool :=
  decide (d.op = .sig) &&
  ((vget s.brg.eps i).posted.contains (descDest d) || (vget s.brg.eps i).heldSigs.any fun x => decide (descDest x = descDest d))

/-- A staged write that ends before its issue fails its set (R230). One that finds no place among the four sets has none. -/
def setFails (s : State) (d : Descriptor) (st : Nat) : State :=
  if d.op ≠ .stg ∨ ((setOpen s d.ep d.set).isNone = true ∧ 4 ≤ (setsOf s d.ep).length) then s
  else s.updBrg fun b => { b with sets :=
    if (setOpen s d.ep d.set).isSome then b.sets.map fun x =>
      if x.ep = d.ep ∧ x.set = d.set ∧ x.failed.isNone then { x with failed := some (d.dnode, st) } else x
    else b.sets ++ [⟨d.ep, d.set, d.cycle, 0, some (d.dnode, st), none⟩] }

/-- A requester hands the bridge a descriptor (R202-R209, R218, R229, R230). COMMIT is the closing of a set and goes its own way; a staged
write counts in its set from here on. -/
def issue (s : State) (d : Descriptor) (via : ReqVia) : State :=
  match place? 32 d.ep with
  | none => s
  | some i =>
    match judge s d with
    | some st => localStatus (setFails s d st) d via st
    | none =>
      let s := if d.op = .stg then s.updBrg fun b => { b with sets := setGrow b.sets d } else s
      if d.op = .commit then
        s.updBrg fun b => { b with sets :=
          if (setOpen s d.ep d.set).isSome then b.sets.map fun x =>
            if x.ep = d.ep ∧ x.set = d.set then { x with closing := some via, cycle := d.cycle } else x
          else b.sets ++ [⟨d.ep, d.set, d.cycle, 0, none, some via⟩] }
      else if !(vget s.brg.eps i).held.isEmpty || mustHold s i d then holdBack s i d via
      else if sigMustWait s i d then
        s.updBrg fun b => { b with eps := vupd b.eps i fun e => { e with heldSigs := e.heldSigs ++ [d] } }
      else issueNow s i d via

/-- The oldest held request of an endpoint is issued if nothing holds it back any more (R202, R203). -/
def pump (s : State) (i : Fin 32) : State :=
  match (vget s.brg.eps i).held with
  | [] => s
  | h :: t =>
    if mustHold s i h.desc then s
    else
      let s1 := s.updBrg fun b => { b with eps := vupd b.eps i fun e => { e with held := t } }
      if sigMustWait s1 i h.desc then
        s1.updBrg fun b => { b with eps := vupd b.eps i fun e => { e with heldSigs := e.heldSigs ++ [h.desc] } }
      else issueNow s1 i h.desc h.via

def pumpAll (s : State) : State := s.each (List.finRange 32) pump

/-- Held signals whose posted requests have left are sent, within the pacing (R203, R218). -/
def releaseSigs (s : State) (i : Fin 32) : State :=
  let e := vget s.brg.eps i
  let go := e.heldSigs.filter fun d => !e.posted.contains (descDest d)
  if 65535 < (windowOf s e).length + go.length then s
  else
    let s1 := s.updBrg fun b => { b with eps := vupd b.eps i fun e => { e with heldSigs := e.heldSigs.filter fun d => !go.contains d } }
    s1.each go fun s d => issueNow s i d .plain

end Sys2Proof.Machine
end

