-- ==== Sys2Proof/Machine/Intm.lean ====
section
/-! DEFINITION. Intermission (R483-R490): entry, resume, wake reasons, WAKE sequences and the wake log. What it does to the
pins stands in Settle.lean and to the e-fuse channels with the latch instant. -/

namespace Sys2Proof.Machine

/-- The node of the active prompter as the markers name it (R488), or, for a node that holds no sheet, as the last roll page or prompter
notice named it (notes/assumptions/134.md). -/
def prompterNode (s : State) : Nat :=
  if s.prompting then s.fab.node
  else match s.sheet with
    | none => s.fab.prompterHeard
    | some c => if s.cue.flags.dom then c.nodeB else c.nodeA

/-- The wake log takes an entry, or loses it (R489). -/
def logWake (s : State) (ringB : Bool) (reason : Byte) : State :=
  if s.host.wake.length < 16 then
    (s.updHost fun h => { h with wake := h.wake ++ [⟨ringB, reason, wd s.present.toNat⟩] }).evt HST_EVT 10
  else (s.bump HST_WAKE_LOST).raise Src.wakeLogLost 0

/-- The end of intermission is asked for at the active prompter (R486): once, with the first cause. -/
def resumeAsk (s : State) (cause : Nat) : State :=
  if s.prompting && decide (s.host.intm = .inside) then
    s.updHost fun h => { h with intmCause := if h.intmClear then h.intmCause else cause, intmClear := true }
  else s

/-- Entry at the latch instant of the first cycle with INTM 1 (R485), at the host die. -/
def intmEnter (s : State) : State :=
  let s1 : State := s.updHost fun h => { h with intm := .inside, intmSent := false, intmClear := false, reasons := [], sentReasons := [] }
  s1.traceAll 0x10

/-- The field die at a latch instant (R485, R487): it enters intermission where the marker told of has INTM 1, engines that are dark
standing at a safe point; the pins' hold of rank 4 ends where it has none. -/
def fieldIntmLatch (s : State) : State :=
  if s.fmodes.intm && !s.fintm then
    let s1 : State := { s with fintm := true, host := { s.host with intmHold := true } }
    { s1 with clusters := s1.clusters.map fun (c : Cluster) => { c with engines := c.engines.map fun (x : Engine) =>
        if x.run = .running ∧ x.dark.isSome then { x with intm := true } else x } }
  else if s.fmodes.intm then s
  else { s with host := { s.host with intmHold := false } }

/-- The modes of the host side reach the field die (R14): rank 2 is held on to the next latch instant after the dark-node state (R433),
engines resume with the first marker of INTM 0 (R487). -/
def modesArrive (s : State) (m : FieldModes) : State :=
  let s1 : State := { s with fmodes := m, fintm := s.fintm && m.intm
                             dark := { s.dark with outHold := if s.fmodes.dark && !m.dark then s.start.latched else s.dark.outHold } }
  if s.fintm && !m.intm then
    { s1 with clusters := s1.clusters.map fun (c : Cluster) => { c with engines := c.engines.map fun (x : Engine) => { x with intm := false } } }
  else s1

/-- The SIG from endpoint 5 for a reason the node has sent (R488). -/
def wakeSignal (s : State) (reason : Nat) : State :=
  let d : Descriptor :=
    { ep := 5, op := .sig, dring := s.ringNo, dnode := prompterNode s, count := 0, burst := false, len := 0, cg := false
      cell := fld (s.regSel BRG_EP_CFG 5) 15 14, addr := 0, set := s.fld HST_WAKE_SIG 7 0, cycle := 0
      data := [wd reason, wd s.present.toNat] }
  issue s d .plain

/-- The first marker with INTM 0 ends intermission (R487). -/
def intmLeave (s : State) : State :=
  let s1 := s.updHost fun h => { h with intm := .resuming, intmFrom := none, intmClear := false, reasons := [] }
  (s1.each s.host.sentReasons wakeSignal).traceAll 0x11

/-- A marker's INTM bit is taken (R484, R485, R487). -/
def intmMarker (s : State) (intm : Bool) : State :=
  match s.host.intm, intm with
  | .inside, false => intmLeave s
  | .pending, false => if s.host.intmFrom.isNone then s.updHost fun h => { h with intm := .running } else s
  | .running, true | .resuming, true => s.updHost fun h => { h with intm := .pending }
  | _, _ => s

/-- The latch instant of a cycle whose marker had INTM 1 enters intermission; the first one after the resume ends it (R485,
R487). -/
def intmLatch (s : State) : State :=
  let s1 := fieldIntmLatch s
  if s.host.intm = .pending ∧ s.cue.flags.intm then intmEnter s1
  else if s.host.intm = .resuming then s1.updHost fun h => { h with intm := .running }
  else s1

/-- A WAKE sequence with its three reason bytes arrives (R486, R489): logged with the majority byte, or 0. -/
def wakeReceive (s : State) (r : Ring) (b0 b1 b2 : Byte) : State :=
  let m := if b0 = b1 ∨ b0 = b2 then b0 else if b1 = b2 then b1 else 0
  resumeAsk (logWake s (decide (r = .b)) m) 2

/-- ENTER (R483). -/
def intmAsk (s : State) : State :=
  if s.prompting && s.cue.scene.target.isNone && decide (s.host.intm = .running) then
    s.updHost fun h => { h with intm := .pending, intmRef := false, intmClear := false, intmFrom := some (refCycle s .a + 2) }
  else s.updHost fun h => { h with intmRef := true }

/-- RESUME (R486, R489): at the active prompter in intermission; logged as reason 0x80. -/
def intmResume (s : State) : State :=
  if s.prompting && decide (s.host.intm = .inside) then logWake (resumeAsk s 1) false 0x80 else s

/-- A write to HST_INTM (R492). -/
def intmWrite (s : State) (v : Word) : State :=
  let s1 := if bitOf v 15 then intmAsk s else s
  let s2 := if bitOf v 14 then intmResume s1 else s1
  if bitOf v 13 then s2.wakeReason 2 else s2

/-- Row INTM_ENTER (R483). -/
def execIntmEnter (t : Nat) (s : State) : Out := done (intmAsk (s.at t))

/-- Row INTM_RESUME (R486). -/
def execIntmResume (t : Nat) (s : State) : Out := done (intmResume (s.at t))

/-- Row INTM_WAKE (R488): reason 0x02. -/
def execIntmWake (t : Nat) (s : State) : Out := done ((s.at t).wakeReason 2)

/-- Row WAKE_SEQUENCE_SEND (R488): three WAKE words in place of three IDLE words of the event region, for a reason that has
arisen. -/
def execWakeSequenceSend (r : Ring) (reason : Fin 6) (t : Nat) (s : State) : Out :=
  let s1 := s.at t
  let b : Byte := BitVec.ofNat 8 reason.val
  done (if s1.host.intm = .inside ∧ s1.host.reasons.contains reason.val ∧ eventOpen s1 r ∧ (s1.stream r).frame.isNone ∧
      (inserter s1).isSome ∧ !guardShut s1 then
    (sendWords s1 r [.wake b, .wake b, .wake b]).updHost fun h =>
      { h with intmSent := true
               sentReasons := if h.sentReasons.contains reason.val then h.sentReasons else h.sentReasons ++ [reason.val] }
  else s1)

/-- Row WAKE_RECEIVE (R486, R489). -/
def execWakeReceive (r : Ring) (b0 b1 b2 : Byte) (t : Nat) (s : State) : Out := done (wakeReceive (s.at t) r b0 b1 b2)

/-- A read of HST_WAKE_W0 (R489, R492). -/
def wakePop (s : State) (path : Path) : Word × State :=
  match s.host.wake with
  | [] => (bitW true 15, latchRegs s path [(HST_WAKE_W1, 0), (HST_WAKE_W2, 0)])
  | e :: t =>
    let s1 := if quiet s path then s else s.updHost fun h => { h with wake := t }
    (bitW e.ring 14 ||| putFld e.reason.toNat 7 0, latchRegs s1 path [(HST_WAKE_W1, e.cycle), (HST_WAKE_W2, 0)])

/-- Row WAKE_LOG_POP (R489). -/
def execWakeLogPop (path : Path) (t : Nat) (s : State) : Out :=
  done ((s.at t).throughLock path HST_WAKE_W0 none fun s => (wakePop s path).2)

/-- Row INTM_SAFE_POINT_WAIT (R269, R485): an engine that has found no safe point stops at an instruction boundary at which
it holds no LOCK. -/
def execIntmSafePointWait (n : Fin 12) (e : Fin 14) (t : Nat) (s : State) : Out :=
  let s1 := s.at t
  done (if (s1.eng n e).run = .running then intmStop s1 n e else s1)

/-- HST_INTM_STAT (R492). -/
def intmStat (s : State) : Word :=
  let h := s.host
  let st := if h.intm = .inside ∧ h.intmClear then 3 else h.intm.code
  putFld st 15 14 ||| bitW h.intmRef 13 ||| bitW h.intmSent 12 ||| putFld h.intmCause 11 8

end Sys2Proof.Machine
end

