-- ==== Sys2Proof/Machine/StoreOps.lean ====
section
/-! DEFINITION. The retained store as other units use it: journal records (R383, R384), slots and the stagebook in force
(R375, R379), and the application of a stagebook's sections (R369, R370, R383, R388). -/

namespace Sys2Proof.Machine

/-- RST_EVT bits (R393). -/
abbrev rstLOADED : Nat := 15
abbrev rstCHKDONE : Nat := 14
abbrev rstCHKFAIL : Nat := 13
abbrev rstUPDDONE : Nat := 12
abbrev rstUPDFAIL : Nat := 11
abbrev rstPROMOTED : Nat := 10
abbrev rstSHEETLD : Nat := 9
abbrev rstSCRUBERR : Nat := 8
abbrev rstWEAR : Nat := 7
abbrev rstKEEPFIT : Nat := 6
abbrev rstWPOVR : Nat := 5

def bIx (b : Bool) : Fin 2 := if b then 1 else 0
def State.slot (s : State) (b : Bool) : Slot := vget s.store.slots (bIx b)
def State.updSlot (s : State) (b : Bool) (f : Slot → Slot) : State :=
  s.updStore fun x => { x with slots := vupd x.slots (bIx b) f }
def State.updJrn (s : State) (f : Journal → Journal) : State := s.updStore fun x => { x with jrn := f x.jrn }

/-! Journal. -/

/-- Byte address of word i of the record area, a ring of 47,616 words, and of cell i of a head bank (R365, R385). -/
def jrnWordAt (i : Nat) : Nat := storeBase + 0x60C00 + 2 * (i % 47616)
def jrnHeadAt (bank : Bool) (i : Nat) : Nat := storeBase + 0x60000 + (b2n bank * 256 + i % 256) * 6

/-- Words of a record (R383). -/
def jrnSize (b : JrnBody) : Nat := match b with | .field .. => 9 | .slot .. => 8

/-- The selector word of a record: 0xFFFF for a register without selection (R383). -/
def jrnSel (addr sel : Nat) : Word := match regRow? addr with
  | none => 0xFFFF
  | some r => if r.sel = .one ∨ r.sel = .path then 0xFFFF else wd sel

/-- The words of a record with its sequence number, CRC and commit word (R383). -/
def jrnWords (b : JrnBody) (seq : DWord) : List Word :=
  let body : List Word := match b with
    | .field a sel v base => [putFld (a / 0x10000) 15 15 ||| putFld a 14 0, jrnSel a sel, v, base]
    | .slot s st force sheet => [wd (b2n s), bitW force 15 ||| putFld st 2 0, wd sheet]
  let ty := match b with | .field .. => 1 | .slot .. => 2
  let head := [putFld ty 15 12 ||| putFld body.length 7 0] ++ toWords 2 seq.toNat ++ body
  head ++ [wd (crcWords 16 0x1021 0xFFFF head), putFld 0xC3 15 8 ||| putFld seq.toNat 7 0]

/-- Two records concern one register or one slot, so that the newer makes the older dead (R387). -/
def jrnSame (x y : JrnBody) : Bool :=
  match x, y with
  | .field a b _ _, .field c d _ _ => decide (a = c) && decide (b = d)
  | .slot a .., .slot b .. => decide (a = b)
  | _, _ => false

/-- The value the stagebook in force sets for a register, else its default (R11, R383). -/
def baseOf (s : State) (addr sel : Nat) : Word :=
  match s.store.items.find? fun i => decide (i.addr = addr) && decide (i.sel = sel) with
  | some i => i.value
  | none => regRestore (regKey addr sel)

/-- A record begins at once, or waits for the one under way (R384). -/
def jrnPush (s : State) (b : JrnBody) : State :=
  s.updJrn fun j => match j.writing with
    | none => { j with writing := some (b, false) }
    | some _ => { j with held := j.held ++ [b] }

/-- The journal is busy, so that a write to a persistent register is held (R384). -/
def jrnBusy (s : State) : Bool := s.store.jrn.writing.isSome || !s.store.jrn.held.isEmpty

/-- The new value of a persistent register goes to the journal (R383). -/
def jrnField (s : State) (addr sel : Nat) (v : Word) : State := jrnPush s (.field addr sel v (baseOf s addr sel))

/-- A SLOT record (R383): the slot's new state, whether it is in force, its sheet. -/
def slotRecord (s : State) (b force : Bool) : State :=
  let x := s.slot b
  jrnPush s (.slot b x.state.code force (match x.content with | none => 0 | some c => c.sheet.id))

/-- The stagebook in force (R375, R379): the new one from the swap of an update on (R390). -/
def inForce (s : State) : Option Stagebook :=
  match s.store.upd with
  | some (b, 4) => (s.slot b).content
  | _ => match s.store.force with
    | none => none
    | some b => (s.slot b).content

/-- A valid stagebook is in force (R181, R200). -/
def haveSb (s : State) : Bool := (inForce s).isSome && !s.store.base

/-- Generation bits [15:0] of the stagebook in force, or 0 (R181). -/
def sbGen (s : State) : Word := match inForce s with | none => 0 | some c => wd c.gen.toNat

/-- The slot not in force; slot A where none is (R381). -/
def spareSlot (s : State) : Bool := match s.store.force with | none => false | some b => !b

/-! Applying a stagebook (R11, R369, R370, R383). -/

/-- The value a stagebook sets for a register, else its default (R11). -/
def itemValue (items : List RegItem) (addr sel : Nat) : Word :=
  match items.find? fun i => decide (i.addr = addr) && decide (i.sel = sel) with
  | some i => i.value
  | none => regRestore (regKey addr sel)

/-- A live FIELD record of a register. -/
def jrnValue (j : Journal) (addr sel : Nat) : Option (Word × Word) :=
  j.live.findSome? fun x => match x.1 with
    | .field a b v base => if a = addr ∧ b = sel then some (v, base) else none
    | .slot .. => none

/-- Registers of one space that a stagebook, the one before it or the journal names. -/
def restoreKeys (s : State) (items : List RegItem) (field : Bool) : List (Nat × Nat) :=
  let all := (s.store.items ++ items).map (fun i => (i.addr, i.sel)) ++
    s.store.jrn.live.filterMap fun x => match x.1 with | .field a b _ _ => some (a, b) | .slot .. => none
  (all.filter fun k => decide (0x10000 ≤ k.1) == field).eraseDups

/-- The fields of a register that are not persistent, though others of it are: LNK_BYP.STATE (R61), FAB_FETCH_CTRL.RESTART (R200)
and CLU_CTRL.HOLDMAP of each cluster (R274). -/
def passing (addr : Nat) : Word :=
  if addr = LNK_BYP ∨ addr = FAB_FETCH_CTRL then 0x2000
  else if (List.range 12).any fun n => decide (addr = CLU_CTRL n) then 0x4000
  else 0

/-- What restoring a value leaves in a register that holds `old`: bits of fields that are not persistent are ignored (R383). -/
def restMask (addr : Nat) (old v : Word) : Word := (v &&& ~~~ passing addr) ||| (old &&& passing addr)

/-- A register takes its restore value: the journal's where its base equals what the stagebook sets, else the stagebook's;
a record that does not fit is dropped (R11, R383). -/
def restoreReg (items : List RegItem) (s : State) (k : Nat × Nat) : State :=
  let base := itemValue items k.1 k.2
  let old := s.regSel k.1 k.2
  let other (x : JrnBody × Nat) : Bool := match x.1 with
    | .field a b _ _ => !(decide (a = k.1) && decide (b = k.2))
    | .slot .. => true
  match jrnValue s.store.jrn k.1 k.2 with
  | some (v, b) =>
    if b = base then s.setRegSel k.1 k.2 (restMask k.1 old v)
    else (s.setRegSel k.1 k.2 (restMask k.1 old base)).updJrn fun j => { j with live := j.live.filter other }
  | none => s.setRegSel k.1 k.2 (restMask k.1 old base)

/-- REG items of the hub space and of the field space (R370). -/
def hubItems (l : List RegItem) : List RegItem := l.filter fun i => decide (i.addr < 0x10000)
def fieldItems (l : List RegItem) : List RegItem := l.filter fun i => decide (0x10000 ≤ i.addr)

/-- The registers of a space take what a stagebook sets. -/
def restoreRegs (s : State) (items : List RegItem) (field : Bool) : State := (restoreKeys s items field).foldl (restoreReg items) s

/-- The hub-side sections of a stagebook (R369): its registers with what follows from them, its cast tables, its input
image. -/
def hubSections (s : State) (c : Stagebook) : State :=
  let links := s.reg LNK_CTRL
  let s1 := portEnables links (restoreRegs s c.regs false)
  let s2 := s1.each (List.finRange 20) fun s i => quotaWritten s i
  let s3 : State := { s2 with fab := { s2.fab with tables := some c.cast }
                              cmp := { s2.cmp with inpub := c.cmp, numref := s2.cmp.numref && c.cmp.isSome }
                              start := { s2.start with lnkApplied := true } }
  s3.updStore fun x => { x with items := hubItems c.regs ++ fieldItems x.items }

/-- The sections the field die holds, in tag order: PWR, and each cluster that a stagebook or the one before it gives a
section (R369, R390). -/
def fieldTags (s : State) (c : Stagebook) : List Nat :=
  0xA :: ((List.finRange 12).filter fun n =>
    (s.cl n).cfg.isSome || c.clusters.any fun x => decide (x.1 = n.val)).map fun n => 0x10 + n.val

/-- A section in the stream of a slot, from word p on with n sections to go: its first word, and its words with tag, length and
CRC (R369). -/
def sectionAt (s : State) (slot : Bool) (tag : Nat) : Nat → Nat → Option (Nat × Nat)
  | 0, _ => none
  | n + 1, p =>
    let w (i : Nat) : Word := s.word (slotBase slot + 2 * (p + i))
    let size := 5 + ofWords [w 1, w 2]
    if fld (w 0) 14 0 = tag then some (p, size) else sectionAt s slot tag n (p + size)

/-- The words of a section of a slot, none where it has no such section. -/
def sectionWords (s : State) (slot : Bool) (tag : Nat) : List Word :=
  match sectionAt s slot tag (s.word (slotBase slot + 16)).toNat 10 with
  | none => []
  | some (p, size) => s.words (slotBase slot + 2 * p) size

/-- The check of a section's CRC-32 over tag, length and body (R69, R369, R390); a section that is not there has nothing to check. -/
def sectionCrcOk (ws : List Word) : Bool :=
  let n := ws.length - 2
  ws.isEmpty || decide (crcWords 32 0x04C11DB7 0xFFFFFFFF (ws.take n) ^^^ 0xFFFFFFFF = ofWords (ws.drop n))

/-- A section as STAGEBOOK_CHUNK messages, 13 of its words and three of the message's own in each (R15, R390); one message without
words tells the field die that there is no such section. -/
def chunksOf (tag : Nat) (slot staged : Bool) : Nat → Bool → List Word → List BarPayload
  | 0, _, _ => []
  | n + 1, first, ws =>
    if ws.length ≤ 13 then [.chunk tag slot staged first true ws]
    else .chunk tag slot staged first false (ws.take 13) :: chunksOf tag slot staged n false (ws.drop 13)

/-- A section becomes ready for the field die. -/
def sendSection (s : State) (tag : Nat) (slot staged : Bool) : State :=
  let ws := sectionWords s slot tag
  s.each (chunksOf tag slot staged (ws.length + 1) true ws) fun s b => s.barReady .hf .chunk b

/-- The field-side sections are sent to the field die as STAGEBOOK_CHUNK messages (R390, R533). -/
def sendChunks (s : State) (c : Stagebook) (slot staged : Bool) : State :=
  s.each (fieldTags s c) fun s tag => sendSection s tag slot staged

/-- The cue sheet of a stagebook is placed (R388, R533): before the first accepted marker it waits for the bank that marker
names. -/
def placeSheet (s : State) (c : Stagebook) : State :=
  s.updCue fun x => { x with banks := vset x.banks (if x.bank then 1 else 0) (some c.sheet), placed := anyMarker s, noSheet := false }

/-- A slot's state changes; the journal records it (R375, R383). -/
def setSlot (s : State) (b : Bool) (st : SlotState) : State :=
  slotRecord (s.updSlot b fun x => { x with state := st }) b (decide (s.store.force = some b))

/-- A slot becomes LIVE and in force (R377, R388, R390). -/
def slotInForce (s : State) (b : Bool) : State :=
  let s1 := (s.updSlot b fun x => { x with state := .live }).updStore fun x => { x with force := some b, base := false }
  slotRecord s1 b true

/-- The other sections of a stagebook whose sheet has come into force by a scene change (R388): as by an update, without a
swap of cores. -/
def sheetInForce (s : State) : State :=
  match s.store.sheetSlot with
  | none => s
  | some b => match (s.slot b).content with
    | none => s
    | some c =>
      let s1 := (slotInForce s b).evt RST_EVT rstPROMOTED
      let s2 := hubSections s1 c
      (sendChunks s2 c b false).updStore fun x => { x with sheetSlot := none }

end Sys2Proof.Machine
end

