-- ==== Sys2Proof/Machine/Cue.lean ====
section
/-! DEFINITION. The cue sequencer (R62-R81), the guardian (R82-R85), line heads (R86-R89), prompters (R90-R94), wing slots
(R95-R98) and scene changes (R99-R103). -/

namespace Sys2Proof.Machine

def State.updGuard (s : State) (f : GuardState → GuardState) : State := s.updCue fun c => { c with guard := f c.guard }
def State.updPrompter (s : State) (f : PrompterState → PrompterState) : State :=
  s.updCue fun c => { c with prompter := f c.prompter }
def State.updWing (s : State) (f : WingState → WingState) : State := s.updCue fun c => { c with wing := f c.wing }
def State.updScene (s : State) (f : SceneState → SceneState) : State := s.updCue fun c => { c with scene := f c.scene }

/-- k has come, counting cycles modulo 2^32. -/
def reached (k at_ : DWord) : Bool := decide (0 ≤ diff32 k at_)

/-- At a marker of a ring, entries of that ring take the state waiting for them (R84), and timed insertion opens or closes
(R535). -/
def guardAtMarker (s : State) (r : Ring) : State :=
  let ringOf_ (i : Nat) : Bool := match s.sheet with
    | none => true
    | some c => match c.guard[i]? with
      | none => true
      | some g => decide (g.ring = r)
  let s1 := s.updGuard fun g =>
    let go := g.next.filter fun x => ringOf_ x.1
    { g with next := g.next.filter fun x => !ringOf_ x.1
             kinds := go ++ g.kinds.filter fun x => !(go.any fun y => decide (y.1 = x.1)) }
  s1.updGuard fun g => { g with open_ := !mustClose s1 && (g.open_ || mayOpen s1), shut := g.shut && g.tblerr }

/-- The guardian's check of its table in a hop band (R85). -/
def guardCheck (s0 : State) (crcOk : Bool) : State :=
  let (inj, s) := hubCheck s0 Src.guardTable
  let ok := crcOk && inj.isNone
  let g := s.cue.guard
  if g.dead then s
  else if !g.tblerr then
    (if ok then s
     else raiseHub (s.updGuard fun g => { g with tblerr := true, shut := true, reloaded := false, fails := [] }) Src.guardTable 0 inj)
  else if !g.reloaded then s
  else if ok then s.updGuard fun g => { g with tblerr := false, reloaded := false, fails := [] }
  else
    let fs := (g.fails.filter fun t => decide (s.now < t + secT)) ++ [s.now]
    let s1 := s.updGuard fun g => { g with reloaded := false, fails := fs, dead := decide (fs.length ≥ 3) }
    if fs.length ≥ 3 then s1.raise Src.guardClosed 0 else s1

/-- The position of an entry on a ring (R75, R105). -/
def posOn (e : CueEntry) (r : Ring) : Nat := match r with | .a => e.posA | .b => e.posB
def modeOn (e : CueEntry) (r : Ring) : Bool :=
  match r with
  | .a => decide (e.mode = 1 ∨ e.mode = 3)
  | .b => decide (e.mode = 2 ∨ e.mode = 3)

/-- The places in a sheet's guardian table of the owned wing slot `slot`. -/
def wingPlaces (c : CueSheet) (slot : Nat) : List Nat :=
  let es := c.entries.filter fun e => decide (e.wing = some slot) && e.owned
  (c.guard.zipIdx.filter fun (g, _) => es.any fun e => decide (posOn e g.ring = g.pos)).map (·.2)

/-- The guardian kind of the node's wing slot as its claim stands (R84, R96). -/
def wingKind (w : WingState) : GuardKind := match w.phase with
  | .claiming => .wingClaiming
  | .owned => .wingOpen
  | _ => .wingClosed

/-- What a node keeps of its subscriptions when a new sheet takes over (R102): carry-over entries run on, the others start
at AGE 255 and VALID 0; a wing slot carried over keeps its owner, whose guardian entries stay open. -/
def carryOver (new : CueSheet) (c : CueState) : CueState :=
  let keep (i : Nat) : Bool := new.entries.any fun e => decide (e.ix = i) && e.carry
  let wing := if new.entries.any (fun e => e.carry && decide (e.wing = some c.wing.slot)) then c.wing else
    { WingState.init with lfsr := c.wing.lfsr }
  { c with status := c.status.filter fun x => keep x.entry
           landings := c.landings.filter fun x => keep x.entry
           arrived := c.arrived.filter fun x => keep x.entry
           wing := wing
           guard := { c.guard with kinds := (wingPlaces new wing.slot).map fun i => (i, wingKind wing), next := [] } }

/-- A wing claim or an ownership ends (R97, R98): the node is as one that has not claimed. -/
def wingDrop (s : State) : State :=
  s.updCue fun c => { c with wing := { WingState.init with lfsr := c.wing.lfsr }, guard := { c.guard with kinds := [], next := [] } }

/-- The node's own decision for cycle k: it switches banks where an announced scene change falls due without a veto
(R101). -/
def sceneDue (s : State) (k : DWord) : Bool := match s.cue.scene.target with
  | none => false
  | some (c, _) => reached k c

/-- The first accepted marker after a start names the bank of the sheet that was loaded (R388). -/
def firstBank (s : State) (b : Bool) : State :=
  if s.cue.placed then s
  else
    let sheet := s.sheet
    s.updCue fun c => { c with bank := b, banks := vset (Vector.replicate 2 none) (bankIx b) sheet, placed := true }

/-- The bank a marker of cycle k names is taken (R101-R103): the sheet it names is in force from this cycle. -/
def applyBank (s0 : State) (k : DWord) (b : Bool) : State :=
  let s := firstBank s0 b
  let due := sceneDue s k
  let own := if due && !s.cue.scene.vetoed then !s.cue.bank else s.cue.bank
  let s1 := if due && s.cue.scene.vetoed then (s.evt CUE_EVT 10).raise Src.sceneVeto 0 else s
  let s2 := if due then s1.updScene fun x => { SceneState.init with vetoed := x.vetoed, vsent := x.vsent } else s1
  match s2.sheetAt b with
  | none =>
    let s3 := s2.updCue fun c => { c with bank := b, noSheet := true }
    if s.cue.noSheet && decide (b = s.cue.bank) then s3 else (s3.evt CUE_EVT 8).raise Src.noSheet 0
  | some new =>
    let s3 := s2.updCue fun c => { c with noSheet := false }
    let s4 := if b = s.cue.bank then s3
      else sheetInForce ((s3.updCue fun c => { carryOver new c with bank := b, sceneCycle := some k }).evt CUE_EVT 11)
    if b ≠ own then (s4.evt CUE_EVT 9).raise Src.sceneMismatch 0 else s4

/-- The inactive bank holds the announced sheet: the node has confirmed (R100). -/
def haveSheet (s : State) : Bool :=
  match s.cue.scene.target, s.sheetAt (!s.cue.bank) with
  | some (_, id), some c => decide (c.id = id)
  | _, _ => false

/-- By cycle C - 16 a node has confirmed, or it has not (R100). -/
def sceneConfirm (s : State) (old : DWord) : State :=
  match s.cue.scene.target with
  | none => s
  | some (c, _) =>
    if diff32 c s.present ≤ 16 ∧ 16 < diff32 c old then s.updScene fun x => { x with unconfirmed := !haveSheet s } else s

/-- A cycle boundary of the node (R76, R96, R97, R100): the cycle that ends had this length in ticks. Both ports must be up for the cycles
without a break. -/
def boundary (s : State) (k : DWord) (counted : Int) : State :=
  let whole := (s.link .west).state.carries && (s.link .east).state.carries
  sceneConfirm ((advanceS s k counted).updCue fun c =>
    { c with calm := if whole then min 16 (c.calm + 1) else 0, wing := { c.wing with backoff := c.wing.backoff - 1 } }) s.present

/-- The node ends its line-head role on a ring (R89): CUE_EVT.LHEND and a notice with END. -/
def lineEnd (s : State) (r : Ring) : State :=
  let l := s.lineOf r
  let s0 := s.updLine r fun l => { l with head := false, started := false, handover := none, forwardNext := false }
  let s1 := (s0.updCue fun c => { c with phase := if l.handover.isSome then 0 else c.phase }).evt CUE_EVT 14
  broadcast s1 1 1 ([bitW (decide (r = .b)) 15 ||| putFld s.fab.node 11 0] ++ cycleW l.nextCycle ++ [bitW true 14])

/-- A marker is accepted on the receive port of a ring whose line head the node is (R89): by how many words its own marker
comes after it. -/
def lineCompare (s : State) (r : Ring) (off : Int) : State :=
  let l := s.lineOf r
  if !l.head then s
  else if s.prompting then lineEnd s r
  else
    let d : Int := if l.started then ((l.sentAt : Int) - s.now) / wordT else -off
    let n := match cycleWords s r l.sentCycle s.cue.flags with | none => 0 | some n => n
    let d := if (n : Int) ≠ 0 ∧ d < -((n : Int) / 2) then d + n else d
    if -2 ≤ d ∧ d ≤ 2 then
      (s.updLine r fun l => { l with handover := none, forwardNext := true }).updCue fun c =>
        { c with phase := if l.handover.isSome then 0 else c.phase }
    else s.updLine r fun l => { l with handover := some d }

/-- CUE_PHASE after an accepted marker (R105): 64 from a takeover's first marker, 8 less with each SLEW 01. -/
def phaseAfter (s : State) (domChange : Bool) (off : Int) (f : MarkerFlags) : Nat :=
  if domChange then (if 62 ≤ off ∧ off ≤ 66 then 64 else 0)
  else if f.slew = 1 then s.cue.phase - 8 else s.cue.phase

/-- What a node does at the first marker of a cycle, whichever ring brings it (R76, R101, R105, R124). -/
def cycleMarker (s : State) (k : DWord) (f : MarkerFlags) (counted : Int) (domChange : Bool) (off : Int) : State :=
  let first := !anyMarker s
  let s1 := boundary s k counted
  let s2 := if first then s1.updTime fun t => { t with dom := f.dom }
    else if domChange then
      let s2 := domainSwitch s1 f.dom
      if 62 ≤ off ∧ off ≤ 66 then (s2.evt CUE_EVT 13).raise Src.takeover 0 else s2.evt CUE_EVT 12
    else s1
  let ph := phaseAfter s domChange off f
  let s3 := s2.updCue fun c => { c with cycle := k, flags := f, phase := ph }
  intmMarker (applyBank s3 k f.bank) f.intm

/-- The stream that a ring brings in at a marker (R66, R146): its event region is closed and its hop band over. A change of prompter ends
the old cycle: nothing of it leaves any more, and a frame cut off ends as if by ERR. -/
def streamIn (s : State) (r : Ring) (domChange : Bool) : State :=
  s.updStream r fun x =>
    let x := { x with open_ := false, band := 0 }
    if domChange then
      { x with frame := none, inter := none, interDue := false, inside := none, buffer := [], sending := [] }
    else x

/-- The stream that leaves on a ring at a marker (R67, R154): the allowance starts anew less the debt, and the node's own hop band is
over. -/
def streamOut (s : State) (r : Ring) : State :=
  let allow := (s.reg (match r with | .a => SWQ_ALLOW_A | .b => SWQ_ALLOW_B)).toNat
  s.updStream r fun x =>
    let used := min x.debt allow
    { x with used := used, debt := x.debt - used, ended := false }

/-- A marker of the ring that lags: the node has the present cycle from the other ring already. -/
def isBehind (s : State) (r : Ring) (k : DWord) (f : MarkerFlags) : Bool :=
  let d := diff32 k s.present
  decide (-4 ≤ d) && decide (d < 0) && decide (f.dom = s.time.dom) &&
  (generates s r.other || ((s.trackOf r.other).seen && decide ((s.trackOf r.other).cycle = s.present)))

/-- A cycle of known number joins those a ring has shown (R570); the last eight are kept. -/
def shown (tr : RingTrack) (n : Option Nat) : List (DWord × Nat) := match n with
  | none => tr.measured
  | some n => ((tr.cycle, n) :: tr.measured.filter fun x => decide (x.1 ≠ tr.cycle)).take 8

/-- The length that a cycle had, as the interval to the marker accepted now, less its SLEW (R570); a cycle with INTM 1, and one that a change
of prompter or of phase ends, counts with the length it was to have. -/
def intervalOf (s : State) (r : Ring) (k : DWord) (plain : Bool) : Option Nat :=
  let tr := s.trackOf r
  let raw := (s.now - tr.at_ + wordT / 2) / wordT
  if !tr.seen || decide (k ≠ tr.cycle + 1) then none
  else if tr.flags.intm || !plain then some ((baseWords s r tr.cycle).getD raw)
  else some (if tr.flags.slew = 1 then raw + 8 else if tr.flags.slew = 2 then raw - 8 else raw)

/-- A marker is accepted (R66, R115): `adopted` is a new phase, `off` its words after the expected position. -/
def markerAccept (s0 : State) (r : Ring) (k : DWord) (f : MarkerFlags) (crcOk adopted : Bool) (off slew transit : Int) : State :=
  let open_ := (s0.trackOf r).seen && decide ((s0.trackOf r).closed ≠ some (s0.trackOf r).cycle)
  let s := if open_ then closeWindow s0 r else s0
  let tr := s.trackOf r
  let domChange := tr.seen && decide (f.dom ≠ tr.flags.dom)
  let tr1 : RingTrack :=
    { tr with
      seen := true, cycle := k, flags := f, at_ := s.now, candidate := none, flying := false
      measured := shown tr (intervalOf s r k (!domChange && !adopted))
      unusable := if f.slew ≠ 0 ∨ !crcOk then 2 else tr.unusable - 1 }
  let counted : Int := (s.now : Int) - tr.at_
  let newCycle := !isBehind s r k f && (decide (k ≠ s.present) || !anyMarker s || domChange && decide (f.dom ≠ s.time.dom))
  let s1 := if crcOk && decide (f.slew ≠ 3) then s else s.bump CUE_CM_ERR
  let s2 := if newCycle then cycleMarker s1 k f counted domChange off
    else if k = s.present then
      (let s2 := s1.updCue fun c => { c with cycle := k, flags := f }
       if f.bank = s.cue.bank then s2 else applyBank s2 k f.bank)
    else s1
  let s3 := (s2.updTrack r fun _ => tr1).updLink r.inPort fun l => { l with inUse := true }
  let s4 := (s3.updRingT r fun x => { x with transit := transit }).updPrompter fun p => { p with heard := p.heard || p.listening }
  let s5 := s4.updDark fun d => { d with reopen := d.reopen && d.dark }
  let s6 := streamIn (if generates s5 r then s5 else streamOut s5 r) r domChange
  let s7 := phaseError (lineCompare (guardAtMarker s6 r) r off) r k
  let usable := crcOk && decide (f.slew = 0) && decide (tr.unusable = 0) && !adopted && !tr.flying && decide (s.time.settle = 0) &&
    !domChange && mayDiscipline s7 r && s7.time.sValid
  let s8 := if usable then discipline (s7.updTrack r fun t => { t with usableAt := some k }) r slew else s7
  timeSyncReady s8

/-- A marker that the active prompter takes in (R66, R71, R112): its own marker ranges the loop; it ends here. -/
def markerEnds (s : State) (r : Ring) (k : DWord) (f : MarkerFlags) (crcOk : Bool) : State :=
  let l := s.lineOf r
  let base : Int := (s.now : Int) - l.sentAt
  let loop := if k = l.sentCycle then base
    else if k + 1 = l.sentCycle then base + lenTicks s k s.cue.flags.intm else (s.ringT r).loop
  let s0 := if crcOk && decide (f.slew ≠ 3) then s else s.bump CUE_CM_ERR
  let s1 := (s0.updTrack r fun t => { t with seen := true, cycle := k, flags := f, at_ := s.now }).updLink r.inPort
    fun l => { l with inUse := true }
  let s2 := if crcOk && decide (f.dom = ownDom s) then s1.updRingT r fun x => { x with loop := loop } else s1
  lineCompare (streamIn s2 r false) r 0

/-- A marker's place against the position expected (R66): words after the nearer of this cycle's and the next one's. -/
def markerOff (s : State) (r : Ring) : Option Int :=
  match expectedAt s r with
  | none => none
  | some e =>
    let d1 : Int := ((s.now : Int) - e + wordT / 2) / wordT
    let d0 : Int := ((s.now : Int) - (s.trackOf r).at_ + wordT / 2) / wordT
    some (if max d1 (-d1) ≤ max d0 (-d0) then d1 else d0)

/-- The node sends IDLE on a ring in place of what it receives (R431). -/
def idles (s : State) (r : Ring) : Bool := s.dark.dark && vget s.dark.idleRing r.ix

/-- A marker of another generator ends the IDLE a former prompter sends while dark (R431): one with a DOM other than the
one it last sent, or with LH 1. -/
def idleEnds (s : State) (r : Ring) (f : MarkerFlags) : State :=
  if idles s r && (f.lh || decide (f.dom ≠ ownDom s)) then
    s.updDark fun d => { d with idleRing := vset d.idleRing r.ix false }
  else s

/-- A marker that is flywheeled over (R66): its place is kept as a candidate for a new phase; one with SLEW 11 counts. -/
def flownOver (s : State) (r : Ring) (f : MarkerFlags) (off : Int) : State :=
  (if f.slew = 3 then s.bump CUE_CM_ERR else s).updTrack r fun t => { t with candidate := some off }

/-- A marker arrives (R65, R66, R570). -/
def markerReceive (s0 : State) (r : Ring) (w1 w2 w3 : Word) (slew transit : Int) : State :=
  let ok := markerOk w1 w2 w3
  let s := if ok then idleEnds s0 r (markerFlags w3) else s0
  let tr := s.trackOf r
  let f := if ok then markerFlags w3 else { tr.flags with slew := 0 }
  let k : DWord := if ok then w1 ++ w2 else tr.cycle + 1
  if !(s.link r.inPort).state.carries || idles s r then s
  else if s.prompting then (if ok || tr.seen then markerEnds s r k f ok else s.bump CUE_CM_ERR)
  else if !tr.seen then (if ok then markerAccept s r k f true false 0 slew transit else s.bump CUE_CM_ERR)
  else if ok && decide (f.dom ≠ tr.flags.dom) then markerAccept s r k f true false ((markerOff s r).getD 0) slew transit
  else match markerOff s r with
    | none => if ok then markerAccept s r k f true false 0 slew transit else s.bump CUE_CM_ERR
    | some off =>
      if -2 ≤ off ∧ off ≤ 2 then markerAccept s r k f ok false off slew transit
      else if s.sheet.isNone then
        (if ok then markerAccept (((s.bump CUE_CM_MISS).evt CUE_EVT 5).raise Src.phaseAdopted r.ix.val) r k f true true off slew transit
         else s.bump CUE_CM_ERR)
      else match tr.candidate with
        | none => flownOver s r f off
        | some c =>
          if -2 ≤ off - c ∧ off - c ≤ 2 then
            markerAccept ((s.evt CUE_EVT 5).raise Src.phaseAdopted r.ix.val) r k f ok true off slew transit
          else flownOver s r f off

/-- The acceptance window of a marker closes (R66, R126): of the marker accepted last, or of an expected one that has not come, which the
node flywheels over. The window of an accepted marker is over four words after it at the latest. -/
def windowClose (s0 : State) (r : Ring) : State :=
  let pending := (s0.trackOf r).seen && decide ((s0.trackOf r).closed ≠ some (s0.trackOf r).cycle)
  let s := if pending && !s0.prompting then closeWindow s0 r else s0
  let tr := s.trackOf r
  match expectedAt s r with
  | none => s
  | some e =>
    if s.prompting || decide (s.now < e) then s
    else
      let k := tr.cycle + 1
      let s1 := (s.bump CUE_CM_MISS).updTrack r fun t =>
        { t with cycle := k, at_ := e, flags := { t.flags with slew := 0 }, flying := true, unusable := t.unusable - 1
                 measured := shown t (baseWords s r t.cycle) }
      let s2 := if reached k (s.present + 1) then timeSyncReady (boundary s1 k ((e : Int) - tr.at_)) else s1
      closeWindow (if generates s r then s2 else streamOut s2 r) r

/-- The flags of a marker that the active prompter composes for cycle k (R65, R92, R101, R483, R537). -/
def prompterFlags (s : State) (k : DWord) : MarkerFlags :=
  let bank := if sceneDue s k && !s.cue.scene.vetoed then !s.cue.bank else s.cue.bank
  let intm := match s.host.intmFrom with
    | none => false
    | some n => reached k n && !s.host.intmClear
  ⟨ownDom s, false, bank, s.time.hold || s.time.ptpLost, intm, if s.cue.prompter.slews > 0 then 1 else 0⟩

/-- A generated marker leaves on a ring (R65, R71, R82, R85, R87): the guardian opens at it or blocks it, and no core's words leave where none
is accepted. -/
def markerOut (s : State) (r : Ring) (k : DWord) (f : MarkerFlags) : State :=
  let s1 := s.updLine r fun l => { l with sentAt := s.now, sentCycle := k, sentFlags := f }
  let s2 := guardAtMarker (streamOut s1 r) r
  match inserter s2 with
  | none => sendWords s2 r []
  | some c => if guardShut s2 then guardBlock (sendWords s2 r []) r rgMarker 0 c else sendWords s2 r (markerWords k f)

/-- The active prompter stands down (R93, R94): it forwards from now on; what is in its transit stores leaves ahead of forwarded words
(R151). -/
def standDown (s : State) : State :=
  let s1 := s.updPrompter fun p => { p with active := false, yield_ := false, request := none, slews := 0 }
  (s1.updCue fun c => { c with phase := 0, relays := [] }).updFab fun f =>
    { f with rolling := false, rollDue := [], castQueue := [] }

/-- A node that becomes the active prompter takes the words it has displaced into its transit stores (R151, R153). -/
def storeBegin (s : State) : State :=
  let go (x : EventStream) : EventStream := { x with store := x.store ++ x.buffer, buffer := [], outAt := s.now }
  (s.updStream .a go).updStream .b go

/-- The active prompter stands at hop 0 of both rings and at p_X of the cast list (R185, R190). -/
def prompterPlace (s : State) : State :=
  s.updFab fun f =>
    { f with hA := 0, hB := 0, posFixed := f.tables.isSome
             pos := f.tables.map fun t => if s.cue.flags.dom then t.posB else 0 }

/-- The flags of the first marker of a prompter's takeover or request (R92, R94): its SLEWs begin with the next cycle. -/
def firstFlags (s : State) (k : DWord) : MarkerFlags := { prompterFlags s k with slew := 0 }

/-- A standby prompter becomes the active one with the marker of cycle k (R92, R94): it switches to its own domain and
takes its ranged distance as its nominal phase. Both rings' markers of cycle k are still to be sent. -/
def promptFrom (s : State) (k : DWord) (slews : Nat) : State :=
  let pa := markerDelay s .a
  let pb := markerDelay s .b
  let s1 := (s.updRingT .a fun x => { x with nominal := if namedA s then 0 else pa }).updRingT .b fun x =>
    { x with nominal := if namedA s then 0 else pb }
  let s2 := s1.updPrompter fun p => { p with active := true, listening := false, yield_ := false, request := none, slews := slews }
  let s3 := domainSwitch s2 (ownDom s)
  let s4 := boundary s3 k (lenTicks s s.present s.cue.flags.intm)
  let s5 := s4.updHost fun h => { h with intmFrom := if s.cue.flags.intm then some k else h.intmFrom }
  let f := firstFlags s5 k
  let s6 := s5.updCue fun c =>
    { c with cycle := k, flags := f, relays := [], phase := if slews > 0 then 64 else 0
             lines := c.lines.map fun l => { l with sentCycle := k - 1 } }
  let s7 := intmMarker (applyBank s6 k f.bank) f.intm
  prompterPlace (storeBegin ((s7.updTime fun t => { t with hold := false, missRun := 0 }).updFab fun f =>
    { f with rollDue := f.rollDue ++ [k + 16] }))

/-- The active prompter's marker on a ring (R62, R71, R92-R94, R101): the first ring of a cycle brings the node's cycle
boundary; a prompter that has lost or been asked yields there instead. -/
def prompterMarker (s : State) (r : Ring) : State :=
  let l := s.lineOf r
  let k := l.sentCycle + 1
  let p := s.cue.prompter
  let asked := match p.request with | none => false | some n => reached k n
  if k = s.present then markerOut s r k s.cue.flags
  else if p.yield_ || asked then (standDown s).evt CUE_EVT 12
  else
    let f := prompterFlags s k
    let s1 := boundary s k ((s.now : Int) - l.sentAt)
    let ph := if f.slew = 1 then s.cue.phase - 8 else s.cue.phase
    let s2 := s1.updCue fun c =>
      { c with cycle := k, flags := f, phase := ph, prompter := { c.prompter with slews := c.prompter.slews - 1 } }
    let s3 := intmMarker (applyBank s2 k f.bank) f.intm
    timeSyncReady (markerOut s3 r k f)

/-- A line head's marker (R87, R89, R484): DOM, BANK and INTM from the last marker it accepted; in handover SLEW moves it
toward the received one; where both agree it forwards instead. -/
def lineMarker (s : State) (r : Ring) : State :=
  let l := s.lineOf r
  let k := if l.started then l.sentCycle + 1 else (s.trackOf r).cycle + 1
  if l.forwardNext then lineEnd s r
  else
    let slew := match l.handover with
      | none => 0
      | some d => if d > 0 then 1 else 2
    let bank := if sceneDue s k && !s.cue.scene.vetoed then !s.cue.bank else s.cue.bank
    let f : MarkerFlags := ⟨s.cue.flags.dom, true, bank, s.time.hold, s.cue.flags.intm, slew⟩
    let s1 := s.updLine r fun l =>
      { l with started := true, nextCycle := if l.started then l.nextCycle else k
               handover := l.handover.map fun d => if d > 8 then d - 8 else if d < -8 then d + 8 else 0 }
    let ph := match (s1.lineOf r).handover with | none => 0 | some d => min 64 (max d (-d)).toNat
    let s2 := if l.handover.isSome then s1.updCue fun c => { c with phase := ph } else s1
    let s3 := if reached k (s.present + 1) then timeSyncReady (applyBank (boundary s2 k ((s.now : Int) - refAt s r)) k bank) else s2
    markerOut s3 r k f

/-- A marker is to be sent on a ring (R71, R82, R87, R94). -/
def markerSend (s : State) (r : Ring) : State :=
  let p := s.cue.prompter
  if s.prompting then prompterMarker s r
  else match p.request with
    | some n =>
      if s.present + 1 = n then timeSyncReady (markerOut ((promptFrom s n 0).evt CUE_EVT 12) r n (firstFlags s n))
      else if (s.lineOf r).head then lineMarker s r else s
    | none =>
      if (s.lineOf r).head then lineMarker s r
      else match inserter s with
        | none => s
        | some c => guardBlock s r rgMarker 0 c

/-- The owner word of a wing slot (R95). -/
def ownerWord (s : State) (k : DWord) : Word := putFld k.toNat 15 12 ||| putFld s.fab.node 11 0

/-- What the node inserts at an owned passage (R68, R69, R77, R96): the payload from the send bank with its CRC; at a wing
slot it claims the owner word alone. -/
def passageWords (s : State) (e : CueEntry) (k : DWord) : List RingWord :=
  let n := e.len - cueCrcLen e.len
  let pay := (List.range n).map fun i => s.sendWord (e.addr + i)
  match e.wing with
  | none => (cueWords e.len k e.id pay).map .data
  | some _ =>
    let own := ownerWord s k
    if s.cue.wing.phase = .owned ∧ reached k s.cue.wing.fullFrom then (cueWords e.len k e.id (own :: pay.drop 1)).map .data
    else .data own :: List.replicate (e.len - 1) .idle

/-- An owned cue passage reaches the insertion point (R77, R82, R83, R96, R399). -/
def cuePassage (s : State) (r : Ring) (ix : Nat) : State :=
  match s.ringSheet r, inserter s with
  | some c, some core =>
    match c.entries.find? fun e => decide (e.ix = ix) && e.owned && modeOn e r with
    | none => s
    | some e =>
      let k := refCycle s r
      let wingOk := match e.wing with
        | none => true
        | some w => decide (w = s.cue.wing.slot) &&
          (decide (s.cue.wing.phase = .owned) || (decide (s.cue.wing.phase = .claiming) && reached k s.cue.wing.claimCycle))
      if !wingOk || !(s.cue.guard.open_ || guardShut s) then s
      else timedInsert s r (posOn e r) (passageWords s e k) core
  | _, _ => s

/-- The publication a copy of stream cycle c carries (R78): c - 1, less m where its path crossed the relay of the prompter
the marker's DOM names. -/
def publicationOf (s : State) (c : CueSheet) (e : CueEntry) (r : Ring) : DWord :=
  let tr := s.trackOf r
  let bit := (match tr.flags.dom with | false => 2 | true => 0) + (match r with | .a => 1 | .b => 0)
  let m := if e.cross.testBit bit then relayM c tr.flags.dom r else 0
  tr.cycle - 1 - BitVec.ofNat 32 m

/-- A copy of one subscription has passed (R68, R69, R79, R95): its seed is the stream cycle in which its owner inserted it, one after
its publication. DEDUCED: a copy that is all IDLE, as R73 has a relay send one, is not counted, since R105 has CUE_CRCERR count copies not all
IDLE (notes/assumptions/122.md). -/
def copyFor (s : State) (c : CueSheet) (r : Ring) (ws : List RingWord) (e : CueEntry) : State :=
  match copyPayload e.len (publicationOf s c e r + 1) e.id ws with
  | none => if ws.all fun w => decide (w = .idle) then s else s.bump CUE_CRCERR
  | some p =>
    let followed := match e.wing with
      | none => true
      | some _ => decide (fld (wAt p 0) 11 0 = e.follow)
    if followed then
      s.updCue fun x => { x with arrived := x.arrived ++ [⟨e.ix, r, publicationOf s c e r, p⟩] }
    else s

/-- A relayed position has passed at the active prompter (R72): kept for the stream cycle m later, as IDLE where it
failed. -/
def relayFor (s : State) (c : CueSheet) (r : Ring) (ws : List RingWord) (e : RelayEntry) : State :=
  let k := (s.trackOf r).cycle
  let good := if e.wing then
      (match ws.head? with
        | some (.data w) => decide (fld w 15 12 = k.toNat % 16) && decide (1 ≤ fld w 11 0) && decide (fld w 11 0 ≤ 3999)
        | _ => false)
    else (copyPayload e.len k e.id ws).isSome
  let out := if good then ws else List.replicate e.len .idle
  s.updCue fun x => { x with relays := x.relays ++ [⟨r, e.pos, k + BitVec.ofNat 32 (relayM c (ownDom s) r), out⟩] }

/-- Guardian entries at the wing slot take a kind at the next marker of their ring (R84, R96). -/
def wingGuard (s : State) (slot : Nat) (kind : GuardKind) : State :=
  match s.sheet with
  | none => s
  | some c =>
    let hit := wingPlaces c slot
    s.updGuard fun g => { g with next := hit.map (fun i => (i, kind)) ++ g.next.filter fun x => !hit.contains x.1 }

/-- Wing slots of the node's sheet (R96). -/
def wingSlots (c : CueSheet) : List Nat := c.entries.filterMap fun e => if e.owned then e.wing else none

/-- The back-off register (R97): seeded from the unique ID, one step of x^16 + x^14 + x^13 + x^11 + 1. DESIGN CHOICE: the rule gives
the polynomial alone; the register shifts right, and the sum of bits 0, 2, 3 and 5 comes in at bit 15 (notes/assumptions/127.md). -/
def wingSeed : Word :=
  let x := Config.uniqueId 0 ^^^ Config.uniqueId 1 ^^^ Config.uniqueId 2 ^^^ Config.uniqueId 3
  if x = 0 then 0xACE1 else x
def lfsrStep (x : Word) : Word :=
  let b := ((bitOf x 0 != bitOf x 2) != bitOf x 3) != bitOf x 5
  (x >>> 1) ||| bitW b 15

/-- The wing claim backs off (R97). -/
def wingBackoff (s : State) : State :=
  (wingGuard s s.cue.wing.slot .wingClosed).updWing fun w =>
    let l := lfsrStep (if w.lfsr = 0 then wingSeed else w.lfsr)
    { w with phase := .backoff, lfsr := l, backoff := l.toNat % 16 + 1, idleRuns := Vector.replicate 2 0, checks := Vector.replicate 2 0 }

/-- The words of a wing slot the node claims have passed (R96). -/
def wingSee (s : State) (c : CueSheet) (r : Ring) (e : CueEntry) (ws : List RingWord) : State :=
  let w := s.cue.wing
  let k := (s.trackOf r).cycle
  if e.wing ≠ some w.slot ∨ !e.owned then s
  else match w.phase with
    | .listening =>
      if ws.head? = some .idle then
        let runs := vupd w.idleRuns r.ix (· + 1)
        let s1 := s.updWing fun w => { w with idleRuns := runs }
        if runs.toList.all fun n => decide (n ≥ 3) then
          (wingGuard s1 w.slot .wingClaiming).updWing fun w =>
            { w with phase := .claiming, claimCycle := s.present + 1, checks := Vector.replicate 2 0 }
        else s1
      else
        let rest := (wingSlots c).filter fun x => decide (x > w.slot)
        match rest.head? with
        | some x => s.updWing fun w => { w with slot := x, idleRuns := Vector.replicate 2 0 }
        | none => wingBackoff s
    | .claiming =>
      let m := relayM c (s.trackOf r).flags.dom r
      let i := (k - w.claimCycle).toNat
      if i < m ∨ i > m + 2 then s
      else
        let want := putFld (k.toNat + 16 - m) 15 12 ||| putFld s.fab.node 11 0
        if ws.head? = some (.data want) then
          let checks := vupd w.checks r.ix (· + 1)
          let s1 := s.updWing fun w => { w with checks := checks }
          if checks.toList.all fun n => decide (n ≥ 3) then
            (wingGuard (s1.updWing fun w => { w with phase := .owned, fullFrom := s.present + 1 }) w.slot .wingOpen).evt CUE_EVT 7
          else s1
        else wingBackoff (((s.bump CUE_WING_COLL).evt CUE_EVT 6).raise Src.wingCollision w.slot)
    | _ => s

/-- The words at one position of a ring have passed (R72, R79, R96), in a stream cycle governed by the sheet its marker names (R101). -/
def cueCopy (s : State) (r : Ring) (pos : Nat) (ws : List RingWord) : State :=
  match s.sheetAt (s.trackOf r).flags.bank with
  | none => s
  | some c =>
    let subs := c.entries.filter fun e => !e.owned && modeOn e r && decide (posOn e r = pos)
    let wings := c.entries.filter fun e => e.owned && e.wing.isSome && modeOn e r && decide (posOn e r = pos)
    let rels := if s.prompting then c.relay.filter fun e => decide (e.ring = r) && decide (e.pos = pos) else []
    let s1 := s.each subs fun s e => copyFor s c r ws e
    let s2 := s1.each rels fun s e => relayFor s c r ws e
    s2.each wings fun s e => wingSee s c r e ws

/-- The delivery latch instant of a publication of an entry has come (R79, R104). -/
def deliveryPassed (s : State) (ix : Nat) (pub : DWord) : Bool := match s.runSheet with
  | none => false
  | some c => match c.entries.find? fun e => decide (e.ix = ix) with
    | none => false
    | some e => s.time.sValid && decide (sOf s (pub + BitVec.ofNat 32 (e.depth + 1)) + (c.tLat * nsT : Nat) ≤ s.ring)

/-- A copy becomes usable (R79, R104): it lands in its open buffer, is a second copy, or is late or early. -/
def copyUsable (s : State) (ix : Nat) (r : Ring) : State :=
  match s.cue.arrived.find? fun a => decide (a.entry = ix) && decide (a.ring = r) with
  | none => s
  | some a =>
    let s1 := s.updCue fun c => { c with arrived := c.arrived.erase a }
    if !deliveryPassed s ix a.pub && s.cue.landings.any fun l => decide (l.entry = ix) && decide (l.pub = a.pub) then
      s1.updCue fun c => { c with landings := c.landings.map fun l =>
        if l.entry = ix ∧ l.pub = a.pub then
          (match l.data with
            | none => { l with data := some a.payload, ring := r, copies := 1 }
            | some _ => { l with copies := l.copies + 1 })
        else l }
    else (s1.bump CUE_LATE).raise Src.cueLate ix

/-- Landing buffers open at the flip instant of cycle k for publication k (R79). -/
def landingsOpen (s : State) (k : DWord) : State :=
  match s.runSheet with
  | none => s
  | some c => s.updCue fun x => { x with landings := x.landings ++
      (c.entries.filter fun e => !e.owned && decide (e.mode ≠ 0)).map fun e => ⟨e.ix, k, none, .a, 0⟩ }

def statusOf (s : State) (ix : Nat) : SubStatus := match s.cue.status.find? fun x => decide (x.entry = ix) with
  | none => ⟨ix, false, false, false, 255⟩
  | some x => x

/-- The status word of R81. -/
def statusWord (x : SubStatus) : Word := bitW x.valid 15 ||| bitW x.single 14 ||| bitW x.ring 13 ||| putFld x.age 7 0

/-- Word w of the subscribe area: readable copies, and the status words of the cue table's entries (R81). -/
def subWord (s : State) (w : Nat) : Word :=
  if w < 0x3800 then s.word (subBase + 2 * w) else statusWord (statusOf s (w - 0x3800))

/-- One subscription at the latch instant of cycle k (R79, R81). -/
def deliver (s : State) (k : DWord) (e : CueEntry) : State :=
  let pub := k - BitVec.ofNat 32 (e.depth + 1)
  let l := s.cue.landings.find? fun l => decide (l.entry = e.ix) && decide (l.pub = pub)
  let old := statusOf s e.ix
  let put (s : State) (x : SubStatus) : State :=
    s.updCue fun c => { c with status := x :: c.status.filter fun y => decide (y.entry ≠ e.ix) }
  let s1 := s.updCue fun c => { c with landings := c.landings.filter fun l => decide (l.entry ≠ e.ix) || decide (0 < diff32 l.pub pub) }
  match l.bind (fun l => l.data.map fun d => (l, d)) with
  | some (l, d) =>
    let single := decide (e.mode = 3) && decide (l.copies = 1)
    let s2 := s1.setWords (subBase + 2 * e.addr) d
    let s3 := if single then s2.bump CUE_SINGLE else s2
    put (s3.bump (match l.ring with | .a => CUE_TAKEA | .b => CUE_TAKEB)) ⟨e.ix, true, single, decide (l.ring = .b), 0⟩
  | none =>
    let age := satAdd 255 old.age 1
    let valid := old.valid && decide (age ≤ e.limit)
    let s2 := put s1 { old with age := age, valid := valid }
    if old.valid && !valid then
      ((s2.evt CUE_EVT 4).cmpStatus 4).cmpError
    else s2

/-- The latch instant of cycle k delivers (R79). -/
def deliverAll (s : State) (k : DWord) : State :=
  match s.runSheet with
  | none => s
  | some c => s.each (c.entries.filter fun e => !e.owned && decide (e.mode ≠ 0)) fun s e => deliver s k e

/-- The relayed copy of a position is due in the present stream cycle (R72, R82, R85, R102). -/
def relaySend (s : State) (r : Ring) (pos : Nat) : State :=
  match s.ringSheet r with
  | none => s
  | some c =>
    match c.relay.find? fun e => decide (e.ring = r) && decide (e.pos = pos) with
    | none => s
    | some e =>
      if !s.prompting then s
      else
        let k := (s.lineOf r).sentCycle
        let due := s.cue.relays.find? fun x => decide (x.ring = r) && decide (x.pos = pos) && decide (x.due = k)
        let fresh := match s.cue.sceneCycle with
          | none => false
          | some n => reached k n && !reached k (n + BitVec.ofNat 32 (relayM c (ownDom s) r))
        let ws := match due with
          | none => List.replicate e.len .idle
          | some x => if fresh && !e.carry then List.replicate e.len .idle else x.words
        let none_ : List RingWord := List.replicate e.len .idle
        let s1 := match inserter s with
          | none => sendWords s r none_
          | some core => if guardShut s then guardBlock (sendWords s r none_) r rgTimed pos core else sendWords s r ws
        let stays (y : RelayCopy) : Bool := decide (y.ring ≠ r) || decide (y.pos ≠ pos) || decide (0 < diff32 y.due k)
        s1.updCue fun x => { x with relays := x.relays.filter stays }

/-- A line-head notice of this node (R88). -/
def lineNoticeSend (s : State) (r : Ring) : State :=
  let l := s.lineOf r
  if !l.head then s
  else (broadcast s 1 1 ([bitW (decide (r = .b)) 15 ||| putFld s.fab.node 11 0] ++ cycleW l.nextCycle ++ [bitW true 15])).updLine r
    fun l => { l with noticeAt := some s.present }

/-- A line-head notice arrives (R88, R96, R166, R180). -/
def lineNotice (s : State) (p : List Word) : State :=
  let r : Ring := if bitOf (wAt p 0) 15 then .b else .a
  let n := fld (wAt p 0) 11 0
  if bitOf (wAt p 3) 15 then
    ((s.cmpStatus 3).updSw fun w => { w with breaks := if w.breaks.contains (r, n) then w.breaks else w.breaks ++ [(r, n)] }).updCue
      fun c => { c with calm := 0 }
  else if bitOf (wAt p 3) 14 then
    let s1 := s.updSw fun w =>
      { w with breaks := w.breaks.erase (r, n)
               flows := w.flows.map fun f => if f.repinned ∧ f.endCycle.isNone then { f with endCycle := some s.present } else f }
    s1.updFab fun f => { f with rollDue := if s.prompting then f.rollDue ++ [s.present + 16] else f.rollDue }
  else s

/-- A named prompter may start to listen (R90). -/
def mayListen (s : State) : Bool :=
  !s.dark.dark && (namedA s || namedB s) && s.store.force.isSome && !s.store.base && s.lead?.isSome &&
  ((s.link .west).state.carries || (s.link .east).state.carries)

/-- It listens: it holds the number its CAST section was compiled for (R90, R537). DESIGN CHOICE: this is the instant at which prompter B
first starts, at which its own domain begins (R122, R129; notes/assumptions/128.md). -/
def prompterListen (s : State) (ptp : Int) : State :=
  let p := s.cue.prompter
  if !mayListen s || p.listening || p.active then s
  else
    let s1 := s.updPrompter fun p => { p with listening := true, heard := false }
    let s2 := s1.updFab fun f => { f with node := s.compiled, cast := true, castOk := true }
    if namedB s then domainBegin s2 ptp false else s2

/-- A prompter begins (R90, R92, R109, R537): cycle 0 at the ring time of this instant, 0 or PTP time, with its first
marker on both rings. -/
def prompterStart (s : State) (time : Int) : State :=
  let b := namedB s
  let s1 := s.updPrompter fun p =>
    { p with listening := false, heard := false, active := true, slews := 0, yield_ := false, request := none }
  let s2 := s1.updTime fun t =>
    { t with ofs := time - s.now, dom := b, s := time, sCycle := 0, sValid := true
             counts := [(0, 0)], locked := true, everLocked := true, hold := false, missRun := 0
             instDone := Vector.replicate 3 none, passed := none, ownZero := some ((s.now : Int) - time) }
  let s3 := (s2.updRingT .a fun x => { x with nominal := 0 }).updRingT .b fun x => { x with nominal := 0 }
  let f : MarkerFlags := ⟨b, false, false, false, false, 0⟩
  let s4 := (firstBank s3 false).updCue fun c => { c with cycle := 0, flags := f, bank := false, phase := 0, relays := [] }
  let s5 := prompterPlace (storeBegin (s4.updFab fun x => { x with rollDue := [16] }))
  timeSyncReady (markerOut (markerOut s5 .a 0 f) .b 0 f)

/-- The listening period ends (R90, R129): a prompter that heard a marker stands by; one to be disciplined by PTP waits for
its lock. -/
def prompterBegin (s : State) (ptp : Int) (waited : Bool) : State :=
  let p := s.cue.prompter
  if !p.listening then s
  else if p.heard then
    let s1 := s.updPrompter fun p => { p with listening := false }
    if namedB s then domainBegin s1 ptp waited else s1
  else if !s.bit TIM_CFG 15 then prompterStart s 0
  else if s.host.ptpLock then prompterStart s ptp
  else if waited then prompterStart s 0
  else s

/-- The cycle a standby prompter requests (R94, R538): at least 8 cycles ahead, while its claim is higher than the active
one's; prompter A no earlier than 24 cycles after its first time notice. -/
def requestCycle (s : State) : Option DWord :=
  let p := s.cue.prompter
  if s.prompting || decide (ownClaim s ≤ p.peer) then none
  else match p.request with
    | some n => some n
    | none =>
      let early := match p.noticed with
        | none => true
        | some k => namedA s && !reached s.present (k + 24)
      if early then none else some (s.present + 9)

/-- A prompter's notice (R91, R94). -/
def prompterNoticeSend (s : State) : State :=
  if !(namedA s || namedB s) || s.cue.prompter.listening then s
  else
    let q := requestCycle s
    let s1 := if s.prompting then s else s.updPrompter fun p => { p with request := q }
    let ask := !s.prompting && q.isSome
    broadcast s1 1 2 ([wd s.fab.node, wd (ownClaim s), bitW s.prompting 15 ||| bitW ask 14] ++ cycleW (q.getD 0))

/-- A prompter's notice arrives (R91, R93, R94). -/
def prompterNotice (s : State) (p : List Word) : State :=
  let node := fld (wAt p 0) 11 0
  let claim := (wAt p 1).toNat
  let s0 := if bitOf (wAt p 2) 15 then s.updFab fun f => { f with prompterHeard := node } else s
  if !(namedA s || namedB s) || decide (node = s.fab.node) then s0
  else
    let s1 := s0.updPrompter fun x => { x with peer := claim }
    let s2 := if bitOf (wAt p 2) 15 && s.prompting then
        (if claim > ownClaim s ∨ (claim = ownClaim s ∧ node < s.fab.node) then s1.updPrompter fun x => { x with yield_ := true }
         else s1)
      else s1
    if bitOf (wAt p 2) 14 && s.prompting then s2.updPrompter fun x => { x with request := some (wCycle p 3) } else s2

/-- Prompter B takes over (R92): the marker of the missing cycle on both rings, DOM 1. -/
def takeover (s : State) : State :=
  if s.dark.dark || !namedB s || s.prompting || s.cue.prompter.listening || !anyMarker s then s
  else
    let k := s.present + 1
    let s1 := promptFrom s k 8
    let f := firstFlags s1 k
    timeSyncReady (((markerOut (markerOut s1 .a k f) .b k f).evt CUE_EVT 13).raise Src.takeover 0)

/-- A wing claim may begin (R96, R535). -/
def wingStart (s : State) : State :=
  match s.sheet with
  | none => s
  | some c =>
    let w := s.cue.wing
    match (wingSlots c).head? with
    | none => s
    | some x =>
      if !(decide (w.phase = .none) || decide (w.phase = .waiting)) || s.cue.calm < 16 || !s.cue.guard.open_ || mustClose s then s
      else s.updWing fun w => { w with phase := .listening, slot := x, idleRuns := Vector.replicate 2 0 }

/-- SCENE_ARM (R99, R104, R483). -/
def sceneArm (s : State) : State :=
  let c : DWord := s.reg CUE_SCN_CYC_H ++ s.reg CUE_SCN_CYC_L
  if !s.prompting || s.cue.scene.target.isSome || decide (s.host.intm ≠ .running) || decide (diff32 c s.present < 64) then s
  else s.updScene fun _ => { SceneState.init with target := some (c, (s.reg CUE_SCN_ID).toNat), armed := true }

/-- SCENE_CANCEL (R103). -/
def sceneCancel (s : State) : State :=
  match s.cue.scene.target with
  | none => s
  | some (c, _) =>
    let d := diff32 c s.present
    if !s.prompting then s
    else if d > 16 then s.updScene fun _ => .init
    else if d ≥ 10 then s.updScene fun x => { x with cancelVeto := true, vetoed := true }
    else s

/-- A scene notice (R99, R100). -/
def sceneNotice (s : State) (p : List Word) : State :=
  let c := wCycle p 0
  if s.cue.scene.target = some (c, (wAt p 2).toNat) then s
  else
    let s1 := s.updScene fun _ => { SceneState.init with target := some (c, (wAt p 2).toNat) }
    s1.updScene fun x => { x with unconfirmed := decide (diff32 c s.present ≤ 16) && !haveSheet s1 }

/-- The scene notices of the arming prompter (R99). -/
def sceneNoticeSend (s : State) : State :=
  match s.cue.scene.target with
  | none => s
  | some (c, id) =>
    if s.prompting && s.cue.scene.armed && decide (diff32 c s.present ≥ 17) then broadcast s 1 3 (cycleW c ++ [wd id]) else s

/-- A veto of this node in cycles C - 16 to C - 9 (R100, R103). -/
def vetoSend (s : State) : State :=
  match s.cue.scene.target with
  | none => s
  | some (c, id) =>
    let d := diff32 c s.present
    if decide (9 ≤ d) && decide (d ≤ 16) && (s.cue.scene.unconfirmed || s.cue.scene.cancelVeto) then
      (broadcast s 0 4 (cycleW c ++ [wd id, putFld s.fab.node 11 0])).updScene fun x =>
        { x with vsent := true, vetoed := true }
    else s

/-- A veto arrives (R100, R101, R104): ignored once the marker of cycle C - 1 has been composed. -/
def vetoReceive (s : State) (p : List Word) : State :=
  match s.cue.scene.target with
  | none => s
  | some (c, id) =>
    if wCycle p 0 = c ∧ (wAt p 2).toNat = id ∧ diff32 c s.present > 1 then
      s.updScene fun x => { x with vetoed := true }
    else s

/-- Row GUARD_RELOAD (R85). -/
def execGuardReload (t : Nat) (s : State) : Out :=
  let s1 := s.at t
  done (if s1.cue.guard.tblerr && !s1.cue.guard.dead then (s1.bump GRD_RELOADS).updGuard fun g => { g with reloaded := true } else s1)

/-- Row HOP_BAND (R38, R40, R85): the fill of the port's elastic buffer at its start, and whether the guardian's table
passes its check. -/
def execHopBand (p : Port) (fill : Nat) (tableOk : Bool) (t : Nat) (s : State) : Out :=
  let s1 := s.at t
  done (if (s1.link p).state.carries && runsCycle s1 p.outRing then
    ebSlip (guardCheck ((hopSend s1 p).updStream p.outRing fun x => { x with ended := true }) tableOk) p fill
  else s1)

/-- Row HOP_BAND_IDLE (R38): the hop band of a port that is UP with no cycle. -/
def execHopBandIdle (p : Port) (fill : Nat) (t : Nat) (s : State) : Out :=
  let s1 := s.at t
  done (if (s1.link p).state.carries && !runsCycle s1 p.outRing then ebSlip (hopSend s1 p) p fill else s1)

/-- Row MARKER_RECEIVE (R65, R66, R115-R118, R570): the marker's three data words; `slew` is the timekeeper's movement for
this marker, held to the bounds of R116, and `transit` the marker's measured transit through the node in ticks. -/
def execMarkerReceive (r : Ring) (w1 w2 w3 : Word) (slew transit : Int) (t : Nat) (s : State) : Out :=
  done (markerReceive (s.at t) r w1 w2 w3 slew transit)

/-- Row MARKER_WINDOW_CLOSE (R66, R126). -/
def execMarkerWindowClose (r : Ring) (t : Nat) (s : State) : Out := done (windowClose (s.at t) r)

/-- Row MARKER_SEND (R71, R87, R94). -/
def execMarkerSend (r : Ring) (t : Nat) (s : State) : Out := done (markerSend (s.at t) r)

/-- Row CUE_PASSAGE (R77): entry ix of the cue table on a ring. -/
def execCuePassage (r : Ring) (ix : Nat) (t : Nat) (s : State) : Out := done (cuePassage (s.at t) r ix)

/-- Row CUE_COPY_RECEIVE (R69, R72, R79, R96): the words that have passed from a position of a ring. -/
def execCueCopyReceive (r : Ring) (pos : Nat) (ws : List RingWord) (t : Nat) (s : State) : Out :=
  done ((s.at t).delivered fun s => cueCopy s r pos ws)

/-- Row COPY_USABLE (R79). -/
def execCopyUsable (r : Ring) (ix : Nat) (t : Nat) (s : State) : Out := done (copyUsable (s.at t) ix r)

/-- Row RELAY_SEND (R72). -/
def execRelaySend (r : Ring) (pos : Nat) (t : Nat) (s : State) : Out := done (relaySend (s.at t) r pos)

/-- Row LINE_HEAD_MARKER (R87): the first marker a line head generates. -/
def execLineHeadMarker (r : Ring) (t : Nat) (s : State) : Out :=
  let s1 := s.at t
  done (if (s1.lineOf r).head && !(s1.lineOf r).started && anyMarker s1 && !s1.prompting then lineMarker s1 r else s1)

/-- Row LINE_HEAD_NOTICE_SEND (R88). -/
def execLineHeadNoticeSend (r : Ring) (t : Nat) (s : State) : Out := done (lineNoticeSend (s.at t) r)

/-- Row LINE_HEAD_NOTICE (R88, R96, R166, R180). -/
def execLineHeadNotice (payload : List Word) (t : Nat) (s : State) : Out := 
  done ((s.at t).delivered fun s => lineNotice s payload)

/-- Row PROMPTER_LISTEN (R90, R129). -/
def execPrompterListen (w : PtpInstant) (s : State) : Out := done (prompterListen (s.at w.t) w.ptp)

/-- Row PROMPTER_BEGIN (R90, R537): `ptp` is PTP time at this instant. -/
def execPrompterBegin (ptp : Int) (t : Nat) (s : State) : Out := done (prompterBegin (s.at t) ptp false)

/-- Row PTP_WAIT_EXPIRE (R129). -/
def execPtpWaitExpire (t : Nat) (s : State) : Out := done (prompterBegin (s.at t) 0 true)

/-- Row PROMPTER_NOTICE_SEND (R91, R94). -/
def execPrompterNoticeSend (t : Nat) (s : State) : Out := done (prompterNoticeSend (s.at t))

/-- Row PROMPTER_NOTICE (R91, R93, R94). -/
def execPrompterNotice (payload : List Word) (t : Nat) (s : State) : Out := 
  done ((s.at t).delivered fun s => prompterNotice s payload)

/-- Row TAKEOVER (R92): prompter A's marker is missing on every ring whose receive port is up. -/
def execTakeover (t : Nat) (s : State) : Out := done (takeover (s.at t))

/-- Row YIELD (R93): the loser stops at its cycle boundary. -/
def execYield (t : Nat) (s : State) : Out :=
  let s1 := s.at t
  done (if s1.prompting && s1.cue.prompter.yield_ then (standDown s1).evt CUE_EVT 12 else s1)

/-- Row WING_CLAIM_START (R96). -/
def execWingClaimStart (t : Nat) (s : State) : Out := done (wingStart (s.at t))

/-- Row WING_BACKOFF_END (R97): the claim begins again with the first wing slot. -/
def execWingBackoffEnd (t : Nat) (s : State) : Out :=
  let s1 := s.at t
  done (if s1.cue.wing.phase = .backoff then wingStart (s1.updWing fun w => { w with phase := .waiting, backoff := 0 }) else s1)

/-- Row SCENE_ARM (R99). -/
def execSceneArm (t : Nat) (s : State) : Out := done (sceneArm (s.at t))

/-- Row SCENE_CANCEL (R103). -/
def execSceneCancel (t : Nat) (s : State) : Out := done (sceneCancel (s.at t))

/-- Row SCENE_NOTICE_SEND (R99). -/
def execSceneNoticeSend (t : Nat) (s : State) : Out := done (sceneNoticeSend (s.at t))

/-- Row SCENE_NOTICE (R99, R100). -/
def execSceneNotice (payload : List Word) (t : Nat) (s : State) : Out := 
  done ((s.at t).delivered fun s => sceneNotice s payload)

/-- Row VETO_SEND (R100, R103). -/
def execVetoSend (t : Nat) (s : State) : Out := done (vetoSend (s.at t))

/-- Row VETO (R100, R101). -/
def execVeto (payload : List Word) (t : Nat) (s : State) : Out := done ((s.at t).delivered fun s => vetoReceive s payload)

/-- CUE_ROLE, CUE_SCN_CTRL, CUE_SCN_STAT, CUE_WING, CUE_RELAY (R105). -/
def cueRole (s : State) : Word :=
  bitW (namedA s) 15 ||| bitW (namedB s) 14 ||| bitW s.prompting 13 ||| bitW (s.lineOf .a).head 12 ||| bitW (s.lineOf .b).head 11 |||
  bitW (s.lineOf .a).endOfLine 10 ||| bitW (s.lineOf .b).endOfLine 9 ||| bitW s.cue.flags.dom 8 ||| bitW s.cue.flags.hold 7 |||
  bitW s.cue.bank 6
def sceneCtrl (s : State) : Word := bitW (s.cue.scene.armed && s.cue.scene.target.isSome) 15
/-- CUE_SCN_STAT.STATE: a veto shows until the next scene change is announced. -/
def sceneState (s : State) : Nat :=
  if s.cue.scene.vetoed then 3 else if s.cue.scene.target.isNone then 0 else if haveSheet s then 2 else 1
def sceneStat (s : State) : Word := putFld (sceneState s) 15 14 ||| bitW (haveSheet s) 13 ||| bitW s.cue.scene.vsent 12
def wingReg (s : State) : Word :=
  putFld s.cue.wing.phase.code 15 13 ||| putFld s.cue.wing.backoff 12 8 ||| putFld s.cue.wing.slot 7 0
def relayReg (s : State) : Word := match s.sheet with
  | none => 0
  | some c => putFld c.maa 15 12 ||| putFld c.mab 11 8 ||| putFld c.mba 7 4 ||| putFld c.mbb 3 0

/-- The entry CUE_ENT_SEL names and its five registers (R105). -/
def cueEnt (s : State) (sel : Nat) : Option CueEntry := match s.sheet with
  | none => none
  | some c => c.entries.find? fun e => decide (e.ix = sel)
def cueEntCfg (e : CueEntry) : Word :=
  bitW e.owned 15 ||| putFld e.mode 14 13 ||| putFld e.depth 12 11 ||| bitW e.carry 10 ||| putFld (e.len - 1) 9 0
def cueEntXl (e : CueEntry) : Word := putFld e.limit 15 8 ||| putFld e.cross 3 0

/-- GRD_STAT and the entries GRD_ENT_SEL shows (R107). -/
def grdStat (s : State) : Word :=
  let n := match s.sheet with | none => 0 | some c => c.guard.length
  let held (r : Ring) : Bool := generates s r || (s.link r.inPort).inUse
  bitW (s.cue.guard.open_ && !guardShut s) 15 ||| bitW (s.cue.guard.tblerr || s.cue.guard.dead) 14 ||| bitW (held .a && held .b) 13 |||
  bitW (generates s .a || generates s .b) 12 ||| putFld n 9 0
def grdEnt (s : State) (sel : Nat) : Word × Word :=
  match s.sheet with
  | none => (0, 0)
  | some c =>
    if sel < 512 then
      match c.guard[sel]? with
      | none => (0, 0)
      | some g => (wd g.pos, bitW (decide (g.ring = .b)) 15 ||| putFld (kindOf s sel g).code 14 12 ||| putFld (g.len - 1) 9 0)
    else match c.relay[sel - 512]? with
      | none => (0, 0)
      | some g => (wd g.pos, bitW (decide (g.ring = .b)) 15 ||| putFld 1 14 12 ||| putFld (g.len - 1) 9 0)

end Sys2Proof.Machine
end

