-- ==== Sys2Proof/Machine/Stream.lean ====
section
/-! DEFINITION. The event streams as they pass the node: words (R35-R37, R146, R147, R151-R153), the fate of each frame
(R144, R145, R148-R151), its own frames and interjections (R153-R158). -/

namespace Sys2Proof.Machine

/-! Parsing (R147, R157). -/

/-- What leaves in place of the next word of a passing frame, and the frame after it. -/
def passWord (p : Passing) (w : RingWord) : RingWord × Passing :=
  let out : RingWord := match p.subst with
    | some x :: _ => if w = .err then .err else x
    | _ => w
  (if p.strip then .idle else out, { p with left := p.left - 1, subst := p.subst.drop 1 })

/-- A word of the event stream as it leaves the parse. -/
structure Parsed where
  word : RingWord
  /-- IDLE outside a frame, or a stripped word -/
  fill : Bool
  /-- the parse has lost its place -/
  misframe : Bool
  stream : EventStream

/-- The parse ends at a word that does not belong where it stands (R147, R157). Such a word is no fill: it came inside a frame. -/
def lostPlace (x : EventStream) (w : RingWord) : Parsed :=
  ⟨w, false, true, { x with frame := none, inter := none, interDue := false }⟩

/-- A word of a frame or between frames (R147, R157, R158). -/
def parseWord (x : EventStream) (w : RingWord) : Parsed :=
  match w with
  | .ieOpen => match x.frame with
    | none => lostPlace x w
    | some p =>
      if x.inter.isSome || x.interDue then lostPlace x w
      else ⟨if p.strip then .idle else w, p.strip, false, { x with interDue := true }⟩
  | .ieClose => match x.frame with
    | none => lostPlace x w
    | some p =>
      if x.inter.isSome || x.interDue then
        ⟨if p.strip then .idle else w, p.strip, false, { x with inter := none, interDue := false }⟩
      else lostPlace x w
  | .data _ | .err => match x.inter with
    | some q =>
      if q.left = 0 then ⟨w, false, false, x⟩
      else
        let (out, q') := passWord q w
        ⟨out, q.strip, false, { x with inter := some q' }⟩
    | none => match x.frame with
      | none => ⟨w, false, false, x⟩
      | some p =>
        if x.interDue then ⟨w, false, false, x⟩
        else
          let (out, p') := passWord p w
          ⟨out, p.strip, false, { x with frame := if p'.left = 0 then none else some p' }⟩
  | _ => if x.frame.isSome || x.inter.isSome then lostPlace x w else ⟨w, decide (w = .idle), false, x⟩

/-- The class of the frame that goes on in what leaves after the word just parsed, 0 in an interjection; none where the node sends IDLE in
place of its words. -/
def insideOf (x : EventStream) : Option Nat :=
  match x.frame with
  | none => none
  | some p =>
    if !p.strip then some (if x.inter.isSome || x.interDue then 0 else p.cls)
    else match x.inter with
      | none => none
      | some q => if q.strip || decide (q.left = 0) then none else some 0

/-! Sending (R151-R153). -/

/-- A word of the passing stream waits: in the transit store of the active prompter, and behind what is left in it, else in the insertion
buffer (R151, R153). -/
def waitWord (store : Bool) (w : RingWord) (inside : Option Nat) (x : EventStream) : EventStream :=
  if store || !x.store.isEmpty then { x with store := x.store ++ [(w, inside)] } else { x with buffer := x.buffer ++ [(w, inside)] }

/-- A parsed word goes out: behind the words that are in line, of which an IDLE outside a frame lets one leave in its place (R153); at
the active prompter through the transit store. Such an IDLE is not stored: DESIGN CHOICE, for an own frame of the prompter, which waits
until the store is empty, could otherwise never start (R151; notes/assumptions/129.md). A line head that still generates its stream
does not forward (R89). -/
def emit (s : State) (r : Ring) (w : RingWord) (fill : Bool) (inside : Option Nat) : State :=
  if s.prompting then sendEvent (if fill then s else s.updStream r (waitWord true w inside)) r []
  else if drives s r then sendEvent s r []
  else match nextWord (s.stream r) with
    | some (h, x) => (sendWords s r [h]).updStream r fun y =>
        let z := { x with tx := y.tx, line := y.line, txRd := y.txRd }
        if fill then z else waitWord false w inside z
    | none => (sendWords s r [w]).updStream r fun x => { x with inside := inside }

/-- A word of the event region passes (R147, R153). -/
def streamWord (s : State) (r : Ring) (w : RingWord) : State :=
  let p := parseWord (s.stream r) w
  let s1 := s.updStream r fun _ => p.stream
  let s2 := if p.misframe then (s1.bump SWQ_MISFRAME).raise Src.misframe (ringPort r).val else s1
  emit s2 r p.word p.fill (insideOf p.stream)

/-- A word outside the event region passes (R36, R71, R146): the active prompter and a line head send a stream of their own. -/
def transitWord (s : State) (r : Ring) (w : RingWord) : State :=
  if drives s r then sendEvent s r [] else sendWords s r [w]

/-- SB 0x01 (R63, R570): the event region begins. -/
def eventBegins (s : State) (r : Ring) : State :=
  let s1 := s.updStream r fun x => { x with open_ := true }
  s1.updTrack r fun t => if t.seen then { t with measuredE := (s.now - t.at_) / wordT } else t

/-- The bytes of a WAKE sequence gather; any other word breaks it off (R489). -/
def gatherWake (s : State) (r : Ring) (w : RingWord) : State :=
  let got := vget s.host.wakeWords r.ix
  let set (s : State) (l : List Byte) : State := s.updHost fun h => { h with wakeWords := vset h.wakeWords r.ix l }
  match w with
  | .wake b => match got with
    | [b0, b1] => wakeReceive (set s []) r b0 b1 b
    | _ => set s (got ++ [b])
  | _ => if got.isEmpty then s else set s []

/-- A word that is not hop-local arrives on a ring (R36, R37, R146, R431). Between the node's own hop band and a late marker it leaves as
IDLE (R67). -/
def ringWord (s0 : State) (r : Ring) (w : RingWord) : State :=
  let s := gatherWake s0 r w
  if !(s.link r.inPort).state.carries then s
  else if idles s r then sendWords s r [.idle]
  else match w with
    | .sb _ => transitWord (eventBegins s r) r w
    | .cm => transitWord (s.updStream r fun x => { x with open_ := false, ended := x.ended && drives s r }) r w
    | _ =>
      if (s.stream r).ended && !drives s r then sendWords s r [.idle]
      else if (s.stream r).open_ then streamWord s r w
      else transitWord s r w

/-- SB 0x02 (R38, R63): the hop band begins, eight words that the node consumes, this one the first of them (R36). -/
def hopBegins (s : State) (r : Ring) : State := s.updStream r fun x => { x with open_ := false, band := 7 }

/-- Since when reception has been IDLE alone (R51). -/
def noteIdle (s : State) (p : Port) (w : Option RingWord) : State :=
  s.updLink p fun l => { l with idleSince := if w = some .idle then some (l.idleSince.getD s.now) else none }

/-- What a port counts of a word (R37): a word error in SYNC, UP and DEGRADED, an ERR word while it carries traffic. -/
def countWord (s : State) (p : Port) (w : Option RingWord) : State :=
  let st := (s.link p).state
  match w with
  | none => if st.carries || decide (st = .sync) then wordError s p else s
  | some .err => if st.carries then errReceive s p else s
  | _ => s

/-- The word may be one of the three data words of an ECHO_RSP: a data word, or a word in error. -/
def maybeData (w : Option RingWord) : Bool := match w with
  | none | some .err | some (.data _) => true
  | _ => false
def dataOf (w : Option RingWord) : Option Word := match w with
  | some (.data x) => some x
  | _ => none

/-- A word that is no hop-local control word arrives on a port that carries traffic (R36, R37): consumed after an ECHO_RSP and in the hop
band, which a marker or SB 0x01 ends, else passed on, as ERR where it came in error. -/
def plainWord (s : State) (p : Port) (w : Option RingWord) : State :=
  let r := p.inRing
  if (s.link p).echoIn.isSome && maybeData w then echoData (consume s p 1) p (dataOf w)
  else
    let s1 := s.updLink p fun l => { l with echoIn := none }
    if decide (0 < (s.stream r).band) && decide (w ≠ some .cm) && decide (w ≠ some (.sb 1)) then consume s1 p 1
    else ringWord (s1.updStream r fun x => { x with band := 0 }) r (w.getD .err)

/-- A word arrives on a port, none being a word error (R35-R37). -/
def wordIn (s0 : State) (p : Port) (w : Option RingWord) : State :=
  let s := countWord (noteIdle s0 p w) p w
  match w with
  | some (.ls b) => lsReceive (consume s p 1) p b
  | _ =>
    if !(s.link p).state.carries then s
    else match w with
      | some (.echoReq tag) => echoAsked (consume s p 1) p tag
      | some (.echoRsp tag) => (consume s p 1).updLink p fun l => { l with echoIn := some (tag, []) }
      | some (.sb v) => if v = 2 then hopBegins s p.inRing else plainWord s p w
      | _ => plainWord s p w

/-- Two code groups arrive on a port's lanes (R34, R37, R52). -/
def wordReceive (s : State) (p : Port) (g0 g1 : Code) : State :=
  let (w, l) := arrive (s.link p) g0 g1
  wordIn (s.updLink p fun _ => l) p w

/-! The fate of a frame (R145, R148-R151). -/

/-- The header names nothing that can be delivered (R145). -/
def badHeader (f : Frame) : Bool := decide (4 ≤ f.type) || decide (f.dnode = 0) || decide (f.snode = 0) || decide (f.len > 512)

/-- This node's number is a member of a group of the own ring (R177). -/
def memberOf (s : State) (g : Nat) : Bool := decide (s.fab.node ≠ 0) && (groupMembers s g).contains s.fab.node

/-- The node is the exit for a foreign ring by its own table; the primary exit still is one that a route notice has just dropped the ring
at (R196, R198). -/
def isExit (s : State) (ring : Nat) : Bool :=
  decide (s.fab.node ≠ 0) &&
  (match exitNode s ring with
   | some n => decide (n = s.fab.node)
   | none => match s.fab.tables with
     | none => false
     | some t => t.routes.any fun x => decide (x.1 = ring) && decide (x.2.1 = s.fab.node))

/-- The node is a destination of the frame (R148, R176, R196). A node that does not know its ring takes every broadcast as one of its
ring. -/
def isDest (s : State) (f : Frame) : Bool :=
  if s.ringKnown && decide (f.dring ≠ s.ringNo) then isExit s f.dring
  else if f.dnode = 4095 then true
  else if f.dnode ≥ 4000 then memberOf s f.dnode
  else decide (s.fab.node ≠ 0) && decide (f.dnode = s.fab.node)

/-- The frame leaves the ring at this destination (R148): unicast, or bound for another ring whose exit this is. -/
def stripsHere (s : State) (f : Frame) : Bool :=
  isDest s f && ((s.ringKnown && decide (f.dring ≠ s.ringNo)) || decide (f.dnode < 4000))

/-- The node's own frame, on a ring it inserted it on (R149). -/
def isOwn (s : State) (r : Ring) (f : Frame) : Bool :=
  decide (s.fab.node ≠ 0) && decide (f.snode = s.fab.node) && decide (f.sring = s.ringNo) &&
  decide (f.ringB = decide (r = .b))

/-- The frame is a repeat of one already delivered (R148, R150; notes/assumptions/23.md): known where it carries REF or PASS, and, for a
group or broadcast transaction, whose sequence number tells a repeat from a new frame, as its source sends it again. -/
def isRepeat (s : State) (r : Ring) (f : Frame) : Bool :=
  (f.ref || f.pass || (multi f.dnode && decide (f.type = 0))) && (s.stream r).delivered.any fun d =>
    decide (d.snode = f.snode) && decide (d.tag = f.tag) && decide (d.crc = f.plainCrc) && decide ((s.present - d.cycle).toNat ≤ 8)

/-- A target's buffer has room for a request from a ring (R216), and for a signal the inbox (R220). -/
def txnRoom (s : State) (op : TxnOp) : Bool :=
  decide (txnHeld s (txnKind op) < txnLimit (txnKind op)) && (decide (txnKind op ≠ 2) || decide (s.brg.inbox.length < 32))

/-- The switch port a delivered frame goes to (R145, R160, R195, R476). -/
def deliverPort (s : State) (f : Frame) : Option (Fin 20) :=
  if (s.ringKnown && decide (f.dring ≠ s.ringNo)) ∨ f.type = 3 then some (jointPort s)
  else match f.type with
    | 0 => some 6
    | 2 =>
      let c := fld (wd f.sub) 7 4
      match place? 12 c with
      | some n => some ⟨8 + n.val, by omega⟩
      | none => if f.sub % 16 = 0 then some 7 else none
    | _ => none

/-- The node has room for a frame that it must deliver (R150, R163, R216). A notice takes no cell, and a response of a
transaction is never refused. -/
def canTake (s : State) (r : Ring) (f : Frame) : Bool :=
  match deliverPort s f with
  | none => true
  | some p =>
    if f.type = 0 ∧ f.dring = s.ringNo ∧ frameOp f = .rsp then true
    else roomFor s (ringPort r).val p f && (decide (p.val ≠ 6) || txnRoom s (frameOp f))

/-- Sampling (R169): every Nth frame in the direction and at the port named gives a sample to the BULK queue of port 5, or
is skipped where that is at its limit. -/
def sample (s : State) (output : Bool) (p : Fin 20) (f : Frame) : State :=
  let n := (s.reg SWQ_SMP_N).toNat
  if n = 0 ∨ s.fld SWQ_SMP_CFG 15 11 ≠ p.val ∨ s.bit SWQ_SMP_CFG 10 ≠ output then s
  else
    let k := s.sw.sampleCount + 1
    if k < n then s.updSw fun w => { w with sampleCount := k }
    else
      let s1 := s.updSw fun w => { w with sampleCount := 0 }
      let info := putFld p.val 15 11 ||| bitW output 10 ||| putFld f.cls 9 8
      let g := Frame.mk' 3 2 0 s.srcWord s.srcWord 0 (fullStamp s ++ [info] ++ f.words.take 32)
      if cellsOf (s1.queue 5 3) < qlim s1 5 3 then submit s1 5 ⟨g, 5, s.now, 0, none, 0⟩
      else (s1.bump SWQ_SMP_MISS).raise Src.sampleSkipped p.val

/-- A delivered frame enters the switch (R144, R145, R148): one that fails its check, or names no unit, is discarded. -/
def frameDeliver (s0 : State) (r : Ring) (f : Frame) : State :=
  let (inj, s) := hubCheck s0 Src.frameCrc
  if !f.crcOk || inj.isSome then raiseHub (s.bump SWQ_EV_CRC) Src.frameCrc (ringPort r).val inj
  else
    let s1 := s.updStream r fun x =>
      { x with delivered := (x.delivered.filter fun d => decide ((s.present - d.cycle).toNat ≤ 8)) ++
          [⟨f.snode, f.tag, f.plainCrc, s.present⟩] }
    let s2 := sample s1 false (ringPort r) f
    match deliverPort s f with
    | some p => submit s2 p ⟨(f.setRef false).setPass false, (ringPort r).val, s.now, 0, none, 0⟩
    | none => if f.type = 2 then (s2.bump SWQ_BADHDR).raise Src.badHeader (ringPort r).val else s2

/-- What ends when a frame of this node comes back (R149, R214). -/
def originOf (f : Frame) : Option Origin :=
  if f.type = 0 then some ⟨f.sub % 32, f.tag, ((f.payload[1]?).getD 0).toNat, (frameOp f).code⟩ else none

/-- The refusals of a frame that is on a ring. -/
def isRef (r : Ring) (f : Frame) (x : Ring × Nat × Nat) : Bool := decide (x.1 = r) && decide (x.2.1 = f.plainCrc)

/-- A refused frame of this node comes back (R149, R150, R171): it joins the head of its class queue on the same ring, or
the other ring's queue where its port is down, and is retired REFUSED after the third refusal. DESIGN CHOICE: its age for R168, which the
manual gives no start for in such a frame, counts from its return (notes/assumptions/130.md). -/
def refusedBack (s : State) (r : Ring) (f : Frame) : State :=
  let g := (f.setRef false).setPass false
  let n := match s.sw.refs.find? (isRef r f) with
    | none => 1
    | some x => x.2.2 + 1
  let s1 := s.updSw fun w => { w with refs := w.refs.filter fun x => !isRef r f x }
  let e : QEntry := ⟨g, if f.type = 0 then 6 else 20, s.now, n, originOf f, 0⟩
  let p := ringPort r
  if n ≥ 3 then retire s1 e .refused p.val
  else if !portOff s p then enqueue s1 p e true
  else if !portOff s (ringPort r.other) then enqueue s1 (ringPort r.other) e false
  else retire s1 e .portDown p.val

/-- A frame of this node comes back (R149). A roll page that an end of line has turned to this node comes back as its own (R183). -/
def ownBack (s : State) (r : Ring) (f : Frame) : State :=
  if decide (f.type = 1) && decide (f.sub = 0x10) then s
  else if f.ref then refusedBack s r f
  else if f.dnode < 4000 then retire s ⟨f, 20, s.now, 0, originOf f, 0⟩ .noDest (ringPort r).val
  else s

/-- The passing of a frame that leaves as `g` (R144): its first word and its CRC words are sent anew where they change, the
CRC words as ERR where the frame failed its check. -/
def passingOf (f g : Frame) (strip : Bool) : Passing :=
  let tail : List RingWord := if f.crcOk then (toWords 2 g.crc).map .data else [.err, .err]
  { left := 6 + f.len, strip := strip, cls := f.cls
    subst := if strip || decide (g = f) then []
      else some (.data g.w0) :: List.replicate (3 + f.len) none ++ tail.map some }

/-- The frame begins to pass, as a frame or interjected into the one that passes. -/
def startPassing (s : State) (r : Ring) (p : Passing) (interjected : Bool) : State :=
  s.updStream r fun x => if interjected then { x with inter := some p, interDue := false } else { x with frame := some p }

/-- A delay report to this node (R111, R431). -/
def ownReport (s : State) (f : Frame) : Bool :=
  decide (f.type = 1) && decide (f.sub = 6) && decide (f.dring = s.ringNo) && decide (s.fab.node ≠ 0) &&
  decide (f.dnode = s.fab.node)

/-- The fate of a frame that passes by itself, or of one freed as its carrier is stripped (R148-R151): what is done with it
and how it leaves. One still interjected passes unchanged, and nothing is done with it, at its source and at the active prompter that has
relayed it (R158). DESIGN CHOICE: a frame with a bad header leaves unchanged also where it meets its own source, or the active prompter with
PASS set: R145 has it forwarded unchanged (notes/assumptions/131.md). -/
def frameFate (s : State) (r : Ring) (f : Frame) (interjected : Bool) : State :=
  let start (s : State) (g : Frame) (strip : Bool) : State := startPassing s r (passingOf f g strip) interjected
  let fixed := interjected && !(match (s.stream r).frame with | none => false | some c => c.strip)
  let passed := s.prompting && f.pass
  let s0 := if passed then s.bump SWQ_PASS_STRIP else s
  let relayed : Frame := if s.prompting && (!interjected || fixed) then f.setPass true else f
  if badHeader f then start ((s.bump SWQ_BADHDR).raise Src.badHeader (ringPort r).val) f false
  else if fixed && (isOwn s r f || passed) then start s f false
  else if isOwn s r f then start (ownBack s0 r f) f true
  else if !isDest s f || isRepeat s r f then start s0 relayed (passed || (stripsHere s f && !fixed))
  else if canTake s r f then start (frameDeliver s0 r f) relayed ((stripsHere s f && !fixed) || passed)
  else
    start ((s0.bump SWQ_REFSET).raise Src.frameRefSet (ringPort r).val) (relayed.setRef true) passed

/-- A frame's header reaches the node (R148, R152, R157, R158, R431). An interjected frame needs a carrier that has been
opened, a frame by itself a frame boundary. -/
def frameHeader (s : State) (r : Ring) (f0 : Frame) (interjected : Bool) : State :=
  let f : Frame := { f0 with crcOk := f0.crcOk && decide (f0.payload.length = f0.len) }
  let x := s.stream r
  let fits := if interjected then x.frame.isSome && x.inter.isNone else x.frame.isNone
  if !(s.link r.inPort).state.carries || !x.open_ || !fits then s
  else if s.darkPath then
    startPassing s r (passingOf f f (ownReport s f && !interjected)) interjected
  else frameFate s r f interjected

/-! Own frames (R153, R154, R156, R162). -/

/-- NORMAL may go before BULK while both wait: their words stay in the ratio 3:1 (R162). -/
def shareNormal (x : Nat × Nat) : Bool := decide (x.1 ≤ 3 * x.2)

/-- The class an output serves next (R162). -/
def serveClass (s : State) (p : Fin 20) : Option Nat :=
  let has (c : Nat) : Bool := !(s.queue p c).isEmpty
  if has 0 then some 0
  else if has 1 then some 1
  else if has 2 && has 3 then some (if shareNormal (vget s.sw.share p) then 2 else 3)
  else if has 2 then some 2
  else if has 3 then some 3
  else none

/-- What an output has sent of NORMAL and BULK while both waited (R162). -/
def noteShare (s : State) (p : Fin 20) (cls words : Nat) : State :=
  let both := !(s.queue p 2).isEmpty && !(s.queue p 3).isEmpty
  let next (x : Nat × Nat) : Nat × Nat :=
    if !both then (0, 0) else if cls = 2 then (x.1 + words, x.2) else if cls = 3 then (x.1, x.2 + words) else x
  s.updSw fun w => { w with share := vupd w.share p next }

/-- An entry has waited longer than SWQ_AGE_LIM (R168). -/
def aged (s : State) (e : QEntry) : Bool :=
  s.bit SWQ_CTRL 14 && decide (e.since + atLeastOne (s.reg SWQ_AGE_LIM).toNat * msT < s.now)

/-- Aged frames at the heads of a port's queues are retired (R168). -/
def dropAged (s : State) (p : Fin 20) : State :=
  recut (s.each (List.range 4) fun s c =>
    let q := s.queue p c
    let old := q.takeWhile (aged s)
    retireAll (s.updQueue p c fun _ => q.drop old.length) old .aged p.val)

/-- Errors in the cells of a frame at port p (R161): a single-bit error is counted, MINOR above 16 in one second; a double-bit error is
counted, MAJOR. Answers whether there is one. -/
def eccCount (s0 : State) (p : Fin 20) (single double : Bool) : Bool × State :=
  let (i1, s1) := hubCheck s0 Src.switchEccCorrected
  let (i2, s2) := hubCheck s1 Src.switchEccFatal
  let s3 := if single || i1.isSome then
      let ts := (s2.sw.eccTimes.filter fun t => decide (s2.now < t + secT)) ++ [s2.now]
      let s3 := (s2.bump SWQ_ECC_C).updSw fun w => { w with eccTimes := ts.reverse.take 17 |>.reverse }
      if ts.length > 16 ∨ i1.isSome then raiseHub s3 Src.switchEccCorrected 0 i1 else s3
    else s2
  if double || i2.isSome then (true, raiseHub ((s3.bump SWQ_ECC_U).evt SWQ_EVT 11) Src.switchEccFatal p.val i2) else (false, s3)

/-- A double-bit error in a cell of a frame that has not begun to leave has it retired ECC (R161). -/
def eccCheck (s : State) (p : Fin 20) (e : QEntry) (single double : Bool) : Option QEntry × State :=
  match eccCount s p single double with
  | (true, s1) => (none, retire s1 e .ecc p.val)
  | (false, s1) => (some e, s1)

/-- The dword of a frame that leaves next, two words, as ERR: it cannot be corrected (R161). -/
def spoilNext (o : Outgoing) : Outgoing :=
  { o with words := ((o.words.take 2).map fun w => if w = .ieOpen ∨ w = .ieClose then w else .err) ++ o.words.drop 2 }

/-- Errors in the cells of a frame that is leaving (R161). -/
def eccLeaving (s : State) (r : Ring) (single double : Bool) : State :=
  match eccCount s (ringPort r) single double with
  | (true, s1) => s1.updStream r fun x => { x with sending := match x.sending with | [] => [] | o :: t => spoilNext o :: t }
  | (false, s1) => s1

/-- The words count; the excess of a frame longer than the whole allowance becomes debt (R154). -/
def charge (s : State) (r : Ring) (cls n : Nat) : State :=
  let a := allowance s r
  s.updStream r fun x =>
    if x.used + n ≤ a ∨ (cls = 0 ∧ x.used + n ≤ a + urgReserve s) then { x with used := x.used + n }
    else { x with used := a, debt := x.debt + (x.used + n - a) }

/-- The words of a frame of this node are to leave next: one in place of each word that arrives, or one in each word time where the node
drives the stream (R153, R156). -/
def sendOwn (s : State) (r : Ring) (e : QEntry) (ws : List RingWord) : State :=
  s.updStream r fun x => { x with sending := ⟨e, ws⟩ :: x.sending, outAt := max x.outAt s.now }

/-- The head of a queue leaves by an output: its cells are free (R161, R162). -/
def popQueue (s : State) (p : Fin 20) (e : QEntry) : State :=
  recut ((noteShare s p e.frame.cls e.frame.size).updQueue p e.frame.cls fun q => q.drop 1)

/-- The head of a ring port's queue has left (R149, R162, R166, R218, R219): its refusals go with it, its flow has waited until now, and an
endpoint that sent a posted request or signal notes it. -/
def leftQueue (s : State) (r : Ring) (e : QEntry) : State :=
  let s1 := popQueue s (ringPort r) e
  let ep := match e.origin with | none => 0 | some o => o.ep
  let mine (f : Flow) : Bool := decide (f.ep = ep) && decide (f.dest = e.frame.w1) && decide (f.cls = e.frame.cls)
  let s2 := s1.updSw fun w =>
    { w with refs := (w.refs.filter fun x => !isRef r e.frame x) ++ (if e.refusals = 0 then [] else [(r, e.frame.plainCrc, e.refusals)])
             flows := w.flows.map fun f => if mine f then { f with lastCycle := s.present } else f }
  match e.origin with
  | none => s2
  | some o => match place? 32 o.ep with
    | none => s2
    | some i =>
      if (TxnOp.ofCode o.op).posted then
        let note (x : Endpoint) : Endpoint :=
          let kept := x.recent.filter fun y => decide ((s.present - y.2.2).toNat ≤ 4)
          { x with recent := kept ++ [(e.frame.w1, r, s.present)] }
        releaseSigs ((postedGone s2 o.ep e.frame.w1).updBrg fun b => { b with eps := vupd b.eps i note }) i
      else s2

/-- An own frame may start in a stream (R151, R153): at a frame boundary of what passes, with nothing waiting. -/
def frameMayStart (x : EventStream) : Bool := x.inside.isNone && x.buffer.isEmpty && x.store.isEmpty && x.sending.isEmpty

/-- An uncast node inserts nothing but turned roll pages (R176). -/
def mayInsert (s : State) (f : Frame) : Bool := decide (s.fab.node ≠ 0) || (decide (f.type = 1) && decide (f.sub = 0x10))

/-- What drives the stream sends what is due before a frame starts. -/
def readyOut (s : State) (r : Ring) : State := if drives s r then sendEvent s r [] else s

/-- A delay report of this node waits in a queue of a ring port (R431). -/
def reportEntry (e : QEntry) : Bool := decide (e.frame.type = 1) && decide (e.frame.sub = 6) && decide (e.input = 20)

/-- The dark-forwarding path sends the node's own delay reports, through the insertion buffer and within the allowance
(R431). -/
def darkInsert (s : State) (r : Ring) : State :=
  let p := ringPort r
  let x := s.stream r
  match (s.queue p 1).find? reportEntry with
  | none => s
  | some e =>
    if portOff s p || !eventOpen s r || !frameMayStart x then s
    else if !mayStart s r 1 e.frame.size then s
    else
      let s1 := s.updQueue p 1 fun q => q.erase e
      sendOwn (charge s1 r 1 e.frame.size) r e ((e.frame.setRing (decide (r = .b))).words.map .data)

/-- The frame at the head of a queue of a ring port starts with these words, n of them new on the ring, unless the guardian has closed
insertion (R82, R83), the allowance lacks (R154), or a cell has failed (R161). -/
def startOwn (s : State) (r : Ring) (c : Core) (e : QEntry) (ws : List RingWord) (single double : Bool) : State :=
  let p := ringPort r
  if guardShut s then guardBlock s r rgEvent (positionOf s r) c
  else if !mayInsert s e.frame || !mayStart s r e.frame.cls ws.length then s
  else match eccCheck s p e single double with
    | (none, s1) => recut (s1.updQueue p e.frame.cls fun q => q.drop 1)
    | (some _, s1) =>
      sendOwn (sample (charge (leftQueue s1 r e) r e.frame.cls ws.length) true p (e.frame.setRing (decide (r = .b)))) r e ws

/-- The words of a frame as they leave on a ring. -/
def wordsOn (r : Ring) (e : QEntry) : List RingWord := (e.frame.setRing (decide (r = .b))).words.map .data

/-- A frame of this node starts (R153, R154): at a frame boundary, with nothing waiting, in the event region. While one is leaving, the row
tells of its cells (R161). -/
def frameInsert (s0 : State) (r : Ring) (single double : Bool) : State :=
  let p := ringPort r
  let s := dropAged (readyOut s0 r) p
  if !(s.stream r).sending.isEmpty then eccLeaving s r single double
  else match serveClass s p, inserter s with
    | some cls, some c => match s.queue p cls with
      | [] => s
      | e :: _ => if portOff s p || !eventOpen s r || !frameMayStart (s.stream r) then s else startOwn s r c e (wordsOn r e) single double
    | _, _ => if s.dark.dark then darkInsert s r else s

/-- What an URGENT frame meets at the next word boundary (R156, R162): nothing, a frame it goes into, or one it waits for the end of. An own
frame that has not begun to leave it goes ahead of (R171). -/
def boundaryClass (x : EventStream) : Option Nat :=
  match x.sending with
  | [] => x.inside
  | o :: _ => if o.entry.frame.cls = 0 then some 0 else if o.whole then none else some o.entry.frame.cls

/-- An URGENT frame goes at the next word boundary (R156): inside a frame of a lower class that is leaving, between IE_OPEN and
IE_CLOSE. -/
def interject (s0 : State) (r : Ring) (single double : Bool) : State :=
  let p := ringPort r
  let s := dropAged (readyOut s0 r) p
  let x := s.stream r
  match s.queue p 0, inserter s with
  | e :: _, some c =>
    if portOff s p || !eventOpen s r || !x.store.isEmpty || decide (x.buffer.length + 40 > 1024) then s
    else match boundaryClass x with
      | none => startOwn s r c e (wordsOn r e) single double
      | some 0 => s
      | some _ => startOwn s r c e ([RingWord.ieOpen] ++ wordsOn r e ++ [RingWord.ieClose]) single double
  | _, _ => s

/-! The rows. -/

/-- Row WORD_RECEIVE (R34-R37, R43, R47, R52, R146, R147, R151, R153): the code groups of the two lanes. -/
def execWordReceive (p : Port) (g0 g1 : Code) (t : Nat) (s : State) : Out := done (wordReceive (s.at t) p g0 g1)

/-- Row ERR_RECEIVE (R37). -/
def execErrReceive (p : Port) (t : Nat) (s : State) : Out := done (wordIn (s.at t) p (some .err))

/-- Row SB_RECEIVE (R35, R63): `hop` is the value 0x02. -/
def execSbReceive (p : Port) (hop : Bool) (t : Nat) (s : State) : Out := done (wordIn (s.at t) p (some (.sb (if hop then 2 else 1))))

/-- Row IE_OPEN (R157, R158). -/
def execIeOpen (p : Port) (t : Nat) (s : State) : Out := done (wordIn (s.at t) p (some .ieOpen))

/-- Row IE_CLOSE (R157, R158). -/
def execIeClose (p : Port) (t : Nat) (s : State) : Out := done (wordIn (s.at t) p (some .ieClose))

/-- Row FRAME_HEADER (R144, R145, R148-R152, R158, R431): the frame, whether it is interjected. -/
def execFrameHeader (r : Ring) (f : Frame) (interjected : Bool) (t : Nat) (s : State) : Out :=
  done (frameHeader (s.at t) r f interjected)

/-- Row FRAME_INSERT (R144, R153, R154, R161, R162): whether a cell of the frame shows a single-bit or a double-bit error. -/
def execFrameInsert (r : Ring) (single double : Bool) (t : Nat) (s : State) : Out := done (frameInsert (s.at t) r single double)

/-- Row INTERJECT (R156): as FRAME_INSERT. -/
def execInterject (r : Ring) (single double : Bool) (t : Nat) (s : State) : Out := done (interject (s.at t) r single double)

end Sys2Proof.Machine
end

