-- ==== Sys2Proof/Machine/SwitchIn.lean ====
section
/-! DEFINITION. A frame of the node's own units enters the switch (R160, R163, R165, R354). -/

namespace Sys2Proof.Machine

/-- The frame is for this node itself, and passes without the ring (R354). -/
def forSelf (s : State) (f : Frame) : Bool :=
  decide (s.fab.node ≠ 0) && decide (f.dring = s.ringNo) && decide (f.dnode = s.fab.node)

/-- The output ports a frame of this node goes to, while nothing retires it (R160, R165, R195). -/
def targetPorts (s : State) (ep : Nat) (f : Frame) : List (Fin 20) :=
  if forSelf s f then (deliverPort s f).toList
  else sendPorts s ep f

/-- A frame of the node's own units goes to its queue. -/
def routeFrame (s : State) (input ep : Nat) (f : Frame) (origin : Option Origin) (joints : Nat) : State :=
  if forSelf s f then match deliverPort s f with
    | some p => submit s p ⟨f, input, s.now, 0, origin, joints⟩
    | none => if f.type = 2 then (s.bump SWQ_BADHDR).raise Src.badHeader input else s
  else sendFrame s input ep f origin joints

/-- The ports among these whose queue has no room for the frame (R163). -/
def lacking (s : State) (i : Fin 20) (ep : Nat) (f : Frame) : Option (Fin 20) :=
  (targetPorts s ep f).find? fun p => !portOff s p && !roomFor s i.val p f

/-- A frame reaches an input of the switch (R142, R163): it is queued, or the input is back-pressured and the frame stays
with its sender. A ring port is never back-pressured; what comes by it is refused on the ring (R150). -/
def switchInput (s : State) (i : Fin 20) (ep : Nat) (f : Frame) (origin : Option Origin) (joints : Nat) : State :=
  if pressed s i || portOff s i then s
  else match lacking s i ep f with
    | some p => if i.val < 2 then s else s.updSw fun w => { w with bp := vset w.bp i (some (queueIx p f.cls).val) }
    | none => routeFrame (sample s false i f) i.val ep f origin joints

/-- The switch takes a frame of this input now. -/
def accepts (s : State) (i : Fin 20) (ep : Nat) (f : Frame) : Bool :=
  !pressed s i && !portOff s i && (lacking s i ep f).isNone

/-- A back-pressured input is below its quota and the queue of its next frame below its limit (R163); what the bridge has held back for it may
go. -/
def inputResume (s : State) (i : Fin 20) : State :=
  match vget s.sw.bp i with
  | none => s
  | some q =>
    let below : Bool := match place? 80 q with
      | none => true
      | some k => decide (cellsOf (vget s.sw.queues k) < fld (s.regSel SWQ_QLIM q) 13 0)
    if inputUse s i.val < quota s i.val ∧ below ∧ 0 < freeCells s then
      let s1 := s.updSw fun w => { w with bp := vset w.bp i none }
      if i.val = 6 then pumpAll s1 else s1
    else s

/-- A request of the node itself (R209). -/
def ownIssuer (s : State) (x : Issuer) : Bool := decide (x.ring = s.ringNo) && decide (x.node = s.fab.node)

/-- A response goes to the request's node, endpoint and class, in CONTROL class when its payload exceeds 32 words (R205); the
node's own requester takes it at once (R209). -/
def sendResponse (s : State) (q : Request) (r : Response) : State :=
  if ownIssuer s q.src then
    let s1 := answerTo s q.src.ep q.tag q.seq s.fab.node r.status r.data
    match place? 32 q.src.ep with
    | none => s1
    | some i => pump s1 i
  else
    let payload := [rspWord0 r.status r.data, wd q.seq] ++ r.data
    let cls := if 32 < payload.length then 1 else q.cls
    let dest := putFld q.src.ring 15 12 ||| putFld q.src.node 11 0
    routeFrame s 6 q.src.ep (Frame.mk' cls 0 q.src.ep dest s.srcWord q.tag payload) none 0

end Sys2Proof.Machine
end

