-- ==== Sys2Proof/Machine/Clusters.lean ====
section
/-! DEFINITION. The scheduler of a cluster (R239, R240, R264-R272), its sections (R236, R245, R303), its conduits at the
hub (R247-R251), and what the CLU blocks show (R274). -/

namespace Sys2Proof.Machine

/-! Self-test and repair (R264). -/

/-- What the self-test of a physical engine finds (R264): failing rows of code and of data memory, or another failure. -/
structure TestResult where
  codeFails : Nat
  dataFails : Nat
  other : Bool
  deriving DecidableEq, Repr

/-- The repair map is written to its other copy with the next sequence number (R387). -/
def repairMap (s : State) : State :=
  s.updStore fun x => { x with repairCopy := !x.repairCopy, repairSeq := x.repairSeq + 1 }

def State.updPhys (s : State) (n : Fin 12) (p : Fin 16) (f : PhysEngine → PhysEngine) : State :=
  s.updCl n fun c => { c with phys := vupd c.phys p f }

/-- Rows repaired: each sets CLU_EVT.REPAIR and reports (R264). -/
def repairRows (s : State) (n : Fin 12) (p : Fin 16) (k : Nat) : State :=
  s.each (List.range k) fun s _ => ((repairMap s).cluEvt n cluREPAIR).cluRaise n 0x1 p.val

/-- A self-test ends (R264): rows are replaced while spare rows last, any other failure retires the engine; then a shed
engine may be bound (R270). -/
def selfTestDone (s : State) (n : Fin 12) (p : Fin 16) (r : TestResult) : State :=
  let x := vget (s.cl n).phys p
  if x.retired || !x.testing then s
  else
    let code := min r.codeFails (4 - x.codeRows)
    let data := min r.dataFails (2 - x.dataRows)
    let fails := r.other || decide (code < r.codeFails) || decide (data < r.dataFails)
    let s1 := repairRows (s.updPhys n p fun x =>
      { x with testing := false, suspect := false, retired := fails, codeRows := x.codeRows + code, dataRows := x.dataRows + data })
      n p (code + data)
    let s2 := if fails then ((repairMap s1).cluEvt n cluRETIRE).cluRaise n 0x7 p.val else s1
    if (s2.cl n).online then rebindShed s2 n else s2

/-- Row SELF_TEST_DONE (R264, R270, R387). -/
def execSelfTestDone (n : Fin 12) (p : Fin 16) (codeFails dataFails : Nat) (other : Bool) (t : Nat) (s : State) : Out :=
  done (selfTestDone (s.at t) n p ⟨codeFails, dataFails, other⟩)

/-! Binding (R239). -/

/-- Insertion by rank, ties by number (R239). -/
def insertRank (c : Cluster) (e : Fin 14) : List (Fin 14) → List (Fin 14)
  | [] => [e]
  | x :: t => if engRank c e < engRank c x then e :: x :: t else x :: insertRank c e t

/-- The logical engines of the section, highest rank first. -/
def bindOrder (c : Cluster) : List (Fin 14) :=
  ((List.finRange 14).filter fun e => (engCfg c e).isSome).foldl (fun l e => insertRank c e l) []

/-- Every logical engine is bound and started, or shed where no physical engine is left (R239). -/
def bindAll (s : State) (n : Fin 12) : State :=
  let s1 := s.updCl n fun c => { c with online := true, binding := false, mig := none, lock := none, broken := none, shedHold := 0 }
  s1.each (bindOrder (s.cl n)) fun s e =>
    match (List.finRange 16).find? fun p => working (s.cl n) p && (boundTo (s.cl n) p).isNone && !(vget (s.cl n).phys p).testing with
    | some p => startEngine s n e p
    | none => shedEngine s n e

/-- Row CLUSTER_BIND (R239): after the self-test of every physical engine. -/
def execClusterBind (n : Fin 12) (t : Nat) (s : State) : Out :=
  let s1 := s.at t
  done (if (s1.cl n).binding && !(s1.cl n).phys.toList.any (·.testing) then bindAll s1 n
    else s1)

/-! Migration (R266-R269). -/

/-- The next bound physical engine after the last one a rotation looked at whose logical engine may rotate (R266). -/
def rotationNext (c : Cluster) : Option (Fin 16 × Fin 14) :=
  (List.range 16).findSome? fun k => match place? 16 ((c.rotated + 1 + k) % 16) with
    | none => none
    | some p => match boundTo c p with
      | none => none
      | some e => match engCfg c e with
        | none => none
        | some g => if g.norot then none else some (p, e)

/-- A rotation begins (R266), unless HOLDMAP holds it (R240). -/
def rotate (s : State) (n : Fin 12) : State :=
  let c := s.cl n
  if !s.bit (CLU_CTRL n.val) 15 || (spare? c).isNone || c.mig.isSome || !c.online then s
  else match rotationNext c with
    | none => s
    | some (p, e) => migBegin (s.updCl n fun c => { c with rotated := p.val }) n e .rotation

/-- The source stops, and its data memory is copied (R267, steps 2 and 3). -/
def migStop (s : State) (n : Fin 12) (m : Migration) : State :=
  let s1 := s.updCl n fun c => { c with mig := some { m with stopped := true } }
  (List.range 1024).foldl (fun s w =>
    s.copyWord (dataBase n.val m.from_.val + 2 * w) (dataBase n.val m.target.val + 2 * w)) s1

/-- MIGRATION_STOP (R267): at a safe point. -/
def migrationStop (s : State) (n : Fin 12) : State :=
  match (s.cl n).mig with
  | none => s
  | some m => if !m.stopped && (s.eng n m.leng).safe && !holdsLock s n m.leng then migStop s n m else s

/-- The oldest failure that came while another migration ran has its own now (R265, R267). -/
def failureNext (s : State) (n : Fin 12) : State :=
  match (s.cl n).mig, (s.cl n).failed with
  | none, e :: t => migBegin (s.updCl n fun c => { c with failed := t }) n e .failure
  | _, _ => s

/-- MIGRATION_FORCE (R266, R269): no safe point within CLU_MIG_WAIT. A rotation is abandoned and the next engine taken. -/
def migrationForce (s : State) (n : Fin 12) : State :=
  match (s.cl n).mig with
  | none => s
  | some m =>
    if m.stopped then s
    else if m.cause = .rotation then rotate (failureNext (s.updCl n fun c => { c with mig := none }) n) n
    else if holdsLock s n m.leng then s
    else ((migStop s n m).bump (CLU_FORCED n.val)).cluEvt n cluFORCED

/-- MIGRATION_RESUME (R267, steps 4 and 5): the target runs the logical engine, the source enters self-test; halts that
waited for it take place (R515). -/
def migrationResume (s : State) (n : Fin 12) : State :=
  match (s.cl n).mig with
  | none => s
  | some m =>
    if !m.stopped then s
    else
      let word := putFld m.leng.val 15 12 ||| putFld m.from_.val 11 8 ||| putFld m.target.val 7 4 ||| putFld m.cause.code 3 2
      let s1 := s.updCl n fun c => { c with mig := none, lastMig := word }
      let s2 := (s1.updEng n m.leng fun x => { x with phys := some m.target }).updPhys n m.from_ fun x => { x with testing := true }
      let s3 := (((s2.bump (CLU_MIGS n.val)).cluEvt n cluMIG).cluRaise n 0x0 m.leng.val).trace (clTrace n) 6 m.leng.val m.target.val
      failureNext (afterInstr (s3.updLead fun l => { l with migSince := true }) n m.leng) n

/-- Row ROTATION_DUE (R266). -/
def execRotationDue (n : Fin 12) (t : Nat) (s : State) : Out := done (rotate (s.at t) n)

/-- Row MIGRATION_STOP (R267). -/
def execMigrationStop (n : Fin 12) (t : Nat) (s : State) : Out := done (migrationStop (s.at t) n)

/-- Row MIGRATION_FORCE (R269). -/
def execMigrationForce (n : Fin 12) (t : Nat) (s : State) : Out := done (migrationForce (s.at t) n)

/-- Row MIGRATION_RESUME (R267, R515). -/
def execMigrationResume (n : Fin 12) (t : Nat) (s : State) : Out := done (migrationResume (s.at t) n)

/-! Commands (R262, R271). -/

/-- Row CLU_MIGRATE (R267). -/
def execCluMigrate (n : Fin 12) (e : Fin 14) (t : Nat) (s : State) : Out := done (migBegin (s.at t) n e .command)

/-- RESTART (R262): as by the watchdog, without a fault. -/
def cluRestart (s : State) (n : Fin 12) (e : Fin 14) : State :=
  if (s.cl n).online && (s.eng n e).phys.isSome then restartEngine s n e else s

/-- Row CLU_RESTART (R262). -/
def execCluRestart (n : Fin 12) (e : Fin 14) (t : Nat) (s : State) : Out := done (cluRestart (s.at t) n e)

/-- The cluster goes offline (R271). -/
def offline (s : State) (n : Fin 12) : State :=
  if !(s.cl n).online then s.updCl n fun c => { c with binding := false }
  else
    let stop (x : Engine) : Engine := { x with run := .off, phys := none, dark := none, stall := none, lockCount := 0, wdTrap := false }
    let s1 := s.updCl n fun c =>
      { c with online := false, offHold := true, binding := false, engines := c.engines.map stop, pacers := c.pacers.map stopPacer
               conduits := Vector.replicate 16 .init, lock := none, broken := none, mig := none, failed := [] }
    (((portFlush s1 ⟨8 + n.val, by omega⟩).cluEvt n cluOFFLINE).cluRaise n 0xD 0)

/-- What a section sets in the cluster (R245, R303, R305, R315, R317, R319). -/
def sectionLoad (s : State) (n : Fin 12) (g : ClusterCfg) : State :=
  let s1 := s.updCl n fun c =>
    { c with cfg := some g, pacers := Vector.replicate 16 .init, conduits := Vector.replicate 16 .init
             windows := Vector.replicate 2 .init, lock := none, broken := none, mig := none, failed := [] }
  let s2 := s1.storeWords (sharedBase n.val) g.shared
  let fresh (x : AdcChan) : AdcChan := { x with stuck := false, stuckFirst := none }
  let s3 := s2.updAdc n fun a => { a with grid := if s.time.locked then 0 else a.grid, chans := a.chans.map fresh }
  let s4 := s3.each (List.finRange 12) fun s j => s.updPin (pinOf n j) fun p => if p.raw = p.inner then p else { p with changed := s.now }
  let starved := !freeSlot s4 n
  let s5 := s4.updAdc n fun a => { a with starved := starved }
  if starved then (s5.evt ADC_EVT 12).raise Src.adcStarved n.val else s5

/-- A CLUn section is applied (R239, R304): the scheduler runs self-test on every physical engine that is not
retired. -/
def sectionApply (s : State) (n : Fin 12) (g : ClusterCfg) : State :=
  let s1 := sectionLoad s n g
  s1.updCl n fun c =>
    { c with online := false, binding := true, engines := Vector.replicate 14 .init, phys := c.phys.map fun x => { x with testing := !x.retired } }

/-- ONLINE (R271): the section is loaded again; binding and start follow the self-test of R239 (notes/assumptions/48.md).
Ignored while online or while that self-test runs. -/
def online (s : State) (n : Fin 12) : State :=
  let c := s.cl n
  match c.cfg with
  | none => s
  | some g => if c.online || c.binding then s else sectionApply s n g

/-- Row CLU_OFFLINE (R271). -/
def execCluOffline (n : Fin 12) (t : Nat) (s : State) : Out := done (offline (s.at t) n)

/-- Row CLU_ONLINE (R271). -/
def execCluOnline (n : Fin 12) (t : Nat) (s : State) : Out := done (online (s.at t) n)

/-- A write of CLU_CMD (R274): OFFLINE before ONLINE, then MIGRATE and RESTART of the engine named. -/
def cluCmd (s : State) (n : Fin 12) (v : Word) : State :=
  let s1 := if bitOf v 15 then offline s n else if bitOf v 14 then online s n else s
  match place? 14 (fld v 3 0) with
  | none => s1
  | some e =>
    let s2 := if bitOf v 13 then migBegin s1 n e .command else s1
    if bitOf v 12 then cluRestart s2 n e else s2

/-! Conduits at the hub (R247-R251). -/

/-- Words a descriptor takes, once enough of it is there to tell (R204, R205). -/
def descriptorLen (ws : List Word) : Option Nat :=
  if ws.length < 3 then none
  else
    let range := decide (fld (wAt ws 2) 15 12 = 0xE)
    let w0 := if range then wAt ws 2 else wAt ws 1
    let data := fld w0 10 6 + 1
    let body := match TxnOp.ofCode (fld w0 15 12) with
      | .rd | .lrd | .semacq | .semrel => 4
      | .wr | .pwr | .gwr | .lwr | .range => 4 + data
      | .stg => 7 + data
      | .commit | .abort | .sig => 5
      | .cancel => 3
      | .rsp | .reserved => 2
    some (1 + b2n range + body)

/-- Words of the oldest outward item (R248, R250): a frame's header and its LEN payload words, or a descriptor. -/
def itemLen (txn : Bool) (ws : List Word) : Option Nat :=
  if txn then descriptorLen ws else if ws.length < 4 then none else some (4 + fld (wAt ws 3) 9 0)

/-- The oldest outward item, where it is complete, and what follows it. -/
def itemOf (txn : Bool) (ws : List Word) : Option (List Word × List Word) :=
  match itemLen txn ws with
  | none => none
  | some k => if k ≤ ws.length then some (ws.take k, ws.drop k) else none

/-- The words of a conduit that are on their way to the hub. -/
def crossing (s : State) (n : Fin 12) (q : Fin 16) : List Word :=
  (s.bdir .fh).flight.foldl (fun l f => match f.msg.body with
    | .conduit a b ws => if a = n.val ∧ b = q.val ∧ !f.accepted then l ++ ws else l
    | _ => l) []

/-- CONDUIT_FRAME (R248): the hub sends a complete frame with its own source and with PASS and REF 0, or discards it. An uncast node inserts
nothing, and its frame waits (R176). -/
def conduitFrame (s : State) (n : Fin 12) (q : Fin 16) : State :=
  match conduitCfg (s.cl n) q, itemOf false (s.conduit n q).asm with
  | some (false, _), some (ws, rest) =>
    let i : Fin 20 := ⟨8 + n.val, by omega⟩
    let f : Frame := { w0 := wAt ws 0 &&& 0xC7FF, w1 := wAt ws 1, w2 := s.srcWord, w3 := wAt ws 3, payload := ws.drop 4, crcOk := true }
    let s1 := s.updConduit n q fun c => { c with asm := rest }
    if s.fab.node = 0 then s
    else if f.type ≠ 2 ∨ f.dnode = 0 ∨ f.len > 512 then (s1.bump SWQ_BADHDR).raise Src.badHeader i.val
    else if accepts s i 0 f then switchInput s1 i 0 f none 0
    else if portOff s i then s
    else switchInput s i 0 f none 0
  | _, _ => s

/-- Row CONDUIT_FRAME (R248). -/
def execConduitFrame (n : Fin 12) (q : Fin 16) (t : Nat) (s : State) : Out := done (conduitFrame (s.at t) n q)

/-- The endpoint the section binds to an engine (R201, R250). -/
def engEndpoint (c : Cluster) (o : Nat) : Nat := match place? 14 o with
  | none => 0
  | some e => match engCfg c e with | none => 0 | some g => g.ep

/-- CONDUIT_DESCRIPTOR (R250): the bridge issues a complete descriptor for the endpoint of the conduit's owner. -/
def conduitDescriptor (s : State) (n : Fin 12) (q : Fin 16) : State :=
  match conduitCfg (s.cl n) q, itemOf true (s.conduit n q).asm with
  | some (true, o), some (ws, rest) =>
    let s1 := s.updConduit n q fun c => { c with asm := rest }
    let ep := engEndpoint (s.cl n) o
    if ep < 8 then s1 else issue s1 (parseDescriptor ep ws) (.conduit n.val q.val)
  | _, _ => s

/-- Row CONDUIT_DESCRIPTOR (R250). -/
def execConduitDescriptor (n : Fin 12) (q : Fin 16) (t : Nat) (s : State) : Out := done (conduitDescriptor (s.at t) n q)

/-- The owner's migration pauses the timer (R251). -/
def ownerMoves (s : State) (n : Fin 12) (o : Nat) : Bool :=
  match (s.cl n).mig with | none => false | some m => decide (m.leng.val = o) && m.stopped

/-- What both directions of CONDUIT_TIMEOUT count and report (R251). -/
def conduitLate (s : State) (n : Fin 12) (q : Fin 16) (o : Nat) : State :=
  ((s.bump (CLU_CDT_TMOC n.val)).cluEvt n cluCDT_TMO).cluRaise n 0x4 (q.val * 16 + o)

/-- CONDUIT_TIMEOUT (R251): an outward item of which some words are missing is discarded; of an inward item the rest is. -/
def conduitTimeout (s : State) (n : Fin 12) (q : Fin 16) (outward : Bool) : State :=
  match conduitCfg (s.cl n) q with
  | none => s
  | some (txn, o) =>
    let c := s.conduit n q
    if ownerMoves s n o then s
    else if outward then
      let cross := crossing s n q
      let ws := c.asm ++ cross ++ c.out
      if ws.isEmpty || (itemOf txn ws).isSome then s
      else conduitLate (s.updConduit n q fun c => { c with asm := [], out := [], skip := c.skip + cross.length, tmo := true }) n q o
    else if !c.inPart then s
    else conduitLate (s.updConduit n q fun c => { c with hubIn := c.hubIn.tail, inPart := false, trunc := true }) n q o

/-- Row CONDUIT_TIMEOUT (R251). -/
def execConduitTimeout (n : Fin 12) (q : Fin 16) (outward : Bool) (t : Nat) (s : State) : Out :=
  done (conduitTimeout (s.at t) n q outward)

/-! What the CLU blocks show (R274). A selection that names nothing reads 0. -/

def cluStat (s : State) (n : Fin 12) : Word :=
  let c := s.cl n
  let moving := match c.mig with | none => false | some m => m.stopped
  bitW c.online 15 ||| bitW moving 14 ||| putFld (workingCount c) 13 9 ||| putFld (boundCount c) 8 5 ||| putFld (spareCount c) 4 0

def cluMap (s : State) (n : Fin 12) (l : Nat) : Word :=
  match place? 14 l with
  | none => 0
  | some e =>
    let c := s.cl n
    let x := vget c.engines e
    let mv := match c.mig with | none => none | some m => if m.leng = e then some m.target else none
    bitW (engCfg c e).isSome 15 ||| bitW (decide (x.run = .running)) 14 ||| bitW x.dark.isSome 13 ||| bitW mv.isSome 12 |||
    putFld (match mv with | none => 0 | some p => p.val) 7 4 ||| putFld (match x.phys with | none => 0 | some p => p.val) 3 0

def cluEngCfg (s : State) (n : Fin 12) (l : Nat) : Word :=
  match place? 14 l with
  | none => 0
  | some e => match engCfg (s.cl n) e with
    | none => 0
    | some g => putFld g.rank 15 12 ||| bitW g.norot 11 ||| putFld g.ep 4 0

def cluPhyRet (s : State) (n : Fin 12) : Word :=
  (List.finRange 16).foldl (fun w p => w ||| bitW (vget (s.cl n).phys p).retired p.val) 0

def cluPacOwn (s : State) (n : Fin 12) (i : Nat) : Word :=
  (List.range 4).foldl (fun w k => w ||| putFld (match place? 16 (4 * i + k) with
    | none => 15
    | some p => (pacerOwner (s.cl n) p).getD 15) (15 - 4 * k) (12 - 4 * k)) 0

def cluCdtCfg (s : State) (n : Fin 12) (l : Nat) : Word :=
  match place? 16 l with
  | none => 0
  | some q => match conduitCfg (s.cl n) q with
    | none => 0
    | some (txn, o) => bitW true 15 ||| bitW txn 14 ||| putFld o 3 0

def cluCdtLvl (s : State) (n : Fin 12) (l : Nat) : Word :=
  match place? 16 l with
  | none => 0
  | some q => putFld (s.conduit n q).out.length 11 8 ||| putFld (s.conduit n q).inw.length 3 0

def regionAt (s : State) (n : Fin 12) (l : Nat) : Option Region :=
  match (s.cl n).cfg with | none => none | some g => g.regions[l]?

def cluRgnCfg (s : State) (n : Fin 12) (l : Nat) : Word :=
  match regionAt s n l with
  | none => 0
  | some r => putFld r.kind.code 15 14 ||| bitW r.send 13 ||| putFld (if r.kind = .out then r.owner else 0) 3 0
def cluRgnWin (s : State) (n : Fin 12) (l : Nat) : Word := match regionAt s n l with | none => 0 | some r => putFld r.win 12 0
def cluRgnLen (s : State) (n : Fin 12) (l : Nat) : Word :=
  match regionAt s n l with | none => 0 | some r => if r.kind = .unused then 0 else putFld r.len 13 0
def cluRgnHub (s : State) (n : Fin 12) (l : Nat) : Word := match regionAt s n l with | none => 0 | some r => putFld r.hub 13 0

def cluPimg (s : State) (n : Fin 12) : Word :=
  match (s.cl n).cfg with
  | none => 0
  | some g => match g.pimg with | none => 0 | some w => bitW true 15 ||| putFld w 13 0

def cluXbCfg (s : State) (n : Fin 12) (l : Nat) : Word :=
  match place? 12 l with
  | none => 0
  | some j => match s.pinCfg (pinOf n j) with
    | none => 0
    | some g => putFld g.src 15 12 ||| putFld g.index 11 8

end Sys2Proof.Machine
end

