-- ==== Sys2Proof/Machine/Dark.lean ====
section
/-! DEFINITION. Entry to the dark-node state (R430, R431), and frames of the node's own that are cut off in mid-send
(R409, R430). -/

namespace Sys2Proof.Machine

/-- A frame of the node's own that is leaving is completed with ERR up to its LEN (R409, R430). -/
def cutFrame (s : State) (r : Ring) : State :=
  s.updStream r fun x => { x with sending := x.sending.map Outgoing.cut }

/-- A frame cut off by a switchover is sent again whole: it stands at the head of its queue again (R409). One no word of which has
left is not cut off, and only returns. -/
def cutAndRequeue (s : State) (r : Ring) : State :=
  let l := (s.stream r).sending
  let s1 := s.updStream r fun x => { x with sending := (l.filter fun o => !o.whole).map Outgoing.cut }
  s1.each l fun s o => s.updQueue (ringPort r) o.entry.frame.cls fun q => o.entry :: q

/-- A prompter that stops otherwise than by yielding loses what is in its transit stores (R151). -/
def storeLose (s : State) : State :=
  let go (x : EventStream) : EventStream := { x with store := [], inside := none }
  (s.updStream .a go).updStream .b go

/-- A line head that goes dark drives the port that carries the ring out to DOWN and holds it there (R431). -/
def darkHead (s : State) (r : Ring) : State :=
  if (s.lineOf r).head then
    (portDown s r.outPort).updDark fun d => { d with heldPorts := vset d.heldPorts r.outPort.ix true }
  else s

/-- Entry to the dark-node state by a source (R425, R427, R430, R431, R451): insertion closes, own frames are cut, a prompter
stops generating and sends IDLE, a line head holds its port. What follows on pins, CAN and e-fuses settles by itself. A node
that is dark already keeps its state; a reason to exit by POWER only still counts. -/
def darkEnter (s : State) (src : Nat) (power : Bool) : State :=
  let only := power || decide (src = Src.curtainFall) || s.bit FLT_CTRL 14 || decide (s.fld FLT_CTRL 7 4 = 0)
  if s.dark.dark then s.updDark fun d => { d with power := d.power || only, lastMajor := s.now }
  else
    let idle := s.prompting
    let s1 := s.updDark fun d =>
      { d with dark := true, power := d.power || only, src := src, lastMajor := s.now, idleRing := Vector.replicate 2 idle
               reopen := false }
    let s2 := wingDrop (s1.updCue fun c => { c with guard := { c.guard with open_ := false } })
    let s3 := cutFrame (cutFrame s2 .a) .b
    let s4 := if idle then storeLose (standDown s3) else s3.updPrompter fun p => { p with listening := false }
    (darkHead (darkHead s4 .a) .b).traceAll 0x12

end Sys2Proof.Machine
end

