-- ==== Sys2Proof/Machine/Content.lean ====
section
/-! DEFINITION. What a stagebook's sections say in their words (R369, R370), and every rule that marks a section invalid (R372, cause 10). -/

namespace Sys2Proof.Machine

/-! Cluster sections. -/

/-- A pin's settings break none of R241 and R303: no reserved code, and TYPE analog only on local pins 10 and 11 with SRC 0 and no pull. -/
def pinValid (j : Nat) (c : PinCfg) : Bool :=
  decide (c.src ≤ 6) && decide (pinType c ≠ 3) && decide (fld c.cfg 13 12 ≠ 3) &&
  (decide (pinType c ≠ 2) || (decide (10 ≤ j) && decide (c.src = 0) && decide (fld c.cfg 13 12 = 0)))

/-- A gap value puts out the high level (R309, R342): OFF of an active-low pin, ON of another. DEDUCED: HOLD and FLOAT put out no level of
their own (notes/assumptions/140.md). -/
def gapHigh (c : PinCfg) (code : Nat) : Bool := (decide (code = 1) && pinActLow c) || (decide (code = 2) && !pinActLow c)

/-- R342 of one pin: a CAN transmit pin rests recessive in a gap and in intermission. -/
def canPinValid (c : PinCfg) : Bool := decide (c.src ≠ 5) || (gapHigh c (pinGapCode c) && gapHigh c (pinIntmCode c))

/-- Words of the hub area that a region maps (R253). -/
def hubWords : RegionKind → Nat
  | .snap => 2048
  | _ => 16384

/-- A region fits in the window and in its hub area (R253). -/
def regionFits (r : Region) : Bool :=
  decide (r.kind = .unused) || (decide (1 ≤ r.len) && decide (r.win + r.len ≤ 8192) && decide (r.hub + r.len ≤ hubWords r.kind))

/-- Two stretches of words share none. -/
def apart (a n b m : Nat) : Bool := decide (a + n ≤ b) || decide (b + m ≤ a)

/-- No region overlaps a later one in the window (R253). -/
def regionsApart : List Region → Bool
  | [] => true
  | r :: t => t.all (fun x => apart r.win r.len x.win x.len) && regionsApart t

/-- No OUT region maps a publish word of a later one (R253). -/
def outsApart : List Region → Bool
  | [] => true
  | r :: t => t.all (fun x => apart r.hub r.len x.hub x.len) && outsApart t

/-- A CLU section breaks none of R239, R241, R253, R256, R303 and R342, but for what concerns CAN_PINS. -/
def clusterValid (g : ClusterCfg) : Bool :=
  decide (g.engines.length ≤ 14) &&
  g.pins.zipIdx.all (fun x => pinValid x.2 x.1 && canPinValid x.1) &&
  decide (g.regions.length ≤ 16) && g.regions.all regionFits && regionsApart (g.regions.filter fun r => decide (r.kind ≠ .unused)) &&
  (g.pimg.isSome || g.pins.all fun c => decide (c.src ≠ 6))

/-- R342: the receive pin that CAN_PINS names is not analog and has no filter time. -/
def canRxValid (clusters : List (Nat × ClusterCfg)) (pins : Word) : Bool :=
  match clusters.find? fun x => decide (x.1 = fld pins 11 8) with
  | none => true
  | some (_, g) => match g.pins[fld pins 3 0]? with
    | none => true
    | some c => decide (pinType c ≠ 2) && decide (c.flt = 0)

/-! The power section. -/

/-- V_good is at least V_fail + 1 V, and V_ovp at least V_good + 2 V (R440). -/
def thresholdsOk (fail good ovp : Nat) : Bool := decide (fail + 100 ≤ good) && decide (good + 200 ≤ ovp)

/-- The points in use come first with rising currents, falling times of at least 1 ms, and at least one is in use (R456). -/
def curveOk : List (Nat × Nat) → Bool
  | [] => false
  | [p] => decide (p.1 ≠ 0) && decide (p.2 ≠ 0)
  | p :: q :: t =>
    decide (p.1 ≠ 0) && decide (p.2 ≠ 0) &&
    (if q.1 = 0 then (q :: t).all fun x => decide (x.1 = 0) else decide (p.1 < q.1) && decide (q.2 < p.2) && curveOk (q :: t))

/-- The PWR section breaks neither R440 nor R456. -/
def powerValid (items : List RegItem) : Bool :=
  let v (a : Nat) : Nat := (itemValue items a 0).toNat
  thresholdsOk (v PWR_VFAIL) (v PWR_VGOOD) (v PWR_VOVP) &&
  (List.range 16).all fun c =>
    curveOk ((List.range 8).map fun k => ((itemValue items (PWR_EF_CUR k) c).toNat, (itemValue items (PWR_EF_TIM k) c).toNat))

/-- Every rule that marks a section invalid (R372, cause 10), R524 with them. -/
def bookValid (b : Stagebook) : Bool :=
  b.sheet.valid && b.clusters.all (fun x => clusterValid x.2) &&
  outsApart (b.clusters.flatMap fun x => x.2.regions.filter fun r => decide (r.kind = .out)) &&
  (List.range 4).all (fun c => canRxValid b.clusters (itemValue b.regs (CAN_PINS c) 0)) &&
  powerValid b.regs &&
  (b.cmp.isNone || (b.clusters.all (fun x => decide (x.1 < 4)) &&
    decide (b.sheet.lenq % 15625 = 0) && decide (1 ≤ b.sheet.lenq / 15625) && decide (b.sheet.lenq / 15625 ≤ 268)))

/-! What the words say. -/

/-- A section as it stands in the stream: tag, body, its CRC-32 and whether that is exact (R369). -/
structure RawSection where
  tag : Word
  body : List Word
  crc : DWord
  crcOk : Bool
  deriving DecidableEq, Repr

def sectionNum (x : RawSection) : Nat := fld x.tag 14 0

/-- The sections after the header, and what follows the last (R369); none where they overrun the words. -/
def rawSections : Nat → List Word → Option (List RawSection × List Word)
  | 0, ws => some ([], ws)
  | n + 1, ws =>
    let len := ofWords [wAt ws 1, wAt ws 2]
    if ws.length < 5 + len then none
    else
      let head := ws.take (3 + len)
      let crc := wAt ws (3 + len) ++ wAt ws (4 + len)
      match rawSections n (ws.drop (5 + len)) with
      | none => none
      | some (l, rest) =>
        some (⟨wAt ws 0, head.drop 3, crc, decide (crcWords 32 0x04C11DB7 0xFFFFFFFF head ^^^ 0xFFFFFFFF = crc.toNat)⟩ :: l, rest)

/-- The REG items of a section body, whose registers lie `base` above their offsets (R370). -/
def regItems (base : Nat) : Nat → List Word → List RegItem
  | 0, _ => []
  | _ + 1, [] => []
  | n + 1, h :: t =>
    let c := fld h 11 0
    let triple (i : Nat) : RegItem :=
      let sel := wAt t (3 * i + 1)
      ⟨canonReg (base + (wAt t (3 * i)).toNat), if sel = 0xFFFF then 0 else sel.toNat, wAt t (3 * i + 2)⟩
    match fld h 15 12 with
    | 1 => (List.range c).map triple ++ regItems base n (t.drop (3 * c))
    | 2 => regItems base n (t.drop (3 + c))
    | 3 => regItems base n (t.drop (2 + c))
    | _ => []

/-- The REG items of all sections: PWR and CLUn use the field space, the others the hub space (R370). HOUSE holds no items, and a
section of an unknown tag is skipped. -/
def bookRegs (l : List RawSection) : List RegItem :=
  l.flatMap fun x =>
    if sectionNum x = 0xC ∨ (0xC < sectionNum x ∧ sectionNum x < 0x10) ∨ 0x1B < sectionNum x then []
    else regItems (if sectionNum x = 0xA ∨ 0x10 ≤ sectionNum x then 0x10000 else 0) (x.body.length + 1) x.body

/-- The CRC of the section with a tag (R369). -/
def bookCrc (l : List RawSection) (num : Nat) : DWord := match l.find? fun x => decide (sectionNum x = num) with
  | none => 0
  | some x => x.crc

/-- What the words of a stagebook say, given what its TABLE and MEM items load: its header, its REG items and its sections' CRCs as they
stand there. None where the sections named are not those in the words. -/
def readBook (ws : List Word) (c : Stagebook) : Option Stagebook :=
  match rawSections (wAt ws 8).toNat ((ws.take (ofWords [wAt ws 4, wAt ws 5])).drop 10) with
  | none => none
  | some (l, _) =>
    let named (num : Nat) : Bool := l.any fun x => decide (sectionNum x = num)
    if c.cmp.isSome = named 0xB ∧ (List.range 12).all fun n => (c.clusters.any fun x => decide (x.1 = n)) == named (0x10 + n) then
      some { c with
        gen := wAt ws 6 ++ wAt ws 7, signed := bitOf (wAt ws 9) 15, regs := bookRegs l, cueCrc := bookCrc l 4, guardCrc := bookCrc l 5
        clusters := c.clusters.map fun x => (x.1, { x.2 with crc := bookCrc l (0x10 + x.1) }) }
    else none

end Sys2Proof.Machine
end

