-- ==== Sys2Proof/Machine/Crypto.lean ====
section
/-! DEFINITION. SHA-256 (FIPS 180-4) over words and ECDSA over P-256 (FIPS 186-4), to which R3, R4, R371 and R373 refer
(notes/assumptions/32.md). -/

namespace Sys2Proof

/-- The round constants of SHA-256. -/
def shaK0 : List DWord :=
  [0x428A2F98, 0x71374491, 0xB5C0FBCF, 0xE9B5DBA5, 0x3956C25B, 0x59F111F1, 0x923F82A4, 0xAB1C5ED5,
  0xD807AA98, 0x12835B01, 0x243185BE, 0x550C7DC3, 0x72BE5D74, 0x80DEB1FE, 0x9BDC06A7, 0xC19BF174,
  0xE49B69C1, 0xEFBE4786, 0x0FC19DC6, 0x240CA1CC, 0x2DE92C6F, 0x4A7484AA, 0x5CB0A9DC, 0x76F988DA,
  0x983E5152, 0xA831C66D, 0xB00327C8, 0xBF597FC7, 0xC6E00BF3, 0xD5A79147, 0x06CA6351, 0x14292967]
def shaK1 : List DWord :=
  [0x27B70A85, 0x2E1B2138, 0x4D2C6DFC, 0x53380D13, 0x650A7354, 0x766A0ABB, 0x81C2C92E, 0x92722C85,
  0xA2BFE8A1, 0xA81A664B, 0xC24B8B70, 0xC76C51A3, 0xD192E819, 0xD6990624, 0xF40E3585, 0x106AA070,
  0x19A4C116, 0x1E376C08, 0x2748774C, 0x34B0BCB5, 0x391C0CB3, 0x4ED8AA4A, 0x5B9CCA4F, 0x682E6FF3,
  0x748F82EE, 0x78A5636F, 0x84C87814, 0x8CC70208, 0x90BEFFFA, 0xA4506CEB, 0xBEF9A3F7, 0xC67178F2]
def shaK : List DWord := shaK0 ++ shaK1

/-- The start value of SHA-256. -/
def shaInit : List DWord :=
  [0x6A09E667, 0xBB67AE85, 0x3C6EF372, 0xA54FF53A, 0x510E527F, 0x9B05688C, 0x1F83D9AB, 0x5BE0CD19]

/-- The message schedule, newest word first. -/
def shaSchedule : Nat → List DWord → List DWord
  | 0, w => w
  | n + 1, w =>
    let at_ (i : Nat) : DWord := (w[i]?).getD 0
    let x := at_ 1
    let y := at_ 14
    let s1 := x.rotateRight 17 ^^^ x.rotateRight 19 ^^^ (x >>> 10)
    let s0 := y.rotateRight 7 ^^^ y.rotateRight 18 ^^^ (y >>> 3)
    shaSchedule n ((s1 + at_ 6 + s0 + at_ 15) :: w)

/-- One round on the eight working variables. -/
def shaRound (v : List DWord) (kw : DWord × DWord) : List DWord :=
  match v with
  | [a, b, c, d, e, f, g, h] =>
    let s1 := e.rotateRight 6 ^^^ e.rotateRight 11 ^^^ e.rotateRight 25
    let ch := (e &&& f) ^^^ (~~~e &&& g)
    let t1 := h + s1 + ch + kw.1 + kw.2
    let s0 := a.rotateRight 2 ^^^ a.rotateRight 13 ^^^ a.rotateRight 22
    let maj := (a &&& b) ^^^ (a &&& c) ^^^ (b &&& c)
    [t1 + s0 + maj, a, b, c, d + t1, e, f, g]
  | _ => v

/-- One block of sixteen 32-bit words. -/
def shaBlock (h : List DWord) (block : List DWord) : List DWord :=
  let w := (shaSchedule 48 block.reverse).reverse
  let v := (shaK.zip w).foldl shaRound h
  (h.zip v).map fun x => x.1 + x.2

/-- Blocks of sixteen, the words in order. -/
def shaBlocks : Nat → List DWord → List DWord → List DWord
  | 0, _, h => h
  | n + 1, m, h => shaBlocks n (m.drop 16) (shaBlock h (m.take 16))

/-- Pairs of words as 32-bit words (R371: bits [15:8] of a word first). -/
def pairUp : List Word → List DWord
  | a :: b :: t => (a ++ b) :: pairUp t
  | _ => []

/-- The SHA-256 digest of a run of words, as sixteen words (R371). -/
def sha256 (m : List Word) : List Word :=
  let n := m.length
  let pad := (63 - (n + 4) % 32) % 32
  let full := m ++ [0x8000] ++ List.replicate pad 0 ++ toWords 4 (16 * n)
  let h := shaBlocks (full.length / 32) (pairUp full) shaInit
  h.foldr (fun d acc => d.extractLsb' 16 16 :: d.extractLsb' 0 16 :: acc) []

/-- The field prime, the curve's b, the base point and its order of P-256. -/
abbrev p256P : Nat := 0xFFFFFFFF00000001000000000000000000000000FFFFFFFFFFFFFFFFFFFFFFFF
abbrev p256B : Nat := 0x5AC635D8AA3A93E7B3EBBD55769886BC651D06B0CC53B0F63BCE3C3E27D2604B
abbrev p256X : Nat := 0x6B17D1F2E12C4247F8BCE6E563A440F277037D812DEB33A0F4A13945D898C296
abbrev p256Y : Nat := 0x4FE342E2FE1A7F9B8EE7EB4A7C0F9E162BCE33576B315ECECBB6406837BF51F5
abbrev p256N : Nat := 0xFFFFFFFF00000000FFFFFFFFFFFFFFFFBCE6FAADA7179E84F3B9CAC2FC632551

/-- x^e mod m by squaring over the low k bits of e. -/
def powMod (m x e : Nat) : Nat → Nat
  | 0 => 1
  | k + 1 =>
    let r := powMod m (x * x % m) (e / 2) k
    if e % 2 = 1 then r * x % m else r

/-- The inverse modulo a prime. -/
def invMod (m x : Nat) : Nat := powMod m (x % m) (m - 2) 256

/-- A point of the curve, none the point at infinity. -/
abbrev CurvePoint := Option (Nat × Nat)

def subMod (m x y : Nat) : Nat := (x + m - y % m) % m

/-- The sum of two points. -/
def curveAdd (a b : CurvePoint) : CurvePoint :=
  match a, b with
  | none, q => q
  | q, none => q
  | some (x1, y1), some (x2, y2) =>
    if x1 = x2 ∧ (y1 + y2) % p256P = 0 then none
    else
      let l := if x1 = x2 then subMod p256P (3 * x1 * x1) 3 * invMod p256P (2 * y1)
        else subMod p256P y2 y1 * invMod p256P (subMod p256P x2 x1)
      let x3 := subMod p256P (subMod p256P (l * l) x1) x2
      some (x3, subMod p256P (l * subMod p256P x1 x3) y1)

/-- k times a point, over the low n bits of k. -/
def curveMul (k : Nat) (q : CurvePoint) : Nat → CurvePoint
  | 0 => none
  | n + 1 =>
    let r := curveMul (k / 2) (curveAdd q q) n
    if k % 2 = 1 then curveAdd r q else r

/-- A public key is a point of the curve. -/
def onCurve (x y : Nat) : Bool :=
  decide (x < p256P) && decide (y < p256P) && decide (y * y % p256P = (x * x * x + (p256P - 3) * x + p256B) % p256P)

/-- An ECDSA signature (r, s) over a digest verifies under the key (x, y). -/
def ecdsaOk (digest : List Word) (r s x y : Nat) : Bool :=
  if r = 0 ∨ p256N ≤ r ∨ s = 0 ∨ p256N ≤ s ∨ !onCurve x y then false
  else
    let w := invMod p256N s
    let u1 := ofWords digest * w % p256N
    let u2 := r * w % p256N
    match curveAdd (curveMul u1 (some (p256X, p256Y)) 256) (curveMul u2 (some (x, y)) 256) with
    | none => false
    | some (px, _) => decide (px % p256N = r)

end Sys2Proof
end

