-- ==== Sys2Proof/Machine/Journal.lean ====
section
/-! DEFINITION. The journal as it is written (R385, R387), the checks of a slot (R368-R373) and keys (R373). -/

namespace Sys2Proof.Machine

/-- The endurance the most-written head cell has used, in % of 10^9 writes: each cell takes one record in 256 (R366, R385). -/
def storeWear (s : State) : Nat := (s.store.worn + 255) / 256 * 100 / 1000000000

/-- A record has been written to its head cells; wear that passes 80 % is reported (R366). -/
def wearOnce (s : State) : State :=
  let s1 := s.updStore fun x => { x with worn := x.worn + 1 }
  if storeWear s ≤ 80 ∧ 80 < storeWear s1 then (s1.evt RST_EVT rstWEAR).raise Src.wear 0 else s1

/-- The words of a record are written at step 1-3 of R385, then both head cells; the record counts. -/
def jrnCommit (s : State) : State :=
  let j := s.store.jrn
  match j.writing with
  | none => s
  | some (b, _) =>
    let ws := jrnWords b j.seq
    let s1 := (List.range ws.length).foldl (fun s i => s.setWord (jrnWordAt (j.pos + i)) (wAt ws i)) s
    let cell := [wd j.seq.toNat, wd j.pos]
    let cellW := cell ++ [wd (crcWords 16 0x1021 0xFFFF cell)]
    let s2 := (s1.setWords (jrnHeadAt false j.seq.toNat) cellW).setWords (jrnHeadAt true j.seq.toNat) cellW
    wearOnce <| (s2.updJrn fun j =>
      { j with live := (j.live.filter fun x => !jrnSame x.1 b) ++ [(b, j.pos)]
               forced := match b with | .slot _ _ true sheet => some sheet | _ => j.forced
               writing := none, seq := j.seq + 1, pos := (j.pos + ws.length) % 47616 }).bump RST_JRN_CNT

/-- The next record that waits begins (R384). -/
def jrnNext (s : State) : State :=
  match s.store.jrn.writing, s.store.jrn.held with
  | none, b :: t => s.updJrn fun j => { j with writing := some (b, false), held := t }
  | _, _ => s

/-- Every record under way or waiting is written (R449, step 1; R503: the supply stays in a warm restart). -/
def jrnFlush : Nat → State → State
  | 0, s => s
  | n + 1, s => if jrnBusy s then jrnFlush n (jrnCommit (jrnNext s)) else s

/-- The write position is within 8,192 words of the oldest live record (R387). -/
def jrnNear (s : State) : Bool :=
  match s.store.jrn.live with
  | [] => false
  | (_, at_) :: _ => decide ((at_ + 47616 - s.store.jrn.pos) % 47616 < 8192) && decide (at_ ≠ s.store.jrn.pos)

/-! Slot checks (R371-R373). -/

/-- The items of a section body (R370). -/
def itemsOk : Nat → List Word → Bool
  | 0, _ => false
  | _ + 1, [] => true
  | n + 1, h :: t =>
    let c := fld h 11 0
    let k := match fld h 15 12 with | 1 => 3 * c | 2 => 3 + c | 3 => 2 + c | _ => 0
    decide (1 ≤ fld h 15 12) && decide (fld h 15 12 ≤ 3) && decide (c ≠ 0) && decide (k ≤ t.length) && itemsOk n (t.drop k)

/-- The tags of R369, and those that are required. -/
def knownTags : List Nat := [1, 2, 3, 4, 5, 6, 7, 8, 9, 0xA, 0xB, 0xC, 0x10, 0x11, 0x12, 0x13, 0x14, 0x15, 0x16, 0x17, 0x18, 0x19, 0x1A, 0x1B]
def requiredTags : List Nat := [1, 2, 3, 4, 5, 6, 7, 8, 0xC]

/-- The tags rise. -/
def rising : List Nat → Bool
  | a :: b :: t => decide (a < b) && rising (b :: t)
  | _ => true

/-- Cause 5 of R372 does not apply. -/
def sectionsOk (l : List RawSection) : Bool :=
  let tags := l.map fun x => fld x.tag 14 0
  rising tags && requiredTags.all tags.contains &&
  l.all fun x =>
    let t := fld x.tag 14 0
    if t = 0xC then decide (32 ≤ x.body.length)
    else if knownTags.contains t then itemsOk (x.body.length + 1) x.body
    else bitOf x.tag 15

/-- The secure-boot fuse is blown (R2, R374). -/
def secure (s : State) : Bool := Config.orderFS || s.store.fuse

/-- The public key in key slot k, as its coordinates (R373). -/
def keyWords (s : State) (k : Nat) : List Word := s.words (storeBase + 0x78800 + 64 * k) 32

/-- A 32-word signature over a digest verifies under key slot k. -/
def signatureOk (s : State) (digest sig : List Word) (k : Nat) : Bool :=
  let key := keyWords s k
  ecdsaOk digest (ofWords (sig.take 16)) (ofWords (sig.drop 16)) (ofWords (key.take 16)) (ofWords (key.drop 16))

/-- The checks 1-9 of R372 in order, over the words of a slot: the cause of the first that fails, 0 where none does. -/
def slotCause (s : State) (ws : List Word) : Nat :=
  if wAt ws 0 ≠ 0x5354 ∨ wAt ws 1 ≠ 0x424B then 1
  else if fld (wAt ws 2) 15 8 ≠ 1 then 2
  else if wAt ws 3 ≠ 0x5C19 then 3
  else
    let total := ofWords [wAt ws 4, wAt ws 5]
    let signed := bitOf (wAt ws 9) 15
    let all := ws.take total
    if total < 26 ∨ 98304 < total then 4
    else match rawSections (wAt ws 8).toNat (all.drop 10) with
      | none => 4
      | some (l, rest) =>
        if rest.length ≠ (if signed then 49 else 16) then 4
        else if !sectionsOk l then 5
        else if !l.all (·.crcOk) then 6
        else
          let digest := sha256 (all.take (total - rest.length))
          if rest.take 16 ≠ digest then 7
          else
            let k := (wAt rest 16).toNat
            let sigOk := decide (1 ≤ k) && decide (k ≤ 3) && decide ((s.store.keys.toList[k]?).getD 0 = 1) &&
              signatureOk s digest (rest.drop 17) k
            if (signed && !sigOk) || (!signed && secure s) then 8
            else match l.find? fun x => decide (fld x.tag 14 0 = 0xC) with
              | none => 9
              | some h =>
                let n := h.body.length - 32
                if signatureOk s (sha256 (h.body.take n)) (h.body.drop n) 0 then 0 else 9

/-- All words of a slot (R365). -/
def slotWords (s : State) (b : Bool) : List Word := s.words (slotBase b) 98304

/-- The check of a slot (R372): its cause, and what it spells; `content` is what the items of its sections say where they follow their
layouts. Items that do not, or a section that a rule marks invalid, are cause 10. -/
def slotVerdict (s : State) (ws : List Word) (content : Option Stagebook) : Nat × Option Stagebook :=
  match slotCause s ws, content.bind (readBook ws) with
  | 0, some c => if bookValid c then (0, some c) else (10, none)
  | 0, none => (10, none)
  | k, _ => (k, none)

end Sys2Proof.Machine
end

