-- ==== Sys2Proof/Machine/Can.lean ====
section
/-! DEFINITION. The CAN FD controllers (R341-R364). The bits on the bus are not modelled: what a controller sees there comes
with the commands. -/

namespace Sys2Proof.Machine

/-- CAN_EVT bits (R364). -/
abbrev canRX : Nat := 15
abbrev canSPOT : Nat := 14
abbrev canRXLOST : Nat := 13
abbrev canSPFULL : Nat := 12
abbrev canTXDONE : Nat := 11
abbrev canTXEMPTY : Nat := 10
abbrev canTXREF : Nat := 9
abbrev canTXFULL : Nat := 8
abbrev canEPASS : Nat := 7
abbrev canEACT : Nat := 6
abbrev canBOFF : Nat := 5
abbrev canBOFFEND : Nat := 4
abbrev canPERR : Nat := 3

def State.canEvt (s : State) (c : Fin 4) (b : Nat) : State := s.evt (CAN_EVT c.val) b

/-- CAN_CTRL as taken at the last enable (R346; notes/assumptions/28.md). -/
def canConf (s : State) (c : Fin 4) : Word := ((s.can c).conf[0]?).getD 0

/-- R343: settings with which the controller can be enabled. -/
def canConfOk (s : State) (c : Fin 4) : Bool :=
  let n := c.val
  let nsjw := s.fld (CAN_NBT_H n) 15 9 + 1
  let nbrp := s.fld (CAN_NBT_H n) 8 0 + 1
  let n1 := s.fld (CAN_NBT_L n) 15 8 + 1
  let n2 := s.fld (CAN_NBT_L n) 6 0 + 1
  let dsjw := s.fld (CAN_DBT_H n) 11 8 + 1
  let dbrp := s.fld (CAN_DBT_H n) 4 0 + 1
  let d1 := s.fld (CAN_DBT_L n) 12 8 + 1
  let d2 := s.fld (CAN_DBT_L n) 3 0 + 1
  let nbit := (1 + n1 + n2) * nbrp * 5
  let dbit := (1 + d1 + d2) * dbrp * 5
  decide (nsjw ≤ n2) && decide (dsjw ≤ d2) && decide (8 ≤ 1 + n1 + n2) && decide (5 ≤ 1 + d1 + d2) && decide (dbit ≤ nbit) &&
  decide (1000 ≤ nbit) && decide (nbit ≤ 100000) && decide (125 ≤ dbit) &&
  decide (s.fld (CAN_PINS n) 11 8 < 12) && decide (s.fld (CAN_PINS n) 3 0 < 12)

/-- The head of the transmit FIFO begins (R354, R359), where the controller takes part on the bus (notes/assumptions/29.md). -/
def canStart (s : State) (c : Fin 4) : State :=
  let x := s.can c
  if (x.phase = .active ∨ x.phase = .passive) ∧ !bitOf (canConf s c) 14 ∧ !x.tx.isEmpty then
    s.updCan c fun x => { x with txBusy := true }
  else s

/-- The attempt of the head ends without success (R355): a flushed head is removed. -/
def canAttemptEnds (s : State) (c : Fin 4) : State :=
  let x := s.can c
  if !x.txBusy then s
  else
    let s1 := s.updCan c fun x => { x with txBusy := false, flushHead := false, tx := if x.flushHead then x.tx.drop 1 else x.tx }
    if x.flushHead ∧ x.tx.length = 1 then s1.canEvt c canTXEMPTY else s1

/-- CAN_CTRL.EN goes from 0 to 1 (R343, R346). -/
def canEnable (s : State) (c : Fin 4) : State :=
  let n := c.val
  if (s.can c).faultHeld then s
  else if canConfOk s c then
    let conf := [CAN_CTRL n, CAN_PINS n, CAN_NBT_H n, CAN_NBT_L n, CAN_DBT_H n, CAN_DBT_L n, CAN_TDC n].map s.reg
    s.updCan c fun x =>
      { x with phase := .integrating, conf := conf, cfgErr := false, txErr := 0, rxErr := 0, recSeq := 0, waitRec := false
               txBusy := false, flushHead := false }
  else (s.updCan c fun x => { x with phase := .off, cfgErr := true }).raise (Src.can n 5) n

/-- CAN_CTRL.EN goes to 0 (R346): the controller stops at once; its buffers keep their contents. -/
def canDisable (s : State) (c : Fin 4) : State :=
  (canAttemptEnds s c).updCan c fun x => { x with phase := .off, waitRec := false, recSeq := 0 }

/-- What a write to CAN_CTRL starts or stops. -/
def canCtrlWritten (old : Word) (c : Fin 4) (s : State) : State :=
  let new := s.reg (CAN_CTRL c.val)
  if !bitOf old 15 && bitOf new 15 then canEnable s c
  else if bitOf old 15 && !bitOf new 15 then canDisable s c
  else s

/-- Entry to bus-off (R357, R358). -/
def canBusOff (s : State) (c : Fin 4) : State :=
  let auto := bitOf (canConf s c) 11
  let s1 := (canAttemptEnds s c).updCan c fun x =>
    { x with phase := if auto then .recovering else .busOff, waitRec := !auto, recSeq := 0 }
  ((s1.bump (CAN_BOFFC c.val)).canEvt c canBOFF).raise (Src.can c.val 6) c.val

/-- TEC or REC makes the controller error passive (ISO 11898-1:2015): above 127. -/
def canPassive (x : CanCtl) : Bool := decide (x.txErr > 127) || decide (x.rxErr > 127)

/-- The error state follows TEC and REC, which stood as in `old`, as ISO 11898-1:2015 defines (R357): passive above 127, bus-off above
255. A controller in a gap goes on receiving and keeps STATE 6 (R361). -/
def canErrorState (old : CanCtl) (s : State) (c : Fin 4) : State :=
  let x := s.can c
  let shown (p : CanPhase) : CanPhase := if x.phase = .gap then .gap else p
  if x.phase ≠ .active ∧ x.phase ≠ .passive ∧ x.phase ≠ .gap then s
  else if x.txErr > 255 ∧ x.phase ≠ .gap then canBusOff s c
  else if canPassive x ∧ !canPassive old then
    ((s.updCan c fun x => { x with phase := shown .passive }).canEvt c canEPASS).raise (Src.can c.val 3) c.val
  else if !canPassive x ∧ canPassive old then (s.updCan c fun x => { x with phase := shown .active }).canEvt c canEACT
  else s

/-- Eleven recessive bits have been seen (R346): the controller takes part in the state its counters give. -/
def canIntegrated (s : State) (c : Fin 4) : State :=
  let x := s.can c
  if x.phase ≠ .integrating then s
  else if x.txErr > 255 then
    s.updCan c fun x => { x with phase := if bitOf (canConf s c) 11 then .recovering else .busOff, waitRec := !bitOf (canConf s c) 11 }
  else
    canStart (s.updCan c fun x => { x with phase := if canPassive x then .passive else .active }) c

/-- Bytes of data a DLC stands for (R348). -/
def canBytes (w0 : Word) : Nat :=
  let d := fld w0 3 0
  if bitOf w0 11 then 0
  else if !bitOf w0 13 then min d 8
  else ([0, 1, 2, 3, 4, 5, 6, 7, 8, 12, 16, 20, 24, 32, 48, 64][d]?).getD 64
def canDataWords (w0 : Word) : Nat := (canBytes w0 + 1) / 2

/-- The stamp of an entry (R360), at SOF `sof`. -/
def canStamp (s : State) (sof : Nat) : List Word :=
  let t : Int := s.fring - (s.now - sof : Nat)
  let ns := nsOf t
  [bitW s.time.fdom 15 ||| bitW s.time.fhold 14, wd (secOf t), wd (ns / 65536), wd ns]

/-- An entry for the receive FIFO (R350); the CAN service takes transmit entries straight away (R356). -/
def canStore (s : State) (c : Fin 4) (e : CanEntry) : State :=
  let x := s.can c
  if x.rx.length < 64 then
    (s.updCan c fun x => { x with rx := x.rx ++ [{ e with w0 := e.w0 ||| bitW x.lost 7 }], lost := false }).canEvt c canRX
  else
    (((s.updCan c fun x => { x with lost := true }).bump (CAN_RXLOST c.val)).canEvt c canRXLOST).raise (Src.can c.val 1) c.val

/-- The identifier of a record, and a filter's identifier and mask (R347, R349). -/
def ident (h l : Word) : Nat := fld h 12 0 * 65536 + l.toNat

/-- Filter i admits a frame (R349). -/
def filterHits (s : State) (c : Fin 4) (i : Nat) (w0 w1 w2 : Word) : Bool :=
  let cfg := s.regSel (CAN_FLT_CFG c.val) i
  let ide := bitOf w0 14
  let fdf := bitOf w0 13
  let cut (n : Nat) : Nat := if ide then n else n % 2048
  let id := cut (ident w1 w2)
  let fid := cut (ident (s.regSel (CAN_FLT_ID_H c.val) i) (s.regSel (CAN_FLT_ID_L c.val) i))
  let msk := ident (s.regSel (CAN_FLT_MSK_H c.val) i) (s.regSel (CAN_FLT_MSK_L c.val) i)
  decide (fld cfg 15 14 ≠ 0) &&
  (match fld cfg 13 12 with | 1 => !ide | 2 => ide | _ => true) &&
  (match fld cfg 11 10 with | 1 => !fdf | 2 => fdf | _ => true) &&
  decide ((id ^^^ fid) &&& msk = 0)

/-- A validated frame is sorted by the first filter that decides it (R349, R351). -/
def canSort (s : State) (c : Fin 4) (w0 w1 w2 : Word) (data : List Word) (stamp : List Word) : State :=
  let ctl := putFld c.val 14 13
  match (List.range 32).find? fun i => filterHits s c i w0 w1 w2 with
  | none =>
    if bitOf (canConf s c) 10 then canStore s c ⟨w0, w1, w2, bitW true 15 ||| ctl, stamp, data⟩ else s
  | some i =>
    let w3 := ctl ||| putFld i 12 8
    match fld (s.regSel (CAN_FLT_CFG c.val) i) 15 14 with
    | 1 => canStore s c ⟨w0, w1, w2, w3, stamp, data⟩
    | 2 =>
      if (s.can c).spot.length < 4 then
        let e : CanEntry := ⟨w0 ||| bitW true 9, w1, w2, w3, stamp, data⟩
        ((s.updCan c fun x => { x with spot := x.spot ++ [e] }).canEvt c canSPOT).barReady .fh .signal (.wake 3)
      else
        canStore ((((s.bump (CAN_SPFULL c.val)).canEvt c canSPFULL).raise (Src.can c.val 2) c.val)) c
          ⟨w0 ||| bitW true 9 ||| bitW true 8, w1, w2, w3, stamp, data⟩
    | _ => s

/-- A protocol error (R357, R359): counted and shown, TEC and REC by ISO 11898-1:2015; `own` says the controller was
transmitting, `special` a case in which a transmitter's TEC stays or a receiver's REC rises by 8. -/
def canError (s : State) (c : Fin 4) (kind : CanErr) (dataPhase own special : Bool) : State :=
  let x := s.can c
  if x.phase = .off ∨ x.phase = .busOff ∨ x.phase = .recovering ∨ x.phase = .integrating then s
  else
    let s1 := ((s.bump (CAN_ERRCNT c.val)).canEvt c canPERR).updCan c fun x =>
      { x with lec := kind, lecSeen := true, lecData := dataPhase }
    if bitOf (canConf s c) 14 then s1
    else if own ∧ x.txBusy then
      let s2 := canAttemptEnds s1 c
      canStart (canErrorState x (s2.updCan c fun x => { x with txErr := if special then x.txErr else x.txErr + 8 }) c) c
    else canStart (canErrorState x (s1.updCan c fun x => { x with rxErr := x.rxErr + (if special then 8 else 1) }) c) c

/-- A validated frame of another node (R349, R357, R359): REC falls by one, or from above 127 to a value from 119 to 127
that the standard leaves open. -/
def canReceive (s : State) (c : Fin 4) (w0 w1 w2 : Word) (data : List Word) (sof : Nat) : State :=
  let x := s.can c
  match x.phase with
  | .off | .integrating | .busOff | .recovering => s
  | _ =>
    if bitOf w0 13 ∧ !bitOf (canConf s c) 13 then
      (if bitOf (canConf s c) 12 then (canAttemptEnds s c).updCan c fun x => { x with phase := .integrating }
       else canError s c .form false false false)
    else
      let w0' := w0 &&& 0x7C0F
      let n := canDataWords w0'
      let s1 := s.bump (CAN_RXOK c.val)
      let s2 := if bitOf (canConf s c) 14 then s1
        else if x.rxErr > 127 then (s1.updCan c fun x => { x with rxErr := 119 + s.free.toNat % 9 }).usedFree
        else s1.updCan c fun x => { x with rxErr := x.rxErr - 1 }
      let s3 := canSort s2 c w0' (w1 &&& 0x1FFF) w2 ((data ++ List.replicate n 0).take n) (canStamp s (min sof s.now))
      canStart (canErrorState x s3 c) c

/-- The head frame has been sent (R345, R355, R356): `delay` is the loop delay measured on a frame with bit rate switch, and one above
1,023 ns is a bit error in the data phase. -/
def canSent (s : State) (c : Fin 4) (sof delay : Nat) : State :=
  let x := s.can c
  match x.tx with
  | [] => s
  | h :: t =>
    if !x.txBusy then s
    else
      let tdc := bitOf ((x.conf[6]?).getD 0) 15 && bitOf h.w0 12
      let s1 := if tdc then s.setReg (CAN_TDCV c.val) (wd (min delay 1023)) else s
      if tdc ∧ delay > 1023 then canError s1 c .tdc true true false else
      let s2 := s1.updCan c fun x => { x with tx := t, txBusy := false, flushHead := false, txErr := x.txErr - 1 }
      let s3 := ((s2.bump (CAN_TXOK c.val)).canEvt c canTXDONE)
      let s4 := if t.isEmpty then s3.canEvt c canTXEMPTY else s3
      let e : CanEntry := ⟨(h.w0 &&& 0x7FFF) ||| bitW true 6, h.w1, h.w2, h.w3, canStamp s (min sof s.now), []⟩
      let s5 := if !bitOf h.w0 15 then s4
        else if s.bit (CAN_CTRL c.val) 8 then s4.updCan c fun x => { x with fwd := x.fwd ++ [e] }
        else canStore s4 c e
      canStart (canErrorState x s5 c) c

/-- A transmit record that R348 refuses. -/
def canRefused (s : State) (c : Fin 4) (r : CanTx) : Bool :=
  decide (r.data.length ≠ canDataWords r.w0) || (bitOf r.w0 13 && bitOf r.w0 11) || (bitOf r.w0 12 && !bitOf r.w0 13) ||
  (bitOf r.w0 13 && !s.bit (CAN_CTRL c.val) 13) || (!bitOf r.w0 14 && decide (ident r.w1 r.w2 > 0x7FF)) ||
  decide (fld r.w0 10 4 ≠ 0) || decide (fld r.w1 15 13 ≠ 0)

/-- A record is pushed into the transmit FIFO, or refused (R348, R354). -/
def canPush (s : State) (c : Fin 4) (r : CanTx) : State :=
  let full := decide ((s.can c).tx.length ≥ 32)
  if full || canRefused s c r then
    let s1 := if full then s.canEvt c canTXFULL else s
    ((s1.bump (CAN_TXREF c.val)).canEvt c canTXREF).raise (Src.can c.val 0) c.val
  else
    let s1 := s.updCan c fun x => { x with tx := x.tx ++ [r] }
    if (s.can c).txBusy then s1 else if (s.can c).tx.isEmpty then canStart s1 c else s1

/-- The record a DATA frame carries to port 7 (R347, R354). -/
def recordOf (p : List Word) : CanTx := ⟨wAt p 0, wAt p 1, wAt p 2, wAt p 3, p.drop 4⟩

/-- TXFLUSH (R355). -/
def canFlush (s : State) (c : Fin 4) : State :=
  let x := s.can c
  if x.txBusy then s.updCan c fun x => { x with tx := x.tx.take 1, flushHead := true }
  else if x.tx.isEmpty then s
  else (s.updCan c fun x => { x with tx := [] }).canEvt c canTXEMPTY

/-- RECOVER (R358). -/
def canRecover (s : State) (c : Fin 4) : State :=
  if (s.can c).phase = .busOff then s.updCan c fun x => { x with phase := .recovering, waitRec := false, recSeq := 0 } else s

/-- A write to CAN_CMD (R364). -/
def canCmd (s : State) (c : Fin 4) (v : Word) : State :=
  let s1 := if bitOf v 15 then canFlush s c else s
  if bitOf v 14 then canRecover s1 c else s1

/-- Recovery has ended (R358). -/
def canRecovered (s : State) (c : Fin 4) : State :=
  if (s.can c).phase ≠ .recovering then s
  else
    let s1 := s.updCan c fun x => { x with phase := .active, txErr := 0, rxErr := 0, recSeq := 128, waitRec := false }
    canStart (s1.canEvt c canBOFFEND) c

/-- What a pop gives a path (R352): word 0, with words 1-7 latched and the data words in the data port. -/
def canLatch (s : State) (path : Path) (c : Fin 4) (e : CanEntry) : State :=
  let ws := [e.w1, e.w2, e.w3] ++ e.stamp
  let s1 := latchRegs s path ((List.range 7).map fun i => (CAN_RX_W c.val i, wAt ws i))
  s1.updCan c fun x => { x with dataPort := x.dataPort.set path.code e.data (by cases path <;> decide) }

/-- A read of CAN_RX_POP or, for `spot`, of CAN_SP_POP (R352, R353); of an empty buffer word 0 says EMPTY and all else is 0
(R347). A quiet read latches and pops nothing (R510). -/
def canPop (s : State) (path : Path) (c : Fin 4) (spot : Bool) : Word × State :=
  let x := s.can c
  let q := if spot then x.spot else x.rx
  let empty : Word × State := (0x8000, canLatch s path c ⟨0, 0, 0, 0, [], []⟩)
  if s.bit (CAN_CTRL c.val) 8 && !quiet s path then empty
  else match q with
    | [] => empty
    | e :: t =>
      let s1 := if quiet s path then s else s.updCan c fun x => if spot then { x with spot := t } else { x with rx := t }
      (e.w0, canLatch s1 path c e)

/-- A read of CAN_RX_DATA (R352). -/
def canData (s : State) (path : Path) (c : Fin 4) : Word × State :=
  match (s.can c).dataPort.toList[path.code]? with
  | some (w :: t) =>
    (w, if quiet s path then s
        else s.updCan c fun x => { x with dataPort := x.dataPort.set path.code t (by cases path <;> decide) })
  | _ => (0, s)

/-- A write to CAN_TX_DATA (R354). -/
def canTxData (s : State) (path : Path) (c : Fin 4) (v : Word) : State :=
  let old := ((s.can c).txData.toList[path.code]?).getD []
  s.updCan c fun x => { x with txData := x.txData.set path.code (old ++ [v]) (by cases path <;> decide) }

/-- A write to CAN_TX_PUSH (R354): the staged record is pushed and the staging cleared. -/
def canTxPush (s : State) (path : Path) (c : Fin 4) : State :=
  let w (i : Nat) : Word := s.regSel (CAN_TX_W c.val i) path.code
  let r : CanTx := ⟨w 0, w 1, w 2, w 3, ((s.can c).txData.toList[path.code]?).getD []⟩
  let s1 := canPush s c r
  let s2 := s1.updCan c fun x => { x with txData := x.txData.set path.code [] (by cases path <;> decide) }
  (List.range 4).foldl (fun s i => s.setRegSel (CAN_TX_W c.val i) path.code 0) s2

/-- The CAN service sends an entry (R353): spotlight entries first, then transmit entries handed to it, then the FIFO; while
port 7 is back-pressured the entry stays. R14 names no message by which it crosses the barrier: it crosses while messages pass
(notes/assumptions/139.md). -/
def canForward (s : State) (c : Fin 4) : State :=
  let x := s.can c
  let sub := s.reg (CAN_FWD_SUB c.val)
  let send (cls : Nat) (e : CanEntry) (rest : CanCtl) : State :=
    let f := Frame.mk' cls 2 (fld sub 7 0) (s.reg (CAN_FWD_DST c.val)) s.srcWord 0 e.words
    if accepts s 7 0 f then switchInput (s.updCan c fun _ => rest) 7 0 f none 0 else switchInput s 7 0 f none 0
  if !s.bit (CAN_CTRL c.val) 8 || decide (s.fab.node = 0) || !barPasses (s.bdir .fh) || !barPasses (s.bdir .hf) then s
  else match x.spot with
    | e :: t => send (if bitOf sub 13 && decide (e.words.length ≤ 32) then 0 else 1) e { x with spot := t }
    | [] => match x.fwd with
      | e :: t => send (fld sub 15 14) e { x with fwd := t }
      | [] => match x.rx with
        | e :: t => send (fld sub 15 14) e { x with rx := t }
        | [] => s

/-! The rows. -/

/-- Row CAN_ENABLE (R343, R346). -/
def execCanEnable (c : Fin 4) (t : Nat) (s : State) : Out :=
  let s1 := s.at t
  done (if s1.bit (CAN_CTRL c.val) 15 then s1 else canEnable (s1.putBit (CAN_CTRL c.val) 15 true) c)

/-- Row CAN_DISABLE (R346). -/
def execCanDisable (c : Fin 4) (t : Nat) (s : State) : Out :=
  let s1 := s.at t
  done (if s1.bit (CAN_CTRL c.val) 15 then canDisable (s1.putBit (CAN_CTRL c.val) 15 false) c else s1)

/-- Row CAN_INTEGRATED (R346, R361). -/
def execCanIntegrated (c : Fin 4) (t : Nat) (s : State) : Out := done (canIntegrated (s.at t) c)

/-- Row CAN_FRAME_RECEIVE (R347-R351, R357, R359, R360): words 0-2 as the bus gave them, the data words, the instant of
SOF. -/
def execCanFrameReceive (c : Fin 4) (w0 w1 w2 : Word) (data : List Word) (sof t : Nat) (s : State) : Out :=
  done (canReceive (s.at t) c w0 w1 w2 data sof)

/-- Row CAN_FRAME_SENT (R345, R355, R356, R360): the instant of SOF and the measured loop delay in ns. -/
def execCanFrameSent (c : Fin 4) (sof delay t : Nat) (s : State) : Out := done (canSent (s.at t) c sof delay)

/-- Row CAN_ARBITRATION_LOST (R355). -/
def execCanArbitrationLost (c : Fin 4) (t : Nat) (s : State) : Out := done (canAttemptEnds (s.at t) c)

/-- Row CAN_PROTOCOL_ERROR (R357, R359). -/
def execCanProtocolError (c : Fin 4) (kind : CanErr) (dataPhase own special : Bool) (t : Nat) (s : State) : Out :=
  done (canError (s.at t) c kind dataPhase own special)

/-- Row CAN_RECOVERY_DONE (R358). -/
def execCanRecoveryDone (c : Fin 4) (t : Nat) (s : State) : Out := done (canRecovered (s.at t) c)

/-- Row TXFLUSH (R355). -/
def execTxflush (c : Fin 4) (t : Nat) (s : State) : Out := done (canFlush (s.at t) c)

/-- Row RECOVER (R358). -/
def execRecover (c : Fin 4) (t : Nat) (s : State) : Out := done (canRecover (s.at t) c)

/-- Row CAN_TX_PUSH (R223, R348, R354). -/
def execCanTxPush (path : Path) (c : Fin 4) (t : Nat) (s : State) : Out :=
  done ((s.at t).throughLock path (CAN_TX_PUSH c.val) (some 0) fun s => canTxPush s path c)

/-- Row CAN_TX_DATA (R354). -/
def execCanTxData (path : Path) (c : Fin 4) (v : Word) (t : Nat) (s : State) : Out :=
  done ((s.at t).throughLock path (CAN_TX_DATA c.val) (some v) fun s => canTxData s path c v)

/-- Row CAN_RX_POP (R352). -/
def execCanRxPop (path : Path) (c : Fin 4) (t : Nat) (s : State) : Out :=
  done ((s.at t).throughLock path (CAN_RX_POP c.val) none fun s => (canPop s path c false).2)

/-- Row CAN_SP_POP (R352). -/
def execCanSpPop (path : Path) (c : Fin 4) (t : Nat) (s : State) : Out :=
  done ((s.at t).throughLock path (CAN_SP_POP c.val) none fun s => (canPop s path c true).2)

/-- Row CAN_RX_DATA (R352). -/
def execCanRxData (path : Path) (c : Fin 4) (t : Nat) (s : State) : Out :=
  done ((s.at t).throughLock path (CAN_RX_DATA c.val) none fun s => (canData s path c).2)

/-- Row CAN_FORWARD (R353). -/
def execCanForward (c : Fin 4) (t : Nat) (s : State) : Out := done (canForward (s.at t) c)

/-! What the CAN block shows (R364). -/

/-- CAN_STAT; the sequences a recovery under way has counted are the bus's, a free value of 0-127 (notes/assumptions/141.md). -/
def canStat (s : State) (c : Fin 4) : Word :=
  let x := s.can c
  let seq := if x.phase = .recovering then s.free.toNat % 128 else x.recSeq
  putFld x.phase.code 15 13 ||| bitW x.txBusy 12 ||| bitW x.cfgErr 11 ||| bitW (!x.spot.isEmpty) 10 ||| bitW (!x.rx.isEmpty) 9 |||
  bitW x.waitRec 8 ||| putFld seq 7 0
def canErrc (s : State) (c : Fin 4) : Word := putFld (min 255 (s.can c).txErr) 15 8 ||| putFld (min 128 (s.can c).rxErr) 7 0
def canRxLvl (s : State) (c : Fin 4) : Word := putFld (s.can c).spot.length 10 8 ||| putFld (s.can c).rx.length 6 0
def canTxLvl (s : State) (c : Fin 4) : Word := putFld (s.can c).tx.length 5 0
def canLec (s : State) (c : Fin 4) : Word :=
  let x := s.can c
  if x.lecSeen then bitW x.lecData 3 ||| putFld x.lec.code 2 0 else 0

end Sys2Proof.Machine
end

