-- ==== Sys2Proof/Machine/Switch.lean ====
section
/-! DEFINITION. The outputs of the switch (R160-R168), the comparators (R402) and the switch's own sweeps (R166-R168). -/

namespace Sys2Proof.Machine

/-- LU_EVT bits (R415). -/
abbrev luSWO : Nat := 15
abbrev luSWAP : Nat := 14
abbrev luSWAPCOLL : Nat := 13
abbrev luSWAPREF : Nat := 12
abbrev luMISM : Nat := 11
abbrev luEQ : Nat := 10
abbrev luNOCORE : Nat := 9
abbrev luRSYNC_OK : Nat := 8
abbrev luRSYNC_FAIL : Nat := 7
abbrev luDEMOTE : Nat := 6
abbrev luREJLIM : Nat := 5
abbrev luMWARN : Nat := 4
abbrev luMCRIT : Nat := 3

/-- The output stages compare (R402): LU_CTRL.CMP_EN is 1, one core holds 12 and the other 8. -/
def comparing (s : State) : Bool :=
  s.bit LU_CTRL 13 &&
  ((decide ((s.core .c0).claim = .c12) && decide ((s.core .c1).claim = .c8)) ||
   (decide ((s.core .c1).claim = .c12) && decide ((s.core .c0).claim = .c8)))

/-- The stages of R402, with the register that counts each: 0 ring, 1 field, 2 Ethernet (notes/assumptions/18.md). -/
def mismReg (stage : Nat) : Nat := match stage with | 0 => LU_MISM_R | 1 => LU_MISM_F | _ => LU_MISM_E

/-- A unit differs or lacks its counterpart (R402, R412). -/
def mismatch (s : State) (stage : Nat) : State :=
  (((s.bump (mismReg stage)).evt LU_EVT luMISM).updLead fun l => { l with mismSince := true }).raise Src.comparator stage

/-- A unit of the lead goes out (R402): the understudy's agrees, differs, or has not come yet. -/
def compare (s : State) (stage : Nat) (agree : Option Bool) : State :=
  if !comparing s then s
  else
    let s1 := s.updSw fun w => { w with compares := w.compares.filter fun u => decide (u.stage ≠ stage) }
    match agree with
    | some true => s1
    | some false => mismatch s1 stage
    | none => s1.updSw fun w => { w with compares := w.compares ++ [⟨stage, s.now⟩] }

/-- An envelope (R473). Its items are preceded by their lengths. -/
def envelope (kind : Nat) (seq : Word) (items : List (List Word)) : List Word :=
  let body := items.foldr (fun it acc => wd (it.length + 1) :: it ++ acc) []
  [putFld 1 15 12 ||| putFld kind 11 8, seq, wd (4 + body.length), wd items.length] ++ body

/-- The switch port of an uplink (R160), and whether the uplink works: its link is up, it is enabled and no reaction holds it
(R419, R492). -/
def uplinkPort (u : Uplink) : Fin 20 := match u with | .ten => 2 | .one => 3
def uplinkOn (s : State) (u : Uplink) : Bool := !portOff s (uplinkPort u)

/-- The transmitter of an uplink sends an Ethernet frame, claim-gated (R399, R471). -/
def ethSend (s : State) (u : Uplink) (f : EthFrame) : State :=
  if s.accepted.isSome && uplinkOn s u then
    s.updHost fun h => { h with ups := vupd h.ups u.ix fun x => { x with sent := f :: x.sent } }
  else s

/-- A received PAUSE holds the transmitter no longer (R471). -/
def unpaused (s : State) (u : Uplink) : Bool := decide ((vget s.host.ups u.ix).pausedTo ≤ s.now)

/-- The request a TXN frame carries, for the bridge's buffers (R204, R205); a response has its status in `set`. -/
def waitingOf (f : Frame) : Waiting :=
  let x := txnFields f.payload
  let rsp := decide (x.op = .rsp)
  let w0 := wAt f.payload 0
  ⟨x.op, { src := ⟨f.sring, f.snode, f.sub % 32⟩, tag := f.tag, seq := x.seq, cls := f.cls, burst := x.burst, len := x.len
           cg := x.cg, cell := x.cell, addr := x.addr, set := if rsp then fld w0 5 0 else x.set, cycle := x.cycle
           data := if rsp then f.payload.drop 2 else x.data }⟩

/-- A RELAY envelope of a frame that crosses the joining uplink (R197, R476). -/
def relayOut (s : State) (u : Uplink) (f : Frame) : State :=
  (ethSend s u ⟨none, [], none, s.reg HST_ETYPE, envelope 3 s.free [if f.type = 3 then f.payload else f.words]⟩).usedFree

/-- The unit behind an output can take the frame now: a CAN controller while its transmit FIFO has room (R354), a conduit
whose earlier words have gone (R247), the bridge's buffers while they have room (R216). -/
def unitReady (s : State) (p : Fin 20) (f : Frame) : Bool :=
  match p.val with
  | 2 => unpaused s .ten
  | 3 => unpaused s .one
  | 6 => decide (f.type ≠ 0) || decide (frameOp f = .rsp) ||
    decide ((s.brg.waiting.filter fun w => decide (w.op ≠ .rsp) && decide (txnKind w.op = txnKind (frameOp f))).length <
      txnLimit (txnKind (frameOp f)))
  | 7 => match place? 4 (f.sub / 16 - 12) with
    | none => true
    | some c => decide ((s.can c).tx.length < 32)
  | k => match place? 12 (k - 8), place? 16 (f.sub % 16) with
    | some n, some q => decide (k < 8) || (s.conduit n q).hubIn.isEmpty
    | _, _ => true

/-- A DATA frame reaches its conduit (R249). -/
def conduitFrameIn (s : State) (n : Fin 12) (q : Fin 16) (f : Frame) : State :=
  match conduitCfg (s.cl n) q with
  | some (false, _) => conduitDeliver s n q ([f.w0, f.w1, f.w2, f.w3] ++ f.payload)
  | _ => ((s.bump (CLU_CDT_DROP n.val)).cluEvt n cluCDT_DROP).cluRaise n 5 q.val

/-- The unit behind an output takes a frame (R160). -/
def unitTakes (s : State) (p : Fin 20) (f : Frame) : State :=
  match p.val with
  | 2 => relayOut s .ten f
  | 3 => relayOut s .one f
  | 4 | 5 => s
  | 6 =>
    if f.type ≠ 0 then s
    else if frameOp f = .rsp then s.updBrg fun b => { b with waiting := b.waiting ++ [waitingOf f] }
    else receiveRequest sendResponse s (waitingOf f)
  | 7 => match place? 4 (f.sub / 16 - 12) with
    | none => s
    | some c => canPush s c (recordOf f.payload)
  | k => match place? 12 (k - 8), place? 16 (f.sub % 16) with
    | some n, some q => conduitFrameIn s n q f
    | _, _ => s

/-- A posted request or signal has left by an uplink (R218). -/
def goneOut (s : State) (e : QEntry) : State :=
  match e.origin with
  | none => s
  | some o => match place? 32 o.ep with
    | none => s
    | some i => if (TxnOp.ofCode o.op).posted then releaseSigs (postedGone s o.ep e.frame.w1) i else s

/-- An output other than the ring ports sends its next frame (R161, R162, R168). -/
def unitOutput (s0 : State) (p : Fin 20) (single double : Bool) : State :=
  let s := dropAged s0 p
  match serveClass s p with
  | none => s
  | some cls => match s.queue p cls with
    | [] => s
    | e :: _ =>
      if portOff s p || !unitReady s p e.frame then s
      else match eccCheck s p e single double with
        | (none, s1) => recut (s1.updQueue p cls fun q => q.drop 1)
        | (some _, s1) => unitTakes (sample (goneOut (popQueue s1 p e) e) true p e.frame) p e.frame

/-- Row SWITCH_INPUT (R142, R160, R163): a frame of a requester's endpoint `ep` at input i. -/
def execSwitchInput (i : Fin 20) (ep : Fin 32) (f : Frame) (t : Nat) (s : State) : Out :=
  done (switchInput (s.at t) i ep.val { f with crcOk := true } none 0)

/-- Row INPUT_RESUME (R163). -/
def execInputResume (i : Fin 20) (t : Nat) (s : State) : Out := done (inputResume (s.at t) i)

/-- Row SWITCH_OUTPUT (R160-R162, R168, R402): the ECC state of the frame's cells and what the comparator sees. -/
def execSwitchOutput (p : Fin 20) (single double : Bool) (agree : Option Bool) (t : Nat) (s : State) : Out :=
  let s1 := s.at t
  done (match p.val with
    | 0 => compare (frameInsert s1 .a single double) 0 agree
    | 1 => compare (frameInsert s1 .b single double) 0 agree
    | 2 | 3 => compare (unitOutput s1 p single double) 2 agree
    | _ => unitOutput s1 p single double)

/-- Row COMPARE_TIMEOUT (R402): the unit that has waited longest has no counterpart. -/
def execCompareTimeout (t : Nat) (s : State) : Out :=
  let s1 := s.at t
  done (match s1.sw.compares with
    | [] => s1
    | u :: rest => mismatch (s1.updSw fun w => { w with compares := rest }) u.stage)

/-- Aged frames anywhere in the switch are retired (R168). -/
def ageSweep (s : State) : State :=
  recut (s.each (List.finRange 20) fun s p => s.each (List.range 4) fun s c =>
    let q := s.queue p c
    retireAll (s.updQueue p c fun _ => q.filter fun e => !aged s e) (q.filter (aged s)) .aged p.val)

/-- Row AGE_SWEEP (R168). -/
def execAgeSweep (t : Nat) (s : State) : Out := done (ageSweep (s.at t))

/-- Row REPIN (R166, R219). -/
def execRepin (r : Ring) (t : Nat) (s : State) : Out := done (repinRing (s.at t) r)

/-- A re-pinned flow has been idle for 4 cycles, or 64 cycles have passed since the END notice (R166). -/
def mayReturn (s : State) (f : Flow) : Bool :=
  match f.endCycle with
  | none => false
  | some c =>
    f.repinned &&
    (decide ((s.present - c).toNat ≥ 64) ||
     (decide ((s.present - f.lastCycle).toNat ≥ 4) &&
      !((s.queue (ringPort f.ring) f.cls).any fun e => decide (e.frame.w1 = f.dest) &&
        (match e.origin with | none => decide (f.ep = 0) | some o => decide (o.ep = f.ep)))))

/-- Row REPIN_RETURN (R166): such flows take their choice of R165 anew. -/
def execRepinReturn (t : Nat) (s : State) : Out :=
  let s1 := s.at t
  done (s1.updSw fun w => { w with flows := w.flows.filter fun f => !mayReturn s1 f })

/-- Row PORT_DOWN (R160, R167): port 5 goes down as the service engine halts; the others as their units do. -/
def execPortDown (p : Fin 20) (t : Nat) (s : State) : Out :=
  let s1 := s.at t
  let s2 := if p.val = 5 then s1.updSw fun w => { w with down := vset w.down p true } else s1
  done (if portOff s2 p then portFlush s2 p else s2)

/-! What the SWQ block shows (R173). -/

/-- A vector of 20 flags as two words. -/
def flags20 (f : Fin 20 → Bool) : Word × Word :=
  ((List.range 4).foldl (fun w i => w ||| (match place? 20 (16 + i) with | none => 0 | some k => bitW (f k) i)) 0,
   (List.range 16).foldl (fun w i => w ||| (match place? 20 i with | none => 0 | some k => bitW (f k) i)) 0)
def swqBp (s : State) : Word × Word := flags20 fun i => pressed s i
def swqCut (s : State) : Word × Word := flags20 fun i => vget s.sw.cut i
def swqIbuf (s : State) : Word :=
  putFld (((s.stream .a).buffer.length + 7) / 8) 15 8 ||| putFld (((s.stream .b).buffer.length + 7) / 8) 7 0
/-- DESIGN CHOICE: the fill of a transit store in units of 8 words is rounded down, where the manual rounds the insertion buffers' up and says
nothing of the stores' (R173; notes/assumptions/138.md). -/
def swqTstore (s : State) (r : Ring) : Word := if s.prompting then wd ((s.stream r).store.length / 8) else 0

end Sys2Proof.Machine
end

