-- ==== Sys2Proof/Machine/Lead.lean ====
section
/-! DEFINITION. Lead and understudy (R394-R415): claims and their history, failure, demotion and rejoin, switchover, the
planned swap, the health word and what the LU block shows. -/

namespace Sys2Proof.Machine

/-! Claims (R395, R398-R400, R415). -/

/-- A claim is not 0 or 4 (R398). -/
def claimHigh (c : Claim) : Bool := decide (8 ≤ c.value)

/-- A change of claim enters the history of 16 entries; a full history loses its oldest (R415). -/
def histAdd (e : HistEntry) (l : LeadState) : LeadState :=
  if l.hist.length < 16 then { l with hist := l.hist ++ [e] }
  else { l with hist := l.hist.tail ++ [e], histLost := true }

/-- A keeper takes a claim (R395): the history, the trace and a CLAIM message follow, and equal claims of 8 or 12 are
counted and reported (R399). -/
def setClaim (s : State) (c : Core) (new : Claim) (cause : ClaimCause) : State :=
  let old := (s.core c).claim
  if old = new then s
  else
    let s1 := (s.updCore c fun x => { x with claim := new }).updLead fun l =>
      { histAdd ⟨c, old, new, cause, s.ring⟩ l with everLead := l.everLead || decide (new = .c12) }
    let s2 := ((s1.barReady .hf .claim (.claim c new.value)).trace (coreTrace .c0) 0x14 c.ix.val (new.value / 4)).trace
      (coreTrace .c1) 0x14 c.ix.val (new.value / 4)
    let eq := decide ((s2.core .c0).claim = (s2.core .c1).claim) && claimHigh new
    let s3 := s2.updLead fun l => { l with equal := eq }
    if eq && !s.lead.equal then ((s3.bump LU_EQ).evt LU_EVT luEQ).raise Src.equalClaims 0 else s3

/-! Failure and demotion (R405). -/

/-- An update meets the failure of a core (R390): before the swap it is abandoned, after it the new slot stays in force and
the former lead counts as a failed core. -/
def updateFails (s : State) : State :=
  match s.store.upd with
  | none => s
  | some (b, k) =>
    let s1 := s.updStore fun x => { x with upd := none, staged := [], cmd := { x.cmd with state := 2 } }
    if k ≤ 3 then (s1.evt RST_EVT rstUPDFAIL).raise Src.updateAbandoned 0 else slotInForce s1 b

/-- A core leaves the role it holds: its claim goes to 0, it restarts and runs self-test. Its frames in mid-send are cut
where it was the accepted core, and a swap that was due is discarded (R405, R409, R411). -/
def demote (s : State) (c : Core) (cause : ClaimCause) : State :=
  let s1 := if s.accepted = some c then cutAndRequeue (cutAndRequeue s .a) .b else s
  let s2 := (setClaim (updateFails s1) c .c0 cause).evt LU_EVT luDEMOTE
  (s2.updCore c fun x => { x with phase := .selfTest }).updLead fun l => { l with swapDue := none, demoteAfter := false }

/-- Rejoins of a core begun within the last hour (R406). -/
def recentRejoins (s : State) (x : CoreState) : List Nat := x.rejoins.filter fun t => decide (s.now < t + 3600 * secT)
def rejMax (s : State) : Nat := s.fld LU_CTRL 11 8

/-- A rejoin begins (R405, step 1); it counts in LU_REJ_CNT. -/
def beginRejoin (s : State) (c : Core) : State :=
  (setClaim s c .c4 .rejoinStep).updCore c fun x =>
    { x with phase := .copying, rejoins := s.now :: recentRejoins s x }

/-- REJ_MAX rejoins have begun within one hour (R406): the core stays at 0. -/
def rejoinLimit (s : State) (c : Core) : State :=
  ((s.updCore c fun x => { x with phase := .idle }).evt LU_EVT luREJLIM).raiseCore c Src.rejoinLimit c.ix.val

/-- A core at 0 that has passed self-test rejoins where AUTOREJ and REJ_MAX allow it (R405, R406). -/
def mayRejoin (s : State) (c : Core) : State :=
  if rejMax s ≤ (recentRejoins s (s.core c)).length then rejoinLimit s c
  else if !s.bit LU_CTRL 15 then s.updCore c fun x => { x with phase := .idle }
  else beginRejoin s c

/-- A rejoin, or a self-test before one, has failed (R406): counted and reported, and the core tries again. -/
def rejoinFailed (s : State) (c : Core) : State :=
  let s1 := ((setClaim (updateFails s) c .c0 .rejoinFailed).bump LU_RSYNC_FAIL).evt LU_EVT luRSYNC_FAIL
  let s2 := s1.raiseCore c Src.rejoinFailed c.ix.val
  if rejMax s ≤ (recentRejoins s (s.core c)).length then rejoinLimit s2 c
  else s2.updCore c fun x => { x with phase := if s.bit LU_CTRL 15 then .selfTest else .idle }

/-! Start (R401). -/

/-- The lead has been chosen at a start: the other core rejoins, or runs self-test once more where it has failed it. -/
def startChosen (s : State) (c : Core) : State :=
  let s1 := setClaim (s.updLead fun l => { l with starting := false }) c .c12 .start
  let o := c.other
  match vget s.lead.tested o.ix with
  | some true => mayRejoin s1 o
  | some false => s1.updCore o fun x => { x with phase := .selfTest }
  | none => s1

/-- Neither core passes self-test at start (R401): the latch is set as for a GRAVE report, and each collector records. -/
def noneAtStart (s : State) : State := darkEnter (s.raise Src.noCoreAtStart 0) Src.noCoreAtStart false

/-- The result of a self-test at start (R401): core 0 leads where it passes, else core 1 where it does. -/
def startTested (s : State) (c : Core) (pass : Bool) : State :=
  let s1 := (s.updLead fun l => { l with tested := vset l.tested c.ix (some pass) }).updCore c fun x => { x with phase := .idle }
  match vget s1.lead.tested 0, vget s1.lead.tested 1 with
  | some true, _ => startChosen s1 .c0
  | some false, some true => startChosen s1 .c1
  | some false, some false => noneAtStart s1
  | _, _ => s1

/-- A core's self-test ends (R401, R405, R406). While no core has been accepted since the start R401 governs. -/
def coreTested (s : State) (c : Core) (pass : Bool) : State :=
  if (s.core c).phase ≠ .selfTest ∨ (s.core c).claim ≠ .c0 then s
  else if s.lead.starting then startTested s c pass
  else if pass then mayRejoin s c
  else rejoinFailed (s.updCore c fun x => { x with rejoins := s.now :: recentRejoins s x }) c

/-- Self-test of both cores, at a start and at an AUTO exit from the dark-node state (R401, R433). -/
def startCores (s : State) : State :=
  let s1 := setClaim (setClaim s .c0 .c0 .start) .c1 .c0 .start
  s1.updLead fun l =>
    { l with starting := true, everLead := false, tested := Vector.replicate 2 none, swapDue := none, demoteAfter := false
             cores := l.cores.map fun x => { x with phase := .selfTest } }

/-! The steps of a rejoin (R405). -/

/-- The copy is done; the core waits for a flip instant (R405). -/
def copyDone (s : State) (c : Core) : State :=
  if (s.core c).phase = .copying ∧ s.lead?.isSome then s.updCore c fun x => { x with phase := .finishing } else s

/-- Registers of which each core's collector holds its own copy (R437). -/
def coreRegs : List Nat := [FLT_EVT, FLT_NOTE, FLT_MINOR, FLT_MAJOR, FLT_GRAVE, FLT_MERGED, FLT_INJ_CNT]

/-- A core takes the fault collector's records and registers of the lead (R405). -/
def copyCollector (s : State) (from_ into : Core) : State :=
  let f := vget s.flts from_.ix
  let s1 := s.updFlt into fun x =>
    { x with log := f.log, ovf := f.ovf, nextId := f.nextId, srcs := f.srcs, handling := none, waiting := [] }
  let s2 := s1.each coreRegs fun s a => s.setRegSel a into.ix.val (s.regSel a from_.ix.val)
  s2.each (List.range 1024) fun s k => s.setRegSel FLT_SRC_CNT (2 * k + into.ix.val) (s.regSel FLT_SRC_CNT (2 * k + from_.ix.val))

/-- A core takes the lead's counters (R394, R405). -/
def copyCounters (s : State) (from_ into : Core) : State :=
  let counter (x : Nat × Word) : Bool :=
    twinCounted (x.1 / 65536) && (match regRow? (x.1 / 65536) with | none => false | some r => decide (r.rc ≠ 0))
  s.each (s.regs.filter counter) fun s x =>
    let k := x.1 % 65536 % twinSel .c1
    s.setRegSel (x.1 / 65536) (k + twinSel into) (s.regSel (x.1 / 65536) (k + twinSel from_))

/-- A core has everything of the lead and sets claim 8 (R405, steps 2 and 3). -/
def rejoinEnd (s : State) (c l : Core) : State :=
  let s1 := copyCounters (copyCollector (setClaim s c .c8 .rejoinStep) l c) l c
  (s1.updCore c fun x => { x with phase := .idle }).evt LU_EVT luRSYNC_OK

/-- The end of a rejoin at a flip instant (R405); the one of an update is row UPDATE_RESYNC_DONE (R390). -/
def rejoinFinish (s : State) (c : Core) : State :=
  match s.lead? with
  | none => s
  | some l => if (s.core c).phase ≠ .finishing ∨ l = c ∨ s.store.upd.isSome then s else rejoinEnd s c l

/-- A rejoin has not ended within LU_RSYNC_TMO (R406). -/
def rsyncTimeout (s : State) (c : Core) : State :=
  if (s.core c).phase = .copying ∨ (s.core c).phase = .finishing then rejoinFailed s c else s

/-! Switchover (R408, R409). -/

/-- The reactions of the failed lead's own record that it had still to issue become the new lead's (R436). -/
def takeReactions (s : State) (from_ into : Core) : State :=
  let w := (vget s.flts from_.ix).waiting
  let s1 := s.updFlt from_ fun f => { f with waiting := [], handling := none }
  s1.updFlt into fun f => { f with waiting := f.waiting ++ w.filter fun x => !f.waiting.contains x }

/-- The understudy sees the lead's claim at 0 and raises its own to 12 (R408). -/
def switchover (s : State) (c : Core) : State :=
  if (s.core c).claim = .c8 ∧ (s.core c.other).claim = .c0 then
    let s1 := ((setClaim s c .c12 .raise).bump LU_SWO).evt LU_EVT luSWO
    let s2 := (s1.trace (coreTrace .c0) 0x15 c.ix.val 0).trace (coreTrace .c1) 0x15 c.ix.val 0
    takeReactions ((s2.raiseCore c Src.switchover c.ix.val).updLead fun l => { l with swoCount := l.swoCount + 1 }) c.other c
  else s

/-! The planned swap (R410, R411). -/

/-- A rejoin is running. -/
def rejoining (s : State) : Bool := s.lead.cores.toList.any fun x => decide (x.phase = .copying) || decide (x.phase = .finishing)

/-- A request is refused (R410). -/
def swapRefused (s : State) (c : Core) : State := (s.evt LU_EVT luSWAPREF).raiseCore c Src.swapRefused c.ix.val

/-- A core requests a planned swap (R410, R411): two requests at one instant collide, one while a swap is due is
ignored. -/
def swapRequest (s : State) (c : Core) (cause : ClaimCause) : State :=
  let me := (s.core c).claim
  let peer := (s.core c.other).claim
  let wanted := if me = .c12 then decide (peer = .c8) else decide (me = .c8) && decide (peer = .c12)
  if s.lead.swapColl = some s.present then s
  else match s.lead.swapDue with
    | some (d, t, _) =>
      if d ≠ c ∧ t = s.now then
        let s1 := (s.bump LU_SWAP_COLL).evt LU_EVT luSWAPCOLL
        let s2 := (s1.raiseCore .c0 Src.swapCollision 0).raiseCore .c1 Src.swapCollision 1
        s2.updLead fun l => { l with swapDue := none, demoteAfter := false, swapColl := some s.present }
      else s
    | none =>
      if !wanted || rejoining s then swapRefused s c else s.updLead fun l => { l with swapDue := some (c, s.now, cause) }

/-- The lead requests a swap, on LU_CMD.SWAP or by its margin (R410). -/
def leadSwap (s : State) : State := match s.lead? with
  | none => s
  | some c => swapRequest s c .swap

/-- The three steps of a swap that is due, just after a latch instant (R410): one step of this model, since they end within
1 µs of it. A demotion of the former lead follows where it was asked for (R405). -/
def swapNow (s : State) : State :=
  match s.lead.swapDue, s.lead? with
  | some (_, _, cause), some l =>
    if (s.core l.other).claim = .c8 then
      let s1 := setClaim (setClaim (setClaim s l .c4 cause) l.other .c12 cause) l .c8 cause
      let after := s.lead.demoteAfter
      let s2 := ((s1.bump LU_SWAPS).evt LU_EVT luSWAP).updLead fun x => { x with swapDue := none, demoteAfter := false }
      if after then demote s2 l .command else s2
    else s.updLead fun x => { x with swapDue := none, demoteAfter := false }
  | _, _ => s

/-- A swap that is due takes place; the one of an update is row UPDATE_SWAP (R390). -/
def swapStep (s : State) : State :=
  match s.lead.swapDue with
  | some (_, _, .update) => if s.store.upd.isSome then s else swapNow s
  | _ => swapNow s

/-! Commands (R405, R406, R410, R415). -/

/-- LU_CMD.DEMOTE (R405): of the lead while the understudy holds 8, a planned swap first. -/
def luDemote (s : State) (c : Core) : State :=
  if (s.core c).claim = .c12 ∧ (s.core c.other).claim = .c8 ∧ !rejoining s then
    (if s.lead.swapDue.isSome then s else swapRequest s c .command).updLead fun l => { l with demoteAfter := l.swapDue.isSome }
  else if (s.core c).claim = .c0 then s
  else demote s c .command

/-- LU_CMD.REJOIN (R406): one rejoin, whatever the count, of a core at 0. -/
def luRejoin (s : State) (c : Core) : State :=
  if (s.core c).claim = .c0 ∧ s.lead?.isSome then beginRejoin s c else s

/-- LU_CMD (R415): SWAP and DEMOTE together are a DEMOTE. -/
def luCmd (s : State) (v : Word) : State :=
  let c : Core := if bitOf v 0 then .c1 else .c0
  let s1 := if bitOf v 14 then luDemote s c else if bitOf v 15 then leadSwap s else s
  if bitOf v 13 then luRejoin s1 c else s1

/-! The keepers and the comparators (R395, R396, R400). -/

/-- The field die takes a claim from a CLAIM message (R396). -/
def claimArrives (s : State) (c : Core) (value : Nat) : State :=
  s.updCore c fun x => { x with fieldClaim := Claim.ofValue value }

/-- A beat has been absent for 200 ns (R395, R405). -/
def beatLoss (s : State) (c : Core) : State :=
  let s1 := s.updCore c fun x => { x with beat := false }
  if (s.core c).claim = .c0 then s1 else demote s1 c .beatLoss

/-- No CLAIM message from a keeper for 30 µs (R396). -/
def claimMissing (s : State) (c : Core) : State :=
  (claimArrives s c 0).raise Src.claimMissing c.ix.val

/-- Equal claims of 8 or 12 that have held for 200 ns (R400). -/
def equalClaims (s : State) : State := if s.lead.equal then demote s .c1 .equal else s

/-- 2 µs with no core accepted, once a core has held 12 since the start (R400). -/
def noCore (s : State) : State :=
  if s.lead.everLead && s.accepted.isNone then (s.evt LU_EVT luNOCORE).raise Src.noCore 0 else s

/-! The claim history (R415). -/

def claimCode (c : Claim) : Nat := c.value / 4

/-- A read of LU_HIST_W0 pops an entry and latches the rest for the path. -/
def histPop (s : State) (path : Path) : Word × State :=
  match s.lead.hist with
  | [] => (bitW true 15, latchRegs s path [(LU_HIST_W1, 0), (LU_HIST_W2, 0), (LU_HIST_W3, 0)])
  | e :: t =>
    let w := bitW s.lead.histLost 14 ||| bitW (decide (e.core = .c1)) 13 ||| putFld (claimCode e.old) 12 11 |||
      putFld (claimCode e.new) 10 9 ||| putFld e.cause.code 8 5
    let ns := nsOf e.time
    let s1 := latchRegs s path [(LU_HIST_W1, wd (secOf e.time)), (LU_HIST_W2, wd (ns / 65536)), (LU_HIST_W3, wd ns)]
    (w, if quiet s path then s1 else s1.updLead fun l => { l with hist := t, histLost := false })

/-! What the LU block shows (R412, R413, R415). -/

/-- LU_STAT. -/
def luStat (s : State) : Word :=
  let phase := max (s.core .c0).phase.code (s.core .c1).phase.code
  bitW (decide ((s.core .c1).claim = .c12)) 15 ||| bitW s.accepted.isNone 14 ||| bitW s.lead.equal 13 |||
  bitW s.lead.swapDue.isSome 12 ||| putFld (s.core .c0).claim.value 11 8 ||| putFld (s.core .c1).claim.value 7 4 |||
  putFld phase 3 2

/-- A cluster has a section, and no working spare engine. -/
def noSpare (s : State) (n : Fin 12) : Bool := (s.cl n).cfg.isSome && decide (spareCount (s.cl n) = 0)

/-- LU_NOSPARE. -/
def luNoSpare (s : State) : Word := (List.finRange 12).foldl (fun w n => w ||| bitW (noSpare s n) n.val) 0

/-- LU_REJ_CNT. -/
def luRejCnt (s : State) : Word :=
  putFld (min 15 (recentRejoins s (s.core .c1)).length) 7 4 ||| putFld (min 15 (recentRejoins s (s.core .c0)).length) 3 0

/-- LU_MGN_Cn. -/
def luMgn (s : State) (c : Core) : Word := (s.core c).margin.live ++ (s.core c).margin.low

/-- LU_HW: the health word's place in the publish area (R412). -/
def luHw (s : State) : Word := match inForce s with
  | none => 0
  | some b => match b.health with
    | none => 0
    | some w => bitW true 15 ||| putFld w 13 0

/-- A live margin is below a threshold, where a measurement has been made. -/
def belowMargin (m : Margin) (limit : Nat) : Bool := decide (m.live.toInt < (BitVec.ofNat 8 limit).toInt)

/-- Monitors below a threshold: clusters by FLD_MGN_THR, cores by LU_MGN_THR (R27, R412). -/
def anyBelow (s : State) (warn : Bool) : Bool :=
  let f (thr : Word) : Nat := if warn then fld thr 15 8 else fld thr 7 0
  s.margins.toList.any (fun m => belowMargin m (f (s.reg FLD_MGN_THR))) ||
  s.lead.cores.toList.any (fun x => belowMargin x.margin (f (s.reg LU_MGN_THR)))

/-- Working spares of the clusters that have a section. -/
def spareCounts (s : State) : List Nat :=
  ((List.finRange 12).filter fun n => (s.cl n).cfg.isSome).map fun n => spareCount (s.cl n)

/-- The health word (R412). -/
def healthWord (s : State) : Word :=
  let lead := s.lead?.getD .c0
  let fewest := (spareCounts s).foldl min 15
  bitW (decide (lead = .c1)) 15 ||| putFld (min 2 (claimCode (s.core lead.other).claim)) 14 13 ||| bitW (anyBelow s true) 12 |||
  bitW (anyBelow s false) 11 ||| bitW s.lead.mismSince 10 ||| bitW s.lead.migSince 9 |||
  bitW ((spareCounts s).any fun k => decide (k = 0)) 8 ||| putFld s.lead.swoCount 7 4 ||| putFld fewest 3 0

/-- HEALTH_WORD: at a flip instant the word is placed in the send bank (R412). -/
def placeHealth (s : State) : State :=
  match inForce s with
  | none => s
  | some b => match b.health with
    | none => s
    | some w =>
      let v := healthWord s
      let s1 := (s.setWord (pubBase (!s.cue.fill) + 2 * w) v).setReg LU_HW_LAST v
      s1.updLead fun l => { l with mismSince := false, migSince := false }

/-- The pattern of TALLY_R (R413): 0 off, 1 4 Hz, 2 1 Hz, 3 steady, 4 locate. -/
def tallyR (s : State) : Nat :=
  let roles := claimHigh (s.core .c0).claim && claimHigh (s.core .c1).claim
  let warn := s.lead.cores.toList.any fun x => belowMargin x.margin (s.fld LU_MGN_THR 15 8)
  if s.start.hostReset then 0
  else if s.bit LU_TALLY 15 then 4
  else if s.dark.dark || s.store.base || s.accepted.isNone then 1
  else if !roles || warn then 2
  else 3

/-- Clusters with a section, and pins of theirs that are driven. -/
def sectioned (s : State) : List (Fin 12) := (List.finRange 12).filter fun n => (s.cl n).cfg.isSome

/-- The pattern of TALLY_F (R413); where no row of its table holds, a free value (notes/assumptions/38.md). -/
def tallyF (s : State) : Nat :=
  let ranks := s.pins.toList.map (·.rank)
  let shed (n : Fin 12) : Bool := (s.cl n).engines.toList.any fun x => decide (x.run = .shed)
  let warn := s.margins.toList.any fun m => belowMargin m (s.fld FLD_MGN_THR 15 8)
  if s.start.fieldReset || s.start.hostReset then 0
  else if s.bit LU_TALLY 15 then 4
  else if (sectioned s).any (fun n => !(s.cl n).online) || ranks.any (fun r => decide (r = 6) || decide (r = 7)) then 1
  else if (sectioned s).any (fun n => noSpare s n || shed n) || warn then 2
  else if ranks.all fun r => decide (r = 9) then 3
  else fld s.free 2 0

/-- LU_TALLY. -/
def luTally (s : State) : Word := (s.reg LU_TALLY &&& bitW true 15) ||| putFld (tallyR s) 14 12 ||| putFld (tallyF s) 11 9

/-! The rows. -/

/-- Row CLAIM_BEAT (R395): a core's beat reaches its keeper. -/
def execClaimBeat (c : Core) (t : Nat) (s : State) : Out := done ((s.at t).updCore c fun x => { x with beat := true })

/-- Row BEAT_LOSS (R395, R405, R408). -/
def execBeatLoss (c : Core) (t : Nat) (s : State) : Out := done (beatLoss (s.at t) c)

/-- Row CLAIM_REFRESH (R395): every 10 µs a keeper sends its claim again. -/
def execClaimRefresh (c : Core) (t : Nat) (s : State) : Out :=
  let s1 := s.at t
  done (s1.barReady .hf .claim (.claim c (s1.core c).claim.value))

/-- Row CLAIM_MISSING (R396). -/
def execClaimMissing (c : Core) (t : Nat) (s : State) : Out := done (claimMissing (s.at t) c)

/-- Row EQUAL_CLAIMS (R400). -/
def execEqualClaims (t : Nat) (s : State) : Out := done (equalClaims (s.at t))

/-- Row NO_CORE (R400). -/
def execNoCore (t : Nat) (s : State) : Out := done (noCore (s.at t))

/-- Row CORE_SELF_TEST_DONE (R401, R405, R406). -/
def execCoreSelfTestDone (c : Core) (pass : Bool) (t : Nat) (s : State) : Out := done (coreTested (s.at t) c pass)

/-- Row LU_DEMOTE (R405). -/
def execLuDemote (c : Core) (t : Nat) (s : State) : Out := done (luDemote (s.at t) c)

/-- Row LU_SWAP (R410). -/
def execLuSwap (t : Nat) (s : State) : Out := done (leadSwap (s.at t))

/-- Row LU_REJOIN (R406). -/
def execLuRejoin (c : Core) (t : Nat) (s : State) : Out := done (luRejoin (s.at t) c)

/-- Row REJOIN_COPY_DONE (R405). -/
def execRejoinCopyDone (c : Core) (t : Nat) (s : State) : Out := done (copyDone (s.at t) c)

/-- Row REJOIN_FINISH (R405). -/
def execRejoinFinish (c : Core) (t : Nat) (s : State) : Out := done (rejoinFinish (s.at t) c)

/-- Row RSYNC_TIMEOUT (R406). -/
def execRsyncTimeout (c : Core) (t : Nat) (s : State) : Out := done (rsyncTimeout (s.at t) c)

/-- Row SWITCHOVER (R408, R409). -/
def execSwitchover (c : Core) (t : Nat) (s : State) : Out := done (switchover (s.at t) c)

/-- Row SWAP_STEP (R405, R410). -/
def execSwapStep (t : Nat) (s : State) : Out := done (swapStep (s.at t))

/-- Row LU_HIST_POP (R415). -/
def execLuHistPop (path : Path) (t : Nat) (s : State) : Out :=
  done ((s.at t).throughLock path LU_HIST_W0 none fun s => (histPop s path).2)

end Sys2Proof.Machine
end

