-- ==== Sys2Proof/Machine/Debug.lean ====
section
/-! DEFINITION. The debug block (R505-R518, R523): boundary scan, halting and stepping engines, and the trace buffers. -/

namespace Sys2Proof.Machine

/-- DBG_EVT bits (R523). -/
abbrev dbgHALTED : Nat := 15
abbrev dbgBROKEN : Nat := 14
abbrev dbgBP : Nat := 13
abbrev dbgTRCFULL : Nat := 12
abbrev dbgSCAN : Nat := 11

/-! Engines (R511-R515). -/

/-- The engine that DBG_ENG_SEL of a path names. -/
def dbgEngine (s : State) (path : Path) : Option (Fin 12 × Fin 14) :=
  let w := s.regSel DBG_ENG_SEL path.code
  match place? 12 (fld w 11 8), place? 14 (fld w 3 0) with
  | some n, some e => some (n, e)
  | _, _ => none

/-- HALT (R511): deferred while the engine holds LOCK, until a stalled instruction completes, and through a migration
(R515). -/
def dbgHalt (s : State) (n : Fin 12) (e : Fin 14) : State :=
  let x := s.eng n e
  if x.run ≠ .running then s
  else if holdsLock s n e || x.stall.isSome || migStopped s n e then s.updEng n e fun x => { x with haltPending := some 1 }
  else debugHalt s n e 1

/-- FORCE (R511): a LOCK held is broken. -/
def dbgForce (s : State) (n : Fin 12) (e : Fin 14) : State :=
  if (s.eng n e).run ≠ .running then s
  else
    let s1 := if holdsLock s n e then
        (((releaseLock s n e).updCl n fun c => { c with broken := some e }).evt DBG_EVT dbgBROKEN).raise Src.lockBroken (16 * n.val + e.val)
      else s
    dbgHalt s1 n e

/-- A halted engine runs again: RESUME, or STEP for one instruction (R511, R512). -/
def dbgRun (s : State) (n : Fin 12) (e : Fin 14) (step : Bool) : State :=
  let s1 := s.updEng n e fun x => { x with run := .running, haltCause := 0, haltPending := none, stepping := step }
  let s2 := if (s1.cl n).broken = some e then s1.updCl n fun c => { c with broken := none } else s1
  s2.trace (clTrace n) 5 e.val 0

/-- RESUME. -/
def dbgResume (s : State) (n : Fin 12) (e : Fin 14) : State :=
  if (s.eng n e).run ≠ .halted then s else dbgRun s n e false

/-- The instruction at the engine's PC in its code memory; MEM_ECC where a word of it carries the mark (R265). -/
def fetchOp (s : State) (n : Fin 12) (e : Fin 14) (p : Fin 16) : Option EngOp :=
  let pc := (s.eng n e).pc.toNat
  let a (k : Nat) : Nat := codeBase n.val p.val + 2 * ((pc + k) % 4096)
  let op := engDecode (s.word (a 0)) (s.word (a 1))
  if s.marked (a 0) || (decide (op.size = 2) && s.marked (a 1)) || eccArmed s n then none else some op

/-- STEP (R511, R513): one instruction issues, a breakpoint at it apart, and the engine halts again; one that went dark or
stalled goes on with it. -/
def dbgStep (s : State) (n : Fin 12) (e : Fin 14) : State :=
  let x := s.eng n e
  if x.run ≠ .halted then s
  else
    let s1 := dbgRun s n e true
    if x.dark.isSome || x.stall.isSome then s1
    else match x.phys with
      | none => s
      | some p =>
        let s2 := s1.updEng n e fun x => { x with bpHit := true }
        let s3 := match fetchOp s2 n e p with
          | some op => engIssue s2 n e op
          | none => if canIssue s2 n e then engTrap (eccEngine s2 n e) n e trapECC 0 x.pc else s2
        s3.updEng n e fun x => if x.haltCause = 2 then x else { x with bpHit := false }

/-- CLRBRK. -/
def dbgClrbrk (s : State) (n : Fin 12) : State := s.updCl n fun c => { c with broken := none }

/-- A write to DBG_ENG_CMD through a path performs the highest command set (R523). -/
def dbgCmd (s : State) (path : Path) (v : Word) : State :=
  match dbgEngine s path with
  | none => s
  | some (n, e) =>
    if bitOf v 15 then dbgHalt s n e
    else if bitOf v 14 then dbgForce s n e
    else if bitOf v 13 then dbgStep s n e
    else if bitOf v 12 then dbgResume s n e
    else if bitOf v 11 then dbgClrbrk s n
    else s

/-- DBG_ENG_STAT (R523). -/
def dbgEngStat (s : State) (path : Path) : Word :=
  match dbgEngine s path with
  | none => 0
  | some (n, e) =>
    let x := s.eng n e
    let halted := decide (x.run = .halted)
    bitW halted 15 ||| bitW (x.haltPending.isSome && holdsLock s n e) 14 ||| bitW (s.cl n).broken.isSome 13 |||
    bitW (holdsLock s n e) 12 ||| bitW x.dark.isSome 11 ||| bitW (halted && decide (x.haltCause = 2)) 10 |||
    putFld (if halted then x.haltCause else 0) 9 8

/-- DBG_ENG_REG, read (R515). -/
def dbgRegRead (s : State) (path : Path) : Word :=
  match dbgEngine s path with
  | none => 0
  | some (n, e) =>
    let x := s.eng n e
    let k := fld (s.regSel DBG_ENG_REGSEL path.code) 4 0
    if x.run ≠ .halted then 0
    else match place? 16 k with
      | some r => vget x.regs r
      | none =>
        if k = 16 then putFld x.pc.toNat 11 0
        else if k = 17 then bitW x.z 3 ||| bitW x.n 2 ||| bitW x.c 1 ||| bitW x.v 0
        else if k = 18 then bitW x.ta 0
        else 0

/-- DBG_ENG_REG, written (R515). -/
def dbgRegWrite (s : State) (path : Path) (v : Word) : State :=
  match dbgEngine s path with
  | none => s
  | some (n, e) =>
    let k := fld (s.regSel DBG_ENG_REGSEL path.code) 4 0
    if (s.eng n e).run ≠ .halted then s
    else match place? 16 k with
      | some r => setR s n e r v
      | none => s.updEng n e fun x =>
        if k = 16 then { x with pc := v.setWidth 12 }
        else if k = 17 then { x with z := bitOf v 3, n := bitOf v 2, c := bitOf v 1, v := bitOf v 0 }
        else if k = 18 then { x with ta := bitOf v 0 }
        else x

/-! Trace (R516-R518). -/

/-- The buffer that DBG_TRC_SEL of a path names. -/
def trcSel (s : State) (path : Path) : Option (Fin 14) := place? 14 (fld (s.regSel DBG_TRC_SEL path.code) 3 0)

/-- A read of DBG_TRC_W0 (R516, R518). -/
def trcPop (s : State) (path : Path) : Word × State :=
  let rest (s : State) (v1 v2 v3 : Word) : State := latchRegs s path [(DBG_TRC_W1, v1), (DBG_TRC_W2, v2), (DBG_TRC_W3, v3)]
  match trcSel s path with
  | none => (0, s)
  | some i =>
    let b := vget s.traces i
    match b.entries with
    | [] => (bitW true 15, rest s 0 0 0)
    | e :: t =>
      let w := bitW b.ovf 14 ||| bitW e.dom 13 ||| putFld e.kind 12 8 ||| putFld e.src 7 4 ||| putFld e.detail 3 0
      let ns := nsOf e.time
      let s1 : State := if quiet s path then s
        else { s with traces := vset s.traces i ⟨t, false, b.told && !t.isEmpty⟩ }
      (w, rest s1 (wd (secOf e.time)) (wd (ns / 65536)) (wd ns))

/-- A write to DBG_TRC_CLR (R518, R523). -/
def trcClear (s : State) (v : Word) : State :=
  s.each (List.finRange 14) fun s i => if bitOf v i.val then { s with traces := vset s.traces i .init } else s

/-- DBG_TRC_LVL. -/
def trcLvl (s : State) (path : Path) : Word := match trcSel s path with
  | none => 0
  | some i => putFld (vget s.traces i).entries.length 9 0

/-! Boundary scan (R505-R507). -/

/-- A scan instruction holds balls (R507, DBG_STAT.SCAN). -/
def scanTap (i : TapInstr) : Bool := decide (i = .extest) || decide (i = .highz) || decide (i = .clamp) || decide (i = .fextest)
def scanHolds (s : State) : Bool := scanTap s.dbg.tap && s.bit DBG_CTRL 13

/-- The host chain's balls are held: the QSPI port, HUB_IRQ_N and TALLY_R do not serve (R507). -/
def hostScan (s : State) : Bool := scanHolds s && decide (s.dbg.tap ≠ .fextest)

/-- The hold begins where there was none before. -/
def scanBegins (before : Bool) (s : State) : State :=
  if scanHolds s && !before then (s.evt DBG_EVT dbgSCAN).raise Src.scanHolds 0 else s

/-- An instruction is selected (R505). -/
def tapSelect (s : State) (i : TapInstr) : State :=
  scanBegins (scanHolds s) (s.updDbg fun d => { d with tap := i })

/-- The host chain: QS_CLK, QS_SEL_N, QS_IO0-3, RESET_N, REFCLK_R, HUB_IRQ_N, TALLY_R; what a ball that the node drives
carries while it is held: its boundary cell, or nothing under HIGHZ (R506, R507). -/
def hostBall (s : State) (cell : Nat) (own : Bool) : Option Bool :=
  if !hostScan s then some own
  else if s.dbg.tap = .highz then none
  else some ((s.dbg.hostChain[cell]?).getD false)

/-- HUB_IRQ_N (R222, R507). -/
def hubIrqN (s : State) : Option Bool := hostBall s 8 (!irqAsserted s)

/-- Bits of a chain message, 16 a word (R506; their place in a message is notes/assumptions/51.md). -/
def packBits (n : Nat) (l : List Bool) : List Word :=
  (List.range ((n + 15) / 16)).map fun w => (List.range 16).foldl (fun x j => x ||| bitW ((l[16 * w + j]?).getD false) j) 0
def unpackBits (n : Nat) (ws : List Word) : List Bool := (List.range n).map fun i => bitOf (wAt ws (i / 16)) (i % 16)

/-- The levels of the field chain: FP000-FP143 and TALLY_F, lit in any pattern but off (R506). -/
def fieldLevels (s : State) : List Bool := s.pins.toList.map (·.raw) ++ [decide (tallyF s ≠ 0)]

/-- The field chain's register is sent to drive the field balls (R506). -/
def fieldDrive (s : State) (levels : List Bool) : State := s.barReady .hf .debugMsg (.chain (packBits 145 levels))

/-- A DEBUG message arrives (R506): levels at the ring die, or the register at the field die. -/
def chainArrives (s : State) (d : BarDir) (ws : List Word) : State :=
  s.updDbg fun x => match d with
    | .fh => { x with fieldShadow := unpackBits 145 ws }
    | .hf => { x with fieldChain := unpackBits 145 ws }

/-- DBG_STAT (R523). -/
def dbgStat (s : State) : Word := bitW (scanHolds s) 15 ||| putFld s.dbg.dap 14 12

/-! The rows. -/

/-- Row EXTEST (R505, R507): the levels its Update-DR leaves in the host chain. -/
def execExtest (levels : List Bool) (t : Nat) (s : State) : Out :=
  done ((tapSelect (s.at t) .extest).updDbg fun d => { d with hostChain := levels })

/-- Row IDCODE (R505). -/
def execIdcode (t : Nat) (s : State) : Out := done (tapSelect (s.at t) .idcode)

/-- Row SAMPLE_PRELOAD (R505): the levels preloaded. -/
def execSamplePreload (levels : List Bool) (t : Nat) (s : State) : Out :=
  done ((tapSelect (s.at t) .sample).updDbg fun d => { d with hostChain := levels })

/-- Row HIGHZ (R505, R507). -/
def execHighz (t : Nat) (s : State) : Out := done (tapSelect (s.at t) .highz)

/-- Row CLAMP (R505, R507). -/
def execClamp (t : Nat) (s : State) : Out := done (tapSelect (s.at t) .clamp)

/-- Row FSAMPLE (R505, R506): the levels shifted into the field chain. -/
def execFsample (levels : List Bool) (t : Nat) (s : State) : Out := done (fieldDrive (tapSelect (s.at t) .fsample) levels)

/-- Row FEXTEST (R505-R507): the levels its Update-DR leaves in the field chain; they reach the field balls by DEBUG
messages. -/
def execFextest (levels : List Bool) (t : Nat) (s : State) : Out := done (fieldDrive (tapSelect (s.at t) .fextest) levels)

/-- Row DAP (R505, R508). -/
def execDap (t : Nat) (s : State) : Out := done (tapSelect (s.at t) .dap)

/-- Row BYPASS (R505). -/
def execBypass (t : Nat) (s : State) : Out := done (tapSelect (s.at t) .bypass)

/-- Row TAP_RESET (R505). -/
def execTapReset (t : Nat) (s : State) : Out := done (tapSelect (s.at t) .idcode)

/-- Row FIELD_CHAIN_REFRESH (R506): the field die sends the levels. -/
def execFieldChainRefresh (t : Nat) (s : State) : Out :=
  let s1 := s.at t
  done (s1.barReady .fh .debugMsg (.chain (packBits 145 (fieldLevels s1))))

/-- Row DBG_HALT (R511). -/
def execDbgHalt (n : Fin 12) (e : Fin 14) (t : Nat) (s : State) : Out := done (dbgHalt (s.at t) n e)

/-- Row DBG_FORCE (R511, R512). -/
def execDbgForce (n : Fin 12) (e : Fin 14) (t : Nat) (s : State) : Out := done (dbgForce (s.at t) n e)

/-- Row DBG_STEP (R511, R513). -/
def execDbgStep (n : Fin 12) (e : Fin 14) (t : Nat) (s : State) : Out := done (dbgStep (s.at t) n e)

/-- Row DBG_RESUME (R511, R512). -/
def execDbgResume (n : Fin 12) (e : Fin 14) (t : Nat) (s : State) : Out := done (dbgResume (s.at t) n e)

/-- Row CLRBRK (R511, R512). -/
def execClrbrk (n : Fin 12) (t : Nat) (s : State) : Out := done (dbgClrbrk (s.at t) n)

/-- Row DBG_ENG_REG (R515): a write of the word, or a read. -/
def execDbgEngReg (path : Path) (write : Option Word) (t : Nat) (s : State) : Out :=
  done ((s.at t).throughLock path DBG_ENG_REG write fun s => match write with | none => s | some v => dbgRegWrite s path v)

/-- Row DBG_TRC_POP (R518, R523). -/
def execDbgTrcPop (path : Path) (t : Nat) (s : State) : Out :=
  done ((s.at t).throughLock path DBG_TRC_W0 none fun s => (trcPop s path).2)

/-- Row DBG_TRC_CLR (R518, R523): the word written. -/
def execDbgTrcClr (v : Word) (t : Nat) (s : State) : Out := done (trcClear (s.at t) v)

end Sys2Proof.Machine
end

