-- ==== Sys2Proof/Machine/Fabric.lean ====
section
/-! DEFINITION. Discovery, casting, fetching and routing (R174-R198). -/

namespace Sys2Proof.Machine

/-- FAB_EVT bits (R200). -/
abbrev fabNUMCHG : Nat := 15
abbrev fabDROP : Nat := 14
abbrev fabDUP : Nat := 13
abbrev fabRCDONE : Nat := 12
abbrev fabPARTIAL : Nat := 11
abbrev fabUNCAST : Nat := 10
abbrev fabFETCHOK : Nat := 9
abbrev fabFETCHFAIL : Nat := 8
abbrev fabROUTE : Nat := 7
abbrev fabNOROUTE : Nat := 6

def State.roll (s : State) (r : Ring) : RollRing := vget s.fab.rolls r.ix
def State.updRoll (s : State) (r : Ring) (f : RollRing → RollRing) : State :=
  s.updFab fun x => { x with rolls := vupd x.rolls r.ix f }

/-! Roll call (R180-R184). -/

/-- A roll page as the prompter sends it (R181). -/
def sendPage (s : State) (r : Ring) (p : Nat) : State :=
  let ws := [s.fab.rollNum, bitW (decide (r = .b)) 15 ||| putFld p 5 0, 0, 0] ++ List.replicate 504 0
  (noticeOn s r (Frame.mk' 1 1 0x10 (putFld s.ringNo 15 12 ||| wd 4095) s.srcWord 0 ws)).updRoll r fun x =>
    { x with page := p, sentAt := s.present }

/-- A roll call starts (R180): at the active prompter, while none runs. -/
def rollStart (s : State) : State :=
  if !s.prompting || s.fab.rolling then s
  else
    let s1 := s.updFab fun f =>
      { f with rolling := true, rollNum := f.rollNum + 1, rolls := Vector.replicate 2 ⟨0, 0, s.present, false, false⟩
               seen := [], castQueue := [], partial_ := false }
    sendPage (sendPage s1 .a 0) .b 0

/-- A roll call is due: 16 cycles after each beginning or END notice, or by FAB_RC_PER (R180). -/
def rollIsDue (s : State) : Bool :=
  s.fab.rollDue.any (reached s.present) ||
  (decide (s.reg FAB_RC_PER ≠ 0) && (match s.fab.rollClosed with
    | none => false
    | some k => decide ((s.reg FAB_RC_PER).toNat ≤ (s.present - k).toNat)))

/-- The unique ID (R178). -/
def ownUid : List Word := (List.range 4).map Config.uniqueId

/-- The entry of a node in a page of ring r (R181). -/
def ownEntry (s : State) (r : Ring) : List Word :=
  let other := match r with | .a => s.fab.hB | .b => s.fab.hA
  ownUid ++
  [putFld s.fab.node 11 0,
   bitW (haveSb s) 15 ||| bitW (match s.fab.keptW with | none => false | some k => k.placed) 14 |||
     bitW (match s.fab.keptE with | none => false | some k => k.placed) 13 ||| putFld s.fab.src 12 11,
   putFld other 11 0, if haveSb s then sbGen s else 0]

/-- A page after this node has added its hop, and its entry where its hop count lies in the page's range (R182). -/
def pageFilled (s : State) (r : Ring) (p : List Word) : Nat × List Word :=
  let h := fld (wAt p 2) 11 0 + 1
  let first := 63 * fld (wAt p 1) 5 0 + 1
  let p1 := p.set 2 (putFld h 11 0)
  if first ≤ h ∧ h < first + 63 then
    let i := 4 + 8 * (h - first)
    (h, (p1.take i ++ ownEntry s r ++ p1.drop (i + 8)).set 3 (wAt p 3 + 1))
  else (h, p1)

/-- A roll page passes this node in its ring datapath (R182, R183). It names the ring and the prompter to a node that has no tables
(notes/assumptions/134.md). -/
def rollPage (s : State) (r : Ring) (f : Frame) : State :=
  if s.prompting || s.darkPath || !(s.link r.inPort).state.carries || decide (f.type ≠ 1) || decide (f.sub ≠ 0x10) ||
      bitOf (wAt f.payload 1) 14 || decide (f.payload.length ≠ 508) then s
  else
    let (h, p) := pageFilled s r f.payload
    let s1 := s.updFab fun x =>
      { x with rollNum := wAt f.payload 0, ringHeard := some f.sring, prompterHeard := f.snode
               hA := if r = .a then h else x.hA, hB := if r = .b then h else x.hB }
    if (s.lineOf r).endOfLine then
      let q := p.set 1 ((wAt p 1 &&& 0x7FFF) ||| bitW (decide (r = .a)) 15 ||| bitW true 14)
      let g : Frame := { f with w1 := (f.w1 &&& 0xF000) ||| putFld f.snode 11 0, payload := q }
      if f.crcOk then submit s1 (ringPort r.other) ⟨g, 20, s.now, 0, none, 0⟩ else s1
    else
      let g : Frame := { f with payload := p }
      let tail : List RingWord := if f.crcOk then (toWords 2 g.crc).map .data else [.err, .err]
      let pass : Passing := ⟨6 + f.len, false, f.cls, (g.body.map fun w => some (.data w)) ++ tail.map some⟩
      if (s.stream r).open_ then s1.updStream r fun x => { x with frame := some pass } else s1

/-- What an entry of a page on ring r says of a node at hop h (R181, R185). -/
def seenOf (r : Ring) (h : Nat) (e : List Word) : Seen where
  uid := e.take 4
  node := fld (wAt e 4) 11 0
  haveSb := bitOf (wAt e 5) 15
  keepW := bitOf (wAt e 5) 14
  keepE := bitOf (wAt e 5) 13
  source := fld (wAt e 5) 12 11
  ha := match r with | .a => h | .b => 0
  hb := match r with | .a => 0 | .b => h
  gen := wAt e 7

/-- A node joins those seen; one seen on the other ring already gains its hop count. -/
def seenAdd (x : Seen) : List Seen → List Seen
  | [] => [x]
  | y :: t =>
    if y.uid = x.uid then { y with ha := max y.ha x.ha, hb := max y.hb x.hb } :: t else y :: seenAdd x t

/-- L, where every node reached on both rings gives the same (R185, R186); 0 else. -/
def loopOf (l : List Seen) : Nat :=
  match (l.filter fun x => decide (x.ha ≠ 0) && decide (x.hb ≠ 0)).map fun x => x.ha + x.hb with
  | [] => 0
  | n :: t => if t.all (· = n) then n else 0

/-- The tables' ID entry of a node, and the position entry of a position and of a number (R185). -/
def idEntry (t : CastTables) (uid : List Word) : Option CastEntry := t.entries.find? fun e => decide (e.uid = some uid)
def posEntry (t : CastTables) (p : Nat) : Option CastEntry := t.entries.find? fun e => e.uid.isNone && decide (e.pos = p)
def posOfNumber (t : CastTables) (n : Nat) : Option Nat :=
  (t.entries.find? fun e => e.uid.isNone && decide (e.node = n)).map (·.pos)

/-- p_X of the active prompter (R185). -/
def prompterPos (s : State) (t : CastTables) : Nat := if s.cue.flags.dom then t.posB else 0

/-- Hop count of a seen node on a ring, 0 where it was not reached. -/
def hopOf (x : Seen) (r : Ring) : Nat := match r with | .a => x.ha | .b => x.hb

/-- Anchors on a ring as (hop, position): the active prompter and the nodes numbered by an ID entry whose number has a
position (R186; notes/assumptions/33.md). -/
def anchors (s : State) (t : CastTables) (l : List Seen) (r : Ring) : List (Nat × Nat) :=
  let byId := l.filterMap fun x =>
    if hopOf x r = 0 then none
    else match idEntry t x.uid with
      | none => none
      | some e => (posOfNumber t e.node).map fun p => (hopOf x r, p)
  let home : List (Nat × Nat) := if loopOf l = 0 then [] else [(loopOf l, prompterPos s t)]
  [(0, prompterPos s t)] ++ byId ++ home

/-- The position k hops after a position along a ring (R185). -/
def alongRing (r : Ring) (n p k : Nat) : Nat :=
  if n = 0 then 0 else match r with | .a => (p + k) % n | .b => (p + n - k % n) % n

/-- The position of a node between two anchors that agree (R186, second case). -/
def anchoredPos (s : State) (t : CastTables) (l : List Seen) (r : Ring) (x : Seen) : Option Nat :=
  let h := hopOf x r
  let an := anchors s t l r
  let before := an.foldl (fun (b : Option (Nat × Nat)) a =>
    if a.1 ≤ h then (match b with | none => some a | some y => if y.1 < a.1 then some a else b) else b) none
  let after := an.foldl (fun (b : Option (Nat × Nat)) a =>
    if h ≤ a.1 then (match b with | none => some a | some y => if a.1 < y.1 then some a else b) else b) none
  if h = 0 then none
  else match before, after with
    | some a, some b =>
      if alongRing r t.size a.2 (b.1 - a.1) = b.2 % (max t.size 1) then some (alongRing r t.size a.2 (h - a.1)) else none
    | _, _ => none

/-- The fixed position of a node (R186). -/
def fixedPos (s : State) (t : CastTables) (l : List Seen) (x : Seen) : Option Nat :=
  let pa := alongRing .a t.size (prompterPos s t) x.ha
  let pb := alongRing .b t.size (prompterPos s t) x.hb
  if loopOf l = t.size ∧ t.size ≠ 0 ∧ x.ha ≠ 0 ∧ x.hb ≠ 0 ∧ pa = pb then some pa
  else match anchoredPos s t l .a x with
    | some p => some p
    | none => anchoredPos s t l .b x

/-- Steps 1 and 2 of R188: the number the cast list gives a node, and whether by an ID entry. -/
def castByList (s : State) (t : CastTables) (l : List Seen) (x : Seen) : Option (Nat × Bool) :=
  match idEntry t x.uid with
  | some e => some (e.node, true)
  | none => match fixedPos s t l x with
    | none => none
    | some p => (posEntry t p).map fun e => (e.node, false)

/-- The number a node keeps (R188, step 3), where steps 1 and 2 give it none. -/
def keptNumber (s : State) (t : CastTables) (l : List Seen) (x : Seen) : Nat :=
  let taken := l.any fun y => match castByList s t l y with | none => false | some g => decide (g.1 = x.node)
  let elsewhere := match posOfNumber t x.node, fixedPos s t l x with
    | some p, some q => decide (p ≠ q)
    | _, _ => false
  if taken || elsewhere then 0 else x.node

/-- The numbers of R188 before duplicates. -/
def castRaw (s : State) (t : CastTables) (l : List Seen) : List (CastOut × Bool) :=
  l.map fun x => match castByList s t l x with
    | some (n, id) => (⟨x, n, id⟩, false)
    | none => (⟨x, keptNumber s t l x, false⟩, true)

/-- Two nodes that step 3 leaves with one number both receive 0 (R188). -/
def castDedup (l : List (CastOut × Bool)) : List CastOut :=
  l.map fun x =>
    let twice := x.2 && decide (x.1.given ≠ 0) && decide ((l.filter fun y => decide (y.1.given = x.1.given)).length ≥ 2)
    if twice then { x.1 with given := 0 } else x.1

/-- Rising hop order on ring A, then by ring B for nodes reached only there (R189). -/
def castInsert (x : CastOut) : List CastOut → List CastOut
  | [] => [x]
  | y :: t =>
    let key (z : CastOut) : Nat := if z.seen.ha ≠ 0 then z.seen.ha else 100000 + z.seen.hb
    if key x < key y then x :: y :: t else y :: castInsert x t

/-- The roll call closes (R184, R188). -/
def rollClose (s : State) : State :=
  let l := s.fab.seen
  let t : CastTables := s.fab.tables.getD ⟨0, 0, 0, 0, [], [], [], false, false, 0⟩
  let raw := castRaw s t l
  let outs := castDedup raw
  let dups := (raw.zip outs).filter fun x => decide (x.1.1.given ≠ x.2.given)
  let cases := ((dups.map fun x => x.1.1.given).eraseDups).length
  let uncast := (outs.filter fun x => decide (x.given = 0)).length
  let s1 := s.updFab fun f =>
    { f with rolling := false, rollClosed := some s.present, lastSeen := l.length, uncast := uncast, loop := loopOf l
             castQueue := outs.foldr castInsert [] }
  let s2 := s1.evt FAB_EVT fabRCDONE
  let s3 := if s.fab.partial_ then (s2.evt FAB_EVT fabPARTIAL).raise Src.partialRollCall 0 else s2
  let s4 := if cases = 0 then s3 else ((s3.countSel FAB_DUP 0 cases).evt FAB_EVT fabDUP).raise Src.duplicateNumber 0
  if uncast = 0 then s4 else (s4.evt FAB_EVT fabUNCAST).raise Src.nodesUncast 0

/-- The pages of a ring have ended; the roll call closes with the second (R184). -/
def ringEnds (s : State) (r : Ring) : State :=
  let s1 := s.updRoll r fun x => { x with ended := true }
  if (s1.roll .a).ended && (s1.roll .b).ended then rollClose s1 else s1

/-- A page is missing or failed: it is sent again once, then the roll call closes partial (R184). -/
def pageFails (s : State) (r : Ring) : State :=
  let x := s.roll r
  if !s.fab.rolling || x.ended || !s.prompting then s
  else if !x.resent then
    (sendPage (s.updRoll r fun x => { x with resent := true }) r x.page).raise Src.rollPageAgain r.ix.val
  else rollClose (s.updFab fun f => { f with partial_ := true })

/-- A page comes back to the prompter, turned or not (R183, R184). -/
def pageReturn (s : State) (p : List Word) (crcOk : Bool) : State :=
  let ringB := bitOf (wAt p 1) 15
  let r : Ring := if ringB != bitOf (wAt p 1) 14 then .b else .a
  let x := s.roll r
  let n := fld (wAt p 1) 5 0
  let filled := fld (wAt p 3) 5 0
  if !s.prompting || !s.fab.rolling || x.ended then s
  else if !crcOk then pageFails s r
  else if wAt p 0 ≠ s.fab.rollNum ∨ n ≠ x.page then s
  else
    let es := (List.range 63).filterMap fun i =>
      let e := (p.drop (4 + 8 * i)).take 8
      if ofWords (e.take 4) = 0 then none else some (seenOf r (63 * n + 1 + i) e)
    let s1 := (s.updFab fun f => { f with seen := es.foldl (fun l e => seenAdd e l) f.seen }).updRoll r fun x =>
      { x with last := n, resent := false }
    if filled = 63 ∧ n < 63 then sendPage s1 r (n + 1) else ringEnds s1 r

/-! Cast notices (R189-R192). -/

/-- The payload of a cast notice (R189). -/
def castWords (s : State) (o : CastOut) (last : Bool) : List Word :=
  let n := o.seen.node
  o.seen.uid ++
  [putFld o.given 11 0, putFld o.seen.ha 11 0, putFld o.seen.hb 11 0, putFld s.fab.loop 11 0, o.seen.gen,
   bitW (decide (o.given ≠ n)) 15 ||| bitW (decide (n ≠ 0) && decide (o.given = 0)) 14 ||| bitW o.anchor 13 ||| bitW last 12]

/-- The number of the node at hop h on a ring, the active prompter at 0 (R190). -/
def nodeAtHop (s : State) (r : Ring) (h : Nat) : Nat :=
  if h = 0 then prompterNode s
  else match s.fab.dests.find? fun d => decide ((match r with | .a => d.ha | .b => d.hb) = h) with
    | none => 0
    | some d => d.node

/-- The number bound to a position (R185), or 0. -/
def numberAt (s : State) (p : Nat) : Nat :=
  match s.fab.tables with
  | none => 0
  | some t => match posEntry t p with | none => 0 | some e => e.node

/-- The neighbours' numbers and the node's own position (R185, R193; notes/assumptions/34.md). -/
def placeNode (s : State) : State :=
  let f := s.fab
  let n := match f.tables with | none => 0 | some t => t.size
  let px := match f.tables with | none => 0 | some t => prompterPos s t
  let pa := alongRing .a n px f.hA
  let pb := alongRing .b n px f.hB
  let fixed := decide (n ≠ 0) &&
    (s.prompting || decide (f.loop = n) && decide (f.hA ≠ 0) && decide (f.hB ≠ 0) && decide (pa = pb))
  let pos : Option Nat := if n = 0 then none else if s.prompting || decide (f.hA ≠ 0) then some pa else if f.hB ≠ 0 then some pb else none
  let w0 := match pos with | some p => if fixed then numberAt s (alongRing .b n p 1) else 0 | none => 0
  let e0 := match pos with | some p => if fixed then numberAt s (alongRing .a n p 1) else 0 | none => 0
  let w1 := if s.prompting then (if f.loop = 0 then 0 else nodeAtHop s .a (f.loop - 1))
    else if f.hA ≠ 0 then nodeAtHop s .a (f.hA - 1) else if f.hB ≠ 0 then nodeAtHop s .b (f.hB + 1) else 0
  let e1 := if s.prompting then nodeAtHop s .a 1
    else if f.hB ≠ 0 then nodeAtHop s .b (f.hB - 1) else if f.hA ≠ 0 then nodeAtHop s .a (f.hA + 1) else 0
  s.updFab fun x =>
    { x with pos := pos, posFixed := fixed
             west := if w0 ≠ 0 then w0 else if w1 ≠ 0 then w1 else x.west
             east := if e0 ≠ 0 then e0 else if e1 ≠ 0 then e1 else x.east }

/-- A fetch of number n asks its present source (R193): a request to the neighbour or to the active prompter. -/
def fetchAsk (s : State) : State :=
  let x := s.fab.fetch
  let target := match x.src with | 1 => s.fab.west | 2 => s.fab.east | 3 => prompterNode s | _ => 0
  if target = 0 then s
  else sendTo s 20 1 1 0x12 target [putFld x.node 11 0, putFld s.ringNo 3 0]

/-- A fetch begins with a source (R193). -/
def fetchFrom (s : State) (src node rounds : Nat) (keep : Option Port) : State :=
  fetchAsk (s.updFab fun f => { f with fetch :=
    { src := src, state := 1, rounds := rounds, frames := 0, offset := 0, words := [], node := node, keep := keep } })

/-- The node needs a stagebook (R193). -/
def fetchWanted (s : State) : Bool :=
  decide (s.fab.node ≠ 0) && (!haveSb s || (match inForce s with
    | none => true
    | some c => decide (c.cast.node ≠ s.fab.node)))

/-- A fetch begins with the west neighbour (R193), for the node's own number. -/
def fetchBegin (s : State) : State := fetchFrom s 1 s.fab.node 0 none

/-- A copy that fell due while a fetch ran is fetched once none does, while it is still to be kept (R192). -/
def keepNext (s : State) : State :=
  match s.fab.keepDue with
  | [] => s
  | (p, n) :: t =>
    if s.fab.fetch.state ≠ 0 then s
    else
      let s1 := s.updFab fun f => { f with keepDue := t }
      match p with
      | .west => if s.bit FAB_FETCH_CTRL 15 then fetchFrom s1 1 n 0 (some .west) else s1
      | .east => if s.bit FAB_FETCH_CTRL 14 then fetchFrom s1 2 n 0 (some .east) else s1

/-- The next source after a failure (R194); after the last one the node waits 1 s. The fetch of a kept copy has one source
(R192). -/
def fetchNext (s : State) : State :=
  let x := s.fab.fetch
  if x.state = 0 ∨ x.state = 3 then s
  else if x.keep.isSome then keepNext (s.updFab fun f => { f with fetch := .init })
  else if x.src < 3 then fetchFrom s (x.src + 1) x.node x.rounds none
  else
    ((s.updFab fun f => { f with fetch := { x with src := 0, state := 3, rounds := satAdd 15 x.rounds 1, frames := 0, words := [] } }).evt
      FAB_EVT fabFETCHFAIL).raise Src.fetchFailed 0

/-- A notice shows another generation for a neighbour whose stagebook is kept (R192). -/
def keepCheck (s : State) (n : Nat) (gen : Word) : State :=
  let due (bit : Nat) (who : Nat) (k : Option KeptCopy) : Bool :=
    s.bit FAB_FETCH_CTRL bit && decide (n ≠ 0) && decide (who = n) &&
    (match k with | none => true | some c => decide (c.node ≠ n) || decide (c.gen ≠ gen))
  let ask (p : Port) (l : List (Port × Nat)) : List (Port × Nat) := l.filter (fun x => decide (x.1 ≠ p)) ++ [(p, n)]
  let s1 := if due 15 s.fab.west s.fab.keptW then s.updFab fun f => { f with keepDue := ask .west f.keepDue } else s
  keepNext (if due 14 s.fab.east s.fab.keptE then s1.updFab fun f => { f with keepDue := ask .east f.keepDue } else s1)

/-- A cast notice takes effect (R189, R190): the destination table, and for this node its number to adopt. -/
def castApply (s : State) (p : List Word) : State :=
  let n := fld (wAt p 4) 11 0
  let ha := fld (wAt p 5) 11 0
  let hb := fld (wAt p 6) 11 0
  let own := decide (p.take 4 = ownUid)
  let drop := bitOf (wAt p 9) 14
  let s1 := s.updFab fun f =>
    { f with loop := fld (wAt p 7) 11 0
             dests := if n = 0 then f.dests else f.dests.filter (fun d => decide (d.node ≠ n)) ++ [⟨n, ha, hb, true⟩]
             adopt := if own then some (n, drop, bitOf (wAt p 9) 13) else f.adopt
             hA := if own then ha else f.hA, hB := if own then hb else f.hB }
  let s2 := if bitOf (wAt p 9) 12 then s1.updFab fun f =>
      { f with dests := (f.dests.filter (·.fresh)).map fun d => { d with fresh := false } }
    else s1
  keepCheck (placeNode s2) n (wAt p 8)

/-- The prompter sends the next cast notice (R189), and takes it itself. -/
def castSend (s : State) : State :=
  match s.fab.castQueue with
  | [] => s
  | o :: t =>
    if !s.prompting then s
    else
      let ws := castWords s o t.isEmpty
      castApply (broadcast (s.updFab fun f => { f with castQueue := t }) 1 0x11 ws) ws

/-- A change of the node's number (R98, R189, R191, R198). -/
def numberChange (s : State) (n : Nat) (drop anchor : Bool) : State :=
  let s1 := s.updFab fun f =>
    { f with node := n, cast := decide (n ≠ 0), src := if n = 0 then 0 else if anchor then 1 else 2 }
  let s2 := ((s1.evt FAB_EVT fabNUMCHG).bump FAB_NUMCHG).raise Src.numberChange 0
  let s3 := if drop then s2.evt FAB_EVT fabDROP else s2
  let s5 := s3.updCue fun c => { c with wing := { WingState.init with lfsr := c.wing.lfsr } }
  if s5.fab.fetch.state ≠ 0 ∧ s5.fab.fetch.keep.isNone ∧ n ≠ 0 then fetchBegin s5 else s5

/-- The number a node takes in place of one it is given: in Ramuth mode a number above 254 is refused and 0 taken (R524). -/
def cmpNumber (s : State) (n : Nat) : Nat × State :=
  if s.cmp.inpub.isSome && decide (254 < n) then
    (0, ({ s with cmp := { s.cmp with numref := true } } : State).evt CMP_EVT 14)
  else (n, s)

/-- The number of the notice is adopted at a cycle boundary (R189) and committed to the journal, changed or not (R187). -/
def numberAdopt (s : State) : State :=
  match s.fab.adopt with
  | none => s
  | some (n0, drop, anchor) =>
    let (n, s0) := cmpNumber s n0
    let s1 := s0.updFab fun f => { f with adopt := none }
    let s2 := if n ≠ s.fab.node then numberChange (jrnField s1 FAB_NODE 0 (wd n)) n drop anchor
      else (jrnField s1 FAB_NODE 0 (wd n)).updFab fun f => { f with cast := decide (n ≠ 0), src := if anchor then 1 else f.src }
    s2.updFab fun f => { f with castOk := match f.tables with | none => false | some t => decide (n ≠ 0) && decide (t.node = n) }

/-! Fetching (R193, R194). -/

/-- The words this node holds of number n's stagebook: its own slot in force, or a kept copy (R193). -/
def heldStagebook (s : State) (n : Nat) : Option (List Word) :=
  match s.store.force with
  | some b =>
    if n = s.fab.node ∧ haveSb s then
      some (s.words (slotBase b) (ofWords [s.word (slotBase b + 8), s.word (slotBase b + 10)]))
    else kept s n
  | none => kept s n
where
  kept (s : State) (n : Nat) : Option (List Word) :=
    match s.fab.keptW, s.fab.keptE with
    | some w, e => if w.node = n ∧ w.placed then some w.words else match e with
      | some k => if k.node = n ∧ k.placed then some k.words else none
      | none => none
    | none, some k => if k.node = n ∧ k.placed then some k.words else none
    | none, none => none

/-- Fetch data frames of up to 510 words in rising offset order (R193). -/
def sendData : Nat → State → Nat → Nat → List Word → State
  | 0, s, _, _, _ => s
  | k + 1, s, into, off, ws =>
    if ws.isEmpty then s
    else sendData k (sendTo s 20 3 1 0x13 into (toWords 2 off ++ ws.take 510)) into (off + 510) (ws.drop 510)

/-- The uplink that a LIBRARY envelope takes (R477; notes/assumptions/35.md). -/
def libraryUplink (s : State) : Uplink := if uplinkOn s .ten then .ten else .one

/-- A fetch request is delivered (R193, R477): the stagebook and fetch end 0, the request on to the library host, or fetch
end 1. -/
def fetchServe (s : State) (requester : Nat) (p : List Word) : State :=
  let n := fld (wAt p 0) 11 0
  match heldStagebook s n with
  | some ws => sendTo (sendData (ws.length / 510 + 1) s requester 0 ws) 20 1 1 0x14 requester ([0] ++ toWords 2 ws.length)
  | none =>
    let none_ := sendTo s 20 1 1 0x14 requester [1]
    if !s.prompting then none_
    else if s.reg HST_LIB_IP_H = 0 ∧ s.reg HST_LIB_IP_L = 0 then none_
    else
      let into : DWord × Word := (s.reg HST_LIB_IP_H ++ s.reg HST_LIB_IP_L, s.reg HST_LIB_UDP)
      ((ethSend s (libraryUplink s) ⟨none, [], some into, 0x0800, envelope 4 s.free [0x12 :: p]⟩).usedFree).updHost fun h =>
        { h with library := h.library ++ [(requester, n)] }

/-- The number of the present source (R194). -/
def fetchSource (s : State) : Nat :=
  match s.fab.fetch.src with | 1 => s.fab.west | 2 => s.fab.east | 3 => prompterNode s | _ => 0

/-- A fetch data frame (R194). -/
def fetchData (s : State) (src : Nat) (p : List Word) : State :=
  let x := s.fab.fetch
  if (x.state ≠ 1 ∧ x.state ≠ 2) ∨ src ≠ fetchSource s then s
  else
    let off := ofWords (p.take 2)
    if off ≠ x.offset then fetchNext s
    else s.updFab fun f =>
      { f with fetch := { x with state := 2, frames := satAdd 255 x.frames 1, words := x.words ++ p.drop 2
                                 offset := off + (p.length - 2) } }

/-! Routing (R195, R196). -/

/-- The exit's last notice, within 256 cycles, lists the ring (R196). -/
def exitLists (s : State) (exit ring : Nat) : Bool :=
  decide (exit ≠ 0) && s.fab.notices.any fun x =>
    decide (x.1 = exit) && bitOf x.2.1 ring && decide ((s.present - x.2.2).toNat ≤ 256)

/-- Exit in use for a ring: 1 primary, 2 alternate, 0 none (R196). -/
def exitUse (s : State) (ring : Nat) : Nat :=
  match s.fab.tables with
  | none => 0
  | some t => match t.routes.find? fun x => decide (x.1 = ring) with
    | none => 0
    | some (_, pri, alt) => if exitLists s pri ring then 1 else if exitLists s alt ring then 2 else 0

/-- Every ring takes the exit that R196 gives it; a change sets FAB_EVT.ROUTE. -/
def routeUpdate (s : State) : State :=
  s.each (List.finRange 16) fun s i =>
    let u := exitUse s i.val
    if u = vget s.fab.use i then s
    else ((s.updFab fun f => { f with use := vset f.use i u }).evt FAB_EVT fabROUTE).raise Src.exitChange i.val

/-- The joining uplink of this joint (R195). -/
def jointUplink (s : State) : Uplink := match s.fab.tables with
  | none => .ten
  | some t => if t.jointPort then .one else .ten
def isJoint (s : State) : Bool := match s.fab.tables with | none => false | some t => t.jointEn

/-- The rings this joint lists (R196). -/
def advertised (s : State) : Word :=
  match s.fab.tables with
  | none => 0
  | some t =>
    if !t.jointEn || !uplinkOn s (jointUplink s) then 0
    else
      let far : Word := match s.fab.peerRings with
        | some (w, k) => if (s.present - k).toNat ≤ 256 then w else 0
        | none => 0
      (far ||| bitW true t.jointPeer) &&& ~~~ bitW true s.ringNo

/-- A joint's route notice (R196), on its ring and across its uplink. -/
def routeSend (s : State) : State :=
  if !isJoint s || decide (s.fab.node = 0) then s
  else
    let w := advertised s
    let p := [putFld s.fab.node 11 0, w]
    let f := Frame.mk' 1 1 0x15 (putFld s.ringNo 15 12 ||| wd 4095) s.srcWord 0 p
    let s1 := submit (broadcast s 1 0x15 p) (jointPort s) ⟨f, 20, s.now, 0, none, 0⟩
    routeUpdate (s1.updFab fun x =>
      { x with sentRoute := some (w, s.present)
               notices := x.notices.filter (fun y => decide (y.1 ≠ s.fab.node)) ++ [(s.fab.node, w, s.present)] })

/-- A route notice is delivered from the ring, or received across the joining uplink (R196). -/
def routeNotice (s : State) (p : List Word) (across : Bool) : State :=
  let n := fld (wAt p 0) 11 0
  if across then s.updFab fun f => { f with peerRings := some (wAt p 1, s.present) }
  else routeUpdate (s.updFab fun f =>
    { f with notices := f.notices.filter (fun y => decide (y.1 ≠ n)) ++ [(n, wAt p 1, s.present)] })

/-! The rows. -/

/-- Row RC_START (R180, R198). -/
def execRcStart (t : Nat) (s : State) : Out := done (rollStart (s.at t))

/-- Row ROLL_CALL_DUE (R180). -/
def execRollCallDue (t : Nat) (s : State) : Out :=
  let s1 := s.at t
  done (if rollIsDue s1 && !s1.fab.rolling then rollStart (s1.updFab fun f => { f with rollDue := f.rollDue.eraseP (reached s1.present) })
    else s1)

/-- Row ROLL_PAGE (R181-R183). -/
def execRollPage (r : Ring) (f : Frame) (t : Nat) (s : State) : Out := done (rollPage (s.at t) r f)

/-- Row PAGE_RETURN (R183, R184, R188): the page's 508 words and its check. -/
def execPageReturn (payload : List Word) (crcOk : Bool) (t : Nat) (s : State) : Out := done (pageReturn (s.at t) payload crcOk)

/-- Row PAGE_TIMEOUT (R184). -/
def execPageTimeout (r : Ring) (t : Nat) (s : State) : Out := done (pageFails (s.at t) r)

/-- Row CAST_NOTICE_SEND (R189). -/
def execCastNoticeSend (t : Nat) (s : State) : Out := done (castSend (s.at t))

/-- Row CAST_NOTICE (R189, R190, R192). -/
def execCastNotice (payload : List Word) (t : Nat) (s : State) : Out := 
  done ((s.at t).delivered fun s => castApply s payload)

/-- Row NUMBER_ADOPT (R187, R189, R191, R198). -/
def execNumberAdopt (t : Nat) (s : State) : Out := done (numberAdopt (s.at t))

/-- Row FETCH_START (R193). -/
def execFetchStart (t : Nat) (s : State) : Out :=
  let s1 := s.at t
  done (if fetchWanted s1 ∧ s1.fab.fetch.state = 0 then fetchBegin s1 else keepNext s1)

/-- Row FETCH_REQUEST (R193, R477). -/
def execFetchRequest (requester : Fin 4096) (payload : List Word) (t : Nat) (s : State) : Out :=
  done ((s.at t).delivered fun s => fetchServe s requester.val payload)

/-- Row FETCH_DATA (R194). -/
def execFetchData (source : Fin 4096) (payload : List Word) (t : Nat) (s : State) : Out :=
  done ((s.at t).delivered fun s => fetchData s source.val payload)

/-- Row FETCH_TIMEOUT (R194). -/
def execFetchTimeout (t : Nat) (s : State) : Out := done (fetchNext (s.at t))

/-- Row FETCH_ROUND_WAIT (R194). -/
def execFetchRoundWait (t : Nat) (s : State) : Out :=
  let s1 := s.at t
  done (if s1.fab.fetch.state = 3 then fetchFrom s1 1 s1.fab.fetch.node s1.fab.fetch.rounds none else s1)

/-- Row FETCH_RESTART (R198, R200). -/
def execFetchRestart (t : Nat) (s : State) : Out :=
  let s1 := s.at t
  done (if s1.fab.node = 0 then s1.updFab fun f => { f with fetch := .init } else fetchBegin s1)

/-- Row ROUTE_NOTICE_SEND (R196). -/
def execRouteNoticeSend (t : Nat) (s : State) : Out := done (routeSend (s.at t))

/-- Row ROUTE_NOTICE (R196): whether it comes across the joining uplink. -/
def execRouteNotice (payload : List Word) (across : Bool) (t : Nat) (s : State) : Out :=
  done (if across then routeNotice (s.at t) payload across else (s.at t).delivered fun s => routeNotice s payload across)

/-- Row ROUTE_EXPIRE (R196). -/
def execRouteExpire (t : Nat) (s : State) : Out := done (routeUpdate (s.at t))

/-! What the FAB block shows (R200). -/

def fabStat (s : State) : Word :=
  bitW (decide (s.fab.node ≠ 0)) 15 ||| bitW (haveSb s) 14 ||| bitW (decide (s.fab.fetch.state = 1 ∨ s.fab.fetch.state = 2)) 13 |||
  bitW (isJoint s) 12 ||| putFld s.fab.src 11 10 ||| bitW s.fab.rolling 9
def fabPos (s : State) : Word := bitW s.fab.posFixed 15 ||| putFld (s.fab.pos.getD 0) 11 0
def fabRcStat (s : State) : Word :=
  putFld (if s.fab.rolling then 1 else if s.fab.castQueue.isEmpty then 0 else 2) 15 14 |||
  putFld (s.roll .a).last 13 8 ||| putFld (s.roll .b).last 5 0
def fabDest (s : State) (n : Nat) : Word × Word :=
  match destOf s n with
  | none => (0, 0)
  | some d =>
    let r := ringByHops s n
    (bitW (decide (r = .b)) 15 ||| putFld d.ha 11 0, putFld d.hb 11 0)
def fabRoute (s : State) (r : Nat) : Word × Word × Word :=
  match s.fab.tables with
  | none => (0, 0, if r = s.ringNo then putFld 3 15 14 else 0)
  | some t => match t.routes.find? fun x => decide (x.1 = r) with
    | none => (0, 0, if r = s.ringNo then putFld 3 15 14 else 0)
    | some (_, pri, alt) =>
      let use := if r = s.ringNo then 3 else match place? 16 r with | none => 0 | some i => vget s.fab.use i
      (putFld pri 11 0, putFld alt 11 0, putFld use 15 14 ||| bitW (exitLists s pri r) 13 ||| bitW (exitLists s alt r) 12)
def fabJoint (s : State) : Word :=
  match s.fab.tables with
  | none => 0
  | some t => bitW t.jointEn 15 ||| bitW t.jointPort 14 ||| bitW (t.jointEn && (vget s.host.ups (jointUplink s).ix).up) 13 |||
    putFld t.jointPeer 3 0
def fabGrp (s : State) (sel : Nat) : Word := if sel ≤ 94 then bitW (memberOf s (4000 + sel)) 15 else 0
def fabFetchStat (s : State) : Word :=
  let x := s.fab.fetch
  let src := match x.src with | 1 => 0 | 2 => 1 | 3 => 2 | _ => 3
  putFld src 15 14 ||| putFld (if x.state = 3 then 0 else x.state) 13 12 ||| putFld x.rounds 11 8 ||| putFld x.frames 7 0

end Sys2Proof.Machine
end

