-- ==== Sys2Proof/Machine/Faults.lean ====
section
/-! DEFINITION. The fault collectors (R416-R438): counting, escalation, records and merging, reactions, held states and
their exits, the dark-node latch, self-faults, injection, and what the FLT and FI blocks show. -/

namespace Sys2Proof.Machine

/-! What a collector holds for a source. -/

abbrev fltMINOR : Nat := 15
abbrev fltMAJOR : Nat := 14
abbrev fltGRAVE : Nat := 13
abbrev fltESC : Nat := 12
abbrev fltMERGE : Nat := 11
abbrev fltEXIT : Nat := 10
abbrev fltRECLIM : Nat := 9
abbrev fltLOGOVF : Nat := 8
abbrev fltINJ : Nat := 7

def State.flt (s : State) (c : Core) : Collector := vget s.flts c.ix

/-- An event bit of one core's FLT_EVT. -/
def State.fltEvt (s : State) (c : Core) (i : Nat) : State :=
  s.setRegSel FLT_EVT c.ix.val (s.regSel FLT_EVT c.ix.val ||| bitW true i)

def SrcState_init (src : Nat) : SrcState := ⟨src, [], 0, false, false, false, 0, []⟩

def srcOf (f : Collector) (src : Nat) : SrcState :=
  match f.srcs.find? fun x => decide (x.src = src) with
  | some x => x
  | none => SrcState_init src

def updSrcList (src : Nat) (g : SrcState → SrcState) : List SrcState → List SrcState
  | [] => [g (SrcState_init src)]
  | x :: t => if x.src = src then g x :: t else x :: updSrcList src g t

def State.updSrc (s : State) (c : Core) (src : Nat) (g : SrcState → SrcState) : State :=
  s.updFlt c fun f => { f with srcs := updSrcList src g f.srcs }

/-- The held-state latch of a source stands beside the dark-node latch (R428): both collectors show it. -/
def State.updHeld (s : State) (src : Nat) (g : SrcState → SrcState) : State := (s.updSrc .c0 src g).updSrc .c1 src g

/-- CLASS, ESC and REACT of a source; 0x1F8 is always GRAVE (R437, R449). -/
def srcClassNow (s : State) (src : Nat) : FltClass :=
  if src = Src.curtainFall then .grave else FltClass.ofCode (fld (s.regSel FLT_SRC_CFG src) 15 14)
def srcEscNow (s : State) (src : Nat) : FltClass := FltClass.ofCode (fld (s.regSel FLT_SRC_CFG src) 13 12)
def srcReactNow (s : State) (src : Nat) : Nat := fld (s.regSel FLT_SRC_CFG src) 11 8

def classEvt (c : FltClass) : Nat := match c with | .note => 0 | .minor => fltMINOR | .major => fltMAJOR | .grave => fltGRAVE
def classCount (c : FltClass) : Nat := match c with | .note => FLT_NOTE | .minor => FLT_MINOR | .major => FLT_MAJOR | .grave => FLT_GRAVE
def classMax (a b : FltClass) : FltClass := if a.code < b.code then b else a

/-! Reactions (R419, R420). -/

/-- What OFFLINE or PORT holds. -/
inductive Resource where
  | cluster (n : Fin 12)
  | link (p : Port)
  | port (k : Fin 20)
  | can (c : Fin 4)
  deriving DecidableEq, Repr

/-- The cluster of a cluster source (R416). -/
def srcCluster (src : Nat) : Option (Fin 12) :=
  if 0x100 ≤ src ∧ src < 0x1C0 then place? 12 ((src - 0x100) / 16)
  else if 0x200 ≤ src ∧ src < 0x2C0 then place? 12 ((src - 0x200) / 16)
  else none

/-- Switch sources whose DETAIL names a switch port (R569). -/
def portSources : List Nat := [0x040, 0x041, 0x042, 0x043, 0x044, 0x045, 0x046, 0x047, 0x048, 0x04A]

/-- The resource PORT acts on (R419): a link port, a switch port, an uplink or a CAN controller. -/
def portResource (src detail : Nat) : Option Resource :=
  if src < 0x00A then some (.link (if src % 2 = 0 then .west else .east))
  else if portSources.contains src then (place? 20 detail).map .port
  else if src = 0x0B0 ∨ src = 0x0B1 then (place? 20 (2 + src % 2)).map .port
  else if src = 0x0B2 then (place? 20 (2 + detail % 2)).map .port
  else if 0x2C0 ≤ src ∧ src < 0x2E0 then (place? 4 ((src - 0x2C0) / 8)).map .can
  else none

/-- The resource a reaction of a source holds. -/
def heldResource (src code detail : Nat) : Option Resource :=
  if code = 4 then (srcCluster src).map .cluster else if code = 5 then portResource src detail else none

/-- The resource is held: OFFLINE and PORT take effect (R271, R419, R346, R167). -/
def holdResource (s : State) (r : Resource) : State :=
  match r with
  | .cluster n => offline s n
  | .link p => portDown (s.updLink p fun l => { l with faultHeld := true }) p
  | .port k => portFlush (s.updSw fun w => { w with faultHeld := vset w.faultHeld k true }) k
  | .can c => canDisable (s.updCan c fun x => { x with faultHeld := true }) c

/-- The resource returns (R426). -/
def freeResource (s : State) (r : Resource) : State :=
  match r with
  | .cluster n => online s n
  | .link p => s.updLink p fun l => { l with faultHeld := false }
  | .port k => s.updSw fun w => { w with faultHeld := vset w.faultHeld k false }
  | .can c =>
    let s1 := s.updCan c fun x => { x with faultHeld := false }
    if s1.bit (CAN_CTRL c.val) 15 then canEnable s1 c else s1

/-- The resource a held source holds. -/
def resourceOf (x : SrcState) : Option Resource :=
  match srcCluster x.src with
  | some n => some (.cluster n)
  | none => portResource x.src x.heldDetail

/-- A reaction places its resource in the held state (R420, R425, R427, R428); one that holds already is not repeated. -/
def holdSource (s : State) (src detail : Nat) (r : Resource) : State :=
  if (srcOf (s.flt .c0) src).held then s
  else
    let power := s.bit FLT_CTRL 15 || decide (s.fld FLT_CTRL 11 8 = 0)
    holdResource (s.updHeld src fun x => { x with held := true, power := power || x.limit, heldDetail := detail }) r

/-- The logical engine that DETAIL of an engine source names (R569). -/
def detailEngine (detail : Nat) : Option (Fin 14) := place? 14 (detail % 16)

/-- The reaction applies to the source (R419); codes 6-15 act as NONE. -/
def reactApplies (src code detail : Nat) : Bool :=
  match code with
  | 1 => srcLocal src
  | 2 => true
  | 3 => srcEngine src && (detailEngine detail).isSome && (srcCluster src).isSome
  | 4 | 5 => (heldResource src code detail).isSome
  | _ => false

/-- A reaction of the collector of core c (R417, R419): on its own core whatever its role, on shared resources by the
lead's collector only. -/
def react (s : State) (c : Core) (src code detail : Nat) : State :=
  let lead := decide (s.lead? = some c)
  if !reactApplies src code detail then s
  else match code with
    | 1 => if (s.core c).claim = .c0 then s else demote s c (if src = Src.coreMarginCrit then .margin else .fault)
    | 2 =>
      let u := if (s.core c).claim = .c8 then some c else if lead && decide ((s.core c.other).claim = .c8) then some c.other else none
      match u with
      | none => s
      | some d => demote s d .fault
    | 3 => match srcCluster src, detailEngine detail with
      | some n, some e => if lead then migBegin s n e .failure else s
      | _, _ => s
    | _ => match heldResource src code detail with
      | none => s
      | some r => if lead then holdSource s src detail r else s

/-! Records and merging (R423, R424). -/

/-- A record joins the log of 32; a full log loses its oldest (R423). -/
def logAdd (s : State) (c : Core) (r : FltRecord) : State :=
  let f := s.flt c
  if f.log.length < 32 then s.updFlt c fun f => { f with log := f.log ++ [r], nextId := f.nextId + 1 }
  else (s.updFlt c fun f => { f with log := f.log.tail ++ [r], ovf := true, nextId := f.nextId + 1 }).fltEvt c fltLOGOVF

/-- A report of class MINOR or higher is recorded, or merged into the record being handled (R424). -/
def record (s : State) (c : Core) (src detail time : Nat) (cls : FltClass) (esc inj : Bool) (code : Nat) : State :=
  let f := s.flt c
  let s1 := if esc then s.fltEvt c fltESC else s
  let s2 := if inj then s1.fltEvt c fltINJ else s1
  let s3 := (s2.updSrc c src fun x => { x with last := s.now }).updFlt c fun f =>
    { f with waiting := f.waiting ++ [⟨src, cls, f.handling.isSome, code, detail⟩] }
  let s4 := if cls = .major ∨ cls = .grave then s3.updDark fun d => { d with lastMajor := s.now } else s3
  match f.handling with
  | some id =>
    let merge (r : FltRecord) : FltRecord :=
      if r.id = id then { r with merges := min 63 (r.merges + 1), lastSrc := src, cls := classMax r.cls cls } else r
    let s5 := s4.updFlt c fun f => { f with log := f.log.map merge }
    let s6 := (s5.bumpSel FLT_MERGED c.ix.val).fltEvt c fltMERGE
    if cls = .grave then s6.fltEvt c fltGRAVE else s6
  | none =>
    let s5 := (logAdd s4 c ⟨f.nextId, cls, esc, inj, src, time, 0, 0, 0, detail⟩).fltEvt c (classEvt cls)
    s5.updFlt c fun g => { g with handling := some f.nextId }

/-! A report (R418, R421, R422, R435). -/

/-- The Nth report within W, counting back from itself (R422): the times kept now, and whether it escalates. -/
def escalate (s : State) (src time : Nat) (kept : List Nat) : List Nat × Bool :=
  let n := s.regSel FLT_SRC_ESC src |>.toNat
  let w := atLeastOne (s.regSel FLT_SRC_WIN src).toNat * msT
  let times := (time :: kept).take n
  if n = 0 ∨ (srcEscNow s src).code ≤ (srcClassNow s src).code then (times, false)
  else match times[n - 1]? with
    | some t => if time ≤ t + w then ([], true) else (times, false)
    | none => (times, false)

/-- A collector receives a report: it counts, escalates, records and reacts by class (R418-R424, R430, R435). -/
def collect (s : State) (c : Core) (r : Report) : State :=
  let s1 := s.bumpSel FLT_SRC_CNT (2 * r.src + c.ix.val)
  let own := srcClassNow s r.src
  let (times, esc) := if r.dry then ((srcOf (s.flt c) r.src).times, false) else escalate s r.src r.time (srcOf (s.flt c) r.src).times
  let cls := if esc then srcEscNow s r.src else own
  let s2 := (s1.updSrc c r.src fun x => { x with times := times }).bumpSel (classCount cls) c.ix.val
  let s3 := s2.trace (coreTrace c) 0x16 c.ix.val cls.code
  match cls with
  | .note => s3
  | .minor => record s3 c r.src r.detail r.time .minor esc r.inj 0
  | .major =>
    (record s3 c r.src r.detail r.time .major esc r.inj (if r.dry then 0 else srcReactNow s r.src)).wakeReason 5
  | .grave =>
    let s4 := (record s3 c r.src r.detail r.time .grave esc r.inj 0).wakeReason 5
    if r.dry then s4 else darkEnter s4 r.src false

/-- Row COLLECTOR_REPORT: the oldest report that waits at a core's collector. -/
def collectorReport (s : State) (c : Core) : State :=
  match (s.flt c).inbox with
  | [] => s
  | r :: t => collect (s.updFlt c fun f => { f with inbox := t }) c r

/-- Handling ends (R424): merged reports have their events, and the reactions are issued in order of arrival; the first is
the record's own. -/
def handlingEnd (s : State) (c : Core) : State :=
  match (s.flt c).handling with
  | none => s
  | some id =>
    let w := (s.flt c).waiting
    let s1 := s.updFlt c fun f => { f with handling := none, waiting := [] }
    s1.each w fun s x =>
      let s2 := if x.merged then s.fltEvt c (classEvt x.cls) else s
      let issued := if reactApplies x.src x.code x.detail then x.code else 0
      let mark (r : FltRecord) : FltRecord := if r.id = id then { r with react := issued } else r
      let s3 := if x.merged then s2 else s2.updFlt c fun f => { f with log := f.log.map mark }
      if x.code = 0 then s3 else react s3 c x.src x.code x.detail

/-! Leaving a held state (R425-R428, R432, R433). -/

/-- A record of an exit, with reaction NONE, at both collectors (R426, R427). -/
def exitRecord (s : State) (src detail : Nat) (cls : FltClass) (evt : Nat) : State :=
  let one (s : State) (c : Core) : State := (record s c src detail s.ring.toNat cls false false 0).fltEvt c evt
  one (one s .c0) .c1

/-- Recoveries of a source within the last hour, of the dark-node state within the last 24 (R427). -/
def sourceRecs (s : State) (x : SrcState) : List Nat := x.recoveries.filter fun t => decide (s.now < t + 3600 * secT)
def darkRecs (s : State) : List Nat := s.dark.recoveries.filter fun t => decide (s.now < t + 86400 * secT)

/-- The last report of a source at either collector. -/
def lastReport (s : State) (src : Nat) : Nat := max (srcOf (s.flt .c0) src).last (srcOf (s.flt .c1) src).last

/-- A held source's quiet period ends (R426, R427). -/
def quietMajor (s : State) (src : Nat) : State :=
  let x := srcOf (s.flt .c0) src
  let max_ := s.fld FLT_CTRL 11 8
  if !x.held || x.power || decide (s.now < lastReport s src + atLeastOne (s.reg FLT_QUIET_M).toNat * msT) then s
  else if s.bit FLT_CTRL 15 ∨ max_ = 0 then s.updHeld src fun x => { x with power := true }
  else if (sourceRecs s x).length ≥ max_ then
    exitRecord (s.updHeld src fun x => { x with power := true, limit := true }) src x.heldDetail .major fltRECLIM
  else
    let s1 := s.updHeld src fun x => { x with held := false, recoveries := s.now :: sourceRecs s x }
    let others := ((s1.flt .c0).srcs.filter (·.held)).map resourceOf
    let s2 := match resourceOf x with
      | none => s1
      | some r => if others.contains (some r) then s1 else freeResource s1 r
    exitRecord s2 src x.heldDetail .minor fltEXIT

/-- An AUTO exit from the dark-node state begins (R433): self-test of both cores; insertion, outputs, held ports and roll
calls return in their own time. -/
def darkExit (s : State) : State :=
  let s1 := s.updDark fun d =>
    { d with dark := false, reopen := true, heldPorts := Vector.replicate 2 false
             idleRing := Vector.replicate 2 false }
  (startCores s1).traceAll 0x13

/-- The GRAVE quiet period ends (R426, R427). -/
def quietGrave (s : State) : State :=
  let d := s.dark
  let max_ := s.fld FLT_CTRL 7 4
  if !d.dark || d.power || decide (s.now < d.lastMajor + atLeastOne (s.reg FLT_QUIET_G).toNat * secT) then s
  else if s.bit FLT_CTRL 14 ∨ max_ = 0 then s.updDark fun d => { d with power := true }
  else if (darkRecs s).length ≥ max_ then
    exitRecord (s.updDark fun d => { d with power := true, recLimit := true }) d.src 0 .major fltRECLIM
  else exitRecord (darkExit (s.updDark fun d => { d with recoveries := s.now :: darkRecs s })) d.src 0 .minor fltEXIT

/-! Self-faults (R429, R435). -/

/-- A collector self-fault: parity, record ECC or state copies, or the one injection of 0x3FF causes (R429, R435). -/
def selfFault (s : State) (c : Core) (cause : Nat) : State :=
  match (s.flt c).inject with
  | some (0x3FF, _, dry) =>
    let s1 := (injectUsed Src.collectorCheck s c).updDark fun d =>
      { d with selfSet := true, selfCause := if dry then 5 else 4, selfCore := c.ix.val }
    if dry then s1 else darkEnter s1 Src.collectorCheck true
  | _ =>
    darkEnter (s.updDark fun d => { d with selfSet := true, selfCause := cause, selfCore := c.ix.val }) Src.collectorCheck true

/-! Field-side reports that waited (R417). -/

/-- The field die sends its undelivered reports once the direction carries messages again. -/
def backlogSend (s : State) : State :=
  if !barCarries (s.bdir .fh) then s
  else ({ s with backlog := [] }).each s.backlog fun s b =>
    s.barReady .fh .faultReport (.faultReport b.src b.detail b.count b.time b.inj b.dry)

/-- A FAULT_REPORT reaches both collectors, each of its reports (R417). -/
def faultArrives (s : State) (src detail count time : Nat) (inj dry : Bool) : State :=
  let r : Report := ⟨src, detail, time, inj, dry⟩
  let add (f : Collector) : Collector := { f with inbox := f.inbox ++ List.replicate count r }
  (s.updFlt .c0 add).updFlt .c1 add

/-! Injection (R434, R438). -/

/-- The field-side sources of R434. -/
def fieldSide (src : Nat) : Bool :=
  (decide (0x098 ≤ src) && decide (src ≤ 0x09F)) || decide (src = 0x0A2) || (decide (0x100 ≤ src) && decide (src ≤ 0x1FF)) ||
  (decide (0x200 ≤ src) && decide (src ≤ 0x2DF))

/-- A source FLT_INJ_SEL may name. -/
def hubSide (src : Nat) : Bool := (decide (src ≤ 0x0CF) && !fieldSide src) || decide (src = 0x3FF)

/-- A write of FLT_INJ (R434). -/
def fltInjWrite (s : State) (v : Word) : State :=
  let src := s.fld FLT_INJ_SEL 9 0
  let ok := hubSide src && srcChecker src
  let core : Core := if bitOf v 12 then .c1 else .c0
  let arm (c : Core) : Option (Nat × Bool × Bool) :=
    if bitOf v 15 && ok && (!srcLocal src || decide (c = core)) then some (src, bitOf v 14, bitOf v 13) else none
  let s1 := (s.updFlt .c0 fun f => { f with inject := arm .c0 }).updFlt .c1 fun f => { f with inject := arm .c1 }
  s1.setReg FLT_INJ ((v &&& 0x7000) ||| bitW (bitOf v 15 && ok) 15 ||| bitW (bitOf v 15 && !ok) 11)

/-- A write of FI_CTRL (R434, R438). -/
def fiCtrlWrite (s : State) (v : Word) : State :=
  let src := s.fld FI_SEL 9 0
  let ok := fieldSide src && srcChecker src
  let armed := bitOf v 15 && ok
  let s1 : State := { s with fieldInj := if armed then some (src, bitOf v 14, bitOf v 13) else none }
  let s2 := s1.setReg FI_CTRL ((v &&& 0x6000) ||| bitW armed 15)
  if bitOf v 15 then s2.setReg FI_STAT (bitW (!ok) 14) else s2

/-! What the FLT block shows (R437). -/

/-- A read of FLT_LOG_W0 pops a record and latches the rest for the path (R423, R437). -/
def fltPop (s : State) (path : Path) : Word × State :=
  let c := viewCore s path
  let f := s.flt c
  let rest (v1 v2 v3 v4 v5 : Word) : State :=
    latchRegs s path [(FLT_LOG_W1, v1), (FLT_LOG_W2, v2), (FLT_LOG_W3, v3), (FLT_LOG_W4, v4), (FLT_LOG_W5, v5)]
  match f.log with
  | [] => (bitW true 15, rest 0 0 0 0 0)
  | r :: t =>
    let w := bitW f.ovf 14 ||| putFld r.cls.code 13 12 ||| bitW r.inj 11 ||| bitW r.esc 10 ||| putFld r.src 9 0
    let ns := nsOf r.time
    let s1 := rest (putFld r.merges 15 10 ||| putFld r.lastSrc 9 0) (wd (secOf r.time)) (wd (ns / 65536)) (wd ns)
      (putFld r.react 15 12 ||| putFld r.detail 11 0)
    (w, if quiet s path then s1 else s1.updFlt c fun f => { f with log := t, ovf := false })

/-- FLT_STAT. -/
def fltStat (s : State) (c : Core) : Word :=
  let d := s.dark
  let armed := s.fieldInj.isSome || (s.flt .c0).inject.isSome || (s.flt .c1).inject.isSome
  bitW d.dark 15 ||| bitW (d.dark && d.selfSet && decide (d.selfCause ≠ 5)) 14 ||| bitW (s.flt c).handling.isSome 13 |||
  bitW d.recLimit 12 ||| bitW armed 11 ||| putFld ((s.flt c).srcs.filter (·.held)).length 9 0

/-- FLT_SRC_STAT. -/
def fltSrcStat (s : State) (c : Core) (src : Nat) : Word :=
  let x := srcOf (s.flt c) src
  let w := atLeastOne (s.regSel FLT_SRC_WIN src).toNat * msT
  let inWin := x.times.filter fun t => decide (s.ring.toNat ≤ t + w)
  bitW x.held 15 ||| bitW x.limit 14 ||| putFld (min 15 (sourceRecs s x).length) 11 8 ||| putFld (min 255 inWin.length) 7 0

/-- FLT_REC_G, FLT_LOG_LVL and FLT_SELF. -/
def fltRecG (s : State) : Word := putFld (min 15 (darkRecs s).length) 3 0
def fltLogLvl (s : State) (c : Core) : Word := putFld (s.flt c).log.length 5 0
def fltSelf (s : State) : Word := bitW s.dark.selfSet 15 ||| putFld s.dark.selfCause 14 12 ||| bitW (decide (s.dark.selfCore = 1)) 11

/-! The rows. -/

/-- Row COLLECTOR_REPORT (R418-R424, R430, R435): the oldest report that has come to the core's collector. -/
def execCollectorReport (c : Core) (t : Nat) (s : State) : Out := done (collectorReport (s.at t) c)

/-- Row HANDLING_END (R424). -/
def execHandlingEnd (c : Core) (t : Nat) (s : State) : Out := done (handlingEnd (s.at t) c)

/-- Row QUIET_PERIOD_MAJOR (R426, R427): the source. -/
def execQuietPeriodMajor (src : Fin 1024) (t : Nat) (s : State) : Out := done (quietMajor (s.at t) src.val)

/-- Row QUIET_PERIOD_GRAVE (R426, R427, R433). -/
def execQuietPeriodGrave (t : Nat) (s : State) : Out := done (quietGrave (s.at t))

/-- Row COLLECTOR_SELF_FAULT (R429, R435): 0 parity, 1 record ECC, 2 state copies disagree. -/
def execCollectorSelfFault (c : Core) (cause : Fin 3) (t : Nat) (s : State) : Out := done (selfFault (s.at t) c (cause.val + 1))

/-- Row FAULT_BACKLOG_SEND (R417). -/
def execFaultBacklogSend (t : Nat) (s : State) : Out := done (backlogSend (s.at t))

/-- Row FLT_LOG_POP (R423, R437). -/
def execFltLogPop (path : Path) (t : Nat) (s : State) : Out :=
  done ((s.at t).throughLock path FLT_LOG_W0 none fun s => if viewBlank s path then s else (fltPop s path).2)

/-- Row FLT_INJ_ARM (R434): the word written to FLT_INJ. -/
def execFltInjArm (v : Word) (t : Nat) (s : State) : Out := done (fltInjWrite (s.at t) v)

/-- Row FI_ARM (R434): the word written to FI_CTRL. -/
def execFiArm (v : Word) (t : Nat) (s : State) : Out := done (fiCtrlWrite (s.at t) v)

end Sys2Proof.Machine
end

