-- ==== Sys2Proof/Machine/Power.lean ====
section
/-! DEFINITION. The power die (R439-R468): feeds and sharing, the power path and hold-up, curtain fall, the e-fuse
channels, its link, and what blocks 22 and 23 show. -/

namespace Sys2Proof.Machine

/-! Exact fractions (R456, R458). -/

/-- A fraction in lowest terms. -/
def frac (n : Int) (d : Nat) : Frac :=
  let g := Nat.gcd n.natAbs d
  if g = 0 then ⟨0, 1⟩ else ⟨n / g, d / g⟩
def Frac_add (x y : Frac) : Frac := frac (x.num * y.den + y.num * x.den) (x.den * y.den)
def Frac_sub (x y : Frac) : Frac := frac (x.num * y.den - y.num * x.den) (x.den * y.den)
def Frac_mul (x y : Frac) : Frac := frac (x.num * y.num) (x.den * y.den)
def Frac_le (x y : Frac) : Bool := decide (x.num * y.den ≤ y.num * x.den)
def Frac_floor (x : Frac) : Int := x.num / x.den

/-! Feeds (R440-R442). -/

abbrev pwrHANDOVER : Nat := 15
abbrev pwrRETURN : Nat := 14
abbrev pwrCFSTART : Nat := 13
abbrev pwrCFDONE : Nat := 12
abbrev pwrFDA_CHG : Nat := 11
abbrev pwrOVP : Nat := 9
abbrev pwrSHARE : Nat := 8
abbrev pwrHUNREADY : Nat := 7
abbrev pwrLINK : Nat := 6

/-- A report of the power die reaches the field die while their link is up (R464). -/
def pwrRaise (s : State) (src detail : Nat) : State := if s.power.link then s.raise src detail else s

/-- V_fail, V_good and V_ovp: the defaults until the PWR section is applied (R440, R446). -/
def vFail (s : State) : Nat := if s.power.sectioned then (s.reg PWR_VFAIL).toNat else 1800
def vGood (s : State) : Nat := if s.power.sectioned then (s.reg PWR_VGOOD).toNat else 2000
def vOvp (s : State) : Nat := if s.power.sectioned then (s.reg PWR_VOVP).toNat else 3300

/-- The state of a feed at a voltage (R440). -/
def feedPhase (s : State) (v : Nat) : FeedPhase :=
  if v < 600 then .absent else if v < vFail s then .low else if v < vGood s then .ok else if v < vOvp s then .good else .above

/-- OK or GOOD. -/
def feedUsable (f : Feed) : Bool := decide (f.phase = .ok) || decide (f.phase = .good)
def State.feed (s : State) (i : Fin 2) : Feed := vget s.power.feeds i
def State.updFeed (s : State) (i : Fin 2) (f : Feed → Feed) : State := s.updPower fun p => { p with feeds := vupd p.feeds i f }

/-- A measurement of a feed (R440, R441): its path is an ideal diode, and entry to OVER opens it. -/
def feedMeasure (s : State) (i : Fin 2) (v : Nat) (amps : Int) : State :=
  let f := s.feed i
  let ph := feedPhase s v
  let excess := decide (ph = .above) && decide (f.phase ≠ .above)
  let ovp := f.ovp || excess
  let conducts := f.on && !ovp && decide (-50 ≤ amps) && (f.closed || decide (s.power.vpwr ≤ v))
  let s1 := s.updFeed i fun f =>
    { f with phase := ph, volts := v, amps := amps, since := if ph = f.phase then f.since else s.now, ovp := ovp, closed := conducts }
  let s2 := if excess then s1.evt PWR_EVT pwrOVP else s1
  if ph = f.phase then s2
  else
    let s3 := s2.evt PWR_EVT (pwrFDA_CHG - i.val)
    if ph = .absent ∨ ph = .low ∨ ph = .above then pwrRaise s3 (Src.feed i.val) i.val else s3

/-- The conditions of sharing (R442). -/
def shareDue (s : State) : Bool :=
  let a := s.feed 0
  let b := s.feed 1
  s.bit PWR_CTRL 14 && feedUsable a && feedUsable b && decide (a.volts ≤ b.volts + 150) && decide (b.volts ≤ a.volts + 150) &&
  decide ((s.reg PWR_SHARE_FS).toNat ≤ 5 * (a.amps + b.amps))

/-- A measurement of feeds, store, VPWR and temperature (R440, R442): volts in 10 mV, 0-4,000, currents in 10 mA. -/
def powerMeasure (s : State) (va vb vh vp : Nat) (ia ib : Int) (temp : Int) : State :=
  let s0 := s.updPower fun p => { p with huVolts := min 4000 vh, vpwr := min 4000 vp, temp := temp }
  let s1 := feedMeasure (feedMeasure s0 0 (min 4000 va) ia) 1 (min 4000 vb) ib
  let total := ia + ib
  let share := if total ≤ 0 then 0 else (max 0 (min 1000 (1000 * ia / total))).toNat
  s1.updPower fun p => { p with share := share, sharing := shareDue s1 && decide (450 ≤ share) && decide (share ≤ 550) }

/-- A feed below V_ovp - 1 V for 20 ms has its path closed again (R441). -/
def ovpReclose (s : State) (i : Fin 2) : State :=
  let f := s.feed i
  if f.ovp ∧ f.volts + 100 < vOvp s then s.updFeed i fun f => { f with ovp := false, closed := f.on } else s

/-- Shares outside the band for 1 s while the conditions hold (R442). -/
def shareAlarm (s : State) : State :=
  if shareDue s && !s.power.sharing then pwrRaise (s.evt PWR_EVT pwrSHARE) Src.shareBand 0 else s

/-! The power path (R443, R444, R446, R447). -/

/-- Neither feed has been OK or GOOD, up to this instant (R443, R465). -/
def noFeed (s : State) : Bool := s.power.feeds.toList.all fun f => !feedUsable f || decide (f.since = s.now)
/-- A feed is GOOD, and was so before this instant (R443, R465). -/
def goodFeed (s : State) : Bool := s.power.feeds.toList.any fun f => decide (f.phase = .good)

/-- Hand-over begins (R443): the hold-up path closes. -/
def handoverBegin (s : State) : State :=
  let s1 := s.updPower fun p => { p with path := .handover, handoverDue := false }
  (pwrRaise ((s1.bump PWR_HANDOVERS).evt PWR_EVT pwrHANDOVER) Src.handover 0).barReady .fh .signal (.wake 4)

/-- No feed has been OK or GOOD for 50 µs (R443, R444): within the dwell the hand-over waits for its end. -/
def handover (s : State) : State :=
  if !s.power.started || !s.bit PWR_CTRL 15 || decide (s.power.path ≠ .feed) || !noFeed s then s
  else if s.power.dwell then s.updPower fun p => { p with handoverDue := true }
  else handoverBegin s

/-- The return begins (R443): the path of each GOOD feed closes and the hold-up path opens. -/
def returnBegin (s : State) : State :=
  let go (f : Feed) : Feed := if f.phase = .good ∧ !f.ovp then { f with on := true, closed := true } else f
  let s1 := s.updPower fun p => { p with path := .return_, returnDue := false, feeds := p.feeds.map go }
  (s1.bump PWR_RETURNS).evt PWR_EVT pwrRETURN

/-- A feed has been GOOD for 20 ms (R443, R444). -/
def returnStart (s : State) : State :=
  if s.power.path ≠ .holdup ∨ !goodFeed s then s
  else if s.power.dwell then s.updPower fun p => { p with returnDue := true }
  else returnBegin s

/-- The dwell ends (R444): a transition whose condition was met starts where it still holds. -/
def dwellEnd (s : State) : State :=
  let s1 := s.updPower fun p => { p with dwell := false, handoverDue := false, returnDue := false }
  if !s.power.dwell then s
  else if s.power.path = .feed ∧ s.power.handoverDue ∧ noFeed s then handoverBegin s1
  else if s.power.path = .holdup ∧ s.power.returnDue ∧ goodFeed s then returnBegin s1
  else s1

/-- The hold-up is ready (R447). -/
def huReady (s : State) : Bool := decide ((s.reg PWR_HU_READY).toNat ≤ s.power.huVolts)

/-- PWR_STAT (R467). -/
def pwrStat (s : State) : Word :=
  let p := s.power
  putFld (s.feed 0).phase.code 15 13 ||| putFld (s.feed 1).phase.code 12 10 ||| putFld p.path.code 9 8 ||| bitW (huReady s) 7 |||
  bitW p.sharing 6 ||| bitW (decide (p.cfStep ≠ 0)) 5 ||| bitW p.link 4

/-- The power die starts and closes the path of each GOOD feed; the hold-up store alone never starts a node (R446). -/
def powerStart (s : State) : State :=
  let p := s.power
  let up := decide (900 < (s.feed 0).volts) || decide (900 < (s.feed 1).volts) || decide (900 < p.huVolts)
  if p.started || p.cycling || !up || !goodFeed s then s
  else
    let go (f : Feed) : Feed := if f.phase = .good ∧ !f.ovp then { f with on := true, closed := true } else f
    s.updPower fun p =>
      { p with started := true, link := !s.start.fieldReset, path := .feed, dwell := true, handoverDue := false
               returnDue := false, feeds := p.feeds.map go }

/-! Curtain fall (R448, R449). -/

/-- Curtain fall begins (R448, R449): PWR_STAT is kept for the exit notice, and the journal is flushed. -/
def curtain (s : State) (cause : Nat) : State :=
  if s.power.cfStep ≠ 0 ∨ !s.power.link then s
  else (s.updPower fun p => { p with cfStep := 1, cfCause := cause, cfStat := pwrStat s }).evt PWR_EVT pwrCFSTART

/-- HOLDUP has lasted RIDE, or no feed has been OK or GOOD for 50 µs without hold-up (R448). -/
def curtainStart (s : State) : State :=
  if s.power.path = .holdup then curtain s 1
  else if !s.bit PWR_CTRL 15 && noFeed s && s.power.started then curtain s 2
  else s

/-- The flush has ended: the signal forwarder sends the exit notice (R449, step 2). -/
def flushDone (s : State) : State :=
  if s.power.cfStep ≠ 1 then s
  else
    let d : Descriptor :=
      { ep := 5, op := .sig, dring := s.ringNo, dnode := 4095, count := 0, burst := false, len := 0, cg := false, cell := 0
        addr := 0, set := s.fld PWR_CF_SIG 7 0, cycle := 0, data := [wd s.power.cfCause, s.power.cfStat] }
    issue (s.updPower fun p => { p with cfStep := 2 }) d .plain

/-- The exit notice has left on both rings, or 2 ms have passed; BYPASS_N is driven low and insertion is to close (R449,
steps 2 to 4). -/
def exitSent (s : State) (skipped : Bool) : State :=
  if s.power.cfStep ≠ 2 then s
  else
    let s1 := s.updPower fun p => { p with cfStep := 4, cfSkip := skipped }
    let s2 : State := { s1 with start := { s1.start with bypassLow := true } }
    if skipped then pwrRaise s2 Src.exitSkipped 0 else s2

/-- Both link ports are DOWN or SETTLE has passed: source 0x1F8 reports (R449, step 4). -/
def settleEnd (s : State) : State :=
  if s.power.cfStep ≠ 4 then s
  else pwrRaise ((s.updPower fun p => { p with cfStep := 5 }).evt PWR_EVT pwrCFDONE) Src.curtainFall 0

/-- PWR_CF_STAT. -/
def cfStat (s : State) : Word := putFld s.power.cfStep 15 13 ||| putFld s.power.cfCause 12 11 ||| bitW s.power.cfSkip 10

/-! E-fuse channels (R454-R461). -/

abbrev efTRIP : Nat := 15
abbrev efLOCK : Nat := 14
abbrev efTDIFF : Nat := 13
abbrev efDIODE : Nat := 12

def State.fuse (s : State) (c : Fin 16) : Fuse := vget s.power.fuses c
def State.updFuse (s : State) (c : Fin 16) (f : Fuse → Fuse) : State := s.updPower fun p => { p with fuses := vupd p.fuses c f }
/-- An e-fuse register of channel c. -/
def State.ef (s : State) (a : Nat) (c : Fin 16) : Word := s.regSel a c.val

/-- The gate is on: RAMP or ON. -/
def fuseLive (f : Fuse) : Bool := decide (f.phase = .ramp) || decide (f.phase = .on)

/-- A trip from RAMP or ON (R455, R460): counted and reported; without a retry left the channel is LOCKED. -/
def fuseTrip (s : State) (c : Fin 16) (cause : Nat) : State :=
  let f := s.fuse c
  if !fuseLive f then s
  else
    let limit := fld (s.ef PWR_EF_RETRY c) 15 12
    let again := decide (limit = 15) || decide (f.retries < limit)
    let s1 := s.updFuse c fun f =>
      { f with phase := if again then .tripped else .locked, cause := cause, acc := ⟨0, 1⟩, delayDone := false, retryDue := false }
    let s2 := pwrRaise ((s1.bumpSel PWR_EF_TRIPS c.val).evt PWR_EF_EVT efTRIP) Src.efTrip c.val
    if again then s2 else pwrRaise (s2.evt PWR_EF_EVT efLOCK) Src.efLock c.val

/-- Points in use of the curve: current in 10 mA and time in ms. A time of 0, for which the manual gives no meaning, is a
free value. -/
def curvePoints (s : State) (c : Fin 16) : List (Nat × Nat) :=
  ((List.range 8).map fun k =>
    let t := (s.ef (PWR_EF_TIM k) c).toNat
    ((s.ef (PWR_EF_CUR k) c).toNat, if t = 0 then atLeastOne s.free.toNat else t)).takeWhile fun x => decide (x.1 ≠ 0)

/-- One step of the accumulator of R456. -/
def curveStep (s : State) (c : Fin 16) (amps : Nat) (a : Frac) : Frac :=
  match curvePoints s c with
  | [] => a
  | p :: t =>
    if p.1 ≤ amps then
      let j := (t.filter fun x => decide (x.1 ≤ amps)).getLast?.getD p
      Frac_add a (frac 1 (100 * j.2))
    else
      let b := Frac_sub a (frac 1 (100 * p.2))
      if b.num < 0 then ⟨0, 1⟩ else b

/-- t_ref of R458: the power die temperature plus PWR_EF_TOFS, both in 0.5 K. -/
def tRef (s : State) (c : Fin 16) : Frac := frac (s.power.temp + (s.ef PWR_EF_TOFS c).toInt) 2

/-- One step of the thermal model of R458. -/
def thermalStep (s : State) (c : Fin 16) (amps : Nat) (f : Fuse) : Fuse :=
  let old := f.model.getD (tRef s c)
  let tc := frac (s.ef PWR_EF_TC c).toNat 10000
  let rds := Frac_mul (frac (s.ef PWR_EF_RDS c).toNat 100000) (Frac_add ⟨1, 1⟩ (Frac_mul tc (Frac_sub old ⟨25, 1⟩)))
  let i := frac amps 100
  let p := if fuseLive f then Frac_mul (Frac_mul i i) rds else ⟨0, 1⟩
  let pole (n : Fin 3) : Frac :=
    let d := vget f.poles n
    let tau := (s.ef (PWR_EF_TAU n.val) c).toNat
    if tau = 0 then d
    else
      let z := frac (s.ef (PWR_EF_ZTH n.val) c).toNat 100
      Frac_add d (Frac_mul (Frac_sub (Frac_mul p z) d) (frac 1 (10 * tau)))
  let poles := Vector.ofFn pole
  let t := Frac_add (Frac_add (tRef s c) (vget poles 0)) (Frac_add (vget poles 1) (vget poles 2))
  { f with poles := poles, model := some t }

/-- PWR_EF_TLIM in degrees. -/
def tLim (s : State) (c : Fin 16) : Int := (s.ef PWR_EF_TLIM c).toNat

/-- The model is below PWR_EF_TLIM - 20 K (R460). -/
def modelCool (s : State) (c : Fin 16) : Bool :=
  match (s.fuse c).model with
  | none => true
  | some t => !Frac_le ⟨tLim s c - 20, 1⟩ t

/-- A retry: the channel ramps again, and the count rises (R460). -/
def fuseRetry (s : State) (c : Fin 16) : State :=
  s.updFuse c fun f => { f with phase := .ramp, retries := min 15 (f.retries + 1), delayDone := false }

/-- A measurement of a channel every 10 µs (R454, R456, R458, R460). -/
def fuseMeasure (s : State) (c : Fin 16) (amps : Nat) : State :=
  let f := s.fuse c
  let live := fuseLive f
  let f1 := thermalStep s c amps { f with amps := amps, acc := if live then curveStep s c amps f.acc else f.acc }
  let s1 := s.updFuse c fun _ => f1
  let hot := match f1.model with
    | none => false
    | some t => Frac_le ⟨tLim s c, 1⟩ t
  if live && Frac_le ⟨1, 1⟩ f1.acc then fuseTrip s1 c 1
  else if live && hot then fuseTrip s1 c 3
  else if decide (f1.phase = .tripped) && f1.delayDone && modelCool s1 c then fuseRetry s1 c
  else s1

/-- The comparator on the shunt (R457). -/
def instTrip (s : State) (c : Fin 16) : State := if s.ef PWR_EF_INST c = 0 then s else fuseTrip s c 2

/-- EFnn_OUT is within 1 V of VPWR (R459). -/
def rampDone (s : State) (c : Fin 16) : State :=
  if (s.fuse c).phase = .ramp then s.updFuse c fun f => { f with phase := .on } else s

/-- A ramp has not ended within PWR_EF_RAMP.MAX (R459). -/
def rampTimeout (s : State) (c : Fin 16) : State := if (s.fuse c).phase = .ramp then fuseTrip s c 4 else s

/-- The retry delay has passed (R460): after a TEMP trip the model must have cooled as well. -/
def retryDue (s : State) (c : Fin 16) : State :=
  let f := s.fuse c
  if f.phase ≠ .tripped then s
  else if f.cause = 3 ∧ !modelCool s c then s.updFuse c fun f => { f with delayDone := true }
  else fuseRetry s c

/-- The start turn of a waiting channel: rising order (R454). -/
def startTurn (s : State) (c : Fin 16) : State :=
  let first := (List.finRange 16).find? fun k => decide ((s.fuse k).phase = .wait)
  if first = some c then s.updFuse c fun f => { f with phase := .ramp } else s

/-- A diode reading in 0.5 K, none where it is open or shorted (R458). -/
def diodeRead (s : State) (c : Fin 16) (reading : Option Int) : State :=
  let f := s.fuse c
  if !bitOf (s.ef PWR_EF_CFG c) 12 then s
  else match reading with
    | none =>
      let s1 := s.updFuse c fun f => { f with diode := none, diodeBad := true, diffSince := none }
      if f.diodeBad then s1 else pwrRaise ((s1.evt PWR_EF_EVT efTDIFF).evt PWR_EF_EVT efDIODE) Src.efDiode c.val
    | some r =>
      if f.diodeBad then s.updFuse c fun f => { f with diode := some r }
      else
        let t := Frac_mul (f.model.getD (tRef s c)) ⟨2, 1⟩
        let d := Frac_sub ⟨r, 1⟩ t
        let apart := !(Frac_le ⟨-30, 1⟩ d && Frac_le d ⟨30, 1⟩)
        let since := if apart then some (f.diffSince.getD s.now) else none
        let due := (match since with | none => false | some t0 => decide (t0 + secT ≤ s.now)) && !f.diffTold
        let s1 := s.updFuse c fun f => { f with diode := some r, diffSince := since, diffTold := apart && (f.diffTold || due) }
        let s2 := if due then pwrRaise (s1.evt PWR_EF_EVT efTDIFF) Src.efDiode c.val else s1
        if 2 * tLim s c ≤ r then fuseTrip s2 c 3 else s2

/-- PWR_EF_RESET ends lockouts (R460). -/
def efReset (s : State) (v : Word) : State :=
  s.each (List.finRange 16) fun s c =>
    if bitOf v c.val && decide ((s.fuse c).phase = .locked) then s.updFuse c fun f => { f with phase := .off } else s

/-! What block 23 shows (R468). -/

def efStat (s : State) (c : Fin 16) : Word :=
  let f := s.fuse c
  putFld f.phase.code 15 13 ||| putFld f.cause 12 10 ||| putFld (min 15 f.retries) 9 6
def efTmod (s : State) (c : Fin 16) : Word := match (s.fuse c).model with
  | none => 0
  | some t => satInt16 (Frac_floor (Frac_mul t ⟨2, 1⟩))
def efTdio (s : State) (c : Fin 16) : Word := match (s.fuse c).diode with
  | none => 0x8000
  | some r => satInt16 r
def efAcc (s : State) (c : Fin 16) : Word :=
  wd (min 65535 (Frac_floor (Frac_mul (s.fuse c).acc ⟨65535, 1⟩)).toNat)
def efMask (s : State) (f : Fuse → Bool) : Word := (List.finRange 16).foldl (fun w c => w ||| bitW (f (s.fuse c)) c.val) 0
def efLockMask (s : State) : Word := efMask s fun f => decide (f.phase = .locked)
def efLiveMask (s : State) : Word := efMask s fuseLive

/-! The rows. -/

/-- Row POWER_MEASURE (R440-R442): feed A, feed B, store and VPWR in 10 mV, the feed currents in 10 mA, the die's
temperature in 0.5 K. -/
def execPowerMeasure (va vb vh vp ia ib temp : Word) (t : Nat) (s : State) : Out :=
  done (powerMeasure (s.at t) va.toNat vb.toNat vh.toNat vp.toNat ia.toInt ib.toInt temp.toInt)

/-- Row OVP_RECLOSE (R441). -/
def execOvpReclose (i : Fin 2) (t : Nat) (s : State) : Out := done (ovpReclose (s.at t) i)

/-- Row SHARE_ALARM (R442). -/
def execShareAlarm (t : Nat) (s : State) : Out := done (shareAlarm (s.at t))

/-- Row HANDOVER (R443, R444). -/
def execHandover (t : Nat) (s : State) : Out := done (handover (s.at t))

/-- Row HOLDUP_ENTRY (R443, R444). -/
def execHoldupEntry (t : Nat) (s : State) : Out :=
  let s1 := s.at t
  done (if s1.power.path = .handover then s1.updPower fun p => { p with path := .holdup, dwell := true } else s1)

/-- Row RETURN (R443, R444). -/
def execReturn (t : Nat) (s : State) : Out := done (returnStart (s.at t))

/-- Row FEED_ENTRY (R443, R444). -/
def execFeedEntry (t : Nat) (s : State) : Out :=
  let s1 := s.at t
  done (if s1.power.path = .return_ then s1.updPower fun p => { p with path := .feed, dwell := true } else s1)

/-- Row DWELL_END (R444). -/
def execDwellEnd (t : Nat) (s : State) : Out := done (dwellEnd (s.at t))

/-- Row HU_NOT_READY (R447). -/
def execHuNotReady (t : Nat) (s : State) : Out :=
  let s1 := s.at t
  done (if s1.bit PWR_CTRL 15 && !huReady s1 then pwrRaise (s1.evt PWR_EVT pwrHUNREADY) Src.holdupNotReady 0 else s1)

/-- Row POWER_DIE_START (R446). -/
def execPowerDieStart (t : Nat) (s : State) : Out := done (powerStart (s.at t))

/-- Row CURTAIN_FALL_START (R448). -/
def execCurtainFallStart (t : Nat) (s : State) : Out := done (curtainStart (s.at t))

/-- Row CURTAIN (R448, R465). -/
def execCurtain (t : Nat) (s : State) : Out := done (curtain (s.at t) 3)

/-- Row JOURNAL_FLUSH_DONE (R449). -/
def execJournalFlushDone (t : Nat) (s : State) : Out := done (flushDone (s.at t))

/-- Row EXIT_NOTICE_SENT (R449): `skipped` where 2 ms passed first. -/
def execExitNoticeSent (skipped : Bool) (t : Nat) (s : State) : Out := done (exitSent (s.at t) skipped)

/-- Row CURTAIN_SETTLE_END (R449). -/
def execCurtainSettleEnd (t : Nat) (s : State) : Out := done (settleEnd (s.at t))

/-- Row EF_MEASURE (R454-R456, R458, R460): the current in 10 mA. -/
def execEfMeasure (c : Fin 16) (amps : Word) (t : Nat) (s : State) : Out := done (fuseMeasure (s.at t) c amps.toNat)

/-- Row EF_INST_TRIP (R457). -/
def execEfInstTrip (c : Fin 16) (t : Nat) (s : State) : Out := done (instTrip (s.at t) c)

/-- Row EF_RAMP_DONE (R459). -/
def execEfRampDone (c : Fin 16) (t : Nat) (s : State) : Out := done (rampDone (s.at t) c)

/-- Row EF_RAMP_TIMEOUT (R459). -/
def execEfRampTimeout (c : Fin 16) (t : Nat) (s : State) : Out := done (rampTimeout (s.at t) c)

/-- Row EF_RETRY (R460). -/
def execEfRetry (c : Fin 16) (t : Nat) (s : State) : Out := done (retryDue (s.at t) c)

/-- Row EF_RETRY_COUNT_RESTART (R460). -/
def execEfRetryCountRestart (c : Fin 16) (t : Nat) (s : State) : Out :=
  let s1 := s.at t
  done (if (s1.fuse c).phase = .on then s1.updFuse c fun f => { f with retries := 0 } else s1)

/-- Row EF_START_TURN (R454). -/
def execEfStartTurn (c : Fin 16) (t : Nat) (s : State) : Out := done (startTurn (s.at t) c)

/-- Row EF_DIODE_READ (R458): the reading in 0.5 K; `valid` is false for an open or shorted diode. -/
def execEfDiodeRead (c : Fin 16) (valid : Bool) (reading : Word) (t : Nat) (s : State) : Out :=
  done (diodeRead (s.at t) c (if valid then some reading.toInt else none))

/-- Row EF_RESET (R460): the word written to PWR_EF_RESET. -/
def execEfReset (v : Word) (t : Nat) (s : State) : Out := done (efReset (s.at t) v)

/-- Row PD_LINK_LOST (R464). -/
def execPdLinkLost (t : Nat) (s : State) : Out :=
  let s1 := s.at t
  done (if s1.power.link then
    ((s1.raise Src.powerLink 0).evt PWR_EVT pwrLINK).updPower fun p => { p with link := false } else s1)

end Sys2Proof.Machine
end

