-- ==== Sys2Proof/Machine/Reset.lean ====
section
/-! DEFINITION. The resets (R428, R451, R463, R503, R504, R567): what each leaves, and leaving reset. -/

namespace Sys2Proof.Machine

/-- The kinds of reset of R503. -/
inductive ResetKind where
  | powerOn | resetN | warm
  deriving DecidableEq, Repr

/-- A physical engine keeps what the repair map says of it (R264, R387). -/
def resetPhys (x : PhysEngine) : PhysEngine :=
  { PhysEngine.init with retired := x.retired, codeRows := x.codeRows, dataRows := x.dataRows }

/-- A cluster after a reset of the field die. -/
def resetCluster (c : Cluster) : Cluster := { Cluster.init with phys := c.phys.map resetPhys }

/-- A pin after a reset of the field die: the level at its ball is the board's. -/
def resetPin (p : Pin) : Pin := { Pin.init with raw := p.raw, filt := p.filt, inner := p.inner, changed := p.changed }

/-- The held-state latch of a source: held under POWER, and LIMIT (R428). -/
def keptSrc (x : SrcState) : Option SrcState :=
  let held := x.held && x.power
  if held || x.limit then some { SrcState_init x.src with held := held, power := held, limit := x.limit, heldDetail := x.heldDetail }
  else none

/-- A collector after RESET_N or a warm restart, and after a power-on reset. -/
def resetCollector (k : ResetKind) (f : Collector) : Collector :=
  { Collector.init with srcs := if k = .powerOn then [] else f.srcs.filterMap keptSrc }

/-- A slot after a reset: what the store holds lasts. -/
def resetStore (x : StoreState) (warm : Bool) : StoreState :=
  { StoreState.init with
    slots := x.slots, keys := x.keys, fuse := x.fuse, repairCopy := x.repairCopy, repairSeq := x.repairSeq, worn := x.worn
    items := if warm then x.items else [] }

/-- A kept copy lasts where it stands in a slot (R380). -/
def keptCopy (k : Option KeptCopy) : Option KeptCopy := match k with
  | none => none
  | some c => if c.placed then some c else none

/-- An address of the retained store (R365). -/
def inStore (a : Nat) : Bool := decide (storeBase ≤ a) && decide (a < storeBase + 0x80000)
/-- An address of the publish banks, which start at 0 (R536). -/
def inPublish (a : Nat) : Bool := decide (pubBase false ≤ a) && decide (a < pubBase true + 0x10000)

/-- What a byte of memory needs to outlast a reset: the retained store always; RAM where its rails stay (notes/assumptions/49.md). -/
def memKept (k : ResetKind) (a : Nat) : Bool := inStore a || (decide (k ≠ .powerOn) && !inPublish a)

/-- A register that a warm restart leaves: the count of warm restarts, and the settings of the power die, which runs on
(R503, R522; notes/assumptions/49.md). -/
def regKept (k : ResetKind) (key : Nat) : Bool :=
  let a := key / 65536
  decide (k = .warm) &&
  (decide (a = HUB_WARMC) ||
   (decide (0x15800 ≤ a) && decide (a < 0x16000) && (match regRow? a with | none => false | some r => r.persistent)))

/-- The power die after a reset of the node: it runs on, its channels off until the PWR section but for a warm restart
(R446, R463, R503); without a supply it does not (R446). -/
def resetPower (k : ResetKind) (p : PowerState) : PowerState :=
  let live := decide (900 < (vget p.feeds 0).volts) || decide (900 < (vget p.feeds 1).volts) || decide (900 < p.huVolts)
  match k with
  | .warm => { p with linkWrites := [] }
  | .resetN => { p with sectioned := false, link := false, linkWrites := [] }
  | .powerOn =>
    if live then { p with sectioned := false, link := false, linkWrites := [] }
    else { PowerState.init with feeds := p.feeds.map fun f => { Feed.init with phase := f.phase, volts := f.volts, since := f.since }
                                huVolts := p.huVolts, vpwr := p.vpwr, temp := p.temp }

/-- A stream in a warm restart: what is in transit goes on, a frame of the node's own is cut, nothing of its own stays
(R409, R504). -/
def warmStream (x : EventStream) : EventStream :=
  { x with sending := x.sending.map Outgoing.cut, delivered := [] }

/-- A link port in a warm restart: UP stays UP; a hold by a reaction ends (R428, R503). -/
def warmLink (l : LinkPort) : LinkPort := { l with faultHeld := false, inUse := false }

/-- The timekeepers (R121, R503): ring time from 0; in a warm restart the ring side runs on. -/
def resetTime (k : ResetKind) (s : State) : TimeState :=
  let x : TimeState := if k = .warm then { s.time with everLocked := s.time.locked } else { TimeState.init with ofs := -(s.now : Int) }
  { x with fofs := -(s.now : Int), fdom := false, fhold := false, fsmp := 0, flat := 0, fflp := 0 }

/-- HUB_RST_CAUSE and the start that follows. -/
def resetStart (k : ResetKind) (cause : Nat) (x : StartState) : StartState :=
  { StartState.init with
    cause := cause
    hostReset := decide (k ≠ .warm), fieldReset := decide (k ≠ .warm), resetLow := decide (k = .resetN)
    warm := decide (k = .warm), bypassLow := if k = .warm then x.bypassLow else true }

/-- The resource of a source latched as held stays held (R428). -/
def rehold (s : State) (x : SrcState) : State :=
  if !x.held then s
  else match resourceOf x with
    | some (.link p) => s.updLink p fun l => { l with faultHeld := true }
    | some (.port k) => s.updSw fun w => { w with faultHeld := vset w.faultHeld k true }
    | some (.can c) => s.updCan c fun x => { x with faultHeld := true }
    | _ => s

/-- The node after a reset (R428, R503): hub cores, field die and engines are reset in each kind. -/
def resetTo (k : ResetKind) (cause : Nat) (s : State) : State :=
  let warm := decide (k = .warm)
  let tap := if k = .powerOn then DebugState.init
    else { s.dbg with dap := 3, dapBusy := false, dapStatus := 0, dapAddr := 0, dapData := 0 }
  let s1 : State :=
    { State.reset with
      now := s.now
      freeCtr := s.freeCtr
      pending := s.pending
      regs := s.regs.filter fun x => regKept k x.1
      mem := s.mem.filter fun x => memKept k x.1
      marks := s.marks.filter (memKept k)
      start := resetStart k cause s.start
      links := if warm then s.links.map warmLink else Vector.replicate 2 .init
      time := resetTime k s
      streams := if warm then s.streams.map warmStream else Vector.replicate 2 .init
      clusters := s.clusters.map resetCluster
      pins := s.pins.map resetPin
      store := resetStore s.store warm
      fab := { FabState.init with keptW := keptCopy s.fab.keptW, keptE := keptCopy s.fab.keptE }
      flts := s.flts.map (resetCollector k)
      dark := if k = .powerOn then .init else s.dark
      power := resetPower k s.power
      host := if warm then { HostState.init with ups := s.host.ups } else .init
      dbg := tap
      traces := if warm then s.traces else Vector.replicate 14 .init }
  s1.each (s1.flt .c0).srcs rehold

/-- A warm restart (R503, R504): entered in the trace buffers, counted and reported; journal records under way are written
first, since the supply stays. -/
def warmRestart (s : State) (cause : Nat) : State :=
  let s0 := jrnFlush (s.store.jrn.held.length + 1) s
  let s1 := resetTo .warm cause (s0.traceAll 0x17)
  (s1.bump HUB_WARMC).raise Src.warmRestart 0

/-- HUB_RESET.WARM (R504): ignored during curtain fall, while a warm restart runs and in reset. -/
def warmCommand (s : State) : State :=
  if s.power.cfStep ≠ 0 ∨ s.start.warm ∨ s.start.hostReset then s else warmRestart s 2

/-- Row POWER_ON_RESET (R503, R522, R567): the collapse after curtain fall has a cause of its own. -/
def execPowerOnReset (t : Nat) (s : State) : Out :=
  let s1 := s.at t
  done (resetTo .powerOn (if s1.power.cycling then 4 else 0) s1)

/-- Row RESET_N_ASSERT (R503, R567): during a reset it only keeps the host side in it. -/
def execResetNAssert (t : Nat) (s : State) : Out :=
  let s1 := s.at t
  done (if s1.start.hostReset then { s1 with start := { s1.start with resetLow := true } } else resetTo .resetN 1 s1)

/-- A side leaves reset (R463): the host side when RESET_N is high, the field side with its link to the power die (R464). -/
def release (s : State) (field : Bool) : State :=
  if field then
    if s.start.fieldReset then
      ({ s with start := { s.start with fieldReset := false } }).updPower fun p => { p with link := p.started }
    else s
  else { s with start := { s.start with hostReset := false, resetLow := false } }

/-- Row RESET_RELEASE (R463). -/
def execResetRelease (field : Bool) (t : Nat) (s : State) : Out := done (release (s.at t) field)

/-- Row WARM (R503, R504): HUB_RESET.WARM written through a guarded sequence. -/
def execWarm (t : Nat) (s : State) : Out := done (warmCommand (s.at t))

/-! The field side alone (R567). -/

/-- A register of the field die that a reset of the field side restores: all but the power die's (R495, R463). -/
def fieldDieReg (key : Nat) : Bool :=
  let a := key / 65536
  decide (0x10000 ≤ a) && !(decide (0x15800 ≤ a) && decide (a < 0x16000))

/-- A memory of the field die: the cluster memories. -/
def fieldDieMem (a : Nat) : Bool :=
  (decide (0x100000 ≤ a) && decide (a < 0x400000)) || (decide (windowBase 0 ≤ a) && decide (a < windowBase 12))

/-- A direction of the barrier when the field side is reset: the field end loses what it held; what the hub has sent times out
(R20), and both lane maps return to their restore values (R32). -/
def cutBarrier (d : BarDir) (b : BarDirState) : BarDirState :=
  match d with
  | .hf => { b with trained := false, retraining := false, expected := Vector.replicate 9 0
                    failed := 0, active := 0x0FF, toReplace := []
                    flight := b.flight.map fun f => { f with onWire := false, answer := .none } }
  | .fh => { BarDirState.init with expected := b.expected }

/-- FIELD_SIDE_RESET (R304, R567): the pins are undriven until the CLUn sections are sent again; field-side reports that have not
crossed are lost, and both cores' claims are to be taken anew. -/
def fieldReset (s : State) : State :=
  if s.start.hostReset ∨ s.start.fieldReset then s
  else
    let s1 : State :=
      { s with
        start := { s.start with fieldReset := true, resend := true }
        regs := s.regs.filter fun x => !fieldDieReg x.1
        mem := s.mem.filter fun x => !fieldDieMem x.1
        marks := s.marks.filter fun a => !fieldDieMem a
        bar := Vector.ofFn fun i => cutBarrier (if i = 0 then .hf else .fh) (vget s.bar i)
        margins := Vector.replicate 12 .init
        pulses := Vector.replicate 24 .init
        edges := Vector.replicate 12 .init
        clusters := s.clusters.map resetCluster
        pins := s.pins.map resetPin
        cans := s.cans.map fun x => { CanCtl.init with faultHeld := x.faultHeld }
        snap := []
        store := { s.store with incoming := [] }
        backlog := []
        fieldInj := none
        paths := s.paths.map fun p => { p with field := none }
        claimGap := true
        timeGap := true
        told := (0, 0)
        fmodes := .init
        modesTold := .init
        fintm := false
        time := { s.time with fofs := -(s.now : Int), fdom := false, fhold := false, fsmp := 0, flat := 0, fflp := 0 } }
    let s2 := s1.updPower fun p => { p with link := false, linkWrites := [] }
    (s2.updCore .c0 fun x => { x with fieldClaim := .c0 }).updCore .c1 fun x => { x with fieldClaim := .c0 }

/-- Row FIELD_SIDE_RESET (R567). -/
def execFieldSideReset (t : Nat) (s : State) : Out := done (fieldReset (s.at t))

/-! The power cycle after curtain fall (R451). -/

/-- CF_POWER_CYCLE (R451): after step 4 a feed GOOD for 20 ms makes the power die open every path, and every rail of the chip
collapses. -/
def powerCycle (s : State) : State :=
  if s.power.cfStep ≠ 5 ∨ !goodFeed s then s
  else
    let s1 := resetTo .powerOn 4 s
    let opened (f : Feed) : Feed := { Feed.init with phase := f.phase, volts := f.volts, since := f.since }
    { s1 with power := { PowerState.init with feeds := s.power.feeds.map opened, huVolts := s.power.huVolts
                                              temp := s.power.temp, cycling := true } }

/-- Row CF_POWER_CYCLE (R451). -/
def execCfPowerCycle (t : Nat) (s : State) : Out := done (powerCycle (s.at t))

/-- Row CF_RESTART (R451): the power die then starts as under R446. -/
def execCfRestart (t : Nat) (s : State) : Out := done ((s.at t).updPower fun p => { p with cycling := false })

/-- What HUB_RST_CAUSE shows (R522). -/
def hubRstCause (s : State) : Word := putFld s.start.cause 15 12

end Sys2Proof.Machine
end

