-- ==== Sys2Proof/Machine/Store.lean ====
section
/-! DEFINITION. The retained store (R365-R393): the start-up scan, selection and application of a stagebook, slots and their
commands, keys, scrubbing, kept and fetched stagebooks, and the hitless update. -/

namespace Sys2Proof.Machine

/-! The journal scan (R386). -/

/-- The word at index i of the record area. -/
def jrnWord (s : State) (i : Nat) : Word := s.word (jrnWordAt i)

/-- The record that begins at word index i, where its CRC and its commit word are exact: its body and sequence number
(R383, R386). -/
def readRecord (s : State) (i : Nat) : Option (JrnBody × DWord) :=
  let w0 := jrnWord s i
  let n := if fld w0 15 12 = 1 then 4 else 3
  let ws := (List.range (3 + n)).map fun k => jrnWord s (i + k)
  let seq : DWord := wAt ws 1 ++ wAt ws 2
  let ok := (decide (fld w0 15 12 = 1) || decide (fld w0 15 12 = 2)) && decide (fld w0 7 0 = n) &&
    decide (jrnWord s (i + 3 + n) = wd (crcWords 16 0x1021 0xFFFF ws)) &&
    decide (jrnWord s (i + 4 + n) = (putFld 0xC3 15 8 ||| putFld seq.toNat 7 0))
  if !ok then none
  else if n = 4 then
    let a := b2n (bitOf (wAt ws 3) 15) * 0x10000 + fld (wAt ws 3) 14 0
    some (.field a (if wAt ws 4 = 0xFFFF then 0 else (wAt ws 4).toNat) (wAt ws 5) (wAt ws 6), seq)
  else some (.slot (decide (wAt ws 3 ≠ 0)) (fld (wAt ws 4) 2 0) (bitOf (wAt ws 4) 15) (wAt ws 5).toNat, seq)

/-- A record found: its words' index, body and sequence number. -/
abbrev Found := Nat × JrnBody × DWord

/-- Every exact record of the area, found by its commit word, whose high byte is never 0. -/
def allRecords (s : State) : List Found :=
  let base := storeBase + 0x60C00
  let ends := s.mem.filterMap fun x =>
    if base ≤ x.1 ∧ x.1 < base + 2 * 47616 ∧ x.2 = 0xC3 ∧ (x.1 - base) % 2 = 0 then some ((x.1 - base) / 2) else none
  ends.flatMap fun e => [8, 7].filterMap fun back =>
    let i := (e + 47616 - back) % 47616
    match readRecord s i with
    | some (b, q) => if jrnSize b = back + 1 then some (i, b, q) else none
    | none => none

/-- Head cell i of a bank, where it is valid (R386): the record it names. -/
def headCell (s : State) (bank : Bool) (i : Nat) : Option Found :=
  let ws := s.words (jrnHeadAt bank i) 3
  let at_ := (wAt ws 1).toNat
  if wAt ws 2 ≠ wd (crcWords 16 0x1021 0xFFFF (ws.take 2)) then none
  else match readRecord s at_ with
    | some (b, q) => if wd q.toNat = wAt ws 0 then some (at_, b, q) else none
    | none => none

/-- The newer of two records by serial number (R386). -/
def newer (x : Option Found) (y : Found) : Option Found :=
  match x with
  | none => some y
  | some z => if 0 < diff32 y.2.2 z.2.2 then some y else some z

/-- Records walk forward from one while each has the next sequence number (R386). -/
def walk (s : State) : Nat → Found → Found
  | 0, x => x
  | n + 1, x =>
    let i := (x.1 + jrnSize x.2.1) % 47616
    match readRecord s i with
    | some (b, q) => if q = x.2.2 + 1 then walk s n (i, b, q) else x
    | none => x

/-- The newest record (R386): by the heads, or by the whole area where no head cell is valid. -/
def newestRecord (s : State) (noHeads : Bool) : Option Found :=
  let heads := if noHeads then [] else [false, true].flatMap fun b => (List.range 256).filterMap (headCell s b)
  match heads.foldl newer none with
  | some x => some (walk s 5952 x)
  | none => (allRecords s).foldl newer none

/-- Records by rising sequence number. -/
def insertRecord (x : Found) : List Found → List Found
  | [] => [x]
  | y :: t => if 0 < diff32 y.2.2 x.2.2 then x :: y :: t else y :: insertRecord x t

/-- What the scan makes of the records up to the newest (R386, R387). -/
def scanned (l : List Found) (last : Found) : Journal :=
  let rs := (l.filter fun x => decide (diff32 x.2.2 last.2.2 ≤ 0)).foldr insertRecord []
  let live := rs.foldl (fun (acc : List (JrnBody × Nat)) x => (acc.filter fun y => !jrnSame y.1 x.2.1) ++ [(x.2.1, x.1)]) []
  let forced := (rs.filterMap fun x => match x.2.1 with | .slot _ _ true sheet => some sheet | _ => none).getLast?
  { Journal.init with live := live, seq := last.2.2 + 1, pos := (last.1 + jrnSize last.2.1) % 47616, forced := forced }

/-- A slot state by its code; OPEN is found as EMPTY and CHECKING as VALID (R375). -/
def stateFound (code : Nat) : SlotState :=
  match code with
  | 2 | 4 => .valid
  | 3 => .bad
  | 5 => .live
  | 6 => .kept
  | _ => .empty

/-- The newest SLOT record of a slot. -/
def slotFound (j : Journal) (b : Bool) : SlotState :=
  match j.live.findSome? fun x => match x.1 with | .slot c st _ _ => if c = b then some st else none | .field .. => none with
  | none => .empty
  | some st => stateFound st

/-- The start-up scan (R386): journal, slot states and key states; both head banks failing on an uncorrectable error is
reported (R392), as is an injected failure of their check (R434). -/
def journalScan (s : State) (headBad : Bool) : State :=
  if s.store.scanned || s.start.hostReset then s
  else
    let (inj, s1) := hubCheck s Src.journalHead
    let s2 := if headBad || inj.isSome then raiseHub s1 Src.journalHead 0 (if headBad then none else inj) else s1
    let j := match newestRecord s2 (headBad || inj.isSome) with
      | none => Journal.init
      | some x => scanned (allRecords s2) x
    let key (k : Fin 4) : Nat := (s.word (storeBase + 0x78900 + 2 * k.val)).toNat
    s2.updStore fun x =>
      { x with scanned := true, jrn := j, keys := Vector.ofFn key
               slots := Vector.ofFn fun i => { vget x.slots i with state := slotFound j (decide (i = 1)) } }

/-- Row JOURNAL_SCAN_DONE (R375, R386, R392): whether both banks of the head area have failed. -/
def execJournalScanDone (headBad : Bool) (t : Nat) (s : State) : Out := done (journalScan (s.at t) headBad)

/-! Applying a stagebook (R369, R370, R378, R379, R383). -/

/-- A LIVE slot is checked at start (R378): what its words spell, or BAD. -/
def checkLive (s : State) (b : Bool) : State :=
  let x := s.slot b
  if x.state ≠ .live then s
  else match slotVerdict s (slotWords s b) x.content with
    | (_, some c) => s.updSlot b fun x => { x with content := some c, cause := 0 }
    | (k, none) =>
      ((setSlot (s.updSlot b fun x => { x with cause := k }) b .bad).evt RST_EVT rstCHKFAIL).raise Src.liveSlotFail (b2n b)

/-- The slot that R378 selects after the checks. -/
def selectSlot (s : State) : Option Bool :=
  let book (b : Bool) : Option Stagebook := if (s.slot b).state = .live then (s.slot b).content else none
  let fits (c : Stagebook) : Bool := match s.store.jrn.forced with | none => true | some id => decide (c.sheet.id = id)
  match book false, book true with
  | some a, some b => match fits a, fits b with
    | true, true => if a.gen.toNat < b.gen.toNat then some true else some false
    | true, false => some false
    | false, true => some true
    | false, false => none
  | some a, none => if fits a then some false else none
  | none, some b => if fits b then some true else none
  | none, none => none

/-- The number a node holds at a start (R187): the journal's, or that of its ID entry in the stagebook. -/
def startNumber (s : State) : State :=
  let kept := match jrnValue s.store.jrn FAB_NODE 0 with | none => 0 | some (v, _) => fld v 11 0
  let byId := match s.fab.tables with
    | none => 0
    | some t => match idEntry t ownUid with | none => 0 | some e => e.node
  if s.fab.node ≠ 0 then s
  else
    let (n, s1) := cmpNumber s (if kept ≠ 0 then kept else byId)
    if n = 0 then s1 else s1.updFab fun f => { f with node := n, src := if kept ≠ 0 then 3 else 1 }

/-- What follows the application of the sections (R503, R533): the warm restart ends, line roles are taken, the cores run
self-test. -/
def startGoesOn (s : State) : State :=
  let s1 : State := { (startNumber s) with start := { s.start with warm := false, lnkApplied := true, resend := false } }
  let s2 := s1.updStore fun x => { x with applied := true }
  let s3 := if s.start.warm then lineRoles s2 else s2
  if s.lead.starting then startCores s3 else s3

/-- The base configuration (R379). -/
def applyBase (s : State) : State :=
  let s1 := restoreRegs s [] false
  let s2 := s1.updStore fun x => { x with force := none, base := true, items := fieldItems x.items }
  let tags := 0xA :: ((List.finRange 12).filter fun n => (s.cl n).cfg.isSome).map fun n => 0x10 + n.val
  let s3 := s2.each tags fun s tag => s.barReady .hf .chunk (.chunk tag false false true true [])
  startGoesOn (s3.raise Src.baseConfig 0)

/-- The stagebook of a slot is applied, section by section in tag order, those of the field die by messages (R369, R388,
R533). -/
def applyBook (s : State) (b : Bool) (c : Stagebook) : State :=
  let s1 := hubSections (slotInForce s b) c
  let s2 := placeSheet s1 c
  startGoesOn ((sendChunks s2 c b false).evt RST_EVT rstLOADED)

/-- The loader checks, selects and applies (R378, R379). -/
def loadSelected (s : State) : State :=
  let s1 := checkLive (checkLive s false) true
  match selectSlot s1 with
  | none => applyBase s1
  | some b => match (s1.slot b).content with
    | none => applyBase s1
    | some c => applyBook s1 b c

/-- Row STAGEBOOK_APPLY (R369, R370, R378, R379, R383, R533): after the scan, once in a start. -/
def execStagebookApply (t : Nat) (s : State) : Out :=
  let s1 := s.at t
  done (if s1.store.scanned && !s1.store.applied && !s1.start.hostReset then loadSelected s1 else s1)

/-! The sections of the field die (R304, R370, R390). -/

/-- A CAN controller follows CAN_CTRL.EN after its registers have been set (R346). -/
def canFollow (s : State) (c : Fin 4) : State :=
  let on := decide ((s.can c).phase ≠ .off)
  if s.bit (CAN_CTRL c.val) 15 && !on && !(s.can c).faultHeld then canEnable s c
  else if !s.bit (CAN_CTRL c.val) 15 && on then canDisable s c
  else s

/-- The field registers take what a stagebook sets; on or off of the e-fuse channels stays where the PWR section has been
applied since the start (R390). -/
def applyFieldRegs (s : State) (items : List RegItem) : State :=
  let keep (k : Nat × Nat) : Bool := !s.store.pwrApplied || decide (k.1 ≠ PWR_EF_ON)
  let s1 := ((restoreKeys s items true).filter keep).foldl (restoreReg items) s
  let s2 := (s1.updStore fun x => { x with items := hubItems x.items ++ fieldItems items, pwrApplied := true }).updPower fun p =>
    { p with sectioned := true }
  s2.each (List.finRange 4) canFollow

/-- A cluster is held by a source latched as held (R428). -/
def clusterHeld (s : State) (n : Fin 12) : Bool := (s.flt .c0).srcs.any fun x => x.held && decide (srcCluster x.src = some n)

/-- A section begins in a cluster: self-test and binding follow, unless a reaction holds the cluster (R239, R428). -/
def clusterStart (s : State) (n : Fin 12) (g : ClusterCfg) : State :=
  if clusterHeld s n then (sectionLoad s n g).updCl n fun c => { c with binding := false, offHold := true } else sectionApply s n g

/-- A cluster's section takes effect (R390): only a changed one reloads the cluster, as by OFFLINE and ONLINE. -/
def applyCluster (s : State) (n : Fin 12) (new : Option ClusterCfg) : State :=
  match (s.cl n).cfg, new with
  | none, none => s
  | some _, none => (offline s n).updCl n fun c => { c with cfg := none }
  | none, some g => clusterStart s n g
  | some a, some g => if a = g then s else clusterStart (offline s n) n g

/-- What a slot's stagebook says; the base configuration says nothing (R379). -/
def chunkBook (s : State) (slot : Bool) : Option Stagebook := if s.store.base then none else (s.slot slot).content

/-- A field-side section takes effect. -/
def chunkApply (s : State) (tag : Nat) (slot : Bool) : State :=
  let book := chunkBook s slot
  if tag = 0xA then applyFieldRegs s (match book with | none => [] | some c => c.regs)
  else match place? 12 (tag - 0x10) with
    | none => s
    | some n => applyCluster s n (match book with
      | none => none
      | some c => (c.clusters.find? fun x => decide (x.1 = n.val)).map (·.2))

/-- A section has come to the field die whole, which checks its CRC again (R390): applied at once, or staged. -/
def sectionArrives (s : State) (tag : Nat) (slot staged sectionOk : Bool) : State :=
  if !staged then (if sectionOk then chunkApply s tag slot else s)
  else match s.store.upd with
    | some (b, 1) =>
      if b ≠ slot then s
      else if !sectionOk then updateFails s
      else
        let got := tag :: s.store.staged
        let all := match (s.slot b).content with | none => [] | some c => fieldTags s c
        s.updStore fun x => { x with staged := got, upd := some (b, if all.all got.contains then 2 else 1) }
    | _ => s

/-- Words as the field die holds them, where bits of the last have flipped. -/
def upsetLast (x : Word) (ws : List Word) : List Word := ws.dropLast ++ ws.getLast?.toList.map (· ^^^ x)

/-- A STAGEBOOK_CHUNK message has come to the field die: its words join those of the section before them, and with the last the
section is whole (R390). -/
def chunkArrives (s : State) (tag : Nat) (slot staged first last : Bool) (ws : List Word) : State :=
  let all := (if first then [] else s.store.incoming) ++ ws
  let s1 := s.updStore fun x => { x with incoming := if last then [] else all }
  if last then sectionArrives s1 tag slot staged (sectionCrcOk all) else s1

/-! Commands of RST_CMD (R374, R376, R377, R388, R389, R393). -/

abbrev rfBUSY : Nat := 1
abbrev rfIN_FORCE : Nat := 2
abbrev rfSTATE : Nat := 3
abbrev rfCAST : Nat := 4
abbrev rfSHEET : Nat := 5
abbrev rfCMP : Nat := 6
abbrev rfCLAIM : Nat := 7
abbrev rfPATH : Nat := 8
abbrev rfKEY : Nat := 9
abbrev rfBADCMD : Nat := 10

def cmdSet (s : State) (state code refuse : Nat) : State := s.updStore fun x => { x with cmd := ⟨state, code, refuse⟩ }
def cmdRefuse (s : State) (code why : Nat) : State := cmdSet s 3 code why
def cmdDone (s : State) (code : Nat) : State := cmdSet s 2 code 0
def cmdRun (s : State) (code : Nat) : State := cmdSet s 1 code 0

/-- A command is running: a check after CLOSE, SHEET or UPDATE. -/
def cmdBusy (s : State) : Bool :=
  decide ((s.slot false).state = .checking) || decide ((s.slot true).state = .checking) || s.store.sheet.isSome || s.store.upd.isSome

/-- A fetch is receiving or asking. -/
def fetchRuns (s : State) : Bool := decide (s.fab.fetch.state = 1) || decide (s.fab.fetch.state = 2)

/-- A running fetch holds the slot (R376, R391). -/
def fetchHolds (s : State) (b : Bool) : Bool := fetchRuns s && decide (spareSlot s = b)

def isInForce (s : State) (b : Bool) : Bool := decide (s.store.force = some b)

/-- The kept copies that slot b held are lost with it (R192, R380). -/
def keptLost (s : State) (b : Bool) : State :=
  let stays (k : Option KeptCopy) : Option KeptCopy := k.filter fun c => !c.placed
  if (s.slot b).state = .kept then s.updFab fun f => { f with keptW := stays f.keptW, keptE := stays f.keptE } else s

/-- OPEN (R376). -/
def slotOpen (s : State) (b : Bool) : State :=
  let st := (s.slot b).state
  if isInForce s b || decide (st = .open_) || decide (st = .checking) || fetchHolds s b || decide ((s.slot (!b)).state = .open_) then
    cmdRefuse s 1 rfBUSY
  else cmdDone (setSlot ((keptLost s b).updSlot b fun x => { x with content := none, two := false }) b .open_) 1

/-- CLOSE (R376). -/
def slotClose (s : State) (b : Bool) : State :=
  if (s.slot b).state ≠ .open_ then cmdRefuse s 2 rfSTATE else cmdRun (setSlot s b .checking) 2

/-- PROMOTE (R377): LIVE, and its sheet in force at the next start. -/
def promote (s : State) (b : Bool) : State :=
  if isInForce s b then cmdRefuse s 3 rfIN_FORCE
  else if (s.slot b).state ≠ .valid then cmdRefuse s 3 rfSTATE
  else cmdDone ((slotRecord (s.updSlot b fun x => { x with state := .live }) b true).evt RST_EVT rstPROMOTED) 3

/-- A VALID slot is checked again before it is used (R375); the check fails for the reasons of R372. -/
def recheck (s : State) (b : Bool) : State × Bool :=
  match slotVerdict s (slotWords s b) (s.slot b).content with
  | (_, some _) => (s, true)
  | (k, none) => (((setSlot (s.updSlot b fun x => { x with cause := k }) b .bad).evt RST_EVT rstCHKFAIL).raise Src.slotCheckFail (b2n b), false)

/-- The understudy: a core at claim 8 beside the lead. -/
def understudy (s : State) : Option Core := match s.lead? with
  | none => none
  | some l => if (s.core l.other).claim = .c8 then some l.other else none

/-- The update begins (R390, step 1): the understudy lowers its claim to 4 and the field-side sections are sent to be staged. -/
def updateBegin (s : State) (b : Bool) (c : Stagebook) (u : Core) : State :=
  let s1 := (setClaim s u .c4 .update).updCore u fun x => { x with phase := .copying }
  let s2 := s1.updStore fun x => { x with upd := some (b, 1), staged := [] }
  cmdRun (sendChunks s2 c b true) 4

/-- UPDATE (R389): refused for the first of its conditions, in the order of the refusal codes, that does not hold. -/
def update (s : State) (b : Bool) : State :=
  if cmdBusy s || fetchRuns s || s.cue.scene.target.isSome then cmdRefuse s 4 rfBUSY
  else if isInForce s b then cmdRefuse s 4 rfIN_FORCE
  else if (s.slot b).state ≠ .valid then cmdRefuse s 4 rfSTATE
  else
    let (s1, ok) := recheck s b
    if !ok then cmdRefuse s1 4 rfSTATE
    else match (s.slot b).content, inForce s with
      | some c, some f =>
        if c.cast.ring ≠ f.cast.ring ∨ c.cast.node ≠ f.cast.node then cmdRefuse s1 4 rfCAST
        else if c.cueCrc ≠ f.cueCrc ∨ c.guardCrc ≠ f.guardCrc then cmdRefuse s1 4 rfSHEET
        else if c.cmp.isSome ≠ f.cmp.isSome then cmdRefuse s1 4 rfCMP
        else match understudy s with
          | none => cmdRefuse s1 4 rfCLAIM
          | some u => updateBegin s1 b c u
      | _, _ => cmdRefuse s1 4 rfCAST

/-- SHEET (R388). -/
def sheetCmd (s : State) (b : Bool) : State :=
  if cmdBusy s then cmdRefuse s 5 rfBUSY
  else if isInForce s b then cmdRefuse s 5 rfIN_FORCE
  else if (s.slot b).state ≠ .valid then cmdRefuse s 5 rfSTATE
  else
    let (s1, ok) := recheck s b
    if ok then cmdRun (s1.updStore fun x => { x with sheet := some b }) 5 else cmdRefuse s1 5 rfSTATE

/-- ABANDON (R376). -/
def abandon (s : State) (b : Bool) : State :=
  let st := (s.slot b).state
  if isInForce s b then cmdRefuse s 6 rfIN_FORCE
  else if st = .open_ ∨ st = .valid ∨ st = .bad then
    cmdDone (setSlot (s.updSlot b fun x => { x with content := none }) b .empty) 6
  else cmdRefuse s 6 rfSTATE

/-- The key commands are taken from the QSPI port and the debug port only (R374). -/
def keyPath (p : Path) : Bool := decide (p = .qspi) || decide (p = .debugPort)

/-- A key slot's state and its state word change (R365, R373). -/
def keyState (s : State) (k : Fin 4) (v : Nat) : State :=
  (s.setWord (storeBase + 0x78900 + 2 * k.val) (wd v)).updStore fun x => { x with keys := vset x.keys k v }

/-- The key slot that RST_KEY_SEL names for a path. -/
def keySel (s : State) (p : Path) : Fin 4 := ⟨fld (s.regSel RST_KEY_SEL p.code) 1 0 % 4, by omega⟩

/-- KEYWR (R374). -/
def keyWrite (s : State) (p : Path) (b : Bool) : State :=
  let k := keySel s p
  if !keyPath p then cmdRefuse s 8 rfPATH
  else if k = 0 ∨ vget s.store.keys k ≠ 0 then cmdRefuse s 8 rfKEY
  else if (s.slot b).state ≠ .open_ then cmdRefuse s 8 rfSTATE
  else
    let s1 := s.setWords (storeBase + 0x78800 + 64 * k.val) (s.words (slotBase b) 32)
    cmdDone (setSlot (keyState s1 k 1) b .empty) 8

/-- KEYREV (R374). -/
def keyRevoke (s : State) (p : Path) : State :=
  let k := keySel s p
  if !keyPath p then cmdRefuse s 9 rfPATH else if k = 0 then cmdRefuse s 9 rfKEY else cmdDone (keyState s k 2) 9

/-- FUSE (R374). -/
def blowFuse (s : State) (p : Path) : State :=
  if !keyPath p then cmdRefuse s 10 rfPATH else cmdDone (s.updStore fun x => { x with fuse := true }) 10

/-- RST_CMD (R393). -/
def rstCmd (s : State) (p : Path) (code : Nat) (b : Bool) : State :=
  if cmdBusy s then cmdRefuse s code rfBUSY
  else match code with
    | 1 => slotOpen s b
    | 2 => slotClose s b
    | 3 => promote s b
    | 4 => update s b
    | 5 => sheetCmd s b
    | 6 => abandon s b
    | 8 => keyWrite s p b
    | 9 => keyRevoke s p
    | 10 => blowFuse s p
    | _ => cmdRefuse s code rfBADCMD

/-- Row SLOT_OPEN (R376). -/
def execSlotOpen (path : Path) (b : Bool) (t : Nat) (s : State) : Out := done (rstCmd (s.at t) path 1 b)
/-- Row SLOT_CLOSE (R376). -/
def execSlotClose (path : Path) (b : Bool) (t : Nat) (s : State) : Out := done (rstCmd (s.at t) path 2 b)
/-- Row PROMOTE (R377). -/
def execPromote (path : Path) (b : Bool) (t : Nat) (s : State) : Out := done (rstCmd (s.at t) path 3 b)
/-- Row UPDATE (R389, R390). -/
def execUpdate (path : Path) (b : Bool) (t : Nat) (s : State) : Out := done (rstCmd (s.at t) path 4 b)
/-- Row SHEET (R388). -/
def execSheet (path : Path) (b : Bool) (t : Nat) (s : State) : Out := done (rstCmd (s.at t) path 5 b)
/-- Row ABANDON (R376). -/
def execAbandon (path : Path) (b : Bool) (t : Nat) (s : State) : Out := done (rstCmd (s.at t) path 6 b)
/-- Row KEYWR (R374). -/
def execKeywr (path : Path) (b : Bool) (t : Nat) (s : State) : Out := done (rstCmd (s.at t) path 8 b)
/-- Row KEYREV (R374). -/
def execKeyrev (path : Path) (t : Nat) (s : State) : Out := done (rstCmd (s.at t) path 9 false)
/-- Row FUSE (R374). -/
def execFuse (path : Path) (t : Nat) (s : State) : Out := done (rstCmd (s.at t) path 10 false)
/-- Row BADCMD (R393): a code that names no command. -/
def execBadcmd (path : Path) (code : Fin 16) (t : Nat) (s : State) : Out :=
  done (if [1, 2, 3, 4, 5, 6, 8, 9, 10].contains code.val then s.at t else rstCmd (s.at t) path code.val false)

/-! The write port (R376). -/

/-- The slot that is OPEN. -/
def openSlot (s : State) : Option Bool :=
  if (s.slot false).state = .open_ then some false else if (s.slot true).state = .open_ then some true else none

/-- A write to aperture word i (R376). -/
def apertureWrite (s : State) (i : Nat) (v : Word) : State :=
  let at_ := fld (s.reg RST_WP_ADDR_H) 0 0 * 65536 + (s.reg RST_WP_ADDR_L).toNat
  let overrun (s : State) : State := (s.evt RST_EVT rstWPOVR).raise Src.apertureOverrun 0
  let s1 := match openSlot s with
    | none => overrun s
    | some b => if at_ + i < 98304 then s.setWord (slotBase b + 2 * (at_ + i)) v else overrun s
  if i = 31 ∧ (openSlot s).isSome then
    let n := (at_ + 32) % 131072
    (s1.setReg RST_WP_ADDR_H (putFld (n / 65536) 0 0)).setReg RST_WP_ADDR_L (wd n)
  else s1

/-- Row WP_DATA (R376): the word of the aperture, the value. -/
def execWpData (i : Fin 32) (v : Word) (t : Nat) (s : State) : Out := done (apertureWrite (s.at t) i.val v)

/-- SLOT_CHECK_DONE (R372, R376): what the sections say where no rule finds them invalid, and whether an uncorrectable error was met,
whose cause is left open (R366). -/
def slotChecked (s : State) (b : Bool) (content : Option Stagebook) (ecc : Bool) : State :=
  if (s.slot b).state ≠ .checking then s
  else
    let s0 := cmdDone s 2
    let bad (s : State) (k : Nat) : State :=
      ((setSlot (s.updSlot b fun x => { x with cause := k, content := none }) b .bad).evt RST_EVT rstCHKFAIL).raise Src.slotCheckFail (b2n b)
    if ecc then bad s0.usedFree (fld s.free 3 0)
    else match slotVerdict s (slotWords s b) content with
      | (_, some c) => (setSlot (s0.updSlot b fun x => { x with content := some c, cause := 0 }) b .valid).evt RST_EVT rstCHKDONE
      | (k, none) => bad s0 k

/-- Row SLOT_CHECK_DONE (R366, R372, R376). -/
def execSlotCheckDone (b : Bool) (content : Option Stagebook) (ecc : Bool) (t : Nat) (s : State) : Out :=
  done (slotChecked (s.at t) b content ecc)

/-- The new sheet stands in the inactive bank (R100, R388). -/
def sheetLoaded (s : State) : State :=
  match s.store.sheet with
  | none => s
  | some b => match (s.slot b).content with
    | none => s
    | some c =>
      let s1 := s.updCue fun x => { x with banks := vset x.banks (bankIx (!x.bank)) (some c.sheet) }
      cmdDone ((s1.updStore fun x => { x with sheet := none, sheetSlot := some b }).evt RST_EVT rstSHEETLD) 5

/-- Row SHEET_LOADED (R388). -/
def execSheetLoaded (t : Nat) (s : State) : Out := done (sheetLoaded (s.at t))

/-! Scrubbing (R382). -/

/-- The words of a slot pass the checks 4-9; a slot of two kept copies holds the second after the first (R380). -/
def scrubOk (s : State) (b : Bool) : Bool :=
  let ws := slotWords s b
  let bad (l : List Word) : Bool := let k := slotCause s l; decide (4 ≤ k) && decide (k ≤ 9)
  !bad ws && !((s.slot b).two && bad (ws.drop (ofWords [wAt ws 4, wAt ws 5])))

/-- One slot is scrubbed: one that fails becomes BAD. -/
def scrubSlot (s : State) (b ecc : Bool) : State :=
  let x := s.slot b
  if x.state = .empty ∨ x.state = .open_ then s
  else if !ecc && scrubOk s b then s
  else
    let k := if ecc then fld s.free 3 0 else slotCause s (slotWords s b)
    let s1 := if ecc then s.usedFree else s
    let s2 := setSlot ((keptLost s1 b).updSlot b fun x => { x with cause := k }) b .bad
    ((s2.bump RST_SCRUB_ERR).evt RST_EVT rstSCRUBERR).raise Src.scrubFail (b2n b)

/-- Row SCRUB (R366, R382), with what it finds in slot A and in slot B. -/
def execScrub (a b : SlotScrub) (t : Nat) (s : State) : Out :=
  let s1 := s.at t
  done (if s1.bit RST_CTRL 15 then scrubSlot (scrubSlot (s1.countSel RST_ECC_C 0 (a.corrected + b.corrected)) false a.bad) true b.bad
    else s1)

/-- COMPACTION_COPY (R387): the oldest live record is copied forward between writes. -/
def compact (s : State) : State :=
  match s.store.jrn.live with
  | [] => s
  | (b, _) :: _ => if jrnBusy s || !jrnNear s then s else s.updJrn fun j => { j with writing := some (b, true), compacting := true }

/-- Row COMPACTION_COPY (R387, R391). -/
def execCompactionCopy (t : Nat) (s : State) : Out := done (compact (s.at t))

/-! Kept copies (R192, R380). -/

/-- A kept copy is wanted for a side and waits to be written. -/
def keptDue (k : Option KeptCopy) : Bool := match k with | none => false | some c => !c.placed

/-- KEPT_COPY_WRITE (R380): into the slot not in force once that qualifies. -/
def keptWrite (s : State) : State :=
  let b := spareSlot s
  let st := (s.slot b).state
  let qualifies := s.store.force.isSome && (decide (st = .empty) || decide (st = .bad) || decide (st = .live) || decide (st = .kept))
  if !qualifies || !(keptDue s.fab.keptW || keptDue s.fab.keptE) then s
  else
    let w := match s.fab.keptW with | none => [] | some c => c.words
    let e := match s.fab.keptE with | none => [] | some c => c.words
    let fit := decide (w.length + e.length ≤ 98304)
    let ws := if fit then w ++ e else w
    let place (k : Option KeptCopy) : Option KeptCopy := k.map fun c => { c with placed := true }
    let s1 := s.setWords (slotBase b) ws
    let s2 := s1.updFab fun f => { f with keptW := place f.keptW, keptE := if fit then place f.keptE else none }
    let s3 := setSlot (s2.updSlot b fun x => { x with two := fit && !w.isEmpty && !e.isEmpty, content := none, cause := 0 }) b .kept
    if fit then s3 else (s3.evt RST_EVT rstKEEPFIT).raise Src.keptNotFitting 0

/-- Row KEPT_COPY_WRITE (R192, R380, R391). -/
def execKeptCopyWrite (t : Nat) (s : State) : Out := done (keptWrite (s.at t))

/-! A fetched stagebook (R194, R381). -/

/-- A stagebook compiled for another number, or for another ring where the node knows its own, is not taken (R194). -/
def fetchFits (s : State) (c : Stagebook) : Bool :=
  decide (c.cast.node = s.fab.fetch.node) && (!s.ringKnown || decide (c.cast.ring = s.ringNo))

/-- A fetched kept copy waits to be written (R192, R380). -/
def fetchedKept (s : State) (p : Port) (c : Stagebook) : State :=
  let k : KeptCopy := ⟨s.fab.fetch.node, wd c.gen.toNat, s.fab.fetch.words, false⟩
  keepNext (s.updFab fun f => match p with
    | .west => { f with keptW := some k, fetch := .init }
    | .east => { f with keptE := some k, fetch := .init })

/-- A fetched stagebook of the node's own is written, made LIVE and loaded: at once where no slot is in force, else by a warm
restart (R381). -/
def fetchedOwn (s : State) (c : Stagebook) : State :=
  let b := spareSlot s
  let s1 := s.setWords (slotBase b) s.fab.fetch.words
  let s2 := (keptLost s1 b).updFab fun f => { f with fetch := .init }
  let s3 := slotRecord (s2.updSlot b fun _ => ⟨.live, 0, false, some c⟩) b true
  let s4 := if s.store.force.isSome then warmRestart s3 3
    else keepNext (loadSelected (s3.updJrn fun j => { j with forced := some c.sheet.id }))
  s4.evt FAB_EVT fabFETCHOK

/-- FETCH_END (R194, R381): the status, the total length, and what the sections say where no rule finds them invalid. -/
def fetchEnd (s : State) (source status total : Nat) (content : Option Stagebook) : State :=
  let x := s.fab.fetch
  if !fetchRuns s || decide (source ≠ fetchSource s) then s
  else if status ≠ 0 ∨ total ≠ x.words.length then fetchNext s
  else
    let good := match slotVerdict s x.words content with
      | (_, some c) => if fetchFits s c then some c else none
      | (_, none) => none
    match good, x.keep with
    | some c, none => fetchedOwn s c
    | some c, some p => fetchedKept s p c
    | none, none => fetchNext s
    | none, some _ => fetchFrom s x.src x.node x.rounds x.keep

/-- Row FETCH_END (R194, R200, R381). -/
def execFetchEnd (source : Fin 4096) (status : Word) (total : DWord) (content : Option Stagebook) (t : Nat) (s : State) : Out :=
  done ((s.at t).delivered fun s => fetchEnd s source.val status.toNat total.toNat content)

/-! The hitless update (R390). -/

/-- UPDATE_RESYNC_DONE (R390, steps 2, 4 and 5): the core has resynchronised and returns to claim 8. -/
def updateResync (s : State) (c : Core) : State :=
  match s.store.upd, s.lead? with
  | some (b, 2), some l =>
    if l = c ∨ (s.core c).claim ≠ .c4 then s
    else swapRequest ((rejoinEnd s c l).updStore fun x => { x with upd := some (b, 3) }) c .update
  | some (b, 4), some l =>
    if l = c ∨ (s.core c).claim ≠ .c4 then s
    else
      let s1 := slotInForce (rejoinEnd s c l) b
      cmdDone ((s1.updStore fun x => { x with upd := none }).evt RST_EVT rstUPDDONE) 4
  | _, _ => s

/-- Row UPDATE_RESYNC_DONE (R390). -/
def execUpdateResyncDone (c : Core) (t : Nat) (s : State) : Out := done (updateResync (s.at t) c)

/-- UPDATE_SWAP (R390, steps 3 and 4): the cores swap, the staged sections take effect at the field die, and the former lead lowers
its claim to take the new sections. -/
def updateSwap (s : State) : State :=
  match s.store.upd, s.lead? with
  | some (b, 3), some l => match (s.slot b).content with
    | none => s
    | some c =>
      if s.lead.swapDue.isNone then swapRequest s l.other .update
      else
        let s1 := swapNow s
        if s1.lead? ≠ some l.other then s1
        else
          let s2 := hubSections s1 c
          let s3 := s2.each s.store.staged.reverse fun s tag => chunkApply s tag b
          let s4 := (setClaim s3 l .c4 .update).updCore l fun x => { x with phase := .copying }
          s4.updStore fun x => { x with upd := some (b, 4), staged := [] }
  | _, _ => s

/-- Row UPDATE_SWAP (R390). -/
def execUpdateSwap (t : Nat) (s : State) : Out := done (updateSwap (s.at t))

/-! What the RST block shows (R393). -/

def rstStat (s : State) : Word :=
  bitW (secure s) 15 ||| putFld (match s.store.force with | none => 0 | some b => 1 + b2n b) 14 13 ||| bitW s.store.base 12 |||
  bitW s.store.upd.isSome 11 ||| putFld (match s.store.upd with | none => 0 | some (_, k) => k) 10 8
def rstCmdStat (s : State) : Word := putFld s.store.cmd.state 15 14 ||| putFld s.store.cmd.last 11 8 ||| putFld s.store.cmd.refuse 3 0
def rstSlot (s : State) (b : Bool) : Word :=
  let x := s.slot b
  putFld x.state.code 15 13 ||| bitW (isInForce s b) 12 ||| bitW (decide (x.state = .kept) && x.two) 11 ||| putFld x.cause 3 0
/-- The generation of a slot, 0 unless VALID or LIVE. -/
def rstGen (s : State) (b : Bool) : DWord :=
  let x := s.slot b
  match x.content with
  | none => 0
  | some c => if x.state = .valid ∨ x.state = .live then c.gen else 0
def rstSheet (s : State) (b : Bool) : Word := match (s.slot b).content with | none => 0 | some c => wd c.sheet.id
def rstJrnStat (s : State) : Word :=
  let j := s.store.jrn
  bitW j.writing.isSome 15 ||| bitW j.compacting 14 ||| bitW (!j.held.isEmpty) 13
def rstJrnLive (s : State) : Word := wd ((s.store.jrn.live.foldl (fun n x => n + jrnSize x.1) 0) / 16)
def rstKeyStat (s : State) : Word :=
  putFld (vget s.store.keys 3) 7 6 ||| putFld (vget s.store.keys 2) 5 4 ||| putFld (vget s.store.keys 1) 3 2 ||| putFld (vget s.store.keys 0) 1 0

end Sys2Proof.Machine
end

