-- ==== Sys2Proof/Machine/View.lean ====
section
/-! DEFINITION. What the registers that hold no value of their own show: one function for each block over the offset in its
page (R32, R61, R105, R107, R140, R141, R173, R200, R234, R235, R274, R339, R340, R364, R393, R415, R437, R467, R468, R492,
R522, R523, R532). A register that a function does not list shows its stored value. -/

namespace Sys2Proof.Machine

/-- The words of a 32-bit value. -/
def hiW (n : Nat) : Word := wd (n / 65536)
def loW (n : Nat) : Word := wd n

/-- The copy of a register that an access through a path reaches; none where the selection names nothing. -/
def selOf (s : State) (path : Path) (a : Nat) (k : SelKind) : Option Nat :=
  let sel (r : Nat) : Word := s.regSel r path.code
  let below (n k : Nat) : Option Nat := if k < n then some k else none
  match k with
  | .one => some 0
  | .path => some path.code
  | .core => some (viewCore s path).ix.val
  | .port => below 20 (fld (sel SWQ_SEL) 15 11)
  | .queue => (below 20 (fld (sel SWQ_SEL) 15 11)).map fun p => 4 * p + fld (sel SWQ_SEL) 10 9
  | .endpoint => some (fld (sel BRG_EP_SEL) 4 0)
  | .forwarding => some (fld (sel SIG_FWD_SEL) 2 0)
  | .source => some (fld (sel FLT_SRC_SEL) 9 0)
  | .sourceCore => some (2 * fld (sel FLT_SRC_SEL) 9 0 + (viewCore s path).ix.val)
  | .breakpoint => (below 12 (fld (sel DBG_ENG_SEL) 11 8)).map fun n => 4 * n + fld (sel DBG_BP_SEL) 1 0
  | .buffer => below 14 (fld (sel DBG_TRC_SEL) 3 0)
  | .engine => below 14 (fld (sel (CLU_MAP_SEL (blockIndex a))) 3 0)
  | .channel => below 24 (fld (sel ADC_SEL) 4 0)
  | .adc => (below 24 (fld (sel ADC_SEL) 4 0)).map (· / 2)
  | .unit => below 24 (fld (sel PLS_PU_SEL) 4 0)
  | .filter => some (fld (sel (CAN_FLT_SEL (blockIndex a))) 4 0)
  | .fuse => some (fld (sel PWR_EF_SEL) 3 0)

def viewHUB (s : State) (path : Path) (o : Nat) : Option Word :=
  match o with
  | 0x04 => some (bitW Config.orderFS 15)
  | 0x06 => some (putFld path.code 2 0)
  | 0x0A => some (hubRstCause s)
  | _ => none

def viewLNK (s : State) (o : Nat) : Option Word :=
  let port (o : Nat) (p : Port) : Option Word := match o with
    | 0x02 => some (lnkStat s p)
    | 0x04 => some (lnkEye s p)
    | 0x06 => some (lnkEb s p)
    | 0x08 => some (lnkSkew s p)
    | 0x16 => some (lnkHold s p)
    | _ => none
  if o = 0x02 then some (lnkState s)
  else if o = 0x06 then some ((s.reg LNK_BYP &&& 0xC000) ||| bitW s.start.bypassLow 13)
  else if 0x20 ≤ o ∧ o < 0x40 then port (o - 0x20) .west
  else if 0x40 ≤ o ∧ o < 0x60 then port (o - 0x40) .east
  else none

/-- The selected cue table entry's registers. -/
def viewEnt (s : State) (path : Path) (f : CueEntry → Word) : Option Word :=
  some (match cueEnt s (fld (s.regSel CUE_ENT_SEL path.code) 10 0) with | none => 0 | some e => f e)

def viewCUE (s : State) (path : Path) (o : Nat) : Option Word :=
  let lenq := match s.sheet with | none => 0 | some c => c.lenq
  match o with
  | 0x00 => some (cueRole s)
  | 0x06 => some (putFld (lenq / 65536) 6 0)
  | 0x08 => some (loW lenq)
  | 0x0A => some (match s.sheet with | none => 0 | some c => wd c.evpos)
  | 0x0C => some (putFld s.cue.phase 6 0)
  | 0x0E => some (wd (ownClaim s))
  | 0x10 => some (wd s.cue.prompter.peer)
  | 0x12 => some (relayReg s)
  | 0x26 => some (sceneCtrl s)
  | 0x2E => some (sceneStat s)
  | 0x30 => some (match s.sheet with | none => 0 | some c => wd c.id)
  | 0x32 => some (match s.sheetAt (!s.cue.bank) with | none => 0 | some c => wd c.id)
  | 0x40 => some (wingReg s)
  | 0x46 => viewEnt s path cueEntCfg
  | 0x48 => viewEnt s path fun e => wd e.posA
  | 0x4A => viewEnt s path fun e => wd e.posB
  | 0x4C => viewEnt s path cueEntXl
  | 0x4E => viewEnt s path fun e => wd e.id
  | _ => none

def viewGRD (s : State) (path : Path) (o : Nat) : Option Word :=
  let tcrc := match s.sheet with | none => 0 | some c => c.tcrc.toNat
  let ent := grdEnt s (fld (s.regSel GRD_ENT_SEL path.code) 10 0)
  match o with
  | 0x00 => some (grdStat s)
  | 0x02 => some (hiW tcrc)
  | 0x04 => some (loW tcrc)
  | 0x12 => some ent.1
  | 0x14 => some ent.2
  | _ => none

def viewTIM (s : State) (o : Nat) : Option Word :=
  match o with
  | 0x00 => some (timStat s)
  | 0x22 => some (hiW (timM s .a))
  | 0x24 => some (loW (timM s .a))
  | 0x26 => some (hiW (timM s .b))
  | 0x28 => some (loW (timM s .b))
  | 0x2A => some (timErr s .a)
  | 0x2C => some (timErr s .b)
  | 0x2E => some (timHops s .a)
  | 0x30 => some (timHops s .b)
  | 0x36 => some (hiW (timCbl s .west))
  | 0x38 => some (loW (timCbl s .west))
  | 0x3A => some (hiW (timCbl s .east))
  | 0x3C => some (loW (timCbl s .east))
  | 0x3E => some (timClose s .a)
  | 0x40 => some (timClose s .b)
  | 0x42 => some (hiW (timLoop s .a))
  | 0x44 => some (loW (timLoop s .a))
  | 0x46 => some (hiW (timLoop s .b))
  | 0x48 => some (loW (timLoop s .b))
  | _ => none

def viewSWQ (s : State) (path : Path) (o : Nat) : Option Word :=
  let w := s.regSel SWQ_SEL path.code
  match o with
  | 0x06 => some (putFld (freeCells s) 13 0)
  | 0x18 => some (match place? 20 (fld w 15 11) with | none => 0 | some p => putFld (inputUse s p.val) 13 0)
  | 0x1C => some (match place? 20 (fld w 15 11) with | none => 0 | some p => putFld (cellsOf (s.queue p (fld w 10 9))) 13 0)
  | 0x1E => some (swqBp s).1
  | 0x20 => some (swqBp s).2
  | 0x22 => some (swqCut s).1
  | 0x24 => some (swqCut s).2
  | 0x26 => some (swqIbuf s)
  | 0x28 => some (swqTstore s .a)
  | 0x2A => some (swqTstore s .b)
  | _ => none

def viewFAB (s : State) (path : Path) (o : Nat) : Option Word :=
  let dest := fabDest s (fld (s.regSel FAB_DEST_SEL path.code) 11 0)
  let route := fabRoute s (fld (s.regSel FAB_RT_SEL path.code) 3 0)
  match o with
  | 0x00 => some (fabStat s)
  | 0x06 => some (putFld s.fab.node 11 0)
  | 0x08 => some (match s.fab.tables with | none => 0 | some t => putFld t.ring 3 0)
  | 0x0A => some (fabPos s)
  | 0x0C => some (putFld s.fab.loop 11 0)
  | 0x0E => some (putFld s.fab.hA 11 0)
  | 0x10 => some (putFld s.fab.hB 11 0)
  | 0x16 => some (fabRcStat s)
  | 0x18 => some s.fab.rollNum
  | 0x1A => some (if s.prompting then putFld s.fab.lastSeen 11 0 else 0)
  | 0x1C => some (if s.prompting then putFld s.fab.uncast 11 0 else 0)
  | 0x1E => some (Config.uniqueId 0)
  | 0x20 => some (Config.uniqueId 1)
  | 0x22 => some (Config.uniqueId 2)
  | 0x24 => some (Config.uniqueId 3)
  | 0x28 => some dest.1
  | 0x2A => some dest.2
  | 0x2E => some route.1
  | 0x30 => some route.2.1
  | 0x32 => some route.2.2
  | 0x34 => some (fabJoint s)
  | 0x36 => some (advertised s)
  | 0x3A => some (fabGrp s (fld (s.regSel FAB_GRP_SEL path.code) 6 0))
  | 0x3E => some (fabFetchStat s)
  | _ => none

/-- BRG_EP_STAT of an endpoint: back-pressured while it holds every tag or descriptors wait, paced while its window of R203
is full. -/
def brgEpStat (s : State) (i : Fin 32) : Word :=
  let e := vget s.brg.eps i
  let tags := (tagsHeld s i.val).length
  bitW (decide (64 ≤ tags) || !e.held.isEmpty) 15 ||| bitW (!e.held.isEmpty && decide (65535 ≤ (windowOf s e).length)) 14 |||
  bitW e.ploss 13 ||| putFld tags 6 0

/-- BRG_STAT. -/
def brgStat (s : State) : Word :=
  let cells := (s.brg.cells.toList.filter (·.owner.isSome)).length
  bitW s.brg.lock.isSome 15 ||| bitW (!s.brg.staged.isEmpty) 14 ||| putFld s.brg.staged.length 13 8 ||| putFld cells 4 0

def viewBRG (s : State) (path : Path) (o : Nat) : Option Word :=
  let ep (f : Fin 32 → Word) : Option Word :=
    some (match place? 32 (fld (s.regSel BRG_EP_SEL path.code) 4 0) with | none => 0 | some i => f i)
  let owner : Option Issuer := match place? 16 (fld (s.regSel BRG_SEM_SEL path.code) 3 0) with
    | none => none
    | some c => (vget s.brg.cells c).owner
  match o with
  | 0x02 => some (brgStat s)
  | 0x10 => ep (brgEpStat s)
  | 0x12 => ep fun i => (vget s.brg.eps i).seq
  | 0x18 => some (match owner with | none => 0 | some x => putFld x.ring 15 12 ||| putFld x.node 11 0)
  | 0x1A => some (match owner with | none => 0 | some x => bitW true 15 ||| putFld x.ep 4 0)
  | 0x1E => some (putFld s.brg.ferr.length 3 0)
  | _ => none

def viewLU (s : State) (o : Nat) : Option Word :=
  match o with
  | 0x02 => some (luStat s)
  | 0x0E => some (luMgn s .c0)
  | 0x10 => some (luMgn s .c1)
  | 0x12 => some 0
  | 0x14 => some (luHw s)
  | 0x18 => some (luNoSpare s)
  | 0x1A => some (putFld s.lead.hist.length 4 0)
  | 0x24 => some (luRejCnt s)
  | 0x36 => some (luTally s)
  | _ => none

def viewFLT (s : State) (path : Path) (o : Nat) : Option Word :=
  let c := viewCore s path
  match o with
  | 0x02 => some (fltStat s c)
  | 0x12 => some (fltSrcStat s c (fld (s.regSel FLT_SRC_SEL path.code) 9 0))
  | 0x18 => some (fltRecG s)
  | 0x1A => some (fltLogLvl s c)
  | 0x38 => some (fltSelf s)
  | _ => none

def viewRST (s : State) (o : Nat) : Option Word :=
  match o with
  | 0x02 => some (rstStat s)
  | 0x0A => some (rstCmdStat s)
  | 0x0C => some (rstSlot s false)
  | 0x0E => some (rstSlot s true)
  | 0x10 => some (hiW (rstGen s false).toNat)
  | 0x12 => some (loW (rstGen s false).toNat)
  | 0x14 => some (hiW (rstGen s true).toNat)
  | 0x16 => some (loW (rstGen s true).toNat)
  | 0x18 => some (rstSheet s false)
  | 0x1A => some (rstSheet s true)
  | 0x20 => some (rstJrnStat s)
  | 0x22 => some (wd s.store.jrn.seq.toNat)
  | 0x24 => some (rstJrnLive s)
  | 0x26 => some (putFld (min 255 (storeWear s)) 7 0)
  | 0x30 => some (rstKeyStat s)
  | _ => none

/-- HST_STAT. -/
def hstStat (s : State) : Word :=
  bitW (vget s.host.ups 0).up 15 ||| bitW (vget s.host.ups 1).up 14 ||| putFld (vget s.host.ups 1).speed 13 12

def viewHST (s : State) (o : Nat) : Option Word :=
  match o with
  | 0x02 => some (hstStat s)
  | 0x1E => some (bitW s.host.ptpLock 15 ||| bitW s.host.ptpTwoStep 14)
  | 0x20 => some (satInt16 s.host.ptpOfs)
  | 0x24 => some (putFld s.host.qsResult 15 12 ||| putFld s.host.qsStatus 5 0)
  | 0x28 => some (intmStat s)
  | 0x30 => some (putFld s.host.wake.length 4 0)
  | _ => none

def viewDBG (s : State) (path : Path) (o : Nat) : Option Word :=
  match o with
  | 0x02 => some (dbgStat s)
  | 0x0A => some 0
  | 0x0C => some (dbgEngStat s path)
  | 0x10 => some (dbgRegRead s path)
  | 0x24 => some (trcLvl s path)
  | 0x30 => some 0
  | _ => none

def viewSIG (s : State) (o : Nat) : Option Word :=
  match o with
  | 0x02 => some (pendH s)
  | 0x04 => some s.heard.1
  | 0x06 => some s.heard.2
  | 0x0E => some (putFld s.brg.inbox.length 5 0)
  | _ => none

def viewCMP (s : State) (o : Nat) : Option Word :=
  if o < 0x40 ∧ !cmpOn s then some 0
  else if 0x30 ≤ o ∧ o < 0x3C then some (cmpAct s ((o - 0x30) / 2))
  else match o with
    | 0x04 => some (putFld s.fab.node 7 0)
    | 0x06 => some (putFld (cmpCycle s) 7 0)
    | 0x08 => some (putFld (cmpCycle s / 256) 7 0)
    | 0x0C => some (putFld s.cue.cycle.toNat 7 0)
    | 0x80 => some (bitW (cmpOn s) 15)
    | 0x82 => some (cmpStat s)
    | 0x8A => some (cmpInpub s)
    | _ => none

/-- FLD_BAR_STAT (R32). -/
def barStat (s : State) : Word :=
  let spares (b : BarDirState) : Nat := b2n (b.active.getLsbD 8) + b2n (b.active.getLsbD 9)
  bitW (barCarries (s.bdir .hf) && barCarries (s.bdir .fh)) 15 |||
  bitW ((s.bdir .hf).retraining || (s.bdir .fh).retraining) 14 |||
  putFld (spares (s.bdir .hf)) 3 2 ||| putFld (spares (s.bdir .fh)) 1 0

/-- FLD_MGN_STAT (R32). -/
def mgnStat (s : State) : Word :=
  (List.finRange 12).foldl (fun w n => w ||| bitW (belowMargin (vget s.margins n) (s.fld FLD_MGN_THR 15 8)) n.val) 0

def viewFLD (s : State) (o : Nat) : Option Word :=
  match o with
  | 0x02 => some (barStat s)
  | 0x04 => some ((s.bdir .hf).failed.setWidth 16)
  | 0x06 => some ((s.bdir .fh).failed.setWidth 16)
  | 0x10 => some (mgnStat s)
  | 0x2A => some 0
  | _ => match place? 12 ((o - 0x12) / 2) with
    | some n => if 0x12 ≤ o then some ((vget s.margins n).live ++ (vget s.margins n).low) else none
    | none => none

def viewPIN (s : State) (b o : Nat) : Option Word :=
  if o < 0xC0 then some (if o % 4 = 0 then pinCfgWord s b (o / 4) else pinFltWord s b (o / 4))
  else if o < 0xC6 then some (pinLvl s b ((o - 0xC0) / 2))
  else if o < 0xCC then some (pinGaps s b ((o - 0xC6) / 2))
  else if o < 0xD2 then some (pinTgl s b ((o - 0xCC) / 2))
  else none

def viewCLU (s : State) (path : Path) (n : Fin 12) (o : Nat) : Option Word :=
  let sel (r : Nat → Nat) : Nat := fld (s.regSel (r n.val) path.code) 3 0
  match o with
  | 0x02 => some (cluStat s n)
  | 0x08 => some 0
  | 0x0E => some (cluMap s n (sel CLU_MAP_SEL))
  | 0x10 => some (cluEngCfg s n (sel CLU_MAP_SEL))
  | 0x16 => some (cluPhyRet s n)
  | 0x18 => some (cluPacOwn s n 0)
  | 0x1A => some (cluPacOwn s n 1)
  | 0x1C => some (cluPacOwn s n 2)
  | 0x1E => some (cluPacOwn s n 3)
  | 0x22 => some (cluCdtCfg s n (sel CLU_CDT_SEL))
  | 0x24 => some (cluCdtLvl s n (sel CLU_CDT_SEL))
  | 0x2A => some (cluRgnCfg s n (sel CLU_RGN_SEL))
  | 0x2C => some (cluRgnWin s n (sel CLU_RGN_SEL))
  | 0x2E => some (cluRgnLen s n (sel CLU_RGN_SEL))
  | 0x30 => some (cluRgnHub s n (sel CLU_RGN_SEL))
  | 0x32 => some (cluPimg s n)
  | 0x3A => some (s.cl n).lastMig
  | 0x52 => some (cluXbCfg s n (sel CLU_XB_SEL))
  | _ => none

def viewADC (s : State) (path : Path) (o : Nat) : Option Word :=
  let k := fld (s.regSel ADC_SEL path.code) 4 0
  let c : Fin 2 := ⟨k % 2, by omega⟩
  let at_ (f : Fin 12 → Word) : Option Word := some (match place? 12 (k / 2) with | none => 0 | some n => f n)
  match o with
  | 0x04 => some (adcCal s)
  | 0x06 => some (adcStarved s)
  | 0x08 => at_ (adcGrid s)
  | 0x0C => at_ fun n => adcSched s n true
  | 0x0E => at_ fun n => adcSched s n false
  | 0x10 => at_ fun n => adcChCfg s n c
  | 0x18 => at_ fun n => adcVal s n c
  | 0x1A => at_ fun n => adcFlags s n c
  | _ => none

def viewPLS (s : State) (path : Path) (o : Nat) : Option Word :=
  match place? 24 (fld (s.regSel PLS_PU_SEL path.code) 4 0), o with
  | some _, 0x06 => some (s.regSel PLS_PU_CTRL path.code &&& 0x380F)
  | some u, 0x08 => some (puStat (vget s.pulses u))
  | none, o => if 0x06 ≤ o ∧ o ≤ 0x1E then some 0 else none
  | _, _ => none

def viewCAN (s : State) (c : Fin 4) (o : Nat) : Option Word :=
  match o with
  | 0x02 => some (canStat s c)
  | 0x08 => some 0
  | 0x16 => some (canErrc s c)
  | 0x1C => some (canRxLvl s c)
  | 0x1E => some (canTxLvl s c)
  | 0x2C => some (canLec s c)
  | 0x5C => some 0
  | 0x5E => some 0
  | _ => none

def viewPWR (s : State) (o : Nat) : Option Word :=
  let p := s.power
  match o with
  | 0x02 => some (pwrStat s)
  | 0x08 => some (wd (vget p.feeds 0).volts)
  | 0x0A => some (wd (vget p.feeds 1).volts)
  | 0x0C => some (wd p.huVolts)
  | 0x0E => some (wd p.vpwr)
  | 0x10 => some (satInt16 (vget p.feeds 0).amps)
  | 0x12 => some (satInt16 (vget p.feeds 1).amps)
  | 0x22 => some (putFld p.share 9 0)
  | 0x28 => some (cfStat s)
  | 0x2C => some (satInt16 p.temp)
  | _ => none

def viewEF (s : State) (path : Path) (o : Nat) : Option Word :=
  let c : Fin 16 := ⟨fld (s.regSel PWR_EF_SEL path.code) 3 0 % 16, by omega⟩
  match o with
  | 0x04 => some (efStat s c)
  | 0x06 => some (wd (s.fuse c).amps)
  | 0x44 => some (efTmod s c)
  | 0x46 => some (efTdio s c)
  | 0x48 => some (efAcc s c)
  | 0x62 => some 0
  | 0x64 => some (efLockMask s)
  | 0x66 => some (efLiveMask s)
  | _ => none

/-- What the register at a canonical address shows through a path, where it holds no value of its own. -/
def regView (s : State) (path : Path) (a : Nat) : Option Word :=
  let o := a % 0x400
  let b := a / 0x400
  match b with
  | 0 => viewHUB s path o
  | 1 => viewLNK s o
  | 2 => viewCUE s path o
  | 3 => viewGRD s path o
  | 4 => viewTIM s o
  | 5 => viewSWQ s path o
  | 6 => viewFAB s path o
  | 7 => viewBRG s path o
  | 8 => viewLU s o
  | 9 => viewFLT s path o
  | 10 => viewRST s o
  | 11 => viewHST s o
  | 12 => viewDBG s path o
  | 13 => viewSIG s o
  | 14 => viewCMP s o
  | 64 => viewFLD s o
  | 80 => viewADC s path o
  | 81 => viewPLS s path o
  | 86 => viewPWR s o
  | 87 => viewEF s path o
  | _ =>
    if 65 ≤ b ∧ b ≤ 67 then viewPIN s (b - 65) o
    else if 68 ≤ b ∧ b ≤ 79 then (place? 12 (b - 68)).bind fun n => viewCLU s path n o
    else if 82 ≤ b ∧ b ≤ 85 then (place? 4 (b - 82)).bind fun c => viewCAN s c o
    else none

/-! Pops (R8, R9, R170). -/

/-- A read of BRG_FERR_W0 (R213, R234). -/
def ferrPop (s : State) (path : Path) : Word × State :=
  let rest (s : State) (a b c d e : Word) : State :=
    latchRegs s path [(BRG_FERR_W1, a), (BRG_FERR_W2, b), (BRG_FERR_W3, c), (BRG_FERR_W4, d), (BRG_FERR_W5, e)]
  match s.brg.ferr with
  | [] => (bitW true 15, rest s 0 0 0 0 0)
  | x :: t =>
    let s1 := if quiet s path then s else s.updBrg fun b => { b with ferr := t }
    (bitW x.cancelled 14 ||| putFld x.op.code 13 10 ||| putFld x.status 5 0,
      rest s1 (putFld x.src.ring 15 12 ||| putFld x.src.node 11 0) (putFld x.tag 15 10 ||| putFld x.src.ep 4 0) (wd x.seq)
        (hiW x.addr) (loW x.addr))

/-- A read of SIG_RX_W0 (R220, R235). -/
def inboxPop (s : State) (path : Path) : Word × State :=
  let rest (s : State) (a b c d : Word) : State :=
    latchRegs s path [(SIG_RX_W1, a), (SIG_RX_W2, b), (SIG_RX_W3, c), (SIG_RX_W4, d)]
  match s.brg.inbox with
  | [] => (bitW true 15, rest s 0 0 0 0)
  | x :: t =>
    let s1 := if quiet s path then s else s.updBrg fun b => { b with inbox := t }
    (putFld x.num 7 0, rest s1 (putFld x.src.ring 15 12 ||| putFld x.src.node 11 0) (putFld x.src.ep 4 0) x.d0 x.d1)

/-- BRG_EVT read with PLOSS set clears the endpoints' PLOSS (R219, R234). -/
def brgEvtRead (s : State) (path : Path) : Word × State :=
  let w := s.reg BRG_EVT
  (w, if bitOf w 9 && !quiet s path then s.updBrg fun b => { b with eps := b.eps.map fun e => { e with ploss := false } } else s)

/-- PLS_ES_LVL: LOST clears, LEVEL shows (R135, R141). -/
def esLvlRead (s : State) (path : Path) (n : Fin 12) : Word × State :=
  let v := s.reg (PLS_ES_LVL n.val)
  ((v &&& 0xFF00) ||| putFld (s.fifo n).entries.length 6 0, if quiet s path then s else s.setReg (PLS_ES_LVL n.val) 0)

/-- The reads that pop or latch (R105, R136, R137, R352, R415, R437, R489, R518, R526). -/
def regPop (s : State) (path : Path) (a : Nat) : Option (Word × State) :=
  if a = CUE_CYC_H then some (cueLatchRead s path .cyc)
  else if a = CUE_T_SMP_H then some (cueLatchRead s path .smp)
  else if a = CUE_T_LAT_H then some (cueLatchRead s path .lat)
  else if a = CUE_T_FLP_H then some (cueLatchRead s path .flp)
  else if a = TIM_SEC_H then some (timSecHRead s path)
  else if a = TIM_OFS_SEC_H then some (timOfsSecHRead s path)
  else if a = BRG_EVT then some (brgEvtRead s path)
  else if a = BRG_FERR_W0 then some (ferrPop s path)
  else if a = LU_HIST_W0 then some (histPop s path)
  else if a = FLT_LOG_W0 then some (fltPop s path)
  else if a = HST_WAKE_W0 then some (wakePop s path)
  else if a = DBG_TRC_W0 then some (trcPop s path)
  else if a = SIG_RX_W0 then some (inboxPop s path)
  else if a = CMP_R_IN 0 then some (cmpIn0Read s path)
  else if 0x14420 ≤ a ∧ a < 0x14438 then (place? 12 ((a - 0x14420) / 2)).map (esLvlRead s path)
  else if 0x14480 ≤ a ∧ a < 0x144E0 ∧ a % 8 = 0 then (place? 12 ((a - 0x14480) / 8)).map (esPop s path)
  else if 82 ≤ a / 0x400 ∧ a / 0x400 ≤ 85 then (place? 4 (a / 0x400 - 82)).bind fun c =>
    if a % 0x400 = 0x40 then some (canPop s path c false)
    else if a % 0x400 = 0x42 then some (canPop s path c true)
    else if a % 0x400 = 0x52 then some (canData s path c)
    else none
  else none

end Sys2Proof.Machine
end

