-- ==== Sys2Proof/Machine/Access.lean ====
section
/-! DEFINITION. Accesses to the local address space (R28-R30, R207, R493-R503): register writes with their guarded
sequences (R499-R502), their journal records (R383, R384) and what follows from them; register reads with their side
effects and the parity check (R498); words of the memories; and the requests and responses of REG_ACCESS messages (R495). -/

namespace Sys2Proof.Machine

/-! What follows from a register write. Each function answers the state after it, or none where the register is not its
own; `old` and `new` are the stored values before and after, `v` the word written. -/

/-- The node's margin monitors restart their minimum at the next measurement (R32, R415). -/
def clearMargins (s : State) (v : Word) : State :=
  { s with margins := Vector.ofFn fun n => { vget s.margins n with restart := (vget s.margins n).restart || bitOf v n.val } }
def clearCoreMargin (s : State) (v : Word) (c : Core) : State :=
  if bitOf v c.ix.val then s.updCore c fun x => { x with margin := { x.margin with restart := true } } else s

/-- Hub blocks 0-7. -/
def afterHubLow (s : State) (path : Path) (a k : Nat) (old new v : Word) : State :=
  if a = HUB_RESET then (if bitOf new 15 then warmCommand s else s)
  else if a = LNK_CTRL then portEnables old s
  else if a = LNK_CMD .west then lnkCmd s .west v
  else if a = LNK_CMD .east then lnkCmd s .east v
  else if a = CUE_SCN_CTRL then
    let s1 := if bitOf new 15 then sceneArm s else s
    if bitOf new 14 then sceneCancel s1 else s1
  else if a = SWQ_QUOTA then (match place? 20 k with
    | none => s
    | some i => quotaWritten s i)
  else if a = FAB_RC_CTRL then (if bitOf new 15 then rollStart s else s)
  else if a = FAB_FETCH_CTRL then
    (if bitOf new 13 then (if s.fab.node = 0 then s.updFab fun f => { f with fetch := .init } else fetchBegin s) else s)
  else if a = BRG_SEM_CTRL then
    (if bitOf new 15 then (match place? 16 (fld (s.regSel BRG_SEM_SEL path.code) 3 0) with
      | none => s
      | some i => s.updBrg fun b => { b with cells := vset b.cells i ⟨none, 0⟩ })
    else s)
  else s

/-- Hub blocks 8-14. -/
def afterHubHigh (s : State) (path : Path) (a k : Nat) (old new v : Word) : State :=
  if a = LU_CMD then luCmd s new
  else if a = LU_MGN_CLR then clearCoreMargin (clearCoreMargin s v .c0) v .c1
  else if a = FLT_SRC_CFG then
    (if k = Src.curtainFall then s.setRegSel a k (new ||| 0xC000) else s)
  else if a = FLT_INJ then fltInjWrite s new
  else if a = RST_CMD then rstCmd s path (fld new 15 12) (bitOf new 0)
  else if 0x2840 ≤ a ∧ a < 0x2880 then apertureWrite s ((a - 0x2840) / 2) v
  else if a = HST_INTM then intmWrite s new
  else if a = DBG_CTRL then scanBegins (scanTap s.dbg.tap && bitOf old 13) s
  else if a = DBG_ENG_CMD then dbgCmd s path v
  else if a = DBG_ENG_REG then dbgRegWrite s path v
  else if a = DBG_TRC_CLR then trcClear s v
  else if a = CMP_R_COMMIT then cmpCommit s
  else if a = SIG_FWD_SRC then (match place? 8 k with
    | none => s
    | some i => s.updBrg fun b => { b with fwdSeen := vset b.fwdSeen i (fwdSource s new) })
  else if 0x3820 ≤ a ∧ a < 0x382C then cmpStage (s.setReg a old) ((a - 0x3820) / 2) v
  else s

/-- Field blocks. -/
def afterField (s : State) (path : Path) (a : Nat) (old new v : Word) : State :=
  let o := a % 0x400
  let b := a / 0x400
  if a = FLD_MGN_CLR then clearMargins s v
  else if PLS_PU_CTRL ≤ a ∧ a ≤ PLS_PU_CNT ∧ (place? 24 (fld (s.regSel PLS_PU_SEL path.code) 4 0)).isNone then
    s.setRegSel a path.code old
  else if a = PLS_PU_CTRL then puCtrlWrite s path.code v
  else if a = PWR_CMD then (if bitOf new 15 then curtain s 3 else s)
  else if a = PWR_EF_RESET then efReset s v
  else if a = FI_CTRL then fiCtrlWrite s new
  else if 68 ≤ b ∧ b ≤ 79 ∧ o = 0x08 then (match place? 12 (b - 68) with | none => s | some n => cluCmd s n v)
  else if 82 ≤ b ∧ b ≤ 85 then (match place? 4 (b - 82) with
    | none => s
    | some c =>
      if o = 0x00 then canCtrlWritten old c s
      else if o = 0x08 then canCmd s c v
      else if o = 0x5C then canTxData s path c v
      else if o = 0x5E then canTxPush s path c
      else s)
  else s

/-- What a write to copy k of a register does beyond its fields. -/
def regAfter (s : State) (path : Path) (a k : Nat) (old new v : Word) : State :=
  if a < 0x2000 then afterHubLow s path a k old new v
  else if a < 0x10000 then afterHubHigh s path a k old new v
  else afterField s path a old new v

/-! Register writes. -/

/-- The value a write leaves in a register: RW and WG bits are set, W1C bits cleared, the others stay (R7, R10). -/
def writtenValue (r : RegRow) (old v : Word) : Word :=
  ((old &&& ~~~ wd r.rw) ||| (v &&& wd r.rw)) &&& ~~~ (v &&& wd r.w1c)

/-- R440: a threshold write that brings V_good within 1 V of V_fail, or V_ovp within 2 V of V_good, is not performed. -/
def thresholdRefused (s : State) (a : Nat) (v : Word) : Bool :=
  let f := if a = PWR_VFAIL then v.toNat else (s.reg PWR_VFAIL).toNat
  let g := if a = PWR_VGOOD then v.toNat else (s.reg PWR_VGOOD).toNat
  let o := if a = PWR_VOVP then v.toNat else (s.reg PWR_VOVP).toNat
  (decide (a = PWR_VFAIL) || decide (a = PWR_VGOOD) || decide (a = PWR_VOVP)) && !thresholdsOk f g o

/-- A register copy takes a value, with all that follows. A W1C register that each core holds is cleared in both, since a write
reaches both (R397). -/
def regTake (s : State) (path : Path) (r : RegRow) (a k : Nat) (v : Word) : State :=
  let old := s.regSel a k
  let new := writtenValue r old v
  let s1 := if r.sel = .core then (s.setRegSel a 0 (writtenValue r (s.regSel a 0) v)).setRegSel a 1 (writtenValue r (s.regSel a 1) v)
    else s.setRegSel a k new
  regAfter s1 path a k old new v

/-- The persistent write that begins its record takes effect with it (R384). -/
def regBegin (s : State) (a k : Nat) (v : Word) : State :=
  regAfter (s.setRegSel a k v) .service a k (s.regSel a k) v v

/-- Blocks 22 and 23, whose registers the power die holds (R464). -/
def powerReg (a : Nat) : Bool := decide (0x15800 ≤ a) && decide (a < 0x16000)

/-- An accepted write (R11, R383, R384, R440, R450): the register takes the value, and a persistent one begins its journal
record, or is held with it until the record under way has committed. -/
def regAccept (s : State) (path : Path) (a : Nat) (v : Word) : State :=
  match regRow? a with
  | none => s
  | some r => match selOf s path a r.sel with
    | none => s
    | some k =>
      if !r.persistent then regTake s path r a k v
      else if s.power.cfStep ≠ 0 then (s.bump PWR_CF_NOTP).raise Src.persistRefused 0
      else if thresholdRefused s a v then s
      else
        let s1 := regTake s path r a k v
        if jrnBusy s then jrnField s a k (writtenValue r (s.regSel a k) v) else jrnField s1 a k (s1.regSel a k)

/-- Writes to the power die's registers wait for its link (R464). -/
def regPut (s : State) (path : Path) (a : Nat) (v : Word) : State :=
  if powerReg a && !s.power.link then s.updPower fun p => { p with linkWrites := p.linkWrites ++ [(path, a, v)] }
  else regAccept s path a v

/-! Guarded sequences (R499-R502). -/

/-- The codes of R501. -/
abbrev gwVALUE : Nat := 1
abbrev gwLATE : Nat := 2
abbrev gwBETWEEN : Nat := 3
abbrev gwORPHAN : Nat := 4
abbrev gwSIZE : Nat := 5

/-- SPACE and WORD of HUB_PAR_LAST and HUB_GW_LAST (R522). -/
def regName (a : Nat) : Word := bitW (decide (0x10000 ≤ a)) 15 ||| putFld (a / 2) 14 0

/-- A sequence for a register fails (R501). -/
def gwFail (s : State) (path : Path) (a cause : Nat) : State :=
  ((((s.bump HUB_GW_FAIL).setReg HUB_GW_STAT (putFld cause 15 13 ||| putFld path.code 12 10)).setReg HUB_GW_LAST (regName a)).raise
    Src.guardedFail path.code)

def State.path (s : State) (p : Path) : PathState := s.paths.toArray.getD p.code .init
def State.updPath (s : State) (p : Path) (f : PathState → PathState) : State :=
  match place? 5 p.code with
  | none => s
  | some i => { s with paths := vupd s.paths i f }

/-- The sequence a side of the node holds armed for a path (R500, R502). -/
def armed (s : State) (path : Path) (field : Bool) : Option Guarded := if field then (s.path path).field else (s.path path).hub
def setArmed (s : State) (path : Path) (field : Bool) (g : Option Guarded) : State :=
  s.updPath path fun p => if field then { p with field := g } else { p with hub := g }

/-- The 2 µs of an armed sequence have passed without a twin (R499). -/
def guardLate (s : State) (path : Path) (field : Bool) : State :=
  match armed s path field with
  | none => s
  | some g => if g.at_ + 2 * usT < s.now then gwFail (setArmed s path field none) path g.addr gwLATE else s

/-- Another register write of the path breaks an armed sequence. -/
def guardBreak (s : State) (path : Path) (field : Bool) : State :=
  match armed s path field with
  | none => s
  | some g => gwFail (setArmed s path field none) path g.addr gwBETWEEN

/-- The WG register whose twin stands at a canonical address (R499). -/
def twinOf (a : Nat) : Option Nat :=
  let b := a ^^^ 0x80
  match regRow? a, regRow? b with
  | none, some r => if r.guarded then some b else none
  | _, _ => none

/-- A twin write (R499, R501). -/
def twinWrite (s0 : State) (path : Path) (field : Bool) (a : Nat) (v : Word) (single : Bool) : State :=
  let s := guardLate s0 path field
  match armed s path field with
  | none => gwFail s path a (if single then gwORPHAN else gwSIZE)
  | some g =>
    if g.addr ≠ a then gwFail (guardBreak s path field) path a (if single then gwORPHAN else gwSIZE)
    else
      let s1 := setArmed s path field none
      if !single then gwFail s1 path a gwSIZE
      else if v ≠ ~~~ g.value then gwFail s1 path a gwVALUE
      else regPut s1 path a g.value

/-- The value write of a guarded sequence arms it (R499, R501). -/
def valueWrite (s0 : State) (path : Path) (field : Bool) (a : Nat) (v : Word) (single : Bool) : State :=
  let s := guardBreak (guardLate s0 path field) path field
  if single then setArmed s path field (some ⟨a, v, s.now⟩) else gwFail s path a gwSIZE

/-- A write to a register that is neither: RO and reserved fields ignore it, as does an unlisted register (R7, R496). -/
def plainWrite (s0 : State) (path : Path) (field : Bool) (a : Nat) (v : Word) : State :=
  regPut (guardBreak (guardLate s0 path field) path field) path a v

/-- One register write as the side that holds the register takes it (R496, R499, R501). -/
def regWrite (s : State) (path : Path) (addr : Nat) (v : Word) (single : Bool) : State :=
  let a := canonReg addr
  let field := decide (0x10000 ≤ a)
  match twinOf a with
  | some b => twinWrite s path field b v single
  | none =>
    if (match regRow? a with | none => false | some r => r.guarded) then valueWrite s path field a v single
    else plainWrite s path field a v

/-- A write to a field register leaves the hub: it stands between the two writes of a hub-side sequence of its path
(R501). -/
def hubPasses (s : State) (path : Path) : State := guardBreak (guardLate s path false) path false

/-! Configuration parity (R498). -/

/-- RO registers whose value the stagebook loads: in PIN, CLU and ADC blocks the configuration of pins, engines, conduits,
regions, cross-bar and channels. -/
def loadedReg (a : Nat) : Bool :=
  let o := a % 0x400
  let b := a / 0x400
  (decide (65 ≤ b) && decide (b ≤ 67) && decide (o < 0xC0)) ||
  (decide (68 ≤ b) && decide (b ≤ 79) && [0x10, 0x18, 0x1A, 0x1C, 0x1E, 0x22, 0x2A, 0x2C, 0x2E, 0x30, 0x32, 0x52].contains o) ||
  (decide (b = 80) && [0x0C, 0x0E, 0x10].contains o)

/-- A configuration register carries a parity bit. -/
def hasParity (a : Nat) : Bool := match regRow? a with
  | none => false
  | some r => decide (r.rw ≠ 0) || loadedReg a

/-- A parity mismatch of a register is counted, recorded and reported: source 0x0A0 for a hub register, 0x0A2 for a field
register. DETAIL is the block's number times 128 plus the register's (notes/assumptions/50.md). -/
def parityFound (s : State) (a : Nat) (inj : Option (Core × Bool)) : State :=
  let d := a / 0x400 % 64 * 128 + a % 0x100 / 2
  let s1 := (s.bump HUB_PAR_ERR).setReg HUB_PAR_LAST (regName a)
  if a < 0x10000 then raiseHub s1 Src.hubParity d inj else raiseField s1 Src.fieldParity d (inj.map (·.2))

/-- The parity check of one register (R434, R498): only an injection makes it fail here; a mismatch of its own is the scrubber's
operand. -/
def parityCheck (s : State) (a : Nat) : State :=
  if !hasParity a then s
  else if a < 0x10000 then
    match hubCheck s Src.hubParity with
    | (none, s1) => s1
    | (some i, s1) => parityFound s1 a (some i)
  else
    match fieldCheck s Src.fieldParity with
    | (none, s1) => s1
    | (some dry, s1) => parityFound s1 a (some (.c0, dry))

/-- A mismatch is met (R498): the register is rewritten with the value last accepted, which the model never loses, or, where the
shadow copy fails as well, with its value under R11. -/
def parityMismatch (s : State) (a k : Nat) (shadow : Bool) : State :=
  let s1 := match regRow? a with
    | none => s
    | some r => if shadow && decide (r.rw ≠ 0) then
        s.setRegSel a k (restMask a (regRestore (regKey a k))
          (match jrnValue s.store.jrn a k with | some (v, _) => v | none => itemValue s.store.items a k))
      else s
  parityFound s1 a none

/-! Register reads. -/

/-- The duplicated blocks, which a view of a core at claim 0 reads as 0 (R394, R397). -/
def duplicated (a : Nat) : Bool := decide (a < 0x10000) && [2, 5, 6, 7, 9, 11, 13, 14].contains (a / 0x400)

/-- The copy of a counter that a read through a path reaches: the viewed core's, where each core has one (R394, R397). -/
def servedCopy (s : State) (path : Path) (r : RegRow) (a k : Nat) : Nat :=
  if twinCounted a && decide (r.rc ≠ 0) then k + twinSel (viewCore s path) else k

/-- One register read (R7-R9, R496-R498, R510): what the register shows, and its side effects. -/
def regRead (s0 : State) (path : Path) (addr : Nat) : Word × State :=
  let a := canonReg addr
  match regRow? a with
  | none => (0, s0)
  | some r =>
    let s := parityCheck s0 a
    if duplicated a && viewBlank s path then (0, s)
    else match regPop s path a with
      | some x => x
      | none => match selOf s path a r.sel with
        | none => (0, s)
        | some k0 =>
          let k := servedCopy s path r a k0
          let held := s.regSel a k
          ((regView s path a).getD held, if r.rc = 0 || quiet s path then s else s.setRegSel a k (held &&& ~~~ wd r.rc))

/-- Registers read one after the other (R497). -/
def regReads (s : State) (path : Path) (addr : Nat) : Nat → List Word × State
  | 0 => ([], s)
  | n + 1 =>
    let (v, s1) := regRead s path addr
    let (vs, s2) := regReads s1 path (addr + 2) n
    (v :: vs, s2)

/-- Registers written one after the other (R497). -/
def regWrites (s : State) (path : Path) (addr : Nat) (single : Bool) : List Word → State
  | [] => s
  | v :: t => regWrites (regWrite s path addr v single) path (addr + 2) single t

/-! Memories. -/

/-- Where a local byte address leads (R28, R29). -/
inductive LocalPlace where
  | hubReg | fieldReg | cluster | publish | subscribe | snapshot | store | unmapped
  deriving DecidableEq, Repr

def localPlace (a : Nat) : LocalPlace :=
  if a < 0x10000 then .hubReg
  else if a < 0x20000 then .fieldReg
  else if 0x100000 ≤ a ∧ a < 0x400000 then (if a % 0x40000 < 0x30000 then .cluster else .unmapped)
  else if 0x400000 ≤ a ∧ a < 0x408000 then .publish
  else if 0x410000 ≤ a ∧ a < 0x418000 then .subscribe
  else if 0x420000 ≤ a ∧ a < 0x421000 then .snapshot
  else if 0x800000 ≤ a ∧ a < 0x880000 then .store
  else .unmapped

/-- A publish word that an OUT region of the node maps (R253, R257). -/
def outMapped (s : State) (w : Nat) : Bool :=
  s.clusters.toList.any fun c => match c.cfg with
    | none => false
    | some g => g.regions.any fun r => decide (r.kind = .out) && decide (r.hub ≤ w) && decide (w < r.hub + r.len)

/-- A write to the word draws WRITER (R257, R529). -/
def pubRefuses (s : State) (w : Nat) : Bool := outMapped s w || cmpHolds s w

/-- A refused write of the word a COMMIT owns shows in CMP_EVT as well (R529). -/
def pubRefused (s : State) (w : Nat) : State := if cmpHolds s w then s.evt CMP_EVT cmpWRITER else s

/-- The publish word of the health word, which the bridge alone writes (R412). -/
def isHealth (s : State) (w : Nat) : Bool := match inForce s with
  | none => false
  | some b => decide (b.health = some w)

def pubWrite (s : State) (w : Nat) (v : Word) : State := if isHealth s w then s else s.setFillWord w v

/-- Words from publish word w: as one unit, where one refused word refuses all; or a burst, word by word (R207). -/
def pubWrites (s : State) (burst : Bool) (w : Nat) (vs : List Word) : Nat × State :=
  let at_ := (List.range vs.length).map (w + ·)
  let bad := at_.filter (pubRefuses s)
  let s1 := bad.foldl pubRefused s
  if !burst && !bad.isEmpty then (stWRITER, s1)
  else
    (if bad.isEmpty then stOK else stWRITER,
     (at_.zip vs).foldl (fun s x => if bad.contains x.1 then s else pubWrite s x.1 x.2) s1)

/-- Cluster and physical engine of a cluster window's address; no engine for shared memory (R29). -/
def windowOwner (a : Nat) : Option (Fin 12 × Option (Fin 16)) :=
  let o := a % 0x40000
  (place? 12 ((a - 0x100000) / 0x40000)).map fun n =>
    (n, if o < 0x8000 then none else if o < 0x10000 then place? 16 ((o - 0x8000) / 0x800) else place? 16 ((o - 0x10000) / 0x2000))

/-- A write to code memory during its engine's migration reaches the target as well, so that the copy is whole (R268). -/
def codeFollows (s : State) (n : Fin 12) (a : Nat) (v : Word) : State :=
  match (s.cl n).mig with
  | none => s
  | some m =>
    let o := a - codeBase n.val m.from_.val
    if codeBase n.val m.from_.val ≤ a ∧ o < 0x2000 then s.storeWord (codeBase n.val m.target.val + o) v else s

/-- An uncorrectable error found by a host read (R265, R569): counted, the physical engine suspect, its logical engine
migrates; DETAIL is the kind of memory times 16 plus the logical engine, 15 for none (notes/assumptions/45.md). -/
def hostEcc (s : State) (n : Fin 12) (p : Option (Fin 16)) (code : Bool) (inj : Option Bool) : State :=
  let s1 := (s.bump (CLU_ECC_U n.val)).cluEvt n cluECC_U
  match p with
  | none => raiseField s1 (Src.clu n.val 0xC) 15 inj
  | some p =>
    let kind := if code then 3 else 2
    let s2 := s1.updCl n fun c => { c with phys := vupd c.phys p fun x => { x with suspect := true } }
    match boundTo (s2.cl n) p with
    | none => raiseField s2 (Src.clu n.val 0xC) (16 * kind + 15) inj
    | some e => raiseField (migBegin s2 n e .failure) (Src.clu n.val 0xC) (16 * kind + e.val) inj

/-- One word of a cluster window read by a host (R265, R434). -/
def clusterRead (s : State) (a : Nat) : Nat × Word × State :=
  match windowOwner a with
  | none => (stUNMAPPED, 0, s)
  | some (n, p) =>
    let (inj, s1) := fieldCheck s (Src.clu n.val 0xC)
    if s1.marked a || inj.isSome then (stECC, 0, hostEcc s1 n p (decide (0x10000 ≤ a % 0x40000)) inj) else (stOK, s1.word a, s1)

def clusterReads (s : State) (a : Nat) : Nat → Nat × List Word × State
  | 0 => (stOK, [], s)
  | n + 1 =>
    let (st, v, s1) := clusterRead s a
    let (st2, vs, s2) := clusterReads s1 (a + 2) n
    (if st = stOK then st2 else st, v :: vs, s2)

def clusterWrites (s : State) (a : Nat) : List Word → State
  | [] => s
  | v :: t =>
    let s1 := s.storeWord a v
    clusterWrites (match windowOwner a with | none => s1 | some (n, _) => codeFollows s1 n a v) (a + 2) t

/-! Accesses. -/

/-- An access of the hub side: its status and data (R28-R30, R207). -/
def hubAccess (s : State) (x : LocalAccess) : Nat × List Word × State :=
  let single := decide (x.count ≤ 1)
  match localPlace x.addr, x.write with
  | .hubReg, some vs => (stOK, [], regWrites s x.path x.addr single vs)
  | .hubReg, none => let (vs, s1) := regReads s x.path x.addr x.count
                     (stOK, vs, s1)
  | .publish, some vs => let (st, s1) := pubWrites s x.burst ((x.addr - 0x400000) / 2) vs
                         (st, [], s1)
  | .publish, none => (stOK, (List.range x.count).map fun i => s.fillWord ((x.addr - 0x400000) / 2 + i), s)
  | .subscribe, some vs => (stOK, [], s.setWords x.addr vs)
  | .snapshot, some vs => (stOK, [], s.setWords x.addr vs)
  | .subscribe, none => (stOK, (List.range x.count).map fun i => subWord s ((x.addr - 0x410000) / 2 + i), s)
  | .snapshot, none => (stOK, s.words x.addr x.count, s)
  | .store, none => (stOK, s.words x.addr x.count, s)
  | _, _ => (stUNMAPPED, [], s)

/-- The access is the field die's to serve (R495). -/
def fieldServed (a : Nat) : Bool := match localPlace a with
  | .fieldReg | .cluster => true
  | _ => false

/-- An access as REG_ACCESS messages: one for a unit, one a word for a burst (R495, R497). -/
def sendAccess (s0 : State) (x : LocalAccess) : State :=
  let s := if x.write.isSome ∧ localPlace x.addr = .fieldReg then hubPasses s0 x.path else s0
  let id := s.brg.nextAccess
  let single := decide (x.count ≤ 1)
  let parts : List (Nat × Nat × Option (List Word)) :=
    if x.burst then (List.range x.count).map fun i => (x.addr + 2 * i, 1, x.write.map fun vs => [wAt vs i])
    else [(x.addr, x.count, x.write)]
  let s1 := s.updBrg fun b =>
    { b with nextAccess := id + 1, fieldWaits := b.fieldWaits ++ [⟨id, x.who, parts.length, stOK, []⟩] }
  s1.each parts fun s p => s.barReady .hf .regAccess (.regAccess id x.path p.1 p.2.1 p.2.2 single)

/-- An access begins: the hub side answers at once, the field side later. -/
def access (s : State) (x : LocalAccess) : Option (Nat × List Word) × State :=
  if fieldServed x.addr then (none, sendAccess s x)
  else
    let (st, vs, s1) := hubAccess s x
    (some (st, vs), s1)

/-- The access must wait at the field die: shared memory is locked (R258, R290), or the engine memory is between the stop and the
resume of a migration (R268). -/
def fieldMustWait (s : State) (addr : Nat) : Bool :=
  localPlace addr = .cluster &&
  (match windowOwner addr with
   | none => false
   | some (n, none) => (s.cl n).lock.isSome
   | some (n, some p) => match (s.cl n).mig with
     | none => false
     | some m => m.stopped && (decide (m.from_ = p) || decide (m.target = p)))

/-- A REG_ACCESS message is performed at the field die, and its response becomes ready (R495). -/
def fieldPerform (s : State) (id : Nat) (path : Path) (addr count : Nat) (write : Option (List Word)) (single : Bool) : State :=
  let (st, vs, s1) : Nat × List Word × State := match localPlace addr, write with
    | .fieldReg, some ws => (stOK, [], regWrites s path addr single ws)
    | .fieldReg, none => let (vs, s1) := regReads s path addr count
                         (stOK, vs, s1)
    | .cluster, some ws => (stOK, [], clusterWrites s addr ws)
    | .cluster, none => clusterReads s addr count
    | _, _ => (stUNMAPPED, [], s)
  s1.barReady .fh .regAccess (.regResponse id st (if st = stOK then vs else []))

/-- A response joins the access it answers: that access with nothing left to wait for, if so (R495). -/
def fieldAnswer (s : State) (id status : Nat) (data : List Word) : Option FieldWait × State :=
  match s.brg.fieldWaits.find? fun w => decide (w.id = id) with
  | none => (none, s)
  | some w =>
    let w1 : FieldWait := { w with left := w.left - 1, status := if w.status = stOK then status else w.status, data := w.data ++ data }
    let others := s.brg.fieldWaits.filter fun x => decide (x.id ≠ id)
    if w1.left = 0 then (some w1, s.updBrg fun b => { b with fieldWaits := others })
    else (none, s.updBrg fun b => { b with fieldWaits := others ++ [w1] })

/-! Rows of this chapter. -/

/-- Row GUARD_LATE (R501): the sequence that the hub side, or the field side, holds armed for a path. -/
def execGuardLate (path : Path) (field : Bool) (t : Nat) (s : State) : Out := done (guardLate (s.at t) path field)

/-- Row PARITY_SCRUB (R498): the scrubber passes every configuration register; the mismatch it meets, if any, at a register and
copy, and whether the shadow copy fails too. -/
def execParityScrub (found : Option (BitVec 17 × Word × Bool)) (t : Nat) (s : State) : Out :=
  let s1 := parityCheck (parityCheck (s.at t) SIG_CTRL) FLD_MGN_THR
  done (match found with
    | none => s1
    | some (addr, sel, shadow) =>
      let a := canonReg addr.toNat
      if hasParity a then parityMismatch s1 a sel.toNat shadow else s1)

end Sys2Proof.Machine
end

