-- ==== Sys2Proof/Machine/Bridge.lean ====
section
/-! DEFINITION. Ring transactions (R201-R231): how a target serves the requests that have reached its bridge, with its
duplicate filter, ordering, far lock, semaphore cells, staging buffer and inbox; and the commands of the requester's side. -/

namespace Sys2Proof.Machine

/-- An error status is logged (R213). -/
def farLog (s : State) (e : FarError) : State :=
  if s.brg.ferr.length < 8 then
    ((s.updBrg fun b => { b with ferr := b.ferr ++ [e] }).evt BRG_EVT brgFERR).raise Src.farError e.src.ep
  else (s.bump BRG_FERR_LOST).raise Src.farErrorFull 0

/-- A request has been served (R205, R212, R213, R215): an error is logged, the filter keeps the response, and it is sent unless the
operation draws none or has been cancelled. -/
def targetDone (s : State) (w : Waiting) (status : Nat) (data : List Word) : State :=
  let q := w.req
  let cancelled := match dupFind s q.src q.tag q.seq with | none => false | some d => d.cancelled
  let r : Response := ⟨status, if status = stOK then data else []⟩
  let s1 := if status = stOK then s else farLog s ⟨cancelled, w.op, status, q.src, q.tag, q.seq, q.addr⟩
  let s2 := dupUpdate s1 q.src q.tag q.seq fun d =>
    { d with done := true, response := if w.op.posted || d.cancelled then none else some r }
  if w.op.posted || cancelled then s2 else sendResponse s2 q r

/-! The outcome of an access to the local address space. -/

/-- An access of a local initiator ends: a word of a QSPI frame (R481), or a local access of the debug port (R508). -/
def finishLocal (s : State) (who : AccessFor) (status : Nat) (data : List Word) : State :=
  match who with
  | .qspi i => s.updHost fun h =>
      let bad := decide (status ≠ stOK) && decide (h.qsResult ≠ 7)
      { h with qsOut := match data with | [] => h.qsOut | v :: _ => h.qsOut.set i v
               qsLeft := h.qsLeft - 1
               qsResult := if bad then 7 else h.qsResult
               qsStatus := if bad then status else h.qsStatus }
  | .dap => if s.dbg.dapBusy then s.updDbg fun d =>
      { d with dap := 0, dapBusy := false, dapStatus := status, dapData := (data.head?).getD 0 } else s
  | _ => s

/-- An access of a local initiator begins. -/
def runLocal (s : State) (x : LocalAccess) : State :=
  match access s x with
  | (some (st, d), s1) => finishLocal s1 x.who st d
  | (none, s1) => s1

/-- While the target is locked the QSPI port, the envelope parsers and the service engine wait; the debug port does not (R223). -/
def localAccess (s : State) (x : LocalAccess) : State :=
  if s.brg.lock.isSome && decide (x.path ≠ .debugPort) then s.updBrg fun b => { b with blocked := b.blocked ++ [x] } else runLocal s x

/-- The target is unlocked, and the accesses that waited proceed (R223, R224). -/
def unlockTarget (s : State) : State :=
  (s.updBrg fun b => { b with lock := none, blocked := [] }).each s.brg.blocked runLocal

/-- An access that the bridge serves ends: LWR unlocks, an LRD that failed holds no lock (R223). -/
def finish (s : State) (who : AccessFor) (status : Nat) (data : List Word) : State :=
  match who with
  | .bridge w =>
    let s1 := targetDone s w status data
    let held := match s1.brg.lock with | none => false | some l => decide (l.owner = w.req.src)
    if held && (decide (w.op = .lwr) || (decide (w.op = .lrd) && decide (status ≠ stOK))) then unlockTarget s1 else s1
  | w => finishLocal s w status data

/-- The bridge begins an access. -/
def bridgeAccess (s : State) (w : Waiting) (write : Option (List Word)) : State :=
  let q := w.req
  let path : Path := if ownIssuer s q.src && (decide (q.src.ep = 1) || decide (q.src.ep = 2)) then .envelope else .bridge
  match access s ⟨path, .bridge w, q.addr, q.len + 1, q.burst, write⟩ with
  | (some (st, d), s1) => finish s1 (.bridge w) st d
  | (none, s1) => s1

/-! Performing a request. -/

/-- The node's ring has more than 64 nodes, or far lock is off (R223). -/
def lockMode (s : State) : Bool :=
  !s.bit BRG_CTRL 14 || decide (64 < (match s.fab.tables with | none => 0 | some t => t.size))

/-- The latch instant of cycle k has come (R76). -/
def latchPassed (s : State) (k : DWord) : Bool := decide ((instantsOf s k).2.1 ≤ s.ring)

/-- Where STG may stage: the publish area and cluster shared memory (R229). -/
def stageable (a : Nat) : Bool :=
  localPlace a = .publish || (localPlace a = .cluster && decide (a % 0x40000 < 0x8000))

/-- The status of an STG at the target (R229, R257). -/
def stgStatus (s : State) (q : Request) : Nat :=
  if q.src.ring ≠ s.ringNo ∨ !stageable q.addr then stSTG_ADDR
  else if latchPassed s (q.cycle - 1) then stSTG_LATE
  else if localPlace q.addr = .publish ∧ (List.range (q.len + 1)).any (fun i => pubRefuses s ((q.addr - 0x400000) / 2 + i)) then stWRITER
  else if 32 ≤ s.brg.staged.length then stSTG_FULL
  else stOK

/-- The words a request carries. -/
def reqData (q : Request) : List Word := (List.range (q.len + 1)).map (wAt q.data)

/-- The semaphore cell a request names. -/
def cellOf (s : State) (q : Request) : SemCell := match place? 16 q.cell with | none => ⟨none, 0⟩ | some i => vget s.brg.cells i
def setCell (s : State) (k : Nat) (c : SemCell) : State := match place? 16 k with
  | none => s
  | some i => s.updBrg fun b => { b with cells := vset b.cells i c }

/-- SEMACQ and SEMREL (R225). -/
def semAcquire (s : State) (w : Waiting) : State :=
  let q := w.req
  match (cellOf s q).owner with
  | none => targetDone (setCell s q.cell ⟨some q.src, s.now⟩) w stOK [0]
  | some o => if o = q.src then targetDone s w stOK [1] else targetDone s w stSEM_BUSY []
def semRelease (s : State) (w : Waiting) : State :=
  let q := w.req
  match (cellOf s q).owner with
  | none => targetDone s w stLOCK_TIMEOUT []
  | some o => if o = q.src then targetDone (setCell s q.cell ⟨none, 0⟩) w stOK [] else targetDone s w stNOT_OWNER []

/-- CANCEL (R212): header TAG and word 2 name the request. One not yet begun leaves its buffer unexecuted; a later copy of it, or of a request
that never came, finds it in the filter. -/
def cancelRequest (s : State) (w : Waiting) : State :=
  let q := w.req
  let src := q.src
  let named (x : Waiting) : Bool :=
    decide (x.req.src = src) && decide (x.req.tag = q.tag) && decide (x.req.seq = q.set) && !x.op.posted && decide (x.op ≠ .rsp)
  match s.brg.waiting.find? named with
  | some x =>
    farLog (dupUpdate (s.updBrg fun b => { b with waiting := b.waiting.erase x }) src q.tag q.set fun d => { d with done := true, cancelled := true })
      ⟨true, x.op, stTIMEOUT, src, q.tag, q.set, x.req.addr⟩
  | none => match dupFind s src q.tag q.set with
    | some d => if d.done then s else dupUpdate s src q.tag q.set fun d => { d with cancelled := true }
    | none => dupAdd s ⟨src, q.tag, q.set, none, true, true, .reserved⟩

/-- The far lock is released by its limit (R224). -/
def lockTimeout (s : State) : State := match s.brg.lock with
  | none => s
  | some l => unlockTarget (((s.bump BRG_LOCK_TMO).evt BRG_EVT brgLOCK_TMO).raise Src.farLockTimeout l.owner.ep)

/-- A cell is freed by its limit (R225). -/
def cellTimeout (s : State) (k : Fin 16) : State :=
  if (vget s.brg.cells k).owner.isSome then
    (((setCell s k.val ⟨none, 0⟩).bump BRG_SEM_TMO).evt BRG_EVT brgSEM_TMO).raise Src.cellTimeout k.val
  else s

/-- A lock or a cell whose limit a request meets is released before the request is served (R224, R225, R232). -/
def limitsFirst (s : State) : State :=
  let s1 := if s.brg.lock.any fun l => decide (l.since + 50 * usT ≤ s.now) then lockTimeout s else s
  s1.each (List.finRange 16) fun s k =>
    if (vget s.brg.cells k).owner.isSome ∧ (vget s.brg.cells k).at_ + 200 * usT ≤ s.now then cellTimeout s k else s

/-- A request that nothing holds back is performed (R205, R207, R208, R220-R231). -/
def perform (s : State) (w : Waiting) : State :=
  let q := w.req
  let answer (st : Nat) : State := targetDone s w st []
  let holds := match s.brg.lock with | none => false | some l => decide (l.owner = q.src)
  if !ownIssuer s q.src && !s.bit BRG_CTRL 15 then answer stUNMAPPED
  else if opBad w.op q.cg then answer stBAD_OP
  else if sizeBad w.op q.burst q.cg q.len q.addr then answer stSIZE
  else if q.cg && decide ((cellOf s q).owner ≠ some q.src) then answer stLOCK_TIMEOUT
  else match w.op with
    | .rd => bridgeAccess s w none
    | .wr | .pwr | .gwr => bridgeAccess s w (some (reqData q))
    | .lrd =>
      if lockMode s then answer stLOCK_MODE
      else bridgeAccess (s.updBrg fun b => { b with lock := some ⟨q.src, q.addr, q.len, s.now⟩ }) w none
    | .lwr =>
      if lockMode s then answer stLOCK_MODE
      else if !holds then answer stLOCK_TIMEOUT
      else if !(s.brg.lock.any fun l => decide (l.addr = q.addr) && decide (l.len = q.len)) then unlockTarget (answer stBAD_OP)
      else bridgeAccess s w (some (reqData q))
    | .semacq => semAcquire s w
    | .semrel => semRelease s w
    | .stg =>
      if stgStatus s q = stOK then
        targetDone (s.updBrg fun b => { b with staged := b.staged ++ [⟨q.src, q.set, q.cycle, q.addr, reqData q, false⟩] }) w stOK []
      else answer (stgStatus s q)
    | .commit =>
      let s1 := targetDone s w stOK []
      if latchPassed s q.cycle then s1
      else s1.updBrg fun b => { b with staged := b.staged.map fun x =>
        if x.src = q.src ∧ x.set = q.set ∧ x.cycle = q.cycle then { x with committed := true } else x }
    | .abort =>
      (targetDone s w stOK []).updBrg fun b =>
        { b with staged := b.staged.filter fun x => !(decide (x.src = q.src) && decide (x.set = q.set) && decide (x.cycle = q.cycle)) }
    | .sig =>
      (targetDone s w stOK []).updBrg fun b => { b with inbox := b.inbox ++ [⟨q.src, q.set, wAt q.data 0, wAt q.data 1⟩] }
    | .cancel => targetDone (cancelRequest s w) w stOK []
    | .range | .rsp | .reserved => answer stBAD_OP

/-! What holds a request back. -/

/-- A later request may pass an earlier one of the same source endpoint (R217). -/
def mayPass (later earlier : TxnOp) : Bool :=
  match txnKind later, txnKind earlier with
  | _, 1 => true
  | 1, 2 => true
  | _, _ => false

/-- An earlier request of the same source, still in the buffers or at the field die, must go first (R217, R218). -/
def mustKeepOrder (s : State) (w : Waiting) : Bool :=
  let first (x : Waiting) : Bool := decide (x.op ≠ .rsp) && decide (x.req.src = w.req.src) && !mayPass w.op x.op
  (s.brg.waiting.takeWhile fun x => decide (x ≠ w)).any first ||
  s.brg.fieldWaits.any fun x => match x.who with
    | .bridge y => first y
    | _ => false

/-- The far lock holds the request (R223): it is an access to the local address space, other than an LWR. -/
def lockHolds (s : State) (op : TxnOp) : Bool :=
  s.brg.lock.isSome && (match op with | .rd | .wr | .pwr | .gwr | .lrd => true | _ => false)

/-- A signal waits while the inbox is full (R220). -/
def inboxFull (s : State) (op : TxnOp) : Bool := decide (op = .sig) && decide (32 ≤ s.brg.inbox.length)

/-- A target takes a request from its buffers, which it enters now if it is not in them (R215-R217): a duplicate goes no further, and one that
must wait stays. -/
def serve (s : State) (w : Waiting) : State :=
  let s0 := limitsFirst s
  let s1 := if s0.brg.waiting.contains w then s0 else receiveRequest sendResponse s0 w
  if !s1.brg.waiting.contains w || mustKeepOrder s1 w || lockHolds s1 w.op || inboxFull s1 w.op then s1
  else perform (s1.updBrg fun b => { b with waiting := b.waiting.erase w }) w

/-- A row in which a target performs a request: one of the node's own, or one from the ring, which reaches no unit on the
dark-forwarding path (R209, R431). -/
def serveRow (op : TxnOp) (q : Request) (t : Nat) (s : State) : Out :=
  let s1 := s.at t
  done (if ownIssuer s1 q.src then serve s1 ⟨op, q⟩ else s1.delivered fun s => serve s ⟨op, q⟩)

/-- Row RD (R205). -/
def execRd (q : Request) (t : Nat) (s : State) : Out := serveRow .rd q t s
/-- Row WR (R205). -/
def execWr (q : Request) (t : Nat) (s : State) : Out := serveRow .wr q t s
/-- Row PWR (R205). -/
def execPwr (q : Request) (t : Nat) (s : State) : Out := serveRow .pwr q t s
/-- Row GWR (R226). -/
def execGwr (q : Request) (t : Nat) (s : State) : Out := serveRow .gwr q t s
/-- Row LRD (R223). -/
def execLrd (q : Request) (t : Nat) (s : State) : Out := serveRow .lrd q t s
/-- Row LWR (R224). -/
def execLwr (q : Request) (t : Nat) (s : State) : Out := serveRow .lwr q t s
/-- Row SEMACQ (R225). -/
def execSemacq (q : Request) (t : Nat) (s : State) : Out := serveRow .semacq q t s
/-- Row SEMREL (R225). -/
def execSemrel (q : Request) (t : Nat) (s : State) : Out := serveRow .semrel q t s
/-- Row STG (R229). -/
def execStg (q : Request) (t : Nat) (s : State) : Out := serveRow .stg q t s
/-- Row COMMIT (R231). -/
def execCommit (q : Request) (t : Nat) (s : State) : Out := serveRow .commit q t s
/-- Row ABORT (R231). -/
def execAbort (q : Request) (t : Nat) (s : State) : Out := serveRow .abort q t s
/-- Row SIG (R220). -/
def execSig (q : Request) (t : Nat) (s : State) : Out := serveRow .sig q t s
/-- Row CANCEL (R212). -/
def execCancel (q : Request) (t : Nat) (s : State) : Out := serveRow .cancel q t s

/-! The requester's side. -/

/-- Row REQUEST_ISSUE (R202-R209): a requester hands the bridge a descriptor. -/
def execRequestIssue (d : Descriptor) (t : Nat) (s : State) : Out := done (issue (s.at t) d .plain)

/-- Row RANGE (R227). -/
def execRange (d : Descriptor) (t : Nat) (s : State) : Out := done (issue (s.at t) { d with op := .range } .plain)

/-- Row COMMIT_DESCRIPTOR (R230). -/
def execCommitDescriptor (d : Descriptor) (t : Nat) (s : State) : Out := done (issue (s.at t) { d with op := .commit } .plain)

/-- A response reaches the requester's bridge, and a held request may go (R202, R210). -/
def response (s : State) (ep tag seq node status : Nat) (data : List Word) : State :=
  let mine (w : Waiting) : Bool :=
    decide (w.op = .rsp) && decide (w.req.src.ep = ep) && decide (w.req.tag = tag) && decide (w.req.seq = seq) && decide (w.req.src.node = node)
  let s1 := match s.brg.waiting.find? mine with
    | none => s
    | some w => s.updBrg fun b => { b with waiting := b.waiting.erase w }
  let s2 := answerTo s1 ep tag seq node status data
  match place? 32 ep with
  | none => s2
  | some i => pump s2 i

/-- Row RSP (R210): a response from a node, for an endpoint. -/
def execRsp (ep : Fin 32) (tag : Fin 64) (seq : Word) (node : Fin 4096) (status : Fin 64) (data : List Word) (t : Nat) (s : State) : Out :=
  done ((s.at t).delivered fun s => response s ep.val tag.val seq.toNat node.val status.val data)

/-- CANCEL goes to each target that has not answered (R211), each with a number of its own; one that the pacing holds stands first in line
(R203). -/
def sendCancel (s : State) (o : OpenReq) : State :=
  match place? 32 o.desc.ep with
  | none => s
  | some i =>
    let silent := o.expected.filter fun n => !o.answers.any fun a => decide (a.node = n)
    let targets := if o.expected.isEmpty then [o.desc.dnode] else silent
    s.each targets fun s n =>
      let d : Descriptor :=
        { o.desc with op := .cancel, dnode := n, burst := false, len := 0, cg := false, cell := o.tag, set := o.seq, data := [] }
      if windowFull s i then s.updBrg fun b => { b with eps := vupd b.eps i fun e => { e with held := ⟨d, .plain⟩ :: e.held } }
      else issueNow s i d .plain

/-- TXN_TIMEOUT (R211, R226-R228): a group write of another ring completes with the answers it has. -/
def txnTimeout (s : State) (ep : Fin 32) (tag seq : Nat) : State :=
  match openFind s ep.val tag seq with
  | none => s
  | some o =>
    let several := decide (o.desc.op = .gwr) || decide (o.desc.op = .range)
    let gathered := several && o.expected.isEmpty && !o.answers.isEmpty
    if !gathered && decide (o.attempts < fld (s.regSel BRG_EP_CFG ep.val) 13 12) then
      let o1 := { o with attempts := o.attempts + 1 }
      sendFrames (s.updBrg fun b => { b with opens := b.opens.map fun x => if x = o then o1 else x }) o.desc tag seq
    else
      let (st, ws) := if several then groupResult s o else (stTIMEOUT, [])
      if gathered then pump (openEnd s o st ws) ep
      else
        let s1 := openEnd s o st ws
        let s2 := ((s1.bumpSel BRG_EP_TMOC ep.val).evt BRG_EVT brgTIMEOUT).raise Src.requestTimeout ep.val
        pump (sendCancel s2 o) ep

/-- Row TXN_TIMEOUT (R211). -/
def execTxnTimeout (ep : Fin 32) (tag : Fin 64) (seq : Word) (t : Nat) (s : State) : Out :=
  done (txnTimeout (s.at t) ep tag.val seq.toNat)

/-- Row LOCK_RELEASE_TIMEOUT (R224). -/
def execLockReleaseTimeout (t : Nat) (s : State) : Out :=
  done (lockTimeout (s.at t))

/-- Row CELL_TIMEOUT (R225). -/
def execCellTimeout (k : Fin 16) (t : Nat) (s : State) : Out :=
  done (cellTimeout (s.at t) k)

/-- Row SEM_REL (R225, R234). -/
def execSemRel (k : Fin 16) (t : Nat) (s : State) : Out := done (setCell (s.at t) k.val ⟨none, 0⟩)

/-- Row DUP_ENTRY_EXPIRE (R215): an entry whose request has been served leaves the filter. -/
def execDupEntryExpire (ring : Fin 16) (node : Fin 4096) (ep : Fin 32) (tag : Fin 64) (seq : Word) (t : Nat) (s : State) : Out :=
  done ((s.at t).updBrg fun b =>
    { b with dups := b.dups.filter fun d => !(d.done && isKey ⟨ring.val, node.val, ep.val⟩ tag.val seq.toNat d) })

/-- Row PACING_RELEASE (R203). -/
def execPacingRelease (ep : Fin 32) (t : Nat) (s : State) : Out := done (pump (s.at t) ep)

/-- COMMIT or ABORT of a set goes out on both rings, and to the node's own bridge (R230). -/
def sendClosing (s : State) (x : OpenSet) (op : TxnOp) : State :=
  match place? 32 x.ep with
  | none => s
  | some i =>
    let (seq, s1) := takeSeq s i
    let d : Descriptor :=
      { ep := x.ep, op := op, dring := s.ringNo, dnode := 4095, count := 0, burst := false, len := 0, cg := false, cell := 0
        addr := 0, set := x.set, cycle := x.cycle, data := [] }
    let f := requestFrame s d 4095 0 seq
    let e : QEntry := ⟨f, 6, s.now, 0, some ⟨x.ep, 0, seq, op.code⟩, 0⟩
    let s2 := if s.fab.node = 0 then s1 else submit (submit (postedAdd s1 x.ep f) 0 e) 1 e
    receiveRequest replyOwn s2 (localRequest s d 0 seq 0)

/-- The completion of a COMMIT descriptor; a TXN conduit draws none (R250). -/
def closingDone (s : State) (x : OpenSet) (via : ReqVia) (status : Nat) (data : List Word) : State :=
  match via with
  | .conduit _ _ => s
  | v => giveCompletion s v ⟨x.ep, 0, 0, .commit, status, data⟩

/-- SET_CLOSE (R230): with every STG of the set completed, and its closing within the pacing (R203). -/
def setClose (s : State) (ep set : Nat) : State :=
  match setOpen s ep set with
  | none => s
  | some x => match x.closing with
    | none => s
    | some via =>
      let paced : Bool := match place? 32 ep with | none => false | some i => windowFull s i
      if x.open_ ≠ 0 ∨ paced then s
      else
        let guard : Int := (atLeastOne (s.reg BRG_STG_GUARD).toNat * usT : Nat)
        let s1 := s.updBrg fun b => { b with sets := b.sets.filter (· ≠ x) }
        match x.failed with
        | none =>
          if guard ≤ (instantsOf s x.cycle).2.1 - s.ring then closingDone (sendClosing s1 x .commit) x via stOK []
          else closingDone (((sendClosing s1 x .abort).evt BRG_EVT brgSTG_ABORT).raise Src.setAborted ep) x via stSTG_ABORT [0, 0]
        | some (n, st) =>
          closingDone (((sendClosing s1 x .abort).evt BRG_EVT brgSTG_ABORT).raise Src.setAborted ep) x via stSTG_ABORT [wd n, putFld st 5 0]

/-- Row SET_CLOSE (R230). -/
def execSetClose (ep : Fin 32) (set : Byte) (t : Nat) (s : State) : Out := done (setClose (s.at t) ep.val set.toNat)

/-- Row SIGNAL_RELEASE (R218). -/
def execSignalRelease (ep : Fin 32) (t : Nat) (s : State) : Out := done (releaseSigs (s.at t) ep)

/-- A SIG of forwarding entry i waits for its issue. -/
def fwdWaits (s : State) (i : Fin 8) : Bool :=
  let mine (d : Descriptor) : Bool := decide (d.op = .sig) && decide (d.count = i.val + 1)
  let e := vget s.brg.eps 5
  e.heldSigs.any mine || e.held.any fun h => mine h.desc

/-- SIG_FORWARD (R221): one SIG for a rise, which merges with one of the entry still waiting for its issue. The data words of the SIG are
not stated, and are free values. -/
def sigForward (s : State) (i : Fin 8) : State :=
  let src := s.regSel SIG_FWD_SRC i.val
  if !(bitOf src 15 && fwdSource s src) || vget s.brg.fwdSeen i then s
  else if fwdWaits s i then s.updBrg fun b => { b with fwdSeen := vset b.fwdSeen i true }
  else
    let dst := s.regSel SIG_FWD_DST i.val
    let num := s.regSel SIG_FWD_NUM i.val
    let d0 := s.free
    let s1 := s.usedFree
    let d1 := s1.free
    let d : Descriptor :=
      { ep := 5, op := .sig, dring := fld dst 15 12, dnode := fld dst 11 0, count := i.val + 1, burst := false, len := 0, cg := false
        cell := fld num 15 14, addr := 0, set := fld num 7 0, cycle := 0, data := [d0, d1] }
    issue (s1.usedFree.updBrg fun b => { b with fwdSeen := vset b.fwdSeen i true }) d .plain

/-- Row SIG_FORWARD (R221). -/
def execSigForward (i : Fin 8) (t : Nat) (s : State) : Out := done (sigForward (s.at t) i)

/-! Single accesses of a local initiator that are rows of their own. -/

/-- A write that a row names: it waits while the target is locked (R223), else it is made at the side that holds the register. -/
def rowWrite (s : State) (path : Path) (addr : Nat) (v : Word) (single : Bool) : State :=
  if s.lockedOut path then s.waitLocal path addr (if single then 1 else 2) (some [v])
  else regWrite (if canonReg addr < 0x10000 then s else hubPasses s path) path addr v single

/-- A read that a row names. -/
def rowRead (s : State) (path : Path) (addr : Nat) : State := s.throughLock path addr none fun s => (regRead s path addr).2

/-- Row REGISTER_WRITE (R223, R496): a single-word write through a path to a register that takes no guarded sequence. -/
def execRegisterWrite (path : Path) (addr : BitVec 17) (v : Word) (t : Nat) (s : State) : Out :=
  let s1 := s.at t
  let a := canonReg addr.toNat
  done (if (twinOf a).isSome || (match regRow? a with | none => false | some r => r.guarded) then s1
    else rowWrite s1 path addr.toNat v true)

/-- Row GUARDED_VALUE_WRITE (R223, R499): a write of the value to a WG register; `single` tells a single-word access. -/
def execGuardedValueWrite (path : Path) (addr : BitVec 17) (v : Word) (single : Bool) (t : Nat) (s : State) : Out :=
  let s1 := s.at t
  done (if (match regRow? (canonReg addr.toNat) with | none => false | some r => r.guarded) then rowWrite s1 path addr.toNat v single else s1)

/-- Row TWIN_WRITE (R223, R499, R501). -/
def execTwinWrite (path : Path) (addr : BitVec 17) (v : Word) (single : Bool) (t : Nat) (s : State) : Out :=
  let s1 := s.at t
  done (if (twinOf (canonReg addr.toNat)).isSome then rowWrite s1 path addr.toNat v single else s1)

/-- Row SIG_RX_POP (R220, R223, R235). -/
def execSigRxPop (path : Path) (t : Nat) (s : State) : Out := done (rowRead (s.at t) path SIG_RX_W0)

/-- Row FERR_POP (R213, R223, R234). -/
def execFerrPop (path : Path) (t : Nat) (s : State) : Out := done (rowRead (s.at t) path BRG_FERR_W0)

end Sys2Proof.Machine
end

