-- ==== Sys2Proof/Machine/Barrier.lean ====
section
/-! DEFINITION. The isolation barrier (R14-R20): sending by rank, delivery exactly once and in order, acknowledgements,
timeouts and retraining, lane replacement, and what each crossing message does where it arrives. -/

namespace Sys2Proof.Machine

/-- The other direction, in which acknowledgements travel (R15). -/
def BarDir_back : BarDir → BarDir
  | .hf => .fh
  | .fh => .hf

/-- Lanes that have not failed, and spares still to be had (R18). -/
def working10 (b : BarDirState) : Nat := ((List.range 10).filter fun l => !b.failed.getLsbD l).length
def freeSpare (b : BarDirState) : Option Nat := [8, 9].find? fun l => !b.failed.getLsbD l && !b.active.getLsbD l
def spareLanes (b : BarDirState) : Nat := ([8, 9].filter fun l => !b.failed.getLsbD l && !b.active.getLsbD l).length

/-! Sending (R17). -/

/-- Words of a conduit on their way to its inward queue. -/
def inbound (s : State) (n q : Nat) : Nat :=
  (s.bdir .hf).flight.foldl (fun k f => match f.msg.body with
    | .conduit a b ws => if a = n ∧ b = q ∧ !f.accepted then k + ws.length else k
    | _ => k) 0

/-- Room of a conduit's inward queue of 8 words (R247). -/
def inRoom (s : State) (n : Fin 12) (q : Fin 16) : Nat := 8 - ((s.conduit n q).inw.length + inbound s n.val q.val)

/-- Words a conduit message takes with it when it starts: up to 15 from the outward queue, or of the oldest item at the hub as
many as the inward queue has room for (R247). -/
def conduitWords (s : State) (d : BarDir) (n : Fin 12) (q : Fin 16) : List Word :=
  match d with
  | .fh => (s.conduit n q).out.take 15
  | .hf => ((s.conduit n q).hubIn.headD []).take (min 15 (inRoom s n q))

/-- Those words leave their queue. -/
def conduitTaken (s : State) (d : BarDir) (n : Fin 12) (q : Fin 16) (k : Nat) : State :=
  s.updConduit n q fun c => match d with
    | .fh => { c with out := c.out.drop k }
    | .hf => match c.hubIn with
      | [] => c
      | item :: rest =>
        if item.length ≤ k then { c with hubIn := rest, inPart := false }
        else { c with hubIn := item.drop k :: rest, inPart := true }

/-- A conduit of a message, by its numbers. -/
def conduitOf (n q : Nat) : Option (Fin 12 × Fin 16) := match place? 12 n, place? 16 q with
  | some n, some q => some (n, q)
  | _, _ => none

/-- A ready message has something to carry: a conduit message has words. -/
def hasBody (s : State) (d : BarDir) (m : BarMsg) : Bool :=
  match m.body with
  | .conduit a b _ => (match conduitOf a b with
    | none => false
    | some (n, q) => !(conduitWords s d n q).isEmpty)
  | _ => true

/-- A message may start ahead of the lower-ranked messages that wait (R17). -/
def readyStart (l : List BarReady) (m : BarReady) : Bool :=
  decide (m.msg.type = .claim) ||
  l.all fun w => decide (w.msg.type.rank ≤ m.msg.type.rank) || !w.passed.contains m.msg.type

/-- The oldest of the highest-ranked messages that may start. -/
def pickReady (l : List BarReady) : Option BarReady :=
  l.foldl (fun best m =>
    if !readyStart l m then best
    else match best with
      | none => some m
      | some b => if m.msg.type.rank < b.msg.type.rank then some m else some b) none

/-- The lower-ranked messages that wait have been passed once more. -/
def notePassed (ty : BarType) (w : BarReady) : BarReady :=
  if ty = .claim ∨ w.msg.type.rank ≤ ty.rank then w else { w with passed := ty :: w.passed }

/-- A message starts: it takes its words, its sequence number and its place among those not acknowledged. -/
def startMessage (s : State) (d : BarDir) (m : BarReady) : State :=
  let (msg, s1) : BarMsg × State := match m.msg.body with
    | .conduit a b _ => (match conduitOf a b with
      | none => (m.msg, s)
      | some (n, q) =>
        let ws := conduitWords s d n q
        (⟨m.msg.type, .conduit a b ws⟩, conduitTaken s d n q ws.length))
    | _ => (m.msg, s)
  let ty := msg.type
  s1.updBar d fun b =>
    { b with ready := (b.ready.erase m).map (notePassed ty)
             flight := b.flight ++ [⟨msg, vget b.nextSeq ty.rank, s.now, 0, true, false, .none, false⟩]
             nextSeq := vset b.nextSeq ty.rank (vget b.nextSeq ty.rank + 1) }

/-- BARRIER_SEND (R17). -/
def barrierSend (s : State) (d : BarDir) : State :=
  if !barPasses (s.bdir d) then s
  else
    let s1 := s.updBar d fun b => { b with ready := b.ready.filter fun m => hasBody s d m.msg }
    match pickReady (s1.bdir d).ready with
    | none => s1
    | some m => startMessage s1 d m

/-- Row BARRIER_SEND (R14, R16, R17). -/
def execBarrierSend (d : BarDir) (t : Nat) (s : State) : Out := done (barrierSend (s.at t) d)

/-! Delivery (R15). -/

/-- The first message for which a property holds changes. -/
def updFirst (p : BarFlight → Bool) (f : BarFlight → BarFlight) : List BarFlight → List BarFlight
  | [] => []
  | x :: t => if p x then f x :: t else x :: updFirst p f t

/-- The first message for which a property holds leaves. -/
def dropFirst (p : BarFlight → Bool) : List BarFlight → List BarFlight
  | [] => []
  | x :: t => if p x then t else x :: dropFirst p t

/-- The message of a type that is on the lanes of a direction, oldest first. -/
def onLanes (ty : BarType) (f : BarFlight) : Bool := decide (f.msg.type = ty) && f.onWire

/-- A signed number in k words. -/
def intWords (k : Nat) (i : Int) : List Word := toWords k (i % (2 ^ (16 * k) : Nat)).toNat

/-- The payload of a message in words (R15). The manual gives its size, not its layout (notes/assumptions/116.md). -/
def payloadWords : BarPayload → List Word
  | .claim c v => [bitW (decide (c = .c1)) 15 ||| putFld v 3 0]
  | .faultReport src x n at_ inj dry => [bitW inj 15 ||| bitW dry 14 ||| putFld src 9 0, wd x, wd n] ++ toWords 6 at_
  | .timeSync o dom hold a l p => intWords 5 o ++ [bitW dom 15 ||| bitW hold 14 ||| putFld (a % 16).toNat 3 0] ++ intWords 3 a ++ intWords 3 l ++ intWords 3 p
  | .imageOut c n k a ws => [putFld n 15 12 ||| putFld a 11 0, bitW (decide (c = .c1)) 15 ||| putFld k.toNat 14 0] ++ ws
  | .pinImage c n k w => [putFld n 15 12, bitW (decide (c = .c1)) 15 ||| putFld k.toNat 14 0, w]
  | .publish a ws => wd a :: ws
  | .snapshot a ws => wd a :: ws
  | .stamp n ws => putFld n 15 12 :: ws
  | .wake k => [putFld k 7 0]
  | .conduit n q ws => (putFld n 15 12 ||| putFld q 11 8) :: ws
  | .event l c => [l, c]
  | .modes m => [bitW m.dark 15 ||| bitW m.intm 14 ||| bitW m.gap 13 ||| bitW m.locked 12]
  | .regAccess id p a n w single =>
    [wd id, putFld p.code 15 13 ||| bitW w.isSome 12 ||| bitW single 11 ||| putFld n 10 0] ++ toWords 2 a ++ w.getD []
  | .regResponse id st ws => [wd id, wd st] ++ ws
  | .chunk tag slot staged first last ws => [wd tag, bitW slot 15 ||| bitW staged 14, bitW first 15 ||| bitW last 14] ++ ws
  | .chain ws => ws

/-- The CRC-16 a message carries with its type, its length and its sequence number (R15, R16). -/
def barCrc (f : BarFlight) : Word :=
  let ws := payloadWords f.msg.body
  wd (crcWords 16 0x1021 0xFFFF
    ((putFld (f.msg.type.rank.val + 1) 15 12 ||| putFld ws.length 11 8 ||| putFld f.seq.toNat 7 0) :: ws))

/-- The receiver's CRC check, which injection can invert (R15, R434, R569). -/
def crcFails (s : State) (d : BarDir) (f : BarFlight) (crc : Word) : Bool × State :=
  match d with
  | .hf => let (i, s1) := fieldCheck s Src.laneReplacedHF
           (decide (crc ≠ barCrc f) || i.isSome, s1)
  | .fh => let (i, s1) := hubCheck s Src.laneReplacedFH
           (decide (crc ≠ barCrc f) || i.isSome, s1)

/-- What the receiver makes of a message of a type that comes with a CRC (R15): the message it accepts, if it does, and its answer
under way. -/
def receive (s : State) (d : BarDir) (ty : BarType) (crc : Word) : Option BarMsg × State :=
  if !barPasses (s.bdir d) then (none, s)
  else match (s.bdir d).flight.find? (onLanes ty) with
    | none => (none, s)
    | some f =>
      let (bad, s1) := crcFails s d f crc
      let answer (a : BarAnswer) (accepted : Bool) (s : State) : State := s.updBar d fun b =>
        { b with flight := updFirst (onLanes ty) (fun x => { x with onWire := false, answer := a, accepted := accepted }) b.flight }
      if bad then (none, (answer .nack f.accepted s1).bump FLD_BAR_CRC)
      else if f.accepted then (none, answer .ack true s1)
      else if f.seq = vget (s1.bdir d).expected ty.rank then
        (some f.msg, (answer .ack true s1).updBar d fun b =>
          { b with expected := vset b.expected ty.rank (vget b.expected ty.rank + 1) })
      else (none, answer .nack false s1)

/-- A delivery and what the message does. -/
def deliverMsg (s : State) (d : BarDir) (ty : BarType) (crc : Word) (effect : State → BarPayload → State) : State :=
  match receive s d ty crc with
  | (none, s1) => s1
  | (some m, s1) => effect s1 m.body

/-- Row CLAIM (R15, R396). -/
def execClaim (crc : Word) (t : Nat) (s : State) : Out :=
  done (deliverMsg (s.at t) .hf .claim crc fun s b => match b with
    | .claim c v => claimArrives s c v
    | _ => s)

/-- Row FAULT_REPORT (R15, R417). -/
def execFaultReport (crc : Word) (t : Nat) (s : State) : Out :=
  done (deliverMsg (s.at t) .fh .faultReport crc fun s b => match b with
    | .faultReport src detail count time inj dry => faultArrives s src detail count time inj dry
    | _ => s)

/-- Row TIME_SYNC (R14, R15, R121). -/
def execTimeSync (crc : Word) (t : Nat) (s : State) : Out :=
  done (deliverMsg (s.at t) .hf .timeSync crc fun s b => match b with
    | .timeSync ofs dom hold a l f => timeArrives s ofs dom hold a l f
    | _ => s)

/-- Output image words reach the field die: for a window, or the pin image word of a cluster (R253, R254, R256). -/
def imageArrives (s : State) (b : BarPayload) : State :=
  match b with
  | .imageOut core cluster k addr ws => (match place? 12 cluster with
    | none => s
    | some n =>
      let new := (List.range ws.length).map fun i => (k, addr + i, wAt ws i)
      s.updCl n fun c => { c with inStage := vupd c.inStage core.ix (· ++ new) })
  | .pinImage core cluster k w => (match place? 12 cluster with
    | none => s
    | some n => s.updCl n fun c => { c with pimgStage := vset c.pimgStage core.ix (some (k, w)) })
  | _ => s

/-- Row IMAGE_OUT (R15, R21). -/
def execImageOut (crc : Word) (t : Nat) (s : State) : Out := done (deliverMsg (s.at t) .hf .imageOut crc imageArrives)

/-- A word an engine publishes; the word COMMIT owns in Ramuth mode stays (R255, R529). -/
def publishWord (s : State) (w : Nat) (v : Word) : State := if cmpHolds s w then s else pubWrite s w v

/-- Words from the field die reach both cores (R253, R255, R312, R527); an edge stamp is a reason to wake (R488). -/
def imageInArrives (s : State) (b : BarPayload) : State :=
  match b with
  | .publish w ws => s.each (List.range ws.length) fun s i => publishWord s (w + i) (wAt ws i)
  | .snapshot w ws =>
    let s1 := s.setWords (snapBase + 2 * w) ws
    if w = 0 then cmpInputImage s1 else s1
  | .stamp n _ => if s.bit HST_WAKE_CLU n then s.wakeReason 1 else s
  | _ => s

/-- Row IMAGE_IN (R15, R253, R527). -/
def execImageIn (crc : Word) (t : Nat) (s : State) : Out := done (deliverMsg (s.at t) .fh .imageIn crc imageInArrives)

/-- A SIGNAL message arrives (R222, R247, R488): the field events or a reason to wake as announced, or conduit words. Of outward words those whose item the
hub has ended are discarded (R251). -/
def signalArrives (d : BarDir) (s : State) (b : BarPayload) : State :=
  match b with
  | .event l c => { s with heard := (l, c) }
  | .modes m => modesArrive s m
  | .wake k => s.wakeReason k
  | .conduit a q ws => (match conduitOf a q, d with
    | none, _ => s
    | some (n, q), .hf => s.updConduit n q fun c => { c with inw := c.inw ++ ws }
    | some (n, q), .fh => s.updConduit n q fun c => { c with skip := c.skip - ws.length, asm := c.asm ++ ws.drop c.skip })
  | _ => s

/-- Row SIGNAL (R15, R247). -/
def execSignal (d : BarDir) (crc : Word) (t : Nat) (s : State) : Out :=
  done (deliverMsg (s.at t) d .signal crc (signalArrives d))

/-- The oldest field access on the lanes must still wait at the field die. -/
def accessWaits (s : State) : Bool := match (s.bdir .hf).flight.find? (onLanes .regAccess) with
  | none => false
  | some f => match f.msg.body with
    | .regAccess _ _ a _ _ _ => !f.accepted && fieldMustWait s a
    | _ => false

/-- A REG_ACCESS message arrives (R495): performed at the field die; its response completes the access at the hub. -/
def regArrives (s : State) (b : BarPayload) : State :=
  match b with
  | .regAccess id path addr count w single => fieldPerform s id path addr count w single
  | .regResponse id st ws => (match fieldAnswer s id st ws with
    | (none, s1) => s1
    | (some x, s1) => finish s1 x.who x.status x.data)
  | _ => s

/-- Row REG_ACCESS (R15, R495): no effect while the access must wait. -/
def execRegAccess (d : BarDir) (crc : Word) (t : Nat) (s : State) : Out :=
  let s1 := s.at t
  done (if d = .hf ∧ accessWaits s1 then s1 else deliverMsg s1 d .regAccess crc regArrives)

/-- Row STAGEBOOK_CHUNK (R15, R390): `upset` is the bits that an upset flips in the last word as the field die holds it, 0 where there
is none (notes/assumptions/147.md). -/
def execStagebookChunk (crc upset : Word) (t : Nat) (s : State) : Out :=
  done (deliverMsg (s.at t) .hf .chunk crc fun s b => match b with
    | .chunk tag slot staged first last ws => chunkArrives s tag slot staged first last (upsetLast upset ws)
    | _ => s)

/-- Row DEBUG (R15, R506). -/
def execDebug (d : BarDir) (crc : Word) (t : Nat) (s : State) : Out :=
  done (deliverMsg (s.at t) d .debugMsg crc fun s b => match b with
    | .chain ws => chainArrives s d ws
    | _ => s)

/-! Acknowledgements and sending again (R15, R16). -/

/-- A message of a type that draws an answer. -/
def answered (ty : BarType) (a : BarAnswer) (f : BarFlight) : Bool := decide (f.msg.type = ty) && decide (f.answer = a)

/-- Row LINK_ACK (R15): the sender counts the message delivered. -/
def execLinkAck (d : BarDir) (ty : BarType) (t : Nat) (s : State) : Out :=
  let s1 := s.at t
  done (if barPasses (s1.bdir (BarDir_back d)) then
      s1.updBar d fun b => { b with flight := dropFirst (answered ty .ack) b.flight }
    else s1)

/-- Row NEGATIVE_ACK (R15, R16). -/
def execNegativeAck (d : BarDir) (ty : BarType) (t : Nat) (s : State) : Out :=
  let s1 := s.at t
  done (if barPasses (s1.bdir (BarDir_back d)) then
      s1.updBar d fun b => { b with flight := updFirst (answered ty .nack) (fun f => { f with answer := .none, again := true }) b.flight }
    else s1)

/-- MESSAGE_RESEND (R16). -/
def messageResend (s : State) (d : BarDir) (ty : BarType) : State :=
  let due (f : BarFlight) : Bool := decide (f.msg.type = ty) && f.again
  if barPasses (s.bdir d) && (s.bdir d).flight.any due then
    (s.updBar d fun b => { b with flight := updFirst due (fun f => { f with again := false, onWire := true }) b.flight }).bump FLD_BAR_RETRY
  else s

/-- Row MESSAGE_RESEND (R16, R18, R20). -/
def execMessageResend (d : BarDir) (ty : BarType) (t : Nat) (s : State) : Out := done (messageResend (s.at t) d ty)

/-! Timeouts and retraining (R20). -/

/-- The messages of a type, numbered on from a sequence number and to be sent again. -/
def renumber (ty : BarType) (now : Nat) : BitVec 8 → List BarFlight → List BarFlight
  | _, [] => []
  | k, f :: t =>
    if f.msg.type = ty then
      { f with seq := k, sentAt := now, onWire := false, answer := .none, again := true } :: renumber ty now (k + 1) t
    else f :: renumber ty now k t

/-- Resynchronisation of a type (R20): what the far end has accepted counts as acknowledged, the rest is numbered on from there and
sent again. -/
def resync (now : Nat) (ty : BarType) (b : BarDirState) : BarDirState :=
  let left := b.flight.filter fun f => decide (f.msg.type ≠ ty) || !f.accepted
  let k := vget b.expected ty.rank
  let n := (left.filter fun f => decide (f.msg.type = ty)).length
  { b with flight := renumber ty now k left, nextSeq := vset b.nextSeq ty.rank (k + BitVec.ofNat 8 n) }

/-- Rank and direction of a message in DETAIL (notes/assumptions/50.md). -/
def msgDetail (d : BarDir) (ty : BarType) : Nat := 2 * (ty.rank.val + 1) + d.ix.val

/-- MESSAGE_TIMEOUT (R20): of the oldest message of a type. -/
def messageTimeout (s : State) (d : BarDir) (ty : BarType) : State :=
  let mine (f : BarFlight) : Bool := decide (f.msg.type = ty)
  match (s.bdir d).flight.find? mine with
  | none => s
  | some f =>
    let count (b : BarDirState) : BarDirState := { b with flight := updFirst mine (fun f => { f with timeouts := f.timeouts + 1 }) b.flight }
    let s1 := (s.updBar d fun b => resync s.now ty (count b)).bump FLD_BAR_TMO
    if f.timeouts = 0 then s1.raise (match d with | .hf => Src.barrierTimeoutHost | .fh => Src.barrierTimeoutField) (msgDetail d ty)
    else (s1.updBar d fun b => { b with retraining := true }).raise
      (match d with | .hf => Src.barrierRetrainHost | .fh => Src.barrierRetrainField) (msgDetail d ty)

/-- Row MESSAGE_TIMEOUT (R20). -/
def execMessageTimeout (d : BarDir) (ty : BarType) (t : Nat) (s : State) : Out := done (messageTimeout (s.at t) d ty)

/-- What was on the lanes of a direction is to be sent again. -/
def sendAgain (f : BarFlight) : BarFlight := if f.onWire then { f with onWire := false, again := true } else f

/-- BARRIER_RETRAIN_DONE (R20, R417). -/
def retrainDone (s : State) (d : BarDir) : State :=
  if !(s.bdir d).retraining then s
  else
    let s1 := s.updBar d fun b => { b with retraining := false, flight := b.flight.map sendAgain }
    if d = .fh then backlogSend s1 else s1

/-- Row BARRIER_RETRAIN_DONE (R20). -/
def execBarrierRetrainDone (d : BarDir) (t : Nat) (s : State) : Out := done (retrainDone (s.at t) d)

/-! Lanes (R18, R19, R463). -/

def setLane (m : BitVec 10) (l : Nat) (b : Bool) : BitVec 10 :=
  if b then m ||| BitVec.ofNat 10 (2 ^ l) else m &&& ~~~ BitVec.ofNat 10 (2 ^ l)

/-- A direction without eight working lanes (R19): the receiving end raises the GRAVE fault, and the direction carries nothing. A field
die that judges so is dark from then on: no message could tell it. -/
def directionDown (s : State) (d : BarDir) : State :=
  let s1 := (s.updBar d fun b => { b with trained := false }).raise (match d with | .hf => Src.barrierDownHF | .fh => Src.barrierDownFH) 0
  match d with
  | .hf => { s1 with fmodes := { s1.fmodes with dark := true } }
  | .fh => s1

/-- LANE_FAILED (R18, R19): an active lane is judged failed. -/
def laneFailed (s : State) (d : BarDir) (l : Fin 10) : State :=
  let b := s.bdir d
  if !b.active.getLsbD l.val || b.failed.getLsbD l.val then s
  else
    let s1 := s.updBar d fun b =>
      { b with failed := setLane b.failed l.val true, active := setLane b.active l.val false, flight := b.flight.map sendAgain
               toReplace := b.toReplace ++ [l.val] }
    if spareLanes b ≤ b.toReplace.length then directionDown s1 d else s1

/-- Row LANE_FAILED (R18, R19). -/
def execLaneFailed (d : BarDir) (lane : Fin 10) (t : Nat) (s : State) : Out := done (laneFailed (s.at t) d lane)

/-- LANE_REPLACED (R18): a spare lane takes the place of a failed one. -/
def laneReplaced (s : State) (d : BarDir) : State :=
  match (s.bdir d).toReplace, freeSpare (s.bdir d) with
  | l :: rest, some k =>
    (s.updBar d fun b => { b with active := setLane b.active k true, toReplace := rest }).raise
      (match d with | .hf => Src.laneReplacedHF | .fh => Src.laneReplacedFH) l
  | _, _ => s

/-- Row LANE_REPLACED (R18). -/
def execLaneReplaced (d : BarDir) (t : Nat) (s : State) : Out := done (laneReplaced (s.at t) d)

/-- SPARE_LANE_LOST (R18): an unused spare. -/
def spareLost (s : State) (d : BarDir) (l : Fin 10) : State :=
  let b := s.bdir d
  if l.val < 8 || b.active.getLsbD l.val || b.failed.getLsbD l.val then s
  else
    let s1 := (s.updBar d fun b => { b with failed := setLane b.failed l.val true }).raise
      (match d with | .hf => Src.spareLostHF | .fh => Src.spareLostFH) l.val
    if spareLanes b ≤ b.toReplace.length then directionDown s1 d else s1

/-- Row SPARE_LANE_LOST (R18). -/
def execSpareLaneLost (d : BarDir) (lane : Fin 10) (t : Nat) (s : State) : Out := done (spareLost (s.at t) d lane)

/-- BARRIER_TRAIN_TIMEOUT (R463, R567): judged on the ring die. -/
def trainTimeout (s : State) : State :=
  if s.start.hostReset || ((s.bdir .hf).trained && (s.bdir .fh).trained) then s else directionDown s .fh

/-- Row BARRIER_TRAIN_TIMEOUT (R463). -/
def execBarrierTrainTimeout (t : Nat) (s : State) : Out := done (trainTimeout (s.at t))

/-- After a reset of the field side alone the host side sends the PWR and CLUn sections (R567). -/
def sectionsAgain (s : State) : State :=
  if !s.start.resend then s
  else
    let s1 : State := { s with start := { s.start with resend := false } }
    match s.store.force with
    | none => s1.barReady .hf .chunk (.chunk 0xA false false true true [])
    | some b => match (s.slot b).content with
      | none => s1
      | some c => sendChunks s1 c b false

/-- BARRIER_TRAINING_DONE (R533, R567): both sides are out of reset and have eight working lanes each way. -/
def barrierTrained (s : State) : State :=
  let fit (d : BarDir) : Bool := decide (8 ≤ working10 (s.bdir d))
  if s.start.hostReset || s.start.fieldReset || !fit .hf || !fit .fh then s
  else
    let up (b : BarDirState) : BarDirState := { b with trained := true, retraining := false }
    sectionsAgain (backlogSend ((s.updBar .hf up).updBar .fh up))

/-- Row BARRIER_TRAINING_DONE (R463, R533). -/
def execBarrierTrainingDone (t : Nat) (s : State) : Out := done (barrierTrained (s.at t))

end Sys2Proof.Machine
end

