-- ==== Sys2Proof/Machine/Engine.lean ====
section
/-! DEFINITION. The commands by which a logical engine issues one instruction (R279-R295), and those by which its waits,
stalls, watchdog and duty deadline end (R261-R263, R292). -/

namespace Sys2Proof.Machine

/-- Row NOP (R288), issued by logical engine e of cluster n. -/
def execNop (n : Fin 12) (e : Fin 14) (t : Nat) (s : State) : Out :=
  done (engIssue (s.at t) n e (.nop))

/-- Row HALT (R288), issued by logical engine e of cluster n. -/
def execHalt (n : Fin 12) (e : Fin 14) (t : Nat) (s : State) : Out :=
  done (engIssue (s.at t) n e (.halt))

/-- Row WAIT (R289), issued by logical engine e of cluster n. -/
def execWait (n : Fin 12) (e : Fin 14) (kind : Fin 16) (index : Fin 16) (t : Nat) (s : State) : Out :=
  done (engIssue (s.at t) n e (.wait kind.val index.val))

/-- Row TRAP (R288, R297), issued by logical engine e of cluster n. -/
def execTrap (n : Fin 12) (e : Fin 14) (nn : Byte) (t : Nat) (s : State) : Out :=
  done (engIssue (s.at t) n e (.trap nn))

/-- Row RET (R287), issued by logical engine e of cluster n. -/
def execRet (n : Fin 12) (e : Fin 14) (t : Nat) (s : State) : Out :=
  done (engIssue (s.at t) n e (.ret))

/-- Row RET_T (R298), issued by logical engine e of cluster n. -/
def execRetT (n : Fin 12) (e : Fin 14) (t : Nat) (s : State) : Out :=
  done (engIssue (s.at t) n e (.retT))

/-- Row LOCK (R290), issued by logical engine e of cluster n. -/
def execLock (n : Fin 12) (e : Fin 14) (t : Nat) (s : State) : Out :=
  done (engIssue (s.at t) n e (.lock))

/-- Row UNLOCK (R288), issued by logical engine e of cluster n. -/
def execUnlock (n : Fin 12) (e : Fin 14) (t : Nat) (s : State) : Out :=
  done (engIssue (s.at t) n e (.unlock))

/-- Row SYNC (R288), issued by logical engine e of cluster n. -/
def execSync (n : Fin 12) (e : Fin 14) (t : Nat) (s : State) : Out :=
  done (engIssue (s.at t) n e (.sync))

/-- Row ADD (R282), issued by logical engine e of cluster n. -/
def execAdd (n : Fin 12) (e : Fin 14) (rd : Fin 16) (rs : Fin 16) (t : Nat) (s : State) : Out :=
  done (engIssue (s.at t) n e (.alu .add rd rs))

/-- Row SUB (R282), issued by logical engine e of cluster n. -/
def execSub (n : Fin 12) (e : Fin 14) (rd : Fin 16) (rs : Fin 16) (t : Nat) (s : State) : Out :=
  done (engIssue (s.at t) n e (.alu .sub rd rs))

/-- Row ADC (R282), issued by logical engine e of cluster n. -/
def execAdc (n : Fin 12) (e : Fin 14) (rd : Fin 16) (rs : Fin 16) (t : Nat) (s : State) : Out :=
  done (engIssue (s.at t) n e (.alu .adc rd rs))

/-- Row SBC (R282), issued by logical engine e of cluster n. -/
def execSbc (n : Fin 12) (e : Fin 14) (rd : Fin 16) (rs : Fin 16) (t : Nat) (s : State) : Out :=
  done (engIssue (s.at t) n e (.alu .sbc rd rs))

/-- Row AND (R282), issued by logical engine e of cluster n. -/
def execAnd (n : Fin 12) (e : Fin 14) (rd : Fin 16) (rs : Fin 16) (t : Nat) (s : State) : Out :=
  done (engIssue (s.at t) n e (.alu .and rd rs))

/-- Row OR (R282), issued by logical engine e of cluster n. -/
def execOr (n : Fin 12) (e : Fin 14) (rd : Fin 16) (rs : Fin 16) (t : Nat) (s : State) : Out :=
  done (engIssue (s.at t) n e (.alu .or rd rs))

/-- Row XOR (R282), issued by logical engine e of cluster n. -/
def execXor (n : Fin 12) (e : Fin 14) (rd : Fin 16) (rs : Fin 16) (t : Nat) (s : State) : Out :=
  done (engIssue (s.at t) n e (.alu .xor rd rs))

/-- Row SHL (R282), issued by logical engine e of cluster n. -/
def execShl (n : Fin 12) (e : Fin 14) (rd : Fin 16) (rs : Fin 16) (t : Nat) (s : State) : Out :=
  done (engIssue (s.at t) n e (.alu .shl rd rs))

/-- Row SHR (R282), issued by logical engine e of cluster n. -/
def execShr (n : Fin 12) (e : Fin 14) (rd : Fin 16) (rs : Fin 16) (t : Nat) (s : State) : Out :=
  done (engIssue (s.at t) n e (.alu .shr rd rs))

/-- Row SAR (R282), issued by logical engine e of cluster n. -/
def execSar (n : Fin 12) (e : Fin 14) (rd : Fin 16) (rs : Fin 16) (t : Nat) (s : State) : Out :=
  done (engIssue (s.at t) n e (.alu .sar rd rs))

/-- Row ROL (R282), issued by logical engine e of cluster n. -/
def execRol (n : Fin 12) (e : Fin 14) (rd : Fin 16) (rs : Fin 16) (t : Nat) (s : State) : Out :=
  done (engIssue (s.at t) n e (.alu .rol rd rs))

/-- Row ROR (R282), issued by logical engine e of cluster n. -/
def execRor (n : Fin 12) (e : Fin 14) (rd : Fin 16) (rs : Fin 16) (t : Nat) (s : State) : Out :=
  done (engIssue (s.at t) n e (.alu .ror rd rs))

/-- Row MOV (R282), issued by logical engine e of cluster n. -/
def execMov (n : Fin 12) (e : Fin 14) (rd : Fin 16) (rs : Fin 16) (t : Nat) (s : State) : Out :=
  done (engIssue (s.at t) n e (.alu .mov rd rs))

/-- Row CMP (R282), issued by logical engine e of cluster n. -/
def execCmp (n : Fin 12) (e : Fin 14) (rd : Fin 16) (rs : Fin 16) (t : Nat) (s : State) : Out :=
  done (engIssue (s.at t) n e (.alu .cmp rd rs))

/-- Row MULL (R282), issued by logical engine e of cluster n. -/
def execMull (n : Fin 12) (e : Fin 14) (rd : Fin 16) (rs : Fin 16) (t : Nat) (s : State) : Out :=
  done (engIssue (s.at t) n e (.alu .mull rd rs))

/-- Row MULH (R282), issued by logical engine e of cluster n. -/
def execMulh (n : Fin 12) (e : Fin 14) (rd : Fin 16) (rs : Fin 16) (t : Nat) (s : State) : Out :=
  done (engIssue (s.at t) n e (.alu .mulh rd rs))

/-- Row ADDI (R283), issued by logical engine e of cluster n. -/
def execAddi (n : Fin 12) (e : Fin 14) (rd : Fin 16) (imm : Byte) (t : Nat) (s : State) : Out :=
  done (engIssue (s.at t) n e (.addi rd imm))

/-- Row CMPI (R283), issued by logical engine e of cluster n. -/
def execCmpi (n : Fin 12) (e : Fin 14) (rd : Fin 16) (imm : Byte) (t : Nat) (s : State) : Out :=
  done (engIssue (s.at t) n e (.cmpi rd imm))

/-- Row MOVI (R283), issued by logical engine e of cluster n. -/
def execMovi (n : Fin 12) (e : Fin 14) (rd : Fin 16) (imm : Byte) (t : Nat) (s : State) : Out :=
  done (engIssue (s.at t) n e (.movi rd imm))

/-- Row BSET (R284), issued by logical engine e of cluster n. -/
def execBset (n : Fin 12) (e : Fin 14) (rd : Fin 16) (b : Fin 16) (t : Nat) (s : State) : Out :=
  done (engIssue (s.at t) n e (.bit .set rd b))

/-- Row BCLR (R284), issued by logical engine e of cluster n. -/
def execBclr (n : Fin 12) (e : Fin 14) (rd : Fin 16) (b : Fin 16) (t : Nat) (s : State) : Out :=
  done (engIssue (s.at t) n e (.bit .clr rd b))

/-- Row BTGL (R284), issued by logical engine e of cluster n. -/
def execBtgl (n : Fin 12) (e : Fin 14) (rd : Fin 16) (b : Fin 16) (t : Nat) (s : State) : Out :=
  done (engIssue (s.at t) n e (.bit .tgl rd b))

/-- Row BTST (R284), issued by logical engine e of cluster n. -/
def execBtst (n : Fin 12) (e : Fin 14) (rd : Fin 16) (b : Fin 16) (t : Nat) (s : State) : Out :=
  done (engIssue (s.at t) n e (.bit .tst rd b))

/-- Row LD (R285), issued by logical engine e of cluster n. -/
def execLd (n : Fin 12) (e : Fin 14) (rd : Fin 16) (rs : Fin 16) (off : Fin 16) (t : Nat) (s : State) : Out :=
  done (engIssue (s.at t) n e (.ld rd rs off.val))

/-- Row ST (R285), issued by logical engine e of cluster n. -/
def execSt (n : Fin 12) (e : Fin 14) (rd : Fin 16) (rs : Fin 16) (off : Fin 16) (t : Nat) (s : State) : Out :=
  done (engIssue (s.at t) n e (.st rd rs off.val))

/-- Row LIMM (R285), issued by logical engine e of cluster n. -/
def execLimm (n : Fin 12) (e : Fin 14) (rd : Fin 16) (imm : Word) (t : Nat) (s : State) : Out :=
  done (engIssue (s.at t) n e (.limm rd imm))

/-- Row LDF (R285), issued by logical engine e of cluster n. -/
def execLdf (n : Fin 12) (e : Fin 14) (rd : Fin 16) (rs : Fin 16) (imm : Word) (t : Nat) (s : State) : Out :=
  done (engIssue (s.at t) n e (.ldf rd rs imm))

/-- Row STF (R285), issued by logical engine e of cluster n. -/
def execStf (n : Fin 12) (e : Fin 14) (rd : Fin 16) (rs : Fin 16) (imm : Word) (t : Nat) (s : State) : Out :=
  done (engIssue (s.at t) n e (.stf rd rs imm))

/-- Row LDA (R285), issued by logical engine e of cluster n. -/
def execLda (n : Fin 12) (e : Fin 14) (rd : Fin 16) (imm : Word) (t : Nat) (s : State) : Out :=
  done (engIssue (s.at t) n e (.lda rd imm))

/-- Row STA (R285), issued by logical engine e of cluster n. -/
def execSta (n : Fin 12) (e : Fin 14) (rd : Fin 16) (imm : Word) (t : Nat) (s : State) : Out :=
  done (engIssue (s.at t) n e (.sta rd imm))

/-- Row BCC (R281, R287), issued by logical engine e of cluster n. -/
def execBcc (n : Fin 12) (e : Fin 14) (cond : Fin 16) (off : Byte) (t : Nat) (s : State) : Out :=
  done (engIssue (s.at t) n e (.bcc cond.val off))

/-- Row JMP (R287), issued by logical engine e of cluster n. -/
def execJmp (n : Fin 12) (e : Fin 14) (half : BitVec 11) (t : Nat) (s : State) : Out :=
  done (engIssue (s.at t) n e (.jmp (half ++ (0#1 : BitVec 1))))

/-- Row CALL (R287), issued by logical engine e of cluster n. -/
def execCall (n : Fin 12) (e : Fin 14) (half : BitVec 11) (t : Nat) (s : State) : Out :=
  done (engIssue (s.at t) n e (.call (half ++ (0#1 : BitVec 1))))

/-- Row ILLEGAL_INSTRUCTION (R279, R297), issued by logical engine e of cluster n. -/
def execIllegalInstruction (n : Fin 12) (e : Fin 14) (twoWords : Bool) (t : Nat) (s : State) : Out :=
  done (engIssue (s.at t) n e (.illegal twoWords))

/-- Row PINRD (R291), issued by logical engine e of cluster n. -/
def execPinrd (n : Fin 12) (e : Fin 14) (rd : Fin 16) (p : Fin 16) (t : Nat) (s : State) : Out :=
  done (engIssue (s.at t) n e (.pinrd rd p.val))

/-- Row PINWR (R291), issued by logical engine e of cluster n. -/
def execPinwr (n : Fin 12) (e : Fin 14) (rd : Fin 16) (p : Fin 16) (t : Nat) (s : State) : Out :=
  done (engIssue (s.at t) n e (.pinwr rd p.val))

/-- Row PINDIR (R291), issued by logical engine e of cluster n. -/
def execPindir (n : Fin 12) (e : Fin 14) (rd : Fin 16) (p : Fin 16) (t : Nat) (s : State) : Out :=
  done (engIssue (s.at t) n e (.pindir rd p.val))

/-- Row SHO (R292), issued by logical engine e of cluster n. -/
def execSho (n : Fin 12) (e : Fin 14) (rd : Fin 16) (p : Fin 16) (t : Nat) (s : State) : Out :=
  done (engIssue (s.at t) n e (.sho rd p))

/-- Row SHO_N (R292), issued by logical engine e of cluster n. -/
def execShoN (n : Fin 12) (e : Fin 14) (rd : Fin 16) (p : Fin 16) (t : Nat) (s : State) : Out :=
  done (engIssue (s.at t) n e (.shoN rd p))

/-- Row SHI (R292), issued by logical engine e of cluster n. -/
def execShi (n : Fin 12) (e : Fin 14) (rd : Fin 16) (p : Fin 16) (t : Nat) (s : State) : Out :=
  done (engIssue (s.at t) n e (.shi rd p))

/-- Row SHI_N (R292), issued by logical engine e of cluster n. -/
def execShiN (n : Fin 12) (e : Fin 14) (rd : Fin 16) (p : Fin 16) (t : Nat) (s : State) : Out :=
  done (engIssue (s.at t) n e (.shiN rd p))

/-- Row PACE_PER (R292), issued by logical engine e of cluster n. -/
def execPacePer (n : Fin 12) (e : Fin 14) (rd : Fin 16) (p : Fin 16) (t : Nat) (s : State) : Out :=
  done (engIssue (s.at t) n e (.pacePer rd p))

/-- Row PACE_CNT (R292), issued by logical engine e of cluster n. -/
def execPaceCnt (n : Fin 12) (e : Fin 14) (rd : Fin 16) (p : Fin 16) (t : Nat) (s : State) : Out :=
  done (engIssue (s.at t) n e (.paceCnt rd p))

/-- Row PACE_RD (R292), issued by logical engine e of cluster n. -/
def execPaceRd (n : Fin 12) (e : Fin 14) (rd : Fin 16) (p : Fin 16) (t : Nat) (s : State) : Out :=
  done (engIssue (s.at t) n e (.paceRd rd p))

/-- Row PACE_ST (R292), issued by logical engine e of cluster n. -/
def execPaceSt (n : Fin 12) (e : Fin 14) (rd : Fin 16) (p : Fin 16) (t : Nat) (s : State) : Out :=
  done (engIssue (s.at t) n e (.paceSt rd p))

/-- Row EDGE (R292), issued by logical engine e of cluster n. -/
def execEdge (n : Fin 12) (e : Fin 14) (rd : Fin 16) (t : Nat) (s : State) : Out :=
  done (engIssue (s.at t) n e (.edge rd))

/-- Row SEND (R293), issued by logical engine e of cluster n. -/
def execSend (n : Fin 12) (e : Fin 14) (rd : Fin 16) (q : Fin 16) (t : Nat) (s : State) : Out :=
  done (engIssue (s.at t) n e (.send rd q))

/-- Row RECV (R293), issued by logical engine e of cluster n. -/
def execRecv (n : Fin 12) (e : Fin 14) (rd : Fin 16) (q : Fin 16) (t : Nat) (s : State) : Out :=
  done (engIssue (s.at t) n e (.recv rd q))

/-- Row PEEK (R293), issued by logical engine e of cluster n. -/
def execPeek (n : Fin 12) (e : Fin 14) (rd : Fin 16) (q : Fin 16) (t : Nat) (s : State) : Out :=
  done (engIssue (s.at t) n e (.peek rd q))

/-- Row POLL (R293), issued by logical engine e of cluster n. -/
def execPoll (n : Fin 12) (e : Fin 14) (rd : Fin 16) (q : Fin 16) (t : Nat) (s : State) : Out :=
  done (engIssue (s.at t) n e (.poll rd q))

/-- Row TSTAMP (R294), issued by logical engine e of cluster n. -/
def execTstamp (n : Fin 12) (e : Fin 14) (rd : Fin 16) (t : Nat) (s : State) : Out :=
  done (engIssue (s.at t) n e (.tstamp rd))

/-- Row TWAIT (R295), issued by logical engine e of cluster n. -/
def execTwait (n : Fin 12) (e : Fin 14) (rs : Fin 16) (t : Nat) (s : State) : Out :=
  done (engIssue (s.at t) n e (.twait rs))

/-- Row TCMP (R294), issued by logical engine e of cluster n. -/
def execTcmp (n : Fin 12) (e : Fin 14) (rs : Fin 16) (t : Nat) (s : State) : Out :=
  done (engIssue (s.at t) n e (.tcmp rs))

/-- Row ENGINE_WAKE (R261): a dark engine whose condition holds completes its WAIT, RECV or TWAIT and issues again. -/
def execEngineWake (n : Fin 12) (e : Fin 14) (t : Nat) (s : State) : Out := done (engWake (s.at t) n e)

/-- Row STALL_END (R292): a stalled instruction that finds room, data or the lock completes. -/
def execStallEnd (n : Fin 12) (e : Fin 14) (t : Nat) (s : State) : Out := done (stallEnd (s.at t) n e)

/-- The watchdog of an engine runs: not while it is dark, stopped for migration or intermission, or halted (R262, R485). -/
def dogRuns (s : State) (n : Fin 12) (e : Fin 14) : Bool :=
  let x := s.eng n e
  decide (x.run = .running) && x.phys.isSome && x.dark.isNone && !x.intm && !migStopped s n e

/-- An expiry of the watchdog (R262, R299): the first traps WDOG at the next instruction boundary, or while TA is 1 only
counts as the first; a second without a restart in between restarts the engine. -/
def watchdogExpire (s : State) (n : Fin 12) (e : Fin 14) : State :=
  let x := s.eng n e
  if !dogRuns s n e then s
  else if !x.wdFirst then
    (s.updEng n e fun x => { x with wdFirst := true, wdTrap := !x.ta }).cluEvt n cluWDOG
  else ((((restartEngine s n e).bump (CLU_WDOGC n.val)).cluEvt n cluWDRESTART).cluRaise n 0xB e.val).trace (clTrace n) 8 e.val 0

/-- Row WATCHDOG_EXPIRE (R262). -/
def execWatchdogExpire (n : Fin 12) (e : Fin 14) (t : Nat) (s : State) : Out := done (watchdogExpire (s.at t) n e)

/-- A duty deadline passes (R263): a running engine that has not executed SYNC since the sample instant is a miss. The
deadline pauses while the engine is halted or stopped by intermission (R485, R511). -/
def deadlineMiss (s : State) (n : Fin 12) (e : Fin 14) : State :=
  let x := s.eng n e
  if x.run = .running ∧ !x.intm ∧ !x.synced ∧ s.regSel (CLU_ENG_DL n.val) e.val ≠ 0 then
    (((s.updEng n e fun x => { x with synced := true }).bump (CLU_DLMISS n.val)).cluEvt n cluDLMISS).cluRaise n 0x2 e.val
  else s

/-- Row DEADLINE_MISS (R263). -/
def execDeadlineMiss (n : Fin 12) (e : Fin 14) (t : Nat) (s : State) : Out := done (deadlineMiss (s.at t) n e)

end Sys2Proof.Machine
end

