-- ==== Sys2Proof/Machine/Instants.lean ====
section
/-! DEFINITION. The instants of a cycle (R76): sample, snapshot refresh, flip, latch and image (R77, R231, R253-R256, R308,
R312), and the speed-margin monitors (R26, R27). -/

namespace Sys2Proof.Machine

/-- A list cut into runs of at most m, with the place each run begins at; `fuel` bounds the runs. -/
def cutRuns {α : Type} (m : Nat) : Nat → Nat → List α → List (Nat × List α)
  | 0, _, _ => []
  | _ + 1, _, [] => []
  | fuel + 1, at_, l => (at_, l.take m) :: cutRuns m fuel (at_ + m) (l.drop m)

/-- The instants of a cycle (R76). -/
inductive InstKind where
  | sample | latch | flip
  deriving DecidableEq, Repr

def InstKind.ix : InstKind → Fin 3
  | .sample => 0
  | .latch => 1
  | .flip => 2

/-- The offset of an instant in its cycle, in ticks. -/
def InstKind.ofs (c : CueSheet) : InstKind → Int
  | .sample => (c.tSmp * nsT : Nat)
  | .latch => (c.tLat * nsT : Nat)
  | .flip => (c.tFlp * nsT : Nat)

/-- The cycle of an instant that comes now: the one whose instant lies nearest in ring time. It follows S, never the arrival of a marker
(R76). -/
def instantCycle (s : State) (c : CueSheet) (i : InstKind) : DWord :=
  let far (k : DWord) : Nat := (sOf s k + i.ofs c - s.ring).natAbs
  [s.present + 1, s.present - 1].foldl (fun best k => if far k < far best then k else best) s.present

/-- That instant of the cycle has not come yet: a backward step does not repeat one (R116). -/
def notYet (s : State) (i : InstKind) (k : DWord) : Bool := match vget s.time.instDone i.ix with
  | none => true
  | some d => decide (0 < diff32 k d)

/-- An instant of a cycle comes, once. -/
def onceIn (s : State) (i : InstKind) (k : DWord) (act : State → DWord → State) : State :=
  if notYet s i k then act (s.updTime fun t => { t with instDone := vset t.instDone i.ix (some k) }) k else s

/-- An instant comes now (R76): the node knows S and has a sheet for its instants. -/
def instantNow (s : State) (i : InstKind) (act : State → DWord → State) : State :=
  match s.time.sValid, s.runSheet with
  | true, some c => onceIn s i (instantCycle s c i) act
  | _, _ => s

/-- The node has instants: it knows S and has a sheet for them. -/
def hasInstants (s : State) : Bool := s.time.sValid && s.runSheet.isSome

/-! Sample and snapshot (R253, R312). -/

/-- SAMPLE_INSTANT: the snapshot is captured and sent to the hub. -/
def sampleInstant (s : State) : State :=
  let ws := snapWords s
  let s1 : State := { s with snap := ws }
  let s2 := s1.each (cutRuns 15 32 0 ws) fun s x => s.barReady .fh .imageIn (.snapshot x.1 x.2)
  let s3 : State := { s2 with clusters := s2.clusters.map fun (c : Cluster) =>
    { c with engines := c.engines.map fun (x : Engine) => { x with synced := false } } }
  noteInstantAll s3 0

/-- Row SAMPLE_INSTANT (R76, R312). -/
def execSampleInstant (t : Nat) (s : State) : Out := done (instantNow (s.at t) .sample fun s _ => sampleInstant s)

/-- The regions of a cluster's window of one kind. -/
def regionsOf (s : State) (n : Fin 12) (k : RegionKind) : List Region := match (s.cl n).cfg with
  | none => []
  | some g => g.regions.filter fun r => decide (r.kind = k)

/-- A SNAP region takes its words of the snapshot; words past those laid down read 0 (R312). -/
def snapRegion (s : State) (n : Fin 12) (r : Region) : State :=
  s.setWords (windowBase n.val + 2 * r.win) ((List.range r.len).map fun i => wAt s.snap (r.hub + i))

/-- Row SNAP_REFRESH (R253): all SNAP regions together. -/
def execSnapRefresh (t : Nat) (s : State) : Out :=
  done ((s.at t).each (List.finRange 12) fun s n => s.each (regionsOf s n .snap) fun s r => snapRegion s n r)

/-! The flip instant (R77, R79, R412, R256). -/

/-- Cores that send images: those that the claims let output, or make ready to (R14, R398). -/
def imageCores (s : State) : List Core := [Core.c0, Core.c1].filter fun c => claimHigh (s.core c).claim

/-- The pin image word a section names (R256). -/
def pimgWord (s : State) (n : Fin 12) : Option Nat := match (s.cl n).cfg with | none => none | some g => g.pimg

/-- The cycle of the first latch instant after the flip instant of cycle k. -/
def latchAfter (s : State) (k : DWord) : DWord := match s.runSheet with
  | none => k
  | some c => if c.tFlp < c.tLat then k else k + 1

/-- Each core sends the pin image words from its send bank, at the flip instant of cycle k (R256). -/
def sendPinImages (s : State) (k : DWord) : State :=
  s.each (imageCores s) fun s c => s.each (List.finRange 12) fun s n => match pimgWord s n with
    | none => s
    | some w => s.barReady .hf .imageOut (.pinImage c n.val (latchAfter s k) (s.sendWord w))

/-- FLIP_INSTANT of cycle k: landing buffers turn over, the banks swap, the health word is placed. -/
def flipInstant (s : State) (k : DWord) : State :=
  let s1 := (landingsOpen s k).updCue fun c => { c with fill := !c.fill }
  noteInstantAll (sendPinImages (cmpFlip (placeHealth s1)) k) 2

/-- Row FLIP_INSTANT (R76, R77). -/
def execFlipInstant (t : Nat) (s : State) : Out := done (instantNow (s.at t) .flip flipInstant)

/-! The latch instant. -/

/-- Staged values of a committed set are written (R231): publish words and cluster shared memory. -/
def commitOne (s : State) (x : Staged) : State :=
  if localPlace x.addr = .publish then
    s.each (List.range x.data.length) fun s i =>
      let w := (x.addr - 0x400000) / 2 + i
      if pubRefuses s w then s else pubWrite s w (wAt x.data i)
  else clusterWrites s x.addr x.data

/-- The key of a staging set. -/
def setKey (x : Staged) : Issuer × Nat := (x.src, x.set)

/-- The staged writes of cycle k (R231): committed ones are written, sets with neither COMMIT nor ABORT are orphans. -/
def commitStaged (s : State) (k : DWord) : State :=
  let mine := s.brg.staged.filter fun x => decide (x.cycle = k)
  let s1 := s.updBrg fun b => { b with staged := b.staged.filter fun x => decide (x.cycle ≠ k) }
  let s2 := s1.each (mine.filter (·.committed)) commitOne
  let orphans := ((mine.filter fun x => !x.committed).map setKey).eraseDups
  s2.each orphans fun s o => ((s.bump BRG_STG_ORPHAN).evt BRG_EVT brgSTG_ORPHAN).raise Src.orphanSet o.1.ep

/-- The pin image of one cluster at the latch instant of cycle k (R21, R256, R402): the accepted core's, which the other core's is compared
with. -/
def latchPins (k : DWord) (s : State) (n : Fin 12) : State :=
  let c := s.cl n
  let clear (gap : Bool) (s : State) : State :=
    s.updCl n fun c => { c with pimgStage := Vector.replicate 2 none, imgGap := gap }
  match pimgWord s n, s.fieldAccepted with
  | some _, some a =>
    let sent (x : Core) : Option Word := match vget c.pimgStage x.ix with
      | none => none
      | some (j, w) => if j = k then some w else none
    let mine := sent a
    let s1 := if comparing s && decide (mine ≠ sent a.other) then mismatch s 1 else s
    match mine with
    | none => (clear true s1).raise Src.imageIncomplete n.val
    | some w => clear false (s1.each (List.finRange 12) fun s j => s.updPin (pinOf n j) fun p => { p with image := bitOf w j.val })
  | _, _ => clear false s

/-- Rank 7 at a latch instant (R116, R127, R308): the field die by what it has been told, and the ring side, whose TIM_STAT.GAP ends
where the outputs leave their gap values, locked and out of holdover. -/
def latchTime (s : State) : State :=
  let m := s.fmodes
  let t := s.time
  let ends := t.gapTaken && t.locked && t.stepDue.isNone && !t.hold
  { s with timeGap := if m.gap && !s.timeGap then true else s.timeGap && !m.locked
           time := if ends then { t with gap := false, stepGap := false, gapTaken := false }
             else { t with gapTaken := t.gap || t.stepGap } }

/-- Ranks that end at a latch instant end at this one (R308). -/
def latchHolds (s : State) : State :=
  let s1 : State := { s with claimGap := s.fieldAccepted.isNone
                             dark := { s.dark with outHold := false }
                             start := { s.start with latched := true } }
  { s1 with clusters := s1.clusters.map fun (c : Cluster) => { c with offHold := c.offHold && !c.online, shedHold := 0 } }

/-- Word w of the hub side of an IN region (R253). -/
def inWord (s : State) (r : Region) (i : Nat) : Word := if r.send then s.sendWord (r.hub + i) else subWord s (r.hub + i)

/-- Each core sends the words of the IN regions for the image instant of cycle k (R253, R254). -/
def sendImages (s : State) (k : DWord) : State :=
  s.each (imageCores s) fun s c => s.each (List.finRange 12) fun s n => s.each (regionsOf s n .inn) fun s r =>
    s.each (cutRuns 14 4096 r.win ((List.range r.len).map (inWord s r))) fun s x => s.barReady .hf .imageOut (.imageOut c n.val k x.1 x.2)

/-- LATCH_INSTANT of cycle k (R76, R79, R231, R256, R308, R485, R529). -/
def latchInstant (s : State) (k : DWord) : State :=
  let s1 := commitStaged (intmLatch (deliverAll s k)) k
  let s2 := latchHolds (latchTime (s1.each (List.finRange 12) (latchPins k)))
  noteInstantAll (sendImages (cmpLatch (settle s2)) k) 1

/-- Row LATCH_INSTANT (R76). -/
def execLatchInstant (t : Nat) (s : State) : Out := done (instantNow (s.at t) .latch latchInstant)

/-- What an instant of cycle k does. -/
def instantAct : InstKind → State → DWord → State
  | .sample => fun s _ => sampleInstant s
  | .latch => latchInstant
  | .flip => flipInstant

/-- The three instants of a sheet in the order of their times. -/
def instantOrder (c : CueSheet) : List InstKind :=
  let put (l : List InstKind) (i : InstKind) : List InstKind :=
    l.takeWhile (fun j => decide (j.ofs c ≤ i.ofs c)) ++ [i] ++ l.dropWhile (fun j => decide (j.ofs c ≤ i.ofs c))
  [InstKind.sample, .latch, .flip].foldl put []

/-- A step under R116 by d at a cycle boundary: the instants of the cycle that begins which a forward step passes over come at the step,
in their order. -/
def timekeeperStep (s : State) (d : Int) : State :=
  let from_ := s.ring
  let k := if sOf s (s.present + 1) ≤ from_ then s.present + 1 else s.present
  let s1 := stepTime s d false
  match s.time.sValid, s.runSheet with
  | true, some c =>
    let passes (i : InstKind) : Bool := decide (from_ < sOf s k + i.ofs c) && decide (sOf s k + i.ofs c ≤ from_ + d)
    s1.each ((instantOrder c).filter passes) fun s i => onceIn s i k (instantAct i)
  | _, _ => s1

/-- Row TIMEKEEPER_STEP (R116). -/
def execTimekeeperStep (t : Nat) (s : State) : Out :=
  let s1 := s.at t
  done (match s1.time.stepDue with
    | none => s1
    | some d => timekeeperStep s1 d)

/-! The image instant (R254). -/

/-- The words of the IN regions of a cluster, by window word. -/
def inPlaces (s : State) (n : Fin 12) : List Nat := (regionsOf s n .inn).flatMap fun r => (List.range r.len).map (r.win + ·)

/-- What a core has sent for a window word for the image instant of a cycle. -/
def stagedWord (k : DWord) (l : List (DWord × Nat × Word)) (w : Nat) : Option Word :=
  (l.find? fun x => decide (x.1 = k) && decide (x.2.1 = w)).map (·.2.2)

/-- The cycle of the last latch instant. -/
def latchCycle (s : State) : DWord := (vget s.time.instDone InstKind.latch.ix).getD s.present

/-- IMAGE_INSTANT of a cluster, for the latch instant before it: all IN regions change together, or none. -/
def imageInstant (s : State) (n : Fin 12) : State :=
  let k := latchCycle s
  let ws := inPlaces s n
  let clear (s : State) : State := s.updCl n fun c => { c with inStage := Vector.replicate 2 [] }
  match s.fieldAccepted with
  | none => if ws.isEmpty then clear s else ((clear s).bump (CLU_IMGLATE n.val)).cluEvt n cluIMGLATE |>.cluRaise n 0x8 0
  | some a =>
    let mine := vget (s.cl n).inStage a.ix
    let theirs := vget (s.cl n).inStage a.other.ix
    let s1 := if comparing s then
        s.each (ws.filter fun w => decide (stagedWord k mine w ≠ stagedWord k theirs w)) fun s _ => mismatch s 1
      else s
    if ws.all fun w => (stagedWord k mine w).isSome then
      clear (s1.each ws fun s w => s.setWord (windowBase n.val + 2 * w) ((stagedWord k mine w).getD 0))
    else (((clear s1).bump (CLU_IMGLATE n.val)).cluEvt n cluIMGLATE).cluRaise n 0x8 0

/-- Row IMAGE_INSTANT (R254): at latch plus CLU_IMG_DLY of the cluster. -/
def execImageInstant (n : Fin 12) (t : Nat) (s : State) : Out :=
  let s1 := s.at t
  done (if hasInstants s1 && (s1.cl n).cfg.isSome then noteInstant (imageInstant s1 n) n 3 else s1)

/-! Speed margins (R26, R27). -/

/-- One threshold takes a measurement: its state, and whether it reports. -/
def limitStep (m : MarginLimit) (now : Nat) (code thr : Int) : MarginLimit × Bool :=
  let run := if code < thr then min 4 (m.run + 1) else 0
  let above := if thr + 2 ≤ code then some (m.aboveSince.getD now) else none
  let armed := m.armed || (match above with | none => false | some t => decide (t + msT ≤ now))
  let reports := armed && decide (run = 4)
  (⟨run, armed && !reports, above⟩, reports)

/-- A monitor takes a measurement (R26, R27, R32): live and minimum, and which thresholds report. -/
def marginStep (m : Margin) (now : Nat) (code : BitVec 8) (thr : Word) : Margin × Bool × Bool :=
  let warn : Int := (thr.extractLsb' 8 8).toInt
  let crit : Int := (thr.extractLsb' 0 8).toInt
  let (w, rw) := if warn ≤ crit then ({ m.warn with run := 0, aboveSince := none }, false) else limitStep m.warn now code.toInt warn
  let (c, rc) := limitStep m.crit now code.toInt crit
  let low := if m.restart || decide (code.toInt < m.low.toInt) then code else m.low
  (⟨code, low, false, w, c⟩, rw, rc)

/-- A cluster's monitor measures. -/
def clusterMargin (s : State) (n : Fin 12) (code : BitVec 8) : State :=
  let (m, rw, rc) := marginStep (vget s.margins n) s.now code (s.reg FLD_MGN_THR)
  let s1 : State := { s with margins := vset s.margins n m }
  (s1.when rw fun s => s.cluRaise n 0xE 0).when rc fun s => s.cluRaise n 0xF 0

/-- MARGIN_SWAP (R410): the lead's own warning, with the understudy at least 4.0 % better. -/
def marginSwap (s : State) (c : Core) : State :=
  let better := decide ((s.core c).margin.live.toInt + 8 ≤ (s.core c.other).margin.live.toInt)
  if s.lead? = some c ∧ s.bit LU_CTRL 14 ∧ better then swapRequest s c .swap else s

/-- A core's monitor measures. -/
def coreMargin (s : State) (c : Core) (code : BitVec 8) : State :=
  let (m, rw, rc) := marginStep (s.core c).margin s.now code (s.reg LU_MGN_THR)
  let s1 := s.updCore c fun x => { x with margin := m }
  let s2 := s1.when rw fun s => marginSwap ((s.evt LU_EVT luMWARN).raiseCore c Src.coreMarginWarn c.ix.val) c
  s2.when rc fun s => (s.evt LU_EVT luMCRIT).raiseCore c Src.coreMarginCrit c.ix.val

/-- Row MARGIN_MEASURE (R26, R27): the margin code measured by the monitor of cluster 0-11, or of core 0 or 1 (12, 13). -/
def execMarginMeasure (block : Fin 14) (code : BitVec 8) (t : Nat) (s : State) : Out :=
  let s1 := s.at t
  done (match place? 12 block.val with
    | some n => clusterMargin s1 n code
    | none => coreMargin s1 (if block.val = 12 then .c0 else .c1) code)

/-- Row FLD_MGN_CLR (R32): the word written. -/
def execFldMgnClr (v : Word) (t : Nat) (s : State) : Out := done (clearMargins (s.at t) v)

/-- Row LU_MGN_CLR (R415): the word written. -/
def execLuMgnClr (v : Word) (t : Nat) (s : State) : Out :=
  done (clearCoreMargin (clearCoreMargin (s.at t) v .c0) v .c1)

end Sys2Proof.Machine
end

