-- ==== Sys2Proof/Machine/Host.lean ====
section
/-! DEFINITION. The host ports (R469-R482): the uplinks and their envelopes, PTP, and the QSPI port. -/

namespace Sys2Proof.Machine

/-- HST_EVT bits (R492). -/
abbrev hstLINK (u : Uplink) : Nat := 15 - u.ix.val
abbrev hstBAD : Nat := 13
abbrev hstNAK : Nat := 12
abbrev hstQSERR : Nat := 11

def hstBadReg (u : Uplink) : Nat := match u with | .ten => HST_10_BAD | .one => HST_1_BAD
def hstDropReg (u : Uplink) : Nat := match u with | .ten => HST_10_DROP | .one => HST_1_DROP

/-- HST_IP and HST_MAC. -/
def hstIp (s : State) : DWord := s.reg HST_IP_H ++ s.reg HST_IP_L
def hstMac (s : State) : List Word := [s.reg HST_MAC_H, s.reg HST_MAC_M, s.reg HST_MAC_L]

/-! Frames (R470, R471, R491). -/

/-- A frame or datagram is discarded for a cause of R475, or for its size (cause 0), at an uplink. -/
def discardFrame (s : State) (u : Uplink) (cause : Nat) (inj : Option (Core × Bool)) : State :=
  let s1 := (s.bump (hstBadReg u)).evt HST_EVT hstBAD
  if cause = 0 then s1
  else raiseHub (s1.setReg HST_LASTERR (bitW (decide (u = .one)) 15 ||| putFld cause 3 0)) Src.datagram u.ix.val inj

/-- ETH_FRAME_RECEIVE (R470): `kind` is 0 for an ARP request for HST_IP, 1 for PTP, 2 for an envelope, 3 for anything else; the
frames of the first three go on to the rows that handle them. -/
def frameReceive (s : State) (u : Uplink) (addressed fcsOk : Bool) (bytes kind : Nat) : State :=
  if !uplinkOn s u || !addressed then s
  else
    let (inj, s1) := if kind = 2 then hubCheck s Src.datagram else (none, s)
    if !fcsOk || inj.isSome then discardFrame s1 u 1 inj
    else if 9000 < bytes then discardFrame s1 u 0 none
    else if kind = 3 then s1.bump (hstDropReg u)
    else s1

/-- Row ETH_FRAME_RECEIVE (R470, R475): whether it is addressed to HST_MAC, to broadcast or to an enabled PTP multicast
address, its FCS, the length of its payload and its kind. -/
def execEthFrameReceive (u : Uplink) (addressed fcsOk : Bool) (bytes : Word) (kind : Fin 4) (t : Nat) (s : State) : Out :=
  done (frameReceive (s.at t) u addressed fcsOk bytes.toNat kind.val)

/-- Row ARP_REQUEST (R470): for an IPv4 address, from a sender; the answer's words are those of RFC 826
(notes/assumptions/52.md). -/
def execArpRequest (u : Uplink) (ip : DWord) (mac : BitVec 48) (senderIp : DWord) (t : Nat) (s : State) : Out :=
  let s1 := s.at t
  let words := [1, 0x0800, 0x0604, 2] ++ hstMac s1 ++ toWords 2 ip.toNat ++ toWords 3 mac.toNat ++ toWords 2 senderIp.toNat
  done (if uplinkOn s1 u ∧ hstIp s1 ≠ 0 ∧ ip = hstIp s1 then ethSend s1 u ⟨some mac, [], none, 0x0806, words⟩ else s1)

/-- A PAUSE frame (R471): opcode and quanta of IEEE 802.3 Annex 31B. -/
def pauseFrame (quanta : Word) : EthFrame := ⟨some 0x0180C2000001, [], none, 0x8808, [1, quanta]⟩

/-- PAUSE_SEND (R471). -/
def pauseSend (s : State) (u : Uplink) : State :=
  if !s.bit HST_CTRL 11 || !uplinkOn s u then s
  else if pressed s (uplinkPort u) then (ethSend s u (pauseFrame 0xFFFF)).updHost fun h => { h with ups := vupd h.ups u.ix fun x => { x with pausing := true } }
  else if (vget s.host.ups u.ix).pausing then
    (ethSend s u (pauseFrame 0)).updHost fun h => { h with ups := vupd h.ups u.ix fun x => { x with pausing := false } }
  else s

/-- Row PAUSE_SEND (R471). -/
def execPauseSend (u : Uplink) (t : Nat) (s : State) : Out := done (pauseSend (s.at t) u)

/-- Ticks of a quantum of 512 bit times at an uplink's speed. -/
def quantumT (s : State) (u : Uplink) : Nat := match u with
  | .ten => 512 * nsT / 10
  | .one => match (vget s.host.ups 1).speed with
    | 0 => 51200 * nsT
    | 1 => 5120 * nsT
    | _ => 512 * nsT

/-- Row PAUSE_RECEIVE (R471): the quanta hold the transmitter. -/
def execPauseReceive (u : Uplink) (quanta : Word) (t : Nat) (s : State) : Out :=
  let s1 := s.at t
  done (if s1.bit HST_CTRL 11 && uplinkOn s1 u then
      s1.updHost fun h => { h with ups := vupd h.ups u.ix fun x => { x with pausedTo := s1.now + quanta.toNat * quantumT s1 u } }
    else s1)

/-- UPLINK_LINK_CHANGE (R491, R492). -/
def linkChange (s : State) (u : Uplink) (up : Bool) (speed : Nat) : State :=
  let was := (vget s.host.ups u.ix).up
  let s1 := s.updHost fun h => { h with ups := vupd h.ups u.ix fun x =>
    { x with up := up, speed := speed, pausedTo := if up then x.pausedTo else 0, pausing := x.pausing && up } }
  if was = up then s1
  else
    let s2 := s1.evt HST_EVT (hstLINK u)
    if up then s2 else s2.raise (Src.uplinkLost u) u.ix.val

/-- Row UPLINK_LINK_CHANGE (R491): the link and its speed, for the 1G uplink 0 10, 1 100, 2 1,000 Mbit/s. -/
def execUplinkLinkChange (u : Uplink) (up : Bool) (speed : Fin 3) (t : Nat) (s : State) : Out :=
  done (linkChange (s.at t) u up speed.val)

/-! Envelopes (R472-R475). -/

/-- The items of an envelope, each with its own length, where they fill the words exactly (R473). -/
def cutItems : Nat → List Word → Option (List (Nat × List Word))
  | 0, [] => some []
  | 0, _ :: _ => none
  | _ + 1, [] => none
  | n + 1, h :: t =>
    if h = 0 then (cutItems n (h :: t)).map ((0, []) :: ·)
    else if t.length + 1 < h.toNat then none
    else (cutItems n (t.drop (h.toNat - 1))).map ((h.toNat, t.take (h.toNat - 1)) :: ·)

def envItems (ws : List Word) : Option (List (Nat × List Word)) := cutItems (wAt ws 3).toNat (ws.drop 4)

/-- A RELAY header (R473). A ring frame that crosses a joint is of no type that could be taken for one (R476). -/
def relayHeader (ws : List Word) : Bool := decide (4 ≤ ws.length) && decide (fld (wAt ws 0) 15 8 = 0x13)

/-- RELAY headers nested in one another. -/
def relayDepth : Nat → List Word → Nat
  | 0, _ => 0
  | n + 1, ws => if relayHeader ws then match envItems ws with
      | some (x :: _) => 1 + relayDepth n x.2
      | _ => 1
    else 0

/-- Lengths inside a RELAY envelope agree: of nested envelopes and of ring frames. -/
def relayShape : Nat → List Word → Bool
  | 0, _ => true
  | n + 1, ws =>
    if relayHeader ws then
      decide ((wAt ws 2).toNat = ws.length) && (match envItems ws with
        | none => false
        | some l => l.all fun x => relayShape n x.2)
    else decide (ws.length = 6 + fld (wAt ws 3) 9 0)

/-- The innermost ring frame of an item (R476). -/
def innermost : Nat → List Word → List Word
  | 0, ws => ws
  | n + 1, ws => if relayHeader ws then match envItems ws with
      | some (x :: _) => innermost n x.2
      | _ => ws
    else ws

/-- A joining uplink (R195), on which no host stands. -/
def joining (s : State) (u : Uplink) : Bool := isJoint s && decide (jointUplink s = u)

/-- The descriptor of an item, and the most data words its completion can carry (R228, R250); none where it draws none. -/
def itemDesc (ep : Nat) (ws : List Word) : Descriptor := parseDescriptor ep ws
def answerWords (d : Descriptor) : Option Nat :=
  match d.op with
  | .rd | .lrd => some (d.len + 1)
  | .gwr | .range => some 6
  | .semacq => some 1
  | .commit => some 2
  | op => if op.posted then none else some 0

/-- Words of the RESPONSE a REQUEST would draw (R473, R475). -/
def responseSize (items : List (Nat × List Word)) : Nat :=
  items.foldl (fun n x => match answerWords (itemDesc 1 x.2) with | none => n | some k => n + 4 + k) 4

/-- The word at which the first item of fewer than 2 words stands. -/
def shortItem : Nat → List (Nat × List Word) → Nat
  | at_, [] => at_
  | at_, x :: t => if x.1 < 2 then at_ else shortItem (at_ + x.1) t

/-- The checks 6-10 of R475 in order, over the words of a datagram: cause, and the word where it failed where that is plain.
`lengths` is the verdict on the lengths outside the envelope. -/
def datagramCause (s : State) (u : Uplink) (udp lengths : Bool) (ws : List Word) : Option (Nat × Option Nat) :=
  let kind := fld (wAt ws 0) 11 8
  if ws.length < 4 ∨ !lengths ∨ (wAt ws 2).toNat ≠ ws.length then some (6, none)
  else match envItems ws with
    | none => some (6, none)
    | some items =>
      if relayHeader ws && !relayShape 8 ws then some (6, none)
      else if 3 < relayDepth 5 ws then some (7, some 15)
      else if fld (wAt ws 0) 15 12 ≠ 1 ∨ 4 < kind ∨ (joining s u ∧ (kind = 0 ∨ kind = 4)) ∨ (!joining s u ∧ kind = 3) then some (8, some 0)
      else if items.any fun x => decide (x.1 < 2) then some (9, some (shortItem 4 items))
      else if kind = 0 ∧ (if udp then 4486 else 4500) < responseSize items then some (10, none)
      else none

/-- The EtherType of an envelope to a peer. -/
def peerFrame (s : State) (p : EthPeer) (ws : List Word) : EthFrame :=
  ⟨some p.mac, p.tags, p.udp, if p.udp.isSome then 0x0800 else s.reg HST_ETYPE, ws⟩

/-- A NAK (R473, R475). -/
def nak (s : State) (u : Uplink) (p : EthPeer) (seq : Word) (cause : Nat) (at_ : Option Nat) : State :=
  let off := match at_ with | some k => wd k | none => s.free
  let s1 := if at_.isSome then s else s.usedFree
  ((ethSend s1 u (peerFrame s p [0x1200, seq, 6, 0, wd cause, off])).bump HST_NAK).evt HST_EVT hstNAK

/-- A datagram is judged (R470, R472, R475): `low` is the first of the causes 2-5, if any. What passes goes on; with HST_IP at 0 a UDP
envelope is not accepted, and is of no accepted kind. -/
def judged (s : State) (u : Uplink) (p : EthPeer) (low : Option (Fin 4)) (lengths : Bool) (ws : List Word) (go : State → State) : State :=
  if !uplinkOn s u then s
  else if p.udp.isSome && decide (hstIp s = 0) then s.bump (hstDropReg u)
  else match low with
    | some c => discardFrame s u (c.val + 2) none
    | none => match datagramCause s u p.udp.isSome lengths ws with
      | none => go s
      | some (c, at_) =>
        let s1 := discardFrame s u c none
        let valid := decide (4 ≤ ws.length) && decide (fld (wAt ws 0) 15 12 = 1) && decide (fld (wAt ws 0) 11 8 ≤ 4)
        if valid then nak s1 u p (wAt ws 1) c at_ else s1

/-- What an envelope of a kind holds. -/
def itemsOf (ws : List Word) (kind : Nat) : Option (List (List Word)) :=
  if fld (wAt ws 0) 11 8 ≠ kind then none else (envItems ws).map fun l => l.map (·.2)

/-! Requests of hosts (R474). -/

def envEndpoint (u : Uplink) : Nat := 1 + u.ix.val

/-- A descriptor's words are handed to the bridge; one of another length than its operation and LEN tell is a wrong size
(R204, R475). -/
def issueWords (s : State) (ep : Nat) (ws : List Word) (via : ReqVia) : State :=
  let d := parseDescriptor ep ws
  if decide (d.op ≠ .reserved) && decide (d.op ≠ .rsp) && decide (descriptorLen ws ≠ some ws.length) then localStatus s d via stSIZE
  else issue s d via

/-- An item's place before its completion has come: posted requests and signals draw none (R250). -/
def itemStart (ws : List Word) : EnvItem := if (parseDescriptor 1 ws).op.posted && decide ((parseDescriptor 1 ws).op ≠ .commit) then .silent else .waits

def envKey (u : Uplink) (p : EthPeer) (seq : Word) : EnvKey :=
  ⟨u, p.mac.toNat, (match p.udp with | none => 0 | some x => x.1.toNat), (match p.udp with | none => 0 | some x => x.2.toNat), seq⟩

/-- An envelope under way, or answered within BRG_DUP_WIN (R474). -/
def envFind (s : State) (k : EnvKey) : Option EnvEntry :=
  s.host.envs.find? fun e => decide (e.key = k) && (!e.done || decide (s.now < e.at_ + dupWin s))

/-- The RESPONSE of an entry: item indexes with their completions, in item order (R473, R474). -/
def responseItems : Nat → List EnvItem → List (List Word)
  | _, [] => []
  | i, .done c :: t => (wd i :: completionWords c) :: responseItems (i + 1) t
  | i, _ :: t => responseItems (i + 1) t
def sendAnswer (s : State) (e : EnvEntry) : State :=
  ethSend s e.key.uplink (peerFrame s e.peer (envelope 1 e.key.seq (responseItems 0 e.items)))

/-- A REQUEST envelope that has passed its checks. -/
def requestItems (s : State) (u : Uplink) (p : EthPeer) (seq : Word) (items : List (List Word)) : State :=
  let k := envKey u p seq
  match envFind s k with
  | some e => (if e.done then sendAnswer s e else s).bump HST_DUPENV
  | none =>
    let s1 := s.updHost fun h =>
      { h with envs := h.envs.filter (fun e => decide (e.key ≠ k)) ++ [⟨k, p, items.map itemStart, false, 0⟩] }
    s1.each (List.range items.length) fun s i => issueWords s (envEndpoint u) ((items[i]?).getD []) (.envelope k i)

/-- Row ENVELOPE_REQUEST (R472-R475): who sent the datagram, the first of the causes 2-5 if one applies, whether the lengths
outside the envelope agree, and the envelope's words. -/
def execEnvelopeRequest (u : Uplink) (p : EthPeer) (low : Option (Fin 4)) (lengths : Bool) (ws : List Word) (t : Nat) (s : State) : Out :=
  done (judged (s.at t) u p low lengths ws fun s => match itemsOf ws 0 with
    | none => s
    | some items => requestItems s u p (wAt ws 1) items)

/-- Every item has its completion. -/
def envComplete (e : EnvEntry) : Bool := !e.done && e.items.all fun x => decide (x ≠ .waits)

/-- The last 8 answered envelopes of an uplink are kept (R474). -/
def keepEight (u : Uplink) (l : List EnvEntry) : List EnvEntry :=
  let mine := l.filter fun e => e.done && decide (e.key.uplink = u)
  let old := mine.take (mine.length - 8)
  l.filter fun e => !old.contains e

/-- ENVELOPE_RESPONSE (R474). -/
def envelopeResponse (s : State) (u : Uplink) : State :=
  match s.host.envs.find? fun e => envComplete e && decide (e.key.uplink = u) with
  | none => s
  | some e =>
    let e1 : EnvEntry := { e with done := true, at_ := s.now }
    (sendAnswer s e1).updHost fun h => { h with envs := keepEight u (h.envs.filter (· ≠ e) ++ [e1]) }

/-- Row ENVELOPE_RESPONSE (R474). -/
def execEnvelopeResponse (u : Uplink) (t : Nat) (s : State) : Out := done (envelopeResponse (s.at t) u)

/-! Joints (R195-R197, R476). -/

/-- A frame's words as a frame. -/
def frameOf (ws : List Word) : Frame :=
  let f : Frame := { w0 := wAt ws 0, w1 := wAt ws 1, w2 := wAt ws 2, w3 := wAt ws 3, payload := (ws.drop 4).take (ws.length - 6), crcOk := true }
  { f with crcOk := decide (ws = f.words) }

/-- A frame that cannot cross further (R197): counted, and its requester receives NO_ROUTE. -/
def crossRefused (s : State) (f : Frame) : State :=
  let s1 := ((s.bump FAB_NOROUTE).evt FAB_EVT 6).raise Src.noRoute f.dring
  let w := waitingOf f
  if f.type ≠ 0 ∨ w.op.posted ∨ w.op = .rsp ∨ w.op = .reserved then s1 else sendResponse s1 w.req ⟨stNO_ROUTE, []⟩

/-- One item of a RELAY envelope that has crossed `depth` joints: inserted on this ring, or sent on to another exit. -/
def relayItem (s : State) (u : Uplink) (depth : Nat) (ws item : List Word) : State :=
  let f := frameOf (innermost 5 item)
  let i := uplinkPort u
  if f.dring = s.ringNo then switchInput s i (f.sub % 32) f none depth
  else if 3 ≤ depth ∨ 512 < ws.length then crossRefused s f
  else match exitNode s f.dring with
    | none => crossRefused s f
    | some e =>
      let cls := if f.cls = 0 ∧ 32 < ws.length then 1 else f.cls
      let g := Frame.mk' cls 3 0 (putFld s.ringNo 15 12 ||| putFld e 11 0) s.srcWord 0 ws
      if e = s.fab.node then submit s (jointPort s) ⟨g, i.val, s.now, 0, none, depth⟩ else switchInput s i 0 g none depth

/-- Row ENVELOPE_RELAY (R195, R197, R476). -/
def execEnvelopeRelay (u : Uplink) (p : EthPeer) (low : Option (Fin 4)) (lengths : Bool) (ws : List Word) (t : Nat) (s : State) : Out :=
  done (judged (s.at t) u p low lengths ws fun s => match itemsOf ws 3 with
    | none => s
    | some items => s.each items fun s it => relayItem s u (relayDepth 5 ws) ws it)

/-! The library (R193, R477). -/

/-- Fetch end with status 1 to the requester that has waited longest. -/
def libraryNone (s : State) : State :=
  match s.host.library with
  | [] => s
  | (n, _) :: rest => sendTo (s.updHost fun h => { h with library := rest }) 20 1 1 0x14 n [1]

/-- An item from the library host goes to the requester that has waited longest (notes/assumptions/53.md); fetch end ends its
request. -/
def libraryItem (s : State) (item : List Word) : State :=
  match s.host.library with
  | [] => s
  | (n, _) :: rest =>
    let sub := fld (wAt item 0) 7 0
    if sub = 0x13 then sendTo s 20 3 1 0x13 n (item.drop 1)
    else if sub = 0x14 then sendTo (s.updHost fun h => { h with library := rest }) 20 1 1 0x14 n (item.drop 1)
    else s

/-- Row ENVELOPE_LIBRARY (R477): at the active prompter, from the library host. -/
def execEnvelopeLibrary (u : Uplink) (p : EthPeer) (low : Option (Fin 4)) (lengths : Bool) (ws : List Word) (t : Nat) (s : State) : Out :=
  done (judged (s.at t) u p low lengths ws fun s => match itemsOf ws 4 with
    | none => s
    | some items =>
      if s.prompting ∧ p.udp = some (s.reg HST_LIB_IP_H ++ s.reg HST_LIB_IP_L, s.reg HST_LIB_UDP) then s.each items libraryItem else s)

/-- Row LIBRARY_REPLY_TIMEOUT (R477). -/
def execLibraryReplyTimeout (t : Nat) (s : State) : Out := done (libraryNone (s.at t))

/-! PTP (R128, R129, R478, R479). -/

/-- The PTP port (TIM_CFG.PTP_PORT) while PTP is on. -/
def ptpPort (s : State) : Uplink := if s.bit TIM_CFG 14 then .one else .ten

/-- This node is a prompter that has begun its domain. -/
def ptpBegun (s : State) : Bool := (namedA s || namedB s) && s.time.ownZero.isSome || s.prompting

/-- The slave unlocks (R128, R479, R491). -/
def ptpUnlock (s : State) : State :=
  if !s.host.ptpLock then s
  else
    let s1 := (s.updHost fun h => { h with ptpLock := false, ptpRun := 0 }).raise Src.ptpUnlocked 0
    if ptpBegun s then ((s1.updTime fun t => { t with ptpLost := true }).evt TIM_EVT 6).raise Src.ptpLost 0 else s1

/-- A value held between two bounds. -/
def between (lo hi x : Int) : Int := max lo (min hi x)

/-- The slew that a PTP correction makes over the time since the last Sync (R39, R129): toward the master and not past it, at most 10 ppm,
and with a frequency within 0.1 ppm per millisecond of the one before; with the new frequency in ppb. -/
def ptpMove (s : State) (offset slew : Int) : Int × Int :=
  let dt : Int := (s.now - s.host.ptpAt : Nat)
  let f := s.host.ptpFreq
  let df := dt * 100 / (msT : Int)
  let toward := if 0 ≤ offset then between (-offset) 0 slew else between 0 (-offset) slew
  let d := between ((f - df) * dt / 1000000000) ((f + df) * dt / 1000000000) (between (-(dt / 100000)) (dt / 100000) toward)
  (d, if dt = 0 then f else d * 1000000000 / dt)

/-- The correction of a prompter that has begun (R129): never a step, and none above 1 ms. -/
def ptpSlew (s : State) (offset slew : Int) : State :=
  let far := decide ((msT : Int) < max offset (-offset))
  if !ptpBegun s then s
  else if far then
    if s.time.ptpFar then s else ((s.updTime fun t => { t with ptpFar := true }).evt TIM_EVT 5).raise Src.ptpFar 0
  else
    let (d, f) := ptpMove s offset slew
    let s1 := (s.updTime fun t => { t with ptpFar := false }).updHost fun h => { h with ptpFreq := f }
    if s1.prompting then timeSyncReady (moveTime s1 d) else s1.updTime fun t => { t with ownZero := t.ownZero.map (· - d) }

/-- PTP_SYNC (R479): an offset in ns. -/
def ptpSync (s : State) (ns slew : Int) (two : Bool) : State :=
  let near := decide (max ns (-ns) ≤ 100)
  let run := if near then min 16 (s.host.ptpRun + 1) else 0
  let s1 := ptpSlew s (ns * (nsT : Int)) slew
  let s2 := s1.updHost fun h => { h with ptpOfs := ns, ptpTwoStep := two, ptpRun := run, ptpAt := s.now }
  if 1000 < max ns (-ns) then ptpUnlock s2
  else if run = 16 ∧ !s2.host.ptpLock then (s2.updHost fun h => { h with ptpLock := true }).updTime fun t => { t with ptpLost := false }
  else s2

/-- Row PTP_SYNC (R478, R479, R129): on an uplink, in a domain and transport; the offset from the master in ns and the slew in
ticks, as measured and formed by the slave. -/
def execPtpSync (u : Uplink) (domain : Byte) (l2 two : Bool) (offset : DWord) (slew : Int) (t : Nat) (s : State) : Out :=
  let s1 := s.at t
  let mine := s1.bit TIM_CFG 15 && decide (ptpPort s1 = u) && uplinkOn s1 u && decide (domain.toNat = s1.fld HST_PTP 15 8) &&
    decide (l2 = s1.bit HST_PTP 6)
  done (if mine then ptpSync s1 offset.toInt slew two else s1)

/-- Row PTP_SYNC_TIMEOUT (R479). -/
def execPtpSyncTimeout (t : Nat) (s : State) : Out := done ((ptpUnlock (s.at t)).updHost fun h => { h with ptpRun := 0 })

/-! The QSPI port (R480-R482). -/

/-- The port serves: enabled, and its balls not held by a scan (R492, R507). -/
def qspiOn (s : State) : Bool := !portOff s 4 && !hostScan s && s.awake

/-- A frame is rejected with a result of R482. -/
def qspiReject (s : State) (code : Nat) (inj : Option (Core × Bool)) : State :=
  raiseHub (((s.updHost fun h => { h with qsResult := code, qsOut := [] }).bump HST_QS_ERR).evt HST_EVT hstQSERR) Src.qspiReject code inj

/-- Words a command word announces (R481). -/
def qsCount (cmd : Word) : Nat := fld cmd 5 0 + 1

/-- How select ends a frame, in the order of R482: exactly at its end, mid-word, after more clock edges, before its end. -/
def qsEndCode (e : Fin 4) : Nat := e.val

/-- The status word that the slave shifts out while the master sends a command word (R481). -/
def qspiStatus (s : State) : Word :=
  putFld s.host.qsResult 15 12 ||| bitW (irqAsserted s) 11 ||| bitW (!s.host.qsFetch.isEmpty) 10

/-- The CRC byte the slave sends at the end of a READ or FETCH frame that asked for one: over command, address and data words, inverted
while no hub core is accepted (R399, R481, R482). -/
def qspiCrc (s : State) : Option Byte := s.host.qsCover.map fun ws =>
  let c := BitVec.ofNat 8 (crcWords 8 0x07 0xFF (ws ++ s.host.qsOut))
  if s.accepted.isNone then ~~~ c else c

/-- A frame is judged (R482), the status word having gone out: the words the CRC covers but for those the slave sends, and the CRC byte
where CRC is 1 and the master sends it. -/
def qspiFrame (s0 : State) (op : Nat) (cmd : Word) (e : Fin 4) (late bad : Bool) (covered : List Word) (crc : Option Byte)
    (go : State → State) : State :=
  let o := fld cmd 15 12
  let s := s0.updHost fun h => { h with qsShown := qspiStatus s0, qsCover := none }
  if !qspiOn s0 then s0
  else if decide (o ≠ op) && decide (1 ≤ o) && decide (o ≤ 4) then s0
  else if e ≠ 0 then qspiReject s (qsEndCode e) none
  else
    let sent := bitOf cmd 11
    let (inj, s1) := if sent && crc.isSome then hubCheck s Src.qspiReject else (none, s)
    let wrong := sent && (match crc with | none => false | some c => decide (c.toNat ≠ crcWords 8 0x07 0xFF covered))
    if wrong || inj.isSome || (!sent && s.bit HST_QS_CFG 13) then qspiReject s1 4 inj
    else if late then qspiReject s1 5 none
    else if o ≠ op || fld cmd 10 6 ≠ 0 || bad then qspiReject s1 6 none
    else go (s1.updHost fun h =>
      { h with qsResult := 0, qsStatus := 0, qsOut := [], qsLeft := 0, qsCover := if sent && crc.isNone then some covered else none })

/-- The accesses of an accepted WRITE or READ, each a single-word one (R481). -/
def qspiWords (s : State) (addr n : Nat) (write : Option (List Word)) : State :=
  let s1 := s.updHost fun h => { h with qsLeft := n, qsOut := if write.isSome then [] else List.replicate n 0 }
  s1.each (List.range n) fun s i => localAccess s ⟨.qspi, .qspi i, addr + 2 * i, 1, false, write.map fun ws => [wAt ws i]⟩

/-- Row QSPI_WRITE (R481, R482): command word, address, data words, CRC byte, and how the frame ended: 0 exactly, 1 mid-word,
2 with more clock edges, 3 early. -/
def execQspiWrite (cmd : Word) (addr : DWord) (ws : List Word) (crc : Byte) (e : Fin 4) (t : Nat) (s : State) : Out :=
  done (qspiFrame (s.at t) 1 cmd e false (decide (addr.toNat % 2 = 1)) (cmd :: toWords 2 addr.toNat ++ ws) (some crc)
    fun s => qspiWords s addr.toNat (qsCount cmd) (some ws))

/-- Row QSPI_READ (R481, R482): `late` tells a word that was not ready when due. -/
def execQspiRead (cmd : Word) (addr : DWord) (late : Bool) (e : Fin 4) (t : Nat) (s : State) : Out :=
  done (qspiFrame (s.at t) 2 cmd e late (decide (addr.toNat % 2 = 1)) (cmd :: toWords 2 addr.toNat) none fun s => qspiWords s addr.toNat (qsCount cmd) none)

/-- Endpoint 0 is back-pressured (R163, R202, R203). -/
def qspiFull (s : State) : Bool :=
  (freeTag s 0).isNone || !(vget s.brg.eps 0).held.isEmpty || pressed s 4 ||
  decide ((windowOf s (vget s.brg.eps 0)).length ≥ 65535)

/-- Row QSPI_SUBMIT (R481, R482): the words of a descriptor for endpoint 0. -/
def execQspiSubmit (cmd : Word) (ws : List Word) (crc : Byte) (e : Fin 4) (t : Nat) (s : State) : Out :=
  done (qspiFrame (s.at t) 3 cmd e false false (cmd :: ws) (some crc) fun s =>
    if qspiFull s then qspiReject s 8 none else issueWords s 0 (ws.take (qsCount cmd)) .plain)

/-- Completion words a FETCH takes: the next ones, with 0 after the last (R481). -/
def fetchWords (s : State) (n : Nat) : List Word := (List.range n).map (wAt s.host.qsFetch)

/-- Row QSPI_FETCH (R481, R482). -/
def execQspiFetch (cmd : Word) (late : Bool) (e : Fin 4) (t : Nat) (s : State) : Out :=
  done (qspiFrame (s.at t) 4 cmd e late false [cmd] none fun s =>
    s.updHost fun h => { h with qsOut := fetchWords s (qsCount cmd), qsFetch := h.qsFetch.drop (qsCount cmd) })

end Sys2Proof.Machine
end

