-- ==== Sys2Proof/Machine/Ports.lean ====
section
/-! DEFINITION. The debug access port (R508, R509), journal records as they begin and commit (R383-R385), writes that wait for the
power die (R464), and e-fuse commands (R454). -/

namespace Sys2Proof.Machine

/-! The debug access port. -/

/-- A request at Update-DR (R508): dropped while the one before is busy; writes end with UNMAPPED while DAPWR is 0 (R509). -/
def dapRequest (s : State) (addr : Nat) (write : Bool) (go : State → State) : State :=
  if s.dbg.tap ≠ .dap then s
  else if s.dbg.dapBusy then s.updDbg fun d => { d with dap := 2 }
  else if write && !s.bit DBG_CTRL 14 then
    s.updDbg fun d => { d with dap := 0, dapStatus := stUNMAPPED, dapAddr := addr, dapData := 0 }
  else go (s.updDbg fun d => { d with dap := 1, dapBusy := true, dapAddr := addr })

/-- LREAD and LWRITE: one word of the local address space through path 4; an odd address is a wrong size (R207). -/
def dapLocal (s : State) (addr : Nat) (write : Option Word) : State :=
  dapRequest s addr write.isSome fun s =>
    if addr % 2 = 1 then finishLocal s .dap stSIZE []
    else localAccess s ⟨.debugPort, .dap, addr, 1, false, write.map ([·])⟩

/-- GREAD and GWRITE: a one-word RD or WR from endpoint 4 to a global address (R175). -/
def dapGlobal (s : State) (addr : Nat) (write : Option Word) : State :=
  let d : Descriptor :=
    { ep := 4, op := if write.isSome then .wr else .rd, dring := addr / 0x100000000000 % 16, dnode := addr / 0x100000000 % 4096, count := 0, burst := false
      len := 0, cg := false, cell := 0, addr := addr % 0x100000000, set := 0, cycle := 0, data := write.toList }
  dapRequest s addr write.isSome fun s => issue s d .dap

/-- DAP_TIMEOUT (R508): nothing that answers later reaches the port. -/
def dapTimeout (s : State) : State :=
  if !s.dbg.dapBusy then s
  else
    let drop (v : ReqVia) : ReqVia := if v = .dap then .plain else v
    let s1 := s.updBrg fun b =>
      { b with fieldWaits := b.fieldWaits.map fun w => if w.who = .dap then { w with who := .none } else w
               blocked := b.blocked.filter fun x => decide (x.who ≠ .dap)
               opens := b.opens.map fun o => { o with via := drop o.via }
               eps := b.eps.map fun e => { e with held := e.held.map fun h => { h with via := drop h.via } } }
    s1.updDbg fun d => { d with dap := 0, dapBusy := false, dapStatus := stTIMEOUT, dapData := 0 }

/-- Row LREAD (R508). -/
def execLread (addr : DWord) (t : Nat) (s : State) : Out := done (dapLocal (s.at t) addr.toNat none)

/-- Row LWRITE (R508, R509). -/
def execLwrite (addr : DWord) (v : Word) (t : Nat) (s : State) : Out := done (dapLocal (s.at t) addr.toNat (some v))

/-- Row GREAD (R508). -/
def execGread (addr : BitVec 48) (t : Nat) (s : State) : Out := done (dapGlobal (s.at t) addr.toNat none)

/-- Row GWRITE (R508, R509). -/
def execGwrite (addr : BitVec 48) (v : Word) (t : Nat) (s : State) : Out := done (dapGlobal (s.at t) addr.toNat (some v))

/-- Row DAP_TIMEOUT (R508). -/
def execDapTimeout (t : Nat) (s : State) : Out := done (dapTimeout (s.at t))

/-! The journal. -/

/-- A register whose writes the journal records (R383). -/
def persistent (a : Nat) : Bool := match regRow? a with | none => false | some r => r.persistent

/-- Row JOURNAL_RECORD (R383, R384): an accepted write of a persistent register. -/
def execJournalRecord (path : Path) (addr : BitVec 17) (v : Word) (t : Nat) (s : State) : Out :=
  let s1 := s.at t
  let a := canonReg addr.toNat
  done (if persistent a then regPut s1 path a v else s1)

/-- JOURNAL_COMMIT (R384, R385): the record counts; the next one begins, and with it the register of a held write takes its
value. -/
def journalCommit (s : State) : State :=
  if s.store.jrn.writing.isNone then s
  else
    let s1 := jrnCommit s
    let s2 := s1.updJrn fun j => { j with compacting := j.compacting && jrnNear s1 }
    match s2.store.jrn.held with
    | [] => s2
    | b :: _ =>
      let s3 := jrnNext s2
      match b with
      | .field a k v _ => regBegin s3 a k v
      | .slot .. => s3

/-- Row JOURNAL_COMMIT (R384, R385). -/
def execJournalCommit (t : Nat) (s : State) : Out := done (journalCommit (s.at t))

/-! The power die. -/

/-- PD_LINK_RESTORED (R464): the writes that waited proceed in order. -/
def linkRestored (s : State) : State :=
  if s.power.link || !s.power.started || s.start.fieldReset then s
  else
    let s1 := s.updPower fun p => { p with link := true, linkWrites := [] }
    s1.each s.power.linkWrites fun s x => regAccept s x.1 x.2.1 x.2.2

/-- Row PD_LINK_RESTORED (R464). -/
def execPdLinkRestored (t : Nat) (s : State) : Out := done (linkRestored (s.at t))

/-- Row EF_ON_WRITE (R454, R460): the word accepted for PWR_EF_ON; the channels follow it. -/
def execEfOnWrite (path : Path) (v : Word) (t : Nat) (s : State) : Out := done (regPut (s.at t) path PWR_EF_ON v)

end Sys2Proof.Machine
end

