-- ==== Sys2Proof/Machine/Dispatch.lean ====
section
/-! DEFINITION. Which meaning each command has: one arm per constructor. -/

namespace Sys2Proof.Machine

def exec (i : Instr) (s : State) : Host.Outcome State Fault Refusal :=
  match i with
  | .barrierSend d t => Sys2Proof.Machine.execBarrierSend d t s
  | .claim crc t => Sys2Proof.Machine.execClaim crc t s
  | .faultReport crc t => Sys2Proof.Machine.execFaultReport crc t s
  | .timeSync crc t => Sys2Proof.Machine.execTimeSync crc t s
  | .imageOut crc t => Sys2Proof.Machine.execImageOut crc t s
  | .imageIn crc t => Sys2Proof.Machine.execImageIn crc t s
  | .signal d crc t => Sys2Proof.Machine.execSignal d crc t s
  | .regAccess d crc t => Sys2Proof.Machine.execRegAccess d crc t s
  | .stagebookChunk crc upset t => Sys2Proof.Machine.execStagebookChunk crc upset t s
  | .debugMsg d crc t => Sys2Proof.Machine.execDebug d crc t s
  | .linkAck d ty t => Sys2Proof.Machine.execLinkAck d ty t s
  | .negativeAck d ty t => Sys2Proof.Machine.execNegativeAck d ty t s
  | .messageResend d ty t => Sys2Proof.Machine.execMessageResend d ty t s
  | .messageTimeout d ty t => Sys2Proof.Machine.execMessageTimeout d ty t s
  | .barrierRetrainDone d t => Sys2Proof.Machine.execBarrierRetrainDone d t s
  | .laneFailed d lane t => Sys2Proof.Machine.execLaneFailed d lane t s
  | .laneReplaced d t => Sys2Proof.Machine.execLaneReplaced d t s
  | .spareLaneLost d lane t => Sys2Proof.Machine.execSpareLaneLost d lane t s
  | .barrierTrainTimeout t => Sys2Proof.Machine.execBarrierTrainTimeout t s
  | .sampleInstant t => Sys2Proof.Machine.execSampleInstant t s
  | .snapRefresh t => Sys2Proof.Machine.execSnapRefresh t s
  | .latchInstant t => Sys2Proof.Machine.execLatchInstant t s
  | .flipInstant t => Sys2Proof.Machine.execFlipInstant t s
  | .imageInstant n t => Sys2Proof.Machine.execImageInstant n t s
  | .marginMeasure block code t => Sys2Proof.Machine.execMarginMeasure block code t s
  | .fldMgnClr v t => Sys2Proof.Machine.execFldMgnClr v t s
  | .luMgnClr v t => Sys2Proof.Machine.execLuMgnClr v t s
  | .wordReceive p g0 g1 t => Sys2Proof.Machine.execWordReceive p g0 g1 t s
  | .errReceive p t => Sys2Proof.Machine.execErrReceive p t s
  | .lsReceive p status t => Sys2Proof.Machine.execLsReceive p status t s
  | .tsidReceive p lane east number far inverted t => Sys2Proof.Machine.execTsidReceive p lane east number far inverted t s
  | .wrongSideRetry p t => Sys2Proof.Machine.execWrongSideRetry p t s
  | .echoReqReceive p tag t => Sys2Proof.Machine.execEchoReqReceive p tag t s
  | .echoRspReceive p tag w1 w2 w3 t => Sys2Proof.Machine.execEchoRspReceive p tag w1 w2 w3 t s
  | .echoTimeout p tag t => Sys2Proof.Machine.execEchoTimeout p tag t s
  | .sbReceive p hop t => Sys2Proof.Machine.execSbReceive p hop t s
  | .ieOpen p t => Sys2Proof.Machine.execIeOpen p t s
  | .ieClose p t => Sys2Proof.Machine.execIeClose p t s
  | .hopBand p fill tableOk t => Sys2Proof.Machine.execHopBand p fill tableOk t s
  | .hopBandIdle p fill t => Sys2Proof.Machine.execHopBandIdle p fill t s
  | .guardReload t => Sys2Proof.Machine.execGuardReload t s
  | .ebOverrun p full t => Sys2Proof.Machine.execEbOverrun p full t s
  | .trainingEntry p t => Sys2Proof.Machine.execTrainingEntry p t s
  | .trainingDone p t => Sys2Proof.Machine.execTrainingDone p t s
  | .trainingTimeout p t => Sys2Proof.Machine.execTrainingTimeout p t s
  | .syncDone p skew late1 t => Sys2Proof.Machine.execSyncDone p skew late1 t s
  | .syncTimeout p t => Sys2Proof.Machine.execSyncTimeout p t s
  | .lossOfSignal p lane loss t => Sys2Proof.Machine.execLossOfSignal p lane loss t s
  | .degradeEntry p t => Sys2Proof.Machine.execDegradeEntry p t s
  | .degradedExit p t => Sys2Proof.Machine.execDegradedExit p t s
  | .degradedRetrain p t => Sys2Proof.Machine.execDegradedRetrain p t s
  | .holdOffEnd p t => Sys2Proof.Machine.execHoldOffEnd p t s
  | .eyeUpdate p e0 e1 t => Sys2Proof.Machine.execEyeUpdate p e0 e1 t s
  | .eqAdapt p lane k up t => Sys2Proof.Machine.execEqAdapt p lane k up t s
  | .retrain p t => Sys2Proof.Machine.execRetrain p t s
  | .clrhold p t => Sys2Proof.Machine.execClrhold p t s
  | .lnkPortDisable p t => Sys2Proof.Machine.execLnkPortDisable p t s
  | .lnkPortEnable p t => Sys2Proof.Machine.execLnkPortEnable p t s
  | .markerReceive r w1 w2 w3 slew transit t => Sys2Proof.Machine.execMarkerReceive r w1 w2 w3 slew transit t s
  | .markerWindowClose r t => Sys2Proof.Machine.execMarkerWindowClose r t s
  | .markerSend r t => Sys2Proof.Machine.execMarkerSend r t s
  | .cuePassage r ix t => Sys2Proof.Machine.execCuePassage r ix t s
  | .cueCopyReceive r pos ws t => Sys2Proof.Machine.execCueCopyReceive r pos ws t s
  | .copyUsable r ix t => Sys2Proof.Machine.execCopyUsable r ix t s
  | .relaySend r pos t => Sys2Proof.Machine.execRelaySend r pos t s
  | .lineHeadMarker r t => Sys2Proof.Machine.execLineHeadMarker r t s
  | .lineHeadNoticeSend r t => Sys2Proof.Machine.execLineHeadNoticeSend r t s
  | .lineHeadNotice payload t => Sys2Proof.Machine.execLineHeadNotice payload t s
  | .prompterListen w => Sys2Proof.Machine.execPrompterListen w s
  | .prompterBegin ptp t => Sys2Proof.Machine.execPrompterBegin ptp t s
  | .prompterNoticeSend t => Sys2Proof.Machine.execPrompterNoticeSend t s
  | .prompterNotice payload t => Sys2Proof.Machine.execPrompterNotice payload t s
  | .takeover t => Sys2Proof.Machine.execTakeover t s
  | .yield t => Sys2Proof.Machine.execYield t s
  | .wingClaimStart t => Sys2Proof.Machine.execWingClaimStart t s
  | .wingBackoffEnd t => Sys2Proof.Machine.execWingBackoffEnd t s
  | .sceneArm t => Sys2Proof.Machine.execSceneArm t s
  | .sceneCancel t => Sys2Proof.Machine.execSceneCancel t s
  | .sceneNoticeSend t => Sys2Proof.Machine.execSceneNoticeSend t s
  | .sceneNotice payload t => Sys2Proof.Machine.execSceneNotice payload t s
  | .vetoSend t => Sys2Proof.Machine.execVetoSend t s
  | .veto payload t => Sys2Proof.Machine.execVeto payload t s
  | .delayReportSend r t => Sys2Proof.Machine.execDelayReportSend r t s
  | .delayReport payload t => Sys2Proof.Machine.execDelayReport payload t s
  | .delayReportStale r t => Sys2Proof.Machine.execDelayReportStale r t s
  | .timekeeperStep t => Sys2Proof.Machine.execTimekeeperStep t s
  | .loopClosure r t => Sys2Proof.Machine.execLoopClosure r t s
  | .timeNoticeSend rate w => Sys2Proof.Machine.execTimeNoticeSend rate w s
  | .timeNotice payload t => Sys2Proof.Machine.execTimeNotice payload t s
  | .offsetStale t => Sys2Proof.Machine.execOffsetStale t s
  | .domainSettleEnd t => Sys2Proof.Machine.execDomainSettleEnd t s
  | .holdoverLimit t => Sys2Proof.Machine.execHoldoverLimit t s
  | .ptpWaitExpire t => Sys2Proof.Machine.execPtpWaitExpire t s
  | .puArm path u t => Sys2Proof.Machine.execPuArm path u t s
  | .puStop u t => Sys2Proof.Machine.execPuStop u t s
  | .pulseLeadingEdge u t => Sys2Proof.Machine.execPulseLeadingEdge u t s
  | .pulseTrailingEdge u t => Sys2Proof.Machine.execPulseTrailingEdge u t s
  | .esPop path n t => Sys2Proof.Machine.execEsPop path n t s
  | .timSecHRead path t => Sys2Proof.Machine.execTimSecHRead path t s
  | .timOfsSecHRead path t => Sys2Proof.Machine.execTimOfsSecHRead path t s
  | .cueCycHRead path which t => Sys2Proof.Machine.execCueCycHRead path which t s
  | .frameHeader r f interjected t => Sys2Proof.Machine.execFrameHeader r f interjected t s
  | .frameInsert r single double t => Sys2Proof.Machine.execFrameInsert r single double t s
  | .interject r single double t => Sys2Proof.Machine.execInterject r single double t s
  | .switchInput i1 ep f t => Sys2Proof.Machine.execSwitchInput i1 ep f t s
  | .inputResume i1 t => Sys2Proof.Machine.execInputResume i1 t s
  | .switchOutput p single double agree t => Sys2Proof.Machine.execSwitchOutput p single double agree t s
  | .compareTimeout t => Sys2Proof.Machine.execCompareTimeout t s
  | .ageSweep t => Sys2Proof.Machine.execAgeSweep t s
  | .repin r t => Sys2Proof.Machine.execRepin r t s
  | .repinReturn t => Sys2Proof.Machine.execRepinReturn t s
  | .portDown p t => Sys2Proof.Machine.execPortDown p t s
  | .rcStart t => Sys2Proof.Machine.execRcStart t s
  | .rollCallDue t => Sys2Proof.Machine.execRollCallDue t s
  | .rollPage r f t => Sys2Proof.Machine.execRollPage r f t s
  | .pageReturn payload crcOk t => Sys2Proof.Machine.execPageReturn payload crcOk t s
  | .pageTimeout r t => Sys2Proof.Machine.execPageTimeout r t s
  | .castNoticeSend t => Sys2Proof.Machine.execCastNoticeSend t s
  | .castNotice payload t => Sys2Proof.Machine.execCastNotice payload t s
  | .numberAdopt t => Sys2Proof.Machine.execNumberAdopt t s
  | .fetchStart t => Sys2Proof.Machine.execFetchStart t s
  | .fetchRequest requester payload t => Sys2Proof.Machine.execFetchRequest requester payload t s
  | .fetchData source payload t => Sys2Proof.Machine.execFetchData source payload t s
  | .fetchEnd source status total content t => Sys2Proof.Machine.execFetchEnd source status total content t s
  | .fetchTimeout t => Sys2Proof.Machine.execFetchTimeout t s
  | .fetchRoundWait t => Sys2Proof.Machine.execFetchRoundWait t s
  | .fetchRestart t => Sys2Proof.Machine.execFetchRestart t s
  | .routeNoticeSend t => Sys2Proof.Machine.execRouteNoticeSend t s
  | .routeNotice payload across t => Sys2Proof.Machine.execRouteNotice payload across t s
  | .routeExpire t => Sys2Proof.Machine.execRouteExpire t s
  | .requestIssue d t => Sys2Proof.Machine.execRequestIssue d t s
  | .rd q t => Sys2Proof.Machine.execRd q t s
  | .wr q t => Sys2Proof.Machine.execWr q t s
  | .pwr q t => Sys2Proof.Machine.execPwr q t s
  | .gwr q t => Sys2Proof.Machine.execGwr q t s
  | .lrd q t => Sys2Proof.Machine.execLrd q t s
  | .lwr q t => Sys2Proof.Machine.execLwr q t s
  | .semacq q t => Sys2Proof.Machine.execSemacq q t s
  | .semrel q t => Sys2Proof.Machine.execSemrel q t s
  | .stg q t => Sys2Proof.Machine.execStg q t s
  | .commit q t => Sys2Proof.Machine.execCommit q t s
  | .abort q t => Sys2Proof.Machine.execAbort q t s
  | .sig q t => Sys2Proof.Machine.execSig q t s
  | .cancel q t => Sys2Proof.Machine.execCancel q t s
  | .rsp ep tag seq node status data t => Sys2Proof.Machine.execRsp ep tag seq node status data t s
  | .range d t => Sys2Proof.Machine.execRange d t s
  | .txnTimeout ep tag seq t => Sys2Proof.Machine.execTxnTimeout ep tag seq t s
  | .lockReleaseTimeout t => Sys2Proof.Machine.execLockReleaseTimeout t s
  | .cellTimeout k t => Sys2Proof.Machine.execCellTimeout k t s
  | .semRel k t => Sys2Proof.Machine.execSemRel k t s
  | .dupEntryExpire ring node ep tag seq t => Sys2Proof.Machine.execDupEntryExpire ring node ep tag seq t s
  | .pacingRelease ep t => Sys2Proof.Machine.execPacingRelease ep t s
  | .commitDescriptor d t => Sys2Proof.Machine.execCommitDescriptor d t s
  | .setClose ep set t => Sys2Proof.Machine.execSetClose ep set t s
  | .signalRelease ep t => Sys2Proof.Machine.execSignalRelease ep t s
  | .sigForward i1 t => Sys2Proof.Machine.execSigForward i1 t s
  | .sigRxPop path t => Sys2Proof.Machine.execSigRxPop path t s
  | .ferrPop path t => Sys2Proof.Machine.execFerrPop path t s
  | .selfTestDone n p codeFails dataFails other t => Sys2Proof.Machine.execSelfTestDone n p codeFails dataFails other t s
  | .clusterBind n t => Sys2Proof.Machine.execClusterBind n t s
  | .rotationDue n t => Sys2Proof.Machine.execRotationDue n t s
  | .migrationStop n t => Sys2Proof.Machine.execMigrationStop n t s
  | .migrationForce n t => Sys2Proof.Machine.execMigrationForce n t s
  | .migrationResume n t => Sys2Proof.Machine.execMigrationResume n t s
  | .cluMigrate n e t => Sys2Proof.Machine.execCluMigrate n e t s
  | .cluRestart n e t => Sys2Proof.Machine.execCluRestart n e t s
  | .cluOffline n t => Sys2Proof.Machine.execCluOffline n t s
  | .cluOnline n t => Sys2Proof.Machine.execCluOnline n t s
  | .watchdogExpire n e t => Sys2Proof.Machine.execWatchdogExpire n e t s
  | .deadlineMiss n e t => Sys2Proof.Machine.execDeadlineMiss n e t s
  | .conduitTimeout n q outward t => Sys2Proof.Machine.execConduitTimeout n q outward t s
  | .conduitFrame n q t => Sys2Proof.Machine.execConduitFrame n q t s
  | .conduitDescriptor n q t => Sys2Proof.Machine.execConduitDescriptor n q t s
  | .pacerTick n p b t => Sys2Proof.Machine.execPacerTick n p b t s
  | .engineWake n e t => Sys2Proof.Machine.execEngineWake n e t s
  | .stallEnd n e t => Sys2Proof.Machine.execStallEnd n e t s
  | .nop n e t => Sys2Proof.Machine.execNop n e t s
  | .halt n e t => Sys2Proof.Machine.execHalt n e t s
  | .wait n e kind index t => Sys2Proof.Machine.execWait n e kind index t s
  | .trap n e nn t => Sys2Proof.Machine.execTrap n e nn t s
  | .ret n e t => Sys2Proof.Machine.execRet n e t s
  | .retT n e t => Sys2Proof.Machine.execRetT n e t s
  | .lock n e t => Sys2Proof.Machine.execLock n e t s
  | .unlock n e t => Sys2Proof.Machine.execUnlock n e t s
  | .sync n e t => Sys2Proof.Machine.execSync n e t s
  | .add n e rd rs t => Sys2Proof.Machine.execAdd n e rd rs t s
  | .sub n e rd rs t => Sys2Proof.Machine.execSub n e rd rs t s
  | .adc n e rd rs t => Sys2Proof.Machine.execAdc n e rd rs t s
  | .sbc n e rd rs t => Sys2Proof.Machine.execSbc n e rd rs t s
  | .and n e rd rs t => Sys2Proof.Machine.execAnd n e rd rs t s
  | .or n e rd rs t => Sys2Proof.Machine.execOr n e rd rs t s
  | .xor n e rd rs t => Sys2Proof.Machine.execXor n e rd rs t s
  | .shl n e rd rs t => Sys2Proof.Machine.execShl n e rd rs t s
  | .shr n e rd rs t => Sys2Proof.Machine.execShr n e rd rs t s
  | .sar n e rd rs t => Sys2Proof.Machine.execSar n e rd rs t s
  | .rol n e rd rs t => Sys2Proof.Machine.execRol n e rd rs t s
  | .ror n e rd rs t => Sys2Proof.Machine.execRor n e rd rs t s
  | .mov n e rd rs t => Sys2Proof.Machine.execMov n e rd rs t s
  | .cmp n e rd rs t => Sys2Proof.Machine.execCmp n e rd rs t s
  | .mull n e rd rs t => Sys2Proof.Machine.execMull n e rd rs t s
  | .mulh n e rd rs t => Sys2Proof.Machine.execMulh n e rd rs t s
  | .addi n e rd imm t => Sys2Proof.Machine.execAddi n e rd imm t s
  | .cmpi n e rd imm t => Sys2Proof.Machine.execCmpi n e rd imm t s
  | .movi n e rd imm t => Sys2Proof.Machine.execMovi n e rd imm t s
  | .bset n e rd b t => Sys2Proof.Machine.execBset n e rd b t s
  | .bclr n e rd b t => Sys2Proof.Machine.execBclr n e rd b t s
  | .btgl n e rd b t => Sys2Proof.Machine.execBtgl n e rd b t s
  | .btst n e rd b t => Sys2Proof.Machine.execBtst n e rd b t s
  | .ld n e rd rs off t => Sys2Proof.Machine.execLd n e rd rs off t s
  | .st n e rd rs off t => Sys2Proof.Machine.execSt n e rd rs off t s
  | .limm n e rd imm t => Sys2Proof.Machine.execLimm n e rd imm t s
  | .ldf n e rd rs imm t => Sys2Proof.Machine.execLdf n e rd rs imm t s
  | .stf n e rd rs imm t => Sys2Proof.Machine.execStf n e rd rs imm t s
  | .lda n e rd imm t => Sys2Proof.Machine.execLda n e rd imm t s
  | .sta n e rd imm t => Sys2Proof.Machine.execSta n e rd imm t s
  | .bcc n e cond off t => Sys2Proof.Machine.execBcc n e cond off t s
  | .jmp n e half t => Sys2Proof.Machine.execJmp n e half t s
  | .call n e half t => Sys2Proof.Machine.execCall n e half t s
  | .illegalInstruction n e twoWords t => Sys2Proof.Machine.execIllegalInstruction n e twoWords t s
  | .pinrd n e rd p t => Sys2Proof.Machine.execPinrd n e rd p t s
  | .pinwr n e rd p t => Sys2Proof.Machine.execPinwr n e rd p t s
  | .pindir n e rd p t => Sys2Proof.Machine.execPindir n e rd p t s
  | .sho n e rd p t => Sys2Proof.Machine.execSho n e rd p t s
  | .shoN n e rd p t => Sys2Proof.Machine.execShoN n e rd p t s
  | .shi n e rd p t => Sys2Proof.Machine.execShi n e rd p t s
  | .shiN n e rd p t => Sys2Proof.Machine.execShiN n e rd p t s
  | .pacePer n e rd p t => Sys2Proof.Machine.execPacePer n e rd p t s
  | .paceCnt n e rd p t => Sys2Proof.Machine.execPaceCnt n e rd p t s
  | .paceRd n e rd p t => Sys2Proof.Machine.execPaceRd n e rd p t s
  | .paceSt n e rd p t => Sys2Proof.Machine.execPaceSt n e rd p t s
  | .edge n e rd t => Sys2Proof.Machine.execEdge n e rd t s
  | .send n e rd q t => Sys2Proof.Machine.execSend n e rd q t s
  | .recv n e rd q t => Sys2Proof.Machine.execRecv n e rd q t s
  | .peek n e rd q t => Sys2Proof.Machine.execPeek n e rd q t s
  | .poll n e rd q t => Sys2Proof.Machine.execPoll n e rd q t s
  | .tstamp n e rd t => Sys2Proof.Machine.execTstamp n e rd t s
  | .twait n e rs t => Sys2Proof.Machine.execTwait n e rs t s
  | .tcmp n e rs t => Sys2Proof.Machine.execTcmp n e rs t s
  | .pinRawChange k level t => Sys2Proof.Machine.execPinRawChange k level t s
  | .filterAccept k t => Sys2Proof.Machine.execFilterAccept k t s
  | .toggleWindowEnd k t => Sys2Proof.Machine.execToggleWindowEnd k t s
  | .adcSlot n input t => Sys2Proof.Machine.execAdcSlot n input t s
  | .adcResult n c t => Sys2Proof.Machine.execAdcResult n c t s
  | .stuckWindowEnd n c t => Sys2Proof.Machine.execStuckWindowEnd n c t s
  | .canEnable c t => Sys2Proof.Machine.execCanEnable c t s
  | .canDisable c t => Sys2Proof.Machine.execCanDisable c t s
  | .canIntegrated c t => Sys2Proof.Machine.execCanIntegrated c t s
  | .canFrameReceive c w0 w1 w2 data sof t => Sys2Proof.Machine.execCanFrameReceive c w0 w1 w2 data sof t s
  | .canFrameSent c sof delay t => Sys2Proof.Machine.execCanFrameSent c sof delay t s
  | .canArbitrationLost c t => Sys2Proof.Machine.execCanArbitrationLost c t s
  | .canProtocolError c kind dataPhase own special t => Sys2Proof.Machine.execCanProtocolError c kind dataPhase own special t s
  | .canRecoveryDone c t => Sys2Proof.Machine.execCanRecoveryDone c t s
  | .txflush c t => Sys2Proof.Machine.execTxflush c t s
  | .recover c t => Sys2Proof.Machine.execRecover c t s
  | .canTxPush path c t => Sys2Proof.Machine.execCanTxPush path c t s
  | .canTxData path c v t => Sys2Proof.Machine.execCanTxData path c v t s
  | .canRxPop path c t => Sys2Proof.Machine.execCanRxPop path c t s
  | .canSpPop path c t => Sys2Proof.Machine.execCanSpPop path c t s
  | .canRxData path c t => Sys2Proof.Machine.execCanRxData path c t s
  | .canForward c t => Sys2Proof.Machine.execCanForward c t s
  | .slotOpen path b t => Sys2Proof.Machine.execSlotOpen path b t s
  | .wpData i1 v t => Sys2Proof.Machine.execWpData i1 v t s
  | .slotClose path b t => Sys2Proof.Machine.execSlotClose path b t s
  | .slotCheckDone b content ecc t => Sys2Proof.Machine.execSlotCheckDone b content ecc t s
  | .promote path b t => Sys2Proof.Machine.execPromote path b t s
  | .update path b t => Sys2Proof.Machine.execUpdate path b t s
  | .sheet path b t => Sys2Proof.Machine.execSheet path b t s
  | .sheetLoaded t => Sys2Proof.Machine.execSheetLoaded t s
  | .abandon path b t => Sys2Proof.Machine.execAbandon path b t s
  | .keywr path b t => Sys2Proof.Machine.execKeywr path b t s
  | .keyrev path t => Sys2Proof.Machine.execKeyrev path t s
  | .fuse path t => Sys2Proof.Machine.execFuse path t s
  | .badcmd path code t => Sys2Proof.Machine.execBadcmd path code t s
  | .scrub a b t => Sys2Proof.Machine.execScrub a b t s
  | .journalRecord path addr v t => Sys2Proof.Machine.execJournalRecord path addr v t s
  | .journalCommit t => Sys2Proof.Machine.execJournalCommit t s
  | .compactionCopy t => Sys2Proof.Machine.execCompactionCopy t s
  | .keptCopyWrite t => Sys2Proof.Machine.execKeptCopyWrite t s
  | .updateResyncDone c t => Sys2Proof.Machine.execUpdateResyncDone c t s
  | .updateSwap t => Sys2Proof.Machine.execUpdateSwap t s
  | .stagebookApply t => Sys2Proof.Machine.execStagebookApply t s
  | .journalScanDone headBad t => Sys2Proof.Machine.execJournalScanDone headBad t s
  | .claimBeat c t => Sys2Proof.Machine.execClaimBeat c t s
  | .beatLoss c t => Sys2Proof.Machine.execBeatLoss c t s
  | .claimRefresh c t => Sys2Proof.Machine.execClaimRefresh c t s
  | .claimMissing c t => Sys2Proof.Machine.execClaimMissing c t s
  | .equalClaims t => Sys2Proof.Machine.execEqualClaims t s
  | .noCore t => Sys2Proof.Machine.execNoCore t s
  | .coreSelfTestDone c pass t => Sys2Proof.Machine.execCoreSelfTestDone c pass t s
  | .luDemote c t => Sys2Proof.Machine.execLuDemote c t s
  | .luSwap t => Sys2Proof.Machine.execLuSwap t s
  | .luRejoin c t => Sys2Proof.Machine.execLuRejoin c t s
  | .rejoinCopyDone c t => Sys2Proof.Machine.execRejoinCopyDone c t s
  | .rejoinFinish c t => Sys2Proof.Machine.execRejoinFinish c t s
  | .rsyncTimeout c t => Sys2Proof.Machine.execRsyncTimeout c t s
  | .switchover c t => Sys2Proof.Machine.execSwitchover c t s
  | .swapStep t => Sys2Proof.Machine.execSwapStep t s
  | .collectorReport c t => Sys2Proof.Machine.execCollectorReport c t s
  | .handlingEnd c t => Sys2Proof.Machine.execHandlingEnd c t s
  | .quietPeriodMajor src t => Sys2Proof.Machine.execQuietPeriodMajor src t s
  | .quietPeriodGrave t => Sys2Proof.Machine.execQuietPeriodGrave t s
  | .collectorSelfFault c cause t => Sys2Proof.Machine.execCollectorSelfFault c cause t s
  | .faultBacklogSend t => Sys2Proof.Machine.execFaultBacklogSend t s
  | .fltLogPop path t => Sys2Proof.Machine.execFltLogPop path t s
  | .luHistPop path t => Sys2Proof.Machine.execLuHistPop path t s
  | .fltInjArm v t => Sys2Proof.Machine.execFltInjArm v t s
  | .fiArm v t => Sys2Proof.Machine.execFiArm v t s
  | .powerMeasure va vb vh vp ia ib temp t => Sys2Proof.Machine.execPowerMeasure va vb vh vp ia ib temp t s
  | .ovpReclose i1 t => Sys2Proof.Machine.execOvpReclose i1 t s
  | .shareAlarm t => Sys2Proof.Machine.execShareAlarm t s
  | .handover t => Sys2Proof.Machine.execHandover t s
  | .holdupEntry t => Sys2Proof.Machine.execHoldupEntry t s
  | .returnPath t => Sys2Proof.Machine.execReturn t s
  | .feedEntry t => Sys2Proof.Machine.execFeedEntry t s
  | .dwellEnd t => Sys2Proof.Machine.execDwellEnd t s
  | .huNotReady t => Sys2Proof.Machine.execHuNotReady t s
  | .powerDieStart t => Sys2Proof.Machine.execPowerDieStart t s
  | .curtainFallStart t => Sys2Proof.Machine.execCurtainFallStart t s
  | .curtain t => Sys2Proof.Machine.execCurtain t s
  | .journalFlushDone t => Sys2Proof.Machine.execJournalFlushDone t s
  | .exitNoticeSent skipped t => Sys2Proof.Machine.execExitNoticeSent skipped t s
  | .curtainSettleEnd t => Sys2Proof.Machine.execCurtainSettleEnd t s
  | .cfPowerCycle t => Sys2Proof.Machine.execCfPowerCycle t s
  | .cfRestart t => Sys2Proof.Machine.execCfRestart t s
  | .efMeasure c amps t => Sys2Proof.Machine.execEfMeasure c amps t s
  | .efInstTrip c t => Sys2Proof.Machine.execEfInstTrip c t s
  | .efRampDone c t => Sys2Proof.Machine.execEfRampDone c t s
  | .efRampTimeout c t => Sys2Proof.Machine.execEfRampTimeout c t s
  | .efRetry c t => Sys2Proof.Machine.execEfRetry c t s
  | .efRetryCountRestart c t => Sys2Proof.Machine.execEfRetryCountRestart c t s
  | .efStartTurn c t => Sys2Proof.Machine.execEfStartTurn c t s
  | .efDiodeRead c valid reading t => Sys2Proof.Machine.execEfDiodeRead c valid reading t s
  | .efOnWrite path v t => Sys2Proof.Machine.execEfOnWrite path v t s
  | .efReset v t => Sys2Proof.Machine.execEfReset v t s
  | .pdLinkLost t => Sys2Proof.Machine.execPdLinkLost t s
  | .ethFrameReceive u addressed fcsOk bytes kind t => Sys2Proof.Machine.execEthFrameReceive u addressed fcsOk bytes kind t s
  | .arpRequest u ip mac senderIp t => Sys2Proof.Machine.execArpRequest u ip mac senderIp t s
  | .envelopeRequest u p low lengths ws t => Sys2Proof.Machine.execEnvelopeRequest u p low lengths ws t s
  | .envelopeResponse u t => Sys2Proof.Machine.execEnvelopeResponse u t s
  | .envelopeRelay u p low lengths ws t => Sys2Proof.Machine.execEnvelopeRelay u p low lengths ws t s
  | .envelopeLibrary u p low lengths ws t => Sys2Proof.Machine.execEnvelopeLibrary u p low lengths ws t s
  | .pauseSend u t => Sys2Proof.Machine.execPauseSend u t s
  | .pauseReceive u quanta t => Sys2Proof.Machine.execPauseReceive u quanta t s
  | .uplinkLinkChange u up speed t => Sys2Proof.Machine.execUplinkLinkChange u up speed t s
  | .ptpSync u domain l2 two offset slew t => Sys2Proof.Machine.execPtpSync u domain l2 two offset slew t s
  | .ptpSyncTimeout t => Sys2Proof.Machine.execPtpSyncTimeout t s
  | .qspiWrite cmd addr ws crc e t => Sys2Proof.Machine.execQspiWrite cmd addr ws crc e t s
  | .qspiRead cmd addr late e t => Sys2Proof.Machine.execQspiRead cmd addr late e t s
  | .qspiSubmit cmd ws crc e t => Sys2Proof.Machine.execQspiSubmit cmd ws crc e t s
  | .qspiFetch cmd late e t => Sys2Proof.Machine.execQspiFetch cmd late e t s
  | .intmEnter t => Sys2Proof.Machine.execIntmEnter t s
  | .intmResume t => Sys2Proof.Machine.execIntmResume t s
  | .intmWake t => Sys2Proof.Machine.execIntmWake t s
  | .wakeSequenceSend r reason t => Sys2Proof.Machine.execWakeSequenceSend r reason t s
  | .wakeReceive r b0 b1 b2 t => Sys2Proof.Machine.execWakeReceive r b0 b1 b2 t s
  | .wakeLogPop path t => Sys2Proof.Machine.execWakeLogPop path t s
  | .registerWrite path addr v t => Sys2Proof.Machine.execRegisterWrite path addr v t s
  | .guardedValueWrite path addr v single t => Sys2Proof.Machine.execGuardedValueWrite path addr v single t s
  | .twinWrite path addr v single t => Sys2Proof.Machine.execTwinWrite path addr v single t s
  | .guardLate path field t => Sys2Proof.Machine.execGuardLate path field t s
  | .parityScrub found t => Sys2Proof.Machine.execParityScrub found t s
  | .powerOnReset t => Sys2Proof.Machine.execPowerOnReset t s
  | .resetNAssert t => Sys2Proof.Machine.execResetNAssert t s
  | .resetRelease field t => Sys2Proof.Machine.execResetRelease field t s
  | .warm t => Sys2Proof.Machine.execWarm t s
  | .lread addr t => Sys2Proof.Machine.execLread addr t s
  | .lwrite addr v t => Sys2Proof.Machine.execLwrite addr v t s
  | .gread addr t => Sys2Proof.Machine.execGread addr t s
  | .gwrite addr v t => Sys2Proof.Machine.execGwrite addr v t s
  | .dapTimeout t => Sys2Proof.Machine.execDapTimeout t s
  | .extest levels t => Sys2Proof.Machine.execExtest levels t s
  | .idcode t => Sys2Proof.Machine.execIdcode t s
  | .samplePreload levels t => Sys2Proof.Machine.execSamplePreload levels t s
  | .highz t => Sys2Proof.Machine.execHighz t s
  | .clamp t => Sys2Proof.Machine.execClamp t s
  | .fsample levels t => Sys2Proof.Machine.execFsample levels t s
  | .fextest levels t => Sys2Proof.Machine.execFextest levels t s
  | .dap t => Sys2Proof.Machine.execDap t s
  | .bypass t => Sys2Proof.Machine.execBypass t s
  | .tapReset t => Sys2Proof.Machine.execTapReset t s
  | .fieldChainRefresh t => Sys2Proof.Machine.execFieldChainRefresh t s
  | .dbgHalt n e t => Sys2Proof.Machine.execDbgHalt n e t s
  | .dbgForce n e t => Sys2Proof.Machine.execDbgForce n e t s
  | .dbgStep n e t => Sys2Proof.Machine.execDbgStep n e t s
  | .dbgResume n e t => Sys2Proof.Machine.execDbgResume n e t s
  | .clrbrk n t => Sys2Proof.Machine.execClrbrk n t s
  | .dbgEngReg path write t => Sys2Proof.Machine.execDbgEngReg path write t s
  | .dbgTrcPop path t => Sys2Proof.Machine.execDbgTrcPop path t s
  | .dbgTrcClr v t => Sys2Proof.Machine.execDbgTrcClr v t s
  | .cmpRCommit t => Sys2Proof.Machine.execCmpRCommit t s
  | .cmpROutWrite i1 v t => Sys2Proof.Machine.execCmpROutWrite i1 v t s
  | .cmpRIn0Read path t => Sys2Proof.Machine.execCmpRIn0Read path t s
  | .cmpRStatusRead path t => Sys2Proof.Machine.execCmpRStatusRead path t s
  | .fieldSideReset t => Sys2Proof.Machine.execFieldSideReset t s
  | .barrierTrainingDone t => Sys2Proof.Machine.execBarrierTrainingDone t s
  | .pdLinkRestored t => Sys2Proof.Machine.execPdLinkRestored t s
  | .libraryReplyTimeout t => Sys2Proof.Machine.execLibraryReplyTimeout t s
  | .intmSafePointWait n e t => Sys2Proof.Machine.execIntmSafePointWait n e t s

end Sys2Proof.Machine
end

