-- ==== Sys2Proof/WellFormed.lean ====
section
/-! DEFINITION. Which commands are well formed: an operand that the manual gives a width or a length holds it. Operands whose
types bound them already need no check. A command that is not well formed still has its meaning; no sender sends one. -/

namespace Sys2Proof

/-- The fields of a request as its frame carries them (R143, R204). -/
def Request.wf (q : Request) : Bool :=
  decide (q.src.ring < 16) && decide (q.src.node < 4096) && decide (q.src.ep < 32) && decide (q.tag < 64) && decide (q.seq < 65536) &&
  decide (q.cls < 4) && decide (q.len < 32) && decide (q.cell < 16) && decide (q.addr < 2 ^ 32) && decide (q.set < 65536) &&
  decide (q.data.length ≤ 32)

/-- The fields of a descriptor (R202, R204). -/
def Descriptor.wf (d : Descriptor) : Bool :=
  decide (d.ep < 32) && decide (d.dring < 16) && decide (d.dnode < 4096) && decide (d.count < 4096) && decide (d.len < 32) &&
  decide (d.cell < 16) && decide (d.addr < 2 ^ 32) && decide (d.set < 65536) && decide (d.data.length ≤ 32)

/-- A frame carries as many payload words as its LEN says (R143). -/
def Frame.wf (f : Frame) : Bool := decide (f.payload.length = f.len)

/-- At most two VLAN tags (R475). -/
def EthPeer.wf (p : EthPeer) : Bool := decide (p.tags.length ≤ 2)

/-- A command is well formed. A notice carries at most 512 payload words (R142), a response and a CAN frame at most 32 data
words (R204, R346), a datagram at most 4,500 words (R470); a QSPI frame holds the words its command word announces (R481); the
host chain has 10 cells and the field chain 145 (R506). -/
def Instr.wf (i : Instr) : Bool :=
  match i with
  | .barrierSend .. => true
  | .claim .. => true
  | .faultReport .. => true
  | .timeSync .. => true
  | .imageOut .. => true
  | .imageIn .. => true
  | .signal .. => true
  | .regAccess .. => true
  | .stagebookChunk .. => true
  | .debugMsg .. => true
  | .linkAck .. => true
  | .negativeAck .. => true
  | .messageResend .. => true
  | .messageTimeout .. => true
  | .barrierRetrainDone .. => true
  | .laneFailed .. => true
  | .laneReplaced .. => true
  | .spareLaneLost .. => true
  | .barrierTrainTimeout .. => true
  | .sampleInstant .. => true
  | .snapRefresh .. => true
  | .latchInstant .. => true
  | .flipInstant .. => true
  | .imageInstant .. => true
  | .marginMeasure .. => true
  | .fldMgnClr .. => true
  | .luMgnClr .. => true
  | .wordReceive .. => true
  | .errReceive .. => true
  | .lsReceive .. => true
  | .tsidReceive .. => true
  | .wrongSideRetry .. => true
  | .echoReqReceive .. => true
  | .echoRspReceive .. => true
  | .echoTimeout .. => true
  | .sbReceive .. => true
  | .ieOpen .. => true
  | .ieClose .. => true
  | .hopBand .. => true
  | .hopBandIdle .. => true
  | .guardReload .. => true
  | .ebOverrun .. => true
  | .trainingEntry .. => true
  | .trainingDone .. => true
  | .trainingTimeout .. => true
  | .syncDone .. => true
  | .syncTimeout .. => true
  | .lossOfSignal .. => true
  | .degradeEntry .. => true
  | .degradedExit .. => true
  | .degradedRetrain .. => true
  | .holdOffEnd .. => true
  | .eyeUpdate .. => true
  | .eqAdapt .. => true
  | .retrain .. => true
  | .clrhold .. => true
  | .lnkPortDisable .. => true
  | .lnkPortEnable .. => true
  | .markerReceive .. => true
  | .markerWindowClose .. => true
  | .markerSend .. => true
  | .cuePassage .. => true
  | .cueCopyReceive .. => true
  | .copyUsable .. => true
  | .relaySend .. => true
  | .lineHeadMarker .. => true
  | .lineHeadNoticeSend .. => true
  | .lineHeadNotice payload _ => decide (payload.length ≤ 512)
  | .prompterListen .. => true
  | .prompterBegin .. => true
  | .prompterNoticeSend .. => true
  | .prompterNotice payload _ => decide (payload.length ≤ 512)
  | .takeover .. => true
  | .yield .. => true
  | .wingClaimStart .. => true
  | .wingBackoffEnd .. => true
  | .sceneArm .. => true
  | .sceneCancel .. => true
  | .sceneNoticeSend .. => true
  | .sceneNotice payload _ => decide (payload.length ≤ 512)
  | .vetoSend .. => true
  | .veto payload _ => decide (payload.length ≤ 512)
  | .delayReportSend .. => true
  | .delayReport payload _ => decide (payload.length ≤ 512)
  | .delayReportStale .. => true
  | .timekeeperStep .. => true
  | .loopClosure .. => true
  | .timeNoticeSend .. => true
  | .timeNotice payload _ => decide (payload.length ≤ 512)
  | .offsetStale .. => true
  | .domainSettleEnd .. => true
  | .holdoverLimit .. => true
  | .ptpWaitExpire .. => true
  | .puArm .. => true
  | .puStop .. => true
  | .pulseLeadingEdge .. => true
  | .pulseTrailingEdge .. => true
  | .esPop .. => true
  | .timSecHRead .. => true
  | .timOfsSecHRead .. => true
  | .cueCycHRead .. => true
  | .frameHeader _ f _ _ => f.wf
  | .frameInsert .. => true
  | .interject .. => true
  | .switchInput _ _ f _ => f.wf
  | .inputResume .. => true
  | .switchOutput .. => true
  | .compareTimeout .. => true
  | .ageSweep .. => true
  | .repin .. => true
  | .repinReturn .. => true
  | .portDown .. => true
  | .rcStart .. => true
  | .rollCallDue .. => true
  | .rollPage _ f _ => f.wf
  | .pageReturn payload _ _ => decide (payload.length ≤ 512)
  | .pageTimeout .. => true
  | .castNoticeSend .. => true
  | .castNotice payload _ => decide (payload.length ≤ 512)
  | .numberAdopt .. => true
  | .fetchStart .. => true
  | .fetchRequest _ payload _ => decide (payload.length ≤ 512)
  | .fetchData _ payload _ => decide (payload.length ≤ 512)
  | .fetchEnd .. => true
  | .fetchTimeout .. => true
  | .fetchRoundWait .. => true
  | .fetchRestart .. => true
  | .routeNoticeSend .. => true
  | .routeNotice payload _ _ => decide (payload.length ≤ 512)
  | .routeExpire .. => true
  | .requestIssue d _ => d.wf
  | .rd q _ => q.wf
  | .wr q _ => q.wf
  | .pwr q _ => q.wf
  | .gwr q _ => q.wf
  | .lrd q _ => q.wf
  | .lwr q _ => q.wf
  | .semacq q _ => q.wf
  | .semrel q _ => q.wf
  | .stg q _ => q.wf
  | .commit q _ => q.wf
  | .abort q _ => q.wf
  | .sig q _ => q.wf
  | .cancel q _ => q.wf
  | .rsp _ _ _ _ _ data _ => decide (data.length ≤ 32)
  | .range d _ => d.wf
  | .txnTimeout .. => true
  | .lockReleaseTimeout .. => true
  | .cellTimeout .. => true
  | .semRel .. => true
  | .dupEntryExpire .. => true
  | .pacingRelease .. => true
  | .commitDescriptor d _ => d.wf
  | .setClose .. => true
  | .signalRelease .. => true
  | .sigForward .. => true
  | .sigRxPop .. => true
  | .ferrPop .. => true
  | .selfTestDone .. => true
  | .clusterBind .. => true
  | .rotationDue .. => true
  | .migrationStop .. => true
  | .migrationForce .. => true
  | .migrationResume .. => true
  | .cluMigrate .. => true
  | .cluRestart .. => true
  | .cluOffline .. => true
  | .cluOnline .. => true
  | .watchdogExpire .. => true
  | .deadlineMiss .. => true
  | .conduitTimeout .. => true
  | .conduitFrame .. => true
  | .conduitDescriptor .. => true
  | .pacerTick .. => true
  | .engineWake .. => true
  | .stallEnd .. => true
  | .nop .. => true
  | .halt .. => true
  | .wait .. => true
  | .trap .. => true
  | .ret .. => true
  | .retT .. => true
  | .lock .. => true
  | .unlock .. => true
  | .sync .. => true
  | .add .. => true
  | .sub .. => true
  | .adc .. => true
  | .sbc .. => true
  | .and .. => true
  | .or .. => true
  | .xor .. => true
  | .shl .. => true
  | .shr .. => true
  | .sar .. => true
  | .rol .. => true
  | .ror .. => true
  | .mov .. => true
  | .cmp .. => true
  | .mull .. => true
  | .mulh .. => true
  | .addi .. => true
  | .cmpi .. => true
  | .movi .. => true
  | .bset .. => true
  | .bclr .. => true
  | .btgl .. => true
  | .btst .. => true
  | .ld .. => true
  | .st .. => true
  | .limm .. => true
  | .ldf .. => true
  | .stf .. => true
  | .lda .. => true
  | .sta .. => true
  | .bcc .. => true
  | .jmp .. => true
  | .call .. => true
  | .illegalInstruction .. => true
  | .pinrd .. => true
  | .pinwr .. => true
  | .pindir .. => true
  | .sho .. => true
  | .shoN .. => true
  | .shi .. => true
  | .shiN .. => true
  | .pacePer .. => true
  | .paceCnt .. => true
  | .paceRd .. => true
  | .paceSt .. => true
  | .edge .. => true
  | .send .. => true
  | .recv .. => true
  | .peek .. => true
  | .poll .. => true
  | .tstamp .. => true
  | .twait .. => true
  | .tcmp .. => true
  | .pinRawChange .. => true
  | .filterAccept .. => true
  | .toggleWindowEnd .. => true
  | .adcSlot .. => true
  | .adcResult .. => true
  | .stuckWindowEnd .. => true
  | .canEnable .. => true
  | .canDisable .. => true
  | .canIntegrated .. => true
  | .canFrameReceive _ _ _ _ data _ _ => decide (data.length ≤ 32)
  | .canFrameSent .. => true
  | .canArbitrationLost .. => true
  | .canProtocolError .. => true
  | .canRecoveryDone .. => true
  | .txflush .. => true
  | .recover .. => true
  | .canTxPush .. => true
  | .canTxData .. => true
  | .canRxPop .. => true
  | .canSpPop .. => true
  | .canRxData .. => true
  | .canForward .. => true
  | .slotOpen .. => true
  | .wpData .. => true
  | .slotClose .. => true
  | .slotCheckDone .. => true
  | .promote .. => true
  | .update .. => true
  | .sheet .. => true
  | .sheetLoaded .. => true
  | .abandon .. => true
  | .keywr .. => true
  | .keyrev .. => true
  | .fuse .. => true
  | .badcmd .. => true
  | .scrub .. => true
  | .journalRecord .. => true
  | .journalCommit .. => true
  | .compactionCopy .. => true
  | .keptCopyWrite .. => true
  | .updateResyncDone .. => true
  | .updateSwap .. => true
  | .stagebookApply .. => true
  | .journalScanDone .. => true
  | .claimBeat .. => true
  | .beatLoss .. => true
  | .claimRefresh .. => true
  | .claimMissing .. => true
  | .equalClaims .. => true
  | .noCore .. => true
  | .coreSelfTestDone .. => true
  | .luDemote .. => true
  | .luSwap .. => true
  | .luRejoin .. => true
  | .rejoinCopyDone .. => true
  | .rejoinFinish .. => true
  | .rsyncTimeout .. => true
  | .switchover .. => true
  | .swapStep .. => true
  | .collectorReport .. => true
  | .handlingEnd .. => true
  | .quietPeriodMajor .. => true
  | .quietPeriodGrave .. => true
  | .collectorSelfFault .. => true
  | .faultBacklogSend .. => true
  | .fltLogPop .. => true
  | .luHistPop .. => true
  | .fltInjArm .. => true
  | .fiArm .. => true
  | .powerMeasure .. => true
  | .ovpReclose .. => true
  | .shareAlarm .. => true
  | .handover .. => true
  | .holdupEntry .. => true
  | .returnPath .. => true
  | .feedEntry .. => true
  | .dwellEnd .. => true
  | .huNotReady .. => true
  | .powerDieStart .. => true
  | .curtainFallStart .. => true
  | .curtain .. => true
  | .journalFlushDone .. => true
  | .exitNoticeSent .. => true
  | .curtainSettleEnd .. => true
  | .cfPowerCycle .. => true
  | .cfRestart .. => true
  | .efMeasure .. => true
  | .efInstTrip .. => true
  | .efRampDone .. => true
  | .efRampTimeout .. => true
  | .efRetry .. => true
  | .efRetryCountRestart .. => true
  | .efStartTurn .. => true
  | .efDiodeRead .. => true
  | .efOnWrite .. => true
  | .efReset .. => true
  | .pdLinkLost .. => true
  | .ethFrameReceive .. => true
  | .arpRequest .. => true
  | .envelopeRequest _ p _ _ ws _ => p.wf && decide (ws.length ≤ 4500)
  | .envelopeResponse .. => true
  | .envelopeRelay _ p _ _ ws _ => p.wf && decide (ws.length ≤ 4500)
  | .envelopeLibrary _ p _ _ ws _ => p.wf && decide (ws.length ≤ 4500)
  | .pauseSend .. => true
  | .pauseReceive .. => true
  | .uplinkLinkChange .. => true
  | .ptpSync .. => true
  | .ptpSyncTimeout .. => true
  | .qspiWrite cmd _ ws _ _ _ => decide (ws.length = fld cmd 5 0 + 1)
  | .qspiRead .. => true
  | .qspiSubmit cmd ws _ _ _ => decide (ws.length = fld cmd 5 0 + 1)
  | .qspiFetch .. => true
  | .intmEnter .. => true
  | .intmResume .. => true
  | .intmWake .. => true
  | .wakeSequenceSend .. => true
  | .wakeReceive .. => true
  | .wakeLogPop .. => true
  | .registerWrite .. => true
  | .guardedValueWrite .. => true
  | .twinWrite .. => true
  | .guardLate .. => true
  | .parityScrub .. => true
  | .powerOnReset .. => true
  | .resetNAssert .. => true
  | .resetRelease .. => true
  | .warm .. => true
  | .lread .. => true
  | .lwrite .. => true
  | .gread .. => true
  | .gwrite .. => true
  | .dapTimeout .. => true
  | .extest levels _ => decide (levels.length = 10)
  | .idcode .. => true
  | .samplePreload levels _ => decide (levels.length = 10)
  | .highz .. => true
  | .clamp .. => true
  | .fsample levels _ => decide (levels.length = 145)
  | .fextest levels _ => decide (levels.length = 145)
  | .dap .. => true
  | .bypass .. => true
  | .tapReset .. => true
  | .fieldChainRefresh .. => true
  | .dbgHalt .. => true
  | .dbgForce .. => true
  | .dbgStep .. => true
  | .dbgResume .. => true
  | .clrbrk .. => true
  | .dbgEngReg .. => true
  | .dbgTrcPop .. => true
  | .dbgTrcClr .. => true
  | .cmpRCommit .. => true
  | .cmpROutWrite .. => true
  | .cmpRIn0Read .. => true
  | .cmpRStatusRead .. => true
  | .fieldSideReset .. => true
  | .barrierTrainingDone .. => true
  | .pdLinkRestored .. => true
  | .libraryReplyTimeout .. => true
  | .intmSafePointWait .. => true

end Sys2Proof
end

