-- ==== Sys2Proof/Safety.lean ====
section
/-! DEFINITION. The terms in which claims about the block are stated: a command that completes, the pins under the ranks of
R308, what a command leaves as it was. -/

namespace Sys2Proof.Machine

/-- A command answers a next state of which p holds. -/
def Completes (c : Instr) (s : State) (p : State → Prop) : Prop := ∃ t, exec c s = .next t ∧ p t

/-- Every pin stands in the rank that R308 gives it, and its ball carries what that rank gives (R309). -/
def PinsRuled (s : State) : Prop :=
  ∀ k, (s.pin k).rank = pinRank s k ∧ (s.pin k).out = pinOut s k (s.pin k).rank (s.pin k).held

/-- The event registers and the counter that the closing part of every meaning may change beside the command's own: RANGED and
UNRANGED (R114), GAP_IN and GAP_OUT of the pins (R339), a gap at a CAN controller (R361). -/
def closingReg (a : Nat) : Bool :=
  [TIM_EVT, PIN_EVT 0, PIN_EVT 1, PIN_EVT 2, CAN_EVT 0, CAN_EVT 1, CAN_EVT 2, CAN_EVT 3,
   CAN_GAPABT 0, CAN_GAPABT 1, CAN_GAPABT 2, CAN_GAPABT 3].contains a

/-- Every byte of memory reads as before. -/
def SameMemory (s t : State) : Prop := ∀ a, t.byte a = s.byte a

/-- Every register copy holds the same value, but for those named and those of the closing part. -/
def SameRegs (s t : State) (but : List Nat) : Prop :=
  ∀ a k, k < 65536 → closingReg a = false → a ∉ but → t.regSel a k = s.regSel a k

/-- Every engine but the one named is as before. -/
def OtherEngines (s t : State) (n : Fin 12) (e : Fin 14) : Prop :=
  ∀ n' e', ¬(n' = n ∧ e' = e) → t.eng n' e' = s.eng n' e'

/-- The units that neither an instruction on registers nor the closing part of a meaning touches. -/
structure SameElse (s u : State) : Prop where
  pending : u.pending = s.pending
  freeCtr : u.freeCtr = s.freeCtr
  marks : u.marks = s.marks
  paths : u.paths = s.paths
  margins : u.margins = s.margins
  links : u.links = s.links
  cue : u.cue = s.cue
  pulses : u.pulses = s.pulses
  edges : u.edges = s.edges
  sw : u.sw = s.sw
  streams : u.streams = s.streams
  fab : u.fab = s.fab
  snap : u.snap = s.snap
  store : u.store = s.store
  lead : u.lead = s.lead
  fieldInj : u.fieldInj = s.fieldInj
  dbg : u.dbg = s.dbg
  cmp : u.cmp = s.cmp
  traces : u.traces = s.traces
  heard : u.heard = s.heard

/-- An instruction of an engine that works on its own registers, flags and program counter changes nothing else: no byte of
memory, no register of a block, no other engine, no pacer, conduit or lock of a cluster, no latch of a pin, no other unit. -/
structure EngineOnly (s u : State) (n : Fin 12) (e : Fin 14) : Prop where
  memory : SameMemory s u
  regs : SameRegs s u []
  engines : OtherEngines s u n e
  pacers : ∀ m, (u.cl m).pacers = (s.cl m).pacers
  conduits : ∀ m, (u.cl m).conduits = (s.cl m).conduits
  locks : ∀ m, (u.cl m).lock = (s.cl m).lock
  pins : ∀ k, (u.pin k).latch = (s.pin k).latch ∧ (u.pin k).drive = (s.pin k).drive
  others : SameElse s u

/-- Nothing stands in the way of the next instruction of an engine: it issues (R239, R259, R261, R267), no WDOG trap waits
(R300), no breakpoint stands at its PC (R514), no halt or step of the debug port is pending (R511), and the lock it may hold has
not reached its 33rd instruction (R290). -/
structure Issues (s : State) (n : Fin 12) (e : Fin 14) : Prop where
  can : canIssue s n e = true
  noDog : (s.eng n e).wdTrap = false
  noBreak : atBreakpoint s n e = false
  noHalt : (s.eng n e).haltPending = none
  noStep : (s.eng n e).stepping = false
  inLock : ¬(holdsLock s n e = true ∧ 32 ≤ (s.eng n e).lockCount)

/-! Terms of claims about port engines (R280-R298). -/

/-- The row of an ALU function. -/
def aluCommand (f : AluFn) (n : Fin 12) (e : Fin 14) (rd rs : Fin 16) (t : Nat) : Instr :=
  match f with
  | .add => .add n e rd rs t
  | .sub => .sub n e rd rs t
  | .adc => .adc n e rd rs t
  | .sbc => .sbc n e rd rs t
  | .and => .and n e rd rs t
  | .or => .or n e rd rs t
  | .xor => .xor n e rd rs t
  | .shl => .shl n e rd rs t
  | .shr => .shr n e rd rs t
  | .sar => .sar n e rd rs t
  | .rol => .rol n e rd rs t
  | .ror => .ror n e rd rs t
  | .mov => .mov n e rd rs t
  | .cmp => .cmp n e rd rs t
  | .mull => .mull n e rd rs t
  | .mulh => .mulh n e rd rs t

/-- A row of the table of R282 with the carry convention of R280: result, C and V after it, for the two operands and C and V
before. -/
def aluTable (f : AluFn) (a b : Word) (c v : Bool) : Word × Bool × Bool :=
  let k := b.toNat % 16
  match f with
  | .add => (a + b, decide (65536 ≤ a.toNat + b.toNat), decide ((a + b).toInt ≠ a.toInt + b.toInt))
  | .sub | .cmp => (a - b, decide (b.toNat ≤ a.toNat), decide ((a - b).toInt ≠ a.toInt - b.toInt))
  | .adc =>
    let r := a + b + (if c then 1 else 0)
    (r, decide (65536 ≤ a.toNat + b.toNat + (if c then 1 else 0)), decide (r.toInt ≠ a.toInt + b.toInt + (if c then 1 else 0)))
  | .sbc =>
    let r := a - b - (if c then 0 else 1)
    (r, decide (b.toNat + (if c then 0 else 1) ≤ a.toNat), decide (r.toInt ≠ a.toInt - b.toInt - (if c then 0 else 1)))
  | .and => (a &&& b, c, false)
  | .or => (a ||| b, c, false)
  | .xor => (a ^^^ b, c, false)
  | .shl => (a <<< k, if k = 0 then c else a.getLsbD (16 - k), false)
  | .shr => (a >>> k, if k = 0 then c else a.getLsbD (k - 1), false)
  | .sar => (a.sshiftRight k, if k = 0 then c else a.getLsbD (k - 1), false)
  | .rol => (a.rotateLeft k, if k = 0 then c else (a.rotateLeft k).getLsbD 0, false)
  | .ror => (a.rotateRight k, if k = 0 then c else (a.rotateRight k).getLsbD 15, false)
  | .mov => (b, c, v)
  | .mull => (a * b, decide (0xFFFF < a.toNat * b.toNat), decide (a.toInt * b.toInt < -32768 ∨ 32767 < a.toInt * b.toInt))
  | .mulh => ((a.signExtend 32 * b.signExtend 32).extractLsb' 16 16, false, false)

/-- The engine after an instruction of `size` words that goes on in line (R278, R290): PC past the instruction, one more
instruction under a lock it holds. -/
def passed (s : State) (n : Fin 12) (e : Fin 14) (size : Nat) : Engine :=
  let x := s.eng n e
  { x with pc := x.pc + BitVec.ofNat 12 size, bpHit := false, safe := false
           lockCount := if holdsLock s n e then x.lockCount + 1 else x.lockCount }

/-- The byte address of an engine's own data memory, or of shared memory that no other engine has locked, at a word address
(R237, R290). -/
def engineRam (s : State) (n : Fin 12) (e : Fin 14) (a : Word) : Option Nat :=
  if a.toNat < 0x400 then (s.eng n e).phys.map fun p => dataBase n.val p.val + 2 * a.toNat
  else if 0x8000 ≤ a.toNat ∧ a.toNat < 0xC000 then
    (if lockedOut s n e then none else some (sharedBase n.val + 2 * (a.toNat - 0x8000)))
  else none

/-- An instruction has stored one word and changed nothing else of memory. -/
def StoredWord (s u : State) (a : Nat) (v : Word) : Prop :=
  u.word a = v ∧ ∀ b, b ≠ a → b ≠ a + 1 → u.byte b = s.byte b

/-- A trap has been entered (R297): the record stands in data memory, any lock is released, TA is 1 and PC is 1; registers and
flags are as before, and of memory nothing else has changed. -/
structure TrapEntered (s u : State) (n : Fin 12) (e : Fin 14) (p : Fin 16) (cause : Nat) (nn : Byte) (tpc : BitVec 12) : Prop where
  tpcWord : u.word (dataBase n.val p.val + 2 * 0x3FF) = tpc.setWidth 16
  causeWord : u.word (dataBase n.val p.val + 2 * 0x3FE) = wd (cause * 256 + nn.toNat)
  flagWord : u.word (dataBase n.val p.val + 2 * 0x3FD) =
    wd (8 * b2n (s.eng n e).z + 4 * b2n (s.eng n e).n + 2 * b2n (s.eng n e).c + b2n (s.eng n e).v)
  memory : ∀ a, (a < dataBase n.val p.val + 2 * 0x3FD ∨ dataBase n.val p.val + 2 * 0x400 ≤ a) → u.byte a = s.byte a
  ta : (u.eng n e).ta = true
  pc : (u.eng n e).pc = 1
  regs : (u.eng n e).regs = (s.eng n e).regs
  flags : (u.eng n e).z = (s.eng n e).z ∧ (u.eng n e).n = (s.eng n e).n ∧ (u.eng n e).c = (s.eng n e).c ∧ (u.eng n e).v = (s.eng n e).v
  lock : (u.cl n).lock ≠ some e
  engines : OtherEngines s u n e

/-! Terms of claims about the barrier (R14-R20). -/

/-- A message stands on the lanes of a direction of the barrier as the oldest of its type, is the next its far end expects of that
type and has not been accepted, and no injection inverts its check (R15, R434). -/
structure Arrives (s : State) (d : BarDir) (f : BarFlight) : Prop where
  passes : barPasses (s.bdir d) = true
  first : (s.bdir d).flight.find? (onLanes f.msg.type) = some f
  fresh : f.accepted = false
  inOrder : f.seq = vget (s.bdir d).expected f.msg.type.rank
  clean : s.fieldInj = none ∧ hubArmed s Src.laneReplacedFH = none

/-- The far end has accepted a message (R15): it expects the next number of that type, and the answer under way is an
acknowledgement. -/
def Accepted (s u : State) (d : BarDir) (f : BarFlight) : Prop :=
  (u.bdir d).expected = vset (s.bdir d).expected f.msg.type.rank (f.seq + 1) ∧
  ∃ g ∈ (u.bdir d).flight, g.msg = f.msg ∧ g.seq = f.seq ∧ g.accepted = true ∧ g.onWire = false ∧ g.answer = .ack

/-! Terms of claims about the rings. -/

/-- What leaves on a ring in place of the word that arrived: nothing where its transmit port carries no traffic (R86). -/
def Sends (s u : State) (r : Ring) (ws : List RingWord) : Prop :=
  (u.stream r).tx = if (s.link r.outPort).state.carries then ws else []

/-- A port's words pass on its ring: the port carries traffic, the node drives no stream of its own there and does not send IDLE on it, no
hop-local data word, hop band or WAKE sequence is under way, and the node's own hop band is not followed by a late marker (R36, R67, R71,
R431, R489). -/
structure Forwards (s : State) (p : Port) : Prop where
  carries : (s.link p).state.carries = true
  noDrive : drives s p.inRing = false
  noIdle : idles s p.inRing = false
  notEnded : (s.stream p.inRing).ended = false
  noEcho : (s.link p).echoIn = none
  noBand : (s.stream p.inRing).band = 0
  noWake : vget s.host.wakeWords p.inRing.ix = []

/-- No word of the node's own or delayed word stands before the next word on a ring (R153). -/
abbrev StreamFree (s : State) (r : Ring) : Prop :=
  (s.stream r).open_ = true ∧ (s.stream r).sending = [] ∧ (s.stream r).store = [] ∧ (s.stream r).buffer = []

/-- A port is DOWN. -/
abbrev PortDown (u : State) (p : Port) : Prop := (u.link p).state = .down

/-- A fall of a port from UP or DEGRADED (R44, R49, R61). -/
def PortFell (s u : State) (p : Port) : Prop :=
  PortDown u p ∧ u.reg (LNK_DOWNS p) = bumpW (s.reg (LNK_DOWNS p)) 1 ∧
  (u.reg LNK_EVT).getLsbD (match p with | .west => 15 | .east => 7) = true

/-- A training failure (R49, R61): counted, with its cause. -/
def TrainingFailed (s u : State) (p : Port) (cause : Nat) : Prop :=
  PortDown u p ∧ u.reg (LNK_TRF p) = bumpW (s.reg (LNK_TRF p)) 1 ∧ (u.link p).trCause = cause ∧
  (u.reg LNK_EVT).getLsbD (match p with | .west => 12 | .east => 4) = true

/-- The node can send a notice on both rings: it holds a number and both ring ports are up (R145, R167, R176). -/
abbrev MayBroadcast (s : State) : Prop := s.fab.node ≠ 0 ∧ portOff s 0 = false ∧ portOff s 1 = false

/-- A notice joins the queue of its class at both ring ports (R145, R162). -/
def Broadcast (s u : State) (cls sub : Nat) (payload : List Word) : Prop :=
  ∀ r, u.queue (ringPort r) cls = s.queue (ringPort r) cls ++
    [⟨Frame.mk' cls 1 sub (putFld s.ringNo 15 12 ||| wd 4095) s.srcWord 0 payload, 20, u.now, 0, none, 0⟩]

/-! Terms of claims about transactions (R201-R231). -/

/-- No semaphore cell meets its limit before the instant t (R225). -/
abbrev CellsTimely (s : State) (t : Nat) : Prop :=
  ∀ k, (vget s.brg.cells k).owner = none ∨ max s.now t < (vget s.brg.cells k).at_ + 200 * usT

/-- A target takes a request of another node at once (R207, R209, R213-R217, R223, R225, R431): its operation and size are allowed, nothing
of its source waits before it, nothing is locked against it, no cell ends, the bridge serves the ring, it is no repeat and the duplicate
filter has room. -/
structure TakesRequest (s : State) (op : TxnOp) (q : Request) (t : Nat) : Prop where
  ring : s.darkPath = false
  foreign : ownIssuer s q.src = false
  serves : s.bit BRG_CTRL 15 = true
  allowed : opBad op q.cg = false ∧ sizeBad op q.burst q.cg q.len q.addr = false
  guarded : q.cg = true → (cellOf s q).owner = some q.src
  alone : s.brg.waiting = []
  noField : (s.brg.fieldWaits.any fun x => match x.who with | .bridge w => decide (w.req.src = q.src) | _ => false) = false
  timely : CellsTimely s t
  unlocked : op = .lwr ∨ s.brg.lock = none
  fresh : dupFind s q.src q.tag q.seq = none
  room : s.brg.dups.length < 512

/-- A request has been served with a status and data (R205, R215): the duplicate filter keeps the response, or keeps that there is none
where the operation is posted. -/
def Served (s u : State) (op : TxnOp) (q : Request) (status : Nat) (data : List Word) : Prop :=
  u.brg.dups = s.brg.dups ++ [⟨q.src, q.tag, q.seq, if op.posted then none else some ⟨status, data⟩, true, false, op⟩]

/-- The response to a request from the own ring stands in the queue of a ring, in the class of the request or, with more than 32 words,
in CONTROL (R205). -/
def ResponseQueued (s u : State) (q : Request) (status : Nat) (data : List Word) : Prop :=
  ∃ r e, u.queue (ringPort r) (if data.length ≤ 30 then q.cls else 1) = s.queue (ringPort r) (if data.length ≤ 30 then q.cls else 1) ++ [e] ∧
    e.frame = Frame.mk' (if data.length ≤ 30 then q.cls else 1) 0 q.src.ep (putFld q.src.ring 15 12 ||| putFld q.src.node 11 0) s.srcWord q.tag
      (rspWord0 status data :: wd q.seq :: data)

/-- Both ring ports of the node are up. -/
abbrev RingsUp (s : State) : Prop := portOff s 0 = false ∧ portOff s 1 = false

/-- A frame of an endpoint's request has joined the queue of its class at a ring port (R160, R165). -/
def RequestQueued (s u : State) (d : Descriptor) (node tag seq : Nat) : Prop :=
  let payload := txnWords (descFields d seq)
  let cls := reqClass s d payload.length
  ∃ r, ∃ e ∈ u.queue (ringPort r) cls, e.input = 6 ∧ e.since = u.now ∧
    e.frame = Frame.mk' cls 0 d.ep (putFld d.dring 15 12 ||| putFld node 11 0) s.srcWord tag payload

/-! Terms of claims about clusters (R236-R274). -/

/-- A restart (R262, R276): the engine keeps its physical engine and its duty, everything else of it is as after reset, and it runs. -/
def Restarted (s u : State) (n : Fin 12) (e : Fin 14) : Prop :=
  u.eng n e = { Engine.init with phys := (s.eng n e).phys, run := .running, synced := (s.eng n e).synced } ∧
  (u.cl n).lock ≠ some e ∧ SameMemory s u ∧ OtherEngines s u n e

/-- Words of one region of memory stand in another. -/
def Copied (s u : State) (src dst words : Nat) : Prop := ∀ w < words, u.word (dst + 2 * w) = s.word (src + 2 * w)

/-- A migration begins (R267): it is under way, and the code stands in the target's code memory. -/
def MigrationBegins (s u : State) (n : Fin 12) (m : Migration) : Prop :=
  (u.cl n).mig = some m ∧ m.stopped = false ∧ Copied s u (codeBase n.val m.from_.val) (codeBase n.val m.target.val) 4096 ∧
  u.eng n m.leng = s.eng n m.leng

/-- The source of a migration is stopped (R267): its data memory stands in the target's. -/
def SourceStops (s u : State) (n : Fin 12) (m : Migration) : Prop :=
  (u.cl n).mig = some { m with stopped := true } ∧
  (m.from_ ≠ m.target → Copied s u (dataBase n.val m.from_.val) (dataBase n.val m.target.val) 1024)

/-- An engine is running and nothing keeps its dark or stalled instruction from completing, nor halts it after it (R267, R485, R511). -/
structure MayComplete (s : State) (n : Fin 12) (e : Fin 14) : Prop where
  runs : (s.eng n e).run = .running
  noIntm : (s.eng n e).intm = false
  noMig : migStopped s n e = false
  noHalt : (s.eng n e).haltPending = none
  noStep : (s.eng n e).stepping = false

/-! Terms of claims about CAN controllers (R341-R364). -/

/-- A controller stands as described, unless its transmit pin is in a gap: then it has stopped driving and waits (R361). -/
def CanIs (u : State) (c : Fin 4) (x : CanCtl) : Prop :=
  u.can c = if canGap u c then { x with phase := .gap, txBusy := false } else x

/-- The transmission of the head of the FIFO that a controller taking part on the bus begins (R354, R359). -/
def begins (s : State) (c : Fin 4) : Bool := !bitOf (canConf s c) 14 && !(s.can c).tx.isEmpty

/-! Terms of claims about the retained store (R365-R393) and the cores (R394-R415). -/

/-- A command of RST_CMD has been refused with a reason; slots, keys and memory are as before (R393). -/
def Refused (s u : State) (code why : Nat) : Prop :=
  u.store.cmd = ⟨3, code, why⟩ ∧ u.store.slots = s.store.slots ∧ u.store.keys = s.store.keys ∧ u.store.fuse = s.store.fuse ∧
  u.store.force = s.store.force ∧ SameMemory s u

/-- The content of a slot that passes its check (R372, R375). -/
def passes (s : State) (b : Bool) (content : Option Stagebook) : Option Stagebook := (slotVerdict s (slotWords s b) content).2

/-- A core stands as before but for its claim and phase. -/
def CoreTo (s u : State) (c : Core) (claim : Claim) (phase : CorePhase) : Prop := u.core c = { s.core c with claim := claim, phase := phase }

/-! Terms of claims about the power die (R440-R468). -/

/-- A report of the field side is on its way to both collectors (R417): a FAULT_REPORT message is ready, or while the direction does not
carry messages the source stands in the backlog. -/
def FieldReported (s u : State) (src detail : Nat) : Prop :=
  if barCarries (s.bdir .fh) then ∃ time, ⟨⟨.faultReport, .faultReport src detail 1 time false false⟩, []⟩ ∈ (u.bdir .fh).ready
  else ∃ b ∈ u.backlog, b.src = src ∧ b.inj = false ∧ b.dry = false

/-- Both collectors hold a report of the hub (R417). -/
def HubReported (u : State) (src detail : Nat) : Prop :=
  ∀ c, ∃ time, (⟨src, detail, time, false, false⟩ : Report) ∈ (u.flt c).inbox

/-- No feed has been OK or GOOD up to the instant t (R443, R465). -/
abbrev FeedsLost (s : State) (t : Nat) : Prop := ∀ i, feedUsable (s.feed i) = false ∨ (s.feed i).since = max s.now t

/-- A fraction as a number. -/
def fracRat (x : Frac) : Rat := (x.num : Rat) / (x.den : Rat)

/-- No override of R461 keeps a channel off, and the PWR section has been applied by a power die that has started (R446). -/
structure Unheld (s : State) (c : Fin 16) : Prop where
  applied : s.power.sectioned = true
  started : s.power.started = true
  dark : bitOf (s.ef PWR_EF_CFG c) 15 = true → (if s.power.link then s.dark.dark || s.dark.outHold else s.power.heardDark) = false
  intm : bitOf (s.ef PWR_EF_CFG c) 14 = true → (if s.power.link then decide (s.host.intm = .inside) else s.power.heardIntm) = false
  hu : bitOf (s.ef PWR_EF_CFG c) 13 = true → s.power.path = .feed

/-- PWR_EF_ON commands a channel on and nothing keeps it off (R454). -/
structure Commanded (s : State) (c : Fin 16) : Prop extends Unheld s c where
  on : s.bit PWR_EF_ON c.val = true

/-- A trip (R455, R460): counted and reported; TRIPPED while a retry is left, else LOCKED, which is reported as well. -/
def FuseTripped (s u : State) (c : Fin 16) (cause : Nat) : Prop :=
  let limit := fld (s.ef PWR_EF_RETRY c) 15 12
  (u.fuse c).cause = cause ∧ (u.fuse c).acc = ⟨0, 1⟩ ∧ u.regSel PWR_EF_TRIPS c.val = bumpW (s.regSel PWR_EF_TRIPS c.val) 1 ∧
  (u.reg PWR_EF_EVT).getLsbD efTRIP = true ∧ (s.power.link = true → FieldReported s u Src.efTrip c.val) ∧
  (if limit = 15 ∨ (s.fuse c).retries < limit then (u.fuse c).phase = .tripped
   else (u.fuse c).phase = .locked ∧ (u.reg PWR_EF_EVT).getLsbD efLOCK = true ∧ (s.power.link = true → FieldReported s u Src.efLock c.val))

/-- Every fraction of a channel's thermal model and of its accumulator has a denominator. -/
abbrev Sound (f : Fuse) : Prop :=
  f.acc.den ≠ 0 ∧ (∀ n, (vget f.poles n).den ≠ 0) ∧ (f.model.all fun m => decide (m.den ≠ 0)) = true

/-! Terms of claims about the host ports (R469-R492). -/

/-- An uplink has been given a frame to send. -/
def SentOn (s u : State) (up : Uplink) (f : EthFrame) : Prop :=
  (vget u.host.ups up.ix).sent = f :: (vget s.host.ups up.ix).sent

/-- A datagram or frame has been discarded at an uplink (R475, R491): counted, and for a cause of R475 recorded and reported. -/
def Discarded (s u : State) (up : Uplink) (cause : Nat) : Prop :=
  u.reg (hstBadReg up) = bumpW (s.reg (hstBadReg up)) 1 ∧ (u.reg HST_EVT).getLsbD hstBAD = true ∧
  (cause ≠ 0 → u.reg HST_LASTERR = bitW (decide (up = .one)) 15 ||| putFld cause 3 0 ∧ HubReported u Src.datagram up.ix.val)

/-- A QSPI frame has been rejected (R482): its result stands, it counts and reports, and it has had no effect on memory or requests. -/
def QspiRejected (s u : State) (code : Nat) : Prop :=
  u.host.qsResult = code ∧ u.host.qsOut = [] ∧ u.reg HST_QS_ERR = bumpW (s.reg HST_QS_ERR) 1 ∧ (u.reg HST_EVT).getLsbD hstQSERR = true ∧
  HubReported u Src.qspiReject code ∧ SameMemory s u ∧ u.brg.opens = s.brg.opens ∧ u.host.qsFetch = s.host.qsFetch

/-- A frame of this node stands in the queue of its class at a ring port. -/
def QueuedOnRing (s u : State) (input joints : Nat) (f : Frame) : Prop :=
  ∃ r, u.queue (ringPort r) f.cls = s.queue (ringPort r) f.cls ++ [⟨f, input, u.now, 0, none, joints⟩]

/-! Terms of claims about register access, reset and debugging (R493-R532, R567). -/

/-- A register whose write does no more than change its fields (R7, R10): no command, no port to write through, no selected copy of
another kind. -/
def inert (a : Nat) : Bool :=
  let o := a % 0x400
  let b := a / 0x400
  !([HUB_RESET, LNK_CTRL, LNK_CMD .west, LNK_CMD .east, CUE_SCN_CTRL, SWQ_QUOTA, FAB_RC_CTRL, FAB_FETCH_CTRL, BRG_SEM_CTRL, LU_CMD, LU_MGN_CLR,
      FLT_SRC_CFG, FLT_INJ, RST_CMD, HST_INTM, DBG_CTRL, DBG_ENG_CMD, DBG_ENG_REG, DBG_TRC_CLR, CMP_R_COMMIT, FLD_MGN_CLR, SIG_FWD_SRC,
      PWR_CMD, PWR_EF_RESET, FI_CTRL].contains a) && !(decide (PLS_PU_CTRL ≤ a) && decide (a ≤ PLS_PU_CNT)) &&
  !(decide (0x2840 ≤ a) && decide (a < 0x2880)) && !(decide (0x3820 ≤ a) && decide (a < 0x382C)) &&
  !(decide (68 ≤ b) && decide (b ≤ 79) && decide (o = 0x08)) &&
  !(decide (82 ≤ b) && decide (b ≤ 85) && [0x00, 0x08, 0x5C, 0x5E].contains o)

/-- Nothing holds an accepted write of a register back (R384, R450, R464). -/
structure Open (s : State) (a : Nat) (persistent : Bool) : Prop where
  link : powerReg a = true → s.power.link = true
  curtain : persistent = true → s.power.cfStep = 0
  journal : persistent = true → jrnBusy s = false

/-- Neither side of the node holds a sequence armed for a path (R500). -/
abbrev Unarmed (s : State) (path : Path) : Prop := armed s path false = none ∧ armed s path true = none

/-- A register copy has taken the fields of a word, and no other copy of any register has changed. -/
def RegTook (s u : State) (a k rw w1c : Nat) (v : Word) : Prop :=
  u.regSel a k = ((s.regSel a k &&& ~~~ wd rw) ||| (v &&& wd rw)) &&& ~~~ (v &&& wd w1c) ∧
  SameRegs s u [a] ∧ ∀ j, j < 65536 → j ≠ k → u.regSel a j = s.regSel a j

/-- What the failure of a guarded sequence leaves of HUB_GW_STAT and HUB_GW_LAST, and its report (R501, R522). -/
def GwNamed (u : State) (path : Path) (a cause : Nat) : Prop :=
  u.reg HUB_GW_STAT = putFld cause 15 13 ||| putFld path.code 12 10 ∧ u.reg HUB_GW_LAST = regName a ∧ HubReported u Src.guardedFail path.code

/-- One sequence has failed (R501); no register but the three that tell of it has changed. -/
def GwFailed (s u : State) (path : Path) (a cause : Nat) : Prop :=
  GwNamed u path a cause ∧ u.reg HUB_GW_FAIL = bumpW (s.reg HUB_GW_FAIL) 1 ∧ SameRegs s u [HUB_GW_FAIL, HUB_GW_STAT, HUB_GW_LAST] ∧ SameMemory s u

/-- Every pin of the field die is in rank 1 and undriven (R304, R308). -/
def PinsUndriven (u : State) : Prop := ∀ k, (u.pin k).rank = 1 ∧ (u.pin k).out = (false, false)

/-- A register shows its value after reset. -/
def RegCleared (u : State) (a : Nat) : Prop := ∀ k < 65536, closingReg a = false → u.regSel a k = State.reset.regSel a k

/-! What every command leaves true of the block. -/

/-- Every e-fuse channel is as R446, R454 and R461 let it be: off until the PWR section is applied by a power die that has started; a
channel in RAMP or ON is commanded on, and no override keeps it off. -/
def FusesRuled (s : State) : Prop :=
  ∀ c : Fin 16, (s.power.sectioned = false ∨ s.power.started = false → (s.fuse c).phase = .off) ∧
    (fuseLive (s.fuse c) = true → s.bit PWR_EF_ON c.val = true ∧
      (bitOf (s.ef PWR_EF_CFG c) 15 = true → s.power.heardDark = false) ∧
      (bitOf (s.ef PWR_EF_CFG c) 14 = true → s.power.heardIntm = false) ∧
      (bitOf (s.ef PWR_EF_CFG c) 13 = true → s.power.path = .feed))

/-- BYPASS_N is low from step 3 of curtain fall on and while RESET_N is low; else, once the LNK section is applied and outside the dark
state, it is low exactly where LNK_BYP commands it (R58). -/
def BypassRuled (s : State) : Prop :=
  (3 ≤ s.power.cfStep ∨ s.start.resetLow = true → s.start.bypassLow = true) ∧
  (s.power.cfStep < 3 → s.start.resetLow = false → s.start.lnkApplied = true → s.dark.dark = false →
    s.start.bypassLow = (s.bit LNK_BYP 15 && s.bit LNK_BYP 14))

/-- What follows at once from every change holds of a state. -/
structure Ruled (s : State) : Prop where
  pins : PinsRuled s
  fuses : FusesRuled s
  bypass : BypassRuled s

end Sys2Proof.Machine
end

