-- ==== Sys2Proof/Certificates/Slice0/Obligations.lean ====
section
/-! DEFINITION. The statements for the provers. -/

open Sys2Proof Sys2Proof.Machine

/-! Every command. -/

/-- A step takes the command at the front of the queue and has its effect on the state with the rest of the queue; with nothing waiting
the block idles (the model's choice, notes/assumptions/5.md). -/
def Obligations.StepTakesTheFront : Prop :=
  (∀ (c : Instr) (rest : List Instr) (s : State), step { s with pending := c :: rest } = exec c { s with pending := rest }) ∧
  ∀ s : State, s.pending = [] → step s = .next s

/-- Every command answers a next state from every state, and in it each pin stands in its rank of R308 with the output R309 gives that rank,
each e-fuse channel is as R446, R454 and R461 let it be, and BYPASS_N as R58 says. -/
def Obligations.EveryCommandCompletes : Prop :=
  ∀ (c : Instr) (s : State), Completes c s Ruled

/-- The ranks of the pins, the e-fuse channels and BYPASS_N stay ruled under every step, also of a block that idles. -/
def Obligations.StepKeepsRules : Prop :=
  ∀ s t : State, Ruled s → step s = .next t → Ruled t

/-- R11, R304, R308, R394, R440 and R503: the node after reset: it obeys its rules; no pin is driven, no cluster online, no core accepted,
no link up, no command waits, and the thresholds of the feeds have their defaults. -/
def Obligations.ResetState : Prop :=
  Ruled State.reset ∧ PinsUndriven State.reset ∧ State.reset.pending = [] ∧ Memory.wf State.reset.mem = true ∧
  (∀ n, (State.reset.cl n).online = false ∧ (State.reset.cl n).cfg = none) ∧ (∀ c, (State.reset.core c).claim = .c0) ∧
  (∀ p, (State.reset.link p).state = .down) ∧ State.reset.dark.dark = false ∧
  State.reset.reg PWR_VFAIL = 1800 ∧ State.reset.reg PWR_VGOOD = 2000 ∧ State.reset.reg PWR_VOVP = 3300

/-! The barrier and the instants (R14-R32). -/

/-- R17: at a message boundary the highest-ranked ready message starts, the oldest of its rank, with the next number of its type;
each lower-ranked message that waits has then been passed once by that type, and one that has been passed once by a type is not
passed by it again.
R15, R16 and R20: an acknowledged message leaves, a refused one is sent again and counted, a first timeout is counted and the
message sent again, a second retrains the direction, after whose training what was on its lanes is sent again. -/
def Obligations.BarrierSends : Prop :=
  (∀ (d : BarDir) (t : Nat) (s : State) (m : BarReady) (pre post : List BarReady), barPasses (s.bdir d) = true →
     (s.bdir d).ready = pre ++ m :: post → (∀ w ∈ pre ++ m :: post, ¬w.msg.body matches .conduit ..) →
     (let started (w : BarReady) (u : State) : Prop :=
        (u.bdir d).flight = (s.bdir d).flight ++ [⟨w.msg, vget (s.bdir d).nextSeq w.msg.type.rank, max s.now t, 0, true, false, .none, false⟩] ∧
        (u.bdir d).nextSeq = vset (s.bdir d).nextSeq w.msg.type.rank (vget (s.bdir d).nextSeq w.msg.type.rank + 1)
      ((∀ w ∈ pre, m.msg.type.rank < w.msg.type.rank) → (∀ w ∈ post, m.msg.type.rank ≤ w.msg.type.rank) →
        (∀ w ∈ pre ++ post, m.msg.type ∉ w.passed) →
        Completes (.barrierSend d t) s fun u => started m u ∧
          ∀ w ∈ pre ++ post, (if m.msg.type.rank < w.msg.type.rank ∧ m.msg.type ≠ .claim then
            { w with passed := m.msg.type :: w.passed } else w) ∈ (u.bdir d).ready) ∧
      (∀ w, pre = [w] → post = [] → m.msg.type.rank < w.msg.type.rank → m.msg.type ≠ .claim → m.msg.type ∈ w.passed →
        Completes (.barrierSend d t) s (started w)))) ∧
  (∀ (d : BarDir) (f : BarFlight) (pre post : List BarFlight) (t : Nat) (s : State), (s.bdir d).flight = pre ++ f :: post →
     (let ty := f.msg.type
      (barPasses (s.bdir (BarDir_back d)) = true → f.answer = .ack → (∀ g ∈ pre, ¬(g.msg.type = ty ∧ g.answer = .ack)) →
        Completes (.linkAck d ty t) s fun u => (u.bdir d).flight = pre ++ post) ∧
      (barPasses (s.bdir (BarDir_back d)) = true → f.answer = .nack → (∀ g ∈ pre, ¬(g.msg.type = ty ∧ g.answer = .nack)) →
        Completes (.negativeAck d ty t) s fun u =>
          (u.bdir d).flight = pre ++ { f with answer := .none, again := true } :: post) ∧
      (barPasses (s.bdir d) = true → f.again = true → (∀ g ∈ pre, ¬(g.msg.type = ty ∧ g.again = true)) →
        Completes (.messageResend d ty t) s fun u =>
          (u.bdir d).flight = pre ++ { f with again := false, onWire := true } :: post ∧
          u.reg FLD_BAR_RETRY = bumpW (s.reg FLD_BAR_RETRY) 1) ∧
      ((∀ g ∈ pre, g.msg.type ≠ ty) → Completes (.messageTimeout d ty t) s fun u =>
        u.reg FLD_BAR_TMO = bumpW (s.reg FLD_BAR_TMO) 1 ∧
        (u.bdir d).retraining = ((s.bdir d).retraining || decide (f.timeouts ≠ 0)) ∧
        ∀ g ∈ (u.bdir d).flight, g.msg.type = ty → g.again = true ∧ g.onWire = false ∧ g.answer = .none) ∧
      ((s.bdir d).retraining = true → Completes (.barrierRetrainDone d t) s fun u =>
        (u.bdir d).retraining = false ∧ (u.bdir d).trained = (s.bdir d).trained ∧
        (u.bdir d).flight = (pre ++ f :: post).map fun g => if g.onWire then { g with onWire := false, again := true } else g)))

/-- R15: a message that arrives whole and in order is accepted once and takes effect, here one of every row: a core's claim, a
fault report, the field-side time, an image word, published and snapshot words, an announcement of events and conduit words, a write
to shared memory, the words of a section, which is staged for an update with the last of them or abandons it where its check fails, a
drive of the field chain.
R15: a message whose check fails is refused and counted, one that comes again is acknowledged again, and neither takes effect. -/
def Obligations.BarrierDelivery : Prop :=
  (∀ (d : BarDir) (f : BarFlight) (t : Nat) (s : State), Arrives s d f →
     (∀ c v, d = .hf → f.msg = ⟨.claim, .claim c v⟩ → Completes (.claim (barCrc f) t) s fun u =>
       Accepted s u d f ∧ (u.core c).fieldClaim = Claim.ofValue v ∧ ∀ c', c' ≠ c → u.core c' = s.core c') ∧
     (∀ src x n at_ inj dry, d = .fh → f.msg = ⟨.faultReport, .faultReport src x n at_ inj dry⟩ →
       Completes (.faultReport (barCrc f) t) s fun u => Accepted s u d f ∧
         ∀ c : Core, (vget u.flts c.ix).inbox = (vget s.flts c.ix).inbox ++ List.replicate n ⟨src, x, at_, inj, dry⟩) ∧
     (∀ ofs dom hold a l p, d = .hf → f.msg = ⟨.timeSync, .timeSync ofs dom hold a l p⟩ → Completes (.timeSync (barCrc f) t) s fun u =>
       Accepted s u d f ∧ u.time.fofs = ofs ∧ u.time.fsmp = a ∧ u.time.flat = l ∧ u.time.fflp = p ∧ u.time.fdom = dom ∧ u.time.fhold = hold) ∧
     (∀ (c : Core) (n : Fin 12) k a w, d = .hf → f.msg = ⟨.imageOut, .imageOut c n.val k a [w]⟩ →
       Completes (.imageOut (barCrc f) t) s fun u => Accepted s u d f ∧
         vget (u.cl n).inStage c.ix = vget (s.cl n).inStage c.ix ++ [(k, a, w)]) ∧
     (∀ a w, d = .fh → f.msg = ⟨.imageIn, .publish a [w]⟩ → cmpHolds s a = false → isHealth s a = false →
       Completes (.imageIn (barCrc f) t) s fun u => Accepted s u d f ∧ u.fillWord a = w) ∧
     (∀ a w, d = .fh → f.msg = ⟨.imageIn, .snapshot a [w]⟩ → a ≠ 0 →
       Completes (.imageIn (barCrc f) t) s fun u => Accepted s u d f ∧ u.word (snapBase + 2 * a) = w) ∧
     (∀ l c, d = .fh → f.msg = ⟨.signal, .event l c⟩ → Completes (.signal d (barCrc f) t) s fun u => Accepted s u d f ∧ u.heard = (l, c)) ∧
     (∀ (n : Fin 12) (q : Fin 16) ws, d = .hf → f.msg = ⟨.signal, .conduit n.val q.val ws⟩ →
       Completes (.signal d (barCrc f) t) s fun u => Accepted s u d f ∧ (u.conduit n q).inw = (s.conduit n q).inw ++ ws) ∧
     (∀ id path (n : Fin 12) off w, d = .hf → off < 0x4000 →
       f.msg = ⟨.regAccess, .regAccess id path (sharedBase n.val + 2 * off) 1 (some [w]) true⟩ → (s.cl n).lock = none →
       Completes (.regAccess d (barCrc f) t) s fun u => Accepted s u d f ∧ u.word (sharedBase n.val + 2 * off) = w ∧
         (∀ b, b ≠ sharedBase n.val + 2 * off → b ≠ sharedBase n.val + 2 * off + 1 → u.byte b = s.byte b) ∧
         ∃ more, (u.bdir .fh).ready = (s.bdir .fh).ready ++ ⟨⟨.regAccess, .regResponse id stOK []⟩, []⟩ :: more) ∧
     (∀ tag b ws x, d = .hf → f.msg = ⟨.chunk, .chunk tag b true true false ws⟩ →
       Completes (.stagebookChunk (barCrc f) x t) s fun u => Accepted s u d f ∧ u.store = { s.store with incoming := upsetLast x ws }) ∧
     (∀ tag b ws x, d = .hf → f.msg = ⟨.chunk, .chunk tag b true false true ws⟩ → s.store.upd = some (b, 1) →
       sectionCrcOk (s.store.incoming ++ upsetLast x ws) = true →
       Completes (.stagebookChunk (barCrc f) x t) s fun u => Accepted s u d f ∧ u.store.staged = tag :: s.store.staged ∧ u.store.incoming = []) ∧
     (∀ tag b ws x, d = .hf → f.msg = ⟨.chunk, .chunk tag b true false true ws⟩ → s.store.upd = some (b, 1) →
       sectionCrcOk (s.store.incoming ++ upsetLast x ws) = false →
       Completes (.stagebookChunk (barCrc f) x t) s fun u => u.store.upd = none ∧ u.store.staged = [] ∧
         (u.reg RST_EVT).getLsbD rstUPDFAIL = true) ∧
     (∀ ws, d = .hf → f.msg = ⟨.debugMsg, .chain ws⟩ → Completes (.debugMsg d (barCrc f) t) s fun u =>
       Accepted s u d f ∧ u.dbg.fieldChain = unpackBits 145 ws ∧ u.dbg.hostChain = s.dbg.hostChain)) ∧
  (∀ (f : BarFlight) (t : Nat) (s : State), barPasses (s.bdir .hf) = true → (s.bdir .hf).flight.find? (onLanes f.msg.type) = some f →
     s.fieldInj = none → f.msg.type = .claim →
     (∀ crc, crc ≠ barCrc f → Completes (.claim crc t) s fun u =>
       u.reg FLD_BAR_CRC = bumpW (s.reg FLD_BAR_CRC) 1 ∧ (u.bdir .hf).expected = (s.bdir .hf).expected ∧
       (∃ g ∈ (u.bdir .hf).flight, g.msg = f.msg ∧ g.onWire = false ∧ g.answer = .nack) ∧ u.lead = s.lead ∧ SameMemory s u ∧
       SameRegs s u [FLD_BAR_CRC]) ∧
     (f.accepted = true → Completes (.claim (barCrc f) t) s (fun u =>
       (u.bdir .hf).expected = (s.bdir .hf).expected ∧ (∃ g ∈ (u.bdir .hf).flight, g.msg = f.msg ∧ g.onWire = false ∧ g.answer = .ack) ∧
       u.lead = s.lead ∧ SameMemory s u ∧ SameRegs s u [])))

/-- R18, R19 and R463: a failed lane waits for a spare and takes the direction down where none is left, a spare takes its place, a
spare lost is marked, and both directions train where eight lanes of each work. -/
def Obligations.BarrierLanes : Prop :=
  ∀ (d : BarDir) (l : Fin 10) (t : Nat) (s : State),
    (let b := s.bdir d
     ((b.active.getLsbD l.val = true ∧ b.failed.getLsbD l.val = false) → Completes (.laneFailed d l t) s fun u =>
       (∀ k : Fin 10, (u.bdir d).failed.getLsbD k.val = (b.failed.getLsbD k.val || decide (k = l)) ∧
         (u.bdir d).active.getLsbD k.val = (b.active.getLsbD k.val && decide (k ≠ l))) ∧
       (u.bdir d).toReplace = b.toReplace ++ [l.val] ∧
       (u.bdir d).trained = (b.trained && decide (b.toReplace.length < spareLanes b))) ∧
     (∀ rest, b.toReplace = l.val :: rest → freeSpare b ≠ none → Completes (.laneReplaced d t) s fun u =>
       (u.bdir d).toReplace = rest ∧ (u.bdir d).failed = b.failed ∧ ∃ k : Fin 10, 8 ≤ k.val ∧ b.failed.getLsbD k.val = false ∧
         b.active.getLsbD k.val = false ∧
         ∀ j : Fin 10, (u.bdir d).active.getLsbD j.val = (b.active.getLsbD j.val || decide (j = k))) ∧
     (8 ≤ l.val → b.active.getLsbD l.val = false → b.failed.getLsbD l.val = false → Completes (.spareLaneLost d l t) s fun u =>
       (u.bdir d).active = b.active ∧ ∀ k : Fin 10, (u.bdir d).failed.getLsbD k.val = (b.failed.getLsbD k.val || decide (k = l))) ∧
     (s.start.hostReset = false → ((s.bdir .hf).trained && (s.bdir .fh).trained) = false → Completes (.barrierTrainTimeout t) s fun u =>
       (u.bdir .fh).trained = false ∧
       ∀ c : Core, ∃ r, (vget u.flts c.ix).inbox = (vget s.flts c.ix).inbox ++ [r] ∧ r.src = Src.barrierDownFH) ∧
     (s.start.hostReset = false → s.start.fieldReset = false → 8 ≤ working10 (s.bdir .hf) → 8 ≤ working10 (s.bdir .fh) →
       Completes (.barrierTrainingDone t) s fun u =>
         ∀ d, (u.bdir d).trained = true ∧ (u.bdir d).retraining = false ∧ (u.bdir d).active = (s.bdir d).active))

/-- R76, R77, R253, R254, R256, R312 and R231: what the five instants do. -/
def Obligations.InstantsOfACycle : Prop :=
  ∀ (n : Fin 12) (t : Nat) (s : State),
    (let comes (i : InstKind) (k : DWord) : Prop :=
       s.time.sValid = true ∧ (∃ c, s.runSheet = some c ∧ instantCycle (s.at t) c i = k) ∧ notYet s i k = true
    (∀ k, comes .sample k → Completes (.sampleInstant t) s fun u =>
      vget u.time.instDone InstKind.sample.ix = some k ∧ u.snap = snapWords (s.at t) ∧ (∀ m e, (u.eng m e).synced = false) ∧ SameMemory s u) ∧
    (∀ r i, regionsOf s n .snap = [r] → i < r.len → (∀ m, ∀ x ∈ regionsOf s m .snap, x.win + x.len ≤ 0x8000) →
      Completes (.snapRefresh t) s fun u => u.word (windowBase n.val + 2 * (r.win + i)) = wAt s.snap (r.hub + i)) ∧
    (∀ k, comes .flip k → Completes (.flipInstant t) s fun u =>
      u.cue.fill = !s.cue.fill ∧ (∀ w, isHealth s w = false → u.sendWord w = s.fillWord w) ∧
      ∀ w, isHealth s w = true → u.sendWord w = u.reg LU_HW_LAST) ∧
    (∀ k, comes .latch k → Completes (.latchInstant t) s fun u =>
      u.start.latched = true ∧ u.brg.staged = s.brg.staged.filter (fun x => decide (x.cycle ≠ k)) ∧
      ∀ (a : Core) w p, s.fieldAccepted = some a → pimgWord s n = some p → vget (s.cl n).pimgStage a.ix = some (k, w) →
        ∀ j, (u.pin (pinOf n j)).image = bitOf w j.val) ∧
    (hasInstants s = true → (s.cl n).cfg.isSome = true → ∀ a, s.fieldAccepted = some a →
      (let sent := fun w => stagedWord (latchCycle s) (vget (s.cl n).inStage a.ix) w
       ((∀ w ∈ inPlaces s n, (sent w).isSome = true) → Completes (.imageInstant n t) s fun u =>
         ∀ w ∈ inPlaces s n, some (u.word (windowBase n.val + 2 * w)) = sent w) ∧
       ((∃ w ∈ inPlaces s n, sent w = none) → Completes (.imageInstant n t) s fun u =>
         SameMemory s u ∧ u.reg (CLU_IMGLATE n.val) = bumpW (s.reg (CLU_IMGLATE n.val)) 1))))

/-- R26, R27 and R32: a margin measurement is live at once and the minimum follows; the fourth in a row below an armed warning
threshold reports; the minimum restarts at the next measurement after a clear. -/
def Obligations.SpeedMargins : Prop :=
  ∀ (code : BitVec 8) (v : Word) (t : Nat) (s : State),
    (let lowest (m : Margin) : BitVec 8 := if m.restart = true ∨ code.toInt < m.low.toInt then code else m.low
     (∀ (k : Fin 14) (n : Fin 12), k.val = n.val → Completes (.marginMeasure k code t) s fun u =>
       (vget u.margins n).live = code ∧ (vget u.margins n).low = lowest (vget s.margins n) ∧ (vget u.margins n).restart = false ∧
       ∀ m, m ≠ n → vget u.margins m = vget s.margins m) ∧
     (∀ (k : Fin 14) (c : Core), k.val = 12 + c.ix.val →
       Completes (.marginMeasure k code t) s (fun u =>
         (u.core c).margin.live = code ∧ (u.core c).margin.low = lowest (s.core c).margin ∧ (u.core c).margin.restart = false) ∧
       (let m := (s.core c).margin.warn
        let warn : Int := ((s.reg LU_MGN_THR).extractLsb' 8 8).toInt
        let crit : Int := ((s.reg LU_MGN_THR).extractLsb' 0 8).toInt
        crit < warn → code.toInt < warn → m.armed = true → 3 ≤ m.run → Completes (.marginMeasure k code t) s fun u =>
          (u.reg LU_EVT).getLsbD luMWARN = true ∧ (u.core c).margin.warn.armed = false)) ∧
     Completes (.fldMgnClr v t) s (fun u =>
       ∀ n, (vget u.margins n).restart = ((vget s.margins n).restart || v.getLsbD n.val) ∧ (vget u.margins n).low = (vget s.margins n).low) ∧
     Completes (.luMgnClr v t) s (fun u =>
       ∀ c, (u.core c).margin.restart = ((s.core c).margin.restart || v.getLsbD c.ix.val) ∧
         (u.core c).margin.low = (s.core c).margin.low))

/-! The ring links (R33-R61). -/

/-- R34, R36-R38, R54 and R112: what the words of a lane do outside frames. Two code groups form a word by the lanes' running disparities,
polarity and order (the tables of the code are notes/assumptions/117.md).
R38, R40, R42, R85, R157 and R158: interjection marks in a passing frame, the hop band with its eight words and its slip, the
guardian's reload, and the elastic buffer's overrun. -/
def Obligations.LinkWords : Prop :=
  (∀ (p : Port) (t : Nat) (s : State),
     (let r := p.inRing
      let l := s.link p
      (∀ g0 g1 x, Forwards s p → (s.stream r).open_ = false → (arrive l g0 g1).1 = some (.data x) →
        Completes (.wordReceive p g0 g1 t) s fun u =>
          Sends s u r [.data x] ∧ SameMemory s u ∧ SameRegs s u [] ∧ (u.link p).lanes = (arrive l g0 g1).2.lanes) ∧
      (∀ g0 g1, Forwards s p → (s.stream r).open_ = false → l.state = .up → (arrive l g0 g1).1 = none →
        Completes (.wordReceive p g0 g1 t) s fun u =>
          Sends s u r [.err] ∧ SameRegs s u [LNK_WERR p] ∧ u.reg (LNK_WERR p) = bumpW (s.reg (LNK_WERR p)) 1) ∧
      (Forwards s p → (s.stream r).open_ = false → Completes (.errReceive p t) s fun u =>
        Sends s u r [.err] ∧ SameRegs s u [LNK_ERRIN p] ∧ u.reg (LNK_ERRIN p) = bumpW (s.reg (LNK_ERRIN p)) 1) ∧
      (Forwards s p → Completes (.sbReceive p false t) s fun u => Sends s u r [.sb 1] ∧ (u.stream r).open_ = true) ∧
      (l.state.carries = true → Completes (.sbReceive p true t) s fun u => (u.stream r).open_ = false ∧ (u.stream r).band = 7 ∧ SameRegs s u []) ∧
      (∀ status : Byte, l.state.carries = true → status.getLsbD 4 = !decide (p = .east) → status.toNat / 32 ≤ 2 →
        Completes (.lsReceive p status t) s fun u => PortFell s u p) ∧
      (∀ status : Byte, status.getLsbD 4 = decide (p = .east) → Completes (.lsReceive p status t) s fun u =>
        PortDown u p ∧ (u.link p).trCause = 2 ∧ (u.link p).sideWait = true) ∧
      (∀ status : Byte, l.state = .sync → status.getLsbD 4 = !decide (p = .east) → Completes (.lsReceive p status t) s fun u =>
        (u.link p).far = status.toNat / 32 ∧ (u.link p).lsRun = (if 2 ≤ status.toNat / 32 ∧ status.toNat / 32 ≤ 4 then l.lsRun + 1 else 0) ∧
        (u.link p).state = .sync) ∧
      (∀ lane number far inv, (l.state = .down ∨ l.state = .training) →
        Completes (.tsidReceive p lane (!decide (p = .east)) number far inv t) s fun u =>
          (vget (u.link p).lanes lane).number = number.val ∧ (vget (u.link p).lanes lane).far = far.val ∧
          (vget (u.link p).lanes lane).locked = true ∧ (u.link p).state = l.state) ∧
      (∀ lane number far inv, l.state.carries = true → Completes (.tsidReceive p lane (!decide (p = .east)) number far inv t) s fun u =>
        PortFell s u p) ∧
      Completes (.wrongSideRetry p t) s (fun u => u.link p = { l with sideWait := false } ∧ SameRegs s u []) ∧
      (∀ tag, l.state.carries = true → Completes (.echoReqReceive p tag t) s fun u =>
        u.link p = { l with echoDue := some (tag, (s.at t).ring.toNat) }) ∧
      (∀ tag w1 w2 w3 x sent c, (vget s.time.echo p.ix).open_.find? (fun y => decide (y.1 = tag)) = some (x, sent, c) →
        Completes (.echoRspReceive p tag w1 w2 w3 t) s fun u => ∃ d : Int,
          (vget u.time.echo p.ix).results = d :: (vget s.time.echo p.ix).results.take 63 ∧ -(secT : Int) ≤ 2 * d ∧ 2 * d < secT ∧
          (secT : Int) ∣ ((w1.toNat * 65536 + w2.toNat) * nsT + w3.toNat * nsT / 65536 : Nat) - sent - d) ∧
      (∀ tag, (vget s.time.echo p.ix).open_.any (fun y => decide (y.1 = tag)) = true → Completes (.echoTimeout p tag t) s fun u =>
        u.reg TIM_ECHO_MISS = bumpW (s.reg TIM_ECHO_MISS) 1 ∧
        (vget u.time.echo p.ix).open_ = (vget s.time.echo p.ix).open_.filter fun y => decide (y.1 ≠ tag)))) ∧
  (∀ (p : Port) (t : Nat) (s : State),
     (let r := p.inRing
      let l := s.link p
      (∀ q, Forwards s p → StreamFree s r → (s.stream r).frame = some q → q.strip = false →
        ((s.stream r).inter = none → (s.stream r).interDue = false → Completes (.ieOpen p t) s fun u =>
          Sends s u r [.ieOpen] ∧ (u.stream r).interDue = true ∧ (u.stream r).frame = some q) ∧
        ((s.stream r).interDue = true → Completes (.ieClose p t) s fun u =>
          Sends s u r [.ieClose] ∧ (u.stream r).interDue = false ∧ (u.stream r).inter = none ∧ (u.stream r).frame = some q)) ∧
      (∀ fill, l.state.carries = true → 1 ≤ fill → fill ≤ 15 → hubArmed s Src.guardTable = none →
        (let band (u : State) : Prop :=
           (∃ before, (u.stream p.outRing).tx = before ++ hopWords s p ∧ (drives s p.outRing = false → before = [])) ∧ (hopWords s p).length = 8 ∧ (u.link p).tag = l.tag + 1 ∧ (u.link p).echoDue = none ∧
           (u.link p).fill = (if fill < 2 then fill + 1 else if 14 < fill then fill - 1 else fill) ∧
           u.reg (LNK_SLIP p) = (if fill < 2 ∨ 14 < fill then bumpW (s.reg (LNK_SLIP p)) 1 else s.reg (LNK_SLIP p))
         (runsCycle (s.at t) p.outRing = true → Completes (.hopBand p fill true t) s band) ∧
         (runsCycle (s.at t) p.outRing = false → Completes (.hopBandIdle p fill t) s band))) ∧
      (runsCycle (s.at t) p.outRing = true → l.state.carries = true → hubArmed s Src.guardTable = none → s.cue.guard.tblerr = false →
        s.cue.guard.dead = false → Completes (.hopBand p 8 false t) s fun u => u.cue.guard.tblerr = true) ∧
      (s.cue.guard.tblerr = true → s.cue.guard.dead = false → Completes (.guardReload t) s fun u =>
        u.cue.guard.reloaded = true ∧ u.reg GRD_RELOADS = bumpW (s.reg GRD_RELOADS) 1) ∧
      (∀ full, l.state.carries = true → Completes (.ebOverrun p full t) s fun u =>
        PortFell s u p ∧ (u.link p).fill = (if full then 16 else 0) ∧
        (u.reg LNK_EVT).getLsbD (match p with | .west => 10 | .east => 2) = true)))

/-- R44-R48, R51, R53, R60 and R61: the states of a port and what moves it from one to another. -/
def Obligations.LinkStates : Prop :=
  ∀ (p : Port) (t : Nat) (s : State),
    (let l := s.link p
     let en := match p with | .west => 15 | .east => 14
     (s.start.lnkApplied = true → l.state = .down → portEnabled s p = true → l.held = false → l.faultHeld = false → l.sideWait = false →
       vget s.dark.heldPorts p.ix = false → Completes (.trainingEntry p t) s fun u =>
         (u.link p).state = .training ∧ (u.link p).cfg = s.reg (LNK_CFG p) ∧ SameRegs s u []) ∧
     (l.state = .training → (vget l.lanes 0).number ≠ (vget l.lanes 1).number → (∀ i, (vget l.lanes i).far = 2) →
       Completes (.trainingDone p t) s fun u => (u.link p).state = .sync ∧ ∀ i, (vget (u.link p).lanes i).trained = true) ∧
     (l.state = .training → (vget l.lanes 0).number = (vget l.lanes 1).number →
       Completes (.trainingDone p t) s fun u => TrainingFailed s u p 4) ∧
     (l.state = .training → l.trainAt + 4 * msT ≤ max s.now t → Completes (.trainingTimeout p t) s fun u => TrainingFailed s u p 1) ∧
     (∀ skew late, l.state = .sync → skew ≤ 8 → l.far ≠ 0 → 4 ≤ l.lsRun → Completes (.syncDone p skew late t) s fun u =>
       (u.link p).state = .up ∧ (u.link p).skew = skew ∧ (u.link p).skewLate = late ∧
       (u.reg LNK_EVT).getLsbD (match p with | .west => 14 | .east => 6) = true) ∧
     (∀ skew late, l.state = .sync → 8 < skew → Completes (.syncDone p skew late t) s fun u => TrainingFailed s u p 3) ∧
     (l.state = .sync → Completes (.syncTimeout p t) s fun u => TrainingFailed s u p 5) ∧
     (∀ lane loss, isLoss l loss = true → Completes (.lossOfSignal p lane loss t) s fun u =>
       PortDown u p ∧ (vget (u.link p).lanes lane).locked = false) ∧
     (l.state = .up → degraded? (s.at t) p = true → Completes (.degradeEntry p t) s fun u =>
       (u.link p).state = .degraded ∧ (u.reg LNK_EVT).getLsbD (match p with | .west => 13 | .east => 5) = true) ∧
     (l.state = .degraded → degraded? (s.at t) p = false → Completes (.degradedExit p t) s fun u => (u.link p).state = .up) ∧
     (l.state = .degraded → s.bit LNK_CTRL 13 = true → Completes (.degradedRetrain p t) s fun u => PortFell s u p) ∧
     (l.held = true → Completes (.holdOffEnd p t) s fun u => u.link p = { l with held := false, holdEnd := some (max s.now t) }) ∧
     (∀ e0 e1, Completes (.eyeUpdate p e0 e1 t) s fun u =>
       (vget (u.link p).lanes 0).eye = e0 ∧ (vget (u.link p).lanes 1).eye = e1 ∧ (u.link p).state = l.state) ∧
     (∀ lane k up, l.state.carries = true → l.idleSince = none → vget (vget l.lanes lane).stepAt k = none →
       Completes (.eqAdapt p lane k up t) s fun u =>
         vget (vget (u.link p).lanes lane).coef k = (vget (vget l.lanes lane).coef k + if up then 1 else -1) ∧
         ∀ j, j ≠ k → vget (vget (u.link p).lanes lane).coef j = vget (vget l.lanes lane).coef j) ∧
     (portHeld s p = false → portEnabled s p = true →
       (l.state.carries = true → Completes (.retrain p t) s fun u => PortFell s u p) ∧
       (l.state = .training → Completes (.retrain p t) s fun u =>
         (u.link p).state = .training ∧ (u.link p).trainAt = max s.now t ∧
         ∀ i, (vget (u.link p).lanes i).trained = false ∧ (vget (u.link p).lanes i).far = 0)) ∧
     Completes (.clrhold p t) s (fun u => (u.link p).held = false ∧ (u.link p).downs = [] ∧ (u.link p).state = l.state) ∧
     Completes (.lnkPortDisable p t) s (fun u =>
       PortDown u p ∧ (u.reg LNK_CTRL).getLsbD en = false ∧ ∀ i, i ≠ en → (u.reg LNK_CTRL).getLsbD i = (s.reg LNK_CTRL).getLsbD i) ∧
     Completes (.lnkPortEnable p t) s (fun u =>
       (u.link p) = l ∧ (u.reg LNK_CTRL).getLsbD en = true ∧ ∀ i, i ≠ en → (u.reg LNK_CTRL).getLsbD i = (s.reg LNK_CTRL).getLsbD i))

/-! The cue sheet, its guardian and its roles (R62-R107). -/

/-- R65, R66, R71, R82 and R87: markers as a follower takes them in, misses them, and as a generator sends them. -/
def Obligations.Markers : Prop :=
  ∀ (r : Ring) (w1 w2 w3 : Word) (slew transit : Int) (t : Nat) (s : State),
    (let taken (u : State) : Prop :=
       (u.trackOf r).seen = true ∧ (u.trackOf r).cycle = w1 ++ w2 ∧ (u.trackOf r).flags = markerFlags w3 ∧
       (u.trackOf r).at_ = max s.now t ∧ (u.link r.inPort).inUse = true ∧
       (isBehind s r (w1 ++ w2) (markerFlags w3) = false → u.cue.cycle = w1 ++ w2)
     ((s.link r.inPort).state.carries = true → idles s r = false → s.prompting = false →
       (markerOk w1 w2 w3 = true →
         ((s.trackOf r).seen = false → Completes (.markerReceive r w1 w2 w3 slew transit t) s taken) ∧
         (∀ off, (s.trackOf r).seen = true → (markerFlags w3).dom = (s.trackOf r).flags.dom → markerOff (s.at t) r = some off → -2 ≤ off → off ≤ 2 →
           Completes (.markerReceive r w1 w2 w3 slew transit t) s taken)) ∧
       (markerOk w1 w2 w3 = false → (s.trackOf r).seen = false → Completes (.markerReceive r w1 w2 w3 slew transit t) s fun u =>
         u.reg CUE_CM_ERR = bumpW (s.reg CUE_CM_ERR) 1 ∧ u.cue = s.cue ∧ SameRegs s u [CUE_CM_ERR])) ∧
     (∀ e, s.prompting = false → expectedAt s r = some e → e ≤ max s.now t → Completes (.markerWindowClose r t) s fun u =>
       (u.trackOf r).cycle = (s.trackOf r).cycle + 1 ∧ (u.trackOf r).at_ = e ∧ u.reg CUE_CM_MISS = bumpW (s.reg CUE_CM_MISS) 1) ∧
     (∀ c, s.prompting = true → (s.lineOf r).sentCycle + 1 = s.present → inserter s = some c →
       (guardShut s = false → Completes (.markerSend r t) s fun u =>
         Sends s u r (markerWords s.present s.cue.flags) ∧ (u.lineOf r).sentCycle = s.present ∧ (u.lineOf r).sentAt = max s.now t) ∧
       (s.cue.guard.dead = true → Completes (.markerSend r t) s fun u =>
         Sends s u r [] ∧ u.reg GRD_BLOCK_X = bumpW (s.reg GRD_BLOCK_X) 1 ∧ (u.lineOf r).sentCycle = s.present)) ∧
     (∀ c, s.prompting = false → s.cue.prompter.request = none → (s.lineOf r).head = false → inserter s = some c →
       Completes (.markerSend r t) s fun u =>
         u.reg GRD_BLOCK_X = bumpW (s.reg GRD_BLOCK_X) 1 ∧ u.reg GRD_LAST_POS = 0 ∧ (u.stream r) = s.stream r) ∧
     (∀ c, inserter s = some c → guardShut s = false → (s.lineOf r).head = true → (s.lineOf r).started = false → anyMarker s = true →
       s.prompting = false →
       (s.lineOf r).forwardNext = false → (s.lineOf r).handover = none → s.cue.scene.target = none →
       Completes (.lineHeadMarker r t) s fun u =>
         Sends s u r (markerWords ((s.trackOf r).cycle + 1)
           ⟨s.cue.flags.dom, true, s.cue.bank, s.time.hold, s.cue.flags.intm, 0⟩) ∧
         (u.lineOf r).started = true ∧ (u.lineOf r).sentCycle = (s.trackOf r).cycle + 1))

/-- R68, R69, R72, R77, R79 and R82: a cue is inserted where the guardian admits it and counted as blocked where it does not; a copy
that passes its check is kept with the publication it carries, one that fails is counted; a usable copy lands or is late; a relayed copy
leaves when it is due. -/
def Obligations.CuesInsertAndLand : Prop :=
  ∀ (r : Ring) (e : CueEntry) (c : CueSheet) (t : Nat) (s : State),
    (∀ core, s.ringSheet r = some c → inserter s = some core → e.wing = none → 0 < e.len →
      c.entries.find? (fun x => decide (x.ix = e.ix) && x.owned && modeOn x r) = some e → s.cue.guard.open_ = true →
      (let admits (i : Nat) : Bool := guardAdmits s r (posOn e r + i)
       let ws : List RingWord :=
         (cueWords e.len (refCycle s r) e.id ((List.range (e.len - cueCrcLen e.len)).map fun i => s.sendWord (e.addr + i))).map .data
       ((∀ i < e.len, admits i = true) → Completes (.cuePassage r e.ix t) s fun u => Sends s u r ws ∧ SameRegs s u []) ∧
       (∀ k < e.len, (∀ i < k, admits i = true) → (∀ i < e.len, k ≤ i → admits i = false) → Completes (.cuePassage r e.ix t) s fun u =>
         Sends s u r (ws.take k) ∧ u.reg GRD_BLOCK = bumpW (s.reg GRD_BLOCK) 1 ∧ u.reg GRD_LAST_POS = wd (posOn e r + k) ∧
         SameRegs s u [GRD_BLOCK, GRD_LAST_POS, GRD_LAST_INFO]))) ∧
    (∀ ws, s.sheetAt (s.trackOf r).flags.bank = some c → s.darkPath = false → s.prompting = false → e.wing = none → c.entries = [e] →
      e.owned = false → modeOn e r = true →
      (∀ p, copyPayload e.len (publicationOf s c e r + 1) e.id ws = some p → Completes (.cueCopyReceive r (posOn e r) ws t) s fun u =>
        u.cue.arrived = s.cue.arrived ++ [⟨e.ix, r, publicationOf s c e r, p⟩] ∧ SameRegs s u []) ∧
      (copyPayload e.len (publicationOf s c e r + 1) e.id ws = none → ws.all (fun w => decide (w = .idle)) = false →
        Completes (.cueCopyReceive r (posOn e r) ws t) s fun u =>
          u.cue = s.cue ∧ u.reg CUE_CRCERR = bumpW (s.reg CUE_CRCERR) 1 ∧ SameRegs s u [CUE_CRCERR])) ∧
    (∀ a, s.cue.arrived = [a] → a.entry = e.ix → a.ring = r →
      (∀ l, deliveryPassed (s.at t) e.ix a.pub = false → s.cue.landings = [l] → l.entry = e.ix → l.pub = a.pub →
       Completes (.copyUsable r e.ix t) s fun u =>
        u.cue.arrived = [] ∧ u.cue.landings = [match l.data with
          | none => { l with data := some a.payload, ring := r, copies := 1 }
          | some _ => { l with copies := l.copies + 1 }] ∧ SameRegs s u []) ∧
      ((s.cue.landings = [] ∨ deliveryPassed (s.at t) e.ix a.pub = true) → Completes (.copyUsable r e.ix t) s fun u =>
        u.cue.arrived = [] ∧ u.cue.landings = s.cue.landings ∧ u.reg CUE_LATE = bumpW (s.reg CUE_LATE) 1)) ∧
    (∀ m x core, s.ringSheet r = some c → inserter s = some core → guardShut s = false →
      c.relay.find? (fun y => decide (y.ring = r) && decide (y.pos = m.pos)) = some m → s.prompting = true →
      s.cue.sceneCycle = none → s.cue.relays.find? (fun y => decide (y.ring = r) && decide (y.pos = m.pos) &&
        decide (y.due = (s.lineOf r).sentCycle)) = some x → Completes (.relaySend r m.pos t) s fun u => Sends s u r x.words)

/-- R88, R90-R94, R96, R97 and R535: line heads, prompters and wing claims. -/
def Obligations.RolesOnTheRing : Prop :=
  ∀ (r : Ring) (t : Nat) (s : State),
    (MayBroadcast s → (s.lineOf r).head = true → Completes (.lineHeadNoticeSend r t) s fun u =>
      Broadcast s u 1 1 ([bitW (decide (r = .b)) 15 ||| putFld s.fab.node 11 0] ++ cycleW (s.lineOf r).nextCycle ++ [bitW true 15]) ∧
      (u.lineOf r).noticeAt = some s.present) ∧
    (∀ p, s.darkPath = false → bitOf (wAt p 3) 15 = true → Completes (.lineHeadNotice p t) s fun u =>
      (((if bitOf (wAt p 0) 15 then Ring.b else .a), fld (wAt p 0) 11 0) : Ring × Nat) ∈ u.sw.breaks ∧ u.cue.calm = 0) ∧
    (mayListen s = true → s.cue.prompter.listening = false → s.cue.prompter.active = false → ∀ ptp, Completes (.prompterListen ⟨t, ptp⟩) s fun u =>
      u.cue.prompter.listening = true ∧ u.cue.prompter.heard = false ∧ u.fab.node = s.compiled) ∧
    (∀ ptp, s.cue.prompter.listening = true →
      (s.cue.prompter.heard = true → Completes (.prompterBegin ptp t) s fun u =>
        u.cue.prompter.listening = false ∧ u.prompting = s.prompting) ∧
      (s.cue.prompter.heard = false → s.bit TIM_CFG 15 = false → Completes (.prompterBegin ptp t) s fun u =>
        u.prompting = true ∧ u.time.sCycle = 0 ∧ u.ring = 0 ∧ u.cue.cycle = 0 ∧
        ((inserter s).isSome = true → guardShut s = false → ∀ x : Ring, Sends s u x (markerWords 0 ⟨namedB s, false, false, false, false, 0⟩))) ∧
      (s.cue.prompter.heard = false → s.bit TIM_CFG 15 = true → s.host.ptpLock = true → Completes (.prompterBegin ptp t) s fun u =>
        u.prompting = true ∧ u.ring = ptp) ∧
      (s.cue.prompter.heard = false → Completes (.ptpWaitExpire t) s fun u => u.prompting = true)) ∧
    (MayBroadcast s → s.prompting = true → (namedA s = true ∨ namedB s = true) → s.cue.prompter.listening = false →
      Completes (.prompterNoticeSend t) s fun u =>
        Broadcast s u 1 2 ([wd s.fab.node, wd (ownClaim s), bitW true 15] ++ cycleW 0)) ∧
    (∀ p, s.darkPath = false → (namedA s = true ∨ namedB s = true) → fld (wAt p 0) 11 0 ≠ s.fab.node →
      Completes (.prompterNotice p t) s fun u =>
        u.cue.prompter.peer = (wAt p 1).toNat ∧
        u.cue.prompter.request = (if bitOf (wAt p 2) 14 && s.prompting then some (wCycle p 3) else s.cue.prompter.request) ∧
        (bitOf (wAt p 2) 15 = true → s.prompting = true → ownClaim s < (wAt p 1).toNat → u.cue.prompter.yield_ = true)) ∧
    (s.dark.dark = false → namedB s = true → s.prompting = false → s.cue.prompter.listening = false → anyMarker s = true →
      Completes (.takeover t) s fun u => u.prompting = true ∧ u.cue.cycle = s.present + 1 ∧ u.time.dom = true ∧
        (u.reg CUE_EVT).getLsbD 13 = true) ∧
    (s.prompting = true → s.cue.prompter.yield_ = true → Completes (.yield t) s fun u =>
      u.prompting = false ∧ u.cue.prompter.yield_ = false ∧ (u.reg CUE_EVT).getLsbD 12 = true) ∧
    (∀ c x, s.sheet = some c → (wingSlots c).head? = some x → 16 ≤ s.cue.calm → s.cue.guard.open_ = true → mustClose s = false →
      ((s.cue.wing.phase = .none ∨ s.cue.wing.phase = .waiting) → Completes (.wingClaimStart t) s fun u =>
        u.cue.wing.phase = .listening ∧ u.cue.wing.slot = x) ∧
      (s.cue.wing.phase = .backoff → Completes (.wingBackoffEnd t) s fun u =>
        u.cue.wing.phase = .listening ∧ u.cue.wing.slot = x ∧ u.cue.wing.backoff = 0))

/-- R99, R100 and R103: scene changes, their notices and vetoes. -/
def Obligations.SceneChanges : Prop :=
  ∀ (c : DWord) (id t : Nat) (s : State),
    (s.reg CUE_SCN_CYC_H ++ s.reg CUE_SCN_CYC_L = c → s.prompting = true → s.cue.scene.target = none → s.host.intm = .running →
      (64 ≤ diff32 c s.present → Completes (.sceneArm t) s fun u =>
        u.cue.scene.target = some (c, (s.reg CUE_SCN_ID).toNat) ∧ u.cue.scene.armed = true) ∧
      (diff32 c s.present < 64 → Completes (.sceneArm t) s fun u => u.cue.scene.target = none)) ∧
    (s.cue.scene.target = some (c, id) → s.prompting = true →
      (16 < diff32 c s.present → Completes (.sceneCancel t) s fun u => u.cue.scene.target = none ∧ u.cue.scene.armed = false) ∧
      (10 ≤ diff32 c s.present → diff32 c s.present ≤ 16 → Completes (.sceneCancel t) s fun u =>
        u.cue.scene.cancelVeto = true ∧ u.cue.scene.vetoed = true ∧ u.cue.scene.target = some (c, id))) ∧
    (MayBroadcast s → s.cue.scene.target = some (c, id) →
      (s.prompting = true → s.cue.scene.armed = true → 17 ≤ diff32 c s.present → Completes (.sceneNoticeSend t) s fun u =>
        Broadcast s u 1 3 (cycleW c ++ [wd id])) ∧
      (9 ≤ diff32 c s.present → diff32 c s.present ≤ 16 → (s.cue.scene.unconfirmed = true ∨ s.cue.scene.cancelVeto = true) →
        Completes (.vetoSend t) s fun u => Broadcast s u 0 4 (cycleW c ++ [wd id, putFld s.fab.node 11 0]) ∧
          u.cue.scene.vsent = true ∧ u.cue.scene.vetoed = true)) ∧
    (∀ p, s.darkPath = false →
      Completes (.sceneNotice p t) s (fun u => u.cue.scene.target = some (wCycle p 0, (wAt p 2).toNat)) ∧
      (s.cue.scene.target = some (wCycle p 0, (wAt p 2).toNat) → 1 < diff32 (wCycle p 0) s.present →
        Completes (.veto p t) s fun u => u.cue.scene.vetoed = true ∧ u.cue.scene.target = s.cue.scene.target))

/-! Ring time, pulses and edge stamps (R108-R141). -/

/-- R111, R113, R114, R116, R119 and R120: delay reports as sent, received (one with VALID 0 ends the ranging alone) and gone stale, a step
that is due and passes over no instant, and the loop closure.
R122-R124 and R127: time notices as sent (the sender keeps its own too) and received, a stale offset, the end of the settling after a domain switch and the limit
of holdover. -/
def Obligations.DelayStepsAndDomains : Prop :=
  (∀ (r : Ring) (t : Nat) (s : State),
     (let n := match r with | .a => s.fab.east | .b => s.fab.west
      n ≠ 0 → s.fab.node ≠ 0 → portOff s (ringPort r) = false → Completes (.delayReportSend r t) s fun u =>
        u.queue (ringPort r) 1 = s.queue (ringPort r) 1 ++
          [⟨Frame.mk' 1 1 6 (putFld s.ringNo 15 12 ||| putFld n 11 0) s.srcWord 0 (delayReportWords (s.at t) r), 20, u.now, 0, none, 0⟩] ∧
        (u.ringT r).sentAt = some s.present) ∧
     (∀ p, bitOf (wAt p 0) 15 = decide (r = .b) → (s.link r.inPort).state.carries = true →
       (bitOf (wAt p 0) 14 = true → Completes (.delayReport p t) s fun u =>
         ∃ x, (u.ringT r).report = some x ∧ x.valid = true ∧ x.lh = bitOf (wAt p 0) 13 ∧ x.hops = fld (wAt p 0) 11 0 ∧
           x.phi = (wAt p 1).toNat * 65536 + (wAt p 2).toNat ∧ x.x = ((wAt p 3 ++ wAt p 4 : DWord)).toInt ∧ x.n = fld (wAt p 5) 6 0) ∧
       (bitOf (wAt p 0) 14 = false → Completes (.delayReport p t) s fun u =>
         (u.ringT r).report = (s.ringT r).report.map fun x => { x with valid := false, cycle := s.present })) ∧
     (∀ x, (s.ringT r).report = some x → Completes (.delayReportStale r t) s fun u =>
       (u.ringT r).report = some { x with valid := false }) ∧
     (∀ d, s.time.stepDue = some d → (d ≤ 0 ∨ s.time.sValid = false ∨ s.runSheet = none) → Completes (.timekeeperStep t) s fun u =>
       u.time.ofs = s.time.ofs + d ∧ u.time.stepDue = none ∧ u.time.fofs = s.time.fofs ∧
       u.reg TIM_STEPS = bumpW (s.reg TIM_STEPS) 1 ∧ (u.reg TIM_EVT).getLsbD 11 = true) ∧
     (s.prompting = true → (s.ringT r).report.isSome = true → (s.ringT r).loop ≠ 0 → Completes (.loopClosure r t) s fun u =>
       (u.ringT r).closure = (s.ringT r).loop + (s.ringT r).nominal - markerDelay s r)) ∧
  (∀ (t : Nat) (s : State),
     (∀ rate ptp, MayBroadcast s → (namedA s = true ∨ namedB s = true) → s.time.ownZero.isSome = true →
       Completes (.timeNoticeSend rate ⟨t, ptp⟩) s fun u =>
         Broadcast s u 1 5 (timeNoticeWords (s.at t) rate) ∧ u.time.noticeAt = some s.present ∧ u.time.ownZero = s.time.ownZero ∧
         (∃ x, (if ownDom s then u.time.noteB else u.time.noteA) = some x ∧ x.cycle = s.time.sCycle) ∧
         (if ownDom s then u.time.noteA = s.time.noteA else u.time.noteB = s.time.noteB)) ∧
     (∀ p, s.darkPath = false → Completes (.timeNotice p t) s fun u =>
       ∃ x, (if bitOf (wAt p 0) 14 then u.time.noteB else u.time.noteA) = some x ∧ x.cycle = wCycle p 1 ∧
         x.rate = ((wAt p 8 ++ wAt p 9 : DWord)).toInt ∧ x.ptp = bitOf (wAt p 0) 13 ∧ x.hold = bitOf (wAt p 0) 12 ∧
         (if bitOf (wAt p 0) 14 then u.time.noteA = s.time.noteA else u.time.noteB = s.time.noteB)) ∧
     (s.time.ofsValid = true → Completes (.offsetStale t) s fun u =>
       u.time.ofsValid = false ∧ (u.reg TIM_EVT).getLsbD 7 = true ∧ u.time.ofs = s.time.ofs) ∧
     Completes (.domainSettleEnd t) s (fun u => u.time.settle = 0 ∧ u.time.ofs = s.time.ofs ∧ u.time.dom = s.time.dom ∧ SameRegs s u []) ∧
     (s.time.hold = true → s.time.gap = false → Completes (.holdoverLimit t) s fun u =>
       u.time.gap = true ∧ u.time.hold = true ∧ (u.reg TIM_EVT).getLsbD 13 = true))

/-- R105, R135-R137: reads that latch for their path what belongs together, and the pop of an edge stamp. -/
def Obligations.LatchingReads : Prop :=
  ∀ (path : Path) (n : Fin 12) (t : Nat) (s : State), s.lockedOut path = false →
    (let at_ (u : State) (a : Nat) : Word := u.regSel a path.code
     (let now := (s.at t).ring
      Completes (.timSecHRead path t) s fun u =>
        at_ u TIM_SEC_M = wd (secOf now / 65536) ∧ at_ u TIM_SEC_L = wd (secOf now) ∧ at_ u TIM_NS_H = wd (nsOf now / 65536) ∧
        at_ u TIM_NS_L = wd (nsOf now) ∧ at_ u TIM_FRAC = wd (fracOf now) ∧
        SameRegs s u [TIM_SEC_M, TIM_SEC_L, TIM_NS_H, TIM_NS_L, TIM_FRAC]) ∧
     (let o := (s.at t).domOfs
      Completes (.timOfsSecHRead path t) s fun u =>
        at_ u TIM_OFS_NS_H = wd (nsOf o / 65536) ∧ at_ u TIM_OFS_NS_L = wd (nsOf o) ∧
        at_ u TIM_OFS_SEC_L = (BitVec.ofInt 16 (o / secT)) ∧ u.time.ofsBA = s.time.ofsBA) ∧
     (viewBlank s path = false → Completes (.cueCycHRead path 0 t) s (fun u => at_ u CUE_CYC_L = wd s.cue.cycle.toNat ∧ SameRegs s u [CUE_CYC_L]) ∧
      ∀ c, s.sheet = some c →
        Completes (.cueCycHRead path 1 t) s (fun u => at_ u CUE_T_SMP_L = wd c.tSmp ∧ SameRegs s u [CUE_T_SMP_L]) ∧
        Completes (.cueCycHRead path 2 t) s (fun u => at_ u CUE_T_LAT_L = wd c.tLat ∧ SameRegs s u [CUE_T_LAT_L]) ∧
        Completes (.cueCycHRead path 3 t) s (fun u => at_ u CUE_T_FLP_L = wd c.tFlp ∧ SameRegs s u [CUE_T_FLP_L])) ∧
     (∀ e rest, (s.fifo n).entries = e :: rest → quiet s path = false → Completes (.esPop path n t) s fun u =>
       (u.fifo n).entries = rest ∧ (∀ m, m ≠ n → u.fifo m = s.fifo m) ∧
       at_ u (PLS_ES_W1 n.val) = wd (secOf e.time) ∧ at_ u (PLS_ES_W2 n.val) = wd (nsOf e.time / 65536) ∧
       at_ u (PLS_ES_W3 n.val) = wd (nsOf e.time)) ∧
     ((s.fifo n).entries = [] → Completes (.esPop path n t) s fun u =>
       u.fifo n = s.fifo n ∧ at_ u (PLS_ES_W1 n.val) = 0 ∧ at_ u (PLS_ES_W2 n.val) = 0 ∧ at_ u (PLS_ES_W3 n.val) = 0))

/-- R130-R133 and R246: arming, refusing, stopping and producing cue pulses. -/
def Obligations.CuePulses : Prop :=
  ∀ (path : Path) (k : Fin 24) (t : Nat) (s : State),
    (let x := vget s.pulses k
     let q := pathReq s path.code (s.regSel PLS_PU_CTRL path.code &&& 0x380F)
     (unitOwner s k = none → armRefused s k q = false → (s.at t).fring + 200 * nsT ≤ (s.at t).toFieldDomain (bitOf q.ctrl 11) (ringOf q.sec q.ns) →
       Completes (.puArm path k t) s fun u =>
         (vget u.pulses k).prog = some ⟨(s.at t).toFieldDomain (bitOf q.ctrl 11) (ringOf q.sec q.ns), q.width, q.period, q.count,
           bitOf q.ctrl 13, bitOf q.ctrl 12, fld q.ctrl 3 0, 0⟩ ∧
         (vget u.pulses k).late = false ∧ (vget u.pulses k).refused = false ∧ (vget u.pulses k).active = x.active ∧
         ∀ j, j ≠ k → vget u.pulses j = vget s.pulses j) ∧
     ((unitOwner s k).isSome = true ∨ armRefused s k q = true → Completes (.puArm path k t) s fun u =>
       vget u.pulses k = { x with refused := true } ∧ SameRegs s u []) ∧
     (unitOwner s k = none → Completes (.puStop k t) s fun u => vget u.pulses k = { x with prog := none } ∧ SameRegs s u []) ∧
     (∀ p, x.prog = some p → x.active = none → pulseDue p = true → Completes (.pulseLeadingEdge k t) s fun u =>
       vget u.pulses k = { x with active := some (p.pin, p.low), prog := some { p with done := p.done + 1 } }) ∧
     (∀ a, x.active = some a → Completes (.pulseTrailingEdge k t) s fun u =>
       (vget u.pulses k).active = none ∧
       (vget u.pulses k).prog = (match x.prog with | some p => if pulseDue p then some p else none | none => none)))

/-! The event streams and the switch (R142-R171). -/

/-- R144, R145, R148 and R150: a frame whose header reaches a node is delivered and stripped where the node is its one destination and
has room, refused with REF where it has none, and passes as it is where the node is no destination. -/
def Obligations.FramesPassAndDeliver : Prop :=
  ∀ (r : Ring) (f : Frame) (t : Nat) (s : State), (s.link r.inPort).state.carries = true → (s.stream r).open_ = true →
    (s.stream r).frame = none → (s.stream r).inter = none → s.darkPath = false → s.prompting = false → f.crcOk = true → f.payload.length = f.len →
    badHeader f = false → isOwn s r f = false →
    (let passes (u : State) (g : Frame) (strip : Bool) : Prop := (u.stream r).frame = some (passingOf f g strip)
     (isDest s f = false → Completes (.frameHeader r f false t) s fun u => passes u f false ∧ u.sw = s.sw ∧ SameRegs s u []) ∧
     (isDest s f = true → isRepeat s r f = false →
       (canTake s r f = false → Completes (.frameHeader r f false t) s fun u =>
         passes u (f.setRef true) false ∧ u.sw = s.sw ∧ u.reg SWQ_REFSET = bumpW (s.reg SWQ_REFSET) 1 ∧ SameRegs s u [SWQ_REFSET]) ∧
       (∀ p, canTake s r f = true → deliverPort s f = some p → hubArmed s Src.frameCrc = none → s.reg SWQ_SMP_N = 0 → portOff s p = false →
         (f.cls = 0 → f.payload.length ≤ 32) → Completes (.frameHeader r f false t) s fun u =>
           passes u f (stripsHere s f) ∧
           u.queue p f.cls = s.queue p f.cls ++ [⟨(f.setRef false).setPass false, (ringPort r).val, max s.now t, 0, none, 0⟩])))

/-- R142, R153, R154 and R156: the first frame of the class to be served is set to leave at a frame boundary of the event region within the
allowance, and an URGENT one is interjected into a passing frame of a lower class. -/
def Obligations.FramesInsert : Prop :=
  ∀ (r : Ring) (e : QEntry) (rest : List QEntry) (cls t : Nat) (core : Core) (s : State), inserter s = some core →
    (s.queue (ringPort r) cls) = e :: rest → e.frame.cls = cls → portOff s (ringPort r) = false →
    (∀ c : Fin 4, ∀ x ∈ (s.queue (ringPort r) c.val).take 1, aged (s.at t) x = false) →
    s.reg SWQ_SMP_N = 0 → s.fab.node ≠ 0 → guardShut s = false → drives s r = false → (s.stream r).open_ = true →
    (s.stream r).ended = false → (s.stream r).store = [] → (s.stream r).sending = [] → hubArmed s Src.switchEccCorrected = none → hubArmed s Src.switchEccFatal = none →
    (let x := s.stream r
     let ws := (e.frame.setRing (decide (r = .b))).words.map RingWord.data
     (serveClass s (ringPort r) = some cls → x.inside = none → x.frame = none → x.buffer = [] → mayStart s r cls e.frame.size = true →
       Completes (.frameInsert r false false t) s fun u =>
         (u.stream r).sending = [⟨e, ws⟩] ∧ (e.origin = none → u.queue (ringPort r) cls = rest) ∧
         (x.used + e.frame.size ≤ allowance s r → (u.stream r).used = x.used + e.frame.size)) ∧
     (cls = 0 → x.inside ≠ some 0 → x.buffer.length + 40 ≤ 1024 →
       (x.inside.isSome = true → mayStart s r 0 (ws.length + 2) = true → Completes (.interject r false false t) s fun u =>
         (u.stream r).sending = [⟨e, [RingWord.ieOpen] ++ ws ++ [RingWord.ieClose]⟩] ∧ (e.origin = none → u.queue (ringPort r) 0 = rest)) ∧
       (x.inside = none → mayStart s r 0 ws.length = true → Completes (.interject r false false t) s fun u =>
         (u.stream r).sending = [⟨e, ws⟩])))

/-- R160-R168, R214 and R402: frames enter the switch or hold their input back, leave for their unit, age and are re-pinned; a port that
goes down is emptied; a unit without its counterpart is a mismatch. -/
def Obligations.SwitchMoves : Prop :=
  ∀ (t : Nat) (s : State),
    (∀ (i p : Fin 20) (ep : Fin 32) (f : Frame), pressed s i = false → portOff s i = false → f.crcOk = true →
      (∀ q, 2 ≤ i.val → lacking s i ep.val f = some q → Completes (.switchInput i ep f t) s fun u =>
        vget u.sw.bp i = some (4 * q.val + f.cls % 4) ∧ u.sw.queues = s.sw.queues ∧ SameRegs s u []) ∧
      (lacking s i ep.val f = none → s.reg SWQ_SMP_N = 0 → forSelf s f = true → deliverPort s f = some p → portOff s p = false →
        (f.cls = 0 → f.payload.length ≤ 32) → Completes (.switchInput i ep f t) s fun u =>
          u.queue p f.cls = s.queue p f.cls ++ [⟨f, i.val, max s.now t, 0, none, 0⟩] ∧ u.sw.bp = s.sw.bp)) ∧
    (∀ (i : Fin 20) (k : Fin 80), vget s.sw.bp i = some k.val → inputUse s i.val < quota s i.val → 0 < freeCells s →
      cellsOf (vget s.sw.queues k) < fld (s.regSel SWQ_QLIM k.val) 13 0 → i.val ≠ 6 → Completes (.inputResume i t) s fun u =>
        vget u.sw.bp i = none ∧ u.sw.queues = s.sw.queues) ∧
    (∀ e rest cls, serveClass s 6 = some cls → s.queue 6 cls = e :: rest → e.frame.type = 0 → e.origin = none →
      frameOp e.frame = .rsp ∨ (dupFind s ⟨e.frame.sring, e.frame.snode, e.frame.sub % 32⟩ e.frame.tag (txnFields e.frame.payload).seq = none ∧
        s.brg.dups.length < 512) →
      (∀ c : Fin 4, ∀ x ∈ (s.queue 6 c.val).take 1, aged (s.at t) x = false) →
      s.reg SWQ_SMP_N = 0 → unitReady s 6 e.frame = true → hubArmed s Src.switchEccCorrected = none →
      hubArmed s Src.switchEccFatal = none → portOff s 6 = false → Completes (.switchOutput 6 false false none t) s fun u =>
        u.queue 6 cls = rest ∧ u.brg.waiting = s.brg.waiting ++ [waitingOf e.frame]) ∧
    (∀ x rest, s.sw.compares = x :: rest → Completes (.compareTimeout t) s fun u =>
      u.sw.compares = rest ∧ u.reg (mismReg x.stage) = bumpW (s.reg (mismReg x.stage)) 1 ∧ (u.reg LU_EVT).getLsbD luMISM = true) ∧
    ((∀ k, ∀ e ∈ vget s.sw.queues k, e.origin = none) → Completes (.ageSweep t) s fun u =>
      ∀ p, ∀ c < 4, u.queue p c = (s.queue p c).filter fun e => !aged (s.at t) e) ∧
    (∀ r, (∀ i, (vget s.brg.eps i).recent = []) → Completes (.repin r t) s fun u =>
      ∀ f ∈ s.sw.flows, f.ring = r → (let d := (ringTarget s f.dest).getD 0
        reaches s r d = false → reaches s r.other d = true →
          { f with ring := r.other, repinned := true, endCycle := none } ∈ u.sw.flows ∧ (u.reg SWQ_EVT).getLsbD 13 = true)) ∧
    Completes (.repinReturn t) s (fun u => u.sw.flows = s.sw.flows.filter (fun f => !mayReturn s f) ∧ u.sw.queues = s.sw.queues) ∧
    ((∀ c : Fin 4, ∀ e ∈ s.queue 5 c.val, e.origin = none) → s.brg.opens = [] → Completes (.portDown 5 t) s fun u =>
      vget u.sw.down 5 = true ∧ (∀ c, u.queue 5 c = []) ∧ (u.reg SWQ_EVT).getLsbD 15 = true)

/-! Discovery, casting, fetching and routing (R174-R200). -/

/-- R180-R184, R187-R190: a roll call starts, its pages pass and come back, and cast notices give the nodes their numbers. -/
def Obligations.RollCallsAndCasting : Prop :=
  ∀ (r : Ring) (t : Nat) (s : State),
    (s.prompting = true → s.fab.rolling = false →
      Completes (.rcStart t) s (fun u =>
        u.fab.rolling = true ∧ u.fab.rollNum = s.fab.rollNum + 1 ∧ u.fab.seen = [] ∧ (u.roll r).page = 0 ∧ (u.roll r).ended = false ∧
        (MayBroadcast s → u.queue (ringPort r) 1 = s.queue (ringPort r) 1 ++
          [⟨Frame.mk' 1 1 0x10 (putFld s.ringNo 15 12 ||| wd 4095) s.srcWord 0
            ([s.fab.rollNum + 1, bitW (decide (r = .b)) 15 ||| putFld 0 5 0, 0, 0] ++ List.replicate 504 0), 20, u.now, 0, none, 0⟩])) ∧
      (rollIsDue (s.at t) = true → Completes (.rollCallDue t) s fun u =>
        u.fab.rolling = true ∧ u.fab.rollNum = s.fab.rollNum + 1 ∧ u.fab.rollDue = s.fab.rollDue.eraseP (reached s.present))) ∧
    (∀ f : Frame, s.prompting = false → s.darkPath = false → (s.link r.inPort).state.carries = true → f.type = 1 → f.sub = 0x10 →
      bitOf (wAt f.payload 1) 14 = false → f.payload.length = 508 → (s.lineOf r).endOfLine = false → (s.stream r).open_ = true →
      Completes (.rollPage r f t) s fun u =>
        (let h := fld (wAt f.payload 2) 11 0 + 1
         (match r with | .a => u.fab.hA | .b => u.fab.hB) = h ∧ u.fab.rollNum = wAt f.payload 0 ∧
         ∃ p, (u.stream r).frame = some p ∧ p.left = 6 + f.len ∧ p.strip = false ∧ p.subst[6]? = some (some (.data (putFld h 11 0))))) ∧
    (∀ p, (bitOf (wAt p 1) 15 != bitOf (wAt p 1) 14) = decide (r = .b) → s.prompting = true → s.fab.rolling = true → (s.roll r).ended = false →
      wAt p 0 = s.fab.rollNum → fld (wAt p 1) 5 0 = (s.roll r).page →
      (fld (wAt p 3) 5 0 = 63 → (s.roll r).page < 63 → Completes (.pageReturn p true t) s fun u =>
        (u.roll r).page = (s.roll r).page + 1 ∧ (u.roll r).last = (s.roll r).page ∧ u.fab.rolling = true) ∧
      (fld (wAt p 3) 5 0 < 63 → (s.roll r.other).ended = false → Completes (.pageReturn p true t) s fun u =>
        (u.roll r).ended = true ∧ (u.roll r).last = (s.roll r).page ∧ u.fab.rolling = true)) ∧
    (s.prompting = true → s.fab.rolling = true → (s.roll r).ended = false →
      ((s.roll r).resent = false → Completes (.pageTimeout r t) s fun u =>
        (u.roll r).resent = true ∧ (u.roll r).sentAt = s.present ∧ u.fab.rolling = true) ∧
      ((s.roll r).resent = true → Completes (.pageTimeout r t) s fun u =>
        u.fab.rolling = false ∧ (u.reg FAB_EVT).getLsbD fabPARTIAL = true ∧ (u.reg FAB_EVT).getLsbD fabRCDONE = true)) ∧
    (∀ o rest, s.prompting = true → MayBroadcast s → s.fab.castQueue = o :: rest → s.bit FAB_FETCH_CTRL 15 = false →
      s.bit FAB_FETCH_CTRL 14 = false → Completes (.castNoticeSend t) s fun u =>
        Broadcast s u 1 0x11 (castWords (s.at t) o rest.isEmpty) ∧ u.fab.castQueue = rest) ∧
    (∀ p, s.darkPath = false → p.take 4 = ownUid → fld (wAt p 4) 11 0 ≠ 0 → bitOf (wAt p 9) 12 = false →
      Completes (.castNotice p t) s fun u =>
        u.fab.adopt = some (fld (wAt p 4) 11 0, bitOf (wAt p 9) 14, bitOf (wAt p 9) 13) ∧ u.fab.hA = fld (wAt p 5) 11 0 ∧
        u.fab.hB = fld (wAt p 6) 11 0 ∧ u.fab.loop = fld (wAt p 7) 11 0 ∧
        (⟨fld (wAt p 4) 11 0, fld (wAt p 5) 11 0, fld (wAt p 6) 11 0, true⟩ : Dest) ∈ u.fab.dests) ∧
    (∀ n drop anchor, s.fab.adopt = some (n, drop, anchor) → n ≠ s.fab.node → s.cmp.inpub = none → Completes (.numberAdopt t) s fun u =>
      u.fab.node = n ∧ u.fab.adopt = none ∧ u.fab.cast = decide (n ≠ 0) ∧ u.reg FAB_NUMCHG = bumpW (s.reg FAB_NUMCHG) 1 ∧
      (u.reg FAB_EVT).getLsbD fabNUMCHG = true)

/-- R192-R196 and R198: a node that needs its stagebook asks its neighbours and the prompter in turn, serves what others ask, and keeps
its exits by route notices. -/
def Obligations.FetchingAndRouting : Prop :=
  ∀ (t : Nat) (s : State),
    (let asks (u : State) (src : Nat) : Prop := u.fab.fetch.src = src ∧ u.fab.fetch.state = 1 ∧ u.fab.fetch.words = [] ∧ u.fab.fetch.offset = 0
     (fetchWanted s = true → s.fab.fetch.state = 0 → Completes (.fetchStart t) s fun u => asks u 1 ∧ u.fab.fetch.node = s.fab.node) ∧
     (s.fab.node ≠ 0 → Completes (.fetchRestart t) s fun u => asks u 1 ∧ u.fab.fetch.node = s.fab.node) ∧
     (s.fab.node = 0 → Completes (.fetchRestart t) s fun u => u.fab.fetch = .init) ∧
     (s.fab.fetch.state = 1 ∨ s.fab.fetch.state = 2 → s.fab.fetch.keep = none →
       (s.fab.fetch.src < 3 → Completes (.fetchTimeout t) s fun u => asks u (s.fab.fetch.src + 1) ∧ u.fab.fetch.node = s.fab.fetch.node) ∧
       (3 ≤ s.fab.fetch.src → Completes (.fetchTimeout t) s fun u =>
         u.fab.fetch.state = 3 ∧ u.fab.fetch.rounds = satAdd 15 s.fab.fetch.rounds 1 ∧ (u.reg FAB_EVT).getLsbD fabFETCHFAIL = true) ∧
       (∀ source status total c, s.darkPath = false → source.val = fetchSource s → status ≠ 0 → s.fab.fetch.src < 3 →
         Completes (.fetchEnd source status total c t) s fun u => asks u (s.fab.fetch.src + 1)) ∧
       (∀ source p, s.darkPath = false → source.val = fetchSource s → ofWords (p.take 2) = s.fab.fetch.offset →
         Completes (.fetchData source p t) s fun u =>
           u.fab.fetch.words = s.fab.fetch.words ++ p.drop 2 ∧ u.fab.fetch.state = 2 ∧
           u.fab.fetch.frames = satAdd 255 s.fab.fetch.frames 1 ∧ u.fab.fetch.offset = s.fab.fetch.offset + (p.length - 2))) ∧
     (s.fab.fetch.state = 3 → Completes (.fetchRoundWait t) s fun u => asks u 1 ∧ u.fab.fetch.rounds = s.fab.fetch.rounds) ∧
     (∀ (n : Fin 4096) p, s.darkPath = false → n.val < 4000 → s.ringNo < 16 → s.fab.node ≠ 0 → portOff s 0 = false → portOff s 1 = false →
       (let into := putFld s.ringNo 15 12 ||| putFld n.val 11 0
        let noLibrary : Bool := decide (s.reg HST_LIB_IP_H = 0) && decide (s.reg HST_LIB_IP_L = 0)
        (∀ ws, heldStagebook s (fld (wAt p 0) 11 0) = some ws → Completes (.fetchRequest n p t) s fun u =>
          (∃ r es, u.queue (ringPort r) 3 = s.queue (ringPort r) 3 ++ es ∧ (es.flatMap fun x => x.frame.payload.drop 2) = ws ∧
            ∀ x ∈ es, x.frame = Frame.mk' 3 1 0x13 into s.srcWord 0 x.frame.payload ∧ x.frame.payload.length ≤ 512) ∧
          ∃ r e, u.queue (ringPort r) 1 = s.queue (ringPort r) 1 ++ [e] ∧
            e.frame = Frame.mk' 1 1 0x14 into s.srcWord 0 ([0] ++ toWords 2 ws.length)) ∧
        (heldStagebook s (fld (wAt p 0) 11 0) = none → s.prompting = true → noLibrary = false → Completes (.fetchRequest n p t) s fun u =>
          u.host.library = s.host.library ++ [(n.val, fld (wAt p 0) 11 0)]) ∧
        (heldStagebook s (fld (wAt p 0) 11 0) = none → s.prompting = false ∨ noLibrary = true → Completes (.fetchRequest n p t) s fun u =>
          ∃ r e, u.queue (ringPort r) 1 = s.queue (ringPort r) 1 ++ [e] ∧ e.frame = Frame.mk' 1 1 0x14 into s.srcWord 0 [1])))) ∧
    (MayBroadcast s → isJoint s = true → Completes (.routeNoticeSend t) s fun u =>
      Broadcast s u 1 0x15 [putFld s.fab.node 11 0, advertised s] ∧ u.fab.sentRoute = some (advertised s, s.present)) ∧
    (∀ p, Completes (.routeNotice p true t) s (fun u => u.fab.peerRings = some (wAt p 1, s.present) ∧ u.fab.notices = s.fab.notices) ∧
      (s.darkPath = false → Completes (.routeNotice p false t) s fun u =>
        (fld (wAt p 0) 11 0, wAt p 1, s.present) ∈ u.fab.notices ∧ ∀ i, vget u.fab.use i = exitUse u i.val)) ∧
    Completes (.routeExpire t) s (fun u => u.fab.notices = s.fab.notices ∧ ∀ i, vget u.fab.use i = exitUse s i.val)

/-! Transactions and signals (R201-R231). -/

/-- R205, R207, R215, R220, R223-R226, R229 and R231: how a target performs each request, with the response its duplicate filter keeps and
the frame that carries it. The words of an access are taken here in the publish area; register accesses have statements of their own.
R215: a repeat of a request that has been served is counted and answered from the duplicate filter; it changes no memory and nothing
of the bridge. -/
def Obligations.RequestsServed : Prop :=
  (∀ (q : Request) (t : Nat) (s : State),
     (let w := (q.addr - 0x400000) / 2
      let inPublish := localPlace q.addr = .publish
      let stored (u : State) : Prop := (∀ i ≤ q.len, u.fillWord (w + i) = wAt q.data i) ∧
        ∀ a, (a < pubBase s.cue.fill + 2 * w ∨ pubBase s.cue.fill + 2 * (w + q.len + 1) ≤ a) → u.byte a = s.byte a
      let read : List Word := (List.range (q.len + 1)).map fun i => s.fillWord (w + i)
      let allows : Prop := ∀ i ≤ q.len, pubRefuses s (w + i) = false ∧ isHealth s (w + i) = false
      (TakesRequest s .rd q t → inPublish → Completes (.rd q t) s fun u =>
        Served s u .rd q stOK read ∧ SameMemory s u ∧ u.brg.lock = none ∧
        (s.fab.node ≠ 0 → RingsUp s → q.cls < 4 → q.src.ring = s.ringNo → q.src.node < 4000 → s.ringNo < 16 → ResponseQueued s u q stOK read)) ∧
      (TakesRequest s .wr q t → inPublish → allows → Completes (.wr q t) s fun u => Served s u .wr q stOK [] ∧ stored u) ∧
      (TakesRequest s .pwr q t → inPublish → allows → Completes (.pwr q t) s fun u => Served s u .pwr q stOK [] ∧ stored u ∧ u.sw = s.sw) ∧
      (TakesRequest s .gwr q t → inPublish → allows → Completes (.gwr q t) s fun u => Served s u .gwr q stOK [] ∧ stored u) ∧
      (TakesRequest s .lrd q t → inPublish → lockMode s = false → Completes (.lrd q t) s fun u =>
        Served s u .lrd q stOK read ∧ u.brg.lock = some ⟨q.src, q.addr, q.len, max s.now t⟩ ∧ SameMemory s u) ∧
      (∀ since, TakesRequest s .lwr q t → inPublish → lockMode s = false → allows → s.brg.lock = some ⟨q.src, q.addr, q.len, since⟩ →
        max s.now t < since + 50 * usT → s.brg.blocked = [] → Completes (.lwr q t) s fun u => Served s u .lwr q stOK [] ∧ stored u ∧ u.brg.lock = none) ∧
      (TakesRequest s .lrd q t → lockMode s = true → Completes (.lrd q t) s fun u =>
        Served s u .lrd q stLOCK_MODE [] ∧ u.brg.lock = none ∧ SameMemory s u)) ∧
     (∀ k : Fin 16, k.val = q.cell → TakesRequest s .semacq q t →
       (let cell := vget s.brg.cells k
        (cell.owner = none → Completes (.semacq q t) s fun u =>
          Served s u .semacq q stOK [0] ∧ vget u.brg.cells k = ⟨some q.src, max s.now t⟩ ∧ ∀ j, j ≠ k → vget u.brg.cells j = vget s.brg.cells j) ∧
        (cell.owner = some q.src → Completes (.semacq q t) s fun u => Served s u .semacq q stOK [1] ∧ u.brg.cells = s.brg.cells) ∧
        (∀ o, cell.owner = some o → o ≠ q.src → Completes (.semacq q t) s fun u =>
          Served s u .semacq q stSEM_BUSY [] ∧ u.brg.cells = s.brg.cells))) ∧
     (∀ k : Fin 16, k.val = q.cell → TakesRequest s .semrel q t →
       (let cell := vget s.brg.cells k
        (cell.owner = some q.src → Completes (.semrel q t) s fun u =>
          Served s u .semrel q stOK [] ∧ vget u.brg.cells k = ⟨none, 0⟩ ∧ ∀ j, j ≠ k → vget u.brg.cells j = vget s.brg.cells j) ∧
        (cell.owner = none → Completes (.semrel q t) s fun u => Served s u .semrel q stLOCK_TIMEOUT [] ∧ u.brg.cells = s.brg.cells) ∧
        (∀ o, cell.owner = some o → o ≠ q.src → Completes (.semrel q t) s fun u =>
          Served s u .semrel q stNOT_OWNER [] ∧ u.brg.cells = s.brg.cells))) ∧
     (TakesRequest s .stg q t →
       (stgStatus (s.at t) q = stOK → Completes (.stg q t) s fun u =>
         Served s u .stg q stOK [] ∧ u.brg.staged = s.brg.staged ++ [⟨q.src, q.set, q.cycle, q.addr, reqData q, false⟩] ∧ SameMemory s u) ∧
       (∀ st, stgStatus (s.at t) q = st → st ≠ stOK → Completes (.stg q t) s fun u =>
         Served s u .stg q st [] ∧ u.brg.staged = s.brg.staged)) ∧
     (let ours (x : Staged) : Bool := decide (x.src = q.src) && decide (x.set = q.set) && decide (x.cycle = q.cycle)
      (TakesRequest s .commit q t →
        (latchPassed (s.at t) q.cycle = false → Completes (.commit q t) s fun u =>
          u.brg.staged = s.brg.staged.map fun x => if ours x then { x with committed := true } else x) ∧
        (latchPassed (s.at t) q.cycle = true → Completes (.commit q t) s fun u => u.brg.staged = s.brg.staged)) ∧
      (TakesRequest s .abort q t → Completes (.abort q t) s fun u => u.brg.staged = s.brg.staged.filter fun x => !ours x)) ∧
     (TakesRequest s .sig q t →
       (s.brg.inbox.length < 32 → Completes (.sig q t) s fun u =>
         u.brg.inbox = s.brg.inbox ++ [⟨q.src, q.set, wAt q.data 0, wAt q.data 1⟩] ∧ Served s u .sig q stOK []) ∧
       (32 ≤ s.brg.inbox.length → Completes (.sig q t) s fun u => u.brg.inbox = s.brg.inbox ∧ u.brg.waiting = [⟨.sig, q⟩])) ∧
     (TakesRequest s .cancel q t → q.set ≠ q.seq →
       (∀ d ∈ s.brg.dups, isKey q.src q.tag q.set d = true → (∀ d' ∈ s.brg.dups, isKey q.src q.tag q.set d' = true → d' = d) → d.done = false →
         Completes (.cancel q t) s fun u => ∃ d' ∈ u.brg.dups, d' = { d with cancelled := true }) ∧
       (dupFind s q.src q.tag q.set = none → s.brg.dups.length < 511 → Completes (.cancel q t) s fun u =>
         ⟨q.src, q.tag, q.set, none, true, true, .reserved⟩ ∈ u.brg.dups))) ∧
  (∀ (q : Request) (d : DupEntry) (r : Response) (t : Nat) (s : State), s.darkPath = false → ownIssuer s q.src = false → s.brg.waiting = [] →
     s.brg.lock = none → CellsTimely s t → dupFind s q.src q.tag q.seq = some d → d.response = some r → d.done = true →
     (∀ c ∈ [Instr.rd q t, .wr q t, .gwr q t, .lrd q t, .lwr q t, .semacq q t, .semrel q t, .stg q t], Completes c s fun u =>
       u.reg BRG_DUPS = bumpW (s.reg BRG_DUPS) 1 ∧ SameMemory s u ∧ { u.brg with fwdSeen := s.brg.fwdSeen } = s.brg ∧
       (s.fab.node ≠ 0 → RingsUp s → q.cls < 4 → q.src.ring = s.ringNo → q.src.node < 4000 → s.ringNo < 16 →
         ResponseQueued s u q r.status r.data)))

/-- R202-R206, R208, R227, R230, R176 and R250: a descriptor that may go is issued under the next sequence number and the lowest free tag, one
that must wait is held, one that is not allowed draws its status; RANGE goes to each of its nodes; COMMIT marks its set for closing. -/
def Obligations.RequestsIssued : Prop :=
  ∀ (d : Descriptor) (i : Fin 32) (t : Nat) (s : State), i.val = d.ep → d.ep ≠ 5 →
    (let e := vget s.brg.eps i
     let free (d : Descriptor) : Prop := e.held = [] ∧ mustHold (s.at t) i d = false ∧ sigMustWait s i d = false
     let opened (u : State) (d : Descriptor) (tag : Nat) : Prop :=
       u.brg.opens = s.brg.opens ++ [⟨d, tag, e.seq.toNat, 0, expectedOf s d, [], .plain⟩]
     (judge s d = none → free d → d.op.posted = false → d.op ≠ .gwr → d.op ≠ .range → ∀ tag, freeTag s d.ep = some tag → RingsUp s →
       d.dring = s.ringNo → d.dnode < 4000 → s.ringNo < 16 → d.dnode ≠ s.fab.node → Completes (.requestIssue d t) s fun u =>
         opened u d tag ∧ (vget u.brg.eps i).seq = e.seq + 1 ∧ RequestQueued s u d d.dnode tag e.seq.toNat) ∧
     (judge s d = none → free d → d.op = .pwr ∨ d.op = .cancel → RingsUp s → d.dring = s.ringNo → d.dnode < 4000 → s.ringNo < 16 →
       d.dnode ≠ s.fab.node → Completes (.requestIssue d t) s fun u =>
         u.brg.opens = s.brg.opens ∧ (vget u.brg.eps i).seq = e.seq + 1 ∧ (vget u.brg.eps i).posted = e.posted ++ [descDest d] ∧
         RequestQueued s u d d.dnode (if d.op = .cancel then d.cell else 0) e.seq.toNat) ∧
     (judge s d = none → d.op ≠ .commit → d.op.posted = false → freeTag s d.ep = none → Completes (.requestIssue d t) s fun u =>
       (vget u.brg.eps i).held = e.held ++ [⟨d, .plain⟩] ∧ (vget u.brg.eps i).seq = e.seq ∧ u.sw.queues = s.sw.queues) ∧
     (∀ st, judge s d = some st → st ≠ stNO_ROUTE → d.op.posted = false → d.ep ≠ 0 → Completes (.requestIssue d t) s fun u =>
       u.brg.completions = s.brg.completions ++ [⟨d.ep, 0, e.seq.toNat, d.op, st, []⟩] ∧ u.brg.opens = s.brg.opens ∧ u.sw = s.sw) ∧
     (∀ tag, judge s { d with op := .range } = none → free { d with op := .range } → freeTag s d.ep = some tag → d.dring = s.ringNo → s.ringNo < 16 → RingsUp s →
       (s.fab.node < d.dnode ∨ d.dnode + d.count ≤ s.fab.node) → Completes (.range d t) s fun u =>
         opened u { d with op := .range } tag ∧ (vget u.brg.eps i).seq = e.seq + 1 ∧
         ∀ k < d.count, RequestQueued s u { d with op := .range } (d.dnode + k) tag e.seq.toNat) ∧
     (judge s { d with op := .commit } = none → Completes (.commitDescriptor d t) s fun u =>
       u.sw = s.sw ∧ u.brg.opens = s.brg.opens ∧
       ∃ x ∈ u.brg.sets, x.ep = d.ep ∧ x.set = d.set ∧ x.cycle = d.cycle ∧ x.closing = some .plain))

/-- R203, R210-R212, R218 and R228: responses, timeouts, the end of pacing and of the wait of a signal. -/
def Obligations.RequestsEnd : Prop :=
  ∀ (i : Fin 32) (tag : Fin 64) (seq : Word) (t : Nat) (s : State),
    (let e := vget s.brg.eps i
     (∀ o (node : Fin 4096) (st : Fin 64) data, openFind s i.val tag.val seq.toNat = some o → o.via = .plain → i.val ≠ 0 → e.held = [] →
       s.darkPath = false → o.desc.op ≠ .gwr → o.desc.op ≠ .range → Completes (.rsp i tag seq node st data t) s fun u =>
         u.brg.opens = s.brg.opens.filter (fun x => x ≠ o) ∧
         u.brg.completions = s.brg.completions ++ [⟨i.val, o.tag, o.seq, o.desc.op, st.val, data⟩]) ∧
     (∀ (node : Fin 4096) (st : Fin 64) data, openFind s i.val tag.val seq.toNat = none → e.held = [] → s.darkPath = false →
       Completes (.rsp i tag seq node st data t) s fun u =>
         u.brg.opens = s.brg.opens ∧ u.brg.completions = s.brg.completions ∧ u.reg BRG_LATE_RSP = bumpW (s.reg BRG_LATE_RSP) 1 ∧
         (u.reg BRG_EVT).getLsbD brgLATE_RSP = true) ∧
     (∀ o, openFind s i.val tag.val seq.toNat = some o → o.desc.op ≠ .gwr → o.desc.op ≠ .range → o.desc.op.posted = false → i.val ≠ 5 →
       o.desc.dring = s.ringNo → o.desc.dnode < 4000 → s.ringNo < 16 → o.desc.dnode ≠ s.fab.node → RingsUp s → e.held = [] → o.expected = [] →
       (o.attempts < fld (s.regSel BRG_EP_CFG i.val) 13 12 → Completes (.txnTimeout i tag seq t) s fun u =>
         u.brg.opens = (s.brg.opens.map fun x => if x = o then { o with attempts := o.attempts + 1 } else x) ∧
         RequestQueued s u o.desc o.desc.dnode tag.val seq.toNat) ∧
       (fld (s.regSel BRG_EP_CFG i.val) 13 12 ≤ o.attempts → windowFull (s.at t) i = false → o.via = .plain → i.val ≠ 0 → Completes (.txnTimeout i tag seq t) s fun u =>
         u.brg.opens = s.brg.opens.filter (fun x => x ≠ o) ∧
         u.brg.completions = s.brg.completions ++ [⟨i.val, o.tag, o.seq, o.desc.op, stTIMEOUT, []⟩] ∧
         u.regSel BRG_EP_TMOC i.val = bumpW (s.regSel BRG_EP_TMOC i.val) 1 ∧ (u.reg BRG_EVT).getLsbD brgTIMEOUT = true ∧
         RequestQueued s u { o.desc with op := .cancel, burst := false, len := 0, cg := false, set := o.seq, data := [] } o.desc.dnode o.tag
           e.seq.toNat)) ∧
     (∀ h rest, e.held = h :: rest → h.desc.ep = i.val → h.desc.op.posted = false → mustHold (s.at t) i h.desc = false →
       Completes (.pacingRelease i t) s fun u =>
         (vget u.brg.eps i).held = rest ∧ (vget u.brg.eps i).seq = e.seq + 1) ∧
     (∀ d, e.heldSigs = [d] → (windowOf (s.at t) e).length < 65535 → d.ep = i.val → d.op = .sig → e.posted.contains (descDest d) = false → d.dring = s.ringNo → d.dnode < 4000 →
       s.ringNo < 16 → d.dnode ≠ s.fab.node → RingsUp s → Completes (.signalRelease i t) s fun u =>
         (vget u.brg.eps i).heldSigs = [] ∧ (vget u.brg.eps i).seq = e.seq + 1 ∧ RequestQueued s u d d.dnode 0 e.seq.toNat))

/-- R213, R215, R220, R221, R224, R225 and R230: locks, cells and filter entries that end, sets that close, signals forwarded, and the two
logs of the bridge read. -/
def Obligations.BridgeUpkeep : Prop :=
  ∀ (path : Path) (t : Nat) (s : State),
    (∀ l, s.brg.lock = some l → s.brg.blocked = [] → Completes (.lockReleaseTimeout t) s fun u =>
      u.brg.lock = none ∧ u.reg BRG_LOCK_TMO = bumpW (s.reg BRG_LOCK_TMO) 1 ∧ (u.reg BRG_EVT).getLsbD brgLOCK_TMO = true ∧ SameMemory s u) ∧
    (∀ k : Fin 16,
      ((vget s.brg.cells k).owner.isSome = true → Completes (.cellTimeout k t) s fun u =>
        vget u.brg.cells k = ⟨none, 0⟩ ∧ u.reg BRG_SEM_TMO = bumpW (s.reg BRG_SEM_TMO) 1 ∧ (u.reg BRG_EVT).getLsbD brgSEM_TMO = true ∧
        ∀ j, j ≠ k → vget u.brg.cells j = vget s.brg.cells j) ∧
      Completes (.semRel k t) s fun u =>
        vget u.brg.cells k = ⟨none, 0⟩ ∧ SameRegs s u [] ∧ ∀ j, j ≠ k → vget u.brg.cells j = vget s.brg.cells j) ∧
    (∀ (r : Fin 16) (n : Fin 4096) (ep : Fin 32) (tag : Fin 64) (seq : Word), Completes (.dupEntryExpire r n ep tag seq t) s fun u =>
      u.brg.dups = s.brg.dups.filter (fun d => !(d.done && isKey ⟨r.val, n.val, ep.val⟩ tag.val seq.toNat d)) ∧ SameRegs s u []) ∧
    (∀ (ep : Fin 32) (set : Byte) x, setOpen s ep.val set.toNat = some x → x.closing = some .plain → x.open_ = 0 → ep.val ≠ 0 →
      windowFull (s.at t) ep = false → dupFind s ⟨s.ringNo, s.fab.node, ep.val⟩ 0 (vget s.brg.eps ep).seq.toNat = none →
      s.fab.node ≠ 0 → RingsUp s →
      (let guard : Int := (atLeastOne (s.reg BRG_STG_GUARD).toNat * usT : Nat)
       let closes (u : State) (op : TxnOp) (st : Nat) (data : List Word) : Prop :=
         u.brg.sets = s.brg.sets.filter (fun y => y ≠ x) ∧
         (∃ c ∈ u.brg.completions, c.ep = ep.val ∧ c.op = .commit ∧ c.status = st ∧ c.data = data) ∧
         (∃ w ∈ u.brg.waiting, w.op = op ∧ w.req.set = x.set ∧ w.req.cycle = x.cycle ∧ w.req.src = ⟨s.ringNo, s.fab.node, ep.val⟩) ∧
         ∀ r, ∃ e, u.queue (ringPort r) 0 = s.queue (ringPort r) 0 ++ [e] ∧ e.frame.dnode = 4095 ∧ wAt e.frame.payload 0 >>> 12 = wd op.code
       (x.failed = none → guard ≤ (instantsOf (s.at t) x.cycle).2.1 - (s.at t).ring →
         Completes (.setClose ep set t) s fun u => closes u .commit stOK []) ∧
       (x.failed = none → (instantsOf (s.at t) x.cycle).2.1 - (s.at t).ring < guard →
         Completes (.setClose ep set t) s fun u => closes u .abort stSTG_ABORT [0, 0] ∧ (u.reg BRG_EVT).getLsbD brgSTG_ABORT = true) ∧
       (∀ n st, x.failed = some (n, st) →
         Completes (.setClose ep set t) s fun u => closes u .abort stSTG_ABORT [wd n, putFld st 5 0] ∧ (u.reg BRG_EVT).getLsbD brgSTG_ABORT = true))) ∧
    (∀ k : Fin 8, bitOf (s.regSel SIG_FWD_SRC k.val) 15 = true → fwdSource s (s.regSel SIG_FWD_SRC k.val) = true → vget s.brg.fwdSeen k = false →
      Completes (.sigForward k t) s fun u => vget u.brg.fwdSeen k = true ∧
        (fld (s.regSel SIG_FWD_DST k.val) 11 0 = s.fab.node → s.fab.node ≠ 0 → fld (s.regSel SIG_FWD_DST k.val) 15 12 = s.ringNo →
          (vget s.brg.eps 5).held = [] → (vget s.brg.eps 5).window = [] → (vget s.brg.eps 5).posted = [] → (vget s.brg.eps 5).heldSigs = [] →
          (freeTag s 5).isSome = true → txnHeld s (txnKind .sig) < 16 →
          dupFind s ⟨s.ringNo, s.fab.node, 5⟩ 0 (vget s.brg.eps 5).seq.toNat = none →
          ∃ w, u.brg.waiting = s.brg.waiting ++ [w] ∧ w.op = .sig ∧ w.req.set = fld (s.regSel SIG_FWD_NUM k.val) 7 0)) ∧
    (∀ x rest, s.brg.inbox = x :: rest → s.lockedOut path = false → viewBlank s path = false → quiet s path = false → Completes (.sigRxPop path t) s fun u =>
      u.brg.inbox = rest ∧ u.regSel SIG_RX_W1 path.code = putFld x.src.ring 15 12 ||| putFld x.src.node 11 0 ∧
      u.regSel SIG_RX_W2 path.code = putFld x.src.ep 4 0 ∧ u.regSel SIG_RX_W3 path.code = x.d0 ∧ u.regSel SIG_RX_W4 path.code = x.d1) ∧
    (∀ x rest, s.brg.ferr = x :: rest → s.lockedOut path = false → viewBlank s path = false → quiet s path = false → Completes (.ferrPop path t) s fun u =>
      u.brg.ferr = rest ∧ u.regSel BRG_FERR_W1 path.code = putFld x.src.ring 15 12 ||| putFld x.src.node 11 0 ∧
      u.regSel BRG_FERR_W2 path.code = putFld x.tag 15 10 ||| putFld x.src.ep 4 0 ∧ u.regSel BRG_FERR_W3 path.code = wd x.seq)

/-! Clusters, pacers and conduits (R236-R274). -/

/-- R239, R262, R264 and R271: what a self-test leaves of a physical engine, binding after it, and the commands OFFLINE, ONLINE and RESTART. -/
def Obligations.ClustersStart : Prop :=
  ∀ (n : Fin 12) (t : Nat) (s : State),
    (∀ (p : Fin 16) (code data : Nat) (other : Bool),
      (let x := vget (s.cl n).phys p
       let good := min code (4 - x.codeRows)
       let fine := min data (2 - x.dataRows)
       let failed := other || decide (good < code) || decide (fine < data)
       x.retired = false → x.testing = true → Completes (.selfTestDone n p code data other t) s fun u =>
         vget (u.cl n).phys p = { x with testing := false, suspect := false, retired := failed
                                         codeRows := x.codeRows + good, dataRows := x.dataRows + fine } ∧
         (failed = true → (u.reg (CLU_EVT n.val)).getLsbD cluRETIRE = true) ∧
         (0 < good + fine → (u.reg (CLU_EVT n.val)).getLsbD cluREPAIR = true))) ∧
    ((s.cl n).binding = true → (∀ p, (vget (s.cl n).phys p).testing = false) → Completes (.clusterBind n t) s fun u =>
      (u.cl n).online = true ∧ (u.cl n).binding = false ∧ ∀ e, (engCfg (s.cl n) e).isSome = true →
        ((u.eng n e).run = .running ∧ (u.eng n e).pc = 0 ∧ ∃ p, (u.eng n e).phys = some p ∧ working (s.cl n) p = true) ∨
        ((u.eng n e).run = .shed ∧ (u.eng n e).phys = none)) ∧
    ((s.cl n).online = true → Completes (.cluOffline n t) s fun u =>
      (u.cl n).online = false ∧ (u.cl n).offHold = true ∧ (u.cl n).lock = none ∧ (u.cl n).mig = none ∧
      (∀ e, (u.eng n e).run = .off ∧ (u.eng n e).phys = none ∧ (u.eng n e).regs = (s.eng n e).regs) ∧
      (∀ p, fld (u.pacer n p).cfg 15 14 = 0) ∧ (u.reg (CLU_EVT n.val)).getLsbD cluOFFLINE = true) ∧
    (∀ g, (s.cl n).cfg = some g → (s.cl n).online = false → (s.cl n).binding = false → Completes (.cluOnline n t) s fun u =>
      (u.cl n).binding = true ∧ (u.cl n).online = false ∧ (u.cl n).cfg = some g ∧ (∀ e, u.eng n e = Engine.init) ∧
      ∀ p, (vget (u.cl n).phys p).testing = !(vget (s.cl n).phys p).retired) ∧
    (∀ e : Fin 14, (s.cl n).online = true → (s.eng n e).phys.isSome = true → Completes (.cluRestart n e t) s fun u =>
      Restarted s u n e ∧ SameRegs s u [])

/-- R240, R266-R269 and R274: a migration by rotation or command begins, stops its source at a safe point or by force, and resumes on the
target; a rotation that finds no safe point gives way to the next. -/
def Obligations.MigrationsRun : Prop :=
  ∀ (n : Fin 12) (t : Nat) (s : State),
    (∀ p e tgt, s.bit (CLU_CTRL n.val) 15 = true → s.bit (CLU_CTRL n.val) 14 = false → (s.cl n).online = true → spare? (s.cl n) = some tgt →
      rotationNext (s.cl n) = some (p, e) →
      ((s.cl n).mig = none → Completes (.rotationDue n t) s fun u =>
        MigrationBegins s u n ⟨e, p, tgt, .rotation, false⟩ ∧ (u.cl n).rotated = p.val) ∧
      (∀ m, (s.cl n).mig = some m → m.stopped = false → m.cause = .rotation → (s.cl n).failed = [] → Completes (.migrationForce n t) s fun u =>
        MigrationBegins s u n ⟨e, p, tgt, .rotation, false⟩)) ∧
    (∀ e p tgt, (s.eng n e).phys = some p → (s.cl n).mig = none → s.bit (CLU_CTRL n.val) 14 = false → spare? (s.cl n) = some tgt →
      Completes (.cluMigrate n e t) s fun u => MigrationBegins s u n ⟨e, p, tgt, .command, false⟩) ∧
    (∀ m, (s.cl n).mig = some m → m.stopped = false → holdsLock s n m.leng = false →
      ((s.eng n m.leng).safe = true → Completes (.migrationStop n t) s fun u => SourceStops s u n m ∧ SameRegs s u []) ∧
      (m.cause ≠ .rotation → Completes (.migrationForce n t) s fun u =>
        SourceStops s u n m ∧ u.reg (CLU_FORCED n.val) = bumpW (s.reg (CLU_FORCED n.val)) 1 ∧
        (u.reg (CLU_EVT n.val)).getLsbD cluFORCED = true)) ∧
    (∀ m, (s.cl n).mig = some m → m.stopped = true → (s.cl n).failed = [] → Completes (.migrationResume n t) s fun u =>
      (u.cl n).mig = none ∧ (u.eng n m.leng).phys = some m.target ∧ (u.eng n m.leng).regs = (s.eng n m.leng).regs ∧
      (u.eng n m.leng).pc = (s.eng n m.leng).pc ∧ (vget (u.cl n).phys m.from_).testing = true ∧
      (u.cl n).lastMig = putFld m.leng.val 15 12 ||| putFld m.from_.val 11 8 ||| putFld m.target.val 7 4 ||| putFld m.cause.code 3 2 ∧
      u.reg (CLU_MIGS n.val) = bumpW (s.reg (CLU_MIGS n.val)) 1 ∧ (u.reg (CLU_EVT n.val)).getLsbD cluMIG = true ∧ SameMemory s u)

/-- R261-R263, R269, R289, R292, R293, R295 and R485: the watchdog's two expiries, a missed deadline, the end of darkness and of a stall, and
the stop of intermission. -/
def Obligations.EnginesWatched : Prop :=
  ∀ (n : Fin 12) (e : Fin 14) (t : Nat) (s : State),
    (let x := s.eng n e
     (dogRuns s n e = true → x.wdFirst = false → Completes (.watchdogExpire n e t) s fun u =>
       u.eng n e = { x with wdFirst := true, wdTrap := !x.ta } ∧ (u.reg (CLU_EVT n.val)).getLsbD cluWDOG = true ∧
       SameRegs s u [CLU_EVT n.val] ∧ SameMemory s u ∧ OtherEngines s u n e) ∧
     (dogRuns s n e = true → x.wdFirst = true → Completes (.watchdogExpire n e t) s fun u =>
       Restarted s u n e ∧ u.reg (CLU_WDOGC n.val) = bumpW (s.reg (CLU_WDOGC n.val)) 1 ∧
       (u.reg (CLU_EVT n.val)).getLsbD cluWDRESTART = true) ∧
     (x.run = .running → x.intm = false → x.synced = false → s.regSel (CLU_ENG_DL n.val) e.val ≠ 0 →
       Completes (.deadlineMiss n e t) s fun u =>
         u.eng n e = { x with synced := true } ∧ u.reg (CLU_DLMISS n.val) = bumpW (s.reg (CLU_DLMISS n.val)) 1 ∧
         (u.reg (CLU_EVT n.val)).getLsbD cluDLMISS = true ∧ SameMemory s u ∧ OtherEngines s u n e) ∧
     (MayComplete s n e →
       (∀ r, x.dark = some (.twait r) → x.wakeAt ≤ (s.at t).fring → Completes (.engineWake n e t) s fun u =>
         u.eng n e = { x with dark := none } ∧ SameMemory s u ∧ OtherEngines s u n e) ∧
       (∀ rd q w rest, x.dark = some (.recv rd q) → (s.conduit n q).inw = w :: rest → Completes (.engineWake n e t) s fun u =>
         u.eng n e = { x with dark := none, regs := vset x.regs rd w } ∧ (u.conduit n q).inw = rest ∧ SameMemory s u ∧ OtherEngines s u n e) ∧
       (∀ k pin, x.dark = some (.wait k pin) → k ≤ 2 → edgeLatched x k pin = true → Completes (.engineWake n e t) s fun u =>
         u.eng n e = { clearLatches k pin x with dark := none, z := false, instSeen := false } ∧ SameMemory s u ∧ OtherEngines s u n e) ∧
       (∀ rd p, x.stall = some (.sho rd p) → ownsPacer s n e p = true → pacerMode (s.pacer n p) = 1 → (s.pacer n p).tx = none →
         Completes (.stallEnd n e t) s fun u =>
           u.eng n e = { x with stall := none } ∧ u.pacer n p = txPut (getR s n e rd) (s.pacer n p) ∧ SameMemory s u ∧ OtherEngines s u n e) ∧
       (∀ rd q, x.stall = some (.send rd q) → ownsConduit s n e q = true → (s.conduit n q).out.length < 8 →
         Completes (.stallEnd n e t) s fun u =>
           u.eng n e = { x with stall := none } ∧ (u.conduit n q).out = (s.conduit n q).out ++ [getR s n e rd] ∧ SameMemory s u ∧
           OtherEngines s u n e)) ∧
     (s.fintm = true → x.run = .running → holdsLock s n e = false → Completes (.intmSafePointWait n e t) s fun u =>
       u.eng n e = { x with intm := true } ∧ SameRegs s u [] ∧ SameMemory s u ∧ OtherEngines s u n e))

/-- R243, R244 and R247-R251: a pacer's ticks at their instants, and at the hub a conduit's complete frame, its complete descriptor and its timeouts. -/
def Obligations.PacersAndConduits : Prop :=
  ∀ (n : Fin 12) (q : Fin 16) (t : Nat) (s : State),
    (let x := s.pacer n q
     let now := max s.now t
     (∀ m, tickDue now x = some m → pacerMode x = 3 → Completes (.pacerTick n q .tick t) s fun u =>
       (let y := { x with cnt := x.nextCnt.getD x.cnt, nextCnt := none, dataOut := decide (x.nextCnt.getD x.cnt ≠ 0), nextTick := m + 1 }
        u.pacer n q = match x.nextPer with
          | none => y
          | some v => { y with per := v, nextPer := none, grid := x.grid + m * perTicks x, nextTick := 1 }) ∧
       SameRegs s u [] ∧ SameMemory s u) ∧
     (pacerMode x = 3 → 1 ≤ x.nextTick → pacerNear now (x.grid + (x.nextTick - 1) * perTicks x + x.cnt.toNat * pacerT) = true →
       x.cnt.toNat < x.per.toNat → Completes (.pacerTick n q .mid t) s fun u =>
       u.pacer n q = { x with dataOut := false } ∧ SameRegs s u [] ∧ SameMemory s u) ∧
     (∀ m b rest, tickDue now x = some m → pacerMode x = 1 → pacerSub x = 2 → x.out = some (b :: rest) → Completes (.pacerTick n q .tick t) s fun u =>
       u.pacer n q = { x with out := some rest, dataOut := b, nextTick := m + 1 } ∧ SameRegs s u [] ∧ SameMemory s u) ∧
     (∀ m b rest, tickDue now x = some m → pacerMode x = 1 → pacerSub x = 0 → x.out = some (b :: rest) → x.clkOut = bitOf x.cfg 6 →
       bitOf x.cfg 5 = true → Completes (.pacerTick n q .tick t) s fun u =>
         u.pacer n q = { x with clkOut := !x.clkOut, dataOut := b, nextTick := m + 1 })) ∧
    (let c := s.conduit n q
     let i : Fin 20 := ⟨8 + n.val, by omega⟩
     (∀ o ws rest, conduitCfg (s.cl n) q = some (false, o) → itemOf false c.asm = some (ws, rest) →
       (let f : Frame := { w0 := wAt ws 0 &&& 0xC7FF, w1 := wAt ws 1, w2 := s.srcWord, w3 := wAt ws 3, payload := ws.drop 4, crcOk := true }
        (s.fab.node ≠ 0 → f.type ≠ 2 ∨ f.dnode = 0 ∨ 512 < f.len → Completes (.conduitFrame n q t) s fun u =>
          (u.conduit n q).asm = rest ∧ u.reg SWQ_BADHDR = bumpW (s.reg SWQ_BADHDR) 1 ∧ u.sw = s.sw) ∧
        (f.type = 2 → f.dring = s.ringNo → f.dnode < 4000 → f.dnode ≠ 0 → f.dnode ≠ s.fab.node → s.fab.node ≠ 0 → f.len ≤ 512 → RingsUp s →
          s.reg SWQ_SMP_N = 0 → accepts s i 0 f = true → (f.cls = 0 → f.payload.length ≤ 32) → Completes (.conduitFrame n q t) s fun u =>
            (u.conduit n q).asm = rest ∧ ∃ r, u.queue (ringPort r) f.cls = s.queue (ringPort r) f.cls ++ [⟨f, i.val, u.now, 0, none, 0⟩]))) ∧
     (∀ o ws rest, conduitCfg (s.cl n) q = some (true, o) → itemOf true c.asm = some (ws, rest) → 8 ≤ engEndpoint (s.cl n) o →
       (let d := parseDescriptor (engEndpoint (s.cl n) o) ws
        ∀ k : Fin 32, k.val = d.ep → d.op.posted = false →
          (∀ st, judge s d = some st → st ≠ stNO_ROUTE → Completes (.conduitDescriptor n q t) s fun u =>
            (u.conduit n q).asm = rest ∧
            (u.conduit n q).hubIn = c.hubIn ++ [completionWords ⟨d.ep, 0, (vget s.brg.eps k).seq.toNat, d.op, st, []⟩]) ∧
          (∀ tag, judge s d = none → freeTag s d.ep = some tag → (vget s.brg.eps k).held = [] → mustHold (s.at t) k d = false →
            d.op ≠ .gwr → d.op ≠ .range → RingsUp s → d.dring = s.ringNo → d.dnode < 4000 → d.dnode ≠ s.fab.node → s.ringNo < 16 →
            Completes (.conduitDescriptor n q t) s fun u =>
              (u.conduit n q).asm = rest ∧
              u.brg.opens = s.brg.opens ++ [⟨d, tag, (vget s.brg.eps k).seq.toNat, 0, [], [], .conduit n.val q.val⟩] ∧
              RequestQueued s u d d.dnode tag (vget s.brg.eps k).seq.toNat))) ∧
     (∀ cfg, conduitCfg (s.cl n) q = some cfg → ownerMoves s n cfg.2 = false →
       (let told (u : State) : Prop := u.reg (CLU_CDT_TMOC n.val) = bumpW (s.reg (CLU_CDT_TMOC n.val)) 1 ∧
          (u.reg (CLU_EVT n.val)).getLsbD cluCDT_TMO = true
        (c.asm ++ crossing s n q ++ c.out ≠ [] → itemOf cfg.1 (c.asm ++ crossing s n q ++ c.out) = none →
          Completes (.conduitTimeout n q true t) s fun u =>
            u.conduit n q = { c with asm := [], out := [], skip := c.skip + (crossing s n q).length, tmo := true } ∧ told u) ∧
        (c.inPart = true → Completes (.conduitTimeout n q false t) s fun u =>
          u.conduit n q = { c with hubIn := c.hubIn.tail, inPart := false, trunc := true } ∧ told u))))

/-! Port engine instructions (R280-R300). -/

/-- R282 and R280: every function of major 0x1, on every pair of registers and every value of the flags. -/
def Obligations.AluRegisterRegister : Prop :=
  ∀ (f : AluFn) (n : Fin 12) (e : Fin 14) (rd rs : Fin 16) (t : Nat) (s : State), Issues s n e →
    Completes (aluCommand f n e rd rs t) s fun u =>
      let x := s.eng n e
      let r := aluTable f (getR s n e rd) (getR s n e rs) x.c x.v
      u.eng n e = { passed s n e 1 with
          regs := if f = .cmp then x.regs else vset x.regs rd r.1, z := decide (r.1 = 0), n := r.1.msb, c := r.2.1, v := r.2.2 } ∧
        EngineOnly s u n e

/-- R283: ADDI, CMPI and MOVI.
R284: BSET, BCLR, BTGL and BTST. -/
def Obligations.ImmediateAndBitForms : Prop :=
  (∀ (n : Fin 12) (e : Fin 14) (rd : Fin 16) (imm : Byte) (t : Nat) (s : State), Issues s n e →
     (let x := s.eng n e
      let a := aluTable .add (getR s n e rd) (imm.signExtend 16) x.c x.v
      let b := aluTable .cmp (getR s n e rd) (imm.signExtend 16) x.c x.v
      Completes (.addi n e rd imm t) s (fun u =>
        u.eng n e = { passed s n e 1 with regs := vset x.regs rd a.1, z := decide (a.1 = 0), n := a.1.msb, c := a.2.1, v := a.2.2 } ∧
        EngineOnly s u n e) ∧
      Completes (.cmpi n e rd imm t) s (fun u =>
        u.eng n e = { passed s n e 1 with z := decide (b.1 = 0), n := b.1.msb, c := b.2.1, v := b.2.2 } ∧ EngineOnly s u n e) ∧
      Completes (.movi n e rd imm t) s (fun u =>
        u.eng n e = { passed s n e 1 with regs := vset x.regs rd (imm.zeroExtend 16) } ∧ EngineOnly s u n e))) ∧
  (∀ (n : Fin 12) (e : Fin 14) (rd b : Fin 16) (t : Nat) (s : State), Issues s n e →
     (let x := s.eng n e
      let w := getR s n e rd
      let one : Word := 1#16 <<< b.val
      let z := decide (w.getLsbD b.val = false)
      Completes (.bset n e rd b t) s (fun u =>
        u.eng n e = { passed s n e 1 with regs := vset x.regs rd (w ||| one), z := z } ∧ EngineOnly s u n e) ∧
      Completes (.bclr n e rd b t) s (fun u =>
        u.eng n e = { passed s n e 1 with regs := vset x.regs rd (w &&& ~~~ one), z := z } ∧ EngineOnly s u n e) ∧
      Completes (.btgl n e rd b t) s (fun u =>
        u.eng n e = { passed s n e 1 with regs := vset x.regs rd (w ^^^ one), z := z } ∧ EngineOnly s u n e) ∧
      Completes (.btst n e rd b t) s (fun u => u.eng n e = { passed s n e 1 with z := z } ∧ EngineOnly s u n e)))

/-- R285: a load from the engine's data memory or from shared memory, in its three forms, and LIMM.
R285: a store to the engine's data memory or to shared memory, in its three forms. -/
def Obligations.LoadsAndStores : Prop :=
  (∀ (n : Fin 12) (e : Fin 14) (rd rs off : Fin 16) (imm : Word) (t : Nat) (s : State) (a : Nat), Issues s n e → eccArmed s n = false →
     s.marked a = false →
     (let x := s.eng n e
      (engineRam s n e (getR s n e rs + wd off.val) = some a → Completes (.ld n e rd rs off t) s (fun u =>
        u.eng n e = { passed s n e 1 with regs := vset x.regs rd (s.word a) } ∧ EngineOnly s u n e)) ∧
      (engineRam s n e (getR s n e rs + imm) = some a → Completes (.ldf n e rd rs imm t) s (fun u =>
        u.eng n e = { passed s n e 2 with regs := vset x.regs rd (s.word a) } ∧ EngineOnly s u n e)) ∧
      (engineRam s n e imm = some a → Completes (.lda n e rd imm t) s (fun u =>
        u.eng n e = { passed s n e 2 with regs := vset x.regs rd (s.word a) } ∧ EngineOnly s u n e)) ∧
      Completes (.limm n e rd imm t) s (fun u =>
        u.eng n e = { passed s n e 2 with regs := vset x.regs rd imm } ∧ EngineOnly s u n e))) ∧
  (∀ (n : Fin 12) (e : Fin 14) (rd rs off : Fin 16) (imm : Word) (t : Nat) (s : State) (a : Nat), Issues s n e →
     (let stored (size : Nat) (u : State) : Prop :=
        StoredWord s u a (getR s n e rd) ∧ u.eng n e = passed s n e size ∧ SameRegs s u [] ∧ OtherEngines s u n e
      (engineRam s n e (getR s n e rs + wd off.val) = some a → Completes (.st n e rd rs off t) s (stored 1)) ∧
      (engineRam s n e (getR s n e rs + imm) = some a → Completes (.stf n e rd rs imm t) s (stored 2)) ∧
      (engineRam s n e imm = some a → Completes (.sta n e rd imm t) s (stored 2))))

/-- R281: the conditions of Bcc; code 0xF, reserved, traps ILLEGAL.
R287: JMP, CALL and RET. -/
def Obligations.BranchesAndCalls : Prop :=
  (∀ (n : Fin 12) (e : Fin 14) (code : Fin 16) (off : Byte) (t : Nat) (s : State), Issues s n e →
     (let x := s.eng n e
      let taken := [x.z, !x.z, x.c, !x.c, x.n, !x.n, x.v, !x.v, x.c && !x.z, !x.c || x.z, x.n == x.v, x.n != x.v,
        !x.z && (x.n == x.v), x.z || (x.n != x.v), true]
      (∀ b, taken[code.val]? = some b → Completes (.bcc n e code off t) s (fun u =>
        u.eng n e = { passed s n e 1 with pc := x.pc + 1 + (if b then off.signExtend 12 else 0) } ∧ EngineOnly s u n e)) ∧
      (∀ p, code = 15 → x.ta = false → x.phys = some p →
        Completes (.bcc n e code off t) s (fun u => TrapEntered s u n e p 1 0 x.pc)))) ∧
  (∀ (n : Fin 12) (e : Fin 14) (half : BitVec 11) (t : Nat) (s : State), Issues s n e →
     (let x := s.eng n e
      let target : BitVec 12 := BitVec.ofNat 12 (2 * half.toNat)
      Completes (.jmp n e half t) s (fun u => u.eng n e = { passed s n e 1 with pc := target } ∧ EngineOnly s u n e) ∧
      Completes (.call n e half t) s (fun u =>
        u.eng n e = { passed s n e 1 with pc := target, regs := vset x.regs 15 ((x.pc + 1).setWidth 16) } ∧ EngineOnly s u n e) ∧
      Completes (.ret n e t) s (fun u =>
        u.eng n e = { passed s n e 1 with pc := (getR s n e 15).setWidth 12 } ∧ EngineOnly s u n e)))

/-- R297: TRAP #nn enters the trap with cause SOFT, its record naming the next instruction; an ILLEGAL instruction enters it with
its own address.
R298: RET T with TA at 1.
R281, R285, R289, R291-R294 and R298: the forms that trap and are not performed, an engine with TA 0: ILLEGAL (cause 1) for an operand
outside the range stated and for RET T, ADDR (2) for an address that is not listed and for a pacer or conduit of another engine, MODE (6)
for a shift on a pacer in another mode.
R290: LOCK stalls while another engine holds the lock; the 33rd instruction after LOCK is not performed and traps LOCK_OVERRUN. -/
def Obligations.Traps : Prop :=
  (∀ (n : Fin 12) (e : Fin 14) (p : Fin 16) (nn : Byte) (two : Bool) (t : Nat) (s : State), Issues s n e → (s.eng n e).ta = false →
     (s.eng n e).phys = some p →
     Completes (.trap n e nn t) s (fun u => TrapEntered s u n e p 8 nn ((s.eng n e).pc + 1)) ∧
     Completes (.illegalInstruction n e two t) s (fun u => TrapEntered s u n e p 1 0 (s.eng n e).pc)) ∧
  (∀ (n : Fin 12) (e : Fin 14) (p : Fin 16) (t : Nat) (s : State), Issues s n e → (s.eng n e).ta = true → (s.eng n e).phys = some p →
     Completes (.retT n e t) s (fun u =>
       let f := s.word (dataBase n.val p.val + 2 * 0x3FD)
       u.eng n e = { passed s n e 1 with
           z := f.getLsbD 3, n := f.getLsbD 2, c := f.getLsbD 1, v := f.getLsbD 0, ta := false
           pc := (s.word (dataBase n.val p.val + 2 * 0x3FF)).setWidth 12 } ∧ EngineOnly s u n e)) ∧
  (∀ (n : Fin 12) (e : Fin 14) (p rd q : Fin 16) (imm : Word) (t : Nat) (s : State), Issues s n e → (s.eng n e).ta = false →
     (s.eng n e).phys = some p →
     (let traps (c : Instr) (cause : Nat) : Prop := Completes c s fun u => TrapEntered s u n e p cause 0 (s.eng n e).pc
      let far (a : Word) : Prop := engAddr a = .unlisted
      traps (.retT n e t) 1 ∧
      (13 ≤ q.val → ∀ c ∈ [Instr.pinrd n e rd q t, .pinwr n e rd q t, .pindir n e rd q t], traps c 1) ∧
      (rd = 15 → ∀ c ∈ [Instr.pacePer n e rd q t, .paceCnt n e rd q t, .paceRd n e rd q t], traps c 1) ∧
      (13 ≤ rd.val → ∀ c ∈ [Instr.edge n e rd t, .tstamp n e rd t], traps c 1) ∧
      (14 ≤ rd.val → ∀ c ∈ [Instr.twait n e rd t, .tcmp n e rd t], traps c 1) ∧
      (∀ k : Fin 16, ((k.val ≤ 2 ∨ k.val = 14) ∧ 12 ≤ q.val) ∨ (k.val = 6 ∧ q.val ≠ 0) ∨ (k.val = 7 ∧ 4 ≤ q.val) ∨
        (8 ≤ k.val ∧ k.val ≠ 14) → traps (.wait n e k q t) 1) ∧
      (ownsPacer s n e q = false → rd.val ≤ 14 →
        ∀ c ∈ [Instr.sho n e rd q t, .shoN n e rd q t, .shi n e rd q t, .shiN n e rd q t, .pacePer n e rd q t, .paceCnt n e rd q t,
          .paceRd n e rd q t, .paceSt n e rd q t, .wait n e 4 q t, .wait n e 5 q t], traps c 2) ∧
      (ownsConduit s n e q = false →
        ∀ c ∈ [Instr.send n e rd q t, .recv n e rd q t, .peek n e rd q t, .poll n e rd q t, .wait n e 3 q t], traps c 2) ∧
      (ownsPacer s n e q = true → pacerMode (s.pacer n q) ≠ 1 →
        ∀ c ∈ [Instr.sho n e rd q t, .shoN n e rd q t, .shi n e rd q t, .shiN n e rd q t], traps c 6) ∧
      (far (getR s n e q + wd rd.val) → ∀ c ∈ [Instr.ld n e rd q rd t, .st n e rd q rd t], traps c 2) ∧
      (far (getR s n e q + imm) → ∀ c ∈ [Instr.ldf n e rd q imm t, .stf n e rd q imm t], traps c 2) ∧
      (far imm → ∀ c ∈ [Instr.lda n e rd imm t, .sta n e rd imm t], traps c 2))) ∧
  (∀ (n : Fin 12) (e : Fin 14) (t : Nat) (s : State),
     (∀ d, Issues s n e → (s.cl n).lock = some d → d ≠ e → Completes (.lock n e t) s (fun u =>
       u.eng n e = { passed s n e 1 with stall := some .lock } ∧ EngineOnly s u n e)) ∧
     (∀ rd rs p, canIssue s n e = true → (s.eng n e).wdTrap = false → atBreakpoint s n e = false → (s.eng n e).haltPending = none →
       (s.eng n e).stepping = false → (s.cl n).lock = some e → 32 ≤ (s.eng n e).lockCount → (s.eng n e).ta = false →
       (s.eng n e).phys = some p → Completes (.add n e rd rs t) s (fun u => TrapEntered s u n e p 3 0 (s.eng n e).pc)))

/-- R288, R290: NOP, SYNC, UNLOCK, HALT and LOCK complete: NOP always; SYNC as a safe point where no lock is held, at which an engine in
intermission stops; UNLOCK whoever holds the lock; HALT without a lock; LOCK where the lock is free or its own. -/
def Obligations.SystemInstructions : Prop :=
  ∀ (n : Fin 12) (e : Fin 14) (t : Nat) (s : State), Issues s n e →
    Completes (.nop n e t) s (fun u => u.eng n e = passed s n e 1 ∧ EngineOnly s u n e) ∧
    (let synced := { passed s n e 1 with wdFirst := false, wdTrap := false, synced := true }
     (holdsLock s n e = false → s.fintm = false → Completes (.sync n e t) s (fun u =>
       u.eng n e = { synced with safe := true } ∧ EngineOnly s u n e)) ∧
     (holdsLock s n e = false → s.fintm = true → Completes (.sync n e t) s (fun u =>
       u.eng n e = { synced with safe := true, intm := true } ∧ EngineOnly s u n e)) ∧
     (holdsLock s n e = true → Completes (.sync n e t) s (fun u =>
       u.eng n e = { synced with safe := false } ∧ EngineOnly s u n e))) ∧
    ((s.cl n).lock = none → Completes (.lock n e t) s (fun u =>
      (u.cl n).lock = some e ∧ (u.eng n e).lockCount = 0 ∧ (u.eng n e).pc = (s.eng n e).pc + 1 ∧ SameMemory s u ∧
      OtherEngines s u n e)) ∧
    ((s.cl n).lock = some e → Completes (.lock n e t) s (fun u => u.eng n e = passed s n e 1 ∧ EngineOnly s u n e)) ∧
    Completes (.unlock n e t) s (fun u =>
      u.eng n e = { passed s n e 1 with lockCount := 0 } ∧ (u.cl n).lock ≠ some e ∧
      ((s.cl n).lock ≠ some e → (u.cl n).lock = (s.cl n).lock) ∧ SameMemory s u ∧ OtherEngines s u n e) ∧
    (holdsLock s n e = false → Completes (.halt n e t) s (fun u =>
      (u.eng n e).run = .halted ∧ (u.eng n e).pc = (s.eng n e).pc + 1 ∧ (u.eng n e).regs = (s.eng n e).regs ∧
      SameMemory s u ∧ OtherEngines s u n e ∧
      ∀ k, (u.pin k).latch = (s.pin k).latch ∧ (u.pin k).drive = (s.pin k).drive))

/-- R289: a WAIT whose condition holds completes at once with Z 1, and clears the edge latches it waited on; otherwise the engine goes
dark. Kinds: 0 rising, 1 falling, 2 either; 3 inward words, 4 and 5 the buffers of a pacer, 6 edge stamps; 7 an instant still to come;
0xE clears both latches without a wait. -/
def Obligations.WaitConditions : Prop :=
  ∀ (n : Fin 12) (e : Fin 14) (kind pin : Fin 16) (t : Nat) (s : State), Issues s n e → holdsLock s n e = false → s.fintm = false →
    (let x := s.eng n e
     let up := decide (kind.val ≠ 1) && x.rise.getLsbD pin.val
     let down := decide (kind.val ≠ 0) && x.fall.getLsbD pin.val
     let mask : BitVec 12 := ~~~ (1#12 <<< pin.val)
     let dark (u : State) : Prop :=
       (u.eng n e).dark = some (.wait kind.val pin.val) ∧ (u.eng n e).pc = x.pc + 1 ∧ (u.eng n e).regs = x.regs ∧
       SameMemory s u ∧ OtherEngines s u n e
     let bound : Prop := (kind.val = 3 → ownsConduit s n e pin = true) ∧ (kind.val = 4 ∨ kind.val = 5 → ownsPacer s n e pin = true) ∧
       (kind.val = 6 → pin.val = 0)
     let held : Option Bool := match kind.val with
       | 3 => some (!(s.conduit n pin).inw.isEmpty)
       | 4 => some (s.pacer n pin).rx.isSome
       | 5 => some (s.pacer n pin).tx.isNone
       | 6 => some (!(s.fifo n).entries.isEmpty)
       | _ => none
     (kind.val ≤ 2 → pin.val < 12 →
       ((up || down) = true → Completes (.wait n e kind pin t) s (fun u =>
         u.eng n e = { passed s n e 1 with
             z := true, instSeen := false, rise := if kind.val = 1 then x.rise else x.rise &&& mask
             fall := if kind.val = 0 then x.fall else x.fall &&& mask } ∧ EngineOnly s u n e)) ∧
       ((up || down) = false → Completes (.wait n e kind pin t) s dark)) ∧
     (bound →
       (held = some true → Completes (.wait n e kind pin t) s (fun u =>
         u.eng n e = { passed s n e 1 with z := true, instSeen := false } ∧ EngineOnly s u n e)) ∧
       (held = some false → Completes (.wait n e kind pin t) s dark)) ∧
     (kind.val = 7 → pin.val < 4 → Completes (.wait n e kind pin t) s dark) ∧
     (kind.val = 14 → pin.val < 12 → Completes (.wait n e kind pin t) s (fun u =>
       u.eng n e = { passed s n e 1 with z := true, instSeen := false, rise := x.rise &&& mask, fall := x.fall &&& mask } ∧
       EngineOnly s u n e)))

/-- R291: PINRD reads a filtered level, and with p 12 all twelve; PINWR and PINDIR write latch and drive enable of a pin whose source is
the engine's pin port, with p 12 of every such pin; on another pin they are ignored and counted. -/
def Obligations.PinInstructions : Prop :=
  ∀ (n : Fin 12) (e : Fin 14) (rd : Fin 16) (j : Fin 12) (t : Nat) (s : State), Issues s n e →
    (let x := s.eng n e
     let p : Fin 16 := ⟨j.val, by omega⟩
     let v := getR s n e rd
     let level : Word := if (s.pin (pinOf n j)).filt then 1 else 0
     let mine (i : Fin 12) : Bool := match s.pinCfg (pinOf n i) with | some c => decide (c.src = 1 ∧ c.index = e.val) | none => false
     let others (u : State) (i : Fin 12) : Prop :=
       ∀ k, k ≠ pinOf n i → (u.pin k).latch = (s.pin k).latch ∧ (u.pin k).drive = (s.pin k).drive
     let elsewhere (u : State) : Prop :=
       ∀ k, (∀ i, k ≠ pinOf n i) → (u.pin k).latch = (s.pin k).latch ∧ (u.pin k).drive = (s.pin k).drive
     let only (u : State) : Prop := u.eng n e = passed s n e 1 ∧ SameMemory s u ∧ OtherEngines s u n e
     Completes (.pinrd n e rd p t) s (fun u =>
       u.eng n e = { passed s n e 1 with regs := vset x.regs rd level, z := !(s.pin (pinOf n j)).filt } ∧ EngineOnly s u n e) ∧
     Completes (.pinrd n e rd 12 t) s (fun u =>
       (let w := vget (u.eng n e).regs rd
        (∀ i : Fin 12, w.getLsbD i.val = (s.pin (pinOf n i)).filt) ∧ w.toNat < 4096 ∧
        u.eng n e = { passed s n e 1 with regs := vset x.regs rd w, z := decide (w = 0) }) ∧ EngineOnly s u n e) ∧
     (mine j = true →
       Completes (.pinwr n e rd p t) s (fun u =>
         (u.pin (pinOf n j)).latch = v.getLsbD 0 ∧ (u.pin (pinOf n j)).drive = (s.pin (pinOf n j)).drive ∧ only u ∧ others u j) ∧
       Completes (.pindir n e rd p t) s (fun u =>
         (u.pin (pinOf n j)).drive = v.getLsbD 0 ∧ (u.pin (pinOf n j)).latch = (s.pin (pinOf n j)).latch ∧ only u ∧ others u j)) ∧
     (mine j = false → ∀ c ∈ [Instr.pinwr n e rd p t, .pindir n e rd p t], Completes c s fun u =>
       u.reg (CLU_WRITERC n.val) = bumpW (s.reg (CLU_WRITERC n.val)) 1 ∧ only u ∧
       ∀ k, (u.pin k).latch = (s.pin k).latch ∧ (u.pin k).drive = (s.pin k).drive) ∧
     Completes (.pinwr n e rd 12 t) s (fun u => only u ∧ elsewhere u ∧ ∀ i,
       (u.pin (pinOf n i)).latch = (if mine i then v.getLsbD i.val else (s.pin (pinOf n i)).latch) ∧
       (u.pin (pinOf n i)).drive = (s.pin (pinOf n i)).drive) ∧
     Completes (.pindir n e rd 12 t) s (fun u => only u ∧ elsewhere u ∧ ∀ i,
       (u.pin (pinOf n i)).drive = (if mine i then v.getLsbD i.val else (s.pin (pinOf n i)).drive) ∧
       (u.pin (pinOf n i)).latch = (s.pin (pinOf n i)).latch))

/-- R292: on a pacer bound to the engine in SHIFT mode, SHO and SHO.N put a word into an empty transmit buffer, SHI and SHI.N take
the word of the receive buffer; SHO.N and SHI.N tell in C whether they did. A full or empty buffer stalls SHO and SHI.
R292: PACE.PER, PACE.CNT, PACE.RD and PACE.ST on a pacer bound to the engine. -/
def Obligations.PacerInstructions : Prop :=
  (∀ (n : Fin 12) (e : Fin 14) (rd p : Fin 16) (t : Nat) (s : State), Issues s n e → ownsPacer s n e p = true →
     pacerMode (s.pacer n p) = 1 → holdsLock s n e = false →
     (let x := s.eng n e
      ((s.pacer n p).tx = none →
        Completes (.sho n e rd p t) s (fun u => u.eng n e = passed s n e 1 ∧ u.pacer n p = txPut (getR s n e rd) (s.pacer n p)) ∧
        Completes (.shoN n e rd p t) s (fun u =>
          u.eng n e = { passed s n e 1 with c := true } ∧ u.pacer n p = txPut (getR s n e rd) (s.pacer n p))) ∧
      (∀ w, (s.pacer n p).tx = some w →
        Completes (.sho n e rd p t) s (fun u => u.eng n e = { passed s n e 1 with stall := some (.sho rd p) } ∧ EngineOnly s u n e) ∧
        Completes (.shoN n e rd p t) s (fun u => u.eng n e = { passed s n e 1 with c := false } ∧ EngineOnly s u n e)) ∧
      (∀ w, (s.pacer n p).rx = some w →
        Completes (.shi n e rd p t) s (fun u =>
          u.eng n e = { passed s n e 1 with regs := vset x.regs rd w } ∧ u.pacer n p = { s.pacer n p with rx := none }) ∧
        Completes (.shiN n e rd p t) s (fun u =>
          u.eng n e = { passed s n e 1 with regs := vset x.regs rd w, c := true } ∧ u.pacer n p = { s.pacer n p with rx := none })) ∧
      ((s.pacer n p).rx = none →
        Completes (.shi n e rd p t) s (fun u => u.eng n e = { passed s n e 1 with stall := some (.shi rd p) } ∧ EngineOnly s u n e) ∧
        Completes (.shiN n e rd p t) s (fun u => u.eng n e = { passed s n e 1 with c := false } ∧ EngineOnly s u n e)))) ∧
  (∀ (n : Fin 12) (e : Fin 14) (rd p : Fin 16) (t : Nat) (s : State), Issues s n e → ownsPacer s n e p = true →
     (let x := s.eng n e
      let q := s.pacer n p
      Completes (.paceSt n e rd p t) s (fun u =>
        u.eng n e = { passed s n e 1 with regs := vset x.regs rd (pacerStat q) } ∧
        u.pacer n p = { q with ovr := false, und := false, qerr := false, ferr := false }) ∧
      (rd.val ≤ 14 →
        (let two := getR s n e rd ++ getR s n e (rd + 1)
         Completes (.pacePer n e rd p t) s (fun u => u.eng n e = passed s n e 1 ∧
           u.pacer n p = if pacerMode q = 3 then { q with nextPer := some two } else { q with per := two, grid := max s.now t }) ∧
         Completes (.paceCnt n e rd p t) s (fun u => u.eng n e = passed s n e 1 ∧
           u.pacer n p = if pacerMode q = 3 then { q with nextCnt := some two } else { q with cnt := two }) ∧
         Completes (.paceRd n e rd p t) s (fun u =>
           u.eng n e = { passed s n e 1 with
               regs := vset (vset x.regs rd (q.cnt.extractLsb' 16 16)) (rd + 1) (q.cnt.extractLsb' 0 16), z := decide (q.cnt = 0) } ∧
           EngineOnly s u n e)))))

/-- R293: the conduit instructions on a conduit bound to the engine. -/
def Obligations.ConduitInstructions : Prop :=
  ∀ (n : Fin 12) (e : Fin 14) (rd q : Fin 16) (t : Nat) (s : State), Issues s n e → ownsConduit s n e q = true →
    holdsLock s n e = false → s.fintm = false →
    (let x := s.eng n e
     let c := s.conduit n q
     (c.out.length < 8 → Completes (.send n e rd q t) s (fun u =>
       u.conduit n q = { c with out := c.out ++ [getR s n e rd] } ∧ u.eng n e = passed s n e 1 ∧ OtherEngines s u n e)) ∧
     (8 ≤ c.out.length → Completes (.send n e rd q t) s (fun u =>
       u.eng n e = { passed s n e 1 with stall := some (.send rd q) } ∧ EngineOnly s u n e)) ∧
     (∀ w rest, c.inw = w :: rest →
       Completes (.recv n e rd q t) s (fun u =>
         u.eng n e = { passed s n e 1 with regs := vset x.regs rd w } ∧ u.conduit n q = { c with inw := rest }) ∧
       Completes (.peek n e rd q t) s (fun u =>
         u.eng n e = { passed s n e 1 with regs := vset x.regs rd w, c := true } ∧ EngineOnly s u n e) ∧
       Completes (.poll n e rd q t) s (fun u =>
         u.eng n e = { passed s n e 1 with regs := vset x.regs rd w, c := true } ∧ u.conduit n q = { c with inw := rest })) ∧
     (c.inw = [] →
       Completes (.recv n e rd q t) s (fun u =>
         (u.eng n e).dark = some (.recv rd q) ∧ (u.eng n e).pc = x.pc + 1 ∧ (u.eng n e).regs = x.regs ∧ u.conduit n q = c) ∧
       Completes (.peek n e rd q t) s (fun u => u.eng n e = { passed s n e 1 with c := false } ∧ EngineOnly s u n e) ∧
       Completes (.poll n e rd q t) s (fun u => u.eng n e = { passed s n e 1 with c := false } ∧ EngineOnly s u n e)))

/-- R136, R292, R294 and R295: TSTAMP, EDGE on a FIFO with and without an entry, and TCMP and TWAIT on a time operand whose
nanoseconds are at most 999,999,999; with more they trap TIME. -/
def Obligations.TimeInstructions : Prop :=
  ∀ (n : Fin 12) (e : Fin 14) (r : Fin 16) (t : Nat) (s : State), Issues s n e →
    (let x := s.eng n e
     let now := (s.at t).fring
     (r.val ≤ 12 → Completes (.tstamp n e r t) s (fun u =>
       u.eng n e = { passed s n e 1 with regs := vset (vset (vset (vset x.regs
           r (wd (32768 * b2n s.time.fdom + 16384 * b2n s.time.fhold))) (r + 1) (wd (secOf now)))
           (r + 2) (wd (nsOf now / 65536))) (r + 3) (wd (nsOf now)) } ∧ EngineOnly s u n e)) ∧
     (r.val ≤ 12 →
       (∀ h rest, (s.fifo n).entries = h :: rest → Completes (.edge n e r t) s fun u =>
         (u.fifo n).entries = rest ∧ (u.eng n e).z = false ∧ (u.eng n e).pc = x.pc + 1 ∧ SameMemory s u ∧ OtherEngines s u n e ∧
         (u.eng n e).regs = vset (vset (vset (vset x.regs
           r (wd (32768 * b2n h.dom + 16384 * b2n h.hold + 8192 * b2n h.rising + 4096 * b2n h.ovf + h.pin % 16))) (r + 1) (wd (secOf h.time)))
           (r + 2) (wd (nsOf h.time / 65536))) (r + 3) (wd (nsOf h.time))) ∧
       ((s.fifo n).entries = [] → Completes (.edge n e r t) s fun u =>
         u.eng n e = { passed s n e 1 with regs := vset (vset (vset (vset x.regs r 0x0800) (r + 1) 0) (r + 2) 0) (r + 3) 0, z := true } ∧
         EngineOnly s u n e)) ∧
     (∀ at_, r.val ≤ 13 → timeOperand (s.at t) n e r = some at_ →
       Completes (.tcmp n e r t) s (fun u =>
         u.eng n e = { passed s n e 1 with
             c := decide (at_ / nsT ≤ now / nsT), z := decide (at_ / nsT = now / nsT), n := false, v := false } ∧ EngineOnly s u n e) ∧
       (at_ ≤ now → Completes (.twait n e r t) s (fun u => u.eng n e = { passed s n e 1 with c := true } ∧ EngineOnly s u n e)) ∧
       (now < at_ → holdsLock s n e = false → Completes (.twait n e r t) s (fun u =>
         (u.eng n e).dark = some (.twait r) ∧ (u.eng n e).wakeAt = at_ ∧ (u.eng n e).c = false ∧ (u.eng n e).regs = x.regs))) ∧
     (∀ p, r.val ≤ 13 → timeOperand (s.at t) n e r = none → x.ta = false → x.phys = some p →
       Completes (.twait n e r t) s (fun u => TrapEntered s u n e p 7 0 x.pc) ∧
       Completes (.tcmp n e r t) s (fun u => TrapEntered s u n e p 7 0 x.pc)))

/-! Field pins and converters (R302-R319). -/

/-- R134, R289, R305 and R306: an edge at a ball, the acceptance of a level, the toggle limit and the end of its window.
R313-R319: acquisition or calibration in a slot, the result of a conversion with its limits, and the stuck detector. -/
def Obligations.PinsAndConverters : Prop :=
  (∀ (k : Fin 144) (t : Nat) (s : State),
     (let p := s.pin k
      let n := pinCluster k
      (∀ level, p.raw ≠ level → Completes (.pinRawChange k level t) s fun u =>
        (u.pin k).raw = level ∧
        (if max s.now t < p.changed + 5 * nsT then (u.pin k).changed = p.before.1 ∧ (u.pin k).stamp = p.before.2
         else (u.pin k).changed = max s.now t ∧ (u.pin k).stamp = some (edgeAt (s.at t) k level)) ∧
        (u.pin k).filt = p.filt ∧ (u.pin k).inner = p.inner ∧ ∀ j, j ≠ k → (u.pin j).raw = (s.pin j).raw ∧ (u.pin j).filt = (s.pin j).filt) ∧
      (p.raw ≠ p.inner → p.changed + filterTime s k ≤ max s.now t + 2 * nsT → p.limited = false →
        (∀ c, s.pinCfg k = some c →
          (pinToggle c = 0 ∨ (recentChanges (s.at t) p).length ≤ 2 ^ (pinToggle c + 2) → Completes (.filterAccept k t) s fun u =>
            (u.pin k).filt = p.raw ∧ (u.pin k).inner = p.raw ∧
            (∀ e, (u.eng n e).rise = (if p.raw then (s.eng n e).rise ||| 1#12 <<< (pinLocal k).val else (s.eng n e).rise) ∧
                  (u.eng n e).fall = (if p.raw then (s.eng n e).fall else (s.eng n e).fall ||| 1#12 <<< (pinLocal k).val)) ∧
            (∀ e, p.stamp = some e → stamps s k p.raw = true → (s.fifo n).entries.length < 64 →
              (u.fifo n).entries = (s.fifo n).entries ++ [{ e with ovf := (s.fifo n).lostSince }]) ∧
            SameMemory s u) ∧
          (pinToggle c ≠ 0 → 2 ^ (pinToggle c + 2) < (recentChanges (s.at t) p).length → Completes (.filterAccept k t) s fun u =>
            (u.pin k).limited = true ∧ (u.pin k).filt = p.filt ∧ u.reg (PIN_TGLC (pinBlock k)) = bumpW (s.reg (PIN_TGLC (pinBlock k))) 1 ∧
            (u.reg (PIN_EVT (pinBlock k))).getLsbD 15 = true))) ∧
      (∀ c, s.pinCfg k = some c → p.limited = true →
        (p.windowCount ≤ 2 ^ (pinToggle c + 1) → Completes (.toggleWindowEnd k t) s fun u =>
          (u.pin k).limited = false ∧ (u.pin k).filt = p.inner ∧ (u.reg (PIN_EVT (pinBlock k))).getLsbD 14 = true) ∧
        (pinToggle c ≠ 0 → 2 ^ (pinToggle c + 1) < p.windowCount → Completes (.toggleWindowEnd k t) s fun u =>
          (u.pin k).limited = true ∧ (u.pin k).windowCount = 0 ∧ (u.pin k).filt = p.filt ∧ SameRegs s u [])))) ∧
  (∀ (n : Fin 12) (c : Fin 2) (t : Nat) (s : State),
     (let x := s.chan n c
      let k := chanNo n c
      (∀ v, (s.cl n).cfg.isSome = true → slotChan s n (slotNow (s.at t) n) = some c → Completes (.adcSlot n v t) s fun u =>
        (u.chan n c).waiting = some (wd (max 0 (min 65535 v)).toNat, max s.now t, decide (65535 ≤ v)) ∧ (u.chan n c).results = x.results ∧
        SameRegs s u []) ∧
      (∀ v, (s.cl n).cfg.isSome = true → slotChan s n (slotNow (s.at t) n) = none →
        ((s.adc n).calStep + 1 < 64 → Completes (.adcSlot n v t) s fun u => (u.adc n).calStep = (s.adc n).calStep + 1 ∧ SameRegs s u []) ∧
        (63 ≤ (s.adc n).calStep → Completes (.adcSlot n v t) s fun u =>
          (u.adc n).calStep = 0 ∧ (u.adc n).calibrated = true ∧ u.regSel ADC_CALR n.val = bumpW (s.regSel ADC_CALR n.val) 1)) ∧
      (∀ v at_ ov, x.waiting = some (v, at_, ov) → Completes (.adcResult n c t) s fun u =>
        (u.chan n c).results = (v, at_) :: x.results.take 15 ∧ (u.chan n c).waiting = none ∧ (u.chan n c).ovr = ov ∧
        (u.chan n c).low = (if v.toNat < (s.regSel ADC_LIM_LO k).toNat then x.low || decide (2 ≤ x.lowRun) else x.low && decide (x.lowClr < 2)) ∧
        (u.chan n c).high = (if (s.regSel ADC_LIM_HI k).toNat < v.toNat then x.high || decide (2 ≤ x.highRun) else x.high && decide (x.highClr < 2)) ∧
        (ov = true → u.regSel ADC_OVRC k = bumpW (s.regSel ADC_OVRC k) 1 ∧ (u.reg ADC_EVT).getLsbD 13 = true)) ∧
      (stuckOn s n c = true → x.stuckFirst.isSome = true → Completes (.stuckWindowEnd n c t) s fun u =>
        (u.chan n c).stuck = true ∧ (u.chan n c).stuckFirst = none ∧
        (x.stuck = false → u.regSel ADC_STUCKC k = bumpW (s.regSel ADC_STUCKC k) 1 ∧ (u.reg ADC_EVT).getLsbD 14 = true))))

/-! The CAN FD controllers (R341-R364). -/

/-- R343, R345, R346, R354, R355, R357 and R358: enabling, disabling and integration, the end of an attempt with and without success, errors,
flushing and recovery. How the error counters move is ISO 11898-1's (notes/assumptions/30.md).
R347-R354: a validated frame of another node is sorted by the first filter that decides it; records are staged and pushed; entries are
popped, read out and forwarded. -/
def Obligations.CanBus : Prop :=
  (∀ (c : Fin 4) (t : Nat) (s : State),
     (let x := s.can c
      let ctrl := CAN_CTRL c.val
      (s.bit ctrl 15 = false → x.faultHeld = false → canConfOk s c = true → Completes (.canEnable c t) s fun u =>
        CanIs u c { x with phase := .integrating, cfgErr := false, txErr := 0, rxErr := 0, recSeq := 0, waitRec := false, txBusy := false
                           flushHead := false, conf := [ctrl, CAN_PINS c.val, CAN_NBT_H c.val, CAN_NBT_L c.val, CAN_DBT_H c.val,
                                                        CAN_DBT_L c.val, CAN_TDC c.val].map u.reg } ∧
        (u.reg ctrl).getLsbD 15 = true) ∧
      (s.bit ctrl 15 = false → x.faultHeld = false → canConfOk s c = false → Completes (.canEnable c t) s fun u =>
        (u.can c).phase = .off ∧ (u.can c).cfgErr = true) ∧
      (s.bit ctrl 15 = true → x.flushHead = false → Completes (.canDisable c t) s fun u =>
        u.can c = { x with phase := .off, waitRec := false, recSeq := 0, txBusy := false } ∧ (u.reg ctrl).getLsbD 15 = false) ∧
      (x.phase = .integrating → x.txErr ≤ 127 → x.rxErr ≤ 127 → Completes (.canIntegrated c t) s fun u =>
        CanIs u c { x with phase := .active, txBusy := x.txBusy || begins s c } ∧ SameRegs s u []) ∧
      (∀ h rest sof delay, x.tx = h :: rest → x.txBusy = true → (bitOf ((x.conf[6]?).getD 0) 15 && bitOf h.w0 12) = false ∨ delay ≤ 1023 → Completes (.canFrameSent c sof delay t) s fun u =>
        (u.can c).tx = rest ∧ (u.can c).txErr = x.txErr - 1 ∧ (u.can c).flushHead = false ∧
        u.reg (CAN_TXOK c.val) = bumpW (s.reg (CAN_TXOK c.val)) 1 ∧ (u.reg (CAN_EVT c.val)).getLsbD canTXDONE = true) ∧
      (x.txBusy = true → Completes (.canArbitrationLost c t) s fun u =>
        (u.can c).tx = (if x.flushHead then x.tx.drop 1 else x.tx) ∧ (u.can c).txBusy = false ∧ (u.can c).txErr = x.txErr) ∧
      (∀ kind dataPhase special, x.phase = .active ∨ x.phase = .passive → bitOf (canConf s c) 14 = false →
        (let seen (u : State) : Prop := (u.can c).lec = kind ∧ (u.can c).lecSeen = true ∧ (u.can c).lecData = dataPhase ∧
           u.reg (CAN_ERRCNT c.val) = bumpW (s.reg (CAN_ERRCNT c.val)) 1 ∧ (u.reg (CAN_EVT c.val)).getLsbD canPERR = true
         (x.txBusy = true → x.flushHead = false → Completes (.canProtocolError c kind dataPhase true special t) s fun u =>
           seen u ∧ (u.can c).txErr = (if special then x.txErr else x.txErr + 8) ∧ (u.can c).tx = x.tx ∧
           (255 < (u.can c).txErr → u.reg (CAN_BOFFC c.val) = bumpW (s.reg (CAN_BOFFC c.val)) 1)) ∧
         Completes (.canProtocolError c kind dataPhase false special t) s fun u =>
           seen u ∧ (u.can c).rxErr = x.rxErr + (if special then 8 else 1) ∧ (u.can c).txErr = x.txErr)) ∧
      (x.phase = .recovering → Completes (.canRecoveryDone c t) s fun u =>
        CanIs u c { x with phase := .active, txErr := 0, rxErr := 0, recSeq := 128, waitRec := false, txBusy := x.txBusy || begins s c } ∧
        (u.reg (CAN_EVT c.val)).getLsbD canBOFFEND = true) ∧
      (x.txBusy = true → Completes (.txflush c t) s fun u => (u.can c).tx = x.tx.take 1 ∧ (u.can c).flushHead = true) ∧
      (x.txBusy = false → x.tx ≠ [] → Completes (.txflush c t) s fun u =>
        (u.can c).tx = [] ∧ (u.reg (CAN_EVT c.val)).getLsbD canTXEMPTY = true) ∧
      (x.phase = .busOff → Completes (.recover c t) s fun u =>
        CanIs u c { x with phase := .recovering, waitRec := false, recSeq := 0 } ∧ SameRegs s u []))) ∧
  (∀ (path : Path) (c : Fin 4) (t : Nat) (s : State), s.lockedOut path = false →
     (let x := s.can c
      let staged := (x.txData.toList[path.code]?).getD []
      (∀ (w0 w1 w2 : Word) (data : List Word) (sof i : Nat), x.phase = .active → bitOf w0 13 = false ∨ bitOf (canConf s c) 13 = true →
        bitOf (canConf s c) 14 = false → x.txErr ≤ 127 → x.rxErr ≤ 127 → data.length = canDataWords (w0 &&& 0x7C0F) →
        (List.range 32).find? (fun i => filterHits s c i (w0 &&& 0x7C0F) (w1 &&& 0x1FFF) w2) = some i →
        (let w3 := putFld c.val 14 13 ||| putFld i 12 8
         let stamp := canStamp (s.at t) (min sof (max s.now t))
         (fld (s.regSel (CAN_FLT_CFG c.val) i) 15 14 = 1 → x.rx.length < 64 → Completes (.canFrameReceive c w0 w1 w2 data sof t) s fun u =>
           (u.can c).rx = x.rx ++ [⟨w0 &&& 0x7C0F ||| bitW x.lost 7, w1 &&& 0x1FFF, w2, w3, stamp, data⟩] ∧ (u.can c).lost = false ∧
           (u.can c).rxErr = x.rxErr - 1 ∧ u.reg (CAN_RXOK c.val) = bumpW (s.reg (CAN_RXOK c.val)) 1 ∧
           (u.reg (CAN_EVT c.val)).getLsbD canRX = true) ∧
         (fld (s.regSel (CAN_FLT_CFG c.val) i) 15 14 = 1 → 64 ≤ x.rx.length → Completes (.canFrameReceive c w0 w1 w2 data sof t) s fun u =>
           (u.can c).rx = x.rx ∧ (u.can c).lost = true ∧ u.reg (CAN_RXLOST c.val) = bumpW (s.reg (CAN_RXLOST c.val)) 1) ∧
         (fld (s.regSel (CAN_FLT_CFG c.val) i) 15 14 = 2 → x.spot.length < 4 → Completes (.canFrameReceive c w0 w1 w2 data sof t) s fun u =>
           (u.can c).spot = x.spot ++ [⟨w0 &&& 0x7C0F ||| bitW true 9, w1 &&& 0x1FFF, w2, w3, stamp, data⟩] ∧ (u.can c).rx = x.rx ∧
           (u.reg (CAN_EVT c.val)).getLsbD canSPOT = true))) ∧
      (let w (i : Nat) : Word := s.regSel (CAN_TX_W c.val i) path.code
       let r : CanTx := ⟨w 0, w 1, w 2, w 3, staged⟩
       let cleared (u : State) : Prop := (∀ i < 4, u.regSel (CAN_TX_W c.val i) path.code = 0) ∧ (u.can c).txData.toList[path.code]? = some []
       (x.tx.length < 32 → canRefused s c r = false → Completes (.canTxPush path c t) s fun u => (u.can c).tx = x.tx ++ [r] ∧ cleared u) ∧
       (32 ≤ x.tx.length ∨ canRefused s c r = true → Completes (.canTxPush path c t) s fun u =>
         (u.can c).tx = x.tx ∧ cleared u ∧ u.reg (CAN_TXREF c.val) = bumpW (s.reg (CAN_TXREF c.val)) 1 ∧
         (u.reg (CAN_EVT c.val)).getLsbD canTXREF = true)) ∧
      (∀ v, Completes (.canTxData path c v t) s fun u =>
        (u.can c).txData.toList[path.code]? = some (staged ++ [v]) ∧ (u.can c).tx = x.tx ∧ SameRegs s u []) ∧
      (∀ e rest, s.bit (CAN_CTRL c.val) 8 = false → quiet s path = false →
        (let shows (u : State) : Prop := (u.can c).dataPort.toList[path.code]? = some e.data ∧
           u.regSel (CAN_RX_W c.val 0) path.code = e.w1 ∧ u.regSel (CAN_RX_W c.val 1) path.code = e.w2 ∧
           u.regSel (CAN_RX_W c.val 2) path.code = e.w3 ∧ ∀ i < 4, u.regSel (CAN_RX_W c.val (3 + i)) path.code = wAt e.stamp i
         (x.rx = e :: rest → Completes (.canRxPop path c t) s fun u => (u.can c).rx = rest ∧ shows u ∧ (u.can c).spot = x.spot) ∧
         (x.spot = e :: rest → Completes (.canSpPop path c t) s fun u => (u.can c).spot = rest ∧ shows u ∧ (u.can c).rx = x.rx))) ∧
      (∀ w rest, x.dataPort.toList[path.code]? = some (w :: rest) → quiet s path = false → Completes (.canRxData path c t) s fun u =>
        (u.can c).dataPort.toList[path.code]? = some rest ∧ SameRegs s u []) ∧
      (let sub := s.reg (CAN_FWD_SUB c.val)
       let dst := s.reg (CAN_FWD_DST c.val)
       let frame (cls : Nat) (e : CanEntry) : Frame := Frame.mk' cls 2 (fld sub 7 0) dst s.srcWord 0 e.words
       s.bit (CAN_CTRL c.val) 8 = true → s.fab.node ≠ 0 → fld dst 15 12 = s.ringNo → fld dst 11 0 < 4000 → fld dst 11 0 ≠ s.fab.node → RingsUp s →
       s.reg SWQ_SMP_N = 0 → barPasses (s.bdir .fh) = true → barPasses (s.bdir .hf) = true →
       (∀ e rest, x.spot = e :: rest →
         (let cls := if bitOf sub 13 && decide (e.words.length ≤ 32) then 0 else 1
          accepts s 7 0 (frame cls e) = true → Completes (.canForward c t) s fun u => (u.can c).spot = rest ∧
            ∃ r, u.queue (ringPort r) cls = s.queue (ringPort r) cls ++ [⟨frame cls e, 7, u.now, 0, none, 0⟩])) ∧
       (∀ e rest, x.spot = [] → x.fwd = [] → x.rx = e :: rest → accepts s 7 0 (frame (fld sub 15 14) e) = true →
         (fld sub 15 14 = 0 → e.words.length ≤ 32) → Completes (.canForward c t) s fun u => (u.can c).rx = rest ∧
           ∃ r, u.queue (ringPort r) (fld sub 15 14) = s.queue (ringPort r) (fld sub 15 14) ++ [⟨frame (fld sub 15 14) e, 7, u.now, 0, none, 0⟩]))))

/-! The retained store (R365-R393). -/

/-- R366, R372-R377, R380, R382, R388 and R393: the commands of RST_CMD with their refusals, the write port, the end of a check, the load of a
sheet, scrubbing and the writing of a kept copy. What the digest and the signature are is taken from the standards the manual refers to
(notes/assumptions/32.md). -/
def Obligations.SlotsAndKeys : Prop :=
  ∀ (path : Path) (b : Bool) (t : Nat) (s : State),
    (let st := (s.slot b).state
     let free : Prop := cmdBusy s = false
     let spare : Prop := s.store.force ≠ some b
     let ended (u : State) (code : Nat) : Prop := u.store.cmd = ⟨2, code, 0⟩
     (cmdBusy s = true → ∀ x ∈ [(Instr.slotOpen path b t, 1), (.slotClose path b t, 2), (.promote path b t, 3), (.update path b t, 4),
         (.sheet path b t, 5), (.abandon path b t, 6), (.keywr path b t, 8), (.keyrev path t, 9), (.fuse path t, 10)],
       Completes x.1 s fun u => Refused s u x.2 1) ∧
     (∀ code : Fin 16, free → code.val ∉ [1, 2, 3, 4, 5, 6, 8, 9, 10] → Completes (.badcmd path code t) s fun u => Refused s u code.val 10) ∧
     (free → spare → st ≠ .open_ → fetchHolds s b = false → (s.slot (!b)).state ≠ .open_ → Completes (.slotOpen path b t) s fun u =>
       (u.slot b).state = .open_ ∧ (u.slot b).content = none ∧ u.slot (!b) = s.slot (!b) ∧ ended u 1 ∧ SameMemory s u) ∧
     (free → st = .open_ → Completes (.slotClose path b t) s fun u => (u.slot b).state = .checking ∧ u.store.cmd = ⟨1, 2, 0⟩) ∧
     (free → st ≠ .open_ → Completes (.slotClose path b t) s fun u => Refused s u 2 3) ∧
     (free → spare → st = .valid → Completes (.promote path b t) s fun u =>
       (u.slot b).state = .live ∧ ended u 3 ∧ (u.reg RST_EVT).getLsbD rstPROMOTED = true ∧ u.store.force = s.store.force) ∧
     (free → s.store.force = some b → (∀ x ∈ [(Instr.promote path b t, 3), (.sheet path b t, 5), (.abandon path b t, 6)],
       Completes x.1 s fun u => Refused s u x.2 2)) ∧
     (free → spare → st = .open_ ∨ st = .valid ∨ st = .bad → Completes (.abandon path b t) s fun u =>
       (u.slot b).state = .empty ∧ (u.slot b).content = none ∧ ended u 6) ∧
     (free → spare → st = .valid →
       ((passes s b (s.slot b).content).isSome = true → Completes (.sheet path b t) s fun u => u.store.sheet = some b ∧ u.store.cmd = ⟨1, 5, 0⟩) ∧
       (passes s b (s.slot b).content = none → Completes (.sheet path b t) s fun u => (u.slot b).state = .bad ∧ u.store.cmd = ⟨3, 5, 3⟩)) ∧
     (∀ c, s.store.sheet = some b → (s.slot b).content = some c → Completes (.sheetLoaded t) s fun u =>
       vget u.cue.banks (bankIx (!s.cue.bank)) = some c.sheet ∧ u.cue.bank = s.cue.bank ∧ u.store.sheet = none ∧ u.store.sheetSlot = some b ∧
       ended u 5 ∧ (u.reg RST_EVT).getLsbD rstSHEETLD = true) ∧
     (∀ content, st = .checking →
       (∀ c, passes s b content = some c → Completes (.slotCheckDone b content false t) s fun u => ended u 2 ∧
         (u.slot b).state = .valid ∧ (u.slot b).content = some c ∧ (u.slot b).cause = 0 ∧ (u.reg RST_EVT).getLsbD rstCHKDONE = true) ∧
       (passes s b content = none → Completes (.slotCheckDone b content false t) s fun u => ended u 2 ∧
         (u.slot b).state = .bad ∧ (u.slot b).content = none ∧ (u.slot b).cause = (slotVerdict s (slotWords s b) content).1 ∧
         (u.reg RST_EVT).getLsbD rstCHKFAIL = true)) ∧
     (st = .valid ∨ st = .live ∨ st = .kept → s.bit RST_CTRL 15 = true → (s.slot (!b)).state = .empty → ∀ m n, Completes (.scrub ⟨true, m⟩ ⟨true, n⟩ t) s fun u =>
       u.reg RST_ECC_C = bumpW (s.reg RST_ECC_C) (m + n) ∧ (u.slot b).state = .bad ∧ u.slot (!b) = s.slot (!b) ∧ u.reg RST_SCRUB_ERR = bumpW (s.reg RST_SCRUB_ERR) 1 ∧
       (u.reg RST_EVT).getLsbD rstSCRUBERR = true)) ∧
    (let k := keySel s path
     (cmdBusy s = false → keyPath path = true → k ≠ 0 → vget s.store.keys k = 0 → (s.slot b).state = .open_ → Completes (.keywr path b t) s fun u =>
       vget u.store.keys k = 1 ∧ (u.slot b).state = .empty ∧ u.words (storeBase + 0x78800 + 64 * k.val) 32 = s.words (slotBase b) 32 ∧
       u.store.cmd = ⟨2, 8, 0⟩) ∧
     (cmdBusy s = false → keyPath path = true → k ≠ 0 → Completes (.keyrev path t) s fun u =>
       vget u.store.keys k = 2 ∧ (∀ j, j ≠ k → vget u.store.keys j = vget s.store.keys j) ∧ u.store.cmd = ⟨2, 9, 0⟩) ∧
     (cmdBusy s = false → keyPath path = true → Completes (.fuse path t) s fun u => u.store.fuse = true ∧ secure u = true ∧ u.store.cmd = ⟨2, 10, 0⟩) ∧
     (cmdBusy s = false → keyPath path = false → ∀ x ∈ [(Instr.keywr path b t, 8), (.keyrev path t, 9), (.fuse path t, 10)],
       Completes x.1 s fun u => Refused s u x.2 8)) ∧
    (∀ (i : Fin 32) (v : Word),
      (let at_ := fld (s.reg RST_WP_ADDR_H) 0 0 * 65536 + (s.reg RST_WP_ADDR_L).toNat
       (∀ o, openSlot s = some o → at_ + i.val < 98304 → Completes (.wpData i v t) s fun u =>
         StoredWord s u (slotBase o + 2 * (at_ + i.val)) v ∧
         fld (u.reg RST_WP_ADDR_H) 0 0 * 65536 + (u.reg RST_WP_ADDR_L).toNat = (if i.val = 31 then (at_ + 32) % 131072 else at_)) ∧
       (openSlot s = none → Completes (.wpData i v t) s fun u => SameMemory s u ∧ (u.reg RST_EVT).getLsbD rstWPOVR = true))) ∧
    (∀ k : KeptCopy, s.fab.keptW = some k → s.fab.keptE = none → k.placed = false → k.words.length ≤ 98304 → s.store.force = some (!b) →
      (s.slot b).state = .empty ∨ (s.slot b).state = .bad ∨ (s.slot b).state = .live ∨ (s.slot b).state = .kept →
      Completes (.keptCopyWrite t) s fun u => (u.slot b).state = .kept ∧ u.words (slotBase b) k.words.length = k.words ∧
        u.fab.keptW = some { k with placed := true })

/-- R383-R390: a journal record begins and commits, the write position nears the oldest record, the start-up scan, the choice of a stagebook
and the steps of a hitless update. -/
def Obligations.JournalAndUpdate : Prop :=
  ∀ (path : Path) (t : Nat) (s : State),
    (∀ (addr : BitVec 17) (v : Word) (r : RegRow) (k : Nat), regRow? (canonReg addr.toNat) = some r → r.persistent = true →
      selOf s path (canonReg addr.toNat) r.sel = some k → (powerReg (canonReg addr.toNat) = true → s.power.link = true) → s.power.cfStep = 0 →
      thresholdRefused s (canonReg addr.toNat) v = false →
      (let a := canonReg addr.toNat
       (jrnBusy s = false → Completes (.journalRecord path addr v t) s fun u =>
         ∃ x base, u.store.jrn.writing = some (.field a k x base, false)) ∧
       (jrnBusy s = true → Completes (.journalRecord path addr v t) s fun u => SameRegs s u [] ∧
         u.store.jrn.held = s.store.jrn.held ++ (if s.store.jrn.writing.isSome then [.field a k (writtenValue r (s.regSel a k) v) (baseOf s a k)] else []) ∧
         (s.store.jrn.writing = none →
           u.store.jrn.writing = some (.field a k (writtenValue r (s.regSel a k) v) (baseOf s a k), false))))) ∧
    (∀ b copy, s.store.jrn.writing = some (b, copy) →
      (let j := s.store.jrn
       let written (u : State) : Prop := u.store.jrn.live = (j.live.filter fun x => !jrnSame x.1 b) ++ [(b, j.pos)] ∧
         u.store.jrn.seq = j.seq + 1 ∧ (∀ i < (jrnWords b j.seq).length, u.word (jrnWordAt (j.pos + i)) = wAt (jrnWords b j.seq) i) ∧
         ∀ bank, u.words (jrnHeadAt bank j.seq.toNat) 2 = [wd j.seq.toNat, wd j.pos]
       (j.held = [] → Completes (.journalCommit t) s fun u =>
         written u ∧ u.store.jrn.writing = none ∧ u.reg RST_JRN_CNT = bumpW (s.reg RST_JRN_CNT) 1) ∧
       (∀ v base rest, j.held = .field BRG_DUP_WIN 0 v base :: rest → Completes (.journalCommit t) s fun u =>
         written u ∧ u.store.jrn.writing = some (.field BRG_DUP_WIN 0 v base, false) ∧ u.store.jrn.held = rest ∧ u.reg BRG_DUP_WIN = v))) ∧
    (∀ b at_ rest, s.store.jrn.live = (b, at_) :: rest → jrnBusy s = false → jrnNear s = true → Completes (.compactionCopy t) s fun u =>
      u.store.jrn.writing = some (b, true) ∧ u.store.jrn.compacting = true ∧ SameMemory s u) ∧
    (∀ headBad, s.store.scanned = false → s.start.hostReset = false → hubArmed s Src.journalHead = none →
      Completes (.journalScanDone headBad t) s fun u => u.store.scanned = true ∧
        u.store.jrn = (match newestRecord s headBad with | none => Journal.init | some x => scanned (allRecords s) x) ∧
        (∀ b, (u.slot b).state = slotFound u.store.jrn b) ∧ ∀ k : Fin 4, vget u.store.keys k = (s.word (storeBase + 0x78900 + 2 * k.val)).toNat) ∧
    (s.store.scanned = true → s.store.applied = false → s.start.hostReset = false → Completes (.stagebookApply t) s fun u =>
      u.store.applied = true ∧ u.start.warm = false ∧ u.store.force = selectSlot (checkLive (checkLive s false) true) ∧
      (selectSlot (checkLive (checkLive s false) true) = none → u.store.base = true)) ∧
    (∀ b c f o, cmdBusy s = false → fetchRuns s = false → s.cue.scene.target = none → s.store.force ≠ some b → (s.slot b).state = .valid →
      (s.slot b).content = some c → inForce s = some f → c.cast.ring = f.cast.ring → c.cast.node = f.cast.node → c.cueCrc = f.cueCrc →
      c.guardCrc = f.guardCrc → c.cmp.isSome = f.cmp.isSome → understudy s = some o →
        ((passes s b (s.slot b).content).isSome = true → Completes (.update path b t) s fun u =>
          u.store.upd = some (b, 1) ∧ CoreTo s u o .c4 .copying ∧ u.store.cmd = ⟨1, 4, 0⟩ ∧ u.store.force = s.store.force) ∧
        (passes s b (s.slot b).content = none → Completes (.update path b t) s fun u =>
          (u.slot b).state = .bad ∧ u.store.cmd = ⟨3, 4, 3⟩ ∧ u.store.upd = s.store.upd)) ∧
    (∀ b l c, s.lead? = some l → l ≠ c → (s.core c).claim = .c4 →
      (s.store.upd = some (b, 2) → Completes (.updateResyncDone c t) s fun u => u.store.upd = some (b, 3) ∧ CoreTo s u c .c8 .idle) ∧
      (s.store.upd = some (b, 4) → Completes (.updateResyncDone c t) s fun u =>
        u.store.upd = none ∧ CoreTo s u c .c8 .idle ∧ u.store.force = some b ∧ (u.slot b).state = .live ∧ u.store.cmd = ⟨2, 4, 0⟩ ∧
        (u.reg RST_EVT).getLsbD rstUPDDONE = true)) ∧
    (∀ b l c due, s.store.upd = some (b, 3) → s.lead? = some l → (s.slot b).content = some c → s.lead.swapDue = some due →
      s.lead.demoteAfter = false → (s.core l.other).claim = .c8 → Completes (.updateSwap t) s fun u =>
        u.store.upd = some (b, 4) ∧ (u.core l.other).claim = .c12 ∧ (u.core l).claim = .c4 ∧ (u.core l).phase = .copying ∧
        u.fab.tables = some c.cast ∧ u.lead.swapDue = none)

/-! The lead and the understudy (R394-R415). -/

/-- R395, R396, R400, R401, R405, R406, R408, R410 and R415: claims and their loss, self-tests, rejoins, the switchover, the planned swap and
the read of the history. -/
def Obligations.ClaimsMove : Prop :=
  ∀ (path : Path) (c : Core) (t : Nat) (s : State),
    (let x := s.core c
     let o := c.other
     let mayRetry : Prop := (recentRejoins (s.at t) x).length < rejMax s
     Completes (.claimBeat c t) s (fun u => u.core c = { x with beat := true } ∧ u.core o = s.core o ∧ SameRegs s u []) ∧
     (x.claim ≠ .c0 → s.store.upd = none → Completes (.beatLoss c t) s fun u =>
       u.core c = { x with beat := false, claim := .c0, phase := .selfTest } ∧ u.core o = s.core o ∧ (u.reg LU_EVT).getLsbD luDEMOTE = true) ∧
     Completes (.claimRefresh c t) s (fun u =>
       (∃ more, (u.bdir .hf).ready = (s.bdir .hf).ready ++ ⟨⟨.claim, .claim c x.claim.value⟩, []⟩ :: more) ∧ u.core c = x ∧ SameRegs s u []) ∧
     Completes (.claimMissing c t) s (fun u => u.core c = { x with fieldClaim := .c0 } ∧ u.core o = s.core o) ∧
     (s.lead.equal = true → s.store.upd = none → Completes (.equalClaims t) s fun u =>
       (u.core .c1).claim = .c0 ∧ (u.core .c1).phase = .selfTest ∧ u.core .c0 = s.core .c0) ∧
     (s.lead.everLead = true → s.accepted = none → Completes (.noCore t) s fun u => (u.reg LU_EVT).getLsbD luNOCORE = true) ∧
     (x.phase = .selfTest → x.claim = .c0 → s.lead.starting = true → c = .c0 ∨ vget s.lead.tested 0 = some false →
       Completes (.coreSelfTestDone c true t) s fun u => (u.core c).claim = .c12 ∧ u.lead.starting = false ∧ u.lead.everLead = true) ∧
     (x.phase = .selfTest → x.claim = .c0 → s.lead.starting = true → vget s.lead.tested o.ix = some false → s.dark.dark = false →
       Completes (.coreSelfTestDone c false t) s fun u => u.dark.dark = true ∧ (u.core c).claim = .c0) ∧
     (x.phase = .selfTest → x.claim = .c0 → s.lead.starting = false →
       (mayRetry → s.bit LU_CTRL 15 = true → Completes (.coreSelfTestDone c true t) s fun u =>
         (u.core c).claim = .c4 ∧ (u.core c).phase = .copying ∧ u.core o = s.core o) ∧
       (rejMax s ≤ (recentRejoins (s.at t) x).length → Completes (.coreSelfTestDone c true t) s fun u =>
         (u.core c).claim = .c0 ∧ (u.core c).phase = .idle ∧ (u.reg LU_EVT).getLsbD luREJLIM = true) ∧
       (s.store.upd = none → Completes (.coreSelfTestDone c false t) s fun u =>
         (u.core c).claim = .c0 ∧ u.reg LU_RSYNC_FAIL = bumpW (s.reg LU_RSYNC_FAIL) 1 ∧ (u.reg LU_EVT).getLsbD luRSYNC_FAIL = true)) ∧
     (x.claim ≠ .c0 → x.claim ≠ .c12 ∨ (s.core o).claim ≠ .c8 → s.store.upd = none → Completes (.luDemote c t) s fun u =>
       CoreTo s u c .c0 .selfTest ∧ u.core o = s.core o) ∧
     (x.claim = .c12 → (s.core o).claim = .c8 → s.lead? = some c → rejoining s = false → s.lead.swapDue = none → s.lead.swapColl ≠ some s.present →
       Completes (.luSwap t) s (fun u => u.lead.swapDue = some (c, max s.now t, .swap) ∧ u.core c = x ∧ u.core o = s.core o) ∧
       Completes (.luDemote c t) s (fun u => u.lead.swapDue = some (c, max s.now t, .command) ∧ u.lead.demoteAfter = true ∧ u.core c = x)) ∧
     (x.claim = .c0 → s.lead?.isSome = true → Completes (.luRejoin c t) s fun u => (u.core c).claim = .c4 ∧ (u.core c).phase = .copying) ∧
     (x.phase = .copying → s.lead?.isSome = true → Completes (.rejoinCopyDone c t) s fun u =>
       u.core c = { x with phase := .finishing } ∧ SameRegs s u []) ∧
     (s.lead? = some o → x.claim = .c4 → x.phase = .finishing → s.store.upd = none → Completes (.rejoinFinish c t) s fun u =>
       CoreTo s u c .c8 .idle ∧ u.core o = s.core o ∧ (u.flt c).log = (s.flt o).log ∧ (u.reg LU_EVT).getLsbD luRSYNC_OK = true) ∧
     (x.phase = .copying ∨ x.phase = .finishing → s.store.upd = none → Completes (.rsyncTimeout c t) s fun u =>
       (u.core c).claim = .c0 ∧ u.reg LU_RSYNC_FAIL = bumpW (s.reg LU_RSYNC_FAIL) 1 ∧
       (mayRetry → s.bit LU_CTRL 15 = true → (u.core c).phase = .selfTest)) ∧
     (x.claim = .c8 → (s.core o).claim = .c0 → Completes (.switchover c t) s fun u =>
       (u.core c).claim = .c12 ∧ u.core o = s.core o ∧ u.reg LU_SWO = bumpW (s.reg LU_SWO) 1 ∧ (u.reg LU_EVT).getLsbD luSWO = true) ∧
     (∀ d at_ cause, s.lead.swapDue = some (d, at_, cause) → s.lead? = some c → (s.core o).claim = .c8 → cause ≠ .update →
       s.lead.demoteAfter = false → Completes (.swapStep t) s fun u =>
         (u.core c).claim = .c8 ∧ (u.core o).claim = .c12 ∧ u.lead.swapDue = none ∧ u.reg LU_SWAPS = bumpW (s.reg LU_SWAPS) 1 ∧
         (u.reg LU_EVT).getLsbD luSWAP = true)) ∧
    (∀ e rest, s.lead.hist = e :: rest → s.lockedOut path = false → quiet s path = false → Completes (.luHistPop path t) s fun u =>
      u.lead.hist = rest ∧ u.lead.histLost = false ∧ u.regSel LU_HIST_W1 path.code = wd (secOf e.time) ∧
      u.regSel LU_HIST_W2 path.code = wd (nsOf e.time / 65536) ∧ u.regSel LU_HIST_W3 path.code = wd (nsOf e.time))

/-! Faults (R416-R438). -/

/-- R417-R430 and R432-R437: a report is counted, recorded and merged by class; handling ends; held states end; self-faults; the backlog of
the field die; the read of the log; injection. When the counters and event bits of a class move is the model's reading
(notes/assumptions/46.md). -/
def Obligations.FaultsCollected : Prop :=
  ∀ (path : Path) (c : Core) (t : Nat) (s : State),
    (let f := s.flt c
     (∀ r rest, f.inbox = r :: rest → r.dry = true ∨ (escalate s r.src r.time (srcOf f r.src).times).2 = false →
       (let counted (u : State) (reg : Nat) : Prop :=
          u.regSel FLT_SRC_CNT (2 * r.src + c.ix.val) = bumpW (s.regSel FLT_SRC_CNT (2 * r.src + c.ix.val)) 1 ∧
          u.regSel reg c.ix.val = bumpW (s.regSel reg c.ix.val) 1
        let logged (u : State) (cls : FltClass) : Prop :=
          (u.flt c).log = f.log ++ [⟨f.nextId, cls, false, r.inj, r.src, r.time, 0, 0, 0, r.detail⟩] ∧ (u.flt c).handling = some f.nextId
        r.src < 1024 →
        (srcClassNow s r.src = .note → Completes (.collectorReport c t) s fun u => counted u FLT_NOTE ∧ (u.flt c).log = f.log) ∧
        (srcClassNow s r.src = .minor → f.handling = none → f.log.length < 32 → Completes (.collectorReport c t) s fun u =>
          counted u FLT_MINOR ∧ logged u .minor ∧ (u.regSel FLT_EVT c.ix.val).getLsbD fltMINOR = true) ∧
        (srcClassNow s r.src = .major → f.handling = none → f.log.length < 32 → Completes (.collectorReport c t) s fun u =>
          counted u FLT_MAJOR ∧ logged u .major ∧ u.dark.lastMajor = max s.now t) ∧
        (srcClassNow s r.src = .minor → ∀ id, f.handling = some id → Completes (.collectorReport c t) s fun u =>
          (u.flt c).log.length = f.log.length ∧ (u.flt c).handling = some id ∧
          u.regSel FLT_MERGED c.ix.val = bumpW (s.regSel FLT_MERGED c.ix.val) 1) ∧
        (srcClassNow s r.src = .grave → r.dry = false → Completes (.collectorReport c t) s fun u => u.dark.dark = true) ∧
        (srcClassNow s r.src = .grave → r.dry = true → Completes (.collectorReport c t) s fun u => u.dark.dark = s.dark.dark))) ∧
     (∀ id, f.handling = some id → f.waiting = [] → Completes (.handlingEnd c t) s fun u =>
       (u.flt c).handling = none ∧ (u.flt c).log = f.log ∧ SameRegs s u []) ∧
     (∀ id src cls code detail, f.handling = some id → f.waiting = [⟨src, cls, false, code, detail⟩] → code ≠ 0 → reactApplies src code detail = true →
       Completes (.handlingEnd c t) s fun u => (u.flt c).handling = none ∧
         (∀ n e, code = 3 → s.lead? = some c → srcCluster src = some n → detailEngine detail = some e → (s.cl n).mig = none →
           ∀ p tgt, (s.eng n e).phys = some p → spare? (s.cl n) = some tgt → (u.cl n).mig = some ⟨e, p, tgt, .failure, false⟩) ∧
         (code = 1 → (s.core c).claim ≠ .c0 → s.store.upd = none → (u.core c).claim = .c0))) ∧
    (∀ src : Fin 1024, (srcOf (s.flt .c0) src.val).held = true → (srcOf (s.flt .c0) src.val).power = false →
      lastReport s src.val + atLeastOne (s.reg FLT_QUIET_M).toNat * msT ≤ max s.now t → s.bit FLT_CTRL 15 = false → s.fld FLT_CTRL 11 8 ≠ 0 →
      ((sourceRecs (s.at t) (srcOf (s.flt .c0) src.val)).length < s.fld FLT_CTRL 11 8 → Completes (.quietPeriodMajor src t) s fun u =>
        (srcOf (u.flt .c0) src.val).held = false ∧ (srcOf (u.flt .c1) src.val).held = false ∧
        ∀ k : Fin 2, (u.regSel FLT_EVT k.val).getLsbD fltEXIT = true) ∧
      (s.fld FLT_CTRL 11 8 ≤ (sourceRecs (s.at t) (srcOf (s.flt .c0) src.val)).length → Completes (.quietPeriodMajor src t) s fun u =>
        (srcOf (u.flt .c0) src.val).held = true ∧ (srcOf (u.flt .c0) src.val).limit = true ∧
        ∀ k : Fin 2, (u.regSel FLT_EVT k.val).getLsbD fltRECLIM = true)) ∧
    (s.dark.dark = true → s.dark.power = false → s.dark.lastMajor + atLeastOne (s.reg FLT_QUIET_G).toNat * secT ≤ max s.now t →
      s.bit FLT_CTRL 14 = false → s.fld FLT_CTRL 7 4 ≠ 0 → (darkRecs (s.at t)).length < s.fld FLT_CTRL 7 4 →
      Completes (.quietPeriodGrave t) s fun u => u.dark.dark = false ∧ u.dark.reopen = true ∧ u.lead.starting = true ∧
        ∀ k, (u.core k).claim = .c0 ∧ (u.core k).phase = .selfTest) ∧
    (∀ cause : Fin 3, (s.flt c).inject = none → Completes (.collectorSelfFault c cause t) s fun u =>
      u.dark.dark = true ∧ u.dark.selfSet = true ∧ u.dark.selfCause = cause.val + 1 ∧ u.dark.selfCore = c.ix.val) ∧
    (barCarries (s.bdir .fh) = true → Completes (.faultBacklogSend t) s fun u => u.backlog = [] ∧
      ∃ more, (u.bdir .fh).ready = (s.bdir .fh).ready ++ (s.backlog.map fun b =>
        ⟨⟨.faultReport, .faultReport b.src b.detail b.count b.time b.inj b.dry⟩, []⟩) ++ more) ∧
    (∀ r rest, s.lockedOut path = false → viewBlank s path = false → quiet s path = false → (s.flt (viewCore s path)).log = r :: rest → Completes (.fltLogPop path t) s fun u =>
      (u.flt (viewCore s path)).log = rest ∧ (u.flt (viewCore s path)).ovf = false ∧
      u.regSel FLT_LOG_W1 path.code = putFld r.merges 15 10 ||| putFld r.lastSrc 9 0 ∧
      u.regSel FLT_LOG_W2 path.code = wd (secOf r.time) ∧ u.regSel FLT_LOG_W3 path.code = wd (nsOf r.time / 65536) ∧
      u.regSel FLT_LOG_W4 path.code = wd (nsOf r.time) ∧ u.regSel FLT_LOG_W5 path.code = putFld r.react 15 12 ||| putFld r.detail 11 0) ∧
    (∀ v : Word, bitOf v 15 = true →
      (let src := s.fld FLT_INJ_SEL 9 0
       let armed (u : State) (k : Core) : Prop := (u.flt k).inject = some (src, bitOf v 14, bitOf v 13)
       (hubSide src = true → srcChecker src = true → Completes (.fltInjArm v t) s fun u =>
         (u.reg FLT_INJ).getLsbD 15 = true ∧ (srcLocal src = false → armed u .c0 ∧ armed u .c1) ∧
         (srcLocal src = true → armed u (if bitOf v 12 then .c1 else .c0) ∧ (u.flt (if bitOf v 12 then .c0 else .c1)).inject = none)) ∧
       (hubSide src = false ∨ srcChecker src = false → Completes (.fltInjArm v t) s fun u =>
         (u.flt .c0).inject = none ∧ (u.flt .c1).inject = none ∧ (u.reg FLT_INJ).getLsbD 11 = true ∧ (u.reg FLT_INJ).getLsbD 15 = false)) ∧
      (let src := s.fld FI_SEL 9 0
       (fieldSide src = true → srcChecker src = true → Completes (.fiArm v t) s fun u =>
         u.fieldInj = some (src, bitOf v 14, bitOf v 13) ∧ (u.reg FI_CTRL).getLsbD 15 = true) ∧
       (fieldSide src = false ∨ srcChecker src = false → Completes (.fiArm v t) s fun u =>
         u.fieldInj = none ∧ (u.reg FI_CTRL).getLsbD 15 = false ∧ (u.reg FI_STAT).getLsbD 14 = true)))

/-! Power (R439-R468). -/

/-- R440-R447 and R464: measurements of the feeds, the overvoltage path, the share of the feeds; the path from FEED through HANDOVER and
HOLDUP and back, each state's dwell; a hold-up that is not ready; the start of the power die; its link lost and restored. -/
def Obligations.PowerPath : Prop :=
  ∀ (t : Nat) (s : State),
    (∀ va vb vh vp ia ib temp : Word, Completes (.powerMeasure va vb vh vp ia ib temp t) s fun u =>
      u.power.huVolts = min 4000 vh.toNat ∧ u.power.vpwr = min 4000 vp.toNat ∧ u.power.temp = temp.toInt ∧
      (∀ i : Fin 2,
        (let v := min 4000 (if i.val = 0 then va else vb).toNat
         let amps := (if i.val = 0 then ia else ib).toInt
         (u.feed i).volts = v ∧ (u.feed i).amps = amps ∧
         (u.feed i).phase = (if v < 600 then .absent else if v < vFail s then .low else if v < vGood s then .ok
           else if v < vOvp s then .good else .above) ∧
         (amps < -50 → (u.feed i).closed = false) ∧
         ((u.feed i).phase = .above → (s.feed i).phase ≠ .above →
           (u.feed i).ovp = true ∧ (u.feed i).closed = false ∧ (u.reg PWR_EVT).getLsbD pwrOVP = true) ∧
         ((u.feed i).phase = (s.feed i).phase → (u.feed i).since = (s.feed i).since) ∧
         ((u.feed i).phase ≠ (s.feed i).phase → (u.feed i).since = max s.now t ∧ (u.reg PWR_EVT).getLsbD (pwrFDA_CHG - i.val) = true ∧
           (s.power.link = true → (u.feed i).phase = .absent ∨ (u.feed i).phase = .low ∨ (u.feed i).phase = .above →
             FieldReported s u (Src.feed i.val) i.val)))) ∧
      u.power.sharing = (shareDue u && decide (450 ≤ u.power.share) && decide (u.power.share ≤ 550)) ∧ u.power.path = s.power.path) ∧
    (∀ i, (s.feed i).ovp = true → (s.feed i).volts + 100 < vOvp s → Completes (.ovpReclose i t) s fun u =>
      (u.feed i).ovp = false ∧ (u.feed i).closed = (s.feed i).on ∧ ∀ j, j ≠ i → u.feed j = s.feed j) ∧
    (shareDue s = true → s.power.sharing = false → Completes (.shareAlarm t) s fun u =>
      (u.reg PWR_EVT).getLsbD pwrSHARE = true ∧ (s.power.link = true → FieldReported s u Src.shareBand 0)) ∧
    (let handed (u : State) : Prop := u.power.path = .handover ∧ u.reg PWR_HANDOVERS = bumpW (s.reg PWR_HANDOVERS) 1 ∧
       (u.reg PWR_EVT).getLsbD pwrHANDOVER = true ∧ (s.power.link = true → FieldReported s u Src.handover 0)
     let returned (u : State) : Prop := u.power.path = .return_ ∧ u.reg PWR_RETURNS = bumpW (s.reg PWR_RETURNS) 1 ∧
       (u.reg PWR_EVT).getLsbD pwrRETURN = true ∧
       ∀ i, (s.feed i).phase = .good → (s.feed i).ovp = false → (u.feed i).on = true ∧ (u.feed i).closed = true
     (s.power.started = true → s.bit PWR_CTRL 15 = true → s.power.path = .feed → FeedsLost s t →
       (s.power.dwell = false → Completes (.handover t) s handed) ∧
       (s.power.dwell = true → Completes (.handover t) s fun u => u.power.path = .feed ∧ u.power.handoverDue = true) ∧
       (s.power.dwell = true → s.power.handoverDue = true → Completes (.dwellEnd t) s handed)) ∧
     (s.bit PWR_CTRL 15 = false → Completes (.handover t) s fun u => u.power.path = s.power.path ∧ SameRegs s u []) ∧
     (s.power.path = .holdup → (∃ i, (s.feed i).phase = .good) →
       (s.power.dwell = false → Completes (.returnPath t) s returned) ∧
       (s.power.dwell = true → Completes (.returnPath t) s fun u => u.power.path = .holdup ∧ u.power.returnDue = true) ∧
       (s.power.dwell = true → s.power.returnDue = true → Completes (.dwellEnd t) s returned)) ∧
     (s.power.dwell = true → s.power.handoverDue = false → s.power.returnDue = false → Completes (.dwellEnd t) s fun u =>
       u.power.dwell = false ∧ u.power.path = s.power.path)) ∧
    (s.power.path = .handover → Completes (.holdupEntry t) s fun u => u.power.path = .holdup ∧ u.power.dwell = true ∧ SameRegs s u []) ∧
    (s.power.path = .return_ → Completes (.feedEntry t) s fun u => u.power.path = .feed ∧ u.power.dwell = true ∧ SameRegs s u []) ∧
    (s.bit PWR_CTRL 15 = true → s.power.huVolts < (s.reg PWR_HU_READY).toNat → Completes (.huNotReady t) s fun u =>
      (u.reg PWR_EVT).getLsbD pwrHUNREADY = true ∧ (s.power.link = true → FieldReported s u Src.holdupNotReady 0)) ∧
    (s.power.started = false → s.power.cycling = false →
      ((∃ i, (s.feed i).phase = .good) → 900 < (s.feed 0).volts ∨ 900 < (s.feed 1).volts ∨ 900 < s.power.huVolts →
        Completes (.powerDieStart t) s fun u => u.power.started = true ∧ u.power.path = .feed ∧ u.power.dwell = true ∧
          ∀ i, (s.feed i).phase = .good → (s.feed i).ovp = false → (u.feed i).closed = true) ∧
      ((∀ i, (s.feed i).phase ≠ .good) → Completes (.powerDieStart t) s fun u => u.power.started = false)) ∧
    (s.power.link = true → Completes (.pdLinkLost t) s fun u =>
      u.power.link = false ∧ FieldReported s u Src.powerLink 0 ∧ (u.reg PWR_EVT).getLsbD pwrLINK = true ∧ u.power.path = s.power.path ∧
      ∀ i, u.feed i = s.feed i) ∧
    (s.power.link = false → s.power.started = true → s.start.fieldReset = false →
      (s.power.linkWrites = [] → Completes (.pdLinkRestored t) s fun u => u.power.link = true ∧ SameRegs s u []) ∧
      (∀ path v, s.power.linkWrites = [(path, PWR_EF_ON, v)] → s.power.cfStep = 0 → jrnBusy s = false →
        Completes (.pdLinkRestored t) s fun u => u.power.link = true ∧ u.power.linkWrites = [] ∧ u.reg PWR_EF_ON = v))

/-- R448, R449 and R451: what begins curtain fall, its steps, the exit notice on both rings, and the power cycle after it. -/
def Obligations.CurtainFall : Prop :=
  ∀ (t : Nat) (s : State),
    (let begun (u : State) (cause : Nat) : Prop :=
       u.power.cfStep = 1 ∧ u.power.cfCause = cause ∧ u.power.cfStat = pwrStat s ∧ (u.reg PWR_EVT).getLsbD pwrCFSTART = true
     s.power.cfStep = 0 → s.power.link = true →
       (s.power.path = .holdup → Completes (.curtainFallStart t) s fun u => begun u 1) ∧
       (s.power.path ≠ .holdup → s.power.started = true → s.bit PWR_CTRL 15 = false → FeedsLost s t →
         Completes (.curtainFallStart t) s fun u => begun u 2) ∧
       Completes (.curtain t) s fun u => begun u 3) ∧
    (s.power.cfStep ≠ 0 → ∀ c ∈ [Instr.curtain t, .curtainFallStart t, .returnPath t, .feedEntry t, .handover t, .holdupEntry t],
      Completes c s fun u => u.power.cfStep = s.power.cfStep ∧ u.power.cfCause = s.power.cfCause ∧ u.power.cfStat = s.power.cfStat) ∧
    (let notice : Descriptor :=
       { ep := 5, op := .sig, dring := s.ringNo, dnode := 4095, count := 0, burst := false, len := 0, cg := false, cell := 0
         addr := 0, set := s.fld PWR_CF_SIG 7 0, cycle := 0, data := [wd s.power.cfCause, s.power.cfStat] }
     s.power.cfStep = 1 → s.fab.node ≠ 0 → s.fab.node < 4000 → s.ringNo < 16 → RingsUp s → (vget s.brg.eps 5).held = [] →
      (vget s.brg.eps 5).heldSigs = [] → (vget s.brg.eps 5).posted = [] → mustHold (s.at t) 5 notice = false → Completes (.journalFlushDone t) s fun u =>
        u.power.cfStep = 2 ∧ ∀ r, ∃ e, u.queue (ringPort r) 0 = s.queue (ringPort r) 0 ++ [e] ∧
          e.frame = Frame.mk' 0 0 5 (putFld s.ringNo 15 12 ||| wd 4095) s.srcWord 0
            [0xB000, wd (vget s.brg.eps 5).seq.toNat, putFld (s.fld PWR_CF_SIG 7 0) 7 0, wd s.power.cfCause, s.power.cfStat]) ∧
    (∀ skipped, s.power.cfStep = 2 → Completes (.exitNoticeSent skipped t) s fun u =>
      u.power.cfStep = 4 ∧ u.power.cfSkip = skipped ∧ u.start.bypassLow = true ∧
      (skipped = true → s.power.link = true → FieldReported s u Src.exitSkipped 0)) ∧
    (s.power.cfStep = 4 → Completes (.curtainSettleEnd t) s fun u =>
      u.power.cfStep = 5 ∧ (u.reg PWR_EVT).getLsbD pwrCFDONE = true ∧ (s.power.link = true → FieldReported s u Src.curtainFall 0)) ∧
    (s.power.cfStep = 5 → (∃ i, (s.feed i).phase = .good) → Completes (.cfPowerCycle t) s fun u =>
      u.power.cycling = true ∧ u.power.started = false ∧ u.power.cfStep = 0 ∧ (∀ i, (u.feed i).on = false ∧ (u.feed i).closed = false) ∧
      u.start.cause = 4 ∧ u.start.hostReset = true ∧ u.start.fieldReset = true ∧ u.store.slots = s.store.slots ∧ u.store.keys = s.store.keys ∧
      (∀ a, inStore a = true → u.byte a = s.byte a) ∧ ∀ k, (u.pin k).rank = 1 ∧ (u.pin k).out = (false, false)) ∧
    Completes (.cfRestart t) s fun u => u.power.cycling = false ∧ u.power.started = s.power.started

/-- R454-R460: the accumulator of the curve and the thermal model at each measurement, as exact numbers; trips and retries; ramps, start
turns, diode readings, and what PWR_EF_ON and PWR_EF_RESET do. That the numbers are exact, and which of two causes is named, are the
model's choices (notes/assumptions/44.md). -/
def Obligations.EFuses : Prop :=
  ∀ (c : Fin 16) (amps : Word) (t : Nat) (s : State),
    (let f := s.fuse c
     let i : Rat := amps.toNat / 100
     let tref : Rat := (s.power.temp + (s.ef PWR_EF_TOFS c).toInt) / 2
     let old : Rat := match f.model with | none => tref | some m => fracRat m
     let rds : Rat := (s.ef PWR_EF_RDS c).toNat / 100000 * (1 + (s.ef PWR_EF_TC c).toNat / 10000 * (old - 25))
     let p : Rat := if fuseLive f then i * i * rds else 0
     let pole (n : Fin 3) : Rat :=
       let d := fracRat (vget f.poles n)
       let tau := (s.ef (PWR_EF_TAU n.val) c).toNat
       if tau = 0 then d else d + (p * ((s.ef (PWR_EF_ZTH n.val) c).toNat / 100) - d) / (10 * tau)
     let model : Rat := tref + pole 0 + pole 1 + pole 2
     let tlim : Rat := (s.ef PWR_EF_TLIM c).toNat
     Sound f →
       (Completes (.efMeasure c amps t) s fun u => ∃ m, (u.fuse c).model = some m ∧ fracRat m = model ∧
         ∀ n, fracRat (vget (u.fuse c).poles n) = pole n) ∧
       (Commanded s c → fuseLive f = true → ∀ q more, curvePoints s c = q :: more →
         (let j := (more.filter fun x => decide (x.1 ≤ amps.toNat)).getLast?.getD q
          let acc : Rat := if q.1 ≤ amps.toNat then fracRat f.acc + 1 / (100 * j.2)
            else if fracRat f.acc < 1 / (100 * q.2) then 0 else fracRat f.acc - 1 / (100 * q.2)
          (1 ≤ acc → Completes (.efMeasure c amps t) s fun u => FuseTripped s u c 1) ∧
          (acc < 1 → tlim ≤ model → Completes (.efMeasure c amps t) s fun u => FuseTripped s u c 3) ∧
          (acc < 1 → model < tlim → Completes (.efMeasure c amps t) s fun u =>
            (u.fuse c).phase = f.phase ∧ fracRat (u.fuse c).acc = acc ∧ SameRegs s u []))) ∧
       (Commanded s c → f.phase = .tripped → f.delayDone = true → model < tlim - 20 → Completes (.efMeasure c amps t) s fun u =>
         (u.fuse c).phase = .ramp ∧ (u.fuse c).retries = min 15 (f.retries + 1)) ∧
       (Commanded s c → f.phase = .tripped →
         (f.cause ≠ 3 ∨ (∀ m, f.model = some m → fracRat m < tlim - 20) → Completes (.efRetry c t) s fun u =>
           (u.fuse c).phase = .ramp ∧ (u.fuse c).retries = min 15 (f.retries + 1) ∧ SameRegs s u []) ∧
         (∀ m, f.cause = 3 → f.model = some m → tlim - 20 ≤ fracRat m → Completes (.efRetry c t) s fun u =>
           (u.fuse c).phase = .tripped ∧ (u.fuse c).delayDone = true ∧ SameRegs s u []))) ∧
    (Commanded s c →
      (fuseLive (s.fuse c) = true →
        (s.ef PWR_EF_INST c ≠ 0 → Completes (.efInstTrip c t) s fun u => FuseTripped s u c 2) ∧
        (s.ef PWR_EF_INST c = 0 → Completes (.efInstTrip c t) s fun u => u.fuse c = s.fuse c ∧ SameRegs s u [])) ∧
      ((s.fuse c).phase = .ramp →
        (Completes (.efRampDone c t) s fun u => (u.fuse c).phase = .on ∧ SameRegs s u []) ∧
        (Completes (.efRampTimeout c t) s fun u => FuseTripped s u c 4)) ∧
      ((s.fuse c).phase = .on → Completes (.efRetryCountRestart c t) s fun u => u.fuse c = { s.fuse c with retries := 0 }) ∧
      ((s.fuse c).phase = .wait → (∀ k, k < c → (s.fuse k).phase ≠ .wait) → Completes (.efStartTurn c t) s fun u =>
        (u.fuse c).phase = .ramp ∧ SameRegs s u []) ∧
      (∀ r : Word, bitOf (s.ef PWR_EF_CFG c) 12 = true → (s.fuse c).diodeBad = false → fuseLive (s.fuse c) = true →
        2 * ((s.ef PWR_EF_TLIM c).toNat : Int) ≤ r.toInt → Completes (.efDiodeRead c true r t) s fun u =>
          FuseTripped s u c 3 ∧ (u.fuse c).diode = some r.toInt)) ∧
    (∀ r : Word, bitOf (s.ef PWR_EF_CFG c) 12 = true → (s.fuse c).diodeBad = false → Completes (.efDiodeRead c false r t) s fun u =>
      (u.fuse c).diode = none ∧ (u.fuse c).diodeBad = true ∧ (u.reg PWR_EF_EVT).getLsbD efDIODE = true ∧
      (s.power.link = true → FieldReported s u Src.efDiode c.val)) ∧
    (∀ (r : Word) m t0, bitOf (s.ef PWR_EF_CFG c) 12 = true → (s.fuse c).diodeBad = false → (s.fuse c).model = some m → m.den ≠ 0 →
      (s.fuse c).diffSince = some t0 → t0 + secT ≤ max s.now t → (s.fuse c).diffTold = false →
      (r.toInt < 2 * fracRat m - 30 ∨ 2 * fracRat m + 30 < r.toInt) → Completes (.efDiodeRead c true r t) s fun u =>
        (u.reg PWR_EF_EVT).getLsbD efTDIFF = true ∧ (s.power.link = true → FieldReported s u Src.efDiode c.val)) ∧
    (∀ path (v : Word), Unheld s c →
      (s.power.link = true → s.power.cfStep = 0 → jrnBusy s = false → Completes (.efOnWrite path v t) s fun u =>
        u.reg PWR_EF_ON = v ∧
        (v.getLsbD c.val = false → (s.fuse c).phase ≠ .locked → (u.fuse c).phase = .off ∧ (u.fuse c).acc = ⟨0, 1⟩) ∧
        (v.getLsbD c.val = true → (s.fuse c).phase = .off → (u.fuse c).phase = .wait ∨ (u.fuse c).phase = .ramp)) ∧
      ((s.fuse c).phase = .locked →
        (v.getLsbD c.val = false → Completes (.efReset v t) s fun u => (u.fuse c).phase = .locked) ∧
        (v.getLsbD c.val = true → s.bit PWR_EF_ON c.val = false → Completes (.efReset v t) s fun u => (u.fuse c).phase = .off) ∧
        (v.getLsbD c.val = true → s.bit PWR_EF_ON c.val = true → Completes (.efReset v t) s fun u =>
          (u.fuse c).phase = .wait ∨ (u.fuse c).phase = .ramp)))

/-! The host ports and intermission (R469-R492). -/

/-- R129, R470, R471, R478, R479 and R491: frames an uplink discards, ARP, PAUSE, a change of its link, and the PTP slave.
The words of an ARP answer and of a PAUSE frame are taken from their standards (notes/assumptions/52.md). -/
def Obligations.Uplinks : Prop :=
  ∀ (up : Uplink) (t : Nat) (s : State),
    (uplinkOn s up = true →
      (∀ (bytes : Word) (kind : Fin 4), hubArmed s Src.datagram = none ∨ kind ≠ 2 →
        (Completes (.ethFrameReceive up true false bytes kind t) s fun u => Discarded s u up 1) ∧
        (9000 < bytes.toNat → Completes (.ethFrameReceive up true true bytes kind t) s fun u =>
          Discarded s u up 0 ∧ u.reg HST_LASTERR = s.reg HST_LASTERR) ∧
        (bytes.toNat ≤ 9000 → kind = 3 → Completes (.ethFrameReceive up true true bytes kind t) s fun u =>
          u.reg (hstDropReg up) = bumpW (s.reg (hstDropReg up)) 1 ∧ SameRegs s u [hstDropReg up]) ∧
        (bytes.toNat ≤ 9000 → kind ≠ 3 → Completes (.ethFrameReceive up true true bytes kind t) s fun u => SameRegs s u [])) ∧
      (∀ (mac : BitVec 48) (sender : DWord), s.accepted.isSome = true → hstIp s ≠ 0 → Completes (.arpRequest up (hstIp s) mac sender t) s fun u =>
        SentOn s u up ⟨some mac, [], none, 0x0806, [1, 0x0800, 0x0604, 2, s.reg HST_MAC_H, s.reg HST_MAC_M, s.reg HST_MAC_L, s.reg HST_IP_H, s.reg HST_IP_L,
          mac.extractLsb' 32 16, mac.extractLsb' 16 16, mac.extractLsb' 0 16, sender.extractLsb' 16 16, sender.extractLsb' 0 16]⟩) ∧
      (∀ (ip : DWord) (mac : BitVec 48) (sender : DWord), ip ≠ hstIp s ∨ hstIp s = 0 → Completes (.arpRequest up ip mac sender t) s fun u =>
        u.host.ups = s.host.ups) ∧
      (s.bit HST_CTRL 11 = true →
        (s.accepted.isSome = true → pressed s (uplinkPort up) = true → Completes (.pauseSend up t) s fun u =>
          SentOn s u up ⟨some 0x0180C2000001, [], none, 0x8808, [1, 0xFFFF]⟩ ∧ (vget u.host.ups up.ix).pausing = true) ∧
        (s.accepted.isSome = true → pressed s (uplinkPort up) = false → (vget s.host.ups up.ix).pausing = true →
          Completes (.pauseSend up t) s fun u =>
            SentOn s u up ⟨some 0x0180C2000001, [], none, 0x8808, [1, 0]⟩ ∧ (vget u.host.ups up.ix).pausing = false) ∧
        (∀ q : Word, Completes (.pauseReceive up q t) s fun u => (vget u.host.ups up.ix).pausedTo = max s.now t + q.toNat * quantumT s up)) ∧
      (s.bit HST_CTRL 11 = false → ∀ q : Word, ∀ c ∈ [Instr.pauseSend up t, .pauseReceive up q t], Completes c s fun u => u.host.ups = s.host.ups)) ∧
    (∀ speed : Fin 3,
      ((vget s.host.ups up.ix).up = true → Completes (.uplinkLinkChange up false speed t) s fun u =>
        (vget u.host.ups up.ix).up = false ∧ (vget u.host.ups up.ix).pausedTo = 0 ∧ (u.reg HST_EVT).getLsbD (hstLINK up) = true ∧
        HubReported u (Src.uplinkLost up) up.ix.val) ∧
      ((vget s.host.ups up.ix).up = false → Completes (.uplinkLinkChange up true speed t) s fun u =>
        (vget u.host.ups up.ix).up = true ∧ (vget u.host.ups up.ix).speed = speed.val ∧ (u.reg HST_EVT).getLsbD (hstLINK up) = true)) ∧
    (∀ (domain : Byte) (l2 two : Bool) (ofs : DWord) (slew : Int),
      (let mine : Prop := s.bit TIM_CFG 15 = true ∧ ptpPort s = up ∧ uplinkOn s up = true ∧ domain.toNat = s.fld HST_PTP 15 8 ∧ l2 = s.bit HST_PTP 6
       let n := ofs.toInt
       (¬mine → Completes (.ptpSync up domain l2 two ofs slew t) s fun u => u.host = s.host ∨ s.start.latched = false) ∧
       (mine → Completes (.ptpSync up domain l2 two ofs slew t) s fun u => u.host.ptpOfs = n ∧ u.host.ptpTwoStep = two ∧ u.host.ptpAt = max s.now t) ∧
       (mine → -100 ≤ n → n ≤ 100 → Completes (.ptpSync up domain l2 two ofs slew t) s fun u =>
         u.host.ptpRun = min 16 (s.host.ptpRun + 1) ∧ (15 ≤ s.host.ptpRun → u.host.ptpLock = true)) ∧
       (mine → 1000 < n ∨ n < -1000 → Completes (.ptpSync up domain l2 two ofs slew t) s fun u =>
         u.host.ptpLock = false ∧ u.host.ptpRun = 0 ∧ (s.host.ptpLock = true → HubReported u Src.ptpUnlocked 0)) ∧
       (mine → ptpBegun s = false → Completes (.ptpSync up domain l2 two ofs slew t) s fun u => u.time.ofs = s.time.ofs) ∧
       (mine → s.prompting = true → -1000000 ≤ n → n ≤ 1000000 → Completes (.ptpSync up domain l2 two ofs slew t) s fun u =>
         (let moved := u.time.ofs - s.time.ofs
          let dt : Int := (max s.now t - s.host.ptpAt : Nat)
          (s.host.ptpFreq - dt * 100 / (msT : Int)) * dt / 1000000000 ≤ moved ∧
          moved ≤ max ((s.host.ptpFreq - dt * 100 / (msT : Int)) * dt / 1000000000) ((s.host.ptpFreq + dt * 100 / (msT : Int)) * dt / 1000000000) ∧
          (s.host.ptpFreq = 0 →
            (0 ≤ n → -(n * (nsT : Int)) ≤ moved ∧ moved ≤ 0) ∧ (n ≤ 0 → 0 ≤ moved ∧ moved ≤ -(n * (nsT : Int))) ∧
            max moved (-moved) ≤ dt / 100000))) ∧
       (mine → s.prompting = true → 1000000 < n ∨ n < -1000000 → Completes (.ptpSync up domain l2 two ofs slew t) s fun u =>
         u.time.ofs = s.time.ofs ∧ u.time.ptpFar = true ∧ (s.time.ptpFar = false → (u.reg TIM_EVT).getLsbD 5 = true)))) ∧
    Completes (.ptpSyncTimeout t) s fun u =>
      u.host.ptpLock = false ∧ u.host.ptpRun = 0 ∧ (s.host.ptpLock = true → HubReported u Src.ptpUnlocked 0)

/-- R195, R197 and R472-R477: an envelope that fails a check is counted and answered with a NAK; a request's items are issued once, and a
repeat draws the kept answer; a response carries the completions; relayed frames are inserted or sent on; the library's answer reaches the
node that fetches. -/
def Obligations.Envelopes : Prop :=
  ∀ (up : Uplink) (p : EthPeer) (ws : List Word) (t : Nat) (s : State),
    (uplinkOn s up = true → (p.udp = none ∨ hstIp s ≠ 0) →
      (∀ low : Fin 4, ∀ c ∈ [Instr.envelopeRequest up p (some low) true ws t, .envelopeRelay up p (some low) true ws t, .envelopeLibrary up p (some low) true ws t],
        Completes c s fun u => Discarded s u up (low.val + 2) ∧ u.host.envs = s.host.envs ∧ u.brg.opens = s.brg.opens) ∧
      (∀ cause at_, datagramCause s up p.udp.isSome true ws = some (cause, some at_) → 4 ≤ ws.length → fld (wAt ws 0) 15 12 = 1 →
        fld (wAt ws 0) 11 8 ≤ 4 → s.accepted.isSome = true →
        ∀ c ∈ [Instr.envelopeRequest up p none true ws t, .envelopeRelay up p none true ws t, .envelopeLibrary up p none true ws t],
          Completes c s fun u => Discarded s u up cause ∧ (u.reg HST_EVT).getLsbD hstNAK = true ∧ u.reg HST_NAK = bumpW (s.reg HST_NAK) 1 ∧
            SentOn s u up ⟨some p.mac, p.tags, p.udp, if p.udp.isSome then 0x0800 else s.reg HST_ETYPE, [0x1200, wAt ws 1, 6, 0, wd cause, wd at_]⟩) ∧
      (datagramCause s up p.udp.isSome true ws = none →
        (∀ item tag, itemsOf ws 0 = some [item] → envFind (s.at t) (envKey up p (wAt ws 1)) = none → descriptorLen item = some item.length →
          (let d := parseDescriptor (envEndpoint up) item
           ∀ i : Fin 32, i.val = d.ep → judge s d = none → d.op.posted = false → d.op ≠ .gwr → d.op ≠ .range → freeTag s d.ep = some tag →
             (vget s.brg.eps i).held = [] → mustHold (s.at t) i d = false → RingsUp s → d.dring = s.ringNo → d.dnode < 4000 → s.ringNo < 16 →
             d.dnode ≠ s.fab.node → Completes (.envelopeRequest up p none true ws t) s fun u =>
               ⟨envKey up p (wAt ws 1), p, [.waits], false, 0⟩ ∈ u.host.envs ∧
               u.brg.opens = s.brg.opens ++
                 [⟨d, tag, (vget s.brg.eps i).seq.toNat, 0, [], [], .envelope (envKey up p (wAt ws 1)) 0⟩] ∧
               RequestQueued s u d d.dnode tag (vget s.brg.eps i).seq.toNat)) ∧
        (∀ items e, itemsOf ws 0 = some items → envFind (s.at t) (envKey up p (wAt ws 1)) = some e →
          Completes (.envelopeRequest up p none true ws t) s fun u =>
            u.reg HST_DUPENV = bumpW (s.reg HST_DUPENV) 1 ∧ u.brg.opens = s.brg.opens ∧ u.sw = s.sw ∧ u.host.envs = s.host.envs) ∧
        (∀ item, itemsOf ws 3 = some [item] →
          (let f := frameOf (innermost 5 item)
           let depth := relayDepth 5 ws
           (f.dring = s.ringNo → f.dnode < 4000 → f.dnode ≠ s.fab.node → RingsUp s → s.reg SWQ_SMP_N = 0 →
             accepts s (uplinkPort up) (f.sub % 32) f = true → (f.cls = 0 → f.payload.length ≤ 32) →
             Completes (.envelopeRelay up p none true ws t) s fun u => QueuedOnRing s u (uplinkPort up).val depth f) ∧
           (f.dring ≠ s.ringNo → 3 ≤ depth → f.type ≠ 0 → Completes (.envelopeRelay up p none true ws t) s fun u =>
             u.reg FAB_NOROUTE = bumpW (s.reg FAB_NOROUTE) 1 ∧ HubReported u Src.noRoute f.dring ∧ u.sw = s.sw) ∧
           (f.dring ≠ s.ringNo → depth < 3 → ws.length ≤ 512 → exitNode s f.dring = some s.fab.node → portOff s (jointPort s) = false →
             Completes (.envelopeRelay up p none true ws t) s fun u =>
               (let cls := if f.cls = 0 ∧ 32 < ws.length then 1 else f.cls
                u.queue (jointPort s) cls = s.queue (jointPort s) cls ++
                  [⟨Frame.mk' cls 3 0 (putFld s.ringNo 15 12 ||| putFld s.fab.node 11 0) s.srcWord 0 ws, (uplinkPort up).val, u.now, 0, none, depth⟩])))) ∧
        (∀ item n k rest, itemsOf ws 4 = some [item] → s.prompting = true →
          p.udp = some (s.reg HST_LIB_IP_H ++ s.reg HST_LIB_IP_L, s.reg HST_LIB_UDP) → s.host.library = (n, k) :: rest → n < 4000 → n ≠ s.fab.node →
          s.fab.node ≠ 0 → s.ringNo < 16 → RingsUp s →
          (let frame (cls sub : Nat) : Frame := Frame.mk' cls 1 sub (putFld s.ringNo 15 12 ||| putFld n 11 0) s.srcWord 0 (item.drop 1)
           (fld (wAt item 0) 7 0 = 0x13 → Completes (.envelopeLibrary up p none true ws t) s fun u =>
             u.host.library = s.host.library ∧ QueuedOnRing s u 20 0 (frame 3 0x13)) ∧
           (fld (wAt item 0) 7 0 = 0x14 → Completes (.envelopeLibrary up p none true ws t) s fun u =>
             u.host.library = rest ∧ QueuedOnRing s u 20 0 (frame 1 0x14)))))) ∧
    (∀ e c, s.host.envs = [e] → e.key.uplink = up → e.done = false → e.items = [.done c] → Completes (.envelopeResponse up t) s fun u =>
      u.host.envs = [{ e with done := true, at_ := max s.now t }] ∧
      (s.accepted.isSome = true → uplinkOn s up = true →
        SentOn s u up ⟨some e.peer.mac, e.peer.tags, e.peer.udp, if e.peer.udp.isSome then 0x0800 else s.reg HST_ETYPE,
          [0x1100, e.key.seq, wd ((completionWords c).length + 6), 1, wd ((completionWords c).length + 2), 0] ++ completionWords c⟩)) ∧
    (∀ n k rest, s.host.library = (n, k) :: rest → n < 4000 → n ≠ s.fab.node → s.fab.node ≠ 0 → s.ringNo < 16 → RingsUp s →
      Completes (.libraryReplyTimeout t) s fun u =>
        u.host.library = rest ∧ QueuedOnRing s u 20 0 (Frame.mk' 1 1 0x14 (putFld s.ringNo 15 12 ||| putFld n 11 0) s.srcWord 0 [1]))

/-- R480-R482: a QSPI frame that ends wrongly, fails its CRC or asks what is not allowed is rejected with its result and no effect; an
accepted one writes or reads its words, hands endpoint 0 its descriptor, or returns completion words. -/
def Obligations.QspiFrames : Prop :=
  ∀ (cmd : Word) (addr : DWord) (ws : List Word) (crc : Byte) (late : Bool) (t : Nat) (s : State), qspiOn s = true →
    (let op := fld cmd 15 12
     let frames (e : Fin 4) : List (Instr × Nat) :=
       [(.qspiWrite cmd addr ws crc e t, 1), (.qspiRead cmd addr late e t, 2), (.qspiSubmit cmd ws crc e t, 3), (.qspiFetch cmd late e t, 4)]
     let sum (covered : List Word) : Prop := crc.toNat = crcWords 8 0x07 0xFF covered
     let wordsOk : Prop := fld cmd 10 6 = 0 ∧ addr.toNat % 2 = 0 ∧ (bitOf cmd 11 = true ∨ s.bit HST_QS_CFG 13 = false)
     (∀ e, e ≠ 0 → ∀ x ∈ frames e, op = x.2 → Completes x.1 s fun u => QspiRejected s u e.val) ∧
     (bitOf cmd 11 = false → s.bit HST_QS_CFG 13 = true → ∀ x ∈ frames 0, op = x.2 → Completes x.1 s fun u => QspiRejected s u 4) ∧
     (hubArmed s Src.qspiReject = none →
       (op = 1 → bitOf cmd 11 = true → ¬sum (cmd :: addr.extractLsb' 16 16 :: addr.extractLsb' 0 16 :: ws) →
         Completes (.qspiWrite cmd addr ws crc 0 t) s fun u => QspiRejected s u 4) ∧
       (op = 3 → bitOf cmd 11 = true → ¬sum (cmd :: ws) → Completes (.qspiSubmit cmd ws crc 0 t) s fun u => QspiRejected s u 4) ∧
       (op = 1 → wordsOk → (bitOf cmd 11 = true → sum (cmd :: addr.extractLsb' 16 16 :: addr.extractLsb' 0 16 :: ws)) → s.brg.lock = none →
         0x400000 ≤ addr.toNat → addr.toNat + 2 * (fld cmd 5 0 + 1) ≤ 0x408000 →
         (∀ i < fld cmd 5 0 + 1, pubRefuses s ((addr.toNat - 0x400000) / 2 + i) = false ∧ isHealth s ((addr.toNat - 0x400000) / 2 + i) = false) →
         Completes (.qspiWrite cmd addr ws crc 0 t) s fun u =>
           u.host.qsResult = 0 ∧ u.host.qsLeft = 0 ∧
           ∀ i < fld cmd 5 0 + 1, u.fillWord ((addr.toNat - 0x400000) / 2 + i) = wAt ws i) ∧
       (op = 3 → fld cmd 10 6 = 0 → (bitOf cmd 11 = true ∨ s.bit HST_QS_CFG 13 = false) → (bitOf cmd 11 = true → sum (cmd :: ws)) →
         (qspiFull (s.at t) = true → Completes (.qspiSubmit cmd ws crc 0 t) s fun u => QspiRejected s u 8) ∧
         (let item := ws.take (fld cmd 5 0 + 1)
          let d := parseDescriptor 0 item
          ∀ tag, qspiFull (s.at t) = false → descriptorLen item = some item.length → judge s d = none → d.op.posted = false → d.op ≠ .gwr →
            d.op ≠ .range → freeTag s 0 = some tag → mustHold (s.at t) 0 d = false → RingsUp s → d.dring = s.ringNo → d.dnode < 4000 → s.ringNo < 16 → d.dnode ≠ s.fab.node →
            Completes (.qspiSubmit cmd ws crc 0 t) s fun u =>
              u.host.qsResult = 0 ∧ u.brg.opens = s.brg.opens ++ [⟨d, tag, (vget s.brg.eps 0).seq.toNat, 0, [], [], .plain⟩] ∧
              RequestQueued s u d d.dnode tag (vget s.brg.eps 0).seq.toNat))) ∧
     (op = 2 → wordsOk → late = false → s.brg.lock = none → 0x800000 ≤ addr.toNat → addr.toNat + 2 * (fld cmd 5 0 + 1) ≤ 0x880000 →
       Completes (.qspiRead cmd addr late 0 t) s fun u =>
         u.host.qsShown = qspiStatus s ∧
         u.host.qsCover = (if bitOf cmd 11 then some [cmd, addr.extractLsb' 16 16, addr.extractLsb' 0 16] else none) ∧
         u.host.qsResult = 0 ∧ u.host.qsLeft = 0 ∧ u.host.qsOut = (List.range (fld cmd 5 0 + 1)).map (fun i => s.word (addr.toNat + 2 * i)) ∧
         SameMemory s u) ∧
     (op = 2 → bitOf cmd 11 = true ∨ s.bit HST_QS_CFG 13 = false → late = true → Completes (.qspiRead cmd addr late 0 t) s fun u => QspiRejected s u 5) ∧
     (op = 2 → bitOf cmd 11 = true ∨ s.bit HST_QS_CFG 13 = false → late = false → addr.toNat % 2 = 1 →
       Completes (.qspiRead cmd addr late 0 t) s fun u => QspiRejected s u 6) ∧
     (op = 4 → bitOf cmd 11 = true ∨ s.bit HST_QS_CFG 13 = false → fld cmd 10 6 = 0 → late = false → Completes (.qspiFetch cmd late 0 t) s fun u =>
       u.host.qsResult = 0 ∧ u.host.qsOut = (List.range (fld cmd 5 0 + 1)).map (wAt s.host.qsFetch) ∧
       u.host.qsFetch = s.host.qsFetch.drop (fld cmd 5 0 + 1) ∧ SameMemory s u))

/-- R483, R486, R488 and R489: intermission is asked for two cycles on, ended by command or by a WAKE sequence, which are logged; reasons
arise, are sent, and the log is read. -/
def Obligations.Intermission : Prop :=
  ∀ (t : Nat) (s : State),
    (s.prompting = true → s.cue.scene.target = none → s.host.intm = .running → Completes (.intmEnter t) s fun u =>
      u.host.intm = .pending ∧ u.host.intmFrom = some (refCycle s .a + 2) ∧ u.host.intmRef = false) ∧
    (s.prompting = false ∨ s.cue.scene.target ≠ none ∨ s.host.intm ≠ .running → Completes (.intmEnter t) s fun u =>
      u.host.intm = s.host.intm ∧ u.host.intmFrom = s.host.intmFrom ∧ u.host.intmRef = true) ∧
    (s.prompting = true → s.host.intm = .inside →
      (Completes (.intmResume t) s fun u => u.host.intmClear = true ∧ (s.host.intmClear = false → u.host.intmCause = 1) ∧
        (s.host.wake.length < 16 → u.host.wake = s.host.wake ++ [⟨false, 0x80, wd s.present.toNat⟩])) ∧
      (∀ r b0 b1 b2, Completes (.wakeReceive r b0 b1 b2 t) s fun u =>
        u.host.intmClear = true ∧ (s.host.intmClear = false → u.host.intmCause = 2))) ∧
    (s.prompting = false ∨ s.host.intm ≠ .inside → Completes (.intmResume t) s fun u =>
      u.host.intmClear = s.host.intmClear ∧ u.host.wake = s.host.wake ∧ SameRegs s u []) ∧
    (s.host.intm = .inside → s.bit HST_WAKE_EN 1 = true → Completes (.intmWake t) s fun u => 2 ∈ u.host.reasons) ∧
    (∀ r (reason : Fin 6), s.host.intm = .inside → reason.val ∈ s.host.reasons → eventOpen (s.at t) r = true → (s.stream r).frame = none →
      (inserter s).isSome = true → guardShut s = false →
      Completes (.wakeSequenceSend r reason t) s fun u =>
        Sends s u r [.wake (BitVec.ofNat 8 reason.val), .wake (BitVec.ofNat 8 reason.val), .wake (BitVec.ofNat 8 reason.val)] ∧
        reason.val ∈ u.host.sentReasons ∧ u.host.intmSent = true) ∧
    (∀ r b0 b1 b2,
      (let m : Byte := if b0 = b1 ∨ b0 = b2 then b0 else if b1 = b2 then b1 else 0
       (s.host.wake.length < 16 → Completes (.wakeReceive r b0 b1 b2 t) s fun u =>
         u.host.wake = s.host.wake ++ [⟨decide (r = .b), m, wd s.present.toNat⟩] ∧ (u.reg HST_EVT).getLsbD 10 = true) ∧
       (16 ≤ s.host.wake.length → Completes (.wakeReceive r b0 b1 b2 t) s fun u =>
         u.host.wake = s.host.wake ∧ u.reg HST_WAKE_LOST = bumpW (s.reg HST_WAKE_LOST) 1 ∧ HubReported u Src.wakeLogLost 0))) ∧
    (∀ path, s.lockedOut path = false → quiet s path = false →
      (∀ e rest, s.host.wake = e :: rest → Completes (.wakeLogPop path t) s fun u =>
        u.host.wake = rest ∧ u.regSel HST_WAKE_W1 path.code = e.cycle) ∧
      (s.host.wake = [] → Completes (.wakeLogPop path t) s fun u => u.host.wake = [] ∧ u.regSel HST_WAKE_W1 path.code = 0)) ∧
    (∀ path e rest, s.lockedOut path = false → quiet s path = true → s.host.wake = e :: rest → Completes (.wakeLogPop path t) s fun u =>
      u.host.wake = s.host.wake ∧ u.regSel HST_WAKE_W1 path.code = e.cycle)

/-! Register access, resets, debugging and the Ramuth registers (R493-R532, R567). -/

/-- R7, R10, R384, R440, R450, R464 and R496-R502: plain writes and what holds them back; guarded sequences, their completion and their five
failures; the parity scrubber; while the target is locked such a write waits (R223). The packing of a parity report's DETAIL is the model's
choice (notes/assumptions/50.md). -/
def Obligations.RegistersWritten : Prop :=
  ∀ (path : Path) (addr : BitVec 17) (v : Word) (single : Bool) (t : Nat) (s : State),
    (s.lockedOut path = true → ∀ r, regRow? (canonReg addr.toNat) = some r → r.guarded = false →
      Completes (.registerWrite path addr v t) s fun u => SameRegs s u [] ∧ SameMemory s u ∧ u.paths = s.paths ∧
        u.brg.blocked = s.brg.blocked ++ [⟨path, .none, addr.toNat, 1, false, some [v]⟩]) ∧
    (s.lockedOut path = false →
     let a := canonReg addr.toNat
     let field := decide (0x10000 ≤ a)
     (∀ r, regRow? a = some r → r.guarded = false →
       (Unarmed s path →
         (∀ k, selOf s path a r.sel = some k → r.sel ≠ .core → inert a = true → closingReg a = false → Open s a r.persistent →
           Completes (.registerWrite path addr v t) s fun u => RegTook s u a k r.rw r.w1c v) ∧
         (powerReg a = true → s.power.link = false → Completes (.registerWrite path addr v t) s fun u =>
           SameRegs s u [] ∧ u.power.linkWrites = s.power.linkWrites ++ [(path, a, v)]) ∧
         (∀ k, selOf s path a r.sel = some k → r.persistent = true → (powerReg a = true → s.power.link = true) →
           (s.power.cfStep ≠ 0 → Completes (.registerWrite path addr v t) s fun u =>
             SameRegs s u [PWR_CF_NOTP] ∧ u.reg PWR_CF_NOTP = bumpW (s.reg PWR_CF_NOTP) 1 ∧ FieldReported s u Src.persistRefused 0) ∧
           (s.power.cfStep = 0 → jrnBusy s = true → inert a = true → Completes (.registerWrite path addr v t) s fun u => SameRegs s u []))) ∧
       (∀ g, armed s path field = some g → (field = true → armed s path false = none) → inert a = true → max s.now t ≤ g.at_ + 2 * usT →
         a ∉ [HUB_GW_FAIL, HUB_GW_STAT, HUB_GW_LAST] → r.sel ≠ .core → Completes (.registerWrite path addr v t) s fun u =>
           GwNamed u path g.addr 3 ∧ u.reg HUB_GW_FAIL = bumpW (s.reg HUB_GW_FAIL) 1 ∧ armed u path field = none)) ∧
     (regRow? a = none → twinOf a = none → Unarmed s path → (powerReg a = true → s.power.link = true) →
       Completes (.registerWrite path addr v t) s fun u => SameRegs s u [] ∧ SameMemory s u) ∧
     (∀ r, regRow? a = some r → r.guarded = true → Unarmed s path →
       (Completes (.guardedValueWrite path addr v true t) s fun u =>
         armed u path field = some ⟨a, v, max s.now t⟩ ∧ SameRegs s u [] ∧ SameMemory s u) ∧
       (Completes (.guardedValueWrite path addr v false t) s fun u => GwFailed s u path a 5 ∧ armed u path field = none)) ∧
     (∀ b, twinOf a = some b →
       (Unarmed s path → Completes (.twinWrite path addr v single t) s fun u => GwFailed s u path b (if single then 4 else 5)) ∧
       (∀ g, armed s path field = some g → (field = true → armed s path false = none) → max s.now t ≤ g.at_ + 2 * usT →
         (g.addr = b → v = ~~~ g.value → ∀ r k, regRow? b = some r → selOf s path b r.sel = some k → r.sel ≠ .core →
           (inert b = true → closingReg b = false → Open s b r.persistent → thresholdRefused s b g.value = false ∨ r.persistent = false →
             Completes (.twinWrite path addr v true t) s fun u => RegTook s u b k r.rw r.w1c g.value ∧ armed u path field = none) ∧
           (Open s b r.persistent → r.persistent = true →
             (b = PWR_VFAIL ∧ (s.reg PWR_VGOOD).toNat < g.value.toNat + 100) ∨
             (b = PWR_VGOOD ∧ (g.value.toNat < (s.reg PWR_VFAIL).toNat + 100 ∨ (s.reg PWR_VOVP).toNat < g.value.toNat + 200)) ∨
             (b = PWR_VOVP ∧ g.value.toNat < (s.reg PWR_VGOOD).toNat + 200) →
             Completes (.twinWrite path addr v true t) s fun u => SameRegs s u [])) ∧
         (g.addr = b → v ≠ ~~~ g.value → Completes (.twinWrite path addr v true t) s fun u =>
           GwFailed s u path b 1 ∧ armed u path field = none) ∧
         (g.addr = b → Completes (.twinWrite path addr v false t) s fun u => GwFailed s u path b 5 ∧ armed u path field = none) ∧
         (g.addr ≠ b → Completes (.twinWrite path addr v true t) s fun u =>
           GwNamed u path b 4 ∧ u.reg HUB_GW_FAIL = bumpW (bumpW (s.reg HUB_GW_FAIL) 1) 1 ∧ armed u path field = none)))) ∧
    (∀ field g, armed s path field = some g →
      (g.at_ + 2 * usT < max s.now t → Completes (.guardLate path field t) s fun u => GwFailed s u path g.addr 2 ∧ armed u path field = none) ∧
      (max s.now t ≤ g.at_ + 2 * usT → Completes (.guardLate path field t) s fun u => armed u path field = some g ∧ SameRegs s u [])) ∧
    (s.fieldInj = none → hubArmed s Src.hubParity = none →
      (Completes (.parityScrub none t) s fun u => SameRegs s u [] ∧ SameMemory s u) ∧
      (∀ (sel : Word) (shadow : Bool),
        (let a := canonReg addr.toNat
         let d := a / 0x400 % 64 * 128 + a % 0x100 / 2
         hasParity a = true → closingReg a = false → a ∉ [HUB_PAR_ERR, HUB_PAR_LAST] → Completes (.parityScrub (some (addr, sel, shadow)) t) s fun u =>
           u.reg HUB_PAR_ERR = bumpW (s.reg HUB_PAR_ERR) 1 ∧ u.reg HUB_PAR_LAST = regName a ∧
           (a < 0x10000 → HubReported u Src.hubParity d) ∧ (0x10000 ≤ a → FieldReported s u Src.fieldParity d) ∧
           (shadow = false → SameRegs s u [HUB_PAR_ERR, HUB_PAR_LAST]) ∧
           (shadow = true → ∀ r, regRow? a = some r → r.rw ≠ 0 → u.regSel a sel.toNat = restMask a (regRestore (regKey a sel.toNat))
             (match jrnValue s.store.jrn a sel.toNat with | some (x, _) => x | none => itemValue s.store.items a sel.toNat)))))

/-- R304, R463, R503, R504 and R567: what each kind of reset clears and what outlasts it, the release of each side, and the field side alone.
That RAM reads 0 after power-on, and what of it a reset keeps, are the model's reading (notes/assumptions/2.md and 49.md). -/
def Obligations.Resets : Prop :=
  ∀ (t : Nat) (s : State),
    (let kept (u : State) : Prop := u.store.slots = s.store.slots ∧ u.store.keys = s.store.keys ∧ u.pending = s.pending
     Completes (.powerOnReset t) s (fun u =>
       u.start.cause = (if s.power.cycling then 4 else 0) ∧ u.start.hostReset = true ∧ u.start.fieldReset = true ∧ u.start.bypassLow = true ∧
       kept u ∧ (∀ a, RegCleared u a) ∧ (∀ a, u.byte a = if inStore a then s.byte a else 0) ∧ PinsUndriven u ∧
       (∀ n, (u.cl n).online = false ∧ (u.cl n).cfg = none) ∧ (∀ k, (u.core k).claim = .c0) ∧ u.dark.dark = false) ∧
     (s.start.hostReset = false → Completes (.resetNAssert t) s fun u =>
       u.start.cause = 1 ∧ u.start.hostReset = true ∧ u.start.fieldReset = true ∧ u.start.resetLow = true ∧ u.start.bypassLow = true ∧ kept u ∧
       (∀ a, RegCleared u a) ∧ (∀ a, u.byte a = if inPublish a then (if inStore a then s.byte a else 0) else s.byte a) ∧ PinsUndriven u ∧
       u.power.path = s.power.path ∧ u.dark.dark = s.dark.dark) ∧
     (s.start.hostReset = true → Completes (.resetNAssert t) s fun u =>
       u.start.resetLow = true ∧ u.start.hostReset = true ∧ SameRegs s u [] ∧ SameMemory s u) ∧
     (Completes (.resetRelease false t) s fun u => u.start.hostReset = false ∧ u.start.resetLow = false ∧ u.start.fieldReset = s.start.fieldReset ∧
       SameRegs s u [] ∧ SameMemory s u) ∧
     (s.start.fieldReset = true → Completes (.resetRelease true t) s fun u =>
       u.start.fieldReset = false ∧ u.power.link = s.power.started ∧ u.start.hostReset = s.start.hostReset ∧ SameMemory s u) ∧
     (s.power.cfStep = 0 → s.start.warm = false → s.start.hostReset = false → jrnBusy s = false → Completes (.warm t) s fun u =>
       u.start.cause = 2 ∧ u.start.warm = true ∧ kept u ∧ u.reg HUB_WARMC = bumpW (s.reg HUB_WARMC) 1 ∧ HubReported u Src.warmRestart 0 ∧
       (∀ a, a ≠ HUB_WARMC → (a < 0x15800 ∨ 0x16000 ≤ a) → RegCleared u a) ∧
       (∀ a k r, k < 65536 → regRow? a = some r → r.persistent = true → 0x15800 ≤ a → a < 0x16000 → u.regSel a k = s.regSel a k) ∧
       (∀ p, (u.link p).state = (s.link p).state) ∧ u.power.path = s.power.path ∧ u.power.feeds = s.power.feeds ∧
       (∀ k, (u.core k).claim = .c0) ∧ ∀ n, (u.cl n).online = false) ∧
     (s.power.cfStep ≠ 0 ∨ s.start.warm = true ∨ s.start.hostReset = true → Completes (.warm t) s fun u =>
       u.start.cause = s.start.cause ∧ SameRegs s u [] ∧ SameMemory s u ∧ u.store = s.store) ∧
     (s.start.hostReset = false → s.start.fieldReset = false → Completes (.fieldSideReset t) s fun u =>
       u.start.fieldReset = true ∧ u.start.resend = true ∧ kept u ∧ PinsUndriven u ∧ u.power.link = false ∧
       (∀ a, (0x10000 ≤ a ∧ (a < 0x15800 ∨ 0x16000 ≤ a)) → RegCleared u a) ∧
       (∀ a k, k < 65536 → (a < 0x10000 ∨ (0x15800 ≤ a ∧ a < 0x16000)) → closingReg a = false → u.regSel a k = s.regSel a k) ∧
       (∀ n, (u.cl n).online = false ∧ (u.cl n).cfg = none) ∧ (∀ k, (u.core k).fieldClaim = .c0 ∧ (u.core k).claim = (s.core k).claim) ∧
       (∀ a, inStore a = true ∨ inPublish a = true → u.byte a = s.byte a) ∧ u.backlog = []))

/-- R505-R509: the debug access port's reads, writes, refusals and timeout; the instructions of the TAP, the hold of a scan and the field
chain's messages. -/
def Obligations.DebugPorts : Prop :=
  ∀ (t : Nat) (s : State),
    (s.dbg.tap = .dap →
      (let ended (u : State) (addr st : Nat) (v : Word) : Prop :=
         u.dbg.dap = 0 ∧ u.dbg.dapBusy = false ∧ u.dbg.dapAddr = addr ∧ u.dbg.dapStatus = st ∧ u.dbg.dapData = v
       (∀ (addr : DWord) (g : BitVec 48) (v : Word), s.dbg.dapBusy = true →
         ∀ c ∈ [Instr.lread addr t, .lwrite addr v t, .gread g t, .gwrite g v t], Completes c s fun u =>
           u.dbg = { s.dbg with dap := 2 } ∧ SameRegs s u [] ∧ SameMemory s u ∧ u.brg.opens = s.brg.opens) ∧
       (s.dbg.dapBusy = false →
         (∀ (addr : DWord) (g : BitVec 48) (v : Word), s.bit DBG_CTRL 14 = false →
           (Completes (.lwrite addr v t) s fun u => ended u addr.toNat stUNMAPPED 0 ∧ SameRegs s u [] ∧ SameMemory s u) ∧
           (Completes (.gwrite g v t) s fun u => ended u g.toNat stUNMAPPED 0 ∧ u.brg.opens = s.brg.opens)) ∧
         (∀ addr : DWord, addr.toNat % 2 = 1 → Completes (.lread addr t) s fun u => ended u addr.toNat stSIZE 0) ∧
         (∀ addr : DWord, addr.toNat % 2 = 0 →
           (0x800000 ≤ addr.toNat → addr.toNat < 0x880000 → Completes (.lread addr t) s fun u => ended u addr.toNat stOK (s.word addr.toNat) ∧ SameMemory s u) ∧
           (localPlace addr.toNat = .unmapped → Completes (.lread addr t) s fun u => ended u addr.toNat stUNMAPPED 0) ∧
           (0x100000 ≤ addr.toNat → addr.toNat < 0x130000 → Completes (.lread addr t) s fun u =>
             u.dbg.dap = 1 ∧ u.dbg.dapBusy = true ∧ u.brg.fieldWaits = s.brg.fieldWaits ++ [⟨s.brg.nextAccess, .dap, 1, stOK, []⟩] ∧
             ∃ more, (u.bdir .hf).ready = (s.bdir .hf).ready ++
               ⟨⟨.regAccess, .regAccess s.brg.nextAccess .debugPort addr.toNat 1 none true⟩, []⟩ :: more) ∧
           (∀ v : Word, s.bit DBG_CTRL 14 = true → 0x400000 ≤ addr.toNat → addr.toNat < 0x408000 →
             pubRefuses s ((addr.toNat - 0x400000) / 2) = false → isHealth s ((addr.toNat - 0x400000) / 2) = false →
             Completes (.lwrite addr v t) s fun u => ended u addr.toNat stOK 0 ∧ u.fillWord ((addr.toNat - 0x400000) / 2) = v)) ∧
         (∀ (g : BitVec 48) (w : Option Word) tag,
           (let d : Descriptor :=
              { ep := 4, op := if w.isSome then .wr else .rd, dring := (g.extractLsb' 44 4).toNat, dnode := (g.extractLsb' 32 12).toNat, count := 0
                burst := false, len := 0, cg := false, cell := 0, addr := (g.extractLsb' 0 32).toNat, set := 0, cycle := 0, data := w.toList }
            judge s d = none → freeTag s 4 = some tag → mustHold (s.at t) 4 d = false → RingsUp s →
              d.dring = s.ringNo → d.dnode < 4000 → d.dnode ≠ s.fab.node → (w.isSome = true → s.bit DBG_CTRL 14 = true) →
              Completes (match w with | none => .gread g t | some v => .gwrite g v t) s fun u =>
                u.dbg.dap = 1 ∧ u.dbg.dapBusy = true ∧
                u.brg.opens = s.brg.opens ++ [⟨d, tag, (vget s.brg.eps 4).seq.toNat, 0, [], [], .dap⟩] ∧
                RequestQueued s u d d.dnode tag (vget s.brg.eps 4).seq.toNat))))) ∧
    (s.dbg.dapBusy = true → Completes (.dapTimeout t) s fun u =>
      u.dbg.dap = 0 ∧ u.dbg.dapBusy = false ∧ u.dbg.dapStatus = stTIMEOUT ∧ (∀ o ∈ u.brg.opens, o.via ≠ .dap) ∧ ∀ w ∈ u.brg.fieldWaits, w.who ≠ .dap) ∧
    (∀ levels, ∀ x ∈ [(Instr.extest levels t, TapInstr.extest), (.highz t, .highz), (.clamp t, .clamp), (.fextest levels t, .fextest),
        (.samplePreload levels t, .sample), (.fsample levels t, .fsample), (.idcode t, .idcode), (.dap t, .dap), (.bypass t, .bypass),
        (.tapReset t, .idcode)], Completes x.1 s fun u => u.dbg.tap = x.2 ∧ SameMemory s u ∧
          (scanHolds s = false → scanTap x.2 = true → s.bit DBG_CTRL 13 = true →
            (u.reg DBG_EVT).getLsbD dbgSCAN = true ∧ HubReported u Src.scanHolds 0) ∧
          (s.bit DBG_CTRL 13 = false ∨ scanTap x.2 = false → SameRegs s u [])) ∧
    (∀ levels, (∀ c ∈ [Instr.extest levels t, .samplePreload levels t], Completes c s fun u => u.dbg.hostChain = levels) ∧
      (s.bit DBG_CTRL 13 = true →
        (Completes (.extest levels t) s fun u => hubIrqN u = some ((levels[8]?).getD false)) ∧
        (Completes (.highz t) s fun u => hubIrqN u = none) ∧
        (Completes (.clamp t) s fun u => hubIrqN u = some ((s.dbg.hostChain[8]?).getD false))) ∧
      ∀ c ∈ [Instr.fsample levels t, .fextest levels t], Completes c s fun u =>
        ∃ more, (u.bdir .hf).ready = (s.bdir .hf).ready ++ ⟨⟨.debugMsg, .chain (packBits 145 levels)⟩, []⟩ :: more) ∧
    Completes (.fieldChainRefresh t) s fun u => ∃ more, (u.bdir .fh).ready = (s.bdir .fh).ready ++
      ⟨⟨.debugMsg, .chain (packBits 145 (s.pins.toList.map (·.raw) ++ [decide (tallyF (s.at t) ≠ 0)]))⟩, []⟩ :: more

/-- R511-R518: HALT, FORCE, STEP, RESUME and CLRBRK; an engine's registers through DBG_ENG_REG; the trace buffers read and cleared.
The packing of the DETAIL of a broken lock is the model's choice (notes/assumptions/50.md). -/
def Obligations.EnginesDebugged : Prop :=
  ∀ (n : Fin 12) (e : Fin 14) (path : Path) (t : Nat) (s : State),
    (let x := s.eng n e
     (x.run = .running → holdsLock s n e = false → x.stall = none → migStopped s n e = false →
       ∀ c ∈ [Instr.dbgHalt n e t, .dbgForce n e t], Completes c s fun u =>
         u.eng n e = { x with run := .halted, haltCause := 1, haltPending := none, stepping := false } ∧
         (u.reg DBG_EVT).getLsbD dbgHALTED = true ∧ SameMemory s u ∧ OtherEngines s u n e) ∧
     (x.run = .running → (holdsLock s n e = true ∨ x.stall.isSome = true ∨ migStopped s n e = true) → Completes (.dbgHalt n e t) s fun u =>
       u.eng n e = { x with haltPending := some 1 } ∧ SameRegs s u [] ∧ SameMemory s u ∧ OtherEngines s u n e) ∧
     (x.run = .running → holdsLock s n e = true → x.stall = none → migStopped s n e = false → Completes (.dbgForce n e t) s fun u =>
       (u.cl n).lock = none ∧ (u.cl n).broken = some e ∧ (u.eng n e).run = .halted ∧ (u.eng n e).regs = x.regs ∧ (u.eng n e).pc = x.pc ∧
       (u.reg DBG_EVT).getLsbD dbgBROKEN = true ∧ HubReported u Src.lockBroken (16 * n.val + e.val) ∧ SameMemory s u) ∧
     (x.run ≠ .running → ∀ c ∈ [Instr.dbgHalt n e t, .dbgForce n e t], Completes c s fun u => u.eng n e = x ∧ SameRegs s u [] ∧ SameMemory s u) ∧
     (x.run = .halted →
       (Completes (.dbgResume n e t) s fun u =>
         u.eng n e = { x with run := .running, haltCause := 0, haltPending := none, stepping := false } ∧
         ((s.cl n).broken = some e → (u.cl n).broken = none) ∧ SameMemory s u ∧ OtherEngines s u n e) ∧
       (x.dark.isSome = true ∨ x.stall.isSome = true → Completes (.dbgStep n e t) s fun u =>
         u.eng n e = { x with run := .running, haltCause := 0, haltPending := none, stepping := true }) ∧
       (∀ p, x.phys = some p → x.dark = none → x.stall = none → x.intm = false → x.wdTrap = false → migStopped s n e = false →
         holdsLock s n e = false → eccArmed s n = false → s.marked (codeBase n.val p.val + 2 * x.pc.toNat) = false →
         s.word (codeBase n.val p.val + 2 * x.pc.toNat) = 0 → Completes (.dbgStep n e t) s fun u =>
           (u.eng n e).run = .halted ∧ (u.eng n e).haltCause = 1 ∧ (u.eng n e).pc = x.pc + 1 ∧ (u.eng n e).regs = x.regs ∧ SameMemory s u ∧
           OtherEngines s u n e)) ∧
     (x.run ≠ .halted → ∀ c ∈ [Instr.dbgResume n e t, .dbgStep n e t], Completes c s fun u => u.eng n e = x ∧ SameRegs s u [] ∧ SameMemory s u) ∧
     (Completes (.clrbrk n t) s fun u => (u.cl n).broken = none ∧ u.eng n e = x ∧ SameRegs s u [] ∧ SameMemory s u) ∧
     (∀ v : Word, s.lockedOut path = false → dbgEngine s path = some (n, e) → x.run = .halted →
       (let k := fld (s.regSel DBG_ENG_REGSEL path.code) 4 0
        (∀ r : Fin 16, k = r.val → Completes (.dbgEngReg path (some v) t) s fun u => u.eng n e = { x with regs := vset x.regs r v }) ∧
        (k = 16 → Completes (.dbgEngReg path (some v) t) s fun u => u.eng n e = { x with pc := v.setWidth 12 }) ∧
        (k = 17 → Completes (.dbgEngReg path (some v) t) s fun u =>
          u.eng n e = { x with z := v.getLsbD 3, n := v.getLsbD 2, c := v.getLsbD 1, v := v.getLsbD 0 }) ∧
        (k = 18 → Completes (.dbgEngReg path (some v) t) s fun u => u.eng n e = { x with ta := v.getLsbD 0 }))) ∧
     (∀ v : Word, dbgEngine s path = some (n, e) → x.run ≠ .halted → Completes (.dbgEngReg path (some v) t) s fun u => u.eng n e = x) ∧
     (Completes (.dbgEngReg path none t) s fun u => u.eng n e = x ∧ SameRegs s u [] ∧ SameMemory s u)) ∧
    (∀ i en rest, s.lockedOut path = false → trcSel s path = some i → (vget s.traces i).entries = en :: rest → quiet s path = false → Completes (.dbgTrcPop path t) s fun u =>
      (vget u.traces i).entries = rest ∧ (vget u.traces i).ovf = false ∧ u.regSel DBG_TRC_W1 path.code = wd (secOf en.time) ∧
      u.regSel DBG_TRC_W2 path.code = wd (nsOf en.time / 65536) ∧ u.regSel DBG_TRC_W3 path.code = wd (nsOf en.time)) ∧
    (∀ i en rest, s.lockedOut path = false → trcSel s path = some i → (vget s.traces i).entries = en :: rest → quiet s path = true → Completes (.dbgTrcPop path t) s fun u =>
      u.traces = s.traces ∧ u.regSel DBG_TRC_W1 path.code = wd (secOf en.time)) ∧
    (∀ v : Word, Completes (.dbgTrcClr v t) s fun u => SameRegs s u [] ∧ ∀ i : Fin 14,
      (v.getLsbD i.val = true → (vget u.traces i).entries = []) ∧ (v.getLsbD i.val = false → vget u.traces i = vget s.traces i))

/-- R526-R530: COMMIT moves the staged outputs into the pin image words as one unit; outputs are staged, inputs latched for their reader, and
STATUS cleared as it is read; outside the mode none of them has an effect. -/
def Obligations.RamuthRegisters : Prop :=
  ∀ (path : Path) (i : Fin 6) (v : Word) (t : Nat) (s : State),
    (s.cmp.inpub.isSome = true →
      (Completes (.cmpRCommit t) s fun u =>
        (∀ (n : Fin 12) (w : Nat), n.val < 4 → cmpPimg s n = some w → (∀ m : Fin 12, m ≠ n → cmpPimg s m ≠ some w) →
          ∀ j < 12, (u.fillWord w).getLsbD j = (s.reg (CMP_R_OUT ((12 * n.val + j) / 8))).getLsbD ((12 * n.val + j) % 8)) ∧
        u.reg CMP_COMMITS = bumpW (s.reg CMP_COMMITS) 1 ∧ u.cmp.pend = true) ∧
      (Completes (.cmpROutWrite i v t) s fun u =>
        u.reg (CMP_R_OUT i.val) = v &&& 0x00FF ∧ SameRegs s u [CMP_R_OUT i.val] ∧ SameMemory s u) ∧
      (s.lockedOut path = false → viewBlank s path = false → Completes (.cmpRIn0Read path t) s fun u => SameMemory s u ∧ ∀ k < 5, ∀ b < 8,
        (u.regSel (CMP_R_IN (k + 1)) path.code).getLsbD b =
          (let p := 8 * (k + 1) + b
           (s.word (snapBase + 2 * (p / 12))).getLsbD (p % 12)))) ∧
    (s.cmp.inpub = none → s.lockedOut path = false → ∀ c ∈ [Instr.cmpRCommit t, .cmpROutWrite i v t, .cmpRIn0Read path t], Completes c s fun u =>
      SameRegs s u [] ∧ SameMemory s u ∧ u.cmp = s.cmp) ∧
    (s.lockedOut path = false →
      (quiet s path = false → viewBlank s path = false → Completes (.cmpRStatusRead path t) s fun u =>
        u.regSel CMP_R_STATUS (twinSel (viewCore s path)) = 0 ∧ SameRegs s u [CMP_R_STATUS] ∧ SameMemory s u) ∧
      (quiet s path = true ∨ viewBlank s path = true → Completes (.cmpRStatusRead path t) s fun u => SameRegs s u [] ∧ SameMemory s u))
end

