-- ==== Sys2Proof/Laws/Sparse.lean ====
section
/-! SUPPORT. The laws of sparse maps: what is written is read, and every operation keeps the canonical form. -/

namespace Sys2Proof

variable {α : Type} (d : Nat → α)

/-- The entry (k, v) before the first greater key. -/
def sparseInsert (k : Nat) (v : α) : List (Nat × α) → List (Nat × α)
  | [] => [(k, v)]
  | (j, w) :: t => if k < j then (k, v) :: (j, w) :: t else (j, w) :: sparseInsert k v t

theorem sparseGet_insert (k : Nat) (v : α) (l : List (Nat × α)) (h : ∀ x ∈ l, x.1 ≠ k) (i : Nat) :
    sparseGet d (sparseInsert k v l) i = if i = k then v else sparseGet d l i := by
  induction l with
  | nil => simp [sparseInsert, sparseGet]
  | cons x t ih =>
    obtain ⟨j, w⟩ := x
    have hj : j ≠ k := h (j, w) (by simp)
    have ht : ∀ x ∈ t, x.1 ≠ k := fun x hx => h x (by simp [hx])
    by_cases hk : k < j
    · simp [sparseInsert, hk, sparseGet]
    · simp only [sparseInsert, hk, if_false, sparseGet, ih ht]
      by_cases hi : i = j
      · subst hi; simp [hj]
      · simp [hi]

/-- A filter by key keeps what it keeps and leaves the default elsewhere. -/
theorem sparseGet_filter (p : Nat → Bool) (l : List (Nat × α)) (i : Nat) :
    sparseGet d (l.filter fun x => p x.1) i = if p i then sparseGet d l i else d i := by
  induction l with
  | nil => simp [sparseGet]
  | cons x t ih =>
    obtain ⟨j, w⟩ := x
    by_cases hp : p j
    · simp only [List.filter_cons, hp, if_true, sparseGet, ih]
      by_cases hi : i = j
      · subst hi; simp [hp]
      · simp [hi]
    · rw [List.filter_cons, if_neg hp, ih, sparseGet]
      by_cases hi : i = j
      · subst hi; simp [hp]
      · simp [hi]

variable [DecidableEq α]

/-- A write takes every entry of its key out and puts the new one in its place. -/
theorem sparseSet_eq (l : List (Nat × α)) (k : Nat) (v : α) :
    sparseSet d l k v = if v = d k then l.filter (fun x => decide (x.1 ≠ k))
      else sparseInsert k v (l.filter fun x => decide (x.1 ≠ k)) := by
  induction l with
  | nil => simp [sparseSet, sparseInsert]
  | cons x t ih =>
    obtain ⟨j, w⟩ := x
    by_cases hj : j = k
    · simp [sparseSet, hj, ih]
    · by_cases hk : k < j
      · simp [sparseSet, hj, hk, sparseInsert]
      · simp only [sparseSet, hj, hk, if_false, ih, List.filter_cons]
        by_cases hv : v = d k <;> simp [hv, hj, hk, sparseInsert]

/-- Read after write. -/
theorem sparseGet_set (l : List (Nat × α)) (k : Nat) (v : α) (i : Nat) :
    sparseGet d (sparseSet d l k v) i = if i = k then v else sparseGet d l i := by
  have hf := sparseGet_filter d (fun j => decide (j ≠ k)) l
  rw [sparseSet_eq]
  by_cases hv : v = d k
  · simp only [hv, if_true, hf]
    by_cases hi : i = k <;> simp [hi]
  · simp only [hv, if_false]
    rw [sparseGet_insert _ _ _ _ (by intro x hx; simpa using (List.mem_filter.1 hx).2), hf]
    by_cases hi : i = k <;> simp [hi]

@[simp] theorem sparseGet_set_self (l : List (Nat × α)) (k : Nat) (v : α) :
    sparseGet d (sparseSet d l k v) k = v := by simp [sparseGet_set]

theorem sparseGet_set_ne (l : List (Nat × α)) {k i : Nat} (v : α) (h : i ≠ k) :
    sparseGet d (sparseSet d l k v) i = sparseGet d l i := by simp [sparseGet_set, h]

/-- The canonical form as a chain of keys and a statement about each entry. -/
theorem sparseWf_iff (l : List (Nat × α)) :
    sparseWf d l = true ↔ (∀ x ∈ l, x.2 ≠ d x.1) ∧ l.Pairwise fun x y => x.1 < y.1 := by
  induction l with
  | nil => simp [sparseWf]
  | cons x t ih =>
    obtain ⟨j, w⟩ := x
    cases t with
    | nil => simp [sparseWf]
    | cons y u =>
      obtain ⟨m, z⟩ := y
      rw [sparseWf, Bool.and_eq_true, Bool.and_eq_true, ih]
      simp only [decide_eq_true_eq, List.mem_cons, List.pairwise_cons]
      constructor
      · rintro ⟨⟨h1, h2⟩, h3, h4, h5⟩
        refine ⟨?_, ?_, h4, h5⟩
        · rintro x (rfl | hx)
          · exact h1
          · exact h3 x hx
        · rintro x (rfl | hx)
          · exact h2
          · exact Nat.lt_trans h2 (h4 x hx)
      · rintro ⟨h1, h2, h4, h5⟩
        exact ⟨⟨h1 _ (Or.inl rfl), h2 _ (Or.inl rfl)⟩, fun x hx => h1 x (Or.inr hx), h4, h5⟩

theorem sparseWf_filter (p : Nat × α → Bool) (l : List (Nat × α)) (h : sparseWf d l = true) :
    sparseWf d (l.filter p) = true := by
  rw [sparseWf_iff] at *
  exact ⟨fun x hx => h.1 x (List.mem_filter.1 hx).1, h.2.filter _⟩

theorem sparseWf_insert (k : Nat) (v : α) (l : List (Nat × α)) (hv : v ≠ d k) (h : sparseWf d l = true)
    (hk : ∀ x ∈ l, x.1 ≠ k) : sparseWf d (sparseInsert k v l) = true := by
  rw [sparseWf_iff] at *
  obtain ⟨h1, h2⟩ := h
  have mem : ∀ (l : List (Nat × α)) (x), x ∈ sparseInsert k v l → x = (k, v) ∨ x ∈ l := by
    intro l; induction l with
    | nil => simp [sparseInsert]
    | cons y t ih =>
      intro x hx
      unfold sparseInsert at hx
      split at hx
      · simpa using hx
      · rcases List.mem_cons.1 hx with rfl | hx
        · simp
        · rcases ih x hx with h | h <;> simp [h]
  refine ⟨fun x hx => ?_, ?_⟩
  · rcases mem l x hx with rfl | h
    · exact hv
    · exact h1 x h
  · clear h1
    induction l with
    | nil => simp [sparseInsert]
    | cons y t ih =>
      obtain ⟨j, w⟩ := y
      have hj : j ≠ k := hk (j, w) (by simp)
      rw [List.pairwise_cons] at h2
      unfold sparseInsert
      split
      · rename_i hlt
        rw [List.pairwise_cons]
        refine ⟨fun x hx => ?_, List.pairwise_cons.2 h2⟩
        rcases List.mem_cons.1 hx with rfl | hx
        · exact hlt
        · exact Nat.lt_trans hlt (h2.1 x hx)
      · rename_i hlt
        rw [List.pairwise_cons]
        refine ⟨fun x hx => ?_, ih (fun x hx => hk x (by simp [hx])) h2.2⟩
        rcases mem t x hx with rfl | h
        · show j < k; omega
        · exact h2.1 x h

/-- Every write keeps the canonical form. -/
theorem sparseWf_set (l : List (Nat × α)) (k : Nat) (v : α) (h : sparseWf d l = true) :
    sparseWf d (sparseSet d l k v) = true := by
  have hf := sparseWf_filter d (fun x => decide (x.1 ≠ k)) l h
  rw [sparseSet_eq]
  by_cases hv : v = d k
  · simpa [hv] using hf
  · simp only [hv, if_false]
    exact sparseWf_insert d k v _ hv hf (by intro x hx; simpa using (List.mem_filter.1 hx).2)

namespace Machine

/-! Memory operations keep the canonical form; the machine after reset has it. -/

theorem setByte_wf (s : State) (a : Nat) (v : Byte) (h : Memory.wf s.mem = true) : Memory.wf (s.setByte a v).mem = true :=
  sparseWf_set _ _ _ _ h

theorem setWord_wf (s : State) (a : Nat) (v : Word) (h : Memory.wf s.mem = true) : Memory.wf (s.setWord a v).mem = true :=
  setByte_wf _ _ _ (setByte_wf _ _ _ h)

theorem setWords_wf (l : List Word) : ∀ (s : State) (a : Nat), Memory.wf s.mem = true → Memory.wf (s.setWords a l).mem = true := by
  induction l with
  | nil => intro s a h; exact h
  | cons v t ih => intro s a h; exact ih _ _ (setWord_wf s a v h)

theorem fillWords_wf (n : Nat) : ∀ (s : State) (a : Nat) (v : Word), Memory.wf s.mem = true →
    Memory.wf (s.fillWords a n v).mem = true := by
  induction n with
  | zero => intro s a v h; exact h
  | succ n ih => intro s a v h; exact ih _ _ _ (setWord_wf s a v h)

theorem filter_wf (p : Host.Cell → Bool) (m : List Host.Cell) (h : Memory.wf m = true) : Memory.wf (m.filter p) = true :=
  sparseWf_filter _ _ _ h

theorem reset_mem_wf : Memory.wf State.reset.mem = true := rfl

/-- Register writes keep the canonical form of the register file. -/
theorem setRegSel_wf (s : State) (a k : Nat) (v : Word) (h : regsWf s = true) : regsWf (s.setRegSel a k v) = true :=
  sparseWf_set _ _ _ _ h

theorem reset_regs_wf : regsWf State.reset = true := rfl

/-! Read after write. -/

theorem byte_setByte (s : State) (a b : Nat) (v : Byte) : (s.setByte a v).byte b = if b = a then v else s.byte b :=
  sparseGet_set memDefault s.mem a v b

/-- Registers are told apart by address and selector. -/
theorem regKey_inj (a b i j : Nat) (hi : i < 65536) (hj : j < 65536) : regKey a i = regKey b j ↔ a = b ∧ i = j := by
  unfold regKey; omega

theorem regSel_setRegSel (s : State) (a b i j : Nat) (v : Word) :
    (s.setRegSel a i v).regSel b j = if regKey b j = regKey a i then v else s.regSel b j :=
  sparseGet_set regDefault s.regs (regKey a i) v (regKey b j)

end Machine

end Sys2Proof
end

