-- ==== Sys2Proof/Laws/State.lean ====
section
/-! SUPPORT. What each named update of State leaves as it was, field by field, and what the plain ones put in place. -/

namespace Sys2Proof.Machine

/-! setRegSel changes regs alone. -/
@[simp] theorem setRegSel_now (s : State) (a k : Nat) (v : Word) : (s.setRegSel a k v).now = s.now := rfl
@[simp] theorem setRegSel_freeCtr (s : State) (a k : Nat) (v : Word) : (s.setRegSel a k v).freeCtr = s.freeCtr := rfl
@[simp] theorem setRegSel_pending (s : State) (a k : Nat) (v : Word) : (s.setRegSel a k v).pending = s.pending := rfl
@[simp] theorem setRegSel_mem (s : State) (a k : Nat) (v : Word) : (s.setRegSel a k v).mem = s.mem := rfl
@[simp] theorem setRegSel_marks (s : State) (a k : Nat) (v : Word) : (s.setRegSel a k v).marks = s.marks := rfl
@[simp] theorem setRegSel_start (s : State) (a k : Nat) (v : Word) : (s.setRegSel a k v).start = s.start := rfl
@[simp] theorem setRegSel_paths (s : State) (a k : Nat) (v : Word) : (s.setRegSel a k v).paths = s.paths := rfl
@[simp] theorem setRegSel_bar (s : State) (a k : Nat) (v : Word) : (s.setRegSel a k v).bar = s.bar := rfl
@[simp] theorem setRegSel_margins (s : State) (a k : Nat) (v : Word) : (s.setRegSel a k v).margins = s.margins := rfl
@[simp] theorem setRegSel_links (s : State) (a k : Nat) (v : Word) : (s.setRegSel a k v).links = s.links := rfl
@[simp] theorem setRegSel_cue (s : State) (a k : Nat) (v : Word) : (s.setRegSel a k v).cue = s.cue := rfl
@[simp] theorem setRegSel_time (s : State) (a k : Nat) (v : Word) : (s.setRegSel a k v).time = s.time := rfl
@[simp] theorem setRegSel_pulses (s : State) (a k : Nat) (v : Word) : (s.setRegSel a k v).pulses = s.pulses := rfl
@[simp] theorem setRegSel_edges (s : State) (a k : Nat) (v : Word) : (s.setRegSel a k v).edges = s.edges := rfl
@[simp] theorem setRegSel_sw (s : State) (a k : Nat) (v : Word) : (s.setRegSel a k v).sw = s.sw := rfl
@[simp] theorem setRegSel_streams (s : State) (a k : Nat) (v : Word) : (s.setRegSel a k v).streams = s.streams := rfl
@[simp] theorem setRegSel_fab (s : State) (a k : Nat) (v : Word) : (s.setRegSel a k v).fab = s.fab := rfl
@[simp] theorem setRegSel_brg (s : State) (a k : Nat) (v : Word) : (s.setRegSel a k v).brg = s.brg := rfl
@[simp] theorem setRegSel_clusters (s : State) (a k : Nat) (v : Word) : (s.setRegSel a k v).clusters = s.clusters := rfl
@[simp] theorem setRegSel_pins (s : State) (a k : Nat) (v : Word) : (s.setRegSel a k v).pins = s.pins := rfl
@[simp] theorem setRegSel_cans (s : State) (a k : Nat) (v : Word) : (s.setRegSel a k v).cans = s.cans := rfl
@[simp] theorem setRegSel_snap (s : State) (a k : Nat) (v : Word) : (s.setRegSel a k v).snap = s.snap := rfl
@[simp] theorem setRegSel_store (s : State) (a k : Nat) (v : Word) : (s.setRegSel a k v).store = s.store := rfl
@[simp] theorem setRegSel_lead (s : State) (a k : Nat) (v : Word) : (s.setRegSel a k v).lead = s.lead := rfl
@[simp] theorem setRegSel_flts (s : State) (a k : Nat) (v : Word) : (s.setRegSel a k v).flts = s.flts := rfl
@[simp] theorem setRegSel_dark (s : State) (a k : Nat) (v : Word) : (s.setRegSel a k v).dark = s.dark := rfl
@[simp] theorem setRegSel_backlog (s : State) (a k : Nat) (v : Word) : (s.setRegSel a k v).backlog = s.backlog := rfl
@[simp] theorem setRegSel_fieldInj (s : State) (a k : Nat) (v : Word) : (s.setRegSel a k v).fieldInj = s.fieldInj := rfl
@[simp] theorem setRegSel_power (s : State) (a k : Nat) (v : Word) : (s.setRegSel a k v).power = s.power := rfl
@[simp] theorem setRegSel_host (s : State) (a k : Nat) (v : Word) : (s.setRegSel a k v).host = s.host := rfl
@[simp] theorem setRegSel_dbg (s : State) (a k : Nat) (v : Word) : (s.setRegSel a k v).dbg = s.dbg := rfl
@[simp] theorem setRegSel_cmp (s : State) (a k : Nat) (v : Word) : (s.setRegSel a k v).cmp = s.cmp := rfl
@[simp] theorem setRegSel_traces (s : State) (a k : Nat) (v : Word) : (s.setRegSel a k v).traces = s.traces := rfl
@[simp] theorem setRegSel_claimGap (s : State) (a k : Nat) (v : Word) : (s.setRegSel a k v).claimGap = s.claimGap := rfl
@[simp] theorem setRegSel_timeGap (s : State) (a k : Nat) (v : Word) : (s.setRegSel a k v).timeGap = s.timeGap := rfl
@[simp] theorem setRegSel_heard (s : State) (a k : Nat) (v : Word) : (s.setRegSel a k v).heard = s.heard := rfl
@[simp] theorem setRegSel_told (s : State) (a k : Nat) (v : Word) : (s.setRegSel a k v).told = s.told := rfl
@[simp] theorem setRegSel_fmodes (s : State) (a k : Nat) (v : Word) : (s.setRegSel a k v).fmodes = s.fmodes := rfl
@[simp] theorem setRegSel_modesTold (s : State) (a k : Nat) (v : Word) : (s.setRegSel a k v).modesTold = s.modesTold := rfl
@[simp] theorem setRegSel_fintm (s : State) (a k : Nat) (v : Word) : (s.setRegSel a k v).fintm = s.fintm := rfl

/-! setReg changes regs alone. -/
@[simp] theorem setReg_now (s : State) (a : Nat) (v : Word) : (s.setReg a v).now = s.now := rfl
@[simp] theorem setReg_freeCtr (s : State) (a : Nat) (v : Word) : (s.setReg a v).freeCtr = s.freeCtr := rfl
@[simp] theorem setReg_pending (s : State) (a : Nat) (v : Word) : (s.setReg a v).pending = s.pending := rfl
@[simp] theorem setReg_mem (s : State) (a : Nat) (v : Word) : (s.setReg a v).mem = s.mem := rfl
@[simp] theorem setReg_marks (s : State) (a : Nat) (v : Word) : (s.setReg a v).marks = s.marks := rfl
@[simp] theorem setReg_start (s : State) (a : Nat) (v : Word) : (s.setReg a v).start = s.start := rfl
@[simp] theorem setReg_paths (s : State) (a : Nat) (v : Word) : (s.setReg a v).paths = s.paths := rfl
@[simp] theorem setReg_bar (s : State) (a : Nat) (v : Word) : (s.setReg a v).bar = s.bar := rfl
@[simp] theorem setReg_margins (s : State) (a : Nat) (v : Word) : (s.setReg a v).margins = s.margins := rfl
@[simp] theorem setReg_links (s : State) (a : Nat) (v : Word) : (s.setReg a v).links = s.links := rfl
@[simp] theorem setReg_cue (s : State) (a : Nat) (v : Word) : (s.setReg a v).cue = s.cue := rfl
@[simp] theorem setReg_time (s : State) (a : Nat) (v : Word) : (s.setReg a v).time = s.time := rfl
@[simp] theorem setReg_pulses (s : State) (a : Nat) (v : Word) : (s.setReg a v).pulses = s.pulses := rfl
@[simp] theorem setReg_edges (s : State) (a : Nat) (v : Word) : (s.setReg a v).edges = s.edges := rfl
@[simp] theorem setReg_sw (s : State) (a : Nat) (v : Word) : (s.setReg a v).sw = s.sw := rfl
@[simp] theorem setReg_streams (s : State) (a : Nat) (v : Word) : (s.setReg a v).streams = s.streams := rfl
@[simp] theorem setReg_fab (s : State) (a : Nat) (v : Word) : (s.setReg a v).fab = s.fab := rfl
@[simp] theorem setReg_brg (s : State) (a : Nat) (v : Word) : (s.setReg a v).brg = s.brg := rfl
@[simp] theorem setReg_clusters (s : State) (a : Nat) (v : Word) : (s.setReg a v).clusters = s.clusters := rfl
@[simp] theorem setReg_pins (s : State) (a : Nat) (v : Word) : (s.setReg a v).pins = s.pins := rfl
@[simp] theorem setReg_cans (s : State) (a : Nat) (v : Word) : (s.setReg a v).cans = s.cans := rfl
@[simp] theorem setReg_snap (s : State) (a : Nat) (v : Word) : (s.setReg a v).snap = s.snap := rfl
@[simp] theorem setReg_store (s : State) (a : Nat) (v : Word) : (s.setReg a v).store = s.store := rfl
@[simp] theorem setReg_lead (s : State) (a : Nat) (v : Word) : (s.setReg a v).lead = s.lead := rfl
@[simp] theorem setReg_flts (s : State) (a : Nat) (v : Word) : (s.setReg a v).flts = s.flts := rfl
@[simp] theorem setReg_dark (s : State) (a : Nat) (v : Word) : (s.setReg a v).dark = s.dark := rfl
@[simp] theorem setReg_backlog (s : State) (a : Nat) (v : Word) : (s.setReg a v).backlog = s.backlog := rfl
@[simp] theorem setReg_fieldInj (s : State) (a : Nat) (v : Word) : (s.setReg a v).fieldInj = s.fieldInj := rfl
@[simp] theorem setReg_power (s : State) (a : Nat) (v : Word) : (s.setReg a v).power = s.power := rfl
@[simp] theorem setReg_host (s : State) (a : Nat) (v : Word) : (s.setReg a v).host = s.host := rfl
@[simp] theorem setReg_dbg (s : State) (a : Nat) (v : Word) : (s.setReg a v).dbg = s.dbg := rfl
@[simp] theorem setReg_cmp (s : State) (a : Nat) (v : Word) : (s.setReg a v).cmp = s.cmp := rfl
@[simp] theorem setReg_traces (s : State) (a : Nat) (v : Word) : (s.setReg a v).traces = s.traces := rfl
@[simp] theorem setReg_claimGap (s : State) (a : Nat) (v : Word) : (s.setReg a v).claimGap = s.claimGap := rfl
@[simp] theorem setReg_timeGap (s : State) (a : Nat) (v : Word) : (s.setReg a v).timeGap = s.timeGap := rfl
@[simp] theorem setReg_heard (s : State) (a : Nat) (v : Word) : (s.setReg a v).heard = s.heard := rfl
@[simp] theorem setReg_told (s : State) (a : Nat) (v : Word) : (s.setReg a v).told = s.told := rfl
@[simp] theorem setReg_fmodes (s : State) (a : Nat) (v : Word) : (s.setReg a v).fmodes = s.fmodes := rfl
@[simp] theorem setReg_modesTold (s : State) (a : Nat) (v : Word) : (s.setReg a v).modesTold = s.modesTold := rfl
@[simp] theorem setReg_fintm (s : State) (a : Nat) (v : Word) : (s.setReg a v).fintm = s.fintm := rfl

/-! bump changes regs alone. -/
@[simp] theorem bump_now (s : State) (a : Nat) : (s.bump a).now = s.now := rfl
@[simp] theorem bump_freeCtr (s : State) (a : Nat) : (s.bump a).freeCtr = s.freeCtr := rfl
@[simp] theorem bump_pending (s : State) (a : Nat) : (s.bump a).pending = s.pending := rfl
@[simp] theorem bump_mem (s : State) (a : Nat) : (s.bump a).mem = s.mem := rfl
@[simp] theorem bump_marks (s : State) (a : Nat) : (s.bump a).marks = s.marks := rfl
@[simp] theorem bump_start (s : State) (a : Nat) : (s.bump a).start = s.start := rfl
@[simp] theorem bump_paths (s : State) (a : Nat) : (s.bump a).paths = s.paths := rfl
@[simp] theorem bump_bar (s : State) (a : Nat) : (s.bump a).bar = s.bar := rfl
@[simp] theorem bump_margins (s : State) (a : Nat) : (s.bump a).margins = s.margins := rfl
@[simp] theorem bump_links (s : State) (a : Nat) : (s.bump a).links = s.links := rfl
@[simp] theorem bump_cue (s : State) (a : Nat) : (s.bump a).cue = s.cue := rfl
@[simp] theorem bump_time (s : State) (a : Nat) : (s.bump a).time = s.time := rfl
@[simp] theorem bump_pulses (s : State) (a : Nat) : (s.bump a).pulses = s.pulses := rfl
@[simp] theorem bump_edges (s : State) (a : Nat) : (s.bump a).edges = s.edges := rfl
@[simp] theorem bump_sw (s : State) (a : Nat) : (s.bump a).sw = s.sw := rfl
@[simp] theorem bump_streams (s : State) (a : Nat) : (s.bump a).streams = s.streams := rfl
@[simp] theorem bump_fab (s : State) (a : Nat) : (s.bump a).fab = s.fab := rfl
@[simp] theorem bump_brg (s : State) (a : Nat) : (s.bump a).brg = s.brg := rfl
@[simp] theorem bump_clusters (s : State) (a : Nat) : (s.bump a).clusters = s.clusters := rfl
@[simp] theorem bump_pins (s : State) (a : Nat) : (s.bump a).pins = s.pins := rfl
@[simp] theorem bump_cans (s : State) (a : Nat) : (s.bump a).cans = s.cans := rfl
@[simp] theorem bump_snap (s : State) (a : Nat) : (s.bump a).snap = s.snap := rfl
@[simp] theorem bump_store (s : State) (a : Nat) : (s.bump a).store = s.store := rfl
@[simp] theorem bump_lead (s : State) (a : Nat) : (s.bump a).lead = s.lead := rfl
@[simp] theorem bump_flts (s : State) (a : Nat) : (s.bump a).flts = s.flts := rfl
@[simp] theorem bump_dark (s : State) (a : Nat) : (s.bump a).dark = s.dark := rfl
@[simp] theorem bump_backlog (s : State) (a : Nat) : (s.bump a).backlog = s.backlog := rfl
@[simp] theorem bump_fieldInj (s : State) (a : Nat) : (s.bump a).fieldInj = s.fieldInj := rfl
@[simp] theorem bump_power (s : State) (a : Nat) : (s.bump a).power = s.power := rfl
@[simp] theorem bump_host (s : State) (a : Nat) : (s.bump a).host = s.host := rfl
@[simp] theorem bump_dbg (s : State) (a : Nat) : (s.bump a).dbg = s.dbg := rfl
@[simp] theorem bump_cmp (s : State) (a : Nat) : (s.bump a).cmp = s.cmp := rfl
@[simp] theorem bump_traces (s : State) (a : Nat) : (s.bump a).traces = s.traces := rfl
@[simp] theorem bump_claimGap (s : State) (a : Nat) : (s.bump a).claimGap = s.claimGap := rfl
@[simp] theorem bump_timeGap (s : State) (a : Nat) : (s.bump a).timeGap = s.timeGap := rfl
@[simp] theorem bump_heard (s : State) (a : Nat) : (s.bump a).heard = s.heard := rfl
@[simp] theorem bump_told (s : State) (a : Nat) : (s.bump a).told = s.told := rfl
@[simp] theorem bump_fmodes (s : State) (a : Nat) : (s.bump a).fmodes = s.fmodes := rfl
@[simp] theorem bump_modesTold (s : State) (a : Nat) : (s.bump a).modesTold = s.modesTold := rfl
@[simp] theorem bump_fintm (s : State) (a : Nat) : (s.bump a).fintm = s.fintm := rfl

/-! bumpSel changes regs alone. -/
@[simp] theorem bumpSel_now (s : State) (a k : Nat) : (s.bumpSel a k).now = s.now := rfl
@[simp] theorem bumpSel_freeCtr (s : State) (a k : Nat) : (s.bumpSel a k).freeCtr = s.freeCtr := rfl
@[simp] theorem bumpSel_pending (s : State) (a k : Nat) : (s.bumpSel a k).pending = s.pending := rfl
@[simp] theorem bumpSel_mem (s : State) (a k : Nat) : (s.bumpSel a k).mem = s.mem := rfl
@[simp] theorem bumpSel_marks (s : State) (a k : Nat) : (s.bumpSel a k).marks = s.marks := rfl
@[simp] theorem bumpSel_start (s : State) (a k : Nat) : (s.bumpSel a k).start = s.start := rfl
@[simp] theorem bumpSel_paths (s : State) (a k : Nat) : (s.bumpSel a k).paths = s.paths := rfl
@[simp] theorem bumpSel_bar (s : State) (a k : Nat) : (s.bumpSel a k).bar = s.bar := rfl
@[simp] theorem bumpSel_margins (s : State) (a k : Nat) : (s.bumpSel a k).margins = s.margins := rfl
@[simp] theorem bumpSel_links (s : State) (a k : Nat) : (s.bumpSel a k).links = s.links := rfl
@[simp] theorem bumpSel_cue (s : State) (a k : Nat) : (s.bumpSel a k).cue = s.cue := rfl
@[simp] theorem bumpSel_time (s : State) (a k : Nat) : (s.bumpSel a k).time = s.time := rfl
@[simp] theorem bumpSel_pulses (s : State) (a k : Nat) : (s.bumpSel a k).pulses = s.pulses := rfl
@[simp] theorem bumpSel_edges (s : State) (a k : Nat) : (s.bumpSel a k).edges = s.edges := rfl
@[simp] theorem bumpSel_sw (s : State) (a k : Nat) : (s.bumpSel a k).sw = s.sw := rfl
@[simp] theorem bumpSel_streams (s : State) (a k : Nat) : (s.bumpSel a k).streams = s.streams := rfl
@[simp] theorem bumpSel_fab (s : State) (a k : Nat) : (s.bumpSel a k).fab = s.fab := rfl
@[simp] theorem bumpSel_brg (s : State) (a k : Nat) : (s.bumpSel a k).brg = s.brg := rfl
@[simp] theorem bumpSel_clusters (s : State) (a k : Nat) : (s.bumpSel a k).clusters = s.clusters := rfl
@[simp] theorem bumpSel_pins (s : State) (a k : Nat) : (s.bumpSel a k).pins = s.pins := rfl
@[simp] theorem bumpSel_cans (s : State) (a k : Nat) : (s.bumpSel a k).cans = s.cans := rfl
@[simp] theorem bumpSel_snap (s : State) (a k : Nat) : (s.bumpSel a k).snap = s.snap := rfl
@[simp] theorem bumpSel_store (s : State) (a k : Nat) : (s.bumpSel a k).store = s.store := rfl
@[simp] theorem bumpSel_lead (s : State) (a k : Nat) : (s.bumpSel a k).lead = s.lead := rfl
@[simp] theorem bumpSel_flts (s : State) (a k : Nat) : (s.bumpSel a k).flts = s.flts := rfl
@[simp] theorem bumpSel_dark (s : State) (a k : Nat) : (s.bumpSel a k).dark = s.dark := rfl
@[simp] theorem bumpSel_backlog (s : State) (a k : Nat) : (s.bumpSel a k).backlog = s.backlog := rfl
@[simp] theorem bumpSel_fieldInj (s : State) (a k : Nat) : (s.bumpSel a k).fieldInj = s.fieldInj := rfl
@[simp] theorem bumpSel_power (s : State) (a k : Nat) : (s.bumpSel a k).power = s.power := rfl
@[simp] theorem bumpSel_host (s : State) (a k : Nat) : (s.bumpSel a k).host = s.host := rfl
@[simp] theorem bumpSel_dbg (s : State) (a k : Nat) : (s.bumpSel a k).dbg = s.dbg := rfl
@[simp] theorem bumpSel_cmp (s : State) (a k : Nat) : (s.bumpSel a k).cmp = s.cmp := rfl
@[simp] theorem bumpSel_traces (s : State) (a k : Nat) : (s.bumpSel a k).traces = s.traces := rfl
@[simp] theorem bumpSel_claimGap (s : State) (a k : Nat) : (s.bumpSel a k).claimGap = s.claimGap := rfl
@[simp] theorem bumpSel_timeGap (s : State) (a k : Nat) : (s.bumpSel a k).timeGap = s.timeGap := rfl
@[simp] theorem bumpSel_heard (s : State) (a k : Nat) : (s.bumpSel a k).heard = s.heard := rfl
@[simp] theorem bumpSel_told (s : State) (a k : Nat) : (s.bumpSel a k).told = s.told := rfl
@[simp] theorem bumpSel_fmodes (s : State) (a k : Nat) : (s.bumpSel a k).fmodes = s.fmodes := rfl
@[simp] theorem bumpSel_modesTold (s : State) (a k : Nat) : (s.bumpSel a k).modesTold = s.modesTold := rfl
@[simp] theorem bumpSel_fintm (s : State) (a k : Nat) : (s.bumpSel a k).fintm = s.fintm := rfl

/-! evt changes regs alone. -/
@[simp] theorem evt_now (s : State) (a i : Nat) : (s.evt a i).now = s.now := rfl
@[simp] theorem evt_freeCtr (s : State) (a i : Nat) : (s.evt a i).freeCtr = s.freeCtr := rfl
@[simp] theorem evt_pending (s : State) (a i : Nat) : (s.evt a i).pending = s.pending := rfl
@[simp] theorem evt_mem (s : State) (a i : Nat) : (s.evt a i).mem = s.mem := rfl
@[simp] theorem evt_marks (s : State) (a i : Nat) : (s.evt a i).marks = s.marks := rfl
@[simp] theorem evt_start (s : State) (a i : Nat) : (s.evt a i).start = s.start := rfl
@[simp] theorem evt_paths (s : State) (a i : Nat) : (s.evt a i).paths = s.paths := rfl
@[simp] theorem evt_bar (s : State) (a i : Nat) : (s.evt a i).bar = s.bar := rfl
@[simp] theorem evt_margins (s : State) (a i : Nat) : (s.evt a i).margins = s.margins := rfl
@[simp] theorem evt_links (s : State) (a i : Nat) : (s.evt a i).links = s.links := rfl
@[simp] theorem evt_cue (s : State) (a i : Nat) : (s.evt a i).cue = s.cue := rfl
@[simp] theorem evt_time (s : State) (a i : Nat) : (s.evt a i).time = s.time := rfl
@[simp] theorem evt_pulses (s : State) (a i : Nat) : (s.evt a i).pulses = s.pulses := rfl
@[simp] theorem evt_edges (s : State) (a i : Nat) : (s.evt a i).edges = s.edges := rfl
@[simp] theorem evt_sw (s : State) (a i : Nat) : (s.evt a i).sw = s.sw := rfl
@[simp] theorem evt_streams (s : State) (a i : Nat) : (s.evt a i).streams = s.streams := rfl
@[simp] theorem evt_fab (s : State) (a i : Nat) : (s.evt a i).fab = s.fab := rfl
@[simp] theorem evt_brg (s : State) (a i : Nat) : (s.evt a i).brg = s.brg := rfl
@[simp] theorem evt_clusters (s : State) (a i : Nat) : (s.evt a i).clusters = s.clusters := rfl
@[simp] theorem evt_pins (s : State) (a i : Nat) : (s.evt a i).pins = s.pins := rfl
@[simp] theorem evt_cans (s : State) (a i : Nat) : (s.evt a i).cans = s.cans := rfl
@[simp] theorem evt_snap (s : State) (a i : Nat) : (s.evt a i).snap = s.snap := rfl
@[simp] theorem evt_store (s : State) (a i : Nat) : (s.evt a i).store = s.store := rfl
@[simp] theorem evt_lead (s : State) (a i : Nat) : (s.evt a i).lead = s.lead := rfl
@[simp] theorem evt_flts (s : State) (a i : Nat) : (s.evt a i).flts = s.flts := rfl
@[simp] theorem evt_dark (s : State) (a i : Nat) : (s.evt a i).dark = s.dark := rfl
@[simp] theorem evt_backlog (s : State) (a i : Nat) : (s.evt a i).backlog = s.backlog := rfl
@[simp] theorem evt_fieldInj (s : State) (a i : Nat) : (s.evt a i).fieldInj = s.fieldInj := rfl
@[simp] theorem evt_power (s : State) (a i : Nat) : (s.evt a i).power = s.power := rfl
@[simp] theorem evt_host (s : State) (a i : Nat) : (s.evt a i).host = s.host := rfl
@[simp] theorem evt_dbg (s : State) (a i : Nat) : (s.evt a i).dbg = s.dbg := rfl
@[simp] theorem evt_cmp (s : State) (a i : Nat) : (s.evt a i).cmp = s.cmp := rfl
@[simp] theorem evt_traces (s : State) (a i : Nat) : (s.evt a i).traces = s.traces := rfl
@[simp] theorem evt_claimGap (s : State) (a i : Nat) : (s.evt a i).claimGap = s.claimGap := rfl
@[simp] theorem evt_timeGap (s : State) (a i : Nat) : (s.evt a i).timeGap = s.timeGap := rfl
@[simp] theorem evt_heard (s : State) (a i : Nat) : (s.evt a i).heard = s.heard := rfl
@[simp] theorem evt_told (s : State) (a i : Nat) : (s.evt a i).told = s.told := rfl
@[simp] theorem evt_fmodes (s : State) (a i : Nat) : (s.evt a i).fmodes = s.fmodes := rfl
@[simp] theorem evt_modesTold (s : State) (a i : Nat) : (s.evt a i).modesTold = s.modesTold := rfl
@[simp] theorem evt_fintm (s : State) (a i : Nat) : (s.evt a i).fintm = s.fintm := rfl

/-! putBit changes regs alone. -/
@[simp] theorem putBit_now (s : State) (a i : Nat) (b : Bool) : (s.putBit a i b).now = s.now := rfl
@[simp] theorem putBit_freeCtr (s : State) (a i : Nat) (b : Bool) : (s.putBit a i b).freeCtr = s.freeCtr := rfl
@[simp] theorem putBit_pending (s : State) (a i : Nat) (b : Bool) : (s.putBit a i b).pending = s.pending := rfl
@[simp] theorem putBit_mem (s : State) (a i : Nat) (b : Bool) : (s.putBit a i b).mem = s.mem := rfl
@[simp] theorem putBit_marks (s : State) (a i : Nat) (b : Bool) : (s.putBit a i b).marks = s.marks := rfl
@[simp] theorem putBit_start (s : State) (a i : Nat) (b : Bool) : (s.putBit a i b).start = s.start := rfl
@[simp] theorem putBit_paths (s : State) (a i : Nat) (b : Bool) : (s.putBit a i b).paths = s.paths := rfl
@[simp] theorem putBit_bar (s : State) (a i : Nat) (b : Bool) : (s.putBit a i b).bar = s.bar := rfl
@[simp] theorem putBit_margins (s : State) (a i : Nat) (b : Bool) : (s.putBit a i b).margins = s.margins := rfl
@[simp] theorem putBit_links (s : State) (a i : Nat) (b : Bool) : (s.putBit a i b).links = s.links := rfl
@[simp] theorem putBit_cue (s : State) (a i : Nat) (b : Bool) : (s.putBit a i b).cue = s.cue := rfl
@[simp] theorem putBit_time (s : State) (a i : Nat) (b : Bool) : (s.putBit a i b).time = s.time := rfl
@[simp] theorem putBit_pulses (s : State) (a i : Nat) (b : Bool) : (s.putBit a i b).pulses = s.pulses := rfl
@[simp] theorem putBit_edges (s : State) (a i : Nat) (b : Bool) : (s.putBit a i b).edges = s.edges := rfl
@[simp] theorem putBit_sw (s : State) (a i : Nat) (b : Bool) : (s.putBit a i b).sw = s.sw := rfl
@[simp] theorem putBit_streams (s : State) (a i : Nat) (b : Bool) : (s.putBit a i b).streams = s.streams := rfl
@[simp] theorem putBit_fab (s : State) (a i : Nat) (b : Bool) : (s.putBit a i b).fab = s.fab := rfl
@[simp] theorem putBit_brg (s : State) (a i : Nat) (b : Bool) : (s.putBit a i b).brg = s.brg := rfl
@[simp] theorem putBit_clusters (s : State) (a i : Nat) (b : Bool) : (s.putBit a i b).clusters = s.clusters := rfl
@[simp] theorem putBit_pins (s : State) (a i : Nat) (b : Bool) : (s.putBit a i b).pins = s.pins := rfl
@[simp] theorem putBit_cans (s : State) (a i : Nat) (b : Bool) : (s.putBit a i b).cans = s.cans := rfl
@[simp] theorem putBit_snap (s : State) (a i : Nat) (b : Bool) : (s.putBit a i b).snap = s.snap := rfl
@[simp] theorem putBit_store (s : State) (a i : Nat) (b : Bool) : (s.putBit a i b).store = s.store := rfl
@[simp] theorem putBit_lead (s : State) (a i : Nat) (b : Bool) : (s.putBit a i b).lead = s.lead := rfl
@[simp] theorem putBit_flts (s : State) (a i : Nat) (b : Bool) : (s.putBit a i b).flts = s.flts := rfl
@[simp] theorem putBit_dark (s : State) (a i : Nat) (b : Bool) : (s.putBit a i b).dark = s.dark := rfl
@[simp] theorem putBit_backlog (s : State) (a i : Nat) (b : Bool) : (s.putBit a i b).backlog = s.backlog := rfl
@[simp] theorem putBit_fieldInj (s : State) (a i : Nat) (b : Bool) : (s.putBit a i b).fieldInj = s.fieldInj := rfl
@[simp] theorem putBit_power (s : State) (a i : Nat) (b : Bool) : (s.putBit a i b).power = s.power := rfl
@[simp] theorem putBit_host (s : State) (a i : Nat) (b : Bool) : (s.putBit a i b).host = s.host := rfl
@[simp] theorem putBit_dbg (s : State) (a i : Nat) (b : Bool) : (s.putBit a i b).dbg = s.dbg := rfl
@[simp] theorem putBit_cmp (s : State) (a i : Nat) (b : Bool) : (s.putBit a i b).cmp = s.cmp := rfl
@[simp] theorem putBit_traces (s : State) (a i : Nat) (b : Bool) : (s.putBit a i b).traces = s.traces := rfl
@[simp] theorem putBit_claimGap (s : State) (a i : Nat) (b : Bool) : (s.putBit a i b).claimGap = s.claimGap := rfl
@[simp] theorem putBit_timeGap (s : State) (a i : Nat) (b : Bool) : (s.putBit a i b).timeGap = s.timeGap := rfl
@[simp] theorem putBit_heard (s : State) (a i : Nat) (b : Bool) : (s.putBit a i b).heard = s.heard := rfl
@[simp] theorem putBit_told (s : State) (a i : Nat) (b : Bool) : (s.putBit a i b).told = s.told := rfl
@[simp] theorem putBit_fmodes (s : State) (a i : Nat) (b : Bool) : (s.putBit a i b).fmodes = s.fmodes := rfl
@[simp] theorem putBit_modesTold (s : State) (a i : Nat) (b : Bool) : (s.putBit a i b).modesTold = s.modesTold := rfl
@[simp] theorem putBit_fintm (s : State) (a i : Nat) (b : Bool) : (s.putBit a i b).fintm = s.fintm := rfl

/-! setByte changes mem alone. -/
@[simp] theorem setByte_now (s : State) (a : Nat) (v : Byte) : (s.setByte a v).now = s.now := rfl
@[simp] theorem setByte_freeCtr (s : State) (a : Nat) (v : Byte) : (s.setByte a v).freeCtr = s.freeCtr := rfl
@[simp] theorem setByte_pending (s : State) (a : Nat) (v : Byte) : (s.setByte a v).pending = s.pending := rfl
@[simp] theorem setByte_regs (s : State) (a : Nat) (v : Byte) : (s.setByte a v).regs = s.regs := rfl
@[simp] theorem setByte_marks (s : State) (a : Nat) (v : Byte) : (s.setByte a v).marks = s.marks := rfl
@[simp] theorem setByte_start (s : State) (a : Nat) (v : Byte) : (s.setByte a v).start = s.start := rfl
@[simp] theorem setByte_paths (s : State) (a : Nat) (v : Byte) : (s.setByte a v).paths = s.paths := rfl
@[simp] theorem setByte_bar (s : State) (a : Nat) (v : Byte) : (s.setByte a v).bar = s.bar := rfl
@[simp] theorem setByte_margins (s : State) (a : Nat) (v : Byte) : (s.setByte a v).margins = s.margins := rfl
@[simp] theorem setByte_links (s : State) (a : Nat) (v : Byte) : (s.setByte a v).links = s.links := rfl
@[simp] theorem setByte_cue (s : State) (a : Nat) (v : Byte) : (s.setByte a v).cue = s.cue := rfl
@[simp] theorem setByte_time (s : State) (a : Nat) (v : Byte) : (s.setByte a v).time = s.time := rfl
@[simp] theorem setByte_pulses (s : State) (a : Nat) (v : Byte) : (s.setByte a v).pulses = s.pulses := rfl
@[simp] theorem setByte_edges (s : State) (a : Nat) (v : Byte) : (s.setByte a v).edges = s.edges := rfl
@[simp] theorem setByte_sw (s : State) (a : Nat) (v : Byte) : (s.setByte a v).sw = s.sw := rfl
@[simp] theorem setByte_streams (s : State) (a : Nat) (v : Byte) : (s.setByte a v).streams = s.streams := rfl
@[simp] theorem setByte_fab (s : State) (a : Nat) (v : Byte) : (s.setByte a v).fab = s.fab := rfl
@[simp] theorem setByte_brg (s : State) (a : Nat) (v : Byte) : (s.setByte a v).brg = s.brg := rfl
@[simp] theorem setByte_clusters (s : State) (a : Nat) (v : Byte) : (s.setByte a v).clusters = s.clusters := rfl
@[simp] theorem setByte_pins (s : State) (a : Nat) (v : Byte) : (s.setByte a v).pins = s.pins := rfl
@[simp] theorem setByte_cans (s : State) (a : Nat) (v : Byte) : (s.setByte a v).cans = s.cans := rfl
@[simp] theorem setByte_snap (s : State) (a : Nat) (v : Byte) : (s.setByte a v).snap = s.snap := rfl
@[simp] theorem setByte_store (s : State) (a : Nat) (v : Byte) : (s.setByte a v).store = s.store := rfl
@[simp] theorem setByte_lead (s : State) (a : Nat) (v : Byte) : (s.setByte a v).lead = s.lead := rfl
@[simp] theorem setByte_flts (s : State) (a : Nat) (v : Byte) : (s.setByte a v).flts = s.flts := rfl
@[simp] theorem setByte_dark (s : State) (a : Nat) (v : Byte) : (s.setByte a v).dark = s.dark := rfl
@[simp] theorem setByte_backlog (s : State) (a : Nat) (v : Byte) : (s.setByte a v).backlog = s.backlog := rfl
@[simp] theorem setByte_fieldInj (s : State) (a : Nat) (v : Byte) : (s.setByte a v).fieldInj = s.fieldInj := rfl
@[simp] theorem setByte_power (s : State) (a : Nat) (v : Byte) : (s.setByte a v).power = s.power := rfl
@[simp] theorem setByte_host (s : State) (a : Nat) (v : Byte) : (s.setByte a v).host = s.host := rfl
@[simp] theorem setByte_dbg (s : State) (a : Nat) (v : Byte) : (s.setByte a v).dbg = s.dbg := rfl
@[simp] theorem setByte_cmp (s : State) (a : Nat) (v : Byte) : (s.setByte a v).cmp = s.cmp := rfl
@[simp] theorem setByte_traces (s : State) (a : Nat) (v : Byte) : (s.setByte a v).traces = s.traces := rfl
@[simp] theorem setByte_claimGap (s : State) (a : Nat) (v : Byte) : (s.setByte a v).claimGap = s.claimGap := rfl
@[simp] theorem setByte_timeGap (s : State) (a : Nat) (v : Byte) : (s.setByte a v).timeGap = s.timeGap := rfl
@[simp] theorem setByte_heard (s : State) (a : Nat) (v : Byte) : (s.setByte a v).heard = s.heard := rfl
@[simp] theorem setByte_told (s : State) (a : Nat) (v : Byte) : (s.setByte a v).told = s.told := rfl
@[simp] theorem setByte_fmodes (s : State) (a : Nat) (v : Byte) : (s.setByte a v).fmodes = s.fmodes := rfl
@[simp] theorem setByte_modesTold (s : State) (a : Nat) (v : Byte) : (s.setByte a v).modesTold = s.modesTold := rfl
@[simp] theorem setByte_fintm (s : State) (a : Nat) (v : Byte) : (s.setByte a v).fintm = s.fintm := rfl

/-! setWord changes mem alone. -/
@[simp] theorem setWord_now (s : State) (a : Nat) (v : Word) : (s.setWord a v).now = s.now := rfl
@[simp] theorem setWord_freeCtr (s : State) (a : Nat) (v : Word) : (s.setWord a v).freeCtr = s.freeCtr := rfl
@[simp] theorem setWord_pending (s : State) (a : Nat) (v : Word) : (s.setWord a v).pending = s.pending := rfl
@[simp] theorem setWord_regs (s : State) (a : Nat) (v : Word) : (s.setWord a v).regs = s.regs := rfl
@[simp] theorem setWord_marks (s : State) (a : Nat) (v : Word) : (s.setWord a v).marks = s.marks := rfl
@[simp] theorem setWord_start (s : State) (a : Nat) (v : Word) : (s.setWord a v).start = s.start := rfl
@[simp] theorem setWord_paths (s : State) (a : Nat) (v : Word) : (s.setWord a v).paths = s.paths := rfl
@[simp] theorem setWord_bar (s : State) (a : Nat) (v : Word) : (s.setWord a v).bar = s.bar := rfl
@[simp] theorem setWord_margins (s : State) (a : Nat) (v : Word) : (s.setWord a v).margins = s.margins := rfl
@[simp] theorem setWord_links (s : State) (a : Nat) (v : Word) : (s.setWord a v).links = s.links := rfl
@[simp] theorem setWord_cue (s : State) (a : Nat) (v : Word) : (s.setWord a v).cue = s.cue := rfl
@[simp] theorem setWord_time (s : State) (a : Nat) (v : Word) : (s.setWord a v).time = s.time := rfl
@[simp] theorem setWord_pulses (s : State) (a : Nat) (v : Word) : (s.setWord a v).pulses = s.pulses := rfl
@[simp] theorem setWord_edges (s : State) (a : Nat) (v : Word) : (s.setWord a v).edges = s.edges := rfl
@[simp] theorem setWord_sw (s : State) (a : Nat) (v : Word) : (s.setWord a v).sw = s.sw := rfl
@[simp] theorem setWord_streams (s : State) (a : Nat) (v : Word) : (s.setWord a v).streams = s.streams := rfl
@[simp] theorem setWord_fab (s : State) (a : Nat) (v : Word) : (s.setWord a v).fab = s.fab := rfl
@[simp] theorem setWord_brg (s : State) (a : Nat) (v : Word) : (s.setWord a v).brg = s.brg := rfl
@[simp] theorem setWord_clusters (s : State) (a : Nat) (v : Word) : (s.setWord a v).clusters = s.clusters := rfl
@[simp] theorem setWord_pins (s : State) (a : Nat) (v : Word) : (s.setWord a v).pins = s.pins := rfl
@[simp] theorem setWord_cans (s : State) (a : Nat) (v : Word) : (s.setWord a v).cans = s.cans := rfl
@[simp] theorem setWord_snap (s : State) (a : Nat) (v : Word) : (s.setWord a v).snap = s.snap := rfl
@[simp] theorem setWord_store (s : State) (a : Nat) (v : Word) : (s.setWord a v).store = s.store := rfl
@[simp] theorem setWord_lead (s : State) (a : Nat) (v : Word) : (s.setWord a v).lead = s.lead := rfl
@[simp] theorem setWord_flts (s : State) (a : Nat) (v : Word) : (s.setWord a v).flts = s.flts := rfl
@[simp] theorem setWord_dark (s : State) (a : Nat) (v : Word) : (s.setWord a v).dark = s.dark := rfl
@[simp] theorem setWord_backlog (s : State) (a : Nat) (v : Word) : (s.setWord a v).backlog = s.backlog := rfl
@[simp] theorem setWord_fieldInj (s : State) (a : Nat) (v : Word) : (s.setWord a v).fieldInj = s.fieldInj := rfl
@[simp] theorem setWord_power (s : State) (a : Nat) (v : Word) : (s.setWord a v).power = s.power := rfl
@[simp] theorem setWord_host (s : State) (a : Nat) (v : Word) : (s.setWord a v).host = s.host := rfl
@[simp] theorem setWord_dbg (s : State) (a : Nat) (v : Word) : (s.setWord a v).dbg = s.dbg := rfl
@[simp] theorem setWord_cmp (s : State) (a : Nat) (v : Word) : (s.setWord a v).cmp = s.cmp := rfl
@[simp] theorem setWord_traces (s : State) (a : Nat) (v : Word) : (s.setWord a v).traces = s.traces := rfl
@[simp] theorem setWord_claimGap (s : State) (a : Nat) (v : Word) : (s.setWord a v).claimGap = s.claimGap := rfl
@[simp] theorem setWord_timeGap (s : State) (a : Nat) (v : Word) : (s.setWord a v).timeGap = s.timeGap := rfl
@[simp] theorem setWord_heard (s : State) (a : Nat) (v : Word) : (s.setWord a v).heard = s.heard := rfl
@[simp] theorem setWord_told (s : State) (a : Nat) (v : Word) : (s.setWord a v).told = s.told := rfl
@[simp] theorem setWord_fmodes (s : State) (a : Nat) (v : Word) : (s.setWord a v).fmodes = s.fmodes := rfl
@[simp] theorem setWord_modesTold (s : State) (a : Nat) (v : Word) : (s.setWord a v).modesTold = s.modesTold := rfl
@[simp] theorem setWord_fintm (s : State) (a : Nat) (v : Word) : (s.setWord a v).fintm = s.fintm := rfl

/-! at changes now alone. -/
@[simp] theorem at_now (s : State) (t : Nat) : (s.at t).now = max s.now t := rfl
@[simp] theorem at_freeCtr (s : State) (t : Nat) : (s.at t).freeCtr = s.freeCtr := rfl
@[simp] theorem at_pending (s : State) (t : Nat) : (s.at t).pending = s.pending := rfl
@[simp] theorem at_regs (s : State) (t : Nat) : (s.at t).regs = s.regs := rfl
@[simp] theorem at_mem (s : State) (t : Nat) : (s.at t).mem = s.mem := rfl
@[simp] theorem at_marks (s : State) (t : Nat) : (s.at t).marks = s.marks := rfl
@[simp] theorem at_start (s : State) (t : Nat) : (s.at t).start = s.start := rfl
@[simp] theorem at_paths (s : State) (t : Nat) : (s.at t).paths = s.paths := rfl
@[simp] theorem at_bar (s : State) (t : Nat) : (s.at t).bar = s.bar := rfl
@[simp] theorem at_margins (s : State) (t : Nat) : (s.at t).margins = s.margins := rfl
@[simp] theorem at_links (s : State) (t : Nat) : (s.at t).links = s.links := rfl
@[simp] theorem at_cue (s : State) (t : Nat) : (s.at t).cue = s.cue := rfl
@[simp] theorem at_time (s : State) (t : Nat) : (s.at t).time = s.time := rfl
@[simp] theorem at_pulses (s : State) (t : Nat) : (s.at t).pulses = s.pulses := rfl
@[simp] theorem at_edges (s : State) (t : Nat) : (s.at t).edges = s.edges := rfl
@[simp] theorem at_sw (s : State) (t : Nat) : (s.at t).sw = s.sw := rfl
@[simp] theorem at_streams (s : State) (t : Nat) : (s.at t).streams = s.streams := rfl
@[simp] theorem at_fab (s : State) (t : Nat) : (s.at t).fab = s.fab := rfl
@[simp] theorem at_brg (s : State) (t : Nat) : (s.at t).brg = s.brg := rfl
@[simp] theorem at_clusters (s : State) (t : Nat) : (s.at t).clusters = s.clusters := rfl
@[simp] theorem at_pins (s : State) (t : Nat) : (s.at t).pins = s.pins := rfl
@[simp] theorem at_cans (s : State) (t : Nat) : (s.at t).cans = s.cans := rfl
@[simp] theorem at_snap (s : State) (t : Nat) : (s.at t).snap = s.snap := rfl
@[simp] theorem at_store (s : State) (t : Nat) : (s.at t).store = s.store := rfl
@[simp] theorem at_lead (s : State) (t : Nat) : (s.at t).lead = s.lead := rfl
@[simp] theorem at_flts (s : State) (t : Nat) : (s.at t).flts = s.flts := rfl
@[simp] theorem at_dark (s : State) (t : Nat) : (s.at t).dark = s.dark := rfl
@[simp] theorem at_backlog (s : State) (t : Nat) : (s.at t).backlog = s.backlog := rfl
@[simp] theorem at_fieldInj (s : State) (t : Nat) : (s.at t).fieldInj = s.fieldInj := rfl
@[simp] theorem at_power (s : State) (t : Nat) : (s.at t).power = s.power := rfl
@[simp] theorem at_host (s : State) (t : Nat) : (s.at t).host = s.host := rfl
@[simp] theorem at_dbg (s : State) (t : Nat) : (s.at t).dbg = s.dbg := rfl
@[simp] theorem at_cmp (s : State) (t : Nat) : (s.at t).cmp = s.cmp := rfl
@[simp] theorem at_traces (s : State) (t : Nat) : (s.at t).traces = s.traces := rfl
@[simp] theorem at_claimGap (s : State) (t : Nat) : (s.at t).claimGap = s.claimGap := rfl
@[simp] theorem at_timeGap (s : State) (t : Nat) : (s.at t).timeGap = s.timeGap := rfl
@[simp] theorem at_heard (s : State) (t : Nat) : (s.at t).heard = s.heard := rfl
@[simp] theorem at_told (s : State) (t : Nat) : (s.at t).told = s.told := rfl
@[simp] theorem at_fmodes (s : State) (t : Nat) : (s.at t).fmodes = s.fmodes := rfl
@[simp] theorem at_modesTold (s : State) (t : Nat) : (s.at t).modesTold = s.modesTold := rfl
@[simp] theorem at_fintm (s : State) (t : Nat) : (s.at t).fintm = s.fintm := rfl

/-! usedFree changes freeCtr alone. -/
@[simp] theorem usedFree_now (s : State) : (s.usedFree).now = s.now := rfl
@[simp] theorem usedFree_freeCtr (s : State) : (s.usedFree).freeCtr = s.freeCtr + 1 := rfl
@[simp] theorem usedFree_pending (s : State) : (s.usedFree).pending = s.pending := rfl
@[simp] theorem usedFree_regs (s : State) : (s.usedFree).regs = s.regs := rfl
@[simp] theorem usedFree_mem (s : State) : (s.usedFree).mem = s.mem := rfl
@[simp] theorem usedFree_marks (s : State) : (s.usedFree).marks = s.marks := rfl
@[simp] theorem usedFree_start (s : State) : (s.usedFree).start = s.start := rfl
@[simp] theorem usedFree_paths (s : State) : (s.usedFree).paths = s.paths := rfl
@[simp] theorem usedFree_bar (s : State) : (s.usedFree).bar = s.bar := rfl
@[simp] theorem usedFree_margins (s : State) : (s.usedFree).margins = s.margins := rfl
@[simp] theorem usedFree_links (s : State) : (s.usedFree).links = s.links := rfl
@[simp] theorem usedFree_cue (s : State) : (s.usedFree).cue = s.cue := rfl
@[simp] theorem usedFree_time (s : State) : (s.usedFree).time = s.time := rfl
@[simp] theorem usedFree_pulses (s : State) : (s.usedFree).pulses = s.pulses := rfl
@[simp] theorem usedFree_edges (s : State) : (s.usedFree).edges = s.edges := rfl
@[simp] theorem usedFree_sw (s : State) : (s.usedFree).sw = s.sw := rfl
@[simp] theorem usedFree_streams (s : State) : (s.usedFree).streams = s.streams := rfl
@[simp] theorem usedFree_fab (s : State) : (s.usedFree).fab = s.fab := rfl
@[simp] theorem usedFree_brg (s : State) : (s.usedFree).brg = s.brg := rfl
@[simp] theorem usedFree_clusters (s : State) : (s.usedFree).clusters = s.clusters := rfl
@[simp] theorem usedFree_pins (s : State) : (s.usedFree).pins = s.pins := rfl
@[simp] theorem usedFree_cans (s : State) : (s.usedFree).cans = s.cans := rfl
@[simp] theorem usedFree_snap (s : State) : (s.usedFree).snap = s.snap := rfl
@[simp] theorem usedFree_store (s : State) : (s.usedFree).store = s.store := rfl
@[simp] theorem usedFree_lead (s : State) : (s.usedFree).lead = s.lead := rfl
@[simp] theorem usedFree_flts (s : State) : (s.usedFree).flts = s.flts := rfl
@[simp] theorem usedFree_dark (s : State) : (s.usedFree).dark = s.dark := rfl
@[simp] theorem usedFree_backlog (s : State) : (s.usedFree).backlog = s.backlog := rfl
@[simp] theorem usedFree_fieldInj (s : State) : (s.usedFree).fieldInj = s.fieldInj := rfl
@[simp] theorem usedFree_power (s : State) : (s.usedFree).power = s.power := rfl
@[simp] theorem usedFree_host (s : State) : (s.usedFree).host = s.host := rfl
@[simp] theorem usedFree_dbg (s : State) : (s.usedFree).dbg = s.dbg := rfl
@[simp] theorem usedFree_cmp (s : State) : (s.usedFree).cmp = s.cmp := rfl
@[simp] theorem usedFree_traces (s : State) : (s.usedFree).traces = s.traces := rfl
@[simp] theorem usedFree_claimGap (s : State) : (s.usedFree).claimGap = s.claimGap := rfl
@[simp] theorem usedFree_timeGap (s : State) : (s.usedFree).timeGap = s.timeGap := rfl
@[simp] theorem usedFree_heard (s : State) : (s.usedFree).heard = s.heard := rfl
@[simp] theorem usedFree_told (s : State) : (s.usedFree).told = s.told := rfl
@[simp] theorem usedFree_fmodes (s : State) : (s.usedFree).fmodes = s.fmodes := rfl
@[simp] theorem usedFree_modesTold (s : State) : (s.usedFree).modesTold = s.modesTold := rfl
@[simp] theorem usedFree_fintm (s : State) : (s.usedFree).fintm = s.fintm := rfl

/-! updCl changes clusters alone. -/
@[simp] theorem updCl_now (s : State) (n : Fin 12) (f : Cluster → Cluster) : (s.updCl n f).now = s.now := rfl
@[simp] theorem updCl_freeCtr (s : State) (n : Fin 12) (f : Cluster → Cluster) : (s.updCl n f).freeCtr = s.freeCtr := rfl
@[simp] theorem updCl_pending (s : State) (n : Fin 12) (f : Cluster → Cluster) : (s.updCl n f).pending = s.pending := rfl
@[simp] theorem updCl_regs (s : State) (n : Fin 12) (f : Cluster → Cluster) : (s.updCl n f).regs = s.regs := rfl
@[simp] theorem updCl_mem (s : State) (n : Fin 12) (f : Cluster → Cluster) : (s.updCl n f).mem = s.mem := rfl
@[simp] theorem updCl_marks (s : State) (n : Fin 12) (f : Cluster → Cluster) : (s.updCl n f).marks = s.marks := rfl
@[simp] theorem updCl_start (s : State) (n : Fin 12) (f : Cluster → Cluster) : (s.updCl n f).start = s.start := rfl
@[simp] theorem updCl_paths (s : State) (n : Fin 12) (f : Cluster → Cluster) : (s.updCl n f).paths = s.paths := rfl
@[simp] theorem updCl_bar (s : State) (n : Fin 12) (f : Cluster → Cluster) : (s.updCl n f).bar = s.bar := rfl
@[simp] theorem updCl_margins (s : State) (n : Fin 12) (f : Cluster → Cluster) : (s.updCl n f).margins = s.margins := rfl
@[simp] theorem updCl_links (s : State) (n : Fin 12) (f : Cluster → Cluster) : (s.updCl n f).links = s.links := rfl
@[simp] theorem updCl_cue (s : State) (n : Fin 12) (f : Cluster → Cluster) : (s.updCl n f).cue = s.cue := rfl
@[simp] theorem updCl_time (s : State) (n : Fin 12) (f : Cluster → Cluster) : (s.updCl n f).time = s.time := rfl
@[simp] theorem updCl_pulses (s : State) (n : Fin 12) (f : Cluster → Cluster) : (s.updCl n f).pulses = s.pulses := rfl
@[simp] theorem updCl_edges (s : State) (n : Fin 12) (f : Cluster → Cluster) : (s.updCl n f).edges = s.edges := rfl
@[simp] theorem updCl_sw (s : State) (n : Fin 12) (f : Cluster → Cluster) : (s.updCl n f).sw = s.sw := rfl
@[simp] theorem updCl_streams (s : State) (n : Fin 12) (f : Cluster → Cluster) : (s.updCl n f).streams = s.streams := rfl
@[simp] theorem updCl_fab (s : State) (n : Fin 12) (f : Cluster → Cluster) : (s.updCl n f).fab = s.fab := rfl
@[simp] theorem updCl_brg (s : State) (n : Fin 12) (f : Cluster → Cluster) : (s.updCl n f).brg = s.brg := rfl
@[simp] theorem updCl_clusters (s : State) (n : Fin 12) (f : Cluster → Cluster) : (s.updCl n f).clusters = vupd s.clusters n f := rfl
@[simp] theorem updCl_pins (s : State) (n : Fin 12) (f : Cluster → Cluster) : (s.updCl n f).pins = s.pins := rfl
@[simp] theorem updCl_cans (s : State) (n : Fin 12) (f : Cluster → Cluster) : (s.updCl n f).cans = s.cans := rfl
@[simp] theorem updCl_snap (s : State) (n : Fin 12) (f : Cluster → Cluster) : (s.updCl n f).snap = s.snap := rfl
@[simp] theorem updCl_store (s : State) (n : Fin 12) (f : Cluster → Cluster) : (s.updCl n f).store = s.store := rfl
@[simp] theorem updCl_lead (s : State) (n : Fin 12) (f : Cluster → Cluster) : (s.updCl n f).lead = s.lead := rfl
@[simp] theorem updCl_flts (s : State) (n : Fin 12) (f : Cluster → Cluster) : (s.updCl n f).flts = s.flts := rfl
@[simp] theorem updCl_dark (s : State) (n : Fin 12) (f : Cluster → Cluster) : (s.updCl n f).dark = s.dark := rfl
@[simp] theorem updCl_backlog (s : State) (n : Fin 12) (f : Cluster → Cluster) : (s.updCl n f).backlog = s.backlog := rfl
@[simp] theorem updCl_fieldInj (s : State) (n : Fin 12) (f : Cluster → Cluster) : (s.updCl n f).fieldInj = s.fieldInj := rfl
@[simp] theorem updCl_power (s : State) (n : Fin 12) (f : Cluster → Cluster) : (s.updCl n f).power = s.power := rfl
@[simp] theorem updCl_host (s : State) (n : Fin 12) (f : Cluster → Cluster) : (s.updCl n f).host = s.host := rfl
@[simp] theorem updCl_dbg (s : State) (n : Fin 12) (f : Cluster → Cluster) : (s.updCl n f).dbg = s.dbg := rfl
@[simp] theorem updCl_cmp (s : State) (n : Fin 12) (f : Cluster → Cluster) : (s.updCl n f).cmp = s.cmp := rfl
@[simp] theorem updCl_traces (s : State) (n : Fin 12) (f : Cluster → Cluster) : (s.updCl n f).traces = s.traces := rfl
@[simp] theorem updCl_claimGap (s : State) (n : Fin 12) (f : Cluster → Cluster) : (s.updCl n f).claimGap = s.claimGap := rfl
@[simp] theorem updCl_timeGap (s : State) (n : Fin 12) (f : Cluster → Cluster) : (s.updCl n f).timeGap = s.timeGap := rfl
@[simp] theorem updCl_heard (s : State) (n : Fin 12) (f : Cluster → Cluster) : (s.updCl n f).heard = s.heard := rfl
@[simp] theorem updCl_told (s : State) (n : Fin 12) (f : Cluster → Cluster) : (s.updCl n f).told = s.told := rfl
@[simp] theorem updCl_fmodes (s : State) (n : Fin 12) (f : Cluster → Cluster) : (s.updCl n f).fmodes = s.fmodes := rfl
@[simp] theorem updCl_modesTold (s : State) (n : Fin 12) (f : Cluster → Cluster) : (s.updCl n f).modesTold = s.modesTold := rfl
@[simp] theorem updCl_fintm (s : State) (n : Fin 12) (f : Cluster → Cluster) : (s.updCl n f).fintm = s.fintm := rfl

/-! updEng changes clusters alone. -/
@[simp] theorem updEng_now (s : State) (n : Fin 12) (e : Fin 14) (f : Engine → Engine) : (s.updEng n e f).now = s.now := rfl
@[simp] theorem updEng_freeCtr (s : State) (n : Fin 12) (e : Fin 14) (f : Engine → Engine) : (s.updEng n e f).freeCtr = s.freeCtr := rfl
@[simp] theorem updEng_pending (s : State) (n : Fin 12) (e : Fin 14) (f : Engine → Engine) : (s.updEng n e f).pending = s.pending := rfl
@[simp] theorem updEng_regs (s : State) (n : Fin 12) (e : Fin 14) (f : Engine → Engine) : (s.updEng n e f).regs = s.regs := rfl
@[simp] theorem updEng_mem (s : State) (n : Fin 12) (e : Fin 14) (f : Engine → Engine) : (s.updEng n e f).mem = s.mem := rfl
@[simp] theorem updEng_marks (s : State) (n : Fin 12) (e : Fin 14) (f : Engine → Engine) : (s.updEng n e f).marks = s.marks := rfl
@[simp] theorem updEng_start (s : State) (n : Fin 12) (e : Fin 14) (f : Engine → Engine) : (s.updEng n e f).start = s.start := rfl
@[simp] theorem updEng_paths (s : State) (n : Fin 12) (e : Fin 14) (f : Engine → Engine) : (s.updEng n e f).paths = s.paths := rfl
@[simp] theorem updEng_bar (s : State) (n : Fin 12) (e : Fin 14) (f : Engine → Engine) : (s.updEng n e f).bar = s.bar := rfl
@[simp] theorem updEng_margins (s : State) (n : Fin 12) (e : Fin 14) (f : Engine → Engine) : (s.updEng n e f).margins = s.margins := rfl
@[simp] theorem updEng_links (s : State) (n : Fin 12) (e : Fin 14) (f : Engine → Engine) : (s.updEng n e f).links = s.links := rfl
@[simp] theorem updEng_cue (s : State) (n : Fin 12) (e : Fin 14) (f : Engine → Engine) : (s.updEng n e f).cue = s.cue := rfl
@[simp] theorem updEng_time (s : State) (n : Fin 12) (e : Fin 14) (f : Engine → Engine) : (s.updEng n e f).time = s.time := rfl
@[simp] theorem updEng_pulses (s : State) (n : Fin 12) (e : Fin 14) (f : Engine → Engine) : (s.updEng n e f).pulses = s.pulses := rfl
@[simp] theorem updEng_edges (s : State) (n : Fin 12) (e : Fin 14) (f : Engine → Engine) : (s.updEng n e f).edges = s.edges := rfl
@[simp] theorem updEng_sw (s : State) (n : Fin 12) (e : Fin 14) (f : Engine → Engine) : (s.updEng n e f).sw = s.sw := rfl
@[simp] theorem updEng_streams (s : State) (n : Fin 12) (e : Fin 14) (f : Engine → Engine) : (s.updEng n e f).streams = s.streams := rfl
@[simp] theorem updEng_fab (s : State) (n : Fin 12) (e : Fin 14) (f : Engine → Engine) : (s.updEng n e f).fab = s.fab := rfl
@[simp] theorem updEng_brg (s : State) (n : Fin 12) (e : Fin 14) (f : Engine → Engine) : (s.updEng n e f).brg = s.brg := rfl
@[simp] theorem updEng_pins (s : State) (n : Fin 12) (e : Fin 14) (f : Engine → Engine) : (s.updEng n e f).pins = s.pins := rfl
@[simp] theorem updEng_cans (s : State) (n : Fin 12) (e : Fin 14) (f : Engine → Engine) : (s.updEng n e f).cans = s.cans := rfl
@[simp] theorem updEng_snap (s : State) (n : Fin 12) (e : Fin 14) (f : Engine → Engine) : (s.updEng n e f).snap = s.snap := rfl
@[simp] theorem updEng_store (s : State) (n : Fin 12) (e : Fin 14) (f : Engine → Engine) : (s.updEng n e f).store = s.store := rfl
@[simp] theorem updEng_lead (s : State) (n : Fin 12) (e : Fin 14) (f : Engine → Engine) : (s.updEng n e f).lead = s.lead := rfl
@[simp] theorem updEng_flts (s : State) (n : Fin 12) (e : Fin 14) (f : Engine → Engine) : (s.updEng n e f).flts = s.flts := rfl
@[simp] theorem updEng_dark (s : State) (n : Fin 12) (e : Fin 14) (f : Engine → Engine) : (s.updEng n e f).dark = s.dark := rfl
@[simp] theorem updEng_backlog (s : State) (n : Fin 12) (e : Fin 14) (f : Engine → Engine) : (s.updEng n e f).backlog = s.backlog := rfl
@[simp] theorem updEng_fieldInj (s : State) (n : Fin 12) (e : Fin 14) (f : Engine → Engine) : (s.updEng n e f).fieldInj = s.fieldInj := rfl
@[simp] theorem updEng_power (s : State) (n : Fin 12) (e : Fin 14) (f : Engine → Engine) : (s.updEng n e f).power = s.power := rfl
@[simp] theorem updEng_host (s : State) (n : Fin 12) (e : Fin 14) (f : Engine → Engine) : (s.updEng n e f).host = s.host := rfl
@[simp] theorem updEng_dbg (s : State) (n : Fin 12) (e : Fin 14) (f : Engine → Engine) : (s.updEng n e f).dbg = s.dbg := rfl
@[simp] theorem updEng_cmp (s : State) (n : Fin 12) (e : Fin 14) (f : Engine → Engine) : (s.updEng n e f).cmp = s.cmp := rfl
@[simp] theorem updEng_traces (s : State) (n : Fin 12) (e : Fin 14) (f : Engine → Engine) : (s.updEng n e f).traces = s.traces := rfl
@[simp] theorem updEng_claimGap (s : State) (n : Fin 12) (e : Fin 14) (f : Engine → Engine) : (s.updEng n e f).claimGap = s.claimGap := rfl
@[simp] theorem updEng_timeGap (s : State) (n : Fin 12) (e : Fin 14) (f : Engine → Engine) : (s.updEng n e f).timeGap = s.timeGap := rfl
@[simp] theorem updEng_heard (s : State) (n : Fin 12) (e : Fin 14) (f : Engine → Engine) : (s.updEng n e f).heard = s.heard := rfl
@[simp] theorem updEng_told (s : State) (n : Fin 12) (e : Fin 14) (f : Engine → Engine) : (s.updEng n e f).told = s.told := rfl
@[simp] theorem updEng_fmodes (s : State) (n : Fin 12) (e : Fin 14) (f : Engine → Engine) : (s.updEng n e f).fmodes = s.fmodes := rfl
@[simp] theorem updEng_modesTold (s : State) (n : Fin 12) (e : Fin 14) (f : Engine → Engine) : (s.updEng n e f).modesTold = s.modesTold := rfl
@[simp] theorem updEng_fintm (s : State) (n : Fin 12) (e : Fin 14) (f : Engine → Engine) : (s.updEng n e f).fintm = s.fintm := rfl

/-! updPacer changes clusters alone. -/
@[simp] theorem updPacer_now (s : State) (n : Fin 12) (p : Fin 16) (f : Pacer → Pacer) : (s.updPacer n p f).now = s.now := rfl
@[simp] theorem updPacer_freeCtr (s : State) (n : Fin 12) (p : Fin 16) (f : Pacer → Pacer) : (s.updPacer n p f).freeCtr = s.freeCtr := rfl
@[simp] theorem updPacer_pending (s : State) (n : Fin 12) (p : Fin 16) (f : Pacer → Pacer) : (s.updPacer n p f).pending = s.pending := rfl
@[simp] theorem updPacer_regs (s : State) (n : Fin 12) (p : Fin 16) (f : Pacer → Pacer) : (s.updPacer n p f).regs = s.regs := rfl
@[simp] theorem updPacer_mem (s : State) (n : Fin 12) (p : Fin 16) (f : Pacer → Pacer) : (s.updPacer n p f).mem = s.mem := rfl
@[simp] theorem updPacer_marks (s : State) (n : Fin 12) (p : Fin 16) (f : Pacer → Pacer) : (s.updPacer n p f).marks = s.marks := rfl
@[simp] theorem updPacer_start (s : State) (n : Fin 12) (p : Fin 16) (f : Pacer → Pacer) : (s.updPacer n p f).start = s.start := rfl
@[simp] theorem updPacer_paths (s : State) (n : Fin 12) (p : Fin 16) (f : Pacer → Pacer) : (s.updPacer n p f).paths = s.paths := rfl
@[simp] theorem updPacer_bar (s : State) (n : Fin 12) (p : Fin 16) (f : Pacer → Pacer) : (s.updPacer n p f).bar = s.bar := rfl
@[simp] theorem updPacer_margins (s : State) (n : Fin 12) (p : Fin 16) (f : Pacer → Pacer) : (s.updPacer n p f).margins = s.margins := rfl
@[simp] theorem updPacer_links (s : State) (n : Fin 12) (p : Fin 16) (f : Pacer → Pacer) : (s.updPacer n p f).links = s.links := rfl
@[simp] theorem updPacer_cue (s : State) (n : Fin 12) (p : Fin 16) (f : Pacer → Pacer) : (s.updPacer n p f).cue = s.cue := rfl
@[simp] theorem updPacer_time (s : State) (n : Fin 12) (p : Fin 16) (f : Pacer → Pacer) : (s.updPacer n p f).time = s.time := rfl
@[simp] theorem updPacer_pulses (s : State) (n : Fin 12) (p : Fin 16) (f : Pacer → Pacer) : (s.updPacer n p f).pulses = s.pulses := rfl
@[simp] theorem updPacer_edges (s : State) (n : Fin 12) (p : Fin 16) (f : Pacer → Pacer) : (s.updPacer n p f).edges = s.edges := rfl
@[simp] theorem updPacer_sw (s : State) (n : Fin 12) (p : Fin 16) (f : Pacer → Pacer) : (s.updPacer n p f).sw = s.sw := rfl
@[simp] theorem updPacer_streams (s : State) (n : Fin 12) (p : Fin 16) (f : Pacer → Pacer) : (s.updPacer n p f).streams = s.streams := rfl
@[simp] theorem updPacer_fab (s : State) (n : Fin 12) (p : Fin 16) (f : Pacer → Pacer) : (s.updPacer n p f).fab = s.fab := rfl
@[simp] theorem updPacer_brg (s : State) (n : Fin 12) (p : Fin 16) (f : Pacer → Pacer) : (s.updPacer n p f).brg = s.brg := rfl
@[simp] theorem updPacer_pins (s : State) (n : Fin 12) (p : Fin 16) (f : Pacer → Pacer) : (s.updPacer n p f).pins = s.pins := rfl
@[simp] theorem updPacer_cans (s : State) (n : Fin 12) (p : Fin 16) (f : Pacer → Pacer) : (s.updPacer n p f).cans = s.cans := rfl
@[simp] theorem updPacer_snap (s : State) (n : Fin 12) (p : Fin 16) (f : Pacer → Pacer) : (s.updPacer n p f).snap = s.snap := rfl
@[simp] theorem updPacer_store (s : State) (n : Fin 12) (p : Fin 16) (f : Pacer → Pacer) : (s.updPacer n p f).store = s.store := rfl
@[simp] theorem updPacer_lead (s : State) (n : Fin 12) (p : Fin 16) (f : Pacer → Pacer) : (s.updPacer n p f).lead = s.lead := rfl
@[simp] theorem updPacer_flts (s : State) (n : Fin 12) (p : Fin 16) (f : Pacer → Pacer) : (s.updPacer n p f).flts = s.flts := rfl
@[simp] theorem updPacer_dark (s : State) (n : Fin 12) (p : Fin 16) (f : Pacer → Pacer) : (s.updPacer n p f).dark = s.dark := rfl
@[simp] theorem updPacer_backlog (s : State) (n : Fin 12) (p : Fin 16) (f : Pacer → Pacer) : (s.updPacer n p f).backlog = s.backlog := rfl
@[simp] theorem updPacer_fieldInj (s : State) (n : Fin 12) (p : Fin 16) (f : Pacer → Pacer) : (s.updPacer n p f).fieldInj = s.fieldInj := rfl
@[simp] theorem updPacer_power (s : State) (n : Fin 12) (p : Fin 16) (f : Pacer → Pacer) : (s.updPacer n p f).power = s.power := rfl
@[simp] theorem updPacer_host (s : State) (n : Fin 12) (p : Fin 16) (f : Pacer → Pacer) : (s.updPacer n p f).host = s.host := rfl
@[simp] theorem updPacer_dbg (s : State) (n : Fin 12) (p : Fin 16) (f : Pacer → Pacer) : (s.updPacer n p f).dbg = s.dbg := rfl
@[simp] theorem updPacer_cmp (s : State) (n : Fin 12) (p : Fin 16) (f : Pacer → Pacer) : (s.updPacer n p f).cmp = s.cmp := rfl
@[simp] theorem updPacer_traces (s : State) (n : Fin 12) (p : Fin 16) (f : Pacer → Pacer) : (s.updPacer n p f).traces = s.traces := rfl
@[simp] theorem updPacer_claimGap (s : State) (n : Fin 12) (p : Fin 16) (f : Pacer → Pacer) : (s.updPacer n p f).claimGap = s.claimGap := rfl
@[simp] theorem updPacer_timeGap (s : State) (n : Fin 12) (p : Fin 16) (f : Pacer → Pacer) : (s.updPacer n p f).timeGap = s.timeGap := rfl
@[simp] theorem updPacer_heard (s : State) (n : Fin 12) (p : Fin 16) (f : Pacer → Pacer) : (s.updPacer n p f).heard = s.heard := rfl
@[simp] theorem updPacer_told (s : State) (n : Fin 12) (p : Fin 16) (f : Pacer → Pacer) : (s.updPacer n p f).told = s.told := rfl
@[simp] theorem updPacer_fmodes (s : State) (n : Fin 12) (p : Fin 16) (f : Pacer → Pacer) : (s.updPacer n p f).fmodes = s.fmodes := rfl
@[simp] theorem updPacer_modesTold (s : State) (n : Fin 12) (p : Fin 16) (f : Pacer → Pacer) : (s.updPacer n p f).modesTold = s.modesTold := rfl
@[simp] theorem updPacer_fintm (s : State) (n : Fin 12) (p : Fin 16) (f : Pacer → Pacer) : (s.updPacer n p f).fintm = s.fintm := rfl

/-! updConduit changes clusters alone. -/
@[simp] theorem updConduit_now (s : State) (n : Fin 12) (q : Fin 16) (f : Conduit → Conduit) : (s.updConduit n q f).now = s.now := rfl
@[simp] theorem updConduit_freeCtr (s : State) (n : Fin 12) (q : Fin 16) (f : Conduit → Conduit) : (s.updConduit n q f).freeCtr = s.freeCtr := rfl
@[simp] theorem updConduit_pending (s : State) (n : Fin 12) (q : Fin 16) (f : Conduit → Conduit) : (s.updConduit n q f).pending = s.pending := rfl
@[simp] theorem updConduit_regs (s : State) (n : Fin 12) (q : Fin 16) (f : Conduit → Conduit) : (s.updConduit n q f).regs = s.regs := rfl
@[simp] theorem updConduit_mem (s : State) (n : Fin 12) (q : Fin 16) (f : Conduit → Conduit) : (s.updConduit n q f).mem = s.mem := rfl
@[simp] theorem updConduit_marks (s : State) (n : Fin 12) (q : Fin 16) (f : Conduit → Conduit) : (s.updConduit n q f).marks = s.marks := rfl
@[simp] theorem updConduit_start (s : State) (n : Fin 12) (q : Fin 16) (f : Conduit → Conduit) : (s.updConduit n q f).start = s.start := rfl
@[simp] theorem updConduit_paths (s : State) (n : Fin 12) (q : Fin 16) (f : Conduit → Conduit) : (s.updConduit n q f).paths = s.paths := rfl
@[simp] theorem updConduit_bar (s : State) (n : Fin 12) (q : Fin 16) (f : Conduit → Conduit) : (s.updConduit n q f).bar = s.bar := rfl
@[simp] theorem updConduit_margins (s : State) (n : Fin 12) (q : Fin 16) (f : Conduit → Conduit) : (s.updConduit n q f).margins = s.margins := rfl
@[simp] theorem updConduit_links (s : State) (n : Fin 12) (q : Fin 16) (f : Conduit → Conduit) : (s.updConduit n q f).links = s.links := rfl
@[simp] theorem updConduit_cue (s : State) (n : Fin 12) (q : Fin 16) (f : Conduit → Conduit) : (s.updConduit n q f).cue = s.cue := rfl
@[simp] theorem updConduit_time (s : State) (n : Fin 12) (q : Fin 16) (f : Conduit → Conduit) : (s.updConduit n q f).time = s.time := rfl
@[simp] theorem updConduit_pulses (s : State) (n : Fin 12) (q : Fin 16) (f : Conduit → Conduit) : (s.updConduit n q f).pulses = s.pulses := rfl
@[simp] theorem updConduit_edges (s : State) (n : Fin 12) (q : Fin 16) (f : Conduit → Conduit) : (s.updConduit n q f).edges = s.edges := rfl
@[simp] theorem updConduit_sw (s : State) (n : Fin 12) (q : Fin 16) (f : Conduit → Conduit) : (s.updConduit n q f).sw = s.sw := rfl
@[simp] theorem updConduit_streams (s : State) (n : Fin 12) (q : Fin 16) (f : Conduit → Conduit) : (s.updConduit n q f).streams = s.streams := rfl
@[simp] theorem updConduit_fab (s : State) (n : Fin 12) (q : Fin 16) (f : Conduit → Conduit) : (s.updConduit n q f).fab = s.fab := rfl
@[simp] theorem updConduit_brg (s : State) (n : Fin 12) (q : Fin 16) (f : Conduit → Conduit) : (s.updConduit n q f).brg = s.brg := rfl
@[simp] theorem updConduit_pins (s : State) (n : Fin 12) (q : Fin 16) (f : Conduit → Conduit) : (s.updConduit n q f).pins = s.pins := rfl
@[simp] theorem updConduit_cans (s : State) (n : Fin 12) (q : Fin 16) (f : Conduit → Conduit) : (s.updConduit n q f).cans = s.cans := rfl
@[simp] theorem updConduit_snap (s : State) (n : Fin 12) (q : Fin 16) (f : Conduit → Conduit) : (s.updConduit n q f).snap = s.snap := rfl
@[simp] theorem updConduit_store (s : State) (n : Fin 12) (q : Fin 16) (f : Conduit → Conduit) : (s.updConduit n q f).store = s.store := rfl
@[simp] theorem updConduit_lead (s : State) (n : Fin 12) (q : Fin 16) (f : Conduit → Conduit) : (s.updConduit n q f).lead = s.lead := rfl
@[simp] theorem updConduit_flts (s : State) (n : Fin 12) (q : Fin 16) (f : Conduit → Conduit) : (s.updConduit n q f).flts = s.flts := rfl
@[simp] theorem updConduit_dark (s : State) (n : Fin 12) (q : Fin 16) (f : Conduit → Conduit) : (s.updConduit n q f).dark = s.dark := rfl
@[simp] theorem updConduit_backlog (s : State) (n : Fin 12) (q : Fin 16) (f : Conduit → Conduit) : (s.updConduit n q f).backlog = s.backlog := rfl
@[simp] theorem updConduit_fieldInj (s : State) (n : Fin 12) (q : Fin 16) (f : Conduit → Conduit) : (s.updConduit n q f).fieldInj = s.fieldInj := rfl
@[simp] theorem updConduit_power (s : State) (n : Fin 12) (q : Fin 16) (f : Conduit → Conduit) : (s.updConduit n q f).power = s.power := rfl
@[simp] theorem updConduit_host (s : State) (n : Fin 12) (q : Fin 16) (f : Conduit → Conduit) : (s.updConduit n q f).host = s.host := rfl
@[simp] theorem updConduit_dbg (s : State) (n : Fin 12) (q : Fin 16) (f : Conduit → Conduit) : (s.updConduit n q f).dbg = s.dbg := rfl
@[simp] theorem updConduit_cmp (s : State) (n : Fin 12) (q : Fin 16) (f : Conduit → Conduit) : (s.updConduit n q f).cmp = s.cmp := rfl
@[simp] theorem updConduit_traces (s : State) (n : Fin 12) (q : Fin 16) (f : Conduit → Conduit) : (s.updConduit n q f).traces = s.traces := rfl
@[simp] theorem updConduit_claimGap (s : State) (n : Fin 12) (q : Fin 16) (f : Conduit → Conduit) : (s.updConduit n q f).claimGap = s.claimGap := rfl
@[simp] theorem updConduit_timeGap (s : State) (n : Fin 12) (q : Fin 16) (f : Conduit → Conduit) : (s.updConduit n q f).timeGap = s.timeGap := rfl
@[simp] theorem updConduit_heard (s : State) (n : Fin 12) (q : Fin 16) (f : Conduit → Conduit) : (s.updConduit n q f).heard = s.heard := rfl
@[simp] theorem updConduit_told (s : State) (n : Fin 12) (q : Fin 16) (f : Conduit → Conduit) : (s.updConduit n q f).told = s.told := rfl
@[simp] theorem updConduit_fmodes (s : State) (n : Fin 12) (q : Fin 16) (f : Conduit → Conduit) : (s.updConduit n q f).fmodes = s.fmodes := rfl
@[simp] theorem updConduit_modesTold (s : State) (n : Fin 12) (q : Fin 16) (f : Conduit → Conduit) : (s.updConduit n q f).modesTold = s.modesTold := rfl
@[simp] theorem updConduit_fintm (s : State) (n : Fin 12) (q : Fin 16) (f : Conduit → Conduit) : (s.updConduit n q f).fintm = s.fintm := rfl

/-! updPin changes pins alone. -/
@[simp] theorem updPin_now (s : State) (k : Fin 144) (f : Pin → Pin) : (s.updPin k f).now = s.now := rfl
@[simp] theorem updPin_freeCtr (s : State) (k : Fin 144) (f : Pin → Pin) : (s.updPin k f).freeCtr = s.freeCtr := rfl
@[simp] theorem updPin_pending (s : State) (k : Fin 144) (f : Pin → Pin) : (s.updPin k f).pending = s.pending := rfl
@[simp] theorem updPin_regs (s : State) (k : Fin 144) (f : Pin → Pin) : (s.updPin k f).regs = s.regs := rfl
@[simp] theorem updPin_mem (s : State) (k : Fin 144) (f : Pin → Pin) : (s.updPin k f).mem = s.mem := rfl
@[simp] theorem updPin_marks (s : State) (k : Fin 144) (f : Pin → Pin) : (s.updPin k f).marks = s.marks := rfl
@[simp] theorem updPin_start (s : State) (k : Fin 144) (f : Pin → Pin) : (s.updPin k f).start = s.start := rfl
@[simp] theorem updPin_paths (s : State) (k : Fin 144) (f : Pin → Pin) : (s.updPin k f).paths = s.paths := rfl
@[simp] theorem updPin_bar (s : State) (k : Fin 144) (f : Pin → Pin) : (s.updPin k f).bar = s.bar := rfl
@[simp] theorem updPin_margins (s : State) (k : Fin 144) (f : Pin → Pin) : (s.updPin k f).margins = s.margins := rfl
@[simp] theorem updPin_links (s : State) (k : Fin 144) (f : Pin → Pin) : (s.updPin k f).links = s.links := rfl
@[simp] theorem updPin_cue (s : State) (k : Fin 144) (f : Pin → Pin) : (s.updPin k f).cue = s.cue := rfl
@[simp] theorem updPin_time (s : State) (k : Fin 144) (f : Pin → Pin) : (s.updPin k f).time = s.time := rfl
@[simp] theorem updPin_pulses (s : State) (k : Fin 144) (f : Pin → Pin) : (s.updPin k f).pulses = s.pulses := rfl
@[simp] theorem updPin_edges (s : State) (k : Fin 144) (f : Pin → Pin) : (s.updPin k f).edges = s.edges := rfl
@[simp] theorem updPin_sw (s : State) (k : Fin 144) (f : Pin → Pin) : (s.updPin k f).sw = s.sw := rfl
@[simp] theorem updPin_streams (s : State) (k : Fin 144) (f : Pin → Pin) : (s.updPin k f).streams = s.streams := rfl
@[simp] theorem updPin_fab (s : State) (k : Fin 144) (f : Pin → Pin) : (s.updPin k f).fab = s.fab := rfl
@[simp] theorem updPin_brg (s : State) (k : Fin 144) (f : Pin → Pin) : (s.updPin k f).brg = s.brg := rfl
@[simp] theorem updPin_clusters (s : State) (k : Fin 144) (f : Pin → Pin) : (s.updPin k f).clusters = s.clusters := rfl
@[simp] theorem updPin_pins (s : State) (k : Fin 144) (f : Pin → Pin) : (s.updPin k f).pins = vupd s.pins k f := rfl
@[simp] theorem updPin_cans (s : State) (k : Fin 144) (f : Pin → Pin) : (s.updPin k f).cans = s.cans := rfl
@[simp] theorem updPin_snap (s : State) (k : Fin 144) (f : Pin → Pin) : (s.updPin k f).snap = s.snap := rfl
@[simp] theorem updPin_store (s : State) (k : Fin 144) (f : Pin → Pin) : (s.updPin k f).store = s.store := rfl
@[simp] theorem updPin_lead (s : State) (k : Fin 144) (f : Pin → Pin) : (s.updPin k f).lead = s.lead := rfl
@[simp] theorem updPin_flts (s : State) (k : Fin 144) (f : Pin → Pin) : (s.updPin k f).flts = s.flts := rfl
@[simp] theorem updPin_dark (s : State) (k : Fin 144) (f : Pin → Pin) : (s.updPin k f).dark = s.dark := rfl
@[simp] theorem updPin_backlog (s : State) (k : Fin 144) (f : Pin → Pin) : (s.updPin k f).backlog = s.backlog := rfl
@[simp] theorem updPin_fieldInj (s : State) (k : Fin 144) (f : Pin → Pin) : (s.updPin k f).fieldInj = s.fieldInj := rfl
@[simp] theorem updPin_power (s : State) (k : Fin 144) (f : Pin → Pin) : (s.updPin k f).power = s.power := rfl
@[simp] theorem updPin_host (s : State) (k : Fin 144) (f : Pin → Pin) : (s.updPin k f).host = s.host := rfl
@[simp] theorem updPin_dbg (s : State) (k : Fin 144) (f : Pin → Pin) : (s.updPin k f).dbg = s.dbg := rfl
@[simp] theorem updPin_cmp (s : State) (k : Fin 144) (f : Pin → Pin) : (s.updPin k f).cmp = s.cmp := rfl
@[simp] theorem updPin_traces (s : State) (k : Fin 144) (f : Pin → Pin) : (s.updPin k f).traces = s.traces := rfl
@[simp] theorem updPin_claimGap (s : State) (k : Fin 144) (f : Pin → Pin) : (s.updPin k f).claimGap = s.claimGap := rfl
@[simp] theorem updPin_timeGap (s : State) (k : Fin 144) (f : Pin → Pin) : (s.updPin k f).timeGap = s.timeGap := rfl
@[simp] theorem updPin_heard (s : State) (k : Fin 144) (f : Pin → Pin) : (s.updPin k f).heard = s.heard := rfl
@[simp] theorem updPin_told (s : State) (k : Fin 144) (f : Pin → Pin) : (s.updPin k f).told = s.told := rfl
@[simp] theorem updPin_fmodes (s : State) (k : Fin 144) (f : Pin → Pin) : (s.updPin k f).fmodes = s.fmodes := rfl
@[simp] theorem updPin_modesTold (s : State) (k : Fin 144) (f : Pin → Pin) : (s.updPin k f).modesTold = s.modesTold := rfl
@[simp] theorem updPin_fintm (s : State) (k : Fin 144) (f : Pin → Pin) : (s.updPin k f).fintm = s.fintm := rfl

/-! updBar changes bar alone. -/
@[simp] theorem updBar_now (s : State) (d : BarDir) (f : BarDirState → BarDirState) : (s.updBar d f).now = s.now := rfl
@[simp] theorem updBar_freeCtr (s : State) (d : BarDir) (f : BarDirState → BarDirState) : (s.updBar d f).freeCtr = s.freeCtr := rfl
@[simp] theorem updBar_pending (s : State) (d : BarDir) (f : BarDirState → BarDirState) : (s.updBar d f).pending = s.pending := rfl
@[simp] theorem updBar_regs (s : State) (d : BarDir) (f : BarDirState → BarDirState) : (s.updBar d f).regs = s.regs := rfl
@[simp] theorem updBar_mem (s : State) (d : BarDir) (f : BarDirState → BarDirState) : (s.updBar d f).mem = s.mem := rfl
@[simp] theorem updBar_marks (s : State) (d : BarDir) (f : BarDirState → BarDirState) : (s.updBar d f).marks = s.marks := rfl
@[simp] theorem updBar_start (s : State) (d : BarDir) (f : BarDirState → BarDirState) : (s.updBar d f).start = s.start := rfl
@[simp] theorem updBar_paths (s : State) (d : BarDir) (f : BarDirState → BarDirState) : (s.updBar d f).paths = s.paths := rfl
@[simp] theorem updBar_bar (s : State) (d : BarDir) (f : BarDirState → BarDirState) : (s.updBar d f).bar = vupd s.bar d.ix f := rfl
@[simp] theorem updBar_margins (s : State) (d : BarDir) (f : BarDirState → BarDirState) : (s.updBar d f).margins = s.margins := rfl
@[simp] theorem updBar_links (s : State) (d : BarDir) (f : BarDirState → BarDirState) : (s.updBar d f).links = s.links := rfl
@[simp] theorem updBar_cue (s : State) (d : BarDir) (f : BarDirState → BarDirState) : (s.updBar d f).cue = s.cue := rfl
@[simp] theorem updBar_time (s : State) (d : BarDir) (f : BarDirState → BarDirState) : (s.updBar d f).time = s.time := rfl
@[simp] theorem updBar_pulses (s : State) (d : BarDir) (f : BarDirState → BarDirState) : (s.updBar d f).pulses = s.pulses := rfl
@[simp] theorem updBar_edges (s : State) (d : BarDir) (f : BarDirState → BarDirState) : (s.updBar d f).edges = s.edges := rfl
@[simp] theorem updBar_sw (s : State) (d : BarDir) (f : BarDirState → BarDirState) : (s.updBar d f).sw = s.sw := rfl
@[simp] theorem updBar_streams (s : State) (d : BarDir) (f : BarDirState → BarDirState) : (s.updBar d f).streams = s.streams := rfl
@[simp] theorem updBar_fab (s : State) (d : BarDir) (f : BarDirState → BarDirState) : (s.updBar d f).fab = s.fab := rfl
@[simp] theorem updBar_brg (s : State) (d : BarDir) (f : BarDirState → BarDirState) : (s.updBar d f).brg = s.brg := rfl
@[simp] theorem updBar_clusters (s : State) (d : BarDir) (f : BarDirState → BarDirState) : (s.updBar d f).clusters = s.clusters := rfl
@[simp] theorem updBar_pins (s : State) (d : BarDir) (f : BarDirState → BarDirState) : (s.updBar d f).pins = s.pins := rfl
@[simp] theorem updBar_cans (s : State) (d : BarDir) (f : BarDirState → BarDirState) : (s.updBar d f).cans = s.cans := rfl
@[simp] theorem updBar_snap (s : State) (d : BarDir) (f : BarDirState → BarDirState) : (s.updBar d f).snap = s.snap := rfl
@[simp] theorem updBar_store (s : State) (d : BarDir) (f : BarDirState → BarDirState) : (s.updBar d f).store = s.store := rfl
@[simp] theorem updBar_lead (s : State) (d : BarDir) (f : BarDirState → BarDirState) : (s.updBar d f).lead = s.lead := rfl
@[simp] theorem updBar_flts (s : State) (d : BarDir) (f : BarDirState → BarDirState) : (s.updBar d f).flts = s.flts := rfl
@[simp] theorem updBar_dark (s : State) (d : BarDir) (f : BarDirState → BarDirState) : (s.updBar d f).dark = s.dark := rfl
@[simp] theorem updBar_backlog (s : State) (d : BarDir) (f : BarDirState → BarDirState) : (s.updBar d f).backlog = s.backlog := rfl
@[simp] theorem updBar_fieldInj (s : State) (d : BarDir) (f : BarDirState → BarDirState) : (s.updBar d f).fieldInj = s.fieldInj := rfl
@[simp] theorem updBar_power (s : State) (d : BarDir) (f : BarDirState → BarDirState) : (s.updBar d f).power = s.power := rfl
@[simp] theorem updBar_host (s : State) (d : BarDir) (f : BarDirState → BarDirState) : (s.updBar d f).host = s.host := rfl
@[simp] theorem updBar_dbg (s : State) (d : BarDir) (f : BarDirState → BarDirState) : (s.updBar d f).dbg = s.dbg := rfl
@[simp] theorem updBar_cmp (s : State) (d : BarDir) (f : BarDirState → BarDirState) : (s.updBar d f).cmp = s.cmp := rfl
@[simp] theorem updBar_traces (s : State) (d : BarDir) (f : BarDirState → BarDirState) : (s.updBar d f).traces = s.traces := rfl
@[simp] theorem updBar_claimGap (s : State) (d : BarDir) (f : BarDirState → BarDirState) : (s.updBar d f).claimGap = s.claimGap := rfl
@[simp] theorem updBar_timeGap (s : State) (d : BarDir) (f : BarDirState → BarDirState) : (s.updBar d f).timeGap = s.timeGap := rfl
@[simp] theorem updBar_heard (s : State) (d : BarDir) (f : BarDirState → BarDirState) : (s.updBar d f).heard = s.heard := rfl
@[simp] theorem updBar_told (s : State) (d : BarDir) (f : BarDirState → BarDirState) : (s.updBar d f).told = s.told := rfl
@[simp] theorem updBar_fmodes (s : State) (d : BarDir) (f : BarDirState → BarDirState) : (s.updBar d f).fmodes = s.fmodes := rfl
@[simp] theorem updBar_modesTold (s : State) (d : BarDir) (f : BarDirState → BarDirState) : (s.updBar d f).modesTold = s.modesTold := rfl
@[simp] theorem updBar_fintm (s : State) (d : BarDir) (f : BarDirState → BarDirState) : (s.updBar d f).fintm = s.fintm := rfl

/-! barReady changes bar alone. -/
@[simp] theorem barReady_now (s : State) (d : BarDir) (ty : BarType) (b : BarPayload) : (s.barReady d ty b).now = s.now := rfl
@[simp] theorem barReady_freeCtr (s : State) (d : BarDir) (ty : BarType) (b : BarPayload) : (s.barReady d ty b).freeCtr = s.freeCtr := rfl
@[simp] theorem barReady_pending (s : State) (d : BarDir) (ty : BarType) (b : BarPayload) : (s.barReady d ty b).pending = s.pending := rfl
@[simp] theorem barReady_regs (s : State) (d : BarDir) (ty : BarType) (b : BarPayload) : (s.barReady d ty b).regs = s.regs := rfl
@[simp] theorem barReady_mem (s : State) (d : BarDir) (ty : BarType) (b : BarPayload) : (s.barReady d ty b).mem = s.mem := rfl
@[simp] theorem barReady_marks (s : State) (d : BarDir) (ty : BarType) (b : BarPayload) : (s.barReady d ty b).marks = s.marks := rfl
@[simp] theorem barReady_start (s : State) (d : BarDir) (ty : BarType) (b : BarPayload) : (s.barReady d ty b).start = s.start := rfl
@[simp] theorem barReady_paths (s : State) (d : BarDir) (ty : BarType) (b : BarPayload) : (s.barReady d ty b).paths = s.paths := rfl
@[simp] theorem barReady_margins (s : State) (d : BarDir) (ty : BarType) (b : BarPayload) : (s.barReady d ty b).margins = s.margins := rfl
@[simp] theorem barReady_links (s : State) (d : BarDir) (ty : BarType) (b : BarPayload) : (s.barReady d ty b).links = s.links := rfl
@[simp] theorem barReady_cue (s : State) (d : BarDir) (ty : BarType) (b : BarPayload) : (s.barReady d ty b).cue = s.cue := rfl
@[simp] theorem barReady_time (s : State) (d : BarDir) (ty : BarType) (b : BarPayload) : (s.barReady d ty b).time = s.time := rfl
@[simp] theorem barReady_pulses (s : State) (d : BarDir) (ty : BarType) (b : BarPayload) : (s.barReady d ty b).pulses = s.pulses := rfl
@[simp] theorem barReady_edges (s : State) (d : BarDir) (ty : BarType) (b : BarPayload) : (s.barReady d ty b).edges = s.edges := rfl
@[simp] theorem barReady_sw (s : State) (d : BarDir) (ty : BarType) (b : BarPayload) : (s.barReady d ty b).sw = s.sw := rfl
@[simp] theorem barReady_streams (s : State) (d : BarDir) (ty : BarType) (b : BarPayload) : (s.barReady d ty b).streams = s.streams := rfl
@[simp] theorem barReady_fab (s : State) (d : BarDir) (ty : BarType) (b : BarPayload) : (s.barReady d ty b).fab = s.fab := rfl
@[simp] theorem barReady_brg (s : State) (d : BarDir) (ty : BarType) (b : BarPayload) : (s.barReady d ty b).brg = s.brg := rfl
@[simp] theorem barReady_clusters (s : State) (d : BarDir) (ty : BarType) (b : BarPayload) : (s.barReady d ty b).clusters = s.clusters := rfl
@[simp] theorem barReady_pins (s : State) (d : BarDir) (ty : BarType) (b : BarPayload) : (s.barReady d ty b).pins = s.pins := rfl
@[simp] theorem barReady_cans (s : State) (d : BarDir) (ty : BarType) (b : BarPayload) : (s.barReady d ty b).cans = s.cans := rfl
@[simp] theorem barReady_snap (s : State) (d : BarDir) (ty : BarType) (b : BarPayload) : (s.barReady d ty b).snap = s.snap := rfl
@[simp] theorem barReady_store (s : State) (d : BarDir) (ty : BarType) (b : BarPayload) : (s.barReady d ty b).store = s.store := rfl
@[simp] theorem barReady_lead (s : State) (d : BarDir) (ty : BarType) (b : BarPayload) : (s.barReady d ty b).lead = s.lead := rfl
@[simp] theorem barReady_flts (s : State) (d : BarDir) (ty : BarType) (b : BarPayload) : (s.barReady d ty b).flts = s.flts := rfl
@[simp] theorem barReady_dark (s : State) (d : BarDir) (ty : BarType) (b : BarPayload) : (s.barReady d ty b).dark = s.dark := rfl
@[simp] theorem barReady_backlog (s : State) (d : BarDir) (ty : BarType) (b : BarPayload) : (s.barReady d ty b).backlog = s.backlog := rfl
@[simp] theorem barReady_fieldInj (s : State) (d : BarDir) (ty : BarType) (b : BarPayload) : (s.barReady d ty b).fieldInj = s.fieldInj := rfl
@[simp] theorem barReady_power (s : State) (d : BarDir) (ty : BarType) (b : BarPayload) : (s.barReady d ty b).power = s.power := rfl
@[simp] theorem barReady_host (s : State) (d : BarDir) (ty : BarType) (b : BarPayload) : (s.barReady d ty b).host = s.host := rfl
@[simp] theorem barReady_dbg (s : State) (d : BarDir) (ty : BarType) (b : BarPayload) : (s.barReady d ty b).dbg = s.dbg := rfl
@[simp] theorem barReady_cmp (s : State) (d : BarDir) (ty : BarType) (b : BarPayload) : (s.barReady d ty b).cmp = s.cmp := rfl
@[simp] theorem barReady_traces (s : State) (d : BarDir) (ty : BarType) (b : BarPayload) : (s.barReady d ty b).traces = s.traces := rfl
@[simp] theorem barReady_claimGap (s : State) (d : BarDir) (ty : BarType) (b : BarPayload) : (s.barReady d ty b).claimGap = s.claimGap := rfl
@[simp] theorem barReady_timeGap (s : State) (d : BarDir) (ty : BarType) (b : BarPayload) : (s.barReady d ty b).timeGap = s.timeGap := rfl
@[simp] theorem barReady_heard (s : State) (d : BarDir) (ty : BarType) (b : BarPayload) : (s.barReady d ty b).heard = s.heard := rfl
@[simp] theorem barReady_told (s : State) (d : BarDir) (ty : BarType) (b : BarPayload) : (s.barReady d ty b).told = s.told := rfl
@[simp] theorem barReady_fmodes (s : State) (d : BarDir) (ty : BarType) (b : BarPayload) : (s.barReady d ty b).fmodes = s.fmodes := rfl
@[simp] theorem barReady_modesTold (s : State) (d : BarDir) (ty : BarType) (b : BarPayload) : (s.barReady d ty b).modesTold = s.modesTold := rfl
@[simp] theorem barReady_fintm (s : State) (d : BarDir) (ty : BarType) (b : BarPayload) : (s.barReady d ty b).fintm = s.fintm := rfl

/-! updLink changes links alone. -/
@[simp] theorem updLink_now (s : State) (p : Port) (f : LinkPort → LinkPort) : (s.updLink p f).now = s.now := rfl
@[simp] theorem updLink_freeCtr (s : State) (p : Port) (f : LinkPort → LinkPort) : (s.updLink p f).freeCtr = s.freeCtr := rfl
@[simp] theorem updLink_pending (s : State) (p : Port) (f : LinkPort → LinkPort) : (s.updLink p f).pending = s.pending := rfl
@[simp] theorem updLink_regs (s : State) (p : Port) (f : LinkPort → LinkPort) : (s.updLink p f).regs = s.regs := rfl
@[simp] theorem updLink_mem (s : State) (p : Port) (f : LinkPort → LinkPort) : (s.updLink p f).mem = s.mem := rfl
@[simp] theorem updLink_marks (s : State) (p : Port) (f : LinkPort → LinkPort) : (s.updLink p f).marks = s.marks := rfl
@[simp] theorem updLink_start (s : State) (p : Port) (f : LinkPort → LinkPort) : (s.updLink p f).start = s.start := rfl
@[simp] theorem updLink_paths (s : State) (p : Port) (f : LinkPort → LinkPort) : (s.updLink p f).paths = s.paths := rfl
@[simp] theorem updLink_bar (s : State) (p : Port) (f : LinkPort → LinkPort) : (s.updLink p f).bar = s.bar := rfl
@[simp] theorem updLink_margins (s : State) (p : Port) (f : LinkPort → LinkPort) : (s.updLink p f).margins = s.margins := rfl
@[simp] theorem updLink_links (s : State) (p : Port) (f : LinkPort → LinkPort) : (s.updLink p f).links = vupd s.links p.ix f := rfl
@[simp] theorem updLink_cue (s : State) (p : Port) (f : LinkPort → LinkPort) : (s.updLink p f).cue = s.cue := rfl
@[simp] theorem updLink_time (s : State) (p : Port) (f : LinkPort → LinkPort) : (s.updLink p f).time = s.time := rfl
@[simp] theorem updLink_pulses (s : State) (p : Port) (f : LinkPort → LinkPort) : (s.updLink p f).pulses = s.pulses := rfl
@[simp] theorem updLink_edges (s : State) (p : Port) (f : LinkPort → LinkPort) : (s.updLink p f).edges = s.edges := rfl
@[simp] theorem updLink_sw (s : State) (p : Port) (f : LinkPort → LinkPort) : (s.updLink p f).sw = s.sw := rfl
@[simp] theorem updLink_streams (s : State) (p : Port) (f : LinkPort → LinkPort) : (s.updLink p f).streams = s.streams := rfl
@[simp] theorem updLink_fab (s : State) (p : Port) (f : LinkPort → LinkPort) : (s.updLink p f).fab = s.fab := rfl
@[simp] theorem updLink_brg (s : State) (p : Port) (f : LinkPort → LinkPort) : (s.updLink p f).brg = s.brg := rfl
@[simp] theorem updLink_clusters (s : State) (p : Port) (f : LinkPort → LinkPort) : (s.updLink p f).clusters = s.clusters := rfl
@[simp] theorem updLink_pins (s : State) (p : Port) (f : LinkPort → LinkPort) : (s.updLink p f).pins = s.pins := rfl
@[simp] theorem updLink_cans (s : State) (p : Port) (f : LinkPort → LinkPort) : (s.updLink p f).cans = s.cans := rfl
@[simp] theorem updLink_snap (s : State) (p : Port) (f : LinkPort → LinkPort) : (s.updLink p f).snap = s.snap := rfl
@[simp] theorem updLink_store (s : State) (p : Port) (f : LinkPort → LinkPort) : (s.updLink p f).store = s.store := rfl
@[simp] theorem updLink_lead (s : State) (p : Port) (f : LinkPort → LinkPort) : (s.updLink p f).lead = s.lead := rfl
@[simp] theorem updLink_flts (s : State) (p : Port) (f : LinkPort → LinkPort) : (s.updLink p f).flts = s.flts := rfl
@[simp] theorem updLink_dark (s : State) (p : Port) (f : LinkPort → LinkPort) : (s.updLink p f).dark = s.dark := rfl
@[simp] theorem updLink_backlog (s : State) (p : Port) (f : LinkPort → LinkPort) : (s.updLink p f).backlog = s.backlog := rfl
@[simp] theorem updLink_fieldInj (s : State) (p : Port) (f : LinkPort → LinkPort) : (s.updLink p f).fieldInj = s.fieldInj := rfl
@[simp] theorem updLink_power (s : State) (p : Port) (f : LinkPort → LinkPort) : (s.updLink p f).power = s.power := rfl
@[simp] theorem updLink_host (s : State) (p : Port) (f : LinkPort → LinkPort) : (s.updLink p f).host = s.host := rfl
@[simp] theorem updLink_dbg (s : State) (p : Port) (f : LinkPort → LinkPort) : (s.updLink p f).dbg = s.dbg := rfl
@[simp] theorem updLink_cmp (s : State) (p : Port) (f : LinkPort → LinkPort) : (s.updLink p f).cmp = s.cmp := rfl
@[simp] theorem updLink_traces (s : State) (p : Port) (f : LinkPort → LinkPort) : (s.updLink p f).traces = s.traces := rfl
@[simp] theorem updLink_claimGap (s : State) (p : Port) (f : LinkPort → LinkPort) : (s.updLink p f).claimGap = s.claimGap := rfl
@[simp] theorem updLink_timeGap (s : State) (p : Port) (f : LinkPort → LinkPort) : (s.updLink p f).timeGap = s.timeGap := rfl
@[simp] theorem updLink_heard (s : State) (p : Port) (f : LinkPort → LinkPort) : (s.updLink p f).heard = s.heard := rfl
@[simp] theorem updLink_told (s : State) (p : Port) (f : LinkPort → LinkPort) : (s.updLink p f).told = s.told := rfl
@[simp] theorem updLink_fmodes (s : State) (p : Port) (f : LinkPort → LinkPort) : (s.updLink p f).fmodes = s.fmodes := rfl
@[simp] theorem updLink_modesTold (s : State) (p : Port) (f : LinkPort → LinkPort) : (s.updLink p f).modesTold = s.modesTold := rfl
@[simp] theorem updLink_fintm (s : State) (p : Port) (f : LinkPort → LinkPort) : (s.updLink p f).fintm = s.fintm := rfl

/-! updStream changes streams alone. -/
@[simp] theorem updStream_now (s : State) (r : Ring) (f : EventStream → EventStream) : (s.updStream r f).now = s.now := rfl
@[simp] theorem updStream_freeCtr (s : State) (r : Ring) (f : EventStream → EventStream) : (s.updStream r f).freeCtr = s.freeCtr := rfl
@[simp] theorem updStream_pending (s : State) (r : Ring) (f : EventStream → EventStream) : (s.updStream r f).pending = s.pending := rfl
@[simp] theorem updStream_regs (s : State) (r : Ring) (f : EventStream → EventStream) : (s.updStream r f).regs = s.regs := rfl
@[simp] theorem updStream_mem (s : State) (r : Ring) (f : EventStream → EventStream) : (s.updStream r f).mem = s.mem := rfl
@[simp] theorem updStream_marks (s : State) (r : Ring) (f : EventStream → EventStream) : (s.updStream r f).marks = s.marks := rfl
@[simp] theorem updStream_start (s : State) (r : Ring) (f : EventStream → EventStream) : (s.updStream r f).start = s.start := rfl
@[simp] theorem updStream_paths (s : State) (r : Ring) (f : EventStream → EventStream) : (s.updStream r f).paths = s.paths := rfl
@[simp] theorem updStream_bar (s : State) (r : Ring) (f : EventStream → EventStream) : (s.updStream r f).bar = s.bar := rfl
@[simp] theorem updStream_margins (s : State) (r : Ring) (f : EventStream → EventStream) : (s.updStream r f).margins = s.margins := rfl
@[simp] theorem updStream_links (s : State) (r : Ring) (f : EventStream → EventStream) : (s.updStream r f).links = s.links := rfl
@[simp] theorem updStream_cue (s : State) (r : Ring) (f : EventStream → EventStream) : (s.updStream r f).cue = s.cue := rfl
@[simp] theorem updStream_time (s : State) (r : Ring) (f : EventStream → EventStream) : (s.updStream r f).time = s.time := rfl
@[simp] theorem updStream_pulses (s : State) (r : Ring) (f : EventStream → EventStream) : (s.updStream r f).pulses = s.pulses := rfl
@[simp] theorem updStream_edges (s : State) (r : Ring) (f : EventStream → EventStream) : (s.updStream r f).edges = s.edges := rfl
@[simp] theorem updStream_sw (s : State) (r : Ring) (f : EventStream → EventStream) : (s.updStream r f).sw = s.sw := rfl
@[simp] theorem updStream_streams (s : State) (r : Ring) (f : EventStream → EventStream) : (s.updStream r f).streams = vupd s.streams r.ix f := rfl
@[simp] theorem updStream_fab (s : State) (r : Ring) (f : EventStream → EventStream) : (s.updStream r f).fab = s.fab := rfl
@[simp] theorem updStream_brg (s : State) (r : Ring) (f : EventStream → EventStream) : (s.updStream r f).brg = s.brg := rfl
@[simp] theorem updStream_clusters (s : State) (r : Ring) (f : EventStream → EventStream) : (s.updStream r f).clusters = s.clusters := rfl
@[simp] theorem updStream_pins (s : State) (r : Ring) (f : EventStream → EventStream) : (s.updStream r f).pins = s.pins := rfl
@[simp] theorem updStream_cans (s : State) (r : Ring) (f : EventStream → EventStream) : (s.updStream r f).cans = s.cans := rfl
@[simp] theorem updStream_snap (s : State) (r : Ring) (f : EventStream → EventStream) : (s.updStream r f).snap = s.snap := rfl
@[simp] theorem updStream_store (s : State) (r : Ring) (f : EventStream → EventStream) : (s.updStream r f).store = s.store := rfl
@[simp] theorem updStream_lead (s : State) (r : Ring) (f : EventStream → EventStream) : (s.updStream r f).lead = s.lead := rfl
@[simp] theorem updStream_flts (s : State) (r : Ring) (f : EventStream → EventStream) : (s.updStream r f).flts = s.flts := rfl
@[simp] theorem updStream_dark (s : State) (r : Ring) (f : EventStream → EventStream) : (s.updStream r f).dark = s.dark := rfl
@[simp] theorem updStream_backlog (s : State) (r : Ring) (f : EventStream → EventStream) : (s.updStream r f).backlog = s.backlog := rfl
@[simp] theorem updStream_fieldInj (s : State) (r : Ring) (f : EventStream → EventStream) : (s.updStream r f).fieldInj = s.fieldInj := rfl
@[simp] theorem updStream_power (s : State) (r : Ring) (f : EventStream → EventStream) : (s.updStream r f).power = s.power := rfl
@[simp] theorem updStream_host (s : State) (r : Ring) (f : EventStream → EventStream) : (s.updStream r f).host = s.host := rfl
@[simp] theorem updStream_dbg (s : State) (r : Ring) (f : EventStream → EventStream) : (s.updStream r f).dbg = s.dbg := rfl
@[simp] theorem updStream_cmp (s : State) (r : Ring) (f : EventStream → EventStream) : (s.updStream r f).cmp = s.cmp := rfl
@[simp] theorem updStream_traces (s : State) (r : Ring) (f : EventStream → EventStream) : (s.updStream r f).traces = s.traces := rfl
@[simp] theorem updStream_claimGap (s : State) (r : Ring) (f : EventStream → EventStream) : (s.updStream r f).claimGap = s.claimGap := rfl
@[simp] theorem updStream_timeGap (s : State) (r : Ring) (f : EventStream → EventStream) : (s.updStream r f).timeGap = s.timeGap := rfl
@[simp] theorem updStream_heard (s : State) (r : Ring) (f : EventStream → EventStream) : (s.updStream r f).heard = s.heard := rfl
@[simp] theorem updStream_told (s : State) (r : Ring) (f : EventStream → EventStream) : (s.updStream r f).told = s.told := rfl
@[simp] theorem updStream_fmodes (s : State) (r : Ring) (f : EventStream → EventStream) : (s.updStream r f).fmodes = s.fmodes := rfl
@[simp] theorem updStream_modesTold (s : State) (r : Ring) (f : EventStream → EventStream) : (s.updStream r f).modesTold = s.modesTold := rfl
@[simp] theorem updStream_fintm (s : State) (r : Ring) (f : EventStream → EventStream) : (s.updStream r f).fintm = s.fintm := rfl

/-! updCan changes cans alone. -/
@[simp] theorem updCan_now (s : State) (c : Fin 4) (f : CanCtl → CanCtl) : (s.updCan c f).now = s.now := rfl
@[simp] theorem updCan_freeCtr (s : State) (c : Fin 4) (f : CanCtl → CanCtl) : (s.updCan c f).freeCtr = s.freeCtr := rfl
@[simp] theorem updCan_pending (s : State) (c : Fin 4) (f : CanCtl → CanCtl) : (s.updCan c f).pending = s.pending := rfl
@[simp] theorem updCan_regs (s : State) (c : Fin 4) (f : CanCtl → CanCtl) : (s.updCan c f).regs = s.regs := rfl
@[simp] theorem updCan_mem (s : State) (c : Fin 4) (f : CanCtl → CanCtl) : (s.updCan c f).mem = s.mem := rfl
@[simp] theorem updCan_marks (s : State) (c : Fin 4) (f : CanCtl → CanCtl) : (s.updCan c f).marks = s.marks := rfl
@[simp] theorem updCan_start (s : State) (c : Fin 4) (f : CanCtl → CanCtl) : (s.updCan c f).start = s.start := rfl
@[simp] theorem updCan_paths (s : State) (c : Fin 4) (f : CanCtl → CanCtl) : (s.updCan c f).paths = s.paths := rfl
@[simp] theorem updCan_bar (s : State) (c : Fin 4) (f : CanCtl → CanCtl) : (s.updCan c f).bar = s.bar := rfl
@[simp] theorem updCan_margins (s : State) (c : Fin 4) (f : CanCtl → CanCtl) : (s.updCan c f).margins = s.margins := rfl
@[simp] theorem updCan_links (s : State) (c : Fin 4) (f : CanCtl → CanCtl) : (s.updCan c f).links = s.links := rfl
@[simp] theorem updCan_cue (s : State) (c : Fin 4) (f : CanCtl → CanCtl) : (s.updCan c f).cue = s.cue := rfl
@[simp] theorem updCan_time (s : State) (c : Fin 4) (f : CanCtl → CanCtl) : (s.updCan c f).time = s.time := rfl
@[simp] theorem updCan_pulses (s : State) (c : Fin 4) (f : CanCtl → CanCtl) : (s.updCan c f).pulses = s.pulses := rfl
@[simp] theorem updCan_edges (s : State) (c : Fin 4) (f : CanCtl → CanCtl) : (s.updCan c f).edges = s.edges := rfl
@[simp] theorem updCan_sw (s : State) (c : Fin 4) (f : CanCtl → CanCtl) : (s.updCan c f).sw = s.sw := rfl
@[simp] theorem updCan_streams (s : State) (c : Fin 4) (f : CanCtl → CanCtl) : (s.updCan c f).streams = s.streams := rfl
@[simp] theorem updCan_fab (s : State) (c : Fin 4) (f : CanCtl → CanCtl) : (s.updCan c f).fab = s.fab := rfl
@[simp] theorem updCan_brg (s : State) (c : Fin 4) (f : CanCtl → CanCtl) : (s.updCan c f).brg = s.brg := rfl
@[simp] theorem updCan_clusters (s : State) (c : Fin 4) (f : CanCtl → CanCtl) : (s.updCan c f).clusters = s.clusters := rfl
@[simp] theorem updCan_pins (s : State) (c : Fin 4) (f : CanCtl → CanCtl) : (s.updCan c f).pins = s.pins := rfl
@[simp] theorem updCan_cans (s : State) (c : Fin 4) (f : CanCtl → CanCtl) : (s.updCan c f).cans = vupd s.cans c f := rfl
@[simp] theorem updCan_snap (s : State) (c : Fin 4) (f : CanCtl → CanCtl) : (s.updCan c f).snap = s.snap := rfl
@[simp] theorem updCan_store (s : State) (c : Fin 4) (f : CanCtl → CanCtl) : (s.updCan c f).store = s.store := rfl
@[simp] theorem updCan_lead (s : State) (c : Fin 4) (f : CanCtl → CanCtl) : (s.updCan c f).lead = s.lead := rfl
@[simp] theorem updCan_flts (s : State) (c : Fin 4) (f : CanCtl → CanCtl) : (s.updCan c f).flts = s.flts := rfl
@[simp] theorem updCan_dark (s : State) (c : Fin 4) (f : CanCtl → CanCtl) : (s.updCan c f).dark = s.dark := rfl
@[simp] theorem updCan_backlog (s : State) (c : Fin 4) (f : CanCtl → CanCtl) : (s.updCan c f).backlog = s.backlog := rfl
@[simp] theorem updCan_fieldInj (s : State) (c : Fin 4) (f : CanCtl → CanCtl) : (s.updCan c f).fieldInj = s.fieldInj := rfl
@[simp] theorem updCan_power (s : State) (c : Fin 4) (f : CanCtl → CanCtl) : (s.updCan c f).power = s.power := rfl
@[simp] theorem updCan_host (s : State) (c : Fin 4) (f : CanCtl → CanCtl) : (s.updCan c f).host = s.host := rfl
@[simp] theorem updCan_dbg (s : State) (c : Fin 4) (f : CanCtl → CanCtl) : (s.updCan c f).dbg = s.dbg := rfl
@[simp] theorem updCan_cmp (s : State) (c : Fin 4) (f : CanCtl → CanCtl) : (s.updCan c f).cmp = s.cmp := rfl
@[simp] theorem updCan_traces (s : State) (c : Fin 4) (f : CanCtl → CanCtl) : (s.updCan c f).traces = s.traces := rfl
@[simp] theorem updCan_claimGap (s : State) (c : Fin 4) (f : CanCtl → CanCtl) : (s.updCan c f).claimGap = s.claimGap := rfl
@[simp] theorem updCan_timeGap (s : State) (c : Fin 4) (f : CanCtl → CanCtl) : (s.updCan c f).timeGap = s.timeGap := rfl
@[simp] theorem updCan_heard (s : State) (c : Fin 4) (f : CanCtl → CanCtl) : (s.updCan c f).heard = s.heard := rfl
@[simp] theorem updCan_told (s : State) (c : Fin 4) (f : CanCtl → CanCtl) : (s.updCan c f).told = s.told := rfl
@[simp] theorem updCan_fmodes (s : State) (c : Fin 4) (f : CanCtl → CanCtl) : (s.updCan c f).fmodes = s.fmodes := rfl
@[simp] theorem updCan_modesTold (s : State) (c : Fin 4) (f : CanCtl → CanCtl) : (s.updCan c f).modesTold = s.modesTold := rfl
@[simp] theorem updCan_fintm (s : State) (c : Fin 4) (f : CanCtl → CanCtl) : (s.updCan c f).fintm = s.fintm := rfl

/-! updCore changes lead alone. -/
@[simp] theorem updCore_now (s : State) (c : Core) (f : CoreState → CoreState) : (s.updCore c f).now = s.now := rfl
@[simp] theorem updCore_freeCtr (s : State) (c : Core) (f : CoreState → CoreState) : (s.updCore c f).freeCtr = s.freeCtr := rfl
@[simp] theorem updCore_pending (s : State) (c : Core) (f : CoreState → CoreState) : (s.updCore c f).pending = s.pending := rfl
@[simp] theorem updCore_regs (s : State) (c : Core) (f : CoreState → CoreState) : (s.updCore c f).regs = s.regs := rfl
@[simp] theorem updCore_mem (s : State) (c : Core) (f : CoreState → CoreState) : (s.updCore c f).mem = s.mem := rfl
@[simp] theorem updCore_marks (s : State) (c : Core) (f : CoreState → CoreState) : (s.updCore c f).marks = s.marks := rfl
@[simp] theorem updCore_start (s : State) (c : Core) (f : CoreState → CoreState) : (s.updCore c f).start = s.start := rfl
@[simp] theorem updCore_paths (s : State) (c : Core) (f : CoreState → CoreState) : (s.updCore c f).paths = s.paths := rfl
@[simp] theorem updCore_bar (s : State) (c : Core) (f : CoreState → CoreState) : (s.updCore c f).bar = s.bar := rfl
@[simp] theorem updCore_margins (s : State) (c : Core) (f : CoreState → CoreState) : (s.updCore c f).margins = s.margins := rfl
@[simp] theorem updCore_links (s : State) (c : Core) (f : CoreState → CoreState) : (s.updCore c f).links = s.links := rfl
@[simp] theorem updCore_cue (s : State) (c : Core) (f : CoreState → CoreState) : (s.updCore c f).cue = s.cue := rfl
@[simp] theorem updCore_time (s : State) (c : Core) (f : CoreState → CoreState) : (s.updCore c f).time = s.time := rfl
@[simp] theorem updCore_pulses (s : State) (c : Core) (f : CoreState → CoreState) : (s.updCore c f).pulses = s.pulses := rfl
@[simp] theorem updCore_edges (s : State) (c : Core) (f : CoreState → CoreState) : (s.updCore c f).edges = s.edges := rfl
@[simp] theorem updCore_sw (s : State) (c : Core) (f : CoreState → CoreState) : (s.updCore c f).sw = s.sw := rfl
@[simp] theorem updCore_streams (s : State) (c : Core) (f : CoreState → CoreState) : (s.updCore c f).streams = s.streams := rfl
@[simp] theorem updCore_fab (s : State) (c : Core) (f : CoreState → CoreState) : (s.updCore c f).fab = s.fab := rfl
@[simp] theorem updCore_brg (s : State) (c : Core) (f : CoreState → CoreState) : (s.updCore c f).brg = s.brg := rfl
@[simp] theorem updCore_clusters (s : State) (c : Core) (f : CoreState → CoreState) : (s.updCore c f).clusters = s.clusters := rfl
@[simp] theorem updCore_pins (s : State) (c : Core) (f : CoreState → CoreState) : (s.updCore c f).pins = s.pins := rfl
@[simp] theorem updCore_cans (s : State) (c : Core) (f : CoreState → CoreState) : (s.updCore c f).cans = s.cans := rfl
@[simp] theorem updCore_snap (s : State) (c : Core) (f : CoreState → CoreState) : (s.updCore c f).snap = s.snap := rfl
@[simp] theorem updCore_store (s : State) (c : Core) (f : CoreState → CoreState) : (s.updCore c f).store = s.store := rfl
@[simp] theorem updCore_flts (s : State) (c : Core) (f : CoreState → CoreState) : (s.updCore c f).flts = s.flts := rfl
@[simp] theorem updCore_dark (s : State) (c : Core) (f : CoreState → CoreState) : (s.updCore c f).dark = s.dark := rfl
@[simp] theorem updCore_backlog (s : State) (c : Core) (f : CoreState → CoreState) : (s.updCore c f).backlog = s.backlog := rfl
@[simp] theorem updCore_fieldInj (s : State) (c : Core) (f : CoreState → CoreState) : (s.updCore c f).fieldInj = s.fieldInj := rfl
@[simp] theorem updCore_power (s : State) (c : Core) (f : CoreState → CoreState) : (s.updCore c f).power = s.power := rfl
@[simp] theorem updCore_host (s : State) (c : Core) (f : CoreState → CoreState) : (s.updCore c f).host = s.host := rfl
@[simp] theorem updCore_dbg (s : State) (c : Core) (f : CoreState → CoreState) : (s.updCore c f).dbg = s.dbg := rfl
@[simp] theorem updCore_cmp (s : State) (c : Core) (f : CoreState → CoreState) : (s.updCore c f).cmp = s.cmp := rfl
@[simp] theorem updCore_traces (s : State) (c : Core) (f : CoreState → CoreState) : (s.updCore c f).traces = s.traces := rfl
@[simp] theorem updCore_claimGap (s : State) (c : Core) (f : CoreState → CoreState) : (s.updCore c f).claimGap = s.claimGap := rfl
@[simp] theorem updCore_timeGap (s : State) (c : Core) (f : CoreState → CoreState) : (s.updCore c f).timeGap = s.timeGap := rfl
@[simp] theorem updCore_heard (s : State) (c : Core) (f : CoreState → CoreState) : (s.updCore c f).heard = s.heard := rfl
@[simp] theorem updCore_told (s : State) (c : Core) (f : CoreState → CoreState) : (s.updCore c f).told = s.told := rfl
@[simp] theorem updCore_fmodes (s : State) (c : Core) (f : CoreState → CoreState) : (s.updCore c f).fmodes = s.fmodes := rfl
@[simp] theorem updCore_modesTold (s : State) (c : Core) (f : CoreState → CoreState) : (s.updCore c f).modesTold = s.modesTold := rfl
@[simp] theorem updCore_fintm (s : State) (c : Core) (f : CoreState → CoreState) : (s.updCore c f).fintm = s.fintm := rfl

/-! updFlt changes flts alone. -/
@[simp] theorem updFlt_now (s : State) (c : Core) (f : Collector → Collector) : (s.updFlt c f).now = s.now := rfl
@[simp] theorem updFlt_freeCtr (s : State) (c : Core) (f : Collector → Collector) : (s.updFlt c f).freeCtr = s.freeCtr := rfl
@[simp] theorem updFlt_pending (s : State) (c : Core) (f : Collector → Collector) : (s.updFlt c f).pending = s.pending := rfl
@[simp] theorem updFlt_regs (s : State) (c : Core) (f : Collector → Collector) : (s.updFlt c f).regs = s.regs := rfl
@[simp] theorem updFlt_mem (s : State) (c : Core) (f : Collector → Collector) : (s.updFlt c f).mem = s.mem := rfl
@[simp] theorem updFlt_marks (s : State) (c : Core) (f : Collector → Collector) : (s.updFlt c f).marks = s.marks := rfl
@[simp] theorem updFlt_start (s : State) (c : Core) (f : Collector → Collector) : (s.updFlt c f).start = s.start := rfl
@[simp] theorem updFlt_paths (s : State) (c : Core) (f : Collector → Collector) : (s.updFlt c f).paths = s.paths := rfl
@[simp] theorem updFlt_bar (s : State) (c : Core) (f : Collector → Collector) : (s.updFlt c f).bar = s.bar := rfl
@[simp] theorem updFlt_margins (s : State) (c : Core) (f : Collector → Collector) : (s.updFlt c f).margins = s.margins := rfl
@[simp] theorem updFlt_links (s : State) (c : Core) (f : Collector → Collector) : (s.updFlt c f).links = s.links := rfl
@[simp] theorem updFlt_cue (s : State) (c : Core) (f : Collector → Collector) : (s.updFlt c f).cue = s.cue := rfl
@[simp] theorem updFlt_time (s : State) (c : Core) (f : Collector → Collector) : (s.updFlt c f).time = s.time := rfl
@[simp] theorem updFlt_pulses (s : State) (c : Core) (f : Collector → Collector) : (s.updFlt c f).pulses = s.pulses := rfl
@[simp] theorem updFlt_edges (s : State) (c : Core) (f : Collector → Collector) : (s.updFlt c f).edges = s.edges := rfl
@[simp] theorem updFlt_sw (s : State) (c : Core) (f : Collector → Collector) : (s.updFlt c f).sw = s.sw := rfl
@[simp] theorem updFlt_streams (s : State) (c : Core) (f : Collector → Collector) : (s.updFlt c f).streams = s.streams := rfl
@[simp] theorem updFlt_fab (s : State) (c : Core) (f : Collector → Collector) : (s.updFlt c f).fab = s.fab := rfl
@[simp] theorem updFlt_brg (s : State) (c : Core) (f : Collector → Collector) : (s.updFlt c f).brg = s.brg := rfl
@[simp] theorem updFlt_clusters (s : State) (c : Core) (f : Collector → Collector) : (s.updFlt c f).clusters = s.clusters := rfl
@[simp] theorem updFlt_pins (s : State) (c : Core) (f : Collector → Collector) : (s.updFlt c f).pins = s.pins := rfl
@[simp] theorem updFlt_cans (s : State) (c : Core) (f : Collector → Collector) : (s.updFlt c f).cans = s.cans := rfl
@[simp] theorem updFlt_snap (s : State) (c : Core) (f : Collector → Collector) : (s.updFlt c f).snap = s.snap := rfl
@[simp] theorem updFlt_store (s : State) (c : Core) (f : Collector → Collector) : (s.updFlt c f).store = s.store := rfl
@[simp] theorem updFlt_lead (s : State) (c : Core) (f : Collector → Collector) : (s.updFlt c f).lead = s.lead := rfl
@[simp] theorem updFlt_flts (s : State) (c : Core) (f : Collector → Collector) : (s.updFlt c f).flts = vupd s.flts c.ix f := rfl
@[simp] theorem updFlt_dark (s : State) (c : Core) (f : Collector → Collector) : (s.updFlt c f).dark = s.dark := rfl
@[simp] theorem updFlt_backlog (s : State) (c : Core) (f : Collector → Collector) : (s.updFlt c f).backlog = s.backlog := rfl
@[simp] theorem updFlt_fieldInj (s : State) (c : Core) (f : Collector → Collector) : (s.updFlt c f).fieldInj = s.fieldInj := rfl
@[simp] theorem updFlt_power (s : State) (c : Core) (f : Collector → Collector) : (s.updFlt c f).power = s.power := rfl
@[simp] theorem updFlt_host (s : State) (c : Core) (f : Collector → Collector) : (s.updFlt c f).host = s.host := rfl
@[simp] theorem updFlt_dbg (s : State) (c : Core) (f : Collector → Collector) : (s.updFlt c f).dbg = s.dbg := rfl
@[simp] theorem updFlt_cmp (s : State) (c : Core) (f : Collector → Collector) : (s.updFlt c f).cmp = s.cmp := rfl
@[simp] theorem updFlt_traces (s : State) (c : Core) (f : Collector → Collector) : (s.updFlt c f).traces = s.traces := rfl
@[simp] theorem updFlt_claimGap (s : State) (c : Core) (f : Collector → Collector) : (s.updFlt c f).claimGap = s.claimGap := rfl
@[simp] theorem updFlt_timeGap (s : State) (c : Core) (f : Collector → Collector) : (s.updFlt c f).timeGap = s.timeGap := rfl
@[simp] theorem updFlt_heard (s : State) (c : Core) (f : Collector → Collector) : (s.updFlt c f).heard = s.heard := rfl
@[simp] theorem updFlt_told (s : State) (c : Core) (f : Collector → Collector) : (s.updFlt c f).told = s.told := rfl
@[simp] theorem updFlt_fmodes (s : State) (c : Core) (f : Collector → Collector) : (s.updFlt c f).fmodes = s.fmodes := rfl
@[simp] theorem updFlt_modesTold (s : State) (c : Core) (f : Collector → Collector) : (s.updFlt c f).modesTold = s.modesTold := rfl
@[simp] theorem updFlt_fintm (s : State) (c : Core) (f : Collector → Collector) : (s.updFlt c f).fintm = s.fintm := rfl

/-! raiseCore changes flts alone. -/
@[simp] theorem raiseCore_now (s : State) (c : Core) (a d : Nat) : (s.raiseCore c a d).now = s.now := rfl
@[simp] theorem raiseCore_freeCtr (s : State) (c : Core) (a d : Nat) : (s.raiseCore c a d).freeCtr = s.freeCtr := rfl
@[simp] theorem raiseCore_pending (s : State) (c : Core) (a d : Nat) : (s.raiseCore c a d).pending = s.pending := rfl
@[simp] theorem raiseCore_regs (s : State) (c : Core) (a d : Nat) : (s.raiseCore c a d).regs = s.regs := rfl
@[simp] theorem raiseCore_mem (s : State) (c : Core) (a d : Nat) : (s.raiseCore c a d).mem = s.mem := rfl
@[simp] theorem raiseCore_marks (s : State) (c : Core) (a d : Nat) : (s.raiseCore c a d).marks = s.marks := rfl
@[simp] theorem raiseCore_start (s : State) (c : Core) (a d : Nat) : (s.raiseCore c a d).start = s.start := rfl
@[simp] theorem raiseCore_paths (s : State) (c : Core) (a d : Nat) : (s.raiseCore c a d).paths = s.paths := rfl
@[simp] theorem raiseCore_bar (s : State) (c : Core) (a d : Nat) : (s.raiseCore c a d).bar = s.bar := rfl
@[simp] theorem raiseCore_margins (s : State) (c : Core) (a d : Nat) : (s.raiseCore c a d).margins = s.margins := rfl
@[simp] theorem raiseCore_links (s : State) (c : Core) (a d : Nat) : (s.raiseCore c a d).links = s.links := rfl
@[simp] theorem raiseCore_cue (s : State) (c : Core) (a d : Nat) : (s.raiseCore c a d).cue = s.cue := rfl
@[simp] theorem raiseCore_time (s : State) (c : Core) (a d : Nat) : (s.raiseCore c a d).time = s.time := rfl
@[simp] theorem raiseCore_pulses (s : State) (c : Core) (a d : Nat) : (s.raiseCore c a d).pulses = s.pulses := rfl
@[simp] theorem raiseCore_edges (s : State) (c : Core) (a d : Nat) : (s.raiseCore c a d).edges = s.edges := rfl
@[simp] theorem raiseCore_sw (s : State) (c : Core) (a d : Nat) : (s.raiseCore c a d).sw = s.sw := rfl
@[simp] theorem raiseCore_streams (s : State) (c : Core) (a d : Nat) : (s.raiseCore c a d).streams = s.streams := rfl
@[simp] theorem raiseCore_fab (s : State) (c : Core) (a d : Nat) : (s.raiseCore c a d).fab = s.fab := rfl
@[simp] theorem raiseCore_brg (s : State) (c : Core) (a d : Nat) : (s.raiseCore c a d).brg = s.brg := rfl
@[simp] theorem raiseCore_clusters (s : State) (c : Core) (a d : Nat) : (s.raiseCore c a d).clusters = s.clusters := rfl
@[simp] theorem raiseCore_pins (s : State) (c : Core) (a d : Nat) : (s.raiseCore c a d).pins = s.pins := rfl
@[simp] theorem raiseCore_cans (s : State) (c : Core) (a d : Nat) : (s.raiseCore c a d).cans = s.cans := rfl
@[simp] theorem raiseCore_snap (s : State) (c : Core) (a d : Nat) : (s.raiseCore c a d).snap = s.snap := rfl
@[simp] theorem raiseCore_store (s : State) (c : Core) (a d : Nat) : (s.raiseCore c a d).store = s.store := rfl
@[simp] theorem raiseCore_lead (s : State) (c : Core) (a d : Nat) : (s.raiseCore c a d).lead = s.lead := rfl
@[simp] theorem raiseCore_dark (s : State) (c : Core) (a d : Nat) : (s.raiseCore c a d).dark = s.dark := rfl
@[simp] theorem raiseCore_backlog (s : State) (c : Core) (a d : Nat) : (s.raiseCore c a d).backlog = s.backlog := rfl
@[simp] theorem raiseCore_fieldInj (s : State) (c : Core) (a d : Nat) : (s.raiseCore c a d).fieldInj = s.fieldInj := rfl
@[simp] theorem raiseCore_power (s : State) (c : Core) (a d : Nat) : (s.raiseCore c a d).power = s.power := rfl
@[simp] theorem raiseCore_host (s : State) (c : Core) (a d : Nat) : (s.raiseCore c a d).host = s.host := rfl
@[simp] theorem raiseCore_dbg (s : State) (c : Core) (a d : Nat) : (s.raiseCore c a d).dbg = s.dbg := rfl
@[simp] theorem raiseCore_cmp (s : State) (c : Core) (a d : Nat) : (s.raiseCore c a d).cmp = s.cmp := rfl
@[simp] theorem raiseCore_traces (s : State) (c : Core) (a d : Nat) : (s.raiseCore c a d).traces = s.traces := rfl
@[simp] theorem raiseCore_claimGap (s : State) (c : Core) (a d : Nat) : (s.raiseCore c a d).claimGap = s.claimGap := rfl
@[simp] theorem raiseCore_timeGap (s : State) (c : Core) (a d : Nat) : (s.raiseCore c a d).timeGap = s.timeGap := rfl
@[simp] theorem raiseCore_heard (s : State) (c : Core) (a d : Nat) : (s.raiseCore c a d).heard = s.heard := rfl
@[simp] theorem raiseCore_told (s : State) (c : Core) (a d : Nat) : (s.raiseCore c a d).told = s.told := rfl
@[simp] theorem raiseCore_fmodes (s : State) (c : Core) (a d : Nat) : (s.raiseCore c a d).fmodes = s.fmodes := rfl
@[simp] theorem raiseCore_modesTold (s : State) (c : Core) (a d : Nat) : (s.raiseCore c a d).modesTold = s.modesTold := rfl
@[simp] theorem raiseCore_fintm (s : State) (c : Core) (a d : Nat) : (s.raiseCore c a d).fintm = s.fintm := rfl

/-! updCue changes cue alone. -/
@[simp] theorem updCue_now (s : State) (f : CueState → CueState) : (s.updCue f).now = s.now := rfl
@[simp] theorem updCue_freeCtr (s : State) (f : CueState → CueState) : (s.updCue f).freeCtr = s.freeCtr := rfl
@[simp] theorem updCue_pending (s : State) (f : CueState → CueState) : (s.updCue f).pending = s.pending := rfl
@[simp] theorem updCue_regs (s : State) (f : CueState → CueState) : (s.updCue f).regs = s.regs := rfl
@[simp] theorem updCue_mem (s : State) (f : CueState → CueState) : (s.updCue f).mem = s.mem := rfl
@[simp] theorem updCue_marks (s : State) (f : CueState → CueState) : (s.updCue f).marks = s.marks := rfl
@[simp] theorem updCue_start (s : State) (f : CueState → CueState) : (s.updCue f).start = s.start := rfl
@[simp] theorem updCue_paths (s : State) (f : CueState → CueState) : (s.updCue f).paths = s.paths := rfl
@[simp] theorem updCue_bar (s : State) (f : CueState → CueState) : (s.updCue f).bar = s.bar := rfl
@[simp] theorem updCue_margins (s : State) (f : CueState → CueState) : (s.updCue f).margins = s.margins := rfl
@[simp] theorem updCue_links (s : State) (f : CueState → CueState) : (s.updCue f).links = s.links := rfl
@[simp] theorem updCue_cue (s : State) (f : CueState → CueState) : (s.updCue f).cue = f s.cue := rfl
@[simp] theorem updCue_time (s : State) (f : CueState → CueState) : (s.updCue f).time = s.time := rfl
@[simp] theorem updCue_pulses (s : State) (f : CueState → CueState) : (s.updCue f).pulses = s.pulses := rfl
@[simp] theorem updCue_edges (s : State) (f : CueState → CueState) : (s.updCue f).edges = s.edges := rfl
@[simp] theorem updCue_sw (s : State) (f : CueState → CueState) : (s.updCue f).sw = s.sw := rfl
@[simp] theorem updCue_streams (s : State) (f : CueState → CueState) : (s.updCue f).streams = s.streams := rfl
@[simp] theorem updCue_fab (s : State) (f : CueState → CueState) : (s.updCue f).fab = s.fab := rfl
@[simp] theorem updCue_brg (s : State) (f : CueState → CueState) : (s.updCue f).brg = s.brg := rfl
@[simp] theorem updCue_clusters (s : State) (f : CueState → CueState) : (s.updCue f).clusters = s.clusters := rfl
@[simp] theorem updCue_pins (s : State) (f : CueState → CueState) : (s.updCue f).pins = s.pins := rfl
@[simp] theorem updCue_cans (s : State) (f : CueState → CueState) : (s.updCue f).cans = s.cans := rfl
@[simp] theorem updCue_snap (s : State) (f : CueState → CueState) : (s.updCue f).snap = s.snap := rfl
@[simp] theorem updCue_store (s : State) (f : CueState → CueState) : (s.updCue f).store = s.store := rfl
@[simp] theorem updCue_lead (s : State) (f : CueState → CueState) : (s.updCue f).lead = s.lead := rfl
@[simp] theorem updCue_flts (s : State) (f : CueState → CueState) : (s.updCue f).flts = s.flts := rfl
@[simp] theorem updCue_dark (s : State) (f : CueState → CueState) : (s.updCue f).dark = s.dark := rfl
@[simp] theorem updCue_backlog (s : State) (f : CueState → CueState) : (s.updCue f).backlog = s.backlog := rfl
@[simp] theorem updCue_fieldInj (s : State) (f : CueState → CueState) : (s.updCue f).fieldInj = s.fieldInj := rfl
@[simp] theorem updCue_power (s : State) (f : CueState → CueState) : (s.updCue f).power = s.power := rfl
@[simp] theorem updCue_host (s : State) (f : CueState → CueState) : (s.updCue f).host = s.host := rfl
@[simp] theorem updCue_dbg (s : State) (f : CueState → CueState) : (s.updCue f).dbg = s.dbg := rfl
@[simp] theorem updCue_cmp (s : State) (f : CueState → CueState) : (s.updCue f).cmp = s.cmp := rfl
@[simp] theorem updCue_traces (s : State) (f : CueState → CueState) : (s.updCue f).traces = s.traces := rfl
@[simp] theorem updCue_claimGap (s : State) (f : CueState → CueState) : (s.updCue f).claimGap = s.claimGap := rfl
@[simp] theorem updCue_timeGap (s : State) (f : CueState → CueState) : (s.updCue f).timeGap = s.timeGap := rfl
@[simp] theorem updCue_heard (s : State) (f : CueState → CueState) : (s.updCue f).heard = s.heard := rfl
@[simp] theorem updCue_told (s : State) (f : CueState → CueState) : (s.updCue f).told = s.told := rfl
@[simp] theorem updCue_fmodes (s : State) (f : CueState → CueState) : (s.updCue f).fmodes = s.fmodes := rfl
@[simp] theorem updCue_modesTold (s : State) (f : CueState → CueState) : (s.updCue f).modesTold = s.modesTold := rfl
@[simp] theorem updCue_fintm (s : State) (f : CueState → CueState) : (s.updCue f).fintm = s.fintm := rfl

/-! updTime changes time alone. -/
@[simp] theorem updTime_now (s : State) (f : TimeState → TimeState) : (s.updTime f).now = s.now := rfl
@[simp] theorem updTime_freeCtr (s : State) (f : TimeState → TimeState) : (s.updTime f).freeCtr = s.freeCtr := rfl
@[simp] theorem updTime_pending (s : State) (f : TimeState → TimeState) : (s.updTime f).pending = s.pending := rfl
@[simp] theorem updTime_regs (s : State) (f : TimeState → TimeState) : (s.updTime f).regs = s.regs := rfl
@[simp] theorem updTime_mem (s : State) (f : TimeState → TimeState) : (s.updTime f).mem = s.mem := rfl
@[simp] theorem updTime_marks (s : State) (f : TimeState → TimeState) : (s.updTime f).marks = s.marks := rfl
@[simp] theorem updTime_start (s : State) (f : TimeState → TimeState) : (s.updTime f).start = s.start := rfl
@[simp] theorem updTime_paths (s : State) (f : TimeState → TimeState) : (s.updTime f).paths = s.paths := rfl
@[simp] theorem updTime_bar (s : State) (f : TimeState → TimeState) : (s.updTime f).bar = s.bar := rfl
@[simp] theorem updTime_margins (s : State) (f : TimeState → TimeState) : (s.updTime f).margins = s.margins := rfl
@[simp] theorem updTime_links (s : State) (f : TimeState → TimeState) : (s.updTime f).links = s.links := rfl
@[simp] theorem updTime_cue (s : State) (f : TimeState → TimeState) : (s.updTime f).cue = s.cue := rfl
@[simp] theorem updTime_time (s : State) (f : TimeState → TimeState) : (s.updTime f).time = f s.time := rfl
@[simp] theorem updTime_pulses (s : State) (f : TimeState → TimeState) : (s.updTime f).pulses = s.pulses := rfl
@[simp] theorem updTime_edges (s : State) (f : TimeState → TimeState) : (s.updTime f).edges = s.edges := rfl
@[simp] theorem updTime_sw (s : State) (f : TimeState → TimeState) : (s.updTime f).sw = s.sw := rfl
@[simp] theorem updTime_streams (s : State) (f : TimeState → TimeState) : (s.updTime f).streams = s.streams := rfl
@[simp] theorem updTime_fab (s : State) (f : TimeState → TimeState) : (s.updTime f).fab = s.fab := rfl
@[simp] theorem updTime_brg (s : State) (f : TimeState → TimeState) : (s.updTime f).brg = s.brg := rfl
@[simp] theorem updTime_clusters (s : State) (f : TimeState → TimeState) : (s.updTime f).clusters = s.clusters := rfl
@[simp] theorem updTime_pins (s : State) (f : TimeState → TimeState) : (s.updTime f).pins = s.pins := rfl
@[simp] theorem updTime_cans (s : State) (f : TimeState → TimeState) : (s.updTime f).cans = s.cans := rfl
@[simp] theorem updTime_snap (s : State) (f : TimeState → TimeState) : (s.updTime f).snap = s.snap := rfl
@[simp] theorem updTime_store (s : State) (f : TimeState → TimeState) : (s.updTime f).store = s.store := rfl
@[simp] theorem updTime_lead (s : State) (f : TimeState → TimeState) : (s.updTime f).lead = s.lead := rfl
@[simp] theorem updTime_flts (s : State) (f : TimeState → TimeState) : (s.updTime f).flts = s.flts := rfl
@[simp] theorem updTime_dark (s : State) (f : TimeState → TimeState) : (s.updTime f).dark = s.dark := rfl
@[simp] theorem updTime_backlog (s : State) (f : TimeState → TimeState) : (s.updTime f).backlog = s.backlog := rfl
@[simp] theorem updTime_fieldInj (s : State) (f : TimeState → TimeState) : (s.updTime f).fieldInj = s.fieldInj := rfl
@[simp] theorem updTime_power (s : State) (f : TimeState → TimeState) : (s.updTime f).power = s.power := rfl
@[simp] theorem updTime_host (s : State) (f : TimeState → TimeState) : (s.updTime f).host = s.host := rfl
@[simp] theorem updTime_dbg (s : State) (f : TimeState → TimeState) : (s.updTime f).dbg = s.dbg := rfl
@[simp] theorem updTime_cmp (s : State) (f : TimeState → TimeState) : (s.updTime f).cmp = s.cmp := rfl
@[simp] theorem updTime_traces (s : State) (f : TimeState → TimeState) : (s.updTime f).traces = s.traces := rfl
@[simp] theorem updTime_claimGap (s : State) (f : TimeState → TimeState) : (s.updTime f).claimGap = s.claimGap := rfl
@[simp] theorem updTime_timeGap (s : State) (f : TimeState → TimeState) : (s.updTime f).timeGap = s.timeGap := rfl
@[simp] theorem updTime_heard (s : State) (f : TimeState → TimeState) : (s.updTime f).heard = s.heard := rfl
@[simp] theorem updTime_told (s : State) (f : TimeState → TimeState) : (s.updTime f).told = s.told := rfl
@[simp] theorem updTime_fmodes (s : State) (f : TimeState → TimeState) : (s.updTime f).fmodes = s.fmodes := rfl
@[simp] theorem updTime_modesTold (s : State) (f : TimeState → TimeState) : (s.updTime f).modesTold = s.modesTold := rfl
@[simp] theorem updTime_fintm (s : State) (f : TimeState → TimeState) : (s.updTime f).fintm = s.fintm := rfl

/-! updSw changes sw alone. -/
@[simp] theorem updSw_now (s : State) (f : SwitchState → SwitchState) : (s.updSw f).now = s.now := rfl
@[simp] theorem updSw_freeCtr (s : State) (f : SwitchState → SwitchState) : (s.updSw f).freeCtr = s.freeCtr := rfl
@[simp] theorem updSw_pending (s : State) (f : SwitchState → SwitchState) : (s.updSw f).pending = s.pending := rfl
@[simp] theorem updSw_regs (s : State) (f : SwitchState → SwitchState) : (s.updSw f).regs = s.regs := rfl
@[simp] theorem updSw_mem (s : State) (f : SwitchState → SwitchState) : (s.updSw f).mem = s.mem := rfl
@[simp] theorem updSw_marks (s : State) (f : SwitchState → SwitchState) : (s.updSw f).marks = s.marks := rfl
@[simp] theorem updSw_start (s : State) (f : SwitchState → SwitchState) : (s.updSw f).start = s.start := rfl
@[simp] theorem updSw_paths (s : State) (f : SwitchState → SwitchState) : (s.updSw f).paths = s.paths := rfl
@[simp] theorem updSw_bar (s : State) (f : SwitchState → SwitchState) : (s.updSw f).bar = s.bar := rfl
@[simp] theorem updSw_margins (s : State) (f : SwitchState → SwitchState) : (s.updSw f).margins = s.margins := rfl
@[simp] theorem updSw_links (s : State) (f : SwitchState → SwitchState) : (s.updSw f).links = s.links := rfl
@[simp] theorem updSw_cue (s : State) (f : SwitchState → SwitchState) : (s.updSw f).cue = s.cue := rfl
@[simp] theorem updSw_time (s : State) (f : SwitchState → SwitchState) : (s.updSw f).time = s.time := rfl
@[simp] theorem updSw_pulses (s : State) (f : SwitchState → SwitchState) : (s.updSw f).pulses = s.pulses := rfl
@[simp] theorem updSw_edges (s : State) (f : SwitchState → SwitchState) : (s.updSw f).edges = s.edges := rfl
@[simp] theorem updSw_sw (s : State) (f : SwitchState → SwitchState) : (s.updSw f).sw = f s.sw := rfl
@[simp] theorem updSw_streams (s : State) (f : SwitchState → SwitchState) : (s.updSw f).streams = s.streams := rfl
@[simp] theorem updSw_fab (s : State) (f : SwitchState → SwitchState) : (s.updSw f).fab = s.fab := rfl
@[simp] theorem updSw_brg (s : State) (f : SwitchState → SwitchState) : (s.updSw f).brg = s.brg := rfl
@[simp] theorem updSw_clusters (s : State) (f : SwitchState → SwitchState) : (s.updSw f).clusters = s.clusters := rfl
@[simp] theorem updSw_pins (s : State) (f : SwitchState → SwitchState) : (s.updSw f).pins = s.pins := rfl
@[simp] theorem updSw_cans (s : State) (f : SwitchState → SwitchState) : (s.updSw f).cans = s.cans := rfl
@[simp] theorem updSw_snap (s : State) (f : SwitchState → SwitchState) : (s.updSw f).snap = s.snap := rfl
@[simp] theorem updSw_store (s : State) (f : SwitchState → SwitchState) : (s.updSw f).store = s.store := rfl
@[simp] theorem updSw_lead (s : State) (f : SwitchState → SwitchState) : (s.updSw f).lead = s.lead := rfl
@[simp] theorem updSw_flts (s : State) (f : SwitchState → SwitchState) : (s.updSw f).flts = s.flts := rfl
@[simp] theorem updSw_dark (s : State) (f : SwitchState → SwitchState) : (s.updSw f).dark = s.dark := rfl
@[simp] theorem updSw_backlog (s : State) (f : SwitchState → SwitchState) : (s.updSw f).backlog = s.backlog := rfl
@[simp] theorem updSw_fieldInj (s : State) (f : SwitchState → SwitchState) : (s.updSw f).fieldInj = s.fieldInj := rfl
@[simp] theorem updSw_power (s : State) (f : SwitchState → SwitchState) : (s.updSw f).power = s.power := rfl
@[simp] theorem updSw_host (s : State) (f : SwitchState → SwitchState) : (s.updSw f).host = s.host := rfl
@[simp] theorem updSw_dbg (s : State) (f : SwitchState → SwitchState) : (s.updSw f).dbg = s.dbg := rfl
@[simp] theorem updSw_cmp (s : State) (f : SwitchState → SwitchState) : (s.updSw f).cmp = s.cmp := rfl
@[simp] theorem updSw_traces (s : State) (f : SwitchState → SwitchState) : (s.updSw f).traces = s.traces := rfl
@[simp] theorem updSw_claimGap (s : State) (f : SwitchState → SwitchState) : (s.updSw f).claimGap = s.claimGap := rfl
@[simp] theorem updSw_timeGap (s : State) (f : SwitchState → SwitchState) : (s.updSw f).timeGap = s.timeGap := rfl
@[simp] theorem updSw_heard (s : State) (f : SwitchState → SwitchState) : (s.updSw f).heard = s.heard := rfl
@[simp] theorem updSw_told (s : State) (f : SwitchState → SwitchState) : (s.updSw f).told = s.told := rfl
@[simp] theorem updSw_fmodes (s : State) (f : SwitchState → SwitchState) : (s.updSw f).fmodes = s.fmodes := rfl
@[simp] theorem updSw_modesTold (s : State) (f : SwitchState → SwitchState) : (s.updSw f).modesTold = s.modesTold := rfl
@[simp] theorem updSw_fintm (s : State) (f : SwitchState → SwitchState) : (s.updSw f).fintm = s.fintm := rfl

/-! updFab changes fab alone. -/
@[simp] theorem updFab_now (s : State) (f : FabState → FabState) : (s.updFab f).now = s.now := rfl
@[simp] theorem updFab_freeCtr (s : State) (f : FabState → FabState) : (s.updFab f).freeCtr = s.freeCtr := rfl
@[simp] theorem updFab_pending (s : State) (f : FabState → FabState) : (s.updFab f).pending = s.pending := rfl
@[simp] theorem updFab_regs (s : State) (f : FabState → FabState) : (s.updFab f).regs = s.regs := rfl
@[simp] theorem updFab_mem (s : State) (f : FabState → FabState) : (s.updFab f).mem = s.mem := rfl
@[simp] theorem updFab_marks (s : State) (f : FabState → FabState) : (s.updFab f).marks = s.marks := rfl
@[simp] theorem updFab_start (s : State) (f : FabState → FabState) : (s.updFab f).start = s.start := rfl
@[simp] theorem updFab_paths (s : State) (f : FabState → FabState) : (s.updFab f).paths = s.paths := rfl
@[simp] theorem updFab_bar (s : State) (f : FabState → FabState) : (s.updFab f).bar = s.bar := rfl
@[simp] theorem updFab_margins (s : State) (f : FabState → FabState) : (s.updFab f).margins = s.margins := rfl
@[simp] theorem updFab_links (s : State) (f : FabState → FabState) : (s.updFab f).links = s.links := rfl
@[simp] theorem updFab_cue (s : State) (f : FabState → FabState) : (s.updFab f).cue = s.cue := rfl
@[simp] theorem updFab_time (s : State) (f : FabState → FabState) : (s.updFab f).time = s.time := rfl
@[simp] theorem updFab_pulses (s : State) (f : FabState → FabState) : (s.updFab f).pulses = s.pulses := rfl
@[simp] theorem updFab_edges (s : State) (f : FabState → FabState) : (s.updFab f).edges = s.edges := rfl
@[simp] theorem updFab_sw (s : State) (f : FabState → FabState) : (s.updFab f).sw = s.sw := rfl
@[simp] theorem updFab_streams (s : State) (f : FabState → FabState) : (s.updFab f).streams = s.streams := rfl
@[simp] theorem updFab_fab (s : State) (f : FabState → FabState) : (s.updFab f).fab = f s.fab := rfl
@[simp] theorem updFab_brg (s : State) (f : FabState → FabState) : (s.updFab f).brg = s.brg := rfl
@[simp] theorem updFab_clusters (s : State) (f : FabState → FabState) : (s.updFab f).clusters = s.clusters := rfl
@[simp] theorem updFab_pins (s : State) (f : FabState → FabState) : (s.updFab f).pins = s.pins := rfl
@[simp] theorem updFab_cans (s : State) (f : FabState → FabState) : (s.updFab f).cans = s.cans := rfl
@[simp] theorem updFab_snap (s : State) (f : FabState → FabState) : (s.updFab f).snap = s.snap := rfl
@[simp] theorem updFab_store (s : State) (f : FabState → FabState) : (s.updFab f).store = s.store := rfl
@[simp] theorem updFab_lead (s : State) (f : FabState → FabState) : (s.updFab f).lead = s.lead := rfl
@[simp] theorem updFab_flts (s : State) (f : FabState → FabState) : (s.updFab f).flts = s.flts := rfl
@[simp] theorem updFab_dark (s : State) (f : FabState → FabState) : (s.updFab f).dark = s.dark := rfl
@[simp] theorem updFab_backlog (s : State) (f : FabState → FabState) : (s.updFab f).backlog = s.backlog := rfl
@[simp] theorem updFab_fieldInj (s : State) (f : FabState → FabState) : (s.updFab f).fieldInj = s.fieldInj := rfl
@[simp] theorem updFab_power (s : State) (f : FabState → FabState) : (s.updFab f).power = s.power := rfl
@[simp] theorem updFab_host (s : State) (f : FabState → FabState) : (s.updFab f).host = s.host := rfl
@[simp] theorem updFab_dbg (s : State) (f : FabState → FabState) : (s.updFab f).dbg = s.dbg := rfl
@[simp] theorem updFab_cmp (s : State) (f : FabState → FabState) : (s.updFab f).cmp = s.cmp := rfl
@[simp] theorem updFab_traces (s : State) (f : FabState → FabState) : (s.updFab f).traces = s.traces := rfl
@[simp] theorem updFab_claimGap (s : State) (f : FabState → FabState) : (s.updFab f).claimGap = s.claimGap := rfl
@[simp] theorem updFab_timeGap (s : State) (f : FabState → FabState) : (s.updFab f).timeGap = s.timeGap := rfl
@[simp] theorem updFab_heard (s : State) (f : FabState → FabState) : (s.updFab f).heard = s.heard := rfl
@[simp] theorem updFab_told (s : State) (f : FabState → FabState) : (s.updFab f).told = s.told := rfl
@[simp] theorem updFab_fmodes (s : State) (f : FabState → FabState) : (s.updFab f).fmodes = s.fmodes := rfl
@[simp] theorem updFab_modesTold (s : State) (f : FabState → FabState) : (s.updFab f).modesTold = s.modesTold := rfl
@[simp] theorem updFab_fintm (s : State) (f : FabState → FabState) : (s.updFab f).fintm = s.fintm := rfl

/-! updBrg changes brg alone. -/
@[simp] theorem updBrg_now (s : State) (f : BridgeState → BridgeState) : (s.updBrg f).now = s.now := rfl
@[simp] theorem updBrg_freeCtr (s : State) (f : BridgeState → BridgeState) : (s.updBrg f).freeCtr = s.freeCtr := rfl
@[simp] theorem updBrg_pending (s : State) (f : BridgeState → BridgeState) : (s.updBrg f).pending = s.pending := rfl
@[simp] theorem updBrg_regs (s : State) (f : BridgeState → BridgeState) : (s.updBrg f).regs = s.regs := rfl
@[simp] theorem updBrg_mem (s : State) (f : BridgeState → BridgeState) : (s.updBrg f).mem = s.mem := rfl
@[simp] theorem updBrg_marks (s : State) (f : BridgeState → BridgeState) : (s.updBrg f).marks = s.marks := rfl
@[simp] theorem updBrg_start (s : State) (f : BridgeState → BridgeState) : (s.updBrg f).start = s.start := rfl
@[simp] theorem updBrg_paths (s : State) (f : BridgeState → BridgeState) : (s.updBrg f).paths = s.paths := rfl
@[simp] theorem updBrg_bar (s : State) (f : BridgeState → BridgeState) : (s.updBrg f).bar = s.bar := rfl
@[simp] theorem updBrg_margins (s : State) (f : BridgeState → BridgeState) : (s.updBrg f).margins = s.margins := rfl
@[simp] theorem updBrg_links (s : State) (f : BridgeState → BridgeState) : (s.updBrg f).links = s.links := rfl
@[simp] theorem updBrg_cue (s : State) (f : BridgeState → BridgeState) : (s.updBrg f).cue = s.cue := rfl
@[simp] theorem updBrg_time (s : State) (f : BridgeState → BridgeState) : (s.updBrg f).time = s.time := rfl
@[simp] theorem updBrg_pulses (s : State) (f : BridgeState → BridgeState) : (s.updBrg f).pulses = s.pulses := rfl
@[simp] theorem updBrg_edges (s : State) (f : BridgeState → BridgeState) : (s.updBrg f).edges = s.edges := rfl
@[simp] theorem updBrg_sw (s : State) (f : BridgeState → BridgeState) : (s.updBrg f).sw = s.sw := rfl
@[simp] theorem updBrg_streams (s : State) (f : BridgeState → BridgeState) : (s.updBrg f).streams = s.streams := rfl
@[simp] theorem updBrg_fab (s : State) (f : BridgeState → BridgeState) : (s.updBrg f).fab = s.fab := rfl
@[simp] theorem updBrg_brg (s : State) (f : BridgeState → BridgeState) : (s.updBrg f).brg = f s.brg := rfl
@[simp] theorem updBrg_clusters (s : State) (f : BridgeState → BridgeState) : (s.updBrg f).clusters = s.clusters := rfl
@[simp] theorem updBrg_pins (s : State) (f : BridgeState → BridgeState) : (s.updBrg f).pins = s.pins := rfl
@[simp] theorem updBrg_cans (s : State) (f : BridgeState → BridgeState) : (s.updBrg f).cans = s.cans := rfl
@[simp] theorem updBrg_snap (s : State) (f : BridgeState → BridgeState) : (s.updBrg f).snap = s.snap := rfl
@[simp] theorem updBrg_store (s : State) (f : BridgeState → BridgeState) : (s.updBrg f).store = s.store := rfl
@[simp] theorem updBrg_lead (s : State) (f : BridgeState → BridgeState) : (s.updBrg f).lead = s.lead := rfl
@[simp] theorem updBrg_flts (s : State) (f : BridgeState → BridgeState) : (s.updBrg f).flts = s.flts := rfl
@[simp] theorem updBrg_dark (s : State) (f : BridgeState → BridgeState) : (s.updBrg f).dark = s.dark := rfl
@[simp] theorem updBrg_backlog (s : State) (f : BridgeState → BridgeState) : (s.updBrg f).backlog = s.backlog := rfl
@[simp] theorem updBrg_fieldInj (s : State) (f : BridgeState → BridgeState) : (s.updBrg f).fieldInj = s.fieldInj := rfl
@[simp] theorem updBrg_power (s : State) (f : BridgeState → BridgeState) : (s.updBrg f).power = s.power := rfl
@[simp] theorem updBrg_host (s : State) (f : BridgeState → BridgeState) : (s.updBrg f).host = s.host := rfl
@[simp] theorem updBrg_dbg (s : State) (f : BridgeState → BridgeState) : (s.updBrg f).dbg = s.dbg := rfl
@[simp] theorem updBrg_cmp (s : State) (f : BridgeState → BridgeState) : (s.updBrg f).cmp = s.cmp := rfl
@[simp] theorem updBrg_traces (s : State) (f : BridgeState → BridgeState) : (s.updBrg f).traces = s.traces := rfl
@[simp] theorem updBrg_claimGap (s : State) (f : BridgeState → BridgeState) : (s.updBrg f).claimGap = s.claimGap := rfl
@[simp] theorem updBrg_timeGap (s : State) (f : BridgeState → BridgeState) : (s.updBrg f).timeGap = s.timeGap := rfl
@[simp] theorem updBrg_heard (s : State) (f : BridgeState → BridgeState) : (s.updBrg f).heard = s.heard := rfl
@[simp] theorem updBrg_told (s : State) (f : BridgeState → BridgeState) : (s.updBrg f).told = s.told := rfl
@[simp] theorem updBrg_fmodes (s : State) (f : BridgeState → BridgeState) : (s.updBrg f).fmodes = s.fmodes := rfl
@[simp] theorem updBrg_modesTold (s : State) (f : BridgeState → BridgeState) : (s.updBrg f).modesTold = s.modesTold := rfl
@[simp] theorem updBrg_fintm (s : State) (f : BridgeState → BridgeState) : (s.updBrg f).fintm = s.fintm := rfl

/-! updStore changes store alone. -/
@[simp] theorem updStore_now (s : State) (f : StoreState → StoreState) : (s.updStore f).now = s.now := rfl
@[simp] theorem updStore_freeCtr (s : State) (f : StoreState → StoreState) : (s.updStore f).freeCtr = s.freeCtr := rfl
@[simp] theorem updStore_pending (s : State) (f : StoreState → StoreState) : (s.updStore f).pending = s.pending := rfl
@[simp] theorem updStore_regs (s : State) (f : StoreState → StoreState) : (s.updStore f).regs = s.regs := rfl
@[simp] theorem updStore_mem (s : State) (f : StoreState → StoreState) : (s.updStore f).mem = s.mem := rfl
@[simp] theorem updStore_marks (s : State) (f : StoreState → StoreState) : (s.updStore f).marks = s.marks := rfl
@[simp] theorem updStore_start (s : State) (f : StoreState → StoreState) : (s.updStore f).start = s.start := rfl
@[simp] theorem updStore_paths (s : State) (f : StoreState → StoreState) : (s.updStore f).paths = s.paths := rfl
@[simp] theorem updStore_bar (s : State) (f : StoreState → StoreState) : (s.updStore f).bar = s.bar := rfl
@[simp] theorem updStore_margins (s : State) (f : StoreState → StoreState) : (s.updStore f).margins = s.margins := rfl
@[simp] theorem updStore_links (s : State) (f : StoreState → StoreState) : (s.updStore f).links = s.links := rfl
@[simp] theorem updStore_cue (s : State) (f : StoreState → StoreState) : (s.updStore f).cue = s.cue := rfl
@[simp] theorem updStore_time (s : State) (f : StoreState → StoreState) : (s.updStore f).time = s.time := rfl
@[simp] theorem updStore_pulses (s : State) (f : StoreState → StoreState) : (s.updStore f).pulses = s.pulses := rfl
@[simp] theorem updStore_edges (s : State) (f : StoreState → StoreState) : (s.updStore f).edges = s.edges := rfl
@[simp] theorem updStore_sw (s : State) (f : StoreState → StoreState) : (s.updStore f).sw = s.sw := rfl
@[simp] theorem updStore_streams (s : State) (f : StoreState → StoreState) : (s.updStore f).streams = s.streams := rfl
@[simp] theorem updStore_fab (s : State) (f : StoreState → StoreState) : (s.updStore f).fab = s.fab := rfl
@[simp] theorem updStore_brg (s : State) (f : StoreState → StoreState) : (s.updStore f).brg = s.brg := rfl
@[simp] theorem updStore_clusters (s : State) (f : StoreState → StoreState) : (s.updStore f).clusters = s.clusters := rfl
@[simp] theorem updStore_pins (s : State) (f : StoreState → StoreState) : (s.updStore f).pins = s.pins := rfl
@[simp] theorem updStore_cans (s : State) (f : StoreState → StoreState) : (s.updStore f).cans = s.cans := rfl
@[simp] theorem updStore_snap (s : State) (f : StoreState → StoreState) : (s.updStore f).snap = s.snap := rfl
@[simp] theorem updStore_store (s : State) (f : StoreState → StoreState) : (s.updStore f).store = f s.store := rfl
@[simp] theorem updStore_lead (s : State) (f : StoreState → StoreState) : (s.updStore f).lead = s.lead := rfl
@[simp] theorem updStore_flts (s : State) (f : StoreState → StoreState) : (s.updStore f).flts = s.flts := rfl
@[simp] theorem updStore_dark (s : State) (f : StoreState → StoreState) : (s.updStore f).dark = s.dark := rfl
@[simp] theorem updStore_backlog (s : State) (f : StoreState → StoreState) : (s.updStore f).backlog = s.backlog := rfl
@[simp] theorem updStore_fieldInj (s : State) (f : StoreState → StoreState) : (s.updStore f).fieldInj = s.fieldInj := rfl
@[simp] theorem updStore_power (s : State) (f : StoreState → StoreState) : (s.updStore f).power = s.power := rfl
@[simp] theorem updStore_host (s : State) (f : StoreState → StoreState) : (s.updStore f).host = s.host := rfl
@[simp] theorem updStore_dbg (s : State) (f : StoreState → StoreState) : (s.updStore f).dbg = s.dbg := rfl
@[simp] theorem updStore_cmp (s : State) (f : StoreState → StoreState) : (s.updStore f).cmp = s.cmp := rfl
@[simp] theorem updStore_traces (s : State) (f : StoreState → StoreState) : (s.updStore f).traces = s.traces := rfl
@[simp] theorem updStore_claimGap (s : State) (f : StoreState → StoreState) : (s.updStore f).claimGap = s.claimGap := rfl
@[simp] theorem updStore_timeGap (s : State) (f : StoreState → StoreState) : (s.updStore f).timeGap = s.timeGap := rfl
@[simp] theorem updStore_heard (s : State) (f : StoreState → StoreState) : (s.updStore f).heard = s.heard := rfl
@[simp] theorem updStore_told (s : State) (f : StoreState → StoreState) : (s.updStore f).told = s.told := rfl
@[simp] theorem updStore_fmodes (s : State) (f : StoreState → StoreState) : (s.updStore f).fmodes = s.fmodes := rfl
@[simp] theorem updStore_modesTold (s : State) (f : StoreState → StoreState) : (s.updStore f).modesTold = s.modesTold := rfl
@[simp] theorem updStore_fintm (s : State) (f : StoreState → StoreState) : (s.updStore f).fintm = s.fintm := rfl

/-! updLead changes lead alone. -/
@[simp] theorem updLead_now (s : State) (f : LeadState → LeadState) : (s.updLead f).now = s.now := rfl
@[simp] theorem updLead_freeCtr (s : State) (f : LeadState → LeadState) : (s.updLead f).freeCtr = s.freeCtr := rfl
@[simp] theorem updLead_pending (s : State) (f : LeadState → LeadState) : (s.updLead f).pending = s.pending := rfl
@[simp] theorem updLead_regs (s : State) (f : LeadState → LeadState) : (s.updLead f).regs = s.regs := rfl
@[simp] theorem updLead_mem (s : State) (f : LeadState → LeadState) : (s.updLead f).mem = s.mem := rfl
@[simp] theorem updLead_marks (s : State) (f : LeadState → LeadState) : (s.updLead f).marks = s.marks := rfl
@[simp] theorem updLead_start (s : State) (f : LeadState → LeadState) : (s.updLead f).start = s.start := rfl
@[simp] theorem updLead_paths (s : State) (f : LeadState → LeadState) : (s.updLead f).paths = s.paths := rfl
@[simp] theorem updLead_bar (s : State) (f : LeadState → LeadState) : (s.updLead f).bar = s.bar := rfl
@[simp] theorem updLead_margins (s : State) (f : LeadState → LeadState) : (s.updLead f).margins = s.margins := rfl
@[simp] theorem updLead_links (s : State) (f : LeadState → LeadState) : (s.updLead f).links = s.links := rfl
@[simp] theorem updLead_cue (s : State) (f : LeadState → LeadState) : (s.updLead f).cue = s.cue := rfl
@[simp] theorem updLead_time (s : State) (f : LeadState → LeadState) : (s.updLead f).time = s.time := rfl
@[simp] theorem updLead_pulses (s : State) (f : LeadState → LeadState) : (s.updLead f).pulses = s.pulses := rfl
@[simp] theorem updLead_edges (s : State) (f : LeadState → LeadState) : (s.updLead f).edges = s.edges := rfl
@[simp] theorem updLead_sw (s : State) (f : LeadState → LeadState) : (s.updLead f).sw = s.sw := rfl
@[simp] theorem updLead_streams (s : State) (f : LeadState → LeadState) : (s.updLead f).streams = s.streams := rfl
@[simp] theorem updLead_fab (s : State) (f : LeadState → LeadState) : (s.updLead f).fab = s.fab := rfl
@[simp] theorem updLead_brg (s : State) (f : LeadState → LeadState) : (s.updLead f).brg = s.brg := rfl
@[simp] theorem updLead_clusters (s : State) (f : LeadState → LeadState) : (s.updLead f).clusters = s.clusters := rfl
@[simp] theorem updLead_pins (s : State) (f : LeadState → LeadState) : (s.updLead f).pins = s.pins := rfl
@[simp] theorem updLead_cans (s : State) (f : LeadState → LeadState) : (s.updLead f).cans = s.cans := rfl
@[simp] theorem updLead_snap (s : State) (f : LeadState → LeadState) : (s.updLead f).snap = s.snap := rfl
@[simp] theorem updLead_store (s : State) (f : LeadState → LeadState) : (s.updLead f).store = s.store := rfl
@[simp] theorem updLead_lead (s : State) (f : LeadState → LeadState) : (s.updLead f).lead = f s.lead := rfl
@[simp] theorem updLead_flts (s : State) (f : LeadState → LeadState) : (s.updLead f).flts = s.flts := rfl
@[simp] theorem updLead_dark (s : State) (f : LeadState → LeadState) : (s.updLead f).dark = s.dark := rfl
@[simp] theorem updLead_backlog (s : State) (f : LeadState → LeadState) : (s.updLead f).backlog = s.backlog := rfl
@[simp] theorem updLead_fieldInj (s : State) (f : LeadState → LeadState) : (s.updLead f).fieldInj = s.fieldInj := rfl
@[simp] theorem updLead_power (s : State) (f : LeadState → LeadState) : (s.updLead f).power = s.power := rfl
@[simp] theorem updLead_host (s : State) (f : LeadState → LeadState) : (s.updLead f).host = s.host := rfl
@[simp] theorem updLead_dbg (s : State) (f : LeadState → LeadState) : (s.updLead f).dbg = s.dbg := rfl
@[simp] theorem updLead_cmp (s : State) (f : LeadState → LeadState) : (s.updLead f).cmp = s.cmp := rfl
@[simp] theorem updLead_traces (s : State) (f : LeadState → LeadState) : (s.updLead f).traces = s.traces := rfl
@[simp] theorem updLead_claimGap (s : State) (f : LeadState → LeadState) : (s.updLead f).claimGap = s.claimGap := rfl
@[simp] theorem updLead_timeGap (s : State) (f : LeadState → LeadState) : (s.updLead f).timeGap = s.timeGap := rfl
@[simp] theorem updLead_heard (s : State) (f : LeadState → LeadState) : (s.updLead f).heard = s.heard := rfl
@[simp] theorem updLead_told (s : State) (f : LeadState → LeadState) : (s.updLead f).told = s.told := rfl
@[simp] theorem updLead_fmodes (s : State) (f : LeadState → LeadState) : (s.updLead f).fmodes = s.fmodes := rfl
@[simp] theorem updLead_modesTold (s : State) (f : LeadState → LeadState) : (s.updLead f).modesTold = s.modesTold := rfl
@[simp] theorem updLead_fintm (s : State) (f : LeadState → LeadState) : (s.updLead f).fintm = s.fintm := rfl

/-! updPower changes power alone. -/
@[simp] theorem updPower_now (s : State) (f : PowerState → PowerState) : (s.updPower f).now = s.now := rfl
@[simp] theorem updPower_freeCtr (s : State) (f : PowerState → PowerState) : (s.updPower f).freeCtr = s.freeCtr := rfl
@[simp] theorem updPower_pending (s : State) (f : PowerState → PowerState) : (s.updPower f).pending = s.pending := rfl
@[simp] theorem updPower_regs (s : State) (f : PowerState → PowerState) : (s.updPower f).regs = s.regs := rfl
@[simp] theorem updPower_mem (s : State) (f : PowerState → PowerState) : (s.updPower f).mem = s.mem := rfl
@[simp] theorem updPower_marks (s : State) (f : PowerState → PowerState) : (s.updPower f).marks = s.marks := rfl
@[simp] theorem updPower_start (s : State) (f : PowerState → PowerState) : (s.updPower f).start = s.start := rfl
@[simp] theorem updPower_paths (s : State) (f : PowerState → PowerState) : (s.updPower f).paths = s.paths := rfl
@[simp] theorem updPower_bar (s : State) (f : PowerState → PowerState) : (s.updPower f).bar = s.bar := rfl
@[simp] theorem updPower_margins (s : State) (f : PowerState → PowerState) : (s.updPower f).margins = s.margins := rfl
@[simp] theorem updPower_links (s : State) (f : PowerState → PowerState) : (s.updPower f).links = s.links := rfl
@[simp] theorem updPower_cue (s : State) (f : PowerState → PowerState) : (s.updPower f).cue = s.cue := rfl
@[simp] theorem updPower_time (s : State) (f : PowerState → PowerState) : (s.updPower f).time = s.time := rfl
@[simp] theorem updPower_pulses (s : State) (f : PowerState → PowerState) : (s.updPower f).pulses = s.pulses := rfl
@[simp] theorem updPower_edges (s : State) (f : PowerState → PowerState) : (s.updPower f).edges = s.edges := rfl
@[simp] theorem updPower_sw (s : State) (f : PowerState → PowerState) : (s.updPower f).sw = s.sw := rfl
@[simp] theorem updPower_streams (s : State) (f : PowerState → PowerState) : (s.updPower f).streams = s.streams := rfl
@[simp] theorem updPower_fab (s : State) (f : PowerState → PowerState) : (s.updPower f).fab = s.fab := rfl
@[simp] theorem updPower_brg (s : State) (f : PowerState → PowerState) : (s.updPower f).brg = s.brg := rfl
@[simp] theorem updPower_clusters (s : State) (f : PowerState → PowerState) : (s.updPower f).clusters = s.clusters := rfl
@[simp] theorem updPower_pins (s : State) (f : PowerState → PowerState) : (s.updPower f).pins = s.pins := rfl
@[simp] theorem updPower_cans (s : State) (f : PowerState → PowerState) : (s.updPower f).cans = s.cans := rfl
@[simp] theorem updPower_snap (s : State) (f : PowerState → PowerState) : (s.updPower f).snap = s.snap := rfl
@[simp] theorem updPower_store (s : State) (f : PowerState → PowerState) : (s.updPower f).store = s.store := rfl
@[simp] theorem updPower_lead (s : State) (f : PowerState → PowerState) : (s.updPower f).lead = s.lead := rfl
@[simp] theorem updPower_flts (s : State) (f : PowerState → PowerState) : (s.updPower f).flts = s.flts := rfl
@[simp] theorem updPower_dark (s : State) (f : PowerState → PowerState) : (s.updPower f).dark = s.dark := rfl
@[simp] theorem updPower_backlog (s : State) (f : PowerState → PowerState) : (s.updPower f).backlog = s.backlog := rfl
@[simp] theorem updPower_fieldInj (s : State) (f : PowerState → PowerState) : (s.updPower f).fieldInj = s.fieldInj := rfl
@[simp] theorem updPower_power (s : State) (f : PowerState → PowerState) : (s.updPower f).power = f s.power := rfl
@[simp] theorem updPower_host (s : State) (f : PowerState → PowerState) : (s.updPower f).host = s.host := rfl
@[simp] theorem updPower_dbg (s : State) (f : PowerState → PowerState) : (s.updPower f).dbg = s.dbg := rfl
@[simp] theorem updPower_cmp (s : State) (f : PowerState → PowerState) : (s.updPower f).cmp = s.cmp := rfl
@[simp] theorem updPower_traces (s : State) (f : PowerState → PowerState) : (s.updPower f).traces = s.traces := rfl
@[simp] theorem updPower_claimGap (s : State) (f : PowerState → PowerState) : (s.updPower f).claimGap = s.claimGap := rfl
@[simp] theorem updPower_timeGap (s : State) (f : PowerState → PowerState) : (s.updPower f).timeGap = s.timeGap := rfl
@[simp] theorem updPower_heard (s : State) (f : PowerState → PowerState) : (s.updPower f).heard = s.heard := rfl
@[simp] theorem updPower_told (s : State) (f : PowerState → PowerState) : (s.updPower f).told = s.told := rfl
@[simp] theorem updPower_fmodes (s : State) (f : PowerState → PowerState) : (s.updPower f).fmodes = s.fmodes := rfl
@[simp] theorem updPower_modesTold (s : State) (f : PowerState → PowerState) : (s.updPower f).modesTold = s.modesTold := rfl
@[simp] theorem updPower_fintm (s : State) (f : PowerState → PowerState) : (s.updPower f).fintm = s.fintm := rfl

/-! updHost changes host alone. -/
@[simp] theorem updHost_now (s : State) (f : HostState → HostState) : (s.updHost f).now = s.now := rfl
@[simp] theorem updHost_freeCtr (s : State) (f : HostState → HostState) : (s.updHost f).freeCtr = s.freeCtr := rfl
@[simp] theorem updHost_pending (s : State) (f : HostState → HostState) : (s.updHost f).pending = s.pending := rfl
@[simp] theorem updHost_regs (s : State) (f : HostState → HostState) : (s.updHost f).regs = s.regs := rfl
@[simp] theorem updHost_mem (s : State) (f : HostState → HostState) : (s.updHost f).mem = s.mem := rfl
@[simp] theorem updHost_marks (s : State) (f : HostState → HostState) : (s.updHost f).marks = s.marks := rfl
@[simp] theorem updHost_start (s : State) (f : HostState → HostState) : (s.updHost f).start = s.start := rfl
@[simp] theorem updHost_paths (s : State) (f : HostState → HostState) : (s.updHost f).paths = s.paths := rfl
@[simp] theorem updHost_bar (s : State) (f : HostState → HostState) : (s.updHost f).bar = s.bar := rfl
@[simp] theorem updHost_margins (s : State) (f : HostState → HostState) : (s.updHost f).margins = s.margins := rfl
@[simp] theorem updHost_links (s : State) (f : HostState → HostState) : (s.updHost f).links = s.links := rfl
@[simp] theorem updHost_cue (s : State) (f : HostState → HostState) : (s.updHost f).cue = s.cue := rfl
@[simp] theorem updHost_time (s : State) (f : HostState → HostState) : (s.updHost f).time = s.time := rfl
@[simp] theorem updHost_pulses (s : State) (f : HostState → HostState) : (s.updHost f).pulses = s.pulses := rfl
@[simp] theorem updHost_edges (s : State) (f : HostState → HostState) : (s.updHost f).edges = s.edges := rfl
@[simp] theorem updHost_sw (s : State) (f : HostState → HostState) : (s.updHost f).sw = s.sw := rfl
@[simp] theorem updHost_streams (s : State) (f : HostState → HostState) : (s.updHost f).streams = s.streams := rfl
@[simp] theorem updHost_fab (s : State) (f : HostState → HostState) : (s.updHost f).fab = s.fab := rfl
@[simp] theorem updHost_brg (s : State) (f : HostState → HostState) : (s.updHost f).brg = s.brg := rfl
@[simp] theorem updHost_clusters (s : State) (f : HostState → HostState) : (s.updHost f).clusters = s.clusters := rfl
@[simp] theorem updHost_pins (s : State) (f : HostState → HostState) : (s.updHost f).pins = s.pins := rfl
@[simp] theorem updHost_cans (s : State) (f : HostState → HostState) : (s.updHost f).cans = s.cans := rfl
@[simp] theorem updHost_snap (s : State) (f : HostState → HostState) : (s.updHost f).snap = s.snap := rfl
@[simp] theorem updHost_store (s : State) (f : HostState → HostState) : (s.updHost f).store = s.store := rfl
@[simp] theorem updHost_lead (s : State) (f : HostState → HostState) : (s.updHost f).lead = s.lead := rfl
@[simp] theorem updHost_flts (s : State) (f : HostState → HostState) : (s.updHost f).flts = s.flts := rfl
@[simp] theorem updHost_dark (s : State) (f : HostState → HostState) : (s.updHost f).dark = s.dark := rfl
@[simp] theorem updHost_backlog (s : State) (f : HostState → HostState) : (s.updHost f).backlog = s.backlog := rfl
@[simp] theorem updHost_fieldInj (s : State) (f : HostState → HostState) : (s.updHost f).fieldInj = s.fieldInj := rfl
@[simp] theorem updHost_power (s : State) (f : HostState → HostState) : (s.updHost f).power = s.power := rfl
@[simp] theorem updHost_host (s : State) (f : HostState → HostState) : (s.updHost f).host = f s.host := rfl
@[simp] theorem updHost_dbg (s : State) (f : HostState → HostState) : (s.updHost f).dbg = s.dbg := rfl
@[simp] theorem updHost_cmp (s : State) (f : HostState → HostState) : (s.updHost f).cmp = s.cmp := rfl
@[simp] theorem updHost_traces (s : State) (f : HostState → HostState) : (s.updHost f).traces = s.traces := rfl
@[simp] theorem updHost_claimGap (s : State) (f : HostState → HostState) : (s.updHost f).claimGap = s.claimGap := rfl
@[simp] theorem updHost_timeGap (s : State) (f : HostState → HostState) : (s.updHost f).timeGap = s.timeGap := rfl
@[simp] theorem updHost_heard (s : State) (f : HostState → HostState) : (s.updHost f).heard = s.heard := rfl
@[simp] theorem updHost_told (s : State) (f : HostState → HostState) : (s.updHost f).told = s.told := rfl
@[simp] theorem updHost_fmodes (s : State) (f : HostState → HostState) : (s.updHost f).fmodes = s.fmodes := rfl
@[simp] theorem updHost_modesTold (s : State) (f : HostState → HostState) : (s.updHost f).modesTold = s.modesTold := rfl
@[simp] theorem updHost_fintm (s : State) (f : HostState → HostState) : (s.updHost f).fintm = s.fintm := rfl

/-! updDbg changes dbg alone. -/
@[simp] theorem updDbg_now (s : State) (f : DebugState → DebugState) : (s.updDbg f).now = s.now := rfl
@[simp] theorem updDbg_freeCtr (s : State) (f : DebugState → DebugState) : (s.updDbg f).freeCtr = s.freeCtr := rfl
@[simp] theorem updDbg_pending (s : State) (f : DebugState → DebugState) : (s.updDbg f).pending = s.pending := rfl
@[simp] theorem updDbg_regs (s : State) (f : DebugState → DebugState) : (s.updDbg f).regs = s.regs := rfl
@[simp] theorem updDbg_mem (s : State) (f : DebugState → DebugState) : (s.updDbg f).mem = s.mem := rfl
@[simp] theorem updDbg_marks (s : State) (f : DebugState → DebugState) : (s.updDbg f).marks = s.marks := rfl
@[simp] theorem updDbg_start (s : State) (f : DebugState → DebugState) : (s.updDbg f).start = s.start := rfl
@[simp] theorem updDbg_paths (s : State) (f : DebugState → DebugState) : (s.updDbg f).paths = s.paths := rfl
@[simp] theorem updDbg_bar (s : State) (f : DebugState → DebugState) : (s.updDbg f).bar = s.bar := rfl
@[simp] theorem updDbg_margins (s : State) (f : DebugState → DebugState) : (s.updDbg f).margins = s.margins := rfl
@[simp] theorem updDbg_links (s : State) (f : DebugState → DebugState) : (s.updDbg f).links = s.links := rfl
@[simp] theorem updDbg_cue (s : State) (f : DebugState → DebugState) : (s.updDbg f).cue = s.cue := rfl
@[simp] theorem updDbg_time (s : State) (f : DebugState → DebugState) : (s.updDbg f).time = s.time := rfl
@[simp] theorem updDbg_pulses (s : State) (f : DebugState → DebugState) : (s.updDbg f).pulses = s.pulses := rfl
@[simp] theorem updDbg_edges (s : State) (f : DebugState → DebugState) : (s.updDbg f).edges = s.edges := rfl
@[simp] theorem updDbg_sw (s : State) (f : DebugState → DebugState) : (s.updDbg f).sw = s.sw := rfl
@[simp] theorem updDbg_streams (s : State) (f : DebugState → DebugState) : (s.updDbg f).streams = s.streams := rfl
@[simp] theorem updDbg_fab (s : State) (f : DebugState → DebugState) : (s.updDbg f).fab = s.fab := rfl
@[simp] theorem updDbg_brg (s : State) (f : DebugState → DebugState) : (s.updDbg f).brg = s.brg := rfl
@[simp] theorem updDbg_clusters (s : State) (f : DebugState → DebugState) : (s.updDbg f).clusters = s.clusters := rfl
@[simp] theorem updDbg_pins (s : State) (f : DebugState → DebugState) : (s.updDbg f).pins = s.pins := rfl
@[simp] theorem updDbg_cans (s : State) (f : DebugState → DebugState) : (s.updDbg f).cans = s.cans := rfl
@[simp] theorem updDbg_snap (s : State) (f : DebugState → DebugState) : (s.updDbg f).snap = s.snap := rfl
@[simp] theorem updDbg_store (s : State) (f : DebugState → DebugState) : (s.updDbg f).store = s.store := rfl
@[simp] theorem updDbg_lead (s : State) (f : DebugState → DebugState) : (s.updDbg f).lead = s.lead := rfl
@[simp] theorem updDbg_flts (s : State) (f : DebugState → DebugState) : (s.updDbg f).flts = s.flts := rfl
@[simp] theorem updDbg_dark (s : State) (f : DebugState → DebugState) : (s.updDbg f).dark = s.dark := rfl
@[simp] theorem updDbg_backlog (s : State) (f : DebugState → DebugState) : (s.updDbg f).backlog = s.backlog := rfl
@[simp] theorem updDbg_fieldInj (s : State) (f : DebugState → DebugState) : (s.updDbg f).fieldInj = s.fieldInj := rfl
@[simp] theorem updDbg_power (s : State) (f : DebugState → DebugState) : (s.updDbg f).power = s.power := rfl
@[simp] theorem updDbg_host (s : State) (f : DebugState → DebugState) : (s.updDbg f).host = s.host := rfl
@[simp] theorem updDbg_dbg (s : State) (f : DebugState → DebugState) : (s.updDbg f).dbg = f s.dbg := rfl
@[simp] theorem updDbg_cmp (s : State) (f : DebugState → DebugState) : (s.updDbg f).cmp = s.cmp := rfl
@[simp] theorem updDbg_traces (s : State) (f : DebugState → DebugState) : (s.updDbg f).traces = s.traces := rfl
@[simp] theorem updDbg_claimGap (s : State) (f : DebugState → DebugState) : (s.updDbg f).claimGap = s.claimGap := rfl
@[simp] theorem updDbg_timeGap (s : State) (f : DebugState → DebugState) : (s.updDbg f).timeGap = s.timeGap := rfl
@[simp] theorem updDbg_heard (s : State) (f : DebugState → DebugState) : (s.updDbg f).heard = s.heard := rfl
@[simp] theorem updDbg_told (s : State) (f : DebugState → DebugState) : (s.updDbg f).told = s.told := rfl
@[simp] theorem updDbg_fmodes (s : State) (f : DebugState → DebugState) : (s.updDbg f).fmodes = s.fmodes := rfl
@[simp] theorem updDbg_modesTold (s : State) (f : DebugState → DebugState) : (s.updDbg f).modesTold = s.modesTold := rfl
@[simp] theorem updDbg_fintm (s : State) (f : DebugState → DebugState) : (s.updDbg f).fintm = s.fintm := rfl

/-! updDark changes dark alone. -/
@[simp] theorem updDark_now (s : State) (f : DarkLatch → DarkLatch) : (s.updDark f).now = s.now := rfl
@[simp] theorem updDark_freeCtr (s : State) (f : DarkLatch → DarkLatch) : (s.updDark f).freeCtr = s.freeCtr := rfl
@[simp] theorem updDark_pending (s : State) (f : DarkLatch → DarkLatch) : (s.updDark f).pending = s.pending := rfl
@[simp] theorem updDark_regs (s : State) (f : DarkLatch → DarkLatch) : (s.updDark f).regs = s.regs := rfl
@[simp] theorem updDark_mem (s : State) (f : DarkLatch → DarkLatch) : (s.updDark f).mem = s.mem := rfl
@[simp] theorem updDark_marks (s : State) (f : DarkLatch → DarkLatch) : (s.updDark f).marks = s.marks := rfl
@[simp] theorem updDark_start (s : State) (f : DarkLatch → DarkLatch) : (s.updDark f).start = s.start := rfl
@[simp] theorem updDark_paths (s : State) (f : DarkLatch → DarkLatch) : (s.updDark f).paths = s.paths := rfl
@[simp] theorem updDark_bar (s : State) (f : DarkLatch → DarkLatch) : (s.updDark f).bar = s.bar := rfl
@[simp] theorem updDark_margins (s : State) (f : DarkLatch → DarkLatch) : (s.updDark f).margins = s.margins := rfl
@[simp] theorem updDark_links (s : State) (f : DarkLatch → DarkLatch) : (s.updDark f).links = s.links := rfl
@[simp] theorem updDark_cue (s : State) (f : DarkLatch → DarkLatch) : (s.updDark f).cue = s.cue := rfl
@[simp] theorem updDark_time (s : State) (f : DarkLatch → DarkLatch) : (s.updDark f).time = s.time := rfl
@[simp] theorem updDark_pulses (s : State) (f : DarkLatch → DarkLatch) : (s.updDark f).pulses = s.pulses := rfl
@[simp] theorem updDark_edges (s : State) (f : DarkLatch → DarkLatch) : (s.updDark f).edges = s.edges := rfl
@[simp] theorem updDark_sw (s : State) (f : DarkLatch → DarkLatch) : (s.updDark f).sw = s.sw := rfl
@[simp] theorem updDark_streams (s : State) (f : DarkLatch → DarkLatch) : (s.updDark f).streams = s.streams := rfl
@[simp] theorem updDark_fab (s : State) (f : DarkLatch → DarkLatch) : (s.updDark f).fab = s.fab := rfl
@[simp] theorem updDark_brg (s : State) (f : DarkLatch → DarkLatch) : (s.updDark f).brg = s.brg := rfl
@[simp] theorem updDark_clusters (s : State) (f : DarkLatch → DarkLatch) : (s.updDark f).clusters = s.clusters := rfl
@[simp] theorem updDark_pins (s : State) (f : DarkLatch → DarkLatch) : (s.updDark f).pins = s.pins := rfl
@[simp] theorem updDark_cans (s : State) (f : DarkLatch → DarkLatch) : (s.updDark f).cans = s.cans := rfl
@[simp] theorem updDark_snap (s : State) (f : DarkLatch → DarkLatch) : (s.updDark f).snap = s.snap := rfl
@[simp] theorem updDark_store (s : State) (f : DarkLatch → DarkLatch) : (s.updDark f).store = s.store := rfl
@[simp] theorem updDark_lead (s : State) (f : DarkLatch → DarkLatch) : (s.updDark f).lead = s.lead := rfl
@[simp] theorem updDark_flts (s : State) (f : DarkLatch → DarkLatch) : (s.updDark f).flts = s.flts := rfl
@[simp] theorem updDark_dark (s : State) (f : DarkLatch → DarkLatch) : (s.updDark f).dark = f s.dark := rfl
@[simp] theorem updDark_backlog (s : State) (f : DarkLatch → DarkLatch) : (s.updDark f).backlog = s.backlog := rfl
@[simp] theorem updDark_fieldInj (s : State) (f : DarkLatch → DarkLatch) : (s.updDark f).fieldInj = s.fieldInj := rfl
@[simp] theorem updDark_power (s : State) (f : DarkLatch → DarkLatch) : (s.updDark f).power = s.power := rfl
@[simp] theorem updDark_host (s : State) (f : DarkLatch → DarkLatch) : (s.updDark f).host = s.host := rfl
@[simp] theorem updDark_dbg (s : State) (f : DarkLatch → DarkLatch) : (s.updDark f).dbg = s.dbg := rfl
@[simp] theorem updDark_cmp (s : State) (f : DarkLatch → DarkLatch) : (s.updDark f).cmp = s.cmp := rfl
@[simp] theorem updDark_traces (s : State) (f : DarkLatch → DarkLatch) : (s.updDark f).traces = s.traces := rfl
@[simp] theorem updDark_claimGap (s : State) (f : DarkLatch → DarkLatch) : (s.updDark f).claimGap = s.claimGap := rfl
@[simp] theorem updDark_timeGap (s : State) (f : DarkLatch → DarkLatch) : (s.updDark f).timeGap = s.timeGap := rfl
@[simp] theorem updDark_heard (s : State) (f : DarkLatch → DarkLatch) : (s.updDark f).heard = s.heard := rfl
@[simp] theorem updDark_told (s : State) (f : DarkLatch → DarkLatch) : (s.updDark f).told = s.told := rfl
@[simp] theorem updDark_fmodes (s : State) (f : DarkLatch → DarkLatch) : (s.updDark f).fmodes = s.fmodes := rfl
@[simp] theorem updDark_modesTold (s : State) (f : DarkLatch → DarkLatch) : (s.updDark f).modesTold = s.modesTold := rfl
@[simp] theorem updDark_fintm (s : State) (f : DarkLatch → DarkLatch) : (s.updDark f).fintm = s.fintm := rfl

end Sys2Proof.Machine
end

