-- ==== Sys2Proof/Laws/Settle.lean ====
section
/-! SUPPORT. What the closing part of every meaning (settle) leaves as it was, and what it establishes. -/

namespace Sys2Proof.Machine

/-- A view of State that no element of a list changes is not changed by all of them. -/
theorem foldl_keeps {α β : Type} (g : State → β) (f : State → α → State) (h : ∀ s x, g (f s x) = g s) :
    ∀ (l : List α) (s : State), g (l.foldl f s) = g s
  | [], _ => rfl
  | x :: t, s => by rw [List.foldl_cons, foldl_keeps g f h t, h]

/-! A report. -/

theorem raise_field (s : State) (a d : Nat) (h : srcField a = true) :
    s.raise a d = (if barCarries (s.bdir .fh) then s.barReady .fh .faultReport (.faultReport a d 1 s.fring.toNat false false)
      else { s with backlog := addBacklog a d s.fring.toNat false false s.backlog }) := by
  simp [State.raise, h]

@[simp] theorem raise_now (s : State) (a d : Nat) : (s.raise a d).now = s.now := by
  unfold State.raise; repeat' split
  all_goals rfl
@[simp] theorem raise_freeCtr (s : State) (a d : Nat) : (s.raise a d).freeCtr = s.freeCtr := by
  unfold State.raise; repeat' split
  all_goals rfl
@[simp] theorem raise_pending (s : State) (a d : Nat) : (s.raise a d).pending = s.pending := by
  unfold State.raise; repeat' split
  all_goals rfl
@[simp] theorem raise_regs (s : State) (a d : Nat) : (s.raise a d).regs = s.regs := by
  unfold State.raise; repeat' split
  all_goals rfl
@[simp] theorem raise_mem (s : State) (a d : Nat) : (s.raise a d).mem = s.mem := by
  unfold State.raise; repeat' split
  all_goals rfl
@[simp] theorem raise_marks (s : State) (a d : Nat) : (s.raise a d).marks = s.marks := by
  unfold State.raise; repeat' split
  all_goals rfl
@[simp] theorem raise_start (s : State) (a d : Nat) : (s.raise a d).start = s.start := by
  unfold State.raise; repeat' split
  all_goals rfl
@[simp] theorem raise_paths (s : State) (a d : Nat) : (s.raise a d).paths = s.paths := by
  unfold State.raise; repeat' split
  all_goals rfl
@[simp] theorem raise_margins (s : State) (a d : Nat) : (s.raise a d).margins = s.margins := by
  unfold State.raise; repeat' split
  all_goals rfl
@[simp] theorem raise_links (s : State) (a d : Nat) : (s.raise a d).links = s.links := by
  unfold State.raise; repeat' split
  all_goals rfl
@[simp] theorem raise_cue (s : State) (a d : Nat) : (s.raise a d).cue = s.cue := by
  unfold State.raise; repeat' split
  all_goals rfl
@[simp] theorem raise_time (s : State) (a d : Nat) : (s.raise a d).time = s.time := by
  unfold State.raise; repeat' split
  all_goals rfl
@[simp] theorem raise_pulses (s : State) (a d : Nat) : (s.raise a d).pulses = s.pulses := by
  unfold State.raise; repeat' split
  all_goals rfl
@[simp] theorem raise_edges (s : State) (a d : Nat) : (s.raise a d).edges = s.edges := by
  unfold State.raise; repeat' split
  all_goals rfl
@[simp] theorem raise_sw (s : State) (a d : Nat) : (s.raise a d).sw = s.sw := by
  unfold State.raise; repeat' split
  all_goals rfl
@[simp] theorem raise_streams (s : State) (a d : Nat) : (s.raise a d).streams = s.streams := by
  unfold State.raise; repeat' split
  all_goals rfl
@[simp] theorem raise_fab (s : State) (a d : Nat) : (s.raise a d).fab = s.fab := by
  unfold State.raise; repeat' split
  all_goals rfl
@[simp] theorem raise_brg (s : State) (a d : Nat) : (s.raise a d).brg = s.brg := by
  unfold State.raise; repeat' split
  all_goals rfl
@[simp] theorem raise_clusters (s : State) (a d : Nat) : (s.raise a d).clusters = s.clusters := by
  unfold State.raise; repeat' split
  all_goals rfl
@[simp] theorem raise_pins (s : State) (a d : Nat) : (s.raise a d).pins = s.pins := by
  unfold State.raise; repeat' split
  all_goals rfl
@[simp] theorem raise_cans (s : State) (a d : Nat) : (s.raise a d).cans = s.cans := by
  unfold State.raise; repeat' split
  all_goals rfl
@[simp] theorem raise_snap (s : State) (a d : Nat) : (s.raise a d).snap = s.snap := by
  unfold State.raise; repeat' split
  all_goals rfl
@[simp] theorem raise_store (s : State) (a d : Nat) : (s.raise a d).store = s.store := by
  unfold State.raise; repeat' split
  all_goals rfl
@[simp] theorem raise_lead (s : State) (a d : Nat) : (s.raise a d).lead = s.lead := by
  unfold State.raise; repeat' split
  all_goals rfl
@[simp] theorem raise_dark (s : State) (a d : Nat) : (s.raise a d).dark = s.dark := by
  unfold State.raise; repeat' split
  all_goals rfl
@[simp] theorem raise_fieldInj (s : State) (a d : Nat) : (s.raise a d).fieldInj = s.fieldInj := by
  unfold State.raise; repeat' split
  all_goals rfl
@[simp] theorem raise_power (s : State) (a d : Nat) : (s.raise a d).power = s.power := by
  unfold State.raise; repeat' split
  all_goals rfl
@[simp] theorem raise_host (s : State) (a d : Nat) : (s.raise a d).host = s.host := by
  unfold State.raise; repeat' split
  all_goals rfl
@[simp] theorem raise_dbg (s : State) (a d : Nat) : (s.raise a d).dbg = s.dbg := by
  unfold State.raise; repeat' split
  all_goals rfl
@[simp] theorem raise_cmp (s : State) (a d : Nat) : (s.raise a d).cmp = s.cmp := by
  unfold State.raise; repeat' split
  all_goals rfl
@[simp] theorem raise_traces (s : State) (a d : Nat) : (s.raise a d).traces = s.traces := by
  unfold State.raise; repeat' split
  all_goals rfl
@[simp] theorem raise_claimGap (s : State) (a d : Nat) : (s.raise a d).claimGap = s.claimGap := by
  unfold State.raise; repeat' split
  all_goals rfl
@[simp] theorem raise_timeGap (s : State) (a d : Nat) : (s.raise a d).timeGap = s.timeGap := by
  unfold State.raise; repeat' split
  all_goals rfl
@[simp] theorem raise_heard (s : State) (a d : Nat) : (s.raise a d).heard = s.heard := by
  unfold State.raise; repeat' split
  all_goals rfl
@[simp] theorem raise_fmodes (s : State) (a d : Nat) : (s.raise a d).fmodes = s.fmodes := by
  unfold State.raise; repeat' split
  all_goals rfl
@[simp] theorem raise_fintm (s : State) (a d : Nat) : (s.raise a d).fintm = s.fintm := by
  unfold State.raise; repeat' split
  all_goals rfl
@[simp] theorem raise_modesTold (s : State) (a d : Nat) : (s.raise a d).modesTold = s.modesTold := by
  unfold State.raise; repeat' split
  all_goals rfl
@[simp] theorem raise_told (s : State) (a d : Nat) : (s.raise a d).told = s.told := by
  unfold State.raise; repeat' split
  all_goals rfl

@[simp] theorem settleRange_now (r : Ring) (s : State) : (settleRange r s).now = s.now := by
  unfold settleRange; dsimp only; split <;> simp
@[simp] theorem settleRange_freeCtr (r : Ring) (s : State) : (settleRange r s).freeCtr = s.freeCtr := by
  unfold settleRange; dsimp only; split <;> simp
@[simp] theorem settleRange_pending (r : Ring) (s : State) : (settleRange r s).pending = s.pending := by
  unfold settleRange; dsimp only; split <;> simp
@[simp] theorem settleRange_mem (r : Ring) (s : State) : (settleRange r s).mem = s.mem := by
  unfold settleRange; dsimp only; split <;> simp
@[simp] theorem settleRange_marks (r : Ring) (s : State) : (settleRange r s).marks = s.marks := by
  unfold settleRange; dsimp only; split <;> simp
@[simp] theorem settleRange_start (r : Ring) (s : State) : (settleRange r s).start = s.start := by
  unfold settleRange; dsimp only; split <;> simp
@[simp] theorem settleRange_paths (r : Ring) (s : State) : (settleRange r s).paths = s.paths := by
  unfold settleRange; dsimp only; split <;> simp
@[simp] theorem settleRange_bar (r : Ring) (s : State) : (settleRange r s).bar = s.bar := by
  unfold settleRange; dsimp only; split <;> simp
@[simp] theorem settleRange_margins (r : Ring) (s : State) : (settleRange r s).margins = s.margins := by
  unfold settleRange; dsimp only; split <;> simp
@[simp] theorem settleRange_links (r : Ring) (s : State) : (settleRange r s).links = s.links := by
  unfold settleRange; dsimp only; split <;> simp
@[simp] theorem settleRange_cue (r : Ring) (s : State) : (settleRange r s).cue = s.cue := by
  unfold settleRange; dsimp only; split <;> simp
@[simp] theorem settleRange_pulses (r : Ring) (s : State) : (settleRange r s).pulses = s.pulses := by
  unfold settleRange; dsimp only; split <;> simp
@[simp] theorem settleRange_edges (r : Ring) (s : State) : (settleRange r s).edges = s.edges := by
  unfold settleRange; dsimp only; split <;> simp
@[simp] theorem settleRange_sw (r : Ring) (s : State) : (settleRange r s).sw = s.sw := by
  unfold settleRange; dsimp only; split <;> simp
@[simp] theorem settleRange_streams (r : Ring) (s : State) : (settleRange r s).streams = s.streams := by
  unfold settleRange; dsimp only; split <;> simp
@[simp] theorem settleRange_fab (r : Ring) (s : State) : (settleRange r s).fab = s.fab := by
  unfold settleRange; dsimp only; split <;> simp
@[simp] theorem settleRange_brg (r : Ring) (s : State) : (settleRange r s).brg = s.brg := by
  unfold settleRange; dsimp only; split <;> simp
@[simp] theorem settleRange_clusters (r : Ring) (s : State) : (settleRange r s).clusters = s.clusters := by
  unfold settleRange; dsimp only; split <;> simp
@[simp] theorem settleRange_pins (r : Ring) (s : State) : (settleRange r s).pins = s.pins := by
  unfold settleRange; dsimp only; split <;> simp
@[simp] theorem settleRange_cans (r : Ring) (s : State) : (settleRange r s).cans = s.cans := by
  unfold settleRange; dsimp only; split <;> simp
@[simp] theorem settleRange_snap (r : Ring) (s : State) : (settleRange r s).snap = s.snap := by
  unfold settleRange; dsimp only; split <;> simp
@[simp] theorem settleRange_store (r : Ring) (s : State) : (settleRange r s).store = s.store := by
  unfold settleRange; dsimp only; split <;> simp
@[simp] theorem settleRange_lead (r : Ring) (s : State) : (settleRange r s).lead = s.lead := by
  unfold settleRange; dsimp only; split <;> simp
@[simp] theorem settleRange_flts (r : Ring) (s : State) : (settleRange r s).flts = s.flts := by
  unfold settleRange; dsimp only; split <;> simp
@[simp] theorem settleRange_dark (r : Ring) (s : State) : (settleRange r s).dark = s.dark := by
  unfold settleRange; dsimp only; split <;> simp
@[simp] theorem settleRange_backlog (r : Ring) (s : State) : (settleRange r s).backlog = s.backlog := by
  unfold settleRange; dsimp only; split <;> simp
@[simp] theorem settleRange_fieldInj (r : Ring) (s : State) : (settleRange r s).fieldInj = s.fieldInj := by
  unfold settleRange; dsimp only; split <;> simp
@[simp] theorem settleRange_power (r : Ring) (s : State) : (settleRange r s).power = s.power := by
  unfold settleRange; dsimp only; split <;> simp
@[simp] theorem settleRange_host (r : Ring) (s : State) : (settleRange r s).host = s.host := by
  unfold settleRange; dsimp only; split <;> simp
@[simp] theorem settleRange_dbg (r : Ring) (s : State) : (settleRange r s).dbg = s.dbg := by
  unfold settleRange; dsimp only; split <;> simp
@[simp] theorem settleRange_cmp (r : Ring) (s : State) : (settleRange r s).cmp = s.cmp := by
  unfold settleRange; dsimp only; split <;> simp
@[simp] theorem settleRange_traces (r : Ring) (s : State) : (settleRange r s).traces = s.traces := by
  unfold settleRange; dsimp only; split <;> simp
@[simp] theorem settleRange_claimGap (r : Ring) (s : State) : (settleRange r s).claimGap = s.claimGap := by
  unfold settleRange; dsimp only; split <;> simp
@[simp] theorem settleRange_timeGap (r : Ring) (s : State) : (settleRange r s).timeGap = s.timeGap := by
  unfold settleRange; dsimp only; split <;> simp
@[simp] theorem settleRange_heard (r : Ring) (s : State) : (settleRange r s).heard = s.heard := by
  unfold settleRange; dsimp only; split <;> simp
@[simp] theorem settleRange_fmodes (r : Ring) (s : State) : (settleRange r s).fmodes = s.fmodes := by
  unfold settleRange; dsimp only; split <;> simp
@[simp] theorem settleRange_fintm (r : Ring) (s : State) : (settleRange r s).fintm = s.fintm := by
  unfold settleRange; dsimp only; split <;> simp
@[simp] theorem settleRange_modesTold (r : Ring) (s : State) : (settleRange r s).modesTold = s.modesTold := by
  unfold settleRange; dsimp only; split <;> simp
@[simp] theorem settleRange_told (r : Ring) (s : State) : (settleRange r s).told = s.told := by
  unfold settleRange; dsimp only; split <;> simp

@[simp] theorem settleLock_now (s : State) : (settleLock s).now = s.now := by
  rfl
@[simp] theorem settleLock_freeCtr (s : State) : (settleLock s).freeCtr = s.freeCtr := by
  rfl
@[simp] theorem settleLock_pending (s : State) : (settleLock s).pending = s.pending := by
  rfl
@[simp] theorem settleLock_regs (s : State) : (settleLock s).regs = s.regs := by
  rfl
@[simp] theorem settleLock_mem (s : State) : (settleLock s).mem = s.mem := by
  rfl
@[simp] theorem settleLock_marks (s : State) : (settleLock s).marks = s.marks := by
  rfl
@[simp] theorem settleLock_start (s : State) : (settleLock s).start = s.start := by
  rfl
@[simp] theorem settleLock_paths (s : State) : (settleLock s).paths = s.paths := by
  rfl
@[simp] theorem settleLock_bar (s : State) : (settleLock s).bar = s.bar := by
  rfl
@[simp] theorem settleLock_margins (s : State) : (settleLock s).margins = s.margins := by
  rfl
@[simp] theorem settleLock_links (s : State) : (settleLock s).links = s.links := by
  rfl
@[simp] theorem settleLock_cue (s : State) : (settleLock s).cue = s.cue := by
  rfl
@[simp] theorem settleLock_pulses (s : State) : (settleLock s).pulses = s.pulses := by
  rfl
@[simp] theorem settleLock_edges (s : State) : (settleLock s).edges = s.edges := by
  rfl
@[simp] theorem settleLock_sw (s : State) : (settleLock s).sw = s.sw := by
  rfl
@[simp] theorem settleLock_streams (s : State) : (settleLock s).streams = s.streams := by
  rfl
@[simp] theorem settleLock_fab (s : State) : (settleLock s).fab = s.fab := by
  rfl
@[simp] theorem settleLock_brg (s : State) : (settleLock s).brg = s.brg := by
  rfl
@[simp] theorem settleLock_clusters (s : State) : (settleLock s).clusters = s.clusters := by
  rfl
@[simp] theorem settleLock_pins (s : State) : (settleLock s).pins = s.pins := by
  rfl
@[simp] theorem settleLock_cans (s : State) : (settleLock s).cans = s.cans := by
  rfl
@[simp] theorem settleLock_snap (s : State) : (settleLock s).snap = s.snap := by
  rfl
@[simp] theorem settleLock_store (s : State) : (settleLock s).store = s.store := by
  rfl
@[simp] theorem settleLock_lead (s : State) : (settleLock s).lead = s.lead := by
  rfl
@[simp] theorem settleLock_flts (s : State) : (settleLock s).flts = s.flts := by
  rfl
@[simp] theorem settleLock_dark (s : State) : (settleLock s).dark = s.dark := by
  rfl
@[simp] theorem settleLock_backlog (s : State) : (settleLock s).backlog = s.backlog := by
  rfl
@[simp] theorem settleLock_fieldInj (s : State) : (settleLock s).fieldInj = s.fieldInj := by
  rfl
@[simp] theorem settleLock_power (s : State) : (settleLock s).power = s.power := by
  rfl
@[simp] theorem settleLock_host (s : State) : (settleLock s).host = s.host := by
  rfl
@[simp] theorem settleLock_dbg (s : State) : (settleLock s).dbg = s.dbg := by
  rfl
@[simp] theorem settleLock_cmp (s : State) : (settleLock s).cmp = s.cmp := by
  rfl
@[simp] theorem settleLock_traces (s : State) : (settleLock s).traces = s.traces := by
  rfl
@[simp] theorem settleLock_claimGap (s : State) : (settleLock s).claimGap = s.claimGap := by
  rfl
@[simp] theorem settleLock_timeGap (s : State) : (settleLock s).timeGap = s.timeGap := by
  rfl
@[simp] theorem settleLock_heard (s : State) : (settleLock s).heard = s.heard := by
  rfl
@[simp] theorem settleLock_fmodes (s : State) : (settleLock s).fmodes = s.fmodes := by
  rfl
@[simp] theorem settleLock_fintm (s : State) : (settleLock s).fintm = s.fintm := by
  rfl
@[simp] theorem settleLock_modesTold (s : State) : (settleLock s).modesTold = s.modesTold := by
  rfl
@[simp] theorem settleLock_told (s : State) : (settleLock s).told = s.told := by
  rfl

@[simp] theorem settleHolds_now (s : State) : (settleHolds s).now = s.now := by
  rfl
@[simp] theorem settleHolds_freeCtr (s : State) : (settleHolds s).freeCtr = s.freeCtr := by
  rfl
@[simp] theorem settleHolds_pending (s : State) : (settleHolds s).pending = s.pending := by
  rfl
@[simp] theorem settleHolds_regs (s : State) : (settleHolds s).regs = s.regs := by
  rfl
@[simp] theorem settleHolds_mem (s : State) : (settleHolds s).mem = s.mem := by
  rfl
@[simp] theorem settleHolds_marks (s : State) : (settleHolds s).marks = s.marks := by
  rfl
@[simp] theorem settleHolds_start (s : State) : (settleHolds s).start = s.start := by
  rfl
@[simp] theorem settleHolds_paths (s : State) : (settleHolds s).paths = s.paths := by
  rfl
@[simp] theorem settleHolds_bar (s : State) : (settleHolds s).bar = s.bar := by
  rfl
@[simp] theorem settleHolds_margins (s : State) : (settleHolds s).margins = s.margins := by
  rfl
@[simp] theorem settleHolds_links (s : State) : (settleHolds s).links = s.links := by
  rfl
@[simp] theorem settleHolds_cue (s : State) : (settleHolds s).cue = s.cue := by
  rfl
@[simp] theorem settleHolds_time (s : State) : (settleHolds s).time = s.time := by
  rfl
@[simp] theorem settleHolds_pulses (s : State) : (settleHolds s).pulses = s.pulses := by
  rfl
@[simp] theorem settleHolds_edges (s : State) : (settleHolds s).edges = s.edges := by
  rfl
@[simp] theorem settleHolds_sw (s : State) : (settleHolds s).sw = s.sw := by
  rfl
@[simp] theorem settleHolds_streams (s : State) : (settleHolds s).streams = s.streams := by
  rfl
@[simp] theorem settleHolds_fab (s : State) : (settleHolds s).fab = s.fab := by
  rfl
@[simp] theorem settleHolds_brg (s : State) : (settleHolds s).brg = s.brg := by
  rfl
@[simp] theorem settleHolds_pins (s : State) : (settleHolds s).pins = s.pins := by
  rfl
@[simp] theorem settleHolds_cans (s : State) : (settleHolds s).cans = s.cans := by
  rfl
@[simp] theorem settleHolds_snap (s : State) : (settleHolds s).snap = s.snap := by
  rfl
@[simp] theorem settleHolds_store (s : State) : (settleHolds s).store = s.store := by
  rfl
@[simp] theorem settleHolds_lead (s : State) : (settleHolds s).lead = s.lead := by
  rfl
@[simp] theorem settleHolds_flts (s : State) : (settleHolds s).flts = s.flts := by
  rfl
@[simp] theorem settleHolds_backlog (s : State) : (settleHolds s).backlog = s.backlog := by
  rfl
@[simp] theorem settleHolds_fieldInj (s : State) : (settleHolds s).fieldInj = s.fieldInj := by
  rfl
@[simp] theorem settleHolds_power (s : State) : (settleHolds s).power = s.power := by
  rfl
@[simp] theorem settleHolds_dbg (s : State) : (settleHolds s).dbg = s.dbg := by
  rfl
@[simp] theorem settleHolds_cmp (s : State) : (settleHolds s).cmp = s.cmp := by
  rfl
@[simp] theorem settleHolds_traces (s : State) : (settleHolds s).traces = s.traces := by
  rfl
@[simp] theorem settleHolds_heard (s : State) : (settleHolds s).heard = s.heard := by
  rfl
@[simp] theorem settleHolds_fmodes (s : State) : (settleHolds s).fmodes = s.fmodes := by
  rfl
@[simp] theorem settleHolds_fintm (s : State) : (settleHolds s).fintm = s.fintm := by
  rfl
@[simp] theorem settleHolds_modesTold (s : State) : (settleHolds s).modesTold = s.modesTold := by
  rfl
@[simp] theorem settleHolds_told (s : State) : (settleHolds s).told = s.told := by
  rfl

@[simp] theorem settleFuses_now (s : State) : (settleFuses s).now = s.now := by
  rfl
@[simp] theorem settleFuses_freeCtr (s : State) : (settleFuses s).freeCtr = s.freeCtr := by
  rfl
@[simp] theorem settleFuses_pending (s : State) : (settleFuses s).pending = s.pending := by
  rfl
@[simp] theorem settleFuses_regs (s : State) : (settleFuses s).regs = s.regs := by
  rfl
@[simp] theorem settleFuses_mem (s : State) : (settleFuses s).mem = s.mem := by
  rfl
@[simp] theorem settleFuses_marks (s : State) : (settleFuses s).marks = s.marks := by
  rfl
@[simp] theorem settleFuses_start (s : State) : (settleFuses s).start = s.start := by
  rfl
@[simp] theorem settleFuses_paths (s : State) : (settleFuses s).paths = s.paths := by
  rfl
@[simp] theorem settleFuses_bar (s : State) : (settleFuses s).bar = s.bar := by
  rfl
@[simp] theorem settleFuses_margins (s : State) : (settleFuses s).margins = s.margins := by
  rfl
@[simp] theorem settleFuses_links (s : State) : (settleFuses s).links = s.links := by
  rfl
@[simp] theorem settleFuses_cue (s : State) : (settleFuses s).cue = s.cue := by
  rfl
@[simp] theorem settleFuses_time (s : State) : (settleFuses s).time = s.time := by
  rfl
@[simp] theorem settleFuses_pulses (s : State) : (settleFuses s).pulses = s.pulses := by
  rfl
@[simp] theorem settleFuses_edges (s : State) : (settleFuses s).edges = s.edges := by
  rfl
@[simp] theorem settleFuses_sw (s : State) : (settleFuses s).sw = s.sw := by
  rfl
@[simp] theorem settleFuses_streams (s : State) : (settleFuses s).streams = s.streams := by
  rfl
@[simp] theorem settleFuses_fab (s : State) : (settleFuses s).fab = s.fab := by
  rfl
@[simp] theorem settleFuses_brg (s : State) : (settleFuses s).brg = s.brg := by
  rfl
@[simp] theorem settleFuses_clusters (s : State) : (settleFuses s).clusters = s.clusters := by
  rfl
@[simp] theorem settleFuses_pins (s : State) : (settleFuses s).pins = s.pins := by
  rfl
@[simp] theorem settleFuses_cans (s : State) : (settleFuses s).cans = s.cans := by
  rfl
@[simp] theorem settleFuses_snap (s : State) : (settleFuses s).snap = s.snap := by
  rfl
@[simp] theorem settleFuses_store (s : State) : (settleFuses s).store = s.store := by
  rfl
@[simp] theorem settleFuses_lead (s : State) : (settleFuses s).lead = s.lead := by
  rfl
@[simp] theorem settleFuses_flts (s : State) : (settleFuses s).flts = s.flts := by
  rfl
@[simp] theorem settleFuses_dark (s : State) : (settleFuses s).dark = s.dark := by
  rfl
@[simp] theorem settleFuses_backlog (s : State) : (settleFuses s).backlog = s.backlog := by
  rfl
@[simp] theorem settleFuses_fieldInj (s : State) : (settleFuses s).fieldInj = s.fieldInj := by
  rfl
@[simp] theorem settleFuses_host (s : State) : (settleFuses s).host = s.host := by
  rfl
@[simp] theorem settleFuses_dbg (s : State) : (settleFuses s).dbg = s.dbg := by
  rfl
@[simp] theorem settleFuses_cmp (s : State) : (settleFuses s).cmp = s.cmp := by
  rfl
@[simp] theorem settleFuses_traces (s : State) : (settleFuses s).traces = s.traces := by
  rfl
@[simp] theorem settleFuses_claimGap (s : State) : (settleFuses s).claimGap = s.claimGap := by
  rfl
@[simp] theorem settleFuses_timeGap (s : State) : (settleFuses s).timeGap = s.timeGap := by
  rfl
@[simp] theorem settleFuses_heard (s : State) : (settleFuses s).heard = s.heard := by
  rfl
@[simp] theorem settleFuses_fmodes (s : State) : (settleFuses s).fmodes = s.fmodes := by
  rfl
@[simp] theorem settleFuses_fintm (s : State) : (settleFuses s).fintm = s.fintm := by
  rfl
@[simp] theorem settleFuses_modesTold (s : State) : (settleFuses s).modesTold = s.modesTold := by
  rfl
@[simp] theorem settleFuses_told (s : State) : (settleFuses s).told = s.told := by
  rfl

@[simp] theorem settleBypass_now (s : State) : (settleBypass s).now = s.now := by
  rfl
@[simp] theorem settleBypass_freeCtr (s : State) : (settleBypass s).freeCtr = s.freeCtr := by
  rfl
@[simp] theorem settleBypass_pending (s : State) : (settleBypass s).pending = s.pending := by
  rfl
@[simp] theorem settleBypass_regs (s : State) : (settleBypass s).regs = s.regs := by
  rfl
@[simp] theorem settleBypass_mem (s : State) : (settleBypass s).mem = s.mem := by
  rfl
@[simp] theorem settleBypass_marks (s : State) : (settleBypass s).marks = s.marks := by
  rfl
@[simp] theorem settleBypass_paths (s : State) : (settleBypass s).paths = s.paths := by
  rfl
@[simp] theorem settleBypass_bar (s : State) : (settleBypass s).bar = s.bar := by
  rfl
@[simp] theorem settleBypass_margins (s : State) : (settleBypass s).margins = s.margins := by
  rfl
@[simp] theorem settleBypass_links (s : State) : (settleBypass s).links = s.links := by
  rfl
@[simp] theorem settleBypass_cue (s : State) : (settleBypass s).cue = s.cue := by
  rfl
@[simp] theorem settleBypass_time (s : State) : (settleBypass s).time = s.time := by
  rfl
@[simp] theorem settleBypass_pulses (s : State) : (settleBypass s).pulses = s.pulses := by
  rfl
@[simp] theorem settleBypass_edges (s : State) : (settleBypass s).edges = s.edges := by
  rfl
@[simp] theorem settleBypass_sw (s : State) : (settleBypass s).sw = s.sw := by
  rfl
@[simp] theorem settleBypass_streams (s : State) : (settleBypass s).streams = s.streams := by
  rfl
@[simp] theorem settleBypass_fab (s : State) : (settleBypass s).fab = s.fab := by
  rfl
@[simp] theorem settleBypass_brg (s : State) : (settleBypass s).brg = s.brg := by
  rfl
@[simp] theorem settleBypass_clusters (s : State) : (settleBypass s).clusters = s.clusters := by
  rfl
@[simp] theorem settleBypass_pins (s : State) : (settleBypass s).pins = s.pins := by
  rfl
@[simp] theorem settleBypass_cans (s : State) : (settleBypass s).cans = s.cans := by
  rfl
@[simp] theorem settleBypass_snap (s : State) : (settleBypass s).snap = s.snap := by
  rfl
@[simp] theorem settleBypass_store (s : State) : (settleBypass s).store = s.store := by
  rfl
@[simp] theorem settleBypass_lead (s : State) : (settleBypass s).lead = s.lead := by
  rfl
@[simp] theorem settleBypass_flts (s : State) : (settleBypass s).flts = s.flts := by
  rfl
@[simp] theorem settleBypass_dark (s : State) : (settleBypass s).dark = s.dark := by
  rfl
@[simp] theorem settleBypass_backlog (s : State) : (settleBypass s).backlog = s.backlog := by
  rfl
@[simp] theorem settleBypass_fieldInj (s : State) : (settleBypass s).fieldInj = s.fieldInj := by
  rfl
@[simp] theorem settleBypass_power (s : State) : (settleBypass s).power = s.power := by
  rfl
@[simp] theorem settleBypass_host (s : State) : (settleBypass s).host = s.host := by
  rfl
@[simp] theorem settleBypass_dbg (s : State) : (settleBypass s).dbg = s.dbg := by
  rfl
@[simp] theorem settleBypass_cmp (s : State) : (settleBypass s).cmp = s.cmp := by
  rfl
@[simp] theorem settleBypass_traces (s : State) : (settleBypass s).traces = s.traces := by
  rfl
@[simp] theorem settleBypass_claimGap (s : State) : (settleBypass s).claimGap = s.claimGap := by
  rfl
@[simp] theorem settleBypass_timeGap (s : State) : (settleBypass s).timeGap = s.timeGap := by
  rfl
@[simp] theorem settleBypass_heard (s : State) : (settleBypass s).heard = s.heard := by
  rfl
@[simp] theorem settleBypass_fmodes (s : State) : (settleBypass s).fmodes = s.fmodes := by
  rfl
@[simp] theorem settleBypass_fintm (s : State) : (settleBypass s).fintm = s.fintm := by
  rfl
@[simp] theorem settleBypass_modesTold (s : State) : (settleBypass s).modesTold = s.modesTold := by
  rfl
@[simp] theorem settleBypass_told (s : State) : (settleBypass s).told = s.told := by
  rfl

@[simp] theorem gapEvents_now (x y : State) (b : Fin 3) (s : State) : (gapEvents x y b s).now = s.now := by
  unfold gapEvents; dsimp only; repeat' split
  all_goals simp
@[simp] theorem gapEvents_freeCtr (x y : State) (b : Fin 3) (s : State) : (gapEvents x y b s).freeCtr = s.freeCtr := by
  unfold gapEvents; dsimp only; repeat' split
  all_goals simp
@[simp] theorem gapEvents_pending (x y : State) (b : Fin 3) (s : State) : (gapEvents x y b s).pending = s.pending := by
  unfold gapEvents; dsimp only; repeat' split
  all_goals simp
@[simp] theorem gapEvents_mem (x y : State) (b : Fin 3) (s : State) : (gapEvents x y b s).mem = s.mem := by
  unfold gapEvents; dsimp only; repeat' split
  all_goals simp
@[simp] theorem gapEvents_marks (x y : State) (b : Fin 3) (s : State) : (gapEvents x y b s).marks = s.marks := by
  unfold gapEvents; dsimp only; repeat' split
  all_goals simp
@[simp] theorem gapEvents_start (x y : State) (b : Fin 3) (s : State) : (gapEvents x y b s).start = s.start := by
  unfold gapEvents; dsimp only; repeat' split
  all_goals simp
@[simp] theorem gapEvents_paths (x y : State) (b : Fin 3) (s : State) : (gapEvents x y b s).paths = s.paths := by
  unfold gapEvents; dsimp only; repeat' split
  all_goals simp
@[simp] theorem gapEvents_bar (x y : State) (b : Fin 3) (s : State) : (gapEvents x y b s).bar = s.bar := by
  unfold gapEvents; dsimp only; repeat' split
  all_goals simp
@[simp] theorem gapEvents_margins (x y : State) (b : Fin 3) (s : State) : (gapEvents x y b s).margins = s.margins := by
  unfold gapEvents; dsimp only; repeat' split
  all_goals simp
@[simp] theorem gapEvents_links (x y : State) (b : Fin 3) (s : State) : (gapEvents x y b s).links = s.links := by
  unfold gapEvents; dsimp only; repeat' split
  all_goals simp
@[simp] theorem gapEvents_cue (x y : State) (b : Fin 3) (s : State) : (gapEvents x y b s).cue = s.cue := by
  unfold gapEvents; dsimp only; repeat' split
  all_goals simp
@[simp] theorem gapEvents_time (x y : State) (b : Fin 3) (s : State) : (gapEvents x y b s).time = s.time := by
  unfold gapEvents; dsimp only; repeat' split
  all_goals simp
@[simp] theorem gapEvents_pulses (x y : State) (b : Fin 3) (s : State) : (gapEvents x y b s).pulses = s.pulses := by
  unfold gapEvents; dsimp only; repeat' split
  all_goals simp
@[simp] theorem gapEvents_edges (x y : State) (b : Fin 3) (s : State) : (gapEvents x y b s).edges = s.edges := by
  unfold gapEvents; dsimp only; repeat' split
  all_goals simp
@[simp] theorem gapEvents_sw (x y : State) (b : Fin 3) (s : State) : (gapEvents x y b s).sw = s.sw := by
  unfold gapEvents; dsimp only; repeat' split
  all_goals simp
@[simp] theorem gapEvents_streams (x y : State) (b : Fin 3) (s : State) : (gapEvents x y b s).streams = s.streams := by
  unfold gapEvents; dsimp only; repeat' split
  all_goals simp
@[simp] theorem gapEvents_fab (x y : State) (b : Fin 3) (s : State) : (gapEvents x y b s).fab = s.fab := by
  unfold gapEvents; dsimp only; repeat' split
  all_goals simp
@[simp] theorem gapEvents_brg (x y : State) (b : Fin 3) (s : State) : (gapEvents x y b s).brg = s.brg := by
  unfold gapEvents; dsimp only; repeat' split
  all_goals simp
@[simp] theorem gapEvents_clusters (x y : State) (b : Fin 3) (s : State) : (gapEvents x y b s).clusters = s.clusters := by
  unfold gapEvents; dsimp only; repeat' split
  all_goals simp
@[simp] theorem gapEvents_pins (x y : State) (b : Fin 3) (s : State) : (gapEvents x y b s).pins = s.pins := by
  unfold gapEvents; dsimp only; repeat' split
  all_goals simp
@[simp] theorem gapEvents_cans (x y : State) (b : Fin 3) (s : State) : (gapEvents x y b s).cans = s.cans := by
  unfold gapEvents; dsimp only; repeat' split
  all_goals simp
@[simp] theorem gapEvents_snap (x y : State) (b : Fin 3) (s : State) : (gapEvents x y b s).snap = s.snap := by
  unfold gapEvents; dsimp only; repeat' split
  all_goals simp
@[simp] theorem gapEvents_store (x y : State) (b : Fin 3) (s : State) : (gapEvents x y b s).store = s.store := by
  unfold gapEvents; dsimp only; repeat' split
  all_goals simp
@[simp] theorem gapEvents_lead (x y : State) (b : Fin 3) (s : State) : (gapEvents x y b s).lead = s.lead := by
  unfold gapEvents; dsimp only; repeat' split
  all_goals simp
@[simp] theorem gapEvents_flts (x y : State) (b : Fin 3) (s : State) : (gapEvents x y b s).flts = s.flts := by
  unfold gapEvents; dsimp only; repeat' split
  all_goals simp
@[simp] theorem gapEvents_dark (x y : State) (b : Fin 3) (s : State) : (gapEvents x y b s).dark = s.dark := by
  unfold gapEvents; dsimp only; repeat' split
  all_goals simp
@[simp] theorem gapEvents_backlog (x y : State) (b : Fin 3) (s : State) : (gapEvents x y b s).backlog = s.backlog := by
  unfold gapEvents; dsimp only; repeat' split
  all_goals simp
@[simp] theorem gapEvents_fieldInj (x y : State) (b : Fin 3) (s : State) : (gapEvents x y b s).fieldInj = s.fieldInj := by
  unfold gapEvents; dsimp only; repeat' split
  all_goals simp
@[simp] theorem gapEvents_power (x y : State) (b : Fin 3) (s : State) : (gapEvents x y b s).power = s.power := by
  unfold gapEvents; dsimp only; repeat' split
  all_goals simp
@[simp] theorem gapEvents_host (x y : State) (b : Fin 3) (s : State) : (gapEvents x y b s).host = s.host := by
  unfold gapEvents; dsimp only; repeat' split
  all_goals simp
@[simp] theorem gapEvents_dbg (x y : State) (b : Fin 3) (s : State) : (gapEvents x y b s).dbg = s.dbg := by
  unfold gapEvents; dsimp only; repeat' split
  all_goals simp
@[simp] theorem gapEvents_cmp (x y : State) (b : Fin 3) (s : State) : (gapEvents x y b s).cmp = s.cmp := by
  unfold gapEvents; dsimp only; repeat' split
  all_goals simp
@[simp] theorem gapEvents_traces (x y : State) (b : Fin 3) (s : State) : (gapEvents x y b s).traces = s.traces := by
  unfold gapEvents; dsimp only; repeat' split
  all_goals simp
@[simp] theorem gapEvents_claimGap (x y : State) (b : Fin 3) (s : State) : (gapEvents x y b s).claimGap = s.claimGap := by
  unfold gapEvents; dsimp only; repeat' split
  all_goals simp
@[simp] theorem gapEvents_timeGap (x y : State) (b : Fin 3) (s : State) : (gapEvents x y b s).timeGap = s.timeGap := by
  unfold gapEvents; dsimp only; repeat' split
  all_goals simp
@[simp] theorem gapEvents_heard (x y : State) (b : Fin 3) (s : State) : (gapEvents x y b s).heard = s.heard := by
  unfold gapEvents; dsimp only; repeat' split
  all_goals simp
@[simp] theorem gapEvents_fmodes (x y : State) (b : Fin 3) (s : State) : (gapEvents x y b s).fmodes = s.fmodes := by
  unfold gapEvents; dsimp only; repeat' split
  all_goals simp
@[simp] theorem gapEvents_fintm (x y : State) (b : Fin 3) (s : State) : (gapEvents x y b s).fintm = s.fintm := by
  unfold gapEvents; dsimp only; repeat' split
  all_goals simp
@[simp] theorem gapEvents_modesTold (x y : State) (b : Fin 3) (s : State) : (gapEvents x y b s).modesTold = s.modesTold := by
  unfold gapEvents; dsimp only; repeat' split
  all_goals simp
@[simp] theorem gapEvents_told (x y : State) (b : Fin 3) (s : State) : (gapEvents x y b s).told = s.told := by
  unfold gapEvents; dsimp only; repeat' split
  all_goals simp

@[simp] theorem settlePins_now (s : State) : (settlePins s).now = s.now := by
  simp [settlePins]
@[simp] theorem settlePins_freeCtr (s : State) : (settlePins s).freeCtr = s.freeCtr := by
  simp [settlePins]
@[simp] theorem settlePins_pending (s : State) : (settlePins s).pending = s.pending := by
  simp [settlePins]
@[simp] theorem settlePins_mem (s : State) : (settlePins s).mem = s.mem := by
  simp [settlePins]
@[simp] theorem settlePins_marks (s : State) : (settlePins s).marks = s.marks := by
  simp [settlePins]
@[simp] theorem settlePins_start (s : State) : (settlePins s).start = s.start := by
  simp [settlePins]
@[simp] theorem settlePins_paths (s : State) : (settlePins s).paths = s.paths := by
  simp [settlePins]
@[simp] theorem settlePins_bar (s : State) : (settlePins s).bar = s.bar := by
  simp [settlePins]
@[simp] theorem settlePins_margins (s : State) : (settlePins s).margins = s.margins := by
  simp [settlePins]
@[simp] theorem settlePins_links (s : State) : (settlePins s).links = s.links := by
  simp [settlePins]
@[simp] theorem settlePins_cue (s : State) : (settlePins s).cue = s.cue := by
  simp [settlePins]
@[simp] theorem settlePins_time (s : State) : (settlePins s).time = s.time := by
  simp [settlePins]
@[simp] theorem settlePins_pulses (s : State) : (settlePins s).pulses = s.pulses := by
  simp [settlePins]
@[simp] theorem settlePins_edges (s : State) : (settlePins s).edges = s.edges := by
  simp [settlePins]
@[simp] theorem settlePins_sw (s : State) : (settlePins s).sw = s.sw := by
  simp [settlePins]
@[simp] theorem settlePins_streams (s : State) : (settlePins s).streams = s.streams := by
  simp [settlePins]
@[simp] theorem settlePins_fab (s : State) : (settlePins s).fab = s.fab := by
  simp [settlePins]
@[simp] theorem settlePins_brg (s : State) : (settlePins s).brg = s.brg := by
  simp [settlePins]
@[simp] theorem settlePins_clusters (s : State) : (settlePins s).clusters = s.clusters := by
  simp [settlePins]
@[simp] theorem settlePins_cans (s : State) : (settlePins s).cans = s.cans := by
  simp [settlePins]
@[simp] theorem settlePins_snap (s : State) : (settlePins s).snap = s.snap := by
  simp [settlePins]
@[simp] theorem settlePins_store (s : State) : (settlePins s).store = s.store := by
  simp [settlePins]
@[simp] theorem settlePins_lead (s : State) : (settlePins s).lead = s.lead := by
  simp [settlePins]
@[simp] theorem settlePins_flts (s : State) : (settlePins s).flts = s.flts := by
  simp [settlePins]
@[simp] theorem settlePins_dark (s : State) : (settlePins s).dark = s.dark := by
  simp [settlePins]
@[simp] theorem settlePins_backlog (s : State) : (settlePins s).backlog = s.backlog := by
  simp [settlePins]
@[simp] theorem settlePins_fieldInj (s : State) : (settlePins s).fieldInj = s.fieldInj := by
  simp [settlePins]
@[simp] theorem settlePins_power (s : State) : (settlePins s).power = s.power := by
  simp [settlePins]
@[simp] theorem settlePins_host (s : State) : (settlePins s).host = s.host := by
  simp [settlePins]
@[simp] theorem settlePins_dbg (s : State) : (settlePins s).dbg = s.dbg := by
  simp [settlePins]
@[simp] theorem settlePins_cmp (s : State) : (settlePins s).cmp = s.cmp := by
  simp [settlePins]
@[simp] theorem settlePins_traces (s : State) : (settlePins s).traces = s.traces := by
  simp [settlePins]
@[simp] theorem settlePins_claimGap (s : State) : (settlePins s).claimGap = s.claimGap := by
  simp [settlePins]
@[simp] theorem settlePins_timeGap (s : State) : (settlePins s).timeGap = s.timeGap := by
  simp [settlePins]
@[simp] theorem settlePins_heard (s : State) : (settlePins s).heard = s.heard := by
  simp [settlePins]
@[simp] theorem settlePins_fmodes (s : State) : (settlePins s).fmodes = s.fmodes := by
  simp [settlePins]
@[simp] theorem settlePins_fintm (s : State) : (settlePins s).fintm = s.fintm := by
  simp [settlePins]
@[simp] theorem settlePins_modesTold (s : State) : (settlePins s).modesTold = s.modesTold := by
  simp [settlePins]
@[simp] theorem settlePins_told (s : State) : (settlePins s).told = s.told := by
  simp [settlePins]

@[simp] theorem settleCan_now (s : State) (c : Fin 4) : (settleCan s c).now = s.now := by
  unfold settleCan; dsimp only; repeat' split
  all_goals simp
@[simp] theorem settleCan_freeCtr (s : State) (c : Fin 4) : (settleCan s c).freeCtr = s.freeCtr := by
  unfold settleCan; dsimp only; repeat' split
  all_goals simp
@[simp] theorem settleCan_pending (s : State) (c : Fin 4) : (settleCan s c).pending = s.pending := by
  unfold settleCan; dsimp only; repeat' split
  all_goals simp
@[simp] theorem settleCan_mem (s : State) (c : Fin 4) : (settleCan s c).mem = s.mem := by
  unfold settleCan; dsimp only; repeat' split
  all_goals simp
@[simp] theorem settleCan_marks (s : State) (c : Fin 4) : (settleCan s c).marks = s.marks := by
  unfold settleCan; dsimp only; repeat' split
  all_goals simp
@[simp] theorem settleCan_start (s : State) (c : Fin 4) : (settleCan s c).start = s.start := by
  unfold settleCan; dsimp only; repeat' split
  all_goals simp
@[simp] theorem settleCan_paths (s : State) (c : Fin 4) : (settleCan s c).paths = s.paths := by
  unfold settleCan; dsimp only; repeat' split
  all_goals simp
@[simp] theorem settleCan_margins (s : State) (c : Fin 4) : (settleCan s c).margins = s.margins := by
  unfold settleCan; dsimp only; repeat' split
  all_goals simp
@[simp] theorem settleCan_links (s : State) (c : Fin 4) : (settleCan s c).links = s.links := by
  unfold settleCan; dsimp only; repeat' split
  all_goals simp
@[simp] theorem settleCan_cue (s : State) (c : Fin 4) : (settleCan s c).cue = s.cue := by
  unfold settleCan; dsimp only; repeat' split
  all_goals simp
@[simp] theorem settleCan_time (s : State) (c : Fin 4) : (settleCan s c).time = s.time := by
  unfold settleCan; dsimp only; repeat' split
  all_goals simp
@[simp] theorem settleCan_pulses (s : State) (c : Fin 4) : (settleCan s c).pulses = s.pulses := by
  unfold settleCan; dsimp only; repeat' split
  all_goals simp
@[simp] theorem settleCan_edges (s : State) (c : Fin 4) : (settleCan s c).edges = s.edges := by
  unfold settleCan; dsimp only; repeat' split
  all_goals simp
@[simp] theorem settleCan_sw (s : State) (c : Fin 4) : (settleCan s c).sw = s.sw := by
  unfold settleCan; dsimp only; repeat' split
  all_goals simp
@[simp] theorem settleCan_streams (s : State) (c : Fin 4) : (settleCan s c).streams = s.streams := by
  unfold settleCan; dsimp only; repeat' split
  all_goals simp
@[simp] theorem settleCan_fab (s : State) (c : Fin 4) : (settleCan s c).fab = s.fab := by
  unfold settleCan; dsimp only; repeat' split
  all_goals simp
@[simp] theorem settleCan_brg (s : State) (c : Fin 4) : (settleCan s c).brg = s.brg := by
  unfold settleCan; dsimp only; repeat' split
  all_goals simp
@[simp] theorem settleCan_clusters (s : State) (c : Fin 4) : (settleCan s c).clusters = s.clusters := by
  unfold settleCan; dsimp only; repeat' split
  all_goals simp
@[simp] theorem settleCan_pins (s : State) (c : Fin 4) : (settleCan s c).pins = s.pins := by
  unfold settleCan; dsimp only; repeat' split
  all_goals simp
@[simp] theorem settleCan_snap (s : State) (c : Fin 4) : (settleCan s c).snap = s.snap := by
  unfold settleCan; dsimp only; repeat' split
  all_goals simp
@[simp] theorem settleCan_store (s : State) (c : Fin 4) : (settleCan s c).store = s.store := by
  unfold settleCan; dsimp only; repeat' split
  all_goals simp
@[simp] theorem settleCan_lead (s : State) (c : Fin 4) : (settleCan s c).lead = s.lead := by
  unfold settleCan; dsimp only; repeat' split
  all_goals simp
@[simp] theorem settleCan_dark (s : State) (c : Fin 4) : (settleCan s c).dark = s.dark := by
  unfold settleCan; dsimp only; repeat' split
  all_goals simp
@[simp] theorem settleCan_fieldInj (s : State) (c : Fin 4) : (settleCan s c).fieldInj = s.fieldInj := by
  unfold settleCan; dsimp only; repeat' split
  all_goals simp
@[simp] theorem settleCan_power (s : State) (c : Fin 4) : (settleCan s c).power = s.power := by
  unfold settleCan; dsimp only; repeat' split
  all_goals simp
@[simp] theorem settleCan_host (s : State) (c : Fin 4) : (settleCan s c).host = s.host := by
  unfold settleCan; dsimp only; repeat' split
  all_goals simp
@[simp] theorem settleCan_dbg (s : State) (c : Fin 4) : (settleCan s c).dbg = s.dbg := by
  unfold settleCan; dsimp only; repeat' split
  all_goals simp
@[simp] theorem settleCan_cmp (s : State) (c : Fin 4) : (settleCan s c).cmp = s.cmp := by
  unfold settleCan; dsimp only; repeat' split
  all_goals simp
@[simp] theorem settleCan_traces (s : State) (c : Fin 4) : (settleCan s c).traces = s.traces := by
  unfold settleCan; dsimp only; repeat' split
  all_goals simp
@[simp] theorem settleCan_claimGap (s : State) (c : Fin 4) : (settleCan s c).claimGap = s.claimGap := by
  unfold settleCan; dsimp only; repeat' split
  all_goals simp
@[simp] theorem settleCan_timeGap (s : State) (c : Fin 4) : (settleCan s c).timeGap = s.timeGap := by
  unfold settleCan; dsimp only; repeat' split
  all_goals simp
@[simp] theorem settleCan_heard (s : State) (c : Fin 4) : (settleCan s c).heard = s.heard := by
  unfold settleCan; dsimp only; repeat' split
  all_goals simp
@[simp] theorem settleCan_fmodes (s : State) (c : Fin 4) : (settleCan s c).fmodes = s.fmodes := by
  unfold settleCan; dsimp only; repeat' split
  all_goals simp
@[simp] theorem settleCan_fintm (s : State) (c : Fin 4) : (settleCan s c).fintm = s.fintm := by
  unfold settleCan; dsimp only; repeat' split
  all_goals simp
@[simp] theorem settleCan_modesTold (s : State) (c : Fin 4) : (settleCan s c).modesTold = s.modesTold := by
  unfold settleCan; dsimp only; repeat' split
  all_goals simp
@[simp] theorem settleCan_told (s : State) (c : Fin 4) : (settleCan s c).told = s.told := by
  unfold settleCan; dsimp only; repeat' split
  all_goals simp

@[simp] theorem settleSignals_now (s : State) : (settleSignals s).now = s.now := by
  unfold settleSignals; dsimp only; split <;> simp
@[simp] theorem settleSignals_freeCtr (s : State) : (settleSignals s).freeCtr = s.freeCtr := by
  unfold settleSignals; dsimp only; split <;> simp
@[simp] theorem settleSignals_pending (s : State) : (settleSignals s).pending = s.pending := by
  unfold settleSignals; dsimp only; split <;> simp
@[simp] theorem settleSignals_regs (s : State) : (settleSignals s).regs = s.regs := by
  unfold settleSignals; dsimp only; split <;> simp
@[simp] theorem settleSignals_mem (s : State) : (settleSignals s).mem = s.mem := by
  unfold settleSignals; dsimp only; split <;> simp
@[simp] theorem settleSignals_marks (s : State) : (settleSignals s).marks = s.marks := by
  unfold settleSignals; dsimp only; split <;> simp
@[simp] theorem settleSignals_start (s : State) : (settleSignals s).start = s.start := by
  unfold settleSignals; dsimp only; split <;> simp
@[simp] theorem settleSignals_paths (s : State) : (settleSignals s).paths = s.paths := by
  unfold settleSignals; dsimp only; split <;> simp
@[simp] theorem settleSignals_margins (s : State) : (settleSignals s).margins = s.margins := by
  unfold settleSignals; dsimp only; split <;> simp
@[simp] theorem settleSignals_links (s : State) : (settleSignals s).links = s.links := by
  unfold settleSignals; dsimp only; split <;> simp
@[simp] theorem settleSignals_cue (s : State) : (settleSignals s).cue = s.cue := by
  unfold settleSignals; dsimp only; split <;> simp
@[simp] theorem settleSignals_time (s : State) : (settleSignals s).time = s.time := by
  unfold settleSignals; dsimp only; split <;> simp
@[simp] theorem settleSignals_pulses (s : State) : (settleSignals s).pulses = s.pulses := by
  unfold settleSignals; dsimp only; split <;> simp
@[simp] theorem settleSignals_edges (s : State) : (settleSignals s).edges = s.edges := by
  unfold settleSignals; dsimp only; split <;> simp
@[simp] theorem settleSignals_sw (s : State) : (settleSignals s).sw = s.sw := by
  unfold settleSignals; dsimp only; split <;> simp
@[simp] theorem settleSignals_streams (s : State) : (settleSignals s).streams = s.streams := by
  unfold settleSignals; dsimp only; split <;> simp
@[simp] theorem settleSignals_fab (s : State) : (settleSignals s).fab = s.fab := by
  unfold settleSignals; dsimp only; split <;> simp
@[simp] theorem settleSignals_brg (s : State) : (settleSignals s).brg = s.brg := by
  unfold settleSignals; dsimp only; split <;> simp
@[simp] theorem settleSignals_clusters (s : State) : (settleSignals s).clusters = s.clusters := by
  unfold settleSignals; dsimp only; split <;> simp
@[simp] theorem settleSignals_pins (s : State) : (settleSignals s).pins = s.pins := by
  unfold settleSignals; dsimp only; split <;> simp
@[simp] theorem settleSignals_cans (s : State) : (settleSignals s).cans = s.cans := by
  unfold settleSignals; dsimp only; split <;> simp
@[simp] theorem settleSignals_snap (s : State) : (settleSignals s).snap = s.snap := by
  unfold settleSignals; dsimp only; split <;> simp
@[simp] theorem settleSignals_store (s : State) : (settleSignals s).store = s.store := by
  unfold settleSignals; dsimp only; split <;> simp
@[simp] theorem settleSignals_lead (s : State) : (settleSignals s).lead = s.lead := by
  unfold settleSignals; dsimp only; split <;> simp
@[simp] theorem settleSignals_flts (s : State) : (settleSignals s).flts = s.flts := by
  unfold settleSignals; dsimp only; split <;> simp
@[simp] theorem settleSignals_dark (s : State) : (settleSignals s).dark = s.dark := by
  unfold settleSignals; dsimp only; split <;> simp
@[simp] theorem settleSignals_backlog (s : State) : (settleSignals s).backlog = s.backlog := by
  unfold settleSignals; dsimp only; split <;> simp
@[simp] theorem settleSignals_fieldInj (s : State) : (settleSignals s).fieldInj = s.fieldInj := by
  unfold settleSignals; dsimp only; split <;> simp
@[simp] theorem settleSignals_power (s : State) : (settleSignals s).power = s.power := by
  unfold settleSignals; dsimp only; split <;> simp
@[simp] theorem settleSignals_host (s : State) : (settleSignals s).host = s.host := by
  unfold settleSignals; dsimp only; split <;> simp
@[simp] theorem settleSignals_dbg (s : State) : (settleSignals s).dbg = s.dbg := by
  unfold settleSignals; dsimp only; split <;> simp
@[simp] theorem settleSignals_cmp (s : State) : (settleSignals s).cmp = s.cmp := by
  unfold settleSignals; dsimp only; split <;> simp
@[simp] theorem settleSignals_traces (s : State) : (settleSignals s).traces = s.traces := by
  unfold settleSignals; dsimp only; split <;> simp
@[simp] theorem settleSignals_claimGap (s : State) : (settleSignals s).claimGap = s.claimGap := by
  unfold settleSignals; dsimp only; split <;> simp
@[simp] theorem settleSignals_timeGap (s : State) : (settleSignals s).timeGap = s.timeGap := by
  unfold settleSignals; dsimp only; split <;> simp
@[simp] theorem settleSignals_heard (s : State) : (settleSignals s).heard = s.heard := by
  unfold settleSignals; dsimp only; split <;> simp
@[simp] theorem settleSignals_fmodes (s : State) : (settleSignals s).fmodes = s.fmodes := by
  unfold settleSignals; dsimp only; split <;> simp
@[simp] theorem settleSignals_fintm (s : State) : (settleSignals s).fintm = s.fintm := by
  unfold settleSignals; dsimp only; split <;> simp
@[simp] theorem settleSignals_modesTold (s : State) : (settleSignals s).modesTold = s.modesTold := by
  unfold settleSignals; dsimp only; split <;> simp

@[simp] theorem settleModes_now (s : State) : (settleModes s).now = s.now := by
  unfold settleModes; dsimp only; split <;> simp
@[simp] theorem settleModes_freeCtr (s : State) : (settleModes s).freeCtr = s.freeCtr := by
  unfold settleModes; dsimp only; split <;> simp
@[simp] theorem settleModes_pending (s : State) : (settleModes s).pending = s.pending := by
  unfold settleModes; dsimp only; split <;> simp
@[simp] theorem settleModes_regs (s : State) : (settleModes s).regs = s.regs := by
  unfold settleModes; dsimp only; split <;> simp
@[simp] theorem settleModes_mem (s : State) : (settleModes s).mem = s.mem := by
  unfold settleModes; dsimp only; split <;> simp
@[simp] theorem settleModes_marks (s : State) : (settleModes s).marks = s.marks := by
  unfold settleModes; dsimp only; split <;> simp
@[simp] theorem settleModes_start (s : State) : (settleModes s).start = s.start := by
  unfold settleModes; dsimp only; split <;> simp
@[simp] theorem settleModes_paths (s : State) : (settleModes s).paths = s.paths := by
  unfold settleModes; dsimp only; split <;> simp
@[simp] theorem settleModes_margins (s : State) : (settleModes s).margins = s.margins := by
  unfold settleModes; dsimp only; split <;> simp
@[simp] theorem settleModes_links (s : State) : (settleModes s).links = s.links := by
  unfold settleModes; dsimp only; split <;> simp
@[simp] theorem settleModes_cue (s : State) : (settleModes s).cue = s.cue := by
  unfold settleModes; dsimp only; split <;> simp
@[simp] theorem settleModes_time (s : State) : (settleModes s).time = s.time := by
  unfold settleModes; dsimp only; split <;> simp
@[simp] theorem settleModes_pulses (s : State) : (settleModes s).pulses = s.pulses := by
  unfold settleModes; dsimp only; split <;> simp
@[simp] theorem settleModes_edges (s : State) : (settleModes s).edges = s.edges := by
  unfold settleModes; dsimp only; split <;> simp
@[simp] theorem settleModes_sw (s : State) : (settleModes s).sw = s.sw := by
  unfold settleModes; dsimp only; split <;> simp
@[simp] theorem settleModes_streams (s : State) : (settleModes s).streams = s.streams := by
  unfold settleModes; dsimp only; split <;> simp
@[simp] theorem settleModes_fab (s : State) : (settleModes s).fab = s.fab := by
  unfold settleModes; dsimp only; split <;> simp
@[simp] theorem settleModes_brg (s : State) : (settleModes s).brg = s.brg := by
  unfold settleModes; dsimp only; split <;> simp
@[simp] theorem settleModes_clusters (s : State) : (settleModes s).clusters = s.clusters := by
  unfold settleModes; dsimp only; split <;> simp
@[simp] theorem settleModes_pins (s : State) : (settleModes s).pins = s.pins := by
  unfold settleModes; dsimp only; split <;> simp
@[simp] theorem settleModes_cans (s : State) : (settleModes s).cans = s.cans := by
  unfold settleModes; dsimp only; split <;> simp
@[simp] theorem settleModes_snap (s : State) : (settleModes s).snap = s.snap := by
  unfold settleModes; dsimp only; split <;> simp
@[simp] theorem settleModes_store (s : State) : (settleModes s).store = s.store := by
  unfold settleModes; dsimp only; split <;> simp
@[simp] theorem settleModes_lead (s : State) : (settleModes s).lead = s.lead := by
  unfold settleModes; dsimp only; split <;> simp
@[simp] theorem settleModes_flts (s : State) : (settleModes s).flts = s.flts := by
  unfold settleModes; dsimp only; split <;> simp
@[simp] theorem settleModes_dark (s : State) : (settleModes s).dark = s.dark := by
  unfold settleModes; dsimp only; split <;> simp
@[simp] theorem settleModes_backlog (s : State) : (settleModes s).backlog = s.backlog := by
  unfold settleModes; dsimp only; split <;> simp
@[simp] theorem settleModes_fieldInj (s : State) : (settleModes s).fieldInj = s.fieldInj := by
  unfold settleModes; dsimp only; split <;> simp
@[simp] theorem settleModes_power (s : State) : (settleModes s).power = s.power := by
  unfold settleModes; dsimp only; split <;> simp
@[simp] theorem settleModes_host (s : State) : (settleModes s).host = s.host := by
  unfold settleModes; dsimp only; split <;> simp
@[simp] theorem settleModes_dbg (s : State) : (settleModes s).dbg = s.dbg := by
  unfold settleModes; dsimp only; split <;> simp
@[simp] theorem settleModes_cmp (s : State) : (settleModes s).cmp = s.cmp := by
  unfold settleModes; dsimp only; split <;> simp
@[simp] theorem settleModes_traces (s : State) : (settleModes s).traces = s.traces := by
  unfold settleModes; dsimp only; split <;> simp
@[simp] theorem settleModes_claimGap (s : State) : (settleModes s).claimGap = s.claimGap := by
  unfold settleModes; dsimp only; split <;> simp
@[simp] theorem settleModes_timeGap (s : State) : (settleModes s).timeGap = s.timeGap := by
  unfold settleModes; dsimp only; split <;> simp
@[simp] theorem settleModes_heard (s : State) : (settleModes s).heard = s.heard := by
  unfold settleModes; dsimp only; split <;> simp
@[simp] theorem settleModes_fmodes (s : State) : (settleModes s).fmodes = s.fmodes := by
  unfold settleModes; dsimp only; split <;> simp
@[simp] theorem settleModes_fintm (s : State) : (settleModes s).fintm = s.fintm := by
  unfold settleModes; dsimp only; split <;> simp
@[simp] theorem settleModes_told (s : State) : (settleModes s).told = s.told := by
  unfold settleModes; dsimp only; split <;> simp

@[simp] theorem settleFwd_now (s : State) : (settleFwd s).now = s.now := by
  rfl
@[simp] theorem settleFwd_freeCtr (s : State) : (settleFwd s).freeCtr = s.freeCtr := by
  rfl
@[simp] theorem settleFwd_pending (s : State) : (settleFwd s).pending = s.pending := by
  rfl
@[simp] theorem settleFwd_regs (s : State) : (settleFwd s).regs = s.regs := by
  rfl
@[simp] theorem settleFwd_mem (s : State) : (settleFwd s).mem = s.mem := by
  rfl
@[simp] theorem settleFwd_marks (s : State) : (settleFwd s).marks = s.marks := by
  rfl
@[simp] theorem settleFwd_start (s : State) : (settleFwd s).start = s.start := by
  rfl
@[simp] theorem settleFwd_paths (s : State) : (settleFwd s).paths = s.paths := by
  rfl
@[simp] theorem settleFwd_bar (s : State) : (settleFwd s).bar = s.bar := by
  rfl
@[simp] theorem settleFwd_margins (s : State) : (settleFwd s).margins = s.margins := by
  rfl
@[simp] theorem settleFwd_links (s : State) : (settleFwd s).links = s.links := by
  rfl
@[simp] theorem settleFwd_cue (s : State) : (settleFwd s).cue = s.cue := by
  rfl
@[simp] theorem settleFwd_time (s : State) : (settleFwd s).time = s.time := by
  rfl
@[simp] theorem settleFwd_pulses (s : State) : (settleFwd s).pulses = s.pulses := by
  rfl
@[simp] theorem settleFwd_edges (s : State) : (settleFwd s).edges = s.edges := by
  rfl
@[simp] theorem settleFwd_sw (s : State) : (settleFwd s).sw = s.sw := by
  rfl
@[simp] theorem settleFwd_streams (s : State) : (settleFwd s).streams = s.streams := by
  rfl
@[simp] theorem settleFwd_fab (s : State) : (settleFwd s).fab = s.fab := by
  rfl
@[simp] theorem settleFwd_clusters (s : State) : (settleFwd s).clusters = s.clusters := by
  rfl
@[simp] theorem settleFwd_pins (s : State) : (settleFwd s).pins = s.pins := by
  rfl
@[simp] theorem settleFwd_cans (s : State) : (settleFwd s).cans = s.cans := by
  rfl
@[simp] theorem settleFwd_snap (s : State) : (settleFwd s).snap = s.snap := by
  rfl
@[simp] theorem settleFwd_store (s : State) : (settleFwd s).store = s.store := by
  rfl
@[simp] theorem settleFwd_lead (s : State) : (settleFwd s).lead = s.lead := by
  rfl
@[simp] theorem settleFwd_flts (s : State) : (settleFwd s).flts = s.flts := by
  rfl
@[simp] theorem settleFwd_dark (s : State) : (settleFwd s).dark = s.dark := by
  rfl
@[simp] theorem settleFwd_backlog (s : State) : (settleFwd s).backlog = s.backlog := by
  rfl
@[simp] theorem settleFwd_fieldInj (s : State) : (settleFwd s).fieldInj = s.fieldInj := by
  rfl
@[simp] theorem settleFwd_power (s : State) : (settleFwd s).power = s.power := by
  rfl
@[simp] theorem settleFwd_host (s : State) : (settleFwd s).host = s.host := by
  rfl
@[simp] theorem settleFwd_dbg (s : State) : (settleFwd s).dbg = s.dbg := by
  rfl
@[simp] theorem settleFwd_cmp (s : State) : (settleFwd s).cmp = s.cmp := by
  rfl
@[simp] theorem settleFwd_traces (s : State) : (settleFwd s).traces = s.traces := by
  rfl
@[simp] theorem settleFwd_claimGap (s : State) : (settleFwd s).claimGap = s.claimGap := by
  rfl
@[simp] theorem settleFwd_timeGap (s : State) : (settleFwd s).timeGap = s.timeGap := by
  rfl
@[simp] theorem settleFwd_heard (s : State) : (settleFwd s).heard = s.heard := by
  rfl
@[simp] theorem settleFwd_fmodes (s : State) : (settleFwd s).fmodes = s.fmodes := by
  rfl
@[simp] theorem settleFwd_fintm (s : State) : (settleFwd s).fintm = s.fintm := by
  rfl
@[simp] theorem settleFwd_modesTold (s : State) : (settleFwd s).modesTold = s.modesTold := by
  rfl
@[simp] theorem settleFwd_told (s : State) : (settleFwd s).told = s.told := by
  rfl

@[simp] theorem settle_now (s : State) : (settle s).now = s.now := by
  simp [settle, foldl_keeps (fun s : State => s.now) settleCan (fun s c => settleCan_now s c)]
@[simp] theorem settle_freeCtr (s : State) : (settle s).freeCtr = s.freeCtr := by
  simp [settle, foldl_keeps (fun s : State => s.freeCtr) settleCan (fun s c => settleCan_freeCtr s c)]
@[simp] theorem settle_pending (s : State) : (settle s).pending = s.pending := by
  simp [settle, foldl_keeps (fun s : State => s.pending) settleCan (fun s c => settleCan_pending s c)]
@[simp] theorem settle_mem (s : State) : (settle s).mem = s.mem := by
  simp [settle, foldl_keeps (fun s : State => s.mem) settleCan (fun s c => settleCan_mem s c)]
@[simp] theorem settle_marks (s : State) : (settle s).marks = s.marks := by
  simp [settle, foldl_keeps (fun s : State => s.marks) settleCan (fun s c => settleCan_marks s c)]
@[simp] theorem settle_paths (s : State) : (settle s).paths = s.paths := by
  simp [settle, foldl_keeps (fun s : State => s.paths) settleCan (fun s c => settleCan_paths s c)]
@[simp] theorem settle_margins (s : State) : (settle s).margins = s.margins := by
  simp [settle, foldl_keeps (fun s : State => s.margins) settleCan (fun s c => settleCan_margins s c)]
@[simp] theorem settle_links (s : State) : (settle s).links = s.links := by
  simp [settle, foldl_keeps (fun s : State => s.links) settleCan (fun s c => settleCan_links s c)]
@[simp] theorem settle_cue (s : State) : (settle s).cue = s.cue := by
  simp [settle, foldl_keeps (fun s : State => s.cue) settleCan (fun s c => settleCan_cue s c)]
@[simp] theorem settle_pulses (s : State) : (settle s).pulses = s.pulses := by
  simp [settle, foldl_keeps (fun s : State => s.pulses) settleCan (fun s c => settleCan_pulses s c)]
@[simp] theorem settle_edges (s : State) : (settle s).edges = s.edges := by
  simp [settle, foldl_keeps (fun s : State => s.edges) settleCan (fun s c => settleCan_edges s c)]
@[simp] theorem settle_sw (s : State) : (settle s).sw = s.sw := by
  simp [settle, foldl_keeps (fun s : State => s.sw) settleCan (fun s c => settleCan_sw s c)]
@[simp] theorem settle_streams (s : State) : (settle s).streams = s.streams := by
  simp [settle, foldl_keeps (fun s : State => s.streams) settleCan (fun s c => settleCan_streams s c)]
@[simp] theorem settle_fab (s : State) : (settle s).fab = s.fab := by
  simp [settle, foldl_keeps (fun s : State => s.fab) settleCan (fun s c => settleCan_fab s c)]
@[simp] theorem settle_snap (s : State) : (settle s).snap = s.snap := by
  simp [settle, foldl_keeps (fun s : State => s.snap) settleCan (fun s c => settleCan_snap s c)]
@[simp] theorem settle_store (s : State) : (settle s).store = s.store := by
  simp [settle, foldl_keeps (fun s : State => s.store) settleCan (fun s c => settleCan_store s c)]
@[simp] theorem settle_lead (s : State) : (settle s).lead = s.lead := by
  simp [settle, foldl_keeps (fun s : State => s.lead) settleCan (fun s c => settleCan_lead s c)]
@[simp] theorem settle_fieldInj (s : State) : (settle s).fieldInj = s.fieldInj := by
  simp [settle, foldl_keeps (fun s : State => s.fieldInj) settleCan (fun s c => settleCan_fieldInj s c)]
@[simp] theorem settle_dbg (s : State) : (settle s).dbg = s.dbg := by
  simp [settle, foldl_keeps (fun s : State => s.dbg) settleCan (fun s c => settleCan_dbg s c)]
@[simp] theorem settle_cmp (s : State) : (settle s).cmp = s.cmp := by
  simp [settle, foldl_keeps (fun s : State => s.cmp) settleCan (fun s c => settleCan_cmp s c)]
@[simp] theorem settle_traces (s : State) : (settle s).traces = s.traces := by
  simp [settle, foldl_keeps (fun s : State => s.traces) settleCan (fun s c => settleCan_traces s c)]
@[simp] theorem settle_heard (s : State) : (settle s).heard = s.heard := by
  simp [settle, foldl_keeps (fun s : State => s.heard) settleCan (fun s c => settleCan_heard s c)]
@[simp] theorem settle_fmodes (s : State) : (settle s).fmodes = s.fmodes := by
  simp [settle, foldl_keeps (fun s : State => s.fmodes) settleCan (fun s c => settleCan_fmodes s c)]
@[simp] theorem settle_fintm (s : State) : (settle s).fintm = s.fintm := by
  simp [settle, foldl_keeps (fun s : State => s.fintm) settleCan (fun s c => settleCan_fintm s c)]


/-! The registers. -/

theorem regSel_evt (s : State) (a i b k : Nat) (hk : k < 65536) (h : b ≠ a) : (s.evt a i).regSel b k = s.regSel b k := by
  rw [State.evt, State.setReg, regSel_setRegSel, if_neg]
  rw [regKey_inj b a k 0 hk (by omega)]; exact fun x => h x.1

theorem regSel_bump (s : State) (a b k : Nat) (hk : k < 65536) (h : b ≠ a) : (s.bump a).regSel b k = s.regSel b k := by
  have out (r : State) (sel : Nat) (v : Word) (hs : sel < 65536) : (r.setRegSel a sel v).regSel b k = r.regSel b k := by
    rw [regSel_setRegSel, if_neg]
    rw [regKey_inj b a k sel hk hs]; exact fun x => h x.1
  rw [State.bump, State.countSel, State.countTwin]
  split
  · exact (out _ _ _ (by decide)).trans (out _ _ _ (by decide))
  · exact out _ _ _ (by decide)

theorem regSel_congr {s t : State} (h : t.regs = s.regs) (a k : Nat) : t.regSel a k = s.regSel a k := by
  unfold State.regSel; rw [h]

theorem regSel_settleRange (r : Ring) (s : State) (a k : Nat) (hk : k < 65536) (h : a ≠ TIM_EVT) :
    (settleRange r s).regSel a k = s.regSel a k := by
  unfold settleRange; dsimp only; split
  · rfl
  · rw [regSel_evt _ _ _ _ _ hk h]; rfl

theorem regSel_gapEvents (x y : State) (b : Fin 3) (s : State) (a k : Nat) (hk : k < 65536) (h : a ≠ PIN_EVT b.val) :
    (gapEvents x y b s).regSel a k = s.regSel a k := by
  unfold gapEvents; dsimp only; repeat' split
  all_goals simp only [regSel_evt _ _ _ _ _ hk h]

theorem regSel_settlePins (s : State) (a k : Nat) (hk : k < 65536) (h0 : a ≠ PIN_EVT 0) (h1 : a ≠ PIN_EVT 1)
    (h2 : a ≠ PIN_EVT 2) : (settlePins s).regSel a k = s.regSel a k := by
  unfold settlePins; dsimp only
  rw [regSel_gapEvents _ _ 0 _ a k hk h0, regSel_gapEvents _ _ 1 _ a k hk h1, regSel_gapEvents _ _ 2 _ a k hk h2]
  refine regSel_congr ?_ a k
  rfl

theorem regSel_settleCan (s : State) (c : Fin 4) (a k : Nat) (hk : k < 65536) (h0 : a ≠ CAN_EVT c.val)
    (h1 : a ≠ CAN_GAPABT c.val) : (settleCan s c).regSel a k = s.regSel a k := by
  unfold settleCan; dsimp only
  repeat' split
  all_goals
    first
    | rfl
    | (rw [regSel_congr (raise_regs _ _ _), regSel_evt _ _ _ _ _ hk h0]
       first | rfl | (rw [regSel_bump _ _ _ _ hk h1]; rfl))

/-- The closing part changes no register but its own. -/
theorem regSel_settle (s : State) (a k : Nat) (hk : k < 65536) (h : closingReg a = false) :
    (settle s).regSel a k = s.regSel a k := by
  have hm : ∀ b, closingReg b = true → a ≠ b := fun b hb e => by rw [e, hb] at h; cases h
  have can : ∀ (c : Fin 4) (x : State), (settleCan x c).regSel a k = x.regSel a k := by
    intro c x
    have h0 : ∀ c : Fin 4, closingReg (CAN_EVT c.val) = true := by decide
    have h1 : ∀ c : Fin 4, closingReg (CAN_GAPABT c.val) = true := by decide
    exact regSel_settleCan x c a k hk (fun e => by rw [e, h0 c] at h; cases h) (fun e => by rw [e, h1 c] at h; cases h)
  unfold settle
  dsimp only
  rw [regSel_congr (settleFwd_regs _), regSel_congr (settleSignals_regs _),
    foldl_keeps (fun s : State => s.regSel a k) settleCan (fun s c => can c s),
    regSel_settlePins _ a k hk (hm _ (by decide)) (hm _ (by decide))
      (hm _ (by decide)),
    regSel_congr (settleModes_regs _), regSel_congr (settleBypass_regs _), regSel_congr (settleFuses_regs _), regSel_congr (settleHolds_regs _),
    regSel_congr (settleLock_regs _),
    regSel_settleRange _ _ a k hk (hm _ (by decide)),
    regSel_settleRange _ _ a k hk (hm _ (by decide))]

/-! The pins. -/

/-- What the ranks and outputs of the pins rest on, beside the pins themselves. -/
structure SameForPins (s t : State) : Prop where
  clusters : t.clusters = s.clusters
  start : t.start = s.start
  dark : t.dark = s.dark
  dbg : t.dbg = s.dbg
  host : t.host = s.host
  lead : t.lead = s.lead
  pulses : t.pulses = s.pulses
  cmp : t.cmp = s.cmp
  claimGap : t.claimGap = s.claimGap
  timeGap : t.timeGap = s.timeGap
  fmodes : t.fmodes = s.fmodes
  fintm : t.fintm = s.fintm
  ctrl : t.regSel DBG_CTRL 0 = s.regSel DBG_CTRL 0

theorem pinRank_same {s t : State} (h : SameForPins s t) (k : Fin 144) : pinRank t k = pinRank s k := by
  obtain ⟨h1, h2, h3, h4, h5, h6, h7, h8, h9, h10, h12, h13, h11⟩ := h
  simp only [pinRank, State.pinCfg, State.cl, State.fextest, State.bit, State.reg, State.fieldAccepted, State.core,
    h1, h2, h3, h4, h5, h6, h9, h10, h11, h12, h13]
  rfl

theorem pinOut_same {s t : State} (h : SameForPins s t) (k : Fin 144) (hp : (t.pin k).latch = (s.pin k).latch ∧
    (t.pin k).drive = (s.pin k).drive ∧ (t.pin k).image = (s.pin k).image) (r : Nat) (x : Bool × Bool) :
    pinOut t k r x = pinOut s k r x := by
  obtain ⟨h1, h2, h3, h4, h5, h6, h7, h8, h9, h10, h12, h13, h11⟩ := h
  simp only [pinOut, sourceOut, State.pinCfg, State.cl, State.fextest, State.bit, State.reg,
    h1, h4, h7, h8, h11, hp.1, hp.2.1, hp.2.2]
  rfl

theorem settlePins_pin (s : State) (k : Fin 144) : (settlePins s).pin k = settlePin s k := by
  simp [settlePins, State.pin, vget]

theorem settle_same_pins (s : State) : ∃ s1 : State, SameForPins s1 (settle s) ∧ ∀ k, (settle s).pin k = settlePin s1 k := by
  let s1 := settleModes (settleBypass (settleFuses (settleHolds (settleLock (settleRange .b (settleRange .a s))))))
  have hr : ∀ x : State, (settleFwd (settleSignals ((List.finRange 4).foldl settleCan (settlePins x)))).regSel DBG_CTRL 0 =
      x.regSel DBG_CTRL 0 := by
    intro x
    rw [regSel_congr (settleFwd_regs _), regSel_congr (settleSignals_regs _),
      foldl_keeps (fun s : State => s.regSel DBG_CTRL 0) settleCan
        (fun s c => regSel_settleCan s c _ _ (by decide) (by fin_cases c <;> decide) (by fin_cases c <;> decide)),
      regSel_settlePins _ _ _ (by decide) (by decide) (by decide) (by decide)]
  have hf : ∀ {β : Type} (g : State → β), (∀ s c, g (settleCan s c) = g s) → ∀ x, g ((List.finRange 4).foldl settleCan x) = g x :=
    fun g h x => foldl_keeps g settleCan h _ x
  refine ⟨s1, ⟨?_, ?_, ?_, ?_, ?_, ?_, ?_, ?_, ?_, ?_, ?_, ?_, hr s1⟩, fun k => ?_⟩
  · simp only [settle, settleFwd_clusters, settleSignals_clusters, hf (fun s : State => s.clusters) settleCan_clusters,
      settlePins_clusters]; rfl
  · simp only [settle, settleFwd_start, settleSignals_start, hf (fun s : State => s.start) settleCan_start, settlePins_start]; rfl
  · simp only [settle, settleFwd_dark, settleSignals_dark, hf (fun s : State => s.dark) settleCan_dark, settlePins_dark]; rfl
  · simp only [settle, settleFwd_dbg, settleSignals_dbg, hf (fun s : State => s.dbg) settleCan_dbg, settlePins_dbg]; rfl
  · simp only [settle, settleFwd_host, settleSignals_host, hf (fun s : State => s.host) settleCan_host, settlePins_host]; rfl
  · simp only [settle, settleFwd_lead, settleSignals_lead, hf (fun s : State => s.lead) settleCan_lead, settlePins_lead]; rfl
  · simp only [settle, settleFwd_pulses, settleSignals_pulses, hf (fun s : State => s.pulses) settleCan_pulses,
      settlePins_pulses]; rfl
  · simp only [settle, settleFwd_cmp, settleSignals_cmp, hf (fun s : State => s.cmp) settleCan_cmp, settlePins_cmp]; rfl
  · simp only [settle, settleFwd_claimGap, settleSignals_claimGap, hf (fun s : State => s.claimGap) settleCan_claimGap,
      settlePins_claimGap]; rfl
  · simp only [settle, settleFwd_timeGap, settleSignals_timeGap, hf (fun s : State => s.timeGap) settleCan_timeGap,
      settlePins_timeGap]; rfl
  · simp only [settle, settleFwd_fmodes, settleSignals_fmodes, hf (fun s : State => s.fmodes) settleCan_fmodes, settlePins_fmodes]; rfl
  · simp only [settle, settleFwd_fintm, settleSignals_fintm, hf (fun s : State => s.fintm) settleCan_fintm, settlePins_fintm]; rfl
  · show vget (settle s).pins k = _
    rw [← settlePins_pin, State.pin]
    simp only [settle, settleFwd_pins, settleSignals_pins, hf (fun s : State => s.pins) settleCan_pins]; rfl

/-- The closing part leaves every pin under the rank and the output that R308 and R309 give it. -/
theorem settle_ruled (s : State) : PinsRuled (settle s) := by
  intro k
  obtain ⟨s1, h, hp⟩ := settle_same_pins s
  have e := hp k
  rw [pinRank_same h, pinOut_same h k (by rw [e]; exact ⟨rfl, rfl, rfl⟩), e]
  exact ⟨rfl, rfl⟩

/-! The clusters. -/

theorem settle_clusters (s : State) :
    (settle s).clusters = if s.start.latched then s.clusters else s.clusters.map releaseCluster := by
  simp only [settle, settleFwd_clusters, settleSignals_clusters,
    foldl_keeps (fun s : State => s.clusters) settleCan settleCan_clusters, settlePins_clusters, settleModes_clusters, settleBypass_clusters,
    settleFuses_clusters]
  simp [settleHolds]

/-- What the closing part leaves of a cluster: all but the holds of its pins. -/
theorem settle_cl (s : State) (m : Fin 12) :
    (settle s).cl m = { s.cl m with offHold := ((settle s).cl m).offHold, shedHold := ((settle s).cl m).shedHold } := by
  unfold State.cl
  rw [settle_clusters]
  split
  · rfl
  · simp [vget, releaseCluster]

@[simp] theorem settle_cl_engines (s : State) (m : Fin 12) : ((settle s).cl m).engines = (s.cl m).engines := by rw [settle_cl]
@[simp] theorem settle_cl_pacers (s : State) (m : Fin 12) : ((settle s).cl m).pacers = (s.cl m).pacers := by rw [settle_cl]
@[simp] theorem settle_cl_conduits (s : State) (m : Fin 12) : ((settle s).cl m).conduits = (s.cl m).conduits := by rw [settle_cl]
@[simp] theorem settle_cl_lock (s : State) (m : Fin 12) : ((settle s).cl m).lock = (s.cl m).lock := by rw [settle_cl]
@[simp] theorem settle_eng (s : State) (n : Fin 12) (e : Fin 14) : (settle s).eng n e = s.eng n e := by
  unfold State.eng; rw [settle_cl_engines]

/-- The closing part leaves what the sources of the pins drive. -/
theorem settle_pin_source (s : State) (k : Fin 144) :
    ((settle s).pin k).latch = (s.pin k).latch ∧ ((settle s).pin k).drive = (s.pin k).drive := by
  have : ∀ x : State, ((settleModes (settleBypass (settleFuses (settleHolds (settleLock (settleRange .b (settleRange .a x))))))).pin k) =
      x.pin k := by intro x; unfold State.pin; simp
  have h : (settle s).pin k = settlePin (settleModes (settleBypass (settleFuses (settleHolds (settleLock
      (settleRange .b (settleRange .a s))))))) k := by
    rw [← settlePins_pin]; unfold State.pin
    simp only [settle, settleFwd_pins, settleSignals_pins, foldl_keeps (fun s : State => s.pins) settleCan settleCan_pins]
  have q : ∀ x, (settlePin x k).latch = (x.pin k).latch ∧ (settlePin x k).drive = (x.pin k).drive := fun x => ⟨rfl, rfl⟩
  rw [h, (q _).1, (q _).2, this]
  exact ⟨rfl, rfl⟩

theorem settle_byte (s : State) (a : Nat) : (settle s).byte a = s.byte a := by
  unfold State.byte; rw [settle_mem]

end Sys2Proof.Machine
end

