-- ==== Sys2Proof/Laws/Closing.lean ====
section
/-! SUPPORT. The closing part of every meaning, unit by unit: what it leaves of the fields that it does change, and the one step
from a meaning to a completed command. -/

namespace Sys2Proof.Machine

/-- A meaning that ends with the closing part completes. -/
theorem completes_done {c : Instr} {s x : State} {p : State → Prop} (h : exec c s = done x) (hp : p (settle x)) :
    Completes c s p := ⟨settle x, h, hp⟩

theorem settleCan_fold {β : Type} (g : State → β) (h : ∀ s c, g (settleCan s c) = g s) (x : State) :
    g ((List.finRange 4).foldl settleCan x) = g x := foldl_keeps g settleCan h _ x

/-- Sources of CAN gaps are judged at the field die, so that the closing part gives no collector a report. -/
theorem raise_can_flts (s : State) (c : Fin 4) (d : Nat) : (s.raise (Src.can c.val 4) d).flts = s.flts := by
  have h : srcField (Src.can c.val 4) = true := by fin_cases c <;> decide
  rw [raise_field s _ d h]; split <;> rfl

@[simp] theorem settleCan_flts (s : State) (c : Fin 4) : (settleCan s c).flts = s.flts := by
  unfold settleCan; dsimp only
  split
  · rfl
  · split
    · split
      · rfl
      · rw [raise_can_flts]; split <;> rfl
    · split <;> rfl

@[simp] theorem settleSignals_flts' (s : State) : (settleSignals s).flts = s.flts := by
  unfold settleSignals; dsimp only; split <;> rfl

@[simp] theorem settle_flts (s : State) : (settle s).flts = s.flts := by
  simp only [settle, settleFwd_flts, settleSignals_flts', settleCan_fold (fun s : State => s.flts) settleCan_flts]
  simp

/-! The barrier: messages may be made ready, nothing else changes. -/

/-- Some messages more may be ready at each end. -/
def MoreReady (s u : State) : Prop :=
  ∀ d, ∃ more, u.bdir d = { s.bdir d with ready := (s.bdir d).ready ++ more }

theorem MoreReady.refl (s u : State) (h : u.bar = s.bar) : MoreReady s u := by
  intro d; exact ⟨[], by simp [State.bdir, h]⟩

theorem MoreReady.trans {s t u : State} (h : MoreReady s t) (g : MoreReady t u) : MoreReady s u := by
  intro d
  obtain ⟨m, hm⟩ := h d
  obtain ⟨k, gk⟩ := g d
  exact ⟨m ++ k, by rw [gk, hm]; simp⟩

theorem moreReady_barReady (s : State) (d : BarDir) (ty : BarType) (b : BarPayload) : MoreReady s (s.barReady d ty b) := by
  intro e
  by_cases h : e = d
  · subst h
    exact ⟨[⟨⟨ty, b⟩, []⟩], by simp [State.bdir, State.barReady, State.updBar, vget, vupd, vset]⟩
  · refine ⟨[], ?_⟩
    have : ¬ d.ix.val = e.ix.val := by cases d <;> cases e <;> simp_all [BarDir.ix]
    simp [State.bdir, State.barReady, State.updBar, vget, vupd, vset, this]

theorem moreReady_raise_can (s : State) (c : Fin 4) (d : Nat) : MoreReady s (s.raise (Src.can c.val 4) d) := by
  have h : srcField (Src.can c.val 4) = true := by fin_cases c <;> decide
  rw [raise_field s _ d h]
  split
  · exact moreReady_barReady _ _ _ _
  · exact MoreReady.refl _ _ rfl

theorem moreReady_settleCan (s : State) (c : Fin 4) : MoreReady s (settleCan s c) := by
  unfold settleCan; dsimp only
  split
  · exact MoreReady.refl _ _ rfl
  · split
    · split
      · exact MoreReady.refl _ _ rfl
      · refine MoreReady.trans (MoreReady.refl _ _ ?_) (moreReady_raise_can _ c c.val)
        split <;> rfl
    · split <;> exact MoreReady.refl _ _ rfl

theorem moreReady_fold (l : List (Fin 4)) (s : State) : MoreReady s (l.foldl settleCan s) := by
  induction l generalizing s with
  | nil => exact MoreReady.refl _ _ rfl
  | cons c t ih => exact (moreReady_settleCan s c).trans (ih _)

theorem moreReady_settleSignals (s : State) : MoreReady s (settleSignals s) := by
  unfold settleSignals; dsimp only
  split
  · exact MoreReady.refl _ _ rfl
  · exact (moreReady_barReady _ _ _ _).trans (MoreReady.refl _ _ rfl)

theorem moreReady_settleModes (s : State) : MoreReady s (settleModes s) := by
  unfold settleModes
  split
  · exact MoreReady.refl _ _ rfl
  · exact (moreReady_barReady _ _ _ _).trans (MoreReady.refl _ _ rfl)

theorem moreReady_settle (s : State) : MoreReady s (settle s) := by
  unfold settle; dsimp only
  refine MoreReady.trans ?_ (MoreReady.refl _ _ (settleFwd_bar _))
  refine MoreReady.trans ?_ (moreReady_settleSignals _)
  refine MoreReady.trans ?_ (moreReady_fold _ _)
  refine MoreReady.trans ?_ (MoreReady.refl _ _ (settlePins_bar _))
  refine MoreReady.trans ?_ (moreReady_settleModes _)
  exact MoreReady.refl _ _ (by simp)

@[simp] theorem settle_bdir_flight (s : State) (d : BarDir) : ((settle s).bdir d).flight = (s.bdir d).flight := by
  obtain ⟨_, h⟩ := moreReady_settle s d; rw [h]
@[simp] theorem settle_bdir_nextSeq (s : State) (d : BarDir) : ((settle s).bdir d).nextSeq = (s.bdir d).nextSeq := by
  obtain ⟨_, h⟩ := moreReady_settle s d; rw [h]
@[simp] theorem settle_bdir_expected (s : State) (d : BarDir) : ((settle s).bdir d).expected = (s.bdir d).expected := by
  obtain ⟨_, h⟩ := moreReady_settle s d; rw [h]
@[simp] theorem settle_bdir_trained (s : State) (d : BarDir) : ((settle s).bdir d).trained = (s.bdir d).trained := by
  obtain ⟨_, h⟩ := moreReady_settle s d; rw [h]
@[simp] theorem settle_bdir_retraining (s : State) (d : BarDir) : ((settle s).bdir d).retraining = (s.bdir d).retraining := by
  obtain ⟨_, h⟩ := moreReady_settle s d; rw [h]
@[simp] theorem settle_bdir_failed (s : State) (d : BarDir) : ((settle s).bdir d).failed = (s.bdir d).failed := by
  obtain ⟨_, h⟩ := moreReady_settle s d; rw [h]
@[simp] theorem settle_bdir_active (s : State) (d : BarDir) : ((settle s).bdir d).active = (s.bdir d).active := by
  obtain ⟨_, h⟩ := moreReady_settle s d; rw [h]
@[simp] theorem settle_bdir_toReplace (s : State) (d : BarDir) : ((settle s).bdir d).toReplace = (s.bdir d).toReplace := by
  obtain ⟨_, h⟩ := moreReady_settle s d; rw [h]

/-! Time: whether a ring is ranged and whether the node is locked. -/

/-- Time as before, but for what follows from other changes (R114, R117). -/
def SameTime (x y : TimeState) : Prop :=
  ∃ r l e, y = { x with rings := r, locked := l, everLocked := e } ∧
    ∀ i, { vget r i with ranged := false } = { vget x.rings i with ranged := false }

theorem SameTime.refl (x : TimeState) : SameTime x x := ⟨x.rings, x.locked, x.everLocked, rfl, fun _ => rfl⟩

theorem SameTime.trans {x y z : TimeState} (h : SameTime x y) (g : SameTime y z) : SameTime x z := by
  obtain ⟨r, l, e, rfl, h2⟩ := h
  obtain ⟨r', l', e', rfl, g2⟩ := g
  exact ⟨r', l', e', rfl, fun i => (g2 i).trans (h2 i)⟩

theorem settleRange_time (r : Ring) (s : State) : SameTime s.time (settleRange r s).time := by
  unfold settleRange; dsimp only
  split
  · exact SameTime.refl _
  · refine ⟨_, s.time.locked, s.time.everLocked, rfl, fun i => ?_⟩
    unfold vget vset
    rw [Vector.getElem_set]
    split
    · rename_i h; simp only [h]
    · rfl

theorem settle_time (s : State) : SameTime s.time (settle s).time := by
  have h : (settle s).time = (settleLock (settleRange .b (settleRange .a s))).time := by
    simp only [settle, settleFwd_time, settleSignals_time, settleCan_fold (fun s : State => s.time) settleCan_time]
    simp
  rw [h]
  refine SameTime.trans (settleRange_time .a s) (SameTime.trans (settleRange_time .b _) ?_)
  exact ⟨_, _, _, rfl, fun _ => rfl⟩

/-! The other units. -/

theorem settle_host (s : State) : (settle s).host = { s.host with intmHold := (settle s).host.intmHold } := by
  simp only [settle, settleFwd_host, settleSignals_host, settleCan_fold (fun s : State => s.host) settleCan_host]
  simp [settleHolds]

theorem settle_dark (s : State) : (settle s).dark = { s.dark with outHold := (settle s).dark.outHold } := by
  simp only [settle, settleFwd_dark, settleSignals_dark, settleCan_fold (fun s : State => s.dark) settleCan_dark]
  simp [settleHolds]

theorem settle_start (s : State) : (settle s).start = { s.start with bypassLow := (settle s).start.bypassLow } := by
  simp only [settle, settleFwd_start, settleSignals_start, settleCan_fold (fun s : State => s.start) settleCan_start]
  simp [settleBypass]

theorem settle_brg (s : State) : (settle s).brg = { s.brg with fwdSeen := (settle s).brg.fwdSeen } := by
  have h : ∀ x : State, (settleFwd x).brg = { x.brg with fwdSeen := (settleFwd x).brg.fwdSeen } := fun _ => rfl
  unfold settle; dsimp only
  rw [h]
  simp only [settleSignals_brg, settleCan_fold (fun s : State => s.brg) settleCan_brg]
  simp

theorem settle_power (s : State) : (settle s).power =
    { s.power with fuses := (settle s).power.fuses, heardDark := (settle s).power.heardDark, heardIntm := (settle s).power.heardIntm } := by
  have h : ∀ x : State, (settleFuses x).power = { x.power with
      fuses := (settleFuses x).power.fuses, heardDark := (settleFuses x).power.heardDark, heardIntm := (settleFuses x).power.heardIntm } := by
    intro x; unfold settleFuses; dsimp only; split <;> rfl
  have k : (settle s).power = (settleFuses (settleHolds (settleLock (settleRange .b (settleRange .a s))))).power := by
    simp only [settle, settleFwd_power, settleSignals_power, settleCan_fold (fun s : State => s.power) settleCan_power]
    simp
  rw [k, h]; simp

/-- A CAN controller keeps all but its phase and the frame it sends. -/
theorem settleCan_can (s : State) (c d : Fin 4) : (settleCan s c).can d =
    { s.can d with phase := ((settleCan s c).can d).phase, txBusy := ((settleCan s c).can d).txBusy } := by
  have hr : ∀ (x : State) (a b : Nat), (x.raise a b).can d = x.can d := fun x a b => by unfold State.can; rw [raise_cans]
  unfold settleCan; dsimp only
  split
  · rfl
  · have hu : ∀ (f : CanCtl → CanCtl), (∀ y, f y = { y with phase := (f y).phase, txBusy := (f y).txBusy }) →
        (s.updCan c f).can d = { s.can d with phase := ((s.updCan c f).can d).phase, txBusy := ((s.updCan c f).can d).txBusy } := by
      intro f hf
      by_cases h : d = c
      · subst h
        simp only [State.can, State.updCan, vget, vupd, vset, Vector.getElem_set_self]
        exact hf _
      · have : (s.updCan c f).can d = s.can d := by
          have h2 : ¬ c.val = d.val := fun e => h (Fin.ext e.symm)
          simp [State.can, State.updCan, vget, vupd, vset, h2]
        rw [this]
    split
    · split
      · rfl
      · rw [hr]
        split <;> exact hu _ fun _ => rfl
    · split
      · exact hu _ fun _ => rfl
      · rfl

theorem settle_can (s : State) (d : Fin 4) : (settle s).can d =
    { s.can d with phase := ((settle s).can d).phase, txBusy := ((settle s).can d).txBusy } := by
  have fold : ∀ (l : List (Fin 4)) (x : State), (l.foldl settleCan x).can d =
      { x.can d with phase := ((l.foldl settleCan x).can d).phase, txBusy := ((l.foldl settleCan x).can d).txBusy } := by
    intro l
    induction l with
    | nil => intro x; rfl
    | cons c t ih =>
      intro x
      rw [List.foldl_cons, ih, settleCan_can]
  have h0 : ∀ x : State, (settlePins x).can d = x.can d := fun x => by unfold State.can; rw [settlePins_cans]
  have h1 : (settle s).can d = ((List.finRange 4).foldl settleCan (settlePins (settleModes (settleBypass (settleFuses (settleHolds
      (settleLock (settleRange .b (settleRange .a s))))))))).can d := by
    unfold State.can; simp [settle]
  rw [h1, fold, h0]
  unfold State.can; simp

/-! Field by field. -/

@[simp] theorem settle_brg_eps (s : State) : (settle s).brg.eps = s.brg.eps := by rw [settle_brg]
@[simp] theorem settle_brg_opens (s : State) : (settle s).brg.opens = s.brg.opens := by rw [settle_brg]
@[simp] theorem settle_brg_dups (s : State) : (settle s).brg.dups = s.brg.dups := by rw [settle_brg]
@[simp] theorem settle_brg_ferr (s : State) : (settle s).brg.ferr = s.brg.ferr := by rw [settle_brg]
@[simp] theorem settle_brg_cells (s : State) : (settle s).brg.cells = s.brg.cells := by rw [settle_brg]
@[simp] theorem settle_brg_lock (s : State) : (settle s).brg.lock = s.brg.lock := by rw [settle_brg]
@[simp] theorem settle_brg_waiting (s : State) : (settle s).brg.waiting = s.brg.waiting := by rw [settle_brg]
@[simp] theorem settle_brg_staged (s : State) : (settle s).brg.staged = s.brg.staged := by rw [settle_brg]
@[simp] theorem settle_brg_sets (s : State) : (settle s).brg.sets = s.brg.sets := by rw [settle_brg]
@[simp] theorem settle_brg_inbox (s : State) : (settle s).brg.inbox = s.brg.inbox := by rw [settle_brg]
@[simp] theorem settle_brg_completions (s : State) : (settle s).brg.completions = s.brg.completions := by rw [settle_brg]
@[simp] theorem settle_brg_fieldWaits (s : State) : (settle s).brg.fieldWaits = s.brg.fieldWaits := by rw [settle_brg]
@[simp] theorem settle_brg_nextAccess (s : State) : (settle s).brg.nextAccess = s.brg.nextAccess := by rw [settle_brg]
@[simp] theorem settle_brg_blocked (s : State) : (settle s).brg.blocked = s.brg.blocked := by rw [settle_brg]
@[simp] theorem settle_host_ups (s : State) : (settle s).host.ups = s.host.ups := by rw [settle_host]
@[simp] theorem settle_host_envs (s : State) : (settle s).host.envs = s.host.envs := by rw [settle_host]
@[simp] theorem settle_host_ptpLock (s : State) : (settle s).host.ptpLock = s.host.ptpLock := by rw [settle_host]
@[simp] theorem settle_host_ptpTwoStep (s : State) : (settle s).host.ptpTwoStep = s.host.ptpTwoStep := by rw [settle_host]
@[simp] theorem settle_host_ptpOfs (s : State) : (settle s).host.ptpOfs = s.host.ptpOfs := by rw [settle_host]
@[simp] theorem settle_host_ptpRun (s : State) : (settle s).host.ptpRun = s.host.ptpRun := by rw [settle_host]
@[simp] theorem settle_host_ptpAt (s : State) : (settle s).host.ptpAt = s.host.ptpAt := by rw [settle_host]
@[simp] theorem settle_host_ptpFreq (s : State) : (settle s).host.ptpFreq = s.host.ptpFreq := by rw [settle_host]
@[simp] theorem settle_host_qsResult (s : State) : (settle s).host.qsResult = s.host.qsResult := by rw [settle_host]
@[simp] theorem settle_host_qsStatus (s : State) : (settle s).host.qsStatus = s.host.qsStatus := by rw [settle_host]
@[simp] theorem settle_host_qsOut (s : State) : (settle s).host.qsOut = s.host.qsOut := by rw [settle_host]
@[simp] theorem settle_host_qsLeft (s : State) : (settle s).host.qsLeft = s.host.qsLeft := by rw [settle_host]
@[simp] theorem settle_host_qsShown (s : State) : (settle s).host.qsShown = s.host.qsShown := by rw [settle_host]
@[simp] theorem settle_host_qsCover (s : State) : (settle s).host.qsCover = s.host.qsCover := by rw [settle_host]
@[simp] theorem settle_host_qsFetch (s : State) : (settle s).host.qsFetch = s.host.qsFetch := by rw [settle_host]
@[simp] theorem settle_host_intm (s : State) : (settle s).host.intm = s.host.intm := by rw [settle_host]
@[simp] theorem settle_host_intmFrom (s : State) : (settle s).host.intmFrom = s.host.intmFrom := by rw [settle_host]
@[simp] theorem settle_host_intmClear (s : State) : (settle s).host.intmClear = s.host.intmClear := by rw [settle_host]
@[simp] theorem settle_host_intmRef (s : State) : (settle s).host.intmRef = s.host.intmRef := by rw [settle_host]
@[simp] theorem settle_host_intmSent (s : State) : (settle s).host.intmSent = s.host.intmSent := by rw [settle_host]
@[simp] theorem settle_host_intmCause (s : State) : (settle s).host.intmCause = s.host.intmCause := by rw [settle_host]
@[simp] theorem settle_host_reasons (s : State) : (settle s).host.reasons = s.host.reasons := by rw [settle_host]
@[simp] theorem settle_host_sentReasons (s : State) : (settle s).host.sentReasons = s.host.sentReasons := by rw [settle_host]
@[simp] theorem settle_host_wake (s : State) : (settle s).host.wake = s.host.wake := by rw [settle_host]
@[simp] theorem settle_host_wakeWords (s : State) : (settle s).host.wakeWords = s.host.wakeWords := by rw [settle_host]
@[simp] theorem settle_host_library (s : State) : (settle s).host.library = s.host.library := by rw [settle_host]
@[simp] theorem settle_power_feeds (s : State) : (settle s).power.feeds = s.power.feeds := by rw [settle_power]
@[simp] theorem settle_power_path (s : State) : (settle s).power.path = s.power.path := by rw [settle_power]
@[simp] theorem settle_power_dwell (s : State) : (settle s).power.dwell = s.power.dwell := by rw [settle_power]
@[simp] theorem settle_power_huVolts (s : State) : (settle s).power.huVolts = s.power.huVolts := by rw [settle_power]
@[simp] theorem settle_power_vpwr (s : State) : (settle s).power.vpwr = s.power.vpwr := by rw [settle_power]
@[simp] theorem settle_power_temp (s : State) : (settle s).power.temp = s.power.temp := by rw [settle_power]
@[simp] theorem settle_power_share (s : State) : (settle s).power.share = s.power.share := by rw [settle_power]
@[simp] theorem settle_power_sharing (s : State) : (settle s).power.sharing = s.power.sharing := by rw [settle_power]
@[simp] theorem settle_power_link (s : State) : (settle s).power.link = s.power.link := by rw [settle_power]
@[simp] theorem settle_power_started (s : State) : (settle s).power.started = s.power.started := by rw [settle_power]
@[simp] theorem settle_power_sectioned (s : State) : (settle s).power.sectioned = s.power.sectioned := by rw [settle_power]
@[simp] theorem settle_power_handoverDue (s : State) : (settle s).power.handoverDue = s.power.handoverDue := by rw [settle_power]
@[simp] theorem settle_power_returnDue (s : State) : (settle s).power.returnDue = s.power.returnDue := by rw [settle_power]
@[simp] theorem settle_power_cfStep (s : State) : (settle s).power.cfStep = s.power.cfStep := by rw [settle_power]
@[simp] theorem settle_power_cfCause (s : State) : (settle s).power.cfCause = s.power.cfCause := by rw [settle_power]
@[simp] theorem settle_power_cfSkip (s : State) : (settle s).power.cfSkip = s.power.cfSkip := by rw [settle_power]
@[simp] theorem settle_power_cfStat (s : State) : (settle s).power.cfStat = s.power.cfStat := by rw [settle_power]
@[simp] theorem settle_power_cycling (s : State) : (settle s).power.cycling = s.power.cycling := by rw [settle_power]
@[simp] theorem settle_power_linkWrites (s : State) : (settle s).power.linkWrites = s.power.linkWrites := by rw [settle_power]
@[simp] theorem settle_start_hostReset (s : State) : (settle s).start.hostReset = s.start.hostReset := by rw [settle_start]
@[simp] theorem settle_start_fieldReset (s : State) : (settle s).start.fieldReset = s.start.fieldReset := by rw [settle_start]
@[simp] theorem settle_start_resetLow (s : State) : (settle s).start.resetLow = s.start.resetLow := by rw [settle_start]
@[simp] theorem settle_start_cause (s : State) : (settle s).start.cause = s.start.cause := by rw [settle_start]
@[simp] theorem settle_start_warm (s : State) : (settle s).start.warm = s.start.warm := by rw [settle_start]
@[simp] theorem settle_start_lnkApplied (s : State) : (settle s).start.lnkApplied = s.start.lnkApplied := by rw [settle_start]
@[simp] theorem settle_start_resend (s : State) : (settle s).start.resend = s.start.resend := by rw [settle_start]
@[simp] theorem settle_start_latched (s : State) : (settle s).start.latched = s.start.latched := by rw [settle_start]
@[simp] theorem settle_dark_dark (s : State) : (settle s).dark.dark = s.dark.dark := by rw [settle_dark]
@[simp] theorem settle_dark_power (s : State) : (settle s).dark.power = s.dark.power := by rw [settle_dark]
@[simp] theorem settle_dark_src (s : State) : (settle s).dark.src = s.dark.src := by rw [settle_dark]
@[simp] theorem settle_dark_selfSet (s : State) : (settle s).dark.selfSet = s.dark.selfSet := by rw [settle_dark]
@[simp] theorem settle_dark_selfCause (s : State) : (settle s).dark.selfCause = s.dark.selfCause := by rw [settle_dark]
@[simp] theorem settle_dark_selfCore (s : State) : (settle s).dark.selfCore = s.dark.selfCore := by rw [settle_dark]
@[simp] theorem settle_dark_recLimit (s : State) : (settle s).dark.recLimit = s.dark.recLimit := by rw [settle_dark]
@[simp] theorem settle_dark_recoveries (s : State) : (settle s).dark.recoveries = s.dark.recoveries := by rw [settle_dark]
@[simp] theorem settle_dark_lastMajor (s : State) : (settle s).dark.lastMajor = s.dark.lastMajor := by rw [settle_dark]
@[simp] theorem settle_dark_heldPorts (s : State) : (settle s).dark.heldPorts = s.dark.heldPorts := by rw [settle_dark]
@[simp] theorem settle_dark_idleRing (s : State) : (settle s).dark.idleRing = s.dark.idleRing := by rw [settle_dark]
@[simp] theorem settle_dark_reopen (s : State) : (settle s).dark.reopen = s.dark.reopen := by rw [settle_dark]
@[simp] theorem settle_time_ofs (s : State) : (settle s).time.ofs = s.time.ofs := by
  obtain ⟨_, _, _, h, _⟩ := settle_time s; rw [h]
@[simp] theorem settle_time_dom (s : State) : (settle s).time.dom = s.time.dom := by
  obtain ⟨_, _, _, h, _⟩ := settle_time s; rw [h]
@[simp] theorem settle_time_s (s : State) : (settle s).time.s = s.time.s := by
  obtain ⟨_, _, _, h, _⟩ := settle_time s; rw [h]
@[simp] theorem settle_time_sCycle (s : State) : (settle s).time.sCycle = s.time.sCycle := by
  obtain ⟨_, _, _, h, _⟩ := settle_time s; rw [h]
@[simp] theorem settle_time_sValid (s : State) : (settle s).time.sValid = s.time.sValid := by
  obtain ⟨_, _, _, h, _⟩ := settle_time s; rw [h]
@[simp] theorem settle_time_counts (s : State) : (settle s).time.counts = s.time.counts := by
  obtain ⟨_, _, _, h, _⟩ := settle_time s; rw [h]
@[simp] theorem settle_time_ownZero (s : State) : (settle s).time.ownZero = s.time.ownZero := by
  obtain ⟨_, _, _, h, _⟩ := settle_time s; rw [h]
@[simp] theorem settle_time_okRun (s : State) : (settle s).time.okRun = s.time.okRun := by
  obtain ⟨_, _, _, h, _⟩ := settle_time s; rw [h]
@[simp] theorem settle_time_badRun (s : State) : (settle s).time.badRun = s.time.badRun := by
  obtain ⟨_, _, _, h, _⟩ := settle_time s; rw [h]
@[simp] theorem settle_time_src (s : State) : (settle s).time.src = s.time.src := by
  obtain ⟨_, _, _, h, _⟩ := settle_time s; rw [h]
@[simp] theorem settle_time_missRun (s : State) : (settle s).time.missRun = s.time.missRun := by
  obtain ⟨_, _, _, h, _⟩ := settle_time s; rw [h]
@[simp] theorem settle_time_passed (s : State) : (settle s).time.passed = s.time.passed := by
  obtain ⟨_, _, _, h, _⟩ := settle_time s; rw [h]
@[simp] theorem settle_time_instDone (s : State) : (settle s).time.instDone = s.time.instDone := by
  obtain ⟨_, _, _, h, _⟩ := settle_time s; rw [h]
@[simp] theorem settle_time_hold (s : State) : (settle s).time.hold = s.time.hold := by
  obtain ⟨_, _, _, h, _⟩ := settle_time s; rw [h]
@[simp] theorem settle_time_gap (s : State) : (settle s).time.gap = s.time.gap := by
  obtain ⟨_, _, _, h, _⟩ := settle_time s; rw [h]
@[simp] theorem settle_time_stepGap (s : State) : (settle s).time.stepGap = s.time.stepGap := by
  obtain ⟨_, _, _, h, _⟩ := settle_time s; rw [h]
@[simp] theorem settle_time_gapTaken (s : State) : (settle s).time.gapTaken = s.time.gapTaken := by
  obtain ⟨_, _, _, h, _⟩ := settle_time s; rw [h]
@[simp] theorem settle_time_settle (s : State) : (settle s).time.settle = s.time.settle := by
  obtain ⟨_, _, _, h, _⟩ := settle_time s; rw [h]
@[simp] theorem settle_time_stepDue (s : State) : (settle s).time.stepDue = s.time.stepDue := by
  obtain ⟨_, _, _, h, _⟩ := settle_time s; rw [h]
@[simp] theorem settle_time_xRun (s : State) : (settle s).time.xRun = s.time.xRun := by
  obtain ⟨_, _, _, h, _⟩ := settle_time s; rw [h]
@[simp] theorem settle_time_echo (s : State) : (settle s).time.echo = s.time.echo := by
  obtain ⟨_, _, _, h, _⟩ := settle_time s; rw [h]
@[simp] theorem settle_time_ofsBA (s : State) : (settle s).time.ofsBA = s.time.ofsBA := by
  obtain ⟨_, _, _, h, _⟩ := settle_time s; rw [h]
@[simp] theorem settle_time_ofsRate (s : State) : (settle s).time.ofsRate = s.time.ofsRate := by
  obtain ⟨_, _, _, h, _⟩ := settle_time s; rw [h]
@[simp] theorem settle_time_ofsAt (s : State) : (settle s).time.ofsAt = s.time.ofsAt := by
  obtain ⟨_, _, _, h, _⟩ := settle_time s; rw [h]
@[simp] theorem settle_time_ofsValid (s : State) : (settle s).time.ofsValid = s.time.ofsValid := by
  obtain ⟨_, _, _, h, _⟩ := settle_time s; rw [h]
@[simp] theorem settle_time_noteA (s : State) : (settle s).time.noteA = s.time.noteA := by
  obtain ⟨_, _, _, h, _⟩ := settle_time s; rw [h]
@[simp] theorem settle_time_noteB (s : State) : (settle s).time.noteB = s.time.noteB := by
  obtain ⟨_, _, _, h, _⟩ := settle_time s; rw [h]
@[simp] theorem settle_time_noticeAt (s : State) : (settle s).time.noticeAt = s.time.noticeAt := by
  obtain ⟨_, _, _, h, _⟩ := settle_time s; rw [h]
@[simp] theorem settle_time_ptpFar (s : State) : (settle s).time.ptpFar = s.time.ptpFar := by
  obtain ⟨_, _, _, h, _⟩ := settle_time s; rw [h]
@[simp] theorem settle_time_ptpLost (s : State) : (settle s).time.ptpLost = s.time.ptpLost := by
  obtain ⟨_, _, _, h, _⟩ := settle_time s; rw [h]
@[simp] theorem settle_time_fofs (s : State) : (settle s).time.fofs = s.time.fofs := by
  obtain ⟨_, _, _, h, _⟩ := settle_time s; rw [h]
@[simp] theorem settle_time_fdom (s : State) : (settle s).time.fdom = s.time.fdom := by
  obtain ⟨_, _, _, h, _⟩ := settle_time s; rw [h]
@[simp] theorem settle_time_fhold (s : State) : (settle s).time.fhold = s.time.fhold := by
  obtain ⟨_, _, _, h, _⟩ := settle_time s; rw [h]
@[simp] theorem settle_time_fsmp (s : State) : (settle s).time.fsmp = s.time.fsmp := by
  obtain ⟨_, _, _, h, _⟩ := settle_time s; rw [h]
@[simp] theorem settle_time_flat (s : State) : (settle s).time.flat = s.time.flat := by
  obtain ⟨_, _, _, h, _⟩ := settle_time s; rw [h]
@[simp] theorem settle_time_fflp (s : State) : (settle s).time.fflp = s.time.fflp := by
  obtain ⟨_, _, _, h, _⟩ := settle_time s; rw [h]
@[simp] theorem settle_can_conf (s : State) (d : Fin 4) : ((settle s).can d).conf = (s.can d).conf := by rw [settle_can]
@[simp] theorem settle_can_cfgErr (s : State) (d : Fin 4) : ((settle s).can d).cfgErr = (s.can d).cfgErr := by rw [settle_can]
@[simp] theorem settle_can_txErr (s : State) (d : Fin 4) : ((settle s).can d).txErr = (s.can d).txErr := by rw [settle_can]
@[simp] theorem settle_can_rxErr (s : State) (d : Fin 4) : ((settle s).can d).rxErr = (s.can d).rxErr := by rw [settle_can]
@[simp] theorem settle_can_recSeq (s : State) (d : Fin 4) : ((settle s).can d).recSeq = (s.can d).recSeq := by rw [settle_can]
@[simp] theorem settle_can_waitRec (s : State) (d : Fin 4) : ((settle s).can d).waitRec = (s.can d).waitRec := by rw [settle_can]
@[simp] theorem settle_can_faultHeld (s : State) (d : Fin 4) : ((settle s).can d).faultHeld = (s.can d).faultHeld := by rw [settle_can]
@[simp] theorem settle_can_tx (s : State) (d : Fin 4) : ((settle s).can d).tx = (s.can d).tx := by rw [settle_can]
@[simp] theorem settle_can_flushHead (s : State) (d : Fin 4) : ((settle s).can d).flushHead = (s.can d).flushHead := by rw [settle_can]
@[simp] theorem settle_can_rx (s : State) (d : Fin 4) : ((settle s).can d).rx = (s.can d).rx := by rw [settle_can]
@[simp] theorem settle_can_lost (s : State) (d : Fin 4) : ((settle s).can d).lost = (s.can d).lost := by rw [settle_can]
@[simp] theorem settle_can_spot (s : State) (d : Fin 4) : ((settle s).can d).spot = (s.can d).spot := by rw [settle_can]
@[simp] theorem settle_can_lec (s : State) (d : Fin 4) : ((settle s).can d).lec = (s.can d).lec := by rw [settle_can]
@[simp] theorem settle_can_lecSeen (s : State) (d : Fin 4) : ((settle s).can d).lecSeen = (s.can d).lecSeen := by rw [settle_can]
@[simp] theorem settle_can_lecData (s : State) (d : Fin 4) : ((settle s).can d).lecData = (s.can d).lecData := by rw [settle_can]
@[simp] theorem settle_can_fwd (s : State) (d : Fin 4) : ((settle s).can d).fwd = (s.can d).fwd := by rw [settle_can]
@[simp] theorem settle_can_dataPort (s : State) (d : Fin 4) : ((settle s).can d).dataPort = (s.can d).dataPort := by rw [settle_can]
@[simp] theorem settle_can_txData (s : State) (d : Fin 4) : ((settle s).can d).txData = (s.can d).txData := by rw [settle_can]
@[simp] theorem settle_cl_cfg (s : State) (m : Fin 12) : ((settle s).cl m).cfg = (s.cl m).cfg := by rw [settle_cl]
@[simp] theorem settle_cl_online (s : State) (m : Fin 12) : ((settle s).cl m).online = (s.cl m).online := by rw [settle_cl]
@[simp] theorem settle_cl_binding (s : State) (m : Fin 12) : ((settle s).cl m).binding = (s.cl m).binding := by rw [settle_cl]
@[simp] theorem settle_cl_phys (s : State) (m : Fin 12) : ((settle s).cl m).phys = (s.cl m).phys := by rw [settle_cl]
@[simp] theorem settle_cl_windows (s : State) (m : Fin 12) : ((settle s).cl m).windows = (s.cl m).windows := by rw [settle_cl]
@[simp] theorem settle_cl_broken (s : State) (m : Fin 12) : ((settle s).cl m).broken = (s.cl m).broken := by rw [settle_cl]
@[simp] theorem settle_cl_mig (s : State) (m : Fin 12) : ((settle s).cl m).mig = (s.cl m).mig := by rw [settle_cl]
@[simp] theorem settle_cl_failed (s : State) (m : Fin 12) : ((settle s).cl m).failed = (s.cl m).failed := by rw [settle_cl]
@[simp] theorem settle_cl_lastMig (s : State) (m : Fin 12) : ((settle s).cl m).lastMig = (s.cl m).lastMig := by rw [settle_cl]
@[simp] theorem settle_cl_rotated (s : State) (m : Fin 12) : ((settle s).cl m).rotated = (s.cl m).rotated := by rw [settle_cl]
@[simp] theorem settle_cl_inStage (s : State) (m : Fin 12) : ((settle s).cl m).inStage = (s.cl m).inStage := by rw [settle_cl]
@[simp] theorem settle_cl_pimgStage (s : State) (m : Fin 12) : ((settle s).cl m).pimgStage = (s.cl m).pimgStage := by rw [settle_cl]
@[simp] theorem settle_cl_imgGap (s : State) (m : Fin 12) : ((settle s).cl m).imgGap = (s.cl m).imgGap := by rw [settle_cl]
@[simp] theorem settle_cl_adc (s : State) (m : Fin 12) : ((settle s).cl m).adc = (s.cl m).adc := by rw [settle_cl]

end Sys2Proof.Machine
end

