-- ==== Sys2Proof/Laws/Engine.lean ====
section
/-! SUPPORT. The issue of one instruction of a port engine: what it comes to where nothing stands in its way, and what an
instruction on registers leaves as it was. -/

namespace Sys2Proof

theorem vget_vupd {α : Type} {n : Nat} (v : Vector α n) (i j : Fin n) (f : α → α) :
    vget (vupd v i f) j = if j = i then f (vget v i) else vget v j := by
  unfold vget vupd vset
  rw [Vector.getElem_set]
  by_cases h : i = j
  · subst h; simp [vget]
  · have h1 : ¬ i.val = j.val := fun e => h (Fin.ext e)
    have h2 : ¬ j = i := fun e => h e.symm
    simp [h1, h2]

@[simp] theorem vget_vupd_self {α : Type} {n : Nat} (v : Vector α n) (i : Fin n) (f : α → α) :
    vget (vupd v i f) i = f (vget v i) := by simp [vget_vupd]

theorem vget_vset {α : Type} {n : Nat} (v : Vector α n) (i j : Fin n) (x : α) :
    vget (vset v i x) j = if j = i then x else vget v j := vget_vupd v i j fun _ => x

theorem vupd_vupd {α : Type} {n : Nat} (v : Vector α n) (i : Fin n) (f g : α → α) :
    vupd (vupd v i f) i g = vupd v i fun x => g (f x) := by
  unfold vupd vset vget
  simp [Vector.set_set]

namespace Machine

@[simp] theorem eng_updEng_self (s : State) (n : Fin 12) (e : Fin 14) (f : Engine → Engine) :
    (s.updEng n e f).eng n e = f (s.eng n e) := by
  simp [State.eng, State.cl, State.updEng, State.updCl]

theorem eng_updEng_other (s : State) (n m : Fin 12) (e d : Fin 14) (f : Engine → Engine) (h : ¬(m = n ∧ d = e)) :
    (s.updEng n e f).eng m d = s.eng m d := by
  simp only [State.eng, State.cl, State.updEng, State.updCl, vget_vupd]
  by_cases hm : m = n
  · have hd : ¬ d = e := fun x => h ⟨hm, x⟩
    simp [hm, vget_vupd, hd]
  · simp [hm]

theorem updEng_updEng (s : State) (n : Fin 12) (e : Fin 14) (f g : Engine → Engine) :
    (s.updEng n e f).updEng n e g = s.updEng n e fun x => g (f x) := by
  simp [State.updEng, State.updCl, vupd_vupd]

theorem cl_updEng (s : State) (n m : Fin 12) (e : Fin 14) (f : Engine → Engine) :
    (s.updEng n e f).cl m = { s.cl m with engines := ((s.updEng n e f).cl m).engines } := by
  simp only [State.cl, State.updEng, State.updCl, vget_vupd]
  split
  · rename_i h; subst h; rfl
  · rfl

/-- An instruction that changes its own engine alone. -/
theorem engineOnly_updEng (s : State) (n : Fin 12) (e : Fin 14) (t : Nat) (f : Engine → Engine) :
    EngineOnly s (settle ((s.at t).updEng n e f)) n e where
  memory := fun a => by rw [settle_byte]; rfl
  regs := fun a k hk hc _ => by rw [regSel_settle _ a k hk hc]; rfl
  engines := fun m d h => by rw [settle_eng, eng_updEng_other _ _ _ _ _ _ h]; rfl
  pacers := fun m => by rw [settle_cl_pacers, cl_updEng]; rfl
  conduits := fun m => by rw [settle_cl_conduits, cl_updEng]; rfl
  locks := fun m => by rw [settle_cl_lock, cl_updEng]; rfl
  pins := fun k => settle_pin_source _ k
  others := by constructor <;> simp

/-- Nothing stands in the way of an instruction: it comes to what it does. -/
theorem issue_go {s : State} {n : Fin 12} {e : Fin 14} {op : EngOp} (s2 : State) (h : Issues s n e) (hl : engLegal op = true)
    (hs : op ≠ .sync) (hr : op ≠ .retT ∨ (s.eng n e).ta = true) (hd : engDo (advance s n e op) n e op = .go s2)
    (h1 : (s2.eng n e).haltPending = none) (h2 : (s2.eng n e).stepping = false) : engIssue s n e op = s2 := by
  have hl' : (!engLegal op || (decide (op = .retT) && !(s.eng n e).ta)) = false := by
    rcases hr with hr | hr <;> simp [hl, hr]
  have ha : afterInstr s2 n e = s2 := by
    unfold afterInstr; simp [h1, h2]
  have hx := h.inLock
  unfold engIssue
  simp [h.can, h.noDog, h.noBreak]
  unfold issueCore
  simp only [hl', Bool.false_eq_true, if_false, ge_iff_le]
  rw [if_neg hx, hd]
  simp [hs, ha]

/-- The normal form of an instruction that works on its own engine. -/
theorem issue_updEng {s : State} {n : Fin 12} {e : Fin 14} {op : EngOp} (f : Engine → Engine) (h : Issues s n e)
    (hl : engLegal op = true) (hs : op ≠ .sync) (hr : op ≠ .retT ∨ (s.eng n e).ta = true)
    (hd : engDo (advance s n e op) n e op = .go (s.updEng n e f))
    (h1 : (f (s.eng n e)).haltPending = none) (h2 : (f (s.eng n e)).stepping = false) : engIssue s n e op = s.updEng n e f :=
  issue_go _ h hl hs hr hd (by simpa using h1) (by simpa using h2)

/-- The instant of a command stands in the way of nothing. -/
theorem Issues.at {s : State} {n : Fin 12} {e : Fin 14} (h : Issues s n e) (t : Nat) : Issues (s.at t) n e :=
  ⟨h.can, h.noDog, h.noBreak, h.noHalt, h.noStep, h.inLock⟩

end Machine

end Sys2Proof
end

