-- ==== Sys2Proof/Tests/States.lean ====
section
/-! SUPPORT. Small states on which the tests and the witnesses of the statements stand. -/

namespace Sys2Proof.Tests

open Sys2Proof.Machine

/-! A node of a ring. -/

/-- A port that carries traffic. -/
def portUp : LinkPort := { LinkPort.init with state := .up }

/-- Cast tables of node 5 on ring 0 of four nodes. -/
def tables : CastTables :=
  { ring := 0, node := 5, size := 4, posB := 2, entries := [], groups := [(4000, [5, 6])], routes := [], jointEn := false, jointPort := false
    jointPeer := 0 }

/-- An owned cue and a subscribed one, each mirrored. -/
def cueOwned : CueEntry :=
  { ix := 0, owned := true, mode := 3, depth := 1, carry := false, len := 4, posA := 100, posB := 200, limit := 8, cross := 0, id := 7
    addr := 0x20, wing := none, follow := 0 }
def cueSubscribed : CueEntry := { cueOwned with ix := 1, owned := false, posA := 300, posB := 400, id := 8, addr := 0x30 }

/-- A cue sheet: prompters 5 and 6. -/
def sheet : CueSheet :=
  { lenq := 40000, evpos := 2000, id := 9, tSmp := 1000, tLat := 2000, tFlp := 3000, entries := [cueOwned, cueSubscribed], relay := []
    guard := [⟨.a, 100, 4, .owned⟩, ⟨.b, 200, 4, .owned⟩], tcrc := 0, maa := 0, mab := 0, mba := 0, mbb := 0, nodeA := 5, claimA := 3
    nodeB := 6, claimB := 2 }

/-- A cluster with one engine, an IN and a SNAP region, and a pin image word. -/
def section0 : ClusterCfg :=
  { crc := 0, engines := [⟨0, false, 8, [], []⟩], pins := List.replicate 12 ⟨0, 0, 0, 0⟩, pacers := List.replicate 16 (some 0)
    conduits := List.replicate 15 (some (false, 0)) ++ [some (true, 0)], units := [some 0, none]
    regions := [⟨.inn, true, 0, 0x100, 2, 0x40⟩, ⟨.snap, false, 0, 0x200, 2, 0x1BE⟩], pimg := some 0x7FFF, sched := List.replicate 16 0
    avg := [0, 0], shared := [] }

/-- A stagebook. -/
def book : Stagebook :=
  { gen := 1, signed := false, cast := tables, sheet := sheet, cueCrc := 0, guardCrc := 0, regs := [], health := some 0x50, cmp := none
    clusters := [(0, section0)] }

/-- Node 5 of ring 0: stagebook A in force, both ports up, core 0 accepted, the barrier trained, cluster 0 online with one engine that
runs, the power die running on two good feeds. -/
def node : State :=
  { State.reset with
    links := #v[portUp, portUp]
    lead := { LeadState.init with
      cores := #v[{ CoreState.init with claim := .c12, fieldClaim := .c12 }, { CoreState.init with claim := .c8, fieldClaim := .c8 }]
      starting := false }
    fab := { FabState.init with node := 5, cast := true, castOk := true, tables := some tables }
    bar := #v[{ BarDirState.init with trained := true }, { BarDirState.init with trained := true }]
    start := { StartState.init with latched := true, lnkApplied := true, bypassLow := false }
    streams := #v[{ EventStream.init with open_ := true }, { EventStream.init with open_ := true }]
    cue := { CueState.init with banks := #v[some sheet, none], placed := true }
    time := { TimeState.init with sValid := true, locked := true }
    store := { StoreState.init with
      slots := #v[⟨.live, 0, true, some book⟩, .init], force := some false, scanned := true, applied := true, pwrApplied := true }
    clusters := vset State.reset.clusters 0 { Cluster.init with
      cfg := some section0, online := true, engines := vset Cluster.init.engines 0 { Engine.init with run := .running, phys := some 0 } }
    claimGap := false
    timeGap := false
    power := { PowerState.init with
      feeds := Vector.replicate 2 ⟨.good, 2400, 100, 0, true, true, false⟩
      vpwr := 2400, huVolts := 2500, link := true, started := true, sectioned := true } }

/-! The barrier. -/

/-- A message on the lanes of its direction. -/
def flight (m : BarMsg) : BarFlight := ⟨m, 0, 0, 0, true, false, .none, false⟩

/-- A message that nothing has passed yet. -/
def ready (m : BarMsg) : BarReady := ⟨m, []⟩

def msgImage : BarMsg := ⟨.imageOut, .imageOut .c0 11 0 0x100 [7]⟩
def msgSignal : BarMsg := ⟨.signal, .event 1 0x8000⟩
def msgAccess : BarMsg := ⟨.regAccess, .regAccess 0 .bridge 0x3C7FFE 1 (some [7]) true⟩

/-- Messages of a direction, on the lanes or waiting. -/
def carrying (d : BarDir) (f : List BarFlight) (r : List BarReady) : State := node.updBar d fun b => { b with flight := f, ready := r }

/-- A direction whose lanes, or spares, have failed. -/
def lanes (d : BarDir) (failed active : BitVec 10) (toReplace : List Nat) : State :=
  node.updBar d fun b => { b with failed := failed, active := active, toReplace := toReplace }

/-- Messages of every row as they arrive, and the direction they cross in. -/
def msgClaim : BarMsg := ⟨.claim, .claim .c1 12⟩
def msgFault : BarMsg := ⟨.faultReport, .faultReport 0x90 1 2 0 false true⟩
def msgTime : BarMsg := ⟨.timeSync, .timeSync 1 true true 1 1 1⟩
def msgPublish : BarMsg := ⟨.imageIn, .publish 0x7FFF [7]⟩
def msgSnapshot : BarMsg := ⟨.imageIn, .snapshot 0x1BF [7]⟩
def msgConduit : BarMsg := ⟨.signal, .conduit 11 15 [7]⟩
def msgChunk (first last : Bool) (ws : List Word) : BarMsg := ⟨.chunk, .chunk 1 true true first last ws⟩
def msgChain : BarMsg := ⟨.debugMsg, .chain [7]⟩

/-- A message of a direction arrives. -/
def arriving (d : BarDir) (m : BarMsg) : State := carrying d [flight m] []

/-- Slot B's sections are being staged for an update, and the first words of the first have come. -/
def staging (m : BarMsg) : State := (arriving .hf m).updStore fun x => { x with upd := some (true, 1), incoming := [1, 0, 0] }

/-- A claim that has been accepted and comes again. -/
def claimAgain : BarFlight := { flight msgClaim with accepted := true }

/-- Messages acknowledged, refused, and due again. -/
def acked : BarFlight := { flight msgAccess with answer := .ack }
def nacked : BarFlight := { flight msgAccess with answer := .nack }
def dueAgain : BarFlight := { flight msgAccess with again := true }

/-- A message that an image word has passed. -/
def passedOnce : BarReady := ⟨msgAccess, [.imageOut]⟩

/-- The direction F to H retrains, or has never trained. -/
def retraining : State := (carrying .fh [flight msgImage, dueAgain] []).updBar .fh fun b => { b with retraining := true }
def untrained : State := node.updBar .fh fun b => { b with trained := false }

/-- A core's margin monitor one measurement before it warns. -/
def nearWarning : State :=
  (node.setReg LU_MGN_THR 0x0804).updCore .c1 fun c => { c with margin := { c.margin with warn := ⟨3, true, none⟩ } }

/-- `node` with a cluster configured as cluster 0 is, and both cores' words for it. -/
def imaged (ws : List (DWord × Nat × Word)) : State :=
  node.updCl 0 fun c => { c with inStage := #v[ws, []], pimgStage := #v[some (0, 0xFFF), none] }

/-! The ring links. -/

/-- `node` with another west port, and with streams outside the event region. -/
def west (l : LinkPort) : State := node.updLink .west fun _ => l
def closed : State := { node with streams := #v[.init, .init] }

/-- Ports in the states of R44, and the lane reports that end training. -/
def portDown : LinkPort := { LinkPort.init with state := .down }
def portTraining : LinkPort := { LinkPort.init with
  state := .training, lanes := #v[{ Lane.init with number := 0, far := 2 }, { Lane.init with number := 1, far := 2 }] }
def portTangled : LinkPort := { portTraining with lanes := #v[.init, .init] }
def portSync : LinkPort := { LinkPort.init with state := .sync, far := 2, lsRun := 4 }
def portNoisy : LinkPort := { portUp with werrs := [0] }
def portDegraded : LinkPort := { portUp with state := .degraded }
def portHeld : LinkPort := { LinkPort.init with held := true }

/-- Ports enabled, a word error in 1 ms degrades a port, and a degraded port is trained anew. -/
def enabled (l : LinkPort) : State := ((west l).setReg LNK_CTRL 0xE000).setReg LNK_DEG_THR 0x0100

/-- An ECHO_REQ with tag 9 has been sent at both ports. -/
def echoed : State := node.updTime fun x => { x with echo := #v[⟨[], [(9, 0, 0)]⟩, ⟨[], [(9, 0, 0)]⟩] }

/-- A frame passes on both rings, with an interjection open or not. -/
def passing : Passing := ⟨20, false, 2, []⟩
def framed (inter : Bool) : State :=
  { node with streams := Vector.replicate 2 { EventStream.init with open_ := true, frame := some passing, interDue := inter } }

/-- Both rings run by the sheet, and the hub's guardian table has failed its check or not. -/
def running (tblerr : Bool) : State :=
  ({ node with links := Vector.replicate 2 { portUp with inUse := true } }).updGuard fun g => { g with tblerr := tblerr }

/-! The cue sheet and its roles. -/

/-- `node` with another cue sheet in force. -/
def withSheet (c : CueSheet) : State := node.updCue fun x => { x with banks := #v[some c, none] }

/-- `node` after the marker of cycle 4 at instant 0 on both rings. -/
def tracking : State :=
  node.updCue fun x => { x with track := Vector.replicate 2 { RingTrack.init with seen := true, cycle := 4, closed := some 3 }, cycle := 4 }

/-- The node sends the markers as active prompter, in cycle 1, whose marker is still to leave. -/
def prompter : State :=
  (node.updPrompter fun p => { p with active := true }).updTime fun x => { x with sCycle := 1 }

/-- Its guardian has ended for good. -/
def muted : State := prompter.updGuard fun g => { g with dead := true }

/-- The node is line head of ring A and of ring B and has not begun, with markers seen before. -/
def lineHead : State := tracking.updCue fun x => { x with lines := Vector.replicate 2 { LineHead.init with head := true } }

/-- A sheet that the guardian's table does not cover, and timed insertion open. -/
def unguarded : CueSheet := { sheet with guard := [] }
def inserting (c : CueSheet) : State := (withSheet c).updGuard fun g => { g with open_ := true }

/-- A sheet with the subscribed cue alone, and copies of it with its CRC for cycle 0 and with a wrong one. -/
def subscribing : CueSheet := { sheet with entries := [cueSubscribed] }
def copyGood : List RingWord := (cueWords 4 0 8 [1, 2, 3]).map .data
def copyBad : List RingWord := [.data 1, .data 2, .data 3, .data 4]

/-- A copy that has passed its check, and the landing buffer for it. -/
def copy : CopyArrived := ⟨1, .a, 0, [1, 2, 3]⟩
def landing (d : Option (List Word)) : Landing := ⟨1, 0, d, .a, 0⟩
def arrived (l : List Landing) : State := node.updCue fun x => { x with arrived := [copy], landings := l }

/-- A sheet with a relay entry, and a copy of it due in the stream cycle that the prompter sends. -/
def relayEntry : RelayEntry := ⟨.a, 500, 4, 8, false, false⟩
def relayed : RelayCopy := ⟨.a, 500, 0, copyGood⟩
def relaySheet : CueSheet := { sheet with relay := [relayEntry] }
def relaying : State :=
  ((withSheet relaySheet).updPrompter fun p => { p with active := true }).updCue fun x => { x with relays := [relayed] }

/-- The node in the prompter states of R90-R94: listening, with a marker heard or not; with PTP in use and locked; a claim higher than its
own heard; prompter B, which may take over. -/
def listening (heard : Bool) : State := node.updPrompter fun p => { p with listening := true, heard := heard }
def listeningPtp : State := ((listening false).setReg TIM_CFG 0x8000).updHost fun h => { h with ptpLock := true }
def yielding : State := prompter.updPrompter fun p => { p with yield_ := true }
def standby : State :=
  ((withSheet { sheet with nodeA := 6, nodeB := 5 }).updCue fun x =>
    { x with track := Vector.replicate 2 { RingTrack.init with seen := true, cycle := 4 } })

/-- A sheet with a wing slot of its own, timed insertion open and the ring calm, at a phase of a claim. -/
def wingSlot : CueEntry := { cueOwned with ix := 2, wing := some 0 }
def claiming (ph : WingPhase) : State :=
  ((inserting { sheet with entries := [wingSlot] }).updWing fun w => { w with phase := ph }).updCue fun x => { x with calm := 16 }

/-- A prompter with a scene change asked for or armed for a cycle; the cycle it is in is 1. -/
def sceneAsked (c : Word) : State := prompter.setReg CUE_SCN_CYC_L c |>.setReg CUE_SCN_ID 9
def sceneUnsure (c : DWord) : State := prompter.updScene fun x => { x with target := some (c, 9), unconfirmed := true }
def sceneArmed (c : DWord) : State := prompter.updScene fun x => { x with target := some (c, 9), armed := true }

/-! Ring time, pulses and edge stamps. -/

/-- The neighbours' numbers are known, and a delay report of each ring is kept. -/
def report : DelayRep := ⟨true, false, 1, 0, 0, 0, 0⟩
def timed : State :=
  { (node.updFab fun f => { f with east := 6, west := 4 }) with
    time := { node.time with rings := Vector.replicate 2 { RingTime.init with report := some report, loop := 1000 }, ownZero := some 0
                             stepDue := some 5, ofsValid := true, hold := true } }
def stepAhead : State := node.updTime fun x => { x with stepDue := some 5, sValid := false }
def timedPrompter : State := timed.updPrompter fun p => { p with active := true }

/-- An edge stamp waits for every cluster. -/
def stamp : EdgeStamp := ⟨false, false, true, false, 11, 5⟩
def stamped : State := { node with edges := Vector.replicate 12 ⟨[stamp], false⟩ }

/-- The QSPI path has staged a pulse of a width in ns for 200 ns after the present instant, on no pin. -/
def staged (width : Word) : State :=
  ((node.setReg PLS_PU_T_NS_L 200).setReg PLS_PU_WID_L width).setReg PLS_PU_CTRL 0x000F

/-- A program of three pulses on pin 11, and unit 23 with it, between pulses and within one. -/
def program : PulseProg := ⟨0, 8, 16, 3, true, false, 11, 0⟩
def pulsing (active : Option (Nat × Bool)) : State := node.updPu 23 fun u => { u with prog := some program, active := active }

/-! The event streams and the switch. -/

/-- CONTROL transaction frames from node 6: a read addressed to node 5 and one that passes it, and an URGENT one. -/
def frameHere : Frame := Frame.mk' 1 0 1 0x0005 0x0006 3 [0x0000, 0x0000, 0x0000, 0x0041]
def frameOn : Frame := Frame.mk' 1 0 1 0x0007 0x0006 3 [0x0000, 0x0000, 0x0000, 0x0041]
def frameUrgent : Frame := Frame.mk' 0 0 1 0x0007 0x0005 3 [0x0000, 0x0000, 0x0000, 0x0041]

/-- A queued frame. -/
def queued (f : Frame) : QEntry := ⟨f, 6, 0, 0, none, 0⟩

/-- No input has a cell left of its quota. -/
def crowded : State := (List.range 20).foldl (fun s i => s.setRegSel SWQ_QUOTA i 0) node

/-- A frame waits at a port, or at both ring ports with a frame of a class passing on each ring. -/
def waiting (p : Fin 20) (f : Frame) : State := node.updQueue p f.cls fun _ => [queued f]
def waitingOnRings (f : Frame) (inside : Option Nat) : State :=
  (((node.updQueue 0 f.cls fun _ => [queued f]).updQueue 1 f.cls fun _ => [queued f]).updStream .a fun x => { x with inside := inside }).updStream .b
    fun x => { x with inside := inside }

/-- Input 19 is held back by the queue of CONTROL at port 19. -/
def heldBack : State := node.updSw fun w => { w with bp := vset w.bp 19 (some 77) }

/-- A unit without its counterpart. -/
def unmatched : State := node.updSw fun w => { w with compares := [⟨1, 0⟩] }

/-! Discovery, casting, fetching and routing. -/

/-- The prompter of a ring: no roll call runs though one is due; one runs, with its first pages out, once sent or twice; cast notices are
still to be sent. -/
def caller : State := (node.updPrompter fun p => { p with active := true }).updFab fun f => { f with rollDue := [0] }
def rollOut (page : Nat) (resent : Bool) : State :=
  caller.updFab fun f => { f with rolling := true, rollNum := 7, rolls := Vector.replicate 2 ⟨page, 0, 0, resent, false⟩ }
def casting : State :=
  (caller.updFab fun f => { f with castQueue := [⟨⟨[1, 2, 3, 4], 6, true, false, false, 0, 1, 3, 0⟩, 6, false⟩] }).setReg FAB_FETCH_CTRL 0

/-- A roll page of ring A and of ring B as it passes, and as it returns: full, or with its last entry. -/
def rollFrame (p : List Word) : Frame := Frame.mk' 1 1 0x10 0x0FFF 0x0006 0 (p ++ List.replicate (508 - p.length) 0)

/-- A cast notice that gives this node number 4,095, on the ring's loop of 100. -/
def castOwn : List Word := ownUid ++ [0x0FFF, 1, 99, 100, 0, 0x8000]

/-- A number is to be adopted. -/
def adopting : State := node.updFab fun f => { f with adopt := some (9, false, true) }

/-- Fetches: none while the stagebook is another node's; under way from a source; failed. -/
def lost : State := node.updFab fun f => { f with node := 9 }
def unnumbered : State := node.updFab fun f => { f with node := 0 }
def fetching (src state : Nat) : State :=
  node.updFab fun f => { f with west := 4, east := 6, fetch := { FetchState.init with src := src, state := state, node := 5 } }

/-- A joint. -/
def joint : State := node.updFab fun f => { f with tables := some { tables with jointEn := true, routes := [(1, 5, 6)] } }

/-! Transactions and signals. -/

/-- Requests of node 6 for the last two publish words, with the guard of cell 15 or without; a signal. -/
def source : Issuer := ⟨0, 6, 1⟩
def request : Request := ⟨source, 3, 9, 1, false, 1, false, 0, 0x407FFC, 0, 1, [7, 8]⟩
def requestGuarded : Request := { request with cg := true, cell := 15 }
def requestCell : Request := { request with cell := 15 }
def requestCancel : Request := { request with set := 5 }

/-- Cell 15 held by the source of the requests above, or by another. -/
def cellHeld (o : Issuer) : State := node.updBrg fun b => { b with cells := vset b.cells 15 ⟨some o, 0⟩ }

/-- The target locked for a request. -/
def locked : State := node.updBrg fun b => { b with lock := some ⟨source, 0x407FFC, 1, 0⟩ }

/-- Locks are refused. -/
def lockless : State := node.setReg BRG_CTRL 0x8000

/-- The inbox is full. -/
def signalsFull : State := node.updBrg fun b => { b with inbox := List.replicate 32 ⟨source, 0, 0, 0⟩ }

/-- A request served before, or still under way. -/
def served : DupEntry := ⟨source, 3, 9, some ⟨0, [7, 8]⟩, true, false, .rd⟩
def underWay : DupEntry := ⟨source, 3, 5, none, false, false, .wr⟩
def filtered (d : DupEntry) : State := node.updBrg fun b => { b with dups := [d] }

/-- A descriptor of endpoint 31 for node 3,999, and one for a span of nodes. -/
def descriptor (op : TxnOp) : Descriptor := ⟨31, op, 0, 3999, 0, false, 0, false, 0, 0x400000, 0, 0, [7]⟩
def descriptorSpan (first count : Nat) : Descriptor := { descriptor .rd with dnode := first, count := count }
def descriptorNowhere : Descriptor := { descriptor .rd with dnode := 0 }

/-- A request of endpoint 31 that is open with tag 63, with attempts left or not; all its tags in use; a descriptor held. -/
def openRequest (attempts : Nat) : OpenReq := ⟨descriptor .rd, 63, 4, attempts, [], [], .plain⟩
def opened (attempts : Nat) : State := node.updBrg fun b => { b with opens := [openRequest attempts] }
def retrying : State := (opened 0).setRegSel BRG_EP_CFG 31 0x1000
def tagsOut : State :=
  node.updBrg fun b => { b with opens := (List.range 64).map fun k => ⟨descriptor .rd, k, k, 0, [], [], .plain⟩ }
def heldRequest : HeldReq := ⟨descriptor .rd, .plain⟩
def holding : State := node.updBrg fun b => { b with eps := vupd b.eps 31 fun e => { e with held := [heldRequest] } }
def holdingSignal : State := node.updBrg fun b => { b with eps := vupd b.eps 31 fun e => { e with heldSigs := [descriptor .sig] } }

/-- A staging set of endpoint 31 that is closing, with nothing failed or a node that failed. -/
def closingSet (failed : Option (Nat × Nat)) : OpenSet := ⟨31, 255, 1, 0, failed, some .plain⟩
def closingState (failed : Option (Nat × Nat)) : State := node.updBrg fun b => { b with sets := [closingSet failed] }

/-- An entry of the signal table for a source that is pending, whose signal this node takes; a signal and a far error that wait. -/
def forwarding : State :=
  ((({ node with heard := (1, 0) }).setRegSel SIG_FWD_SRC 7 0x8010).setRegSel SIG_FWD_DST 7 0x0005).setRegSel SIG_FWD_NUM 7 0x00FF
def logged : State :=
  node.updBrg fun b => { b with inbox := [⟨source, 255, 7, 8⟩], ferr := [⟨false, .wr, stUNMAPPED, source, 63, 0xFFFF, 0x408000⟩] }

/-! Clusters, pacers and conduits. -/

/-- Cluster 0 while a physical engine is tested, while it waits for binding, offline, and with rotation enabled. -/
def testing : State := node.updPhys 0 15 fun p => { p with testing := true }
def binding : State := node.updCl 0 fun c => { c with online := false, binding := true, engines := Cluster.init.engines }
def clusterOff : State := node.updCl 0 fun c => { c with online := false, engines := Cluster.init.engines }
def rotating : State := node.setReg (CLU_CTRL 0) 0x8000

/-- Engine 0 migrates from physical engine 0 to 15. -/
def migration (c : MigCause) (stopped : Bool) : Migration := ⟨0, 0, 15, c, stopped⟩
def migrating (c : MigCause) (stopped : Bool) : State :=
  (rotating.updCl 0 fun x => { x with mig := some (migration c stopped) }).updEng 0 0 fun x => { x with safe := true }

/-- Engine 0 after a first expiry of its watchdog; before its SYNC with a deadline; in a dark or a stalled instruction; in intermission. -/
def expired : State := node.updEng 0 0 fun x => { x with wdFirst := true }
def unsynced : State := (node.updEng 0 0 fun x => { x with synced := false }).setRegSel (CLU_ENG_DL 0) 0 1
def darkIn (op : EngOp) : State :=
  (node.updEng 0 0 fun x => { x with dark := some op, rise := 0x800, regs := vset x.regs 15 7 }).updConduit 0 14 fun c => { c with inw := [7] }
def stalledIn (op : EngOp) : State :=
  (node.updEng 0 0 fun x => { x with stall := some op, regs := vset x.regs 15 7 }).updPacer 0 15 fun p => { p with cfg := 0x4000 }
def intermission : State := { node.updHost fun h => { h with intm := .inside } with fintm := true }

/-- Pacer 15: PWM mode within a period, asynchronous and synchronous sending with two bits left. -/
def pacerPwm : Pacer := { Pacer.init with cfg := 0xC000, per := 100, cnt := 99, nextCnt := some 0, dataOut := true }
def pacerHigh : Pacer := { pacerPwm with nextTick := 1 }
def pacerAsync : Pacer := { Pacer.init with cfg := 0x6000, out := some [true, false] }
def pacerSync : Pacer := { Pacer.init with cfg := 0x4020, out := some [true, false] }
def pacing (p : Pacer) : State := node.updPacer 0 15 fun _ => p

/-- Words of conduit 14 (frames) or 15 (descriptors) that have reached the hub, or an item that goes in. -/
def assembled (q : Fin 16) (ws : List Word) : State := node.updConduit 0 q fun c => { c with asm := ws }
def goingIn : State := node.updConduit 0 14 fun c => { c with hubIn := [[7, 8]], inPart := true }

/-! Port engine instructions: engine 0 of cluster 0, which `node` runs. -/

/-- Words in w14 and w15, a word in w0. -/
def registers (a b c : Word) : State := node.updEng 0 0 fun x => { x with regs := vset (vset (vset x.regs 14 a) 15 b) 0 c }

/-- The engine in a trap, with flags in its record. -/
def trapped : State := (node.updEng 0 0 fun x => { x with ta := true }).setWord 0x1087FA 0x000F

/-- The lock held by the engine, after a number of instructions, or by engine 13. -/
def lockHeld (e : Fin 14) (k : Nat) : State := (node.updCl 0 fun c => { c with lock := some e }).updEng 0 0 fun x => { x with lockCount := k }

/-- Both edges of pin 11 latched, its filtered level 1 and its source the engine. -/
def pinned : State :=
  ((node.updEng 0 0 fun x => { x with rise := 0x800, fall := 0x800, regs := vset x.regs 15 0xFFF }).updPin 11 fun q => { q with filt := true }).updCl 0
    fun c => { c with cfg := some { section0 with pins := List.replicate 11 ⟨0, 0, 0, 0⟩ ++ [⟨0, 0, 1, 0⟩] } }

/-- Pacer 15 in SHIFT mode with its buffers full or empty. -/
def shifting (tx rx : Option Word) : State := node.updPacer 0 15 fun p => { p with cfg := 0x4000, tx := tx, rx := rx }

/-- Conduit 14 with words that go out and in. -/
def conduits (out inw : List Word) : State := node.updConduit 0 14 fun c => { c with out := out, inw := inw }

/-- Pacers and conduits of another engine. -/
def disowned : State :=
  node.updCl 0 fun c => { c with cfg := some { section0 with
    pacers := List.replicate 16 (some 1), conduits := List.replicate 16 (some (false, 1)) } }

/-! Field pins and converters. -/

/-- Pin 11 of cluster 0 with a filter of 5 ns and a toggle limit of 8 or of 0, whose raw level has changed 10 ns ago, with edges stamped. -/
def edge : EdgeStamp := ⟨false, false, true, false, 11, 5⟩
def filtering (limit : Bool) (p : Pin) : State :=
  ((({ node with now := 10 * nsT }).setReg (PLS_ES_RISE 0) 0x800).updPin 11 fun _ => p).updCl 0 fun c => { c with cfg := some { section0 with
    pins := List.replicate 11 (PinCfg.mk 0 0 0 0) ++ [PinCfg.mk (if limit then 4 else 0) 0 0 0] } }
def pinChanged : Pin := { Pin.init with raw := true, stamp := some edge }
def pinBusy : Pin := { pinChanged with accepted := List.replicate 9 (9 * nsT) }
def pinLimited (k : Nat) : Pin := { Pin.init with raw := true, inner := true, limited := true, windowCount := k }

/-- Channel 1 of cluster 0 in every slot or in none, with a conversion that waits and a period of the stuck detector begun. -/
def converting (slot steps : Nat) (v : Word) (excess stuck : Bool) : State :=
  ((((node.setRegSel ADC_STUCK 1 0x0101).setRegSel ADC_LIM_LO 1 0x1000).setRegSel ADC_LIM_HI 1 0xF000).updCl 0 fun c => { c with
    cfg := some { section0 with pins := List.replicate 12 ⟨0x8000, 0, 0, 0⟩, sched := List.replicate 16 slot } }).updAdc 0 fun a =>
      { a with calStep := steps, chans := vset a.chans 1 { AdcChan.init with
        waiting := some (v, 0, excess), lowRun := 2, highRun := 2, stuckFirst := some 7, stuck := stuck } }

/-! The CAN FD controllers. -/

/-- Controller 3, enabled or not; with settings of R343 or without; with its configuration taken at the last enable. -/
def canBus (en ok : Bool) (x : CanCtl) : State :=
  ((((node.setReg (CAN_CTRL 3) (if en then 0x8000 else 0)).setReg (CAN_NBT_L 3) (if ok then 0x9530 else 0)).setReg (CAN_DBT_L 3) 0x1304).setReg
    (CAN_PINS 3) 0x0B00).updCan 3 fun _ => x
def canRecord : CanTx := ⟨0x0002, 0, 0x07FF, 0, [7]⟩
def canCtl (p : CanPhase) : CanCtl := { CanCtl.init with phase := p, conf := [0xA000] }
def canSending (flush : Bool) (tec : Nat) : CanCtl :=
  { canCtl .active with tx := [canRecord, canRecord], txBusy := true, flushHead := flush, txErr := tec }
def canIdle : CanCtl := { canCtl .active with tx := [canRecord] }

/-- Filter 31 admits every frame, for the receive FIFO or the spotlight; the receive FIFO is full or not. -/
def canFilter (kind : Word) (rx : Nat) : State :=
  (canBus true true { canCtl .active with rx := List.replicate rx ⟨0, 0, 0, 0, [], []⟩, lost := true }).setRegSel (CAN_FLT_CFG 3) 31 kind

/-- A record staged by QSPI with or without its data, the transmit FIFO with entries. -/
def canStaged (n : Nat) (data : List Word) : State :=
  ((canBus true true { CanCtl.init with tx := List.replicate n canRecord, txData := Vector.replicate 5 data, dataPort := Vector.replicate 5 data
                                        }).setRegSel (CAN_TX_W 3 0) 2 2).setRegSel (CAN_TX_W 3 0) 0 2

/-- Entries in the spotlight and in the receive FIFO, with the CAN service forwarding or not. -/
def canRead : CanEntry := ⟨2, 0, 0x07FF, 0x6000, [0, 0, 0, 5], [7]⟩
def canHolding (fwd : Bool) (spot rx : List CanEntry) : State :=
  let s := (((canBus true true { canCtl .active with spot := spot, rx := rx }).setReg (CAN_CTRL 3) (if fwd then 0x8100 else 0x8000)).setReg
    (CAN_FWD_DST 3) 0x0F9F).setReg (CAN_FWD_SUB 3) 0x60FF
  { s with links := Vector.replicate 2 { portUp with inUse := true } }

/-! The retained store. A whole stagebook stands in slot B, signed with the key of slot 1; its hardware record is signed with the key of
slot 0 (R369, R371-R373). -/

/-- The cells of a run of words. -/
def cellsAt (a : Nat) : List Word → List Host.Cell
  | [] => []
  | w :: t => [(a, w.extractLsb' 8 8), (a + 1, w.extractLsb' 0 8)].filter (fun x => x.2 != 0) ++ cellsAt (a + 2) t

def bookWords : List Word := [
  0x5354, 0x424B, 0x0100, 0x5C19, 0, 0x0088, 0, 2, 9, 0x8000, 1, 0, 0, 0x8C88, 0x2400, 2, 0, 0, 0x579F, 0x8C97, 3, 0, 0, 0x1E92,
  0xEB1A, 4, 0, 0, 0xE571, 0xC00E, 5, 0, 0, 0xAC7C, 0xA783, 6, 0, 0, 0x776B, 0x0F14, 7, 0, 0, 0x3E66, 0x6899, 8, 0, 0, 0x846C,
  0x448B, 0x000C, 0, 0x0020, 0xC761, 0x8886, 0x31F8, 0x3828, 0x35F7, 0xE991, 0x32DF, 0x7248, 0x9275, 0x891B, 0x221F, 0x8814,
  0x5571, 0x6773, 0xF442, 0x4B59, 0xE3B0, 0xC442, 0x98FC, 0x1C14, 0x9AFB, 0xF4C8, 0x996F, 0xB924, 0x27AE, 0x41E4, 0x649B,
  0x934C, 0xA495, 0x991B, 0x7852, 0xB855, 0xBC39, 0x8AB5, 0x04EA, 0xB405, 0x20F6, 0x7082, 0x5557, 0x5AD7, 0x41BA, 0xEDB8,
  0xA176, 0xA14A, 0x1D07, 0x8829, 0xD068, 0x5892, 0xB0B1, 0x0793, 1, 0x1895, 0x8419, 0xA4D0, 0x328B, 0xAAB4, 0xC634, 0x48A6,
  0xA49B, 0x2751, 0x2672, 0x9125, 0xA8D1, 0x1209, 0xBADD, 0x7375, 0x25DF, 0x04EA, 0xB405, 0x20F6, 0x7082, 0x5557, 0x5AD7,
  0x41BA, 0xEDB8, 0xA176, 0xA14A, 0x1D07, 0x8829, 0xD068, 0x5892, 0xB0B1, 0x0793]

def publicKeys : List Word := [
  0xD5B0, 0x79F0, 0xE453, 0xA72E, 0x99B5, 0x26AB, 0x5011, 0x69EA, 0x0957, 0xEADE, 0x63AF, 0x38C5, 0x3727, 0x6E5B, 0xC5A3,
  0x67DA, 0x41A1, 0x2DD6, 0x4C95, 0xDE39, 0x3DE1, 0x77D9, 0xE88E, 0x5CE8, 0xFF48, 0x2A6B, 0x344B, 0x23DF, 0x7997, 0x1C4F,
  0x2DFF, 0xE74B, 0xBE48, 0x5476, 0x75D3, 0x363E, 0xEF8A, 0x887C, 0x8A0B, 0x2330, 0x6A83, 0xD859, 0x7182, 0x9725, 0xC9CC,
  0x65E3, 0x69C0, 0x6770, 0x631C, 0xA1CE, 0xE03F, 0xCD19, 0xDCA6, 0x21B4, 0xF4B5, 0x311D, 0x2A09, 0x7A1B, 0xD190, 0x3F51,
  0xEBBD, 0xEF13, 0xB5DC, 0xF90C]

/-- `node` with slot B in a state, its content known, and the words above in the store; what its sections spell. -/
def plainBook : Stagebook := { book with clusters := [] }
def bookB : Stagebook := { plainBook with gen := 2, signed := true, cueCrc := 0xE571C00E, guardCrc := 0xAC7CA783 }
def slotB (st : SlotState) (content : Option Stagebook) (words : List Word) : State :=
  { node with
    mem := cellsAt 0x830000 words ++ cellsAt 0x878800 publicKeys
    store := { node.store with keys := #v[1, 1, 0, 0], slots := #v[⟨.live, 0, true, some book⟩, ⟨st, 0, false, content⟩] } }

/-- A command under way; slot A empty beside slot B; a key selected. -/
def storeBusy : State := (slotB .valid (some bookB) []).updStore fun x => { x with sheet := some true }
def alone (st : SlotState) : State :=
  ((slotB st (some bookB) []).updStore fun x => { x with slots := vset x.slots 0 .init }).setReg RST_CTRL 0x8000
def keySelected (k : Nat) : State := (slotB .open_ none []).setRegSel RST_KEY_SEL 0 (wd k)
def keyOfService : State := node.setRegSel RST_KEY_SEL 3 2

/-- The write port at the last words of a slot. -/
def aperture (st : SlotState) : State := ((slotB st none []).setReg RST_WP_ADDR_H 1).setReg RST_WP_ADDR_L 0x7FE0

/-- A kept copy that has arrived, not written yet. -/
def keptCopy : KeptCopy := ⟨4, 1, [7, 8], false⟩
def keeping : State := node.updFab fun f => { f with keptW := some keptCopy }

/-- A record being written, a held one, and live records; the write position near the oldest. -/
def dupWindow (v : Word) : JrnBody := .field BRG_DUP_WIN 0 v 0
def journal (w : Option (JrnBody × Bool)) (h : List JrnBody) (live : List (JrnBody × Nat)) : State :=
  node.updStore fun x => { x with jrn := { x.jrn with writing := w, held := h, live := live, pos := 40000 } }

/-- Before the start-up scan, with memory that holds a record or none; before the choice of a stagebook, with slot A live or not. -/
def unscanned (m : List Host.Cell) : State := { node with mem := m, store := { StoreState.init with scanned := false } }
def unapplied (a : SlotState) : State :=
  node.updStore fun x => { x with applied := false, force := none, slots := vset x.slots 0 ⟨a, 0, true, some book⟩ }

/-- A hitless update with slot B at a step, the understudy at claim 4. -/
def updating (step : Nat) (o : Claim) (due : Option (Core × Nat × ClaimCause)) : State :=
  { node with
    store := { node.store with upd := some (true, step), slots := #v[⟨.live, 0, true, some book⟩, ⟨.valid, 0, false, some bookB⟩] }
    lead := { node.lead with swapDue := due, cores := vupd node.lead.cores 1 fun c => { c with claim := o, phase := .copying } } }

/-! The lead and the understudy. -/

/-- `node` with other cores. -/
def coreAt (c : Claim) (p : CorePhase) (r : List Nat) : CoreState := { CoreState.init with claim := c, fieldClaim := c, phase := p, rejoins := r }
def cores (a b : CoreState) (f : LeadState → LeadState) : State :=
  ({ node with lead := f { node.lead with everLead := true, cores := #v[a, b] } }).setReg LU_CTRL 0xC100
def rejoined : List Nat := [0]
def swapWaits (l : LeadState) : LeadState := { l with swapDue := some (.c0, 0, .swap) }
def equalHeld (l : LeadState) : LeadState := { l with equal := true }
def starting (l : LeadState) : LeadState := { l with starting := true, tested := #v[some false, some false] }

/-- An entry of the history. -/
def histEntry : HistEntry := ⟨.c1, .c8, .c12, .start, 5 * secT⟩
def history : State := node.updLead fun l => { l with hist := [histEntry] }

/-! Faults. -/

/-- A report of the last source of cluster 0 that concerns engines waits at core 0's collector; the source's class; a record handled. -/
def reported (cls : Word) (dry : Bool) (handling : Option Nat) : State :=
  (node.setRegSel FLT_SRC_CFG 0x20A cls).updFlt .c0 fun f => { f with
    inbox := [⟨0x20A, 13, 5 * secT, false, dry⟩], handling := handling, nextId := 4, log := List.replicate 31 ⟨3, .minor, false, false, 0x20A, 5, 0, 0, 0, 0⟩ }

/-- Record 3 is handled, with a reaction that waits. -/
def handled (w : List Reaction) : State := node.updFlt .c0 fun f => { f with handling := some 3, waiting := w }

/-- Source 1,023 held since instant 0 at an instant 64 s later, with so many recoveries. -/
def heldSource (n : Nat) : State :=
  ({ node with now := 65535 * secT }).updHeld 1023 (fun x => { x with held := true, recoveries := List.replicate n (65535 * secT) }) |>.setReg FLT_CTRL 0x0110

/-- The node is dark since instant 0, 65,535 s earlier. -/
def darkNode : State := (({ node with now := 65535 * secT }).updDark fun d => { d with dark := true, src := 1023 }).setReg FLT_CTRL 0x0110

/-- Reports that wait at the field die. -/
def backlogged : State := { node with backlog := [⟨0x9F, 0, 5, 2, false, false⟩] }

/-- The log of core 0 with a record. -/
def recorded : State := node.updFlt .c0 fun f => { f with log := [⟨3, .minor, false, false, 1023, 5 * secT, 63, 1023, 1, 0xFFF⟩] }

/-- Sources chosen for injection at the hub die and at the field die. -/
def chosen (hub field : Word) : State := (node.setReg FLT_INJ_SEL hub).setReg FI_SEL field

/-- A row of the register table. -/
def rowAt (a : Nat) : RegRow := (regRow? a).getD ⟨0, 0, 0, 0, false, 0, 0, false, 0, .one⟩

/-! The power die. -/

/-- `node` with another state of the power die, and PWR_CTRL as in bits 15 (hold-up) and 14 (sharing). -/
def powered (ctrl : Word) (f : PowerState → PowerState) : State := (node.updPower f).setReg PWR_CTRL ctrl

/-- A feed at a voltage in a state. -/
def feedAt (ph : FeedPhase) (v : Nat) : Feed := ⟨ph, v, 100, 0, true, true, false⟩

/-- A feed that OVER has opened, and a state of the path with both feeds in a state. -/
def feedOpened : Feed := { feedAt .good 3199 with closed := false, ovp := true }
def pathAt (ctrl : Word) (ph : PathPhase) (dwell due : Bool) (f : FeedPhase) : State :=
  powered ctrl fun p => { p with path := ph, dwell := dwell, handoverDue := due, returnDue := due, feeds := Vector.replicate 2 (feedAt f 2400) }
def feedOff : State := powered 0xC000 fun p => { p with feeds := vset p.feeds 1 feedOpened }
def storeLow : State := powered 0xC000 fun p => { p with huVolts := 0 }
def stopped (f : FeedPhase) : State :=
  powered 0xC000 fun p => { p with started := false, link := false, feeds := Vector.replicate 2 (feedAt f 901) }

/-- Curtain fall at a step; the link to the power die down, with a write that waits. -/
def curtainAt (step : Nat) : State := { powered 0xC000 fun p => { p with cfStep := step, cfCause := 1, cfStat := 0x5A00 } with
  links := Vector.replicate 2 { portUp with inUse := true } }
def linkDown (w : List (Path × Nat × Word)) : State := powered 0xC000 fun p => { p with link := false, linkWrites := w }

/-- Channel 15 commanded on with a curve of two points and a limit of its model, or not commanded; a diode is fitted. -/
def fused (on : Bool) (tlim : Word) (f : Fuse) : State :=
  ((((({ node with now := 2 * secT }.updFuse 15 fun _ => f).setReg PWR_EF_ON (if on then 0x8000 else 0)).setRegSel (PWR_EF_CUR 0) 15 100).setRegSel
    (PWR_EF_CUR 1) 15 200).setRegSel PWR_EF_TLIM 15 tlim).setRegSel PWR_EF_CFG 15 0x1000
def fuseAt (ph : FusePhase) (cause : Nat) (acc : Frac) (model : Option Frac) : Fuse :=
  { Fuse.init with phase := ph, cause := cause, acc := acc, model := model, delayDone := true, diffSince := some 0 }
def uncheckedTrip : State := (fused true 150 (fuseAt .on 0 ⟨0, 1⟩ none)).setRegSel PWR_EF_INST 15 0

/-! The host ports. -/

/-- Both uplinks up and every host port enabled. -/
def hosting : State :=
  ((({ node with links := Vector.replicate 2 { portUp with inUse := true } }.updHost fun h => { h with
    ups := Vector.replicate 2 { UplinkState.init with up := true } }).setReg HST_CTRL 0xF800).setReg HST_IP_H 0x0A00).setReg HST_IP_L 1

/-- An uplink's input held back; a PAUSE sent before; PAUSE not enabled; links down; PTP on; the same at the active prompter. -/
def uplinksPressed : State := hosting.updSw fun w => { w with bp := vset (vset w.bp 2 (some 0)) 3 (some 0) }
def paused : State := hosting.updHost fun h => { h with ups := Vector.replicate 2 { UplinkState.init with up := true, pausing := true } }
def pauseless : State := hosting.setReg HST_CTRL 0xF000
def unlinked : State := node.setReg HST_CTRL 0xF800
def ptpOn : State := (hosting.setReg TIM_CFG 0x8000).updHost fun h => { h with ptpRun := 15 }
def ptpPrompter : State := ptpOn.updPrompter fun p => { p with active := true }

/-- Senders of envelopes: over Ethernet, and over UDP as the library host. -/
def peerEth : EthPeer := ⟨0xFFFFFFFFFFFF, [], none⟩
def peerUdp : EthPeer := ⟨0x020000000001, [], some (0x0A000002, 0x4000)⟩

/-- A read of node 3,999 as the only item of a request; an item of one word. -/
def readItem : List Word := [0x0F9F, 0, 0, 0x0040, 0]
def requestEnv : List Word := envelope 0 7 [readItem]
def shortEnv : List Word := [0x1000, 7, 5, 1, 1]

/-- The same request under way. -/
def entryOf (i : EnvItem) : EnvEntry := ⟨envKey .ten peerEth 7, peerEth, [i], false, 0⟩
def envUnderWay (i : EnvItem) : State := hosting.updHost fun h => { h with envs := [entryOf i] }
def answered : EnvItem := .done ⟨1, 63, 4, .rd, 0, [7, 8]⟩

/-- Frames that cross a joint, in one RELAY header or three. -/
def crossing (dest : Word) : List Word := (Frame.mk' 1 1 6 dest 0x1006 0 [7]).words
def relayEnv (dest : Word) : List Word := envelope 3 7 [crossing dest]
def relayEnv3 (dest : Word) : List Word := envelope 3 7 [envelope 3 7 [relayEnv dest]]
def joining_ : State := hosting.updFab fun f => { f with tables := some { tables with jointEn := true, routes := [(1, 5, 6)] }, use := vset f.use 1 1 }

/-- The active prompter with a library request forwarded; what the library host answers. -/
def librarian : State :=
  ((((hosting.updPrompter fun p => { p with active := true }).updHost fun h => { h with library := [(3999, 6)] }).setReg HST_LIB_IP_H 0x0A00).setReg
    HST_LIB_IP_L 2).setReg HST_LIB_UDP 0x4000
def libraryEnv (sub : Word) : List Word := envelope 4 7 [[sub, 0, 0, 7]]

/-- The CRC byte of a QSPI frame; endpoint 0 with all its tags in use; completion words that wait; frames without CRC not allowed. -/
def crcByte (ws : List Word) : Byte := BitVec.ofNat 8 (crcWords 8 0x07 0xFF ws)
def qspiPressed : State := hosting.updSw fun w => { w with bp := vset w.bp 4 (some 0) }
def qspiStrict : State := hosting.setReg HST_QS_CFG 0x2000

/-- Intermission entered at the prompter, a reason that has arisen, and a number of entries in its log; position 6,250 of the stream cycle. -/
def resting (w : Nat) : State :=
  (({ prompter with now := 20 * usT }.updHost fun h => { h with
    intm := .inside, reasons := [5], wake := List.replicate w ⟨false, 1, 5⟩ }).setReg HST_WAKE_EN 0xFFFF).updStream .a fun x => { x with frame := none }

/-! Registers, resets and debugging. -/

/-- A guarded sequence armed by QSPI at the hub side or at the field side. -/
def armedHub (a : Nat) (v : Word) : State := node.updPath .qspi fun p => { p with hub := some ⟨a, v, 0⟩ }
def armedField (a : Nat) (v : Word) : State := node.updPath .qspi fun p => { p with field := some ⟨a, v, 0⟩ }

/-- Both sides of the node held in reset. -/
def inReset : State := { node with start := { node.start with hostReset := true, fieldReset := true } }

/-- The debug port: an access under way or not, DBG_CTRL with WR and SCAN or without. -/
def tapped (busy : Bool) (ctrl : Word) : State :=
  (({ node with links := Vector.replicate 2 { portUp with inUse := true } }).updDbg fun d => { d with tap := .dap, dapBusy := busy }).setReg DBG_CTRL ctrl
def dapWaits : State :=
  (tapped true 0x6000).updBrg fun b => { b with opens := [⟨descriptor .rd, 63, 4, 0, [], [], .dap⟩, ⟨descriptor .rd, 62, 3, 0, [], [], .plain⟩] }

/-- Engine 0 halted, by itself or at a stalled instruction, in a cluster whose LOCK was broken; engine 0 holding LOCK. -/
def halted (stall : Option EngOp) : State :=
  (node.updEng 0 0 fun x => { x with run := .halted, haltCause := 1, stall := stall }).updCl 0 fun c => { c with broken := some 0 }
def regSelected (k : Word) : State := (halted none).setRegSel DBG_ENG_REGSEL 0 k

/-- A trace buffer with an entry. -/
def traced : State :=
  (node.setRegSel DBG_TRC_SEL 0 13).setRegSel DBG_TRC_SEL 4 13 |> fun (s : State) =>
    { s with traces := vset s.traces 13 { vget s.traces 13 with entries := [⟨0x13, 0, 0, false, 5 * secT⟩] } }

/-- Ramuth compatibility mode. -/
def ramuth : State := { node with cmp := { node.cmp with inpub := some 0x3FFF } }

/-- The model temperature of a channel after a measurement (R458), as the statement says it. -/
def heated (s : State) (c : Fin 16) (amps : Word) : Rat :=
  let f := s.fuse c
  let i : Rat := amps.toNat / 100
  let tref : Rat := (s.power.temp + (s.ef PWR_EF_TOFS c).toInt) / 2
  let old : Rat := match f.model with | none => tref | some m => fracRat m
  let rds : Rat := (s.ef PWR_EF_RDS c).toNat / 100000 * (1 + (s.ef PWR_EF_TC c).toNat / 10000 * (old - 25))
  let p : Rat := if fuseLive f then i * i * rds else 0
  let pole (n : Fin 3) : Rat :=
    let d := fracRat (vget f.poles n)
    let tau := (s.ef (PWR_EF_TAU n.val) c).toNat
    if tau = 0 then d else d + (p * ((s.ef (PWR_EF_ZTH n.val) c).toNat / 100) - d) / (10 * tau)
  tref + pole 0 + pole 1 + pole 2

/-- The integral of a channel after a measurement (R456), on a curve whose first point is q. -/
def integral (s : State) (c : Fin 16) (amps : Word) (q : Nat × Nat) (more : List (Nat × Nat)) : Rat :=
  let f := s.fuse c
  let j := (more.filter fun x => decide (x.1 ≤ amps.toNat)).getLast?.getD q
  if q.1 ≤ amps.toNat then fracRat f.acc + 1 / (100 * j.2)
  else if fracRat f.acc < 1 / (100 * q.2) then 0 else fracRat f.acc - 1 / (100 * q.2)

end Sys2Proof.Tests
end

