-- ==== Sys2Proof/Tests/Slice0.lean ====
section
/-! SUPPORT. Tests of one command each on small states, ill-formed commands, and for every statement with hypotheses the states and
operands that meet them, one conjunct for each clause, under the command of that clause. -/

namespace Sys2Proof.Tests

open Sys2Proof.Machine

set_option maxRecDepth 100000
set_option Elab.async false
set_option linter.unusedVariables false

/-! One step at a time. -/

/-- The state after a step that finds the command at the front of the queue. -/
def after (c : Instr) (s : State) : State :=
  match step { s with pending := c :: s.pending } with
  | .next t => t
  | _ => s

-- R499's example: LNK_DEG_THR takes 0x0830 from the twin's 0xF7CF, and keeps its value with 0xF7CE.
theorem test_guarded_sequence : (after (.twinWrite .qspi 0x488 0xF7CF true 0) (armedHub LNK_DEG_THR 0x0830)).reg LNK_DEG_THR = 0x0830 ∧
    (after (.twinWrite .qspi 0x488 0xF7CE true 0) (armedHub LNK_DEG_THR 0x0830)).reg LNK_DEG_THR = node.reg LNK_DEG_THR := by decide +kernel

-- R62's example: 31,250 gives 7,812 steps in a cycle with an even number and 7,813 in one with an odd number.
theorem test_cycle_steps : (List.range 4).map (cycleSteps 31250) = [7812, 7813, 7812, 7813] := by decide +kernel

-- R34's code: K28.5 at either disparity, D21.5, and every data character reads back as it was sent.
theorem test_line_code : encodeChar false true 0xBC = 0b0011111010 ∧ encodeChar true true 0xBC = 0b1100000101 ∧
    encodeChar false false 0xB5 = 0b1010101010 ∧
    ((List.range 256).all fun b => [false, true].all fun rd =>
      decide (decodeChar rd (encodeChar rd false (BitVec.ofNat 8 b)) = some (false, BitVec.ofNat 8 b))) = true := by decide +kernel

/-- The snapshot words of R527's example. -/
def snapped : State := ((ramuth.setWord (snapBase + 0) 0x0209).setWord (snapBase + 2) 0x0804).setWord (snapBase + 6) 0x0810

-- R527's example: the image words, and what a read of CMP_R_IN0 latches.
theorem test_ramuth_image : cmpImage snapped = [0x0942, 0x8000, 0x0081] ∧
    (List.range 6).map (cmpIn snapped) = [0x09, 0x42, 0x80, 0x00, 0x00, 0x81] := by decide +kernel

/-- Cluster 0's engine 0 with two registers and the flags. -/
def adder (a b : Word) (c v : Bool) : State :=
  node.updEng 0 0 fun x => { x with regs := vset (vset x.regs 1 a) 2 b, c := c, v := v }

-- R280: C after an addition is the carry, after a subtraction not the borrow; V is signed overflow.
theorem test_add_wraps : ((after (.add 0 0 1 2 0) (adder 0xFFFF 1 false true)).eng 0 0).regs = ((adder 0 1 false false).eng 0 0).regs ∧
    ((after (.add 0 0 1 2 0) (adder 0xFFFF 1 false true)).eng 0 0).c = true ∧
    ((after (.add 0 0 1 2 0) (adder 0xFFFF 1 false true)).eng 0 0).v = false ∧
    ((after (.add 0 0 1 2 0) (adder 0x7FFF 1 false false)).eng 0 0).v = true := by decide +kernel
theorem test_sub_borrows : ((after (.sub 0 0 1 2 0) (adder 0 1 true false)).eng 0 0).c = false ∧
    ((after (.sub 0 0 1 2 0) (adder 1 1 false false)).eng 0 0).c = true ∧
    ((after (.sub 0 0 1 2 0) (adder 1 1 false false)).eng 0 0).z = true := by decide +kernel

-- FIPS 180-4's digest of the 24 bits of "abc" has 32 bytes in order BA7816BF...; here a message of whole words, the 448 bits of its
-- second example.
theorem test_sha256 : sha256 [0x6162, 0x6364, 0x6263, 0x6465, 0x6364, 0x6566, 0x6465, 0x6667, 0x6566, 0x6768, 0x6667, 0x6869, 0x6768, 0x696A, 0x6869,
      0x6A6B, 0x696A, 0x6B6C, 0x6A6B, 0x6C6D, 0x6B6C, 0x6D6E, 0x6C6D, 0x6E6F, 0x6D6E, 0x6F70, 0x6E6F, 0x7071] =
    [0x248D, 0x6A61, 0xD206, 0x38B8, 0xE5C0, 0x2693, 0x0C3E, 0x6039, 0xA33C, 0xE459, 0x64FF, 0x2167, 0xF6EC, 0xEDD4, 0x19DB, 0x06C1] := by decide +kernel

/-! Ill-formed commands, one for each check. -/

/-- A payload one word too long for a notice. -/
def tooLong : List Word := List.replicate 513 0
/-- More data words than a response or a CAN frame holds. -/
def tooMuch : List Word := List.replicate 33 0
/-- A frame whose LEN differs from its payload. -/
def misLen : Frame := { frameHere with payload := [] }
/-- More VLAN tags than an uplink reads, and more words than a datagram holds. -/
def overTagged : EthPeer := { peerEth with tags := [0, 0, 0] }
def overFull : List Word := List.replicate 4501 0

theorem test_ill_formed_notices : ([Instr.lineHeadNotice tooLong 0, .prompterNotice tooLong 0, .sceneNotice tooLong 0, .veto tooLong 0,
    .delayReport tooLong 0, .timeNotice tooLong 0, .pageReturn tooLong true 0, .castNotice tooLong 0, .fetchRequest 0 tooLong 0,
    .fetchData 0 tooLong 0, .routeNotice tooLong false 0].all fun i => !i.wf) = true := by decide +kernel
theorem test_ill_formed_frames : ([Instr.frameHeader .a misLen false 0, .switchInput 0 0 misLen 0, .rollPage .a misLen 0].all fun i => !i.wf) = true := by
  decide +kernel
theorem test_ill_formed_requests : ([Instr.rd, .wr, .pwr, .gwr, .lrd, .lwr, .semacq, .semrel, .stg, .commit, .abort, .sig, .cancel].all fun f =>
    [{ request with src := { source with ring := 16 } }, { request with src := { source with node := 4096 } },
     { request with src := { source with ep := 32 } }, { request with tag := 64 }, { request with seq := 65536 }, { request with cls := 4 },
     { request with len := 32 }, { request with cell := 16 }, { request with addr := 2 ^ 32 }, { request with set := 65536 },
     { request with data := tooMuch }].all fun q => !(f q 0).wf) = true := by decide +kernel
theorem test_ill_formed_descriptors : ([Instr.requestIssue, .range, .commitDescriptor].all fun f =>
    [{ descriptor .rd with ep := 32 }, { descriptor .rd with dring := 16 }, { descriptor .rd with dnode := 4096 },
     { descriptor .rd with count := 4096 }, { descriptor .rd with len := 32 }, { descriptor .rd with cell := 16 },
     { descriptor .rd with addr := 2 ^ 32 }, { descriptor .rd with set := 65536 }, { descriptor .rd with data := tooMuch }].all fun d =>
      !(f d 0).wf) = true := by decide +kernel
theorem test_ill_formed_data : ([Instr.rsp 0 0 0 0 0 tooMuch 0, .canFrameReceive 0 0 0 0 tooMuch 0 0].all fun i => !i.wf) = true := by decide +kernel
theorem test_ill_formed_envelopes : ([Instr.envelopeRequest, .envelopeRelay, .envelopeLibrary].all fun f =>
    !(f .ten overTagged none true [] 0).wf && !(f .ten peerEth none true overFull 0).wf) = true := by decide +kernel
theorem test_ill_formed_words : ([Instr.qspiWrite 0x0001 0 [7] 0 0 0, .qspiSubmit 0x0001 [7] 0 0 0, .extest [] 0, .samplePreload [] 0, .fsample [] 0,
    .fextest [] 0].all fun i => !i.wf) = true := by decide +kernel
theorem test_well_formed : ([Instr.rd request 0, .requestIssue (descriptor .rd) 0, .frameHeader .a frameHere false 0, .qspiWrite 0 0 [7] 0 0 0,
    .envelopeRequest .ten peerEth none true [7] 0].all Instr.wf) = true := by decide +kernel

/-! The hypotheses of the statements, clause by clause: each is met by the state and the operands written here. -/

/-- A command waits at a node that obeys its rules. -/
def ruled : State := { settle node with pending := [.barrierSend .hf 0] }

theorem test_step_keeps_rules_witness : Ruled ruled ∧ step ruled = .next (after (.barrierSend .hf 0) (settle node)) :=
  ⟨⟨by unfold PinsRuled; decide +kernel, by unfold FusesRuled; decide +kernel, by unfold BypassRuled; decide +kernel⟩, rfl⟩

theorem test_barrier_sends_witness :
    -- barrierSend
     ((barPasses ((carrying BarDir.fh [] [ready msgAccess, ready msgImage, ready msgSignal]).bdir BarDir.fh) = true) ∧
      (((carrying BarDir.fh [] [ready msgAccess, ready msgImage, ready msgSignal]).bdir BarDir.fh).ready =
         [ready msgAccess] ++ [ready msgImage, ready msgSignal]) ∧
      (∀ w ∈ [ready msgAccess] ++ [ready msgImage, ready msgSignal],
         ¬(match w.msg.body with
             | BarPayload.conduit cluster conduit words => true
             | x => false) =
             true) ∧
      (∀ w ∈ [ready msgAccess], (ready msgImage).msg.type.rank < w.msg.type.rank) ∧
      (∀ w ∈ [ready msgSignal], (ready msgImage).msg.type.rank ≤ w.msg.type.rank) ∧
      (∀ w ∈ [ready msgAccess] ++ [ready msgSignal], (ready msgImage).msg.type ∉ w.passed)) ∧
    -- barrierSend
     ((barPasses ((carrying BarDir.fh [] [passedOnce, ready msgImage]).bdir BarDir.fh) = true) ∧
      (((carrying BarDir.fh [] [passedOnce, ready msgImage]).bdir BarDir.fh).ready = [passedOnce] ++ [ready msgImage]) ∧
      (∀ w ∈ [passedOnce] ++ [ready msgImage],
         ¬(match w.msg.body with
             | BarPayload.conduit cluster conduit words => true
             | x => false) =
             true) ∧
      ((ready msgImage).msg.type.rank < passedOnce.msg.type.rank) ∧
      ((ready msgImage).msg.type ≠ BarType.claim) ∧
      ((ready msgImage).msg.type ∈ passedOnce.passed)) ∧
    -- linkAck
     ((((carrying BarDir.fh [flight msgImage, acked] []).bdir BarDir.fh).flight = [flight msgImage] ++ [acked]) ∧
      (barPasses ((carrying BarDir.fh [flight msgImage, acked] []).bdir (BarDir_back BarDir.fh)) = true) ∧
      (acked.answer = BarAnswer.ack) ∧
      (∀ g ∈ [flight msgImage], ¬(g.msg.type = acked.msg.type ∧ g.answer = BarAnswer.ack))) ∧
    -- negativeAck
     ((((carrying BarDir.fh [flight msgImage, nacked] []).bdir BarDir.fh).flight = [flight msgImage] ++ [nacked]) ∧
      (barPasses ((carrying BarDir.fh [flight msgImage, nacked] []).bdir (BarDir_back BarDir.fh)) = true) ∧
      (nacked.answer = BarAnswer.nack) ∧
      (∀ g ∈ [flight msgImage], ¬(g.msg.type = nacked.msg.type ∧ g.answer = BarAnswer.nack))) ∧
    -- messageResend
     ((((carrying BarDir.fh [flight msgImage, dueAgain] []).bdir BarDir.fh).flight = [flight msgImage] ++ [dueAgain]) ∧
      (barPasses ((carrying BarDir.fh [flight msgImage, dueAgain] []).bdir BarDir.fh) = true) ∧
      (dueAgain.again = true) ∧
      (∀ g ∈ [flight msgImage], ¬(g.msg.type = dueAgain.msg.type ∧ g.again = true))) ∧
    -- messageTimeout
     ((((carrying BarDir.fh [flight msgImage, acked] []).bdir BarDir.fh).flight = [flight msgImage] ++ [acked]) ∧
      (∀ g ∈ [flight msgImage], g.msg.type ≠ acked.msg.type)) ∧
    -- barrierRetrainDone
     (((retraining.bdir BarDir.fh).flight = [flight msgImage] ++ [dueAgain]) ∧
      ((retraining.bdir BarDir.fh).retraining = true)) := by
  and_intros <;> decide +kernel

theorem test_barrier_delivery_witness :
    -- claim
     (((flight msgClaim).msg = { type := BarType.claim, body := BarPayload.claim Core.c1 12 }) ∧
      (Arrives (arriving BarDir.hf msgClaim) BarDir.hf (flight msgClaim))) ∧
    -- faultReport
     (((flight msgFault).msg = { type := BarType.faultReport, body := BarPayload.faultReport 144 1 2 0 false true }) ∧
      (Arrives (arriving BarDir.fh msgFault) BarDir.fh (flight msgFault))) ∧
    -- timeSync
     (((flight msgTime).msg = { type := BarType.timeSync, body := BarPayload.timeSync 1 true true 1 1 1 }) ∧
      (Arrives (arriving BarDir.hf msgTime) BarDir.hf (flight msgTime))) ∧
    -- imageOut
     (((flight msgImage).msg = { type := BarType.imageOut, body := BarPayload.imageOut Core.c0 11 0 256 [7] }) ∧
      (Arrives (arriving BarDir.hf msgImage) BarDir.hf (flight msgImage))) ∧
    -- imageIn
     ((((flight msgPublish).msg = { type := BarType.imageIn, body := BarPayload.publish 32767 [7] }) ∧
       (cmpHolds (arriving BarDir.fh msgPublish) 32767 = false) ∧
       (isHealth (arriving BarDir.fh msgPublish) 32767 = false)) ∧
      (Arrives (arriving BarDir.fh msgPublish) BarDir.fh (flight msgPublish))) ∧
    -- imageIn
     ((((flight msgSnapshot).msg = { type := BarType.imageIn, body := BarPayload.snapshot 447 [7] }) ∧
       (447 ≠ 0)) ∧
      (Arrives (arriving BarDir.fh msgSnapshot) BarDir.fh (flight msgSnapshot))) ∧
    -- signal
     (((flight msgSignal).msg = { type := BarType.signal, body := BarPayload.event 1 32768 }) ∧
      (Arrives (arriving BarDir.fh msgSignal) BarDir.fh (flight msgSignal))) ∧
    -- signal
     (((flight msgConduit).msg = { type := BarType.signal, body := BarPayload.conduit 11 15 [7] }) ∧
      (Arrives (arriving BarDir.hf msgConduit) BarDir.hf (flight msgConduit))) ∧
    -- regAccess
     (((16383 < 16384) ∧
       ((flight msgAccess).msg =
          { type := BarType.regAccess, body := BarPayload.regAccess 0 Path.bridge (sharedBase 11 + 32766) 1 (some [7]) true }) ∧
       (((arriving BarDir.hf msgAccess).cl 11).lock = none)) ∧
      (Arrives (arriving BarDir.hf msgAccess) BarDir.hf (flight msgAccess))) ∧
    -- stagebookChunk
     (((flight (msgChunk true false [7])).msg = { type := BarType.chunk, body := BarPayload.chunk 1 true true true false [7] }) ∧
      (Arrives (staging (msgChunk true false [7])) BarDir.hf (flight (msgChunk true false [7])))) ∧
    -- stagebookChunk
     ((((flight (msgChunk false true [35976, 9216])).msg =
          { type := BarType.chunk, body := BarPayload.chunk 1 true true false true [35976, 9216] }) ∧
       ((staging (msgChunk false true [35976, 9216])).store.upd = some (true, 1)) ∧
       (sectionCrcOk ((staging (msgChunk false true [35976, 9216])).store.incoming ++ upsetLast 0 [35976, 9216]) = true)) ∧
      (Arrives (staging (msgChunk false true [35976, 9216])) BarDir.hf (flight (msgChunk false true [35976, 9216])))) ∧
    -- stagebookChunk
     ((((flight (msgChunk false true [35976, 9216])).msg =
          { type := BarType.chunk, body := BarPayload.chunk 1 true true false true [35976, 9216] }) ∧
       ((staging (msgChunk false true [35976, 9216])).store.upd = some (true, 1)) ∧
       (sectionCrcOk ((staging (msgChunk false true [35976, 9216])).store.incoming ++ upsetLast 1 [35976, 9216]) = false)) ∧
      (Arrives (staging (msgChunk false true [35976, 9216])) BarDir.hf (flight (msgChunk false true [35976, 9216])))) ∧
    -- debugMsg
     (((flight msgChain).msg = { type := BarType.debugMsg, body := BarPayload.chain [7] }) ∧
      (Arrives (arriving BarDir.hf msgChain) BarDir.hf (flight msgChain))) ∧
    -- claim
     ((barPasses ((arriving BarDir.hf msgClaim).bdir BarDir.hf) = true) ∧
      (List.find? (onLanes (flight msgClaim).msg.type) ((arriving BarDir.hf msgClaim).bdir BarDir.hf).flight =
         some (flight msgClaim)) ∧
      ((arriving BarDir.hf msgClaim).fieldInj = none) ∧
      ((flight msgClaim).msg.type = BarType.claim) ∧
      (7 ≠ barCrc (flight msgClaim))) ∧
    -- claim
     ((barPasses ((carrying BarDir.hf [claimAgain] []).bdir BarDir.hf) = true) ∧
      (List.find? (onLanes claimAgain.msg.type) ((carrying BarDir.hf [claimAgain] []).bdir BarDir.hf).flight = some claimAgain) ∧
      ((carrying BarDir.hf [claimAgain] []).fieldInj = none) ∧
      (claimAgain.msg.type = BarType.claim) ∧
      (claimAgain.accepted = true)) := by
  and_intros <;> first | decide +kernel | (constructor <;> decide +kernel)

theorem test_barrier_lanes_witness :
    -- laneFailed
     (((lanes BarDir.fh 0 255 []).bdir BarDir.fh).active.getLsbD 0 = true ∧
         ((lanes BarDir.fh 0 255 []).bdir BarDir.fh).failed.getLsbD 0 = false) ∧
    -- laneReplaced
     ((((lanes BarDir.fh 1 254 [0]).bdir BarDir.fh).toReplace = [0]) ∧
      (freeSpare ((lanes BarDir.fh 1 254 [0]).bdir BarDir.fh) ≠ none)) ∧
    -- spareLaneLost
     ((8 ≤ 9) ∧
      (((lanes BarDir.fh 0 255 []).bdir BarDir.fh).active.getLsbD 9 = false) ∧
      (((lanes BarDir.fh 0 255 []).bdir BarDir.fh).failed.getLsbD 9 = false)) ∧
    -- barrierTrainTimeout
     ((untrained.start.hostReset = false) ∧
      (((untrained.bdir BarDir.hf).trained && (untrained.bdir BarDir.fh).trained) = false)) ∧
    -- barrierTrainingDone
     (((lanes BarDir.fh 0 255 []).start.hostReset = false) ∧
      ((lanes BarDir.fh 0 255 []).start.fieldReset = false) ∧
      (8 ≤ working10 ((lanes BarDir.fh 0 255 []).bdir BarDir.hf)) ∧
      (8 ≤ working10 ((lanes BarDir.fh 0 255 []).bdir BarDir.fh))) := by
  and_intros <;> decide +kernel

theorem test_instants_of_a_cycle_witness :
    -- sampleInstant
     (node.time.sValid = true ∧
         (∃ c, node.runSheet = some c ∧ instantCycle (node.at 1) c InstKind.sample = 0) ∧ notYet node InstKind.sample 0 = true) ∧
    -- snapRefresh
     ((regionsOf node 0 RegionKind.snap =
         [{ kind := RegionKind.snap, send := false, owner := 0, win := 512, len := 2, hub := 446 }]) ∧
      (1 < 2) ∧
      (∀ (m : Fin 12), ∀ x ∈ regionsOf node m RegionKind.snap, x.win + x.len ≤ 32768)) ∧
    -- flipInstant
     (node.time.sValid = true ∧
         (∃ c, node.runSheet = some c ∧ instantCycle (node.at 1) c InstKind.flip = 0) ∧ notYet node InstKind.flip 0 = true) ∧
    -- latchInstant
     (node.time.sValid = true ∧
         (∃ c, node.runSheet = some c ∧ instantCycle (node.at 1) c InstKind.latch = 0) ∧ notYet node InstKind.latch 0 = true) ∧
    -- imageInstant
     ((hasInstants (imaged [(0, 256, 7), (0, 257, 8)]) = true) ∧
      (((imaged [(0, 256, 7), (0, 257, 8)]).cl 0).cfg.isSome = true) ∧
      ((imaged [(0, 256, 7), (0, 257, 8)]).fieldAccepted = some Core.c0) ∧
      (∀ w ∈ inPlaces (imaged [(0, 256, 7), (0, 257, 8)]) 0,
         (stagedWord (latchCycle (imaged [(0, 256, 7), (0, 257, 8)]))
               (vget ((imaged [(0, 256, 7), (0, 257, 8)]).cl 0).inStage Core.c0.ix) w).isSome =
           true)) ∧
    -- imageInstant
     ((hasInstants node = true) ∧
      ((node.cl 0).cfg.isSome = true) ∧
      (node.fieldAccepted = some Core.c0) ∧
      (∃ w ∈ inPlaces node 0, stagedWord (latchCycle node) (vget (node.cl 0).inStage Core.c0.ix) w = none)) := by
  and_intros <;> decide +kernel

theorem test_speed_margins_witness :
    -- marginMeasure
     (11 = 11) ∧
    -- marginMeasure
     ((13 : Nat) = (12 : Nat) + ↑Core.c1.ix) ∧
    -- marginMeasure
     (((13 : Nat) = (12 : Nat) + ↑Core.c1.ix) ∧
      ((BitVec.extractLsb' 0 8 (nearWarning.reg LU_MGN_THR)).toInt <
         (BitVec.extractLsb' 8 8 (nearWarning.reg LU_MGN_THR)).toInt) ∧
      ((3#8).toInt < (BitVec.extractLsb' 8 8 (nearWarning.reg LU_MGN_THR)).toInt) ∧
      ((nearWarning.core Core.c1).margin.warn.armed = true) ∧
      (3 ≤ (nearWarning.core Core.c1).margin.warn.run)) := by
  and_intros <;> decide +kernel

theorem test_link_words_witness :
    -- wordReceive
     ((((closed.stream Port.west.inRing).open_ = false) ∧
       ((arrive (closed.link Port.west) (encodeChar false false 80) (encodeChar false false 80)).1 = some (RingWord.data 20560))) ∧
      (Forwards closed Port.west)) ∧
    -- wordReceive
     ((((closed.stream Port.west.inRing).open_ = false) ∧
       ((closed.link Port.west).state = LinkState.up) ∧
       ((arrive (closed.link Port.west) (encodeChar false false 80) (encodeChar true false 80)).1 = none)) ∧
      (Forwards closed Port.west)) ∧
    -- errReceive
     (((closed.stream Port.west.inRing).open_ = false) ∧
      (Forwards closed Port.west)) ∧
    -- sbReceive
     (Forwards node Port.west) ∧
    -- sbReceive
     ((node.link Port.west).state.carries = true) ∧
    -- lsReceive
     (((node.link Port.west).state.carries = true) ∧
      (BitVec.getLsbD (80 : Byte) (4 : Nat) = !decide (Port.west = Port.east)) ∧
      (80 / 32 ≤ 2)) ∧
    -- lsReceive
     (BitVec.getLsbD (64 : Byte) (4 : Nat) = decide (Port.west = Port.east)) ∧
    -- lsReceive
     ((((west portSync).link Port.west).state = LinkState.sync) ∧
      (BitVec.getLsbD (80 : Byte) (4 : Nat) = !decide (Port.west = Port.east))) ∧
    -- tsidReceive
     (((west Tests.portDown).link Port.west).state = LinkState.down ∨
         ((west Tests.portDown).link Port.west).state = LinkState.training) ∧
    -- tsidReceive
     ((node.link Port.west).state.carries = true) ∧
    -- echoReqReceive
     ((node.link Port.west).state.carries = true) ∧
    -- echoRspReceive
     (List.find? (fun y => decide (y.1 = 9)) (vget echoed.time.echo Port.west.ix).open_ = some (9, 0, 0)) ∧
    -- echoTimeout
     (((vget echoed.time.echo Port.west.ix).open_.any fun y => decide (y.1 = 9)) = true) ∧
    -- ieOpen
     (((StreamFree (framed false) Port.west.inRing) ∧
       (((framed false).stream Port.west.inRing).frame = some Tests.passing) ∧
       (Tests.passing.strip = false) ∧
       (((framed false).stream Port.west.inRing).inter = none) ∧
       (((framed false).stream Port.west.inRing).interDue = false)) ∧
      (Forwards (framed false) Port.west)) ∧
    -- ieClose
     (((StreamFree (framed true) Port.west.inRing) ∧
       (((framed true).stream Port.west.inRing).frame = some Tests.passing) ∧
       (Tests.passing.strip = false) ∧
       (((framed true).stream Port.west.inRing).interDue = true)) ∧
      (Forwards (framed true) Port.west)) ∧
    -- hopBand
     ((((running false).link Port.west).state.carries = true) ∧
      (1 ≤ 1) ∧
      (1 ≤ 15) ∧
      (hubArmed (running false) Src.guardTable = none) ∧
      (runsCycle ((running false).at 1) Port.west.outRing = true)) ∧
    -- hopBandIdle
     (((node.link Port.west).state.carries = true) ∧
      (1 ≤ 1) ∧
      (1 ≤ 15) ∧
      (hubArmed node Src.guardTable = none) ∧
      (runsCycle (node.at 1) Port.west.outRing = false)) ∧
    -- hopBand
     ((runsCycle ((running false).at 1) Port.west.outRing = true) ∧
      (((running false).link Port.west).state.carries = true) ∧
      (hubArmed (running false) Src.guardTable = none) ∧
      ((running false).cue.guard.tblerr = false) ∧
      ((running false).cue.guard.dead = false)) ∧
    -- guardReload
     (((running true).cue.guard.tblerr = true) ∧
      ((running true).cue.guard.dead = false)) ∧
    -- ebOverrun
     ((node.link Port.west).state.carries = true) := by
  and_intros <;> first | decide +kernel | (constructor <;> decide +kernel)

theorem test_link_states_witness :
    -- trainingEntry
     (((enabled Tests.portDown).start.lnkApplied = true) ∧
      (((enabled Tests.portDown).link Port.west).state = LinkState.down) ∧
      (portEnabled (enabled Tests.portDown) Port.west = true) ∧
      (((enabled Tests.portDown).link Port.west).held = false) ∧
      (((enabled Tests.portDown).link Port.west).faultHeld = false) ∧
      (((enabled Tests.portDown).link Port.west).sideWait = false) ∧
      (vget (enabled Tests.portDown).dark.heldPorts Port.west.ix = false)) ∧
    -- trainingDone
     ((((enabled portTraining).link Port.west).state = LinkState.training) ∧
      ((vget ((enabled portTraining).link Port.west).lanes 0).number ≠
         (vget ((enabled portTraining).link Port.west).lanes 1).number) ∧
      (∀ (i : Fin 2), (vget ((enabled portTraining).link Port.west).lanes i).far = 2)) ∧
    -- trainingDone
     ((((enabled portTangled).link Port.west).state = LinkState.training) ∧
      ((vget ((enabled portTangled).link Port.west).lanes 0).number =
         (vget ((enabled portTangled).link Port.west).lanes 1).number)) ∧
    -- trainingTimeout
     ((((enabled portTraining).link Port.west).state = LinkState.training) ∧
      (((enabled portTraining).link Port.west).trainAt + 6553600000000 ≤ max (enabled portTraining).now 6553600000000)) ∧
    -- syncDone
     ((((enabled portSync).link Port.west).state = LinkState.sync) ∧
      (0 ≤ 8) ∧
      (((enabled portSync).link Port.west).far ≠ 0) ∧
      (4 ≤ ((enabled portSync).link Port.west).lsRun)) ∧
    -- syncDone
     ((((enabled portSync).link Port.west).state = LinkState.sync) ∧
      (8 < 6553600000000)) ∧
    -- syncTimeout
     (((enabled portSync).link Port.west).state = LinkState.sync) ∧
    -- lossOfSignal
     (isLoss (node.link Port.west) LaneLoss.signal = true) ∧
    -- degradeEntry
     ((((enabled portNoisy).link Port.west).state = LinkState.up) ∧
      (degraded? ((enabled portNoisy).at 0) Port.west = true)) ∧
    -- degradedExit
     ((((enabled portDegraded).link Port.west).state = LinkState.degraded) ∧
      (degraded? ((enabled portDegraded).at 6553600000000) Port.west = false)) ∧
    -- degradedRetrain
     ((((enabled portDegraded).link Port.west).state = LinkState.degraded) ∧
      ((enabled portDegraded).bit LNK_CTRL 13 = true)) ∧
    -- holdOffEnd
     (((enabled Tests.portHeld).link Port.west).held = true) ∧
    -- eqAdapt
     (((node.link Port.west).state.carries = true) ∧
      ((node.link Port.west).idleSince = none) ∧
      (vget (vget (node.link Port.west).lanes 0).stepAt 0 = none)) ∧
    -- retrain
     ((Machine.portHeld node Port.west = false) ∧
      (portEnabled node Port.west = true) ∧
      ((node.link Port.west).state.carries = true)) ∧
    -- retrain
     ((Machine.portHeld (enabled portTraining) Port.west = false) ∧
      (portEnabled (enabled portTraining) Port.west = true) ∧
      (((enabled portTraining).link Port.west).state = LinkState.training)) := by
  and_intros <;> decide +kernel

theorem test_markers_witness :
    -- markerReceive
     (((node.link Ring.a.inPort).state.carries = true) ∧
      (idles node Ring.a = false) ∧
      (node.prompting = false) ∧
      (markerOk 0 5 120 = true) ∧
      ((node.trackOf Ring.a).seen = false)) ∧
    -- markerReceive
     (((tracking.link Ring.a.inPort).state.carries = true) ∧
      (idles tracking Ring.a = false) ∧
      (tracking.prompting = false) ∧
      (markerOk 0 5 120 = true) ∧
      ((tracking.trackOf Ring.a).seen = true) ∧
      ((markerFlags 120).dom = (tracking.trackOf Ring.a).flags.dom) ∧
      (markerOff (tracking.at 0) Ring.a = some 0) ∧
      (-2 ≤ 0) ∧
      ((0 : Int) ≤ (2 : Int))) ∧
    -- markerReceive
     (((node.link Ring.a.inPort).state.carries = true) ∧
      (idles node Ring.a = false) ∧
      (node.prompting = false) ∧
      (markerOk 0 0 0 = false) ∧
      ((node.trackOf Ring.a).seen = false)) ∧
    -- markerWindowClose
     ((tracking.prompting = false) ∧
      (expectedAt tracking Ring.a = some 419430400000) ∧
      (419430400000 ≤ max tracking.now 419440885760)) ∧
    -- markerSend
     ((prompter.prompting = true) ∧
      ((prompter.lineOf Ring.a).sentCycle + 1 = prompter.present) ∧
      (inserter prompter = some Core.c0) ∧
      (guardShut prompter = false)) ∧
    -- markerSend
     ((muted.prompting = true) ∧
      ((muted.lineOf Ring.a).sentCycle + 1 = muted.present) ∧
      (inserter muted = some Core.c0) ∧
      (muted.cue.guard.dead = true)) ∧
    -- markerSend
     ((node.prompting = false) ∧
      (node.cue.prompter.request = none) ∧
      ((node.lineOf Ring.a).head = false) ∧
      (inserter node = some Core.c0)) ∧
    -- lineHeadMarker
     ((inserter lineHead = some Core.c0) ∧
      (guardShut lineHead = false) ∧
      ((lineHead.lineOf Ring.a).head = true) ∧
      ((lineHead.lineOf Ring.a).started = false) ∧
      (anyMarker lineHead = true) ∧
      (lineHead.prompting = false) ∧
      ((lineHead.lineOf Ring.a).forwardNext = false) ∧
      ((lineHead.lineOf Ring.a).handover = none) ∧
      (lineHead.cue.scene.target = none)) := by
  and_intros <;> decide +kernel

theorem test_cues_insert_and_land_witness :
    -- cuePassage
     (((inserting sheet).ringSheet Ring.a = some sheet) ∧
      (inserter (inserting sheet) = some Core.c0) ∧
      (cueOwned.wing = none) ∧
      (0 < cueOwned.len) ∧
      (List.find? (fun x => decide (x.ix = cueOwned.ix) && x.owned && modeOn x Ring.a) sheet.entries = some cueOwned) ∧
      ((inserting sheet).cue.guard.open_ = true) ∧
      (∀ i < cueOwned.len, guardAdmits (inserting sheet) Ring.a (posOn cueOwned Ring.a + i) = true)) ∧
    -- cuePassage
     (((inserting unguarded).ringSheet Ring.a = some unguarded) ∧
      (inserter (inserting unguarded) = some Core.c0) ∧
      (cueOwned.wing = none) ∧
      (0 < cueOwned.len) ∧
      (List.find? (fun x => decide (x.ix = cueOwned.ix) && x.owned && modeOn x Ring.a) unguarded.entries = some cueOwned) ∧
      ((inserting unguarded).cue.guard.open_ = true) ∧
      (0 < cueOwned.len) ∧
      (∀ i < 0, guardAdmits (inserting unguarded) Ring.a (posOn cueOwned Ring.a + i) = true) ∧
      (∀ i < cueOwned.len, 0 ≤ i → guardAdmits (inserting unguarded) Ring.a (posOn cueOwned Ring.a + i) = false)) ∧
    -- cueCopyReceive
     (((withSheet subscribing).sheetAt ((withSheet subscribing).trackOf Ring.a).flags.bank = some subscribing) ∧
      ((withSheet subscribing).darkPath = false) ∧
      ((withSheet subscribing).prompting = false) ∧
      (cueSubscribed.wing = none) ∧
      (subscribing.entries = [cueSubscribed]) ∧
      (cueSubscribed.owned = false) ∧
      (modeOn cueSubscribed Ring.a = true) ∧
      (copyPayload cueSubscribed.len (publicationOf (withSheet subscribing) subscribing cueSubscribed Ring.a + 1)
           cueSubscribed.id copyGood =
         some [1, 2, 3])) ∧
    -- cueCopyReceive
     (((withSheet subscribing).sheetAt ((withSheet subscribing).trackOf Ring.a).flags.bank = some subscribing) ∧
      ((withSheet subscribing).darkPath = false) ∧
      ((withSheet subscribing).prompting = false) ∧
      (cueSubscribed.wing = none) ∧
      (subscribing.entries = [cueSubscribed]) ∧
      (cueSubscribed.owned = false) ∧
      (modeOn cueSubscribed Ring.a = true) ∧
      (copyPayload cueSubscribed.len (publicationOf (withSheet subscribing) subscribing cueSubscribed Ring.a + 1)
           cueSubscribed.id copyBad =
         none) ∧
      ((copyBad.all fun w => decide (w = RingWord.idle)) = false)) ∧
    -- copyUsable
     (((arrived [landing none]).cue.arrived = [copy]) ∧
      (copy.entry = cueSubscribed.ix) ∧
      (copy.ring = Ring.a) ∧
      (deliveryPassed ((arrived [landing none]).at 0) cueSubscribed.ix copy.pub = false) ∧
      ((arrived [landing none]).cue.landings = [landing none]) ∧
      ((landing none).entry = cueSubscribed.ix) ∧
      ((landing none).pub = copy.pub)) ∧
    -- copyUsable
     (((arrived []).cue.arrived = [copy]) ∧
      (copy.entry = cueSubscribed.ix) ∧
      (copy.ring = Ring.a) ∧
      ((arrived []).cue.landings = [] ∨ deliveryPassed ((arrived []).at 0) cueSubscribed.ix copy.pub = true)) ∧
    -- relaySend
     ((relaying.ringSheet Ring.a = some relaySheet) ∧
      (inserter relaying = some Core.c0) ∧
      (guardShut relaying = false) ∧
      (List.find? (fun y => decide (y.ring = Ring.a) && decide (y.pos = relayEntry.pos)) relaySheet.relay = some relayEntry) ∧
      (relaying.prompting = true) ∧
      (relaying.cue.sceneCycle = none) ∧
      (List.find?
           (fun y =>
             decide (y.ring = Ring.a) && decide (y.pos = relayEntry.pos) &&
               decide (y.due = (relaying.lineOf Ring.a).sentCycle))
           relaying.cue.relays =
         some relayed)) := by
  and_intros <;> decide +kernel

theorem test_roles_on_the_ring_witness :
    -- lineHeadNoticeSend
     ((MayBroadcast lineHead) ∧
      ((lineHead.lineOf Ring.a).head = true)) ∧
    -- lineHeadNotice
     ((node.darkPath = false) ∧
      (bitOf (wAt [32774, 0, 0, 32768] 3) 15 = true)) ∧
    -- prompterListen
     ((mayListen node = true) ∧
      (node.cue.prompter.listening = false) ∧
      (node.cue.prompter.active = false)) ∧
    -- prompterBegin
     (((listening true).cue.prompter.listening = true) ∧
      ((listening true).cue.prompter.heard = true)) ∧
    -- prompterBegin
     (((listening false).cue.prompter.listening = true) ∧
      ((listening false).cue.prompter.heard = false) ∧
      ((listening false).bit TIM_CFG 15 = false)) ∧
    -- prompterBegin
     ((listeningPtp.cue.prompter.listening = true) ∧
      (listeningPtp.cue.prompter.heard = false) ∧
      (listeningPtp.bit TIM_CFG 15 = true) ∧
      (listeningPtp.host.ptpLock = true)) ∧
    -- ptpWaitExpire
     (((listening false).cue.prompter.listening = true) ∧
      ((listening false).cue.prompter.heard = false)) ∧
    -- prompterNoticeSend
     ((MayBroadcast prompter) ∧
      (prompter.prompting = true) ∧
      (namedA prompter = true ∨ namedB prompter = true) ∧
      (prompter.cue.prompter.listening = false)) ∧
    -- prompterNotice
     ((node.darkPath = false) ∧
      (namedA node = true ∨ namedB node = true) ∧
      (fld (wAt [32774, 0, 0, 32768] 0) 11 0 ≠ node.fab.node)) ∧
    -- takeover
     ((standby.dark.dark = false) ∧
      (namedB standby = true) ∧
      (standby.prompting = false) ∧
      (standby.cue.prompter.listening = false) ∧
      (anyMarker standby = true)) ∧
    -- yield
     ((yielding.prompting = true) ∧
      (yielding.cue.prompter.yield_ = true)) ∧
    -- wingClaimStart
     (((claiming WingPhase.none).sheet =
         some
           { lenq := sheet.lenq, evpos := sheet.evpos, id := sheet.id, tSmp := sheet.tSmp, tLat := sheet.tLat,
             tFlp := sheet.tFlp, entries := [wingSlot], relay := sheet.relay, guard := sheet.guard, tcrc := sheet.tcrc,
             maa := sheet.maa, mab := sheet.mab, mba := sheet.mba, mbb := sheet.mbb, nodeA := sheet.nodeA,
             claimA := sheet.claimA, nodeB := sheet.nodeB, claimB := sheet.claimB }) ∧
      ((wingSlots
             { lenq := sheet.lenq, evpos := sheet.evpos, id := sheet.id, tSmp := sheet.tSmp, tLat := sheet.tLat,
               tFlp := sheet.tFlp, entries := [wingSlot], relay := sheet.relay, guard := sheet.guard, tcrc := sheet.tcrc,
               maa := sheet.maa, mab := sheet.mab, mba := sheet.mba, mbb := sheet.mbb, nodeA := sheet.nodeA,
               claimA := sheet.claimA, nodeB := sheet.nodeB, claimB := sheet.claimB }).head? =
         some 0) ∧
      (16 ≤ (claiming WingPhase.none).cue.calm) ∧
      ((claiming WingPhase.none).cue.guard.open_ = true) ∧
      (mustClose (claiming WingPhase.none) = false) ∧
      ((claiming WingPhase.none).cue.wing.phase = WingPhase.none ∨ (claiming WingPhase.none).cue.wing.phase = WingPhase.waiting)) ∧
    -- wingBackoffEnd
     (((claiming WingPhase.backoff).sheet =
         some
           { lenq := sheet.lenq, evpos := sheet.evpos, id := sheet.id, tSmp := sheet.tSmp, tLat := sheet.tLat,
             tFlp := sheet.tFlp, entries := [wingSlot], relay := sheet.relay, guard := sheet.guard, tcrc := sheet.tcrc,
             maa := sheet.maa, mab := sheet.mab, mba := sheet.mba, mbb := sheet.mbb, nodeA := sheet.nodeA,
             claimA := sheet.claimA, nodeB := sheet.nodeB, claimB := sheet.claimB }) ∧
      ((wingSlots
             { lenq := sheet.lenq, evpos := sheet.evpos, id := sheet.id, tSmp := sheet.tSmp, tLat := sheet.tLat,
               tFlp := sheet.tFlp, entries := [wingSlot], relay := sheet.relay, guard := sheet.guard, tcrc := sheet.tcrc,
               maa := sheet.maa, mab := sheet.mab, mba := sheet.mba, mbb := sheet.mbb, nodeA := sheet.nodeA,
               claimA := sheet.claimA, nodeB := sheet.nodeB, claimB := sheet.claimB }).head? =
         some 0) ∧
      (16 ≤ (claiming WingPhase.backoff).cue.calm) ∧
      ((claiming WingPhase.backoff).cue.guard.open_ = true) ∧
      (mustClose (claiming WingPhase.backoff) = false) ∧
      ((claiming WingPhase.backoff).cue.wing.phase = WingPhase.backoff)) := by
  and_intros <;> decide +kernel

theorem test_scene_changes_witness :
    -- sceneArm
     (((sceneAsked (65 : Word)).reg CUE_SCN_CYC_H ++ (sceneAsked (65 : Word)).reg CUE_SCN_CYC_L = (65 : DWord)) ∧
      ((sceneAsked 65).prompting = true) ∧
      ((sceneAsked 65).cue.scene.target = none) ∧
      ((sceneAsked 65).host.intm = IntmPhase.running) ∧
      (64 ≤ diff32 65 (sceneAsked 65).present)) ∧
    -- sceneArm
     (((sceneAsked (64 : Word)).reg CUE_SCN_CYC_H ++ (sceneAsked (64 : Word)).reg CUE_SCN_CYC_L = (64 : DWord)) ∧
      ((sceneAsked 64).prompting = true) ∧
      ((sceneAsked 64).cue.scene.target = none) ∧
      ((sceneAsked 64).host.intm = IntmPhase.running) ∧
      (diff32 64 (sceneAsked 64).present < 64)) ∧
    -- sceneCancel
     (((sceneArmed 18).cue.scene.target = some (18, 9)) ∧
      ((sceneArmed 18).prompting = true) ∧
      (16 < diff32 18 (sceneArmed 18).present)) ∧
    -- sceneCancel
     (((sceneUnsure 17).cue.scene.target = some (17, 9)) ∧
      ((sceneUnsure 17).prompting = true) ∧
      (10 ≤ diff32 17 (sceneUnsure 17).present) ∧
      (diff32 17 (sceneUnsure 17).present ≤ 16)) ∧
    -- sceneNoticeSend
     ((MayBroadcast (sceneArmed 18)) ∧
      ((sceneArmed 18).cue.scene.target = some (18, 9)) ∧
      ((sceneArmed 18).prompting = true) ∧
      ((sceneArmed 18).cue.scene.armed = true) ∧
      (17 ≤ diff32 18 (sceneArmed 18).present)) ∧
    -- vetoSend
     ((MayBroadcast (sceneUnsure 17)) ∧
      ((sceneUnsure 17).cue.scene.target = some (17, 9)) ∧
      (9 ≤ diff32 17 (sceneUnsure 17).present) ∧
      (diff32 17 (sceneUnsure 17).present ≤ 16) ∧
      ((sceneUnsure 17).cue.scene.unconfirmed = true ∨ (sceneUnsure 17).cue.scene.cancelVeto = true)) ∧
    -- sceneNotice
     (node.darkPath = false) ∧
    -- veto
     (((sceneArmed 18).darkPath = false) ∧
      ((sceneArmed 18).cue.scene.target = some (wCycle [0, 18, 9] 0, BitVec.toNat (wAt [0, 18, 9] 2))) ∧
      (1 < diff32 (wCycle [0, 18, 9] 0) (sceneArmed 18).present)) := by
  and_intros <;> decide +kernel

theorem test_delay_steps_and_domains_witness :
    -- delayReportSend
     (((match Ring.a with
         | Ring.a => timed.fab.east
         | Ring.b => timed.fab.west) ≠
         0) ∧
      (timed.fab.node ≠ 0) ∧
      (portOff timed (ringPort Ring.a) = false)) ∧
    -- delayReport
     ((bitOf (wAt [16385, 0, 0, 0, 0, 0, 0] 0) 15 = decide (Ring.a = Ring.b)) ∧
      ((node.link Ring.a.inPort).state.carries = true) ∧
      (bitOf (wAt [16385, 0, 0, 0, 0, 0, 0] 0) 14 = true)) ∧
    -- delayReport
     ((bitOf (wAt [1, 0, 0, 0, 0, 0, 0] 0) 15 = decide (Ring.a = Ring.b)) ∧
      ((node.link Ring.a.inPort).state.carries = true) ∧
      (bitOf (wAt [1, 0, 0, 0, 0, 0, 0] 0) 14 = false)) ∧
    -- delayReportStale
     ((timed.ringT Ring.a).report = some report) ∧
    -- timekeeperStep
     ((stepAhead.time.stepDue = some 5) ∧
      ((5 : Int) ≤ (0 : Int) ∨ stepAhead.time.sValid = false ∨ stepAhead.runSheet = none)) ∧
    -- loopClosure
     ((timedPrompter.prompting = true) ∧
      ((timedPrompter.ringT Ring.a).report.isSome = true) ∧
      ((timedPrompter.ringT Ring.a).loop ≠ 0)) ∧
    -- timeNoticeSend
     ((MayBroadcast timed) ∧
      (namedA timed = true ∨ namedB timed = true) ∧
      (timed.time.ownZero.isSome = true)) ∧
    -- timeNotice
     (node.darkPath = false) ∧
    -- offsetStale
     (timed.time.ofsValid = true) ∧
    -- holdoverLimit
     ((timed.time.hold = true) ∧
      (timed.time.gap = false)) := by
  and_intros <;> decide +kernel

theorem test_latching_reads_witness :
    -- timSecHRead
     (node.lockedOut Path.envelope = false) ∧
    -- timOfsSecHRead
     (node.lockedOut Path.envelope = false) ∧
    -- cueCycHRead
     ((node.lockedOut Path.envelope = false) ∧
      (viewBlank node Path.envelope = false)) ∧
    -- cueCycHRead
     ((node.lockedOut Path.envelope = false) ∧
      (viewBlank node Path.envelope = false) ∧
      (node.sheet = some sheet)) ∧
    -- cueCycHRead
     ((node.lockedOut Path.envelope = false) ∧
      (viewBlank node Path.envelope = false) ∧
      (node.sheet = some sheet)) ∧
    -- cueCycHRead
     ((node.lockedOut Path.envelope = false) ∧
      (viewBlank node Path.envelope = false) ∧
      (node.sheet = some sheet)) ∧
    -- esPop
     ((stamped.lockedOut Path.envelope = false) ∧
      ((stamped.fifo 11).entries = [stamp]) ∧
      (quiet stamped Path.envelope = false)) ∧
    -- esPop
     ((node.lockedOut Path.envelope = false) ∧
      ((node.fifo 11).entries = [])) := by
  and_intros <;> decide +kernel

theorem test_cue_pulses_witness :
    -- puArm
     ((unitOwner (staged 8) 23 = none) ∧
      (armRefused (staged 8) 23 (pathReq (staged 8) Path.qspi.code ((staged 8).regSel PLS_PU_CTRL Path.qspi.code &&& 14351)) =
         false) ∧
      (((staged 8).at 0).fring + 200 * ↑nsT ≤
         ((staged 8).at 0).toFieldDomain
           (bitOf (pathReq (staged 8) Path.qspi.code ((staged 8).regSel PLS_PU_CTRL Path.qspi.code &&& 14351)).ctrl 11)
           (ringOf (pathReq (staged 8) Path.qspi.code ((staged 8).regSel PLS_PU_CTRL Path.qspi.code &&& 14351)).sec
             (pathReq (staged 8) Path.qspi.code ((staged 8).regSel PLS_PU_CTRL Path.qspi.code &&& 14351)).ns))) ∧
    -- puArm
     ((unitOwner (staged 7) 23).isSome = true ∨
         armRefused (staged 7) 23
             (pathReq (staged 7) Path.qspi.code ((staged 7).regSel PLS_PU_CTRL Path.qspi.code &&& 14351)) =
           true) ∧
    -- puStop
     (unitOwner (staged 8) 23 = none) ∧
    -- pulseLeadingEdge
     (((vget (pulsing none).pulses 23).prog = some program) ∧
      ((vget (pulsing none).pulses 23).active = none) ∧
      (pulseDue program = true)) ∧
    -- pulseTrailingEdge
     ((vget (pulsing (some (11, false))).pulses 23).active = some (11, false)) := by
  and_intros <;> decide +kernel

theorem test_frames_pass_and_deliver_witness :
    -- frameHeader
     (((node.link Ring.a.inPort).state.carries = true) ∧
      ((node.stream Ring.a).open_ = true) ∧
      ((node.stream Ring.a).frame = none) ∧
      ((node.stream Ring.a).inter = none) ∧
      (node.darkPath = false) ∧
      (node.prompting = false) ∧
      (frameOn.crcOk = true) ∧
      (frameOn.payload.length = frameOn.len) ∧
      (badHeader frameOn = false) ∧
      (isOwn node Ring.a frameOn = false) ∧
      (isDest node frameOn = false)) ∧
    -- frameHeader
     (((crowded.link Ring.a.inPort).state.carries = true) ∧
      ((crowded.stream Ring.a).open_ = true) ∧
      ((crowded.stream Ring.a).frame = none) ∧
      ((crowded.stream Ring.a).inter = none) ∧
      (crowded.darkPath = false) ∧
      (crowded.prompting = false) ∧
      (frameHere.crcOk = true) ∧
      (frameHere.payload.length = frameHere.len) ∧
      (badHeader frameHere = false) ∧
      (isOwn crowded Ring.a frameHere = false) ∧
      (isDest crowded frameHere = true) ∧
      (isRepeat crowded Ring.a frameHere = false) ∧
      (canTake crowded Ring.a frameHere = false)) ∧
    -- frameHeader
     (((node.link Ring.a.inPort).state.carries = true) ∧
      ((node.stream Ring.a).open_ = true) ∧
      ((node.stream Ring.a).frame = none) ∧
      ((node.stream Ring.a).inter = none) ∧
      (node.darkPath = false) ∧
      (node.prompting = false) ∧
      (frameHere.crcOk = true) ∧
      (frameHere.payload.length = frameHere.len) ∧
      (badHeader frameHere = false) ∧
      (isOwn node Ring.a frameHere = false) ∧
      (isDest node frameHere = true) ∧
      (isRepeat node Ring.a frameHere = false) ∧
      (canTake node Ring.a frameHere = true) ∧
      (deliverPort node frameHere = some 6) ∧
      (hubArmed node Src.frameCrc = none) ∧
      (node.reg SWQ_SMP_N = 0) ∧
      (portOff node 6 = false) ∧
      (frameHere.cls = 0 → frameHere.payload.length ≤ 32)) := by
  and_intros <;> decide +kernel

theorem test_frames_insert_witness :
    -- frameInsert
     ((inserter (waitingOnRings frameOn none) = some Core.c0) ∧
      ((waitingOnRings frameOn none).queue (ringPort Ring.a) 1 = [queued frameOn]) ∧
      ((queued frameOn).frame.cls = 1) ∧
      (portOff (waitingOnRings frameOn none) (ringPort Ring.a) = false) ∧
      (∀ (c : Fin 4),
         ∀ x ∈ List.take 1 ((waitingOnRings frameOn none).queue (ringPort Ring.a) ↑c),
           aged ((waitingOnRings frameOn none).at 0) x = false) ∧
      ((waitingOnRings frameOn none).reg SWQ_SMP_N = 0) ∧
      ((waitingOnRings frameOn none).fab.node ≠ 0) ∧
      (guardShut (waitingOnRings frameOn none) = false) ∧
      (drives (waitingOnRings frameOn none) Ring.a = false) ∧
      (((waitingOnRings frameOn none).stream Ring.a).open_ = true) ∧
      (((waitingOnRings frameOn none).stream Ring.a).ended = false) ∧
      (((waitingOnRings frameOn none).stream Ring.a).store = []) ∧
      (((waitingOnRings frameOn none).stream Ring.a).sending = []) ∧
      (hubArmed (waitingOnRings frameOn none) Src.switchEccCorrected = none) ∧
      (hubArmed (waitingOnRings frameOn none) Src.switchEccFatal = none) ∧
      (serveClass (waitingOnRings frameOn none) (ringPort Ring.a) = some 1) ∧
      (((waitingOnRings frameOn none).stream Ring.a).inside = none) ∧
      (((waitingOnRings frameOn none).stream Ring.a).frame = none) ∧
      (((waitingOnRings frameOn none).stream Ring.a).buffer = []) ∧
      (mayStart (waitingOnRings frameOn none) Ring.a 1 (queued frameOn).frame.size = true)) ∧
    -- interject
     ((inserter (waitingOnRings frameUrgent (some 2)) = some Core.c0) ∧
      ((waitingOnRings frameUrgent (some 2)).queue (ringPort Ring.a) 0 = [queued frameUrgent]) ∧
      ((queued frameUrgent).frame.cls = 0) ∧
      (portOff (waitingOnRings frameUrgent (some 2)) (ringPort Ring.a) = false) ∧
      (∀ (c : Fin 4),
         ∀ x ∈ List.take 1 ((waitingOnRings frameUrgent (some 2)).queue (ringPort Ring.a) ↑c),
           aged ((waitingOnRings frameUrgent (some 2)).at 0) x = false) ∧
      ((waitingOnRings frameUrgent (some 2)).reg SWQ_SMP_N = 0) ∧
      ((waitingOnRings frameUrgent (some 2)).fab.node ≠ 0) ∧
      (guardShut (waitingOnRings frameUrgent (some 2)) = false) ∧
      (drives (waitingOnRings frameUrgent (some 2)) Ring.a = false) ∧
      (((waitingOnRings frameUrgent (some 2)).stream Ring.a).open_ = true) ∧
      (((waitingOnRings frameUrgent (some 2)).stream Ring.a).ended = false) ∧
      (((waitingOnRings frameUrgent (some 2)).stream Ring.a).store = []) ∧
      (((waitingOnRings frameUrgent (some 2)).stream Ring.a).sending = []) ∧
      (hubArmed (waitingOnRings frameUrgent (some 2)) Src.switchEccCorrected = none) ∧
      (hubArmed (waitingOnRings frameUrgent (some 2)) Src.switchEccFatal = none) ∧
      (((waitingOnRings frameUrgent (some 2)).stream Ring.a).inside ≠ some 0) ∧
      (((waitingOnRings frameUrgent (some 2)).stream Ring.a).buffer.length + 40 ≤ 1024) ∧
      (((waitingOnRings frameUrgent (some 2)).stream Ring.a).inside.isSome = true) ∧
      (mayStart (waitingOnRings frameUrgent (some 2)) Ring.a 0
           ((List.map RingWord.data ((queued frameUrgent).frame.setRing (decide (Ring.a = Ring.b))).words).length + 2) =
         true)) ∧
    -- interject
     ((inserter (waitingOnRings frameUrgent none) = some Core.c0) ∧
      ((waitingOnRings frameUrgent none).queue (ringPort Ring.a) 0 = [queued frameUrgent]) ∧
      ((queued frameUrgent).frame.cls = 0) ∧
      (portOff (waitingOnRings frameUrgent none) (ringPort Ring.a) = false) ∧
      (∀ (c : Fin 4),
         ∀ x ∈ List.take 1 ((waitingOnRings frameUrgent none).queue (ringPort Ring.a) ↑c),
           aged ((waitingOnRings frameUrgent none).at 0) x = false) ∧
      ((waitingOnRings frameUrgent none).reg SWQ_SMP_N = 0) ∧
      ((waitingOnRings frameUrgent none).fab.node ≠ 0) ∧
      (guardShut (waitingOnRings frameUrgent none) = false) ∧
      (drives (waitingOnRings frameUrgent none) Ring.a = false) ∧
      (((waitingOnRings frameUrgent none).stream Ring.a).open_ = true) ∧
      (((waitingOnRings frameUrgent none).stream Ring.a).ended = false) ∧
      (((waitingOnRings frameUrgent none).stream Ring.a).store = []) ∧
      (((waitingOnRings frameUrgent none).stream Ring.a).sending = []) ∧
      (hubArmed (waitingOnRings frameUrgent none) Src.switchEccCorrected = none) ∧
      (hubArmed (waitingOnRings frameUrgent none) Src.switchEccFatal = none) ∧
      (((waitingOnRings frameUrgent none).stream Ring.a).inside ≠ some 0) ∧
      (((waitingOnRings frameUrgent none).stream Ring.a).buffer.length + 40 ≤ 1024) ∧
      (((waitingOnRings frameUrgent none).stream Ring.a).inside = none) ∧
      (mayStart (waitingOnRings frameUrgent none) Ring.a 0
           (List.map RingWord.data ((queued frameUrgent).frame.setRing (decide (Ring.a = Ring.b))).words).length =
         true)) := by
  and_intros <;> decide +kernel

theorem test_switch_moves_witness :
    -- switchInput
     ((pressed crowded 6 = false) ∧
      (portOff crowded 6 = false) ∧
      (frameHere.crcOk = true) ∧
      (2 ≤ 6) ∧
      (lacking crowded 6 0 frameHere = some 6)) ∧
    -- switchInput
     ((pressed node 6 = false) ∧
      (portOff node 6 = false) ∧
      (frameHere.crcOk = true) ∧
      (lacking node 6 0 frameHere = none) ∧
      (node.reg SWQ_SMP_N = 0) ∧
      (forSelf node frameHere = true) ∧
      (deliverPort node frameHere = some 6) ∧
      (portOff node 6 = false) ∧
      (frameHere.cls = 0 → frameHere.payload.length ≤ 32)) ∧
    -- inputResume
     ((vget heldBack.sw.bp 19 = some 77) ∧
      (inputUse heldBack 19 < quota heldBack 19) ∧
      (0 < freeCells heldBack) ∧
      (cellsOf (vget heldBack.sw.queues 77) < fld (heldBack.regSel SWQ_QLIM 77) 13 0) ∧
      (19 ≠ 6)) ∧
    -- switchOutput
     ((serveClass (waiting 6 frameHere) 6 = some 1) ∧
      ((waiting 6 frameHere).queue 6 1 = [queued frameHere]) ∧
      ((queued frameHere).frame.type = 0) ∧
      ((queued frameHere).origin = none) ∧
      (frameOp (queued frameHere).frame = TxnOp.rsp ∨
         dupFind (waiting 6 frameHere)
               { ring := (queued frameHere).frame.sring, node := (queued frameHere).frame.snode,
                 ep := (queued frameHere).frame.sub % 32 }
               (queued frameHere).frame.tag (txnFields (queued frameHere).frame.payload).seq =
             none ∧
           (waiting 6 frameHere).brg.dups.length < 512) ∧
      (∀ (c : Fin 4), ∀ x ∈ List.take 1 ((waiting 6 frameHere).queue 6 ↑c), aged ((waiting 6 frameHere).at 0) x = false) ∧
      ((waiting 6 frameHere).reg SWQ_SMP_N = 0) ∧
      (unitReady (waiting 6 frameHere) 6 (queued frameHere).frame = true) ∧
      (hubArmed (waiting 6 frameHere) Src.switchEccCorrected = none) ∧
      (hubArmed (waiting 6 frameHere) Src.switchEccFatal = none) ∧
      (portOff (waiting 6 frameHere) 6 = false)) ∧
    -- compareTimeout
     (unmatched.sw.compares = [{ stage := 1, at_ := 0 }]) ∧
    -- ageSweep
     (∀ (k : Fin 80), ∀ e ∈ vget node.sw.queues k, e.origin = none) ∧
    -- repin
     (∀ (i : Fin 32), (vget node.brg.eps i).recent = []) ∧
    -- portDown
     ((∀ (c : Fin 4), ∀ e ∈ node.queue 5 ↑c, e.origin = none) ∧
      (node.brg.opens = [])) := by
  and_intros <;> decide +kernel

theorem test_roll_calls_and_casting_witness :
    -- rcStart
     ((caller.prompting = true) ∧
      (caller.fab.rolling = false)) ∧
    -- rollCallDue
     ((caller.prompting = true) ∧
      (caller.fab.rolling = false) ∧
      (rollIsDue (caller.at 0) = true)) ∧
    -- rollPage
     ((node.prompting = false) ∧
      (node.darkPath = false) ∧
      ((node.link Ring.a.inPort).state.carries = true) ∧
      ((rollFrame [7, 0, 0, 0]).type = 1) ∧
      ((rollFrame [7, 0, 0, 0]).sub = 16) ∧
      (bitOf (wAt (rollFrame [7, 0, 0, 0]).payload 1) 14 = false) ∧
      ((rollFrame [7, 0, 0, 0]).payload.length = 508) ∧
      ((node.lineOf Ring.a).endOfLine = false) ∧
      ((node.stream Ring.a).open_ = true)) ∧
    -- pageReturn
     (((bitOf (wAt [7, 0, 0, 63] 1) 15 != bitOf (wAt [7, 0, 0, 63] 1) 14) = decide (Ring.a = Ring.b)) ∧
      ((rollOut 0 false).prompting = true) ∧
      ((rollOut 0 false).fab.rolling = true) ∧
      (((rollOut 0 false).roll Ring.a).ended = false) ∧
      (wAt [7, 0, 0, 63] 0 = (rollOut 0 false).fab.rollNum) ∧
      (fld (wAt [7, 0, 0, 63] 1) 5 0 = ((rollOut 0 false).roll Ring.a).page) ∧
      (fld (wAt [7, 0, 0, 63] 3) 5 0 = 63) ∧
      (((rollOut 0 false).roll Ring.a).page < 63)) ∧
    -- pageReturn
     (((bitOf (wAt [7, 32830, 0, 62] 1) 15 != bitOf (wAt [7, 32830, 0, 62] 1) 14) = decide (Ring.b = Ring.b)) ∧
      ((rollOut 62 true).prompting = true) ∧
      ((rollOut 62 true).fab.rolling = true) ∧
      (((rollOut 62 true).roll Ring.b).ended = false) ∧
      (wAt [7, 32830, 0, 62] 0 = (rollOut 62 true).fab.rollNum) ∧
      (fld (wAt [7, 32830, 0, 62] 1) 5 0 = ((rollOut 62 true).roll Ring.b).page) ∧
      (fld (wAt [7, 32830, 0, 62] 3) 5 0 < 63) ∧
      (((rollOut 62 true).roll Ring.b.other).ended = false)) ∧
    -- pageTimeout
     (((rollOut 0 false).prompting = true) ∧
      ((rollOut 0 false).fab.rolling = true) ∧
      (((rollOut 0 false).roll Ring.a).ended = false) ∧
      (((rollOut 0 false).roll Ring.a).resent = false)) ∧
    -- pageTimeout
     (((rollOut 62 true).prompting = true) ∧
      ((rollOut 62 true).fab.rolling = true) ∧
      (((rollOut 62 true).roll Ring.a).ended = false) ∧
      (((rollOut 62 true).roll Ring.a).resent = true)) ∧
    -- castNoticeSend
     ((casting.prompting = true) ∧
      (MayBroadcast casting) ∧
      (casting.fab.castQueue =
         [{
             seen :=
               { uid := [1, 2, 3, 4], node := 6, haveSb := true, keepW := false, keepE := false, source := 0, ha := 1, hb := 3,
                 gen := 0 },
             given := 6, anchor := false }]) ∧
      (casting.bit FAB_FETCH_CTRL 15 = false) ∧
      (casting.bit FAB_FETCH_CTRL 14 = false)) ∧
    -- castNotice
     (((node.darkPath = false) ∧
       (fld (wAt castOwn 4) 11 0 ≠ 0) ∧
       (bitOf (wAt castOwn 9) 12 = false)) ∧
      (List.take 4 castOwn = ownUid)) ∧
    -- numberAdopt
     ((adopting.fab.adopt = some (9, false, true)) ∧
      (9 ≠ adopting.fab.node) ∧
      (adopting.cmp.inpub = none)) := by
  and_intros <;> first | decide +kernel | rfl

theorem test_fetching_and_routing_witness :
    -- fetchStart
     ((fetchWanted lost = true) ∧
      (lost.fab.fetch.state = 0)) ∧
    -- fetchRestart
     (node.fab.node ≠ 0) ∧
    -- fetchRestart
     (unnumbered.fab.node = 0) ∧
    -- fetchTimeout
     (((fetching 1 1).fab.fetch.state = 1 ∨ (fetching 1 1).fab.fetch.state = 2) ∧
      ((fetching 1 1).fab.fetch.keep = none) ∧
      ((fetching 1 1).fab.fetch.src < 3)) ∧
    -- fetchTimeout
     (((fetching 3 1).fab.fetch.state = 1 ∨ (fetching 3 1).fab.fetch.state = 2) ∧
      ((fetching 3 1).fab.fetch.keep = none) ∧
      (3 ≤ (fetching 3 1).fab.fetch.src)) ∧
    -- fetchEnd
     (((fetching 1 1).fab.fetch.state = 1 ∨ (fetching 1 1).fab.fetch.state = 2) ∧
      ((fetching 1 1).fab.fetch.keep = none) ∧
      ((fetching 1 1).darkPath = false) ∧
      (4 = fetchSource (fetching 1 1)) ∧
      ((1 : Word) ≠ (0 : Word)) ∧
      ((fetching 1 1).fab.fetch.src < 3)) ∧
    -- fetchData
     (((fetching 1 1).fab.fetch.state = 1 ∨ (fetching 1 1).fab.fetch.state = 2) ∧
      ((fetching 1 1).fab.fetch.keep = none) ∧
      ((fetching 1 1).darkPath = false) ∧
      (4 = fetchSource (fetching 1 1)) ∧
      (ofWords (List.take 2 [0, 0, 7]) = (fetching 1 1).fab.fetch.offset)) ∧
    -- fetchRoundWait
     ((fetching 0 3).fab.fetch.state = 3) ∧
    -- fetchRequest
     ((node.darkPath = false) ∧
      (4 < 4000) ∧
      (node.ringNo < 16) ∧
      (node.fab.node ≠ 0) ∧
      (portOff node 0 = false) ∧
      (portOff node 1 = false) ∧
      (heldStagebook node (fld (wAt [5, 16385] 0) 11 0) = some [])) ∧
    -- fetchRequest
     ((librarian.darkPath = false) ∧
      (4 < 4000) ∧
      (librarian.ringNo < 16) ∧
      (librarian.fab.node ≠ 0) ∧
      (portOff librarian 0 = false) ∧
      (portOff librarian 1 = false) ∧
      (heldStagebook librarian (fld (wAt [0, 0, 7] 0) 11 0) = none) ∧
      (librarian.prompting = true) ∧
      ((decide (librarian.reg HST_LIB_IP_H = 0) && decide (librarian.reg HST_LIB_IP_L = 0)) = false)) ∧
    -- fetchRequest
     ((node.darkPath = false) ∧
      (4 < 4000) ∧
      (node.ringNo < 16) ∧
      (node.fab.node ≠ 0) ∧
      (portOff node 0 = false) ∧
      (portOff node 1 = false) ∧
      (heldStagebook node (fld (wAt [0, 0, 7] 0) 11 0) = none) ∧
      (node.prompting = false ∨ (decide (node.reg HST_LIB_IP_H = 0) && decide (node.reg HST_LIB_IP_L = 0)) = true)) ∧
    -- routeNoticeSend
     ((MayBroadcast joint) ∧
      (isJoint joint = true)) ∧
    -- routeNotice
     (node.darkPath = false) := by
  and_intros <;> decide +kernel

theorem test_requests_served_witness :
    -- rd
     ((localPlace request.addr = LocalPlace.publish) ∧
      (TakesRequest node TxnOp.rd request 0)) ∧
    -- wr
     (((localPlace request.addr = LocalPlace.publish) ∧
       (∀ i ≤ request.len,
          pubRefuses node ((request.addr - 4194304) / 2 + i) = false ∧ isHealth node ((request.addr - 4194304) / 2 + i) = false)) ∧
      (TakesRequest node TxnOp.wr request 0)) ∧
    -- pwr
     (((localPlace request.addr = LocalPlace.publish) ∧
       (∀ i ≤ request.len,
          pubRefuses node ((request.addr - 4194304) / 2 + i) = false ∧ isHealth node ((request.addr - 4194304) / 2 + i) = false)) ∧
      (TakesRequest node TxnOp.pwr request 0)) ∧
    -- gwr
     (((localPlace request.addr = LocalPlace.publish) ∧
       (∀ i ≤ request.len,
          pubRefuses node ((request.addr - 4194304) / 2 + i) = false ∧ isHealth node ((request.addr - 4194304) / 2 + i) = false)) ∧
      (TakesRequest node TxnOp.gwr request 0)) ∧
    -- lrd
     (((localPlace request.addr = LocalPlace.publish) ∧
       (lockMode node = false)) ∧
      (TakesRequest node TxnOp.lrd request 0)) ∧
    -- lwr
     (((localPlace request.addr = LocalPlace.publish) ∧
       (lockMode locked = false) ∧
       (∀ i ≤ request.len,
          pubRefuses locked ((request.addr - 4194304) / 2 + i) = false ∧
            isHealth locked ((request.addr - 4194304) / 2 + i) = false) ∧
       (locked.brg.lock = some { owner := request.src, addr := request.addr, len := request.len, since := 0 }) ∧
       (max locked.now 0 < 81920000000) ∧
       (locked.brg.blocked = [])) ∧
      (TakesRequest locked TxnOp.lwr request 0)) ∧
    -- lrd
     ((lockMode lockless = true) ∧
      (TakesRequest lockless TxnOp.lrd request 0)) ∧
    -- semacq
     (((15 = requestCell.cell) ∧
       ((vget node.brg.cells 15).owner = none)) ∧
      (TakesRequest node TxnOp.semacq requestCell 0)) ∧
    -- semacq
     (((15 = requestCell.cell) ∧
       ((vget (cellHeld source).brg.cells 15).owner = some requestCell.src)) ∧
      (TakesRequest (cellHeld source) TxnOp.semacq requestCell 0)) ∧
    -- semacq
     (((15 = requestCell.cell) ∧
       ((vget (cellHeld { ring := 0, node := 7, ep := 1 }).brg.cells 15).owner = some { ring := 0, node := 7, ep := 1 }) ∧
       ({ ring := 0, node := 7, ep := 1 } ≠ requestCell.src)) ∧
      (TakesRequest (cellHeld { ring := 0, node := 7, ep := 1 }) TxnOp.semacq requestCell 0)) ∧
    -- semrel
     (((15 = requestCell.cell) ∧
       ((vget (cellHeld source).brg.cells 15).owner = some requestCell.src)) ∧
      (TakesRequest (cellHeld source) TxnOp.semrel requestCell 0)) ∧
    -- semrel
     (((15 = requestCell.cell) ∧
       ((vget node.brg.cells 15).owner = none)) ∧
      (TakesRequest node TxnOp.semrel requestCell 0)) ∧
    -- semrel
     (((15 = requestCell.cell) ∧
       ((vget (cellHeld { ring := 0, node := 7, ep := 1 }).brg.cells 15).owner = some { ring := 0, node := 7, ep := 1 }) ∧
       ({ ring := 0, node := 7, ep := 1 } ≠ requestCell.src)) ∧
      (TakesRequest (cellHeld { ring := 0, node := 7, ep := 1 }) TxnOp.semrel requestCell 0)) ∧
    -- stg
     ((stgStatus (node.at 0) request = stOK) ∧
      (TakesRequest node TxnOp.stg request 0)) ∧
    -- stg
     (((stgStatus (node.at 3276800000) request = 19) ∧
       (19 ≠ stOK)) ∧
      (TakesRequest node TxnOp.stg request 3276800000)) ∧
    -- commit
     ((latchPassed (node.at 0) request.cycle = false) ∧
      (TakesRequest node TxnOp.commit request 0)) ∧
    -- commit
     ((latchPassed (node.at 422707200000) request.cycle = true) ∧
      (TakesRequest node TxnOp.commit request 422707200000)) ∧
    -- abort
     (TakesRequest node TxnOp.abort request 0) ∧
    -- sig
     ((node.brg.inbox.length < 32) ∧
      (TakesRequest node TxnOp.sig request 0)) ∧
    -- sig
     ((32 ≤ signalsFull.brg.inbox.length) ∧
      (TakesRequest signalsFull TxnOp.sig request 0)) ∧
    -- cancel
     (((requestCancel.set ≠ requestCancel.seq) ∧
       (underWay ∈ (filtered underWay).brg.dups) ∧
       (isKey requestCancel.src requestCancel.tag requestCancel.set underWay = true) ∧
       (∀ d' ∈ (filtered underWay).brg.dups,
          isKey requestCancel.src requestCancel.tag requestCancel.set d' = true → d' = underWay) ∧
       (underWay.done = false)) ∧
      (TakesRequest (filtered underWay) TxnOp.cancel requestCancel 0)) ∧
    -- cancel
     (((request.set ≠ request.seq) ∧
       (dupFind node request.src request.tag request.set = none) ∧
       (node.brg.dups.length < 511)) ∧
      (TakesRequest node TxnOp.cancel request 0)) ∧
    -- rd
     (((filtered served).darkPath = false) ∧
      (ownIssuer (filtered served) request.src = false) ∧
      ((filtered served).brg.waiting = []) ∧
      ((filtered served).brg.lock = none) ∧
      (CellsTimely (filtered served) 0) ∧
      (dupFind (filtered served) request.src request.tag request.seq = some served) ∧
      (served.response = some { status := 0, data := [7, 8] }) ∧
      (served.done = true) ∧
      (Instr.rd request 0 ∈
         [Instr.rd request 0, Instr.wr request 0, Instr.gwr request 0, Instr.lrd request 0, Instr.lwr request 0,
           Instr.semacq request 0, Instr.semrel request 0, Instr.stg request 0])) := by
  and_intros <;> first | decide +kernel | (constructor <;> decide +kernel)

theorem test_requests_issued_witness :
    -- requestIssue
     ((31 = (descriptor TxnOp.rd).ep) ∧
      ((descriptor TxnOp.rd).ep ≠ 5) ∧
      (judge node (descriptor TxnOp.rd) = none) ∧
      ((vget node.brg.eps 31).held = [] ∧
         mustHold (node.at 0) 31 (descriptor TxnOp.rd) = false ∧ sigMustWait node 31 (descriptor TxnOp.rd) = false) ∧
      ((descriptor TxnOp.rd).op.posted = false) ∧
      ((descriptor TxnOp.rd).op ≠ TxnOp.gwr) ∧
      ((descriptor TxnOp.rd).op ≠ TxnOp.range) ∧
      (freeTag node (descriptor TxnOp.rd).ep = some 0) ∧
      (RingsUp node) ∧
      ((descriptor TxnOp.rd).dring = node.ringNo) ∧
      ((descriptor TxnOp.rd).dnode < 4000) ∧
      (node.ringNo < 16) ∧
      ((descriptor TxnOp.rd).dnode ≠ node.fab.node)) ∧
    -- requestIssue
     ((31 = (descriptor TxnOp.pwr).ep) ∧
      ((descriptor TxnOp.pwr).ep ≠ 5) ∧
      (judge node (descriptor TxnOp.pwr) = none) ∧
      ((vget node.brg.eps 31).held = [] ∧
         mustHold (node.at 0) 31 (descriptor TxnOp.pwr) = false ∧ sigMustWait node 31 (descriptor TxnOp.pwr) = false) ∧
      ((descriptor TxnOp.pwr).op = TxnOp.pwr ∨ (descriptor TxnOp.pwr).op = TxnOp.cancel) ∧
      (RingsUp node) ∧
      ((descriptor TxnOp.pwr).dring = node.ringNo) ∧
      ((descriptor TxnOp.pwr).dnode < 4000) ∧
      (node.ringNo < 16) ∧
      ((descriptor TxnOp.pwr).dnode ≠ node.fab.node)) ∧
    -- requestIssue
     ((31 = (descriptor TxnOp.rd).ep) ∧
      ((descriptor TxnOp.rd).ep ≠ 5) ∧
      (judge tagsOut (descriptor TxnOp.rd) = none) ∧
      ((descriptor TxnOp.rd).op ≠ TxnOp.commit) ∧
      ((descriptor TxnOp.rd).op.posted = false) ∧
      (freeTag tagsOut (descriptor TxnOp.rd).ep = none)) ∧
    -- requestIssue
     ((31 = descriptorNowhere.ep) ∧
      (descriptorNowhere.ep ≠ 5) ∧
      (judge node descriptorNowhere = some 3) ∧
      (3 ≠ stNO_ROUTE) ∧
      (descriptorNowhere.op.posted = false) ∧
      (descriptorNowhere.ep ≠ 0)) ∧
    -- range
     ((31 = (descriptorSpan 3998 2).ep) ∧
      ((descriptorSpan 3998 2).ep ≠ 5) ∧
      (judge node
           { ep := (descriptorSpan 3998 2).ep, op := TxnOp.range, dring := (descriptorSpan 3998 2).dring,
             dnode := (descriptorSpan 3998 2).dnode, count := (descriptorSpan 3998 2).count,
             burst := (descriptorSpan 3998 2).burst, len := (descriptorSpan 3998 2).len, cg := (descriptorSpan 3998 2).cg,
             cell := (descriptorSpan 3998 2).cell, addr := (descriptorSpan 3998 2).addr, set := (descriptorSpan 3998 2).set,
             cycle := (descriptorSpan 3998 2).cycle, data := (descriptorSpan 3998 2).data } =
         none) ∧
      ((vget node.brg.eps 31).held = [] ∧
         mustHold (node.at 0) 31
               { ep := (descriptorSpan 3998 2).ep, op := TxnOp.range, dring := (descriptorSpan 3998 2).dring,
                 dnode := (descriptorSpan 3998 2).dnode, count := (descriptorSpan 3998 2).count,
                 burst := (descriptorSpan 3998 2).burst, len := (descriptorSpan 3998 2).len, cg := (descriptorSpan 3998 2).cg,
                 cell := (descriptorSpan 3998 2).cell, addr := (descriptorSpan 3998 2).addr,
                 set := (descriptorSpan 3998 2).set, cycle := (descriptorSpan 3998 2).cycle,
                 data := (descriptorSpan 3998 2).data } =
             false ∧
           sigMustWait node 31
               { ep := (descriptorSpan 3998 2).ep, op := TxnOp.range, dring := (descriptorSpan 3998 2).dring,
                 dnode := (descriptorSpan 3998 2).dnode, count := (descriptorSpan 3998 2).count,
                 burst := (descriptorSpan 3998 2).burst, len := (descriptorSpan 3998 2).len, cg := (descriptorSpan 3998 2).cg,
                 cell := (descriptorSpan 3998 2).cell, addr := (descriptorSpan 3998 2).addr,
                 set := (descriptorSpan 3998 2).set, cycle := (descriptorSpan 3998 2).cycle,
                 data := (descriptorSpan 3998 2).data } =
             false) ∧
      (freeTag node (descriptorSpan 3998 2).ep = some 0) ∧
      ((descriptorSpan 3998 2).dring = node.ringNo) ∧
      (node.ringNo < 16) ∧
      (RingsUp node) ∧
      (node.fab.node < (descriptorSpan 3998 2).dnode ∨
         (descriptorSpan 3998 2).dnode + (descriptorSpan 3998 2).count ≤ node.fab.node)) ∧
    -- commitDescriptor
     ((31 = (descriptor TxnOp.rd).ep) ∧
      ((descriptor TxnOp.rd).ep ≠ 5) ∧
      (judge node
           { ep := (descriptor TxnOp.rd).ep, op := TxnOp.commit, dring := (descriptor TxnOp.rd).dring,
             dnode := (descriptor TxnOp.rd).dnode, count := (descriptor TxnOp.rd).count, burst := (descriptor TxnOp.rd).burst,
             len := (descriptor TxnOp.rd).len, cg := (descriptor TxnOp.rd).cg, cell := (descriptor TxnOp.rd).cell,
             addr := (descriptor TxnOp.rd).addr, set := (descriptor TxnOp.rd).set, cycle := (descriptor TxnOp.rd).cycle,
             data := (descriptor TxnOp.rd).data } =
         none)) := by
  and_intros <;> decide +kernel

theorem test_requests_end_witness :
    -- rsp
     ((openFind (opened 0) 31 63 4 = some (openRequest 0)) ∧
      ((openRequest 0).via = ReqVia.plain) ∧
      (31 ≠ 0) ∧
      ((vget (opened 0).brg.eps 31).held = []) ∧
      ((opened 0).darkPath = false) ∧
      ((openRequest 0).desc.op ≠ TxnOp.gwr) ∧
      ((openRequest 0).desc.op ≠ TxnOp.range)) ∧
    -- rsp
     ((openFind node 31 63 4 = none) ∧
      ((vget node.brg.eps 31).held = []) ∧
      (node.darkPath = false)) ∧
    -- txnTimeout
     ((openFind retrying 31 63 4 = some (openRequest 0)) ∧
      ((openRequest 0).desc.op ≠ TxnOp.gwr) ∧
      ((openRequest 0).desc.op ≠ TxnOp.range) ∧
      ((openRequest 0).desc.op.posted = false) ∧
      (31 ≠ 5) ∧
      ((openRequest 0).desc.dring = retrying.ringNo) ∧
      ((openRequest 0).desc.dnode < 4000) ∧
      (retrying.ringNo < 16) ∧
      ((openRequest 0).desc.dnode ≠ retrying.fab.node) ∧
      (RingsUp retrying) ∧
      ((vget retrying.brg.eps 31).held = []) ∧
      ((openRequest 0).expected = []) ∧
      ((openRequest 0).attempts < fld (retrying.regSel BRG_EP_CFG 31) 13 12)) ∧
    -- txnTimeout
     ((openFind (opened 0) 31 63 4 = some (openRequest 0)) ∧
      ((openRequest 0).desc.op ≠ TxnOp.gwr) ∧
      ((openRequest 0).desc.op ≠ TxnOp.range) ∧
      ((openRequest 0).desc.op.posted = false) ∧
      (31 ≠ 5) ∧
      ((openRequest 0).desc.dring = (opened 0).ringNo) ∧
      ((openRequest 0).desc.dnode < 4000) ∧
      ((opened 0).ringNo < 16) ∧
      ((openRequest 0).desc.dnode ≠ (opened 0).fab.node) ∧
      (RingsUp (opened 0)) ∧
      ((vget (opened 0).brg.eps 31).held = []) ∧
      ((openRequest 0).expected = []) ∧
      (fld ((opened 0).regSel BRG_EP_CFG 31) 13 12 ≤ (openRequest 0).attempts) ∧
      (windowFull ((opened 0).at 63) 31 = false) ∧
      ((openRequest 0).via = ReqVia.plain) ∧
      (31 ≠ 0)) ∧
    -- pacingRelease
     (((vget holding.brg.eps 31).held = [heldRequest]) ∧
      (heldRequest.desc.ep = 31) ∧
      (heldRequest.desc.op.posted = false) ∧
      (mustHold (holding.at 63) 31 heldRequest.desc = false)) ∧
    -- signalRelease
     (((vget holdingSignal.brg.eps 31).heldSigs = [descriptor TxnOp.sig]) ∧
      ((windowOf (holdingSignal.at 63) (vget holdingSignal.brg.eps 31)).length < 65535) ∧
      ((descriptor TxnOp.sig).ep = 31) ∧
      ((descriptor TxnOp.sig).op = TxnOp.sig) ∧
      ((vget holdingSignal.brg.eps 31).posted.contains (descDest (descriptor TxnOp.sig)) = false) ∧
      ((descriptor TxnOp.sig).dring = holdingSignal.ringNo) ∧
      ((descriptor TxnOp.sig).dnode < 4000) ∧
      (holdingSignal.ringNo < 16) ∧
      ((descriptor TxnOp.sig).dnode ≠ holdingSignal.fab.node) ∧
      (RingsUp holdingSignal)) := by
  and_intros <;> decide +kernel

theorem test_bridge_upkeep_witness :
    -- lockReleaseTimeout
     ((locked.brg.lock = some { owner := source, addr := 4227068, len := 1, since := 0 }) ∧
      (locked.brg.blocked = [])) ∧
    -- cellTimeout
     ((vget (cellHeld source).brg.cells 15).owner.isSome = true) ∧
    -- setClose
     ((setOpen (closingState none) 31 255 = some (closingSet none)) ∧
      ((closingSet none).closing = some ReqVia.plain) ∧
      ((closingSet none).open_ = 0) ∧
      (31 ≠ 0) ∧
      (windowFull ((closingState none).at 0) 31 = false) ∧
      (dupFind (closingState none) { ring := (closingState none).ringNo, node := (closingState none).fab.node, ep := 31 } 0
           (BitVec.toNat (vget (closingState none).brg.eps 31).seq) =
         none) ∧
      ((closingState none).fab.node ≠ 0) ∧
      (RingsUp (closingState none)) ∧
      ((closingSet none).failed = none) ∧
      (↑(atLeastOne (BitVec.toNat ((closingState none).reg BRG_STG_GUARD)) * usT) ≤
         (instantsOf ((closingState none).at 0) (closingSet none).cycle).2.1 - ((closingState none).at 0).ring)) ∧
    -- setClose
     ((setOpen (closingState none) 31 255 = some (closingSet none)) ∧
      ((closingSet none).closing = some ReqVia.plain) ∧
      ((closingSet none).open_ = 0) ∧
      (31 ≠ 0) ∧
      (windowFull ((closingState none).at 422707200000) 31 = false) ∧
      (dupFind (closingState none) { ring := (closingState none).ringNo, node := (closingState none).fab.node, ep := 31 } 0
           (BitVec.toNat (vget (closingState none).brg.eps 31).seq) =
         none) ∧
      ((closingState none).fab.node ≠ 0) ∧
      (RingsUp (closingState none)) ∧
      ((closingSet none).failed = none) ∧
      ((instantsOf ((closingState none).at 422707200000) (closingSet none).cycle).2.1 -
           ((closingState none).at 422707200000).ring <
         ↑(atLeastOne (BitVec.toNat ((closingState none).reg BRG_STG_GUARD)) * usT))) ∧
    -- setClose
     ((setOpen (closingState (some (6, 2))) 31 255 = some (closingSet (some (6, 2)))) ∧
      ((closingSet (some (6, 2))).closing = some ReqVia.plain) ∧
      ((closingSet (some (6, 2))).open_ = 0) ∧
      (31 ≠ 0) ∧
      (windowFull ((closingState (some (6, 2))).at 0) 31 = false) ∧
      (dupFind (closingState (some (6, 2)))
           { ring := (closingState (some (6, 2))).ringNo, node := (closingState (some (6, 2))).fab.node, ep := 31 } 0
           (BitVec.toNat (vget (closingState (some (6, 2))).brg.eps 31).seq) =
         none) ∧
      ((closingState (some (6, 2))).fab.node ≠ 0) ∧
      (RingsUp (closingState (some (6, 2)))) ∧
      ((closingSet (some (6, 2))).failed = some (6, 2))) ∧
    -- sigForward
     ((bitOf (forwarding.regSel SIG_FWD_SRC 7) 15 = true) ∧
      (fwdSource forwarding (forwarding.regSel SIG_FWD_SRC 7) = true) ∧
      (vget forwarding.brg.fwdSeen 7 = false)) ∧
    -- sigRxPop
     ((logged.brg.inbox = [{ src := source, num := 255, d0 := 7, d1 := 8 }]) ∧
      (logged.lockedOut Path.qspi = false) ∧
      (viewBlank logged Path.qspi = false) ∧
      (quiet logged Path.qspi = false)) ∧
    -- ferrPop
     ((logged.brg.ferr =
         [{ cancelled := false, op := TxnOp.wr, status := 2, src := source, tag := 63, seq := 65535, addr := 4227072 }]) ∧
      (logged.lockedOut Path.qspi = false) ∧
      (viewBlank logged Path.qspi = false) ∧
      (quiet logged Path.qspi = false)) := by
  and_intros <;> decide +kernel

theorem test_clusters_start_witness :
    -- selfTestDone
     (((vget (testing.cl 0).phys 15).retired = false) ∧
      ((vget (testing.cl 0).phys 15).testing = true)) ∧
    -- clusterBind
     (((binding.cl 0).binding = true) ∧
      (∀ (p : Fin 16), (vget (binding.cl 0).phys p).testing = false)) ∧
    -- cluOffline
     ((testing.cl 0).online = true) ∧
    -- cluOnline
     (((clusterOff.cl 0).cfg = some section0) ∧
      ((clusterOff.cl 0).online = false) ∧
      ((clusterOff.cl 0).binding = false)) ∧
    -- cluRestart
     (((testing.cl 0).online = true) ∧
      ((testing.eng 0 0).phys.isSome = true)) := by
  and_intros <;> decide +kernel

theorem test_migrations_run_witness :
    -- rotationDue
     ((rotating.bit (CLU_CTRL 0) 15 = true) ∧
      (rotating.bit (CLU_CTRL 0) 14 = false) ∧
      ((rotating.cl 0).online = true) ∧
      (spare? (rotating.cl 0) = some 1) ∧
      (rotationNext (rotating.cl 0) = some (0, 0)) ∧
      ((rotating.cl 0).mig = none)) ∧
    -- migrationForce
     (((migrating MigCause.rotation false).bit (CLU_CTRL 0) 15 = true) ∧
      ((migrating MigCause.rotation false).bit (CLU_CTRL 0) 14 = false) ∧
      (((migrating MigCause.rotation false).cl 0).online = true) ∧
      (spare? ((migrating MigCause.rotation false).cl 0) = some 1) ∧
      (rotationNext ((migrating MigCause.rotation false).cl 0) = some (0, 0)) ∧
      (((migrating MigCause.rotation false).cl 0).mig = some (migration MigCause.rotation false)) ∧
      ((migration MigCause.rotation false).stopped = false) ∧
      ((migration MigCause.rotation false).cause = MigCause.rotation) ∧
      (((migrating MigCause.rotation false).cl 0).failed = [])) ∧
    -- cluMigrate
     (((rotating.eng 0 0).phys = some 0) ∧
      ((rotating.cl 0).mig = none) ∧
      (rotating.bit (CLU_CTRL 0) 14 = false) ∧
      (spare? (rotating.cl 0) = some 1)) ∧
    -- migrationStop
     ((((migrating MigCause.rotation false).cl 0).mig = some (migration MigCause.rotation false)) ∧
      ((migration MigCause.rotation false).stopped = false) ∧
      (holdsLock (migrating MigCause.rotation false) 0 (migration MigCause.rotation false).leng = false) ∧
      (((migrating MigCause.rotation false).eng 0 (migration MigCause.rotation false).leng).safe = true)) ∧
    -- migrationForce
     ((((migrating MigCause.command false).cl 0).mig = some (migration MigCause.command false)) ∧
      ((migration MigCause.command false).stopped = false) ∧
      (holdsLock (migrating MigCause.command false) 0 (migration MigCause.command false).leng = false) ∧
      ((migration MigCause.command false).cause ≠ MigCause.rotation)) ∧
    -- migrationResume
     ((((migrating MigCause.failure true).cl 0).mig = some (migration MigCause.failure true)) ∧
      ((migration MigCause.failure true).stopped = true) ∧
      (((migrating MigCause.failure true).cl 0).failed = [])) := by
  and_intros <;> decide +kernel

theorem test_engines_watched_witness :
    -- watchdogExpire
     ((dogRuns node 0 0 = true) ∧
      ((node.eng 0 0).wdFirst = false)) ∧
    -- watchdogExpire
     ((dogRuns expired 0 0 = true) ∧
      ((expired.eng 0 0).wdFirst = true)) ∧
    -- deadlineMiss
     (((unsynced.eng 0 0).run = RunState.running) ∧
      ((unsynced.eng 0 0).intm = false) ∧
      ((unsynced.eng 0 0).synced = false) ∧
      (unsynced.regSel (CLU_ENG_DL 0) 0 ≠ 0)) ∧
    -- engineWake
     (((((darkIn (EngOp.twait 15)).eng 0 0).dark = some (EngOp.twait 15)) ∧
       (((darkIn (EngOp.twait 15)).eng 0 0).wakeAt ≤ ((darkIn (EngOp.twait 15)).at 0).fring)) ∧
      (MayComplete (darkIn (EngOp.twait 15)) 0 0)) ∧
    -- engineWake
     (((((darkIn (EngOp.recv 15 14)).eng 0 0).dark = some (EngOp.recv 15 14)) ∧
       (((darkIn (EngOp.recv 15 14)).conduit 0 14).inw = [7])) ∧
      (MayComplete (darkIn (EngOp.recv 15 14)) 0 0)) ∧
    -- engineWake
     (((((darkIn (EngOp.wait 0 11)).eng 0 0).dark = some (EngOp.wait 0 11)) ∧
       (0 ≤ 2) ∧
       (edgeLatched ((darkIn (EngOp.wait 0 11)).eng 0 0) 0 11 = true)) ∧
      (MayComplete (darkIn (EngOp.wait 0 11)) 0 0)) ∧
    -- stallEnd
     (((((stalledIn (EngOp.sho 15 15)).eng 0 0).stall = some (EngOp.sho 15 15)) ∧
       (ownsPacer (stalledIn (EngOp.sho 15 15)) 0 0 15 = true) ∧
       (pacerMode ((stalledIn (EngOp.sho 15 15)).pacer 0 15) = 1) ∧
       (((stalledIn (EngOp.sho 15 15)).pacer 0 15).tx = none)) ∧
      (MayComplete (stalledIn (EngOp.sho 15 15)) 0 0)) ∧
    -- stallEnd
     (((((stalledIn (EngOp.send 15 14)).eng 0 0).stall = some (EngOp.send 15 14)) ∧
       (ownsConduit (stalledIn (EngOp.send 15 14)) 0 0 14 = true) ∧
       (((stalledIn (EngOp.send 15 14)).conduit 0 14).out.length < 8)) ∧
      (MayComplete (stalledIn (EngOp.send 15 14)) 0 0)) ∧
    -- intmSafePointWait
     ((intermission.fintm = true) ∧
      ((intermission.eng 0 0).run = RunState.running) ∧
      (holdsLock intermission 0 0 = false)) := by
  and_intros <;> first | decide +kernel | (constructor <;> decide +kernel)

theorem test_pacers_and_conduits_witness :
    -- pacerTick
     ((tickDue (max (pacing pacerPwm).now 0) ((pacing pacerPwm).pacer 0 15) = some 0) ∧
      (pacerMode ((pacing pacerPwm).pacer 0 15) = 3)) ∧
    -- pacerTick
     ((pacerMode ((pacing pacerHigh).pacer 0 15) = 3) ∧
      (1 ≤ ((pacing pacerHigh).pacer 0 15).nextTick) ∧
      (pacerNear (max (pacing pacerHigh).now 0)
           (((pacing pacerHigh).pacer 0 15).grid +
               (((pacing pacerHigh).pacer 0 15).nextTick - 1) * perTicks ((pacing pacerHigh).pacer 0 15) +
             ((pacing pacerHigh).pacer 0 15).cnt.toNat * pacerT) =
         true) ∧
      (((pacing pacerHigh).pacer 0 15).cnt.toNat < ((pacing pacerHigh).pacer 0 15).per.toNat)) ∧
    -- pacerTick
     ((tickDue (max (pacing pacerAsync).now 0) ((pacing pacerAsync).pacer 0 15) = some 0) ∧
      (pacerMode ((pacing pacerAsync).pacer 0 15) = 1) ∧
      (pacerSub ((pacing pacerAsync).pacer 0 15) = 2) ∧
      (((pacing pacerAsync).pacer 0 15).out = some [true, false])) ∧
    -- pacerTick
     ((tickDue (max (pacing pacerSync).now 0) ((pacing pacerSync).pacer 0 15) = some 0) ∧
      (pacerMode ((pacing pacerSync).pacer 0 15) = 1) ∧
      (pacerSub ((pacing pacerSync).pacer 0 15) = 0) ∧
      (((pacing pacerSync).pacer 0 15).out = some [true, false]) ∧
      (((pacing pacerSync).pacer 0 15).clkOut = bitOf ((pacing pacerSync).pacer 0 15).cfg 6) ∧
      (bitOf ((pacing pacerSync).pacer 0 15).cfg 5 = true)) ∧
    -- conduitFrame
     ((conduitCfg ((assembled 14 [16640, 6, 0, 1, 7]).cl 0) 14 = some (false, 0)) ∧
      (itemOf false ((assembled 14 [16640, 6, 0, 1, 7]).conduit 0 14).asm = some ([16640, 6, 0, 1, 7], [])) ∧
      ((assembled 14 [16640, 6, 0, 1, 7]).fab.node ≠ 0) ∧
      ({ w0 := wAt [(16640 : Word), (6 : Word), (0 : Word), (1 : Word), (7 : Word)] (0 : Nat) &&& (51199 : Word),
               w1 := wAt [(16640 : Word), (6 : Word), (0 : Word), (1 : Word), (7 : Word)] (1 : Nat),
               w2 := (assembled (14 : Fin (16 : Nat)) [(16640 : Word), (6 : Word), (0 : Word), (1 : Word), (7 : Word)]).srcWord,
               w3 := wAt [(16640 : Word), (6 : Word), (0 : Word), (1 : Word), (7 : Word)] (3 : Nat),
               payload := List.drop (4 : Nat) [(16640 : Word), (6 : Word), (0 : Word), (1 : Word), (7 : Word)], crcOk := true :
               Frame }.type ≠
           (2 : Nat) ∨
         { w0 := wAt [(16640 : Word), (6 : Word), (0 : Word), (1 : Word), (7 : Word)] (0 : Nat) &&& (51199 : Word),
                 w1 := wAt [(16640 : Word), (6 : Word), (0 : Word), (1 : Word), (7 : Word)] (1 : Nat),
                 w2 :=
                   (assembled (14 : Fin (16 : Nat)) [(16640 : Word), (6 : Word), (0 : Word), (1 : Word), (7 : Word)]).srcWord,
                 w3 := wAt [(16640 : Word), (6 : Word), (0 : Word), (1 : Word), (7 : Word)] (3 : Nat),
                 payload := List.drop (4 : Nat) [(16640 : Word), (6 : Word), (0 : Word), (1 : Word), (7 : Word)], crcOk := true :
                 Frame }.dnode =
             (0 : Nat) ∨
           (512 : Nat) <
             { w0 := wAt [(16640 : Word), (6 : Word), (0 : Word), (1 : Word), (7 : Word)] (0 : Nat) &&& (51199 : Word),
                 w1 := wAt [(16640 : Word), (6 : Word), (0 : Word), (1 : Word), (7 : Word)] (1 : Nat),
                 w2 :=
                   (assembled (14 : Fin (16 : Nat)) [(16640 : Word), (6 : Word), (0 : Word), (1 : Word), (7 : Word)]).srcWord,
                 w3 := wAt [(16640 : Word), (6 : Word), (0 : Word), (1 : Word), (7 : Word)] (3 : Nat),
                 payload := List.drop (4 : Nat) [(16640 : Word), (6 : Word), (0 : Word), (1 : Word), (7 : Word)], crcOk := true :
                 Frame }.len)) ∧
    -- conduitFrame
     ((conduitCfg ((assembled 14 [16896, 6, 0, 1, 7]).cl 0) 14 = some (false, 0)) ∧
      (itemOf false ((assembled 14 [16896, 6, 0, 1, 7]).conduit 0 14).asm = some ([16896, 6, 0, 1, 7], [])) ∧
      ({ w0 := wAt [(16896 : Word), (6 : Word), (0 : Word), (1 : Word), (7 : Word)] (0 : Nat) &&& (51199 : Word),
             w1 := wAt [(16896 : Word), (6 : Word), (0 : Word), (1 : Word), (7 : Word)] (1 : Nat),
             w2 := (assembled (14 : Fin (16 : Nat)) [(16896 : Word), (6 : Word), (0 : Word), (1 : Word), (7 : Word)]).srcWord,
             w3 := wAt [(16896 : Word), (6 : Word), (0 : Word), (1 : Word), (7 : Word)] (3 : Nat),
             payload := List.drop (4 : Nat) [(16896 : Word), (6 : Word), (0 : Word), (1 : Word), (7 : Word)], crcOk := true :
             Frame }.type =
         (2 : Nat)) ∧
      ({ w0 := wAt [(16896 : Word), (6 : Word), (0 : Word), (1 : Word), (7 : Word)] (0 : Nat) &&& (51199 : Word),
             w1 := wAt [(16896 : Word), (6 : Word), (0 : Word), (1 : Word), (7 : Word)] (1 : Nat),
             w2 := (assembled (14 : Fin (16 : Nat)) [(16896 : Word), (6 : Word), (0 : Word), (1 : Word), (7 : Word)]).srcWord,
             w3 := wAt [(16896 : Word), (6 : Word), (0 : Word), (1 : Word), (7 : Word)] (3 : Nat),
             payload := List.drop (4 : Nat) [(16896 : Word), (6 : Word), (0 : Word), (1 : Word), (7 : Word)], crcOk := true :
             Frame }.dring =
         (assembled (14 : Fin (16 : Nat)) [(16896 : Word), (6 : Word), (0 : Word), (1 : Word), (7 : Word)]).ringNo) ∧
      ({ w0 := wAt [(16896 : Word), (6 : Word), (0 : Word), (1 : Word), (7 : Word)] (0 : Nat) &&& (51199 : Word),
             w1 := wAt [(16896 : Word), (6 : Word), (0 : Word), (1 : Word), (7 : Word)] (1 : Nat),
             w2 := (assembled (14 : Fin (16 : Nat)) [(16896 : Word), (6 : Word), (0 : Word), (1 : Word), (7 : Word)]).srcWord,
             w3 := wAt [(16896 : Word), (6 : Word), (0 : Word), (1 : Word), (7 : Word)] (3 : Nat),
             payload := List.drop (4 : Nat) [(16896 : Word), (6 : Word), (0 : Word), (1 : Word), (7 : Word)], crcOk := true :
             Frame }.dnode <
         (4000 : Nat)) ∧
      ({ w0 := wAt [(16896 : Word), (6 : Word), (0 : Word), (1 : Word), (7 : Word)] (0 : Nat) &&& (51199 : Word),
             w1 := wAt [(16896 : Word), (6 : Word), (0 : Word), (1 : Word), (7 : Word)] (1 : Nat),
             w2 := (assembled (14 : Fin (16 : Nat)) [(16896 : Word), (6 : Word), (0 : Word), (1 : Word), (7 : Word)]).srcWord,
             w3 := wAt [(16896 : Word), (6 : Word), (0 : Word), (1 : Word), (7 : Word)] (3 : Nat),
             payload := List.drop (4 : Nat) [(16896 : Word), (6 : Word), (0 : Word), (1 : Word), (7 : Word)], crcOk := true :
             Frame }.dnode ≠
         (0 : Nat)) ∧
      ({ w0 := wAt [(16896 : Word), (6 : Word), (0 : Word), (1 : Word), (7 : Word)] (0 : Nat) &&& (51199 : Word),
             w1 := wAt [(16896 : Word), (6 : Word), (0 : Word), (1 : Word), (7 : Word)] (1 : Nat),
             w2 := (assembled (14 : Fin (16 : Nat)) [(16896 : Word), (6 : Word), (0 : Word), (1 : Word), (7 : Word)]).srcWord,
             w3 := wAt [(16896 : Word), (6 : Word), (0 : Word), (1 : Word), (7 : Word)] (3 : Nat),
             payload := List.drop (4 : Nat) [(16896 : Word), (6 : Word), (0 : Word), (1 : Word), (7 : Word)], crcOk := true :
             Frame }.dnode ≠
         (assembled (14 : Fin (16 : Nat)) [(16896 : Word), (6 : Word), (0 : Word), (1 : Word), (7 : Word)]).fab.node) ∧
      ((assembled 14 [16896, 6, 0, 1, 7]).fab.node ≠ 0) ∧
      ({ w0 := wAt [(16896 : Word), (6 : Word), (0 : Word), (1 : Word), (7 : Word)] (0 : Nat) &&& (51199 : Word),
             w1 := wAt [(16896 : Word), (6 : Word), (0 : Word), (1 : Word), (7 : Word)] (1 : Nat),
             w2 := (assembled (14 : Fin (16 : Nat)) [(16896 : Word), (6 : Word), (0 : Word), (1 : Word), (7 : Word)]).srcWord,
             w3 := wAt [(16896 : Word), (6 : Word), (0 : Word), (1 : Word), (7 : Word)] (3 : Nat),
             payload := List.drop (4 : Nat) [(16896 : Word), (6 : Word), (0 : Word), (1 : Word), (7 : Word)], crcOk := true :
             Frame }.len ≤
         (512 : Nat)) ∧
      (RingsUp (assembled 14 [16896, 6, 0, 1, 7])) ∧
      ((assembled 14 [16896, 6, 0, 1, 7]).reg SWQ_SMP_N = 0) ∧
      (accepts (assembled 14 [16896, 6, 0, 1, 7]) 8 0
           { w0 := wAt [16896, 6, 0, 1, 7] 0 &&& 51199, w1 := wAt [16896, 6, 0, 1, 7] 1,
             w2 := (assembled 14 [16896, 6, 0, 1, 7]).srcWord, w3 := wAt [16896, 6, 0, 1, 7] 3,
             payload := List.drop 4 [16896, 6, 0, 1, 7], crcOk := true } =
         true) ∧
      ({ w0 := wAt [(16896 : Word), (6 : Word), (0 : Word), (1 : Word), (7 : Word)] (0 : Nat) &&& (51199 : Word),
               w1 := wAt [(16896 : Word), (6 : Word), (0 : Word), (1 : Word), (7 : Word)] (1 : Nat),
               w2 := (assembled (14 : Fin (16 : Nat)) [(16896 : Word), (6 : Word), (0 : Word), (1 : Word), (7 : Word)]).srcWord,
               w3 := wAt [(16896 : Word), (6 : Word), (0 : Word), (1 : Word), (7 : Word)] (3 : Nat),
               payload := List.drop (4 : Nat) [(16896 : Word), (6 : Word), (0 : Word), (1 : Word), (7 : Word)], crcOk := true :
               Frame }.cls =
           (0 : Nat) →
         (List.drop (4 : Nat) [(16896 : Word), (6 : Word), (0 : Word), (1 : Word), (7 : Word)]).length ≤ (32 : Nat))) ∧
    -- conduitDescriptor
     ((conduitCfg ((assembled 15 [0, 0, 0, 64, 0]).cl 0) 15 = some (true, 0)) ∧
      (itemOf true ((assembled 15 [0, 0, 0, 64, 0]).conduit 0 15).asm = some ([0, 0, 0, 64, 0], [])) ∧
      (8 ≤ engEndpoint ((assembled 15 [0, 0, 0, 64, 0]).cl 0) 0) ∧
      (8 = (parseDescriptor (engEndpoint ((assembled 15 [0, 0, 0, 64, 0]).cl 0) 0) [0, 0, 0, 64, 0]).ep) ∧
      ((parseDescriptor (engEndpoint ((assembled 15 [0, 0, 0, 64, 0]).cl 0) 0) [0, 0, 0, 64, 0]).op.posted = false) ∧
      (judge (assembled 15 [0, 0, 0, 64, 0])
           (parseDescriptor (engEndpoint ((assembled 15 [0, 0, 0, 64, 0]).cl 0) 0) [0, 0, 0, 64, 0]) =
         some 3) ∧
      (3 ≠ stNO_ROUTE)) ∧
    -- conduitDescriptor
     ((conduitCfg ((assembled 15 [6, 0, 0, 64, 0]).cl 0) 15 = some (true, 0)) ∧
      (itemOf true ((assembled 15 [6, 0, 0, 64, 0]).conduit 0 15).asm = some ([6, 0, 0, 64, 0], [])) ∧
      (8 ≤ engEndpoint ((assembled 15 [6, 0, 0, 64, 0]).cl 0) 0) ∧
      (8 = (parseDescriptor (engEndpoint ((assembled 15 [6, 0, 0, 64, 0]).cl 0) 0) [6, 0, 0, 64, 0]).ep) ∧
      ((parseDescriptor (engEndpoint ((assembled 15 [6, 0, 0, 64, 0]).cl 0) 0) [6, 0, 0, 64, 0]).op.posted = false) ∧
      (judge (assembled 15 [6, 0, 0, 64, 0])
           (parseDescriptor (engEndpoint ((assembled 15 [6, 0, 0, 64, 0]).cl 0) 0) [6, 0, 0, 64, 0]) =
         none) ∧
      (freeTag (assembled 15 [6, 0, 0, 64, 0])
           (parseDescriptor (engEndpoint ((assembled 15 [6, 0, 0, 64, 0]).cl 0) 0) [6, 0, 0, 64, 0]).ep =
         some 0) ∧
      ((vget (assembled 15 [6, 0, 0, 64, 0]).brg.eps 8).held = []) ∧
      (mustHold ((assembled 15 [6, 0, 0, 64, 0]).at 0) 8
           (parseDescriptor (engEndpoint ((assembled 15 [6, 0, 0, 64, 0]).cl 0) 0) [6, 0, 0, 64, 0]) =
         false) ∧
      ((parseDescriptor (engEndpoint ((assembled 15 [6, 0, 0, 64, 0]).cl 0) 0) [6, 0, 0, 64, 0]).op ≠ TxnOp.gwr) ∧
      ((parseDescriptor (engEndpoint ((assembled 15 [6, 0, 0, 64, 0]).cl 0) 0) [6, 0, 0, 64, 0]).op ≠ TxnOp.range) ∧
      (RingsUp (assembled 15 [6, 0, 0, 64, 0])) ∧
      ((parseDescriptor (engEndpoint ((assembled 15 [6, 0, 0, 64, 0]).cl 0) 0) [6, 0, 0, 64, 0]).dring =
         (assembled 15 [6, 0, 0, 64, 0]).ringNo) ∧
      ((parseDescriptor (engEndpoint ((assembled 15 [6, 0, 0, 64, 0]).cl 0) 0) [6, 0, 0, 64, 0]).dnode < 4000) ∧
      ((parseDescriptor (engEndpoint ((assembled 15 [6, 0, 0, 64, 0]).cl 0) 0) [6, 0, 0, 64, 0]).dnode ≠
         (assembled 15 [6, 0, 0, 64, 0]).fab.node) ∧
      ((assembled 15 [6, 0, 0, 64, 0]).ringNo < 16)) ∧
    -- conduitTimeout
     ((conduitCfg ((assembled 14 [16896, 6]).cl 0) 14 = some (false, 0)) ∧
      (ownerMoves (assembled 14 [16896, 6]) 0 0 = false) ∧
      (((assembled 14 [16896, 6]).conduit 0 14).asm ++ Machine.crossing (assembled 14 [16896, 6]) 0 14 ++
           ((assembled 14 [16896, 6]).conduit 0 14).out ≠
         []) ∧
      (itemOf false
           (((assembled 14 [16896, 6]).conduit 0 14).asm ++ Machine.crossing (assembled 14 [16896, 6]) 0 14 ++
             ((assembled 14 [16896, 6]).conduit 0 14).out) =
         none)) ∧
    -- conduitTimeout
     ((conduitCfg (goingIn.cl 0) 14 = some (false, 0)) ∧
      (ownerMoves goingIn 0 0 = false) ∧
      ((goingIn.conduit 0 14).inPart = true)) := by
  and_intros <;> decide +kernel

theorem test_alu_register_register_witness :
    -- aluCommand
     (Issues node 0 0) := by
  constructor <;> decide +kernel

theorem test_immediate_and_bit_forms_witness :
    -- addi
     (Issues node 0 0) ∧
    -- cmpi
     (Issues node 0 0) ∧
    -- movi
     (Issues node 0 0) ∧
    -- bset
     (Issues node 0 0) ∧
    -- bclr
     (Issues node 0 0) ∧
    -- btgl
     (Issues node 0 0) ∧
    -- btst
     (Issues node 0 0) := by
  and_intros <;> first | decide +kernel | (constructor <;> decide +kernel)

theorem test_loads_and_stores_witness :
    -- ld
     (((eccArmed (registers 1008 32768 1008) 0 = false) ∧
       ((registers 1008 32768 1008).marked 1083390 = false) ∧
       (engineRam (registers 1008 32768 1008) 0 0 (getR (registers 1008 32768 1008) 0 0 14 + wd 15) = some 1083390)) ∧
      (Issues (registers 1008 32768 1008) 0 0)) ∧
    -- ldf
     (((eccArmed (registers 1008 32768 1008) 0 = false) ∧
       ((registers 1008 32768 1008).marked 1081342 = false) ∧
       (engineRam (registers 1008 32768 1008) 0 0 (getR (registers 1008 32768 1008) 0 0 15 + 16383) = some 1081342)) ∧
      (Issues (registers 1008 32768 1008) 0 0)) ∧
    -- lda
     (((eccArmed (registers 1008 32768 1008) 0 = false) ∧
       ((registers 1008 32768 1008).marked 1083390 = false) ∧
       (engineRam (registers 1008 32768 1008) 0 0 1023 = some 1083390)) ∧
      (Issues (registers 1008 32768 1008) 0 0)) ∧
    -- limm
     (((eccArmed (registers 1008 32768 1008) 0 = false) ∧
       ((registers 1008 32768 1008).marked 1083390 = false)) ∧
      (Issues (registers 1008 32768 1008) 0 0)) ∧
    -- st
     ((engineRam (registers 1008 32768 1008) 0 0 (getR (registers 1008 32768 1008) 0 0 14 + wd 15) = some 1083390) ∧
      (Issues (registers 1008 32768 1008) 0 0)) ∧
    -- stf
     ((engineRam (registers 1008 32768 1008) 0 0 (getR (registers 1008 32768 1008) 0 0 15 + 16383) = some 1081342) ∧
      (Issues (registers 1008 32768 1008) 0 0)) ∧
    -- sta
     ((engineRam (registers 1008 32768 1008) 0 0 1023 = some 1083390) ∧
      (Issues (registers 1008 32768 1008) 0 0)) := by
  and_intros <;> first | decide +kernel | (constructor <;> decide +kernel)

theorem test_branches_and_calls_witness :
    -- bcc
     (([(node.eng 0 0).z, !(node.eng 0 0).z, (node.eng 0 0).c, !(node.eng 0 0).c, (node.eng 0 0).n, !(node.eng 0 0).n,
             (node.eng 0 0).v, !(node.eng 0 0).v, (node.eng 0 0).c && !(node.eng 0 0).z, !(node.eng 0 0).c || (node.eng 0 0).z,
             (node.eng 0 0).n == (node.eng 0 0).v, (node.eng 0 0).n != (node.eng 0 0).v,
             !(node.eng 0 0).z && (node.eng 0 0).n == (node.eng 0 0).v,
             (node.eng 0 0).z || (node.eng 0 0).n != (node.eng 0 0).v, true][0]? =
         some (node.eng 0 0).z) ∧
      (Issues node 0 0)) ∧
    -- bcc
     ((((15 : Fin (16 : Nat)) = (15 : Fin (16 : Nat))) ∧
       ((node.eng 0 0).ta = false) ∧
       ((node.eng 0 0).phys = some 0)) ∧
      (Issues node 0 0)) ∧
    -- jmp
     (Issues node 0 0) ∧
    -- call
     (Issues node 0 0) ∧
    -- ret
     (Issues node 0 0) := by
  and_intros <;> first | decide +kernel | (constructor <;> decide +kernel)

theorem test_traps_witness :
    -- trap
     ((((node.eng 0 0).ta = false) ∧
       ((node.eng 0 0).phys = some 0)) ∧
      (Issues node 0 0)) ∧
    -- illegalInstruction
     ((((node.eng 0 0).ta = false) ∧
       ((node.eng 0 0).phys = some 0)) ∧
      (Issues node 0 0)) ∧
    -- retT
     ((((trapped.eng 0 0).ta = true) ∧
       ((trapped.eng 0 0).phys = some 0)) ∧
      (Issues trapped 0 0)) ∧
    -- retT
     ((((node.eng 0 0).ta = false) ∧
       ((node.eng 0 0).phys = some 0)) ∧
      (Issues node 0 0)) ∧
    -- pinrd
     ((((node.eng 0 0).ta = false) ∧
       ((node.eng 0 0).phys = some 0) ∧
       (13 ≤ 15) ∧
       (Instr.pinrd 0 0 15 15 0 ∈ [Instr.pinrd 0 0 15 15 0, Instr.pinwr 0 0 15 15 0, Instr.pindir 0 0 15 15 0])) ∧
      (Issues node 0 0)) ∧
    -- pacePer
     ((((node.eng 0 0).ta = false) ∧
       ((node.eng 0 0).phys = some 0) ∧
       ((15 : Fin (16 : Nat)) = (15 : Fin (16 : Nat))) ∧
       (Instr.pacePer 0 0 15 15 0 ∈ [Instr.pacePer 0 0 15 15 0, Instr.paceCnt 0 0 15 15 0, Instr.paceRd 0 0 15 15 0])) ∧
      (Issues node 0 0)) ∧
    -- edge
     ((((node.eng 0 0).ta = false) ∧
       ((node.eng 0 0).phys = some 0) ∧
       (13 ≤ 15) ∧
       (Instr.edge 0 0 15 0 ∈ [Instr.edge 0 0 15 0, Instr.tstamp 0 0 15 0])) ∧
      (Issues node 0 0)) ∧
    -- twait
     ((((node.eng 0 0).ta = false) ∧
       ((node.eng 0 0).phys = some 0) ∧
       (14 ≤ 15) ∧
       (Instr.twait 0 0 15 0 ∈ [Instr.twait 0 0 15 0, Instr.tcmp 0 0 15 0])) ∧
      (Issues node 0 0)) ∧
    -- wait
     ((((node.eng 0 0).ta = false) ∧
       ((node.eng 0 0).phys = some 0) ∧
       ((15 ≤ 2 ∨ 15 = 14) ∧ 12 ≤ 15 ∨ 15 = 6 ∧ 15 ≠ 0 ∨ 15 = 7 ∧ 4 ≤ 15 ∨ 8 ≤ 15 ∧ 15 ≠ 14)) ∧
      (Issues node 0 0)) ∧
    -- sho
     ((((disowned.eng 0 0).ta = false) ∧
       ((disowned.eng 0 0).phys = some 0) ∧
       (ownsPacer disowned 0 0 15 = false) ∧
       (0 ≤ 14) ∧
       (Instr.sho 0 0 0 15 0 ∈
          [Instr.sho 0 0 0 15 0, Instr.shoN 0 0 0 15 0, Instr.shi 0 0 0 15 0, Instr.shiN 0 0 0 15 0, Instr.pacePer 0 0 0 15 0,
            Instr.paceCnt 0 0 0 15 0, Instr.paceRd 0 0 0 15 0, Instr.paceSt 0 0 0 15 0, Instr.wait 0 0 4 15 0,
            Instr.wait 0 0 5 15 0])) ∧
      (Issues disowned 0 0)) ∧
    -- send
     ((((disowned.eng 0 0).ta = false) ∧
       ((disowned.eng 0 0).phys = some 0) ∧
       (ownsConduit disowned 0 0 15 = false) ∧
       (Instr.send 0 0 15 15 0 ∈
          [Instr.send 0 0 15 15 0, Instr.recv 0 0 15 15 0, Instr.peek 0 0 15 15 0, Instr.poll 0 0 15 15 0,
            Instr.wait 0 0 3 15 0])) ∧
      (Issues disowned 0 0)) ∧
    -- sho
     ((((node.eng 0 0).ta = false) ∧
       ((node.eng 0 0).phys = some 0) ∧
       (ownsPacer node 0 0 15 = true) ∧
       (pacerMode (node.pacer 0 15) ≠ 1) ∧
       (Instr.sho 0 0 15 15 0 ∈ [Instr.sho 0 0 15 15 0, Instr.shoN 0 0 15 15 0, Instr.shi 0 0 15 15 0, Instr.shiN 0 0 15 15 0])) ∧
      (Issues node 0 0)) ∧
    -- ld
     (((((registers 0 57344 57343).eng 0 0).ta = false) ∧
       (((registers 0 57344 57343).eng 0 0).phys = some 0) ∧
       (engAddr (getR (registers 0 57344 57343) 0 0 15 + wd 15) = EngAddr.unlisted) ∧
       (Instr.ld 0 0 15 15 15 0 ∈ [Instr.ld 0 0 15 15 15 0, Instr.st 0 0 15 15 15 0])) ∧
      (Issues (registers 0 57344 57343) 0 0)) ∧
    -- ldf
     ((((node.eng 0 0).ta = false) ∧
       ((node.eng 0 0).phys = some 0) ∧
       (engAddr (getR node 0 0 15 + 57344) = EngAddr.unlisted) ∧
       (Instr.ldf 0 0 15 15 57344 0 ∈ [Instr.ldf 0 0 15 15 57344 0, Instr.stf 0 0 15 15 57344 0])) ∧
      (Issues node 0 0)) ∧
    -- lda
     ((((node.eng 0 0).ta = false) ∧
       ((node.eng 0 0).phys = some 0) ∧
       (engAddr 57344 = EngAddr.unlisted) ∧
       (Instr.lda 0 0 15 57344 0 ∈ [Instr.lda 0 0 15 57344 0, Instr.sta 0 0 15 57344 0])) ∧
      (Issues node 0 0)) ∧
    -- lock
     (((((lockHeld 13 0).cl 0).lock = some 13) ∧
       ((13 : Fin (14 : Nat)) ≠ (0 : Fin (14 : Nat)))) ∧
      (Issues (lockHeld 13 0) 0 0)) ∧
    -- add
     ((canIssue (lockHeld 0 32) 0 0 = true) ∧
      (((lockHeld 0 32).eng 0 0).wdTrap = false) ∧
      (atBreakpoint (lockHeld 0 32) 0 0 = false) ∧
      (((lockHeld 0 32).eng 0 0).haltPending = none) ∧
      (((lockHeld 0 32).eng 0 0).stepping = false) ∧
      (((lockHeld 0 32).cl 0).lock = some 0) ∧
      (32 ≤ ((lockHeld 0 32).eng 0 0).lockCount) ∧
      (((lockHeld 0 32).eng 0 0).ta = false) ∧
      (((lockHeld 0 32).eng 0 0).phys = some 0)) := by
  and_intros <;> first | decide +kernel | (constructor <;> decide +kernel)

theorem test_system_instructions_witness :
    -- nop
     (Issues node 0 0) ∧
    -- sync
     (((holdsLock node 0 0 = false) ∧
       (node.fintm = false)) ∧
      (Issues node 0 0)) ∧
    -- sync
     (((holdsLock intermission 0 0 = false) ∧
       (intermission.fintm = true)) ∧
      (Issues intermission 0 0)) ∧
    -- sync
     ((holdsLock (lockHeld 0 0) 0 0 = true) ∧
      (Issues (lockHeld 0 0) 0 0)) ∧
    -- lock
     (((node.cl 0).lock = none) ∧
      (Issues node 0 0)) ∧
    -- lock
     ((((lockHeld 0 0).cl 0).lock = some 0) ∧
      (Issues (lockHeld 0 0) 0 0)) ∧
    -- unlock
     (Issues node 0 0) ∧
    -- halt
     ((holdsLock node 0 0 = false) ∧
      (Issues node 0 0)) := by
  and_intros <;> first | decide +kernel | (constructor <;> decide +kernel)

theorem test_wait_conditions_witness :
    -- wait
     (((holdsLock pinned 0 0 = false) ∧
       (pinned.fintm = false) ∧
       (0 ≤ 2) ∧
       (11 < 12) ∧
       ((decide (0 ≠ 1) && (pinned.eng 0 0).rise.getLsbD 11 || decide (0 ≠ 0) && (pinned.eng 0 0).fall.getLsbD 11) = true)) ∧
      (Issues pinned 0 0)) ∧
    -- wait
     (((holdsLock node 0 0 = false) ∧
       (node.fintm = false) ∧
       (0 ≤ 2) ∧
       (0 < 12) ∧
       ((decide (0 ≠ 1) && (node.eng 0 0).rise.getLsbD 0 || decide (0 ≠ 0) && (node.eng 0 0).fall.getLsbD 0) = false)) ∧
      (Issues node 0 0)) ∧
    -- wait
     (((holdsLock (conduits [] [7]) 0 0 = false) ∧
       ((conduits [] [7]).fintm = false) ∧
       ((3 = 3 → ownsConduit (conduits [] [7]) 0 0 14 = true) ∧
          (3 = 4 ∨ 3 = 5 → ownsPacer (conduits [] [7]) 0 0 14 = true) ∧ (3 = 6 → 14 = 0)) ∧
       ((match 3 with
          | 3 => some !((conduits [] [7]).conduit 0 14).inw.isEmpty
          | 4 => some ((conduits [] [7]).pacer 0 14).rx.isSome
          | 5 => some ((conduits [] [7]).pacer 0 14).tx.isNone
          | 6 => some !((conduits [] [7]).fifo 0).entries.isEmpty
          | x => none) =
          some true)) ∧
      (Issues (conduits [] [7]) 0 0)) ∧
    -- wait
     (((holdsLock node 0 0 = false) ∧
       (node.fintm = false) ∧
       ((3 = 3 → ownsConduit node 0 0 0 = true) ∧ (3 = 4 ∨ 3 = 5 → ownsPacer node 0 0 0 = true) ∧ (3 = 6 → 0 = 0)) ∧
       ((match 3 with
          | 3 => some !(node.conduit 0 0).inw.isEmpty
          | 4 => some (node.pacer 0 0).rx.isSome
          | 5 => some (node.pacer 0 0).tx.isNone
          | 6 => some !(node.fifo 0).entries.isEmpty
          | x => none) =
          some false)) ∧
      (Issues node 0 0)) ∧
    -- wait
     (((holdsLock node 0 0 = false) ∧
       (node.fintm = false) ∧
       (7 = 7) ∧
       (0 < 4)) ∧
      (Issues node 0 0)) ∧
    -- wait
     (((holdsLock node 0 0 = false) ∧
       (node.fintm = false) ∧
       (14 = 14) ∧
       (0 < 12)) ∧
      (Issues node 0 0)) := by
  and_intros <;> first | decide +kernel | (constructor <;> decide +kernel)

theorem test_pin_instructions_witness :
    -- pinrd
     (Issues node 0 0) ∧
    -- pinrd
     (Issues node 0 0) ∧
    -- pinwr
     (((match pinned.pinCfg (pinOf (0 : Fin (12 : Nat)) (11 : Fin (12 : Nat))) with
         | some c => decide (c.src = (1 : Nat) ∧ c.index = (0 : Nat))
         | none => false) =
         true) ∧
      (Issues pinned 0 0)) ∧
    -- pindir
     (((match pinned.pinCfg (pinOf (0 : Fin (12 : Nat)) (11 : Fin (12 : Nat))) with
         | some c => decide (c.src = (1 : Nat) ∧ c.index = (0 : Nat))
         | none => false) =
         true) ∧
      (Issues pinned 0 0)) ∧
    -- pinwr
     ((((match node.pinCfg (pinOf (0 : Fin (12 : Nat)) (11 : Fin (12 : Nat))) with
          | some c => decide (c.src = (1 : Nat) ∧ c.index = (0 : Nat))
          | none => false) =
          false) ∧
       (Instr.pinwr 0 0 15 11 0 ∈ [Instr.pinwr 0 0 15 11 0, Instr.pindir 0 0 15 11 0])) ∧
      (Issues node 0 0)) ∧
    -- pinwr
     (Issues node 0 0) ∧
    -- pindir
     (Issues node 0 0) := by
  and_intros <;> first | decide +kernel | (constructor <;> decide +kernel)

theorem test_pacer_instructions_witness :
    -- sho
     (((ownsPacer (shifting none none) 0 0 15 = true) ∧
       (pacerMode ((shifting none none).pacer 0 15) = 1) ∧
       (holdsLock (shifting none none) 0 0 = false) ∧
       (((shifting none none).pacer 0 15).tx = none)) ∧
      (Issues (shifting none none) 0 0)) ∧
    -- shoN
     (((ownsPacer (shifting none none) 0 0 15 = true) ∧
       (pacerMode ((shifting none none).pacer 0 15) = 1) ∧
       (holdsLock (shifting none none) 0 0 = false) ∧
       (((shifting none none).pacer 0 15).tx = none)) ∧
      (Issues (shifting none none) 0 0)) ∧
    -- sho
     (((ownsPacer (shifting (some 7) (some 8)) 0 0 15 = true) ∧
       (pacerMode ((shifting (some 7) (some 8)).pacer 0 15) = 1) ∧
       (holdsLock (shifting (some 7) (some 8)) 0 0 = false) ∧
       (((shifting (some 7) (some 8)).pacer 0 15).tx = some 7)) ∧
      (Issues (shifting (some 7) (some 8)) 0 0)) ∧
    -- shoN
     (((ownsPacer (shifting (some 7) (some 8)) 0 0 15 = true) ∧
       (pacerMode ((shifting (some 7) (some 8)).pacer 0 15) = 1) ∧
       (holdsLock (shifting (some 7) (some 8)) 0 0 = false) ∧
       (((shifting (some 7) (some 8)).pacer 0 15).tx = some 7)) ∧
      (Issues (shifting (some 7) (some 8)) 0 0)) ∧
    -- shi
     (((ownsPacer (shifting (some 7) (some 8)) 0 0 15 = true) ∧
       (pacerMode ((shifting (some 7) (some 8)).pacer 0 15) = 1) ∧
       (holdsLock (shifting (some 7) (some 8)) 0 0 = false) ∧
       (((shifting (some 7) (some 8)).pacer 0 15).rx = some 8)) ∧
      (Issues (shifting (some 7) (some 8)) 0 0)) ∧
    -- shiN
     (((ownsPacer (shifting (some 7) (some 8)) 0 0 15 = true) ∧
       (pacerMode ((shifting (some 7) (some 8)).pacer 0 15) = 1) ∧
       (holdsLock (shifting (some 7) (some 8)) 0 0 = false) ∧
       (((shifting (some 7) (some 8)).pacer 0 15).rx = some 8)) ∧
      (Issues (shifting (some 7) (some 8)) 0 0)) ∧
    -- shi
     (((ownsPacer (shifting none none) 0 0 15 = true) ∧
       (pacerMode ((shifting none none).pacer 0 15) = 1) ∧
       (holdsLock (shifting none none) 0 0 = false) ∧
       (((shifting none none).pacer 0 15).rx = none)) ∧
      (Issues (shifting none none) 0 0)) ∧
    -- shiN
     (((ownsPacer (shifting none none) 0 0 15 = true) ∧
       (pacerMode ((shifting none none).pacer 0 15) = 1) ∧
       (holdsLock (shifting none none) 0 0 = false) ∧
       (((shifting none none).pacer 0 15).rx = none)) ∧
      (Issues (shifting none none) 0 0)) ∧
    -- paceSt
     ((ownsPacer node 0 0 15 = true) ∧
      (Issues node 0 0)) ∧
    -- pacePer
     (((ownsPacer node 0 0 15 = true) ∧
       (14 ≤ 14)) ∧
      (Issues node 0 0)) ∧
    -- paceCnt
     (((ownsPacer node 0 0 15 = true) ∧
       (14 ≤ 14)) ∧
      (Issues node 0 0)) ∧
    -- paceRd
     (((ownsPacer node 0 0 15 = true) ∧
       (14 ≤ 14)) ∧
      (Issues node 0 0)) := by
  and_intros <;> first | decide +kernel | (constructor <;> decide +kernel)

theorem test_conduit_instructions_witness :
    -- send
     (((ownsConduit (conduits [] []) 0 0 14 = true) ∧
       (holdsLock (conduits [] []) 0 0 = false) ∧
       ((conduits [] []).fintm = false) ∧
       (((conduits [] []).conduit 0 14).out.length < 8)) ∧
      (Issues (conduits [] []) 0 0)) ∧
    -- send
     (((ownsConduit (conduits [1, 2, 3, 4, 5, 6, 7, 8] [7]) 0 0 14 = true) ∧
       (holdsLock (conduits [1, 2, 3, 4, 5, 6, 7, 8] [7]) 0 0 = false) ∧
       ((conduits [1, 2, 3, 4, 5, 6, 7, 8] [7]).fintm = false) ∧
       (8 ≤ ((conduits [1, 2, 3, 4, 5, 6, 7, 8] [7]).conduit 0 14).out.length)) ∧
      (Issues (conduits [1, 2, 3, 4, 5, 6, 7, 8] [7]) 0 0)) ∧
    -- recv
     (((ownsConduit (conduits [1, 2, 3, 4, 5, 6, 7, 8] [7]) 0 0 14 = true) ∧
       (holdsLock (conduits [1, 2, 3, 4, 5, 6, 7, 8] [7]) 0 0 = false) ∧
       ((conduits [1, 2, 3, 4, 5, 6, 7, 8] [7]).fintm = false) ∧
       (((conduits [1, 2, 3, 4, 5, 6, 7, 8] [7]).conduit 0 14).inw = [7])) ∧
      (Issues (conduits [1, 2, 3, 4, 5, 6, 7, 8] [7]) 0 0)) ∧
    -- peek
     (((ownsConduit (conduits [1, 2, 3, 4, 5, 6, 7, 8] [7]) 0 0 14 = true) ∧
       (holdsLock (conduits [1, 2, 3, 4, 5, 6, 7, 8] [7]) 0 0 = false) ∧
       ((conduits [1, 2, 3, 4, 5, 6, 7, 8] [7]).fintm = false) ∧
       (((conduits [1, 2, 3, 4, 5, 6, 7, 8] [7]).conduit 0 14).inw = [7])) ∧
      (Issues (conduits [1, 2, 3, 4, 5, 6, 7, 8] [7]) 0 0)) ∧
    -- poll
     (((ownsConduit (conduits [1, 2, 3, 4, 5, 6, 7, 8] [7]) 0 0 14 = true) ∧
       (holdsLock (conduits [1, 2, 3, 4, 5, 6, 7, 8] [7]) 0 0 = false) ∧
       ((conduits [1, 2, 3, 4, 5, 6, 7, 8] [7]).fintm = false) ∧
       (((conduits [1, 2, 3, 4, 5, 6, 7, 8] [7]).conduit 0 14).inw = [7])) ∧
      (Issues (conduits [1, 2, 3, 4, 5, 6, 7, 8] [7]) 0 0)) ∧
    -- recv
     (((ownsConduit (conduits [] []) 0 0 14 = true) ∧
       (holdsLock (conduits [] []) 0 0 = false) ∧
       ((conduits [] []).fintm = false) ∧
       (((conduits [] []).conduit 0 14).inw = [])) ∧
      (Issues (conduits [] []) 0 0)) ∧
    -- peek
     (((ownsConduit (conduits [] []) 0 0 14 = true) ∧
       (holdsLock (conduits [] []) 0 0 = false) ∧
       ((conduits [] []).fintm = false) ∧
       (((conduits [] []).conduit 0 14).inw = [])) ∧
      (Issues (conduits [] []) 0 0)) ∧
    -- poll
     (((ownsConduit (conduits [] []) 0 0 14 = true) ∧
       (holdsLock (conduits [] []) 0 0 = false) ∧
       ((conduits [] []).fintm = false) ∧
       (((conduits [] []).conduit 0 14).inw = [])) ∧
      (Issues (conduits [] []) 0 0)) := by
  and_intros <;> first | decide +kernel | (constructor <;> decide +kernel)

theorem test_time_instructions_witness :
    -- tstamp
     ((12 ≤ 12) ∧
      (Issues node 0 0)) ∧
    -- edge
     (((12 ≤ 12) ∧
       ((stamped.fifo 0).entries = [stamp])) ∧
      (Issues stamped 0 0)) ∧
    -- edge
     (((12 ≤ 12) ∧
       ((node.fifo 0).entries = [])) ∧
      (Issues node 0 0)) ∧
    -- tcmp
     (((13 ≤ 13) ∧
       (timeOperand (node.at 0) 0 0 13 = some 0)) ∧
      (Issues node 0 0)) ∧
    -- twait
     (((13 ≤ 13) ∧
       (timeOperand (node.at 0) 0 0 13 = some 0) ∧
       (0 ≤ (node.at 0).fring)) ∧
      (Issues node 0 0)) ∧
    -- twait
     (((13 ≤ 13) ∧
       (timeOperand ((registers 0 200 0).at 0) 0 0 13 = some 327680000) ∧
       (((registers 0 200 0).at 0).fring < 327680000) ∧
       (holdsLock (registers 0 200 0) 0 0 = false)) ∧
      (Issues (registers 0 200 0) 0 0)) ∧
    -- twait
     (((13 ≤ 13) ∧
       (timeOperand ((registers 15258 51712 0).at 0) 0 0 13 = none) ∧
       (((registers 15258 51712 0).eng 0 0).ta = false) ∧
       (((registers 15258 51712 0).eng 0 0).phys = some 0)) ∧
      (Issues (registers 15258 51712 0) 0 0)) ∧
    -- tcmp
     (((13 ≤ 13) ∧
       (timeOperand ((registers 15258 51712 0).at 0) 0 0 13 = none) ∧
       (((registers 15258 51712 0).eng 0 0).ta = false) ∧
       (((registers 15258 51712 0).eng 0 0).phys = some 0)) ∧
      (Issues (registers 15258 51712 0) 0 0)) := by
  and_intros <;> first | decide +kernel | (constructor <;> decide +kernel)

theorem test_pins_and_converters_witness :
    -- pinRawChange
     ((node.pin 11).raw ≠ true) ∧
    -- filterAccept
     ((((filtering true pinChanged).pin 11).raw ≠ ((filtering true pinChanged).pin 11).inner) ∧
      (((filtering true pinChanged).pin 11).changed + filterTime (filtering true pinChanged) 11 ≤
         max (filtering true pinChanged).now 0 + 3276800) ∧
      (((filtering true pinChanged).pin 11).limited = false) ∧
      ((filtering true pinChanged).pinCfg 11 = some { cfg := 4, flt := 0, src := 0, index := 0 }) ∧
      (pinToggle { cfg := 4, flt := 0, src := 0, index := 0 } = 0 ∨
         (recentChanges ((filtering true pinChanged).at 0) ((filtering true pinChanged).pin 11)).length ≤
           2 ^ (pinToggle { cfg := 4, flt := 0, src := 0, index := 0 } + 2))) ∧
    -- filterAccept
     ((((filtering true pinBusy).pin 11).raw ≠ ((filtering true pinBusy).pin 11).inner) ∧
      (((filtering true pinBusy).pin 11).changed + filterTime (filtering true pinBusy) 11 ≤
         max (filtering true pinBusy).now 0 + 3276800) ∧
      (((filtering true pinBusy).pin 11).limited = false) ∧
      ((filtering true pinBusy).pinCfg 11 = some { cfg := 4, flt := 0, src := 0, index := 0 }) ∧
      (pinToggle { cfg := 4, flt := 0, src := 0, index := 0 } ≠ 0) ∧
      (2 ^ (pinToggle { cfg := 4, flt := 0, src := 0, index := 0 } + 2) <
         (recentChanges ((filtering true pinBusy).at 0) ((filtering true pinBusy).pin 11)).length)) ∧
    -- toggleWindowEnd
     (((filtering true (pinLimited 4)).pinCfg 11 = some { cfg := 4, flt := 0, src := 0, index := 0 }) ∧
      (((filtering true (pinLimited 4)).pin 11).limited = true) ∧
      (((filtering true (pinLimited 4)).pin 11).windowCount ≤ 2 ^ (pinToggle { cfg := 4, flt := 0, src := 0, index := 0 } + 1))) ∧
    -- toggleWindowEnd
     (((filtering true (pinLimited 5)).pinCfg 11 = some { cfg := 4, flt := 0, src := 0, index := 0 }) ∧
      (((filtering true (pinLimited 5)).pin 11).limited = true) ∧
      (pinToggle { cfg := 4, flt := 0, src := 0, index := 0 } ≠ 0) ∧
      (2 ^ (pinToggle { cfg := 4, flt := 0, src := 0, index := 0 } + 1) < ((filtering true (pinLimited 5)).pin 11).windowCount)) ∧
    -- adcSlot
     ((((converting 2 5 65535 true false).cl 0).cfg.isSome = true) ∧
      (slotChan (converting 2 5 65535 true false) 0 (slotNow ((converting 2 5 65535 true false).at 0) 0) = some 1)) ∧
    -- adcSlot
     (((node.cl 0).cfg.isSome = true) ∧
      (slotChan node 0 (slotNow (node.at 0) 0) = none) ∧
      ((node.adc 0).calStep + 1 < 64)) ∧
    -- adcSlot
     ((((converting 0 63 0 false false).cl 0).cfg.isSome = true) ∧
      (slotChan (converting 0 63 0 false false) 0 (slotNow ((converting 0 63 0 false false).at 0) 0) = none) ∧
      (63 ≤ ((converting 0 63 0 false false).adc 0).calStep)) ∧
    -- adcResult
     (((converting 2 5 65535 true false).chan 0 1).waiting = some (65535, 0, true)) ∧
    -- stuckWindowEnd
     ((stuckOn (converting 2 5 65535 true false) 0 1 = true) ∧
      (((converting 2 5 65535 true false).chan 0 1).stuckFirst.isSome = true)) := by
  and_intros <;> decide +kernel

theorem test_can_bus_witness :
    -- canEnable
     (((canBus false true CanCtl.init).bit (CAN_CTRL 3) 15 = false) ∧
      (((canBus false true CanCtl.init).can 3).faultHeld = false) ∧
      (canConfOk (canBus false true CanCtl.init) 3 = true)) ∧
    -- canEnable
     ((node.bit (CAN_CTRL 3) 15 = false) ∧
      ((node.can 3).faultHeld = false) ∧
      (canConfOk node 3 = false)) ∧
    -- canDisable
     (((canBus true true canIdle).bit (CAN_CTRL 3) 15 = true) ∧
      (((canBus true true canIdle).can 3).flushHead = false)) ∧
    -- canIntegrated
     ((((canBus true true (canCtl CanPhase.integrating)).can 3).phase = CanPhase.integrating) ∧
      (((canBus true true (canCtl CanPhase.integrating)).can 3).txErr ≤ 127) ∧
      (((canBus true true (canCtl CanPhase.integrating)).can 3).rxErr ≤ 127)) ∧
    -- canFrameSent
     ((((canBus true true (canSending false 248)).can 3).tx = [canRecord, canRecord]) ∧
      (((canBus true true (canSending false 248)).can 3).txBusy = true) ∧
      ((bitOf (((canBus true true (canSending false 248)).can 3).conf[6]?.getD 0) 15 && bitOf canRecord.w0 12) = false ∨
         0 ≤ 1023)) ∧
    -- canArbitrationLost
     (((canBus true true (canSending false 248)).can 3).txBusy = true) ∧
    -- canProtocolError
     ((((canBus true true (canSending false 248)).can 3).phase = CanPhase.active ∨
         ((canBus true true (canSending false 248)).can 3).phase = CanPhase.passive) ∧
      (bitOf (canConf (canBus true true (canSending false 248)) 3) 14 = false) ∧
      (((canBus true true (canSending false 248)).can 3).txBusy = true) ∧
      (((canBus true true (canSending false 248)).can 3).flushHead = false)) ∧
    -- canProtocolError
     ((((canBus true true canIdle).can 3).phase = CanPhase.active ∨ ((canBus true true canIdle).can 3).phase = CanPhase.passive) ∧
      (bitOf (canConf (canBus true true canIdle) 3) 14 = false)) ∧
    -- canRecoveryDone
     (((canBus true true (canCtl CanPhase.recovering)).can 3).phase = CanPhase.recovering) ∧
    -- txflush
     (((canBus true true (canSending false 248)).can 3).txBusy = true) ∧
    -- txflush
     ((((canBus true true canIdle).can 3).txBusy = false) ∧
      (((canBus true true canIdle).can 3).tx ≠ [])) ∧
    -- recover
     (((canBus true true (canCtl CanPhase.busOff)).can 3).phase = CanPhase.busOff) ∧
    -- canFrameReceive
     (((canFilter 16384 63).lockedOut Path.qspi = false) ∧
      (((canFilter 16384 63).can 3).phase = CanPhase.active) ∧
      (bitOf 16386 13 = false ∨ bitOf (canConf (canFilter 16384 63) 3) 13 = true) ∧
      (bitOf (canConf (canFilter 16384 63) 3) 14 = false) ∧
      (((canFilter 16384 63).can 3).txErr ≤ 127) ∧
      (((canFilter 16384 63).can 3).rxErr ≤ 127) ∧
      ([7].length = canDataWords (16386 &&& 31759)) ∧
      (List.find? (fun i => filterHits (canFilter 16384 63) 3 i (16386 &&& 31759) (16386 &&& 8191) 16386) (List.range 32) =
         some 31) ∧
      (fld ((canFilter 16384 63).regSel (CAN_FLT_CFG 3) 31) 15 14 = 1) ∧
      (((canFilter 16384 63).can 3).rx.length < 64)) ∧
    -- canFrameReceive
     (((canFilter 16384 64).lockedOut Path.qspi = false) ∧
      (((canFilter 16384 64).can 3).phase = CanPhase.active) ∧
      (bitOf 16386 13 = false ∨ bitOf (canConf (canFilter 16384 64) 3) 13 = true) ∧
      (bitOf (canConf (canFilter 16384 64) 3) 14 = false) ∧
      (((canFilter 16384 64).can 3).txErr ≤ 127) ∧
      (((canFilter 16384 64).can 3).rxErr ≤ 127) ∧
      ([7].length = canDataWords (16386 &&& 31759)) ∧
      (List.find? (fun i => filterHits (canFilter 16384 64) 3 i (16386 &&& 31759) (16386 &&& 8191) 16386) (List.range 32) =
         some 31) ∧
      (fld ((canFilter 16384 64).regSel (CAN_FLT_CFG 3) 31) 15 14 = 1) ∧
      (64 ≤ ((canFilter 16384 64).can 3).rx.length)) ∧
    -- canFrameReceive
     (((canFilter 32768 0).lockedOut Path.qspi = false) ∧
      (((canFilter 32768 0).can 3).phase = CanPhase.active) ∧
      (bitOf 16386 13 = false ∨ bitOf (canConf (canFilter 32768 0) 3) 13 = true) ∧
      (bitOf (canConf (canFilter 32768 0) 3) 14 = false) ∧
      (((canFilter 32768 0).can 3).txErr ≤ 127) ∧
      (((canFilter 32768 0).can 3).rxErr ≤ 127) ∧
      ([7].length = canDataWords (16386 &&& 31759)) ∧
      (List.find? (fun i => filterHits (canFilter 32768 0) 3 i (16386 &&& 31759) (16386 &&& 8191) 16386) (List.range 32) =
         some 31) ∧
      (fld ((canFilter 32768 0).regSel (CAN_FLT_CFG 3) 31) 15 14 = 2) ∧
      (((canFilter 32768 0).can 3).spot.length < 4)) ∧
    -- canTxPush
     ((node.lockedOut Path.qspi = false) ∧
      ((node.can 3).tx.length < 32) ∧
      (canRefused node 3
           { w0 := node.regSel (CAN_TX_W 3 0) Path.qspi.code, w1 := node.regSel (CAN_TX_W 3 1) Path.qspi.code,
             w2 := node.regSel (CAN_TX_W 3 2) Path.qspi.code, w3 := node.regSel (CAN_TX_W 3 3) Path.qspi.code,
             data := (node.can 3).txData.toList[Path.qspi.code]?.getD [] } =
         false)) ∧
    -- canTxPush
     (((canStaged 32 [7]).lockedOut Path.qspi = false) ∧
      (32 ≤ ((canStaged 32 [7]).can 3).tx.length ∨
         canRefused (canStaged 32 [7]) 3
             { w0 := (canStaged 32 [7]).regSel (CAN_TX_W 3 0) Path.qspi.code,
               w1 := (canStaged 32 [7]).regSel (CAN_TX_W 3 1) Path.qspi.code,
               w2 := (canStaged 32 [7]).regSel (CAN_TX_W 3 2) Path.qspi.code,
               w3 := (canStaged 32 [7]).regSel (CAN_TX_W 3 3) Path.qspi.code,
               data := ((canStaged 32 [7]).can 3).txData.toList[Path.qspi.code]?.getD [] } =
           true)) ∧
    -- canTxData
     (node.lockedOut Path.qspi = false) ∧
    -- canRxPop
     (((canHolding false [canRead] [canRead]).lockedOut Path.qspi = false) ∧
      ((canHolding false [canRead] [canRead]).bit (CAN_CTRL 3) 8 = false) ∧
      (quiet (canHolding false [canRead] [canRead]) Path.qspi = false) ∧
      (((canHolding false [canRead] [canRead]).can 3).rx = [canRead])) ∧
    -- canSpPop
     (((canHolding false [canRead] [canRead]).lockedOut Path.qspi = false) ∧
      ((canHolding false [canRead] [canRead]).bit (CAN_CTRL 3) 8 = false) ∧
      (quiet (canHolding false [canRead] [canRead]) Path.qspi = false) ∧
      (((canHolding false [canRead] [canRead]).can 3).spot = [canRead])) ∧
    -- canRxData
     (((canStaged 31 [7]).lockedOut Path.qspi = false) ∧
      (((canStaged 31 [7]).can 3).dataPort.toList[Path.qspi.code]? = some [7]) ∧
      (quiet (canStaged 31 [7]) Path.qspi = false)) ∧
    -- canForward
     (((canHolding true [canRead] [canRead]).lockedOut Path.qspi = false) ∧
      ((canHolding true [canRead] [canRead]).bit (CAN_CTRL 3) 8 = true) ∧
      ((canHolding true [canRead] [canRead]).fab.node ≠ 0) ∧
      (fld ((canHolding true [canRead] [canRead]).reg (CAN_FWD_DST 3)) 15 12 = (canHolding true [canRead] [canRead]).ringNo) ∧
      (fld ((canHolding true [canRead] [canRead]).reg (CAN_FWD_DST 3)) 11 0 < 4000) ∧
      (fld ((canHolding true [canRead] [canRead]).reg (CAN_FWD_DST 3)) 11 0 ≠ (canHolding true [canRead] [canRead]).fab.node) ∧
      (RingsUp (canHolding true [canRead] [canRead])) ∧
      ((canHolding true [canRead] [canRead]).reg SWQ_SMP_N = 0) ∧
      (barPasses ((canHolding true [canRead] [canRead]).bdir BarDir.fh) = true) ∧
      (barPasses ((canHolding true [canRead] [canRead]).bdir BarDir.hf) = true) ∧
      (((canHolding true [canRead] [canRead]).can 3).spot = [canRead]) ∧
      (accepts (canHolding true [canRead] [canRead]) 7 0
           (Frame.mk'
             (if
                 (bitOf ((canHolding true [canRead] [canRead]).reg (CAN_FWD_SUB 3)) 13 && decide (canRead.words.length ≤ 32)) =
                   true then
               0
             else 1)
             2 (fld ((canHolding true [canRead] [canRead]).reg (CAN_FWD_SUB 3)) 7 0)
             ((canHolding true [canRead] [canRead]).reg (CAN_FWD_DST 3)) (canHolding true [canRead] [canRead]).srcWord 0
             canRead.words) =
         true)) ∧
    -- canForward
     (((canHolding true [] [canRead]).lockedOut Path.qspi = false) ∧
      ((canHolding true [] [canRead]).bit (CAN_CTRL 3) 8 = true) ∧
      ((canHolding true [] [canRead]).fab.node ≠ 0) ∧
      (fld ((canHolding true [] [canRead]).reg (CAN_FWD_DST 3)) 15 12 = (canHolding true [] [canRead]).ringNo) ∧
      (fld ((canHolding true [] [canRead]).reg (CAN_FWD_DST 3)) 11 0 < 4000) ∧
      (fld ((canHolding true [] [canRead]).reg (CAN_FWD_DST 3)) 11 0 ≠ (canHolding true [] [canRead]).fab.node) ∧
      (RingsUp (canHolding true [] [canRead])) ∧
      ((canHolding true [] [canRead]).reg SWQ_SMP_N = 0) ∧
      (barPasses ((canHolding true [] [canRead]).bdir BarDir.fh) = true) ∧
      (barPasses ((canHolding true [] [canRead]).bdir BarDir.hf) = true) ∧
      (((canHolding true [] [canRead]).can 3).spot = []) ∧
      (((canHolding true [] [canRead]).can 3).fwd = []) ∧
      (((canHolding true [] [canRead]).can 3).rx = [canRead]) ∧
      (accepts (canHolding true [] [canRead]) 7 0
           (Frame.mk' (fld ((canHolding true [] [canRead]).reg (CAN_FWD_SUB 3)) 15 14) 2
             (fld ((canHolding true [] [canRead]).reg (CAN_FWD_SUB 3)) 7 0)
             ((canHolding true [] [canRead]).reg (CAN_FWD_DST 3)) (canHolding true [] [canRead]).srcWord 0 canRead.words) =
         true) ∧
      (fld ((canHolding true [] [canRead]).reg (CAN_FWD_SUB 3)) 15 14 = 0 → canRead.words.length ≤ 32)) := by
  and_intros <;> decide +kernel

theorem test_slots_and_keys_witness :
    -- slotOpen
     ((cmdBusy storeBusy = true) ∧
      ((Instr.slotOpen Path.qspi true 0, 1) ∈
         [(Instr.slotOpen Path.qspi true 0, 1), (Instr.slotClose Path.qspi true 0, 2), (Instr.promote Path.qspi true 0, 3),
           (Instr.update Path.qspi true 0, 4), (Instr.sheet Path.qspi true 0, 5), (Instr.abandon Path.qspi true 0, 6),
           (Instr.keywr Path.qspi true 0, 8), (Instr.keyrev Path.qspi 0, 9), (Instr.fuse Path.qspi 0, 10)])) ∧
    -- badcmd
     ((cmdBusy node = false) ∧
      (7 ∉ [1, 2, 3, 4, 5, 6, 8, 9, 10])) ∧
    -- slotOpen
     ((cmdBusy node = false) ∧
      (node.store.force ≠ some true) ∧
      ((node.slot true).state ≠ SlotState.open_) ∧
      (fetchHolds node true = false) ∧
      ((node.slot !true).state ≠ SlotState.open_)) ∧
    -- slotClose
     ((cmdBusy (aperture SlotState.open_) = false) ∧
      (((aperture SlotState.open_).slot true).state = SlotState.open_)) ∧
    -- slotClose
     ((cmdBusy node = false) ∧
      ((node.slot true).state ≠ SlotState.open_)) ∧
    -- promote
     ((cmdBusy (slotB SlotState.valid none []) = false) ∧
      ((slotB SlotState.valid none []).store.force ≠ some true) ∧
      (((slotB SlotState.valid none []).slot true).state = SlotState.valid)) ∧
    -- promote
     ((cmdBusy node = false) ∧
      (node.store.force = some false) ∧
      ((Instr.promote Path.qspi false 0, 3) ∈
         [(Instr.promote Path.qspi false 0, 3), (Instr.sheet Path.qspi false 0, 5), (Instr.abandon Path.qspi false 0, 6)])) ∧
    -- abandon
     ((cmdBusy (aperture SlotState.open_) = false) ∧
      ((aperture SlotState.open_).store.force ≠ some true) ∧
      (((aperture SlotState.open_).slot true).state = SlotState.open_ ∨
         ((aperture SlotState.open_).slot true).state = SlotState.valid ∨
           ((aperture SlotState.open_).slot true).state = SlotState.bad)) ∧
    -- sheet
     ((cmdBusy (slotB SlotState.valid (some plainBook) bookWords) = false) ∧
      ((slotB SlotState.valid (some plainBook) bookWords).store.force ≠ some true) ∧
      (((slotB SlotState.valid (some plainBook) bookWords).slot true).state = SlotState.valid) ∧
      ((passes (slotB SlotState.valid (some plainBook) bookWords) true
             ((slotB SlotState.valid (some plainBook) bookWords).slot true).content).isSome =
         true)) ∧
    -- sheet
     ((cmdBusy (slotB SlotState.valid none []) = false) ∧
      ((slotB SlotState.valid none []).store.force ≠ some true) ∧
      (((slotB SlotState.valid none []).slot true).state = SlotState.valid) ∧
      (passes (slotB SlotState.valid none []) true ((slotB SlotState.valid none []).slot true).content = none)) ∧
    -- sheetLoaded
     ((storeBusy.store.sheet = some true) ∧
      ((storeBusy.slot true).content = some bookB)) ∧
    -- slotCheckDone
     ((((slotB SlotState.checking none bookWords).slot true).state = SlotState.checking) ∧
      (passes (slotB SlotState.checking none bookWords) true (some plainBook) = some bookB)) ∧
    -- slotCheckDone
     ((((slotB SlotState.checking none bookWords).slot true).state = SlotState.checking) ∧
      (passes (slotB SlotState.checking none bookWords) true none = none)) ∧
    -- scrub
     ((((alone SlotState.valid).slot true).state = SlotState.valid ∨
         ((alone SlotState.valid).slot true).state = SlotState.live ∨
           ((alone SlotState.valid).slot true).state = SlotState.kept) ∧
      ((alone SlotState.valid).bit RST_CTRL 15 = true) ∧
      (((alone SlotState.valid).slot !true).state = SlotState.empty)) ∧
    -- keywr
     ((cmdBusy (keySelected 3) = false) ∧
      (keyPath Path.qspi = true) ∧
      (keySel (keySelected 3) Path.qspi ≠ 0) ∧
      (vget (keySelected 3).store.keys (keySel (keySelected 3) Path.qspi) = 0) ∧
      (((keySelected 3).slot true).state = SlotState.open_)) ∧
    -- keyrev
     ((cmdBusy (keySelected 3) = false) ∧
      (keyPath Path.qspi = true) ∧
      (keySel (keySelected 3) Path.qspi ≠ 0)) ∧
    -- fuse
     ((cmdBusy node = false) ∧
      (keyPath Path.qspi = true)) ∧
    -- keywr
     ((cmdBusy node = false) ∧
      (keyPath Path.service = false) ∧
      ((Instr.keywr Path.service true 0, 8) ∈
         [(Instr.keywr Path.service true 0, 8), (Instr.keyrev Path.service 0, 9), (Instr.fuse Path.service 0, 10)])) ∧
    -- wpData
     ((openSlot (aperture SlotState.open_) = some true) ∧
      (fld ((aperture SlotState.open_).reg RST_WP_ADDR_H) 0 0 * 65536 +
             BitVec.toNat ((aperture SlotState.open_).reg RST_WP_ADDR_L) +
           31 <
         98304)) ∧
    -- wpData
     (openSlot node = none) ∧
    -- keptCopyWrite
     ((keeping.fab.keptW = some Tests.keptCopy) ∧
      (keeping.fab.keptE = none) ∧
      (Tests.keptCopy.placed = false) ∧
      (Tests.keptCopy.words.length ≤ 98304) ∧
      (keeping.store.force = some !true) ∧
      ((keeping.slot true).state = SlotState.empty ∨
         (keeping.slot true).state = SlotState.bad ∨
           (keeping.slot true).state = SlotState.live ∨ (keeping.slot true).state = SlotState.kept)) := by
  and_intros <;> decide +kernel

theorem test_journal_and_update_witness :
    -- journalRecord
     ((regRow? (canonReg (BitVec.ofNat 17 BRG_DUP_WIN).toNat) = some (rowAt BRG_DUP_WIN)) ∧
      ((rowAt BRG_DUP_WIN).persistent = true) ∧
      (selOf node Path.qspi (canonReg (BitVec.ofNat 17 BRG_DUP_WIN).toNat) (rowAt BRG_DUP_WIN).sel = some 0) ∧
      (powerReg (canonReg (BitVec.ofNat 17 BRG_DUP_WIN).toNat) = true → node.power.link = true) ∧
      (node.power.cfStep = 0) ∧
      (thresholdRefused node (canonReg (BitVec.ofNat 17 BRG_DUP_WIN).toNat) 65535 = false) ∧
      (jrnBusy node = false)) ∧
    -- journalRecord
     ((regRow? (canonReg (BitVec.ofNat 17 BRG_DUP_WIN).toNat) = some (rowAt BRG_DUP_WIN)) ∧
      ((rowAt BRG_DUP_WIN).persistent = true) ∧
      (selOf (journal (some (dupWindow 7, false)) [] []) Path.qspi (canonReg (BitVec.ofNat 17 BRG_DUP_WIN).toNat)
           (rowAt BRG_DUP_WIN).sel =
         some 0) ∧
      (powerReg (canonReg (BitVec.ofNat 17 BRG_DUP_WIN).toNat) = true →
         (journal (some (dupWindow 7, false)) [] []).power.link = true) ∧
      ((journal (some (dupWindow 7, false)) [] []).power.cfStep = 0) ∧
      (thresholdRefused (journal (some (dupWindow 7, false)) [] []) (canonReg (BitVec.ofNat 17 BRG_DUP_WIN).toNat) 65535 =
         false) ∧
      (jrnBusy (journal (some (dupWindow 7, false)) [] []) = true)) ∧
    -- journalCommit
     (((journal (some (dupWindow 7, false)) [] []).store.jrn.writing = some (dupWindow 7, false)) ∧
      ((journal (some (dupWindow 7, false)) [] []).store.jrn.held = [])) ∧
    -- journalCommit
     (((journal (some (dupWindow 7, true)) [dupWindow 8, dupWindow 9] []).store.jrn.writing = some (dupWindow 7, true)) ∧
      ((journal (some (dupWindow 7, true)) [dupWindow 8, dupWindow 9] []).store.jrn.held =
         [JrnBody.field BRG_DUP_WIN 0 8 0, dupWindow 9])) ∧
    -- compactionCopy
     (((journal none [] [(dupWindow 7, 40001)]).store.jrn.live = [(dupWindow 7, 40001)]) ∧
      (jrnBusy (journal none [] [(dupWindow 7, 40001)]) = false) ∧
      (jrnNear (journal none [] [(dupWindow 7, 40001)]) = true)) ∧
    -- journalScanDone
     (((unscanned []).store.scanned = false) ∧
      ((unscanned []).start.hostReset = false) ∧
      (hubArmed (unscanned []) Src.journalHead = none)) ∧
    -- stagebookApply
     (((unapplied SlotState.live).store.scanned = true) ∧
      ((unapplied SlotState.live).store.applied = false) ∧
      ((unapplied SlotState.live).start.hostReset = false)) ∧
    -- update
     ((cmdBusy (slotB SlotState.valid (some plainBook) bookWords) = false) ∧
      (fetchRuns (slotB SlotState.valid (some plainBook) bookWords) = false) ∧
      ((slotB SlotState.valid (some plainBook) bookWords).cue.scene.target = none) ∧
      ((slotB SlotState.valid (some plainBook) bookWords).store.force ≠ some true) ∧
      (((slotB SlotState.valid (some plainBook) bookWords).slot true).state = SlotState.valid) ∧
      (((slotB SlotState.valid (some plainBook) bookWords).slot true).content = some plainBook) ∧
      (inForce (slotB SlotState.valid (some plainBook) bookWords) = some book) ∧
      (plainBook.cast.ring = book.cast.ring) ∧
      (plainBook.cast.node = book.cast.node) ∧
      (plainBook.cueCrc = book.cueCrc) ∧
      (plainBook.guardCrc = book.guardCrc) ∧
      (plainBook.cmp.isSome = book.cmp.isSome) ∧
      (understudy (slotB SlotState.valid (some plainBook) bookWords) = some Core.c1) ∧
      ((passes (slotB SlotState.valid (some plainBook) bookWords) true
             ((slotB SlotState.valid (some plainBook) bookWords).slot true).content).isSome =
         true)) ∧
    -- update
     ((cmdBusy (slotB SlotState.valid (some book) []) = false) ∧
      (fetchRuns (slotB SlotState.valid (some book) []) = false) ∧
      ((slotB SlotState.valid (some book) []).cue.scene.target = none) ∧
      ((slotB SlotState.valid (some book) []).store.force ≠ some true) ∧
      (((slotB SlotState.valid (some book) []).slot true).state = SlotState.valid) ∧
      (((slotB SlotState.valid (some book) []).slot true).content = some book) ∧
      (inForce (slotB SlotState.valid (some book) []) = some book) ∧
      (understudy (slotB SlotState.valid (some book) []) = some Core.c1) ∧
      (passes (slotB SlotState.valid (some book) []) true ((slotB SlotState.valid (some book) []).slot true).content = none)) ∧
    -- updateResyncDone
     (((updating 2 Claim.c4 none).lead? = some Core.c0) ∧
      (Core.c0 ≠ Core.c1) ∧
      (((updating 2 Claim.c4 none).core Core.c1).claim = Claim.c4) ∧
      ((updating 2 Claim.c4 none).store.upd = some (true, 2))) ∧
    -- updateResyncDone
     (((updating 4 Claim.c4 none).lead? = some Core.c0) ∧
      (Core.c0 ≠ Core.c1) ∧
      (((updating 4 Claim.c4 none).core Core.c1).claim = Claim.c4) ∧
      ((updating 4 Claim.c4 none).store.upd = some (true, 4))) ∧
    -- updateSwap
     (((updating 3 Claim.c8 (some (Core.c0, 0, ClaimCause.update))).store.upd = some (true, 3)) ∧
      ((updating 3 Claim.c8 (some (Core.c0, 0, ClaimCause.update))).lead? = some Core.c0) ∧
      (((updating 3 Claim.c8 (some (Core.c0, 0, ClaimCause.update))).slot true).content = some bookB) ∧
      ((updating 3 Claim.c8 (some (Core.c0, 0, ClaimCause.update))).lead.swapDue = some (Core.c0, 0, ClaimCause.update)) ∧
      ((updating 3 Claim.c8 (some (Core.c0, 0, ClaimCause.update))).lead.demoteAfter = false) ∧
      (((updating 3 Claim.c8 (some (Core.c0, 0, ClaimCause.update))).core Core.c0.other).claim = Claim.c8)) := by
  and_intros <;> decide +kernel

theorem test_claims_move_witness :
    -- beatLoss
     (((node.core Core.c0).claim ≠ Claim.c0) ∧
      (node.store.upd = none)) ∧
    -- equalClaims
     (((cores (coreAt Claim.c8 CorePhase.idle []) (coreAt Claim.c8 CorePhase.idle []) equalHeld).lead.equal = true) ∧
      ((cores (coreAt Claim.c8 CorePhase.idle []) (coreAt Claim.c8 CorePhase.idle []) equalHeld).store.upd = none)) ∧
    -- noCore
     (((cores (coreAt Claim.c0 CorePhase.selfTest []) (coreAt Claim.c0 CorePhase.selfTest []) starting).lead.everLead = true) ∧
      ((cores (coreAt Claim.c0 CorePhase.selfTest []) (coreAt Claim.c0 CorePhase.selfTest []) starting).accepted = none)) ∧
    -- coreSelfTestDone
     ((((cores (coreAt Claim.c0 CorePhase.selfTest []) (coreAt Claim.c0 CorePhase.selfTest []) starting).core Core.c0).phase =
         CorePhase.selfTest) ∧
      (((cores (coreAt Claim.c0 CorePhase.selfTest []) (coreAt Claim.c0 CorePhase.selfTest []) starting).core Core.c0).claim =
         Claim.c0) ∧
      ((cores (coreAt Claim.c0 CorePhase.selfTest []) (coreAt Claim.c0 CorePhase.selfTest []) starting).lead.starting = true) ∧
      (Core.c0 = Core.c0 ∨
         vget (cores (coreAt Claim.c0 CorePhase.selfTest []) (coreAt Claim.c0 CorePhase.selfTest []) starting).lead.tested 0 =
           some false)) ∧
    -- coreSelfTestDone
     ((((cores (coreAt Claim.c0 CorePhase.selfTest []) (coreAt Claim.c0 CorePhase.selfTest []) starting).core Core.c0).phase =
         CorePhase.selfTest) ∧
      (((cores (coreAt Claim.c0 CorePhase.selfTest []) (coreAt Claim.c0 CorePhase.selfTest []) starting).core Core.c0).claim =
         Claim.c0) ∧
      ((cores (coreAt Claim.c0 CorePhase.selfTest []) (coreAt Claim.c0 CorePhase.selfTest []) starting).lead.starting = true) ∧
      (vget (cores (coreAt Claim.c0 CorePhase.selfTest []) (coreAt Claim.c0 CorePhase.selfTest []) starting).lead.tested
           Core.c0.other.ix =
         some false) ∧
      ((cores (coreAt Claim.c0 CorePhase.selfTest []) (coreAt Claim.c0 CorePhase.selfTest []) starting).dark.dark = false)) ∧
    -- coreSelfTestDone
     ((((cores (coreAt Claim.c12 CorePhase.idle []) (coreAt Claim.c0 CorePhase.selfTest []) id).core Core.c1).phase =
         CorePhase.selfTest) ∧
      (((cores (coreAt Claim.c12 CorePhase.idle []) (coreAt Claim.c0 CorePhase.selfTest []) id).core Core.c1).claim = Claim.c0) ∧
      ((cores (coreAt Claim.c12 CorePhase.idle []) (coreAt Claim.c0 CorePhase.selfTest []) id).lead.starting = false) ∧
      ((recentRejoins ((cores (coreAt Claim.c12 CorePhase.idle []) (coreAt Claim.c0 CorePhase.selfTest []) id).at 0)
             ((cores (coreAt Claim.c12 CorePhase.idle []) (coreAt Claim.c0 CorePhase.selfTest []) id).core Core.c1)).length <
         rejMax (cores (coreAt Claim.c12 CorePhase.idle []) (coreAt Claim.c0 CorePhase.selfTest []) id)) ∧
      ((cores (coreAt Claim.c12 CorePhase.idle []) (coreAt Claim.c0 CorePhase.selfTest []) id).bit LU_CTRL 15 = true)) ∧
    -- coreSelfTestDone
     ((((cores (coreAt Claim.c12 CorePhase.idle []) (coreAt Claim.c0 CorePhase.selfTest rejoined) id).core Core.c1).phase =
         CorePhase.selfTest) ∧
      (((cores (coreAt Claim.c12 CorePhase.idle []) (coreAt Claim.c0 CorePhase.selfTest rejoined) id).core Core.c1).claim =
         Claim.c0) ∧
      ((cores (coreAt Claim.c12 CorePhase.idle []) (coreAt Claim.c0 CorePhase.selfTest rejoined) id).lead.starting = false) ∧
      (rejMax (cores (coreAt Claim.c12 CorePhase.idle []) (coreAt Claim.c0 CorePhase.selfTest rejoined) id) ≤
         (recentRejoins ((cores (coreAt Claim.c12 CorePhase.idle []) (coreAt Claim.c0 CorePhase.selfTest rejoined) id).at 0)
             ((cores (coreAt Claim.c12 CorePhase.idle []) (coreAt Claim.c0 CorePhase.selfTest rejoined) id).core
               Core.c1)).length)) ∧
    -- coreSelfTestDone
     ((((cores (coreAt Claim.c12 CorePhase.idle []) (coreAt Claim.c0 CorePhase.selfTest []) id).core Core.c1).phase =
         CorePhase.selfTest) ∧
      (((cores (coreAt Claim.c12 CorePhase.idle []) (coreAt Claim.c0 CorePhase.selfTest []) id).core Core.c1).claim = Claim.c0) ∧
      ((cores (coreAt Claim.c12 CorePhase.idle []) (coreAt Claim.c0 CorePhase.selfTest []) id).lead.starting = false) ∧
      ((cores (coreAt Claim.c12 CorePhase.idle []) (coreAt Claim.c0 CorePhase.selfTest []) id).store.upd = none)) ∧
    -- luDemote
     ((((cores (coreAt Claim.c12 CorePhase.idle []) (coreAt Claim.c0 CorePhase.selfTest []) id).core Core.c0).claim ≠ Claim.c0) ∧
      (((cores (coreAt Claim.c12 CorePhase.idle []) (coreAt Claim.c0 CorePhase.selfTest []) id).core Core.c0).claim ≠
           Claim.c12 ∨
         ((cores (coreAt Claim.c12 CorePhase.idle []) (coreAt Claim.c0 CorePhase.selfTest []) id).core Core.c0.other).claim ≠
           Claim.c8) ∧
      ((cores (coreAt Claim.c12 CorePhase.idle []) (coreAt Claim.c0 CorePhase.selfTest []) id).store.upd = none)) ∧
    -- luSwap
     (((node.core Core.c0).claim = Claim.c12) ∧
      ((node.core Core.c0.other).claim = Claim.c8) ∧
      (node.lead? = some Core.c0) ∧
      (rejoining node = false) ∧
      (node.lead.swapDue = none) ∧
      (node.lead.swapColl ≠ some node.present)) ∧
    -- luDemote
     (((node.core Core.c0).claim = Claim.c12) ∧
      ((node.core Core.c0.other).claim = Claim.c8) ∧
      (node.lead? = some Core.c0) ∧
      (rejoining node = false) ∧
      (node.lead.swapDue = none) ∧
      (node.lead.swapColl ≠ some node.present)) ∧
    -- luRejoin
     ((((cores (coreAt Claim.c12 CorePhase.idle []) (coreAt Claim.c0 CorePhase.selfTest []) id).core Core.c1).claim = Claim.c0) ∧
      ((cores (coreAt Claim.c12 CorePhase.idle []) (coreAt Claim.c0 CorePhase.selfTest []) id).lead?.isSome = true)) ∧
    -- rejoinCopyDone
     ((((cores (coreAt Claim.c12 CorePhase.idle []) (coreAt Claim.c4 CorePhase.copying []) id).core Core.c1).phase =
         CorePhase.copying) ∧
      ((cores (coreAt Claim.c12 CorePhase.idle []) (coreAt Claim.c4 CorePhase.copying []) id).lead?.isSome = true)) ∧
    -- rejoinFinish
     (((cores (coreAt Claim.c12 CorePhase.idle []) (coreAt Claim.c4 CorePhase.finishing []) id).lead? = some Core.c1.other) ∧
      (((cores (coreAt Claim.c12 CorePhase.idle []) (coreAt Claim.c4 CorePhase.finishing []) id).core Core.c1).claim = Claim.c4) ∧
      (((cores (coreAt Claim.c12 CorePhase.idle []) (coreAt Claim.c4 CorePhase.finishing []) id).core Core.c1).phase =
         CorePhase.finishing) ∧
      ((cores (coreAt Claim.c12 CorePhase.idle []) (coreAt Claim.c4 CorePhase.finishing []) id).store.upd = none)) ∧
    -- rsyncTimeout
     ((((cores (coreAt Claim.c12 CorePhase.idle []) (coreAt Claim.c4 CorePhase.copying []) id).core Core.c1).phase =
           CorePhase.copying ∨
         ((cores (coreAt Claim.c12 CorePhase.idle []) (coreAt Claim.c4 CorePhase.copying []) id).core Core.c1).phase =
           CorePhase.finishing) ∧
      ((cores (coreAt Claim.c12 CorePhase.idle []) (coreAt Claim.c4 CorePhase.copying []) id).store.upd = none)) ∧
    -- switchover
     ((((cores (coreAt Claim.c0 CorePhase.idle []) (coreAt Claim.c8 CorePhase.idle []) id).core Core.c1).claim = Claim.c8) ∧
      (((cores (coreAt Claim.c0 CorePhase.idle []) (coreAt Claim.c8 CorePhase.idle []) id).core Core.c1.other).claim = Claim.c0)) ∧
    -- swapStep
     (((cores (coreAt Claim.c12 CorePhase.idle []) (coreAt Claim.c8 CorePhase.idle []) swapWaits).lead.swapDue =
         some (Core.c0, 0, ClaimCause.swap)) ∧
      ((cores (coreAt Claim.c12 CorePhase.idle []) (coreAt Claim.c8 CorePhase.idle []) swapWaits).lead? = some Core.c0) ∧
      (((cores (coreAt Claim.c12 CorePhase.idle []) (coreAt Claim.c8 CorePhase.idle []) swapWaits).core Core.c0.other).claim =
         Claim.c8) ∧
      (ClaimCause.swap ≠ ClaimCause.update) ∧
      ((cores (coreAt Claim.c12 CorePhase.idle []) (coreAt Claim.c8 CorePhase.idle []) swapWaits).lead.demoteAfter = false)) ∧
    -- luHistPop
     ((history.lead.hist = [histEntry]) ∧
      (history.lockedOut Path.qspi = false) ∧
      (quiet history Path.qspi = false)) := by
  and_intros <;> decide +kernel

theorem test_faults_collected_witness :
    -- collectorReport
     ((((reported 0 false none).flt Core.c0).inbox =
         [{ src := 522, detail := 13, time := 8192000000000000, inj := false, dry := false }]) ∧
      (false = true ∨
         (escalate (reported 0 false none) 522 8192000000000000 (srcOf ((reported 0 false none).flt Core.c0) 522).times).2 =
           false) ∧
      (522 < 1024) ∧
      (srcClassNow (reported 0 false none) 522 = FltClass.note)) ∧
    -- collectorReport
     ((((reported 20480 false none).flt Core.c0).inbox =
         [{ src := 522, detail := 13, time := 8192000000000000, inj := false, dry := false }]) ∧
      (false = true ∨
         (escalate (reported 20480 false none) 522 8192000000000000
               (srcOf ((reported 20480 false none).flt Core.c0) 522).times).2 =
           false) ∧
      (522 < 1024) ∧
      (srcClassNow (reported 20480 false none) 522 = FltClass.minor) ∧
      (((reported 20480 false none).flt Core.c0).handling = none) ∧
      (((reported 20480 false none).flt Core.c0).log.length < 32)) ∧
    -- collectorReport
     ((((reported 33536 true none).flt Core.c0).inbox =
         [{ src := 522, detail := 13, time := 8192000000000000, inj := false, dry := true }]) ∧
      (true = true ∨
         (escalate (reported 33536 true none) 522 8192000000000000
               (srcOf ((reported 33536 true none).flt Core.c0) 522).times).2 =
           false) ∧
      (522 < 1024) ∧
      (srcClassNow (reported 33536 true none) 522 = FltClass.major) ∧
      (((reported 33536 true none).flt Core.c0).handling = none) ∧
      (((reported 33536 true none).flt Core.c0).log.length < 32)) ∧
    -- collectorReport
     ((((reported 16384 false (some 3)).flt Core.c0).inbox =
         [{ src := 522, detail := 13, time := 8192000000000000, inj := false, dry := false }]) ∧
      (false = true ∨
         (escalate (reported 16384 false (some 3)) 522 8192000000000000
               (srcOf ((reported 16384 false (some 3)).flt Core.c0) 522).times).2 =
           false) ∧
      (522 < 1024) ∧
      (srcClassNow (reported 16384 false (some 3)) 522 = FltClass.minor) ∧
      (((reported 16384 false (some 3)).flt Core.c0).handling = some 3)) ∧
    -- collectorReport
     ((((reported 49152 false none).flt Core.c0).inbox =
         [{ src := 522, detail := 13, time := 8192000000000000, inj := false, dry := false }]) ∧
      (false = true ∨
         (escalate (reported 49152 false none) 522 8192000000000000
               (srcOf ((reported 49152 false none).flt Core.c0) 522).times).2 =
           false) ∧
      (522 < 1024) ∧
      (srcClassNow (reported 49152 false none) 522 = FltClass.grave) ∧
      (false = false)) ∧
    -- collectorReport
     ((((reported 49152 true none).flt Core.c0).inbox =
         [{ src := 522, detail := 13, time := 8192000000000000, inj := false, dry := true }]) ∧
      (true = true ∨
         (escalate (reported 49152 true none) 522 8192000000000000
               (srcOf ((reported 49152 true none).flt Core.c0) 522).times).2 =
           false) ∧
      (522 < 1024) ∧
      (srcClassNow (reported 49152 true none) 522 = FltClass.grave) ∧
      (true = true)) ∧
    -- handlingEnd
     ((((reported 16384 false (some 3)).flt Core.c0).handling = some 3) ∧
      (((reported 16384 false (some 3)).flt Core.c0).waiting = [])) ∧
    -- handlingEnd
     ((((handled [{ src := 522, cls := FltClass.major, merged := false, code := 3, detail := 0 }]).flt Core.c0).handling =
         some 3) ∧
      (((handled [{ src := 522, cls := FltClass.major, merged := false, code := 3, detail := 0 }]).flt Core.c0).waiting =
         [{ src := 522, cls := FltClass.major, merged := false, code := 3, detail := 0 }]) ∧
      (3 ≠ 0) ∧
      (reactApplies 522 3 0 = true)) ∧
    -- quietPeriodMajor
     (((srcOf ((heldSource 0).flt Core.c0) 1023).held = true) ∧
      ((srcOf ((heldSource 0).flt Core.c0) 1023).power = false) ∧
      (lastReport (heldSource 0) 1023 + atLeastOne (BitVec.toNat ((heldSource 0).reg FLT_QUIET_M)) * msT ≤
         max (heldSource 0).now 0) ∧
      ((heldSource 0).bit FLT_CTRL 15 = false) ∧
      ((heldSource 0).fld FLT_CTRL 11 8 ≠ 0) ∧
      ((sourceRecs ((heldSource 0).at 0) (srcOf ((heldSource 0).flt Core.c0) 1023)).length < (heldSource 0).fld FLT_CTRL 11 8)) ∧
    -- quietPeriodMajor
     (((srcOf ((heldSource 1).flt Core.c0) 1023).held = true) ∧
      ((srcOf ((heldSource 1).flt Core.c0) 1023).power = false) ∧
      (lastReport (heldSource 1) 1023 + atLeastOne (BitVec.toNat ((heldSource 1).reg FLT_QUIET_M)) * msT ≤
         max (heldSource 1).now 0) ∧
      ((heldSource 1).bit FLT_CTRL 15 = false) ∧
      ((heldSource 1).fld FLT_CTRL 11 8 ≠ 0) ∧
      ((heldSource 1).fld FLT_CTRL 11 8 ≤ (sourceRecs ((heldSource 1).at 0) (srcOf ((heldSource 1).flt Core.c0) 1023)).length)) ∧
    -- quietPeriodGrave
     ((darkNode.dark.dark = true) ∧
      (darkNode.dark.power = false) ∧
      (darkNode.dark.lastMajor + atLeastOne (BitVec.toNat (darkNode.reg FLT_QUIET_G)) * secT ≤ max darkNode.now 0) ∧
      (darkNode.bit FLT_CTRL 14 = false) ∧
      (darkNode.fld FLT_CTRL 7 4 ≠ 0) ∧
      ((darkRecs (darkNode.at 0)).length < darkNode.fld FLT_CTRL 7 4)) ∧
    -- collectorSelfFault
     ((node.flt Core.c0).inject = none) ∧
    -- faultBacklogSend
     (barCarries (node.bdir BarDir.fh) = true) ∧
    -- fltLogPop
     (((reported 0 false none).lockedOut Path.qspi = false) ∧
      (viewBlank (reported 0 false none) Path.qspi = false) ∧
      (quiet (reported 0 false none) Path.qspi = false) ∧
      (((reported 0 false none).flt (viewCore (reported 0 false none) Path.qspi)).log =
         [{ id := 3, cls := FltClass.minor, esc := false, inj := false, src := 522, time := 5, merges := 0, lastSrc := 0,
             react := 0, detail := 0 },
           { id := 3, cls := FltClass.minor, esc := false, inj := false, src := 522, time := 5, merges := 0, lastSrc := 0,
             react := 0, detail := 0 },
           { id := 3, cls := FltClass.minor, esc := false, inj := false, src := 522, time := 5, merges := 0, lastSrc := 0,
             react := 0, detail := 0 },
           { id := 3, cls := FltClass.minor, esc := false, inj := false, src := 522, time := 5, merges := 0, lastSrc := 0,
             react := 0, detail := 0 },
           { id := 3, cls := FltClass.minor, esc := false, inj := false, src := 522, time := 5, merges := 0, lastSrc := 0,
             react := 0, detail := 0 },
           { id := 3, cls := FltClass.minor, esc := false, inj := false, src := 522, time := 5, merges := 0, lastSrc := 0,
             react := 0, detail := 0 },
           { id := 3, cls := FltClass.minor, esc := false, inj := false, src := 522, time := 5, merges := 0, lastSrc := 0,
             react := 0, detail := 0 },
           { id := 3, cls := FltClass.minor, esc := false, inj := false, src := 522, time := 5, merges := 0, lastSrc := 0,
             react := 0, detail := 0 },
           { id := 3, cls := FltClass.minor, esc := false, inj := false, src := 522, time := 5, merges := 0, lastSrc := 0,
             react := 0, detail := 0 },
           { id := 3, cls := FltClass.minor, esc := false, inj := false, src := 522, time := 5, merges := 0, lastSrc := 0,
             react := 0, detail := 0 },
           { id := 3, cls := FltClass.minor, esc := false, inj := false, src := 522, time := 5, merges := 0, lastSrc := 0,
             react := 0, detail := 0 },
           { id := 3, cls := FltClass.minor, esc := false, inj := false, src := 522, time := 5, merges := 0, lastSrc := 0,
             react := 0, detail := 0 },
           { id := 3, cls := FltClass.minor, esc := false, inj := false, src := 522, time := 5, merges := 0, lastSrc := 0,
             react := 0, detail := 0 },
           { id := 3, cls := FltClass.minor, esc := false, inj := false, src := 522, time := 5, merges := 0, lastSrc := 0,
             react := 0, detail := 0 },
           { id := 3, cls := FltClass.minor, esc := false, inj := false, src := 522, time := 5, merges := 0, lastSrc := 0,
             react := 0, detail := 0 },
           { id := 3, cls := FltClass.minor, esc := false, inj := false, src := 522, time := 5, merges := 0, lastSrc := 0,
             react := 0, detail := 0 },
           { id := 3, cls := FltClass.minor, esc := false, inj := false, src := 522, time := 5, merges := 0, lastSrc := 0,
             react := 0, detail := 0 },
           { id := 3, cls := FltClass.minor, esc := false, inj := false, src := 522, time := 5, merges := 0, lastSrc := 0,
             react := 0, detail := 0 },
           { id := 3, cls := FltClass.minor, esc := false, inj := false, src := 522, time := 5, merges := 0, lastSrc := 0,
             react := 0, detail := 0 },
           { id := 3, cls := FltClass.minor, esc := false, inj := false, src := 522, time := 5, merges := 0, lastSrc := 0,
             react := 0, detail := 0 },
           { id := 3, cls := FltClass.minor, esc := false, inj := false, src := 522, time := 5, merges := 0, lastSrc := 0,
             react := 0, detail := 0 },
           { id := 3, cls := FltClass.minor, esc := false, inj := false, src := 522, time := 5, merges := 0, lastSrc := 0,
             react := 0, detail := 0 },
           { id := 3, cls := FltClass.minor, esc := false, inj := false, src := 522, time := 5, merges := 0, lastSrc := 0,
             react := 0, detail := 0 },
           { id := 3, cls := FltClass.minor, esc := false, inj := false, src := 522, time := 5, merges := 0, lastSrc := 0,
             react := 0, detail := 0 },
           { id := 3, cls := FltClass.minor, esc := false, inj := false, src := 522, time := 5, merges := 0, lastSrc := 0,
             react := 0, detail := 0 },
           { id := 3, cls := FltClass.minor, esc := false, inj := false, src := 522, time := 5, merges := 0, lastSrc := 0,
             react := 0, detail := 0 },
           { id := 3, cls := FltClass.minor, esc := false, inj := false, src := 522, time := 5, merges := 0, lastSrc := 0,
             react := 0, detail := 0 },
           { id := 3, cls := FltClass.minor, esc := false, inj := false, src := 522, time := 5, merges := 0, lastSrc := 0,
             react := 0, detail := 0 },
           { id := 3, cls := FltClass.minor, esc := false, inj := false, src := 522, time := 5, merges := 0, lastSrc := 0,
             react := 0, detail := 0 },
           { id := 3, cls := FltClass.minor, esc := false, inj := false, src := 522, time := 5, merges := 0, lastSrc := 0,
             react := 0, detail := 0 },
           { id := 3, cls := FltClass.minor, esc := false, inj := false, src := 522, time := 5, merges := 0, lastSrc := 0,
             react := 0, detail := 0 }])) ∧
    -- fltInjArm
     ((bitOf 65535 15 = true) ∧
      (hubSide ((chosen 17 444).fld FLT_INJ_SEL 9 0) = true) ∧
      (srcChecker ((chosen 17 444).fld FLT_INJ_SEL 9 0) = true)) ∧
    -- fltInjArm
     ((bitOf 65535 15 = true) ∧
      (hubSide (node.fld FLT_INJ_SEL 9 0) = false ∨ srcChecker (node.fld FLT_INJ_SEL 9 0) = false)) ∧
    -- fiArm
     ((bitOf 65535 15 = true) ∧
      (fieldSide ((chosen 17 444).fld FI_SEL 9 0) = true) ∧
      (srcChecker ((chosen 17 444).fld FI_SEL 9 0) = true)) ∧
    -- fiArm
     ((bitOf 65535 15 = true) ∧
      (fieldSide (node.fld FI_SEL 9 0) = false ∨ srcChecker (node.fld FI_SEL 9 0) = false)) := by
  and_intros <;> decide +kernel

theorem test_power_path_witness :
    -- ovpReclose
     (((feedOff.feed 1).ovp = true) ∧
      ((feedOff.feed 1).volts + 100 < vOvp feedOff)) ∧
    -- shareAlarm
     ((shareDue node = true) ∧
      (node.power.sharing = false)) ∧
    -- handover
     (((pathAt 49152 PathPhase.feed false false FeedPhase.absent).power.started = true) ∧
      ((pathAt 49152 PathPhase.feed false false FeedPhase.absent).bit PWR_CTRL 15 = true) ∧
      ((pathAt 49152 PathPhase.feed false false FeedPhase.absent).power.path = PathPhase.feed) ∧
      (FeedsLost (pathAt 49152 PathPhase.feed false false FeedPhase.absent) 65535) ∧
      ((pathAt 49152 PathPhase.feed false false FeedPhase.absent).power.dwell = false)) ∧
    -- handover
     (((pathAt 49152 PathPhase.feed true false FeedPhase.low).power.started = true) ∧
      ((pathAt 49152 PathPhase.feed true false FeedPhase.low).bit PWR_CTRL 15 = true) ∧
      ((pathAt 49152 PathPhase.feed true false FeedPhase.low).power.path = PathPhase.feed) ∧
      (FeedsLost (pathAt 49152 PathPhase.feed true false FeedPhase.low) 65535) ∧
      ((pathAt 49152 PathPhase.feed true false FeedPhase.low).power.dwell = true)) ∧
    -- dwellEnd
     (((pathAt 49152 PathPhase.feed true true FeedPhase.low).power.started = true) ∧
      ((pathAt 49152 PathPhase.feed true true FeedPhase.low).bit PWR_CTRL 15 = true) ∧
      ((pathAt 49152 PathPhase.feed true true FeedPhase.low).power.path = PathPhase.feed) ∧
      (FeedsLost (pathAt 49152 PathPhase.feed true true FeedPhase.low) 65535) ∧
      ((pathAt 49152 PathPhase.feed true true FeedPhase.low).power.dwell = true) ∧
      ((pathAt 49152 PathPhase.feed true true FeedPhase.low).power.handoverDue = true)) ∧
    -- handover
     ((pathAt 0 PathPhase.feed false false FeedPhase.low).bit PWR_CTRL 15 = false) ∧
    -- returnPath
     (((pathAt 49152 PathPhase.holdup false false FeedPhase.good).power.path = PathPhase.holdup) ∧
      (∃ i, ((pathAt 49152 PathPhase.holdup false false FeedPhase.good).feed i).phase = FeedPhase.good) ∧
      ((pathAt 49152 PathPhase.holdup false false FeedPhase.good).power.dwell = false)) ∧
    -- returnPath
     (((pathAt 49152 PathPhase.holdup true true FeedPhase.good).power.path = PathPhase.holdup) ∧
      (∃ i, ((pathAt 49152 PathPhase.holdup true true FeedPhase.good).feed i).phase = FeedPhase.good) ∧
      ((pathAt 49152 PathPhase.holdup true true FeedPhase.good).power.dwell = true)) ∧
    -- dwellEnd
     (((pathAt 49152 PathPhase.holdup true true FeedPhase.good).power.path = PathPhase.holdup) ∧
      (∃ i, ((pathAt 49152 PathPhase.holdup true true FeedPhase.good).feed i).phase = FeedPhase.good) ∧
      ((pathAt 49152 PathPhase.holdup true true FeedPhase.good).power.dwell = true) ∧
      ((pathAt 49152 PathPhase.holdup true true FeedPhase.good).power.returnDue = true)) ∧
    -- dwellEnd
     (((pathAt 49152 PathPhase.feed true false FeedPhase.low).power.dwell = true) ∧
      ((pathAt 49152 PathPhase.feed true false FeedPhase.low).power.handoverDue = false) ∧
      ((pathAt 49152 PathPhase.feed true false FeedPhase.low).power.returnDue = false)) ∧
    -- holdupEntry
     ((pathAt 49152 PathPhase.handover false false FeedPhase.low).power.path = PathPhase.handover) ∧
    -- feedEntry
     ((pathAt 49152 PathPhase.return_ false false FeedPhase.good).power.path = PathPhase.return_) ∧
    -- huNotReady
     ((storeLow.bit PWR_CTRL 15 = true) ∧
      (storeLow.power.huVolts < BitVec.toNat (storeLow.reg PWR_HU_READY))) ∧
    -- powerDieStart
     (((stopped FeedPhase.good).power.started = false) ∧
      ((stopped FeedPhase.good).power.cycling = false) ∧
      (∃ i, ((stopped FeedPhase.good).feed i).phase = FeedPhase.good) ∧
      (900 < ((stopped FeedPhase.good).feed 0).volts ∨
         900 < ((stopped FeedPhase.good).feed 1).volts ∨ 900 < (stopped FeedPhase.good).power.huVolts)) ∧
    -- powerDieStart
     (((stopped FeedPhase.ok).power.started = false) ∧
      ((stopped FeedPhase.ok).power.cycling = false) ∧
      (∀ (i : Fin 2), ((stopped FeedPhase.ok).feed i).phase ≠ FeedPhase.good)) ∧
    -- pdLinkLost
     (node.power.link = true) ∧
    -- pdLinkRestored
     (((linkDown []).power.link = false) ∧
      ((linkDown []).power.started = true) ∧
      ((linkDown []).start.fieldReset = false) ∧
      ((linkDown []).power.linkWrites = [])) ∧
    -- pdLinkRestored
     (((linkDown [(Path.qspi, PWR_EF_ON, 7)]).power.link = false) ∧
      ((linkDown [(Path.qspi, PWR_EF_ON, 7)]).power.started = true) ∧
      ((linkDown [(Path.qspi, PWR_EF_ON, 7)]).start.fieldReset = false) ∧
      ((linkDown [(Path.qspi, PWR_EF_ON, 7)]).power.linkWrites = [(Path.qspi, PWR_EF_ON, 7)]) ∧
      ((linkDown [(Path.qspi, PWR_EF_ON, 7)]).power.cfStep = 0) ∧
      (jrnBusy (linkDown [(Path.qspi, PWR_EF_ON, 7)]) = false)) := by
  and_intros <;> decide +kernel

theorem test_curtain_fall_witness :
    -- curtainFallStart
     (((pathAt 49152 PathPhase.holdup false false FeedPhase.absent).power.cfStep = 0) ∧
      ((pathAt 49152 PathPhase.holdup false false FeedPhase.absent).power.link = true) ∧
      ((pathAt 49152 PathPhase.holdup false false FeedPhase.absent).power.path = PathPhase.holdup)) ∧
    -- curtainFallStart
     (((pathAt 0 PathPhase.feed false false FeedPhase.absent).power.cfStep = 0) ∧
      ((pathAt 0 PathPhase.feed false false FeedPhase.absent).power.link = true) ∧
      ((pathAt 0 PathPhase.feed false false FeedPhase.absent).power.path ≠ PathPhase.holdup) ∧
      ((pathAt 0 PathPhase.feed false false FeedPhase.absent).power.started = true) ∧
      ((pathAt 0 PathPhase.feed false false FeedPhase.absent).bit PWR_CTRL 15 = false) ∧
      (FeedsLost (pathAt 0 PathPhase.feed false false FeedPhase.absent) 0)) ∧
    -- curtain
     ((node.power.cfStep = 0) ∧
      (node.power.link = true)) ∧
    -- curtain
     (((curtainAt 1).power.cfStep ≠ 0) ∧
      (Instr.curtain 0 ∈
         [Instr.curtain 0, Instr.curtainFallStart 0, Instr.returnPath 0, Instr.feedEntry 0, Instr.handover 0,
           Instr.holdupEntry 0])) ∧
    -- journalFlushDone
     (((curtainAt 1).power.cfStep = 1) ∧
      ((curtainAt 1).fab.node ≠ 0) ∧
      ((curtainAt 1).fab.node < 4000) ∧
      ((curtainAt 1).ringNo < 16) ∧
      (RingsUp (curtainAt 1)) ∧
      ((vget (curtainAt 1).brg.eps 5).held = []) ∧
      ((vget (curtainAt 1).brg.eps 5).heldSigs = []) ∧
      ((vget (curtainAt 1).brg.eps 5).posted = []) ∧
      (mustHold ((curtainAt 1).at 0) 5
           { ep := 5, op := TxnOp.sig, dring := (curtainAt 1).ringNo, dnode := 4095, count := 0, burst := false, len := 0,
             cg := false, cell := 0, addr := 0, set := (curtainAt 1).fld PWR_CF_SIG 7 0, cycle := 0,
             data := [wd (curtainAt 1).power.cfCause, (curtainAt 1).power.cfStat] } =
         false)) ∧
    -- exitNoticeSent
     ((curtainAt 2).power.cfStep = 2) ∧
    -- curtainSettleEnd
     ((curtainAt 4).power.cfStep = 4) ∧
    -- cfPowerCycle
     (((curtainAt 5).power.cfStep = 5) ∧
      (∃ i, ((curtainAt 5).feed i).phase = FeedPhase.good)) := by
  and_intros <;> decide +kernel

theorem test_e_fuses_witness :
    -- efMeasure
     (Sound (node.fuse 15)) ∧
    -- efMeasure
     (((Sound ((fused true 150 (fuseAt FusePhase.ramp 0 { num := 1, den := 1 } none)).fuse 15)) ∧
       (fuseLive ((fused true 150 (fuseAt FusePhase.ramp 0 { num := 1, den := 1 } none)).fuse 15) = true) ∧
       (curvePoints (fused true 150 (fuseAt FusePhase.ramp 0 { num := 1, den := 1 } none)) 15 = [(100, 1000), (200, 100)]) ∧
       (1 ≤ integral (fused true 150 (fuseAt FusePhase.ramp 0 { num := 1, den := 1 } none)) 15 65535 (100, 1000) [(200, 100)])) ∧
      (Commanded (fused true 150 (fuseAt FusePhase.ramp 0 { num := 1, den := 1 } none)) 15)) ∧
    -- efMeasure
     (((Sound ((fused true 0 (fuseAt FusePhase.on 0 { num := 0, den := 1 } none)).fuse 15)) ∧
       (fuseLive ((fused true 0 (fuseAt FusePhase.on 0 { num := 0, den := 1 } none)).fuse 15) = true) ∧
       (curvePoints (fused true 0 (fuseAt FusePhase.on 0 { num := 0, den := 1 } none)) 15 = [(100, 1000), (200, 100)]) ∧
       (integral (fused true 0 (fuseAt FusePhase.on 0 { num := 0, den := 1 } none)) 15 0 (100, 1000) [(200, 100)] < 1) ∧
       ((((fused true 0 (fuseAt FusePhase.on 0 { num := 0, den := 1 } none)).ef PWR_EF_TLIM 15).toNat : Rat) ≤ heated (fused true 0 (fuseAt FusePhase.on 0 { num := 0, den := 1 } none)) 15 0)) ∧
      (Commanded (fused true 0 (fuseAt FusePhase.on 0 { num := 0, den := 1 } none)) 15)) ∧
    -- efMeasure
     (((Sound ((fused true 150 (fuseAt FusePhase.ramp 0 { num := 1, den := 1 } none)).fuse 15)) ∧
       (fuseLive ((fused true 150 (fuseAt FusePhase.ramp 0 { num := 1, den := 1 } none)).fuse 15) = true) ∧
       (curvePoints (fused true 150 (fuseAt FusePhase.ramp 0 { num := 1, den := 1 } none)) 15 = [(100, 1000), (200, 100)]) ∧
       (integral (fused true 150 (fuseAt FusePhase.ramp 0 { num := 1, den := 1 } none)) 15 0 (100, 1000) [(200, 100)] < 1) ∧
       (heated (fused true 150 (fuseAt FusePhase.ramp 0 { num := 1, den := 1 } none)) 15 0 < (((fused true 150 (fuseAt FusePhase.ramp 0 { num := 1, den := 1 } none)).ef PWR_EF_TLIM 15).toNat : Rat))) ∧
      (Commanded (fused true 150 (fuseAt FusePhase.ramp 0 { num := 1, den := 1 } none)) 15)) ∧
    -- efMeasure
     (((Sound ((fused true 150 (fuseAt FusePhase.tripped 1 { num := 0, den := 1 } none)).fuse 15)) ∧
       (((fused true 150 (fuseAt FusePhase.tripped 1 { num := 0, den := 1 } none)).fuse 15).phase = FusePhase.tripped) ∧
       (((fused true 150 (fuseAt FusePhase.tripped 1 { num := 0, den := 1 } none)).fuse 15).delayDone = true) ∧
       (heated (fused true 150 (fuseAt FusePhase.tripped 1 { num := 0, den := 1 } none)) 15 0 < (((fused true 150 (fuseAt FusePhase.tripped 1 { num := 0, den := 1 } none)).ef PWR_EF_TLIM 15).toNat : Rat) - 20)) ∧
      (Commanded (fused true 150 (fuseAt FusePhase.tripped 1 { num := 0, den := 1 } none)) 15)) ∧
    -- efRetry
     (((Sound ((fused true 150 (fuseAt FusePhase.tripped 1 { num := 0, den := 1 } none)).fuse 15)) ∧
       (((fused true 150 (fuseAt FusePhase.tripped 1 { num := 0, den := 1 } none)).fuse 15).phase = FusePhase.tripped) ∧
       (((fused true 150 (fuseAt FusePhase.tripped 1 { num := 0, den := 1 } none)).fuse 15).cause ≠ 3 ∨
          ∀ (m : Frac),
            ((fused true 150 (fuseAt FusePhase.tripped 1 { num := 0, den := 1 } none)).fuse 15).model = some m →
              fracRat m <
                ↑(BitVec.toNat ((fused true 150 (fuseAt FusePhase.tripped 1 { num := 0, den := 1 } none)).ef PWR_EF_TLIM 15)) -
                  20)) ∧
      (Commanded (fused true 150 (fuseAt FusePhase.tripped 1 { num := 0, den := 1 } none)) 15)) ∧
    -- efRetry
     (((Sound ((fused true 150 (fuseAt FusePhase.tripped 3 { num := 0, den := 1 } (some { num := 200, den := 1 }))).fuse 15)) ∧
       (((fused true 150 (fuseAt FusePhase.tripped 3 { num := 0, den := 1 } (some { num := 200, den := 1 }))).fuse 15).phase =
          FusePhase.tripped) ∧
       (((fused true 150 (fuseAt FusePhase.tripped 3 { num := 0, den := 1 } (some { num := 200, den := 1 }))).fuse 15).cause = 3) ∧
       (((fused true 150 (fuseAt FusePhase.tripped 3 { num := 0, den := 1 } (some { num := 200, den := 1 }))).fuse 15).model =
          some { num := 200, den := 1 }) ∧
       (↑(BitVec.toNat
                ((fused true 150 (fuseAt FusePhase.tripped 3 { num := 0, den := 1 } (some { num := 200, den := 1 }))).ef
                  PWR_EF_TLIM 15)) -
            20 ≤
          fracRat { num := 200, den := 1 })) ∧
      (Commanded (fused true 150 (fuseAt FusePhase.tripped 3 { num := 0, den := 1 } (some { num := 200, den := 1 }))) 15)) ∧
    -- efInstTrip
     (((fuseLive ((fused true 150 (fuseAt FusePhase.ramp 0 { num := 1, den := 1 } none)).fuse 15) = true) ∧
       ((fused true 150 (fuseAt FusePhase.ramp 0 { num := 1, den := 1 } none)).ef PWR_EF_INST 15 ≠ 0)) ∧
      (Commanded (fused true 150 (fuseAt FusePhase.ramp 0 { num := 1, den := 1 } none)) 15)) ∧
    -- efInstTrip
     (((fuseLive (uncheckedTrip.fuse 15) = true) ∧
       (uncheckedTrip.ef PWR_EF_INST 15 = 0)) ∧
      (Commanded uncheckedTrip 15)) ∧
    -- efRampDone
     ((((fused true 150 (fuseAt FusePhase.ramp 0 { num := 1, den := 1 } none)).fuse 15).phase = FusePhase.ramp) ∧
      (Commanded (fused true 150 (fuseAt FusePhase.ramp 0 { num := 1, den := 1 } none)) 15)) ∧
    -- efRampTimeout
     ((((fused true 150 (fuseAt FusePhase.ramp 0 { num := 1, den := 1 } none)).fuse 15).phase = FusePhase.ramp) ∧
      (Commanded (fused true 150 (fuseAt FusePhase.ramp 0 { num := 1, den := 1 } none)) 15)) ∧
    -- efRetryCountRestart
     ((((fused true 0 (fuseAt FusePhase.on 0 { num := 0, den := 1 } none)).fuse 15).phase = FusePhase.on) ∧
      (Commanded (fused true 0 (fuseAt FusePhase.on 0 { num := 0, den := 1 } none)) 15)) ∧
    -- efStartTurn
     (((((fused true 150 (fuseAt FusePhase.wait 0 { num := 0, den := 1 } none)).fuse 15).phase = FusePhase.wait) ∧
       (∀ k < 15, ((fused true 150 (fuseAt FusePhase.wait 0 { num := 0, den := 1 } none)).fuse k).phase ≠ FusePhase.wait)) ∧
      (Commanded (fused true 150 (fuseAt FusePhase.wait 0 { num := 0, den := 1 } none)) 15)) ∧
    -- efDiodeRead
     (((bitOf ((fused true 150 (fuseAt FusePhase.ramp 0 { num := 1, den := 1 } none)).ef PWR_EF_CFG 15) 12 = true) ∧
       (((fused true 150 (fuseAt FusePhase.ramp 0 { num := 1, den := 1 } none)).fuse 15).diodeBad = false) ∧
       (fuseLive ((fused true 150 (fuseAt FusePhase.ramp 0 { num := 1, den := 1 } none)).fuse 15) = true) ∧
       ((2 : Int) *
            ↑(BitVec.toNat
                ((fused true (150 : Word) (fuseAt FusePhase.ramp (0 : Nat) { num := (1 : Int), den := (1 : Nat) } none)).ef
                  PWR_EF_TLIM (15 : Fin (16 : Nat)))) ≤
          (32767 : Int))) ∧
      (Commanded (fused true 150 (fuseAt FusePhase.ramp 0 { num := 1, den := 1 } none)) 15)) ∧
    -- efDiodeRead
     ((bitOf ((fused true 150 (fuseAt FusePhase.ramp 0 { num := 1, den := 1 } none)).ef PWR_EF_CFG 15) 12 = true) ∧
      (((fused true 150 (fuseAt FusePhase.ramp 0 { num := 1, den := 1 } none)).fuse 15).diodeBad = false)) ∧
    -- efDiodeRead
     ((bitOf
           ((fused true 150 (fuseAt FusePhase.tripped 3 { num := 0, den := 1 } (some { num := 200, den := 1 }))).ef PWR_EF_CFG
             15)
           12 =
         true) ∧
      (((fused true 150 (fuseAt FusePhase.tripped 3 { num := 0, den := 1 } (some { num := 200, den := 1 }))).fuse
             15).diodeBad =
         false) ∧
      (((fused true 150 (fuseAt FusePhase.tripped 3 { num := 0, den := 1 } (some { num := 200, den := 1 }))).fuse 15).model =
         some { num := 200, den := 1 }) ∧
      (1 ≠ 0) ∧
      (((fused true 150 (fuseAt FusePhase.tripped 3 { num := 0, den := 1 } (some { num := 200, den := 1 }))).fuse
             15).diffSince =
         some 0) ∧
      (1638400000000000 ≤
         max (fused true 150 (fuseAt FusePhase.tripped 3 { num := 0, den := 1 } (some { num := 200, den := 1 }))).now
           2000000000) ∧
      (((fused true 150 (fuseAt FusePhase.tripped 3 { num := 0, den := 1 } (some { num := 200, den := 1 }))).fuse
             15).diffTold =
         false) ∧
      (↑0 < 2 * fracRat { num := 200, den := 1 } - 30 ∨ 2 * fracRat { num := 200, den := 1 } + 30 < ↑0)) ∧
    -- efOnWrite
     (((node.power.link = true) ∧
       (node.power.cfStep = 0) ∧
       (jrnBusy node = false)) ∧
      (Unheld node 15)) ∧
    -- efReset
     (((((fused true 150 (fuseAt FusePhase.locked 0 { num := 0, den := 1 } none)).fuse 15).phase = FusePhase.locked) ∧
       (BitVec.getLsbD (0 : Word) (15 : Nat) = false)) ∧
      (Unheld (fused true 150 (fuseAt FusePhase.locked 0 { num := 0, den := 1 } none)) 15)) ∧
    -- efReset
     (((((fused false 150 (fuseAt FusePhase.locked 0 { num := 0, den := 1 } none)).fuse 15).phase = FusePhase.locked) ∧
       (BitVec.getLsbD (65535 : Word) (15 : Nat) = true) ∧
       ((fused false 150 (fuseAt FusePhase.locked 0 { num := 0, den := 1 } none)).bit PWR_EF_ON 15 = false)) ∧
      (Unheld (fused false 150 (fuseAt FusePhase.locked 0 { num := 0, den := 1 } none)) 15)) ∧
    -- efReset
     (((((fused true 150 (fuseAt FusePhase.locked 0 { num := 0, den := 1 } none)).fuse 15).phase = FusePhase.locked) ∧
       (BitVec.getLsbD (65535 : Word) (15 : Nat) = true) ∧
       ((fused true 150 (fuseAt FusePhase.locked 0 { num := 0, den := 1 } none)).bit PWR_EF_ON 15 = true)) ∧
      (Unheld (fused true 150 (fuseAt FusePhase.locked 0 { num := 0, den := 1 } none)) 15)) := by
  and_intros <;> first | decide +kernel | (constructor <;> first | decide +kernel | (constructor <;> decide +kernel))

theorem test_uplinks_witness :
    -- ethFrameReceive
     ((uplinkOn hosting Uplink.ten = true) ∧
      (hubArmed hosting Src.datagram = none ∨ (2 : Fin (4 : Nat)) ≠ (2 : Fin (4 : Nat)))) ∧
    -- ethFrameReceive
     ((uplinkOn hosting Uplink.ten = true) ∧
      (hubArmed hosting Src.datagram = none ∨ (2 : Fin (4 : Nat)) ≠ (2 : Fin (4 : Nat))) ∧
      (9000 < 9001)) ∧
    -- ethFrameReceive
     ((uplinkOn hosting Uplink.ten = true) ∧
      (hubArmed hosting Src.datagram = none ∨ (3 : Fin (4 : Nat)) ≠ (2 : Fin (4 : Nat))) ∧
      (9000 ≤ 9000) ∧
      ((3 : Fin (4 : Nat)) = (3 : Fin (4 : Nat)))) ∧
    -- ethFrameReceive
     ((uplinkOn hosting Uplink.ten = true) ∧
      (hubArmed hosting Src.datagram = none ∨ (2 : Fin (4 : Nat)) ≠ (2 : Fin (4 : Nat))) ∧
      (9000 ≤ 9000) ∧
      ((2 : Fin (4 : Nat)) ≠ (3 : Fin (4 : Nat)))) ∧
    -- arpRequest
     ((uplinkOn hosting Uplink.ten = true) ∧
      (hosting.accepted.isSome = true) ∧
      (hstIp hosting ≠ 0)) ∧
    -- arpRequest
     ((uplinkOn hosting Uplink.ten = true) ∧
      (0 ≠ hstIp hosting ∨ hstIp hosting = 0)) ∧
    -- pauseSend
     ((uplinkOn uplinksPressed Uplink.ten = true) ∧
      (uplinksPressed.bit HST_CTRL 11 = true) ∧
      (uplinksPressed.accepted.isSome = true) ∧
      (pressed uplinksPressed (uplinkPort Uplink.ten) = true)) ∧
    -- pauseSend
     ((uplinkOn paused Uplink.ten = true) ∧
      (paused.bit HST_CTRL 11 = true) ∧
      (paused.accepted.isSome = true) ∧
      (pressed paused (uplinkPort Uplink.ten) = false) ∧
      ((vget paused.host.ups Uplink.ten.ix).pausing = true)) ∧
    -- pauseReceive
     ((uplinkOn hosting Uplink.ten = true) ∧
      (hosting.bit HST_CTRL 11 = true)) ∧
    -- pauseSend
     ((uplinkOn pauseless Uplink.ten = true) ∧
      (pauseless.bit HST_CTRL 11 = false) ∧
      (Instr.pauseSend Uplink.ten 0 ∈ [Instr.pauseSend Uplink.ten 0, Instr.pauseReceive Uplink.ten 9000 0])) ∧
    -- uplinkLinkChange
     ((vget hosting.host.ups Uplink.ten.ix).up = true) ∧
    -- uplinkLinkChange
     ((vget node.host.ups Uplink.ten.ix).up = false) ∧
    -- ptpSync
     (¬(node.bit TIM_CFG 15 = true ∧
           ptpPort node = Uplink.ten ∧ uplinkOn node Uplink.ten = true ∧ 0 = node.fld HST_PTP 15 8 ∧ true = node.bit HST_PTP 6)) ∧
    -- ptpSync
     (ptpOn.bit TIM_CFG 15 = true ∧
         ptpPort ptpOn = Uplink.ten ∧
           uplinkOn ptpOn Uplink.ten = true ∧ 0 = ptpOn.fld HST_PTP 15 8 ∧ false = ptpOn.bit HST_PTP 6) ∧
    -- ptpSync
     ((ptpOn.bit TIM_CFG 15 = true ∧
         ptpPort ptpOn = Uplink.ten ∧
           uplinkOn ptpOn Uplink.ten = true ∧ 0 = ptpOn.fld HST_PTP 15 8 ∧ false = ptpOn.bit HST_PTP 6) ∧
      (-100 ≤ 0) ∧
      ((0 : Int) ≤ (100 : Int))) ∧
    -- ptpSync
     ((ptpOn.bit TIM_CFG 15 = true ∧
         ptpPort ptpOn = Uplink.ten ∧
           uplinkOn ptpOn Uplink.ten = true ∧ 0 = ptpOn.fld HST_PTP 15 8 ∧ false = ptpOn.bit HST_PTP 6) ∧
      ((1000 : Int) < (1001 : Int) ∨ (1001 : Int) < (-1000 : Int))) ∧
    -- ptpSync
     ((ptpOn.bit TIM_CFG 15 = true ∧
         ptpPort ptpOn = Uplink.ten ∧
           uplinkOn ptpOn Uplink.ten = true ∧ 0 = ptpOn.fld HST_PTP 15 8 ∧ false = ptpOn.bit HST_PTP 6) ∧
      (ptpBegun ptpOn = false)) ∧
    -- ptpSync
     ((ptpPrompter.bit TIM_CFG 15 = true ∧
         ptpPort ptpPrompter = Uplink.ten ∧
           uplinkOn ptpPrompter Uplink.ten = true ∧ 0 = ptpPrompter.fld HST_PTP 15 8 ∧ false = ptpPrompter.bit HST_PTP 6) ∧
      (ptpPrompter.prompting = true) ∧
      (-1000000 ≤ 0) ∧
      ((0 : Int) ≤ (1000000 : Int))) ∧
    -- ptpSync
     ((ptpPrompter.bit TIM_CFG 15 = true ∧
         ptpPort ptpPrompter = Uplink.ten ∧
           uplinkOn ptpPrompter Uplink.ten = true ∧ 0 = ptpPrompter.fld HST_PTP 15 8 ∧ false = ptpPrompter.bit HST_PTP 6) ∧
      (ptpPrompter.prompting = true) ∧
      ((1000000 : Int) < (1000001 : Int) ∨ (1000001 : Int) < (-1000000 : Int))) := by
  and_intros <;> decide +kernel

theorem test_envelopes_witness :
    -- envelopeRequest
     ((uplinkOn hosting Uplink.ten = true) ∧
      (peerEth.udp = none ∨ hstIp hosting ≠ 0) ∧
      (Instr.envelopeRequest Uplink.ten peerEth (some 3) true requestEnv 0 ∈
         [Instr.envelopeRequest Uplink.ten peerEth (some 3) true requestEnv 0,
           Instr.envelopeRelay Uplink.ten peerEth (some 3) true requestEnv 0,
           Instr.envelopeLibrary Uplink.ten peerEth (some 3) true requestEnv 0])) ∧
    -- envelopeRequest
     ((uplinkOn joining_ Uplink.ten = true) ∧
      (peerEth.udp = none ∨ hstIp joining_ ≠ 0) ∧
      (datagramCause joining_ Uplink.ten peerEth.udp.isSome true requestEnv = some (8, some 0)) ∧
      (4 ≤ requestEnv.length) ∧
      (fld (wAt requestEnv 0) 15 12 = 1) ∧
      (fld (wAt requestEnv 0) 11 8 ≤ 4) ∧
      (joining_.accepted.isSome = true) ∧
      (Instr.envelopeRequest Uplink.ten peerEth none true requestEnv 0 ∈
         [Instr.envelopeRequest Uplink.ten peerEth none true requestEnv 0,
           Instr.envelopeRelay Uplink.ten peerEth none true requestEnv 0,
           Instr.envelopeLibrary Uplink.ten peerEth none true requestEnv 0])) ∧
    -- envelopeRequest
     ((uplinkOn hosting Uplink.ten = true) ∧
      (peerEth.udp = none ∨ hstIp hosting ≠ 0) ∧
      (datagramCause hosting Uplink.ten peerEth.udp.isSome true requestEnv = none) ∧
      (itemsOf requestEnv 0 = some [[3999, 0, 0, 64, 0]]) ∧
      (envFind (hosting.at 0) (envKey Uplink.ten peerEth (wAt requestEnv 1)) = none) ∧
      (descriptorLen [3999, 0, 0, 64, 0] = some [3999, 0, 0, 64, 0].length) ∧
      (1 = (parseDescriptor (envEndpoint Uplink.ten) [3999, 0, 0, 64, 0]).ep) ∧
      (judge hosting (parseDescriptor (envEndpoint Uplink.ten) [3999, 0, 0, 64, 0]) = none) ∧
      ((parseDescriptor (envEndpoint Uplink.ten) [3999, 0, 0, 64, 0]).op.posted = false) ∧
      ((parseDescriptor (envEndpoint Uplink.ten) [3999, 0, 0, 64, 0]).op ≠ TxnOp.gwr) ∧
      ((parseDescriptor (envEndpoint Uplink.ten) [3999, 0, 0, 64, 0]).op ≠ TxnOp.range) ∧
      (freeTag hosting (parseDescriptor (envEndpoint Uplink.ten) [3999, 0, 0, 64, 0]).ep = some 0) ∧
      ((vget hosting.brg.eps 1).held = []) ∧
      (mustHold (hosting.at 0) 1 (parseDescriptor (envEndpoint Uplink.ten) [3999, 0, 0, 64, 0]) = false) ∧
      (RingsUp hosting) ∧
      ((parseDescriptor (envEndpoint Uplink.ten) [3999, 0, 0, 64, 0]).dring = hosting.ringNo) ∧
      ((parseDescriptor (envEndpoint Uplink.ten) [3999, 0, 0, 64, 0]).dnode < 4000) ∧
      (hosting.ringNo < 16) ∧
      ((parseDescriptor (envEndpoint Uplink.ten) [3999, 0, 0, 64, 0]).dnode ≠ hosting.fab.node)) ∧
    -- envelopeRequest
     ((uplinkOn (envUnderWay EnvItem.waits) Uplink.ten = true) ∧
      (peerEth.udp = none ∨ hstIp (envUnderWay EnvItem.waits) ≠ 0) ∧
      (datagramCause (envUnderWay EnvItem.waits) Uplink.ten peerEth.udp.isSome true requestEnv = none) ∧
      (itemsOf requestEnv 0 = some [[3999, 0, 0, 64, 0]]) ∧
      (envFind ((envUnderWay EnvItem.waits).at 0) (envKey Uplink.ten peerEth (wAt requestEnv 1)) = some (entryOf EnvItem.waits))) ∧
    -- envelopeRelay
     ((uplinkOn joining_ Uplink.ten = true) ∧
      (peerEth.udp = none ∨ hstIp joining_ ≠ 0) ∧
      (datagramCause joining_ Uplink.ten peerEth.udp.isSome true (relayEnv 3999) = none) ∧
      (itemsOf (relayEnv 3999) 3 =
         some
           [[16646, 3999, 4102, 1, 7, wd ((Frame.mk' 1 1 6 3999 4102 0 [7]).crc >>> 16),
               wd ((Frame.mk' 1 1 6 3999 4102 0 [7]).crc >>> 0)]]) ∧
      ((frameOf
             (innermost 5
               [16646, 3999, 4102, 1, 7, wd ((Frame.mk' 1 1 6 3999 4102 0 [7]).crc >>> 16),
                 wd ((Frame.mk' 1 1 6 3999 4102 0 [7]).crc >>> 0)])).dring =
         joining_.ringNo) ∧
      ((frameOf
             (innermost 5
               [16646, 3999, 4102, 1, 7, wd ((Frame.mk' 1 1 6 3999 4102 0 [7]).crc >>> 16),
                 wd ((Frame.mk' 1 1 6 3999 4102 0 [7]).crc >>> 0)])).dnode <
         4000) ∧
      ((frameOf
             (innermost 5
               [16646, 3999, 4102, 1, 7, wd ((Frame.mk' 1 1 6 3999 4102 0 [7]).crc >>> 16),
                 wd ((Frame.mk' 1 1 6 3999 4102 0 [7]).crc >>> 0)])).dnode ≠
         joining_.fab.node) ∧
      (RingsUp joining_) ∧
      (joining_.reg SWQ_SMP_N = 0) ∧
      (accepts joining_ (uplinkPort Uplink.ten)
           ((frameOf
                 (innermost 5
                   [16646, 3999, 4102, 1, 7, wd ((Frame.mk' 1 1 6 3999 4102 0 [7]).crc >>> 16),
                     wd ((Frame.mk' 1 1 6 3999 4102 0 [7]).crc >>> 0)])).sub %
             32)
           (frameOf
             (innermost 5
               [16646, 3999, 4102, 1, 7, wd ((Frame.mk' 1 1 6 3999 4102 0 [7]).crc >>> 16),
                 wd ((Frame.mk' 1 1 6 3999 4102 0 [7]).crc >>> 0)])) =
         true) ∧
      ((frameOf
               (innermost 5
                 [16646, 3999, 4102, 1, 7, wd ((Frame.mk' 1 1 6 3999 4102 0 [7]).crc >>> 16),
                   wd ((Frame.mk' 1 1 6 3999 4102 0 [7]).crc >>> 0)])).cls =
           0 →
         (frameOf
                 (innermost 5
                   [16646, 3999, 4102, 1, 7, wd ((Frame.mk' 1 1 6 3999 4102 0 [7]).crc >>> 16),
                     wd ((Frame.mk' 1 1 6 3999 4102 0 [7]).crc >>> 0)])).payload.length ≤
           32)) ∧
    -- envelopeRelay
     ((uplinkOn joining_ Uplink.ten = true) ∧
      (peerEth.udp = none ∨ hstIp joining_ ≠ 0) ∧
      (datagramCause joining_ Uplink.ten peerEth.udp.isSome true (relayEnv3 12191) = none) ∧
      (itemsOf (relayEnv3 12191) 3 =
         some
           [[4864, 7, 17, 1, 13, 4864, 7, 12, 1, 8, 16646, 12191, 4102, 1, 7,
               wd ((Frame.mk' 1 1 6 12191 4102 0 [7]).crc >>> 16), wd ((Frame.mk' 1 1 6 12191 4102 0 [7]).crc >>> 0)]]) ∧
      ((frameOf
             (innermost 5
               [4864, 7, 17, 1, 13, 4864, 7, 12, 1, 8, 16646, 12191, 4102, 1, 7,
                 wd ((Frame.mk' 1 1 6 12191 4102 0 [7]).crc >>> 16),
                 wd ((Frame.mk' 1 1 6 12191 4102 0 [7]).crc >>> 0)])).dring ≠
         joining_.ringNo) ∧
      (3 ≤ relayDepth 5 (relayEnv3 12191)) ∧
      ((frameOf
             (innermost 5
               [4864, 7, 17, 1, 13, 4864, 7, 12, 1, 8, 16646, 12191, 4102, 1, 7,
                 wd ((Frame.mk' 1 1 6 12191 4102 0 [7]).crc >>> 16),
                 wd ((Frame.mk' 1 1 6 12191 4102 0 [7]).crc >>> 0)])).type ≠
         0)) ∧
    -- envelopeRelay
     ((uplinkOn joining_ Uplink.ten = true) ∧
      (peerEth.udp = none ∨ hstIp joining_ ≠ 0) ∧
      (datagramCause joining_ Uplink.ten peerEth.udp.isSome true (relayEnv 8095) = none) ∧
      (itemsOf (relayEnv 8095) 3 =
         some
           [[16646, 8095, 4102, 1, 7, wd ((Frame.mk' 1 1 6 8095 4102 0 [7]).crc >>> 16),
               wd ((Frame.mk' 1 1 6 8095 4102 0 [7]).crc >>> 0)]]) ∧
      ((frameOf
             (innermost 5
               [16646, 8095, 4102, 1, 7, wd ((Frame.mk' 1 1 6 8095 4102 0 [7]).crc >>> 16),
                 wd ((Frame.mk' 1 1 6 8095 4102 0 [7]).crc >>> 0)])).dring ≠
         joining_.ringNo) ∧
      (relayDepth 5 (relayEnv 8095) < 3) ∧
      ((relayEnv 8095).length ≤ 512) ∧
      (exitNode joining_
           (frameOf
               (innermost 5
                 [16646, 8095, 4102, 1, 7, wd ((Frame.mk' 1 1 6 8095 4102 0 [7]).crc >>> 16),
                   wd ((Frame.mk' 1 1 6 8095 4102 0 [7]).crc >>> 0)])).dring =
         some joining_.fab.node) ∧
      (portOff joining_ (jointPort joining_) = false)) ∧
    -- envelopeLibrary
     ((uplinkOn librarian Uplink.ten = true) ∧
      (peerUdp.udp = none ∨ hstIp librarian ≠ 0) ∧
      (datagramCause librarian Uplink.ten peerUdp.udp.isSome true (libraryEnv 19) = none) ∧
      (itemsOf (libraryEnv 19) 4 = some [[19, 0, 0, 7]]) ∧
      (librarian.prompting = true) ∧
      (peerUdp.udp = some (librarian.reg HST_LIB_IP_H ++ librarian.reg HST_LIB_IP_L, librarian.reg HST_LIB_UDP)) ∧
      (librarian.host.library = [(3999, 6)]) ∧
      (3999 < 4000) ∧
      (3999 ≠ librarian.fab.node) ∧
      (librarian.fab.node ≠ 0) ∧
      (librarian.ringNo < 16) ∧
      (RingsUp librarian) ∧
      (fld (wAt [19, 0, 0, 7] 0) 7 0 = 19)) ∧
    -- envelopeLibrary
     ((uplinkOn librarian Uplink.ten = true) ∧
      (peerUdp.udp = none ∨ hstIp librarian ≠ 0) ∧
      (datagramCause librarian Uplink.ten peerUdp.udp.isSome true (libraryEnv 20) = none) ∧
      (itemsOf (libraryEnv 20) 4 = some [[20, 0, 0, 7]]) ∧
      (librarian.prompting = true) ∧
      (peerUdp.udp = some (librarian.reg HST_LIB_IP_H ++ librarian.reg HST_LIB_IP_L, librarian.reg HST_LIB_UDP)) ∧
      (librarian.host.library = [(3999, 6)]) ∧
      (3999 < 4000) ∧
      (3999 ≠ librarian.fab.node) ∧
      (librarian.fab.node ≠ 0) ∧
      (librarian.ringNo < 16) ∧
      (RingsUp librarian) ∧
      (fld (wAt [20, 0, 0, 7] 0) 7 0 = 20)) ∧
    -- envelopeResponse
     (((envUnderWay Tests.answered).host.envs = [entryOf Tests.answered]) ∧
      ((entryOf Tests.answered).key.uplink = Uplink.ten) ∧
      ((entryOf Tests.answered).done = false) ∧
      ((entryOf Tests.answered).items =
         [EnvItem.done { ep := 1, tag := 63, seq := 4, op := TxnOp.rd, status := 0, data := [7, 8] }])) ∧
    -- libraryReplyTimeout
     ((librarian.host.library = [(3999, 6)]) ∧
      (3999 < 4000) ∧
      (3999 ≠ librarian.fab.node) ∧
      (librarian.fab.node ≠ 0) ∧
      (librarian.ringNo < 16) ∧
      (RingsUp librarian)) := by
  and_intros <;> decide +kernel

theorem test_qspi_frames_witness :
    -- qspiWrite
     ((qspiOn hosting = true) ∧
      ((3 : Fin (4 : Nat)) ≠ (0 : Fin (4 : Nat))) ∧
      ((Instr.qspiWrite 6145 4227068 [7, 8] (crcByte [6145, 64, 32764, 7, 8]) 3 0, 1) ∈
         [(Instr.qspiWrite 6145 4227068 [7, 8] (crcByte [6145, 64, 32764, 7, 8]) 3 0, 1),
           (Instr.qspiRead 6145 4227068 true 3 0, 2), (Instr.qspiSubmit 6145 [7, 8] (crcByte [6145, 64, 32764, 7, 8]) 3 0, 3),
           (Instr.qspiFetch 6145 true 3 0, 4)]) ∧
      (1 = 1)) ∧
    -- qspiRead
     ((qspiOn qspiStrict = true) ∧
      (bitOf 8192 11 = false) ∧
      (qspiStrict.bit HST_QS_CFG 13 = true) ∧
      ((Instr.qspiRead 8192 4227068 true 0 0, 2) ∈
         [(Instr.qspiWrite 8192 4227068 [7, 8] (crcByte [6145, 64, 32764, 7, 8]) 0 0, 1),
           (Instr.qspiRead 8192 4227068 true 0 0, 2), (Instr.qspiSubmit 8192 [7, 8] (crcByte [6145, 64, 32764, 7, 8]) 0 0, 3),
           (Instr.qspiFetch 8192 true 0 0, 4)]) ∧
      (2 = 2)) ∧
    -- qspiWrite
     ((qspiOn hosting = true) ∧
      (hubArmed hosting Src.qspiReject = none) ∧
      (1 = 1) ∧
      (bitOf 6145 11 = true) ∧
      (¬BitVec.toNat (crcByte (14340 :: readItem)) = crcWords 8 7 255 [6145, 64, 32764, 7, 8])) ∧
    -- qspiSubmit
     ((qspiOn hosting = true) ∧
      (hubArmed hosting Src.qspiReject = none) ∧
      (3 = 3) ∧
      (bitOf 14340 11 = true) ∧
      (¬BitVec.toNat (crcByte [6145, 64, 32764, 7, 8]) = crcWords 8 7 255 [14340, 7, 8])) ∧
    -- qspiWrite
     ((qspiOn hosting = true) ∧
      (hubArmed hosting Src.qspiReject = none) ∧
      (1 = 1) ∧
      (0 = 0 ∧ 4227068 % 2 = 0 ∧ (bitOf 6145 11 = true ∨ hosting.bit HST_QS_CFG 13 = false)) ∧
      (bitOf 6145 11 = true → BitVec.toNat (crcByte [6145, 64, 32764, 7, 8]) = crcWords 8 7 255 [6145, 64, 32764, 7, 8]) ∧
      (hosting.brg.lock = none) ∧
      (4194304 ≤ 4227068) ∧
      (4227072 ≤ 4227072) ∧
      (∀ i < 2, pubRefuses hosting (32764 / 2 + i) = false ∧ isHealth hosting (32764 / 2 + i) = false)) ∧
    -- qspiSubmit
     ((qspiOn qspiPressed = true) ∧
      (hubArmed qspiPressed Src.qspiReject = none) ∧
      (3 = 3) ∧
      (0 = 0) ∧
      (bitOf 14340 11 = true ∨ qspiPressed.bit HST_QS_CFG 13 = false) ∧
      (bitOf 14340 11 = true → BitVec.toNat (crcByte (14340 :: readItem)) = crcWords 8 7 255 (14340 :: readItem)) ∧
      (qspiFull (qspiPressed.at 0) = true)) ∧
    -- qspiSubmit
     ((qspiOn hosting = true) ∧
      (hubArmed hosting Src.qspiReject = none) ∧
      (3 = 3) ∧
      (0 = 0) ∧
      (bitOf 14340 11 = true ∨ hosting.bit HST_QS_CFG 13 = false) ∧
      (bitOf 14340 11 = true → BitVec.toNat (crcByte (14340 :: readItem)) = crcWords 8 7 255 (14340 :: readItem)) ∧
      (qspiFull (hosting.at 0) = false) ∧
      (descriptorLen (List.take 5 readItem) = some (List.take 5 readItem).length) ∧
      (judge hosting (parseDescriptor 0 (List.take 5 readItem)) = none) ∧
      ((parseDescriptor 0 (List.take 5 readItem)).op.posted = false) ∧
      ((parseDescriptor 0 (List.take 5 readItem)).op ≠ TxnOp.gwr) ∧
      ((parseDescriptor 0 (List.take 5 readItem)).op ≠ TxnOp.range) ∧
      (freeTag hosting 0 = some 0) ∧
      (mustHold (hosting.at 0) 0 (parseDescriptor 0 (List.take 5 readItem)) = false) ∧
      (RingsUp hosting) ∧
      ((parseDescriptor 0 (List.take 5 readItem)).dring = hosting.ringNo) ∧
      ((parseDescriptor 0 (List.take 5 readItem)).dnode < 4000) ∧
      (hosting.ringNo < 16) ∧
      ((parseDescriptor 0 (List.take 5 readItem)).dnode ≠ hosting.fab.node)) ∧
    -- qspiRead
     ((qspiOn hosting = true) ∧
      (2 = 2) ∧
      (0 = 0 ∧ 8912892 % 2 = 0 ∧ (bitOf 10241 11 = true ∨ hosting.bit HST_QS_CFG 13 = false)) ∧
      (hosting.brg.lock = none) ∧
      (8388608 ≤ 8912892) ∧
      (8912896 ≤ 8912896)) ∧
    -- qspiRead
     ((qspiOn hosting = true) ∧
      (2 = 2) ∧
      (bitOf 10241 11 = true ∨ hosting.bit HST_QS_CFG 13 = false)) ∧
    -- qspiRead
     ((qspiOn hosting = true) ∧
      (2 = 2) ∧
      (bitOf 10241 11 = true ∨ hosting.bit HST_QS_CFG 13 = false) ∧
      (4227069 % 2 = 1)) ∧
    -- qspiFetch
     ((qspiOn hosting = true) ∧
      (4 = 4) ∧
      (bitOf 18495 11 = true ∨ hosting.bit HST_QS_CFG 13 = false) ∧
      (0 = 0)) := by
  and_intros <;> decide +kernel

theorem test_intermission_witness :
    -- intmEnter
     ((prompter.prompting = true) ∧
      (prompter.cue.scene.target = none) ∧
      (prompter.host.intm = IntmPhase.running)) ∧
    -- intmEnter
     (node.prompting = false ∨ node.cue.scene.target ≠ none ∨ node.host.intm ≠ IntmPhase.running) ∧
    -- intmResume
     (((resting 0).prompting = true) ∧
      ((resting 0).host.intm = IntmPhase.inside)) ∧
    -- wakeReceive
     (((resting 0).prompting = true) ∧
      ((resting 0).host.intm = IntmPhase.inside)) ∧
    -- intmResume
     (node.prompting = false ∨ node.host.intm ≠ IntmPhase.inside) ∧
    -- intmWake
     (((resting 0).host.intm = IntmPhase.inside) ∧
      ((resting 0).bit HST_WAKE_EN 1 = true)) ∧
    -- wakeSequenceSend
     (((resting 0).host.intm = IntmPhase.inside) ∧
      (5 ∈ (resting 0).host.reasons) ∧
      (eventOpen ((resting 0).at 0) Ring.a = true) ∧
      (((resting 0).stream Ring.a).frame = none) ∧
      ((inserter (resting 0)).isSome = true) ∧
      (guardShut (resting 0) = false)) ∧
    -- wakeReceive
     (node.host.wake.length < 16) ∧
    -- wakeReceive
     (16 ≤ (resting 16).host.wake.length) ∧
    -- wakeLogPop
     (((resting 15).lockedOut Path.qspi = false) ∧
      (quiet (resting 15) Path.qspi = false) ∧
      ((resting 15).host.wake =
         [{ ring := false, reason := 1, cycle := 5 }, { ring := false, reason := 1, cycle := 5 },
           { ring := false, reason := 1, cycle := 5 }, { ring := false, reason := 1, cycle := 5 },
           { ring := false, reason := 1, cycle := 5 }, { ring := false, reason := 1, cycle := 5 },
           { ring := false, reason := 1, cycle := 5 }, { ring := false, reason := 1, cycle := 5 },
           { ring := false, reason := 1, cycle := 5 }, { ring := false, reason := 1, cycle := 5 },
           { ring := false, reason := 1, cycle := 5 }, { ring := false, reason := 1, cycle := 5 },
           { ring := false, reason := 1, cycle := 5 }, { ring := false, reason := 1, cycle := 5 },
           { ring := false, reason := 1, cycle := 5 }])) ∧
    -- wakeLogPop
     ((node.lockedOut Path.qspi = false) ∧
      (quiet node Path.qspi = false) ∧
      (node.host.wake = [])) ∧
    -- wakeLogPop
     (((resting 15).lockedOut Path.debugPort = false) ∧
      (quiet (resting 15) Path.debugPort = true) ∧
      ((resting 15).host.wake =
         [{ ring := false, reason := 1, cycle := 5 }, { ring := false, reason := 1, cycle := 5 },
           { ring := false, reason := 1, cycle := 5 }, { ring := false, reason := 1, cycle := 5 },
           { ring := false, reason := 1, cycle := 5 }, { ring := false, reason := 1, cycle := 5 },
           { ring := false, reason := 1, cycle := 5 }, { ring := false, reason := 1, cycle := 5 },
           { ring := false, reason := 1, cycle := 5 }, { ring := false, reason := 1, cycle := 5 },
           { ring := false, reason := 1, cycle := 5 }, { ring := false, reason := 1, cycle := 5 },
           { ring := false, reason := 1, cycle := 5 }, { ring := false, reason := 1, cycle := 5 },
           { ring := false, reason := 1, cycle := 5 }])) := by
  and_intros <;> decide +kernel

theorem test_registers_written_witness :
    -- registerWrite
     ((locked.lockedOut Path.qspi = true) ∧
      (regRow? 12322 = some (rowAt 12322)) ∧
      ((rowAt 12322).guarded = false)) ∧
    -- registerWrite
     (((node.lockedOut Path.qspi = false) ∧
       (regRow? 12322 = some (rowAt 12322)) ∧
       ((rowAt 12322).guarded = false) ∧
       (Unarmed node Path.qspi) ∧
       (selOf node Path.qspi 12322 (rowAt 12322).sel = some 0) ∧
       ((rowAt 12322).sel ≠ SelKind.core) ∧
       (inert 12322 = true) ∧
       (closingReg 12322 = false)) ∧
      (Open node 12322 (rowAt 12322).persistent)) ∧
    -- registerWrite
     (((linkDown []).lockedOut Path.qspi = false) ∧
      (regRow? 88070 = some (rowAt 88070)) ∧
      ((rowAt 88070).guarded = false) ∧
      (Unarmed (linkDown []) Path.qspi) ∧
      (powerReg 88070 = true) ∧
      ((linkDown []).power.link = false)) ∧
    -- registerWrite
     (((curtainAt 1).lockedOut Path.qspi = false) ∧
      (regRow? 12322 = some (rowAt 12322)) ∧
      ((rowAt 12322).guarded = false) ∧
      (Unarmed (curtainAt 1) Path.qspi) ∧
      (selOf (curtainAt 1) Path.qspi 12322 (rowAt 12322).sel = some 0) ∧
      ((rowAt 12322).persistent = true) ∧
      (powerReg 12322 = true → (curtainAt 1).power.link = true) ∧
      ((curtainAt 1).power.cfStep ≠ 0)) ∧
    -- registerWrite
     (((journal (some (dupWindow 7, false)) [] []).lockedOut Path.qspi = false) ∧
      (regRow? 12322 = some (rowAt 12322)) ∧
      ((rowAt 12322).guarded = false) ∧
      (Unarmed (journal (some (dupWindow 7, false)) [] []) Path.qspi) ∧
      (selOf (journal (some (dupWindow 7, false)) [] []) Path.qspi 12322 (rowAt 12322).sel = some 0) ∧
      ((rowAt 12322).persistent = true) ∧
      (powerReg 12322 = true → (journal (some (dupWindow 7, false)) [] []).power.link = true) ∧
      ((journal (some (dupWindow 7, false)) [] []).power.cfStep = 0) ∧
      (jrnBusy (journal (some (dupWindow 7, false)) [] []) = true) ∧
      (inert 12322 = true)) ∧
    -- registerWrite
     (((armedHub BRG_DUP_WIN 7).lockedOut Path.qspi = false) ∧
      (regRow? 12322 = some (rowAt 12322)) ∧
      ((rowAt 12322).guarded = false) ∧
      (armed (armedHub BRG_DUP_WIN 7) Path.qspi (decide (65536 ≤ 12322)) = some { addr := 7176, value := 7, at_ := 0 }) ∧
      (decide (65536 ≤ 12322) = true → armed (armedHub BRG_DUP_WIN 7) Path.qspi false = none) ∧
      (inert 12322 = true) ∧
      (max (armedHub BRG_DUP_WIN 7).now 0 ≤ 3276800000) ∧
      (12322 ∉ [HUB_GW_FAIL, HUB_GW_STAT, HUB_GW_LAST]) ∧
      ((rowAt 12322).sel ≠ SelKind.core)) ∧
    -- registerWrite
     ((node.lockedOut Path.qspi = false) ∧
      (regRow? 90366 = none) ∧
      (twinOf 90366 = none) ∧
      (Unarmed node Path.qspi) ∧
      (powerReg 90366 = true → node.power.link = true)) ∧
    -- guardedValueWrite
     ((node.lockedOut Path.qspi = false) ∧
      (regRow? 7176 = some (rowAt BRG_DUP_WIN)) ∧
      ((rowAt BRG_DUP_WIN).guarded = true) ∧
      (Unarmed node Path.qspi)) ∧
    -- guardedValueWrite
     ((node.lockedOut Path.qspi = false) ∧
      (regRow? 7176 = some (rowAt BRG_DUP_WIN)) ∧
      ((rowAt BRG_DUP_WIN).guarded = true) ∧
      (Unarmed node Path.qspi)) ∧
    -- twinWrite
     ((node.lockedOut Path.qspi = false) ∧
      (twinOf 7304 = some 7176) ∧
      (Unarmed node Path.qspi)) ∧
    -- twinWrite
     ((((armedHub BRG_DUP_WIN 7).lockedOut Path.qspi = false) ∧
       (twinOf 7304 = some 7176) ∧
       (armed (armedHub BRG_DUP_WIN 7) Path.qspi (decide (65536 ≤ 7304)) = some { addr := 7176, value := 7, at_ := 0 }) ∧
       (decide (65536 ≤ 7304) = true → armed (armedHub BRG_DUP_WIN 7) Path.qspi false = none) ∧
       (max (armedHub BRG_DUP_WIN 7).now 0 ≤ 3276800000) ∧
       (7176 = 7176) ∧
       ((65528 : Word) = (65528 : Word)) ∧
       (regRow? 7176 = some (rowAt BRG_DUP_WIN)) ∧
       (selOf (armedHub BRG_DUP_WIN 7) Path.qspi 7176 (rowAt BRG_DUP_WIN).sel = some 0) ∧
       ((rowAt BRG_DUP_WIN).sel ≠ SelKind.core) ∧
       (inert 7176 = true) ∧
       (closingReg 7176 = false) ∧
       (thresholdRefused (armedHub BRG_DUP_WIN 7) 7176 7 = false ∨ (rowAt BRG_DUP_WIN).persistent = false)) ∧
      (Open (armedHub BRG_DUP_WIN 7) 7176 (rowAt BRG_DUP_WIN).persistent)) ∧
    -- twinWrite
     ((((armedField PWR_VFAIL 2000).lockedOut Path.qspi = false) ∧
       (twinOf 88212 = some 88084) ∧
       (armed (armedField PWR_VFAIL 2000) Path.qspi (decide (65536 ≤ 88212)) = some { addr := 88084, value := 2000, at_ := 0 }) ∧
       (decide (65536 ≤ 88212) = true → armed (armedField PWR_VFAIL 2000) Path.qspi false = none) ∧
       (max (armedField PWR_VFAIL 2000).now 0 ≤ 3276800000) ∧
       (88084 = 88084) ∧
       ((63535 : Word) = (63535 : Word)) ∧
       (regRow? 88084 = some (rowAt PWR_VFAIL)) ∧
       (selOf (armedField PWR_VFAIL 2000) Path.qspi 88084 (rowAt PWR_VFAIL).sel = some 0) ∧
       ((rowAt PWR_VFAIL).sel ≠ SelKind.core) ∧
       ((rowAt PWR_VFAIL).persistent = true) ∧
       (88084 = PWR_VFAIL ∧ BitVec.toNat ((armedField PWR_VFAIL 2000).reg PWR_VGOOD) < 2100 ∨
          88084 = PWR_VGOOD ∧
              (2000 < BitVec.toNat ((armedField PWR_VFAIL 2000).reg PWR_VFAIL) + 100 ∨
                BitVec.toNat ((armedField PWR_VFAIL 2000).reg PWR_VOVP) < 2200) ∨
            88084 = PWR_VOVP ∧ 2000 < BitVec.toNat ((armedField PWR_VFAIL 2000).reg PWR_VGOOD) + 200)) ∧
      (Open (armedField PWR_VFAIL 2000) 88084 (rowAt PWR_VFAIL).persistent)) ∧
    -- twinWrite
     (((armedHub BRG_DUP_WIN 7).lockedOut Path.qspi = false) ∧
      (twinOf 7304 = some 7176) ∧
      (armed (armedHub BRG_DUP_WIN 7) Path.qspi (decide (65536 ≤ 7304)) = some { addr := 7176, value := 7, at_ := 0 }) ∧
      (decide (65536 ≤ 7304) = true → armed (armedHub BRG_DUP_WIN 7) Path.qspi false = none) ∧
      (max (armedHub BRG_DUP_WIN 7).now 0 ≤ 3276800000) ∧
      (7176 = 7176) ∧
      ((63535 : Word) ≠ (65528 : Word))) ∧
    -- twinWrite
     (((armedHub BRG_DUP_WIN 7).lockedOut Path.qspi = false) ∧
      (twinOf 7304 = some 7176) ∧
      (armed (armedHub BRG_DUP_WIN 7) Path.qspi (decide (65536 ≤ 7304)) = some { addr := 7176, value := 7, at_ := 0 }) ∧
      (decide (65536 ≤ 7304) = true → armed (armedHub BRG_DUP_WIN 7) Path.qspi false = none) ∧
      (max (armedHub BRG_DUP_WIN 7).now 0 ≤ 3276800000) ∧
      (7176 = 7176)) ∧
    -- twinWrite
     (((armedHub BRG_CTRL 7).lockedOut Path.qspi = false) ∧
      (twinOf 7304 = some 7176) ∧
      (armed (armedHub BRG_CTRL 7) Path.qspi (decide (65536 ≤ 7304)) = some { addr := 7168, value := 7, at_ := 0 }) ∧
      (decide (65536 ≤ 7304) = true → armed (armedHub BRG_CTRL 7) Path.qspi false = none) ∧
      (max (armedHub BRG_CTRL 7).now 0 ≤ 3276800000) ∧
      (7168 ≠ 7176)) ∧
    -- guardLate
     ((armed (armedHub BRG_DUP_WIN 7) Path.qspi false = some { addr := 7176, value := 7, at_ := 0 }) ∧
      (3276800000 < max (armedHub BRG_DUP_WIN 7).now 3276800001)) ∧
    -- guardLate
     ((armed (armedHub BRG_DUP_WIN 7) Path.qspi false = some { addr := 7176, value := 7, at_ := 0 }) ∧
      (max (armedHub BRG_DUP_WIN 7).now 0 ≤ 3276800000)) ∧
    -- parityScrub
     ((node.fieldInj = none) ∧
      (hubArmed node Src.hubParity = none)) ∧
    -- parityScrub
     ((node.fieldInj = none) ∧
      (hubArmed node Src.hubParity = none) ∧
      (hasParity 7176 = true) ∧
      (closingReg 7176 = false) ∧
      (7176 ∉ [HUB_PAR_ERR, HUB_PAR_LAST])) := by
  and_intros <;> first | decide +kernel | (constructor <;> decide +kernel)

theorem test_resets_witness :
    -- resetNAssert
     (node.start.hostReset = false) ∧
    -- resetNAssert
     (inReset.start.hostReset = true) ∧
    -- resetRelease
     (inReset.start.fieldReset = true) ∧
    -- warm
     ((node.power.cfStep = 0) ∧
      (node.start.warm = false) ∧
      (node.start.hostReset = false) ∧
      (jrnBusy node = false)) ∧
    -- warm
     (inReset.power.cfStep ≠ 0 ∨ inReset.start.warm = true ∨ inReset.start.hostReset = true) ∧
    -- fieldSideReset
     ((node.start.hostReset = false) ∧
      (node.start.fieldReset = false)) := by
  and_intros <;> decide +kernel

theorem test_debug_ports_witness :
    -- lread
     (((tapped true 8192).dbg.tap = TapInstr.dap) ∧
      ((tapped true 8192).dbg.dapBusy = true) ∧
      (Instr.lread 8912894 0 ∈
         [Instr.lread 8912894 0, Instr.lwrite 8912894 65535 0, Instr.gread 17175578411008 0,
           Instr.gwrite 17175578411008 65535 0])) ∧
    -- lwrite
     (((tapped false 8192).dbg.tap = TapInstr.dap) ∧
      ((tapped false 8192).dbg.dapBusy = false) ∧
      ((tapped false 8192).bit DBG_CTRL 14 = false)) ∧
    -- gwrite
     (((tapped false 8192).dbg.tap = TapInstr.dap) ∧
      ((tapped false 8192).dbg.dapBusy = false) ∧
      ((tapped false 8192).bit DBG_CTRL 14 = false)) ∧
    -- lread
     (((tapped false 8192).dbg.tap = TapInstr.dap) ∧
      ((tapped false 8192).dbg.dapBusy = false) ∧
      (8912895 % 2 = 1)) ∧
    -- lread
     (((tapped false 8192).dbg.tap = TapInstr.dap) ∧
      ((tapped false 8192).dbg.dapBusy = false) ∧
      (8912894 % 2 = 0) ∧
      (8388608 ≤ 8912894) ∧
      (8912894 < 8912896)) ∧
    -- lread
     (((tapped false 8192).dbg.tap = TapInstr.dap) ∧
      ((tapped false 8192).dbg.dapBusy = false) ∧
      (4294967294 % 2 = 0) ∧
      (localPlace 4294967294 = LocalPlace.unmapped)) ∧
    -- lread
     (((tapped false 8192).dbg.tap = TapInstr.dap) ∧
      ((tapped false 8192).dbg.dapBusy = false) ∧
      (1245182 % 2 = 0) ∧
      (1048576 ≤ 1245182) ∧
      (1245182 < 1245184)) ∧
    -- lwrite
     (((tapped false 24576).dbg.tap = TapInstr.dap) ∧
      ((tapped false 24576).dbg.dapBusy = false) ∧
      (4227070 % 2 = 0) ∧
      ((tapped false 24576).bit DBG_CTRL 14 = true) ∧
      (4194304 ≤ 4227070) ∧
      (4227070 < 4227072) ∧
      (pubRefuses (tapped false 24576) (32766 / 2) = false) ∧
      (isHealth (tapped false 24576) (32766 / 2) = false)) ∧
    -- match
     (((tapped false 8192).dbg.tap = TapInstr.dap) ∧
      ((tapped false 8192).dbg.dapBusy = false) ∧
      (judge (tapped false (8192 : Word))
           { ep := (4 : Nat), op := if (none : Option Word).isSome = true then TxnOp.wr else TxnOp.rd, dring := (0 : Nat), dnode := (3999 : Nat),
             count := (0 : Nat), burst := false, len := (0 : Nat), cg := false, cell := (0 : Nat), addr := (4194304 : Nat),
             set := (0 : Nat), cycle := (0 : DWord), data := (none : Option Word).toList : Descriptor } =
         none) ∧
      (freeTag (tapped false 8192) 4 = some 0) ∧
      (mustHold ((tapped false (8192 : Word)).at (0 : Nat)) (4 : Fin (32 : Nat))
           { ep := (4 : Nat), op := if (none : Option Word).isSome = true then TxnOp.wr else TxnOp.rd, dring := (0 : Nat), dnode := (3999 : Nat),
             count := (0 : Nat), burst := false, len := (0 : Nat), cg := false, cell := (0 : Nat), addr := (4194304 : Nat),
             set := (0 : Nat), cycle := (0 : DWord), data := (none : Option Word).toList : Descriptor } =
         false) ∧
      (RingsUp (tapped false 8192)) ∧
      (0 = (tapped false 8192).ringNo) ∧
      (3999 < 4000) ∧
      (3999 ≠ (tapped false 8192).fab.node) ∧
      ((none : Option Word).isSome = true → (tapped false (8192 : Word)).bit DBG_CTRL (14 : Nat) = true)) ∧
    -- dapTimeout
     ((tapped true 8192).dbg.dapBusy = true) ∧
    -- extest
     ((Instr.extest (List.replicate 145 true) 0, TapInstr.extest) ∈
         [(Instr.extest (List.replicate 145 true) 0, TapInstr.extest), (Instr.highz 0, TapInstr.highz),
           (Instr.clamp 0, TapInstr.clamp), (Instr.fextest (List.replicate 145 true) 0, TapInstr.fextest),
           (Instr.samplePreload (List.replicate 145 true) 0, TapInstr.sample),
           (Instr.fsample (List.replicate 145 true) 0, TapInstr.fsample), (Instr.idcode 0, TapInstr.idcode),
           (Instr.dap 0, TapInstr.dap), (Instr.bypass 0, TapInstr.bypass), (Instr.tapReset 0, TapInstr.idcode)]) ∧
    -- extest
     (Instr.extest (List.replicate 145 true) 0 ∈
         [Instr.extest (List.replicate 145 true) 0, Instr.samplePreload (List.replicate 145 true) 0]) ∧
    -- extest
     (node.bit DBG_CTRL 13 = true) ∧
    -- highz
     (node.bit DBG_CTRL 13 = true) ∧
    -- clamp
     (node.bit DBG_CTRL 13 = true) ∧
    -- fsample
     (Instr.fsample (List.replicate 145 true) 0 ∈
         [Instr.fsample (List.replicate 145 true) 0, Instr.fextest (List.replicate 145 true) 0]) := by
  and_intros <;> decide +kernel

theorem test_engines_debugged_witness :
    -- dbgHalt
     (((node.eng 0 0).run = RunState.running) ∧
      (holdsLock node 0 0 = false) ∧
      ((node.eng 0 0).stall = none) ∧
      (migStopped node 0 0 = false) ∧
      (Instr.dbgHalt 0 0 0 ∈ [Instr.dbgHalt 0 0 0, Instr.dbgForce 0 0 0])) ∧
    -- dbgHalt
     ((((lockHeld 0 0).eng 0 0).run = RunState.running) ∧
      (holdsLock (lockHeld 0 0) 0 0 = true ∨
         ((lockHeld 0 0).eng 0 0).stall.isSome = true ∨ migStopped (lockHeld 0 0) 0 0 = true)) ∧
    -- dbgForce
     ((((lockHeld 0 0).eng 0 0).run = RunState.running) ∧
      (holdsLock (lockHeld 0 0) 0 0 = true) ∧
      (((lockHeld 0 0).eng 0 0).stall = none) ∧
      (migStopped (lockHeld 0 0) 0 0 = false)) ∧
    -- dbgHalt
     (((node.eng 0 13).run ≠ RunState.running) ∧
      (Instr.dbgHalt 0 13 0 ∈ [Instr.dbgHalt 0 13 0, Instr.dbgForce 0 13 0])) ∧
    -- dbgResume
     (((halted none).eng 0 0).run = RunState.halted) ∧
    -- dbgStep
     ((((halted (some EngOp.nop)).eng 0 0).run = RunState.halted) ∧
      (((halted (some EngOp.nop)).eng 0 0).dark.isSome = true ∨ ((halted (some EngOp.nop)).eng 0 0).stall.isSome = true)) ∧
    -- dbgStep
     ((((halted none).eng 0 0).run = RunState.halted) ∧
      (((halted none).eng 0 0).phys = some 0) ∧
      (((halted none).eng 0 0).dark = none) ∧
      (((halted none).eng 0 0).stall = none) ∧
      (((halted none).eng 0 0).intm = false) ∧
      (((halted none).eng 0 0).wdTrap = false) ∧
      (migStopped (halted none) 0 0 = false) ∧
      (holdsLock (halted none) 0 0 = false) ∧
      (eccArmed (halted none) 0 = false) ∧
      ((halted none).marked (codeBase 0 0 + 2 * ((halted none).eng 0 0).pc.toNat) = false) ∧
      ((halted none).word (codeBase 0 0 + 2 * ((halted none).eng 0 0).pc.toNat) = 0)) ∧
    -- dbgResume
     (((node.eng 0 13).run ≠ RunState.halted) ∧
      (Instr.dbgResume 0 13 0 ∈ [Instr.dbgResume 0 13 0, Instr.dbgStep 0 13 0])) ∧
    -- dbgEngReg
     (((halted none).lockedOut Path.qspi = false) ∧
      (dbgEngine (halted none) Path.qspi = some (0, 0)) ∧
      (((halted none).eng 0 0).run = RunState.halted) ∧
      (fld ((halted none).regSel DBG_ENG_REGSEL Path.qspi.code) 4 0 = 0)) ∧
    -- dbgEngReg
     (((regSelected 16).lockedOut Path.qspi = false) ∧
      (dbgEngine (regSelected 16) Path.qspi = some (0, 0)) ∧
      (((regSelected 16).eng 0 0).run = RunState.halted) ∧
      (fld ((regSelected 16).regSel DBG_ENG_REGSEL Path.qspi.code) 4 0 = 16)) ∧
    -- dbgEngReg
     (((regSelected 17).lockedOut Path.qspi = false) ∧
      (dbgEngine (regSelected 17) Path.qspi = some (0, 0)) ∧
      (((regSelected 17).eng 0 0).run = RunState.halted) ∧
      (fld ((regSelected 17).regSel DBG_ENG_REGSEL Path.qspi.code) 4 0 = 17)) ∧
    -- dbgEngReg
     (((regSelected 18).lockedOut Path.qspi = false) ∧
      (dbgEngine (regSelected 18) Path.qspi = some (0, 0)) ∧
      (((regSelected 18).eng 0 0).run = RunState.halted) ∧
      (fld ((regSelected 18).regSel DBG_ENG_REGSEL Path.qspi.code) 4 0 = 18)) ∧
    -- dbgEngReg
     ((dbgEngine node Path.qspi = some (0, 0)) ∧
      ((node.eng 0 0).run ≠ RunState.halted)) ∧
    -- dbgTrcPop
     ((traced.lockedOut Path.qspi = false) ∧
      (trcSel traced Path.qspi = some 13) ∧
      ((vget traced.traces 13).entries = [{ kind := 19, src := 0, detail := 0, dom := false, time := 8192000000000000 }]) ∧
      (quiet traced Path.qspi = false)) ∧
    -- dbgTrcPop
     ((traced.lockedOut Path.debugPort = false) ∧
      (trcSel traced Path.debugPort = some 13) ∧
      ((vget traced.traces 13).entries = [{ kind := 19, src := 0, detail := 0, dom := false, time := 8192000000000000 }]) ∧
      (quiet traced Path.debugPort = true)) := by
  and_intros <;> decide +kernel

theorem test_ramuth_registers_witness :
    -- cmpRCommit
     (ramuth.cmp.inpub.isSome = true) ∧
    -- cmpROutWrite
     (ramuth.cmp.inpub.isSome = true) ∧
    -- cmpRIn0Read
     ((ramuth.cmp.inpub.isSome = true) ∧
      (ramuth.lockedOut Path.qspi = false) ∧
      (viewBlank ramuth Path.qspi = false)) ∧
    -- cmpRCommit
     ((node.cmp.inpub = none) ∧
      (node.lockedOut Path.qspi = false) ∧
      (Instr.cmpRCommit 0 ∈ [Instr.cmpRCommit 0, Instr.cmpROutWrite 5 65535 0, Instr.cmpRIn0Read Path.qspi 0])) ∧
    -- cmpRStatusRead
     ((node.lockedOut Path.qspi = false) ∧
      (quiet node Path.qspi = false) ∧
      (viewBlank node Path.qspi = false)) ∧
    -- cmpRStatusRead
     ((node.lockedOut Path.debugPort = false) ∧
      (quiet node Path.debugPort = true ∨ viewBlank node Path.debugPort = true)) := by
  and_intros <;> decide +kernel

end Sys2Proof.Tests
end

section
/-! SUPPORT. What the scheduler's operations on clusters, memory, event registers and trace buffers do (R240, R264-R269, R516), and the
obligation about migrations. -/

namespace Sys2Proof.Machine

/-! Registers: what a counter and an event register read after they are written. -/

/-- A counter's own copy counts once; the twin of R394 stands at another selector. -/
theorem reg_bump_self (s : State) (a : Nat) : (s.bump a).reg a = bumpW (s.reg a) 1 := by
  have counted : (s.setRegSel a 0 (bumpW (s.regSel a 0) 1)).regSel a 0 = bumpW (s.reg a) 1 := by
    rw [regSel_setRegSel, if_pos rfl]; rfl
  rw [State.bump, State.countSel, State.countTwin]
  split
  · have twin : regKey a 0 ≠ regKey a (0 + twinSel .c1) := by simp [regKey, twinSel]
    exact (sparseGet_set_ne regDefault _ _ twin).trans counted
  · exact counted

theorem reg_evt_bit (s : State) (a i : Nat) (hi : i < 16) : ((s.evt a i).reg a).getLsbD i = true := by
  have set : (s.evt a i).reg a = s.reg a ||| bitW true i := by
    rw [State.evt, State.setReg, State.reg, regSel_setRegSel, if_pos rfl]
  have one : (bitW true i).getLsbD i = true := by
    simp only [bitW, b2n, wd, if_true, BitVec.getLsbD_ofNat, hi, decide_true, Bool.true_and, Nat.testBit_shiftLeft]
    simp
  rw [set, BitVec.getLsbD_or, one, Bool.or_true]

theorem reg_evt_ne (s : State) {a b : Nat} (i : Nat) (h : b ≠ a) : (s.evt a i).reg b = s.reg b :=
  regSel_evt s a i b 0 (by decide) h

theorem reg_bump_ne (s : State) {a b : Nat} (h : b ≠ a) : (s.bump a).reg b = s.reg b := regSel_bump s a b 0 (by decide) h

theorem reg_congr {s t : State} (h : t.regs = s.regs) (a : Nat) : t.reg a = s.reg a := regSel_congr h a 0

/-- The closing part writes no register of the clusters. -/
theorem closingReg_clu (n : Fin 12) :
    closingReg (CLU_EVT n.val) = false ∧ closingReg (CLU_MIGS n.val) = false ∧ closingReg (CLU_FORCED n.val) = false := by
  revert n; decide

theorem reg_settle_of_not_closing (s : State) (a : Nat) (h : closingReg a = false) : (settle s).reg a = s.reg a :=
  regSel_settle s a 0 (by decide) h

/-! Memory: one word and a run of words copied from one place to another (R267). -/

theorem settle_word (s : State) (a : Nat) : (settle s).word a = s.word a := by
  rw [State.word, State.word, settle_byte, settle_byte]

theorem byte_congr {s t : State} (h : t.mem = s.mem) (a : Nat) : t.byte a = s.byte a := by
  unfold State.byte; rw [h]

theorem word_congr {s t : State} (h : t.mem = s.mem) (a : Nat) : t.word a = s.word a := by
  rw [State.word, State.word, byte_congr h, byte_congr h]

theorem word_setWord_self (s : State) (a : Nat) (v : Word) : (s.setWord a v).word a = v := by
  have halves : v.extractLsb' 8 8 ++ v.extractLsb' 0 8 = v := by
    apply BitVec.eq_of_getLsbD_eq
    intro i hi
    rw [BitVec.getLsbD_append]
    by_cases low : i < 8
    · simp [low]
    · simp [low, show i - 8 < 8 by omega, show 8 + (i - 8) = i by omega]
  simp [State.word, State.setWord, byte_setByte, halves]

theorem word_setWord_apart (s : State) (a b : Nat) (v : Word) (h : b + 1 < a ∨ a + 1 < b) :
    (s.setWord a v).word b = s.word b := by
  have h1 : b ≠ a := by omega
  have h2 : b ≠ a + 1 := by omega
  have h3 : b + 1 ≠ a := by omega
  have h4 : b + 1 ≠ a + 1 := by omega
  simp only [State.word, State.setWord, byte_setByte, h1, h2, h3, h4, if_false]

/-- A copied word changes the memory and the marks alone. -/
theorem copyWord_eq (s : State) (src dst : Nat) :
    s.copyWord src dst = { s.setWord dst (s.word src) with marks := (s.copyWord src dst).marks } := by
  unfold State.copyWord State.storeWord; dsimp only; split <;> rfl

@[simp] theorem copyWord_mem (s : State) (src dst : Nat) : (s.copyWord src dst).mem = (s.setWord dst (s.word src)).mem := by
  rw [copyWord_eq]
@[simp] theorem copyWord_regs (s : State) (src dst : Nat) : (s.copyWord src dst).regs = s.regs := by rw [copyWord_eq]; rfl
@[simp] theorem copyWord_clusters (s : State) (src dst : Nat) : (s.copyWord src dst).clusters = s.clusters := by rw [copyWord_eq]; rfl

/-- Words copied one by one in the order of their addresses, as a migration copies code and data (R267). -/
def copyRegion (s : State) (src dst words : Nat) : State :=
  (List.range words).foldl (fun s w => s.copyWord (src + 2 * w) (dst + 2 * w)) s

theorem copyRegion_succ (s : State) (src dst k : Nat) :
    copyRegion s src dst (k + 1) = (copyRegion s src dst k).copyWord (src + 2 * k) (dst + 2 * k) := by
  simp [copyRegion, List.range_succ]

@[simp] theorem copyRegion_regs (s : State) (src dst k : Nat) : (copyRegion s src dst k).regs = s.regs :=
  foldl_keeps (fun s : State => s.regs) _ (fun _ _ => copyWord_regs _ _ _) _ s
@[simp] theorem copyRegion_clusters (s : State) (src dst k : Nat) : (copyRegion s src dst k).clusters = s.clusters :=
  foldl_keeps (fun s : State => s.clusters) _ (fun _ _ => copyWord_clusters _ _ _) _ s
@[simp] theorem copyRegion_cl (s : State) (src dst k : Nat) (n : Fin 12) : (copyRegion s src dst k).cl n = s.cl n := by
  simp [State.cl]
@[simp] theorem copyRegion_eng (s : State) (src dst k : Nat) (n : Fin 12) (e : Fin 14) :
    (copyRegion s src dst k).eng n e = s.eng n e := by simp [State.eng]

theorem word_copyRegion_apart (s : State) (src dst k a : Nat) (h : a + 1 < dst ∨ dst + 2 * k ≤ a) :
    (copyRegion s src dst k).word a = s.word a := by
  induction k with
  | zero => rfl
  | succ k ih =>
    rw [copyRegion_succ, word_congr (copyWord_mem _ _ _), word_setWord_apart _ _ _ _ (by omega), ih (by omega)]

/-- Where source and destination lie apart, every word of the source stands in the destination. -/
theorem copied_copyRegion (s : State) (src dst k : Nat) (h : src + 2 * k ≤ dst ∨ dst + 2 * k ≤ src) :
    Copied s (copyRegion s src dst k) src dst k := by
  induction k with
  | zero => intro w hw; omega
  | succ k ih =>
    intro w hw
    rw [copyRegion_succ, word_congr (copyWord_mem _ _ _)]
    by_cases last : w = k
    · subst last
      rw [word_setWord_self, word_copyRegion_apart _ _ _ _ _ (by omega)]
    · rw [word_setWord_apart _ _ _ _ (by omega), ih (by omega) w (by omega)]

/-- Copying works on memory alone, and the closing part leaves it. -/
theorem copied_settle_copyRegion {s x : State} {src dst k : Nat} (hm : x.mem = s.mem)
    (h : src + 2 * k ≤ dst ∨ dst + 2 * k ≤ src) : Copied s (settle (copyRegion x src dst k)) src dst k := by
  intro w hw
  rw [settle_word, copied_copyRegion x src dst k h w hw, word_congr hm]

theorem codeBase_apart (n : Nat) {p q : Fin 16} (h : p ≠ q) :
    codeBase n p.val + 2 * 4096 ≤ codeBase n q.val ∨ codeBase n q.val + 2 * 4096 ≤ codeBase n p.val := by
  have : p.val ≠ q.val := fun e => h (Fin.ext e)
  unfold codeBase; omega

theorem dataBase_apart (n : Nat) {p q : Fin 16} (h : p ≠ q) :
    dataBase n p.val + 2 * 1024 ≤ dataBase n q.val ∨ dataBase n q.val + 2 * 1024 ≤ dataBase n p.val := by
  have : p.val ≠ q.val := fun e => h (Fin.ext e)
  unfold dataBase; omega

/-! Clusters: an update of one, its spares and the next of its rotation. -/

@[simp] theorem cl_updCl_self (s : State) (n : Fin 12) (f : Cluster → Cluster) : (s.updCl n f).cl n = f (s.cl n) := by
  simp [State.cl]

/-- An update of a cluster that leaves its engines leaves each of them. -/
theorem eng_updCl_of_engines {s : State} {n : Fin 12} {f : Cluster → Cluster} (h : (f (s.cl n)).engines = (s.cl n).engines) (e : Fin 14) :
    (s.updCl n f).eng n e = s.eng n e := by
  rw [State.eng, State.eng, cl_updCl_self, h]

theorem boundTo_isSome {c : Cluster} {e : Fin 14} {p : Fin 16} (h : (vget c.engines e).phys = some p) :
    (boundTo c p).isSome = true := by
  rw [boundTo, List.find?_isSome]
  exact ⟨e, List.mem_finRange e, by simpa using h⟩

/-- A spare is not bound, so that it is not the source of a migration (R267). -/
theorem bound_ne_spare {c : Cluster} {e : Fin 14} {p q : Fin 16} (h : (vget c.engines e).phys = some p)
    (hq : spare? c = some q) : p ≠ q := by
  rintro rfl
  have spare : isSpare c p = true := List.find?_some hq
  simp only [isSpare, Bool.and_eq_true, Option.isNone_iff_eq_none] at spare
  obtain ⟨⟨⟨-, unbound⟩, -⟩, -⟩ := spare
  have bound := boundTo_isSome h
  rw [unbound] at bound
  cases bound

/-- A rotation names a logical engine with the physical engine it is bound to (R266). -/
theorem rotationNext_bound {c : Cluster} {p : Fin 16} {e : Fin 14} (h : rotationNext c = some (p, e)) :
    (vget c.engines e).phys = some p := by
  obtain ⟨k, -, hk⟩ := List.exists_of_findSome?_eq_some h
  split at hk
  · cases hk
  · split at hk
    · cases hk
    · rename_i q _ d hd
      split at hk
      · cases hk
      · split at hk
        · cases hk
        · cases hk
          simpa using List.find?_some hd

/-! The beginning of a migration (R266, R267). -/

theorem migTo_eq (s : State) (n : Fin 12) (e : Fin 14) (p q : Fin 16) (c : MigCause) :
    migTo s n e p q c = copyRegion (s.updCl n fun x => { x with mig := some ⟨e, p, q, c, false⟩ })
      (codeBase n.val p.val) (codeBase n.val q.val) 4096 := rfl

/-- With no migration under way and a spare, a migration that HOLDMAP does not hold begins from the engine's physical engine. -/
theorem migBegin_spare {s : State} {n : Fin 12} {e : Fin 14} {p q : Fin 16} {c : MigCause} (hp : (s.eng n e).phys = some p)
    (hm : (s.cl n).mig = none) (hh : s.bit (CLU_CTRL n.val) 14 = false) (hq : spare? (s.cl n) = some q) :
    migBegin s n e c = migTo s n e p q c := by
  have hp' : (vget (s.cl n).engines e).phys = some p := hp
  unfold migBegin
  simp [hp', hm, hh, hq]

/-- What begins does so from a state with the memory and the engine that the command found. -/
theorem migrationBegins_migTo {s x : State} {n : Fin 12} {e : Fin 14} {p q : Fin 16} {c : MigCause} (hm : x.mem = s.mem)
    (he : x.eng n e = s.eng n e) (hpq : p ≠ q) : MigrationBegins s (settle (migTo x n e p q c)) n ⟨e, p, q, c, false⟩ := by
  rw [migTo_eq]
  refine ⟨by simp, rfl, copied_settle_copyRegion hm (codeBase_apart n.val hpq), ?_⟩
  rw [settle_eng, copyRegion_eng, ← he]
  exact eng_updCl_of_engines rfl e

/-- A rotation that is enabled, not held and has a spare migrates the next engine that may rotate. -/
theorem rotate_next {s : State} {n : Fin 12} {p q : Fin 16} {e : Fin 14} (hr : s.bit (CLU_CTRL n.val) 15 = true)
    (hh : s.bit (CLU_CTRL n.val) 14 = false) (ho : (s.cl n).online = true) (hq : spare? (s.cl n) = some q)
    (hn : rotationNext (s.cl n) = some (p, e)) (hm : (s.cl n).mig = none) :
    rotate s n = migTo (s.updCl n fun c => { c with rotated := p.val }) n e p q .rotation := by
  have begins : migBegin (s.updCl n fun c => { c with rotated := p.val }) n e .rotation =
      migTo (s.updCl n fun c => { c with rotated := p.val }) n e p q .rotation :=
    migBegin_spare (by rw [eng_updCl_of_engines rfl]; exact rotationNext_bound hn) (by rw [cl_updCl_self]; exact hm) hh
      (by rw [cl_updCl_self]; exact hq)
  unfold rotate
  simp [hr, hq, hm, ho, hn, begins]

/-- A rotation begins and is remembered, from any state that the command reaches with its memory and engines as they were. -/
theorem migrationBegins_rotate {s x : State} {n : Fin 12} {p q : Fin 16} {e : Fin 14} (hmem : x.mem = s.mem)
    (heng : x.eng n e = s.eng n e) (hr : x.bit (CLU_CTRL n.val) 15 = true) (hh : x.bit (CLU_CTRL n.val) 14 = false)
    (ho : (x.cl n).online = true) (hq : spare? (x.cl n) = some q) (hn : rotationNext (x.cl n) = some (p, e))
    (hm : (x.cl n).mig = none) :
    MigrationBegins s (settle (rotate x n)) n ⟨e, p, q, .rotation, false⟩ ∧ ((settle (rotate x n)).cl n).rotated = p.val := by
  rw [rotate_next hr hh ho hq hn hm]
  constructor
  · refine migrationBegins_migTo hmem ?_ (bound_ne_spare (rotationNext_bound hn) hq)
    rw [← heng]
    exact eng_updCl_of_engines rfl e
  · simp [migTo_eq]

/-! The stop of the source (R267, R269). -/

theorem migStop_eq (s : State) (n : Fin 12) (m : Migration) :
    migStop s n m = copyRegion (s.updCl n fun c => { c with mig := some { m with stopped := true } })
      (dataBase n.val m.from_.val) (dataBase n.val m.target.val) 1024 := rfl

@[simp] theorem migStop_regs (s : State) (n : Fin 12) (m : Migration) : (migStop s n m).regs = s.regs := by simp [migStop_eq]

/-- What follows the stop in the same command, registers apart, leaves the migration and the memory. -/
theorem sourceStops_migStop {s x y : State} {n : Fin 12} {m : Migration} (hx : x.mem = s.mem)
    (hy : y.clusters = (migStop x n m).clusters) (hm : y.mem = (migStop x n m).mem) : SourceStops s (settle y) n m := by
  constructor
  · rw [settle_cl_mig]
    simp [State.cl, hy, migStop_eq]
  · intro apart w hw
    have copied : Copied s (settle (migStop x n m)) (dataBase n.val m.from_.val) (dataBase n.val m.target.val) 1024 := by
      rw [migStop_eq]
      refine copied_settle_copyRegion ?_ (dataBase_apart n.val apart)
      rw [updCl_mem, hx]
    rw [settle_word, word_congr hm, ← settle_word]
    exact copied w hw

/-! Trace buffers and the halts that follow an instruction (R511, R516). -/

/-- What an entry in a trace buffer can come to: the buffers change, and where one runs over, that is counted, shown in DBG_EVT and
reported once. -/
theorem trace_cases (s : State) (i : Fin 14) (k r d : Nat) :
    ∃ buffers, s.trace i k r d = { s with traces := buffers } ∨
      s.trace i k r d = (({ s with traces := buffers }).bump DBG_TRC_LOST).evt DBG_EVT 12 ∨
      s.trace i k r d = ((({ s with traces := buffers }).bump DBG_TRC_LOST).evt DBG_EVT 12).raise Src.traceLost i.val := by
  obtain ⟨x, hx⟩ : ∃ x, s.trace i k r d = x := ⟨_, rfl⟩
  rw [hx]
  unfold State.trace at hx
  extract_lets admitted at hx
  clear_value admitted
  split at hx
  · exact ⟨s.traces, .inl hx.symm⟩
  · split at hx
    · exact ⟨_, .inl hx.symm⟩
    · split at hx
      · exact ⟨_, .inr (.inl hx.symm)⟩
      · exact ⟨_, .inr (.inr hx.symm)⟩

@[simp] theorem trace_mem (s : State) (i : Fin 14) (k r d : Nat) : (s.trace i k r d).mem = s.mem := by
  obtain ⟨b, h | h | h⟩ := trace_cases s i k r d <;> rw [h] <;> simp
@[simp] theorem trace_clusters (s : State) (i : Fin 14) (k r d : Nat) : (s.trace i k r d).clusters = s.clusters := by
  obtain ⟨b, h | h | h⟩ := trace_cases s i k r d <;> rw [h] <;> simp

/-- A register that neither a trace buffer nor a halt writes. -/
def UntracedReg (a : Nat) : Prop := a ≠ DBG_EVT ∧ a ≠ DBG_TRC_LOST

theorem untracedReg_clu (n : Fin 12) : UntracedReg (CLU_EVT n.val) ∧ UntracedReg (CLU_MIGS n.val) := by
  unfold UntracedReg; revert n; decide

theorem reg_trace (s : State) (i : Fin 14) (k r d : Nat) {a : Nat} (h : UntracedReg a) : (s.trace i k r d).reg a = s.reg a := by
  obtain ⟨hevt, hlost⟩ := h
  obtain ⟨b, h | h | h⟩ := trace_cases s i k r d
  · rw [h]; rfl
  · rw [h, reg_evt_ne _ _ hevt, reg_bump_ne _ hlost]; rfl
  · rw [h, reg_congr (raise_regs _ _ _), reg_evt_ne _ _ hevt, reg_bump_ne _ hlost]; rfl

/-- The engine after a halt of the debug port or of a breakpoint (R511, R514). -/
def haltedBy (cause : Nat) (x : Engine) : Engine :=
  { x with run := .halted, haltCause := cause, haltPending := none, stepping := false, bpHit := if cause = 2 then true else x.bpHit }

theorem updEng_clusters_congr {s t : State} (h : t.clusters = s.clusters) (n : Fin 12) (e : Fin 14) (f : Engine → Engine) :
    (t.updEng n e f).clusters = (s.updEng n e f).clusters := by
  simp only [State.updEng, updCl_clusters, h]

/-- Of the clusters a halt changes the one engine. -/
theorem debugHalt_clusters (s : State) (n : Fin 12) (e : Fin 14) (c : Nat) :
    (debugHalt s n e c).clusters = (s.updEng n e (haltedBy c)).clusters := by
  unfold debugHalt haltEngine haltedBy; dsimp only
  split
  · rw [evt_clusters, updEng_clusters_congr (trace_clusters _ _ _ _ _), updEng_updEng]
  · rw [evt_clusters, trace_clusters]

theorem debugHalt_mem (s : State) (n : Fin 12) (e : Fin 14) (c : Nat) : (debugHalt s n e c).mem = s.mem := by
  unfold debugHalt haltEngine; dsimp only; split <;> simp

theorem reg_debugHalt (s : State) (n : Fin 12) (e : Fin 14) (c : Nat) {a : Nat} (h : UntracedReg a) :
    (debugHalt s n e c).reg a = s.reg a := by
  have halted : (haltEngine s n e c).reg a = s.reg a := by
    unfold haltEngine; rw [reg_trace _ _ _ _ _ h]; rfl
  obtain ⟨hevt, -⟩ := h
  unfold debugHalt; dsimp only
  split <;> rw [reg_evt_ne _ _ hevt]
  · rw [← halted]; rfl
  · exact halted

/-- After an instruction nothing happens, or a halt that has waited for it takes place. -/
theorem afterInstr_cases (s : State) (n : Fin 12) (e : Fin 14) :
    afterInstr s n e = s ∨ ∃ c, afterInstr s n e = debugHalt s n e c := by
  unfold afterInstr; dsimp only
  split
  · exact .inl rfl
  · split
    · split
      · exact .inl rfl
      · exact .inr ⟨_, rfl⟩
    · split
      · exact .inr ⟨_, rfl⟩
      · exact .inl rfl

theorem afterInstr_mem (s : State) (n : Fin 12) (e : Fin 14) : (afterInstr s n e).mem = s.mem := by
  obtain h | ⟨c, h⟩ := afterInstr_cases s n e <;> rw [h]
  exact debugHalt_mem s n e c

theorem reg_afterInstr (s : State) (n : Fin 12) (e : Fin 14) {a : Nat} (h : UntracedReg a) :
    (afterInstr s n e).reg a = s.reg a := by
  obtain hc | ⟨c, hc⟩ := afterInstr_cases s n e <;> rw [hc]
  exact reg_debugHalt s n e c h

/-- The scheduler's part of a cluster is as before: only the engine can have halted. -/
theorem cl_afterInstr (s : State) (n : Fin 12) (e : Fin 14) :
    (afterInstr s n e).cl n = { s.cl n with engines := ((afterInstr s n e).cl n).engines } := by
  obtain h | ⟨c, h⟩ := afterInstr_cases s n e <;> rw [h]
  have cl : (debugHalt s n e c).cl n = (s.updEng n e (haltedBy c)).cl n := by unfold State.cl; rw [debugHalt_clusters]
  rw [cl]; exact cl_updEng s n n e (haltedBy c)

/-- What a halt leaves of its engine: where it is bound, its registers and its PC. -/
theorem eng_afterInstr (s : State) (n : Fin 12) (e : Fin 14) :
    ((afterInstr s n e).eng n e).phys = (s.eng n e).phys ∧ ((afterInstr s n e).eng n e).regs = (s.eng n e).regs ∧
    ((afterInstr s n e).eng n e).pc = (s.eng n e).pc := by
  obtain h | ⟨c, h⟩ := afterInstr_cases s n e <;> rw [h]
  · exact ⟨rfl, rfl, rfl⟩
  · have eng : (debugHalt s n e c).eng n e = haltedBy c (s.eng n e) := by
      rw [← eng_updEng_self s n e (haltedBy c)]; unfold State.eng State.cl; rw [debugHalt_clusters]
    rw [eng]; exact ⟨rfl, rfl, rfl⟩

/-! The resumption on the target (R267, steps 4 and 5). -/

/-- What CLU_LAST_MIG shows of a migration (R274). -/
def migWord (m : Migration) : Word :=
  putFld m.leng.val 15 12 ||| putFld m.from_.val 11 8 ||| putFld m.target.val 7 4 ||| putFld m.cause.code 3 2

/-- The engine is bound to the target, the source goes into self-test and the migration has ended. -/
def handOver (s : State) (n : Fin 12) (m : Migration) : State :=
  ((s.updCl n fun c => { c with mig := none, lastMig := migWord m }).updEng n m.leng fun x => { x with phys := some m.target }).updPhys n m.from_
    fun x => { x with testing := true }

/-- What tells of a migration that has ended: counter, event, report, trace and the lead's record. -/
def announce (s : State) (n : Fin 12) (m : Migration) : State :=
  ((((s.bump (CLU_MIGS n.val)).cluEvt n cluMIG).cluRaise n 0x0 m.leng.val).trace (clTrace n) 6 m.leng.val m.target.val).updLead
    fun l => { l with migSince := true }

theorem cl_handOver (s : State) (n : Fin 12) (m : Migration) :
    (handOver s n m).cl n = { s.cl n with
      mig := none, lastMig := migWord m, engines := vupd (s.cl n).engines m.leng fun x => { x with phys := some m.target }
      phys := vupd (s.cl n).phys m.from_ fun x => { x with testing := true } } := by
  simp [handOver, State.updPhys, State.updEng]

theorem eng_handOver (s : State) (n : Fin 12) (m : Migration) :
    (handOver s n m).eng n m.leng = { s.eng n m.leng with phys := some m.target } := by
  rw [State.eng, cl_handOver, vget_vupd_self, State.eng]

@[simp] theorem announce_mem (s : State) (n : Fin 12) (m : Migration) : (announce s n m).mem = s.mem := by
  simp [announce, State.cluEvt, State.cluRaise]
@[simp] theorem announce_clusters (s : State) (n : Fin 12) (m : Migration) : (announce s n m).clusters = s.clusters := by
  simp [announce, State.cluEvt, State.cluRaise]

@[simp] theorem announce_cl (s : State) (n : Fin 12) (m : Migration) : (announce s n m).cl n = s.cl n := by simp [State.cl]
@[simp] theorem announce_eng (s : State) (n : Fin 12) (m : Migration) (e : Fin 14) : (announce s n m).eng n e = s.eng n e := by
  simp [State.eng]

theorem clu_migs_ne_evt (n : Nat) : CLU_MIGS n ≠ CLU_EVT n := by unfold CLU_MIGS CLU_EVT; omega
theorem clu_forced_ne_evt (n : Nat) : CLU_FORCED n ≠ CLU_EVT n := by unfold CLU_FORCED CLU_EVT; omega

/-- A counter of a cluster counts and then an event bit is set: both can be read. -/
theorem reg_bump_cluEvt (s : State) (n : Fin 12) {a : Nat} (i : Nat) (ha : a ≠ CLU_EVT n.val) (hi : i < 16) :
    ((s.bump a).cluEvt n i).reg a = bumpW (s.reg a) 1 ∧ (((s.bump a).cluEvt n i).reg (CLU_EVT n.val)).getLsbD i = true :=
  ⟨by rw [State.cluEvt, reg_evt_ne _ _ ha, reg_bump_self], reg_evt_bit _ _ _ hi⟩

theorem reg_announce (s : State) (n : Fin 12) (m : Migration) {a : Nat} (h : UntracedReg a) :
    (announce s n m).reg a = ((s.bump (CLU_MIGS n.val)).cluEvt n cluMIG).reg a := by
  have led (x : State) (f : LeadState → LeadState) : (x.updLead f).reg a = x.reg a := rfl
  rw [announce, led, reg_trace _ _ _ _ _ h, State.cluRaise, reg_congr (raise_regs _ _ _)]

theorem failureNext_of_no_failed {s : State} {n : Fin 12} (h : (s.cl n).failed = []) : failureNext s n = s := by
  unfold failureNext
  rw [h]
  split
  · rename_i waiting
    cases waiting
  · rfl

/-- With no failure waiting, a resumption is the hand-over, what tells of it and the halts that waited for it. -/
theorem migrationResume_eq {s : State} {n : Fin 12} {m : Migration} (hm : (s.cl n).mig = some m) (hs : m.stopped = true)
    (hf : (s.cl n).failed = []) : migrationResume s n = afterInstr (announce (handOver s n m) n m) n m.leng := by
  have idle : failureNext (afterInstr (announce (handOver s n m) n m) n m.leng) n = afterInstr (announce (handOver s n m) n m) n m.leng :=
    failureNext_of_no_failed (by rw [cl_afterInstr, announce_cl, cl_handOver]; exact hf)
  rw [← idle]
  unfold migrationResume
  simp only [hm, hs, Bool.not_true, Bool.false_eq_true, if_false]
  rfl

/-- What stands after a resumption (R267): the engine on its target with its registers and its PC, its source in self-test, and the
migration ended, counted and shown; memory is as before. -/
structure Resumed (s u : State) (n : Fin 12) (m : Migration) : Prop where
  ended : (u.cl n).mig = none
  bound : (u.eng n m.leng).phys = some m.target
  regs : (u.eng n m.leng).regs = (s.eng n m.leng).regs
  pc : (u.eng n m.leng).pc = (s.eng n m.leng).pc
  source : (vget (u.cl n).phys m.from_).testing = true
  last : (u.cl n).lastMig = migWord m
  counted : u.reg (CLU_MIGS n.val) = bumpW (s.reg (CLU_MIGS n.val)) 1
  shown : (u.reg (CLU_EVT n.val)).getLsbD cluMIG = true
  memory : SameMemory s u

theorem resumed_migrationResume {s : State} {n : Fin 12} {m : Migration} (hm : (s.cl n).mig = some m) (hs : m.stopped = true)
    (hf : (s.cl n).failed = []) : Resumed s (settle (migrationResume s n)) n m := by
  rw [migrationResume_eq hm hs hf]
  obtain ⟨hphys, hregs, hpc⟩ := eng_afterInstr (announce (handOver s n m) n m) n m.leng
  rw [announce_eng, eng_handOver] at hphys hregs hpc
  obtain ⟨hmigs, hevt⟩ := reg_bump_cluEvt (handOver s n m) n cluMIG (clu_migs_ne_evt n.val) (by decide)
  obtain ⟨evtClosing, migsClosing, -⟩ := closingReg_clu n
  obtain ⟨evtUntraced, migsUntraced⟩ := untracedReg_clu n
  constructor
  · rw [settle_cl_mig, cl_afterInstr, announce_cl, cl_handOver]
  · rw [settle_eng, hphys]
  · rw [settle_eng, hregs]
  · rw [settle_eng, hpc]
  · rw [settle_cl_phys, cl_afterInstr, announce_cl, cl_handOver, vget_vupd_self]
  · rw [settle_cl_lastMig, cl_afterInstr, announce_cl, cl_handOver]
  · rw [reg_settle_of_not_closing _ _ migsClosing, reg_afterInstr _ _ _ migsUntraced, reg_announce _ _ _ migsUntraced, hmigs]
    rfl
  · rw [reg_settle_of_not_closing _ _ evtClosing, reg_afterInstr _ _ _ evtUntraced, reg_announce _ _ _ evtUntraced]
    exact hevt
  · intro a
    rw [settle_byte]
    refine byte_congr ?_ a
    rw [afterInstr_mem, announce_mem]; rfl

/-! The rows of a migration under way, case by case (R266, R267, R269). -/

theorem migrationStop_safe {s : State} {n : Fin 12} {m : Migration} (hm : (s.cl n).mig = some m) (hs : m.stopped = false)
    (hl : holdsLock s n m.leng = false) (safe : (s.eng n m.leng).safe = true) : migrationStop s n = migStop s n m := by
  unfold migrationStop; simp [hm, hs, hl, safe]

/-- A rotation that found no safe point is abandoned and the next one begins. -/
theorem migrationForce_rotation {s : State} {n : Fin 12} {m : Migration} (hm : (s.cl n).mig = some m) (hs : m.stopped = false)
    (hc : m.cause = .rotation) (hf : (s.cl n).failed = []) :
    migrationForce s n = rotate (s.updCl n fun c => { c with mig := none }) n := by
  have idle : failureNext (s.updCl n fun c => { c with mig := none }) n = s.updCl n fun c => { c with mig := none } :=
    failureNext_of_no_failed (by rw [cl_updCl_self]; exact hf)
  unfold migrationForce; simp [hm, hs, hc, idle]

/-- Any other migration proceeds. -/
theorem migrationForce_other {s : State} {n : Fin 12} {m : Migration} (hm : (s.cl n).mig = some m) (hs : m.stopped = false)
    (hl : holdsLock s n m.leng = false) (hc : m.cause ≠ .rotation) :
    migrationForce s n = ((migStop s n m).bump (CLU_FORCED n.val)).cluEvt n cluFORCED := by
  unfold migrationForce; simp [hm, hs, hl, hc]

/-! The commands. -/

theorem rotationDue_begins {n : Fin 12} {t : Nat} {s : State} {p q : Fin 16} {e : Fin 14} (hr : s.bit (CLU_CTRL n.val) 15 = true)
    (hh : s.bit (CLU_CTRL n.val) 14 = false) (ho : (s.cl n).online = true) (hq : spare? (s.cl n) = some q)
    (hn : rotationNext (s.cl n) = some (p, e)) (hm : (s.cl n).mig = none) :
    Completes (.rotationDue n t) s fun u => MigrationBegins s u n ⟨e, p, q, .rotation, false⟩ ∧ (u.cl n).rotated = p.val :=
  completes_done (x := rotate (s.at t) n) rfl (migrationBegins_rotate rfl rfl hr hh ho hq hn hm)

theorem migrationForce_givesWay {n : Fin 12} {t : Nat} {s : State} {p q : Fin 16} {e : Fin 14} {m : Migration}
    (hr : s.bit (CLU_CTRL n.val) 15 = true) (hh : s.bit (CLU_CTRL n.val) 14 = false) (ho : (s.cl n).online = true)
    (hq : spare? (s.cl n) = some q) (hn : rotationNext (s.cl n) = some (p, e)) (hm : (s.cl n).mig = some m)
    (hs : m.stopped = false) (hc : m.cause = .rotation) (hf : (s.cl n).failed = []) :
    Completes (.migrationForce n t) s fun u => MigrationBegins s u n ⟨e, p, q, .rotation, false⟩ := by
  let x := (s.at t).updCl n fun c => { c with mig := none }
  have force : migrationForce (s.at t) n = rotate x n := migrationForce_rotation hm hs hc hf
  have cl : x.cl n = { s.cl n with mig := none } := cl_updCl_self _ _ _
  have begun : MigrationBegins s (settle (rotate x n)) n ⟨e, p, q, .rotation, false⟩ ∧
      ((settle (rotate x n)).cl n).rotated = p.val :=
    migrationBegins_rotate rfl (eng_updCl_of_engines (s := s.at t) rfl e) hr hh (by rw [cl]; exact ho) (by rw [cl]; exact hq)
      (by rw [cl]; exact hn) (by rw [cl])
  exact completes_done (congrArg done force) begun.1

theorem cluMigrate_begins {n : Fin 12} {t : Nat} {s : State} {p q : Fin 16} {e : Fin 14} (hp : (s.eng n e).phys = some p)
    (hm : (s.cl n).mig = none) (hh : s.bit (CLU_CTRL n.val) 14 = false) (hq : spare? (s.cl n) = some q) :
    Completes (.cluMigrate n e t) s fun u => MigrationBegins s u n ⟨e, p, q, .command, false⟩ := by
  have begins : migBegin (s.at t) n e .command = migTo (s.at t) n e p q .command := migBegin_spare hp hm hh hq
  exact completes_done (congrArg done begins) (migrationBegins_migTo rfl rfl (bound_ne_spare hp hq))

theorem migrationStop_stops {n : Fin 12} {t : Nat} {s : State} {m : Migration} (hm : (s.cl n).mig = some m)
    (hs : m.stopped = false) (hl : holdsLock s n m.leng = false) (safe : (s.eng n m.leng).safe = true) :
    Completes (.migrationStop n t) s fun u => SourceStops s u n m ∧ SameRegs s u [] := by
  have stop : migrationStop (s.at t) n = migStop (s.at t) n m := migrationStop_safe hm hs hl safe
  refine completes_done (congrArg done stop) ⟨sourceStops_migStop (at_mem s t) rfl rfl, ?_⟩
  intro a k hk closing _
  rw [regSel_settle _ a k hk closing]
  exact regSel_congr (migStop_regs (s.at t) n m) a k

theorem migrationForce_stops {n : Fin 12} {t : Nat} {s : State} {m : Migration} (hm : (s.cl n).mig = some m)
    (hs : m.stopped = false) (hl : holdsLock s n m.leng = false) (hc : m.cause ≠ .rotation) :
    Completes (.migrationForce n t) s fun u =>
      SourceStops s u n m ∧ u.reg (CLU_FORCED n.val) = bumpW (s.reg (CLU_FORCED n.val)) 1 ∧
      (u.reg (CLU_EVT n.val)).getLsbD cluFORCED = true := by
  have force : migrationForce (s.at t) n = ((migStop (s.at t) n m).bump (CLU_FORCED n.val)).cluEvt n cluFORCED :=
    migrationForce_other hm hs hl hc
  obtain ⟨hforced, hevt⟩ := reg_bump_cluEvt (migStop (s.at t) n m) n cluFORCED (clu_forced_ne_evt n.val) (by decide)
  obtain ⟨evtClosing, -, forcedClosing⟩ := closingReg_clu n
  refine completes_done (congrArg done force) ⟨sourceStops_migStop (at_mem s t) ?_ ?_, ?_, ?_⟩
  · rw [State.cluEvt, evt_clusters, bump_clusters]
  · rw [State.cluEvt, evt_mem, bump_mem]
  · rw [reg_settle_of_not_closing _ _ forcedClosing, hforced, reg_congr (migStop_regs (s.at t) n m)]
    rfl
  · rw [reg_settle_of_not_closing _ _ evtClosing]
    exact hevt

theorem migrationResume_resumes {n : Fin 12} {t : Nat} {s : State} {m : Migration} (hm : (s.cl n).mig = some m)
    (hs : m.stopped = true) (hf : (s.cl n).failed = []) :
    Completes (.migrationResume n t) s fun u => Resumed s u n m := by
  obtain ⟨ended, bound, regs, pc, source, last, counted, shown, memory⟩ := resumed_migrationResume (s := s.at t) hm hs hf
  exact completes_done (x := migrationResume (s.at t) n) rfl ⟨ended, bound, regs, pc, source, last, counted, shown, memory⟩

/-- Settles O29: each clause is its row's theorem above. -/
theorem migrationsRun : Obligations.MigrationsRun := by
  unfold Obligations.MigrationsRun
  intro n t s
  refine ⟨?_, ?_, ?_, ?_⟩
  · intro p e q hr hh ho hq hn
    exact ⟨rotationDue_begins hr hh ho hq hn, fun m hm hs hc hf => migrationForce_givesWay hr hh ho hq hn hm hs hc hf⟩
  · intro e p q hp hm hh hq
    exact cluMigrate_begins hp hm hh hq
  · intro m hm hs hl
    exact ⟨migrationStop_stops hm hs hl, migrationForce_stops hm hs hl⟩
  · intro m hm hs hf
    obtain ⟨u, hu, r⟩ := migrationResume_resumes (t := t) hm hs hf
    exact ⟨u, hu, r.ended, r.bound, r.regs, r.pc, r.source, r.last, r.counted, r.shown, r.memory⟩

end Sys2Proof.Machine
end

section
/-! SUPPORT. The arithmetic of a port engine is that of the tables of R280 and R282: results, carries and overflows. -/

namespace Sys2Proof.Machine

/-- A row of the table of R282 as the results and flags that an instruction leaves: Z and N are those of the result. -/
def tableOut (r : Word × Bool × Bool) : AluOut := ⟨r.1, decide (r.1 = 0), r.1.msb, r.2.1, r.2.2⟩

theorem flagN_eq_msb (w : Word) : flagN w = w.msb := (BitVec.msb_eq_getLsbD_last w).symm

/-- V by range is V by value (R280): a signed number is outside 16 bits where the result differs from it. -/
theorem flagV_eq_of_toInt {r : Word} {i : Int} (h : r.toInt = i.bmod 65536) : flagV i = decide (r.toInt ≠ i) := by
  rw [Bool.eq_iff_iff, flagV, Bool.or_eq_true, decide_eq_true_iff, decide_eq_true_iff, decide_eq_true_iff, h, Int.bmod_def]
  split <;> omega

theorem addOut_eq_adc (a b : Word) (c v : Bool) : addOut a b c = tableOut (aluTable .adc a b c v) := by
  have value : wd (a.toNat + b.toNat + b2n c) = a + b + (if c then 1 else 0) := by
    rw [wd, BitVec.ofNat_add, BitVec.ofNat_add, BitVec.ofNat_toNat, BitVec.ofNat_toNat, BitVec.setWidth_eq, BitVec.setWidth_eq]
    cases c <;> rfl
  have signed : (a + b + (if c then 1 else 0) : Word).toInt = (a.toInt + b.toInt + b2n c).bmod 65536 := by
    rw [BitVec.toInt_add, BitVec.toInt_add]
    cases c <;> simp [b2n]
  simp only [addOut, value, flagV_eq_of_toInt signed, flagN_eq_msb]
  cases c <;> rfl

theorem addOut_eq_add (a b : Word) (c v : Bool) : addOut a b false = tableOut (aluTable .add a b c v) := by
  rw [addOut_eq_adc a b false v]
  simp [aluTable]

theorem subOut_eq_sbc (a b : Word) (c v : Bool) : subOut a b (!c) = tableOut (aluTable .sbc a b c v) := by
  have value : wd (a.toNat + 65536 * 2 - b.toNat - b2n (!c)) = a - b - (if c then 0 else 1) := by
    apply BitVec.eq_of_toNat_eq
    cases c <;> simp [b2n, BitVec.toNat_sub] <;> omega
  have signed : (a - b - (if c then 0 else 1) : Word).toInt = (a.toInt - b.toInt - b2n (!c)).bmod 65536 := by
    rw [BitVec.toInt_sub, BitVec.toInt_sub]
    cases c <;> simp [b2n]
  simp only [subOut, value, flagV_eq_of_toInt signed, flagN_eq_msb]
  cases c <;> rfl

theorem subOut_eq_sub (a b : Word) (c v : Bool) : subOut a b false = tableOut (aluTable .sub a b c v) := by
  rw [show false = !true from rfl, subOut_eq_sbc a b true v]
  simp [aluTable]

theorem logicOut_eq (r : Word) (c : Bool) : logicOut r c = tableOut (r, c, false) := by
  rw [logicOut, flagN_eq_msb]; rfl

theorem mull_value (a b : Word) : wd (a.toNat * b.toNat) = a * b := by
  rw [wd, BitVec.ofNat_mul, BitVec.ofNat_toNat, BitVec.ofNat_toNat, BitVec.setWidth_eq, BitVec.setWidth_eq]

/-- Bits 31 to 16 of the signed product are those of the product of the operands extended to 32 bits (R282). -/
theorem mulh_value (a b : Word) :
    BitVec.ofInt 16 (a.toInt * b.toInt / 65536) = (a.signExtend 32 * b.signExtend 32).extractLsb' 16 16 := by
  have product : a.signExtend 32 * b.signExtend 32 = BitVec.ofInt 32 (a.toInt * b.toInt) := by
    rw [BitVec.ofInt_mul, ← BitVec.signExtend, ← BitVec.signExtend]
  rw [product]
  apply BitVec.eq_of_toNat_eq
  simp [BitVec.extractLsb'_toNat, BitVec.toNat_ofInt, Nat.shiftRight_eq_div_pow]
  omega

/-- The functions of the model are the table of R282. -/
theorem aluOut_eq_tableOut (f : AluFn) (a b : Word) (c v : Bool) : aluOut f a b c v = tableOut (aluTable f a b c v) := by
  have amount : fld b 3 0 = b.toNat % 16 := by simp [fld]
  cases f with
  | add => exact addOut_eq_add a b c v
  | sub => exact subOut_eq_sub a b c v
  | adc => exact addOut_eq_adc a b c v
  | sbc => exact subOut_eq_sbc a b c v
  | cmp => exact subOut_eq_sub a b c v
  | and | or | xor => exact logicOut_eq _ _
  | shl | shr | sar | rol | ror =>
    simp only [aluOut, amount, logicOut_eq]
    rfl
  | mov =>
    simp only [aluOut, flagN_eq_msb]
    rfl
  | mull =>
    simp only [aluOut, mull_value, flagN_eq_msb, flagV, ← Bool.decide_or]
    rfl
  | mulh =>
    simp only [aluOut, mulh_value, flagN_eq_msb]
    rfl

end Sys2Proof.Machine
end

section
/-! SUPPORT. What an instruction on registers, flags and program counter comes to, and the obligations about the functions of major 0x1
(R282), the immediate forms (R283) and the bit instructions (R284). -/

namespace Sys2Proof.Machine

/-! Updates of one engine and the command that makes one. -/

theorem vset_vget {α : Type} {k : Nat} (v : Vector α k) (i : Fin k) : vset v i (vget v i) = v := Vector.set_getElem_self _

theorem vupd_of_vget_eq {α : Type} {k : Nat} {v : Vector α k} {i : Fin k} {f : α → α} (h : f (vget v i) = vget v i) :
    vupd v i f = v := by rw [vupd, h, vset_vget]

theorem vupd_congr {α : Type} {k : Nat} {v : Vector α k} {i : Fin k} {f g : α → α} (h : f (vget v i) = g (vget v i)) :
    vupd v i f = vupd v i g := congrArg (vset v i) h

/-- An update that leaves the engine as it is leaves the state as it is. -/
theorem updEng_of_eng_eq {s : State} {n : Fin 12} {e : Fin 14} {f : Engine → Engine} (h : f (s.eng n e) = s.eng n e) :
    s.updEng n e f = s := by
  have engines : vupd (vget s.clusters n).engines e f = (vget s.clusters n).engines := vupd_of_vget_eq h
  rw [State.updEng, State.updCl, vupd_of_vget_eq]
  rw [engines]

/-- An update depends on what it makes of the engine as it is. -/
theorem updEng_congr {s : State} {n : Fin 12} {e : Fin 14} {f g : Engine → Engine} (h : f (s.eng n e) = g (s.eng n e)) :
    s.updEng n e f = s.updEng n e g := by
  have engines : vupd (vget s.clusters n).engines e f = vupd (vget s.clusters n).engines e g := vupd_congr h
  rw [State.updEng, State.updEng, State.updCl, State.updCl, vupd_congr]
  rw [engines]

/-- What an instruction does to its engine alone, whatever state it issues in, is all that its command does; the instruction begins
at the engine that has passed it (R278). -/
theorem completes_updEng {c : Instr} {s : State} {n : Fin 12} {e : Fin 14} {t : Nat} {op : EngOp} {g : Engine → Engine}
    (hx : exec c s = done (engIssue (s.at t) n e op)) (h : Issues s n e) (legal : engLegal op = true)
    (does : ∀ x : State, engDo x n e op = .go (x.updEng n e g))
    (keeps : ∀ y, (g y).haltPending = y.haltPending ∧ (g y).stepping = y.stepping)
    (notSync : op ≠ .sync := by simp) (notRetT : op ≠ .retT := by simp) :
    Completes c s fun u => u.eng n e = g (passed s n e op.size) ∧ EngineOnly s u n e := by
  have issued : engIssue (s.at t) n e op = (advance (s.at t) n e op).updEng n e g := by
    have effect := does (advance (s.at t) n e op)
    rw [advance, updEng_updEng] at effect ⊢
    exact issue_updEng _ (h.at t) legal notSync (.inl notRetT) effect ((keeps _).1.trans h.noHalt) ((keeps _).2.trans h.noStep)
  rw [issued, advance, updEng_updEng] at hx
  refine completes_done hx ⟨?_, engineOnly_updEng s n e t _⟩
  rw [settle_eng, eng_updEng_self]
  rfl

/-- The flags set after a register. -/
theorem setFlags_setR (s : State) (n : Fin 12) (e : Fin 14) (r : Fin 16) (o : AluOut) :
    setFlags (setR s n e r o.val) n e o =
      s.updEng n e fun x => { x with regs := vset x.regs r o.val, z := o.z, n := o.n, c := o.c, v := o.v } := updEng_updEng ..

/-! Arithmetic and logic (R282, R283). -/

theorem engDo_alu (s : State) (n : Fin 12) (e : Fin 14) (f : AluFn) (rd rs : Fin 16) :
    engDo s n e (.alu f rd rs) = .go (s.updEng n e fun x =>
      let o := tableOut (aluTable f (vget x.regs rd) (vget x.regs rs) x.c x.v)
      { x with regs := if f = .cmp then x.regs else vset x.regs rd o.val, z := o.z, n := o.n, c := o.c, v := o.v }) := by
  simp only [engDo, aluOut_eq_tableOut]
  by_cases compares : f = .cmp
  · subst compares
    exact congrArg EngStep.go (updEng_congr rfl)
  · have writes : aluWrites f = true := decide_eq_true compares
    simp only [writes, if_true, compares, if_false, setFlags_setR]
    exact congrArg EngStep.go (updEng_congr rfl)

/-- R282: a row of the table completes with the result and the flags of the table. -/
theorem completes_alu {f : AluFn} {n : Fin 12} {e : Fin 14} {rd rs : Fin 16} {t : Nat} {s : State} (h : Issues s n e) :
    Completes (aluCommand f n e rd rs t) s fun u =>
      let x := s.eng n e
      let r := aluTable f (getR s n e rd) (getR s n e rs) x.c x.v
      u.eng n e = { passed s n e 1 with
          regs := if f = .cmp then x.regs else vset x.regs rd r.1, z := decide (r.1 = 0), n := r.1.msb, c := r.2.1, v := r.2.2 } ∧
        EngineOnly s u n e := by
  have row : exec (aluCommand f n e rd rs t) s = done (engIssue (s.at t) n e (.alu f rd rs)) := by cases f <;> rfl
  exact completes_updEng row h rfl (engDo_alu · n e f rd rs) fun _ => ⟨rfl, rfl⟩

/-- Settles O32: the functions of the model are the table, and an instruction of major 0x1 does what its function says. -/
theorem aluRegisterRegister : Obligations.AluRegisterRegister := by
  unfold Obligations.AluRegisterRegister
  exact fun f n e rd rs t s h => completes_alu h

theorem engDo_addi (s : State) (n : Fin 12) (e : Fin 14) (rd : Fin 16) (imm : Byte) :
    engDo s n e (.addi rd imm) = .go (s.updEng n e fun x =>
      let o := tableOut (aluTable .add (vget x.regs rd) (imm.signExtend 16) x.c x.v)
      { x with regs := vset x.regs rd o.val, z := o.z, n := o.n, c := o.c, v := o.v }) := by
  simp only [engDo, addOut_eq_add _ _ (s.eng n e).c (s.eng n e).v, setFlags_setR]
  exact congrArg EngStep.go (updEng_congr rfl)

theorem engDo_cmpi (s : State) (n : Fin 12) (e : Fin 14) (rd : Fin 16) (imm : Byte) :
    engDo s n e (.cmpi rd imm) = .go (s.updEng n e fun x =>
      let o := tableOut (aluTable .cmp (vget x.regs rd) (imm.signExtend 16) x.c x.v)
      { x with z := o.z, n := o.n, c := o.c, v := o.v }) := by
  simp only [engDo, subOut_eq_sub _ _ (s.eng n e).c (s.eng n e).v]
  exact congrArg EngStep.go (updEng_congr rfl)

theorem engDo_movi (s : State) (n : Fin 12) (e : Fin 14) (rd : Fin 16) (imm : Byte) :
    engDo s n e (.movi rd imm) = .go (s.updEng n e fun x => { x with regs := vset x.regs rd (imm.setWidth 16) }) := rfl

/-! The bit instructions (R284). -/

/-- What a bit instruction gives rd (R284), with bit b in its place. -/
def bitValue (f : BitFn) (w : Word) (b : Fin 16) : Word :=
  match f with
  | .set => w ||| 1#16 <<< b.val
  | .clr => w &&& ~~~ (1#16 <<< b.val)
  | .tgl => w ^^^ 1#16 <<< b.val
  | .tst => w

theorem bitW_true (i : Nat) : bitW true i = 1#16 <<< i := by
  apply BitVec.eq_of_toNat_eq
  simp [bitW, b2n, wd]

theorem bitOut_eq (f : BitFn) (w : Word) (b : Fin 16) : bitOut f w b = (bitValue f w b, decide (w.getLsbD b.val = false)) := by
  have clear : (!bitOf w b.val) = decide (w.getLsbD b.val = false) := by simp [bitOf]
  cases f <;> simp only [bitOut, bitW_true, clear, bitValue]

theorem engDo_bit (s : State) (n : Fin 12) (e : Fin 14) (f : BitFn) (rd b : Fin 16) :
    engDo s n e (.bit f rd b) = .go (s.updEng n e fun x =>
      { x with regs := vset x.regs rd (bitValue f (vget x.regs rd) b), z := decide ((vget x.regs rd).getLsbD b.val = false) }) := by
  simp only [engDo, bitOut_eq, setR, setZ, updEng_updEng]
  exact congrArg EngStep.go (updEng_congr rfl)

theorem completes_bit {c : Instr} {f : BitFn} {n : Fin 12} {e : Fin 14} {rd b : Fin 16} {t : Nat} {s : State}
    (row : exec c s = done (engIssue (s.at t) n e (.bit f rd b))) (h : Issues s n e) :
    Completes c s fun u =>
      u.eng n e = { passed s n e 1 with
          regs := vset (s.eng n e).regs rd (bitValue f (getR s n e rd) b), z := decide ((getR s n e rd).getLsbD b.val = false) } ∧
        EngineOnly s u n e :=
  completes_updEng row h rfl (engDo_bit · n e f rd b) fun _ => ⟨rfl, rfl⟩

/-- R284: BTST writes rd back as it was, so that Z alone changes. -/
theorem completes_btst {n : Fin 12} {e : Fin 14} {rd b : Fin 16} {t : Nat} {s : State} (h : Issues s n e) :
    Completes (.btst n e rd b t) s fun u =>
      u.eng n e = { passed s n e 1 with z := decide ((getR s n e rd).getLsbD b.val = false) } ∧ EngineOnly s u n e := by
  have tested := completes_bit (t := t) (c := .btst n e rd b t) rfl h
  simp only [bitValue, getR, vset_vget] at tested
  exact tested

/-- Settles O33: each clause is what its instruction does to its own engine. -/
theorem immediateAndBitForms : Obligations.ImmediateAndBitForms := by
  unfold Obligations.ImmediateAndBitForms
  constructor
  · intro n e rd imm t s h
    refine ⟨?addi, ?cmpi, ?movi⟩
    case addi => exact completes_updEng rfl h rfl (engDo_addi · n e rd imm) fun _ => ⟨rfl, rfl⟩
    case cmpi => exact completes_updEng rfl h rfl (engDo_cmpi · n e rd imm) fun _ => ⟨rfl, rfl⟩
    case movi => exact completes_updEng rfl h rfl (engDo_movi · n e rd imm) fun _ => ⟨rfl, rfl⟩
  · intro n e rd b t s h
    exact ⟨completes_bit (f := .set) rfl h, completes_bit (f := .clr) rfl h, completes_bit (f := .tgl) rfl h, completes_btst h⟩

end Sys2Proof.Machine
end

section
/-! SUPPORT. Branches, jumps and calls (R281, R287), the entry into a trap (R297), and the obligation about branches. -/

namespace Sys2Proof.Machine

/-! Control transfer (R281, R287). -/

/-- The table of R281 without its reserved code. -/
def conditionTable (z n c v : Bool) : List Bool :=
  [z, !z, c, !c, n, !n, v, !v, c && !z, !c || z, n == v, n != v, !z && (n == v), z || (n != v), true]

theorem condHolds_of_conditionTable {code : Nat} {z n c v b : Bool} (h : (conditionTable z n c v)[code]? = some b) :
    code < 15 ∧ condHolds code z n c v = b := by
  have listed : code < 15 := (List.getElem?_eq_some_iff.mp h).1
  refine ⟨listed, ?_⟩
  interval_cases code <;> exact Option.some.inj h

theorem engDo_bcc (s : State) (n : Fin 12) (e : Fin 14) (code : Nat) (off : Byte) :
    engDo s n e (.bcc code off) = .go (s.updEng n e fun x =>
      { x with pc := x.pc + (if condHolds code x.z x.n x.c x.v then off.signExtend 12 else 0) }) := by
  simp only [engDo]
  split
  · rename_i holds
    exact congrArg EngStep.go (updEng_congr (by simp only [holds, if_true]))
  · rename_i fails
    refine congrArg EngStep.go (updEng_of_eng_eq ?_).symm
    rw [if_neg fails, add_zero]

theorem engDo_jmp (s : State) (n : Fin 12) (e : Fin 14) (target : BitVec 12) :
    engDo s n e (.jmp target) = .go (s.updEng n e fun x => { x with pc := target }) := rfl

theorem engDo_call (s : State) (n : Fin 12) (e : Fin 14) (target : BitVec 12) :
    engDo s n e (.call target) = .go (s.updEng n e fun x => { x with pc := target, regs := vset x.regs 15 (x.pc.setWidth 16) }) := by
  simp only [engDo, setR, updEng_updEng]
  exact congrArg EngStep.go (updEng_congr rfl)

theorem engDo_ret (s : State) (n : Fin 12) (e : Fin 14) :
    engDo s n e .ret = .go (s.updEng n e fun x => { x with pc := (vget x.regs 15).setWidth 12 }) := by
  simp only [engDo]
  exact congrArg EngStep.go (updEng_congr rfl)

/-- A branch of a listed condition goes where the condition says (R281, R287). -/
theorem completes_bcc {n : Fin 12} {e : Fin 14} {code : Fin 16} {off : Byte} {t : Nat} {s : State} {b : Bool} (h : Issues s n e)
    (taken : (conditionTable (s.eng n e).z (s.eng n e).n (s.eng n e).c (s.eng n e).v)[code.val]? = some b) :
    Completes (.bcc n e code off t) s fun u =>
      u.eng n e = { passed s n e 1 with pc := (s.eng n e).pc + 1 + (if b then off.signExtend 12 else 0) } ∧ EngineOnly s u n e := by
  obtain ⟨listed, rfl⟩ := condHolds_of_conditionTable taken
  exact completes_updEng rfl h (op := .bcc code.val off) (decide_eq_true listed) (engDo_bcc · n e code.val off) fun _ => ⟨rfl, rfl⟩

/-- The target of JMP and CALL is an even word address (R287). -/
theorem target_eq (half : BitVec 11) : half ++ (0#1 : BitVec 1) = BitVec.ofNat 12 (2 * half.toNat) := by
  apply BitVec.eq_of_toNat_eq
  rw [BitVec.toNat_append half 0#1, BitVec.toNat_ofNat, Nat.shiftLeft_eq, BitVec.toNat_ofNat, Nat.zero_mod, Nat.or_zero]
  omega

theorem target_even (half : BitVec 11) : (BitVec.ofNat 12 (2 * half.toNat)).getLsbD 0 = false := by
  simp only [BitVec.getLsbD_ofNat, Nat.testBit_zero, Nat.mul_mod_right, Nat.zero_ne_one, decide_false, Bool.and_false]

/-! The entry into a trap (R297). -/

theorem word_storeWord_self (s : State) (a : Nat) (v : Word) : (s.storeWord a v).word a = v :=
  (word_congr rfl a).trans (word_setWord_self s a v)

theorem word_storeWord_apart (s : State) (a b : Nat) (v : Word) (h : b + 1 < a ∨ a + 1 < b) :
    (s.storeWord a v).word b = s.word b := (word_congr rfl b).trans (word_setWord_apart s a b v h)

theorem byte_storeWord_apart (s : State) (a b : Nat) (v : Word) (h : b < a ∨ a + 1 < b) : (s.storeWord a v).byte b = s.byte b := by
  have first : b ≠ a := by omega
  have second : b ≠ a + 1 := by omega
  rw [byte_congr (show (s.storeWord a v).mem = (s.setWord a v).mem from rfl), State.setWord, byte_setByte, if_neg second, byte_setByte,
    if_neg first]

theorem putFld_or_byte (cause : Nat) (nn : Byte) : putFld cause 15 8 ||| nn.setWidth 16 = wd (cause * 256 + nn.toNat) := by
  have low : nn.toNat < 2 ^ 8 := nn.isLt
  apply BitVec.eq_of_toNat_eq
  rw [BitVec.toNat_or, putFld, wd, BitVec.toNat_ofNat, BitVec.toNat_setWidth, wd, BitVec.toNat_ofNat,
    Nat.mod_eq_of_lt (show nn.toNat < 2 ^ 16 by omega),
    Nat.mod_eq_of_lt (show (cause % 2 ^ (15 + 1 - 8)) <<< 8 < 2 ^ 16 by rw [Nat.shiftLeft_eq]; omega),
    ← Nat.shiftLeft_add_eq_or_of_lt low, Nat.shiftLeft_eq]
  omega

theorem flagWord_eq (z n c v : Bool) :
    bitW z 3 ||| bitW n 2 ||| bitW c 1 ||| bitW v 0 = wd (8 * b2n z + 4 * b2n n + 2 * b2n c + b2n v) := by
  revert z n c v; decide

/-- The record of a trap in the top words of data memory, which begins at b. -/
def trapRecord (s : State) (x : Engine) (b cause : Nat) (nn : Byte) (tpc : BitVec 12) : State :=
  ((s.storeWord (b + 2 * 0x3FF) (tpc.setWidth 16)).storeWord (b + 2 * 0x3FE) (putFld cause 15 8 ||| nn.setWidth 16)).storeWord
    (b + 2 * 0x3FD) (bitW x.z 3 ||| bitW x.n 2 ||| bitW x.c 1 ||| bitW x.v 0)

theorem trapRecord_tpc (s : State) (x : Engine) (b cause : Nat) (nn : Byte) (tpc : BitVec 12) :
    (trapRecord s x b cause nn tpc).word (b + 2 * 0x3FF) = tpc.setWidth 16 := by
  rw [trapRecord, word_storeWord_apart _ _ _ _ (by omega), word_storeWord_apart _ _ _ _ (by omega), word_storeWord_self]

theorem trapRecord_cause (s : State) (x : Engine) (b cause : Nat) (nn : Byte) (tpc : BitVec 12) :
    (trapRecord s x b cause nn tpc).word (b + 2 * 0x3FE) = wd (cause * 256 + nn.toNat) := by
  rw [trapRecord, word_storeWord_apart _ _ _ _ (by omega), word_storeWord_self, putFld_or_byte]

theorem trapRecord_flags (s : State) (x : Engine) (b cause : Nat) (nn : Byte) (tpc : BitVec 12) :
    (trapRecord s x b cause nn tpc).word (b + 2 * 0x3FD) = wd (8 * b2n x.z + 4 * b2n x.n + 2 * b2n x.c + b2n x.v) := by
  rw [trapRecord, word_storeWord_self, flagWord_eq]

theorem byte_trapRecord_apart (s : State) (x : Engine) (b cause : Nat) (nn : Byte) (tpc : BitVec 12) {a : Nat}
    (h : a < b + 2 * 0x3FD ∨ b + 2 * 0x400 ≤ a) : (trapRecord s x b cause nn tpc).byte a = s.byte a := by
  rw [trapRecord, byte_storeWord_apart _ _ _ _ (by omega), byte_storeWord_apart _ _ _ _ (by omega),
    byte_storeWord_apart _ _ _ _ (by omega)]

theorem eng_congr {s t : State} (h : t.clusters = s.clusters) (n : Fin 12) (e : Fin 14) : t.eng n e = s.eng n e := by
  rw [State.eng, State.cl, h]; rfl

@[simp] theorem storeWord_clusters (s : State) (a : Nat) (v : Word) : (s.storeWord a v).clusters = s.clusters := rfl

@[simp] theorem trapRecord_clusters (s : State) (x : Engine) (b cause : Nat) (nn : Byte) (tpc : BitVec 12) :
    (trapRecord s x b cause nn tpc).clusters = s.clusters := by
  simp only [trapRecord, storeWord_clusters]

/-- An update of a cluster that leaves its engines leaves every engine. -/
theorem eng_updCl_keeps {n : Fin 12} {f : Cluster → Cluster} (h : ∀ c, (f c).engines = c.engines) (s : State) (m : Fin 12)
    (d : Fin 14) : (s.updCl n f).eng m d = s.eng m d := by
  simp only [State.eng, State.cl, State.updCl, vget_vupd]
  split
  · rename_i same; subst same; rw [h]
  · rfl

@[simp] theorem releaseLock_mem (s : State) (n : Fin 12) (e : Fin 14) : (releaseLock s n e).mem = s.mem := by
  unfold releaseLock; dsimp only; split <;> rfl

theorem eng_releaseLock (s : State) (n m : Fin 12) (e d : Fin 14) :
    (releaseLock s n e).eng m d = (s.updEng n e fun x => { x with lockCount := 0 }).eng m d := by
  unfold releaseLock; dsimp only
  split
  · exact eng_updCl_keeps (f := fun c => { c with lock := none }) (fun _ => rfl) _ m d
  · rfl

theorem lock_releaseLock (s : State) (n : Fin 12) (e : Fin 14) : ((releaseLock s n e).cl n).lock ≠ some e := by
  unfold releaseLock; dsimp only
  split
  · rw [cl_updCl_self]; simp
  · rename_i free; rw [cl_updEng]; exact free

/-- A check of a field-side checker leaves memory and clusters. -/
theorem fieldCheck_keeps (s : State) (src : Nat) :
    (fieldCheck s src).2.mem = s.mem ∧ (fieldCheck s src).2.clusters = s.clusters := by
  unfold fieldCheck; dsimp only
  split
  · exact ⟨rfl, rfl⟩
  · split
    · exact ⟨rfl, rfl⟩
    · dsimp only; split <;> exact ⟨rfl, rfl⟩

theorem raiseField_keeps (s : State) (src d : Nat) (inj : Option Bool) :
    (raiseField s src d inj).mem = s.mem ∧ (raiseField s src d inj).clusters = s.clusters := by
  unfold raiseField
  split
  · exact ⟨raise_mem s src d, raise_clusters s src d⟩
  · split <;> exact ⟨rfl, rfl⟩

/-- The report of a trap leaves memory and clusters. -/
theorem trapReport_keeps (s : State) (n : Fin 12) (e : Fin 14) (cause : Nat) :
    (trapReport s n e cause).mem = s.mem ∧ (trapReport s n e cause).clusters = s.clusters := by
  unfold trapReport; dsimp only
  split
  · exact ⟨rfl, rfl⟩
  · split
    · obtain ⟨checkMem, checkCl⟩ := fieldCheck_keeps s (Src.trap n.val cause)
      obtain ⟨raiseMem, raiseCl⟩ := raiseField_keeps (fieldCheck s (Src.trap n.val cause)).2 (Src.trap n.val cause) e.val
        (fieldCheck s (Src.trap n.val cause)).1
      exact ⟨raiseMem.trans checkMem, raiseCl.trans checkCl⟩
    · exact ⟨raise_mem s _ _, raise_clusters s _ _⟩

theorem afterInstr_of_no_halt {s : State} {n : Fin 12} {e : Fin 14} (noHalt : (s.eng n e).haltPending = none)
    (noStep : (s.eng n e).stepping = false) : afterInstr s n e = s := by
  unfold afterInstr; simp [noHalt, noStep]

/-- The state at the first instruction of a trap routine (R297): the record stands and any lock is released. -/
def trapEntry (s : State) (n : Fin 12) (e : Fin 14) (p : Fin 16) (cause : Nat) (nn : Byte) (tpc : BitVec 12) : State :=
  (releaseLock (trapRecord s (s.eng n e) (dataBase n.val p.val) cause nn tpc) n e).updEng n e
    fun x => { x with ta := true, pc := 1, wdTrap := false }

theorem eng_trapEntry (s : State) (n : Fin 12) (e : Fin 14) (p : Fin 16) (cause : Nat) (nn : Byte) (tpc : BitVec 12) :
    (trapEntry s n e p cause nn tpc).eng n e = { s.eng n e with ta := true, pc := 1, wdTrap := false, lockCount := 0 } := by
  rw [trapEntry, eng_updEng_self, eng_releaseLock, eng_updEng_self,
    eng_congr (trapRecord_clusters s (s.eng n e) (dataBase n.val p.val) cause nn tpc)]

theorem eng_trapEntry_other {s : State} {n m : Fin 12} {e d : Fin 14} {p : Fin 16} {cause : Nat} {nn : Byte} {tpc : BitVec 12}
    (h : ¬(m = n ∧ d = e)) : (trapEntry s n e p cause nn tpc).eng m d = s.eng m d := by
  rw [trapEntry, eng_updEng_other _ _ _ _ _ _ h, eng_releaseLock, eng_updEng_other _ _ _ _ _ _ h,
    eng_congr (trapRecord_clusters s (s.eng n e) (dataBase n.val p.val) cause nn tpc)]

theorem lock_trapEntry (s : State) (n : Fin 12) (e : Fin 14) (p : Fin 16) (cause : Nat) (nn : Byte) (tpc : BitVec 12) :
    ((trapEntry s n e p cause nn tpc).cl n).lock ≠ some e := by
  rw [trapEntry, cl_updEng]
  exact lock_releaseLock _ n e

section
variable {s : State} {n : Fin 12} {e : Fin 14} {p : Fin 16} {cause : Nat} {nn : Byte} {tpc : BitVec 12}

/-- With no halt waiting, a trap comes to its entry, its report and its trace; TA at 1 stands in the way of all but WDOG (R299). -/
theorem engTrap_keeps_trapEntry (enters : (s.eng n e).ta = false ∨ cause = trapWDOG) (bound : (s.eng n e).phys = some p)
    (noHalt : (s.eng n e).haltPending = none) (noStep : (s.eng n e).stepping = false) :
    (engTrap s n e cause nn tpc).mem = (trapEntry s n e p cause nn tpc).mem ∧
    (engTrap s n e cause nn tpc).clusters = (trapEntry s n e p cause nn tpc).clusters := by
  let told := (trapReport (trapEntry s n e p cause nn tpc) n e cause).trace (clTrace n) 3 e.val cause
  obtain ⟨reportMem, reportCl⟩ := trapReport_keeps (trapEntry s n e p cause nn tpc) n e cause
  have toldMem : told.mem = (trapEntry s n e p cause nn tpc).mem := (trace_mem _ _ _ _ _).trans reportMem
  have toldCl : told.clusters = (trapEntry s n e p cause nn tpc).clusters := (trace_clusters _ _ _ _ _).trans reportCl
  have toldEng : told.eng n e = _ := (eng_congr toldCl n e).trans (eng_trapEntry s n e p cause nn tpc)
  have first : ¬((s.eng n e).ta = true ∧ cause ≠ trapWDOG) := by
    rintro ⟨ta, other⟩
    rcases enters with clear | dog
    · rw [clear] at ta; cases ta
    · exact other dog
  have entered : engTrap s n e cause nn tpc = afterInstr told n e := by
    unfold engTrap
    simp only [if_neg first, bound]
    rfl
  rw [entered, afterInstr_of_no_halt (by rw [toldEng]; exact noHalt) (by rw [toldEng]; exact noStep)]
  exact ⟨toldMem, toldCl⟩

/-- A trap with no halt waiting is entered as R297 says. -/
theorem trapEntered_engTrap (enters : (s.eng n e).ta = false ∨ cause = trapWDOG) (bound : (s.eng n e).phys = some p)
    (noHalt : (s.eng n e).haltPending = none) (noStep : (s.eng n e).stepping = false) :
    TrapEntered s (settle (engTrap s n e cause nn tpc)) n e p cause nn tpc := by
  obtain ⟨hmem, hcl⟩ := engTrap_keeps_trapEntry (nn := nn) (tpc := tpc) enters bound noHalt noStep
  have mem : (settle (engTrap s n e cause nn tpc)).mem = (trapRecord s (s.eng n e) (dataBase n.val p.val) cause nn tpc).mem := by
    rw [settle_mem, hmem, trapEntry, updEng_mem, releaseLock_mem]
  have eng (m : Fin 12) (d : Fin 14) : (settle (engTrap s n e cause nn tpc)).eng m d = (trapEntry s n e p cause nn tpc).eng m d := by
    rw [settle_eng, eng_congr hcl]
  have own := (eng n e).trans (eng_trapEntry s n e p cause nn tpc)
  constructor
  case tpcWord => rw [word_congr mem, trapRecord_tpc]
  case causeWord => rw [word_congr mem, trapRecord_cause]
  case flagWord => rw [word_congr mem, trapRecord_flags]
  case memory => intro a apart; rw [byte_congr mem, byte_trapRecord_apart _ _ _ _ _ _ apart]
  case ta => rw [own]
  case pc => rw [own]
  case regs => rw [own]
  case flags => rw [own]; exact ⟨rfl, rfl, rfl, rfl⟩
  case lock => rw [settle_cl_lock, State.cl, hcl]; exact lock_trapEntry s n e p cause nn tpc
  case engines => intro m d other; rw [eng, eng_trapEntry_other other]

end

/-- An instruction that is not legal traps ILLEGAL at its own address, where nothing stands in the way of its issue (R279, R300). -/
theorem engIssue_of_illegal {s : State} {n : Fin 12} {e : Fin 14} {op : EngOp} (h : Issues s n e) (illegal : engLegal op = false) :
    engIssue s n e op = engTrap s n e trapILLEGAL 0 (s.eng n e).pc := by
  have core : engIssue s n e op = issueCore s n e op := by
    unfold engIssue; simp [h.can, h.noDog, h.noBreak]
  rw [core]
  unfold issueCore; simp [illegal]

/-- The command of an instruction that is not legal enters the trap (R297). -/
theorem completes_illegal {c : Instr} {s : State} {n : Fin 12} {e : Fin 14} {t : Nat} {op : EngOp} {p : Fin 16}
    (row : exec c s = done (engIssue (s.at t) n e op)) (h : Issues s n e) (illegal : engLegal op = false)
    (ta : (s.eng n e).ta = false) (bound : (s.eng n e).phys = some p) :
    Completes c s fun u => TrapEntered s u n e p 1 0 (s.eng n e).pc := by
  rw [engIssue_of_illegal (h.at t) illegal] at row
  obtain ⟨tpcWord, causeWord, flagWord, memory, ta', pc, regs, flags, lock, engines⟩ :=
    trapEntered_engTrap (s := s.at t) (cause := trapILLEGAL) (nn := 0) (tpc := (s.eng n e).pc) (.inl ta) bound h.noHalt h.noStep
  exact completes_done row ⟨tpcWord, causeWord, flagWord, memory, ta', pc, regs, flags, lock, engines⟩

/-- Settles O35: each clause is what its instruction does to its own engine; the reserved condition enters the trap. -/
theorem branchesAndCalls : Obligations.BranchesAndCalls := by
  unfold Obligations.BranchesAndCalls
  constructor
  · intro n e code off t s h
    constructor
    · intro b taken
      exact completes_bcc h taken
    · rintro p rfl ta bound
      exact completes_illegal rfl h rfl ta bound
  · intro n e half t s h
    have jumps : exec (.jmp n e half t) s = done (engIssue (s.at t) n e (.jmp (BitVec.ofNat 12 (2 * half.toNat)))) := by
      rw [← target_eq]; rfl
    have calls : exec (.call n e half t) s = done (engIssue (s.at t) n e (.call (BitVec.ofNat 12 (2 * half.toNat)))) := by
      rw [← target_eq]; rfl
    have even := decide_eq_true (target_even half)
    refine ⟨?jmp, ?call, ?ret⟩
    case jmp =>
      exact completes_updEng jumps h even (engDo_jmp · n e _) fun _ => ⟨rfl, rfl⟩
    case call =>
      exact completes_updEng calls h even (engDo_call · n e _) fun _ => ⟨rfl, rfl⟩
    case ret => exact completes_updEng rfl h rfl (engDo_ret · n e) fun _ => ⟨rfl, rfl⟩

end Sys2Proof.Machine
end

section
/-! SUPPORT. What a request for intermission or its end, the wake log, a WAKE sequence and the reads that latch registers come to
(R137, R483, R486, R488, R489), and the obligation about intermission. -/

namespace Sys2Proof.Machine

/-! Registers, reports and words that leave. -/

/-- A meaning that writes no register leaves every copy, but for those of the closing part. -/
theorem sameRegs_settle {s x : State} (h : x.regs = s.regs) : SameRegs s (settle x) [] := by
  intro a k hk notClosing _
  rw [regSel_settle x a k hk notClosing, regSel_congr h]

/-- A source that the hub judges reaches both collectors (R417). -/
theorem hubReported_settle_raise (s : State) {src : Nat} (d : Nat) (hub : srcField src = false) :
    HubReported (settle (s.raise src d)) src d := by
  intro c
  have collected : (s.raise src d).flts = ((s.raiseCore .c0 src d).raiseCore .c1 src d).flts := by simp [State.raise, hub]
  refine ⟨s.ring.toNat, ?_⟩
  rw [State.flt, settle_flts, collected]
  cases c <;> simp [State.raiseCore, vget_vupd, Core.ix, State.ring]

theorem HubReported.congr {u v : State} {src d : Nat} (h : HubReported u src d) (same : v.flts = u.flts) : HubReported v src d := by
  unfold HubReported State.flt at h ⊢
  rwa [same]

@[simp] theorem sendWords_host (s : State) (r : Ring) (ws : List RingWord) : (sendWords s r ws).host = s.host := rfl

/-- What has been sent is what leaves where the transmit port carries traffic (R86). -/
theorem sends_sendWords (s : State) (r : Ring) (ws : List RingWord) : Sends s (sendWords s r ws) r ws := by
  simp [Sends, sendWords, State.stream]

/-! Reads that latch registers for a path (R137), and accesses while the target is not locked (R223). -/

@[simp] theorem latchRegs_host (path : Path) (l : List (Nat × Word)) (s : State) : (latchRegs s path l).host = s.host := by
  induction l generalizing s with
  | nil => rfl
  | cons x l ih => rw [latchRegs, ih, setRegSel_host]

theorem path_code_lt (path : Path) : path.code < 65536 := by cases path <;> decide

/-- A register that is not among those latched keeps its value. -/
theorem regSel_latchRegs_apart {path : Path} {l : List (Nat × Word)} {a : Nat} (apart : ∀ x ∈ l, x.1 ≠ a) (s : State) :
    (latchRegs s path l).regSel a path.code = s.regSel a path.code := by
  induction l generalizing s with
  | nil => rfl
  | cons x l ih =>
    obtain ⟨other, later⟩ := List.forall_mem_cons.1 apart
    have key : regKey a path.code ≠ regKey x.1 path.code := by
      rw [Ne, regKey_inj _ _ _ _ (path_code_lt path) (path_code_lt path)]
      exact fun same => other same.1.symm
    rw [latchRegs, ih later, regSel_setRegSel, if_neg key]

theorem regSel_latchRegs_cons {path : Path} {l : List (Nat × Word)} {a : Nat} (v : Word) (apart : ∀ x ∈ l, x.1 ≠ a) (s : State) :
    (latchRegs s path ((a, v) :: l)).regSel a path.code = v := by
  rw [latchRegs, regSel_latchRegs_apart apart, regSel_setRegSel, if_pos rfl]

theorem throughLock_of_unlocked {s : State} {path : Path} (unlocked : s.lockedOut path = false) (a : Nat) (w : Option Word)
    (f : State → State) : s.throughLock path a w f = f s := by
  rw [State.throughLock, unlocked]; rfl

/-! The request for intermission (R483) and the request for its end (R486). -/

theorem intmAsk_granted {s : State} (prompts : s.prompting = true) (noScene : s.cue.scene.target = none) (runs : s.host.intm = .running) :
    intmAsk s = s.updHost fun h => { h with
      intm := .pending, intmRef := false, intmClear := false, intmFrom := some (refCycle s .a + 2) } := by
  simp [intmAsk, prompts, noScene, runs]

theorem intmAsk_refused {s : State} (refused : s.prompting = false ∨ s.cue.scene.target ≠ none ∨ s.host.intm ≠ .running) :
    intmAsk s = s.updHost fun h => { h with intmRef := true } := by
  have closed : ¬((s.prompting && s.cue.scene.target.isNone && decide (s.host.intm = .running)) = true) := by
    simp only [Bool.and_eq_true, Option.isNone_iff_eq_none, decide_eq_true_eq]
    rintro ⟨⟨prompts, noScene⟩, runs⟩
    rcases refused with h | h | h
    · rw [prompts] at h; cases h
    · exact h noScene
    · exact h runs
  exact if_neg closed

/-- The end is asked for in intermission at the active prompter, and the first cause stays. -/
theorem resumeAsk_asked {s : State} (prompts : s.prompting = true) (inside : s.host.intm = .inside) (cause : Nat) :
    (resumeAsk s cause).host.intmClear = true ∧ (s.host.intmClear = false → (resumeAsk s cause).host.intmCause = cause) := by
  have asked : resumeAsk s cause = s.updHost fun h =>
      { h with intmCause := if h.intmClear then h.intmCause else cause, intmClear := true } := by
    simp [resumeAsk, prompts, inside]
  rw [asked]
  exact ⟨rfl, fun first => by simp [first]⟩

/-- The request for the end changes nothing but the host unit. -/
theorem resumeAsk_eq (s : State) (cause : Nat) : resumeAsk s cause = { s with host := (resumeAsk s cause).host } := by
  unfold resumeAsk; split <;> rfl

@[simp] theorem resumeAsk_regs (s : State) (cause : Nat) : (resumeAsk s cause).regs = s.regs := by rw [resumeAsk_eq]
@[simp] theorem resumeAsk_flts (s : State) (cause : Nat) : (resumeAsk s cause).flts = s.flts := by rw [resumeAsk_eq]
@[simp] theorem resumeAsk_present (s : State) (cause : Nat) : (resumeAsk s cause).present = s.present := by rw [resumeAsk_eq]; rfl
@[simp] theorem resumeAsk_wake (s : State) (cause : Nat) : (resumeAsk s cause).host.wake = s.host.wake := by
  unfold resumeAsk; split <;> rfl

/-! The wake log (R489). -/

/-- A log with room takes the entry, and the event shows it. -/
theorem logWake_room {s : State} (room : s.host.wake.length < 16) (ringB : Bool) (reason : Byte) :
    logWake s ringB reason =
      (s.updHost fun h => { h with wake := h.wake ++ [⟨ringB, reason, wd s.present.toNat⟩] }).evt HST_EVT 10 := if_pos room

/-- A full log loses the entry, which is counted and reported. -/
theorem logWake_full {s : State} (full : 16 ≤ s.host.wake.length) (ringB : Bool) (reason : Byte) :
    logWake s ringB reason = (s.bump HST_WAKE_LOST).raise Src.wakeLogLost 0 := if_neg (Nat.not_lt.2 full)

/-- Of the host unit an entry changes the log alone. -/
theorem logWake_host (s : State) (ringB : Bool) (reason : Byte) :
    (logWake s ringB reason).host = { s.host with wake := (logWake s ringB reason).host.wake } := by
  rcases Nat.lt_or_ge s.host.wake.length 16 with room | full
  · rw [logWake_room room]; rfl
  · rw [logWake_full full]; simp

@[simp] theorem logWake_intm (s : State) (ringB : Bool) (reason : Byte) : (logWake s ringB reason).host.intm = s.host.intm := by
  rw [logWake_host]
@[simp] theorem logWake_intmClear (s : State) (ringB : Bool) (reason : Byte) :
    (logWake s ringB reason).host.intmClear = s.host.intmClear := by rw [logWake_host]
@[simp] theorem logWake_intmCause (s : State) (ringB : Bool) (reason : Byte) :
    (logWake s ringB reason).host.intmCause = s.host.intmCause := by rw [logWake_host]

@[simp] theorem logWake_prompting (s : State) (ringB : Bool) (reason : Byte) : (logWake s ringB reason).prompting = s.prompting := by
  rcases Nat.lt_or_ge s.host.wake.length 16 with room | full
  · rw [logWake_room room]; rfl
  · rw [logWake_full full]; simp [State.prompting]

/-- A read takes the oldest entry out, but for a quiet read (R510). -/
theorem wakePop_wake (s : State) (path : Path) :
    (wakePop s path).2.host.wake = if quiet s path then s.host.wake else s.host.wake.tail := by
  unfold wakePop
  split
  · next empty => simp [empty]
  · next e rest oldest => rw [latchRegs_host]; split <;> simp [oldest]

/-- A read latches the cycle of the oldest entry, or 0 where there is none. -/
theorem wakePop_latched (s : State) (path : Path) :
    (wakePop s path).2.regSel HST_WAKE_W1 path.code = (s.host.wake.head?.map WakeEntry.cycle).getD 0 := by
  have apart : ∀ x ∈ [(HST_WAKE_W2, (0 : Word))], x.1 ≠ HST_WAKE_W1 := by decide
  unfold wakePop
  split
  · next empty => rw [empty]; exact regSel_latchRegs_cons _ apart _
  · next e rest oldest => rw [oldest]; exact regSel_latchRegs_cons _ apart _

/-! The commands. -/

theorem completes_intmResume_inside {s : State} (t : Nat) (prompts : s.prompting = true) (inside : s.host.intm = .inside) :
    Completes (.intmResume t) s fun u => u.host.intmClear = true ∧ (s.host.intmClear = false → u.host.intmCause = 1) ∧
      (s.host.wake.length < 16 → u.host.wake = s.host.wake ++ [⟨false, 0x80, wd s.present.toNat⟩]) := by
  have row : exec (.intmResume t) s = done (logWake (resumeAsk (s.at t) 1) false 0x80) := by
    have resumed : intmResume (s.at t) = logWake (resumeAsk (s.at t) 1) false 0x80 :=
      if_pos (Bool.and_eq_true_iff.2 ⟨prompts, decide_eq_true inside⟩)
    exact congrArg done resumed
  obtain ⟨asked, cause⟩ := resumeAsk_asked (s := s.at t) prompts inside 1
  refine completes_done row ⟨?_, fun first => ?_, fun room => ?_⟩
  · rw [settle_host_intmClear, logWake_intmClear, asked]
  · rw [settle_host_intmCause, logWake_intmCause, cause first]
  · have room' : (resumeAsk (s.at t) 1).host.wake.length < 16 := by rw [resumeAsk_wake]; exact room
    rw [settle_host_wake, logWake_room room']
    simp only [evt_host, updHost_host, resumeAsk_wake, resumeAsk_present]
    rfl

theorem completes_intmResume_outside {s : State} (t : Nat) (outside : s.prompting = false ∨ s.host.intm ≠ .inside) :
    Completes (.intmResume t) s fun u =>
      u.host.intmClear = s.host.intmClear ∧ u.host.wake = s.host.wake ∧ SameRegs s u [] := by
  have row : exec (.intmResume t) s = done (s.at t) := by
    have nothing : intmResume (s.at t) = s.at t := by
      refine if_neg fun both => ?_
      obtain ⟨(prompts : s.prompting = true), inside⟩ := Bool.and_eq_true_iff.1 both
      rcases outside with h | h
      · rw [prompts] at h; cases h
      · exact h (of_decide_eq_true inside)
    exact congrArg done nothing
  exact completes_done row ⟨settle_host_intmClear _, settle_host_wake _, sameRegs_settle rfl⟩

/-- Reason 0x02 has arisen, now or before. -/
theorem completes_intmWake {s : State} (t : Nat) (inside : s.host.intm = .inside) (enabled : s.bit HST_WAKE_EN 1 = true) :
    Completes (.intmWake t) s fun u => 2 ∈ u.host.reasons := by
  refine completes_done (x := (s.at t).wakeReason 2) rfl ?_
  rw [settle_host_reasons]
  have enabled' : (s.at t).bit HST_WAKE_EN (2 - 1) = true := enabled
  by_cases arisen : 2 ∈ s.host.reasons
  · simp [State.wakeReason, arisen]
  · simp [State.wakeReason, inside, enabled', arisen]

theorem completes_wakeSequenceSend {s : State} {t : Nat} {r : Ring} {reason : Fin 6} (inside : s.host.intm = .inside)
    (arisen : reason.val ∈ s.host.reasons) (opened : eventOpen (s.at t) r = true) (noFrame : (s.stream r).frame = none)
    (inserts : (inserter s).isSome = true) (free : guardShut s = false) :
    Completes (.wakeSequenceSend r reason t) s fun u =>
      Sends s u r [.wake (BitVec.ofNat 8 reason.val), .wake (BitVec.ofNat 8 reason.val), .wake (BitVec.ofNat 8 reason.val)] ∧
      reason.val ∈ u.host.sentReasons ∧ u.host.intmSent = true := by
  have row : exec (.wakeSequenceSend r reason t) s =
      done ((sendWords (s.at t) r (List.replicate 3 (.wake (BitVec.ofNat 8 reason.val)))).updHost fun h =>
        { h with intmSent := true
                 sentReasons := if h.sentReasons.contains reason.val then h.sentReasons else h.sentReasons ++ [reason.val] }) := by
    have noFrame' : ((s.at t).stream r).frame = none := noFrame
    have inserts' : (inserter (s.at t)).isSome = true := inserts
    have free' : guardShut (s.at t) = false := free
    refine congrArg done (if_pos ?_)
    simp [inside, arisen, opened, noFrame', inserts', free']
  refine completes_done row ⟨?_, ?_, ?_⟩
  · rw [Sends, State.stream, settle_streams, updHost_streams]
    exact sends_sendWords (s.at t) r _
  · rw [settle_host_sentReasons]
    by_cases sent : reason.val ∈ s.host.sentReasons <;> simp [sent]
  · rw [settle_host_intmSent]; rfl

/-- The reason byte that two of the three agree on, else 0 (R489). -/
def majorityByte (b0 b1 b2 : Byte) : Byte := if b0 = b1 ∨ b0 = b2 then b0 else if b1 = b2 then b1 else 0

/-- A WAKE sequence that has arrived is logged with the majority byte, and the end is asked for. -/
theorem exec_wakeReceive (r : Ring) (b0 b1 b2 : Byte) (t : Nat) (s : State) : exec (.wakeReceive r b0 b1 b2 t) s =
    done (resumeAsk (logWake (s.at t) (decide (r = .b)) (majorityByte b0 b1 b2)) 2) := rfl

theorem completes_wakeReceive_inside {s : State} (r : Ring) (b0 b1 b2 : Byte) (t : Nat) (prompts : s.prompting = true)
    (inside : s.host.intm = .inside) : Completes (.wakeReceive r b0 b1 b2 t) s fun u =>
      u.host.intmClear = true ∧ (s.host.intmClear = false → u.host.intmCause = 2) := by
  obtain ⟨asked, cause⟩ := resumeAsk_asked (s := logWake (s.at t) (decide (r = .b)) (majorityByte b0 b1 b2))
    (by rw [logWake_prompting]; exact prompts) (by rw [logWake_intm]; exact inside) 2
  refine completes_done (exec_wakeReceive r b0 b1 b2 t s) ⟨?_, fun first => ?_⟩
  · rw [settle_host_intmClear, asked]
  · rw [settle_host_intmCause, cause (by rw [logWake_intmClear]; exact first)]

theorem completes_wakeReceive_room {s : State} (r : Ring) (b0 b1 b2 : Byte) (t : Nat) (room : s.host.wake.length < 16) :
    Completes (.wakeReceive r b0 b1 b2 t) s fun u =>
      u.host.wake = s.host.wake ++ [⟨decide (r = .b), majorityByte b0 b1 b2, wd s.present.toNat⟩] ∧
      (u.reg HST_EVT).getLsbD 10 = true := by
  have logged := logWake_room (s := s.at t) room (decide (r = .b)) (majorityByte b0 b1 b2)
  refine completes_done (exec_wakeReceive r b0 b1 b2 t s) ⟨?_, ?_⟩
  · rw [settle_host_wake, resumeAsk_wake, logged]; rfl
  · rw [reg_settle_of_not_closing _ _ (by decide), reg_congr (resumeAsk_regs _ _), logged]
    exact reg_evt_bit _ _ _ (by decide)

theorem completes_wakeReceive_full {s : State} (r : Ring) (b0 b1 b2 : Byte) (t : Nat) (full : 16 ≤ s.host.wake.length) :
    Completes (.wakeReceive r b0 b1 b2 t) s fun u =>
      u.host.wake = s.host.wake ∧ u.reg HST_WAKE_LOST = bumpW (s.reg HST_WAKE_LOST) 1 ∧ HubReported u Src.wakeLogLost 0 := by
  have lost := logWake_full (s := s.at t) full (decide (r = .b)) (majorityByte b0 b1 b2)
  refine completes_done (exec_wakeReceive r b0 b1 b2 t s) ⟨?_, ?_, ?_⟩
  · rw [settle_host_wake, resumeAsk_wake, lost, raise_host]; rfl
  · rw [reg_settle_of_not_closing _ _ (by decide), reg_congr (resumeAsk_regs _ _), lost, reg_congr (raise_regs _ _ _), reg_bump_self]
    rfl
  · refine (hubReported_settle_raise ((s.at t).bump HST_WAKE_LOST) 0 (by decide)).congr ?_
    rw [settle_flts, settle_flts, resumeAsk_flts, lost]

/-- A read of HST_WAKE_W0 through any path: what is left of the log and what HST_WAKE_W1 then shows. -/
theorem completes_wakeLogPop {s : State} {path : Path} (t : Nat) (unlocked : s.lockedOut path = false) :
    Completes (.wakeLogPop path t) s fun u => u.host.wake = (if quiet s path then s.host.wake else s.host.wake.tail) ∧
      u.regSel HST_WAKE_W1 path.code = (s.host.wake.head?.map WakeEntry.cycle).getD 0 := by
  have row : exec (.wakeLogPop path t) s = done (wakePop (s.at t) path).2 :=
    congrArg done (throughLock_of_unlocked (s := s.at t) unlocked _ _ _)
  refine completes_done row ⟨?_, ?_⟩
  · rw [settle_host_wake, wakePop_wake]; rfl
  · rw [regSel_settle _ _ _ (path_code_lt path) (by decide), wakePop_latched]; rfl

/-- Settles O55: each clause is what its command does to the request, the reasons, the words that leave or the wake log. -/
theorem intermission : Obligations.Intermission := by
  unfold Obligations.Intermission
  intro t s
  refine ⟨?enter, ?refused, ?inside, ?outside, completes_intmWake t, ?send, ?logged, ?read, ?quietly⟩
  case enter =>
    intro prompts noScene runs
    have row : exec (.intmEnter t) s = done _ := congrArg done (intmAsk_granted (s := s.at t) prompts noScene runs)
    exact completes_done row ⟨settle_host_intm _, settle_host_intmFrom _, settle_host_intmRef _⟩
  case refused =>
    intro refused
    have row : exec (.intmEnter t) s = done _ := congrArg done (intmAsk_refused (s := s.at t) refused)
    exact completes_done row ⟨settle_host_intm _, settle_host_intmFrom _, settle_host_intmRef _⟩
  case inside =>
    intro prompts inside
    exact ⟨completes_intmResume_inside t prompts inside, fun r b0 b1 b2 => completes_wakeReceive_inside r b0 b1 b2 t prompts inside⟩
  case outside => exact completes_intmResume_outside t
  case send => exact fun r reason => completes_wakeSequenceSend
  case logged =>
    exact fun r b0 b1 b2 => ⟨completes_wakeReceive_room r b0 b1 b2 t, completes_wakeReceive_full r b0 b1 b2 t⟩
  case read =>
    intro path unlocked loud
    obtain ⟨u, run, left, latched⟩ := completes_wakeLogPop t unlocked
    rw [loud] at left
    constructor
    · intro e rest log
      rw [log] at left latched
      exact ⟨u, run, left, latched⟩
    · intro log
      rw [log] at left latched
      exact ⟨u, run, left, latched⟩
  case quietly =>
    intro path e rest unlocked silent log
    obtain ⟨u, run, left, latched⟩ := completes_wakeLogPop t unlocked
    rw [silent] at left
    rw [log] at latched
    exact ⟨u, run, left, latched⟩

end Sys2Proof.Machine
end

section
/-! SUPPORT. What holds of the block after every command: every meaning ends with the closing part, which leaves pins, e-fuse channels and
BYPASS_N ruled; and the obligations about every command, every step and the node after reset. -/

namespace Sys2Proof.Machine

/-! E-fuse channels (R446, R454, R461). -/

/-- A channel that is live, or newly due to start, is commanded on and no override keeps it off. -/
theorem fuseFollow_live {s : State} {c : Nat} {f : Fuse} (live : fuseLive (fuseFollow s c f).1 = true ∨ (fuseFollow s c f).2 = true) :
    fuseHeld s c = false ∧ fuseOn s c = true := by
  unfold fuseFollow at live
  dsimp only at live
  split at live
  · simp [fuseLive] at live
  · split at live
    · rename_i locked
      simp [fuseLive, locked] at live
    · split at live
      · simp [fuseLive] at live
      · rename_i free
        split at live
        · simp [fuseLive] at live
        · rename_i on
          exact ⟨by simpa using free, by simpa using on⟩

/-- Before the PWR section is applied by a power die that has started, every channel is off and none is due. -/
theorem fuseFollow_off {s : State} (closed : s.power.sectioned = false ∨ s.power.started = false) (c : Nat) (f : Fuse) :
    (fuseFollow s c f).1.phase = .off ∧ (fuseFollow s c f).2 = false := by
  have shut : (!s.power.sectioned || !s.power.started) = true := by rcases closed with h | h <;> simp [h]
  simp [fuseFollow, shut]

/-- The state in which the channels follow: the power die hears of darkness and intermission while its link is up (R461). -/
def fuseView (s : State) : State :=
  { s with power :=
      if s.power.link then { s.power with heardDark := s.fmodes.dark || s.dark.outHold, heardIntm := s.fintm } else s.power }

/-- What the closing part makes of a channel: what follows of it, and RAMP where it is the first that is due (R454). -/
theorem settleFuses_fuse (s : State) (c : Fin 16) :
    (settleFuses s).fuse c = (fuseFollow (fuseView s) c.val (s.fuse c)).1 ∨
    ((fuseFollow (fuseView s) c.val (s.fuse c)).2 = true ∧
      (settleFuses s).fuse c = { (fuseFollow (fuseView s) c.val (s.fuse c)).1 with phase := .ramp }) := by
  have follows : (settleFuses s).fuse c =
      if (List.finRange 16).find? (fun c => (fuseFollow (fuseView s) c.val (s.fuse c)).2) = some c then
        { (fuseFollow (fuseView s) c.val (s.fuse c)).1 with phase := .ramp } else (fuseFollow (fuseView s) c.val (s.fuse c)).1 := by
    simp [settleFuses, State.fuse, vget, fuseView]
  rw [follows]
  split
  · rename_i first
    exact .inr ⟨List.find?_some (p := fun c : Fin 16 => (fuseFollow (fuseView s) c.val (s.fuse c)).2) first, rfl⟩
  · exact .inl rfl

/-- The rules of the channels in the state in which they follow, where the registers are those of that state. -/
theorem settleFuses_ruled (s : State) : FusesRuled (settleFuses s) := by
  obtain ⟨fuses, view⟩ : ∃ fuses, (settleFuses s).power = { (fuseView s).power with fuses := fuses } := ⟨_, rfl⟩
  intro c
  constructor
  · intro closed
    rw [view] at closed
    obtain ⟨off, notDue⟩ := fuseFollow_off closed c.val (s.fuse c)
    rcases settleFuses_fuse s c with h | ⟨due, -⟩
    · rw [h, off]
    · rw [notDue] at due; cases due
  · intro live
    obtain ⟨free, on⟩ : fuseHeld (fuseView s) c.val = false ∧ fuseOn (fuseView s) c.val = true := by
      rcases settleFuses_fuse s c with h | ⟨due, -⟩
      · exact fuseFollow_live (.inl (h ▸ live))
      · exact fuseFollow_live (.inr due)
    simp only [fuseOn, Bool.and_eq_true] at on
    simp only [fuseHeld, Bool.or_eq_false_iff, Bool.and_eq_false_imp, decide_eq_false_iff_not, not_not] at free
    obtain ⟨⟨dark, intm⟩, path⟩ := free
    simp only [State.bit, State.reg, State.ef, regSel_congr (settleFuses_regs s), view]
    exact ⟨on.2, dark, intm, path⟩

/-- The rules of the channels rest on the power die and on registers alone. -/
theorem FusesRuled.congr {s t : State} (h : FusesRuled s) (power : t.power = s.power)
    (on : t.reg PWR_EF_ON = s.reg PWR_EF_ON) (cfg : ∀ c : Fin 16, t.ef PWR_EF_CFG c = s.ef PWR_EF_CFG c) : FusesRuled t := by
  intro c
  simp only [State.bit, State.fuse, power, on, cfg]
  exact h c

/-- The closing part after the channels leaves the power die. -/
theorem settle_power_eq (s : State) :
    (settle s).power = (settleFuses (settleHolds (settleLock (settleRange .b (settleRange .a s))))).power := by
  simp only [settle, settleFwd_power, settleSignals_power, settleCan_fold (fun s : State => s.power) settleCan_power]
  simp

theorem regSel_settleFuses_holds (s : State) {a k : Nat} (hk : k < 65536) (ha : a ≠ TIM_EVT) :
    (settleFuses (settleHolds (settleLock (settleRange .b (settleRange .a s))))).regSel a k = s.regSel a k := by
  rw [regSel_congr (settleFuses_regs _), regSel_congr (settleHolds_regs _), regSel_congr (settleLock_regs _),
    regSel_settleRange _ _ a k hk ha, regSel_settleRange _ _ a k hk ha]

theorem settle_fusesRuled (s : State) : FusesRuled (settle s) := by
  refine (settleFuses_ruled (settleHolds (settleLock (settleRange .b (settleRange .a s))))).congr (settle_power_eq s) ?_ fun c => ?_
  · exact (regSel_settle s _ 0 (by decide) (by decide)).trans (regSel_settleFuses_holds s (by decide) (by decide)).symm
  · have small : c.val < 65536 := by omega
    exact (regSel_settle s _ c.val small (by decide)).trans (regSel_settleFuses_holds s small (by decide)).symm

/-! BYPASS_N (R58). -/

theorem settle_start_eq (s : State) : (settle s).start =
    (settleBypass (settleFuses (settleHolds (settleLock (settleRange .b (settleRange .a s)))))).start := by
  simp only [settle, settleFwd_start, settleSignals_start, settleCan_fold (fun s : State => s.start) settleCan_start]
  simp

theorem settle_bypassRuled (s : State) : BypassRuled (settle s) := by
  obtain ⟨x, hx⟩ : ∃ x, x = settleFuses (settleHolds (settleLock (settleRange .b (settleRange .a s)))) := ⟨_, rfl⟩
  have start : (settle s).start = { x.start with bypassLow := bypassLow x } := by rw [settle_start_eq, ← hx]; rfl
  have power : (settle s).power = x.power := by rw [settle_power_eq, hx]
  have dark : (settle s).dark.dark = x.dark.dark := by rw [settle_dark_dark, hx]; simp [settleHolds]
  have byp : (settle s).reg LNK_BYP = x.reg LNK_BYP := by
    rw [hx]
    exact (regSel_settle s _ 0 (by decide) (by decide)).trans (regSel_settleFuses_holds s (by decide) (by decide)).symm
  simp only [BypassRuled, State.bit, start, power, dark, byp]
  constructor
  · intro low
    exact if_pos low
  · intro early high applied light
    have free : ¬(3 ≤ x.power.cfStep ∨ x.start.resetLow = true) := by rw [high]; simpa using early
    simp [bypassLow, free, applied, light, State.bit]

/-! Every command. -/

theorem settle_keeps_rules (s : State) : Ruled (settle s) := ⟨settle_ruled s, settle_fusesRuled s, settle_bypassRuled s⟩

/-- Every meaning ends with the closing part. -/
theorem exec_eq_done (c : Instr) (s : State) : ∃ x, exec c s = done x := by
  cases c <;> exact ⟨_, rfl⟩

/-- Settles O2: every meaning ends with the closing part, which leaves pins, e-fuse channels and BYPASS_N ruled. -/
theorem everyCommandCompletes : Obligations.EveryCommandCompletes := by
  unfold Obligations.EveryCommandCompletes
  intro c s
  obtain ⟨x, hx⟩ := exec_eq_done c s
  exact completes_done hx (settle_keeps_rules x)

/-- Settles O1: step is defined by the front of the queue. -/
theorem stepTakesTheFront : Obligations.StepTakesTheFront := by
  unfold Obligations.StepTakesTheFront
  refine ⟨fun c rest s => rfl, fun s idle => ?_⟩
  rw [step, idle]

/-- Settles O3: a block that idles keeps its state, and every command leaves the rules in force. -/
theorem stepKeepsRules : Obligations.StepKeepsRules := by
  unfold Obligations.StepKeepsRules
  intro s t ruled run
  rw [step] at run
  split at run
  · cases run; exact ruled
  · rename_i c rest _
    obtain ⟨u, hu, after⟩ := everyCommandCompletes c { s with pending := rest }
    rw [hu] at run
    cases run
    exact after

/-! The node after reset (R11, R304, R308, R394, R440, R503). -/

theorem reset_pinsUndriven : PinsUndriven State.reset := by
  intro k
  simp [State.pin, State.reset, vget, Pin.init]

theorem reset_pinCfg (k : Fin 144) : State.reset.pinCfg k = none := by
  simp [State.pinCfg, State.cl, State.reset, vget, Cluster.init]

theorem reset_ruled : Ruled State.reset where
  pins := by
    intro k
    obtain ⟨rank, out⟩ := reset_pinsUndriven k
    rw [rank, out]
    simp [pinRank, pinOut, reset_pinCfg]
  fuses := by
    intro c
    have off : (State.reset.fuse c).phase = .off := by simp [State.fuse, State.reset, vget, PowerState.init, Fuse.init]
    simp [off, fuseLive]
  bypass := ⟨fun _ => rfl, fun _ _ applied => by cases applied⟩

/-- Settles O4: the initial values, unit by unit. -/
theorem resetState : Obligations.ResetState := by
  unfold Obligations.ResetState
  refine ⟨reset_ruled, reset_pinsUndriven, rfl, reset_mem_wf, ?clusters, ?cores, ?ports, rfl, ?vfail, ?vgood, ?vovp⟩
  case clusters => intro n; simp [State.cl, State.reset, vget, Cluster.init]
  case cores => intro c; cases c <;> rfl
  case ports => intro p; cases p <;> rfl
  case vfail => rfl
  case vgood => rfl
  case vovp => rfl

end Sys2Proof.Machine
end

section
/-! SUPPORT. Reading what a named update of State has written, unit by unit, and register copies through the updates of registers. -/

namespace Sys2Proof.Machine

/-! Units told apart by their index. -/

theorem barDir_ix_inj {d e : BarDir} : d.ix = e.ix ↔ d = e := by cases d <;> cases e <;> decide
theorem port_ix_inj {p q : Port} : p.ix = q.ix ↔ p = q := by cases p <;> cases q <;> decide
theorem ring_ix_inj {r q : Ring} : r.ix = q.ix ↔ r = q := by cases r <;> cases q <;> decide
theorem core_ix_inj {c e : Core} : c.ix = e.ix ↔ c = e := by cases c <;> cases e <;> decide

theorem bdir_updBar (s : State) (d e : BarDir) (f : BarDirState → BarDirState) :
    (s.updBar d f).bdir e = if e = d then f (s.bdir d) else s.bdir e := by
  simp only [State.bdir, State.updBar, vget_vupd, barDir_ix_inj]
@[simp] theorem bdir_updBar_self (s : State) (d : BarDir) (f : BarDirState → BarDirState) : (s.updBar d f).bdir d = f (s.bdir d) := by
  simp [bdir_updBar]
theorem link_updLink (s : State) (p q : Port) (f : LinkPort → LinkPort) :
    (s.updLink p f).link q = if q = p then f (s.link p) else s.link q := by
  simp only [State.link, State.updLink, vget_vupd, port_ix_inj]
@[simp] theorem link_updLink_self (s : State) (p : Port) (f : LinkPort → LinkPort) : (s.updLink p f).link p = f (s.link p) := by
  simp [link_updLink]
theorem stream_updStream (s : State) (r q : Ring) (f : EventStream → EventStream) :
    (s.updStream r f).stream q = if q = r then f (s.stream r) else s.stream q := by
  simp only [State.stream, State.updStream, vget_vupd, ring_ix_inj]
@[simp] theorem stream_updStream_self (s : State) (r : Ring) (f : EventStream → EventStream) :
    (s.updStream r f).stream r = f (s.stream r) := by simp [stream_updStream]
theorem core_updCore (s : State) (c e : Core) (f : CoreState → CoreState) :
    (s.updCore c f).core e = if e = c then f (s.core c) else s.core e := by
  simp only [State.core, State.updCore, vget_vupd, core_ix_inj]
@[simp] theorem core_updCore_self (s : State) (c : Core) (f : CoreState → CoreState) : (s.updCore c f).core c = f (s.core c) := by
  simp [core_updCore]
theorem can_updCan (s : State) (c e : Fin 4) (f : CanCtl → CanCtl) :
    (s.updCan c f).can e = if e = c then f (s.can c) else s.can e := by
  simp only [State.can, State.updCan, vget_vupd]
@[simp] theorem can_updCan_self (s : State) (c : Fin 4) (f : CanCtl → CanCtl) : (s.updCan c f).can c = f (s.can c) := by
  simp [can_updCan]
theorem pin_updPin (s : State) (k j : Fin 144) (f : Pin → Pin) :
    (s.updPin k f).pin j = if j = k then f (s.pin k) else s.pin j := by
  simp only [State.pin, State.updPin, vget_vupd]
@[simp] theorem pin_updPin_self (s : State) (k : Fin 144) (f : Pin → Pin) : (s.updPin k f).pin k = f (s.pin k) := by simp [pin_updPin]
theorem cl_updCl (s : State) (n m : Fin 12) (f : Cluster → Cluster) :
    (s.updCl n f).cl m = if m = n then f (s.cl n) else s.cl m := by
  simp only [State.cl, State.updCl, vget_vupd]
theorem vget_updFlt (s : State) (c e : Core) (f : Collector → Collector) :
    vget (s.updFlt c f).flts e.ix = if e = c then f (vget s.flts c.ix) else vget s.flts e.ix := by
  simp only [State.updFlt, vget_vupd, core_ix_inj]

/-! What a unit reads where the field of State that holds it is as before. -/

theorem bdir_congr {s t : State} (h : t.bar = s.bar) (d : BarDir) : t.bdir d = s.bdir d := by rw [State.bdir, h]; rfl
theorem link_congr {s t : State} (h : t.links = s.links) (p : Port) : t.link p = s.link p := by rw [State.link, h]; rfl
theorem stream_congr {s t : State} (h : t.streams = s.streams) (r : Ring) : t.stream r = s.stream r := by rw [State.stream, h]; rfl
theorem core_congr {s t : State} (h : t.lead = s.lead) (c : Core) : t.core c = s.core c := by rw [State.core, h]; rfl
theorem cl_congr {s t : State} (h : t.clusters = s.clusters) (n : Fin 12) : t.cl n = s.cl n := by rw [State.cl, h]; rfl
theorem pin_congr {s t : State} (h : t.pins = s.pins) (k : Fin 144) : t.pin k = s.pin k := by rw [State.pin, h]; rfl

@[simp] theorem settle_link (s : State) (p : Port) : (settle s).link p = s.link p := link_congr (settle_links s) p
@[simp] theorem settle_stream (s : State) (r : Ring) : (settle s).stream r = s.stream r := stream_congr (settle_streams s) r
@[simp] theorem settle_core (s : State) (c : Core) : (settle s).core c = s.core c := core_congr (settle_lead s) c

/-! The instant of a command changes no unit. -/

@[simp] theorem at_bdir (s : State) (t : Nat) (d : BarDir) : (s.at t).bdir d = s.bdir d := rfl
@[simp] theorem at_link (s : State) (t : Nat) (p : Port) : (s.at t).link p = s.link p := rfl
@[simp] theorem at_stream (s : State) (t : Nat) (r : Ring) : (s.at t).stream r = s.stream r := rfl
@[simp] theorem at_core (s : State) (t : Nat) (c : Core) : (s.at t).core c = s.core c := rfl
@[simp] theorem at_cl (s : State) (t : Nat) (n : Fin 12) : (s.at t).cl n = s.cl n := rfl
@[simp] theorem at_eng (s : State) (t : Nat) (n : Fin 12) (e : Fin 14) : (s.at t).eng n e = s.eng n e := rfl
@[simp] theorem at_pin (s : State) (t : Nat) (k : Fin 144) : (s.at t).pin k = s.pin k := rfl
@[simp] theorem at_can (s : State) (t : Nat) (c : Fin 4) : (s.at t).can c = s.can c := rfl
@[simp] theorem at_pacer (s : State) (t : Nat) (n : Fin 12) (q : Fin 16) : (s.at t).pacer n q = s.pacer n q := rfl
@[simp] theorem at_conduit (s : State) (t : Nat) (n : Fin 12) (q : Fin 16) : (s.at t).conduit n q = s.conduit n q := rfl
@[simp] theorem at_regSel (s : State) (t a k : Nat) : (s.at t).regSel a k = s.regSel a k := rfl
@[simp] theorem at_reg (s : State) (t a : Nat) : (s.at t).reg a = s.reg a := rfl
@[simp] theorem at_bit (s : State) (t a i : Nat) : (s.at t).bit a i = s.bit a i := rfl
@[simp] theorem at_fld (s : State) (t a i j : Nat) : (s.at t).fld a i j = s.fld a i j := rfl
@[simp] theorem at_byte (s : State) (t a : Nat) : (s.at t).byte a = s.byte a := rfl
@[simp] theorem at_word (s : State) (t a : Nat) : (s.at t).word a = s.word a := rfl
@[simp] theorem at_darkPath (s : State) (t : Nat) : (s.at t).darkPath = s.darkPath := rfl
@[simp] theorem at_present (s : State) (t : Nat) : (s.at t).present = s.present := rfl

/-! Registers through the updates of registers. -/

theorem regSel_setReg (s : State) (a b k : Nat) (v : Word) (hk : k < 65536) :
    (s.setReg a v).regSel b k = if b = a ∧ k = 0 then v else s.regSel b k := by
  simp only [State.setReg, regSel_setRegSel, regKey_inj b a k 0 hk (by decide)]

theorem reg_setReg_self (s : State) (a : Nat) (v : Word) : (s.setReg a v).reg a = v := by
  rw [State.reg, regSel_setReg _ _ _ _ _ (by decide), if_pos ⟨rfl, rfl⟩]

theorem reg_setReg_ne (s : State) {a b : Nat} (v : Word) (h : b ≠ a) : (s.setReg a v).reg b = s.reg b := by
  rw [State.reg, regSel_setReg _ _ _ _ _ (by decide), if_neg fun x => h x.1]; rfl

theorem regSel_setReg_ne (s : State) {a b : Nat} (k : Nat) (v : Word) (hk : k < 65536) (h : b ≠ a) :
    (s.setReg a v).regSel b k = s.regSel b k := by
  rw [regSel_setReg _ _ _ _ _ hk, if_neg fun x => h x.1]

/-- Registers as before but for those named, in every copy. -/
def KeepsRegs (s x : State) (but : List Nat) : Prop := ∀ a k, k < 65536 → a ∉ but → x.regSel a k = s.regSel a k

theorem KeepsRegs.of_regs {s x : State} (h : x.regs = s.regs) (but : List Nat) : KeepsRegs s x but := fun a k _ _ => regSel_congr h a k

theorem KeepsRegs.trans {s x y : State} {but : List Nat} (h : KeepsRegs s x but) (g : KeepsRegs x y but) : KeepsRegs s y but :=
  fun a k hk ha => (g a k hk ha).trans (h a k hk ha)

theorem KeepsRegs.evt {s x : State} {but : List Nat} (h : KeepsRegs s x but) {b : Nat} (hb : b ∈ but) (i : Nat) :
    KeepsRegs s (x.evt b i) but :=
  fun a k hk ha => (regSel_evt x b i a k hk fun e => ha (e ▸ hb)).trans (h a k hk ha)

theorem KeepsRegs.bump {s x : State} {but : List Nat} (h : KeepsRegs s x but) {b : Nat} (hb : b ∈ but) : KeepsRegs s (x.bump b) but :=
  fun a k hk ha => (regSel_bump x b a k hk fun e => ha (e ▸ hb)).trans (h a k hk ha)

theorem KeepsRegs.setReg {s x : State} {but : List Nat} (h : KeepsRegs s x but) {b : Nat} (hb : b ∈ but) (v : Word) :
    KeepsRegs s (x.setReg b v) but :=
  fun a k hk ha => (regSel_setReg_ne x k v hk fun e : a = b => ha (e ▸ hb)).trans (h a k hk ha)

theorem KeepsRegs.raise {s x : State} {but : List Nat} (h : KeepsRegs s x but) (src d : Nat) : KeepsRegs s (x.raise src d) but :=
  h.trans (.of_regs (raise_regs x src d) but)

/-- The closing part of a meaning writes only registers of its own. -/
theorem KeepsRegs.settle {s x : State} {but : List Nat} (h : KeepsRegs s x but) : SameRegs s (settle x) but :=
  fun a k hk closing ha => (regSel_settle x a k hk closing).trans (h a k hk ha)

theorem sameMemory_settle {s x : State} (h : x.mem = s.mem) : SameMemory s (settle x) := fun a => by
  rw [settle_byte, byte_congr h]

/-! Reports and the barrier. -/

/-- A report changes of the barrier what is ready alone. -/
theorem moreReady_raise (s : State) (a d : Nat) : MoreReady s (s.raise a d) := by
  unfold State.raise
  split
  · split
    · exact moreReady_barReady _ _ _ _
    · exact .refl _ _ rfl
  · exact .refl _ _ rfl

/-- What a direction keeps where messages are only made ready. -/
theorem MoreReady.keeps {s u : State} (h : MoreReady s u) (d : BarDir) :
    u.bdir d = { s.bdir d with ready := (u.bdir d).ready } := by
  obtain ⟨more, hm⟩ := h d
  rw [hm]

@[simp] theorem raise_bdir_flight (s : State) (a b : Nat) (d : BarDir) : ((s.raise a b).bdir d).flight = (s.bdir d).flight := by
  rw [(moreReady_raise s a b).keeps]
@[simp] theorem raise_bdir_expected (s : State) (a b : Nat) (d : BarDir) : ((s.raise a b).bdir d).expected = (s.bdir d).expected := by
  rw [(moreReady_raise s a b).keeps]
@[simp] theorem raise_bdir_trained (s : State) (a b : Nat) (d : BarDir) : ((s.raise a b).bdir d).trained = (s.bdir d).trained := by
  rw [(moreReady_raise s a b).keeps]
@[simp] theorem raise_bdir_retraining (s : State) (a b : Nat) (d : BarDir) :
    ((s.raise a b).bdir d).retraining = (s.bdir d).retraining := by
  rw [(moreReady_raise s a b).keeps]
@[simp] theorem raise_bdir_failed (s : State) (a b : Nat) (d : BarDir) : ((s.raise a b).bdir d).failed = (s.bdir d).failed := by
  rw [(moreReady_raise s a b).keeps]
@[simp] theorem raise_bdir_active (s : State) (a b : Nat) (d : BarDir) : ((s.raise a b).bdir d).active = (s.bdir d).active := by
  rw [(moreReady_raise s a b).keeps]
@[simp] theorem raise_bdir_toReplace (s : State) (a b : Nat) (d : BarDir) :
    ((s.raise a b).bdir d).toReplace = (s.bdir d).toReplace := by
  rw [(moreReady_raise s a b).keeps]

@[simp] theorem bump_bdir (s : State) (a : Nat) (d : BarDir) : (s.bump a).bdir d = s.bdir d := bdir_congr (bump_bar s a) d
@[simp] theorem evt_bdir (s : State) (a i : Nat) (d : BarDir) : (s.evt a i).bdir d = s.bdir d := bdir_congr (evt_bar s a i) d

end Sys2Proof.Machine
end

section
/-! SUPPORT. Sending on the barrier: which ready message starts, what an answer, a timeout and a retraining make of the messages not
acknowledged (R14-R17, R20), and the obligation about it. -/

namespace Sys2Proof.Machine

/-! Choice of the message that starts (R17). -/

/-- A message that no lower-ranked waiting message has been passed by may start. -/
theorem readyStart_of_unpassed {l : List BarReady} {m : BarReady}
    (h : ∀ w ∈ l, w.msg.type.rank ≤ m.msg.type.rank ∨ m.msg.type ∉ w.passed) : readyStart l m = true := by
  simp only [readyStart, Bool.or_eq_true, List.all_eq_true, decide_eq_true_eq, Bool.not_eq_true', List.contains_eq_mem,
    decide_eq_false_iff_not]
  exact .inr h

/-- A message that some lower-ranked waiting message has been passed by may not start. -/
theorem readyStart_of_passed {l : List BarReady} {m w : BarReady} (hw : w ∈ l) (claim : m.msg.type ≠ .claim)
    (lower : m.msg.type.rank < w.msg.type.rank) (passed : m.msg.type ∈ w.passed) : readyStart l m = false := by
  have fails : ¬∀ w ∈ l, w.msg.type.rank ≤ m.msg.type.rank ∨ m.msg.type ∉ w.passed := fun all =>
    (all w hw).elim (fun le => absurd lower (not_lt.2 le)) (fun not => not passed)
  simpa [readyStart, claim] using fails

/-- One step of the choice: the best so far gives way to a message that may start and ranks higher. -/
def better (l : List BarReady) (best : Option BarReady) (m : BarReady) : Option BarReady :=
  if !readyStart l m then best
  else match best with
    | none => some m
    | some b => if m.msg.type.rank < b.msg.type.rank then some m else some b

theorem pickReady_eq (l : List BarReady) : pickReady l = l.foldl (better l) none := rfl

/-- Of messages ranked below a bound the choice is none or ranked below it. -/
theorem foldl_better_below {l : List BarReady} {r : Fin 9} (pre : List BarReady) (below : ∀ w ∈ pre, r < w.msg.type.rank) :
    ∀ best : Option BarReady, (∀ b, best = some b → r < b.msg.type.rank) →
      ∀ b, pre.foldl (better l) best = some b → r < b.msg.type.rank := by
  induction pre with
  | nil => intro best h b hb; exact h b hb
  | cons w t ih =>
    intro best h
    refine ih (fun x hx => below x (List.mem_cons_of_mem _ hx)) _ ?_
    have hw := below w List.mem_cons_self
    intro b hb
    unfold better at hb
    split at hb
    · exact h b hb
    · split at hb
      · cases hb; exact hw
      · split at hb <;> cases hb
        · exact hw
        · exact h _ rfl

/-- A choice stays where no later message ranks higher. -/
theorem foldl_better_stays {l : List BarReady} {m : BarReady} (post : List BarReady) (h : ∀ w ∈ post, m.msg.type.rank ≤ w.msg.type.rank) :
    post.foldl (better l) (some m) = some m := by
  induction post with
  | nil => rfl
  | cons w t ih =>
    have stays : better l (some m) w = some m := by
      unfold better
      split
      · rfl
      · exact if_neg (not_lt.2 (h w List.mem_cons_self))
    rw [List.foldl_cons, stays]
    exact ih fun x hx => h x (List.mem_cons_of_mem _ hx)

/-- The oldest of the highest-ranked messages is chosen where it may start. -/
theorem pickReady_first {pre post : List BarReady} {m : BarReady} (start : readyStart (pre ++ m :: post) m = true)
    (hpre : ∀ w ∈ pre, m.msg.type.rank < w.msg.type.rank) (hpost : ∀ w ∈ post, m.msg.type.rank ≤ w.msg.type.rank) :
    pickReady (pre ++ m :: post) = some m := by
  have below := foldl_better_below (l := pre ++ m :: post) pre hpre none (fun b hb => by cases hb)
  rw [pickReady_eq, List.foldl_append, List.foldl_cons]
  have chosen : better (pre ++ m :: post) (pre.foldl (better (pre ++ m :: post)) none) m = some m := by
    rcases h : pre.foldl (better (pre ++ m :: post)) none with _ | b
    · simp [better, start]
    · simp [better, start, below b h]
  rw [chosen]
  exact foldl_better_stays post hpost

/-- A message whose rank has been passed by the type of the one that waits behind it goes first. -/
theorem pickReady_passed {w m : BarReady} (claim : m.msg.type ≠ .claim) (lower : m.msg.type.rank < w.msg.type.rank)
    (passed : m.msg.type ∈ w.passed) : pickReady [w, m] = some w := by
  have held : readyStart [w, m] m = false := readyStart_of_passed (w := w) (by simp) claim lower passed
  have free : readyStart [w, m] w = true := by
    refine readyStart_of_unpassed fun x hx => ?_
    rcases List.mem_pair.1 hx with rfl | rfl
    · exact .inl le_rfl
    · exact .inl lower.le
  simp [pickReady_eq, better, held, free]

/-! The start of a message (R14, R17). -/

/-- A message without conduit words has something to carry, and starts as it is. -/
theorem hasBody_of_not_conduit {m : BarMsg} (h : ¬m.body matches .conduit ..) (s : State) (d : BarDir) : hasBody s d m = true := by
  obtain ⟨ty, body⟩ := m
  cases body
  case conduit => simp at h
  all_goals rfl

/-- What the start of a message leaves of a direction. -/
def started (b : BarDirState) (now : Nat) (m : BarReady) : BarDirState :=
  { b with ready := (b.ready.erase m).map (notePassed m.msg.type)
           flight := b.flight ++ [⟨m.msg, vget b.nextSeq m.msg.type.rank, now, 0, true, false, .none, false⟩]
           nextSeq := vset b.nextSeq m.msg.type.rank (vget b.nextSeq m.msg.type.rank + 1) }

theorem startMessage_of_not_conduit {m : BarReady} (h : ¬m.msg.body matches .conduit ..) (s : State) (d : BarDir) :
    startMessage s d m = s.updBar d fun b => started b s.now m := by
  obtain ⟨⟨ty, body⟩, passed⟩ := m
  cases body
  case conduit => simp at h
  all_goals rfl

/-- The message that is chosen among messages without conduit words starts. -/
theorem bdir_barrierSend {s : State} {d : BarDir} {m : BarReady} (passes : barPasses (s.bdir d) = true)
    (plain : ∀ w ∈ (s.bdir d).ready, ¬w.msg.body matches .conduit ..) (picked : pickReady (s.bdir d).ready = some m)
    (hm : m ∈ (s.bdir d).ready) : (barrierSend s d).bdir d = started (s.bdir d) s.now m := by
  have all : (s.bdir d).ready.filter (fun m => hasBody s d m.msg) = (s.bdir d).ready :=
    List.filter_eq_self.2 fun w hw => hasBody_of_not_conduit (plain w hw) s d
  have kept : (s.updBar d fun b => { b with ready := b.ready.filter fun m => hasBody s d m.msg }).bdir d = s.bdir d := by
    rw [bdir_updBar_self, all]
  unfold barrierSend
  simp only [passes, Bool.not_true, Bool.false_eq_true, if_false, kept, picked]
  rw [startMessage_of_not_conduit (plain m hm), bdir_updBar_self, kept]
  rfl

theorem completes_barrierSend {d : BarDir} {t : Nat} {s : State} {m : BarReady} (passes : barPasses (s.bdir d) = true)
    (plain : ∀ w ∈ (s.bdir d).ready, ¬w.msg.body matches .conduit ..) (picked : pickReady (s.bdir d).ready = some m)
    (hm : m ∈ (s.bdir d).ready) : Completes (.barrierSend d t) s fun u =>
      ((u.bdir d).flight =
          (s.bdir d).flight ++ [⟨m.msg, vget (s.bdir d).nextSeq m.msg.type.rank, max s.now t, 0, true, false, .none, false⟩] ∧
        (u.bdir d).nextSeq = vset (s.bdir d).nextSeq m.msg.type.rank (vget (s.bdir d).nextSeq m.msg.type.rank + 1)) ∧
      ∀ w ∈ ((s.bdir d).ready.erase m).map (notePassed m.msg.type), w ∈ (u.bdir d).ready := by
  have sent : (barrierSend (s.at t) d).bdir d = started (s.bdir d) (max s.now t) m := bdir_barrierSend passes plain picked hm
  refine completes_done (x := barrierSend (s.at t) d) rfl ⟨⟨?_, ?_⟩, fun w hw => ?_⟩
  · rw [settle_bdir_flight, sent]; rfl
  · rw [settle_bdir_nextSeq, sent]; rfl
  · obtain ⟨more, ready⟩ := moreReady_settle (barrierSend (s.at t) d) d
    rw [ready, sent]
    exact List.mem_append_left _ hw

/-- The mark that a lower-ranked message bears which has been passed. -/
theorem notePassed_eq (ty : BarType) (w : BarReady) :
    notePassed ty w = if ty.rank < w.msg.type.rank ∧ ty ≠ .claim then { w with passed := ty :: w.passed } else w := by
  unfold notePassed
  by_cases claim : ty = .claim
  · simp [claim]
  · by_cases lower : ty.rank < w.msg.type.rank
    · simp [claim, lower]
    · simp [lower, not_lt.1 lower]

/-! The messages of a direction that are not acknowledged (R15, R16, R20). -/

theorem dropFirst_append {p : BarFlight → Bool} {pre post : List BarFlight} {f : BarFlight} (hpre : ∀ g ∈ pre, p g = false)
    (hf : p f = true) : dropFirst p (pre ++ f :: post) = pre ++ post := by
  induction pre with
  | nil => simp [dropFirst, hf]
  | cons g t ih =>
    have hg := hpre g List.mem_cons_self
    simp [dropFirst, hg, ih fun x hx => hpre x (List.mem_cons_of_mem _ hx)]

theorem updFirst_append {p : BarFlight → Bool} {u : BarFlight → BarFlight} {pre post : List BarFlight} {f : BarFlight}
    (hpre : ∀ g ∈ pre, p g = false) (hf : p f = true) : updFirst p u (pre ++ f :: post) = pre ++ u f :: post := by
  induction pre with
  | nil => simp [updFirst, hf]
  | cons g t ih =>
    have hg := hpre g List.mem_cons_self
    simp [updFirst, hg, ih fun x hx => hpre x (List.mem_cons_of_mem _ hx)]

theorem find?_append_first {p : BarFlight → Bool} {pre post : List BarFlight} {f : BarFlight} (hpre : ∀ g ∈ pre, p g = false)
    (hf : p f = true) : (pre ++ f :: post).find? p = some f := by
  rw [List.find?_append, List.find?_eq_none.2 fun g hg => by simp [hpre g hg]]
  simp [hf]

/-- After a timeout every message of the type is to be sent again. -/
theorem renumber_again (ty : BarType) (now : Nat) (l : List BarFlight) : ∀ k, ∀ g ∈ renumber ty now k l, g.msg.type = ty →
    g.again = true ∧ g.onWire = false ∧ g.answer = .none := by
  induction l with
  | nil => intro k g hg; cases hg
  | cons f l ih =>
    intro k g hg ht
    unfold renumber at hg
    split at hg
    · rcases List.mem_cons.1 hg with rfl | hg
      · exact ⟨rfl, rfl, rfl⟩
      · exact ih _ g hg ht
    · rename_i other
      rcases List.mem_cons.1 hg with rfl | hg
      · exact absurd ht other
      · exact ih _ g hg ht

section
variable {d : BarDir} {f : BarFlight} {pre post : List BarFlight} {t : Nat} {s : State}

theorem completes_linkAck (flight : (s.bdir d).flight = pre ++ f :: post) (back : barPasses (s.bdir (BarDir_back d)) = true)
    (ack : f.answer = .ack) (first : ∀ g ∈ pre, ¬(g.msg.type = f.msg.type ∧ g.answer = .ack)) :
    Completes (.linkAck d f.msg.type t) s fun u => (u.bdir d).flight = pre ++ post := by
  have row : exec (.linkAck d f.msg.type t) s = done _ := congrArg done (if_pos back)
  refine completes_done row ?_
  rw [settle_bdir_flight, bdir_updBar_self]
  show dropFirst _ (s.bdir d).flight = _
  rw [flight]
  exact dropFirst_append (fun g hg => by simpa [answered] using first g hg) (by simp [answered, ack])

theorem completes_negativeAck (flight : (s.bdir d).flight = pre ++ f :: post) (back : barPasses (s.bdir (BarDir_back d)) = true)
    (nack : f.answer = .nack) (first : ∀ g ∈ pre, ¬(g.msg.type = f.msg.type ∧ g.answer = .nack)) :
    Completes (.negativeAck d f.msg.type t) s fun u =>
      (u.bdir d).flight = pre ++ { f with answer := .none, again := true } :: post := by
  have row : exec (.negativeAck d f.msg.type t) s = done _ := congrArg done (if_pos back)
  refine completes_done row ?_
  rw [settle_bdir_flight, bdir_updBar_self]
  show updFirst _ _ (s.bdir d).flight = _
  rw [flight]
  exact updFirst_append (fun g hg => by simpa [answered] using first g hg) (by simp [answered, nack])

theorem completes_messageResend (flight : (s.bdir d).flight = pre ++ f :: post) (passes : barPasses (s.bdir d) = true)
    (again : f.again = true) (first : ∀ g ∈ pre, ¬(g.msg.type = f.msg.type ∧ g.again = true)) :
    Completes (.messageResend d f.msg.type t) s fun u =>
      (u.bdir d).flight = pre ++ { f with again := false, onWire := true } :: post ∧
      u.reg FLD_BAR_RETRY = bumpW (s.reg FLD_BAR_RETRY) 1 := by
  have due : ((s.bdir d).flight.any fun g => decide (g.msg.type = f.msg.type) && g.again) = true := by simp [flight, again]
  have row : exec (.messageResend d f.msg.type t) s = done _ :=
    congrArg done (if_pos (Bool.and_eq_true_iff.2 ⟨passes, due⟩))
  refine completes_done row ⟨?_, ?_⟩
  · rw [settle_bdir_flight, bump_bdir, bdir_updBar_self]
    show updFirst _ _ (s.bdir d).flight = _
    rw [flight]
    exact updFirst_append (fun g hg => by simpa using first g hg) (by simp [again])
  · rw [reg_settle_of_not_closing _ _ (by decide), reg_bump_self]; rfl

/-- R20: a timeout is counted, the messages of its type are sent again, and a second one of the same message retrains the direction. -/
theorem completes_messageTimeout (flight : (s.bdir d).flight = pre ++ f :: post) (first : ∀ g ∈ pre, g.msg.type ≠ f.msg.type) :
    Completes (.messageTimeout d f.msg.type t) s fun u =>
      u.reg FLD_BAR_TMO = bumpW (s.reg FLD_BAR_TMO) 1 ∧
      (u.bdir d).retraining = ((s.bdir d).retraining || decide (f.timeouts ≠ 0)) ∧
      ∀ g ∈ (u.bdir d).flight, g.msg.type = f.msg.type → g.again = true ∧ g.onWire = false ∧ g.answer = .none := by
  have found : ((s.at t).bdir d).flight.find? (fun g => decide (g.msg.type = f.msg.type)) = some f := by
    show (s.bdir d).flight.find? _ = _
    rw [flight]
    exact find?_append_first (fun g hg => by simpa using first g hg) (by simp)
  refine completes_done (x := messageTimeout (s.at t) d f.msg.type) rfl ?_
  unfold messageTimeout
  simp only [found]
  by_cases once : f.timeouts = 0
  · simp only [once, if_true]
    refine ⟨?_, ?_, ?_⟩
    · rw [reg_settle_of_not_closing _ _ (by decide), reg_congr (raise_regs _ _ _), reg_bump_self]; rfl
    · rw [settle_bdir_retraining, raise_bdir_retraining, bump_bdir, bdir_updBar_self]
      simp [resync]
    · rw [settle_bdir_flight, raise_bdir_flight, bump_bdir, bdir_updBar_self]
      exact renumber_again _ _ _ _
  · simp only [once, if_false]
    refine ⟨?_, ?_, ?_⟩
    · rw [reg_settle_of_not_closing _ _ (by decide), reg_congr (raise_regs _ _ _), reg_congr (updBar_regs _ _ _), reg_bump_self]; rfl
    · rw [settle_bdir_retraining, raise_bdir_retraining, bdir_updBar_self]
      simp [once]
    · rw [settle_bdir_flight, raise_bdir_flight, bdir_updBar_self, bump_bdir, bdir_updBar_self]
      exact renumber_again _ _ _ _

/-- Reports that waited become ready; nothing else of the barrier changes. -/
theorem moreReady_backlogSend (s : State) : MoreReady s (backlogSend s) := by
  have each : ∀ (l : List Backlog) (x : State), MoreReady x (x.each l fun s b =>
      s.barReady .fh .faultReport (.faultReport b.src b.detail b.count b.time b.inj b.dry)) := by
    intro l
    induction l with
    | nil => exact fun x => .refl _ _ rfl
    | cons b l ih => exact fun x => (moreReady_barReady _ _ _ _).trans (ih _)
  unfold backlogSend
  split
  · exact .refl _ _ rfl
  · exact MoreReady.trans (t := { s with backlog := [] }) (.refl _ _ rfl) (each _ _)

/-- R20: after its training a direction sends again what was on its lanes. -/
theorem completes_retrainDone (retrains : (s.bdir d).retraining = true) :
    Completes (.barrierRetrainDone d t) s fun u =>
      (u.bdir d).retraining = false ∧ (u.bdir d).trained = (s.bdir d).trained ∧ (u.bdir d).flight = (s.bdir d).flight.map sendAgain := by
  let x := (s.at t).updBar d fun b => { b with retraining := false, flight := b.flight.map sendAgain }
  have trained : MoreReady x (retrainDone (s.at t) d) := by
    have open_ : (!((s.at t).bdir d).retraining) = false := by rw [at_bdir, retrains]; rfl
    unfold retrainDone
    rw [open_]
    simp only [Bool.false_eq_true, if_false]
    split
    · exact moreReady_backlogSend x
    · exact .refl _ _ rfl
  have kept := (trained.trans (moreReady_settle _)).keeps d
  have new : x.bdir d = { s.bdir d with retraining := false, flight := (s.bdir d).flight.map sendAgain } := bdir_updBar_self _ _ _
  refine completes_done (x := retrainDone (s.at t) d) rfl ?_
  rw [kept, new]
  exact ⟨rfl, rfl, rfl⟩

end

/-- Settles O5: the choice among the ready messages, then one theorem for each row about the messages not acknowledged. -/
theorem barrierSends : Obligations.BarrierSends := by
  unfold Obligations.BarrierSends
  constructor
  · intro d t s m pre post passes ready plain
    rw [← ready] at plain
    refine ⟨fun hpre hpost unpassed => ?first, fun w hw hn lower claim passed => ?passed⟩
    case first =>
      have start : readyStart (pre ++ m :: post) m = true := readyStart_of_unpassed fun w hw => by
        rcases List.mem_append.1 hw with h | h
        · exact .inr (unpassed w (List.mem_append_left _ h))
        · rcases List.mem_cons.1 h with rfl | h
          · exact .inl le_rfl
          · exact .inr (unpassed w (List.mem_append_right _ h))
      have fresh : m ∉ pre := fun h => absurd (hpre m h) (lt_irrefl _)
      obtain ⟨u, run, begun, left⟩ := completes_barrierSend (t := t) passes plain
        (by rw [ready]; exact pickReady_first start hpre hpost) (by rw [ready]; simp)
      refine ⟨u, run, begun, fun w hw => ?_⟩
      rw [← notePassed_eq]
      refine left _ (List.mem_map_of_mem ?_)
      rw [ready, List.erase_append_right _ fresh, List.erase_cons_head]
      exact hw
    case passed =>
      rw [hw, hn] at ready
      obtain ⟨u, run, begun, -⟩ := completes_barrierSend (t := t) (m := w) passes plain
        (by rw [ready]; exact pickReady_passed claim lower passed) (by rw [ready]; simp)
      exact ⟨u, run, begun⟩
  · intro d f pre post t s flight
    refine ⟨completes_linkAck flight, completes_negativeAck flight, completes_messageResend flight, completes_messageTimeout flight,
      fun retrains => ?_⟩
    rw [← flight]
    exact completes_retrainDone retrains

end Sys2Proof.Machine
end

section
/-! SUPPORT. Delivery over the barrier: a message that arrives whole and in order is accepted once (R15), what each kind of message does,
and the obligation about it. -/

namespace Sys2Proof.Machine

/-! Acceptance (R15). -/

theorem mem_updFirst {p : BarFlight → Bool} {u : BarFlight → BarFlight} {l : List BarFlight} {f : BarFlight} (h : l.find? p = some f) :
    u f ∈ updFirst p u l := by
  induction l with
  | nil => cases h
  | cons g t ih =>
    unfold updFirst
    by_cases hg : p g = true
    · rw [List.find?_cons_of_pos hg] at h
      cases h
      simp [hg]
    · rw [List.find?_cons_of_neg hg] at h
      simp [hg, ih h]

/-- The answer of the far end to the oldest message of a type on the lanes. -/
def answering (s : State) (d : BarDir) (ty : BarType) (a : BarAnswer) (accepted : Bool) : State := s.updBar d fun b =>
  { b with flight := updFirst (onLanes ty) (fun x => { x with onWire := false, answer := a, accepted := accepted }) b.flight }

/-- A message has been accepted: it is acknowledged, and the far end expects the next number. -/
def accepting (s : State) (d : BarDir) (f : BarFlight) : State :=
  (answering s d f.msg.type .ack true).updBar d fun b =>
    { b with expected := vset b.expected f.msg.type.rank (vget b.expected f.msg.type.rank + 1) }

/-- With no injection the check of a message is that of its CRC. -/
theorem crcFails_clean {s : State} (clean : s.fieldInj = none ∧ hubArmed s Src.laneReplacedFH = none) (d : BarDir) (f : BarFlight)
    (crc : Word) : crcFails s d f crc = (decide (crc ≠ barCrc f), s) := by
  obtain ⟨field, hub⟩ := clean
  cases d
  · simp [crcFails, fieldCheck, field]
  · simp [crcFails, hubCheck, hub]

theorem receive_arrives {s : State} {d : BarDir} {f : BarFlight} (h : Arrives s d f) :
    receive s d f.msg.type (barCrc f) = (some f.msg, accepting s d f) := by
  obtain ⟨passes, first, fresh, inOrder, clean⟩ := h
  unfold receive
  simp only [passes, first, crcFails_clean clean, fresh, ← inOrder]
  simp [accepting, answering]

/-- A message that arrives does what it carries. -/
theorem deliverMsg_arrives {s : State} {d : BarDir} {f : BarFlight} {m : BarMsg} (h : Arrives s d f) (hm : f.msg = m)
    (effect : State → BarPayload → State) :
    deliverMsg s d m.type (barCrc f) effect = effect (accepting s d f) m.body := by
  subst hm
  rw [deliverMsg, receive_arrives h]

theorem accepted_accepting {s : State} {d : BarDir} {f : BarFlight} (h : Arrives s d f) : Accepted s (accepting s d f) d f := by
  refine ⟨?_, { f with onWire := false, answer := .ack, accepted := true }, ?_, rfl, rfl, rfl, rfl, rfl⟩
  · simp [accepting, answering, h.inOrder]
  · simp only [accepting, answering, bdir_updBar_self]
    exact mem_updFirst h.first

theorem Accepted.congr {s u v : State} {d : BarDir} {f : BarFlight} (h : Accepted s u d f) (same : MoreReady u v) : Accepted s v d f := by
  unfold Accepted
  rw [same.keeps d]
  exact h

/-- What a message does beside making others ready leaves it accepted. -/
theorem accepted_settle {s y : State} {d : BarDir} {f : BarFlight} (t : Nat) (h : Arrives s d f)
    (effect : MoreReady (accepting (s.at t) d f) y) : Accepted s (settle y) d f :=
  (accepted_accepting (s := s.at t) ⟨h.passes, h.first, h.fresh, h.inOrder, h.clean⟩).congr (effect.trans (moreReady_settle y))

theorem Arrives.at {s : State} {d : BarDir} {f : BarFlight} (h : Arrives s d f) (t : Nat) : Arrives (s.at t) d f :=
  ⟨h.passes, h.first, h.fresh, h.inOrder, h.clean⟩

/-- Acceptance changes the barrier alone. -/
theorem accepting_eq (s : State) (d : BarDir) (f : BarFlight) : accepting s d f = { s with bar := (accepting s d f).bar } := rfl

/-! Ring time at the field side (R121, R124, R133). -/

theorem moreReady_each {α : Type} {f : State → α → State} (h : ∀ s x, MoreReady s (f s x)) :
    ∀ (l : List α) (s : State), MoreReady s (s.each l f)
  | [], _ => .refl _ _ rfl
  | x :: l, s => (h s x).trans (moreReady_each h l (f s x))

theorem updPu_bar (s : State) (u : Fin 24) (f : PulseUnit → PulseUnit) : (s.updPu u f).bar = s.bar := rfl

theorem pulseLate_keeps (s : State) (u : Fin 24) (k : Nat) : MoreReady s (pulseLate s u k) ∧ (pulseLate s u k).time = s.time :=
  ⟨MoreReady.trans (.refl s _ rfl) (moreReady_raise _ _ _), raise_time _ _ _⟩

/-- A view that no element of a list changes is not changed by all of them. -/
theorem each_keeps {α β : Type} (g : State → β) {f : State → α → State} (h : ∀ s x, g (f s x) = g s) (l : List α) (s : State) :
    g (s.each l f) = g s := foldl_keeps g f h l s

theorem pulsesStep_keeps (s : State) : MoreReady s (pulsesStep s) ∧ (pulsesStep s).time = s.time := by
  unfold pulsesStep
  refine ⟨moreReady_each (fun x u => ?_) _ _, each_keeps (fun s : State => s.time) (fun x u => ?_) _ _⟩
  · split
    · exact .refl _ _ rfl
    · dsimp only
      split
      · exact .refl _ _ rfl
      · exact MoreReady.trans (.refl x _ (updPu_bar _ _ _)) (pulseLate_keeps _ _ _).1
  · dsimp only
    split
    · rfl
    · split
      · rfl
      · exact (pulseLate_keeps _ _ _).2

theorem pulsesConvert_keeps (s : State) (d : Int) : MoreReady s (pulsesConvert s d) ∧ (pulsesConvert s d).time = s.time := by
  unfold pulsesConvert
  refine ⟨moreReady_each (fun x u => ?_) _ _, each_keeps (fun s : State => s.time) (fun x u => ?_) _ _⟩
  · split
    · exact .refl _ _ rfl
    · exact .refl _ _ (by rw [evt_bar, updPu_bar])
  · split
    · rfl
    · rw [evt_time]; rfl

theorem gridsKeep_keeps (s : State) (d : Int) : MoreReady s (gridsKeep s d) ∧ (gridsKeep s d).time = s.time := ⟨.refl _ _ rfl, rfl⟩
theorem waitsConvert_keeps (s : State) (d : Int) : MoreReady s (waitsConvert s d) ∧ (waitsConvert s d).time = s.time :=
  ⟨.refl _ _ rfl, rfl⟩

/-- The field side's time as announced; messages may be made ready. -/
theorem timeArrives_keeps (s : State) (ofs : Int) (dom hold : Bool) (a l p : Int) :
    MoreReady s (timeArrives s ofs dom hold a l p) ∧ (timeArrives s ofs dom hold a l p).time =
      { s.time with fofs := ofs, fdom := dom, fhold := hold, fsmp := a, flat := l, fflp := p } := by
  obtain ⟨s1, hs1⟩ : ∃ s1, s1 = s.updTime fun t => { t with fofs := ofs, fdom := dom, fhold := hold, fsmp := a, flat := l, fflp := p } :=
    ⟨_, rfl⟩
  have first : MoreReady s s1 := hs1 ▸ .refl _ _ rfl
  have time : s1.time = { s.time with fofs := ofs, fdom := dom, fhold := hold, fsmp := a, flat := l, fflp := p } := hs1 ▸ rfl
  unfold timeArrives; dsimp only
  rw [← hs1, ← time]
  generalize ofs - s.time.fofs = d
  split
  · obtain ⟨m1, t1⟩ := pulsesConvert_keeps s1 d
    obtain ⟨m2, t2⟩ := waitsConvert_keeps (pulsesConvert s1 d) d
    obtain ⟨m3, t3⟩ := gridsKeep_keeps (waitsConvert (pulsesConvert s1 d) d) d
    exact ⟨((first.trans m1).trans m2).trans m3, by rw [t3, t2, t1]⟩
  · obtain ⟨m1, t1⟩ := gridsKeep_keeps s1 d
    split
    · obtain ⟨m2, t2⟩ := pulsesStep_keeps (gridsKeep s1 d)
      exact ⟨(first.trans m1).trans m2, by rw [t2, t1]⟩
    · split
      · exact ⟨first.trans m1, t1⟩
      · exact ⟨first, rfl⟩

/-! Memory (R253, R258, R312). -/

theorem place?_val {n : Nat} (i : Fin n) : place? n i.val = some i := by simp [place?]

/-- A word of shared memory is no word of code memory, so that a write of one follows no migration. -/
theorem codeFollows_shared (s : State) (n : Fin 12) {off : Nat} (h : off < 0x4000) (v : Word) :
    codeFollows s n (sharedBase n.val + 2 * off) v = s := by
  unfold codeFollows
  split
  · rfl
  · rename_i m _
    have below : ¬codeBase n.val m.from_.val ≤ sharedBase n.val + 2 * off := by unfold codeBase sharedBase; omega
    simp [below]

theorem localPlace_shared (n : Fin 12) {off : Nat} (h : off < 0x4000) : localPlace (sharedBase n.val + 2 * off) = .cluster := by
  have := n.isLt
  unfold localPlace sharedBase
  rw [if_neg (by omega), if_neg (by omega), if_pos (by omega), if_pos (by omega)]

theorem windowOwner_shared (n : Fin 12) {off : Nat} (h : off < 0x4000) :
    windowOwner (sharedBase n.val + 2 * off) = some (n, none) := by
  have rest : (sharedBase n.val + 2 * off) % 0x40000 < 0x8000 := by unfold sharedBase; omega
  have cluster : (sharedBase n.val + 2 * off - 0x100000) / 0x40000 = n.val := by unfold sharedBase; omega
  rw [windowOwner, cluster, place?_val]
  simp [rest]

/-- A word that a message writes to shared memory (R258, R495). -/
theorem fieldPerform_word {a : Nat} {n : Fin 12} {w : Word} (place : localPlace a = .cluster) (owner : windowOwner a = some (n, none))
    (alone : ∀ x, codeFollows x n a w = x) (s : State) (id : Nat) (path : Path) :
    fieldPerform s id path a 1 (some [w]) true = (s.storeWord a w).barReady .fh .regAccess (.regResponse id stOK []) := by
  have stored : clusterWrites s a [w] = s.storeWord a w := by
    rw [clusterWrites, owner]
    exact alone _
  rw [← stored]
  unfold fieldPerform
  rw [place]
  rfl

theorem fieldMustWait_shared {s : State} (n : Fin 12) {off : Nat} (h : off < 0x4000) (free : (s.cl n).lock = none) :
    fieldMustWait s (sharedBase n.val + 2 * off) = false := by
  simp [fieldMustWait, windowOwner_shared n h, free]

/-! The rows. -/

section
variable {d : BarDir} {f : BarFlight} {t : Nat} {s : State}

theorem completes_claim {c : Core} {v : Nat} (h : Arrives s .hf f) (hm : f.msg = ⟨.claim, .claim c v⟩) :
    Completes (.claim (barCrc f) t) s fun u =>
      Accepted s u .hf f ∧ (u.core c).fieldClaim = Claim.ofValue v ∧ ∀ c', c' ≠ c → u.core c' = s.core c' := by
  refine completes_done (congrArg done (deliverMsg_arrives (h.at t) hm _)) ⟨accepted_settle t h (.refl _ _ rfl), ?_, fun e he => ?_⟩
  · rw [settle_core]; simp [claimArrives]
  · rw [settle_core]
    simp only [claimArrives, core_updCore, he, if_false]
    rfl

theorem completes_faultReport {src x n at_ : Nat} {inj dry : Bool} (h : Arrives s .fh f)
    (hm : f.msg = ⟨.faultReport, .faultReport src x n at_ inj dry⟩) :
    Completes (.faultReport (barCrc f) t) s fun u => Accepted s u .fh f ∧
      ∀ c : Core, (vget u.flts c.ix).inbox = (vget s.flts c.ix).inbox ++ List.replicate n ⟨src, x, at_, inj, dry⟩ := by
  refine completes_done (congrArg done (deliverMsg_arrives (h.at t) hm _)) ⟨accepted_settle t h (.refl _ _ rfl), fun c => ?_⟩
  rw [settle_flts]
  cases c <;> simp [faultArrives, vget_vupd, Core.ix] <;> rfl

theorem completes_timeSync {ofs a l p : Int} {dom hold : Bool} (h : Arrives s .hf f)
    (hm : f.msg = ⟨.timeSync, .timeSync ofs dom hold a l p⟩) :
    Completes (.timeSync (barCrc f) t) s fun u => Accepted s u .hf f ∧
      u.time.fofs = ofs ∧ u.time.fsmp = a ∧ u.time.flat = l ∧ u.time.fflp = p ∧ u.time.fdom = dom ∧ u.time.fhold = hold := by
  obtain ⟨more, time⟩ := timeArrives_keeps (accepting (s.at t) .hf f) ofs dom hold a l p
  refine completes_done (congrArg done (deliverMsg_arrives (h.at t) hm _)) ⟨accepted_settle t h more, ?_⟩
  simp [time]

theorem completes_imageOut {c : Core} {n : Fin 12} {k : DWord} {a : Nat} {w : Word} (h : Arrives s .hf f)
    (hm : f.msg = ⟨.imageOut, .imageOut c n.val k a [w]⟩) :
    Completes (.imageOut (barCrc f) t) s fun u => Accepted s u .hf f ∧
      vget (u.cl n).inStage c.ix = vget (s.cl n).inStage c.ix ++ [(k, a, w)] := by
  have arrives : imageArrives (accepting (s.at t) .hf f) (.imageOut c n.val k a [w]) =
      (accepting (s.at t) .hf f).updCl n fun x => { x with inStage := vupd x.inStage c.ix (· ++ [(k, a, w)]) } := by
    simp [imageArrives, place?_val, List.range_succ, wAt]
  refine completes_done (congrArg done ((deliverMsg_arrives (h.at t) hm _).trans arrives)) ⟨accepted_settle t h (.refl _ _ rfl), ?_⟩
  rw [settle_cl_inStage, cl_updCl_self, vget_vupd_self]
  rfl

theorem completes_publish {a : Nat} {w : Word} (h : Arrives s .fh f) (hm : f.msg = ⟨.imageIn, .publish a [w]⟩)
    (own : cmpHolds s a = false) (other : isHealth s a = false) :
    Completes (.imageIn (barCrc f) t) s fun u => Accepted s u .fh f ∧ u.fillWord a = w := by
  have holds : cmpHolds (accepting (s.at t) .fh f) a = false := own
  have health : isHealth (accepting (s.at t) .fh f) a = false := other
  have arrives : imageInArrives (accepting (s.at t) .fh f) (.publish a [w]) = (accepting (s.at t) .fh f).setFillWord a w := by
    simp [imageInArrives, State.each, List.range_succ, wAt, publishWord, pubWrite, holds, health]
  refine completes_done (congrArg done ((deliverMsg_arrives (h.at t) hm _).trans arrives)) ⟨accepted_settle t h (.refl _ _ rfl), ?_⟩
  rw [State.fillWord, settle_word, settle_cue]
  exact word_setWord_self _ _ _

theorem completes_snapshot {a : Nat} {w : Word} (h : Arrives s .fh f) (hm : f.msg = ⟨.imageIn, .snapshot a [w]⟩) (ha : a ≠ 0) :
    Completes (.imageIn (barCrc f) t) s fun u => Accepted s u .fh f ∧ u.word (snapBase + 2 * a) = w := by
  have arrives : imageInArrives (accepting (s.at t) .fh f) (.snapshot a [w]) =
      (accepting (s.at t) .fh f).setWord (snapBase + 2 * a) w := by simp [imageInArrives, ha, State.setWords]
  refine completes_done (congrArg done ((deliverMsg_arrives (h.at t) hm _).trans arrives)) ⟨accepted_settle t h (.refl _ _ rfl), ?_⟩
  rw [settle_word, word_setWord_self]

theorem completes_event {l c : Word} (h : Arrives s .fh f) (hm : f.msg = ⟨.signal, .event l c⟩) :
    Completes (.signal .fh (barCrc f) t) s fun u => Accepted s u .fh f ∧ u.heard = (l, c) :=
  completes_done (congrArg done (deliverMsg_arrives (h.at t) hm _)) ⟨accepted_settle t h (.refl _ _ rfl), settle_heard _⟩

theorem conduit_updConduit_self (s : State) (n : Fin 12) (q : Fin 16) (g : Conduit → Conduit) :
    (s.updConduit n q g).conduit n q = g (s.conduit n q) := by
  simp [State.conduit, State.updConduit]

theorem completes_conduit {n : Fin 12} {q : Fin 16} {ws : List Word} (h : Arrives s .hf f)
    (hm : f.msg = ⟨.signal, .conduit n.val q.val ws⟩) :
    Completes (.signal .hf (barCrc f) t) s fun u => Accepted s u .hf f ∧ (u.conduit n q).inw = (s.conduit n q).inw ++ ws := by
  have arrives : signalArrives .hf (accepting (s.at t) .hf f) (.conduit n.val q.val ws) =
      (accepting (s.at t) .hf f).updConduit n q fun c => { c with inw := c.inw ++ ws } := by
    simp [signalArrives, conduitOf, place?_val]
  refine completes_done (congrArg done ((deliverMsg_arrives (h.at t) hm _).trans arrives)) ⟨accepted_settle t h (.refl _ _ rfl), ?_⟩
  rw [State.conduit, settle_cl_conduits, ← State.conduit, conduit_updConduit_self]
  rfl

theorem completes_regAccess_shared {id : Nat} {path : Path} {n : Fin 12} {off : Nat} {w : Word} (h : Arrives s .hf f)
    (inside : off < 0x4000) (hm : f.msg = ⟨.regAccess, .regAccess id path (sharedBase n.val + 2 * off) 1 (some [w]) true⟩)
    (free : (s.cl n).lock = none) :
    Completes (.regAccess .hf (barCrc f) t) s fun u => Accepted s u .hf f ∧ u.word (sharedBase n.val + 2 * off) = w ∧
      (∀ b, b ≠ sharedBase n.val + 2 * off → b ≠ sharedBase n.val + 2 * off + 1 → u.byte b = s.byte b) ∧
      ∃ more, (u.bdir .fh).ready = (s.bdir .fh).ready ++ ⟨⟨.regAccess, .regResponse id stOK []⟩, []⟩ :: more := by
  obtain ⟨ty, body⟩ : f.msg.type = .regAccess ∧ f.msg.body = .regAccess id path (sharedBase n.val + 2 * off) 1 (some [w]) true := by
    rw [hm]; exact ⟨rfl, rfl⟩
  have goes : accessWaits (s.at t) = false := by
    have first := (h.at t).first
    rw [ty] at first
    have noWait : fieldMustWait (s.at t) (sharedBase n.val + 2 * off) = false := fieldMustWait_shared n inside free
    unfold accessWaits
    rw [first]
    simp only [body, noWait, Bool.and_false]
  have row : exec (.regAccess .hf (barCrc f) t) s = done (deliverMsg (s.at t) .hf .regAccess (barCrc f) regArrives) :=
    congrArg done (if_neg fun waits => by rw [goes] at waits; exact absurd waits.2 (by decide))
  have arrives := (deliverMsg_arrives (h.at t) hm regArrives).trans (fieldPerform_word (localPlace_shared n inside)
    (windowOwner_shared n inside) (fun x => codeFollows_shared x n inside w) (accepting (s.at t) .hf f) id path)
  refine completes_done (row.trans (congrArg done arrives)) ⟨accepted_settle t h ?_, ?_, fun b h1 h2 => ?_, ?_⟩
  · exact MoreReady.trans (.refl _ _ rfl) (moreReady_barReady _ _ _ _)
  · rw [settle_word, word_congr (barReady_mem _ _ _ _), word_storeWord_self]
  · rw [settle_byte, byte_congr (barReady_mem _ _ _ _), byte_storeWord_apart _ _ _ _ (by omega)]
    rfl
  · obtain ⟨more, ready⟩ := moreReady_settle (((accepting (s.at t) .hf f).storeWord (sharedBase n.val + 2 * off) w).barReady
      .fh .regAccess (.regResponse id stOK [])) .fh
    refine ⟨more, ?_⟩
    have other : ((accepting (s.at t) .hf f).storeWord (sharedBase n.val + 2 * off) w).bdir .fh = s.bdir .fh := by
      simp [State.storeWord, accepting, answering, State.bdir, State.updBar, vget_vupd, BarDir.ix]
    rw [ready, State.barReady, bdir_updBar_self, other]
    simp

/-- The first words of a section are kept until its last (R390). -/
theorem completes_chunk_first {tag : Nat} {b : Bool} {ws : List Word} {x : Word} (h : Arrives s .hf f)
    (hm : f.msg = ⟨.chunk, .chunk tag b true true false ws⟩) :
    Completes (.stagebookChunk (barCrc f) x t) s fun u =>
      Accepted s u .hf f ∧ u.store = { s.store with incoming := upsetLast x ws } := by
  refine completes_done (congrArg done (deliverMsg_arrives (h.at t) hm _)) ⟨accepted_settle t h (.refl _ _ rfl), ?_⟩
  rw [settle_store]; rfl

/-- A staged section that has come whole and passes its check is noted. -/
theorem completes_chunk_staged {tag : Nat} {b : Bool} {ws : List Word} {x : Word} (h : Arrives s .hf f)
    (hm : f.msg = ⟨.chunk, .chunk tag b true false true ws⟩) (upd : s.store.upd = some (b, 1))
    (ok : sectionCrcOk (s.store.incoming ++ upsetLast x ws) = true) :
    Completes (.stagebookChunk (barCrc f) x t) s fun u =>
      Accepted s u .hf f ∧ u.store.staged = tag :: s.store.staged ∧ u.store.incoming = [] := by
  let s1 := (accepting (s.at t) .hf f).updStore fun y => { y with incoming := [] }
  have upd1 : s1.store.upd = some (b, 1) := upd
  obtain ⟨up, arrives⟩ : ∃ up, sectionArrives s1 tag b true true =
      s1.updStore fun y => { y with staged := tag :: s1.store.staged, upd := up } := by
    simp only [sectionArrives, upd1, Bool.not_true, Bool.false_eq_true, if_false, ne_eq, not_true_eq_false]
    exact ⟨_, rfl⟩
  refine completes_done (congrArg done ?_) (x := s1.updStore fun y => { y with staged := tag :: s1.store.staged, upd := up })
    ⟨accepted_settle t h (.refl _ _ rfl), ?_⟩
  · rw [← arrives]
    have okAll : sectionCrcOk ((accepting (s.at t) .hf f).store.incoming ++ upsetLast x ws) = true := ok
    refine (deliverMsg_arrives (h.at t) hm _).trans ?_
    simp only [chunkArrives, Bool.false_eq_true, if_false, if_true, okAll]
    rfl
  · rw [settle_store]
    exact ⟨rfl, rfl⟩

/-- An update that has not come to the swap is abandoned: its event and its report (R390). -/
theorem updateFails_early {s : State} {b : Bool} (upd : s.store.upd = some (b, 1)) : updateFails s =
    ((s.updStore fun x => { x with upd := none, staged := [], cmd := { x.cmd with state := 2 } }).evt RST_EVT rstUPDFAIL).raise
      Src.updateAbandoned 0 := by
  unfold updateFails
  rw [upd]
  rfl

/-- A staged section whose check fails abandons the update. -/
theorem completes_chunk_abandons {tag : Nat} {b : Bool} {ws : List Word} {x : Word} (h : Arrives s .hf f)
    (hm : f.msg = ⟨.chunk, .chunk tag b true false true ws⟩) (upd : s.store.upd = some (b, 1))
    (bad : sectionCrcOk (s.store.incoming ++ upsetLast x ws) = false) :
    Completes (.stagebookChunk (barCrc f) x t) s fun u =>
      u.store.upd = none ∧ u.store.staged = [] ∧ (u.reg RST_EVT).getLsbD rstUPDFAIL = true := by
  let s1 := (accepting (s.at t) .hf f).updStore fun y => { y with incoming := [] }
  have upd1 : s1.store.upd = some (b, 1) := upd
  have badAll : sectionCrcOk ((accepting (s.at t) .hf f).store.incoming ++ upsetLast x ws) = false := bad
  have arrives : chunkArrives (accepting (s.at t) .hf f) tag b true false true (upsetLast x ws) = updateFails s1 := by
    simp only [chunkArrives, Bool.false_eq_true, if_false, if_true, badAll]
    show sectionArrives s1 tag b true false = updateFails s1
    simp only [sectionArrives, upd1, Bool.not_true, Bool.false_eq_true, if_false, ne_eq, not_true_eq_false, Bool.not_false, if_true]
  refine completes_done (congrArg done (((deliverMsg_arrives (h.at t) hm _).trans arrives).trans (updateFails_early upd1))) ⟨?_, ?_, ?_⟩
  · rw [settle_store, raise_store, evt_store]; rfl
  · rw [settle_store, raise_store, evt_store]; rfl
  · rw [reg_settle_of_not_closing _ _ (by decide), reg_congr (raise_regs _ _ _)]
    exact reg_evt_bit _ _ _ (by decide)

theorem completes_chain {ws : List Word} (h : Arrives s d f) (hd : d = .hf) (hm : f.msg = ⟨.debugMsg, .chain ws⟩) :
    Completes (.debugMsg d (barCrc f) t) s fun u =>
      Accepted s u d f ∧ u.dbg.fieldChain = unpackBits 145 ws ∧ u.dbg.hostChain = s.dbg.hostChain := by
  subst hd
  refine completes_done (congrArg done (deliverMsg_arrives (h.at t) hm _)) ⟨accepted_settle t h (.refl _ _ rfl), ?_⟩
  rw [settle_dbg]
  exact ⟨rfl, rfl⟩

/-- The answer to a claim that is not accepted is all that such a message changes, but for the count of failed checks. -/
theorem answering_keeps (ty : BarType) (a : BarAnswer) (b : Bool) :
    (answering (s.at t) d ty a b).lead = s.lead ∧ (answering (s.at t) d ty a b).mem = s.mem ∧
    (answering (s.at t) d ty a b).regs = s.regs ∧ ((answering (s.at t) d ty a b).bdir d).expected = (s.bdir d).expected :=
  ⟨rfl, rfl, rfl, by simp [answering]⟩

theorem answered_answering (first : (s.bdir d).flight.find? (onLanes f.msg.type) = some f) (a : BarAnswer) (b : Bool) :
    ∃ g ∈ ((answering (s.at t) d f.msg.type a b).bdir d).flight, g.msg = f.msg ∧ g.onWire = false ∧ g.answer = a := by
  refine ⟨{ f with onWire := false, answer := a, accepted := b }, ?_, rfl, rfl, rfl⟩
  simp only [answering, bdir_updBar_self]
  exact mem_updFirst first

theorem crcFails_noFieldInj (noInj : s.fieldInj = none) (crc : Word) :
    crcFails (s.at t) .hf f crc = (decide (crc ≠ barCrc f), s.at t) := by
  simp [crcFails, fieldCheck, noInj]

/-- A claim whose check fails is refused and counted. -/
theorem completes_claim_refused {crc : Word} (passes : barPasses (s.bdir .hf) = true)
    (first : (s.bdir .hf).flight.find? (onLanes f.msg.type) = some f) (noInj : s.fieldInj = none) (ty : f.msg.type = .claim)
    (bad : crc ≠ barCrc f) :
    Completes (.claim crc t) s fun u =>
      u.reg FLD_BAR_CRC = bumpW (s.reg FLD_BAR_CRC) 1 ∧ (u.bdir .hf).expected = (s.bdir .hf).expected ∧
      (∃ g ∈ (u.bdir .hf).flight, g.msg = f.msg ∧ g.onWire = false ∧ g.answer = .nack) ∧ u.lead = s.lead ∧ SameMemory s u ∧
      SameRegs s u [FLD_BAR_CRC] := by
  have refused : receive (s.at t) .hf .claim crc =
      (none, (answering (s.at t) .hf f.msg.type .nack f.accepted).bump FLD_BAR_CRC) := by
    rw [← ty]
    unfold receive
    simp only [at_bdir, passes, first, crcFails_noFieldInj noInj, bad, ne_eq, not_false_eq_true, decide_true, Bool.not_true,
      Bool.false_eq_true, if_false, if_true]
    rfl
  have row : exec (.claim crc t) s = done ((answering (s.at t) .hf f.msg.type .nack f.accepted).bump FLD_BAR_CRC) := by
    refine congrArg done ?_
    rw [deliverMsg, refused]
  obtain ⟨lead, mem, regs, expected⟩ := answering_keeps (s := s) (t := t) (d := .hf) f.msg.type .nack f.accepted
  refine completes_done row ⟨?_, ?_, ?_, ?_, ?_, ?_⟩
  · rw [reg_settle_of_not_closing _ _ (by decide), reg_bump_self, reg_congr regs]
  · rw [settle_bdir_expected, bump_bdir, expected]
  · rw [settle_bdir_flight, bump_bdir]
    exact answered_answering first .nack f.accepted
  · rw [settle_lead, bump_lead, lead]
  · exact sameMemory_settle ((bump_mem _ _).trans mem)
  · exact ((KeepsRegs.of_regs regs _).bump (by simp)).settle

/-- A claim that comes again is acknowledged again. -/
theorem completes_claim_again (passes : barPasses (s.bdir .hf) = true)
    (first : (s.bdir .hf).flight.find? (onLanes f.msg.type) = some f) (noInj : s.fieldInj = none) (ty : f.msg.type = .claim)
    (before : f.accepted = true) :
    Completes (.claim (barCrc f) t) s fun u =>
      (u.bdir .hf).expected = (s.bdir .hf).expected ∧ (∃ g ∈ (u.bdir .hf).flight, g.msg = f.msg ∧ g.onWire = false ∧ g.answer = .ack) ∧
      u.lead = s.lead ∧ SameMemory s u ∧ SameRegs s u [] := by
  have again : receive (s.at t) .hf .claim (barCrc f) = (none, answering (s.at t) .hf f.msg.type .ack true) := by
    rw [← ty]
    unfold receive
    simp only [at_bdir, passes, first, crcFails_noFieldInj noInj, before, ne_eq, not_true_eq_false, decide_false, Bool.not_true,
      Bool.false_eq_true, if_false, if_true]
    rfl
  have row : exec (.claim (barCrc f) t) s = done (answering (s.at t) .hf f.msg.type .ack true) := by
    refine congrArg done ?_
    rw [deliverMsg, again]
  obtain ⟨lead, mem, regs, expected⟩ := answering_keeps (s := s) (t := t) (d := .hf) f.msg.type .ack true
  refine completes_done row ⟨?_, ?_, ?_, ?_, ?_⟩
  · rw [settle_bdir_expected, expected]
  · rw [settle_bdir_flight]
    exact answered_answering first .ack true
  · rw [settle_lead, lead]
  · exact sameMemory_settle mem
  · exact sameRegs_settle regs

end

/-- Settles O6: one theorem for each row, and two for messages that have no effect. -/
theorem barrierDelivery : Obligations.BarrierDelivery := by
  unfold Obligations.BarrierDelivery
  constructor
  · intro d f t s h
    refine ⟨?_, ?_, ?_, ?_, ?_, ?_, ?_, ?_, ?_, ?_, ?_, ?_, fun ws hd hm => completes_chain h hd hm⟩
    · rintro c v rfl hm; exact completes_claim h hm
    · rintro src x n at_ inj dry rfl hm; exact completes_faultReport h hm
    · rintro ofs dom hold a l p rfl hm; exact completes_timeSync h hm
    · rintro c n k a w rfl hm; exact completes_imageOut h hm
    · rintro a w rfl hm own other; exact completes_publish h hm own other
    · rintro a w rfl hm ha; exact completes_snapshot h hm ha
    · rintro l c rfl hm; exact completes_event h hm
    · rintro n q ws rfl hm; exact completes_conduit h hm
    · rintro id path n off w rfl inside hm free; exact completes_regAccess_shared h inside hm free
    · rintro tag b ws x rfl hm; exact completes_chunk_first h hm
    · rintro tag b ws x rfl hm upd ok; exact completes_chunk_staged h hm upd ok
    · rintro tag b ws x rfl hm upd bad; exact completes_chunk_abandons h hm upd bad
  · intro f t s passes first noInj ty
    exact ⟨fun crc bad => completes_claim_refused passes first noInj ty bad, completes_claim_again passes first noInj ty⟩

end Sys2Proof.Machine
end

section
/-! SUPPORT. The lanes of the barrier: failure, replacement, the loss of a spare and training (R18, R19, R463), and the obligation about
them. -/

namespace Sys2Proof.Machine

/-! Lane masks. -/

theorem getLsbD_setLane_true (m : BitVec 10) (l k : Fin 10) :
    (setLane m l.val true).getLsbD k.val = (m.getLsbD k.val || decide (k = l)) := by
  simp only [setLane, if_true, BitVec.getLsbD_or, BitVec.getLsbD_ofNat, Nat.testBit_two_pow, k.isLt, decide_true, Bool.true_and,
    Fin.ext_iff, eq_comm]

theorem getLsbD_setLane_false (m : BitVec 10) (l k : Fin 10) :
    (setLane m l.val false).getLsbD k.val = (m.getLsbD k.val && decide (k ≠ l)) := by
  simp only [setLane, Bool.false_eq_true, if_false, BitVec.getLsbD_and, BitVec.getLsbD_not, BitVec.getLsbD_ofNat, Nat.testBit_two_pow,
    k.isLt, decide_true, Bool.true_and, Fin.ext_iff, ne_eq, decide_not, eq_comm]

/-- A free spare is a spare lane that works and carries nothing (R18). -/
theorem freeSpare_spec {b : BarDirState} {k : Nat} (h : freeSpare b = some k) :
    8 ≤ k ∧ k < 10 ∧ b.failed.getLsbD k = false ∧ b.active.getLsbD k = false := by
  have unused := List.find?_some h
  have spare := List.mem_of_find?_eq_some h
  simp only [Bool.and_eq_true, Bool.not_eq_true'] at unused
  simp only [List.mem_cons, List.not_mem_nil, or_false] at spare
  exact ⟨by omega, by omega, unused.1, unused.2⟩

/-! A direction that goes down (R19). -/

/-- A direction that goes down is untrained; its lanes stay as they are. -/
theorem bdir_directionDown (s : State) (d : BarDir) :
    ∃ ready, (directionDown s d).bdir d = { s.bdir d with trained := false, ready := ready } := by
  have raised (src : Nat) : ((s.updBar d fun b => { b with trained := false }).raise src 0).bdir d =
      { s.bdir d with trained := false, ready := (((s.updBar d fun b => { b with trained := false }).raise src 0).bdir d).ready } := by
    rw [(moreReady_raise _ src 0).keeps d, bdir_updBar_self]
  cases d
  · exact ⟨_, raised Src.barrierDownHF⟩
  · exact ⟨_, raised Src.barrierDownFH⟩

/-- What a direction is after a judgement that may take it down. -/
theorem bdir_downIf (s : State) (d : BarDir) (c : Prop) [Decidable c] :
    ∃ ready, (if c then directionDown s d else s).bdir d =
      { s.bdir d with trained := (s.bdir d).trained && !decide c, ready := ready } := by
  by_cases h : c
  · obtain ⟨ready, down⟩ := bdir_directionDown s d
    exact ⟨ready, by simp [h, down]⟩
  · exact ⟨(s.bdir d).ready, by simp [h]⟩

/-! The rows. -/

section
variable {d : BarDir} {l : Fin 10} {t : Nat} {s : State}

theorem completes_laneFailed (active : (s.bdir d).active.getLsbD l.val = true) (works : (s.bdir d).failed.getLsbD l.val = false) :
    Completes (.laneFailed d l t) s fun u =>
      (∀ k : Fin 10, (u.bdir d).failed.getLsbD k.val = ((s.bdir d).failed.getLsbD k.val || decide (k = l)) ∧
        (u.bdir d).active.getLsbD k.val = ((s.bdir d).active.getLsbD k.val && decide (k ≠ l))) ∧
      (u.bdir d).toReplace = (s.bdir d).toReplace ++ [l.val] ∧
      (u.bdir d).trained = ((s.bdir d).trained && decide ((s.bdir d).toReplace.length < spareLanes (s.bdir d))) := by
  let failed := (s.at t).updBar d fun b =>
    { b with failed := setLane b.failed l.val true, active := setLane b.active l.val false, flight := b.flight.map sendAgain
             toReplace := b.toReplace ++ [l.val] }
  have goes : (!((s.at t).bdir d).active.getLsbD l.val || ((s.at t).bdir d).failed.getLsbD l.val) = false := by
    rw [at_bdir, active, works]; rfl
  have row : exec (.laneFailed d l t) s =
      done (if spareLanes (s.bdir d) ≤ (s.bdir d).toReplace.length then directionDown failed d else failed) := by
    refine congrArg done ?_
    unfold laneFailed
    simp only [goes, Bool.false_eq_true, if_false]
    rfl
  obtain ⟨ready, after⟩ := bdir_downIf failed d (spareLanes (s.bdir d) ≤ (s.bdir d).toReplace.length)
  have lanes : failed.bdir d = _ := bdir_updBar_self _ _ _
  refine completes_done row ⟨fun k => ⟨?_, ?_⟩, ?_, ?_⟩
  · rw [settle_bdir_failed, after, lanes]; exact getLsbD_setLane_true _ l k
  · rw [settle_bdir_active, after, lanes]; exact getLsbD_setLane_false _ l k
  · rw [settle_bdir_toReplace, after, lanes]; rfl
  · rw [settle_bdir_trained, after, lanes]
    simp [← decide_not]

theorem completes_laneReplaced {rest : List Nat} (waits : (s.bdir d).toReplace = l.val :: rest) (spare : freeSpare (s.bdir d) ≠ none) :
    Completes (.laneReplaced d t) s fun u =>
      (u.bdir d).toReplace = rest ∧ (u.bdir d).failed = (s.bdir d).failed ∧
      ∃ k : Fin 10, 8 ≤ k.val ∧ (s.bdir d).failed.getLsbD k.val = false ∧ (s.bdir d).active.getLsbD k.val = false ∧
        ∀ j : Fin 10, (u.bdir d).active.getLsbD j.val = ((s.bdir d).active.getLsbD j.val || decide (j = k)) := by
  obtain ⟨k, hk⟩ := Option.ne_none_iff_exists'.1 spare
  obtain ⟨high, small, works, unused⟩ := freeSpare_spec hk
  obtain ⟨src, replaced⟩ : ∃ src, laneReplaced (s.at t) d =
      ((s.at t).updBar d fun b => { b with active := setLane b.active k true, toReplace := rest }).raise src l.val := by
    unfold laneReplaced
    rw [at_bdir, waits, hk]
    exact ⟨_, rfl⟩
  refine completes_done (congrArg done replaced) ⟨?_, ?_, ⟨k, small⟩, high, works, unused, fun j => ?_⟩
  · rw [settle_bdir_toReplace, raise_bdir_toReplace, bdir_updBar_self]
  · rw [settle_bdir_failed, raise_bdir_failed, bdir_updBar_self]; rfl
  · rw [settle_bdir_active, raise_bdir_active, bdir_updBar_self]
    exact getLsbD_setLane_true _ ⟨k, small⟩ j

theorem completes_spareLaneLost (spare : 8 ≤ l.val) (unused : (s.bdir d).active.getLsbD l.val = false)
    (works : (s.bdir d).failed.getLsbD l.val = false) :
    Completes (.spareLaneLost d l t) s fun u =>
      (u.bdir d).active = (s.bdir d).active ∧
      ∀ k : Fin 10, (u.bdir d).failed.getLsbD k.val = ((s.bdir d).failed.getLsbD k.val || decide (k = l)) := by
  obtain ⟨src, lost⟩ : ∃ src, spareLost (s.at t) d l =
      if spareLanes (s.bdir d) ≤ (s.bdir d).toReplace.length then
        directionDown (((s.at t).updBar d fun b => { b with failed := setLane b.failed l.val true }).raise src l.val) d
      else ((s.at t).updBar d fun b => { b with failed := setLane b.failed l.val true }).raise src l.val := by
    have goes : (decide (l.val < 8) || ((s.at t).bdir d).active.getLsbD l.val || ((s.at t).bdir d).failed.getLsbD l.val) = false := by
      rw [at_bdir, unused, works]; simpa using spare
    unfold spareLost
    simp only [goes, Bool.false_eq_true, if_false]
    exact ⟨_, rfl⟩
  obtain ⟨ready, after⟩ := bdir_downIf (((s.at t).updBar d fun b => { b with failed := setLane b.failed l.val true }).raise src l.val) d
    (spareLanes (s.bdir d) ≤ (s.bdir d).toReplace.length)
  refine completes_done (congrArg done lost) ⟨?_, fun k => ?_⟩
  · rw [settle_bdir_active, after, raise_bdir_active, bdir_updBar_self]; rfl
  · rw [settle_bdir_failed, after, raise_bdir_failed, bdir_updBar_self]
    exact getLsbD_setLane_true _ l k

theorem completes_barrierTrainTimeout (awake : s.start.hostReset = false)
    (untrained : ((s.bdir .hf).trained && (s.bdir .fh).trained) = false) :
    Completes (.barrierTrainTimeout t) s fun u =>
      (u.bdir .fh).trained = false ∧
      ∀ c : Core, ∃ r, (vget u.flts c.ix).inbox = (vget s.flts c.ix).inbox ++ [r] ∧ r.src = Src.barrierDownFH := by
  have goes : ((s.at t).start.hostReset || (((s.at t).bdir .hf).trained && ((s.at t).bdir .fh).trained)) = false := by
    rw [at_bdir, at_bdir, untrained, at_start, awake]; rfl
  have row : exec (.barrierTrainTimeout t) s = done (directionDown (s.at t) .fh) := by
    refine congrArg done ?_
    unfold trainTimeout
    rw [goes]; rfl
  obtain ⟨ready, down⟩ := bdir_directionDown (s.at t) .fh
  refine completes_done row ⟨?_, fun c => ⟨⟨Src.barrierDownFH, 0, (s.at t).ring.toNat, false, false⟩, ?_, rfl⟩⟩
  · rw [settle_bdir_trained, down]
  · have hub : srcField Src.barrierDownFH = false := by decide
    rw [settle_flts]
    cases c <;> simp [directionDown, State.raise, hub, State.raiseCore, vget_vupd, Core.ix] <;> rfl

/-- Sections that are sent become ready; nothing else of the barrier changes. -/
theorem moreReady_sendChunks (x : State) (c : Stagebook) (slot staged : Bool) : MoreReady x (sendChunks x c slot staged) :=
  moreReady_each (fun s _ => moreReady_each (fun s _ => moreReady_barReady s .hf .chunk _) _ s) _ x

theorem moreReady_sectionsAgain (x : State) : MoreReady x (sectionsAgain x) := by
  unfold sectionsAgain
  split
  · exact .refl _ _ rfl
  · dsimp only
    split
    · exact MoreReady.trans (.refl x _ rfl) (moreReady_barReady _ _ _ _)
    · split
      · exact .refl _ _ rfl
      · exact MoreReady.trans (.refl x _ rfl) (moreReady_sendChunks _ _ _ _)

theorem completes_barrierTrainingDone (host : s.start.hostReset = false) (field : s.start.fieldReset = false)
    (hf : 8 ≤ working10 (s.bdir .hf)) (fh : 8 ≤ working10 (s.bdir .fh)) :
    Completes (.barrierTrainingDone t) s fun u =>
      ∀ d, (u.bdir d).trained = true ∧ (u.bdir d).retraining = false ∧ (u.bdir d).active = (s.bdir d).active := by
  let up (b : BarDirState) : BarDirState := { b with trained := true, retraining := false }
  let x := ((s.at t).updBar .hf up).updBar .fh up
  have row : exec (.barrierTrainingDone t) s = done (sectionsAgain (backlogSend x)) := by
    refine congrArg done ?_
    unfold barrierTrained
    simp [host, field, hf, fh]
    rfl
  have trained (d : BarDir) : x.bdir d = up (s.bdir d) := by
    cases d
    · simp [x, bdir_updBar]
    · simp [x, bdir_updBar]
  refine completes_done row fun d => ?_
  have kept := (((moreReady_backlogSend x).trans (moreReady_sectionsAgain _)).trans (moreReady_settle _)).keeps d
  rw [kept, trained d]
  exact ⟨rfl, rfl, rfl⟩

end

/-- Settles O7: one theorem for each row. -/
theorem barrierLanes : Obligations.BarrierLanes := by
  unfold Obligations.BarrierLanes
  intro d l t s
  exact ⟨fun ⟨active, works⟩ => completes_laneFailed active works, fun rest waits spare => completes_laneReplaced waits spare,
    completes_spareLaneLost, completes_barrierTrainTimeout, completes_barrierTrainingDone⟩

end Sys2Proof.Machine
end

section
/-! SUPPORT. Margin monitors (R26, R27, R32) and the obligation about them. -/

namespace Sys2Proof.Machine

/-! Event bits that stay set (R8). -/

/-- An event bit of a register is set. -/
def EvtSet (s : State) (a i : Nat) : Prop := (s.reg a).getLsbD i = true

theorem EvtSet.evt {s : State} {a i : Nat} (h : EvtSet s a i) (b j : Nat) : EvtSet (s.evt b j) a i := by
  unfold EvtSet at h ⊢
  by_cases same : a = b
  · subst same
    rw [State.evt, reg_setReg_self, BitVec.getLsbD_or, h, Bool.true_or]
  · rw [reg_evt_ne _ _ same, h]

theorem EvtSet.bump {s : State} {a i : Nat} (h : EvtSet s a i) {b : Nat} (other : a ≠ b) : EvtSet (s.bump b) a i := by
  unfold EvtSet at h ⊢
  rw [reg_bump_ne _ other, h]

theorem EvtSet.congr {s u : State} {a i : Nat} (h : EvtSet s a i) (regs : u.regs = s.regs) : EvtSet u a i := by
  unfold EvtSet at h ⊢
  rw [reg_congr regs, h]

theorem evtSet_evt (s : State) (a i : Nat) (hi : i < 16) : EvtSet (s.evt a i) a i := reg_evt_bit s a i hi

theorem EvtSet.settle {s : State} {a i : Nat} (h : EvtSet s a i) (open_ : closingReg a = false) :
    ((settle s).reg a).getLsbD i = true := by
  rw [reg_settle_of_not_closing _ _ open_]; exact h

/-! Cores through what tells of them. -/

@[simp] theorem evt_core (s : State) (a i : Nat) (e : Core) : (s.evt a i).core e = s.core e := core_congr (evt_lead s a i) e
@[simp] theorem bump_core (s : State) (a : Nat) (e : Core) : (s.bump a).core e = s.core e := core_congr (bump_lead s a) e
@[simp] theorem raise_core (s : State) (a d : Nat) (e : Core) : (s.raise a d).core e = s.core e := core_congr (raise_lead s a d) e
@[simp] theorem raiseCore_core (s : State) (c : Core) (a d : Nat) (e : Core) : (s.raiseCore c a d).core e = s.core e := rfl

/-! A request for a planned swap leaves the cores and the events as they are (R410, R411). -/

theorem core_updLead {s : State} {f : LeadState → LeadState} (h : (f s.lead).cores = s.lead.cores) (c : Core) :
    (s.updLead f).core c = s.core c := by
  rw [State.core, updLead_lead, h]; rfl

/-- What a request for a swap can come to. -/
theorem swapRequest_keeps (s : State) (c : Core) (cause : ClaimCause) :
    (∀ e, (swapRequest s c cause).core e = s.core e) ∧ ∀ i, EvtSet s LU_EVT i → EvtSet (swapRequest s c cause) LU_EVT i := by
  unfold swapRequest
  extract_lets me peer wanted
  clear_value wanted
  split
  · exact ⟨fun _ => rfl, fun _ h => h⟩
  · split
    · split
      · refine ⟨fun e => ?_, fun i h => ?_⟩
        · rw [core_updLead rfl]; rfl
        · exact ((h.bump (by decide)).evt LU_EVT luSWAPCOLL).congr rfl
      · exact ⟨fun _ => rfl, fun _ h => h⟩
    · split
      · exact ⟨fun _ => rfl, fun i h => (h.evt LU_EVT luSWAPREF).congr rfl⟩
      · exact ⟨fun e => core_updLead rfl e, fun i h => h.congr rfl⟩

theorem marginSwap_keeps (s : State) (c : Core) :
    (∀ e, (marginSwap s c).core e = s.core e) ∧ ∀ i, EvtSet s LU_EVT i → EvtSet (marginSwap s c) LU_EVT i := by
  unfold marginSwap; dsimp only
  split
  · exact swapRequest_keeps s c .swap
  · exact ⟨fun _ => rfl, fun _ h => h⟩

/-! A measurement (R26, R27). -/

/-- The minimum after a measurement (R26, R32). -/
def lowest (code : BitVec 8) (m : Margin) : BitVec 8 := if m.restart = true ∨ code.toInt < m.low.toInt then code else m.low

theorem marginStep_values (m : Margin) (now : Nat) (code : BitVec 8) (thr : Word) :
    (marginStep m now code thr).1.live = code ∧ (marginStep m now code thr).1.low = lowest code m ∧
    (marginStep m now code thr).1.restart = false := by
  simp [marginStep, lowest]

/-- The fourth measurement in a row below an armed warning threshold reports and disarms it. -/
theorem marginStep_warns {m : Margin} {code : BitVec 8} {thr : Word} (now : Nat)
    (apart : (thr.extractLsb' 0 8 : BitVec 8).toInt < (thr.extractLsb' 8 8 : BitVec 8).toInt)
    (below : code.toInt < (thr.extractLsb' 8 8 : BitVec 8).toInt) (armed : m.warn.armed = true) (run : 3 ≤ m.warn.run) :
    (marginStep m now code thr).2.1 = true ∧ (marginStep m now code thr).1.warn.armed = false := by
  have fourth : min 4 (m.warn.run + 1) = 4 := by omega
  have step : marginStep m now code thr =
      (⟨code, lowest code m, false, (limitStep m.warn now code.toInt (thr.extractLsb' 8 8 : BitVec 8).toInt).1,
          (limitStep m.crit now code.toInt (thr.extractLsb' 0 8 : BitVec 8).toInt).1⟩,
        (limitStep m.warn now code.toInt (thr.extractLsb' 8 8 : BitVec 8).toInt).2,
        (limitStep m.crit now code.toInt (thr.extractLsb' 0 8 : BitVec 8).toInt).2) := by
    unfold marginStep lowest; dsimp only
    rw [if_neg (not_le.2 apart)]
    simp only [Bool.or_eq_true, decide_eq_true_eq]
  have fires : (limitStep m.warn now code.toInt (thr.extractLsb' 8 8 : BitVec 8).toInt).2 = true ∧
      (limitStep m.warn now code.toInt (thr.extractLsb' 8 8 : BitVec 8).toInt).1.armed = false := by
    simp only [limitStep, if_pos below, fourth, armed, Bool.true_or, decide_true, Bool.and_self, Bool.not_true, Bool.and_false,
      and_self]
  rw [step]
  exact fires

section
variable {code : BitVec 8} {t : Nat} {s : State}

/-- A cluster's measurement changes its monitor, and then only reports. -/
theorem clusterMargin_margins (s : State) (n : Fin 12) (code : BitVec 8) :
    (clusterMargin s n code).margins = vset s.margins n (marginStep (vget s.margins n) s.now code (s.reg FLD_MGN_THR)).1 := by
  unfold clusterMargin State.when; dsimp only
  split <;> split <;> simp [State.cluRaise]

theorem completes_clusterMeasure {k : Fin 14} {n : Fin 12} (named : k.val = n.val) :
    Completes (.marginMeasure k code t) s fun u =>
      (vget u.margins n).live = code ∧ (vget u.margins n).low = lowest code (vget s.margins n) ∧ (vget u.margins n).restart = false ∧
      ∀ m, m ≠ n → vget u.margins m = vget s.margins m := by
  have place : place? 12 k.val = some n := by rw [named]; exact place?_val n
  have row : exec (.marginMeasure k code t) s = done (clusterMargin (s.at t) n code) := by
    refine congrArg done ?_
    rw [place]
  obtain ⟨live, low, restart⟩ := marginStep_values (vget s.margins n) (max s.now t) code (s.reg FLD_MGN_THR)
  refine completes_done row ?_
  simp only [settle_margins, clusterMargin_margins, vget_vset]
  exact ⟨live, low, restart, fun m hm => by simp [hm]⟩

/-- A core's measurement changes its monitor; a warning and a critical report leave it, and a warning shows in LU_EVT. -/
theorem coreMargin_spec (s : State) (c : Core) (code : BitVec 8) :
    ((coreMargin s c code).core c).margin = (marginStep (s.core c).margin s.now code (s.reg LU_MGN_THR)).1 ∧
    ((marginStep (s.core c).margin s.now code (s.reg LU_MGN_THR)).2.1 = true → EvtSet (coreMargin s c code) LU_EVT luMWARN) := by
  rcases hm : marginStep (s.core c).margin s.now code (s.reg LU_MGN_THR) with ⟨m, rw, rc⟩
  let s1 := s.updCore c fun x => { x with margin := m }
  let s2 := s1.when rw fun s => marginSwap ((s.evt LU_EVT luMWARN).raiseCore c Src.coreMarginWarn c.ix.val) c
  have step : coreMargin s c code = s2.when rc fun s => (s.evt LU_EVT luMCRIT).raiseCore c Src.coreMarginCrit c.ix.val := by
    unfold coreMargin
    rw [hm]
  have warned : (s2.core c).margin = m ∧ (rw = true → EvtSet s2 LU_EVT luMWARN) := by
    obtain ⟨cores, events⟩ := marginSwap_keeps ((s1.evt LU_EVT luMWARN).raiseCore c Src.coreMarginWarn c.ix.val) c
    have own : s1.core c = { s.core c with margin := m } := core_updCore_self _ _ _
    cases hrw : rw
    · simp [s2, hrw, State.when, own]
    · simp only [s2, hrw, State.when, if_true, cores]
      refine ⟨?_, fun _ => events _ ((evtSet_evt s1 LU_EVT luMWARN (by decide)).congr rfl)⟩
      rw [raiseCore_core, evt_core, own]
  rw [step]
  cases hrc : rc
  · exact warned
  · simp only [State.when, if_true]
    refine ⟨?_, fun w => ((warned.2 w).evt LU_EVT luMCRIT).congr rfl⟩
    rw [raiseCore_core, evt_core]
    exact warned.1

theorem exec_coreMeasure {k : Fin 14} {c : Core} (named : k.val = 12 + c.ix.val) (code : BitVec 8) (t : Nat) (s : State) :
    exec (.marginMeasure k code t) s = done (coreMargin (s.at t) c code) := by
  have none_ : place? 12 k.val = none := by simp [place?, named]
  have which : (if k.val = 12 then Core.c0 else .c1) = c := by
    rw [named]; cases c <;> rfl
  refine congrArg done ?_
  rw [none_]
  exact congrArg (coreMargin (s.at t) · code) which

/-- Restarting the minimum of a core leaves the rest of its monitor and the other core's. -/
theorem clearCoreMargin_core (s : State) (v : Word) (c e : Core) :
    ((clearCoreMargin s v c).core e).margin =
      { (s.core e).margin with restart := (s.core e).margin.restart || (decide (e = c) && v.getLsbD c.ix.val) } := by
  unfold clearCoreMargin
  by_cases named : bitOf v c.ix.val = true
  · rw [if_pos named, core_updCore]
    have bit : v.getLsbD c.ix.val = true := named
    by_cases same : e = c
    · subst same; simp [bit]
    · simp [same]
  · rw [if_neg named]
    have bit : v.getLsbD c.ix.val = false := by simpa [bitOf] using named
    simp [bit]

end

/-- Settles O9: what a measurement and a clear make of a monitor. -/
theorem speedMargins : Obligations.SpeedMargins := by
  unfold Obligations.SpeedMargins
  intro code v t s
  refine ⟨fun k n named => completes_clusterMeasure named, fun k c named => ⟨?measure, fun apart below armed run => ?warns⟩, ?fld, ?lu⟩
  case measure =>
    obtain ⟨margin, -⟩ := coreMargin_spec (s.at t) c code
    obtain ⟨live, low, restart⟩ := marginStep_values (s.core c).margin (max s.now t) code (s.reg LU_MGN_THR)
    refine completes_done (exec_coreMeasure named code t s) ?_
    simp only [settle_core, margin]
    exact ⟨live, low, restart⟩
  case warns =>
    obtain ⟨margin, shown⟩ := coreMargin_spec (s.at t) c code
    obtain ⟨reports, disarmed⟩ := marginStep_warns (m := (s.core c).margin) (max s.now t) apart below armed run
    refine completes_done (exec_coreMeasure named code t s) ⟨(shown reports).settle (by decide), ?_⟩
    rw [settle_core, margin]
    exact disarmed
  case fld =>
    refine completes_done (x := clearMargins (s.at t) v) rfl fun n => ?_
    rw [settle_margins]
    simp [clearMargins, vget, bitOf]
  case lu =>
    refine completes_done (x := clearCoreMargin (clearCoreMargin (s.at t) v .c0) v .c1) rfl fun c => ?_
    rw [settle_core, clearCoreMargin_core, clearCoreMargin_core]
    cases c <;> simp

end Sys2Proof.Machine
end

section
/-! SUPPORT. The five instants of a cycle (R76, R77, R231, R253-R256, R312): memory written in runs of words, what the parts of an instant
leave as it was, and the obligation about them. -/

namespace Sys2Proof.Machine

/-! Runs of words in memory. -/

/-- A run of words changes the memory alone. -/
theorem setWords_eq (l : List Word) : ∀ (s : State) (a : Nat), s.setWords a l = { s with mem := (s.setWords a l).mem } := by
  induction l with
  | nil => exact fun _ _ => rfl
  | cons v l ih => intro s a; rw [State.setWords, ih]; rfl

theorem word_setWords_apart (l : List Word) : ∀ (s : State) (a b : Nat), b + 1 < a ∨ a + 2 * l.length ≤ b →
    (s.setWords a l).word b = s.word b := by
  induction l with
  | nil => exact fun _ _ _ _ => rfl
  | cons v l ih =>
    intro s a b h
    rw [List.length_cons] at h
    rw [State.setWords, ih _ _ _ (by omega), word_setWord_apart _ _ _ _ (by omega)]

theorem word_setWords (l : List Word) : ∀ (s : State) (a i : Nat), i < l.length → (s.setWords a l).word (a + 2 * i) = wAt l i := by
  induction l with
  | nil => intro s a i h; simp at h
  | cons v l ih =>
    intro s a i h
    rw [State.setWords]
    cases i with
    | zero => rw [word_setWords_apart _ _ _ _ (by omega)]; exact word_setWord_self s a v
    | succ i =>
      rw [show a + 2 * (i + 1) = a + 2 + 2 * i by omega, ih _ _ _ (by simpa using h)]
      rfl

/-! What the parts of an instant leave as it was. -/

/-- An element of a list of changes that leaves all but the clusters. -/
theorem noteInstantAll_eq (s : State) (i : Nat) : noteInstantAll s i = { s with clusters := (noteInstantAll s i).clusters } := by
  have fold : ∀ (l : List (Fin 12)) (x : State), x.each l (fun s n => noteInstant s n i) =
      { x with clusters := (x.each l fun s n => noteInstant s n i).clusters } := by
    intro l
    induction l with
    | nil => exact fun _ => rfl
    | cons n l ih =>
      intro x
      have step : x.each (n :: l) (fun s n => noteInstant s n i) = (noteInstant x n i).each l fun s n => noteInstant s n i := rfl
      rw [step, ih]; rfl
  exact fold _ s

/-- A view that does not look at the clusters sees no change. -/
theorem noteInstantAll_view {β : Type} (g : State → β) (hg : ∀ (x : State) c, g { x with clusters := c } = g x) (s : State) (i : Nat) :
    g (noteInstantAll s i) = g s := by
  rw [noteInstantAll_eq]; exact hg _ _

/-- Noting an instant leaves of every engine what it waits for and what it has done. -/
theorem synced_noteInstantAll (s : State) (i : Nat) (m : Fin 12) (e : Fin 14) :
    ((noteInstantAll s i).eng m e).synced = (s.eng m e).synced := by
  refine each_keeps (fun s : State => (s.eng m e).synced) (fun x n => ?_) _ s
  unfold noteInstant State.eng
  rw [cl_updCl]
  by_cases same : m = n
  · subst same
    simp only [if_true, vget, Vector.getElem_map]
    split
    · split <;> rfl
    · rfl
  · simp only [same, if_false]

/-- A status bit of the Ramuth mode changes registers alone. -/
theorem cmpStatus_eq (s : State) (b : Nat) : s.cmpStatus b = { s with regs := (s.cmpStatus b).regs } := by
  unfold State.cmpStatus; dsimp only; split <;> rfl

theorem regSel_setRegSel_ne (s : State) {a b : Nat} (i j : Nat) (v : Word) (hi : i < 65536) (hj : j < 65536) (h : b ≠ a) :
    (s.setRegSel a i v).regSel b j = s.regSel b j := by
  rw [regSel_setRegSel, if_neg]
  rw [regKey_inj b a j i hj hi]
  exact fun x => h x.1

theorem twinSel_lt (c : Core) : twinSel c < 65536 := by cases c <;> decide

theorem regSel_cmpStatus_ne (s : State) (b : Nat) {a k : Nat} (hk : k < 65536) (h : a ≠ CMP_R_STATUS) :
    (s.cmpStatus b).regSel a k = s.regSel a k := by
  unfold State.cmpStatus; dsimp only
  split
  · rw [regSel_setRegSel_ne _ _ _ _ (twinSel_lt _) hk h, regSel_setRegSel_ne _ _ _ _ (twinSel_lt _) hk h]
  · rfl

/-- Messages made ready leave all but the barrier. -/
def OnlyBar (s u : State) : Prop := u = { s with bar := u.bar }

theorem OnlyBar.refl (s : State) : OnlyBar s s := rfl
theorem OnlyBar.trans {s t u : State} (h : OnlyBar s t) (g : OnlyBar t u) : OnlyBar s u := by
  unfold OnlyBar at *
  rw [g, h]

/-- A view that does not look at the barrier sees no change. -/
theorem OnlyBar.view {β : Type} {s u : State} (h : OnlyBar s u) (g : State → β) (hg : ∀ (x : State) b, g { x with bar := b } = g x) :
    g u = g s := by
  rw [h]; exact hg _ _

theorem onlyBar_barReady (s : State) (d : BarDir) (ty : BarType) (b : BarPayload) : OnlyBar s (s.barReady d ty b) := rfl

theorem onlyBar_each {α : Type} {f : State → α → State} (h : ∀ s x, OnlyBar s (f s x)) :
    ∀ (l : List α) (s : State), OnlyBar s (s.each l f)
  | [], s => .refl s
  | x :: l, s => (h s x).trans (onlyBar_each h l (f s x))

theorem onlyBar_sendPinImages (s : State) (k : DWord) : OnlyBar s (sendPinImages s k) := by
  refine onlyBar_each (fun x c => onlyBar_each (fun y n => ?_) _ x) _ s
  split
  · exact .refl y
  · exact onlyBar_barReady _ _ _ _

theorem onlyBar_sendImages (s : State) (k : DWord) : OnlyBar s (sendImages s k) :=
  onlyBar_each (fun x _ => onlyBar_each (fun y _ => onlyBar_each (fun z _ => onlyBar_each (fun w _ => onlyBar_barReady w _ _ _) _ z) _ y) _ x)
    _ s

/-! An instant that comes (R76). -/

/-- The instant of a cycle comes now: the node knows S, has a sheet, and that instant has not come yet. -/
structure Comes (s : State) (t : Nat) (i : InstKind) (k : DWord) : Prop where
  valid : s.time.sValid = true
  sheet : ∃ c, s.runSheet = some c ∧ instantCycle (s.at t) c i = k
  fresh : notYet s i k = true

/-- The state in which an instant's effect begins: it is noted that it has come. -/
def noted (s : State) (i : InstKind) (k : DWord) : State := s.updTime fun t => { t with instDone := vset t.instDone i.ix (some k) }

theorem instantNow_comes {s : State} {t : Nat} {i : InstKind} {k : DWord} (h : Comes s t i k) (act : State → DWord → State) :
    instantNow (s.at t) i act = act (noted (s.at t) i k) k := by
  obtain ⟨valid, ⟨c, sheet, cycle⟩, fresh⟩ := h
  have valid' : (s.at t).time.sValid = true := valid
  have sheet' : (s.at t).runSheet = some c := sheet
  have fresh' : notYet (s.at t) i k = true := fresh
  unfold instantNow
  simp only [valid', sheet', cycle]
  unfold onceIn
  rw [if_pos fresh']
  rfl

/-! The sample instant (R253, R312). -/

/-- A sample instant changes the snapshot, what is ready for the hub, and the safe points of engines. -/
theorem sampleInstant_spec (x : State) : ∃ bar, (∀ m e, ((sampleInstant x).eng m e).synced = false) ∧
    sampleInstant x = { x with snap := snapWords x, bar := bar, clusters := (sampleInstant x).clusters } := by
  obtain ⟨s1, h1⟩ : ∃ s1 : State, s1 = { x with snap := snapWords x } := ⟨_, rfl⟩
  obtain ⟨s2, h2⟩ : ∃ s2, s2 = s1.each (cutRuns 15 32 0 (snapWords x)) fun s y => s.barReady .fh .imageIn (.snapshot y.1 y.2) := ⟨_, rfl⟩
  have sent : OnlyBar s1 s2 := h2 ▸ onlyBar_each (fun y _ => onlyBar_barReady y _ _ _) _ s1
  have step : sampleInstant x = noteInstantAll { s2 with clusters := s2.clusters.map fun (c : Cluster) =>
      { c with engines := c.engines.map fun (x : Engine) => { x with synced := false } } } 0 := by
    rw [h2, h1]; rfl
  rw [step]
  refine ⟨s2.bar, fun m e => ?_, ?_⟩
  · rw [synced_noteInstantAll]
    simp [State.eng, State.cl, vget]
  · rw [noteInstantAll_eq, sent, h1]

theorem completes_sampleInstant {s : State} {t : Nat} {k : DWord} (h : Comes s t .sample k) :
    Completes (.sampleInstant t) s fun u =>
      vget u.time.instDone InstKind.sample.ix = some k ∧ u.snap = snapWords (s.at t) ∧ (∀ m e, (u.eng m e).synced = false) ∧
      SameMemory s u := by
  have row : exec (.sampleInstant t) s = done (sampleInstant (noted (s.at t) .sample k)) := congrArg done (instantNow_comes h _)
  obtain ⟨bar, off, after⟩ := sampleInstant_spec (noted (s.at t) .sample k)
  refine completes_done row ⟨?_, ?_, fun m e => ?_, sameMemory_settle ?_⟩
  · rw [settle_time_instDone, after]
    simp [noted, vget_vset]
  · rw [settle_snap, after]; rfl
  · rw [settle_eng]; exact off m e
  · rw [after]; rfl

/-! The refresh of snapshot windows (R253). -/

/-- One cluster's SNAP regions take their words. -/
def snapCluster (s : State) (n : Fin 12) : State := s.each (regionsOf s n .snap) fun s r => snapRegion s n r

theorem snapRegion_eq (s : State) (n : Fin 12) (r : Region) : snapRegion s n r = { s with mem := (snapRegion s n r).mem } :=
  setWords_eq _ _ _

/-- Regions within a window leave every word outside it, and all but memory. -/
theorem snapRegions_keep (n : Fin 12) : ∀ (l : List Region) (s : State),
    s.each l (fun s r => snapRegion s n r) = { s with mem := (s.each l fun s r => snapRegion s n r).mem } ∧
    ∀ b, (∀ x ∈ l, x.win + x.len ≤ 0x8000) → b + 1 < windowBase n.val ∨ windowBase n.val + 0x10000 ≤ b →
      (s.each l fun s r => snapRegion s n r).word b = s.word b := by
  intro l
  induction l with
  | nil => exact fun s => ⟨rfl, fun _ _ _ => rfl⟩
  | cons r l ih =>
    intro s
    have step : s.each (r :: l) (fun s r => snapRegion s n r) = (snapRegion s n r).each l fun s r => snapRegion s n r := rfl
    obtain ⟨rest, words⟩ := ih (snapRegion s n r)
    rw [step]
    refine ⟨?_, fun b inside apart => ?_⟩
    · rw [rest, snapRegion_eq]
    · have own := inside r List.mem_cons_self
      rw [words b (fun x hx => inside x (List.mem_cons_of_mem _ hx)) apart, snapRegion, word_setWords_apart]
      simp only [List.length_map, List.length_range]
      omega

theorem snapCluster_eq (s : State) (n : Fin 12) : snapCluster s n = { s with mem := (snapCluster s n).mem } :=
  (snapRegions_keep n _ s).1

theorem regionsOf_congr {s t : State} (h : t.clusters = s.clusters) (n : Fin 12) (k : RegionKind) : regionsOf t n k = regionsOf s n k := by
  unfold regionsOf
  rw [cl_congr h]

/-- What all clusters but one do to memory leaves that one's window. -/
theorem snapClusters_keep (n : Fin 12) (l : List (Fin 12)) (other : n ∉ l) {b : Nat}
    (within : windowBase n.val ≤ b ∧ b + 1 < windowBase n.val + 0x10000) : ∀ s : State,
    (∀ m, ∀ x ∈ regionsOf s m .snap, x.win + x.len ≤ 0x8000) →
      (s.each l snapCluster).word b = s.word b := by
  induction l with
  | nil => exact fun _ _ => rfl
  | cons m l ih =>
    intro s inside
    have ne : n.val ≠ m.val := fun e => other (Fin.ext e ▸ List.mem_cons_self)
    have step : s.each (m :: l) snapCluster = (snapCluster s m).each l snapCluster := rfl
    have same : (snapCluster s m).clusters = s.clusters := by rw [snapCluster_eq]
    rw [step, ih (fun h => other (List.mem_cons_of_mem _ h)) (snapCluster s m) fun i => by rw [regionsOf_congr same]; exact inside i]
    exact (snapRegions_keep m _ s).2 b (inside m) (by unfold windowBase at *; omega)

theorem snapClusters_eq (l : List (Fin 12)) : ∀ s : State, s.each l snapCluster = { s with mem := (s.each l snapCluster).mem } := by
  induction l with
  | nil => exact fun _ => rfl
  | cons m l ih =>
    intro s
    have step : s.each (m :: l) snapCluster = (snapCluster s m).each l snapCluster := rfl
    rw [step, ih, snapCluster_eq]

theorem completes_snapRefresh {s : State} {t : Nat} {n : Fin 12} {r : Region} {i : Nat} (one : regionsOf s n .snap = [r])
    (small : i < r.len) (inside : ∀ m, ∀ x ∈ regionsOf s m .snap, x.win + x.len ≤ 0x8000) :
    Completes (.snapRefresh t) s fun u => u.word (windowBase n.val + 2 * (r.win + i)) = wAt s.snap (r.hub + i) := by
  refine completes_done (x := (s.at t).each (List.finRange 12) snapCluster) rfl ?_
  obtain ⟨pre, post, split⟩ := List.append_of_mem (List.mem_finRange n)
  have distinct : (pre ++ n :: post).Nodup := split ▸ List.nodup_finRange 12
  obtain ⟨-, after, before⟩ := List.nodup_append'.1 distinct
  have notAfter : n ∉ post := (List.nodup_cons.1 after).1
  have own := inside n r (by rw [one]; simp)
  have within : windowBase n.val ≤ windowBase n.val + 2 * (r.win + i) ∧
      windowBase n.val + 2 * (r.win + i) + 1 < windowBase n.val + 0x10000 := by omega
  let x := (s.at t).each pre snapCluster
  have steps : (s.at t).each (pre ++ n :: post) snapCluster = (snapCluster x n).each post snapCluster := by
    simp [State.each, List.foldl_append, x]
  have same : x.clusters = s.clusters := by simp only [x]; rw [snapClusters_eq]; rfl
  have sameAfter : (snapCluster x n).clusters = s.clusters := by rw [snapCluster_eq]; exact same
  have snap : x.snap = s.snap := by simp only [x]; rw [snapClusters_eq]; rfl
  have mine : snapCluster x n = snapRegion x n r := by
    rw [snapCluster, regionsOf_congr same, one]; rfl
  rw [settle_word, split, steps, snapClusters_keep n post notAfter within _ fun m => by rw [regionsOf_congr sameAfter]; exact inside m,
    mine, snapRegion, show windowBase n.val + 2 * (r.win + i) = windowBase n.val + 2 * r.win + 2 * i by omega,
    word_setWords _ _ _ _ (by simpa using small), snap]
  simp [wAt, small]

/-! The flip instant (R77, R412). -/

theorem cmpFlip_eq (s : State) : cmpFlip s = { s with regs := (s.cmpStatus 7).regs, cmp := (cmpFlip s).cmp } := by
  unfold cmpFlip; dsimp only
  rw [cmpStatus_eq]
  split <;> rfl

theorem landingsOpen_eq (s : State) (k : DWord) : ∃ l, landingsOpen s k = s.updCue fun x => { x with landings := l } := by
  unfold landingsOpen
  split
  · exact ⟨s.cue.landings, rfl⟩
  · exact ⟨_, rfl⟩

theorem isHealth_iff {s : State} {b : Stagebook} (h : inForce s = some b) (w : Nat) : isHealth s w = decide (b.health = some w) := by
  simp [isHealth, h]

/-- The health word is the one word that the bridge places in the send bank. -/
theorem placeHealth_spec (s : State) :
    (placeHealth s).cue = s.cue ∧
    (∀ w, isHealth s w = false → (placeHealth s).sendWord w = s.sendWord w) ∧
    ∀ w, isHealth s w = true → (placeHealth s).sendWord w = (placeHealth s).reg LU_HW_LAST := by
  unfold placeHealth
  split
  · rename_i none_
    exact ⟨rfl, fun _ _ => rfl, fun w h => by simp [isHealth, none_] at h⟩
  · rename_i b force
    split
    · rename_i none_
      exact ⟨rfl, fun _ _ => rfl, fun w h => by rw [isHealth_iff force, none_] at h; simp at h⟩
    · rename_i w0 named
      refine ⟨rfl, fun w h => ?_, fun w h => ?_⟩
      · rw [isHealth_iff force, named] at h
        have ne : w0 ≠ w := by simpa using h
        exact (word_congr rfl _).trans (word_setWord_apart s (pubBase (!s.cue.fill) + 2 * w0) (pubBase (!s.cue.fill) + 2 * w) _ (by omega))
      · rw [isHealth_iff force, named] at h
        have eq : w0 = w := by simpa using h
        subst eq
        have stored : ∀ (x : State) (v : Word), (((x.setWord (pubBase (!s.cue.fill) + 2 * w0) v).setReg LU_HW_LAST v).updLead fun l =>
            { l with mismSince := false, migSince := false }).word (pubBase (!s.cue.fill) + 2 * w0) = v :=
          fun x v => (word_congr rfl _).trans (word_setWord_self _ _ _)
        refine (stored s (healthWord s)).trans ?_
        rw [reg_congr (updLead_regs _ _), reg_setReg_self]

theorem completes_flipInstant {s : State} {t : Nat} {k : DWord} (h : Comes s t .flip k) :
    Completes (.flipInstant t) s fun u =>
      u.cue.fill = !s.cue.fill ∧ (∀ w, isHealth s w = false → u.sendWord w = s.fillWord w) ∧
      ∀ w, isHealth s w = true → u.sendWord w = u.reg LU_HW_LAST := by
  obtain ⟨l, opened⟩ := landingsOpen_eq (noted (s.at t) .flip k) k
  let s1 := (landingsOpen (noted (s.at t) .flip k) k).updCue fun c => { c with fill := !c.fill }
  have row : exec (.flipInstant t) s = done (noteInstantAll (sendPinImages (cmpFlip (placeHealth s1)) k) 2) :=
    congrArg done (instantNow_comes h _)
  obtain ⟨cue, others, health⟩ := placeHealth_spec s1
  have fill : s1.cue.fill = !s.cue.fill := by simp only [s1, opened]; rfl
  have mem : s1.mem = s.mem := by simp only [s1, opened]; rfl
  have force (w : Nat) : isHealth s1 w = isHealth s w := by simp only [s1, opened]; rfl
  have sent := onlyBar_sendPinImages (cmpFlip (placeHealth s1)) k
  have cueLast : (settle (noteInstantAll (sendPinImages (cmpFlip (placeHealth s1)) k) 2)).cue = s1.cue := by
    rw [settle_cue, noteInstantAll_eq, sent, cmpFlip_eq]
    exact cue
  have word (a : Nat) : (settle (noteInstantAll (sendPinImages (cmpFlip (placeHealth s1)) k) 2)).word a = (placeHealth s1).word a := by
    rw [settle_word]
    refine word_congr ?_ a
    rw [noteInstantAll_eq, sent, cmpFlip_eq]
  have sendWord (w : Nat) : (settle (noteInstantAll (sendPinImages (cmpFlip (placeHealth s1)) k) 2)).sendWord w = (placeHealth s1).sendWord w := by
    rw [State.sendWord, State.sendWord, cueLast, cue, word]
  refine completes_done row ⟨by rw [cueLast, fill], fun w hw => ?_, fun w hw => ?_⟩
  · rw [sendWord, others w (by rw [force, hw]), State.sendWord, State.fillWord, fill, Bool.not_not]
    exact word_congr mem _
  · rw [sendWord, health w (by rw [force, hw]), reg_settle_of_not_closing _ _ (by decide)]
    have kept : (cmpFlip (placeHealth s1)).reg LU_HW_LAST = (placeHealth s1).reg LU_HW_LAST := by
      rw [cmpFlip_eq]
      exact regSel_cmpStatus_ne _ 7 (by decide) (by decide)
    rw [← kept]
    refine (reg_congr ?_ _).symm
    rw [noteInstantAll_eq, sent]

/-! What changes memory, registers, reports, traces and the cue sequencer alone. -/

/-- All as before but for memory, registers, the cue sequencer, what is ready on the barrier, reports and traces. -/
def Aside (s u : State) : Prop :=
  u = { s with mem := u.mem, marks := u.marks, regs := u.regs, cue := u.cue, bar := u.bar, flts := u.flts, backlog := u.backlog
               traces := u.traces }

theorem Aside.refl (s : State) : Aside s s := rfl
theorem Aside.trans {s t u : State} (h : Aside s t) (g : Aside t u) : Aside s u := by
  unfold Aside at *
  rw [g, h]

theorem aside_raise (s : State) (a d : Nat) : Aside s (s.raise a d) := by
  unfold State.raise
  split
  · split <;> rfl
  · rfl
theorem aside_evt (s : State) (a i : Nat) : Aside s (s.evt a i) := rfl
theorem aside_bump (s : State) (a : Nat) : Aside s (s.bump a) := rfl
theorem aside_cmpStatus (s : State) (b : Nat) : Aside s (s.cmpStatus b) := by rw [cmpStatus_eq]; rfl
theorem aside_cmpError (s : State) : Aside s s.cmpError := by
  unfold State.cmpError; dsimp only; split <;> rfl
theorem aside_setWords (s : State) (a : Nat) (l : List Word) : Aside s (s.setWords a l) := by rw [setWords_eq]; rfl
theorem aside_updCue (s : State) (f : CueState → CueState) : Aside s (s.updCue f) := rfl

theorem aside_trace (s : State) (i : Fin 14) (k r d : Nat) : Aside s (s.trace i k r d) := by
  obtain ⟨b, h | h | h⟩ := trace_cases s i k r d
  · rw [h]; rfl
  · rw [h]; rfl
  · rw [h]
    have lost : Aside s ((({ s with traces := b } : State).bump DBG_TRC_LOST).evt DBG_EVT 12) := rfl
    exact lost.trans (aside_raise _ _ _)

theorem aside_each {α : Type} {f : State → α → State} (h : ∀ s x, Aside s (f s x)) : ∀ (l : List α) (s : State), Aside s (s.each l f)
  | [], s => .refl s
  | x :: l, s => (h s x).trans (aside_each h l (f s x))

theorem aside_traceAll (s : State) (kind : Nat) : Aside s (s.traceAll kind) := aside_each (fun x i => aside_trace x i kind 0 0) _ s

/-! The parts of a latch instant (R79, R231, R485). -/

theorem aside_deliver (s : State) (k : DWord) (e : CueEntry) : Aside s (deliver s k e) := by
  unfold deliver
  extract_lets pub l old put s1
  have first : Aside s s1 := rfl
  split
  · rename_i l d _
    extract_lets single s2 s3
    have words : Aside s1 s2 := aside_setWords _ _ _
    have counted : Aside s2 s3 := by simp only [s3]; split <;> rfl
    have last : Aside s3 (put (s3.bump (match l.ring with | .a => CUE_TAKEA | .b => CUE_TAKEB))
        ⟨e.ix, true, single, decide (l.ring = .b), 0⟩) := rfl
    exact ((first.trans words).trans counted).trans last
  · rename_i s2 _ _
    have kept : Aside s s2 := first.trans (aside_updCue s1 _)
    clear_value s2
    split
    · exact kept.trans ((aside_evt s2 CUE_EVT 4).trans ((aside_cmpStatus _ 4).trans (aside_cmpError _)))
    · exact kept

theorem aside_deliverAll (s : State) (k : DWord) : Aside s (deliverAll s k) := by
  unfold deliverAll
  split
  · exact .refl s
  · exact aside_each (fun x e => aside_deliver x k e) _ s

theorem aside_clusterWrites : ∀ (l : List Word) (s : State) (a : Nat), Aside s (clusterWrites s a l)
  | [], s, _ => .refl s
  | v :: l, s, a => by
    unfold clusterWrites
    refine Aside.trans (t := s.storeWord a v) rfl ?_
    dsimp only
    split
    · exact aside_clusterWrites l _ _
    · rename_i n p _
      refine Aside.trans ?_ (aside_clusterWrites l _ _)
      unfold codeFollows
      split
      · exact .refl _
      · dsimp only; split <;> rfl

theorem aside_pubWrite (s : State) (w : Nat) (v : Word) : Aside s (pubWrite s w v) := by
  unfold pubWrite; split <;> rfl

theorem aside_commitOne (s : State) (x : Staged) : Aside s (commitOne s x) := by
  unfold commitOne
  split
  · refine aside_each (fun y i => ?_) _ s
    dsimp only
    split
    · exact .refl y
    · exact aside_pubWrite _ _ _
  · exact aside_clusterWrites _ _ _

/-- The commit of staged writes takes those of its cycle out (R231). -/
theorem commitStaged_aside (s : State) (k : DWord) :
    Aside (s.updBrg fun b => { b with staged := b.staged.filter fun x => decide (x.cycle ≠ k) }) (commitStaged s k) := by
  unfold commitStaged
  refine Aside.trans (aside_each aside_commitOne _ _) (aside_each (fun y o => ?_) _ _)
  exact Aside.trans (t := (y.bump BRG_STG_ORPHAN).evt BRG_EVT brgSTG_ORPHAN) rfl (aside_raise _ _ _)

/-- What the pin image of a cluster rests on, and the images of its pins (R256). -/
def latchView (n : Fin 12) (s : State) :=
  (s.fieldAccepted, (s.cl n).cfg, (s.cl n).pimgStage, fun j => (s.pin (pinOf n j)).image)

theorem Aside.latchView {s u : State} (h : Aside s u) (n : Fin 12) : latchView n u = latchView n s := by rw [h]; rfl

theorem fieldIntmLatch_keeps (n : Fin 12) (s : State) :
    latchView n (fieldIntmLatch s) = latchView n s ∧ (fieldIntmLatch s).brg = s.brg := by
  unfold fieldIntmLatch
  split
  · refine ⟨?_, rfl⟩
    simp [latchView, State.cl, vget, State.fieldAccepted, State.core, State.pin]
  · split <;> exact ⟨rfl, rfl⟩

theorem intmLatch_keeps (n : Fin 12) (s : State) : latchView n (intmLatch s) = latchView n s ∧ (intmLatch s).brg = s.brg := by
  obtain ⟨view, brg⟩ := fieldIntmLatch_keeps n s
  unfold intmLatch; dsimp only
  split
  · have entered : Aside ((fieldIntmLatch s).updHost fun h =>
        { h with intm := .inside, intmSent := false, intmClear := false, reasons := [], sentReasons := [] }) (intmEnter (fieldIntmLatch s)) :=
      aside_traceAll _ _
    refine ⟨(entered.latchView n).trans view, ?_⟩
    rw [entered]
    exact brg
  · split
    · exact ⟨view, brg⟩
    · exact ⟨view, brg⟩

/-- The parts of a latch instant before the pins leave what the pin images rest on. -/
theorem latchBefore_keeps (n : Fin 12) (s : State) (k : DWord) :
    latchView n (commitStaged (intmLatch (deliverAll s k)) k) = latchView n s ∧
    (commitStaged (intmLatch (deliverAll s k)) k).brg.staged = s.brg.staged.filter fun x => decide (x.cycle ≠ k) := by
  have delivered := aside_deliverAll s k
  obtain ⟨view, brg⟩ := intmLatch_keeps n (deliverAll s k)
  have committed := commitStaged_aside (intmLatch (deliverAll s k)) k
  refine ⟨(committed.latchView n).trans (view.trans (delivered.latchView n)), ?_⟩
  rw [committed, updBrg_brg, brg, delivered]

/-! The pins of a latch instant (R256). -/

theorem mismatch_keeps (n : Fin 12) (s : State) (i : Nat) :
    latchView n (mismatch s i) = latchView n s ∧ (mismatch s i).brg = s.brg ∧ (mismatch s i).mem = s.mem ∧
      (mismatch s i).clusters = s.clusters ∧ (mismatch s i).cue = s.cue := by
  have told := aside_raise (((s.bump (mismReg i)).evt LU_EVT luMISM).updLead fun l => { l with mismSince := true }) Src.comparator i
  refine ⟨(told.latchView n).trans rfl, raise_brg _ _ _, raise_mem _ _ _, raise_clusters _ _ _, raise_cue _ _ _⟩

theorem pinOf_inj {n m : Fin 12} {i j : Fin 12} : pinOf n i = pinOf m j ↔ n = m ∧ i = j := by
  simp only [pinOf, Fin.ext_iff]; omega

/-- The twelve images of a cluster's pins are set. -/
def setImages (s : State) (n : Fin 12) (l : List (Fin 12)) (w : Word) : State :=
  s.each l fun s j => s.updPin (pinOf n j) fun p => { p with image := bitOf w j.val }

theorem setImages_eq (n : Fin 12) (w : Word) : ∀ (l : List (Fin 12)) (s : State), setImages s n l w = { s with pins := (setImages s n l w).pins }
  | [], _ => rfl
  | j :: l, s => by
    have step : setImages s n (j :: l) w = setImages (s.updPin (pinOf n j) fun p => { p with image := bitOf w j.val }) n l w := rfl
    rw [step, setImages_eq n w l]; rfl

theorem image_setImages (n m i : Fin 12) (w : Word) : ∀ (l : List (Fin 12)) (s : State),
    ((setImages s n l w).pin (pinOf m i)).image = if m = n ∧ i ∈ l then bitOf w i.val else (s.pin (pinOf m i)).image
  | [], s => by simp [setImages, State.each]
  | j :: l, s => by
    have step : setImages s n (j :: l) w = setImages (s.updPin (pinOf n j) fun p => { p with image := bitOf w j.val }) n l w := rfl
    rw [step, image_setImages n m i w l, pin_updPin]
    by_cases hm : m = n
    · by_cases hi : i = j
      · subst hi; simp [hm]
      · simp [pinOf_inj, hm, hi]
    · simp [pinOf_inj, hm]

/-- The pin image word a core has sent a cluster for the latch instant of a cycle. -/
def imageSent (k : DWord) (s : State) (n : Fin 12) (x : Core) : Option Word := match vget (s.cl n).pimgStage x.ix with
  | none => none
  | some (j, w) => if j = k then some w else none

/-- The stages of a cluster are cleared, and rank 8 holds or not. -/
def clearStages (n : Fin 12) (gap : Bool) (s : State) : State :=
  s.updCl n fun c => { c with pimgStage := Vector.replicate 2 none, imgGap := gap }

/-- The comparison of what both cores have sent (R402). -/
def comparedImages (k : DWord) (s : State) (n : Fin 12) (a : Core) : State :=
  if comparing s && decide (imageSent k s n a ≠ imageSent k s n a.other) then mismatch s 1 else s

section
variable {k : DWord} {s : State} {n : Fin 12} {a : Core} {w : Word} {p : Nat}

theorem latchPins_sent (accepted : s.fieldAccepted = some a) (named : pimgWord s n = some p) (sent : imageSent k s n a = some w) :
    latchPins k s n = clearStages n false (setImages (comparedImages k s n a) n (List.finRange 12) w) := by
  unfold latchPins
  rw [accepted, named]
  show (match imageSent k s n a with | none => _ | some w => _) = _
  rw [sent]
  rfl

theorem latchPins_missing (accepted : s.fieldAccepted = some a) (named : pimgWord s n = some p) (sent : imageSent k s n a = none) :
    latchPins k s n = (clearStages n true (comparedImages k s n a)).raise Src.imageIncomplete n.val := by
  unfold latchPins
  rw [accepted, named]
  show (match imageSent k s n a with | none => _ | some w => _) = _
  rw [sent]
  rfl

theorem latchPins_unnamed (h : pimgWord s n = none ∨ s.fieldAccepted = none) : latchPins k s n = clearStages n false s := by
  unfold latchPins
  rcases h with h | h <;> rw [h]
  · rfl
  · cases pimgWord s n <;> rfl

/-- The cases of a latch of one cluster's pins. -/
theorem latchPins_cases (k : DWord) (s : State) (n : Fin 12) :
    latchPins k s n = clearStages n false s ∨
    ∃ a, latchPins k s n = (clearStages n true (comparedImages k s n a)).raise Src.imageIncomplete n.val ∨
      ∃ w, latchPins k s n = clearStages n false (setImages (comparedImages k s n a) n (List.finRange 12) w) := by
  rcases named : pimgWord s n with _ | p
  · exact .inl (latchPins_unnamed (.inl named))
  · rcases accepted : s.fieldAccepted with _ | a
    · exact .inl (latchPins_unnamed (.inr accepted))
    · rcases sent : imageSent k s n a with _ | w
      · exact .inr ⟨a, .inl (latchPins_missing accepted named sent)⟩
      · exact .inr ⟨a, .inr ⟨w, latchPins_sent accepted named sent⟩⟩

end

theorem comparedImages_keeps (k : DWord) (s : State) (n m : Fin 12) (a : Core) :
    latchView m (comparedImages k s n a) = latchView m s ∧ (comparedImages k s n a).brg = s.brg := by
  unfold comparedImages
  split
  · exact ⟨(mismatch_keeps m s 1).1, (mismatch_keeps m s 1).2.1⟩
  · exact ⟨rfl, rfl⟩

theorem latchView_updCl_other {n m : Fin 12} (h : n ≠ m) (s : State) (f : Cluster → Cluster) :
    latchView n (s.updCl m f) = latchView n s := by
  simp only [latchView, cl_updCl, h, if_false]; rfl

theorem latchView_setImages_other {n m : Fin 12} (h : n ≠ m) (s : State) (l : List (Fin 12)) (w : Word) :
    latchView n (setImages s m l w) = latchView n s := by
  have images : (fun j => ((setImages s m l w).pin (pinOf n j)).image) = fun j => (s.pin (pinOf n j)).image :=
    funext fun j => by rw [image_setImages]; simp [h]
  have rest := setImages_eq m w l s
  unfold latchView
  rw [images, rest]
  rfl

/-- The latch of one cluster's pins leaves what another's rest on. -/
theorem latchPins_other {n m : Fin 12} (h : n ≠ m) (k : DWord) (s : State) :
    latchView n (latchPins k s m) = latchView n s := by
  obtain e | ⟨a, e | ⟨w, e⟩⟩ := latchPins_cases k s m
  · rw [e, clearStages, latchView_updCl_other h]
  · rw [e, (aside_raise _ _ _).latchView, clearStages, latchView_updCl_other h, (comparedImages_keeps k s m n a).1]
  · rw [e, clearStages, latchView_updCl_other h, latchView_setImages_other h, (comparedImages_keeps k s m n a).1]

theorem latchPins_brg (k : DWord) (s : State) (n : Fin 12) : (latchPins k s n).brg = s.brg := by
  obtain e | ⟨a, e | ⟨w, e⟩⟩ := latchPins_cases k s n
  · rw [e]; rfl
  · rw [e, raise_brg, clearStages, updCl_brg, (comparedImages_keeps k s n n a).2]
  · rw [e, clearStages, updCl_brg, setImages_eq, (comparedImages_keeps k s n n a).2]

theorem latchPins_own {k : DWord} {s : State} {n : Fin 12} {a : Core} {w : Word} {p : Nat} (accepted : s.fieldAccepted = some a)
    (named : pimgWord s n = some p) (stage : vget (s.cl n).pimgStage a.ix = some (k, w)) (j : Fin 12) :
    ((latchPins k s n).pin (pinOf n j)).image = bitOf w j.val := by
  have sent : imageSent k s n a = some w := by simp [imageSent, stage]
  rw [latchPins_sent accepted named sent, clearStages, pin_congr (updCl_pins _ _ _), image_setImages]
  simp

/-- The latch of all clusters: a cluster's pins take the word that the accepted core has sent. -/
theorem latchAllPins {k : DWord} {s : State} {n : Fin 12} {a : Core} {w : Word} {p : Nat} (accepted : s.fieldAccepted = some a)
    (named : pimgWord s n = some p) (stage : vget (s.cl n).pimgStage a.ix = some (k, w)) (j : Fin 12) :
    ((s.each (List.finRange 12) (latchPins k)).pin (pinOf n j)).image = bitOf w j.val := by
  obtain ⟨pre, post, split⟩ := List.append_of_mem (List.mem_finRange n)
  have distinct : (pre ++ n :: post).Nodup := split ▸ List.nodup_finRange 12
  obtain ⟨-, after, apart⟩ := List.nodup_append'.1 distinct
  have notAfter : n ∉ post := (List.nodup_cons.1 after).1
  have notBefore : n ∉ pre := fun h => apart h List.mem_cons_self
  have others : ∀ (l : List (Fin 12)), n ∉ l → ∀ x : State, latchView n (x.each l (latchPins k)) = latchView n x := by
    intro l
    induction l with
    | nil => exact fun _ _ => rfl
    | cons m l ih =>
      intro h x
      have step : x.each (m :: l) (latchPins k) = (latchPins k x m).each l (latchPins k) := rfl
      rw [step, ih (fun g => h (List.mem_cons_of_mem _ g)), latchPins_other fun e : n = m => h (e ▸ List.mem_cons_self)]
  let x := s.each pre (latchPins k)
  have steps : s.each (List.finRange 12) (latchPins k) = (latchPins k x n).each post (latchPins k) := by
    rw [split]; simp [State.each, List.foldl_append, x]
  have view : latchView n x = latchView n s := others pre notBefore s
  simp only [latchView, Prod.mk.injEq] at view
  obtain ⟨core, cfg, stages, -⟩ := view
  have last := others post notAfter (latchPins k x n)
  simp only [latchView, Prod.mk.injEq] at last
  rw [steps, congrFun last.2.2.2 j]
  refine latchPins_own (p := p) (core.trans accepted) ?_ (stages ▸ stage) j
  unfold pimgWord at named ⊢
  rw [cfg]; exact named

/-- The closing part leaves the images of the pins. -/
theorem settle_pin_image (s : State) (k : Fin 144) : ((settle s).pin k).image = (s.pin k).image := by
  have first (x : State) : (settleModes (settleBypass (settleFuses (settleHolds (settleLock (settleRange .b (settleRange .a x))))))).pin k =
      x.pin k := by unfold State.pin; simp
  have pins : (settle s).pin k = settlePin (settleModes (settleBypass (settleFuses (settleHolds (settleLock
      (settleRange .b (settleRange .a s))))))) k := by
    rw [← settlePins_pin]; unfold State.pin
    simp only [settle, settleFwd_pins, settleSignals_pins, foldl_keeps (fun s : State => s.pins) settleCan settleCan_pins]
  rw [pins]
  show ((settleModes _).pin k).image = _
  rw [first]

theorem cmpLatch_eq (s : State) : cmpLatch s = { s with regs := (cmpLatch s).regs, cmp := (cmpLatch s).cmp } := by
  unfold cmpLatch
  split
  · rfl
  · extract_lets ranks held s1
    have first : s1 = { s with regs := s1.regs } := by
      simp only [s1]
      split
      · exact cmpStatus_eq s 5
      · rfl
    clear_value s1 held
    split
    · rename_i s2 _ _
      have second : s2 = { s1 with regs := s2.regs } := by simp only [s2]; rw [cmpStatus_eq]; rfl
      clear_value s2
      rw [second, first]
    · rw [first]

theorem latchTail_keeps (x : State) (k : DWord) :
    (noteInstantAll (sendImages (cmpLatch (settle (latchHolds (latchTime x)))) k) 1).start.latched = true ∧
    (noteInstantAll (sendImages (cmpLatch (settle (latchHolds (latchTime x)))) k) 1).brg.staged = x.brg.staged ∧
    ∀ j, ((noteInstantAll (sendImages (cmpLatch (settle (latchHolds (latchTime x)))) k) 1).pin j).image = (x.pin j).image := by
  have sent := onlyBar_sendImages (cmpLatch (settle (latchHolds (latchTime x)))) k
  have kept {β : Type} (g : State → β) (hb : ∀ (y : State) b, g { y with bar := b } = g y)
      (hc : ∀ (y : State) c, g { y with clusters := c } = g y) (hr : ∀ (y : State) r (c : CmpState), g ({ y with regs := r, cmp := c } : State) = g y) :
      g (noteInstantAll (sendImages (cmpLatch (settle (latchHolds (latchTime x)))) k) 1) = g (settle (latchHolds (latchTime x))) := by
    rw [noteInstantAll_view g hc, sent.view g hb, cmpLatch_eq, hr]
  have latched := kept (fun s => s.start.latched) (fun _ _ => rfl) (fun _ _ => rfl) fun _ _ _ => rfl
  have staged := kept (fun s => s.brg.staged) (fun _ _ => rfl) (fun _ _ => rfl) fun _ _ _ => rfl
  refine ⟨latched.trans (settle_start_latched _), staged.trans (settle_brg_staged _), fun j => ?_⟩
  have pin := kept (fun s => (s.pin j).image) (fun _ _ => rfl) (fun _ _ => rfl) fun _ _ _ => rfl
  exact pin.trans (settle_pin_image _ _)

theorem completes_latchInstant {s : State} {t : Nat} {k : DWord} (n : Fin 12) (h : Comes s t .latch k) :
    Completes (.latchInstant t) s fun u =>
      u.start.latched = true ∧ u.brg.staged = s.brg.staged.filter (fun x => decide (x.cycle ≠ k)) ∧
      ∀ (a : Core) w p, s.fieldAccepted = some a → pimgWord s n = some p → vget (s.cl n).pimgStage a.ix = some (k, w) →
        ∀ j, (u.pin (pinOf n j)).image = bitOf w j.val := by
  let s0 := noted (s.at t) .latch k
  obtain ⟨y, hy⟩ : ∃ y, y = commitStaged (intmLatch (deliverAll s0 k)) k := ⟨_, rfl⟩
  obtain ⟨view, staged⟩ := latchBefore_keeps n s0 k
  rw [← hy] at view staged
  let x := y.each (List.finRange 12) (latchPins k)
  have row : exec (.latchInstant t) s = done (noteInstantAll (sendImages (cmpLatch (settle (latchHolds (latchTime x)))) k) 1) := by
    refine congrArg done ((instantNow_comes h _).trans ?_)
    simp only [x, hy]; rfl
  obtain ⟨latched, brg, images⟩ := latchTail_keeps x k
  refine completes_done row ⟨?_, ?_, fun a w p accepted named stage j => ?_⟩
  · rw [settle_start_latched, latched]
  · rw [settle_brg_staged, brg]
    refine Eq.trans ?_ staged
    exact congrArg BridgeState.staged (each_keeps (fun s : State => s.brg) (latchPins_brg k) _ y)
  · rw [settle_pin_image, images]
    have core0 : s0.fieldAccepted = some a := accepted
    have named0 : pimgWord s0 n = some p := named
    have stage0 : vget (s0.cl n).pimgStage a.ix = some (k, w) := stage
    clear_value s0
    simp only [latchView, Prod.mk.injEq] at view
    obtain ⟨core, cfg, stages, -⟩ := view
    refine latchAllPins (p := p) (core.trans core0) ?_ (by rw [stages]; exact stage0) j
    unfold pimgWord at named0 ⊢
    rw [cfg]; exact named0

/-! The image instant (R254). -/

theorem inPlaces_congr {s t : State} (h : t.clusters = s.clusters) (n : Fin 12) : inPlaces t n = inPlaces s n := by
  unfold inPlaces; rw [regionsOf_congr h]

/-- The words of a window change together. -/
theorem word_eachSetWord (b : Nat) (v : Nat → Word) (w : Nat) : ∀ (l : List Nat) (s : State),
    (s.each l fun s w => s.setWord (b + 2 * w) (v w)).word (b + 2 * w) = if w ∈ l then v w else s.word (b + 2 * w)
  | [], s => by simp [State.each]
  | x :: l, s => by
    have step : s.each (x :: l) (fun s w => s.setWord (b + 2 * w) (v w)) =
      (s.setWord (b + 2 * x) (v x)).each l fun s w => s.setWord (b + 2 * w) (v w) := rfl
    rw [step, word_eachSetWord b v w l]
    by_cases same : w = x
    · subst same; simp [word_setWord_self]
    · rw [word_setWord_apart _ _ _ _ (by omega)]; simp [same]

/-- The comparison of a window's words leaves memory, the clusters and the registers apart from those of the comparator. -/
theorem compared_keeps (s : State) (l : List Nat) : (s.each l fun s _ => mismatch s 1).mem = s.mem ∧
    (s.each l fun s _ => mismatch s 1).clusters = s.clusters ∧ KeepsRegs s (s.each l fun s _ => mismatch s 1) [LU_MISM_F, LU_EVT] := by
  refine ⟨each_keeps (fun s : State => s.mem) (fun x _ => (mismatch_keeps 0 x 1).2.2.1) _ s,
    each_keeps (fun s : State => s.clusters) (fun x _ => (mismatch_keeps 0 x 1).2.2.2.1) _ s, ?_⟩
  induction l generalizing s with
  | nil => exact .of_regs rfl _
  | cons w l ih =>
    have bumped : KeepsRegs s ((s.bump LU_MISM_F).evt LU_EVT luMISM) [LU_MISM_F, LU_EVT] :=
      ((KeepsRegs.of_regs rfl _).bump (by simp)).evt (by simp) _
    have led : KeepsRegs s (((s.bump LU_MISM_F).evt LU_EVT luMISM).updLead fun l => { l with mismSince := true }) [LU_MISM_F, LU_EVT] :=
      bumped.trans (.of_regs (updLead_regs _ _) _)
    exact KeepsRegs.trans (led.raise Src.comparator 1) (ih (mismatch s 1))

/-- What the image instant has compared before it decides. -/
def imageCompared (s : State) (n : Fin 12) (a : Core) : State :=
  if comparing s then
    s.each ((inPlaces s n).filter fun w => decide (stagedWord (latchCycle s) (vget (s.cl n).inStage a.ix) w ≠
      stagedWord (latchCycle s) (vget (s.cl n).inStage a.other.ix) w)) fun s _ => mismatch s 1
  else s

theorem imageCompared_keeps (s : State) (n : Fin 12) (a : Core) : (imageCompared s n a).mem = s.mem ∧
    (imageCompared s n a).clusters = s.clusters ∧ KeepsRegs s (imageCompared s n a) [LU_MISM_F, LU_EVT] := by
  unfold imageCompared
  split
  · exact compared_keeps s _
  · exact ⟨rfl, rfl, .of_regs rfl _⟩

/-- The words a core has sent for the image instant that follows the last latch instant. -/
def imageWord (s : State) (n : Fin 12) (a : Core) (w : Nat) : Option Word := stagedWord (latchCycle s) (vget (s.cl n).inStage a.ix) w

def clearIn (s : State) (n : Fin 12) : State := s.updCl n fun c => { c with inStage := Vector.replicate 2 [] }

theorem imageInstant_whole {s : State} {n : Fin 12} {a : Core} (accepted : s.fieldAccepted = some a)
    (whole : ∀ w ∈ inPlaces s n, (imageWord s n a w).isSome = true) : imageInstant s n =
      clearIn ((imageCompared s n a).each (inPlaces s n) fun s' w => s'.setWord (windowBase n.val + 2 * w) ((imageWord s n a w).getD 0)) n := by
  have all : ((inPlaces s n).all fun w => (imageWord s n a w).isSome) = true := List.all_eq_true.2 whole
  unfold imageWord at all
  unfold imageInstant
  simp only [accepted]
  rw [if_pos all]
  rfl

theorem imageInstant_broken {s : State} {n : Fin 12} {a : Core} (accepted : s.fieldAccepted = some a)
    (broken : ∃ w ∈ inPlaces s n, imageWord s n a w = none) : imageInstant s n =
      (((clearIn (imageCompared s n a) n).bump (CLU_IMGLATE n.val)).cluEvt n cluIMGLATE).cluRaise n 0x8 0 := by
  obtain ⟨w, place, missing⟩ := broken
  have some_ : ¬ ((inPlaces s n).all fun w => (imageWord s n a w).isSome) = true := fun h => by
    have := List.all_eq_true.1 h w place
    simp [missing] at this
  unfold imageWord at some_
  unfold imageInstant
  simp only [accepted]
  rw [if_neg some_]
  rfl

/-- At its instant the image of a cluster is the state after it, with the instant noted for its engines. -/
theorem exec_imageInstant {s : State} {n : Fin 12} (t : Nat) (runs : hasInstants s = true) (bound : (s.cl n).cfg.isSome = true) :
    exec (.imageInstant n t) s = done (noteInstant (imageInstant (s.at t) n) n 3) := by
  have now : (hasInstants (s.at t) && ((s.at t).cl n).cfg.isSome) = true := by
    rw [Bool.and_eq_true]; exact ⟨runs, bound⟩
  exact congrArg done (if_pos now)

theorem completes_imageWhole {s : State} {n : Fin 12} {a : Core} {t : Nat} (runs : hasInstants s = true) (bound : (s.cl n).cfg.isSome = true)
    (accepted : s.fieldAccepted = some a) (whole : ∀ w ∈ inPlaces s n, (imageWord s n a w).isSome = true) :
    Completes (.imageInstant n t) s fun u => ∀ w ∈ inPlaces s n, some (u.word (windowBase n.val + 2 * w)) = imageWord s n a w := by
  refine completes_done (exec_imageInstant t runs bound) fun w place => ?_
  rw [imageInstant_whole (s := s.at t) accepted whole, settle_word]
  have set := word_eachSetWord (windowBase n.val) (fun w => (imageWord s n a w).getD 0) w (inPlaces s n) (imageCompared (s.at t) n a)
  rw [if_pos place] at set
  refine (congrArg some set).trans ?_
  obtain ⟨v, sent⟩ := Option.isSome_iff_exists.1 (whole w place)
  rw [sent]; rfl

/-- The count of late images is a register apart. -/
theorem imgLate_apart : ∀ n : Fin 12, CLU_IMGLATE n.val ∉ [LU_MISM_F, LU_EVT] ∧ CLU_IMGLATE n.val ≠ CLU_EVT n.val ∧
    closingReg (CLU_IMGLATE n.val) = false := by decide

theorem completes_imageBroken {s : State} {n : Fin 12} {a : Core} {t : Nat} (runs : hasInstants s = true) (bound : (s.cl n).cfg.isSome = true)
    (accepted : s.fieldAccepted = some a) (broken : ∃ w ∈ inPlaces s n, imageWord s n a w = none) :
    Completes (.imageInstant n t) s fun u => SameMemory s u ∧ u.reg (CLU_IMGLATE n.val) = bumpW (s.reg (CLU_IMGLATE n.val)) 1 := by
  refine completes_done (exec_imageInstant t runs bound) ?_
  rw [imageInstant_broken (s := s.at t) accepted broken]
  obtain ⟨mem, -, regs⟩ := imageCompared_keeps (s.at t) n a
  have fresh : CLU_IMGLATE n.val ∉ [LU_MISM_F, LU_EVT] := (imgLate_apart n).1
  have other : CLU_IMGLATE n.val ≠ CLU_EVT n.val := (imgLate_apart n).2.1
  have open_ : closingReg (CLU_IMGLATE n.val) = false := (imgLate_apart n).2.2
  refine ⟨sameMemory_settle ?_, ?_⟩
  · refine Eq.trans (b := (imageCompared (s.at t) n a).mem) ?_ mem
    exact raise_mem _ _ _
  · rw [reg_settle_of_not_closing _ _ open_]
    let x := clearIn (imageCompared (s.at t) n a) n
    have told : (noteInstant (((x.bump (CLU_IMGLATE n.val)).cluEvt n cluIMGLATE).cluRaise n 0x8 0) n 3).reg (CLU_IMGLATE n.val) =
        ((x.bump (CLU_IMGLATE n.val)).cluEvt n cluIMGLATE).reg (CLU_IMGLATE n.val) := reg_congr (raise_regs _ _ _) _
    rw [told]
    refine (reg_setReg_ne _ _ other).trans ?_
    rw [reg_bump_self]
    exact congrArg (bumpW · 1) (regs _ 0 (by decide) fresh)

/-- Settles O8: each instant's act is split into parts, each with what it leaves unchanged, and the part a clause speaks of is computed. -/
theorem instantsOfACycle : Obligations.InstantsOfACycle := by
  unfold Obligations.InstantsOfACycle
  intro n t s
  exact ⟨fun k ⟨valid, sheet, fresh⟩ => completes_sampleInstant ⟨valid, sheet, fresh⟩, fun _ _ => completes_snapRefresh,
    fun k ⟨valid, sheet, fresh⟩ => completes_flipInstant ⟨valid, sheet, fresh⟩,
    fun k ⟨valid, sheet, fresh⟩ => completes_latchInstant n ⟨valid, sheet, fresh⟩, fun runs bound _ accepted =>
      ⟨completes_imageWhole runs bound accepted, completes_imageBroken runs bound accepted⟩⟩

end Sys2Proof.Machine
end

section
set_option Elab.async false
/-! SUPPORT. The issue of an instruction of a port engine, outcome by outcome (R278, R290, R297): what it does, a trap, a stall, the dark;
and the obligations about loads and stores (R285), traps (R297-R300) and the system instructions (R288, R290). -/

namespace Sys2Proof.Machine

/-! What an instruction reads is as it was before the engine passed it (R278). -/

section
variable (s : State) (n : Fin 12) (e : Fin 14) (t : Nat) (op : EngOp)

theorem eng_advance : (advance (s.at t) n e op).eng n e = passed s n e op.size := by
  rw [advance, eng_updEng_self]; rfl

theorem eng_advance_other {m : Fin 12} {d : Fin 14} (other : ¬(m = n ∧ d = e)) : (advance (s.at t) n e op).eng m d = s.eng m d :=
  eng_updEng_other _ _ _ _ _ _ other

theorem getR_advance (r : Fin 16) : getR (advance (s.at t) n e op) n e r = getR s n e r := by
  rw [getR, eng_advance]; rfl

theorem phys_advance : ((advance (s.at t) n e op).eng n e).phys = (s.eng n e).phys := by rw [eng_advance]; rfl

theorem lock_advance (m : Fin 12) : ((advance (s.at t) n e op).cl m).lock = (s.cl m).lock := by rw [advance, cl_updEng]; rfl

theorem holdsLock_advance : holdsLock (advance (s.at t) n e op) n e = holdsLock s n e := by unfold holdsLock; rw [lock_advance]

theorem lockedOut_advance : lockedOut (advance (s.at t) n e op) n e = lockedOut s n e := by unfold lockedOut; rw [lock_advance]

theorem pacer_advance (p : Fin 16) : (advance (s.at t) n e op).pacer n p = s.pacer n p := by
  unfold State.pacer; rw [advance, cl_updEng]; rfl

theorem conduit_advance (q : Fin 16) : (advance (s.at t) n e op).conduit n q = s.conduit n q := by
  unfold State.conduit; rw [advance, cl_updEng]; rfl

theorem ownsPacer_advance (p : Fin 16) : ownsPacer (advance (s.at t) n e op) n e p = ownsPacer s n e p := by
  unfold ownsPacer pacerOwner; rw [advance, cl_updEng]; rfl

theorem ownsConduit_advance (q : Fin 16) : ownsConduit (advance (s.at t) n e op) n e q = ownsConduit s n e q := by
  unfold ownsConduit conduitCfg; rw [advance, cl_updEng]; rfl

theorem waitBound_advance (k i : Nat) : waitBound (advance (s.at t) n e op) n e k i = waitBound s n e k i := by
  unfold waitBound; rw [ownsConduit_advance, ownsPacer_advance]

theorem engineRam_advance (a : Word) : engineRam (advance (s.at t) n e op) n e a = engineRam s n e a := by
  unfold engineRam; rw [phys_advance, lockedOut_advance]

end

/-! The outcomes. -/

section
variable {c : Instr} {s : State} {n : Fin 12} {e : Fin 14} {t : Nat} {op : EngOp}

/-- What the issue of an instruction comes to by what the instruction does. -/
def issued (s : State) (n : Fin 12) (e : Fin 14) (op : EngOp) : EngStep → State
  | .go s2 => if op = .sync then intmStop (afterInstr s2 n e) n e else afterInstr s2 n e
  | .trap c nn s2 => engTrap s2 n e c nn (if c = trapSOFT then ((advance s n e op).eng n e).pc else (s.eng n e).pc)
  | .dark s2 => if holdsLock s n e then engTrap (advance s n e op) n e trapLOCK 0 (s.eng n e).pc else goDark s2 n e op
  | .stall =>
    if holdsLock s n e then engTrap (advance s n e op) n e trapLOCK 0 (s.eng n e).pc
    else (advance s n e op).updEng n e fun x => { x with stall := some op }

/-- An instruction that nothing stands in the way of is performed by an engine that has passed it. -/
theorem engIssue_of_issues (h : Issues s n e) (legal : engLegal op = true) (notRetT : op ≠ .retT ∨ (s.eng n e).ta = true) :
    engIssue s n e op = issued s n e op (engDo (advance s n e op) n e op) := by
  have may : (!engLegal op || (decide (op = .retT) && !(s.eng n e).ta)) = false := by
    rcases notRetT with hr | hr <;> simp [legal, hr]
  have core : engIssue s n e op = issueCore s n e op := by
    unfold engIssue; simp [h.can, h.noDog, h.noBreak]
  rw [core]
  unfold issueCore
  simp only [may, Bool.false_eq_true, if_false, ge_iff_le]
  rw [if_neg h.inLock]
  rfl

theorem noHalt_advance (h : Issues s n e) : ((advance (s.at t) n e op).eng n e).haltPending = none ∧
    ((advance (s.at t) n e op).eng n e).stepping = false := by
  rw [eng_advance]; exact ⟨h.noHalt, h.noStep⟩

/-- An instruction that completes: what it does is all that its command does. -/
theorem completes_go {y : State} {q : State → Prop} (row : exec c s = done (engIssue (s.at t) n e op)) (h : Issues s n e)
    (legal : engLegal op = true) (does : engDo (advance (s.at t) n e op) n e op = .go y)
    (keeps : (y.eng n e).haltPending = none ∧ (y.eng n e).stepping = false) (holds : q (settle y))
    (notSync : op ≠ .sync := by simp) (notRetT : op ≠ .retT ∨ (s.eng n e).ta = true := by simp) : Completes c s q := by
  refine completes_done (row.trans (congrArg done ?_)) holds
  exact issue_go y (h.at t) legal notSync notRetT does keeps.1 keeps.2

/-- An instruction that works on its own engine from what the state shows. -/
theorem completes_own {g : Engine → Engine} (row : exec c s = done (engIssue (s.at t) n e op)) (h : Issues s n e)
    (legal : engLegal op = true)
    (does : engDo (advance (s.at t) n e op) n e op = .go ((advance (s.at t) n e op).updEng n e g))
    (keeps : ∀ y, (g y).haltPending = y.haltPending ∧ (g y).stepping = y.stepping) (notSync : op ≠ .sync := by simp)
    (notRetT : op ≠ .retT ∨ (s.eng n e).ta = true := by simp) :
    Completes c s fun u => u.eng n e = g (passed s n e op.size) ∧ EngineOnly s u n e := by
  refine completes_go row h legal does ?_ ⟨?_, ?_⟩ notSync notRetT
  · rw [eng_updEng_self, eng_advance]
    exact ⟨(keeps _).1.trans h.noHalt, (keeps _).2.trans h.noStep⟩
  · rw [settle_eng, eng_updEng_self, eng_advance]
  · rw [advance, updEng_updEng]; exact engineOnly_updEng s n e t _

/-- An instruction that leaves its engine as it stands past it. -/
theorem completes_pass (row : exec c s = done (engIssue (s.at t) n e op)) (h : Issues s n e) (legal : engLegal op = true)
    (does : engDo (advance (s.at t) n e op) n e op = .go (advance (s.at t) n e op)) (notSync : op ≠ .sync := by simp)
    (notRetT : op ≠ .retT := by simp) : Completes c s fun u => u.eng n e = passed s n e op.size ∧ EngineOnly s u n e :=
  completes_own (g := id) row h legal (does.trans (congrArg EngStep.go (updEng_of_eng_eq rfl).symm)) (fun _ => ⟨rfl, rfl⟩) notSync
    (.inl notRetT)

/-- An instruction that has to wait for room, data or the lock stalls (R290, R292, R293). -/
theorem completes_stall (row : exec c s = done (engIssue (s.at t) n e op)) (h : Issues s n e) (legal : engLegal op = true)
    (waits : engDo (advance (s.at t) n e op) n e op = .stall) (free : holdsLock s n e = false) (notRetT : op ≠ .retT := by simp) :
    Completes c s fun u => u.eng n e = { passed s n e op.size with stall := some op } ∧ EngineOnly s u n e := by
  have unlocked : ¬(holdsLock (s.at t) n e = true) := fun held => Bool.noConfusion (free.symm.trans held)
  rw [engIssue_of_issues (h.at t) legal (.inl notRetT), waits] at row
  simp only [issued, if_neg unlocked] at row
  refine completes_done row ⟨?_, ?_⟩
  · rw [settle_eng, eng_updEng_self, eng_advance]
  · rw [advance, updEng_updEng]; exact engineOnly_updEng s n e t _

/-- The entry into a trap out of the engine past the instruction is the entry out of the engine before it. -/
theorem TrapEntered.of_advance {u : State} {p : Fin 16} {cause : Nat} {nn : Byte} {tpc : BitVec 12}
    (h : TrapEntered (advance (s.at t) n e op) u n e p cause nn tpc) : TrapEntered s u n e p cause nn tpc := by
  obtain ⟨tpcWord, causeWord, flagWord, memory, ta, pc, regs, flags, lock, engines⟩ := h
  rw [eng_advance] at flagWord regs flags
  exact ⟨tpcWord, causeWord, flagWord, memory, ta, pc, regs, flags, lock,
    fun m d other => (engines m d other).trans (eng_advance_other s n e t op other)⟩

/-- An instruction that traps and is not performed (R297). -/
theorem completes_trap {p : Fin 16} {cause : Nat} {nn : Byte} (row : exec c s = done (engIssue (s.at t) n e op)) (h : Issues s n e)
    (legal : engLegal op = true) (traps : engDo (advance (s.at t) n e op) n e op = .trap cause nn (advance (s.at t) n e op))
    (ta : (s.eng n e).ta = false) (bound : (s.eng n e).phys = some p) (notRetT : op ≠ .retT := by simp) :
    Completes c s fun u => TrapEntered s u n e p cause nn
      (if cause = trapSOFT then (s.eng n e).pc + BitVec.ofNat 12 op.size else (s.eng n e).pc) := by
  rw [engIssue_of_issues (h.at t) legal (.inl notRetT), traps] at row
  obtain ⟨noHalt, noStep⟩ := noHalt_advance (t := t) (op := op) h
  have past : ((advance (s.at t) n e op).eng n e).pc = (s.eng n e).pc + BitVec.ofNat 12 op.size := by rw [eng_advance]; rfl
  have entered := trapEntered_engTrap (cause := cause) (nn := nn)
    (tpc := if cause = trapSOFT then (s.eng n e).pc + BitVec.ofNat 12 op.size else (s.eng n e).pc)
    (.inl (by rw [eng_advance]; exact ta)) (by rw [phys_advance]; exact bound) noHalt noStep
  rw [← past] at entered
  rw [← past]
  exact completes_done row entered.of_advance

/-- An instruction that waits makes its engine dark (R261). -/
theorem completes_dark {y : State} {q : State → Prop} (row : exec c s = done (engIssue (s.at t) n e op)) (h : Issues s n e)
    (legal : engLegal op = true) (waits : engDo (advance (s.at t) n e op) n e op = .dark y) (free : holdsLock s n e = false)
    (holds : q (settle (goDark y n e op))) (notRetT : op ≠ .retT := by simp) : Completes c s q := by
  have unlocked : ¬(holdsLock (s.at t) n e = true) := fun held => Bool.noConfusion (free.symm.trans held)
  rw [engIssue_of_issues (h.at t) legal (.inl notRetT), waits] at row
  simp only [issued, if_neg unlocked] at row
  exact completes_done row holds

end

/-- Outside intermission an engine that goes dark changes itself and the trace alone. -/
theorem goDark_keeps {y : State} (n : Fin 12) (e : Fin 14) (op : EngOp) (runs : y.fintm = false) :
    (goDark y n e op).mem = y.mem ∧
    (goDark y n e op).clusters = (y.updEng n e fun x => { x with dark := some op, safe := true }).clusters := by
  have fintm (i : Fin 14) (k r d : Nat) (x : State) : (x.trace i k r d).fintm = x.fintm := by
    obtain ⟨_, h | h | h⟩ := trace_cases x i k r d <;> rw [h]
    case inr.inr => exact (raise_fintm _ _ _).trans rfl
    all_goals rfl
  unfold goDark intmStop
  dsimp only
  rw [if_neg (fun held => by rw [fintm] at held; exact Bool.noConfusion (runs.symm.trans held.1))]
  exact ⟨trace_mem _ _ _ _ _, trace_clusters _ _ _ _ _⟩

/-! Loads and stores (R237, R285, R290). -/

theorem engAddr_data {a : Word} (h : a.toNat < 0x400) : engAddr a = .data a.toNat := if_pos h

theorem engAddr_shared {a : Word} (h : 0x8000 ≤ a.toNat ∧ a.toNat < 0xC000) : engAddr a = .shared (a.toNat - 0x8000) := by
  have beyond : ¬ a.toNat < 0x400 := by omega
  exact (if_neg beyond).trans (if_pos h)

/-- What an engine reaches of its own memory: a word of its data memory, or one of shared memory that is not locked against it. -/
theorem engineRam_cases {s : State} {n : Fin 12} {e : Fin 14} {a : Word} {b : Nat} (ram : engineRam s n e a = some b) :
    (∃ p, engAddr a = .data a.toNat ∧ (s.eng n e).phys = some p ∧ b = dataBase n.val p.val + 2 * a.toNat) ∨
    (engAddr a = .shared (a.toNat - 0x8000) ∧ lockedOut s n e = false ∧ b = sharedBase n.val + 2 * (a.toNat - 0x8000)) := by
  unfold engineRam at ram
  split at ram
  · rename_i data
    obtain ⟨p, bound, at_⟩ := Option.map_eq_some_iff.1 ram
    exact .inl ⟨p, engAddr_data data, bound, at_.symm⟩
  · split at ram
    · rename_i shared
      split at ram
      · cases ram
      · rename_i free
        exact .inr ⟨engAddr_shared shared, Bool.eq_false_iff.2 free, (Option.some.inj ram).symm⟩
    · cases ram

theorem engLoad_ram {s : State} {n : Fin 12} {e : Fin 14} {a : Word} {b : Nat} (ram : engineRam s n e a = some b)
    (marked : s.marked b = false) (armed : eccArmed s n = false) : engLoad s n e a = .val (s.word b) s := by
  have sound : memLoad s n e b = .val (s.word b) s := by unfold memLoad; rw [marked, armed]; rfl
  unfold engLoad
  obtain ⟨p, place, bound, at_⟩ | ⟨place, free, at_⟩ := engineRam_cases ram
  · rw [place]; simp only [bound]; rw [← at_, sound]
  · rw [place, free]; simp only [Bool.false_eq_true, if_false]; rw [← at_, sound]

theorem engStore_ram {s : State} {n : Fin 12} {e : Fin 14} {a v : Word} {b : Nat} (ram : engineRam s n e a = some b) :
    engStore s n e a v = .val 0 (s.storeWord b v) := by
  unfold engStore
  obtain ⟨p, place, bound, at_⟩ | ⟨place, free, at_⟩ := engineRam_cases ram
  · rw [place]; simp only [bound]; rw [← at_]
  · rw [place, free]; simp only [Bool.false_eq_true, if_false]; rw [← at_]

section
variable {c : Instr} {s : State} {n : Fin 12} {e : Fin 14} {t : Nat} {op : EngOp} {rd : Fin 16} {a : Word} {b : Nat}

/-- The outcome of an instruction that loads from its memory into a register. -/
theorem loadStep_advance (ram : engineRam s n e a = some b) (marked : s.marked b = false) (armed : eccArmed s n = false) :
    loadStep n e rd (engLoad (advance (s.at t) n e op) n e a) =
      .go ((advance (s.at t) n e op).updEng n e fun x => { x with regs := vset x.regs rd (s.word b) }) := by
  rw [engLoad_ram ((engineRam_advance s n e t op a).trans ram) marked armed]; rfl

/-- An instruction that loads from its memory. -/
theorem completes_load (row : exec c s = done (engIssue (s.at t) n e op)) (h : Issues s n e) (legal : engLegal op = true)
    (ram : engineRam s n e a = some b) (marked : s.marked b = false) (armed : eccArmed s n = false)
    (loads : engDo (advance (s.at t) n e op) n e op = loadStep n e rd (engLoad (advance (s.at t) n e op) n e a))
    (notSync : op ≠ .sync := by simp) (notRetT : op ≠ .retT := by simp) : Completes c s fun u =>
      u.eng n e = { passed s n e op.size with regs := vset (s.eng n e).regs rd (s.word b) } ∧ EngineOnly s u n e :=
  completes_own (g := fun x => { x with regs := vset x.regs rd (s.word b) }) row h legal
    (loads.trans (loadStep_advance ram marked armed)) (fun _ => ⟨rfl, rfl⟩) notSync (.inl notRetT)

/-- An instruction that stores to its memory. -/
theorem completes_store {v : Word} (row : exec c s = done (engIssue (s.at t) n e op)) (h : Issues s n e) (legal : engLegal op = true)
    (ram : engineRam s n e a = some b)
    (stores : engDo (advance (s.at t) n e op) n e op = storeStep (engStore (advance (s.at t) n e op) n e a v))
    (notSync : op ≠ .sync := by simp) (notRetT : op ≠ .retT := by simp) : Completes c s fun u =>
      StoredWord s u b v ∧ u.eng n e = passed s n e op.size ∧ SameRegs s u [] ∧ OtherEngines s u n e := by
  let x := advance (s.at t) n e op
  have does : engDo x n e op = .go (x.storeWord b v) := by
    rw [stores, engStore_ram ((engineRam_advance s n e t op a).trans ram)]; rfl
  have eng (m : Fin 12) (d : Fin 14) : (x.storeWord b v).eng m d = x.eng m d := eng_congr (storeWord_clusters x b v) m d
  refine completes_go row h legal does ?_ ⟨⟨?_, fun j h1 h2 => ?_⟩, ?_, ?_, fun m d other => ?_⟩ notSync (.inl notRetT)
  · rw [eng]; exact noHalt_advance h
  · rw [settle_word, word_storeWord_self]
  · rw [settle_byte]; exact byte_storeWord_apart x b j v (by omega)
  · rw [settle_eng, eng, eng_advance]
  · exact sameRegs_settle rfl
  · rw [settle_eng, eng, eng_advance_other s n e t op other]

end

/-- Settles O34: each form loads or stores at the address that its operands give, which is a place in the engine's own memory. -/
theorem loadsAndStores : Obligations.LoadsAndStores := by
  unfold Obligations.LoadsAndStores
  constructor
  · intro n e rd rs off imm t s a h armed marked
    refine ⟨fun ram => ?ld, fun ram => ?ldf, fun ram => ?lda, ?limm⟩
    case ld =>
      exact completes_load (op := .ld rd rs off.val) rfl h (decide_eq_true off.isLt) ram marked armed
        (by simp only [engDo, getR_advance])
    case ldf => exact completes_load (op := .ldf rd rs imm) rfl h rfl ram marked armed (by simp only [engDo, getR_advance])
    case lda => exact completes_load (op := .lda rd imm) rfl h rfl ram marked armed rfl
    case limm =>
      exact completes_own (c := .limm n e rd imm t) (op := .limm rd imm) (g := fun x => { x with regs := vset x.regs rd imm }) rfl h rfl
        rfl (fun _ => ⟨rfl, rfl⟩)
  · intro n e rd rs off imm t s a h
    refine ⟨fun ram => ?st, fun ram => ?stf, fun ram => ?sta⟩
    case st =>
      exact completes_store (op := .st rd rs off.val) rfl h (decide_eq_true off.isLt) ram (by simp only [engDo, getR_advance])
    case stf => exact completes_store (op := .stf rd rs imm) rfl h rfl ram (by simp only [engDo, getR_advance])
    case sta => exact completes_store (op := .sta rd imm) rfl h rfl ram (by simp only [engDo, getR_advance])

/-! Traps (R297-R300). -/

section
variable {c : Instr} {s : State} {n : Fin 12} {e : Fin 14} {t : Nat} {op : EngOp} {p q rd : Fin 16}

/-- What must hold for an engine to enter a trap for its next instruction. -/
structure MayTrap (s : State) (n : Fin 12) (e : Fin 14) (p : Fin 16) : Prop where
  issues : Issues s n e
  ta : (s.eng n e).ta = false
  bound : (s.eng n e).phys = some p

/-- An instruction on what is not the engine's own or not in its mode traps. -/
theorem MayTrap.traps {cause : Nat} (h : MayTrap s n e p) (row : exec c s = done (engIssue (s.at t) n e op)) (legal : engLegal op = true)
    (traps : engDo (advance (s.at t) n e op) n e op = .trap cause 0 (advance (s.at t) n e op)) (other : cause ≠ trapSOFT := by simp)
    (notRetT : op ≠ .retT := by simp) : Completes c s fun u => TrapEntered s u n e p cause 0 (s.eng n e).pc := by
  have entered := completes_trap row h.issues legal traps h.ta h.bound notRetT
  rwa [if_neg other] at entered

theorem MayTrap.illegal (h : MayTrap s n e p) (row : exec c s = done (engIssue (s.at t) n e op)) (illegal : engLegal op = false) :
    Completes c s fun u => TrapEntered s u n e p 1 0 (s.eng n e).pc := completes_illegal row h.issues illegal h.ta h.bound

/-- RET T outside a trap is not legal (R298). -/
theorem engIssue_retT_outside (h : Issues s n e) (ta : (s.eng n e).ta = false) :
    engIssue s n e .retT = engTrap s n e trapILLEGAL 0 (s.eng n e).pc := by
  have core : engIssue s n e .retT = issueCore s n e .retT := by
    unfold engIssue; simp [h.can, h.noDog, h.noBreak]
  rw [core]
  unfold issueCore
  simp [ta]

theorem completes_retT_outside (h : MayTrap s n e p) : Completes (.retT n e t) s fun u => TrapEntered s u n e p 1 0 (s.eng n e).pc := by
  have row : exec (.retT n e t) s = done (engTrap (s.at t) n e trapILLEGAL 0 (s.eng n e).pc) :=
    congrArg done (engIssue_retT_outside (h.issues.at t) h.ta)
  obtain ⟨tpcWord, causeWord, flagWord, memory, ta', pc, regs, flags, lock, engines⟩ :=
    trapEntered_engTrap (s := s.at t) (cause := trapILLEGAL) (nn := 0) (tpc := (s.eng n e).pc) (.inl h.ta) h.bound h.issues.noHalt
      h.issues.noStep
  exact completes_done row ⟨tpcWord, causeWord, flagWord, memory, ta', pc, regs, flags, lock, engines⟩

theorem reg4_val (q : Fin 16) : reg4 q.val = q := Fin.ext (Nat.mod_eq_of_lt q.isLt)

/-- The operands of WAIT that R289 does not list. -/
theorem waitListed_false {k q : Fin 16} (h : ((k.val ≤ 2 ∨ k.val = 14) ∧ 12 ≤ q.val) ∨ (k.val = 6 ∧ q.val ≠ 0) ∨ (k.val = 7 ∧ 4 ≤ q.val) ∨
    (8 ≤ k.val ∧ k.val ≠ 14)) : waitListed k.val q.val = false := by
  unfold waitListed
  split <;> simp_all

theorem MayTrap.noPacer (h : MayTrap s n e p) (other : ownsPacer s n e q = false) (even : rd.val ≤ 14) :
    ∀ c ∈ [Instr.sho n e rd q t, .shoN n e rd q t, .shi n e rd q t, .shiN n e rd q t, .pacePer n e rd q t, .paceCnt n e rd q t,
      .paceRd n e rd q t, .paceSt n e rd q t, .wait n e 4 q t, .wait n e 5 q t],
      Completes c s fun u => TrapEntered s u n e p trapADDR 0 (s.eng n e).pc := by
  have owns (op : EngOp) : ownsPacer (advance (s.at t) n e op) n e q = false := (ownsPacer_advance s n e t op q).trans other
  have two : decide (rd.val ≤ 14) = true := decide_eq_true even
  have listed : decide (q.val < 16) = true := decide_eq_true q.isLt
  simp only [List.forall_mem_cons]
  refine ⟨h.traps rfl rfl ?_, h.traps rfl rfl ?_, h.traps rfl rfl ?_, h.traps rfl rfl ?_, h.traps rfl two ?_, h.traps rfl two ?_,
    h.traps rfl two ?_, h.traps rfl rfl ?_, h.traps (op := .wait 4 q.val) rfl listed ?_, h.traps (op := .wait 5 q.val) rfl listed ?_,
    fun _ none => absurd none List.not_mem_nil⟩
  all_goals simp [engDo, waitBound, reg4_val, owns]

theorem MayTrap.noConduit (h : MayTrap s n e p) (other : ownsConduit s n e q = false) :
    ∀ c ∈ [Instr.send n e rd q t, .recv n e rd q t, .peek n e rd q t, .poll n e rd q t, .wait n e 3 q t],
      Completes c s fun u => TrapEntered s u n e p trapADDR 0 (s.eng n e).pc := by
  have owns (op : EngOp) : ownsConduit (advance (s.at t) n e op) n e q = false := (ownsConduit_advance s n e t op q).trans other
  have listed : decide (q.val < 16) = true := decide_eq_true q.isLt
  simp only [List.forall_mem_cons]
  refine ⟨h.traps rfl rfl ?_, h.traps rfl rfl ?_, h.traps rfl rfl ?_, h.traps rfl rfl ?_, h.traps (op := .wait 3 q.val) rfl listed ?_,
    fun _ none => absurd none List.not_mem_nil⟩
  all_goals simp [engDo, waitBound, reg4_val, owns]

theorem MayTrap.noShift (h : MayTrap s n e p) (own : ownsPacer s n e q = true) (mode : pacerMode (s.pacer n q) ≠ 1) :
    ∀ c ∈ [Instr.sho n e rd q t, .shoN n e rd q t, .shi n e rd q t, .shiN n e rd q t],
      Completes c s fun u => TrapEntered s u n e p trapMODE 0 (s.eng n e).pc := by
  have owns (op : EngOp) : ownsPacer (advance (s.at t) n e op) n e q = true := (ownsPacer_advance s n e t op q).trans own
  simp only [List.forall_mem_cons]
  refine ⟨h.traps rfl rfl ?_, h.traps rfl rfl ?_, h.traps rfl rfl ?_, h.traps rfl rfl ?_, fun _ none => absurd none List.not_mem_nil⟩
  all_goals simp [engDo, owns, pacer_advance, mode]

/-- A load or a store at an address that is not listed traps. -/
theorem MayTrap.noLoad (h : MayTrap s n e p) {a : Word} (far : engAddr a = .unlisted) (row : exec c s = done (engIssue (s.at t) n e op))
    (legal : engLegal op = true)
    (loads : engDo (advance (s.at t) n e op) n e op = loadStep n e rd (engLoad (advance (s.at t) n e op) n e a))
    (notRetT : op ≠ .retT := by simp) : Completes c s fun u => TrapEntered s u n e p trapADDR 0 (s.eng n e).pc :=
  h.traps row legal (loads.trans (by unfold engLoad; rw [far]; rfl)) (by simp) notRetT

theorem MayTrap.noStore (h : MayTrap s n e p) {a v : Word} (far : engAddr a = .unlisted) (row : exec c s = done (engIssue (s.at t) n e op))
    (legal : engLegal op = true)
    (stores : engDo (advance (s.at t) n e op) n e op = storeStep (engStore (advance (s.at t) n e op) n e a v))
    (notRetT : op ≠ .retT := by simp) : Completes c s fun u => TrapEntered s u n e p trapADDR 0 (s.eng n e).pc :=
  h.traps row legal (stores.trans (by unfold engStore; rw [far]; rfl)) (by simp) notRetT

/-- RET T in a trap routine (R298). -/
theorem completes_retT_inside (h : Issues s n e) (ta : (s.eng n e).ta = true) (bound : (s.eng n e).phys = some p) :
    Completes (.retT n e t) s fun u =>
      let f := s.word (dataBase n.val p.val + 2 * 0x3FD)
      u.eng n e = { passed s n e 1 with
          z := f.getLsbD 3, n := f.getLsbD 2, c := f.getLsbD 1, v := f.getLsbD 0, ta := false
          pc := (s.word (dataBase n.val p.val + 2 * 0x3FF)).setWidth 12 } ∧ EngineOnly s u n e := by
  let f := s.word (dataBase n.val p.val + 2 * 0x3FD)
  let g (x : Engine) : Engine := { x with
    z := f.getLsbD 3, n := f.getLsbD 2, c := f.getLsbD 1, v := f.getLsbD 0, ta := false
    pc := (s.word (dataBase n.val p.val + 2 * 0x3FF)).setWidth 12 }
  have inside : (!((advance (s.at t) n e .retT).eng n e).ta) = false := by rw [eng_advance]; exact congrArg not ta
  have does : engDo (advance (s.at t) n e .retT) n e .retT = .go ((advance (s.at t) n e .retT).updEng n e g) := by
    have phys : ((advance (s.at t) n e .retT).eng n e).phys = some p := (phys_advance s n e t .retT).trans bound
    simp only [engDo, inside, phys, Bool.false_eq_true, if_false]
    rfl
  obtain ⟨u, next, eng, only⟩ := completes_own (c := .retT n e t) rfl h rfl does (fun _ => ⟨rfl, rfl⟩) (by simp) (.inr ta)
  exact ⟨u, next, eng, only⟩

/-- The 33rd instruction under LOCK (R290). -/
theorem completes_overrun {rs : Fin 16} (can : canIssue s n e = true) (noDog : (s.eng n e).wdTrap = false)
    (noBreak : atBreakpoint s n e = false) (noHalt : (s.eng n e).haltPending = none) (noStep : (s.eng n e).stepping = false)
    (lock : (s.cl n).lock = some e) (count : 32 ≤ (s.eng n e).lockCount) (ta : (s.eng n e).ta = false) (bound : (s.eng n e).phys = some p) :
    Completes (.add n e rd rs t) s fun u => TrapEntered s u n e p 3 0 (s.eng n e).pc := by
  have issue (x : State) (can : canIssue x n e = true) (noDog : (x.eng n e).wdTrap = false) (noBreak : atBreakpoint x n e = false)
      (lock : (x.cl n).lock = some e) (count : 32 ≤ (x.eng n e).lockCount) :
      engIssue x n e (.alu .add rd rs) = engTrap x n e trapLOCK 0 (x.eng n e).pc := by
    have core : engIssue x n e (.alu .add rd rs) = issueCore x n e (.alu .add rd rs) := by
      unfold engIssue; simp [can, noDog, noBreak]
    have held : holdsLock x n e = true := decide_eq_true lock
    rw [core]
    unfold issueCore
    simp [engLegal, held, count]
  have row : exec (.add n e rd rs t) s = done (engTrap (s.at t) n e trapLOCK 0 (s.eng n e).pc) :=
    congrArg done (issue (s.at t) can noDog noBreak lock count)
  obtain ⟨tpcWord, causeWord, flagWord, memory, ta', pc, regs, flags, lock', engines⟩ :=
    trapEntered_engTrap (s := s.at t) (cause := trapLOCK) (nn := 0) (tpc := (s.eng n e).pc) (.inl ta) bound noHalt noStep
  exact completes_done row ⟨tpcWord, causeWord, flagWord, memory, ta', pc, regs, flags, lock', engines⟩

/-- LOCK while another engine holds the lock (R290). -/
theorem completes_lock_waits {d : Fin 14} (h : Issues s n e) (lock : (s.cl n).lock = some d) (other : d ≠ e) :
    Completes (.lock n e t) s fun u => u.eng n e = { passed s n e 1 with stall := some .lock } ∧ EngineOnly s u n e := by
  have out : lockedOut (advance (s.at t) n e .lock) n e = true := by
    rw [lockedOut_advance]; unfold lockedOut; rw [lock]; exact decide_eq_true other
  have free : holdsLock s n e = false := decide_eq_false fun held => other (Option.some.inj (lock.symm.trans held))
  exact completes_stall (op := .lock) rfl h rfl (by simp only [engDo, out, if_true]) free

end

/-- Settles O36: what traps by its form is not legal; what traps by the state is decided before anything is performed. -/
theorem traps : Obligations.Traps := by
  unfold Obligations.Traps
  refine ⟨?entered, ?returns, ?forms, ?locked⟩
  case entered =>
    intro n e p nn two t s h ta bound
    exact ⟨completes_trap (op := .trap nn) rfl h rfl rfl ta bound, completes_illegal rfl h rfl ta bound⟩
  case returns => exact fun n e p t s h ta bound => completes_retT_inside h ta bound
  case forms =>
    intro n e p rd q imm t s issues ta bound
    have h : MayTrap s n e p := ⟨issues, ta, bound⟩
    have none {q : Instr → Prop} : ∀ c ∈ ([] : List Instr), q c := fun _ none => absurd none List.not_mem_nil
    have offset : decide (rd.val < 16) = true := decide_eq_true rd.isLt
    refine ⟨completes_retT_outside h, fun big => ?pins, fun last => ?pace, fun big => ?stamps, fun big => ?times, fun k bad => ?wait,
      h.noPacer, h.noConduit, h.noShift, fun far => ?ld, fun far => ?ldf, fun far => ?lda⟩
    case pins =>
      have bad : decide (q.val ≤ 12) = false := decide_eq_false (by omega)
      simp only [List.forall_mem_cons]
      exact ⟨h.illegal rfl bad, h.illegal rfl bad, h.illegal rfl bad, none⟩
    case pace =>
      have bad : decide (rd.val ≤ 14) = false := decide_eq_false (by rw [last]; decide)
      simp only [List.forall_mem_cons]
      exact ⟨h.illegal rfl bad, h.illegal rfl bad, h.illegal rfl bad, none⟩
    case stamps =>
      have bad : decide (rd.val ≤ 12) = false := decide_eq_false (by omega)
      simp only [List.forall_mem_cons]
      exact ⟨h.illegal rfl bad, h.illegal rfl bad, none⟩
    case times =>
      have bad : decide (rd.val ≤ 13) = false := decide_eq_false (by omega)
      simp only [List.forall_mem_cons]
      exact ⟨h.illegal rfl bad, h.illegal rfl bad, none⟩
    case wait => exact h.illegal rfl (waitListed_false bad)
    case ld =>
      simp only [List.forall_mem_cons]
      exact ⟨h.noLoad (rd := rd) (op := .ld rd q rd.val) far rfl offset (by simp only [engDo, getR_advance]),
        h.noStore (v := getR s n e rd) (op := .st rd q rd.val) far rfl offset (by simp only [engDo, getR_advance]), none⟩
    case ldf =>
      simp only [List.forall_mem_cons]
      exact ⟨h.noLoad (rd := rd) (op := .ldf rd q imm) far rfl rfl (by simp only [engDo, getR_advance]),
        h.noStore (v := getR s n e rd) (op := .stf rd q imm) far rfl rfl (by simp only [engDo, getR_advance]), none⟩
    case lda =>
      simp only [List.forall_mem_cons]
      exact ⟨h.noLoad (rd := rd) (op := .lda rd imm) far rfl rfl rfl, h.noStore (op := .sta rd imm) far rfl rfl rfl, none⟩
  case locked =>
    intro n e t s
    exact ⟨fun d h => completes_lock_waits h, fun rd rs p => completes_overrun⟩

/-! System instructions (R288, R290). -/

section
variable {s : State} {n : Fin 12} {e : Fin 14} {t : Nat}

/-- The engine at a SYNC. -/
def syncedAt (free : Bool) (x : Engine) : Engine := { kickDog x with synced := true, safe := free }

/-- SYNC completes, and stops an engine in intermission that holds no lock. -/
theorem engIssue_sync (h : Issues s n e) : engIssue (s.at t) n e .sync =
    intmStop ((advance (s.at t) n e .sync).updEng n e (syncedAt !holdsLock s n e)) n e := by
  let x := (advance (s.at t) n e .sync).updEng n e (syncedAt !holdsLock s n e)
  have does : engDo (advance (s.at t) n e .sync) n e .sync = .go x := by
    simp only [engDo, holdsLock_advance]; rfl
  have eng : x.eng n e = syncedAt (!holdsLock s n e) (passed s n e 1) := by
    rw [eng_updEng_self, eng_advance]; rfl
  rw [engIssue_of_issues (h.at t) rfl (.inl (by simp)), does]
  show intmStop (afterInstr x n e) n e = _
  rw [afterInstr_of_no_halt (by rw [eng]; exact h.noHalt) (by rw [eng]; exact h.noStep)]

theorem completes_sync (h : Issues s n e) (stays : (s.fintm && !holdsLock s n e) = false) :
    Completes (.sync n e t) s fun u =>
      u.eng n e = syncedAt (!holdsLock s n e) (passed s n e 1) ∧ EngineOnly s u n e := by
  have row : exec (.sync n e t) s = done ((advance (s.at t) n e .sync).updEng n e (syncedAt !holdsLock s n e)) := by
    refine congrArg done ((engIssue_sync h).trans (if_neg fun stops => ?_))
    obtain ⟨inside, free⟩ := stops
    have held : holdsLock ((advance (s.at t) n e .sync).updEng n e (syncedAt !holdsLock s n e)) n e = holdsLock s n e := by
      unfold holdsLock; rw [cl_updEng, lock_advance]
    rw [held] at free
    have inside : s.fintm = true := inside
    rw [inside, free] at stays
    cases stays
  refine completes_done row ⟨?_, ?_⟩
  · rw [settle_eng, eng_updEng_self, eng_advance]; rfl
  · rw [advance, updEng_updEng]; exact engineOnly_updEng s n e t _

theorem completes_sync_stops (h : Issues s n e) (free : holdsLock s n e = false) (inside : s.fintm = true) :
    Completes (.sync n e t) s fun u =>
      u.eng n e = { syncedAt true (passed s n e 1) with intm := true } ∧ EngineOnly s u n e := by
  have row : exec (.sync n e t) s = done (((advance (s.at t) n e .sync).updEng n e (syncedAt !holdsLock s n e)).updEng n e
      fun x => { x with intm := true }) := by
    let x := (advance (s.at t) n e .sync).updEng n e (syncedAt !holdsLock s n e)
    have open_ : (!holdsLock x n e) = true := by
      unfold holdsLock; rw [cl_updEng, lock_advance]; exact congrArg not free
    have stop : intmStop x n e = x.updEng n e fun x => { x with intm := true } := if_pos ⟨inside, open_⟩
    exact congrArg done ((engIssue_sync h).trans stop)
  rw [free] at row
  refine completes_done row ⟨?_, ?_⟩
  · rw [settle_eng, eng_updEng_self, eng_updEng_self, eng_advance]; rfl
  · rw [advance, updEng_updEng, updEng_updEng]; exact engineOnly_updEng s n e t _

/-- LOCK where the lock is free (R290). -/
theorem completes_lock_free (h : Issues s n e) (free : (s.cl n).lock = none) : Completes (.lock n e t) s fun u =>
    (u.cl n).lock = some e ∧ (u.eng n e).lockCount = 0 ∧ (u.eng n e).pc = (s.eng n e).pc + 1 ∧ SameMemory s u ∧
    OtherEngines s u n e := by
  let x := advance (s.at t) n e .lock
  let y := (x.updCl n fun c => { c with lock := some e }).updEng n e fun x => { x with lockCount := 0 }
  have open_ : lockedOut x n e = false := by rw [lockedOut_advance]; unfold lockedOut; rw [free]
  have unheld : holdsLock x n e = false := by rw [holdsLock_advance]; unfold holdsLock; rw [free]; rfl
  have does : engDo x n e .lock = .go y := by
    simp only [engDo, open_, unheld, Bool.false_eq_true, if_false]; rfl
  have own (m : Fin 12) (d : Fin 14) : (x.updCl n fun c => { c with lock := some e }).eng m d = x.eng m d :=
    eng_updCl_keeps (f := fun c => { c with lock := some e }) (fun _ => rfl) x m d
  have eng : y.eng n e = { passed s n e 1 with lockCount := 0 } := by rw [eng_updEng_self, own, eng_advance]; rfl
  refine completes_go (y := y) rfl h rfl does ?_ ⟨?_, ?_, ?_, ?_, fun m d other => ?_⟩
  · rw [eng]; exact ⟨h.noHalt, h.noStep⟩
  · rw [settle_cl_lock, cl_updEng, cl_updCl_self]
  · rw [settle_eng, eng]
  · rw [settle_eng, eng]; rfl
  · exact sameMemory_settle rfl
  · rw [settle_eng, eng_updEng_other _ _ _ _ _ _ other, own, eng_advance_other s n e t _ other]

theorem completes_lock_own (h : Issues s n e) (own : (s.cl n).lock = some e) :
    Completes (.lock n e t) s fun u => u.eng n e = passed s n e 1 ∧ EngineOnly s u n e := by
  have open_ : lockedOut (advance (s.at t) n e .lock) n e = false := by
    rw [lockedOut_advance]; unfold lockedOut; rw [own]; exact decide_eq_false (not_not_intro rfl)
  have held : holdsLock (advance (s.at t) n e .lock) n e = true := (holdsLock_advance s n e t _).trans (decide_eq_true own)
  exact completes_pass (op := .lock) rfl h rfl (by simp only [engDo, open_, held, Bool.false_eq_true, if_false, if_true])

theorem completes_unlock (h : Issues s n e) : Completes (.unlock n e t) s fun u =>
    u.eng n e = { passed s n e 1 with lockCount := 0 } ∧ (u.cl n).lock ≠ some e ∧
    ((s.cl n).lock ≠ some e → (u.cl n).lock = (s.cl n).lock) ∧ SameMemory s u ∧ OtherEngines s u n e := by
  let x := advance (s.at t) n e .unlock
  have eng : (releaseLock x n e).eng n e = { passed s n e 1 with lockCount := 0 } := by
    rw [eng_releaseLock, eng_updEng_self, eng_advance]; rfl
  refine completes_go (y := releaseLock x n e) rfl h rfl rfl ?_ ⟨?_, ?_, fun other => ?_, ?_, fun m d other => ?_⟩
  · rw [eng]; exact ⟨h.noHalt, h.noStep⟩
  · rw [settle_eng, eng]
  · rw [settle_cl_lock]; exact lock_releaseLock x n e
  · have kept : (x.cl n).lock ≠ some e := (lock_advance s n e t .unlock n).symm ▸ other
    rw [settle_cl_lock, releaseLock]
    simp only [if_neg kept]
    rw [cl_updEng, lock_advance]
  · exact sameMemory_settle (releaseLock_mem x n e)
  · rw [settle_eng, eng_releaseLock, eng_updEng_other _ _ _ _ _ _ other, eng_advance_other s n e t _ other]

/-- HALT without a lock (R288). -/
theorem completes_halt (h : Issues s n e) (free : holdsLock s n e = false) : Completes (.halt n e t) s fun u =>
    (u.eng n e).run = .halted ∧ (u.eng n e).pc = (s.eng n e).pc + 1 ∧ (u.eng n e).regs = (s.eng n e).regs ∧
    SameMemory s u ∧ OtherEngines s u n e ∧ ∀ k, (u.pin k).latch = (s.pin k).latch ∧ (u.pin k).drive = (s.pin k).drive := by
  let x := advance (s.at t) n e .halt
  let halted (x : Engine) : Engine := { x with run := .halted, haltCause := 3, haltPending := none, stepping := false }
  obtain ⟨y, hy⟩ : ∃ y, y = (haltEngine x n e 3).raise (Src.trap n.val 9) e.val := ⟨_, rfl⟩
  have does : engDo x n e .halt = .go y := by
    rw [hy]
    simp only [engDo, x, holdsLock_advance, free, Bool.false_eq_true, if_false]
  have clusters : y.clusters = (x.updEng n e halted).clusters := by
    rw [hy, raise_clusters]; exact trace_clusters _ _ _ _ _
  have mem : y.mem = s.mem := by rw [hy, raise_mem]; exact trace_mem _ _ _ _ _
  have pins : y.pins = s.pins := by
    rw [hy, raise_pins]
    unfold haltEngine
    obtain ⟨_, e | e | e⟩ := trace_cases (x.updEng n e halted) (clTrace n) 4 e.val 3 <;> rw [e]
    case inr.inr => exact raise_pins _ _ _
    all_goals rfl
  have eng : y.eng n e = halted (passed s n e 1) := by rw [eng_congr clusters, eng_updEng_self, eng_advance]; rfl
  refine completes_go rfl h rfl does ?_ ⟨?_, ?_, ?_, ?_, fun m d other => ?_, fun k => ?_⟩
  · rw [eng]; exact ⟨rfl, rfl⟩
  · rw [settle_eng, eng]
  · rw [settle_eng, eng]; rfl
  · rw [settle_eng, eng]; rfl
  · exact sameMemory_settle mem
  · rw [settle_eng, eng_congr clusters, eng_updEng_other _ _ _ _ _ _ other, eng_advance_other s n e t _ other]
  · obtain ⟨latch, drive⟩ := settle_pin_source y k
    rw [latch, drive, pin_congr pins]; exact ⟨rfl, rfl⟩

end

/-- Settles O37: each instruction's effect on engine and lock, by who holds the lock and whether the node is in intermission. -/
theorem systemInstructions : Obligations.SystemInstructions := by
  unfold Obligations.SystemInstructions
  intro n e t s h
  refine ⟨completes_pass (op := .nop) rfl h rfl rfl, ⟨fun free runs => ?free, fun free inside => completes_sync_stops h free inside,
    fun held => ?held⟩, completes_lock_free h, completes_lock_own h, completes_unlock h, completes_halt h⟩
  case free =>
    have synced := completes_sync (t := t) h (by rw [runs]; rfl)
    rw [free] at synced
    exact synced
  case held =>
    have synced := completes_sync (t := t) h (by rw [held, Bool.not_true, Bool.and_false])
    rw [held] at synced
    exact synced

end Sys2Proof.Machine
end

section
set_option Elab.async false
/-! SUPPORT. The waits of a port engine (R289), its pins (R291), pacers (R292), conduits (R293) and time (R294, R295), and the obligations
about them. -/

namespace Sys2Proof.Machine

/-! WAIT (R289). -/

section
variable {c : Instr} {s : State} {n : Fin 12} {e : Fin 14} {t : Nat} {op : EngOp}

/-- An engine that goes dark stands past its instruction with its registers as they were. -/
theorem completes_goes_dark {g : Engine → Engine} (row : exec c s = done (engIssue (s.at t) n e op)) (h : Issues s n e)
    (legal : engLegal op = true)
    (waits : engDo (advance (s.at t) n e op) n e op = .dark ((advance (s.at t) n e op).updEng n e g))
    (free : holdsLock s n e = false) (runs : s.fintm = false) (notRetT : op ≠ .retT := by simp) : Completes c s fun u =>
      u.eng n e = { g (passed s n e op.size) with dark := some op, safe := true } ∧ SameMemory s u ∧ OtherEngines s u n e ∧
      ∀ m, (u.cl m).conduits = (s.cl m).conduits := by
  let y := (advance (s.at t) n e op).updEng n e g
  obtain ⟨mem, clusters⟩ := goDark_keeps (y := y) n e op runs
  refine completes_dark row h legal waits free ⟨?_, ?_, fun m d other => ?_, fun m => ?_⟩ notRetT
  · rw [settle_eng, eng_congr clusters, eng_updEng_self, eng_updEng_self, eng_advance]
  · exact sameMemory_settle mem
  · rw [settle_eng, eng_congr clusters, eng_updEng_other _ _ _ _ _ _ other, eng_updEng_other _ _ _ _ _ _ other,
      eng_advance_other s n e t op other]
  · rw [settle_cl_conduits, cl_congr clusters, cl_updEng, cl_updEng, advance, cl_updEng]; rfl

/-- The dark of an instruction that leaves its engine as it stands past it. -/
theorem completes_waits_dark (row : exec c s = done (engIssue (s.at t) n e op)) (h : Issues s n e) (legal : engLegal op = true)
    (waits : engDo (advance (s.at t) n e op) n e op = .dark (advance (s.at t) n e op)) (free : holdsLock s n e = false)
    (runs : s.fintm = false) (notRetT : op ≠ .retT := by simp) : Completes c s fun u =>
      u.eng n e = { passed s n e op.size with dark := some op, safe := true } ∧ SameMemory s u ∧ OtherEngines s u n e ∧
      ∀ m, (u.cl m).conduits = (s.cl m).conduits :=
  completes_goes_dark (g := id) row h legal (waits.trans (congrArg EngStep.dark (updEng_of_eng_eq rfl).symm)) free runs notRetT

end

/-- What a WAIT makes of its engine when it completes at once. -/
def waited (kind i : Nat) (x : Engine) : Engine :=
  { (if kind ≤ 2 then clearLatches kind i x else if kind = 0xE then clearLatches 2 i x else x) with z := true, instSeen := false }

/-- The condition of a WAIT as it stands before the instruction. -/
theorem waitHolds_advance (s : State) (n : Fin 12) (e : Fin 14) (t : Nat) (op : EngOp) (k i : Nat) :
    waitHolds (advance (s.at t) n e op) n e k i = waitHolds s n e k i := by
  unfold waitHolds
  rw [eng_advance, conduit_advance, pacer_advance]
  rfl

section
variable {s : State} {n : Fin 12} {e : Fin 14} {t : Nat} {kind pin : Fin 16}

theorem waited_keeps (k i : Nat) (y : Engine) : (waited k i y).haltPending = y.haltPending ∧ (waited k i y).stepping = y.stepping := by
  unfold waited
  split
  · exact ⟨rfl, rfl⟩
  · split <;> exact ⟨rfl, rfl⟩

theorem completes_wait_holds (h : Issues s n e) (listed : waitListed kind.val pin.val = true) (bound : waitBound s n e kind.val pin.val = true)
    (other : kind.val ≠ 7) (holds : waitHolds s n e kind.val pin.val = true) : Completes (.wait n e kind pin t) s fun u =>
      u.eng n e = waited kind.val pin.val (passed s n e 1) ∧ EngineOnly s u n e := by
  refine completes_own (op := .wait kind.val pin.val) rfl h listed ?_ (waited_keeps _ _)
  simp only [engDo, waitBound_advance, bound, waitHolds_advance, holds, other, Bool.not_true, Bool.false_eq_true, if_false, if_true]
  rfl

theorem completes_wait_dark (h : Issues s n e) (listed : waitListed kind.val pin.val = true) (bound : waitBound s n e kind.val pin.val = true)
    (waits : kind.val = 7 ∨ waitHolds s n e kind.val pin.val = false) (free : holdsLock s n e = false) (runs : s.fintm = false) :
    Completes (.wait n e kind pin t) s fun u =>
      (u.eng n e).dark = some (.wait kind.val pin.val) ∧ (u.eng n e).pc = (s.eng n e).pc + 1 ∧ (u.eng n e).regs = (s.eng n e).regs ∧
      SameMemory s u ∧ OtherEngines s u n e := by
  let g : Engine → Engine := if kind.val = 7 then fun x => { x with instSeen := false } else id
  have does : engDo (advance (s.at t) n e (.wait kind.val pin.val)) n e (.wait kind.val pin.val) =
      .dark ((advance (s.at t) n e (.wait kind.val pin.val)).updEng n e g) := by
    simp only [engDo, waitBound_advance, bound, Bool.not_true, Bool.false_eq_true, if_false]
    by_cases instant : kind.val = 7
    · simp only [g, instant, if_true]
    · rw [if_neg instant, waitHolds_advance, waits.resolve_left instant]
      simp only [g, instant, Bool.false_eq_true, if_false]
      exact congrArg EngStep.dark (updEng_of_eng_eq rfl).symm
  obtain ⟨u, next, eng, mem, others, -⟩ := completes_goes_dark (c := .wait n e kind pin t) (op := .wait kind.val pin.val) rfl h listed does free runs
  have own : (g (passed s n e 1)).pc = (s.eng n e).pc + 1 ∧ (g (passed s n e 1)).regs = (s.eng n e).regs := by
    simp only [g]; split <;> exact ⟨rfl, rfl⟩
  exact ⟨u, next, by rw [eng], by rw [eng]; exact own.1, by rw [eng]; exact own.2, mem, others⟩

end

theorem ofNat_two_pow (p : Nat) : BitVec.ofNat 12 (2 ^ p) = 1#12 <<< p := by
  apply BitVec.eq_of_toNat_eq
  simp [Nat.shiftLeft_eq]

/-- A WAIT on edge latches. -/
theorem wait_edge {k : Nat} (small : k ≤ 2) (s : State) (n : Fin 12) (e : Fin 14) (i : Nat) :
    waitListed k i = decide (i < 12) ∧ waitBound s n e k i = true ∧ waitHolds s n e k i = edgeLatched (s.eng n e) k i := by
  interval_cases k <;> exact ⟨rfl, rfl, rfl⟩

/-- Whether what a WAIT of kind 3 to 6 waits for is there. -/
def heldNow (s : State) (n : Fin 12) (pin : Fin 16) (kind : Nat) : Option Bool :=
  match kind with
  | 3 => some (!(s.conduit n pin).inw.isEmpty)
  | 4 => some (s.pacer n pin).rx.isSome
  | 5 => some (s.pacer n pin).tx.isNone
  | 6 => some (!(s.fifo n).entries.isEmpty)
  | _ => none

/-- A WAIT on a conduit, a pacer or the edge stamps. -/
theorem wait_held {s : State} {n : Fin 12} {e : Fin 14} {pin : Fin 16} {k : Nat} {b : Bool} (held : heldNow s n pin k = some b)
    (bound : (k = 3 → ownsConduit s n e pin = true) ∧ (k = 4 ∨ k = 5 → ownsPacer s n e pin = true) ∧ (k = 6 → pin.val = 0)) :
    waitListed k pin.val = true ∧ waitBound s n e k pin.val = true ∧ waitHolds s n e k pin.val = b ∧ 3 ≤ k ∧ k ≤ 6 := by
  obtain ⟨conduit, pacer, stamps⟩ := bound
  have listed : decide (pin.val < 16) = true := decide_eq_true pin.isLt
  unfold heldNow at held
  split at held
  all_goals cases held
  · exact ⟨listed, by rw [← reg4_val pin] at conduit; exact conduit rfl, by unfold waitHolds; rw [reg4_val]; rfl, by omega, by omega⟩
  · exact ⟨listed, by rw [← reg4_val pin] at pacer; exact pacer (.inl rfl), by unfold waitHolds; rw [reg4_val]; rfl, by omega, by omega⟩
  · exact ⟨listed, by rw [← reg4_val pin] at pacer; exact pacer (.inr rfl), by unfold waitHolds; rw [reg4_val]; rfl, by omega, by omega⟩
  · exact ⟨decide_eq_true (stamps rfl), rfl, rfl, by omega, by omega⟩

theorem completes_wait_now {s : State} {n : Fin 12} {e : Fin 14} {kind pin : Fin 16} {t : Nat} (h : Issues s n e)
    (bound : (kind.val = 3 → ownsConduit s n e pin = true) ∧ (kind.val = 4 ∨ kind.val = 5 → ownsPacer s n e pin = true) ∧
      (kind.val = 6 → pin.val = 0)) (held : heldNow s n pin kind.val = some true) :
    Completes (.wait n e kind pin t) s fun u =>
      u.eng n e = { passed s n e 1 with z := true, instSeen := false } ∧ EngineOnly s u n e := by
  obtain ⟨listed, owned, holds, low, high⟩ := wait_held held bound
  have done := completes_wait_holds (t := t) h listed owned (by omega) holds
  have none_ : ¬ kind.val ≤ 2 ∧ ¬ kind.val = 0xE := ⟨by omega, by omega⟩
  simp only [waited, none_, if_false] at done
  exact done

/-- Settles O38: a WAIT is listed and bound; then its condition decides between completion and the dark. -/
theorem waitConditions : Obligations.WaitConditions := by
  unfold Obligations.WaitConditions
  intro n e kind pin t s h free runs
  refine ⟨fun small inside => ?edges, fun bound => ⟨completes_wait_now h bound, fun held => ?later⟩, fun seven few => ?instant,
    fun clears inside => ?clear⟩
  case edges =>
    obtain ⟨listed, bound, latched⟩ := wait_edge small s n e pin.val
    have listed := listed.trans (decide_eq_true inside)
    refine ⟨fun some_ => ?_, fun none_ => ?_⟩
    · have done := completes_wait_holds (t := t) h listed bound (by omega) (latched.trans some_)
      simp only [waited, small, if_true, clearLatches, ofNat_two_pow] at done
      exact done
    · exact completes_wait_dark h listed bound (.inr (latched.trans none_)) free runs
  case later =>
    obtain ⟨listed, owned, holds, -, -⟩ := wait_held held bound
    exact completes_wait_dark h listed owned (.inr holds) free runs
  case instant =>
    have listed : waitListed kind.val pin.val = true := by rw [seven]; exact decide_eq_true few
    have bound : waitBound s n e kind.val pin.val = true := by rw [seven]; rfl
    exact completes_wait_dark h listed bound (.inl seven) free runs
  case clear =>
    have listed : waitListed kind.val pin.val = true := by rw [clears]; exact decide_eq_true inside
    have bound : waitBound s n e kind.val pin.val = true := by rw [clears]; rfl
    have holds : waitHolds s n e kind.val pin.val = true := by rw [clears]; rfl
    have done := completes_wait_holds (t := t) h listed bound (by omega) holds
    simp only [clears] at done
    simp only [waited, clearLatches, ofNat_two_pow] at done
    exact done

/-! Instructions that work on a pacer, a conduit or another unit beside their engine. -/

section
variable {c : Instr} {s : State} {n : Fin 12} {e : Fin 14} {t : Nat} {op : EngOp}

/-- An instruction that completes with its engine as an update of the engine past it. -/
theorem completes_also {y : State} {g : Engine → Engine} {q : State → Prop} (row : exec c s = done (engIssue (s.at t) n e op))
    (h : Issues s n e) (legal : engLegal op = true) (does : engDo (advance (s.at t) n e op) n e op = .go y)
    (eng : y.eng n e = g (passed s n e op.size)) (keeps : ∀ y, (g y).haltPending = y.haltPending ∧ (g y).stepping = y.stepping)
    (holds : (settle y).eng n e = g (passed s n e op.size) → q (settle y)) (notSync : op ≠ .sync := by simp) (notRetT : op ≠ .retT := by simp) :
    Completes c s q := by
  refine completes_go row h legal does ?_ (holds ((settle_eng y n e).trans eng)) notSync (.inl notRetT)
  rw [eng]
  exact ⟨(keeps _).1.trans h.noHalt, (keeps _).2.trans h.noStep⟩

theorem id_keeps (y : Engine) : (id y).haltPending = y.haltPending ∧ (id y).stepping = y.stepping := ⟨rfl, rfl⟩

end

@[simp] theorem conduit_updEng (s : State) (n m : Fin 12) (e : Fin 14) (f : Engine → Engine) (q : Fin 16) :
    (s.updEng n e f).conduit m q = s.conduit m q := by unfold State.conduit; rw [cl_updEng]
@[simp] theorem pacer_updEng (s : State) (n m : Fin 12) (e : Fin 14) (f : Engine → Engine) (p : Fin 16) :
    (s.updEng n e f).pacer m p = s.pacer m p := by unfold State.pacer; rw [cl_updEng]
theorem settle_conduit (s : State) (n : Fin 12) (q : Fin 16) : (settle s).conduit n q = s.conduit n q := by
  unfold State.conduit; rw [settle_cl_conduits]
theorem settle_pacer (s : State) (n : Fin 12) (p : Fin 16) : (settle s).pacer n p = s.pacer n p := by
  unfold State.pacer; rw [settle_cl_pacers]

@[simp] theorem eng_updConduit (s : State) (n m : Fin 12) (q : Fin 16) (f : Conduit → Conduit) (d : Fin 14) :
    (s.updConduit n q f).eng m d = s.eng m d := eng_updCl_keeps (f := fun c => { c with conduits := vupd c.conduits q f }) (fun _ => rfl) s m d
@[simp] theorem eng_updPacer (s : State) (n m : Fin 12) (p : Fin 16) (f : Pacer → Pacer) (d : Fin 14) :
    (s.updPacer n p f).eng m d = s.eng m d := eng_updCl_keeps (f := fun c => { c with pacers := vupd c.pacers p f }) (fun _ => rfl) s m d
@[simp] theorem pacer_updPacer_self (s : State) (n : Fin 12) (p : Fin 16) (f : Pacer → Pacer) :
    (s.updPacer n p f).pacer n p = f (s.pacer n p) := by simp [State.pacer, State.updPacer]

/-! Conduits (R293). -/

theorem conduit_conduitPush (s : State) (n : Fin 12) (q : Fin 16) (w : Word) :
    (conduitPush s n q w).conduit n q = { s.conduit n q with out := (s.conduit n q).out ++ [w] } := conduit_updConduit_self ..

theorem eng_conduitPush (s : State) (n m : Fin 12) (q : Fin 16) (w : Word) (d : Fin 14) :
    (conduitPush s n q w).eng m d = s.eng m d := eng_updConduit ..

theorem conduitPop_eq (s : State) (n : Fin 12) (q : Fin 16) : ∃ b, conduitPop s n q =
    { s.updConduit n q fun c => { c with inw := c.inw.tail } with bar := b } := by
  unfold conduitPop
  dsimp only
  split
  · exact ⟨_, rfl⟩
  · exact ⟨_, rfl⟩

theorem conduit_conduitPop (s : State) (n : Fin 12) (q : Fin 16) :
    (conduitPop s n q).conduit n q = { s.conduit n q with inw := (s.conduit n q).inw.tail } := by
  obtain ⟨b, popped⟩ := conduitPop_eq s n q
  rw [popped]
  exact conduit_updConduit_self ..

theorem eng_conduitPop (s : State) (n m : Fin 12) (q : Fin 16) (d : Fin 14) : (conduitPop s n q).eng m d = s.eng m d := by
  obtain ⟨b, popped⟩ := conduitPop_eq s n q
  rw [popped]
  exact eng_updConduit ..

section
variable {s : State} {n : Fin 12} {e : Fin 14} {t : Nat} {rd q : Fin 16}

theorem completes_send_room (h : Issues s n e) (own : ownsConduit s n e q = true) (room : (s.conduit n q).out.length < 8) :
    Completes (.send n e rd q t) s fun u =>
      u.conduit n q = { s.conduit n q with out := (s.conduit n q).out ++ [getR s n e rd] } ∧ u.eng n e = passed s n e 1 ∧
      OtherEngines s u n e := by
  let x := advance (s.at t) n e (.send rd q)
  have does : engDo x n e (.send rd q) = .go (conduitPush x n q (getR s n e rd)) := by
    simp only [engDo, x, ownsConduit_advance, own, conduit_advance, getR_advance, Bool.not_true, Bool.false_eq_true, if_false]
    exact if_neg (by omega)
  refine completes_also (g := id) rfl h rfl does ((eng_conduitPush ..).trans (eng_advance ..)) id_keeps
    fun eng => ⟨?_, eng, fun m d other => ?_⟩
  · rw [settle_conduit, conduit_conduitPush, conduit_advance]
  · rw [settle_eng, eng_conduitPush, eng_advance_other s n e t _ other]

theorem completes_send_full (h : Issues s n e) (own : ownsConduit s n e q = true) (full : 8 ≤ (s.conduit n q).out.length)
    (free : holdsLock s n e = false) : Completes (.send n e rd q t) s fun u =>
      u.eng n e = { passed s n e 1 with stall := some (.send rd q) } ∧ EngineOnly s u n e := by
  refine completes_stall (op := .send rd q) rfl h rfl ?_ free
  simp only [engDo, ownsConduit_advance, own, conduit_advance, Bool.not_true, Bool.false_eq_true, if_false]
  exact if_pos full

theorem completes_recv_word {w : Word} {rest : List Word} (h : Issues s n e) (own : ownsConduit s n e q = true)
    (words : (s.conduit n q).inw = w :: rest) : Completes (.recv n e rd q t) s fun u =>
      u.eng n e = { passed s n e 1 with regs := vset (s.eng n e).regs rd w } ∧ u.conduit n q = { s.conduit n q with inw := rest } := by
  let x := advance (s.at t) n e (.recv rd q)
  have does : engDo x n e (.recv rd q) = .go (setR (conduitPop x n q) n e rd w) := by
    simp only [engDo, x, ownsConduit_advance, own, conduit_advance, words, Bool.not_true, Bool.false_eq_true, if_false]
  refine completes_also (g := fun y => { y with regs := vset y.regs rd w }) rfl h rfl does ?_ (fun _ => ⟨rfl, rfl⟩) fun eng => ⟨eng, ?_⟩
  · rw [setR, eng_updEng_self, eng_conduitPop, eng_advance]
  · rw [settle_conduit, setR, conduit_updEng, conduit_conduitPop, conduit_advance, words, List.tail_cons]

theorem completes_recv_none (h : Issues s n e) (own : ownsConduit s n e q = true) (none_ : (s.conduit n q).inw = [])
    (free : holdsLock s n e = false) (runs : s.fintm = false) : Completes (.recv n e rd q t) s fun u =>
      (u.eng n e).dark = some (.recv rd q) ∧ (u.eng n e).pc = (s.eng n e).pc + 1 ∧ (u.eng n e).regs = (s.eng n e).regs ∧
      u.conduit n q = s.conduit n q := by
  have waits : engDo (advance (s.at t) n e (.recv rd q)) n e (.recv rd q) = .dark (advance (s.at t) n e (.recv rd q)) := by
    simp only [engDo, ownsConduit_advance, own, conduit_advance, none_, Bool.not_true, Bool.false_eq_true, if_false]
  obtain ⟨u, next, eng, -, -, conduits⟩ := completes_waits_dark (c := .recv n e rd q t) rfl h rfl waits free runs
  refine ⟨u, next, by rw [eng], by rw [eng]; rfl, by rw [eng]; rfl, ?_⟩
  unfold State.conduit
  rw [conduits]

theorem completes_peek_word {w : Word} {rest : List Word} (h : Issues s n e) (own : ownsConduit s n e q = true)
    (words : (s.conduit n q).inw = w :: rest) : Completes (.peek n e rd q t) s fun u =>
      u.eng n e = { passed s n e 1 with regs := vset (s.eng n e).regs rd w, c := true } ∧ EngineOnly s u n e := by
  refine completes_own (op := .peek rd q) (g := fun y => { y with regs := vset y.regs rd w, c := true }) rfl h rfl ?_
    fun _ => ⟨rfl, rfl⟩
  simp only [engDo, ownsConduit_advance, own, conduit_advance, words, Bool.not_true, Bool.false_eq_true, if_false, setC, setR,
    updEng_updEng]

theorem completes_peek_none (h : Issues s n e) (own : ownsConduit s n e q = true) (none_ : (s.conduit n q).inw = []) :
    Completes (.peek n e rd q t) s fun u => u.eng n e = { passed s n e 1 with c := false } ∧ EngineOnly s u n e := by
  refine completes_own (op := .peek rd q) (g := fun y => { y with c := false }) rfl h rfl ?_ fun _ => ⟨rfl, rfl⟩
  simp only [engDo, ownsConduit_advance, own, conduit_advance, none_, Bool.not_true, Bool.false_eq_true, if_false, setC]

theorem completes_poll_word {w : Word} {rest : List Word} (h : Issues s n e) (own : ownsConduit s n e q = true)
    (words : (s.conduit n q).inw = w :: rest) : Completes (.poll n e rd q t) s fun u =>
      u.eng n e = { passed s n e 1 with regs := vset (s.eng n e).regs rd w, c := true } ∧
      u.conduit n q = { s.conduit n q with inw := rest } := by
  let x := advance (s.at t) n e (.poll rd q)
  have does : engDo x n e (.poll rd q) = .go ((conduitPop x n q).updEng n e fun y => { y with regs := vset y.regs rd w, c := true }) := by
    simp only [engDo, x, ownsConduit_advance, own, conduit_advance, words, Bool.not_true, Bool.false_eq_true, if_false, setC, setR,
      updEng_updEng]
  refine completes_also (g := fun y => { y with regs := vset y.regs rd w, c := true }) rfl h rfl does ?_ (fun _ => ⟨rfl, rfl⟩)
    fun eng => ⟨eng, ?_⟩
  · rw [eng_updEng_self, eng_conduitPop, eng_advance]
  · rw [settle_conduit, conduit_updEng, conduit_conduitPop, conduit_advance, words, List.tail_cons]

theorem completes_poll_none (h : Issues s n e) (own : ownsConduit s n e q = true) (none_ : (s.conduit n q).inw = []) :
    Completes (.poll n e rd q t) s fun u => u.eng n e = { passed s n e 1 with c := false } ∧ EngineOnly s u n e := by
  refine completes_own (op := .poll rd q) (g := fun y => { y with c := false }) rfl h rfl ?_ fun _ => ⟨rfl, rfl⟩
  simp only [engDo, ownsConduit_advance, own, conduit_advance, none_, Bool.not_true, Bool.false_eq_true, if_false, setC]

end

/-- Settles O41: each conduit instruction by whether there is room, or a word. -/
theorem conduitInstructions : Obligations.ConduitInstructions := by
  unfold Obligations.ConduitInstructions
  intro n e rd q t s h own free runs
  exact ⟨completes_send_room h own, fun full => completes_send_full h own full free,
    fun w rest words => ⟨completes_recv_word h own words, completes_peek_word h own words, completes_poll_word h own words⟩,
    fun none_ => ⟨completes_recv_none h own none_ free runs, completes_peek_none h own none_, completes_poll_none h own none_⟩⟩

/-! Pacers (R244, R292). -/

/-- PACE.PER outside PWM mode sets the period and begins the tick grid anew: its next tick is the first. -/
theorem completes_pacePer {s : State} {n : Fin 12} {e : Fin 14} {t : Nat} {rd p : Fin 16} (h : Issues s n e)
    (own : ownsPacer s n e p = true) (even : rd.val ≤ 14) (mode : pacerMode (s.pacer n p) ≠ 3) :
    Completes (.pacePer n e rd p t) s fun u => (u.pacer n p).nextTick = 0 := by
  let x := advance (s.at t) n e (.pacePer rd p)
  have does : engDo x n e (.pacePer rd p) = .go (x.updPacer n p (setPer (max s.now t) (getR s n e rd ++ getR s n e (rd + 1)))) := by
    simp only [engDo, x, ownsPacer_advance, own, getR_advance, Bool.not_true, Bool.false_eq_true, if_false]
    rfl
  refine completes_also (g := id) rfl h (decide_eq_true even) does ((eng_updPacer ..).trans (eng_advance ..)) id_keeps fun _ => ?_
  rw [settle_pacer, pacer_updPacer_self, pacer_advance, setPer, if_neg mode]

/-- An engine that runs and owns a pacer whose tick grid has begun. -/
def ticking : State :=
  { State.reset with
    clusters := vset State.reset.clusters 0 { Cluster.init with
      cfg := some { crc := 0, engines := [], pins := [], pacers := [some 0], conduits := [], units := [], regions := [], pimg := none
                    sched := [], avg := [], shared := [] }
      engines := vset Cluster.init.engines 0 { Engine.init with run := .running, phys := some 0 }
      pacers := vset Cluster.init.pacers 0 { Pacer.init with nextTick := 1 } } }

theorem ticking_issues : Issues ticking 0 0 := by constructor <;> decide

/-- A command answers one next state. -/
theorem Completes.and {c : Instr} {s : State} {p q : State → Prop} (h : Completes c s p) (g : Completes c s q) :
    Completes c s fun u => p u ∧ q u := by
  obtain ⟨u, next, hu⟩ := h
  obtain ⟨v, next', hv⟩ := g
  cases next.symm.trans next'
  exact ⟨u, next, hu, hv⟩

/-- Refutes O40: PACE.PER makes the next tick the first of the new grid; the statement says that of the pacer only period and grid
change. Engine 0 of cluster 0 writes the period of its pacer 0, which has ticked once. -/
theorem not_pacerInstructions : ¬ Obligations.PacerInstructions := by
  unfold Obligations.PacerInstructions
  rintro ⟨-, claim⟩
  have own : ownsPacer ticking 0 0 0 = true := by decide
  have mode : pacerMode (ticking.pacer 0 0) ≠ 3 := by decide
  obtain ⟨-, forms⟩ := claim 0 0 0 0 0 ticking ticking_issues own
  obtain ⟨per, -, -⟩ := forms (by decide)
  obtain ⟨u, -, ⟨-, said⟩, zero⟩ := per.and (completes_pacePer ticking_issues own (by decide) mode)
  rw [if_neg mode] at said
  have kept : (u.pacer 0 0).nextTick = (ticking.pacer 0 0).nextTick := congrArg Pacer.nextTick said
  have one : (ticking.pacer 0 0).nextTick = 1 := by decide
  omega

end Sys2Proof.Machine
end

section
set_option Elab.async false
/-! SUPPORT. The pin instructions (R291) and the time instructions (R294, R295) of a port engine, and the obligations about them. -/

namespace Sys2Proof.Machine

/-! Pins (R291). -/

theorem pin_advance (s : State) (n : Fin 12) (e : Fin 14) (t : Nat) (op : EngOp) (k : Fin 144) :
    (advance (s.at t) n e op).pin k = s.pin k := rfl

/-- The section of a pin does not hang on the engines. -/
theorem pinCfg_updEng (s : State) (n : Fin 12) (e : Fin 14) (f : Engine → Engine) (k : Fin 144) : (s.updEng n e f).pinCfg k = s.pinCfg k := by
  unfold State.pinCfg; rw [cl_updEng]

theorem bitW_zero (b : Bool) : bitW b 0 = if b then 1 else 0 := by cases b <;> rfl

theorem flagZ_level (b : Bool) : flagZ (if b then 1 else 0) = !b := by cases b <;> rfl

theorem getLsbD_bitW (b : Bool) {i k : Nat} (hi : i < 16) : (bitW b i).getLsbD k = (b && decide (k = i)) := by
  cases b
  · simp [bitW, b2n, wd]
  · rw [bitW_true]
    by_cases same : k = i
    · subst same; simp [hi]
    · simp [same]
      omega

/-- The bits of a word put together from levels. -/
theorem getLsbD_levels (f : Fin 12 → Bool) (k : Nat) : ∀ (l : List (Fin 12)) (w : Word),
    (l.foldl (fun w j => w ||| bitW (f j) j.val) w).getLsbD k = (w.getLsbD k || l.any fun j => f j && decide (k = j.val))
  | [], w => by simp
  | j :: l, w => by
    rw [List.foldl_cons, getLsbD_levels f k l, BitVec.getLsbD_or, getLsbD_bitW _ (by omega), List.any_cons, Bool.or_assoc]

theorem getLsbD_pinLevels (s : State) (n : Fin 12) (i : Fin 12) : (pinLevels s n).getLsbD i.val = (s.pin (pinOf n i)).filt := by
  rw [pinLevels, getLsbD_levels]
  cases level : (s.pin (pinOf n i)).filt
  · simp
    intro j high same
    obtain rfl : i = j := Fin.ext same
    rw [level] at high; cases high
  · simp
    exact ⟨i, level, rfl⟩

theorem pinLevels_lt (s : State) (n : Fin 12) : (pinLevels s n).toNat < 4096 := by
  refine Nat.lt_pow_two_of_testBit (n := 12) _ fun k high => ?_
  have none_ : (pinLevels s n).getLsbD k = false := by
    rw [pinLevels, getLsbD_levels]
    simp
    intro j _
    omega
  exact none_

section
variable {s : State} {n : Fin 12} {e : Fin 14} {t : Nat} {rd : Fin 16} {j : Fin 12}

/-- The number of a pin as an operand. -/
def pinOperand (j : Fin 12) : Fin 16 := ⟨j.val, by omega⟩

theorem completes_pinrd (h : Issues s n e) : Completes (.pinrd n e rd (pinOperand j) t) s fun u =>
    u.eng n e = { passed s n e 1 with
      regs := vset (s.eng n e).regs rd (if (s.pin (pinOf n j)).filt then 1 else 0), z := !(s.pin (pinOf n j)).filt } ∧ EngineOnly s u n e := by
  refine completes_own (op := .pinrd rd j.val) (g := fun y => { y with
    regs := vset y.regs rd (if (s.pin (pinOf n j)).filt then 1 else 0), z := !(s.pin (pinOf n j)).filt }) rfl h
    (decide_eq_true (by omega)) ?_ fun _ => ⟨rfl, rfl⟩
  simp only [engDo, place?_val, pin_advance, bitW_zero, flagZ_level, setR, setZ, updEng_updEng]

theorem completes_pinrd_all (h : Issues s n e) : Completes (.pinrd n e rd 12 t) s fun u =>
    (let w := vget (u.eng n e).regs rd
     (∀ i : Fin 12, w.getLsbD i.val = (s.pin (pinOf n i)).filt) ∧ w.toNat < 4096 ∧
     u.eng n e = { passed s n e 1 with regs := vset (s.eng n e).regs rd w, z := decide (w = 0) }) ∧ EngineOnly s u n e := by
  have does : engDo (advance (s.at t) n e (.pinrd rd 12)) n e (.pinrd rd 12) = .go ((advance (s.at t) n e (.pinrd rd 12)).updEng n e
      fun y => { y with regs := vset y.regs rd (pinLevels s n), z := decide (pinLevels s n = 0) }) := by
    have all : place? 12 12 = none := rfl
    simp only [engDo, all, setR, setZ, updEng_updEng]
    rfl
  obtain ⟨u, next, eng, only⟩ := completes_own (c := .pinrd n e rd 12 t) rfl h rfl does fun _ => ⟨rfl, rfl⟩
  have word : vget (u.eng n e).regs rd = pinLevels s n := by rw [eng]; simp [vget_vset]
  refine ⟨u, next, ?_, only⟩
  simp only [word]
  exact ⟨getLsbD_pinLevels s n, pinLevels_lt s n, eng⟩

/-- The pin belongs to the engine's pin port (R291). -/
def ownPin (s : State) (n : Fin 12) (e : Fin 14) (i : Fin 12) : Bool := match s.pinCfg (pinOf n i) with
  | some c => decide (c.src = 1 ∧ c.index = e.val)
  | none => false

theorem pinWrite_own {f : Pin → Pin} (own : ownPin s n e j = true) : pinWrite s n e j f = s.updPin (pinOf n j) f := by
  cases cfg : s.pinCfg (pinOf n j) with
  | none => rw [ownPin, cfg] at own; cases own
  | some c => rw [ownPin, cfg] at own; rw [pinWrite, cfg]; exact if_pos (of_decide_eq_true own)

theorem pinWrite_other {f : Pin → Pin} (other : ownPin s n e j = false) : pinWrite s n e j f = writerReject s n e false := by
  cases cfg : s.pinCfg (pinOf n j) with
  | none => rw [pinWrite, cfg]
  | some c => rw [ownPin, cfg] at other; rw [pinWrite, cfg]; exact if_neg (of_decide_eq_false other)

theorem ownPin_advance (op : EngOp) (i : Fin 12) : ownPin (advance (s.at t) n e op) n e i = ownPin s n e i := by
  unfold ownPin; rw [advance, pinCfg_updEng]; rfl

theorem ownPin_congr {x : State} (h : x.clusters = s.clusters) (i : Fin 12) : ownPin x n e i = ownPin s n e i := by
  unfold ownPin State.pinCfg; rw [cl_congr h]

/-- A pin instruction that changes pins alone beside passing its engine. -/
theorem completes_pins {c : Instr} {op : EngOp} {y : State} (row : exec c s = done (engIssue (s.at t) n e op)) (h : Issues s n e)
    (legal : engLegal op = true) (does : engDo (advance (s.at t) n e op) n e op = .go y)
    (only : y.clusters = (advance (s.at t) n e op).clusters) (mem : y.mem = s.mem) {q : State → Prop}
    (pins : (∀ k, ((settle y).pin k).latch = (y.pin k).latch ∧ ((settle y).pin k).drive = (y.pin k).drive) →
      (settle y).eng n e = passed s n e op.size ∧ SameMemory s (settle y) ∧ OtherEngines s (settle y) n e → q (settle y))
    (notSync : op ≠ .sync := by simp) (notRetT : op ≠ .retT := by simp) : Completes c s q := by
  refine completes_also (g := id) row h legal does ((eng_congr only n e).trans (eng_advance ..)) id_keeps
    (fun eng => pins (settle_pin_source y) ⟨eng, sameMemory_settle mem, fun m d other => ?_⟩) notSync notRetT
  rw [settle_eng, eng_congr only, eng_advance_other s n e t op other]

theorem completes_pin_own {c : Instr} {op : EngOp} {f : Pin → Pin} (row : exec c s = done (engIssue (s.at t) n e op)) (h : Issues s n e)
    (legal : engLegal op = true)
    (does : engDo (advance (s.at t) n e op) n e op = .go (pinWrite (advance (s.at t) n e op) n e j f)) (own : ownPin s n e j = true)
    (notSync : op ≠ .sync := by simp) (notRetT : op ≠ .retT := by simp) : Completes c s fun u =>
      (u.pin (pinOf n j)).latch = (f (s.pin (pinOf n j))).latch ∧ (u.pin (pinOf n j)).drive = (f (s.pin (pinOf n j))).drive ∧
      (u.eng n e = passed s n e op.size ∧ SameMemory s u ∧ OtherEngines s u n e) ∧
      ∀ k, k ≠ pinOf n j → (u.pin k).latch = (s.pin k).latch ∧ (u.pin k).drive = (s.pin k).drive := by
  rw [pinWrite_own ((ownPin_advance op j).trans own)] at does
  refine completes_pins row h legal does rfl rfl (fun pins only => ?_) notSync notRetT
  have self := pins (pinOf n j)
  rw [pin_updPin, if_pos rfl, pin_advance] at self
  refine ⟨self.1, self.2, only, fun k other => ?_⟩
  have apart := pins k
  rw [pin_updPin, if_neg other, pin_advance] at apart
  exact apart

theorem closingReg_writerc : ∀ n : Fin 12, closingReg (CLU_WRITERC n.val) = false := by decide

theorem completes_pin_other {c : Instr} {op : EngOp} {f : Pin → Pin} (row : exec c s = done (engIssue (s.at t) n e op)) (h : Issues s n e)
    (legal : engLegal op = true)
    (does : engDo (advance (s.at t) n e op) n e op = .go (pinWrite (advance (s.at t) n e op) n e j f)) (other : ownPin s n e j = false)
    (notSync : op ≠ .sync := by simp) (notRetT : op ≠ .retT := by simp) : Completes c s fun u =>
      u.reg (CLU_WRITERC n.val) = bumpW (s.reg (CLU_WRITERC n.val)) 1 ∧
      (u.eng n e = passed s n e op.size ∧ SameMemory s u ∧ OtherEngines s u n e) ∧
      ∀ k, (u.pin k).latch = (s.pin k).latch ∧ (u.pin k).drive = (s.pin k).drive := by
  rw [pinWrite_other ((ownPin_advance op j).trans other)] at does
  let x := advance (s.at t) n e op
  have told : writerReject x n e false = (x.bump (CLU_WRITERC n.val)).raise (Src.clu n.val 0x3) e.val := rfl
  have mem : (writerReject x n e false).mem = s.mem := by rw [told, raise_mem]; rfl
  have clusters : (writerReject x n e false).clusters = x.clusters := by rw [told, raise_clusters]; rfl
  refine completes_pins row h legal does clusters mem (fun pins only => ⟨?_, only, fun k => ?_⟩) notSync notRetT
  · have open_ : closingReg (CLU_WRITERC n.val) = false := closingReg_writerc n
    rw [reg_settle_of_not_closing _ _ open_, told, reg_congr (raise_regs _ _ _), reg_bump_self]
    rfl
  · have same : (writerReject x n e false).pin k = s.pin k := (pin_congr (by rw [told, raise_pins]; rfl) k).trans (pin_advance s n e t op k)
    rw [← same]
    exact pins k

/-- Every pin of the list that is the engine's own is written. -/
def writeOwn (n : Fin 12) (e : Fin 14) (f : Fin 12 → Pin → Pin) (s : State) (i : Fin 12) : State :=
  if ownPin s n e i then s.updPin (pinOf n i) (f i) else s

theorem writeOwn_eq (f : Fin 12 → Pin → Pin) : (fun (s : State) j => match s.pinCfg (pinOf n j) with
    | some c => if c.src = 1 ∧ c.index = e.val then s.updPin (pinOf n j) (f j) else s
    | none => s) = writeOwn n e f := by
  funext s j
  unfold writeOwn ownPin
  cases s.pinCfg (pinOf n j) <;> simp

theorem writeOwn_keeps (f : Fin 12 → Pin → Pin) (l : List (Fin 12)) (s : State) :
    (s.each l (writeOwn n e f)).clusters = s.clusters ∧ (s.each l (writeOwn n e f)).mem = s.mem := by
  constructor
  · exact each_keeps (fun s : State => s.clusters) (fun x i => by unfold writeOwn; split <;> rfl) l s
  · exact each_keeps (fun s : State => s.mem) (fun x i => by unfold writeOwn; split <;> rfl) l s

/-- A pin that is not among those written stays. -/
theorem pin_writeOwn_apart (f : Fin 12 → Pin → Pin) {k : Fin 144} : ∀ (l : List (Fin 12)) (s : State), (∀ i ∈ l, k ≠ pinOf n i) →
    (s.each l (writeOwn n e f)).pin k = s.pin k
  | [], _, _ => rfl
  | i :: l, s, apart => by
    have step : s.each (i :: l) (writeOwn n e f) = (writeOwn n e f s i).each l (writeOwn n e f) := rfl
    rw [step, pin_writeOwn_apart f l _ fun j hj => apart j (List.mem_cons_of_mem _ hj)]
    unfold writeOwn
    split
    · rw [pin_updPin, if_neg (apart i List.mem_cons_self)]
    · rfl

theorem pin_writeOwn_of_mem (f : Fin 12 → Pin → Pin) {i : Fin 12} (l : List (Fin 12)) (distinct : l.Nodup) (s : State) (mem : i ∈ l) :
    (s.each l (writeOwn n e f)).pin (pinOf n i) = if ownPin s n e i then f i (s.pin (pinOf n i)) else s.pin (pinOf n i) := by
  induction l generalizing s with
  | nil => cases mem
  | cons m l ih =>
    have step : s.each (m :: l) (writeOwn n e f) = (writeOwn n e f s m).each l (writeOwn n e f) := rfl
    obtain ⟨fresh, rest⟩ := List.nodup_cons.1 distinct
    rw [step]
    by_cases same : i = m
    · subst same
      rw [pin_writeOwn_apart f l _ fun j hj (e : pinOf n i = pinOf n j) => fresh ((pinOf_inj.1 e).2 ▸ hj)]
      unfold writeOwn
      split
      · rw [pin_updPin, if_pos rfl]
      · rfl
    · have clusters : (writeOwn n e f s m).clusters = s.clusters := by unfold writeOwn; split <;> rfl
      have other : (writeOwn n e f s m).pin (pinOf n i) = s.pin (pinOf n i) := by
        unfold writeOwn
        split
        · rw [pin_updPin, if_neg fun e => same (pinOf_inj.1 e).2]
        · rfl
      rw [ih rest _ ((List.mem_cons.1 mem).resolve_left same), ownPin_congr clusters, other]

theorem completes_pins_all {c : Instr} {op : EngOp} {f : Fin 12 → Pin → Pin} (row : exec c s = done (engIssue (s.at t) n e op))
    (h : Issues s n e) (legal : engLegal op = true)
    (does : engDo (advance (s.at t) n e op) n e op = .go ((advance (s.at t) n e op).each (List.finRange 12) (writeOwn n e f)))
    (notSync : op ≠ .sync := by simp) (notRetT : op ≠ .retT := by simp) : Completes c s fun u =>
      (u.eng n e = passed s n e op.size ∧ SameMemory s u ∧ OtherEngines s u n e) ∧
      (∀ k, (∀ i, k ≠ pinOf n i) → (u.pin k).latch = (s.pin k).latch ∧ (u.pin k).drive = (s.pin k).drive) ∧
      ∀ i, (u.pin (pinOf n i)).latch = (if ownPin s n e i then f i (s.pin (pinOf n i)) else s.pin (pinOf n i)).latch ∧
        (u.pin (pinOf n i)).drive = (if ownPin s n e i then f i (s.pin (pinOf n i)) else s.pin (pinOf n i)).drive := by
  let x := advance (s.at t) n e op
  obtain ⟨clusters, mem⟩ := writeOwn_keeps (n := n) (e := e) f (List.finRange 12) x
  refine completes_pins row h legal does clusters mem (fun pins only => ⟨only, fun k apart => ?_, fun i => ?_⟩) notSync notRetT
  · have kept := pins k
    rw [pin_writeOwn_apart f _ x fun i _ => apart i, pin_advance] at kept
    exact kept
  · have written := pins (pinOf n i)
    rw [pin_writeOwn_of_mem f _ (List.nodup_finRange 12) x (List.mem_finRange i), ownPin_advance, pin_advance] at written
    exact written

end

/-- Settles O39: a pin of the engine's own is written, another's write is counted; with p 12 the own ones of the cluster are. -/
theorem pinInstructions : Obligations.PinInstructions := by
  unfold Obligations.PinInstructions
  intro n e rd j t s h
  have legal : decide (j.val ≤ 12) = true := decide_eq_true (by omega)
  refine ⟨completes_pinrd h, completes_pinrd_all h, fun own => ⟨?wr, ?dir⟩, fun other => ?rejected, ?wrAll, ?dirAll⟩
  case wr =>
    obtain ⟨u, next, latch, drive, only, others⟩ := completes_pin_own (t := t) (c := .pinwr n e rd (pinOperand j) t) (op := .pinwr rd j.val)
      (f := fun q => { q with latch := bitOf (getR s n e rd) 0 }) rfl h legal (by simp only [engDo, place?_val, getR_advance]) own
    exact ⟨u, next, latch, drive, only, others⟩
  case dir =>
    obtain ⟨u, next, latch, drive, only, others⟩ := completes_pin_own (t := t) (c := .pindir n e rd (pinOperand j) t) (op := .pindir rd j.val)
      (f := fun q => { q with drive := bitOf (getR s n e rd) 0 }) rfl h legal (by simp only [engDo, place?_val, getR_advance]) own
    exact ⟨u, next, drive, latch, only, others⟩
  case rejected =>
    simp only [List.forall_mem_cons]
    exact ⟨completes_pin_other (op := .pinwr rd j.val) rfl h legal (by simp only [engDo, place?_val]; rfl) other,
      completes_pin_other (op := .pindir rd j.val) rfl h legal (by simp only [engDo, place?_val]; rfl) other,
      fun _ none => absurd none List.not_mem_nil⟩
  case wrAll =>
    obtain ⟨u, next, only, apart, written⟩ := completes_pins_all (t := t) (c := .pinwr n e rd 12 t) (op := .pinwr rd 12)
      (f := fun i q => { q with latch := bitOf (getR s n e rd) i.val }) rfl h rfl
      (by simp only [engDo, getR_advance, ← writeOwn_eq]; rfl)
    exact ⟨u, next, only, apart, fun i => ⟨(written i).1.trans (apply_ite Pin.latch ..),
      (written i).2.trans ((apply_ite Pin.drive ..).trans (ite_self _))⟩⟩
  case dirAll =>
    obtain ⟨u, next, only, apart, written⟩ := completes_pins_all (t := t) (c := .pindir n e rd 12 t) (op := .pindir rd 12)
      (f := fun i q => { q with drive := bitOf (getR s n e rd) i.val }) rfl h rfl
      (by simp only [engDo, getR_advance, ← writeOwn_eq]; rfl)
    exact ⟨u, next, only, apart, fun i => ⟨(written i).2.trans (apply_ite Pin.drive ..),
      (written i).1.trans ((apply_ite Pin.latch ..).trans (ite_self _))⟩⟩

/-! Time (R135, R136, R294, R295). -/

theorem timeOperand_advance (s : State) (n : Fin 12) (e : Fin 14) (t : Nat) (op : EngOp) (r : Fin 16) :
    timeOperand (advance (s.at t) n e op) n e r = timeOperand (s.at t) n e r := by
  unfold timeOperand
  rw [getR_advance, getR_advance, getR_advance]
  rfl

theorem fring_advance (s : State) (n : Fin 12) (e : Fin 14) (t : Nat) (op : EngOp) : (advance (s.at t) n e op).fring = (s.at t).fring := rfl

theorem engDo_tcmp {s : State} {n : Fin 12} {e : Fin 14} {r : Fin 16} {at_ : Int} (operand : timeOperand s n e r = some at_) :
    engDo s n e (.tcmp r) = .go (s.updEng n e fun x =>
      { x with c := decide (nsFloor at_ ≤ nsFloor s.fring), z := decide (nsFloor at_ = nsFloor s.fring), n := false, v := false }) := by
  simp only [engDo, operand]

theorem engDo_twait {s : State} {n : Fin 12} {e : Fin 14} {r : Fin 16} {at_ : Int} (operand : timeOperand s n e r = some at_) :
    engDo s n e (.twait r) =
      if at_ ≤ s.fring then .go (setC s n e true) else .dark (s.updEng n e fun x => { x with c := false, wakeAt := at_ }) := by
  simp only [engDo, operand]

theorem engDo_badTime {s : State} {n : Fin 12} {e : Fin 14} {r : Fin 16} (operand : timeOperand s n e r = none) :
    engDo s n e (.tcmp r) = .trap trapTIME 0 s ∧ engDo s n e (.twait r) = .trap trapTIME 0 s := by
  simp only [engDo, operand, and_self]

/-- The first word of a time with its domain and holdover. -/
theorem timeFlags_eq : ∀ d h : Bool, bitW d 15 ||| bitW h 14 = wd (32768 * b2n d + 16384 * b2n h) := by decide

/-- The first word of an edge stamp. -/
theorem stampFlags_eq : ∀ (d h r o : Bool) (k : Fin 16), bitW d 15 ||| bitW h 14 ||| bitW r 13 ||| bitW o 12 ||| putFld k.val 3 0 =
    wd (32768 * b2n d + 16384 * b2n h + 8192 * b2n r + 4096 * b2n o + k.val) := by decide

theorem stampWords_eq (x : EdgeStamp) : stampWords x =
    [wd (32768 * b2n x.dom + 16384 * b2n x.hold + 8192 * b2n x.rising + 4096 * b2n x.ovf + x.pin % 16), wd (secOf x.time),
      wd (nsOf x.time / 65536), wd (nsOf x.time)] := by
  have pin : putFld x.pin 3 0 = putFld (x.pin % 16) 3 0 := by
    unfold putFld; rw [show 3 + 1 - 0 = 4 from rfl, show (2 ^ 4 : Nat) = 16 from rfl, Nat.mod_mod]
  unfold stampWords
  simp only [pin]
  rw [stampFlags_eq x.dom x.hold x.rising x.ovf ⟨x.pin % 16, Nat.mod_lt _ (by omega)⟩]

theorem eng_intmStop (x : State) (n : Fin 12) (e : Fin 14) : ∃ b, (intmStop x n e).eng n e = { x.eng n e with intm := b } := by
  unfold intmStop
  split
  · exact ⟨true, eng_updEng_self ..⟩
  · exact ⟨(x.eng n e).intm, rfl⟩

/-- What an engine that goes dark becomes, also in intermission (R261, R485). -/
theorem eng_goDark (y : State) (n : Fin 12) (e : Fin 14) (op : EngOp) :
    ∃ b, (goDark y n e op).eng n e = { y.eng n e with dark := some op, safe := true, intm := b } := by
  unfold goDark
  dsimp only
  obtain ⟨b, stopped⟩ := eng_intmStop ((y.updEng n e fun x => { x with dark := some op, safe := true }).trace (clTrace n) 1 e.val
    (match op with | .recv .. => 1 | .twait .. => 2 | _ => 0)) n e
  refine ⟨b, stopped.trans ?_⟩
  rw [eng_congr (trace_clusters ..), eng_updEng_self]

section
variable {s : State} {n : Fin 12} {e : Fin 14} {t : Nat} {r : Fin 16}

/-- Four words written to four registers from the first. -/
def putFour (r : Fin 16) (w0 w1 w2 w3 : Word) (regs : Vector Word 16) : Vector Word 16 :=
  vset (vset (vset (vset regs r w0) (r + 1) w1) (r + 2) w2) (r + 3) w3

theorem completes_tstamp (h : Issues s n e) (few : r.val ≤ 12) : Completes (.tstamp n e r t) s fun u =>
    u.eng n e = { passed s n e 1 with
        regs := putFour r (wd (32768 * b2n s.time.fdom + 16384 * b2n s.time.fhold)) (wd (secOf (s.at t).fring))
          (wd (nsOf (s.at t).fring / 65536)) (wd (nsOf (s.at t).fring)) (s.eng n e).regs } ∧ EngineOnly s u n e := by
  refine completes_own (op := .tstamp r) (g := fun y => { y with
    regs := putFour r (wd (32768 * b2n s.time.fdom + 16384 * b2n s.time.fhold)) (wd (secOf (s.at t).fring))
      (wd (nsOf (s.at t).fring / 65536)) (wd (nsOf (s.at t).fring)) y.regs }) rfl h (decide_eq_true few) ?_ fun _ => ⟨rfl, rfl⟩
  simp only [engDo, timeFlags_eq, setR, updEng_updEng]
  rfl

theorem completes_edge {x : EdgeStamp} {rest : List EdgeStamp} (h : Issues s n e) (few : r.val ≤ 12) (stamps : (s.fifo n).entries = x :: rest) :
    Completes (.edge n e r t) s fun u =>
      (u.fifo n).entries = rest ∧ (u.eng n e).z = false ∧ (u.eng n e).pc = (s.eng n e).pc + 1 ∧ SameMemory s u ∧ OtherEngines s u n e ∧
      (u.eng n e).regs = putFour r (wd (32768 * b2n x.dom + 16384 * b2n x.hold + 8192 * b2n x.rising + 4096 * b2n x.ovf + x.pin % 16))
        (wd (secOf x.time)) (wd (nsOf x.time / 65536)) (wd (nsOf x.time)) (s.eng n e).regs := by
  let y := advance (s.at t) n e (.edge r)
  let g (z : Engine) : Engine := { z with
    regs := putFour r (wd (32768 * b2n x.dom + 16384 * b2n x.hold + 8192 * b2n x.rising + 4096 * b2n x.ovf + x.pin % 16))
        (wd (secOf x.time)) (wd (nsOf x.time / 65536)) (wd (nsOf x.time)) z.regs
    z := false }
  have head : (y.fifo n).entries = x :: rest := stamps
  have pop : fifoPop y n = (stampWords x, y.updFifo n fun f => { f with entries := rest }) := by
    unfold fifoPop; rw [head]
  have does : engDo y n e (.edge r) = .go ((y.updFifo n fun f => { f with entries := rest }).updEng n e g) := by
    simp only [engDo, pop, head, stampWords_eq, setR, setZ, updEng_updEng]
    rfl
  have eng (m : Fin 12) (d : Fin 14) : (y.updFifo n fun f => { f with entries := rest }).eng m d = y.eng m d := rfl
  refine completes_also (g := g) rfl h (decide_eq_true few) does ?_ (fun _ => ⟨rfl, rfl⟩) fun own => ⟨?_, ?_, ?_, ?_, fun m d other => ?_, ?_⟩
  · rw [eng_updEng_self, eng, eng_advance]
  · unfold State.fifo
    rw [settle_edges]
    exact congrArg EdgeFifo.entries (vget_vupd_self y.edges n fun f => { f with entries := rest })
  · rw [own]
  · rw [own]; rfl
  · exact sameMemory_settle rfl
  · rw [settle_eng, eng_updEng_other _ _ _ _ _ _ other, eng, eng_advance_other s n e t _ other]
  · rw [own]; rfl

theorem completes_edge_empty (h : Issues s n e) (few : r.val ≤ 12) (none_ : (s.fifo n).entries = []) :
    Completes (.edge n e r t) s fun u =>
      u.eng n e = { passed s n e 1 with regs := putFour r 0x0800 0 0 0 (s.eng n e).regs, z := true } ∧ EngineOnly s u n e := by
  have empty : ((advance (s.at t) n e (.edge r)).fifo n).entries = [] := none_
  refine completes_own (op := .edge r) (g := fun y => { y with regs := putFour r 0x0800 0 0 0 y.regs, z := true }) rfl h
    (decide_eq_true few) ?_ fun _ => ⟨rfl, rfl⟩
  simp only [engDo, fifoPop, empty, setR, setZ, updEng_updEng]
  rfl

theorem completes_tcmp {at_ : Int} (h : Issues s n e) (few : r.val ≤ 13) (operand : timeOperand (s.at t) n e r = some at_) :
    Completes (.tcmp n e r t) s fun u =>
      u.eng n e = { passed s n e 1 with
        c := decide (at_ / nsT ≤ (s.at t).fring / nsT), z := decide (at_ / nsT = (s.at t).fring / nsT), n := false, v := false } ∧
      EngineOnly s u n e := by
  refine completes_own (op := .tcmp r) (g := fun y => { y with
    c := decide (at_ / nsT ≤ (s.at t).fring / nsT), z := decide (at_ / nsT = (s.at t).fring / nsT), n := false, v := false }) rfl h
    (decide_eq_true few) ?_ fun _ => ⟨rfl, rfl⟩
  rw [engDo_tcmp ((timeOperand_advance ..).trans operand), fring_advance]
  rfl

theorem completes_twait_past {at_ : Int} (h : Issues s n e) (few : r.val ≤ 13) (operand : timeOperand (s.at t) n e r = some at_)
    (past : at_ ≤ (s.at t).fring) :
    Completes (.twait n e r t) s fun u => u.eng n e = { passed s n e 1 with c := true } ∧ EngineOnly s u n e := by
  refine completes_own (op := .twait r) (g := fun y => { y with c := true }) rfl h (decide_eq_true few) ?_ fun _ => ⟨rfl, rfl⟩
  rw [engDo_twait ((timeOperand_advance ..).trans operand), fring_advance, if_pos past]
  rfl

theorem completes_twait_future {at_ : Int} (h : Issues s n e) (few : r.val ≤ 13) (operand : timeOperand (s.at t) n e r = some at_)
    (future : (s.at t).fring < at_) (free : holdsLock s n e = false) : Completes (.twait n e r t) s fun u =>
      (u.eng n e).dark = some (.twait r) ∧ (u.eng n e).wakeAt = at_ ∧ (u.eng n e).c = false ∧ (u.eng n e).regs = (s.eng n e).regs := by
  let y := (advance (s.at t) n e (.twait r)).updEng n e fun x => { x with c := false, wakeAt := at_ }
  have waits : engDo (advance (s.at t) n e (.twait r)) n e (.twait r) = .dark y := by
    rw [engDo_twait ((timeOperand_advance ..).trans operand), fring_advance, if_neg (Int.not_le.2 future)]
  obtain ⟨b, dark⟩ := eng_goDark y n e (.twait r)
  rw [eng_updEng_self, eng_advance] at dark
  refine completes_dark rfl h (decide_eq_true few) waits free ?_
  rw [settle_eng, dark]
  exact ⟨rfl, rfl, rfl, rfl⟩

theorem completes_badTime {p : Fin 16} (h : MayTrap s n e p) (few : r.val ≤ 13) (operand : timeOperand (s.at t) n e r = none) :
    Completes (.twait n e r t) s (fun u => TrapEntered s u n e p 7 0 (s.eng n e).pc) ∧
    Completes (.tcmp n e r t) s (fun u => TrapEntered s u n e p 7 0 (s.eng n e).pc) :=
  ⟨h.traps (cause := 7) rfl (decide_eq_true few) (engDo_badTime ((timeOperand_advance ..).trans operand)).2,
    h.traps (cause := 7) rfl (decide_eq_true few) (engDo_badTime ((timeOperand_advance ..).trans operand)).1⟩

end

/-- Settles O42: each instruction by the FIFO's head, or by the time operand against ring time. -/
theorem timeInstructions : Obligations.TimeInstructions := by
  unfold Obligations.TimeInstructions
  intro n e r t s h
  exact ⟨completes_tstamp h, fun few => ⟨fun x rest => completes_edge h few, completes_edge_empty h few⟩,
    fun at_ few operand => ⟨completes_tcmp h few operand, completes_twait_past h few operand, completes_twait_future h few operand⟩,
    fun p few operand ta bound => completes_badTime ⟨h, ta, bound⟩ few operand⟩

end Sys2Proof.Machine
end

section
set_option Elab.async false
/-! SUPPORT. The cue pulse units (R130-R133, R246) and the obligation about them. -/

namespace Sys2Proof.Machine

/-- The program that an ARM gives its unit (R131). -/
def armedProg (s : State) (r : PulseReq) : PulseProg :=
  ⟨s.toFieldDomain (bitOf r.ctrl 11) (ringOf r.sec r.ns), r.width, r.period, r.count, bitOf r.ctrl 13, bitOf r.ctrl 12, fld r.ctrl 3 0, 0⟩

/-- A program with no pulse yet whose first pulse is not late stays whole (R132). -/
theorem skipLate_early {p : PulseProg} {now : Int} (fresh : p.done = 0) (early : now + 200 * nsT ≤ p.t) : skipLate p now = (some p, 0) := by
  have none_ : latePulses p.t now p.period p.done = 0 := by
    unfold latePulses
    simp only [fresh, Nat.zero_mul, Int.ofNat_zero, Int.add_zero]
    exact if_pos early
  unfold skipLate
  split
  · rw [if_neg (by omega)]
  · rw [none_]
    have open_ : ¬ (p.count ≠ 0 ∧ p.done ≥ p.count) := by omega
    simp only [Nat.add_zero, if_neg open_, Nat.zero_min, ite_self]

/-- An ARM that is admitted and in time (R131). -/
theorem puArm_early {s : State} {k : Fin 24} {r : PulseReq} (admitted : armRefused s k r = false)
    (early : s.fring + 200 * nsT ≤ (armedProg s r).t) :
    vget (puArm s k r).pulses = vget (s.updPu k fun x => { x with
      prog := some (armedProg s r), lastLow := bitOf r.ctrl 12, late := false, conv := bitOf r.ctrl 11 != s.time.fdom, refused := false }).pulses := by
  have whole : skipLate (armedProg s r) s.fring = (some (armedProg s r), 0) := skipLate_early rfl early
  unfold armedProg at whole early
  have inTime : ¬ s.toFieldDomain (bitOf r.ctrl 11) (ringOf r.sec r.ns) < s.fring + 200 * nsT := Int.not_lt.2 early
  unfold puArm
  simp only [admitted, Bool.false_eq_true, if_false, whole, inTime, decide_false]
  split <;> rfl

theorem puArm_refused {s : State} {k : Fin 24} {r : PulseReq} (refused : armRefused s k r = true) :
    puArm s k r = s.updPu k fun x => { x with refused := true } := if_pos refused

section
variable {path : Path} {k : Fin 24} {t : Nat} {s : State}

/-- What a path has staged for an ARM. -/
def stagedReq (s : State) (path : Path) : PulseReq := pathReq s path.code (s.regSel PLS_PU_CTRL path.code &&& 0x380F)

theorem vget_updPu (s : State) (k j : Fin 24) (f : PulseUnit → PulseUnit) :
    vget (s.updPu k f).pulses j = if j = k then f (vget s.pulses k) else vget s.pulses j := vget_vupd ..

/-- An update of a unit is all that its command does. -/
theorem completes_updPu {c : Instr} {f : PulseUnit → PulseUnit} (row : exec c s = done ((s.at t).updPu k f)) :
    Completes c s fun u => vget u.pulses k = f (vget s.pulses k) ∧ SameRegs s u [] := by
  refine completes_done row ⟨?_, sameRegs_settle rfl⟩
  rw [settle_pulses, vget_updPu, if_pos rfl]
  rfl

theorem completes_puArm (free : unitOwner s k = none) (admitted : armRefused s k (stagedReq s path) = false)
    (early : (s.at t).fring + 200 * nsT ≤ (armedProg (s.at t) (stagedReq s path)).t) : Completes (.puArm path k t) s fun u =>
      (vget u.pulses k).prog = some (armedProg (s.at t) (stagedReq s path)) ∧ (vget u.pulses k).late = false ∧
      (vget u.pulses k).refused = false ∧ (vget u.pulses k).active = (vget s.pulses k).active ∧
      ∀ j, j ≠ k → vget u.pulses j = vget s.pulses j := by
  have unowned : ¬ (unitOwner (s.at t) k).isSome = true := by
    show ¬ (unitOwner s k).isSome = true
    rw [free]; simp
  have row : exec (.puArm path k t) s = done (puArm (s.at t) k (stagedReq s path)) := congrArg done (if_neg unowned)
  refine completes_done row ?_
  rw [settle_pulses, puArm_early (s := s.at t) admitted early]
  refine ⟨?_, ?_, ?_, ?_, fun j other => ?_⟩
  case refine_5 => rw [vget_updPu, if_neg other]; rfl
  all_goals rw [vget_updPu, if_pos rfl]
  rfl

theorem completes_puArm_refused (h : (unitOwner s k).isSome = true ∨ armRefused s k (stagedReq s path) = true) :
    Completes (.puArm path k t) s fun u => vget u.pulses k = { vget s.pulses k with refused := true } ∧ SameRegs s u [] := by
  refine completes_updPu (c := .puArm path k t) (t := t) (f := fun x => { x with refused := true }) (congrArg done ?_)
  by_cases owned : (unitOwner (s.at t) k).isSome = true
  · exact if_pos owned
  · exact (if_neg owned).trans (puArm_refused (s := s.at t) (h.resolve_left owned))

theorem completes_puStop (free : unitOwner s k = none) :
    Completes (.puStop k t) s fun u => vget u.pulses k = { vget s.pulses k with prog := none } ∧ SameRegs s u [] := by
  have unowned : ¬ (unitOwner (s.at t) k).isSome = true := by
    show ¬ (unitOwner s k).isSome = true
    rw [free]; simp
  exact completes_updPu (c := .puStop k t) (t := t) (f := fun x => { x with prog := none }) (congrArg done (if_neg unowned))

theorem completes_pulseLeadingEdge {p : PulseProg} (program : (vget s.pulses k).prog = some p) (idle : (vget s.pulses k).active = none)
    (due : pulseDue p = true) : Completes (.pulseLeadingEdge k t) s fun u =>
      vget u.pulses k = { vget s.pulses k with active := some (p.pin, p.low), prog := some { p with done := p.done + 1 } } := by
  have row : exec (.pulseLeadingEdge k t) s =
      done ((s.at t).updPu k fun x => { x with active := some (p.pin, p.low), prog := some { p with done := p.done + 1 } }) := by
    show execPulseLeadingEdge k t s = _
    unfold execPulseLeadingEdge
    simp only [at_pulses, program, idle, due, if_true]
  obtain ⟨u, next, unit, -⟩ := completes_updPu row
  exact ⟨u, next, unit⟩

/-- A program after the end of a pulse: it goes on while a pulse is due. -/
def progAfter : Option PulseProg → Option PulseProg
  | some p => if pulseDue p then some p else none
  | none => none

theorem completes_pulseTrailingEdge {a : Nat × Bool} (active : (vget s.pulses k).active = some a) :
    Completes (.pulseTrailingEdge k t) s fun u =>
      vget u.pulses k = { vget s.pulses k with active := none, prog := progAfter (vget s.pulses k).prog } := by
  have row : exec (.pulseTrailingEdge k t) s =
      done ((s.at t).updPu k fun x => { x with active := none, prog := progAfter x.prog }) := by
    show execPulseTrailingEdge k t s = _
    unfold execPulseTrailingEdge
    simp only [at_pulses, active]
    rfl
  obtain ⟨u, next, unit, -⟩ := completes_updPu row
  exact ⟨u, next, unit⟩

end

/-- Settles O18: an ARM is admitted or refused before it changes anything; the other commands update their unit alone. -/
theorem cuePulses : Obligations.CuePulses := by
  unfold Obligations.CuePulses
  intro path k t s
  refine ⟨completes_puArm, completes_puArm_refused, completes_puStop, fun p => completes_pulseLeadingEdge, fun a active => ?_⟩
  obtain ⟨u, next, unit⟩ := completes_pulseTrailingEdge (t := t) active
  exact ⟨u, next, by rw [unit], by rw [unit]; rfl⟩

end Sys2Proof.Machine
end

section
set_option Elab.async false
/-! SUPPORT. Reads that latch registers for their path (R105, R135-R137) and the obligation about them. -/

namespace Sys2Proof.Machine

/-- Every register that a read latches holds its word for the path. -/
theorem regSel_latchRegs {path : Path} {a : Nat} {v : Word} : ∀ {l : List (Nat × Word)} (s : State), (l.map Prod.fst).Nodup → (a, v) ∈ l →
    (latchRegs s path l).regSel a path.code = v
  | [], _, _, mem => by cases mem
  | (b, w) :: l, s, distinct, mem => by
    obtain ⟨fresh, rest⟩ := List.nodup_cons.1 distinct
    rcases List.mem_cons.1 mem with same | later
    · cases same
      exact regSel_latchRegs_cons v (fun x hx same => fresh ((congrArg (· ∈ l.map Prod.fst) same).mp (List.mem_map_of_mem (f := Prod.fst) hx))) s
    · exact regSel_latchRegs (s.setRegSel b path.code w) rest later

theorem regSel_settle_latchRegs {path : Path} {a : Nat} {v : Word} {l : List (Nat × Word)} (s : State) (distinct : (l.map Prod.fst).Nodup)
    (mem : (a, v) ∈ l) (open_ : closingReg a = false) : (settle (latchRegs s path l)).regSel a path.code = v :=
  (regSel_settle _ _ _ (path_code_lt path) open_).trans (regSel_latchRegs s distinct mem)

/-- A read that latches leaves the other registers. -/
theorem keepsRegs_latchRegs {path : Path} {but : List Nat} : ∀ {l : List (Nat × Word)}, (∀ x ∈ l, x.1 ∈ but) → ∀ (s : State),
    KeepsRegs s (latchRegs s path l) but
  | [], _, _ => .of_regs rfl _
  | (a, v) :: l, named, s => by
    obtain ⟨first, rest⟩ := List.forall_mem_cons.1 named
    refine KeepsRegs.trans ?_ (keepsRegs_latchRegs rest (s.setRegSel a path.code v))
    intro b k hk other
    exact regSel_setRegSel_ne s path.code k v (path_code_lt path) hk fun same => other (same ▸ first)

@[simp] theorem latchRegs_time (path : Path) (l : List (Nat × Word)) (s : State) : (latchRegs s path l).time = s.time := by
  induction l generalizing s with
  | nil => rfl
  | cons x l ih => rw [latchRegs, ih, setRegSel_time]

@[simp] theorem latchRegs_edges (path : Path) (l : List (Nat × Word)) (s : State) : (latchRegs s path l).edges = s.edges := by
  induction l generalizing s with
  | nil => rfl
  | cons x l ih => rw [latchRegs, ih, setRegSel_edges]

section
variable {path : Path} {n : Fin 12} {t : Nat} {s : State}

/-- A read that latches is all that its command does. -/
theorem completes_latches {c : Instr} {l : List (Nat × Word)} (row : exec c s = done (latchRegs (s.at t) path l))
    (distinct : (l.map Prod.fst).Nodup) (open_ : ∀ x ∈ l, closingReg x.1 = false) :
    Completes c s fun u => (∀ x ∈ l, u.regSel x.1 path.code = x.2) ∧ SameRegs s u (l.map Prod.fst) ∧ u.time.ofsBA = s.time.ofsBA := by
  refine completes_done row ⟨fun x mem => regSel_settle_latchRegs _ distinct mem (open_ x mem), ?_, ?_⟩
  · exact KeepsRegs.settle (keepsRegs_latchRegs (fun x mem => List.mem_map_of_mem mem) (s.at t))
  · rw [settle_time_ofsBA, latchRegs_time]; rfl

theorem toWords_two (k : Nat) : toWords 2 k = [wd (k / 65536), wd k] := by
  simp [toWords, Nat.shiftRight_eq_div_pow]

theorem secHWords_eq (t : Int) : secHWords t =
    [wd (secOf t / 4294967296), wd (secOf t / 65536), wd (secOf t), wd (nsOf t / 65536), wd (nsOf t), wd (fracOf t)] := by
  simp [secHWords, toWords, Nat.shiftRight_eq_div_pow]

theorem completes_timSecHRead (unlocked : s.lockedOut path = false) : Completes (.timSecHRead path t) s fun u =>
    u.regSel TIM_SEC_M path.code = wd (secOf (s.at t).ring / 65536) ∧ u.regSel TIM_SEC_L path.code = wd (secOf (s.at t).ring) ∧
    u.regSel TIM_NS_H path.code = wd (nsOf (s.at t).ring / 65536) ∧ u.regSel TIM_NS_L path.code = wd (nsOf (s.at t).ring) ∧
    u.regSel TIM_FRAC path.code = wd (fracOf (s.at t).ring) ∧ SameRegs s u [TIM_SEC_M, TIM_SEC_L, TIM_NS_H, TIM_NS_L, TIM_FRAC] := by
  have row : exec (.timSecHRead path t) s = done (latchRegs (s.at t) path [(TIM_SEC_M, wd (secOf (s.at t).ring / 65536)),
      (TIM_SEC_L, wd (secOf (s.at t).ring)), (TIM_NS_H, wd (nsOf (s.at t).ring / 65536)), (TIM_NS_L, wd (nsOf (s.at t).ring)),
      (TIM_FRAC, wd (fracOf (s.at t).ring))]) := by
    refine congrArg done ((throughLock_of_unlocked (s := s.at t) unlocked _ _ _).trans ?_)
    simp only [timSecHRead, secHWords_eq]
    rfl
  obtain ⟨u, next, words, regs, -⟩ := completes_latches row (by simp) (by simp; decide)
  simp only [List.forall_mem_cons] at words
  obtain ⟨m, l, h, l', f, -⟩ := words
  exact ⟨u, next, m, l, h, l', f, regs⟩

theorem secWords_low (o : Int) : wAt (secWords o) 2 = BitVec.ofInt 16 (o / secT) := by
  have low : wAt (secWords o) 2 = wd ((o / secT) % 281474976710656).toNat := by simp [secWords, toWords, wAt]
  rw [low]
  generalize o / secT = x
  apply BitVec.eq_of_toNat_eq
  rw [BitVec.toNat_ofInt]
  simp only [wd, BitVec.toNat_ofNat]
  omega

theorem completes_timOfsSecHRead (unlocked : s.lockedOut path = false) : Completes (.timOfsSecHRead path t) s fun u =>
    u.regSel TIM_OFS_NS_H path.code = wd (nsOf (s.at t).domOfs / 65536) ∧ u.regSel TIM_OFS_NS_L path.code = wd (nsOf (s.at t).domOfs) ∧
    u.regSel TIM_OFS_SEC_L path.code = BitVec.ofInt 16 ((s.at t).domOfs / secT) ∧ u.time.ofsBA = s.time.ofsBA := by
  have row : exec (.timOfsSecHRead path t) s = done (latchRegs (s.at t) path
      [(TIM_OFS_SEC_M, wAt (secWords (s.at t).domOfs) 1), (TIM_OFS_SEC_L, wAt (secWords (s.at t).domOfs) 2),
        (TIM_OFS_NS_H, wd (nsOf (s.at t).domOfs / 65536)), (TIM_OFS_NS_L, wd (nsOf (s.at t).domOfs)),
        (TIM_OFS_RATE_H, wAt (toWords 2 (satInt32 s.time.ofsRate).toNat) 0),
        (TIM_OFS_RATE_L, wAt (toWords 2 (satInt32 s.time.ofsRate).toNat) 1)]) :=
    congrArg done (throughLock_of_unlocked (s := s.at t) unlocked _ _ _)
  obtain ⟨u, next, words, -, ofs⟩ := completes_latches row (by simp) (by simp; decide)
  simp only [List.forall_mem_cons] at words
  obtain ⟨-, l, h, l', -⟩ := words
  exact ⟨u, next, h, l', l.trans (secWords_low _), ofs⟩

/-- The register that a read of the cue sequencer latches, and its value (R105). -/
theorem completes_cueLatch {a : Nat} {w : Word} {which : Fin 4} (unlocked : s.lockedOut path = false) (shown : viewBlank s path = false)
    (latches : (cueLatchRead (s.at t) path (cueLatchOf which)).2 = latchRegs (s.at t) path [(a, w)]) (open_ : closingReg a = false) :
    Completes (.cueCycHRead path which t) s fun u => u.regSel a path.code = w ∧ SameRegs s u [a] := by
  have blank : ¬ viewBlank (s.at t) path = true := fun h => Bool.noConfusion (shown.symm.trans h)
  have row : exec (.cueCycHRead path which t) s = done (latchRegs (s.at t) path [(a, w)]) :=
    congrArg done ((throughLock_of_unlocked (s := s.at t) unlocked _ _ _).trans ((if_neg blank).trans latches))
  obtain ⟨u, next, words, regs, -⟩ := completes_latches row (List.nodup_singleton _) fun x mem => by rw [List.mem_singleton.1 mem]; exact open_
  exact ⟨u, next, words (a, w) List.mem_cons_self, regs⟩

/-- The words of an edge stamp are registers apart. -/
theorem stampRegs_apart : ∀ n : Fin 12, [PLS_ES_W1 n.val, PLS_ES_W2 n.val, PLS_ES_W3 n.val].Nodup ∧
    ∀ a ∈ [PLS_ES_W1 n.val, PLS_ES_W2 n.val, PLS_ES_W3 n.val], closingReg a = false := by decide

theorem completes_esPop (unlocked : s.lockedOut path = false) {y : State} {w0 w1 w2 w3 : Word}
    (pop : (fifoPop (s.at t) n).1 = [w0, w1, w2, w3]) (after : (if quiet s path then s.at t else (fifoPop (s.at t) n).2) = y) :
    Completes (.esPop path n t) s fun u => u.edges = y.edges ∧ u.regSel (PLS_ES_W1 n.val) path.code = w1 ∧
      u.regSel (PLS_ES_W2 n.val) path.code = w2 ∧ u.regSel (PLS_ES_W3 n.val) path.code = w3 := by
  let l : List (Nat × Word) := [(PLS_ES_W1 n.val, w1), (PLS_ES_W2 n.val, w2), (PLS_ES_W3 n.val, w3)]
  obtain ⟨distinct, open_⟩ := stampRegs_apart n
  have row : exec (.esPop path n t) s = done (latchRegs y path l) := by
    refine congrArg done ((throughLock_of_unlocked (s := s.at t) unlocked _ _ _).trans ?_)
    unfold esPop
    simp only [pop]
    rw [← after]
    rfl
  refine completes_done row ⟨?_, ?_, ?_, ?_⟩
  · rw [settle_edges, latchRegs_edges]
  · exact regSel_settle_latchRegs y distinct (by simp [l]) (open_ _ (by simp))
  · exact regSel_settle_latchRegs y distinct (by simp [l]) (open_ _ (by simp))
  · exact regSel_settle_latchRegs y distinct (by simp [l]) (open_ _ (by simp))

theorem completes_esPop_stamp {e : EdgeStamp} {rest : List EdgeStamp} (unlocked : s.lockedOut path = false)
    (stamps : (s.fifo n).entries = e :: rest) (loud : quiet s path = false) : Completes (.esPop path n t) s fun u =>
      (u.fifo n).entries = rest ∧ (∀ m, m ≠ n → u.fifo m = s.fifo m) ∧ u.regSel (PLS_ES_W1 n.val) path.code = wd (secOf e.time) ∧
      u.regSel (PLS_ES_W2 n.val) path.code = wd (nsOf e.time / 65536) ∧ u.regSel (PLS_ES_W3 n.val) path.code = wd (nsOf e.time) := by
  have head : ((s.at t).fifo n).entries = e :: rest := stamps
  have pop : fifoPop (s.at t) n = (stampWords e, (s.at t).updFifo n fun f => { f with entries := rest }) := by
    unfold fifoPop; rw [head]
  have loud : ¬ quiet s path = true := fun h => Bool.noConfusion (loud.symm.trans h)
  obtain ⟨u, next, edges, w1, w2, w3⟩ := completes_esPop (t := t) (n := n) unlocked ((congrArg Prod.fst pop).trans (stampWords_eq e))
    ((if_neg loud).trans (congrArg Prod.snd pop))
  refine ⟨u, next, ?_, fun m other => ?_, w1, w2, w3⟩
  · unfold State.fifo
    rw [edges]
    exact congrArg EdgeFifo.entries (vget_vupd_self s.edges n fun f => { f with entries := rest })
  · unfold State.fifo
    rw [edges]
    exact (vget_vupd s.edges n m _).trans (if_neg other)

theorem completes_esPop_empty (unlocked : s.lockedOut path = false) (none_ : (s.fifo n).entries = []) :
    Completes (.esPop path n t) s fun u => u.fifo n = s.fifo n ∧ u.regSel (PLS_ES_W1 n.val) path.code = 0 ∧
      u.regSel (PLS_ES_W2 n.val) path.code = 0 ∧ u.regSel (PLS_ES_W3 n.val) path.code = 0 := by
  have empty : ((s.at t).fifo n).entries = [] := none_
  have pop : fifoPop (s.at t) n = ([bitW true 11, 0, 0, 0], s.at t) := by unfold fifoPop; rw [empty]
  have after : (if quiet s path then s.at t else (fifoPop (s.at t) n).2) = s.at t := by rw [pop]; exact ite_self _
  obtain ⟨u, next, edges, words⟩ := completes_esPop (n := n) unlocked (congrArg Prod.fst pop) after
  exact ⟨u, next, by unfold State.fifo; rw [edges]; rfl, words⟩

end

/-- Settles O17: each read comes to a list of registers latched for its path, with a pop before it for the edge stamps. -/
theorem latchingReads : Obligations.LatchingReads := by
  unfold Obligations.LatchingReads
  intro path n t s unlocked
  refine ⟨completes_timSecHRead unlocked, completes_timOfsSecHRead unlocked, fun shown => ⟨?cycle, fun c sheet => ⟨?smp, ?lat, ?flp⟩⟩,
    fun e rest => completes_esPop_stamp unlocked, completes_esPop_empty unlocked⟩
  case cycle => exact completes_cueLatch unlocked shown rfl (by decide)
  case smp =>
    have ns : instNs (s.at t) .smp = c.tSmp := by unfold instNs; rw [show (s.at t).sheet = some c from sheet]
    exact completes_cueLatch unlocked shown (by rw [← ns]; rfl) (by decide)
  case lat =>
    have ns : instNs (s.at t) .lat = c.tLat := by unfold instNs; rw [show (s.at t).sheet = some c from sheet]
    exact completes_cueLatch unlocked shown (by rw [← ns]; rfl) (by decide)
  case flp =>
    have ns : instNs (s.at t) .flp = c.tFlp := by unfold instNs; rw [show (s.at t).sheet = some c from sheet]
    exact completes_cueLatch unlocked shown (by rw [← ns]; rfl) (by decide)

end Sys2Proof.Machine
end

section
set_option Elab.async false
/-! SUPPORT. Ramuth compatibility mode (R524-R532) and the obligation about its registers. -/

namespace Sys2Proof.Machine

/-- Bit k of a word put together from the bits f 0 to f (m - 1). -/
theorem getLsbD_spelled (f : Nat → Bool) (k : Nat) : ∀ m, m ≤ 16 →
    ((List.range m).foldl (fun w j => w ||| bitW (f j) j) 0).getLsbD k = (decide (k < m) && f k)
  | 0, _ => by simp
  | m + 1, small => by
    rw [List.range_succ, List.foldl_append, List.foldl_cons, List.foldl_nil, BitVec.getLsbD_or, getLsbD_spelled f k m (by omega),
      getLsbD_bitW _ (by omega)]
    by_cases top : k = m
    · subst top; simp
    · simp [top, show k < m + 1 ↔ k < m by omega]

theorem getLsbD_cmpOutWord (s : State) (n : Nat) {j : Nat} (hj : j < 12) : (cmpOutWord s n).getLsbD j = cmpOutBit s (12 * n + j) := by
  rw [cmpOutWord, getLsbD_spelled (fun j => cmpOutBit s (12 * n + j)) j 12 (by omega)]
  simp [hj]

theorem getLsbD_cmpIn (s : State) (i : Nat) {b : Nat} (hb : b < 8) :
    (cmpIn s i).getLsbD b = (s.word (snapBase + 2 * ((8 * i + b) / 12))).getLsbD ((8 * i + b) % 12) := by
  rw [cmpIn, streamByte, getLsbD_spelled (fun k => cmpInBit s (8 * i + k)) b 8 (by omega)]
  simp [hb, cmpInBit, bitOf]

/-! COMMIT puts a word into the fill bank for each cluster that names one. -/

/-- The pin image word of one cluster, as COMMIT writes it. -/
def cmpPut (s : State) (n : Fin 12) : State :=
  match cmpPimg s n with
  | none => s
  | some w => s.setFillWord w (cmpOutWord s n.val)

/-- What the words of COMMIT are made of, and where they go. -/
def SameCmpSource (s x : State) : Prop := x.clusters = s.clusters ∧ x.regs = s.regs ∧ x.cue = s.cue ∧ x.cmp = s.cmp

theorem SameCmpSource.cmpPut {s x : State} (h : SameCmpSource s x) (n : Fin 12) : SameCmpSource s (cmpPut x n) := by
  unfold Machine.cmpPut
  split
  · exact h
  · exact h

theorem SameCmpSource.pimg {s x : State} (h : SameCmpSource s x) (n : Fin 12) : cmpPimg x n = cmpPimg s n := by
  unfold cmpPimg; rw [cl_congr h.1]

theorem SameCmpSource.outWord {s x : State} (h : SameCmpSource s x) (n : Nat) : cmpOutWord x n = cmpOutWord s n := by
  obtain ⟨-, regs, -, -⟩ := h
  unfold cmpOutWord cmpOutBit
  simp only [reg_congr regs]

theorem SameCmpSource.each {s x : State} (h : SameCmpSource s x) (l : List (Fin 12)) : SameCmpSource s (x.each l Machine.cmpPut) := by
  induction l generalizing x with
  | nil => exact h
  | cons m l ih => exact ih (h.cmpPut m)

/-- The word of a cluster is put in its place. -/
theorem fillWord_cmpPut {s x : State} (h : SameCmpSource s x) {n : Fin 12} {w : Nat} (named : cmpPimg s n = some w) :
    (cmpPut x n).fillWord w = cmpOutWord s n.val := by
  unfold cmpPut
  rw [h.pimg n, named, h.outWord]
  exact word_setWord_self _ _ _

/-- A cluster that names another word leaves it. -/
theorem fillWord_cmpPut_apart {s x : State} (h : SameCmpSource s x) {m : Fin 12} {w : Nat} (other : cmpPimg s m ≠ some w) :
    (cmpPut x m).fillWord w = x.fillWord w := by
  unfold cmpPut
  rw [h.pimg m]
  cases named : cmpPimg s m with
  | none => rfl
  | some v =>
    have apart : v ≠ w := fun same => other (same ▸ named)
    exact word_setWord_apart x (pubBase x.cue.fill + 2 * v) (pubBase x.cue.fill + 2 * w) _ (by omega)

/-- Where one cluster alone names a word, the word ends as that cluster's. -/
theorem fillWord_eachCmpPut {s : State} {n : Fin 12} {w : Nat} (named : cmpPimg s n = some w)
    (alone : ∀ m : Fin 12, m ≠ n → cmpPimg s m ≠ some w) : ∀ (l : List (Fin 12)) (x : State), SameCmpSource s x →
      (n ∈ l ∨ x.fillWord w = cmpOutWord s n.val) → (x.each l cmpPut).fillWord w = cmpOutWord s n.val
  | [], _, _, done_ => by simpa [State.each] using done_
  | m :: l, x, h, due => by
    refine fillWord_eachCmpPut named alone l (cmpPut x m) (h.cmpPut m) ?_
    by_cases same : m = n
    · exact .inr (same ▸ fillWord_cmpPut h (same ▸ named))
    · rcases due with listed | put
      · exact .inl ((List.mem_cons.1 listed).resolve_left (Ne.symm same))
      · exact .inr ((fillWord_cmpPut_apart h (alone m same)).trans put)

/-- COMMIT is pending until the flip instant (R528). -/
def cmpPending (s : State) : State := { s with cmp := { s.cmp with pend := true } }

theorem fillWord_settle (s : State) (w : Nat) : (settle s).fillWord w = s.fillWord w := by
  rw [State.fillWord, settle_word, settle_cue]; rfl

section
variable {path : Path} {i : Fin 6} {v : Word} {t : Nat} {s : State}

theorem completes_cmpRCommit (on : s.cmp.inpub.isSome = true) : Completes (.cmpRCommit t) s fun u =>
    (∀ (n : Fin 12) (w : Nat), n.val < 4 → cmpPimg s n = some w → (∀ m : Fin 12, m ≠ n → cmpPimg s m ≠ some w) →
      ∀ j < 12, (u.fillWord w).getLsbD j = (s.reg (CMP_R_OUT ((12 * n.val + j) / 8))).getLsbD ((12 * n.val + j) % 8)) ∧
    u.reg CMP_COMMITS = bumpW (s.reg CMP_COMMITS) 1 ∧ u.cmp.pend = true := by
  have same : SameCmpSource s ((s.at t).each (List.finRange 12) cmpPut) := SameCmpSource.each (x := s.at t) ⟨rfl, rfl, rfl, rfl⟩ _
  have put {n : Fin 12} {w : Nat} (named : cmpPimg s n = some w) (alone : ∀ m : Fin 12, m ≠ n → cmpPimg s m ≠ some w) :=
    fillWord_eachCmpPut named alone (List.finRange 12) (s.at t) ⟨rfl, rfl, rfl, rfl⟩ (.inl (List.mem_finRange n))
  have row : exec (.cmpRCommit t) s = done (cmpPending (((s.at t).each (List.finRange 12) cmpPut).bump CMP_COMMITS)) := by
    have off : ¬ (!cmpOn (s.at t)) = true := by rw [show cmpOn (s.at t) = true from on]; decide
    exact congrArg done (if_neg off)
  generalize (s.at t).each (List.finRange 12) cmpPut = x at same put row
  refine completes_done row ⟨fun n w _ named alone j hj => ?_, ?_, ?_⟩
  · rw [fillWord_settle, show (cmpPending (x.bump CMP_COMMITS)).fillWord w = x.fillWord w from rfl, put named alone]
    exact getLsbD_cmpOutWord s n.val hj
  · rw [reg_settle_of_not_closing _ _ (by decide), show (cmpPending (x.bump CMP_COMMITS)).reg CMP_COMMITS = (x.bump CMP_COMMITS).reg CMP_COMMITS
      from rfl, reg_bump_self, reg_congr same.2.1]
  · rw [settle_cmp]; rfl

theorem cmpROut_open : ∀ i : Fin 6, closingReg (CMP_R_OUT i.val) = false := by decide

theorem completes_cmpROutWrite (on : s.cmp.inpub.isSome = true) : Completes (.cmpROutWrite i v t) s fun u =>
    u.reg (CMP_R_OUT i.val) = v &&& 0x00FF ∧ SameRegs s u [CMP_R_OUT i.val] ∧ SameMemory s u := by
  have row : exec (.cmpROutWrite i v t) s = done ((s.at t).setReg (CMP_R_OUT i.val) (v &&& 0x00FF)) :=
    congrArg done (if_pos (show cmpOn (s.at t) = true from on))
  refine completes_done row ⟨?_, ?_, sameMemory_settle rfl⟩
  · rw [reg_settle_of_not_closing _ _ (cmpROut_open i), reg_setReg_self]
  · exact ((KeepsRegs.of_regs (x := s.at t) rfl _).setReg List.mem_cons_self _).settle

/-- What a read of CMP_R_IN0 latches (R526). -/
def cmpLatched (s : State) : List (Nat × Word) := (List.range 5).map fun i => (CMP_R_IN (i + 1), cmpIn s (i + 1))

theorem cmpLatched_apart (s : State) : ((cmpLatched s).map Prod.fst).Nodup ∧ ∀ x ∈ cmpLatched s, closingReg x.1 = false := by
  have regs : (cmpLatched s).map Prod.fst = (List.range 5).map fun i => CMP_R_IN (i + 1) := by simp [cmpLatched]
  have distinct : ((List.range 5).map fun i => CMP_R_IN (i + 1)).Nodup ∧
      ∀ a ∈ (List.range 5).map fun i => CMP_R_IN (i + 1), closingReg a = false := by decide
  rw [regs]
  exact ⟨distinct.1, fun x mem => distinct.2 _ (regs ▸ List.mem_map_of_mem (f := Prod.fst) mem)⟩

theorem latchRegs_mem (path : Path) (l : List (Nat × Word)) (s : State) : (latchRegs s path l).mem = s.mem := by
  induction l generalizing s with
  | nil => rfl
  | cons x l ih => rw [latchRegs, ih]; rfl

theorem completes_cmpRIn0Read (on : s.cmp.inpub.isSome = true) (unlocked : s.lockedOut path = false) (shown : viewBlank s path = false) :
    Completes (.cmpRIn0Read path t) s fun u => SameMemory s u ∧ ∀ k < 5, ∀ b < 8,
      (u.regSel (CMP_R_IN (k + 1)) path.code).getLsbD b =
        (s.word (snapBase + 2 * ((8 * (k + 1) + b) / 12))).getLsbD ((8 * (k + 1) + b) % 12) := by
  have off : ¬ (!cmpOn (s.at t)) = true := by rw [show cmpOn (s.at t) = true from on]; decide
  have blank : ¬ viewBlank (s.at t) path = true := fun h => Bool.noConfusion (shown.symm.trans h)
  have row : exec (.cmpRIn0Read path t) s = done (latchRegs (s.at t) path (cmpLatched (s.at t))) :=
    congrArg done ((throughLock_of_unlocked (s := s.at t) unlocked _ _ _).trans
      ((if_neg blank).trans (congrArg Prod.snd (if_neg off))))
  obtain ⟨distinct, open_⟩ := cmpLatched_apart (s.at t)
  refine completes_done row ⟨sameMemory_settle (latchRegs_mem _ _ _), fun k hk b hb => ?_⟩
  have mem : (CMP_R_IN (k + 1), cmpIn (s.at t) (k + 1)) ∈ cmpLatched (s.at t) :=
    List.mem_map_of_mem (f := fun i => (CMP_R_IN (i + 1), cmpIn (s.at t) (i + 1))) (List.mem_range.2 hk)
  rw [regSel_settle_latchRegs (s.at t) distinct mem (open_ _ mem)]
  exact getLsbD_cmpIn (s.at t) (k + 1) hb

/-- Outside the mode the block's commands change nothing (R524). -/
theorem completes_cmp_off (off : s.cmp.inpub = none) (unlocked : s.lockedOut path = false) :
    ∀ c ∈ [Instr.cmpRCommit t, .cmpROutWrite i v t, .cmpRIn0Read path t], Completes c s fun u =>
      SameRegs s u [] ∧ SameMemory s u ∧ u.cmp = s.cmp := by
  have isOff : cmpOn (s.at t) = false := by unfold cmpOn; rw [show (s.at t).cmp.inpub = none from off]; rfl
  have neg : (!cmpOn (s.at t)) = true := by rw [isOff]; rfl
  have idle (c : Instr) (row : exec c s = done (s.at t)) : Completes c s fun u => SameRegs s u [] ∧ SameMemory s u ∧ u.cmp = s.cmp :=
    completes_done row ⟨sameRegs_settle rfl, sameMemory_settle rfl, settle_cmp _⟩
  have commit : exec (.cmpRCommit t) s = done (s.at t) := congrArg done (if_pos neg)
  have write : exec (.cmpROutWrite i v t) s = done (s.at t) :=
    congrArg done (if_neg fun on => Bool.noConfusion (isOff.symm.trans on))
  have read : exec (.cmpRIn0Read path t) s = done (s.at t) := by
    refine congrArg done ((throughLock_of_unlocked (s := s.at t) unlocked _ _ _).trans ?_)
    rw [show (cmpIn0Read (s.at t) path).2 = s.at t from congrArg Prod.snd (if_pos neg)]
    exact ite_self _
  intro c listed
  simp only [List.mem_cons, List.not_mem_nil, or_false] at listed
  rcases listed with rfl | rfl | rfl
  · exact idle _ commit
  · exact idle _ write
  · exact idle _ read

theorem completes_cmpRStatusRead (unlocked : s.lockedOut path = false) (loud : quiet s path = false) (shown : viewBlank s path = false) :
    Completes (.cmpRStatusRead path t) s fun u =>
      u.regSel CMP_R_STATUS (twinSel (viewCore s path)) = 0 ∧ SameRegs s u [CMP_R_STATUS] ∧ SameMemory s u := by
  have show_ : ¬ (quiet (s.at t) path || viewBlank (s.at t) path) = true := by
    rw [show quiet (s.at t) path = false from loud, show viewBlank (s.at t) path = false from shown]; decide
  have row : exec (.cmpRStatusRead path t) s = done ((s.at t).setRegSel CMP_R_STATUS (twinSel (viewCore s path)) 0) :=
    congrArg done ((throughLock_of_unlocked (s := s.at t) unlocked _ _ _).trans (if_neg show_))
  refine completes_done row ⟨?_, ?_, sameMemory_settle rfl⟩
  · rw [regSel_settle _ _ _ (twinSel_lt _) (by decide), regSel_setRegSel, if_pos rfl]
  · refine KeepsRegs.settle fun a k hk other => ?_
    exact regSel_setRegSel_ne (s.at t) _ k 0 (twinSel_lt _) hk fun same => other (by rw [same]; exact List.mem_cons_self)

theorem completes_cmpRStatusRead_quiet (unlocked : s.lockedOut path = false) (hidden : quiet s path = true ∨ viewBlank s path = true) :
    Completes (.cmpRStatusRead path t) s fun u => SameRegs s u [] ∧ SameMemory s u := by
  have hide : (quiet (s.at t) path || viewBlank (s.at t) path) = true := Bool.or_eq_true_iff.2 hidden
  have row : exec (.cmpRStatusRead path t) s = done (s.at t) :=
    congrArg done ((throughLock_of_unlocked (s := s.at t) unlocked _ _ _).trans (if_pos hide))
  exact completes_done row ⟨sameRegs_settle rfl, sameMemory_settle rfl⟩

end

/-- Settles O60: COMMIT puts one word for each cluster, and the other registers are staged, latched or cleared one at a time. -/
theorem ramuthRegisters : Obligations.RamuthRegisters := by
  unfold Obligations.RamuthRegisters
  intro path i v t s
  exact ⟨fun on => ⟨completes_cmpRCommit on, completes_cmpROutWrite on, completes_cmpRIn0Read on⟩,
    fun off unlocked => completes_cmp_off off unlocked,
    fun unlocked => ⟨completes_cmpRStatusRead unlocked, completes_cmpRStatusRead_quiet unlocked⟩⟩

end Sys2Proof.Machine
end

section
set_option Elab.async false
/-! SUPPORT. Notices of this node in the queues of both ring ports (R145, R162), and the obligation about scene changes. -/

namespace Sys2Proof.Machine

/-! Queues of the switch. -/

theorem queueIx_inj {p q : Fin 20} {c d : Nat} : queueIx p c = queueIx q d ↔ p = q ∧ c % 4 = d % 4 := by
  simp only [queueIx, Fin.mk.injEq]
  omega

theorem queue_updQueue (s : State) (p q : Fin 20) (c d : Nat) (f : List QEntry → List QEntry) :
    (s.updQueue p c f).queue q d = if q = p ∧ d % 4 = c % 4 then f (s.queue p c) else s.queue q d := by
  simp only [State.queue, State.updQueue, State.updSw, vget_vupd, queueIx_inj]

theorem queue_congr {s t : State} (h : t.sw = s.sw) (p : Fin 20) (c : Nat) : t.queue p c = s.queue p c := by rw [State.queue, h]; rfl

/-- The state after an entry has joined a queue: in the switch as `updQueue` leaves it. -/
theorem enqueue_sw (s : State) (p : Fin 20) (e : QEntry) (front : Bool) :
    (enqueue s p e front).sw = (s.updQueue p e.frame.cls fun q => if front then e :: q else q ++ [e]).sw := by
  unfold enqueue
  extract_lets x
  split <;> rfl

/-- All as before but for the switch and registers. -/
def SwitchOnly (s u : State) : Prop := u = { s with marks := u.marks, regs := u.regs, sw := u.sw }

theorem SwitchOnly.refl (s : State) : SwitchOnly s s := rfl
theorem SwitchOnly.trans {s t u : State} (h : SwitchOnly s t) (g : SwitchOnly t u) : SwitchOnly s u := by
  unfold SwitchOnly at *
  rw [g, h]

theorem switchOnly_enqueue (s : State) (p : Fin 20) (e : QEntry) (front : Bool) : SwitchOnly s (enqueue s p e front) := by
  unfold enqueue
  extract_lets x
  split <;> rfl

theorem keepsRegs_enqueue (s : State) (p : Fin 20) (e : QEntry) (front : Bool) : KeepsRegs s (enqueue s p e front) [SWQ_EVT] := by
  unfold enqueue
  extract_lets x
  split
  · exact (KeepsRegs.of_regs (x := x) rfl _).evt List.mem_cons_self 9
  · exact .of_regs rfl _

/-- An entry that no rule retires joins its queue. -/
theorem submit_of_open {s : State} {p : Fin 20} {e : QEntry} (fits : ¬ (e.frame.cls = 0 ∧ e.frame.payload.length > 32))
    (open_ : portOff s p = false) : submit s p e = enqueue s p e false := by
  rw [submit, if_neg fits, open_]
  rfl

/-! A notice goes on both rings. -/

/-- The entry of a notice (R145). -/
def noticeEntry (s : State) (cls sub : Nat) (payload : List Word) : QEntry :=
  ⟨Frame.mk' cls 1 sub (putFld s.ringNo 15 12 ||| wd 4095) s.srcWord 0 payload, 20, s.now, 0, none, 0⟩

/-- The port of ring B stays open while an entry joins a queue. -/
theorem portOff_enqueue_b (s : State) (p : Fin 20) (e : QEntry) (front : Bool) : portOff (enqueue s p e front) 1 = portOff s 1 := by
  have same : ((enqueue s p e front).sw.faultHeld = s.sw.faultHeld ∧ (enqueue s p e front).sw.down = s.sw.down) ∧
      (enqueue s p e front).links = s.links := by
    rw [enqueue_sw]
    exact ⟨⟨rfl, rfl⟩, by rw [switchOnly_enqueue s p e front]⟩
  obtain ⟨⟨held, down⟩, links⟩ := same
  have port (x : State) : portOff x 1 = (vget x.sw.faultHeld 1 || vget x.sw.down 1 || !(x.link .west).state.carries) := rfl
  rw [port, port, held, down, link_congr links]

theorem broadcast_eq {s : State} {cls sub : Nat} {payload : List Word} (may : MayBroadcast s) (small : cls ≠ 0 ∨ payload.length ≤ 32)
    (classed : (Frame.mk' cls 1 sub 0 0 0 []).cls = cls) : broadcast s cls sub payload =
      enqueue (enqueue s 0 (noticeEntry s cls sub payload) false) 1 (noticeEntry s cls sub payload) false := by
  obtain ⟨numbered, open0, open1⟩ := may
  have sized : ¬ (cls = 0 ∧ payload.length > 32) := by omega
  have fits : ¬ ((noticeEntry s cls sub payload).frame.cls = 0 ∧ (noticeEntry s cls sub payload).frame.payload.length > 32) := by
    rw [show (noticeEntry s cls sub payload).frame.cls = cls from classed]; exact sized
  have first : noticeOn s .a (noticeEntry s cls sub payload).frame = enqueue s 0 (noticeEntry s cls sub payload) false :=
    (if_neg numbered).trans (submit_of_open fits open0)
  have fab : (enqueue s 0 (noticeEntry s cls sub payload) false).fab = s.fab := by rw [switchOnly_enqueue s]
  have now : (enqueue s 0 (noticeEntry s cls sub payload) false).now = s.now := by rw [switchOnly_enqueue s]
  refine (congrArg (fun x => noticeOn x .b (noticeEntry s cls sub payload).frame) first).trans ?_
  rw [noticeOn, fab, if_neg numbered, now]
  exact submit_of_open fits ((portOff_enqueue_b _ _ _ _).trans open1)

section
variable {s : State} {cls sub : Nat} {payload : List Word} (may : MayBroadcast s) (small : cls ≠ 0 ∨ payload.length ≤ 32)
  (classed : (Frame.mk' cls 1 sub 0 0 0 []).cls = cls)
include may small classed

theorem switchOnly_broadcast : SwitchOnly s (broadcast s cls sub payload) := by
  rw [broadcast_eq may small classed]
  exact (switchOnly_enqueue _ _ _ _).trans (switchOnly_enqueue _ _ _ _)

theorem keepsRegs_broadcast : KeepsRegs s (broadcast s cls sub payload) [SWQ_EVT] := by
  rw [broadcast_eq may small classed]
  exact (keepsRegs_enqueue _ _ _ _).trans (keepsRegs_enqueue _ _ _ _)

theorem queue_broadcast (r : Ring) : (broadcast s cls sub payload).queue (ringPort r) cls =
    s.queue (ringPort r) cls ++ [noticeEntry s cls sub payload] := by
  have ofCls : (noticeEntry s cls sub payload).frame.cls = cls := classed
  rw [broadcast_eq may small classed, queue_congr (enqueue_sw _ _ _ _), queue_updQueue, ofCls, queue_congr (enqueue_sw _ _ _ _),
    queue_congr (enqueue_sw _ _ _ _), queue_updQueue, queue_updQueue, ofCls]
  cases r <;> simp [ringPort]

/-- The notice stands in both queues at the end of the command, whatever changes outside the switch. -/
theorem broadcast_settle {u : State} (sw : u.sw = (broadcast s cls sub payload).sw) (now : u.now = s.now) :
    Broadcast s (settle u) cls sub payload := by
  intro r
  rw [queue_congr (settle_sw u), queue_congr sw, queue_broadcast may small classed, settle_now, now]
  rfl

end

/-! Scene changes (R99-R103). -/

section
variable {c : DWord} {id t : Nat} {s : State}

/-- A notice that arrives takes effect where the node's ring side runs. -/
theorem delivered_of_bright {s : State} (bright : s.darkPath = false) (f : State → State) : s.delivered f = f s :=
  if_neg fun h => Bool.noConfusion (bright.symm.trans h)

theorem completes_sceneArm (named : s.reg CUE_SCN_CYC_H ++ s.reg CUE_SCN_CYC_L = c) (prompts : s.prompting = true)
    (free : s.cue.scene.target = none) (runs : s.host.intm = .running) (ahead : 64 ≤ diff32 c s.present) :
    Completes (.sceneArm t) s fun u => u.cue.scene.target = some (c, (s.reg CUE_SCN_ID).toNat) ∧ u.cue.scene.armed = true := by
  have row : exec (.sceneArm t) s = done ((s.at t).updScene fun _ =>
      { SceneState.init with target := some (c, (s.reg CUE_SCN_ID).toNat), armed := true }) := by
    refine congrArg done ?_
    have late : ¬ diff32 c (s.at t).present < 64 := not_lt.2 ahead
    unfold sceneArm
    simp only [at_reg, named, show (s.at t).prompting = true from prompts, show (s.at t).cue.scene.target = none from free,
      show (s.at t).host.intm = .running from runs, late]
    rfl
  exact completes_done row ⟨by rw [settle_cue]; rfl, by rw [settle_cue]; rfl⟩

theorem completes_sceneArm_late (named : s.reg CUE_SCN_CYC_H ++ s.reg CUE_SCN_CYC_L = c) (free : s.cue.scene.target = none)
    (near : diff32 c s.present < 64) : Completes (.sceneArm t) s fun u => u.cue.scene.target = none := by
  have row : exec (.sceneArm t) s = done (s.at t) := by
    refine congrArg done (if_pos ?_)
    simp only [at_reg, named, Bool.or_eq_true, decide_eq_true_eq]
    exact .inr near
  exact completes_done row (by rw [settle_cue]; exact free)

theorem completes_sceneCancel (target : s.cue.scene.target = some (c, id)) (prompts : s.prompting = true) (ahead : 16 < diff32 c s.present) :
    Completes (.sceneCancel t) s fun u => u.cue.scene.target = none ∧ u.cue.scene.armed = false := by
  have row : exec (.sceneCancel t) s = done ((s.at t).updScene fun _ => .init) := by
    refine congrArg done ?_
    unfold sceneCancel
    simp only [show (s.at t).cue.scene.target = some (c, id) from target, show (s.at t).prompting = true from prompts,
      show diff32 c (s.at t).present > 16 from ahead]
    rfl
  exact completes_done row ⟨by rw [settle_cue]; rfl, by rw [settle_cue]; rfl⟩

theorem completes_sceneCancel_veto (target : s.cue.scene.target = some (c, id)) (prompts : s.prompting = true)
    (least : 10 ≤ diff32 c s.present) (most : diff32 c s.present ≤ 16) : Completes (.sceneCancel t) s fun u =>
      u.cue.scene.cancelVeto = true ∧ u.cue.scene.vetoed = true ∧ u.cue.scene.target = some (c, id) := by
  have row : exec (.sceneCancel t) s = done ((s.at t).updScene fun x => { x with cancelVeto := true, vetoed := true }) := by
    refine congrArg done ?_
    have notAhead : ¬ diff32 c (s.at t).present > 16 := not_lt.2 most
    unfold sceneCancel
    simp only [show (s.at t).cue.scene.target = some (c, id) from target, show (s.at t).prompting = true from prompts, notAhead,
      show diff32 c (s.at t).present ≥ 10 from least]
    rfl
  exact completes_done row ⟨by rw [settle_cue]; rfl, by rw [settle_cue]; rfl, by rw [settle_cue]; exact target⟩

theorem completes_sceneNoticeSend (may : MayBroadcast s) (target : s.cue.scene.target = some (c, id)) (prompts : s.prompting = true)
    (armed : s.cue.scene.armed = true) (ahead : 17 ≤ diff32 c s.present) :
    Completes (.sceneNoticeSend t) s fun u => Broadcast s u 1 3 (cycleW c ++ [wd id]) := by
  have row : exec (.sceneNoticeSend t) s = done (broadcast (s.at t) 1 3 (cycleW c ++ [wd id])) := by
    refine congrArg done ?_
    unfold sceneNoticeSend
    simp only [show (s.at t).cue.scene.target = some (c, id) from target, show (s.at t).prompting = true from prompts,
      show (s.at t).cue.scene.armed = true from armed, show diff32 c (s.at t).present ≥ 17 from ahead]
    rfl
  exact completes_done row (broadcast_settle (s := s.at t) may (.inl (by decide)) (by decide) rfl
    (by rw [switchOnly_broadcast (s := s.at t) may (.inl (by decide)) (by decide)]))

theorem completes_vetoSend (may : MayBroadcast s) (target : s.cue.scene.target = some (c, id)) (least : 9 ≤ diff32 c s.present)
    (most : diff32 c s.present ≤ 16) (why : s.cue.scene.unconfirmed = true ∨ s.cue.scene.cancelVeto = true) :
    Completes (.vetoSend t) s fun u => Broadcast s u 0 4 (cycleW c ++ [wd id, putFld s.fab.node 11 0]) ∧
      u.cue.scene.vsent = true ∧ u.cue.scene.vetoed = true := by
  have row : exec (.vetoSend t) s = done ((broadcast (s.at t) 0 4 (cycleW c ++ [wd id, putFld s.fab.node 11 0])).updScene fun x =>
      { x with vsent := true, vetoed := true }) := by
    refine congrArg done ?_
    unfold vetoSend
    simp only [show (s.at t).cue.scene.target = some (c, id) from target, show (9 : Int) ≤ diff32 c (s.at t).present from least,
      show diff32 c (s.at t).present ≤ 16 from most,
      show ((s.at t).cue.scene.unconfirmed || (s.at t).cue.scene.cancelVeto) = true from Bool.or_eq_true_iff.2 why]
    rfl
  have sent := switchOnly_broadcast (s := s.at t) (cls := 0) (sub := 4) (payload := cycleW c ++ [wd id, putFld s.fab.node 11 0]) may
    (.inr (by simp [cycleW])) (by decide)
  refine completes_done row ⟨broadcast_settle (s := s.at t) may (.inr (by simp [cycleW])) (by decide) rfl ?_, ?_, ?_⟩
  · refine Eq.trans (b := (broadcast (s.at t) 0 4 (cycleW c ++ [wd id, putFld s.fab.node 11 0])).now) rfl ?_
    rw [sent]
  · rw [settle_cue]; rfl
  · rw [settle_cue]; rfl

theorem completes_sceneNotice {p : List Word} (bright : s.darkPath = false) : Completes (.sceneNotice p t) s fun u =>
    u.cue.scene.target = some (wCycle p 0, (wAt p 2).toNat) := by
  have row : exec (.sceneNotice p t) s = done (sceneNotice (s.at t) p) := congrArg done (delivered_of_bright (s := s.at t) bright _)
  refine completes_done row ?_
  rw [settle_cue]
  unfold sceneNotice
  extract_lets c x
  split
  · assumption
  · rfl

theorem completes_veto {p : List Word} (bright : s.darkPath = false) (target : s.cue.scene.target = some (wCycle p 0, (wAt p 2).toNat))
    (ahead : 1 < diff32 (wCycle p 0) s.present) : Completes (.veto p t) s fun u =>
      u.cue.scene.vetoed = true ∧ u.cue.scene.target = s.cue.scene.target := by
  have row : exec (.veto p t) s = done ((s.at t).updScene fun x => { x with vetoed := true }) := by
    refine congrArg done ((delivered_of_bright (s := s.at t) bright _).trans ?_)
    unfold vetoReceive
    rw [show (s.at t).cue.scene.target = some (wCycle p 0, (wAt p 2).toNat) from target]
    exact if_pos ⟨rfl, rfl, ahead⟩
  exact completes_done row ⟨by rw [settle_cue]; rfl, by rw [settle_cue]; rfl⟩

end

/-- Settles O15: what each command of a scene change writes of the scene's state, and the notices it sends. -/
theorem sceneChanges : Obligations.SceneChanges := by
  unfold Obligations.SceneChanges
  intro c id t s
  refine ⟨fun named prompts free runs => ⟨?arm, ?late⟩, fun target prompts => ⟨?cancel, ?veto⟩, fun may target => ⟨?notice, ?sent⟩,
    fun p bright => ⟨?heard, ?vetoed⟩⟩
  case arm => exact completes_sceneArm named prompts free runs
  case late => exact completes_sceneArm_late named free
  case cancel => exact completes_sceneCancel target prompts
  case veto => exact completes_sceneCancel_veto target prompts
  case notice => exact completes_sceneNoticeSend may target
  case sent => exact completes_vetoSend may target
  case heard => exact completes_sceneNotice bright
  case vetoed => exact completes_veto bright

end Sys2Proof.Machine
end

section
set_option Elab.async false
/-! SUPPORT. What the bridge and the switch work on when a request or a notice is issued, ends or is retired (R202-R230, R145-R168). -/

namespace Sys2Proof.Machine

/-- All as before but for the switch, the bridge, the host unit, the debug unit, the clusters, the barrier, reports and registers. -/
def HubOnly (s u : State) : Prop :=
  u = { s with marks := u.marks, regs := u.regs, bar := u.bar, sw := u.sw, brg := u.brg, clusters := u.clusters, flts := u.flts
               backlog := u.backlog, host := u.host, dbg := u.dbg, traces := u.traces }

theorem HubOnly.refl (s : State) : HubOnly s s := rfl
theorem HubOnly.trans {s t u : State} (h : HubOnly s t) (g : HubOnly t u) : HubOnly s u := by
  unfold HubOnly at *
  rw [g, h]

theorem SwitchOnly.hubOnly {s u : State} (h : SwitchOnly s u) : HubOnly s u := by
  unfold SwitchOnly at h
  unfold HubOnly
  rw [h]

theorem hubOnly_updBrg (s : State) (f : BridgeState → BridgeState) : HubOnly s (s.updBrg f) := rfl
theorem hubOnly_updSw (s : State) (f : SwitchState → SwitchState) : HubOnly s (s.updSw f) := rfl
theorem hubOnly_updHost (s : State) (f : HostState → HostState) : HubOnly s (s.updHost f) := rfl
theorem hubOnly_evt (s : State) (a i : Nat) : HubOnly s (s.evt a i) := rfl
theorem hubOnly_bump (s : State) (a : Nat) : HubOnly s (s.bump a) := rfl
theorem hubOnly_raise (s : State) (a d : Nat) : HubOnly s (s.raise a d) := by
  unfold State.raise
  split
  · split <;> rfl
  · rfl
theorem hubOnly_each {α : Type} {f : State → α → State} (h : ∀ s x, HubOnly s (f s x)) : ∀ (l : List α) (s : State), HubOnly s (s.each l f)
  | [], s => .refl s
  | x :: l, s => (h s x).trans (hubOnly_each h l (f s x))

/-- Counted, shown and reported. -/
theorem hubOnly_reported (s : State) (a b i src d : Nat) : HubOnly s (((s.bump a).evt b i).raise src d) :=
  ((hubOnly_bump s a).trans (hubOnly_evt _ b i)).trans (hubOnly_raise _ _ _)

/-- Counted and reported. -/
theorem hubOnly_counted (s : State) (a src d : Nat) : HubOnly s ((s.bump a).raise src d) := (hubOnly_bump s a).trans (hubOnly_raise _ _ _)

/-! The end of requests. -/

theorem hubOnly_giveCompletion (s : State) (via : ReqVia) (c : Completion) : HubOnly s (giveCompletion s via c) := by
  unfold giveCompletion
  cases via with
  | conduit n q => dsimp only; split <;> rfl
  | envelope key i => rfl
  | dap => dsimp only; split <;> rfl
  | plain => dsimp only; split <;> rfl

theorem hubOnly_openEnd (s : State) (o : OpenReq) (status : Nat) (data : List Word) : HubOnly s (openEnd s o status data) :=
  (hubOnly_updBrg s _).trans (hubOnly_giveCompletion _ _ _)

theorem hubOnly_postedGone (s : State) (ep : Nat) (dest : Word) : HubOnly s (postedGone s ep dest) := by
  unfold postedGone
  split <;> rfl

theorem hubOnly_answerAdd (s : State) (o : OpenReq) (node status : Nat) : HubOnly s (answerAdd s o node status) := by
  unfold answerAdd
  extract_lets o1 s1
  split
  · exact (hubOnly_updBrg s _).trans (hubOnly_openEnd s1 _ _ _)
  · exact hubOnly_updBrg s _

theorem hubOnly_answerTo (s : State) (ep tag seq node status : Nat) (data : List Word) : HubOnly s (answerTo s ep tag seq node status data) := by
  unfold answerTo
  split
  · exact hubOnly_reported _ _ _ _ _ _
  · split
    · exact hubOnly_answerAdd _ _ _ _
    · exact hubOnly_openEnd _ _ _ _

theorem hubOnly_requestRetired (s : State) (o : Origin) (dest : Word) (status : Nat) : HubOnly s (requestRetired s o dest status) := by
  unfold requestRetired
  extract_lets op
  split
  · exact .refl s
  · split
    · exact (hubOnly_postedGone s _ _).trans (hubOnly_reported _ _ _ _ _ _)
    · split
      · exact .refl s
      · split
        · exact hubOnly_answerAdd _ _ _ _
        · exact hubOnly_openEnd _ _ _ _

/-! Frames in the switch. -/

/-- What a retirement counts and reports. -/
def retireCounted (s : State) (e : QEntry) (why : Retire) (port : Nat) : State := retire s { e with origin := none } why port

theorem hubOnly_retireCounted (s : State) (e : QEntry) (why : Retire) (port : Nat) : HubOnly s (retireCounted s e why port) := by
  cases why
  case noDest => exact hubOnly_counted s SWQ_NODEST Src.retNoDest port
  case aged => exact hubOnly_reported s SWQ_AGED SWQ_EVT 10 Src.retAged port
  case portDown => exact hubOnly_counted s SWQ_PDOWN Src.retPortDown port
  case refused => exact hubOnly_reported s SWQ_REFUSED SWQ_EVT 12 Src.retRefused port
  case ecc => exact .refl s
  case size => exact hubOnly_counted s SWQ_BADHDR Src.badHeader port
  case noRoute => exact hubOnly_reported s FAB_NOROUTE FAB_EVT 6 Src.noRoute e.frame.dring

theorem retire_eq (s : State) (e : QEntry) (why : Retire) (port : Nat) : retire s e why port = match e.origin with
    | none => retireCounted s e why port
    | some o => requestRetired (retireCounted s e why port) o e.frame.w1 why.status := rfl

theorem hubOnly_retire (s : State) (e : QEntry) (why : Retire) (port : Nat) : HubOnly s (retire s e why port) := by
  rw [retire_eq]
  split
  · exact hubOnly_retireCounted _ _ _ _
  · exact (hubOnly_retireCounted _ _ _ _).trans (hubOnly_requestRetired _ _ _ _)

theorem hubOnly_submit (s : State) (p : Fin 20) (e : QEntry) : HubOnly s (submit s p e) := by
  unfold submit
  split
  · exact hubOnly_retire _ _ _ _
  · split
    · exact hubOnly_retire _ _ _ _
    · exact (switchOnly_enqueue _ _ _ _).hubOnly

theorem switchOnly_pinFlow (s : State) (ep cls : Nat) (dest : Word) : SwitchOnly s (pinFlow s ep cls dest).2 := by
  unfold pinFlow
  split <;> rfl

theorem hubOnly_sendFrame (s : State) (input ep : Nat) (f : Frame) (o : Option Origin) (joints : Nat) :
    HubOnly s (sendFrame s input ep f o joints) := by
  unfold sendFrame
  extract_lets e
  split
  · exact (hubOnly_submit _ _ _).trans (hubOnly_submit _ _ _)
  · split
    · exact hubOnly_retire _ _ _ _
    · split
      · exact hubOnly_submit _ _ _
      · exact (switchOnly_pinFlow s ep f.cls f.w1).hubOnly.trans (hubOnly_submit _ _ _)

theorem hubOnly_noticeOn (s : State) (r : Ring) (f : Frame) : HubOnly s (noticeOn s r f) := by
  unfold noticeOn
  split
  · exact .refl s
  · exact hubOnly_submit _ _ _

theorem hubOnly_broadcast (s : State) (cls sub : Nat) (payload : List Word) : HubOnly s (broadcast s cls sub payload) :=
  (hubOnly_noticeOn s .a _).trans (hubOnly_noticeOn _ .b _)

/-! The issue of requests. -/

theorem hubOnly_dupAdd (s : State) (d : DupEntry) : HubOnly s (dupAdd s d) := by
  unfold dupAdd
  split
  · rfl
  · exact (hubOnly_updBrg s _).trans (hubOnly_reported _ _ _ _ _ _)

theorem hubOnly_receiveOwn (s : State) (w : Waiting) : HubOnly s (receiveRequest replyOwn s w) := by
  unfold receiveRequest
  extract_lets q
  split
  · unfold duplicateOf
    extract_lets s1
    have counted : HubOnly s s1 := (hubOnly_bump s _).trans (hubOnly_raise _ _ _)
    split
    · split
      · exact counted.trans (hubOnly_answerTo _ _ _ _ _ _ _)
      · exact counted
    · exact counted
  · exact (hubOnly_dupAdd s _).trans (hubOnly_updBrg _ _)

theorem hubOnly_postedAdd (s : State) (ep : Nat) (f : Frame) : HubOnly s (postedAdd s ep f) := by
  unfold postedAdd
  extract_lets copies
  split <;> rfl

theorem hubOnly_sendRequest (s : State) (d : Descriptor) (node tag seq : Nat) : HubOnly s (sendRequest s d node tag seq) := by
  unfold sendRequest
  extract_lets f dest o s1 last
  have posted : HubOnly s s1 := by
    unfold s1
    split
    · exact hubOnly_postedAdd _ _ _
    · exact .refl s
  clear_value last
  split
  · exact hubOnly_receiveOwn _ _
  · split
    · split
      · split
        · exact posted.trans (hubOnly_submit _ _ _)
        · exact posted.trans (hubOnly_sendFrame _ _ _ _ _ _)
      · exact posted.trans (hubOnly_sendFrame _ _ _ _ _ _)
    · exact posted.trans (hubOnly_sendFrame _ _ _ _ _ _)

theorem hubOnly_sendFrames (s : State) (d : Descriptor) (tag seq : Nat) : HubOnly s (sendFrames s d tag seq) := by
  unfold sendFrames
  split
  · exact hubOnly_each (fun x n => hubOnly_sendRequest x d n tag seq) _ s
  · extract_lets s1
    split
    · exact (hubOnly_sendRequest _ _ _ _ _).trans (hubOnly_receiveOwn _ _)
    · exact hubOnly_sendRequest _ _ _ _ _
  · exact hubOnly_sendRequest _ _ _ _ _

theorem hubOnly_issueNow (s : State) (i : Fin 32) (d : Descriptor) (via : ReqVia) : HubOnly s (issueNow s i d via) := by
  unfold issueNow
  have taken : HubOnly s (takeSeq s i).2 := rfl
  split
  rename_i seq s1 eq
  have taken : HubOnly s s1 := by rw [show s1 = (takeSeq s i).2 by rw [eq]]; exact taken
  split
  · exact taken.trans (hubOnly_sendFrames _ _ _ _)
  · split
    · exact .refl s
    · exact (taken.trans (hubOnly_updBrg _ _)).trans (hubOnly_sendFrames _ _ _ _)

theorem hubOnly_setFails (s : State) (d : Descriptor) (st : Nat) : HubOnly s (setFails s d st) := by
  unfold setFails
  split <;> rfl

theorem hubOnly_localStatus (s : State) (d : Descriptor) (via : ReqVia) (st : Nat) : HubOnly s (localStatus s d via st) := by
  unfold localStatus
  extract_lets s1 seq
  have counted : HubOnly s s1 := by
    unfold s1
    split
    · exact hubOnly_reported _ _ _ _ _ _
    · exact .refl s
  split
  · exact counted
  · exact counted.trans (hubOnly_giveCompletion _ _ _)

theorem hubOnly_holdBack (s : State) (i : Fin 32) (d : Descriptor) (via : ReqVia) : HubOnly s (holdBack s i d via) := by
  unfold holdBack
  extract_lets s1
  split <;> rfl

theorem hubOnly_issue (s : State) (d : Descriptor) (via : ReqVia) : HubOnly s (issue s d via) := by
  unfold issue
  split
  · exact .refl s
  · split
    · exact (hubOnly_setFails _ _ _).trans (hubOnly_localStatus _ _ _ _)
    · extract_lets x
      have grown : HubOnly s x := by
        unfold x
        split <;> rfl
      split
      · exact grown.trans (hubOnly_updBrg _ _)
      · split
        · exact grown.trans (hubOnly_holdBack _ _ _ _)
        · split
          · exact grown.trans (hubOnly_updBrg _ _)
          · exact grown.trans (hubOnly_issueNow _ _ _ _)

/-! Notices and traces of the modes of intermission (R485-R488). -/

theorem hubOnly_trace (s : State) (i : Fin 14) (k r d : Nat) : HubOnly s (s.trace i k r d) := by
  obtain ⟨b, h | h | h⟩ := trace_cases s i k r d
  · rw [h]; rfl
  · rw [h]; rfl
  · rw [h]
    have lost : HubOnly s ((({ s with traces := b } : State).bump DBG_TRC_LOST).evt DBG_EVT 12) := rfl
    exact lost.trans (hubOnly_raise _ _ _)

theorem hubOnly_traceAll (s : State) (kind : Nat) : HubOnly s (s.traceAll kind) := hubOnly_each (fun x i => hubOnly_trace x i kind 0 0) _ s

theorem hubOnly_wakeSignal (s : State) (reason : Nat) : HubOnly s (wakeSignal s reason) := by
  unfold wakeSignal
  exact hubOnly_issue s _ .plain

theorem hubOnly_intmLeave (s : State) : HubOnly s (intmLeave s) :=
  (hubOnly_updHost s _).trans ((hubOnly_each hubOnly_wakeSignal _ _).trans (hubOnly_traceAll _ _))

theorem hubOnly_intmMarker (s : State) (intm : Bool) : HubOnly s (intmMarker s intm) := by
  unfold intmMarker
  split
  · exact hubOnly_intmLeave s
  · split
    · exact hubOnly_updHost s _
    · exact .refl s
  · exact hubOnly_updHost s _
  · exact hubOnly_updHost s _
  · exact .refl s

end Sys2Proof.Machine
end

section
set_option Elab.async false
/-! SUPPORT. The roles of a node on its rings: line heads, prompters and wing claims (R86-R98), with what a sheet that comes into force and
a marker that leaves change, and the obligation about these roles. -/

namespace Sys2Proof.Machine

/-! What a sheet that comes into force leaves of the cycle (R101, R388). -/

/-- The cycle and its marks, the node's own prompter and ring time are as before. -/
structure SameCycle (s u : State) : Prop where
  cycle : u.cue.cycle = s.cue.cycle
  flags : u.cue.flags = s.cue.flags
  track : u.cue.track = s.cue.track
  prompter : u.cue.prompter = s.cue.prompter
  time : u.time = s.time
  now : u.now = s.now

theorem SameCycle.refl (s : State) : SameCycle s s := ⟨rfl, rfl, rfl, rfl, rfl, rfl⟩
theorem SameCycle.trans {s t u : State} (h : SameCycle s t) (g : SameCycle t u) : SameCycle s u :=
  ⟨g.cycle.trans h.cycle, g.flags.trans h.flags, g.track.trans h.track, g.prompter.trans h.prompter, g.time.trans h.time,
    g.now.trans h.now⟩

theorem SameCycle.of_cue {s u : State} (cue : u.cue = s.cue) (time : u.time = s.time) (now : u.now = s.now) : SameCycle s u :=
  ⟨by rw [cue], by rw [cue], by rw [cue], by rw [cue], time, now⟩

theorem HubOnly.sameCycle {s u : State} (h : HubOnly s u) : SameCycle s u := .of_cue (by rw [h]) (by rw [h]) (by rw [h])

theorem sameCycle_each {α : Type} {f : State → α → State} (h : ∀ s x, SameCycle s (f s x)) :
    ∀ (l : List α) (s : State), SameCycle s (s.each l f)
  | [], s => .refl s
  | x :: l, s => (h s x).trans (sameCycle_each h l (f s x))

theorem sameCycle_updLine (s : State) (r : Ring) (f : LineHead → LineHead) : SameCycle s (s.updLine r f) := ⟨rfl, rfl, rfl, rfl, rfl, rfl⟩

theorem sameCycle_headBegin (s : State) (r : Ring) : SameCycle s (headBegin s r) := by
  unfold headBegin
  extract_lets s1
  have begun : SameCycle s s1 := sameCycle_updLine s r _
  split
  · exact begun.trans ((hubOnly_evt s1 _ _).trans (hubOnly_raise _ _ _)).sameCycle
  · exact begun

theorem sameCycle_lineRole (s : State) (r : Ring) : SameCycle s (lineRole s r) := by
  unfold lineRole
  extract_lets l s1
  have ends : SameCycle s s1 := sameCycle_updLine s r _
  split
  · split
    · exact ends.trans (sameCycle_updLine _ _ _)
    · exact ends.trans (sameCycle_headBegin _ _)
  · split
    · exact ends.trans (sameCycle_updLine _ _ _)
    · exact ends

theorem damp_links (s : State) (p : Port) : SameCycle s (damp s p) := by
  unfold damp
  split
  · exact .refl s
  · extract_lets n recent s1 l len
    split <;> exact ⟨rfl, rfl, rfl, rfl, rfl, rfl⟩

theorem sameCycle_portDown (s : State) (p : Port) : SameCycle s (portDown s p) := by
  unfold portDown
  extract_lets l s1 s2
  have down : SameCycle s s1 := ⟨rfl, rfl, rfl, rfl, rfl, rfl⟩
  split
  · exact down
  · have told : SameCycle s1 s2 :=
      (((hubOnly_bump s1 _).trans (hubOnly_evt _ _ _)).trans (hubOnly_raise _ _ _)).sameCycle
    have cut : SameCycle s2 (cutStream s2 p.inRing) := ⟨rfl, rfl, rfl, rfl, rfl, rfl⟩
    have roles : SameCycle (damp (cutStream s2 p.inRing) p) (lineRoles (damp (cutStream s2 p.inRing) p)) :=
      (sameCycle_lineRole _ .a).trans (sameCycle_lineRole _ .b)
    have broken : SameCycle (lineRoles (damp (cutStream s2 p.inRing) p)) (wingBreak (lineRoles (damp (cutStream s2 p.inRing) p))) :=
      ⟨rfl, rfl, rfl, rfl, rfl, rfl⟩
    exact (((down.trans told).trans cut).trans (damp_links _ p)).trans (roles.trans broken)

theorem sameCycle_portEnables (old : Word) (s : State) : SameCycle s (portEnables old s) := by
  have one (x : State) (p : Port) (i : Nat) : SameCycle x (if bitOf old i && !x.bit LNK_CTRL i then portDown x p else x) := by
    split
    · exact sameCycle_portDown x p
    · exact .refl x
  exact (one s .west 15).trans (one _ .east 14)

theorem sameCycle_restoreReg (items : List RegItem) (s : State) (k : Nat × Nat) : SameCycle s (restoreReg items s k) := by
  unfold restoreReg
  extract_lets base old other
  split
  · split <;> exact ⟨rfl, rfl, rfl, rfl, rfl, rfl⟩
  · exact ⟨rfl, rfl, rfl, rfl, rfl, rfl⟩

theorem sameCycle_restoreRegs (s : State) (items : List RegItem) (field : Bool) : SameCycle s (restoreRegs s items field) :=
  sameCycle_each (sameCycle_restoreReg items) _ s

theorem sameCycle_updSw (s : State) (f : SwitchState → SwitchState) : SameCycle s (s.updSw f) := ⟨rfl, rfl, rfl, rfl, rfl, rfl⟩

theorem sameCycle_quotaWritten (s : State) (i : Fin 20) : SameCycle s (quotaWritten s i) := by
  unfold quotaWritten
  split
  · exact (sameCycle_updSw s _).trans (hubOnly_evt _ _ _).sameCycle
  · exact sameCycle_updSw s _

theorem sameCycle_hubSections (s : State) (c : Stagebook) : SameCycle s (hubSections s c) := by
  unfold hubSections
  extract_lets links s1 s2 start fab cmp s3
  have restored : SameCycle s s1 := (sameCycle_restoreRegs s c.regs false).trans (sameCycle_portEnables links _)
  have quotas : SameCycle s1 s2 := sameCycle_each (fun x i => sameCycle_quotaWritten x i) _ s1
  clear_value s2
  have tables : SameCycle s2 (s3.updStore fun x => { x with items := hubItems c.regs ++ fieldItems x.items }) := ⟨rfl, rfl, rfl, rfl, rfl, rfl⟩
  exact (restored.trans quotas).trans tables

theorem onlyBar_sendChunks (s : State) (c : Stagebook) (slot staged : Bool) : OnlyBar s (sendChunks s c slot staged) := by
  refine onlyBar_each (fun x tag => ?_) _ s
  unfold sendSection
  extract_lets ws
  exact onlyBar_each (fun y b => onlyBar_barReady y _ _ _) _ x

theorem OnlyBar.sameCycle {s u : State} (h : OnlyBar s u) : SameCycle s u := .of_cue (by rw [h]) (by rw [h]) (by rw [h])

theorem sameCycle_sheetInForce (s : State) : SameCycle s (sheetInForce s) := by
  unfold sheetInForce
  split
  · exact .refl s
  · split
    · exact .refl s
    · rename_i b _ _ c _
      extract_lets s1 s2
      have promoted : SameCycle s s1 := ⟨rfl, rfl, rfl, rfl, rfl, rfl⟩
      have applied : SameCycle s1 s2 := sameCycle_hubSections s1 c
      clear_value s2
      have sent : SameCycle s2 (sendChunks s2 c b false) := (onlyBar_sendChunks s2 c b false).sameCycle
      have closed (x : State) : SameCycle x (x.updStore fun y => { y with sheetSlot := none }) := ⟨rfl, rfl, rfl, rfl, rfl, rfl⟩
      exact ((promoted.trans applied).trans sent).trans (closed _)

theorem sameCycle_applyBank (s0 : State) (k : DWord) (b : Bool) : SameCycle s0 (applyBank s0 k b) := by
  have reported (x : State) (i src : Nat) : SameCycle x ((x.evt CUE_EVT i).raise src 0) :=
    ((hubOnly_evt x _ _).trans (hubOnly_raise _ _ _)).sameCycle
  unfold applyBank
  extract_lets s due own s1 fresh s2 noted sheeted
  have first : SameCycle s0 s := by
    unfold s firstBank
    split <;> exact ⟨rfl, rfl, rfl, rfl, rfl, rfl⟩
  have vetoed : SameCycle s s1 := by
    unfold s1
    split
    · exact reported _ _ _
    · exact .refl s
  have cleared : SameCycle s1 s2 := by
    unfold s2
    split <;> exact ⟨rfl, rfl, rfl, rfl, rfl, rfl⟩
  have upTo : SameCycle s0 s2 := (first.trans vetoed).trans cleared
  clear_value s2 s
  split
  · have noSheet : SameCycle s2 noted := ⟨rfl, rfl, rfl, rfl, rfl, rfl⟩
    split
    · exact upTo.trans noSheet
    · exact (upTo.trans noSheet).trans (reported _ _ _)
  · rename_i new _
    extract_lets s4
    have sheet : SameCycle s2 sheeted := ⟨rfl, rfl, rfl, rfl, rfl, rfl⟩
    have inForce : SameCycle sheeted s4 := by
      unfold s4
      split
      · exact .refl sheeted
      · have carried : SameCycle sheeted ((sheeted.updCue fun c => { carryOver new c with bank := b, sceneCycle := some k }).evt CUE_EVT 11) :=
          ⟨rfl, rfl, rfl, rfl, rfl, rfl⟩
        exact carried.trans (sameCycle_sheetInForce _)
    clear_value s4
    split
    · exact ((upTo.trans sheet).trans inForce).trans (reported _ _ _)
    · exact (upTo.trans sheet).trans inForce

/-! A marker that leaves (R71, R82, R85). -/

/-- The state in which a marker is about to leave on a ring. -/
def markerSet (s : State) (r : Ring) (k : DWord) (f : MarkerFlags) : State :=
  guardAtMarker (streamOut (s.updLine r fun l => { l with sentAt := s.now, sentCycle := k, sentFlags := f }) r) r

theorem markerOut_eq (s : State) (r : Ring) (k : DWord) (f : MarkerFlags) : markerOut s r k f = match inserter s with
    | none => sendWords (markerSet s r k f) r []
    | some c => if guardShut (markerSet s r k f) then guardBlock (sendWords (markerSet s r k f) r []) r rgMarker 0 c
      else sendWords (markerSet s r k f) r (markerWords k f) := rfl

section
variable {s : State} {r : Ring} {k : DWord} {f : MarkerFlags}

theorem sameCycle_markerSet : SameCycle s (markerSet s r k f) := ⟨rfl, rfl, rfl, rfl, rfl, rfl⟩
theorem links_markerSet : (markerSet s r k f).links = s.links := rfl

theorem guardShut_markerSet (shut : guardShut s = false) : guardShut (markerSet s r k f) = false := by
  unfold guardShut at shut
  rw [Bool.or_eq_false_iff] at shut
  obtain ⟨shut, dead⟩ := shut
  refine (congrArg₂ or (congrArg₂ and shut rfl) dead).trans ?_
  rfl

theorem guardShut_markerSet_dead (dead : s.cue.guard.dead = true) : guardShut (markerSet s r k f) = true := by
  refine (congrArg (or _) dead).trans ?_
  exact Bool.or_true _

theorem markerOut_open {c : Core} (ins : inserter s = some c) (shut : guardShut s = false) :
    markerOut s r k f = sendWords (markerSet s r k f) r (markerWords k f) := by
  rw [markerOut_eq, ins]
  exact if_neg fun h => Bool.noConfusion ((guardShut_markerSet shut).symm.trans h)

theorem markerOut_dead {c : Core} (ins : inserter s = some c) (dead : s.cue.guard.dead = true) :
    markerOut s r k f = guardBlock (sendWords (markerSet s r k f) r []) r rgMarker 0 c := by
  rw [markerOut_eq, ins]
  exact if_pos (guardShut_markerSet_dead dead)

theorem hubOnly_guardBlock (s : State) (r : Ring) (region pos : Nat) (c : Core) : HubOnly s (guardBlock s r region pos c) := by
  have counted : HubOnly s (if region = rgTimed then s.bump GRD_BLOCK else s.bump GRD_BLOCK_X) := by split <;> rfl
  have named (x : State) (v w : Word) : HubOnly x ((x.setReg GRD_LAST_POS v).setReg GRD_LAST_INFO w) := rfl
  exact (counted.trans (named _ _ _)).trans (hubOnly_raise _ _ _)

theorem sendWords_cue (s : State) (r : Ring) (ws : List RingWord) : (sendWords s r ws).cue = s.cue := rfl

theorem sameCycle_sendWords (s : State) (r : Ring) (ws : List RingWord) : SameCycle s (sendWords s r ws) := .of_cue rfl rfl rfl

theorem links_sendWords (s : State) (r : Ring) (ws : List RingWord) : (sendWords s r ws).links = s.links := rfl

theorem stream_sendWords_ne (s : State) {r q : Ring} (ws : List RingWord) (other : q ≠ r) : (sendWords s r ws).stream q = s.stream q :=
  (stream_updStream s r q _).trans (if_neg other)

theorem stream_markerSet_ne {q : Ring} (other : q ≠ r) : (markerSet s r k f).stream q = s.stream q :=
  (stream_updStream (s.updLine r fun l => { l with sentAt := s.now, sentCycle := k, sentFlags := f }) r q _).trans (if_neg other)

theorem inserter_sendWords (s : State) (r : Ring) (ws : List RingWord) : inserter (sendWords s r ws) = inserter s := rfl
theorem inserter_markerSet : inserter (markerSet s r k f) = inserter s := rfl

theorem guardShut_congr {s u : State} (h : u.cue = s.cue) : guardShut u = guardShut s := by unfold guardShut; rw [h]

theorem sameCycle_markerOut : SameCycle s (markerOut s r k f) := by
  have sent (ws : List RingWord) : SameCycle s (sendWords (markerSet s r k f) r ws) :=
    sameCycle_markerSet.trans (sameCycle_sendWords _ _ _)
  rw [markerOut_eq]
  split
  · exact sent _
  · split
    · exact (sent _).trans (hubOnly_guardBlock _ _ _ _ _).sameCycle
    · exact sent _

theorem Sends.of_links {s x u : State} {r : Ring} {ws : List RingWord} (h : Sends x u r ws) (links : x.links = s.links) : Sends s u r ws := by
  unfold Sends at *
  rw [h, link_congr links]

theorem Sends.of_streams {s x u : State} {r : Ring} {ws : List RingWord} (h : Sends s x r ws) (same : u.stream r = x.stream r) :
    Sends s u r ws := by
  unfold Sends at *
  rw [same, h]

theorem sends_markerOut {c : Core} (ins : inserter s = some c) (shut : guardShut s = false) :
    Sends s (markerOut s r k f) r (markerWords k f) := by
  rw [markerOut_open ins shut]
  exact (sends_sendWords (markerSet s r k f) r _).of_links links_markerSet

/-- A marker of both rings leaves on both. -/
theorem sends_markerOut_both {c : Core} (ins : inserter s = some c) (shut : guardShut s = false) (x : Ring) :
    Sends s (markerOut (markerOut s .a k f) .b k f) x (markerWords k f) := by
  have first : markerOut s .a k f = sendWords (markerSet s .a k f) .a (markerWords k f) := markerOut_open ins shut
  have insB : inserter (sendWords (markerSet s .a k f) .a (markerWords k f)) = some c :=
    (inserter_sendWords _ _ _).trans (inserter_markerSet.trans ins)
  have shutB : guardShut (sendWords (markerSet s .a k f) .a (markerWords k f)) = false := by
    rw [guardShut_congr (sendWords_cue _ _ _)]
    exact guardShut_markerSet shut
  cases x with
  | a =>
    refine Sends.of_streams (sends_markerOut (r := .a) ins shut) ?_
    rw [first, markerOut_open insB shutB, stream_sendWords_ne _ _ (by decide), stream_markerSet_ne (by decide)]
  | b =>
    rw [first]
    exact (sends_markerOut (r := .b) insB shutB).of_links ((links_sendWords _ _ _).trans links_markerSet)

end

/-! A cycle boundary and the prompter's start (R76, R90, R92). -/

theorem onlyBar_timeSyncReady (s : State) : OnlyBar s (timeSyncReady s) := rfl

theorem timeSyncReady_regs (s : State) : (timeSyncReady s).regs = s.regs := rfl

theorem firstBank_keeps (s : State) (b : Bool) : SameCycle s (firstBank s b) ∧ inserter (firstBank s b) = inserter s ∧
    guardShut (firstBank s b) = guardShut s ∧ (firstBank s b).links = s.links := by
  unfold firstBank
  split <;> exact ⟨⟨rfl, rfl, rfl, rfl, rfl, rfl⟩, rfl, rfl, rfl⟩

theorem advanceS_dom (s : State) (k : DWord) (counted : Int) : (advanceS s k counted).time.dom = s.time.dom ∧ (advanceS s k counted).cue = s.cue := by
  unfold advanceS
  extract_lets n s1
  split
  · exact ⟨rfl, rfl⟩
  · split
    · exact ⟨rfl, rfl⟩
    · split <;> exact ⟨rfl, rfl⟩

theorem sceneConfirm_keeps (s : State) (old : DWord) : SameCycle s (sceneConfirm s old) := by
  unfold sceneConfirm
  split
  · exact .refl s
  · split <;> exact ⟨rfl, rfl, rfl, rfl, rfl, rfl⟩

theorem boundary_keeps (s : State) (k : DWord) (counted : Int) : (boundary s k counted).time.dom = s.time.dom ∧
    (boundary s k counted).cue.prompter = s.cue.prompter ∧ (boundary s k counted).cue.track = s.cue.track := by
  obtain ⟨dom, cue⟩ := advanceS_dom s k counted
  unfold boundary
  extract_lets whole
  have ended (x : State) (cue : x.cue = s.cue) (g : CueState → CueState) (prompter : (g s.cue).prompter = s.cue.prompter)
      (track : (g s.cue).track = s.cue.track) :
      (x.updCue g).cue.prompter = s.cue.prompter ∧ (x.updCue g).cue.track = s.cue.track := by
    refine ⟨?_, ?_⟩
    · rw [State.updCue, cue, prompter]
    · rw [State.updCue, cue, track]
  have confirmed := sceneConfirm_keeps ((advanceS s k counted).updCue fun c =>
    { c with calm := if whole then min 16 (c.calm + 1) else 0, wing := { c.wing with backoff := c.wing.backoff - 1 } }) s.present
  obtain ⟨prompter, track⟩ := ended (advanceS s k counted) cue (fun c =>
    { c with calm := if whole then min 16 (c.calm + 1) else 0, wing := { c.wing with backoff := c.wing.backoff - 1 } }) rfl rfl
  exact ⟨(congrArg TimeState.dom confirmed.time).trans dom, confirmed.prompter.trans prompter, confirmed.track.trans track⟩

theorem domainSwitch_keeps (s : State) (dom : Bool) : (domainSwitch s dom).time.dom = dom ∧ (domainSwitch s dom).cue = s.cue := by
  unfold domainSwitch
  split
  · exact ⟨by assumption |> Eq.symm, rfl⟩
  · extract_lets d s1 s2
    have kept : (if s.time.ofsValid then s2 else s2.raise Src.domainStale 0).time = s1.time ∧
        (if s.time.ofsValid then s2 else s2.raise Src.domainStale 0).cue = s.cue := by
      split
      · exact ⟨rfl, rfl⟩
      · exact ⟨by rw [hubOnly_raise s2 Src.domainStale 0]; rfl, by rw [hubOnly_raise s2 Src.domainStale 0]; rfl⟩
    refine ⟨?_, kept.2⟩
    exact (congrArg TimeState.dom kept.1)

/-- A prompter becomes active and takes a time as its ring time (R90). -/
def prompterSet (s : State) (time : Int) : State :=
  let s1 := s.updPrompter fun p =>
    { p with listening := false, heard := false, active := true, slews := 0, yield_ := false, request := none }
  let s2 := s1.updTime fun t =>
    { t with ofs := time - s.now, dom := namedB s, s := time, sCycle := 0, sValid := true
             counts := [(0, 0)], locked := true, everLocked := true, hold := false, missRun := 0
             instDone := Vector.replicate 3 none, passed := none, ownZero := some ((s.now : Int) - time) }
  (s2.updRingT .a fun x => { x with nominal := 0 }).updRingT .b fun x => { x with nominal := 0 }

/-- Its cycle 0 begins (R90). -/
def prompterOpened (s : State) (b : Bool) : State :=
  prompterPlace (storeBegin ((s.updCue fun c =>
    { c with cycle := 0, flags := ⟨b, false, false, false, false, 0⟩, bank := false, phase := 0, relays := [] }).updFab fun x =>
    { x with rollDue := [16] }))

theorem prompterStart_eq (s : State) (time : Int) : prompterStart s time =
    timeSyncReady (markerOut (markerOut (prompterOpened (firstBank (prompterSet s time) false) (namedB s)) .a 0
      ⟨namedB s, false, false, false, false, 0⟩) .b 0 ⟨namedB s, false, false, false, false, 0⟩) := rfl

theorem prompterPlace_eq (s : State) : prompterPlace s = { s with fab := (prompterPlace s).fab } := rfl
theorem storeBegin_eq (s : State) : storeBegin s = { s with streams := (storeBegin s).streams } := rfl

theorem prompterOpened_keeps (s : State) (b : Bool) : (prompterOpened s b).prompting = s.prompting ∧ (prompterOpened s b).time = s.time ∧
    (prompterOpened s b).now = s.now ∧ (prompterOpened s b).cue.cycle = 0 ∧ inserter (prompterOpened s b) = inserter s ∧
    guardShut (prompterOpened s b) = guardShut s ∧ (prompterOpened s b).links = s.links := by
  unfold prompterOpened
  rw [prompterPlace_eq, storeBegin_eq]
  exact ⟨rfl, rfl, rfl, rfl, rfl, rfl, rfl⟩

/-- A prompter that starts is at cycle 0 at the time it was given, and its first marker leaves on both rings. -/
theorem prompterStart_done (s : State) (time : Int) : (prompterStart s time).prompting = true ∧ (prompterStart s time).time.sCycle = 0 ∧
    (prompterStart s time).ring = time ∧ (prompterStart s time).cue.cycle = 0 ∧
    ((inserter s).isSome = true → guardShut s = false → ∀ x : Ring,
      Sends s (prompterStart s time) x (markerWords 0 ⟨namedB s, false, false, false, false, 0⟩)) := by
  obtain ⟨same, ins, shut, links⟩ := firstBank_keeps (prompterSet s time) false
  obtain ⟨active', time', now', cycle', ins', shut', links'⟩ := prompterOpened_keeps (firstBank (prompterSet s time) false) (namedB s)
  rw [prompterStart_eq]
  generalize prompterOpened (firstBank (prompterSet s time) false) (namedB s) = x at *
  have first : SameCycle x (markerOut x .a 0 ⟨namedB s, false, false, false, false, 0⟩) := sameCycle_markerOut
  have second := first.trans (sameCycle_markerOut (r := .b) (k := 0) (f := ⟨namedB s, false, false, false, false, 0⟩))
  have both : (inserter s).isSome = true → guardShut s = false → ∀ y : Ring, Sends s
      (markerOut (markerOut x .a 0 ⟨namedB s, false, false, false, false, 0⟩) .b 0 ⟨namedB s, false, false, false, false, 0⟩) y
      (markerWords 0 ⟨namedB s, false, false, false, false, 0⟩) := fun some_ open_ y => by
    obtain ⟨c, some_⟩ := Option.isSome_iff_exists.1 some_
    exact (sends_markerOut_both ((ins'.trans ins).trans some_) ((shut'.trans shut).trans open_) y).of_links (links'.trans links)
  generalize markerOut (markerOut x .a 0 ⟨namedB s, false, false, false, false, 0⟩) .b 0 ⟨namedB s, false, false, false, false, 0⟩ = y at *
  have sentTime : y.time = (prompterSet s time).time := (second.time.trans time').trans same.time
  refine ⟨?_, ?_, ?_, second.cycle.trans cycle', fun some_ open_ r => (both some_ open_ r).of_streams rfl⟩
  · refine (congrArg PrompterState.active second.prompter).trans (active'.trans ?_)
    exact congrArg PrompterState.active same.prompter
  · exact congrArg TimeState.sCycle sentTime
  · have ofs : y.time.ofs = time - s.now := congrArg TimeState.ofs sentTime
    have now : y.now = s.now := (second.now.trans now').trans same.now
    change (y.now : Int) + y.time.ofs = time
    omega

/-- A standby prompter that becomes active is at the cycle of its first marker, in its own domain (R92, R94). -/
theorem promptFrom_keeps (s : State) (k : DWord) (slews : Nat) : (promptFrom s k slews).prompting = true ∧
    (promptFrom s k slews).cue.cycle = k ∧ (promptFrom s k slews).time.dom = ownDom s := by
  unfold promptFrom
  extract_lets pa pb s1 s2 s3 s4 s5 f s6 s7
  obtain ⟨dom3, cue3⟩ := domainSwitch_keeps s2 (ownDom s)
  obtain ⟨dom4, prompter4, -⟩ := boundary_keeps s3 k (lenTicks s s.present s.cue.flags.intm)
  have active2 : s2.cue.prompter.active = true := rfl
  have active4 : s4.cue.prompter.active = true := by
    refine (congrArg PrompterState.active prompter4).trans ?_
    exact (congrArg (fun c : CueState => c.prompter.active) cue3).trans active2
  have dom4 : s4.time.dom = ownDom s := dom4.trans dom3
  have active6 : s6.cue.prompter.active = true := active4
  have dom6 : s6.time.dom = ownDom s := dom4
  have cycle6 : s6.cue.cycle = k := rfl
  have same : SameCycle s6 s7 := (sameCycle_applyBank s6 k f.bank).trans (hubOnly_intmMarker _ _).sameCycle
  clear_value s7 s6
  rw [prompterPlace_eq, storeBegin_eq]
  refine ⟨?_, same.cycle.trans cycle6, ?_⟩
  · exact (congrArg PrompterState.active same.prompter).trans active6
  · exact (congrArg TimeState.dom same.time).trans dom6

/-! The commands. -/

section
variable {r : Ring} {t : Nat} {s : State} {p : List Word}

theorem completes_lineHeadNoticeSend (may : MayBroadcast s) (head : (s.lineOf r).head = true) : Completes (.lineHeadNoticeSend r t) s fun u =>
    Broadcast s u 1 1 ([bitW (decide (r = .b)) 15 ||| putFld s.fab.node 11 0] ++ cycleW (s.lineOf r).nextCycle ++ [bitW true 15]) ∧
    (u.lineOf r).noticeAt = some s.present := by
  let words := [bitW (decide (r = .b)) 15 ||| putFld s.fab.node 11 0] ++ cycleW (s.lineOf r).nextCycle ++ [bitW true 15]
  have row : exec (.lineHeadNoticeSend r t) s =
      done ((broadcast (s.at t) 1 1 words).updLine r fun l => { l with noticeAt := some s.present }) := by
    refine congrArg done (if_neg ?_)
    rw [show ((s.at t).lineOf r).head = true from head]; decide
  have sent := switchOnly_broadcast (s := s.at t) (cls := 1) (sub := 1) (payload := words) may (.inl (by decide)) (by decide)
  refine completes_done row ⟨broadcast_settle (s := s.at t) may (.inl (by decide)) (by decide) rfl ?_, ?_⟩
  · refine Eq.trans (b := (broadcast (s.at t) 1 1 words).now) rfl ?_
    rw [sent]
  · rw [State.lineOf, settle_cue]
    exact congrArg LineHead.noticeAt (vget_vupd_self (broadcast (s.at t) 1 1 words).cue.lines r.ix
      fun l => { l with noticeAt := some s.present })

theorem completes_lineHeadNotice (bright : s.darkPath = false) (begins : bitOf (wAt p 3) 15 = true) : Completes (.lineHeadNotice p t) s fun u =>
    (((if bitOf (wAt p 0) 15 then Ring.b else .a), fld (wAt p 0) 11 0) : Ring × Nat) ∈ u.sw.breaks ∧ u.cue.calm = 0 := by
  let place : Ring × Nat := ((if bitOf (wAt p 0) 15 then Ring.b else .a), fld (wAt p 0) 11 0)
  have row : exec (.lineHeadNotice p t) s = done ((((s.at t).cmpStatus 3).updSw fun w =>
      { w with breaks := if w.breaks.contains place then w.breaks else w.breaks ++ [place] }).updCue fun c => { c with calm := 0 }) :=
    congrArg done ((delivered_of_bright (s := s.at t) bright _).trans (if_pos begins))
  refine completes_done row ⟨?_, by rw [settle_cue]; rfl⟩
  rw [settle_sw]
  change place ∈ if ((s.at t).cmpStatus 3).sw.breaks.contains place then ((s.at t).cmpStatus 3).sw.breaks
    else ((s.at t).cmpStatus 3).sw.breaks ++ [place]
  split
  · rename_i listed
    exact List.contains_iff_mem.1 listed
  · exact List.mem_append_right _ List.mem_cons_self

theorem domainBegin_keeps (s : State) (ptp : Int) (waited : Bool) : (domainBegin s ptp waited).cue = s.cue ∧
    (domainBegin s ptp waited).fab = s.fab := by
  unfold domainBegin
  extract_lets zero
  split <;> exact ⟨rfl, rfl⟩

theorem completes_prompterListen (may : mayListen s = true) (idle : s.cue.prompter.listening = false)
    (standing : s.cue.prompter.active = false) (ptp : Int) : Completes (.prompterListen ⟨t, ptp⟩) s fun u =>
      u.cue.prompter.listening = true ∧ u.cue.prompter.heard = false ∧ u.fab.node = s.compiled := by
  let x := ((s.at t).updPrompter fun p => { p with listening := true, heard := false }).updFab fun f =>
    { f with node := s.compiled, cast := true, castOk := true }
  have row : exec (.prompterListen ⟨t, ptp⟩) s = done (if namedB (s.at t) then domainBegin x ptp false else x) := by
    refine congrArg done (if_neg ?_)
    rw [show mayListen (s.at t) = true from may, show (s.at t).cue.prompter.listening = false from idle,
      show (s.at t).cue.prompter.active = false from standing]
    decide
  have kept : (if namedB (s.at t) then domainBegin x ptp false else x).cue = x.cue ∧
      (if namedB (s.at t) then domainBegin x ptp false else x).fab = x.fab := by
    split
    · exact domainBegin_keeps x ptp false
    · exact ⟨rfl, rfl⟩
  refine completes_done row ?_
  rw [settle_cue, settle_fab, kept.1, kept.2]
  exact ⟨rfl, rfl, rfl⟩

/-! The end of listening. -/

theorem prompterBegin_heard (ptp : Int) (waited : Bool) (listens : s.cue.prompter.listening = true) (heard : s.cue.prompter.heard = true) :
    (prompterBegin s ptp waited).cue.prompter = { s.cue.prompter with listening := false } := by
  have stands : prompterBegin s ptp waited = if namedB s then domainBegin (s.updPrompter fun p => { p with listening := false }) ptp waited
      else s.updPrompter fun p => { p with listening := false } := by
    refine (if_neg ?_).trans (if_pos heard)
    rw [listens]; decide
  rw [stands]
  split
  · exact congrArg CueState.prompter (domainBegin_keeps _ ptp waited).1
  · rfl

theorem prompterBegin_unheard (ptp : Int) (waited : Bool) (listens : s.cue.prompter.listening = true) (unheard : s.cue.prompter.heard = false) :
    prompterBegin s ptp waited = if !s.bit TIM_CFG 15 then prompterStart s 0 else if s.host.ptpLock then prompterStart s ptp
      else if waited then prompterStart s 0 else s := by
  refine (if_neg ?_).trans (if_neg ?_)
  · rw [listens]; decide
  · rw [unheard]; decide

theorem completes_prompterBegin_heard {ptp : Int} (listens : s.cue.prompter.listening = true) (heard : s.cue.prompter.heard = true) :
    Completes (.prompterBegin ptp t) s fun u => u.cue.prompter.listening = false ∧ u.prompting = s.prompting := by
  have stands := prompterBegin_heard (s := s.at t) ptp false listens heard
  have row : exec (.prompterBegin ptp t) s = done (prompterBegin (s.at t) ptp false) := rfl
  refine completes_done row ?_
  rw [State.prompting, settle_cue, stands]
  exact ⟨rfl, rfl⟩

/-- A prompter that starts with its command. -/
theorem prompterStart_settle {c : Instr} {time : Int} (row : exec c s = done (prompterStart (s.at t) time)) : Completes c s fun u =>
    u.prompting = true ∧ u.time.sCycle = 0 ∧ u.ring = time ∧ u.cue.cycle = 0 ∧
    ((inserter s).isSome = true → guardShut s = false → ∀ x : Ring, Sends s u x (markerWords 0 ⟨namedB s, false, false, false, false, 0⟩)) := by
  obtain ⟨active, cycle, ring, present, sent⟩ := prompterStart_done (s.at t) time
  refine completes_done row ⟨?_, ?_, ?_, ?_, fun some_ open_ x => (sent some_ open_ x).of_streams (settle_stream _ _)⟩
  · rw [State.prompting, settle_cue]; exact active
  · rw [settle_time_sCycle]; exact cycle
  · rw [State.ring, settle_now, settle_time_ofs]; exact ring
  · rw [settle_cue]; exact present

theorem completes_prompterBegin_free {ptp : Int} (listens : s.cue.prompter.listening = true) (unheard : s.cue.prompter.heard = false)
    (own : s.bit TIM_CFG 15 = false) : Completes (.prompterBegin ptp t) s fun u =>
      u.prompting = true ∧ u.time.sCycle = 0 ∧ u.ring = 0 ∧ u.cue.cycle = 0 ∧
      ((inserter s).isSome = true → guardShut s = false → ∀ x : Ring, Sends s u x (markerWords 0 ⟨namedB s, false, false, false, false, 0⟩)) := by
  refine prompterStart_settle (t := t) (congrArg done ((prompterBegin_unheard (s := s.at t) ptp false listens unheard).trans (if_pos ?_)))
  rw [at_bit, own]; rfl

theorem completes_prompterBegin_ptp {ptp : Int} (listens : s.cue.prompter.listening = true) (unheard : s.cue.prompter.heard = false)
    (disciplined : s.bit TIM_CFG 15 = true) (locked : s.host.ptpLock = true) : Completes (.prompterBegin ptp t) s fun u =>
      u.prompting = true ∧ u.ring = ptp := by
  have started := prompterStart_settle (t := t) (c := .prompterBegin ptp t) (s := s) (time := ptp)
    (congrArg done ((prompterBegin_unheard (s := s.at t) ptp false listens unheard).trans
      ((if_neg (by rw [at_bit, disciplined]; decide)).trans (if_pos locked))))
  obtain ⟨u, next, active, -, ring, -⟩ := started
  exact ⟨u, next, active, ring⟩

theorem completes_ptpWaitExpire (listens : s.cue.prompter.listening = true) (unheard : s.cue.prompter.heard = false) :
    Completes (.ptpWaitExpire t) s fun u => u.prompting = true := by
  have begun := prompterBegin_unheard (s := s.at t) 0 true listens unheard
  have started : prompterBegin (s.at t) 0 true = prompterStart (s.at t) 0 := by
    rw [begun]
    split
    · rfl
    · split <;> rfl
  obtain ⟨u, next, active, -⟩ := prompterStart_settle (c := .ptpWaitExpire t) (s := s) (congrArg done started)
  exact ⟨u, next, active⟩

theorem completes_prompterNoticeSend (may : MayBroadcast s) (prompts : s.prompting = true) (named : namedA s = true ∨ namedB s = true)
    (idle : s.cue.prompter.listening = false) : Completes (.prompterNoticeSend t) s fun u =>
      Broadcast s u 1 2 ([wd s.fab.node, wd (ownClaim s), bitW true 15] ++ cycleW 0) := by
  have asks : requestCycle (s.at t) = none := by
    refine if_pos ?_
    rw [show (s.at t).prompting = true from prompts]; rfl
  have row : exec (.prompterNoticeSend t) s =
      done (broadcast (s.at t) 1 2 ([wd s.fab.node, wd (ownClaim s), bitW true 15] ++ cycleW 0)) := by
    refine congrArg done ((if_neg ?_).trans ?_)
    · rw [show (namedA (s.at t) || namedB (s.at t)) = true from Bool.or_eq_true_iff.2 named,
        show (s.at t).cue.prompter.listening = false from idle]
      decide
    · simp only [asks, show (s.at t).prompting = true from prompts]
      rfl
  refine completes_done row (broadcast_settle (s := s.at t) may (.inl (by decide)) (by decide) rfl ?_)
  rw [switchOnly_broadcast (s := s.at t) may (.inl (by decide)) (by decide)]

/-- What a prompter's notice leaves of the prompter's state (R91, R93, R94). -/
theorem prompterNotice_prompter (named : namedA s = true ∨ namedB s = true) (other : fld (wAt p 0) 11 0 ≠ s.fab.node) :
    (prompterNotice s p).cue.prompter.peer = (wAt p 1).toNat ∧
    (prompterNotice s p).cue.prompter.request = (if bitOf (wAt p 2) 14 && s.prompting then some (wCycle p 3) else s.cue.prompter.request) ∧
    (bitOf (wAt p 2) 15 = true → s.prompting = true → ownClaim s < (wAt p 1).toNat → (prompterNotice s p).cue.prompter.yield_ = true) := by
  unfold prompterNotice
  extract_lets node claim s0 s1 s2
  have heard : s0.cue = s.cue := by
    unfold s0
    split <;> rfl
  have foreign : ¬ (!(namedA s || namedB s) || decide (node = s.fab.node)) = true := by
    rw [Bool.or_eq_true_iff.2 named, decide_eq_false other]; decide
  rw [if_neg foreign]
  have judged : s2.cue.prompter.peer = claim ∧ s2.cue.prompter.request = s.cue.prompter.request ∧
      (bitOf (wAt p 2) 15 = true → s.prompting = true → ownClaim s < claim → s2.cue.prompter.yield_ = true) := by
    have request0 : s0.cue.prompter.request = s.cue.prompter.request := congrArg (fun c : CueState => c.prompter.request) heard
    have request : s1.cue.prompter.request = s.cue.prompter.request := request0
    unfold s2
    split
    · split
      · exact ⟨rfl, request, fun _ _ _ => rfl⟩
      · rename_i loses
        exact ⟨rfl, request, fun _ _ higher => absurd (.inl higher) loses⟩
    · rename_i idle
      exact ⟨rfl, request, fun active prompts _ => absurd (by rw [active, prompts]; rfl) idle⟩
  obtain ⟨peer, request, yields⟩ := judged
  split
  · exact ⟨peer, rfl, yields⟩
  · exact ⟨peer, request, yields⟩

theorem completes_prompterNotice (bright : s.darkPath = false) (named : namedA s = true ∨ namedB s = true)
    (other : fld (wAt p 0) 11 0 ≠ s.fab.node) : Completes (.prompterNotice p t) s fun u =>
      u.cue.prompter.peer = (wAt p 1).toNat ∧
      u.cue.prompter.request = (if bitOf (wAt p 2) 14 && s.prompting then some (wCycle p 3) else s.cue.prompter.request) ∧
      (bitOf (wAt p 2) 15 = true → s.prompting = true → ownClaim s < (wAt p 1).toNat → u.cue.prompter.yield_ = true) := by
  have row : exec (.prompterNotice p t) s = done (prompterNotice (s.at t) p) := congrArg done (delivered_of_bright (s := s.at t) bright _)
  refine completes_done row ?_
  rw [settle_cue]
  exact prompterNotice_prompter (s := s.at t) named other

theorem completes_takeover (bright : s.dark.dark = false) (named : namedB s = true) (standing : s.prompting = false)
    (idle : s.cue.prompter.listening = false) (follows : anyMarker s = true) : Completes (.takeover t) s fun u =>
      u.prompting = true ∧ u.cue.cycle = s.present + 1 ∧ u.time.dom = true ∧ (u.reg CUE_EVT).getLsbD 13 = true := by
  let s1 := promptFrom (s.at t) (s.present + 1) 8
  let f := firstFlags s1 (s.present + 1)
  let x := markerOut (markerOut s1 .a (s.present + 1) f) .b (s.present + 1) f
  have row : exec (.takeover t) s = done (timeSyncReady ((x.evt CUE_EVT 13).raise Src.takeover 0)) := by
    refine congrArg done (if_neg ?_)
    rw [show (s.at t).dark.dark = false from bright, show namedB (s.at t) = true from named, show (s.at t).prompting = false from standing,
      show (s.at t).cue.prompter.listening = false from idle, show anyMarker (s.at t) = true from follows]
    decide
  obtain ⟨active, cycle, dom⟩ := promptFrom_keeps (s.at t) (s.present + 1) 8
  have marked : SameCycle s1 x := sameCycle_markerOut.trans sameCycle_markerOut
  have told : SameCycle x (timeSyncReady ((x.evt CUE_EVT 13).raise Src.takeover 0)) :=
    ((hubOnly_evt x _ _).trans (hubOnly_raise _ _ _)).sameCycle.trans (onlyBar_timeSyncReady _).sameCycle
  have same := marked.trans told
  refine completes_done row ⟨?_, ?_, ?_, ?_⟩
  · rw [State.prompting, settle_cue]
    exact (congrArg PrompterState.active same.prompter).trans active
  · rw [settle_cue]
    exact same.cycle.trans cycle
  · rw [settle_time_dom]
    exact (congrArg TimeState.dom same.time).trans (dom.trans named)
  · rw [reg_settle_of_not_closing _ _ (by decide), reg_congr (timeSyncReady_regs _), reg_congr (raise_regs _ _ _)]
    exact reg_evt_bit x CUE_EVT 13 (by decide)

theorem completes_yield (prompts : s.prompting = true) (yields : s.cue.prompter.yield_ = true) : Completes (.yield t) s fun u =>
    u.prompting = false ∧ u.cue.prompter.yield_ = false ∧ (u.reg CUE_EVT).getLsbD 12 = true := by
  have row : exec (.yield t) s = done ((standDown (s.at t)).evt CUE_EVT 12) := by
    refine congrArg done (if_pos ?_)
    rw [show (s.at t).prompting = true from prompts, show (s.at t).cue.prompter.yield_ = true from yields]
    rfl
  refine completes_done row ⟨?_, ?_, ?_⟩
  · rw [State.prompting, settle_cue]; rfl
  · rw [settle_cue]; rfl
  · rw [reg_settle_of_not_closing _ _ (by decide)]
    exact reg_evt_bit _ CUE_EVT 12 (by decide)

/-! Wing claims. -/

/-- A claim begins with the first wing slot of the sheet (R96). -/
theorem wingStart_listening {c : CueSheet} {x : Nat} (sheet : s.sheet = some c) (slot : (wingSlots c).head? = some x) (calm : 16 ≤ s.cue.calm)
    (open_ : s.cue.guard.open_ = true) (may : mustClose s = false) (idle : s.cue.wing.phase = .none ∨ s.cue.wing.phase = .waiting) :
    wingStart s = s.updWing fun w => { w with phase := .listening, slot := x, idleRuns := Vector.replicate 2 0 } := by
  unfold wingStart
  simp only [sheet, slot]
  refine if_neg ?_
  have free : (decide (s.cue.wing.phase = .none) || decide (s.cue.wing.phase = .waiting)) = true := by simpa using idle
  rw [free, open_, may]
  simpa using calm

theorem completes_wingClaimStart {c : CueSheet} {x : Nat} (sheet : s.sheet = some c) (slot : (wingSlots c).head? = some x)
    (calm : 16 ≤ s.cue.calm) (open_ : s.cue.guard.open_ = true) (may : mustClose s = false)
    (idle : s.cue.wing.phase = .none ∨ s.cue.wing.phase = .waiting) : Completes (.wingClaimStart t) s fun u =>
      u.cue.wing.phase = .listening ∧ u.cue.wing.slot = x := by
  have row := congrArg done (wingStart_listening (s := s.at t) sheet slot calm open_ may idle)
  refine completes_done (c := .wingClaimStart t) row ?_
  rw [settle_cue]
  exact ⟨rfl, rfl⟩

theorem completes_wingBackoffEnd {c : CueSheet} {x : Nat} (sheet : s.sheet = some c) (slot : (wingSlots c).head? = some x)
    (calm : 16 ≤ s.cue.calm) (open_ : s.cue.guard.open_ = true) (may : mustClose s = false) (backs : s.cue.wing.phase = .backoff) :
    Completes (.wingBackoffEnd t) s fun u => u.cue.wing.phase = .listening ∧ u.cue.wing.slot = x ∧ u.cue.wing.backoff = 0 := by
  let y := (s.at t).updWing fun w => { w with phase := .waiting, backoff := 0 }
  have row : exec (.wingBackoffEnd t) s =
      done (y.updWing fun w => { w with phase := .listening, slot := x, idleRuns := Vector.replicate 2 0 }) :=
    congrArg done ((if_pos backs).trans (wingStart_listening (s := y) sheet slot calm open_ may (.inr rfl)))
  refine completes_done row ?_
  rw [settle_cue]
  exact ⟨rfl, rfl, rfl⟩

end

/-- Settles O14: each command's effect on the line heads, the prompter's state and the wing claim, with the notices and markers it sends. -/
theorem rolesOnTheRing : Obligations.RolesOnTheRing := by
  unfold Obligations.RolesOnTheRing
  intro r t s
  refine ⟨completes_lineHeadNoticeSend, fun p => completes_lineHeadNotice, completes_prompterListen,
    fun ptp listens => ⟨?heard, ?free, ?disciplined, ?waited⟩, completes_prompterNoticeSend, fun p => completes_prompterNotice,
    completes_takeover, completes_yield, fun c x sheet slot calm open_ may => ⟨?claim, ?again⟩⟩
  case heard => exact completes_prompterBegin_heard listens
  case free => exact completes_prompterBegin_free listens
  case disciplined => exact completes_prompterBegin_ptp listens
  case waited => exact completes_ptpWaitExpire listens
  case claim => exact completes_wingClaimStart sheet slot calm open_ may
  case again => exact completes_wingBackoffEnd sheet slot calm open_ may

end Sys2Proof.Machine
end

section
set_option Elab.async false
/-! SUPPORT. Markers received, missed and sent (R65-R67, R71, R76, R82, R87, R126), and the obligation about them. -/

namespace Sys2Proof.Machine

/-! What the timekeeper works on (R115-R126). -/

/-- All as before but for ring time, the barrier, reports and registers. -/
def TimeOnly (s u : State) : Prop :=
  u = { s with marks := u.marks, regs := u.regs, time := u.time, bar := u.bar, flts := u.flts, backlog := u.backlog }

theorem TimeOnly.refl (s : State) : TimeOnly s s := rfl
theorem TimeOnly.trans {s t u : State} (h : TimeOnly s t) (g : TimeOnly t u) : TimeOnly s u := by
  unfold TimeOnly at *
  rw [g, h]

theorem timeOnly_updTime (s : State) (f : TimeState → TimeState) : TimeOnly s (s.updTime f) := rfl
theorem timeOnly_evt (s : State) (a i : Nat) : TimeOnly s (s.evt a i) := rfl
theorem timeOnly_bump (s : State) (a : Nat) : TimeOnly s (s.bump a) := rfl
theorem timeOnly_raise (s : State) (a d : Nat) : TimeOnly s (s.raise a d) := by
  unfold State.raise
  split
  · split <;> rfl
  · rfl
theorem timeOnly_timeSyncReady (s : State) : TimeOnly s (timeSyncReady s) := rfl

theorem timeOnly_holdoverIn (s : State) : TimeOnly s (holdoverIn s) := by
  have shown_ (x : State) : TimeOnly x ((x.evt TIM_EVT 15).bump TIM_HOLD_CNT) := rfl
  exact (timeOnly_updTime s _).trans ((shown_ _).trans ((timeOnly_raise _ _ _).trans (timeOnly_timeSyncReady _)))

theorem keepsRegs_holdoverIn (s : State) : KeepsRegs s (holdoverIn s) [TIM_EVT, TIM_HOLD_CNT] := by
  have shown_ : KeepsRegs s (((s.updTime fun t => { t with hold := true }).evt TIM_EVT 15).bump TIM_HOLD_CNT) [TIM_EVT, TIM_HOLD_CNT] :=
    ((KeepsRegs.of_regs rfl _).evt (by simp) 15).bump (by simp)
  exact (shown_.raise _ _).trans (.of_regs (timeSyncReady_regs _) _)

theorem holdoverIn_time (s : State) : (holdoverIn s).time.sCycle = s.time.sCycle ∧ (holdoverIn s).time.dom = s.time.dom := by
  have held : (holdoverIn s).time = (s.updTime fun t => { t with hold := true }).time := by
    unfold holdoverIn
    rw [onlyBar_timeSyncReady, hubOnly_raise]
    rfl
  have cycle := congrArg TimeState.sCycle held
  have dom := congrArg TimeState.dom held
  exact ⟨cycle, dom⟩

theorem cyclePassed_keeps (s : State) : TimeOnly s (cyclePassed s) ∧ KeepsRegs s (cyclePassed s) [TIM_EVT, TIM_HOLD_CNT] ∧
    (cyclePassed s).time.sCycle = s.time.sCycle ∧ (cyclePassed s).time.dom = s.time.dom := by
  have same : TimeOnly s s ∧ KeepsRegs s s [TIM_EVT, TIM_HOLD_CNT] ∧ s.time.sCycle = s.time.sCycle ∧ s.time.dom = s.time.dom :=
    ⟨.refl s, .of_regs rfl _, rfl, rfl⟩
  unfold cyclePassed
  split
  · exact same
  · extract_lets old s1 s2
    split
    · exact same
    · split
      · exact ⟨rfl, .of_regs rfl _, rfl, rfl⟩
      · split
        · exact ⟨rfl, .of_regs rfl _, rfl, rfl⟩
        · split
          · have run : TimeOnly s s2 := rfl
            obtain ⟨cycle, dom⟩ := holdoverIn_time s2
            exact ⟨run.trans (timeOnly_holdoverIn s2), (KeepsRegs.of_regs (s := s) (x := s2) rfl _).trans (keepsRegs_holdoverIn s2), cycle, dom⟩
          · exact ⟨rfl, .of_regs rfl _, rfl, rfl⟩

theorem timeOnly_crossCheck (s : State) : TimeOnly s (crossCheck s) := by
  unfold crossCheck
  extract_lets lim d s1
  split
  · rfl
  · split
    · exact (timeOnly_updTime s _).trans ((timeOnly_evt _ _ _).trans (timeOnly_raise _ _ _))
    · rfl

theorem timeOnly_stepTime (s : State) (d : Int) (acquire : Bool) : TimeOnly s (stepTime s d acquire) := by
  unfold stepTime
  extract_lets s1 s2
  have moved : TimeOnly s s1 := rfl
  have told : TimeOnly s1 s2 := by
    unfold s2
    split
    · exact .refl s1
    · exact ((timeOnly_bump s1 _).trans (timeOnly_evt _ _ _)).trans (timeOnly_raise _ _ _)
  exact (moved.trans told).trans (timeOnly_timeSyncReady _)

theorem timeOnly_correct (s : State) (e slew : Int) : TimeOnly s (correct s e slew) := by
  unfold correct
  split
  · rfl
  · split
    · exact timeOnly_stepTime _ _ _
    · rfl

theorem timeOnly_discipline (s : State) (r : Ring) (slew : Int) : TimeOnly s (discipline s r slew) := by
  unfold discipline
  extract_lets s1 s2 e
  have checked : TimeOnly s s1 := timeOnly_crossCheck s
  have ended : TimeOnly s1 s2 := by
    unfold s2
    split <;> rfl
  split
  · exact checked.trans ended
  · have judged (x : State) (a : Int) : TimeOnly x (judgeLock x a) := rfl
    exact (checked.trans ended).trans ((timeOnly_updTime s2 _).trans ((judged _ e).trans (timeOnly_correct _ _ _)))

theorem timeOnly_phaseError (s : State) (r : Ring) (k : DWord) : TimeOnly s (phaseError s r k) := by
  unfold phaseError
  split
  · extract_lets e
    exact timeOnly_updTime s _
  · exact .refl s

/-! The acceptance window closes (R66, R126). -/

theorem trackOf_updTrack (s : State) (r q : Ring) (f : RingTrack → RingTrack) :
    (s.updTrack r f).trackOf q = if q = r then f (s.trackOf r) else s.trackOf q := by
  simp only [State.trackOf, State.updTrack, State.updCue, vget_vupd, ring_ix_inj]

theorem trackOf_congr {s u : State} (h : u.cue = s.cue) (r : Ring) : u.trackOf r = s.trackOf r := by rw [State.trackOf, h]; rfl
theorem lineOf_congr {s u : State} (h : u.cue = s.cue) (r : Ring) : u.lineOf r = s.lineOf r := by rw [State.lineOf, h]; rfl

/-- What a closed window leaves. -/
structure WindowClosed (s u : State) (r : Ring) : Prop where
  cue : u.cue = (s.updTrack r fun t => { t with closed := some t.cycle }).cue
  now : u.now = s.now
  links : u.links = s.links
  cycle : u.time.sCycle = s.time.sCycle
  dom : u.time.dom = s.time.dom
  regs : KeepsRegs s u [TIM_EVT, TIM_HOLD_CNT]

theorem windowClosed (s : State) (r : Ring) : WindowClosed s (closeWindow s r) r := by
  obtain ⟨only, regs, cycle, dom⟩ := cyclePassed_keeps (s.updTrack r fun t => { t with closed := some t.cycle })
  have same : closeWindow s r = cyclePassed (s.updTrack r fun t => { t with closed := some t.cycle }) := rfl
  rw [← same] at only regs cycle dom
  exact ⟨by rw [only], by rw [only]; rfl, by rw [only]; rfl, cycle, dom, (KeepsRegs.of_regs rfl _).trans regs⟩

section
variable {s u : State} {r : Ring} (h : WindowClosed s u r)
include h

theorem WindowClosed.track (q : Ring) : ((u.trackOf q).seen, (u.trackOf q).cycle, (u.trackOf q).flags, (u.trackOf q).at_, (u.trackOf q).measured) =
    ((s.trackOf q).seen, (s.trackOf q).cycle, (s.trackOf q).flags, (s.trackOf q).at_, (s.trackOf q).measured) := by
  rw [trackOf_congr h.cue, trackOf_updTrack]
  split
  · rename_i same; subst same; rfl
  · rfl

theorem WindowClosed.lineOf (q : Ring) : u.lineOf q = s.lineOf q := lineOf_congr h.cue q
theorem WindowClosed.prompting : u.prompting = s.prompting := by unfold State.prompting; rw [h.cue]; rfl
theorem WindowClosed.generates (q : Ring) : generates u q = generates s q := by
  unfold Machine.generates; rw [h.prompting, h.lineOf]

theorem WindowClosed.isBehind (k : DWord) (f : MarkerFlags) : isBehind u r k f = isBehind s r k f := by
  obtain ⟨seen, cycle, -, -, -⟩ := by simpa only [Prod.mk.injEq] using h.track r.other
  unfold Machine.isBehind State.present
  rw [h.generates, h.cycle, h.dom, seen, cycle]

theorem WindowClosed.expectedAt : expectedAt u r = expectedAt s r := by
  obtain ⟨seen, cycle, flags, at_, measured⟩ := by simpa only [Prod.mk.injEq] using h.track r
  have ref : refFlags u r = refFlags s r := by
    unfold refFlags; rw [h.generates, h.lineOf, flags]
  have sheets (b : Bool) : u.sheetAt b = s.sheetAt b := by unfold State.sheetAt; rw [h.cue]; rfl
  have sheet : u.ringSheet r = s.ringSheet r := by
    unfold State.ringSheet State.sheet
    rw [h.generates, ref, seen, sheets, sheets, h.cue]; rfl
  have base (k : DWord) : baseWords u r k = baseWords s r k := by
    unfold baseWords shownWords; rw [sheet, measured]
  unfold Machine.expectedAt cycleWords
  dsimp only
  rw [seen, cycle, flags, at_, base]

end

/-! A marker that is accepted (R66). -/

/-- What the node keeps of the marker it follows on a ring. -/
structure Follows (s u : State) (r : Ring) : Prop where
  seen : (u.trackOf r).seen = (s.trackOf r).seen
  cycle : (u.trackOf r).cycle = (s.trackOf r).cycle
  flags : (u.trackOf r).flags = (s.trackOf r).flags
  at_ : (u.trackOf r).at_ = (s.trackOf r).at_
  links : u.links = s.links
  present : u.cue.cycle = s.cue.cycle

theorem Follows.trans {s t u : State} {r : Ring} (h : Follows s t r) (g : Follows t u r) : Follows s u r :=
  ⟨g.seen.trans h.seen, g.cycle.trans h.cycle, g.flags.trans h.flags, g.at_.trans h.at_, g.links.trans h.links, g.present.trans h.present⟩

theorem Follows.of_cue {s u : State} (r : Ring) (track : u.cue.track = s.cue.track) (cycle : u.cue.cycle = s.cue.cycle)
    (links : u.links = s.links) : Follows s u r := by
  have same : u.trackOf r = s.trackOf r := by rw [State.trackOf, track]; rfl
  exact ⟨by rw [same], by rw [same], by rw [same], by rw [same], links, cycle⟩

theorem Follows.refl (s : State) (r : Ring) : Follows s s r := .of_cue r rfl rfl rfl
theorem HubOnly.follows {s u : State} (h : HubOnly s u) (r : Ring) : Follows s u r := .of_cue r (by rw [h]) (by rw [h]) (by rw [h])
theorem TimeOnly.follows {s u : State} (h : TimeOnly s u) (r : Ring) : Follows s u r := .of_cue r (by rw [h]) (by rw [h]) (by rw [h])

theorem follows_lineCompare (s : State) (q r : Ring) (off : Int) : Follows s (lineCompare s q off) r := by
  have ended (x : State) : Follows x (lineEnd x q) r := by
    unfold lineEnd
    extract_lets l s0 s1
    have noted : Follows x s1 r := .of_cue r rfl rfl rfl
    exact noted.trans ((hubOnly_broadcast s1 _ _ _).follows r)
  unfold lineCompare
  extract_lets l d n d'
  split
  · exact .refl s r
  · split
    · exact ended s
    · split
      · exact .of_cue r rfl rfl rfl
      · exact .of_cue r rfl rfl rfl

theorem follows_usableAt (s : State) (r : Ring) (k : DWord) : Follows s (s.updTrack r fun t => { t with usableAt := some k }) r := by
  have track := trackOf_updTrack s r r fun t => { t with usableAt := some k }
  rw [if_pos rfl] at track
  exact ⟨by rw [track], by rw [track], by rw [track], by rw [track], rfl, rfl⟩

theorem follows_streamIn (s : State) (r : Ring) (domChange : Bool) : Follows s (streamIn s r domChange) r := .of_cue r rfl rfl rfl
theorem follows_guardAtMarker (s : State) (r : Ring) : Follows s (guardAtMarker s r) r := .of_cue r rfl rfl rfl
theorem follows_streamOut (s : State) (r : Ring) : Follows s (streamOut s r) r := .of_cue r rfl rfl rfl

/-- The first marker of a cycle makes it the present one. -/
theorem cycleMarker_cycle (s : State) (k : DWord) (f : MarkerFlags) (counted : Int) (domChange : Bool) (off : Int) :
    (cycleMarker s k f counted domChange off).cue.cycle = k := by
  unfold cycleMarker
  extract_lets first s1 switched s2 ph s3
  have now : s3.cue.cycle = k := rfl
  clear_value s3
  exact ((sameCycle_applyBank s3 k f.bank).trans (hubOnly_intmMarker _ f.intm).sameCycle).cycle.trans now

/-- An accepted marker is the one the node follows on its ring, and where it is not of the ring that lags its cycle is the present one. -/
theorem markerAccept_taken (s0 : State) (r : Ring) (k : DWord) (f : MarkerFlags) (crcOk adopted : Bool) (off slew transit : Int) :
    ((markerAccept s0 r k f crcOk adopted off slew transit).trackOf r).seen = true ∧
    ((markerAccept s0 r k f crcOk adopted off slew transit).trackOf r).cycle = k ∧
    ((markerAccept s0 r k f crcOk adopted off slew transit).trackOf r).flags = f ∧
    ((markerAccept s0 r k f crcOk adopted off slew transit).trackOf r).at_ = s0.now ∧
    ((markerAccept s0 r k f crcOk adopted off slew transit).link r.inPort).inUse = true ∧
    (isBehind s0 r k f = false → (markerAccept s0 r k f crcOk adopted off slew transit).cue.cycle = k) := by
  unfold markerAccept
  extract_lets open_ s tr domChange tr1 counted newCycle s1 again s2 s3 s4 s5 s6 s7 usable s8
  have closed : s.now = s0.now ∧ isBehind s r k f = isBehind s0 r k f := by
    unfold s
    split
    · exact ⟨(windowClosed s0 r).now, (windowClosed s0 r).isBehind k f⟩
    · exact ⟨rfl, rfl⟩
  have current : isBehind s0 r k f = false → s2.cue.cycle = k := fun ahead => by
    unfold s2
    split
    · exact cycleMarker_cycle _ _ _ _ _ _
    · rename_i old
      have same : k = s.present := by
        by_contra other
        refine old ?_
        unfold newCycle
        rw [closed.2, ahead, decide_eq_true other]
        rfl
      rw [if_pos same]
      split
      · rfl
      · exact (sameCycle_applyBank _ k f.bank).cycle
  have at_ : tr1.at_ = s0.now := closed.1
  have track3 : s3.trackOf r = tr1 := by
    refine (trackOf_updTrack s2 r r fun _ => tr1).trans (if_pos rfl)
  have link3 : (s3.link r.inPort).inUse = true :=
    congrArg LinkPort.inUse (link_updLink_self (s2.updTrack r fun _ => tr1) r.inPort fun l => { l with inUse := true })
  have present3 : s3.cue.cycle = s2.cue.cycle := rfl
  have after5 : Follows s3 s5 r := .of_cue r rfl rfl rfl
  have after6 : Follows s5 s6 r := by
    refine Follows.trans ?_ (follows_streamIn _ r domChange)
    split
    · exact .refl s5 r
    · exact follows_streamOut s5 r
  have after7 : Follows s6 s7 r :=
    (follows_guardAtMarker s6 r).trans
      ((follows_lineCompare _ r r off).trans ((timeOnly_phaseError _ r k).follows r))
  have after8 : Follows s7 s8 r := by
    unfold s8
    split
    · exact (follows_usableAt s7 r k).trans ((timeOnly_discipline _ r slew).follows r)
    · exact .refl s7 r
  have all := ((after5.trans after6).trans after7).trans (after8.trans ((timeOnly_timeSyncReady s8).follows r))
  refine ⟨?_, ?_, ?_, ?_, ?_, fun ahead => all.present.trans (present3.trans (current ahead))⟩
  · rw [all.seen, track3]
  · rw [all.cycle, track3]
  · rw [all.flags, track3]
  · rw [all.at_, track3, at_]
  · rw [link_congr all.links, link3]

section
variable {s : State} {r : Ring} {w1 w2 w3 : Word} {slew transit : Int} {t : Nat}

/-- A node that follows a ring takes in what its marker spells (R65, R66). -/
theorem markerReceive_following (carries : (s.link r.inPort).state.carries = true) (shows_ : idles s r = false) (standing : s.prompting = false)
    (ok : markerOk w1 w2 w3 = true) : markerReceive s r w1 w2 w3 slew transit =
      if !(s.trackOf r).seen then markerAccept s r (w1 ++ w2) (markerFlags w3) true false 0 slew transit
      else if decide ((markerFlags w3).dom ≠ (s.trackOf r).flags.dom) then
        markerAccept s r (w1 ++ w2) (markerFlags w3) true false ((markerOff s r).getD 0) slew transit
      else match markerOff s r with
        | none => markerAccept s r (w1 ++ w2) (markerFlags w3) true false 0 slew transit
        | some off =>
          if -2 ≤ off ∧ off ≤ 2 then markerAccept s r (w1 ++ w2) (markerFlags w3) true false off slew transit
          else if s.sheet.isNone then
            markerAccept (((s.bump CUE_CM_MISS).evt CUE_EVT 5).raise Src.phaseAdopted r.ix.val) r (w1 ++ w2) (markerFlags w3) true true off slew transit
          else match (s.trackOf r).candidate with
            | none => flownOver s r (markerFlags w3) off
            | some c =>
              if -2 ≤ off - c ∧ off - c ≤ 2 then
                markerAccept ((s.evt CUE_EVT 5).raise Src.phaseAdopted r.ix.val) r (w1 ++ w2) (markerFlags w3) true true off slew transit
              else flownOver s r (markerFlags w3) off := by
  have same (f : MarkerFlags) : idleEnds s r f = s := if_neg (by rw [shows_, Bool.false_and]; decide)
  unfold markerReceive
  simp only [ok, if_true, same, carries, shows_, standing]
  rfl

/-- What the node keeps of a marker that it takes in. -/
theorem completes_markerAccept {off : Int} (row : exec (.markerReceive r w1 w2 w3 slew transit t) s =
      done (markerAccept (s.at t) r (w1 ++ w2) (markerFlags w3) true false off slew transit)) :
    Completes (.markerReceive r w1 w2 w3 slew transit t) s fun u =>
      (u.trackOf r).seen = true ∧ (u.trackOf r).cycle = w1 ++ w2 ∧ (u.trackOf r).flags = markerFlags w3 ∧
      (u.trackOf r).at_ = max s.now t ∧ (u.link r.inPort).inUse = true ∧
      (isBehind s r (w1 ++ w2) (markerFlags w3) = false → u.cue.cycle = w1 ++ w2) := by
  have taken := markerAccept_taken (s.at t) r (w1 ++ w2) (markerFlags w3) true false off slew transit
  refine completes_done row ?_
  rw [trackOf_congr (settle_cue _), settle_link, settle_cue]
  exact taken

theorem completes_markerReceive_first (carries : (s.link r.inPort).state.carries = true) (shows_ : idles s r = false)
    (standing : s.prompting = false) (ok : markerOk w1 w2 w3 = true) (first : (s.trackOf r).seen = false) :
    Completes (.markerReceive r w1 w2 w3 slew transit t) s fun u =>
      (u.trackOf r).seen = true ∧ (u.trackOf r).cycle = w1 ++ w2 ∧ (u.trackOf r).flags = markerFlags w3 ∧
      (u.trackOf r).at_ = max s.now t ∧ (u.link r.inPort).inUse = true ∧
      (isBehind s r (w1 ++ w2) (markerFlags w3) = false → u.cue.cycle = w1 ++ w2) := by
  refine completes_markerAccept (off := 0) (congrArg done ((markerReceive_following (s := s.at t) carries shows_ standing ok).trans (if_pos ?_)))
  rw [show ((s.at t).trackOf r).seen = false from first]; rfl

theorem completes_markerReceive_next {off : Int} (carries : (s.link r.inPort).state.carries = true) (shows_ : idles s r = false)
    (standing : s.prompting = false) (ok : markerOk w1 w2 w3 = true) (seen : (s.trackOf r).seen = true)
    (dom : (markerFlags w3).dom = (s.trackOf r).flags.dom) (place : markerOff (s.at t) r = some off) (least : -2 ≤ off) (most : off ≤ 2) :
    Completes (.markerReceive r w1 w2 w3 slew transit t) s fun u =>
      (u.trackOf r).seen = true ∧ (u.trackOf r).cycle = w1 ++ w2 ∧ (u.trackOf r).flags = markerFlags w3 ∧
      (u.trackOf r).at_ = max s.now t ∧ (u.link r.inPort).inUse = true ∧
      (isBehind s r (w1 ++ w2) (markerFlags w3) = false → u.cue.cycle = w1 ++ w2) := by
  refine completes_markerAccept (off := off) (congrArg done ((markerReceive_following (s := s.at t) carries shows_ standing ok).trans ?_))
  have sameDom : ¬ decide ((markerFlags w3).dom ≠ ((s.at t).trackOf r).flags.dom) = true := by
    rw [decide_eq_true_iff]; exact not_not_intro dom
  rw [if_neg (by rw [show ((s.at t).trackOf r).seen = true from seen]; decide), if_neg sameDom, place]
  exact if_pos ⟨least, most⟩

theorem completes_markerReceive_bad (carries : (s.link r.inPort).state.carries = true) (shows_ : idles s r = false)
    (standing : s.prompting = false) (bad : markerOk w1 w2 w3 = false) (first : (s.trackOf r).seen = false) :
    Completes (.markerReceive r w1 w2 w3 slew transit t) s fun u =>
      u.reg CUE_CM_ERR = bumpW (s.reg CUE_CM_ERR) 1 ∧ u.cue = s.cue ∧ SameRegs s u [CUE_CM_ERR] := by
  have row : exec (.markerReceive r w1 w2 w3 slew transit t) s = done ((s.at t).bump CUE_CM_ERR) := by
    refine congrArg done ?_
    unfold markerReceive
    simp only [bad, Bool.false_eq_true, if_false, show ((s.at t).link r.inPort).state.carries = true from carries,
      show idles (s.at t) r = false from shows_, show (s.at t).prompting = false from standing,
      show ((s.at t).trackOf r).seen = false from first]
    rfl
  refine completes_done row ⟨?_, by rw [settle_cue]; rfl, ?_⟩
  · rw [reg_settle_of_not_closing _ _ (by decide), reg_bump_self]; rfl
  · exact ((KeepsRegs.of_regs (x := s.at t) rfl _).bump List.mem_cons_self).settle

/-! A marker that does not come (R66). -/

/-- A cycle boundary and the stream that goes on leave the marks of the rings and count no missed marker. -/
theorem boundary_regs (s : State) (k : DWord) (counted : Int) : (boundary s k counted).regs = s.regs := by
  have confirmed (x : State) (old : DWord) : (sceneConfirm x old).regs = x.regs := by
    unfold sceneConfirm
    split
    · rfl
    · split <;> rfl
  have advanced : (advanceS s k counted).regs = s.regs := by
    unfold advanceS
    extract_lets n s1
    split
    · rfl
    · split
      · rfl
      · split <;> rfl
  unfold boundary
  extract_lets whole
  rw [confirmed]
  exact advanced

/-- The state after a marker that the node flywheels over (R66). -/
def flywheeled (s : State) (r : Ring) (e : Nat) : State :=
  (s.bump CUE_CM_MISS).updTrack r fun t =>
    { t with cycle := (s.trackOf r).cycle + 1, at_ := e, flags := { t.flags with slew := 0 }, flying := true, unusable := t.unusable - 1
             measured := shown t (baseWords s r t.cycle) }

/-- The boundary that comes with it. -/
def flywheelBoundary (s : State) (r : Ring) (e : Nat) : State :=
  if reached ((s.trackOf r).cycle + 1) (s.present + 1) then
    timeSyncReady (boundary (flywheeled s r e) ((s.trackOf r).cycle + 1) ((e : Int) - (s.trackOf r).at_))
  else flywheeled s r e

/-- The window of a marker that came is closed first (R66). -/
def windowEnded (s : State) (r : Ring) : State :=
  if (s.trackOf r).seen && decide ((s.trackOf r).closed ≠ some (s.trackOf r).cycle) then closeWindow s r else s

/-- The next window closes with the stream of the node's own or of the ring. -/
def windowNext (s : State) (r : Ring) (e : Nat) : State :=
  closeWindow (if generates s r then flywheelBoundary s r e else streamOut (flywheelBoundary s r e) r) r

theorem windowEnded_keeps (s : State) (r : Ring) : (windowEnded s r).prompting = s.prompting ∧ (windowEnded s r).now = s.now ∧
    expectedAt (windowEnded s r) r = expectedAt s r ∧ ((windowEnded s r).trackOf r).cycle = (s.trackOf r).cycle ∧
    KeepsRegs s (windowEnded s r) [TIM_EVT, TIM_HOLD_CNT] := by
  unfold windowEnded
  split
  · have closed := windowClosed s r
    have track := closed.track r
    simp only [Prod.mk.injEq] at track
    obtain ⟨-, cycle, -⟩ := track
    exact ⟨closed.prompting, closed.now, closed.expectedAt, cycle, closed.regs⟩
  · exact ⟨rfl, rfl, rfl, rfl, .of_regs rfl _⟩

theorem windowClose_eq {e : Nat} (standing : s.prompting = false) (due : e ≤ s.now) (expected : expectedAt s r = some e) :
    windowClose s r = windowNext (windowEnded s r) r e := by
  obtain ⟨prompting, now, same, -, -⟩ := windowEnded_keeps s r
  have begun : (if (s.trackOf r).seen && decide ((s.trackOf r).closed ≠ some (s.trackOf r).cycle) && !s.prompting then closeWindow s r else s) =
      windowEnded s r := by
    unfold windowEnded
    rw [standing, Bool.not_false, Bool.and_true]
  have flies : ¬ ((windowEnded s r).prompting || decide ((windowEnded s r).now < e)) = true := by
    rw [prompting, now, standing, Bool.false_or, decide_eq_true_iff]
    exact not_lt.2 due
  unfold windowClose
  dsimp only
  rw [begun, same, expected]
  exact if_neg flies

/-- What the flywheel leaves of the ring's mark and of the count. -/
theorem windowNext_keeps (s : State) (r : Ring) (e : Nat) : ((windowNext s r e).trackOf r).cycle = (s.trackOf r).cycle + 1 ∧
    ((windowNext s r e).trackOf r).at_ = e ∧ (windowNext s r e).reg CUE_CM_MISS = bumpW (s.reg CUE_CM_MISS) 1 := by
  have flown : (flywheeled s r e).trackOf r = { s.trackOf r with
      cycle := (s.trackOf r).cycle + 1, at_ := e, flags := { (s.trackOf r).flags with slew := 0 }, flying := true
      unusable := (s.trackOf r).unusable - 1, measured := shown (s.trackOf r) (baseWords s r (s.trackOf r).cycle) } :=
    (trackOf_updTrack _ r r _).trans (if_pos rfl)
  have missed : (flywheeled s r e).reg CUE_CM_MISS = bumpW (s.reg CUE_CM_MISS) 1 := reg_bump_self s CUE_CM_MISS
  have bounded : (flywheelBoundary s r e).cue.track = (flywheeled s r e).cue.track ∧ (flywheelBoundary s r e).regs = (flywheeled s r e).regs := by
    unfold flywheelBoundary
    split
    · exact ⟨(boundary_keeps _ _ _).2.2, boundary_regs _ _ _⟩
    · exact ⟨rfl, rfl⟩
  obtain ⟨track, regs⟩ := bounded
  let x := if generates s r then flywheelBoundary s r e else streamOut (flywheelBoundary s r e) r
  have kept : x.cue.track = (flywheelBoundary s r e).cue.track ∧ x.regs = (flywheelBoundary s r e).regs := by
    unfold x
    split <;> exact ⟨rfl, rfl⟩
  have trackX : x.trackOf r = (flywheeled s r e).trackOf r := by rw [State.trackOf, kept.1, track]; rfl
  have closed := windowClosed x r
  have view := closed.track r
  simp only [Prod.mk.injEq] at view
  obtain ⟨-, cycle, -, at_, -⟩ := view
  have regX : x.reg CUE_CM_MISS = (flywheeled s r e).reg CUE_CM_MISS := reg_congr (kept.2.trans regs) _
  refine ⟨cycle.trans ?_, at_.trans ?_, (closed.regs CUE_CM_MISS 0 (by decide) (by decide)).trans (regX.trans missed)⟩
  · rw [trackX, flown]
  · rw [trackX, flown]

theorem completes_markerWindowClose {e : Nat} (standing : s.prompting = false) (expected : expectedAt s r = some e) (due : e ≤ max s.now t) :
    Completes (.markerWindowClose r t) s fun u =>
      (u.trackOf r).cycle = (s.trackOf r).cycle + 1 ∧ (u.trackOf r).at_ = e ∧ u.reg CUE_CM_MISS = bumpW (s.reg CUE_CM_MISS) 1 := by
  have row : exec (.markerWindowClose r t) s = done (windowNext (windowEnded (s.at t) r) r e) :=
    congrArg done (windowClose_eq (s := s.at t) standing due expected)
  obtain ⟨-, -, -, cycle, regs⟩ := windowEnded_keeps (s.at t) r
  obtain ⟨next, at_, missed⟩ := windowNext_keeps (windowEnded (s.at t) r) r e
  refine completes_done row ?_
  rw [trackOf_congr (settle_cue _), reg_settle_of_not_closing _ _ (by decide)]
  refine ⟨next.trans (by rw [cycle]; rfl), at_, missed.trans ?_⟩
  exact congrArg (bumpW · 1) (regs CUE_CM_MISS 0 (by decide) (by decide))

/-! A marker that the node sends (R71, R82, R87). -/

theorem lineOf_updLine (s : State) (r q : Ring) (f : LineHead → LineHead) :
    (s.updLine r f).lineOf q = if q = r then f (s.lineOf r) else s.lineOf q := by
  simp only [State.lineOf, State.updLine, State.updCue, vget_vupd, ring_ix_inj]

/-- The line of the ring on which a marker is about to leave. -/
theorem lineOf_markerSet {k : DWord} {f : MarkerFlags} : (markerSet s r k f).lineOf r =
    { s.lineOf r with sentAt := s.now, sentCycle := k, sentFlags := f } :=
  (lineOf_updLine s r r _).trans (if_pos rfl)

/-- A marker leaves where the guardian is open. -/
theorem markerOut_leaves {c : Core} {k : DWord} {f : MarkerFlags} (ins : inserter s = some c) (shut : guardShut s = false) :
    Sends s (markerOut s r k f) r (markerWords k f) ∧ (markerOut s r k f).lineOf r =
      { s.lineOf r with sentAt := s.now, sentCycle := k, sentFlags := f } := by
  refine ⟨sends_markerOut ins shut, ?_⟩
  rw [markerOut_open ins shut]
  exact (lineOf_congr (sendWords_cue _ _ _) r).trans lineOf_markerSet

theorem sendWords_regs (s : State) (r : Ring) (ws : List RingWord) : (sendWords s r ws).regs = s.regs := rfl
theorem regs_markerSet {k : DWord} {f : MarkerFlags} : (markerSet s r k f).regs = s.regs := rfl

/-- What the guardian notes of a marker that it blocks. -/
theorem guardBlock_marker (x : State) (r : Ring) (c : Core) :
    (guardBlock x r rgMarker 0 c).reg GRD_BLOCK_X = bumpW (x.reg GRD_BLOCK_X) 1 ∧ (guardBlock x r rgMarker 0 c).reg GRD_LAST_POS = 0 ∧
    (guardBlock x r rgMarker 0 c).streams = x.streams ∧ (guardBlock x r rgMarker 0 c).cue = x.cue := by
  have only := hubOnly_guardBlock x r rgMarker 0 c
  refine ⟨?_, ?_, by rw [only], by rw [only]⟩
  · refine (reg_congr (raise_regs _ _ _) _).trans ?_
    rw [reg_setReg_ne _ _ (by decide), reg_setReg_ne _ _ (by decide)]
    exact reg_bump_self x GRD_BLOCK_X
  · refine (reg_congr (raise_regs _ _ _) _).trans ?_
    rw [reg_setReg_ne _ _ (by decide), reg_setReg_self]
    rfl

/-- No marker leaves where the guardian is closed for good: it is counted (R85). -/
theorem markerOut_stays {c : Core} {k : DWord} {f : MarkerFlags} (ins : inserter s = some c) (dead : s.cue.guard.dead = true) :
    Sends s (markerOut s r k f) r [] ∧ (markerOut s r k f).reg GRD_BLOCK_X = bumpW (s.reg GRD_BLOCK_X) 1 ∧
    ((markerOut s r k f).lineOf r).sentCycle = k := by
  rw [markerOut_dead ins dead]
  have sent : Sends s (sendWords (markerSet s r k f) r []) r [] :=
    (sends_sendWords (markerSet s r k f) r []).of_links links_markerSet
  have cue : (sendWords (markerSet s r k f) r []).cue = (markerSet s r k f).cue := sendWords_cue _ _ _
  have regs : (sendWords (markerSet s r k f) r []).regs = (markerSet s r k f).regs := sendWords_regs _ _ _
  generalize sendWords (markerSet s r k f) r [] = x at sent cue regs ⊢
  obtain ⟨counted, -, streams, cueX⟩ := guardBlock_marker x r c
  refine ⟨sent.of_streams (stream_congr streams r), ?_, ?_⟩
  · rw [counted, reg_congr (regs.trans regs_markerSet)]
  · rw [lineOf_congr (cueX.trans cue), lineOf_markerSet]

theorem markerSend_prompting (prompts : s.prompting = true) (second : (s.lineOf r).sentCycle + 1 = s.present) :
    markerSend s r = markerOut s r s.present s.cue.flags := by
  unfold markerSend
  rw [if_pos prompts]
  unfold prompterMarker
  extract_lets l k p asked f
  have now : k = s.present := second
  clear_value k
  subst now
  exact if_pos rfl

theorem completes_markerSend_open {c : Core} (prompts : s.prompting = true) (second : (s.lineOf r).sentCycle + 1 = s.present)
    (ins : inserter s = some c) (shut : guardShut s = false) : Completes (.markerSend r t) s fun u =>
      Sends s u r (markerWords s.present s.cue.flags) ∧ (u.lineOf r).sentCycle = s.present ∧ (u.lineOf r).sentAt = max s.now t := by
  have row : exec (.markerSend r t) s = done (markerOut (s.at t) r s.present s.cue.flags) :=
    congrArg done (markerSend_prompting (s := s.at t) prompts second)
  obtain ⟨sent, line⟩ := markerOut_leaves (s := s.at t) (r := r) (k := s.present) (f := s.cue.flags) ins shut
  refine completes_done row ⟨sent.of_streams (settle_stream _ _), ?_⟩
  rw [lineOf_congr (settle_cue _), line]
  exact ⟨rfl, rfl⟩

theorem completes_markerSend_dead {c : Core} (prompts : s.prompting = true) (second : (s.lineOf r).sentCycle + 1 = s.present)
    (ins : inserter s = some c) (dead : s.cue.guard.dead = true) : Completes (.markerSend r t) s fun u =>
      Sends s u r [] ∧ u.reg GRD_BLOCK_X = bumpW (s.reg GRD_BLOCK_X) 1 ∧ (u.lineOf r).sentCycle = s.present := by
  have row : exec (.markerSend r t) s = done (markerOut (s.at t) r s.present s.cue.flags) :=
    congrArg done (markerSend_prompting (s := s.at t) prompts second)
  obtain ⟨sent, counted, cycle⟩ := markerOut_stays (s := s.at t) (r := r) (k := s.present) (f := s.cue.flags) ins dead
  refine completes_done row ⟨sent.of_streams (settle_stream _ _), ?_, ?_⟩
  · rw [reg_settle_of_not_closing _ _ (by decide)]; exact counted
  · rw [lineOf_congr (settle_cue _)]; exact cycle

theorem completes_markerSend_blocked {c : Core} (standing : s.prompting = false) (noRequest : s.cue.prompter.request = none)
    (noHead : (s.lineOf r).head = false) (ins : inserter s = some c) : Completes (.markerSend r t) s fun u =>
      u.reg GRD_BLOCK_X = bumpW (s.reg GRD_BLOCK_X) 1 ∧ u.reg GRD_LAST_POS = 0 ∧ (u.stream r) = s.stream r := by
  have row : exec (.markerSend r t) s = done (guardBlock (s.at t) r rgMarker 0 c) := by
    refine congrArg done ?_
    unfold markerSend
    dsimp only
    rw [if_neg (by rw [show (s.at t).prompting = false from standing]; decide), show (s.at t).cue.prompter.request = none from noRequest]
    dsimp only
    rw [if_neg (by rw [show ((s.at t).lineOf r).head = false from noHead]; decide), show inserter (s.at t) = some c from ins]
  obtain ⟨counted, pos, streams, -⟩ := guardBlock_marker (s.at t) r c
  refine completes_done row ⟨?_, ?_, ?_⟩
  · rw [reg_settle_of_not_closing _ _ (by decide)]; exact counted
  · rw [reg_settle_of_not_closing _ _ (by decide)]; exact pos
  · rw [settle_stream]; exact stream_congr streams r

end

/-! The first marker of a line head (R87). -/

/-- The ports, the guardian and who inserts behind it, the lines and an announced scene change are as before. -/
structure SameGates (s u : State) : Prop where
  links : u.links = s.links
  ins : inserter u = inserter s
  shut : guardShut u = guardShut s
  lines : u.cue.lines = s.cue.lines
  bank : u.cue.bank = s.cue.bank
  target : u.cue.scene.target = s.cue.scene.target

theorem SameGates.trans {s t u : State} (h : SameGates s t) (g : SameGates t u) : SameGates s u :=
  ⟨g.links.trans h.links, g.ins.trans h.ins, g.shut.trans h.shut, g.lines.trans h.lines, g.bank.trans h.bank, g.target.trans h.target⟩

theorem HubOnly.sameGates {s u : State} (h : HubOnly s u) : SameGates s u := by
  have cue : u.cue = s.cue := by rw [h]
  refine ⟨by rw [h], ?_, guardShut_congr cue, by rw [cue], by rw [cue], by rw [cue]⟩
  rw [h]; rfl

theorem SameGates.of_rest {s u : State} (links : u.links = s.links) (ins : inserter u = inserter s) (guard : u.cue.guard = s.cue.guard)
    (lines : u.cue.lines = s.cue.lines) (bank : u.cue.bank = s.cue.bank) (target : u.cue.scene.target = s.cue.scene.target) : SameGates s u :=
  ⟨links, ins, by unfold guardShut; rw [guard], lines, bank, target⟩

theorem OnlyBar.sameGates {s u : State} (h : OnlyBar s u) : SameGates s u := by
  refine .of_rest (by rw [h]) ?_ (by rw [h]) (by rw [h]) (by rw [h]) (by rw [h])
  rw [h]; rfl

theorem sameGates_boundary (s : State) (k : DWord) (counted : Int) : SameGates s (boundary s k counted) := by
  have advanced : SameGates s (advanceS s k counted) := by
    unfold advanceS
    extract_lets n s1
    split
    · exact .of_rest rfl rfl rfl rfl rfl rfl
    · split
      · exact .of_rest rfl rfl rfl rfl rfl rfl
      · split <;> exact .of_rest rfl rfl rfl rfl rfl rfl
  have confirmed (x : State) (old : DWord) : SameGates x (sceneConfirm x old) := by
    unfold sceneConfirm
    split
    · exact .of_rest rfl rfl rfl rfl rfl rfl
    · split <;> exact .of_rest rfl rfl rfl rfl rfl rfl
  unfold boundary
  extract_lets whole
  refine (advanced.trans ?_).trans (confirmed _ _)
  exact .of_rest rfl rfl rfl rfl rfl rfl

/-- Naming the bank in force again, with no scene change announced, opens and closes nothing. -/
theorem sameGates_applyBank {s : State} (k : DWord) (none_ : s.cue.scene.target = none) : SameGates s (applyBank s k s.cue.bank) := by
  have first : SameGates s (firstBank s s.cue.bank) := by
    unfold firstBank
    split <;> exact .of_rest rfl rfl rfl rfl rfl rfl
  have due : sceneDue (firstBank s s.cue.bank) k = false := by
    unfold sceneDue; rw [first.target, none_]
  have reported (x : State) (i src : Nat) : SameGates x ((x.evt CUE_EVT i).raise src 0) :=
    ((hubOnly_evt x _ _).trans (hubOnly_raise _ _ _)).sameGates
  unfold applyBank
  dsimp only
  rw [due]
  simp only [Bool.false_and, Bool.false_eq_true, if_false]
  generalize firstBank s s.cue.bank = x at first
  rw [← first.bank]
  split
  · have noted : SameGates x (x.updCue fun c => { c with bank := x.cue.bank, noSheet := true }) := .of_rest rfl rfl rfl rfl rfl rfl
    split
    · exact first.trans noted
    · exact (first.trans noted).trans (reported _ _ _)
  · have sheeted : SameGates x (x.updCue fun c => { c with noSheet := false }) := .of_rest rfl rfl rfl rfl rfl rfl
    simp only [if_true, ne_eq, not_true, if_false]
    exact first.trans sheeted

section
variable {s : State} {r : Ring} {t : Nat}

/-- The line that a head continues from its first marker on. -/
def lineBegun (s : State) (r : Ring) : State :=
  s.updLine r fun l => { l with started := true, nextCycle := if l.started then l.nextCycle else (s.trackOf r).cycle + 1
                                handover := l.handover.map fun d => if d > 8 then d - 8 else if d < -8 then d + 8 else 0 }

/-- With the cycle boundary that this marker brings. -/
def lineBoundary (s : State) (r : Ring) : State :=
  if reached ((s.trackOf r).cycle + 1) (s.present + 1) then
    timeSyncReady (applyBank (boundary (lineBegun s r) ((s.trackOf r).cycle + 1) ((s.now : Int) - refAt s r)) ((s.trackOf r).cycle + 1) s.cue.bank)
  else lineBegun s r

theorem sameGates_lineBoundary (none_ : s.cue.scene.target = none) : SameGates (lineBegun s r) (lineBoundary s r) := by
  unfold lineBoundary
  split
  · have bounded := sameGates_boundary (lineBegun s r) ((s.trackOf r).cycle + 1) ((s.now : Int) - refAt s r)
    generalize boundary (lineBegun s r) ((s.trackOf r).cycle + 1) ((s.now : Int) - refAt s r) = x at bounded ⊢
    have bank : x.cue.bank = s.cue.bank := bounded.bank
    have applied := sameGates_applyBank (s := x) ((s.trackOf r).cycle + 1) (bounded.target.trans none_)
    rw [bank] at applied
    exact bounded.trans (applied.trans (onlyBar_timeSyncReady _).sameGates)
  · exact .of_rest rfl rfl rfl rfl rfl rfl

theorem lineMarker_first (first : (s.lineOf r).started = false) (stays : (s.lineOf r).forwardNext = false)
    (noHandover : (s.lineOf r).handover = none) (none_ : s.cue.scene.target = none) : lineMarker s r =
      markerOut (lineBoundary s r) r ((s.trackOf r).cycle + 1) ⟨s.cue.flags.dom, true, s.cue.bank, s.time.hold, s.cue.flags.intm, 0⟩ := by
  have due (k : DWord) : sceneDue s k = false := by unfold sceneDue; rw [none_]
  unfold lineMarker
  dsimp only
  rw [if_neg (by rw [stays]; decide), first, noHandover]
  simp only [Bool.false_eq_true, if_false, due, Bool.false_and, Option.isSome_none]
  rfl

theorem completes_lineHeadMarker {c : Core} (ins : inserter s = some c) (shut : guardShut s = false) (head : (s.lineOf r).head = true)
    (first : (s.lineOf r).started = false) (follows : anyMarker s = true) (standing : s.prompting = false)
    (stays : (s.lineOf r).forwardNext = false) (noHandover : (s.lineOf r).handover = none) (none_ : s.cue.scene.target = none) :
    Completes (.lineHeadMarker r t) s fun u =>
      Sends s u r (markerWords ((s.trackOf r).cycle + 1) ⟨s.cue.flags.dom, true, s.cue.bank, s.time.hold, s.cue.flags.intm, 0⟩) ∧
      (u.lineOf r).started = true ∧ (u.lineOf r).sentCycle = (s.trackOf r).cycle + 1 := by
  let f : MarkerFlags := ⟨s.cue.flags.dom, true, s.cue.bank, s.time.hold, s.cue.flags.intm, 0⟩
  have row : exec (.lineHeadMarker r t) s = done (markerOut (lineBoundary (s.at t) r) r ((s.trackOf r).cycle + 1) f) := by
    refine congrArg done ((if_pos ?_).trans (lineMarker_first (s := s.at t) first stays noHandover none_))
    rw [show ((s.at t).lineOf r).head = true from head, show ((s.at t).lineOf r).started = false from first,
      show anyMarker (s.at t) = true from follows, show (s.at t).prompting = false from standing]
    rfl
  have gates := sameGates_lineBoundary (s := s.at t) (r := r) none_
  have begun : ((lineBegun (s.at t) r).lineOf r).started = true :=
    congrArg LineHead.started ((lineOf_updLine (s.at t) r r _).trans (if_pos rfl))
  obtain ⟨sent, line⟩ := markerOut_leaves (r := r) (k := (s.trackOf r).cycle + 1) (f := f) (gates.ins.trans ins) (gates.shut.trans shut)
  have started : ((lineBoundary (s.at t) r).lineOf r).started = true := by
    rw [State.lineOf, gates.lines]; exact begun
  refine completes_done row ⟨(sent.of_links gates.links).of_streams (settle_stream _ _), ?_, ?_⟩
  · rw [lineOf_congr (settle_cue _), line]; exact started
  · rw [lineOf_congr (settle_cue _), line]

end

/-- Settles O12: a marker taken in is the one the node follows, one missed is flywheeled over, and one sent leaves where the guardian is open. -/
theorem markers : Obligations.Markers := by
  unfold Obligations.Markers
  intro r w1 w2 w3 slew transit t s
  refine ⟨fun carries shows_ standing => ⟨fun ok => ⟨?first, fun off seen dom place least most => ?next⟩, ?bad⟩,
    fun e => completes_markerWindowClose, fun c prompts second ins => ⟨?open_, ?dead⟩, fun c => completes_markerSend_blocked,
    fun c ins shut head first follows standing stays noHandover none_ => ?line⟩
  case first => exact completes_markerReceive_first carries shows_ standing ok
  case next => exact completes_markerReceive_next carries shows_ standing ok seen dom place least most
  case bad => exact completes_markerReceive_bad carries shows_ standing
  case open_ => exact completes_markerSend_open prompts second ins
  case dead => exact completes_markerSend_dead prompts second ins
  case line => exact completes_lineHeadMarker ins shut head first follows standing stays noHandover none_

end Sys2Proof.Machine
end

section
set_option Elab.async false
/-! SUPPORT. Cues as their owner inserts them, as their copies pass and land, and as a prompter relays them (R68-R83), and the obligation
about them. -/

namespace Sys2Proof.Machine

/-! The words of a run that the guardian admits (R83). -/

/-- Where the places before k are chosen and no other, what is chosen is the first k. -/
theorem zipIdx_filter_prefix {α : Type} (p : Nat → Bool) (k : Nat) : ∀ (ws : List α) (j : Nat),
    (∀ i < ws.length, p (j + i) = decide (j + i < k)) → (((ws.zipIdx j).filter fun x => p x.2).map (·.1)) = ws.take (k - j)
  | [], _, _ => by simp
  | w :: ws, j, h => by
    have here : p j = decide (j < k) := by simpa using h 0 (by simp)
    have rest := zipIdx_filter_prefix p k ws (j + 1) fun i hi => by
      have next := h (i + 1) (by simpa using hi)
      rwa [show j + (i + 1) = j + 1 + i by omega] at next
    rw [List.zipIdx_cons, List.filter_cons]
    dsimp only
    by_cases before : j < k
    · rw [if_pos (by rw [here]; exact decide_eq_true before), List.map_cons, rest, show k - j = (k - (j + 1)) + 1 by omega, List.take_succ_cons]
    · rw [if_neg (by rw [here, decide_eq_false before]; decide), rest, show k - (j + 1) = 0 by omega, show k - j = 0 by omega]
      rfl

/-- What is blocked from one place on is one run. -/
theorem blockedRuns_from {ok : Nat → Bool} {pos len k : Nat} (h : ∀ i < len, ok (pos + i) = decide (i < k)) :
    blockedRuns ok pos len = if k < len then [pos + k] else [] := by
  have first (i : Nat) (hi : i < len) : (!ok (pos + i) && (decide (pos + i = pos) || ok (pos + i - 1))) = decide (i = k) := by
    rw [h i hi]
    cases i with
    | zero => cases k <;> simp
    | succ i =>
      rw [show pos + (i + 1) - 1 = pos + i by omega, h i (by omega)]
      by_cases before : i + 1 < k
      · simp [before]; omega
      · simp [before]; omega
  have chosen : (List.range len).filter ((fun i => !ok i && (decide (i = pos) || ok (i - 1))) ∘ (pos + ·)) =
      (List.range len).filter (fun i => decide (i = k)) := by
    exact List.filter_congr fun i hi => first i (List.mem_range.1 hi)
  unfold blockedRuns
  rw [List.filter_map, chosen]
  split
  · rename_i inside
    have one : (List.range len).filter (fun i => decide (i = k)) = [k] := by
      rw [List.filter_eq, List.count_eq_one_of_mem List.nodup_range (List.mem_range.2 inside)]
      rfl
    rw [one]; rfl
  · rename_i outside
    have none_ : (List.range len).filter (fun i => decide (i = k)) = [] :=
      List.filter_eq_nil_iff.2 fun i hi => by
        have := List.mem_range.1 hi
        rw [decide_eq_true_iff]; omega
    rw [none_]; rfl

/-! A cue that its owner inserts (R77, R82, R83). -/

section
variable {r : Ring} {e : CueEntry} {c : CueSheet} {t : Nat} {s : State} {core : Core}

theorem cueCrc_length (len : Nat) (k : DWord) (id : Nat) (payload : List Word) : (cueCrc len k id payload).length = cueCrcLen len := by
  unfold cueCrc cueCrcLen
  dsimp only
  split
  · rfl
  · rw [toWords_two]; rfl

/-- The words of a cue fill its entry. -/
theorem cueWords_length {len : Nat} (some_ : 0 < len) (k : DWord) (id : Nat) (f : Nat → Word) :
    (cueWords len k id ((List.range (len - cueCrcLen len)).map f)).length = len := by
  have fits : cueCrcLen len ≤ len := by unfold cueCrcLen; split <;> omega
  rw [cueWords, List.length_append, List.length_map, List.length_range, cueCrc_length]
  omega

/-- The words that the node inserts for an entry of its own that is no wing slot. -/
def ownCueWords (s : State) (e : CueEntry) (r : Ring) : List RingWord :=
  (cueWords e.len (refCycle s r) e.id ((List.range (e.len - cueCrcLen e.len)).map fun i => s.sendWord (e.addr + i))).map .data

theorem cuePassage_own (sheet : s.ringSheet r = some c) (ins : inserter s = some core) (noWing : e.wing = none)
    (found : c.entries.find? (fun x => decide (x.ix = e.ix) && x.owned && modeOn x r) = some e) (open_ : s.cue.guard.open_ = true) :
    cuePassage s r e.ix = timedInsert s r (posOn e r) (ownCueWords s e r) core := by
  have words : passageWords s e (refCycle s r) = ownCueWords s e r := by
    unfold passageWords ownCueWords; rw [noWing]
  unfold cuePassage
  rw [sheet, ins]
  dsimp only
  rw [found]
  dsimp only
  rw [noWing, open_, words]
  rfl

/-- What the guardian admits of a run leaves, and what it blocks from one place on is one attempt. -/
theorem timedInsert_prefix {ws : List RingWord} {k : Nat} {pos : Nat} (h : ∀ i < ws.length, guardAdmits s r (pos + i) = decide (i < k)) :
    timedInsert s r pos ws core = if k < ws.length then guardBlock (sendWords s r (ws.take k)) r rgTimed (pos + k) core
      else sendWords s r (ws.take k) := by
  have chosen : ((ws.zipIdx.filter fun x => guardAdmits s r (pos + x.2)).map (·.1)) = ws.take k := by
    have all := zipIdx_filter_prefix (fun i => guardAdmits s r (pos + i)) k ws 0 fun i hi => by
      simpa using h i hi
    simpa using all
  unfold timedInsert
  dsimp only
  rw [chosen, blockedRuns_from h]
  split <;> rfl

theorem completes_cuePassage_admitted (sheet : s.ringSheet r = some c) (ins : inserter s = some core) (noWing : e.wing = none)
    (some_ : 0 < e.len) (found : c.entries.find? (fun x => decide (x.ix = e.ix) && x.owned && modeOn x r) = some e)
    (open_ : s.cue.guard.open_ = true) (admits : ∀ i < e.len, guardAdmits s r (posOn e r + i) = true) :
    Completes (.cuePassage r e.ix t) s fun u => Sends s u r (ownCueWords s e r) ∧ SameRegs s u [] := by
  have length : (ownCueWords s e r).length = e.len := by
    rw [ownCueWords, List.length_map, cueWords_length some_]
  have row : exec (.cuePassage r e.ix t) s = done (sendWords (s.at t) r (ownCueWords s e r)) := by
    refine congrArg done ((cuePassage_own (s := s.at t) sheet ins noWing found open_).trans ?_)
    refine (timedInsert_prefix (k := e.len) fun i hi => ?_).trans ?_
    · have inside : i < e.len := length ▸ hi
      rw [decide_eq_true inside]
      exact admits i inside
    · rw [show (ownCueWords (s.at t) e r).length = e.len from length, if_neg (lt_irrefl _),
        List.take_of_length_le (le_of_eq (show (ownCueWords (s.at t) e r).length = e.len from length))]
      rfl
  exact completes_done row ⟨(sends_sendWords (s.at t) r _).of_streams (settle_stream _ _), sameRegs_settle (sendWords_regs _ _ _)⟩

theorem completes_cuePassage_blocked {k : Nat} (sheet : s.ringSheet r = some c) (ins : inserter s = some core) (noWing : e.wing = none)
    (some_ : 0 < e.len) (found : c.entries.find? (fun x => decide (x.ix = e.ix) && x.owned && modeOn x r) = some e)
    (open_ : s.cue.guard.open_ = true) (inside : k < e.len) (admits : ∀ i < k, guardAdmits s r (posOn e r + i) = true)
    (blocks : ∀ i < e.len, k ≤ i → guardAdmits s r (posOn e r + i) = false) : Completes (.cuePassage r e.ix t) s fun u =>
      Sends s u r ((ownCueWords s e r).take k) ∧ u.reg GRD_BLOCK = bumpW (s.reg GRD_BLOCK) 1 ∧ u.reg GRD_LAST_POS = wd (posOn e r + k) ∧
      SameRegs s u [GRD_BLOCK, GRD_LAST_POS, GRD_LAST_INFO] := by
  have length : (ownCueWords s e r).length = e.len := by
    rw [ownCueWords, List.length_map, cueWords_length some_]
  have row : exec (.cuePassage r e.ix t) s =
      done (guardBlock (sendWords (s.at t) r ((ownCueWords s e r).take k)) r rgTimed (posOn e r + k) core) := by
    refine congrArg done ((cuePassage_own (s := s.at t) sheet ins noWing found open_).trans ?_)
    refine (timedInsert_prefix (k := k) fun i hi => ?_).trans ?_
    · by_cases before : i < k
      · rw [decide_eq_true before]
        exact admits i before
      · rw [decide_eq_false before]
        exact blocks i (length ▸ hi) (not_lt.1 before)
    · exact if_pos ((show (ownCueWords (s.at t) e r).length = e.len from length).symm ▸ inside)
  have sent : Sends s (sendWords (s.at t) r ((ownCueWords s e r).take k)) r ((ownCueWords s e r).take k) := sends_sendWords (s.at t) r _
  have regs : (sendWords (s.at t) r ((ownCueWords s e r).take k)).regs = s.regs := sendWords_regs _ _ _
  generalize sendWords (s.at t) r ((ownCueWords s e r).take k) = x at row sent regs
  have only := hubOnly_guardBlock x r rgTimed (posOn e r + k) core
  refine completes_done row ⟨?_, ?_, ?_, ?_⟩
  · refine sent.of_streams ((settle_stream _ _).trans (stream_congr ?_ r))
    rw [only]
  · rw [reg_settle_of_not_closing _ _ (by decide)]
    refine (reg_congr (raise_regs _ _ _) _).trans ?_
    rw [reg_setReg_ne _ _ (by decide), reg_setReg_ne _ _ (by decide), ← reg_congr regs]
    exact reg_bump_self x GRD_BLOCK
  · rw [reg_settle_of_not_closing _ _ (by decide)]
    refine (reg_congr (raise_regs _ _ _) _).trans ?_
    rw [reg_setReg_ne _ _ (by decide), reg_setReg_self]
  · refine KeepsRegs.settle (KeepsRegs.raise ?_ _ _)
    exact (((KeepsRegs.of_regs regs _).bump (by simp)).setReg (by simp) _).setReg (by simp) _

/-! A copy that passes (R68, R69, R79). -/

/-- At a position of one subscription its copy is judged. -/
theorem cueCopy_one {ws : List RingWord} (sheet : s.sheetAt (s.trackOf r).flags.bank = some c) (standing : s.prompting = false)
    (one : c.entries = [e]) (foreign : e.owned = false) (mode : modeOn e r = true) :
    cueCopy s r (posOn e r) ws = copyFor s c r ws e := by
  unfold cueCopy
  rw [sheet]
  dsimp only
  rw [one, standing]
  simp [foreign, mode, State.each]

theorem completes_cueCopy_kept {ws : List RingWord} {p : List Word} (sheet : s.sheetAt (s.trackOf r).flags.bank = some c)
    (bright : s.darkPath = false) (standing : s.prompting = false) (noWing : e.wing = none) (one : c.entries = [e]) (foreign : e.owned = false)
    (mode : modeOn e r = true) (good : copyPayload e.len (publicationOf s c e r + 1) e.id ws = some p) :
    Completes (.cueCopyReceive r (posOn e r) ws t) s fun u =>
      u.cue.arrived = s.cue.arrived ++ [⟨e.ix, r, publicationOf s c e r, p⟩] ∧ SameRegs s u [] := by
  have row : exec (.cueCopyReceive r (posOn e r) ws t) s = done ((s.at t).updCue fun x =>
      { x with arrived := x.arrived ++ [⟨e.ix, r, publicationOf s c e r, p⟩] }) := by
    refine congrArg done ((delivered_of_bright (s := s.at t) bright _).trans
      ((cueCopy_one (s := s.at t) sheet standing one foreign mode).trans ?_))
    unfold copyFor
    rw [show copyPayload e.len (publicationOf (s.at t) c e r + 1) e.id ws = some p from good, noWing]
    rfl
  exact completes_done row ⟨by rw [settle_cue]; rfl, sameRegs_settle rfl⟩

theorem completes_cueCopy_bad {ws : List RingWord} (sheet : s.sheetAt (s.trackOf r).flags.bank = some c) (bright : s.darkPath = false)
    (standing : s.prompting = false) (one : c.entries = [e]) (foreign : e.owned = false) (mode : modeOn e r = true)
    (bad : copyPayload e.len (publicationOf s c e r + 1) e.id ws = none) (words : ws.all (fun w => decide (w = .idle)) = false) :
    Completes (.cueCopyReceive r (posOn e r) ws t) s fun u =>
      u.cue = s.cue ∧ u.reg CUE_CRCERR = bumpW (s.reg CUE_CRCERR) 1 ∧ SameRegs s u [CUE_CRCERR] := by
  have row : exec (.cueCopyReceive r (posOn e r) ws t) s = done ((s.at t).bump CUE_CRCERR) := by
    refine congrArg done ((delivered_of_bright (s := s.at t) bright _).trans
      ((cueCopy_one (s := s.at t) sheet standing one foreign mode).trans ?_))
    unfold copyFor
    rw [show copyPayload e.len (publicationOf (s.at t) c e r + 1) e.id ws = none from bad]
    dsimp only
    rw [words]
    rfl
  refine completes_done row ⟨by rw [settle_cue]; rfl, ?_, ?_⟩
  · rw [reg_settle_of_not_closing _ _ (by decide), reg_bump_self]; rfl
  · exact ((KeepsRegs.of_regs (x := s.at t) rfl _).bump List.mem_cons_self).settle

/-! A usable copy (R79). -/

/-- A landing buffer that takes a copy: its first, or a second one. -/
def landed (l : Landing) (a : CopyArrived) (r : Ring) : Landing :=
  match l.data with
  | none => { l with data := some a.payload, ring := r, copies := 1 }
  | some _ => { l with copies := l.copies + 1 }

/-- A usable copy for an open buffer, and one without. -/
def copyLands (s : State) (ix : Nat) (r : Ring) (a : CopyArrived) : State :=
  (s.updCue fun c => { c with arrived := c.arrived.erase a }).updCue fun c =>
    { c with landings := c.landings.map fun l => if l.entry = ix ∧ l.pub = a.pub then landed l a r else l }
def copyLate (s : State) (ix : Nat) (a : CopyArrived) : State :=
  ((s.updCue fun c => { c with arrived := c.arrived.erase a }).bump CUE_LATE).raise Src.cueLate ix

theorem copyUsable_one {a : CopyArrived} (one : s.cue.arrived = [a]) (entry : a.entry = e.ix) (ring : a.ring = r) : copyUsable s e.ix r =
    if !deliveryPassed s e.ix a.pub && s.cue.landings.any fun l => decide (l.entry = e.ix) && decide (l.pub = a.pub) then
      copyLands s e.ix r a
    else copyLate s e.ix a := by
  have found : s.cue.arrived.find? (fun a => decide (a.entry = e.ix) && decide (a.ring = r)) = some a := by
    rw [one]; simp [entry, ring]
  unfold copyUsable
  rw [found] <;> rfl

theorem completes_copyUsable_lands {a : CopyArrived} {l : Landing} (one : s.cue.arrived = [a]) (entry : a.entry = e.ix) (ring : a.ring = r)
    (early : deliveryPassed (s.at t) e.ix a.pub = false) (landing : s.cue.landings = [l]) (ofEntry : l.entry = e.ix) (ofPub : l.pub = a.pub) :
    Completes (.copyUsable r e.ix t) s fun u => u.cue.arrived = [] ∧ u.cue.landings = [landed l a r] ∧ SameRegs s u [] := by
  have row := congrArg done ((copyUsable_one (s := s.at t) one entry ring).trans (if_pos (by
    rw [early, show (s.at t).cue.landings = [l] from landing]; simp [ofEntry, ofPub])))
  refine completes_done (c := .copyUsable r e.ix t) row ⟨?_, ?_, sameRegs_settle rfl⟩
  · rw [settle_cue]
    change s.cue.arrived.erase a = []
    rw [one]; simp
  · rw [settle_cue]
    change s.cue.landings.map _ = _
    rw [landing, List.map_cons, List.map_nil, if_pos ⟨ofEntry, ofPub⟩]

theorem completes_copyUsable_late {a : CopyArrived} (one : s.cue.arrived = [a]) (entry : a.entry = e.ix) (ring : a.ring = r)
    (late : s.cue.landings = [] ∨ deliveryPassed (s.at t) e.ix a.pub = true) : Completes (.copyUsable r e.ix t) s fun u =>
      u.cue.arrived = [] ∧ u.cue.landings = s.cue.landings ∧ u.reg CUE_LATE = bumpW (s.reg CUE_LATE) 1 := by
  let x := ((s.at t).updCue fun c => { c with arrived := c.arrived.erase a }).bump CUE_LATE
  have row : exec (.copyUsable r e.ix t) s = done (x.raise Src.cueLate e.ix) := by
    refine congrArg done ((copyUsable_one (s := s.at t) one entry ring).trans ((if_neg ?_).trans rfl))
    rcases late with none_ | passed
    · rw [show (s.at t).cue.landings = [] from none_]; simp
    · rw [passed]; simp
  have only := hubOnly_raise x Src.cueLate e.ix
  have cue : (x.raise Src.cueLate e.ix).cue = x.cue := by rw [only]
  refine completes_done row ⟨?_, ?_, ?_⟩
  · rw [settle_cue, cue]
    change s.cue.arrived.erase a = []
    rw [one]; simp
  · rw [settle_cue, cue]; rfl
  · rw [reg_settle_of_not_closing _ _ (by decide), reg_congr (raise_regs _ _ _)]
    exact reg_bump_self ((s.at t).updCue fun c => { c with arrived := c.arrived.erase a }) CUE_LATE

/-! A relayed copy that is due (R72). -/

/-- A relayed copy that waits on after the passage of a position. -/
def relayStays (s : State) (r : Ring) (pos : Nat) (x : RelayCopy) : Bool :=
  decide (x.ring ≠ r) || decide (x.pos ≠ pos) || decide (0 < diff32 x.due (s.lineOf r).sentCycle)

theorem completes_relaySend {m : RelayEntry} {x : RelayCopy} (sheet : s.ringSheet r = some c) (ins : inserter s = some core)
    (shut : guardShut s = false) (found : c.relay.find? (fun y => decide (y.ring = r) && decide (y.pos = m.pos)) = some m)
    (prompts : s.prompting = true) (noScene : s.cue.sceneCycle = none)
    (due : s.cue.relays.find? (fun y => decide (y.ring = r) && decide (y.pos = m.pos) && decide (y.due = (s.lineOf r).sentCycle)) = some x) :
    Completes (.relaySend r m.pos t) s fun u => Sends s u r x.words := by
  have row : exec (.relaySend r m.pos t) s = done ((sendWords (s.at t) r x.words).updCue fun y =>
      { y with relays := y.relays.filter (relayStays s r m.pos) }) := by
    refine congrArg done ?_
    unfold relaySend
    rw [show (s.at t).ringSheet r = some c from sheet]
    dsimp only
    rw [found]
    dsimp only
    rw [if_neg (by rw [show (s.at t).prompting = true from prompts]; decide), show (s.at t).cue.sceneCycle = none from noScene,
      show inserter (s.at t) = some core from ins, show guardShut (s.at t) = false from shut]
    have due' : (s.at t).cue.relays.find? (fun y => decide (y.ring = r) && decide (y.pos = m.pos) &&
      decide (y.due = ((s.at t).lineOf r).sentCycle)) = some x := due
    rw [due'] <;> rfl
  exact completes_done row ((sends_sendWords (s.at t) r _).of_streams (settle_stream _ _))

end

/-- Settles O13: a cue leaves as far as the guardian admits it, a copy is kept, counted, landed or late, and a relayed one leaves when due. -/
theorem cuesInsertAndLand : Obligations.CuesInsertAndLand := by
  unfold Obligations.CuesInsertAndLand
  intro r e c t s
  refine ⟨fun core sheet ins noWing some_ found open_ => ⟨?admitted, fun k inside admits blocks => ?blocked⟩,
    fun ws sheet bright standing noWing one foreign mode => ⟨fun p good => ?kept, fun bad words => ?bad⟩,
    fun a one entry ring => ⟨fun l early landing ofEntry ofPub => ?lands, fun late => ?late⟩,
    fun m x core sheet ins shut found prompts noScene due => ?relayed⟩
  case admitted => exact completes_cuePassage_admitted sheet ins noWing some_ found open_
  case blocked => exact completes_cuePassage_blocked sheet ins noWing some_ found open_ inside admits blocks
  case kept => exact completes_cueCopy_kept sheet bright standing noWing one foreign mode good
  case bad => exact completes_cueCopy_bad sheet bright standing one foreign mode bad words
  case lands => exact completes_copyUsable_lands one entry ring early landing ofEntry ofPub
  case late => exact completes_copyUsable_late one entry ring late
  case relayed => exact completes_relaySend sheet ins shut found prompts noScene due

end Sys2Proof.Machine
end

section
set_option Elab.async false
/-! SUPPORT. Delay reports, steps, loop closure, time notices, domains and holdover (R111-R127), and the obligation about them. -/

namespace Sys2Proof.Machine

theorem ringT_updRingT (s : State) (r q : Ring) (f : RingTime → RingTime) :
    (s.updRingT r f).ringT q = if q = r then f (s.ringT r) else s.ringT q := by
  simp only [State.ringT, State.updRingT, State.updTime, vget_vupd, ring_ix_inj]
theorem ringT_updRingT_self (s : State) (r : Ring) (f : RingTime → RingTime) : (s.updRingT r f).ringT r = f (s.ringT r) :=
  (ringT_updRingT s r r f).trans (if_pos rfl)
theorem ringT_congr {s u : State} (h : u.time.rings = s.time.rings) (r : Ring) : u.ringT r = s.ringT r := by rw [State.ringT, h]; rfl
/-- The closing part changes of a ring whether it is ranged (R114). -/
theorem ringT_settle (s : State) (r : Ring) : { (settle s).ringT r with ranged := false } = { s.ringT r with ranged := false } := by
  obtain ⟨rings, _, _, time, same⟩ := settle_time s
  have now : (settle s).ringT r = vget rings r.ix := by rw [State.ringT, time]
  rw [now]
  exact same r.ix
theorem ringTime_of_unranged {x y : RingTime} (h : { x with ranged := false } = { y with ranged := false }) :
    x.report = y.report ∧ x.sentAt = y.sentAt ∧ x.closure = y.closure := by
  injection h with report _ _ closure _ _ _ sentAt _
  exact ⟨report, sentAt, closure⟩

theorem report_settle (s : State) (r : Ring) : ((settle s).ringT r).report = (s.ringT r).report :=
  (ringTime_of_unranged (ringT_settle s r)).1
theorem sentAt_settle (s : State) (r : Ring) : ((settle s).ringT r).sentAt = (s.ringT r).sentAt :=
  (ringTime_of_unranged (ringT_settle s r)).2.1
theorem closure_settle (s : State) (r : Ring) : ((settle s).ringT r).closure = (s.ringT r).closure :=
  (ringTime_of_unranged (ringT_settle s r)).2.2

/-! An event bit outlasts the closing part, also in a register to which that part adds (R114, R339, R361). -/

section
variable {s : State} {a i : Nat} (set_ : EvtSet s a i)
include set_

theorem EvtSet.settleRange (r : Ring) : EvtSet (settleRange r s) a i := by
  unfold Machine.settleRange
  dsimp only
  split
  · exact set_
  · exact EvtSet.evt (set_.congr rfl) _ _

theorem EvtSet.gapEvents (x y : State) (b : Fin 3) : EvtSet (gapEvents x y b s) a i := by
  unfold Machine.gapEvents
  dsimp only
  split
  · split
    · exact (set_.evt _ _).evt _ _
    · exact set_.evt _ _
  · split
    · exact set_.evt _ _
    · exact set_

theorem EvtSet.raise (b d : Nat) : EvtSet (s.raise b d) a i := set_.congr (raise_regs _ _ _)

theorem EvtSet.settleCan (other : ∀ c : Fin 4, a ≠ CAN_GAPABT c.val) (c : Fin 4) : EvtSet (settleCan s c) a i := by
  have told (x : State) (h : EvtSet x a i) : EvtSet ((x.evt (CAN_EVT c.val) 2).raise (Src.can c.val 4) c.val) a i :=
    (h.evt _ _).congr (raise_regs _ _ _)
  have gapped : EvtSet (s.updCan c fun x => { x with phase := .gap, txBusy := false }) a i := set_.congr rfl
  unfold Machine.settleCan
  dsimp only
  split
  · exact set_
  · split
    · split
      · exact set_
      · split
        · exact told _ (gapped.bump (other c))
        · exact told _ gapped
    · split
      · exact set_.congr rfl
      · exact set_

theorem EvtSet.settled (other : ∀ c : Fin 4, a ≠ CAN_GAPABT c.val) : EvtSet (Machine.settle s) a i := by
  have can (l : List (Fin 4)) (x : State) (h : EvtSet x a i) : EvtSet (l.foldl Machine.settleCan x) a i := by
    induction l generalizing x with
    | nil => exact h
    | cons c l ih => exact ih _ (h.settleCan other c)
  have pins (x : State) (h : EvtSet x a i) : EvtSet (settlePins x) a i := by
    unfold settlePins
    extract_lets y
    have kept : EvtSet y a i := h.congr rfl
    exact ((kept.gapEvents _ _ 2).gapEvents _ _ 1).gapEvents _ _ 0
  unfold Machine.settle
  dsimp only
  refine EvtSet.congr ?_ (settleFwd_regs _)
  refine EvtSet.congr (can _ _ (pins _ ?_)) (settleSignals_regs _)
  refine EvtSet.congr ?_ (settleModes_regs _)
  refine EvtSet.congr ?_ (settleBypass_regs _)
  refine EvtSet.congr ?_ (settleFuses_regs _)
  refine EvtSet.congr ?_ (settleHolds_regs _)
  exact EvtSet.congr ((set_.settleRange .a).settleRange .b) (settleLock_regs _)

end

theorem timEvt_apart : ∀ c : Fin 4, TIM_EVT ≠ CAN_GAPABT c.val := by decide

section
variable {r : Ring} {t : Nat} {s : State} {p : List Word}

/-! Delay reports (R111-R114, R119). -/

/-- The neighbour to which a ring leads. -/
def neighbour (s : State) (r : Ring) : Nat := match r with | .a => s.fab.east | .b => s.fab.west

/-- The entry of a delay report. -/
def delayEntry (s : State) (r : Ring) : QEntry :=
  ⟨Frame.mk' 1 1 6 (putFld s.ringNo 15 12 ||| putFld (neighbour s r) 11 0) s.srcWord 0 (delayReportWords s r), 20, s.now, 0, none, 0⟩

theorem completes_delayReportSend (known : neighbour s r ≠ 0) (numbered : s.fab.node ≠ 0) (open_ : portOff s (ringPort r) = false) :
    Completes (.delayReportSend r t) s fun u =>
      u.queue (ringPort r) 1 = s.queue (ringPort r) 1 ++
        [⟨Frame.mk' 1 1 6 (putFld s.ringNo 15 12 ||| putFld (neighbour s r) 11 0) s.srcWord 0 (delayReportWords (s.at t) r), 20, u.now, 0, none, 0⟩] ∧
      (u.ringT r).sentAt = some s.present := by
  let e := delayEntry (s.at t) r
  have classed : e.frame.cls = 1 := show fld (putFld 1 15 14 ||| putFld 1 10 8 ||| putFld 6 7 0) 15 14 = 1 by decide
  have noticed : noticeOn (s.at t) r e.frame = enqueue (s.at t) (ringPort r) e false :=
    (if_neg numbered).trans (submit_of_open (e := e) (fun h => by omega) open_)
  have row : exec (.delayReportSend r t) s = done ((enqueue (s.at t) (ringPort r) e false).updRingT r fun x => { x with sentAt := some s.present }) := by
    rw [← noticed]
    exact congrArg done (if_neg known)
  have now : (enqueue (s.at t) (ringPort r) e false).now = (s.at t).now := by rw [switchOnly_enqueue (s.at t)]
  refine completes_done row ⟨?_, ?_⟩
  · rw [settle_now, queue_congr (settle_sw _)]
    have joined := (queue_congr (enqueue_sw (s.at t) (ringPort r) e false) (ringPort r) 1).trans (queue_updQueue (s.at t) _ _ _ 1 _)
    rw [if_pos ⟨rfl, by rw [classed]⟩, if_neg (by decide), classed] at joined
    refine joined.trans ?_
    change s.queue (ringPort r) 1 ++ [e] = s.queue (ringPort r) 1 ++ [{ e with since := (enqueue (s.at t) (ringPort r) e false).now }]
    rw [now]
    rfl
  · rw [sentAt_settle]
    exact congrArg RingTime.sentAt (ringT_updRingT_self (enqueue (s.at t) (ringPort r) e false) r fun x => { x with sentAt := some s.present })

/-- The ring that a report names. -/
def reportRing (p : List Word) : Ring := if bitOf (wAt p 0) 15 then .b else .a

theorem reportRing_of (named : bitOf (wAt p 0) 15 = decide (r = .b)) : reportRing p = r := by
  unfold reportRing
  rw [named]
  cases r <;> rfl

/-- What a report says (R111). -/
def reportOf (s : State) (p : List Word) : DelayRep :=
  ⟨bitOf (wAt p 0) 14, bitOf (wAt p 0) 13, fld (wAt p 0) 11 0, ofWords [wAt p 1, wAt p 2], (wAt p 3 ++ wAt p 4 : DWord).toInt,
    fld (wAt p 5) 6 0, s.present⟩

theorem delayReport_eq (s : State) (p : List Word) : delayReport s p =
    if !(s.link (reportRing p).inPort).state.carries then s
    else if bitOf (wAt p 0) 14 then s.updRingT (reportRing p) fun x => { x with report := some (reportOf s p) }
    else s.updRingT (reportRing p) fun x => { x with report := x.report.map fun y => { y with valid := false, cycle := s.present } } := rfl

theorem completes_delayReport_valid (named : bitOf (wAt p 0) 15 = decide (r = .b)) (carries : (s.link r.inPort).state.carries = true)
    (valid : bitOf (wAt p 0) 14 = true) : Completes (.delayReport p t) s fun u =>
      ∃ x, (u.ringT r).report = some x ∧ x.valid = true ∧ x.lh = bitOf (wAt p 0) 13 ∧ x.hops = fld (wAt p 0) 11 0 ∧
        x.phi = (wAt p 1).toNat * 65536 + (wAt p 2).toNat ∧ x.x = ((wAt p 3 ++ wAt p 4 : DWord)).toInt ∧ x.n = fld (wAt p 5) 6 0 := by
  have row : exec (.delayReport p t) s = done ((s.at t).updRingT r fun x => { x with report := some (reportOf (s.at t) p) }) := by
    refine congrArg done ((delayReport_eq (s.at t) p).trans ?_)
    rw [reportRing_of named, if_neg (by rw [at_link, carries]; decide), if_pos valid]
  refine completes_done row ⟨reportOf (s.at t) p, ?_, valid, rfl, rfl, ?_, rfl, rfl⟩
  · rw [report_settle, ringT_updRingT_self]
  · simp [reportOf, ofWords]

theorem completes_delayReport_invalid (named : bitOf (wAt p 0) 15 = decide (r = .b)) (carries : (s.link r.inPort).state.carries = true)
    (invalid : bitOf (wAt p 0) 14 = false) : Completes (.delayReport p t) s fun u =>
      (u.ringT r).report = (s.ringT r).report.map fun x => { x with valid := false, cycle := s.present } := by
  have row : exec (.delayReport p t) s =
      done ((s.at t).updRingT r fun x => { x with report := x.report.map fun y => { y with valid := false, cycle := s.present } }) := by
    refine congrArg done ((delayReport_eq (s.at t) p).trans ?_)
    rw [reportRing_of named, if_neg (by rw [at_link, carries]; decide), if_neg (by rw [invalid]; decide)]
    rfl
  refine completes_done row ?_
  rw [report_settle, ringT_updRingT_self]
  rfl

theorem completes_delayReportStale {x : DelayRep} (known : (s.ringT r).report = some x) : Completes (.delayReportStale r t) s fun u =>
    (u.ringT r).report = some { x with valid := false } := by
  have row : exec (.delayReportStale r t) s =
      done ((s.at t).updRingT r fun x => { x with report := x.report.map fun y => { y with valid := false } }) := rfl
  refine completes_done row ?_
  rw [report_settle, ringT_updRingT_self, show ((s.at t).ringT r).report = some x from known]
  rfl

/-! Steps and the loop closure (R116, R120). -/

/-- A step to no later time passes over no instant. -/
theorem timekeeperStep_passes_none {d : Int} (none_ : d ≤ 0 ∨ s.time.sValid = false ∨ s.runSheet = none) :
    timekeeperStep s d = stepTime s d false := by
  unfold timekeeperStep
  dsimp only
  cases valid : s.time.sValid with
  | false => rfl
  | true =>
    cases sheet : s.runSheet with
    | none => rfl
    | some c =>
      have back : d ≤ 0 := none_.resolve_right fun h => h.elim (fun v => by rw [valid] at v; cases v) fun n => by rw [sheet] at n; cases n
      have noInstant (l : List InstKind) (k : DWord) : l.filter (fun i => decide (s.ring < sOf s k + i.ofs c) &&
          decide (sOf s k + i.ofs c ≤ s.ring + d)) = [] :=
        List.filter_eq_nil_iff.2 fun i _ => by
          rw [Bool.and_eq_true, decide_eq_true_iff, decide_eq_true_iff]
          omega
      dsimp only
      rw [noInstant]
      rfl

theorem completes_timekeeperStep {d : Int} (due : s.time.stepDue = some d) (none_ : d ≤ 0 ∨ s.time.sValid = false ∨ s.runSheet = none) :
    Completes (.timekeeperStep t) s fun u =>
      u.time.ofs = s.time.ofs + d ∧ u.time.stepDue = none ∧ u.time.fofs = s.time.fofs ∧
      u.reg TIM_STEPS = bumpW (s.reg TIM_STEPS) 1 ∧ (u.reg TIM_EVT).getLsbD 11 = true := by
  let y := ((moveTime (s.at t) d).updTime fun t => { t with stepDue := none }).bump TIM_STEPS
  have row : exec (.timekeeperStep t) s = done (timeSyncReady ((y.evt TIM_EVT 11).raise Src.timeStep 0)) := by
    refine congrArg done ?_
    rw [show (s.at t).time.stepDue = some d from due]
    exact timekeeperStep_passes_none (s := s.at t) none_
  have time : (timeSyncReady ((y.evt TIM_EVT 11).raise Src.timeStep 0)).time = y.time := by
    rw [onlyBar_timeSyncReady, hubOnly_raise]; rfl
  have regs : (timeSyncReady ((y.evt TIM_EVT 11).raise Src.timeStep 0)).regs = (y.evt TIM_EVT 11).regs :=
    (timeSyncReady_regs _).trans (raise_regs _ _ _)
  refine completes_done row ⟨?_, ?_, ?_, ?_, ?_⟩
  · rw [settle_time_ofs, time]; rfl
  · rw [settle_time_stepDue, time]; rfl
  · rw [settle_time_fofs, time]; rfl
  · rw [reg_settle_of_not_closing _ _ (by decide), reg_congr regs, State.evt, reg_setReg_ne _ _ (by decide)]
    exact reg_bump_self ((moveTime (s.at t) d).updTime fun t => { t with stepDue := none }) TIM_STEPS
  · exact EvtSet.settled ((evtSet_evt y TIM_EVT 11 (by decide)).congr regs) timEvt_apart

theorem completes_loopClosure (prompts : s.prompting = true) (known : (s.ringT r).report.isSome = true) (measured : (s.ringT r).loop ≠ 0) :
    Completes (.loopClosure r t) s fun u => (u.ringT r).closure = (s.ringT r).loop + (s.ringT r).nominal - markerDelay s r := by
  have row : exec (.loopClosure r t) s = done (loopClosure (s.at t) r) := rfl
  refine completes_done row ?_
  have judged : (loopClosure (s.at t) r).time.rings =
      ((s.at t).updRingT r fun x => { x with closure := x.loop + x.nominal - markerDelay (s.at t) r }).time.rings := by
    unfold loopClosure
    dsimp only
    have notNone : ((s.at t).ringT r).report.isNone = false := by
      rw [← Option.not_isSome, show ((s.at t).ringT r).report.isSome = true from known]; rfl
    rw [if_neg (by rw [show (s.at t).prompting = true from prompts, notNone, decide_eq_false (show ¬ ((s.at t).ringT r).loop = 0 from measured)]; decide)]
    split
    · rfl
    · split
      · rw [hubOnly_raise]
      · rfl
  rw [closure_settle, ringT_congr judged, ringT_updRingT_self]
  rfl

/-! Time notices (R122, R123). -/

theorem toWords_three (k : Nat) : toWords 3 k = [wd (k / 4294967296), wd (k / 65536), wd k] := by
  simp [toWords, Nat.shiftRight_eq_div_pow]

theorem wCycle_cycleW (w : Word) (k : DWord) (rest : List Word) : wCycle (w :: (cycleW k ++ rest)) 1 = k := by
  have high : wCycle (w :: (cycleW k ++ rest)) 1 = wd (k.toNat / 65536) ++ wd k.toNat := rfl
  rw [high]
  apply BitVec.eq_of_toNat_eq
  have := k.isLt
  simp only [wd, BitVec.toNat_append, BitVec.toNat_ofNat]
  rw [← Nat.shiftLeft_add_eq_or_of_lt (Nat.mod_lt _ (by decide)), Nat.shiftLeft_eq]
  omega

/-- What is kept of a notice (R123). -/
def noteOf (s : State) (p : List Word) : TimeNote :=
  ⟨wCycle p 1, timeOf ((p.drop 3).take 5), (wAt p 8 ++ wAt p 9 : DWord).toInt,
    (countAt s (wCycle p 1)).getD (match s.time.counts with | [] => 0 | x :: _ => x.2), bitOf (wAt p 0) 12, bitOf (wAt p 0) 13⟩

/-- It is kept as its domain's, and nothing of the other domain's or of ring time changes but the offset. -/
theorem keepNotice_keeps (s : State) (p : List Word) : TimeOnly s (keepNotice s p) ∧ (keepNotice s p).regs = s.regs ∧
    (keepNotice s p).time.ownZero = s.time.ownZero ∧
    (keepNotice s p).time.noteA = (if bitOf (wAt p 0) 14 then s.time.noteA else some (noteOf s p)) ∧
    (keepNotice s p).time.noteB = (if bitOf (wAt p 0) 14 then some (noteOf s p) else s.time.noteB) := by
  have formed (x : State) : TimeOnly x (formOffset x) ∧ (formOffset x).regs = x.regs ∧ (formOffset x).time.ownZero = x.time.ownZero ∧
      (formOffset x).time.noteA = x.time.noteA ∧ (formOffset x).time.noteB = x.time.noteB := by
    unfold formOffset
    split <;> exact ⟨rfl, rfl, rfl, rfl, rfl⟩
  unfold keepNotice
  extract_lets w k rate own note x
  let y := s.updTime fun t => if bitOf w 14 then { t with noteB := some note } else { t with noteA := some note }
  have noted : y.time.ownZero = s.time.ownZero ∧ y.time.noteA = (if bitOf w 14 then s.time.noteA else some note) ∧
      y.time.noteB = (if bitOf w 14 then some note else s.time.noteB) := by
    change (if bitOf w 14 then ({ s.time with noteB := some note } : TimeState) else { s.time with noteA := some note }).ownZero = _ ∧
      (if bitOf w 14 then ({ s.time with noteB := some note } : TimeState) else { s.time with noteA := some note }).noteA = _ ∧
      (if bitOf w 14 then ({ s.time with noteB := some note } : TimeState) else { s.time with noteA := some note }).noteB = _
    cases bitOf w 14 <;> exact ⟨rfl, rfl, rfl⟩
  obtain ⟨only, regs, zero, a, b⟩ := formed y
  obtain ⟨zero', a', b'⟩ := noted
  have kept : TimeOnly s x := (timeOnly_updTime s _).trans only
  have facts : x.regs = s.regs ∧ x.time.ownZero = s.time.ownZero ∧ x.time.noteA = (if bitOf w 14 then s.time.noteA else some note) ∧
      x.time.noteB = (if bitOf w 14 then some note else s.time.noteB) := ⟨regs, zero.trans zero', a.trans a', b.trans b'⟩
  clear_value x
  split
  · exact ⟨kept, facts⟩
  · exact ⟨kept.trans (timeOnly_updTime x _), facts⟩

/-- The notice of the domain that a notice names, kept or heard (R123). -/
theorem noteOf_kept {a b : Option TimeNote} (u : State) (kept : u.time.noteA = a ∧ u.time.noteB = b)
    (was : a = (if bitOf (wAt p 0) 14 then s.time.noteA else some (noteOf s p)) ∧
      b = (if bitOf (wAt p 0) 14 then some (noteOf s p) else s.time.noteB)) :
    (if bitOf (wAt p 0) 14 then u.time.noteB else u.time.noteA) = some (noteOf s p) ∧
    (if bitOf (wAt p 0) 14 then u.time.noteA = s.time.noteA else u.time.noteB = s.time.noteB) := by
  obtain ⟨rfl, rfl⟩ := kept
  obtain ⟨a, b⟩ := was
  rw [a, b]
  cases bitOf (wAt p 0) 14 <;> exact ⟨rfl, rfl⟩

theorem notes_of_acquired (s : State) (a : Int) (k : DWord) (v : Bool) :
    (s.updTime fun t => { t with s := a, sCycle := k, sValid := v }).time.noteA = s.time.noteA ∧
    (s.updTime fun t => { t with s := a, sCycle := k, sValid := v }).time.noteB = s.time.noteB := ⟨rfl, rfl⟩

theorem timeNotice_notes (s : State) (p : List Word) :
    (timeNotice s p).time.noteA = (keepNotice s p).time.noteA ∧ (timeNotice s p).time.noteB = (keepNotice s p).time.noteB := by
  unfold timeNotice
  extract_lets k x y n
  rw [show keepNotice s p = x from rfl]
  clear_value x
  have same : y.time.noteA = x.time.noteA ∧ y.time.noteB = x.time.noteB := notes_of_acquired x _ k true
  clear_value y
  split
  · exact ⟨rfl, rfl⟩
  · split
    · exact ⟨(notes_of_acquired y _ _ y.time.sValid).1.trans same.1, (notes_of_acquired y _ _ y.time.sValid).2.trans same.2⟩
    · exact same

theorem completes_timeNotice (bright : s.darkPath = false) : Completes (.timeNotice p t) s fun u =>
    ∃ x, (if bitOf (wAt p 0) 14 then u.time.noteB else u.time.noteA) = some x ∧ x.cycle = wCycle p 1 ∧
      x.rate = ((wAt p 8 ++ wAt p 9 : DWord)).toInt ∧ x.ptp = bitOf (wAt p 0) 13 ∧ x.hold = bitOf (wAt p 0) 12 ∧
      (if bitOf (wAt p 0) 14 then u.time.noteA = s.time.noteA else u.time.noteB = s.time.noteB) := by
  have row : exec (.timeNotice p t) s = done (timeNotice (s.at t) p) := congrArg done (delivered_of_bright (s := s.at t) bright _)
  refine completes_done row ?_
  obtain ⟨-, -, -, was⟩ := keepNotice_keeps (s.at t) p
  obtain ⟨a, b⟩ := timeNotice_notes (s.at t) p
  obtain ⟨noted, other⟩ := noteOf_kept (s := s.at t) (settle (timeNotice (s.at t) p))
    ⟨(settle_time_noteA _).trans a, (settle_time_noteB _).trans b⟩ was
  exact ⟨noteOf (s.at t) p, noted, rfl, rfl, rfl, rfl, other⟩

theorem bitOf_or (a b : Word) (i : Nat) : bitOf (a ||| b) i = (bitOf a i || bitOf b i) := BitVec.getLsbD_or

theorem bitOf_bitW (b : Bool) {i k : Nat} (hi : i < 16) : bitOf (bitW b i) k = (b && decide (k = i)) := getLsbD_bitW b hi

theorem bitOf_putFld (n : Nat) {hi lo j : Nat} (past : hi < j) (order : lo ≤ hi + 1) : bitOf (putFld n hi lo) j = false := by
  have small : (n % 2 ^ (hi + 1 - lo)) <<< lo < 2 ^ j := by
    rw [Nat.shiftLeft_eq]
    calc n % 2 ^ (hi + 1 - lo) * 2 ^ lo < 2 ^ (hi + 1 - lo) * 2 ^ lo :=
          Nat.mul_lt_mul_of_pos_right (Nat.mod_lt _ (by positivity)) (by positivity)
      _ = 2 ^ (hi + 1) := by rw [← Nat.pow_add]; congr 1; omega
      _ ≤ 2 ^ j := Nat.pow_le_pow_right (by decide) past
  unfold bitOf putFld wd
  rw [BitVec.getLsbD_ofNat, Nat.testBit_lt_two_pow small, Bool.and_false]

/-- The first word of a notice names the sender's domain, the next two its cycle (R122). -/
theorem timeNoticeWords_names (s : State) (rate : Int) :
    bitOf (wAt (timeNoticeWords s rate) 0) 14 = ownDom s ∧ wCycle (timeNoticeWords s rate) 1 = s.time.sCycle := by
  refine ⟨?_, wCycle_cycleW _ _ _⟩
  have first : wAt (timeNoticeWords s rate) 0 = bitW s.prompting 15 ||| bitW (ownDom s) 14 ||| bitW (ptpLocked s) 13 |||
    bitW (s.time.hold || s.time.ptpLost) 12 ||| putFld s.fab.node 11 0 := rfl
  rw [first]
  rw [bitOf_or, bitOf_or, bitOf_or, bitOf_or, bitOf_bitW _ (by decide), bitOf_bitW _ (by decide), bitOf_bitW _ (by decide),
    bitOf_bitW _ (by decide), bitOf_putFld _ (by decide) (by decide)]
  simp

theorem completes_timeNoticeSend {rate ptp : Int} (may : MayBroadcast s) (named : namedA s = true ∨ namedB s = true)
    (begun : s.time.ownZero.isSome = true) : Completes (.timeNoticeSend rate ⟨t, ptp⟩) s fun u =>
      Broadcast s u 1 5 (timeNoticeWords (s.at t) rate) ∧ u.time.noticeAt = some s.present ∧ u.time.ownZero = s.time.ownZero ∧
      (∃ x, (if ownDom s then u.time.noteB else u.time.noteA) = some x ∧ x.cycle = s.time.sCycle) ∧
      (if ownDom s then u.time.noteA = s.time.noteA else u.time.noteB = s.time.noteB) := by
  obtain ⟨y, hy⟩ : ∃ y, y = (s.at t).updCue fun c => { c with prompter := { c.prompter with
    noticed := match c.prompter.noticed with | some k => some k | none => some s.present } } := ⟨_, rfl⟩
  let ws := timeNoticeWords (s.at t) rate
  have words : timeNoticeWords y rate = ws := by rw [hy]; rfl
  have begins : domainBegin (s.at t) ptp false = s.at t := if_pos begun
  have notNone : (s.at t).time.ownZero.isNone = false := by
    rw [← Option.not_isSome, show (s.at t).time.ownZero.isSome = true from begun]; rfl
  have open_ : (!(namedA (s.at t) || namedB (s.at t))) = false := by
    rw [show namedA (s.at t) = namedA s from rfl, show namedB (s.at t) = namedB s from rfl]
    rcases named with h | h <;> simp [h]
  have row : exec (.timeNoticeSend rate ⟨t, ptp⟩) s =
      done ((keepNotice (broadcast y 1 5 ws) ws).updTime fun x => { x with noticeAt := some s.present }) := by
    refine congrArg done ((if_neg (by rw [open_]; decide)).trans ?_)
    rw [begins]
    refine (if_neg (by rw [notNone]; decide)).trans ?_
    rw [← words, hy]
    rfl
  obtain ⟨z, hz⟩ : ∃ z, z = broadcast y 1 5 ws := ⟨_, rfl⟩
  rw [← hz] at row
  have may' : MayBroadcast y := hy ▸ may
  have sent : SwitchOnly y z := hz ▸ switchOnly_broadcast may' (.inl (by decide)) (by decide)
  have time : z.time = s.time := by rw [sent, hy]; rfl
  obtain ⟨only, -, zero, was⟩ := keepNotice_keeps z ws
  obtain ⟨domain, cycle⟩ := timeNoticeWords_names (s.at t) rate
  obtain ⟨noted, other⟩ := noteOf_kept (s := z) (p := ws)
    (settle ((keepNotice z ws).updTime fun x => { x with noticeAt := some s.present }))
    ⟨settle_time_noteA _, settle_time_noteB _⟩ was
  rw [domain] at noted other
  rw [time] at other
  refine completes_done row ⟨?_, ?_, ?_, ⟨noteOf z ws, noted, cycle⟩, other⟩
  · have sw : ((keepNotice z ws).updTime fun x => { x with noticeAt := some s.present }).sw = (broadcast y 1 5 ws).sw := by
      rw [← hz]
      exact (congrArg State.sw only :)
    have now : ((keepNotice z ws).updTime fun x => { x with noticeAt := some s.present }).now = y.now :=
      (congrArg State.now only :).trans (congrArg State.now sent :)
    have told := broadcast_settle may' (.inl (by decide)) (by decide) sw now
    rw [hy] at told
    exact told
  · rw [settle_time_noticeAt]; rfl
  · rw [settle_time_ownZero]
    exact zero.trans (congrArg TimeState.ownZero time)

/-! Offsets, domains and holdover (R123, R124, R127). -/

theorem completes_offsetStale (valid : s.time.ofsValid = true) : Completes (.offsetStale t) s fun u =>
    u.time.ofsValid = false ∧ (u.reg TIM_EVT).getLsbD 7 = true ∧ u.time.ofs = s.time.ofs := by
  let y := (s.at t).updTime fun x => { x with ofsValid := false }
  have row : exec (.offsetStale t) s = done ((y.evt TIM_EVT 7).raise Src.offsetStale 0) := congrArg done (if_pos valid)
  have time : ((y.evt TIM_EVT 7).raise Src.offsetStale 0).time = y.time := by rw [hubOnly_raise]; rfl
  refine completes_done row ⟨?_, EvtSet.settled (EvtSet.congr (evtSet_evt y TIM_EVT 7 (by decide)) (raise_regs _ _ _)) timEvt_apart, ?_⟩
  · rw [settle_time_ofsValid, time]; rfl
  · rw [settle_time_ofs, time]; rfl

theorem completes_domainSettleEnd (t : Nat) (s : State) : Completes (.domainSettleEnd t) s fun u =>
    u.time.settle = 0 ∧ u.time.ofs = s.time.ofs ∧ u.time.dom = s.time.dom ∧ SameRegs s u [] := by
  have row : exec (.domainSettleEnd t) s = done ((s.at t).updTime fun x => { x with settle := 0 }) := rfl
  refine completes_done row ⟨?_, ?_, ?_, sameRegs_settle rfl⟩
  · rw [settle_time_settle]; rfl
  · rw [settle_time_ofs]; rfl
  · rw [settle_time_dom]; rfl

theorem completes_holdoverLimit (hold : s.time.hold = true) (fresh : s.time.gap = false) : Completes (.holdoverLimit t) s fun u =>
    u.time.gap = true ∧ u.time.hold = true ∧ (u.reg TIM_EVT).getLsbD 13 = true := by
  let y := (s.at t).updTime fun x => { x with gap := true, gapTaken := false }
  have row : exec (.holdoverLimit t) s = done ((y.evt TIM_EVT 13).raise Src.holdoverLimit 0) :=
    congrArg done (if_pos (by rw [show (s.at t).time.hold = true from hold, show (s.at t).time.gap = false from fresh]; rfl))
  have time : ((y.evt TIM_EVT 13).raise Src.holdoverLimit 0).time = y.time := by rw [hubOnly_raise]; rfl
  refine completes_done row ⟨?_, ?_, EvtSet.settled (EvtSet.congr (evtSet_evt y TIM_EVT 13 (by decide)) (raise_regs _ _ _)) timEvt_apart⟩
  · rw [settle_time_gap, time]; rfl
  · rw [settle_time_hold, time]; exact hold

end

/-- Settles O16, clause by clause: a report and a notice are each one frame on their rings' queues; what is received is kept as its
ring's or domain's. -/
theorem delayStepsAndDomains : Obligations.DelayStepsAndDomains := by
  unfold Obligations.DelayStepsAndDomains
  refine ⟨fun r t s => ⟨?_, fun p named carries => ⟨?_, ?_⟩, ?_, ?_, ?_⟩, fun t s => ⟨?_, ?_, ?_, ?_, ?_⟩⟩
  · exact fun known numbered open_ => completes_delayReportSend known numbered open_
  · exact fun valid => completes_delayReport_valid named carries valid
  · exact fun invalid => completes_delayReport_invalid named carries invalid
  · exact fun _ known => completes_delayReportStale known
  · exact fun _ due none_ => completes_timekeeperStep due none_
  · exact fun prompts known measured => completes_loopClosure prompts known measured
  · exact fun _ _ may named begun => completes_timeNoticeSend may named begun
  · exact fun _ bright => completes_timeNotice bright
  · exact completes_offsetStale
  · exact completes_domainSettleEnd t s
  · exact completes_holdoverLimit

end Sys2Proof.Machine
end

section
set_option Elab.async false
/-! SUPPORT. Restarts, wakes and the ends of stalls (R261-R263, R292), and the obligation about watched engines. -/

namespace Sys2Proof.Machine

section
variable {s : State} {n : Fin 12} {e : Fin 14} {t : Nat}

/-! The watchdog and the deadline (R262, R263). -/

theorem eng_restartEngine (s : State) (n m : Fin 12) (e d : Fin 14) :
    (restartEngine s n e).eng m d = ((s.updEng n e fun x => { x with lockCount := 0 }).updEng n e clearEngine).eng m d := by
  have released : ((releaseLock s n e).updEng n e clearEngine).eng m d =
      ((s.updEng n e fun x => { x with lockCount := 0 }).updEng n e clearEngine).eng m d := by
    by_cases same : m = n ∧ d = e
    · obtain ⟨rfl, rfl⟩ := same
      rw [eng_updEng_self, eng_updEng_self, eng_releaseLock]
    · rw [eng_updEng_other _ _ _ _ _ _ same, eng_updEng_other _ _ _ _ _ _ same, eng_releaseLock]
  unfold restartEngine
  dsimp only
  split
  · exact (eng_updCl_keeps (f := fun c => { c with broken := none }) (fun _ => rfl) _ m d).trans released
  · exact released

theorem lock_restartEngine (s : State) (n : Fin 12) (e : Fin 14) : ((restartEngine s n e).cl n).lock ≠ some e := by
  have released : (((releaseLock s n e).updEng n e clearEngine).cl n).lock ≠ some e := by
    rw [cl_updEng]; exact lock_releaseLock s n e
  unfold restartEngine
  dsimp only
  split
  · rw [cl_updCl_self]; exact released
  · exact released

theorem restartEngine_keeps (s : State) (n : Fin 12) (e : Fin 14) : (restartEngine s n e).mem = s.mem ∧ (restartEngine s n e).regs = s.regs := by
  have released : (releaseLock s n e).mem = s.mem ∧ (releaseLock s n e).regs = s.regs := by
    unfold releaseLock; dsimp only; split <;> exact ⟨rfl, rfl⟩
  unfold restartEngine
  dsimp only
  split <;> exact released

/-- What follows a restart outside the clusters and the memory leaves it a restart. -/
theorem restarted_settle {u : State} (clusters : u.clusters = (restartEngine s n e).clusters) (mem : u.mem = (restartEngine s n e).mem) :
    Restarted s (settle u) n e := by
  refine ⟨?_, ?_, sameMemory_settle (mem.trans (restartEngine_keeps s n e).1), fun m d other => ?_⟩
  · rw [settle_eng, eng_congr clusters, eng_restartEngine, eng_updEng_self, eng_updEng_self]; rfl
  · rw [settle_cl_lock, State.cl, clusters]
    exact lock_restartEngine s n e
  · rw [settle_eng, eng_congr clusters, eng_restartEngine, eng_updEng_other _ _ _ _ _ _ other, eng_updEng_other _ _ _ _ _ _ other]

theorem dogRegs (n : Fin 12) : UntracedReg (CLU_WDOGC n.val) ∧ CLU_WDOGC n.val ≠ CLU_EVT n.val ∧ closingReg (CLU_WDOGC n.val) = false ∧
    CLU_DLMISS n.val ≠ CLU_EVT n.val ∧ closingReg (CLU_DLMISS n.val) = false := by
  unfold UntracedReg; revert n; decide

theorem completes_watchdog_first (runs : dogRuns s n e = true) (first : (s.eng n e).wdFirst = false) :
    Completes (.watchdogExpire n e t) s fun u =>
      u.eng n e = { s.eng n e with wdFirst := true, wdTrap := !(s.eng n e).ta } ∧ (u.reg (CLU_EVT n.val)).getLsbD cluWDOG = true ∧
      SameRegs s u [CLU_EVT n.val] ∧ SameMemory s u ∧ OtherEngines s u n e := by
  let y := (s.at t).updEng n e fun x => { x with wdFirst := true, wdTrap := !x.ta }
  obtain ⟨evtClosing, -, -⟩ := closingReg_clu n
  have row : exec (.watchdogExpire n e t) s = done (y.cluEvt n cluWDOG) := by
    refine congrArg done ((if_neg (by rw [show dogRuns (s.at t) n e = true from runs]; decide)).trans ?_)
    exact if_pos (by rw [show ((s.at t).eng n e).wdFirst = false from first]; rfl)
  refine completes_done row ⟨?_, ?_, ?_, sameMemory_settle rfl, fun m d other => ?_⟩
  · exact (settle_eng _ n e).trans (eng_updEng_self (s.at t) n e _)
  · rw [reg_settle_of_not_closing _ _ evtClosing]; exact reg_evt_bit y _ _ (by decide)
  · exact ((KeepsRegs.of_regs (x := y) rfl _).evt (by simp) _).settle
  · exact (settle_eng _ m d).trans (eng_updEng_other (s.at t) n m e d _ other)

theorem completes_watchdog_second (runs : dogRuns s n e = true) (second : (s.eng n e).wdFirst = true) :
    Completes (.watchdogExpire n e t) s fun u =>
      Restarted s u n e ∧ u.reg (CLU_WDOGC n.val) = bumpW (s.reg (CLU_WDOGC n.val)) 1 ∧
      (u.reg (CLU_EVT n.val)).getLsbD cluWDRESTART = true := by
  let y := ((restartEngine (s.at t) n e).bump (CLU_WDOGC n.val)).cluEvt n cluWDRESTART
  obtain ⟨evtClosing, -, -⟩ := closingReg_clu n
  obtain ⟨evtUntraced, -⟩ := untracedReg_clu n
  obtain ⟨untraced, apart, closing, -, -⟩ := dogRegs n
  have row : exec (.watchdogExpire n e t) s = done ((y.cluRaise n 0xB e.val).trace (clTrace n) 8 e.val 0) := by
    refine congrArg done ((if_neg (by rw [show dogRuns (s.at t) n e = true from runs]; decide)).trans ?_)
    exact if_neg (by rw [show ((s.at t).eng n e).wdFirst = true from second]; decide)
  refine completes_done row ⟨restarted_settle (s := s.at t) ?_ ?_, ?_, ?_⟩
  · rw [trace_clusters, State.cluRaise, raise_clusters]; rfl
  · rw [trace_mem, State.cluRaise, raise_mem]; rfl
  · rw [reg_settle_of_not_closing _ _ closing, reg_trace _ _ _ _ _ untraced]
    have counted : y.reg (CLU_WDOGC n.val) = bumpW ((restartEngine (s.at t) n e).reg (CLU_WDOGC n.val)) 1 :=
      (reg_evt_ne _ _ apart).trans (reg_bump_self _ _)
    rw [reg_congr (restartEngine_keeps (s.at t) n e).2] at counted
    exact (reg_congr (raise_regs y _ _) _).trans counted
  · rw [reg_settle_of_not_closing _ _ evtClosing, reg_trace _ _ _ _ _ evtUntraced, State.cluRaise, reg_congr (raise_regs _ _ _)]
    exact reg_evt_bit _ _ _ (by decide)

theorem completes_deadlineMiss (runs : (s.eng n e).run = .running) (noIntm : (s.eng n e).intm = false) (late : (s.eng n e).synced = false)
    (armed : s.regSel (CLU_ENG_DL n.val) e.val ≠ 0) : Completes (.deadlineMiss n e t) s fun u =>
      u.eng n e = { s.eng n e with synced := true } ∧ u.reg (CLU_DLMISS n.val) = bumpW (s.reg (CLU_DLMISS n.val)) 1 ∧
      (u.reg (CLU_EVT n.val)).getLsbD cluDLMISS = true ∧ SameMemory s u ∧ OtherEngines s u n e := by
  let x := (s.at t).updEng n e fun x => { x with synced := true }
  let y := (x.bump (CLU_DLMISS n.val)).cluEvt n cluDLMISS
  obtain ⟨evtClosing, -, -⟩ := closingReg_clu n
  obtain ⟨-, -, -, apart, closing⟩ := dogRegs n
  have row : exec (.deadlineMiss n e t) s = done (y.cluRaise n 0x2 e.val) := by
    refine congrArg done (if_pos ⟨runs, ?_, ?_, armed⟩)
    · rw [show ((s.at t).eng n e).intm = false from noIntm]; rfl
    · rw [show ((s.at t).eng n e).synced = false from late]; rfl
  have clusters : (y.cluRaise n 0x2 e.val).clusters = x.clusters := raise_clusters y _ _
  refine completes_done row ⟨?_, ?_, ?_, sameMemory_settle (raise_mem y _ _), fun m d other => ?_⟩
  · rw [settle_eng, eng_congr clusters]; exact eng_updEng_self (s.at t) n e _
  · rw [reg_settle_of_not_closing _ _ closing]
    exact (reg_congr (raise_regs y _ _) _).trans ((reg_evt_ne _ _ apart).trans (reg_bump_self x _))
  · rw [reg_settle_of_not_closing _ _ evtClosing, State.cluRaise, reg_congr (raise_regs _ _ _)]
    exact reg_evt_bit _ _ _ (by decide)
  · rw [settle_eng, eng_congr clusters]; exact eng_updEng_other (s.at t) n m e d _ other

/-! Waits and stalls that end (R261, R292). -/

/-- An instruction of an engine that nothing halts completes with what it does. -/
theorem completes_resumed {c : Instr} {y : State} {x : Engine} {q : State → Prop} (row : exec c s = done (afterInstr y n e))
    (eng : y.eng n e = x) (keeps : x.haltPending = none ∧ x.stepping = false) (mem : y.mem = s.mem)
    (others : OtherEngines s y n e) (does : q (settle y)) :
    Completes c s fun u => u.eng n e = x ∧ q u ∧ SameMemory s u ∧ OtherEngines s u n e := by
  rw [afterInstr_of_no_halt (by rw [eng]; exact keeps.1) (by rw [eng]; exact keeps.2)] at row
  refine completes_done row ⟨?_, does, sameMemory_settle mem, fun m d other => ?_⟩
  · rw [settle_eng, eng]
  · rw [settle_eng]; exact others m d other

section
variable (h : MayComplete s n e)
include h

/-- The guard of a wake and of the end of a stall. -/
theorem MayComplete.passes (b : Bool) (holds : b = true) :
    ¬(((s.at t).eng n e).run ≠ .running ∨ ((s.at t).eng n e).intm ∨ migStopped (s.at t) n e ∨ !b) := by
  obtain ⟨runs, noIntm, noMig, -, -⟩ := h
  rintro (x | x | x | x)
  · exact x runs
  · rw [show ((s.at t).eng n e).intm = false from noIntm] at x; cases x
  · rw [show migStopped (s.at t) n e = false from noMig] at x; cases x
  · rw [holds] at x; cases x

theorem completes_wake_twait {r : Fin 16} (dark : (s.eng n e).dark = some (.twait r)) (due : (s.eng n e).wakeAt ≤ (s.at t).fring) :
    Completes (.engineWake n e t) s fun u => u.eng n e = { s.eng n e with dark := none } ∧ SameMemory s u ∧ OtherEngines s u n e := by
  let y := (s.at t).updEng n e fun x => { x with dark := none }
  have row : exec (.engineWake n e t) s = done (afterInstr (y.trace (clTrace n) 2 e.val 2) n e) := by
    refine congrArg done ?_
    unfold engWake
    dsimp only
    rw [show ((s.at t).eng n e).dark = some (.twait r) from dark]
    exact if_neg (h.passes _ (decide_eq_true due))
  have all := completes_resumed (q := fun _ => True) row ((eng_congr (trace_clusters _ _ _ _ _) n e).trans (eng_updEng_self (s.at t) n e _))
    ⟨h.noHalt, h.noStep⟩ (trace_mem _ _ _ _ _)
    (fun m d other => (eng_congr (trace_clusters _ _ _ _ _) m d).trans (eng_updEng_other (s.at t) n m e d _ other)) trivial
  obtain ⟨u, next, eng, -, rest⟩ := all
  exact ⟨u, next, eng, rest⟩

theorem completes_wake_recv {rd q : Fin 16} {w : Word} {rest : List Word} (dark : (s.eng n e).dark = some (.recv rd q))
    (words : (s.conduit n q).inw = w :: rest) : Completes (.engineWake n e t) s fun u =>
      u.eng n e = { s.eng n e with dark := none, regs := vset (s.eng n e).regs rd w } ∧ (u.conduit n q).inw = rest ∧ SameMemory s u ∧
      OtherEngines s u n e := by
  let y := (s.at t).updEng n e fun x => { x with dark := none }
  let z := setR (conduitPop y n q) n e rd w
  have wordsY : (y.conduit n q).inw = w :: rest := (congrArg Conduit.inw (conduit_updEng (s.at t) n n e _ q)).trans words
  have popped (m : Fin 12) (d : Fin 14) : (conduitPop y n q).eng m d = y.eng m d := eng_conduitPop y n m q d
  have row : exec (.engineWake n e t) s = done (afterInstr (z.trace (clTrace n) 2 e.val 1) n e) := by
    refine congrArg done ?_
    unfold engWake
    dsimp only
    rw [show ((s.at t).eng n e).dark = some (.recv rd q) from dark]
    refine (if_neg (h.passes _ ?_)).trans ?_
    · unfold darkHolds
      dsimp only
      rw [show ((s.at t).conduit n q).inw = w :: rest from words]
      rfl
    · dsimp only
      rw [show ((s.at t).conduit n q).inw = w :: rest from words]
      rfl
  refine completes_resumed row ?_ ⟨h.noHalt, h.noStep⟩ ?_ (fun m d other => ?_) ?_
  · have own : z.eng n e = { (conduitPop y n q).eng n e with regs := vset ((conduitPop y n q).eng n e).regs rd w } :=
      eng_updEng_self (conduitPop y n q) n e _
    rw [eng_congr (trace_clusters _ _ _ _ _), own, popped, eng_updEng_self]; rfl
  · rw [trace_mem]
    obtain ⟨b, eq⟩ := conduitPop_eq y n q
    exact (congrArg State.mem eq :)
  · rw [eng_congr (trace_clusters _ _ _ _ _)]
    exact ((eng_updEng_other (conduitPop y n q) n m e d _ other).trans (popped m d)).trans (eng_updEng_other (s.at t) n m e d _ other)
  · have conduit : (z.trace (clTrace n) 2 e.val 1).conduit n q = z.conduit n q := by
      rw [State.conduit, State.cl, trace_clusters]; rfl
    have own : z.conduit n q = (conduitPop y n q).conduit n q := conduit_updEng (conduitPop y n q) n n e _ q
    rw [settle_conduit, conduit, own, conduit_conduitPop, wordsY, List.tail_cons]

theorem completes_wake_edge {k pin : Nat} (dark : (s.eng n e).dark = some (.wait k pin)) (small : k ≤ 2)
    (latched : edgeLatched (s.eng n e) k pin = true) : Completes (.engineWake n e t) s fun u =>
      u.eng n e = { clearLatches k pin (s.eng n e) with dark := none, z := false, instSeen := false } ∧ SameMemory s u ∧
      OtherEngines s u n e := by
  let y := (s.at t).updEng n e fun x => { x with dark := none }
  have row : exec (.engineWake n e t) s = done (afterInstr ((waitDone y n e k pin false).trace (clTrace n) 2 e.val 0) n e) := by
    refine congrArg done ?_
    unfold engWake
    dsimp only
    rw [show ((s.at t).eng n e).dark = some (.wait k pin) from dark]
    refine if_neg (h.passes _ ?_)
    exact (wait_edge small (s.at t) n e pin).2.2.trans latched
  have clears (x : Engine) : (if k ≤ 2 then clearLatches k pin x else if k = 0xE then clearLatches 2 pin x else x) = clearLatches k pin x :=
    if_pos small
  have waited_ : waitDone y n e k pin false = y.updEng n e fun x => { clearLatches k pin x with z := false, instSeen := false } := by
    unfold waitDone
    simp only [clears]
  rw [waited_] at row
  obtain ⟨u, next, eng, -, rest⟩ := completes_resumed (x := { clearLatches k pin (s.eng n e) with dark := none, z := false, instSeen := false })
    (q := fun _ => True) row
    (by rw [eng_congr (trace_clusters _ _ _ _ _), eng_updEng_self, eng_updEng_self]; rfl) ⟨h.noHalt, h.noStep⟩ (trace_mem _ _ _ _ _)
    (fun m d other => by
      rw [eng_congr (trace_clusters _ _ _ _ _), eng_updEng_other _ _ _ _ _ _ other]
      exact eng_updEng_other (s.at t) n m e d _ other) trivial
  exact ⟨u, next, eng, rest⟩

/-- A stalled instruction that can go does what it does as if it issued now. -/
theorem stallEnd_go {op : EngOp} {y : State} (stalled : (s.eng n e).stall = some op)
    (does : engDo ((s.at t).updEng n e fun x => { x with stall := none }) n e op = .go y) :
    exec (.stallEnd n e t) s = done (afterInstr y n e) := by
  refine congrArg done ?_
  unfold stallEnd
  dsimp only
  rw [show ((s.at t).eng n e).stall = some op from stalled]
  dsimp only
  refine (if_neg fun x => h.passes (t := t) true rfl ?_).trans ?_
  · rcases x with x | x | x
    · exact .inl x
    · exact .inr (.inl x)
    · exact .inr (.inr (.inl x))
  · rw [does]

theorem completes_stall_sho {rd p : Fin 16} (stalled : (s.eng n e).stall = some (.sho rd p)) (own : ownsPacer s n e p = true)
    (mode : pacerMode (s.pacer n p) = 1) (free : (s.pacer n p).tx = none) : Completes (.stallEnd n e t) s fun u =>
      u.eng n e = { s.eng n e with stall := none } ∧ u.pacer n p = txPut (getR s n e rd) (s.pacer n p) ∧ SameMemory s u ∧
      OtherEngines s u n e := by
  let y := (s.at t).updEng n e fun x => { x with stall := none }
  have pacer : y.pacer n p = s.pacer n p := pacer_updEng (s.at t) n n e _ p
  have owns : ownsPacer y n e p = true := by unfold ownsPacer; rw [cl_updEng]; exact own
  have reg : getR y n e rd = getR s n e rd := by unfold getR; rw [eng_updEng_self]; rfl
  have does : engDo y n e (.sho rd p) = .go (y.updPacer n p (txPut (getR s n e rd))) := by
    simp [engDo, owns, pacer, mode, free, reg]
  refine completes_resumed (stallEnd_go h stalled does) ?_ ⟨h.noHalt, h.noStep⟩ rfl (fun m d other => ?_) ?_
  · rw [eng_updPacer]; exact eng_updEng_self (s.at t) n e _
  · rw [eng_updPacer]; exact eng_updEng_other (s.at t) n m e d _ other
  · rw [settle_pacer, pacer_updPacer_self, pacer]

theorem completes_stall_send {rd q : Fin 16} (stalled : (s.eng n e).stall = some (.send rd q)) (own : ownsConduit s n e q = true)
    (room : (s.conduit n q).out.length < 8) : Completes (.stallEnd n e t) s fun u =>
      u.eng n e = { s.eng n e with stall := none } ∧ (u.conduit n q).out = (s.conduit n q).out ++ [getR s n e rd] ∧ SameMemory s u ∧
      OtherEngines s u n e := by
  let y := (s.at t).updEng n e fun x => { x with stall := none }
  have conduit : y.conduit n q = s.conduit n q := conduit_updEng (s.at t) n n e _ q
  have owns : ownsConduit y n e q = true := by unfold ownsConduit; rw [cl_updEng]; exact own
  have reg : getR y n e rd = getR s n e rd := by unfold getR; rw [eng_updEng_self]; rfl
  have does : engDo y n e (.send rd q) = .go (conduitPush y n q (getR s n e rd)) := by
    simp only [engDo, owns, conduit, reg, Bool.not_true, Bool.false_eq_true, if_false]
    exact if_neg (by omega)
  refine completes_resumed (stallEnd_go h stalled does) ?_ ⟨h.noHalt, h.noStep⟩ rfl (fun m d other => ?_) ?_
  · rw [eng_conduitPush]; exact eng_updEng_self (s.at t) n e _
  · rw [eng_conduitPush]; exact eng_updEng_other (s.at t) n m e d _ other
  · rw [settle_conduit, conduit_conduitPush, conduit]

end

theorem completes_intmSafePointWait (inside : s.fintm = true) (runs : (s.eng n e).run = .running) (free : holdsLock s n e = false) :
    Completes (.intmSafePointWait n e t) s fun u =>
      u.eng n e = { s.eng n e with intm := true } ∧ SameRegs s u [] ∧ SameMemory s u ∧ OtherEngines s u n e := by
  have row : exec (.intmSafePointWait n e t) s = done ((s.at t).updEng n e fun x => { x with intm := true }) := by
    refine congrArg done ((if_pos runs).trans (if_pos ⟨inside, ?_⟩))
    rw [show holdsLock (s.at t) n e = false from free]; rfl
  refine completes_done row ⟨?_, sameRegs_settle rfl, sameMemory_settle rfl, fun m d other => ?_⟩
  · exact (settle_eng _ n e).trans (eng_updEng_self (s.at t) n e _)
  · exact (settle_eng _ m d).trans (eng_updEng_other (s.at t) n m e d _ other)

end

/-- Settles O30, clause by clause; an instruction that waited completes as if it issued now. -/
theorem enginesWatched : Obligations.EnginesWatched := by
  unfold Obligations.EnginesWatched
  refine fun n e t s => ⟨?_, ?_, ?_, fun h => ⟨?_, ?_, ?_, ?_, ?_⟩, ?_⟩
  · exact completes_watchdog_first
  · exact completes_watchdog_second
  · exact completes_deadlineMiss
  · exact fun _ dark due => completes_wake_twait h dark due
  · exact fun _ _ _ _ dark words => completes_wake_recv h dark words
  · exact fun _ _ dark small latched => completes_wake_edge h dark small latched
  · exact fun _ _ stalled own mode free => completes_stall_sho h stalled own mode free
  · exact fun _ _ stalled own room => completes_stall_send h stalled own room
  · exact completes_intmSafePointWait

end Sys2Proof.Machine
end

section
set_option Elab.async false
/-! SUPPORT. A signal of endpoint 5 that is too long for its class, and the obligation about the end of requests (R142, R218, R235). -/

namespace Sys2Proof.Machine

/-- A signal with 31 data words, in the class URGENT as the forwarding entries of endpoint 5 name it (R235). -/
def longSignal : Descriptor :=
  { ep := 5, op := .sig, dring := 0, dnode := 1, count := 0, burst := false, len := 0, cg := false, cell := 0, addr := 0, set := 0
    cycle := 0, data := List.replicate 31 0 }

/-- A node with both ring links up whose endpoint 5 holds that signal. -/
def longHeld : State :=
  { State.reset with
    links := State.reset.links.map fun x => { x with state := .up }
    brg := { State.reset.brg with eps := vupd State.reset.brg.eps 5 fun e => { e with heldSigs := [longSignal] } } }

/-- Its frame of more than 32 payload words is retired for its size (R142), and no ring queue holds one. -/
theorem queue_longHeld (r : Ring) :
    (releaseSigs (longHeld.at 0) 5).queue (ringPort r) (reqClass longHeld longSignal (txnWords (descFields longSignal 0)).length) = [] := by
  have none_ : ((releaseSigs (longHeld.at 0) 5).queue (ringPort r)
      (reqClass longHeld longSignal (txnWords (descFields longSignal 0)).length)).isEmpty = true := by
    cases r <;> decide +kernel
  exact List.isEmpty_iff.1 none_

/-- Refutes O26: the descriptor of a held signal may have any number of data words, and the class of endpoint 5 does not fall from
URGENT to CONTROL with its length; the frame of `longSignal` is retired for its size and joins no queue. -/
theorem not_requestsEnd : ¬ Obligations.RequestsEnd := by
  unfold Obligations.RequestsEnd
  intro claim
  obtain ⟨-, -, -, -, released⟩ := claim 5 0 0 0 longHeld
  obtain ⟨u, next, -, -, r, e, mem, -⟩ := released longSignal (by decide +kernel) (by decide +kernel) rfl rfl (by decide +kernel)
    (by decide +kernel) (by decide) (by decide +kernel) (by decide +kernel) (by decide +kernel)
  have row : exec (.signalRelease 5 0) longHeld = .next (settle (releaseSigs (longHeld.at 0) 5)) := rfl
  have same : u = settle (releaseSigs (longHeld.at 0) 5) := Host.Outcome.next.inj (next.symm.trans row)
  rw [same, queue_congr (settle_sw _)] at mem
  have seq : (vget longHeld.brg.eps 5).seq.toNat = 0 := by decide +kernel
  rw [seq, queue_longHeld] at mem
  cases mem

end Sys2Proof.Machine
end

section
set_option Elab.async false
/-! SUPPORT. A request of an endpoint joins the queue of its class at a ring port (R160, R165, R202-R205). -/

namespace Sys2Proof.Machine

/-! Fields of the header words (R144). -/

theorem toNat_putFld (n hi lo : Nat) (order : lo ≤ hi) (fits : hi < 16) : (putFld n hi lo).toNat = n % 2 ^ (hi + 1 - lo) * 2 ^ lo := by
  have small : n % 2 ^ (hi + 1 - lo) * 2 ^ lo < 65536 := by
    calc n % 2 ^ (hi + 1 - lo) * 2 ^ lo < 2 ^ (hi + 1 - lo) * 2 ^ lo :=
          Nat.mul_lt_mul_of_pos_right (Nat.mod_lt _ (by positivity)) (by positivity)
      _ = 2 ^ (hi + 1) := by rw [← Nat.pow_add]; congr 1; omega
      _ ≤ 2 ^ 16 := Nat.pow_le_pow_right (by decide) (by omega)
  unfold putFld wd
  rw [Nat.shiftLeft_eq, BitVec.toNat_ofNat, Nat.mod_eq_of_lt small]

/-- A field above others is added to them. -/
theorem toNat_or_below (a b : Word) {k n : Nat} (high : a.toNat = n * 2 ^ k) (low : b.toNat < 2 ^ k) : (a ||| b).toNat = n * 2 ^ k + b.toNat := by
  rw [BitVec.toNat_or, high, ← Nat.shiftLeft_eq, Nat.shiftLeft_add_eq_or_of_lt low]

theorem toNat_dest (ring node : Nat) : (putFld ring 15 12 ||| putFld node 11 0).toNat = ring % 16 * 4096 + node % 4096 := by
  have low : (putFld node 11 0).toNat = node % 4096 := (toNat_putFld node 11 0 (by decide) (by decide)).trans (Nat.mul_one _)
  have high : (putFld ring 15 12).toNat = ring % 16 * 2 ^ 12 := toNat_putFld ring 15 12 (by decide) (by decide)
  rw [toNat_or_below _ _ high (by rw [low]; exact Nat.mod_lt _ (by decide)), low]
  norm_num

theorem fld_dest (ring node : Nat) :
    fld (putFld ring 15 12 ||| putFld node 11 0) 15 12 = ring % 16 ∧ fld (putFld ring 15 12 ||| putFld node 11 0) 11 0 = node % 4096 := by
  unfold fld
  rw [toNat_dest, Nat.shiftRight_eq_div_pow, Nat.shiftRight_eq_div_pow]
  omega

theorem toNat_head (cls type sub : Nat) :
    (putFld cls 15 14 ||| putFld type 10 8 ||| putFld sub 7 0).toNat = cls % 4 * 16384 + type % 8 * 256 + sub % 256 := by
  have c : (putFld cls 15 14).toNat = cls % 4 * 2 ^ 14 := toNat_putFld cls 15 14 (by decide) (by decide)
  have t : (putFld type 10 8).toNat = type % 8 * 2 ^ 8 := toNat_putFld type 10 8 (by decide) (by decide)
  have l : (putFld sub 7 0).toNat = sub % 256 := (toNat_putFld sub 7 0 (by decide) (by decide)).trans (Nat.mul_one _)
  have ct : (putFld cls 15 14 ||| putFld type 10 8).toNat = (cls % 4 * 64 + type % 8) * 2 ^ 8 := by
    rw [toNat_or_below _ _ c (by rw [t]; omega), t]; omega
  rw [toNat_or_below _ _ ct (by rw [l]; omega), l]
  omega

theorem cls_mk (cls type sub : Nat) (dest src : Word) (tag : Nat) (payload : List Word) :
    (Frame.mk' cls type sub dest src tag payload).cls = cls % 4 := by
  change fld (putFld cls 15 14 ||| putFld type 10 8 ||| putFld sub 7 0) 15 14 = _
  unfold fld
  rw [toNat_head, Nat.shiftRight_eq_div_pow]
  omega

theorem type_mk (cls type sub : Nat) (dest src : Word) (tag : Nat) (payload : List Word) :
    (Frame.mk' cls type sub dest src tag payload).type = type % 8 := by
  change fld (putFld cls 15 14 ||| putFld type 10 8 ||| putFld sub 7 0) 10 8 = _
  unfold fld
  rw [toNat_head, Nat.shiftRight_eq_div_pow]
  omega

/-! The roads of the ring: what decides whether and where a frame may leave. -/

/-- The links and what holds a ring port down are as before. -/
structure SameRoads (s u : State) : Prop where
  links : u.links = s.links
  held : u.sw.faultHeld = s.sw.faultHeld
  down : u.sw.down = s.sw.down

theorem SameRoads.portOff {s u : State} (h : SameRoads s u) (r : Ring) : portOff u (ringPort r) = portOff s (ringPort r) := by
  have a (x : State) : Machine.portOff x (ringPort .a) = (vget x.sw.faultHeld 0 || vget x.sw.down 0 || !(x.link .east).state.carries) := rfl
  have b (x : State) : Machine.portOff x (ringPort .b) = (vget x.sw.faultHeld 1 || vget x.sw.down 1 || !(x.link .west).state.carries) := rfl
  cases r
  · rw [a, a, h.held, h.down, link_congr h.links]
  · rw [b, b, h.held, h.down, link_congr h.links]

theorem SameRoads.up {s u : State} (h : SameRoads s u) (up : RingsUp s) : RingsUp u :=
  ⟨(h.portOff .a).trans up.1, (h.portOff .b).trans up.2⟩

theorem RingsUp.open_ {s : State} (h : RingsUp s) (r : Ring) : portOff s (ringPort r) = false := by
  cases r
  · exact h.1
  · exact h.2

/-! Entries that join the queues. -/

/-- An entry has joined its queue at a ring port, in the switch alone; every other entry stands as before. -/
structure Joins (s u : State) (e : QEntry) : Prop where
  only : SwitchOnly s u
  roads : SameRoads s u
  regs : KeepsRegs s u [SWQ_EVT]
  joined : ∃ r, u.queue (ringPort r) e.frame.cls = s.queue (ringPort r) e.frame.cls ++ [e]
  grows : ∀ p c, s.queue p c <+: u.queue p c

theorem joins_enqueue (s : State) (r : Ring) (e : QEntry) : Joins s (enqueue s (ringPort r) e false) e := by
  have queues (p : Fin 20) (c : Nat) : (enqueue s (ringPort r) e false).queue p c =
      if p = ringPort r ∧ c % 4 = e.frame.cls % 4 then s.queue (ringPort r) e.frame.cls ++ [e] else s.queue p c :=
    (queue_congr (enqueue_sw s _ e false) p c).trans (queue_updQueue s _ p _ c _)
  refine ⟨switchOnly_enqueue _ _ _ _, ⟨?_, ?_, ?_⟩, keepsRegs_enqueue _ _ _ _, ⟨r, (queues _ _).trans (if_pos ⟨rfl, rfl⟩)⟩, fun p c => ?_⟩
  · rw [switchOnly_enqueue s]
  · rw [enqueue_sw]; rfl
  · rw [enqueue_sw]; rfl
  · rw [queues]
    split
    · rename_i same
      obtain ⟨rfl, cls⟩ := same
      have one : s.queue (ringPort r) c = s.queue (ringPort r) e.frame.cls := by
        unfold State.queue
        rw [queueIx_inj.2 ⟨rfl, cls⟩]
      rw [one]
      exact List.prefix_append _ _
    · exact List.prefix_rfl

/-- A change of the switch that leaves queues and roads may come before it. -/
theorem Joins.after {s x u : State} {e : QEntry} (h : Joins x u e) (only : SwitchOnly s x) (queues : x.sw.queues = s.sw.queues)
    (held : x.sw.faultHeld = s.sw.faultHeld) (down : x.sw.down = s.sw.down) (regs : x.regs = s.regs) : Joins s u e := by
  have queue (p : Fin 20) (c : Nat) : x.queue p c = s.queue p c := by unfold State.queue; rw [queues]
  obtain ⟨r, joined⟩ := h.joined
  refine ⟨only.trans h.only, ⟨?_, h.roads.held.trans held, h.roads.down.trans down⟩, (KeepsRegs.of_regs regs _).trans h.regs,
    ⟨r, by rw [joined, queue]⟩, fun p c => by rw [← queue]; exact h.grows p c⟩
  exact h.roads.links.trans (by rw [only])

theorem pinFlow_keeps (s : State) (ep cls : Nat) (dest : Word) :
    (pinFlow s ep cls dest).2.sw.queues = s.sw.queues ∧ (pinFlow s ep cls dest).2.sw.faultHeld = s.sw.faultHeld ∧
    (pinFlow s ep cls dest).2.sw.down = s.sw.down ∧ (pinFlow s ep cls dest).2.regs = s.regs ∧
    (pinFlow s ep cls dest).2.links = s.links := by
  unfold pinFlow
  split <;> exact ⟨rfl, rfl, rfl, rfl, rfl⟩

/-- A frame to one node of the own ring joins the queue of its flow's ring (R165). -/
theorem joins_sendFrame {s : State} {input ep : Nat} {f : Frame} {o : Option Origin} {joints : Nat} (here : f.dring = s.ringNo)
    (single : f.dnode < 4000) (fits : ¬ (f.cls = 0 ∧ f.payload.length > 32)) (up : RingsUp s) :
    Joins s (sendFrame s input ep f o joints) ⟨f, input, s.now, 0, o, joints⟩ := by
  obtain ⟨queues, held, down, regs, links⟩ := pinFlow_keeps s ep f.cls f.w1
  have one : bothRings s f = false := by
    unfold bothRings multi
    rw [decide_eq_false (by omega)]
    rfl
  have target : ringTarget s f.w1 = some f.dnode := if_pos here
  have sent : sendFrame s input ep f o joints =
      submit (pinFlow s ep f.cls f.w1).2 (ringPort (pinFlow s ep f.cls f.w1).1) ⟨f, input, s.now, 0, o, joints⟩ := by
    unfold sendFrame
    extract_lets e
    rw [one, if_neg (by decide), target]
    exact if_neg fun h => h.1 here
  have open_ : portOff (pinFlow s ep f.cls f.w1).2 (ringPort (pinFlow s ep f.cls f.w1).1) = false :=
    ((SameRoads.mk links held down).up up).open_ _
  rw [sent, submit_of_open (e := ⟨f, input, s.now, 0, o, joints⟩) fits open_]
  exact (joins_enqueue _ _ _).after (switchOnly_pinFlow _ _ _ _) queues held down regs

/-! Requests (R202-R205, R218). -/

/-- A posted request counts as posted at its endpoint, and nothing else of the node changes. -/
theorem postedAdd_eq (s : State) (ep : Nat) (f : Frame) : postedAdd s ep f = { s with brg := (postedAdd s ep f).brg } := by
  unfold postedAdd
  extract_lets copies
  split <;> rfl

/-- The entry of a request's frame to a node. -/
def requestEntry (s : State) (d : Descriptor) (node tag seq : Nat) : QEntry :=
  ⟨requestFrame s d node tag seq, 6, s.now, 0, some ⟨d.ep, tag, seq, d.op.code⟩, 0⟩

theorem requestFrame_cls (s : State) (d : Descriptor) (node tag seq : Nat) :
    (requestFrame s d node tag seq).cls = reqClass s d (txnWords (descFields d seq)).length % 4 := cls_mk _ _ _ _ _ _ _

theorem requestFrame_dest {s : State} {d : Descriptor} {node : Nat} (tag seq : Nat) (ring : d.dring < 16) (single : node < 4096) :
    (requestFrame s d node tag seq).dring = d.dring ∧ (requestFrame s d node tag seq).dnode = node := by
  have dest := fld_dest d.dring node
  rw [Nat.mod_eq_of_lt ring, Nat.mod_eq_of_lt single] at dest
  exact dest

/-- A request of an endpoint other than 5 is URGENT only where its payload is short enough (R142, R230, R234). -/
theorem requestFrame_fits (s : State) {d : Descriptor} (node tag seq : Nat) (other : d.ep ≠ 5) :
    ¬ ((requestFrame s d node tag seq).cls = 0 ∧ (requestFrame s d node tag seq).payload.length > 32) := by
  rw [requestFrame_cls]
  rintro ⟨urgent, long⟩
  have long : (txnWords (descFields d seq)).length > 32 := long
  have short : d.op = .commit ∨ d.op = .abort → (txnWords (descFields d seq)).length = 5 := by
    rintro (h | h) <;> simp [txnWords, descFields, h, toWords]
  have byClass : d.op ≠ .commit → d.op ≠ .abort → reqClass s d (txnWords (descFields d seq)).length =
      epClass s d.ep (txnWords (descFields d seq)).length := by
    intro notCommit notAbort
    unfold reqClass
    split
    · rename_i h; exact absurd h notCommit
    · rename_i h; exact absurd h notAbort
    · exact if_neg other
  by_cases commit : d.op = .commit
  · rw [short (.inl commit)] at long; omega
  by_cases abort : d.op = .abort
  · rw [short (.inr abort)] at long; omega
  rw [byClass commit abort] at urgent
  unfold epClass at urgent
  dsimp only at urgent
  have small : fld (s.regSel BRG_EP_CFG d.ep) 15 14 < 4 := Nat.mod_lt _ (by decide)
  split at urgent
  · omega
  · rename_i notBoth
    exact notBoth ⟨by omega, long⟩

/-- The endpoint's posted requests with this one (R218). -/
def postedWith (s : State) (d : Descriptor) (node tag seq : Nat) : State :=
  if d.op.posted then postedAdd s d.ep (requestFrame s d node tag seq) else s

theorem postedWith_eq (s : State) (d : Descriptor) (node tag seq : Nat) :
    postedWith s d node tag seq = { s with brg := (postedWith s d node tag seq).brg } := by
  unfold postedWith
  split
  · exact postedAdd_eq _ _ _
  · rfl

theorem joins_sendRequest {s : State} {d : Descriptor} {node tag seq : Nat} (here : d.dring = s.ringNo) (ring : s.ringNo < 16)
    (single : node < 4000) (foreign : node ≠ s.fab.node)
    (fits : ¬ ((requestFrame s d node tag seq).cls = 0 ∧ (requestFrame s d node tag seq).payload.length > 32)) (up : RingsUp s) :
    Joins (postedWith s d node tag seq) (sendRequest s d node tag seq) (requestEntry s d node tag seq) := by
  obtain ⟨x, hx⟩ : ∃ x, x = postedWith s d node tag seq := ⟨_, rfl⟩
  have eq : x = { s with brg := x.brg } := by rw [hx]; exact postedWith_eq s d node tag seq
  obtain ⟨dring, dnode⟩ := requestFrame_dest (s := s) tag seq (here ▸ ring) (show node < 4096 by omega)
  have upX : RingsUp x := by rw [eq]; exact up
  have now : x.now = s.now := by rw [eq]
  have sent : Joins x (sendFrame x 6 d.ep (requestFrame s d node tag seq) (some ⟨d.ep, tag, seq, d.op.code⟩) 0) (requestEntry s d node tag seq) := by
    have ringNo : x.ringNo = s.ringNo := by rw [eq]; rfl
    have joins := joins_sendFrame (s := x) (input := 6) (ep := d.ep) (f := requestFrame s d node tag seq)
      (o := some ⟨d.ep, tag, seq, d.op.code⟩) (joints := 0) (by rw [dring, here, ringNo]) (by rw [dnode]; exact single) fits upX
    rw [now] at joins
    exact joins
  have straight (r : Ring) : Joins x (submit x (ringPort r) (requestEntry s d node tag seq)) (requestEntry s d node tag seq) := by
    rw [submit_of_open (e := requestEntry s d node tag seq) fits (upX.open_ r)]
    exact joins_enqueue _ _ _
  unfold sendRequest
  extract_lets f dest o s1 last
  rw [← hx]
  change Joins x _ _
  rw [if_neg fun own => foreign own.2, show s1 = x from hx.symm]
  clear_value last
  split
  · split
    · split
      · exact straight _
      · exact sent
    · exact sent
  · exact sent

end Sys2Proof.Machine
end

section
set_option Elab.async false
/-! SUPPORT. A descriptor issued, held back or turned away (R202-R208, R227, R230), and the obligation about the issue of requests. -/

namespace Sys2Proof.Machine

theorem queue_mod (s : State) (p : Fin 20) (c : Nat) : s.queue p (c % 4) = s.queue p c := by
  unfold State.queue
  rw [queueIx_inj.2 ⟨rfl, Nat.mod_mod c 4⟩]

/-- An entry of a request that stands in its queue at the end of the command. -/
theorem requestQueued_settle {s z : State} {d : Descriptor} {node tag seq : Nat} {r : Ring}
    (mem : requestEntry s d node tag seq ∈ z.queue (ringPort r) (requestFrame s d node tag seq).cls) (now : z.now = s.now) :
    RequestQueued s (settle z) d node tag seq := by
  refine ⟨r, requestEntry s d node tag seq, ?_, rfl, ?_, rfl⟩
  · rw [queue_congr (settle_sw z)]
    rw [requestFrame_cls, queue_mod] at mem
    exact mem
  · rw [settle_now, now]; rfl

theorem Joins.mem {s z : State} {e : QEntry} (h : Joins s z e) : ∃ r, e ∈ z.queue (ringPort r) e.frame.cls := by
  obtain ⟨r, joined⟩ := h.joined
  exact ⟨r, by rw [joined]; exact List.mem_append_right _ (List.mem_singleton_self e)⟩

/-! The judgement of a descriptor (R175, R176, R205-R208). -/

theorem judge_none {s : State} {d : Descriptor} (fine : judge s d = none) :
    opBad d.op d.cg = false ∧ s.fab.node ≠ 0 ∧ d.dnode ≠ 0 ∧ destBad d = false := by
  unfold judge at fine
  split at fine
  · cases fine
  rename_i op
  split at fine
  · cases fine
  split at fine
  · cases fine
  rename_i numbered
  split at fine
  · cases fine
  rename_i dest
  exact ⟨Bool.eq_false_iff.2 op, fun h => numbered (.inl h), fun h => numbered (.inr h), Bool.eq_false_iff.2 dest⟩

/-! A request that goes. -/

/-- A staged write counts in its set before it goes (R229). -/
def grown (s : State) (d : Descriptor) : State := if d.op = .stg then s.updBrg fun b => { b with sets := setGrow b.sets d } else s

theorem grown_keeps (s : State) (d : Descriptor) (i : Fin 32) : grown s d = { s with brg := (grown s d).brg } ∧
    (grown s d).brg.opens = s.brg.opens ∧ (grown s d).brg.eps = s.brg.eps ∧ mustHold (grown s d) i d = mustHold s i d ∧
    freeTag (grown s d) d.ep = freeTag s d.ep ∧ expectedOf (grown s d) d = expectedOf s d ∧ sigMustWait (grown s d) i d = sigMustWait s i d := by
  unfold grown
  split <;> exact ⟨rfl, rfl, rfl, rfl, rfl, rfl, rfl⟩

section
variable {s : State} {d : Descriptor} {i : Fin 32} {via : ReqVia} {tag t : Nat}

theorem place_ep (at_ : i.val = d.ep) : place? 32 d.ep = some i := by rw [← at_, place?_val]

theorem issue_goes (at_ : i.val = d.ep) (fine : judge s d = none) (notCommit : d.op ≠ .commit) (noneHeld : (vget s.brg.eps i).held = [])
    (mayGo : mustHold s i d = false) (noWait : sigMustWait s i d = false) : issue s d via = issueNow (grown s d) i d via := by
  obtain ⟨-, -, eps, hold, -, -, wait⟩ := grown_keeps s d i
  unfold issue
  rw [place_ep at_, fine]
  dsimp only
  rw [if_neg notCommit]
  change (if (!(vget (grown s d).brg.eps i).held.isEmpty || mustHold (grown s d) i d) = true then _ else
    if sigMustWait (grown s d) i d = true then _ else issueNow (grown s d) i d via) = _
  rw [eps, noneHeld, hold, mayGo, wait, noWait]
  rfl

theorem issue_waits (at_ : i.val = d.ep) (fine : judge s d = none) (notCommit : d.op ≠ .commit) (mustStay : mustHold s i d = true) :
    issue s d via = holdBack (grown s d) i d via := by
  obtain ⟨-, -, -, hold, -, -, -⟩ := grown_keeps s d i
  unfold issue
  rw [place_ep at_, fine]
  dsimp only
  rw [if_neg notCommit]
  change (if (!(vget (grown s d).brg.eps i).held.isEmpty || mustHold (grown s d) i d) = true then holdBack (grown s d) i d via else
    if sigMustWait (grown s d) i d = true then _ else issueNow (grown s d) i d via) = _
  rw [hold, mustStay, Bool.or_true]
  rfl

/-- The request has taken its sequence number and its tag (R202, R203). -/
def opened (s : State) (i : Fin 32) (d : Descriptor) (tag : Nat) (via : ReqVia) : State :=
  (takeSeq s i).2.updBrg fun b => { b with opens := b.opens ++ [⟨d, tag, (vget s.brg.eps i).seq.toNat, 0, expectedOf s d, [], via⟩] }

theorem issueNow_open (notPosted : d.op.posted = false) (free : freeTag s d.ep = some tag) :
    issueNow s i d via = sendFrames (opened s i d tag via) d tag (vget s.brg.eps i).seq.toNat := by
  unfold issueNow
  dsimp only [takeSeq]
  rw [notPosted, if_neg (by decide), free]
  rfl

theorem issueNow_posted (posted : d.op.posted = true) :
    issueNow s i d via = sendFrames (takeSeq s i).2 d (if d.op = .cancel then d.cell else 0) (vget s.brg.eps i).seq.toNat := by
  unfold issueNow
  dsimp only [takeSeq]
  rw [posted, if_pos rfl]

theorem seq_takeSeq (s : State) (i : Fin 32) : (vget (takeSeq s i).2.brg.eps i).seq = (vget s.brg.eps i).seq + 1 ∧
    (vget (takeSeq s i).2.brg.eps i).posted = (vget s.brg.eps i).posted ∧ (vget (takeSeq s i).2.brg.eps i).held = (vget s.brg.eps i).held ∧
    (takeSeq s i).2.brg.opens = s.brg.opens := by
  simp only [takeSeq, State.updBrg, vget_vupd, if_true, and_self]

theorem sendFrames_one {seq : Nat} (notGwr : d.op ≠ .gwr) (notRange : d.op ≠ .range) : sendFrames s d tag seq = sendRequest s d d.dnode tag seq := by
  unfold sendFrames
  split
  · rename_i h; exact absurd h notRange
  · rename_i h; exact absurd h notGwr
  · rfl

end

/-- Nothing but the bridge's own state stands between two states. -/
def BridgeOnly (s u : State) : Prop := u = { s with brg := u.brg }

theorem BridgeOnly.trans {s t u : State} (h : BridgeOnly s t) (g : BridgeOnly t u) : BridgeOnly s u := by
  unfold BridgeOnly at *
  rw [g, h]

theorem bridgeOnly_grown (s : State) (d : Descriptor) : BridgeOnly s (grown s d) := (grown_keeps s d 0).1
theorem bridgeOnly_postedWith (s : State) (d : Descriptor) (node tag seq : Nat) : BridgeOnly s (postedWith s d node tag seq) :=
  postedWith_eq s d node tag seq

theorem BridgeOnly.entry {s u : State} (h : BridgeOnly s u) (d : Descriptor) (node tag seq : Nat) :
    requestEntry u d node tag seq = requestEntry s d node tag seq := by
  unfold BridgeOnly at h
  rw [h]
  rfl

section
variable {s y : State} {d : Descriptor} {tag seq t : Nat} (only : BridgeOnly s y) (other : d.ep ≠ 5) (here : d.dring = s.ringNo)
  (ring : s.ringNo < 16) (up : RingsUp s)
include only other here ring up

/-- A request sent from a state in which only the bridge has changed joins its queue (R160, R165). -/
theorem joins_sendRequest_of_bridge {node : Nat} (single : node < 4000) (foreign : node ≠ s.fab.node) :
    Joins (postedWith y d node tag seq) (sendRequest y d node tag seq) (requestEntry s d node tag seq) := by
  rw [← only.entry]
  have ringNo : y.ringNo = s.ringNo := by rw [only]; rfl
  have node_ : y.fab.node = s.fab.node := by rw [only]
  have upY : RingsUp y := by rw [only]; exact up
  exact joins_sendRequest (here.trans ringNo.symm) (by rw [ringNo]; exact ring) single (by rw [node_]; exact foreign)
    (requestFrame_fits y node tag seq other) upY

theorem requestQueued_sendRequest {node : Nat} (single : node < 4000) (foreign : node ≠ s.fab.node) :
    RequestQueued s (settle (sendRequest y d node tag seq)) d node tag seq := by
  have joins := joins_sendRequest_of_bridge (tag := tag) (seq := seq) only other here ring up single foreign
  obtain ⟨r, mem⟩ := joins.mem
  refine requestQueued_settle mem ?_
  have before : (postedWith y d node tag seq).now = s.now := by rw [only.trans (bridgeOnly_postedWith y d node tag seq)]
  rw [joins.only]
  exact before

theorem brg_sendRequest {node : Nat} (single : node < 4000) (foreign : node ≠ s.fab.node) :
    (sendRequest y d node tag seq).brg = (postedWith y d node tag seq).brg := by
  rw [(joins_sendRequest_of_bridge (tag := tag) (seq := seq) only other here ring up single foreign).only]

end

section
variable {s : State} {d : Descriptor} {i : Fin 32} {via : ReqVia} {tag t : Nat}

theorem bridgeOnly_opened (s : State) (i : Fin 32) (d : Descriptor) (tag : Nat) (via : ReqVia) : BridgeOnly s (opened s i d tag via) := rfl
theorem bridgeOnly_takeSeq (s : State) (i : Fin 32) : BridgeOnly s (takeSeq s i).2 := rfl

/-- A request that is issued: what its endpoint and the list of open requests hold, and its frame (R202, R203). -/
theorem issue_open (at_ : i.val = d.ep) (other : d.ep ≠ 5) (fine : judge s d = none) (noneHeld : (vget s.brg.eps i).held = [])
    (mayGo : mustHold s i d = false) (noWait : sigMustWait s i d = false) (notPosted : d.op.posted = false) (notGwr : d.op ≠ .gwr)
    (notRange : d.op ≠ .range) (free : freeTag s d.ep = some tag) (up : RingsUp s) (here : d.dring = s.ringNo) (single : d.dnode < 4000)
    (ring : s.ringNo < 16) (foreign : d.dnode ≠ s.fab.node) :
    (settle (issue s d via)).brg.opens = s.brg.opens ++ [⟨d, tag, (vget s.brg.eps i).seq.toNat, 0, expectedOf s d, [], via⟩] ∧
    (vget (settle (issue s d via)).brg.eps i).seq = (vget s.brg.eps i).seq + 1 ∧
    RequestQueued s (settle (issue s d via)) d d.dnode tag (vget s.brg.eps i).seq.toNat := by
  have notCommit : d.op ≠ .commit := fun h => by rw [h] at notPosted; cases notPosted
  obtain ⟨-, opens, eps, -, freeG, expected, -⟩ := grown_keeps s d i
  have seq : (vget (grown s d).brg.eps i).seq = (vget s.brg.eps i).seq := by rw [eps]
  have only : BridgeOnly s (opened (grown s d) i d tag via) := (bridgeOnly_grown s d).trans (bridgeOnly_opened _ _ _ _ _)
  rw [issue_goes at_ fine notCommit noneHeld mayGo noWait, issueNow_open notPosted (freeG.trans free), sendFrames_one notGwr notRange, seq]
  have brg := brg_sendRequest (tag := tag) (seq := (vget s.brg.eps i).seq.toNat) only other here ring up single foreign
  rw [show postedWith (opened (grown s d) i d tag via) d d.dnode tag (vget s.brg.eps i).seq.toNat = opened (grown s d) i d tag via from
    if_neg (by rw [notPosted]; decide)] at brg
  refine ⟨?_, ?_, requestQueued_sendRequest only other here ring up single foreign⟩
  · rw [settle_brg_opens, brg]
    change (takeSeq (grown s d) i).2.brg.opens ++ [⟨d, tag, (vget (grown s d).brg.eps i).seq.toNat, 0, expectedOf (grown s d) d, [], via⟩] = _
    rw [(seq_takeSeq (grown s d) i).2.2.2, opens, seq, expected]
  · rw [settle_brg_eps, brg]
    exact (seq_takeSeq (grown s d) i).1.trans (by rw [seq])

theorem completes_issue {p : State → Prop} (h : p (settle (issue (s.at t) d .plain))) : Completes (.requestIssue d t) s p :=
  completes_done rfl h

theorem completes_issue_posted (at_ : i.val = d.ep) (other : d.ep ≠ 5) (fine : judge s d = none) (noneHeld : (vget s.brg.eps i).held = [])
    (mayGo : mustHold (s.at t) i d = false) (noWait : sigMustWait s i d = false) (op : d.op = .pwr ∨ d.op = .cancel) (up : RingsUp s)
    (here : d.dring = s.ringNo) (single : d.dnode < 4000) (ring : s.ringNo < 16) (foreign : d.dnode ≠ s.fab.node) :
    Completes (.requestIssue d t) s fun u =>
      u.brg.opens = s.brg.opens ∧ (vget u.brg.eps i).seq = (vget s.brg.eps i).seq + 1 ∧
      (vget u.brg.eps i).posted = (vget s.brg.eps i).posted ++ [descDest d] ∧
      RequestQueued s u d d.dnode (if d.op = .cancel then d.cell else 0) (vget s.brg.eps i).seq.toNat := by
  have posted : d.op.posted = true := by rcases op with h | h <;> rw [h] <;> rfl
  have notCommit : d.op ≠ .commit := by rcases op with h | h <;> rw [h] <;> decide
  have notStg : d.op ≠ .stg := by rcases op with h | h <;> rw [h] <;> decide
  have notGwr : d.op ≠ .gwr := by rcases op with h | h <;> rw [h] <;> decide
  have notRange : d.op ≠ .range := by rcases op with h | h <;> rw [h] <;> decide
  have plain : grown (s.at t) d = s.at t := if_neg notStg
  let cell := if d.op = .cancel then d.cell else 0
  have only : BridgeOnly (s.at t) (takeSeq (s.at t) i).2 := bridgeOnly_takeSeq _ _
  have goes : issue (s.at t) d .plain = sendRequest (takeSeq (s.at t) i).2 d d.dnode cell (vget s.brg.eps i).seq.toNat := by
    rw [issue_goes (s := s.at t) at_ fine notCommit noneHeld mayGo noWait, plain, issueNow_posted posted, sendFrames_one notGwr notRange]
    rfl
  have brg := brg_sendRequest (tag := cell) (seq := (vget s.brg.eps i).seq.toNat) only other here ring up single foreign
  have one : bothRings (takeSeq (s.at t) i).2 (requestFrame (takeSeq (s.at t) i).2 d d.dnode cell (vget s.brg.eps i).seq.toNat) = false := by
    obtain ⟨-, dnode⟩ := requestFrame_dest (s := (takeSeq (s.at t) i).2) (d := d) cell (vget s.brg.eps i).seq.toNat
      (show d.dring < 16 from here ▸ ring) (show d.dnode < 4096 by omega)
    unfold bothRings multi
    rw [dnode, decide_eq_false (by omega)]
    rfl
  have counted : (postedWith (takeSeq (s.at t) i).2 d d.dnode cell (vget s.brg.eps i).seq.toNat).brg =
      { (takeSeq (s.at t) i).2.brg with
        eps := vupd (takeSeq (s.at t) i).2.brg.eps i fun e => { e with posted := e.posted ++ [descDest d] } } := by
    unfold postedWith postedAdd
    rw [posted, if_pos rfl, one, place_ep at_]
    rfl
  obtain ⟨seq, list, -, opens⟩ := seq_takeSeq (s.at t) i
  refine completes_issue ⟨?_, ?_, ?_, ?_⟩
  · rw [goes, settle_brg_opens, brg, counted]
    exact opens
  · rw [goes, settle_brg_eps, brg, counted]
    simp only [vget_vupd, if_true]
    exact seq
  · rw [goes, settle_brg_eps, brg, counted]
    simp only [vget_vupd, if_true]
    rw [list]
    rfl
  · rw [goes]
    exact requestQueued_sendRequest only other here ring up single foreign

/-- A request without a free tag waits at its endpoint (R202). -/
theorem completes_issue_untagged (at_ : i.val = d.ep) (fine : judge s d = none) (notCommit : d.op ≠ .commit) (notPosted : d.op.posted = false)
    (noTag : freeTag s d.ep = none) : Completes (.requestIssue d t) s fun u =>
      (vget u.brg.eps i).held = (vget s.brg.eps i).held ++ [⟨d, .plain⟩] ∧ (vget u.brg.eps i).seq = (vget s.brg.eps i).seq ∧
      u.sw.queues = s.sw.queues := by
  have notCancel : d.op ≠ .cancel := fun h => by rw [h] at notPosted; cases notPosted
  have stays : mustHold (s.at t) i d = true := by
    unfold mustHold
    rw [show freeTag (s.at t) d.ep = none from noTag, decide_eq_true notCancel]
    simp
  have waits : issue (s.at t) d .plain = holdBack (grown (s.at t) d) i d .plain := issue_waits (s := s.at t) at_ fine notCommit stays
  obtain ⟨only, -, eps, -⟩ := grown_keeps (s.at t) d i
  let y := grown (s.at t) d
  have held : (holdBack y i d .plain).brg.eps = vupd y.brg.eps i (fun e => { e with held := e.held ++ [⟨d, .plain⟩] }) ∧
      (holdBack y i d .plain).sw.queues = y.sw.queues := by
    unfold holdBack
    extract_lets x
    split <;> exact ⟨rfl, rfl⟩
  obtain ⟨epsH, queuesH⟩ := held
  refine completes_issue ⟨?_, ?_, ?_⟩
  · rw [waits, settle_brg_eps, epsH, show y.brg.eps = s.brg.eps from eps]
    simp only [vget_vupd, if_true]
  · rw [waits, settle_brg_eps, epsH, show y.brg.eps = s.brg.eps from eps]
    simp only [vget_vupd, if_true]
  · rw [waits, settle_sw, queuesH, show y.sw = s.sw from (congrArg State.sw only :)]

/-- A descriptor that is turned away (R206): its status goes to the requester, and of the bridge only the sets can change. -/
theorem issue_refused {st : Nat} (at_ : i.val = d.ep) (bad : judge s d = some st) (routed : st ≠ stNO_ROUTE) (notPosted : d.op.posted = false) :
    ∃ sets, issue s d via = giveCompletion (s.updBrg fun b => { b with sets := sets }) via
      ⟨d.ep, 0, (vget s.brg.eps i).seq.toNat, d.op, st, []⟩ := by
  obtain ⟨sets, fails⟩ : ∃ sets, setFails s d st = s.updBrg fun b => { b with sets := sets } := by
    unfold setFails
    split
    · exact ⟨s.brg.sets, rfl⟩
    · exact ⟨_, rfl⟩
  refine ⟨sets, ?_⟩
  unfold issue
  rw [place_ep at_, bad]
  dsimp only
  rw [fails]
  unfold localStatus
  rw [if_neg routed, notPosted, place_ep at_]
  rfl

theorem completes_issue_refused {st : Nat} (at_ : i.val = d.ep) (bad : judge s d = some st) (routed : st ≠ stNO_ROUTE)
    (notPosted : d.op.posted = false) (service : d.ep ≠ 0) : Completes (.requestIssue d t) s fun u =>
      u.brg.completions = s.brg.completions ++ [⟨d.ep, 0, (vget s.brg.eps i).seq.toNat, d.op, st, []⟩] ∧ u.brg.opens = s.brg.opens ∧
      u.sw = s.sw := by
  obtain ⟨sets, refused⟩ := issue_refused (s := s.at t) (via := .plain) at_ bad routed notPosted
  have given : giveCompletion ((s.at t).updBrg fun b => { b with sets := sets }) .plain ⟨d.ep, 0, (vget s.brg.eps i).seq.toNat, d.op, st, []⟩ =
      (s.at t).updBrg fun b => { b with sets := sets
                                        completions := b.completions ++ [⟨d.ep, 0, (vget s.brg.eps i).seq.toNat, d.op, st, []⟩] } := if_neg service
  refine completes_issue ?_
  rw [refused.trans given]
  exact ⟨by rw [settle_brg_completions]; rfl, by rw [settle_brg_opens]; rfl, by rw [settle_sw]; rfl⟩

/-- COMMIT marks its set for closing (R230). -/
theorem completes_commit (at_ : i.val = d.ep) (fine : judge s { d with op := .commit } = none) : Completes (.commitDescriptor d t) s fun u =>
    u.sw = s.sw ∧ u.brg.opens = s.brg.opens ∧
    ∃ x ∈ u.brg.sets, x.ep = d.ep ∧ x.set = d.set ∧ x.cycle = d.cycle ∧ x.closing = some .plain := by
  let sets : List OpenSet :=
    if (setOpen s d.ep d.set).isSome then s.brg.sets.map fun x =>
      if x.ep = d.ep ∧ x.set = d.set then { x with closing := some .plain, cycle := d.cycle } else x
    else s.brg.sets ++ [⟨d.ep, d.set, d.cycle, 0, none, some .plain⟩]
  have marks : exec (.commitDescriptor d t) s = done ((s.at t).updBrg fun b => { b with sets := sets }) := by
    refine congrArg done ?_
    unfold issue
    rw [show place? 32 ({ d with op := .commit } : Descriptor).ep = some i from place_ep at_,
      show judge (s.at t) { d with op := .commit } = none from fine]
    rfl
  refine completes_done marks ⟨by rw [settle_sw]; rfl, by rw [settle_brg_opens]; rfl, ?_⟩
  rw [settle_brg_sets]
  change ∃ x ∈ sets, _
  unfold sets
  cases known : setOpen s d.ep d.set with
  | none => exact ⟨⟨d.ep, d.set, d.cycle, 0, none, some .plain⟩, by simp, rfl, rfl, rfl, rfl⟩
  | some x =>
    have mem := List.mem_of_find?_eq_some known
    have set_ : x.set = d.set := of_decide_eq_true (List.find?_some known :)
    obtain ⟨mem, ep⟩ := List.mem_filter.1 mem
    have ep : x.ep = d.ep := of_decide_eq_true ep
    exact ⟨{ x with closing := some .plain, cycle := d.cycle }, by
      simp only [Option.isSome_some, if_true]
      exact List.mem_map.2 ⟨x, mem, if_pos ⟨ep, set_⟩⟩, ep, set_, rfl, rfl⟩

end

/-! A RANGE goes to each of its nodes (R227). -/

theorem requestEntry_congr {s u : State} {d : Descriptor} (small : d.ep < 65536) (only : SwitchOnly s u) (regs : KeepsRegs s u [SWQ_EVT])
    (node tag seq : Nat) : requestEntry u d node tag seq = requestEntry s d node tag seq := by
  have cfg : u.regSel BRG_EP_CFG d.ep = s.regSel BRG_EP_CFG d.ep := regs _ _ small (by decide)
  have fab : u.fab = s.fab := by rw [only]
  have now : u.now = s.now := by rw [only]
  have cls (n : Nat) : reqClass u d n = reqClass s d n := by unfold reqClass epClass; rw [cfg]
  have src : u.srcWord = s.srcWord := by rw [State.srcWord, State.ringNo, fab]; rfl
  unfold requestEntry requestFrame
  dsimp only
  rw [cls, src, now]

/-- After requests to several nodes each has its entry in a ring queue. -/
structure AllJoined (s u : State) (d : Descriptor) (tag seq : Nat) (l : List Nat) : Prop where
  only : SwitchOnly s u
  roads : SameRoads s u
  regs : KeepsRegs s u [SWQ_EVT]
  mem : ∀ n ∈ l, ∃ r, requestEntry s d n tag seq ∈ u.queue (ringPort r) (requestFrame s d n tag seq).cls
  grows : ∀ p c, s.queue p c <+: u.queue p c

theorem allJoined_each {s : State} {d : Descriptor} {tag seq : Nat} (small : d.ep < 65536) (other : d.ep ≠ 5) (notPosted : d.op.posted = false) :
    ∀ (l : List Nat) (y : State), y.fab = s.fab → RingsUp y → d.dring = s.ringNo → s.ringNo < 16 → (∀ n ∈ l, n < 4000 ∧ n ≠ s.fab.node) →
      AllJoined y (y.each l fun x n => sendRequest x d n tag seq) d tag seq l
  | [], y, _, _, _, _, _ => ⟨.refl y, ⟨rfl, rfl, rfl⟩, .of_regs rfl _, fun _ h => absurd h List.not_mem_nil, fun _ _ => List.prefix_rfl⟩
  | n :: l, y, fab, up, here, ring, nodes => by
    obtain ⟨single, foreign⟩ := nodes n List.mem_cons_self
    have ringNo : y.ringNo = s.ringNo := by rw [State.ringNo, fab]; rfl
    have joins := joins_sendRequest_of_bridge (s := y) (y := y) (tag := tag) (seq := seq) rfl other (here.trans ringNo.symm)
      (by rw [ringNo]; exact ring) up single (by rw [fab]; exact foreign)
    rw [show postedWith y d n tag seq = y from if_neg (by rw [notPosted]; decide)] at joins
    have fabZ : (sendRequest y d n tag seq).fab = s.fab := by rw [joins.only]; exact fab
    have rest := allJoined_each (s := s) (tag := tag) (seq := seq) small other notPosted l (sendRequest y d n tag seq) fabZ
      (joins.roads.up up) here ring (fun m hm => nodes m (List.mem_cons_of_mem _ hm))
    refine ⟨joins.only.trans rest.only, ?_, joins.regs.trans rest.regs, fun m hm => ?_, fun p c => (joins.grows p c).trans (rest.grows p c)⟩
    · exact ⟨rest.roads.links.trans joins.roads.links, rest.roads.held.trans joins.roads.held, rest.roads.down.trans joins.roads.down⟩
    · rcases List.mem_cons.1 hm with rfl | later
      · obtain ⟨r, mem⟩ := joins.mem
        exact ⟨r, (rest.grows _ _).subset mem⟩
      · obtain ⟨r, mem⟩ := rest.mem m later
        have same := requestEntry_congr small joins.only joins.regs m tag seq
        rw [same, show requestFrame (sendRequest y d n tag seq) d m tag seq = requestFrame y d m tag seq from congrArg QEntry.frame same] at mem
        exact ⟨r, mem⟩

theorem completes_range {s : State} {d : Descriptor} {i : Fin 32} {tag t : Nat} (at_ : i.val = d.ep) (other : d.ep ≠ 5)
    (fine : judge s { d with op := .range } = none) (noneHeld : (vget s.brg.eps i).held = [])
    (mayGo : mustHold (s.at t) i { d with op := .range } = false) (free : freeTag s d.ep = some tag) (here : d.dring = s.ringNo)
    (ring : s.ringNo < 16) (up : RingsUp s) (foreign : s.fab.node < d.dnode ∨ d.dnode + d.count ≤ s.fab.node) :
    Completes (.range d t) s fun u =>
      u.brg.opens = s.brg.opens ++ [⟨{ d with op := .range }, tag, (vget s.brg.eps i).seq.toNat, 0, expectedOf s { d with op := .range }, [], .plain⟩] ∧
      (vget u.brg.eps i).seq = (vget s.brg.eps i).seq + 1 ∧
      ∀ k < d.count, RequestQueued s u { d with op := .range } (d.dnode + k) tag (vget s.brg.eps i).seq.toNat := by
  obtain ⟨d', hd⟩ : ∃ d' : Descriptor, d' = { d with op := .range } := ⟨_, rfl⟩
  have op : d'.op = .range := by rw [hd]
  have ep : d'.ep = d.ep := by rw [hd]
  have ring' : d'.dring = s.ringNo := by rw [hd]; exact here
  rw [← hd] at fine mayGo ⊢
  obtain ⟨-, -, -, dest⟩ := judge_none fine
  have nodes : ∀ n ∈ (List.range d.count).map (d.dnode + ·), n < 4000 ∧ n ≠ s.fab.node := by
    intro n mem
    obtain ⟨k, hk, rfl⟩ := List.mem_map.1 mem
    have hk := List.mem_range.1 hk
    have within : ¬ (d.count = 0 ∨ d.count > 3999 ∨ d.dnode + d.count - 1 > 3999) := by
      rw [hd] at dest
      exact of_decide_eq_false dest
    omega
  have plain : grown (s.at t) d' = s.at t := if_neg (by rw [op]; decide)
  have wait : sigMustWait (s.at t) i d' = false := by unfold sigMustWait; rw [op]; rfl
  let y := opened (s.at t) i d' tag .plain
  let z := y.each ((List.range d.count).map (d.dnode + ·)) fun x n => sendRequest x d' n tag (vget s.brg.eps i).seq.toNat
  have only : BridgeOnly (s.at t) y := bridgeOnly_opened _ _ _ _ _
  have goes : issue (s.at t) d' .plain = z := by
    rw [issue_goes (s := s.at t) (at_.trans ep.symm) fine (by rw [op]; decide) noneHeld mayGo wait, plain,
      issueNow_open (s := s.at t) (by rw [op]; rfl) (show freeTag (s.at t) d'.ep = some tag by rw [ep]; exact free)]
    unfold sendFrames
    rw [op]
    dsimp only
    rw [show expectedOf (opened (s.at t) i d' tag .plain) d' = (List.range d.count).map (d.dnode + ·) by rw [hd]; rfl]
    rfl
  have all : AllJoined y z d' tag (vget s.brg.eps i).seq.toNat ((List.range d.count).map (d.dnode + ·)) :=
    allJoined_each (s := s) (by rw [ep, ← at_]; omega) (by rw [ep]; exact other) (by rw [op]; rfl) _ y rfl up ring' ring nodes
  have brg : z.brg = y.brg := by rw [all.only]
  have row : exec (.range d t) s = done z := by
    refine congrArg done ?_
    rw [← goes, hd]
  obtain ⟨seq, -, -, opens⟩ := seq_takeSeq (s.at t) i
  refine completes_done row ⟨?_, ?_, fun k hk => ?_⟩
  · rw [settle_brg_opens, brg]
    change (takeSeq (s.at t) i).2.brg.opens ++ _ = _
    rw [opens]
    rfl
  · rw [settle_brg_eps, brg]
    exact seq
  · obtain ⟨r, mem⟩ := all.mem (d.dnode + k) (List.mem_map.2 ⟨k, List.mem_range.2 hk, rfl⟩)
    refine requestQueued_settle (s := s.at t) mem ?_
    rw [all.only]
    rfl

/-- Settles O25, clause by clause: a request that may go has its number, its tag and its frames; one that may not waits or is turned away. -/
theorem requestsIssued : Obligations.RequestsIssued := by
  unfold Obligations.RequestsIssued
  refine fun d i t s at_ other => ⟨?_, ?_, ?_, ?_, ?_, ?_⟩
  · rintro fine ⟨noneHeld, mayGo, noWait⟩ notPosted notGwr notRange tag free up here single ring foreign
    exact completes_issue (issue_open (s := s.at t) at_ other fine noneHeld mayGo noWait notPosted notGwr notRange free up here single ring foreign)
  · rintro fine ⟨noneHeld, mayGo, noWait⟩ op up here single ring foreign
    exact completes_issue_posted at_ other fine noneHeld mayGo noWait op up here single ring foreign
  · exact fun fine notCommit notPosted noTag => completes_issue_untagged at_ fine notCommit notPosted noTag
  · exact fun _ bad routed notPosted service => completes_issue_refused at_ bad routed notPosted service
  · rintro tag fine ⟨noneHeld, mayGo, -⟩ free here ring up foreign
    exact completes_range at_ other fine noneHeld mayGo free here ring up foreign
  · exact completes_commit at_

end Sys2Proof.Machine
end

section
set_option Elab.async false
/-! SUPPORT. Ticks of a pacer and the words of a conduit at the hub (R243-R251), and the obligation about them. -/

namespace Sys2Proof.Machine

/-! Pacers (R243, R244). -/

section
variable {s : State} {n : Fin 12} {q : Fin 16} {t m : Nat} {y : Pacer}

/-- A change of a pacer that sets no status event changes the pacer alone. -/
theorem pacerTo_quiet (ovr : y.ovr = (s.pacer n q).ovr) (und : y.und = (s.pacer n q).und) (qerr : y.qerr = (s.pacer n q).qerr)
    (ferr : y.ferr = (s.pacer n q).ferr) : pacerTo s n q y = s.updPacer n q fun _ => y := by
  unfold pacerTo
  dsimp only
  rw [ovr, und, qerr, ferr]
  simp

/-- A beat of a pacer that sets no status event is all that its command does. -/
theorem completes_beat {b : PacerBeat} (beats : pacerBeat (s.at t) n q b = pacerTo (s.at t) n q y) (ovr : y.ovr = (s.pacer n q).ovr)
    (und : y.und = (s.pacer n q).und) (qerr : y.qerr = (s.pacer n q).qerr) (ferr : y.ferr = (s.pacer n q).ferr) :
    Completes (.pacerTick n q b t) s fun u => u.pacer n q = y ∧ SameRegs s u [] ∧ SameMemory s u := by
  have row : exec (.pacerTick n q b t) s = done ((s.at t).updPacer n q fun _ => y) :=
    congrArg done (beats.trans (pacerTo_quiet (s := s.at t) ovr und qerr ferr))
  refine completes_done row ⟨?_, sameRegs_settle rfl, sameMemory_settle rfl⟩
  exact (settle_pacer _ n q).trans (pacer_updPacer_self (s.at t) n q _)

/-- The pacer at the start of a PWM period (R244). -/
def pwmStarted (x : Pacer) (m : Nat) : Pacer :=
  let y := { x with cnt := x.nextCnt.getD x.cnt, nextCnt := none, dataOut := decide (x.nextCnt.getD x.cnt ≠ 0), nextTick := m + 1 }
  match x.nextPer with
  | none => y
  | some v => { y with per := v, nextPer := none, grid := x.grid + m * perTicks x, nextTick := 1 }

theorem pwmStart_eq (x : Pacer) (m : Nat) : pwmStart m { x with nextTick := m + 1 } = pwmStarted x m := by
  unfold pwmStart pwmStarted
  dsimp only
  cases x.nextPer <;> rfl

theorem pwmStarted_status (x : Pacer) (m : Nat) : (pwmStarted x m).ovr = x.ovr ∧ (pwmStarted x m).und = x.und ∧
    (pwmStarted x m).qerr = x.qerr ∧ (pwmStarted x m).ferr = x.ferr := by
  unfold pwmStarted
  split <;> exact ⟨rfl, rfl, rfl, rfl⟩

theorem completes_tick_pwm (due : tickDue (max s.now t) (s.pacer n q) = some m) (mode : pacerMode (s.pacer n q) = 3) :
    Completes (.pacerTick n q .tick t) s fun u => u.pacer n q = pwmStarted (s.pacer n q) m ∧ SameRegs s u [] ∧ SameMemory s u := by
  obtain ⟨ovr, und, qerr, ferr⟩ := pwmStarted_status (s.pacer n q) m
  refine completes_beat ?_ ovr und qerr ferr
  unfold pacerBeat
  dsimp only
  rw [show tickDue (s.at t).now ((s.at t).pacer n q) = some m from due]
  dsimp only
  rw [show pacerMode ((s.at t).pacer n q) = 3 from mode]
  exact congrArg (pacerTo (s.at t) n q) (pwmStart_eq _ m)

theorem completes_mid_pwm (mode : pacerMode (s.pacer n q) = 3) (began : 1 ≤ (s.pacer n q).nextTick)
    (near : pacerNear (max s.now t) ((s.pacer n q).grid + ((s.pacer n q).nextTick - 1) * perTicks (s.pacer n q) +
      (s.pacer n q).cnt.toNat * pacerT) = true) (within : (s.pacer n q).cnt.toNat < (s.pacer n q).per.toNat) :
    Completes (.pacerTick n q .mid t) s fun u =>
      u.pacer n q = { s.pacer n q with dataOut := false } ∧ SameRegs s u [] ∧ SameMemory s u := by
  refine completes_beat ?_ rfl rfl rfl rfl
  have low : pwmLow (s.pacer n q) = { s.pacer n q with dataOut := false } := if_neg (by omega)
  unfold pacerBeat
  dsimp only
  rw [show pacerMode ((s.at t).pacer n q) = 3 from mode]
  exact (if_pos ⟨began, near⟩).trans (congrArg (pacerTo (s.at t) n q) low)

theorem completes_tick_async {b : Bool} {rest : List Bool} (due : tickDue (max s.now t) (s.pacer n q) = some m)
    (mode : pacerMode (s.pacer n q) = 1) (sub : pacerSub (s.pacer n q) = 2) (bits : (s.pacer n q).out = some (b :: rest)) :
    Completes (.pacerTick n q .tick t) s fun u =>
      u.pacer n q = { s.pacer n q with out := some rest, dataOut := b, nextTick := m + 1 } ∧ SameRegs s u [] ∧ SameMemory s u := by
  refine completes_beat ?_ rfl rfl rfl rfl
  have goes : asyncTick { s.pacer n q with nextTick := m + 1 } = { s.pacer n q with out := some rest, dataOut := b, nextTick := m + 1 } := by
    unfold asyncTick
    dsimp only
    rw [bits]
  unfold pacerBeat
  dsimp only
  rw [show tickDue (s.at t).now ((s.at t).pacer n q) = some m from due]
  dsimp only
  rw [show pacerMode ((s.at t).pacer n q) = 1 from mode, show pacerSub ((s.at t).pacer n q) = 2 from sub]
  exact congrArg (pacerTo (s.at t) n q) goes

theorem completes_tick_master {b : Bool} {rest : List Bool} (due : tickDue (max s.now t) (s.pacer n q) = some m)
    (mode : pacerMode (s.pacer n q) = 1) (sub : pacerSub (s.pacer n q) = 0) (bits : (s.pacer n q).out = some (b :: rest))
    (idle : (s.pacer n q).clkOut = bitOf (s.pacer n q).cfg 6) (late : bitOf (s.pacer n q).cfg 5 = true) :
    Completes (.pacerTick n q .tick t) s fun u =>
      u.pacer n q = { s.pacer n q with clkOut := !(s.pacer n q).clkOut, dataOut := b, nextTick := m + 1 } := by
  have goes (level : Bool) : masterTick level { s.pacer n q with nextTick := m + 1 } =
      { s.pacer n q with clkOut := !(s.pacer n q).clkOut, dataOut := b, nextTick := m + 1 } := by
    unfold masterTick clockEdge
    simp [bits, idle, late]
  have beats : pacerBeat (s.at t) n q .tick =
      pacerTo (s.at t) n q { s.pacer n q with clkOut := !(s.pacer n q).clkOut, dataOut := b, nextTick := m + 1 } := by
    unfold pacerBeat
    dsimp only
    rw [show tickDue (s.at t).now ((s.at t).pacer n q) = some m from due]
    dsimp only
    rw [show pacerMode ((s.at t).pacer n q) = 1 from mode, show pacerSub ((s.at t).pacer n q) = 0 from sub]
    exact congrArg (pacerTo (s.at t) n q) (goes _)
  obtain ⟨u, next, pacer, -⟩ := completes_beat beats rfl rfl rfl rfl
  exact ⟨u, next, pacer⟩

end

/-! A conduit's change at the hub leaves what the switch goes by. -/

theorem online_updConduit (s : State) (n m : Fin 12) (q : Fin 16) (f : Conduit → Conduit) :
    ((s.updConduit n q f).cl m).online = (s.cl m).online := by
  unfold State.updConduit
  rw [cl_updCl]
  split
  · rename_i same; rw [same]
  · rfl

theorem portOff_updConduit (s : State) (n : Fin 12) (q : Fin 16) (f : Conduit → Conduit) : portOff (s.updConduit n q f) = portOff s := by
  funext p
  unfold portOff
  simp only [online_updConduit]
  rfl

theorem sendPorts_updConduit (s : State) (n : Fin 12) (q : Fin 16) (f : Conduit → Conduit) (ep : Nat) (g : Frame) :
    sendPorts (s.updConduit n q f) ep g = sendPorts s ep g := by
  unfold sendPorts freshRing reaches
  rw [portOff_updConduit]
  rfl

theorem mustHold_updConduit (s : State) (n : Fin 12) (q : Fin 16) (f : Conduit → Conduit) (k : Fin 32) (d : Descriptor) :
    mustHold (s.updConduit n q f) k d = mustHold s k d := by
  unfold mustHold bridgeShut
  simp only [sendPorts_updConduit, portOff_updConduit]
  rfl

theorem accepts_updConduit (s : State) (n : Fin 12) (q : Fin 16) (f : Conduit → Conduit) (i : Fin 20) (ep : Nat) (g : Frame) :
    accepts (s.updConduit n q f) i ep g = accepts s i ep g := by
  unfold accepts lacking targetPorts
  rw [sendPorts_updConduit, portOff_updConduit]
  rfl

/-! Conduits at the hub (R248-R251). -/

/-- The frame of a conduit's outward item (R248). -/
def itemFrame (s : State) (ws : List Word) : Frame :=
  { w0 := wAt ws 0 &&& 0xC7FF, w1 := wAt ws 1, w2 := s.srcWord, w3 := wAt ws 3, payload := ws.drop 4, crcOk := true }

section
variable {s : State} {n : Fin 12} {q : Fin 16} {t o : Nat} {ws rest : List Word}

theorem conduitFrame_eq (mode : conduitCfg (s.cl n) q = some (false, o)) (item : itemOf false (s.conduit n q).asm = some (ws, rest)) :
    conduitFrame s n q =
      (let i : Fin 20 := ⟨8 + n.val, by omega⟩
       let f := itemFrame s ws
       let x := s.updConduit n q fun c => { c with asm := rest }
       if s.fab.node = 0 then s
       else if f.type ≠ 2 ∨ f.dnode = 0 ∨ f.len > 512 then (x.bump SWQ_BADHDR).raise Src.badHeader i.val
       else if accepts s i 0 f then switchInput x i 0 f none 0
       else if portOff s i then s
       else switchInput s i 0 f none 0) := by
  unfold conduitFrame
  rw [mode, item]
  rfl

theorem asm_of_clusters {x u : State} {g : List Word} (clusters : u.clusters = (x.updConduit n q fun c => { c with asm := g }).clusters) :
    ((settle u).conduit n q).asm = g := by
  have same : u.conduit n q = (x.updConduit n q fun c => { c with asm := g }).conduit n q := by
    rw [State.conduit, State.cl, clusters]; rfl
  rw [settle_conduit, same, conduit_updConduit_self]

theorem completes_conduitFrame_bad (mode : conduitCfg (s.cl n) q = some (false, o)) (item : itemOf false (s.conduit n q).asm = some (ws, rest))
    (numbered : s.fab.node ≠ 0) (bad : (itemFrame s ws).type ≠ 2 ∨ (itemFrame s ws).dnode = 0 ∨ 512 < (itemFrame s ws).len) :
    Completes (.conduitFrame n q t) s fun u =>
      (u.conduit n q).asm = rest ∧ u.reg SWQ_BADHDR = bumpW (s.reg SWQ_BADHDR) 1 ∧ u.sw = s.sw := by
  let x := (s.at t).updConduit n q fun c => { c with asm := rest }
  have row : exec (.conduitFrame n q t) s = done ((x.bump SWQ_BADHDR).raise Src.badHeader (8 + n.val)) :=
    congrArg done ((conduitFrame_eq (s := s.at t) mode item).trans ((if_neg numbered).trans (if_pos bad)))
  refine completes_done row ⟨asm_of_clusters (x := s.at t) (raise_clusters _ _ _), ?_, ?_⟩
  · rw [reg_settle_of_not_closing _ _ (by decide), reg_congr (raise_regs _ _ _)]
    exact reg_bump_self x _
  · rw [settle_sw, raise_sw]
    rfl

theorem completes_conduitFrame (mode : conduitCfg (s.cl n) q = some (false, o)) (item : itemOf false (s.conduit n q).asm = some (ws, rest))
    (type_ : (itemFrame s ws).type = 2) (here : (itemFrame s ws).dring = s.ringNo) (single : (itemFrame s ws).dnode < 4000)
    (some_ : (itemFrame s ws).dnode ≠ 0) (foreign : (itemFrame s ws).dnode ≠ s.fab.node) (numbered : s.fab.node ≠ 0)
    (short : (itemFrame s ws).len ≤ 512) (up : RingsUp s) (noSample : s.reg SWQ_SMP_N = 0)
    (room : accepts s ⟨8 + n.val, by omega⟩ 0 (itemFrame s ws) = true)
    (fits : (itemFrame s ws).cls = 0 → (itemFrame s ws).payload.length ≤ 32) : Completes (.conduitFrame n q t) s fun u =>
      (u.conduit n q).asm = rest ∧ ∃ r, u.queue (ringPort r) (itemFrame s ws).cls = s.queue (ringPort r) (itemFrame s ws).cls ++
        [⟨itemFrame s ws, 8 + n.val, u.now, 0, none, 0⟩] := by
  obtain ⟨f, hf⟩ : ∃ f, f = itemFrame s ws := ⟨_, rfl⟩
  rw [← hf] at type_ here single some_ foreign short room fits ⊢
  let i : Fin 20 := ⟨8 + n.val, by omega⟩
  let x := (s.at t).updConduit n q fun c => { c with asm := rest }
  have roomX : accepts x i 0 f = true := (accepts_updConduit (s.at t) n q _ i 0 f).trans room
  have upX : RingsUp x := up
  have joins : Joins x (sendFrame x i.val 0 f none 0) ⟨f, i.val, x.now, 0, none, 0⟩ :=
    joins_sendFrame here single (fun h => by have := fits h.1; omega) upX
  have enters : switchInput x i 0 f none 0 = sendFrame x i.val 0 f none 0 := by
    unfold accepts at roomX
    simp only [Bool.and_eq_true, Bool.not_eq_true', Option.isNone_iff_eq_none] at roomX
    obtain ⟨⟨calm, open_⟩, fits⟩ := roomX
    unfold switchInput
    rw [calm, open_, fits]
    have unsampled : sample x false i f = x := if_pos (.inl (by rw [show x.reg SWQ_SMP_N = 0 from noSample]; rfl))
    have notSelf : forSelf x f = false := by
      unfold forSelf
      rw [decide_eq_false (show ¬ f.dnode = x.fab.node from foreign), Bool.and_false]
    dsimp only
    rw [unsampled]
    unfold routeFrame
    rw [notSelf]
    rfl
  have row : exec (.conduitFrame n q t) s = done (sendFrame x i.val 0 f none 0) := by
    have good : ¬ (f.type ≠ 2 ∨ f.dnode = 0 ∨ f.len > 512) := by omega
    refine congrArg done ((conduitFrame_eq (s := s.at t) mode item).trans ?_)
    rw [show itemFrame (s.at t) ws = f from hf.symm]
    refine (if_neg numbered).trans ((if_neg good).trans ((if_pos room).trans enters))
  obtain ⟨r, joined⟩ := joins.joined
  refine completes_done row ⟨asm_of_clusters (x := s.at t) ?_, r, ?_⟩
  · rw [joins.only]
  · rw [queue_congr (settle_sw _), joined, settle_now, joins.only]
    rfl

theorem conduitDescriptor_eq (mode : conduitCfg (s.cl n) q = some (true, o)) (item : itemOf true (s.conduit n q).asm = some (ws, rest))
    (service : 8 ≤ engEndpoint (s.cl n) o) : conduitDescriptor s n q =
      issue (s.updConduit n q fun c => { c with asm := rest }) (parseDescriptor (engEndpoint (s.cl n) o) ws) (.conduit n.val q.val) := by
  unfold conduitDescriptor
  rw [mode, item]
  exact if_neg (by omega)

theorem completes_conduitDescriptor_refused {k : Fin 32} {st : Nat} (mode : conduitCfg (s.cl n) q = some (true, o))
    (item : itemOf true (s.conduit n q).asm = some (ws, rest)) (service : 8 ≤ engEndpoint (s.cl n) o) {d : Descriptor}
    (said : d = parseDescriptor (engEndpoint (s.cl n) o) ws) (at_ : k.val = d.ep) (notPosted : d.op.posted = false)
    (bad : judge s d = some st) (routed : st ≠ stNO_ROUTE) : Completes (.conduitDescriptor n q t) s fun u =>
      (u.conduit n q).asm = rest ∧ (u.conduit n q).hubIn = (s.conduit n q).hubIn ++
        [completionWords ⟨d.ep, 0, (vget s.brg.eps k).seq.toNat, d.op, st, []⟩] := by
  let x := (s.at t).updConduit n q fun c => { c with asm := rest }
  let done_ : Completion := ⟨d.ep, 0, (vget s.brg.eps k).seq.toNat, d.op, st, []⟩
  obtain ⟨sets, refused⟩ := issue_refused (s := x) (via := .conduit n.val q.val) at_ bad routed notPosted
  let y := x.updBrg fun b => { b with sets := sets }
  have given : giveCompletion y (.conduit n.val q.val) done_ = conduitDeliver y n q (completionWords done_) := by
    simp only [giveCompletion, place?_val]
  have row : exec (.conduitDescriptor n q t) s = done (conduitDeliver y n q (completionWords done_)) := by
    refine congrArg done ((conduitDescriptor_eq (s := s.at t) mode item service).trans ?_)
    rw [show parseDescriptor (engEndpoint ((s.at t).cl n) o) ws = d from said.symm]
    exact refused.trans given
  have conduit : (conduitDeliver y n q (completionWords done_)).conduit n q =
      { (x.conduit n q) with hubIn := (x.conduit n q).hubIn ++ [completionWords done_] } :=
    conduit_updConduit_self y n q fun c => { c with hubIn := c.hubIn ++ [completionWords done_] }
  have own : x.conduit n q = { s.conduit n q with asm := rest } := conduit_updConduit_self (s.at t) n q fun c => { c with asm := rest }
  refine completes_done row ⟨?_, ?_⟩
  · rw [settle_conduit, conduit, own]
  · rw [settle_conduit, conduit, own]

/-- The issue of a request leaves the clusters. -/
theorem clusters_issue {d : Descriptor} {i : Fin 32} {via : ReqVia} {tag : Nat} (at_ : i.val = d.ep) (other : d.ep ≠ 5)
    (fine : judge s d = none) (noneHeld : (vget s.brg.eps i).held = []) (mayGo : mustHold s i d = false)
    (noWait : sigMustWait s i d = false) (notPosted : d.op.posted = false) (notGwr : d.op ≠ .gwr) (notRange : d.op ≠ .range)
    (free : freeTag s d.ep = some tag) (up : RingsUp s) (here : d.dring = s.ringNo) (single : d.dnode < 4000) (ring : s.ringNo < 16)
    (foreign : d.dnode ≠ s.fab.node) : (issue s d via).clusters = s.clusters := by
  have notCommit : d.op ≠ .commit := fun h => by rw [h] at notPosted; cases notPosted
  obtain ⟨-, -, -, -, freeG, -, -⟩ := grown_keeps s d i
  have only : BridgeOnly s (opened (grown s d) i d tag via) := (bridgeOnly_grown s d).trans (bridgeOnly_opened _ _ _ _ _)
  rw [issue_goes at_ fine notCommit noneHeld mayGo noWait, issueNow_open notPosted (freeG.trans free), sendFrames_one notGwr notRange,
    (joins_sendRequest_of_bridge only other here ring up single foreign).only]
  rw [only.trans (bridgeOnly_postedWith (opened (grown s d) i d tag via) d d.dnode tag _)]

theorem completes_conduitDescriptor {k : Fin 32} {tag : Nat} (mode : conduitCfg (s.cl n) q = some (true, o))
    (item : itemOf true (s.conduit n q).asm = some (ws, rest)) (service : 8 ≤ engEndpoint (s.cl n) o) {d : Descriptor}
    (said : d = parseDescriptor (engEndpoint (s.cl n) o) ws) (at_ : k.val = d.ep) (notPosted : d.op.posted = false)
    (fine : judge s d = none) (free : freeTag s d.ep = some tag) (noneHeld : (vget s.brg.eps k).held = [])
    (mayGo : mustHold (s.at t) k d = false) (notGwr : d.op ≠ .gwr) (notRange : d.op ≠ .range) (up : RingsUp s)
    (here : d.dring = s.ringNo) (single : d.dnode < 4000) (foreign : d.dnode ≠ s.fab.node) (ring : s.ringNo < 16) :
    Completes (.conduitDescriptor n q t) s fun u =>
      (u.conduit n q).asm = rest ∧
      u.brg.opens = s.brg.opens ++ [⟨d, tag, (vget s.brg.eps k).seq.toNat, 0, [], [], .conduit n.val q.val⟩] ∧
      RequestQueued s u d d.dnode tag (vget s.brg.eps k).seq.toNat := by
  let x := (s.at t).updConduit n q fun c => { c with asm := rest }
  have ep : d.ep = engEndpoint (s.cl n) o := by rw [said]; rfl
  have notSig : sigMustWait x k d = false := by
    unfold sigMustWait
    rw [decide_eq_false (fun h => by rw [h] at notPosted; cases notPosted), Bool.false_and]
  have none_ : expectedOf x d = [] := by
    unfold expectedOf
    split
    · rename_i h; exact absurd h notGwr
    · rename_i h; exact absurd h notRange
    · rfl
  have row : exec (.conduitDescriptor n q t) s = done (issue x d (.conduit n.val q.val)) := by
    refine congrArg done ((conduitDescriptor_eq (s := s.at t) mode item service).trans ?_)
    rw [show parseDescriptor (engEndpoint ((s.at t).cl n) o) ws = d from said.symm]
  obtain ⟨opens, -, queued⟩ := issue_open (s := x) (via := .conduit n.val q.val) at_ (by omega) fine noneHeld
    ((mustHold_updConduit (s.at t) n q _ k d).trans mayGo) notSig notPosted notGwr notRange free up here single ring foreign
  rw [none_] at opens
  exact completes_done row ⟨asm_of_clusters (x := s.at t) (clusters_issue (s := x) at_ (by omega) fine noneHeld
    ((mustHold_updConduit (s.at t) n q _ k d).trans mayGo) notSig notPosted notGwr notRange free up here single ring foreign), opens, queued⟩

/-! Conduit timeouts (R251). -/

theorem cdtRegs (n : Fin 12) : CLU_CDT_TMOC n.val ≠ CLU_EVT n.val ∧ closingReg (CLU_CDT_TMOC n.val) = false := by revert n; decide

/-- What both directions of a timeout count, show and leave. -/
theorem conduitLate_keeps {x : State} (regs : x.regs = s.regs) (n : Fin 12) (q : Fin 16) (o : Nat) :
    (settle (conduitLate x n q o)).conduit n q = x.conduit n q ∧
    (settle (conduitLate x n q o)).reg (CLU_CDT_TMOC n.val) = bumpW (s.reg (CLU_CDT_TMOC n.val)) 1 ∧
    ((settle (conduitLate x n q o)).reg (CLU_EVT n.val)).getLsbD cluCDT_TMO = true := by
  obtain ⟨evtClosing, -, -⟩ := closingReg_clu n
  obtain ⟨apart, closing⟩ := cdtRegs n
  let y := (x.bump (CLU_CDT_TMOC n.val)).cluEvt n cluCDT_TMO
  have clusters : (conduitLate x n q o).clusters = x.clusters := raise_clusters y _ _
  refine ⟨?_, ?_, ?_⟩
  · rw [settle_conduit, State.conduit, State.cl, clusters]; rfl
  · rw [reg_settle_of_not_closing _ _ closing]
    refine (reg_congr (raise_regs y _ _) _).trans ((reg_evt_ne _ _ apart).trans ((reg_bump_self x _).trans ?_))
    rw [reg_congr regs]
  · rw [reg_settle_of_not_closing _ _ evtClosing]
    refine (congrArg (BitVec.getLsbD · _) (reg_congr (raise_regs y _ _) _)).trans ?_
    exact reg_evt_bit _ _ _ (by decide)

theorem completes_conduitTimeout_out {cfg : Bool × Nat} (known : conduitCfg (s.cl n) q = some cfg) (stays : ownerMoves s n cfg.2 = false)
    (words : (s.conduit n q).asm ++ crossing s n q ++ (s.conduit n q).out ≠ [])
    (part : itemOf cfg.1 ((s.conduit n q).asm ++ crossing s n q ++ (s.conduit n q).out) = none) :
    Completes (.conduitTimeout n q true t) s fun u =>
      u.conduit n q = { s.conduit n q with asm := [], out := [], skip := (s.conduit n q).skip + (crossing s n q).length, tmo := true } ∧
      u.reg (CLU_CDT_TMOC n.val) = bumpW (s.reg (CLU_CDT_TMOC n.val)) 1 ∧ (u.reg (CLU_EVT n.val)).getLsbD cluCDT_TMO = true := by
  obtain ⟨txn, o⟩ := cfg
  let x := (s.at t).updConduit n q fun c => { c with asm := [], out := [], skip := c.skip + (crossing s n q).length, tmo := true }
  have row : exec (.conduitTimeout n q true t) s = done (conduitLate x n q o) := by
    refine congrArg done ?_
    unfold conduitTimeout
    rw [show conduitCfg ((s.at t).cl n) q = some (txn, o) from known]
    dsimp only
    rw [show ownerMoves (s.at t) n o = false from stays, if_neg (by decide), if_pos rfl]
    refine if_neg ?_
    have notEmpty : ((s.conduit n q).asm ++ crossing s n q ++ (s.conduit n q).out).isEmpty = false := by
      rw [Bool.eq_false_iff, ne_eq, List.isEmpty_iff]; exact words
    change ¬ ((((s.conduit n q).asm ++ crossing s n q ++ (s.conduit n q).out).isEmpty ||
      (itemOf txn ((s.conduit n q).asm ++ crossing s n q ++ (s.conduit n q).out)).isSome) = true)
    rw [notEmpty, part]
    decide
  obtain ⟨conduit, count, event⟩ := conduitLate_keeps (s := s) (x := x) rfl n q o
  refine completes_done row ⟨conduit.trans (conduit_updConduit_self (s.at t) n q _), count, event⟩

theorem completes_conduitTimeout_in {cfg : Bool × Nat} (known : conduitCfg (s.cl n) q = some cfg) (stays : ownerMoves s n cfg.2 = false)
    (part : (s.conduit n q).inPart = true) : Completes (.conduitTimeout n q false t) s fun u =>
      u.conduit n q = { s.conduit n q with hubIn := (s.conduit n q).hubIn.tail, inPart := false, trunc := true } ∧
      u.reg (CLU_CDT_TMOC n.val) = bumpW (s.reg (CLU_CDT_TMOC n.val)) 1 ∧ (u.reg (CLU_EVT n.val)).getLsbD cluCDT_TMO = true := by
  obtain ⟨txn, o⟩ := cfg
  let x := (s.at t).updConduit n q fun c => { c with hubIn := c.hubIn.tail, inPart := false, trunc := true }
  have row : exec (.conduitTimeout n q false t) s = done (conduitLate x n q o) := by
    refine congrArg done ?_
    unfold conduitTimeout
    rw [show conduitCfg ((s.at t).cl n) q = some (txn, o) from known]
    dsimp only
    rw [show ownerMoves (s.at t) n o = false from stays, if_neg (by decide), if_neg (by decide)]
    exact if_neg (by rw [show ((s.at t).conduit n q).inPart = true from part]; decide)
  obtain ⟨conduit, count, event⟩ := conduitLate_keeps (s := s) (x := x) rfl n q o
  refine completes_done row ⟨conduit.trans (conduit_updConduit_self (s.at t) n q _), count, event⟩

end

/-- Settles O31, clause by clause: a beat changes its pacer alone; an item of a conduit leaves its queue as it is sent, issued or discarded. -/
theorem pacersAndConduits : Obligations.PacersAndConduits := by
  unfold Obligations.PacersAndConduits
  refine fun n q t s => ⟨⟨?_, ?_, ?_, ?_⟩, fun o ws rest mode item => ⟨?_, ?_⟩, fun o ws rest mode item service k at_ notPosted => ⟨?_, ?_⟩,
    fun cfg known stays => ⟨?_, ?_⟩⟩
  · exact fun m due mode => completes_tick_pwm due mode
  · exact completes_mid_pwm
  · exact fun m b rest due mode sub bits => completes_tick_async due mode sub bits
  · exact fun m b rest due mode sub bits idle late => completes_tick_master due mode sub bits idle late
  · exact fun numbered bad => completes_conduitFrame_bad mode item numbered bad
  · exact fun type_ here single some_ foreign numbered short up noSample room fits =>
      completes_conduitFrame mode item type_ here single some_ foreign numbered short up noSample room fits
  · exact fun st bad routed => completes_conduitDescriptor_refused mode item service rfl at_ notPosted bad routed
  · exact fun tag fine free noneHeld mayGo notGwr notRange up here single foreign ring =>
      completes_conduitDescriptor mode item service rfl at_ notPosted fine free noneHeld mayGo notGwr notRange up here single foreign ring
  · exact fun words part => completes_conduitTimeout_out known stays words part
  · exact fun part => completes_conduitTimeout_in known stays part

end Sys2Proof.Machine
end

section
set_option Elab.async false
/-! SUPPORT. Reports in the collectors' inboxes (R417), engines halted, stepped and resumed (R511-R515), the trace buffers (R516-R518), and the
obligation about them. -/

namespace Sys2Proof.Machine

/-! Reports of the hub stay where they stand (R417). -/

theorem hubReported_raise (s : State) {src : Nat} (hub : srcField src = false) (d : Nat) : HubReported (s.raise src d) src d :=
  (hubReported_settle_raise s d hub).congr (settle_flts _).symm

theorem HubReported.raiseCore {s : State} {src d : Nat} (h : HubReported s src d) (c : Core) (a b : Nat) :
    HubReported (s.raiseCore c a b) src d := by
  intro c'
  obtain ⟨time, mem⟩ := h c'
  refine ⟨time, ?_⟩
  have inbox : ((s.raiseCore c a b).flt c').inbox = (s.flt c').inbox ∨
      ∃ x, ((s.raiseCore c a b).flt c').inbox = (s.flt c').inbox ++ [x] := by
    simp only [State.raiseCore, State.updFlt, State.flt, vget_vupd]
    split
    · rename_i same
      exact .inr ⟨_, by rw [same]⟩
    · exact .inl rfl
  rcases inbox with same | ⟨x, more⟩
  · rw [same]; exact mem
  · rw [more]; exact List.mem_append_left _ mem

theorem HubReported.raise {s : State} {src d : Nat} (h : HubReported s src d) (a b : Nat) : HubReported (s.raise a b) src d := by
  unfold State.raise
  split
  · split
    · exact h.congr rfl
    · exact h.congr rfl
  · exact (h.raiseCore .c0 a b).raiseCore .c1 a b

theorem HubReported.trace {s : State} {src d : Nat} (h : HubReported s src d) (i : Fin 14) (k r e : Nat) : HubReported (s.trace i k r e) src d := by
  have counted (b : Vector TraceBuf 14) : HubReported ((({ s with traces := b } : State).bump DBG_TRC_LOST).evt DBG_EVT 12) src d :=
    h.congr (by rw [evt_flts, bump_flts])
  obtain ⟨b, eq | eq | eq⟩ := trace_cases s i k r e
  · rw [eq]; exact h.congr rfl
  · rw [eq]; exact counted b
  · rw [eq]; exact (counted b).raise _ _

theorem HubReported.settle {s : State} {src d : Nat} (h : HubReported s src d) : HubReported (settle s) src d := h.congr (settle_flts s)

theorem EvtSet.trace {s : State} {a i : Nat} (h : EvtSet s a i) (other : a ≠ DBG_TRC_LOST) (j : Fin 14) (k r d : Nat) :
    EvtSet (s.trace j k r d) a i := by
  have counted (b : Vector TraceBuf 14) : EvtSet ((({ s with traces := b } : State).bump DBG_TRC_LOST).evt DBG_EVT 12) a i := by
    have first : EvtSet ({ s with traces := b } : State) a i := h
    exact (first.bump other).evt _ _
  obtain ⟨b, eq | eq | eq⟩ := trace_cases s j k r d
  · rw [eq]; exact h
  · rw [eq]; exact counted b
  · rw [eq]
    exact (counted b).raise _ _

section
variable {s : State} {n : Fin 12} {e : Fin 14} {path : Path} {t : Nat}

/-! Halts (R511). -/

theorem completes_halts {c : Instr} (row : exec c s = done (debugHalt (s.at t) n e 1)) : Completes c s fun u =>
    u.eng n e = { s.eng n e with run := .halted, haltCause := 1, haltPending := none, stepping := false } ∧
    (u.reg DBG_EVT).getLsbD dbgHALTED = true ∧ SameMemory s u ∧ OtherEngines s u n e := by
  refine completes_done row ⟨?_, ?_, sameMemory_settle (debugHalt_mem _ _ _ _), fun m d other => ?_⟩
  · rw [settle_eng, eng_congr (debugHalt_clusters _ _ _ _), eng_updEng_self]; rfl
  · rw [reg_settle_of_not_closing _ _ (by decide)]
    exact reg_evt_bit (haltEngine (s.at t) n e 1) DBG_EVT 15 (by decide)
  · rw [settle_eng, eng_congr (debugHalt_clusters _ _ _ _), eng_updEng_other _ _ _ _ _ _ other]; rfl

theorem dbgHalt_now (runs : (s.eng n e).run = .running) (free : holdsLock s n e = false) (noStall : (s.eng n e).stall = none)
    (noMig : migStopped s n e = false) : dbgHalt s n e = debugHalt s n e 1 := by
  refine (if_neg (not_not_intro runs)).trans (if_neg ?_)
  rw [free, noStall, noMig]
  decide

theorem completes_dbgHalt_now (runs : (s.eng n e).run = .running) (free : holdsLock s n e = false) (noStall : (s.eng n e).stall = none)
    (noMig : migStopped s n e = false) : ∀ c ∈ [Instr.dbgHalt n e t, .dbgForce n e t], Completes c s fun u =>
      u.eng n e = { s.eng n e with run := .halted, haltCause := 1, haltPending := none, stepping := false } ∧
      (u.reg DBG_EVT).getLsbD dbgHALTED = true ∧ SameMemory s u ∧ OtherEngines s u n e := by
  have halts : dbgHalt (s.at t) n e = debugHalt (s.at t) n e 1 := dbgHalt_now (s := s.at t) runs free noStall noMig
  have forces : dbgForce (s.at t) n e = debugHalt (s.at t) n e 1 := by
    refine (if_neg (not_not_intro runs)).trans ?_
    dsimp only
    rw [if_neg (by rw [show holdsLock (s.at t) n e = false from free]; decide)]
    exact halts
  rw [List.forall_mem_cons, List.forall_mem_singleton]
  exact ⟨completes_halts (congrArg done halts), completes_halts (congrArg done forces)⟩

theorem completes_dbgHalt_later (runs : (s.eng n e).run = .running)
    (busy : holdsLock s n e = true ∨ (s.eng n e).stall.isSome = true ∨ migStopped s n e = true) : Completes (.dbgHalt n e t) s fun u =>
      u.eng n e = { s.eng n e with haltPending := some 1 } ∧ SameRegs s u [] ∧ SameMemory s u ∧ OtherEngines s u n e := by
  have row : exec (.dbgHalt n e t) s = done ((s.at t).updEng n e fun x => { x with haltPending := some 1 }) := by
    refine congrArg done ((if_neg (not_not_intro runs)).trans (if_pos ?_))
    rw [Bool.or_eq_true, Bool.or_eq_true, or_assoc]
    exact busy
  refine completes_done row ⟨?_, sameRegs_settle rfl, sameMemory_settle rfl, fun m d other => ?_⟩
  · exact (settle_eng _ n e).trans (eng_updEng_self (s.at t) n e _)
  · exact (settle_eng _ m d).trans (eng_updEng_other (s.at t) n m e d _ other)

theorem completes_dbgForce_lock (runs : (s.eng n e).run = .running) (held : holdsLock s n e = true) (noStall : (s.eng n e).stall = none)
    (noMig : migStopped s n e = false) : Completes (.dbgForce n e t) s fun u =>
      (u.cl n).lock = none ∧ (u.cl n).broken = some e ∧ (u.eng n e).run = .halted ∧ (u.eng n e).regs = (s.eng n e).regs ∧
      (u.eng n e).pc = (s.eng n e).pc ∧ (u.reg DBG_EVT).getLsbD dbgBROKEN = true ∧
      HubReported u Src.lockBroken (16 * n.val + e.val) ∧ SameMemory s u := by
  let w := (s.at t).updEng n e fun x => { x with lockCount := 0 }
  let x := (releaseLock (s.at t) n e).updCl n fun c => { c with broken := some e }
  let y := (x.evt DBG_EVT dbgBROKEN).raise Src.lockBroken (16 * n.val + e.val)
  have lock : ((s.at t).cl n).lock = some e := of_decide_eq_true held
  have released : releaseLock (s.at t) n e = w.updCl n fun c => { c with lock := none } := if_pos lock
  have clX : x.cl n = { w.cl n with lock := none, broken := some e } := by
    rw [cl_updCl_self, released, cl_updCl_self]
  have clY : y.cl n = x.cl n := by rw [State.cl, raise_clusters]; rfl
  have engX : x.eng n e = { s.eng n e with lockCount := 0 } := by
    rw [State.eng, clX]
    exact eng_updEng_self (s.at t) n e fun x => { x with lockCount := 0 }
  have engY : y.eng n e = { s.eng n e with lockCount := 0 } := by rw [State.eng, clY]; exact engX
  have freeY : holdsLock y n e = false := by
    unfold holdsLock
    rw [clY, clX]
    rfl
  have migY : migStopped y n e = false := by
    have same : migStopped y n e = migStopped (s.at t) n e := by
      unfold migStopped
      rw [clY, clX, cl_updEng]
    exact same.trans noMig
  have row : exec (.dbgForce n e t) s = done (debugHalt y n e 1) := by
    refine congrArg done ((if_neg (not_not_intro runs)).trans ?_)
    dsimp only
    rw [if_pos (show holdsLock (s.at t) n e = true from held)]
    exact dbgHalt_now (s := y) (by rw [engY]; exact runs) freeY (by rw [engY]; exact noStall) migY
  have clU : (debugHalt y n e 1).cl n = (y.updEng n e (haltedBy 1)).cl n := by rw [State.cl, debugHalt_clusters]; rfl
  have engU : (settle (debugHalt y n e 1)).eng n e = haltedBy 1 { s.eng n e with lockCount := 0 } := by
    rw [settle_eng, eng_congr (debugHalt_clusters _ _ _ _), eng_updEng_self, engY]
  have memX : x.mem = s.mem := releaseLock_mem (s.at t) n e
  have broken : EvtSet y DBG_EVT dbgBROKEN := (evtSet_evt x DBG_EVT dbgBROKEN (by decide)).raise _ _
  have told : HubReported y Src.lockBroken (16 * n.val + e.val) := hubReported_raise _ (by decide) _
  refine completes_done row ⟨?_, ?_, by rw [engU]; rfl, by rw [engU]; rfl, by rw [engU]; rfl, ?_, ?_, sameMemory_settle ?_⟩
  · rw [settle_cl_lock, clU, cl_updEng, clY, clX]
  · rw [settle_cl_broken, clU, cl_updEng, clY, clX]
  · exact EvtSet.settle (EvtSet.evt (EvtSet.trace (broken.congr (u := y.updEng n e _) rfl) (by decide) _ _ _ _) DBG_EVT 15) (by decide)
  · exact HubReported.settle (HubReported.congr (HubReported.trace (told.congr (u := y.updEng n e _) rfl) _ _ _ _) rfl)
  · rw [debugHalt_mem, raise_mem]
    exact memX

theorem completes_dbgHalt_idle (notRunning : (s.eng n e).run ≠ .running) : ∀ c ∈ [Instr.dbgHalt n e t, .dbgForce n e t], Completes c s fun u =>
    u.eng n e = s.eng n e ∧ SameRegs s u [] ∧ SameMemory s u := by
  have stays {c : Instr} (row : exec c s = done (s.at t)) : Completes c s fun u => u.eng n e = s.eng n e ∧ SameRegs s u [] ∧ SameMemory s u :=
    completes_done row ⟨settle_eng _ n e, sameRegs_settle rfl, sameMemory_settle rfl⟩
  rw [List.forall_mem_cons, List.forall_mem_singleton]
  exact ⟨stays (congrArg done (if_pos notRunning)), stays (congrArg done (if_pos notRunning))⟩

/-! A halted engine runs on, for good or for one instruction (R511, R512). -/

/-- The engine that runs on. -/
def resumed (step : Bool) (x : Engine) : Engine := { x with run := .running, haltCause := 0, haltPending := none, stepping := step }

/-- What a resume leaves: of the clusters its engine and a broken lock change, and of the memory nothing. -/
theorem dbgRun_keeps (s : State) (n : Fin 12) (e : Fin 14) (step : Bool) :
    (∀ m d, (dbgRun s n e step).eng m d = (s.updEng n e (resumed step)).eng m d) ∧
    ((dbgRun s n e step).cl n).lock = (s.cl n).lock ∧ ((dbgRun s n e step).cl n).mig = (s.cl n).mig ∧
    ((s.cl n).broken = some e → ((dbgRun s n e step).cl n).broken = none) ∧
    (dbgRun s n e step).mem = s.mem ∧ (dbgRun s n e step).marks = s.marks ∧ (dbgRun s n e step).fieldInj = s.fieldInj := by
  let x := s.updEng n e (resumed step)
  obtain ⟨y, hy⟩ : ∃ y, y = if (x.cl n).broken = some e then x.updCl n fun c => { c with broken := none } else x := ⟨_, rfl⟩
  have runs : dbgRun s n e step = y.trace (clTrace n) 5 e.val 0 := by rw [hy]; rfl
  have clX : x.cl n = { s.cl n with engines := (x.cl n).engines } := cl_updEng s n n e _
  have facts : (∀ m d, y.eng m d = x.eng m d) ∧ (y.cl n).lock = (s.cl n).lock ∧ (y.cl n).mig = (s.cl n).mig ∧
      ((s.cl n).broken = some e → (y.cl n).broken = none) ∧ y.mem = s.mem ∧ y.marks = s.marks ∧ y.fieldInj = s.fieldInj := by
    rw [hy]
    split
    · refine ⟨fun m d => eng_updCl_keeps (f := fun c => { c with broken := none }) (fun _ => rfl) x m d, ?_, ?_, fun _ => ?_, rfl, rfl, rfl⟩
      · rw [cl_updCl_self, clX]
      · rw [cl_updCl_self, clX]
      · rw [cl_updCl_self]
    · rename_i notBroken
      refine ⟨fun _ _ => rfl, by rw [clX], by rw [clX], fun broken => absurd ?_ notBroken, rfl, rfl, rfl⟩
      rw [clX]; exact broken
  have traced : (y.trace (clTrace n) 5 e.val 0).marks = y.marks ∧ (y.trace (clTrace n) 5 e.val 0).fieldInj = y.fieldInj := by
    obtain ⟨b, eq | eq | eq⟩ := trace_cases y (clTrace n) 5 e.val 0
    · rw [eq]; exact ⟨rfl, rfl⟩
    · rw [eq]; exact ⟨rfl, rfl⟩
    · rw [eq, raise_marks, raise_fieldInj]; exact ⟨rfl, rfl⟩
  obtain ⟨eng, lock, mig, broken, mem, marks, inj⟩ := facts
  have cl : (y.trace (clTrace n) 5 e.val 0).cl n = y.cl n := by rw [State.cl, trace_clusters]; rfl
  rw [runs, cl]
  exact ⟨fun m d => (eng_congr (trace_clusters _ _ _ _ _) m d).trans (eng m d), lock, mig, broken, (trace_mem _ _ _ _ _).trans mem,
    traced.1.trans marks, traced.2.trans inj⟩

theorem completes_dbgResume (halted : (s.eng n e).run = .halted) : Completes (.dbgResume n e t) s fun u =>
    u.eng n e = { s.eng n e with run := .running, haltCause := 0, haltPending := none, stepping := false } ∧
    ((s.cl n).broken = some e → (u.cl n).broken = none) ∧ SameMemory s u ∧ OtherEngines s u n e := by
  have row : exec (.dbgResume n e t) s = done (dbgRun (s.at t) n e false) := congrArg done (if_neg (not_not_intro halted))
  obtain ⟨eng, -, -, broken, mem, -, -⟩ := dbgRun_keeps (s.at t) n e false
  refine completes_done row ⟨?_, fun h => ?_, sameMemory_settle mem, fun m d other => ?_⟩
  · rw [settle_eng, eng, eng_updEng_self]; rfl
  · rw [settle_cl_broken]; exact broken h
  · rw [settle_eng, eng, eng_updEng_other _ _ _ _ _ _ other]; rfl

theorem completes_dbgStep_waiting (halted : (s.eng n e).run = .halted) (waits : (s.eng n e).dark.isSome = true ∨ (s.eng n e).stall.isSome = true) :
    Completes (.dbgStep n e t) s fun u =>
      u.eng n e = { s.eng n e with run := .running, haltCause := 0, haltPending := none, stepping := true } := by
  have row : exec (.dbgStep n e t) s = done (dbgRun (s.at t) n e true) :=
    congrArg done ((if_neg (not_not_intro halted)).trans (if_pos (Bool.or_eq_true_iff.2 waits)))
  obtain ⟨eng, -⟩ := dbgRun_keeps (s.at t) n e true
  refine completes_done row ?_
  rw [settle_eng, eng, eng_updEng_self]; rfl

/-- A NOP that an engine in a step issues is its last instruction: the engine halts again (R511, R513). -/
theorem engIssue_stepped {y : State} (can : canIssue y n e = true) (noDog : (y.eng n e).wdTrap = false) (apart : (y.eng n e).bpHit = true)
    (free : holdsLock y n e = false) (noPending : (y.eng n e).haltPending = none) (step : (y.eng n e).stepping = true) :
    engIssue y n e .nop = debugHalt (advance y n e .nop) n e 1 := by
  have ready : canIssue y n e = true := can
  unfold canIssue at ready
  simp only [Bool.and_eq_true, decide_eq_true_eq, Option.isNone_iff_eq_none] at ready
  obtain ⟨⟨⟨⟨⟨runs, -⟩, noDark⟩, noStall⟩, -⟩, -⟩ := ready
  have next : (advance y n e .nop).eng n e = passed y n e 1 := by rw [advance, eng_updEng_self]; rfl
  have halts : afterInstr (advance y n e .nop) n e = debugHalt (advance y n e .nop) n e 1 := by
    have stepped : (passed y n e 1).stepping = true ∧ (passed y n e 1).dark.isNone = true ∧ (passed y n e 1).stall.isNone = true :=
      ⟨step, Option.isNone_iff_eq_none.2 noDark, Option.isNone_iff_eq_none.2 noStall⟩
    unfold afterInstr
    dsimp only
    rw [next, if_neg (not_not_intro (show (passed y n e 1).run = .running from runs)), show (passed y n e 1).haltPending = none from noPending]
    exact if_pos stepped
  have core : issueCore y n e .nop = afterInstr (advance y n e .nop) n e := by
    unfold issueCore
    dsimp only
    rw [if_neg (by simp [engLegal]), if_neg (by rw [free]; simp)]
    exact if_neg (by decide)
  unfold engIssue
  dsimp only
  rw [can, if_neg (by decide), noDog, if_neg (by decide), apart, if_neg (by simp), core, halts]

theorem engDecode_zero (w : Word) : engDecode 0 w = .nop := rfl

/-- A step of an engine that waits for nothing: its next instruction issues, a breakpoint at it apart (R513). -/
theorem dbgStep_issues {p : Fin 16} {op : EngOp} (halted : (s.eng n e).run = .halted) (bound : (s.eng n e).phys = some p)
    (noDark : (s.eng n e).dark = none) (noStall : (s.eng n e).stall = none)
    (fetched : fetchOp ((dbgRun s n e true).updEng n e fun x => { x with bpHit := true }) n e p = some op) :
    dbgStep s n e = (engIssue ((dbgRun s n e true).updEng n e fun x => { x with bpHit := true }) n e op).updEng n e fun x =>
      if x.haltCause = 2 then x else { x with bpHit := false } := by
  unfold dbgStep
  dsimp only
  rw [if_neg (not_not_intro halted), noDark, noStall, if_neg (by decide), bound]
  dsimp only
  rw [fetched]

/-- An instruction word of 0 fetched from words that no fault marks is a NOP. -/
theorem fetchOp_nop {y : State} {p : Fin 16} {c : Nat} (pc : (y.eng n e).pc.toNat = c) (noEcc : eccArmed y n = false)
    (unmarked : y.marked (codeBase n.val p.val + 2 * c) = false) (nop : y.word (codeBase n.val p.val + 2 * c) = 0) :
    fetchOp y n e p = some .nop := by
  have lt : c < 4096 := pc ▸ BitVec.isLt _
  unfold fetchOp
  dsimp only
  simp only [pc, Nat.add_zero, Nat.mod_eq_of_lt lt, nop, engDecode_zero, unmarked, noEcc]
  rfl

/-- What a step that begins leaves for the instruction that issues. -/
theorem stepping_keeps (s : State) (n : Fin 12) (e : Fin 14) : ∃ y, y = (dbgRun s n e true).updEng n e (fun x => { x with bpHit := true }) ∧
    y.eng n e = { resumed true (s.eng n e) with bpHit := true } ∧ OtherEngines s y n e ∧ holdsLock y n e = holdsLock s n e ∧
    migStopped y n e = migStopped s n e ∧ y.mem = s.mem ∧ y.marks = s.marks ∧ y.fieldInj = s.fieldInj := by
  obtain ⟨eng, lock, mig, -, mem, marks, inj⟩ := dbgRun_keeps s n e true
  refine ⟨_, rfl, ?_, fun m d other => ?_, ?_, ?_, mem, marks, inj⟩
  · rw [eng_updEng_self, eng, eng_updEng_self]
  · rw [eng_updEng_other _ _ _ _ _ _ other, eng, eng_updEng_other _ _ _ _ _ _ other]
  · unfold holdsLock
    rw [cl_updEng]
    exact congrArg (fun l => decide (l = some e)) lock
  · unfold migStopped
    rw [cl_updEng]
    dsimp only
    rw [mig]

theorem dbgStep_nop {p : Fin 16} (halted : (s.eng n e).run = .halted) (bound : (s.eng n e).phys = some p)
    (noDark : (s.eng n e).dark = none) (noStall : (s.eng n e).stall = none) (noIntm : (s.eng n e).intm = false)
    (noDog : (s.eng n e).wdTrap = false) (noMig : migStopped s n e = false) (free : holdsLock s n e = false) (noEcc : eccArmed s n = false)
    (unmarked : s.marked (codeBase n.val p.val + 2 * (s.eng n e).pc.toNat) = false)
    (nop : s.word (codeBase n.val p.val + 2 * (s.eng n e).pc.toNat) = 0) : ∃ y : State,
      dbgStep s n e = (debugHalt (advance y n e .nop) n e 1).updEng n e (fun x => if x.haltCause = 2 then x else { x with bpHit := false }) ∧
      y.eng n e = { resumed true (s.eng n e) with bpHit := true } ∧ OtherEngines s y n e ∧ y.mem = s.mem := by
  obtain ⟨y, is, eng, others, lock, mig, mem, marks, inj⟩ := stepping_keeps s n e
  have can : canIssue y n e = true := by
    unfold canIssue
    rw [eng, mig, noMig]
    simp [resumed, bound, noDark, noStall, noIntm]
  have ecc : eccArmed y n = false := by
    have same : eccArmed y n = eccArmed s n := by unfold eccArmed; rw [inj]
    exact same.trans noEcc
  have fetched : fetchOp y n e p = some .nop := by
    refine fetchOp_nop (c := (s.eng n e).pc.toNat) (by rw [eng]; rfl) ecc ?_ ((word_congr mem _).trans nop)
    exact (congrArg (fun l => List.contains l _) marks).trans unmarked
  refine ⟨y, ?_, eng, others, mem⟩
  rw [← engIssue_stepped can (by rw [eng]; exact noDog) (by rw [eng]) (lock.trans free) (by rw [eng]; rfl) (by rw [eng]; rfl)]
  subst is
  exact dbgStep_issues halted bound noDark noStall fetched

theorem completes_dbgStep_nop {p : Fin 16} (halted : (s.eng n e).run = .halted) (bound : (s.eng n e).phys = some p)
    (noDark : (s.eng n e).dark = none) (noStall : (s.eng n e).stall = none) (noIntm : (s.eng n e).intm = false)
    (noDog : (s.eng n e).wdTrap = false) (noMig : migStopped s n e = false) (free : holdsLock s n e = false) (noEcc : eccArmed s n = false)
    (unmarked : s.marked (codeBase n.val p.val + 2 * (s.eng n e).pc.toNat) = false)
    (nop : s.word (codeBase n.val p.val + 2 * (s.eng n e).pc.toNat) = 0) : Completes (.dbgStep n e t) s fun u =>
      (u.eng n e).run = .halted ∧ (u.eng n e).haltCause = 1 ∧ (u.eng n e).pc = (s.eng n e).pc + 1 ∧ (u.eng n e).regs = (s.eng n e).regs ∧
      SameMemory s u ∧ OtherEngines s u n e := by
  obtain ⟨y, steps, eng, others, mem⟩ := dbgStep_nop (s := s.at t) halted bound noDark noStall noIntm noDog noMig free noEcc unmarked nop
  have engU : (settle (dbgStep (s.at t) n e)).eng n e = { haltedBy 1 (passed y n e 1) with bpHit := false } := by
    rw [settle_eng, steps, eng_updEng_self, eng_congr (debugHalt_clusters _ _ _ _), eng_updEng_self, advance, eng_updEng_self]
    exact if_neg (show ¬ (1 = 2) by decide)
  refine completes_done (x := dbgStep (s.at t) n e) rfl ⟨by rw [engU]; rfl, by rw [engU]; rfl, ?_, ?_, sameMemory_settle ?_, fun m d other => ?_⟩
  · rw [engU]
    exact (congrArg (fun x : Engine => x.pc + 1) eng :)
  · rw [engU]
    exact (congrArg Engine.regs eng :)
  · rw [steps]
    exact (debugHalt_mem (advance y n e .nop) n e 1).trans mem
  · rw [settle_eng, steps, eng_updEng_other _ _ _ _ _ _ other, eng_congr (debugHalt_clusters _ _ _ _), eng_updEng_other _ _ _ _ _ _ other,
      advance, eng_updEng_other _ _ _ _ _ _ other]
    exact others m d other

theorem completes_dbgRun_idle (notHalted : (s.eng n e).run ≠ .halted) : ∀ c ∈ [Instr.dbgResume n e t, .dbgStep n e t], Completes c s fun u =>
    u.eng n e = s.eng n e ∧ SameRegs s u [] ∧ SameMemory s u := by
  have stays {c : Instr} (row : exec c s = done (s.at t)) : Completes c s fun u => u.eng n e = s.eng n e ∧ SameRegs s u [] ∧ SameMemory s u :=
    completes_done row ⟨settle_eng _ n e, sameRegs_settle rfl, sameMemory_settle rfl⟩
  rw [List.forall_mem_cons, List.forall_mem_singleton]
  exact ⟨stays (congrArg done (if_pos notHalted)), stays (congrArg done (if_pos notHalted))⟩

theorem completes_clrbrk (s : State) (n : Fin 12) (e : Fin 14) (t : Nat) : Completes (.clrbrk n t) s fun u =>
    (u.cl n).broken = none ∧ u.eng n e = s.eng n e ∧ SameRegs s u [] ∧ SameMemory s u := by
  have row : exec (.clrbrk n t) s = done ((s.at t).updCl n fun c => { c with broken := none }) := rfl
  refine completes_done row ⟨?_, ?_, sameRegs_settle rfl, sameMemory_settle rfl⟩
  · rw [settle_cl_broken, cl_updCl_self]
  · rw [settle_eng]
    exact eng_updCl_keeps (f := fun c => { c with broken := none }) (fun _ => rfl) (s.at t) n e

/-! An engine's registers through DBG_ENG_REG (R515). -/

/-- The engine after a write of DBG_ENG_REG with a selector. -/
def regWritten (k : Nat) (v : Word) (x : Engine) : Engine :=
  match place? 16 k with
  | some r => { x with regs := vset x.regs r v }
  | none =>
    if k = 16 then { x with pc := v.setWidth 12 }
    else if k = 17 then { x with z := bitOf v 3, n := bitOf v 2, c := bitOf v 1, v := bitOf v 0 }
    else if k = 18 then { x with ta := bitOf v 0 }
    else x

theorem completes_dbgEngReg {v : Word} (unlocked : s.lockedOut path = false) (sel : dbgEngine s path = some (n, e))
    (halted : (s.eng n e).run = .halted) : Completes (.dbgEngReg path (some v) t) s fun u =>
      u.eng n e = regWritten (fld (s.regSel DBG_ENG_REGSEL path.code) 4 0) v (s.eng n e) := by
  have writes : dbgRegWrite (s.at t) path v = (s.at t).updEng n e (regWritten (fld (s.regSel DBG_ENG_REGSEL path.code) 4 0) v) := by
    unfold dbgRegWrite
    rw [show dbgEngine (s.at t) path = some (n, e) from sel]
    dsimp only
    rw [if_neg (not_not_intro (show ((s.at t).eng n e).run = .halted from halted))]
    change (match place? 16 (fld (s.regSel DBG_ENG_REGSEL path.code) 4 0) with | some r => _ | none => _) = _
    unfold regWritten
    generalize place? 16 (fld (s.regSel DBG_ENG_REGSEL path.code) 4 0) = r
    cases r <;> rfl
  have row : exec (.dbgEngReg path (some v) t) s =
      done ((s.at t).updEng n e (regWritten (fld (s.regSel DBG_ENG_REGSEL path.code) 4 0) v)) :=
    congrArg done ((throughLock_of_unlocked (s := s.at t) unlocked _ _ _).trans writes)
  refine completes_done row ?_
  rw [settle_eng, eng_updEng_self]; rfl

/-- An access of DBG_ENG_REG that does nothing, or waits for the lock, leaves the engines. -/
theorem completes_dbgEngReg_nothing {w : Option Word} (idle : (match w with | none => s.at t | some v => dbgRegWrite (s.at t) path v) = s.at t) :
    Completes (.dbgEngReg path w t) s fun u => u.eng n e = s.eng n e ∧ SameRegs s u [] ∧ SameMemory s u := by
  obtain ⟨x, hx⟩ : ∃ x, x = (s.at t).throughLock path DBG_ENG_REG w fun s => match w with | none => s | some v => dbgRegWrite s path v := ⟨_, rfl⟩
  have same : x.clusters = s.clusters ∧ x.regs = s.regs ∧ x.mem = s.mem := by
    rw [hx]
    unfold State.throughLock
    split
    · exact ⟨rfl, rfl, rfl⟩
    · dsimp only
      rw [idle]
      exact ⟨rfl, rfl, rfl⟩
  have row : exec (.dbgEngReg path w t) s = done x := by rw [hx]; rfl
  obtain ⟨clusters, regs, mem⟩ := same
  refine completes_done row ⟨?_, sameRegs_settle regs, sameMemory_settle mem⟩
  rw [settle_eng, eng_congr clusters]

theorem completes_dbgEngReg_running {v : Word} (sel : dbgEngine s path = some (n, e)) (runs : (s.eng n e).run ≠ .halted) :
    Completes (.dbgEngReg path (some v) t) s fun u => u.eng n e = s.eng n e := by
  obtain ⟨u, next, eng, -⟩ := completes_dbgEngReg_nothing (s := s) (n := n) (e := e) (path := path) (t := t) (w := some v) (by
    unfold dbgRegWrite
    dsimp only
    rw [show dbgEngine (s.at t) path = some (n, e) from sel]
    exact if_pos runs)
  exact ⟨u, next, eng⟩

/-! Trace buffers (R516-R518). -/

theorem trcRegs : [DBG_TRC_W1, DBG_TRC_W2, DBG_TRC_W3].Nodup ∧ ∀ a ∈ [DBG_TRC_W1, DBG_TRC_W2, DBG_TRC_W3], closingReg a = false := by decide

theorem latchRegs_traces (path : Path) : ∀ (l : List (Nat × Word)) (s : State), (latchRegs s path l).traces = s.traces
  | [], _ => rfl
  | _ :: l, _ => (latchRegs_traces path l _).trans rfl

theorem completes_dbgTrcPop {i : Fin 14} {en : TraceEntry} {rest : List TraceEntry} (unlocked : s.lockedOut path = false)
    (sel : trcSel s path = some i) (entries : (vget s.traces i).entries = en :: rest) {y : State}
    (after : y = if quiet s path then s.at t else { s.at t with traces := vset s.traces i ⟨rest, false, (vget s.traces i).told && !rest.isEmpty⟩ }) :
    Completes (.dbgTrcPop path t) s fun u => u.traces = y.traces ∧ u.regSel DBG_TRC_W1 path.code = wd (secOf en.time) ∧
      u.regSel DBG_TRC_W2 path.code = wd (nsOf en.time / 65536) ∧ u.regSel DBG_TRC_W3 path.code = wd (nsOf en.time) := by
  let l : List (Nat × Word) := [(DBG_TRC_W1, wd (secOf en.time)), (DBG_TRC_W2, wd (nsOf en.time / 65536)), (DBG_TRC_W3, wd (nsOf en.time))]
  obtain ⟨distinct, open_⟩ := trcRegs
  have pops : (trcPop (s.at t) path).2 = latchRegs y path l := by
    unfold trcPop
    dsimp only
    rw [show trcSel (s.at t) path = some i from sel]
    dsimp only
    rw [show (vget (s.at t).traces i).entries = en :: rest from entries, after]
    rfl
  have row : exec (.dbgTrcPop path t) s = done (latchRegs y path l) :=
    congrArg done ((throughLock_of_unlocked (s := s.at t) unlocked _ _ _).trans pops)
  refine completes_done row ⟨?_, ?_, ?_, ?_⟩
  · rw [settle_traces, latchRegs_traces]
  · exact regSel_settle_latchRegs y distinct (by simp [l]) (open_ _ (by simp))
  · exact regSel_settle_latchRegs y distinct (by simp [l]) (open_ _ (by simp))
  · exact regSel_settle_latchRegs y distinct (by simp [l]) (open_ _ (by simp))

/-- One buffer cleared where its bit is set (R518). -/
def clearOne (v : Word) (s : State) (i : Fin 14) : State := if bitOf v i.val then { s with traces := vset s.traces i .init } else s

theorem trcClear_keeps (v : Word) : ∀ (l : List (Fin 14)) (s : State), (s.each l (clearOne v)).regs = s.regs ∧
    ∀ i, vget (s.each l (clearOne v)).traces i = if i ∈ l ∧ bitOf v i.val = true then .init else vget s.traces i
  | [], _ => ⟨rfl, fun i => by simp [State.each]⟩
  | j :: l, s => by
    obtain ⟨regs, bufs⟩ := trcClear_keeps v l (clearOne v s j)
    have one : (clearOne v s j).regs = s.regs ∧
        ∀ i, vget (clearOne v s j).traces i = if i = j ∧ bitOf v j.val = true then .init else vget s.traces i := by
      unfold clearOne
      split
      · rename_i set_
        exact ⟨rfl, fun i => by rw [vget_vset]; simp [set_]⟩
      · rename_i clear
        exact ⟨rfl, fun i => by simp [clear]⟩
    refine ⟨regs.trans one.1, fun i => ?_⟩
    change vget ((clearOne v s j).each l (clearOne v)).traces i = _
    rw [bufs, one.2]
    by_cases first : i = j
    · subst first
      by_cases set_ : bitOf v i.val = true <;> simp [set_]
    · simp [first]

theorem completes_dbgTrcClr (v : Word) (t : Nat) (s : State) : Completes (.dbgTrcClr v t) s fun u => SameRegs s u [] ∧ ∀ i : Fin 14,
    (v.getLsbD i.val = true → (vget u.traces i).entries = []) ∧ (v.getLsbD i.val = false → vget u.traces i = vget s.traces i) := by
  obtain ⟨regs, bufs⟩ := trcClear_keeps v (List.finRange 14) (s.at t)
  have row : exec (.dbgTrcClr v t) s = done ((s.at t).each (List.finRange 14) (clearOne v)) := rfl
  refine completes_done row ⟨sameRegs_settle regs, fun i => ⟨fun set_ => ?_, fun clear => ?_⟩⟩
  · rw [settle_traces, bufs, if_pos ⟨List.mem_finRange i, set_⟩]; rfl
  · rw [settle_traces, bufs, if_neg fun h => by have := h.2; unfold bitOf at this; rw [clear] at this; cases this]
    rfl

end

/-- Settles O59, clause by clause; a step is a resume, one instruction and a halt. -/
theorem enginesDebugged : Obligations.EnginesDebugged := by
  unfold Obligations.EnginesDebugged
  refine fun n e path t s =>
    ⟨⟨?_, ?_, ?_, ?_, fun halted => ⟨?_, ?_, ?_⟩, ?_, ?_, fun v unlocked sel halted => ⟨?_, ?_, ?_, ?_⟩, ?_, ?_⟩, ?_, ?_, ?_⟩
  · exact completes_dbgHalt_now
  · exact completes_dbgHalt_later
  · exact completes_dbgForce_lock
  · exact completes_dbgHalt_idle
  · exact completes_dbgResume halted
  · exact completes_dbgStep_waiting halted
  · exact fun p bound noDark noStall noIntm noDog noMig free noEcc unmarked nop =>
      completes_dbgStep_nop halted bound noDark noStall noIntm noDog noMig free noEcc unmarked nop
  · exact completes_dbgRun_idle
  · exact completes_clrbrk s n e t
  · intro r sel_
    have written := completes_dbgEngReg (v := v) (t := t) unlocked sel halted
    rw [sel_, regWritten, place?_val] at written
    exact written
  · intro sel_
    have written := completes_dbgEngReg (v := v) (t := t) unlocked sel halted
    rw [sel_] at written
    exact written
  · intro sel_
    have written := completes_dbgEngReg (v := v) (t := t) unlocked sel halted
    rw [sel_] at written
    exact written
  · intro sel_
    have written := completes_dbgEngReg (v := v) (t := t) unlocked sel halted
    rw [sel_] at written
    exact written
  · exact fun v sel runs => completes_dbgEngReg_running sel runs
  · exact completes_dbgEngReg_nothing rfl
  · intro i en rest unlocked sel entries loud
    obtain ⟨u, next, traces, words⟩ := completes_dbgTrcPop (t := t) unlocked sel entries rfl
    rw [loud, if_neg (by decide)] at traces
    exact ⟨u, next, by rw [traces, vget_vset, if_pos rfl], by rw [traces, vget_vset, if_pos rfl], words⟩
  · intro i en rest unlocked sel entries quiet_
    obtain ⟨u, next, traces, first, -⟩ := completes_dbgTrcPop (t := t) unlocked sel entries rfl
    rw [quiet_, if_pos rfl] at traces
    exact ⟨u, next, traces, first⟩
  · exact fun v => completes_dbgTrcClr v t s

end Sys2Proof.Machine
end

section
set_option Elab.async false
/-! SUPPORT. A response queued for the bridge under a class that is not its frame's, and the obligation about the switch (R160-R168). -/

namespace Sys2Proof.Machine

/-- A response of class NORMAL for endpoint 0. -/
def normalResponse : QEntry :=
  { frame := { w0 := putFld 2 15 14, w1 := 0, w2 := 0, w3 := 0, payload := [putFld TxnOp.rsp.code 15 12, 0], crcOk := true }
    input := 0, since := 0, refusals := 0, origin := none, joints := 0 }

/-- A node whose bridge queue of class CONTROL holds it alone, with sampling off. -/
def wrongQueue : State :=
  (State.reset.updQueue 6 1 fun _ => [normalResponse]).setReg SWQ_SMP_N 0

/-- No head of the bridge's queues there is aged: SWQ_CTRL leaves ageing off at reset, or nothing has waited. -/
theorem wrongQueue_fresh : ∀ c : Fin 4, ∀ x ∈ (wrongQueue.queue 6 c.val).take 1, aged (wrongQueue.at 0) x = false := by
  have all_ : ∀ c : Fin 4, ((wrongQueue.queue 6 c.val).take 1).all (fun x => !aged (wrongQueue.at 0) x) = true := by decide +kernel
  intro c x mem
  simpa using List.all_eq_true.1 (all_ c) x mem

/-- What leaves is taken from the queue of the frame's own class, so the entry stays. -/
theorem wrongQueue_stays : ((unitOutput (wrongQueue.at 0) 6 false false).queue 6 1).isEmpty = false := by decide +kernel

/-- Refutes O21: nothing makes the entry at the head of a class's queue a frame of that class; sent from queue CONTROL, a frame of
class NORMAL is removed from queue NORMAL and stays at the head of its own. -/
theorem not_switchMoves : ¬ Obligations.SwitchMoves := by
  unfold Obligations.SwitchMoves
  intro claim
  obtain ⟨-, -, out, -⟩ := claim 0 wrongQueue
  obtain ⟨u, next, left, -⟩ := out normalResponse [] 1 (by decide +kernel) (by decide +kernel) (by decide +kernel) rfl
    (Or.inl (by decide +kernel)) wrongQueue_fresh (by decide +kernel) (by decide +kernel) (by decide +kernel) (by decide +kernel)
    (by decide +kernel)
  have row : exec (.switchOutput 6 false false none 0) wrongQueue = .next (settle (unitOutput (wrongQueue.at 0) 6 false false)) := rfl
  have same : u = settle (unitOutput (wrongQueue.at 0) 6 false false) := Host.Outcome.next.inj (next.symm.trans row)
  rw [same, queue_congr (settle_sw _)] at left
  have stays := wrongQueue_stays
  rw [left] at stays
  cases stays

end Sys2Proof.Machine
end

section
set_option Elab.async false
/-! SUPPORT. An e-fuse channel that the field side's copy of the dark-node state still holds off, and the obligation about the electronic
fuses (R454-R461). -/

namespace Sys2Proof.Machine

/-- A power die at work whose channel 0 ramps on its command, with the override DARK set. The host die has left the dark-node state; the
field die has not heard of that yet. -/
def rampInTheDark : State :=
  let s := (State.reset.setReg PWR_EF_ON 0xFFFF).setRegSel PWR_EF_CFG 0 0x8000
  { s with
    fmodes := { s.fmodes with dark := true }
    power := { s.power with
      sectioned := true, started := true, link := true
      fuses := vupd s.power.fuses 0 fun f => { f with phase := .ramp } } }

/-- No override that the claim names is on: neither the dark-node state of the host die nor intermission, and the path is FEED. -/
theorem commanded_rampInTheDark : Commanded rampInTheDark 0 where
  applied := by decide +kernel
  started := by decide +kernel
  dark := by decide +kernel
  intm := by decide +kernel
  hu := by decide +kernel
  on := by decide +kernel

/-- The channel follows the field side's copy and is held off. -/
theorem held_rampInTheDark : ((settle (rampDone (rampInTheDark.at 0) 0)).fuse 0).phase = .held := by decide +kernel

/-- Refutes O51: `Unheld` asks for the dark-node state of the host die, but the power die hears the field die's copy of it; until that
copy has followed, a channel with the override DARK is held off, and its ramp does not end in ON. -/
theorem not_eFuses : ¬ Obligations.EFuses := by
  unfold Obligations.EFuses
  intro claim
  obtain ⟨-, driven, -⟩ := claim 0 0 0 rampInTheDark
  obtain ⟨-, ramp, -⟩ := driven commanded_rampInTheDark
  obtain ⟨⟨u, next, on, -⟩, -⟩ := ramp (by decide +kernel)
  have row : exec (.efRampDone 0 0) rampInTheDark = .next (settle (rampDone (rampInTheDark.at 0) 0)) := rfl
  have same : u = settle (rampDone (rampInTheDark.at 0) 0) := Host.Outcome.next.inj (next.symm.trans row)
  rw [same, held_rampInTheDark] at on
  cases on

end Sys2Proof.Machine
end

section
set_option Elab.async false
/-! SUPPORT. What the resets leave (R428, R463, R503, R504, R567), and the obligation about them. -/

namespace Sys2Proof.Machine

/-! The latches of the held states. -/

/-- From s to u only resources are held: no port changes its state. -/
structure HeldOnly (s u : State) : Prop where
  only : u = { s with links := u.links, sw := u.sw, cans := u.cans }
  states : ∀ p, (u.link p).state = (s.link p).state

theorem HeldOnly.refl (s : State) : HeldOnly s s := ⟨rfl, fun _ => rfl⟩

theorem HeldOnly.trans {s v u : State} (first : HeldOnly s v) (second : HeldOnly v u) : HeldOnly s u := by
  refine ⟨?_, fun p => (second.states p).trans (first.states p)⟩
  rw [second.only, first.only]

theorem heldOnly_updLink (s : State) (p : Port) : HeldOnly s (s.updLink p fun l => { l with faultHeld := true }) := by
  refine ⟨rfl, fun q => ?_⟩
  simp only [State.link, State.updLink, vget_vupd]
  split <;> rename_i same
  · rw [same]
  · rfl

theorem heldOnly_rehold (s : State) (x : SrcState) : HeldOnly s (rehold s x) := by
  unfold rehold
  split
  · exact .refl s
  · split
    · exact heldOnly_updLink s _
    · exact ⟨rfl, fun _ => rfl⟩
    · exact ⟨rfl, fun _ => rfl⟩
    · exact .refl s

theorem heldOnly_each (l : List SrcState) (s : State) : HeldOnly s (s.each l rehold) := by
  induction l generalizing s with
  | nil => exact .refl s
  | cons x rest ih => exact (heldOnly_rehold s x).trans (ih _)

/-! A reset of the node. -/

/-- What a reset of the node leaves, part by part. -/
structure ResetLeft (k : ResetKind) (cause : Nat) (s u : State) : Prop where
  pending : u.pending = s.pending
  regs : u.regs = s.regs.filter fun x => regKept k x.1
  mem : u.mem = s.mem.filter fun x => memKept k x.1
  start : u.start = resetStart k cause s.start
  states : ∀ p, (u.link p).state = (vget (if decide (k = .warm) then s.links.map warmLink else Vector.replicate 2 .init) p.ix).state
  clusters : u.clusters = s.clusters.map resetCluster
  store : u.store = resetStore s.store (decide (k = .warm))
  lead : u.lead = State.reset.lead
  dark : u.dark = if k = .powerOn then .init else s.dark
  power : u.power = resetPower k s.power

theorem ResetLeft.held {k : ResetKind} {cause : Nat} {s v u : State} (left : ResetLeft k cause s v) (held : HeldOnly v u) :
    ResetLeft k cause s u where
  pending := by rw [held.only]; exact left.pending
  regs := by rw [held.only]; exact left.regs
  mem := by rw [held.only]; exact left.mem
  start := by rw [held.only]; exact left.start
  states p := (held.states p).trans (left.states p)
  clusters := by rw [held.only]; exact left.clusters
  store := by rw [held.only]; exact left.store
  lead := by rw [held.only]; exact left.lead
  dark := by rw [held.only]; exact left.dark
  power := by rw [held.only]; exact left.power

theorem resetTo_left (k : ResetKind) (cause : Nat) (s : State) : ResetLeft k cause s (resetTo k cause s) := by
  unfold resetTo
  refine ResetLeft.held ?_ (heldOnly_each _ _)
  constructor
  case states => exact fun _ => rfl
  all_goals rfl

/-! Registers and memory. -/

theorem regKey_div (a : Nat) {k : Nat} (small : k < 65536) : regKey a k / 65536 = a := by
  unfold regKey
  omega

/-- A register file of which only the entries that satisfy a condition are left. -/
theorem regSel_of_filter {s u : State} {p : Nat → Bool} (left : u.regs = s.regs.filter fun x => p x.1) (a k : Nat) :
    u.regSel a k = if p (regKey a k) then s.regSel a k else State.reset.regSel a k := by
  unfold State.regSel
  rw [left]
  exact sparseGet_filter regDefault p s.regs _

theorem byte_of_filter {s u : State} {p : Nat → Bool} (left : u.mem = s.mem.filter fun x => p x.1) (a : Nat) :
    u.byte a = if p a then s.byte a else memDefault a := by
  unfold State.byte
  rw [left]
  exact sparseGet_filter memDefault p s.mem a

/-- Outside the retained store a byte of memory is 0 after power-on. -/
theorem memDefault_of_ram {a : Nat} (ram : inStore a = false) : memDefault a = 0 := by
  unfold memDefault
  unfold inStore storeBase at ram
  simp only [Bool.and_eq_false_iff, decide_eq_false_iff_not] at ram
  rw [if_pos (by omega)]

theorem regCleared_of_filter {s v u : State} {p : Nat → Bool} (left : v.regs = s.regs.filter fun x => p x.1) (same : SameRegs v u []) {a : Nat}
    (lost : ∀ k < 65536, p (regKey a k) = false) : RegCleared u a := by
  intro k small open_
  rw [same a k small open_ (by simp), regSel_of_filter left, lost k small]
  rfl

/-! Clusters, pins and backlog. -/

theorem pinsUndriven_of_unapplied {s : State} (unapplied : ∀ n, (s.cl n).cfg = none) : PinsUndriven (settle s) := by
  intro k
  have none_ : (settle s).pinCfg k = none := by
    unfold State.pinCfg
    rw [settle_cl, unapplied]
  obtain ⟨rank, out⟩ := settle_ruled s k
  refine ⟨?_, ?_⟩
  · rw [rank, pinRank, none_]
  · rw [out, pinOut, none_]

theorem cl_reset {s v : State} (left : v.clusters = s.clusters.map resetCluster) (n : Fin 12) : v.cl n = resetCluster (s.cl n) := by
  simp [State.cl, left, vget]

theorem settleCan_off {s : State} (off : ∀ c, (s.can c).phase = .off) (l : List (Fin 4)) : l.foldl settleCan s = s := by
  induction l with
  | nil => rfl
  | cons c rest ih =>
    have same : settleCan s c = s := by simp [settleCan, off c]
    rw [List.foldl_cons, same, ih]

/-- With every CAN controller off the closing part reports nothing. -/
theorem settle_backlog_of_off {s : State} (off : ∀ c, (s.can c).phase = .off) : (settle s).backlog = s.backlog := by
  unfold settle
  dsimp only
  rw [settleFwd_backlog, settleSignals_backlog, settleCan_off]
  · simp
  · intro c
    have same : (settlePins (settleModes (settleBypass (settleFuses (settleHolds (settleLock (settleRange .b (settleRange .a s)))))))).cans =
        s.cans := by simp
    unfold State.can
    rw [same]
    exact off c

/-! BYPASS_N. -/

theorem settle_bypassLow (s : State) : ∃ x : State, (settle s).start.bypassLow = bypassLow x ∧ x.start = s.start := by
  refine ⟨settleFuses (settleHolds (settleLock (settleRange .b (settleRange .a s)))), ?_, by simp⟩
  simp only [settle, settleFwd_start, settleSignals_start, foldl_keeps (fun s : State => s.start) settleCan settleCan_start,
    settlePins_start, settleModes_start]
  rfl

/-- Until the LNK section is applied after a reset, BYPASS_N is low but for a warm restart. -/
theorem bypassLow_unapplied {s : State} (unapplied : s.start.lnkApplied = false) (cold : s.start.warm = false) :
    (settle s).start.bypassLow = true := by
  obtain ⟨x, shown, same⟩ := settle_bypassLow s
  rw [shown, bypassLow, same, unapplied, cold]
  split <;> rfl

/-! The trace entry of a warm restart. -/

/-- What a trace entry leaves alone. -/
structure TraceKeeps (s u : State) : Prop where
  regs : KeepsRegs s u [DBG_TRC_LOST, DBG_EVT]
  pending : u.pending = s.pending
  store : u.store = s.store
  links : u.links = s.links
  power : u.power = s.power

theorem TraceKeeps.trans {s v u : State} (first : TraceKeeps s v) (second : TraceKeeps v u) : TraceKeeps s u where
  regs := first.regs.trans second.regs
  pending := second.pending.trans first.pending
  store := second.store.trans first.store
  links := second.links.trans first.links
  power := second.power.trans first.power

theorem traceKeeps_trace (s : State) (i : Fin 14) (k r d : Nat) : TraceKeeps s (s.trace i k r d) := by
  have counted (b : Vector TraceBuf 14) :
      KeepsRegs s ((({ s with traces := b } : State).bump DBG_TRC_LOST).evt DBG_EVT 12) [DBG_TRC_LOST, DBG_EVT] :=
    ((KeepsRegs.of_regs rfl _).bump (by simp)).evt (by simp) 12
  obtain ⟨b, is | is | is⟩ := trace_cases s i k r d <;> rw [is]
  · exact ⟨.of_regs rfl _, rfl, rfl, rfl, rfl⟩
  · exact ⟨counted b, rfl, rfl, rfl, rfl⟩
  · exact ⟨(counted b).raise _ _, by simp, by simp, by simp, by simp⟩

theorem traceKeeps_traceAll (s : State) (k : Nat) : TraceKeeps s (s.traceAll k) := by
  unfold State.traceAll
  generalize List.finRange 14 = l
  induction l generalizing s with
  | nil => exact ⟨.of_regs rfl _, rfl, rfl, rfl, rfl⟩
  | cons i rest ih => exact (traceKeeps_trace s i k 0 0).trans (ih _)

/-! Power-on and RESET_N. -/

theorem powerOn_claim (t : Nat) (s : State) : Completes (.powerOnReset t) s fun u =>
    u.start.cause = (if s.power.cycling then 4 else 0) ∧ u.start.hostReset = true ∧ u.start.fieldReset = true ∧ u.start.bypassLow = true ∧
    (u.store.slots = s.store.slots ∧ u.store.keys = s.store.keys ∧ u.pending = s.pending) ∧ (∀ a, RegCleared u a) ∧
    (∀ a, u.byte a = if inStore a then s.byte a else 0) ∧ PinsUndriven u ∧ (∀ n, (u.cl n).online = false ∧ (u.cl n).cfg = none) ∧
    (∀ k, (u.core k).claim = .c0) ∧ u.dark.dark = false := by
  have left := resetTo_left .powerOn (if s.power.cycling then 4 else 0) (s.at t)
  refine completes_done (x := resetTo .powerOn (if s.power.cycling then 4 else 0) (s.at t)) rfl ?_
  generalize resetTo .powerOn (if s.power.cycling then 4 else 0) (s.at t) = x at left
  have begun := left.start
  refine ⟨?_, ?_, ?_, bypassLow_unapplied ?_ ?_, ⟨?_, ?_, ?_⟩, fun a => ?_, fun a => ?_, pinsUndriven_of_unapplied fun n => ?_,
    fun n => ?_, fun k => ?_, ?_⟩
  · rw [settle_start_cause, begun]; rfl
  · rw [settle_start_hostReset, begun]; rfl
  · rw [settle_start_fieldReset, begun]; rfl
  · rw [begun]; rfl
  · rw [begun]; rfl
  · rw [settle_store, left.store]; rfl
  · rw [settle_store, left.store]; rfl
  · rw [settle_pending, left.pending]; rfl
  · exact regCleared_of_filter left.regs (sameRegs_settle rfl) fun k _ => rfl
  · rw [settle_byte, byte_of_filter left.mem]
    cases stored : inStore a
    · simp [memKept, stored, memDefault_of_ram stored]
    · simp [memKept, stored]
  · rw [cl_reset left.clusters]; rfl
  · rw [settle_cl, cl_reset left.clusters]; exact ⟨rfl, rfl⟩
  · unfold State.core
    rw [settle_lead, left.lead]
    cases k <;> rfl
  · rw [settle_dark_dark, left.dark]; rfl

theorem resetN_claim (t : Nat) (s : State) (running : s.start.hostReset = false) : Completes (.resetNAssert t) s fun u =>
    u.start.cause = 1 ∧ u.start.hostReset = true ∧ u.start.fieldReset = true ∧ u.start.resetLow = true ∧ u.start.bypassLow = true ∧
    (u.store.slots = s.store.slots ∧ u.store.keys = s.store.keys ∧ u.pending = s.pending) ∧
    (∀ a, RegCleared u a) ∧ (∀ a, u.byte a = if inPublish a then (if inStore a then s.byte a else 0) else s.byte a) ∧ PinsUndriven u ∧
    u.power.path = s.power.path ∧ u.dark.dark = s.dark.dark := by
  have left := resetTo_left .resetN 1 (s.at t)
  have taken : exec (.resetNAssert t) s = done (resetTo .resetN 1 (s.at t)) :=
    congrArg done (if_neg (show ¬ (s.at t).start.hostReset = true by rw [show (s.at t).start = s.start from rfl, running]; simp))
  refine completes_done taken ?_
  generalize resetTo .resetN 1 (s.at t) = x at left
  have begun := left.start
  refine ⟨?_, ?_, ?_, ?_, bypassLow_unapplied ?_ ?_, ⟨?_, ?_, ?_⟩, fun a => ?_, fun a => ?_, pinsUndriven_of_unapplied fun n => ?_, ?_, ?_⟩
  · rw [settle_start_cause, begun]; rfl
  · rw [settle_start_hostReset, begun]; rfl
  · rw [settle_start_fieldReset, begun]; rfl
  · rw [settle_start_resetLow, begun]; rfl
  · rw [begun]; rfl
  · rw [begun]; rfl
  · rw [settle_store, left.store]; rfl
  · rw [settle_store, left.store]; rfl
  · rw [settle_pending, left.pending]; rfl
  · exact regCleared_of_filter left.regs (sameRegs_settle rfl) fun k _ => rfl
  · rw [settle_byte, byte_of_filter left.mem]
    cases stored : inStore a <;> cases published : inPublish a <;> simp [memKept, stored, published]
    exact memDefault_of_ram stored
  · rw [cl_reset left.clusters]; rfl
  · rw [settle_power_path, left.power]; rfl
  · rw [settle_dark_dark, left.dark]; rfl

theorem resetN_again (t : Nat) (s : State) (held : s.start.hostReset = true) : Completes (.resetNAssert t) s fun u =>
    u.start.resetLow = true ∧ u.start.hostReset = true ∧ SameRegs s u [] ∧ SameMemory s u := by
  refine completes_done (congrArg done (if_pos held)) ⟨?_, ?_, sameRegs_settle rfl, sameMemory_settle rfl⟩
  · rw [settle_start_resetLow]
  · rw [settle_start_hostReset]; exact held

theorem released_host (t : Nat) (s : State) : Completes (.resetRelease false t) s fun u =>
    u.start.hostReset = false ∧ u.start.resetLow = false ∧ u.start.fieldReset = s.start.fieldReset ∧ SameRegs s u [] ∧ SameMemory s u :=
  completes_done rfl ⟨by rw [settle_start_hostReset]; rfl, by rw [settle_start_resetLow]; rfl, by rw [settle_start_fieldReset]; rfl,
    sameRegs_settle rfl, sameMemory_settle rfl⟩

theorem released_field (t : Nat) (s : State) (held : s.start.fieldReset = true) : Completes (.resetRelease true t) s fun u =>
    u.start.fieldReset = false ∧ u.power.link = s.power.started ∧ u.start.hostReset = s.start.hostReset ∧ SameMemory s u := by
  have taken : release (s.at t) true =
      ({ s.at t with start := { (s.at t).start with fieldReset := false } } : State).updPower fun p => { p with link := p.started } :=
    if_pos held
  refine completes_done (congrArg done taken) ⟨?_, ?_, ?_, sameMemory_settle rfl⟩
  · rw [settle_start_fieldReset]; rfl
  · rw [settle_power_link]; rfl
  · rw [settle_start_hostReset]; rfl

/-! The warm restart. -/

/-- A register that a warm restart keeps, by its address. -/
theorem regKept_warm (a : Nat) {k : Nat} (small : k < 65536) :
    regKept .warm (regKey a k) = (decide (a = HUB_WARMC) ||
      (decide (0x15800 ≤ a) && decide (a < 0x16000) && (match regRow? a with | none => false | some r => r.persistent))) := by
  unfold regKept
  rw [regKey_div a small]
  rfl

theorem warm_claim (t : Nat) (s : State) (calm : s.power.cfStep = 0) (cold : s.start.warm = false) (running : s.start.hostReset = false)
    (idle : jrnBusy s = false) : Completes (.warm t) s fun u =>
      u.start.cause = 2 ∧ u.start.warm = true ∧ (u.store.slots = s.store.slots ∧ u.store.keys = s.store.keys ∧ u.pending = s.pending) ∧
      u.reg HUB_WARMC = bumpW (s.reg HUB_WARMC) 1 ∧ HubReported u Src.warmRestart 0 ∧
      (∀ a, a ≠ HUB_WARMC → (a < 0x15800 ∨ 0x16000 ≤ a) → RegCleared u a) ∧
      (∀ a k r, k < 65536 → regRow? a = some r → r.persistent = true → 0x15800 ≤ a → a < 0x16000 → u.regSel a k = s.regSel a k) ∧
      (∀ p, (u.link p).state = (s.link p).state) ∧ u.power.path = s.power.path ∧ u.power.feeds = s.power.feeds ∧
      (∀ k, (u.core k).claim = .c0) ∧ ∀ n, (u.cl n).online = false := by
  have flushed : jrnFlush ((s.at t).store.jrn.held.length + 1) (s.at t) = s.at t :=
    if_neg (show ¬ jrnBusy (s.at t) = true by rw [show jrnBusy (s.at t) = false from idle]; simp)
  have taken : warmCommand (s.at t) = ((resetTo .warm 2 ((s.at t).traceAll 0x17)).bump HUB_WARMC).raise Src.warmRestart 0 := by
    have goes : ¬ ((s.at t).power.cfStep ≠ 0 ∨ (s.at t).start.warm = true ∨ (s.at t).start.hostReset = true) := by
      rw [show (s.at t).power = s.power from rfl, show (s.at t).start = s.start from rfl, calm, cold, running]
      simp
    rw [warmCommand, if_neg goes, warmRestart, flushed]
  have traced := traceKeeps_traceAll (s.at t) 0x17
  have left := resetTo_left .warm 2 ((s.at t).traceAll 0x17)
  refine completes_done (congrArg done taken) ?_
  generalize (s.at t).traceAll 0x17 = y at traced left
  generalize resetTo .warm 2 y = x at left
  have begun := left.start
  have counted : KeepsRegs x ((x.bump HUB_WARMC).raise Src.warmRestart 0) [HUB_WARMC] :=
    ((KeepsRegs.of_regs rfl _).bump List.mem_cons_self).raise _ _
  have same := counted.settle
  have kept (a k : Nat) (small : k < 65536) (open_ : closingReg a = false) (other : a ≠ HUB_WARMC) :
      (settle ((x.bump HUB_WARMC).raise Src.warmRestart 0)).regSel a k =
        if regKept .warm (regKey a k) then y.regSel a k else State.reset.regSel a k :=
    (same a k small open_ (by simp [other])).trans (regSel_of_filter left.regs a k)
  refine ⟨?_, ?_, ⟨?_, ?_, ?_⟩, ?_, (hubReported_raise _ (by decide) 0).settle, fun a other outside k small open_ => ?_,
    fun a k r small row lasting low high => ?_, fun p => ?_, ?_, ?_, fun k => ?_, fun n => ?_⟩
  · rw [settle_start_cause, raise_start, bump_start, begun]; rfl
  · rw [settle_start_warm, raise_start, bump_start, begun]; rfl
  · rw [settle_store, raise_store, bump_store, left.store]
    show y.store.slots = _
    rw [traced.store]
    rfl
  · rw [settle_store, raise_store, bump_store, left.store]
    show y.store.keys = _
    rw [traced.store]
    rfl
  · rw [settle_pending, raise_pending, bump_pending, left.pending, traced.pending]; rfl
  · have named : x.reg HUB_WARMC = s.reg HUB_WARMC := by
      show x.regSel HUB_WARMC 0 = _
      rw [regSel_of_filter left.regs, regKept_warm _ (by decide)]
      exact traced.regs HUB_WARMC 0 (by decide) (by decide)
    show (settle _).regSel HUB_WARMC 0 = _
    rw [regSel_settle _ _ _ (by decide) (by decide), regSel_congr (raise_regs _ _ _)]
    exact (reg_bump_self x HUB_WARMC).trans (by rw [named])
  · rw [kept a k small open_ other, regKept_warm a small]
    have away : (decide (0x15800 ≤ a) && decide (a < 0x16000)) = false := by
      simp only [Bool.and_eq_false_iff, decide_eq_false_iff_not]; omega
    simp [other, away]
  · have other : a ≠ HUB_WARMC := by
      intro e
      rw [e] at low
      exact absurd low (by decide)
    have apart (b : Nat) (outside : b < 0x15800 ∨ 0x16000 ≤ b) : a ≠ b := by omega
    have open_ : closingReg a = false := by
      simp only [closingReg, List.contains_eq_mem, List.mem_cons, List.not_mem_nil, or_false, decide_eq_false_iff_not, not_or]
      refine ⟨?_, ?_, ?_, ?_, ?_, ?_, ?_, ?_, ?_, ?_, ?_, ?_⟩ <;> exact apart _ (by decide)
    have notTrace : a ∉ [DBG_TRC_LOST, DBG_EVT] := by
      simp only [List.mem_cons, List.not_mem_nil, or_false, not_or]
      exact ⟨apart _ (by decide), apart _ (by decide)⟩
    rw [kept a k small open_ other, regKept_warm a small, row]
    rw [if_pos (by simp [lasting, low, high])]
    exact traced.regs a k small notTrace
  · unfold State.link
    rw [settle_links, raise_links, bump_links]
    refine (left.states p).trans ?_
    rw [if_pos (by decide), traced.links]
    simp [vget, warmLink, at_links]
  · rw [settle_power_path, raise_power, bump_power, left.power]
    show y.power.path = _
    rw [traced.power]
    rfl
  · rw [settle_power_feeds, raise_power, bump_power, left.power]
    show y.power.feeds = _
    rw [traced.power]
    rfl
  · unfold State.core
    rw [settle_lead, raise_lead, bump_lead, left.lead]
    cases k <;> rfl
  · rw [settle_cl, show ((x.bump HUB_WARMC).raise Src.warmRestart 0).cl n = x.cl n by simp [State.cl], cl_reset left.clusters]; rfl

theorem warm_ignored (t : Nat) (s : State) (busy : s.power.cfStep ≠ 0 ∨ s.start.warm = true ∨ s.start.hostReset = true) :
    Completes (.warm t) s fun u => u.start.cause = s.start.cause ∧ SameRegs s u [] ∧ SameMemory s u ∧ u.store = s.store := by
  refine completes_done (congrArg done (show warmCommand (s.at t) = s.at t from if_pos busy))
    ⟨?_, sameRegs_settle rfl, sameMemory_settle rfl, ?_⟩
  · rw [settle_start_cause]; rfl
  · rw [settle_store]; rfl

/-! The field side alone. -/

theorem inStore_notField {a : Nat} (stored : inStore a = true ∨ inPublish a = true) : fieldDieMem a = false := by
  simp only [inStore, inPublish, Bool.and_eq_true, decide_eq_true_eq] at stored
  simp only [fieldDieMem, Bool.or_eq_false_iff, Bool.and_eq_false_iff, decide_eq_false_iff_not]
  simp only [storeBase, show pubBase false = 0x200000000 from rfl] at stored
  simp only [windowBase]
  omega

theorem fieldDieReg_key (a : Nat) {k : Nat} (small : k < 65536) :
    fieldDieReg (regKey a k) = (decide (0x10000 ≤ a) && !(decide (0x15800 ≤ a) && decide (a < 0x16000))) := by
  unfold fieldDieReg
  rw [regKey_div a small]

/-- What the reset of the field side leaves, part by part. -/
structure FieldLeft (s u : State) : Prop where
  fieldReset : u.start.fieldReset = true
  resend : u.start.resend = true
  slots : u.store.slots = s.store.slots
  keys : u.store.keys = s.store.keys
  pending : u.pending = s.pending
  regs : u.regs = s.regs.filter fun x => !fieldDieReg x.1
  mem : u.mem = s.mem.filter fun x => !fieldDieMem x.1
  clusters : u.clusters = s.clusters.map resetCluster
  cans : ∀ c, (u.can c).phase = .off
  backlog : u.backlog = []
  link : u.power.link = false
  cores : ∀ k, (u.core k).fieldClaim = .c0 ∧ (u.core k).claim = (s.core k).claim

theorem fieldReset_left {s : State} (hub : s.start.hostReset = false) (field : s.start.fieldReset = false) : FieldLeft s (fieldReset s) := by
  have goes : ¬ (s.start.hostReset = true ∨ s.start.fieldReset = true) := by simp [hub, field]
  unfold fieldReset
  rw [if_neg goes]
  constructor
  case cans =>
    intro c
    simp [State.can, State.updCore, State.updPower, vget, CanCtl.init]
  case cores =>
    intro k
    cases k <;> simp [State.core, State.updCore, State.updPower, vget_vupd, Core.ix]
  all_goals rfl

theorem fieldSide_claim (t : Nat) (s : State) (hub : s.start.hostReset = false) (field : s.start.fieldReset = false) :
    Completes (.fieldSideReset t) s fun u =>
      u.start.fieldReset = true ∧ u.start.resend = true ∧ (u.store.slots = s.store.slots ∧ u.store.keys = s.store.keys ∧ u.pending = s.pending) ∧
      PinsUndriven u ∧ u.power.link = false ∧ (∀ a, (0x10000 ≤ a ∧ (a < 0x15800 ∨ 0x16000 ≤ a)) → RegCleared u a) ∧
      (∀ a k, k < 65536 → (a < 0x10000 ∨ (0x15800 ≤ a ∧ a < 0x16000)) → closingReg a = false → u.regSel a k = s.regSel a k) ∧
      (∀ n, (u.cl n).online = false ∧ (u.cl n).cfg = none) ∧ (∀ k, (u.core k).fieldClaim = .c0 ∧ (u.core k).claim = (s.core k).claim) ∧
      (∀ a, inStore a = true ∨ inPublish a = true → u.byte a = s.byte a) ∧ u.backlog = [] := by
  have left := fieldReset_left (s := s.at t) hub field
  refine completes_done (x := fieldReset (s.at t)) rfl ?_
  generalize fieldReset (s.at t) = x at left
  refine ⟨?_, ?_, ⟨?_, ?_, ?_⟩, pinsUndriven_of_unapplied fun n => ?_, ?_, fun a away => ?_, fun a k small near open_ => ?_, fun n => ?_,
    fun k => ?_, fun a stored => ?_, ?_⟩
  · rw [settle_start_fieldReset]; exact left.fieldReset
  · rw [settle_start_resend]; exact left.resend
  · rw [settle_store]; exact left.slots
  · rw [settle_store]; exact left.keys
  · rw [settle_pending]; exact left.pending
  · rw [cl_reset left.clusters]; rfl
  · rw [settle_power_link]; exact left.link
  · refine regCleared_of_filter (p := fun key => !fieldDieReg key) left.regs (sameRegs_settle rfl) fun k small => ?_
    rw [fieldDieReg_key a small]
    simp only [Bool.not_eq_false', Bool.and_eq_true, Bool.not_eq_true', Bool.and_eq_false_iff, decide_eq_true_eq, decide_eq_false_iff_not]
    omega
  · rw [regSel_settle _ _ _ small open_, regSel_of_filter (p := fun key => !fieldDieReg key) left.regs, fieldDieReg_key a small, if_pos]
    · rfl
    · simp only [Bool.not_eq_true', Bool.and_eq_false_iff, Bool.not_eq_false', Bool.and_eq_true, decide_eq_true_eq, decide_eq_false_iff_not]
      omega
  · rw [settle_cl, cl_reset left.clusters]; exact ⟨rfl, rfl⟩
  · unfold State.core
    rw [settle_lead]
    exact left.cores k
  · rw [settle_byte, byte_of_filter (p := fun a => !fieldDieMem a) left.mem, inStore_notField stored]
    rfl
  · rw [settle_backlog_of_off left.cans]; exact left.backlog

/-- Settles O57, kind by kind: what each reset leaves of registers and memory, with the pins undriven because no cluster keeps its
section. -/
theorem resets : Obligations.Resets := by
  unfold Obligations.Resets
  intro t s
  exact ⟨powerOn_claim t s, resetN_claim t s, resetN_again t s, released_host t s, released_field t s, warm_claim t s, warm_ignored t s,
    fieldSide_claim t s⟩

end Sys2Proof.Machine
end

section
set_option Elab.async false
/-! SUPPORT. A request of the debug port behind one that endpoint 4 holds back, and the obligation about the debug access port (R202, R508). -/

namespace Sys2Proof.Machine

/-- The read of one word at address 0 of node 2, as the debug access port asks for it. -/
def farRead : Descriptor :=
  { ep := 4, op := .rd, dring := 0, dnode := 2, count := 0, burst := false, len := 0, cg := false, cell := 0, addr := 0, set := 0
    cycle := 0, data := [] }

/-- Node 1 of a ring with both links up and the TAP at DAP, whose endpoint 4 still holds such a read back although nothing keeps it any
more. -/
def heldBehind : State :=
  { State.reset with
    links := State.reset.links.map fun x => { x with state := .up }
    fab := { State.reset.fab with node := 1 }
    dbg := { State.reset.dbg with tap := .dap }
    brg := { State.reset.brg with eps := vupd State.reset.brg.eps 4 fun e => { e with held := [⟨farRead, .plain⟩] } } }

theorem heldBehind_opens : (dapGlobal (heldBehind.at 0) 0x200000000 none).brg.opens = [] :=
  List.isEmpty_iff.1 (by decide +kernel)

/-- Refutes O58: the claim about GREAD and GWRITE does not ask that endpoint 4 hold no earlier request. Behind one that it holds, the
request is held as well (R202), and none is open. -/
theorem not_debugPorts : ¬ Obligations.DebugPorts := by
  unfold Obligations.DebugPorts
  intro claim
  obtain ⟨dap, -⟩ := claim 0 heldBehind
  obtain ⟨-, free⟩ := dap (by decide +kernel)
  obtain ⟨-, -, -, far⟩ := free (by decide +kernel)
  obtain ⟨u, next, -, -, opens, -⟩ := far 0x000200000000 none 0 (by decide +kernel) (by decide +kernel) (by decide +kernel)
    (by decide +kernel) (by decide +kernel) (by decide) (by decide +kernel) (by decide)
  have row : exec (.gread 0x000200000000 0) heldBehind = .next (settle (dapGlobal (heldBehind.at 0) 0x200000000 none)) := rfl
  have same : u = settle (dapGlobal (heldBehind.at 0) 0x200000000 none) := Host.Outcome.next.inj (next.symm.trans row)
  rw [same, settle_brg_opens, heldBehind_opens] at opens
  have length := congrArg List.length opens
  rw [List.length_append] at length
  exact absurd length (by simp)

end Sys2Proof.Machine
end

section
set_option Elab.async false
/-! SUPPORT. Reports of the field die on their way to the hub (R417). -/

namespace Sys2Proof.Machine

/-- Every report that waits to cross the barrier, or in the backlog, still does so. -/
structure KeepsReports (x u : State) : Prop where
  ready : ∀ m ∈ (x.bdir .fh).ready, m ∈ (u.bdir .fh).ready
  backlog : ∀ b ∈ x.backlog, ∃ b' ∈ u.backlog, b'.src = b.src ∧ b'.inj = b.inj ∧ b'.dry = b.dry

theorem KeepsReports.congr {x u : State} (bar : u.bar = x.bar) (backlog : u.backlog = x.backlog) : KeepsReports x u where
  ready m mem := by rwa [State.bdir, bar]
  backlog b mem := ⟨b, by rwa [backlog], rfl, rfl, rfl⟩

theorem KeepsReports.trans {x y u : State} (h : KeepsReports x y) (g : KeepsReports y u) : KeepsReports x u where
  ready m mem := g.ready m (h.ready m mem)
  backlog b mem := by
    obtain ⟨c, memC, src, inj, dry⟩ := h.backlog b mem
    obtain ⟨d, memD, src', inj', dry'⟩ := g.backlog c memC
    exact ⟨d, memD, src'.trans src, inj'.trans inj, dry'.trans dry⟩

theorem KeepsReports.more {x u : State} (more : MoreReady x u) (backlog : u.backlog = x.backlog) : KeepsReports x u where
  ready m mem := by
    obtain ⟨l, is⟩ := more .fh
    rw [is]
    exact List.mem_append_left l mem
  backlog b mem := ⟨b, by rwa [backlog], rfl, rfl, rfl⟩

theorem keepsReports_barReady (x : State) (d : BarDir) (ty : BarType) (body : BarPayload) : KeepsReports x (x.barReady d ty body) :=
  .more (moreReady_barReady x d ty body) rfl

theorem mem_addBacklog {src detail time : Nat} {inj dry : Bool} {b : Backlog} :
    ∀ {l : List Backlog}, b ∈ l → ∃ b' ∈ addBacklog src detail time inj dry l, b'.src = b.src ∧ b'.inj = b.inj ∧ b'.dry = b.dry
  | [], mem => by cases mem
  | c :: t, mem => by
    unfold addBacklog
    rcases List.mem_cons.1 mem with rfl | later
    · split
      · exact ⟨_, List.mem_cons_self, rfl, rfl, rfl⟩
      · exact ⟨_, List.mem_cons_self, rfl, rfl, rfl⟩
    · split
      · exact ⟨b, List.mem_cons_of_mem _ later, rfl, rfl, rfl⟩
      · obtain ⟨b', mem', same⟩ := mem_addBacklog later
        exact ⟨b', List.mem_cons_of_mem _ mem', same⟩

theorem self_addBacklog (src detail time : Nat) (inj dry : Bool) :
    ∀ l : List Backlog, ∃ b ∈ addBacklog src detail time inj dry l, b.src = src ∧ b.inj = inj ∧ b.dry = dry
  | [] => ⟨_, List.mem_singleton_self _, rfl, rfl, rfl⟩
  | c :: t => by
    unfold addBacklog
    split
    case isTrue same => exact ⟨_, List.mem_cons_self, same⟩
    case isFalse =>
      obtain ⟨b, mem, is⟩ := self_addBacklog src detail time inj dry t
      exact ⟨b, List.mem_cons_of_mem _ mem, is⟩

theorem keepsReports_raise (x : State) (src d : Nat) : KeepsReports x (x.raise src d) := by
  unfold State.raise
  split
  · split
    · exact keepsReports_barReady _ _ _ _
    · exact ⟨fun _ mem => mem, fun _ mem => mem_addBacklog mem⟩
  · exact .congr rfl rfl

theorem keepsReports_settleCan (x : State) (c : Fin 4) : KeepsReports x (settleCan x c) := by
  unfold settleCan
  dsimp only
  split
  · exact .congr rfl rfl
  · split
    · split
      · exact .congr rfl rfl
      · refine KeepsReports.trans (.congr ?_ ?_) (keepsReports_raise _ _ _)
        · split <;> rfl
        · split <;> rfl
    · split <;> exact .congr rfl rfl

theorem keepsReports_settle (x : State) : KeepsReports x (settle x) where
  ready m mem := by
    obtain ⟨l, is⟩ := moreReady_settle x .fh
    rw [is]
    exact List.mem_append_left l mem
  backlog := by
    have cans (l : List (Fin 4)) (y : State) : KeepsReports y (l.foldl settleCan y) := by
      induction l generalizing y with
      | nil => exact .congr rfl rfl
      | cons c rest ih => exact (keepsReports_settleCan y c).trans (ih _)
    have before : (settlePins (settleModes (settleBypass (settleFuses (settleHolds (settleLock (settleRange .b (settleRange .a x)))))))).backlog =
        x.backlog := by simp
    intro b mem
    rw [← before] at mem
    obtain ⟨b', mem', same⟩ := (cans (List.finRange 4) _).backlog b mem
    refine ⟨b', ?_, same⟩
    unfold settle
    dsimp only
    rwa [settleFwd_backlog, settleSignals_backlog]

theorem FieldReported.keep {s x u : State} {src d : Nat} (h : FieldReported s x src d) (keeps : KeepsReports x u) : FieldReported s u src d := by
  unfold FieldReported at h ⊢
  by_cases carries : barCarries (s.bdir .fh) = true
  · rw [if_pos carries] at h ⊢
    obtain ⟨time, mem⟩ := h
    exact ⟨time, keeps.ready _ mem⟩
  · rw [if_neg carries] at h ⊢
    obtain ⟨b, mem, is, inj, dry⟩ := h
    obtain ⟨b', mem', is', inj', dry'⟩ := keeps.backlog b mem
    exact ⟨b', mem', is'.trans is, inj'.trans inj, dry'.trans dry⟩

/-- A report of the field die is on its way. -/
theorem fieldReported_raise {s x : State} {src : Nat} (field : srcField src = true)
    (way : barCarries (x.bdir .fh) = barCarries (s.bdir .fh)) (d : Nat) : FieldReported s (x.raise src d) src d := by
  unfold FieldReported
  rw [raise_field x src d field, way]
  split
  · refine ⟨x.fring.toNat, ?_⟩
    simp [State.barReady, State.updBar, State.bdir]
  · exact self_addBacklog src d _ false false _

theorem fieldReported_settle_raise {s x : State} {src : Nat} (field : srcField src = true)
    (way : barCarries (x.bdir .fh) = barCarries (s.bdir .fh)) (d : Nat) : FieldReported s (settle (x.raise src d)) src d :=
  (fieldReported_raise field way d).keep (keepsReports_settle _)

theorem barCarries_congr {x s : State} (bar : x.bar = s.bar) (d : BarDir) : barCarries (x.bdir d) = barCarries (s.bdir d) := by
  unfold State.bdir
  rw [bar]

theorem barCarries_raise (x : State) (src k : Nat) (d : BarDir) : barCarries ((x.raise src k).bdir d) = barCarries (x.bdir d) := by
  unfold barCarries
  rw [raise_bdir_trained, raise_bdir_retraining]

/-! Reports of the power die, which pass its link (R464). -/

@[simp] theorem pwrRaise_regs (s : State) (src d : Nat) : (pwrRaise s src d).regs = s.regs := by
  unfold pwrRaise
  split
  · exact raise_regs _ _ _
  · rfl

@[simp] theorem pwrRaise_power (s : State) (src d : Nat) : (pwrRaise s src d).power = s.power := by
  unfold pwrRaise
  split
  · exact raise_power _ _ _
  · rfl

@[simp] theorem pwrRaise_now (s : State) (src d : Nat) : (pwrRaise s src d).now = s.now := by
  unfold pwrRaise
  split
  · exact raise_now _ _ _
  · rfl

@[simp] theorem pwrRaise_start (s : State) (src d : Nat) : (pwrRaise s src d).start = s.start := by
  unfold pwrRaise
  split
  · exact raise_start _ _ _
  · rfl

theorem barCarries_pwrRaise (s : State) (src k : Nat) (d : BarDir) : barCarries ((pwrRaise s src k).bdir d) = barCarries (s.bdir d) := by
  unfold pwrRaise
  split
  · exact barCarries_raise _ _ _ _
  · rfl

theorem keepsReports_pwrRaise (s : State) (src d : Nat) : KeepsReports s (pwrRaise s src d) := by
  unfold pwrRaise
  split
  · exact keepsReports_raise _ _ _
  · exact .congr rfl rfl

theorem fieldReported_pwrRaise {s x : State} {src : Nat} (field : srcField src = true)
    (way : barCarries (x.bdir .fh) = barCarries (s.bdir .fh)) (link : x.power.link = true) (d : Nat) :
    FieldReported s (pwrRaise x src d) src d := by
  unfold pwrRaise
  rw [if_pos link]
  exact fieldReported_raise field way d

end Sys2Proof.Machine
end

section
set_option Elab.async false
/-! SUPPORT. Feeds and the power path (R440-R447, R464), and the obligation about them. -/

namespace Sys2Proof.Machine

@[simp] theorem feed_settle (s : State) (i : Fin 2) : (settle s).feed i = s.feed i := by unfold State.feed; rw [settle_power_feeds]
theorem feed_congr {s u : State} (power : u.power = s.power) (i : Fin 2) : u.feed i = s.feed i := by unfold State.feed; rw [power]
@[simp] theorem feed_pwrRaise (s : State) (src d : Nat) (i : Fin 2) : (pwrRaise s src d).feed i = s.feed i := feed_congr (by simp) i

/-! One measurement of a feed (R440, R441). -/

/-- What the measurement of feed i leaves. -/
structure FeedStep (s u : State) (i : Fin 2) (v : Nat) (amps : Int) : Prop where
  power : u.power = { s.power with feeds := u.power.feeds }
  other : ∀ j, j ≠ i → u.feed j = s.feed j
  now : u.now = s.now
  regs : KeepsRegs s u [PWR_EVT]
  grows : ∀ k, EvtSet s PWR_EVT k → EvtSet u PWR_EVT k
  reports : KeepsReports s u
  way : barCarries (u.bdir .fh) = barCarries (s.bdir .fh)
  volts_ : (u.feed i).volts = v
  amps_ : (u.feed i).amps = amps
  phase : (u.feed i).phase = feedPhase s v
  reverse : amps < -50 → (u.feed i).closed = false
  excess : (u.feed i).phase = .above → (s.feed i).phase ≠ .above →
    (u.feed i).ovp = true ∧ (u.feed i).closed = false ∧ EvtSet u PWR_EVT pwrOVP
  steady : (u.feed i).phase = (s.feed i).phase → (u.feed i).since = (s.feed i).since
  moved : (u.feed i).phase ≠ (s.feed i).phase → (u.feed i).since = s.now ∧ EvtSet u PWR_EVT (pwrFDA_CHG - i.val) ∧
    (s.power.link = true → (u.feed i).phase = .absent ∨ (u.feed i).phase = .low ∨ (u.feed i).phase = .above →
      FieldReported s u (Src.feed i.val) i.val)

/-- The feed as a measurement leaves it. -/
def measuredFeed (s : State) (i : Fin 2) (v : Nat) (amps : Int) : Feed :=
  let f := s.feed i
  let ph := feedPhase s v
  let ovp := f.ovp || (decide (ph = .above) && decide (f.phase ≠ .above))
  { f with
    phase := ph, volts := v, amps := amps, since := if ph = f.phase then f.since else s.now, ovp := ovp
    closed := f.on && !ovp && decide (-50 ≤ amps) && (f.closed || decide (s.power.vpwr ≤ v)) }

theorem feedMeasure_eq (s : State) (i : Fin 2) (v : Nat) (amps : Int) : feedMeasure s i v amps =
    (let ph := feedPhase s v
     let s1 := s.updFeed i fun _ => measuredFeed s i v amps
     let s2 := if decide (ph = .above) && decide ((s.feed i).phase ≠ .above) then s1.evt PWR_EVT pwrOVP else s1
     if ph = (s.feed i).phase then s2
     else if ph = .absent ∨ ph = .low ∨ ph = .above then pwrRaise (s2.evt PWR_EVT (pwrFDA_CHG - i.val)) (Src.feed i.val) i.val
     else s2.evt PWR_EVT (pwrFDA_CHG - i.val)) := by
  rfl

/-- Only events of the power die and reports are told. -/
structure OnlyTold (s u : State) : Prop where
  power : u.power = s.power
  now : u.now = s.now
  regs : KeepsRegs s u [PWR_EVT]
  grows : ∀ k, EvtSet s PWR_EVT k → EvtSet u PWR_EVT k
  reports : KeepsReports s u
  way : barCarries (u.bdir .fh) = barCarries (s.bdir .fh)

theorem OnlyTold.refl (s : State) : OnlyTold s s := ⟨rfl, rfl, .of_regs rfl _, fun _ h => h, .congr rfl rfl, rfl⟩

theorem OnlyTold.evt {s u : State} (h : OnlyTold s u) (j : Nat) : OnlyTold s (u.evt PWR_EVT j) where
  power := h.power
  now := h.now
  regs := h.regs.evt List.mem_cons_self j
  grows k set_ := (h.grows k set_).evt _ _
  reports := h.reports.trans (.congr rfl rfl)
  way := h.way

theorem OnlyTold.pwrRaise {s u : State} (h : OnlyTold s u) (src d : Nat) : OnlyTold s (pwrRaise u src d) where
  power := (pwrRaise_power u src d).trans h.power
  now := (pwrRaise_now u src d).trans h.now
  regs := h.regs.trans (.of_regs (pwrRaise_regs u src d) _)
  grows k set_ := (h.grows k set_).congr (pwrRaise_regs u src d)
  reports := h.reports.trans (keepsReports_pwrRaise u src d)
  way := (barCarries_pwrRaise u src d .fh).trans h.way

theorem OnlyTold.trans {s v u : State} (h : OnlyTold s v) (g : OnlyTold v u) : OnlyTold s u where
  power := g.power.trans h.power
  now := g.now.trans h.now
  regs := h.regs.trans g.regs
  grows k set_ := g.grows k (h.grows k set_)
  reports := h.reports.trans g.reports
  way := g.way.trans h.way

theorem feedSource_field : ∀ i : Fin 2, srcField (Src.feed i.val) = true := by decide

theorem feed_updFeed (s : State) (i j : Fin 2) (f : Feed → Feed) : (s.updFeed i f).feed j = if j = i then f (s.feed i) else s.feed j := by
  simp only [State.feed, State.updFeed, State.updPower, vget_vupd]

/-- What is told of a measurement: nothing else follows it. -/
theorem feedMeasure_told (s : State) (i : Fin 2) (v : Nat) (amps : Int) :
    OnlyTold (s.updFeed i fun _ => measuredFeed s i v amps) (feedMeasure s i v amps) ∧
    (feedPhase s v = .above → (s.feed i).phase ≠ .above → EvtSet (feedMeasure s i v amps) PWR_EVT pwrOVP) ∧
    (feedPhase s v ≠ (s.feed i).phase → EvtSet (feedMeasure s i v amps) PWR_EVT (pwrFDA_CHG - i.val) ∧
      (s.power.link = true → feedPhase s v = .absent ∨ feedPhase s v = .low ∨ feedPhase s v = .above →
        FieldReported s (feedMeasure s i v amps) (Src.feed i.val) i.val)) := by
  rw [feedMeasure_eq]
  extract_lets ph s1 s2
  have small : pwrFDA_CHG - i.val < 16 := by unfold pwrFDA_CHG; omega
  have second : OnlyTold s1 s2 ∧ (ph = .above → (s.feed i).phase ≠ .above → EvtSet s2 PWR_EVT pwrOVP) := by
    by_cases excess : (decide (ph = .above) && decide ((s.feed i).phase ≠ .above)) = true
    · have is : s2 = s1.evt PWR_EVT pwrOVP := if_pos excess
      rw [is]
      exact ⟨(OnlyTold.refl s1).evt _, fun _ _ => evtSet_evt _ _ _ (by decide)⟩
    · have is : s2 = s1 := if_neg excess
      rw [is]
      refine ⟨.refl s1, fun above below => ?_⟩
      simp [above, below] at excess
  obtain ⟨told, over_⟩ := second
  by_cases same : ph = (s.feed i).phase
  · rw [if_pos same]
    exact ⟨told, over_, fun moved => absurd same moved⟩
  rw [if_neg same]
  have noted := told.evt (pwrFDA_CHG - i.val)
  have set_ : EvtSet (s2.evt PWR_EVT (pwrFDA_CHG - i.val)) PWR_EVT (pwrFDA_CHG - i.val) := evtSet_evt _ _ _ small
  by_cases bad : ph = .absent ∨ ph = .low ∨ ph = .above
  · rw [if_pos bad]
    refine ⟨noted.pwrRaise _ _, fun above below => ?_, fun _ => ⟨?_, fun link _ => ?_⟩⟩
    · exact ((over_ above below).evt _ _).congr (pwrRaise_regs _ _ _)
    · exact set_.congr (pwrRaise_regs _ _ _)
    · refine fieldReported_pwrRaise (feedSource_field i) ?_ ?_ _
      · exact noted.way
      · rw [noted.power]; exact link
  · rw [if_neg bad]
    exact ⟨noted, fun above below => (over_ above below).evt _ _, fun _ => ⟨set_, fun _ is => absurd is bad⟩⟩

theorem feedStep (s : State) (i : Fin 2) (v : Nat) (amps : Int) : FeedStep s (feedMeasure s i v amps) i v amps := by
  obtain ⟨told, over_, moved⟩ := feedMeasure_told s i v amps
  generalize feedMeasure s i v amps = u at told over_ moved
  have feeds (j : Fin 2) : u.feed j = if j = i then measuredFeed s i v amps else s.feed j := by
    rw [feed_congr told.power, feed_updFeed]
  have self : u.feed i = measuredFeed s i v amps := by rw [feeds, if_pos rfl]
  have phase : (u.feed i).phase = feedPhase s v := by rw [self]; rfl
  constructor
  case power => rw [told.power]; rfl
  case other => intro j apart; rw [feeds, if_neg apart]
  case now => exact told.now
  case regs => exact told.regs
  case grows => exact told.grows
  case reports => exact (KeepsReports.congr (x := s) (u := s.updFeed i fun _ => measuredFeed s i v amps) rfl rfl).trans told.reports
  case way => exact told.way
  case volts_ => rw [self]; rfl
  case amps_ => rw [self]; rfl
  case phase => exact phase
  case reverse =>
    intro back
    have never : ¬ (-50 ≤ amps) := by omega
    rw [self]
    simp [measuredFeed, never]
  case excess =>
    rw [phase]
    intro above below
    refine ⟨?_, ?_, over_ above below⟩
    · rw [self]; simp [measuredFeed, above, below]
    · rw [self]; simp [measuredFeed, above, below]
  case steady =>
    rw [phase]
    intro same
    rw [self]
    exact if_pos same
  case moved =>
    rw [phase]
    intro apart
    refine ⟨?_, moved apart⟩
    rw [self]
    exact if_neg apart

theorem feedPhase_congr {s u : State} (sectioned : u.power.sectioned = s.power.sectioned) (regs : KeepsRegs s u [PWR_EVT]) (v : Nat) :
    feedPhase u v = feedPhase s v := by
  have fail : u.reg PWR_VFAIL = s.reg PWR_VFAIL := regs PWR_VFAIL 0 (by decide) (by decide)
  have good : u.reg PWR_VGOOD = s.reg PWR_VGOOD := regs PWR_VGOOD 0 (by decide) (by decide)
  have over_ : u.reg PWR_VOVP = s.reg PWR_VOVP := regs PWR_VOVP 0 (by decide) (by decide)
  unfold feedPhase vFail vGood vOvp
  rw [sectioned, fail, good, over_]

theorem shareDue_congr {s u : State} (feeds : u.power.feeds = s.power.feeds) (bit : u.reg PWR_CTRL = s.reg PWR_CTRL)
    (band : u.reg PWR_SHARE_FS = s.reg PWR_SHARE_FS) : shareDue u = shareDue s := by
  unfold shareDue State.feed State.bit
  rw [feeds, bit, band]

theorem shareDue_settle (s : State) : shareDue (settle s) = shareDue s :=
  shareDue_congr (settle_power_feeds s) (reg_settle_of_not_closing s _ (by decide)) (reg_settle_of_not_closing s _ (by decide))

/-- What the claim about a measurement says of one feed. -/
def FeedClaim (s u : State) (t : Nat) (i : Fin 2) (v : Nat) (amps : Int) : Prop :=
  (u.feed i).volts = v ∧ (u.feed i).amps = amps ∧ (u.feed i).phase = feedPhase s v ∧ (amps < -50 → (u.feed i).closed = false) ∧
  ((u.feed i).phase = .above → (s.feed i).phase ≠ .above →
    (u.feed i).ovp = true ∧ (u.feed i).closed = false ∧ (u.reg PWR_EVT).getLsbD pwrOVP = true) ∧
  ((u.feed i).phase = (s.feed i).phase → (u.feed i).since = (s.feed i).since) ∧
  ((u.feed i).phase ≠ (s.feed i).phase → (u.feed i).since = max s.now t ∧ (u.reg PWR_EVT).getLsbD (pwrFDA_CHG - i.val) = true ∧
    (s.power.link = true → (u.feed i).phase = .absent ∨ (u.feed i).phase = .low ∨ (u.feed i).phase = .above →
      FieldReported s u (Src.feed i.val) i.val))

/-- A measurement of one feed among other changes: from `s` to `x` its own feed is untouched, from `y` on it and its reports stay. -/
theorem FeedStep.claim {s x y z : State} {t : Nat} {i : Fin 2} {v : Nat} {amps : Int} (step : FeedStep x y i v amps)
    (feed : x.feed i = s.feed i) (now : x.now = max s.now t) (phase : feedPhase x v = feedPhase s v) (link : x.power.link = s.power.link)
    (way : barCarries (x.bdir .fh) = barCarries (s.bdir .fh)) (feed' : z.feed i = y.feed i)
    (grows : ∀ k, EvtSet y PWR_EVT k → EvtSet z PWR_EVT k) (reports : KeepsReports y z) : FeedClaim s (settle z) t i v amps := by
  have evts (k : Nat) (set_ : EvtSet y PWR_EVT k) : ((settle z).reg PWR_EVT).getLsbD k = true := (grows k set_).settle (by decide)
  unfold FeedClaim
  rw [feed_settle, feed', ← feed, ← phase]
  refine ⟨step.volts_, step.amps_, step.phase, step.reverse, fun above below => ?_, step.steady, fun moved => ?_⟩
  · obtain ⟨ovp, closed, set_⟩ := step.excess above below
    exact ⟨ovp, closed, evts _ set_⟩
  · obtain ⟨since, set_, told⟩ := step.moved moved
    refine ⟨since.trans now, evts _ set_, fun up bad => ?_⟩
    have said := told (link.trans up) bad
    unfold FieldReported at said
    rw [way] at said
    exact FieldReported.keep (s := s) said (reports.trans (keepsReports_settle z))

/-- The store, VPWR and the temperature as measured. -/
def gauged (s : State) (vh vp : Nat) (temp : Int) : State :=
  s.updPower fun p => { p with huVolts := min 4000 vh, vpwr := min 4000 vp, temp := temp }

theorem powerMeasure_steps (s : State) (va vb vh vp : Nat) (ia ib temp : Int) : ∃ y z share,
    FeedStep (gauged s vh vp temp) y 0 (min 4000 va) ia ∧ FeedStep y z 1 (min 4000 vb) ib ∧
    powerMeasure s va vb vh vp ia ib temp =
      z.updPower fun p => { p with share := share, sharing := shareDue z && decide (450 ≤ share) && decide (share ≤ 550) } :=
  ⟨_, _, _, feedStep _ _ _ _, feedStep _ _ _ _, rfl⟩

theorem completes_powerMeasure (t : Nat) (s : State) (va vb vh vp ia ib temp : Word) : Completes (.powerMeasure va vb vh vp ia ib temp t) s fun u =>
    u.power.huVolts = min 4000 vh.toNat ∧ u.power.vpwr = min 4000 vp.toNat ∧ u.power.temp = temp.toInt ∧
    (FeedClaim s u t 0 (min 4000 va.toNat) ia.toInt ∧ FeedClaim s u t 1 (min 4000 vb.toNat) ib.toInt) ∧
    u.power.sharing = (shareDue u && decide (450 ≤ u.power.share) && decide (u.power.share ≤ 550)) ∧ u.power.path = s.power.path := by
  obtain ⟨y, z, share, first, second, is⟩ := powerMeasure_steps (s.at t) va.toNat vb.toNat vh.toNat vp.toNat ia.toInt ib.toInt temp.toInt
  have row : exec (.powerMeasure va vb vh vp ia ib temp t) s = done (z.updPower fun p =>
      { p with share := share, sharing := shareDue z && decide (450 ≤ share) && decide (share ≤ 550) }) := congrArg done is
  have power : z.power = { (gauged (s.at t) vh.toNat vp.toNat temp.toInt).power with feeds := z.power.feeds } := by
    rw [second.power, first.power]
  have sectioned : y.power.sectioned = s.power.sectioned := by rw [first.power]; rfl
  refine completes_done row ⟨?_, ?_, ?_, ⟨?_, ?_⟩, ?_, ?_⟩
  · rw [settle_power_huVolts, State.updPower, power]; rfl
  · rw [settle_power_vpwr, State.updPower, power]; rfl
  · rw [settle_power_temp, State.updPower, power]; rfl
  · refine FeedStep.claim first rfl rfl ?_ rfl rfl ?_ (fun k set_ => (second.grows k set_).congr rfl)
      (second.reports.trans (.congr rfl rfl))
    · exact feedPhase_congr rfl (.of_regs rfl _) _
    · exact second.other 0 (by decide)
  · refine FeedStep.claim second ?_ ?_ ?_ ?_ ?_ rfl (fun k set_ => set_.congr rfl) (.congr rfl rfl)
    · exact first.other 1 (by decide)
    · exact first.now
    · exact feedPhase_congr sectioned first.regs _
    · rw [first.power]; rfl
    · exact first.way
  · rw [shareDue_settle, settle_power_sharing, settle_power_share]
    rfl
  · rw [settle_power_path, State.updPower, power]; rfl

end Sys2Proof.Machine
end

section
set_option Elab.async false
/-! SUPPORT. The power path, the link of the power die, and the obligation about feeds and the power path (R441-R447, R464). -/

namespace Sys2Proof.Machine

theorem EvtSet.pwrRaise {x : State} {a i : Nat} (h : EvtSet x a i) (src d : Nat) : EvtSet (pwrRaise x src d) a i :=
  h.congr (pwrRaise_regs x src d)

theorem fieldReported_settle_pwrRaise {s x : State} {src : Nat} (field : srcField src = true)
    (way : barCarries (x.bdir .fh) = barCarries (s.bdir .fh)) (link : x.power.link = true) (d : Nat) :
    FieldReported s (settle (pwrRaise x src d)) src d :=
  (fieldReported_pwrRaise field way link d).keep (keepsReports_settle _)

section
variable {t : Nat} {s : State}

theorem completes_ovpReclose (i : Fin 2) (over_ : (s.feed i).ovp = true) (below : (s.feed i).volts + 100 < vOvp s) :
    Completes (.ovpReclose i t) s fun u =>
      (u.feed i).ovp = false ∧ (u.feed i).closed = (s.feed i).on ∧ ∀ j, j ≠ i → u.feed j = s.feed j := by
  refine completes_done (congrArg done (if_pos ⟨over_, below⟩)) ⟨?_, ?_, fun j apart => ?_⟩
  · rw [feed_settle, feed_updFeed, if_pos rfl]
  · rw [feed_settle, feed_updFeed, if_pos rfl]; rfl
  · rw [feed_settle, feed_updFeed, if_neg apart]; rfl

theorem completes_shareAlarm (due : shareDue s = true) (apart : s.power.sharing = false) : Completes (.shareAlarm t) s fun u =>
    (u.reg PWR_EVT).getLsbD pwrSHARE = true ∧ (s.power.link = true → FieldReported s u Src.shareBand 0) := by
  have cond : (shareDue (s.at t) && !(s.at t).power.sharing) = true := by
    rw [show shareDue (s.at t) = shareDue s from rfl, due, show (s.at t).power.sharing = s.power.sharing from rfl, apart]; rfl
  have row : shareAlarm (s.at t) = pwrRaise ((s.at t).evt PWR_EVT pwrSHARE) Src.shareBand 0 := if_pos cond
  refine completes_done (congrArg done row) ⟨?_, fun link => ?_⟩
  · exact EvtSet.settle (EvtSet.pwrRaise (evtSet_evt _ _ _ (by decide)) _ _) (by decide)
  · refine fieldReported_settle_pwrRaise (by decide) ?_ ?_ 0
    · rfl
    · exact link

/-! The transitions of the path. -/

theorem noFeed_at (lost : FeedsLost s t) : noFeed (s.at t) = true := by
  have all_ : ∀ i, (!feedUsable (s.feed i) || decide ((s.feed i).since = max s.now t)) = true := by
    intro i
    rcases lost i with dead | now
    · simp [dead]
    · simp [now]
  unfold noFeed
  simp only [Vector.all_toList, Vector.all_eq_true]
  intro i small
  exact all_ ⟨i, small⟩

theorem goodFeed_of {x : State} (good : ∃ i, (x.feed i).phase = .good) : goodFeed x = true := by
  obtain ⟨i, good⟩ := good
  unfold goodFeed
  simp only [Vector.any_toList, Vector.any_eq_true]
  exact ⟨i.val, i.isLt, decide_eq_true good⟩

/-- Hand-over has begun (R443). -/
def Handed (s u : State) : Prop :=
  u.power.path = .handover ∧ u.reg PWR_HANDOVERS = bumpW (s.reg PWR_HANDOVERS) 1 ∧ (u.reg PWR_EVT).getLsbD pwrHANDOVER = true ∧
  (s.power.link = true → FieldReported s u Src.handover 0)

theorem handed_begin {x : State} (regs : x.regs = s.regs) (link : x.power.link = s.power.link) (bar : x.bar = s.bar) :
    Handed s (settle (handoverBegin x)) := by
  unfold handoverBegin
  extract_lets y
  refine ⟨?_, ?_, ?_, fun up => ?_⟩
  · rw [settle_power_path, barReady_power, pwrRaise_power]; rfl
  · rw [reg_settle_of_not_closing _ _ (by decide), reg_congr (barReady_regs _ _ _ _), reg_congr (pwrRaise_regs _ _ _),
      reg_evt_ne _ _ (by decide), reg_bump_self, reg_congr (show y.regs = s.regs from regs)]
  · exact EvtSet.settle (EvtSet.congr (EvtSet.pwrRaise (evtSet_evt _ _ _ (by decide)) _ _) (barReady_regs _ _ _ _)) (by decide)
  · refine FieldReported.keep (x := pwrRaise ((y.bump PWR_HANDOVERS).evt PWR_EVT pwrHANDOVER) Src.handover 0) ?_
      ((keepsReports_barReady _ _ _ _).trans (keepsReports_settle _))
    refine fieldReported_pwrRaise (by decide) ?_ ?_ 0
    · exact barCarries_congr bar .fh
    · exact link.trans up

theorem handover_goes (begun : s.power.started = true) (on : s.bit PWR_CTRL 15 = true) (feed : s.power.path = .feed) (lost : FeedsLost s t) :
    handover (s.at t) = if s.power.dwell then (s.at t).updPower fun p => { p with handoverDue := true } else handoverBegin (s.at t) := by
  have cond : ¬ (!(s.at t).power.started || !(s.at t).bit PWR_CTRL 15 || decide ((s.at t).power.path ≠ .feed) || !noFeed (s.at t)) = true := by
    rw [noFeed_at lost, show (s.at t).power = s.power from rfl, show (s.at t).bit PWR_CTRL 15 = s.bit PWR_CTRL 15 from rfl, begun, on, feed]
    decide
  exact if_neg cond

theorem completes_handover (begun : s.power.started = true) (on : s.bit PWR_CTRL 15 = true) (feed : s.power.path = .feed)
    (lost : FeedsLost s t) :
    (s.power.dwell = false → Completes (.handover t) s (Handed s)) ∧
    (s.power.dwell = true → Completes (.handover t) s fun u => u.power.path = .feed ∧ u.power.handoverDue = true) ∧
    (s.power.dwell = true → s.power.handoverDue = true → Completes (.dwellEnd t) s (Handed s)) := by
  have goes := handover_goes begun on feed lost
  refine ⟨fun free => ?_, fun dwells => ?_, fun dwells due => ?_⟩
  · rw [free] at goes
    exact completes_done (congrArg done goes) (handed_begin (x := s.at t) rfl rfl rfl)
  · rw [dwells] at goes
    exact completes_done (congrArg done goes) ⟨by rw [settle_power_path]; exact feed, by rw [settle_power_handoverDue]; rfl⟩
  · have row : dwellEnd (s.at t) =
        handoverBegin ((s.at t).updPower fun p => { p with dwell := false, handoverDue := false, returnDue := false }) := by
      unfold dwellEnd
      extract_lets x
      rw [if_neg (by rw [show (s.at t).power = s.power from rfl, dwells]; decide)]
      exact if_pos ⟨feed, due, noFeed_at lost⟩
    exact completes_done (congrArg done row) (handed_begin rfl rfl rfl)

theorem completes_handover_off (off : s.bit PWR_CTRL 15 = false) : Completes (.handover t) s fun u =>
    u.power.path = s.power.path ∧ SameRegs s u [] := by
  have row : handover (s.at t) = s.at t := if_pos (by
    rw [show (s.at t).bit PWR_CTRL 15 = s.bit PWR_CTRL 15 from rfl, off]; simp)
  exact completes_done (congrArg done row) ⟨by rw [settle_power_path]; rfl, sameRegs_settle rfl⟩

/-- The return has begun (R443). -/
def Returned (s u : State) : Prop :=
  u.power.path = .return_ ∧ u.reg PWR_RETURNS = bumpW (s.reg PWR_RETURNS) 1 ∧ (u.reg PWR_EVT).getLsbD pwrRETURN = true ∧
  ∀ i, (s.feed i).phase = .good → (s.feed i).ovp = false → (u.feed i).on = true ∧ (u.feed i).closed = true

theorem returned_begin {x : State} (regs : x.regs = s.regs) (feeds : x.power.feeds = s.power.feeds) : Returned s (settle (returnBegin x)) := by
  unfold returnBegin
  extract_lets go y
  refine ⟨?_, ?_, ?_, fun i good fine => ?_⟩
  · rw [settle_power_path]; rfl
  · rw [reg_settle_of_not_closing _ _ (by decide), reg_evt_ne _ _ (by decide), reg_bump_self, reg_congr (show y.regs = s.regs from regs)]
  · exact EvtSet.settle (evtSet_evt _ _ _ (by decide)) (by decide)
  · have is : (settle ((y.bump PWR_RETURNS).evt PWR_EVT pwrRETURN)).feed i = go (s.feed i) := by
      rw [feed_settle]
      show vget (x.power.feeds.map go) i = _
      rw [feeds]
      simp [vget, State.feed]
    rw [is]
    simp [go, good, fine]

theorem completes_return (held : s.power.path = .holdup) (good : ∃ i, (s.feed i).phase = .good) :
    (s.power.dwell = false → Completes (.returnPath t) s (Returned s)) ∧
    (s.power.dwell = true → Completes (.returnPath t) s fun u => u.power.path = .holdup ∧ u.power.returnDue = true) ∧
    (s.power.dwell = true → s.power.returnDue = true → Completes (.dwellEnd t) s (Returned s)) := by
  have goodAt : goodFeed (s.at t) = true := goodFeed_of good
  have goes : returnStart (s.at t) =
      if s.power.dwell then (s.at t).updPower fun p => { p with returnDue := true } else returnBegin (s.at t) := by
    refine if_neg ?_
    rw [goodAt, show (s.at t).power = s.power from rfl, held]
    decide
  refine ⟨fun free => ?_, fun dwells => ?_, fun dwells due => ?_⟩
  · rw [free] at goes
    exact completes_done (congrArg done goes) (returned_begin (x := s.at t) rfl rfl)
  · rw [dwells] at goes
    exact completes_done (congrArg done goes) ⟨by rw [settle_power_path]; exact held, by rw [settle_power_returnDue]; rfl⟩
  · have row : dwellEnd (s.at t) =
        returnBegin ((s.at t).updPower fun p => { p with dwell := false, handoverDue := false, returnDue := false }) := by
      unfold dwellEnd
      extract_lets x
      rw [if_neg (by rw [show (s.at t).power = s.power from rfl, dwells]; decide),
        if_neg (by rw [show (s.at t).power = s.power from rfl, held]; rintro ⟨feed, -⟩; cases feed)]
      exact if_pos ⟨held, due, goodAt⟩
    exact completes_done (congrArg done row) (returned_begin rfl rfl)

theorem completes_dwellEnd (dwells : s.power.dwell = true) (noHandover : s.power.handoverDue = false) (noReturn : s.power.returnDue = false) :
    Completes (.dwellEnd t) s fun u => u.power.dwell = false ∧ u.power.path = s.power.path := by
  have row : dwellEnd (s.at t) = (s.at t).updPower fun p => { p with dwell := false, handoverDue := false, returnDue := false } := by
    unfold dwellEnd
    extract_lets x
    rw [if_neg (by rw [show (s.at t).power = s.power from rfl, dwells]; decide),
      if_neg (by rw [show (s.at t).power = s.power from rfl, noHandover]; rintro ⟨-, due, -⟩; cases due),
      if_neg (by rw [show (s.at t).power = s.power from rfl, noReturn]; rintro ⟨-, due, -⟩; cases due)]
  exact completes_done (congrArg done row) ⟨by rw [settle_power_dwell]; rfl, by rw [settle_power_path]; rfl⟩

theorem completes_holdupEntry (begun : s.power.path = .handover) : Completes (.holdupEntry t) s fun u =>
    u.power.path = .holdup ∧ u.power.dwell = true ∧ SameRegs s u [] :=
  completes_done (congrArg done (if_pos begun))
    ⟨by rw [settle_power_path]; rfl, by rw [settle_power_dwell]; rfl, sameRegs_settle rfl⟩

theorem completes_feedEntry (begun : s.power.path = .return_) : Completes (.feedEntry t) s fun u =>
    u.power.path = .feed ∧ u.power.dwell = true ∧ SameRegs s u [] :=
  completes_done (congrArg done (if_pos begun))
    ⟨by rw [settle_power_path]; rfl, by rw [settle_power_dwell]; rfl, sameRegs_settle rfl⟩

theorem completes_huNotReady (on : s.bit PWR_CTRL 15 = true) (low : s.power.huVolts < (s.reg PWR_HU_READY).toNat) :
    Completes (.huNotReady t) s fun u =>
      (u.reg PWR_EVT).getLsbD pwrHUNREADY = true ∧ (s.power.link = true → FieldReported s u Src.holdupNotReady 0) := by
  have unready : huReady (s.at t) = false := decide_eq_false (Nat.not_le.2 low)
  have cond : ((s.at t).bit PWR_CTRL 15 && !huReady (s.at t)) = true := by
    rw [unready, show (s.at t).bit PWR_CTRL 15 = s.bit PWR_CTRL 15 from rfl, on]; rfl
  have row : exec (.huNotReady t) s = done (pwrRaise ((s.at t).evt PWR_EVT pwrHUNREADY) Src.holdupNotReady 0) :=
    congrArg done (if_pos cond)
  refine completes_done row ⟨?_, fun link => ?_⟩
  · exact EvtSet.settle (EvtSet.pwrRaise (evtSet_evt _ _ _ (by decide)) _ _) (by decide)
  · refine fieldReported_settle_pwrRaise (by decide) ?_ ?_ 0
    · rfl
    · exact link

/-! The start of the power die, and its link. -/

theorem completes_powerDieStart (stopped : s.power.started = false) (calm : s.power.cycling = false) :
    ((∃ i, (s.feed i).phase = .good) → 900 < (s.feed 0).volts ∨ 900 < (s.feed 1).volts ∨ 900 < s.power.huVolts →
      Completes (.powerDieStart t) s fun u => u.power.started = true ∧ u.power.path = .feed ∧ u.power.dwell = true ∧
        ∀ i, (s.feed i).phase = .good → (s.feed i).ovp = false → (u.feed i).closed = true) ∧
    ((∀ i, (s.feed i).phase ≠ .good) → Completes (.powerDieStart t) s fun u => u.power.started = false) := by
  refine ⟨fun good supplied => ?_, fun bad => ?_⟩
  · have goes : ∃ go : Feed → Feed, (∀ f, f.phase = .good → f.ovp = false → (go f).closed = true) ∧
        powerStart (s.at t) = (s.at t).updPower fun p =>
          { p with started := true, link := !s.start.fieldReset, path := .feed, dwell := true, handoverDue := false
                   returnDue := false, feeds := p.feeds.map go } := by
      refine ⟨_, ?_, if_neg ?_⟩
      · intro f isGood fine
        simp [isGood, fine]
      · have up : (decide (900 < (s.feed 0).volts) || decide (900 < (s.feed 1).volts) || decide (900 < s.power.huVolts)) = true := by
          simpa [or_assoc] using supplied
        show ¬ (s.power.started || s.power.cycling ||
          !(decide (900 < (s.feed 0).volts) || decide (900 < (s.feed 1).volts) || decide (900 < s.power.huVolts)) || !goodFeed (s.at t)) = true
        rw [goodFeed_of (x := s.at t) good, stopped, calm, up]
        decide
    obtain ⟨go, closes, row⟩ := goes
    refine completes_done (congrArg done row) ⟨?_, ?_, ?_, fun i isGood fine => ?_⟩
    · rw [settle_power_started]; rfl
    · rw [settle_power_path]; rfl
    · rw [settle_power_dwell]; rfl
    · rw [feed_settle]
      show (vget ((s.at t).power.feeds.map go) i).closed = true
      rw [show vget ((s.at t).power.feeds.map go) i = go (s.feed i) by simp [vget, State.feed]]
      exact closes _ isGood fine
  · have none_ : goodFeed (s.at t) = false := by
      unfold goodFeed
      simp only [Vector.any_toList, Vector.any_eq_false]
      intro i small
      have isBad : ¬ (s.power.feeds[i]).phase = .good := bad ⟨i, small⟩
      exact Bool.eq_false_iff.1 (decide_eq_false isBad)
    have row : powerStart (s.at t) = s.at t := if_pos (by rw [none_]; simp)
    exact completes_done (congrArg done row) (by rw [settle_power_started]; exact stopped)

theorem completes_pdLinkLost (up : s.power.link = true) : Completes (.pdLinkLost t) s fun u =>
    u.power.link = false ∧ FieldReported s u Src.powerLink 0 ∧ (u.reg PWR_EVT).getLsbD pwrLINK = true ∧ u.power.path = s.power.path ∧
    ∀ i, u.feed i = s.feed i := by
  have told : KeepsReports ((s.at t).raise Src.powerLink 0)
      ((((s.at t).raise Src.powerLink 0).evt PWR_EVT pwrLINK).updPower fun p => { p with link := false }) := .congr rfl rfl
  have noted : EvtSet ((((s.at t).raise Src.powerLink 0).evt PWR_EVT pwrLINK).updPower fun p => { p with link := false }) PWR_EVT pwrLINK := by
    refine EvtSet.congr (s := ((s.at t).raise Src.powerLink 0).evt PWR_EVT pwrLINK) (evtSet_evt _ _ _ (by decide)) ?_
    rfl
  refine completes_done (congrArg done (if_pos up)) ⟨?_, ?_, ?_, ?_, fun i => ?_⟩
  · rw [settle_power_link]; rfl
  · refine FieldReported.keep ?_ (told.trans (keepsReports_settle _))
    refine fieldReported_raise (by decide) ?_ 0
    rfl
  · exact noted.settle (by decide)
  · rw [settle_power_path]
    show ((s.at t).raise Src.powerLink 0).power.path = _
    rw [raise_power]; rfl
  · rw [feed_settle]
    show vget ((s.at t).raise Src.powerLink 0).power.feeds i = _
    rw [raise_power]; rfl

/-- A write to PWR_EF_ON takes effect at once where nothing holds it back, and its record begins (R383, R384). -/
theorem regAccept_efOn (x : State) (path : Path) (v : Word) (calm : x.power.cfStep = 0) (idle : jrnBusy x = false) :
    regAccept x path PWR_EF_ON v = jrnField (x.setReg PWR_EF_ON v) PWR_EF_ON 0 v := by
  obtain ⟨r, row, sel, rw_, w1c, lasting⟩ :
      ∃ r, regRow? PWR_EF_ON = some r ∧ r.sel = .one ∧ r.rw = 0xFFFF ∧ r.w1c = 0 ∧ r.persistent = true := ⟨_, rfl, rfl, rfl, rfl, rfl⟩
  have place : selOf x path PWR_EF_ON r.sel = some 0 := by rw [sel]; rfl
  have written : writtenValue r (x.regSel PWR_EF_ON 0) v = v := by
    have all_ : wd 0xFFFF = BitVec.allOnes 16 := by decide
    unfold writtenValue
    rw [rw_, w1c, all_, show wd 0 = 0#16 from rfl]
    simp only [BitVec.not_allOnes, BitVec.and_zero, BitVec.zero_or, BitVec.and_allOnes, BitVec.not_zero]
  have took : regTake x path r PWR_EF_ON 0 v = x.setReg PWR_EF_ON v := by
    unfold regTake
    dsimp only
    rw [sel, if_neg (by decide), written]
    rfl
  have refused : thresholdRefused x PWR_EF_ON v = false := rfl
  have reads : (x.setReg PWR_EF_ON v).regSel PWR_EF_ON 0 = v := reg_setReg_self x PWR_EF_ON v
  unfold regAccept
  rw [row]
  dsimp only
  rw [place]
  dsimp only
  rw [lasting, if_neg (by decide), if_neg (by rw [calm]; decide), refused, if_neg (by decide), idle, if_neg (by decide), took, reads]

theorem completes_pdLinkRestored (down : s.power.link = false) (begun : s.power.started = true) (released : s.start.fieldReset = false) :
    (s.power.linkWrites = [] → Completes (.pdLinkRestored t) s fun u => u.power.link = true ∧ SameRegs s u []) ∧
    (∀ path v, s.power.linkWrites = [(path, PWR_EF_ON, v)] → s.power.cfStep = 0 → jrnBusy s = false →
      Completes (.pdLinkRestored t) s fun u => u.power.link = true ∧ u.power.linkWrites = [] ∧ u.reg PWR_EF_ON = v) := by
  have goes : linkRestored (s.at t) =
      ((s.at t).updPower fun p => { p with link := true, linkWrites := [] }).each s.power.linkWrites fun s x => regAccept s x.1 x.2.1 x.2.2 := by
    refine if_neg ?_
    show ¬ (s.power.link || !s.power.started || s.start.fieldReset) = true
    rw [down, begun, released]
    decide
  refine ⟨fun none_ => ?_, fun path v one calm idle => ?_⟩
  · rw [none_] at goes
    exact completes_done (congrArg done goes) ⟨by rw [settle_power_link]; rfl, sameRegs_settle rfl⟩
  · rw [one] at goes
    have row : linkRestored (s.at t) = jrnField (((s.at t).updPower fun p => { p with link := true, linkWrites := [] }).setReg PWR_EF_ON v)
        PWR_EF_ON 0 v := by
      rw [goes, State.each, List.foldl_cons, List.foldl_nil]
      exact regAccept_efOn ((s.at t).updPower fun p => { p with link := true, linkWrites := [] }) path v calm idle
    refine completes_done (congrArg done row) ⟨?_, ?_, ?_⟩
    · rw [settle_power_link]; rfl
    · rw [settle_power_linkWrites]; rfl
    · rw [reg_settle_of_not_closing _ _ (by decide)]
      exact reg_setReg_self ((s.at t).updPower fun p => { p with link := true, linkWrites := [] }) PWR_EF_ON v

end

/-- Settles O49: a measurement feed by feed, then each state of the power path with its dwell. -/
theorem powerPath : Obligations.PowerPath := by
  unfold Obligations.PowerPath
  intro t s
  refine ⟨fun va vb vh vp ia ib temp => ?_, fun i => completes_ovpReclose i, completes_shareAlarm,
    ⟨fun begun on feed lost => completes_handover begun on feed lost, completes_handover_off, completes_return, completes_dwellEnd⟩,
    completes_holdupEntry, completes_feedEntry, completes_huNotReady, completes_powerDieStart, completes_pdLinkLost, completes_pdLinkRestored⟩
  obtain ⟨u, row, store, vpwr, temp_, ⟨a, b⟩, sharing, path⟩ := completes_powerMeasure t s va vb vh vp ia ib temp
  exact ⟨u, row, store, vpwr, temp_, Fin.forall_fin_two.2 ⟨a, b⟩, sharing, path⟩

end Sys2Proof.Machine
end

section
set_option Elab.async false
/-! SUPPORT. Curtain fall, its exit notice on both rings, and the obligation about it (R448, R449, R451). -/

namespace Sys2Proof.Machine

/-- A frame to the own ring's group or broadcast numbers joins both queues (R165). -/
theorem sendFrame_both {s : State} {input ep : Nat} {f : Frame} {o : Option Origin} {joints : Nat} (both : bothRings s f = true)
    (fits : ¬ (f.cls = 0 ∧ f.payload.length > 32)) (up : RingsUp s) :
    Joins s (enqueue s (ringPort .a) ⟨f, input, s.now, 0, o, joints⟩ false) ⟨f, input, s.now, 0, o, joints⟩ ∧
    sendFrame s input ep f o joints =
      enqueue (enqueue s (ringPort .a) ⟨f, input, s.now, 0, o, joints⟩ false) (ringPort .b) ⟨f, input, s.now, 0, o, joints⟩ false := by
  have first := joins_enqueue s .a ⟨f, input, s.now, 0, o, joints⟩
  refine ⟨first, ?_⟩
  have open_ : portOff (enqueue s (ringPort .a) ⟨f, input, s.now, 0, o, joints⟩ false) (ringPort .b) = false :=
    (first.roads.up up).open_ .b
  have sent : sendFrame s input ep f o joints =
      submit (submit s (ringPort .a) ⟨f, input, s.now, 0, o, joints⟩) (ringPort .b) ⟨f, input, s.now, 0, o, joints⟩ := if_pos both
  rw [sent, submit_of_open (e := ⟨f, input, s.now, 0, o, joints⟩) fits (up.open_ .a),
    submit_of_open (e := ⟨f, input, s.now, 0, o, joints⟩) fits open_]

theorem queue_both (s : State) (e : QEntry) (r : Ring) :
    (enqueue (enqueue s (ringPort .a) e false) (ringPort .b) e false).queue (ringPort r) e.frame.cls =
      s.queue (ringPort r) e.frame.cls ++ [e] := by
  rw [queue_congr (enqueue_sw _ _ _ _), queue_updQueue, queue_congr (enqueue_sw _ _ _ _), queue_congr (enqueue_sw _ _ _ _), queue_updQueue,
    queue_updQueue]
  cases r <;> simp [ringPort]

section
variable {t : Nat} {s : State}

/-! The start of curtain fall (R448). -/

/-- Curtain fall has begun for a cause. -/
def Begun (s u : State) (cause : Nat) : Prop :=
  u.power.cfStep = 1 ∧ u.power.cfCause = cause ∧ u.power.cfStat = pwrStat s ∧ (u.reg PWR_EVT).getLsbD pwrCFSTART = true

theorem begun_curtain (calm : s.power.cfStep = 0) (link : s.power.link = true) (cause : Nat) : Begun s (settle (curtain (s.at t) cause)) cause := by
  have goes : ¬ ((s.at t).power.cfStep ≠ 0 ∨ (!(s.at t).power.link) = true) := by
    rw [show (s.at t).power = s.power from rfl, calm, link]
    decide
  have row : curtain (s.at t) cause =
      ((s.at t).updPower fun p => { p with cfStep := 1, cfCause := cause, cfStat := pwrStat s }).evt PWR_EVT pwrCFSTART := if_neg goes
  rw [row]
  refine ⟨?_, ?_, ?_, EvtSet.settle (evtSet_evt _ _ _ (by decide)) (by decide)⟩
  · rw [settle_power_cfStep]; rfl
  · rw [settle_power_cfCause]; rfl
  · rw [settle_power_cfStat]; rfl

theorem completes_curtainFall (calm : s.power.cfStep = 0) (link : s.power.link = true) :
    (s.power.path = .holdup → Completes (.curtainFallStart t) s fun u => Begun s u 1) ∧
    (s.power.path ≠ .holdup → s.power.started = true → s.bit PWR_CTRL 15 = false → FeedsLost s t →
      Completes (.curtainFallStart t) s fun u => Begun s u 2) ∧
    Completes (.curtain t) s fun u => Begun s u 3 := by
  refine ⟨fun held => ?_, fun other begun off lost => ?_, completes_done (x := curtain (s.at t) 3) rfl (begun_curtain calm link 3)⟩
  · have row : curtainStart (s.at t) = curtain (s.at t) 1 := if_pos held
    exact completes_done (congrArg done row) (begun_curtain calm link 1)
  · have row : curtainStart (s.at t) = curtain (s.at t) 2 := by
      unfold curtainStart
      rw [if_neg (show ¬ (s.at t).power.path = .holdup from other), if_pos]
      rw [noFeed_at lost, show (s.at t).bit PWR_CTRL 15 = s.bit PWR_CTRL 15 from rfl, off, show (s.at t).power = s.power from rfl, begun]
      rfl
    exact completes_done (congrArg done row) (begun_curtain calm link 2)

/-- What of curtain fall its later commands leave. -/
def FallKept (s u : State) : Prop := u.power.cfStep = s.power.cfStep ∧ u.power.cfCause = s.power.cfCause ∧ u.power.cfStat = s.power.cfStat

theorem fallKept_settle {x : State} (h : FallKept s x) : FallKept s (settle x) := by
  unfold FallKept
  rw [settle_power_cfStep, settle_power_cfCause, settle_power_cfStat]
  exact h

theorem curtain_ignored {x : State} (falling : x.power.cfStep ≠ 0) (cause : Nat) : curtain x cause = x := if_pos (.inl falling)

theorem fallKept_handoverBegin (x : State) : FallKept x (handoverBegin x) := by
  unfold handoverBegin FallKept
  rw [barReady_power, pwrRaise_power]
  exact ⟨rfl, rfl, rfl⟩

theorem fallKept_handover (x : State) : FallKept x (handover x) := by
  unfold handover
  split
  · exact ⟨rfl, rfl, rfl⟩
  · split
    · exact ⟨rfl, rfl, rfl⟩
    · exact fallKept_handoverBegin x

theorem fallKept_returnStart (x : State) : FallKept x (returnStart x) := by
  unfold returnStart
  split
  · exact ⟨rfl, rfl, rfl⟩
  · split <;> exact ⟨rfl, rfl, rfl⟩

theorem fallKept_curtainStart {x : State} (falling : x.power.cfStep ≠ 0) : FallKept x (curtainStart x) := by
  unfold curtainStart
  rw [curtain_ignored falling, curtain_ignored falling]
  split
  · exact ⟨rfl, rfl, rfl⟩
  · split <;> exact ⟨rfl, rfl, rfl⟩

theorem completes_falling (falling : s.power.cfStep ≠ 0) :
    ∀ c ∈ [Instr.curtain t, .curtainFallStart t, .returnPath t, .feedEntry t, .handover t, .holdupEntry t], Completes c s (FallKept s) := by
  intro c mem
  simp only [List.mem_cons, List.not_mem_nil, or_false] at mem
  rcases mem with rfl | rfl | rfl | rfl | rfl | rfl
  · exact completes_done (congrArg done (curtain_ignored (x := s.at t) falling 3)) (fallKept_settle ⟨rfl, rfl, rfl⟩)
  · exact completes_done (x := curtainStart (s.at t)) rfl (fallKept_settle (fallKept_curtainStart (x := s.at t) falling))
  · exact completes_done (x := returnStart (s.at t)) rfl (fallKept_settle (fallKept_returnStart (s.at t)))
  · refine completes_done (x := if (s.at t).power.path = .return_ then _ else _) rfl (fallKept_settle ?_)
    split <;> exact ⟨rfl, rfl, rfl⟩
  · exact completes_done (x := handover (s.at t)) rfl (fallKept_settle (fallKept_handover (s.at t)))
  · refine completes_done (x := if (s.at t).power.path = .handover then _ else _) rfl (fallKept_settle ?_)
    split <;> exact ⟨rfl, rfl, rfl⟩

/-! The exit notice (R449, step 2). -/

/-- The signal of the exit notice. -/
def exitNotice (s : State) : Descriptor :=
  { ep := 5, op := .sig, dring := s.ringNo, dnode := 4095, count := 0, burst := false, len := 0, cg := false, cell := 0
    addr := 0, set := s.fld PWR_CF_SIG 7 0, cycle := 0, data := [wd s.power.cfCause, s.power.cfStat] }

/-- Its frame, as R449 has it. -/
def exitFrame (s : State) : Frame :=
  Frame.mk' 0 0 5 (putFld s.ringNo 15 12 ||| wd 4095) s.srcWord 0
    [0xB000, wd (vget s.brg.eps 5).seq.toNat, putFld (s.fld PWR_CF_SIG 7 0) 7 0, wd s.power.cfCause, s.power.cfStat]

theorem requestFrame_exit (x s : State) (fab : x.fab = s.fab) :
    requestFrame x (exitNotice s) 4095 0 (vget s.brg.eps 5).seq.toNat = exitFrame s := by
  have src : x.srcWord = s.srcWord := by unfold State.srcWord State.ringNo; rw [fab]
  have head : reqWord0 .sig false 0 false 0 = 0xB000 := by decide
  have dest : putFld 4095 11 0 = wd 4095 := by decide
  have urgent : reqClass x (exitNotice s) 5 = 0 := show fld (wd 0) 1 0 = 0 by decide
  have words : txnWords (descFields (exitNotice s) (vget s.brg.eps 5).seq.toNat) = (exitFrame s).payload := by
    show [reqWord0 .sig false 0 false 0, wd (vget s.brg.eps 5).seq.toNat] ++ [putFld (s.fld PWR_CF_SIG 7 0) 7 0] ++
      [wd s.power.cfCause, s.power.cfStat] = _
    rw [head]
    rfl
  unfold requestFrame
  dsimp only
  rw [src, words, dest, show (exitFrame s).payload.length = 5 from rfl, urgent]
  rfl

theorem judge_exit (x s : State) (fab : x.fab = s.fab) (numbered : s.fab.node ≠ 0) : judge x (exitNotice s) = none := by
  have ring : x.ringNo = s.ringNo := by unfold State.ringNo; rw [fab]
  unfold judge
  rw [if_neg (by simp [exitNotice, opBad]), if_neg (by simp [exitNotice, sizeBad, TxnOpHasAddr]), if_neg (by rw [fab]; simp [exitNotice, numbered]),
    if_neg (by simp [exitNotice, destBad]), if_neg (by simp [exitNotice]), if_neg (by simp [exitNotice, ring]), if_neg (by simp [exitNotice])]

/-- The signal goes at once, on both rings. -/
theorem sendRequest_exit {x : State} (fab : x.fab = s.fab) (single : s.fab.node < 4000) (ring : s.ringNo < 16) (up : RingsUp x) (r : Ring) :
    ∃ e, (sendRequest x (exitNotice s) 4095 0 (vget s.brg.eps 5).seq.toNat).queue (ringPort r) 0 = x.queue (ringPort r) 0 ++ [e] ∧
      e.frame = exitFrame s ∧ (sendRequest x (exitNotice s) 4095 0 (vget s.brg.eps 5).seq.toNat).power = x.power := by
  have ringNo : x.ringNo = s.ringNo := by unfold State.ringNo; rw [fab]
  have frame := requestFrame_exit x s fab
  have cls : (exitFrame s).cls = 0 := cls_mk _ _ _ _ _ _ _
  have dest : (exitFrame s).dring = s.ringNo ∧ (exitFrame s).dnode = 4095 := by
    have dest := fld_dest s.ringNo 4095
    rw [Nat.mod_eq_of_lt ring, show putFld 4095 11 0 = wd 4095 by decide] at dest
    exact dest
  obtain ⟨dring, dnode⟩ := dest
  let y := postedAdd x 5 (exitFrame s)
  have posted : y = { x with brg := y.brg } := postedAdd_eq _ _ _
  have ringNoY : y.ringNo = s.ringNo := by rw [posted]; exact ringNo
  have both : bothRings y (exitFrame s) = true := by
    unfold bothRings multi
    rw [dring, dnode, ringNoY]
    simp
  have fits : ¬ ((exitFrame s).cls = 0 ∧ (exitFrame s).payload.length > 32) := fun h => (show ¬ 5 > 32 by decide) h.2
  have upY : RingsUp y := by rw [posted]; exact up
  obtain ⟨-, sent⟩ := sendFrame_both (input := 6) (ep := 5) (o := some ⟨5, 0, (vget s.brg.eps 5).seq.toNat, TxnOp.sig.code⟩) (joints := 0) both
    fits upY
  have row : sendRequest x (exitNotice s) 4095 0 (vget s.brg.eps 5).seq.toNat =
      sendFrame y 6 5 (exitFrame s) (some ⟨5, 0, (vget s.brg.eps 5).seq.toNat, TxnOp.sig.code⟩) 0 := by
    unfold sendRequest
    extract_lets f dest o s1 last
    have away : ¬ ((exitNotice s).dring = x.ringNo ∧ 4095 = x.fab.node) := by rw [fab]; omega
    have many : ¬ ((exitNotice s).op = .sig ∧ (exitNotice s).dring = x.ringNo ∧ (!multi 4095) = true) := fun h => by
      exact absurd h.2.2 (by decide)
    rw [if_neg away, if_neg many]
    have isF : f = exitFrame s := frame
    have isS : s1 = y := by
      show (if _ then postedAdd x 5 f else x) = y
      rw [isF]
      rfl
    rw [isF, isS]
    rfl
  rw [row, sent]
  refine ⟨⟨exitFrame s, 6, y.now, 0, some ⟨5, 0, (vget s.brg.eps 5).seq.toNat, TxnOp.sig.code⟩, 0⟩, ?_, rfl, ?_⟩
  · have queued := queue_both y ⟨exitFrame s, 6, y.now, 0, some ⟨5, 0, (vget s.brg.eps 5).seq.toNat, TxnOp.sig.code⟩, 0⟩ r
    rw [show (QEntry.frame ⟨exitFrame s, 6, y.now, 0, some ⟨5, 0, (vget s.brg.eps 5).seq.toNat, TxnOp.sig.code⟩, 0⟩).cls = 0 from cls]
      at queued
    rw [queued, show y.queue (ringPort r) 0 = x.queue (ringPort r) 0 by rw [posted]; rfl]
  · rw [switchOnly_enqueue, switchOnly_enqueue, posted]

/-- The state in which the exit notice is issued. -/
def flushed (s : State) : State := s.updPower fun p => { p with cfStep := 2 }

theorem issue_exit {x : State} (noneHeld : (vget x.brg.eps 5).held = []) (noSigs : (vget x.brg.eps 5).heldSigs = [])
    (noPosted : (vget x.brg.eps 5).posted = []) (fab : x.fab = s.fab) (eps : x.brg.eps = s.brg.eps) (numbered : s.fab.node ≠ 0)
    (mayGo : mustHold x 5 (exitNotice s) = false) :
    issue x (exitNotice s) .plain = sendRequest (takeSeq x 5).2 (exitNotice s) 4095 0 (vget s.brg.eps 5).seq.toNat := by
  have noWait : sigMustWait x 5 (exitNotice s) = false := by
    unfold sigMustWait
    rw [noPosted, noSigs]
    rfl
  have grown_ : grown x (exitNotice s) = x := if_neg (by simp [exitNotice])
  rw [issue_goes (i := 5) rfl (judge_exit x s fab numbered) (by simp [exitNotice]) noneHeld mayGo noWait, grown_, issueNow_posted rfl,
    sendFrames_one (by simp [exitNotice]) (by simp [exitNotice]), eps]
  rfl

theorem completes_flushDone (flushing : s.power.cfStep = 1) (numbered : s.fab.node ≠ 0) (single : s.fab.node < 4000) (ring : s.ringNo < 16)
    (up : RingsUp s) (noneHeld : (vget s.brg.eps 5).held = []) (noSigs : (vget s.brg.eps 5).heldSigs = [])
    (noPosted : (vget s.brg.eps 5).posted = []) (mayGo : mustHold (s.at t) 5 (exitNotice s) = false) :
    Completes (.journalFlushDone t) s fun u =>
      u.power.cfStep = 2 ∧ ∀ r, ∃ e, u.queue (ringPort r) 0 = s.queue (ringPort r) 0 ++ [e] ∧ e.frame = exitFrame s := by
  have goes : ¬ (s.at t).power.cfStep ≠ 1 := fun h => h flushing
  have row : flushDone (s.at t) = sendRequest (takeSeq (flushed (s.at t)) 5).2 (exitNotice s) 4095 0 (vget s.brg.eps 5).seq.toNat := by
    have issued : flushDone (s.at t) = issue (flushed (s.at t)) (exitNotice s) .plain := if_neg goes
    rw [issued]
    exact issue_exit noneHeld noSigs noPosted rfl rfl numbered mayGo
  have sent := sendRequest_exit (s := s) (x := (takeSeq (flushed (s.at t)) 5).2) rfl single ring up
  refine completes_done (congrArg done row) ⟨?_, fun r => ?_⟩
  · obtain ⟨e, -, -, power⟩ := sent .a
    rw [settle_power_cfStep, power]
    rfl
  · obtain ⟨e, queued, frame, -⟩ := sent r
    exact ⟨e, by rw [queue_congr (settle_sw _), queued]; rfl, frame⟩

/-! The steps after it, and the power cycle (R449, R451). -/

theorem settle_bypassLow_of {x : State} (falling : 3 ≤ x.power.cfStep) : (settle x).start.bypassLow = true :=
  (settle_bypassRuled x).1 (.inl (by rw [settle_power_cfStep]; exact falling))

theorem completes_exitNoticeSent (skipped : Bool) (sending : s.power.cfStep = 2) : Completes (.exitNoticeSent skipped t) s fun u =>
    u.power.cfStep = 4 ∧ u.power.cfSkip = skipped ∧ u.start.bypassLow = true ∧
    (skipped = true → s.power.link = true → FieldReported s u Src.exitSkipped 0) := by
  have goes : ¬ (s.at t).power.cfStep ≠ 2 := fun h => h sending
  obtain ⟨y, link, power, bar, row⟩ : ∃ y : State, y.power.link = s.power.link ∧ (y.power.cfStep = 4 ∧ y.power.cfSkip = skipped) ∧
      y.bar = s.bar ∧ exitSent (s.at t) skipped = if skipped then pwrRaise y Src.exitSkipped 0 else y := by
    refine ⟨_, ?_, ⟨?_, ?_⟩, ?_, if_neg goes⟩ <;> rfl
  obtain ⟨step, skip⟩ := power
  have kept : (if skipped then pwrRaise y Src.exitSkipped 0 else y).power = y.power := by
    split
    · exact pwrRaise_power _ _ _
    · rfl
  refine completes_done (congrArg done row) ⟨?_, ?_, settle_bypassLow_of (by rw [kept, step]; decide), fun is up => ?_⟩
  · rw [settle_power_cfStep, kept, step]
  · rw [settle_power_cfSkip, kept, skip]
  · rw [if_pos is]
    refine fieldReported_settle_pwrRaise (by decide) ?_ ?_ 0
    · exact barCarries_congr bar .fh
    · exact link.trans up

theorem completes_curtainSettleEnd (closing : s.power.cfStep = 4) : Completes (.curtainSettleEnd t) s fun u =>
    u.power.cfStep = 5 ∧ (u.reg PWR_EVT).getLsbD pwrCFDONE = true ∧ (s.power.link = true → FieldReported s u Src.curtainFall 0) := by
  have goes : ¬ (s.at t).power.cfStep ≠ 4 := fun h => h closing
  have row : settleEnd (s.at t) = pwrRaise (((s.at t).updPower fun p => { p with cfStep := 5 }).evt PWR_EVT pwrCFDONE) Src.curtainFall 0 :=
    if_neg goes
  refine completes_done (congrArg done row) ⟨?_, ?_, fun up => ?_⟩
  · rw [settle_power_cfStep, pwrRaise_power]; rfl
  · exact EvtSet.settle (EvtSet.pwrRaise (evtSet_evt _ _ _ (by decide)) _ _) (by decide)
  · refine fieldReported_settle_pwrRaise (by decide) ?_ ?_ 0
    · rfl
    · exact up

theorem completes_cfPowerCycle (fallen : s.power.cfStep = 5) (good : ∃ i, (s.feed i).phase = .good) : Completes (.cfPowerCycle t) s fun u =>
    u.power.cycling = true ∧ u.power.started = false ∧ u.power.cfStep = 0 ∧ (∀ i, (u.feed i).on = false ∧ (u.feed i).closed = false) ∧
    u.start.cause = 4 ∧ u.start.hostReset = true ∧ u.start.fieldReset = true ∧ u.store.slots = s.store.slots ∧ u.store.keys = s.store.keys ∧
    (∀ a, inStore a = true → u.byte a = s.byte a) ∧ ∀ k, (u.pin k).rank = 1 ∧ (u.pin k).out = (false, false) := by
  have goes : ¬ ((s.at t).power.cfStep ≠ 5 ∨ (!goodFeed (s.at t)) = true) := by
    rw [goodFeed_of (x := s.at t) good]
    rintro (h | h)
    · exact h fallen
    · cases h
  have left := resetTo_left .powerOn 4 (s.at t)
  obtain ⟨p, cycling, begun, step, feeds, row⟩ : ∃ p : PowerState, p.cycling = true ∧ p.started = false ∧ p.cfStep = 0 ∧
      (∀ i, (vget p.feeds i).on = false ∧ (vget p.feeds i).closed = false) ∧
      powerCycle (s.at t) = { resetTo .powerOn 4 (s.at t) with power := p } := by
    refine ⟨_, ?_, ?_, ?_, ?_, if_neg goes⟩
    · rfl
    · rfl
    · rfl
    · intro i
      simp [vget, Feed.init]
  generalize resetTo .powerOn 4 (s.at t) = x at left row
  have start := left.start
  refine completes_done (congrArg done row) ⟨?_, ?_, ?_, fun i => ?_, ?_, ?_, ?_, ?_, ?_, fun a stored => ?_,
    pinsUndriven_of_unapplied fun n => ?_⟩
  · rw [settle_power_cycling]; exact cycling
  · rw [settle_power_started]; exact begun
  · rw [settle_power_cfStep]; exact step
  · rw [feed_settle]; exact feeds i
  · rw [settle_start_cause]
    show x.start.cause = 4
    rw [start]; rfl
  · rw [settle_start_hostReset]
    show x.start.hostReset = true
    rw [start]; rfl
  · rw [settle_start_fieldReset]
    show x.start.fieldReset = true
    rw [start]; rfl
  · rw [settle_store]
    show x.store.slots = _
    rw [left.store]; rfl
  · rw [settle_store]
    show x.store.keys = _
    rw [left.store]; rfl
  · rw [settle_byte]
    show x.byte a = _
    rw [byte_of_filter left.mem, if_pos (by simp [memKept, stored])]
    rfl
  · show (x.cl n).cfg = none
    rw [cl_reset left.clusters]; rfl

theorem completes_cfRestart : Completes (.cfRestart t) s fun u => u.power.cycling = false ∧ u.power.started = s.power.started :=
  completes_done rfl ⟨by rw [settle_power_cycling]; rfl, by rw [settle_power_started]; rfl⟩

end

/-- Settles O50, step by step; the exit notice is the signal that `sendRequest_exit` follows onto both rings. -/
theorem curtainFall : Obligations.CurtainFall := by
  unfold Obligations.CurtainFall
  intro t s
  exact ⟨completes_curtainFall, completes_falling, completes_flushDone, completes_exitNoticeSent, completes_curtainSettleEnd,
    completes_cfPowerCycle, completes_cfRestart⟩

end Sys2Proof.Machine
end

section
set_option Elab.async false
/-! SUPPORT. The uplinks: frames discarded, ARP, PAUSE, the change of a link and the PTP slave, and the obligation about them
(R128, R129, R470, R471, R478, R479, R491). -/

namespace Sys2Proof.Machine

theorem settle_host_latched {s : State} (latched : s.start.latched = true) : (settle s).host = s.host := by
  have holds : (settleHolds (settleLock (settleRange .b (settleRange .a s)))).host = s.host := by
    simp [settleHolds, latched]
  simp only [settle, settleFwd_host, settleSignals_host, foldl_keeps (fun s : State => s.host) settleCan settleCan_host, settlePins_host,
    settleModes_host, settleBypass_host, settleFuses_host]
  exact holds

theorem SentOn.settle {s x : State} {up : Uplink} {f : EthFrame} (h : SentOn s x up f) : SentOn s (settle x) up f := by
  unfold SentOn
  rw [settle_host_ups]
  exact h

/-- An uplink that works sends what an accepted core gives it (R399, R471). -/
theorem ethSend_ups {x : State} {up : Uplink} (accepted : x.accepted.isSome = true) (on : uplinkOn x up = true) (f : EthFrame) :
    ethSend x up f = x.updHost fun h => { h with ups := vupd h.ups up.ix fun y => { y with sent := f :: y.sent } } := by
  unfold ethSend
  rw [accepted, on]
  rfl

theorem sentOn_ethSend {s x : State} {up : Uplink} (ups : x.host.ups = s.host.ups) (accepted : x.accepted.isSome = true)
    (on : uplinkOn x up = true) (f : EthFrame) : SentOn s (ethSend x up f) up f := by
  unfold SentOn
  rw [ethSend_ups accepted on, ← ups]
  simp [State.updHost]

theorem upRegs (up : Uplink) : closingReg (hstBadReg up) = false ∧ closingReg (hstDropReg up) = false ∧ hstBadReg up ≠ HST_EVT ∧
    hstBadReg up ≠ HST_LASTERR ∧ HST_LASTERR ≠ hstBadReg up ∧ hstLINK up < 16 := by
  cases up <;> decide

section
variable {up : Uplink} {t : Nat} {s : State}

/-! Frames that are discarded (R470, R475). -/

theorem discarded_now {x : State} (regs : x.regs = s.regs) (cause : Nat) : Discarded s (discardFrame x up cause none) up cause := by
  obtain ⟨-, -, notEvt, notLast, -, -⟩ := upRegs up
  have counted : ((x.bump (hstBadReg up)).evt HST_EVT hstBAD).reg (hstBadReg up) = bumpW (s.reg (hstBadReg up)) 1 := by
    rw [reg_evt_ne _ _ notEvt, reg_bump_self, reg_congr regs]
  have noted : EvtSet ((x.bump (hstBadReg up)).evt HST_EVT hstBAD) HST_EVT hstBAD := evtSet_evt _ _ _ (by decide)
  unfold discardFrame
  dsimp only
  generalize (x.bump (hstBadReg up)).evt HST_EVT hstBAD = y at counted noted
  by_cases none_ : cause = 0
  · rw [if_pos none_]
    exact ⟨counted, noted, fun h => absurd none_ h⟩
  · rw [if_neg none_]
    have written : EvtSet (y.setReg HST_LASTERR (bitW (decide (up = .one)) 15 ||| putFld cause 3 0)) HST_EVT hstBAD := by
      unfold EvtSet
      rw [reg_setReg_ne _ _ (by decide)]
      exact noted
    unfold raiseHub
    dsimp only
    refine ⟨?_, written.raise _ _, fun _ => ⟨?_, hubReported_raise _ (by decide) _⟩⟩
    · rw [reg_congr (raise_regs _ _ _), reg_setReg_ne _ _ notLast, counted]
    · rw [reg_congr (raise_regs _ _ _), reg_setReg_self]

theorem Discarded.settle {x : State} {cause : Nat} (h : Discarded s x up cause) : Discarded s (settle x) up cause := by
  obtain ⟨open_, -, -, -, -, -⟩ := upRegs up
  obtain ⟨counted, noted, told⟩ := h
  refine ⟨by rw [reg_settle_of_not_closing _ _ open_, counted], EvtSet.settle noted (by decide), fun some_ => ?_⟩
  obtain ⟨last, reported⟩ := told some_
  exact ⟨by rw [reg_settle_of_not_closing _ _ (by decide), last], reported.settle⟩

theorem discarded_of {x : State} (regs : x.regs = s.regs) (cause : Nat) : Discarded s (settle (discardFrame x up cause none)) up cause :=
  (discarded_now regs cause).settle

theorem hubCheck_none {x : State} {src : Nat} (calm : hubArmed x src = none) : hubCheck x src = (none, x) := by
  unfold hubCheck
  rw [calm]

/-- An addressed frame that no injection strikes. -/
theorem frameReceive_eq {x : State} (on : uplinkOn x up = true) (fcsOk : Bool) (bytes kind : Nat)
    (calm : hubArmed x Src.datagram = none ∨ kind ≠ 2) : frameReceive x up true fcsOk bytes kind =
      if !fcsOk then discardFrame x up 1 none else if 9000 < bytes then discardFrame x up 0 none
      else if kind = 3 then x.bump (hstDropReg up) else x := by
  have checked : (if kind = 2 then hubCheck x Src.datagram else (none, x)) = (none, x) := by
    split
    · rename_i is
      exact hubCheck_none (calm.resolve_right fun h => h is)
    · rfl
  unfold frameReceive
  rw [on, checked]
  cases fcsOk <;> rfl

theorem completes_ethFrame (on : uplinkOn s up = true) (bytes : Word) (kind : Fin 4) (calm : hubArmed s Src.datagram = none ∨ kind ≠ 2) :
    (Completes (.ethFrameReceive up true false bytes kind t) s fun u => Discarded s u up 1) ∧
    (9000 < bytes.toNat → Completes (.ethFrameReceive up true true bytes kind t) s fun u =>
      Discarded s u up 0 ∧ u.reg HST_LASTERR = s.reg HST_LASTERR) ∧
    (bytes.toNat ≤ 9000 → kind = 3 → Completes (.ethFrameReceive up true true bytes kind t) s fun u =>
      u.reg (hstDropReg up) = bumpW (s.reg (hstDropReg up)) 1 ∧ SameRegs s u [hstDropReg up]) ∧
    (bytes.toNat ≤ 9000 → kind ≠ 3 → Completes (.ethFrameReceive up true true bytes kind t) s fun u => SameRegs s u []) := by
  obtain ⟨-, dropOpen, -, -, notLast, -⟩ := upRegs up
  have calmV : hubArmed s Src.datagram = none ∨ kind.val ≠ 2 := calm.imp_right fun h is => h (Fin.ext is)
  have onAt : uplinkOn (s.at t) up = true := on
  have calmAt : hubArmed (s.at t) Src.datagram = none ∨ kind.val ≠ 2 := calmV
  have row (fcsOk : Bool) := frameReceive_eq onAt fcsOk bytes.toNat kind.val calmAt
  refine ⟨?_, fun long => ?_, fun short other => ?_, fun short handled => ?_⟩
  · have is := row false
    rw [if_pos (by decide)] at is
    exact completes_done (congrArg done is) (discarded_of (x := s.at t) rfl 1)
  · have is := row true
    rw [if_neg (by decide), if_pos long] at is
    refine completes_done (congrArg done is) ⟨discarded_of (x := s.at t) rfl 0, ?_⟩
    rw [reg_settle_of_not_closing _ _ (by decide)]
    show (((s.at t).bump (hstBadReg up)).evt HST_EVT hstBAD).reg HST_LASTERR = _
    rw [reg_evt_ne _ _ (by decide), reg_bump_ne _ notLast]
    rfl
  · have is := row true
    rw [if_neg (by decide), if_neg (Nat.not_lt.2 short), if_pos (show kind.val = 3 from congrArg Fin.val other)] at is
    refine completes_done (congrArg done is) ⟨?_, ((KeepsRegs.of_regs (s := s) (x := s.at t) rfl _).bump List.mem_cons_self).settle⟩
    rw [reg_settle_of_not_closing _ _ dropOpen, reg_bump_self]
    rfl
  · have is := row true
    rw [if_neg (by decide), if_neg (Nat.not_lt.2 short), if_neg (show ¬ kind.val = 3 from fun h => handled (Fin.ext h))] at is
    exact completes_done (congrArg done is) (sameRegs_settle rfl)

/-! ARP and PAUSE (R470, R471). -/

theorem toWords_dword (v : DWord) : toWords 2 v.toNat = [v.extractLsb' 16 16, v.extractLsb' 0 16] := by
  rw [toWords_two]
  refine congrArg₂ (fun a b => [a, b]) ?_ ?_
  · exact BitVec.eq_of_toNat_eq (by simp [wd, BitVec.extractLsb'_toNat, Nat.shiftRight_eq_div_pow])
  · exact BitVec.eq_of_toNat_eq (by simp [wd, BitVec.extractLsb'_toNat])

theorem toWords_mac (v : BitVec 48) : toWords 3 v.toNat = [v.extractLsb' 32 16, v.extractLsb' 16 16, v.extractLsb' 0 16] := by
  rw [toWords_three]
  have word (k : Nat) : v.extractLsb' k 16 = wd (v.toNat / 2 ^ k) :=
    BitVec.eq_of_toNat_eq (by simp [wd, BitVec.extractLsb'_toNat, Nat.shiftRight_eq_div_pow])
  simp [word]

theorem hstIp_words (s : State) : toWords 2 (hstIp s).toNat = [s.reg HST_IP_H, s.reg HST_IP_L] := by
  rw [toWords_dword]
  refine congrArg₂ (fun a b => [a, b]) ?_ ?_
  · exact BitVec.extractLsb'_append_eq_left
  · exact BitVec.extractLsb'_append_eq_right

theorem completes_arp (on : uplinkOn s up = true) (mac : BitVec 48) (sender : DWord) (accepted : s.accepted.isSome = true)
    (set_ : hstIp s ≠ 0) : Completes (.arpRequest up (hstIp s) mac sender t) s fun u =>
      SentOn s u up ⟨some mac, [], none, 0x0806, [1, 0x0800, 0x0604, 2, s.reg HST_MAC_H, s.reg HST_MAC_M, s.reg HST_MAC_L, s.reg HST_IP_H,
        s.reg HST_IP_L, mac.extractLsb' 32 16, mac.extractLsb' 16 16, mac.extractLsb' 0 16, sender.extractLsb' 16 16,
        sender.extractLsb' 0 16]⟩ := by
  have words : [1, 0x0800, 0x0604, 2] ++ hstMac s ++ toWords 2 (hstIp s).toNat ++ toWords 3 mac.toNat ++ toWords 2 sender.toNat =
      [1, 0x0800, 0x0604, 2, s.reg HST_MAC_H, s.reg HST_MAC_M, s.reg HST_MAC_L, s.reg HST_IP_H, s.reg HST_IP_L, mac.extractLsb' 32 16,
        mac.extractLsb' 16 16, mac.extractLsb' 0 16, sender.extractLsb' 16 16, sender.extractLsb' 0 16] := by
    rw [hstIp_words, toWords_mac, toWords_dword]
    rfl
  rw [← words]
  have row : exec (.arpRequest up (hstIp s) mac sender t) s = done (ethSend (s.at t) up ⟨some mac, [], none, 0x0806,
      [1, 0x0800, 0x0604, 2] ++ hstMac s ++ toWords 2 (hstIp s).toNat ++ toWords 3 mac.toNat ++ toWords 2 sender.toNat⟩) :=
    congrArg done (if_pos ⟨on, set_, rfl⟩)
  refine completes_done row (SentOn.settle ?_)
  exact sentOn_ethSend (x := s.at t) rfl accepted on _

theorem completes_arp_other (ip : DWord) (mac : BitVec 48) (sender : DWord) (other : ip ≠ hstIp s ∨ hstIp s = 0) :
    Completes (.arpRequest up ip mac sender t) s fun u => u.host.ups = s.host.ups := by
  have shut : ¬ (uplinkOn (s.at t) up = true ∧ hstIp (s.at t) ≠ 0 ∧ ip = hstIp (s.at t)) := fun h =>
    other.elim (fun apart => apart h.2.2) fun none_ => h.2.1 none_
  exact completes_done (congrArg done (if_neg shut)) (by rw [settle_host_ups]; rfl)

theorem completes_pause (on : uplinkOn s up = true) (flow : s.bit HST_CTRL 11 = true) :
    (s.accepted.isSome = true → pressed s (uplinkPort up) = true → Completes (.pauseSend up t) s fun u =>
      SentOn s u up ⟨some 0x0180C2000001, [], none, 0x8808, [1, 0xFFFF]⟩ ∧ (vget u.host.ups up.ix).pausing = true) ∧
    (s.accepted.isSome = true → pressed s (uplinkPort up) = false → (vget s.host.ups up.ix).pausing = true →
      Completes (.pauseSend up t) s fun u =>
        SentOn s u up ⟨some 0x0180C2000001, [], none, 0x8808, [1, 0]⟩ ∧ (vget u.host.ups up.ix).pausing = false) ∧
    (∀ q : Word, Completes (.pauseReceive up q t) s fun u => (vget u.host.ups up.ix).pausedTo = max s.now t + q.toNat * quantumT s up) := by
  have flowAt : (s.at t).bit HST_CTRL 11 = true := flow
  have onAt : uplinkOn (s.at t) up = true := on
  have works : ¬ (!(s.at t).bit HST_CTRL 11 || !uplinkOn (s.at t) up) = true := by
    rw [flowAt, onAt]
    decide
  have told (quanta : Word) (b : Bool) (accepted : s.accepted.isSome = true) :
      SentOn s (settle ((ethSend (s.at t) up (pauseFrame quanta)).updHost fun h =>
        { h with ups := vupd h.ups up.ix fun x => { x with pausing := b } })) up (pauseFrame quanta) ∧
      (vget (settle ((ethSend (s.at t) up (pauseFrame quanta)).updHost fun h =>
        { h with ups := vupd h.ups up.ix fun x => { x with pausing := b } })).host.ups up.ix).pausing = b := by
    have acceptedAt : (s.at t).accepted.isSome = true := accepted
    rw [ethSend_ups acceptedAt onAt]
    refine ⟨SentOn.settle ?_, ?_⟩
    · unfold SentOn
      simp [State.updHost]
    · rw [settle_host_ups]
      simp [State.updHost]
  refine ⟨fun accepted full => ?_, fun accepted free paused => ?_, fun q => ?_⟩
  · have row : pauseSend (s.at t) up = (ethSend (s.at t) up (pauseFrame 0xFFFF)).updHost fun h =>
        { h with ups := vupd h.ups up.ix fun x => { x with pausing := true } } := by
      unfold pauseSend
      rw [if_neg works, if_pos (show pressed (s.at t) (uplinkPort up) = true from full)]
    exact completes_done (congrArg done row) (told 0xFFFF true accepted)
  · have row : pauseSend (s.at t) up = (ethSend (s.at t) up (pauseFrame 0)).updHost fun h =>
        { h with ups := vupd h.ups up.ix fun x => { x with pausing := false } } := by
      unfold pauseSend
      rw [if_neg works, if_neg (by rw [show pressed (s.at t) (uplinkPort up) = false from free]; decide),
        if_pos (show (vget (s.at t).host.ups up.ix).pausing = true from paused)]
    exact completes_done (congrArg done row) (told 0 false accepted)
  · have both : ((s.at t).bit HST_CTRL 11 && uplinkOn (s.at t) up) = true := by rw [flowAt, onAt]; rfl
    have row : exec (.pauseReceive up q t) s = done ((s.at t).updHost fun h =>
        { h with ups := vupd h.ups up.ix fun x => { x with pausedTo := (s.at t).now + q.toNat * quantumT (s.at t) up } }) :=
      congrArg done (if_pos both)
    refine completes_done row ?_
    rw [settle_host_ups]
    have same : quantumT (s.at t) up = quantumT s up := rfl
    rw [same]
    simp only [State.updHost, vget_vupd, if_true]
    rfl

theorem completes_pause_off (off : s.bit HST_CTRL 11 = false) (q : Word) :
    ∀ c ∈ [Instr.pauseSend up t, .pauseReceive up q t], Completes c s fun u => u.host.ups = s.host.ups := by
  have offAt : (s.at t).bit HST_CTRL 11 = false := off
  intro c mem
  simp only [List.mem_cons, List.not_mem_nil, or_false] at mem
  rcases mem with rfl | rfl
  · have row : pauseSend (s.at t) up = s.at t := if_pos (by rw [offAt]; rfl)
    exact completes_done (congrArg done row) (by rw [settle_host_ups]; rfl)
  · have shut : ¬ ((s.at t).bit HST_CTRL 11 && uplinkOn (s.at t) up) = true := by rw [offAt]; simp
    have row : exec (.pauseReceive up q t) s = done (s.at t) := congrArg done (if_neg shut)
    exact completes_done row (by rw [settle_host_ups]; rfl)

/-! The link of an uplink (R491). -/

theorem completes_linkChange (speed : Fin 3) :
    ((vget s.host.ups up.ix).up = true → Completes (.uplinkLinkChange up false speed t) s fun u =>
      (vget u.host.ups up.ix).up = false ∧ (vget u.host.ups up.ix).pausedTo = 0 ∧ (u.reg HST_EVT).getLsbD (hstLINK up) = true ∧
      HubReported u (Src.uplinkLost up) up.ix.val) ∧
    ((vget s.host.ups up.ix).up = false → Completes (.uplinkLinkChange up true speed t) s fun u =>
      (vget u.host.ups up.ix).up = true ∧ (vget u.host.ups up.ix).speed = speed.val ∧ (u.reg HST_EVT).getLsbD (hstLINK up) = true) := by
  obtain ⟨-, -, -, -, -, small⟩ := upRegs up
  have hub : srcField (Src.uplinkLost up) = false := by cases up <;> decide
  refine ⟨fun was => ?_, fun was => ?_⟩
  · have row : linkChange (s.at t) up false speed.val = (((s.at t).updHost fun h => { h with ups := vupd h.ups up.ix fun x =>
        { x with up := false, speed := speed.val, pausedTo := if false then x.pausedTo else 0, pausing := x.pausing && false } }).evt HST_EVT
        (hstLINK up)).raise (Src.uplinkLost up) up.ix.val := by
      unfold linkChange
      exact if_neg (by rw [show (vget (s.at t).host.ups up.ix).up = true from was]; decide)
    refine completes_done (congrArg done row) ⟨?_, ?_, ?_, (hubReported_raise _ hub _).settle⟩
    · rw [settle_host_ups, raise_host]
      simp [State.updHost]
    · rw [settle_host_ups, raise_host]
      simp [State.updHost]
    · exact EvtSet.settle (EvtSet.raise (evtSet_evt _ _ _ small) _ _) (by decide)
  · have row : linkChange (s.at t) up true speed.val = ((s.at t).updHost fun h => { h with ups := vupd h.ups up.ix fun x =>
        { x with up := true, speed := speed.val, pausedTo := if true then x.pausedTo else 0, pausing := x.pausing && true } }).evt HST_EVT
        (hstLINK up) := by
      unfold linkChange
      exact if_neg (by rw [show (vget (s.at t).host.ups up.ix).up = false from was]; decide)
    refine completes_done (congrArg done row) ⟨?_, ?_, EvtSet.settle (evtSet_evt _ _ _ small) (by decide)⟩
    · rw [settle_host_ups]
      simp [State.updHost]
    · rw [settle_host_ups]
      simp [State.updHost]

end

/-! The PTP slave (R128, R129, R479). -/

/-- The slave's correction writes no more of the host ports than its frequency. -/
theorem ptpSlew_host (x : State) (o w : Int) : ∃ f, (ptpSlew x o w).host = { x.host with ptpFreq := f } := by
  unfold ptpSlew
  extract_lets far
  split
  · exact ⟨_, rfl⟩
  · split
    · split
      · exact ⟨_, rfl⟩
      · exact ⟨_, raise_host _ _ _⟩
    · split
      extract_lets s1
      split <;> exact ⟨_, rfl⟩

/-- What the slave's loss of lock leaves. -/
theorem ptpUnlock_keeps (x : State) :
    (ptpUnlock x).host = { x.host with ptpLock := false, ptpRun := if x.host.ptpLock then 0 else x.host.ptpRun } ∧
    (ptpUnlock x).time.ofs = x.time.ofs ∧ (ptpUnlock x).time.ptpFar = x.time.ptpFar ∧
    (∀ i, EvtSet x TIM_EVT i → EvtSet (ptpUnlock x) TIM_EVT i) ∧
    (x.host.ptpLock = true → HubReported (ptpUnlock x) Src.ptpUnlocked 0) := by
  unfold ptpUnlock
  by_cases locked : x.host.ptpLock = true
  case neg =>
    have open_ : x.host.ptpLock = false := by simpa using locked
    rw [if_pos (by rw [open_]; rfl), if_neg locked, ← open_]
    exact ⟨rfl, rfl, rfl, fun _ h => h, fun h => absurd h locked⟩
  rw [if_neg (by rw [locked]; decide), if_pos locked]
  dsimp only
  have told : HubReported ((x.updHost fun h => { h with ptpLock := false, ptpRun := 0 }).raise Src.ptpUnlocked 0) Src.ptpUnlocked 0 :=
    hubReported_raise _ (by decide) 0
  have first (i : Nat) (h : EvtSet x TIM_EVT i) :
      EvtSet ((x.updHost fun h => { h with ptpLock := false, ptpRun := 0 }).raise Src.ptpUnlocked 0) TIM_EVT i :=
    h.congr (raise_regs _ _ _)
  split
  · refine ⟨?_, ?_, ?_, fun i h => ?_, fun _ => ?_⟩
    · rw [raise_host]
      exact raise_host _ _ _
    · rw [raise_time]
      show ((x.updHost fun h => { h with ptpLock := false, ptpRun := 0 }).raise Src.ptpUnlocked 0).time.ofs = _
      rw [raise_time]
      rfl
    · rw [raise_time]
      show ((x.updHost fun h => { h with ptpLock := false, ptpRun := 0 }).raise Src.ptpUnlocked 0).time.ptpFar = _
      rw [raise_time]
      rfl
    · refine EvtSet.raise (EvtSet.evt ?_ _ _) _ _
      exact (first i h).congr rfl
    · refine HubReported.raise ?_ _ _
      exact told.congr rfl
  · refine ⟨raise_host _ _ _, ?_, ?_, first, fun _ => told⟩
    · rw [raise_time]; rfl
    · rw [raise_time]; rfl

section
variable {up : Uplink} {t : Nat} {s : State}

theorem completes_ptpSyncTimeout : Completes (.ptpSyncTimeout t) s fun u =>
    u.host.ptpLock = false ∧ u.host.ptpRun = 0 ∧ (s.host.ptpLock = true → HubReported u Src.ptpUnlocked 0) := by
  obtain ⟨host, -, -, -, told⟩ := ptpUnlock_keeps (s.at t)
  refine completes_done rfl ⟨?_, ?_, fun locked => ?_⟩
  · rw [settle_host_ptpLock]
    show (ptpUnlock (s.at t)).host.ptpLock = false
    rw [host]
  · rw [settle_host_ptpRun]; rfl
  · refine HubReported.settle ?_
    exact (told locked).congr rfl

/-- The slave after a Sync: what it has measured, and the correction it made. -/
structure Synced (x u : State) (n slew : Int) (two : Bool) : Prop where
  ofs : u.host.ptpOfs = n
  step : u.host.ptpTwoStep = two
  at_ : u.host.ptpAt = x.now
  near : -100 ≤ n → n ≤ 100 → u.host.ptpRun = min 16 (x.host.ptpRun + 1) ∧ (15 ≤ x.host.ptpRun → u.host.ptpLock = true)
  away : 1000 < n ∨ n < -1000 → u.host.ptpLock = false ∧ u.host.ptpRun = 0 ∧ (x.host.ptpLock = true → HubReported u Src.ptpUnlocked 0)
  time : u.time.ofs = (ptpSlew x (n * (nsT : Int)) slew).time.ofs ∧ u.time.ptpFar = (ptpSlew x (n * (nsT : Int)) slew).time.ptpFar
  evts : ∀ i, EvtSet (ptpSlew x (n * (nsT : Int)) slew) TIM_EVT i → EvtSet u TIM_EVT i

theorem synced (x : State) (n slew : Int) (two : Bool) : Synced x (ptpSync x n slew two) n slew two := by
  unfold ptpSync
  extract_lets near run s1 s2
  obtain ⟨f, host⟩ := ptpSlew_host x (n * (nsT : Int)) slew
  have host2 : s2.host = { x.host with ptpFreq := f, ptpOfs := n, ptpTwoStep := two, ptpRun := run, ptpAt := x.now } := by
    show { s1.host with ptpOfs := n, ptpTwoStep := two, ptpRun := run, ptpAt := x.now } = _
    rw [host]
  have runIs : run = if max n (-n) ≤ 100 then min 16 (x.host.ptpRun + 1) else 0 := by
    show (if near = true then _ else _) = _
    simp [near]
  have time2 : s2.time = s1.time := rfl
  have ofs2 : s2.time.ofs = s1.time.ofs := rfl
  have far2 : s2.time.ptpFar = s1.time.ptpFar := rfl
  have regs2 : s2.regs = s1.regs := rfl
  clear_value s2 run
  by_cases wide : 1000 < max n (-n)
  · rw [if_pos wide]
    obtain ⟨hostU, ofs, far, evts, told⟩ := ptpUnlock_keeps s2
    have zero : run = 0 := by rw [runIs, if_neg (by omega)]
    refine ⟨by rw [hostU, host2], by rw [hostU, host2], by rw [hostU, host2], fun low high => by omega, fun _ => ⟨by rw [hostU], ?_, ?_⟩,
      ⟨by rw [ofs, time2], by rw [far, time2]⟩, fun i h => evts i (h.congr regs2)⟩
    · rw [hostU, host2, zero]
      simp
    · intro locked
      exact told (by rw [host2]; exact locked)
  rw [if_neg wide]
  have notAway : ¬ (1000 < n ∨ n < -1000) := by omega
  by_cases locks : run = 16 ∧ (!s2.host.ptpLock) = true
  · rw [if_pos locks]
    refine ⟨?_, ?_, ?_, fun low high => ⟨?_, fun _ => rfl⟩, fun h => absurd h notAway, ⟨ofs2, far2⟩,
      fun i h => h.congr regs2⟩
    · show s2.host.ptpOfs = n
      rw [host2]
    · show s2.host.ptpTwoStep = two
      rw [host2]
    · show s2.host.ptpAt = x.now
      rw [host2]
    · show s2.host.ptpRun = _
      rw [host2]
      exact runIs.trans (if_pos (by omega))
  · rw [if_neg locks]
    refine ⟨by rw [host2], by rw [host2], by rw [host2], fun low high => ⟨?_, fun long => ?_⟩, fun h => absurd h notAway,
      ⟨ofs2, far2⟩, fun i h => h.congr regs2⟩
    · rw [host2]
      exact runIs.trans (if_pos (by omega))
    · by_contra open_
      refine locks ⟨?_, by simpa using open_⟩
      rw [runIs, if_pos (by omega)]
      omega

/-! The correction itself (R39, R129). -/

theorem ptpSlew_idle {x : State} (idle : ptpBegun x = false) (o w : Int) : ptpSlew x o w = x := if_pos (by rw [idle]; rfl)

theorem ptpSlew_far {x : State} (begun : ptpBegun x = true) {o : Int} (far : (msT : Int) < max o (-o)) (w : Int) :
    (ptpSlew x o w).time.ofs = x.time.ofs ∧ (ptpSlew x o w).time.ptpFar = true ∧
    (x.time.ptpFar = false → EvtSet (ptpSlew x o w) TIM_EVT 5) := by
  unfold ptpSlew
  dsimp only
  rw [if_neg (by rw [begun]; decide), if_pos (decide_eq_true far)]
  split
  · rename_i known
    exact ⟨rfl, known, fun h => by rw [known] at h; cases h⟩
  · refine ⟨?_, ?_, fun _ => ?_⟩
    · rw [raise_time]; rfl
    · rw [raise_time]; rfl
    · exact EvtSet.raise (evtSet_evt _ _ _ (by decide)) _ _

theorem ptpSlew_near {x : State} (begun : ptpBegun x = true) (prompting : x.prompting = true) {o : Int} (near : ¬ (msT : Int) < max o (-o))
    (w : Int) : (ptpSlew x o w).time.ofs = x.time.ofs + (ptpMove x o w).1 := by
  unfold ptpSlew
  dsimp only
  rw [if_neg (by rw [begun]; decide), if_neg (by simpa using near)]
  exact congrArg (fun y : State => y.time.ofs) (if_pos (show x.prompting = true from prompting))

theorem between_bounds {lo hi : Int} (order : lo ≤ hi) (x : Int) : lo ≤ between lo hi x ∧ between lo hi x ≤ hi := by
  unfold between
  omega

/-- A correction stays within the bounds of frequency, and from frequency 0 goes toward the master and not past it. -/
theorem ptpMove_bounds (x : State) (o w : Int) :
    let dt : Int := (x.now - x.host.ptpAt : Nat)
    let f := x.host.ptpFreq
    let lo := (f - dt * 100 / (msT : Int)) * dt / 1000000000
    let hi := (f + dt * 100 / (msT : Int)) * dt / 1000000000
    let d := (ptpMove x o w).1
    lo ≤ d ∧ d ≤ max lo hi ∧
    (f = 0 → (0 ≤ o → -o ≤ d ∧ d ≤ 0) ∧ (o ≤ 0 → 0 ≤ d ∧ d ≤ -o) ∧ max d (-d) ≤ dt / 100000) := by
  intro dt f lo hi d
  obtain ⟨toward, up_, down_, is⟩ : ∃ toward : Int, (0 ≤ o → -o ≤ toward ∧ toward ≤ 0) ∧ (o ≤ 0 → 0 ≤ toward ∧ toward ≤ -o) ∧
      d = between lo hi (between (-(dt / 100000)) (dt / 100000) toward) := by
    refine ⟨if 0 ≤ o then between (-o) 0 w else between 0 (-o) w, fun pos => ?_, fun neg => ?_, rfl⟩
    · rw [if_pos pos]
      exact between_bounds (by omega) w
    · split
      · have b := between_bounds (show -o ≤ 0 by omega) w
        omega
      · exact between_bounds (by omega) w
  have dtPos : 0 ≤ dt := Int.natCast_nonneg _
  have step : 0 ≤ dt / 100000 := Int.ediv_nonneg dtPos (by decide)
  have lohi : f = 0 → lo ≤ 0 ∧ 0 ≤ hi := by
    intro zero
    have per : 0 ≤ dt * 100 / (msT : Int) := Int.ediv_nonneg (by omega) (by decide)
    have area : 0 ≤ dt * 100 / (msT : Int) * dt := mul_nonneg per dtPos
    have lower : lo = (-(dt * 100 / (msT : Int) * dt)) / 1000000000 := by
      show (f - dt * 100 / (msT : Int)) * dt / 1000000000 = _
      rw [zero, zero_sub, neg_mul]
    have upper : hi = (dt * 100 / (msT : Int) * dt) / 1000000000 := by
      show (f + dt * 100 / (msT : Int)) * dt / 1000000000 = _
      rw [zero, zero_add]
    rw [lower, upper]
    generalize dt * 100 / (msT : Int) * dt = k at area
    omega
  clear_value lo hi d dt f
  subst is
  unfold between
  refine ⟨by omega, by omega, fun zero => ?_⟩
  obtain ⟨low, high⟩ := lohi zero
  refine ⟨fun pos => ?_, fun neg => ?_, ?_⟩
  · obtain ⟨a, b⟩ := up_ pos
    omega
  · obtain ⟨a, b⟩ := down_ neg
    omega
  · omega

end

/-! A Sync (R129, R478, R479). -/

section
variable {up : Uplink} {t : Nat} {s : State}

/-- A Sync on the PTP port, in the domain and by the transport that HST_PTP names. -/
abbrev OwnSync (s : State) (up : Uplink) (domain : Byte) (l2 : Bool) : Prop :=
  s.bit TIM_CFG 15 = true ∧ ptpPort s = up ∧ uplinkOn s up = true ∧ domain.toNat = s.fld HST_PTP 15 8 ∧ l2 = s.bit HST_PTP 6

/-- The condition of the row is that of the claim. -/
theorem ownSync_iff (domain : Byte) (l2 : Bool) : OwnSync s up domain l2 ↔
    ((s.at t).bit TIM_CFG 15 && decide (ptpPort (s.at t) = up) && uplinkOn (s.at t) up && decide (domain.toNat = (s.at t).fld HST_PTP 15 8) &&
      decide (l2 = (s.at t).bit HST_PTP 6)) = true := by
  have on : uplinkOn (s.at t) up = uplinkOn s up := rfl
  have port : ptpPort (s.at t) = ptpPort s := rfl
  rw [on, port, show (s.at t).bit TIM_CFG 15 = s.bit TIM_CFG 15 from rfl, show (s.at t).fld HST_PTP 15 8 = s.fld HST_PTP 15 8 from rfl,
    show (s.at t).bit HST_PTP 6 = s.bit HST_PTP 6 from rfl]
  simp only [Bool.and_eq_true, decide_eq_true_eq, and_assoc]

theorem completes_ptpSync {domain : Byte} {l2 two : Bool} {ofs : DWord} {slew : Int} {p : State → Prop} (mine : OwnSync s up domain l2)
    (h : p (settle (ptpSync (s.at t) ofs.toInt slew two))) : Completes (.ptpSync up domain l2 two ofs slew t) s p := by
  have row : exec (.ptpSync up domain l2 two ofs slew t) s = done (ptpSync (s.at t) ofs.toInt slew two) :=
    congrArg done (if_pos ((ownSync_iff domain l2).1 mine))
  exact completes_done row h

theorem completes_ptpSync_other {domain : Byte} {l2 two : Bool} {ofs : DWord} {slew : Int} (other : ¬ OwnSync s up domain l2) :
    Completes (.ptpSync up domain l2 two ofs slew t) s fun u => u.host = s.host ∨ s.start.latched = false := by
  have row : exec (.ptpSync up domain l2 two ofs slew t) s = done (s.at t) :=
    congrArg done (if_neg fun h => other ((ownSync_iff domain l2).2 h))
  refine completes_done row ?_
  cases latched : s.start.latched
  · exact .inr rfl
  · exact .inl (settle_host_latched (s := s.at t) latched)

theorem ptpBegun_of_prompting {x : State} (prompting : x.prompting = true) : ptpBegun x = true := by
  unfold ptpBegun
  rw [prompting, Bool.or_true]

theorem completes_ownSync (domain : Byte) (l2 two : Bool) (ofs : DWord) (slew : Int) (mine : OwnSync s up domain l2) :
    (Completes (.ptpSync up domain l2 two ofs slew t) s fun u =>
      u.host.ptpOfs = ofs.toInt ∧ u.host.ptpTwoStep = two ∧ u.host.ptpAt = max s.now t) ∧
    (-100 ≤ ofs.toInt → ofs.toInt ≤ 100 → Completes (.ptpSync up domain l2 two ofs slew t) s fun u =>
      u.host.ptpRun = min 16 (s.host.ptpRun + 1) ∧ (15 ≤ s.host.ptpRun → u.host.ptpLock = true)) ∧
    (1000 < ofs.toInt ∨ ofs.toInt < -1000 → Completes (.ptpSync up domain l2 two ofs slew t) s fun u =>
      u.host.ptpLock = false ∧ u.host.ptpRun = 0 ∧ (s.host.ptpLock = true → HubReported u Src.ptpUnlocked 0)) ∧
    (ptpBegun s = false → Completes (.ptpSync up domain l2 two ofs slew t) s fun u => u.time.ofs = s.time.ofs) := by
  have is := synced (s.at t) ofs.toInt slew two
  refine ⟨completes_ptpSync mine ⟨?_, ?_, ?_⟩, fun low high => completes_ptpSync mine ⟨?_, fun long => ?_⟩,
    fun away => completes_ptpSync mine ⟨?_, ?_, fun locked => ?_⟩, fun idle => completes_ptpSync mine ?_⟩
  · rw [settle_host_ptpOfs]; exact is.ofs
  · rw [settle_host_ptpTwoStep]; exact is.step
  · rw [settle_host_ptpAt]; exact is.at_
  · rw [settle_host_ptpRun]; exact (is.near low high).1
  · rw [settle_host_ptpLock]; exact (is.near low high).2 long
  · rw [settle_host_ptpLock]; exact (is.away away).1
  · rw [settle_host_ptpRun]; exact (is.away away).2.1
  · exact ((is.away away).2.2 locked).settle
  · rw [settle_time_ofs, is.time.1, ptpSlew_idle (show ptpBegun (s.at t) = false from idle)]
    rfl

theorem completes_ownSync_prompting (domain : Byte) (l2 two : Bool) (ofs : DWord) (slew : Int) (mine : OwnSync s up domain l2)
    (prompting : s.prompting = true) :
    (-1000000 ≤ ofs.toInt → ofs.toInt ≤ 1000000 → Completes (.ptpSync up domain l2 two ofs slew t) s fun u =>
      (let moved := u.time.ofs - s.time.ofs
       let dt : Int := (max s.now t - s.host.ptpAt : Nat)
       (s.host.ptpFreq - dt * 100 / (msT : Int)) * dt / 1000000000 ≤ moved ∧
       moved ≤ max ((s.host.ptpFreq - dt * 100 / (msT : Int)) * dt / 1000000000) ((s.host.ptpFreq + dt * 100 / (msT : Int)) * dt / 1000000000) ∧
       (s.host.ptpFreq = 0 →
         (0 ≤ ofs.toInt → -(ofs.toInt * (nsT : Int)) ≤ moved ∧ moved ≤ 0) ∧
         (ofs.toInt ≤ 0 → 0 ≤ moved ∧ moved ≤ -(ofs.toInt * (nsT : Int))) ∧ max moved (-moved) ≤ dt / 100000))) ∧
    (1000000 < ofs.toInt ∨ ofs.toInt < -1000000 → Completes (.ptpSync up domain l2 two ofs slew t) s fun u =>
      u.time.ofs = s.time.ofs ∧ u.time.ptpFar = true ∧ (s.time.ptpFar = false → (u.reg TIM_EVT).getLsbD 5 = true)) := by
  have is := synced (s.at t) ofs.toInt slew two
  have begun : ptpBegun (s.at t) = true := ptpBegun_of_prompting (x := s.at t) prompting
  have ns : (nsT : Int) = 1638400 := rfl
  have ms : (msT : Int) = 1638400000000 := rfl
  refine ⟨fun low high => completes_ptpSync mine ?_, fun far => completes_ptpSync mine ⟨?_, ?_, fun unknown => ?_⟩⟩
  · intro moved dt
    have near : ¬ (msT : Int) < max (ofs.toInt * (nsT : Int)) (-(ofs.toInt * (nsT : Int))) := by rw [ns, ms]; omega
    have movedIs : moved = (ptpMove (s.at t) (ofs.toInt * (nsT : Int)) slew).1 := by
      show (settle _).time.ofs - s.time.ofs = _
      rw [settle_time_ofs, is.time.1, ptpSlew_near (x := s.at t) begun prompting near slew]
      exact add_sub_cancel_left s.time.ofs _
    obtain ⟨lower, upper, toward⟩ := ptpMove_bounds (s.at t) (ofs.toInt * (nsT : Int)) slew
    rw [← movedIs] at lower upper toward
    refine ⟨lower, upper, fun zero => ?_⟩
    obtain ⟨pos, neg, small⟩ := toward zero
    exact ⟨fun h => pos (by rw [ns]; omega), fun h => neg (by rw [ns]; omega), small⟩
  all_goals
    have wide : (msT : Int) < max (ofs.toInt * (nsT : Int)) (-(ofs.toInt * (nsT : Int))) := by rw [ns, ms]; omega
    obtain ⟨ofsKept, isFar, noted⟩ := ptpSlew_far (x := s.at t) begun wide slew
  · rw [settle_time_ofs, is.time.1, ofsKept]; rfl
  · rw [settle_time_ptpFar, is.time.2]; exact isFar
  · exact EvtSet.settled (is.evts 5 (noted unknown)) (by decide)

end

/-- Settles O52, command by command. -/
theorem uplinks : Obligations.Uplinks := by
  unfold Obligations.Uplinks
  intro up t s
  refine ⟨fun on => ⟨fun bytes kind calm => completes_ethFrame on bytes kind calm, fun mac sender accepted set_ => completes_arp on mac sender accepted set_,
    fun ip mac sender other => completes_arp_other ip mac sender other, completes_pause on, completes_pause_off⟩, completes_linkChange,
    fun domain l2 two ofs slew => ⟨completes_ptpSync_other, fun mine => ?_, fun mine => ?_, fun mine => ?_, fun mine => ?_,
      fun mine prompting => ?_, fun mine prompting => ?_⟩, completes_ptpSyncTimeout⟩
  · exact (completes_ownSync domain l2 two ofs slew mine).1
  · exact (completes_ownSync domain l2 two ofs slew mine).2.1
  · exact (completes_ownSync domain l2 two ofs slew mine).2.2.1
  · exact (completes_ownSync domain l2 two ofs slew mine).2.2.2
  · exact (completes_ownSync_prompting domain l2 two ofs slew mine prompting).1
  · exact (completes_ownSync_prompting domain l2 two ofs slew mine prompting).2

end Sys2Proof.Machine
end

section
set_option Elab.async false
/-! SUPPORT. The QSPI port: how a frame is judged, what its accesses leave, and the obligation about it (R480-R482). -/

namespace Sys2Proof.Machine

/-- The status word has gone out (R481). -/
def qspiShown (x : State) : State := x.updHost fun h => { h with qsShown := qspiStatus x, qsCover := none }

/-- The master's CRC byte does not match (R482). -/
def crcWrong (crc : Option Byte) (covered : List Word) : Bool :=
  match crc with | none => false | some c => decide (c.toNat ≠ crcWords 8 0x07 0xFF covered)

/-- A frame that passes its checks, before its words take effect. -/
def qspiBegun (x : State) (cmd : Word) (covered : List Word) (crc : Option Byte) : State :=
  (qspiShown x).updHost fun h =>
    { h with qsResult := 0, qsStatus := 0, qsOut := [], qsLeft := 0, qsCover := if bitOf cmd 11 && crc.isNone then some covered else none }

section
variable {x s : State} {op : Nat} {cmd : Word} {late bad : Bool} {covered : List Word} {crc : Option Byte} {go : State → State}

theorem qspiFrame_ended (on : qspiOn x = true) (is : fld cmd 15 12 = op) {e : Fin 4} (wrong : e ≠ 0) :
    qspiFrame x op cmd e late bad covered crc go = qspiReject (qspiShown x) e.val none := by
  unfold qspiFrame
  simp only [on, is, ne_eq, not_true_eq_false, decide_false, Bool.false_and, Bool.not_true, Bool.false_eq_true, if_false]
  exact if_pos wrong

theorem qspiFrame_judged (on : qspiOn x = true) (is : fld cmd 15 12 = op)
    (calm : (bitOf cmd 11 && crc.isSome) = false ∨ hubArmed x Src.qspiReject = none) :
    qspiFrame x op cmd 0 late bad covered crc go =
      if (bitOf cmd 11 && crcWrong crc covered || (!bitOf cmd 11 && x.bit HST_QS_CFG 13)) = true then qspiReject (qspiShown x) 4 none
      else if late then qspiReject (qspiShown x) 5 none
      else if (decide (fld cmd 10 6 ≠ 0) || bad) = true then qspiReject (qspiShown x) 6 none
      else go (qspiBegun x cmd covered crc) := by
  have checked : (if (bitOf cmd 11 && crc.isSome) = true then hubCheck (qspiShown x) Src.qspiReject else (none, qspiShown x)) =
      (none, qspiShown x) := by
    rcases calm with unsent | unarmed
    · rw [if_neg (by rw [unsent]; decide)]
    · split
      · exact hubCheck_none (x := qspiShown x) unarmed
      · rfl
  unfold qspiFrame
  dsimp only
  rw [← qspiShown, checked]
  simp only [on, is, ne_eq, not_true_eq_false, decide_false, Bool.false_and, Bool.not_true, Bool.false_eq_true, if_false, Option.isSome_none,
    Bool.or_false]
  rfl

/-- What a rejection leaves (R482). -/
theorem qspiRejected_of (regs : x.regs = s.regs) (mem : x.mem = s.mem) (opens : x.brg.opens = s.brg.opens)
    (fetch : x.host.qsFetch = s.host.qsFetch) (code : Nat) : QspiRejected s (settle (qspiReject x code none)) code := by
  let y := ((x.updHost fun h => { h with qsResult := code, qsOut := [] }).bump HST_QS_ERR).evt HST_EVT hstQSERR
  have is : qspiReject x code none = y.raise Src.qspiReject code := rfl
  have noted : EvtSet y HST_EVT hstQSERR := evtSet_evt _ _ _ (by decide)
  have counted : y.reg HST_QS_ERR = bumpW (s.reg HST_QS_ERR) 1 := by
    show (((x.updHost _).bump HST_QS_ERR).evt HST_EVT hstQSERR).reg HST_QS_ERR = _
    rw [reg_evt_ne _ _ (by decide), reg_bump_self, ← reg_congr regs]
    rfl
  rw [is]
  refine ⟨?_, ?_, ?_, (noted.raise _ _).settle (by decide), (hubReported_raise _ (by decide) _).settle, sameMemory_settle ?_, ?_, ?_⟩
  · rw [settle_host_qsResult, raise_host]; rfl
  · rw [settle_host_qsOut, raise_host]; rfl
  · rw [reg_settle_of_not_closing _ _ (by decide), reg_congr (raise_regs _ _ _), counted]
  · rw [raise_mem]; exact mem
  · rw [settle_brg_opens, raise_brg]; exact opens
  · rw [settle_host_qsFetch, raise_host]; exact fetch

theorem qspiRejected_shown (s : State) (t code : Nat) : QspiRejected s (settle (qspiReject (qspiShown (s.at t)) code none)) code :=
  qspiRejected_of (x := qspiShown (s.at t)) rfl rfl rfl rfl code

end

/-! The words of a frame (R207, R481). -/

theorem each_range_succ (f : State → Nat → State) (n : Nat) (s : State) : s.each (List.range (n + 1)) f = f (s.each (List.range n) f) n := by
  simp [State.each, List.range_succ]

section
variable {x : State} {a i : Nat} {v : Word}

/-- A word that has been read from the retained store for a QSPI frame. -/
theorem localAccess_store (free : x.brg.lock = none) (low : 0x800000 ≤ a) (high : a < 0x880000) :
    localAccess x ⟨.qspi, .qspi i, a, 1, false, none⟩ =
      x.updHost fun h => { h with qsOut := h.qsOut.set i (x.word a), qsLeft := h.qsLeft - 1 } := by
  have place : localPlace a = .store := by
    unfold localPlace
    rw [if_neg (by omega), if_neg (by omega), if_neg (by omega), if_neg (by omega), if_neg (by omega), if_neg (by omega), if_pos ⟨low, high⟩]
  have unlocked : ¬ (x.brg.lock.isSome && decide (Path.qspi ≠ .debugPort)) = true := by rw [free]; decide
  have reads : access x ⟨.qspi, .qspi i, a, 1, false, none⟩ = (some (stOK, [x.word a]), x) := by
    unfold access fieldServed hubAccess
    rw [place]
    rfl
  unfold localAccess
  rw [if_neg unlocked]
  unfold runLocal
  rw [reads]
  rfl

/-- A word that a QSPI frame writes to the publish area. -/
theorem localAccess_publish (free : x.brg.lock = none) (low : 0x400000 ≤ a) (high : a < 0x408000)
    (open_ : pubRefuses x ((a - 0x400000) / 2) = false) (own : isHealth x ((a - 0x400000) / 2) = false) :
    localAccess x ⟨.qspi, .qspi i, a, 1, false, some [v]⟩ =
      (x.setFillWord ((a - 0x400000) / 2) v).updHost fun h => { h with qsLeft := h.qsLeft - 1 } := by
  have place : localPlace a = .publish := by
    unfold localPlace
    rw [if_neg (by omega), if_neg (by omega), if_neg (by omega), if_pos ⟨low, high⟩]
  have unlocked : ¬ (x.brg.lock.isSome && decide (Path.qspi ≠ .debugPort)) = true := by rw [free]; decide
  have wrote : pubWrites x false ((a - 0x400000) / 2) [v] = (stOK, x.setFillWord ((a - 0x400000) / 2) v) := by
    simp [pubWrites, pubWrite, open_, own]
  have writes : access x ⟨.qspi, .qspi i, a, 1, false, some [v]⟩ = (some (stOK, []), x.setFillWord ((a - 0x400000) / 2) v) := by
    unfold access fieldServed hubAccess
    rw [place]
    dsimp only
    rw [wrote]
    rfl
  unfold localAccess
  rw [if_neg unlocked]
  unfold runLocal
  rw [writes]
  rfl

end

/-- The words still to come and those read (R481). -/
def qspiAt (x : State) (left : Nat) (out : List Word) : State := x.updHost fun h => { h with qsLeft := left, qsOut := out }

theorem qspiWords_read {x : State} {a n : Nat} (free : x.brg.lock = none) (low : 0x800000 ≤ a) (high : a + 2 * n ≤ 0x880000) :
    qspiWords x a n none = qspiAt x 0 ((List.range n).map fun i => x.word (a + 2 * i)) := by
  have upTo : ∀ k, k ≤ n → (qspiAt x n (List.replicate n 0)).each (List.range k)
        (fun s i => localAccess s ⟨.qspi, .qspi i, a + 2 * i, 1, false, none⟩) =
      qspiAt x (n - k) (((List.range k).map fun i => x.word (a + 2 * i)) ++ List.replicate (n - k) 0) := by
    intro k
    induction k with
    | zero => exact fun _ => rfl
    | succ k ih =>
      intro within
      rw [each_range_succ, ih (by omega), localAccess_store (by exact free) (by omega) (by omega)]
      have shorter : List.replicate (n - k) (0 : Word) = 0 :: List.replicate (n - (k + 1)) 0 := by
        rw [show n - k = (n - (k + 1)) + 1 by omega, List.replicate_succ]
      have out : (((List.range k).map fun i => x.word (a + 2 * i)) ++ List.replicate (n - k) 0).set k (x.word (a + 2 * k)) =
          ((List.range (k + 1)).map fun i => x.word (a + 2 * i)) ++ List.replicate (n - (k + 1)) 0 := by
        rw [shorter, List.set_append_right _ _ (by simp), List.range_succ]
        simp
      show qspiAt x (n - k - 1) ((((List.range k).map fun i => x.word (a + 2 * i)) ++ List.replicate (n - k) 0).set k (x.word (a + 2 * k))) = _
      rw [out, Nat.sub_sub]
  have all := upTo n (Nat.le_refl n)
  rw [Nat.sub_self, List.replicate_zero, List.append_nil] at all
  exact all

theorem eachSetWord_eq (b : Nat) (v : Nat → Word) : ∀ (l : List Nat) (s : State),
    (s.each l fun s w => s.setWord (b + 2 * w) (v w)) = { s with mem := (s.each l fun s w => s.setWord (b + 2 * w) (v w)).mem }
  | [], _ => rfl
  | w :: l, s => eachSetWord_eq b v l (s.setWord (b + 2 * w) (v w))

/-- The words of a frame that writes the publish area. -/
def published (x : State) (w0 n : Nat) (ws : List Word) : State :=
  x.each (List.range n) fun s i => s.setWord (pubBase x.cue.fill + 2 * w0 + 2 * i) (wAt ws i)

theorem published_keeps (x : State) (w0 n : Nat) (ws : List Word) : published x w0 n ws = { x with mem := (published x w0 n ws).mem } :=
  eachSetWord_eq _ _ _ _

theorem fillWord_published (x : State) (w0 : Nat) (ws : List Word) {n i : Nat} (within : i < n) :
    (published x w0 n ws).fillWord (w0 + i) = wAt ws i := by
  have cue : (published x w0 n ws).cue = x.cue := by rw [published_keeps]
  have word := word_eachSetWord (pubBase x.cue.fill + 2 * w0) (wAt ws) i (List.range n) x
  rw [if_pos (List.mem_range.2 within)] at word
  rw [State.fillWord, cue, show pubBase x.cue.fill + 2 * (w0 + i) = pubBase x.cue.fill + 2 * w0 + 2 * i by omega]
  exact word

theorem qspiWords_write {x : State} {a n : Nat} {ws : List Word} (free : x.brg.lock = none) (low : 0x400000 ≤ a) (high : a + 2 * n ≤ 0x408000)
    (open_ : ∀ i < n, pubRefuses x ((a - 0x400000) / 2 + i) = false ∧ isHealth x ((a - 0x400000) / 2 + i) = false) :
    qspiWords x a n (some ws) = qspiAt (published x ((a - 0x400000) / 2) n ws) 0 [] := by
  have upTo : ∀ k, k ≤ n → (qspiAt x n []).each (List.range k)
        (fun s i => localAccess s ⟨.qspi, .qspi i, a + 2 * i, 1, false, some [wAt ws i]⟩) =
      qspiAt (published x ((a - 0x400000) / 2) k ws) (n - k) [] := by
    intro k
    induction k with
    | zero => exact fun _ => rfl
    | succ k ih =>
      intro within
      have word : (a + 2 * k - 0x400000) / 2 = (a - 0x400000) / 2 + k := by omega
      have more : published x ((a - 0x400000) / 2) (k + 1) ws =
          (published x ((a - 0x400000) / 2) k ws).setWord (pubBase x.cue.fill + 2 * ((a - 0x400000) / 2) + 2 * k) (wAt ws k) :=
        each_range_succ _ _ _
      obtain ⟨notRefused, notHealth⟩ := open_ k (by omega)
      rw [each_range_succ, ih (by omega), more, published_keeps x]
      generalize (published x ((a - 0x400000) / 2) k ws).mem = m
      rw [localAccess_publish (by exact free) (by omega) (by omega) (by rw [word]; exact notRefused) (by rw [word]; exact notHealth), word]
      show qspiAt ({ x with mem := m }.setWord (pubBase x.cue.fill + 2 * ((a - 0x400000) / 2 + k)) (wAt ws k)) (n - k - 1) [] = _
      rw [Nat.sub_sub, show pubBase x.cue.fill + 2 * ((a - 0x400000) / 2 + k) = pubBase x.cue.fill + 2 * ((a - 0x400000) / 2) + 2 * k by omega]
  have all := upTo n (Nat.le_refl n)
  rw [Nat.sub_self] at all
  exact all

section
variable {cmd : Word} {addr : DWord} {ws : List Word} {crc : Byte} {late : Bool} {t : Nat} {s : State}

/-- The four commands judge a frame of their operation (R481). -/
theorem qspiFrames_row (cmd : Word) (addr : DWord) (ws : List Word) (crc : Byte) (late : Bool) (t : Nat) (s : State) (e : Fin 4) :
    ∀ x ∈ [(Instr.qspiWrite cmd addr ws crc e t, 1), (.qspiRead cmd addr late e t, 2), (.qspiSubmit cmd ws crc e t, 3), (.qspiFetch cmd late e t, 4)],
      ∃ late bad covered crc go, exec x.1 s = done (qspiFrame (s.at t) x.2 cmd e late bad covered crc go) := by
  simp only [List.forall_mem_cons]
  exact ⟨⟨_, _, _, _, _, rfl⟩, ⟨_, _, _, _, _, rfl⟩, ⟨_, _, _, _, _, rfl⟩, ⟨_, _, _, _, _, rfl⟩, fun _ h => absurd h List.not_mem_nil⟩

theorem completes_qspiReject {c : Instr} {code : Nat} {y : State} (row : exec c s = done y) (is : y = qspiReject (qspiShown (s.at t)) code none) :
    Completes c s fun u => QspiRejected s u code :=
  completes_done row (is ▸ qspiRejected_shown s t code)

/-- A frame whose CRC byte fails, or that has none where one is demanded (R482). -/
theorem qspiFrame_crc {op : Nat} {bad : Bool} {covered : List Word} {crc : Option Byte} {go : State → State} (on : qspiOn (s.at t) = true)
    (is : fld cmd 15 12 = op) (calm : (bitOf cmd 11 && crc.isSome) = false ∨ hubArmed (s.at t) Src.qspiReject = none)
    (wrong : bitOf cmd 11 = true ∧ crcWrong crc covered = true ∨ bitOf cmd 11 = false ∧ s.bit HST_QS_CFG 13 = true) :
    qspiFrame (s.at t) op cmd 0 late bad covered crc go = qspiReject (qspiShown (s.at t)) 4 none := by
  rw [qspiFrame_judged on is calm, if_pos]
  rcases wrong with ⟨sent, fails⟩ | ⟨unsent, strict⟩
  · simp [sent, fails]
  · simp [unsent, show (s.at t).bit HST_QS_CFG 13 = true from strict]

/-- A frame that passes the check of its CRC byte. -/
theorem qspiFrame_fits {op : Nat} {bad : Bool} {covered : List Word} {crc : Option Byte} {go : State → State} (on : qspiOn (s.at t) = true)
    (is : fld cmd 15 12 = op) (calm : crc = none ∨ hubArmed (s.at t) Src.qspiReject = none)
    (admitted : bitOf cmd 11 = true ∨ s.bit HST_QS_CFG 13 = false) (fits : bitOf cmd 11 = true → crcWrong crc covered = false) :
    qspiFrame (s.at t) op cmd 0 late bad covered crc go =
      if late then qspiReject (qspiShown (s.at t)) 5 none
      else if (decide (fld cmd 10 6 ≠ 0) || bad) = true then qspiReject (qspiShown (s.at t)) 6 none
      else go (qspiBegun (s.at t) cmd covered crc) := by
  have calmed : (bitOf cmd 11 && crc.isSome) = false ∨ hubArmed (s.at t) Src.qspiReject = none := by
    rcases calm with unsent | unarmed
    · exact .inl (by rw [unsent, Option.isSome_none, Bool.and_false])
    · exact .inr unarmed
  rw [qspiFrame_judged on is calmed, if_neg]
  cases sent : bitOf cmd 11 with
  | true => simp [fits sent]
  | false => simp [show (s.at t).bit HST_QS_CFG 13 = false from admitted.resolve_left (by rw [sent]; decide)]

theorem crcWrong_eq (crc : Byte) (covered : List Word) : crcWrong (some crc) covered = decide (crc.toNat ≠ crcWords 8 0x07 0xFF covered) := rfl

theorem qspiCovered (cmd : Word) (addr : DWord) (ws : List Word) :
    cmd :: toWords 2 addr.toNat ++ ws = cmd :: addr.extractLsb' 16 16 :: addr.extractLsb' 0 16 :: ws := by
  rw [toWords_dword]
  rfl

theorem completes_qspiWrite (on : qspiOn s = true) (is : fld cmd 15 12 = 1) (calm : hubArmed s Src.qspiReject = none)
    (clean : fld cmd 10 6 = 0) (even : addr.toNat % 2 = 0) (admitted : bitOf cmd 11 = true ∨ s.bit HST_QS_CFG 13 = false)
    (fits : bitOf cmd 11 = true → crc.toNat = crcWords 8 0x07 0xFF (cmd :: addr.extractLsb' 16 16 :: addr.extractLsb' 0 16 :: ws))
    (free : s.brg.lock = none) (low : 0x400000 ≤ addr.toNat) (high : addr.toNat + 2 * (fld cmd 5 0 + 1) ≤ 0x408000)
    (open_ : ∀ i < fld cmd 5 0 + 1, pubRefuses s ((addr.toNat - 0x400000) / 2 + i) = false ∧ isHealth s ((addr.toNat - 0x400000) / 2 + i) = false) :
    Completes (.qspiWrite cmd addr ws crc 0 t) s fun u => u.host.qsResult = 0 ∧ u.host.qsLeft = 0 ∧
      ∀ i < fld cmd 5 0 + 1, u.fillWord ((addr.toNat - 0x400000) / 2 + i) = wAt ws i := by
  have row := qspiFrame_fits (s := s) (t := t) (late := false) (bad := decide (addr.toNat % 2 = 1)) (crc := some crc)
    (covered := cmd :: toWords 2 addr.toNat ++ ws) (go := fun s => qspiWords s addr.toNat (qsCount cmd) (some ws)) on is (.inr calm) admitted
    fun sent => by rw [crcWrong_eq, qspiCovered, ← fits sent]; simp
  rw [if_neg (by decide), if_neg (by simp [clean, even])] at row
  have wrote := qspiWords_write (x := qspiBegun (s.at t) cmd (cmd :: toWords 2 addr.toNat ++ ws) (some crc)) (ws := ws) free low high open_
  refine completes_done (congrArg done (row.trans wrote)) ⟨?_, ?_, fun i within => ?_⟩
  · rw [settle_host_qsResult, published_keeps]; rfl
  · rw [settle_host_qsLeft]; rfl
  · rw [fillWord_settle]
    exact fillWord_published _ _ _ within

theorem completes_qspiRead (on : qspiOn s = true) (is : fld cmd 15 12 = 2) (clean : fld cmd 10 6 = 0) (even : addr.toNat % 2 = 0)
    (admitted : bitOf cmd 11 = true ∨ s.bit HST_QS_CFG 13 = false) (free : s.brg.lock = none) (low : 0x800000 ≤ addr.toNat)
    (high : addr.toNat + 2 * (fld cmd 5 0 + 1) ≤ 0x880000) :
    Completes (.qspiRead cmd addr false 0 t) s fun u => u.host.qsShown = qspiStatus s ∧
      u.host.qsCover = (if bitOf cmd 11 then some [cmd, addr.extractLsb' 16 16, addr.extractLsb' 0 16] else none) ∧
      u.host.qsResult = 0 ∧ u.host.qsLeft = 0 ∧ u.host.qsOut = (List.range (fld cmd 5 0 + 1)).map (fun i => s.word (addr.toNat + 2 * i)) ∧
      SameMemory s u := by
  have row := qspiFrame_fits (s := s) (t := t) (late := false) (bad := decide (addr.toNat % 2 = 1)) (crc := none)
    (covered := cmd :: toWords 2 addr.toNat) (go := fun s => qspiWords s addr.toNat (qsCount cmd) none) on is (.inl rfl) admitted fun _ => rfl
  rw [if_neg (by decide), if_neg (by simp [clean, even])] at row
  have read := qspiWords_read (x := qspiBegun (s.at t) cmd (cmd :: toWords 2 addr.toNat) none) (n := qsCount cmd) free low high
  refine completes_done (congrArg done (row.trans read)) ⟨?_, ?_, ?_, ?_, ?_, sameMemory_settle rfl⟩
  · rw [settle_host_qsShown]; rfl
  · rw [settle_host_qsCover]
    show (if bitOf cmd 11 && true then some (cmd :: toWords 2 addr.toNat) else none) = _
    rw [Bool.and_true, toWords_dword]
  · rw [settle_host_qsResult]; rfl
  · rw [settle_host_qsLeft]; rfl
  · rw [settle_host_qsOut]; rfl

theorem completes_qspiRead_rejected (on : qspiOn s = true) (is : fld cmd 15 12 = 2)
    (admitted : bitOf cmd 11 = true ∨ s.bit HST_QS_CFG 13 = false) :
    (late = true → Completes (.qspiRead cmd addr late 0 t) s fun u => QspiRejected s u 5) ∧
    (late = false → addr.toNat % 2 = 1 → Completes (.qspiRead cmd addr late 0 t) s fun u => QspiRejected s u 6) := by
  have row := qspiFrame_fits (s := s) (t := t) (late := late) (bad := decide (addr.toNat % 2 = 1)) (crc := none)
    (covered := cmd :: toWords 2 addr.toNat) (go := fun s => qspiWords s addr.toNat (qsCount cmd) none) on is (.inl rfl) admitted fun _ => rfl
  refine ⟨fun slow => completes_qspiReject (t := t) rfl (row.trans (if_pos slow)), fun prompt odd => completes_qspiReject (t := t) rfl ?_⟩
  rw [if_neg (by rw [prompt]; decide), if_pos (by simp [odd])] at row
  exact row

theorem completes_qspiFetch (on : qspiOn s = true) (is : fld cmd 15 12 = 4) (admitted : bitOf cmd 11 = true ∨ s.bit HST_QS_CFG 13 = false)
    (clean : fld cmd 10 6 = 0) : Completes (.qspiFetch cmd false 0 t) s fun u =>
      u.host.qsResult = 0 ∧ u.host.qsOut = (List.range (fld cmd 5 0 + 1)).map (wAt s.host.qsFetch) ∧
      u.host.qsFetch = s.host.qsFetch.drop (fld cmd 5 0 + 1) ∧ SameMemory s u := by
  have row := qspiFrame_fits (s := s) (t := t) (late := false) (bad := false) (crc := none) (covered := [cmd])
    (go := fun s => s.updHost fun h => { h with qsOut := fetchWords s (qsCount cmd), qsFetch := h.qsFetch.drop (qsCount cmd) })
    on is (.inl rfl) admitted fun _ => rfl
  rw [if_neg (by decide), if_neg (by simp [clean])] at row
  refine completes_done (congrArg done row) ⟨?_, ?_, ?_, sameMemory_settle rfl⟩
  · rw [settle_host_qsResult]; rfl
  · rw [settle_host_qsOut]; rfl
  · rw [settle_host_qsFetch]; rfl

/-- An accepted SUBMIT hands its descriptor to endpoint 0, where there is room (R163, R202, R482). -/
theorem qspiSubmit_fits (on : qspiOn s = true) (is : fld cmd 15 12 = 3) (calm : hubArmed s Src.qspiReject = none) (clean : fld cmd 10 6 = 0)
    (admitted : bitOf cmd 11 = true ∨ s.bit HST_QS_CFG 13 = false)
    (fits : bitOf cmd 11 = true → crc.toNat = crcWords 8 0x07 0xFF (cmd :: ws)) :
    exec (.qspiSubmit cmd ws crc 0 t) s = done (if qspiFull (s.at t) then qspiReject (qspiBegun (s.at t) cmd (cmd :: ws) (some crc)) 8 none
      else issueWords (qspiBegun (s.at t) cmd (cmd :: ws) (some crc)) 0 (ws.take (qsCount cmd)) .plain) := by
  have row := qspiFrame_fits (s := s) (t := t) (late := false) (bad := false) (crc := some crc) (covered := cmd :: ws)
    (go := fun s => if qspiFull s then qspiReject s 8 none else issueWords s 0 (ws.take (qsCount cmd)) .plain) on is (.inr calm) admitted
    fun sent => by rw [crcWrong_eq, ← fits sent]; simp
  rw [if_neg (by decide), if_neg (by simp [clean])] at row
  exact congrArg done row

/-- The words of a whole descriptor are issued (R204). -/
theorem issueWords_whole {x : State} {ep : Nat} {item : List Word} (whole : descriptorLen item = some item.length) (via : ReqVia) :
    issueWords x ep item via = issue x (parseDescriptor ep item) via :=
  if_neg (by simp [whole])

theorem expectedOf_single {x : State} {d : Descriptor} (notGwr : d.op ≠ .gwr) (notRange : d.op ≠ .range) : expectedOf x d = [] := by
  unfold expectedOf
  split
  · exact absurd ‹_› notGwr
  · exact absurd ‹_› notRange
  · rfl

theorem sigMustWait_answered {x : State} {i : Fin 32} {d : Descriptor} (notPosted : d.op.posted = false) : sigMustWait x i d = false := by
  have notSig : d.op ≠ .sig := fun h => by rw [h] at notPosted; cases notPosted
  unfold sigMustWait
  rw [decide_eq_false notSig, Bool.false_and]

/-- A request that is issued touches the bridge and the switch alone. -/
def RequestOnly (s u : State) : Prop := u = { s with marks := u.marks, regs := u.regs, sw := u.sw, brg := u.brg }

theorem requestOnly_issue {d : Descriptor} {i : Fin 32} {via : ReqVia} {tag : Nat} (at_ : i.val = d.ep) (other : d.ep ≠ 5)
    (fine : judge s d = none) (noneHeld : (vget s.brg.eps i).held = []) (mayGo : mustHold s i d = false)
    (noWait : sigMustWait s i d = false) (notPosted : d.op.posted = false) (notGwr : d.op ≠ .gwr) (notRange : d.op ≠ .range)
    (free : freeTag s d.ep = some tag) (up : RingsUp s) (here : d.dring = s.ringNo) (single : d.dnode < 4000) (ring : s.ringNo < 16)
    (foreign : d.dnode ≠ s.fab.node) : RequestOnly s (issue s d via) := by
  have notCommit : d.op ≠ .commit := fun h => by rw [h] at notPosted; cases notPosted
  obtain ⟨-, -, -, -, freeG, -, -⟩ := grown_keeps s d i
  have only : BridgeOnly s (opened (grown s d) i d tag via) := (bridgeOnly_grown s d).trans (bridgeOnly_opened _ _ _ _ _)
  unfold RequestOnly
  rw [issue_goes at_ fine notCommit noneHeld mayGo noWait, issueNow_open notPosted (freeG.trans free), sendFrames_one notGwr notRange,
    (joins_sendRequest_of_bridge only other here ring up single foreign).only]
  rw [only.trans (bridgeOnly_postedWith (opened (grown s d) i d tag via) d d.dnode tag _)]

theorem completes_qspiSubmit {tag : Nat} (on : qspiOn s = true) (is : fld cmd 15 12 = 3) (calm : hubArmed s Src.qspiReject = none)
    (clean : fld cmd 10 6 = 0) (admitted : bitOf cmd 11 = true ∨ s.bit HST_QS_CFG 13 = false)
    (fits : bitOf cmd 11 = true → crc.toNat = crcWords 8 0x07 0xFF (cmd :: ws)) (room : qspiFull (s.at t) = false)
    (whole : descriptorLen (ws.take (fld cmd 5 0 + 1)) = some (ws.take (fld cmd 5 0 + 1)).length) {d : Descriptor}
    (parsed : parseDescriptor 0 (ws.take (fld cmd 5 0 + 1)) = d) (ep : d.ep = 0) (fine : judge s d = none) (notPosted : d.op.posted = false)
    (notGwr : d.op ≠ .gwr) (notRange : d.op ≠ .range) (tagged : freeTag s 0 = some tag) (mayGo : mustHold (s.at t) 0 d = false) (up : RingsUp s)
    (here : d.dring = s.ringNo) (single : d.dnode < 4000) (ring : s.ringNo < 16) (foreign : d.dnode ≠ s.fab.node) :
    Completes (.qspiSubmit cmd ws crc 0 t) s fun u => u.host.qsResult = 0 ∧
      u.brg.opens = s.brg.opens ++ [⟨d, tag, (vget s.brg.eps 0).seq.toNat, 0, [], [], .plain⟩] ∧
      RequestQueued s u d d.dnode tag (vget s.brg.eps 0).seq.toNat := by
  have noneHeld : (vget s.brg.eps 0).held = [] := by
    have all : (!(vget s.brg.eps 0).held.isEmpty) = false := by
      have room := room
      unfold qspiFull at room
      simp only [Bool.or_eq_false_iff] at room
      exact room.1.1.2
    simpa using all
  have row := qspiSubmit_fits (t := t) on is calm clean admitted fits
  rw [if_neg (by rw [room]; decide), show qsCount cmd = fld cmd 5 0 + 1 from rfl, issueWords_whole whole, parsed] at row
  let x := qspiBegun (s.at t) cmd (cmd :: ws) (some crc)
  have noWait : sigMustWait x 0 d = false := sigMustWait_answered notPosted
  have at_ : (0 : Fin 32).val = d.ep := ep.symm
  have other : d.ep ≠ 5 := by omega
  have free : freeTag x d.ep = some tag := by rw [ep]; exact tagged
  have mayGoX : mustHold x 0 d = false := mayGo
  obtain ⟨opens, -, queued⟩ := issue_open (s := x) (via := .plain) at_ other fine noneHeld mayGoX noWait notPosted notGwr notRange free up here single
    ring foreign
  have only := requestOnly_issue (s := x) (via := .plain) at_ other fine noneHeld mayGoX noWait notPosted notGwr notRange free up here single ring foreign
  refine completes_done row ⟨?_, ?_, queued⟩
  · rw [settle_host_qsResult, only]
    rfl
  · rw [opens, expectedOf_single notGwr notRange]
    rfl

end

/-- Settles O54, command by command. -/
theorem qspiFrames : Obligations.QspiFrames := by
  unfold Obligations.QspiFrames
  intro cmd addr ws crc late t s on
  refine ⟨fun e ended x listed is => ?_, fun unsent strict x listed is => ?_, fun calm => ⟨fun is sent fails => ?_, fun is sent fails => ?_, ?_, ?_⟩,
    ?_, ?_, ?_, ?_⟩
  · obtain ⟨_, _, _, _, _, row⟩ := qspiFrames_row cmd addr ws crc late t s e x listed
    exact completes_qspiReject row (qspiFrame_ended (x := s.at t) on is ended)
  · obtain ⟨_, _, _, _, _, row⟩ := qspiFrames_row cmd addr ws crc late t s 0 x listed
    exact completes_qspiReject row (qspiFrame_crc on is (.inl (by rw [unsent, Bool.false_and])) (.inr ⟨unsent, strict⟩))
  · refine completes_qspiReject (t := t) rfl (qspiFrame_crc on is (.inr calm) (.inl ⟨sent, ?_⟩))
    rw [crcWrong_eq, qspiCovered]
    exact decide_eq_true fails
  · exact completes_qspiReject (t := t) rfl (qspiFrame_crc on is (.inr calm) (.inl ⟨sent, decide_eq_true fails⟩))
  · rintro is ⟨clean, even, admitted⟩ fits free low high open_
    exact completes_qspiWrite on is calm clean even admitted fits free low high open_
  · intro is clean admitted fits
    have row := qspiSubmit_fits (t := t) on is calm clean admitted fits
    refine ⟨fun full => ?_, fun tag room whole fine notPosted notGwr notRange free mayGo up here single ring foreign => ?_⟩
    · rw [if_pos full] at row
      exact completes_done row (qspiRejected_of (x := qspiBegun (s.at t) cmd (cmd :: ws) (some crc)) rfl rfl rfl rfl 8)
    · exact completes_qspiSubmit on is calm clean admitted fits room whole rfl rfl fine notPosted notGwr notRange free mayGo up here single ring foreign
  · rintro is ⟨clean, even, admitted⟩ rfl free low high
    exact completes_qspiRead on is clean even admitted free low high
  · exact fun is admitted slow => (completes_qspiRead_rejected on is admitted).1 slow
  · exact fun is admitted prompt odd => (completes_qspiRead_rejected on is admitted).2 prompt odd
  · rintro is admitted clean rfl
    exact completes_qspiFetch on is admitted clean

end Sys2Proof.Machine
end

section
set_option Elab.async false
/-! SUPPORT. Host envelopes: datagrams discarded and answered with a NAK, requests of hosts, relayed frames and the library, and the
obligation about them (R195, R197, R472-R477). -/

namespace Sys2Proof.Machine

theorem accepted_congr {s x : State} (h : x.lead = s.lead) : x.accepted = s.accepted := by
  unfold State.accepted State.core
  rw [h]

theorem uplinkOn_congr {s x : State} (up : Uplink) (sw : x.sw = s.sw) (host : x.host = s.host) (ctrl : x.reg HST_CTRL = s.reg HST_CTRL) :
    uplinkOn x up = uplinkOn s up := by
  unfold uplinkOn portOff State.bit
  rw [sw, host, ctrl]
  cases up <;> rfl

section
variable {up : Uplink} {p : EthPeer} {ws : List Word} {t : Nat} {s : State}

theorem discardFrame_keeps (x : State) (up : Uplink) (cause : Nat) :
    (discardFrame x up cause none).sw = x.sw ∧ (discardFrame x up cause none).host = x.host ∧
    (discardFrame x up cause none).lead = x.lead ∧ (discardFrame x up cause none).brg = x.brg ∧
    KeepsRegs x (discardFrame x up cause none) [hstBadReg up, HST_EVT, HST_LASTERR] := by
  have noted : KeepsRegs x ((x.bump (hstBadReg up)).evt HST_EVT hstBAD) [hstBadReg up, HST_EVT, HST_LASTERR] :=
    ((KeepsRegs.of_regs rfl _).bump (by simp)).evt (by simp) _
  unfold discardFrame raiseHub
  dsimp only
  split
  · exact ⟨rfl, rfl, rfl, rfl, noted⟩
  · refine ⟨raise_sw _ _ _, raise_host _ _ _, raise_lead _ _ _, raise_brg _ _ _, ?_⟩
    exact (noted.setReg (by simp) _).trans (.of_regs (raise_regs _ _ _) _)

theorem judged_eq {x : State} {low : Option (Fin 4)} {lengths : Bool} {go : State → State} (on : uplinkOn x up = true)
    (udp : p.udp = none ∨ hstIp x ≠ 0) : judged x up p low lengths ws go =
      match low with
      | some c => discardFrame x up (c.val + 2) none
      | none => match datagramCause x up p.udp.isSome lengths ws with
        | none => go x
        | some (c, at_) =>
          if (decide (4 ≤ ws.length) && decide (fld (wAt ws 0) 15 12 = 1) && decide (fld (wAt ws 0) 11 8 ≤ 4)) = true then
            nak (discardFrame x up c none) up p (wAt ws 1) c at_ else discardFrame x up c none := by
  have some_ : ¬ (p.udp.isSome && decide (hstIp x = 0)) = true := by
    rcases udp with h | h
    · rw [h, Option.isSome_none, Bool.false_and]; decide
    · rw [decide_eq_false h, Bool.and_false]; decide
  unfold judged
  rw [on, if_neg (by decide), if_neg some_] <;> rfl

/-- The rows of the three envelopes judge their datagram. -/
theorem envelope_row (up : Uplink) (p : EthPeer) (low : Option (Fin 4)) (ws : List Word) (t : Nat) (s : State) :
    ∀ c ∈ [Instr.envelopeRequest up p low true ws t, .envelopeRelay up p low true ws t, .envelopeLibrary up p low true ws t],
      ∃ go, exec c s = done (judged (s.at t) up p low true ws go) := by
  simp only [List.forall_mem_cons]
  exact ⟨⟨_, rfl⟩, ⟨_, rfl⟩, ⟨_, rfl⟩, fun _ h => absurd h List.not_mem_nil⟩

/-- A datagram that a check of the uplink discards (R475, causes 2-5). -/
theorem completes_envelope_low (on : uplinkOn s up = true) (udp : p.udp = none ∨ hstIp s ≠ 0) (low : Fin 4) :
    ∀ c ∈ [Instr.envelopeRequest up p (some low) true ws t, .envelopeRelay up p (some low) true ws t, .envelopeLibrary up p (some low) true ws t],
      Completes c s fun u => Discarded s u up (low.val + 2) ∧ u.host.envs = s.host.envs ∧ u.brg.opens = s.brg.opens := by
  intro c listed
  obtain ⟨go, row⟩ := envelope_row up p (some low) ws t s c listed
  obtain ⟨-, host, -, brg, -⟩ := discardFrame_keeps (s.at t) up (low.val + 2)
  refine completes_done (row.trans (congrArg done (judged_eq (x := s.at t) on udp))) ⟨discarded_of (x := s.at t) rfl _, ?_, ?_⟩
  · rw [settle_host_envs]
    show (discardFrame (s.at t) up (low.val + 2) none).host.envs = _
    rw [host]
    rfl
  · rw [settle_brg_opens]
    show (discardFrame (s.at t) up (low.val + 2) none).brg.opens = _
    rw [brg]
    rfl

theorem nak_plain (x : State) (up : Uplink) (p : EthPeer) (seq : Word) (cause at_ : Nat) : nak x up p seq cause (some at_) =
    ((ethSend x up (peerFrame x p [0x1200, seq, 6, 0, wd cause, wd at_])).bump HST_NAK).evt HST_EVT hstNAK := rfl

/-- An envelope that fails its checks is answered with a NAK (R475). -/
theorem completes_envelope_nak {cause at_ : Nat} (on : uplinkOn s up = true) (udp : p.udp = none ∨ hstIp s ≠ 0)
    (fails : datagramCause s up p.udp.isSome true ws = some (cause, some at_)) (long : 4 ≤ ws.length) (version : fld (wAt ws 0) 15 12 = 1)
    (kind : fld (wAt ws 0) 11 8 ≤ 4) (accepted : s.accepted.isSome = true) :
    ∀ c ∈ [Instr.envelopeRequest up p none true ws t, .envelopeRelay up p none true ws t, .envelopeLibrary up p none true ws t],
      Completes c s fun u => Discarded s u up cause ∧ (u.reg HST_EVT).getLsbD hstNAK = true ∧ u.reg HST_NAK = bumpW (s.reg HST_NAK) 1 ∧
        SentOn s u up ⟨some p.mac, p.tags, p.udp, if p.udp.isSome then 0x0800 else s.reg HST_ETYPE, [0x1200, wAt ws 1, 6, 0, wd cause, wd at_]⟩ := by
  intro c listed
  obtain ⟨go, row⟩ := envelope_row up p none ws t s c listed
  have discarded : Discarded s (discardFrame (s.at t) up cause none) up cause := discarded_now (x := s.at t) rfl cause
  obtain ⟨sw, host, lead, -, regs⟩ := discardFrame_keeps (s.at t) up cause
  have is : judged (s.at t) up p none true ws go = nak (discardFrame (s.at t) up cause none) up p (wAt ws 1) cause (some at_) := by
    rw [judged_eq (x := s.at t) on udp]
    dsimp only
    rw [show datagramCause (s.at t) up p.udp.isSome true ws = some (cause, some at_) from fails]
    exact if_pos (by simp [long, version, kind])
  rw [is, nak_plain] at row
  have nakReg : HST_NAK ∉ [hstBadReg up, HST_EVT, HST_LASTERR] := by cases up <;> decide
  have ctrlReg : HST_CTRL ∉ [hstBadReg up, HST_EVT, HST_LASTERR] := by cases up <;> decide
  have typeReg : HST_ETYPE ∉ [hstBadReg up, HST_EVT, HST_LASTERR] := by cases up <;> decide
  have badNak : hstBadReg up ≠ HST_NAK ∧ hstBadReg up ≠ HST_EVT := by cases up <;> decide
  have ctrl := regs HST_CTRL 0 (by decide) ctrlReg
  have type := regs HST_ETYPE 0 (by decide) typeReg
  have count := regs HST_NAK 0 (by decide) nakReg
  generalize discardFrame (s.at t) up cause none = y at *
  have acceptedY : y.accepted.isSome = true := by rw [accepted_congr lead]; exact accepted
  have onY : uplinkOn y up = true := by rw [uplinkOn_congr up sw host ctrl]; exact on
  have frame : peerFrame y p [0x1200, wAt ws 1, 6, 0, wd cause, wd at_] =
      ⟨some p.mac, p.tags, p.udp, if p.udp.isSome then 0x0800 else s.reg HST_ETYPE, [0x1200, wAt ws 1, 6, 0, wd cause, wd at_]⟩ := by
    unfold peerFrame State.reg
    rw [type]
    rfl
  have sent := sentOn_ethSend (s := s) (x := y) (by rw [host]; rfl) acceptedY onY (peerFrame y p [0x1200, wAt ws 1, 6, 0, wd cause, wd at_])
  have kept : (ethSend y up (peerFrame y p [0x1200, wAt ws 1, 6, 0, wd cause, wd at_])).regs = y.regs ∧
      (ethSend y up (peerFrame y p [0x1200, wAt ws 1, 6, 0, wd cause, wd at_])).flts = y.flts := by
    rw [ethSend_ups acceptedY onY]
    exact ⟨rfl, rfl⟩
  rw [frame] at sent kept row
  generalize ethSend y up _ = z at sent kept row
  obtain ⟨regsZ, fltsZ⟩ := kept
  obtain ⟨counted, noted, told⟩ := discarded
  have discardedZ : Discarded s ((z.bump HST_NAK).evt HST_EVT hstNAK) up cause := by
    refine ⟨?_, ?_, fun some_ => ?_⟩
    · rw [reg_evt_ne _ _ badNak.2, reg_bump_ne _ badNak.1, reg_congr regsZ, counted]
    · exact ((EvtSet.congr noted regsZ).bump (by decide)).evt _ _
    · obtain ⟨last, reported⟩ := told some_
      refine ⟨?_, reported.congr fltsZ⟩
      rw [reg_evt_ne _ _ (by decide), reg_bump_ne _ (by decide), reg_congr regsZ, last]
  refine completes_done row ⟨discardedZ.settle, (evtSet_evt _ _ _ (by decide)).settle (by decide), ?_, SentOn.settle sent⟩
  rw [reg_settle_of_not_closing _ _ (by decide), reg_evt_ne _ _ (by decide), reg_bump_self, reg_congr regsZ]
  exact congrArg (bumpW · 1) count

/-! Frames that join a queue of the ring. -/

theorem queuedOnRing_of_joins {x z : State} {f : Frame} {input joints : Nat} (h : Joins x z ⟨f, input, x.now, 0, none, joints⟩)
    (same : x.sw = s.sw) : QueuedOnRing s (settle z) input joints f := by
  obtain ⟨r, joined⟩ := h.joined
  have now : z.now = x.now := by rw [h.only]
  refine ⟨r, ?_⟩
  rw [queue_congr (settle_sw z), joined, queue_congr same, settle_now, now]

/-- A frame of the node's own units to one node of the own ring. -/
theorem joins_sendTo {x : State} {input cls type sub n : Nat} {payload : List Word} (numbered : x.fab.node ≠ 0) (single : n < 4000)
    (ring : x.ringNo < 16) (up : RingsUp x) (low : cls % 4 ≠ 0) :
    Joins x (sendTo x input cls type sub n payload)
      ⟨Frame.mk' cls type sub (putFld x.ringNo 15 12 ||| putFld n 11 0) x.srcWord 0 payload, input, x.now, 0, none, 0⟩ := by
  have dest := fld_dest x.ringNo n
  rw [Nat.mod_eq_of_lt ring, Nat.mod_eq_of_lt (show n < 4096 by omega)] at dest
  unfold sendTo
  rw [if_neg numbered]
  have unicast : fld (putFld x.ringNo 15 12 ||| putFld n 11 0) 11 0 < 4000 := by rw [dest.2]; exact single
  exact joins_sendFrame dest.1 unicast (by rw [cls_mk]; exact fun h => low h.1) up


/-! The library (R193, R477). -/

/-- The frame that takes a part of a library's answer to a node (R193). -/
def libraryFrame (s : State) (cls sub n : Nat) (payload : List Word) : Frame :=
  Frame.mk' cls 1 sub (putFld s.ringNo 15 12 ||| putFld n 11 0) s.srcWord 0 payload

theorem completes_library {c : Instr} {y : State} {n cls sub : Nat} {payload : List Word} {rest : List (Nat × Nat)}
    (row : exec c s = done (sendTo y 20 cls 1 sub n payload)) (low : cls % 4 ≠ 0) (single : n < 4000) (numbered : s.fab.node ≠ 0)
    (ring : s.ringNo < 16) (rings : RingsUp s) (is : y = (s.at t).updHost fun h => { h with library := rest }) :
    Completes c s fun u => u.host.library = rest ∧ QueuedOnRing s u 20 0 (libraryFrame s cls sub n payload) := by
  subst is
  have joins := joins_sendTo (x := (s.at t).updHost fun h => { h with library := rest }) (input := 20) (type := 1) (sub := sub) (payload := payload)
    numbered single ring rings low
  refine completes_done row ⟨?_, queuedOnRing_of_joins joins rfl⟩
  rw [settle_host_library, joins.only]
  rfl

theorem completes_libraryReplyTimeout {n : Nat} {k : Nat} {rest : List (Nat × Nat)} (waits : s.host.library = (n, k) :: rest) (single : n < 4000)
    (numbered : s.fab.node ≠ 0) (ring : s.ringNo < 16) (rings : RingsUp s) : Completes (.libraryReplyTimeout t) s fun u =>
      u.host.library = rest ∧ QueuedOnRing s u 20 0 (libraryFrame s 1 0x14 n [1]) := by
  refine completes_library (t := t) ?_ (by decide) single numbered ring rings rfl
  show done (libraryNone (s.at t)) = _
  unfold libraryNone
  rw [show (s.at t).host.library = (n, k) :: rest from waits]

/-- A datagram that passes its checks is handled. -/
theorem judged_passes {x : State} {go : State → State} (on : uplinkOn x up = true) (udp : p.udp = none ∨ hstIp x ≠ 0)
    (passes : datagramCause x up p.udp.isSome true ws = none) : judged x up p none true ws go = go x := by
  rw [judged_eq on udp]
  dsimp only
  rw [passes]

theorem completes_envelopeLibrary {item : List Word} {n k : Nat} {rest : List (Nat × Nat)} (on : uplinkOn s up = true)
    (udp : p.udp = none ∨ hstIp s ≠ 0) (passes : datagramCause s up p.udp.isSome true ws = none) (items : itemsOf ws 4 = some [item])
    (prompting : s.prompting = true) (host : p.udp = some (s.reg HST_LIB_IP_H ++ s.reg HST_LIB_IP_L, s.reg HST_LIB_UDP))
    (waits : s.host.library = (n, k) :: rest) (single : n < 4000) (numbered : s.fab.node ≠ 0) (ring : s.ringNo < 16) (rings : RingsUp s) :
    (fld (wAt item 0) 7 0 = 0x13 → Completes (.envelopeLibrary up p none true ws t) s fun u =>
      u.host.library = s.host.library ∧ QueuedOnRing s u 20 0 (libraryFrame s 3 0x13 n (item.drop 1))) ∧
    (fld (wAt item 0) 7 0 = 0x14 → Completes (.envelopeLibrary up p none true ws t) s fun u =>
      u.host.library = rest ∧ QueuedOnRing s u 20 0 (libraryFrame s 1 0x14 n (item.drop 1))) := by
  have row : exec (.envelopeLibrary up p none true ws t) s = done (libraryItem (s.at t) item) := by
    refine congrArg done ((judged_passes (x := s.at t) on udp passes).trans ?_)
    rw [items]
    exact if_pos ⟨prompting, host⟩
  have library : (s.at t).host.library = (n, k) :: rest := waits
  refine ⟨fun data => ?_, fun last => ?_⟩
  · refine completes_library (t := t) (y := s.at t) (row.trans ?_) (by decide) single numbered ring rings rfl
    unfold libraryItem
    rw [library]
    exact congrArg done (if_pos data)
  · refine completes_library (t := t) (row.trans ?_) (by decide) single numbered ring rings rfl
    unfold libraryItem
    rw [library]
    exact congrArg done ((if_neg (by rw [last]; decide)).trans (if_pos last))

/-! Requests of hosts and their responses (R474). -/

theorem completes_envelopeResponse {e : EnvEntry} {c : Completion} (only : s.host.envs = [e]) (mine : e.key.uplink = up) (open_ : e.done = false)
    (items : e.items = [.done c]) : Completes (.envelopeResponse up t) s fun u =>
      u.host.envs = [{ e with done := true, at_ := max s.now t }] ∧
      (s.accepted.isSome = true → uplinkOn s up = true →
        SentOn s u up ⟨some e.peer.mac, e.peer.tags, e.peer.udp, if e.peer.udp.isSome then 0x0800 else s.reg HST_ETYPE,
          [0x1100, e.key.seq, wd ((completionWords c).length + 6), 1, wd ((completionWords c).length + 2), 0] ++ completionWords c⟩) := by
  let e1 : EnvEntry := { e with done := true, at_ := max s.now t }
  have complete : (envComplete e && decide (e.key.uplink = up)) = true := by
    simp [envComplete, open_, items, mine]
  have found : (s.at t).host.envs.find? (fun e => envComplete e && decide (e.key.uplink = up)) = some e := by
    show s.host.envs.find? _ = _
    rw [only]
    exact List.find?_cons_of_pos complete
  have row : exec (.envelopeResponse up t) s =
      done ((sendAnswer (s.at t) e1).updHost fun h => { h with envs := keepEight up (h.envs.filter (· ≠ e) ++ [e1]) }) := by
    refine congrArg done ?_
    show envelopeResponse (s.at t) up = _
    unfold envelopeResponse
    rw [found]
    rfl
  have envs : (sendAnswer (s.at t) e1).host.envs = [e] := by
    unfold sendAnswer ethSend
    split <;> exact only
  refine completes_done row ⟨?_, fun accepted on => ?_⟩
  · rw [settle_host_envs]
    show keepEight up ((sendAnswer (s.at t) e1).host.envs.filter (· ≠ e) ++ [e1]) = [e1]
    rw [envs]
    simp [keepEight, e1, mine]
  · have words : envelope 1 e.key.seq (responseItems 0 e1.items) =
        [0x1100, e.key.seq, wd ((completionWords c).length + 6), 1, wd ((completionWords c).length + 2), 0] ++ completionWords c := by
      have one : e1.items = [.done c] := items
      rw [one]
      have size : wd (4 + ((completionWords c).length + 1 + 1)) = wd ((completionWords c).length + 6) := congrArg wd (by omega)
      simp only [envelope, responseItems, List.foldr_cons, List.foldr_nil, List.length_cons, List.append_nil, List.cons_append, size, List.nil_append,
        List.length_nil]
      rfl
    have sent := sentOn_ethSend (s := s) (x := s.at t) (up := up) rfl accepted on (peerFrame (s.at t) e.peer (envelope 1 e.key.seq (responseItems 0 e1.items)))
    rw [words] at sent
    have is : sendAnswer (s.at t) e1 = ethSend (s.at t) up (peerFrame (s.at t) e.peer (envelope 1 e.key.seq (responseItems 0 e1.items))) := by
      unfold sendAnswer
      rw [show e1.key.uplink = up from mine]
    rw [words] at is
    rw [is]
    exact SentOn.settle sent

/-- A repeat of a request draws the kept answer (R474). -/
theorem completes_envelope_again {items : List (List Word)} {e : EnvEntry} (on : uplinkOn s up = true) (udp : p.udp = none ∨ hstIp s ≠ 0)
    (passes : datagramCause s up p.udp.isSome true ws = none) (cut : itemsOf ws 0 = some items)
    (known : envFind (s.at t) (envKey up p (wAt ws 1)) = some e) : Completes (.envelopeRequest up p none true ws t) s fun u =>
      u.reg HST_DUPENV = bumpW (s.reg HST_DUPENV) 1 ∧ u.brg.opens = s.brg.opens ∧ u.sw = s.sw ∧ u.host.envs = s.host.envs := by
  have row : exec (.envelopeRequest up p none true ws t) s = done ((if e.done then sendAnswer (s.at t) e else s.at t).bump HST_DUPENV) := by
    refine congrArg done ((judged_passes (x := s.at t) on udp passes).trans ?_)
    rw [cut]
    show requestItems (s.at t) up p (wAt ws 1) items = _
    unfold requestItems
    dsimp only
    rw [known]
  have kept : (if e.done then sendAnswer (s.at t) e else s.at t).regs = s.regs ∧ (if e.done then sendAnswer (s.at t) e else s.at t).brg = s.brg ∧
      (if e.done then sendAnswer (s.at t) e else s.at t).sw = s.sw ∧ (if e.done then sendAnswer (s.at t) e else s.at t).host.envs = s.host.envs := by
    unfold sendAnswer ethSend
    split
    · split <;> exact ⟨rfl, rfl, rfl, rfl⟩
    · exact ⟨rfl, rfl, rfl, rfl⟩
  generalize (if e.done then sendAnswer (s.at t) e else s.at t) = y at row kept
  obtain ⟨regs, brg, sw, envs⟩ := kept
  refine completes_done row ⟨?_, ?_, ?_, ?_⟩
  · rw [reg_settle_of_not_closing _ _ (by decide), reg_bump_self, reg_congr regs]
  · rw [settle_brg_opens]; exact congrArg BridgeState.opens brg
  · rw [settle_sw]; exact sw
  · rw [settle_host_envs]; exact envs

/-- The items of a request are issued, and their envelope waits for their completions (R474). -/
theorem completes_envelopeRequest {item : List Word} {tag : Nat} {i : Fin 32} {d : Descriptor} (on : uplinkOn s up = true)
    (udp : p.udp = none ∨ hstIp s ≠ 0) (passes : datagramCause s up p.udp.isSome true ws = none) (cut : itemsOf ws 0 = some [item])
    (new : envFind (s.at t) (envKey up p (wAt ws 1)) = none) (whole : descriptorLen item = some item.length)
    (parsed : parseDescriptor (envEndpoint up) item = d) (at_ : i.val = d.ep) (fine : judge s d = none) (notPosted : d.op.posted = false)
    (notGwr : d.op ≠ .gwr) (notRange : d.op ≠ .range) (free : freeTag s d.ep = some tag) (noneHeld : (vget s.brg.eps i).held = [])
    (mayGo : mustHold (s.at t) i d = false) (rings : RingsUp s) (here : d.dring = s.ringNo) (single : d.dnode < 4000) (ring : s.ringNo < 16)
    (foreign : d.dnode ≠ s.fab.node) : Completes (.envelopeRequest up p none true ws t) s fun u =>
      ⟨envKey up p (wAt ws 1), p, [.waits], false, 0⟩ ∈ u.host.envs ∧
      u.brg.opens = s.brg.opens ++ [⟨d, tag, (vget s.brg.eps i).seq.toNat, 0, [], [], .envelope (envKey up p (wAt ws 1)) 0⟩] ∧
      RequestQueued s u d d.dnode tag (vget s.brg.eps i).seq.toNat := by
  let k := envKey up p (wAt ws 1)
  let x := (s.at t).updHost fun h => { h with envs := h.envs.filter (fun e => decide (e.key ≠ k)) ++ [⟨k, p, [itemStart item], false, 0⟩] }
  have ep : d.ep = envEndpoint up := by rw [← parsed]; rfl
  have other : d.ep ≠ 5 := by rw [ep]; cases up <;> decide
  have waits : itemStart item = .waits := by
    have op : (parseDescriptor 1 item).op = d.op := by rw [← parsed]; rfl
    unfold itemStart
    rw [op, notPosted]
    rfl
  have row : exec (.envelopeRequest up p none true ws t) s = done (issue x d (.envelope k 0)) := by
    refine congrArg done ((judged_passes (x := s.at t) on udp passes).trans ?_)
    rw [cut]
    show requestItems (s.at t) up p (wAt ws 1) [item] = _
    unfold requestItems
    dsimp only
    rw [new]
    exact (issueWords_whole whole _).trans (congrArg (fun d => issue x d (.envelope k 0)) parsed)
  have noWait : sigMustWait x i d = false := sigMustWait_answered notPosted
  have mayGoX : mustHold x i d = false := mayGo
  obtain ⟨opens, -, queued⟩ := issue_open (s := x) (via := .envelope k 0) at_ other fine noneHeld mayGoX noWait notPosted notGwr notRange free rings
    here single ring foreign
  have only := requestOnly_issue (s := x) (via := .envelope k 0) at_ other fine noneHeld mayGoX noWait notPosted notGwr notRange free rings here single
    ring foreign
  refine completes_done row ⟨?_, ?_, queued⟩
  · rw [settle_host_envs, only]
    show _ ∈ s.host.envs.filter _ ++ [(⟨k, p, [itemStart item], false, 0⟩ : EnvEntry)]
    rw [waits]
    exact List.mem_append_right _ List.mem_cons_self
  · rw [opens, expectedOf_single notGwr notRange]
    rfl


/-! Relayed frames (R195, R197, R476). -/

/-- A frame for another node that the switch takes leaves for the ring (R142, R163). -/
theorem switchInput_accepts {x : State} {i : Fin 20} {ep : Nat} {f : Frame} (joints : Nat) (takes : accepts x i ep f = true)
    (quiet : x.reg SWQ_SMP_N = 0) (foreign : f.dnode ≠ x.fab.node) : switchInput x i ep f none joints = sendFrame x i.val ep f none joints := by
  unfold accepts at takes
  simp only [Bool.and_eq_true, Bool.not_eq_true', Option.isNone_iff_eq_none] at takes
  obtain ⟨⟨free, open_⟩, room⟩ := takes
  have plain : sample x false i f = x := if_pos (.inl (by rw [quiet]; rfl))
  have other : forSelf x f = false := by
    unfold forSelf
    rw [decide_eq_false foreign, Bool.and_false]
  unfold switchInput
  rw [free, open_, if_neg (by decide), room, plain]
  exact if_neg (by rw [other]; decide)

theorem envelopeRelay_row {item : List Word} (on : uplinkOn s up = true) (udp : p.udp = none ∨ hstIp s ≠ 0)
    (passes : datagramCause s up p.udp.isSome true ws = none) (cut : itemsOf ws 3 = some [item]) :
    exec (.envelopeRelay up p none true ws t) s = done (relayItem (s.at t) up (relayDepth 5 ws) ws item) := by
  refine congrArg done ((judged_passes (x := s.at t) on udp passes).trans ?_)
  rw [cut]
  rfl

variable {item : List Word} {f : Frame} {depth : Nat}

theorem relayItem_here {x : State} (is : frameOf (innermost 5 item) = f) (here : f.dring = x.ringNo) :
    relayItem x up depth ws item = switchInput x (uplinkPort up) (f.sub % 32) f none depth := by
  subst is
  exact if_pos here

theorem relayItem_refused {x : State} (is : frameOf (innermost 5 item) = f) (away : f.dring ≠ x.ringNo) (deep : 3 ≤ depth) :
    relayItem x up depth ws item = crossRefused x f := by
  subst is
  exact (if_neg away).trans (if_pos (.inl deep))

/-- The frame that takes a relayed envelope to an exit (R195). -/
def relayFrame (x : State) (f : Frame) (ws : List Word) : Frame :=
  Frame.mk' (if f.cls = 0 ∧ 32 < ws.length then 1 else f.cls) 3 0 (putFld x.ringNo 15 12 ||| putFld x.fab.node 11 0) x.srcWord 0 ws

theorem relayItem_exit {x : State} (is : frameOf (innermost 5 item) = f) (away : f.dring ≠ x.ringNo) (shallow : depth < 3)
    (short : ws.length ≤ 512) (exit_ : exitNode x f.dring = some x.fab.node) : relayItem x up depth ws item =
      submit x (jointPort x) ⟨relayFrame x f ws, (uplinkPort up).val, x.now, 0, none, depth⟩ := by
  subst is
  unfold relayItem
  dsimp only
  rw [if_neg away, if_neg (show ¬ (3 ≤ depth ∨ 512 < ws.length) by omega), exit_]
  exact if_pos rfl

theorem completes_relay_here (on : uplinkOn s up = true) (udp : p.udp = none ∨ hstIp s ≠ 0)
    (passes : datagramCause s up p.udp.isSome true ws = none) (cut : itemsOf ws 3 = some [item]) (is : frameOf (innermost 5 item) = f)
    (here : f.dring = s.ringNo) (single : f.dnode < 4000) (foreign : f.dnode ≠ s.fab.node) (rings : RingsUp s) (quiet : s.reg SWQ_SMP_N = 0)
    (takes : accepts s (uplinkPort up) (f.sub % 32) f = true) (fits : f.cls = 0 → f.payload.length ≤ 32) :
    Completes (.envelopeRelay up p none true ws t) s fun u => QueuedOnRing s u (uplinkPort up).val (relayDepth 5 ws) f := by
  have row := envelopeRelay_row (t := t) on udp passes cut
  rw [relayItem_here (x := s.at t) is here, switchInput_accepts (x := s.at t) _ takes quiet foreign] at row
  refine completes_done row (queuedOnRing_of_joins (x := s.at t) (joins_sendFrame here single ?_ rings) rfl)
  rintro ⟨urgent, long⟩
  have := fits urgent
  omega

theorem completes_relay_refused (on : uplinkOn s up = true) (udp : p.udp = none ∨ hstIp s ≠ 0)
    (passes : datagramCause s up p.udp.isSome true ws = none) (cut : itemsOf ws 3 = some [item]) (is : frameOf (innermost 5 item) = f)
    (away : f.dring ≠ s.ringNo) (deep : 3 ≤ relayDepth 5 ws) (notTxn : f.type ≠ 0) :
    Completes (.envelopeRelay up p none true ws t) s fun u =>
      u.reg FAB_NOROUTE = bumpW (s.reg FAB_NOROUTE) 1 ∧ HubReported u Src.noRoute f.dring ∧ u.sw = s.sw := by
  have row := envelopeRelay_row (t := t) on udp passes cut
  have refused : crossRefused (s.at t) f = (((s.at t).bump FAB_NOROUTE).evt FAB_EVT 6).raise Src.noRoute f.dring := if_pos (.inl notTxn)
  rw [relayItem_refused (x := s.at t) is away deep, refused] at row
  refine completes_done row ⟨?_, (hubReported_raise _ (by decide) _).settle, ?_⟩
  · rw [reg_settle_of_not_closing _ _ (by decide), reg_congr (raise_regs _ _ _), reg_evt_ne _ _ (by decide), reg_bump_self]
    rfl
  · rw [settle_sw, raise_sw]
    rfl

theorem completes_relay_exit (on : uplinkOn s up = true) (udp : p.udp = none ∨ hstIp s ≠ 0)
    (passes : datagramCause s up p.udp.isSome true ws = none) (cut : itemsOf ws 3 = some [item]) (is : frameOf (innermost 5 item) = f)
    (away : f.dring ≠ s.ringNo) (shallow : relayDepth 5 ws < 3) (short : ws.length ≤ 512) (exit_ : exitNode s f.dring = some s.fab.node)
    (open_ : portOff s (jointPort s) = false) : Completes (.envelopeRelay up p none true ws t) s fun u =>
      u.queue (jointPort s) (if f.cls = 0 ∧ 32 < ws.length then 1 else f.cls) =
        s.queue (jointPort s) (if f.cls = 0 ∧ 32 < ws.length then 1 else f.cls) ++
          [⟨relayFrame s f ws, (uplinkPort up).val, u.now, 0, none, relayDepth 5 ws⟩] := by
  have row := envelopeRelay_row (t := t) on udp passes cut
  have cls : (if f.cls = 0 ∧ 32 < ws.length then 1 else f.cls) < 4 := by
    have : f.cls < 4 := Nat.mod_lt _ (by decide)
    split <;> omega
  have clsIs : (relayFrame (s.at t) f ws).cls = if f.cls = 0 ∧ 32 < ws.length then 1 else f.cls := by
    unfold relayFrame
    rw [cls_mk, Nat.mod_eq_of_lt cls]
  have fits : ¬ ((relayFrame (s.at t) f ws).cls = 0 ∧ (relayFrame (s.at t) f ws).payload.length > 32) := by
    rw [clsIs]
    rintro ⟨urgent, long⟩
    have long : ws.length > 32 := long
    split at urgent <;> omega
  rw [relayItem_exit (x := s.at t) is away shallow short exit_, submit_of_open (s := s.at t) (by exact fits) (by exact open_)] at row
  refine completes_done row ?_
  rw [queue_congr (settle_sw _), queue_congr (enqueue_sw _ _ _ false), queue_updQueue, if_pos ⟨rfl, by rw [clsIs]⟩, clsIs, settle_now,
    show (enqueue (s.at t) _ _ false).now = (s.at t).now by rw [switchOnly_enqueue (s.at t)]]
  rfl

end

/-- Settles O53, envelope by envelope. -/
theorem envelopes : Obligations.Envelopes := by
  unfold Obligations.Envelopes
  refine fun up p ws t s => ⟨fun on udp => ⟨fun low => completes_envelope_low on udp low,
    fun cause at_ fails long version kind accepted => completes_envelope_nak on udp fails long version kind accepted,
    fun passes => ⟨?_, fun items e cut known => completes_envelope_again on udp passes cut known, fun item cut => ⟨?_, ?_, ?_⟩, ?_⟩⟩, ?_, ?_⟩
  · intro item tag cut new whole d i at_ fine notPosted notGwr notRange free noneHeld mayGo rings here single ring foreign
    exact completes_envelopeRequest on udp passes cut new whole rfl at_ fine notPosted notGwr notRange free noneHeld mayGo rings here single ring
      foreign
  · intro here single foreign rings quiet takes fits
    exact completes_relay_here on udp passes cut rfl here single foreign rings quiet takes fits
  · exact fun away deep notTxn => completes_relay_refused on udp passes cut rfl away deep notTxn
  · exact fun away shallow short exit_ open_ => completes_relay_exit on udp passes cut rfl away shallow short exit_ open_
  · intro item n k rest items prompting host waits single _ numbered ring rings
    exact completes_envelopeLibrary on udp passes items prompting host waits single numbered ring rings
  · exact fun e c only mine open_ items => completes_envelopeResponse only mine open_ items
  · exact fun n k rest waits single _ numbered ring rings => completes_libraryReplyTimeout waits single numbered ring rings

end Sys2Proof.Machine
end

section
set_option Elab.async false
/-! SUPPORT. What the operations of links, switch, clusters, CAN controllers and cores leave of the fault collectors: they only hand them
reports (R416, R417). -/

namespace Sys2Proof.Machine

/-- Between two states the collectors have been handed reports, and nothing else of them has changed. -/
def OnlyReports (s u : State) : Prop := ∀ c, ∃ more, vget u.flts c = { vget s.flts c with inbox := (vget s.flts c).inbox ++ more }

theorem OnlyReports.of_flts {s u : State} (h : u.flts = s.flts) : OnlyReports s u := fun c => ⟨[], by rw [h, List.append_nil]⟩

theorem OnlyReports.trans {s t u : State} (h : OnlyReports s t) (g : OnlyReports t u) : OnlyReports s u := by
  intro c
  obtain ⟨a, ha⟩ := h c
  obtain ⟨b, hb⟩ := g c
  exact ⟨a ++ b, by rw [hb, ha, List.append_assoc]⟩

theorem onlyReports_raiseCore (s : State) (c : Core) (a d : Nat) : OnlyReports s (s.raiseCore c a d) := by
  intro k
  simp only [State.raiseCore, State.updFlt, vget_vupd]
  split
  · rename_i same
    exact ⟨[⟨a, d, s.ring.toNat, false, false⟩], by rw [same]⟩
  · exact ⟨[], by rw [List.append_nil]⟩

theorem onlyReports_raise (s : State) (a d : Nat) : OnlyReports s (s.raise a d) := by
  unfold State.raise
  split
  · exact .of_flts (by split <;> rfl)
  · exact (onlyReports_raiseCore _ _ _ _).trans (onlyReports_raiseCore _ _ _ _)

theorem OnlyReports.raise {s u : State} (h : OnlyReports s u) (a d : Nat) : OnlyReports s (u.raise a d) := h.trans (onlyReports_raise _ _ _)

theorem OnlyReports.congr {s t u : State} (h : OnlyReports s t) (same : u.flts = t.flts) : OnlyReports s u := h.trans (.of_flts same)

theorem OnlyReports.after {s t u : State} (h : OnlyReports t u) (same : t.flts = s.flts) : OnlyReports s u := (OnlyReports.of_flts same).trans h

/-- Reports of a state with the collectors of another. -/
theorem onlyReports_raise_of {s t : State} (same : t.flts = s.flts) (a d : Nat) : OnlyReports s (t.raise a d) := (onlyReports_raise _ _ _).after same

theorem onlyReports_ite {s x y : State} {c : Prop} [Decidable c] (h : OnlyReports s x) (g : OnlyReports s y) :
    OnlyReports s (if c then x else y) := by
  split
  · exact h
  · exact g

theorem onlyReports_each {α : Type} {f : State → α → State} (h : ∀ s x, OnlyReports s (f s x)) :
    ∀ (l : List α) (s : State), OnlyReports s (s.each l f)
  | [], _ => .of_flts rfl
  | x :: l, s => (h s x).trans (onlyReports_each h l (f s x))

theorem onlyReports_trace (s : State) (i : Fin 14) (k r d : Nat) : OnlyReports s (s.trace i k r d) := by
  obtain ⟨buffers, h | h | h⟩ := trace_cases s i k r d <;> rw [h]
  · exact .of_flts rfl
  · exact .of_flts rfl
  · exact onlyReports_raise_of (by rfl) _ _

theorem OnlyReports.trace {s u : State} (h : OnlyReports s u) (i : Fin 14) (k r d : Nat) : OnlyReports s (u.trace i k r d) :=
  h.trans (onlyReports_trace _ _ _ _ _)

theorem onlyReports_traceAll (s : State) (kind : Nat) : OnlyReports s (s.traceAll kind) :=
  onlyReports_each (fun x i => onlyReports_trace x i kind 0 0) _ s

/-- What a collector holds but the reports that wait at it. -/
theorem OnlyReports.flt {s u : State} (h : OnlyReports s u) (c : Core) :
    (u.flt c).handling = (s.flt c).handling ∧ (u.flt c).log = (s.flt c).log ∧ (u.flt c).srcs = (s.flt c).srcs ∧
    (u.flt c).nextId = (s.flt c).nextId ∧ (u.flt c).waiting = (s.flt c).waiting ∧ (u.flt c).inject = (s.flt c).inject := by
  obtain ⟨more, is⟩ := h c.ix
  unfold State.flt
  rw [is]
  exact ⟨rfl, rfl, rfl, rfl, rfl, rfl⟩

/-! Links (R44-R48, R86, R97). -/

theorem onlyReports_headBegin (s : State) (r : Ring) : OnlyReports s (headBegin s r) := by
  unfold headBegin
  dsimp only
  split
  · exact onlyReports_raise_of (by rfl) _ _
  · exact .of_flts rfl

theorem onlyReports_lineRole (s : State) (r : Ring) : OnlyReports s (lineRole s r) := by
  unfold lineRole
  dsimp only
  split
  · split
    · exact .of_flts rfl
    · exact (onlyReports_headBegin _ _).after (by rfl)
  · split <;> exact .of_flts rfl

theorem damp_flts (s : State) (p : Port) : (damp s p).flts = s.flts := by
  unfold damp
  dsimp only
  split
  · rfl
  · split <;> rfl

theorem onlyReports_portDown (s : State) (p : Port) : OnlyReports s (portDown s p) := by
  unfold portDown
  extract_lets l s0
  split
  · exact .of_flts rfl
  · rename_i s2 _
    have told : OnlyReports s s2 := onlyReports_raise_of (by simp [s0, State.linkEvt]) _ _
    have damped : OnlyReports s (damp (cutStream s2 p.inRing) p) := (told.congr (u := cutStream s2 p.inRing) rfl).congr (damp_flts _ _)
    have lined : OnlyReports s (lineRoles (damp (cutStream s2 p.inRing) p)) :=
      (damped.trans (onlyReports_lineRole _ .a)).trans (onlyReports_lineRole _ .b)
    exact lined.congr rfl

/-! The switch (R166, R167, R214, R219). -/

theorem onlyReports_posLoss (s : State) (ep : Nat) : OnlyReports s (posLoss s ep) := by
  unfold posLoss
  split <;> exact .of_flts rfl

theorem onlyReports_repinFlow (s : State) (f : Flow) : OnlyReports s (repinFlow s f) := by
  unfold repinFlow
  dsimp only
  split
  · rw [if_neg Bool.false_ne_true]
    exact .of_flts ((bump_flts _ _).trans (updSw_flts _ _))
  · split
    · refine OnlyReports.raise (OnlyReports.after (onlyReports_posLoss _ _) ?_) _ _
      exact (bump_flts _ _).trans (updSw_flts _ _)
    · exact .of_flts ((bump_flts _ _).trans (updSw_flts _ _))

theorem moveQueue_flts (s : State) (r : Ring) (keep : QEntry → Bool) (cls : Nat) : (moveQueue s r keep cls).flts = s.flts :=
  (updSw_flts _ _).trans (updSw_flts _ _)

theorem onlyReports_repinRing (s : State) (r : Ring) : OnlyReports s (repinRing s r) := by
  unfold repinRing
  dsimp only
  have both (keep : QEntry → Bool) (fs : List Flow) : OnlyReports s ((s.each (List.range 4) fun s c => moveQueue s r keep c).each fs repinFlow) :=
    (onlyReports_each (fun x c => .of_flts (moveQueue_flts _ _ _ _)) _ s).trans (onlyReports_each onlyReports_repinFlow _ _)
  split
  · exact both _ _
  · exact (both _ _).congr (evt_flts _ _ _)

theorem giveCompletion_flts (s : State) (via : ReqVia) (c : Completion) : (giveCompletion s via c).flts = s.flts := by
  cases via with
  | conduit n q =>
    unfold giveCompletion
    dsimp only
    split
    · exact (barReady_flts _ _ _ _).trans (updConduit_flts _ _ _ _)
    · rfl
  | envelope key i => exact updHost_flts _ _
  | dap =>
    unfold giveCompletion
    dsimp only
    split
    · exact updDbg_flts _ _
    · rfl
  | plain =>
    unfold giveCompletion
    dsimp only
    split
    · exact updHost_flts _ _
    · exact updBrg_flts _ _

theorem openEnd_flts (s : State) (o : OpenReq) (status : Nat) (data : List Word) : (openEnd s o status data).flts = s.flts :=
  giveCompletion_flts _ _ _

theorem answerAdd_flts (s : State) (o : OpenReq) (node status : Nat) : (answerAdd s o node status).flts = s.flts := by
  unfold answerAdd
  extract_lets o1 s1
  split
  · exact openEnd_flts _ _ _ _
  · rfl

theorem postedGone_flts (s : State) (ep : Nat) (dest : Word) : (postedGone s ep dest).flts = s.flts := by
  unfold postedGone
  split <;> rfl

theorem onlyReports_requestRetired (s : State) (o : Origin) (dest : Word) (status : Nat) : OnlyReports s (requestRetired s o dest status) := by
  unfold requestRetired
  dsimp only
  split
  · exact .of_flts rfl
  · split
    · exact onlyReports_raise_of ((evt_flts _ _ _).trans ((bump_flts _ _).trans (postedGone_flts _ _ _))) _ _
    · split
      · exact .of_flts rfl
      · split
        · exact .of_flts (answerAdd_flts _ _ _ _)
        · exact .of_flts (openEnd_flts _ _ _ _)

theorem onlyReports_retire (s : State) (e : QEntry) (why : Retire) (port : Nat) : OnlyReports s (retire s e why port) := by
  unfold retire
  extract_lets s1
  have counted : OnlyReports s s1 := by
    cases why with
    | ecc => exact .of_flts rfl
    | _ => exact onlyReports_raise_of (by rfl) _ _
  split
  · exact counted
  · exact counted.trans (onlyReports_requestRetired _ _ _ _)

theorem recut_flts (s : State) : (recut s).flts = s.flts := updSw_flts _ _

/-- A port that goes down, its flows re-pinned where it is a ring's (R166, R167). -/
def flushRepin (s : State) (p : Fin 20) : State :=
  match p.val with
  | 0 => repinRing (s.evt SWQ_EVT 15) .a
  | 1 => repinRing (s.evt SWQ_EVT 15) .b
  | _ => s.evt SWQ_EVT 15

/-- Its queues emptied (R167). -/
def flushQueues (s : State) (p : Fin 20) : State :=
  (flushRepin s p).each (List.range 4) fun x c =>
    ((flushRepin s p).queue p c).foldl (fun y e =>
      if decide (p.val < 2) && !portOff s (if p.val = 0 then 1 else 0) && hasTwin (flushRepin s p) e then
        (match e.origin with
          | none => y
          | some o => postedGone y o.ep e.frame.w1)
      else retire y e .portDown p.val) (x.updQueue p c fun _ => [])

theorem portFlush_eq (s : State) (p : Fin 20) : portFlush s p =
    recut ((flushQueues s p).each ((flushQueues s p).brg.opens.filter fun o => portEndpoint (flushQueues s p) p o.desc.ep)
      fun s o => openEnd s o stPORT_DOWN []) := rfl

theorem onlyReports_flushRepin (s : State) (p : Fin 20) : OnlyReports s (flushRepin s p) := by
  unfold flushRepin
  split
  · exact (onlyReports_repinRing _ .a).after (evt_flts _ _ _)
  · exact (onlyReports_repinRing _ .b).after (evt_flts _ _ _)
  · exact .of_flts (evt_flts _ _ _)

theorem onlyReports_flushQueues (s : State) (p : Fin 20) : OnlyReports s (flushQueues s p) := by
  have repinned := onlyReports_flushRepin s p
  unfold flushQueues
  generalize flushRepin s p = s1 at repinned
  refine repinned.trans (onlyReports_each (fun x c => ?_) _ _)
  refine OnlyReports.after (onlyReports_each (fun y e => ?_) (s1.queue p c) (x.updQueue p c fun _ => [])) (updSw_flts _ _)
  refine onlyReports_ite ?_ (onlyReports_retire _ _ _ _)
  split
  · exact .of_flts rfl
  · exact .of_flts (postedGone_flts _ _ _)

theorem onlyReports_portFlush (s : State) (p : Fin 20) : OnlyReports s (portFlush s p) := by
  rw [portFlush_eq]
  refine OnlyReports.congr ?_ (recut_flts _)
  exact (onlyReports_flushQueues s p).trans (onlyReports_each (fun x o => .of_flts (openEnd_flts _ _ _ _)) _ _)

/-! Clusters (R239, R267-R271). -/

theorem storeWords_flts (l : List Word) : ∀ (s : State) (a : Nat), (s.storeWords a l).flts = s.flts := by
  induction l with
  | nil => exact fun _ _ => rfl
  | cons v l ih => exact fun s a => ih (s.storeWord a v) (a + 2)

theorem copyWord_flts (s : State) (a b : Nat) : (s.copyWord a b).flts = s.flts := by
  unfold State.copyWord
  dsimp only
  split <;> rfl

theorem migTo_flts (s : State) (n : Fin 12) (e : Fin 14) (a b : Fin 16) (cause : MigCause) : (migTo s n e a b cause).flts = s.flts := by
  unfold migTo
  generalize List.range 4096 = l
  exact (foldl_keeps (fun s : State => s.flts) _ (fun x w => copyWord_flts x _ _) l _).trans (updCl_flts _ _ _)

theorem releaseLock_flts (s : State) (n : Fin 12) (e : Fin 14) : (releaseLock s n e).flts = s.flts := by
  unfold releaseLock
  dsimp only
  split <;> rfl

theorem onlyReports_shedEngine (s : State) (n : Fin 12) (e : Fin 14) : OnlyReports s (shedEngine s n e) := by
  unfold shedEngine
  extract_lets c s1 s2 s3 s4
  have first : s1.flts = s.flts := releaseLock_flts _ _ _
  have second : s2.flts = s1.flts := each_keeps (fun s : State => s.flts) (by exact fun _ _ => rfl) _ _
  have third : s3.flts = s2.flts := each_keeps (fun s : State => s.flts) (by exact fun _ _ => rfl) _ _
  have fourth : s4.flts = s.flts := (show s4.flts = s3.flts from rfl).trans (third.trans (second.trans first))
  exact (onlyReports_raise_of (t := s4.cluEvt n cluSHED) ((evt_flts _ _ _).trans fourth) _ _).trace _ _ _ _

theorem onlyReports_migBegin (s : State) (n : Fin 12) (e : Fin 14) (cause : MigCause) : OnlyReports s (migBegin s n e cause) := by
  unfold migBegin
  extract_lets c
  split
  · exact .of_flts rfl
  split
  · split
    · exact .of_flts rfl
    · split
      · split <;> exact .of_flts rfl
      · exact .of_flts rfl
  split
  · exact .of_flts rfl
  split
  · exact .of_flts (migTo_flts _ _ _ _ _ _)
  split
  · exact .of_flts rfl
  split
  · exact onlyReports_raise_of (by rfl) _ _
  split
  · exact .of_flts rfl
  · exact (onlyReports_shedEngine _ _ _).congr (migTo_flts _ _ _ _ _ _)

theorem onlyReports_offline (s : State) (n : Fin 12) : OnlyReports s (offline s n) := by
  unfold offline
  extract_lets stop s1
  split
  · exact .of_flts rfl
  · have flushed : OnlyReports s (portFlush s1 ⟨8 + n.val, by omega⟩) := (onlyReports_portFlush s1 ⟨8 + n.val, by omega⟩).after (updCl_flts _ _ _)
    exact (flushed.congr (u := (portFlush s1 ⟨8 + n.val, by omega⟩).cluEvt n cluOFFLINE) (evt_flts _ _ _)).raise _ _

theorem onlyReports_sectionLoad (s : State) (n : Fin 12) (g : ClusterCfg) : OnlyReports s (sectionLoad s n g) := by
  unfold sectionLoad
  dsimp only
  have loaded := storeWords_flts g.shared (s.updCl n fun c =>
    { c with cfg := some g, pacers := Vector.replicate 16 .init, conduits := Vector.replicate 16 .init
             windows := Vector.replicate 2 .init, lock := none, broken := none, mig := none, failed := [] }) (sharedBase n.val)
  rw [updCl_flts] at loaded
  generalize State.storeWords _ _ _ = x at loaded
  have pinned : ∀ (l : List (Fin 12)) (y : State),
      (y.each l fun s j => s.updPin (pinOf n j) fun p => if p.raw = p.inner then p else { p with changed := s.now }).flts = y.flts :=
    each_keeps (fun s : State => s.flts) fun _ _ => updPin_flts _ _ _
  refine onlyReports_ite ?_ ?_
  · refine onlyReports_raise_of ?_ _ _
    exact (evt_flts _ _ _).trans ((updCl_flts _ _ _).trans ((pinned _ _).trans ((updCl_flts _ _ _).trans loaded)))
  · exact .of_flts ((updCl_flts _ _ _).trans ((pinned _ _).trans ((updCl_flts _ _ _).trans loaded)))

theorem onlyReports_online (s : State) (n : Fin 12) : OnlyReports s (online s n) := by
  unfold online
  dsimp only
  split
  · exact .of_flts rfl
  split
  · exact .of_flts rfl
  · exact (onlyReports_sectionLoad _ _ _).congr rfl

/-! CAN controllers (R343, R346, R355). -/

theorem canAttemptEnds_flts (s : State) (c : Fin 4) : (canAttemptEnds s c).flts = s.flts := by
  unfold canAttemptEnds
  dsimp only
  split
  · rfl
  · split <;> rfl

theorem onlyReports_canEnable (s : State) (c : Fin 4) : OnlyReports s (canEnable s c) := by
  unfold canEnable
  dsimp only
  split
  · exact .of_flts rfl
  split
  · exact .of_flts rfl
  · exact onlyReports_raise_of (by rfl) _ _

/-! Cores (R390, R395, R405, R409). -/

theorem cutAndRequeue_flts (s : State) (r : Ring) : (cutAndRequeue s r).flts = s.flts :=
  each_keeps (fun s : State => s.flts) (by exact fun _ _ => rfl) _ _

theorem onlyReports_updateFails (s : State) : OnlyReports s (updateFails s) := by
  unfold updateFails
  split
  · exact .of_flts rfl
  dsimp only
  split
  · exact onlyReports_raise_of (by rfl) _ _
  · exact .of_flts rfl

theorem onlyReports_setClaim (s : State) (c : Core) (new : Claim) (cause : ClaimCause) : OnlyReports s (setClaim s c new cause) := by
  unfold setClaim
  extract_lets old s1 s2 eq s3
  have first : (s1.barReady .hf .claim (.claim c new.value)).flts = s.flts :=
    (barReady_flts _ _ _ _).trans ((updLead_flts _ _).trans (updCore_flts _ _ _))
  have second : OnlyReports s s2 := ((onlyReports_trace _ _ _ _ _).after first).trace _ _ _ _
  split
  · exact .of_flts rfl
  split
  · exact .raise (second.congr ((evt_flts _ _ _).trans ((bump_flts _ _).trans (updLead_flts _ _)))) _ _
  · exact second.congr (updLead_flts _ _)

theorem onlyReports_demote (s : State) (c : Core) (cause : ClaimCause) : OnlyReports s (demote s c cause) := by
  unfold demote
  extract_lets s1 s2
  have first : OnlyReports s s1 := by
    refine .of_flts ?_
    show (if s.accepted = some c then cutAndRequeue (cutAndRequeue s .a) .b else s).flts = s.flts
    split
    · rw [cutAndRequeue_flts, cutAndRequeue_flts]
    · rfl
  have second : OnlyReports s s2 := ((first.trans (onlyReports_updateFails _)).trans (onlyReports_setClaim _ _ _ _)).congr rfl
  exact second.congr rfl

end Sys2Proof.Machine
end

section
set_option Elab.async false
/-! SUPPORT. The fault collectors: reports counted, recorded, merged and handled, held states, self-faults, the backlog of the field die,
the read of the log and injection, and the obligation about them (R416-R438). -/

namespace Sys2Proof.Machine

theorem flt_updFlt (s : State) (c d : Core) (f : Collector → Collector) : (s.updFlt c f).flt d = if d = c then f (s.flt d) else s.flt d := by
  simp only [State.flt, State.updFlt, vget_vupd]
  by_cases same : d = c
  · rw [if_pos same, if_pos (congrArg Core.ix same), same]
  · rw [if_neg same, if_neg fun h => same (core_ix_inj.1 h)]

theorem flt_updFlt_self (s : State) (c : Core) (f : Collector → Collector) : (s.updFlt c f).flt c = f (s.flt c) :=
  (flt_updFlt s c c f).trans (if_pos rfl)

theorem flt_congr {s u : State} (h : u.flts = s.flts) (c : Core) : u.flt c = s.flt c := by unfold State.flt; rw [h]

/-! The registers that each collector has for itself (R437). -/

theorem regSel_bumpSel_self (s : State) {a : Nat} (k : Nat) (single : twinCounted a = false) : (s.bumpSel a k).regSel a k = bumpW (s.regSel a k) 1 := by
  have is : s.bumpSel a k = s.setRegSel a k (bumpW (s.regSel a k) 1) := by
    show (s.setRegSel a k (bumpW (s.regSel a k) 1)).countTwin a k 1 = _
    unfold State.countTwin
    rw [single]
    rfl
  rw [is, regSel_setRegSel, if_pos rfl]

theorem KeepsRegs.setRegSel {s x : State} {but : List Nat} (h : KeepsRegs s x but) {b : Nat} (hb : b ∈ but) {k : Nat} (small : k < 65536) (v : Word) :
    KeepsRegs s (x.setRegSel b k v) but := fun a j hj ha =>
  (regSel_setRegSel_ne x k j v small hj fun e : a = b => ha (e ▸ hb)).trans (h a j hj ha)

theorem KeepsRegs.bumpSel {s x : State} {but : List Nat} (h : KeepsRegs s x but) {b : Nat} (hb : b ∈ but) {k : Nat} (small : k < 65536)
    (single : twinCounted b = false) : KeepsRegs s (x.bumpSel b k) but := by
  have is : x.bumpSel b k = x.setRegSel b k (bumpW (x.regSel b k) 1) := by
    show (x.setRegSel b k (bumpW (x.regSel b k) 1)).countTwin b k 1 = _
    unfold State.countTwin
    rw [single]
    rfl
  rw [is]
  exact h.setRegSel hb small _

theorem core_ix_small (c : Core) : c.ix.val < 65536 := by cases c <;> decide

theorem KeepsRegs.fltEvt {s x : State} {but : List Nat} (h : KeepsRegs s x but) (hb : FLT_EVT ∈ but) (c : Core) (i : Nat) :
    KeepsRegs s (x.fltEvt c i) but := h.setRegSel hb (core_ix_small c) _

theorem getLsbD_bitW_true {i : Nat} (low : i < 16) : (bitW true i).getLsbD i = true := by
  rw [getLsbD_bitW true low, decide_eq_true rfl]
  rfl

/-- An event bit of one core's FLT_EVT. -/
def FltEvtSet (s : State) (k : Fin 2) (i : Nat) : Prop := (s.regSel FLT_EVT k.val).getLsbD i = true

theorem fltEvtSet_fltEvt (s : State) (c : Core) {i : Nat} (low : i < 16) : FltEvtSet (s.fltEvt c i) c.ix i := by
  unfold FltEvtSet State.fltEvt
  rw [regSel_setRegSel, if_pos rfl, BitVec.getLsbD_or, getLsbD_bitW_true low, Bool.or_true]


theorem FltEvtSet.congr {s u : State} {k : Fin 2} {i : Nat} (h : FltEvtSet s k i) (same : u.regSel FLT_EVT k.val = s.regSel FLT_EVT k.val) :
    FltEvtSet u k i := by
  unfold FltEvtSet
  rw [same]
  exact h

theorem FltEvtSet.fltEvt {s : State} {k : Fin 2} {i : Nat} (h : FltEvtSet s k i) (c : Core) (j : Nat) : FltEvtSet (s.fltEvt c j) k i := by
  unfold FltEvtSet State.fltEvt
  rw [regSel_setRegSel]
  split
  · rename_i same
    have copy : k.val = c.ix.val := ((regKey_inj _ _ _ _ (by omega) (core_ix_small c)).1 same).2
    rw [BitVec.getLsbD_or, ← copy, show (s.regSel FLT_EVT k.val).getLsbD i = true from h, Bool.true_or]
  · exact h

theorem FltEvtSet.settle {s : State} {k : Fin 2} {i : Nat} (h : FltEvtSet s k i) : ((settle s).regSel FLT_EVT k.val).getLsbD i = true := by
  rw [regSel_settle _ _ _ (by omega) (by decide)]
  exact h

/-! A report is counted (R418, R421, R422). -/

/-- A report counted by source and by class, its time kept, its trace entry made (R418, R516). -/
def tallied (s : State) (c : Core) (r : Report) (times : List Nat) (cls : FltClass) : State :=
  (((s.bumpSel FLT_SRC_CNT (2 * r.src + c.ix.val)).updSrc c r.src fun x => { x with times := times }).bumpSel (classCount cls) c.ix.val).trace
    (coreTrace c) 0x16 c.ix.val cls.code

/-- The registers that what follows the counting may touch. -/
abbrev recordRegs : List Nat := [DBG_TRC_LOST, DBG_EVT, FLT_EVT, FLT_MERGED]

theorem classCount_open (cls : FltClass) : twinCounted (classCount cls) = false ∧ classCount cls ≠ FLT_SRC_CNT ∧ classCount cls ∉ recordRegs ∧
    closingReg (classCount cls) = false := by
  cases cls <;> decide

theorem keepsRegs_trace (s : State) (i : Fin 14) (k r d : Nat) : KeepsRegs s (s.trace i k r d) recordRegs := fun a j hj ha =>
  (traceKeeps_trace s i k r d).regs a j hj fun mem => ha (by
    rcases List.mem_cons.1 mem with rfl | mem
    · exact List.mem_cons_self
    · rw [List.mem_singleton.1 mem]; decide)

theorem trace_dark (s : State) (i : Fin 14) (k r d : Nat) : (s.trace i k r d).dark = s.dark := by
  obtain ⟨bufs, h | h | h⟩ := trace_cases s i k r d
  · rw [h]
  · rw [h]; rfl
  · rw [h]; exact raise_dark _ _ _

theorem trace_now (s : State) (i : Fin 14) (k r d : Nat) : (s.trace i k r d).now = s.now := by
  obtain ⟨bufs, h | h | h⟩ := trace_cases s i k r d
  · rw [h]
  · rw [h]; rfl
  · rw [h]; exact raise_now _ _ _

/-- What of a collector the counting of a report leaves. -/
theorem tallied_keeps (s : State) (c : Core) (r : Report) (times : List Nat) (cls : FltClass) (d : Core) :
    ((tallied s c r times cls).flt d).handling = (s.flt d).handling ∧ ((tallied s c r times cls).flt d).log = (s.flt d).log ∧
    ((tallied s c r times cls).flt d).nextId = (s.flt d).nextId ∧ (tallied s c r times cls).dark = s.dark ∧ (tallied s c r times cls).now = s.now := by
  let x := ((s.bumpSel FLT_SRC_CNT (2 * r.src + c.ix.val)).updSrc c r.src fun x => { x with times := times }).bumpSel (classCount cls) c.ix.val
  obtain ⟨handling, log, -, next, -, -⟩ := (onlyReports_trace x (coreTrace c) 0x16 c.ix.val cls.code).flt d
  have before : (x.flt d).handling = (s.flt d).handling ∧ (x.flt d).log = (s.flt d).log ∧ (x.flt d).nextId = (s.flt d).nextId := by
    have is : x.flt d = ((s.bumpSel FLT_SRC_CNT (2 * r.src + c.ix.val)).updFlt c fun f =>
      { f with srcs := updSrcList r.src (fun x => { x with times := times }) f.srcs }).flt d := rfl
    rw [is, flt_updFlt]
    split <;> exact ⟨rfl, rfl, rfl⟩
  exact ⟨handling.trans before.1, log.trans before.2.1, next.trans before.2.2, trace_dark _ _ _ _ _, trace_now _ _ _ _ _⟩

theorem tallied_counts (s : State) (c : Core) (r : Report) (times : List Nat) (cls : FltClass) (small : r.src < 1024) :
    (tallied s c r times cls).regSel FLT_SRC_CNT (2 * r.src + c.ix.val) = bumpW (s.regSel FLT_SRC_CNT (2 * r.src + c.ix.val)) 1 ∧
    (tallied s c r times cls).regSel (classCount cls) c.ix.val = bumpW (s.regSel (classCount cls) c.ix.val) 1 := by
  obtain ⟨single, other, kept, -⟩ := classCount_open cls
  have sel : 2 * r.src + c.ix.val < 65536 := by have := c.ix.isLt; omega
  have core := core_ix_small c
  let y := (s.bumpSel FLT_SRC_CNT (2 * r.src + c.ix.val)).updSrc c r.src fun x => { x with times := times }
  have traced := keepsRegs_trace (y.bumpSel (classCount cls) c.ix.val) (coreTrace c) 0x16 c.ix.val cls.code
  constructor
  · rw [show (tallied s c r times cls).regSel FLT_SRC_CNT (2 * r.src + c.ix.val) = _ from traced _ _ sel (by decide)]
    rw [((KeepsRegs.of_regs (s := y) rfl [classCount cls]).bumpSel List.mem_cons_self core single) _ _ sel (by simpa using other.symm)]
    exact regSel_bumpSel_self s (a := FLT_SRC_CNT) _ (by decide)
  · rw [show (tallied s c r times cls).regSel (classCount cls) c.ix.val = _ from traced _ _ core kept, regSel_bumpSel_self _ _ single]
    have before : y.regSel (classCount cls) c.ix.val = (s.bumpSel FLT_SRC_CNT (2 * r.src + c.ix.val)).regSel (classCount cls) c.ix.val := rfl
    rw [before, ((KeepsRegs.of_regs (s := s) rfl [FLT_SRC_CNT]).bumpSel (b := FLT_SRC_CNT) List.mem_cons_self sel (by decide)) _ _ core (by simpa using other)]

theorem tallied_regs (s : State) (c : Core) (r : Report) (times : List Nat) (cls : FltClass) (small : r.src < 1024) :
    KeepsRegs s (tallied s c r times cls) [FLT_SRC_CNT, classCount cls, DBG_TRC_LOST, DBG_EVT] := by
  have sel : 2 * r.src + c.ix.val < 65536 := by have := c.ix.isLt; omega
  have first : KeepsRegs s (s.bumpSel FLT_SRC_CNT (2 * r.src + c.ix.val)) [FLT_SRC_CNT, classCount cls, DBG_TRC_LOST, DBG_EVT] :=
    (KeepsRegs.of_regs rfl _).bumpSel List.mem_cons_self sel (by decide)
  have second := (first.trans (.of_regs (x := (s.bumpSel FLT_SRC_CNT (2 * r.src + c.ix.val)).updSrc c r.src fun x => { x with times := times }) rfl _)).bumpSel
    (b := classCount cls) (by simp) (core_ix_small c) (classCount_open cls).1
  refine second.trans fun a k hk ha => (traceKeeps_trace _ _ _ _ _).regs a k hk fun mem => ha ?_
  exact List.mem_cons_of_mem _ (List.mem_cons_of_mem _ mem)

/-- What follows the counting of a report of a class (R423, R424, R430, R435). -/
def collectAs (y : State) (c : Core) (r : Report) (react : Nat) : FltClass → State
  | .note => y
  | .minor => record y c r.src r.detail r.time .minor false r.inj 0
  | .major => (record y c r.src r.detail r.time .major false r.inj react).wakeReason 5
  | .grave =>
    let z := (record y c r.src r.detail r.time .grave false r.inj 0).wakeReason 5
    if r.dry then z else darkEnter z r.src false

/-- A report that does not escalate is handled by its own class (R421, R422, R435). -/
theorem collect_own {s : State} {c : Core} {r : Report}
    (plain : r.dry = true ∨ (escalate s r.src r.time (srcOf (s.flt c) r.src).times).2 = false) :
    ∃ times, collect s c r = collectAs (tallied s c r times (srcClassNow s r.src)) c r (if r.dry then 0 else srcReactNow s r.src) (srcClassNow s r.src) := by
  have judged : ∃ times, (if r.dry then ((srcOf (s.flt c) r.src).times, false) else escalate s r.src r.time (srcOf (s.flt c) r.src).times) = (times, false) := by
    rcases plain with dry | low
    · exact ⟨_, if_pos dry⟩
    · by_cases dry : r.dry = true
      · exact ⟨_, if_pos dry⟩
      · rw [if_neg dry]
        exact ⟨_, Prod.ext rfl low⟩
  obtain ⟨times, judged⟩ := judged
  refine ⟨times, ?_⟩
  unfold collect
  rw [judged]
  dsimp only
  rw [if_neg (by decide)]
  cases srcClassNow s r.src <;> rfl

/-! Entry to the dark-node state (R430, R431). -/

theorem lineRole_dark (s : State) (r : Ring) : (lineRole s r).dark = s.dark := by
  have begun (x : State) : (headBegin x r).dark = x.dark := by
    unfold headBegin
    dsimp only
    split
    · exact raise_dark _ _ _
    · rfl
  unfold lineRole
  dsimp only
  split
  · split
    · rfl
    · exact begun _
  · split <;> rfl

theorem damp_dark (s : State) (p : Port) : (damp s p).dark = s.dark := by
  unfold damp
  dsimp only
  split
  · rfl
  · split <;> rfl

theorem portDown_dark (s : State) (p : Port) : (portDown s p).dark = s.dark := by
  unfold portDown
  dsimp only
  split
  · rfl
  · refine (lineRole_dark _ .b).trans ((lineRole_dark _ .a).trans ((damp_dark _ _).trans ?_))
    exact raise_dark _ _ _

theorem darkHead_dark (s : State) (r : Ring) : (darkHead s r).dark.dark = s.dark.dark := by
  unfold darkHead
  split
  · show (portDown s r.outPort).dark.dark = _
    rw [portDown_dark]
  · rfl

theorem traceAll_dark (s : State) (k : Nat) : (s.traceAll k).dark = s.dark :=
  foldl_keeps (fun s : State => s.dark) _ (fun x i => trace_dark x i k 0 0) (List.finRange 14) s

theorem darkEnter_dark (s : State) (src : Nat) (power : Bool) : (darkEnter s src power).dark.dark = true := by
  unfold darkEnter
  dsimp only
  split
  · assumption
  · rw [traceAll_dark, darkHead_dark, darkHead_dark]
    split <;> rfl

/-! A report is recorded or merged (R423, R424). -/

/-- The event bits of a report that escalates or is injected (R422, R435). -/
def reportEvents (s : State) (c : Core) (esc inj : Bool) : State :=
  let s1 := if esc then s.fltEvt c fltESC else s
  if inj then s1.fltEvt c fltINJ else s1

/-- A report of class MINOR or higher noted at its source, to be handled (R424, R426). -/
def reportNoted (s : State) (c : Core) (src detail : Nat) (cls : FltClass) (esc inj : Bool) (code : Nat) : State :=
  let y := ((reportEvents s c esc inj).updSrc c src fun x => { x with last := s.now }).updFlt c fun f =>
    { f with waiting := f.waiting ++ [⟨src, cls, f.handling.isSome, code, detail⟩] }
  if cls = .major ∨ cls = .grave then y.updDark fun d => { d with lastMajor := s.now } else y

section
variable {s : State} {c : Core} {src detail time : Nat} {cls : FltClass} {esc inj : Bool} {code : Nat}

theorem reportEvents_keeps (s : State) (c : Core) (esc inj : Bool) : reportEvents s c esc inj = { s with regs := (reportEvents s c esc inj).regs } ∧
    KeepsRegs s (reportEvents s c esc inj) [FLT_EVT] := by
  have kept : KeepsRegs s s [FLT_EVT] := .of_regs rfl _
  unfold reportEvents
  cases esc <;> cases inj
  · exact ⟨rfl, kept⟩
  · exact ⟨rfl, kept.fltEvt List.mem_cons_self _ _⟩
  · exact ⟨rfl, kept.fltEvt List.mem_cons_self _ _⟩
  · exact ⟨rfl, (kept.fltEvt List.mem_cons_self _ _).fltEvt List.mem_cons_self _ _⟩

/-- What noting a report leaves of its collector and of the dark-node latch. -/
structure Noted (s u : State) (c : Core) (cls : FltClass) : Prop where
  regs : KeepsRegs s u [FLT_EVT]
  handling : (u.flt c).handling = (s.flt c).handling
  log : (u.flt c).log = (s.flt c).log
  next : (u.flt c).nextId = (s.flt c).nextId
  dark : u.dark.dark = s.dark.dark
  major : cls = .major → u.dark.lastMajor = s.now

theorem noted_reportNoted (s : State) (c : Core) (src detail : Nat) (cls : FltClass) (esc inj : Bool) (code : Nat) :
    Noted s (reportNoted s c src detail cls esc inj code) c cls := by
  obtain ⟨is, kept⟩ := reportEvents_keeps s c esc inj
  unfold reportNoted
  dsimp only
  generalize reportEvents s c esc inj = x at is kept
  have noted : ∃ y, y = (x.updSrc c src fun x => { x with last := s.now }).updFlt c (fun f =>
        { f with waiting := f.waiting ++ [⟨src, cls, f.handling.isSome, code, detail⟩] }) ∧
      (y.flt c).handling = (s.flt c).handling ∧ (y.flt c).log = (s.flt c).log ∧ (y.flt c).nextId = (s.flt c).nextId ∧ y.dark = s.dark ∧
      KeepsRegs s y [FLT_EVT] := by
    refine ⟨_, rfl, ?_, ?_, ?_, ?_, kept⟩
    · rw [flt_updFlt_self, State.updSrc, flt_updFlt_self, is]; rfl
    · rw [flt_updFlt_self, State.updSrc, flt_updFlt_self, is]; rfl
    · rw [flt_updFlt_self, State.updSrc, flt_updFlt_self, is]; rfl
    · show x.dark = _
      rw [is]
  obtain ⟨y, isY, handling, log, next, dark, regs⟩ := noted
  have latch : y.dark.dark = s.dark.dark := by rw [dark]
  rw [← isY]
  split
  · exact ⟨regs, handling, log, next, latch, fun _ => rfl⟩
  · rename_i other
    exact ⟨regs, handling, log, next, latch, fun major => absurd (.inl major) other⟩

/-- The first report of a handling opens a record (R423, R424). -/
theorem record_new (free : (s.flt c).handling = none) : record s c src detail time cls esc inj code =
    ((logAdd (reportNoted s c src detail cls esc inj code) c ⟨(s.flt c).nextId, cls, esc, inj, src, time, 0, 0, 0, detail⟩).fltEvt c
      (classEvt cls)).updFlt c fun g => { g with handling := some (s.flt c).nextId } := by
  unfold record
  dsimp only
  rw [free]
  rfl

/-- A report that comes while a record is handled is merged into it (R424). -/
def mergedInto (id src : Nat) (cls : FltClass) (r : FltRecord) : FltRecord :=
  if r.id = id then { r with merges := min 63 (r.merges + 1), lastSrc := src, cls := classMax r.cls cls } else r

theorem record_merged {id : Nat} (busy : (s.flt c).handling = some id) : record s c src detail time cls esc inj code =
    (let y := (((reportNoted s c src detail cls esc inj code).updFlt c fun f =>
        { f with log := f.log.map (mergedInto id src cls) }).bumpSel FLT_MERGED c.ix.val).fltEvt c fltMERGE
     if cls = .grave then y.fltEvt c fltGRAVE else y) := by
  unfold record
  dsimp only
  rw [busy]
  rfl


/-- A record opened for a report (R423, R424). -/
structure Opened (s u : State) (c : Core) (cls : FltClass) (record : FltRecord) : Prop where
  regs : KeepsRegs s u [FLT_EVT]
  log : (u.flt c).log = (s.flt c).log ++ [record]
  handling : (u.flt c).handling = some (s.flt c).nextId
  evt : FltEvtSet u c.ix (classEvt cls)
  dark : u.dark.dark = s.dark.dark
  major : cls = .major → u.dark.lastMajor = s.now

theorem classEvt_low (cls : FltClass) : classEvt cls < 16 := by cases cls <;> decide

theorem opened_record (free : (s.flt c).handling = none) (room : (s.flt c).log.length < 32) :
    Opened s (record s c src detail time cls esc inj code) c cls ⟨(s.flt c).nextId, cls, esc, inj, src, time, 0, 0, 0, detail⟩ := by
  have noted := noted_reportNoted s c src detail cls esc inj code
  rw [record_new free]
  generalize reportNoted s c src detail cls esc inj code = y at noted
  have roomY : (y.flt c).log.length < 32 := by rw [noted.log]; exact room
  rw [logAdd, if_pos roomY]
  refine ⟨noted.regs.trans (((KeepsRegs.of_regs (s := y) rfl _).fltEvt List.mem_cons_self c _).trans (.of_regs rfl _)), ?_, ?_, ?_, noted.dark, noted.major⟩
  · rw [flt_updFlt_self]
    show ((State.updFlt y c _).flt c).log = _
    rw [flt_updFlt_self]
    show (y.flt c).log ++ _ = _
    rw [noted.log]
  · rw [flt_updFlt_self]
  · exact (fltEvtSet_fltEvt _ c (classEvt_low cls)).congr rfl

theorem record_dark (s : State) (c : Core) (src detail time : Nat) (cls : FltClass) (esc inj : Bool) (code : Nat) :
    (record s c src detail time cls esc inj code).dark.dark = s.dark.dark := by
  have noted := noted_reportNoted s c src detail cls esc inj code
  cases busy : (s.flt c).handling with
  | none =>
    rw [record_new busy, ← noted.dark, logAdd]
    split <;> rfl
  | some id =>
    rw [record_merged busy, ← noted.dark]
    dsimp only
    split <;> rfl

/-- A report merged into the record that is handled (R424). -/
theorem merged_record {id : Nat} (busy : (s.flt c).handling = some id) (notGrave : cls ≠ .grave) :
    KeepsRegs s (record s c src detail time cls esc inj code) [FLT_EVT, FLT_MERGED] ∧
    ((record s c src detail time cls esc inj code).flt c).log.length = (s.flt c).log.length ∧
    ((record s c src detail time cls esc inj code).flt c).handling = some id ∧
    (record s c src detail time cls esc inj code).regSel FLT_MERGED c.ix.val = bumpW (s.regSel FLT_MERGED c.ix.val) 1 := by
  have noted := noted_reportNoted s c src detail cls esc inj code
  have core := core_ix_small c
  rw [record_merged busy]
  dsimp only
  rw [if_neg notGrave]
  generalize reportNoted s c src detail cls esc inj code = y at noted
  have kept : KeepsRegs s y [FLT_EVT, FLT_MERGED] := fun a k hk ha => noted.regs a k hk fun mem => ha (List.mem_cons.2 (.inl (List.mem_singleton.1 mem)))
  refine ⟨?_, ?_, ?_, ?_⟩
  · exact ((kept.trans (.of_regs rfl _)).bumpSel (b := FLT_MERGED) (by simp) core (by decide)).fltEvt List.mem_cons_self _ _
  · show ((State.updFlt y c _).flt c).log.length = _
    rw [flt_updFlt_self]
    show ((y.flt c).log.map _).length = _
    rw [List.length_map, noted.log]
  · show ((State.updFlt y c _).flt c).handling = _
    rw [flt_updFlt_self]
    show (y.flt c).handling = _
    rw [noted.handling, busy]
  · rw [((KeepsRegs.of_regs (s := _) rfl [FLT_EVT]).fltEvt List.mem_cons_self c fltMERGE) FLT_MERGED _ core (by decide),
      regSel_bumpSel_self (a := FLT_MERGED) _ _ (by decide)]
    exact congrArg (bumpW · 1) (noted.regs FLT_MERGED _ core (by decide))

/-! Rows of a collector's report (R418-R424, R430, R435). -/

/-- Its report no longer waits. -/
def taken (s : State) (c : Core) (rest : List Report) : State := s.updFlt c fun f => { f with inbox := rest }

theorem taken_flt (s : State) (c : Core) (rest : List Report) : ((taken s c rest).flt c) = { s.flt c with inbox := rest } := flt_updFlt_self _ _ _

theorem collectorReport_row {r : Report} {rest : List Report} {t : Nat} (waits : (s.flt c).inbox = r :: rest) :
    exec (.collectorReport c t) s = done (collect (taken (s.at t) c rest) c r) := by
  refine congrArg done ?_
  unfold collectorReport
  rw [show ((s.at t).flt c).inbox = r :: rest from waits]
  rfl

theorem wakeReason_keeps (s : State) (k : Nat) : (s.wakeReason k).regs = s.regs ∧ (s.wakeReason k).flts = s.flts ∧ (s.wakeReason k).dark = s.dark := by
  unfold State.wakeReason
  split <;> exact ⟨rfl, rfl, rfl⟩

end

/-- Its counts of a source and of a class. -/
def Counted (s u : State) (c : Core) (src reg : Nat) : Prop :=
  u.regSel FLT_SRC_CNT (2 * src + c.ix.val) = bumpW (s.regSel FLT_SRC_CNT (2 * src + c.ix.val)) 1 ∧
  u.regSel reg c.ix.val = bumpW (s.regSel reg c.ix.val) 1

theorem Counted.keep {s x u : State} {c : Core} {src : Nat} {cls : FltClass} (h : Counted s x c src (classCount cls)) (small : src < 1024)
    {but : List Nat} (kept : KeepsRegs x u but) (sub : ∀ a ∈ but, a ∈ recordRegs) : Counted s u c src (classCount cls) := by
  obtain ⟨-, -, open_, -⟩ := classCount_open cls
  have sel : 2 * src + c.ix.val < 65536 := by have := c.ix.isLt; omega
  exact ⟨(kept _ _ sel fun mem => absurd (sub _ mem) (by decide)).trans h.1, (kept _ _ (core_ix_small c) fun mem => open_ (sub _ mem)).trans h.2⟩

theorem Counted.settle {s x : State} {c : Core} {src : Nat} {cls : FltClass} (h : Counted s x c src (classCount cls)) (small : src < 1024) :
    Counted s (settle x) c src (classCount cls) := by
  obtain ⟨-, -, -, open_⟩ := classCount_open cls
  have sel : 2 * src + c.ix.val < 65536 := by have := c.ix.isLt; omega
  exact ⟨(regSel_settle _ _ _ sel (by decide)).trans h.1, (regSel_settle _ _ _ (core_ix_small c) open_).trans h.2⟩

section
variable {s : State} {c : Core} {r : Report} {rest : List Report} {t : Nat}

/-- The row of a report that does not escalate. -/
theorem completes_collectorReport {p : State → Prop} {cls : FltClass} (waits : (s.flt c).inbox = r :: rest)
    (plain : r.dry = true ∨ (escalate s r.src r.time (srcOf (s.flt c) r.src).times).2 = false) (is : srcClassNow s r.src = cls)
    (h : ∀ times react, p (settle (collectAs (tallied (taken (s.at t) c rest) c r times cls) c r react cls))) :
    Completes (.collectorReport c t) s p := by
  have flt := taken_flt (s.at t) c rest
  have plainX : r.dry = true ∨ (escalate (taken (s.at t) c rest) r.src r.time (srcOf ((taken (s.at t) c rest).flt c) r.src).times).2 = false := by
    refine plain.imp_right fun low => ?_
    rw [flt]
    exact low
  obtain ⟨times, own⟩ := collect_own plainX
  have clsX : srcClassNow (taken (s.at t) c rest) r.src = cls := is
  rw [clsX] at own
  exact completes_done ((collectorReport_row waits).trans (congrArg done own)) (h _ _)

/-- What the counting leaves of the collector that counts, in terms of the state before. -/
theorem tallied_taken (s : State) (c : Core) (r : Report) (rest : List Report) (times : List Nat) (cls : FltClass) (t : Nat) :
    ((tallied (taken (s.at t) c rest) c r times cls).flt c).handling = (s.flt c).handling ∧
    ((tallied (taken (s.at t) c rest) c r times cls).flt c).log = (s.flt c).log ∧
    ((tallied (taken (s.at t) c rest) c r times cls).flt c).nextId = (s.flt c).nextId ∧
    (tallied (taken (s.at t) c rest) c r times cls).dark = s.dark ∧ (tallied (taken (s.at t) c rest) c r times cls).now = max s.now t ∧
    (r.src < 1024 → Counted s (tallied (taken (s.at t) c rest) c r times cls) c r.src (classCount cls)) := by
  obtain ⟨handling, log, next, dark, now⟩ := tallied_keeps (taken (s.at t) c rest) c r times cls c
  rw [taken_flt] at handling log next
  exact ⟨handling, log, next, dark, now, tallied_counts (taken (s.at t) c rest) c r times cls⟩

section
variable (waits : (s.flt c).inbox = r :: rest) (plain : r.dry = true ∨ (escalate s r.src r.time (srcOf (s.flt c) r.src).times).2 = false)
include waits plain

theorem completes_note (small : r.src < 1024) (is : srcClassNow s r.src = .note) : Completes (.collectorReport c t) s fun u =>
    Counted s u c r.src FLT_NOTE ∧ (u.flt c).log = (s.flt c).log := by
  refine completes_collectorReport waits plain is fun times _ => ?_
  obtain ⟨-, log, -, -, -, counted⟩ := tallied_taken s c r rest times .note t
  exact ⟨(counted small).settle small, by rw [flt_congr (settle_flts _)]; exact log⟩

theorem completes_minor (small : r.src < 1024) (is : srcClassNow s r.src = .minor) (free : (s.flt c).handling = none)
    (room : (s.flt c).log.length < 32) : Completes (.collectorReport c t) s fun u =>
    Counted s u c r.src FLT_MINOR ∧
    ((u.flt c).log = (s.flt c).log ++ [⟨(s.flt c).nextId, .minor, false, r.inj, r.src, r.time, 0, 0, 0, r.detail⟩] ∧
      (u.flt c).handling = some (s.flt c).nextId) ∧ (u.regSel FLT_EVT c.ix.val).getLsbD fltMINOR = true := by
  refine completes_collectorReport waits plain is fun times _ => ?_
  obtain ⟨handling, log, next, -, -, counted⟩ := tallied_taken s c r rest times .minor t
  generalize tallied (taken (s.at t) c rest) c r times .minor = y at handling log next counted
  have opened := opened_record (s := y) (c := c) (src := r.src) (detail := r.detail) (time := r.time) (cls := .minor) (esc := false) (inj := r.inj)
    (code := 0) (by rw [handling, free]) (by rw [log]; exact room)
  refine ⟨((counted small).keep small opened.regs (by decide)).settle small, ⟨?_, ?_⟩, opened.evt.settle⟩
  · rw [flt_congr (settle_flts _)]
    exact opened.log.trans (by rw [log, next])
  · rw [flt_congr (settle_flts _)]
    exact opened.handling.trans (by rw [next])

theorem completes_major (small : r.src < 1024) (is : srcClassNow s r.src = .major) (free : (s.flt c).handling = none)
    (room : (s.flt c).log.length < 32) : Completes (.collectorReport c t) s fun u =>
    Counted s u c r.src FLT_MAJOR ∧
    ((u.flt c).log = (s.flt c).log ++ [⟨(s.flt c).nextId, .major, false, r.inj, r.src, r.time, 0, 0, 0, r.detail⟩] ∧
      (u.flt c).handling = some (s.flt c).nextId) ∧ u.dark.lastMajor = max s.now t := by
  refine completes_collectorReport waits plain is fun times react => ?_
  obtain ⟨handling, log, next, -, now, counted⟩ := tallied_taken s c r rest times .major t
  generalize tallied (taken (s.at t) c rest) c r times .major = y at handling log next now counted
  have opened := opened_record (s := y) (c := c) (src := r.src) (detail := r.detail) (time := r.time) (cls := .major) (esc := false) (inj := r.inj)
    (code := react) (by rw [handling, free]) (by rw [log]; exact room)
  rw [show collectAs y c r react .major = (record y c r.src r.detail r.time .major false r.inj react).wakeReason 5 from rfl]
  generalize record y c r.src r.detail r.time .major false r.inj react = z at opened
  obtain ⟨regs, flts, dark⟩ := wakeReason_keeps z 5
  generalize z.wakeReason 5 = w at regs flts dark
  refine ⟨((counted small).keep small (opened.regs.trans (.of_regs regs _)) (by decide)).settle small, ⟨?_, ?_⟩, ?_⟩
  · rw [flt_congr (settle_flts _), flt_congr flts, opened.log, log, next]
  · rw [flt_congr (settle_flts _), flt_congr flts, opened.handling, next]
  · rw [settle_dark_lastMajor, dark, opened.major rfl, now]

theorem completes_minor_merged {id : Nat} (small : r.src < 1024) (is : srcClassNow s r.src = .minor) (busy : (s.flt c).handling = some id) :
    Completes (.collectorReport c t) s fun u => (u.flt c).log.length = (s.flt c).log.length ∧ (u.flt c).handling = some id ∧
      u.regSel FLT_MERGED c.ix.val = bumpW (s.regSel FLT_MERGED c.ix.val) 1 := by
  refine completes_collectorReport waits plain is fun times _ => ?_
  obtain ⟨handling, log, -, -, -, -⟩ := tallied_taken s c r rest times .minor t
  have merged : (tallied (taken (s.at t) c rest) c r times .minor).regSel FLT_MERGED c.ix.val = s.regSel FLT_MERGED c.ix.val :=
    tallied_regs (taken (s.at t) c rest) c r times .minor small FLT_MERGED _ (core_ix_small c) (by decide)
  generalize tallied (taken (s.at t) c rest) c r times .minor = y at handling log merged
  obtain ⟨-, length, still, count⟩ := merged_record (s := y) (c := c) (src := r.src) (detail := r.detail) (time := r.time) (cls := .minor) (esc := false)
    (inj := r.inj) (code := 0) (by rw [handling, busy]) (by decide)
  refine ⟨?_, ?_, ?_⟩
  · rw [flt_congr (settle_flts _)]
    exact length.trans (by rw [log])
  · rw [flt_congr (settle_flts _)]
    exact still
  · rw [regSel_settle _ _ _ (core_ix_small c) (by decide)]
    exact count.trans (by rw [merged])

theorem completes_grave (is : srcClassNow s r.src = .grave) :
    (r.dry = false → Completes (.collectorReport c t) s fun u => u.dark.dark = true) ∧
    (r.dry = true → Completes (.collectorReport c t) s fun u => u.dark.dark = s.dark.dark) := by
  constructor
  all_goals
    intro real
    refine completes_collectorReport waits plain is fun times react => ?_
    obtain ⟨-, -, -, before, -, -⟩ := tallied_taken s c r rest times .grave t
    generalize tallied (taken (s.at t) c rest) c r times .grave = y at before
    have is : collectAs y c r react .grave = if r.dry then (record y c r.src r.detail r.time .grave false r.inj 0).wakeReason 5
      else darkEnter ((record y c r.src r.detail r.time .grave false r.inj 0).wakeReason 5) r.src false := rfl
    rw [is, settle_dark_dark]
  · rw [if_neg (by rw [real]; decide)]
    exact darkEnter_dark _ _ _
  · rw [if_pos real, (wakeReason_keeps _ _).2.2, record_dark, before]

end
end

/-! Handling ends and reactions are issued (R419, R420, R424). -/

theorem OnlyReports.handling {s u : State} (h : OnlyReports s u) (d : Core) : (u.flt d).handling = (s.flt d).handling := (h.flt d).1

theorem updHeld_handling (s : State) (src : Nat) (g : SrcState → SrcState) (d : Core) : ((s.updHeld src g).flt d).handling = (s.flt d).handling := by
  have one (x : State) (c : Core) : ((x.updSrc c src g).flt d).handling = (x.flt d).handling := by
    unfold State.updSrc
    rw [flt_updFlt]
    split <;> rfl
  exact (one _ _).trans (one _ _)

theorem onlyReports_holdResource (s : State) (r : Resource) : OnlyReports s (holdResource s r) := by
  cases r with
  | cluster n => exact onlyReports_offline _ _
  | link p => exact (onlyReports_portDown _ _).after (updLink_flts _ _ _)
  | port k => exact (onlyReports_portFlush _ _).after (updSw_flts _ _)
  | can c => exact .of_flts ((updCan_flts _ _ _).trans ((canAttemptEnds_flts _ _).trans (updCan_flts _ _ _)))

theorem holdSource_handling (s : State) (src detail : Nat) (r : Resource) (d : Core) :
    ((holdSource s src detail r).flt d).handling = (s.flt d).handling := by
  unfold holdSource
  dsimp only
  split
  · rfl
  · exact ((onlyReports_holdResource _ r).handling d).trans (updHeld_handling _ _ _ _)

theorem react_handling (s : State) (c : Core) (src code detail : Nat) (d : Core) : ((react s c src code detail).flt d).handling = (s.flt d).handling := by
  unfold react
  dsimp only
  split
  · rfl
  split
  · split
    · rfl
    · exact (onlyReports_demote _ _ _).handling d
  · split
    · rfl
    · exact (onlyReports_demote _ _ _).handling d
  · split
    · split
      · exact (onlyReports_migBegin _ _ _ _).handling d
      · rfl
    · rfl
  · split
    · rfl
    · split
      · exact holdSource_handling _ _ _ _ d
      · rfl

/-- The record that is handled carries the reaction issued (R424). -/
def issuedAs (id issued : Nat) (r : FltRecord) : FltRecord := if r.id = id then { r with react := issued } else r

/-- The handling of a record has ended, its own reaction marked in it (R424). -/
def handled (s : State) (c : Core) (id issued : Nat) : State :=
  (s.updFlt c fun f => { f with handling := none, waiting := [] }).updFlt c fun f => { f with log := f.log.map (issuedAs id issued) }

theorem handled_handling (s : State) (c : Core) (id issued : Nat) : ((handled s c id issued).flt c).handling = none := by
  unfold handled
  rw [flt_updFlt_self, flt_updFlt_self]

section
variable {s : State} {c : Core} {id t : Nat}

theorem completes_handlingEnd (busy : (s.flt c).handling = some id) (idle : (s.flt c).waiting = []) : Completes (.handlingEnd c t) s fun u =>
    (u.flt c).handling = none ∧ (u.flt c).log = (s.flt c).log ∧ SameRegs s u [] := by
  have row : exec (.handlingEnd c t) s = done ((s.at t).updFlt c fun f => { f with handling := none, waiting := [] }) := by
    refine congrArg done ?_
    unfold handlingEnd
    rw [show ((s.at t).flt c).handling = some id from busy]
    dsimp only
    rw [show ((s.at t).flt c).waiting = [] from idle]
    rfl
  refine completes_done row ⟨?_, ?_, sameRegs_settle rfl⟩
  · rw [flt_congr (settle_flts _), flt_updFlt_self]
  · rw [flt_congr (settle_flts _), flt_updFlt_self]
    rfl

/-- One reaction waits: it is issued where it applies (R419, R424). -/
theorem handlingEnd_one {src code detail : Nat} {cls : FltClass} (busy : (s.flt c).handling = some id)
    (one : (s.flt c).waiting = [⟨src, cls, false, code, detail⟩]) (some_ : code ≠ 0) (applies : reactApplies src code detail = true) :
    exec (.handlingEnd c t) s = done (react (handled (s.at t) c id code) c src code detail) := by
  refine congrArg done ?_
  unfold handlingEnd
  rw [show ((s.at t).flt c).handling = some id from busy]
  dsimp only
  rw [show ((s.at t).flt c).waiting = [⟨src, cls, false, code, detail⟩] from one]
  show (if code = 0 then _ else react ((State.updFlt _ c _).updFlt c fun f => { f with log := f.log.map fun r =>
    if r.id = id then { r with react := if reactApplies src code detail = true then code else 0 } else r }) c src code detail) = _
  rw [if_neg some_, if_pos applies]
  rfl


end
end Sys2Proof.Machine
end

section
set_option Elab.async false
/-! SUPPORT. Reactions, claims, held states and the rest of the obligation about the fault collectors (R416-R438). -/

namespace Sys2Proof.Machine

/-- A migration with its target chosen is under way (R267). -/
theorem migTo_mig (s : State) (n : Fin 12) (e : Fin 14) (a b : Fin 16) (cause : MigCause) :
    ((migTo s n e a b cause).cl n).mig = some ⟨e, a, b, cause, false⟩ := by
  have clusters : (migTo s n e a b cause).clusters = (s.updCl n fun c => { c with mig := some ⟨e, a, b, cause, false⟩ }).clusters := by
    unfold migTo
    generalize List.range 4096 = l
    exact foldl_keeps (fun s : State => s.clusters) _ (fun x w => copyWord_clusters x _ _) l _
  unfold State.cl
  rw [clusters]
  simp [State.updCl]

theorem react_migrates {s : State} {c : Core} {src detail : Nat} {n : Fin 12} {e : Fin 14} {p tgt : Fin 16} (lead : s.lead? = some c)
    (cluster : srcCluster src = some n) (engine : detailEngine detail = some e) (applies : reactApplies src 3 detail = true)
    (idle : (s.cl n).mig = none) (bound : (s.eng n e).phys = some p) (spare : spare? (s.cl n) = some tgt) :
    ((react s c src 3 detail).cl n).mig = some ⟨e, p, tgt, .failure, false⟩ := by
  have begun : migBegin s n e .failure = migTo s n e p tgt .failure := by
    unfold migBegin
    dsimp only
    rw [show (vget (s.cl n).engines e).phys = some p from bound]
    dsimp only
    rw [idle]
    dsimp only
    rw [if_neg (fun h => h.1 rfl), spare]
  have is : react s c src 3 detail = if decide (s.lead? = some c) then migBegin s n e .failure else s := by
    unfold react
    dsimp only
    rw [applies, cluster, engine]
    rfl
  rw [is, if_pos (by rw [lead]; simp), begun]
  exact migTo_mig _ _ _ _ _ _

/-! Claims (R395, R405). -/

theorem trace_lead (s : State) (i : Fin 14) (k r d : Nat) : (s.trace i k r d).lead = s.lead := by
  obtain ⟨bufs, h | h | h⟩ := trace_cases s i k r d
  · rw [h]
  · rw [h]; rfl
  · rw [h]; exact raise_lead _ _ _

theorem histAdd_cores (e : HistEntry) (l : LeadState) : (histAdd e l).cores = l.cores := by
  unfold histAdd
  split <;> rfl

/-- A claim taken, with its entry in the history, its message and its trace entries (R395, R415). -/
def claimTaken (s : State) (c : Core) (new : Claim) (cause : ClaimCause) : State :=
  let s1 := (s.updCore c fun x => { x with claim := new }).updLead fun l =>
    { histAdd ⟨c, (s.core c).claim, new, cause, s.ring⟩ l with everLead := l.everLead || decide (new = .c12) }
  ((s1.barReady .hf .claim (.claim c new.value)).trace (coreTrace .c0) 0x14 c.ix.val (new.value / 4)).trace
    (coreTrace .c1) 0x14 c.ix.val (new.value / 4)

/-- What is noted of two equal claims (R399). -/
def claimsCompared (s y : State) (new : Claim) : State :=
  let eq := decide ((y.core .c0).claim = (y.core .c1).claim) && claimHigh new
  let z := y.updLead fun l => { l with equal := eq }
  if eq && !s.lead.equal then ((z.bump LU_EQ).evt LU_EVT luEQ).raise Src.equalClaims 0 else z

theorem setClaim_same {s : State} {c : Core} {new : Claim} {cause : ClaimCause} (h : (s.core c).claim = new) : setClaim s c new cause = s := if_pos h

theorem setClaim_changed {s : State} {c : Core} {new : Claim} {cause : ClaimCause} (h : (s.core c).claim ≠ new) :
    setClaim s c new cause = claimsCompared s (claimTaken s c new cause) new := if_neg h

theorem claimsCompared_core (s y : State) (new : Claim) (d : Core) : (claimsCompared s y new).core d = y.core d := by
  unfold claimsCompared
  dsimp only
  split
  · rw [raise_core, evt_core, bump_core]
    rfl
  · rfl

theorem claimTaken_core (s : State) (c d : Core) (new : Claim) (cause : ClaimCause) :
    (claimTaken s c new cause).core d = if d = c then { s.core c with claim := new } else s.core d := by
  rw [← core_updCore s c d fun y => { y with claim := new }]
  exact ((core_congr (trace_lead _ _ _ _ _) d).trans (core_congr (trace_lead _ _ _ _ _) d)).trans (core_updLead (histAdd_cores _ _) d)

/-- The cores after one has taken a claim. -/
theorem setClaim_core (s : State) (c d : Core) (new : Claim) (cause : ClaimCause) :
    (setClaim s c new cause).core d = if d = c then { s.core c with claim := new } else s.core d := by
  by_cases same : (s.core c).claim = new
  · rw [setClaim_same same]
    split
    · rename_i it
      rw [it, ← same]
    · rfl
  · rw [setClaim_changed same, claimsCompared_core, claimTaken_core]

theorem cutAndRequeue_keeps (s : State) (r : Ring) : (cutAndRequeue s r).lead = s.lead ∧ (cutAndRequeue s r).store = s.store := by
  unfold cutAndRequeue
  dsimp only
  exact ⟨each_keeps (fun s : State => s.lead) (by intros; rfl) _ _, each_keeps (fun s : State => s.store) (by intros; rfl) _ _⟩

/-- A core that is demoted sets claim 0 (R405). -/
theorem demote_claim {s : State} {c : Core} {cause : ClaimCause} (noUpdate : s.store.upd = none) : ((demote s c cause).core c).claim = .c0 := by
  have cut : ∃ y, y = (if s.accepted = some c then cutAndRequeue (cutAndRequeue s .a) .b else s) ∧ y.store = s.store := by
    refine ⟨_, rfl, ?_⟩
    split
    · rw [(cutAndRequeue_keeps _ _).2, (cutAndRequeue_keeps _ _).2]
    · rfl
  obtain ⟨y, is, store⟩ := cut
  unfold demote
  rw [← is]
  have idle : updateFails y = y := by
    unfold updateFails
    rw [store, noUpdate]
  dsimp only
  rw [idle]
  refine (congrArg CoreState.claim (core_updLead ?_ c)).trans ?_
  · rfl
  rw [core_updCore_self, evt_core, setClaim_core, if_pos rfl]

/-- A report of a core handled with RETIRE (R419). -/
theorem react_retires {s : State} {c : Core} {src detail : Nat} (applies : reactApplies src 1 detail = true) (holds : (s.core c).claim ≠ .c0)
    (noUpdate : s.store.upd = none) : ((react s c src 1 detail).core c).claim = .c0 := by
  have is : react s c src 1 detail =
      if (s.core c).claim = .c0 then s else demote s c (if src = Src.coreMarginCrit then .margin else .fault) := by
    unfold react
    dsimp only
    rw [applies]
    rfl
  rw [is, if_neg holds]
  exact demote_claim noUpdate

theorem completes_handlingEnd_one {s : State} {c : Core} {id t src code detail : Nat} {cls : FltClass} (busy : (s.flt c).handling = some id)
    (one : (s.flt c).waiting = [⟨src, cls, false, code, detail⟩]) (some_ : code ≠ 0) (applies : reactApplies src code detail = true) :
    Completes (.handlingEnd c t) s fun u => (u.flt c).handling = none ∧
      (∀ n e, code = 3 → s.lead? = some c → srcCluster src = some n → detailEngine detail = some e → (s.cl n).mig = none →
        ∀ p tgt, (s.eng n e).phys = some p → spare? (s.cl n) = some tgt → (u.cl n).mig = some ⟨e, p, tgt, .failure, false⟩) ∧
      (code = 1 → (s.core c).claim ≠ .c0 → s.store.upd = none → (u.core c).claim = .c0) := by
  refine completes_done (handlingEnd_one busy one some_ applies) ⟨?_, ?_, ?_⟩
  · rw [flt_congr (settle_flts _), react_handling, handled_handling]
  · intro n e is lead cluster engine idle p tgt bound spare
    subst is
    rw [settle_cl]
    have lead' : (handled (s.at t) c id 3).lead? = some c := lead
    have idle' : ((handled (s.at t) c id 3).cl n).mig = none := idle
    have bound' : ((handled (s.at t) c id 3).eng n e).phys = some p := bound
    have spare' : spare? ((handled (s.at t) c id 3).cl n) = some tgt := spare
    have moved := react_migrates lead' cluster engine applies idle' bound' spare'
    exact moved
  · rintro rfl holds noUpdate
    rw [settle_core]
    have holds' : ((handled (s.at t) c id 1).core c).claim ≠ .c0 := holds
    exact react_retires applies holds' noUpdate

/-! The held states end (R425-R428, R432, R433). -/

theorem srcOf_updSrcList {g : SrcState → SrcState} (kept : ∀ x, (g x).src = x.src) (src : Nat) (f : Collector) :
    srcOf { f with srcs := updSrcList src g f.srcs } src = g (srcOf f src) := by
  have found : ∀ l : List SrcState, srcOf { f with srcs := updSrcList src g l } src = g (srcOf { f with srcs := l } src) := by
    intro l
    induction l with
    | nil => simp [srcOf, updSrcList, kept, SrcState_init]
    | cons x l ih =>
      by_cases is : x.src = src
      · simp [srcOf, updSrcList, is, kept]
      · simpa [srcOf, updSrcList, is] using ih
  exact found f.srcs

theorem srcOf_updHeld {s : State} {src : Nat} {g : SrcState → SrcState} (kept : ∀ x, (g x).src = x.src) (d : Core) :
    srcOf ((s.updHeld src g).flt d) src = g (srcOf (s.flt d) src) := by
  unfold State.updHeld State.updSrc
  rw [flt_updFlt, flt_updFlt]
  cases d
  · rw [if_neg (by decide), if_pos rfl, srcOf_updSrcList kept]
  · rw [if_pos rfl, if_neg (by decide), srcOf_updSrcList kept]

theorem onlyReports_freeResource (s : State) (r : Resource) : OnlyReports s (freeResource s r) := by
  cases r with
  | cluster n => exact onlyReports_online _ _
  | link p => exact .of_flts rfl
  | port k => exact .of_flts rfl
  | can c => exact onlyReports_ite ((onlyReports_canEnable _ _).after rfl) (.of_flts rfl)

end Sys2Proof.Machine
end

section
set_option Elab.async false
/-! SUPPORT. Exits from held states, self-faults, the backlog of the field die, the read of the log and injection (R417, R423, R425-R435). -/

namespace Sys2Proof.Machine

/-! A record leaves the cores, the latch's exit and the sources' held states. -/

theorem updFlt_srcs {s : State} {c : Core} {f : Collector → Collector} (kept : ∀ x, (f x).srcs = x.srcs) (d : Core) :
    ((s.updFlt c f).flt d).srcs = (s.flt d).srcs := by
  rw [flt_updFlt]
  split
  · exact kept _
  · rfl

section
variable (s : State) (c : Core) (src detail time : Nat) (cls : FltClass) (esc inj : Bool) (code : Nat)

theorem reportNoted_srcs (d : Core) : ((reportNoted s c src detail cls esc inj code).flt d).srcs =
    if d = c then updSrcList src (fun x => { x with last := s.now }) (s.flt d).srcs else (s.flt d).srcs := by
  have noted : (((reportEvents s c esc inj).updSrc c src fun x => { x with last := s.now }).flt d).srcs =
      if d = c then updSrcList src (fun x => { x with last := s.now }) (s.flt d).srcs else (s.flt d).srcs := by
    rw [(reportEvents_keeps s c esc inj).1, State.updSrc, flt_updFlt]
    split <;> rfl
  rw [← noted]
  unfold reportNoted
  dsimp only
  split
  · exact updFlt_srcs (by intro; rfl) d
  · exact updFlt_srcs (by intro; rfl) d

theorem record_srcs (d : Core) : ((record s c src detail time cls esc inj code).flt d).srcs =
    if d = c then updSrcList src (fun x => { x with last := s.now }) (s.flt d).srcs else (s.flt d).srcs := by
  rw [← reportNoted_srcs s c src detail cls esc inj code]
  cases busy : (s.flt c).handling with
  | none =>
    rw [record_new busy, logAdd]
    split
    all_goals exact (updFlt_srcs (by intro; rfl) d).trans ((congrArg Collector.srcs (flt_congr (s := State.updFlt _ c _) rfl d)).trans
      (updFlt_srcs (by intro; rfl) d))
  | some id =>
    rw [record_merged busy]
    dsimp only
    split
    · exact (congrArg Collector.srcs (flt_congr (s := State.updFlt _ c _) rfl d)).trans (updFlt_srcs (by intro; rfl) d)
    · exact (congrArg Collector.srcs (flt_congr (s := State.updFlt _ c _) rfl d)).trans (updFlt_srcs (by intro; rfl) d)

/-- The held state of a source and its limit stay as they are in a record. -/
theorem record_held (d : Core) : (srcOf ((record s c src detail time cls esc inj code).flt d) src).held = (srcOf (s.flt d) src).held ∧
    (srcOf ((record s c src detail time cls esc inj code).flt d) src).limit = (srcOf (s.flt d) src).limit := by
  have is : srcOf ((record s c src detail time cls esc inj code).flt d) src =
      if d = c then { srcOf (s.flt d) src with last := s.now } else srcOf (s.flt d) src := by
    split
    · rename_i own
      rw [← srcOf_updSrcList (g := fun x => { x with last := s.now }) (fun _ => rfl)]
      unfold srcOf
      rw [record_srcs, if_pos own]
    · rename_i other
      unfold srcOf
      rw [record_srcs, if_neg other]
  rw [is]
  split <;> exact ⟨rfl, rfl⟩

theorem record_lead : (record s c src detail time cls esc inj code).lead = s.lead ∧
    (record s c src detail time cls esc inj code).dark.reopen = s.dark.reopen := by
  have noted : (reportNoted s c src detail cls esc inj code).lead = s.lead ∧
      (reportNoted s c src detail cls esc inj code).dark.reopen = s.dark.reopen := by
    have is := (reportEvents_keeps s c esc inj).1
    have before : (reportEvents s c esc inj).lead = s.lead ∧ (reportEvents s c esc inj).dark = s.dark := by rw [is]; exact ⟨rfl, rfl⟩
    rw [← before.1, ← before.2]
    unfold reportNoted
    dsimp only
    split <;> exact ⟨rfl, rfl⟩
  rw [← noted.1, ← noted.2]
  cases busy : (s.flt c).handling with
  | none =>
    rw [record_new busy, logAdd]
    split <;> simp only [State.fltEvt, updFlt_lead, setRegSel_lead, updFlt_dark, setRegSel_dark, and_self]
  | some id =>
    rw [record_merged busy]
    dsimp only
    split <;> simp only [State.fltEvt, updFlt_lead, setRegSel_lead, bumpSel_lead, updFlt_dark, setRegSel_dark, bumpSel_dark, and_self]

variable {s} in
/-- An event bit of a collector outlasts a record. -/
theorem FltEvtSet.record {k : Fin 2} {i : Nat} (h : FltEvtSet s k i) : FltEvtSet (record s c src detail time cls esc inj code) k i := by
  have events : FltEvtSet (reportEvents s c esc inj) k i := by
    unfold reportEvents
    cases esc <;> cases inj
    · exact h
    · exact h.fltEvt _ _
    · exact h.fltEvt _ _
    · exact (h.fltEvt _ _).fltEvt _ _
  have noted : FltEvtSet (reportNoted s c src detail cls esc inj code) k i := by
    unfold reportNoted
    dsimp only
    split <;> exact events.congr rfl
  cases busy : (s.flt c).handling with
  | none =>
    rw [record_new busy, logAdd]
    split
    · exact ((noted.congr rfl).fltEvt c (classEvt cls)).congr rfl
    · exact (((noted.congr rfl).fltEvt c fltLOGOVF).fltEvt c (classEvt cls)).congr rfl
  | some id =>
    rw [record_merged busy]
    dsimp only
    have merged : FltEvtSet (((reportNoted s c src detail cls esc inj code).updFlt c fun f =>
        { f with log := f.log.map (mergedInto id src cls) }).bumpSel FLT_MERGED c.ix.val) k i :=
      noted.congr (((KeepsRegs.of_regs (s := reportNoted s c src detail cls esc inj code) rfl [FLT_MERGED]).bumpSel (b := FLT_MERGED)
        List.mem_cons_self (core_ix_small c) (by decide)) FLT_EVT k.val (by omega) (by decide))
    split
    · exact (merged.fltEvt _ _).fltEvt _ _
    · exact merged.fltEvt _ _

end

/-! The record of an exit (R426, R427). -/

section
variable (s : State) (src detail : Nat) (cls : FltClass) (evt : Nat)

/-- The record of an exit at one collector. -/
def exitAt (c : Core) : State := (record s c src detail s.ring.toNat cls false false 0).fltEvt c evt

theorem exitRecord_eq : exitRecord s src detail cls evt = exitAt (exitAt s src detail cls evt .c0) src detail cls evt .c1 := rfl

theorem exitAt_held (c d : Core) : (srcOf ((exitAt s src detail cls evt c).flt d) src).held = (srcOf (s.flt d) src).held ∧
    (srcOf ((exitAt s src detail cls evt c).flt d) src).limit = (srcOf (s.flt d) src).limit :=
  record_held s c src detail _ cls false false 0 d

theorem exitRecord_held (d : Core) : (srcOf ((exitRecord s src detail cls evt).flt d) src).held = (srcOf (s.flt d) src).held ∧
    (srcOf ((exitRecord s src detail cls evt).flt d) src).limit = (srcOf (s.flt d) src).limit := by
  rw [exitRecord_eq]
  obtain ⟨held0, limit0⟩ := exitAt_held s src detail cls evt .c0 d
  obtain ⟨held1, limit1⟩ := exitAt_held (exitAt s src detail cls evt .c0) src detail cls evt .c1 d
  exact ⟨held1.trans held0, limit1.trans limit0⟩

theorem exitRecord_lead : (exitRecord s src detail cls evt).lead = s.lead ∧ (exitRecord s src detail cls evt).dark.reopen = s.dark.reopen ∧
    (exitRecord s src detail cls evt).dark.dark = s.dark.dark := by
  have at_ (x : State) (c : Core) : (exitAt x src detail cls evt c).lead = x.lead ∧ (exitAt x src detail cls evt c).dark.reopen = x.dark.reopen ∧
      (exitAt x src detail cls evt c).dark.dark = x.dark.dark := by
    obtain ⟨lead, reopen⟩ := record_lead x c src detail x.ring.toNat cls false false 0
    exact ⟨lead, reopen, record_dark x c src detail x.ring.toNat cls false false 0⟩
  obtain ⟨lead0, reopen0, dark0⟩ := at_ s .c0
  obtain ⟨lead1, reopen1, dark1⟩ := at_ (exitAt s src detail cls evt .c0) .c1
  rw [exitRecord_eq]
  exact ⟨lead1.trans lead0, reopen1.trans reopen0, dark1.trans dark0⟩

theorem exitRecord_evt (low : evt < 16) (k : Fin 2) : FltEvtSet (exitRecord s src detail cls evt) k evt := by
  rw [exitRecord_eq]
  match k with
  | 0 => exact ((fltEvtSet_fltEvt _ .c0 low).record _ _ _ _ _ _ _ _).fltEvt _ _
  | 1 => exact fltEvtSet_fltEvt _ .c1 low

end

/-! A held source's quiet period ends (R426, R427). -/

/-- A source leaves its held state. -/
def released (s : State) (src : Nat) : State :=
  s.updHeld src fun x => { x with held := false, recoveries := s.now :: sourceRecs s x }

/-- A source has recovered too often (R427). -/
def limited (s : State) (src : Nat) : State := s.updHeld src fun x => { x with power := true, limit := true }

theorem released_held (s : State) (src : Nat) (d : Core) : (srcOf ((released s src).flt d) src).held = false :=
  congrArg SrcState.held (srcOf_updHeld (by intro; rfl) d)

theorem limited_held (s : State) (src : Nat) (d : Core) : (srcOf ((limited s src).flt d) src).held = (srcOf (s.flt d) src).held ∧
    (srcOf ((limited s src).flt d) src).limit = true := by
  have is := srcOf_updHeld (s := s) (src := src) (g := fun x => { x with power := true, limit := true }) (by intro; rfl) d
  rw [show srcOf ((limited s src).flt d) src = _ from is]
  exact ⟨rfl, rfl⟩

/-- The resource of a source that has left its held state is free where no other source holds it (R426). -/
def freed (s : State) (r : Option Resource) : State :=
  match r with
  | none => s
  | some r => if (((s.flt .c0).srcs.filter (·.held)).map resourceOf).contains (some r) then s else freeResource s r

theorem onlyReports_freed (s : State) (r : Option Resource) : OnlyReports s (freed s r) := by
  cases r with
  | none => exact .of_flts rfl
  | some r => exact onlyReports_ite (.of_flts rfl) (onlyReports_freeResource _ _)

theorem quietMajor_eq (s : State) (src : Nat) : quietMajor s src =
    if !(srcOf (s.flt .c0) src).held || (srcOf (s.flt .c0) src).power ||
      decide (s.now < lastReport s src + atLeastOne (s.reg FLT_QUIET_M).toNat * msT) then s
    else if s.bit FLT_CTRL 15 ∨ s.fld FLT_CTRL 11 8 = 0 then s.updHeld src fun x => { x with power := true }
    else if (sourceRecs s (srcOf (s.flt .c0) src)).length ≥ s.fld FLT_CTRL 11 8 then
      exitRecord (limited s src) src (srcOf (s.flt .c0) src).heldDetail .major fltRECLIM
    else exitRecord (freed (released s src) (resourceOf (srcOf (s.flt .c0) src))) src (srcOf (s.flt .c0) src).heldDetail .minor fltEXIT := by
  unfold quietMajor
  dsimp only
  refine ite_congr rfl (fun _ => rfl) fun _ => ite_congr rfl (fun _ => rfl) fun _ => ite_congr rfl (fun _ => rfl) fun _ => ?_
  cases resourceOf (srcOf (s.flt .c0) src) <;> rfl

section
variable {s : State} {src : Fin 1024} {t : Nat} (held : (srcOf (s.flt .c0) src.val).held = true)
  (auto : (srcOf (s.flt .c0) src.val).power = false) (quiet_ : lastReport s src.val + atLeastOne (s.reg FLT_QUIET_M).toNat * msT ≤ max s.now t)
  (open_ : s.bit FLT_CTRL 15 = false) (some_ : s.fld FLT_CTRL 11 8 ≠ 0)
include held auto quiet_ open_ some_

/-- The source may leave its held state. -/
theorem quietMajor_row : quietMajor (s.at t) src.val =
    if (sourceRecs (s.at t) (srcOf (s.flt .c0) src.val)).length ≥ s.fld FLT_CTRL 11 8 then
      exitRecord (limited (s.at t) src.val) src.val (srcOf (s.flt .c0) src.val).heldDetail .major fltRECLIM
    else exitRecord (freed (released (s.at t) src.val) (resourceOf (srcOf (s.flt .c0) src.val))) src.val (srcOf (s.flt .c0) src.val).heldDetail
      .minor fltEXIT := by
  have ended : ¬ (!(srcOf (s.flt .c0) src.val).held || (srcOf (s.flt .c0) src.val).power ||
      decide (max s.now t < lastReport s src.val + atLeastOne (s.reg FLT_QUIET_M).toNat * msT)) = true := by
    rw [held, auto, decide_eq_false (Nat.not_lt.2 quiet_)]
    decide
  have may : ¬ (s.bit FLT_CTRL 15 = true ∨ s.fld FLT_CTRL 11 8 = 0) := by
    rintro (h | h)
    · exact Bool.noConfusion (open_.symm.trans h)
    · exact some_ h
  rw [quietMajor_eq]
  exact (if_neg ended).trans (if_neg may)

theorem completes_quietPeriodMajor :
    ((sourceRecs (s.at t) (srcOf (s.flt .c0) src.val)).length < s.fld FLT_CTRL 11 8 → Completes (.quietPeriodMajor src t) s fun u =>
      (srcOf (u.flt .c0) src.val).held = false ∧ (srcOf (u.flt .c1) src.val).held = false ∧
      ∀ k : Fin 2, (u.regSel FLT_EVT k.val).getLsbD fltEXIT = true) ∧
    (s.fld FLT_CTRL 11 8 ≤ (sourceRecs (s.at t) (srcOf (s.flt .c0) src.val)).length → Completes (.quietPeriodMajor src t) s fun u =>
      (srcOf (u.flt .c0) src.val).held = true ∧ (srcOf (u.flt .c0) src.val).limit = true ∧
      ∀ k : Fin 2, (u.regSel FLT_EVT k.val).getLsbD fltRECLIM = true) := by
  have row := quietMajor_row held auto quiet_ open_ some_
  have free (r : Option Resource) (d : Core) : (srcOf ((freed (released (s.at t) src.val) r).flt d) src.val).held = false := by
    obtain ⟨-, -, srcs, -⟩ := (onlyReports_freed (released (s.at t) src.val) r).flt d
    have is : srcOf ((freed (released (s.at t) src.val) r).flt d) src.val = srcOf ((released (s.at t) src.val).flt d) src.val := by
      unfold srcOf
      rw [srcs]
    rw [is, released_held]
  constructor
  · intro few
    rw [if_neg (Nat.not_le.2 few)] at row
    refine completes_done (congrArg done row) ⟨?_, ?_, fun k => (exitRecord_evt _ _ _ _ _ (by decide) k).settle⟩
    · rw [flt_congr (settle_flts _), (exitRecord_held _ _ _ _ _ _).1, free]
    · rw [flt_congr (settle_flts _), (exitRecord_held _ _ _ _ _ _).1, free]
  · intro many
    rw [if_pos many] at row
    refine completes_done (congrArg done row) ⟨?_, ?_, fun k => (exitRecord_evt _ _ _ _ _ (by decide) k).settle⟩
    · rw [flt_congr (settle_flts _), (exitRecord_held _ _ _ _ _ _).1, (limited_held _ _ _).1]
      exact held
    · rw [flt_congr (settle_flts _), (exitRecord_held _ _ _ _ _ _).2, (limited_held _ _ _).2]

end

/-! The GRAVE quiet period ends (R426, R427, R433). -/

theorem traceAll_lead (s : State) (k : Nat) : (s.traceAll k).lead = s.lead :=
  foldl_keeps (fun s : State => s.lead) _ (fun x i => trace_lead x i k 0 0) (List.finRange 14) s

theorem setClaim_dark (s : State) (c : Core) (new : Claim) (cause : ClaimCause) : (setClaim s c new cause).dark = s.dark := by
  by_cases same : (s.core c).claim = new
  · rw [setClaim_same same]
  · rw [setClaim_changed same]
    have taken : (claimTaken s c new cause).dark = s.dark := (trace_dark _ _ _ _ _).trans (trace_dark _ _ _ _ _)
    rw [← taken]
    unfold claimsCompared
    dsimp only
    split
    · exact raise_dark _ _ _
    · rfl

/-- Both cores run self-test again, from claim 0 (R401, R433). -/
theorem startCores_keeps (s : State) : (startCores s).dark = s.dark ∧ (startCores s).lead.starting = true ∧
    ∀ k, ((startCores s).core k).claim = .c0 ∧ ((startCores s).core k).phase = .selfTest := by
  have claims (k : Core) : ((setClaim (setClaim s .c0 .c0 .start) .c1 .c0 .start).core k).claim = .c0 := by
    rw [setClaim_core]
    cases k
    · rw [if_neg (by decide), setClaim_core, if_pos rfl]
    · rw [if_pos rfl]
  have dark : (setClaim (setClaim s .c0 .c0 .start) .c1 .c0 .start).dark = s.dark := by rw [setClaim_dark, setClaim_dark]
  unfold startCores
  dsimp only
  generalize setClaim (setClaim s .c0 .c0 .start) .c1 .c0 .start = y at claims dark
  refine ⟨dark, rfl, fun k => ?_⟩
  have is : (y.updLead fun l => { l with
      starting := true, everLead := false, tested := Vector.replicate 2 none, swapDue := none, demoteAfter := false
      cores := l.cores.map fun x => { x with phase := .selfTest } }).core k = { y.core k with phase := .selfTest } := by
    simp [State.core, State.updLead, vget]
  rw [is]
  exact ⟨claims k, rfl⟩

theorem darkExit_keeps (s : State) : (darkExit s).dark.dark = false ∧ (darkExit s).dark.reopen = true ∧ (darkExit s).lead.starting = true ∧
    ∀ k, ((darkExit s).core k).claim = .c0 ∧ ((darkExit s).core k).phase = .selfTest := by
  unfold darkExit
  dsimp only
  obtain ⟨dark, starting, cores⟩ := startCores_keeps (s.updDark fun d =>
    { d with dark := false, reopen := true, heldPorts := Vector.replicate 2 false, idleRing := Vector.replicate 2 false })
  generalize startCores (s.updDark fun d =>
    { d with dark := false, reopen := true, heldPorts := Vector.replicate 2 false, idleRing := Vector.replicate 2 false }) = y at dark starting cores
  refine ⟨?_, ?_, ?_, fun k => ?_⟩
  · rw [traceAll_dark, dark]
    rfl
  · rw [traceAll_dark, dark]
    rfl
  · rw [traceAll_lead, starting]
  · rw [core_congr (traceAll_lead _ _)]
    exact cores k

theorem completes_quietPeriodGrave {s : State} {t : Nat} (dark : s.dark.dark = true) (auto : s.dark.power = false)
    (quiet_ : s.dark.lastMajor + atLeastOne (s.reg FLT_QUIET_G).toNat * secT ≤ max s.now t) (open_ : s.bit FLT_CTRL 14 = false)
    (some_ : s.fld FLT_CTRL 7 4 ≠ 0) (few : (darkRecs (s.at t)).length < s.fld FLT_CTRL 7 4) : Completes (.quietPeriodGrave t) s fun u =>
    u.dark.dark = false ∧ u.dark.reopen = true ∧ u.lead.starting = true ∧ ∀ k, (u.core k).claim = .c0 ∧ (u.core k).phase = .selfTest := by
  have ended : ¬ (!s.dark.dark || s.dark.power || decide (max s.now t < s.dark.lastMajor + atLeastOne (s.reg FLT_QUIET_G).toNat * secT)) = true := by
    rw [dark, auto, decide_eq_false (Nat.not_lt.2 quiet_)]
    decide
  have may : ¬ (s.bit FLT_CTRL 14 = true ∨ s.fld FLT_CTRL 7 4 = 0) := by
    rintro (h | h)
    · exact Bool.noConfusion (open_.symm.trans h)
    · exact some_ h
  have row : exec (.quietPeriodGrave t) s = done (exitRecord (darkExit ((s.at t).updDark fun d =>
      { d with recoveries := (s.at t).now :: darkRecs (s.at t) })) s.dark.src 0 .minor fltEXIT) :=
    congrArg done ((if_neg ended).trans ((if_neg may).trans (if_neg (Nat.not_le.2 few))))
  obtain ⟨bright, reopen, starting, cores⟩ := darkExit_keeps ((s.at t).updDark fun d => { d with recoveries := (s.at t).now :: darkRecs (s.at t) })
  generalize darkExit ((s.at t).updDark fun d => { d with recoveries := (s.at t).now :: darkRecs (s.at t) }) = y at row bright reopen starting cores
  obtain ⟨lead, reopened, light⟩ := exitRecord_lead y s.dark.src 0 .minor fltEXIT
  refine completes_done row ⟨?_, ?_, ?_, fun k => ?_⟩
  · rw [settle_dark_dark, light, bright]
  · rw [settle_dark_reopen, reopened, reopen]
  · rw [settle_lead, lead, starting]
  · rw [settle_core, core_congr lead]
    exact cores k

/-! A collector finds a fault in itself (R429). -/

/-- What of the dark-node latch a self-fault sets. -/
def selfOf (d : DarkLatch) : Bool × Nat × Nat := (d.selfSet, d.selfCause, d.selfCore)

theorem darkHead_self (s : State) (r : Ring) : selfOf (darkHead s r).dark = selfOf s.dark := by
  unfold darkHead
  split
  · show selfOf (portDown s r.outPort).dark = _
    rw [portDown_dark]
  · rfl

/-- What entry to the dark-node state stops leaves the latch (R430, R431). -/
theorem insertionStopped_dark (s : State) (idle : Bool) :
    (if idle then storeLose (standDown (cutFrame (cutFrame (wingDrop (s.updCue fun c => { c with guard := { c.guard with open_ := false } })) .a) .b))
      else (cutFrame (cutFrame (wingDrop (s.updCue fun c => { c with guard := { c.guard with open_ := false } })) .a) .b).updPrompter fun p =>
        { p with listening := false }).dark = s.dark := by
  have wing : (wingDrop (s.updCue fun c => { c with guard := { c.guard with open_ := false } })).dark = s.dark := (updCue_dark _ _).trans (updCue_dark _ _)
  generalize wingDrop (s.updCue fun c => { c with guard := { c.guard with open_ := false } }) = x at wing
  have cut : (cutFrame (cutFrame x .a) .b).dark = s.dark := (updStream_dark _ _ _).trans ((updStream_dark _ _ _).trans wing)
  generalize cutFrame (cutFrame x .a) .b = y at cut
  rw [← cut]
  split
  · exact (updStream_dark _ _ _).trans ((updStream_dark _ _ _).trans ((updFab_dark _ _).trans ((updCue_dark _ _).trans (updCue_dark _ _))))
  · exact updCue_dark _ _

theorem darkEnter_self (s : State) (src : Nat) (power : Bool) : selfOf (darkEnter s src power).dark = selfOf s.dark := by
  unfold darkEnter
  dsimp only
  split
  · rfl
  · rw [traceAll_dark, darkHead_self, darkHead_self]
    rw [insertionStopped_dark]
    rfl

theorem completes_collectorSelfFault {s : State} {c : Core} {t : Nat} (cause : Fin 3) (free : (s.flt c).inject = none) :
    Completes (.collectorSelfFault c cause t) s fun u =>
      u.dark.dark = true ∧ u.dark.selfSet = true ∧ u.dark.selfCause = cause.val + 1 ∧ u.dark.selfCore = c.ix.val := by
  have row : exec (.collectorSelfFault c cause t) s = done (darkEnter ((s.at t).updDark fun d =>
      { d with selfSet := true, selfCause := cause.val + 1, selfCore := c.ix.val }) Src.collectorCheck true) := by
    refine congrArg done ?_
    unfold selfFault
    rw [show ((s.at t).flt c).inject = none from free]
  have self : selfOf (darkEnter ((s.at t).updDark fun d => { d with selfSet := true, selfCause := cause.val + 1, selfCore := c.ix.val })
      Src.collectorCheck true).dark = (true, cause.val + 1, c.ix.val) := darkEnter_self _ _ _
  have dark := darkEnter_dark ((s.at t).updDark fun d => { d with selfSet := true, selfCause := cause.val + 1, selfCore := c.ix.val })
    Src.collectorCheck true
  generalize darkEnter ((s.at t).updDark fun d => { d with selfSet := true, selfCause := cause.val + 1, selfCore := c.ix.val })
    Src.collectorCheck true = y at row self dark
  unfold selfOf at self
  rw [Prod.mk.injEq, Prod.mk.injEq] at self
  obtain ⟨set_, which, core⟩ := self
  exact completes_done row ⟨(settle_dark_dark _).trans dark, (settle_dark_selfSet _).trans set_, (settle_dark_selfCause _).trans which,
    (settle_dark_selfCore _).trans core⟩

/-! The field die sends the reports that waited (R417). -/

/-- A report of the backlog as it crosses the barrier. -/
def backlogged (b : Backlog) : BarReady := ⟨⟨.faultReport, .faultReport b.src b.detail b.count b.time b.inj b.dry⟩, []⟩

theorem MoreReady.carries {s u : State} (h : MoreReady s u) (d : BarDir) : barCarries (u.bdir d) = barCarries (s.bdir d) := by
  obtain ⟨more, is⟩ := h d
  rw [is]
  rfl

/-- Where the direction carries messages, no report joins the backlog. -/
theorem settleCan_backlog {s : State} (carries : barCarries (s.bdir .fh) = true) (c : Fin 4) : (settleCan s c).backlog = s.backlog := by
  have field : srcField (Src.can c.val 4) = true := by fin_cases c <;> decide
  unfold settleCan
  dsimp only
  split
  · rfl
  · split
    · split
      · rfl
      · rw [raise_field _ _ _ field, if_pos (by split <;> exact carries)]
        split <;> rfl
    · split <;> rfl

theorem settle_backlog_of_carries {s : State} (carries : barCarries (s.bdir .fh) = true) : (settle s).backlog = s.backlog := by
  have cans (l : List (Fin 4)) (y : State) (way : barCarries (y.bdir .fh) = true) : (l.foldl settleCan y).backlog = y.backlog := by
    induction l generalizing y with
    | nil => rfl
    | cons c rest ih => exact (ih _ (((moreReady_settleCan y c).carries .fh).trans way)).trans (settleCan_backlog way c)
  have modes : MoreReady s (settlePins (settleModes (settleBypass (settleFuses (settleHolds (settleLock (settleRange .b (settleRange .a s)))))))) :=
    ((MoreReady.refl _ _ (by simp)).trans (moreReady_settleModes _)).trans (MoreReady.refl _ _ (settlePins_bar _))
  unfold settle
  dsimp only
  rw [settleFwd_backlog, settleSignals_backlog, cans _ _ ((modes.carries .fh).trans carries)]
  simp

theorem bdir_each_backlog (l : List Backlog) (s : State) :
    ((s.each l fun s b => s.barReady .fh .faultReport (.faultReport b.src b.detail b.count b.time b.inj b.dry)).bdir .fh) =
      { s.bdir .fh with ready := (s.bdir .fh).ready ++ l.map backlogged } ∧
    (s.each l fun s b => s.barReady .fh .faultReport (.faultReport b.src b.detail b.count b.time b.inj b.dry)).backlog = s.backlog := by
  induction l generalizing s with
  | nil => exact ⟨by simp [State.each], rfl⟩
  | cons b l ih =>
    obtain ⟨ready, backlog⟩ := ih (s.barReady .fh .faultReport (.faultReport b.src b.detail b.count b.time b.inj b.dry))
    refine ⟨?_, backlog⟩
    refine ready.trans ?_
    simp [State.barReady, State.updBar, State.bdir, backlogged]

theorem completes_faultBacklogSend {s : State} {t : Nat} (carries : barCarries (s.bdir .fh) = true) :
    Completes (.faultBacklogSend t) s fun u => u.backlog = [] ∧
      ∃ more, (u.bdir .fh).ready = (s.bdir .fh).ready ++ s.backlog.map backlogged ++ more := by
  have stops : ¬ (!barCarries ((s.at t).bdir .fh)) = true := by
    show ¬ (!barCarries (s.bdir .fh)) = true
    rw [carries]
    decide
  have row : exec (.faultBacklogSend t) s = done (({ s.at t with backlog := [] }).each s.backlog fun s b =>
      s.barReady .fh .faultReport (.faultReport b.src b.detail b.count b.time b.inj b.dry)) := congrArg done (if_neg stops)
  obtain ⟨bdir, backlog⟩ := bdir_each_backlog s.backlog { s.at t with backlog := [] }
  generalize ({ s.at t with backlog := [] } : State).each s.backlog (fun s b =>
      s.barReady .fh .faultReport (.faultReport b.src b.detail b.count b.time b.inj b.dry)) = y at row bdir backlog
  obtain ⟨more, settled⟩ := moreReady_settle y .fh
  refine completes_done row ⟨(settle_backlog_of_carries ?_).trans backlog, more, ?_⟩
  · rw [bdir]
    exact carries
  · rw [settled, bdir]
    rfl

/-! A read of the log (R423, R437). -/

theorem latchRegs_flts (path : Path) : ∀ (l : List (Nat × Word)) (s : State), (latchRegs s path l).flts = s.flts
  | [], _ => rfl
  | _ :: l, _ => (latchRegs_flts path l _).trans rfl

/-- The registers that a read of the log latches, and their words. -/
def logWords (r : FltRecord) : List (Nat × Word) :=
  [(FLT_LOG_W1, putFld r.merges 15 10 ||| putFld r.lastSrc 9 0), (FLT_LOG_W2, wd (secOf r.time)), (FLT_LOG_W3, wd (nsOf r.time / 65536)),
    (FLT_LOG_W4, wd (nsOf r.time)), (FLT_LOG_W5, putFld r.react 15 12 ||| putFld r.detail 11 0)]

theorem logWords_apart (r : FltRecord) : ((logWords r).map Prod.fst).Nodup ∧ ∀ x ∈ logWords r, closingReg x.1 = false := by
  have apart : [FLT_LOG_W1, FLT_LOG_W2, FLT_LOG_W3, FLT_LOG_W4, FLT_LOG_W5].Nodup ∧
      ∀ a ∈ [FLT_LOG_W1, FLT_LOG_W2, FLT_LOG_W3, FLT_LOG_W4, FLT_LOG_W5], closingReg a = false := by decide
  exact ⟨apart.1, fun x mem => apart.2 x.1 (List.mem_map_of_mem (f := Prod.fst) mem)⟩

theorem completes_fltLogPop {s : State} {path : Path} {t : Nat} {r : FltRecord} {rest : List FltRecord} (unlocked : s.lockedOut path = false)
    (shown : viewBlank s path = false) (loud : quiet s path = false) (first : (s.flt (viewCore s path)).log = r :: rest) :
    Completes (.fltLogPop path t) s fun u => (u.flt (viewCore s path)).log = rest ∧ (u.flt (viewCore s path)).ovf = false ∧
      ∀ x ∈ logWords r, u.regSel x.1 path.code = x.2 := by
  have blank : ¬ viewBlank (s.at t) path = true := fun h => Bool.noConfusion (shown.symm.trans h)
  have pops : (fltPop (s.at t) path).2 = (latchRegs (s.at t) path (logWords r)).updFlt (viewCore s path) fun f => { f with log := rest, ovf := false } := by
    unfold fltPop
    dsimp only
    rw [show ((s.at t).flt (viewCore (s.at t) path)).log = r :: rest from first]
    exact if_neg fun h => Bool.noConfusion (loud.symm.trans h)
  have row : exec (.fltLogPop path t) s = done ((latchRegs (s.at t) path (logWords r)).updFlt (viewCore s path) fun f =>
      { f with log := rest, ovf := false }) :=
    congrArg done ((throughLock_of_unlocked (s := s.at t) unlocked _ _ _).trans ((if_neg blank).trans pops))
  obtain ⟨distinct, open_⟩ := logWords_apart r
  refine completes_done row ⟨?_, ?_, fun x mem => ?_⟩
  · rw [flt_congr (settle_flts _), flt_updFlt_self]
  · rw [flt_congr (settle_flts _), flt_updFlt_self]
  · rw [regSel_settle _ _ _ (path_code_lt path) (open_ x mem)]
    exact regSel_latchRegs (s.at t) distinct mem

end Sys2Proof.Machine
end

section
set_option Elab.async false
/-! SUPPORT. Injection and the obligation about the fault collectors (R434). -/

namespace Sys2Proof.Machine

/-- The arm bit and the refusal bit of FLT_INJ (R434). -/
theorem injWord (v : Word) (ok : Bool) (set_ : bitOf v 15 = true) :
    ((v &&& 0x7000) ||| bitW (bitOf v 15 && ok) 15 ||| bitW (bitOf v 15 && !ok) 11).getLsbD 15 = ok ∧
    ((v &&& 0x7000) ||| bitW (bitOf v 15 && ok) 15 ||| bitW (bitOf v 15 && !ok) 11).getLsbD 11 = !ok := by
  simp [set_, BitVec.getLsbD_or, BitVec.getLsbD_and, getLsbD_bitW, -BitVec.getLsbD_eq_getElem]

theorem fiWord (v : Word) (armed : Bool) : ((v &&& 0x6000) ||| bitW armed 15).getLsbD 15 = armed := by
  simp [BitVec.getLsbD_or, BitVec.getLsbD_and, getLsbD_bitW, -BitVec.getLsbD_eq_getElem]

section
variable (s : State) (v : Word) (t : Nat)

/-- What a write of FLT_INJ arms at a collector (R434). -/
def armedAt (k : Core) : Option (Nat × Bool × Bool) :=
  if bitOf v 15 && (hubSide (s.fld FLT_INJ_SEL 9 0) && srcChecker (s.fld FLT_INJ_SEL 9 0)) &&
    (!srcLocal (s.fld FLT_INJ_SEL 9 0) || decide (k = if bitOf v 12 then .c1 else .c0)) then
    some (s.fld FLT_INJ_SEL 9 0, bitOf v 14, bitOf v 13) else none

theorem completes_fltInj (set_ : bitOf v 15 = true) : Completes (.fltInjArm v t) s fun u =>
    (∀ k, (u.flt k).inject = armedAt s v k) ∧
    (u.reg FLT_INJ).getLsbD 15 = (hubSide (s.fld FLT_INJ_SEL 9 0) && srcChecker (s.fld FLT_INJ_SEL 9 0)) ∧
    (u.reg FLT_INJ).getLsbD 11 = !(hubSide (s.fld FLT_INJ_SEL 9 0) && srcChecker (s.fld FLT_INJ_SEL 9 0)) := by
  have row : exec (.fltInjArm v t) s = done ((((s.at t).updFlt .c0 fun f => { f with inject := armedAt s v .c0 }).updFlt .c1 fun f =>
      { f with inject := armedAt s v .c1 }).setReg FLT_INJ ((v &&& 0x7000) |||
        bitW (bitOf v 15 && (hubSide (s.fld FLT_INJ_SEL 9 0) && srcChecker (s.fld FLT_INJ_SEL 9 0))) 15 |||
        bitW (bitOf v 15 && !(hubSide (s.fld FLT_INJ_SEL 9 0) && srcChecker (s.fld FLT_INJ_SEL 9 0))) 11)) := rfl
  obtain ⟨arm, refused⟩ := injWord v (hubSide (s.fld FLT_INJ_SEL 9 0) && srcChecker (s.fld FLT_INJ_SEL 9 0)) set_
  refine completes_done row ⟨fun k => ?_, ?_, ?_⟩
  · rw [flt_congr ((settle_flts _).trans (setReg_flts _ _ _)), flt_updFlt, flt_updFlt]
    cases k <;> rfl
  · rw [reg_settle_of_not_closing _ FLT_INJ (by decide), reg_setReg_self, arm]
  · rw [reg_settle_of_not_closing _ FLT_INJ (by decide), reg_setReg_self, refused]

/-- The field side's injection as a write of FI_CTRL leaves it (R434). -/
def injArmed (s : State) (armed : Option (Nat × Bool × Bool)) : State := { s with fieldInj := armed }

theorem completes_fiArm (set_ : bitOf v 15 = true) : Completes (.fiArm v t) s fun u =>
    u.fieldInj = (if fieldSide (s.fld FI_SEL 9 0) && srcChecker (s.fld FI_SEL 9 0) then some (s.fld FI_SEL 9 0, bitOf v 14, bitOf v 13) else none) ∧
    (u.reg FI_CTRL).getLsbD 15 = (fieldSide (s.fld FI_SEL 9 0) && srcChecker (s.fld FI_SEL 9 0)) ∧
    (u.reg FI_STAT).getLsbD 14 = !(fieldSide (s.fld FI_SEL 9 0) && srcChecker (s.fld FI_SEL 9 0)) := by
  have row : exec (.fiArm v t) s = done (((injArmed (s.at t) (if bitOf v 15 && (fieldSide (s.fld FI_SEL 9 0) && srcChecker (s.fld FI_SEL 9 0)) then
      some (s.fld FI_SEL 9 0, bitOf v 14, bitOf v 13) else none)).setReg FI_CTRL ((v &&& 0x6000) |||
      bitW (bitOf v 15 && (fieldSide (s.fld FI_SEL 9 0) && srcChecker (s.fld FI_SEL 9 0))) 15)).setReg FI_STAT
        (bitW (!(fieldSide (s.fld FI_SEL 9 0) && srcChecker (s.fld FI_SEL 9 0))) 14)) := congrArg done (if_pos set_)
  rw [set_, Bool.true_and] at row
  refine completes_done row ⟨?_, ?_, ?_⟩
  · rw [settle_fieldInj]
    rfl
  · rw [reg_settle_of_not_closing _ FI_CTRL (by decide), reg_setReg_ne (a := FI_STAT) _ _ (by decide), reg_setReg_self, fiWord]
  · rw [reg_settle_of_not_closing _ FI_STAT (by decide), reg_setReg_self, getLsbD_bitW _ (by decide : 14 < 16)]
    simp

end

/-- Settles O48: the counting, the recording and the merging of a report stated once (`opened_record`, `merged_record`), and every operation
that a reaction or an exit calls only hands the collectors reports (`OnlyReports`). -/
theorem faultsCollected : Obligations.FaultsCollected := by
  unfold Obligations.FaultsCollected
  intro path c t s
  dsimp only
  refine ⟨⟨?_, ?_, ?_⟩, ?_, ?_, ?_, ?_, ?_, ?_⟩
  · intro r rest waits plain small
    exact ⟨completes_note waits plain small, completes_minor waits plain small, completes_major waits plain small,
      fun is id busy => completes_minor_merged waits plain small is busy, fun is => (completes_grave waits plain is).1,
      fun is => (completes_grave waits plain is).2⟩
  · exact fun id => completes_handlingEnd
  · exact fun id src cls code detail => completes_handlingEnd_one
  · exact fun src held auto quiet_ open_ some_ => completes_quietPeriodMajor held auto quiet_ open_ some_
  · exact fun dark auto quiet_ open_ some_ few => completes_quietPeriodGrave dark auto quiet_ open_ some_ few
  · exact fun cause free => completes_collectorSelfFault cause free
  · exact completes_faultBacklogSend
  · intro r rest unlocked shown loud first
    obtain ⟨u, next, log, ovf, words⟩ := completes_fltLogPop (t := t) unlocked shown loud first
    simp only [logWords, List.forall_mem_cons] at words
    obtain ⟨w1, w2, w3, w4, w5, -⟩ := words
    exact ⟨u, next, log, ovf, w1, w2, w3, w4, w5⟩
  · intro v set_
    refine ⟨⟨?_, ?_⟩, ?_, ?_⟩
    · intro hub checker
      obtain ⟨u, next, armed, arm, -⟩ := completes_fltInj s v t set_
      refine ⟨u, next, by rw [arm, hub, checker]; rfl, fun shared => ?_, fun own => ?_⟩
      · exact ⟨by rw [armed, armedAt, set_, hub, checker, shared]; rfl, by rw [armed, armedAt, set_, hub, checker, shared]; rfl⟩
      · rw [armed, armed]
        unfold armedAt
        rw [set_, hub, checker, own]
        by_cases second : bitOf v 12 = true <;> simp [second]
    · intro refused
      have no : (hubSide (s.fld FLT_INJ_SEL 9 0) && srcChecker (s.fld FLT_INJ_SEL 9 0)) = false := by
        rcases refused with h | h <;> rw [h]
        · rfl
        · exact Bool.and_false _
      obtain ⟨u, next, armed, arm, bit⟩ := completes_fltInj s v t set_
      rw [no] at arm bit
      have none_ (k : Core) : armedAt s v k = none := by
        unfold armedAt
        rw [no, Bool.and_false, Bool.false_and]
        rfl
      exact ⟨u, next, (armed .c0).trans (none_ _), (armed .c1).trans (none_ _), bit, arm⟩
    · intro field checker
      obtain ⟨u, next, inject, arm, -⟩ := completes_fiArm s v t set_
      rw [field, checker] at inject arm
      exact ⟨u, next, inject, arm⟩
    · intro refused
      have no : (fieldSide (s.fld FI_SEL 9 0) && srcChecker (s.fld FI_SEL 9 0)) = false := by
        rcases refused with h | h <;> rw [h]
        · rfl
        · exact Bool.and_false _
      obtain ⟨u, next, inject, arm, bit⟩ := completes_fiArm s v t set_
      rw [no] at inject arm bit
      exact ⟨u, next, inject, arm, bit⟩

end Sys2Proof.Machine
end

section
set_option Elab.async false
/-! SUPPORT. Claims and the obligation about the cores (R394-R415). -/

namespace Sys2Proof.Machine

/-! What taking a claim leaves (R395). -/

/-- The registers that taking a claim may touch. -/
abbrev claimRegs : List Nat := [LU_EQ, LU_EVT, DBG_TRC_LOST, DBG_EVT]

/-- What taking a claim leaves of the node's roles. -/
structure SameRoles (s u : State) : Prop where
  starting : u.lead.starting = s.lead.starting
  tested : u.lead.tested = s.lead.tested
  due : u.lead.swapDue = s.lead.swapDue
  after : u.lead.demoteAfter = s.lead.demoteAfter
  ever : s.lead.everLead = true → u.lead.everLead = true
  store : u.store = s.store
  now : u.now = s.now

theorem SameRoles.trans {s t u : State} (h : SameRoles s t) (g : SameRoles t u) : SameRoles s u where
  starting := g.starting.trans h.starting
  tested := g.tested.trans h.tested
  due := g.due.trans h.due
  after := g.after.trans h.after
  ever was := g.ever (h.ever was)
  store := g.store.trans h.store
  now := g.now.trans h.now

theorem SameRoles.of_same {s u : State} (lead : u.lead = s.lead) (store : u.store = s.store) (now : u.now = s.now) : SameRoles s u where
  starting := by rw [lead]
  tested := by rw [lead]
  due := by rw [lead]
  after := by rw [lead]
  ever := by rw [lead]; exact id
  store := store
  now := now

theorem trace_store (s : State) (i : Fin 14) (k r d : Nat) : (s.trace i k r d).store = s.store := by
  obtain ⟨bufs, h | h | h⟩ := trace_cases s i k r d
  · rw [h]
  · rw [h]; rfl
  · rw [h]; exact raise_store _ _ _

theorem sameRoles_trace (s : State) (i : Fin 14) (k r d : Nat) : SameRoles s (s.trace i k r d) :=
  .of_same (trace_lead _ _ _ _ _) (trace_store _ _ _ _ _) (trace_now _ _ _ _ _)

theorem sameRoles_raise (s : State) (a d : Nat) : SameRoles s (s.raise a d) := .of_same (raise_lead _ _ _) (raise_store _ _ _) (raise_now _ _ _)

theorem histAdd_keeps (e : HistEntry) (l : LeadState) : ∃ hist lost, histAdd e l = { l with hist := hist, histLost := lost } := by
  unfold histAdd
  split
  · exact ⟨_, _, rfl⟩
  · exact ⟨_, _, rfl⟩

theorem sameRoles_claimTaken (s : State) (c : Core) (new : Claim) (cause : ClaimCause) : SameRoles s (claimTaken s c new cause) := by
  unfold claimTaken
  dsimp only
  refine SameRoles.trans ?_ ((sameRoles_trace _ _ _ _ _).trans (sameRoles_trace _ _ _ _ _))
  obtain ⟨hist, lost, is⟩ := histAdd_keeps ⟨c, (s.core c).claim, new, cause, s.ring⟩ (s.updCore c fun x => { x with claim := new }).lead
  refine ⟨?_, ?_, ?_, ?_, fun was => ?_, rfl, rfl⟩
  all_goals rw [barReady_lead, updLead_lead, is]
  · rfl
  · rfl
  · rfl
  · rfl
  · show (s.lead.everLead || _) = true
    rw [was, Bool.true_or]

theorem sameRoles_claimsCompared (s y : State) (new : Claim) : SameRoles y (claimsCompared s y new) := by
  unfold claimsCompared
  dsimp only
  have noted (b : Bool) : SameRoles y (y.updLead fun l => { l with equal := b }) := ⟨rfl, rfl, rfl, rfl, id, rfl, rfl⟩
  have counted (b : Bool) : SameRoles y (((y.updLead fun l => { l with equal := b }).bump LU_EQ).evt LU_EVT luEQ) := ⟨rfl, rfl, rfl, rfl, id, rfl, rfl⟩
  split
  · exact (counted _).trans (sameRoles_raise _ _ _)
  · exact noted _

theorem sameRoles_setClaim (s : State) (c : Core) (new : Claim) (cause : ClaimCause) : SameRoles s (setClaim s c new cause) := by
  by_cases same : (s.core c).claim = new
  · rw [setClaim_same same]
    exact .of_same rfl rfl rfl
  · rw [setClaim_changed same]
    exact (sameRoles_claimTaken _ _ _ _).trans (sameRoles_claimsCompared _ _ _)

/-- A core that takes claim 12 has been the lead (R400). -/
theorem everLead_setClaim {s : State} {c : Core} {cause : ClaimCause} (was : (s.core c).claim ≠ .c12) :
    (setClaim s c .c12 cause).lead.everLead = true := by
  rw [setClaim_changed was]
  refine (sameRoles_claimsCompared _ _ _).ever ?_
  refine ((sameRoles_trace _ _ _ _ _).trans (sameRoles_trace _ _ _ _ _)).ever ?_
  rw [barReady_lead, updLead_lead]
  simp

theorem keepsRegs_claimTrace (s : State) (i : Fin 14) (k r d : Nat) : KeepsRegs s (s.trace i k r d) claimRegs := fun a j hj ha =>
  (traceKeeps_trace s i k r d).regs a j hj fun mem => ha (List.mem_cons_of_mem _ (List.mem_cons_of_mem _ mem))

theorem keepsRegs_setClaim (s : State) (c : Core) (new : Claim) (cause : ClaimCause) : KeepsRegs s (setClaim s c new cause) claimRegs := by
  by_cases same : (s.core c).claim = new
  · rw [setClaim_same same]
    exact .of_regs rfl _
  · rw [setClaim_changed same]
    have taken : KeepsRegs s (claimTaken s c new cause) claimRegs := by
      unfold claimTaken
      dsimp only
      refine KeepsRegs.trans ?_ ((keepsRegs_claimTrace _ _ _ _ _).trans (keepsRegs_claimTrace _ _ _ _ _))
      exact .of_regs rfl _
    refine taken.trans ?_
    generalize claimTaken s c new cause = y
    unfold claimsCompared
    dsimp only
    have noted (x : State) (b : Bool) : KeepsRegs x (x.updLead fun l => { l with equal := b }) claimRegs := .of_regs rfl _
    split
    · exact (((noted _ _).bump (by simp)).evt (by simp) _).raise _ _
    · exact noted _ _

/-! A core is demoted (R405). -/

/-- The state in which a demoted core takes its claim: its frames in mid-send are cut where it was accepted (R409). -/
def cutFor (s : State) (c : Core) : State := if s.accepted = some c then cutAndRequeue (cutAndRequeue s .a) .b else s

theorem cutFor_keeps (s : State) (c : Core) : (cutFor s c).lead = s.lead ∧ (cutFor s c).store = s.store := by
  unfold cutFor
  split
  · rw [(cutAndRequeue_keeps _ _).1, (cutAndRequeue_keeps _ _).1, (cutAndRequeue_keeps _ _).2, (cutAndRequeue_keeps _ _).2]
    exact ⟨rfl, rfl⟩
  · exact ⟨rfl, rfl⟩

theorem updateFails_none {s : State} (noUpdate : s.store.upd = none) : updateFails s = s := by
  unfold updateFails
  rw [noUpdate]

theorem demote_eq {s : State} {c : Core} {cause : ClaimCause} (noUpdate : s.store.upd = none) : demote s c cause =
    ((((setClaim (cutFor s c) c .c0 cause).evt LU_EVT luDEMOTE).updCore c fun x => { x with phase := .selfTest }).updLead fun l =>
      { l with swapDue := none, demoteAfter := false }) := by
  have idle := updateFails_none (s := cutFor s c) (by rw [(cutFor_keeps s c).2, noUpdate])
  unfold demote
  dsimp only
  unfold cutFor at idle ⊢
  rw [idle]

/-- The cores after a demotion, and its event. -/
theorem demote_keeps {s : State} {c : Core} {cause : ClaimCause} (noUpdate : s.store.upd = none) :
    (∀ d, (demote s c cause).core d = if d = c then { s.core c with claim := .c0, phase := .selfTest } else s.core d) ∧
    EvtSet (demote s c cause) LU_EVT luDEMOTE := by
  rw [demote_eq noUpdate]
  refine ⟨fun d => ?_, (evtSet_evt _ _ _ (by decide)).congr rfl⟩
  have before (k : Core) : (cutFor s c).core k = s.core k := core_congr (cutFor_keeps s c).1 k
  refine (core_updLead rfl d).trans ?_
  rw [core_updCore, evt_core, evt_core, setClaim_core, setClaim_core, if_pos rfl, before, before]
  by_cases own : d = c
  · rw [if_pos own, if_pos own]
  · rw [if_neg own, if_neg own, if_neg own]

end Sys2Proof.Machine
end

section
set_option Elab.async false
/-! SUPPORT. Self-tests, rejoins, the switchover, the planned swap and the obligation about claims (R400-R415). -/

namespace Sys2Proof.Machine

theorem other_ne (c : Core) : c.other ≠ c := by cases c <;> decide

/-! Rejoins (R405, R406). -/

section
variable (s : State) (c : Core)

theorem beginRejoin_core : (((beginRejoin s c).core c).claim = .c4 ∧ ((beginRejoin s c).core c).phase = .copying) ∧
    ∀ d, d ≠ c → (beginRejoin s c).core d = s.core d := by
  unfold beginRejoin
  refine ⟨?_, fun d other => ?_⟩
  · rw [core_updCore_self, setClaim_core, if_pos rfl]
    exact ⟨rfl, rfl⟩
  · rw [core_updCore, if_neg other, setClaim_core, if_neg other]

theorem rejoinLimit_core (d : Core) : (rejoinLimit s c).core d = if d = c then { s.core c with phase := .idle } else s.core d := by
  rw [← core_updCore s c d fun x => { x with phase := .idle }]
  exact (core_congr (raiseCore_lead _ _ _ _) d).trans (evt_core _ _ _ d)

theorem rejoinLimit_evt : EvtSet (rejoinLimit s c) LU_EVT luREJLIM := (evtSet_evt _ _ _ (by decide)).congr (raiseCore_regs _ _ _ _)

theorem mayRejoin_other {d : Core} (other : d ≠ c) : (mayRejoin s c).core d = s.core d := by
  unfold mayRejoin
  split
  · rw [rejoinLimit_core, if_neg other]
  split
  · rw [core_updCore, if_neg other]
  · exact (beginRejoin_core s c).2 d other

theorem sameRoles_mayRejoin : SameRoles s (mayRejoin s c) := by
  unfold mayRejoin
  split
  · exact ⟨rfl, rfl, rfl, rfl, id, rfl, rfl⟩
  split
  · exact ⟨rfl, rfl, rfl, rfl, id, rfl, rfl⟩
  · exact (sameRoles_setClaim s c .c4 .rejoinStep).trans ⟨rfl, rfl, rfl, rfl, id, rfl, rfl⟩

end

section
variable {s : State} {c : Core}

/-- What a rejoin that has failed leaves (R406). -/
theorem rejoinFailed_keeps (noUpdate : s.store.upd = none) : ((rejoinFailed s c).core c).claim = .c0 ∧
    (rejoinFailed s c).reg LU_RSYNC_FAIL = bumpW (s.reg LU_RSYNC_FAIL) 1 ∧ EvtSet (rejoinFailed s c) LU_EVT luRSYNC_FAIL ∧
    ((recentRejoins s (s.core c)).length < rejMax s → s.bit LU_CTRL 15 = true → ((rejoinFailed s c).core c).phase = .selfTest) := by
  have counted : ∃ y, y = ((setClaim s c .c0 .rejoinFailed).bump LU_RSYNC_FAIL).evt LU_EVT luRSYNC_FAIL ∧ (y.core c).claim = .c0 ∧
      y.reg LU_RSYNC_FAIL = bumpW (s.reg LU_RSYNC_FAIL) 1 ∧ EvtSet y LU_EVT luRSYNC_FAIL := by
    refine ⟨_, rfl, ?_, ?_, evtSet_evt _ _ _ (by decide)⟩
    · rw [evt_core, bump_core, setClaim_core, if_pos rfl]
    · rw [reg_evt_ne _ _ (by decide), reg_bump_self]
      exact congrArg (bumpW · 1) (keepsRegs_setClaim s c .c0 .rejoinFailed LU_RSYNC_FAIL 0 (by decide) (by decide))
  obtain ⟨y, is, claim, count, evt⟩ := counted
  have eq : rejoinFailed s c = if rejMax s ≤ (recentRejoins s (s.core c)).length then rejoinLimit (y.raiseCore c Src.rejoinFailed c.ix.val) c
      else (y.raiseCore c Src.rejoinFailed c.ix.val).updCore c fun x => { x with phase := if s.bit LU_CTRL 15 then .selfTest else .idle } := by
    unfold rejoinFailed
    rw [updateFails_none noUpdate, is]
  rw [eq]
  split
  · rename_i many
    refine ⟨?_, ?_, ?_, fun few => absurd few (Nat.not_lt.2 many)⟩
    · rw [rejoinLimit_core, if_pos rfl]
      exact claim
    · have kept : (rejoinLimit (y.raiseCore c Src.rejoinFailed c.ix.val) c).reg LU_RSYNC_FAIL = y.reg LU_RSYNC_FAIL :=
        reg_evt_ne ((y.raiseCore c Src.rejoinFailed c.ix.val).updCore c _) _ (by decide)
      rw [kept, count]
    · exact ((evt.congr (u := (y.raiseCore c Src.rejoinFailed c.ix.val).updCore c _) rfl).evt _ _).congr (raiseCore_regs _ _ _ _)
  · refine ⟨?_, count, evt.congr rfl, fun _ auto => ?_⟩
    · rw [core_updCore_self]
      exact claim
    · rw [core_updCore_self, if_pos auto]

/-! Self-test at a start (R401). -/

theorem startChosen_keeps (from0 : (s.core c).claim = .c0) : ((startChosen s c).core c).claim = .c12 ∧ (startChosen s c).lead.starting = false ∧
    (startChosen s c).lead.everLead = true := by
  have chosen : ∃ y, y = setClaim (s.updLead fun l => { l with starting := false }) c .c12 .start ∧ (y.core c).claim = .c12 ∧
      y.lead.starting = false ∧ y.lead.everLead = true := by
    refine ⟨_, rfl, ?_, (sameRoles_setClaim _ _ _ _).starting, everLead_setClaim ?_⟩
    · rw [setClaim_core, if_pos rfl]
    · rw [core_updLead rfl, from0]
      decide
  obtain ⟨y, is, claim, starting, ever⟩ := chosen
  have eq : startChosen s c = match vget s.lead.tested c.other.ix with
      | some true => mayRejoin y c.other
      | some false => y.updCore c.other fun x => { x with phase := .selfTest }
      | none => y := by
    rw [is]
    unfold startChosen
    rfl
  rw [eq]
  split
  · have roles := sameRoles_mayRejoin y c.other
    exact ⟨by rw [mayRejoin_other _ _ (other_ne c).symm, claim], roles.starting.trans starting, roles.ever ever⟩
  · exact ⟨by rw [core_updCore, if_neg (other_ne c).symm, claim], starting, ever⟩
  · exact ⟨claim, starting, ever⟩

end

/-! Entry to the dark-node state leaves the claims (R430). -/

theorem lineRole_lead (s : State) (r : Ring) : (lineRole s r).lead = s.lead := by
  have begun (x : State) : (headBegin x r).lead = x.lead := by
    unfold headBegin
    dsimp only
    split
    · exact raise_lead _ _ _
    · rfl
  unfold lineRole
  dsimp only
  split
  · split
    · rfl
    · exact begun _
  · split <;> rfl

theorem damp_lead (s : State) (p : Port) : (damp s p).lead = s.lead := by
  unfold damp
  dsimp only
  split
  · rfl
  · split <;> rfl

theorem portDown_lead (s : State) (p : Port) : (portDown s p).lead = s.lead := by
  unfold portDown
  dsimp only
  split
  · rfl
  · refine (lineRole_lead _ .b).trans ((lineRole_lead _ .a).trans ((damp_lead _ _).trans ?_))
    exact raise_lead _ _ _

theorem darkHead_lead (s : State) (r : Ring) : (darkHead s r).lead = s.lead := by
  unfold darkHead
  split
  · exact (updDark_lead _ _).trans (portDown_lead _ _)
  · rfl

theorem darkEnter_lead (s : State) (src : Nat) (power : Bool) : (darkEnter s src power).lead = s.lead := by
  unfold darkEnter
  dsimp only
  split
  · rfl
  · rw [traceAll_lead, darkHead_lead, darkHead_lead]
    split
    · refine (updStream_lead _ _ _).trans ((updStream_lead _ _ _).trans ((updFab_lead _ _).trans ((updCue_lead _ _).trans ((updCue_lead _ _).trans ?_))))
      exact (updStream_lead _ _ _).trans ((updStream_lead _ _ _).trans ((updCue_lead _ _).trans (updCue_lead _ _)))
    · refine (updCue_lead _ _).trans ((updStream_lead _ _ _).trans ((updStream_lead _ _ _).trans ((updCue_lead _ _).trans (updCue_lead _ _))))

/-! The cores as the commands leave them. -/

section
variable {s : State} {c : Core} {t : Nat}

theorem eq_other {c d : Core} (h : d ≠ c) : d = c.other := by
  revert h
  cases c <;> cases d <;> decide

theorem completes_claimBeat : Completes (.claimBeat c t) s fun u =>
    u.core c = { s.core c with beat := true } ∧ u.core c.other = s.core c.other ∧ SameRegs s u [] := by
  have row : exec (.claimBeat c t) s = done ((s.at t).updCore c fun x => { x with beat := true }) := rfl
  refine completes_done row ⟨?_, ?_, sameRegs_settle rfl⟩
  · rw [settle_core, core_updCore_self]
    rfl
  · rw [settle_core, core_updCore, if_neg (other_ne c)]
    rfl

theorem completes_beatLoss (holds : (s.core c).claim ≠ .c0) (noUpdate : s.store.upd = none) : Completes (.beatLoss c t) s fun u =>
    u.core c = { s.core c with beat := false, claim := .c0, phase := .selfTest } ∧ u.core c.other = s.core c.other ∧
    (u.reg LU_EVT).getLsbD luDEMOTE = true := by
  have row : exec (.beatLoss c t) s = done (demote ((s.at t).updCore c fun x => { x with beat := false }) c .beatLoss) := congrArg done (if_neg holds)
  obtain ⟨cores, evt⟩ := demote_keeps (s := (s.at t).updCore c fun x => { x with beat := false }) (c := c) (cause := .beatLoss) noUpdate
  refine completes_done row ⟨?_, ?_, evt.settle (by decide)⟩
  · rw [settle_core, cores, if_pos rfl, core_updCore_self]
    rfl
  · rw [settle_core, cores, if_neg (other_ne c), core_updCore, if_neg (other_ne c)]
    rfl

theorem completes_claimRefresh : Completes (.claimRefresh c t) s fun u =>
    (∃ more, (u.bdir .hf).ready = (s.bdir .hf).ready ++ ⟨⟨.claim, .claim c (s.core c).claim.value⟩, []⟩ :: more) ∧ u.core c = s.core c ∧
    SameRegs s u [] := by
  have row : exec (.claimRefresh c t) s = done ((s.at t).barReady .hf .claim (.claim c (s.core c).claim.value)) := rfl
  refine completes_done row ⟨?_, ?_, sameRegs_settle rfl⟩
  · obtain ⟨more, is⟩ := moreReady_settle ((s.at t).barReady .hf .claim (.claim c (s.core c).claim.value)) .hf
    refine ⟨more, ?_⟩
    rw [is]
    simp [State.barReady, State.updBar, State.bdir]
  · rw [settle_core]
    rfl

theorem completes_claimMissing : Completes (.claimMissing c t) s fun u =>
    u.core c = { s.core c with fieldClaim := .c0 } ∧ u.core c.other = s.core c.other := by
  have row : exec (.claimMissing c t) s = done (((s.at t).updCore c fun x => { x with fieldClaim := .c0 }).raise Src.claimMissing c.ix.val) := rfl
  refine completes_done row ⟨?_, ?_⟩
  · rw [settle_core, raise_core, core_updCore_self]
    rfl
  · rw [settle_core, raise_core, core_updCore, if_neg (other_ne c)]
    rfl

theorem completes_equalClaims (equal : s.lead.equal = true) (noUpdate : s.store.upd = none) : Completes (.equalClaims t) s fun u =>
    (u.core .c1).claim = .c0 ∧ (u.core .c1).phase = .selfTest ∧ u.core .c0 = s.core .c0 := by
  have row : exec (.equalClaims t) s = done (demote (s.at t) .c1 .equal) := congrArg done (if_pos equal)
  obtain ⟨cores, -⟩ := demote_keeps (s := s.at t) (c := .c1) (cause := .equal) noUpdate
  refine completes_done row ⟨?_, ?_, ?_⟩
  · rw [settle_core, cores, if_pos rfl]
  · rw [settle_core, cores, if_pos rfl]
  · rw [settle_core, cores, if_neg (by decide)]
    rfl

theorem completes_noCore (ever : s.lead.everLead = true) (none_ : s.accepted = none) : Completes (.noCore t) s fun u =>
    (u.reg LU_EVT).getLsbD luNOCORE = true := by
  have cond : ((s.at t).lead.everLead && (s.at t).accepted.isNone) = true := by
    show (s.lead.everLead && s.accepted.isNone) = true
    rw [ever, none_]
    rfl
  have row : exec (.noCore t) s = done (((s.at t).evt LU_EVT luNOCORE).raise Src.noCore 0) := congrArg done (if_pos cond)
  exact completes_done row (EvtSet.settle (EvtSet.raise (evtSet_evt _ _ _ (by decide)) _ _) (by decide))

/-- The results of both cores' self-tests at a start, a core's own among them (R401). -/
def testsWith (s : State) (c : Core) (pass : Bool) : State :=
  (s.updLead fun l => { l with tested := vset l.tested c.ix (some pass) }).updCore c fun x => { x with phase := .idle }

theorem testsWith_core (s : State) (c : Core) (pass : Bool) : (testsWith s c pass).core c = { s.core c with phase := .idle } := by
  unfold testsWith
  rw [core_updCore_self]
  rfl

theorem testsWith_tested (s : State) (c d : Core) (pass : Bool) :
    vget (testsWith s c pass).lead.tested d.ix = if d = c then some pass else vget s.lead.tested d.ix := by
  have is : (testsWith s c pass).lead.tested = vset s.lead.tested c.ix (some pass) := rfl
  rw [is, vget_vset]
  by_cases own : d = c
  · rw [if_pos own, if_pos (congrArg Core.ix own)]
  · rw [if_neg own, if_neg fun h => own (core_ix_inj.1 h)]

theorem startTested_eq (s : State) (c : Core) (pass : Bool) : startTested s c pass =
    match vget (testsWith s c pass).lead.tested (Core.ix .c0), vget (testsWith s c pass).lead.tested (Core.ix .c1) with
    | some true, _ => startChosen (testsWith s c pass) .c0
    | some false, some true => startChosen (testsWith s c pass) .c1
    | some false, some false => noneAtStart (testsWith s c pass)
    | _, _ => testsWith s c pass := rfl

section
variable (tests : (s.core c).phase = .selfTest) (from0 : (s.core c).claim = .c0)
include tests from0

theorem coreTested_row (pass : Bool) : exec (.coreSelfTestDone c pass t) s = done (if s.lead.starting then startTested (s.at t) c pass
    else if pass then mayRejoin (s.at t) c
    else rejoinFailed ((s.at t).updCore c fun x => { x with rejoins := (s.at t).now :: recentRejoins (s.at t) x }) c) := by
  have runs : ¬ (((s.at t).core c).phase ≠ .selfTest ∨ ((s.at t).core c).claim ≠ .c0) := by
    rintro (h | h)
    · exact h tests
    · exact h from0
  exact congrArg done (if_neg runs)

theorem completes_startPassed (starts : s.lead.starting = true) (first : c = .c0 ∨ vget s.lead.tested 0 = some false) :
    Completes (.coreSelfTestDone c true t) s fun u => (u.core c).claim = .c12 ∧ u.lead.starting = false ∧ u.lead.everLead = true := by
  have chosen : startTested (s.at t) c true = startChosen (testsWith (s.at t) c true) c := by
    rw [startTested_eq, testsWith_tested, testsWith_tested]
    cases c
    · rw [if_pos rfl]
    · rcases first with no | failed
      · exact absurd no (by decide)
      · rw [if_neg (by decide), if_pos rfl, show vget (s.at t).lead.tested (Core.ix .c0) = some false from failed]
  have row := coreTested_row (t := t) tests from0 true
  rw [starts, if_pos rfl, chosen] at row
  obtain ⟨claim, starting, ever⟩ := startChosen_keeps (s := testsWith (s.at t) c true) (c := c) (by rw [testsWith_core]; exact from0)
  refine completes_done row ⟨?_, ?_, ?_⟩
  · rw [settle_core, claim]
  · rw [settle_lead, starting]
  · rw [settle_lead, ever]

theorem completes_startFailed (starts : s.lead.starting = true) (failed : vget s.lead.tested c.other.ix = some false) :
    Completes (.coreSelfTestDone c false t) s fun u => u.dark.dark = true ∧ (u.core c).claim = .c0 := by
  have none_ : startTested (s.at t) c false = noneAtStart (testsWith (s.at t) c false) := by
    have both (d : Core) : vget (testsWith (s.at t) c false).lead.tested d.ix = some false := by
      rw [testsWith_tested]
      split
      · rfl
      · rename_i other
        rw [eq_other other]
        exact failed
    rw [startTested_eq, both .c0, both .c1]
  have row := coreTested_row (t := t) tests from0 false
  rw [starts, if_pos rfl, none_] at row
  refine completes_done row ⟨?_, ?_⟩
  · rw [settle_dark_dark]
    exact darkEnter_dark _ _ _
  · rw [settle_core, noneAtStart, core_congr ((darkEnter_lead _ _ _).trans (raise_lead _ _ _)), testsWith_core]
    exact from0

section
variable (running : s.lead.starting = false)
include running

theorem completes_retestPassed :
    ((recentRejoins (s.at t) (s.core c)).length < rejMax s → s.bit LU_CTRL 15 = true → Completes (.coreSelfTestDone c true t) s fun u =>
      (u.core c).claim = .c4 ∧ (u.core c).phase = .copying ∧ u.core c.other = s.core c.other) ∧
    (rejMax s ≤ (recentRejoins (s.at t) (s.core c)).length → Completes (.coreSelfTestDone c true t) s fun u =>
      (u.core c).claim = .c0 ∧ (u.core c).phase = .idle ∧ (u.reg LU_EVT).getLsbD luREJLIM = true) := by
  have row := coreTested_row (t := t) tests from0 true
  rw [running, if_neg (by decide), if_pos rfl] at row
  constructor
  · intro few auto
    have begins : mayRejoin (s.at t) c = beginRejoin (s.at t) c :=
      (if_neg (Nat.not_le.2 few)).trans (if_neg (by show ¬ (!s.bit LU_CTRL 15) = true; rw [auto]; decide))
    rw [begins] at row
    obtain ⟨⟨claim, phase⟩, others⟩ := beginRejoin_core (s.at t) c
    exact completes_done row ⟨by rw [settle_core, claim], by rw [settle_core, phase], (settle_core _ _).trans (others _ (other_ne c))⟩
  · intro many
    have limit : mayRejoin (s.at t) c = rejoinLimit (s.at t) c := if_pos many
    rw [limit] at row
    refine completes_done row ⟨?_, ?_, (rejoinLimit_evt _ _).settle (by decide)⟩
    · rw [settle_core, rejoinLimit_core, if_pos rfl]
      exact from0
    · rw [settle_core, rejoinLimit_core, if_pos rfl]

theorem completes_retestFailed (noUpdate : s.store.upd = none) : Completes (.coreSelfTestDone c false t) s fun u =>
    (u.core c).claim = .c0 ∧ u.reg LU_RSYNC_FAIL = bumpW (s.reg LU_RSYNC_FAIL) 1 ∧ (u.reg LU_EVT).getLsbD luRSYNC_FAIL = true := by
  have row := coreTested_row (t := t) tests from0 false
  rw [running, if_neg (by decide), if_neg (by decide)] at row
  obtain ⟨claim, count, evt, -⟩ := rejoinFailed_keeps (c := c)
    (s := (s.at t).updCore c fun x => { x with rejoins := (s.at t).now :: recentRejoins (s.at t) x }) noUpdate
  refine completes_done row ⟨by rw [settle_core, claim], ?_, evt.settle (by decide)⟩
  rw [reg_settle_of_not_closing _ LU_RSYNC_FAIL (by decide), count]
  rfl

end
end

end

end Sys2Proof.Machine
end

section
set_option Elab.async false
/-! SUPPORT. Demotions, swaps, rejoins and the switchover by command, and the obligation about claims (R405-R415). -/

namespace Sys2Proof.Machine

section
variable {s : State} {c : Core} {t : Nat}

theorem completes_luDemote (holds : (s.core c).claim ≠ .c0) (apart : (s.core c).claim ≠ .c12 ∨ (s.core c.other).claim ≠ .c8)
    (noUpdate : s.store.upd = none) : Completes (.luDemote c t) s fun u => CoreTo s u c .c0 .selfTest ∧ u.core c.other = s.core c.other := by
  have lone : ¬ (((s.at t).core c).claim = .c12 ∧ ((s.at t).core c.other).claim = .c8 ∧ (!rejoining (s.at t)) = true) := by
    rintro ⟨lead, under, -⟩
    rcases apart with h | h
    · exact h lead
    · exact h under
  have row : exec (.luDemote c t) s = done (demote (s.at t) c .command) := congrArg done ((if_neg lone).trans (if_neg holds))
  obtain ⟨cores, -⟩ := demote_keeps (s := s.at t) (c := c) (cause := .command) noUpdate
  refine completes_done row ⟨?_, ?_⟩
  · unfold CoreTo
    rw [settle_core, cores, if_pos rfl]
    rfl
  · rw [settle_core, cores, if_neg (other_ne c)]
    rfl

section
variable (leads : (s.core c).claim = .c12) (under : (s.core c.other).claim = .c8) (whole : rejoining s = false) (free : s.lead.swapDue = none)
  (noCollision : s.lead.swapColl ≠ some s.present)
include leads under whole free noCollision

/-- The lead's request for a swap is taken up (R410). -/
theorem swapRequest_taken (cause : ClaimCause) :
    swapRequest (s.at t) c cause = (s.at t).updLead fun l => { l with swapDue := some (c, max s.now t, cause) } := by
  have wanted : ¬ (!(if ((s.at t).core c).claim = .c12 then decide (((s.at t).core c.other).claim = .c8)
      else decide (((s.at t).core c).claim = .c8) && decide (((s.at t).core c.other).claim = .c12)) || rejoining (s.at t)) = true := by
    rw [if_pos (by exact leads), show ((s.at t).core c.other).claim = .c8 from under, show rejoining (s.at t) = false from whole]
    decide
  unfold swapRequest
  dsimp only
  rw [if_neg (by exact noCollision), show (s.at t).lead.swapDue = none from free]
  exact if_neg wanted

theorem completes_swapCommands (lead : s.lead? = some c) :
    Completes (.luSwap t) s (fun u => u.lead.swapDue = some (c, max s.now t, .swap) ∧ u.core c = s.core c ∧ u.core c.other = s.core c.other) ∧
    Completes (.luDemote c t) s (fun u => u.lead.swapDue = some (c, max s.now t, .command) ∧ u.lead.demoteAfter = true ∧ u.core c = s.core c) := by
  constructor
  · have row : exec (.luSwap t) s = done ((s.at t).updLead fun l => { l with swapDue := some (c, max s.now t, .swap) }) := by
      rw [← swapRequest_taken leads under whole free noCollision]
      refine congrArg done ?_
      unfold leadSwap
      rw [show (s.at t).lead? = some c from lead]
    refine completes_done row ⟨?_, ?_, ?_⟩
    · rw [settle_lead]
      rfl
    · rw [settle_core]
      rfl
    · rw [settle_core]
      rfl
  · have both : ((s.at t).core c).claim = .c12 ∧ ((s.at t).core c.other).claim = .c8 ∧ (!rejoining (s.at t)) = true :=
      ⟨leads, under, by rw [show rejoining (s.at t) = false from whole]; rfl⟩
    have row : exec (.luDemote c t) s = done (((s.at t).updLead fun l => { l with swapDue := some (c, max s.now t, .command) }).updLead fun l =>
        { l with demoteAfter := l.swapDue.isSome }) := by
      rw [← swapRequest_taken leads under whole free noCollision]
      refine congrArg done ((if_pos both).trans ?_)
      rw [if_neg (by rw [show (s.at t).lead.swapDue = none from free]; decide)]
    refine completes_done row ⟨?_, ?_, ?_⟩
    · rw [settle_lead]
      rfl
    · rw [settle_lead]
      rfl
    · rw [settle_core]
      rfl

end

theorem completes_luRejoin (from0 : (s.core c).claim = .c0) (led : s.lead?.isSome = true) : Completes (.luRejoin c t) s fun u =>
    (u.core c).claim = .c4 ∧ (u.core c).phase = .copying := by
  have may : ((s.at t).core c).claim = .c0 ∧ (s.at t).lead?.isSome = true := ⟨from0, led⟩
  have row : exec (.luRejoin c t) s = done (beginRejoin (s.at t) c) := congrArg done (if_pos may)
  obtain ⟨⟨claim, phase⟩, -⟩ := beginRejoin_core (s.at t) c
  exact completes_done row ⟨by rw [settle_core, claim], by rw [settle_core, phase]⟩

theorem completes_rejoinCopyDone (copies : (s.core c).phase = .copying) (led : s.lead?.isSome = true) : Completes (.rejoinCopyDone c t) s fun u =>
    u.core c = { s.core c with phase := .finishing } ∧ SameRegs s u [] := by
  have may : ((s.at t).core c).phase = .copying ∧ (s.at t).lead?.isSome = true := ⟨copies, led⟩
  have row : exec (.rejoinCopyDone c t) s = done ((s.at t).updCore c fun x => { x with phase := .finishing }) := congrArg done (if_pos may)
  refine completes_done row ⟨?_, sameRegs_settle rfl⟩
  rw [settle_core, core_updCore_self]
  rfl

/-! A core takes what the lead has (R405). -/

theorem copyCounters_keeps (s : State) (from_ into : Core) : (copyCounters s from_ into).lead = s.lead ∧ (copyCounters s from_ into).flts = s.flts := by
  unfold copyCounters
  dsimp only
  exact ⟨each_keeps (fun s : State => s.lead) (by intros; rfl) _ _, each_keeps (fun s : State => s.flts) (by intros; rfl) _ _⟩

theorem copyCollector_keeps (s : State) (from_ into : Core) : (copyCollector s from_ into).lead = s.lead ∧
    ((copyCollector s from_ into).flt into).log = (s.flt from_).log := by
  have copied : ∃ y, y = (s.updFlt into fun x => { x with
      log := (s.flt from_).log, ovf := (s.flt from_).ovf, nextId := (s.flt from_).nextId, srcs := (s.flt from_).srcs, handling := none
      waiting := [] }) ∧ y.lead = s.lead ∧ (y.flt into).log = (s.flt from_).log := ⟨_, rfl, rfl, by rw [flt_updFlt_self]⟩
  obtain ⟨y, is, lead, log⟩ := copied
  have eq : copyCollector s from_ into = (y.each coreRegs fun s a => s.setRegSel a into.ix.val (s.regSel a from_.ix.val)).each (List.range 1024)
      fun s k => s.setRegSel FLT_SRC_CNT (2 * k + into.ix.val) (s.regSel FLT_SRC_CNT (2 * k + from_.ix.val)) := by
    rw [is]
    rfl
  rw [eq]
  generalize List.range 1024 = l
  constructor
  · exact (each_keeps (fun s : State => s.lead) (by intros; rfl) _ _).trans ((each_keeps (fun s : State => s.lead) (by intros; rfl) _ _).trans lead)
  · rw [flt_congr ((each_keeps (fun s : State => s.flts) (by intros; rfl) _ _).trans (each_keeps (fun s : State => s.flts) (by intros; rfl) _ _)), log]

theorem completes_rejoinFinish (lead : s.lead? = some c.other) (finishing : (s.core c).phase = .finishing) (noUpdate : s.store.upd = none) :
    Completes (.rejoinFinish c t) s fun u => CoreTo s u c .c8 .idle ∧ u.core c.other = s.core c.other ∧
      (u.flt c).log = (s.flt c.other).log ∧ (u.reg LU_EVT).getLsbD luRSYNC_OK = true := by
  have row : exec (.rejoinFinish c t) s = done (rejoinEnd (s.at t) c c.other) := by
    refine congrArg done ?_
    unfold rejoinFinish
    rw [show (s.at t).lead? = some c.other from lead]
    refine if_neg ?_
    rintro (h | h | h)
    · exact h finishing
    · exact other_ne c h
    · rw [show (s.at t).store.upd = none from noUpdate] at h
      exact Bool.noConfusion h
  have claimed (d : Core) := setClaim_core (s.at t) c d .c8 .rejoinStep
  have logs : ((setClaim (s.at t) c .c8 .rejoinStep).flt c.other).log = (s.flt c.other).log :=
    ((onlyReports_setClaim (s.at t) c .c8 .rejoinStep).flt c.other).2.1
  unfold rejoinEnd at row
  generalize setClaim (s.at t) c .c8 .rejoinStep = x at row claimed logs
  obtain ⟨leadX, logX⟩ := copyCollector_keeps x c.other c
  generalize copyCollector x c.other c = y at row leadX logX
  obtain ⟨leadY, fltsY⟩ := copyCounters_keeps y c.other c
  generalize copyCounters y c.other c = z at row leadY fltsY
  refine completes_done row ⟨?_, ?_, ?_, (evtSet_evt _ _ _ (by decide)).settle (by decide)⟩
  · unfold CoreTo
    rw [settle_core, evt_core, core_updCore_self, core_congr (leadY.trans leadX), claimed, if_pos rfl]
    rfl
  · rw [settle_core, evt_core, core_updCore, if_neg (other_ne c), core_congr (leadY.trans leadX), claimed, if_neg (other_ne c)]
    rfl
  · refine (congrArg Collector.log (flt_congr (s := y) ?_ c)).trans (logX.trans logs)
    exact (settle_flts _).trans ((evt_flts _ _ _).trans fltsY)

theorem completes_rsyncTimeout (rejoins : (s.core c).phase = .copying ∨ (s.core c).phase = .finishing) (noUpdate : s.store.upd = none) :
    Completes (.rsyncTimeout c t) s fun u => (u.core c).claim = .c0 ∧ u.reg LU_RSYNC_FAIL = bumpW (s.reg LU_RSYNC_FAIL) 1 ∧
      ((recentRejoins (s.at t) (s.core c)).length < rejMax s → s.bit LU_CTRL 15 = true → (u.core c).phase = .selfTest) := by
  have row : exec (.rsyncTimeout c t) s = done (rejoinFailed (s.at t) c) := congrArg done (if_pos rejoins)
  obtain ⟨claim, count, -, retry⟩ := rejoinFailed_keeps (s := s.at t) (c := c) noUpdate
  refine completes_done row ⟨by rw [settle_core, claim], ?_, fun few auto => ?_⟩
  · rw [reg_settle_of_not_closing _ LU_RSYNC_FAIL (by decide), count]
    rfl
  · rw [settle_core]
    exact retry few auto

/-! The switchover and the planned swap (R408-R410). -/

/-- What follows the claim at a switchover: its trace entries, its report, and the reactions the failed lead still had to issue (R408, R436). -/
def tookOver (y : State) (c : Core) : State :=
  takeReactions ((((y.trace (coreTrace .c0) 0x15 c.ix.val 0).trace (coreTrace .c1) 0x15 c.ix.val 0).raiseCore c Src.switchover c.ix.val).updLead
    fun l => { l with swoCount := l.swoCount + 1 }) c.other c

theorem takeReactions_keeps (s : State) (from_ into : Core) : (takeReactions s from_ into).lead = s.lead ∧ (takeReactions s from_ into).regs = s.regs :=
  ⟨(updFlt_lead _ _ _).trans (updFlt_lead _ _ _), (updFlt_regs _ _ _).trans (updFlt_regs _ _ _)⟩

theorem tookOver_core (y : State) (c d : Core) : (tookOver y c).core d = y.core d := by
  unfold tookOver
  rw [core_congr (takeReactions_keeps _ _ _).1, core_updLead rfl, core_congr (raiseCore_lead _ _ _ _), core_congr (trace_lead _ _ _ _ _),
    core_congr (trace_lead _ _ _ _ _)]

theorem tookOver_regs (y : State) (c : Core) : KeepsRegs y (tookOver y c) claimRegs := by
  refine ((keepsRegs_claimTrace y (coreTrace .c0) 0x15 c.ix.val 0).trans (keepsRegs_claimTrace _ (coreTrace .c1) 0x15 c.ix.val 0)).trans (.of_regs ?_ _)
  exact (takeReactions_keeps _ _ _).2.trans ((updLead_regs _ _).trans (raiseCore_regs _ _ _ _))

theorem EvtSet.tookOver {y : State} {a i : Nat} (h : EvtSet y a i) (apart : a ≠ DBG_TRC_LOST) (c : Core) : EvtSet (tookOver y c) a i := by
  refine ((h.trace apart (coreTrace .c0) 0x15 c.ix.val 0).trace apart (coreTrace .c1) 0x15 c.ix.val 0).congr ?_
  exact (takeReactions_keeps _ _ _).2.trans ((updLead_regs _ _).trans (raiseCore_regs _ _ _ _))

theorem switchover_eq (under : (s.core c).claim = .c8) (fell : (s.core c.other).claim = .c0) :
    switchover s c = tookOver (((setClaim s c .c12 .raise).bump LU_SWO).evt LU_EVT luSWO) c := if_pos ⟨under, fell⟩

theorem completes_switchover (under : (s.core c).claim = .c8) (fell : (s.core c.other).claim = .c0) : Completes (.switchover c t) s fun u =>
    (u.core c).claim = .c12 ∧ u.core c.other = s.core c.other ∧ u.reg LU_SWO = bumpW (s.reg LU_SWO) 1 ∧ (u.reg LU_EVT).getLsbD luSWO = true := by
  have row : exec (.switchover c t) s = done (tookOver (((setClaim (s.at t) c .c12 .raise).bump LU_SWO).evt LU_EVT luSWO) c) :=
    congrArg done (switchover_eq (s := s.at t) under fell)
  have evt : EvtSet (((setClaim (s.at t) c .c12 .raise).bump LU_SWO).evt LU_EVT luSWO) LU_EVT luSWO := evtSet_evt _ _ _ (by decide)
  refine completes_done row ⟨?_, ?_, ?_, (evt.tookOver (by decide) c).settle (by decide)⟩
  · rw [settle_core, tookOver_core, evt_core, bump_core, setClaim_core, if_pos rfl]
  · rw [settle_core, tookOver_core, evt_core, bump_core, setClaim_core, if_neg (other_ne c)]
    rfl
  · rw [reg_settle_of_not_closing _ LU_SWO (by decide)]
    refine (tookOver_regs _ c LU_SWO 0 (by decide) (by decide)).trans ((reg_evt_ne ((setClaim (s.at t) c .c12 .raise).bump LU_SWO) _ (by decide)).trans ?_)
    rw [reg_bump_self]
    exact congrArg (bumpW · 1) (keepsRegs_setClaim (s.at t) c .c12 .raise LU_SWO 0 (by decide) (by decide))

theorem completes_swapStep {d : Core} {at_ : Nat} {cause : ClaimCause} (due : s.lead.swapDue = some (d, at_, cause)) (lead : s.lead? = some c)
    (under : (s.core c.other).claim = .c8) (plain : cause ≠ .update) (stays : s.lead.demoteAfter = false) : Completes (.swapStep t) s fun u =>
    (u.core c).claim = .c8 ∧ (u.core c.other).claim = .c12 ∧ u.lead.swapDue = none ∧ u.reg LU_SWAPS = bumpW (s.reg LU_SWAPS) 1 ∧
    (u.reg LU_EVT).getLsbD luSWAP = true := by
  have swapped : ∃ y, y = setClaim (setClaim (setClaim (s.at t) c .c4 cause) c.other .c12 cause) c .c8 cause ∧ (y.core c).claim = .c8 ∧
      (y.core c.other).claim = .c12 ∧ y.reg LU_SWAPS = s.reg LU_SWAPS := by
    refine ⟨_, rfl, ?_, ?_, ?_⟩
    · rw [setClaim_core, if_pos rfl]
    · rw [setClaim_core, if_neg (other_ne c), setClaim_core, if_pos rfl]
    · exact ((keepsRegs_setClaim _ _ _ _).trans ((keepsRegs_setClaim _ _ _ _).trans (keepsRegs_setClaim _ _ _ _))) LU_SWAPS 0 (by decide) (by decide)
  obtain ⟨y, is, own, peer, count⟩ := swapped
  have now : swapNow (s.at t) = ((y.bump LU_SWAPS).evt LU_EVT luSWAP).updLead fun x => { x with swapDue := none, demoteAfter := false } := by
    unfold swapNow
    rw [show (s.at t).lead.swapDue = some (d, at_, cause) from due, show (s.at t).lead? = some c from lead]
    dsimp only
    rw [if_pos (by exact under), show (s.at t).lead.demoteAfter = false from stays, if_neg (by decide), is]
  have row : exec (.swapStep t) s = done (((y.bump LU_SWAPS).evt LU_EVT luSWAP).updLead fun x => { x with swapDue := none, demoteAfter := false }) := by
    rw [← now]
    refine congrArg done ?_
    unfold swapStep
    rw [show (s.at t).lead.swapDue = some (d, at_, cause) from due]
    cases cause
    case update => exact absurd rfl plain
    all_goals rfl
  refine completes_done row ⟨?_, ?_, ?_, ?_, ?_⟩
  · rw [settle_core, core_updLead rfl, evt_core, bump_core, own]
  · rw [settle_core, core_updLead rfl, evt_core, bump_core, peer]
  · rw [settle_lead]
    rfl
  · rw [reg_settle_of_not_closing _ LU_SWAPS (by decide)]
    refine (reg_evt_ne (y.bump LU_SWAPS) _ (by decide)).trans ?_
    rw [reg_bump_self, count]
  · exact ((evtSet_evt (y.bump LU_SWAPS) LU_EVT luSWAP (by decide)).congr (updLead_regs _ _)).settle (by decide)

/-! A read of the history (R415). -/

theorem latchRegs_lead (path : Path) : ∀ (l : List (Nat × Word)) (s : State), (latchRegs s path l).lead = s.lead
  | [], _ => rfl
  | _ :: l, _ => (latchRegs_lead path l _).trans rfl

/-- The registers that a read of the history latches, and their words. -/
def histWords (e : HistEntry) : List (Nat × Word) :=
  [(LU_HIST_W1, wd (secOf e.time)), (LU_HIST_W2, wd (nsOf e.time / 65536)), (LU_HIST_W3, wd (nsOf e.time))]

theorem completes_luHistPop {path : Path} {e : HistEntry} {rest : List HistEntry} (first : s.lead.hist = e :: rest)
    (unlocked : s.lockedOut path = false) (loud : quiet s path = false) : Completes (.luHistPop path t) s fun u =>
    u.lead.hist = rest ∧ u.lead.histLost = false ∧ ∀ x ∈ histWords e, u.regSel x.1 path.code = x.2 := by
  have pops : (histPop (s.at t) path).2 = (latchRegs (s.at t) path (histWords e)).updLead fun l => { l with hist := rest, histLost := false } := by
    unfold histPop
    rw [show (s.at t).lead.hist = e :: rest from first]
    exact if_neg fun h => Bool.noConfusion (loud.symm.trans h)
  have row : exec (.luHistPop path t) s = done ((latchRegs (s.at t) path (histWords e)).updLead fun l => { l with hist := rest, histLost := false }) :=
    congrArg done ((throughLock_of_unlocked (s := s.at t) unlocked _ _ _).trans pops)
  have apart : [LU_HIST_W1, LU_HIST_W2, LU_HIST_W3].Nodup ∧ ∀ a ∈ [LU_HIST_W1, LU_HIST_W2, LU_HIST_W3], closingReg a = false := by decide
  refine completes_done row ⟨?_, ?_, fun x mem => ?_⟩
  · rw [settle_lead]
    rfl
  · rw [settle_lead]
    rfl
  · rw [regSel_settle _ _ _ (path_code_lt path) (apart.2 x.1 (List.mem_map_of_mem (f := Prod.fst) mem))]
    exact regSel_latchRegs (s.at t) apart.1 mem

end

/-- Settles O47: what taking a claim leaves is said once (`setClaim_core`, `keepsRegs_setClaim`, `sameRoles_setClaim`), and every change of the
cores is a claim taken and a phase set. -/
theorem claimsMove : Obligations.ClaimsMove := by
  unfold Obligations.ClaimsMove
  intro path c t s
  dsimp only
  refine ⟨⟨completes_claimBeat, completes_beatLoss, completes_claimRefresh, completes_claimMissing, completes_equalClaims, completes_noCore,
    completes_startPassed, fun tests from0 starts failed _ => completes_startFailed tests from0 starts failed, fun tests from0 running => ?_,
    completes_luDemote, fun leads under lead whole free noCollision => completes_swapCommands leads under whole free noCollision lead,
    completes_luRejoin, completes_rejoinCopyDone, fun lead _ finishing noUpdate => completes_rejoinFinish lead finishing noUpdate,
    completes_rsyncTimeout, completes_switchover, fun d at_ cause => completes_swapStep⟩, ?_⟩
  · obtain ⟨again, limit⟩ := completes_retestPassed (t := t) tests from0 running
    exact ⟨again, limit, completes_retestFailed tests from0 running⟩
  · intro e rest first unlocked loud
    obtain ⟨u, next, hist, lost, words⟩ := completes_luHistPop (t := t) first unlocked loud
    simp only [histWords, List.forall_mem_cons] at words
    obtain ⟨w1, w2, w3, -⟩ := words
    exact ⟨u, next, hist, lost, w1, w2, w3⟩

end Sys2Proof.Machine
end

section
set_option Elab.async false
/-! SUPPORT. Field pins: edges, levels and the toggle limit (R134, R289, R305, R306). -/

namespace Sys2Proof.Machine

/-- The closing part sets rank and output of a pin, and nothing else of it. -/
theorem settle_pin (s : State) (k : Fin 144) : ∃ r held out, (settle s).pin k = { s.pin k with rank := r, held := held, out := out } := by
  have first (x : State) : (settleModes (settleBypass (settleFuses (settleHolds (settleLock (settleRange .b (settleRange .a x))))))).pin k =
      x.pin k := by unfold State.pin; simp
  have pins : (settle s).pin k = settlePin (settleModes (settleBypass (settleFuses (settleHolds (settleLock
      (settleRange .b (settleRange .a s))))))) k := by
    rw [← settlePins_pin]; unfold State.pin
    simp only [settle, settleFwd_pins, settleSignals_pins, foldl_keeps (fun s : State => s.pins) settleCan settleCan_pins]
  rw [pins]
  unfold settlePin
  dsimp only
  rw [first]
  exact ⟨_, _, _, rfl⟩

/-- What of a pin the input path keeps. -/
structure SameInput (p q : Pin) : Prop where
  raw : q.raw = p.raw
  filt : q.filt = p.filt
  inner : q.inner = p.inner
  changed : q.changed = p.changed
  stamp : q.stamp = p.stamp
  limited : q.limited = p.limited
  count : q.windowCount = p.windowCount

theorem settle_input (s : State) (k : Fin 144) : SameInput (s.pin k) ((settle s).pin k) := by
  obtain ⟨r, held, out, is⟩ := settle_pin s k
  rw [is]
  exact ⟨rfl, rfl, rfl, rfl, rfl, rfl, rfl⟩

/-! A change of a level at the pacers leaves pins, engines, stamps and memory (R241, R244). -/

/-- What pacers leave as they take a level. -/
structure PacersOnly (s u : State) : Prop where
  pins : u.pins = s.pins
  edges : u.edges = s.edges
  mem : u.mem = s.mem
  eng : ∀ n e, u.eng n e = s.eng n e

theorem PacersOnly.trans {s t u : State} (h : PacersOnly s t) (g : PacersOnly t u) : PacersOnly s u where
  pins := g.pins.trans h.pins
  edges := g.edges.trans h.edges
  mem := g.mem.trans h.mem
  eng n e := (g.eng n e).trans (h.eng n e)

theorem pacersOnly_self (s : State) : PacersOnly s s := ⟨rfl, rfl, rfl, fun _ _ => rfl⟩

theorem pacersOnly_updPacer (s : State) (n : Fin 12) (p : Fin 16) (f : Pacer → Pacer) : PacersOnly s (s.updPacer n p f) :=
  ⟨rfl, rfl, rfl, fun m e => eng_updPacer s n m p f e⟩

theorem pacersOnly_pacerTo (s : State) (n : Fin 12) (p : Fin 16) (y : Pacer) : PacersOnly s (pacerTo s n p y) := by
  have changed := pacersOnly_updPacer s n p fun _ => y
  unfold pacerTo
  dsimp only
  split
  · refine changed.trans ⟨raise_pins _ _ _, raise_edges _ _ _, raise_mem _ _ _, fun m e => eng_congr ?_ m e⟩
    exact raise_clusters _ _ _
  · exact changed

theorem pacersOnly_pacerInput (s : State) (n j : Fin 12) (rising : Bool) (p : Fin 16) : PacersOnly s (pacerInput s n j rising p) := by
  unfold pacerInput
  dsimp only
  split
  · split
    · exact pacersOnly_pacerTo _ _ _ _
    · split
      · exact pacersOnly_pacerTo _ _ _ _
      · exact pacersOnly_self s
  · split
    · exact pacersOnly_pacerTo _ _ _ _
    · exact pacersOnly_self s
  · split
    · exact pacersOnly_pacerTo _ _ _ _
    · exact pacersOnly_self s
  · split
    · exact pacersOnly_updPacer _ _ _ _
    · exact pacersOnly_self s
  · exact pacersOnly_self s

theorem pacersOnly_pacerInputs (s : State) (n j : Fin 12) (rising : Bool) : PacersOnly s (pacerInputs s n j rising) := by
  unfold pacerInputs
  generalize List.finRange 16 = l
  induction l generalizing s with
  | nil => exact pacersOnly_self s
  | cons p l ih => exact (pacersOnly_pacerInput s n j rising p).trans (ih _)

/-! A change at a ball (R134, R305). -/

section
variable {k : Fin 144} {t : Nat} {s : State}

theorem stamps_at (rising : Bool) : stamps (s.at t) k rising = stamps s k rising := rfl

theorem completes_pinRawChange (level : Bool) (differs : (s.pin k).raw ≠ level) : Completes (.pinRawChange k level t) s fun u =>
    (u.pin k).raw = level ∧
    (if max s.now t < (s.pin k).changed + 5 * nsT then (u.pin k).changed = (s.pin k).before.1 ∧ (u.pin k).stamp = (s.pin k).before.2
      else (u.pin k).changed = max s.now t ∧ (u.pin k).stamp = some (edgeAt (s.at t) k level)) ∧
    (u.pin k).filt = (s.pin k).filt ∧ (u.pin k).inner = (s.pin k).inner ∧
    ∀ j, j ≠ k → (u.pin j).raw = (s.pin j).raw ∧ (u.pin j).filt = (s.pin j).filt := by
  have others (f : Pin → Pin) (y : State) (pins : y.pins = ((s.at t).updPin k f).pins) :
      ∀ j, j ≠ k → ((settle y).pin j).raw = (s.pin j).raw ∧ ((settle y).pin j).filt = (s.pin j).filt := by
    intro j other
    have same := settle_input y j
    rw [same.raw, same.filt, pin_congr pins, pin_updPin, if_neg other]
    exact ⟨rfl, rfl⟩
  by_cases pair : max s.now t < (s.pin k).changed + 5 * nsT
  · have row : ∃ y, exec (.pinRawChange k level t) s = done y ∧
        y.pins = ((s.at t).updPin k fun p => { p with raw := level, changed := p.before.1, stamp := p.before.2 }).pins := by
      refine ⟨_, congrArg done ((if_neg differs).trans (if_pos pair)), ?_⟩
      split <;> rfl
    obtain ⟨y, row, pins⟩ := row
    have same := settle_input y k
    have own : y.pin k = { s.pin k with raw := level, changed := (s.pin k).before.1, stamp := (s.pin k).before.2 } :=
      (pin_congr pins k).trans (pin_updPin_self _ _ _)
    refine completes_done row ⟨?_, ?_, ?_, ?_, others _ y pins⟩
    · rw [same.raw, own]
    · rw [if_pos pair, same.changed, same.stamp, own]
      exact ⟨rfl, rfl⟩
    · rw [same.filt, own]
    · rw [same.inner, own]
  · have row : exec (.pinRawChange k level t) s = done ((s.at t).updPin k fun p =>
        { p with raw := level, changed := (s.at t).now, before := (p.changed, p.stamp), stamp := some (edgeAt (s.at t) k level) }) :=
      congrArg done ((if_neg differs).trans (if_neg pair))
    have same := settle_input ((s.at t).updPin k fun p =>
        { p with raw := level, changed := (s.at t).now, before := (p.changed, p.stamp), stamp := some (edgeAt (s.at t) k level) }) k
    rw [pin_updPin_self] at same
    refine completes_done row ⟨same.raw, ?_, same.filt, same.inner, others _ _ rfl⟩
    rw [if_neg pair]
    exact ⟨same.changed, same.stamp⟩

/-! A level is accepted (R134, R289, R305, R306). -/

theorem eng_setLatches (x : State) (n j : Fin 12) (rising : Bool) (e : Fin 14) : (setLatches x n j rising).eng n e =
    if rising then { x.eng n e with rise := (x.eng n e).rise ||| 1#12 <<< j.val } else { x.eng n e with fall := (x.eng n e).fall ||| 1#12 <<< j.val } := by
  have mask : BitVec.ofNat 12 (2 ^ j.val) = 1#12 <<< j.val := by
    revert j
    decide
  unfold setLatches
  dsimp only
  rw [mask]
  simp [State.eng, cl_updCl_self, vget]

/-- What acceptance of a level leaves of pin, engines, stamps and memory. -/
theorem acceptChange_keeps (x : State) (k : Fin 144) (level : Bool) :
    ((acceptChange x k level).pin k).filt = level ∧ ((acceptChange x k level).pin k).inner = level ∧
    (∀ e, ((acceptChange x k level).eng (pinCluster k) e).rise =
        (if level then (x.eng (pinCluster k) e).rise ||| 1#12 <<< (pinLocal k).val else (x.eng (pinCluster k) e).rise) ∧
      ((acceptChange x k level).eng (pinCluster k) e).fall =
        (if level then (x.eng (pinCluster k) e).fall else (x.eng (pinCluster k) e).fall ||| 1#12 <<< (pinLocal k).val)) ∧
    (∀ e, (x.pin k).stamp = some e → stamps x k level = true → (x.fifo (pinCluster k)).entries.length < 64 →
      ((acceptChange x k level).fifo (pinCluster k)).entries =
        (x.fifo (pinCluster k)).entries ++ [{ e with ovf := (x.fifo (pinCluster k)).lostSince }]) ∧
    (acceptChange x k level).mem = x.mem := by
  let y := setLatches (x.updPin k fun p => { p with filt := level, inner := level, stamp := none }) (pinCluster k) (pinLocal k) level
  let z := match (x.pin k).stamp with
    | none => y
    | some e => if stamps x k level then stampEnter y (pinCluster k) e else y
  have stamped : z.pins = y.pins ∧ z.clusters = y.clusters ∧ z.mem = y.mem := by
    have entered (e : EdgeStamp) : (stampEnter y (pinCluster k) e).pins = y.pins ∧ (stampEnter y (pinCluster k) e).clusters = y.clusters ∧
        (stampEnter y (pinCluster k) e).mem = y.mem := by
      unfold stampEnter
      dsimp only
      split
      · exact ⟨rfl, rfl, rfl⟩
      · exact ⟨raise_pins _ _ _, raise_clusters _ _ _, raise_mem _ _ _⟩
    simp only [z]
    split
    · exact ⟨rfl, rfl, rfl⟩
    · split
      · exact entered _
      · exact ⟨rfl, rfl, rfl⟩
  obtain ⟨pins, clusters, mem⟩ := stamped
  have only : PacersOnly z (acceptChange x k level) := pacersOnly_pacerInputs z (pinCluster k) (pinLocal k) level
  have pin : (acceptChange x k level).pin k = { x.pin k with filt := level, inner := level, stamp := none } :=
    (pin_congr (only.pins.trans pins) k).trans (pin_updPin_self x k _)
  have eng (e : Fin 14) : (acceptChange x k level).eng (pinCluster k) e = y.eng (pinCluster k) e := (only.eng _ _).trans (eng_congr clusters _ _)
  refine ⟨by rw [pin], by rw [pin], fun e => ?_, fun e stamp own room => ?_, only.mem.trans mem⟩
  · rw [eng, eng_setLatches]
    cases level <;> exact ⟨rfl, rfl⟩
  · have entered : z = stampEnter y (pinCluster k) e := by
      simp only [z]
      rw [stamp, own]
      rfl
    have fifo : (acceptChange x k level).fifo (pinCluster k) = (stampEnter y (pinCluster k) e).fifo (pinCluster k) := by
      unfold State.fifo
      rw [only.edges, entered]
    rw [fifo, stampEnter, if_pos (by exact room)]
    simp [State.fifo, State.updFifo]
    exact ⟨rfl, rfl⟩

end

end Sys2Proof.Machine
end

section
set_option Elab.async false
/-! SUPPORT. The filter, the toggle limit, the converters and the obligation about pins and converters (R305, R306, R313-R319). -/

namespace Sys2Proof.Machine

theorem pinRegs : ∀ k : Fin 144, closingReg (PIN_TGLC (pinBlock k)) = false ∧ PIN_EVT (pinBlock k) ≠ PIN_TGLC (pinBlock k) ∧
    ∀ c : Fin 4, PIN_EVT (pinBlock k) ≠ CAN_GAPABT c.val := by
  have blocks : ∀ b : Fin 3, closingReg (PIN_TGLC b.val) = false ∧ PIN_EVT b.val ≠ PIN_TGLC b.val ∧ ∀ c : Fin 4, PIN_EVT b.val ≠ CAN_GAPABT c.val := by
    decide
  exact fun k => blocks ⟨k.val / 48, by omega⟩

section
variable {k : Fin 144} {t : Nat} {s : State}

section
variable (changes : (s.pin k).raw ≠ (s.pin k).inner) (held : (s.pin k).changed + filterTime s k ≤ max s.now t + 2 * nsT)
  (free : (s.pin k).limited = false) {c : PinCfg} (cfg : s.pinCfg k = some c)
include changes held free cfg

/-- A raw level that has held for the filter time is judged by the toggle limit (R305, R306). -/
theorem filterAccept_row : exec (.filterAccept k t) s = done (if pinToggle c = 0 then acceptChange (s.at t) k (s.pin k).raw
    else if (recentChanges (s.at t) (s.pin k)).length > 2 ^ (pinToggle c + 2) then limitEntry (s.at t) k
    else acceptChange ((s.at t).updPin k fun p => { p with accepted := recentChanges (s.at t) (s.pin k) }) k (s.pin k).raw) := by
  have waits : ¬ ((s.pin k).raw = (s.pin k).inner ∨ max s.now t + 2 * nsT < (s.pin k).changed + filterTime s k) := by
    rintro (h | h)
    · exact changes h
    · exact absurd h (Nat.not_lt.2 held)
  refine congrArg done ((if_neg waits).trans ?_)
  show (if (s.pin k).limited = true then _ else _) = _
  rw [if_neg (by rw [free]; decide), show (s.at t).pinCfg k = some c from cfg]
  rfl

/-- What the acceptance of a level comes to. -/
theorem completes_accepted (few : pinToggle c = 0 ∨ (recentChanges (s.at t) (s.pin k)).length ≤ 2 ^ (pinToggle c + 2)) :
    Completes (.filterAccept k t) s fun u =>
      (u.pin k).filt = (s.pin k).raw ∧ (u.pin k).inner = (s.pin k).raw ∧
      (∀ e, (u.eng (pinCluster k) e).rise = (if (s.pin k).raw then (s.eng (pinCluster k) e).rise ||| 1#12 <<< (pinLocal k).val
            else (s.eng (pinCluster k) e).rise) ∧
          (u.eng (pinCluster k) e).fall = (if (s.pin k).raw then (s.eng (pinCluster k) e).fall
            else (s.eng (pinCluster k) e).fall ||| 1#12 <<< (pinLocal k).val)) ∧
      (∀ e, (s.pin k).stamp = some e → stamps s k (s.pin k).raw = true → (s.fifo (pinCluster k)).entries.length < 64 →
        (u.fifo (pinCluster k)).entries = (s.fifo (pinCluster k)).entries ++ [{ e with ovf := (s.fifo (pinCluster k)).lostSince }]) ∧
      SameMemory s u := by
  have row := filterAccept_row changes held free cfg
  obtain ⟨x, is, pinStamp, clusters, edges, regs, mem⟩ : ∃ x : State, exec (.filterAccept k t) s = done (acceptChange x k (s.pin k).raw) ∧
      (x.pin k).stamp = (s.pin k).stamp ∧ x.clusters = s.clusters ∧ x.edges = s.edges ∧ x.regs = s.regs ∧ x.mem = s.mem := by
    by_cases zero : pinToggle c = 0
    · rw [if_pos zero] at row
      exact ⟨_, row, rfl, rfl, rfl, rfl, rfl⟩
    · rw [if_neg zero, if_neg (Nat.not_lt.2 (few.resolve_left zero))] at row
      exact ⟨_, row, by rw [pin_updPin_self]; rfl, rfl, rfl, rfl, rfl⟩
  obtain ⟨filt, inner, latches, stamped, memory⟩ := acceptChange_keeps x k (s.pin k).raw
  have same := settle_input (acceptChange x k (s.pin k).raw) k
  have fifo : x.fifo (pinCluster k) = s.fifo (pinCluster k) := by unfold State.fifo; rw [edges]
  refine completes_done is ⟨same.filt.trans filt, same.inner.trans inner, fun e => ?_, fun e stamp own room => ?_,
    sameMemory_settle (memory.trans mem)⟩
  · rw [settle_eng, ← eng_congr clusters]
    exact latches e
  · have after : (settle (acceptChange x k (s.pin k).raw)).fifo (pinCluster k) = (acceptChange x k (s.pin k).raw).fifo (pinCluster k) := by
      unfold State.fifo
      rw [settle_edges]
    rw [after, ← fifo]
    refine stamped e (pinStamp.trans stamp) ?_ (by rw [fifo]; exact room)
    unfold stamps
    dsimp only
    rw [reg_congr regs]
    exact own

theorem completes_limited (some_ : pinToggle c ≠ 0) (many : 2 ^ (pinToggle c + 2) < (recentChanges (s.at t) (s.pin k)).length) :
    Completes (.filterAccept k t) s fun u =>
      (u.pin k).limited = true ∧ (u.pin k).filt = (s.pin k).filt ∧ u.reg (PIN_TGLC (pinBlock k)) = bumpW (s.reg (PIN_TGLC (pinBlock k))) 1 ∧
      (u.reg (PIN_EVT (pinBlock k))).getLsbD 15 = true := by
  have row := filterAccept_row changes held free cfg
  rw [if_neg some_, if_pos many] at row
  obtain ⟨open_, apart, gaps⟩ := pinRegs k
  have same := settle_input (limitEntry (s.at t) k) k
  have pin : (limitEntry (s.at t) k).pin k = { s.pin k with limited := true, windowCount := 1, inner := (s.pin k).raw } :=
    (pin_congr (raise_pins _ _ _) k).trans (pin_updPin_self (s.at t) k _)
  rw [pin] at same
  have evt : EvtSet (limitEntry (s.at t) k) (PIN_EVT (pinBlock k)) 15 := by
    refine EvtSet.raise (EvtSet.bump ?_ apart) _ _
    exact evtSet_evt _ _ _ (by decide)
  refine completes_done row ⟨same.limited, same.filt, ?_, evt.settled gaps⟩
  rw [reg_settle_of_not_closing _ _ open_]
  unfold limitEntry
  dsimp only
  rw [reg_congr (raise_regs _ _ _), reg_bump_self, reg_evt_ne _ _ apart.symm]
  rfl

end

theorem completes_toggleWindow {c : PinCfg} (cfg : s.pinCfg k = some c) (limited : (s.pin k).limited = true) :
    ((s.pin k).windowCount ≤ 2 ^ (pinToggle c + 1) → Completes (.toggleWindowEnd k t) s fun u =>
      (u.pin k).limited = false ∧ (u.pin k).filt = (s.pin k).inner ∧ (u.reg (PIN_EVT (pinBlock k))).getLsbD 14 = true) ∧
    (pinToggle c ≠ 0 → 2 ^ (pinToggle c + 1) < (s.pin k).windowCount → Completes (.toggleWindowEnd k t) s fun u =>
      (u.pin k).limited = true ∧ (u.pin k).windowCount = 0 ∧ (u.pin k).filt = (s.pin k).filt ∧ SameRegs s u []) := by
  have is : toggleWindow (s.at t) k = if pinToggle c = 0 ∨ (s.pin k).windowCount ≤ 2 ^ (pinToggle c + 1) then
      (let s1 := (s.at t).updPin k fun p => { p with limited := false, windowCount := 0, accepted := [], filt := p.inner }
       let s2 := if (s.pin k).filt = (s.pin k).inner then s1 else pacerInputs s1 (pinCluster k) (pinLocal k) (s.pin k).inner
       s2.evt (PIN_EVT (pinBlock k)) 14)
      else (s.at t).updPin k fun p => { p with windowCount := 0 } := by
    unfold toggleWindow
    dsimp only
    rw [if_neg (by show ¬ (!(s.pin k).limited) = true; rw [limited]; decide), show (s.at t).pinCfg k = some c from cfg]
    rfl
  obtain ⟨-, -, gaps⟩ := pinRegs k
  constructor
  · intro few
    rw [if_pos (.inr few)] at is
    dsimp only at is
    obtain ⟨y, row, pin⟩ : ∃ y : State, toggleWindow (s.at t) k = y.evt (PIN_EVT (pinBlock k)) 14 ∧
        y.pin k = { s.pin k with limited := false, windowCount := 0, accepted := [], filt := (s.pin k).inner } := by
      refine ⟨_, is, ?_⟩
      split
      · exact pin_updPin_self (s.at t) k _
      · exact (pin_congr (pacersOnly_pacerInputs _ _ _ _).pins k).trans (pin_updPin_self (s.at t) k _)
    have same := settle_input (y.evt (PIN_EVT (pinBlock k)) 14) k
    rw [show (y.evt (PIN_EVT (pinBlock k)) 14).pin k = y.pin k from rfl, pin] at same
    exact completes_done (congrArg done row) ⟨same.limited, same.filt, (evtSet_evt _ _ _ (by decide)).settled gaps⟩
  · intro some_ many
    have stays : ¬ (pinToggle c = 0 ∨ (s.pin k).windowCount ≤ 2 ^ (pinToggle c + 1)) := by
      rintro (h | h)
      · exact some_ h
      · exact absurd many (Nat.not_lt.2 h)
    rw [if_neg stays] at is
    have same := settle_input ((s.at t).updPin k fun p => { p with windowCount := 0 }) k
    rw [pin_updPin_self] at same
    exact completes_done (congrArg done is) ⟨same.limited.trans limited, same.count, same.filt, sameRegs_settle rfl⟩

end

/-! The converters (R313-R319). -/

section
variable {n : Fin 12} {c : Fin 2} {t : Nat} {s : State}

theorem adc_congr {x u : State} (h : u.clusters = x.clusters) (n : Fin 12) : u.adc n = x.adc n := congrArg Cluster.adc (cl_congr h n)

theorem settle_adc (x : State) (n : Fin 12) : (settle x).adc n = x.adc n := by
  unfold State.adc
  rw [settle_cl]

theorem settle_chan (x : State) (n : Fin 12) (c : Fin 2) : (settle x).chan n c = x.chan n c := by
  unfold State.chan
  rw [settle_adc]

theorem chan_congr {x u : State} (h : u.clusters = x.clusters) (n : Fin 12) (c : Fin 2) : u.chan n c = x.chan n c := by
  unfold State.chan
  rw [adc_congr h]

theorem adc_updAdc (x : State) (n : Fin 12) (f : Adc → Adc) : (x.updAdc n f).adc n = f (x.adc n) := by
  unfold State.updAdc State.adc
  rw [cl_updCl_self]

theorem chan_updChan (x : State) (n : Fin 12) (c : Fin 2) (f : AdcChan → AdcChan) : (x.updChan n c f).chan n c = f (x.chan n c) := by
  unfold State.updChan State.chan
  rw [adc_updAdc]
  simp

theorem chanNo_lt (n : Fin 12) (c : Fin 2) : chanNo n c < 65536 := by unfold chanNo; omega

theorem completes_adcAcquires (v : Int) (sectioned : (s.cl n).cfg.isSome = true) (slot : slotChan s n (slotNow (s.at t) n) = some c) :
    Completes (.adcSlot n v t) s fun u =>
      (u.chan n c).waiting = some (wd (max 0 (min 65535 v)).toNat, max s.now t, decide (65535 ≤ v)) ∧ (u.chan n c).results = (s.chan n c).results ∧
      SameRegs s u [] := by
  have row : exec (.adcSlot n v t) s = done ((s.at t).updChan n c fun x =>
      { x with waiting := some (wd (max 0 (min 65535 v)).toNat, max s.now t, decide (65535 ≤ v)) }) := by
    have on : ¬ ((s.at t).cl n).cfg.isNone = true := by
      show ¬ (s.cl n).cfg.isNone = true
      rw [Option.isNone_iff_eq_none]
      intro none_
      rw [none_] at sectioned
      exact Bool.noConfusion sectioned
    refine congrArg done ((if_neg on).trans ?_)
    rw [show slotChan (s.at t) n (slotNow (s.at t) n) = some c from slot]
    rfl
  refine completes_done row ⟨?_, ?_, sameRegs_settle rfl⟩
  · rw [settle_chan, chan_updChan]
  · rw [settle_chan, chan_updChan]
    rfl

theorem completes_adcCalibrates (v : Int) (sectioned : (s.cl n).cfg.isSome = true) (slot : slotChan s n (slotNow (s.at t) n) = none) :
    ((s.adc n).calStep + 1 < 64 → Completes (.adcSlot n v t) s fun u => (u.adc n).calStep = (s.adc n).calStep + 1 ∧ SameRegs s u []) ∧
    (63 ≤ (s.adc n).calStep → Completes (.adcSlot n v t) s fun u =>
      (u.adc n).calStep = 0 ∧ (u.adc n).calibrated = true ∧ u.regSel ADC_CALR n.val = bumpW (s.regSel ADC_CALR n.val) 1) := by
  have row : exec (.adcSlot n v t) s = done (calStep (s.at t) n) := by
    have on : ¬ ((s.at t).cl n).cfg.isNone = true := by
      show ¬ (s.cl n).cfg.isNone = true
      rw [Option.isNone_iff_eq_none]
      intro none_
      rw [none_] at sectioned
      exact Bool.noConfusion sectioned
    refine congrArg done ((if_neg on).trans ?_)
    rw [show slotChan (s.at t) n (slotNow (s.at t) n) = none from slot]
  constructor
  · intro early
    rw [show calStep (s.at t) n = _ from if_pos early] at row
    refine completes_done row ⟨?_, sameRegs_settle rfl⟩
    rw [settle_adc, adc_updAdc]
    rfl
  · intro last
    have round : ∃ y, y = ((s.at t).updAdc n fun a => { a with calStep := 0, calibrated := true }).bumpSel ADC_CALR n.val ∧
        (y.adc n).calStep = 0 ∧ (y.adc n).calibrated = true ∧ y.regSel ADC_CALR n.val = bumpW (s.regSel ADC_CALR n.val) 1 := by
      have adc := adc_updAdc (s.at t) n fun a => { a with calStep := 0, calibrated := true }
      exact ⟨_, rfl, congrArg Adc.calStep adc, congrArg Adc.calibrated adc, regSel_bumpSel_self (a := ADC_CALR) _ _ (by decide)⟩
    obtain ⟨y, is, step, done_, count⟩ := round
    have ends : calStep (s.at t) n = if ((s.at t).adc n).calibrated then y else y.evt ADC_EVT 11 := by
      rw [is]
      exact if_neg (Nat.not_lt.2 (by omega : 64 ≤ (s.adc n).calStep + 1))
    obtain ⟨z, isZ, clusters, regs⟩ : ∃ z, calStep (s.at t) n = z ∧ z.clusters = y.clusters ∧ z.regSel ADC_CALR n.val = y.regSel ADC_CALR n.val := by
      refine ⟨_, ends, ?_⟩
      split
      · exact ⟨rfl, rfl⟩
      · exact ⟨rfl, (KeepsRegs.of_regs (s := y) rfl [ADC_EVT]).evt List.mem_cons_self 11 ADC_CALR n.val (by omega) (by decide)⟩
    rw [isZ] at row
    refine completes_done row ⟨?_, ?_, ?_⟩
    · rw [settle_adc, adc_congr clusters, step]
    · rw [settle_adc, adc_congr clusters, done_]
    · rw [regSel_settle _ _ _ (by omega) (by decide), regs, count]

/-! A conversion becomes available (R314, R318, R319). -/

/-- Between two states no register but those named has changed, no event bit has been lost, and every channel stands as it did. -/
structure JudgedOnly (x u : State) (but : List Nat) : Prop where
  regs : KeepsRegs x u but
  evt : ∀ i, EvtSet x ADC_EVT i → EvtSet u ADC_EVT i

theorem JudgedOnly.trans {x y u : State} {but : List Nat} (h : JudgedOnly x y but) (g : JudgedOnly y u but) : JudgedOnly x u but :=
  ⟨h.regs.trans g.regs, fun i set_ => g.evt i (h.evt i set_)⟩

theorem judgedOnly_of_regs {x u : State} (same : u.regs = x.regs) (but : List Nat) : JudgedOnly x u but :=
  ⟨.of_regs same _, fun _ set_ => set_.congr same⟩

theorem EvtSet.bumpSel {x : State} {a i b : Nat} (h : EvtSet x a i) (other : a ≠ b) {k : Nat} (small : k < 65536) (single : twinCounted b = false) :
    EvtSet (x.bumpSel b k) a i := by
  have kept : (x.bumpSel b k).reg a = x.reg a :=
    (KeepsRegs.of_regs (s := x) rfl [b]).bumpSel List.mem_cons_self small single a 0 (by decide) (by simpa using other)
  unfold EvtSet at h ⊢
  rw [kept, h]

theorem judgedOnly_limitSet (x : State) (n : Fin 12) (c : Fin 2) : JudgedOnly x (limitSet x n c) [ADC_LIMC, ADC_EVT] where
  regs := (((KeepsRegs.of_regs rfl _).bumpSel (by simp) (chanNo_lt n c) (by decide)).evt (by simp) _).raise _ _
  evt _ set_ := ((set_.bumpSel (by decide) (chanNo_lt n c) (by decide)).evt _ _).raise _ _

theorem limitSet_clusters (x : State) (n : Fin 12) (c : Fin 2) : (limitSet x n c).clusters = x.clusters := raise_clusters _ _ _

/-- A channel as the limits leave it (R318). -/
def limitsJudged (y : State) (n : Fin 12) (c : Fin 2) (v : Word) (x : AdcChan) : AdcChan :=
  let lo := limitRun x.low x.lowRun x.lowClr (decide (v.toNat < (y.regSel ADC_LIM_LO (chanNo n c)).toNat))
  let hi := limitRun x.high x.highRun x.highClr (decide (v.toNat > (y.regSel ADC_LIM_HI (chanNo n c)).toNat))
  { x with low := lo.1, lowRun := lo.2.1, lowClr := lo.2.2.1, high := hi.1, highRun := hi.2.1, highClr := hi.2.2.1 }

theorem judgeLimits_keeps (y : State) (n : Fin 12) (c : Fin 2) (v : Word) :
    (judgeLimits y n c v).chan n c = limitsJudged y n c v (y.chan n c) ∧ JudgedOnly y (judgeLimits y n c v) [ADC_LIMC, ADC_EVT] := by
  let s1 := y.updChan n c (limitsJudged y n c v)
  let ls := (limitRun (y.chan n c).low (y.chan n c).lowRun (y.chan n c).lowClr (decide (v.toNat < (y.regSel ADC_LIM_LO (chanNo n c)).toNat))).2.2.2
  let hs := (limitRun (y.chan n c).high (y.chan n c).highRun (y.chan n c).highClr (decide (v.toNat > (y.regSel ADC_LIM_HI (chanNo n c)).toNat))).2.2.2
  have is : judgeLimits y n c v = (let s2 := if ls then limitSet s1 n c else s1; if hs then limitSet s2 n c else s2) := rfl
  have one (b : Bool) (x : State) : (if b then limitSet x n c else x).clusters = x.clusters ∧
      JudgedOnly x (if b then limitSet x n c else x) [ADC_LIMC, ADC_EVT] := by
    split
    · exact ⟨limitSet_clusters _ _ _, judgedOnly_limitSet _ _ _⟩
    · exact ⟨rfl, judgedOnly_of_regs rfl _⟩
  obtain ⟨lowCl, low⟩ := one ls s1
  obtain ⟨highCl, high⟩ := one hs (if ls then limitSet s1 n c else s1)
  rw [is]
  dsimp only
  refine ⟨?_, (judgedOnly_of_regs (x := y) (u := s1) rfl _).trans (low.trans high)⟩
  rw [chan_congr (highCl.trans lowCl), chan_updChan]

/-- The stuck detector judges nothing but STUCK (R319). -/
theorem judgeStuck_keeps (y : State) (n : Fin 12) (c : Fin 2) (v : Word) : ∃ stuck first,
    (judgeStuck y n c v).chan n c = { y.chan n c with stuck := stuck, stuckFirst := first } ∧ (judgeStuck y n c v).regs = y.regs := by
  unfold judgeStuck
  split
  · exact ⟨_, _, chan_updChan _ _ _ _, rfl⟩
  · rw [chan_updChan]
    split
    · exact ⟨_, _, rfl, rfl⟩
    · split
      · exact ⟨(y.chan n c).stuck, (y.chan n c).stuckFirst, rfl, rfl⟩
      · exact ⟨_, _, rfl, rfl⟩

/-- The conversion counted where the input was beyond full scale (R314). -/
def overCounted (y : State) (n : Fin 12) (c : Fin 2) (excess : Bool) : State :=
  if excess then ((y.bumpSel ADC_OVRC (chanNo n c)).evt ADC_EVT 13).raise Src.adcOver (chanNo n c) else y

theorem overCounted_clusters (y : State) (excess : Bool) : (overCounted y n c excess).clusters = y.clusters := by
  unfold overCounted
  split
  · exact raise_clusters _ _ _
  · rfl

theorem overCounted_regs (y : State) (excess : Bool) : KeepsRegs y (overCounted y n c excess) [ADC_OVRC, ADC_EVT] := by
  unfold overCounted
  split
  · exact (((KeepsRegs.of_regs rfl _).bumpSel (by simp) (chanNo_lt n c) (by decide)).evt (by simp) _).raise _ _
  · exact .of_regs rfl _

theorem overCounted_counts (y : State) : (overCounted y n c true).regSel ADC_OVRC (chanNo n c) = bumpW (y.regSel ADC_OVRC (chanNo n c)) 1 ∧
    EvtSet (overCounted y n c true) ADC_EVT 13 := by
  have small := chanNo_lt n c
  unfold overCounted
  rw [if_pos rfl]
  refine ⟨?_, EvtSet.raise (evtSet_evt _ _ _ (by decide)) _ _⟩
  rw [regSel_congr (raise_regs _ _ _), (KeepsRegs.of_regs (s := y.bumpSel ADC_OVRC (chanNo n c)) rfl [ADC_EVT]).evt List.mem_cons_self 13 ADC_OVRC _ small
    (by decide)]
  exact regSel_bumpSel_self (a := ADC_OVRC) _ _ (by decide)

theorem limitRun_flag (flag : Bool) (run clr : Nat) (beyond : Bool) :
    (limitRun flag run clr beyond).1 = if beyond = true then flag || decide (2 ≤ run) else flag && decide (clr < 2) := by
  cases beyond
  · simp only [limitRun, Bool.false_eq_true, if_false]
    congr 1
    rw [← decide_not]
    exact decide_eq_decide.2 (by omega)
  · simp only [limitRun, if_true]
    congr 1
    exact decide_eq_decide.2 (by omega)

theorem completes_adcResult {v : Word} {at_ : Nat} {ov : Bool} (waits : (s.chan n c).waiting = some (v, at_, ov)) :
    Completes (.adcResult n c t) s fun u =>
      (u.chan n c).results = (v, at_) :: (s.chan n c).results.take 15 ∧ (u.chan n c).waiting = none ∧ (u.chan n c).ovr = ov ∧
      (u.chan n c).low = (if v.toNat < (s.regSel ADC_LIM_LO (chanNo n c)).toNat then (s.chan n c).low || decide (2 ≤ (s.chan n c).lowRun)
        else (s.chan n c).low && decide ((s.chan n c).lowClr < 2)) ∧
      (u.chan n c).high = (if (s.regSel ADC_LIM_HI (chanNo n c)).toNat < v.toNat then (s.chan n c).high || decide (2 ≤ (s.chan n c).highRun)
        else (s.chan n c).high && decide ((s.chan n c).highClr < 2)) ∧
      (ov = true → u.regSel ADC_OVRC (chanNo n c) = bumpW (s.regSel ADC_OVRC (chanNo n c)) 1 ∧ (u.reg ADC_EVT).getLsbD 13 = true) := by
  have small := chanNo_lt n c
  let x := (s.at t).updChan n c fun x => { x with results := (v, at_) :: x.results.take 15, waiting := none, ovr := ov }
  let y := overCounted x n c ov
  have row : exec (.adcResult n c t) s = done (judgeStuck (judgeLimits y n c v) n c v) := by
    refine congrArg done ?_
    unfold adcResult
    rw [show ((s.at t).chan n c).waiting = some (v, at_, ov) from waits]
    rfl
  have chanY : y.chan n c = { s.chan n c with results := (v, at_) :: (s.chan n c).results.take 15, waiting := none, ovr := ov } :=
    (chan_congr (overCounted_clusters x ov) n c).trans (chan_updChan (s.at t) n c _)
  have limit {a : Nat} (h : a ∉ [ADC_OVRC, ADC_EVT]) : y.regSel a (chanNo n c) = s.regSel a (chanNo n c) := overCounted_regs x ov a _ small h
  obtain ⟨judged, only⟩ := judgeLimits_keeps y n c v
  obtain ⟨stuck, first, after, regs⟩ := judgeStuck_keeps (judgeLimits y n c v) n c v
  rw [judged, chanY] at after
  refine completes_done row ⟨?_, ?_, ?_, ?_, ?_, ?_⟩
  · rw [settle_chan, after]
    rfl
  · rw [settle_chan, after]
    rfl
  · rw [settle_chan, after]
    rfl
  · rw [settle_chan, after]
    refine (limitRun_flag _ _ _ _).trans ?_
    rw [limit (a := ADC_LIM_LO) (by decide)]
    simp only [decide_eq_true_eq]
  · rw [settle_chan, after]
    refine (limitRun_flag _ _ _ _).trans ?_
    rw [limit (a := ADC_LIM_HI) (by decide)]
    simp only [decide_eq_true_eq, gt_iff_lt]
  · intro excess
    obtain ⟨count, evt⟩ := overCounted_counts (n := n) (c := c) x
    have isY : y = overCounted x n c true := by simp only [y, excess]
    rw [← isY] at count evt
    refine ⟨?_, ((only.evt 13 evt).congr regs).settle (by decide)⟩
    rw [regSel_settle _ _ _ small (by decide), regSel_congr regs, only.regs ADC_OVRC _ small (by decide), count]
    rfl

theorem completes_stuckWindow (on : stuckOn s n c = true) (runs : (s.chan n c).stuckFirst.isSome = true) : Completes (.stuckWindowEnd n c t) s fun u =>
    (u.chan n c).stuck = true ∧ (u.chan n c).stuckFirst = none ∧
    ((s.chan n c).stuck = false → u.regSel ADC_STUCKC (chanNo n c) = bumpW (s.regSel ADC_STUCKC (chanNo n c)) 1 ∧
      (u.reg ADC_EVT).getLsbD 14 = true) := by
  have small := chanNo_lt n c
  let x := (s.at t).updChan n c fun x => { x with stuck := true, stuckFirst := none }
  have chanX : x.chan n c = { s.chan n c with stuck := true, stuckFirst := none } := chan_updChan (s.at t) n c _
  have ended : ¬ (!stuckOn (s.at t) n c || ((s.at t).chan n c).stuckFirst.isNone) = true := by
    show ¬ (!stuckOn s n c || (s.chan n c).stuckFirst.isNone) = true
    rw [on, Option.isNone_eq_false_iff.2 runs]
    decide
  have row : exec (.stuckWindowEnd n c t) s = done (if (s.chan n c).stuck then x
      else ((x.bumpSel ADC_STUCKC (chanNo n c)).evt ADC_EVT 14).raise Src.adcStuck (chanNo n c)) := congrArg done (if_neg ended)
  have chan (y : State) (clusters : y.clusters = x.clusters) : ((settle y).chan n c).stuck = true ∧ ((settle y).chan n c).stuckFirst = none := by
    rw [settle_chan, chan_congr clusters, chanX]
    exact ⟨rfl, rfl⟩
  by_cases was : (s.chan n c).stuck = true
  · rw [if_pos was] at row
    obtain ⟨stuck, first⟩ := chan x rfl
    exact completes_done row ⟨stuck, first, fun h => Bool.noConfusion (h.symm.trans was)⟩
  · rw [if_neg was] at row
    obtain ⟨stuck, first⟩ := chan (((x.bumpSel ADC_STUCKC (chanNo n c)).evt ADC_EVT 14).raise Src.adcStuck (chanNo n c)) (raise_clusters _ _ _)
    refine completes_done row ⟨stuck, first, fun _ => ⟨?_, EvtSet.settle (EvtSet.raise (evtSet_evt _ _ _ (by decide)) _ _) (by decide)⟩⟩
    rw [regSel_settle _ _ _ small (by decide), regSel_congr (raise_regs _ _ _),
      (KeepsRegs.of_regs (s := x.bumpSel ADC_STUCKC (chanNo n c)) rfl [ADC_EVT]).evt List.mem_cons_self 14 ADC_STUCKC _ small (by decide)]
    exact regSel_bumpSel_self (a := ADC_STUCKC) _ _ (by decide)

end

/-- Settles O43: the input path and the converters clause by clause, over the lemma that the pacers take a level and leave pins, engines, stamps
and memory (`pacersOnly_pacerInputs`). -/
theorem pinsAndConverters : Obligations.PinsAndConverters := by
  unfold Obligations.PinsAndConverters
  refine ⟨fun k t s => ⟨fun level differs => completes_pinRawChange level differs, fun changes held free c cfg =>
    ⟨fun few => completes_accepted changes held free cfg few, fun some_ many => completes_limited changes held free cfg some_ many⟩,
    fun c cfg limited => completes_toggleWindow cfg limited⟩, fun n c t s => ⟨fun v sectioned slot => completes_adcAcquires v sectioned slot,
    fun v sectioned slot => completes_adcCalibrates v sectioned slot, fun v at_ ov waits => completes_adcResult waits,
    fun on runs => completes_stuckWindow on runs⟩⟩

end Sys2Proof.Machine
end

section
set_option Elab.async false
/-! SUPPORT. The states of a port: what a fall of a port writes and keeps, training, and the obligation about the states (R44-R61). -/

namespace Sys2Proof.Machine

/-! The registers of the two ports. -/

theorem linkRegs : ∀ p : Port, closingReg (LNK_DOWNS p) = false ∧ closingReg (LNK_TRF p) = false ∧ closingReg (LNK_CFG p) = false ∧
    LNK_TRF p ≠ LNK_DOWNS p ∧ LNK_TRF p ≠ LNK_EVT ∧ LNK_TRF p ≠ CUE_EVT ∧ LNK_DOWNS p ≠ LNK_EVT ∧ LNK_DOWNS p ≠ CUE_EVT := by
  rintro (_ | _) <;> decide

theorem reg_linkEvt_ne (s : State) (p : Port) (i : Nat) {a : Nat} (h : a ≠ LNK_EVT) : (s.linkEvt p i).reg a = s.reg a := reg_evt_ne s _ h

theorem linkEvt_links (s : State) (p : Port) (i : Nat) : (s.linkEvt p i).links = s.links := evt_links s _ _

/-! What the line roles and flap damping leave (R48, R86). -/

/-- The registers that a fall of port p may write: its count and the events of the ports and of the cue unit. -/
abbrev fallRegs (p : Port) : List Nat := [LNK_DOWNS p, LNK_EVT, CUE_EVT]

theorem headBegin_links (s : State) (r : Ring) : (headBegin s r).links = s.links := by
  unfold headBegin
  dsimp only
  split
  · exact (raise_links _ _ _).trans (evt_links _ _ _)
  · rfl

theorem lineRole_links (s : State) (r : Ring) : (lineRole s r).links = s.links := by
  unfold lineRole
  dsimp only
  split
  · split
    · rfl
    · exact headBegin_links _ _
  · split <;> rfl

theorem keepsRegs_headBegin (s : State) (r : Ring) (p : Port) : KeepsRegs s (headBegin s r) (fallRegs p) := by
  unfold headBegin
  extract_lets s1
  have begun : KeepsRegs s s1 (fallRegs p) := .of_regs rfl _
  split
  · exact (begun.evt (by simp) 15).raise _ _
  · exact begun

theorem keepsRegs_lineRole (s : State) (r : Ring) (p : Port) : KeepsRegs s (lineRole s r) (fallRegs p) := by
  unfold lineRole
  extract_lets l s1
  have ends : KeepsRegs s s1 (fallRegs p) := .of_regs rfl _
  split
  · split
    · exact ends.trans (.of_regs rfl _)
    · exact ends.trans (keepsRegs_headBegin _ _ _)
  · split
    · exact ends.trans (.of_regs rfl _)
    · exact ends

theorem EvtSet.lineRole {s : State} {a i : Nat} (h : EvtSet s a i) (r : Ring) : EvtSet (lineRole s r) a i := by
  have begun (x : State) (h : EvtSet x a i) : EvtSet (headBegin x r) a i := by
    unfold headBegin
    extract_lets x1
    have same : EvtSet x1 a i := h.congr rfl
    split
    · exact (same.evt _ _).raise _ _
    · exact same
  unfold Machine.lineRole
  extract_lets l s1
  have ends : EvtSet s1 a i := h.congr rfl
  split
  · split
    · exact ends.congr rfl
    · exact begun _ ends
  · split
    · exact ends.congr rfl
    · exact ends

/-! What stays of a port that falls (R44). -/

/-- A port is DOWN with its lanes untrained; what the port has been told and what it counts of its failures stays. -/
structure Fallen (l k : LinkPort) : Prop where
  state : k.state = .down
  lanes : k.lanes = l.lanes.map fun x => { x with trained := false, far := 0, eyeLow := none }
  cause : k.trCause = l.trCause
  side : k.sideWait = l.sideWait
  fill : k.fill = l.fill

theorem Fallen.lane {l k : LinkPort} (h : Fallen l k) (i : Fin 2) :
    vget k.lanes i = { vget l.lanes i with trained := false, far := 0, eyeLow := none } := by
  rw [h.lanes]
  simp [vget]

theorem damp_fallen {s : State} {p : Port} {l : LinkPort} (h : Fallen l (s.link p)) : Fallen l ((damp s p).link p) := by
  unfold damp
  split
  · exact h
  · extract_lets n recent s1 k len
    have counted : Fallen l (s1.link p) := by
      rw [link_updLink_self]
      exact ⟨h.state, h.lanes, h.cause, h.side, h.fill⟩
    split
    · exact counted
    · rw [link_updLink_self]
      exact ⟨counted.state, counted.lanes, counted.cause, counted.side, counted.fill⟩

theorem damp_regs (s : State) (p : Port) : (damp s p).regs = s.regs := by
  unfold damp
  split
  · rfl
  · extract_lets n recent s1 k len
    split <;> rfl

/-- The port as it enters DOWN (R44). -/
def downLink (l : LinkPort) : LinkPort :=
  { l with state := .down, lsRun := 0, werrs := [], inUse := false, echoDue := none,
           lanes := l.lanes.map fun x => { x with trained := false, far := 0, eyeLow := none } }

/-- A fall from UP or DEGRADED as it is counted and reported, before the roles follow it. -/
def fallTold (s : State) (p : Port) : State :=
  (((s.updLink p downLink).bump (LNK_DOWNS p)).linkEvt p 7).raise (Src.linkDown p) p.ix.val

theorem portDown_quiet {s : State} {p : Port} (h : (s.link p).state.carries = false) : portDown s p = s.updLink p downLink :=
  if_pos (by rw [h]; rfl)

theorem portDown_carrying {s : State} {p : Port} (h : (s.link p).state.carries = true) :
    portDown s p = wingBreak (lineRoles (damp (cutStream (fallTold s p) p.inRing) p)) := if_neg (by rw [h]; decide)

theorem fallTold_links (s : State) (p : Port) : (fallTold s p).links = (s.updLink p downLink).links :=
  (raise_links _ _ _).trans ((linkEvt_links _ _ _).trans (bump_links _ _))

theorem fallen_portDown (s : State) (p : Port) : Fallen (s.link p) ((portDown s p).link p) := by
  have down : Fallen (s.link p) ((s.updLink p downLink).link p) := by
    rw [link_updLink_self]
    exact ⟨rfl, rfl, rfl, rfl, rfl⟩
  cases carries : (s.link p).state.carries with
  | false => rw [portDown_quiet carries]; exact down
  | true =>
    have cut : (cutStream (fallTold s p) p.inRing).links = (s.updLink p downLink).links := fallTold_links s p
    have damped : Fallen (s.link p) ((damp (cutStream (fallTold s p) p.inRing) p).link p) :=
      damp_fallen (by rw [link_congr cut]; exact down)
    rw [portDown_carrying carries, link_congr (show (wingBreak (lineRoles _)).links = _ from
      (lineRole_links _ .b).trans (lineRole_links _ .a))]
    exact damped

theorem fallTold_keeps (s : State) (p : Port) : KeepsRegs s (fallTold s p) (fallRegs p) :=
  ((((KeepsRegs.of_regs (rfl : (s.updLink p downLink).regs = s.regs) (fallRegs p)).bump (by simp)).evt (by simp) _).raise _ _)

theorem keepsRegs_portDown (s : State) (p : Port) : KeepsRegs s (portDown s p) (fallRegs p) := by
  cases carries : (s.link p).state.carries with
  | false => rw [portDown_quiet carries]; exact .of_regs rfl _
  | true =>
    rw [portDown_carrying carries]
    have cut : KeepsRegs s (damp (cutStream (fallTold s p) p.inRing) p) (fallRegs p) :=
      (fallTold_keeps s p).trans (.of_regs ((damp_regs _ _).trans rfl) _)
    have roles : KeepsRegs s (lineRoles (damp (cutStream (fallTold s p) p.inRing) p)) (fallRegs p) :=
      cut.trans ((keepsRegs_lineRole _ .a p).trans (keepsRegs_lineRole _ .b p))
    exact roles.trans (.of_regs rfl _)

theorem EvtSet.fallen {s : State} {a i : Nat} {p : Port} (h : EvtSet (fallTold s p) a i) (carries : (s.link p).state.carries = true) :
    EvtSet (portDown s p) a i := by
  rw [portDown_carrying carries]
  have damped : EvtSet (damp (cutStream (fallTold s p) p.inRing) p) a i := h.congr ((damp_regs _ _).trans rfl)
  exact ((damped.lineRole .a).lineRole .b).congr rfl

theorem EvtSet.portDown {s : State} {a i : Nat} (h : EvtSet s a i) {p : Port} (other : a ≠ LNK_DOWNS p) : EvtSet (portDown s p) a i := by
  cases carries : (s.link p).state.carries with
  | false => rw [portDown_quiet carries]; exact h.congr rfl
  | true => exact EvtSet.fallen ((((h.congr (rfl : (s.updLink p downLink).regs = s.regs)).bump other).evt _ _).raise _ _) carries

/-- The count of a port's falls takes one (R49, R61): the roles that follow a fall leave it. -/
theorem portDown_downs {s : State} {p : Port} (carries : (s.link p).state.carries = true) :
    (portDown s p).reg (LNK_DOWNS p) = bumpW (s.reg (LNK_DOWNS p)) 1 := by
  obtain ⟨_, _, _, _, _, _, evt, cue⟩ := linkRegs p
  have counted : (fallTold s p).reg (LNK_DOWNS p) = bumpW (s.reg (LNK_DOWNS p)) 1 := by
    unfold fallTold
    rw [reg_congr (raise_regs _ _ _), reg_linkEvt_ne _ _ _ evt, reg_bump_self]
    rfl
  have head (x : State) (r : Ring) : (headBegin x r).reg (LNK_DOWNS p) = x.reg (LNK_DOWNS p) := by
    unfold headBegin
    extract_lets x1
    split
    · rw [reg_congr (raise_regs _ _ _), reg_evt_ne _ _ cue]; rfl
    · rfl
  have role (x : State) (r : Ring) : (lineRole x r).reg (LNK_DOWNS p) = x.reg (LNK_DOWNS p) := by
    unfold lineRole
    extract_lets l x1
    split
    · split
      · rfl
      · exact head _ _
    · split <;> rfl
  rw [portDown_carrying carries]
  calc (wingBreak (lineRoles (damp (cutStream (fallTold s p) p.inRing) p))).reg (LNK_DOWNS p)
      = (lineRole (damp (cutStream (fallTold s p) p.inRing) p) .a).reg (LNK_DOWNS p) := role _ .b
    _ = (damp (cutStream (fallTold s p) p.inRing) p).reg (LNK_DOWNS p) := role _ .a
    _ = (fallTold s p).reg (LNK_DOWNS p) := reg_congr ((damp_regs _ _).trans rfl) _
    _ = bumpW (s.reg (LNK_DOWNS p)) 1 := counted

/-- The bit of LNK_EVT that belongs to event i of a port (R61). -/
abbrev linkBit (p : Port) (i : Nat) : Nat := i + match p with | .west => 8 | .east => 0

theorem evtSet_linkEvt (s : State) (p : Port) {i : Nat} (h : i < 8) : EvtSet (s.linkEvt p i) LNK_EVT (linkBit p i) :=
  evtSet_evt _ _ _ (by cases p <;> dsimp only <;> omega)

/-- A port that carried traffic falls (R44, R49, R61), from a state with the counts of s. -/
theorem portFell_settle {s x : State} {p : Port} (carries : (x.link p).state.carries = true) (regs : x.reg (LNK_DOWNS p) = s.reg (LNK_DOWNS p)) :
    PortFell s (settle (portDown x p)) p := by
  obtain ⟨downs, _⟩ := linkRegs p
  refine ⟨?_, ?_, ?_⟩
  · show ((settle (portDown x p)).link p).state = .down
    rw [settle_link]
    exact (fallen_portDown x p).state
  · rw [reg_settle_of_not_closing _ _ downs, portDown_downs carries, regs]
  · have set_ : EvtSet (portDown x p) LNK_EVT (linkBit p 7) :=
      EvtSet.fallen ((evtSet_linkEvt _ p (by decide)).raise _ _) carries
    have shown : ((settle (portDown x p)).reg LNK_EVT).getLsbD (linkBit p 7) = true := set_.settle (by decide)
    cases p <;> exact shown

/-- Training fails (R49, R61) in a state that carries no traffic. -/
theorem trainingFailed_settle {s : State} {t : Nat} {p : Port} (cause : Nat) (idle : (s.link p).state.carries = false) :
    TrainingFailed s (settle (trainFail (s.at t) p cause)) p cause := by
  obtain ⟨_, trf, _, downs, evt, _⟩ := linkRegs p
  have told : ∃ x : State, trainFail (s.at t) p cause = portDown x p ∧ (x.link p).trCause = cause ∧ (x.link p).state = (s.link p).state ∧
      x.reg (LNK_TRF p) = bumpW (s.reg (LNK_TRF p)) 1 ∧ EvtSet x LNK_EVT (linkBit p 4) := by
    refine ⟨_, rfl, ?_, ?_, ?_, ((evtSet_linkEvt _ p (by decide)).raise _ _).congr rfl⟩
    · rw [link_updLink_self]
    · have links : ((((s.at t).bump (LNK_TRF p)).linkEvt p 4).raise (Src.linkTrainFail p) p.ix.val).links = s.links :=
        (raise_links _ _ _).trans ((linkEvt_links _ _ _).trans (bump_links _ _))
      rw [link_updLink_self, ← link_congr links p]
    · show ((((s.at t).bump (LNK_TRF p)).linkEvt p 4).raise _ _).reg (LNK_TRF p) = _
      rw [reg_congr (raise_regs _ _ _), reg_linkEvt_ne _ _ _ evt, reg_bump_self]
      rfl
  obtain ⟨x, is, named, state, counted, set_⟩ := told
  have quiet : portDown x p = x.updLink p downLink := portDown_quiet (by rw [state]; exact idle)
  rw [is]
  refine ⟨?_, ?_, ?_, ?_⟩
  · show ((settle (portDown x p)).link p).state = .down
    rw [settle_link]
    exact (fallen_portDown x p).state
  · rw [reg_settle_of_not_closing _ _ trf, quiet]
    exact counted
  · rw [settle_link, (fallen_portDown x p).cause, named]
  · have shown : ((settle (portDown x p)).reg LNK_EVT).getLsbD (linkBit p 4) = true := (set_.portDown (by cases p <;> decide)).settle (by decide)
    cases p <;> exact shown

end Sys2Proof.Machine
end

section
set_option Elab.async false
/-! SUPPORT. The obligation about the states of a port (R44-R61). -/

namespace Sys2Proof.Machine

theorem getLsbD_putBit (s : State) (a : Nat) {i : Nat} (b : Bool) (hi : i < 16) (j : Nat) :
    ((s.putBit a i b).reg a).getLsbD j = if j = i then b else (s.reg a).getLsbD j := by
  unfold State.putBit
  rw [reg_setReg_self, BitVec.getLsbD_or, BitVec.getLsbD_and, BitVec.getLsbD_not, getLsbD_bitW _ hi, getLsbD_bitW _ hi]
  by_cases same : j = i
  · simp [same]
  · by_cases small : j < 16
    · simp [same, small]
    · simp [same, small, BitVec.getLsbD_of_ge (s.reg a) j (by omega)]

/-! Equalizers as they come out of training (R51). -/

/-- What a step of a run brings about and every step keeps holds at the end of it. -/
theorem foldl_reaches {α β : Type} {f : β → α → β} {P : β → Prop} {a : α} (makes : ∀ x, P (f x a)) (keeps : ∀ x b, P x → P (f x b)) :
    ∀ {l : List α}, a ∈ l → ∀ x, P (l.foldl f x)
  | b :: l, mem, x => by
    have stays (l : List α) (y : β) (h : P y) : P (l.foldl f y) := by
      induction l generalizing y with
      | nil => exact h
      | cons c l ih => exact ih _ (keeps _ _ h)
    rw [List.foldl_cons]
    rcases List.mem_cons.1 mem with rfl | later
    · exact stays l _ (makes x)
    · exact foldl_reaches makes keeps later _

theorem eqTrained_lane (s : State) (p : Port) (j : Fin 2) : (vget ((eqTrained s p).link p).lanes j).trained = true := by
  unfold eqTrained
  refine foldl_reaches (P := fun x : State => (vget (x.link p).lanes j).trained = true)
    (a := (⟨6 * j.val, by omega⟩ : Fin 12)) (fun x => ?_) (fun x i h => ?_) (List.mem_finRange _) s
  · rw [link_congr (usedFree_links _), link_updLink_self]
    dsimp only
    rw [vget_vupd, if_pos (Fin.ext (by dsimp only; omega))]
  · rw [link_congr (usedFree_links _), link_updLink_self]
    dsimp only
    rw [vget_vupd]
    split
    · rfl
    · exact h

/-- The bit of LNK_CTRL that enables a port (R61). -/
abbrev enableBit (p : Port) : Nat := match p with | .west => 15 | .east => 14

section
variable {p : Port} {t : Nat} {s : State}

/-! Training and alignment (R44, R53). -/

theorem completes_trainingEntry (applied : s.start.lnkApplied = true) (down : (s.link p).state = .down) (on : portEnabled s p = true)
    (free : (s.link p).held = false) (whole : (s.link p).faultHeld = false) (side : (s.link p).sideWait = false)
    (open_ : vget s.dark.heldPorts p.ix = false) : Completes (.trainingEntry p t) s fun u =>
      (u.link p).state = .training ∧ (u.link p).cfg = s.reg (LNK_CFG p) ∧ SameRegs s u [] := by
  have unheld : portHeld (s.at t) p = false := by
    show ((s.link p).held || (s.link p).faultHeld || vget s.dark.heldPorts p.ix) = false
    rw [free, whole, open_]; rfl
  have enters : ((s.at t).start.lnkApplied && decide ((s.link p).state = .down) && portEnabled (s.at t) p && !portHeld (s.at t) p &&
      !(s.link p).sideWait) = true := by
    rw [unheld, side, show (s.at t).start.lnkApplied = true from applied, show portEnabled (s.at t) p = true from on, down]
    rfl
  obtain ⟨y, row, state, cfg, regs⟩ : ∃ y : State, exec (.trainingEntry p t) s = done y ∧ (y.link p).state = .training ∧
      (y.link p).cfg = s.reg (LNK_CFG p) ∧ y.regs = s.regs := by
    refine ⟨_, congrArg done (if_pos enters), ?_, ?_, rfl⟩
    · rw [link_updLink_self, link_updLink_self]
    · rw [link_updLink_self, link_updLink_self]
      rfl
  refine completes_done row ⟨?_, ?_, sameRegs_settle regs⟩ <;> rw [settle_link] <;> assumption

theorem completes_trainingDone (trains : (s.link p).state = .training) (apart : (vget (s.link p).lanes 0).number ≠ (vget (s.link p).lanes 1).number)
    (far : ∀ i, (vget (s.link p).lanes i).far = 2) : Completes (.trainingDone p t) s fun u =>
      (u.link p).state = .sync ∧ ∀ i, (vget (u.link p).lanes i).trained = true := by
  have both : ((s.link p).lanes.toList.all fun x => decide (x.far = 2)) = true := by
    rw [List.all_eq_true]
    intro x mem
    obtain ⟨i, small, rfl⟩ := List.mem_iff_getElem.1 mem
    exact decide_eq_true (far ⟨i, by simpa using small⟩)
  have row : exec (.trainingDone p t) s = done ((eqTrained (s.at t) p).updLink p fun l => { l with state := .sync, lsRun := 0 }) :=
    congrArg done ((if_neg (not_not_intro trains)).trans ((if_neg apart).trans (if_pos both)))
  refine completes_done row ⟨?_, fun i => ?_⟩ <;> rw [settle_link, link_updLink_self]
  exact eqTrained_lane _ p i

theorem completes_trainingDone_same (trains : (s.link p).state = .training)
    (same : (vget (s.link p).lanes 0).number = (vget (s.link p).lanes 1).number) :
    Completes (.trainingDone p t) s fun u => TrainingFailed s u p 4 :=
  completes_done (congrArg done ((if_neg (not_not_intro trains)).trans (if_pos same)))
    (trainingFailed_settle 4 (by rw [trains]; rfl))

theorem completes_trainingTimeout (trains : (s.link p).state = .training) (late : (s.link p).trainAt + 4 * msT ≤ max s.now t) :
    Completes (.trainingTimeout p t) s fun u => TrainingFailed s u p 1 :=
  completes_done (congrArg done (if_pos ⟨trains, late⟩)) (trainingFailed_settle 1 (by rw [trains]; rfl))

/-- A port that enters UP is seen in LNK_EVT, and the roles that follow leave the port (R44, R86). -/
theorem portUp_keeps (x : State) (p : Port) :
    ((portUp x p).link p) = { x.link p with state := .up, inUse := false, werrs := [], fill := 8 } ∧ EvtSet (portUp x p) LNK_EVT (linkBit p 6) := by
  constructor
  · rw [link_congr (show (portUp x p).links = _ from (lineRole_links _ .b).trans ((lineRole_links _ .a).trans (evt_links _ _ _))), link_updLink_self]
  · exact ((evtSet_linkEvt _ p (by decide)).lineRole .a).lineRole .b

theorem completes_syncDone {skew : Nat} {late : Bool} (syncs : (s.link p).state = .sync) (near : skew ≤ 8) (far : (s.link p).far ≠ 0)
    (run : 4 ≤ (s.link p).lsRun) : Completes (.syncDone p skew late t) s fun u =>
      (u.link p).state = .up ∧ (u.link p).skew = skew ∧ (u.link p).skewLate = late ∧
      (u.reg LNK_EVT).getLsbD (linkBit p 6) = true := by
  have row : exec (.syncDone p skew late t) s =
      done (portUp ((s.at t).updLink p fun l => { l with skew := skew, skewLate := late }) p) :=
    congrArg done ((if_neg (not_not_intro syncs)).trans ((if_neg (Nat.not_lt.2 near)).trans ((if_neg far).trans (if_pos run))))
  obtain ⟨link, set_⟩ := portUp_keeps ((s.at t).updLink p fun l => { l with skew := skew, skewLate := late }) p
  rw [link_updLink_self] at link
  refine completes_done row ⟨?_, ?_, ?_, ?_⟩
  · rw [settle_link, link]
  · rw [settle_link, link]
  · rw [settle_link, link]
  · exact set_.settle (by decide)

theorem completes_syncDone_skewed {skew : Nat} {late : Bool} (syncs : (s.link p).state = .sync) (wide : 8 < skew) :
    Completes (.syncDone p skew late t) s fun u => TrainingFailed s u p 3 :=
  completes_done (congrArg done ((if_neg (not_not_intro syncs)).trans (if_pos wide))) (trainingFailed_settle 3 (by rw [syncs]; rfl))

theorem completes_syncTimeout (syncs : (s.link p).state = .sync) : Completes (.syncTimeout p t) s fun u => TrainingFailed s u p 5 :=
  completes_done (congrArg done (if_pos syncs)) (trainingFailed_settle 5 (by rw [syncs]; rfl))

/-! Loss of signal and degradation (R45-R47). -/

theorem completes_lossOfSignal {lane : Fin 2} {loss : LaneLoss} (lost : isLoss (s.link p) loss = true) :
    Completes (.lossOfSignal p lane loss t) s fun u => PortDown u p ∧ (vget (u.link p).lanes lane).locked = false := by
  obtain ⟨x, is, link⟩ : ∃ x : State, x = ((s.at t).updLink p fun l => { l with lanes := vupd l.lanes lane fun x => { x with locked := false } }) ∧
      x.link p = { s.link p with lanes := vupd (s.link p).lanes lane fun x => { x with locked := false } } :=
    ⟨_, rfl, link_updLink_self _ _ _⟩
  have row : exec (.lossOfSignal p lane loss t) s = done (portDown x p) := is ▸ congrArg done (if_pos lost)
  refine completes_done row ⟨?_, ?_⟩
  · show ((settle (portDown x p)).link p).state = .down
    rw [settle_link, (fallen_portDown x p).state]
  · rw [settle_link, (fallen_portDown x p).lane, link]
    dsimp only
    rw [vget_vupd_self]

theorem completes_degradeEntry (up : (s.link p).state = .up) (bad : degraded? (s.at t) p = true) : Completes (.degradeEntry p t) s fun u =>
    (u.link p).state = .degraded ∧ (u.reg LNK_EVT).getLsbD (linkBit p 5) = true := by
  refine completes_done (congrArg done (if_pos ⟨up, bad⟩)) ⟨?_, ?_⟩
  · rw [settle_link, link_congr ((raise_links _ _ _).trans (linkEvt_links _ _ _)), link_updLink_self]
  · exact ((evtSet_linkEvt ((s.at t).updLink p fun l => { l with state := .degraded }) p (i := 5) (by decide)).raise
      (Src.linkDegraded p) p.ix.val).settle (by decide)

theorem completes_degradedExit (degraded : (s.link p).state = .degraded) (good : degraded? (s.at t) p = false) :
    Completes (.degradedExit p t) s fun u => (u.link p).state = .up := by
  refine completes_done (congrArg done (if_pos ⟨degraded, by rw [good]; rfl⟩)) ?_
  rw [settle_link, link_congr (linkEvt_links _ _ _), link_updLink_self]

theorem completes_degradedRetrain (degraded : (s.link p).state = .degraded) (on : s.bit LNK_CTRL 13 = true) :
    Completes (.degradedRetrain p t) s fun u => PortFell s u p :=
  completes_done (congrArg done (if_pos ⟨degraded, on⟩)) (portFell_settle (x := s.at t) (show (s.link p).state.carries = true by rw [degraded]; rfl) rfl)

/-! What changes of a port without a change of its state (R48, R51). -/

theorem completes_link {c : Instr} {f : LinkPort → LinkPort} (row : exec c s = done ((s.at t).updLink p f)) :
    Completes c s fun u => u.link p = f (s.link p) := by
  refine completes_done row ?_
  rw [settle_link, link_updLink_self]
  rfl

theorem completes_eqAdapt {lane : Fin 2} {k : Fin 6} {up : Bool} (carries : (s.link p).state.carries = true) (busy : (s.link p).idleSince = none)
    (free : vget (vget (s.link p).lanes lane).stepAt k = none) : Completes (.eqAdapt p lane k up t) s fun u =>
      vget (vget (u.link p).lanes lane).coef k = (vget (vget (s.link p).lanes lane).coef k + if up then 1 else -1) ∧
      ∀ j, j ≠ k → vget (vget (u.link p).lanes lane).coef j = vget (vget (s.link p).lanes lane).coef j := by
  have carrying : ∀ x : LinkState, x.carries = true → x ≠ .down ∧ x ≠ .training := by
    intro x h
    cases x <;> simp [LinkState.carries] at h ⊢
  obtain ⟨notDown, notTraining⟩ := carrying _ carries
  have moves : eqAdapt (s.at t) p lane k up = (s.at t).updLink p fun l => { l with lanes := vupd l.lanes lane fun x =>
      { x with coef := vupd x.coef k fun c => if up then c + 1 else c - 1, stepAt := vset x.stepAt k (some (s.at t).now) } } := by
    unfold eqAdapt
    refine if_neg ?_
    dsimp only [at_link]
    rw [busy, free]
    simp [notDown, notTraining]
  obtain ⟨z, is, good⟩ : Completes (.eqAdapt p lane k up t) s fun u => u.link p = { s.link p with
      lanes := vupd (s.link p).lanes lane fun x =>
        { x with coef := vupd x.coef k fun c => if up then c + 1 else c - 1, stepAt := vset x.stepAt k (some (s.at t).now) } } :=
    completes_link (t := t) (p := p) (c := .eqAdapt p lane k up t) (congrArg done moves)
  refine ⟨z, is, ?_, fun j other => ?_⟩ <;> rw [good] <;> dsimp only <;> rw [vget_vupd_self] <;> dsimp only
  · rw [vget_vupd_self]
    cases up <;> rfl
  · rw [vget_vupd, if_neg other]

/-! The commands of a port (R60, R61). -/

theorem retrain_held (free : portHeld s p = false) (on : portEnabled s p = true) :
    ¬ (portHeld (s.at t) p || !portEnabled (s.at t) p) = true := by
  rw [show portHeld (s.at t) p = false from free, show portEnabled (s.at t) p = true from on]; decide

theorem completes_retrain (free : portHeld s p = false) (on : portEnabled s p = true) (carries : (s.link p).state.carries = true) :
    Completes (.retrain p t) s fun u => PortFell s u p := by
  have other : ¬ ((s.at t).link p).state = .training := by
    rw [at_link]
    intro h
    rw [h] at carries; cases carries
  exact completes_done (congrArg done ((if_neg (retrain_held free on)).trans (if_neg other))) (portFell_settle (x := s.at t) carries rfl)

theorem completes_retrain_training (free : portHeld s p = false) (on : portEnabled s p = true) (trains : (s.link p).state = .training) :
    Completes (.retrain p t) s fun u => (u.link p).state = .training ∧ (u.link p).trainAt = max s.now t ∧
      ∀ i, (vget (u.link p).lanes i).trained = false ∧ (vget (u.link p).lanes i).far = 0 := by
  have row : exec (.retrain p t) s = done ((s.at t).updLink p fun l =>
      { l with trainAt := (s.at t).now, lanes := (eqBegin l).map fun x => { x with far := 0 } }) :=
    congrArg done ((if_neg (retrain_held free on)).trans (if_pos trains))
  obtain ⟨z, is, link⟩ := completes_link row
  refine ⟨z, is, ?_, ?_, fun i => ?_⟩ <;> rw [link]
  · exact trains
  · rfl
  · dsimp only [eqBegin]
    constructor <;> simp [vget]

theorem completes_lnkPortDisable : Completes (.lnkPortDisable p t) s fun u =>
    PortDown u p ∧ (u.reg LNK_CTRL).getLsbD (enableBit p) = false ∧
      ∀ i, i ≠ (enableBit p) → (u.reg LNK_CTRL).getLsbD i = (s.reg LNK_CTRL).getLsbD i := by
  obtain ⟨x, is⟩ : ∃ x : State, x = (s.at t).putBit LNK_CTRL (enableBit p) false := ⟨_, rfl⟩
  have small : (enableBit p) < 16 := by cases p <;> decide
  have reg : (settle (portDown x p)).reg LNK_CTRL = x.reg LNK_CTRL := by
    rw [reg_settle_of_not_closing _ _ (by decide)]
    exact keepsRegs_portDown x p LNK_CTRL 0 (by decide) (by cases p <;> decide)
  have row : exec (.lnkPortDisable p t) s = done (portDown x p) := is ▸ rfl
  refine completes_done row ⟨?_, ?_, fun i other => ?_⟩
  · show ((settle (portDown x p)).link p).state = .down
    rw [settle_link, (fallen_portDown x p).state]
  · rw [reg, is, getLsbD_putBit _ _ _ small, if_pos rfl]
  · rw [reg, is, getLsbD_putBit _ _ _ small, if_neg other]
    rfl

theorem completes_lnkPortEnable : Completes (.lnkPortEnable p t) s fun u =>
    (u.link p) = s.link p ∧ (u.reg LNK_CTRL).getLsbD (enableBit p) = true ∧
      ∀ i, i ≠ (enableBit p) → (u.reg LNK_CTRL).getLsbD i = (s.reg LNK_CTRL).getLsbD i := by
  obtain ⟨x, is⟩ : ∃ x : State, x = (s.at t).putBit LNK_CTRL (enableBit p) true := ⟨_, rfl⟩
  have small : (enableBit p) < 16 := by cases p <;> decide
  have row : exec (.lnkPortEnable p t) s = done x := is ▸ rfl
  refine completes_done row ⟨?_, ?_, fun i other => ?_⟩
  · rw [settle_link, is, link_congr (putBit_links _ _ _ _), at_link]
  · rw [reg_settle_of_not_closing _ _ (by decide), is, getLsbD_putBit _ _ _ small, if_pos rfl]
  · rw [reg_settle_of_not_closing _ _ (by decide), is, getLsbD_putBit _ _ _ small, if_neg other]
    rfl

end

/-- Settles O11: each clause by the one branch of its row; a fall of a port by what its roles and damping leave of it. -/
theorem linkStates : Obligations.LinkStates := by
  unfold Obligations.LinkStates
  intro p t s
  refine ⟨completes_trainingEntry, completes_trainingDone, completes_trainingDone_same, completes_trainingTimeout,
    fun skew late syncs near far run => ?up, fun skew late => completes_syncDone_skewed, completes_syncTimeout,
    fun lane loss => completes_lossOfSignal, fun up bad => ?degraded, completes_degradedExit, completes_degradedRetrain, fun held => ?holdOff,
    fun e0 e1 => ?eye, fun lane k up => completes_eqAdapt, fun free on => ⟨completes_retrain free on, completes_retrain_training free on⟩,
    ?clrhold, ?disable, ?enable⟩
  case up => cases p <;> exact completes_syncDone syncs near far run
  case degraded => cases p <;> exact completes_degradeEntry up bad
  case disable => cases p <;> exact completes_lnkPortDisable
  case enable => cases p <;> exact completes_lnkPortEnable
  case holdOff =>
    have row : exec (.holdOffEnd p t) s = done ((s.at t).updLink p fun l => { l with held := false, holdEnd := some (s.at t).now }) :=
      congrArg done (if_pos held)
    exact completes_link row
  case eye =>
    obtain ⟨z, is, link⟩ := completes_link (c := .eyeUpdate p e0 e1 t) (s := s) (t := t) (p := p) rfl
    refine ⟨z, is, ?_, ?_, ?_⟩ <;> rw [link] <;> dsimp only
    · rw [vget_vupd, if_neg (by decide), vget_vupd_self]
    · rw [vget_vupd_self]
  case clrhold =>
    obtain ⟨z, is, link⟩ := completes_link (c := .clrhold p t) (s := s) (t := t) (p := p) rfl
    exact ⟨z, is, by rw [link], by rw [link], by rw [link]⟩

end Sys2Proof.Machine
end

section
set_option Elab.async false
/-! SUPPORT. The retained store through its operations: runs of words read, slots and their records, the check of a slot (R365-R383). -/

namespace Sys2Proof.Machine

/-! Runs of words read. -/

theorem words_congr {s u : State} (h : u.mem = s.mem) : ∀ (n a : Nat), u.words a n = s.words a n
  | 0, _ => rfl
  | n + 1, a => by rw [State.words, State.words, word_congr h, words_congr h n]

theorem words_of_word {s : State} : ∀ {l : List Word} {a : Nat}, (∀ i < l.length, s.word (a + 2 * i) = wAt l i) → s.words a l.length = l
  | [], _, _ => rfl
  | v :: l, a, h => by
    have head : s.word a = v := h 0 (by simp)
    have tail : s.words (a + 2) l.length = l := words_of_word fun i small => by
      have next := h (i + 1) (by simpa using small)
      rw [show a + 2 * (i + 1) = a + 2 + 2 * i by omega] at next
      exact next
    rw [List.length_cons, State.words, head, tail]

theorem words_setWords (s : State) (a : Nat) (l : List Word) : (s.setWords a l).words a l.length = l :=
  words_of_word fun i small => word_setWords l s a i small

theorem length_words (s : State) : ∀ (n a : Nat), (s.words a n).length = n
  | 0, _ => rfl
  | n + 1, a => by rw [State.words, List.length_cons, length_words s n]

/-- Runs of words that a state shares with another read the same. -/
theorem words_apart {s u : State} : ∀ {n a : Nat}, (∀ i < n, u.word (a + 2 * i) = s.word (a + 2 * i)) → u.words a n = s.words a n
  | 0, _, _ => rfl
  | n + 1, a, h => by
    have head : u.word a = s.word a := h 0 (by omega)
    have tail : u.words (a + 2) n = s.words (a + 2) n := words_apart fun i small => by
      have next := h (i + 1) (by omega)
      rw [show a + 2 * (i + 1) = a + 2 + 2 * i by omega] at next
      exact next
    rw [State.words, State.words, head, tail]

theorem settle_words (x : State) (a n : Nat) : (settle x).words a n = x.words a n := words_congr (settle_mem x) n a

/-! Slots (R375). -/

theorem bIx_ne (b : Bool) : bIx (!b) ≠ bIx b := by cases b <;> decide

theorem slot_congr {s u : State} (h : u.store = s.store) (b : Bool) : u.slot b = s.slot b := by unfold State.slot; rw [h]

@[simp] theorem settle_slot (x : State) (b : Bool) : (settle x).slot b = x.slot b := slot_congr (settle_store x) b

theorem slot_updSlot_self (s : State) (b : Bool) (f : Slot → Slot) : (s.updSlot b f).slot b = f (s.slot b) := vget_vupd_self _ _ _
theorem slot_updSlot_other (s : State) (b : Bool) (f : Slot → Slot) : (s.updSlot b f).slot (!b) = s.slot (!b) :=
  (vget_vupd _ _ _ _).trans (if_neg (bIx_ne b))

/-- A record joins the journal; of the store nothing else changes (R384). -/
theorem jrnPush_eq (s : State) (b : JrnBody) : jrnPush s b = s.updJrn fun _ => (jrnPush s b).store.jrn := rfl

theorem slotRecord_slot (s : State) (b c force : Bool) : (slotRecord s b force).slot c = s.slot c := rfl

/-- A slot's state changes with a record of it. -/
theorem setSlot_eq (s : State) (b : Bool) (st : SlotState) :
    setSlot s b st = (s.updSlot b fun x => { x with state := st }).updJrn fun _ => (setSlot s b st).store.jrn := rfl

theorem setSlot_self (s : State) (b : Bool) (st : SlotState) : (setSlot s b st).slot b = { s.slot b with state := st } :=
  slot_updSlot_self s b fun x => { x with state := st }

theorem setSlot_other (s : State) (b : Bool) (st : SlotState) : (setSlot s b st).slot (!b) = s.slot (!b) :=
  slot_updSlot_other s b fun x => { x with state := st }

theorem slotInForce_self (s : State) (b : Bool) : (slotInForce s b).slot b = { s.slot b with state := .live } :=
  slot_updSlot_self s b fun x => { x with state := .live }

/-- A kept copy that is lost stands in the table of copies alone (R192). -/
theorem keptLost_eq (s : State) (b : Bool) : ∃ f, keptLost s b = s.updFab f := by
  unfold keptLost
  extract_lets stays
  split
  · exact ⟨_, rfl⟩
  · exact ⟨id, rfl⟩

theorem keptLost_store (s : State) (b : Bool) : (keptLost s b).store = s.store := by
  obtain ⟨f, is⟩ := keptLost_eq s b
  rw [is]; rfl

theorem keptLost_mem (s : State) (b : Bool) : (keptLost s b).mem = s.mem := by
  obtain ⟨f, is⟩ := keptLost_eq s b
  rw [is]; rfl

theorem keptLost_regs (s : State) (b : Bool) : (keptLost s b).regs = s.regs := by
  obtain ⟨f, is⟩ := keptLost_eq s b
  rw [is]; rfl

/-! The check of a slot reads the keys, the fuse and the memory of the store (R372). -/

section
variable {s u : State} (store : u.store = s.store) (mem : u.mem = s.mem)
include store mem

omit store in
theorem signatureOk_congr : signatureOk u = signatureOk s := by
  funext digest sig k
  unfold signatureOk keyWords
  rw [words_congr mem]

theorem slotCause_congr (ws : List Word) : slotCause u ws = slotCause s ws := by
  unfold slotCause secure
  rw [signatureOk_congr mem, store]

theorem slotVerdict_congr (ws : List Word) (content : Option Stagebook) : slotVerdict u ws content = slotVerdict s ws content := by
  unfold slotVerdict
  rw [slotCause_congr store mem]

theorem passes_congr (b : Bool) (content : Option Stagebook) : passes u b content = passes s b content := by
  unfold passes slotWords
  rw [slotVerdict_congr store mem, words_congr mem]

end

@[simp] theorem at_passes (s : State) (t : Nat) (b : Bool) (content : Option Stagebook) : passes (s.at t) b content = passes s b content :=
  passes_congr (s := s) (u := s.at t) rfl rfl b content

/-- A VALID slot that passes its check is taken as it is (R375). -/
theorem recheck_passes {s : State} {b : Bool} (h : (passes s b (s.slot b).content).isSome = true) : recheck s b = (s, true) := by
  unfold passes at h
  unfold recheck
  generalize slotVerdict s (slotWords s b) (s.slot b).content = v at h ⊢
  obtain ⟨k, _ | c⟩ := v
  · cases h
  · rfl

/-- The slot as a check leaves it that fails for cause k (R372). -/
def slotFailed (s : State) (b : Bool) (k : Nat) : State :=
  ((setSlot (s.updSlot b fun x => { x with cause := k }) b .bad).evt RST_EVT rstCHKFAIL).raise Src.slotCheckFail (b2n b)

theorem recheck_fails {s : State} {b : Bool} (h : passes s b (s.slot b).content = none) :
    recheck s b = (slotFailed s b (slotVerdict s (slotWords s b) (s.slot b).content).1, false) := by
  unfold passes at h
  unfold recheck slotFailed
  generalize slotVerdict s (slotWords s b) (s.slot b).content = v at h ⊢
  obtain ⟨k, _ | c⟩ := v
  · rfl
  · cases h

theorem slotFailed_store (s : State) (b : Bool) (k : Nat) :
    (slotFailed s b k).store = (setSlot (s.updSlot b fun x => { x with cause := k }) b .bad).store :=
  (raise_store _ _ _).trans (evt_store _ _ _)

theorem slotFailed_self (s : State) (b : Bool) (k : Nat) : (slotFailed s b k).slot b = { s.slot b with state := .bad, cause := k } := by
  rw [slot_congr (slotFailed_store s b k), setSlot_self, slot_updSlot_self]

theorem reg_countSel_self (s : State) (a n : Nat) : (s.countSel a 0 n).reg a = bumpW (s.reg a) n := by
  have counted : (s.setRegSel a 0 (bumpW (s.regSel a 0) n)).regSel a 0 = bumpW (s.reg a) n := by
    rw [regSel_setRegSel, if_pos rfl]; rfl
  rw [State.countSel, State.countTwin]
  split
  · have twin : regKey a 0 ≠ regKey a (0 + twinSel .c1) := by simp [regKey, twinSel]
    exact (sparseGet_set_ne regDefault _ _ twin).trans counted
  · exact counted

theorem reg_countSel_ne (s : State) {a b : Nat} (n : Nat) (h : b ≠ a) : (s.countSel a 0 n).reg b = s.reg b := by
  have out (r : State) (sel : Nat) (v : Word) (hs : sel < 65536) : (r.setRegSel a sel v).regSel b 0 = r.regSel b 0 :=
    regSel_setRegSel_ne r sel 0 v hs (by decide) h
  rw [State.reg, State.countSel, State.countTwin]
  split
  · exact (out _ _ _ (by decide)).trans (out _ _ _ (by decide))
  · exact out _ _ _ (by decide)

/-! Commands of RST_CMD (R393). -/

theorem rstCmd_free {s : State} (free : cmdBusy s = false) (path : Path) (code t : Nat) (b : Bool) : rstCmd (s.at t) path code b =
    match code with
    | 1 => slotOpen (s.at t) b
    | 2 => slotClose (s.at t) b
    | 3 => promote (s.at t) b
    | 4 => update (s.at t) b
    | 5 => sheetCmd (s.at t) b
    | 6 => abandon (s.at t) b
    | 8 => keyWrite (s.at t) path b
    | 9 => keyRevoke (s.at t) path
    | 10 => blowFuse (s.at t) path
    | _ => cmdRefuse (s.at t) code rfBADCMD :=
  if_neg (by rw [show cmdBusy (s.at t) = false from free]; decide)

/-- A refused command leaves slots, keys, fuse and memory (R393). -/
theorem refused_settle (s : State) (t code why : Nat) : Refused s (settle (cmdRefuse (s.at t) code why)) code why := by
  refine ⟨?_, ?_, ?_, ?_, ?_, sameMemory_settle rfl⟩ <;> rw [settle_store] <;> rfl

theorem completes_refused {c : Instr} {s : State} {t code why : Nat} (row : exec c s = done (cmdRefuse (s.at t) code why)) :
    Completes c s fun u => Refused s u code why := completes_done row (refused_settle s t code why)

end Sys2Proof.Machine
end

section
set_option Elab.async false
/-! SUPPORT. The obligation about slots and keys of the retained store (R366, R372-R377, R380, R382, R388, R393). -/

namespace Sys2Proof.Machine

section
variable {path : Path} {b : Bool} {t : Nat} {s : State}

/-! Commands that are refused (R393). -/

theorem completes_busy (busy : cmdBusy s = true) : ∀ x ∈ [(Instr.slotOpen path b t, 1), (.slotClose path b t, 2), (.promote path b t, 3),
    (.update path b t, 4), (.sheet path b t, 5), (.abandon path b t, 6), (.keywr path b t, 8), (.keyrev path t, 9), (.fuse path t, 10)],
    Completes x.1 s fun u => Refused s u x.2 1 := by
  have refuses (code : Nat) (d : Bool) : rstCmd (s.at t) path code d = cmdRefuse (s.at t) code 1 := if_pos busy
  simp only [List.forall_mem_cons, List.not_mem_nil, IsEmpty.forall_iff, implies_true, and_true]
  exact ⟨completes_refused (congrArg done (refuses 1 b)), completes_refused (congrArg done (refuses 2 b)),
    completes_refused (congrArg done (refuses 3 b)), completes_refused (congrArg done (refuses 4 b)),
    completes_refused (congrArg done (refuses 5 b)), completes_refused (congrArg done (refuses 6 b)),
    completes_refused (congrArg done (refuses 8 b)), completes_refused (congrArg done (refuses 9 false)),
    completes_refused (congrArg done (refuses 10 false))⟩

section
variable (free : cmdBusy s = false)
include free

theorem completes_badcmd {code : Fin 16} (none_ : code.val ∉ [1, 2, 3, 4, 5, 6, 8, 9, 10]) :
    Completes (.badcmd path code t) s fun u => Refused s u code.val 10 := by
  have unknown : ∀ k : Fin 16, k.val ∉ [1, 2, 3, 4, 5, 6, 8, 9, 10] →
      k = 0 ∨ k = 7 ∨ k = 11 ∨ k = 12 ∨ k = 13 ∨ k = 14 ∨ k = 15 := by decide
  have row : exec (.badcmd path code t) s = done (rstCmd (s.at t) path code.val false) :=
    congrArg done (if_neg (by simpa using none_))
  rw [rstCmd_free free] at row
  rcases unknown code none_ with rfl | rfl | rfl | rfl | rfl | rfl | rfl <;> exact completes_refused row

theorem slotClose_refuses (other : (s.slot b).state ≠ .open_) : Completes (.slotClose path b t) s fun u => Refused s u 2 3 :=
  completes_refused (congrArg done ((rstCmd_free free path 2 t b).trans (if_pos other)))

theorem inForce_refuses (force : s.store.force = some b) :
    ∀ x ∈ [(Instr.promote path b t, 3), (.sheet path b t, 5), (.abandon path b t, 6)], Completes x.1 s fun u => Refused s u x.2 2 := by
  have held : isInForce (s.at t) b = true := decide_eq_true force
  simp only [List.forall_mem_cons, List.not_mem_nil, IsEmpty.forall_iff, implies_true, and_true]
  refine ⟨completes_refused (congrArg done ((rstCmd_free free path 3 t b).trans (if_pos held))),
    completes_refused (congrArg done ((rstCmd_free free path 5 t b).trans ((if_neg ?_).trans (if_pos held)))),
    completes_refused (congrArg done ((rstCmd_free free path 6 t b).trans (if_pos held)))⟩
  rw [show cmdBusy (s.at t) = false from free]; decide

theorem keyPath_refuses (foreign : keyPath path = false) :
    ∀ x ∈ [(Instr.keywr path b t, 8), (.keyrev path t, 9), (.fuse path t, 10)], Completes x.1 s fun u => Refused s u x.2 8 := by
  have away : (!keyPath path) = true := by rw [foreign]; rfl
  simp only [List.forall_mem_cons, List.not_mem_nil, IsEmpty.forall_iff, implies_true, and_true]
  exact ⟨completes_refused (congrArg done ((rstCmd_free free path 8 t b).trans (if_pos away))),
    completes_refused (congrArg done ((rstCmd_free free path 9 t false).trans (if_pos away))),
    completes_refused (congrArg done ((rstCmd_free free path 10 t false).trans (if_pos away)))⟩

/-! Slots opened, closed, promoted and abandoned (R376, R377). -/

theorem not_checking : (s.slot b).state ≠ .checking := by
  intro h
  have busy : cmdBusy s = true := by
    unfold cmdBusy
    cases b <;> rw [h] <;> simp
  rw [free] at busy; cases busy

theorem completes_slotOpen (spare : s.store.force ≠ some b) (shut : (s.slot b).state ≠ .open_) (noFetch : fetchHolds s b = false)
    (otherShut : (s.slot (!b)).state ≠ .open_) : Completes (.slotOpen path b t) s fun u =>
      (u.slot b).state = .open_ ∧ (u.slot b).content = none ∧ u.slot (!b) = s.slot (!b) ∧ u.store.cmd = ⟨2, 1, 0⟩ ∧ SameMemory s u := by
  have may : ¬ (isInForce (s.at t) b || decide (((s.at t).slot b).state = .open_) || decide (((s.at t).slot b).state = .checking) ||
      fetchHolds (s.at t) b || decide (((s.at t).slot (!b)).state = .open_)) = true := by
    rw [show fetchHolds (s.at t) b = false from noFetch, show isInForce (s.at t) b = false from decide_eq_false spare,
      show (s.at t).slot b = s.slot b from rfl, show (s.at t).slot (!b) = s.slot (!b) from rfl]
    simp [shut, otherShut, not_checking free]
  obtain ⟨y, is⟩ : ∃ y : State, y = (keptLost (s.at t) b).updSlot b fun x => { x with content := none, two := false } := ⟨_, rfl⟩
  have row : exec (.slotOpen path b t) s = done (cmdDone (setSlot y b .open_) 1) :=
    is ▸ congrArg done ((rstCmd_free free path 1 t b).trans (if_neg may))
  have self : (cmdDone (setSlot y b .open_) 1).slot b = { y.slot b with state := .open_ } := setSlot_self y b .open_
  have same : (cmdDone (setSlot y b .open_) 1).slot (!b) = y.slot (!b) := setSlot_other y b .open_
  refine completes_done row ⟨?_, ?_, ?_, ?_, sameMemory_settle ?_⟩
  · rw [settle_slot, self]
  · rw [settle_slot, self, is, slot_updSlot_self]
  · rw [settle_slot, same, is, slot_updSlot_other, slot_congr (keptLost_store _ _)]
    rfl
  · rw [settle_store]; rfl
  · exact (show (cmdDone (setSlot y b .open_) 1).mem = y.mem from rfl).trans (is ▸ keptLost_mem (s.at t) b)

theorem completes_slotClose (isOpen : (s.slot b).state = .open_) : Completes (.slotClose path b t) s fun u =>
    (u.slot b).state = .checking ∧ u.store.cmd = ⟨1, 2, 0⟩ := by
  have row : exec (.slotClose path b t) s = done (cmdRun (setSlot (s.at t) b .checking) 2) :=
    congrArg done ((rstCmd_free free path 2 t b).trans (if_neg (not_not_intro isOpen)))
  refine completes_done row ⟨?_, ?_⟩
  · rw [settle_slot]
    exact congrArg Slot.state (setSlot_self (s.at t) b .checking)
  · rw [settle_store]; rfl

omit free in
theorem not_inForce (spare : s.store.force ≠ some b) : ¬ isInForce (s.at t) b = true := by
  rw [show isInForce (s.at t) b = false from decide_eq_false spare]; decide

theorem completes_promote (spare : s.store.force ≠ some b) (valid : (s.slot b).state = .valid) : Completes (.promote path b t) s fun u =>
    (u.slot b).state = .live ∧ u.store.cmd = ⟨2, 3, 0⟩ ∧ (u.reg RST_EVT).getLsbD rstPROMOTED = true ∧ u.store.force = s.store.force := by
  have row : exec (.promote path b t) s =
      done (cmdDone ((slotRecord ((s.at t).updSlot b fun x => { x with state := .live }) b true).evt RST_EVT rstPROMOTED) 3) :=
    congrArg done ((rstCmd_free free path 3 t b).trans ((if_neg (not_inForce spare)).trans (if_neg (not_not_intro valid))))
  refine completes_done row ⟨?_, ?_, ?_, ?_⟩
  · rw [settle_slot]
    exact congrArg Slot.state (slot_updSlot_self (s.at t) b fun x => { x with state := .live })
  · rw [settle_store]; rfl
  · exact EvtSet.settle (EvtSet.congr (evtSet_evt _ RST_EVT rstPROMOTED (by decide)) rfl) (by decide)
  · rw [settle_store]; rfl

theorem completes_abandon (spare : s.store.force ≠ some b)
    (state : (s.slot b).state = .open_ ∨ (s.slot b).state = .valid ∨ (s.slot b).state = .bad) : Completes (.abandon path b t) s fun u =>
      (u.slot b).state = .empty ∧ (u.slot b).content = none ∧ u.store.cmd = ⟨2, 6, 0⟩ := by
  obtain ⟨y, is⟩ : ∃ y : State, y = (s.at t).updSlot b fun x => { x with content := none } := ⟨_, rfl⟩
  have row : exec (.abandon path b t) s = done (cmdDone (setSlot y b .empty) 6) :=
    is ▸ congrArg done ((rstCmd_free free path 6 t b).trans ((if_neg (not_inForce spare)).trans (if_pos state)))
  have self : (cmdDone (setSlot y b .empty) 6).slot b = { y.slot b with state := .empty } := setSlot_self y b .empty
  refine completes_done row ⟨?_, ?_, ?_⟩
  · rw [settle_slot, self]
  · rw [settle_slot, self, is, slot_updSlot_self]
  · rw [settle_store]; rfl

/-! A new cue sheet (R388). -/

section
variable (spare : s.store.force ≠ some b) (valid : (s.slot b).state = .valid)
include spare valid

theorem sheet_row : exec (.sheet path b t) s = done (if (recheck (s.at t) b).2 then
    cmdRun ((recheck (s.at t) b).1.updStore fun x => { x with sheet := some b }) 5 else cmdRefuse (recheck (s.at t) b).1 5 rfSTATE) :=
  congrArg done ((rstCmd_free free path 5 t b).trans ((if_neg (by rw [show cmdBusy (s.at t) = false from free]; decide)).trans
    ((if_neg (not_inForce spare)).trans (if_neg (not_not_intro valid)))))

theorem completes_sheet (good : (passes s b (s.slot b).content).isSome = true) : Completes (.sheet path b t) s fun u =>
    u.store.sheet = some b ∧ u.store.cmd = ⟨1, 5, 0⟩ := by
  have row := sheet_row (path := path) (t := t) free spare valid
  rw [recheck_passes (s := s.at t) (by rw [at_passes]; exact good)] at row
  refine completes_done (row.trans (congrArg done (if_pos rfl))) ⟨?_, ?_⟩ <;> rw [settle_store] <;> rfl

theorem sheet_fails (bad : passes s b (s.slot b).content = none) : Completes (.sheet path b t) s fun u =>
    (u.slot b).state = .bad ∧ u.store.cmd = ⟨3, 5, 3⟩ := by
  have row := sheet_row (path := path) (t := t) free spare valid
  rw [recheck_fails (s := s.at t) (by rw [at_passes]; exact bad)] at row
  generalize (slotVerdict (s.at t) (slotWords (s.at t) b) ((s.at t).slot b).content).1 = k at row
  refine completes_done (row.trans (congrArg done (if_neg Bool.false_ne_true))) ⟨?_, ?_⟩
  · rw [settle_slot]
    exact congrArg Slot.state (slotFailed_self (s.at t) b k)
  · rw [settle_store]; rfl

end
end

theorem completes_sheetLoaded {c : Stagebook} (due : s.store.sheet = some b) (holds : (s.slot b).content = some c) :
    Completes (.sheetLoaded t) s fun u => vget u.cue.banks (bankIx (!s.cue.bank)) = some c.sheet ∧ u.cue.bank = s.cue.bank ∧
      u.store.sheet = none ∧ u.store.sheetSlot = some b ∧ u.store.cmd = ⟨2, 5, 0⟩ ∧ (u.reg RST_EVT).getLsbD rstSHEETLD = true := by
  have loaded : sheetLoaded (s.at t) = cmdDone ((((s.at t).updCue fun x =>
      { x with banks := vset x.banks (bankIx (!x.bank)) (some c.sheet) }).updStore fun x =>
      { x with sheet := none, sheetSlot := some b }).evt RST_EVT rstSHEETLD) 5 := by
    unfold sheetLoaded
    rw [show (s.at t).store.sheet = some b from due]
    dsimp only
    rw [show ((s.at t).slot b).content = some c from holds]
  refine completes_done (congrArg done loaded) ⟨?_, ?_, ?_, ?_, ?_, ?_⟩
  · rw [settle_cue]
    exact (vget_vset _ _ _ _).trans (if_pos rfl)
  · rw [settle_cue]; rfl
  · rw [settle_store]; rfl
  · rw [settle_store]; rfl
  · rw [settle_store]; rfl
  · exact EvtSet.settle (EvtSet.congr (evtSet_evt _ RST_EVT rstSHEETLD (by decide)) rfl) (by decide)

/-! The end of a check (R372, R376). -/

section
variable {content : Option Stagebook} (checks : (s.slot b).state = .checking)
include checks

theorem completes_slotChecked {c : Stagebook} (good : passes s b content = some c) : Completes (.slotCheckDone b content false t) s fun u =>
    u.store.cmd = ⟨2, 2, 0⟩ ∧ (u.slot b).state = .valid ∧ (u.slot b).content = some c ∧ (u.slot b).cause = 0 ∧
      (u.reg RST_EVT).getLsbD rstCHKDONE = true := by
  obtain ⟨y, is⟩ : ∃ y : State, y = (cmdDone (s.at t) 2).updSlot b fun x => { x with content := some c, cause := 0 } := ⟨_, rfl⟩
  have row : slotChecked (s.at t) b content false = (setSlot y b .valid).evt RST_EVT rstCHKDONE := by
    have found : passes (s.at t) b content = some c := by rw [at_passes]; exact good
    unfold passes at found
    unfold slotChecked
    rw [if_neg (not_not_intro (show ((s.at t).slot b).state = .checking from checks)), is]
    dsimp only
    rw [if_neg (by decide)]
    generalize slotVerdict (s.at t) (slotWords (s.at t) b) content = v at found ⊢
    obtain ⟨k, _ | d⟩ := v
    · cases found
    · obtain rfl : d = c := Option.some.inj found
      rfl
  have self : ((setSlot y b .valid).evt RST_EVT rstCHKDONE).slot b = { y.slot b with state := .valid } := setSlot_self y b .valid
  have cmd : ((setSlot y b .valid).evt RST_EVT rstCHKDONE).store.cmd = y.store.cmd := rfl
  refine completes_done (congrArg done row) ⟨?_, ?_, ?_, ?_, ?_⟩
  · rw [settle_store, cmd, is]; rfl
  · rw [settle_slot, self]
  · rw [settle_slot, self, is, slot_updSlot_self]
  · rw [settle_slot, self, is, slot_updSlot_self]
  · exact EvtSet.settle (evtSet_evt _ RST_EVT rstCHKDONE (by decide)) (by decide)

theorem slotChecked_fails (bad : passes s b content = none) : Completes (.slotCheckDone b content false t) s fun u =>
    u.store.cmd = ⟨2, 2, 0⟩ ∧ (u.slot b).state = .bad ∧ (u.slot b).content = none ∧
      (u.slot b).cause = (slotVerdict s (slotWords s b) content).1 ∧ (u.reg RST_EVT).getLsbD rstCHKFAIL = true := by
  have verdict : slotVerdict (s.at t) (slotWords (s.at t) b) content = slotVerdict s (slotWords s b) content := by
    unfold slotWords
    rw [slotVerdict_congr (s := s) (u := s.at t) rfl rfl, words_congr (s := s) (u := s.at t) rfl]
  unfold passes at bad
  generalize slotVerdict s (slotWords s b) content = v at bad verdict ⊢
  obtain ⟨k, _ | c⟩ := v
  swap
  · cases bad
  obtain ⟨y, is⟩ : ∃ y : State, y = (cmdDone (s.at t) 2).updSlot b fun x => { x with cause := k, content := none } := ⟨_, rfl⟩
  have row : slotChecked (s.at t) b content false =
      ((setSlot y b .bad).evt RST_EVT rstCHKFAIL).raise Src.slotCheckFail (b2n b) := by
    unfold slotChecked
    rw [if_neg (not_not_intro (show ((s.at t).slot b).state = .checking from checks)), is]
    dsimp only
    rw [if_neg (by decide), verdict]
  have store : (((setSlot y b .bad).evt RST_EVT rstCHKFAIL).raise Src.slotCheckFail (b2n b)).store = (setSlot y b .bad).store :=
    (raise_store _ _ _).trans (evt_store _ _ _)
  refine completes_done (congrArg done row) ⟨?_, ?_, ?_, ?_, ?_⟩
  · rw [settle_store, store, show (setSlot y b .bad).store.cmd = y.store.cmd from rfl, is]; rfl
  · rw [settle_slot, slot_congr store, setSlot_self]
  · rw [settle_slot, slot_congr store, setSlot_self, is, slot_updSlot_self]
  · rw [settle_slot, slot_congr store, setSlot_self, is, slot_updSlot_self]
  · exact EvtSet.settle (EvtSet.raise (evtSet_evt _ RST_EVT rstCHKFAIL (by decide)) _ _) (by decide)

end

/-! Scrubbing (R382). -/

theorem scrubSlot_empty {x : State} {d : Bool} (h : (x.slot d).state = .empty) (ecc : Bool) : scrubSlot x d ecc = x := if_pos (.inl h)

/-- A slot that shows an uncorrectable error becomes BAD, the other slot stays (R366, R382). -/
theorem scrubSlot_bad {x : State} {d : Bool} (state : (x.slot d).state = .valid ∨ (x.slot d).state = .live ∨ (x.slot d).state = .kept) :
    ((scrubSlot x d true).slot d).state = .bad ∧ (scrubSlot x d true).slot (!d) = x.slot (!d) ∧
      (scrubSlot x d true).reg RST_SCRUB_ERR = bumpW (x.reg RST_SCRUB_ERR) 1 ∧ (scrubSlot x d true).reg RST_ECC_C = x.reg RST_ECC_C ∧
      EvtSet (scrubSlot x d true) RST_EVT rstSCRUBERR := by
  have holds : ¬ ((x.slot d).state = .empty ∨ (x.slot d).state = .open_) := by
    rcases state with h | h | h <;> rw [h] <;> decide
  obtain ⟨y, is⟩ : ∃ y : State, y = setSlot ((keptLost x.usedFree d).updSlot d fun z => { z with cause := fld x.free 3 0 }) d .bad := ⟨_, rfl⟩
  have row : scrubSlot x d true = ((y.bump RST_SCRUB_ERR).evt RST_EVT rstSCRUBERR).raise Src.scrubFail (b2n d) := by
    unfold scrubSlot
    dsimp only
    rw [if_neg holds, if_neg (by simp), is]
    rfl
  have store : (scrubSlot x d true).store = y.store := by
    rw [row]; exact (raise_store _ _ _).trans ((evt_store _ _ _).trans (bump_store _ _))
  have regs : y.regs = x.regs := by
    rw [is]; exact (show (setSlot _ d .bad).regs = (keptLost x.usedFree d).regs from rfl).trans (keptLost_regs _ _)
  refine ⟨?_, ?_, ?_, ?_, ?_⟩
  · rw [slot_congr store, is, setSlot_self]
  · rw [slot_congr store, is, setSlot_other, slot_updSlot_other, slot_congr (keptLost_store _ _)]
    rfl
  · rw [row, reg_congr (raise_regs _ _ _), reg_evt_ne _ _ (by decide), reg_bump_self, reg_congr regs]
  · rw [row, reg_congr (raise_regs _ _ _), reg_evt_ne _ _ (by decide), reg_bump_ne _ (by decide), reg_congr regs]
  · rw [row]; exact EvtSet.raise (evtSet_evt _ RST_EVT rstSCRUBERR (by decide)) _ _

theorem completes_scrub (state : (s.slot b).state = .valid ∨ (s.slot b).state = .live ∨ (s.slot b).state = .kept)
    (on : s.bit RST_CTRL 15 = true) (alone : (s.slot (!b)).state = .empty) (m n : Nat) : Completes (.scrub ⟨true, m⟩ ⟨true, n⟩ t) s fun u =>
      u.reg RST_ECC_C = bumpW (s.reg RST_ECC_C) (m + n) ∧ (u.slot b).state = .bad ∧ u.slot (!b) = s.slot (!b) ∧
      u.reg RST_SCRUB_ERR = bumpW (s.reg RST_SCRUB_ERR) 1 ∧ (u.reg RST_EVT).getLsbD rstSCRUBERR = true := by
  obtain ⟨x, is⟩ : ∃ x : State, x = (s.at t).countSel RST_ECC_C 0 (m + n) := ⟨_, rfl⟩
  have slots (d : Bool) : x.slot d = s.slot d := is ▸ rfl
  have counted : x.reg RST_ECC_C = bumpW (s.reg RST_ECC_C) (m + n) := is ▸ reg_countSel_self _ _ _
  have errors : x.reg RST_SCRUB_ERR = s.reg RST_SCRUB_ERR := by
    rw [is, reg_countSel_ne _ _ (by decide)]
    rfl
  obtain ⟨bad, same, count, ecc, evt⟩ := scrubSlot_bad (x := x) (d := b) (by rw [slots]; exact state)
  have both : scrubSlot (scrubSlot x false true) true true = scrubSlot x b true := by
    cases b with
    | false => exact scrubSlot_empty (by rw [show (scrubSlot x false true).slot true = x.slot true from same, slots]; exact alone) true
    | true => rw [scrubSlot_empty (d := false) (by rw [slots]; exact alone)]
  have row : exec (.scrub ⟨true, m⟩ ⟨true, n⟩ t) s = done (scrubSlot x b true) := by
    rw [← both, is]; exact congrArg done (if_pos on)
  refine completes_done row ⟨?_, ?_, ?_, ?_, evt.settle (by decide)⟩
  · rw [reg_settle_of_not_closing _ RST_ECC_C (by decide), ecc, counted]
  · rw [settle_slot, bad]
  · rw [settle_slot, same, slots]
  · rw [reg_settle_of_not_closing _ RST_SCRUB_ERR (by decide), count, errors]

/-! Keys (R373, R374). -/

section
variable (free : cmdBusy s = false) (own : keyPath path = true)
include free own

theorem completes_keywr (some_ : keySel s path ≠ 0) (unset : vget s.store.keys (keySel s path) = 0) (isOpen : (s.slot b).state = .open_) :
    Completes (.keywr path b t) s fun u => vget u.store.keys (keySel s path) = 1 ∧ (u.slot b).state = .empty ∧
      u.words (storeBase + 0x78800 + 64 * (keySel s path).val) 32 = s.words (slotBase b) 32 ∧ u.store.cmd = ⟨2, 8, 0⟩ := by
  have here : ¬ (!keyPath path) = true := by rw [own]; decide
  have new : ¬ (keySel (s.at t) path = 0 ∨ vget (s.at t).store.keys (keySel (s.at t) path) ≠ 0) := by
    rintro (h | h)
    · exact some_ h
    · exact h unset
  generalize key : keySel s path = k at some_ unset ⊢
  obtain ⟨y, is⟩ : ∃ y : State, y = (s.at t).setWords (storeBase + 0x78800 + 64 * k.val) (s.words (slotBase b) 32) := ⟨_, rfl⟩
  have copied : y.words (storeBase + 0x78800 + 64 * k.val) 32 = s.words (slotBase b) 32 := by
    have all := words_setWords (s.at t) (storeBase + 0x78800 + 64 * k.val) (s.words (slotBase b) 32)
    rw [length_words, ← is] at all
    exact all
  have row : exec (.keywr path b t) s = done (cmdDone (setSlot (keyState y k 1) b .empty) 8) := by
    have made : keyWrite (s.at t) path b = cmdDone (setSlot (keyState y k 1) b .empty) 8 := by
      unfold keyWrite
      dsimp only
      rw [if_neg here, if_neg new, if_neg (not_not_intro (show ((s.at t).slot b).state = .open_ from isOpen)), show keySel (s.at t) path = k from key,
        words_congr (s := s) (u := s.at t) rfl, is]
    exact congrArg done ((rstCmd_free free path 8 t b).trans made)
  refine completes_done row ⟨?_, ?_, ?_, ?_⟩
  · rw [settle_store]
    exact (vget_vset _ _ _ _).trans (if_pos rfl)
  · rw [settle_slot]
    exact congrArg Slot.state (setSlot_self (keyState y k 1) b .empty)
  · have small : k.val < 4 := k.isLt
    rw [settle_words, ← copied]
    refine words_apart fun i hi => ?_
    exact word_setWord_apart y _ _ _ (.inl (by omega))
  · rw [settle_store]; rfl

theorem completes_keyrev (some_ : keySel s path ≠ 0) : Completes (.keyrev path t) s fun u =>
    vget u.store.keys (keySel s path) = 2 ∧ (∀ j, j ≠ keySel s path → vget u.store.keys j = vget s.store.keys j) ∧ u.store.cmd = ⟨2, 9, 0⟩ := by
  have here : ¬ (!keyPath path) = true := by rw [own]; decide
  have row : exec (.keyrev path t) s = done (cmdDone (keyState (s.at t) (keySel s path) 2) 9) :=
    congrArg done ((rstCmd_free free path 9 t false).trans ((if_neg here).trans (if_neg some_)))
  refine completes_done row ⟨?_, fun j other => ?_, ?_⟩ <;> rw [settle_store]
  · exact (vget_vset _ _ _ _).trans (if_pos rfl)
  · exact (vget_vset _ _ _ _).trans (if_neg other)
  · rfl

theorem completes_fuse : Completes (.fuse path t) s fun u => u.store.fuse = true ∧ secure u = true ∧ u.store.cmd = ⟨2, 10, 0⟩ := by
  have here : ¬ (!keyPath path) = true := by rw [own]; decide
  have row : exec (.fuse path t) s = done (cmdDone ((s.at t).updStore fun x => { x with fuse := true }) 10) :=
    congrArg done ((rstCmd_free free path 10 t false).trans (if_neg here))
  refine completes_done row ⟨?_, ?_, ?_⟩
  · rw [settle_store]; rfl
  · unfold secure
    rw [settle_store]
    exact Bool.or_true _
  · rw [settle_store]; rfl

end

/-! The write port (R376). -/

/-- The word at which the aperture begins. -/
def apertureAt (s : State) : Nat := fld (s.reg RST_WP_ADDR_H) 0 0 * 65536 + (s.reg RST_WP_ADDR_L).toNat

theorem apertureAt_congr {u : State} (h : u.regs = s.regs) : apertureAt u = apertureAt s := by
  unfold apertureAt
  rw [reg_congr h, reg_congr h]

theorem apertureAt_settle (x : State) : apertureAt (settle x) = apertureAt x := by
  unfold apertureAt
  rw [reg_settle_of_not_closing _ RST_WP_ADDR_H (by decide), reg_settle_of_not_closing _ RST_WP_ADDR_L (by decide)]

theorem apertureAt_moved (x : State) {n : Nat} (h : n < 131072) :
    apertureAt ((x.setReg RST_WP_ADDR_H (putFld (n / 65536) 0 0)).setReg RST_WP_ADDR_L (wd n)) = n := by
  unfold apertureAt
  rw [reg_setReg_self, reg_setReg_ne _ _ (by decide), reg_setReg_self]
  unfold fld wd
  rw [toNat_putFld _ _ _ (by decide) (by decide), BitVec.toNat_ofNat]
  simp only [Nat.shiftRight_zero]
  omega

theorem byte_setWord_apart (x : State) (a b : Nat) (v : Word) (h : b < a ∨ a + 1 < b) : (x.setWord a v).byte b = x.byte b :=
  (byte_congr (s := x.storeWord a v) (t := x.setWord a v) rfl b).trans (byte_storeWord_apart x a b v h)

theorem completes_wpData {i : Fin 32} {v : Word} {o : Bool} (isOpen : openSlot s = some o) (fits : apertureAt s + i.val < 98304) :
    Completes (.wpData i v t) s fun u => StoredWord s u (slotBase o + 2 * (apertureAt s + i.val)) v ∧
      apertureAt u = (if i.val = 31 then (apertureAt s + 32) % 131072 else apertureAt s) := by
  obtain ⟨y, is⟩ : ∃ y : State, y = (s.at t).setWord (slotBase o + 2 * (apertureAt s + i.val)) v := ⟨_, rfl⟩
  have row : apertureWrite (s.at t) i.val v = if i.val = 31 ∧ (openSlot (s.at t)).isSome then
      (y.setReg RST_WP_ADDR_H (putFld ((apertureAt s + 32) % 131072 / 65536) 0 0)).setReg RST_WP_ADDR_L (wd ((apertureAt s + 32) % 131072))
      else y := by
    rw [is]
    unfold apertureWrite
    rw [show openSlot (s.at t) = some o from isOpen]
    dsimp only
    rw [if_pos (show fld ((s.at t).reg RST_WP_ADDR_H) 0 0 * 65536 + ((s.at t).reg RST_WP_ADDR_L).toNat + i.val < 98304 from fits)]
    rfl
  have stored : ∀ x : State, x.mem = y.mem → StoredWord s (settle x) (slotBase o + 2 * (apertureAt s + i.val)) v := by
    intro x mem
    refine ⟨?_, fun c one two => ?_⟩
    · rw [settle_word, word_congr mem, is, word_setWord_self]
    · rw [settle_byte, byte_congr mem, is, byte_setWord_apart _ _ _ _ (by omega)]
      rfl
  by_cases last : i.val = 31
  · have moves : i.val = 31 ∧ (openSlot (s.at t)).isSome = true := ⟨last, by rw [show openSlot (s.at t) = some o from isOpen]; rfl⟩
    refine completes_done (congrArg done (row.trans (if_pos moves))) ⟨stored _ rfl, ?_⟩
    rw [apertureAt_settle, if_pos last]
    exact apertureAt_moved y (Nat.mod_lt _ (by decide))
  · refine completes_done (congrArg done (row.trans (if_neg fun h => last h.1))) ⟨stored _ rfl, ?_⟩
    rw [apertureAt_settle, if_neg last, is]
    exact apertureAt_congr (s := s) rfl

theorem wpData_overruns {i : Fin 32} {v : Word} (shut : openSlot s = none) :
    Completes (.wpData i v t) s fun u => SameMemory s u ∧ (u.reg RST_EVT).getLsbD rstWPOVR = true := by
  have row : apertureWrite (s.at t) i.val v = ((s.at t).evt RST_EVT rstWPOVR).raise Src.apertureOverrun 0 := by
    unfold apertureWrite
    rw [show openSlot (s.at t) = none from shut]
    dsimp only
    exact if_neg fun h => by cases h.2
  refine completes_done (congrArg done row) ⟨sameMemory_settle ((raise_mem _ _ _).trans (evt_mem _ _ _)), ?_⟩
  exact EvtSet.settle (EvtSet.raise (evtSet_evt _ RST_EVT rstWPOVR (by decide)) _ _) (by decide)

/-! Kept copies (R380). -/

theorem completes_keptCopyWrite {k : KeptCopy} (west : s.fab.keptW = some k) (east : s.fab.keptE = none) (due : k.placed = false)
    (fits : k.words.length ≤ 98304) (force : s.store.force = some (!b))
    (state : (s.slot b).state = .empty ∨ (s.slot b).state = .bad ∨ (s.slot b).state = .live ∨ (s.slot b).state = .kept) :
    Completes (.keptCopyWrite t) s fun u => (u.slot b).state = .kept ∧ u.words (slotBase b) k.words.length = k.words ∧
      u.fab.keptW = some { k with placed := true } := by
  have spare : spareSlot (s.at t) = b := by
    show (match s.store.force with | none => false | some b => !b) = b
    rw [force]; exact Bool.not_not b
  have waits : ¬ (!((s.at t).store.force.isSome && (decide (((s.at t).slot b).state = .empty) || decide (((s.at t).slot b).state = .bad) ||
      decide (((s.at t).slot b).state = .live) || decide (((s.at t).slot b).state = .kept))) ||
      !(keptDue (s.at t).fab.keptW || keptDue (s.at t).fab.keptE)) = true := by
    rw [show (s.at t).store.force = some (!b) from force, show (s.at t).fab.keptW = some k from west,
      show (s.at t).slot b = s.slot b from rfl, show keptDue (some k) = !k.placed from rfl, due]
    rcases state with h | h | h | h <;> rw [h] <;> simp
  obtain ⟨y, is⟩ : ∃ y : State, y = (s.at t).setWords (slotBase b) k.words := ⟨_, rfl⟩
  obtain ⟨z, placed, mem, kept⟩ : ∃ z : State, keptWrite (s.at t) = setSlot z b .kept ∧ z.mem = y.mem ∧ z.fab.keptW = some { k with placed := true } := by
    have fit : k.words.length + ([] : List Word).length ≤ 98304 := by simpa using fits
    refine ⟨(y.updFab fun f => { f with keptW := f.keptW.map fun c => { c with placed := true }
                                        keptE := f.keptE.map fun c => { c with placed := true } }).updSlot b fun x =>
      { x with two := true && !k.words.isEmpty && !([] : List Word).isEmpty, content := none, cause := 0 }, ?_, rfl, ?_⟩
    · unfold keptWrite
      rw [spare]
      dsimp only
      rw [if_neg waits, show (s.at t).fab.keptW = some k from west, show (s.at t).fab.keptE = none from east]
      dsimp only
      rw [decide_eq_true fit, is]
      simp only [if_true, List.append_nil]
    · show y.fab.keptW.map _ = _
      rw [is, setWords_eq, show ({ s.at t with mem := ((s.at t).setWords (slotBase b) k.words).mem } : State).fab.keptW = some k from west]
      rfl
  refine completes_done (congrArg done placed) ⟨?_, ?_, ?_⟩
  · rw [settle_slot, setSlot_self]
  · rw [settle_words, words_congr ((show (setSlot z b .kept).mem = z.mem from rfl).trans mem), is, words_setWords]
  · rw [settle_fab]
    exact kept

end

/-- Settles O45: each command by its own branch of RST_CMD, over what a slot's state and record change of the store. -/
theorem slotsAndKeys : Obligations.SlotsAndKeys := by
  unfold Obligations.SlotsAndKeys
  intro path b t s
  exact ⟨⟨completes_busy, fun code free none_ => completes_badcmd free none_,
    fun free spare shut noFetch otherShut => completes_slotOpen free spare shut noFetch otherShut,
    fun free isOpen => completes_slotClose free isOpen, fun free other => slotClose_refuses free other,
    fun free spare valid => completes_promote free spare valid, fun free force => inForce_refuses free force,
    fun free spare state => completes_abandon free spare state,
    fun free spare valid => ⟨completes_sheet free spare valid, sheet_fails free spare valid⟩, fun c due holds => completes_sheetLoaded due holds,
    fun content checks => ⟨fun c good => completes_slotChecked checks good, slotChecked_fails checks⟩,
    fun state on alone m n => completes_scrub state on alone m n⟩,
    ⟨fun free own some_ unset isOpen => completes_keywr free own some_ unset isOpen, fun free own some_ => completes_keyrev free own some_,
      fun free own => completes_fuse free own, fun free foreign => keyPath_refuses free foreign⟩,
    fun i v => ⟨fun o isOpen fits => completes_wpData isOpen fits, wpData_overruns⟩,
    fun k west east due fits force state => completes_keptCopyWrite west east due fits force state⟩

end Sys2Proof.Machine
end

section
set_option Elab.async false
/-! SUPPORT. The words that a lane brings outside frames (R34-R37, R43, R146), the words of a passing frame (R147, R157, R158), and what
a port takes of the hop band (R35, R38, R44, R54, R112). -/

namespace Sys2Proof.Machine

variable {s x : State} {p : Port} {r : Ring} {t : Nat}

theorem inPort_inRing (p : Port) : p.inRing.inPort = p := by cases p <;> rfl
theorem outPort_outRing (p : Port) : p.outRing.outPort = p := by cases p <;> rfl

/-! A port that forwards (R36, R146). -/

theorem drives_congr (cue : x.cue = s.cue) (r : Ring) : drives x r = drives s r := by
  unfold drives State.prompting State.lineOf State.trackOf
  rw [cue]

theorem idles_congr (dark : x.dark = s.dark) (r : Ring) : idles x r = idles s r := by
  unfold idles
  rw [dark]

/-- A port forwards as before where only counts and lanes of ports, and how far the stream has come, have changed. -/
theorem Forwards.congr (h : Forwards s p) (carries : (x.link p).state.carries = true) (noEcho : (x.link p).echoIn = none)
    (band : (x.stream p.inRing).band = 0) (ended : (x.stream p.inRing).ended = (s.stream p.inRing).ended) (cue : x.cue = s.cue)
    (dark : x.dark = s.dark) (host : x.host = s.host) : Forwards x p where
  carries := carries
  noDrive := by rw [drives_congr cue]; exact h.noDrive
  noIdle := by rw [idles_congr dark]; exact h.noIdle
  notEnded := by rw [ended]; exact h.notEnded
  noEcho := noEcho
  noBand := band
  noWake := by rw [host]; exact h.noWake

/-- What a port keeps of a word that is neither hop-local nor in the hop band. -/
def passedOn (s : State) (p : Port) : State :=
  (s.updLink p fun l => { l with echoIn := none }).updStream p.inRing fun x => { x with band := 0 }

theorem Forwards.passedOn (h : Forwards s p) : Forwards (passedOn s p) p := by
  have link : (Machine.passedOn s p).link p = { s.link p with echoIn := none } := link_updLink_self s p _
  have stream : (Machine.passedOn s p).stream p.inRing = { s.stream p.inRing with band := 0 } :=
    stream_updStream_self (s.updLink p _) p.inRing _
  exact h.congr (by rw [link]; exact h.carries) (by rw [link]) (by rw [stream]) (by rw [stream]) rfl rfl rfl

theorem plainWord_forwards (h : Forwards s p) (w : Option RingWord) : plainWord s p w = ringWord (passedOn s p) p.inRing (w.getD .err) := by
  unfold plainWord
  rw [h.noEcho]
  dsimp only
  rw [h.noBand]
  rfl

/-- Words that begin no WAKE sequence (R489). -/
theorem gatherWake_none (noWake : vget s.host.wakeWords r.ix = []) {w : RingWord} (other : ∀ b, w ≠ .wake b) : gatherWake s r w = s := by
  unfold gatherWake
  extract_lets got set_
  split
  · exact absurd rfl (other _)
  · exact if_pos (by rw [show got = [] from noWake]; rfl)

/-- A word between the marker and the event region, or of none, leaves as it came (R36, R146). -/
theorem ringWord_closed (h : Forwards s p) (shut : (s.stream p.inRing).open_ = false) {w : RingWord} (is : (∃ x, w = .data x) ∨ w = .err) :
    ringWord s p.inRing w = sendWords s p.inRing [w] := by
  have carries : (s.link p.inRing.inPort).state.carries = true := by rw [inPort_inRing]; exact h.carries
  unfold ringWord
  rw [gatherWake_none h.noWake (by rintro b rfl; simp at is)]
  dsimp only
  rw [carries, h.noIdle]
  obtain ⟨x, rfl⟩ | rfl := is
  all_goals
    simp only [h.notEnded, shut, transitWord, h.noDrive]
    rfl

theorem ringWord_opens (h : Forwards s p) : ringWord s p.inRing (.sb 1) = sendWords (eventBegins s p.inRing) p.inRing [.sb 1] := by
  have carries : (s.link p.inRing.inPort).state.carries = true := by rw [inPort_inRing]; exact h.carries
  have drive : drives (eventBegins s p.inRing) p.inRing = false := by
    refine Eq.trans ?_ h.noDrive
    have prompts : (eventBegins s p.inRing).prompting = s.prompting := rfl
    have line : (eventBegins s p.inRing).lineOf p.inRing = s.lineOf p.inRing := rfl
    have seen : ((eventBegins s p.inRing).trackOf p.inRing).seen = (s.trackOf p.inRing).seen := by
      simp only [eventBegins, State.trackOf, State.updTrack, State.updCue, vget_vupd_self]
      split <;> rfl
    unfold drives
    rw [prompts, line, seen]
  unfold ringWord
  rw [gatherWake_none h.noWake (by rintro b ⟨⟩)]
  dsimp only
  rw [carries, h.noIdle]
  simp only [transitWord, drive]
  rfl

/-- A word of the event region is parsed as it passes (R147). -/
theorem ringWord_open (h : Forwards s p) (begun : (s.stream p.inRing).open_ = true) {w : RingWord} (is : w = .ieOpen ∨ w = .ieClose) :
    ringWord s p.inRing w = streamWord s p.inRing w := by
  have carries : (s.link p.inRing.inPort).state.carries = true := by rw [inPort_inRing]; exact h.carries
  unfold ringWord
  rw [gatherWake_none h.noWake (by rintro b rfl; simp at is)]
  dsimp only
  rw [carries, h.noIdle]
  obtain rfl | rfl := is
  all_goals
    simp only [h.notEnded, begun]
    rfl

/-! What a word of the lanes comes to. -/

/-- A port after a word that is no word error (R37, R51). -/
def heard (s : State) (p : Port) (w : Option RingWord) : State := countWord (noteIdle s p w) p w

theorem noteIdle_link (s : State) (p : Port) (w : Option RingWord) :
    (noteIdle s p w).link p = { s.link p with idleSince := if w = some .idle then some ((s.link p).idleSince.getD s.now) else none } :=
  link_updLink_self s p _

theorem Forwards.noteIdle (h : Forwards s p) (w : Option RingWord) : Forwards (noteIdle s p w) p :=
  h.congr (by rw [noteIdle_link]; exact h.carries) (by rw [noteIdle_link]; exact h.noEcho) h.noBand rfl rfl rfl rfl

theorem errReceive_link (s : State) (p q : Port) : (errReceive s p).link q = s.link q := link_congr (bump_links s _) q

theorem Forwards.errReceive (h : Forwards s p) : Forwards (errReceive s p) p :=
  h.congr (by rw [errReceive_link]; exact h.carries) (by rw [errReceive_link]; exact h.noEcho) h.noBand rfl rfl rfl rfl

theorem wordIn_data (h : Forwards s p) (shut : (s.stream p.inRing).open_ = false) (d : Word) :
    wordIn s p (some (.data d)) = sendWords (passedOn (noteIdle s p (some (.data d))) p) p.inRing [.data d] := by
  have on := h.noteIdle (some (.data d))
  have carries : ((noteIdle s p (some (.data d))).link p).state.carries = true := on.carries
  unfold wordIn
  dsimp only [countWord]
  rw [carries]
  refine (plainWord_forwards on _).trans ?_
  refine ringWord_closed on.passedOn ?_ (.inl ⟨d, rfl⟩)
  rw [passedOn, stream_updStream_self]
  exact shut

theorem wordIn_err (h : Forwards s p) (shut : (s.stream p.inRing).open_ = false) :
    wordIn s p (some .err) = sendWords (passedOn (errReceive (noteIdle s p (some .err)) p) p) p.inRing [.err] := by
  have on := (h.noteIdle (some .err)).errReceive
  have before : ((noteIdle s p (some .err)).link p).state.carries = true := (h.noteIdle _).carries
  have carries : ((errReceive (noteIdle s p (some .err)) p).link p).state.carries = true := on.carries
  unfold wordIn
  dsimp only [countWord]
  rw [before, if_pos rfl, carries]
  refine (plainWord_forwards on _).trans ?_
  refine ringWord_closed on.passedOn ?_ (.inr rfl)
  rw [passedOn, stream_updStream_self]
  exact shut

/-- Every port is in the state it was in. -/
def SameStates (s x : State) : Prop := ∀ q, (x.link q).state = (s.link q).state

theorem SameStates.trans {s x y : State} (h : SameStates s x) (g : SameStates x y) : SameStates s y := fun q => (g q).trans (h q)
theorem SameStates.of_links {s x : State} (h : x.links = s.links) : SameStates s x := fun q => by rw [link_congr h]

theorem sameStates_updLink (s : State) (p : Port) {f : LinkPort → LinkPort} (h : (f (s.link p)).state = (s.link p).state) :
    SameStates s (s.updLink p f) := fun q => by
  rw [link_updLink]
  split
  · next same => rw [same]; exact h
  · rfl

theorem sameStates_noteIdle (s : State) (p : Port) (w : Option RingWord) : SameStates s (noteIdle s p w) := sameStates_updLink s p rfl
theorem sameStates_passedOn (s : State) (p : Port) : SameStates s (passedOn s p) :=
  SameStates.trans (x := s.updLink p fun l => { l with echoIn := none }) (sameStates_updLink s p rfl) (.of_links rfl)

/-- What a word that passes changes beside its ring's stream and its port. -/
theorem passed_keeps (s : State) (p : Port) (ws : List RingWord) :
    (sendWords (passedOn s p) p.inRing ws).regs = s.regs ∧ (sendWords (passedOn s p) p.inRing ws).mem = s.mem ∧
    (sendWords (passedOn s p) p.inRing ws).link p = { s.link p with echoIn := none } :=
  ⟨rfl, rfl, link_updLink_self s p _⟩

/-- The words that a state with the same ports sends. -/
theorem sends_of_states (h : SameStates s x) (r : Ring) (ws : List RingWord) : Sends s (settle (sendWords x r ws)) r ws := by
  have sent := sends_sendWords x r ws
  unfold Sends at sent ⊢
  rw [settle_stream, sent, h]

/-- A word in error leaves as ERR (R37). -/
theorem wordIn_error (h : Forwards s p) (shut : (s.stream p.inRing).open_ = false) (up : (s.link p).state = .up) :
    wordIn s p none = sendWords (passedOn (wordError (noteIdle s p none) p) p) p.inRing [.err] ∧
    KeepsRegs s (wordError (noteIdle s p none) p) [LNK_WERR p] ∧
    (wordError (noteIdle s p none) p).reg (LNK_WERR p) = bumpW (s.reg (LNK_WERR p)) 1 ∧
    SameStates s (wordError (noteIdle s p none) p) := by
  have state : ((noteIdle s p none).link p).state = .up := by rw [noteIdle_link]; exact up
  have counted : wordError (noteIdle s p none) p = ((noteIdle s p none).bump (LNK_WERR p)).updLink p fun l =>
      { l with werrs := ((noteIdle s p none).now :: l.werrs.filter fun t => decide ((noteIdle s p none).now < t + msT)).take 256 } :=
    if_neg fun degraded => by rw [state] at degraded; exact absurd degraded.1 (by decide)
  have link : ((wordError (noteIdle s p none) p).link p).state = .up ∧ ((wordError (noteIdle s p none) p).link p).echoIn = none := by
    rw [counted, link_updLink_self, link_congr (bump_links _ _), noteIdle_link]
    exact ⟨up, h.noEcho⟩
  obtain ⟨still, noEcho⟩ := link
  refine ⟨?_, ?_, ?_, ?_⟩
  · have on : Forwards (wordError (noteIdle s p none) p) p :=
      h.congr (by rw [still]; rfl) noEcho (by rw [counted]; exact h.noBand) (by rw [counted]; rfl) (by rw [counted]; rfl)
        (by rw [counted]; rfl) (by rw [counted]; rfl)
    have streams : (wordError (noteIdle s p none) p).streams = s.streams := by rw [counted]; rfl
    unfold wordIn
    dsimp only [countWord]
    rw [state]
    rw [if_pos (show (_ || _) = true from rfl), still]
    refine (plainWord_forwards on _).trans (ringWord_closed on.passedOn ?_ (.inr rfl))
    rw [passedOn, stream_updStream_self]
    exact (congrArg EventStream.open_ (stream_congr streams p.inRing)).trans shut
  · rw [counted]
    exact ((KeepsRegs.of_regs rfl _).bump (by simp)).trans (.of_regs rfl _)
  · rw [counted]
    exact reg_bump_self _ _
  · rw [counted]
    exact ((sameStates_noteIdle s p _).trans (.of_links (bump_links _ _))).trans (sameStates_updLink _ p rfl)

/-! The rows of words (R34-R37). -/

theorem arrived_forwards (h : Forwards s p) (g0 g1 : Code) :
    Forwards ((s.at t).updLink p fun _ => (arrive (s.link p) g0 g1).2) p ∧
    ((s.at t).updLink p fun _ => (arrive (s.link p) g0 g1).2).link p = (arrive (s.link p) g0 g1).2 ∧
    SameStates s ((s.at t).updLink p fun _ => (arrive (s.link p) g0 g1).2) ∧
    ((s.at t).updLink p fun _ => (arrive (s.link p) g0 g1).2).regs = s.regs ∧
    ((s.at t).updLink p fun _ => (arrive (s.link p) g0 g1).2).mem = s.mem ∧
    ((s.at t).updLink p fun _ => (arrive (s.link p) g0 g1).2).streams = s.streams := by
  have link : ((s.at t).updLink p fun _ => (arrive (s.link p) g0 g1).2).link p = (arrive (s.link p) g0 g1).2 := link_updLink_self _ p _
  have states : SameStates (s.at t) ((s.at t).updLink p fun _ => (arrive (s.link p) g0 g1).2) := sameStates_updLink _ p rfl
  exact ⟨h.congr (by rw [link]; exact h.carries) (by rw [link]; exact h.noEcho) h.noBand rfl rfl rfl rfl, link, states, rfl, rfl, rfl⟩

theorem wordReceive_eq (g0 g1 : Code) {w : Option RingWord} (is : (arrive (s.link p) g0 g1).1 = w) :
    exec (.wordReceive p g0 g1 t) s = done (wordIn ((s.at t).updLink p fun _ => (arrive (s.link p) g0 g1).2) p w) := by
  rw [← is]; rfl

theorem completes_wordReceive (h : Forwards s p) (shut : (s.stream p.inRing).open_ = false) {g0 g1 : Code} {d : Word}
    (is : (arrive (s.link p) g0 g1).1 = some (.data d)) : Completes (.wordReceive p g0 g1 t) s fun u =>
      Sends s u p.inRing [.data d] ∧ SameMemory s u ∧ SameRegs s u [] ∧ (u.link p).lanes = (arrive (s.link p) g0 g1).2.lanes := by
  obtain ⟨on, link, states, regs, mem, streams⟩ := arrived_forwards (t := t) h g0 g1
  have row := wordReceive_eq (t := t) g0 g1 is
  generalize (s.at t).updLink p (fun _ => (arrive (s.link p) g0 g1).2) = x at on link states regs mem streams row
  rw [wordIn_data on (by rw [stream_congr streams]; exact shut) d] at row
  obtain ⟨regsP, memP, linkP⟩ := passed_keeps (noteIdle x p (some (.data d))) p [.data d]
  refine completes_done row ⟨sends_of_states ?_ _ _, sameMemory_settle (memP.trans mem), sameRegs_settle (regsP.trans regs), ?_⟩
  · exact (states.trans (sameStates_noteIdle _ _ _)).trans (sameStates_passedOn _ _)
  · rw [settle_link, linkP, noteIdle_link, link]

theorem completes_wordError (h : Forwards s p) (shut : (s.stream p.inRing).open_ = false) (up : (s.link p).state = .up) {g0 g1 : Code}
    (is : (arrive (s.link p) g0 g1).1 = none) : Completes (.wordReceive p g0 g1 t) s fun u =>
      Sends s u p.inRing [.err] ∧ SameRegs s u [LNK_WERR p] ∧ u.reg (LNK_WERR p) = bumpW (s.reg (LNK_WERR p)) 1 := by
  obtain ⟨on, link, states, regs, -, streams⟩ := arrived_forwards (t := t) h g0 g1
  have row := wordReceive_eq (t := t) g0 g1 is
  generalize (s.at t).updLink p (fun _ => (arrive (s.link p) g0 g1).2) = x at on link states regs streams row
  obtain ⟨sent, kept, counted, same⟩ := wordIn_error on (by rw [stream_congr streams]; exact shut) (by rw [link]; exact up)
  rw [sent] at row
  obtain ⟨regsP, -, -⟩ := passed_keeps (wordError (noteIdle x p none) p) p [.err]
  refine completes_done row ⟨sends_of_states ((states.trans same).trans (sameStates_passedOn _ _)) _ _, ?_, ?_⟩
  · exact ((KeepsRegs.of_regs regs _).trans (kept.trans (.of_regs regsP _))).settle
  · rw [reg_settle_of_not_closing _ _ (by cases p <;> decide), reg_congr regsP, counted, reg_congr regs]

theorem completes_errReceive (h : Forwards s p) (shut : (s.stream p.inRing).open_ = false) : Completes (.errReceive p t) s fun u =>
    Sends s u p.inRing [.err] ∧ SameRegs s u [LNK_ERRIN p] ∧ u.reg (LNK_ERRIN p) = bumpW (s.reg (LNK_ERRIN p)) 1 := by
  have on : Forwards (s.at t) p := h.congr h.carries h.noEcho h.noBand rfl rfl rfl rfl
  have row : exec (.errReceive p t) s = done _ := congrArg done (wordIn_err on shut)
  have states : SameStates s (errReceive (noteIdle (s.at t) p (some .err)) p) :=
    (sameStates_noteIdle (s.at t) p _).trans (.of_links (bump_links _ _))
  have kept : KeepsRegs s (errReceive (noteIdle (s.at t) p (some .err)) p) [LNK_ERRIN p] :=
    (KeepsRegs.of_regs (rfl : (noteIdle (s.at t) p (some .err)).regs = s.regs) _).bump (by simp)
  have counted : (errReceive (noteIdle (s.at t) p (some .err)) p).reg (LNK_ERRIN p) = bumpW (s.reg (LNK_ERRIN p)) 1 := reg_bump_self _ _
  obtain ⟨regsP, -, -⟩ := passed_keeps (errReceive (noteIdle (s.at t) p (some .err)) p) p [.err]
  refine completes_done row ⟨sends_of_states (states.trans (sameStates_passedOn _ _)) _ _, (kept.trans (.of_regs regsP _)).settle, ?_⟩
  rw [reg_settle_of_not_closing _ _ (by cases p <;> decide), reg_congr regsP, counted]

theorem completes_sbOpens (h : Forwards s p) : Completes (.sbReceive p false t) s fun u =>
    Sends s u p.inRing [.sb 1] ∧ (u.stream p.inRing).open_ = true := by
  have on : Forwards (noteIdle (s.at t) p (some (.sb 1))) p :=
    Forwards.noteIdle (h.congr h.carries h.noEcho h.noBand rfl rfl rfl rfl : Forwards (s.at t) p) _
  have row : exec (.sbReceive p false t) s =
      done (sendWords (eventBegins (passedOn (noteIdle (s.at t) p (some (.sb 1))) p) p.inRing) p.inRing [.sb 1]) := by
    refine congrArg done ?_
    show wordIn (s.at t) p (some (.sb 1)) = _
    unfold wordIn
    dsimp only [countWord]
    rw [on.carries]
    exact (plainWord_forwards on _).trans (ringWord_opens on.passedOn)
  have states : SameStates s (eventBegins (passedOn (noteIdle (s.at t) p (some (.sb 1))) p) p.inRing) :=
    ((sameStates_noteIdle (s.at t) p _).trans (sameStates_passedOn _ _)).trans (.of_links rfl)
  refine completes_done row ⟨sends_of_states states _ _, ?_⟩
  rw [settle_stream]
  unfold sendWords
  rw [stream_updStream_self]
  show ((State.updStream _ p.inRing _).stream p.inRing).open_ = true
  rw [stream_updStream_self]

/-- The hop band begins (R38, R63). -/
theorem completes_sbHop (carries : (s.link p).state.carries = true) : Completes (.sbReceive p true t) s fun u =>
    (u.stream p.inRing).open_ = false ∧ (u.stream p.inRing).band = 7 ∧ SameRegs s u [] := by
  have on : ((noteIdle (s.at t) p (some (.sb 2))).link p).state.carries = true := by rw [noteIdle_link]; exact carries
  have row : exec (.sbReceive p true t) s = done (hopBegins (noteIdle (s.at t) p (some (.sb 2))) p.inRing) := by
    refine congrArg done ?_
    show wordIn (s.at t) p (some (.sb 2)) = _
    unfold wordIn
    dsimp only [countWord]
    rw [on]
    rfl
  have stream : (hopBegins (noteIdle (s.at t) p (some (.sb 2))) p.inRing).stream p.inRing =
      { s.stream p.inRing with open_ := false, band := 7 } := stream_updStream_self _ _ _
  refine completes_done row ⟨?_, ?_, sameRegs_settle rfl⟩
  · rw [settle_stream, stream]
  · rw [settle_stream, stream]

end Sys2Proof.Machine
end

section
set_option Elab.async false
/-! SUPPORT. What a port takes of the hop band (R35, R38, R44, R54, R112): its neighbour's state and side, training blocks, echoes. -/

namespace Sys2Proof.Machine

variable {s x : State} {p : Port} {r : Ring} {t : Nat}

/-! LS words and training blocks (R44, R54). -/

theorem carries_cases {k : LinkState} (h : k.carries = true) : k = .up ∨ k = .degraded := by
  cases k <;> simp [LinkState.carries] at h ⊢

/-- The link of a port that falls, and what it keeps. -/
theorem fallen_settle (x : State) (p : Port) : Fallen (x.link p) ((settle (portDown x p)).link p) := by
  rw [settle_link]; exact fallen_portDown x p

theorem side_apart {east : Bool} (side : east = !decide (p = .east)) : ¬ east = decide (p = .east) := by
  rw [side]; cases decide (p = .east) <;> decide

/-- A port as an LS word tells it of its neighbour (R35, R54). -/
def told (s : State) (p : Port) (status : Byte) : State :=
  s.updLink p fun l => { l with far := status.toNat / 32, farSide := status.getLsbD 4 }

theorem told_link (s : State) (p : Port) (status : Byte) :
    (told s p status).link p = { s.link p with far := status.toNat / 32, farSide := status.getLsbD 4 } := link_updLink_self s p _

theorem completes_ls {status : Byte} {y : State} (is : lsReceive (consume (s.at t) p 1) p status = y) {q : State → Prop} (h : q (settle y)) :
    Completes (.lsReceive p status t) s q := completes_done (congrArg done is) h

theorem completes_lsFalls {status : Byte} (carries : (s.link p).state.carries = true) (side : status.getLsbD 4 = !decide (p = .east))
    (code : status.toNat / 32 ≤ 2) : Completes (.lsReceive p status t) s fun u => PortFell s u p := by
  have link : (told (consume (s.at t) p 1) p status).link p = { s.link p with far := status.toNat / 32, farSide := status.getLsbD 4 } :=
    told_link _ p status
  have is : lsReceive (consume (s.at t) p 1) p status = portDown (told (consume (s.at t) p 1) p status) p := by
    unfold lsReceive
    extract_lets c d s1
    rw [if_neg (side_apart side)]
    have same : ((consume (s.at t) p 1).link p).state = (s.link p).state := rfl
    rw [same]
    obtain up | degraded := carries_cases carries
    · rw [up]; exact if_pos code
    · rw [degraded]; exact if_pos code
  refine completes_ls is (portFell_settle ?_ rfl)
  rw [link]; exact carries

/-- The port names its own side as the far one (R54). -/
theorem wrongSide_settle (x : State) (p : Port) : PortDown (settle (wrongSide x p)) p ∧ ((settle (wrongSide x p)).link p).trCause = 2 ∧
    ((settle (wrongSide x p)).link p).sideWait = true := by
  obtain ⟨state, _, cause, side, _⟩ := fallen_settle
    (((x.linkEvt p 3).raise (Src.linkSide p) p.ix.val).updLink p fun l => { l with trCause := 2, sideWait := true }) p
  rw [link_updLink_self] at cause side
  exact ⟨state, cause, side⟩

theorem completes_lsWrongSide {status : Byte} (side : status.getLsbD 4 = decide (p = .east)) : Completes (.lsReceive p status t) s fun u =>
    PortDown u p ∧ (u.link p).trCause = 2 ∧ (u.link p).sideWait = true :=
  completes_ls (y := wrongSide (told (consume (s.at t) p 1) p status) p) (if_pos side) (wrongSide_settle _ _)

theorem completes_lsSync {status : Byte} (sync : (s.link p).state = .sync) (side : status.getLsbD 4 = !decide (p = .east)) :
    Completes (.lsReceive p status t) s fun u =>
      (u.link p).far = status.toNat / 32 ∧
      (u.link p).lsRun = (if 2 ≤ status.toNat / 32 ∧ status.toNat / 32 ≤ 4 then (s.link p).lsRun + 1 else 0) ∧ (u.link p).state = .sync := by
  have is : lsReceive (consume (s.at t) p 1) p status = (told (consume (s.at t) p 1) p status).updLink p fun l =>
      { l with lsRun := if 2 ≤ status.toNat / 32 ∧ status.toNat / 32 ≤ 4 then l.lsRun + 1 else 0 } := by
    unfold lsReceive
    extract_lets c d s1
    rw [if_neg (side_apart side), show ((consume (s.at t) p 1).link p).state = .sync from sync]
    rfl
  have link : (told (consume (s.at t) p 1) p status).link p = { s.link p with far := status.toNat / 32, farSide := status.getLsbD 4 } :=
    told_link _ p status
  refine completes_ls is ?_
  rw [settle_link, link_updLink_self, link]
  exact ⟨rfl, rfl, sync⟩

/-- A port as a training block tells it of its lanes (R50, R52). -/
def blockTold (s : State) (p : Port) (lane : Fin 2) (east : Bool) (number far : Nat) (inverted : Bool) : State :=
  s.updLink p fun l =>
    let cfg := l.cfg
    let lanes := vupd l.lanes lane fun x =>
      { x with locked := true, number := number % 2, far := far
               inverted := if bitOf cfg 11 then inverted else bitOf cfg (12 + lane.val) }
    { l with lanes := lanes, farSide := east
             swapped := if bitOf cfg 10 then decide (number % 2 ≠ lane.val) else bitOf cfg 9
             far := if lanes.toList.all fun x => decide (x.far ≥ 1) then 1 else 0 }

theorem blockTold_link (s : State) (p : Port) (lane : Fin 2) (east : Bool) (number far : Nat) (inverted : Bool) :
    ((blockTold s p lane east number far inverted).link p).state = (s.link p).state ∧
    (vget ((blockTold s p lane east number far inverted).link p).lanes lane).number = number % 2 ∧
    (vget ((blockTold s p lane east number far inverted).link p).lanes lane).far = far ∧
    (vget ((blockTold s p lane east number far inverted).link p).lanes lane).locked = true := by
  rw [blockTold, link_updLink_self]
  dsimp only
  rw [vget_vupd_self]
  exact ⟨rfl, rfl, rfl, rfl⟩

variable {lane number : Fin 2} {far : Fin 4} {inv : Bool}

theorem completes_tsid_takes (idle : (s.link p).state = .down ∨ (s.link p).state = .training) :
    Completes (.tsidReceive p lane (!decide (p = .east)) number far inv t) s fun u =>
      (vget (u.link p).lanes lane).number = number.val ∧ (vget (u.link p).lanes lane).far = far.val ∧
      (vget (u.link p).lanes lane).locked = true ∧ (u.link p).state = (s.link p).state := by
  have row : exec (.tsidReceive p lane (!decide (p = .east)) number far inv t) s =
      done (blockTold (s.at t) p lane (!decide (p = .east)) number.val far.val inv) := by
    refine congrArg done ?_
    unfold tsidReceive
    extract_lets s1
    rw [if_neg (side_apart rfl)]
    obtain down | training := idle
    · rw [show ((s.at t).link p).state = .down from down]; rfl
    · rw [show ((s.at t).link p).state = .training from training]; rfl
  obtain ⟨state, isNumber, isFar, locked⟩ := blockTold_link (s.at t) p lane (!decide (p = .east)) number.val far.val inv
  refine completes_done row ?_
  rw [settle_link]
  exact ⟨isNumber.trans (Nat.mod_eq_of_lt number.isLt), isFar, locked, state⟩

theorem completes_tsid_falls (carries : (s.link p).state.carries = true) :
    Completes (.tsidReceive p lane (!decide (p = .east)) number far inv t) s fun u => PortFell s u p := by
  have row : exec (.tsidReceive p lane (!decide (p = .east)) number far inv t) s =
      done (portDown (blockTold (s.at t) p lane (!decide (p = .east)) number.val far.val inv) p) := by
    refine congrArg done ?_
    unfold tsidReceive
    extract_lets s1
    rw [if_neg (side_apart rfl)]
    obtain up | degraded := carries_cases carries
    · rw [show ((s.at t).link p).state = .up from up]; rfl
    · rw [show ((s.at t).link p).state = .degraded from degraded]; rfl
  obtain ⟨state, -⟩ := blockTold_link (s.at t) p lane (!decide (p = .east)) number.val far.val inv
  exact completes_done row (portFell_settle (by rw [state]; exact carries) rfl)

/-! Echoes (R35, R38, R112). -/

theorem settle_echo (s : State) : (settle s).time.echo = s.time.echo := by
  obtain ⟨_, _, _, same, _⟩ := settle_time s
  rw [same]

theorem completes_wrongSideRetry : Completes (.wrongSideRetry p t) s fun u =>
    u.link p = { s.link p with sideWait := false } ∧ SameRegs s u [] := by
  have row : exec (.wrongSideRetry p t) s = done ((s.at t).updLink p fun l => { l with sideWait := false }) := rfl
  refine completes_done row ⟨?_, sameRegs_settle rfl⟩
  rw [settle_link, link_updLink_self]
  rfl

theorem completes_echoReq {tag : Byte} (carries : (s.link p).state.carries = true) : Completes (.echoReqReceive p tag t) s fun u =>
    u.link p = { s.link p with echoDue := some (tag, (s.at t).ring.toNat) } := by
  have row : exec (.echoReqReceive p tag t) s = done (echoAsked (consume (s.at t) p 1) p tag) := congrArg done (if_pos carries)
  refine completes_done row ?_
  rw [settle_link, echoAsked, link_updLink_self]
  rfl

/-- The difference of two stamps of an echo, taken within half a second (R112). -/
def echoDiff (d : Int) : Int := if d % (secT : Int) ≥ (secT : Int) / 2 then d % (secT : Int) - secT else d % (secT : Int)

theorem echoDiff_halfSecond (d : Int) : -(secT : Int) ≤ 2 * echoDiff d ∧ 2 * echoDiff d < secT ∧ (secT : Int) ∣ d - echoDiff d := by
  unfold echoDiff
  have sec : (secT : Int) = 1638400000000000 := by decide
  rw [sec]
  split <;> omega

theorem echoResult_found {tag : Byte} {w1 w2 w3 : Word} {y : Byte} {sent : Int} {c : DWord}
    (found : (vget s.time.echo p.ix).open_.find? (fun z => decide (z.1 = tag)) = some (y, sent, c)) :
    echoResult s p tag w1 w2 w3 = s.updTime fun t => { t with echo := vupd t.echo p.ix fun e =>
      { results := (echoDiff (((ofWords [w1, w2] * nsT + w3.toNat * nsT / 65536 : Nat) : Int) - sent) :: e.results).take 64,
        open_ := e.open_.filter fun z => decide (z ≠ (tag, sent, c)) } } := by
  unfold echoResult
  extract_lets e
  rw [show e.open_.find? _ = _ from found]
  rfl

theorem completes_echoRsp {tag : Byte} {w1 w2 w3 : Word} {y : Byte} {sent : Int} {c : DWord}
    (found : (vget s.time.echo p.ix).open_.find? (fun z => decide (z.1 = tag)) = some (y, sent, c)) :
    Completes (.echoRspReceive p tag w1 w2 w3 t) s fun u => ∃ d : Int,
      (vget u.time.echo p.ix).results = d :: (vget s.time.echo p.ix).results.take 63 ∧ -(secT : Int) ≤ 2 * d ∧ 2 * d < secT ∧
      (secT : Int) ∣ ((w1.toNat * 65536 + w2.toNat) * nsT + w3.toNat * nsT / 65536 : Nat) - sent - d := by
  have row : exec (.echoRspReceive p tag w1 w2 w3 t) s = done _ :=
    congrArg done (echoResult_found (s := consume (s.at t) p 4) (w1 := w1) (w2 := w2) (w3 := w3) found)
  have value : ofWords [w1, w2] = w1.toNat * 65536 + w2.toNat := by simp [ofWords]
  refine completes_done row ⟨echoDiff (((ofWords [w1, w2] * nsT + w3.toNat * nsT / 65536 : Nat) : Int) - sent), ?_, ?_⟩
  · rw [settle_echo]
    show (vget (vupd s.time.echo p.ix _) p.ix).results = _
    rw [vget_vupd_self]
    rfl
  · have within := echoDiff_halfSecond (((ofWords [w1, w2] * nsT + w3.toNat * nsT / 65536 : Nat) : Int) - sent)
    rw [value] at within ⊢
    exact within

theorem completes_echoTimeout {tag : Byte} (waits : (vget s.time.echo p.ix).open_.any (fun y => decide (y.1 = tag)) = true) :
    Completes (.echoTimeout p tag t) s fun u =>
      u.reg TIM_ECHO_MISS = bumpW (s.reg TIM_ECHO_MISS) 1 ∧
      (vget u.time.echo p.ix).open_ = (vget s.time.echo p.ix).open_.filter fun y => decide (y.1 ≠ tag) := by
  have row : exec (.echoTimeout p tag t) s = done (((((s.at t).updTime fun t => { t with echo := vupd t.echo p.ix fun e =>
      { e with open_ := e.open_.filter fun x => decide (x.1 ≠ tag) } }).bump TIM_ECHO_MISS).raise Src.echoMiss p.ix.val)) :=
    congrArg done (if_neg (by show ¬ (!(vget s.time.echo p.ix).open_.any _) = true; rw [waits]; decide))
  refine completes_done row ⟨?_, ?_⟩
  · rw [reg_settle_of_not_closing _ _ (by decide), reg_congr (raise_regs _ _ _), reg_bump_self]
    rfl
  · rw [settle_echo, raise_time, bump_time]
    show (vget (vupd s.time.echo p.ix _) p.ix).open_ = _
    rw [vget_vupd_self]

theorem completes_guardReload (fails : s.cue.guard.tblerr = true) (alive : s.cue.guard.dead = false) :
    Completes (.guardReload t) s fun u =>
      u.cue.guard.reloaded = true ∧ u.reg GRD_RELOADS = bumpW (s.reg GRD_RELOADS) 1 := by
  have row : exec (.guardReload t) s = done (((s.at t).bump GRD_RELOADS).updGuard fun g => { g with reloaded := true }) :=
    congrArg done (if_pos (by show (s.cue.guard.tblerr && !s.cue.guard.dead) = true; rw [fails, alive]; rfl))
  refine completes_done row ⟨?_, ?_⟩
  · rw [settle_cue]; rfl
  · rw [reg_settle_of_not_closing _ _ (by decide)]
    exact reg_bump_self (s.at t) GRD_RELOADS

/-! The elastic buffer's overrun (R42, R152). -/

theorem PortFell.congr {x y : State} (h : PortFell s (settle x) p) (links : y.links = x.links) (regs : y.regs = x.regs) :
    PortFell s (settle y) p := by
  obtain ⟨down, counted, told⟩ := h
  have same : (settle y).link p = (settle x).link p := by rw [settle_link, settle_link, link_congr links]
  have downs := (linkRegs p).1
  refine ⟨by rw [PortDown, same]; exact down, ?_, ?_⟩
  · rw [← counted, reg_settle_of_not_closing _ _ downs, reg_settle_of_not_closing _ _ downs, reg_congr regs]
  · rw [reg_settle_of_not_closing _ _ (by decide), reg_congr regs, ← reg_settle_of_not_closing x LNK_EVT (by decide)]
    exact told

/-- The port falls as its buffer overruns; the word in it goes on, which touches the ring's stream alone. -/
theorem ebOverrun_falls (s : State) (p : Port) :
    (ebOverrun s p).links = (portDown ((s.linkEvt p 2).raise (Src.linkOverrun p) p.ix.val) p).links ∧
    (ebOverrun s p).regs = (portDown ((s.linkEvt p 2).raise (Src.linkOverrun p) p.ix.val) p).regs := by
  unfold ebOverrun
  extract_lets r x s1
  split
  · exact ⟨rfl, rfl⟩
  split
  · exact ⟨rfl, rfl⟩
  split
  · unfold sendMore
    extract_lets q
    split <;> exact ⟨rfl, rfl⟩
  · exact ⟨rfl, rfl⟩

theorem completes_ebOverrun {full : Bool} (carries : (s.link p).state.carries = true) : Completes (.ebOverrun p full t) s fun u =>
    PortFell s u p ∧ (u.link p).fill = (if full then 16 else 0) ∧ (u.reg LNK_EVT).getLsbD (linkBit p 2) = true := by
  obtain ⟨x, is⟩ : ∃ x : State, x = (s.at t).updLink p fun l => { l with fill := if full then 16 else 0 } := ⟨_, rfl⟩
  have link : x.link p = { s.link p with fill := if full then 16 else 0 } := is ▸ link_updLink_self (s.at t) p _
  have regs : x.regs = s.regs := is ▸ rfl
  have row : exec (.ebOverrun p full t) s = done (ebOverrun x p) := is ▸ congrArg done (if_pos carries)
  obtain ⟨links, same⟩ := ebOverrun_falls x p
  obtain ⟨y, isY⟩ : ∃ y : State, y = (x.linkEvt p 2).raise (Src.linkOverrun p) p.ix.val := ⟨_, rfl⟩
  have linkY : y.link p = x.link p := link_congr (isY ▸ (raise_links _ _ _).trans (linkEvt_links _ _ _)) p
  have counted : y.reg (LNK_DOWNS p) = s.reg (LNK_DOWNS p) := by
    rw [isY, reg_congr (raise_regs _ _ _), reg_linkEvt_ne _ _ _ (by cases p <;> decide), reg_congr regs]
  have set_ : EvtSet y LNK_EVT (linkBit p 2) := isY ▸ (evtSet_linkEvt _ p (by decide)).raise _ _
  rw [← isY] at links same
  have fell : PortFell s (settle (portDown y p)) p := portFell_settle (by rw [linkY, link]; exact carries) counted
  refine completes_done row ⟨fell.congr links same, ?_, ?_⟩
  · rw [settle_link, link_congr links, (fallen_portDown y p).fill, linkY, link]
  · exact ((set_.portDown (by cases p <;> decide)).congr same).settle (by decide)

end Sys2Proof.Machine
end

section
set_option Elab.async false
/-! SUPPORT. Interjection marks in a passing frame (R157, R158) and a port's own hop band with the slip of its elastic buffer (R38, R40,
R85), and the obligation about words outside frames. -/

namespace Sys2Proof.Machine

variable {s x : State} {p : Port} {r : Ring} {t : Nat}

/-! Interjection marks (R157, R158). -/

theorem not_prompting_of_drives (h : drives s r = false) : s.prompting = false := by
  unfold drives at h
  exact (Bool.or_eq_false_iff.1 h).1

theorem nextWord_none {y : EventStream} (sending : y.sending = []) (store : y.store = []) (buffer : y.buffer = []) : nextWord y = none := by
  unfold nextWord
  rw [sending, store, buffer]

/-- Where nothing is in line a word that belongs where it stands leaves at once. -/
theorem streamWord_clear (w v : RingWord) (fill : Bool) (y : EventStream) (noDrive : drives s r = false)
    (parsed : parseWord (s.stream r) w = ⟨v, fill, false, y⟩) (sending : y.sending = []) (store : y.store = []) (buffer : y.buffer = []) :
    streamWord s r w = (sendWords (s.updStream r fun _ => y) r [v]).updStream r fun x => { x with inside := insideOf y } := by
  have stream : (s.updStream r fun _ => y).stream r = y := stream_updStream_self s r _
  unfold streamWord
  rw [parsed]
  dsimp only
  rw [if_neg Bool.false_ne_true]
  unfold emit
  rw [show (s.updStream r fun _ => y).prompting = false from not_prompting_of_drives noDrive, if_neg Bool.false_ne_true,
    show drives (s.updStream r fun _ => y) r = false from noDrive, if_neg Bool.false_ne_true, stream, nextWord_none sending store buffer]

/-- An interjection mark of a passing frame as it leaves, with the parse after it. -/
theorem completes_mark {c : Instr} {w : RingWord} (h : Forwards s p) (free : StreamFree s p.inRing) (mark : w = .ieOpen ∨ w = .ieClose)
    (is : exec c s = done (wordIn (s.at t) p (some w)))
    {y : EventStream} (parsed : parseWord ((passedOn (noteIdle (s.at t) p (some w)) p).stream p.inRing) w = ⟨w, false, false, y⟩)
    (sending : y.sending = []) (store : y.store = []) (buffer : y.buffer = []) :
    Completes c s fun u => Sends s u p.inRing [w] ∧ (u.stream p.inRing).frame = y.frame ∧ (u.stream p.inRing).inter = y.inter ∧
      (u.stream p.inRing).interDue = y.interDue := by
  have on : Forwards (noteIdle (s.at t) p (some w)) p :=
    Forwards.noteIdle (h.congr h.carries h.noEcho h.noBand rfl rfl rfl rfl : Forwards (s.at t) p) _
  have begun : ((passedOn (noteIdle (s.at t) p (some w)) p).stream p.inRing).open_ = true := by
    rw [passedOn, stream_updStream_self]
    exact free.1
  have passes : wordIn (s.at t) p (some w) = streamWord (passedOn (noteIdle (s.at t) p (some w)) p) p.inRing w := by
    have plain : wordIn (s.at t) p (some w) = plainWord (noteIdle (s.at t) p (some w)) p (some w) := by
      unfold wordIn
      obtain rfl | rfl := mark
      all_goals
        dsimp only [countWord]
        rw [on.carries]
        rfl
    rw [plain, plainWord_forwards on]
    exact ringWord_open on.passedOn begun mark
  have row := is.trans (congrArg done (passes.trans (streamWord_clear w w false y on.passedOn.noDrive parsed sending store buffer)))
  have states : SameStates s ((passedOn (noteIdle (s.at t) p (some w)) p).updStream p.inRing fun _ => y) :=
    ((sameStates_noteIdle (s.at t) p _).trans (sameStates_passedOn _ _)).trans (.of_links rfl)
  have stream : ((passedOn (noteIdle (s.at t) p (some w)) p).updStream p.inRing fun _ => y).stream p.inRing = y := stream_updStream_self _ _ _
  generalize (passedOn (noteIdle (s.at t) p (some w)) p).updStream p.inRing (fun _ => y) = x at row states stream
  have left : ((sendWords x p.inRing [w]).updStream p.inRing fun x => { x with inside := insideOf y }).stream p.inRing =
      { (sendWords x p.inRing [w]).stream p.inRing with inside := insideOf y } := stream_updStream_self _ _ _
  have after : ∃ tx line rd, (sendWords x p.inRing [w]).stream p.inRing = { x.stream p.inRing with tx := tx, line := line, txRd := rd } :=
    ⟨_, _, _, stream_updStream_self x p.inRing _⟩
  refine completes_done row ⟨?_, ?_⟩
  · have sent := sends_of_states states p.inRing [w]
    unfold Sends at sent ⊢
    rw [settle_stream] at sent ⊢
    rw [left]
    exact sent
  · obtain ⟨tx, line, rd, after⟩ := after
    rw [settle_stream, left, after, stream]
    exact ⟨rfl, rfl, rfl⟩

theorem passedOn_stream (s : State) (p : Port) (w : Option RingWord) :
    (passedOn (noteIdle (s.at t) p w) p).stream p.inRing = { s.stream p.inRing with band := 0 } := stream_updStream_self _ _ _

theorem completes_ieOpen {q : Passing} (h : Forwards s p) (free : StreamFree s p.inRing) (frame : (s.stream p.inRing).frame = some q)
    (strip : q.strip = false) (noInter : (s.stream p.inRing).inter = none) (notDue : (s.stream p.inRing).interDue = false) :
    Completes (.ieOpen p t) s fun u =>
      Sends s u p.inRing [.ieOpen] ∧ (u.stream p.inRing).interDue = true ∧ (u.stream p.inRing).frame = some q := by
  have ⟨_, sending, store, buffer⟩ := free
  have parsed : parseWord ((passedOn (noteIdle (s.at t) p (some .ieOpen)) p).stream p.inRing) .ieOpen =
      ⟨.ieOpen, false, false, { s.stream p.inRing with band := 0, interDue := true }⟩ := by
    rw [passedOn_stream]
    unfold parseWord
    simp [frame, strip, noInter, notDue]
  obtain ⟨u, done_, sent, isFrame, _, due⟩ := completes_mark (c := .ieOpen p t) h free (.inl rfl) rfl parsed sending store buffer
  exact ⟨u, done_, sent, due, isFrame.trans frame⟩

theorem completes_ieClose {q : Passing} (h : Forwards s p) (free : StreamFree s p.inRing) (frame : (s.stream p.inRing).frame = some q)
    (strip : q.strip = false) (due : (s.stream p.inRing).interDue = true) : Completes (.ieClose p t) s fun u =>
      Sends s u p.inRing [.ieClose] ∧ (u.stream p.inRing).interDue = false ∧ (u.stream p.inRing).inter = none ∧
      (u.stream p.inRing).frame = some q := by
  have ⟨_, sending, store, buffer⟩ := free
  have parsed : parseWord ((passedOn (noteIdle (s.at t) p (some .ieClose)) p).stream p.inRing) .ieClose =
      ⟨.ieClose, false, false, { s.stream p.inRing with band := 0, inter := none, interDue := false }⟩ := by
    rw [passedOn_stream]
    unfold parseWord
    simp [frame, strip, due]
  obtain ⟨u, done_, sent, isFrame, inter, ended⟩ := completes_mark (c := .ieClose p t) h free (.inr rfl) rfl parsed sending store buffer
  exact ⟨u, done_, sent, ended, inter, isFrame.trans frame⟩

/-! The hop band of a port (R38, R40, R85). -/

/-- Which sources the collectors have armed is as before (R434). -/
def SameInject (s x : State) : Prop := ∀ c : Core, (x.flt c).inject = (s.flt c).inject

theorem SameInject.of_flts (h : x.flts = s.flts) : SameInject s x := fun c => by rw [State.flt, h]; rfl
theorem SameInject.trans {y : State} (h : SameInject s x) (g : SameInject x y) : SameInject s y := fun c => (g c).trans (h c)

theorem sameInject_raise (s : State) (src d : Nat) : SameInject s (s.raise src d) := by
  unfold State.raise
  split
  · split <;> exact .of_flts rfl
  · intro c
    cases c <;> simp [State.flt, State.raiseCore, State.updFlt, vget_vupd, Core.ix]

theorem SameInject.armed (h : SameInject s x) (src : Nat) : hubArmed x src = hubArmed s src := by
  have zero : (vget x.flts Core.c0.ix).inject = (vget s.flts Core.c0.ix).inject := h .c0
  have one : (vget x.flts Core.c1.ix).inject = (vget s.flts Core.c1.ix).inject := h .c1
  unfold hubArmed
  simp only [List.findSome?_cons, List.findSome?_nil, zero, one]

/-- What the guardian's record of a blocked attempt touches (R83, R107). -/
abbrev guardRegs : List Nat := [GRD_BLOCK, GRD_BLOCK_X, GRD_LAST_POS, GRD_LAST_INFO]

/-- Words of the event region or after it have left behind those that were due, which there are only where the node drives the stream
(R71, R87, R151). -/
structure Left (s u : State) (r : Ring) (ws : List RingWord) : Prop where
  sent : ∃ before, Sends s u r (before ++ ws) ∧ (drives s r = false → before = [])
  links : u.links = s.links
  regs : KeepsRegs s u guardRegs
  inject : SameInject s u
  guard : u.cue.guard = s.cue.guard

theorem Left.of_states {y : State} {ws : List RingWord} (h : Left x y r ws) (links : x.links = s.links) (cue : drives x r = drives s r)
    (guard : x.cue.guard = s.cue.guard) (regs : x.regs = s.regs) (flts : x.flts = s.flts) : Left s y r ws := by
  obtain ⟨⟨before, sent, none_⟩, linksY, kept, inject, guardY⟩ := h
  exact ⟨⟨before, sent.of_links links, fun quiet => none_ (cue.trans quiet)⟩, linksY.trans links, (KeepsRegs.of_regs regs _).trans kept,
    (SameInject.of_flts flts).trans inject, guardY.trans guard⟩

theorem left_sendWords (s : State) (r : Ring) (before ws : List RingWord) (quiet : drives s r = false → before = []) :
    Left s (sendWords s r (before ++ ws)) r ws :=
  ⟨⟨before, sends_sendWords s r _, quiet⟩, rfl, .of_regs rfl _, .of_flts rfl, rfl⟩

theorem keepsRegs_guardBlock (s : State) (r : Ring) (region pos : Nat) (c : Core) : KeepsRegs s (guardBlock s r region pos c) guardRegs := by
  have counted : KeepsRegs s (if region = rgTimed then s.bump GRD_BLOCK else s.bump GRD_BLOCK_X) guardRegs := by
    split
    · exact (KeepsRegs.of_regs rfl _).bump (by decide)
    · exact (KeepsRegs.of_regs rfl _).bump (by decide)
  exact ((counted.setReg (by decide) _).setReg (by decide) _).raise _ _

theorem sameInject_guardBlock (s : State) (r : Ring) (region pos : Nat) (c : Core) : SameInject s (guardBlock s r region pos c) := by
  have counted : (if region = rgTimed then s.bump GRD_BLOCK else s.bump GRD_BLOCK_X).flts = s.flts := by split <;> rfl
  exact SameInject.trans (.of_flts ((setReg_flts _ _ _).trans ((setReg_flts _ _ _).trans counted))) (sameInject_raise _ _ _)

theorem Left.guardBlock {u : State} {ws : List RingWord} (h : Left s u r ws) (region pos : Nat) (c : Core) :
    Left s (guardBlock u r region pos c) r ws := by
  obtain ⟨⟨before, sent, none_⟩, links, kept, inject, guard⟩ := h
  have only := hubOnly_guardBlock u r region pos c
  exact ⟨⟨before, sent.of_streams (stream_congr (by rw [only]) r), none_⟩, Eq.trans (by rw [only]) links,
    kept.trans (keepsRegs_guardBlock _ _ _ _ _), inject.trans (sameInject_guardBlock _ _ _ _ _), Eq.trans (by rw [only]) guard⟩

theorem dueWords_none (quiet : drives s r = false) : (dueWords s r).1 = [] := by
  unfold dueWords
  extract_lets y
  split
  · rfl
  · extract_lets from_ n
    rw [quiet]
    rfl

theorem sbDue_none (quiet : drives s r = false) : sbDue s r = false := by
  have own : generates s r = false := by
    simp only [drives, generates, Bool.or_eq_false_iff, Bool.and_eq_false_iff] at quiet ⊢
    exact ⟨quiet.1, quiet.2.imp id And.left⟩
  unfold sbDue
  rw [own]
  rfl

theorem left_sendEvent (s : State) (r : Ring) (ws : List RingWord) : Left s (sendEvent s r ws) r ws := by
  obtain ⟨due, y, is⟩ : ∃ due y, dueWords s r = (due, y) := ⟨_, _, rfl⟩
  have quiet : drives s r = false → due = [] := fun h => by
    have := dueWords_none h
    rwa [is] at this
  obtain ⟨x, isX⟩ : ∃ x : State, x = s.updStream r fun _ => y := ⟨_, rfl⟩
  have drivesX : drives x r = drives s r := isX ▸ rfl
  have linksX : x.links = s.links := isX ▸ rfl
  have guardX : x.cue.guard = s.cue.guard := isX ▸ rfl
  have regsX : x.regs = s.regs := isX ▸ rfl
  have fltsX : x.flts = s.flts := isX ▸ rfl
  unfold sendEvent
  rw [is]
  dsimp only
  rw [← isX]
  cases opens : sbDue x r with
  | false =>
    rw [if_neg Bool.false_ne_true]
    exact (left_sendWords x r due ws fun h => quiet (drivesX ▸ h)).of_states linksX drivesX guardX regsX fltsX
  | true =>
    have driving : drives x r = true := by
      cases h : drives x r with
      | false => rw [sbDue_none h] at opens; cases opens
      | true => rfl
    have never : drives s r = false → ∀ before : List RingWord, before = [] := fun h => by
      rw [← drivesX, driving] at h; cases h
    obtain ⟨z, isZ⟩ : ∃ z : State, z = x.updLine r fun l => { l with sbCycle := some (refCycle x r) } := ⟨_, rfl⟩
    have drivesZ : drives z r = drives x r := isZ ▸ by
      unfold drives
      rw [lineOf_updLine, if_pos rfl]
      rfl
    have begun (before : List RingWord) : Left s (sendWords z r (before ++ ws)) r ws :=
      (left_sendWords z r before ws fun h => never (drivesX ▸ drivesZ ▸ h) _).of_states (isZ ▸ linksX) (drivesZ.trans drivesX)
        (isZ ▸ guardX) (isZ ▸ regsX) (isZ ▸ fltsX)
    rw [if_pos rfl, ← isZ]
    split
    · exact (begun due).guardBlock _ _ _
    · exact begun (.sb 1 :: due)

/-- A port after its hop-band words have left (R38): its request is in the next band under the next tag, and none waits to be answered. -/
structure HopSent (s y : State) (p : Port) : Prop where
  sent : (s.link p).state.carries = true → ∃ before, (y.stream p.outRing).tx = before ++ hopWords s p ∧ (drives s p.outRing = false → before = [])
  link : y.link p = { s.link p with tag := (s.link p).tag + 1, echoDue := none }
  regs : KeepsRegs s y guardRegs
  inject : SameInject s y
  guard : y.cue.guard = s.cue.guard

theorem hopSent_hopSend (s : State) (p : Port) : HopSent s (hopSend s p) p := by
  obtain ⟨⟨before, sent, quiet⟩, links, regs, inject, guard⟩ := left_sendEvent s p.outRing (hopWords s p)
  unfold hopSend
  extract_lets l s1 s2
  have linkEq : s2.link p = s.link p := link_congr links p
  refine ⟨fun carries => ⟨before, ?_, quiet⟩, ?_, regs.trans (.of_regs rfl _), inject.trans (.of_flts rfl), guard⟩
  · unfold Sends at sent
    rw [outPort_outRing, carries, if_pos rfl] at sent
    exact sent
  · rw [link_updLink_self]
    rw [linkEq]

/-- The check of the guardian's table changes nothing but the guardian where it passes (R85). -/
theorem guardCheck_passes {y : State} (calm : hubArmed y Src.guardTable = none) :
    (guardCheck y true).streams = y.streams ∧ (guardCheck y true).links = y.links ∧ (guardCheck y true).regs = y.regs := by
  unfold guardCheck
  rw [hubCheck_none calm]
  dsimp only [Option.isNone, Bool.and_true]
  split
  · exact ⟨rfl, rfl, rfl⟩
  split
  · exact ⟨rfl, rfl, rfl⟩
  split
  · exact ⟨rfl, rfl, rfl⟩
  · exact ⟨rfl, rfl, rfl⟩

theorem guardCheck_fails {y : State} (calm : hubArmed y Src.guardTable = none) (good : y.cue.guard.tblerr = false)
    (alive : y.cue.guard.dead = false) : (guardCheck y false).cue.guard.tblerr = true := by
  unfold guardCheck
  rw [hubCheck_none calm]
  dsimp only [Option.isNone, Bool.and_true]
  rw [alive, good, if_neg Bool.false_ne_true, if_pos (by decide), if_neg (by decide)]
  exact congrArg (fun c : CueState => c.guard.tblerr) (raise_cue _ _ _)

/-- The fill of a port's elastic buffer after the slip of R40. -/
def slipped (fill : Nat) : Nat := if fill < 2 then fill + 1 else if 14 < fill then fill - 1 else fill

theorem slip_keeps (y : State) (p : Port) (n : Nat) : (slip y p n).link p = { y.link p with fill := n } ∧ (slip y p n).streams = y.streams ∧
    (slip y p n).reg (LNK_SLIP p) = bumpW (y.reg (LNK_SLIP p)) 1 ∧ (slip y p n).cue = y.cue :=
  ⟨(link_updLink_self (y.bump (LNK_SLIP p)) p _), rfl, reg_bump_self y _, rfl⟩

theorem ebSlip_within (y : State) (p : Port) {fill : Nat} (low : 1 ≤ fill) (high : fill ≤ 15) :
    (ebSlip y p fill).link p = { y.link p with fill := slipped fill } ∧ (ebSlip y p fill).streams = y.streams ∧
    (ebSlip y p fill).reg (LNK_SLIP p) = (if fill < 2 ∨ 14 < fill then bumpW (y.reg (LNK_SLIP p)) 1 else y.reg (LNK_SLIP p)) ∧
    (ebSlip y p fill).cue = y.cue := by
  unfold ebSlip slipped
  rw [if_neg (by omega)]
  by_cases small : fill < 2
  · rw [if_pos small, if_pos small, if_pos (.inl small)]
    exact slip_keeps y p _
  by_cases big : 14 < fill
  · rw [if_neg small, if_pos big, if_neg small, if_pos big, if_pos (.inr big)]
    exact slip_keeps y p _
  · rw [if_neg small, if_neg big, if_neg small, if_neg big, if_neg (by omega)]
    exact ⟨link_updLink_self y p _, rfl, rfl, rfl⟩

theorem hopWords_length (s : State) (p : Port) : (hopWords s p).length = 8 := by
  unfold hopWords
  extract_lets l echo
  have four : echo.length = 4 := by
    unfold echo
    split <;> rfl
  simp [four]

/-- What a hop band leaves of a port (R38, R40). -/
def HopBand (s u : State) (p : Port) (fill : Nat) : Prop :=
  (∃ before, (u.stream p.outRing).tx = before ++ hopWords s p ∧ (drives s p.outRing = false → before = [])) ∧ (hopWords s p).length = 8 ∧
  (u.link p).tag = (s.link p).tag + 1 ∧ (u.link p).echoDue = none ∧
  (u.link p).fill = (if fill < 2 then fill + 1 else if 14 < fill then fill - 1 else fill) ∧
  u.reg (LNK_SLIP p) = (if fill < 2 ∨ 14 < fill then bumpW (s.reg (LNK_SLIP p)) 1 else s.reg (LNK_SLIP p))

theorem hopBand_settle {y : State} {fill : Nat} (h : HopSent (s.at t) x p) (carries : (s.link p).state.carries = true)
    (tx : (y.stream p.outRing).tx = (x.stream p.outRing).tx) (links : y.links = x.links) (regs : y.regs = x.regs) (low : 1 ≤ fill)
    (high : fill ≤ 15) : HopBand s (settle (ebSlip y p fill)) p fill := by
  obtain ⟨link, streams, slips, -⟩ := ebSlip_within y p low high
  obtain ⟨before, sent, quiet⟩ := h.sent carries
  have counted : y.reg (LNK_SLIP p) = s.reg (LNK_SLIP p) := by
    rw [reg_congr regs]
    exact h.regs (LNK_SLIP p) 0 (by decide) (by cases p <;> decide)
  rw [link_congr links, h.link] at link
  refine ⟨⟨before, ?_, quiet⟩, hopWords_length s p, ?_, ?_, ?_, ?_⟩
  · rw [settle_stream, stream_congr streams, tx]
    exact sent
  · rw [settle_link, link]; rfl
  · rw [settle_link, link]
  · rw [settle_link, link]; rfl
  · rw [reg_settle_of_not_closing _ _ (by cases p <;> decide), slips, counted]

variable {fill : Nat}

/-- The hop band of a port that runs cycles ends the stream's event region (R67). -/
theorem hopBand_row {ok : Bool} (runs : runsCycle (s.at t) p.outRing = true) (carries : (s.link p).state.carries = true) :
    exec (.hopBand p fill ok t) s = done (ebSlip (guardCheck ((hopSend (s.at t) p).updStream p.outRing fun x => { x with ended := true }) ok)
      p fill) :=
  congrArg done (if_pos (by rw [show ((s.at t).link p).state.carries = true from carries, runs]; rfl))

theorem completes_hopBand (runs : runsCycle (s.at t) p.outRing = true) (carries : (s.link p).state.carries = true) (low : 1 ≤ fill)
    (high : fill ≤ 15) (calm : hubArmed s Src.guardTable = none) : Completes (.hopBand p fill true t) s fun u => HopBand s u p fill := by
  have sent := hopSent_hopSend (s.at t) p
  have row := hopBand_row (fill := fill) (ok := true) runs carries
  generalize hopSend (s.at t) p = x at sent row
  have still : hubArmed (x.updStream p.outRing fun x => { x with ended := true }) Src.guardTable = none :=
    ((SameInject.of_flts rfl).armed _).trans ((sent.inject.armed _).trans calm)
  obtain ⟨streams, links, regs⟩ := guardCheck_passes still
  refine completes_done row (hopBand_settle sent carries ?_ links regs low high)
  rw [stream_congr streams, stream_updStream_self]

theorem completes_hopBandIdle (runs : runsCycle (s.at t) p.outRing = false) (carries : (s.link p).state.carries = true) (low : 1 ≤ fill)
    (high : fill ≤ 15) : Completes (.hopBandIdle p fill t) s fun u => HopBand s u p fill := by
  have row : exec (.hopBandIdle p fill t) s = done (ebSlip (hopSend (s.at t) p) p fill) :=
    congrArg done (if_pos (by rw [show ((s.at t).link p).state.carries = true from carries, runs]; rfl))
  exact completes_done row (hopBand_settle (hopSent_hopSend (s.at t) p) carries rfl rfl rfl low high)

theorem completes_hopBand_tableFails (runs : runsCycle (s.at t) p.outRing = true) (carries : (s.link p).state.carries = true)
    (calm : hubArmed s Src.guardTable = none) (good : s.cue.guard.tblerr = false) (alive : s.cue.guard.dead = false) :
    Completes (.hopBand p 8 false t) s fun u => u.cue.guard.tblerr = true := by
  have sent := hopSent_hopSend (s.at t) p
  have row := hopBand_row (fill := 8) (ok := false) runs carries
  generalize hopSend (s.at t) p = x at sent row
  have still : hubArmed (x.updStream p.outRing fun x => { x with ended := true }) Src.guardTable = none :=
    ((SameInject.of_flts rfl).armed _).trans ((sent.inject.armed _).trans calm)
  have failed := guardCheck_fails still (by rw [updStream_cue, sent.guard]; exact good) (by rw [updStream_cue, sent.guard]; exact alive)
  refine completes_done row ?_
  obtain ⟨-, -, -, cue⟩ := ebSlip_within (guardCheck (x.updStream p.outRing fun x => { x with ended := true }) false) p (fill := 8)
    (by decide) (by decide)
  rw [settle_cue, cue]
  exact failed

/-- Settles O10: what a port that forwards does with each word, the marks of an interjection, the hop band, and the overrun. -/
theorem linkWords : Obligations.LinkWords := by
  unfold Obligations.LinkWords
  refine ⟨fun p t s => ⟨?_, ?_, ?_, ?_, ?_, ?_, ?_, ?_, ?_, ?_, ?_, ?_, ?_, ?_⟩, fun p t s => ⟨?_, ?_, ?_, ?_, ?_⟩⟩
  · exact fun g0 g1 x h shut is => completes_wordReceive h shut is
  · exact fun g0 g1 h shut up is => completes_wordError h shut up is
  · exact completes_errReceive
  · exact completes_sbOpens
  · exact completes_sbHop
  · exact fun status carries side code => completes_lsFalls carries side code
  · exact fun status side => completes_lsWrongSide side
  · exact fun status sync side => completes_lsSync sync side
  · exact fun lane number far inv idle => completes_tsid_takes idle
  · exact fun lane number far inv carries => completes_tsid_falls carries
  · exact completes_wrongSideRetry
  · exact fun tag carries => completes_echoReq carries
  · exact fun tag w1 w2 w3 x sent c found => completes_echoRsp found
  · exact fun tag waits => completes_echoTimeout waits
  · exact fun q h free frame strip => ⟨completes_ieOpen h free frame strip, completes_ieClose h free frame strip⟩
  · exact fun fill carries low high calm => ⟨fun runs => completes_hopBand runs carries low high calm, fun runs => completes_hopBandIdle runs carries low high⟩
  · exact fun runs carries calm good alive => completes_hopBand_tableFails runs carries calm good alive
  · exact completes_guardReload
  · intro full carries
    cases p <;> exact completes_ebOverrun carries

end Sys2Proof.Machine
end

section
set_option Elab.async false
/-! SUPPORT. What the effects of a register write leave of the retained store (R383, R384), and the journal as it is written and scanned
(R385-R387). -/

namespace Sys2Proof.Machine

variable {s : State} {p : Port} {path : Path} {t a k : Nat}

/-! The effects of a persistent write leave the retained store as it is. -/

theorem headBegin_store (s : State) (r : Ring) : (headBegin s r).store = s.store := by
  unfold headBegin
  extract_lets s1
  split
  · exact (raise_store _ _ _).trans rfl
  · rfl

theorem lineRole_store (s : State) (r : Ring) : (lineRole s r).store = s.store := by
  unfold lineRole
  extract_lets l s1
  split
  · split
    · rfl
    · exact headBegin_store s1 r
  · split <;> rfl

theorem damp_store (s : State) (p : Port) : (damp s p).store = s.store := by
  unfold damp
  split
  · rfl
  · extract_lets n recent s1 l len
    split <;> rfl

theorem portDown_store (s : State) (p : Port) : (portDown s p).store = s.store := by
  cases carries : (s.link p).state.carries with
  | false => rw [portDown_quiet carries]; rfl
  | true =>
    have told : (fallTold s p).store = s.store := (raise_store _ _ _).trans rfl
    have cut : (cutStream (fallTold s p) p.inRing).store = s.store := told
    have roles : (lineRoles (damp (cutStream (fallTold s p) p.inRing) p)).store = s.store :=
      (lineRole_store _ _).trans ((lineRole_store _ _).trans ((damp_store _ _).trans cut))
    rw [portDown_carrying carries]
    exact roles

theorem portEnables_store (old : Word) (s : State) : (portEnables old s).store = s.store := by
  have one (x : State) (p : Port) (i : Nat) : (if bitOf old i && !x.bit LNK_CTRL i then portDown x p else x).store = x.store := by
    split
    · exact portDown_store x p
    · rfl
  exact (one _ .east 14).trans (one s .west 15)

theorem recut_store (s : State) : (recut s).store = s.store := updSw_store s _

theorem scanBegins_store (before : Bool) (s : State) : (scanBegins before s).store = s.store := by
  unfold scanBegins
  split
  · exact raise_store _ _ _
  · rfl

theorem quotaWritten_store (s : State) (i : Fin 20) : (quotaWritten s i).store = s.store := by
  unfold quotaWritten
  split
  · rfl
  · exact recut_store s

theorem fetchBegin_store (s : State) : (fetchBegin s).store = s.store := by
  unfold fetchBegin fetchFrom fetchAsk sendTo
  extract_lets x target
  split
  · rfl
  split
  · rfl
  · rw [hubOnly_sendFrame]
    rfl

theorem canAttemptEnds_store (s : State) (c : Fin 4) : (canAttemptEnds s c).store = s.store := by
  unfold canAttemptEnds
  extract_lets x s1
  split
  · rfl
  · split <;> rfl

theorem canCtrlWritten_store (old : Word) (c : Fin 4) (s : State) : (canCtrlWritten old c s).store = s.store := by
  have enabled : (canEnable s c).store = s.store := by
    unfold canEnable
    extract_lets n conf
    split
    · rfl
    split
    · rfl
    · exact raise_store _ _ _
  have disabled : (canDisable s c).store = s.store := canAttemptEnds_store s c
  unfold canCtrlWritten
  extract_lets new
  split
  · exact enabled
  · split
    · exact disabled
    · rfl

variable {old new v : Word}

/-- A register that starts something else than a persistent setting does is not persistent. -/
theorem ne_of_persistent {b : Nat} (h : persistent a = true) (other : persistent b = false) : a ≠ b := by
  rintro rfl
  rw [h] at other
  cases other

theorem afterHubLow_store (h : persistent a = true) : (afterHubLow s path a k old new v).store = s.store := by
  unfold afterHubLow
  rw [if_neg (ne_of_persistent h (b := HUB_RESET) (by decide))]
  split
  · exact portEnables_store old s
  rw [if_neg (ne_of_persistent h (b := LNK_CMD .west) (by decide)), if_neg (ne_of_persistent h (b := LNK_CMD .east) (by decide)),
    if_neg (ne_of_persistent h (b := CUE_SCN_CTRL) (by decide))]
  split
  · split
    · rfl
    · exact quotaWritten_store _ _
  rw [if_neg (ne_of_persistent h (b := FAB_RC_CTRL) (by decide))]
  split
  · split
    · split
      · rfl
      · exact fetchBegin_store s
    · rfl
  · rw [if_neg (ne_of_persistent h (b := BRG_SEM_CTRL) (by decide))]

theorem not_persistent_family {n base step : Nat} (h : persistent a = true) (none_ : ∀ i : Fin n, persistent (base + step * i.val) = false) :
    ¬ ∃ i : Fin n, a = base + step * i.val := by
  rintro ⟨i, rfl⟩
  rw [none_ i] at h
  cases h

theorem afterHubHigh_store (h : persistent a = true) : (afterHubHigh s path a k old new v).store = s.store := by
  have aperture : ¬ (0x2840 ≤ a ∧ a < 0x2880) := fun range =>
    not_persistent_family (n := 64) (base := 0x2840) (step := 1) h (by decide) ⟨⟨a - 0x2840, by omega⟩, by dsimp only; omega⟩
  have staged : ¬ (0x3820 ≤ a ∧ a < 0x382C) := fun range =>
    not_persistent_family (n := 12) (base := 0x3820) (step := 1) h (by decide) ⟨⟨a - 0x3820, by omega⟩, by dsimp only; omega⟩
  unfold afterHubHigh
  rw [if_neg (ne_of_persistent h (b := LU_CMD) (by decide)), if_neg (ne_of_persistent h (b := LU_MGN_CLR) (by decide))]
  by_cases src : a = FLT_SRC_CFG
  · rw [if_pos src]
    by_cases fall : k = Src.curtainFall
    · rw [if_pos fall, setRegSel_store]
    · rw [if_neg fall]
  rw [if_neg src, if_neg (ne_of_persistent h (b := FLT_INJ) (by decide)), if_neg (ne_of_persistent h (b := RST_CMD) (by decide)),
    if_neg aperture, if_neg (ne_of_persistent h (b := HST_INTM) (by decide))]
  by_cases dbg : a = DBG_CTRL
  · rw [if_pos dbg]
    exact scanBegins_store _ s
  rw [if_neg dbg, if_neg (ne_of_persistent h (b := DBG_ENG_CMD) (by decide)), if_neg (ne_of_persistent h (b := DBG_ENG_REG) (by decide)),
    if_neg (ne_of_persistent h (b := DBG_TRC_CLR) (by decide)), if_neg (ne_of_persistent h (b := CMP_R_COMMIT) (by decide))]
  by_cases fwd : a = SIG_FWD_SRC
  · rw [if_pos fwd]
    split <;> rfl
  · rw [if_neg fwd, if_neg staged]

theorem afterField_store (h : persistent a = true) : (afterField s path a old new v).store = s.store := by
  have clu : ¬ (68 ≤ a / 0x400 ∧ a / 0x400 ≤ 79 ∧ a % 0x400 = 0x08) := fun range =>
    not_persistent_family (n := 12) (base := 0x11008) (step := 0x400) h (by decide) ⟨⟨a / 0x400 - 68, by omega⟩, by dsimp only; omega⟩
  have can (o : Nat) (low : o < 0x400) (none_ : ∀ i : Fin 4, persistent (0x14800 + o + 0x400 * i.val) = false)
      (range : 82 ≤ a / 0x400 ∧ a / 0x400 ≤ 85) : ¬ a % 0x400 = o := fun is =>
    not_persistent_family (n := 4) (base := 0x14800 + o) (step := 0x400) h none_ ⟨⟨a / 0x400 - 82, by omega⟩, by dsimp only; omega⟩
  unfold afterField
  extract_lets o b
  rw [if_neg (ne_of_persistent h (b := FLD_MGN_CLR) (by decide))]
  by_cases pulse : PLS_PU_CTRL ≤ a ∧ a ≤ PLS_PU_CNT ∧ (place? 24 (fld (s.regSel PLS_PU_SEL path.code) 4 0)).isNone = true
  · rw [if_pos pulse, setRegSel_store]
  rw [if_neg pulse, if_neg (ne_of_persistent h (b := PLS_PU_CTRL) (by decide)), if_neg (ne_of_persistent h (b := PWR_CMD) (by decide)),
    if_neg (ne_of_persistent h (b := PWR_EF_RESET) (by decide)), if_neg (ne_of_persistent h (b := FI_CTRL) (by decide)), if_neg clu]
  by_cases range : 82 ≤ b ∧ b ≤ 85
  · rw [if_pos range]
    split
    · rfl
    · rw [if_neg (can 0x08 (by decide) (by decide) range), if_neg (can 0x5C (by decide) (by decide) range),
        if_neg (can 0x5E (by decide) (by decide) range)]
      split
      · exact canCtrlWritten_store _ _ _
      · rfl
  · rw [if_neg range]

theorem regAfter_store (h : persistent a = true) : (regAfter s path a k old new v).store = s.store := by
  unfold regAfter
  split
  · exact afterHubLow_store h
  · split
    · exact afterHubHigh_store h
    · exact afterField_store h

end Sys2Proof.Machine
end

section
set_option Elab.async false
/-! SUPPORT. Records of the journal as they begin and commit (R384, R385), its compaction (R387) and the scan at a start (R386). -/

namespace Sys2Proof.Machine

variable {s u : State} {p : Port} {path : Path} {t a k : Nat} {v : Word}

/-! A persistent write (R383, R384). -/

theorem regTake_store {r : RegRow} (h : persistent a = true) : (regTake s path r a k v).store = s.store := by
  unfold regTake
  extract_lets old new s1
  refine (regAfter_store h).trans ?_
  unfold s1
  split <;> rfl

/-- The conditions under which a persistent write is taken (R383, R440, R450, R464). -/
structure TakesPersistent (s : State) (path : Path) (a k : Nat) (v : Word) (r : RegRow) : Prop where
  row : regRow? a = some r
  persists : r.persistent = true
  sel : selOf s path a r.sel = some k
  linked : powerReg a = true → s.power.link = true
  calm : s.power.cfStep = 0
  allowed : thresholdRefused s a v = false

theorem TakesPersistent.persistent {r : RegRow} (h : TakesPersistent s path a k v r) : persistent a = true := by
  unfold Machine.persistent
  rw [h.row]
  exact h.persists

theorem regPut_persistent {r : RegRow} (h : TakesPersistent s path a k v r) : regPut s path a v =
    if jrnBusy s then jrnField s a k (writtenValue r (s.regSel a k) v)
    else jrnField (regTake s path r a k v) a k ((regTake s path r a k v).regSel a k) := by
  have linked : ¬ ((powerReg a && !s.power.link) = true) := fun waits => by
    rw [Bool.and_eq_true] at waits
    rw [h.linked waits.1] at waits
    exact absurd waits.2 (by decide)
  have kept : ¬ ((!r.persistent) = true) := by rw [h.persists]; decide
  unfold regPut
  rw [if_neg linked]
  unfold regAccept
  rw [h.row]
  dsimp only
  rw [h.sel]
  dsimp only
  rw [if_neg kept, if_neg (not_not_intro h.calm), h.allowed, if_neg Bool.false_ne_true]

/-- The journal with a record more, which begins at once or waits for the one under way (R384). -/
def withRecord (j : Journal) (b : JrnBody) : Journal :=
  match j.writing with
  | none => { j with writing := some (b, false) }
  | some _ => { j with held := j.held ++ [b] }

theorem jrnPush_jrn (s : State) (b : JrnBody) : (jrnPush s b).store.jrn = withRecord s.store.jrn b := rfl

theorem withRecord_free {j : Journal} (b : JrnBody) (free : j.writing = none) : withRecord j b = { j with writing := some (b, false) } := by
  simp only [withRecord, free]

theorem withRecord_busy {j : Journal} (b : JrnBody) {x : JrnBody × Bool} (busy : j.writing = some x) :
    withRecord j b = { j with held := j.held ++ [b] } := by
  simp only [withRecord, busy]

theorem journalRecord_row {addr : BitVec 17} {r : RegRow} (h : TakesPersistent s path (canonReg addr.toNat) k v r) :
    exec (.journalRecord path addr v t) s = done (regPut (s.at t) path (canonReg addr.toNat) v) := congrArg done (if_pos h.persistent)

theorem TakesPersistent.at {r : RegRow} (h : TakesPersistent s path a k v r) (t : Nat) : TakesPersistent (s.at t) path a k v r :=
  ⟨h.row, h.persists, h.sel, h.linked, h.calm, h.allowed⟩

theorem completes_record_free {addr : BitVec 17} {r : RegRow} (h : TakesPersistent s path (canonReg addr.toNat) k v r)
    (free : jrnBusy s = false) : Completes (.journalRecord path addr v t) s fun u =>
      ∃ x base, u.store.jrn.writing = some (.field (canonReg addr.toNat) k x base, false) := by
  have none_ : s.store.jrn.writing = none := by
    unfold jrnBusy at free
    rw [Bool.or_eq_false_iff] at free
    exact Option.isSome_eq_false_iff.1 free.1 |> Option.isNone_iff_eq_none.1
  have taken := regPut_persistent (h.at t)
  rw [show jrnBusy (s.at t) = false from free, if_neg Bool.false_ne_true] at taken
  have store : (regTake (s.at t) path r (canonReg addr.toNat) k v).store = s.store := regTake_store h.persistent
  generalize regTake (s.at t) path r (canonReg addr.toNat) k v = y at taken store
  refine completes_done ((journalRecord_row h).trans (congrArg done taken)) ⟨y.regSel (canonReg addr.toNat) k, baseOf y (canonReg addr.toNat) k, ?_⟩
  rw [settle_store]
  exact congrArg Journal.writing (withRecord_free _ (by rw [store]; exact none_))

theorem completes_record_held {addr : BitVec 17} {r : RegRow} (h : TakesPersistent s path (canonReg addr.toNat) k v r)
    (busy : jrnBusy s = true) : Completes (.journalRecord path addr v t) s fun u => SameRegs s u [] ∧
      u.store.jrn.held = s.store.jrn.held ++ (if s.store.jrn.writing.isSome then
        [.field (canonReg addr.toNat) k (writtenValue r (s.regSel (canonReg addr.toNat) k) v) (baseOf s (canonReg addr.toNat) k)] else []) ∧
      (s.store.jrn.writing = none → u.store.jrn.writing = some
        (.field (canonReg addr.toNat) k (writtenValue r (s.regSel (canonReg addr.toNat) k) v) (baseOf s (canonReg addr.toNat) k), false)) := by
  have taken := regPut_persistent (h.at t)
  rw [show jrnBusy (s.at t) = true from busy, if_pos rfl] at taken
  refine completes_done ((journalRecord_row h).trans (congrArg done taken)) ⟨sameRegs_settle rfl, ?_⟩
  rw [settle_store]
  cases now : s.store.jrn.writing with
  | none =>
    have begun := withRecord_free (.field (canonReg addr.toNat) k (writtenValue r (s.regSel (canonReg addr.toNat) k) v)
      (baseOf s (canonReg addr.toNat) k)) now
    exact ⟨(congrArg Journal.held begun).trans (List.append_nil _).symm, fun _ => congrArg Journal.writing begun⟩
  | some x =>
    exact ⟨congrArg Journal.held (withRecord_busy _ now), fun free => by cases free⟩

/-! A record commits (R385). -/

/-- A record stands in the record area and in both head cells, and is the newest live one. -/
def Recorded (s u : State) (b : JrnBody) : Prop :=
  u.store.jrn.live = (s.store.jrn.live.filter fun x => !jrnSame x.1 b) ++ [(b, s.store.jrn.pos)] ∧ u.store.jrn.seq = s.store.jrn.seq + 1 ∧
  (∀ i < (jrnWords b s.store.jrn.seq).length, u.word (jrnWordAt (s.store.jrn.pos + i)) = wAt (jrnWords b s.store.jrn.seq) i) ∧
  ∀ bank, u.words (jrnHeadAt bank s.store.jrn.seq.toNat) 2 = [wd s.store.jrn.seq.toNat, wd s.store.jrn.pos]

theorem Recorded.congr {x y : State} {b : JrnBody} (h : Recorded s x b) (mem : y.mem = x.mem) (live : y.store.jrn.live = x.store.jrn.live)
    (seq : y.store.jrn.seq = x.store.jrn.seq) : Recorded s y b := by
  obtain ⟨isLive, isSeq, words, heads⟩ := h
  exact ⟨live.trans isLive, seq.trans isSeq, fun i small => (word_congr mem _).trans (words i small),
    fun bank => (words_congr mem _ _).trans (heads bank)⟩

theorem length_jrnWords (b : JrnBody) (q : DWord) : (jrnWords b q).length ≤ 9 := by
  cases b <;> simp [jrnWords, toWords]

/-- Words written to the record area from an index on, as a run that wraps around. -/
def areaWords (s : State) (pos : Nat) (ws : List Word) (n : Nat) : State :=
  (List.range n).foldl (fun s i => s.setWord (jrnWordAt (pos + i)) (wAt ws i)) s

theorem areaWords_succ (s : State) (pos : Nat) (ws : List Word) (n : Nat) :
    areaWords s pos ws (n + 1) = (areaWords s pos ws n).setWord (jrnWordAt (pos + n)) (wAt ws n) := by
  unfold areaWords
  rw [List.range_succ, List.foldl_append]
  rfl

theorem areaWords_word (s : State) (pos : Nat) (ws : List Word) : ∀ {n : Nat}, n ≤ 9 → ∀ i < n,
    (areaWords s pos ws n).word (jrnWordAt (pos + i)) = wAt ws i
  | 0, _, i, small => absurd small (Nat.not_lt_zero i)
  | n + 1, few, i, small => by
    rw [areaWords_succ]
    by_cases last : i = n
    · rw [last, word_setWord_self]
    · rw [word_setWord_apart _ _ _ _ (by unfold jrnWordAt; omega)]
      exact areaWords_word s pos ws (by omega) i (by omega)

theorem areaWords_eq (s : State) (pos : Nat) (ws : List Word) : ∀ n : Nat, areaWords s pos ws n = { s with mem := (areaWords s pos ws n).mem }
  | 0 => rfl
  | n + 1 => by rw [areaWords_succ, areaWords_eq s pos ws n]; rfl

/-- The two head cells of a record (R385). -/
def headWords (s : State) (q : Nat) (cell : List Word) : State :=
  (s.setWords (jrnHeadAt false q) cell).setWords (jrnHeadAt true q) cell

theorem headWords_eq (s : State) (q : Nat) (cell : List Word) : headWords s q cell = { s with mem := (headWords s q cell).mem } := by
  unfold headWords
  rw [setWords_eq cell (s.setWords _ cell), setWords_eq cell s]

theorem jrnHeadAt_false (q : Nat) : jrnHeadAt false q = storeBase + 0x60000 + q % 256 * 6 := by simp [jrnHeadAt, b2n]
theorem jrnHeadAt_true (q : Nat) : jrnHeadAt true q = storeBase + 0x60000 + (256 + q % 256) * 6 := by simp [jrnHeadAt, b2n]

theorem headWords_area (s : State) (q i : Nat) {cell : List Word} (three : cell.length = 3) :
    (headWords s q cell).word (jrnWordAt i) = s.word (jrnWordAt i) := by
  unfold headWords
  rw [word_setWords_apart _ _ _ _ (.inr (by rw [three, jrnHeadAt_true, jrnWordAt]; omega)),
    word_setWords_apart _ _ _ _ (.inr (by rw [three, jrnHeadAt_false, jrnWordAt]; omega))]

theorem headWords_cell (s : State) (q : Nat) {cell : List Word} (three : cell.length = 3) (bank : Bool) {i : Nat} (small : i < 3) :
    (headWords s q cell).word (jrnHeadAt bank q + 2 * i) = wAt cell i := by
  unfold headWords
  cases bank with
  | true => exact word_setWords _ _ _ _ (by omega)
  | false =>
    rw [word_setWords_apart _ _ _ _ (.inl (by rw [jrnHeadAt_true, jrnHeadAt_false]; omega))]
    exact word_setWords _ _ _ _ (by omega)

/-- The words of a record and of its head cells as they are written. -/
def committed (s : State) (b : JrnBody) : State :=
  headWords (areaWords s s.store.jrn.pos (jrnWords b s.store.jrn.seq) (jrnWords b s.store.jrn.seq).length) s.store.jrn.seq.toNat
    ([wd s.store.jrn.seq.toNat, wd s.store.jrn.pos] ++ [wd (crcWords 16 0x1021 0xFFFF [wd s.store.jrn.seq.toNat, wd s.store.jrn.pos])])

/-- The journal after a record of it has committed. -/
def afterCommit (j : Journal) (b : JrnBody) : Journal :=
  { j with live := (j.live.filter fun x => !jrnSame x.1 b) ++ [(b, j.pos)]
           forced := match b with | .slot _ _ true sheet => some sheet | _ => j.forced
           writing := none, seq := j.seq + 1, pos := (j.pos + (jrnWords b j.seq).length) % 47616 }

theorem committed_store (s : State) (b : JrnBody) : (committed s b).store = s.store ∧ (committed s b).regs = s.regs := by
  unfold committed
  rw [headWords_eq, areaWords_eq]
  exact ⟨rfl, rfl⟩

theorem updJrn_congr {z : State} {f g : Journal → Journal} (h : f z.store.jrn = g z.store.jrn) : z.updJrn f = z.updJrn g := by
  show ({ z with store := { z.store with jrn := f z.store.jrn } } : State) = { z with store := { z.store with jrn := g z.store.jrn } }
  rw [h]

theorem jrnCommit_eq {b : JrnBody} {copy : Bool} (writes : s.store.jrn.writing = some (b, copy)) :
    jrnCommit s = wearOnce (((committed s b).updJrn fun _ => afterCommit s.store.jrn b).bump RST_JRN_CNT) := by
  unfold jrnCommit
  extract_lets j
  rw [writes]
  refine congrArg (fun z : State => wearOnce (z.bump RST_JRN_CNT)) (updJrn_congr (z := committed s b) ?_)
  rw [(committed_store s b).1]
  rfl

theorem wearOnce_keeps (s : State) : (wearOnce s).store.jrn = s.store.jrn ∧ (wearOnce s).mem = s.mem ∧
    ∀ a, a ≠ RST_EVT → (wearOnce s).reg a = s.reg a := by
  unfold wearOnce
  extract_lets s1
  split
  · refine ⟨(congrArg StoreState.jrn (raise_store _ _ _)).trans rfl, (raise_mem _ _ _).trans rfl, fun a other => ?_⟩
    rw [reg_congr (raise_regs _ _ _), reg_evt_ne _ _ other]
    rfl
  · exact ⟨rfl, rfl, fun a _ => rfl⟩

theorem committed_area (s : State) (b : JrnBody) (i : Nat) (small : i < (jrnWords b s.store.jrn.seq).length) :
    (committed s b).word (jrnWordAt (s.store.jrn.pos + i)) = wAt (jrnWords b s.store.jrn.seq) i := by
  rw [committed, headWords_area _ _ _ rfl]
  exact areaWords_word s _ _ (length_jrnWords b _) i small

theorem committed_heads (s : State) (b : JrnBody) (bank : Bool) :
    (committed s b).words (jrnHeadAt bank s.store.jrn.seq.toNat) 2 = [wd s.store.jrn.seq.toNat, wd s.store.jrn.pos] := by
  refine words_of_word (l := [wd s.store.jrn.seq.toNat, wd s.store.jrn.pos]) fun i small => ?_
  have few : i < 2 := small
  rw [committed, headWords_cell _ _ rfl bank (by omega)]
  match i, few with
  | 0, _ => rfl
  | 1, _ => rfl

theorem jrnCommit_keeps {b : JrnBody} {copy : Bool} (writes : s.store.jrn.writing = some (b, copy)) :
    Recorded s (jrnCommit s) b ∧ (jrnCommit s).store.jrn = afterCommit s.store.jrn b ∧
    (jrnCommit s).reg RST_JRN_CNT = bumpW (s.reg RST_JRN_CNT) 1 := by
  obtain ⟨-, regs⟩ := committed_store s b
  have area := committed_area s b
  have heads := committed_heads s b
  rw [jrnCommit_eq writes]
  generalize committed s b = z at regs area heads ⊢
  obtain ⟨jrn, mem, kept⟩ := wearOnce_keeps ((z.updJrn fun _ => afterCommit s.store.jrn b).bump RST_JRN_CNT)
  have counted : ((z.updJrn fun _ => afterCommit s.store.jrn b).bump RST_JRN_CNT).reg RST_JRN_CNT = bumpW (z.reg RST_JRN_CNT) 1 :=
    reg_bump_self _ _
  generalize wearOnce ((z.updJrn fun _ => afterCommit s.store.jrn b).bump RST_JRN_CNT) = y at jrn mem kept ⊢
  have same : y.mem = z.mem := mem
  have isJrn : y.store.jrn = afterCommit s.store.jrn b := jrn
  refine ⟨⟨by rw [isJrn]; rfl, by rw [isJrn]; rfl, fun i small => (word_congr same _).trans (area i small),
    fun bank => (words_congr same _ _).trans (heads bank)⟩, isJrn, ?_⟩
  rw [kept _ (by decide), counted, reg_congr regs]

/-! The rows of the journal. -/

theorem journalCommit_row {b : JrnBody} {copy : Bool} (writes : s.store.jrn.writing = some (b, copy)) (on : (jrnCommit s).store.jrn.held = []) :
    journalCommit s = (jrnCommit s).updJrn fun j => { j with compacting := j.compacting && jrnNear (jrnCommit s) } := by
  unfold journalCommit
  rw [writes]
  extract_lets s1 s2
  rw [Option.isNone_some]
  have empty : s2.store.jrn.held = [] := on
  rw [if_neg Bool.false_ne_true, empty]

theorem journalCommit_next {b : JrnBody} {copy : Bool} (writes : s.store.jrn.writing = some (b, copy)) {a k : Nat} {v base : Word}
    {rest : List JrnBody} (on : (jrnCommit s).store.jrn.held = .field a k v base :: rest) : journalCommit s =
      regBegin (jrnNext ((jrnCommit s).updJrn fun j => { j with compacting := j.compacting && jrnNear (jrnCommit s) })) a k v := by
  unfold journalCommit
  rw [writes]
  extract_lets s1 s2
  rw [Option.isNone_some]
  have first : s2.store.jrn.held = .field a k v base :: rest := on
  rw [if_neg Bool.false_ne_true, first]

theorem jrnNext_eq {b : JrnBody} {rest : List JrnBody} (free : s.store.jrn.writing = none) (held : s.store.jrn.held = b :: rest) :
    jrnNext s = s.updJrn fun j => { j with writing := some (b, false), held := rest } := by
  unfold jrnNext
  rw [free, held]

theorem completes_commit_last {b : JrnBody} {copy : Bool} (writes : s.store.jrn.writing = some (b, copy)) (held : s.store.jrn.held = []) :
    Completes (.journalCommit t) s fun u => Recorded s u b ∧ u.store.jrn.writing = none ∧ u.reg RST_JRN_CNT = bumpW (s.reg RST_JRN_CNT) 1 := by
  obtain ⟨recorded, jrn, counted⟩ := jrnCommit_keeps (s := s.at t) writes
  have on : (jrnCommit (s.at t)).store.jrn.held = [] := by rw [jrn]; exact held
  have row : exec (.journalCommit t) s = done _ := congrArg done (journalCommit_row (s := s.at t) writes on)
  generalize jrnCommit (s.at t) = y at recorded jrn counted row
  have told : Recorded s y b := recorded
  refine completes_done row ⟨told.congr ?_ ?_ ?_, ?_, ?_⟩
  · exact settle_mem _
  · rw [settle_store]; rfl
  · rw [settle_store]; rfl
  · rw [settle_store]
    exact congrArg Journal.writing jrn
  · rw [reg_settle_of_not_closing _ _ (by decide)]
    exact counted

theorem completes_commit_next {b : JrnBody} {copy : Bool} (writes : s.store.jrn.writing = some (b, copy)) {v base : Word} {rest : List JrnBody}
    (held : s.store.jrn.held = .field BRG_DUP_WIN 0 v base :: rest) : Completes (.journalCommit t) s fun u =>
      Recorded s u b ∧ u.store.jrn.writing = some (.field BRG_DUP_WIN 0 v base, false) ∧ u.store.jrn.held = rest ∧ u.reg BRG_DUP_WIN = v := by
  obtain ⟨recorded, jrn, counted⟩ := jrnCommit_keeps (s := s.at t) writes
  have on : (jrnCommit (s.at t)).store.jrn.held = .field BRG_DUP_WIN 0 v base :: rest := by rw [jrn]; exact held
  have row : exec (.journalCommit t) s = done _ := congrArg done (journalCommit_next (s := s.at t) writes on)
  generalize jrnCommit (s.at t) = y at recorded jrn counted row on
  have free : y.store.jrn.writing = none := by rw [jrn]; rfl
  rw [jrnNext_eq (s := y.updJrn fun j => { j with compacting := j.compacting && jrnNear y }) free on] at row
  have told : Recorded s y b := recorded
  have begun (x : State) : regBegin x BRG_DUP_WIN 0 v = x.setRegSel BRG_DUP_WIN 0 v := rfl
  rw [begun] at row
  refine completes_done row ⟨told.congr ?_ ?_ ?_, ?_, ?_, ?_⟩
  · exact settle_mem _
  · rw [settle_store]; rfl
  · rw [settle_store]; rfl
  · rw [settle_store]; rfl
  · rw [settle_store]; rfl
  · rw [reg_settle_of_not_closing _ _ (by decide)]
    exact reg_setReg_self _ BRG_DUP_WIN v

theorem completes_compactionCopy {b : JrnBody} {at_ : Nat} {rest : List (JrnBody × Nat)} (live : s.store.jrn.live = (b, at_) :: rest)
    (free : jrnBusy s = false) (near : jrnNear s = true) : Completes (.compactionCopy t) s fun u =>
      u.store.jrn.writing = some (b, true) ∧ u.store.jrn.compacting = true ∧ SameMemory s u := by
  have row : exec (.compactionCopy t) s = done ((s.at t).updJrn fun j => { j with writing := some (b, true), compacting := true }) := by
    refine congrArg done ?_
    unfold compact
    rw [show (s.at t).store.jrn.live = (b, at_) :: rest from live, show jrnBusy (s.at t) = false from free,
      show jrnNear (s.at t) = true from near]
    rfl
  refine completes_done row ⟨?_, ?_, sameMemory_settle rfl⟩
  · rw [settle_store]; rfl
  · rw [settle_store]; rfl

/-! The scan at a start (R386) reads the store alone. -/

theorem readRecord_congr (mem : u.mem = s.mem) (i : Nat) : readRecord u i = readRecord s i := by
  have same (i : Nat) : jrnWord u i = jrnWord s i := word_congr mem _
  unfold readRecord
  simp only [same]

theorem allRecords_congr (mem : u.mem = s.mem) : allRecords u = allRecords s := by
  unfold allRecords
  simp only [readRecord_congr mem, mem]

theorem headCell_congr (mem : u.mem = s.mem) (bank : Bool) (i : Nat) : headCell u bank i = headCell s bank i := by
  unfold headCell
  simp only [readRecord_congr mem, words_congr mem]

theorem walk_congr (mem : u.mem = s.mem) : ∀ (n : Nat) (x : Found), walk u n x = walk s n x
  | 0, _ => rfl
  | n + 1, x => by
    unfold walk
    simp only [readRecord_congr mem, walk_congr mem n]

theorem newestRecord_congr (mem : u.mem = s.mem) (noHeads : Bool) : newestRecord u noHeads = newestRecord s noHeads := by
  have cells (b : Bool) : headCell u b = headCell s b := funext (headCell_congr mem b)
  unfold newestRecord
  simp only [cells, walk_congr mem, allRecords_congr mem]

/-- The journal that the scan finds. -/
def foundJournal (s : State) (headBad : Bool) : Journal :=
  match newestRecord s headBad with
  | none => Journal.init
  | some x => scanned (allRecords s) x

theorem foundJournal_congr (mem : u.mem = s.mem) (headBad : Bool) : foundJournal u headBad = foundJournal s headBad := by
  unfold foundJournal
  rw [newestRecord_congr mem, allRecords_congr mem]

/-- What the scan puts into the store. -/
def scanInto (s : State) (j : Journal) (x : StoreState) : StoreState :=
  { x with scanned := true, jrn := j, keys := Vector.ofFn fun k : Fin 4 => (s.word (storeBase + 0x78900 + 2 * k.val)).toNat
           slots := Vector.ofFn fun i => { vget x.slots i with state := slotFound j (decide (i = 1)) } }

theorem journalScan_row {headBad : Bool} (new : s.store.scanned = false) (run : s.start.hostReset = false)
    (calm : hubArmed s Src.journalHead = none) : ∃ y : State, y.mem = s.mem ∧ y.store = s.store ∧
      journalScan s headBad = y.updStore (scanInto s (foundJournal y headBad)) := by
  unfold journalScan
  rw [new, run, if_neg (by decide), hubCheck_none calm]
  dsimp only
  cases headBad with
  | true => exact ⟨s.raise Src.journalHead 0, raise_mem _ _ _, raise_store _ _ _, rfl⟩
  | false => exact ⟨s, rfl, rfl, rfl⟩

theorem completes_journalScan {headBad : Bool} (new : s.store.scanned = false) (run : s.start.hostReset = false)
    (calm : hubArmed s Src.journalHead = none) : Completes (.journalScanDone headBad t) s fun u => u.store.scanned = true ∧
      u.store.jrn = foundJournal s headBad ∧ (∀ b, (u.slot b).state = slotFound u.store.jrn b) ∧
      ∀ k : Fin 4, vget u.store.keys k = (s.word (storeBase + 0x78900 + 2 * k.val)).toNat := by
  obtain ⟨y, mem, store, is⟩ := journalScan_row (s := s.at t) (headBad := headBad) new run calm
  have row : exec (.journalScanDone headBad t) s = done (y.updStore (scanInto (s.at t) (foundJournal y headBad))) := congrArg done is
  have same : y.mem = s.mem := mem
  refine completes_done row ⟨?_, ?_, fun b => ?_, fun k => ?_⟩
  · rw [settle_store]; rfl
  · rw [settle_store, ← foundJournal_congr same]; rfl
  · rw [settle_slot, settle_store]
    cases b <;> simp [State.slot, scanInto, vget, bIx]
  · rw [settle_store]
    simp only [updStore_store, scanInto, vget]
    simp

end Sys2Proof.Machine
end

section
set_option Elab.async false
/-! SUPPORT. What a port that goes down, a cluster that goes offline and a section that the field die takes leave of the cores and of the
fabric (R167, R271, R390). -/

namespace Sys2Proof.Machine

variable {s u : State}

/-! A switch port that goes down (R166, R167). -/

theorem HubOnly.ite {x y : State} {c : Prop} [Decidable c] (h : HubOnly s x) (g : HubOnly s y) : HubOnly s (if c then x else y) := by
  split
  · exact h
  · exact g

theorem hubOnly_foldl {α : Type} {f : State → α → State} (h : ∀ s x, HubOnly s (f s x)) (l : List α) (s : State) : HubOnly s (l.foldl f s) :=
  hubOnly_each h l s

theorem hubOnly_repinFlow (s : State) (f : Flow) : HubOnly s (repinFlow s f) := by
  unfold repinFlow
  extract_lets s1 hit
  have moved : HubOnly s s1 := (hubOnly_updSw s _).trans (hubOnly_bump _ _)
  refine HubOnly.ite ?_ moved
  refine moved.trans (HubOnly.trans ?_ (hubOnly_raise _ _ _))
  unfold posLoss
  split
  · exact .refl _
  · rfl

theorem hubOnly_moveQueue (s : State) (r : Ring) (keep : QEntry → Bool) (c : Nat) : HubOnly s (moveQueue s r keep c) := rfl

theorem hubOnly_repinRing (s : State) (r : Ring) : HubOnly s (repinRing s r) := by
  unfold repinRing
  extract_lets lost fs off moves s1 s2
  have moved : HubOnly s s1 := hubOnly_each (fun x c => hubOnly_moveQueue x _ _ c) _ s
  have pinned : HubOnly s s2 := moved.trans (hubOnly_each hubOnly_repinFlow _ s1)
  exact HubOnly.ite pinned (pinned.trans (hubOnly_evt _ _ _))

theorem hubOnly_flushRepin (s : State) (p : Fin 20) : HubOnly s (flushRepin s p) := by
  unfold flushRepin
  split
  · exact (hubOnly_evt s _ _).trans (hubOnly_repinRing _ .a)
  · exact (hubOnly_evt s _ _).trans (hubOnly_repinRing _ .b)
  · exact hubOnly_evt s _ _

theorem hubOnly_flushQueues (s : State) (p : Fin 20) : HubOnly s (flushQueues s p) := by
  have repinned := hubOnly_flushRepin s p
  unfold flushQueues
  generalize flushRepin s p = s1 at repinned
  refine repinned.trans (hubOnly_each (fun x c => ?_) _ _)
  refine (hubOnly_updSw x _).trans (hubOnly_foldl (fun y e => ?_) (s1.queue p c) _)
  refine HubOnly.ite ?_ (hubOnly_retire _ _ _ _)
  split
  · exact .refl _
  · exact hubOnly_postedGone _ _ _

theorem hubOnly_portFlush (s : State) (p : Fin 20) : HubOnly s (portFlush s p) := by
  rw [portFlush_eq]
  refine HubOnly.trans ?_ (hubOnly_updSw _ _)
  exact (hubOnly_flushQueues s p).trans (hubOnly_each (fun x o => hubOnly_openEnd _ _ _ _) _ _)

theorem hubOnly_updCl (s : State) (n : Fin 12) (f : Cluster → Cluster) : HubOnly s (s.updCl n f) := rfl

theorem hubOnly_offline (s : State) (n : Fin 12) : HubOnly s (offline s n) := by
  unfold offline
  extract_lets stop s1
  refine HubOnly.ite (hubOnly_updCl s n _) ?_
  exact ((hubOnly_updCl s n _).trans (hubOnly_portFlush s1 _)).trans ((hubOnly_evt _ _ _).trans (hubOnly_raise _ _ _))

/-! A section that the field die takes leaves the cores, the fabric and the cue as they are (R390). -/

/-- The cores, the fabric and the start-up of the node are as before. -/
structure SameNode (s u : State) : Prop where
  lead : u.lead = s.lead
  fab : u.fab = s.fab
  start : u.start = s.start

theorem SameNode.refl (s : State) : SameNode s s := ⟨rfl, rfl, rfl⟩
theorem SameNode.trans {s t u : State} (h : SameNode s t) (g : SameNode t u) : SameNode s u :=
  ⟨g.lead.trans h.lead, g.fab.trans h.fab, g.start.trans h.start⟩
theorem HubOnly.node (h : HubOnly s u) : SameNode s u := ⟨by rw [h], by rw [h], by rw [h]⟩
theorem sameNode_raise (s : State) (a d : Nat) : SameNode s (s.raise a d) := (hubOnly_raise s a d).node
theorem SameNode.ite {x y : State} {c : Prop} [Decidable c] (h : SameNode s x) (g : SameNode s y) : SameNode s (if c then x else y) := by
  split
  · exact h
  · exact g

theorem sameNode_each {α : Type} {f : State → α → State} (h : ∀ s x, SameNode s (f s x)) : ∀ (l : List α) (s : State), SameNode s (s.each l f)
  | [], s => .refl s
  | x :: l, s => (h s x).trans (sameNode_each h l (f s x))

theorem sameNode_updPin (s : State) (k : Fin 144) (f : Pin → Pin) : SameNode s (s.updPin k f) := ⟨rfl, rfl, rfl⟩

theorem sameNode_storeWords : ∀ (l : List Word) (s : State) (a : Nat), SameNode s (s.storeWords a l)
  | [], s, _ => .refl s
  | v :: l, s, a => SameNode.trans (t := s.storeWord a v) ⟨rfl, rfl, rfl⟩ (sameNode_storeWords l _ _)

theorem sameNode_sectionLoad (s : State) (n : Fin 12) (g : ClusterCfg) : SameNode s (sectionLoad s n g) := by
  unfold sectionLoad
  extract_lets s1 s2 fresh s3 s4 starved s5
  have stored : SameNode s s2 := SameNode.trans (t := s1) ⟨rfl, rfl, rfl⟩ (sameNode_storeWords _ s1 _)
  have pinned : SameNode s s4 := (stored.trans (t := s2) (u := s3) ⟨rfl, rfl, rfl⟩).trans (sameNode_each (fun x j => sameNode_updPin x (pinOf n j) _) _ s3)
  clear_value s4
  have timed : SameNode s s5 := pinned.trans ⟨rfl, rfl, rfl⟩
  clear_value s5
  exact SameNode.ite (timed.trans ((hubOnly_evt s5 _ _).trans (hubOnly_raise _ _ _)).node) timed

theorem sameNode_clusterStart (s : State) (n : Fin 12) (g : ClusterCfg) : SameNode s (clusterStart s n g) := by
  unfold clusterStart sectionApply
  exact SameNode.ite ((sameNode_sectionLoad s n g).trans ⟨rfl, rfl, rfl⟩) ((sameNode_sectionLoad s n g).trans ⟨rfl, rfl, rfl⟩)

theorem sameNode_applyCluster (s : State) (n : Fin 12) (new : Option ClusterCfg) : SameNode s (applyCluster s n new) := by
  unfold applyCluster
  split
  · exact .refl s
  · exact (hubOnly_offline s n).node.trans ⟨rfl, rfl, rfl⟩
  · exact sameNode_clusterStart s n _
  · exact SameNode.ite (.refl s) ((hubOnly_offline s n).node.trans (sameNode_clusterStart _ n _))

theorem sameNode_restoreReg (items : List RegItem) (s : State) (k : Nat × Nat) : SameNode s (restoreReg items s k) := by
  unfold restoreReg
  extract_lets base old other
  split
  · exact SameNode.ite ⟨rfl, rfl, rfl⟩ ⟨rfl, rfl, rfl⟩
  · exact ⟨rfl, rfl, rfl⟩

theorem sameNode_canAttemptEnds (s : State) (c : Fin 4) : SameNode s (canAttemptEnds s c) := by
  unfold canAttemptEnds
  extract_lets x s1
  exact SameNode.ite (.refl s) (SameNode.ite ⟨rfl, rfl, rfl⟩ ⟨rfl, rfl, rfl⟩)

theorem sameNode_canFollow (s : State) (c : Fin 4) : SameNode s (canFollow s c) := by
  have enabled : SameNode s (canEnable s c) := by
    unfold canEnable
    extract_lets n conf
    refine SameNode.ite (.refl s) (SameNode.ite ⟨rfl, rfl, rfl⟩ ?_)
    exact SameNode.trans (t := s.updCan c _) ⟨rfl, rfl, rfl⟩ (sameNode_raise _ _ _)
  have disabled : SameNode s (canDisable s c) := (sameNode_canAttemptEnds s c).trans ⟨rfl, rfl, rfl⟩
  exact SameNode.ite enabled (SameNode.ite disabled (.refl s))

theorem sameNode_applyFieldRegs (s : State) (items : List RegItem) : SameNode s (applyFieldRegs s items) := by
  unfold applyFieldRegs
  extract_lets keep s1 s2
  have restored : SameNode s s1 := sameNode_each (f := restoreReg items) (sameNode_restoreReg items) ((restoreKeys s items true).filter keep) s
  clear_value s1
  exact (restored.trans (u := s2) ⟨rfl, rfl, rfl⟩).trans (sameNode_each sameNode_canFollow _ s2)

theorem sameNode_chunkApply (s : State) (tag : Nat) (slot : Bool) : SameNode s (chunkApply s tag slot) := by
  unfold chunkApply
  extract_lets book
  refine SameNode.ite (sameNode_applyFieldRegs s _) ?_
  split
  · exact .refl s
  · exact sameNode_applyCluster s _ _

end Sys2Proof.Machine
end

section
set_option Elab.async false
/-! SUPPORT. The choice and application of a stagebook at a start (R378, R379, R533), the steps of a hitless update (R389, R390), and the
obligation about the journal and the update. -/

namespace Sys2Proof.Machine

variable {s u : State} {path : Path} {t : Nat} {b : Bool}

/-! The check of the live slots (R378). -/

/-- A slot's new state with its record, as the store takes them. -/
def slotSet (x : StoreState) (b : Bool) (st : SlotState) : StoreState :=
  let y := { x with slots := vupd x.slots (bIx b) fun z => { z with state := st } }
  { y with jrn := withRecord y.jrn (.slot b (vget y.slots (bIx b)).state.code (decide (x.force = some b)) (match (vget y.slots (bIx b)).content with
      | none => 0
      | some c => c.sheet.id)) }

theorem setSlot_store (s : State) (b : Bool) (st : SlotState) : (setSlot s b st).store = slotSet s.store b st := rfl

/-- A live slot that fails its check at a start, for cause k (R378). -/
def liveFailed (s : State) (b : Bool) (k : Nat) : State :=
  ((setSlot (s.updSlot b fun x => { x with cause := k }) b .bad).evt RST_EVT rstCHKFAIL).raise Src.liveSlotFail (b2n b)

theorem liveFailed_store (s : State) (b : Bool) (k : Nat) : (liveFailed s b k).store =
    slotSet { s.store with slots := vupd s.store.slots (bIx b) fun x => { x with cause := k } } b .bad :=
  ((raise_store _ _ _).trans (evt_store _ _ _)).trans (setSlot_store _ _ _)

theorem checkLive_idle (idle : (s.slot b).state ≠ .live) : checkLive s b = s := if_pos idle

theorem checkLive_passes {k : Nat} {c : Stagebook} (live : (s.slot b).state = .live)
    (verdict : slotVerdict s (slotWords s b) (s.slot b).content = (k, some c)) :
    checkLive s b = s.updSlot b fun x => { x with content := some c, cause := 0 } := by
  unfold checkLive
  extract_lets x
  rw [if_neg (not_not_intro live), verdict]

theorem checkLive_fails {k : Nat} (live : (s.slot b).state = .live)
    (verdict : slotVerdict s (slotWords s b) (s.slot b).content = (k, none)) : checkLive s b = liveFailed s b k := by
  unfold checkLive
  extract_lets x
  rw [if_neg (not_not_intro live), verdict]
  rfl

theorem checkLive_mem (s : State) (b : Bool) : (checkLive s b).mem = s.mem := by
  by_cases live : (s.slot b).state = .live
  · obtain ⟨⟨k, _ | c⟩, is⟩ : ∃ v, slotVerdict s (slotWords s b) (s.slot b).content = v := ⟨_, rfl⟩
    · rw [checkLive_fails live is]
      exact raise_mem _ _ _
    · rw [checkLive_passes live is]
      rfl
  · rw [checkLive_idle live]

/-- The check reads the store and its words alone. -/
theorem checkLive_congr (store : u.store = s.store) (mem : u.mem = s.mem) (b : Bool) : (checkLive u b).store = (checkLive s b).store := by
  have slot : u.slot b = s.slot b := slot_congr store b
  have verdict : slotVerdict u (slotWords u b) (u.slot b).content = slotVerdict s (slotWords s b) (s.slot b).content := by
    unfold slotWords
    rw [slot, words_congr mem, slotVerdict_congr store mem]
  by_cases live : (s.slot b).state = .live
  · have liveU : (u.slot b).state = .live := by rw [slot]; exact live
    obtain ⟨⟨k, _ | c⟩, is⟩ : ∃ v, slotVerdict s (slotWords s b) (s.slot b).content = v := ⟨_, rfl⟩
    · rw [checkLive_fails live is, checkLive_fails liveU (verdict.trans is)]
      rw [liveFailed_store, liveFailed_store, store]
    · rw [checkLive_passes live is, checkLive_passes liveU (verdict.trans is)]
      unfold State.updSlot
      rw [updStore_store, updStore_store, store]
  · rw [checkLive_idle live, checkLive_idle (by rw [slot]; exact live), store]

/-! The stagebook is applied (R369, R379, R533). -/

/-- Which slot is in force, and whether the base configuration is, stays. -/
structure SameForce (s u : State) : Prop where
  force : u.store.force = s.store.force
  base : u.store.base = s.store.base

theorem SameForce.of_store (h : u.store = s.store) : SameForce s u := ⟨by rw [h], by rw [h]⟩
theorem SameForce.trans {x : State} (h : SameForce s x) (g : SameForce x u) : SameForce s u := ⟨g.force.trans h.force, g.base.trans h.base⟩

theorem sameForce_each {α : Type} {f : State → α → State} (h : ∀ s x, SameForce s (f s x)) : ∀ (l : List α) (s : State), SameForce s (s.each l f)
  | [], _ => .of_store rfl
  | x :: l, s => (h s x).trans (sameForce_each h l (f s x))

theorem OnlyBar.force (h : OnlyBar s u) : SameForce s u := .of_store (by rw [h])

theorem sameForce_restoreReg (items : List RegItem) (s : State) (k : Nat × Nat) : SameForce s (restoreReg items s k) := by
  unfold restoreReg
  extract_lets base old other
  split
  · split <;> exact ⟨rfl, rfl⟩
  · exact ⟨rfl, rfl⟩

theorem sameForce_restoreRegs (s : State) (items : List RegItem) (field : Bool) : SameForce s (restoreRegs s items field) :=
  sameForce_each (f := restoreReg items) (sameForce_restoreReg items) (restoreKeys s items field) s

theorem sameForce_hubSections (s : State) (c : Stagebook) : SameForce s (hubSections s c) := by
  unfold hubSections
  extract_lets links s1 s2 start fab cmp s3
  have restored : SameForce s s1 := (sameForce_restoreRegs s c.regs false).trans (.of_store (portEnables_store links _))
  have quotas : SameForce s1 s2 := sameForce_each (fun x i => .of_store (quotaWritten_store x i)) _ s1
  clear_value s2
  exact (restored.trans quotas).trans (u := s3.updStore fun x => { x with items := hubItems c.regs ++ fieldItems x.items }) ⟨rfl, rfl⟩

theorem lineRole_start (s : State) (r : Ring) : (lineRole s r).start = s.start := by
  have begun (x : State) : (headBegin x r).start = x.start := by
    unfold headBegin
    extract_lets s1
    split
    · exact raise_start _ _ _
    · rfl
  unfold lineRole
  extract_lets l s1
  split
  · split
    · rfl
    · exact begun s1
  · split <;> rfl

theorem setClaim_start (s : State) (c : Core) (new : Claim) (cause : ClaimCause) : (setClaim s c new cause).start = s.start := by
  by_cases same : (s.core c).claim = new
  · rw [setClaim_same same]
  · rw [setClaim_changed same]
    have taken : (claimTaken s c new cause).start = s.start := by
      unfold claimTaken
      extract_lets s1
      have one := hubOnly_trace (s1.barReady .hf .claim (.claim c new.value)) (coreTrace .c0) 0x14 c.ix.val (new.value / 4)
      have two := hubOnly_trace ((s1.barReady .hf .claim (.claim c new.value)).trace (coreTrace .c0) 0x14 c.ix.val (new.value / 4))
        (coreTrace .c1) 0x14 c.ix.val (new.value / 4)
      exact two.node.start.trans one.node.start
    rw [← taken]
    unfold claimsCompared
    extract_lets eq z
    split
    · exact raise_start _ _ _
    · rfl

theorem startCores_store (s : State) : (startCores s).store = s.store ∧ (startCores s).start = s.start :=
  ⟨((sameRoles_setClaim s .c0 .c0 .start).trans (sameRoles_setClaim _ .c1 .c0 .start)).store,
    (setClaim_start _ .c1 .c0 .start).trans (setClaim_start s .c0 .c0 .start)⟩

theorem cmpNumber_store (s : State) (n : Nat) : (cmpNumber s n).2.store = s.store := by
  unfold cmpNumber
  split <;> rfl

theorem startNumber_store (s : State) : (startNumber s).store = s.store := by
  unfold startNumber
  extract_lets kept byId
  split
  · rfl
  · have same := cmpNumber_store s (if kept ≠ 0 then kept else byId)
    generalize cmpNumber s (if kept ≠ 0 then kept else byId) = v at same ⊢
    obtain ⟨n, x⟩ := v
    dsimp only at same ⊢
    split
    · exact same
    · exact same

/-- The end of a start's application (R503, R533). -/
theorem startGoesOn_keeps (s : State) : (startGoesOn s).store = { s.store with applied := true } ∧ (startGoesOn s).start.warm = false := by
  have number := startNumber_store s
  unfold startGoesOn
  extract_lets src start s1 s2 s3
  have second : s2.store = { s.store with applied := true } ∧ s2.start.warm = false :=
    ⟨congrArg (fun x : StoreState => { x with applied := true }) number, rfl⟩
  have third : s3.store = s2.store ∧ s3.start = s2.start := by
    unfold s3
    split
    · exact ⟨(lineRole_store _ .b).trans (lineRole_store s2 .a), (lineRole_start _ .b).trans (lineRole_start s2 .a)⟩
    · exact ⟨rfl, rfl⟩
  have last : (if s.lead.starting then startCores s3 else s3).store = s3.store ∧ (if s.lead.starting then startCores s3 else s3).start = s3.start := by
    split
    · exact startCores_store s3
    · exact ⟨rfl, rfl⟩
  exact ⟨last.1.trans (third.1.trans second.1), by rw [last.2, third.2]; exact second.2⟩

theorem startGoesOn_settle (s : State) : (settle (startGoesOn s)).store.applied = true ∧ (settle (startGoesOn s)).start.warm = false ∧
    (settle (startGoesOn s)).store.force = s.store.force ∧ (settle (startGoesOn s)).store.base = s.store.base := by
  obtain ⟨store, warm⟩ := startGoesOn_keeps s
  rw [settle_store, settle_start, store]
  exact ⟨rfl, warm, rfl, rfl⟩

/-- The slot selected holds what its check spells (R378). -/
theorem selectSlot_content {b : Bool} (h : selectSlot s = some b) : ∃ c, (s.slot b).content = some c := by
  have book (b : Bool) {c : Stagebook} (is : (if (s.slot b).state = .live then (s.slot b).content else none) = some c) :
      (s.slot b).content = some c := by
    split at is
    · exact is
    · cases is
  unfold selectSlot at h
  extract_lets books fits at h
  split at h
  · next x y first second =>
    cases b
    · exact ⟨x, book false first⟩
    · exact ⟨y, book true second⟩
  · next x first _ =>
    split at h
    · cases h; exact ⟨x, book false first⟩
    · cases h
  · next y _ second =>
    split at h
    · cases h; exact ⟨y, book true second⟩
    · cases h
  · cases h

theorem selectSlot_congr (store : u.store = s.store) : selectSlot u = selectSlot s := by
  unfold selectSlot State.slot
  rw [store]

/-- What the base configuration sets before the start goes on (R379). -/
theorem applyBase_row (s : State) : ∃ y : State, applyBase s = startGoesOn y ∧ y.store.force = none ∧ y.store.base = true := by
  unfold applyBase
  extract_lets s1 s2 tags s3
  have sent : SameForce s2 s3 := sameForce_each (fun x tag => .of_store (barReady_store _ _ _ _)) tags s2
  refine ⟨_, rfl, ?_, ?_⟩
  · rw [raise_store, sent.force]; rfl
  · rw [raise_store, sent.base]; rfl

theorem applyBook_row (s : State) (b : Bool) (c : Stagebook) : ∃ y : State, applyBook s b c = startGoesOn y ∧ y.store.force = some b := by
  unfold applyBook
  extract_lets s1 s2
  have sections : SameForce (slotInForce s b) s1 := sameForce_hubSections _ c
  have sent : SameForce s2 (sendChunks s2 c b false) := (onlyBar_sendChunks s2 c b false).force
  refine ⟨_, rfl, ?_⟩
  rw [evt_store, sent.force]
  exact sections.force

theorem completes_stagebookApply (scanned : s.store.scanned = true) (new : s.store.applied = false) (run : s.start.hostReset = false) :
    Completes (.stagebookApply t) s fun u => u.store.applied = true ∧ u.start.warm = false ∧
      u.store.force = selectSlot (checkLive (checkLive s false) true) ∧
      (selectSlot (checkLive (checkLive s false) true) = none → u.store.base = true) := by
  have row : exec (.stagebookApply t) s = done (loadSelected (s.at t)) := by
    refine congrArg done (if_pos ?_)
    rw [show (s.at t).store.scanned = true from scanned, show (s.at t).store.applied = false from new,
      show (s.at t).start.hostReset = false from run]
    rfl
  have chosen : selectSlot (checkLive (checkLive (s.at t) false) true) = selectSlot (checkLive (checkLive s false) true) :=
    selectSlot_congr (checkLive_congr (checkLive_congr (s := s) (u := s.at t) rfl rfl false)
      ((checkLive_mem (s.at t) false).trans (checkLive_mem s false).symm) true)
  unfold loadSelected at row
  rw [← chosen]
  generalize checkLive (checkLive (s.at t) false) true = x at row
  dsimp only at row
  cases is : selectSlot x with
  | none =>
    rw [is] at row
    obtain ⟨y, on, force, base⟩ := applyBase_row x
    obtain ⟨applied, warm, forceY, baseY⟩ := startGoesOn_settle y
    exact completes_done (row.trans (congrArg done on)) ⟨applied, warm, forceY.trans force, fun _ => baseY.trans base⟩
  | some b =>
    obtain ⟨c, content⟩ := selectSlot_content is
    rw [is] at row
    dsimp only at row
    rw [content] at row
    obtain ⟨y, on, force⟩ := applyBook_row x b c
    obtain ⟨applied, warm, forceY, -⟩ := startGoesOn_settle y
    exact completes_done (row.trans (congrArg done on)) ⟨applied, warm, forceY.trans force, fun none_ => by cases none_⟩

end Sys2Proof.Machine
end

section
set_option Elab.async false
/-! SUPPORT. The steps of a hitless update (R389, R390), and the obligation about the journal and the update. -/

namespace Sys2Proof.Machine

variable {s u : State} {path : Path} {t : Nat} {b : Bool} {c l o : Core}

theorem understudy_claim (h : understudy s = some o) : (s.core o).claim = .c8 := by
  unfold understudy at h
  split at h
  · cases h
  · split at h
    · next l _ claim => cases h; exact claim
    · cases h

/-! UPDATE (R389). -/

/-- The conditions of R389 hold, but for the check of the slot. -/
structure MayUpdate (s : State) (b : Bool) (c f : Stagebook) (o : Core) : Prop where
  free : cmdBusy s = false
  noFetch : fetchRuns s = false
  noScene : s.cue.scene.target = none
  spare : s.store.force ≠ some b
  valid : (s.slot b).state = .valid
  content : (s.slot b).content = some c
  inForce : inForce s = some f
  cast : c.cast.ring = f.cast.ring ∧ c.cast.node = f.cast.node
  sheet : c.cueCrc = f.cueCrc ∧ c.guardCrc = f.guardCrc
  cmp : c.cmp.isSome = f.cmp.isSome
  understudy : understudy s = some o

variable {k f : Stagebook}

theorem update_row (h : MayUpdate s b k f o) : exec (.update path b t) s = done (
    if (recheck (s.at t) b).2 then updateBegin (recheck (s.at t) b).1 b k o else cmdRefuse (recheck (s.at t) b).1 4 rfSTATE) := by
  refine congrArg done ((rstCmd_free h.free path 4 t b).trans ?_)
  show update (s.at t) b = _
  unfold update
  rw [show cmdBusy (s.at t) = false from h.free, show fetchRuns (s.at t) = false from h.noFetch,
    show (s.at t).cue.scene.target = none from h.noScene, if_neg (by decide),
    show isInForce (s.at t) b = false from decide_eq_false h.spare, if_neg (by decide),
    if_neg (not_not_intro (show ((s.at t).slot b).state = .valid from h.valid)),
    show ((s.at t).slot b).content = some k from h.content, show inForce (s.at t) = some f from h.inForce,
    show understudy (s.at t) = some o from h.understudy]
  generalize recheck (s.at t) b = v
  obtain ⟨x, _ | _⟩ := v
  · rfl
  · dsimp only
    rw [if_neg (by decide), if_neg (by simp [h.cast]), if_neg (by simp [h.sheet]), if_neg (not_not_intro h.cmp)]
    rfl

theorem completes_update (h : MayUpdate s b k f o) (passed : (passes s b (s.slot b).content).isSome = true) :
    Completes (.update path b t) s fun u =>
      u.store.upd = some (b, 1) ∧ CoreTo s u o .c4 .copying ∧ u.store.cmd = ⟨1, 4, 0⟩ ∧ u.store.force = s.store.force := by
  have row := update_row (path := path) (t := t) h
  rw [recheck_passes (s := s.at t) (by rw [at_passes]; exact passed)] at row
  dsimp only at row
  rw [if_pos rfl] at row
  have claimed := setClaim_core (s.at t) o o .c4 .update
  rw [if_pos rfl] at claimed
  have kept := (sameRoles_setClaim (s.at t) o .c4 .update).store
  unfold updateBegin at row
  extract_lets s1 s2 at row
  have sent := onlyBar_sendChunks s2 k b true
  have lead : (sendChunks s2 k b true).lead = s1.lead := by rw [sent]; rfl
  have store : (sendChunks s2 k b true).store = s2.store := by rw [sent]
  generalize sendChunks s2 k b true = z at row lead store
  refine completes_done row ⟨?_, ?_, ?_, ?_⟩
  · rw [settle_store]
    exact congrArg StoreState.upd store
  · unfold CoreTo
    rw [settle_core]
    refine (core_congr (lead : (cmdRun z 4).lead = s1.lead) o).trans ?_
    rw [show s1.core o = _ from core_updCore_self _ o _, claimed]
    rfl
  · rw [settle_store]
    rfl
  · rw [settle_store]
    refine (congrArg StoreState.force store).trans ?_
    show (setClaim (s.at t) o .c4 .update).store.force = _
    rw [kept]
    rfl

theorem completes_updateBad (h : MayUpdate s b k f o) (failed : passes s b (s.slot b).content = none) :
    Completes (.update path b t) s fun u => (u.slot b).state = .bad ∧ u.store.cmd = ⟨3, 4, 3⟩ ∧ u.store.upd = s.store.upd := by
  have row := update_row (path := path) (t := t) h
  rw [recheck_fails (s := s.at t) (by rw [at_passes]; exact failed)] at row
  dsimp only at row
  rw [if_neg Bool.false_ne_true] at row
  generalize (slotVerdict (s.at t) (slotWords (s.at t) b) ((s.at t).slot b).content).1 = cause at row
  have state := slotFailed_self (s.at t) b cause
  have store := slotFailed_store (s.at t) b cause
  generalize slotFailed (s.at t) b cause = y at row state store
  refine completes_done row ⟨?_, ?_, ?_⟩
  · rw [settle_slot]
    exact congrArg Slot.state (state : (cmdRefuse y 4 rfSTATE).slot b = _)
  · rw [settle_store]; rfl
  · rw [settle_store]
    exact (congrArg StoreState.upd store).trans rfl

/-! The resynchronisation of an update (R390, steps 2, 4 and 5). -/

theorem copyCollector_store (s : State) (from_ into : Core) : (copyCollector s from_ into).store = s.store := by
  unfold copyCollector
  extract_lets f s1 s2
  generalize List.range 1024 = ks
  exact (each_keeps (fun s : State => s.store) (by intros; rfl) ks s2).trans (each_keeps (fun s : State => s.store) (by intros; rfl) coreRegs s1)

theorem rejoinEnd_keeps (s : State) (c l : Core) : (rejoinEnd s c l).core c = { s.core c with claim := .c8, phase := .idle } ∧
    (rejoinEnd s c l).store = s.store := by
  have claimed := setClaim_core s c c .c8 .rejoinStep
  rw [if_pos rfl] at claimed
  have kept := (sameRoles_setClaim s c .c8 .rejoinStep).store
  unfold rejoinEnd
  generalize setClaim s c .c8 .rejoinStep = x at claimed kept
  have leadX := (copyCollector_keeps x l c).1
  have storeX : (copyCollector x l c).store = x.store := copyCollector_store x l c
  generalize copyCollector x l c = y at leadX storeX
  have leadY := (copyCounters_keeps y l c).1
  have storeY : (copyCounters y l c).store = y.store := each_keeps (fun s : State => s.store) (by intros; rfl) _ _
  generalize copyCounters y l c = z at leadY storeY
  constructor
  · rw [evt_core, core_updCore_self, core_congr (leadY.trans leadX), claimed]
  · exact storeY.trans (storeX.trans kept)

theorem swapRequest_store (s : State) (c : Core) (cause : ClaimCause) : (swapRequest s c cause).store = s.store := by
  unfold swapRequest
  extract_lets me peer wanted
  clear_value wanted
  split
  · rfl
  split
  · split <;> rfl
  · split <;> rfl

theorem completes_resync_staged (staged : s.store.upd = some (b, 2)) (lead : s.lead? = some l) (apart : l ≠ c) (low : (s.core c).claim = .c4) :
    Completes (.updateResyncDone c t) s fun u => u.store.upd = some (b, 3) ∧ CoreTo s u c .c8 .idle := by
  have row : exec (.updateResyncDone c t) s =
      done (swapRequest ((rejoinEnd (s.at t) c l).updStore fun x => { x with upd := some (b, 3) }) c .update) := by
    refine congrArg done ?_
    unfold updateResync
    rw [show (s.at t).store.upd = some (b, 2) from staged, show (s.at t).lead? = some l from lead]
    exact if_neg (not_or.2 ⟨apart, not_not_intro low⟩)
  obtain ⟨core, -⟩ := rejoinEnd_keeps (s.at t) c l
  generalize rejoinEnd (s.at t) c l = y at row core
  have coreZ := (swapRequest_keeps (y.updStore fun x => { x with upd := some (b, 3) }) c .update).1 c
  have storeZ := swapRequest_store (y.updStore fun x => { x with upd := some (b, 3) }) c .update
  refine completes_done row ⟨?_, ?_⟩
  · rw [settle_store, storeZ]; rfl
  · unfold CoreTo
    rw [settle_core, coreZ]
    exact core

theorem completes_resync_swapped (swapped : s.store.upd = some (b, 4)) (lead : s.lead? = some l) (apart : l ≠ c)
    (low : (s.core c).claim = .c4) : Completes (.updateResyncDone c t) s fun u =>
      u.store.upd = none ∧ CoreTo s u c .c8 .idle ∧ u.store.force = some b ∧ (u.slot b).state = .live ∧ u.store.cmd = ⟨2, 4, 0⟩ ∧
      (u.reg RST_EVT).getLsbD rstUPDDONE = true := by
  have row : exec (.updateResyncDone c t) s =
      done (cmdDone (((slotInForce (rejoinEnd (s.at t) c l) b).updStore fun x => { x with upd := none }).evt RST_EVT rstUPDDONE) 4) := by
    refine congrArg done ?_
    unfold updateResync
    rw [show (s.at t).store.upd = some (b, 4) from swapped, show (s.at t).lead? = some l from lead]
    exact if_neg (not_or.2 ⟨apart, not_not_intro low⟩)
  obtain ⟨core, -⟩ := rejoinEnd_keeps (s.at t) c l
  generalize rejoinEnd (s.at t) c l = y at row core
  have live := congrArg Slot.state (slotInForce_self y b)
  have force : (slotInForce y b).store.force = some b := rfl
  have same : (slotInForce y b).core c = y.core c := rfl
  generalize slotInForce y b = z at row live force same
  refine completes_done row ⟨?_, ?_, ?_, ?_, ?_, ?_⟩
  · rw [settle_store]; rfl
  · unfold CoreTo
    rw [settle_core]
    exact same.trans core
  · rw [settle_store]
    exact force
  · rw [settle_slot]
    exact live
  · rw [settle_store]; rfl
  · have told : EvtSet ((z.updStore fun x => { x with upd := none }).evt RST_EVT rstUPDDONE) RST_EVT rstUPDDONE :=
      evtSet_evt _ _ _ (by decide)
    exact (told.congr (updStore_regs _ _)).settle (by decide)

/-! The swap of an update (R390, steps 3 and 4). -/

theorem lead?_claim (h : s.lead? = some l) : (s.core l).claim = .c12 := by
  unfold State.lead? at h
  split at h
  · next claim => cases h; exact claim
  · split at h
    · next claim => cases h; exact claim
    · cases h

theorem lead?_of_claims (own : (s.core l).claim = .c8) (peer : (s.core l.other).claim = .c12) : s.lead? = some l.other := by
  unfold State.lead?
  cases l
  · exact (if_neg (by rw [own]; decide)).trans (if_pos peer)
  · exact if_pos peer

theorem setClaim_fab (s : State) (c : Core) (new : Claim) (cause : ClaimCause) : (setClaim s c new cause).fab = s.fab := by
  by_cases same : (s.core c).claim = new
  · rw [setClaim_same same]
  · rw [setClaim_changed same]
    have taken : (claimTaken s c new cause).fab = s.fab := by
      unfold claimTaken
      extract_lets s1
      exact (hubOnly_trace _ _ _ _ _).node.fab.trans (hubOnly_trace _ _ _ _ _).node.fab
    rw [← taken]
    unfold claimsCompared
    extract_lets eq z
    split
    · exact raise_fab _ _ _
    · rfl

/-- The cores after the three steps of a swap (R410). -/
structure Swapped (s y : State) (l : Core) : Prop where
  own : y.core l = { s.core l with claim := .c8 }
  peer : y.core l.other = { s.core l.other with claim := .c12 }
  due : y.lead.swapDue = none

theorem swapNow_swapped {d : Core} {at_ : Nat} {cause : ClaimCause} (due : s.lead.swapDue = some (d, at_, cause)) (lead : s.lead? = some l)
    (under : (s.core l.other).claim = .c8) (stays : s.lead.demoteAfter = false) : Swapped s (swapNow s) l := by
  have now : swapNow s = (((setClaim (setClaim (setClaim s l .c4 cause) l.other .c12 cause) l .c8 cause).bump LU_SWAPS).evt LU_EVT
      luSWAP).updLead fun x => { x with swapDue := none, demoteAfter := false } := by
    unfold swapNow
    rw [due, lead]
    dsimp only
    rw [if_pos under, stays]
    rfl
  rw [now]
  refine ⟨?_, ?_, rfl⟩
  · rw [core_updLead rfl, evt_core, bump_core, setClaim_core, if_pos rfl, setClaim_core, if_neg (other_ne l).symm, setClaim_core, if_pos rfl]
  · rw [core_updLead rfl, evt_core, bump_core, setClaim_core, if_neg (other_ne l), setClaim_core, if_pos rfl, setClaim_core, if_neg (other_ne l)]

theorem quotaWritten_lead (s : State) (i : Fin 20) : (quotaWritten s i).lead = s.lead := by
  unfold quotaWritten
  split
  · rfl
  · exact updSw_lead s _

theorem hubSections_node (s : State) (k : Stagebook) : (hubSections s k).lead = s.lead ∧ (hubSections s k).fab.tables = some k.cast := by
  unfold hubSections
  extract_lets links s1 s2 start fab cmp s3
  have restored : s1.lead = s.lead := by
    have regs : SameNode s (restoreRegs s k.regs false) := sameNode_each (f := restoreReg k.regs) (sameNode_restoreReg k.regs) (restoreKeys s k.regs false) s
    have one (x : State) (p : Port) (i : Nat) : (if bitOf links i && !x.bit LNK_CTRL i then portDown x p else x).lead = x.lead := by
      split
      · exact portDown_lead x p
      · rfl
    exact ((one _ .east 14).trans (one _ .west 15)).trans regs.lead
  have quotas : s2.lead = s1.lead := each_keeps (fun s : State => s.lead) (fun x i => quotaWritten_lead x i) (List.finRange 20) s1
  clear_value s2
  exact ⟨quotas.trans restored, rfl⟩

theorem completes_updateSwap {k : Stagebook} {due : Core × Nat × ClaimCause} (resynced : s.store.upd = some (b, 3)) (lead : s.lead? = some l)
    (content : (s.slot b).content = some k) (isDue : s.lead.swapDue = some due) (stays : s.lead.demoteAfter = false)
    (under : (s.core l.other).claim = .c8) : Completes (.updateSwap t) s fun u =>
      u.store.upd = some (b, 4) ∧ (u.core l.other).claim = .c12 ∧ (u.core l).claim = .c4 ∧ (u.core l).phase = .copying ∧
      u.fab.tables = some k.cast ∧ u.lead.swapDue = none := by
  have swapped := swapNow_swapped (s := s.at t) isDue lead under stays
  obtain ⟨y, is⟩ : ∃ y : State, y = swapNow (s.at t) := ⟨_, rfl⟩
  rw [← is] at swapped
  have peerLeads : y.lead? = some l.other := lead?_of_claims (by rw [swapped.own]) (by rw [swapped.peer])
  obtain ⟨z, isZ⟩ : ∃ z : State, z = (hubSections y k).each (s.at t).store.staged.reverse fun s tag => chunkApply s tag b := ⟨_, rfl⟩
  have taken : SameNode (hubSections y k) z := isZ ▸ sameNode_each (fun x tag => sameNode_chunkApply x tag b) _ _
  obtain ⟨leadH, tables⟩ := hubSections_node y k
  have leadZ : z.lead = y.lead := taken.lead.trans leadH
  have row : exec (.updateSwap t) s = done (((setClaim z l .c4 .update).updCore l fun x => { x with phase := .copying }).updStore fun x =>
      { x with upd := some (b, 4), staged := [] }) := by
    refine congrArg done ?_
    simp only [updateSwap, show (s.at t).store.upd = some (b, 3) from resynced, show (s.at t).lead? = some l from lead,
      show ((s.at t).slot b).content = some k from content]
    rw [show (s.at t).lead.swapDue = some due from isDue, if_neg (by simp), ← is, if_neg (not_not_intro peerLeads), ← isZ]
  have claimed (d : Core) := setClaim_core z l d .c4 .update
  have roles := sameRoles_setClaim z l .c4 .update
  have fab : (setClaim z l .c4 .update).fab = z.fab := (setClaim_fab z l .c4 .update)
  generalize setClaim z l .c4 .update = w at row claimed roles fab
  have own : (w.updCore l fun x => { x with phase := .copying }).core l = { y.core l with claim := .c4, phase := .copying } := by
    rw [core_updCore_self, claimed, if_pos rfl, core_congr leadZ]
  have peer : (w.updCore l fun x => { x with phase := .copying }).core l.other = y.core l.other := by
    rw [core_updCore, if_neg (other_ne l), claimed, if_neg (other_ne l), core_congr leadZ]
  refine completes_done row ⟨?_, ?_, ?_, ?_, ?_, ?_⟩
  · rw [settle_store]; rfl
  · rw [settle_core]
    exact (congrArg CoreState.claim (peer.trans swapped.peer)).trans rfl
  · rw [settle_core]
    exact congrArg CoreState.claim own
  · rw [settle_core]
    exact congrArg CoreState.phase own
  · rw [settle_fab]
    exact (congrArg FabState.tables (fab.trans taken.fab)).trans tables
  · rw [settle_lead]
    exact roles.due.trans ((congrArg LeadState.swapDue leadZ).trans swapped.due)

/-- Settles O46: records begin and commit, the scan, the choice of a stagebook and the steps of an update. -/
theorem journalAndUpdate : Obligations.JournalAndUpdate := by
  unfold Obligations.JournalAndUpdate
  intro path t s
  refine ⟨?_, ?_, ?_, ?_, ?_, ?_, ?_, ?_⟩
  · intro addr v r k row persists sel linked calm allowed
    have takes : TakesPersistent s path (canonReg addr.toNat) k v r := ⟨row, persists, sel, linked, calm, allowed⟩
    exact ⟨completes_record_free takes, completes_record_held takes⟩
  · exact fun b copy writes => ⟨completes_commit_last writes, fun v base rest held => completes_commit_next writes held⟩
  · exact fun b at_ rest live free near => completes_compactionCopy live free near
  · exact fun headBad new run calm => completes_journalScan new run calm
  · exact completes_stagebookApply
  · intro b c f o free noFetch noScene spare valid content inForce ring node cue guard cmp under
    have may : MayUpdate s b c f o := ⟨free, noFetch, noScene, spare, valid, content, inForce, ⟨ring, node⟩, ⟨cue, guard⟩, cmp, under⟩
    exact ⟨completes_update may, completes_updateBad may⟩
  · exact fun b l c lead apart low => ⟨fun staged => completes_resync_staged staged lead apart low,
      fun swapped => completes_resync_swapped swapped lead apart low⟩
  · exact fun b l c due resynced lead content isDue stays under => completes_updateSwap resynced lead content isDue stays under

end Sys2Proof.Machine
end

section
set_option Elab.async false
/-! SUPPORT. Roll calls and their pages (R180-R184), and what a frame without a transaction leaves of the registers. -/

namespace Sys2Proof.Machine

variable {s u : State} {r : Ring} {t : Nat}

/-! The registers after a frame that stands for no transaction. -/

/-- The registers that count what the switch retires or cannot hold (R149, R162, R167, R168, R197). -/
def retireRegs : List Nat := [SWQ_NODEST, SWQ_AGED, SWQ_EVT, SWQ_PDOWN, SWQ_REFUSED, SWQ_BADHDR, FAB_NOROUTE, FAB_EVT]

/-- Only those registers change, and no event bit of the FAB block is lost. -/
structure RetireOnly (s u : State) : Prop where
  keeps : KeepsRegs s u retireRegs
  shows (i : Nat) : EvtSet s FAB_EVT i → EvtSet u FAB_EVT i

theorem RetireOnly.of_regs (h : u.regs = s.regs) : RetireOnly s u := ⟨.of_regs h _, fun _ told => told.congr h⟩
theorem RetireOnly.refl (s : State) : RetireOnly s s := .of_regs rfl
theorem RetireOnly.trans {x : State} (h : RetireOnly s u) (g : RetireOnly u x) : RetireOnly s x :=
  ⟨h.keeps.trans g.keeps, fun i told => g.shows i (h.shows i told)⟩

theorem retireOnly_evt (s : State) {a : Nat} (named : a ∈ retireRegs) (i : Nat) : RetireOnly s (s.evt a i) :=
  ⟨(KeepsRegs.of_regs rfl _).evt named i, fun _ told => told.evt a i⟩

theorem retireOnly_bump (s : State) {a : Nat} (named : a ∈ retireRegs) (other : FAB_EVT ≠ a) : RetireOnly s (s.bump a) :=
  ⟨(KeepsRegs.of_regs rfl _).bump named, fun _ told => told.bump other⟩

theorem retireOnly_raise (s : State) (src d : Nat) : RetireOnly s (s.raise src d) := .of_regs (raise_regs s src d)

theorem retireOnly_counted (s : State) {a : Nat} (named : a ∈ retireRegs) (other : FAB_EVT ≠ a) (src d : Nat) :
    RetireOnly s ((s.bump a).raise src d) := (retireOnly_bump s named other).trans (retireOnly_raise _ _ _)

theorem retireOnly_reported (s : State) {a b : Nat} (named : a ∈ retireRegs) (other : FAB_EVT ≠ a) (event : b ∈ retireRegs) (i src d : Nat) :
    RetireOnly s (((s.bump a).evt b i).raise src d) :=
  ((retireOnly_bump s named other).trans (retireOnly_evt _ event i)).trans (retireOnly_raise _ _ _)

theorem retireOnly_retire {e : QEntry} (plain : e.origin = none) (why : Retire) (port : Nat) : RetireOnly s (retire s e why port) := by
  rw [retire_eq, plain]
  change RetireOnly s (retireCounted s e why port)
  cases why
  case noDest => exact retireOnly_counted s (by decide) (by decide) Src.retNoDest port
  case aged => exact retireOnly_reported s (by decide) (by decide) (by decide) 10 Src.retAged port
  case portDown => exact retireOnly_counted s (by decide) (by decide) Src.retPortDown port
  case refused => exact retireOnly_reported s (by decide) (by decide) (by decide) 12 Src.retRefused port
  case ecc => exact .refl s
  case size => exact retireOnly_counted s (by decide) (by decide) Src.badHeader port
  case noRoute => exact retireOnly_reported s (by decide) (by decide) (by decide) 6 Src.noRoute e.frame.dring

theorem retireOnly_enqueue (s : State) (p : Fin 20) (e : QEntry) (front : Bool) : RetireOnly s (enqueue s p e front) := by
  unfold enqueue
  extract_lets x
  have same : RetireOnly s x := .of_regs rfl
  split
  · exact same.trans (retireOnly_evt x (by decide) 9)
  · exact same

theorem retireOnly_submit {e : QEntry} (plain : e.origin = none) (p : Fin 20) : RetireOnly s (submit s p e) := by
  unfold submit
  split
  · exact retireOnly_retire plain _ _
  · split
    · exact retireOnly_retire plain _ _
    · exact retireOnly_enqueue _ _ _ _

theorem retireOnly_sendFrame (s : State) (input ep : Nat) (f : Frame) (joints : Nat) : RetireOnly s (sendFrame s input ep f none joints) := by
  unfold sendFrame
  extract_lets e
  split
  · exact (retireOnly_submit rfl _).trans (retireOnly_submit rfl _)
  · split
    · exact retireOnly_retire rfl _ _
    · split
      · exact retireOnly_submit rfl _
      · have pinned : (pinFlow s ep f.cls f.w1).2.regs = s.regs := by rw [pinFlow]; split <;> rfl
        exact (RetireOnly.of_regs pinned).trans (retireOnly_submit rfl _)

theorem retireOnly_sendTo (s : State) (input cls type sub node : Nat) (payload : List Word) :
    RetireOnly s (sendTo s input cls type sub node payload) := by
  unfold sendTo
  split
  · exact .refl s
  · exact retireOnly_sendFrame _ _ _ _ _

theorem hubOnly_sendTo (s : State) (input cls type sub node : Nat) (payload : List Word) :
    HubOnly s (sendTo s input cls type sub node payload) := by
  unfold sendTo
  split
  · exact .refl s
  · exact hubOnly_sendFrame _ _ _ _ _ _

/-- A request for a stagebook changes the hub alone. -/
theorem hubOnly_fetchAsk (s : State) : HubOnly s (fetchAsk s) := by
  unfold fetchAsk
  extract_lets x target
  split
  · exact .refl s
  · exact hubOnly_sendTo _ _ _ _ _ _ _

theorem retireOnly_fetchAsk (s : State) : RetireOnly s (fetchAsk s) := by
  unfold fetchAsk
  extract_lets x target
  split
  · exact .refl s
  · exact retireOnly_sendTo _ _ _ _ _ _ _

theorem RetireOnly.of_changed {x : State} (h : RetireOnly x u) (same : x.regs = s.regs) : RetireOnly s u := (RetireOnly.of_regs same).trans h

theorem retireOnly_fetchFrom (s : State) (src node rounds : Nat) (keep : Option Port) : RetireOnly s (fetchFrom s src node rounds keep) :=
  (retireOnly_fetchAsk _).of_changed rfl

/-- A fetch that begins sets the fetch alone. -/
theorem fetchFrom_fab (s : State) (src node rounds : Nat) (keep : Option Port) : (fetchFrom s src node rounds keep).fab =
    { s.fab with fetch :=
        { src := src, state := 1, rounds := rounds, frames := 0, offset := 0, words := [], node := node, keep := keep } } := by
  rw [fetchFrom, hubOnly_fetchAsk]
  rfl

/-! Pages (R181, R184). -/

theorem roll_congr (h : u.fab = s.fab) (r : Ring) : u.roll r = s.roll r := by rw [State.roll, h]; rfl

theorem roll_updRoll (s : State) (r q : Ring) (f : RollRing → RollRing) :
    (s.updRoll r f).roll q = if q = r then f (s.roll r) else s.roll q := by
  simp only [State.roll, State.updRoll, State.updFab, vget_vupd, ring_ix_inj]

/-- The words of a page as the prompter sends it (R181). -/
def pageWords (s : State) (r : Ring) (p : Nat) : List Word :=
  [s.fab.rollNum, bitW (decide (r = .b)) 15 ||| putFld p 5 0, 0, 0] ++ List.replicate 504 0

/-- The entry of a page in a queue. -/
def pageEntry (s : State) (r : Ring) (p : Nat) : QEntry :=
  ⟨Frame.mk' 1 1 0x10 (putFld s.ringNo 15 12 ||| wd 4095) s.srcWord 0 (pageWords s r p), 20, s.now, 0, none, 0⟩

/-- A ring's pages as a page is sent. -/
def pageSent (now : DWord) (p : Nat) (x : RollRing) : RollRing := { x with page := p, sentAt := now }

theorem sendPage_eq (s : State) (r : Ring) (p : Nat) :
    sendPage s r p = (noticeOn s r (pageEntry s r p).frame).updRoll r (pageSent s.present p) := rfl

theorem updRoll_fab (h : u.fab = s.fab) (r : Ring) (f : RollRing → RollRing) : (u.updRoll r f).fab = (s.updRoll r f).fab := by
  rw [State.updRoll, State.updFab, h]
  rfl

theorem sendPage_fab (s : State) (r : Ring) (p : Nat) : (sendPage s r p).fab = (s.updRoll r (pageSent s.present p)).fab := by
  have hub := hubOnly_noticeOn s r (pageEntry s r p).frame
  rw [sendPage_eq]
  exact updRoll_fab (by rw [hub]) _ _

theorem pageEntry_cls (s : State) (r : Ring) (p : Nat) : (pageEntry s r p).frame.cls = 1 := by
  change fld (putFld 1 15 14 ||| putFld 1 10 8 ||| putFld 0x10 7 0) 15 14 = 1
  decide

theorem sendPage_now (s : State) (r : Ring) (p : Nat) : (sendPage s r p).now = s.now := by
  have hub := hubOnly_noticeOn s r (pageEntry s r p).frame
  have now : (noticeOn s r (pageEntry s r p).frame).now = s.now := by rw [hub]
  exact now

theorem sendPage_open (numbered : s.fab.node ≠ 0) (open_ : portOff s (ringPort r) = false) (p : Nat) :
    sendPage s r p = (enqueue s (ringPort r) (pageEntry s r p) false).updRoll r (pageSent s.present p) := by
  have fits : ¬ ((pageEntry s r p).frame.cls = 0 ∧ (pageEntry s r p).frame.payload.length > 32) := by
    rw [pageEntry_cls]; omega
  have sent : noticeOn s r (pageEntry s r p).frame = enqueue s (ringPort r) (pageEntry s r p) false :=
    (if_neg numbered).trans (submit_of_open fits open_)
  rw [sendPage_eq, sent]

/-- A page waits in the queue of its ring and class and in no other. -/
theorem queue_sendPage (numbered : s.fab.node ≠ 0) (open_ : portOff s (ringPort r) = false) (q : Ring) (p : Nat) :
    (sendPage s r p).queue (ringPort q) 1 = s.queue (ringPort q) 1 ++ if q = r then [pageEntry s r p] else [] := by
  have sw : (sendPage s r p).sw = (enqueue s (ringPort r) (pageEntry s r p) false).sw := by rw [sendPage_open numbered open_]; rfl
  rw [queue_congr sw, queue_congr (enqueue_sw _ _ _ _), queue_updQueue, pageEntry_cls]
  cases r <;> cases q <;> simp [ringPort]

/-! A roll call starts (R180). -/

/-- The roll call as it starts, before its pages are sent. -/
def rollOpened (s : State) : State :=
  s.updFab fun f =>
    { f with rolling := true, rollNum := f.rollNum + 1, rolls := Vector.replicate 2 ⟨0, 0, s.present, false, false⟩
             seen := [], castQueue := [], partial_ := false }

theorem rollStart_eq (prompts : s.prompting = true) (idle : s.fab.rolling = false) :
    rollStart s = sendPage (sendPage (rollOpened s) .a 0) .b 0 := by
  rw [rollStart, prompts, idle]
  rfl

/-- The fields of the fabric but for the two rings' pages, which a page as it is sent leaves. -/
theorem sendPage_keeps (s : State) (r : Ring) (p : Nat) : (sendPage s r p).fab = { s.fab with rolls := (sendPage s r p).fab.rolls } := by
  rw [sendPage_fab]
  rfl

theorem rollStart_fab (prompts : s.prompting = true) (idle : s.fab.rolling = false) :
    (rollStart s).fab = { (rollOpened s).fab with rolls := (rollStart s).fab.rolls } := by
  rw [rollStart_eq prompts idle, sendPage_keeps, sendPage_keeps]

/-- Both rings start at page 0. -/
theorem roll_rollStart (prompts : s.prompting = true) (idle : s.fab.rolling = false) (r : Ring) :
    ((rollStart s).roll r).page = 0 ∧ ((rollStart s).roll r).ended = false := by
  have opened (q : Ring) : (rollOpened s).roll q = ⟨0, 0, s.present, false, false⟩ := by cases q <;> rfl
  rw [rollStart_eq prompts idle, roll_congr (sendPage_fab _ _ _), roll_updRoll, roll_congr (sendPage_fab _ _ _),
    roll_congr (sendPage_fab _ _ _), roll_updRoll, roll_updRoll, opened, opened, opened]
  cases r <;> exact ⟨rfl, rfl⟩

/-- The first two pages, one on each ring. -/
theorem queue_rollStart (prompts : s.prompting = true) (idle : s.fab.rolling = false) (may : MayBroadcast s) (r : Ring) :
    (rollStart s).queue (ringPort r) 1 = s.queue (ringPort r) 1 ++ [pageEntry (rollOpened s) r 0] := by
  obtain ⟨numbered, openA, openB⟩ : MayBroadcast (rollOpened s) := may
  have first : sendPage (rollOpened s) .a 0 = _ := sendPage_open (r := .a) numbered openA 0
  have entry : pageEntry (sendPage (rollOpened s) .a 0) .b 0 = pageEntry (rollOpened s) .b 0 := by
    rw [first, switchOnly_enqueue]
    rfl
  have numberedB : (sendPage (rollOpened s) .a 0).fab.node ≠ 0 := by rwa [sendPage_keeps]
  have stillOpen : portOff (sendPage (rollOpened s) .a 0) 1 = false := by
    rw [first]
    exact (portOff_enqueue_b _ _ _ _).trans openB
  rw [rollStart_eq prompts idle, queue_sendPage (r := .b) numberedB stillOpen, queue_sendPage (r := .a) numbered openA, entry]
  cases r with
  | a => exact List.append_nil _
  | b => exact congrArg (· ++ _) (List.append_nil _)

/-- What the statement says of a roll call that has started. -/
theorem completes_rcStart (prompts : s.prompting = true) (idle : s.fab.rolling = false) : Completes (.rcStart t) s fun u =>
    u.fab.rolling = true ∧ u.fab.rollNum = s.fab.rollNum + 1 ∧ u.fab.seen = [] ∧ (u.roll r).page = 0 ∧ (u.roll r).ended = false ∧
    (MayBroadcast s → u.queue (ringPort r) 1 = s.queue (ringPort r) 1 ++
      [⟨Frame.mk' 1 1 0x10 (putFld s.ringNo 15 12 ||| wd 4095) s.srcWord 0
        ([s.fab.rollNum + 1, bitW (decide (r = .b)) 15 ||| putFld 0 5 0, 0, 0] ++ List.replicate 504 0), 20, u.now, 0, none, 0⟩]) := by
  have row : exec (.rcStart t) s = done (rollStart (s.at t)) := rfl
  refine completes_done row ?_
  have fab := rollStart_fab (s := s.at t) prompts idle
  have ⟨page, going⟩ := roll_rollStart (s := s.at t) prompts idle r
  have rolls : (settle (rollStart (s.at t))).roll r = (rollStart (s.at t)).roll r := roll_congr (settle_fab _) r
  refine ⟨?_, ?_, ?_, by rw [rolls]; exact page, by rw [rolls]; exact going, fun may => ?_⟩
  · rw [settle_fab, fab]; rfl
  · rw [settle_fab, fab]; rfl
  · rw [settle_fab, fab]; rfl
  · have now : (settle (rollStart (s.at t))).now = max s.now t := by
      rw [settle_now, rollStart_eq (s := s.at t) prompts idle, sendPage_now, sendPage_now]
      rfl
    rw [queue_congr (settle_sw _), queue_rollStart (s := s.at t) prompts idle may, now]
    rfl

theorem completes_rollCallDue (due : rollIsDue (s.at t) = true) (prompts : s.prompting = true) (idle : s.fab.rolling = false) :
    Completes (.rollCallDue t) s fun u =>
      u.fab.rolling = true ∧ u.fab.rollNum = s.fab.rollNum + 1 ∧ u.fab.rollDue = s.fab.rollDue.eraseP (reached s.present) := by
  obtain ⟨x, is⟩ : ∃ x, x = (s.at t).updFab fun f => { f with rollDue := f.rollDue.eraseP (reached (s.at t).present) } := ⟨_, rfl⟩
  have row : exec (.rollCallDue t) s = done (rollStart x) := by
    rw [is]
    exact congrArg done (if_pos (by rw [due, at_fab, idle]; rfl))
  refine completes_done row ?_
  have fab := rollStart_fab (s := x) (by rw [is]; exact prompts) (by rw [is]; exact idle)
  rw [settle_fab, fab, is]
  exact ⟨rfl, rfl, rfl⟩

end Sys2Proof.Machine
end

section
set_option Elab.async false
/-! SUPPORT. A roll page that passes, that comes back and that fails (R182-R184). -/

namespace Sys2Proof.Machine

variable {s u : State} {r : Ring} {t : Nat} {p : List Word}

theorem EvtSet.countSel {a i b : Nat} (h : EvtSet s a i) (other : a ≠ b) (n : Nat) : EvtSet (s.countSel b 0 n) a i := by
  unfold EvtSet
  rw [reg_countSel_ne s n other]
  exact h

/-! A page passes (R182, R183). -/

theorem pageFilled_hop (s : State) (r : Ring) (p : List Word) : (pageFilled s r p).1 = fld (wAt p 2) 11 0 + 1 := by
  unfold pageFilled
  extract_lets h first p1
  split <;> rfl

/-- The hop count stands in the page's third word. -/
theorem pageFilled_word (s : State) (r : Ring) (long : 4 ≤ p.length) :
    (pageFilled s r p).2[2]? = some (putFld (fld (wAt p 2) 11 0 + 1) 11 0) := by
  unfold pageFilled
  extract_lets h first p1
  have hop : p1[2]? = some (putFld h 11 0) := by
    rw [List.getElem?_set_self (by omega)]
  split
  next inRange =>
    have ahead : 2 < (p1.take (4 + 8 * (h - first))).length := by
      rw [List.length_take, List.length_set]
      omega
    rw [List.getElem?_set_ne (by decide), List.append_assoc, List.getElem?_append_left ahead,
      List.getElem?_take_of_lt (by omega), hop]
  next => exact hop

/-- The fabric as a page leaves it that passes on ring r. -/
def pageHeard (s : State) (r : Ring) (f : Frame) : State :=
  s.updFab fun x =>
    { x with rollNum := wAt f.payload 0, ringHeard := some f.sring, prompterHeard := f.snode
             hA := if r = .a then (pageFilled s r f.payload).1 else x.hA, hB := if r = .b then (pageFilled s r f.payload).1 else x.hB }

/-- The page as it leaves, its words in place of those received. -/
def pagePassing (s : State) (r : Ring) (f : Frame) : Passing :=
  let g : Frame := { f with payload := (pageFilled s r f.payload).2 }
  let tail : List RingWord := if f.crcOk then (toWords 2 g.crc).map .data else [.err, .err]
  ⟨6 + f.len, false, f.cls, (g.body.map fun w => some (.data w)) ++ tail.map some⟩

/-- A page that a node which is no prompter and ends no line passes on. -/
structure PagePasses (s : State) (r : Ring) (f : Frame) : Prop where
  other : s.prompting = false
  bright : s.darkPath = false
  carries : (s.link r.inPort).state.carries = true
  type : f.type = 1
  sub : f.sub = 0x10
  straight : bitOf (wAt f.payload 1) 14 = false
  length : f.payload.length = 508
  within : (s.lineOf r).endOfLine = false
  open_ : (s.stream r).open_ = true

theorem rollPage_passes {f : Frame} (h : PagePasses s r f) :
    rollPage s r f = (pageHeard s r f).updStream r fun x => { x with frame := some (pagePassing s r f) } := by
  obtain ⟨hop, words, is⟩ : ∃ a b, pageFilled s r f.payload = (a, b) := ⟨_, _, rfl⟩
  unfold rollPage pageHeard pagePassing
  rw [if_neg (by simp [h.other, h.bright, h.carries, h.type, h.sub, h.straight, h.length]), is]
  dsimp only
  rw [if_neg (by rw [h.within]; exact Bool.false_ne_true), if_pos h.open_]

theorem pagePassing_word {f : Frame} (long : 4 ≤ f.payload.length) :
    (pagePassing s r f).subst[6]? = some (some (.data (putFld (fld (wAt f.payload 2) 11 0 + 1) 11 0))) := by
  have word := pageFilled_word (p := f.payload) s r long
  unfold pagePassing
  extract_lets g tail
  have body : g.body[6]? = some (putFld (fld (wAt f.payload 2) 11 0 + 1) 11 0) := word
  have mapped : (g.body.map fun w => some (RingWord.data w))[6]? = some (some (.data (putFld (fld (wAt f.payload 2) 11 0 + 1) 11 0))) := by
    rw [List.getElem?_map, body]
    rfl
  have ⟨short, _⟩ := List.getElem?_eq_some_iff.mp mapped
  exact (List.getElem?_append_left short).trans mapped

/-- A node's hop count on a ring. -/
def hopsHeard (u : State) : Ring → Nat
  | .a => u.fab.hA
  | .b => u.fab.hB

theorem completes_rollPage {f : Frame} (h : PagePasses s r f) : Completes (.rollPage r f t) s fun u =>
    hopsHeard u r = fld (wAt f.payload 2) 11 0 + 1 ∧ u.fab.rollNum = wAt f.payload 0 ∧
    ∃ p, (u.stream r).frame = some p ∧ p.left = 6 + f.len ∧ p.strip = false ∧
      p.subst[6]? = some (some (.data (putFld (fld (wAt f.payload 2) 11 0 + 1) 11 0))) := by
  have passes : PagePasses (s.at t) r f := ⟨h.other, h.bright, h.carries, h.type, h.sub, h.straight, h.length, h.within, h.open_⟩
  refine completes_done (congrArg done (rollPage_passes passes)) ⟨?_, ?_, pagePassing (s.at t) r f, ?_, rfl, rfl, ?_⟩
  · have fab : (settle ((pageHeard (s.at t) r f).updStream r fun x => { x with frame := some (pagePassing (s.at t) r f) })).fab =
        (pageHeard (s.at t) r f).fab := settle_fab _
    unfold hopsHeard
    rw [fab]
    cases r <;> exact pageFilled_hop _ _ _
  · rw [settle_fab]; rfl
  · rw [settle_stream, stream_updStream_self]
  · exact pagePassing_word (by rw [h.length]; decide)

/-! A page comes back (R184). -/

/-- A page that the prompter awaits. -/
structure PageAwaited (s : State) (r : Ring) (p : List Word) : Prop where
  ring : (bitOf (wAt p 1) 15 != bitOf (wAt p 1) 14) = decide (r = .b)
  prompts : s.prompting = true
  rolling : s.fab.rolling = true
  going : (s.roll r).ended = false
  call : wAt p 0 = s.fab.rollNum
  page : fld (wAt p 1) 5 0 = (s.roll r).page

/-- What a returned page tells. -/
def pageTold (s : State) (r : Ring) (p : List Word) : State :=
  let n := fld (wAt p 1) 5 0
  let es := (List.range 63).filterMap fun i =>
    let e := (p.drop (4 + 8 * i)).take 8
    if ofWords (e.take 4) = 0 then none else some (seenOf r (63 * n + 1 + i) e)
  (s.updFab fun f => { f with seen := es.foldl (fun l e => seenAdd e l) f.seen }).updRoll r fun x => { x with last := n, resent := false }

theorem pageReturn_awaited (h : PageAwaited s r p) : pageReturn s p true =
    if fld (wAt p 3) 5 0 = 63 ∧ fld (wAt p 1) 5 0 < 63 then sendPage (pageTold s r p) r (fld (wAt p 1) 5 0 + 1)
    else ringEnds (pageTold s r p) r := by
  have ring : (if (bitOf (wAt p 1) 15 != bitOf (wAt p 1) 14) = true then Ring.b else .a) = r := by
    rw [h.ring]
    cases r <;> rfl
  unfold pageReturn
  extract_lets ringB q x n filled es s1
  have same : q = r := ring
  clear_value q
  subst same
  have asked : ¬ (!s.prompting || !s.fab.rolling || x.ended) = true := by
    rw [h.prompts, h.rolling, show x.ended = false from h.going]
    exact Bool.false_ne_true
  have ours : ¬ (wAt p 0 ≠ s.fab.rollNum ∨ n ≠ x.page) := fun other => other.elim (absurd h.call) (absurd h.page)
  rw [if_neg asked, if_neg (by decide), if_neg ours]
  rfl

theorem pageTold_fab (s : State) (r : Ring) (p : List Word) :
    (pageTold s r p).fab.rolling = s.fab.rolling ∧ ∀ q, (pageTold s r p).roll q =
      if q = r then { s.roll r with last := fld (wAt p 1) 5 0, resent := false } else s.roll q := by
  refine ⟨rfl, fun q => ?_⟩
  unfold pageTold
  extract_lets n es
  rw [roll_updRoll]
  rfl

theorem completes_pageReturn_full (h : PageAwaited s r p) (full : fld (wAt p 3) 5 0 = 63) (more : (s.roll r).page < 63) :
    Completes (.pageReturn p true t) s fun u =>
      (u.roll r).page = (s.roll r).page + 1 ∧ (u.roll r).last = (s.roll r).page ∧ u.fab.rolling = true := by
  have awaited : PageAwaited (s.at t) r p := ⟨h.ring, h.prompts, h.rolling, h.going, h.call, h.page⟩
  have ⟨rolling, rolls⟩ := pageTold_fab (s.at t) r p
  have row : exec (.pageReturn p true t) s = done (sendPage (pageTold (s.at t) r p) r (fld (wAt p 1) 5 0 + 1)) :=
    congrArg done ((pageReturn_awaited awaited).trans (if_pos ⟨full, h.page ▸ more⟩))
  refine completes_done row ?_
  rw [roll_congr (settle_fab _), settle_fab, roll_congr (sendPage_fab _ _ _), sendPage_keeps, roll_updRoll, if_pos rfl, rolls, if_pos rfl]
  exact ⟨congrArg (· + 1) h.page, h.page, rolling.trans h.rolling⟩

theorem completes_pageReturn_last (h : PageAwaited s r p) (short : fld (wAt p 3) 5 0 < 63) (other : (s.roll r.other).ended = false) :
    Completes (.pageReturn p true t) s fun u =>
      (u.roll r).ended = true ∧ (u.roll r).last = (s.roll r).page ∧ u.fab.rolling = true := by
  have awaited : PageAwaited (s.at t) r p := ⟨h.ring, h.prompts, h.rolling, h.going, h.call, h.page⟩
  have ⟨rolling, rolls⟩ := pageTold_fab (s.at t) r p
  obtain ⟨x, is⟩ : ∃ x, x = (pageTold (s.at t) r p).updRoll r fun y => { y with ended := true } := ⟨_, rfl⟩
  have xRoll (q : Ring) : x.roll q = if q = r then { s.roll r with last := fld (wAt p 1) 5 0, resent := false, ended := true } else s.roll q := by
    rw [is, roll_updRoll, rolls, if_pos rfl, rolls]
    split <;> rfl
  have goes : ¬ ((x.roll .a).ended && (x.roll .b).ended) = true := by
    have apart : r.other ≠ r := by cases r <;> decide
    have otherGoes : (x.roll r.other).ended = false := by rw [xRoll, if_neg apart]; exact other
    intro both
    rw [Bool.and_eq_true] at both
    cases r with
    | a => exact absurd (both.2.symm.trans otherGoes) (by decide)
    | b => exact absurd (both.1.symm.trans otherGoes) (by decide)
  have row : exec (.pageReturn p true t) s = done x := by
    refine congrArg done ((pageReturn_awaited awaited).trans ((if_neg fun both => absurd both.1 (Nat.ne_of_lt short)).trans ?_))
    rw [ringEnds, ← is]
    exact if_neg goes
  refine completes_done row ?_
  rw [roll_congr (settle_fab _), settle_fab, xRoll, if_pos rfl, is]
  exact ⟨rfl, h.page, rolling.trans h.rolling⟩

/-! A page that is missing (R184). -/

/-- A ring whose pages have not ended, of a roll call that runs. -/
structure PageOut (s : State) (r : Ring) : Prop where
  prompts : s.prompting = true
  rolling : s.fab.rolling = true
  going : (s.roll r).ended = false

theorem PageOut.guard (h : PageOut s r) : ¬ (!s.fab.rolling || (s.roll r).ended || !s.prompting) = true := by
  rw [h.prompts, h.rolling, h.going]
  exact Bool.false_ne_true

theorem completes_pageTimeout_again (h : PageOut s r) (first : (s.roll r).resent = false) : Completes (.pageTimeout r t) s fun u =>
    (u.roll r).resent = true ∧ (u.roll r).sentAt = s.present ∧ u.fab.rolling = true := by
  obtain ⟨x, is⟩ : ∃ x, x = (s.at t).updRoll r fun x => { x with resent := true } := ⟨_, rfl⟩
  have row : exec (.pageTimeout r t) s = done ((sendPage x r (s.roll r).page).raise Src.rollPageAgain r.ix.val) := by
    rw [is]
    refine congrArg done ((if_neg (h.guard : ¬ (!(s.at t).fab.rolling || ((s.at t).roll r).ended || !(s.at t).prompting) = true)).trans (if_pos ?_))
    rw [show ((s.at t).roll r).resent = false from first]
    rfl
  refine completes_done row ?_
  rw [roll_congr (settle_fab _), settle_fab, roll_congr (raise_fab _ _ _), raise_fab, roll_congr (sendPage_fab _ _ _), sendPage_keeps,
    roll_updRoll, if_pos rfl, is, roll_updRoll, if_pos rfl]
  exact ⟨rfl, rfl, h.rolling⟩

/-- A roll call that closes partial says so (R184). -/
theorem rollClose_partial (h : s.fab.partial_ = true) : (rollClose s).fab.rolling = false ∧
    EvtSet (rollClose s) FAB_EVT fabPARTIAL ∧ EvtSet (rollClose s) FAB_EVT fabRCDONE := by
  unfold rollClose
  extract_lets l tables raw outs dups cases_ uncast s1 s2 s3 s4
  have base : s2.fab.rolling = false ∧ EvtSet s2 FAB_EVT fabRCDONE := ⟨rfl, evtSet_evt _ _ _ (by decide)⟩
  have third : s3.fab.rolling = false ∧ EvtSet s3 FAB_EVT fabPARTIAL ∧ EvtSet s3 FAB_EVT fabRCDONE := by
    unfold s3
    rw [if_pos h]
    exact ⟨(congrArg FabState.rolling (raise_fab _ _ _)).trans base.1, (evtSet_evt s2 FAB_EVT fabPARTIAL (by decide)).raise _ _,
      (base.2.evt FAB_EVT fabPARTIAL).raise _ _⟩
  have fourth : s4.fab.rolling = false ∧ EvtSet s4 FAB_EVT fabPARTIAL ∧ EvtSet s4 FAB_EVT fabRCDONE := by
    unfold s4
    split
    · exact third
    · obtain ⟨ended, partly, closed⟩ := third
      exact ⟨(congrArg FabState.rolling (raise_fab _ _ _)).trans ended, ((partly.countSel (by decide) _).evt FAB_EVT fabDUP).raise _ _,
        ((closed.countSel (by decide) _).evt FAB_EVT fabDUP).raise _ _⟩
  obtain ⟨ended, partly, closed⟩ := fourth
  split
  · exact ⟨ended, partly, closed⟩
  · exact ⟨(congrArg FabState.rolling (raise_fab _ _ _)).trans ended, (partly.evt FAB_EVT fabUNCAST).raise _ _,
      (closed.evt FAB_EVT fabUNCAST).raise _ _⟩

theorem completes_pageTimeout_close (h : PageOut s r) (again : (s.roll r).resent = true) : Completes (.pageTimeout r t) s fun u =>
    u.fab.rolling = false ∧ (u.reg FAB_EVT).getLsbD fabPARTIAL = true ∧ (u.reg FAB_EVT).getLsbD fabRCDONE = true := by
  obtain ⟨x, is⟩ : ∃ x, x = (s.at t).updFab fun f => { f with partial_ := true } := ⟨_, rfl⟩
  have row : exec (.pageTimeout r t) s = done (rollClose x) := by
    rw [is]
    refine congrArg done ((if_neg (h.guard : ¬ (!(s.at t).fab.rolling || ((s.at t).roll r).ended || !(s.at t).prompting) = true)).trans (if_neg ?_))
    rw [show ((s.at t).roll r).resent = true from again]
    exact Bool.false_ne_true
  obtain ⟨ended, partly, closed⟩ := rollClose_partial (s := x) (by rw [is]; rfl)
  refine completes_done row ⟨?_, partly.settle (by decide), closed.settle (by decide)⟩
  rw [settle_fab]
  exact ended

end Sys2Proof.Machine
end

section
set_option Elab.async false
/-! SUPPORT. Cast notices and the numbers they give (R189-R191), and the obligation about roll calls and casting. -/

namespace Sys2Proof.Machine

variable {s u : State} {t : Nat} {p : List Word}

/-! What a notice leaves of a fetch that begins beside it (R192). -/

/-- The fabric but for its fetch, the kept copies that are due, and the node's place on the ring. -/
def SameCast (f g : FabState) : Prop :=
  g = { f with fetch := g.fetch, keepDue := g.keepDue, pos := g.pos, posFixed := g.posFixed, west := g.west, east := g.east }

theorem SameCast.refl (f : FabState) : SameCast f f := rfl
theorem SameCast.trans {f g k : FabState} (a : SameCast f g) (b : SameCast g k) : SameCast f k := by
  unfold SameCast at *
  rw [b, a]

theorem sameCast_fetchFrom (s : State) (src node rounds : Nat) (keep : Option Port) : SameCast s.fab (fetchFrom s src node rounds keep).fab := by
  rw [fetchFrom_fab]
  rfl

theorem sameCast_keepNext (s : State) : SameCast s.fab (keepNext s).fab := by
  unfold keepNext
  split
  · exact .refl _
  · split
    · exact .refl _
    · extract_lets x
      have waits : SameCast s.fab x.fab := rfl
      split
      · split
        · exact waits.trans (sameCast_fetchFrom _ _ _ _ _)
        · exact waits
      · split
        · exact waits.trans (sameCast_fetchFrom _ _ _ _ _)
        · exact waits

theorem sameCast_keepCheck (s : State) (n : Nat) (gen : Word) : SameCast s.fab (keepCheck s n gen).fab := by
  unfold keepCheck
  extract_lets due ask x
  have west : SameCast s.fab x.fab := by
    unfold x
    split <;> rfl
  refine SameCast.trans ?_ (sameCast_keepNext _)
  split
  · exact west.trans rfl
  · exact west

theorem sameCast_placeNode (s : State) : SameCast s.fab (placeNode s).fab := rfl

/-- What a notice of this node's own number writes (R189, R190). -/
theorem castApply_own (own : p.take 4 = ownUid) (numbered : fld (wAt p 4) 11 0 ≠ 0) (more : bitOf (wAt p 9) 12 = false) :
    (castApply s p).fab.adopt = some (fld (wAt p 4) 11 0, bitOf (wAt p 9) 14, bitOf (wAt p 9) 13) ∧
    (castApply s p).fab.hA = fld (wAt p 5) 11 0 ∧ (castApply s p).fab.hB = fld (wAt p 6) 11 0 ∧ (castApply s p).fab.loop = fld (wAt p 7) 11 0 ∧
    (⟨fld (wAt p 4) 11 0, fld (wAt p 5) 11 0, fld (wAt p 6) 11 0, true⟩ : Dest) ∈ (castApply s p).fab.dests := by
  unfold castApply
  extract_lets n ha hb isOwn drop s1 s2
  have ours : isOwn = true := decide_eq_true own
  have same : s2 = s1 := if_neg (by rw [more]; exact Bool.false_ne_true)
  have kept : SameCast s1.fab (keepCheck (placeNode s2) n (wAt p 8)).fab := by
    rw [same]
    exact (sameCast_placeNode s1).trans (sameCast_keepCheck _ _ _)
  rw [kept]
  refine ⟨if_pos ours, if_pos ours, if_pos ours, rfl, ?_⟩
  change _ ∈ (if n = 0 then _ else _ : List Dest)
  rw [if_neg numbered]
  exact List.mem_append_right _ (List.mem_singleton_self _)

theorem completes_castNotice (bright : s.darkPath = false) (own : p.take 4 = ownUid) (numbered : fld (wAt p 4) 11 0 ≠ 0)
    (more : bitOf (wAt p 9) 12 = false) : Completes (.castNotice p t) s fun u =>
      u.fab.adopt = some (fld (wAt p 4) 11 0, bitOf (wAt p 9) 14, bitOf (wAt p 9) 13) ∧ u.fab.hA = fld (wAt p 5) 11 0 ∧
      u.fab.hB = fld (wAt p 6) 11 0 ∧ u.fab.loop = fld (wAt p 7) 11 0 ∧
      (⟨fld (wAt p 4) 11 0, fld (wAt p 5) 11 0, fld (wAt p 6) 11 0, true⟩ : Dest) ∈ u.fab.dests := by
  have row : exec (.castNotice p t) s = done (castApply (s.at t) p) :=
    congrArg done (delivered_of_bright (s := s.at t) bright fun s => castApply s p)
  refine completes_done row ?_
  rw [settle_fab]
  exact castApply_own own numbered more

/-! The prompter's notices (R189). -/

/-- Without kept copies no notice asks for one. -/
theorem keepCheck_off (off15 : s.bit FAB_FETCH_CTRL 15 = false) (off14 : s.bit FAB_FETCH_CTRL 14 = false) (n : Nat) (gen : Word) :
    ∃ l, keepCheck s n gen = s.updFab fun f => { f with keepDue := l } := by
  have idle : keepCheck s n gen = keepNext s := by
    unfold keepCheck
    extract_lets due ask x
    have west : x = s := if_neg (by unfold due; rw [off15]; exact Bool.false_ne_true)
    have east : ¬ due 14 s.fab.east s.fab.keptE = true := by unfold due; rw [off14]; exact Bool.false_ne_true
    rw [if_neg east, west]
  rw [idle]
  unfold keepNext
  split
  · exact ⟨_, rfl⟩
  · split
    · exact ⟨_, rfl⟩
    · extract_lets x
      split
      · exact ⟨_, if_neg (by rw [off15]; exact Bool.false_ne_true)⟩
      · exact ⟨_, if_neg (by rw [off14]; exact Bool.false_ne_true)⟩

/-- Without kept copies a notice changes the fabric alone. -/
theorem castApply_off (off15 : s.bit FAB_FETCH_CTRL 15 = false) (off14 : s.bit FAB_FETCH_CTRL 14 = false) (p : List Word) :
    ∃ f, castApply s p = { s with fab := f } ∧ f.castQueue = s.fab.castQueue := by
  unfold castApply
  extract_lets n ha hb own drop s1 s2
  have same : s2 = { s with fab := s2.fab } ∧ s2.fab.castQueue = s.fab.castQueue := by
    unfold s2
    split <;> exact ⟨rfl, rfl⟩
  obtain ⟨only, queue⟩ := same
  have bit (i : Nat) : (placeNode s2).bit FAB_FETCH_CTRL i = s.bit FAB_FETCH_CTRL i := by
    rw [only]
    rfl
  obtain ⟨l, is⟩ := keepCheck_off (s := placeNode s2) ((bit 15).trans off15) ((bit 14).trans off14) n (wAt p 8)
  rw [is, only]
  exact ⟨_, rfl, queue⟩

theorem completes_castNoticeSend {o : CastOut} {rest : List CastOut} (prompts : s.prompting = true) (may : MayBroadcast s)
    (first : s.fab.castQueue = o :: rest) (off15 : s.bit FAB_FETCH_CTRL 15 = false) (off14 : s.bit FAB_FETCH_CTRL 14 = false) :
    Completes (.castNoticeSend t) s fun u => Broadcast s u 1 0x11 (castWords (s.at t) o rest.isEmpty) ∧ u.fab.castQueue = rest := by
  obtain ⟨x, is⟩ : ∃ x, x = (s.at t).updFab fun f => { f with castQueue := rest } := ⟨_, rfl⟩
  obtain ⟨ws, words⟩ : ∃ ws, ws = castWords (s.at t) o rest.isEmpty := ⟨_, rfl⟩
  have row : exec (.castNoticeSend t) s = done (castApply (broadcast x 1 0x11 ws) ws) := by
    refine congrArg done ?_
    rw [castSend, show (s.at t).fab.castQueue = o :: rest from first]
    refine (if_neg (by rw [show (s.at t).prompting = true from prompts]; exact Bool.false_ne_true)).trans ?_
    rw [is, words]
  have mayX : MayBroadcast x := by rw [is]; exact may
  have ctrl (i : Nat) : (broadcast x 1 0x11 ws).bit FAB_FETCH_CTRL i = s.bit FAB_FETCH_CTRL i := by
    have same := keepsRegs_broadcast mayX (.inl (by decide)) (cls := 1) (sub := 0x11) (payload := ws) (by decide) FAB_FETCH_CTRL 0 (by decide) (by decide)
    refine congrArg (bitOf · i) (same.trans ?_)
    rw [is]
    rfl
  obtain ⟨f, only, queue⟩ := castApply_off ((ctrl 15).trans off15) ((ctrl 14).trans off14) ws
  have hub := hubOnly_broadcast x 1 0x11 ws
  have sent := broadcast_settle mayX (.inl (by decide)) (cls := 1) (sub := 0x11) (payload := ws) (by decide)
    (u := castApply (broadcast x 1 0x11 ws) ws) (by rw [only]) (by rw [only, hub])
  refine completes_done row ⟨?_, ?_⟩
  · rw [← words]
    rw [is] at sent ⊢
    exact sent
  · rw [settle_fab, only]
    refine queue.trans ?_
    rw [hub, is]
    rfl

/-! The number adopted (R187, R189, R191, R198). -/

/-- A change of number, counted and shown, whether or not a fetch begins again. -/
theorem numberChange_keeps (s : State) (n : Nat) (drop anchor : Bool) :
    (numberChange s n drop anchor).fab.node = n ∧ (numberChange s n drop anchor).fab.adopt = s.fab.adopt ∧
    (numberChange s n drop anchor).fab.cast = decide (n ≠ 0) ∧
    (numberChange s n drop anchor).reg FAB_NUMCHG = bumpW (s.reg FAB_NUMCHG) 1 ∧ EvtSet (numberChange s n drop anchor) FAB_EVT fabNUMCHG := by
  unfold numberChange
  extract_lets s1 s2 s3 wing s5
  have counted : s2.fab = s1.fab ∧ s2.reg FAB_NUMCHG = bumpW (s.reg FAB_NUMCHG) 1 ∧ EvtSet s2 FAB_EVT fabNUMCHG := by
    refine ⟨raise_fab _ _ _, ?_, ((evtSet_evt s1 FAB_EVT fabNUMCHG (by decide)).bump (by decide)).raise _ _⟩
    refine (reg_congr (raise_regs _ _ _) _).trans ((reg_bump_self _ _).trans ?_)
    rw [reg_evt_ne _ _ (by decide)]
    rfl
  have dropped : s5.fab = s1.fab ∧ s5.reg FAB_NUMCHG = bumpW (s.reg FAB_NUMCHG) 1 ∧ EvtSet s5 FAB_EVT fabNUMCHG := by
    obtain ⟨fab, reg, evt⟩ := counted
    unfold s5 s3
    split
    · exact ⟨fab, (reg_evt_ne _ _ (by decide)).trans reg, evt.evt _ _⟩
    · exact ⟨fab, reg, evt⟩
  obtain ⟨fab, reg, evt⟩ := dropped
  split
  · have only := retireOnly_fetchFrom s5 1 s5.fab.node 0 none
    have kept : (fetchBegin s5).fab.node = s5.fab.node ∧ (fetchBegin s5).fab.adopt = s5.fab.adopt ∧ (fetchBegin s5).fab.cast = s5.fab.cast := by
      rw [fetchBegin, fetchFrom_fab]
      exact ⟨rfl, rfl, rfl⟩
    obtain ⟨node, adopt, cast⟩ := kept
    rw [node, adopt, cast, fab]
    exact ⟨rfl, rfl, rfl, (only.keeps FAB_NUMCHG 0 (by decide) (by decide)).trans reg, only.shows _ evt⟩
  · rw [fab]
    exact ⟨rfl, rfl, rfl, reg, evt⟩

/-- The cast list's own entry for the node names the number. -/
def namedBySheet (n : Nat) (f : FabState) : Bool := match f.tables with
  | none => false
  | some t => decide (n ≠ 0) && decide (t.node = n)

theorem completes_numberAdopt {n : Nat} {drop anchor : Bool} (given : s.fab.adopt = some (n, drop, anchor)) (other : n ≠ s.fab.node)
    (plain : s.cmp.inpub = none) : Completes (.numberAdopt t) s fun u =>
      u.fab.node = n ∧ u.fab.adopt = none ∧ u.fab.cast = decide (n ≠ 0) ∧ u.reg FAB_NUMCHG = bumpW (s.reg FAB_NUMCHG) 1 ∧
      (u.reg FAB_EVT).getLsbD fabNUMCHG = true := by
  obtain ⟨x, is⟩ : ∃ x, x = jrnField ((s.at t).updFab fun f => { f with adopt := none }) FAB_NODE 0 (wd n) := ⟨_, rfl⟩
  have same : x.regs = s.regs ∧ x.fab.adopt = none := by rw [is]; exact ⟨rfl, rfl⟩
  have taken : cmpNumber (s.at t) n = (n, s.at t) :=
    if_neg (by rw [show (s.at t).cmp.inpub = none from plain]; exact Bool.false_ne_true)
  have row : exec (.numberAdopt t) s = done ((numberChange x n drop anchor).updFab fun f =>
      { f with castOk := namedBySheet n f }) := by
    refine congrArg done ?_
    rw [numberAdopt, show (s.at t).fab.adopt = some (n, drop, anchor) from given]
    dsimp only
    rw [taken]
    dsimp only
    rw [if_pos (show n ≠ (s.at t).fab.node from other), is]
    rfl
  obtain ⟨node, adopt, cast, reg, evt⟩ := numberChange_keeps x n drop anchor
  refine completes_done row ?_
  have told := (evt.congr (u := (numberChange x n drop anchor).updFab fun f =>
      { f with castOk := namedBySheet n f }) rfl).settle (by decide)
  refine ⟨?_, ?_, ?_, ?_, told⟩
  · rw [settle_fab]; exact node
  · rw [settle_fab]; exact adopt.trans same.2
  · rw [settle_fab]; exact cast
  · rw [reg_settle_of_not_closing _ FAB_NUMCHG (by decide)]
    exact reg.trans (congrArg (bumpW · 1) (reg_congr same.1 _))

/-- Settles O22: a roll call and its pages, case by case, and the notices and numbers of casting. -/
theorem rollCallsAndCasting : Obligations.RollCallsAndCasting := by
  unfold Obligations.RollCallsAndCasting
  intro r t s
  refine ⟨fun prompts idle => ⟨completes_rcStart prompts idle, fun due => completes_rollCallDue due prompts idle⟩,
    fun f other bright carries type sub straight length within open_ =>
      completes_rollPage ⟨other, bright, carries, type, sub, straight, length, within, open_⟩,
    fun p ring prompts rolling going call page => ?returned, fun prompts rolling going => ?missing,
    fun o rest prompts may first off15 off14 => completes_castNoticeSend prompts may first off15 off14,
    fun p bright own numbered more => completes_castNotice bright own numbered more,
    fun n drop anchor given other plain => completes_numberAdopt given other plain⟩
  case returned =>
    have awaited : PageAwaited s r p := ⟨ring, prompts, rolling, going, call, page⟩
    exact ⟨completes_pageReturn_full awaited, completes_pageReturn_last awaited⟩
  case missing =>
    have out : PageOut s r := ⟨prompts, rolling, going⟩
    exact ⟨completes_pageTimeout_again out, completes_pageTimeout_close out⟩

end Sys2Proof.Machine
end

section
set_option Elab.async false
/-! SUPPORT. Fetching a stagebook (R192-R194). -/

namespace Sys2Proof.Machine

variable {s u x : State} {t : Nat} {p : List Word}

/-! The sources a fetch asks (R193, R194). -/

/-- A fetch asks a source from the beginning. -/
def AsksSource (u : State) (src node rounds : Nat) : Prop :=
  u.fab.fetch = { src := src, state := 1, rounds := rounds, frames := 0, offset := 0, words := [], node := node, keep := none }

theorem completes_fetchFrom {c : Instr} {src node rounds : Nat} (row : exec c s = done (fetchFrom x src node rounds none)) :
    Completes c s fun u => AsksSource u src node rounds := by
  refine completes_done row ?_
  unfold AsksSource
  rw [settle_fab, fetchFrom_fab]

theorem fetchWanted_at (s : State) (t : Nat) : fetchWanted (s.at t) = fetchWanted s := rfl

theorem completes_fetchStart (wanted : fetchWanted s = true) (idle : s.fab.fetch.state = 0) :
    Completes (.fetchStart t) s fun u => AsksSource u 1 s.fab.node 0 :=
  completes_fetchFrom (congrArg done (if_pos ⟨wanted, idle⟩ : (if fetchWanted (s.at t) = true ∧ (s.at t).fab.fetch.state = 0
    then fetchBegin (s.at t) else keepNext (s.at t)) = _))

theorem completes_fetchRestart (numbered : s.fab.node ≠ 0) : Completes (.fetchRestart t) s fun u => AsksSource u 1 s.fab.node 0 :=
  completes_fetchFrom (congrArg done (if_neg (show ¬ (s.at t).fab.node = 0 from numbered)))

theorem completes_fetchRestart_none (none_ : s.fab.node = 0) : Completes (.fetchRestart t) s fun u => u.fab.fetch = .init := by
  refine completes_done (congrArg done (if_pos (show (s.at t).fab.node = 0 from none_))) ?_
  rw [settle_fab]
  rfl

theorem completes_fetchRoundWait (waits : s.fab.fetch.state = 3) : Completes (.fetchRoundWait t) s fun u =>
    AsksSource u 1 s.fab.fetch.node s.fab.fetch.rounds :=
  completes_fetchFrom (congrArg done (if_pos (show (s.at t).fab.fetch.state = 3 from waits)))

/-- A fetch of the node's own stagebook that runs. -/
structure FetchRuns (s : State) : Prop where
  runs : s.fab.fetch.state = 1 ∨ s.fab.fetch.state = 2
  own : s.fab.fetch.keep = none

theorem FetchRuns.busy (h : FetchRuns s) : ¬ (s.fab.fetch.state = 0 ∨ s.fab.fetch.state = 3) := by
  rcases h.runs with h | h <;> omega

theorem fetchNext_source (h : FetchRuns s) (more : s.fab.fetch.src < 3) :
    fetchNext s = fetchFrom s (s.fab.fetch.src + 1) s.fab.fetch.node s.fab.fetch.rounds none := by
  unfold fetchNext
  extract_lets f
  rw [if_neg h.busy, if_neg (by rw [show f.keep = none from h.own]; exact Bool.false_ne_true), if_pos more]

theorem completes_fetchTimeout (h : FetchRuns s) (more : s.fab.fetch.src < 3) : Completes (.fetchTimeout t) s fun u =>
    AsksSource u (s.fab.fetch.src + 1) s.fab.fetch.node s.fab.fetch.rounds :=
  completes_fetchFrom (congrArg done (fetchNext_source (s := s.at t) ⟨h.runs, h.own⟩ more))

theorem completes_fetchTimeout_last (h : FetchRuns s) (last : 3 ≤ s.fab.fetch.src) : Completes (.fetchTimeout t) s fun u =>
    u.fab.fetch.state = 3 ∧ u.fab.fetch.rounds = satAdd 15 s.fab.fetch.rounds 1 ∧ (u.reg FAB_EVT).getLsbD fabFETCHFAIL = true := by
  obtain ⟨x, is⟩ : ∃ x, x = (s.at t).updFab fun f => { f with fetch :=
    { s.fab.fetch with src := 0, state := 3, rounds := satAdd 15 s.fab.fetch.rounds 1, frames := 0, words := [] } } := ⟨_, rfl⟩
  have row : exec (.fetchTimeout t) s = done ((x.evt FAB_EVT fabFETCHFAIL).raise Src.fetchFailed 0) := by
    rw [is]
    have own : ¬ s.fab.fetch.keep.isSome = true := by rw [h.own]; exact Bool.false_ne_true
    exact congrArg done ((if_neg h.busy).trans ((if_neg own).trans (if_neg (Nat.not_lt.2 last))))
  refine completes_done row ⟨?_, ?_, ((evtSet_evt x FAB_EVT fabFETCHFAIL (by decide)).raise _ _).settle (by decide)⟩
  · rw [settle_fab, raise_fab, is]; rfl
  · rw [settle_fab, raise_fab, is]; rfl

theorem completes_fetchEnd (h : FetchRuns s) {source : Fin 4096} {status : Word} {total : DWord} {content : Option Stagebook}
    (bright : s.darkPath = false) (asked : source.val = fetchSource s) (fails : status ≠ 0) (more : s.fab.fetch.src < 3) :
    Completes (.fetchEnd source status total content t) s fun u =>
      AsksSource u (s.fab.fetch.src + 1) s.fab.fetch.node s.fab.fetch.rounds := by
  have failed : status.toNat ≠ 0 := fun zero => fails (BitVec.eq_of_toNat_eq zero)
  have running : ¬ (!fetchRuns (s.at t) || decide (source.val ≠ fetchSource (s.at t))) = true := by
    have runs : fetchRuns (s.at t) = true := by
      rw [fetchRuns, ← Bool.decide_or]
      exact decide_eq_true h.runs
    have same : decide (source.val ≠ fetchSource (s.at t)) = false := decide_eq_false fun other => other asked
    rw [runs, same]
    exact Bool.false_ne_true
  have next : fetchEnd (s.at t) source.val status.toNat total.toNat content = fetchNext (s.at t) := by
    unfold fetchEnd
    extract_lets f
    rw [if_neg running, if_pos (.inl failed)]
  exact completes_fetchFrom (congrArg done ((delivered_of_bright (s := s.at t) bright _).trans
    (next.trans (fetchNext_source (s := s.at t) ⟨h.runs, h.own⟩ more))))

theorem completes_fetchData (h : FetchRuns s) {source : Fin 4096} (bright : s.darkPath = false) (asked : source.val = fetchSource s)
    (next : ofWords (p.take 2) = s.fab.fetch.offset) : Completes (.fetchData source p t) s fun u =>
      u.fab.fetch.words = s.fab.fetch.words ++ p.drop 2 ∧ u.fab.fetch.state = 2 ∧
      u.fab.fetch.frames = satAdd 255 s.fab.fetch.frames 1 ∧ u.fab.fetch.offset = s.fab.fetch.offset + (p.length - 2) := by
  have running : ¬ ((s.fab.fetch.state ≠ 1 ∧ s.fab.fetch.state ≠ 2) ∨ source.val ≠ fetchSource (s.at t)) := by
    rintro (⟨not1, not2⟩ | other)
    · exact h.runs.elim not1 not2
    · exact other asked
  have row : exec (.fetchData source p t) s = done ((s.at t).updFab fun f =>
      { f with fetch := { s.fab.fetch with state := 2, frames := satAdd 255 s.fab.fetch.frames 1, words := s.fab.fetch.words ++ p.drop 2
                                           offset := ofWords (p.take 2) + (p.length - 2) } }) := by
    refine congrArg done ((delivered_of_bright (s := s.at t) bright _).trans ?_)
    exact (if_neg running).trans (if_neg fun other => other next)
  refine completes_done row ?_
  rw [settle_fab]
  exact ⟨rfl, rfl, rfl, congrArg (· + _) next⟩

end Sys2Proof.Machine
end

section
set_option Elab.async false
/-! SUPPORT. A stagebook served to another node (R193, R477). -/

namespace Sys2Proof.Machine

variable {s u x : State} {t n : Nat} {p : List Word}

/-! A flow keeps its ring (R165). -/

/-- The flow's key. -/
def isFlow (ep cls : Nat) (dest : Word) (f : Flow) : Bool := decide (f.ep = ep) && decide (f.dest = dest) && decide (f.cls = cls)

/-- The flow of a frame that none is kept for. -/
def freshFlow (s : State) (ep cls : Nat) (dest : Word) : Flow := ⟨ep, dest, cls, freshRing s ep cls dest, false, s.present, none⟩

/-- A flow that has been pinned is found again, on the ring it was pinned to. -/
theorem flowOf_pinFlow (s : State) (ep cls : Nat) (dest : Word) :
    ∃ f, flowOf (pinFlow s ep cls dest).2 ep cls dest = some f ∧ f.ring = (pinFlow s ep cls dest).1 := by
  unfold pinFlow
  cases found : flowOf s ep cls dest with
  | some f =>
    have same : (isFlow ep cls dest ∘ fun g : Flow => if g = f then { g with lastCycle := s.present } else g) = isFlow ep cls dest := by
      funext g
      simp only [Function.comp]
      split <;> rfl
    have again : (s.sw.flows.map fun g => if g = f then { g with lastCycle := s.present } else g).find? (isFlow ep cls dest) =
        some { f with lastCycle := s.present } := by
      rw [List.find?_map, same, show s.sw.flows.find? (isFlow ep cls dest) = some f from found]
      simp
    exact ⟨_, again, rfl⟩
  | none =>
    have mine : isFlow ep cls dest (freshFlow s ep cls dest) = true := by simp [isFlow, freshFlow]
    have again : (s.sw.flows ++ [freshFlow s ep cls dest]).find? (isFlow ep cls dest) = some (freshFlow s ep cls dest) := by
      rw [List.find?_append, show s.sw.flows.find? (isFlow ep cls dest) = none from found, List.find?_cons_of_pos mine]
      rfl
    exact ⟨_, again, rfl⟩

theorem pinFlow_ring_of_found {ep cls : Nat} {dest : Word} {f : Flow} (h : flowOf s ep cls dest = some f) : (pinFlow s ep cls dest).1 = f.ring := by
  unfold pinFlow
  rw [h]

theorem flowOf_congr (h : u.sw.flows = s.sw.flows) (ep cls : Nat) (dest : Word) : flowOf u ep cls dest = flowOf s ep cls dest := by
  unfold flowOf
  rw [h]

/-! A frame of the node's own units to one node (R165). -/

/-- The destination word of a node of the own ring. -/
def ringDest (s : State) (n : Nat) : Word := putFld s.ringNo 15 12 ||| putFld n 11 0

/-- The entry of a notice or a fetch frame to one node. -/
def unitEntry (s : State) (cls sub n : Nat) (payload : List Word) : QEntry :=
  ⟨Frame.mk' cls 1 sub (ringDest s n) s.srcWord 0 payload, 20, s.now, 0, none, 0⟩

/-- What a frame to one node does to the switch: one queue of one ring grows. -/
structure Leaves (s u : State) (r : Ring) (cls : Nat) (es : List QEntry) : Prop where
  only : SwitchOnly s u
  roads : SameRoads s u
  queue (p : Fin 20) (c : Nat) : u.queue p c = s.queue p c ++ if p = ringPort r ∧ c % 4 = cls % 4 then es else []

theorem Leaves.refl (s : State) (r : Ring) (cls : Nat) : Leaves s s r cls [] :=
  ⟨.refl s, ⟨rfl, rfl, rfl⟩, fun p c => by rw [ite_self, List.append_nil]⟩

theorem Leaves.trans {r : Ring} {cls : Nat} {es fs : List QEntry} (h : Leaves s x r cls es) (g : Leaves x u r cls fs) :
    Leaves s u r cls (es ++ fs) := by
  refine ⟨h.only.trans g.only, ⟨g.roads.links.trans h.roads.links, g.roads.held.trans h.roads.held, g.roads.down.trans h.roads.down⟩, fun p c => ?_⟩
  rw [g.queue, h.queue]
  split <;> simp

/-- The node may send to the node n. -/
structure MaySend (s : State) (n : Nat) : Prop where
  numbered : s.fab.node ≠ 0
  single : n < 4000
  ring : s.ringNo < 16
  up : RingsUp s

theorem MaySend.after (h : MaySend s n) (only : SwitchOnly s u) (roads : SameRoads s u) : MaySend u n := by
  refine ⟨?_, h.single, ?_, roads.up h.up⟩
  · rw [only]; exact h.numbered
  · rw [only]; exact h.ring

theorem sendTo_pinned (may : MaySend s n) {cls sub : Nat} (low : cls % 4 ≠ 0) (payload : List Word) :
    sendTo s 20 cls 1 sub n payload = enqueue (pinFlow s 0 (cls % 4) (ringDest s n)).2 (ringPort (pinFlow s 0 (cls % 4) (ringDest s n)).1)
      (unitEntry s cls sub n payload) false := by
  obtain ⟨f, is⟩ : ∃ f, f = (unitEntry s cls sub n payload).frame := ⟨_, rfl⟩
  have dest := fld_dest s.ringNo n
  have single := may.single
  rw [Nat.mod_eq_of_lt may.ring, Nat.mod_eq_of_lt (show n < 4096 by omega)] at dest
  have here : f.dring = s.ringNo := by rw [is]; exact dest.1
  have node : f.dnode = n := by rw [is]; exact dest.2
  have classed : f.cls = cls % 4 := by rw [is]; exact cls_mk _ _ _ _ _ _ _
  have word : f.w1 = ringDest s n := by rw [is]; rfl
  have fits : ¬ (f.cls = 0 ∧ f.payload.length > 32) := fun h => low (classed ▸ h.1)
  have one : bothRings s f = false := by
    unfold bothRings multi
    rw [node, decide_eq_false (by omega)]
    rfl
  have target : ringTarget s f.w1 = some f.dnode := if_pos here
  obtain ⟨queues, held, down, regs, links⟩ := pinFlow_keeps s 0 f.cls f.w1
  have open_ : portOff (pinFlow s 0 f.cls f.w1).2 (ringPort (pinFlow s 0 f.cls f.w1).1) = false :=
    ((SameRoads.mk links held down).up may.up).open_ _
  have sent : sendFrame s 20 0 f none 0 =
      submit (pinFlow s 0 f.cls f.w1).2 (ringPort (pinFlow s 0 f.cls f.w1).1) ⟨f, 20, s.now, 0, none, 0⟩ := by
    unfold sendFrame
    extract_lets e
    rw [one, if_neg (by decide), target]
    exact if_neg fun h => h.1 here
  have frame : sendTo s 20 cls 1 sub n payload = sendFrame s 20 0 f none 0 := by
    rw [is]
    exact if_neg may.numbered
  rw [frame, sent, submit_of_open (e := ⟨f, 20, s.now, 0, none, 0⟩) fits open_, classed, word, is]
  rfl

/-- A frame leaves on its flow's ring, to which the flow stays pinned. -/
theorem leaves_sendTo (may : MaySend s n) {cls sub : Nat} (low : cls % 4 ≠ 0) (payload : List Word) :
    Leaves s (sendTo s 20 cls 1 sub n payload) (pinFlow s 0 (cls % 4) (ringDest s n)).1 cls [unitEntry s cls sub n payload] ∧
    (pinFlow (sendTo s 20 cls 1 sub n payload) 0 (cls % 4) (ringDest s n)).1 = (pinFlow s 0 (cls % 4) (ringDest s n)).1 := by
  obtain ⟨queues, held, down, regs, links⟩ := pinFlow_keeps s 0 (cls % 4) (ringDest s n)
  obtain ⟨f, found, ring⟩ := flowOf_pinFlow s 0 (cls % 4) (ringDest s n)
  have only := switchOnly_pinFlow s 0 (cls % 4) (ringDest s n)
  rw [sendTo_pinned may low]
  generalize (pinFlow s 0 (cls % 4) (ringDest s n)).1 = r at *
  generalize (pinFlow s 0 (cls % 4) (ringDest s n)).2 = x at *
  have classed : (unitEntry s cls sub n payload).frame.cls = cls % 4 := cls_mk _ _ _ _ _ _ _
  obtain ⟨onlyE, roads, _, _, _⟩ := joins_enqueue x r (unitEntry s cls sub n payload)
  have flows : (enqueue x (ringPort r) (unitEntry s cls sub n payload) false).sw.flows = x.sw.flows := by rw [enqueue_sw]; rfl
  refine ⟨⟨only.trans onlyE, ⟨roads.links.trans links, roads.held.trans held, roads.down.trans down⟩, fun p c => ?_⟩, ?_⟩
  · have before (q : Fin 20) (d : Nat) : x.queue q d = s.queue q d := by rw [State.queue, queues]; rfl
    rw [queue_congr (enqueue_sw _ _ _ _), queue_updQueue, classed, Nat.mod_mod]
    split
    next same =>
      obtain ⟨rfl, cl⟩ := same
      have one : x.queue (ringPort r) (cls % 4) = s.queue (ringPort r) c := by
        rw [before, State.queue, State.queue, queueIx_inj.2 ⟨rfl, (Nat.mod_mod cls 4).trans cl.symm⟩]
      rw [one]
      rfl
    next => rw [before, List.append_nil]
  · rw [pinFlow_ring_of_found ((flowOf_congr flows _ _ _).trans found), ring]

/-! The words of a stagebook on their way (R193). -/

/-- A fetch data frame for the node n. -/
def IsFetchData (s : State) (n : Nat) (e : QEntry) : Prop :=
  e.frame = Frame.mk' 3 1 0x13 (ringDest s n) s.srcWord 0 e.frame.payload ∧ e.frame.payload.length ≤ 512

theorem IsFetchData.before {e : QEntry} (h : IsFetchData u n e) (only : SwitchOnly s u) : IsFetchData s n e := by
  unfold IsFetchData at *
  rw [only] at h
  exact h

/-- All the frames of a stagebook leave on one ring, in order, with all its words. -/
theorem leaves_sendData : ∀ (k : Nat) {s : State} (off : Nat) (ws : List Word), MaySend s n → ws.length ≤ 510 * k →
    ∃ es, Leaves s (sendData k s n off ws) (pinFlow s 0 3 (ringDest s n)).1 3 es ∧
      (es.flatMap fun x => x.frame.payload.drop 2) = ws ∧ ∀ x ∈ es, IsFetchData s n x
  | 0, s, off, ws, _, short => by
    have none_ : ws = [] := List.eq_nil_of_length_eq_zero (by omega)
    exact ⟨[], .refl _ _ _, by rw [none_]; rfl, by simp⟩
  | k + 1, s, off, ws, may, short => by
    rw [sendData]
    by_cases out : ws.isEmpty = true
    · rw [if_pos out]
      exact ⟨[], .refl _ _ _, by rw [List.isEmpty_iff.1 out]; rfl, by simp⟩
    · rw [if_neg out]
      obtain ⟨first, pinned⟩ := leaves_sendTo may (cls := 3) (sub := 0x13) (by decide) (toWords 2 off ++ ws.take 510)
      obtain ⟨x, is⟩ : ∃ x, x = sendTo s 20 3 1 0x13 n (toWords 2 off ++ ws.take 510) := ⟨_, rfl⟩
      rw [← is] at first pinned ⊢
      have dest : ringDest x n = ringDest s n := by rw [first.only]; rfl
      obtain ⟨es, rest, words, frames⟩ := leaves_sendData k (off + 510) (ws.drop 510) (may.after first.only first.roads)
        (by rw [List.length_drop]; omega)
      rw [dest, pinned] at rest
      refine ⟨unitEntry s 3 0x13 n (toWords 2 off ++ ws.take 510) :: es, first.trans rest, ?_, ?_⟩
      · rw [List.flatMap_cons, words]
        exact List.take_append_drop 510 ws
      · intro e he
        rcases List.mem_cons.1 he with rfl | he
        · refine ⟨rfl, ?_⟩
          change (toWords 2 off ++ ws.take 510).length ≤ 512
          rw [List.length_append, List.length_take, show (toWords 2 off).length = 2 from rfl]
          omega
        · exact (frames e he).before first.only

/-! The request served (R193, R477). -/

theorem heldStagebook_at (s : State) (t n : Nat) : heldStagebook (s.at t) n = heldStagebook s n := by
  unfold heldStagebook
  simp only [words_congr (at_mem s t)]
  rfl

theorem fetchServe_held {ws : List Word} (held : heldStagebook s (fld (wAt p 0) 11 0) = some ws) : fetchServe s n p =
    sendTo (sendData (ws.length / 510 + 1) s n 0 ws) 20 1 1 0x14 n ([0] ++ toWords 2 ws.length) := by
  unfold fetchServe
  extract_lets k
  rw [show heldStagebook s k = some ws from held]

/-- The words of a held stagebook, then the end frame (R193). -/
theorem completes_fetchRequest_held {n : Fin 4096} {ws : List Word} (bright : s.darkPath = false) (may : MaySend s n.val)
    (held : heldStagebook s (fld (wAt p 0) 11 0) = some ws) : Completes (.fetchRequest n p t) s fun u =>
      (∃ r es, u.queue (ringPort r) 3 = s.queue (ringPort r) 3 ++ es ∧ (es.flatMap fun x => x.frame.payload.drop 2) = ws ∧
        ∀ x ∈ es, IsFetchData s n.val x) ∧
      ∃ r e, u.queue (ringPort r) 1 = s.queue (ringPort r) 1 ++ [e] ∧
        e.frame = Frame.mk' 1 1 0x14 (ringDest s n.val) s.srcWord 0 ([0] ++ toWords 2 ws.length) := by
  have mayAt : MaySend (s.at t) n.val := ⟨may.numbered, may.single, may.ring, may.up⟩
  have row : exec (.fetchRequest n p t) s = done (sendTo (sendData (ws.length / 510 + 1) (s.at t) n.val 0 ws) 20 1 1 0x14 n.val
      ([0] ++ toWords 2 ws.length)) :=
    congrArg done ((delivered_of_bright (s := s.at t) bright _).trans (fetchServe_held ((heldStagebook_at s t _).trans held)))
  obtain ⟨es, data, words, frames⟩ := leaves_sendData (ws.length / 510 + 1) 0 ws mayAt (by omega)
  obtain ⟨x, is⟩ : ∃ x, x = sendData (ws.length / 510 + 1) (s.at t) n.val 0 ws := ⟨_, rfl⟩
  rw [← is] at row data
  obtain ⟨last, _⟩ := leaves_sendTo (mayAt.after data.only data.roads) (cls := 1) (sub := 0x14) (by decide) ([0] ++ toWords 2 ws.length)
  have entry : (unitEntry x 1 0x14 n.val ([0] ++ toWords 2 ws.length)).frame =
      Frame.mk' 1 1 0x14 (ringDest s n.val) s.srcWord 0 ([0] ++ toWords 2 ws.length) := by
    rw [data.only]
    rfl
  refine completes_done row ⟨⟨(pinFlow (s.at t) 0 3 (ringDest (s.at t) n.val)).1, es, ?_, words, frames⟩,
    (pinFlow x 0 (1 % 4) (ringDest x n.val)).1, unitEntry x 1 0x14 n.val ([0] ++ toWords 2 ws.length), ?_, entry⟩
  · rw [queue_congr (settle_sw _), last.queue, data.queue, if_pos ⟨rfl, rfl⟩,
      if_neg (show ¬ (ringPort _ = ringPort _ ∧ 3 % 4 = 1 % 4) from fun h => absurd h.2 (by decide)), List.append_nil]
    rfl
  · rw [queue_congr (settle_sw _), last.queue, data.queue,
      if_neg (show ¬ (ringPort _ = ringPort _ ∧ 1 % 4 = 3 % 4) from fun h => absurd h.2 (by decide)), List.append_nil, if_pos ⟨rfl, rfl⟩]
    rfl

/-- A request for a stagebook that the node does not hold. -/
theorem fetchServe_none (held : heldStagebook s (fld (wAt p 0) 11 0) = none)
    (alone : s.prompting = false ∨ s.reg HST_LIB_IP_H = 0 ∧ s.reg HST_LIB_IP_L = 0) : fetchServe s n p = sendTo s 20 1 1 0x14 n [1] := by
  unfold fetchServe
  extract_lets k none_ into
  rw [show heldStagebook s k = none from held]
  dsimp only
  rcases alone with other | noLibrary
  · rw [if_pos (by rw [other]; rfl)]
  · by_cases prompts : s.prompting = true
    · rw [if_neg (by rw [prompts]; exact Bool.false_ne_true), if_pos noLibrary]
    · rw [if_pos (by rw [Bool.not_eq_true] at prompts; rw [prompts]; rfl)]

theorem completes_fetchRequest_none {n : Fin 4096} (bright : s.darkPath = false) (may : MaySend s n.val)
    (held : heldStagebook s (fld (wAt p 0) 11 0) = none)
    (alone : s.prompting = false ∨ s.reg HST_LIB_IP_H = 0 ∧ s.reg HST_LIB_IP_L = 0) : Completes (.fetchRequest n p t) s fun u =>
      ∃ r e, u.queue (ringPort r) 1 = s.queue (ringPort r) 1 ++ [e] ∧ e.frame = Frame.mk' 1 1 0x14 (ringDest s n.val) s.srcWord 0 [1] := by
  have mayAt : MaySend (s.at t) n.val := ⟨may.numbered, may.single, may.ring, may.up⟩
  have row : exec (.fetchRequest n p t) s = done (sendTo (s.at t) 20 1 1 0x14 n.val [1]) :=
    congrArg done ((delivered_of_bright (s := s.at t) bright _).trans (fetchServe_none ((heldStagebook_at s t _).trans held) alone))
  obtain ⟨sent, _⟩ := leaves_sendTo mayAt (cls := 1) (sub := 0x14) (by decide) [1]
  refine completes_done row ⟨(pinFlow (s.at t) 0 (1 % 4) (ringDest (s.at t) n.val)).1, unitEntry (s.at t) 1 0x14 n.val [1], ?_, rfl⟩
  rw [queue_congr (settle_sw _), sent.queue, if_pos ⟨rfl, rfl⟩]
  rfl

/-- The envelope that asks the library host (R477). -/
def libraryRequest (s : State) (p : List Word) : EthFrame :=
  ⟨none, [], some (s.reg HST_LIB_IP_H ++ s.reg HST_LIB_IP_L, s.reg HST_LIB_UDP), 0x0800, envelope 4 s.free [0x12 :: p]⟩

/-- The library host gets the request, and the requester waits for its answer (R477). -/
theorem completes_fetchRequest_library {n : Fin 4096} (bright : s.darkPath = false) (held : heldStagebook s (fld (wAt p 0) 11 0) = none)
    (prompts : s.prompting = true) (library : ¬ (s.reg HST_LIB_IP_H = 0 ∧ s.reg HST_LIB_IP_L = 0)) :
    Completes (.fetchRequest n p t) s fun u => u.host.library = s.host.library ++ [(n.val, fld (wAt p 0) 11 0)] := by
  obtain ⟨f, is⟩ : ∃ f, f = libraryRequest (s.at t) p := ⟨_, rfl⟩
  have row : exec (.fetchRequest n p t) s = done (((ethSend (s.at t) (libraryUplink (s.at t)) f).usedFree).updHost fun h =>
      { h with library := h.library ++ [(n.val, fld (wAt p 0) 11 0)] }) := by
    refine congrArg done ((delivered_of_bright (s := s.at t) bright _).trans ?_)
    rw [is]
    unfold fetchServe
    extract_lets k none_ into
    rw [show heldStagebook (s.at t) k = none from (heldStagebook_at s t _).trans held]
    dsimp only
    rw [if_neg (by rw [show (s.at t).prompting = true from prompts]; exact Bool.false_ne_true),
      if_neg (show ¬ ((s.at t).reg HST_LIB_IP_H = 0 ∧ (s.at t).reg HST_LIB_IP_L = 0) from library)]
    rfl
  have kept : (ethSend (s.at t) (libraryUplink (s.at t)) f).host.library = s.host.library := by
    unfold ethSend
    split <;> rfl
  refine completes_done row ?_
  rw [settle_host_library]
  exact congrArg (· ++ _) kept

end Sys2Proof.Machine
end

section
set_option Elab.async false
/-! SUPPORT. Exits and route notices (R195, R196), and the obligation about fetching and routing. -/

namespace Sys2Proof.Machine

variable {s u x : State} {t n : Nat} {p : List Word}

/-! The exits in use (R196). -/

/-- What R196 takes an exit from is as before. -/
structure SameNotices (s u : State) : Prop where
  tables : u.fab.tables = s.fab.tables
  notices : u.fab.notices = s.fab.notices
  time : u.present = s.present

theorem SameNotices.exitUse (h : SameNotices s u) (i : Nat) : exitUse u i = exitUse s i := by
  unfold Machine.exitUse exitLists
  rw [h.tables, h.notices, h.time]

/-- A ring takes its exit. -/
def takeExit (s : State) (i : Fin 16) : State :=
  if exitUse s i.val = vget s.fab.use i then s
  else ((s.updFab fun f => { f with use := vset f.use i (exitUse s i.val) }).evt FAB_EVT fabROUTE).raise Src.exitChange i.val

theorem routeUpdate_eq (s : State) : routeUpdate s = s.each (List.finRange 16) takeExit := rfl

/-- A ring that takes its exit changes neither the switch nor the clock, and of the fabric that exit alone. -/
theorem takeExit_keeps (s : State) (i : Fin 16) : (takeExit s i).fab = { s.fab with use := (takeExit s i).fab.use } ∧
    (takeExit s i).time = s.time ∧ (takeExit s i).sw = s.sw ∧ (takeExit s i).now = s.now ∧
    ∀ j, vget (takeExit s i).fab.use j = if j = i then exitUse s i.val else vget s.fab.use j := by
  unfold takeExit
  split
  next same =>
    refine ⟨rfl, rfl, rfl, rfl, fun j => ?_⟩
    split
    next is => rw [is, same]
    next => rfl
  next =>
    rw [raise_fab, raise_time, raise_sw, raise_now]
    exact ⟨rfl, rfl, rfl, rfl, fun j => vget_vset _ _ _ _⟩

theorem takeExits_keep : ∀ (l : List (Fin 16)) (s : State), (s.each l takeExit).fab = { s.fab with use := (s.each l takeExit).fab.use } ∧
    (s.each l takeExit).time = s.time ∧ (s.each l takeExit).sw = s.sw ∧ (s.each l takeExit).now = s.now ∧
    ∀ j, vget (s.each l takeExit).fab.use j = if j ∈ l then exitUse s j.val else vget s.fab.use j
  | [], s => ⟨rfl, rfl, rfl, rfl, fun j => by rw [if_neg List.not_mem_nil]; rfl⟩
  | i :: l, s => by
    obtain ⟨fab, time, sw, now, use⟩ := takeExit_keeps s i
    obtain ⟨fabL, timeL, swL, nowL, useL⟩ := takeExits_keep l (takeExit s i)
    have same : SameNotices s (takeExit s i) := ⟨by rw [fab], by rw [fab], congrArg TimeState.sCycle time⟩
    refine ⟨?_, timeL.trans time, swL.trans sw, nowL.trans now, fun j => ?_⟩
    · refine fabL.trans ?_
      rw [fab]
      rfl
    · refine (useL j).trans ?_
      rw [same.exitUse, use]
      by_cases inRest : j ∈ l
      · rw [if_pos inRest, if_pos (List.mem_cons_of_mem _ inRest)]
      · rw [if_neg inRest]
        by_cases first : j = i
        · rw [if_pos first, if_pos (first ▸ List.mem_cons_self), first]
        · rw [if_neg first, if_neg fun mem => (List.mem_cons.1 mem).elim first inRest]

/-- Every ring has the exit R196 gives it. -/
theorem routeUpdate_keeps (s : State) : (routeUpdate s).fab = { s.fab with use := (routeUpdate s).fab.use } ∧
    (routeUpdate s).time = s.time ∧ (routeUpdate s).sw = s.sw ∧ (routeUpdate s).now = s.now ∧
    ∀ j : Fin 16, vget (routeUpdate s).fab.use j = exitUse s j.val := by
  obtain ⟨l, is, all⟩ : ∃ l, routeUpdate s = s.each l takeExit ∧ ∀ j, j ∈ l := ⟨_, routeUpdate_eq s, List.mem_finRange⟩
  obtain ⟨fab, time, sw, now, use⟩ := takeExits_keep l s
  rw [is]
  exact ⟨fab, time, sw, now, fun j => (use j).trans (if_pos (all j))⟩

theorem completes_routeExpire : Completes (.routeExpire t) s fun u =>
    u.fab.notices = s.fab.notices ∧ ∀ i, vget u.fab.use i = exitUse s i.val := by
  obtain ⟨fab, _, _, _, use⟩ := routeUpdate_keeps (s.at t)
  refine completes_done (congrArg done rfl : exec (.routeExpire t) s = done (routeUpdate (s.at t))) ?_
  rw [settle_fab]
  refine ⟨?_, use⟩
  rw [fab]
  rfl

/-! Notices received (R196). -/

theorem completes_routeNotice_across : Completes (.routeNotice p true t) s fun u =>
    u.fab.peerRings = some (wAt p 1, s.present) ∧ u.fab.notices = s.fab.notices := by
  have row : exec (.routeNotice p true t) s = done ((s.at t).updFab fun f => { f with peerRings := some (wAt p 1, (s.at t).present) }) :=
    congrArg done (if_pos rfl)
  refine completes_done row ?_
  rw [settle_fab]
  exact ⟨rfl, rfl⟩

theorem exitUse_settle (x : State) (i : Nat) : exitUse (settle x) i = exitUse x i := by
  have fab := settle_fab x
  have time : (settle x).present = x.present := by
    obtain ⟨_, _, _, same, _⟩ := settle_time x
    rw [State.present, same]
    rfl
  exact SameNotices.exitUse ⟨by rw [fab], by rw [fab], time⟩ i

/-- A notice of the ring enters the table of notices, and the exits follow it. -/
theorem completes_routeNotice (bright : s.darkPath = false) : Completes (.routeNotice p false t) s fun u =>
    (fld (wAt p 0) 11 0, wAt p 1, s.present) ∈ u.fab.notices ∧ ∀ i, vget u.fab.use i = exitUse u i.val := by
  obtain ⟨x, is⟩ : ∃ x, x = (s.at t).updFab fun f =>
      { f with notices := f.notices.filter (fun y => decide (y.1 ≠ fld (wAt p 0) 11 0)) ++
                 [(fld (wAt p 0) 11 0, wAt p 1, (s.at t).present)] } := ⟨_, rfl⟩
  have row : exec (.routeNotice p false t) s = done (routeUpdate x) := by
    rw [is]
    exact congrArg done ((if_neg Bool.false_ne_true).trans (delivered_of_bright (s := s.at t) bright _))
  obtain ⟨fab, time, _, _, use⟩ := routeUpdate_keeps x
  have same : SameNotices x (routeUpdate x) := ⟨by rw [fab], by rw [fab], congrArg TimeState.sCycle time⟩
  refine completes_done row ⟨?_, fun i => ?_⟩
  · rw [settle_fab, same.notices, is]
    exact List.mem_append_right _ (List.mem_singleton_self _)
  · rw [settle_fab, exitUse_settle, same.exitUse]
    exact use i

/-! Notices sent (R196). -/

/-- A frame of no transaction leaves the queues of other ports. -/
theorem submit_queue_other {s : State} {q port : Fin 20} {e : QEntry} (plain : e.origin = none) (other : q ≠ port) (c : Nat) :
    (submit s port e).queue q c = s.queue q c := by
  have retired (why : Retire) (k : Nat) : (retire s e why k).queue q c = s.queue q c := by
    rw [retire_eq, plain]
    refine queue_congr ?_ q c
    unfold retireCounted retire
    cases why <;> simp only [raise_sw] <;> rfl
  unfold submit
  split
  · exact retired _ _
  · split
    · exact retired _ _
    · rw [queue_congr (enqueue_sw _ _ _ _), queue_updQueue, if_neg fun same => other same.1]

theorem ringPort_ne_jointPort (s : State) (r : Ring) : ringPort r ≠ jointPort s := by
  unfold jointPort
  split
  · cases r <;> decide
  · split <;> cases r <;> decide

theorem completes_routeNoticeSend (may : MayBroadcast s) (joint : isJoint s = true) : Completes (.routeNoticeSend t) s fun u =>
    Broadcast s u 1 0x15 [putFld s.fab.node 11 0, advertised s] ∧ u.fab.sentRoute = some (advertised s, s.present) := by
  obtain ⟨ws, words⟩ : ∃ ws, ws = [putFld s.fab.node 11 0, advertised s] := ⟨_, rfl⟩
  obtain ⟨y, is⟩ : ∃ y, y = submit (broadcast (s.at t) 1 0x15 ws) (jointPort (s.at t)) (noticeEntry (s.at t) 1 0x15 ws) := ⟨_, rfl⟩
  obtain ⟨x, isX⟩ : ∃ x, x = y.updFab fun f =>
    { f with sentRoute := some (advertised s, s.present)
             notices := f.notices.filter (fun z => decide (z.1 ≠ s.fab.node)) ++ [(s.fab.node, advertised s, s.present)] } := ⟨_, rfl⟩
  have row : exec (.routeNoticeSend t) s = done (routeUpdate x) := by
    rw [isX, is, words]
    refine congrArg done (if_neg ?_)
    rw [show isJoint (s.at t) = true from joint, decide_eq_false (show ¬ (s.at t).fab.node = 0 from may.1)]
    exact Bool.false_ne_true
  obtain ⟨fab, time, sw, now, use⟩ := routeUpdate_keeps x
  have mayAt : MayBroadcast (s.at t) := may
  have hub : HubOnly (s.at t) y := by
    rw [is]
    exact (hubOnly_broadcast _ _ _ _).trans (hubOnly_submit _ _ _)
  have nowY : y.now = (s.at t).now := by rw [hub]
  rw [← words]
  refine completes_done row ⟨fun r => ?_, ?_⟩
  · rw [settle_now, now, queue_congr (settle_sw _), queue_congr sw, isX]
    change y.queue (ringPort r) 1 = s.queue (ringPort r) 1 ++ [⟨_, 20, y.now, 0, none, 0⟩]
    rw [nowY, is, submit_queue_other rfl (ringPort_ne_jointPort _ r),
      queue_broadcast mayAt (.inl (by decide)) (cls := 1) (sub := 0x15) (payload := ws) (by decide)]
    rfl
  · rw [settle_fab, fab, isX]
    rfl

/-! The obligation. -/

theorem AsksSource.facts {src node rounds : Nat} (h : AsksSource u src node rounds) :
    (u.fab.fetch.src = src ∧ u.fab.fetch.state = 1 ∧ u.fab.fetch.words = [] ∧ u.fab.fetch.offset = 0) ∧
    u.fab.fetch.node = node ∧ u.fab.fetch.rounds = rounds := by
  unfold AsksSource at h
  rw [h]
  exact ⟨⟨rfl, rfl, rfl, rfl⟩, rfl, rfl⟩

theorem Completes.imp {c : Instr} {P Q : State → Prop} (h : Completes c s P) (imp : ∀ u, P u → Q u) : Completes c s Q := by
  obtain ⟨u, runs, holds⟩ := h
  exact ⟨u, runs, imp u holds⟩

/-- Settles O23: what begins a fetch and what ends it, what is served, and the exits by induction on the rings. -/
theorem fetchingAndRouting : Obligations.FetchingAndRouting := by
  unfold Obligations.FetchingAndRouting
  intro t s
  refine ⟨⟨?start, ?restart, fun none_ => completes_fetchRestart_none none_, fun runs own => ?runs, ?wait,
    fun n p bright single ring numbered openA openB => ⟨?held, ?library, ?none⟩⟩,
    fun may joint => completes_routeNoticeSend may joint,
    fun p => ⟨completes_routeNotice_across, fun bright => completes_routeNotice bright⟩, completes_routeExpire⟩
  case start =>
    intro wanted idle
    exact (completes_fetchStart wanted idle).imp fun u asks => ⟨asks.facts.1, asks.facts.2.1⟩
  case restart =>
    intro numbered
    exact (completes_fetchRestart numbered).imp fun u asks => ⟨asks.facts.1, asks.facts.2.1⟩
  case runs =>
    have fetches : FetchRuns s := ⟨runs, own⟩
    refine ⟨fun more => ?_, fun last => completes_fetchTimeout_last fetches last, fun source status total c bright asked fails more => ?_,
      fun source p bright asked next => completes_fetchData fetches bright asked next⟩
    · exact (completes_fetchTimeout fetches more).imp fun u asks => ⟨asks.facts.1, asks.facts.2.1⟩
    · exact (completes_fetchEnd fetches bright asked fails more).imp fun u asks => asks.facts.1
  case wait =>
    intro waits
    exact (completes_fetchRoundWait waits).imp fun u asks => ⟨asks.facts.1, asks.facts.2.2⟩
  case held =>
    intro ws held
    exact completes_fetchRequest_held bright ⟨numbered, single, ring, openA, openB⟩ held
  case library =>
    intro held prompts library
    refine completes_fetchRequest_library bright held prompts fun none_ => ?_
    rw [decide_eq_true none_.1, decide_eq_true none_.2] at library
    exact Bool.noConfusion library
  case none =>
    intro held alone
    refine completes_fetchRequest_none bright ⟨numbered, single, ring, openA, openB⟩ held (alone.imp_right fun none_ => ?_)
    rw [Bool.and_eq_true, decide_eq_true_eq, decide_eq_true_eq] at none_
    exact none_

end Sys2Proof.Machine
end

section
set_option Elab.async false
/-! SUPPORT. A CAN controller at the end of a command (R361), and the steps that many of its commands share (R354-R359). -/

namespace Sys2Proof.Machine

variable {s u x : State} {c : Fin 4} {t : Nat}

/-! The gap (R361). -/

/-- A controller as its transmit pin's gap leaves it. -/
def afterGap (gap : Bool) (x : CanCtl) : CanCtl :=
  if x.phase = .off then x
  else if gap then (if x.phase = .gap then x else { x with phase := .gap, txBusy := false })
  else if x.phase = .gap then { x with phase := .integrating } else x

theorem can_congr (h : u.cans = s.cans) (c : Fin 4) : u.can c = s.can c := by rw [State.can, h]; rfl

theorem updCan_congr {f g : CanCtl → CanCtl} (h : f (s.can c) = g (s.can c)) : s.updCan c f = s.updCan c g := by
  have set : vupd s.cans c f = vupd s.cans c g := congrArg (vset s.cans c) h
  rw [State.updCan, set]
  rfl

theorem settleCan_self (s : State) (c : Fin 4) : (settleCan s c).can c = afterGap (canGap s c) (s.can c) := by
  unfold settleCan afterGap
  extract_lets x s1 s2
  split
  · rfl
  · split
    · split
      · rfl
      · have told : s2.can c = s1.can c := by
          unfold s2
          split <;> rfl
        exact (can_congr (raise_cans _ _ _) c).trans (told.trans (can_updCan_self _ _ _))
    · split
      · exact can_updCan_self _ _ _
      · rfl

theorem settleCan_other {d : Fin 4} (other : c ≠ d) : (settleCan s d).can c = s.can c := by
  unfold settleCan
  extract_lets x s1 s2
  split
  · rfl
  · split
    · split
      · rfl
      · have told : s2.can c = s1.can c := by
          unfold s2
          split <;> rfl
        exact (can_congr (raise_cans _ _ _) c).trans (told.trans ((can_updCan _ _ _ _).trans (if_neg other)))
    · split
      · exact (can_updCan _ _ _ _).trans (if_neg other)
      · rfl

/-- The pins and what a controller takes its transmit pin from are as before. -/
structure SamePins (s u : State) (c : Fin 4) : Prop where
  pins : u.pins = s.pins
  clusters : u.clusters = s.clusters
  conf : (u.can c).conf = (s.can c).conf
  named : u.reg (CAN_PINS c.val) = s.reg (CAN_PINS c.val)

theorem SamePins.trans (h : SamePins s x c) (g : SamePins x u c) : SamePins s u c :=
  ⟨g.pins.trans h.pins, g.clusters.trans h.clusters, g.conf.trans h.conf, g.named.trans h.named⟩

theorem SamePins.gap (h : SamePins s u c) : canGap u c = canGap s c := by
  have cfg (k : Fin 144) : u.pinCfg k = s.pinCfg k := by
    unfold State.pinCfg
    rw [cl_congr h.clusters]
  have pin : canTxPin u c = canTxPin s c := by
    unfold canTxPin
    rw [h.conf, h.named]
    simp only [cfg]
  unfold canGap
  rw [pin]
  simp only [pin_congr h.pins]

theorem canPins_apart : ∀ c d : Fin 4, CAN_PINS c.val ≠ CAN_EVT d.val ∧ CAN_PINS c.val ≠ CAN_GAPABT d.val := by decide

theorem samePins_settleCan (s : State) (c d : Fin 4) : SamePins s (settleCan s d) c := by
  obtain ⟨notEvt, notGap⟩ := canPins_apart c d
  exact ⟨settleCan_pins s d, settleCan_clusters s d, by rw [settleCan_can], regSel_settleCan s d _ 0 (by decide) notEvt notGap⟩

theorem fold_settleCan_can : ∀ {l : List (Fin 4)}, l.Nodup → ∀ s : State,
    (c ∉ l → (l.foldl settleCan s).can c = s.can c) ∧ (c ∈ l → (l.foldl settleCan s).can c = afterGap (canGap s c) (s.can c)) ∧
    SamePins s (l.foldl settleCan s) c
  | [], _, s => ⟨fun _ => rfl, fun mem => absurd mem List.not_mem_nil, ⟨rfl, rfl, rfl, rfl⟩⟩
  | d :: l, distinct, s => by
    obtain ⟨fresh, rest⟩ := List.nodup_cons.1 distinct
    obtain ⟨out, in_, pins⟩ := fold_settleCan_can rest (settleCan s d)
    refine ⟨fun notIn => ?_, fun isIn => ?_, (samePins_settleCan s c d).trans pins⟩
    · rw [List.mem_cons, not_or] at notIn
      exact (out notIn.2).trans (settleCan_other notIn.1)
    · by_cases first : c = d
      · subst first
        exact (out fresh).trans (settleCan_self s c)
      · have later : c ∈ l := (List.mem_cons.1 isIn).resolve_left first
        exact (in_ later).trans (by rw [(samePins_settleCan s c d).gap, settleCan_other first])

/-- A controller as a command leaves it. -/
theorem settle_can_gap (s : State) (c : Fin 4) : (settle s).can c = afterGap (canGap (settle s) c) (s.can c) := by
  obtain ⟨y, is⟩ : ∃ y, y = settlePins (settleModes (settleBypass (settleFuses (settleHolds (settleLock (settleRange .b (settleRange .a s))))))) :=
    ⟨_, rfl⟩
  have before : y.can c = s.can c := by
    rw [is]
    unfold State.can
    rw [settlePins_cans]
    simp
  obtain ⟨_, in_, pins⟩ := fold_settleCan_can (c := c) (List.nodup_finRange 4) y
  have shape : settle s = settleFwd (settleSignals ((List.finRange 4).foldl settleCan y)) := by rw [is]; rfl
  generalize (List.finRange 4).foldl settleCan y = z at in_ pins shape
  have rest : SamePins z (settle s) c := by
    rw [shape]
    refine ⟨?_, ?_, ?_, ?_⟩
    · rw [settleFwd_pins, settleSignals_pins]
    · rw [settleFwd_clusters, settleSignals_clusters]
    · rw [can_congr (settleFwd_cans _), can_congr (settleSignals_cans _)]
    · rw [reg_congr (settleFwd_regs _), reg_congr (settleSignals_regs _)]
  have last : (settle s).can c = z.can c := by rw [shape, can_congr (settleFwd_cans _), can_congr (settleSignals_cans _)]
  rw [last, in_ (List.mem_finRange c), before, rest.gap, pins.gap]

/-- A controller that is neither off nor in a gap stands as the command left it, or in a gap. -/
theorem canIs_settle {k : CanCtl} {p : CanPhase} (is : s.can c = k) (phase : k.phase = p) (part : p ≠ .off ∧ p ≠ .gap) : CanIs (settle s) c k := by
  unfold CanIs
  rw [settle_can_gap, is]
  unfold afterGap
  rw [phase, if_neg part.1, if_neg part.2, if_neg part.2]

/-- A controller that sends nothing does not begin to. -/
theorem settle_can_idle (idle : (s.can c).txBusy = false) : ((settle s).can c).txBusy = false := by
  rw [settle_can_gap]
  unfold afterGap
  split
  · exact idle
  · split
    · split
      · exact idle
      · rfl
    · split <;> exact idle

/-! What the steps of a controller write. -/

/-- Registers in which a controller notes what happens to it. -/
def canNotes (c : Fin 4) : List Nat := [CAN_EVT c.val, CAN_BOFFC c.val, CAN_RXLOST c.val, CAN_SPFULL c.val, CAN_TDCV c.val]

/-- Only those registers change, and no event bit of the controller is lost. -/
structure CanNoted (s u : State) (c : Fin 4) : Prop where
  keeps : KeepsRegs s u (canNotes c)
  shows (i : Nat) : EvtSet s (CAN_EVT c.val) i → EvtSet u (CAN_EVT c.val) i

theorem CanNoted.of_regs (h : u.regs = s.regs) : CanNoted s u c := ⟨.of_regs h _, fun _ told => told.congr h⟩
theorem CanNoted.refl (s : State) : CanNoted s s c := .of_regs rfl
theorem CanNoted.trans (h : CanNoted s x c) (g : CanNoted x u c) : CanNoted s u c :=
  ⟨h.keeps.trans g.keeps, fun i told => g.shows i (h.shows i told)⟩
theorem CanNoted.evt (h : CanNoted s u c) (i : Nat) : CanNoted s (u.canEvt c i) c :=
  ⟨h.keeps.evt List.mem_cons_self i, fun j told => (h.shows j told).evt _ _⟩
theorem CanNoted.raise (h : CanNoted s u c) (src d : Nat) : CanNoted s (u.raise src d) c := h.trans (.of_regs (raise_regs _ _ _))
theorem CanNoted.same (h : CanNoted s u c) (g : x.regs = u.regs) : CanNoted s x c := h.trans (.of_regs g)

theorem canNotes_apart : ∀ c : Fin 4, ∀ a ∈ [CAN_BOFFC c.val, CAN_RXLOST c.val, CAN_SPFULL c.val, CAN_TDCV c.val], CAN_EVT c.val ≠ a := by decide

theorem CanNoted.bump (h : CanNoted s u c) {a : Nat} (named : a ∈ [CAN_BOFFC c.val, CAN_RXLOST c.val, CAN_SPFULL c.val, CAN_TDCV c.val]) :
    CanNoted s (u.bump a) c :=
  ⟨h.keeps.bump (List.mem_cons_of_mem _ named), fun j told => (h.shows j told).bump (canNotes_apart c a named)⟩

theorem canTdcv_named : ∀ c : Fin 4, CAN_TDCV c.val ∈ [CAN_BOFFC c.val, CAN_RXLOST c.val, CAN_SPFULL c.val, CAN_TDCV c.val] := by decide

theorem CanNoted.setTdcv (h : CanNoted s u c) (v : Word) : CanNoted s (u.setReg (CAN_TDCV c.val) v) c := by
  refine ⟨h.keeps.setReg (List.mem_cons_of_mem _ (canTdcv_named c)) v, fun j told => ?_⟩
  unfold EvtSet
  rw [reg_setReg_ne _ _ (canNotes_apart c (CAN_TDCV c.val) (canTdcv_named c))]
  exact h.shows j told

/-! The start and the end of an attempt (R354, R355). -/

/-- All of a controller but its part on the bus and the frame it sends. -/
def SameBuffers (x y : CanCtl) : Prop :=
  y = { x with phase := y.phase, txBusy := y.txBusy, waitRec := y.waitRec, recSeq := y.recSeq, tx := y.tx, flushHead := y.flushHead }

theorem SameBuffers.refl (x : CanCtl) : SameBuffers x x := rfl
theorem SameBuffers.trans {x y z : CanCtl} (h : SameBuffers x y) (g : SameBuffers y z) : SameBuffers x z := by
  unfold SameBuffers at *
  rw [g, h]

theorem canStart_can (s : State) (c : Fin 4) : (canStart s c).can c = { s.can c with txBusy := ((canStart s c).can c).txBusy } := by
  unfold canStart
  extract_lets x
  split
  · rw [can_updCan_self]
  · rfl

theorem canStart_regs (s : State) (c : Fin 4) : (canStart s c).regs = s.regs := by
  unfold canStart
  extract_lets x
  split <;> rfl

theorem canStart_active (active : (s.can c).phase = .active) :
    (canStart s c).can c = { s.can c with txBusy := (s.can c).txBusy || begins s c } := by
  unfold canStart begins
  extract_lets x
  have here : x.phase = .active := active
  by_cases goes : !bitOf (canConf s c) 14 ∧ !x.tx.isEmpty
  · obtain ⟨joins, waits⟩ := goes
    rw [if_pos ⟨.inl here, joins, waits⟩, can_updCan_self, joins, show (!(s.can c).tx.isEmpty) = true from waits, Bool.and_self, Bool.or_true]
  · rw [if_neg fun h => goes h.2]
    have stays : (!bitOf (canConf s c) 14 && !(s.can c).tx.isEmpty) = false := by
      rw [Bool.eq_false_iff]
      intro both
      exact goes (Bool.and_eq_true _ _ ▸ both)
    rw [stays, Bool.or_false]

theorem canAttemptEnds_can (busy : (s.can c).txBusy = true) : (canAttemptEnds s c).can c =
    { s.can c with txBusy := false, flushHead := false, tx := if (s.can c).flushHead then (s.can c).tx.drop 1 else (s.can c).tx } := by
  unfold canAttemptEnds
  extract_lets x y
  rw [if_neg (by rw [show x.txBusy = true from busy]; exact Bool.false_ne_true)]
  have ended : y.can c = { s.can c with txBusy := false, flushHead := false, tx := if (s.can c).flushHead then (s.can c).tx.drop 1 else (s.can c).tx } :=
    can_updCan_self _ _ _
  split
  · exact ended
  · exact ended

theorem canAttemptEnds_idle (idle : (s.can c).txBusy = false) : canAttemptEnds s c = s := by
  unfold canAttemptEnds
  extract_lets x y
  exact if_pos (by rw [show x.txBusy = false from idle]; rfl)

theorem canNoted_canAttemptEnds (s : State) (c : Fin 4) : CanNoted s (canAttemptEnds s c) c := by
  unfold canAttemptEnds
  extract_lets x y
  have same : CanNoted s y c := .of_regs rfl
  split
  · exact .refl s
  · split
    · exact same.evt _
    · exact same

theorem sameBuffers_canAttemptEnds (s : State) (c : Fin 4) : SameBuffers (s.can c) ((canAttemptEnds s c).can c) := by
  cases busy : (s.can c).txBusy with
  | false => rw [canAttemptEnds_idle busy]; exact .refl _
  | true => rw [canAttemptEnds_can busy]; rfl

/-! The error state (R357, R358). -/

theorem canBusOff_can (s : State) (c : Fin 4) : (canBusOff s c).can c =
    { (canAttemptEnds s c).can c with phase := if bitOf (canConf s c) 11 then .recovering else .busOff
                                      waitRec := !bitOf (canConf s c) 11, recSeq := 0 } := by
  unfold canBusOff
  extract_lets auto y
  exact (can_congr (raise_cans _ _ _) c).trans (can_updCan_self _ _ _)

theorem canNoted_canBusOff (s : State) (c : Fin 4) : CanNoted s (canBusOff s c) c := by
  unfold canBusOff
  extract_lets auto y
  have ended : CanNoted s y c := (canNoted_canAttemptEnds s c).same rfl
  exact ((ended.bump List.mem_cons_self).evt _).raise _ _

/-- A controller in another error state. -/
def inPhase (p : CanPhase) (x : CanCtl) : CanCtl := { x with phase := p }

/-- What the error state may do: nothing, bus-off, or a change of phase that is shown. -/
theorem canErrorState_cases (old : CanCtl) (s : State) (c : Fin 4) : canErrorState old s c = s ∨ canErrorState old s c = canBusOff s c ∨
    (∃ p, canErrorState old s c = ((s.updCan c (inPhase p)).canEvt c canEPASS).raise (Src.can c.val 3) c.val) ∨
    ∃ p, canErrorState old s c = (s.updCan c (inPhase p)).canEvt c canEACT := by
  unfold canErrorState
  extract_lets x shown
  split
  · exact .inl rfl
  · split
    · exact .inr (.inl rfl)
    · split
      · exact .inr (.inr (.inl ⟨_, rfl⟩))
      · split
        · exact .inr (.inr (.inr ⟨_, rfl⟩))
        · exact .inl rfl

theorem can_passive (s : State) (c : Fin 4) (p : CanPhase) :
    (((s.updCan c (inPhase p)).canEvt c canEPASS).raise (Src.can c.val 3) c.val).can c = inPhase p (s.can c) :=
  (can_congr (raise_cans _ _ _) c).trans (can_updCan_self s c (inPhase p))

theorem can_active (s : State) (c : Fin 4) (p : CanPhase) : ((s.updCan c (inPhase p)).canEvt c canEACT).can c = inPhase p (s.can c) :=
  can_updCan_self s c (inPhase p)

/-- The error state follows the counters and leaves the buffers. -/
theorem sameBuffers_canErrorState (old : CanCtl) (s : State) (c : Fin 4) : SameBuffers (s.can c) ((canErrorState old s c).can c) := by
  rcases canErrorState_cases old s c with is | is | ⟨p, is⟩ | ⟨p, is⟩ <;> rw [is]
  · exact .refl _
  · rw [canBusOff_can]
    exact (sameBuffers_canAttemptEnds s c).trans rfl
  · rw [can_passive]; rfl
  · rw [can_active]; rfl

theorem canNoted_canErrorState (old : CanCtl) (s : State) (c : Fin 4) : CanNoted s (canErrorState old s c) c := by
  have changed (p : CanPhase) : CanNoted s (s.updCan c (inPhase p)) c := .of_regs rfl
  rcases canErrorState_cases old s c with is | is | ⟨p, is⟩ | ⟨p, is⟩ <;> rw [is]
  · exact .refl _
  · exact canNoted_canBusOff _ _
  · exact ((changed p).evt _).raise _ _
  · exact (changed p).evt _

/-- A controller that sends nothing keeps the frames it is to send. -/
theorem canErrorState_frames (old : CanCtl) (idle : (s.can c).txBusy = false) :
    ((canErrorState old s c).can c).tx = (s.can c).tx ∧ ((canErrorState old s c).can c).flushHead = (s.can c).flushHead := by
  rcases canErrorState_cases old s c with is | is | ⟨p, is⟩ | ⟨p, is⟩ <;> rw [is]
  · exact ⟨rfl, rfl⟩
  · rw [canBusOff_can, canAttemptEnds_idle idle]
    exact ⟨rfl, rfl⟩
  · rw [can_passive]
    exact ⟨rfl, rfl⟩
  · rw [can_active]
    exact ⟨rfl, rfl⟩

/-- Above 255 a controller that takes part on the bus goes off it. -/
theorem canErrorState_busOff (old : CanCtl) (part : (s.can c).phase = .active ∨ (s.can c).phase = .passive) (high : 255 < (s.can c).txErr) :
    canErrorState old s c = canBusOff s c := by
  unfold canErrorState
  extract_lets x shown
  have here : x.phase = .active ∨ x.phase = .passive := part
  have outside : x.phase ≠ .gap := by rcases here with h | h <;> rw [h] <;> decide
  rw [if_neg (by rintro ⟨a, p, _⟩; exact here.elim a p), if_pos ⟨high, outside⟩]

end Sys2Proof.Machine
end

section
set_option Elab.async false
/-! SUPPORT. The commands of the CAN bus (R343, R345, R346, R354-R358). -/

namespace Sys2Proof.Machine

variable {s u x : State} {c : Fin 4} {t : Nat}

/-! Registers of a controller, for every controller. -/

theorem canCtrl_open : ∀ c : Fin 4, closingReg (CAN_CTRL c.val) = false := by decide
theorem canEvt_apart : ∀ c d : Fin 4, CAN_EVT c.val ≠ CAN_GAPABT d.val := by decide

theorem CanNoted.reg (h : CanNoted s u c) {a : Nat} (other : a ∉ canNotes c) : u.reg a = s.reg a := h.keeps a 0 (by decide) other

/-! Enabling, disabling and integration (R343, R346). -/

/-- The settings that a controller takes when it is enabled. -/
def canSettings (c : Fin 4) : List Nat :=
  [CAN_CTRL c.val, CAN_PINS c.val, CAN_NBT_H c.val, CAN_NBT_L c.val, CAN_DBT_H c.val, CAN_DBT_L c.val, CAN_TDC c.val]

theorem canSettings_open : ∀ c : Fin 4, ∀ a ∈ canSettings c, closingReg a = false := by decide

/-- A controller that has been enabled and waits for the bus. -/
def canEnabled (conf : List Word) (x : CanCtl) : CanCtl :=
  { x with phase := .integrating, conf := conf, cfgErr := false, txErr := 0, rxErr := 0, recSeq := 0, waitRec := false
           txBusy := false, flushHead := false }

theorem canTiming_apart : ∀ c : Fin 4, CAN_NBT_H c.val ≠ CAN_CTRL c.val ∧ CAN_NBT_L c.val ≠ CAN_CTRL c.val ∧ CAN_DBT_H c.val ≠ CAN_CTRL c.val ∧
    CAN_DBT_L c.val ≠ CAN_CTRL c.val ∧ CAN_PINS c.val ≠ CAN_CTRL c.val := by decide

theorem canConfOk_putBit (s : State) (c : Fin 4) : canConfOk (s.putBit (CAN_CTRL c.val) 15 true) c = canConfOk s c := by
  obtain ⟨nominalH, nominalL, dataH, dataL, pins⟩ := canTiming_apart c
  have same {a : Nat} (other : a ≠ CAN_CTRL c.val) (i j : Nat) : (s.putBit (CAN_CTRL c.val) 15 true).fld a i j = s.fld a i j :=
    congrArg (fld · i j) (reg_setReg_ne _ _ other)
  unfold canConfOk
  simp only [same nominalH, same nominalL, same dataH, same dataL, same pins]

theorem completes_canEnable (off : s.bit (CAN_CTRL c.val) 15 = false) (free : (s.can c).faultHeld = false) (ok : canConfOk s c = true) :
    Completes (.canEnable c t) s fun u =>
      CanIs u c (canEnabled ((canSettings c).map u.reg) (s.can c)) ∧ (u.reg (CAN_CTRL c.val)).getLsbD 15 = true := by
  obtain ⟨x, is⟩ : ∃ x, x = (s.at t).putBit (CAN_CTRL c.val) 15 true := ⟨_, rfl⟩
  have conf : canConfOk x c = true := by rw [is, canConfOk_putBit]; exact ok
  have held : (x.can c).faultHeld = false := by rw [is]; exact free
  have row : exec (.canEnable c t) s = done (x.updCan c (canEnabled ((canSettings c).map x.reg))) := by
    refine congrArg done ((if_neg (by rw [at_bit, off]; exact Bool.false_ne_true)).trans ?_)
    rw [← is, canEnable]
    extract_lets n
    rw [if_neg (by rw [held]; exact Bool.false_ne_true), if_pos conf]
    rfl
  have settings : (canSettings c).map (settle (x.updCan c (canEnabled ((canSettings c).map x.reg)))).reg = (canSettings c).map x.reg :=
    List.map_congr_left fun a mem => reg_settle_of_not_closing _ a (canSettings_open c a mem)
  have stands : (x.updCan c (canEnabled ((canSettings c).map x.reg))).can c = canEnabled ((canSettings c).map x.reg) (s.can c) := by
    rw [can_updCan_self, is]
    rfl
  refine completes_done row ⟨?_, ?_⟩
  · rw [settings]
    exact canIs_settle (p := .integrating) stands rfl (by decide)
  · rw [reg_settle_of_not_closing _ _ (canCtrl_open c)]
    change (x.reg (CAN_CTRL c.val)).getLsbD 15 = true
    rw [is, getLsbD_putBit _ _ _ (by decide)]
    rfl

theorem completes_canEnable_bad (off : s.bit (CAN_CTRL c.val) 15 = false) (free : (s.can c).faultHeld = false) (bad : canConfOk s c = false) :
    Completes (.canEnable c t) s fun u => (u.can c).phase = .off ∧ (u.can c).cfgErr = true := by
  obtain ⟨x, is⟩ : ∃ x, x = (s.at t).putBit (CAN_CTRL c.val) 15 true := ⟨_, rfl⟩
  have conf : canConfOk x c = false := by rw [is, canConfOk_putBit]; exact bad
  have held : (x.can c).faultHeld = false := by rw [is]; exact free
  have row : exec (.canEnable c t) s =
      done ((x.updCan c fun y => { y with phase := .off, cfgErr := true }).raise (Src.can c.val 5) c.val) := by
    refine congrArg done ((if_neg (by rw [at_bit, off]; exact Bool.false_ne_true)).trans ?_)
    rw [← is, canEnable]
    extract_lets n
    rw [if_neg (by rw [held]; exact Bool.false_ne_true), if_neg (by rw [conf]; exact Bool.false_ne_true)]
  refine completes_done row ?_
  rw [settle_can_gap, can_congr (raise_cans _ _ _), can_updCan_self]
  exact ⟨rfl, rfl⟩

theorem canAttemptEnds_kept (kept : (s.can c).flushHead = false) : (canAttemptEnds s c).can c = { s.can c with txBusy := false } := by
  cases busy : (s.can c).txBusy with
  | false =>
    rw [canAttemptEnds_idle busy]
    generalize s.can c = k at *
    cases k
    subst busy
    rfl
  | true =>
    rw [canAttemptEnds_can busy, kept]
    generalize s.can c = k at *
    cases k
    subst kept
    rfl

theorem completes_canDisable (on : s.bit (CAN_CTRL c.val) 15 = true) (kept : (s.can c).flushHead = false) :
    Completes (.canDisable c t) s fun u => u.can c = { s.can c with phase := .off, waitRec := false, recSeq := 0, txBusy := false } ∧
      (u.reg (CAN_CTRL c.val)).getLsbD 15 = false := by
  obtain ⟨x, is⟩ : ∃ x, x = (s.at t).putBit (CAN_CTRL c.val) 15 false := ⟨_, rfl⟩
  have row : exec (.canDisable c t) s = done (canDisable x c) := by
    rw [is]
    exact congrArg done (if_pos (by rw [at_bit, on]))
  have ended : (canAttemptEnds x c).can c = { s.can c with txBusy := false } := by
    rw [canAttemptEnds_kept (by rw [is]; exact kept), is]
    rfl
  refine completes_done row ⟨?_, ?_⟩
  · rw [settle_can_gap, canDisable, can_updCan_self, ended]
    rfl
  · have other : ∀ c : Fin 4, CAN_CTRL c.val ∉ canNotes c := by decide
    rw [reg_settle_of_not_closing _ _ (canCtrl_open c)]
    refine (congrArg (·.getLsbD 15) ((canNoted_canAttemptEnds x c).reg (other c))).trans ?_
    rw [is, getLsbD_putBit _ _ _ (by decide)]
    rfl

theorem canPassive_low {k : CanCtl} (tx : k.txErr ≤ 127) (rx : k.rxErr ≤ 127) : canPassive k = false := by
  rw [canPassive, decide_eq_false (by omega), decide_eq_false (by omega)]
  rfl

/-- A controller that takes part on the bus, its counters low. -/
def takesPart (s : State) (c : Fin 4) (x : CanCtl) : CanCtl := { x with phase := .active, txBusy := x.txBusy || begins s c }

theorem sameRegs_of_regs (h : u.regs = s.regs) : SameRegs s (settle u) [] := KeepsRegs.settle (.of_regs h [])

theorem completes_canIntegrated (waits : (s.can c).phase = .integrating) (tx : (s.can c).txErr ≤ 127) (rx : (s.can c).rxErr ≤ 127) :
    Completes (.canIntegrated c t) s fun u => CanIs u c (takesPart s c (s.can c)) ∧ SameRegs s u [] := by
  obtain ⟨x, is⟩ : ∃ x, x = (s.at t).updCan c (inPhase .active) := ⟨_, rfl⟩
  have row : exec (.canIntegrated c t) s = done (canStart x c) := by
    refine congrArg done ((if_neg fun h => h waits).trans ((if_neg ?_).trans ?_))
    · exact Nat.not_lt.2 (Nat.le_trans tx (by decide))
    · rw [is]
      refine congrArg (canStart · c) (updCan_congr ?_)
      change inPhase (if canPassive (s.can c) = true then .passive else .active) (s.can c) = _
      rw [canPassive_low tx rx]
      rfl
  have stands : x.can c = inPhase .active (s.can c) := by rw [is, can_updCan_self]; rfl
  have starts : (canStart x c).can c = takesPart s c (s.can c) := by
    rw [canStart_active (by rw [stands]; rfl), begins, canConf, stands]
    rfl
  refine completes_done row ⟨canIs_settle (p := .active) starts rfl (by decide), ?_⟩
  refine sameRegs_of_regs ?_
  rw [canStart_regs, is]
  rfl

/-! Frames sent, attempts lost and errors (R345, R354-R357). -/

theorem canNoted_canStore (s : State) (c : Fin 4) (e : CanEntry) : CanNoted s (canStore s c e) c := by
  have taken (f : CanCtl → CanCtl) : CanNoted s (s.updCan c f) c := .of_regs rfl
  have lost : ∀ c : Fin 4, CAN_RXLOST c.val ∈ [CAN_BOFFC c.val, CAN_RXLOST c.val, CAN_SPFULL c.val, CAN_TDCV c.val] := by decide
  unfold canStore
  extract_lets x
  split
  · exact (taken _).evt _
  · exact (((taken _).bump (lost c)).evt _).raise _ _

/-- An entry stored leaves what the controller sends and its counters. -/
def SameSender (x y : CanCtl) : Prop := y = { x with rx := y.rx, lost := y.lost, fwd := y.fwd, spot := y.spot }

theorem sameSender_canStore (s : State) (c : Fin 4) (e : CanEntry) : SameSender (s.can c) ((canStore s c e).can c) := by
  have taken (f : CanCtl → CanCtl) (same : ∀ y, SameSender y (f y)) : SameSender (s.can c) ((s.updCan c f).can c) := by
    rw [can_updCan_self]
    exact same _
  unfold canStore
  extract_lets x
  split
  · exact taken _ fun y => rfl
  · have told := can_congr (raise_cans (((s.updCan c fun x => { x with lost := true }).bump (CAN_RXLOST c.val)).canEvt c canRXLOST)
      (Src.can c.val 1) c.val) c
    rw [told]
    exact taken _ fun y => rfl

theorem canCounters_apart : ∀ c : Fin 4, CAN_TXOK c.val ∉ canNotes c ∧ CAN_ERRCNT c.val ∉ canNotes c ∧ CAN_RXOK c.val ∉ canNotes c := by decide
theorem canCounters_open : ∀ c : Fin 4, closingReg (CAN_TXOK c.val) = false ∧ closingReg (CAN_ERRCNT c.val) = false ∧
    closingReg (CAN_BOFFC c.val) = false := by decide
theorem canEvt_ne : ∀ c : Fin 4, CAN_TXOK c.val ≠ CAN_EVT c.val ∧ CAN_ERRCNT c.val ≠ CAN_EVT c.val ∧ CAN_BOFFC c.val ≠ CAN_EVT c.val ∧
    CAN_BOFFC c.val ≠ CAN_ERRCNT c.val := by decide

/-- The last steps of a command on the bus: the error state, and the next frame. -/
theorem canCloses (old : CanCtl) (s : State) (c : Fin 4) : CanNoted s (canStart (canErrorState old s c) c) c ∧
    SameBuffers (s.can c) ((canStart (canErrorState old s c) c).can c) ∧
    ((s.can c).txBusy = false → ((canStart (canErrorState old s c) c).can c).tx = (s.can c).tx ∧
      ((canStart (canErrorState old s c) c).can c).flushHead = (s.can c).flushHead) := by
  refine ⟨(canNoted_canErrorState old s c).same (canStart_regs _ _), ?_, fun idle => ?_⟩
  · rw [canStart_can]
    exact (sameBuffers_canErrorState old s c).trans rfl
  · rw [canStart_can]
    exact canErrorState_frames old idle

/-- The head of the transmit FIFO has been sent. -/
structure HeadSent (s u : State) (c : Fin 4) (rest : List CanTx) : Prop where
  tx : (u.can c).tx = rest
  err : (u.can c).txErr = (s.can c).txErr - 1
  flush : (u.can c).flushHead = false
  counted : u.reg (CAN_TXOK c.val) = bumpW (s.reg (CAN_TXOK c.val)) 1
  shown : EvtSet u (CAN_EVT c.val) canTXDONE

theorem canSent_head {h : CanTx} {rest : List CanTx} {sof delay : Nat} (waits : (s.can c).tx = h :: rest) (busy : (s.can c).txBusy = true)
    (close : (bitOf (((s.can c).conf[6]?).getD 0) 15 && bitOf h.w0 12) = false ∨ delay ≤ 1023) :
    HeadSent s (canSent s c sof delay) c rest := by
  unfold canSent
  extract_lets x
  rw [show x.tx = h :: rest from waits]
  dsimp -zeta only
  rw [if_neg (by rw [show x.txBusy = true from busy]; exact Bool.false_ne_true)]
  extract_lets tdc s1 s2 s3 s4 e s5
  have inTime : ¬ (tdc = true ∧ delay > 1023) := fun both => close.elim (fun off => Bool.noConfusion (off.symm.trans both.1)) (by omega)
  rw [if_neg inTime]
  have first : CanNoted s s1 c ∧ s1.can c = s.can c := by
    unfold s1
    split
    · exact ⟨(CanNoted.refl _).setTdcv _, rfl⟩
    · exact ⟨.refl _, rfl⟩
  obtain ⟨noted, same⟩ := first
  have third : s3.can c = { s.can c with tx := rest, txBusy := false, flushHead := false, txErr := (s.can c).txErr - 1 } ∧
      s3.reg (CAN_TXOK c.val) = bumpW (s.reg (CAN_TXOK c.val)) 1 ∧ EvtSet s3 (CAN_EVT c.val) canTXDONE := by
    refine ⟨?_, ?_, evtSet_evt _ _ _ (by decide)⟩
    · refine (can_updCan_self s1 c _).trans ?_
      rw [same]
    · refine (reg_evt_ne _ _ (canEvt_ne c).1).trans ((reg_bump_self _ _).trans (congrArg (bumpW · 1) ?_))
      exact noted.reg (canCounters_apart c).1
  obtain ⟨ctl, reg, evt⟩ := third
  have more : CanNoted s3 s5 c ∧ SameSender (s3.can c) (s5.can c) := by
    have fourth : CanNoted s3 s4 c ∧ s4.can c = s3.can c := by
      unfold s4
      split
      · exact ⟨(CanNoted.refl _).evt _, rfl⟩
      · exact ⟨.refl _, rfl⟩
    obtain ⟨noted4, same4⟩ := fourth
    rw [← same4]
    unfold s5
    split
    · exact ⟨noted4, rfl⟩
    · split
      · refine ⟨noted4.same rfl, ?_⟩
        rw [can_updCan_self]
        rfl
      · exact ⟨noted4.trans (canNoted_canStore _ _ _), sameSender_canStore _ _ _⟩
  obtain ⟨noted5, sender⟩ := more
  obtain ⟨closes, buffers, frames⟩ := canCloses x s5 c
  have idle : (s5.can c).txBusy = false := by rw [sender, ctl]
  obtain ⟨tx, flush⟩ := frames idle
  refine ⟨?_, ?_, ?_, ?_, closes.shows _ (noted5.shows _ evt)⟩
  · rw [tx, sender, ctl]
  · rw [buffers, sender, ctl]
  · rw [flush, sender, ctl]
  · rw [closes.reg (canCounters_apart c).1, noted5.reg (canCounters_apart c).1, reg]

theorem completes_canFrameSent {h : CanTx} {rest : List CanTx} {sof delay : Nat} (waits : (s.can c).tx = h :: rest) (busy : (s.can c).txBusy = true)
    (close : (bitOf (((s.can c).conf[6]?).getD 0) 15 && bitOf h.w0 12) = false ∨ delay ≤ 1023) : Completes (.canFrameSent c sof delay t) s fun u =>
      (u.can c).tx = rest ∧ (u.can c).txErr = (s.can c).txErr - 1 ∧ (u.can c).flushHead = false ∧
      u.reg (CAN_TXOK c.val) = bumpW (s.reg (CAN_TXOK c.val)) 1 ∧ (u.reg (CAN_EVT c.val)).getLsbD canTXDONE = true := by
  have row : exec (.canFrameSent c sof delay t) s = done (canSent (s.at t) c sof delay) := rfl
  obtain ⟨tx, err, flush, reg, evt⟩ := canSent_head (s := s.at t) (sof := sof) waits busy close
  refine completes_done row ⟨?_, ?_, ?_, ?_, evt.settled (canEvt_apart c)⟩
  · rw [settle_can_tx, tx]
  · rw [settle_can_txErr, err]
    rfl
  · rw [settle_can_flushHead, flush]
  · rw [reg_settle_of_not_closing _ _ (canCounters_open c).1, reg]
    rfl

theorem completes_canArbitrationLost (busy : (s.can c).txBusy = true) : Completes (.canArbitrationLost c t) s fun u =>
    (u.can c).tx = (if (s.can c).flushHead then (s.can c).tx.drop 1 else (s.can c).tx) ∧ (u.can c).txBusy = false ∧
    (u.can c).txErr = (s.can c).txErr := by
  have ended := canAttemptEnds_can (s := s.at t) (c := c) busy
  have row : exec (.canArbitrationLost c t) s = done (canAttemptEnds (s.at t) c) := rfl
  refine completes_done row ⟨?_, settle_can_idle (by rw [ended]), ?_⟩
  · rw [settle_can_tx, ended]
    rfl
  · rw [settle_can_txErr, ended]
    rfl

end Sys2Proof.Machine
end

section
set_option Elab.async false
/-! SUPPORT. Errors on the CAN bus, recovery and flushing (R355, R357, R358). -/

namespace Sys2Proof.Machine

variable {s u x : State} {c : Fin 4} {t : Nat} {kind : CanErr} {dataPhase special : Bool}

/-- A controller that has seen an error. -/
def sawError (kind : CanErr) (dataPhase : Bool) (x : CanCtl) : CanCtl := { x with lec := kind, lecSeen := true, lecData := dataPhase }

/-- The error counted and shown. -/
def errorSeen (s : State) (c : Fin 4) (kind : CanErr) (dataPhase : Bool) : State :=
  ((s.bump (CAN_ERRCNT c.val)).canEvt c canPERR).updCan c (sawError kind dataPhase)

/-- What a command leaves of an error it has seen. -/
structure ErrorSeen (s u : State) (c : Fin 4) (kind : CanErr) (dataPhase : Bool) : Prop where
  lec : (u.can c).lec = kind ∧ (u.can c).lecSeen = true ∧ (u.can c).lecData = dataPhase
  counted : u.reg (CAN_ERRCNT c.val) = bumpW (s.reg (CAN_ERRCNT c.val)) 1
  shown : EvtSet u (CAN_EVT c.val) canPERR

theorem errorSeen_can (s : State) (c : Fin 4) (kind : CanErr) (dataPhase : Bool) :
    (errorSeen s c kind dataPhase).can c = sawError kind dataPhase (s.can c) := can_updCan_self _ _ _

theorem errorSeen_reg (s : State) {a : Nat} (other : a ≠ CAN_ERRCNT c.val) (notEvt : a ≠ CAN_EVT c.val) :
    (errorSeen s c kind dataPhase).reg a = s.reg a := by
  refine (reg_evt_ne (s.bump (CAN_ERRCNT c.val)) _ notEvt).trans (reg_bump_ne _ other)

/-- The steps after an error leave it counted and shown. -/
theorem ErrorSeen.of_steps (noted : CanNoted (errorSeen s c kind dataPhase) u c)
    (lec : (u.can c).lec = kind ∧ (u.can c).lecSeen = true ∧ (u.can c).lecData = dataPhase) : ErrorSeen s u c kind dataPhase := by
  refine ⟨lec, ?_, noted.shows _ (evtSet_evt (s.bump (CAN_ERRCNT c.val)) _ _ (by decide))⟩
  rw [noted.reg (canCounters_apart c).2.1]
  exact (reg_evt_ne (s.bump (CAN_ERRCNT c.val)) _ (canEvt_ne c).2.1).trans (reg_bump_self _ _)

theorem ErrorSeen.settle (h : ErrorSeen s u c kind dataPhase) : ErrorSeen s (settle u) c kind dataPhase := by
  obtain ⟨lec, counted, shown⟩ := h
  refine ⟨?_, ?_, shown.settled (canEvt_apart c)⟩
  · rw [settle_can]
    exact lec
  · rw [reg_settle_of_not_closing _ _ (canCounters_open c).2.1, counted]

theorem ErrorSeen.of_at (h : ErrorSeen (s.at t) u c kind dataPhase) : ErrorSeen s u c kind dataPhase := ⟨h.lec, h.counted, h.shown⟩

/-- A controller that takes part on the bus and is not restricted to listening. -/
structure Takes (s : State) (c : Fin 4) : Prop where
  part : (s.can c).phase = .active ∨ (s.can c).phase = .passive
  full : bitOf (canConf s c) 14 = false

theorem Takes.notOut (h : Takes s c) : ¬ ((s.can c).phase = .off ∨ (s.can c).phase = .busOff ∨ (s.can c).phase = .recovering ∨
    (s.can c).phase = .integrating) := by
  rcases h.part with is | is <;> rw [is] <;> decide

/-- The transmitter's counter after an error. -/
def txFails (special : Bool) (x : CanCtl) : CanCtl := { x with txErr := if special then x.txErr else x.txErr + 8 }
/-- The receiver's counter after an error. -/
def rxFails (special : Bool) (x : CanCtl) : CanCtl := { x with rxErr := x.rxErr + (if special then 8 else 1) }

theorem canError_own (h : Takes s c) (busy : (s.can c).txBusy = true) : canError s c kind dataPhase true special =
    canStart (canErrorState (s.can c) ((canAttemptEnds (errorSeen s c kind dataPhase) c).updCan c (txFails special)) c) c := by
  unfold canError
  extract_lets x s1 s2
  rw [if_neg h.notOut, if_neg (by rw [h.full]; exact Bool.false_ne_true), if_pos ⟨rfl, busy⟩]
  rfl

theorem canError_other (h : Takes s c) : canError s c kind dataPhase false special =
    canStart (canErrorState (s.can c) ((errorSeen s c kind dataPhase).updCan c (rxFails special)) c) c := by
  unfold canError
  extract_lets x s1 s2
  rw [if_neg h.notOut, if_neg (by rw [h.full]; exact Bool.false_ne_true), if_neg (fun both => Bool.false_ne_true both.1)]
  rfl

theorem canAttemptEnds_regs (kept : (s.can c).flushHead = false) : (canAttemptEnds s c).regs = s.regs := by
  unfold canAttemptEnds
  extract_lets x y
  split
  · rfl
  · rw [if_neg (by rw [show x.flushHead = false from kept]; exact fun both => Bool.false_ne_true both.1)]
    rfl

theorem completes_canProtocolError_other (h : Takes s c) : Completes (.canProtocolError c kind dataPhase false special t) s fun u =>
    ErrorSeen s u c kind dataPhase ∧ (u.can c).rxErr = (s.can c).rxErr + (if special then 8 else 1) ∧ (u.can c).txErr = (s.can c).txErr := by
  obtain ⟨y, is⟩ : ∃ y, y = (errorSeen (s.at t) c kind dataPhase).updCan c (rxFails special) := ⟨_, rfl⟩
  have row : exec (.canProtocolError c kind dataPhase false special t) s = done (canStart (canErrorState ((s.at t).can c) y c) c) := by
    rw [is]
    exact congrArg done (canError_other (s := s.at t) ⟨h.part, h.full⟩)
  have ctl : y.can c = rxFails special (sawError kind dataPhase (s.can c)) := by
    rw [is, can_updCan_self, errorSeen_can]
    rfl
  obtain ⟨noted, buffers, _⟩ := canCloses ((s.at t).can c) y c
  have before : CanNoted (errorSeen (s.at t) c kind dataPhase) y c := .of_regs (by rw [is]; rfl)
  generalize canStart (canErrorState ((s.at t).can c) y c) c = u at row noted buffers
  have seen : ErrorSeen (s.at t) u c kind dataPhase := .of_steps (before.trans noted) (by rw [buffers, ctl]; exact ⟨rfl, rfl, rfl⟩)
  refine completes_done row ⟨seen.of_at.settle, ?_, ?_⟩
  · rw [settle_can_rxErr, buffers, ctl]
    rfl
  · rw [settle_can_txErr, buffers, ctl]
    rfl

theorem completes_canProtocolError_own (h : Takes s c) (busy : (s.can c).txBusy = true) (kept : (s.can c).flushHead = false) :
    Completes (.canProtocolError c kind dataPhase true special t) s fun u =>
      ErrorSeen s u c kind dataPhase ∧ (u.can c).txErr = (if special then (s.can c).txErr else (s.can c).txErr + 8) ∧ (u.can c).tx = (s.can c).tx ∧
      (255 < (u.can c).txErr → u.reg (CAN_BOFFC c.val) = bumpW (s.reg (CAN_BOFFC c.val)) 1) := by
  obtain ⟨z, isZ⟩ : ∃ z, z = errorSeen (s.at t) c kind dataPhase := ⟨_, rfl⟩
  obtain ⟨y, is⟩ : ∃ y, y = (canAttemptEnds z c).updCan c (txFails special) := ⟨_, rfl⟩
  have row : exec (.canProtocolError c kind dataPhase true special t) s = done (canStart (canErrorState ((s.at t).can c) y c) c) := by
    rw [is, isZ]
    exact congrArg done (canError_own (s := s.at t) ⟨h.part, h.full⟩ busy)
  have ctlZ : z.can c = sawError kind dataPhase (s.can c) := by rw [isZ, errorSeen_can]; rfl
  have keptZ : (z.can c).flushHead = false := by rw [ctlZ]; exact kept
  have ctl : y.can c = txFails special { sawError kind dataPhase (s.can c) with txBusy := false } := by
    rw [is, can_updCan_self, canAttemptEnds_kept keptZ, ctlZ]
  have regsY : y.regs = z.regs := by rw [is]; exact canAttemptEnds_regs keptZ
  have before : CanNoted (errorSeen (s.at t) c kind dataPhase) y c := .of_regs (by rw [regsY, isZ])
  have offReg : y.reg (CAN_BOFFC c.val) = s.reg (CAN_BOFFC c.val) := by
    rw [reg_congr regsY, isZ]
    exact errorSeen_reg (s.at t) (canEvt_ne c).2.2.2 (canEvt_ne c).2.2.1
  have idle : (y.can c).txBusy = false := by rw [ctl]; rfl
  obtain ⟨noted, buffers, frames⟩ := canCloses ((s.at t).can c) y c
  obtain ⟨tx, _⟩ := frames idle
  have bus : 255 < (y.can c).txErr → (canStart (canErrorState ((s.at t).can c) y c) c).reg (CAN_BOFFC c.val) =
      bumpW (s.reg (CAN_BOFFC c.val)) 1 := by
    intro high
    have phase : (y.can c).phase = (s.can c).phase := by rw [ctl]; rfl
    rw [reg_congr (canStart_regs _ _), canErrorState_busOff _ (by rw [phase]; exact h.part) high, canBusOff, canAttemptEnds_idle idle]
    rw [reg_congr (raise_regs _ _ _)]
    refine (reg_evt_ne _ _ (canEvt_ne c).2.2.1).trans ((reg_bump_self _ _).trans (congrArg (bumpW · 1) offReg))
  generalize canStart (canErrorState ((s.at t).can c) y c) c = u at row noted buffers tx bus
  have seen : ErrorSeen (s.at t) u c kind dataPhase := .of_steps (before.trans noted) (by rw [buffers, ctl]; exact ⟨rfl, rfl, rfl⟩)
  have err : (u.can c).txErr = (y.can c).txErr := by rw [buffers]
  refine completes_done row ⟨seen.of_at.settle, ?_, ?_, fun high => ?_⟩
  · rw [settle_can_txErr, err, ctl]
    rfl
  · rw [settle_can_tx, tx, ctl]
    rfl
  · rw [settle_can_txErr, err] at high
    rw [reg_settle_of_not_closing _ _ (canCounters_open c).2.2]
    exact bus high

/-! Recovery and flushing (R355, R358). -/

/-- A controller that has come back to the bus. -/
def recovered (x : CanCtl) : CanCtl := { x with phase := .active, txErr := 0, rxErr := 0, recSeq := 128, waitRec := false }

theorem completes_canRecoveryDone (recovers : (s.can c).phase = .recovering) : Completes (.canRecoveryDone c t) s fun u =>
    CanIs u c { recovered (s.can c) with txBusy := (s.can c).txBusy || begins s c } ∧ (u.reg (CAN_EVT c.val)).getLsbD canBOFFEND = true := by
  obtain ⟨x, is⟩ : ∃ x, x = ((s.at t).updCan c recovered).canEvt c canBOFFEND := ⟨_, rfl⟩
  have row : exec (.canRecoveryDone c t) s = done (canStart x c) := by
    rw [is]
    exact congrArg done (if_neg fun h => h recovers)
  have stands : x.can c = recovered (s.can c) := by rw [is]; exact can_updCan_self (s.at t) c recovered
  have starts : (canStart x c).can c = { recovered (s.can c) with txBusy := (s.can c).txBusy || begins s c } := by
    rw [canStart_active (by rw [stands]; rfl), begins, canConf, stands]
    rfl
  have told : EvtSet x (CAN_EVT c.val) canBOFFEND := by rw [is]; exact evtSet_evt _ _ _ (by decide)
  exact completes_done row ⟨canIs_settle (p := .active) starts rfl (by decide), (told.congr (canStart_regs x c)).settled (canEvt_apart c)⟩

theorem completes_txflush_busy (busy : (s.can c).txBusy = true) : Completes (.txflush c t) s fun u =>
    (u.can c).tx = (s.can c).tx.take 1 ∧ (u.can c).flushHead = true := by
  have row : exec (.txflush c t) s = done ((s.at t).updCan c fun x => { x with tx := x.tx.take 1, flushHead := true }) :=
    congrArg done (if_pos busy)
  refine completes_done row ?_
  rw [settle_can_tx, settle_can_flushHead, can_updCan_self]
  exact ⟨rfl, rfl⟩

theorem completes_txflush_idle (idle : (s.can c).txBusy = false) (waits : (s.can c).tx ≠ []) : Completes (.txflush c t) s fun u =>
    (u.can c).tx = [] ∧ (u.reg (CAN_EVT c.val)).getLsbD canTXEMPTY = true := by
  have row : exec (.txflush c t) s = done (((s.at t).updCan c fun x => { x with tx := [] }).canEvt c canTXEMPTY) := by
    refine congrArg done ((if_neg ?_).trans (if_neg ?_))
    · rw [show ((s.at t).can c).txBusy = false from idle]
      exact Bool.false_ne_true
    · rw [List.isEmpty_iff]
      exact waits
  refine completes_done row ⟨?_, (evtSet_evt _ _ _ (by decide)).settled (canEvt_apart c)⟩
  rw [settle_can_tx]
  exact congrArg CanCtl.tx (can_updCan_self (s.at t) c fun x => { x with tx := [] })

theorem completes_recover (off : (s.can c).phase = .busOff) : Completes (.recover c t) s fun u =>
    CanIs u c { s.can c with phase := .recovering, waitRec := false, recSeq := 0 } ∧ SameRegs s u [] := by
  have row : exec (.recover c t) s = done ((s.at t).updCan c fun x => { x with phase := .recovering, waitRec := false, recSeq := 0 }) :=
    congrArg done (if_pos off)
  exact completes_done row ⟨canIs_settle (p := .recovering) (can_updCan_self (s.at t) c _) rfl (by decide), sameRegs_of_regs rfl⟩

end Sys2Proof.Machine
end

section
set_option Elab.async false
/-! SUPPORT. CAN frames received, and records and entries through the registers (R347-R354). -/

namespace Sys2Proof.Machine

variable {s u x : State} {c : Fin 4} {t : Nat} {path : Path}

/-! A validated frame (R349-R351, R357). -/

/-- The frame counted, and the receiver's error counter with it. -/
def frameCounted (s : State) (c : Fin 4) : State := (s.bump (CAN_RXOK c.val)).updCan c fun x => { x with rxErr := x.rxErr - 1 }

theorem canFilters_apart : ∀ c : Fin 4, CAN_FLT_CFG c.val ≠ CAN_RXOK c.val ∧ CAN_FLT_ID_H c.val ≠ CAN_RXOK c.val ∧
    CAN_FLT_ID_L c.val ≠ CAN_RXOK c.val ∧ CAN_FLT_MSK_H c.val ≠ CAN_RXOK c.val ∧ CAN_FLT_MSK_L c.val ≠ CAN_RXOK c.val := by decide

theorem frameCounted_cfg (s : State) (c : Fin 4) {i : Nat} (small : i < 65536) :
    (frameCounted s c).regSel (CAN_FLT_CFG c.val) i = s.regSel (CAN_FLT_CFG c.val) i :=
  regSel_bump s _ _ i small (canFilters_apart c).1

theorem filterHits_counted (s : State) (c : Fin 4) {i : Nat} (small : i < 65536) (w0 w1 w2 : Word) :
    filterHits (frameCounted s c) c i w0 w1 w2 = filterHits s c i w0 w1 w2 := by
  obtain ⟨cfg, idH, idL, maskH, maskL⟩ := canFilters_apart c
  have same {a : Nat} (other : a ≠ CAN_RXOK c.val) : (frameCounted s c).regSel a i = s.regSel a i := regSel_bump s _ _ i small other
  unfold filterHits
  rw [same cfg, same idH, same idL, same maskH, same maskL]

/-- With both counters low the error state stays. -/
theorem canErrorState_low {old : CanCtl} (before : canPassive old = false) (tx : (s.can c).txErr ≤ 127) (rx : (s.can c).rxErr ≤ 127) :
    canErrorState old s c = s := by
  have low : canPassive (s.can c) = false := canPassive_low tx rx
  have bound : ¬ ((s.can c).txErr > 255 ∧ (s.can c).phase ≠ .gap) := fun h => absurd h.1 (Nat.not_lt.2 (Nat.le_trans tx (by decide)))
  have notIn : ¬ (canPassive (s.can c) = true ∧ (!canPassive old) = true) := fun h => Bool.false_ne_true (low.symm.trans h.1)
  have notOut : ¬ ((!canPassive (s.can c)) = true ∧ canPassive old = true) := fun h => Bool.false_ne_true (before.symm.trans h.2)
  unfold canErrorState
  extract_lets x shown
  by_cases out : x.phase ≠ .active ∧ x.phase ≠ .passive ∧ x.phase ≠ .gap
  · exact if_pos out
  · exact (if_neg out).trans ((if_neg bound).trans ((if_neg notIn).trans (if_neg notOut)))

/-- A frame that a controller takes which is active, with low counters, and not restricted. -/
structure Admits (s : State) (c : Fin 4) (w0 : Word) (data : List Word) : Prop where
  active : (s.can c).phase = .active
  format : bitOf w0 13 = false ∨ bitOf (canConf s c) 13 = true
  full : bitOf (canConf s c) 14 = false
  tx : (s.can c).txErr ≤ 127
  rx : (s.can c).rxErr ≤ 127
  length : data.length = canDataWords (w0 &&& 0x7C0F)

theorem canReceive_admits {w0 w1 w2 : Word} {data : List Word} {sof : Nat} (h : Admits s c w0 data) : canReceive s c w0 w1 w2 data sof =
    canStart (canErrorState (s.can c) (canSort (frameCounted s c) c (w0 &&& 0x7C0F) (w1 &&& 0x1FFF) w2 data (canStamp s (min sof s.now))) c) c := by
  unfold canReceive
  extract_lets x w0' n s1 s2 s3
  rw [show x.phase = .active from h.active]
  dsimp -zeta only
  have known : ¬ (bitOf w0 13 = true ∧ (!bitOf (canConf s c) 13) = true) := by
    rintro ⟨fd, unknown⟩
    rcases h.format with classic | allowed
    · exact Bool.noConfusion (fd.symm.trans classic)
    · rw [allowed] at unknown
      exact Bool.noConfusion unknown
  rw [if_neg known]
  have counted : s2 = frameCounted s c := by
    unfold s2
    rw [if_neg (by rw [h.full]; exact Bool.false_ne_true), if_neg (Nat.not_lt.2 h.rx)]
    rfl
  have words : (data ++ List.replicate n 0).take n = data := by
    rw [show n = data.length from h.length.symm, List.take_left]
  unfold s3
  rw [counted, words]

/-- An entry as the filter that decides it makes it. -/
def sortedW3 (c : Fin 4) (i : Nat) : Word := putFld c.val 14 13 ||| putFld i 12 8

section
variable {w0 w1 w2 : Word} {data stamp : List Word} {i : Nat}
  (found : (List.range 32).find? (fun i => filterHits s c i w0 w1 w2) = some i)
include found

theorem canSort_store (mode : fld (s.regSel (CAN_FLT_CFG c.val) i) 15 14 = 1) :
    canSort s c w0 w1 w2 data stamp = canStore s c ⟨w0, w1, w2, sortedW3 c i, stamp, data⟩ := by
  unfold canSort
  rw [found]
  dsimp -zeta only
  rw [mode]
  rfl

theorem canSort_spot (mode : fld (s.regSel (CAN_FLT_CFG c.val) i) 15 14 = 2) (room : (s.can c).spot.length < 4) :
    canSort s c w0 w1 w2 data stamp = ((s.updCan c fun x =>
      { x with spot := x.spot ++ [⟨w0 ||| bitW true 9, w1, w2, sortedW3 c i, stamp, data⟩] }).canEvt c canSPOT).barReady .fh .signal (.wake 3) := by
  unfold canSort
  rw [found]
  dsimp -zeta only
  rw [mode]
  exact if_pos room

end

/-- The last steps of a command on the bus leave the buffers and what was counted. -/
structure BusCloses (s u : State) (c : Fin 4) : Prop where
  noted : CanNoted s u c
  buffers : SameBuffers (s.can c) (u.can c)

theorem busCloses (old : CanCtl) (s : State) (c : Fin 4) : BusCloses s (canStart (canErrorState old s c) c) c :=
  ⟨(canCloses old s c).1, (canCloses old s c).2.1⟩

section
variable {w0 w1 w2 : Word} {data : List Word} {sof i : Nat} (admits : Admits s c w0 data)
  (found : (List.range 32).find? (fun i => filterHits s c i (w0 &&& 0x7C0F) (w1 &&& 0x1FFF) w2) = some i)

/-- The entry of a received frame. -/
def receivedEntry (s : State) (c : Fin 4) (w0 w1 w2 : Word) (data : List Word) (sof i t : Nat) (flags : Word) : CanEntry :=
  ⟨w0 &&& 0x7C0F ||| flags, w1 &&& 0x1FFF, w2, sortedW3 c i, canStamp (s.at t) (min sof (max s.now t)), data⟩

include found in
theorem found_counted : i < 32 ∧
    (List.range 32).find? (fun i => filterHits (frameCounted (s.at t) c) c i (w0 &&& 0x7C0F) (w1 &&& 0x1FFF) w2) = some i := by
  refine ⟨List.mem_range.1 (List.mem_of_find?_eq_some found), (List.find?_congr fun j mem => ?_).trans found⟩
  exact filterHits_counted (s.at t) c (Nat.lt_trans (List.mem_range.1 mem) (by decide)) _ _ _

/-- What the command leaves of the sorted frame. -/
theorem completes_canFrameReceive {y : State} {p : State → Prop} (admits : Admits s c w0 data)
    (sorted : canSort (frameCounted (s.at t) c) c (w0 &&& 0x7C0F) (w1 &&& 0x1FFF) w2 data (canStamp (s.at t) (min sof (max s.now t))) = y)
    (holds : ∀ u, BusCloses y u c → p (settle u)) : Completes (.canFrameReceive c w0 w1 w2 data sof t) s p := by
  have at_ : Admits (s.at t) c w0 data := ⟨admits.active, admits.format, admits.full, admits.tx, admits.rx, admits.length⟩
  have row : exec (.canFrameReceive c w0 w1 w2 data sof t) s = done (canStart (canErrorState ((s.at t).can c) y c) c) := by
    rw [← sorted]
    exact congrArg done (canReceive_admits at_)
  exact completes_done row (holds _ (busCloses _ y c))

/-- The frame counted reads as counted after the last steps. -/
theorem rxok_of_closes {y : State} (h : BusCloses y u c) (same : y.reg (CAN_RXOK c.val) = (frameCounted (s.at t) c).reg (CAN_RXOK c.val)) :
    (settle u).reg (CAN_RXOK c.val) = bumpW (s.reg (CAN_RXOK c.val)) 1 := by
  have shut : ∀ c : Fin 4, closingReg (CAN_RXOK c.val) = false := by decide
  rw [reg_settle_of_not_closing _ _ (shut c), h.noted.reg (canCounters_apart c).2.2, same]
  exact reg_bump_self (s.at t) _

theorem canRxok_ne : ∀ c : Fin 4, CAN_RXOK c.val ≠ CAN_EVT c.val ∧ CAN_RXLOST c.val ≠ CAN_EVT c.val ∧ CAN_RXLOST c.val ≠ CAN_RXOK c.val ∧
    closingReg (CAN_RXLOST c.val) = false := by decide

include admits found

theorem completes_canFrameReceive_fifo (mode : fld (s.regSel (CAN_FLT_CFG c.val) i) 15 14 = 1) (room : (s.can c).rx.length < 64) :
    Completes (.canFrameReceive c w0 w1 w2 data sof t) s fun u =>
      (u.can c).rx = (s.can c).rx ++ [receivedEntry s c w0 w1 w2 data sof i t (bitW (s.can c).lost 7)] ∧ (u.can c).lost = false ∧
      (u.can c).rxErr = (s.can c).rxErr - 1 ∧ u.reg (CAN_RXOK c.val) = bumpW (s.reg (CAN_RXOK c.val)) 1 ∧
      (u.reg (CAN_EVT c.val)).getLsbD canRX = true := by
  obtain ⟨small, hit⟩ := found_counted (t := t) found
  have cfg := (frameCounted_cfg (s.at t) c (Nat.lt_trans small (by decide))).trans (at_regSel s t _ i)
  obtain ⟨y, is⟩ : ∃ y, y = canStore (frameCounted (s.at t) c) c
    ⟨w0 &&& 0x7C0F, w1 &&& 0x1FFF, w2, sortedW3 c i, canStamp (s.at t) (min sof (max s.now t)), data⟩ := ⟨_, rfl⟩
  have ctl : (frameCounted (s.at t) c).can c = { s.can c with rxErr := (s.can c).rxErr - 1 } := can_updCan_self _ _ _
  have kept : ((frameCounted (s.at t) c).can c).rx.length < 64 := by rw [ctl]; exact room
  have stored : (y.can c).rx = (s.can c).rx ++ [receivedEntry s c w0 w1 w2 data sof i t (bitW (s.can c).lost 7)] ∧ (y.can c).lost = false ∧
      (y.can c).rxErr = (s.can c).rxErr - 1 ∧ y.reg (CAN_RXOK c.val) = (frameCounted (s.at t) c).reg (CAN_RXOK c.val) ∧
      EvtSet y (CAN_EVT c.val) canRX := by
    rw [is, canStore, if_pos kept]
    refine ⟨?_, ?_, ?_, reg_evt_ne _ _ (canRxok_ne c).1, evtSet_evt _ _ _ (by decide)⟩
    · refine (congrArg CanCtl.rx (can_updCan_self (frameCounted (s.at t) c) c _)).trans ?_
      rw [ctl]
      rfl
    · exact congrArg CanCtl.lost (can_updCan_self (frameCounted (s.at t) c) c _)
    · refine (congrArg CanCtl.rxErr (can_updCan_self (frameCounted (s.at t) c) c _)).trans ?_
      rw [ctl]
  obtain ⟨rx, lost, err, counted, shown⟩ := stored
  refine completes_canFrameReceive admits ((canSort_store hit (by rw [cfg]; exact mode)).trans is.symm) fun u closes => ?_
  refine ⟨?_, ?_, ?_, rxok_of_closes closes counted, (closes.noted.shows _ shown).settled (canEvt_apart c)⟩
  · rw [settle_can, closes.buffers, ← rx]
  · rw [settle_can, closes.buffers, ← lost]
  · rw [settle_can, closes.buffers, ← err]

theorem completes_canFrameReceive_lost (mode : fld (s.regSel (CAN_FLT_CFG c.val) i) 15 14 = 1) (full : 64 ≤ (s.can c).rx.length) :
    Completes (.canFrameReceive c w0 w1 w2 data sof t) s fun u =>
      (u.can c).rx = (s.can c).rx ∧ (u.can c).lost = true ∧ u.reg (CAN_RXLOST c.val) = bumpW (s.reg (CAN_RXLOST c.val)) 1 := by
  obtain ⟨small, hit⟩ := found_counted (t := t) found
  have cfg := (frameCounted_cfg (s.at t) c (Nat.lt_trans small (by decide))).trans (at_regSel s t _ i)
  obtain ⟨y, is⟩ : ∃ y, y = canStore (frameCounted (s.at t) c) c
    ⟨w0 &&& 0x7C0F, w1 &&& 0x1FFF, w2, sortedW3 c i, canStamp (s.at t) (min sof (max s.now t)), data⟩ := ⟨_, rfl⟩
  have ctl : (frameCounted (s.at t) c).can c = { s.can c with rxErr := (s.can c).rxErr - 1 } := can_updCan_self _ _ _
  have none_ : ¬ ((frameCounted (s.at t) c).can c).rx.length < 64 := by rw [ctl]; exact Nat.not_lt.2 full
  have stored : y.can c = { s.can c with rxErr := (s.can c).rxErr - 1, lost := true } ∧
      y.reg (CAN_RXLOST c.val) = bumpW (s.reg (CAN_RXLOST c.val)) 1 := by
    rw [is, canStore, if_neg none_]
    refine ⟨?_, ?_⟩
    · refine (can_congr (raise_cans _ _ _) c).trans ((can_updCan_self (frameCounted (s.at t) c) c _).trans ?_)
      rw [ctl]
    · refine (reg_congr (raise_regs _ _ _) _).trans ((reg_evt_ne _ _ (canRxok_ne c).2.1).trans ((reg_bump_self _ _).trans ?_))
      exact congrArg (bumpW · 1) (reg_bump_ne (s.at t) (canRxok_ne c).2.2.1)
  obtain ⟨stands, counted⟩ := stored
  have low : canErrorState ((s.at t).can c) y c = y := by
    refine canErrorState_low (canPassive_low admits.tx admits.rx) (by rw [stands]; exact admits.tx) ?_
    rw [stands]
    exact Nat.le_trans (Nat.sub_le _ _) admits.rx
  have at_ : Admits (s.at t) c w0 data := ⟨admits.active, admits.format, admits.full, admits.tx, admits.rx, admits.length⟩
  have row : exec (.canFrameReceive c w0 w1 w2 data sof t) s = done (canStart y c) := by
    refine congrArg done ((canReceive_admits at_).trans ?_)
    rw [canSort_store hit (by rw [cfg]; exact mode)]
    refine Eq.trans ?_ (congrArg (canStart · c) low)
    rw [is]
    rfl
  refine completes_done row ⟨?_, ?_, ?_⟩
  · rw [settle_can, canStart_can, stands]
  · rw [settle_can, canStart_can, stands]
  · rw [reg_settle_of_not_closing _ _ (canRxok_ne c).2.2.2, reg_congr (canStart_regs _ _), counted]

theorem completes_canFrameReceive_spot (mode : fld (s.regSel (CAN_FLT_CFG c.val) i) 15 14 = 2) (room : (s.can c).spot.length < 4) :
    Completes (.canFrameReceive c w0 w1 w2 data sof t) s fun u =>
      (u.can c).spot = (s.can c).spot ++ [receivedEntry s c w0 w1 w2 data sof i t (bitW true 9)] ∧ (u.can c).rx = (s.can c).rx ∧
      (u.reg (CAN_EVT c.val)).getLsbD canSPOT = true := by
  obtain ⟨small, hit⟩ := found_counted (t := t) found
  have cfg := (frameCounted_cfg (s.at t) c (Nat.lt_trans small (by decide))).trans (at_regSel s t _ i)
  obtain ⟨y, is⟩ : ∃ y, y = (frameCounted (s.at t) c).updCan c fun x =>
    { x with spot := x.spot ++ [receivedEntry s c w0 w1 w2 data sof i t (bitW true 9)] } := ⟨_, rfl⟩
  have ctl : (frameCounted (s.at t) c).can c = { s.can c with rxErr := (s.can c).rxErr - 1 } := can_updCan_self _ _ _
  have kept : ((frameCounted (s.at t) c).can c).spot.length < 4 := by rw [ctl]; exact room
  have stands : y.can c = { s.can c with rxErr := (s.can c).rxErr - 1
                                         spot := (s.can c).spot ++ [receivedEntry s c w0 w1 w2 data sof i t (bitW true 9)] } := by
    rw [is, can_updCan_self, ctl]
  obtain ⟨z, isZ⟩ : ∃ z, z = (y.canEvt c canSPOT).barReady .fh .signal (.wake 3) := ⟨_, rfl⟩
  have standsZ : z.can c = y.can c := by rw [isZ]; rfl
  have shown : EvtSet z (CAN_EVT c.val) canSPOT := by rw [isZ]; exact (evtSet_evt y _ _ (by decide)).congr rfl
  refine completes_canFrameReceive admits ((canSort_spot hit (by rw [cfg]; exact mode) kept).trans ?_) (y := z) fun u closes => ?_
  · rw [isZ, is]
    rfl
  · refine ⟨?_, ?_, (closes.noted.shows _ shown).settled (canEvt_apart c)⟩
    · rw [settle_can, closes.buffers, standsZ, stands]
    · rw [settle_can, closes.buffers, standsZ, stands]

end

end Sys2Proof.Machine
end

section
set_option Elab.async false
/-! SUPPORT. Records staged and pushed, entries popped and read out (R348, R352, R354). -/

namespace Sys2Proof.Machine

variable {s u x : State} {c : Fin 4} {t : Nat} {path : Path}

/-- An access that no lock holds is carried out. -/
theorem throughLock_free {addr : Nat} {write : Option Word} {f : State → State} (free : s.lockedOut path = false) :
    s.throughLock path addr write f = f s := if_neg (by rw [free]; exact Bool.false_ne_true)

theorem path_code_small (path : Path) : path.code < 5 := by cases path <;> decide

/-- A path's own place of five. -/
theorem toList_set_self {α : Type} (v : Vector α 5) (path : Path) (x : α) :
    (v.set path.code x (path_code_small path)).toList[path.code]? = some x := by
  rw [Vector.toList_set, List.getElem?_set_self (by rw [Vector.length_toList]; exact path_code_small path)]

theorem latchRegs_cans (path : Path) (l : List (Nat × Word)) (s : State) : (latchRegs s path l).cans = s.cans := by
  induction l generalizing s with
  | nil => rfl
  | cons y l ih => rw [latchRegs, ih]; rfl

/-! Entries popped and read out (R352). -/

/-- The words that a pop latches. -/
def poppedWords (c : Fin 4) (e : CanEntry) : List (Nat × Word) :=
  (List.range 7).map fun i => (CAN_RX_W c.val i, wAt ([e.w1, e.w2, e.w3] ++ e.stamp) i)

theorem poppedWords_keys (c : Fin 4) (e : CanEntry) : (poppedWords c e).map Prod.fst = (List.range 7).map fun i => CAN_RX_W c.val i := by
  unfold poppedWords
  rw [List.map_map]
  rfl

theorem poppedKeys_nodup : ∀ c : Fin 4, ((List.range 7).map fun i => CAN_RX_W c.val i).Nodup := by decide
theorem poppedKeys_open : ∀ c : Fin 4, ∀ i < 7, closingReg (CAN_RX_W c.val i) = false := by decide

/-- What a pop shows its path. -/
structure ShowsEntry (u : State) (path : Path) (c : Fin 4) (e : CanEntry) : Prop where
  data : (u.can c).dataPort.toList[path.code]? = some e.data
  words (i : Nat) : i < 7 → u.regSel (CAN_RX_W c.val i) path.code = wAt ([e.w1, e.w2, e.w3] ++ e.stamp) i

theorem showsEntry_canLatch (s : State) (path : Path) (c : Fin 4) (e : CanEntry) : ShowsEntry (settle (canLatch s path c e)) path c e := by
  obtain ⟨y, is⟩ : ∃ y, y = latchRegs s path (poppedWords c e) := ⟨_, rfl⟩
  have latched : canLatch s path c e = y.updCan c fun x => { x with dataPort := x.dataPort.set path.code e.data (path_code_small path) } := by
    rw [is]
    rfl
  refine ⟨?_, fun i small => ?_⟩
  · rw [settle_can, latched, can_updCan_self]
    exact toList_set_self _ _ _
  · have mem : (CAN_RX_W c.val i, wAt ([e.w1, e.w2, e.w3] ++ e.stamp) i) ∈ poppedWords c e :=
      List.mem_map.2 ⟨i, List.mem_range.2 small, rfl⟩
    rw [regSel_settle _ _ _ (path_code_lt path) (poppedKeys_open c i small), latched]
    change y.regSel _ _ = _
    rw [is]
    exact regSel_latchRegs s (by rw [poppedWords_keys]; exact poppedKeys_nodup c) mem

/-- What a pop shows, word by word. -/
theorem ShowsEntry.all {e : CanEntry} (h : ShowsEntry u path c e) : (u.can c).dataPort.toList[path.code]? = some e.data ∧
    u.regSel (CAN_RX_W c.val 0) path.code = e.w1 ∧ u.regSel (CAN_RX_W c.val 1) path.code = e.w2 ∧
    u.regSel (CAN_RX_W c.val 2) path.code = e.w3 ∧ ∀ i < 4, u.regSel (CAN_RX_W c.val (3 + i)) path.code = wAt e.stamp i := by
  refine ⟨h.data, h.words 0 (by decide), h.words 1 (by decide), h.words 2 (by decide), fun i small => ?_⟩
  rw [h.words (3 + i) (by omega), Nat.add_comm]
  rfl

/-- The buffers but for the data port. -/
theorem canLatch_can (s : State) (path : Path) (c : Fin 4) (e : CanEntry) : (canLatch s path c e).can c =
    { s.can c with dataPort := ((canLatch s path c e).can c).dataPort } := by
  have before := can_congr (latchRegs_cans path ((List.range 7).map fun i => (CAN_RX_W c.val i, wAt ([e.w1, e.w2, e.w3] ++ e.stamp) i)) s) c
  unfold canLatch
  extract_lets ws y
  rw [can_updCan_self, show y.can c = s.can c from before]

section
variable {e : CanEntry} {rest : List CanEntry} (free : s.lockedOut path = false) (local_ : s.bit (CAN_CTRL c.val) 8 = false)
  (loud : quiet s path = false)
include free local_ loud

omit free in
theorem canPop_first {spot : Bool} (first : (if spot then (s.can c).spot else (s.can c).rx) = e :: rest) : (canPop (s.at t) path c spot).2 =
    canLatch ((s.at t).updCan c fun x => if spot then { x with spot := rest } else { x with rx := rest }) path c e := by
  unfold canPop
  extract_lets x q empty
  have none_ : ¬ ((s.at t).bit (CAN_CTRL c.val) 8 && !quiet (s.at t) path) = true := by
    rw [at_bit, local_]
    exact Bool.false_ne_true
  rw [if_neg none_, show q = e :: rest from first]
  dsimp -zeta only
  rw [if_neg (by rw [show quiet (s.at t) path = false from loud]; exact Bool.false_ne_true)]

theorem completes_canRxPop (first : (s.can c).rx = e :: rest) : Completes (.canRxPop path c t) s fun u =>
    (u.can c).rx = rest ∧ ShowsEntry u path c e ∧ (u.can c).spot = (s.can c).spot := by
  obtain ⟨y, is⟩ : ∃ y, y = (s.at t).updCan c fun x => { x with rx := rest } := ⟨_, rfl⟩
  have row : exec (.canRxPop path c t) s = done (canLatch y path c e) := by
    rw [is]
    exact congrArg done ((throughLock_free (s := s.at t) free).trans (canPop_first local_ loud (spot := false) first))
  have stands : y.can c = { s.can c with rx := rest } := by rw [is, can_updCan_self]; rfl
  refine completes_done row ⟨?_, showsEntry_canLatch _ _ _ _, ?_⟩
  · rw [settle_can, canLatch_can, stands]
  · rw [settle_can, canLatch_can, stands]

theorem completes_canSpPop (first : (s.can c).spot = e :: rest) : Completes (.canSpPop path c t) s fun u =>
    (u.can c).spot = rest ∧ ShowsEntry u path c e ∧ (u.can c).rx = (s.can c).rx := by
  obtain ⟨y, is⟩ : ∃ y, y = (s.at t).updCan c fun x => { x with spot := rest } := ⟨_, rfl⟩
  have row : exec (.canSpPop path c t) s = done (canLatch y path c e) := by
    rw [is]
    exact congrArg done ((throughLock_free (s := s.at t) free).trans (canPop_first local_ loud (spot := true) first))
  have stands : y.can c = { s.can c with spot := rest } := by rw [is, can_updCan_self]; rfl
  refine completes_done row ⟨?_, showsEntry_canLatch _ _ _ _, ?_⟩
  · rw [settle_can, canLatch_can, stands]
  · rw [settle_can, canLatch_can, stands]

end

theorem completes_canRxData {w : Word} {rest : List Word} (free : s.lockedOut path = false)
    (first : (s.can c).dataPort.toList[path.code]? = some (w :: rest)) (loud : quiet s path = false) : Completes (.canRxData path c t) s fun u =>
      (u.can c).dataPort.toList[path.code]? = some rest ∧ SameRegs s u [] := by
  have row : exec (.canRxData path c t) s =
      done ((s.at t).updCan c fun x => { x with dataPort := x.dataPort.set path.code rest (path_code_small path) }) := by
    refine congrArg done ((throughLock_free (s := s.at t) free).trans ?_)
    unfold canData
    rw [show ((s.at t).can c).dataPort.toList[path.code]? = some (w :: rest) from first]
    exact if_neg (by rw [show quiet (s.at t) path = false from loud]; exact Bool.false_ne_true)
  refine completes_done row ⟨?_, sameRegs_of_regs rfl⟩
  rw [settle_can, can_updCan_self]
  exact toList_set_self _ _ _

/-! Records staged and pushed (R348, R354). -/

theorem completes_canTxData {v : Word} (free : s.lockedOut path = false) : Completes (.canTxData path c v t) s fun u =>
    (u.can c).txData.toList[path.code]? = some ((((s.can c).txData.toList[path.code]?).getD []) ++ [v]) ∧ (u.can c).tx = (s.can c).tx ∧
    SameRegs s u [] := by
  have row : exec (.canTxData path c v t) s = done ((s.at t).updCan c fun x =>
      { x with txData := x.txData.set path.code ((((s.can c).txData.toList[path.code]?).getD []) ++ [v]) (path_code_small path) }) :=
    congrArg done (throughLock_free (s := s.at t) free)
  refine completes_done row ⟨?_, ?_, sameRegs_of_regs rfl⟩
  · rw [settle_can, can_updCan_self]
    exact toList_set_self _ _ _
  · rw [settle_can_tx, can_updCan_self]
    rfl

/-- The record that a path has staged. -/
def stagedRecord (s : State) (path : Path) (c : Fin 4) : CanTx :=
  ⟨s.regSel (CAN_TX_W c.val 0) path.code, s.regSel (CAN_TX_W c.val 1) path.code, s.regSel (CAN_TX_W c.val 2) path.code,
    s.regSel (CAN_TX_W c.val 3) path.code, ((s.can c).txData.toList[path.code]?).getD []⟩

/-- The staged words, cleared. -/
def clearedWords (c : Fin 4) : List (Nat × Word) := (List.range 4).map fun i => (CAN_TX_W c.val i, 0)

theorem clearedWords_nodup : ∀ c : Fin 4, ((clearedWords c).map Prod.fst).Nodup := by decide
theorem clearedWords_open : ∀ c : Fin 4, ∀ i < 4, closingReg (CAN_TX_W c.val i) = false := by decide
theorem clearedWords_apart : ∀ c : Fin 4, CAN_TXREF c.val ∉ (clearedWords c).map Prod.fst ∧ CAN_EVT c.val ∉ (clearedWords c).map Prod.fst := by
  decide
theorem canTxref_facts : ∀ c : Fin 4, closingReg (CAN_TXREF c.val) = false ∧ CAN_TXREF c.val ≠ CAN_EVT c.val := by decide

/-- The staging of a path, cleared. -/
def stagingCleared (s : State) (path : Path) (c : Fin 4) : State :=
  s.updCan c fun x => { x with txData := x.txData.set path.code [] (path_code_small path) }

theorem canTxPush_eq (s : State) (path : Path) (c : Fin 4) : canTxPush s path c =
    latchRegs (stagingCleared (canPush s c (stagedRecord s path c)) path c) path (clearedWords c) := rfl

/-- What a push leaves of the path's staging. -/
theorem staging_cleared (y : State) (path : Path) (c : Fin 4) :
    (∀ i < 4, (settle (latchRegs (stagingCleared y path c) path (clearedWords c))).regSel (CAN_TX_W c.val i) path.code = 0) ∧
    ((settle (latchRegs (stagingCleared y path c) path (clearedWords c))).can c).txData.toList[path.code]? = some [] := by
  refine ⟨fun i small => ?_, ?_⟩
  · exact regSel_settle_latchRegs _ (clearedWords_nodup c) (List.mem_map.2 ⟨i, List.mem_range.2 small, rfl⟩) (clearedWords_open c i small)
  · rw [settle_can, can_congr (latchRegs_cans _ _ _), stagingCleared, can_updCan_self]
    exact toList_set_self _ _ _

theorem staging_tx (y : State) (path : Path) (c : Fin 4) :
    ((settle (latchRegs (stagingCleared y path c) path (clearedWords c))).can c).tx = (y.can c).tx := by
  rw [settle_can_tx, can_congr (latchRegs_cans _ _ _), stagingCleared, can_updCan_self]

theorem canPush_takes {r : CanTx} (room : (s.can c).tx.length < 32) (good : canRefused s c r = false) :
    ((canPush s c r).can c).tx = (s.can c).tx ++ [r] := by
  unfold canPush
  extract_lets full s1
  have takes : ¬ (full || canRefused s c r) = true := by
    rw [good, show full = false from decide_eq_false (Nat.not_le.2 room)]
    exact Bool.false_ne_true
  rw [if_neg takes]
  have added (y : State) (is : y = s.updCan c fun x => { x with tx := x.tx ++ [r] }) : (y.can c).tx = (s.can c).tx ++ [r] := by
    rw [is, can_updCan_self]
  split
  · exact added _ rfl
  · split
    · rw [canStart_can]
      exact added _ rfl
    · exact added _ rfl

/-- A record refused, counted and shown. -/
theorem canPush_refuses {r : CanTx} (bad : 32 ≤ (s.can c).tx.length ∨ canRefused s c r = true) : ((canPush s c r).can c).tx = (s.can c).tx ∧
    (canPush s c r).reg (CAN_TXREF c.val) = bumpW (s.reg (CAN_TXREF c.val)) 1 ∧ EvtSet (canPush s c r) (CAN_EVT c.val) canTXREF := by
  unfold canPush
  extract_lets full s1
  have refuses : (full || canRefused s c r) = true := by
    rcases bad with many | refused
    · rw [show full = true from decide_eq_true many, Bool.true_or]
    · rw [refused, Bool.or_true]
  rw [if_pos refuses]
  have first : s1.can c = s.can c ∧ s1.reg (CAN_TXREF c.val) = s.reg (CAN_TXREF c.val) := by
    unfold s1
    split
    · exact ⟨rfl, reg_evt_ne _ _ (canTxref_facts c).2⟩
    · exact ⟨rfl, rfl⟩
  obtain ⟨same, reg⟩ := first
  refine ⟨?_, ?_, (evtSet_evt _ _ _ (by decide)).raise _ _⟩
  · rw [can_congr (raise_cans _ _ _)]
    exact congrArg CanCtl.tx same
  · rw [reg_congr (raise_regs _ _ _)]
    exact (reg_evt_ne _ _ (canTxref_facts c).2).trans ((reg_bump_self _ _).trans (congrArg (bumpW · 1) reg))

theorem canTxPush_row (free : s.lockedOut path = false) : exec (.canTxPush path c t) s =
    done (latchRegs (stagingCleared (canPush (s.at t) c (stagedRecord s path c)) path c) path (clearedWords c)) :=
  congrArg done ((throughLock_free (s := s.at t) free).trans (canTxPush_eq (s.at t) path c))

theorem completes_canTxPush_takes (free : s.lockedOut path = false) (room : (s.can c).tx.length < 32)
    (good : canRefused s c (stagedRecord s path c) = false) : Completes (.canTxPush path c t) s fun u =>
      (u.can c).tx = (s.can c).tx ++ [stagedRecord s path c] ∧
      (∀ i < 4, u.regSel (CAN_TX_W c.val i) path.code = 0) ∧ (u.can c).txData.toList[path.code]? = some [] := by
  refine completes_done (canTxPush_row free) ⟨?_, staging_cleared _ path c⟩
  rw [staging_tx]
  exact canPush_takes (s := s.at t) room good

theorem completes_canTxPush_refuses (free : s.lockedOut path = false)
    (bad : 32 ≤ (s.can c).tx.length ∨ canRefused s c (stagedRecord s path c) = true) : Completes (.canTxPush path c t) s fun u =>
      (u.can c).tx = (s.can c).tx ∧ ((∀ i < 4, u.regSel (CAN_TX_W c.val i) path.code = 0) ∧ (u.can c).txData.toList[path.code]? = some []) ∧
      u.reg (CAN_TXREF c.val) = bumpW (s.reg (CAN_TXREF c.val)) 1 ∧ (u.reg (CAN_EVT c.val)).getLsbD canTXREF = true := by
  obtain ⟨tx, reg, evt⟩ := canPush_refuses (s := s.at t) (c := c) (r := stagedRecord s path c) bad
  obtain ⟨y, is⟩ : ∃ y, y = canPush (s.at t) c (stagedRecord s path c) := ⟨_, rfl⟩
  have row := canTxPush_row (c := c) (t := t) free
  rw [← is] at tx reg evt row
  have kept (a : Nat) (other : a ∉ (clearedWords c).map Prod.fst) :
      (latchRegs (stagingCleared y path c) path (clearedWords c)).reg a = y.reg a :=
    keepsRegs_latchRegs (fun x mem => List.mem_map_of_mem mem) (stagingCleared y path c) a 0 (by decide) other
  refine completes_done row ⟨?_, staging_cleared _ path c, ?_, EvtSet.settled ?_ (canEvt_apart c)⟩
  · rw [staging_tx, tx]
    rfl
  · rw [reg_settle_of_not_closing _ _ (canTxref_facts c).1, kept _ (clearedWords_apart c).1, reg]
    rfl
  · unfold EvtSet
    rw [kept _ (clearedWords_apart c).2]
    exact evt

end Sys2Proof.Machine
end

section
set_option Elab.async false
/-! SUPPORT. The CAN service (R353), and the obligation about the CAN controllers. -/

namespace Sys2Proof.Machine

variable {s u x : State} {c : Fin 4} {t : Nat} {path : Path}

/-- The service runs, and its destination is another node of the own ring. -/
structure CanForwards (s : State) (c : Fin 4) : Prop where
  on : s.bit (CAN_CTRL c.val) 8 = true
  numbered : s.fab.node ≠ 0
  ring : fld (s.reg (CAN_FWD_DST c.val)) 15 12 = s.ringNo
  single : fld (s.reg (CAN_FWD_DST c.val)) 11 0 < 4000
  foreign : fld (s.reg (CAN_FWD_DST c.val)) 11 0 ≠ s.fab.node
  up : RingsUp s
  unsampled : s.reg SWQ_SMP_N = 0
  fieldPasses : barPasses (s.bdir .fh) = true
  hubPasses : barPasses (s.bdir .hf) = true

/-- The frame that carries an entry. -/
def canFrame (s : State) (c : Fin 4) (cls : Nat) (e : CanEntry) : Frame :=
  Frame.mk' cls 2 (fld (s.reg (CAN_FWD_SUB c.val)) 7 0) (s.reg (CAN_FWD_DST c.val)) s.srcWord 0 e.words

/-- An entry that the switch takes leaves its buffer. -/
def canSend (s : State) (c : Fin 4) (cls : Nat) (e : CanEntry) (k : CanCtl) : State :=
  if accepts s 7 0 (canFrame s c cls e) then switchInput (s.updCan c fun _ => k) 7 0 (canFrame s c cls e) none 0
  else switchInput s 7 0 (canFrame s c cls e) none 0

theorem CanForwards.open_ (h : CanForwards s c) : ¬ (!s.bit (CAN_CTRL c.val) 8 || decide (s.fab.node = 0) || !barPasses (s.bdir .fh) ||
    !barPasses (s.bdir .hf)) = true := by
  rw [h.on, h.fieldPasses, h.hubPasses, decide_eq_false h.numbered]
  exact Bool.false_ne_true

theorem canForward_spot (h : CanForwards s c) {e : CanEntry} {rest : List CanEntry} (first : (s.can c).spot = e :: rest) :
    canForward s c = canSend s c (if bitOf (s.reg (CAN_FWD_SUB c.val)) 13 && decide (e.words.length ≤ 32) then 0 else 1) e
      { s.can c with spot := rest } := by
  unfold canForward
  extract_lets k sub send
  rw [if_neg h.open_, show k.spot = e :: rest from first]
  rfl

theorem canForward_fifo (h : CanForwards s c) {e : CanEntry} {rest : List CanEntry} (noSpot : (s.can c).spot = []) (noFwd : (s.can c).fwd = [])
    (first : (s.can c).rx = e :: rest) :
    canForward s c = canSend s c (fld (s.reg (CAN_FWD_SUB c.val)) 15 14) e { s.can c with rx := rest } := by
  unfold canForward
  extract_lets k sub send
  rw [if_neg h.open_, show k.spot = [] from noSpot, show k.fwd = [] from noFwd, show k.rx = e :: rest from first]
  rfl

/-! The switch does not see what a controller's buffers hold. -/

theorem all_toList {α : Type} {n : Nat} (v : Vector α n) (p : α → Bool) : v.toList.all p = true ↔ ∀ i : Fin n, p (vget v i) = true := by
  rw [List.all_eq_true]
  refine ⟨fun all i => all _ (Vector.mem_toList_iff.2 (Vector.getElem_mem i.isLt)), fun all x mem => ?_⟩
  obtain ⟨i, small, is⟩ := Vector.mem_iff_getElem.1 (Vector.mem_toList_iff.1 mem)
  rw [← is]
  exact all ⟨i, small⟩

section
variable {k : CanCtl} (phase : k.phase = (s.can c).phase)
include phase

theorem portOff_updCan : portOff (s.updCan c fun _ => k) = portOff s := by
  have off : (s.updCan c fun _ => k).cans.toList.all (fun c => decide (c.phase = .off)) = s.cans.toList.all (fun c => decide (c.phase = .off)) := by
    rw [Bool.eq_iff_iff, all_toList, all_toList]
    refine forall_congr' fun d => ?_
    change (decide (((s.updCan c fun _ => k).can d).phase = .off) = true) ↔ (decide ((s.can d).phase = .off) = true)
    rw [can_updCan]
    split
    next same => rw [phase, same]
    next => rfl
  funext p
  by_cases seven : p = 7
  · subst seven
    exact congrArg (vget s.sw.faultHeld 7 || vget s.sw.down 7 || ·) off
  · have other : p.val ≠ 7 := fun same => seven (Fin.ext same)
    unfold portOff
    split
    case h_8 is => exact absurd is other
    all_goals rfl

theorem sendPorts_updCan (ep : Nat) (f : Frame) : sendPorts (s.updCan c fun _ => k) ep f = sendPorts s ep f := by
  unfold sendPorts freshRing reaches
  rw [portOff_updCan phase]
  rfl

theorem accepts_updCan (i : Fin 20) (ep : Nat) (f : Frame) : accepts (s.updCan c fun _ => k) i ep f = accepts s i ep f := by
  unfold accepts lacking targetPorts
  rw [sendPorts_updCan phase, portOff_updCan phase]
  rfl

end

/-- An entry forwarded: it has left its buffer, and its frame waits at a ring port. -/
theorem completes_canSend (h : CanForwards s c) {cls : Nat} {e : CanEntry} {k : CanCtl}
    (row : exec (.canForward c t) s = done (canSend (s.at t) c cls e k)) (takes : accepts s 7 0 (canFrame s c cls e) = true) (small : cls < 4)
    (phase : k.phase = (s.can c).phase) (fits : cls = 0 → e.words.length ≤ 32) : Completes (.canForward c t) s fun u =>
      ((u.can c).spot = k.spot ∧ (u.can c).rx = k.rx) ∧
      ∃ r, u.queue (ringPort r) cls = s.queue (ringPort r) cls ++ [⟨canFrame s c cls e, 7, u.now, 0, none, 0⟩] := by
  obtain ⟨y, is⟩ : ∃ y, y = (s.at t).updCan c fun _ => k := ⟨_, rfl⟩
  obtain ⟨f, isF⟩ : ∃ f, f = canFrame s c cls e := ⟨_, rfl⟩
  have dest : f.dring = s.ringNo ∧ f.dnode = fld (s.reg (CAN_FWD_DST c.val)) 11 0 := by rw [isF]; exact ⟨h.ring, rfl⟩
  have classed : f.cls = cls := by rw [isF, canFrame, cls_mk, Nat.mod_eq_of_lt small]
  have short : ¬ (f.cls = 0 ∧ f.payload.length > 32) := by
    rintro ⟨urgent, long⟩
    have := fits (classed.symm.trans urgent)
    rw [isF] at long
    exact absurd long (Nat.not_lt.2 this)
  have takesY : accepts y 7 0 f = true := by
    rw [is, isF, accepts_updCan (s := s.at t) phase]
    exact takes
  have sent : canSend (s.at t) c cls e k = sendFrame y 7 0 f none 0 := by
    have goes : canSend (s.at t) c cls e k = switchInput y 7 0 f none 0 := by
      rw [is, isF]
      exact if_pos takes
    rw [goes]
    refine switchInput_accepts 0 takesY ?_ ?_
    · rw [is]; exact h.unsampled
    · rw [is, dest.2]; exact h.foreign
  have joins := joins_sendFrame (s := y) (input := 7) (ep := 0) (f := f) (o := none) (joints := 0) (by rw [is]; exact dest.1)
    (by rw [dest.2]; exact h.single) short (by rw [is]; exact h.up)
  rw [sent] at row
  have ctl : (sendFrame y 7 0 f none 0).can c = k := by
    rw [joins.only, is]
    exact can_updCan_self (s.at t) c _
  obtain ⟨r, queued⟩ := queuedOnRing_of_joins (s := s) joins (by rw [is]; rfl)
  refine completes_done row ⟨?_, r, ?_⟩
  · rw [settle_can, ctl]
    exact ⟨rfl, rfl⟩
  · rw [classed] at queued
    rw [queued, isF]

/-! The obligation. -/

theorem ErrorSeen.all {kind : CanErr} {dataPhase : Bool} (h : ErrorSeen s u c kind dataPhase) : (u.can c).lec = kind ∧ (u.can c).lecSeen = true ∧
    (u.can c).lecData = dataPhase ∧ u.reg (CAN_ERRCNT c.val) = bumpW (s.reg (CAN_ERRCNT c.val)) 1 ∧
    (u.reg (CAN_EVT c.val)).getLsbD canPERR = true :=
  ⟨h.lec.1, h.lec.2.1, h.lec.2.2, h.counted, h.shown⟩

/-- Settles O44: each command of a controller, with the gap that may follow it, and each access of a path. -/
theorem canBus : Obligations.CanBus := by
  unfold Obligations.CanBus
  refine ⟨fun c t s => ⟨fun off free ok => completes_canEnable off free ok, fun off free bad => completes_canEnable_bad off free bad,
    fun on kept => completes_canDisable on kept, fun waits tx rx => completes_canIntegrated waits tx rx,
    fun h rest sof delay waits busy close => completes_canFrameSent waits busy close, fun busy => completes_canArbitrationLost busy,
    fun kind dataPhase special part full => ⟨?own, ?other⟩, fun recovers => completes_canRecoveryDone recovers,
    fun busy => completes_txflush_busy busy, fun idle waits => completes_txflush_idle idle waits, fun off => completes_recover off⟩,
    fun path c t s free => ⟨?receive, ⟨fun room good => completes_canTxPush_takes free room good, fun bad => completes_canTxPush_refuses free bad⟩,
      fun v => completes_canTxData free, fun e rest local_ loud => ⟨?rx, ?spot⟩, fun w rest first loud => completes_canRxData free first loud,
      fun on numbered ring single foreign up unsampled fieldPasses hubPasses => ?forward⟩⟩
  case own =>
    intro busy kept
    exact (completes_canProtocolError_own ⟨part, full⟩ busy kept).imp fun u ⟨seen, err, tx, off⟩ => ⟨seen.all, err, tx, off⟩
  case other =>
    exact (completes_canProtocolError_other ⟨part, full⟩).imp fun u ⟨seen, rx, tx⟩ => ⟨seen.all, rx, tx⟩
  case receive =>
    intro w0 w1 w2 data sof i active format full tx rx length found
    have admits : Admits s c w0 data := ⟨active, format, full, tx, rx, length⟩
    exact ⟨completes_canFrameReceive_fifo admits found, completes_canFrameReceive_lost admits found, completes_canFrameReceive_spot admits found⟩
  case rx =>
    intro first
    exact (completes_canRxPop free local_ loud first).imp fun u ⟨rx, shows, spot⟩ => ⟨rx, shows.all, spot⟩
  case spot =>
    intro first
    exact (completes_canSpPop free local_ loud first).imp fun u ⟨spot, shows, rx⟩ => ⟨spot, shows.all, rx⟩
  case forward =>
    have forwards : CanForwards s c := ⟨on, numbered, ring, single, foreign, up, unsampled, fieldPasses, hubPasses⟩
    have at_ : CanForwards (s.at t) c := ⟨on, numbered, ring, single, foreign, up, unsampled, fieldPasses, hubPasses⟩
    refine ⟨fun e rest first takes => ?_, fun e rest noSpot noFwd first takes fits => ?_⟩
    · have small : (if bitOf (s.reg (CAN_FWD_SUB c.val)) 13 && decide (e.words.length ≤ 32) then 0 else 1) < 4 := by split <;> decide
      have short : (if bitOf (s.reg (CAN_FWD_SUB c.val)) 13 && decide (e.words.length ≤ 32) then 0 else 1) = 0 → e.words.length ≤ 32 := by
        split
        next both => exact fun _ => of_decide_eq_true (Bool.and_eq_true _ _ ▸ both).2
        next => exact fun one => absurd one (by decide)
      exact (completes_canSend forwards (congrArg done (canForward_spot at_ first)) takes small rfl short).imp
        fun u ⟨⟨spot, _⟩, queued⟩ => ⟨spot, queued⟩
    · have small : fld (s.reg (CAN_FWD_SUB c.val)) 15 14 < 4 := Nat.mod_lt _ (by decide)
      exact (completes_canSend forwards (congrArg done (canForward_fifo at_ noSpot noFwd first)) takes small rfl fits).imp
        fun u ⟨⟨_, rx⟩, queued⟩ => ⟨rx, queued⟩

end Sys2Proof.Machine
end


section
set_option Elab.async false
/-! SUPPORT. What a self-test, a start, a shedding and a flush leave of the clusters (R239, R264, R270, R271), and the obligation about
clusters that start. -/

namespace Sys2Proof.Machine

variable {s u v : State} {n : Fin 12} {t : Nat}

/-! What the scheduler goes by (R239). -/

/-- Section, physical engines, ONLINE and binding of every cluster stand. -/
structure SameScheduler (s u : State) : Prop where
  cfg : ∀ m, (u.cl m).cfg = (s.cl m).cfg
  phys : ∀ m, (u.cl m).phys = (s.cl m).phys
  online : ∀ m, (u.cl m).online = (s.cl m).online
  binding : ∀ m, (u.cl m).binding = (s.cl m).binding

theorem SameScheduler.trans (h : SameScheduler s u) (g : SameScheduler u v) : SameScheduler s v where
  cfg m := (g.cfg m).trans (h.cfg m)
  phys m := (g.phys m).trans (h.phys m)
  online m := (g.online m).trans (h.online m)
  binding m := (g.binding m).trans (h.binding m)

theorem SameScheduler.of_clusters (h : u.clusters = s.clusters) : SameScheduler s u := by
  constructor <;> intro m <;> rw [cl_congr h]

theorem SameScheduler.refl (s : State) : SameScheduler s s := .of_clusters rfl

theorem sameScheduler_updCl {f : Cluster → Cluster}
    (h : ∀ c, (f c).cfg = c.cfg ∧ (f c).phys = c.phys ∧ (f c).online = c.online ∧ (f c).binding = c.binding) (s : State) (n : Fin 12) :
    SameScheduler s (s.updCl n f) := by
  have kept (m : Fin 12) : ((s.updCl n f).cl m).cfg = (s.cl m).cfg ∧ ((s.updCl n f).cl m).phys = (s.cl m).phys ∧
      ((s.updCl n f).cl m).online = (s.cl m).online ∧ ((s.updCl n f).cl m).binding = (s.cl m).binding := by
    rw [cl_updCl]
    split
    · rename_i same; subst same; exact h _
    · exact ⟨rfl, rfl, rfl, rfl⟩
  exact ⟨fun m => (kept m).1, fun m => (kept m).2.1, fun m => (kept m).2.2.1, fun m => (kept m).2.2.2⟩

theorem sameScheduler_updEng (s : State) (n : Fin 12) (e : Fin 14) (f : Engine → Engine) : SameScheduler s (s.updEng n e f) :=
  sameScheduler_updCl (f := fun c => { c with engines := vupd c.engines e f }) (fun _ => ⟨rfl, rfl, rfl, rfl⟩) s n

theorem sameScheduler_each {α : Type} {f : State → α → State} (h : ∀ s x, SameScheduler s (f s x)) (l : List α) (s : State) :
    SameScheduler s (s.each l f) := by
  unfold State.each
  induction l generalizing s with
  | nil => exact .refl s
  | cons x l ih => exact (h s x).trans (ih (f s x))

theorem sameScheduler_releaseLock (s : State) (n : Fin 12) (e : Fin 14) : SameScheduler s (releaseLock s n e) := by
  unfold releaseLock
  dsimp only
  split
  · exact (sameScheduler_updEng s n e _).trans
      (sameScheduler_updCl (f := fun c => { c with lock := none }) (fun _ => ⟨rfl, rfl, rfl, rfl⟩) _ n)
  · exact sameScheduler_updEng s n e _

/-! A start (R239, R276). -/

theorem fillWords_clusters_regs (s : State) (a k : Nat) (w : Word) :
    (s.fillWords a k w).clusters = s.clusters ∧ (s.fillWords a k w).regs = s.regs := by
  induction k generalizing s a with
  | zero => exact ⟨rfl, rfl⟩
  | succ k ih => exact ih (s.setWord a w) (a + 2)

theorem storeWords_clusters_regs (l : List Word) (s : State) (a : Nat) :
    (s.storeWords a l).clusters = s.clusters ∧ (s.storeWords a l).regs = s.regs := by
  induction l generalizing s a with
  | nil => exact ⟨rfl, rfl⟩
  | cons w l ih => exact ih (s.storeWord a w) (a + 2)

theorem enablePins_clusters_regs (s : State) (n : Fin 12) (e : Fin 14) :
    (enablePins s n e).clusters = s.clusters ∧ (enablePins s n e).regs = s.regs := by
  unfold enablePins State.each
  refine ⟨foldl_keeps (fun s : State => s.clusters) _ (fun x j => ?_) _ _, foldl_keeps (fun s : State => s.regs) _ (fun x j => ?_) _ _⟩
  · split
    · split <;> rfl
    · rfl
  · split
    · split <;> rfl
    · rfl

/-- A logical engine as it starts on a physical engine (R276). -/
def startedEngine (p : Fin 16) : Engine := { Engine.init with phys := some p, run := .running }

/-- What a start does once the data memory reads 0: its marks go, image and code are loaded, its pins enabled (R265, R276). -/
def loadEngine (x : State) (n : Fin 12) (e : Fin 14) (p : Fin 16) (g : EngineCfg) : State :=
  let y : State := { x with marks := x.marks.filter fun a => decide (a < dataBase n.val p.val) || decide (a ≥ dataBase n.val p.val + 0x800) }
  enablePins ((y.storeWords (dataBase n.val p.val) (g.data.take 1024)).storeWords (codeBase n.val p.val) (g.code.take 4096)) n e

theorem startEngine_eq {e : Fin 14} {p : Fin 16} {g : EngineCfg} (cfg : engCfg (s.cl n) e = some g) :
    startEngine s n e p = loadEngine ((s.updEng n e fun _ => startedEngine p).fillWords (dataBase n.val p.val) 1024 0) n e p g := by
  unfold startEngine
  rw [cfg]
  rfl

theorem loadEngine_keeps (x : State) (n : Fin 12) (e : Fin 14) (p : Fin 16) (g : EngineCfg) :
    (loadEngine x n e p g).clusters = x.clusters ∧ (loadEngine x n e p g).regs = x.regs := by
  unfold loadEngine
  extract_lets y
  obtain ⟨data, dataRegs⟩ := storeWords_clusters_regs (g.data.take 1024) y (dataBase n.val p.val)
  obtain ⟨code, codeRegs⟩ := storeWords_clusters_regs (g.code.take 4096) (y.storeWords (dataBase n.val p.val) (g.data.take 1024))
    (codeBase n.val p.val)
  obtain ⟨pins, pinRegs⟩ := enablePins_clusters_regs
    ((y.storeWords (dataBase n.val p.val) (g.data.take 1024)).storeWords (codeBase n.val p.val) (g.code.take 4096)) n e
  exact ⟨pins.trans (code.trans data), pinRegs.trans (codeRegs.trans dataRegs)⟩

theorem startEngine_keeps {e : Fin 14} {p : Fin 16} {g : EngineCfg} (cfg : engCfg (s.cl n) e = some g) :
    (startEngine s n e p).clusters = (s.updEng n e fun _ => startedEngine p).clusters ∧ (startEngine s n e p).regs = s.regs := by
  rw [startEngine_eq cfg]
  obtain ⟨loaded, loadedRegs⟩ := loadEngine_keeps ((s.updEng n e fun _ => startedEngine p).fillWords (dataBase n.val p.val) 1024 0) n e p g
  obtain ⟨filled, filledRegs⟩ := fillWords_clusters_regs (s.updEng n e fun _ => startedEngine p) (dataBase n.val p.val) 1024 0
  exact ⟨loaded.trans filled, loadedRegs.trans filledRegs⟩

theorem startEngine_unconfigured {e : Fin 14} {p : Fin 16} (cfg : engCfg (s.cl n) e = none) : startEngine s n e p = s := by
  unfold startEngine
  rw [cfg]

theorem sameScheduler_startEngine (s : State) (n : Fin 12) (e : Fin 14) (p : Fin 16) : SameScheduler s (startEngine s n e p) := by
  cases cfg : engCfg (s.cl n) e with
  | none => rw [startEngine_unconfigured cfg]; exact .refl s
  | some g => exact (sameScheduler_updEng s n e _).trans (.of_clusters (startEngine_keeps cfg).1)

theorem startEngine_regs (s : State) (n : Fin 12) (e : Fin 14) (p : Fin 16) : (startEngine s n e p).regs = s.regs := by
  cases cfg : engCfg (s.cl n) e with
  | none => rw [startEngine_unconfigured cfg]
  | some g => exact (startEngine_keeps cfg).2

theorem rebindShed_keeps (s : State) (n : Fin 12) : SameScheduler s (rebindShed s n) ∧ (rebindShed s n).regs = s.regs := by
  unfold rebindShed
  dsimp only
  split
  · exact ⟨.refl s, rfl⟩
  · split
    · exact ⟨.refl s, rfl⟩
    · exact ⟨sameScheduler_startEngine _ _ _ _, startEngine_regs _ _ _ _⟩

/-! A self-test ends (R264). -/

theorem repairMap_clusters (s : State) : (repairMap s).clusters = s.clusters := rfl

/-- One row repaired, or an engine retired: counted in CLU_EVT and reported. -/
theorem repairNoted (s : State) (n : Fin 12) (b src d : Nat) :
    (((repairMap s).cluEvt n b).cluRaise n src d).clusters = s.clusters :=
  raise_clusters _ _ _

theorem repairNoted_evt (s : State) (n : Fin 12) (b src d i : Nat) (h : EvtSet s (CLU_EVT n.val) i) :
    EvtSet (((repairMap s).cluEvt n b).cluRaise n src d) (CLU_EVT n.val) i :=
  ((h.congr (u := repairMap s) rfl).evt _ _).raise _ _

theorem repairNoted_sets (s : State) (n : Fin 12) {b : Nat} (src d : Nat) (hb : b < 16) :
    EvtSet (((repairMap s).cluEvt n b).cluRaise n src d) (CLU_EVT n.val) b :=
  (evtSet_evt _ _ _ hb).raise _ _

theorem repairRows_succ (s : State) (n : Fin 12) (p : Fin 16) (k : Nat) :
    repairRows s n p (k + 1) = ((repairMap (repairRows s n p k)).cluEvt n cluREPAIR).cluRaise n 0x1 p.val :=
  each_range_succ _ _ _

theorem repairRows_clusters (s : State) (n : Fin 12) (p : Fin 16) (k : Nat) : (repairRows s n p k).clusters = s.clusters := by
  induction k with
  | zero => rfl
  | succ k ih => rw [repairRows_succ, repairNoted, ih]

theorem repairRows_evt (s : State) (n : Fin 12) (p : Fin 16) {k : Nat} (some_ : 0 < k) :
    EvtSet (repairRows s n p k) (CLU_EVT n.val) cluREPAIR := by
  obtain ⟨j, rfl⟩ : ∃ j, k = j + 1 := ⟨k - 1, by omega⟩
  rw [repairRows_succ]
  exact repairNoted_sets _ n _ _ (by decide)

/-- A self-test that ends leaves what it found of the engine, and the bits of what it did. -/
structure Tested (s u : State) (n : Fin 12) (p : Fin 16) (x : PhysEngine) (failed : Bool) (rows : Nat) : Prop where
  engine : vget (u.cl n).phys p = x
  retired : failed = true → EvtSet u (CLU_EVT n.val) cluRETIRE
  repaired : 0 < rows → EvtSet u (CLU_EVT n.val) cluREPAIR

theorem completes_selfTestDone {p : Fin 16} {code data : Nat} {other : Bool} (kept : (vget (s.cl n).phys p).retired = false)
    (tests : (vget (s.cl n).phys p).testing = true) :
    let x := vget (s.cl n).phys p
    let good := min code (4 - x.codeRows)
    let fine := min data (2 - x.dataRows)
    let failed := other || decide (good < code) || decide (fine < data)
    Completes (.selfTestDone n p code data other t) s fun u =>
      vget (u.cl n).phys p = { x with testing := false, suspect := false, retired := failed
                                      codeRows := x.codeRows + good, dataRows := x.dataRows + fine } ∧
      (failed = true → (u.reg (CLU_EVT n.val)).getLsbD cluRETIRE = true) ∧
      (0 < good + fine → (u.reg (CLU_EVT n.val)).getLsbD cluREPAIR = true) := by
  intro x good fine failed
  let found (x : PhysEngine) : PhysEngine :=
    { x with testing := false, suspect := false, retired := failed, codeRows := x.codeRows + good, dataRows := x.dataRows + fine }
  let s1 := repairRows ((s.at t).updPhys n p found) n p (good + fine)
  let s2 := if failed then ((repairMap s1).cluEvt n cluRETIRE).cluRaise n 0x7 p.val else s1
  let s3 := if (s2.cl n).online then rebindShed s2 n else s2
  have row : exec (.selfTestDone n p code data other t) s = done s3 := by
    refine congrArg done (if_neg ?_)
    rw [show (vget ((s.at t).cl n).phys p).retired = false from kept, show (vget ((s.at t).cl n).phys p).testing = true from tests]
    decide
  have rowsEngine : vget (s1.cl n).phys p = found x := by
    rw [cl_congr (repairRows_clusters _ n p _), State.updPhys, cl_updCl_self, vget_vupd_self]; rfl
  have rows : Tested s s1 n p (found x) false (good + fine) := ⟨rowsEngine, nofun, fun more => repairRows_evt _ n p more⟩
  have judged : Tested s s2 n p (found x) failed (good + fine) := by
    by_cases fails : failed = true
    · rw [show s2 = ((repairMap s1).cluEvt n cluRETIRE).cluRaise n 0x7 p.val from if_pos fails]
      exact ⟨(congrArg (fun c : Cluster => vget c.phys p) (cl_congr (repairNoted s1 n _ _ _) n)).trans rowsEngine,
        fun _ => repairNoted_sets s1 n _ _ (by decide), fun more => repairNoted_evt s1 n _ _ _ _ (rows.repaired more)⟩
    · rw [show s2 = s1 from if_neg fails]
      exact ⟨rowsEngine, fun h => absurd h fails, rows.repaired⟩
  have bound : SameScheduler s2 s3 ∧ s3.regs = s2.regs := by
    unfold s3
    split
    · exact rebindShed_keeps s2 n
    · exact ⟨.refl s2, rfl⟩
  obtain ⟨evtOpen, -⟩ := closingReg_clu n
  refine completes_done row ⟨?_, fun fails => ?_, fun more => ?_⟩
  · rw [settle_cl_phys, bound.1.phys]; exact judged.engine
  · exact ((judged.retired fails).congr bound.2).settle evtOpen
  · exact ((judged.repaired more).congr bound.2).settle evtOpen

end Sys2Proof.Machine
end


section
set_option Elab.async false
/-! SUPPORT. The clusters while ports are flushed, the commands of a cluster and binding (R167, R239, R270, R271), and the obligation about
clusters that start. -/

namespace Sys2Proof.Machine

variable {s u v : State} {n : Fin 12} {t : Nat}

/-! The end of requests and frames reaches the clusters at their conduits alone (R167, R250). -/

def ConduitsOnly (s u : State) : Prop := ∀ m, u.cl m = { s.cl m with conduits := (u.cl m).conduits }

theorem ConduitsOnly.of_clusters (h : u.clusters = s.clusters) : ConduitsOnly s u := fun m => by rw [cl_congr h]

theorem ConduitsOnly.refl (s : State) : ConduitsOnly s s := .of_clusters rfl

theorem ConduitsOnly.trans (h : ConduitsOnly s u) (g : ConduitsOnly u v) : ConduitsOnly s v := fun m => by rw [g m, h m]

theorem ConduitsOnly.ite {c : Prop} [Decidable c] (h : ConduitsOnly s u) (g : ConduitsOnly s v) : ConduitsOnly s (if c then u else v) := by
  split
  · exact h
  · exact g

theorem conduitsOnly_foldl {α : Type} {f : State → α → State} (h : ∀ s x, ConduitsOnly s (f s x)) (l : List α) (s : State) :
    ConduitsOnly s (l.foldl f s) := by
  induction l generalizing s with
  | nil => exact .refl s
  | cons x l ih => exact (h s x).trans (ih (f s x))

theorem conduitsOnly_updConduit (s : State) (n : Fin 12) (q : Fin 16) (f : Conduit → Conduit) : ConduitsOnly s (s.updConduit n q f) := by
  intro m
  rw [State.updConduit, cl_updCl]
  split
  · rename_i same; subst same; rfl
  · rfl

theorem conduitsOnly_raise (s : State) (a d : Nat) : ConduitsOnly s (s.raise a d) := .of_clusters (raise_clusters _ _ _)

theorem conduitsOnly_giveCompletion (s : State) (via : ReqVia) (c : Completion) : ConduitsOnly s (giveCompletion s via c) := by
  unfold giveCompletion
  cases via with
  | conduit n q =>
    dsimp only
    split
    · exact conduitsOnly_updConduit s _ _ _
    · exact .refl s
  | envelope key i => exact .of_clusters rfl
  | dap => dsimp only; exact .ite (.of_clusters rfl) (.refl s)
  | plain => dsimp only; exact .ite (.of_clusters rfl) (.of_clusters rfl)

theorem conduitsOnly_openEnd (s : State) (o : OpenReq) (status : Nat) (data : List Word) : ConduitsOnly s (openEnd s o status data) :=
  ConduitsOnly.trans (.of_clusters (updBrg_clusters s _)) (conduitsOnly_giveCompletion _ _ _)

theorem postedGone_clusters (s : State) (ep : Nat) (dest : Word) : (postedGone s ep dest).clusters = s.clusters := by
  unfold postedGone
  split <;> rfl

theorem conduitsOnly_answerAdd (s : State) (o : OpenReq) (node status : Nat) : ConduitsOnly s (answerAdd s o node status) := by
  unfold answerAdd
  extract_lets o1 s1
  have noted : ConduitsOnly s s1 := .of_clusters (updBrg_clusters s _)
  split
  · exact noted.trans (conduitsOnly_openEnd s1 _ _ _)
  · exact noted

theorem conduitsOnly_requestRetired (s : State) (o : Origin) (dest : Word) (status : Nat) :
    ConduitsOnly s (requestRetired s o dest status) := by
  unfold requestRetired
  extract_lets op
  refine .ite (.refl s) (.ite ?_ ?_)
  · exact .of_clusters ((raise_clusters _ _ _).trans (postedGone_clusters s _ _))
  · split
    · exact .refl s
    · exact .ite (conduitsOnly_answerAdd _ _ _ _) (conduitsOnly_openEnd _ _ _ _)

theorem retireCounted_clusters (s : State) (e : QEntry) (why : Retire) (port : Nat) : (retireCounted s e why port).clusters = s.clusters := by
  cases why
  case ecc => rfl
  all_goals exact raise_clusters _ _ _

theorem conduitsOnly_retire (s : State) (e : QEntry) (why : Retire) (port : Nat) : ConduitsOnly s (retire s e why port) := by
  have counted : ConduitsOnly s (retireCounted s e why port) := .of_clusters (retireCounted_clusters s e why port)
  rw [retire_eq]
  split
  · exact counted
  · exact counted.trans (conduitsOnly_requestRetired _ _ _ _)

theorem repinFlow_clusters (s : State) (f : Flow) : (repinFlow s f).clusters = s.clusters := by
  unfold repinFlow posLoss
  extract_lets s1 hit
  split
  · rw [raise_clusters]; split <;> rfl
  · rfl

theorem repinRing_clusters (s : State) (r : Ring) : (repinRing s r).clusters = s.clusters := by
  unfold repinRing
  extract_lets lost fs off moves s1 s2
  have moved : s1.clusters = s.clusters := foldl_keeps (fun s : State => s.clusters) (fun x c => moveQueue x r (fun e => !moves e) c) (fun _ _ => rfl) _ s
  have pinned : s2.clusters = s.clusters := (foldl_keeps (fun s : State => s.clusters) _ repinFlow_clusters _ s1).trans moved
  split
  · exact pinned
  · exact pinned

theorem flushRepin_clusters (s : State) (p : Fin 20) : (flushRepin s p).clusters = s.clusters := by
  unfold flushRepin
  split
  · exact repinRing_clusters _ .a
  · exact repinRing_clusters _ .b
  · rfl

theorem conduitsOnly_flushQueues (s : State) (p : Fin 20) : ConduitsOnly s (flushQueues s p) := by
  have repinned : ConduitsOnly s (flushRepin s p) := .of_clusters (flushRepin_clusters s p)
  unfold flushQueues
  generalize flushRepin s p = s1 at repinned
  refine repinned.trans (conduitsOnly_foldl (fun x c => ?_) _ _)
  refine ConduitsOnly.trans (.of_clusters (updSw_clusters x _)) (conduitsOnly_foldl (fun y e => ?_) (s1.queue p c) (x.updQueue p c fun _ => []))
  refine .ite ?_ (conduitsOnly_retire _ _ _ _)
  split
  · exact .refl _
  · exact .of_clusters (postedGone_clusters _ _ _)

theorem conduitsOnly_portFlush (s : State) (p : Fin 20) : ConduitsOnly s (portFlush s p) := by
  rw [portFlush_eq]
  refine ConduitsOnly.trans ?_ (.of_clusters (updSw_clusters _ _))
  exact (conduitsOnly_flushQueues s p).trans (conduitsOnly_foldl (fun x o => conduitsOnly_openEnd _ _ _ _) _ _)

/-! OFFLINE (R271). -/

/-- A cluster as it goes offline, but for its conduits. -/
structure WentOffline (c d : Cluster) : Prop where
  online : d.online = false
  held : d.offHold = true
  lock : d.lock = none
  mig : d.mig = none
  engines : ∀ e, (vget d.engines e).run = .off ∧ (vget d.engines e).phys = none ∧ (vget d.engines e).regs = (vget c.engines e).regs
  pacers : ∀ p, fld (vget d.pacers p).cfg 15 14 = 0

/-- The pacer's mode, the two upper bits of its configuration. -/
theorem mode_stopPacer (p : Pacer) : fld (stopPacer p).cfg 15 14 = 0 := by
  have low : (p.cfg &&& 0x3FFF).toNat < 2 ^ 14 := by
    rw [BitVec.toNat_and]
    exact lt_of_le_of_lt Nat.and_le_right (by decide)
  show ((p.cfg &&& 0x3FFF).toNat >>> 14) % _ = 0
  rw [Nat.shiftRight_eq_div_pow, Nat.div_eq_of_lt low, Nat.zero_mod]

/-- A cluster that is offline keeps its pins held until a latch instant (R310). -/
theorem settle_offHold (off : (s.cl n).online = false) : ((settle s).cl n).offHold = (s.cl n).offHold := by
  unfold State.cl at off ⊢
  rw [settle_clusters]
  split
  · rfl
  · simp only [vget] at off ⊢
    simp [releaseCluster, off]

theorem completes_cluOffline (on : (s.cl n).online = true) : Completes (.cluOffline n t) s fun u =>
    (u.cl n).online = false ∧ (u.cl n).offHold = true ∧ (u.cl n).lock = none ∧ (u.cl n).mig = none ∧
    (∀ e, (u.eng n e).run = .off ∧ (u.eng n e).phys = none ∧ (u.eng n e).regs = (s.eng n e).regs) ∧
    (∀ p, fld (u.pacer n p).cfg 15 14 = 0) ∧ (u.reg (CLU_EVT n.val)).getLsbD cluOFFLINE = true := by
  let stop (x : Engine) : Engine := { x with run := .off, phys := none, dark := none, stall := none, lockCount := 0, wdTrap := false }
  let s1 := (s.at t).updCl n fun c =>
    { c with online := false, offHold := true, binding := false, engines := c.engines.map stop, pacers := c.pacers.map stopPacer
             conduits := Vector.replicate 16 .init, lock := none, broken := none, mig := none, failed := [] }
  have row : exec (.cluOffline n t) s = done (((portFlush s1 ⟨8 + n.val, by omega⟩).cluEvt n cluOFFLINE).cluRaise n 0xD 0) :=
    congrArg done (if_neg (by rw [show ((s.at t).cl n).online = true from on]; decide))
  have stopped : WentOffline (s.cl n) (s1.cl n) := by
    rw [show s1.cl n = _ from cl_updCl_self _ _ _]
    refine ⟨rfl, rfl, rfl, rfl, fun e => ?_, fun p => ?_⟩
    · dsimp only; rw [vget, Vector.getElem_map]; exact ⟨rfl, rfl, rfl⟩
    · dsimp only; rw [vget, Vector.getElem_map]; exact mode_stopPacer _
  have flushed : WentOffline (s.cl n) ((portFlush s1 ⟨8 + n.val, by omega⟩).cl n) := by
    rw [conduitsOnly_portFlush s1 _ n]
    exact ⟨stopped.online, stopped.held, stopped.lock, stopped.mig, stopped.engines, stopped.pacers⟩
  generalize portFlush s1 ⟨8 + n.val, by omega⟩ = s2 at row flushed
  have told : WentOffline (s.cl n) (((s2.cluEvt n cluOFFLINE).cluRaise n 0xD 0).cl n) := by
    rw [show ((s2.cluEvt n cluOFFLINE).cluRaise n 0xD 0).cl n = s2.cl n from cl_congr (raise_clusters _ _ _) n]; exact flushed
  have shown : EvtSet ((s2.cluEvt n cluOFFLINE).cluRaise n 0xD 0) (CLU_EVT n.val) cluOFFLINE := (evtSet_evt s2 _ _ (by decide)).raise _ _
  generalize (s2.cluEvt n cluOFFLINE).cluRaise n 0xD 0 = y at row told shown
  refine completes_done row ⟨?_, ?_, ?_, ?_, fun e => ?_, fun p => ?_, shown.settle (closingReg_clu n).1⟩
  · rw [settle_cl_online, told.online]
  · rw [settle_offHold told.online, told.held]
  · rw [settle_cl_lock, told.lock]
  · rw [settle_cl_mig, told.mig]
  · rw [settle_eng]; exact told.engines e
  · rw [settle_pacer]; exact told.pacers p

/-! ONLINE and RESTART (R262, R271). -/

theorem sectionLoad_keeps (s : State) (n : Fin 12) (g : ClusterCfg) :
    ((sectionLoad s n g).cl n).cfg = some g ∧ ((sectionLoad s n g).cl n).phys = (s.cl n).phys := by
  unfold sectionLoad
  extract_lets s1 s2 fresh s3 s4 starved s5
  have first : (s1.cl n).cfg = some g ∧ (s1.cl n).phys = (s.cl n).phys := by
    rw [show s1.cl n = _ from cl_updCl_self _ _ _]; exact ⟨rfl, rfl⟩
  have adc (x : State) (f : Adc → Adc) : SameScheduler x (x.updAdc n f) :=
    sameScheduler_updCl (f := fun c => { c with adc := f c.adc }) (fun _ => ⟨rfl, rfl, rfl, rfl⟩) x n
  have stored : SameScheduler s1 s2 := .of_clusters (storeWords_clusters_regs _ _ _).1
  have converters : SameScheduler s1 s3 := stored.trans (adc s2 _)
  have stirred (x : State) : (x.each (List.finRange 12) fun s j => s.updPin (pinOf n j) fun p =>
      if p.raw = p.inner then p else { p with changed := s.now }).clusters = x.clusters :=
    foldl_keeps (fun s : State => s.clusters) _ (fun y j => updPin_clusters y _ _) _ x
  have pins : SameScheduler s1 s4 := converters.trans (.of_clusters (stirred s3))
  have slots : SameScheduler s1 s5 := pins.trans (adc s4 _)
  have all : SameScheduler s1 (if starved = true then (s5.evt ADC_EVT 12).raise Src.adcStarved n.val else s5) := by
    split
    · exact slots.trans (.of_clusters (raise_clusters _ _ _))
    · exact slots
  exact ⟨(all.cfg n).trans first.1, (all.phys n).trans first.2⟩

theorem completes_cluOnline {g : ClusterCfg} (cfg : (s.cl n).cfg = some g) (off : (s.cl n).online = false) (idle : (s.cl n).binding = false) :
    Completes (.cluOnline n t) s fun u =>
      (u.cl n).binding = true ∧ (u.cl n).online = false ∧ (u.cl n).cfg = some g ∧ (∀ e, u.eng n e = Engine.init) ∧
      ∀ p, (vget (u.cl n).phys p).testing = !(vget (s.cl n).phys p).retired := by
  let y := sectionLoad (s.at t) n g
  let f (c : Cluster) : Cluster :=
    { c with online := false, binding := true, engines := Vector.replicate 14 .init, phys := c.phys.map fun x => { x with testing := !x.retired } }
  have row : exec (.cluOnline n t) s = done (y.updCl n f) := by
    refine congrArg done ?_
    unfold online
    dsimp only
    rw [show ((s.at t).cl n).cfg = some g from cfg]
    exact if_neg (by rw [show ((s.at t).cl n).online = false from off, show ((s.at t).cl n).binding = false from idle]; decide)
  obtain ⟨loaded, phys⟩ := sectionLoad_keeps (s.at t) n g
  have is : (y.updCl n f).cl n = f (y.cl n) := cl_updCl_self _ _ _
  refine completes_done row ⟨?_, ?_, ?_, fun e => ?_, fun p => ?_⟩
  · rw [settle_cl_binding, is]
  · rw [settle_cl_online, is]
  · rw [settle_cl_cfg, is]; exact loaded
  · rw [settle_eng, State.eng, is]; simp [f, vget]
  · rw [settle_cl_phys, is, ← show (y.cl n).phys = (s.cl n).phys from phys]; simp [f, vget]

theorem completes_cluRestart {e : Fin 14} (on : (s.cl n).online = true) (bound : (s.eng n e).phys.isSome = true) :
    Completes (.cluRestart n e t) s fun u => Restarted s u n e ∧ SameRegs s u [] := by
  have row : exec (.cluRestart n e t) s = done (restartEngine (s.at t) n e) :=
    congrArg done (if_pos (by rw [show ((s.at t).cl n).online = true from on, show ((s.at t).eng n e).phys.isSome = true from bound]; rfl))
  exact completes_done row ⟨restarted_settle (s := s.at t) rfl rfl, sameRegs_of_regs (restartEngine_keeps (s.at t) n e).2⟩

end Sys2Proof.Machine
end


section
set_option Elab.async false
/-! SUPPORT. Binding (R239, R270), and the obligation about clusters that start. -/

namespace Sys2Proof.Machine

variable {s u v : State} {n : Fin 12} {t : Nat}

/-! The order of binding (R239). -/

theorem mem_insertRank (c : Cluster) (e d : Fin 14) (l : List (Fin 14)) : d ∈ insertRank c e l ↔ d = e ∨ d ∈ l := by
  induction l with
  | nil => simp [insertRank]
  | cons x l ih =>
    unfold insertRank
    split
    · exact List.mem_cons
    · rw [List.mem_cons, List.mem_cons, ih]; exact or_left_comm

theorem mem_foldl_insertRank (c : Cluster) (d : Fin 14) (l acc : List (Fin 14)) :
    d ∈ l.foldl (fun l e => insertRank c e l) acc ↔ d ∈ l ∨ d ∈ acc := by
  induction l generalizing acc with
  | nil => simp
  | cons e l ih => rw [List.foldl_cons, ih, mem_insertRank, List.mem_cons]; tauto

theorem mem_bindOrder (c : Cluster) (e : Fin 14) : e ∈ bindOrder c ↔ (engCfg c e).isSome = true := by
  unfold bindOrder
  rw [mem_foldl_insertRank]
  simp

/-! Shedding (R270). -/

/-- An engine without a physical engine (R270). -/
def shedFrom (x : Engine) : Engine := { x with run := .shed, phys := none, dark := none, stall := none }

theorem shedEngine_keeps (s : State) (n : Fin 12) (e : Fin 14) : SameScheduler s (shedEngine s n e) ∧
    ∀ d, (shedEngine s n e).eng n d = ((releaseLock s n e).updEng n e shedFrom).eng n d := by
  unfold shedEngine
  extract_lets c s1 s2 s3 s4
  have first : SameScheduler s s1 := (sameScheduler_releaseLock s n e).trans (sameScheduler_updEng _ n e _)
  have pacers : SameScheduler s s2 := first.trans (sameScheduler_each (fun x p =>
    sameScheduler_updCl (f := fun c => { c with pacers := vupd c.pacers p stopPacer }) (fun _ => ⟨rfl, rfl, rfl, rfl⟩) x n) _ s1)
  have conduits : SameScheduler s s3 := pacers.trans (sameScheduler_each (fun x q =>
    sameScheduler_updCl (f := fun c => { c with conduits := vupd c.conduits q fun _ => Conduit.init }) (fun _ => ⟨rfl, rfl, rfl, rfl⟩) x n) _ s2)
  have holds : SameScheduler s s4 := conduits.trans
    (sameScheduler_updCl (f := fun c => { c with shedHold := c.shedHold ||| BitVec.ofNat 14 (2 ^ e.val) }) (fun _ => ⟨rfl, rfl, rfl, rfl⟩) s3 n)
  have told : (((s4.cluEvt n cluSHED).cluRaise n 0x9 e.val).trace (clTrace n) 7 e.val 0).clusters = s4.clusters :=
    (trace_clusters _ _ _ _ _).trans (raise_clusters _ _ _)
  refine ⟨holds.trans (.of_clusters told), fun d => (eng_congr told n d).trans ?_⟩
  calc s4.eng n d = s3.eng n d := eng_updCl_keeps (f := fun c => { c with shedHold := c.shedHold ||| BitVec.ofNat 14 (2 ^ e.val) }) (fun _ => rfl) s3 n d
    _ = s2.eng n d := foldl_keeps (fun s : State => s.eng n d) _ (fun x q => eng_updConduit x n n q _ d) _ s2
    _ = s1.eng n d := foldl_keeps (fun s : State => s.eng n d) _ (fun x p => eng_updPacer x n n p _ d) _ s1

/-! One engine bound or shed, and all of them (R239). -/

/-- The engine runs from its start on a working physical engine, or is shed. -/
def BoundOrShed (c : Cluster) (u : State) (n : Fin 12) (e : Fin 14) : Prop :=
  ((u.eng n e).run = .running ∧ (u.eng n e).pc = 0 ∧ ∃ p, (u.eng n e).phys = some p ∧ working c p = true) ∨
  ((u.eng n e).run = .shed ∧ (u.eng n e).phys = none)

/-- The lowest physical engine that is free to be bound. -/
def freePhys (c : Cluster) : Option (Fin 16) :=
  (List.finRange 16).find? fun p => working c p && (boundTo c p).isNone && !(vget c.phys p).testing

def bindOne (s : State) (n : Fin 12) (e : Fin 14) : State :=
  ((freePhys (s.cl n)).map (startEngine s n e)).getD (shedEngine s n e)

theorem bindAll_eq (s : State) (n : Fin 12) : bindAll s n =
    (s.updCl n fun c => { c with online := true, binding := false, mig := none, lock := none, broken := none, shedHold := 0 }).each
      (bindOrder (s.cl n)) fun s e => bindOne s n e := by
  unfold bindAll
  dsimp only
  refine congrArg (State.each _ _) (funext fun x => funext fun e => ?_)
  unfold bindOne freePhys
  cases (List.finRange 16).find? fun p => working (x.cl n) p && (boundTo (x.cl n) p).isNone && !(vget (x.cl n).phys p).testing <;> rfl

theorem working_freePhys {c : Cluster} {p : Fin 16} (free : freePhys c = some p) : working c p = true := by
  have good := List.find?_some free
  simp only [Bool.and_eq_true] at good
  exact good.1.1

theorem eng_startEngine {e : Fin 14} {p : Fin 16} {g : EngineCfg} (cfg : engCfg (s.cl n) e = some g) (d : Fin 14) :
    (startEngine s n e p).eng n d = if d = e then startedEngine p else s.eng n d := by
  rw [eng_congr (startEngine_keeps cfg).1]
  split
  · rename_i same; subst same; exact eng_updEng_self s n d _
  · rename_i other; exact eng_updEng_other s n n e d _ fun h => other h.2

/-- One engine of the section bound or shed: the scheduler goes by the same, and the other engines stand. -/
theorem bindOne_keeps (s : State) (n : Fin 12) {e : Fin 14} (cfg : (engCfg (s.cl n) e).isSome = true) :
    SameScheduler s (bindOne s n e) ∧ BoundOrShed (s.cl n) (bindOne s n e) n e ∧ ∀ d, d ≠ e → (bindOne s n e).eng n d = s.eng n d := by
  obtain ⟨g, cfg⟩ := Option.isSome_iff_exists.mp cfg
  unfold bindOne
  cases free : freePhys (s.cl n) with
  | some p =>
    refine ⟨sameScheduler_startEngine s n e p, .inl ?_, fun d other => (eng_startEngine cfg d).trans (if_neg other)⟩
    rw [show ((some p).map (startEngine s n e)).getD (shedEngine s n e) = startEngine s n e p from rfl, eng_startEngine cfg, if_pos rfl]
    exact ⟨rfl, rfl, p, rfl, working_freePhys free⟩
  | none =>
    obtain ⟨kept, engines⟩ := shedEngine_keeps s n e
    refine ⟨kept, .inr ?_, fun d other => ?_⟩
    · rw [show (Option.map (startEngine s n e) none).getD (shedEngine s n e) = shedEngine s n e from rfl, engines, eng_updEng_self]
      exact ⟨rfl, rfl⟩
    · refine (engines d).trans ?_
      rw [eng_updEng_other _ _ _ _ _ _ fun h => other h.2, eng_releaseLock, eng_updEng_other _ _ _ _ _ _ fun h => other h.2]

theorem BoundOrShed.congr {c d : Cluster} {e : Fin 14} (h : BoundOrShed c u n e) (phys : d.phys = c.phys) (eng : v.eng n e = u.eng n e) :
    BoundOrShed d v n e := by
  have same (p : Fin 16) : working d p = working c p := by rw [working, phys]; rfl
  unfold BoundOrShed
  simp only [eng, same]
  exact h

theorem engCfg_congr {c d : Cluster} (h : d.cfg = c.cfg) (e : Fin 14) : engCfg d e = engCfg c e := by unfold engCfg; rw [h]

/-- All engines of a list of the section bound or shed: each of them is, and each that was before still is. -/
theorem bindEach_keeps (l : List (Fin 14)) (s : State) (n : Fin 12) (listed : ∀ e ∈ l, (engCfg (s.cl n) e).isSome = true) :
    SameScheduler s (s.each l fun s e => bindOne s n e) ∧
    ∀ e, e ∈ l ∨ BoundOrShed (s.cl n) s n e → BoundOrShed (s.cl n) (s.each l fun s e => bindOne s n e) n e := by
  unfold State.each
  induction l generalizing s with
  | nil => exact ⟨.refl s, fun e h => h.resolve_left List.not_mem_nil⟩
  | cons x l ih =>
    obtain ⟨kept, done_, others⟩ := bindOne_keeps s n (listed x List.mem_cons_self)
    obtain ⟨rest, bound⟩ := ih (bindOne s n x) fun e mem => by
      rw [engCfg_congr (kept.cfg n)]; exact listed e (List.mem_cons_of_mem _ mem)
    refine ⟨kept.trans rest, fun e h => (bound e ?_).congr (kept.phys n).symm rfl⟩
    by_cases same : e = x
    · subst same; exact .inr (done_.congr (kept.phys n) rfl)
    · rcases h with mem | before
      · exact .inl ((List.mem_cons.mp mem).resolve_left same)
      · exact .inr (before.congr (kept.phys n) (others e same))

theorem completes_clusterBind (binds : (s.cl n).binding = true) (tested : ∀ p, (vget (s.cl n).phys p).testing = false) :
    Completes (.clusterBind n t) s fun u =>
      (u.cl n).online = true ∧ (u.cl n).binding = false ∧ ∀ e, (engCfg (s.cl n) e).isSome = true → BoundOrShed (s.cl n) u n e := by
  have quiet : (s.cl n).phys.toList.any (·.testing) = false := by
    rw [List.any_eq_not_all_not, (all_toList (s.cl n).phys fun x => !x.testing).mpr fun p => by rw [tested p]; rfl]; rfl
  have row : exec (.clusterBind n t) s = done (bindAll (s.at t) n) := by
    refine congrArg done (if_pos ?_)
    rw [show ((s.at t).cl n).binding = true from binds, show ((s.at t).cl n).phys.toList.any (·.testing) = false from quiet]
    rfl
  let f (c : Cluster) : Cluster := { c with online := true, binding := false, mig := none, lock := none, broken := none, shedHold := 0 }
  have opened : ((s.at t).updCl n f).cl n = f (s.cl n) := cl_updCl_self (s.at t) n f
  obtain ⟨kept, bound⟩ := bindEach_keeps (bindOrder ((s.at t).cl n)) ((s.at t).updCl n f) n fun e mem => by
    rw [opened, engCfg_congr (show (f (s.cl n)).cfg = (s.cl n).cfg from rfl)]
    exact (mem_bindOrder _ e).mp mem
  rw [← bindAll_eq (s.at t) n] at kept bound
  rw [opened] at bound
  refine completes_done row ⟨?_, ?_, fun e cfg => ?_⟩
  · rw [settle_cl_online, kept.online, opened]
  · rw [settle_cl_binding, kept.binding, opened]
  · exact (bound e (.inl ((mem_bindOrder _ e).mpr cfg))).congr (show (s.cl n).phys = (f (s.cl n)).phys from rfl) (settle_eng _ n e)

/-- Settles O28: a self-test, the binding after it and the commands OFFLINE, ONLINE and RESTART. -/
theorem clustersStart : Obligations.ClustersStart := by
  unfold Obligations.ClustersStart
  intro n t s
  exact ⟨fun p code data other kept tests => completes_selfTestDone kept tests,
    completes_clusterBind, completes_cluOffline, fun g => completes_cluOnline, fun e => completes_cluRestart⟩

end Sys2Proof.Machine
end


section
set_option Elab.async false
/-! SUPPORT. What the issue of a request leaves of the signal forwarder, of the inbox and of the registers (R202-R221). -/

namespace Sys2Proof.Machine

variable {s u v : State}

/-- The registers that the end of a request, its issue or the retirement of its frame counts in or shows itself in. -/
def issueRegs : List Nat :=
  [BRG_EVT, BRG_LATE_RSP, BRG_PRET, BRG_DUPS, BRG_DUP_EVICT, SWQ_NODEST, SWQ_AGED, SWQ_EVT, SWQ_PDOWN, SWQ_REFUSED, SWQ_BADHDR,
    FAB_NOROUTE, FAB_EVT]

/-- The event registers among them. -/
def issueEvts : List Nat := [BRG_EVT, SWQ_EVT, FAB_EVT]

/-- Only those registers change, no event is lost, and the signal forwarder and the inbox stand. -/
structure IssueOnly (s u : State) : Prop where
  keeps : KeepsRegs s u issueRegs
  shows : ∀ a ∈ issueEvts, ∀ i, EvtSet s a i → EvtSet u a i
  seen : u.brg.fwdSeen = s.brg.fwdSeen
  inbox : u.brg.inbox = s.brg.inbox

theorem IssueOnly.of_same (regs : u.regs = s.regs) (seen : u.brg.fwdSeen = s.brg.fwdSeen) (inbox : u.brg.inbox = s.brg.inbox) :
    IssueOnly s u := ⟨.of_regs regs _, fun _ _ _ told => told.congr regs, seen, inbox⟩

theorem issueOnly_updBrg (s : State) {f : BridgeState → BridgeState} (seen : (f s.brg).fwdSeen = s.brg.fwdSeen)
    (inbox : (f s.brg).inbox = s.brg.inbox) : IssueOnly s (s.updBrg f) := .of_same rfl seen inbox

theorem IssueOnly.refl (s : State) : IssueOnly s s := .of_same rfl rfl rfl

theorem IssueOnly.trans (h : IssueOnly s u) (g : IssueOnly u v) : IssueOnly s v :=
  ⟨h.keeps.trans g.keeps, fun a ha i told => g.shows a ha i (h.shows a ha i told), g.seen.trans h.seen, g.inbox.trans h.inbox⟩

theorem IssueOnly.ite {c : Prop} [Decidable c] (h : IssueOnly s u) (g : IssueOnly s v) : IssueOnly s (if c then u else v) := by
  split
  · exact h
  · exact g

theorem issueOnly_each {α : Type} {f : State → α → State} (h : ∀ s x, IssueOnly s (f s x)) (l : List α) (s : State) :
    IssueOnly s (s.each l f) := by
  unfold State.each
  induction l generalizing s with
  | nil => exact .refl s
  | cons x l ih => exact (h s x).trans (ih (f s x))

theorem issueOnly_evt (s : State) {a : Nat} (named : a ∈ issueRegs) (i : Nat) : IssueOnly s (s.evt a i) :=
  ⟨(KeepsRegs.of_regs rfl _).evt named i, fun _ _ _ told => told.evt a i, rfl, rfl⟩

theorem issueOnly_bump (s : State) {a : Nat} (named : a ∈ issueRegs) (counter : ∀ b ∈ issueEvts, b ≠ a) : IssueOnly s (s.bump a) :=
  ⟨(KeepsRegs.of_regs rfl _).bump named, fun b hb _ told => told.bump (counter b hb), rfl, rfl⟩

theorem issueOnly_raise (s : State) (src d : Nat) : IssueOnly s (s.raise src d) :=
  .of_same (raise_regs s src d) (by rw [raise_brg]) (by rw [raise_brg])

theorem issueOnly_counted (s : State) {a : Nat} (named : a ∈ issueRegs) (counter : ∀ b ∈ issueEvts, b ≠ a) (src d : Nat) :
    IssueOnly s ((s.bump a).raise src d) := (issueOnly_bump s named counter).trans (issueOnly_raise _ _ _)

theorem issueOnly_reported (s : State) {a b : Nat} (named : a ∈ issueRegs) (counter : ∀ c ∈ issueEvts, c ≠ a) (event : b ∈ issueRegs)
    (i src d : Nat) : IssueOnly s (((s.bump a).evt b i).raise src d) :=
  ((issueOnly_bump s named counter).trans (issueOnly_evt _ event i)).trans (issueOnly_raise _ _ _)

/-! The end of requests. -/

theorem issueOnly_giveCompletion (s : State) (via : ReqVia) (c : Completion) : IssueOnly s (giveCompletion s via c) := by
  unfold giveCompletion
  cases via with
  | conduit n q =>
    dsimp only
    split
    · exact .of_same rfl rfl rfl
    · exact .refl s
  | envelope key i => exact .of_same rfl rfl rfl
  | dap => dsimp only; exact .ite (.of_same rfl rfl rfl) (.refl s)
  | plain => dsimp only; exact .ite (.of_same rfl rfl rfl) (.of_same rfl rfl rfl)

theorem issueOnly_openEnd (s : State) (o : OpenReq) (status : Nat) (data : List Word) : IssueOnly s (openEnd s o status data) :=
  (issueOnly_updBrg s rfl rfl).trans (issueOnly_giveCompletion _ _ _)

theorem issueOnly_postedGone (s : State) (ep : Nat) (dest : Word) : IssueOnly s (postedGone s ep dest) := by
  unfold postedGone
  split
  · exact .refl s
  · exact .of_same rfl rfl rfl

theorem issueOnly_answerAdd (s : State) (o : OpenReq) (node status : Nat) : IssueOnly s (answerAdd s o node status) := by
  unfold answerAdd
  extract_lets o1 s1
  have noted : IssueOnly s s1 := .of_same rfl rfl rfl
  split
  · exact noted.trans (issueOnly_openEnd s1 _ _ _)
  · exact noted

theorem issueOnly_answerTo (s : State) (ep tag seq node status : Nat) (data : List Word) :
    IssueOnly s (answerTo s ep tag seq node status data) := by
  unfold answerTo
  split
  · exact issueOnly_reported _ (by decide) (by decide) (by decide) _ _ _
  · exact .ite (issueOnly_answerAdd _ _ _ _) (issueOnly_openEnd _ _ _ _)

theorem issueOnly_requestRetired (s : State) (o : Origin) (dest : Word) (status : Nat) : IssueOnly s (requestRetired s o dest status) := by
  unfold requestRetired
  extract_lets op
  refine .ite (.refl s) (.ite ?_ ?_)
  · exact (issueOnly_postedGone s _ _).trans (issueOnly_reported _ (by decide) (by decide) (by decide) _ _ _)
  · split
    · exact .refl s
    · exact .ite (issueOnly_answerAdd _ _ _ _) (issueOnly_openEnd _ _ _ _)

/-! Frames in the switch. -/

theorem issueOnly_retireCounted (s : State) (e : QEntry) (why : Retire) (port : Nat) : IssueOnly s (retireCounted s e why port) := by
  cases why
  case noDest => exact issueOnly_counted s (by decide) (by decide) Src.retNoDest port
  case aged => exact issueOnly_reported s (by decide) (by decide) (by decide) 10 Src.retAged port
  case portDown => exact issueOnly_counted s (by decide) (by decide) Src.retPortDown port
  case refused => exact issueOnly_reported s (by decide) (by decide) (by decide) 12 Src.retRefused port
  case ecc => exact .refl s
  case size => exact issueOnly_counted s (by decide) (by decide) Src.badHeader port
  case noRoute => exact issueOnly_reported s (by decide) (by decide) (by decide) 6 Src.noRoute e.frame.dring

theorem issueOnly_retire (s : State) (e : QEntry) (why : Retire) (port : Nat) : IssueOnly s (retire s e why port) := by
  rw [retire_eq]
  split
  · exact issueOnly_retireCounted _ _ _ _
  · exact (issueOnly_retireCounted _ _ _ _).trans (issueOnly_requestRetired _ _ _ _)

theorem issueOnly_enqueue (s : State) (p : Fin 20) (e : QEntry) (front : Bool) : IssueOnly s (enqueue s p e front) := by
  unfold enqueue
  extract_lets x
  have same : IssueOnly s x := .of_same rfl rfl rfl
  exact .ite (same.trans (issueOnly_evt x (by decide) 9)) same

theorem issueOnly_submit (s : State) (p : Fin 20) (e : QEntry) : IssueOnly s (submit s p e) :=
  .ite (issueOnly_retire _ _ _ _) (.ite (issueOnly_retire _ _ _ _) (issueOnly_enqueue _ _ _ _))

theorem issueOnly_pinFlow (s : State) (ep cls : Nat) (dest : Word) : IssueOnly s (pinFlow s ep cls dest).2 := by
  unfold pinFlow
  split <;> exact .of_same rfl rfl rfl

theorem issueOnly_sendFrame (s : State) (input ep : Nat) (f : Frame) (o : Option Origin) (joints : Nat) :
    IssueOnly s (sendFrame s input ep f o joints) := by
  unfold sendFrame
  extract_lets e
  split
  · exact (issueOnly_submit _ _ _).trans (issueOnly_submit _ _ _)
  · split
    · exact issueOnly_retire _ _ _ _
    · split
      · exact issueOnly_submit _ _ _
      · exact (issueOnly_pinFlow s ep f.cls f.w1).trans (issueOnly_submit _ _ _)

/-! The issue of requests. -/

theorem issueOnly_dupAdd (s : State) (d : DupEntry) : IssueOnly s (dupAdd s d) :=
  .ite (.of_same rfl rfl rfl)
    ((issueOnly_updBrg s rfl rfl).trans
      (issueOnly_reported _ (a := BRG_DUP_EVICT) (b := BRG_EVT) (by decide) (by decide) (by decide) _ _ _))

theorem issueOnly_receiveOwn (s : State) (w : Waiting) : IssueOnly s (receiveRequest replyOwn s w) := by
  unfold receiveRequest
  extract_lets q
  split
  · unfold duplicateOf
    extract_lets s1
    have counted : IssueOnly s s1 := issueOnly_counted s (by decide) (by decide) _ _
    split
    · exact .ite (counted.trans (issueOnly_answerTo _ _ _ _ _ _ _)) counted
    · exact counted
  · exact (issueOnly_dupAdd s _).trans (.of_same rfl rfl rfl)

theorem issueOnly_postedAdd (s : State) (ep : Nat) (f : Frame) : IssueOnly s (postedAdd s ep f) := by
  unfold postedAdd
  extract_lets copies
  split
  · exact .refl s
  · exact .of_same rfl rfl rfl

theorem issueOnly_sendRequest (s : State) (d : Descriptor) (node tag seq : Nat) : IssueOnly s (sendRequest s d node tag seq) := by
  unfold sendRequest
  extract_lets f dest o s1 last
  have posted : IssueOnly s s1 := .ite (issueOnly_postedAdd _ _ _) (.refl s)
  clear_value last
  split
  · exact issueOnly_receiveOwn _ _
  · split
    · split
      · exact .ite (posted.trans (issueOnly_submit _ _ _)) (posted.trans (issueOnly_sendFrame _ _ _ _ _ _))
      · exact posted.trans (issueOnly_sendFrame _ _ _ _ _ _)
    · exact posted.trans (issueOnly_sendFrame _ _ _ _ _ _)

theorem issueOnly_sendFrames (s : State) (d : Descriptor) (tag seq : Nat) : IssueOnly s (sendFrames s d tag seq) := by
  unfold sendFrames
  split
  · exact issueOnly_each (fun x n => issueOnly_sendRequest x d n tag seq) _ s
  · extract_lets s1
    exact .ite ((issueOnly_sendRequest _ _ _ _ _).trans (issueOnly_receiveOwn _ _)) (issueOnly_sendRequest _ _ _ _ _)
  · exact issueOnly_sendRequest _ _ _ _ _

theorem issueOnly_issueNow (s : State) (i : Fin 32) (d : Descriptor) (via : ReqVia) : IssueOnly s (issueNow s i d via) := by
  unfold issueNow
  have taken : IssueOnly s (takeSeq s i).2 := .of_same rfl rfl rfl
  split
  rename_i seq s1 eq
  have taken : IssueOnly s s1 := by rw [show s1 = (takeSeq s i).2 by rw [eq]]; exact taken
  split
  · exact taken.trans (issueOnly_sendFrames _ _ _ _)
  · split
    · exact .refl s
    · exact (taken.trans (issueOnly_updBrg s1 rfl rfl)).trans (issueOnly_sendFrames _ _ _ _)

theorem issueOnly_setFails (s : State) (d : Descriptor) (st : Nat) : IssueOnly s (setFails s d st) :=
  .ite (.refl s) (.of_same rfl rfl rfl)

theorem issueOnly_localStatus (s : State) (d : Descriptor) (via : ReqVia) (st : Nat) : IssueOnly s (localStatus s d via st) := by
  unfold localStatus
  extract_lets s1 seq
  have counted : IssueOnly s s1 := .ite (issueOnly_reported _ (by decide) (by decide) (by decide) _ _ _) (.refl s)
  exact .ite counted (counted.trans (issueOnly_giveCompletion _ _ _))

theorem issueOnly_holdBack (s : State) (i : Fin 32) (d : Descriptor) (via : ReqVia) : IssueOnly s (holdBack s i d via) := by
  unfold holdBack
  extract_lets s1
  split <;> exact .of_same rfl rfl rfl

theorem issueOnly_issue (s : State) (d : Descriptor) (via : ReqVia) : IssueOnly s (issue s d via) := by
  unfold issue
  split
  · exact .refl s
  · split
    · exact (issueOnly_setFails _ _ _).trans (issueOnly_localStatus _ _ _ _)
    · extract_lets x
      have grown : IssueOnly s x := .ite (.of_same rfl rfl rfl) (.refl s)
      refine .ite ?_ (.ite ?_ (.ite ?_ ?_))
      · exact grown.trans (.of_same rfl rfl rfl)
      · exact grown.trans (issueOnly_holdBack _ _ _ _)
      · exact grown.trans (.of_same rfl rfl rfl)
      · exact grown.trans (issueOnly_issueNow _ _ _ _)

end Sys2Proof.Machine
end


section
set_option Elab.async false
/-! SUPPORT. The sources of the signal forwarder (R221, R222), and a signal that is forwarded. -/

namespace Sys2Proof.Machine

variable {s u : State} {t : Nat}

/-! Words that only gain bits. -/

def WordLe (v w : Word) : Prop := ∀ i, bitOf v i = true → bitOf w i = true

theorem WordLe.or {v v' w w' : Word} (h : WordLe v w) (g : WordLe v' w') : WordLe (v ||| v') (w ||| w') := by
  intro i set_
  simp only [bitOf, BitVec.getLsbD_or, Bool.or_eq_true] at set_ ⊢
  exact set_.imp (h i) (g i)

theorem wordLe_bitW {b c : Bool} (h : b = true → c = true) (k : Nat) : WordLe (bitW b k) (bitW c k) := by
  cases b
  · intro i set_
    simp [bitW, b2n, bitOf, wd] at set_
  · rw [h rfl]
    exact fun _ set_ => set_

theorem exists_bit {w : Word} (h : w ≠ 0) : ∃ i, bitOf w i = true := by
  by_contra none_
  refine h (BitVec.eq_of_getLsbD_eq fun i _ => ?_)
  simpa [bitOf] using fun set_ => none_ ⟨i, set_⟩

theorem ne_zero_of_bit {w : Word} {i : Nat} (h : bitOf w i = true) : w ≠ 0 := by
  rintro rfl
  simp [bitOf] at h

theorem WordLe.ne_zero {v w : Word} (h : WordLe v w) (some_ : v ≠ 0) : w ≠ 0 := by
  obtain ⟨i, set_⟩ := exists_bit some_
  exact ne_zero_of_bit (h i set_)

/-! Pending events (R222). -/

/-- The event registers and their enables that the hub's pending bits are made of. -/
def pendEvts : List Nat := [LNK_EVT, CUE_EVT, TIM_EVT, SWQ_EVT, FAB_EVT, BRG_EVT, LU_EVT, RST_EVT, HST_EVT, DBG_EVT, CMP_EVT]
def pendEnables : List Nat :=
  [CUE_IRQ_EN, TIM_IRQ_EN, SWQ_IRQ_EN, FAB_IRQ_EN, BRG_IRQ_EN, LU_IRQ_EN, FLT_IRQ_EN, RST_IRQ_EN, HST_IRQ_EN, DBG_IRQ_EN, CMP_IRQ_EN]

/-- No event is lost and every enable stands, of the faults and of the inbox too, and what the field die told stands. -/
structure EventsStand (s u : State) : Prop where
  events : ∀ a ∈ pendEvts, WordLe (s.reg a) (u.reg a)
  enables : ∀ a ∈ pendEnables, u.reg a = s.reg a
  faults : ∀ k < 65536, u.regSel FLT_EVT k = s.regSel FLT_EVT k
  accepted : u.accepted = s.accepted
  inbox : u.brg.inbox = s.brg.inbox
  heard : u.heard = s.heard

theorem EventsStand.pend (h : EventsStand s u) {evt en : Nat} (event : evt ∈ pendEvts) (enable : en ∈ pendEnables) :
    s.pend evt en = true → u.pend evt en = true := by
  intro pends
  refine decide_eq_true (WordLe.ne_zero (v := s.reg evt &&& s.reg en) (fun i both => ?_) (of_decide_eq_true pends))
  simp only [bitOf, BitVec.getLsbD_and, Bool.and_eq_true] at both ⊢
  exact ⟨h.events evt event i both.1, by rw [h.enables en enable]; exact both.2⟩

theorem EventsStand.pendH (h : EventsStand s u) : WordLe (pendH s) (pendH u) := by
  have links : decide (s.reg LNK_EVT ≠ 0) = true → decide (u.reg LNK_EVT ≠ 0) = true := fun some_ =>
    decide_eq_true ((h.events LNK_EVT (by decide)).ne_zero (of_decide_eq_true some_))
  have small : (hubCore s).ix.val < 65536 := lt_of_lt_of_le (hubCore s).ix.isLt (by decide)
  have core : hubCore u = hubCore s := by rw [hubCore, hubCore, h.accepted]
  have faults : u.regSel FLT_EVT (hubCore u).ix.val &&& u.reg FLT_IRQ_EN = s.regSel FLT_EVT (hubCore s).ix.val &&& s.reg FLT_IRQ_EN := by
    rw [core, h.faults _ small, h.enables FLT_IRQ_EN (by decide)]
  unfold Machine.pendH
  rw [faults, h.inbox]
  refine .or (.or (.or (.or (.or (.or (.or (.or (.or (.or (.or (.or (wordLe_bitW links 15) ?_) ?_) ?_) ?_) ?_) ?_) ?_) ?_) ?_) ?_) ?_) ?_
  · exact wordLe_bitW (h.pend (by decide) (by decide)) 14
  · exact wordLe_bitW (h.pend (by decide) (by decide)) 13
  · exact wordLe_bitW (h.pend (by decide) (by decide)) 12
  · exact wordLe_bitW (h.pend (by decide) (by decide)) 11
  · exact wordLe_bitW (h.pend (by decide) (by decide)) 10
  · exact wordLe_bitW (h.pend (by decide) (by decide)) 9
  · exact wordLe_bitW id 8
  · exact wordLe_bitW (h.pend (by decide) (by decide)) 7
  · exact wordLe_bitW (h.pend (by decide) (by decide)) 6
  · exact wordLe_bitW (h.pend (by decide) (by decide)) 5
  · exact wordLe_bitW id 4
  · exact wordLe_bitW (h.pend (by decide) (by decide)) 3

theorem EventsStand.source (h : EventsStand s u) {cfg : Word} (up : fwdSource s cfg = true) : fwdSource u cfg = true := by
  unfold fwdSource at up ⊢
  rw [h.heard]
  dsimp only at up ⊢
  split
  · rename_i low
    rw [if_pos low] at up
    exact h.pendH _ up
  · rename_i low
    rw [if_neg low] at up
    exact up

theorem IssueOnly.events (h : IssueOnly s u) (hub : HubOnly s u) : EventsStand s u where
  events a mem := by
    by_cases event : a ∈ issueEvts
    · exact h.shows a event
    · have apart : ∀ a ∈ pendEvts, a ∉ issueEvts → a ∉ issueRegs := by decide
      rw [show u.reg a = s.reg a from h.keeps a 0 (by decide) (apart a mem event)]
      exact fun _ set_ => set_
  enables a mem := h.keeps a 0 (by decide) ((by decide : ∀ a ∈ pendEnables, a ∉ issueRegs) a mem)
  faults k hk := h.keeps FLT_EVT k hk (by decide)
  accepted := by rw [hub]; rfl
  inbox := h.inbox
  heard := by rw [hub]

theorem eventsStand_settle (u : State) : EventsStand u (settle u) where
  events a mem i set_ := EvtSet.settled (s := u) (a := a) set_ fun c => (by decide : ∀ c : Fin 4, ∀ a ∈ pendEvts, a ≠ CAN_GAPABT c.val) c a mem
  enables a mem := reg_settle_of_not_closing u a ((by decide : ∀ a ∈ pendEnables, closingReg a = false) a mem)
  faults k hk := regSel_settle u FLT_EVT k hk (by decide)
  accepted := by unfold State.accepted; rw [settle_core, settle_core]
  inbox := settle_brg_inbox u
  heard := settle_heard u

theorem EventsStand.trans {v : State} (h : EventsStand s u) (g : EventsStand u v) : EventsStand s v where
  events a mem i set_ := g.events a mem i (h.events a mem i set_)
  enables a mem := (g.enables a mem).trans (h.enables a mem)
  faults k hk := (g.faults k hk).trans (h.faults k hk)
  accepted := g.accepted.trans h.accepted
  inbox := g.inbox.trans h.inbox
  heard := g.heard.trans h.heard

/-! The forwarder has seen a source as long as it is up (R221). -/

theorem seen_settle {k : Fin 8} (seen : vget u.brg.fwdSeen k = true)
    (up : fwdSource (settle u) ((settle u).regSel SIG_FWD_SRC k.val) = true) : vget (settle u).brg.fwdSeen k = true := by
  have split_ (x : State) (same : x.brg.fwdSeen = u.brg.fwdSeen)
      (upX : fwdSource (settleFwd x) ((settleFwd x).regSel SIG_FWD_SRC k.val) = true) : vget (settleFwd x).brg.fwdSeen k = true := by
    have upX : fwdSource x (x.regSel SIG_FWD_SRC k.val) = true := upX
    have formula : vget (settleFwd x).brg.fwdSeen k = ((vget x.brg.fwdSeen k || !bitOf (x.regSel SIG_FWD_SRC k.val) 15) &&
        fwdSource x (x.regSel SIG_FWD_SRC k.val)) := Vector.getElem_ofFn k.isLt
    rw [formula, same, seen, upX]
    rfl
  unfold settle at up ⊢
  dsimp only at up ⊢
  refine split_ _ ?_ up
  simp only [settleSignals_brg, foldl_keeps (fun s : State => s.brg) settleCan settleCan_brg]
  simp

end Sys2Proof.Machine
end


section
set_option Elab.async false
/-! SUPPORT. A signal that is forwarded (R221), and a request that enters the node's own bridge (R209, R215). -/

namespace Sys2Proof.Machine

variable {s u : State} {t : Nat} {k : Fin 8}

theorem EventsStand.of_same (regs : u.regs = s.regs) (accepted : u.accepted = s.accepted) (inbox : u.brg.inbox = s.brg.inbox)
    (heard : u.heard = s.heard) : EventsStand s u where
  events a _ i set_ := by rw [reg_congr regs]; exact set_
  enables a _ := reg_congr regs a
  faults j _ := regSel_congr regs FLT_EVT j
  accepted := accepted
  inbox := inbox
  heard := heard

/-- A source that is up and has been seen stays seen. -/
theorem forwarded (events : EventsStand s u) (named : u.regSel SIG_FWD_SRC k.val = s.regSel SIG_FWD_SRC k.val)
    (up : fwdSource s (s.regSel SIG_FWD_SRC k.val) = true) (seen : vget u.brg.fwdSeen k = true) :
    vget (settle u).brg.fwdSeen k = true := by
  have small : k.val < 65536 := lt_of_lt_of_le k.isLt (by decide)
  refine seen_settle seen ?_
  rw [regSel_settle u _ _ small (by decide), named]
  exact (events.trans (eventsStand_settle u)).source up

/-! A request that enters the node's own bridge. -/

theorem receiveRequest_fresh {reply : State → Request → Response → State} {w : Waiting}
    (fresh : dupFind s w.req.src w.req.tag w.req.seq = none) :
    (receiveRequest reply s w).brg.waiting = s.brg.waiting ++ [w] ∧ (receiveRequest reply s w).brg.sets = s.brg.sets ∧
    (receiveRequest reply s w).brg.completions = s.brg.completions ∧ (receiveRequest reply s w).sw = s.sw := by
  have row : receiveRequest reply s w =
      (dupAdd s ⟨w.req.src, w.req.tag, w.req.seq, none, false, false, w.op⟩).updBrg fun b => { b with waiting := b.waiting ++ [w] } := by
    unfold receiveRequest
    dsimp only
    rw [fresh]
  have kept (d : DupEntry) : (dupAdd s d).brg.waiting = s.brg.waiting ∧ (dupAdd s d).brg.sets = s.brg.sets ∧
      (dupAdd s d).brg.completions = s.brg.completions ∧ (dupAdd s d).sw = s.sw := by
    unfold dupAdd
    split
    · exact ⟨rfl, rfl, rfl, rfl⟩
    · rw [raise_brg, raise_sw]; exact ⟨rfl, rfl, rfl, rfl⟩
  rw [row]
  obtain ⟨waiting, sets, completions, sw⟩ := kept ⟨w.req.src, w.req.tag, w.req.seq, none, false, false, w.op⟩
  exact ⟨congrArg (· ++ [w]) waiting, sets, completions, sw⟩

/-! SIG_FORWARD (R221). -/

/-- The state in which the signal of a forwarding entry is issued: the source is seen, the free data words are used. -/
def forwarding (s : State) (k : Fin 8) : State := s.usedFree.usedFree.updBrg fun b => { b with fwdSeen := vset b.fwdSeen k true }

/-- The signal of a forwarding entry. -/
def fwdSignal (s : State) (k : Fin 8) : Descriptor :=
  { ep := 5, op := .sig, dring := fld (s.regSel SIG_FWD_DST k.val) 15 12, dnode := fld (s.regSel SIG_FWD_DST k.val) 11 0, count := k.val + 1
    burst := false, len := 0, cg := false, cell := fld (s.regSel SIG_FWD_NUM k.val) 15 14, addr := 0
    set := fld (s.regSel SIG_FWD_NUM k.val) 7 0, cycle := 0, data := [s.free, s.usedFree.free] }

theorem sigForward_eq (entry : bitOf (s.regSel SIG_FWD_SRC k.val) 15 = true) (up : fwdSource s (s.regSel SIG_FWD_SRC k.val) = true)
    (unseen : vget s.brg.fwdSeen k = false) : sigForward s k =
      if fwdWaits s k then s.updBrg fun b => { b with fwdSeen := vset b.fwdSeen k true }
      else issue (forwarding s k) (fwdSignal s k) .plain := by
  unfold sigForward
  dsimp only
  rw [entry, up, unseen]
  rfl

theorem seen_sigForward (entry : bitOf (s.regSel SIG_FWD_SRC k.val) 15 = true) (up : fwdSource s (s.regSel SIG_FWD_SRC k.val) = true)
    (unseen : vget s.brg.fwdSeen k = false) : vget (settle (sigForward s k)).brg.fwdSeen k = true := by
  have marked (x : State) : vget (vset x.brg.fwdSeen k true) k = true := by simp [vget_vset]
  rw [sigForward_eq entry up unseen]
  split
  · exact forwarded (EventsStand.of_same (s := s) rfl rfl rfl rfl) rfl up (marked s)
  · have issued := issueOnly_issue (forwarding s k) (fwdSignal s k) .plain
    have events : EventsStand s (forwarding s k) := .of_same rfl rfl rfl rfl
    have small : k.val < 65536 := lt_of_lt_of_le k.isLt (by decide)
    refine forwarded (events.trans (issued.events (hubOnly_issue _ _ _))) (issued.keeps SIG_FWD_SRC k.val small (by decide)) up ?_
    rw [issued.seen]
    exact marked s

/-- Nothing of endpoint 5 holds a signal to this node back. -/
structure SignalFree (s : State) : Prop where
  held : (vget s.brg.eps 5).held = []
  window : (vget s.brg.eps 5).window = []
  posted : (vget s.brg.eps 5).posted = []
  sigs : (vget s.brg.eps 5).heldSigs = []
  tag : (freeTag s 5).isSome = true
  room : txnHeld s (txnKind .sig) < 16
  fresh : dupFind s ⟨s.ringNo, s.fab.node, 5⟩ 0 (vget s.brg.eps 5).seq.toNat = none

theorem fwdWaits_free (free : SignalFree s) (k : Fin 8) : fwdWaits s k = false := by
  unfold fwdWaits
  dsimp only
  rw [free.sigs, free.held]
  rfl

/-- A signal of endpoint 5 for this node itself that nothing holds back enters the node's own bridge (R209). -/
theorem issue_ownSignal {d : Descriptor} (free : SignalFree s) (ep : d.ep = 5) (op : d.op = .sig) (cg : d.cg = false)
    (numbered : s.fab.node ≠ 0) (here : d.dring = s.ringNo) (own : d.dnode = s.fab.node) :
    issue s d .plain = receiveRequest replyOwn (takeSeq s 5).2 (localRequest (takeSeq s 5).2 d 0 (vget s.brg.eps 5).seq.toNat
      (requestFrame (takeSeq s 5).2 d d.dnode 0 (vget s.brg.eps 5).seq.toNat).cls) := by
  have at_ : (5 : Fin 32).val = d.ep := ep.symm
  have fine : judge s d = none := by
    unfold judge
    rw [op, cg, here, own]
    simp [opBad, sizeBad, TxnOpHasAddr, destBad, op, numbered]
  have notFull : windowFull s 5 = false := by unfold windowFull windowOf; rw [free.window]; rfl
  have room : localFull s d = false := by
    have limit : ¬ txnLimit (txnKind .sig) ≤ txnHeld s (txnKind .sig) := by have := free.room; unfold txnLimit; split <;> omega
    unfold localFull
    rw [op, decide_eq_false limit, Bool.and_false]
  have open_ : bridgeShut s d = false := by unfold bridgeShut; rw [here, own]; simp
  have mayGo : mustHold s 5 d = false := by
    unfold mustHold
    rw [notFull, room, open_, ep, Option.isNone_eq_false_iff.2 free.tag]
    simp
  have noWait : sigMustWait s 5 d = false := by unfold sigMustWait; rw [free.posted, free.sigs]; simp
  have plain : grown s d = s := if_neg (by rw [op]; decide)
  rw [issue_goes at_ fine (by rw [op]; decide) free.held mayGo noWait, plain, issueNow_posted (by rw [op]; rfl),
    sendFrames_one (by rw [op]; decide) (by rw [op]; decide), op, if_neg (by decide)]
  exact if_pos ⟨here, own⟩

theorem completes_sigForward (entry : bitOf (s.regSel SIG_FWD_SRC k.val) 15 = true) (up : fwdSource s (s.regSel SIG_FWD_SRC k.val) = true)
    (unseen : vget s.brg.fwdSeen k = false) : Completes (.sigForward k t) s fun u => vget u.brg.fwdSeen k = true ∧
      (fld (s.regSel SIG_FWD_DST k.val) 11 0 = s.fab.node → s.fab.node ≠ 0 → fld (s.regSel SIG_FWD_DST k.val) 15 12 = s.ringNo →
        (vget s.brg.eps 5).held = [] → (vget s.brg.eps 5).window = [] → (vget s.brg.eps 5).posted = [] → (vget s.brg.eps 5).heldSigs = [] →
        (freeTag s 5).isSome = true → txnHeld s (txnKind .sig) < 16 →
        dupFind s ⟨s.ringNo, s.fab.node, 5⟩ 0 (vget s.brg.eps 5).seq.toNat = none →
        ∃ w, u.brg.waiting = s.brg.waiting ++ [w] ∧ w.op = .sig ∧ w.req.set = fld (s.regSel SIG_FWD_NUM k.val) 7 0) := by
  have row : exec (.sigForward k t) s = done (sigForward (s.at t) k) := rfl
  refine completes_done row
    ⟨seen_sigForward (s := s.at t) entry up unseen, fun own numbered here held window posted sigs tag room fresh => ?_⟩
  have free : SignalFree (s.at t) := ⟨held, window, posted, sigs, tag, room, fresh⟩
  have freeF : SignalFree (forwarding (s.at t) k) := ⟨held, window, posted, sigs, tag, room, fresh⟩
  have goes : sigForward (s.at t) k = issue (forwarding (s.at t) k) (fwdSignal (s.at t) k) .plain :=
    (sigForward_eq (s := s.at t) entry up unseen).trans (if_neg (by rw [fwdWaits_free free]; decide))
  rw [goes, issue_ownSignal freeF rfl rfl rfl numbered here own, settle_brg_waiting, (receiveRequest_fresh ?_).1]
  · exact ⟨_, rfl, rfl, rfl⟩
  · exact fresh

end Sys2Proof.Machine
end


section
set_option Elab.async false
/-! SUPPORT. A set of staged writes that closes (R230). -/

namespace Sys2Proof.Machine

variable {s u : State} {t : Nat} {x : OpenSet} {op : TxnOp} {i : Fin 32}

/-- The request that closes a set (R230). -/
def closingRequest (s : State) (x : OpenSet) (op : TxnOp) : Descriptor :=
  { ep := x.ep, op := op, dring := s.ringNo, dnode := 4095, count := 0, burst := false, len := 0, cg := false, cell := 0
    addr := 0, set := x.set, cycle := x.cycle, data := [] }

/-- Its entry in the switch. -/
def closingEntry (s : State) (x : OpenSet) (op : TxnOp) (seq : Nat) : QEntry :=
  ⟨requestFrame s (closingRequest s x op) 4095 0 seq, 6, s.now, 0, some ⟨x.ep, 0, seq, op.code⟩, 0⟩

/-- The two requests that close a set. -/
def Closing (op : TxnOp) : Prop := op = .commit ∨ op = .abort

theorem closingFrame (s : State) (x : OpenSet) (h : Closing op) (seq : Nat) :
    let f := requestFrame s (closingRequest s x op) 4095 0 seq
    f.cls = 0 ∧ f.payload.length = 5 ∧ f.dnode = 4095 ∧ wAt f.payload 0 >>> 12 = wd op.code := by
  have dnode : ∀ f : Frame, f.w1 = putFld s.ringNo 15 12 ||| putFld 4095 11 0 → f.dnode = 4095 := fun f is => by
    unfold Frame.dnode
    rw [is, (fld_dest _ _).2]
  rcases h with rfl | rfl <;> refine ⟨?_, rfl, dnode _ rfl, ?_⟩
  · exact requestFrame_cls _ _ _ _ _
  · show reqWord0 .commit false 0 false 0 >>> 12 = wd TxnOp.commit.code
    decide
  · exact requestFrame_cls _ _ _ _ _
  · show reqWord0 .abort false 0 false 0 >>> 12 = wd TxnOp.abort.code
    decide

/-- Sent: the request has entered the node's own bridge, and its frame the queues of both rings; no set and no completion moves. -/
structure ClosingSent (s u : State) (x : OpenSet) (op : TxnOp) : Prop where
  sets : u.brg.sets = s.brg.sets
  own : ∃ w ∈ u.brg.waiting, w.op = op ∧ w.req.set = x.set ∧ w.req.cycle = x.cycle ∧ w.req.src = ⟨s.ringNo, s.fab.node, x.ep⟩
  rings : ∀ r, ∃ e, u.queue (ringPort r) 0 = s.queue (ringPort r) 0 ++ [e] ∧ e.frame.dnode = 4095 ∧ wAt e.frame.payload 0 >>> 12 = wd op.code

theorem sendClosing_sent (at_ : i.val = x.ep) (h : Closing op) (numbered : s.fab.node ≠ 0) (up : RingsUp s)
    (fresh : dupFind s ⟨s.ringNo, s.fab.node, x.ep⟩ 0 (vget s.brg.eps i).seq.toNat = none) : ClosingSent s (sendClosing s x op) x op := by
  let seq := (vget s.brg.eps i).seq.toNat
  let e := closingEntry s x op seq
  obtain ⟨cls, short, dnode, word⟩ := closingFrame s x h seq
  obtain ⟨y, isY⟩ : ∃ y, y = postedAdd (takeSeq s i).2 x.ep e.frame := ⟨_, rfl⟩
  have only : BridgeOnly s y := by
    rw [isY]
    unfold postedAdd BridgeOnly
    dsimp only
    split <;> rfl
  have kept : y.brg.dups = s.brg.dups ∧ y.brg.sets = s.brg.sets := by
    rw [isY]
    unfold postedAdd
    dsimp only
    split <;> exact ⟨rfl, rfl⟩
  have upY : RingsUp y := by rw [only]; exact up
  have fits : ¬ (e.frame.cls = 0 ∧ e.frame.payload.length > 32) := fun long => by
    have := long.2
    rw [show e.frame.payload.length = 5 from short] at this
    omega
  let z := enqueue (enqueue y (ringPort .a) e false) (ringPort .b) e false
  have openB : portOff (enqueue y (ringPort .a) e false) (ringPort .b) = false := ((joins_enqueue y .a e).roads.up upY).open_ .b
  have both : submit (submit y (ringPort .a) e) (ringPort .b) e = z := by
    rw [submit_of_open fits (upY.open_ .a), submit_of_open fits openB]
  have switch : SwitchOnly y z := (switchOnly_enqueue _ _ _ _).trans (switchOnly_enqueue _ _ _ _)
  let w := localRequest s (closingRequest s x op) 0 seq 0
  have row : sendClosing s x op = receiveRequest replyOwn z w := by
    have posted : (if s.fab.node = 0 then (takeSeq s i).2 else
        submit (submit (postedAdd (takeSeq s i).2 x.ep e.frame) (ringPort .a) e) (ringPort .b) e) = z := by
      rw [if_neg numbered, ← isY, both]
    rw [← posted]
    unfold sendClosing
    rw [show place? 32 x.ep = some i from place_ep (d := closingRequest s x op) at_]
    rfl
  have freshZ : dupFind z w.req.src w.req.tag w.req.seq = none := by
    unfold dupFind
    rw [show z.brg = y.brg by rw [switch], kept.1]
    exact fresh
  obtain ⟨waiting, sets, -, sw⟩ := receiveRequest_fresh (reply := replyOwn) freshZ
  rw [row]
  refine ⟨?_, ⟨w, by rw [waiting]; exact List.mem_append_right _ (List.mem_singleton_self w), ?_, rfl, rfl, rfl⟩, fun r => ⟨e, ?_, dnode, word⟩⟩
  · rw [sets, show z.brg = y.brg by rw [switch]]; exact kept.2
  · rcases h with rfl | rfl <;> rfl
  · have queued := queue_both y e r
    rw [show e.frame.cls = 0 from cls] at queued
    rw [queue_congr sw, queued, queue_congr (show y.sw = s.sw by rw [only])]

/-- A set that has closed: its request is sent, it is gone, and its completion is given. -/
structure SetClosed (s u : State) (x : OpenSet) (ep : Nat) (op : TxnOp) (st : Nat) (data : List Word) : Prop where
  sets : u.brg.sets = s.brg.sets.filter fun y => y ≠ x
  answered : ∃ c ∈ u.brg.completions, c.ep = ep ∧ c.op = .commit ∧ c.status = st ∧ c.data = data
  own : ∃ w ∈ u.brg.waiting, w.op = op ∧ w.req.set = x.set ∧ w.req.cycle = x.cycle ∧ w.req.src = ⟨s.ringNo, s.fab.node, ep⟩
  rings : ∀ r, ∃ e, u.queue (ringPort r) 0 = s.queue (ringPort r) 0 ++ [e] ∧ e.frame.dnode = 4095 ∧ wAt e.frame.payload 0 >>> 12 = wd op.code

/-- The guard time before the latch instant (R230). -/
def guardOf (s : State) : Int := (atLeastOne (s.reg BRG_STG_GUARD).toNat * usT : Nat)

/-- The set has left the list of open sets. -/
def withoutSet (s : State) (x : OpenSet) : State := s.updBrg fun b => { b with sets := b.sets.filter (· ≠ x) }

/-- The set is aborted: ABORT goes out, and the completion names what failed. -/
def abortSet (s : State) (x : OpenSet) (ep : Nat) (data : List Word) : State :=
  closingDone (((sendClosing (withoutSet s x) x .abort).evt BRG_EVT brgSTG_ABORT).raise Src.setAborted ep) x .plain stSTG_ABORT data

/-- What becomes of a set that may close. -/
def closeSet (s : State) (x : OpenSet) (ep : Nat) : State :=
  match x.failed with
  | none =>
    if guardOf s ≤ (instantsOf s x.cycle).2.1 - s.ring then closingDone (sendClosing (withoutSet s x) x .commit) x .plain stOK []
    else abortSet s x ep [0, 0]
  | some (n, st) => abortSet s x ep [wd n, putFld st 5 0]

/-- What follows the sending leaves it a closing: the completion of an endpoint that is not the QSPI port's is kept by the bridge. -/
theorem setClosed_settle {y z : State} {ep st : Nat} {data : List Word} (own : x.ep = ep) (service : ep ≠ 0)
    (sent : ClosingSent (withoutSet s x) y x op) (brg : z.brg = y.brg) (sw : z.sw = y.sw) :
    SetClosed s (settle (closingDone z x .plain st data)) x ep op st data := by
  have row : closingDone z x .plain st data = z.updBrg fun b =>
      { b with completions := b.completions ++ [⟨x.ep, 0, 0, .commit, st, data⟩] } := if_neg (own ▸ service)
  rw [row]
  refine ⟨?_, ⟨⟨x.ep, 0, 0, .commit, st, data⟩, ?_, own, rfl, rfl, rfl⟩, ?_, fun r => ?_⟩
  · rw [settle_brg_sets]; exact (congrArg (·.sets) brg).trans sent.sets
  · rw [settle_brg_completions]; exact List.mem_append_right _ (List.mem_singleton_self _)
  · obtain ⟨w, mem, is⟩ := sent.own
    refine ⟨w, ?_, own ▸ is⟩
    rw [settle_brg_waiting]
    exact (congrArg (·.waiting) brg) ▸ mem
  · obtain ⟨e, queued, is⟩ := sent.rings r
    have before : (withoutSet s x).queue (ringPort r) 0 = s.queue (ringPort r) 0 := queue_congr (updBrg_sw s _) _ _
    refine ⟨e, ?_, is⟩
    rw [queue_congr (settle_sw _), queue_congr ((updBrg_sw z _).trans sw), queued, before]

/-- A set of an endpoint that may close: its staged writes are done, its descriptor has come, and the pacing lets it go (R203, R230). -/
structure MayClose (s : State) (ep : Fin 32) (set : Byte) (x : OpenSet) : Prop where
  found : setOpen s ep.val set.toNat = some x
  asked : x.closing = some .plain
  idle : x.open_ = 0
  service : ep.val ≠ 0
  paced : windowFull s ep = false
  fresh : dupFind s ⟨s.ringNo, s.fab.node, ep.val⟩ 0 (vget s.brg.eps ep).seq.toNat = none
  numbered : s.fab.node ≠ 0
  up : RingsUp s

section
variable {ep : Fin 32} {set : Byte} (may : MayClose s ep set x)
include may

theorem MayClose.own : x.ep = ep.val :=
  of_decide_eq_true (List.mem_filter.1 (List.mem_of_find?_eq_some may.found)).2

theorem MayClose.sent (h : Closing op) :
    ClosingSent (withoutSet s x)
      (sendClosing (withoutSet s x) x op) x op := by
  refine sendClosing_sent (i := ep) may.own.symm h may.numbered may.up ?_
  rw [may.own]
  exact may.fresh

/-- A set with a failed write, or whose latch instant is too near, is aborted (R230). -/
theorem MayClose.aborts {data : List Word} (row : setClose s ep.val set.toNat = abortSet s x ep.val data) :
    SetClosed s (settle (setClose s ep.val set.toNat)) x ep.val .abort stSTG_ABORT data ∧
    EvtSet (settle (setClose s ep.val set.toNat)) BRG_EVT brgSTG_ABORT := by
  have sent := may.sent (op := .abort) (.inr rfl)
  rw [row, abortSet]
  generalize sendClosing (withoutSet s x) x .abort = y at sent
  refine ⟨setClosed_settle may.own may.service sent ?_ ?_, EvtSet.settle ?_ (by decide)⟩
  · rw [raise_brg]; rfl
  · rw [raise_sw]; rfl
  · have told : EvtSet ((y.evt BRG_EVT brgSTG_ABORT).raise Src.setAborted ep.val) BRG_EVT brgSTG_ABORT :=
      (evtSet_evt y _ _ (by decide)).raise _ _
    refine told.congr ?_
    unfold closingDone giveCompletion
    dsimp only
    split <;> rfl

theorem MayClose.goes : setClose s ep.val set.toNat = closeSet s x ep.val := by
  have free : ¬ (x.open_ ≠ 0 ∨ windowFull s ep = true) := by
    rintro (busy | full)
    · exact busy may.idle
    · exact Bool.noConfusion (may.paced.symm.trans full)
  unfold setClose
  rw [may.found]
  dsimp only
  rw [may.asked, place?_val]
  dsimp only
  rw [if_neg free]
  rfl

/-- In time (R230): the set is committed. -/
theorem MayClose.commits (clean : x.failed = none) (early : guardOf s ≤ (instantsOf s x.cycle).2.1 - s.ring) :
    SetClosed s (settle (setClose s ep.val set.toNat)) x ep.val .commit stOK [] := by
  have row : setClose s ep.val set.toNat = closingDone (sendClosing (withoutSet s x) x .commit) x .plain stOK [] := by
    rw [may.goes, closeSet, clean]
    exact if_pos early
  have sent := may.sent (op := .commit) (.inl rfl)
  rw [row]
  exact setClosed_settle may.own may.service sent rfl rfl

theorem MayClose.late (clean : x.failed = none) (near : (instantsOf s x.cycle).2.1 - s.ring < guardOf s) :
    setClose s ep.val set.toNat = abortSet s x ep.val [0, 0] := by
  rw [may.goes, closeSet, clean]
  exact if_neg (by omega)

theorem MayClose.failed {n st : Nat} (bad : x.failed = some (n, st)) :
    setClose s ep.val set.toNat = abortSet s x ep.val [wd n, putFld st 5 0] := by
  rw [may.goes, closeSet, bad]

end

end Sys2Proof.Machine
end


section
set_option Elab.async false
/-! SUPPORT. Limits of locks and cells, entries of the filter that expire and the logs of the bridge (R213, R215, R220, R224, R225), and the
obligation about the upkeep of the bridge. -/

namespace Sys2Proof.Machine

variable {s u : State} {t : Nat} {path : Path}

/-! Limits (R215, R224, R225). -/

/-- Counted, shown in BRG_EVT and reported. -/
theorem bridgeReported {y : State} {a b : Nat} (src d : Nat) (apart : a ≠ BRG_EVT) (open_ : closingReg a = false) (bit : b < 16)
    (regs : y.regs = s.regs) {z : State} (same : z.regs = (((y.bump a).evt BRG_EVT b).raise src d).regs) :
    (settle z).reg a = bumpW (s.reg a) 1 ∧ ((settle z).reg BRG_EVT).getLsbD b = true := by
  have told : EvtSet z BRG_EVT b := EvtSet.congr ((evtSet_evt (y.bump a) _ _ bit).raise src d) same
  refine ⟨?_, told.settle (by decide)⟩
  rw [reg_settle_of_not_closing _ _ open_, reg_congr same, reg_congr (raise_regs _ _ _), reg_evt_ne _ _ apart, reg_bump_self, reg_congr regs]

theorem completes_lockReleaseTimeout {l : FarLock} (held : s.brg.lock = some l) (idle : s.brg.blocked = []) :
    Completes (.lockReleaseTimeout t) s fun u =>
      u.brg.lock = none ∧ u.reg BRG_LOCK_TMO = bumpW (s.reg BRG_LOCK_TMO) 1 ∧ (u.reg BRG_EVT).getLsbD brgLOCK_TMO = true ∧ SameMemory s u := by
  let y := (((s.at t).bump BRG_LOCK_TMO).evt BRG_EVT brgLOCK_TMO).raise Src.farLockTimeout l.owner.ep
  have brg : y.brg = s.brg := raise_brg _ _ _
  let z := y.updBrg fun b => { b with lock := none, blocked := [] }
  have row : exec (.lockReleaseTimeout t) s = done z := by
    have unlocked : unlockTarget y = z := by
      unfold unlockTarget
      rw [brg, idle]
      rfl
    refine congrArg done (Eq.trans ?_ unlocked)
    unfold lockTimeout
    rw [show (s.at t).brg.lock = some l from held]
  have mem : z.mem = s.mem := raise_mem _ _ _
  obtain ⟨counted, shown⟩ := bridgeReported (s := s) (y := s.at t) (z := z) Src.farLockTimeout l.owner.ep (a := BRG_LOCK_TMO) (b := brgLOCK_TMO)
    (by decide) (by decide) (by decide) rfl rfl
  exact completes_done row ⟨settle_brg_lock z, counted, shown, sameMemory_settle mem⟩

theorem setCell_eq (s : State) (k : Fin 16) (c : SemCell) : setCell s k.val c = s.updBrg fun b => { b with cells := vset b.cells k c } := by
  unfold setCell
  rw [place?_val]

theorem cells_vset {v : Vector SemCell 16} (k : Fin 16) : vget (vset v k ⟨none, 0⟩) k = ⟨none, 0⟩ ∧
    ∀ j, j ≠ k → vget (vset v k ⟨none, 0⟩) j = vget v j := by
  refine ⟨by simp [vget_vset], fun j other => ?_⟩
  rw [vget_vset, if_neg other]

theorem completes_cellTimeout {k : Fin 16} (held : (vget s.brg.cells k).owner.isSome = true) : Completes (.cellTimeout k t) s fun u =>
    vget u.brg.cells k = ⟨none, 0⟩ ∧ u.reg BRG_SEM_TMO = bumpW (s.reg BRG_SEM_TMO) 1 ∧ (u.reg BRG_EVT).getLsbD brgSEM_TMO = true ∧
    ∀ j, j ≠ k → vget u.brg.cells j = vget s.brg.cells j := by
  let y := (s.at t).updBrg fun b => { b with cells := vset b.cells k ⟨none, 0⟩ }
  let z := ((y.bump BRG_SEM_TMO).evt BRG_EVT brgSEM_TMO).raise Src.cellTimeout k.val
  have row : exec (.cellTimeout k t) s = done z := by
    refine congrArg done ((if_pos held).trans ?_)
    rw [setCell_eq]
  have cells : (settle z).brg.cells = vset s.brg.cells k ⟨none, 0⟩ := (settle_brg_cells z).trans (congrArg (·.cells) (raise_brg _ _ _))
  obtain ⟨freed, others⟩ := cells_vset (v := s.brg.cells) k
  obtain ⟨counted, shown⟩ := bridgeReported (s := s) (y := y) (z := z) Src.cellTimeout k.val (a := BRG_SEM_TMO) (b := brgSEM_TMO)
    (by decide) (by decide) (by decide) rfl rfl
  exact completes_done row ⟨by rw [cells]; exact freed, counted, shown, fun j other => by rw [cells]; exact others j other⟩

theorem completes_semRel (k : Fin 16) : Completes (.semRel k t) s fun u =>
    vget u.brg.cells k = ⟨none, 0⟩ ∧ SameRegs s u [] ∧ ∀ j, j ≠ k → vget u.brg.cells j = vget s.brg.cells j := by
  let y := (s.at t).updBrg fun b => { b with cells := vset b.cells k ⟨none, 0⟩ }
  have row : exec (.semRel k t) s = done y := congrArg done (setCell_eq (s.at t) k ⟨none, 0⟩)
  have cells : (settle y).brg.cells = vset s.brg.cells k ⟨none, 0⟩ := settle_brg_cells y
  obtain ⟨freed, others⟩ := cells_vset (v := s.brg.cells) k
  exact completes_done row ⟨by rw [cells]; exact freed, sameRegs_of_regs rfl, fun j other => by rw [cells]; exact others j other⟩

theorem completes_dupEntryExpire (r : Fin 16) (n : Fin 4096) (ep : Fin 32) (tag : Fin 64) (seq : Word) :
    Completes (.dupEntryExpire r n ep tag seq t) s fun u =>
      u.brg.dups = s.brg.dups.filter (fun d => !(d.done && isKey ⟨r.val, n.val, ep.val⟩ tag.val seq.toNat d)) ∧ SameRegs s u [] :=
  completes_done rfl ⟨settle_brg_dups _, sameRegs_of_regs rfl⟩

/-! The logs (R213, R220). -/

theorem latchRegs_brg (path : Path) (l : List (Nat × Word)) (s : State) : (latchRegs s path l).brg = s.brg := by
  induction l generalizing s with
  | nil => rfl
  | cons x l ih => rw [latchRegs, ih]; rfl

/-- A register whose read pops, and that neither has a parity bit nor is read from a core at claim 0, is read so (R7-R9). -/
theorem regRead_pop {a : Nat} {x : Word × State} (at_ : canonReg a = a) (listed : (regRow? a).isSome = true) (plain : hasParity a = false)
    (shown : viewBlank s path = false) (pops : regPop s path a = some x) : regRead s path a = x := by
  obtain ⟨r, row⟩ := Option.isSome_iff_exists.1 listed
  have unchecked : parityCheck s a = s := if_pos (by rw [plain]; rfl)
  unfold regRead
  dsimp only
  rw [at_, row]
  dsimp only
  rw [unchecked, shown, Bool.and_false, if_neg (by decide), pops]

/-- A log's oldest entry is taken and its words are latched for the path. -/
theorem completes_pop {c : Instr} {a : Nat} {x : State → Word × State} {l : List (Nat × Word)} {y : State}
    (row : exec c s = done (rowRead (s.at t) path a)) (free : s.lockedOut path = false) (shown : viewBlank s path = false)
    (at_ : canonReg a = a) (listed : (regRow? a).isSome = true) (plain : hasParity a = false)
    (pops : regPop (s.at t) path a = some (x (s.at t))) (is : (x (s.at t)).2 = latchRegs y path l)
    (distinct : (l.map Prod.fst).Nodup) (open_ : ∀ x ∈ l, closingReg x.1 = false) :
    Completes c s fun u => u.brg.ferr = y.brg.ferr ∧ u.brg.inbox = y.brg.inbox ∧ ∀ x ∈ l, u.regSel x.1 path.code = x.2 := by
  have read : rowRead (s.at t) path a = latchRegs y path l := by
    refine (throughLock_free (s := s.at t) free).trans ?_
    rw [regRead_pop (s := s.at t) at_ listed plain shown pops, is]
  rw [read] at row
  refine completes_done row ⟨?_, ?_, fun x mem => regSel_settle_latchRegs y distinct mem (open_ x mem)⟩
  · rw [settle_brg_ferr, latchRegs_brg]
  · rw [settle_brg_inbox, latchRegs_brg]

theorem completes_sigRxPop {x : SigEntry} {rest : List SigEntry} (first : s.brg.inbox = x :: rest) (free : s.lockedOut path = false)
    (shown : viewBlank s path = false) (loud : quiet s path = false) : Completes (.sigRxPop path t) s fun u =>
      u.brg.inbox = rest ∧ u.regSel SIG_RX_W1 path.code = putFld x.src.ring 15 12 ||| putFld x.src.node 11 0 ∧
      u.regSel SIG_RX_W2 path.code = putFld x.src.ep 4 0 ∧ u.regSel SIG_RX_W3 path.code = x.d0 ∧ u.regSel SIG_RX_W4 path.code = x.d1 := by
  let y := (s.at t).updBrg fun b => { b with inbox := rest }
  have is : (inboxPop (s.at t) path).2 = latchRegs y path [(SIG_RX_W1, putFld x.src.ring 15 12 ||| putFld x.src.node 11 0),
      (SIG_RX_W2, putFld x.src.ep 4 0), (SIG_RX_W3, x.d0), (SIG_RX_W4, x.d1)] := by
    unfold inboxPop
    dsimp only
    rw [show (s.at t).brg.inbox = x :: rest from first, show quiet (s.at t) path = false from loud]
    rfl
  obtain ⟨u, next, -, taken, words⟩ := completes_pop (c := .sigRxPop path t) (a := SIG_RX_W0)
    (x := fun s => inboxPop s path) rfl free shown (by decide) (by decide) (by decide) rfl is
    (by simp) (by simp; decide)
  simp only [List.forall_mem_cons] at words
  obtain ⟨w1, w2, w3, w4, -⟩ := words
  exact ⟨u, next, taken, w1, w2, w3, w4⟩

theorem completes_ferrPop {x : FarError} {rest : List FarError} (first : s.brg.ferr = x :: rest) (free : s.lockedOut path = false)
    (shown : viewBlank s path = false) (loud : quiet s path = false) : Completes (.ferrPop path t) s fun u =>
      u.brg.ferr = rest ∧ u.regSel BRG_FERR_W1 path.code = putFld x.src.ring 15 12 ||| putFld x.src.node 11 0 ∧
      u.regSel BRG_FERR_W2 path.code = putFld x.tag 15 10 ||| putFld x.src.ep 4 0 ∧ u.regSel BRG_FERR_W3 path.code = wd x.seq := by
  let y := (s.at t).updBrg fun b => { b with ferr := rest }
  have is : (ferrPop (s.at t) path).2 = latchRegs y path [(BRG_FERR_W1, putFld x.src.ring 15 12 ||| putFld x.src.node 11 0),
      (BRG_FERR_W2, putFld x.tag 15 10 ||| putFld x.src.ep 4 0), (BRG_FERR_W3, wd x.seq), (BRG_FERR_W4, hiW x.addr),
      (BRG_FERR_W5, loW x.addr)] := by
    unfold ferrPop
    dsimp only
    rw [show (s.at t).brg.ferr = x :: rest from first, show quiet (s.at t) path = false from loud]
    rfl
  obtain ⟨u, next, taken, -, words⟩ := completes_pop (c := .ferrPop path t) (a := BRG_FERR_W0)
    (x := fun s => ferrPop s path) rfl free shown (by decide) (by decide) (by decide) rfl is
    (by simp) (by simp; decide)
  simp only [List.forall_mem_cons] at words
  obtain ⟨w1, w2, w3, -⟩ := words
  exact ⟨u, next, taken, w1, w2, w3⟩

/-- Settles O27: locks, cells and filter entries that end, sets that close, signals forwarded and the logs of the bridge. -/
theorem bridgeUpkeep : Obligations.BridgeUpkeep := by
  unfold Obligations.BridgeUpkeep
  intro path t s
  refine ⟨fun l => completes_lockReleaseTimeout, fun k => ⟨completes_cellTimeout, completes_semRel k⟩, completes_dupEntryExpire,
    fun ep set x found asked idle service paced fresh numbered up => ?_, fun k => completes_sigForward,
    fun x rest => completes_sigRxPop, fun x rest => completes_ferrPop⟩
  have may : MayClose (s.at t) ep set x := ⟨found, asked, idle, service, paced, fresh, numbered, up⟩
  refine ⟨fun clean early => completes_done rfl ?_, fun clean near => completes_done rfl ?_, fun n st bad => completes_done rfl ?_⟩
  · have closed := may.commits clean early
    exact ⟨closed.sets, closed.answered, closed.own, closed.rings⟩
  · obtain ⟨closed, shown⟩ := may.aborts (may.late clean near)
    exact ⟨⟨closed.sets, closed.answered, closed.own, closed.rings⟩, shown⟩
  · obtain ⟨closed, shown⟩ := may.aborts (may.failed bad)
    exact ⟨⟨closed.sets, closed.answered, closed.own, closed.rings⟩, shown⟩

end Sys2Proof.Machine
end


section
set_option Elab.async false
/-! SUPPORT. A frame that stands for no request of this node, the response of a target, and words written to the publish area (R28, R205,
R207, R257). -/

namespace Sys2Proof.Machine

variable {s u y : State} {q : Request} {r : Response}

/-! A frame without a request of this node leaves the bridge. -/

theorem retireCounted_brg (s : State) (e : QEntry) (why : Retire) (port : Nat) : (retireCounted s e why port).brg = s.brg := by
  cases why
  case ecc => rfl
  all_goals exact raise_brg _ _ _

theorem retire_brg {e : QEntry} (plain : e.origin = none) (why : Retire) (port : Nat) : (retire s e why port).brg = s.brg := by
  rw [retire_eq, plain]
  exact retireCounted_brg s e why port

theorem enqueue_brg (s : State) (p : Fin 20) (e : QEntry) (front : Bool) : (enqueue s p e front).brg = s.brg := by
  rw [switchOnly_enqueue]

theorem submit_brg {e : QEntry} (plain : e.origin = none) (p : Fin 20) : (submit s p e).brg = s.brg := by
  unfold submit
  split
  · exact retire_brg plain _ _
  · split
    · exact retire_brg plain _ _
    · exact enqueue_brg _ _ _ _

theorem pinFlow_brg (s : State) (ep cls : Nat) (dest : Word) : (pinFlow s ep cls dest).2.brg = s.brg := by rw [switchOnly_pinFlow]

theorem sendFrame_brg (s : State) (input ep : Nat) (f : Frame) (joints : Nat) : (sendFrame s input ep f none joints).brg = s.brg := by
  unfold sendFrame
  extract_lets e
  split
  · exact (submit_brg rfl _).trans (submit_brg rfl _)
  · split
    · exact retire_brg rfl _ _
    · split
      · exact submit_brg rfl _
      · exact (submit_brg rfl _).trans (pinFlow_brg _ _ _ _)

/-- What a frame that stands for no request leaves: the bridge, and all but the hub and the switch's registers. -/
structure SentAway (s u : State) : Prop where
  hub : HubOnly s u
  regs : KeepsRegs s u retireRegs
  brg : u.brg = s.brg

theorem SentAway.refl (s : State) : SentAway s s := ⟨.refl s, .of_regs rfl _, rfl⟩

theorem sentAway_submit {e : QEntry} (plain : e.origin = none) (p : Fin 20) : SentAway s (submit s p e) :=
  ⟨hubOnly_submit _ _ _, (retireOnly_submit plain p).keeps, submit_brg plain p⟩

theorem sentAway_routeFrame (s : State) (input ep : Nat) (f : Frame) (joints : Nat) : SentAway s (routeFrame s input ep f none joints) := by
  unfold routeFrame
  split
  · split
    · exact sentAway_submit rfl _
    · split
      · exact ⟨hubOnly_counted _ _ _ _, (retireOnly_counted s (by decide) (by decide) _ _).keeps, raise_brg _ _ _⟩
      · exact .refl s
  · exact ⟨hubOnly_sendFrame _ _ _ _ _ _, (retireOnly_sendFrame _ _ _ _ _).keeps, sendFrame_brg _ _ _ _ _⟩

/-! The response of a target (R205). -/

/-- The class of a response (R205). -/
def responseClass (q : Request) (data : List Word) : Nat := if data.length ≤ 30 then q.cls else 1

/-- The frame of a response. -/
def responseFrame (s : State) (q : Request) (r : Response) : Frame :=
  Frame.mk' (responseClass q r.data) 0 q.src.ep (putFld q.src.ring 15 12 ||| putFld q.src.node 11 0) s.srcWord q.tag
    (rspWord0 r.status r.data :: wd q.seq :: r.data)

theorem sendResponse_foreign (foreign : ownIssuer s q.src = false) (r : Response) :
    sendResponse s q r = routeFrame s 6 q.src.ep (responseFrame s q r) none 0 := by
  have cls : (if 32 < ([rspWord0 r.status r.data, wd q.seq] ++ r.data).length then 1 else q.cls) = responseClass q r.data := by
    rw [List.length_append, show [rspWord0 r.status r.data, wd q.seq].length = 2 from rfl, responseClass]
    by_cases short : r.data.length ≤ 30
    · rw [if_pos short, if_neg (by omega)]
    · rw [if_neg short, if_pos (by omega)]
  unfold sendResponse
  rw [foreign, if_neg (by decide)]
  dsimp only
  rw [cls]
  rfl

theorem sentAway_sendResponse (foreign : ownIssuer s q.src = false) (r : Response) : SentAway s (sendResponse s q r) := by
  rw [sendResponse_foreign foreign]
  exact sentAway_routeFrame _ _ _ _ _

/-- A response to a node of the own ring joins the queue of a ring (R165, R205). -/
theorem responseQueued_settle (sw : y.sw = s.sw) (fab : y.fab = s.fab) (up : RingsUp y) (foreign : ownIssuer s q.src = false)
    (small : q.cls < 4) (here : q.src.ring = s.ringNo) (single : q.src.node < 4000) (ring : s.ringNo < 16) (r : Response) :
    ResponseQueued s (settle (sendResponse y q r)) q r.status r.data := by
  have ringNo : y.ringNo = s.ringNo := by unfold State.ringNo; rw [fab]
  have foreignY : ownIssuer y q.src = false := by unfold ownIssuer at foreign ⊢; rw [ringNo, fab]; exact foreign
  obtain ⟨f, is⟩ : ∃ f, f = responseFrame y q r := ⟨_, rfl⟩
  have dest := fld_dest q.src.ring q.src.node
  rw [Nat.mod_eq_of_lt (here ▸ ring), Nat.mod_eq_of_lt (show q.src.node < 4096 by omega)] at dest
  have dring : f.dring = y.ringNo := by rw [is, ringNo, ← here]; exact dest.1
  have dnode : f.dnode = q.src.node := by rw [is]; exact dest.2
  have cls : f.cls = responseClass q r.data := by
    rw [is]
    refine (cls_mk _ _ _ _ _ _ _).trans (Nat.mod_eq_of_lt ?_)
    unfold responseClass
    split <;> omega
  have fits : ¬ (f.cls = 0 ∧ f.payload.length > 32) := by
    rintro ⟨urgent, long⟩
    have long : r.data.length + 1 + 1 > 32 := by rw [is] at long; exact long
    rw [cls, responseClass, if_neg (by omega)] at urgent
    exact absurd urgent (by decide)
  have away : forSelf y f = false := by
    unfold forSelf
    rw [dring, dnode]
    unfold ownIssuer at foreignY
    rw [here.trans ringNo.symm] at foreignY
    simp at foreignY
    simp [foreignY]
  have sent : sendResponse y q r = sendFrame y 6 q.src.ep f none 0 := by
    rw [sendResponse_foreign foreignY, ← is]
    unfold routeFrame
    rw [away]
    rfl
  have joins := joins_sendFrame (input := 6) (ep := q.src.ep) (o := none) (joints := 0) dring (by rw [dnode]; exact single) fits up
  obtain ⟨side, joined⟩ := joins.joined
  rw [← sent] at joined
  refine ⟨side, ⟨f, 6, y.now, 0, none, 0⟩, ?_, ?_⟩
  · change (settle (sendResponse y q r)).queue (ringPort side) (responseClass q r.data) = s.queue (ringPort side) (responseClass q r.data) ++ _
    rw [queue_congr (settle_sw _), ← queue_congr sw, ← cls]
    exact joined
  · rw [is]
    unfold responseFrame State.srcWord
    rw [ringNo, fab]
    rfl

/-! Words written to the publish area (R207, R257). -/

theorem byte_setWords_apart (l : List Word) (s : State) (a b : Nat) (apart : b < a ∨ a + 2 * l.length ≤ b) :
    (s.setWords a l).byte b = s.byte b := by
  induction l generalizing s a with
  | nil => rfl
  | cons v l ih =>
    rw [List.length_cons] at apart
    rw [State.setWords, ih _ _ (by omega)]
    exact byte_setWord_apart s a b v (by omega)

theorem isHealth_setFillWord (s : State) (w : Nat) (v : Word) (k : Nat) : isHealth (s.setFillWord w v) k = isHealth s k := rfl

theorem foldl_pubWrite (l : List Word) (s : State) (w : Nat) (own : ∀ i < l.length, isHealth s (w + i) = false) :
    (((List.range l.length).map (w + ·)).zip l).foldl (fun s x => pubWrite s x.1 x.2) s = s.setWords (pubBase s.cue.fill + 2 * w) l := by
  induction l generalizing s w with
  | nil => rfl
  | cons v l ih =>
    have first : pubWrite s w v = s.setFillWord w v := if_neg (by rw [show isHealth s w = false from own 0 (Nat.succ_pos _)]; decide)
    have shifted : (List.range l.length).map ((w + ·) ∘ Nat.succ) = (List.range l.length).map (w + 1 + ·) :=
      List.map_congr_left fun i _ => by simp only [Function.comp]; omega
    rw [List.length_cons, List.range_succ_eq_map, List.map_cons, List.map_map, shifted, List.zip_cons_cons, List.foldl_cons]
    dsimp only
    rw [Nat.add_zero, first, ih (s.setFillWord w v) (w + 1) fun i small => ?_]
    · rfl
    · rw [isHealth_setFillWord, show w + 1 + i = w + (i + 1) by omega]
      exact own (i + 1) (by rw [List.length_cons]; omega)

/-- Where no word is refused and none is the health word, all are written, as a unit or one by one. -/
theorem pubWrites_open {l : List Word} {w : Nat} (burst : Bool)
    (open_ : ∀ i < l.length, pubRefuses s (w + i) = false ∧ isHealth s (w + i) = false) :
    pubWrites s burst w l = (stOK, s.setWords (pubBase s.cue.fill + 2 * w) l) := by
  have none_ : ((List.range l.length).map (w + ·)).filter (pubRefuses s) = [] := by
    rw [List.filter_eq_nil_iff]
    intro a mem
    obtain ⟨i, inside, rfl⟩ := List.mem_map.1 mem
    rw [(open_ i (List.mem_range.1 inside)).1]
    decide
  unfold pubWrites
  dsimp only
  rw [none_]
  refine (if_neg (by simp)).trans (Prod.ext rfl ?_)
  exact foldl_pubWrite l s w fun i inside => (open_ i inside).2

end Sys2Proof.Machine
end


section
set_option Elab.async false
/-! SUPPORT. A request taken from the ring and the end of its service (R205, R213, R215-R217, R223-R225). -/

namespace Sys2Proof.Machine

variable {s u x y : State} {op : TxnOp} {q : Request} {t : Nat} {old : List DupEntry} {st : Nat} {data : List Word}

/-! A request enters the filter and its buffer (R215, R216). -/

/-- The filter's entry of a request, before and after it has been served. -/
def dupEntry (op : TxnOp) (q : Request) (response : Option Response) (served : Bool) : DupEntry :=
  ⟨q.src, q.tag, q.seq, response, served, false, op⟩

/-- The request has entered the filter, and the buffer holds these requests. -/
def takenIn (x : State) (op : TxnOp) (q : Request) (buffer : List Waiting) : State :=
  x.updBrg fun b => { b with dups := b.dups ++ [dupEntry op q none false], waiting := buffer }

theorem receiveRequest_takes {reply : State → Request → Response → State} (alone : x.brg.waiting = [])
    (fresh : dupFind x q.src q.tag q.seq = none) (room : x.brg.dups.length < 512) :
    receiveRequest reply x ⟨op, q⟩ = takenIn x op q [⟨op, q⟩] := by
  unfold receiveRequest dupAdd
  dsimp only
  rw [fresh, if_pos room]
  unfold takenIn State.updBrg
  dsimp only
  rw [alone]
  rfl

theorem each_id {α : Type} {f : State → α → State} (h : ∀ a, f x a = x) (l : List α) : x.each l f = x := by
  unfold State.each
  induction l with
  | nil => rfl
  | cons a l ih => rw [List.foldl_cons, h, ih]

/-- No lock and no cell meets its limit: none is released (R224, R225). -/
theorem limitsFirst_timely (lock : x.brg.lock.any (fun l => decide (l.since + 50 * usT ≤ x.now)) = false)
    (cells : ∀ k, (vget x.brg.cells k).owner = none ∨ x.now < (vget x.brg.cells k).at_ + 200 * usT) : limitsFirst x = x := by
  unfold limitsFirst
  dsimp only
  rw [lock, if_neg (by decide)]
  refine each_id (fun k => if_neg ?_) _
  rintro ⟨held, met⟩
  rcases cells k with free | early
  · rw [free] at held; cases held
  · omega

/-- Nothing but the lock and a full inbox can hold back the request. -/
theorem mustKeepOrder_alone (alone : y.brg.waiting = [⟨op, q⟩])
    (noField : (y.brg.fieldWaits.any fun x => match x.who with | .bridge w => decide (w.req.src = q.src) | _ => false) = false) :
    mustKeepOrder y ⟨op, q⟩ = false := by
  unfold mustKeepOrder
  dsimp only
  rw [alone, Bool.or_eq_false_iff]
  refine ⟨by simp, ?_⟩
  rw [List.any_eq_false] at noField ⊢
  intro w mem
  have other := noField w mem
  cases who : w.who with
  | bridge z =>
    rw [who] at other
    simp only [decide_eq_true_eq] at other
    simp [other]
  | _ => simp

/-- A request that the target takes is in its filter and its buffer; it stays there while it is held back, and else is performed. -/
theorem serveRow_takes (h : TakesRequest s op q t)
    (lock : s.brg.lock.any (fun l => decide (l.since + 50 * usT ≤ (s.at t).now)) = false) :
    serveRow op q t s = done (if lockHolds (s.at t) op || inboxFull (s.at t) op then takenIn (s.at t) op q [⟨op, q⟩]
      else perform (takenIn (s.at t) op q []) ⟨op, q⟩) := by
  have alone : (s.at t).brg.waiting = [] := h.alone
  have timely : limitsFirst (s.at t) = s.at t := limitsFirst_timely lock h.timely
  have received : receiveRequest sendResponse (s.at t) ⟨op, q⟩ = takenIn (s.at t) op q [⟨op, q⟩] :=
    receiveRequest_takes alone h.fresh h.room
  have order : mustKeepOrder (takenIn (s.at t) op q [⟨op, q⟩]) ⟨op, q⟩ = false := mustKeepOrder_alone rfl h.noField
  have there : (takenIn (s.at t) op q [⟨op, q⟩]).brg.waiting.contains ⟨op, q⟩ = true := by simp [takenIn]
  have notThere : (s.at t).brg.waiting.contains ⟨op, q⟩ = false := by rw [alone]; rfl
  have served : serve (s.at t) ⟨op, q⟩ = if lockHolds (s.at t) op || inboxFull (s.at t) op then takenIn (s.at t) op q [⟨op, q⟩]
      else perform (takenIn (s.at t) op q []) ⟨op, q⟩ := by
    unfold serve
    dsimp only
    have taken : ((takenIn (s.at t) op q [⟨op, q⟩]).updBrg fun b => { b with waiting := b.waiting.erase ⟨op, q⟩ }) = takenIn (s.at t) op q [] := by
      unfold takenIn State.updBrg
      simp
    have entered : (if (s.at t).brg.waiting.contains ⟨op, q⟩ then s.at t else receiveRequest sendResponse (s.at t) ⟨op, q⟩) =
        takenIn (s.at t) op q [⟨op, q⟩] := (if_neg (by rw [notThere]; decide)).trans received
    rw [timely, entered, there, order, taken]
    rfl
  unfold serveRow
  dsimp only
  rw [if_neg (by rw [show ownIssuer (s.at t) q.src = false from h.foreign]; decide), delivered_of_bright (s := s.at t) h.ring, served]

/-! What a request must meet to be performed (R206-R208, R225, R234). -/

structure Allowed (y : State) (op : TxnOp) (q : Request) : Prop where
  serves : y.bit BRG_CTRL 15 = true
  known : opBad op q.cg = false
  size : sizeBad op q.burst q.cg q.len q.addr = false
  guarded : q.cg = true → (cellOf y q).owner = some q.src

theorem TakesRequest.allowed_ (h : TakesRequest s op q t) (buffer : List Waiting) : Allowed (takenIn (s.at t) op q buffer) op q :=
  ⟨h.serves, h.allowed.1, h.allowed.2, h.guarded⟩

theorem Allowed.passes (a : Allowed y op q) {x1 x2 x3 x4 e : State} :
    (if (!ownIssuer y q.src && !y.bit BRG_CTRL 15) = true then x1 else if opBad op q.cg = true then x2
      else if sizeBad op q.burst q.cg q.len q.addr = true then x3
      else if (q.cg && decide ((cellOf y q).owner ≠ some q.src)) = true then x4 else e) = e := by
  rw [a.serves, if_neg (by simp), a.known, if_neg (by decide), a.size, if_neg (by decide), if_neg]
  rw [Bool.and_eq_true, decide_eq_true_eq]
  exact fun h => h.2 (a.guarded h.1)

/-! The end of a service (R205, R213, R215). -/

/-- The filter holds the request's entry last, and no other of its key. -/
structure Fresh (y : State) (op : TxnOp) (q : Request) (old : List DupEntry) : Prop where
  dups : y.brg.dups = old ++ [dupEntry op q none false]
  apart : old.find? (isKey q.src q.tag q.seq) = none

theorem TakesRequest.freshIn (h : TakesRequest s op q t) (buffer : List Waiting) : Fresh (takenIn (s.at t) op q buffer) op q s.brg.dups :=
  ⟨rfl, h.fresh⟩

theorem isKey_dupEntry (op : TxnOp) (q : Request) (r : Option Response) (b : Bool) : isKey q.src q.tag q.seq (dupEntry op q r b) = true := by
  simp [isKey, dupEntry]

theorem Fresh.find (f : Fresh y op q old) : dupFind y q.src q.tag q.seq = some (dupEntry op q none false) := by
  unfold dupFind
  rw [f.dups, List.find?_append, f.apart, List.find?_cons_of_pos (isKey_dupEntry op q none false)]
  rfl

theorem Fresh.update (f : Fresh y op q old) (g : DupEntry → DupEntry) :
    y.brg.dups.map (fun d => if isKey q.src q.tag q.seq d then g d else d) = old ++ [g (dupEntry op q none false)] := by
  rw [f.dups, List.map_append, List.map_cons, List.map_nil, if_pos (isKey_dupEntry op q none false)]
  have others : old.map (fun d => if isKey q.src q.tag q.seq d then g d else d) = old :=
    (List.map_congr_left (g := id) fun d mem => if_neg (List.find?_eq_none.1 f.apart d mem)).trans (List.map_id _)
  rw [others]

/-- The request has been served: the filter's entry tells, and keeps the response where one is due. -/
def servedIn (y : State) (op : TxnOp) (q : Request) (old : List DupEntry) (r : Response) : State :=
  y.updBrg fun b => { b with dups := old ++ [dupEntry op q (if op.posted then none else some r) true] }

/-- An error is logged (R213). -/
def logged (y : State) (op : TxnOp) (q : Request) (st : Nat) : State :=
  if st = stOK then y else farLog y ⟨false, op, st, q.src, q.tag, q.seq, q.addr⟩

/-- The response that a service ends with. -/
def responseOf (st : Nat) (data : List Word) : Response := ⟨st, if st = stOK then data else []⟩

theorem logged_keeps (y : State) (op : TxnOp) (q : Request) (st : Nat) :
    (logged y op q st).brg = { y.brg with ferr := (logged y op q st).brg.ferr } ∧ (logged y op q st).mem = y.mem ∧
    (logged y op q st).fab = y.fab ∧ (logged y op q st).cue = y.cue := by
  unfold logged farLog
  split
  · exact ⟨rfl, rfl, rfl, rfl⟩
  · split
    · rw [raise_brg, raise_mem, raise_fab, raise_cue]; exact ⟨rfl, rfl, rfl, rfl⟩
    · rw [raise_brg, raise_mem, raise_fab, raise_cue]; exact ⟨rfl, rfl, rfl, rfl⟩

theorem targetDone_eq (f : Fresh y op q old) (st : Nat) (data : List Word) : targetDone y ⟨op, q⟩ st data =
    if op.posted then servedIn (logged y op q st) op q old (responseOf st data)
    else sendResponse (servedIn (logged y op q st) op q old (responseOf st data)) q (responseOf st data) := by
  have freshL : Fresh (logged y op q st) op q old := ⟨by rw [(logged_keeps y op q st).1]; exact f.dups, f.apart⟩
  have updated : dupUpdate (logged y op q st) q.src q.tag q.seq (fun d =>
      { d with done := true, response := if op.posted || d.cancelled then none else some (responseOf st data) }) =
      servedIn (logged y op q st) op q old (responseOf st data) := by
    unfold dupUpdate servedIn State.updBrg
    dsimp only
    rw [freshL.update]
    simp only [dupEntry, Bool.or_false]
  unfold targetDone
  dsimp only
  rw [f.find]
  change (if (op.posted || false) = true then dupUpdate (logged y op q st) q.src q.tag q.seq _ else
    sendResponse (dupUpdate (logged y op q st) q.src q.tag q.seq _) q _) = _
  rw [Bool.or_false]
  change (if op.posted = true then dupUpdate (logged y op q st) q.src q.tag q.seq (fun d =>
      { d with done := true, response := if op.posted || d.cancelled then none else some (responseOf st data) }) else
    sendResponse (dupUpdate (logged y op q st) q.src q.tag q.seq (fun d =>
      { d with done := true, response := if op.posted || d.cancelled then none else some (responseOf st data) })) q (responseOf st data)) = _
  rw [updated]

/-- What the end of a service leaves of bridge and memory. -/
structure Ended (y u : State) (op : TxnOp) (q : Request) (old : List DupEntry) (r : Response) : Prop where
  brg : u.brg = { y.brg with dups := old ++ [dupEntry op q (if op.posted then none else some r) true], ferr := u.brg.ferr }
  mem : u.mem = y.mem
  cue : u.cue = y.cue

theorem targetDone_ended (f : Fresh y op q old) (foreign : ownIssuer y q.src = false) (st : Nat) (data : List Word) :
    Ended y (targetDone y ⟨op, q⟩ st data) op q old (responseOf st data) := by
  obtain ⟨brg, mem, fab, cue⟩ := logged_keeps y op q st
  obtain ⟨z, is⟩ : ∃ z, z = servedIn (logged y op q st) op q old (responseOf st data) := ⟨_, rfl⟩
  have brgZ : z.brg = { (logged y op q st).brg with dups := old ++ [dupEntry op q (if op.posted then none else some (responseOf st data)) true] } := by
    rw [is]; rfl
  have served : Ended y z op q old (responseOf st data) := by
    refine ⟨?_, ?_, ?_⟩
    · rw [brgZ, brg]
    · rw [is]; exact mem
    · rw [is]; exact cue
  have foreignZ : ownIssuer z q.src = false := by
    unfold ownIssuer State.ringNo at foreign ⊢
    rw [show z.fab = y.fab by rw [is]; exact fab]
    exact foreign
  rw [targetDone_eq f, ← is]
  split
  · exact served
  · have away := sentAway_sendResponse foreignZ (responseOf st data)
    refine ⟨?_, ?_, ?_⟩
    · rw [away.brg]; exact served.brg
    · rw [away.hub]; exact served.mem
    · rw [away.hub]; exact served.cue

/-- The request has been answered: the filter tells, and the rest of the bridge, memory and publish bank stand. -/
structure Answered (s y u : State) (op : TxnOp) (q : Request) (st : Nat) (data : List Word) : Prop where
  served : Served s u op q st data
  lock : u.brg.lock = y.brg.lock
  cells : u.brg.cells = y.brg.cells
  staged : u.brg.staged = y.brg.staged
  inbox : u.brg.inbox = y.brg.inbox
  blocked : u.brg.blocked = y.brg.blocked
  mem : u.mem = y.mem
  cue : u.cue = y.cue

theorem answered_targetDone (f : Fresh y op q s.brg.dups) (foreign : ownIssuer y q.src = false) (st : Nat) (data : List Word) :
    Answered s y (targetDone y ⟨op, q⟩ st data) op q st (if st = stOK then data else []) := by
  have e := targetDone_ended f foreign st data
  refine ⟨?_, ?_, ?_, ?_, ?_, ?_, e.mem, e.cue⟩
  · rw [Served, e.brg]; rfl
  all_goals rw [e.brg]

theorem Answered.settle (a : Answered s y u op q st data) : Answered s y (settle u) op q st data where
  served := (settle_brg_dups u).trans a.served
  lock := (settle_brg_lock u).trans a.lock
  cells := (settle_brg_cells u).trans a.cells
  staged := (settle_brg_staged u).trans a.staged
  inbox := (settle_brg_inbox u).trans a.inbox
  blocked := (settle_brg_blocked u).trans a.blocked
  mem := (settle_mem u).trans a.mem
  cue := (settle_cue u).trans a.cue

end Sys2Proof.Machine
end


section
set_option Elab.async false
/-! SUPPORT. Requests performed at their target: accesses to the publish area, semaphore cells and staged writes (R205, R207, R223, R225,
R229-R231). -/

namespace Sys2Proof.Machine

variable {s u y : State} {op : TxnOp} {q : Request} {t : Nat} {old : List DupEntry} {st : Nat} {data : List Word}

/-- An answer without data. -/
theorem answered_empty (f : Fresh y op q s.brg.dups) (foreign : ownIssuer y q.src = false) (st : Nat) :
    Answered s y (targetDone y ⟨op, q⟩ st []) op q st [] := by
  have a := answered_targetDone f foreign st []
  rwa [ite_self] at a

/-! A request goes to its service. -/

theorem TakesRequest.performs (h : TakesRequest s op q t) (notLwr : op ≠ .lwr) (room : inboxFull (s.at t) op = false) :
    serveRow op q t s = done (perform (takenIn (s.at t) op q []) ⟨op, q⟩) := by
  have unlocked : s.brg.lock = none := h.unlocked.resolve_left notLwr
  have free : lockHolds (s.at t) op = false := by
    unfold lockHolds
    rw [show (s.at t).brg.lock = none from unlocked]
    rfl
  rw [serveRow_takes h (by rw [unlocked]; rfl), free, room]
  rfl

theorem inboxFull_other (notSig : op ≠ .sig) (x : State) : inboxFull x op = false := by
  unfold inboxFull
  rw [decide_eq_false notSig]
  rfl

/-! Accesses to the publish area (R28, R207). -/

/-- The first publish word of a request, and the words it reads. -/
def pubWordOf (q : Request) : Nat := (q.addr - 0x400000) / 2
def readOf (s : State) (q : Request) : List Word := (List.range (q.len + 1)).map fun i => s.fillWord (pubWordOf q + i)

theorem length_reqData (q : Request) : (reqData q).length = q.len + 1 := by simp [reqData]

theorem wAt_reqData {i : Nat} (inside : i ≤ q.len) : wAt (reqData q) i = wAt q.data i := by
  unfold reqData
  simp [wAt, show i < q.len + 1 by omega]

/-- The state in which the words of a request stand in the publish area. -/
def written (y : State) (q : Request) : State := y.setWords (pubBase y.cue.fill + 2 * pubWordOf q) (reqData q)

theorem written_eq (y : State) (q : Request) : written y q = { y with mem := (written y q).mem } := setWords_eq _ _ _

theorem bridgeAccess_read (inPublish : localPlace q.addr = .publish) (foreign : ownIssuer y q.src = false) :
    bridgeAccess y ⟨op, q⟩ none = finish y (.bridge ⟨op, q⟩) stOK (readOf y q) := by
  have reads : access y ⟨.bridge, .bridge ⟨op, q⟩, q.addr, q.len + 1, q.burst, none⟩ = (some (stOK, readOf y q), y) := by
    unfold access fieldServed hubAccess
    rw [inPublish]
    rfl
  unfold bridgeAccess
  dsimp only
  rw [foreign, Bool.false_and, if_neg (by decide), reads]

theorem bridgeAccess_write (inPublish : localPlace q.addr = .publish) (foreign : ownIssuer y q.src = false)
    (allows : ∀ i ≤ q.len, pubRefuses y (pubWordOf q + i) = false ∧ isHealth y (pubWordOf q + i) = false) :
    bridgeAccess y ⟨op, q⟩ (some (reqData q)) = finish (written y q) (.bridge ⟨op, q⟩) stOK [] := by
  have open_ : pubWrites y q.burst ((q.addr - 0x400000) / 2) (reqData q) = (stOK, written y q) :=
    pubWrites_open q.burst fun i inside => allows i (by rw [length_reqData] at inside; omega)
  have writes : access y ⟨.bridge, .bridge ⟨op, q⟩, q.addr, q.len + 1, q.burst, some (reqData q)⟩ = (some (stOK, []), written y q) := by
    unfold access fieldServed hubAccess
    rw [inPublish]
    dsimp only
    rw [open_]
    rfl
  unfold bridgeAccess
  dsimp only
  rw [foreign, Bool.false_and, if_neg (by decide), writes]

/-- An access that takes no lock with it just ends (R223). -/
theorem finish_keeps (f : Fresh y op q old) (foreign : ownIssuer y q.src = false)
    (h : y.brg.lock = none ∨ (op ≠ .lwr ∧ (op ≠ .lrd ∨ st = stOK))) :
    finish y (.bridge ⟨op, q⟩) st data = targetDone y ⟨op, q⟩ st data := by
  have lock : (targetDone y ⟨op, q⟩ st data).brg.lock = y.brg.lock := by rw [(targetDone_ended f foreign st data).brg]
  unfold finish
  dsimp only
  rw [lock]
  rcases h with free | ⟨notLwr, keeps⟩
  · rw [free]
    rfl
  · refine if_neg ?_
    rw [decide_eq_false notLwr, Bool.false_or, Bool.and_eq_true, Bool.and_eq_true, decide_eq_true_eq, decide_eq_true_eq]
    rintro ⟨-, isLrd, failed⟩
    exact keeps.elim (fun no => no isLrd) failed

/-- The words of a request stand in the publish area, and no other byte has changed. -/
theorem written_stored (mem : u.mem = (written y q).mem) (cue : u.cue = y.cue) (before : y.mem = s.mem) (fill : y.cue = s.cue) :
    (∀ i ≤ q.len, u.fillWord (pubWordOf q + i) = wAt q.data i) ∧
    ∀ a, (a < pubBase s.cue.fill + 2 * pubWordOf q ∨ pubBase s.cue.fill + 2 * (pubWordOf q + q.len + 1) ≤ a) → u.byte a = s.byte a := by
  refine ⟨fun i inside => ?_, fun a outside => ?_⟩
  · rw [State.fillWord, word_congr mem, cue, show pubBase y.cue.fill + 2 * (pubWordOf q + i) = pubBase y.cue.fill + 2 * pubWordOf q + 2 * i by omega]
    exact (word_setWords _ _ _ _ (by rw [length_reqData]; omega)).trans (wAt_reqData inside)
  · rw [byte_congr mem, ← byte_congr before]
    exact byte_setWords_apart _ _ _ _ (by rw [length_reqData, fill]; omega)

section
variable (h : TakesRequest s op q t)
include h

theorem TakesRequest.foreignIn (buffer : List Waiting) : ownIssuer (takenIn (s.at t) op q buffer) q.src = false := h.foreign

/-- The response of a request of the own ring leaves on a ring. -/
theorem TakesRequest.responds (notPosted : op.posted = false) (data : List Word) (y : State) (f : Fresh y op q s.brg.dups)
    (sw : y.sw = s.sw) (fab : y.fab = s.fab) (up : RingsUp y)
    (small : q.cls < 4) (here : q.src.ring = s.ringNo) (single : q.src.node < 4000) (ring : s.ringNo < 16) :
    ResponseQueued s (settle (targetDone y ⟨op, q⟩ stOK data)) q stOK data := by
  rw [targetDone_eq f, notPosted, if_neg (by decide)]
  exact responseQueued_settle (y := servedIn (logged y op q stOK) op q s.brg.dups (responseOf stOK data)) sw fab up h.foreign small here single
    ring (responseOf stOK data)

end

/-- RD (R205). -/
theorem completes_rd (h : TakesRequest s .rd q t) (inPublish : localPlace q.addr = .publish) : Completes (.rd q t) s fun u =>
    Served s u .rd q stOK (readOf s q) ∧ SameMemory s u ∧ u.brg.lock = none ∧
    (s.fab.node ≠ 0 → RingsUp s → q.cls < 4 → q.src.ring = s.ringNo → q.src.node < 4000 → s.ringNo < 16 →
      ResponseQueued s u q stOK (readOf s q)) := by
  let y := takenIn (s.at t) .rd q []
  have f : Fresh y .rd q s.brg.dups := h.freshIn []
  have free : y.brg.lock = none := h.unlocked.resolve_left (by decide)
  have performed : perform y ⟨.rd, q⟩ = targetDone y ⟨.rd, q⟩ stOK (readOf s q) := calc
    perform y ⟨.rd, q⟩ = bridgeAccess y ⟨.rd, q⟩ none := (h.allowed_ []).passes
    _ = finish y (.bridge ⟨.rd, q⟩) stOK (readOf y q) := bridgeAccess_read inPublish h.foreign
    _ = targetDone y ⟨.rd, q⟩ stOK (readOf y q) := finish_keeps f h.foreign (.inl free)
  have row : exec (.rd q t) s = done (targetDone y ⟨.rd, q⟩ stOK (readOf s q)) :=
    (h.performs (by decide) (inboxFull_other (by decide) _)).trans (congrArg done performed)
  have a := (answered_targetDone f h.foreign stOK (readOf s q)).settle
  refine completes_done row ⟨a.served, byte_congr a.mem, a.lock.trans free, fun _ up small here single ring => ?_⟩
  exact h.responds rfl _ y f rfl rfl up small here single ring

/-- WR, PWR and GWR (R205, R207, R226). -/
theorem completes_write {c : Instr} (h : TakesRequest s op q t) (inPublish : localPlace q.addr = .publish)
    (allows : ∀ i ≤ q.len, pubRefuses s (pubWordOf q + i) = false ∧ isHealth s (pubWordOf q + i) = false)
    (writes : ∀ y, Allowed y op q → perform y ⟨op, q⟩ = bridgeAccess y ⟨op, q⟩ (some (reqData q)))
    (notLwr : op ≠ .lwr) (notSig : op ≠ .sig) (is : exec c s = serveRow op q t s) : Completes c s fun u =>
      Served s u op q stOK [] ∧ ((∀ i ≤ q.len, u.fillWord (pubWordOf q + i) = wAt q.data i) ∧
        ∀ a, (a < pubBase s.cue.fill + 2 * pubWordOf q ∨ pubBase s.cue.fill + 2 * (pubWordOf q + q.len + 1) ≤ a) → u.byte a = s.byte a) ∧
      (op.posted = true → u.sw = s.sw) := by
  let y := takenIn (s.at t) op q []
  let z := written y q
  have same := written_eq y q
  have f : Fresh z op q s.brg.dups := ⟨by rw [show z = written y q from rfl, same]; rfl, h.fresh⟩
  have free : z.brg.lock = none := by rw [show z = written y q from rfl, same]; exact h.unlocked.resolve_left notLwr
  have foreign : ownIssuer z q.src = false := by rw [show z = written y q from rfl, same]; exact h.foreign
  have performed : perform y ⟨op, q⟩ = targetDone z ⟨op, q⟩ stOK [] := calc
    perform y ⟨op, q⟩ = bridgeAccess y ⟨op, q⟩ (some (reqData q)) := writes y (h.allowed_ [])
    _ = finish z (.bridge ⟨op, q⟩) stOK [] := bridgeAccess_write inPublish h.foreign allows
    _ = targetDone z ⟨op, q⟩ stOK [] := finish_keeps f foreign (.inl free)
  have row : exec c s = done (targetDone z ⟨op, q⟩ stOK []) :=
    is.trans ((h.performs notLwr (inboxFull_other notSig _)).trans (congrArg done performed))
  have a := (answered_targetDone f foreign stOK []).settle
  refine completes_done row ⟨a.served, written_stored a.mem (a.cue.trans ?_) rfl rfl, fun posted => ?_⟩
  · rw [show z = written y q from rfl, same]
  · rw [settle_sw, targetDone_eq f, posted, if_pos rfl]
    exact (congrArg State.sw same :)

/-- LRD with the far lock on (R223). -/
theorem completes_lrd (h : TakesRequest s .lrd q t) (inPublish : localPlace q.addr = .publish) (on : lockMode s = false) :
    Completes (.lrd q t) s fun u => Served s u .lrd q stOK (readOf s q) ∧
      u.brg.lock = some ⟨q.src, q.addr, q.len, max s.now t⟩ ∧ SameMemory s u := by
  let y := takenIn (s.at t) .lrd q []
  let z := y.updBrg fun b => { b with lock := some ⟨q.src, q.addr, q.len, y.now⟩ }
  have f : Fresh z .lrd q s.brg.dups := ⟨rfl, h.fresh⟩
  have performed : perform y ⟨.lrd, q⟩ = targetDone z ⟨.lrd, q⟩ stOK (readOf s q) := calc
    perform y ⟨.lrd, q⟩ = if lockMode y then targetDone y ⟨.lrd, q⟩ stLOCK_MODE [] else bridgeAccess z ⟨.lrd, q⟩ none := (h.allowed_ []).passes
    _ = bridgeAccess z ⟨.lrd, q⟩ none := if_neg (by rw [show lockMode y = false from on]; decide)
    _ = finish z (.bridge ⟨.lrd, q⟩) stOK (readOf z q) := bridgeAccess_read inPublish h.foreign
    _ = targetDone z ⟨.lrd, q⟩ stOK (readOf z q) := finish_keeps f h.foreign (.inr ⟨by decide, .inr rfl⟩)
  have row : exec (.lrd q t) s = done (targetDone z ⟨.lrd, q⟩ stOK (readOf s q)) :=
    (h.performs (by decide) (inboxFull_other (by decide) _)).trans (congrArg done performed)
  have a := (answered_targetDone f h.foreign stOK (readOf s q)).settle
  exact completes_done row ⟨a.served, a.lock, byte_congr a.mem⟩

/-- LRD with the far lock off (R223). -/
theorem completes_lrd_off (h : TakesRequest s .lrd q t) (off : lockMode s = true) : Completes (.lrd q t) s fun u =>
    Served s u .lrd q stLOCK_MODE [] ∧ u.brg.lock = none ∧ SameMemory s u := by
  let y := takenIn (s.at t) .lrd q []
  have performed : perform y ⟨.lrd, q⟩ = targetDone y ⟨.lrd, q⟩ stLOCK_MODE [] := calc
    perform y ⟨.lrd, q⟩ = if lockMode y then targetDone y ⟨.lrd, q⟩ stLOCK_MODE [] else
        bridgeAccess (y.updBrg fun b => { b with lock := some ⟨q.src, q.addr, q.len, y.now⟩ }) ⟨.lrd, q⟩ none := (h.allowed_ []).passes
    _ = targetDone y ⟨.lrd, q⟩ stLOCK_MODE [] := if_pos off
  have row : exec (.lrd q t) s = done (targetDone y ⟨.lrd, q⟩ stLOCK_MODE []) :=
    (h.performs (by decide) (inboxFull_other (by decide) _)).trans (congrArg done performed)
  have f : Fresh y .lrd q s.brg.dups := h.freshIn []
  have a := (answered_empty f h.foreign stLOCK_MODE).settle
  have free : y.brg.lock = none := h.unlocked.resolve_left (by decide)
  exact completes_done row ⟨a.served, a.lock.trans free, byte_congr a.mem⟩

/-- A lock whose limit has not come is not released (R224). -/
theorem timely_lock {x : State} {l : FarLock} (locked : x.brg.lock = some l) (early : x.now < l.since + 50 * usT) :
    x.brg.lock.any (fun l => decide (l.since + 50 * usT ≤ x.now)) = false := by
  rw [locked, Option.any_some, decide_eq_false (Nat.not_le.2 early)]

/-- LWR by the holder of the lock (R223, R224). -/
theorem completes_lwr {since : Nat} (h : TakesRequest s .lwr q t) (inPublish : localPlace q.addr = .publish) (on : lockMode s = false)
    (allows : ∀ i ≤ q.len, pubRefuses s (pubWordOf q + i) = false ∧ isHealth s (pubWordOf q + i) = false)
    (locked : s.brg.lock = some ⟨q.src, q.addr, q.len, since⟩) (early : max s.now t < since + 50 * usT) (idle : s.brg.blocked = []) :
    Completes (.lwr q t) s fun u => Served s u .lwr q stOK [] ∧ ((∀ i ≤ q.len, u.fillWord (pubWordOf q + i) = wAt q.data i) ∧
        ∀ a, (a < pubBase s.cue.fill + 2 * pubWordOf q ∨ pubBase s.cue.fill + 2 * (pubWordOf q + q.len + 1) ≤ a) → u.byte a = s.byte a) ∧
      u.brg.lock = none := by
  let y := takenIn (s.at t) .lwr q []
  let z := written y q
  have same := written_eq y q
  have lockY : y.brg.lock = some ⟨q.src, q.addr, q.len, since⟩ := locked
  have f : Fresh z .lwr q s.brg.dups := ⟨by rw [show z = written y q from rfl, same]; rfl, h.fresh⟩
  have foreign : ownIssuer z q.src = false := by rw [show z = written y q from rfl, same]; exact h.foreign
  have a := answered_targetDone f foreign stOK []
  obtain ⟨v, isV⟩ : ∃ v, v = targetDone z ⟨.lwr, q⟩ stOK [] := ⟨_, rfl⟩
  rw [← isV] at a
  have lockV : v.brg.lock = some ⟨q.src, q.addr, q.len, since⟩ := by
    rw [a.lock, show z = written y q from rfl, same]; exact lockY
  have blockedV : v.brg.blocked = [] := by rw [a.blocked, show z = written y q from rfl, same]; exact idle
  let w := v.updBrg fun b => { b with lock := none, blocked := [] }
  have unlocked : unlockTarget v = w := by
    unfold unlockTarget
    rw [blockedV]
    rfl
  have ended : finish z (.bridge ⟨.lwr, q⟩) stOK [] = w := by
    unfold finish
    dsimp only
    rw [← isV, lockV, ← unlocked]
    exact if_pos (by simp)
  have performed : perform y ⟨.lwr, q⟩ = w := calc
    perform y ⟨.lwr, q⟩ = bridgeAccess y ⟨.lwr, q⟩ (some (reqData q)) := by
      refine (h.allowed_ []).passes.trans ((if_neg ?_).trans ((if_neg ?_).trans (if_neg ?_)))
      · rw [show lockMode y = false from on]; decide
      · dsimp only; rw [lockY]; simp
      · rw [lockY]; simp
    _ = finish z (.bridge ⟨.lwr, q⟩) stOK [] := bridgeAccess_write inPublish h.foreign allows
    _ = w := ended
  have row : exec (.lwr q t) s = done w := by
    have timely := timely_lock (x := s.at t) locked early
    have free : lockHolds (s.at t) .lwr = false := Bool.and_false _
    refine (serveRow_takes h timely).trans ?_
    rw [free, inboxFull_other (by decide), Bool.or_false, if_neg (by decide)]
    exact congrArg done performed
  refine completes_done row ⟨(settle_brg_dups w).trans a.served, written_stored (settle_mem w |>.trans a.mem) ?_ rfl rfl, settle_brg_lock w⟩
  refine (settle_cue w).trans (a.cue.trans ?_)
  rw [show z = written y q from rfl, same]

end Sys2Proof.Machine
end


section
set_option Elab.async false
/-! SUPPORT. Semaphore cells, staged writes, signals, cancellations and repeats at their target (R212, R215, R220, R225, R229-R231), and the
obligation about requests served. -/

namespace Sys2Proof.Machine

variable {s u y : State} {op : TxnOp} {q : Request} {t : Nat} {st : Nat} {data : List Word} {k : Fin 16}

/-! Semaphore cells (R225). -/

theorem cellOf_eq (named : k.val = q.cell) (x : State) : cellOf x q = vget x.brg.cells k := by
  unfold cellOf
  rw [← named, place?_val]

/-- A request that is answered as it is, whatever the answer. -/
theorem completes_answered {c : Instr} (h : TakesRequest s op q t) (notLwr : op ≠ .lwr) (notSig : op ≠ .sig)
    (is : exec c s = serveRow op q t s)
    (answers : perform (takenIn (s.at t) op q []) ⟨op, q⟩ = targetDone (takenIn (s.at t) op q []) ⟨op, q⟩ st data) :
    Completes c s fun u => Answered s (takenIn (s.at t) op q []) u op q st (if st = stOK then data else []) := by
  let y := takenIn (s.at t) op q []
  have f : Fresh y op q s.brg.dups := h.freshIn []
  have row : exec c s = done (targetDone y ⟨op, q⟩ st data) :=
    is.trans ((h.performs notLwr (inboxFull_other notSig _)).trans (congrArg done answers))
  exact completes_done row (answered_targetDone f h.foreign st data).settle

/-- A request that changes a cell and is answered. -/
theorem completes_cellSet {c : Instr} {cell : SemCell} (h : TakesRequest s op q t) (notLwr : op ≠ .lwr) (notSig : op ≠ .sig)
    (named : k.val = q.cell) (is : exec c s = serveRow op q t s)
    (answers : perform (takenIn (s.at t) op q []) ⟨op, q⟩ = targetDone (setCell (takenIn (s.at t) op q []) q.cell cell) ⟨op, q⟩ stOK data) :
    Completes c s fun u => Served s u op q stOK data ∧ vget u.brg.cells k = cell ∧ ∀ j, j ≠ k → vget u.brg.cells j = vget s.brg.cells j := by
  let z := (takenIn (s.at t) op q []).updBrg fun b => { b with cells := vset b.cells k cell }
  have set_ : setCell (takenIn (s.at t) op q []) q.cell cell = z := by rw [← named, setCell_eq]
  have f : Fresh z op q s.brg.dups := ⟨rfl, h.fresh⟩
  have row : exec c s = done (targetDone z ⟨op, q⟩ stOK data) :=
    is.trans ((h.performs notLwr (inboxFull_other notSig _)).trans (congrArg done (answers.trans (by rw [set_]))))
  have a := (answered_targetDone f h.foreign stOK data).settle
  have cells : z.brg.cells = vset s.brg.cells k cell := rfl
  refine completes_done row ⟨a.served, ?_, fun j other => ?_⟩
  · rw [a.cells, cells, vget_vset, if_pos rfl]
  · rw [a.cells, cells, vget_vset, if_neg other]

section
variable (named : k.val = q.cell)
include named

theorem completes_semacq (h : TakesRequest s .semacq q t) :
    ((vget s.brg.cells k).owner = none → Completes (.semacq q t) s fun u =>
      Served s u .semacq q stOK [0] ∧ vget u.brg.cells k = ⟨some q.src, max s.now t⟩ ∧ ∀ j, j ≠ k → vget u.brg.cells j = vget s.brg.cells j) ∧
    ((vget s.brg.cells k).owner = some q.src → Completes (.semacq q t) s fun u => Served s u .semacq q stOK [1] ∧ u.brg.cells = s.brg.cells) ∧
    (∀ o, (vget s.brg.cells k).owner = some o → o ≠ q.src → Completes (.semacq q t) s fun u =>
      Served s u .semacq q stSEM_BUSY [] ∧ u.brg.cells = s.brg.cells) := by
  let y := takenIn (s.at t) .semacq q []
  have owner : (cellOf y q).owner = (vget s.brg.cells k).owner := by rw [cellOf_eq named]; rfl
  have goes : perform y ⟨.semacq, q⟩ = semAcquire y ⟨.semacq, q⟩ := (h.allowed_ []).passes
  refine ⟨fun free => ?_, fun own => ?_, fun o held other => ?_⟩
  · refine completes_cellSet (cell := ⟨some q.src, max s.now t⟩) h (by decide) (by decide) named rfl (goes.trans ?_)
    unfold semAcquire
    dsimp only
    rw [owner, free]
    rfl
  · refine (completes_answered (st := stOK) (data := [1]) h (by decide) (by decide) rfl (goes.trans ?_)).imp fun u a => ⟨a.served, a.cells⟩
    unfold semAcquire
    dsimp only
    rw [owner, own]
    exact if_pos rfl
  · refine (completes_answered (st := stSEM_BUSY) (data := []) h (by decide) (by decide) rfl (goes.trans ?_)).imp fun u a => ⟨a.served, a.cells⟩
    unfold semAcquire
    dsimp only
    rw [owner, held]
    exact if_neg other

theorem completes_semrel (h : TakesRequest s .semrel q t) :
    ((vget s.brg.cells k).owner = some q.src → Completes (.semrel q t) s fun u =>
      Served s u .semrel q stOK [] ∧ vget u.brg.cells k = ⟨none, 0⟩ ∧ ∀ j, j ≠ k → vget u.brg.cells j = vget s.brg.cells j) ∧
    ((vget s.brg.cells k).owner = none → Completes (.semrel q t) s fun u => Served s u .semrel q stLOCK_TIMEOUT [] ∧ u.brg.cells = s.brg.cells) ∧
    (∀ o, (vget s.brg.cells k).owner = some o → o ≠ q.src → Completes (.semrel q t) s fun u =>
      Served s u .semrel q stNOT_OWNER [] ∧ u.brg.cells = s.brg.cells) := by
  let y := takenIn (s.at t) .semrel q []
  have owner : (cellOf y q).owner = (vget s.brg.cells k).owner := by rw [cellOf_eq named]; rfl
  have goes : perform y ⟨.semrel, q⟩ = semRelease y ⟨.semrel, q⟩ := (h.allowed_ []).passes
  refine ⟨fun own => ?_, fun free => ?_, fun o held other => ?_⟩
  · refine completes_cellSet (cell := ⟨none, 0⟩) h (by decide) (by decide) named rfl (goes.trans ?_)
    unfold semRelease
    dsimp only
    rw [owner, own]
    exact if_pos rfl
  · refine (completes_answered (st := stLOCK_TIMEOUT) (data := []) h (by decide) (by decide) rfl (goes.trans ?_)).imp
      fun u a => ⟨a.served, a.cells⟩
    unfold semRelease
    dsimp only
    rw [owner, free]
  · refine (completes_answered (st := stNOT_OWNER) (data := []) h (by decide) (by decide) rfl (goes.trans ?_)).imp fun u a => ⟨a.served, a.cells⟩
    unfold semRelease
    dsimp only
    rw [owner, held]
    exact if_neg other

end

/-! Staged writes (R229-R231). -/

theorem completes_stg (h : TakesRequest s .stg q t) :
    (stgStatus (s.at t) q = stOK → Completes (.stg q t) s fun u =>
      Served s u .stg q stOK [] ∧ u.brg.staged = s.brg.staged ++ [⟨q.src, q.set, q.cycle, q.addr, reqData q, false⟩] ∧ SameMemory s u) ∧
    (∀ st, stgStatus (s.at t) q = st → st ≠ stOK → Completes (.stg q t) s fun u =>
      Served s u .stg q st [] ∧ u.brg.staged = s.brg.staged) := by
  let y := takenIn (s.at t) .stg q []
  let z := y.updBrg fun b => { b with staged := b.staged ++ [⟨q.src, q.set, q.cycle, q.addr, reqData q, false⟩] }
  have goes : perform y ⟨.stg, q⟩ = if stgStatus y q = stOK then targetDone z ⟨.stg, q⟩ stOK [] else
      targetDone y ⟨.stg, q⟩ (stgStatus y q) [] := (h.allowed_ []).passes
  have status : stgStatus y q = stgStatus (s.at t) q := rfl
  refine ⟨fun fine => ?_, fun st bad notOk => ?_⟩
  · have f : Fresh z .stg q s.brg.dups := ⟨rfl, h.fresh⟩
    have row : exec (.stg q t) s = done (targetDone z ⟨.stg, q⟩ stOK []) :=
      (h.performs (by decide) (inboxFull_other (by decide) _)).trans (congrArg done (goes.trans (if_pos (status.trans fine))))
    have a := (answered_targetDone f h.foreign stOK []).settle
    exact completes_done row ⟨a.served, a.staged, byte_congr a.mem⟩
  · refine (completes_answered (st := st) (data := []) h (by decide) (by decide) rfl (goes.trans ?_)).imp fun u a => ⟨?_, a.staged⟩
    · rw [if_neg (by rw [status, bad]; exact notOk), status, bad]
    · have served := a.served
      rwa [ite_self] at served

/-- The staged writes of a set and cycle of the request's source. -/
def ofSet (q : Request) (x : Staged) : Bool := decide (x.src = q.src) && decide (x.set = q.set) && decide (x.cycle = q.cycle)

theorem completes_commit_request (h : TakesRequest s .commit q t) :
    (latchPassed (s.at t) q.cycle = false → Completes (.commit q t) s fun u =>
      u.brg.staged = s.brg.staged.map fun x => if ofSet q x then { x with committed := true } else x) ∧
    (latchPassed (s.at t) q.cycle = true → Completes (.commit q t) s fun u => u.brg.staged = s.brg.staged) := by
  let y := takenIn (s.at t) .commit q []
  let z := targetDone y ⟨.commit, q⟩ stOK []
  let marks (x : Staged) : Staged := if x.src = q.src ∧ x.set = q.set ∧ x.cycle = q.cycle then { x with committed := true } else x
  have f : Fresh y .commit q s.brg.dups := h.freshIn []
  have a : Answered s y z .commit q stOK [] := answered_targetDone f h.foreign stOK []
  have goes : perform y ⟨.commit, q⟩ = if latchPassed y q.cycle then z else z.updBrg fun b => { b with staged := b.staged.map marks } :=
    (h.allowed_ []).passes
  have passed : latchPassed y q.cycle = latchPassed (s.at t) q.cycle := rfl
  have row : exec (.commit q t) s = done (if latchPassed y q.cycle then z else z.updBrg fun b => { b with staged := b.staged.map marks }) :=
    (h.performs (by decide) (inboxFull_other (by decide) _)).trans (congrArg done goes)
  refine ⟨fun early => ?_, fun late => ?_⟩
  · rw [passed, early, if_neg (by decide)] at row
    refine completes_done row ((settle_brg_staged _).trans ((congrArg (List.map marks) a.staged).trans (List.map_congr_left fun x _ => ?_)))
    simp [marks, ofSet, and_assoc]
  · rw [passed, late, if_pos rfl] at row
    exact completes_done row ((settle_brg_staged z).trans a.staged)

theorem completes_abort_request (h : TakesRequest s .abort q t) : Completes (.abort q t) s fun u =>
    u.brg.staged = s.brg.staged.filter fun x => !ofSet q x := by
  let y := takenIn (s.at t) .abort q []
  let z := targetDone y ⟨.abort, q⟩ stOK []
  have f : Fresh y .abort q s.brg.dups := h.freshIn []
  have a : Answered s y z .abort q stOK [] := answered_targetDone f h.foreign stOK []
  have goes : perform y ⟨.abort, q⟩ = z.updBrg fun b => { b with staged := b.staged.filter fun x => !ofSet q x } := (h.allowed_ []).passes
  have row : exec (.abort q t) s = done (z.updBrg fun b => { b with staged := b.staged.filter fun x => !ofSet q x }) :=
    (h.performs (by decide) (inboxFull_other (by decide) _)).trans (congrArg done goes)
  exact completes_done row ((settle_brg_staged _).trans (congrArg (List.filter fun x => !ofSet q x) a.staged))

/-! Signals (R220). -/

theorem completes_sig (h : TakesRequest s .sig q t) :
    (s.brg.inbox.length < 32 → Completes (.sig q t) s fun u =>
      u.brg.inbox = s.brg.inbox ++ [⟨q.src, q.set, wAt q.data 0, wAt q.data 1⟩] ∧ Served s u .sig q stOK []) ∧
    (32 ≤ s.brg.inbox.length → Completes (.sig q t) s fun u => u.brg.inbox = s.brg.inbox ∧ u.brg.waiting = [⟨.sig, q⟩]) := by
  let y := takenIn (s.at t) .sig q []
  let z := targetDone y ⟨.sig, q⟩ stOK []
  let v := z.updBrg fun b => { b with inbox := b.inbox ++ [⟨q.src, q.set, wAt q.data 0, wAt q.data 1⟩] }
  refine ⟨fun room => ?_, fun full => ?_⟩
  · have f : Fresh y .sig q s.brg.dups := h.freshIn []
    have a : Answered s y z .sig q stOK [] := answered_targetDone f h.foreign stOK []
    have fits : inboxFull (s.at t) .sig = false := Bool.and_eq_false_imp.2 fun _ => decide_eq_false (Nat.not_le.2 room)
    have goes : perform y ⟨.sig, q⟩ = v := (h.allowed_ []).passes
    have row : exec (.sig q t) s = done v := (h.performs (by decide) fits).trans (congrArg done goes)
    exact completes_done row ⟨(settle_brg_inbox v).trans (congrArg (· ++ _) a.inbox), (settle_brg_dups v).trans a.served⟩
  · have unlocked : s.brg.lock = none := h.unlocked.resolve_left (by decide)
    have stays : inboxFull (s.at t) .sig = true := Bool.and_eq_true_iff.2 ⟨rfl, decide_eq_true full⟩
    have row : exec (.sig q t) s = done (takenIn (s.at t) .sig q [⟨.sig, q⟩]) := by
      refine (serveRow_takes h (by rw [unlocked]; rfl)).trans ?_
      rw [stays, Bool.or_true]
      rfl
    exact completes_done row ⟨settle_brg_inbox _, settle_brg_waiting _⟩

/-! CANCEL (R212). -/

/-- A CANCEL is served, and the entry it has left of the request it names stands in the filter. -/
theorem completes_cancel_entry {d : DupEntry} (h : TakesRequest s .cancel q t) (other : q.set ≠ q.seq) (key : isKey q.src q.tag q.set d = true)
    (mem : d ∈ (cancelRequest (takenIn (s.at t) .cancel q []) ⟨.cancel, q⟩).brg.dups) : Completes (.cancel q t) s fun u => d ∈ u.brg.dups := by
  let z := cancelRequest (takenIn (s.at t) .cancel q []) ⟨.cancel, q⟩
  have goes : perform (takenIn (s.at t) .cancel q []) ⟨.cancel, q⟩ = targetDone z ⟨.cancel, q⟩ stOK [] := (h.allowed_ []).passes
  have row : exec (.cancel q t) s = done (targetDone z ⟨.cancel, q⟩ stOK []) :=
    (h.performs (by decide) (inboxFull_other (by decide) _)).trans (congrArg done goes)
  have apart : isKey q.src q.tag q.seq d = false := by
    simp only [isKey, Bool.and_eq_true, decide_eq_true_eq] at key
    simp [isKey, key.2, other]
  have dups : (targetDone z ⟨.cancel, q⟩ stOK []).brg.dups = z.brg.dups.map fun x => if isKey q.src q.tag q.seq x then
      { x with done := true, response := none } else x := rfl
  refine completes_done row ?_
  rw [settle_brg_dups, dups]
  exact List.mem_map.2 ⟨d, mem, if_neg (by rw [apart]; decide)⟩

theorem cancelRequest_named {x : State} {d : DupEntry} (alone : x.brg.waiting = []) (found : dupFind x q.src q.tag q.set = some d)
    (open_ : d.done = false) : (cancelRequest x ⟨.cancel, q⟩).brg.dups =
      x.brg.dups.map fun d => if isKey q.src q.tag q.set d then { d with cancelled := true } else d := by
  unfold cancelRequest
  dsimp only
  rw [alone]
  dsimp only [List.find?_nil]
  rw [found]
  dsimp only
  rw [open_]
  rfl

theorem cancelRequest_unknown {x : State} (alone : x.brg.waiting = []) (unknown : dupFind x q.src q.tag q.set = none) :
    cancelRequest x ⟨.cancel, q⟩ = dupAdd x ⟨q.src, q.tag, q.set, none, true, true, .reserved⟩ := by
  unfold cancelRequest
  dsimp only
  rw [alone]
  dsimp only [List.find?_nil]
  rw [unknown]

theorem completes_cancel_open {d : DupEntry} (h : TakesRequest s .cancel q t) (other : q.set ≠ q.seq) (mem : d ∈ s.brg.dups)
    (key : isKey q.src q.tag q.set d = true) (one : ∀ d' ∈ s.brg.dups, isKey q.src q.tag q.set d' = true → d' = d) (open_ : d.done = false) :
    Completes (.cancel q t) s fun u => ∃ d' ∈ u.brg.dups, d' = { d with cancelled := true } := by
  let y := takenIn (s.at t) .cancel q []
  have found : dupFind y q.src q.tag q.set = some d := by
    obtain ⟨e, is⟩ := Option.isSome_iff_exists.1 (List.find?_isSome.2 ⟨d, mem, key⟩)
    have same : e = d := one e (List.mem_of_find?_eq_some is) (List.find?_some is)
    refine (List.find?_append ..).trans ?_
    rw [show (s.at t).brg.dups.find? (isKey q.src q.tag q.set) = some e from is, same]
    rfl
  have left := cancelRequest_named (x := y) rfl found open_
  refine (completes_cancel_entry (d := { d with cancelled := true }) h other key ?_).imp fun u mem => ⟨_, mem, rfl⟩
  rw [left]
  exact List.mem_map.2 ⟨d, List.mem_append_left _ mem, if_pos key⟩

theorem completes_cancel_unknown (h : TakesRequest s .cancel q t) (other : q.set ≠ q.seq) (unknown : dupFind s q.src q.tag q.set = none)
    (room : s.brg.dups.length < 511) : Completes (.cancel q t) s fun u => ⟨q.src, q.tag, q.set, none, true, true, .reserved⟩ ∈ u.brg.dups := by
  let y := takenIn (s.at t) .cancel q []
  have apart : isKey q.src q.tag q.set (dupEntry .cancel q none false) = false := by simp [isKey, dupEntry, Ne.symm other]
  have unknownY : dupFind y q.src q.tag q.set = none := by
    refine (List.find?_append ..).trans ?_
    rw [show (s.at t).brg.dups.find? (isKey q.src q.tag q.set) = none from unknown, List.find?_cons_of_neg (by rw [apart]; decide)]
    rfl
  have fits : y.brg.dups.length < 512 := by
    rw [show y.brg.dups = s.brg.dups ++ [dupEntry .cancel q none false] from rfl, List.length_append, List.length_singleton]
    omega
  refine completes_cancel_entry h other (by simp [isKey]) ?_
  rw [cancelRequest_unknown (x := y) rfl unknownY, dupAdd, if_pos fits]
  exact List.mem_append_right _ (List.mem_singleton_self _)

/-! Repeats (R215). -/

/-- A request that has been served before and draws its response again. -/
structure Repeats (s : State) (q : Request) (d : DupEntry) (r : Response) (t : Nat) : Prop where
  bright : s.darkPath = false
  foreign : ownIssuer s q.src = false
  alone : s.brg.waiting = []
  unlocked : s.brg.lock = none
  timely : CellsTimely s t
  found : dupFind s q.src q.tag q.seq = some d
  kept : d.response = some r
  served : d.done = true

/-- The repeat is counted and reported. -/
def countedRepeat (x : State) (q : Request) : State := (x.bump BRG_DUPS).raise Src.duplicateServed q.src.ep

theorem Repeats.row {d : DupEntry} {r : Response} (h : Repeats s q d r t) (op : TxnOp) :
    serveRow op q t s = done (sendResponse (countedRepeat (s.at t) q) q r) := by
  have foreign : ownIssuer (countedRepeat (s.at t) q) q.src = false := by
    unfold ownIssuer State.ringNo countedRepeat
    rw [raise_fab]
    exact h.foreign
  have received : receiveRequest sendResponse (s.at t) ⟨op, q⟩ = sendResponse (countedRepeat (s.at t) q) q r := by
    unfold receiveRequest
    dsimp only
    rw [show dupFind (s.at t) q.src q.tag q.seq = some d from h.found]
    dsimp only
    unfold duplicateOf
    dsimp only
    rw [h.kept]
    dsimp only
    rw [h.served]
    rfl
  have waiting : (sendResponse (countedRepeat (s.at t) q) q r).brg.waiting = [] := by
    rw [(sentAway_sendResponse foreign r).brg, countedRepeat, raise_brg]
    exact h.alone
  have lock : (s.at t).brg.lock.any (fun l => decide (l.since + 50 * usT ≤ (s.at t).now)) = false := by
    rw [show (s.at t).brg.lock = none from h.unlocked]; rfl
  have timely : limitsFirst (s.at t) = s.at t := limitsFirst_timely lock h.timely
  have entered : (if (s.at t).brg.waiting.contains ⟨op, q⟩ then s.at t else receiveRequest sendResponse (s.at t) ⟨op, q⟩) =
      sendResponse (countedRepeat (s.at t) q) q r :=
    (if_neg (by rw [show (s.at t).brg.waiting = [] from h.alone]; simp)).trans received
  have served : serve (s.at t) ⟨op, q⟩ = sendResponse (countedRepeat (s.at t) q) q r := by
    unfold serve
    dsimp only
    rw [timely, entered, waiting]
    rfl
  unfold serveRow
  dsimp only
  rw [if_neg (by rw [show ownIssuer (s.at t) q.src = false from h.foreign]; decide), delivered_of_bright (s := s.at t) h.bright, served]

theorem Repeats.completes {d : DupEntry} {r : Response} {c : Instr} (h : Repeats s q d r t) (is : exec c s = serveRow op q t s) :
    Completes c s fun u =>
      u.reg BRG_DUPS = bumpW (s.reg BRG_DUPS) 1 ∧ SameMemory s u ∧ { u.brg with fwdSeen := s.brg.fwdSeen } = s.brg ∧
      (s.fab.node ≠ 0 → RingsUp s → q.cls < 4 → q.src.ring = s.ringNo → q.src.node < 4000 → s.ringNo < 16 →
        ResponseQueued s u q r.status r.data) := by
  obtain ⟨y, isY⟩ : ∃ y, y = countedRepeat (s.at t) q := ⟨_, rfl⟩
  have row := is.trans (h.row op)
  rw [← isY] at row
  have fab : y.fab = s.fab := by rw [isY]; exact raise_fab _ _ _
  have sw : y.sw = s.sw := by rw [isY]; exact raise_sw _ _ _
  have brg : y.brg = s.brg := by rw [isY]; exact raise_brg _ _ _
  have mem : y.mem = s.mem := by rw [isY]; exact raise_mem _ _ _
  have links : y.links = s.links := by rw [isY]; exact raise_links _ _ _
  have counted : y.reg BRG_DUPS = bumpW (s.reg BRG_DUPS) 1 := by
    rw [isY, countedRepeat, reg_congr (raise_regs _ _ _), reg_bump_self]; rfl
  have foreign : ownIssuer y q.src = false := by
    unfold ownIssuer State.ringNo
    rw [fab]
    exact h.foreign
  have away := sentAway_sendResponse foreign r
  refine completes_done row ⟨?_, sameMemory_settle ?_, ?_, fun _ up small here single ring => ?_⟩
  · rw [reg_settle_of_not_closing _ _ (by decide)]
    exact (away.regs BRG_DUPS 0 (by decide) (by decide)).trans counted
  · rw [away.hub]
    exact mem
  · rw [settle_brg, away.brg, brg]
  · exact responseQueued_settle sw fab ((SameRoads.mk links (by rw [sw]) (by rw [sw])).up up) h.foreign small here single ring r

/-- Settles O24: a request performed at its target, and a repeat of it. -/
theorem requestsServed : Obligations.RequestsServed := by
  unfold Obligations.RequestsServed
  refine ⟨fun q t s => ⟨⟨fun h inPublish => completes_rd h inPublish, fun h inPublish allows => ?_, fun h inPublish allows => ?_,
    fun h inPublish allows => ?_, fun h inPublish on => completes_lrd h inPublish on,
    fun since h inPublish on allows locked early idle => completes_lwr h inPublish on allows locked early idle,
    fun h off => completes_lrd_off h off⟩, fun k named h => completes_semacq named h, fun k named h => completes_semrel named h,
    fun h => completes_stg h, ⟨fun h => completes_commit_request h, fun h => completes_abort_request h⟩, fun h => completes_sig h,
    fun h other => ⟨fun d mem key one open_ => completes_cancel_open h other mem key one open_,
      fun unknown room => completes_cancel_unknown h other unknown room⟩⟩,
    fun q d r t s bright foreign alone unlocked timely found kept served c mem => ?_⟩
  · exact (completes_write h inPublish allows (fun y a => a.passes) (by decide) (by decide) rfl).imp fun u ⟨served, stored, _⟩ => ⟨served, stored⟩
  · exact (completes_write h inPublish allows (fun y a => a.passes) (by decide) (by decide) rfl).imp
      fun u ⟨served, stored, quiet⟩ => ⟨served, stored, quiet rfl⟩
  · exact (completes_write h inPublish allows (fun y a => a.passes) (by decide) (by decide) rfl).imp fun u ⟨served, stored, _⟩ => ⟨served, stored⟩
  · have again : Repeats s q d r t := ⟨bright, foreign, alone, unlocked, timely, found, kept, served⟩
    have rows : ∀ c ∈ [Instr.rd q t, .wr q t, .gwr q t, .lrd q t, .lwr q t, .semacq q t, .semrel q t, .stg q t],
        ∃ op, exec c s = serveRow op q t s := by
      simp only [List.forall_mem_cons]
      exact ⟨⟨.rd, rfl⟩, ⟨.wr, rfl⟩, ⟨.gwr, rfl⟩, ⟨.lrd, rfl⟩, ⟨.lwr, rfl⟩, ⟨.semacq, rfl⟩, ⟨.semrel, rfl⟩, ⟨.stg, rfl⟩,
        fun _ none_ => nomatch none_⟩
    obtain ⟨op, is⟩ := rows c mem
    exact again.completes is

end Sys2Proof.Machine
end

section
set_option Elab.async false
/-! SUPPORT. The fate of a frame whose header reaches the node (R144, R145, R148, R150), and the obligation about it. -/

namespace Sys2Proof.Machine

variable {s : State} {r : Ring} {f : Frame} {t : Nat}

/-! REF and PASS leave the class of a frame as it is. -/

/-- Clearing bits below CLASS. -/
theorem cls_cleared (w : Word) {mask : Word} (high : mask.toNat >>> 14 = 3) (i : Nat) :
    fld ((w &&& mask) ||| bitW false i) 15 14 = fld w 15 14 := by
  have clear : bitW false i = 0#16 := congrArg wd (Nat.zero_shiftLeft i)
  unfold fld
  rw [clear, BitVec.or_zero, BitVec.toNat_and, Nat.shiftRight_and_distrib, high, show 3 = 2 ^ 2 - 1 from rfl,
    Nat.and_two_pow_sub_one_eq_mod, Nat.mod_mod]

theorem cls_unmarked (f : Frame) : ((f.setRef false).setPass false).cls = f.cls :=
  (cls_cleared _ (by decide) 12).trans (cls_cleared _ (by decide) 11)

/-- A frame that passes by itself at a node which neither has sent it nor prompts. -/
structure FrameComes (s : State) (r : Ring) (f : Frame) : Prop where
  carries : (s.link r.inPort).state.carries = true
  open_ : (s.stream r).open_ = true
  boundary : (s.stream r).frame = none
  bright : s.darkPath = false
  follows : s.prompting = false
  checked : f.crcOk = true
  length : f.payload.length = f.len
  headed : badHeader f = false
  foreign : isOwn s r f = false

theorem frameFate_comes (h : FrameComes s r f) : frameFate s r f false =
    if !isDest s f || isRepeat s r f then startPassing s r (passingOf f f (stripsHere s f)) false
    else if canTake s r f then startPassing (frameDeliver s r f) r (passingOf f f (stripsHere s f)) false
    else startPassing ((s.bump SWQ_REFSET).raise Src.frameRefSet (ringPort r).val) r (passingOf f (f.setRef true) false) false := by
  unfold frameFate
  simp only [h.follows, h.headed, h.foreign, Bool.false_and, Bool.false_eq_true, if_false, Bool.not_false, Bool.and_true,
    Bool.false_or, Bool.or_false]

theorem frameHeader_comes (h : FrameComes s r f) : frameHeader s r f false = frameFate s r f false := by
  have whole : ({ f with crcOk := f.crcOk && decide (f.payload.length = f.len) } : Frame) = f := by
    rw [h.length, decide_eq_true rfl, Bool.and_true]
  unfold frameHeader
  simp only [whole, h.carries, h.open_, h.boundary, h.bright, Option.isNone_none, Bool.not_true, Bool.or_self, Bool.false_eq_true,
    if_false]

theorem startPassing_sw (s : State) (r : Ring) (p : Passing) (interjected : Bool) : (startPassing s r p interjected).sw = s.sw := rfl

/-! What is done with a frame of each fate. -/

/-- A frame of which the node is no destination (R148). -/
theorem completes_frameHeader_away (h : FrameComes s r f) (away : isDest s f = false) :
    Completes (.frameHeader r f false t) s fun u =>
      (u.stream r).frame = some (passingOf f f false) ∧ u.sw = s.sw ∧ SameRegs s u [] := by
  have here : FrameComes (s.at t) r f := ⟨h.carries, h.open_, h.boundary, h.bright, h.follows, h.checked, h.length, h.headed, h.foreign⟩
  have goes : isDest (s.at t) f = false := away
  have stays : stripsHere (s.at t) f = false := by rw [stripsHere, goes, Bool.false_and]
  have row : exec (.frameHeader r f false t) s = done (startPassing (s.at t) r (passingOf f f false) false) := by
    refine congrArg done ((frameHeader_comes here).trans ((frameFate_comes here).trans ?_))
    rw [goes, stays]
    rfl
  refine completes_done row ⟨?_, settle_sw _, sameRegs_settle rfl⟩
  rw [settle_stream, startPassing, stream_updStream_self]
  rfl

/-- A frame for which the node has no room (R150). -/
theorem completes_frameHeader_refused (h : FrameComes s r f) (dest : isDest s f = true) (fresh : isRepeat s r f = false)
    (full : canTake s r f = false) : Completes (.frameHeader r f false t) s fun u =>
      (u.stream r).frame = some (passingOf f (f.setRef true) false) ∧ u.sw = s.sw ∧
      u.reg SWQ_REFSET = bumpW (s.reg SWQ_REFSET) 1 ∧ SameRegs s u [SWQ_REFSET] := by
  have here : FrameComes (s.at t) r f := ⟨h.carries, h.open_, h.boundary, h.bright, h.follows, h.checked, h.length, h.headed, h.foreign⟩
  have row : exec (.frameHeader r f false t) s = done (startPassing (((s.at t).bump SWQ_REFSET).raise Src.frameRefSet (ringPort r).val) r
      (passingOf f (f.setRef true) false) false) := by
    refine congrArg done ((frameHeader_comes here).trans ((frameFate_comes here).trans ?_))
    rw [show isDest (s.at t) f = true from dest, show isRepeat (s.at t) r f = false from fresh,
      show canTake (s.at t) r f = false from full]
    rfl
  refine completes_done row ⟨?_, (settle_sw _).trans (raise_sw _ _ _), ?_, ?_⟩
  · rw [settle_stream, startPassing, stream_updStream_self]
    rfl
  · rw [reg_settle_of_not_closing _ _ (by decide), startPassing, reg_congr (updStream_regs _ _ _), reg_congr (raise_regs _ _ _), reg_bump_self]
    rfl
  · exact ((((KeepsRegs.of_regs (x := s.at t) rfl _).bump List.mem_cons_self).trans (.of_regs (raise_regs _ _ _) _)).trans
      (.of_regs (updStream_regs _ _ _) _)).settle

/-- What a node keeps of a frame it has delivered (R148). -/
def deliveryKept (s : State) (r : Ring) (f : Frame) : State :=
  s.updStream r fun x =>
    { x with delivered := (x.delivered.filter fun d => decide ((s.present - d.cycle).toNat ≤ 8)) ++
        [⟨f.snode, f.tag, f.plainCrc, s.present⟩] }

/-- A frame that the switch has room for (R144, R145, R148). -/
theorem frameDeliver_joins {p : Fin 20} (checked : f.crcOk = true) (port : deliverPort s f = some p)
    (calm : hubArmed s Src.frameCrc = none) (unsampled : s.reg SWQ_SMP_N = 0) (open_ : portOff s p = false)
    (short : f.cls = 0 → f.payload.length ≤ 32) : frameDeliver s r f =
      enqueue (deliveryKept s r f) p ⟨(f.setRef false).setPass false, (ringPort r).val, s.now, 0, none, 0⟩ false := by
  have plain : sample (deliveryKept s r f) false (ringPort r) f = deliveryKept s r f :=
    if_pos (.inl (by rw [show (deliveryKept s r f).reg SWQ_SMP_N = 0 from unsampled]; rfl))
  have fits : ¬ (((f.setRef false).setPass false).cls = 0 ∧ f.payload.length > 32) := fun ⟨urgent, long⟩ =>
    absurd (short ((cls_unmarked f).symm.trans urgent)) (by omega)
  unfold frameDeliver
  rw [hubCheck_none calm]
  simp only [checked, port, Option.isSome_none, Bool.not_true, Bool.or_self, Bool.false_eq_true, if_false]
  exact (congrArg (fun x => submit x p _) plain).trans (submit_of_open fits open_)

theorem completes_frameHeader_delivered {p : Fin 20} (h : FrameComes s r f) (dest : isDest s f = true) (fresh : isRepeat s r f = false)
    (room : canTake s r f = true) (port : deliverPort s f = some p) (calm : hubArmed s Src.frameCrc = none)
    (unsampled : s.reg SWQ_SMP_N = 0) (open_ : portOff s p = false) (short : f.cls = 0 → f.payload.length ≤ 32) :
    Completes (.frameHeader r f false t) s fun u =>
      (u.stream r).frame = some (passingOf f f (stripsHere s f)) ∧
      u.queue p f.cls = s.queue p f.cls ++ [⟨(f.setRef false).setPass false, (ringPort r).val, max s.now t, 0, none, 0⟩] := by
  have here : FrameComes (s.at t) r f := ⟨h.carries, h.open_, h.boundary, h.bright, h.follows, h.checked, h.length, h.headed, h.foreign⟩
  have joins := frameDeliver_joins (s := s.at t) (r := r) h.checked port calm unsampled open_ short
  have row : exec (.frameHeader r f false t) s = done (startPassing (frameDeliver (s.at t) r f) r (passingOf f f (stripsHere s f)) false) := by
    refine congrArg done ((frameHeader_comes here).trans ((frameFate_comes here).trans ?_))
    rw [show isDest (s.at t) f = true from dest, show isRepeat (s.at t) r f = false from fresh,
      show canTake (s.at t) r f = true from room]
    rfl
  rw [joins] at row
  refine completes_done row ⟨?_, ?_⟩
  · rw [settle_stream, startPassing, stream_updStream_self]
    rfl
  · rw [queue_congr (settle_sw _), queue_congr (startPassing_sw _ _ _ _), queue_congr (enqueue_sw _ _ _ _), queue_updQueue,
      if_pos ⟨rfl, by rw [cls_unmarked]⟩, cls_unmarked]
    rfl

/-- Settles O19, by the fates of a frame that passes by itself. -/
theorem framesPassAndDeliver : Obligations.FramesPassAndDeliver := by
  unfold Obligations.FramesPassAndDeliver
  intro r f t s carries open_ boundary _ bright follows checked length headed foreign
  have h : FrameComes s r f := ⟨carries, open_, boundary, bright, follows, checked, length, headed, foreign⟩
  exact ⟨completes_frameHeader_away h, fun dest fresh => ⟨completes_frameHeader_refused h dest fresh,
    fun p room port calm unsampled portOpen short =>
      completes_frameHeader_delivered h dest fresh room port calm unsampled portOpen short⟩⟩

end Sys2Proof.Machine
end

section
set_option Elab.async false
/-! SUPPORT. The node's own frames as they start on a ring (R142, R153, R154, R156), and the obligation about their insertion. -/

namespace Sys2Proof.Machine

variable {s : State} {r : Ring} {p : Fin 20} {e : QEntry} {rest : List QEntry} {ws : List RingWord} {t : Nat} {core : Core}

/-! Heads of queues that have not aged (R168). -/

theorem updQueue_same (s : State) (p : Fin 20) (c : Nat) : s.updQueue p c (fun _ => s.queue p c) = s := by
  have same : vupd s.sw.queues (queueIx p c) (fun _ => s.queue p c) = s.sw.queues := vset_vget _ _
  exact congrArg (fun v => { s with sw := { s.sw with queues := v } }) same

theorem takeWhile_head {α : Type} {l : List α} {q : α → Bool} (h : ∀ x ∈ l.take 1, q x = false) : l.takeWhile q = [] := by
  cases l with
  | nil => rfl
  | cons a l => rw [List.takeWhile_cons, h a List.mem_cons_self]; rfl

theorem dropAged_timely (h : ∀ c : Fin 4, ∀ x ∈ (s.queue p c.val).take 1, aged s x = false) : dropAged s p = recut s := by
  have timely (c : Nat) : (s.queue p c).takeWhile (aged s) = [] :=
    takeWhile_head (by rw [← queue_mod s p c]; exact h ⟨c % 4, by omega⟩)
  unfold dropAged
  refine congrArg recut (each_id (fun c => ?_) _)
  dsimp only
  rw [timely c]
  exact updQueue_same s p c

/-! What a frame leaves as it leaves its queue. -/

theorem words_length (f : Frame) : f.words.length = f.size := by
  simp only [Frame.words, Frame.body, Frame.size, toWords_two, List.length_append, List.length_cons, List.length_nil]
  omega

theorem wordsOn_length (r : Ring) (e : QEntry) : (wordsOn r e).length = e.frame.size := by
  rw [wordsOn, List.length_map, words_length]
  rfl

theorem issueOnly_releaseSigs (s : State) (i : Fin 32) : IssueOnly s (releaseSigs s i) := by
  unfold releaseSigs
  extract_lets e go y
  exact (IssueOnly.refl s).ite ((issueOnly_updBrg s rfl rfl).trans (issueOnly_each (fun _ _ => issueOnly_issueNow _ _ _ _) _ _))

theorem hubOnly_releaseSigs (s : State) (i : Fin 32) : HubOnly s (releaseSigs s i) := by
  unfold releaseSigs
  extract_lets e go y
  split
  · exact .refl s
  · exact (hubOnly_updBrg s _).trans (hubOnly_each (fun _ _ => hubOnly_issueNow _ _ _ _) _ _)

theorem issueOnly_updSw (s : State) (f : SwitchState → SwitchState) : IssueOnly s (s.updSw f) := .of_same rfl rfl rfl

theorem popQueue_keeps (s : State) (p : Fin 20) (e : QEntry) : HubOnly s (popQueue s p e) ∧ IssueOnly s (popQueue s p e) := by
  unfold popQueue noteShare State.updQueue recut
  extract_lets both next
  exact ⟨((hubOnly_updSw s _).trans (hubOnly_updSw _ _)).trans (hubOnly_updSw _ _),
    ((issueOnly_updSw s _).trans (issueOnly_updSw _ _)).trans (issueOnly_updSw _ _)⟩

theorem leftQueue_keeps (s : State) (r : Ring) (e : QEntry) : HubOnly s (leftQueue s r e) ∧ IssueOnly s (leftQueue s r e) := by
  unfold leftQueue
  extract_lets y ep mine z note
  obtain ⟨hubY, regsY⟩ : HubOnly s y ∧ IssueOnly s y := popQueue_keeps s _ e
  have hub : HubOnly s z := hubY.trans (hubOnly_updSw y _)
  have regs : IssueOnly s z := regsY.trans (issueOnly_updSw y _)
  split
  · exact ⟨hub, regs⟩
  · split
    · exact ⟨hub, regs⟩
    · split
      · exact ⟨((hub.trans (hubOnly_postedGone z _ _)).trans (hubOnly_updBrg _ _)).trans (hubOnly_releaseSigs _ _),
          ((regs.trans (issueOnly_postedGone z _ _)).trans (issueOnly_updBrg _ rfl rfl)).trans (issueOnly_releaseSigs _ _)⟩
      · exact ⟨hub, regs⟩

theorem leftQueue_streams (s : State) (r : Ring) (e : QEntry) : (leftQueue s r e).streams = s.streams := by
  rw [(leftQueue_keeps s r e).1]

theorem leftQueue_reg {a : Nat} (s : State) (r : Ring) (e : QEntry) (other : a ∉ issueRegs) : (leftQueue s r e).reg a = s.reg a :=
  (leftQueue_keeps s r e).2.keeps a 0 (by decide) other

/-- A frame that belongs to no request leaves its queue to those behind it. -/
theorem leftQueue_queue (plain : e.origin = none) (head : s.queue (ringPort r) e.frame.cls = e :: rest) :
    (leftQueue s r e).queue (ringPort r) e.frame.cls = rest := by
  have popped : (leftQueue s r e).queue (ringPort r) e.frame.cls =
      ((noteShare s (ringPort r) e.frame.cls e.frame.size).updQueue (ringPort r) e.frame.cls fun q => q.drop 1).queue (ringPort r) e.frame.cls := by
    unfold leftQueue
    rw [plain]
    rfl
  rw [popped, queue_updQueue, if_pos ⟨rfl, rfl⟩]
  exact congrArg (List.drop 1) head

/-! A frame starts (R153, R154, R156). -/

theorem charge_within {cls n : Nat} (fits : (s.stream r).used + n ≤ allowance s r) :
    ((charge s r cls n).stream r).used = (s.stream r).used + n := by
  unfold charge
  rw [stream_updStream_self, if_pos (.inl fits)]

theorem charge_sending (s : State) (r : Ring) (cls n : Nat) : ((charge s r cls n).stream r).sending = (s.stream r).sending := by
  unfold charge
  rw [stream_updStream_self]
  split <;> rfl

theorem eccCheck_sound (corrected : hubArmed s Src.switchEccCorrected = none) (fatal : hubArmed s Src.switchEccFatal = none) :
    eccCheck s p e false false = (some e, s) := by
  unfold eccCheck eccCount
  rw [hubCheck_none corrected]
  dsimp only
  rw [hubCheck_none fatal]
  rfl

/-- The head of a queue of a ring port that may start with these words. -/
structure MayStart (s : State) (r : Ring) (e : QEntry) (rest : List QEntry) (ws : List RingWord) : Prop where
  head : s.queue (ringPort r) e.frame.cls = e :: rest
  opened : guardShut s = false
  numbered : s.fab.node ≠ 0
  admits : mayStart s r e.frame.cls ws.length = true
  corrected : hubArmed s Src.switchEccCorrected = none
  fatal : hubArmed s Src.switchEccFatal = none
  unsampled : s.reg SWQ_SMP_N = 0
  idle : (s.stream r).sending = []

/-- A state in which a frame is set to leave. -/
structure Starts (s u : State) (r : Ring) (e : QEntry) (rest : List QEntry) (ws : List RingWord) : Prop where
  sending : (u.stream r).sending = [⟨e, ws⟩]
  popped : e.origin = none → u.queue (ringPort r) e.frame.cls = rest
  counted : (s.stream r).used + ws.length ≤ allowance s r → (u.stream r).used = (s.stream r).used + ws.length

theorem startOwn_eq (h : MayStart s r e rest ws) : startOwn s r core e ws false false =
    sendOwn (charge (leftQueue s r e) r e.frame.cls ws.length) r e ws := by
  have numbered : mayInsert s e.frame = true := by rw [mayInsert, decide_eq_true h.numbered, Bool.true_or]
  have plain : sample (charge (leftQueue s r e) r e.frame.cls ws.length) true (ringPort r) (e.frame.setRing (decide (r = .b))) =
      charge (leftQueue s r e) r e.frame.cls ws.length := by
    have off : (charge (leftQueue s r e) r e.frame.cls ws.length).reg SWQ_SMP_N = 0 :=
      (leftQueue_reg s r e (by decide)).trans h.unsampled
    exact if_pos (.inl (by rw [off]; rfl))
  unfold startOwn
  extract_lets p
  rw [h.opened, numbered, h.admits, eccCheck_sound h.corrected h.fatal]
  exact congrArg (fun x => sendOwn x r e ws) plain

theorem startOwn_leaves (h : MayStart s r e rest ws) : Starts s (startOwn s r core e ws false false) r e rest ws := by
  have stream : (leftQueue s r e).stream r = s.stream r := stream_congr (leftQueue_streams s r e) r
  have limit : allowance (leftQueue s r e) r = allowance s r := by
    cases r <;> exact congrArg BitVec.toNat (leftQueue_reg s _ e (by decide))
  rw [startOwn_eq h]
  refine ⟨?_, fun plain => leftQueue_queue plain h.head, fun fits => ?_⟩
  · rw [sendOwn, stream_updStream_self, charge_sending, stream, h.idle]
  · rw [sendOwn, stream_updStream_self, charge_within (by rw [stream, limit]; exact fits), stream]

/-! The rows (R153, R156). -/

/-- An own frame at the head of a queue of a ring port whose stream passes through, with no other leaving. -/
structure OwnReady (s : State) (r : Ring) (core : Core) (e : QEntry) (rest : List QEntry) : Prop where
  inserts : inserter s = some core
  head : s.queue (ringPort r) e.frame.cls = e :: rest
  portOpen : portOff s (ringPort r) = false
  timely : ∀ c : Fin 4, ∀ x ∈ (s.queue (ringPort r) c.val).take 1, aged s x = false
  follows : drives s r = false
  open_ : (s.stream r).open_ = true
  going : (s.stream r).ended = false
  store : (s.stream r).store = []
  idle : (s.stream r).sending = []
  opened : guardShut s = false
  numbered : s.fab.node ≠ 0
  corrected : hubArmed s Src.switchEccCorrected = none
  fatal : hubArmed s Src.switchEccFatal = none
  unsampled : s.reg SWQ_SMP_N = 0

theorem recut_eq (s : State) : ∃ w : SwitchState, recut s = { s with sw := w } ∧ w.queues = s.sw.queues ∧ w.share = s.sw.share ∧
    w.down = s.sw.down ∧ w.faultHeld = s.sw.faultHeld := ⟨_, rfl, rfl, rfl, rfl, rfl⟩

/-- The cut quotas that show are no matter to what starts. -/
theorem OwnReady.recut (h : OwnReady s r core e rest) : OwnReady (recut s) r core e rest := by
  obtain ⟨w, is, queues, share, down, held⟩ := recut_eq s
  have queue (p : Fin 20) (c : Nat) : ({ s with sw := w } : State).queue p c = s.queue p c := by
    change vget w.queues _ = _
    rw [queues]
    rfl
  have off : portOff { s with sw := w } (ringPort r) = portOff s (ringPort r) := by
    unfold portOff
    dsimp only
    rw [down, held]
    rfl
  rw [is]
  exact ⟨h.inserts, (queue _ _).trans h.head, off.trans h.portOpen, fun c x mem => h.timely c x (by rw [← queue]; exact mem), h.follows,
    h.open_, h.going, h.store, h.idle, h.opened, h.numbered, h.corrected, h.fatal, h.unsampled⟩

theorem recut_reads (s : State) (r : Ring) : (recut s).stream r = s.stream r ∧ serveClass (recut s) (ringPort r) = serveClass s (ringPort r) ∧
    (∀ cls n, mayStart (recut s) r cls n = mayStart s r cls n) ∧ allowance (recut s) r = allowance s r := by
  obtain ⟨w, is, queues, share, down, held⟩ := recut_eq s
  have queue (p : Fin 20) (c : Nat) : ({ s with sw := w } : State).queue p c = s.queue p c := by
    change vget w.queues _ = _
    rw [queues]
    rfl
  rw [is]
  refine ⟨rfl, ?_, fun _ _ => rfl, rfl⟩
  unfold serveClass
  simp only [queue, share]

section
variable (h : OwnReady s r core e rest)
include h

/-- Nothing is due before the frame. -/
theorem OwnReady.prepared : dropAged (readyOut s r) (ringPort r) = Machine.recut s := by
  have still : readyOut s r = s := by
    unfold readyOut
    rw [h.follows]
    rfl
  rw [still, dropAged_timely h.timely]

theorem OwnReady.eventOpen : eventOpen s r = true := by
  have follows : generates s r = false := by
    have driven := h.follows
    unfold drives at driven
    unfold generates
    generalize s.prompting = a at driven ⊢
    generalize (s.lineOf r).head = b at driven ⊢
    generalize (s.lineOf r).started = c at driven ⊢
    generalize (s.trackOf r).seen = d at driven
    revert a b c d
    decide
  have span : eventSpan s r = some (0, s.now + wordT) := by
    unfold eventSpan
    rw [follows, h.open_, h.going]
    rfl
  have soon : s.now < s.now + wordT := Nat.lt_add_of_pos_right (by decide)
  unfold Machine.eventOpen
  rw [span]
  exact (congrArg₂ (· && ·) (decide_eq_true (Nat.zero_le _)) (decide_eq_true soon)).trans rfl

theorem OwnReady.mayStart (admits : mayStart s r e.frame.cls ws.length = true) : MayStart s r e rest ws :=
  ⟨h.head, h.opened, h.numbered, admits, h.corrected, h.fatal, h.unsampled, h.idle⟩

theorem OwnReady.boundaryClass : boundaryClass (s.stream r) = (s.stream r).inside := by
  unfold Machine.boundaryClass
  rw [h.idle]

end

section
variable {y : State} (h : OwnReady y r core e rest) (prepared : dropAged (readyOut s r) (ringPort r) = y)
include h prepared

theorem frameInsert_own (serves : serveClass y (ringPort r) = some e.frame.cls) (boundary : frameMayStart (y.stream r) = true) :
    frameInsert s r false false = startOwn y r core e (wordsOn r e) false false := by
  unfold frameInsert
  dsimp only
  rw [prepared]
  simp only [h.idle, boundary, h.eventOpen, serves, h.inserts, h.head, h.portOpen, List.isEmpty_nil, Bool.not_true, Bool.or_self,
    Bool.false_eq_true, if_false]

theorem interject_own (urgent : e.frame.cls = 0) (room : (y.stream r).buffer.length + 40 ≤ 1024) :
    ((y.stream r).inside = none → interject s r false false = startOwn y r core e (wordsOn r e) false false) ∧
    ((y.stream r).inside ≠ some 0 → (y.stream r).inside.isSome = true → interject s r false false =
      startOwn y r core e ([RingWord.ieOpen] ++ wordsOn r e ++ [RingWord.ieClose]) false false) := by
  have fits : decide ((y.stream r).buffer.length + 40 > 1024) = false := decide_eq_false (by omega)
  have head : y.queue (ringPort r) 0 = e :: rest := urgent ▸ h.head
  unfold interject
  dsimp only
  rw [prepared]
  simp only [h.store, fits, h.eventOpen, head, h.inserts, h.portOpen, h.boundaryClass, List.isEmpty_nil, Bool.not_true, Bool.or_self,
    Bool.false_eq_true, if_false]
  refine ⟨fun outside => by rw [outside], fun lower inside => ?_⟩
  obtain ⟨c, is⟩ := Option.isSome_iff_exists.mp inside
  rw [is] at lower ⊢
  cases c with
  | zero => exact absurd rfl lower
  | succ c => rfl

end

/-- What starts in a row stands in the state after it. -/
theorem Starts.settled {u : State} (h : Starts (recut s) u r e rest ws) : Starts s (settle u) r e rest ws := by
  obtain ⟨stream, -, -, limit⟩ := recut_reads s r
  refine ⟨(congrArg EventStream.sending (settle_stream u r)).trans h.sending,
    fun plain => (queue_congr (settle_sw u) _ _).trans (h.popped plain), fun fits => ?_⟩
  rw [← stream, ← limit] at fits
  rw [settle_stream, h.counted fits, stream]

theorem completes_frameInsert (h : OwnReady (s.at t) r core e rest) (serves : serveClass s (ringPort r) = some e.frame.cls)
    (boundary : frameMayStart (s.stream r) = true) (admits : mayStart s r e.frame.cls e.frame.size = true) :
    Completes (.frameInsert r false false t) s fun u => Starts (s.at t) u r e rest (wordsOn r e) := by
  obtain ⟨stream, serve, start, -⟩ := recut_reads (s.at t) r
  have row : exec (.frameInsert r false false t) s = done (startOwn (recut (s.at t)) r core e (wordsOn r e) false false) :=
    congrArg done (frameInsert_own h.recut h.prepared (serve.trans serves) (by rw [stream]; exact boundary))
  have may : MayStart (recut (s.at t)) r e rest (wordsOn r e) := h.recut.mayStart (by rw [start, wordsOn_length]; exact admits)
  exact completes_done row (startOwn_leaves may).settled

/-- An interjection, or an own frame where nothing passes. -/
theorem completes_interject (h : OwnReady (s.at t) r core e rest) (starts : interject (s.at t) r false false =
      startOwn (recut (s.at t)) r core e ws false false) (admits : mayStart s r e.frame.cls ws.length = true) :
    Completes (.interject r false false t) s fun u => Starts (s.at t) u r e rest ws := by
  obtain ⟨-, -, start, -⟩ := recut_reads (s.at t) r
  have row : exec (.interject r false false t) s = done (startOwn (recut (s.at t)) r core e ws false false) := congrArg done starts
  exact completes_done row (startOwn_leaves (h.recut.mayStart ((start _ _).trans admits))).settled

/-- Settles O20, by what a frame leaves that starts at a frame boundary or inside another. -/
theorem framesInsert : Obligations.FramesInsert := by
  unfold Obligations.FramesInsert
  intro r e rest cls t core s inserts head classed portOpen timely unsampled numbered opened follows open_ going store idle corrected fatal
  subst classed
  have h : OwnReady (s.at t) r core e rest := ⟨inserts, head, portOpen, timely, follows, open_, going, store, idle, opened, numbered,
    corrected, fatal, unsampled⟩
  have stream := (recut_reads (s.at t) r).1
  have interjected (urgent : e.frame.cls = 0) (room : (s.stream r).buffer.length + 40 ≤ 1024) :=
    interject_own h.recut h.prepared urgent (by rw [stream]; exact room)
  refine ⟨fun serves outside _ buffer admits => ?_, fun urgent lower room => ⟨fun inside admits => ?_, fun outside admits => ?_⟩⟩
  · have boundary : frameMayStart (s.stream r) = true := by
      rw [frameMayStart, outside, buffer, store, idle]
      rfl
    refine (completes_frameInsert h serves boundary admits).imp fun u told => ⟨told.sending, told.popped, fun fits => ?_⟩
    rw [← wordsOn_length r e]
    exact told.counted (by rw [wordsOn_length]; exact fits)
  · have longer : ([RingWord.ieOpen] ++ wordsOn r e ++ [RingWord.ieClose]).length = (wordsOn r e).length + 2 := by
      rw [List.length_append, List.length_append]
      simp only [List.length_cons, List.length_nil]
      omega
    have starts := (interjected urgent room).2 (by rw [stream]; exact lower) (by rw [stream]; exact inside)
    refine (completes_interject h starts (by rw [urgent, longer]; exact admits)).imp
      fun u told => ⟨told.sending, fun plain => ?_⟩
    rw [← urgent]
    exact told.popped plain
  · exact (completes_interject h ((interjected urgent room).1 (by rw [stream]; exact outside)) (by rw [urgent]; exact admits)).imp fun u told => told.sending

end Sys2Proof.Machine
end
